-- ==== Sys2Proof/Syntax.lean ====
section
/-!
DEFINITION. The commands the part takes: one constructor of `Instr` per row of spec/opcode_table.json, with the row's
operands.  An operand is what comes from outside the modelled state: which die, port or entry is concerned, what
arrived on a wire, what an analogue front end measured, and the verdict of a cryptographic check (log entries 1 and 2).
-/
namespace Sys2Proof

/-- The access ports of R446 and R474: the PCIe endpoint, the SPI target, the management cores, Courier, and the image
and ticket executor. -/
inductive APort where
  | pcie | spi | mgmt | courier | exec
  deriving DecidableEq, Repr

/-- Who writes a register (R4, R49). -/
inductive Writer where
  | image | ticket | host
  deriving DecidableEq, Repr

/-- A record of R48; `bad` is a record whose type, reserved bits or length break that rule. -/
inductive Rec where
  | write (addr mask value : Nat)
  | fill (addr mask value count stride : Nat)
  | table (window first words count : Nat) (data : List Nat)
  | waitUs (us : Nat)
  | pollUntil (addr mask value timeoutUs : Nat)
  | proc (id : Nat) (args : List Nat)
  | bad
  deriving DecidableEq, Repr

/-- A ticket as it is fetched from the ring (R59): its words from offset 0 up to the signatures, words not listed being
zero, whether its last byte is zero, and the verdict of both signatures under the key that KEY_INDEX names.  For a mailbox
ticket the words are those of the mailbox. -/
structure Tkt where
  words : List Nat
  tailZero : Bool
  sigOk : Bool
  deriving DecidableEq, Repr

/-- One entry of the read policy (R69). -/
structure PolicyEntry where
  base : Nat
  limit : Nat
  read : Bool
  clear : Bool
  deriving DecidableEq, Repr

/-- What an image slot holds (R40) and how its checks come out (R41 to R43, R318, R320). -/
structure SlotImage where
  magicOk : Bool
  version : Nat
  svn : Nat
  node : Nat
  ticketFloor : Nat
  formatOk : Bool
  keyIdOk : Bool
  signatureOk : Bool
  hashOk : Bool
  enrolment : Bool
  policy : List PolicyEntry
  keyMasks : List Nat
  trust : List Nat
  deriving DecidableEq, Repr

/-- What flash discovery finds in the SFDP table (R38). -/
structure FlashInfo where
  octal : Bool
  erase4k : Bool
  deriving DecidableEq, Repr

/-- A flit that waits to be sent on a Chain port (R14, R17). -/
structure ChainOffer where
  cls : Nat
  dest : Nat
  deriving DecidableEq, Repr

/-- What a laser unit and the tap monitor answer (R92, R93): flags of the unit, its frequency error in MHz and the
laser-input tap level in 0.1 dB. -/
structure LasRead where
  present : Bool
  supported : Bool
  ready : Bool
  tuned : Bool
  fault : Bool
  warn : Bool
  freqErr : Int
  tap : Int
  deriving DecidableEq, Repr

/-- What the calibration memory of an optical engine holds for the transmitter or the receiver (R83, R99). -/
structure OeCal where
  crcOk : Bool
  gain : List Int
  skew : List Int
  xPhase : Int
  yPhase : Int
  fir : List Nat
  deriving DecidableEq, Repr

/-- What the receiver measures in an acquisition step (R116): input power in 0.1 dBm, TIA gain in 0.25 dB, dispersion in
ps/nm, frequency offset in MHz, which output carries X, and NGMI in 1/65,536. -/
structure AcqMeas where
  power : Int
  gain : Nat
  cd : Int
  freq : Int
  swap : Bool
  ngmi : Nat
  deriving DecidableEq, Repr

/-- The measures of one quality window in the formats of R124, and the mean iterations of R141. -/
structure Quality where
  snrEff : Nat
  snrX : Nat
  snrY : Nat
  bits : Nat
  errs : Nat
  berNlog : Nat
  gmi : Nat
  cd : Int
  dgd : Nat
  polPeak : Nat
  freqOff : Int
  linewidth : Nat
  pelGain : Int
  iterMean : Nat
  deriving DecidableEq, Repr

/-- Requests of the APS bytes under ITU-T G.873.1 (R166). -/
inductive ApsReq where
  | lo | sfP | fs | sf | sd | ms | wtr | exer | dnr | nr | other
  deriving DecidableEq, Repr

/-- A container frame as the demapper finds it (R154, R157, R162, R166): on the working (or only) path or the protect
path; whether the FAS is where it is expected, the PSI, whether the seal of the frame verified (always so with
encryption off), GAP_CNT, FRAME_CTR, APS request, signal, bridged signal, D and B, PM BIP-8 bits in error, BEI, BDI,
STAT, the TTI of a multiframe that ended (empty: none ended), JC CRC failures, packets that hold a tagged byte, and for
a Tandem container the arrival difference of the two paths; `clean`: the decoder saw the BIP interval clean (R142). -/
structure CtnFrame where
  protect : Bool
  fas : Bool
  psi : Nat
  verified : Bool
  gapCnt : Nat
  ctr : Nat
  apsReq : ApsReq
  apsSig : Nat
  apsBridged : Nat
  apsD : Bool
  apsB : Bool
  bip : Nat
  bei : Nat
  bdi : Bool
  ais : Bool
  lck : Bool
  oci : Bool
  tti : List Nat
  gmpBad : Bool
  uncorrPkts : Nat
  diffUs : Nat
  protectFirst : Bool
  beforeGuard : Bool
  clean : Bool
  deriving DecidableEq, Repr


/-- The head of a Derailleur control message (R187) and the carrier it arrives on: whether its TAG verifies, SENDER, SEQ
and SHIFT_ID. -/
structure DerMsg where
  on : Nat
  tagOk : Bool
  sender : Nat
  seq : Nat
  shiftId : Nat
  deriving DecidableEq, Repr

/-- An entry of a PROPOSE (R188): the carriers, the two descriptors, and whether MAP_HASH equals the hash of the map that
this part would run on that carrier. -/
structure DerEntry where
  senderCarrier : Nat
  farCarrier : Nat
  txDesc : List Nat
  rxDesc : List Nat
  mapOk : Bool
  deriving DecidableEq, Repr

/-- A line frame period as the aligner and demapper find it (R147 to R149, R162, R163, R191): the bit offsets at which
the FAS pattern stands with no tagged byte, the offsets whose MFAS bytes pass the second check, MFAS and LMFN at the
frame position, SM BIP-8 bits in error, the violated intervals that the decoder saw clean, BEI, BDI, the SM TTI of a
multiframe that ended (empty: none ended), and the DER bytes with the verdict of their CRC-8. -/
structure LineFrame where
  hits : List Nat
  mfasOk : List Nat
  mfas : Nat
  lmfn : Nat
  bip : Nat
  bipOnly : Nat
  bei : Nat
  bdi : Bool
  tti : List Nat
  derCrc : Bool
  derKind : Nat
  derRxDone : Bool
  derShift : Nat
  derEpoch : Nat
  deriving DecidableEq, Repr

/-- A negotiation frame of a host lane (R209, R210): whether the marker stands at the lane's offset, whether the CRC of
its control word is good, and the fields of that word. -/
structure NegFrame where
  marker : Bool
  crcOk : Bool
  ver : Nat
  msg : Nat
  gearNow : Nat
  gearMax : Nat
  gearNext : Nat
  countdown : Nat
  preReq : Bool
  preCap : Bool
  leader : Bool
  rxReady : Bool
  preset : Bool
  tap : Nat
  action : Nat
  reqSeq : Nat
  deriving DecidableEq, Repr

/-- The half-openings that a sweep finds for one eye (R223), in level and phase steps. -/
structure Eye where
  eye : Nat
  v : Nat
  h : Nat
  deriving DecidableEq, Repr

/-- The PTP message in a frame that R394 recognises: Sync (1), Delay_Req (2) or Follow_Up (3); header bytes 16 to 19;
twoStepFlag; IPv6 without the two octets of Annex E; and sourcePortIdentity, domainNumber and sequenceId as one number. -/
structure Ptp where
  kind : Nat
  mark : Nat
  twoStep : Bool
  noOctets : Bool
  key : Nat
  deriving DecidableEq, Repr

/-- A frame from the host, as far as it has arrived (R230, R240, R243): a number that tells it from the frames in progress,
the bytes received from destination address to FCS, whether it has ended, SFD, FCS and whether the port left UP while it
arrived, EtherType 0x8808, the 16-bit field of a queue tag, TPID and TCI of the tags that follow, the PTP message, and the
raw timestamp in 1/256 ns. -/
structure HostFrame where
  id : Nat
  len : Nat
  last : Bool
  sfdOk : Bool
  fcsOk : Bool
  cutOff : Bool
  macctl : Bool
  qtag : Option Nat
  tags : List (Nat × Nat)
  ptp : Option Ptp
  rawTime : Nat
  deriving DecidableEq, Repr

/-- Who reads a granule of Pannier, or whose write a walk serves (R288, R302): the scrubber, the ring of a queue (a write,
the payload of a frame with its number, or a granule with a record header), the Tandem early path, the bond deskew
buffer, a page-table walk, Courier, or the copy of a migration. -/
inductive PanUse where
  | scrub
  | ringWrite (queue : Nat)
  | ringPayload (queue id : Nat)
  | ringHeader (queue : Nat)
  | tandem | deskew | walk | courier | migrate
  deriving DecidableEq, Repr

/-- A Courier descriptor as firmware posts it (R304). -/
structure CrrPost where
  cls : Nat
  srcSpace : Nat
  dstSpace : Nat
  migrate : Bool
  sign : Bool
  len : Nat
  src : Nat
  dst : Nat
  tag : Nat
  deriving DecidableEq, Repr

/-- How the repair of one pending row comes out (R282): whether it verified, and which of its four pages did. -/
structure RowRepair where
  ok : Bool
  pages : Nat
  deriving DecidableEq, Repr

/-- The head of a key channel message (R321): the carrier it arrives on, SENDER, SEQ, and whether its TAG verifies. -/
structure KchHead where
  on : Nat
  sender : Nat
  seq : Nat
  tagOk : Bool
  deriving DecidableEq, Repr

/-- The checks of R323 on a peer: the hash of its ID_PK equals the KEY_HASH of its trust entry, both signatures verify, the
MAC verifies, the message is well formed and in order; and the node that it proves to be. -/
structure KchPeer where
  hashOk : Bool
  sigOk : Bool
  macOk : Bool
  formOk : Bool
  node : Nat
  deriving DecidableEq, Repr

/-- The slot that a key flit is for (R319): the XTS key, or the NEXT transmit or receive slot of a local container. -/
inductive KeySlot where
  | xts
  | tx (i : Nat)
  | rx (i : Nat)
  deriving DecidableEq, Repr

/-- A container and an epoch, as in KEY_NEXT (R322). -/
structure KeyEntry where
  ctn : Nat
  epoch : Nat
  deriving DecidableEq, Repr

/-- The seal of a received copy of a container frame (R331): its path, FRAME_CTR, the epoch byte of KEY_ID, whether the tag
arrived and verifies, whether the copy on the other path has verified, and the frames that have a byte in it: started
toward the host, and not started. -/
structure SealCopy where
  protect : Bool
  ctr : Nat
  kid : Nat
  tagHere : Bool
  tagOk : Bool
  otherOk : Bool
  started : Nat
  unsent : Nat
  deriving DecidableEq, Repr

/-- A frame that waits to leave toward the host (R333, R336, R395): its home die and container, its length, the due time of
R333 in ns, whether an earlier due frame waits for the same port, the PTP message with its header bytes 16 to 19 in `mark`, whether enough of it is in the part
for R395, and the raw egress timestamp in 1/256 ns. -/
structure EgressFrame where
  home : Nat
  ctn : Nat
  len : Nat
  due : Nat
  earlier : Bool
  ptp : Option Ptp
  headIn : Bool
  rawTime : Nat
  deriving DecidableEq, Repr

/-- What a start of the bias loops finds (R412, R416): the calibration memory of the engine, whether the channel 12 tap
lies above the LASER_LOW level, the output whose readback fails in the ramp, where the search of step 4 leaves the points
0 to 5 in mV (no value: not found), and whether every child point locks in time. -/
structure BiasRun where
  crcOk : Bool
  vpi : List Nat
  init : List Int
  light : Bool
  outFault : Option Nat
  found : List (Option Int)
  locked : Bool
  deriving DecidableEq, Repr

/-- A reading of a converter slice: offset in 0.1 LSB, gain in 0.01 %, skew in 10 fs (R421). -/
structure SliceRead where
  offset : Int
  gain : Int
  skew : Int
  deriving DecidableEq, Repr

/-- A slice of the foreground calibration (R422): its converter and number (128: the spare), the coefficients measured,
and how many of its at most two measurements were rejected. -/
structure SliceCal where
  conv : Nat
  slice : Nat
  m : SliceRead
  rejects : Nat
  deriving DecidableEq, Repr

/-- The measurements of a slot's system calibration (R410): the sums of the averaged codes of ZERO and REF in both passes,
whether a conversion was over range, and the conversion slots that the channel of each filter unit lost. -/
structure SysMeas where
  slot : Nat
  zero1 : Int
  ref1 : Int
  zero2 : Int
  ref2 : Int
  ovr : Bool
  lost : List Nat
  deriving DecidableEq, Repr

/-- A Bell message with a good CRC (R351, R359): sender node and carrier, destination node and carrier, HEARD. -/
structure BellMsg where
  sender : Nat
  carrier : Nat
  dest : Nat
  destCarrier : Nat
  heard : Bool
  deriving DecidableEq, Repr

/-- A received time message (R388): domainNumber, sequenceId, whether its tag verified, and whether it is malformed. -/
structure PtpMsg where
  domain : Nat
  seq : Nat
  tagOk : Bool
  malformed : Bool
  deriving DecidableEq, Repr

/-- A received FAR_STATUS message (R441): whether its TAG verifies, TYPE, sender carrier, SENDER, SEQ and FLAGS. -/
structure FarMsg where
  tagOk : Bool
  type : Nat
  carrier : Nat
  sender : Nat
  seq : Nat
  flags : Nat
  deriving DecidableEq, Repr

/-- The commands, in the order of the opcode table. -/
inductive Instr where
  | registerWrite (who : Writer) (addr mask value : Nat)
  | w1cClear (who : Writer) (addr value again : Nat)
  | hostRead (addr words : Nat)
  | partialWordAccess (port : APort) (addr : Nat) (write : Bool)
  | spiReadCommand (wordAddr count : Nat)
  | spiOtherCommand (code count : Nat)
  | counterLowRead (port : APort) (addr : Nat)
  | counterHighRead (port : APort) (addr : Nat)
  | timTbNsRead (port : APort) (tb : Nat)
  | monFiltStatRead (port : APort) (d f : Nat)
  | windowDataAccess (port : APort) (who : Writer) (addr : Nat) (write : Bool) (value : Nat)
  | chainFlitTx (d p : Nat) (offers : List ChainOffer)
  | chainFlitRx (d p seq : Nat) (crcOk : Bool) (cls : Nat) (holdExpired : Bool)
  | chainPortEnable (d p : Nat)
  | chainPortDisable (d p : Nat)
  | chainTrainAttemptEnd (d p : Nat) (completed : Bool) (failedLanes : List Nat) (peer : Nat)
  | chainClkLoss (d p : Nat)
  | chainReplayLimit (d p : Nat)
  | chainPeerRetrain (d p : Nat)
  | chainHeldFlitRelease (d : Nat)
  | spokeFrameRx (d : Nat) (crcOk : Bool)
  | spokeLost (d : Nat)
  | powerGood
  | leadDieRelease (katOk entropyOk busMaster msi : Bool)
  | flashDiscovery (info : FlashInfo)
  | imageSegmentRead (slot seg : Nat) (firstOk secondOk : Bool)
  | imageVerify (a b : SlotImage)
  | phaseStart (phase : Nat) (hasBlock : Bool) (budget memberRecords : Nat)
  | memberDieReady (d : Nat) (selftestOk : Bool)
  | memberDieTimeout (d : Nat)
  | phaseTimeout
  | recordWrite (addr mask value : Nat)
  | recordFill (addr mask value count stride : Nat)
  | recordTable (window first words : Nat) (data : List Nat)
  | recordWaitUs (us : Nat)
  | waitUsExpiry
  | recordPollUntil (addr mask value timeoutUs : Nat)
  | pollUntilMatch
  | pollUntilTimeout
  | recordProc (id : Nat) (args : List Nat)
  | procReturn
  | pannierInit (d : Nat) (train geometry map key : Bool) (faults : List (Nat × Nat))
  | eccSelftest (d : Nat) (pass : Bool)
  | applyRepair (d : Nat) (rows : List RowRepair)
  | laserDiscover (d : Nat) (r : LasRead)
  | calConverters (d : Nat) (waited : Bool) (meas : List SliceCal)
  | biasStart (d : Nat) (r : BiasRun)
  | bellDiscover (d : Nat)
  | keyAgree
  | acquireLine (d : Nat) (cal : OeCal) (power : Int)
  | hostGears (d : Nat)
  | openTraffic
  | restartWaitExpiry
  | ticketGoWrite (value : Nat)
  | ticketRingTailWrite (value : Nat)
  | ticketFetchDone (entryLen : Nat) (ok : Bool)
  | ticketExecTimeout
  | journalEraseDone
  | applyDelta (t : Tkt)
  | derShiftInitiate (t : Tkt)
  | derShiftRespond (t : Tkt)
  | protectionClear (t : Tkt)
  | protectionLo (t : Tkt)
  | protectionFs (t : Tkt)
  | protectionMsP (t : Tkt)
  | protectionMsW (t : Tkt)
  | containerAdd (t : Tkt)
  | containerChange (t : Tkt)
  | containerDelete (t : Tkt)
  | queueAdd (t : Tkt)
  | queueChange (t : Tkt)
  | queueDelete (t : Tkt)
  | shaperChange (t : Tkt)
  | rekeyNow (t : Tkt)
  | rekeyNowSpan (t : Tkt)
  | rekeyNowAll (t : Tkt)
  | kickstandEnterCarrier (t : Tkt)
  | kickstandEnterPackage (t : Tkt)
  | kickstandLeave (t : Tkt)
  | clearSec (t : Tkt)
  | blowRepairRow (t : Tkt)
  | blowRepairColumn (t : Tkt)
  | restart (t : Tkt)
  | restartInFailed (t : Tkt) (ownerOk : Bool)
  | flashRelease (t : Tkt)
  | flashReclaim (t : Tkt)
  | advanceSvn (t : Tkt)
  | txEnRise (d : Nat) (cal : OeCal)
  | txEnFall (d : Nat)
  | txWaitEnd (d : Nat)
  | txRampComplete (d : Nat)
  | txMuteCauseSet (d c : Nat)
  | txMuteCauseClear (d c : Nat)
  | dspFrameBoundary (d : Nat)
  | dacClipWindow (d clipped : Nat)
  | ltFirApply (d : Nat)
  | lasTransaction (p : Nat) (ok noAck : Bool)
  | lasRetryWaitExpiry (p : Nat)
  | lasPresenceLost (p : Nat)
  | lasPoll (p : Nat) (r : LasRead)
  | lasTuneTimeout (p : Nat)
  | lasRecoverTimer (p : Nat) (r : LasRead)
  | lasGridChange (p n : Nat)
  | lasEnRise (p : Nat)
  | lasEnFall (p : Nat)
  | rxEnRise (d : Nat) (cal : OeCal) (power : Int)
  | rxEnFall (d : Nat)
  | acqStepPass (d : Nat) (m : AcqMeas)
  | acqStepTimeout (d : Nat)
  | failedWaitExpiry (d : Nat)
  | rxLos (d : Nat) (power : Int)
  | rxPowerReturn (d : Nat) (power : Int)
  | holdExpiry (d : Nat)
  | rxLoLost (d : Nat)
  | eqSlip (d : Nat)
  | syncLoss (d : Nat)
  | freqOffsetExceeded (d : Nat)
  | cycleSlip (d : Nat)
  | agcFastStep (d : Nat)
  | adcClipWindow (d t clipped : Nat)
  | adcOverload (d : Nat) (holds : Bool)
  | rxPwrLow (d : Nat) (holds : Bool)
  | cdReprogram (d : Nat) (cd : Int)
  | qualityWindowEnd (d : Nat) (q : Quality)
  | superframeEncodeStart (d : Nat)
  | fecLockCandidate (d frame : Nat) (passed : Bool)
  | codewordDecode (d : Nat) (converged : Bool) (iter : Nat)
  | outerRowExit (d outer ones zeros residual : Nat)
  | fecSfInterval (d : Nat)
  | fasPatternFound (d offset : Nat)
  | lineFrameRx (d : Nat) (f : LineFrame)
  | lofTimer (d : Nat)
  | containerFrameRx (d i : Nat) (f : CtnFrame)
  | gapMarkerRx (d i drops : Nat) (verified : Bool)
  | errorMarkerRx (d i : Nat) (verified : Bool)
  | apsFopTimer (d i : Nat)
  | pmDegSecond (d i : Nat)
  | bondArrivalReport (d us : Nat)
  | bondRealign (d : Nat)
  | gcc0FrameRx (d : Nat) (fcsOk : Bool) (address : Nat)
  | ctWindowCommit (d w : Nat)
  | ctCommitApply (d : Nat)
  | tandemFrameDeliver (d i n : Nat) (wOk pOk : Bool)
  | tandemSelect (d i : Nat)
  | tandemHoldoffExpiry (d i : Nat)
  | tandemWtrExpiry (d i : Nat)
  | sealRequestClear (d i : Nat)
  | tandemRealign (d i skip diffUs : Nat) (protectFirst : Bool)
  | tandemPathPresence (d i : Nat) (wOk pOk : Bool)
  | pelEnvelopeRx (d p : Nat) (hasWord : Bool) (word expected : Nat)
  | pelNeighbourEvent (d p : Nat) (arriving : Bool) (lagNs : Nat)
  | pelSuspendExpiry (d : Nat)
  | derProposeRx (m : DerMsg) (auto : Bool) (entries : List DerEntry)
  | derArmedRx (m : DerMsg)
  | derRefuseRx (m : DerMsg) (reason unit : Nat)
  | derCommitRx (m : DerMsg) (epoch : Nat)
  | derCancelRx (m : DerMsg) (reason : Nat)
  | derDoneRx (m : DerMsg)
  | derResendTimer
  | derUnitArmReport (d : Nat)
  | derArmTimeout
  | derLatchPoint (d : Nat) (tx : Bool)
  | derTxSwitch (d : Nat)
  | derRxSwitch (d : Nat)
  | derSideDone (d : Nat)
  | derRollbackDecision
  | derRollbackReturn (d : Nat) (tx : Bool)
  | derResultSet
  | derRediscoverTimer (d : Nat)
  | portEnable (d p : Nat)
  | portDisable (d p : Nat)
  | negFrameRx (d l : Nat) (f : NegFrame)
  | negGearSwitch (d l : Nat)
  | negLockTimeout (d l : Nat)
  | negTrainTimeout (d l : Nat)
  | negWaitExpiry (d l : Nat)
  | forcedCdrLock (d l : Nat)
  | hlLos (d l : Nat)
  | hlSignalReturn (d l : Nat)
  | hlLol (d l : Nat)
  | hostGearsTimeout
  | idleEnter (d p : Nat)
  | idleFastExit (d p : Nat)
  | hostIdleAnnounceRx (d l : Nat) (crcOk : Bool)
  | hostIdleExitRx (d l : Nat) (locked : Bool)
  | escanStart (d l : Nat)
  | escanDone (d l errs : Nat)
  | eyeSweepDone (d l : Nat) (eyes : List Eye)
  | pcsAligned (d p : Nat)
  | pcsAlignLoss (d p : Nat)
  | hostFecCodeword (d p symErr : Nat) (uncorr lf rf : Bool)
  | hostFecDegradeInterval (d p : Nat)
  | hostFrameRx (d p : Nat) (f : HostFrame)
  | frameDecisionPoint (d id : Nat)
  | stagedFrameRelease (d id : Nat)
  | ctFrameFail (d id : Nat) (long : Bool)
  | schedulerSelect (d i : Nat)
  | hostFrameStart (d p : Nat) (f : EgressFrame)
  | pfcXoffStart (d p : Nat)
  | pfcXon (d p : Nat)
  | pfcRefreshTimer (d p : Nat)
  | qsClsInsert (d w0 w1 : Nat)
  | qsClsDelete (d w0 w1 : Nat)
  | qsClsLookup (d w0 w1 : Nat)
  | qsWindowCommit (d w : Nat)
  | qsCommitApply (d w : Nat)
  | gateCommit (d : Nat)
  | gateListStart (d : Nat)
  | drainEnd (d : Nat) (container : Bool) (idx : Nat)
  | panCorrectedRead (d g : Nat) (check scrub : Bool)
  | panWriteBack (d g : Nat) (ok : Bool)
  | panUncorrectableRead (d g : Nat) (u : PanUse)
  | mergeFlush (d hg : Nat) (oldUe cipherBad : Bool)
  | scrubLapEnd (d ms : Nat)
  | trackerClearTimer (d : Nat)
  | pageMigrationStart (d : Nat)
  | pageMigrationDone (d : Nat)
  | pteWalk (d r v : Nat) (pUe mUe bad : Bool) (u : PanUse)
  | pteRebuildDone (d r v : Nat)
  | courierDescPost (d c : Nat) (p : CrrPost)
  | courierPreempt (d c done : Nat)
  | courierDescDone (d c : Nat)
  | courierFault (d c code done space addr : Nat)
  | courierResume (d c : Nat)
  | courierAbort (d c : Nat)
  | courierCipherResume (d c : Nat)
  | pcieCompletionTimeout (done : Nat)
  | pcieUnexpectedCompletion
  | pcieLinkDown (done : List Nat)
  | perstAssert (done : List Nat)
  | keyFlitRx (d : Nat) (slot : KeySlot) (ctr : Nat) (tagOk : Bool)
  | wrapNonceRetry (d : Nat)
  | kchFragmentRx (h : KchHead) (type idx count : Nat)
  | kchReassemblyTimeout (on type sender seq : Nat)
  | kchHelloRx (h : KchHead) (fresh formOk : Bool)
  | kchReplyRx (h : KchHead) (p : KchPeer)
  | kchAuthRx (h : KchHead) (p : KchPeer)
  | kchConfirmRx (h : KchHead) (macOk : Bool)
  | kchKeyNextRx (h : KchHead) (sms : Nat) (entries : List KeyEntry)
  | kchKeyReadyRx (h : KchHead) (entries : List KeyEntry)
  | kchKeyRefuseRx (h : KchHead) (entries : List KeyEntry)
  | kchAbortRx (h : KchHead)
  | kchResendTimer (k : Nat)
  | keyNextResend (d i : Nat)
  | rekeyRetryTimer (d i : Nat)
  | keyAgreeTimeout
  | handshakeRetryTimer (k : Nat)
  | spanRekeyTimer (k : Nat)
  | rekeyTimer (d i : Nat)
  | containerFrameSeal (d i : Nat)
  | sealVerdict (d i : Nat) (f : SealCopy)
  | rxOldKeyErase (d i : Nat)
  | svcLockRequest (a : Nat)
  | svcLockRelease (checkOk parityOk : Bool)
  | svcSuspendTimeout (k : Nat)
  | entropyHealthFail
  | entropyRetest (pass : Bool)
  | tamperTrip (sensor : Nat)
  | tamperHoldExpiry (still : Nat)
  | bellTxMessageStart (d : Nat)
  | bellTxDone (d : Nat)
  | bellPathChange (d : Nat)
  | bellHelloTimer (d : Nat)
  | bellParkedTimer (d : Nat)
  | bellWakeTimer (d : Nat)
  | bellDetect (d : Nat) (slow : Bool)
  | bellSyncFound (d : Nat) (rssi : Int) (compat : Bool)
  | bellSyncTimeout (d : Nat)
  | bellHeaderDone (d : Nat) (ok : Bool)
  | bellBodyDone (d : Nat) (ok : Bool)
  | bellSignalFade (d : Nat)
  | bellCapture (d : Nat) (rssi : Int) (compat : Bool)
  | bellNoiseUpdate (d : Nat) (noise : Int)
  | bellHelloRx (d : Nat) (m : BellMsg) (desc : List Nat)
  | bellLastGaspRx (d : Nat) (m : BellMsg) (reason loc : Nat)
  | bellWakeRx (d : Nat) (m : BellMsg)
  | bellParkedRx (d : Nat) (m : BellMsg)
  | bellCompatRx (d : Nat) (ok : Bool) (type : Nat) (m : BellMsg) (reason : Nat)
  | peerParkedTimeout (d : Nat)
  | bellDiscoverTimeout (d : Nat)
  | refMonitorUpdate (r : Nat) (offset : Int)
  | refLos (r : Nat)
  | refWtrExpiry (r : Nat)
  | dpllPullEnd (x : Nat)
  | dpllLock (x : Nat)
  | xoLoss
  | ppsEnable (p : Nat)
  | ppsEdge (p : Nat)
  | ppsinEdge (i : Nat)
  | tbSet (tb : Nat)
  | tbHostApply (tb : Nat)
  | tbServoSample (tb : Nat) (theta : Int)
  | tbSampleTimeout (tb : Nat)
  | ptpSyncTimer (d tb : Nat)
  | ptpSyncRx (d : Nat) (m : PtpMsg)
  | ptpFollowUpRx (d : Nat) (m : PtpMsg) (t1 : Nat)
  | ptpDelayReqRx (d : Nat) (m : PtpMsg)
  | ptpDelayRespRx (d : Nat) (m : PtpMsg) (t4 : Nat)
  | ssmTx (d : Nat)
  | ssmRx (d ql : Nat)
  | triggerArm (u : Nat)
  | triggerDisarm (u : Nat)
  | triggerFire (u : Nat)
  | triggerHeldLoad (u : Nat)
  | monConversion (d : Nat) (v : Int)
  | monLapEnd (d : Nat)
  | filterSync (d : Nat)
  | syscalStart
  | syscalDone (meas : List SysMeas)
  | biasLockinOutput (d k : Nat) (e : Int) (taint : Bool) (found : Option Int)
  | biasWrapDone (d k : Nat)
  | biasOutputFault (d k : Nat)
  | biasPhaseAcqTimeout (d k : Nat)
  | biasRestart (d : Nat) (r : BiasRun)
  | biasWrapNow (d : Nat)
  | convSliceMeasure (d v : Nat) (a b m : SliceRead)
  | convTempUpdate (d : Nat) (t : Int)
  | railFail (rail : Nat) (tamper : Bool)
  | railRecovered
  | hvRailFail (neg : Bool)
  | hvRailRecovered
  | ksDrainEnd (d : Nat)
  | ksStageComplete (d : Nat)
  | ksWakeSource (d src : Nat)
  | ksWakeTimer (d : Nat)
  | wakeNLow
  | ksWakeComplete (d : Nat)
  | sysRstLow
  | sysRstRise
  | alarmStickySet (addr entry bit : Nat)
  | alarmReportRx (d : Nat)
  | farStatusTx (d : Nat)
  | farStatusRx (d : Nat) (m : FarMsg)
  | farStatusStale (d : Nat)
  | levelCounterTick (d k : Nat)
  | telDoorbellWrite (t value : Nat)
  | telSnapshotTimer (t : Nat) (busy : Bool)
  | crcSubmit
  | crcJobEnd (how bytes g : Nat)
  | injFire (d u : Nat)
  | injStop (d u : Nat)
  | injApply (d u : Nat)
  | jtagBypass
  | jtagIdcode
  | jtagSamplePreload (captured loaded : List Bool)
  | jtagExtest
  | vddAoApplied
  | vddAoLoss
  | perstRelease (busMaster msi : Bool)
  | xoHoldRecovered
  | holdoverHistoryValid (x : Nat)
  | bellNotAvailableTimeout (d : Nat)
  | crcResultStatusRead (port : APort) (slot : Nat)
  | prbsCheckerSync (d l bits errs : Nat)
  | rxDspFrame (d : Nat) (synced : Bool)
  | lineFrameTx (d : Nat)
  deriving DecidableEq, Repr

end Sys2Proof
end

