-- ==== Sys2Proof/Decode.lean ====
section
/-!
DEFINITION. The command that a word of the opcode table spells.  No row of the table has bits: every command comes from
outside with its operands, so no word spells one.
-/
namespace Sys2Proof

/-- No row of the table gives bits (`nbits` and `w` are the table's length and word): the answer is none. -/
def decodeTableWord (nbits w : Nat) : Option Instr :=
  match nbits, w with
  | _, _ => none

end Sys2Proof
end

