-- ==== Sys2Proof/Config.lean ====
section
/-!
DEFINITION. What the spec leaves open, as constants without a body: no proof can see their values, so every claim
holds whatever they are (log entry 5).  Each is applied to the operands it depends on, or to the state's free-value
counter, which every use advances.
-/
namespace Sys2Proof.Config

/-- A value the spec does not state (log 5): applied to the state's free-value counter. -/
opaque freeNat : Nat → Nat

/-- The random bits of the DRBG (R341), by draw: the spec fixes their source, not their values. -/
opaque random : Nat → Nat

/-- The fused public keys, identifiers and serial number (R317, R469): word by index. -/
opaque fusedWord : Nat → Nat

/-- The bytes a CRC job reads (R458), by job, space (0 SRAM, 1 Pannier), die and address. -/
opaque memByte : Nat → Nat → Nat → Nat → Nat

/-- Word `k` of an HMAC-SHA-384 tag over a list of words (R453): the key never leaves the part. -/
opaque mac : List Nat → Nat → Nat

/-- Delays of carrier slot `d` in 0.1 ns that its optical engine and the die fix (R389, log 5): on receive, and on transmit at
the RS, CONST and FEC_RATE of the active bank. -/
opaque rxDelay : Nat → Nat
opaque txDelay : Nat → Nat → Nat → Nat → Nat

end Sys2Proof.Config
end

