-- ==== Sys2Proof/Machine/Bits.lean ====
section
/-!
DEFINITION. Bit fields, two's complement and rounding, as the register tables and the formulas of spec/ use them.
-/
namespace Sys2Proof.Machine

/-- Bits [lo + w - 1 : lo] of `x`. -/
def bits (x lo w : Nat) : Nat := x / 2 ^ lo % 2 ^ w

/-- Bit `i` of `x` as a flag. -/
def bit (x i : Nat) : Bool := x / 2 ^ i % 2 = 1

/-- `x` with bits [lo + w - 1 : lo] replaced by the low `w` bits of `v`. -/
def putBits (x lo w v : Nat) : Nat :=
  x / 2 ^ (lo + w) * 2 ^ (lo + w) + v % 2 ^ w * 2 ^ lo + x % 2 ^ lo

/-- `x` with bit `i` set or cleared. -/
def putBit (x i : Nat) (b : Bool) : Nat := putBits x i 1 b.toNat

/-- Number of bits of the low `n` bits of `x` that are 1. -/
def popCount : Nat → Nat → Nat
  | 0, _ => 0
  | n + 1, x => x % 2 + popCount n (x / 2)

/-- The bits of a mask of `n` bits, lowest first. -/
def maskBits (n x : Nat) : List Nat := (List.range n).filter (fun i => bit x i)

/-- A signed quantity is held in a cell as its 64-bit two's complement. -/
def enc (v : Int) : Nat := (v % 0x10000000000000000).toNat

/-- The signed quantity a cell holds. -/
def dec (n : Nat) : Int := if n < 0x8000000000000000 then n else (n : Int) - 0x10000000000000000

/-- The signed value of the low `w` bits of `x` (w at least 1). -/
def sext (w x : Nat) : Int :=
  if x % 2 ^ w < 2 ^ (w - 1) then (x % 2 ^ w : Nat) else (x % 2 ^ w : Nat) - (2 ^ w : Nat)

/-- `v` limited to the range of a signed field of `w` bits. -/
def satS (w : Nat) (v : Int) : Int := max (-(2 ^ (w - 1) : Nat)) (min (2 ^ (w - 1) - 1 : Nat) v)

/-- `v` limited to an unsigned field of `w` bits. -/
def satU (w v : Nat) : Nat := min (2 ^ w - 1) v

/-- `a / b` rounded to the nearest unit, a half upward. -/
def roundDiv (a b : Nat) : Nat := if b = 0 then 0 else (2 * a + b) / (2 * b)

/-- `a / b` for signed `a`, rounded to the nearest unit, a half away from zero. -/
def roundDivS (a : Int) (b : Nat) : Int :=
  if a < 0 then -(roundDiv a.natAbs b : Int) else (roundDiv a.natAbs b : Int)

/-- A flag as a number. -/
def flag (b : Bool) : Nat := b.toNat

end Sys2Proof.Machine
end

