-- ==== Sys2Proof/Machine/Cells.lean ====
section
/-!
DEFINITION. The names of every piece of state the spec gives the machine that is a number, a code, a flag or a
counter: one constructor per register field, counter, alarm bit and window, and per hidden quantity of the rules,
grouped by the register blocks of R470 to R473.  A key is a name, the die (or carrier slot, LAS port) it belongs to
and an index (port, lane, queue, container, entry ...).  Transcribed from the register tables of spec/.
-/
namespace Sys2Proof.Machine

/-- ID block; chapter 17_register_map.md. -/
inductive IdCell where
  | family | slots | stepMajor | stepMinor | deviceId | vendorId
  deriving DecidableEq, Repr

/-- BOOT block; chapter 02_salsel_image_and_startup.md. -/
inductive BootCell where
  | errCode | phase | slot | state | errDie | detail | errAddr | imageVersion | fuseSvn | imageSvn
  | entropyPass | katPass | eccRan | eccPass | phaseMs | nFlashReread | step | recIndex | phaseBudget
  | memberReady | nodeHdr | frozen | policyIn | wrotePortCfg | traffic | segRead | segCrcBad | flashMode
  | procId | procDone | procCode | procCalled | procArgW | phaseAt | phaseRun | wroteBank | oldBank
  deriving DecidableEq, Repr

/-- TKT block; chapter 02_salsel_image_and_startup.md. -/
inductive TktCell where
  | mboxBusy | lastCode | lastRecord | ctrLast | hostWrRejAddr | ringBase | ringSize | nodeId | ringHead
  | nAccepted | nRejected | nHostWrRej | nHostRdDeny | nJournalWr | nRingBad | nJournalErase | keys | keyMask
  | ceiling | jSeq | jPos | jErasing | jEraseWait | ringTail | mboxLen | fetched | hashFail | rejHeld
  | jBlank | fetchLen | ringPost
  deriving DecidableEq, Repr

/-- CHN block; chapter 01_package_and_dies.md. -/
inductive ChnCell where
  | retrainMax | bondBw | tandemBw | pelEn | portEn | peerDie | clkOk | failedLane | spareUsed | state
  | nFlitTx | nFlitRx | nCrcErr | nReplay | nRetrain | nPelLate | spokeLost | nSpokeCrcErr | txSeq | rxSeq
  | unacked | replayLeft | replayRun | credits | attempt | lastCls | lastDest
  deriving DecidableEq, Repr

/-- LT block; chapter 03_line_transmitter.md. -/
inductive LtCell where
  | lineStd | rs | const | entropy | nlpdBank | pilotGain | fecRate | rolloff | netK | compHi | compLo
  | nlpdGain | bellDepth | txcalSrc | mute | txEn | excess | bank | muteCause | txState | backoff | txVoa
  | drvGain | pilotSeed | tribGain | tribSkew | yPhase | xPhase | nDspFrame | nDacClip | nMuteEnter
  | nBankSwitch | firstStart | begun4 | ramp | otherCause | sysCause | useGain | useSkew | useXPhase
  | useYPhase | useNlpd | useFir | firPending | pilotX | pilotY
  deriving DecidableEq, Repr

/-- LAS block; chapter 03_line_transmitter.md. -/
inductive LasCell where
  | lasEn | pinMargin | power | gridN | recoverS | tuneTimeout | poll | xactTimeout | freqErr | present
  | reason | state | nXact | nRetry | nXactFail | nFaultEnter | attempt | retryWait | lowCount | refTap
  | recovering | passed3
  deriving DecidableEq, Repr

/-- LR block; chapter 04_line_receiver.md. -/
inductive LrCell where
  | lineStd | rs | const | entropy | pilotGain | fecRate | rolloff | netK | compHi | compLo | rxcalSrc
  | ntaps | holdMs | qualK | fastRelock | cdMode | rxEn | acqRetryLeft | xySwap | rxSf | bank
  | lastFailReason | lastFailStep | rxState | latNs | seedSrc | peerSeed | cdSet | cdMin | cdMax | losThresh
  | agcSlew | adcTarget | ngmiMin | ngmiWarn | rxPower | tiaGain | tFreq | tCd | tSignal | tLo | tCarrier
  | tSync | tEq | tTiming | acqRetry | tVerify | tribGain | tribSkew | yPhase | xPhase | qPelGain | qSnrEff
  | qNgmi | qGmi | qCd | qPolRatePeak | qDgd | qLinewidth | qFreqOff | qValid | qSeq | qBerNlog | qSnrY
  | qSnrX | qBits | qErrs | nDspFrame | nAcqAttempt | nAcqFail | nRelockFast | nLosEnter | nSyncLoss
  | nEqReinit | nCycleSlip | nAgcFastStep | nBankSwitch | nAdcClip | firstStart | cdEst | cdEstValid
  | cdFilter | eqValid | fastRun | winLocked | missed | useGain | useSkew | useXPhase | useYPhase
  | modeReload | latBase | everLocked
  deriving DecidableEq, Repr

/-- FEC block; chapter 05_soft_decision_fec.md. -/
inductive FecCell where
  | ucwSfThresh | earlyTerm | iterMax | sdMargin | iterCap | lockState | iterMean | margin | latNs | nCw
  | nCwSkipped | nCorrBits | nCorrOnes | nCorrZeros | nOuterCorr | nLdpcFail | nUncorr | nLockLoss | nBipOnly
  | nIterHist | candAt | failRun | lockPhase | ucwCount | sfInterval | stairClear | fillAcc | prbs31
  | superframes
  deriving DecidableEq, Repr

/-- CT block; chapter 06_line_framing_containers_tandem.md. -/
inductive CtCell where
  | lofMs | smTimAct | framerEn | mfas | candCount | align | rxLmfn | txLmfn | skewMaxUs | members | group
  | bondEn | deskewUs | bondState | nSmBip | nSmBei | nOofEnter | nCandRej | nLmfnErr | nGccFcsErr
  | nGccAddrDisc | nBondRealign | nFrames | nPmBip | nPmBei | nGapRx | nGapPkts | nGapMiss | nErrmkRx
  | nUncorrPkt | inFrame | framePos | misses | lof | lmfnValid | lmfnCand | lmfnRun | mfasSeen | txFn
  | cAligned | cHits | cMisses | gapSeen | gapInit | degBad | degRun | ttiRun | ttiLast | beiTx | gapTx
  | arrival | arrived | sentFn | txDer | txSmBei | txSmBdi | txSmTti
  deriving DecidableEq, Repr

/-- TDM block; chapter 06_line_framing_containers_tandem.md. -/
inductive TdmCell where
  | holdoff | wtrMin | guardUs | revertive | bidir | port | pairEn | diffMaxUs | pages | nSwitch | nSubst
  | nGap | nRealign | nPPmBip | diffUs | req | early | state | sel | wPresent | pPresent | bothSeen | loc
  | far | apsLast | apsRun | unreflected | mismatch | sf | seal | wtr | pmDegP | degBadP | degRunP
  | delivered | wrPtr | rewind | earlyRun | delay | lastPath
  deriving DecidableEq, Repr

/-- PEL block; chapter 07_peloton_and_derailleur.md. -/
inductive PelCell where
  | mu | negGuard | nbDn | nbUp | pelOn | holdNs | nbState | walkoff | spacing | nWaitEnter | nSuspend
  | nAlignErr | need | lost | reeval | termOff | taps | tapsRun
  deriving DecidableEq, Repr

/-- DER block; chapter 07_peloton_and_derailleur.md. -/
inductive DerCell where
  | uShiftId | uReason | rxSide | txSide | uRole | rxEpoch | commitLead | armTmoMs | autoEn | remoteAccept
  | upMargin | downMargin | downWin | upWin | holdoffS | shiftId | reason | result | far | failCarrier | role
  | state | epoch | farEpoch | pelMask | tandemMask | shiftMask | nApply | nMiss | nRollback | nOhCrc
  | nShiftOk | nCancel | nRefused | nMsgDisc | ready | onNew | rxEpochHeld | rxKind | rxRun | rxLast
  | farRxDone | kind | kindEpoch | oldMap | initNode | partner | auto | armedRx | farCommit | farDone
  | doneSent | seen | rxSeq | txSeq | lastMsg | lastReason | lastOn | downRun | upRun | lastShift | autoId
  | returned
  deriving DecidableEq, Repr

/-- HL block; chapter 08_host_lanes.md. -/
inductive HlCell where
  | txInv | rxInv | prbsPat | prbsChk | prbsGen | precodePol | forcePreTx | forcePreRx | role | forceGear
  | failReason | preRx | preTx | cdrLock | sig | farGearMax | gear | state | eqCm2 | eqCm1 | eqCp1 | forceCm2
  | forceCm1 | forceCp1 | escanStart | escanBusy | escanEye | escanLevel | escanPhase | escanDwell | mutValid
  | eyeV | eyeH | worstEye | mut | negTmo | tTrain | stepRetry | tLock | mutWarn | readyMut | width | speed
  | mode | tpContainer | fecMode | loop | idleReq | portEn | pfcQuanta | mtu | pfcEn | pfcRefresh | pXoff
  | pGear | pState | corrRx | corrTx | degSym | nNegAttempt | nStepFail | nLosEnter | nLolEnter | nIdleExit
  | nIdleExitFail | nPrbsBits | nPrbsErr | escanErr | nRxFrames | nRxBytes | nRxFcsErr | nRxSizeErr
  | nTxFrames | nTxBytes | nFecCw | nFecCorrCw | nFecUncorrCw | nFecSymErr | nPfcTx | nMacctlRx | nCtAbort
  | fLock | goodRun | badRun | capsRun | farPreCap | rxReady | readyRun | readyLeft | countdown | farCount
  | preNext | switched | fellBack | stepFails | oldTaps | oldPre | reqSeq | reqResult | waitSig | relock
  | keep | idleRun | prbsLock | symMs | pfcTold
  deriving DecidableEq, Repr

/-- QS block; chapter 09_classification_queues_scheduling.md. -/
inductive QsCell where
  | drainMs | ctThresh | dieHi | dieLo | brake | dieOcc | clsUsed | pcpColour | colourSrc | clsMode
  | missDrop | missQueue | gateEn | gateTb | adminLen | gateCycle | gateBaseNs | gateBaseSLo | gateBaseSHi
  | gateCommit | gatePending | operValid | operLen | gateStartNs | gateStartS | operCycle | nClsHit
  | nClsMiss | nClsTagBad | nClsNoRoom | nStageDrop | nGateCommit | nGateDrop | nGateHold | nQEnqPkts
  | nQEnqBytes | nQDeqPkts | nQDeqBytes | nQDropFull | nQDropRed | nQDropYel | nQCtPkts | nQVoid | nQGateDrop
  | nCGapTx | nCPolRed | nCDrainDisc | nCExcessBytes | wr | rd | qXoff | gapPend | qDrain | cDrain | occWords
  | tagS | tagF | passed | vTime | polC | polP | polAt | shpC | shpE | shpAt | gateStart | gatePendAt
  | gatePendLen | gatePendCycle | gatePend | clsOp | clsResult
  deriving DecidableEq, Repr

/-- PAN block; chapter 10_pannier_memory_and_courier.md. -/
inductive PanCell where
  | lapMax | spareWarn | mergeNs | scrubEn | retireUrgent | migCap | wCrr | wMig | wScrub | state | xtsReady
  | retirePend | sparesLeft | lapPct | lastLapMs | fuseFree | appliedNew | pprLeft | records | nCeData
  | nCeCheck | nUe | nPoisonRd | nPoisonWr | nWbFail | nHard | nRetire | nRetireDrop | nMigSkip | nTrackOvf
  | nScrubLaps | nMergeRmw | nWalkRepair | nWalkFault | nQLossPkts | nQFlush | nXtsFault | fuse | pprHeld
  | taken | given | mapTo | homeOf | out | rebuild | poison | wbPend | migHome | migNew | migGran | migCause
  | migDirty | rowPages
  deriving DecidableEq, Repr

/-- CRR block; chapter 10_pannier_memory_and_courier.md. -/
inductive CrrCell where
  | resumeMax | chEn | descIdx | fault | faultSpace | depth | cls | state | doneBytes | faultAddr | winBase
  | winSize | winEn | winTicket | winTelemetry | nDescDone | nBytes | nPreempt | nFault | nResume | nAbort
  | nCipherWait | nPcieUnexp | post
  deriving DecidableEq, Repr

/-- SBG block; chapter 11_security_and_container_encryption.md. -/
inductive SbgCell where
  | lifecycle | rngOk | keysReady | spansUp | kaTmoMs | spanRekeyH | nHsOk | nHsFail | nKchDisc | nWrapFail
  | nDrbgReseed | nHealthFail | drbgCount | spStep | spHas | spOld | spRetry | spSeqRx | spSeqTx | spTxType
  | spSent | spRekey | kaSpan | kwOk | wrapCtr | xtsPend | xtsRetry
  deriving DecidableEq, Repr

/-- SVC block; chapter 11_security_and_container_encryption.md. -/
inductive SvcCell where
  | busy | owner | suspender | s0Valid | s0Agent | s1Valid | s1Agent | suspMaxUs | nMsg | nSuspend
  | nSuspFail | nCheckFail | nWait | waiting | retried | crrHolder
  deriving DecidableEq, Repr

/-- AO block; chapter 11_security_and_container_encryption.md. -/
inductive AoCell where
  | tamperHoldS | nTamper | flashReleased | triesB | triesA | restartHoldMs | wakeCarrier | wakeSource
  | nPgFail | tamperDown | powerOff | stuck | nodeId
  deriving DecidableEq, Repr

/-- CRY block; chapter 11_security_and_container_encryption.md. -/
inductive CryCell where
  | rekeyLog2 | rekeyS | nSealed | nVerified | nSealFail | nTagMissing | nReplay | nDraftErrblk | nDraftDisc
  | nRekey | nPSealFail | nHoldFrames | txState | rxState | txLast | txSms | txEpoch | txKeySms | txNext
  | txNextEpoch | txNextSms | txRetry | txFrames | frameCtr | rxLast | rxSms | rxHas | rxEpoch | rxNext
  | rxNextEpoch | rxOld | rxOldEpoch | rxSeen | flitFailed | highest | failRun | restore
  deriving DecidableEq, Repr

/-- BELL block; chapter 12_bell_channel.md. -/
inductive BellCell where
  | captureDb | detThr | code | compat | adopt | wakeEn | ksKey | bellEn | tParkS | discTmo | tHelloMs
  | codeUsed | agcFrozen | rxSlow | rxCompat | txSrc | discFailReason | discState | txState | rxState | rssi
  | noise | peerValid | peerCompat | peerParked | farCarrier | partner | ksDepth | ksLevel | gaspValid
  | gaspCarrier | gaspReason | gaspSender | gaspLoc | nTxMsg | nDetect | nFalseDet | nCapture | nCrcFail
  | nRxMsg | nRxDisc | nWakeRx | nCompatRx | pend | cur | seqTx | gaspOut | gaspOutLoc | offered | discRun
  | expNode | tolerate | lastWake | descOk | wakeReq | txCompat
  deriving DecidableEq, Repr

/-- CLK block; chapter 13_clocks_and_time.md. -/
inductive ClkCell where
  | xoSuspect | xoOk | xoFreq | hardPpb | softPpb | persist | agree | wtrS | monEn | refFreq | qstate | cause
  | soft | wtrLeft | offset | slope | home | bw | dpllMode | prio | holdAvgS | selected | histValid
  | dpllState | phase | dpllFreq | ppsEn | ppsTb | ppsWidth | ppsSlewLim | ppsOfs | ppsErr | squelch | freq1
  | freq0 | nSwitch | nFw | nWtrRestart | nDisq | wasQual | refLos | hardRun | cleanRun | driftRun | suspects
  | wtrEnd | ppsRun | ppsFirst | ppsErr8
  deriving DecidableEq, Repr

/-- TIM block; chapter 13_clocks_and_time.md. -/
inductive TimCell where
  | setNs | setSecLo | setSecHi | tbSet | hostApply | src | osmcCarrier | stepEn | freqLim | kp | ki
  | sampTmoS | lockNs | stepUs | ppsDelay | hostofs | tbValid | tbState | tbOffset | tbFreq | trigMode
  | trigTb | trigWidth | trigPeriod | trigTgtNs | trigTgtSecLo | trigTgtSecHi | trigArm | trigDisarm
  | trigArmed | trigHeld | tsTb | tcMode | pceNext | nSamples | nSampDisc | nOutlier | nStep | nPce
  | nTrigLate | nTcCorr | nTcFupMiss | nTcUnsync | nTcSkip | nOsmcDisc | nTrigFired | tbSec | tbNs | tbFrac
  | ptpMark | ptpCorr | aoSec | aoNs | tbOfs | fromAo | tbSub | integ | trim | lockRun | outRun | sampAt
  | trigTgt | evtNext | evtAt | ptpSyncSeq | ptpT2 | ptpT1 | ptpHaveSync | ptpReqSeq | ptpT3 | ptpPairT3
  | ptpT4 | ptpHaveReq | ptpTxSeq | ptpTxT1 | ptpReqRxSeq | ptpTxT4 | ssmTx | rxQl
  deriving DecidableEq, Repr

/-- MON block; chapter 14_monitor_calibration_bias.md. -/
inductive MonCell where
  | sync | syncMask | seqLen | monEn | lapUs | seqState | chTag | chSeq | chCode | chUv | uncal | fEn
  | fDcFreeze | fDcEn | fDcK | fOrder | fCh | fDecimM1 | fIshift | fCshift | fOutLatched | fValid | fTaint
  | fCount | fGd | nConv | nOvr | nSettle | seqPos | seqRep | settle | lastOk | fAcc | fDel | fPhase | fOuts
  | fSub | fMean | fSeed | fOut
  deriving DecidableEq, Repr

/-- BIAS block; chapter 14_monitor_calibration_bias.md. -/
inductive BiasCell where
  | restart | wrapNow | wrapAuto | biasSrc | biasEn | lOrder | lDecimM1 | biasTmo | phaseAcqMs | resetSlew
  | wrapMv | biasLock | hvClamp | light | ptLocked | toneHz | ditherMv | pol | refPhase | ptKi | lockThr
  | initMv | vpiMv | ptState | outMv | rbMv | lastE | nUnlock | nWrap | nTaint | started | ptBase | ptV
  | ptLockV | ptHasLock | ptLockRun | ptUnlRun | ptAcq | ptTry | ptFirst | ptFault | ptWrapTo | restartReq
  deriving DecidableEq, Repr

/-- CAL block; chapter 14_monitor_calibration_bias.md. -/
inductive CalCell where
  | calTol | navgLog2 | slotMask | calrefUv | calStart | sysBusy | sysGain | sysOfs | sysValid | sysResult
  | sysTimeS | sysTimeNs | sliceMs | tolGain | tolOfs | tolSkew | bgEn | convValid | setMeasured | sparePerm
  | convFailed | roundPct | convTimeS | convTimeNs | nSysCount | nSysReject | nConvCount | nConvReject
  | sysMask | coef | temp | convPos | rejRun | spareFor | bgRun | stale
  deriving DecidableEq, Repr

/-- PWR block; chapter 15_power_and_kickstand.md. -/
inductive PwrCell where
  | stage | ksDrainMs | nKsEnter | nKsReverse | nKsLateWake | nKsDrainDisc | nWakeIgnored | nWake | pkgGated
  | wakeEn | pkgMove | pkgWakeEn | lateWake | lateBell | waitWake | waitBell | savedCd | savedCdValid
  | wakeGroup | wakeDelay
  deriving DecidableEq, Repr

/-- ALM block; chapter 16_alarms_counters_diagnostics.md. -/
inductive AlmCell where
  | farFresh | farCarrier | farFlags | farSender | logNext | nMgmtDisc | nLogEntries | nLogOverwrite
  | farTxSeq | farTxSms | farTxFlags | farRxSeq | farRxSms
  deriving DecidableEq, Repr

/-- PC block; chapter 16_alarms_counters_diagnostics.md. -/
inductive PcCell where
  | nLvl
  deriving DecidableEq, Repr

/-- TRC block; chapter 16_alarms_counters_diagnostics.md. -/
inductive TrcCell where
  | trcK | trcMode | tagCw | tagRx | tagTx | trcEn | trcNext | nTagged | nLost | count
  deriving DecidableEq, Repr

/-- INJ block; chapter 16_alarms_counters_diagnostics.md. -/
inductive InjCell where
  | testEnable | uType | uMode | uPath | uTarget | uParam | fire | stop | uActive | uResult | nInj | left
  deriving DecidableEq, Repr

/-- CRC block; chapter 16_alarms_counters_diagnostics.md. -/
inductive CrcCell where
  | poly | init | xorout | widthM1 | refin | refout | space | crcDie | addr | len | submit | resSlot
  | jobsQueued | resStatus | resResult | resBytes | resFaultAddr | nJobs | nReject | jobPoly | jobInit
  | jobXor | jobCfg | jobAddr | jobLen | jobOrder | submits | slotRead
  deriving DecidableEq, Repr

/-- TEL block; chapter 16_alarms_counters_diagnostics.md. -/
inductive TelCell where
  | telBase | periodMs | sizeLog2 | sign | kind | db | nDrop | nSkip | nDbBad | written | dropped | snapNo
  deriving DecidableEq, Repr

/-- SYS block; chapter 17_register_map.md. -/
inductive SysCell where
  | time | diePresent | dieReleased | aoOn | railsGood | sysRstN | perstN | pcieUp | msiEn | busMaster
  | alertSeen | faultSeen | msiSent | msiLast | freeCount | fuseOwned | snapAddr | snapHi | snapValid
  | tbLatchSec | tbLatchFrac | tbLatchValid | winEntry | winWord | winBusy | restartPend | fuseSvn | jtagIr
  | jtagBr
  deriving DecidableEq, Repr

/-- Every alarm bit: of an alarm register, or of a window entry with live, sticky and mask words. -/
inductive Alm where
  | bootFlashHeld | bootRestarted | bootJournalInvalid | bootSlowFlash | bootFallback | bootCrcMismatch
  | chnClkLoss | chnPeerMismatch | chnLaneSpared | chnDown | spokeLost | ltTxcalFail | ltDacClipHi | ltTxDown
  | lasWarn | lasLow | lasFault | lrRxcalFail | lrAcqFailed | lrQualLow | lrCdNearLimit | lrRxPwrLow
  | lrAdcOverload | lrAdcClipHi | lrCycleSlip | lrEqSlip | lrSyncLoss | lrLoLost | lrLos | lrRxDown
  | fecBipOnly | fecUncorr | fecLdpcFail | fecLockLoss | fecSd | fecSf | ctCtnAny | ctBondSkewExc | ctLmfnErr
  | ctSmBdiRx | ctSmTim | ctOof | ctLof | ctnSf | ctnAisRx | ctnLckRx | ctnOciRx | ctnLof | ctnPmTim
  | ctnPmDeg | ctnPmBdiRx | ctnPtMismatch | ctnGmpErr | ctnGapMiss | tdmHistLost | tdmDiffExcess | tdmApsFop
  | tdmSwitched | tdmRealign | crySealFail | cryReplay | cryCryptoHold | cryKeyUnknown | cryRekeyLate
  | pelLate | pelWalkExc | pelSuspended | pelNbLost | derArmFail | derSplit | derRollback | derAis
  | derMissed | hllPrbsErr | hllMarginLow | hllIdleExitFail | hllStepFail | hllNegFail | hllLol | hllLos
  | hlpCtAbort | hlpHostMacctl | hlpRfRx | hlpLfRx | hlpFecDegrade | hlpFecUncorr | hlpAlignLoss
  | hlpLinkDown | qsDrainDisc | qsBrakeOn | qsGateCycleCut | qsGateDrop | qsClsNoRoom | qsQFullDrop
  | qsStageOvf | panRetireDrop | panTrackOvf | panMigUrgent | panXtsFault | panWalkFault | panScrubSlow
  | panSpareEmpty | panSpareLow | panHardFault | panUe | panDown | crrPcie | crrAbort | crrHalt
  | sbgKchTagFail | sbgSvcFault | sbgCryptoHoldAny | sbgWrapFail | sbgTrustRevokedPeer | sbgPeerAuthFail
  | sbgEntropyFail | aoTamperMesh | aoTamperTemp | aoTamperClk | aoTamperVolt | pgVhvn | pgVhvp | pgVio
  | pgVddOe | pgVddqPan | pgVddPan | pgVddhConv | pgVddConv | pgVddhSrds | pgVddSrds | pgVddCore | cryHoldAny
  | cryCtxAny | bellTxBlocked | bellPeerChange | bellGaspRx | bellDiscFail | clkPpsSlew | clkXoSuspect
  | clkXoLoss | clkRefSoft | clkRefDisq | clkBSwitch | clkBFreewheel | clkASwitch | clkAFreewheel
  | timPathChange | timTcUnsync | timTrigLate | timTbStep | timTbHold | monOvr | biasStartFail | biasRail
  | biasCalFail | biasWrap | biasNearRail | biasOutFault | biasUnlock | calSyscalFail | calConvStale
  | calConvReject | calConvNoSpare | calConvFail | trcFull | injInjected | telOvf
  deriving DecidableEq, Repr

/-- The indirect windows of R474, by name; the words a window stores are its cells. -/
inductive Win where
  | ltFir | ctTti | ctTsmap | ctCtn | tdmCtn | derLadder | qsCls | qsQ | qsQpol | qsCtn | qsCpol | qsShp
  | qsGate | panRetire | panRepair | cryCtx | pcLvl | trcBuf | almLog | telList | sbgSpan | sbgPub | timLink
  | timPce | monSeq | bellDesc
  deriving DecidableEq, Repr

/-- Every named piece of state. `live`, `sticky` and `mask` are the three bits of an alarm (R437); `win` and
`winNew` are a window word in force and the word written since the last commit (R153, R266). -/
inductive Cell where
  | id (c : IdCell)
  | boot (c : BootCell)
  | tkt (c : TktCell)
  | chn (c : ChnCell)
  | lt (c : LtCell)
  | las (c : LasCell)
  | lr (c : LrCell)
  | fec (c : FecCell)
  | ct (c : CtCell)
  | tdm (c : TdmCell)
  | pel (c : PelCell)
  | der (c : DerCell)
  | hl (c : HlCell)
  | qs (c : QsCell)
  | pan (c : PanCell)
  | crr (c : CrrCell)
  | sbg (c : SbgCell)
  | svc (c : SvcCell)
  | ao (c : AoCell)
  | cry (c : CryCell)
  | bell (c : BellCell)
  | clk (c : ClkCell)
  | tim (c : TimCell)
  | mon (c : MonCell)
  | bias (c : BiasCell)
  | cal (c : CalCell)
  | pwr (c : PwrCell)
  | alm (c : AlmCell)
  | pc (c : PcCell)
  | trc (c : TrcCell)
  | inj (c : InjCell)
  | crc (c : CrcCell)
  | tel (c : TelCell)
  | sys (c : SysCell)
  | live (a : Alm)
  | sticky (a : Alm)
  | mask (a : Alm)
  | win (w : Win)
  | winNew (w : Win)
  | winDirty (w : Win)
  deriving DecidableEq, Repr

/-- A number for each name, so that the store can be kept in one order. -/
def Cell.code : Cell → Nat
  | .id c => 0 + c.ctorIdx
  | .boot c => 1000 + c.ctorIdx
  | .tkt c => 2000 + c.ctorIdx
  | .chn c => 3000 + c.ctorIdx
  | .lt c => 4000 + c.ctorIdx
  | .las c => 5000 + c.ctorIdx
  | .lr c => 6000 + c.ctorIdx
  | .fec c => 7000 + c.ctorIdx
  | .ct c => 8000 + c.ctorIdx
  | .tdm c => 9000 + c.ctorIdx
  | .pel c => 10000 + c.ctorIdx
  | .der c => 11000 + c.ctorIdx
  | .hl c => 12000 + c.ctorIdx
  | .qs c => 13000 + c.ctorIdx
  | .pan c => 14000 + c.ctorIdx
  | .crr c => 15000 + c.ctorIdx
  | .sbg c => 16000 + c.ctorIdx
  | .svc c => 17000 + c.ctorIdx
  | .ao c => 18000 + c.ctorIdx
  | .cry c => 19000 + c.ctorIdx
  | .bell c => 20000 + c.ctorIdx
  | .clk c => 21000 + c.ctorIdx
  | .tim c => 22000 + c.ctorIdx
  | .mon c => 23000 + c.ctorIdx
  | .bias c => 24000 + c.ctorIdx
  | .cal c => 25000 + c.ctorIdx
  | .pwr c => 26000 + c.ctorIdx
  | .alm c => 27000 + c.ctorIdx
  | .pc c => 28000 + c.ctorIdx
  | .trc c => 29000 + c.ctorIdx
  | .inj c => 30000 + c.ctorIdx
  | .crc c => 31000 + c.ctorIdx
  | .tel c => 32000 + c.ctorIdx
  | .sys c => 33000 + c.ctorIdx
  | .live a => 34000 + a.ctorIdx
  | .sticky a => 35000 + a.ctorIdx
  | .mask a => 36000 + a.ctorIdx
  | .win a => 37000 + a.ctorIdx
  | .winNew a => 38000 + a.ctorIdx
  | .winDirty a => 39000 + a.ctorIdx

/-- Values after reset of the ID block that are not zero. -/
def IdCell.reset : IdCell → Nat
  | .family => 0x5703
  | .slots => 8
  | .stepMajor => 1
  | .deviceId => 0x3208
  | .vendorId => 7996
  | _ => 0

/-- Values after reset of the BOOT block that are not zero. -/
def BootCell.reset : BootCell → Nat
  | .phase => 15
  | .detail => 0xffffff
  | .step => 1
  | _ => 0

/-- Values after reset of the TKT block that are not zero. -/
def TktCell.reset : TktCell → Nat
  | .lastRecord => 0xffff
  | .jBlank => 1
  | _ => 0

/-- Values after reset of the CHN block that are not zero. -/
def ChnCell.reset : ChnCell → Nat
  | .retrainMax => 3
  | .failedLane => 63
  | .credits => 256
  | _ => 0

/-- Values after reset of the LT block that are not zero. -/
def LtCell.reset : LtCell → Nat
  | .nlpdGain | .useNlpd => 64
  | .bellDepth => 8
  | .backoff => 100
  | .txVoa => 40
  | .drvGain => 32
  | .pilotSeed | .pilotX => 0x7fffff
  | .pilotY => 0x555555
  | _ => 0

/-- Values after reset of the LAS block that are not zero. -/
def LasCell.reset : LasCell → Nat
  | .pinMargin => 3
  | .recoverS | .poll | .xactTimeout => 10
  | .tuneTimeout => 20
  | _ => 0

/-- Values after reset of the LR block that are not zero. -/
def LrCell.reset : LrCell → Nat
  | .ntaps => 41
  | .holdMs | .agcSlew | .tEq => 10
  | .qualK => 16
  | .fastRelock | .rxSf => 1
  | .peerSeed => 0x7fffff
  | .cdMin => 0xffffffffffff3cb0
  | .cdMax => 0xc350
  | .losThresh => 0xfffffffffffffed4
  | .adcTarget => 100
  | .ngmiMin => 0xcccd
  | .ngmiWarn => 0xe148
  | .tFreq | .tSignal | .tCarrier | .tSync | .tTiming => 5
  | .tCd => 60
  | .tLo => 50
  | .acqRetry => 3
  | .tVerify => 20
  | _ => 0

/-- Values after reset of the FEC block that are not zero. -/
def FecCell.reset : FecCell → Nat
  | .ucwSfThresh => 64
  | .earlyTerm | .stairClear => 1
  | .iterMax => 32
  | .sdMargin => 655
  | .prbs31 => 0x7fffffff
  | _ => 0

/-- Values after reset of the CT block that are not zero. -/
def CtCell.reset : CtCell → Nat
  | .lofMs => 3
  | .skewMaxUs => 2000
  | _ => 0

/-- Values after reset of the TDM block that are not zero. -/
def TdmCell.reset : TdmCell → Nat
  | .wtrMin => 5
  | .guardUs => 4
  | .revertive | .bidir => 1
  | .diffMaxUs => 0x61a8
  | _ => 0

/-- Values after reset of the PEL block that are not zero. -/
def PelCell.reset : PelCell → Nat
  | .mu => 16
  | .negGuard => 1
  | _ => 0

/-- Values after reset of the DER block that are not zero. -/
def DerCell.reset : DerCell → Nat
  | .commitLead => 16
  | .armTmoMs => 500
  | .upMargin => 3277
  | .downMargin => 328
  | .downWin => 2
  | .upWin => 8
  | .holdoffS => 300
  | _ => 0

/-- Values after reset of the HL block that are not zero. -/
def HlCell.reset : HlCell → Nat
  | .precodePol => 2
  | .escanEye | .escanPhase => 1
  | .escanDwell | .negTmo | .tTrain => 20
  | .stepRetry => 3
  | .tLock => 10
  | .mutWarn => 256
  | .readyMut => 384
  | .pfcQuanta => 0xffff
  | .mtu => 9216
  | .pfcRefresh => 100
  | .degSym => 0x2710
  | _ => 0

/-- Values after reset of the QS block that are not zero. -/
def QsCell.reset : QsCell → Nat
  | .drainMs => 100
  | .ctThresh => 512
  | .dieHi => 1536
  | .dieLo => 1280
  | .adminLen => 1
  | .gateCycle => 0xf4240
  | _ => 0

/-- Values after reset of the PAN block that are not zero. -/
def PanCell.reset : PanCell → Nat
  | .lapMax => 10
  | .spareWarn => 24
  | .mergeNs | .migCap => 20
  | .scrubEn => 1
  | .retireUrgent => 32
  | .wCrr | .wScrub => 2
  | .wMig => 4
  | _ => 0

/-- Values after reset of the CRR block that are not zero. -/
def CrrCell.reset : CrrCell → Nat
  | .resumeMax => 3
  | .chEn => 1
  | _ => 0

/-- Values after reset of the SBG block that are not zero. -/
def SbgCell.reset : SbgCell → Nat
  | .kaTmoMs => 5000
  | .spanRekeyH => 24
  | _ => 0

/-- Values after reset of the SVC block that are not zero. -/
def SvcCell.reset : SvcCell → Nat
  | .suspMaxUs => 1000
  | _ => 0

/-- Values after reset of the AO block that are not zero. -/
def AoCell.reset : AoCell → Nat
  | .tamperHoldS => 10
  | .restartHoldMs => 100
  | _ => 0

/-- Values after reset of the CRY block that are not zero. -/
def CryCell.reset : CryCell → Nat
  | .rekeyLog2 => 31
  | .rekeyS => 3600
  | _ => 0

/-- Values after reset of the BELL block that are not zero. -/
def BellCell.reset : BellCell → Nat
  | .captureDb => 6
  | .detThr => 12
  | .code => 255
  | .tParkS | .ksDepth => 10
  | .discTmo => 50
  | .tHelloMs => 100
  | .rssi | .noise => 0x8000
  | .ksLevel => 15
  | .expNode => 4095
  | _ => 0

/-- Values after reset of the CLK block that are not zero. -/
def ClkCell.reset : ClkCell → Nat
  | .hardPpb => 4600
  | .softPpb => 2000
  | .persist => 20
  | .agree | .dpllState => 5
  | .wtrS => 300
  | .slope => 150
  | .home | .selected => 15
  | .dpllMode => 1
  | .prio => 0xffffffff
  | .holdAvgS => 60
  | .ppsWidth | .ppsSlewLim => 100
  | _ => 0

/-- Values after reset of the TIM block that are not zero. -/
def TimCell.reset : TimCell → Nat
  | .stepEn | .stepUs => 1
  | .freqLim => 1000
  | .kp => 0xb333
  | .ki => 0x4ccd
  | .sampTmoS => 10
  | .lockNs => 50
  | .trigWidth => 100
  | .trigPeriod => 0x3b9aca00
  | _ => 0

/-- Values after reset of the MON block that are not zero. -/
def MonCell.reset : MonCell → Nat
  | .uncal | .fDecimM1 => 1
  | .fOrder => 3
  | _ => 0

/-- Values after reset of the BIAS block that are not zero. -/
def BiasCell.reset : BiasCell → Nat
  | .biasEn => 1
  | .lOrder => 4
  | .lDecimM1 => 1999
  | .biasTmo | .phaseAcqMs => 50
  | .resetSlew => 10
  | .wrapMv => 0x36b0
  | .ptKi => 256
  | .lockThr => 32
  | _ => 0

/-- Values after reset of the CAL block that are not zero. -/
def CalCell.reset : CalCell → Nat
  | .calTol | .tolGain | .tolOfs | .tolSkew => 5
  | .navgLog2 => 12
  | .calrefUv => 0x1e8480
  | .sliceMs => 4
  | .bgEn => 255
  | _ => 0

/-- Values after reset of the PWR block that are not zero. -/
def PwrCell.reset : PwrCell → Nat
  | .ksDrainMs => 50
  | _ => 0

/-- Values after reset of the TRC block that are not zero. -/
def TrcCell.reset : TrcCell → Nat
  | .trcK => 16
  | _ => 0

/-- Values after reset of the CRC block that are not zero. -/
def CrcCell.reset : CrcCell → Nat
  | .widthM1 => 31
  | _ => 0

/-- Values after reset of the SYS block that are not zero. -/
def SysCell.reset : SysCell → Nat
  | .diePresent => 255
  | .aoOn | .sysRstN | .perstN | .faultSeen | .jtagIr => 1
  | _ => 0

/-- The bits the tables call events: their live bit always reads 0 (R437). -/
def Alm.isEvent : Alm → Bool
  | .ltDacClipHi | .lrAdcClipHi | .lrCycleSlip | .lrEqSlip | .lrSyncLoss | .fecBipOnly | .fecUncorr
  | .fecLdpcFail | .fecLockLoss | .ctnGmpErr | .ctnGapMiss | .tdmSwitched | .tdmRealign | .cryReplay
  | .cryKeyUnknown | .derArmFail | .derRollback | .hllPrbsErr | .hllIdleExitFail | .hllStepFail | .hllNegFail
  | .hlpCtAbort | .hlpHostMacctl | .hlpFecUncorr | .hlpAlignLoss | .qsDrainDisc | .qsGateCycleCut
  | .qsGateDrop | .qsClsNoRoom | .qsQFullDrop | .panRetireDrop | .panTrackOvf | .panScrubSlow | .panHardFault
  | .panUe | .crrPcie | .crrAbort | .sbgKchTagFail | .sbgWrapFail | .sbgTrustRevokedPeer | .sbgPeerAuthFail
  | .bellPeerChange | .bellGaspRx | .clkRefDisq | .clkBSwitch | .clkASwitch | .timPathChange | .timTcUnsync
  | .timTrigLate | .timTbStep | .biasStartFail | .biasWrap | .calSyscalFail | .calConvReject | .injInjected
  | .telOvf => true
  | _ => false

/-- The bits whose table row says that they drive FAULT_N while live (R439). -/
def Alm.drivesFault : Alm → Bool
  | .chnDown | .ltTxDown | .lasFault | .lrRxDown | .fecSf | .ctBondSkewExc | .ctLof | .derAis | .hlpLinkDown
  | .panXtsFault | .panWalkFault | .panDown | .pgVhvn | .pgVhvp | .cryHoldAny | .biasOutFault | .calConvFail => true
  | _ => false

/-- The SEC bits, which only a CLEAR_SEC ticket clears (R4, R344). -/
def Alm.isSec : Alm → Bool
  | .sbgKchTagFail | .sbgSvcFault | .sbgCryptoHoldAny | .sbgWrapFail | .sbgTrustRevokedPeer
  | .sbgPeerAuthFail | .sbgEntropyFail | .aoTamperMesh | .aoTamperTemp | .aoTamperClk | .aoTamperVolt
  | .injInjected => true
  | _ => false

/-- The bits whose mask resets to 1. -/
def Alm.maskSet : Alm → Bool
  | .bootFlashHeld | .bootRestarted | .bootJournalInvalid | .bootSlowFlash | .bootFallback | .bootCrcMismatch
  | .chnClkLoss | .chnPeerMismatch | .chnLaneSpared | .chnDown | .spokeLost | .ltTxcalFail | .ltTxDown
  | .lasWarn | .lasLow | .lasFault | .lrAcqFailed | .lrLoLost | .lrLos | .lrRxDown | .fecUncorr | .fecSd
  | .fecSf | .ctBondSkewExc | .ctLof | .crySealFail | .cryCryptoHold | .pelSuspended | .pelNbLost | .derSplit
  | .derRollback | .derAis | .derMissed | .hllNegFail | .hllLol | .hllLos | .hlpFecUncorr | .hlpAlignLoss
  | .hlpLinkDown | .qsQFullDrop | .qsStageOvf | .panXtsFault | .panWalkFault | .panSpareEmpty | .panUe
  | .panDown | .crrAbort | .crrHalt | .sbgKchTagFail | .sbgSvcFault | .sbgCryptoHoldAny | .sbgWrapFail
  | .sbgTrustRevokedPeer | .sbgPeerAuthFail | .sbgEntropyFail | .aoTamperMesh | .aoTamperTemp | .aoTamperClk
  | .aoTamperVolt | .pgVhvn | .pgVhvp | .pgVio | .pgVddOe | .pgVddqPan | .pgVddPan | .pgVddhConv | .pgVddConv
  | .pgVddhSrds | .pgVddSrds | .pgVddCore | .cryHoldAny | .cryCtxAny | .bellGaspRx | .bellDiscFail
  | .clkXoSuspect | .clkXoLoss | .clkRefDisq | .clkBFreewheel | .clkAFreewheel | .timTbHold | .biasRail
  | .biasOutFault | .biasUnlock | .calConvNoSpare | .calConvFail | .injInjected | .telOvf => true
  | _ => false

/-- The configuration fields (CFG-B and CFG-T) of the TKT block. -/
def TktCell.isCfg : TktCell → Bool
  | .ringBase | .ringSize | .nodeId => true
  | _ => false

/-- The configuration fields (CFG-B and CFG-T) of the CHN block. -/
def ChnCell.isCfg : ChnCell → Bool
  | .retrainMax | .bondBw | .tandemBw | .pelEn | .portEn => true
  | _ => false

/-- The configuration fields (CFG-B and CFG-T) of the LT block. -/
def LtCell.isCfg : LtCell → Bool
  | .lineStd | .rs | .const | .entropy | .nlpdBank | .pilotGain | .fecRate | .rolloff | .netK | .nlpdGain
  | .bellDepth | .txcalSrc | .mute | .txEn | .backoff | .txVoa | .drvGain | .pilotSeed | .tribGain
  | .tribSkew | .yPhase | .xPhase => true
  | _ => false

/-- The configuration fields (CFG-B and CFG-T) of the LAS block. -/
def LasCell.isCfg : LasCell → Bool
  | .lasEn | .pinMargin | .power | .gridN | .recoverS | .tuneTimeout | .poll | .xactTimeout => true
  | _ => false

/-- The configuration fields (CFG-B and CFG-T) of the LR block. -/
def LrCell.isCfg : LrCell → Bool
  | .lineStd | .rs | .const | .entropy | .pilotGain | .fecRate | .rolloff | .netK | .rxcalSrc | .ntaps
  | .holdMs | .qualK | .fastRelock | .cdMode | .rxEn | .seedSrc | .peerSeed | .cdSet | .cdMin | .cdMax
  | .losThresh | .agcSlew | .adcTarget | .ngmiMin | .ngmiWarn | .tFreq | .tCd | .tSignal | .tLo | .tCarrier
  | .tSync | .tEq | .tTiming | .acqRetry | .tVerify | .tribGain | .tribSkew | .yPhase | .xPhase => true
  | _ => false

/-- The configuration fields (CFG-B and CFG-T) of the FEC block. -/
def FecCell.isCfg : FecCell → Bool
  | .ucwSfThresh | .earlyTerm | .iterMax | .sdMargin => true
  | _ => false

/-- The configuration fields (CFG-B and CFG-T) of the CT block. -/
def CtCell.isCfg : CtCell → Bool
  | .lofMs | .smTimAct | .framerEn | .skewMaxUs | .members | .group | .bondEn => true
  | _ => false

/-- The configuration fields (CFG-B and CFG-T) of the TDM block. -/
def TdmCell.isCfg : TdmCell → Bool
  | .holdoff | .wtrMin | .guardUs | .revertive | .bidir | .port | .pairEn | .diffMaxUs => true
  | _ => false

/-- The configuration fields (CFG-B and CFG-T) of the PEL block. -/
def PelCell.isCfg : PelCell → Bool
  | .mu | .negGuard | .nbDn | .nbUp | .pelOn => true
  | _ => false

/-- The configuration fields (CFG-B and CFG-T) of the DER block. -/
def DerCell.isCfg : DerCell → Bool
  | .commitLead | .armTmoMs | .autoEn | .remoteAccept | .upMargin | .downMargin | .downWin | .upWin
  | .holdoffS => true
  | _ => false

/-- The configuration fields (CFG-B and CFG-T) of the HL block. -/
def HlCell.isCfg : HlCell → Bool
  | .txInv | .rxInv | .prbsPat | .prbsChk | .prbsGen | .precodePol | .forcePreTx | .forcePreRx | .role
  | .forceGear | .forceCm2 | .forceCm1 | .forceCp1 | .escanEye | .escanLevel | .escanPhase | .escanDwell
  | .negTmo | .tTrain | .stepRetry | .tLock | .mutWarn | .readyMut | .width | .speed | .mode | .tpContainer
  | .fecMode | .loop | .idleReq | .portEn | .pfcQuanta | .mtu | .pfcEn | .pfcRefresh | .degSym => true
  | _ => false

/-- The configuration fields (CFG-B and CFG-T) of the QS block. -/
def QsCell.isCfg : QsCell → Bool
  | .drainMs | .ctThresh | .dieHi | .dieLo | .pcpColour | .colourSrc | .clsMode | .missDrop | .missQueue
  | .gateEn | .gateTb | .adminLen | .gateCycle | .gateBaseNs | .gateBaseSLo | .gateBaseSHi => true
  | _ => false

/-- The configuration fields (CFG-B and CFG-T) of the PAN block. -/
def PanCell.isCfg : PanCell → Bool
  | .lapMax | .spareWarn | .mergeNs | .scrubEn | .retireUrgent | .migCap | .wCrr | .wMig | .wScrub => true
  | _ => false

/-- The configuration fields (CFG-B and CFG-T) of the CRR block. -/
def CrrCell.isCfg : CrrCell → Bool
  | .resumeMax | .chEn | .winBase | .winSize | .winEn | .winTicket | .winTelemetry => true
  | _ => false

/-- The configuration fields (CFG-B and CFG-T) of the SBG block. -/
def SbgCell.isCfg : SbgCell → Bool
  | .kaTmoMs | .spanRekeyH => true
  | _ => false

/-- The configuration fields (CFG-B and CFG-T) of the SVC block. -/
def SvcCell.isCfg : SvcCell → Bool
  | .suspMaxUs => true
  | _ => false

/-- The configuration fields (CFG-B and CFG-T) of the AO block. -/
def AoCell.isCfg : AoCell → Bool
  | .tamperHoldS | .restartHoldMs => true
  | _ => false

/-- The configuration fields (CFG-B and CFG-T) of the CRY block. -/
def CryCell.isCfg : CryCell → Bool
  | .rekeyLog2 | .rekeyS => true
  | _ => false

/-- The configuration fields (CFG-B and CFG-T) of the BELL block. -/
def BellCell.isCfg : BellCell → Bool
  | .captureDb | .detThr | .code | .compat | .adopt | .wakeEn | .ksKey | .bellEn | .tParkS | .discTmo
  | .tHelloMs | .ksDepth | .ksLevel => true
  | _ => false

/-- The configuration fields (CFG-B and CFG-T) of the CLK block. -/
def ClkCell.isCfg : ClkCell → Bool
  | .xoFreq | .hardPpb | .softPpb | .persist | .agree | .wtrS | .monEn | .refFreq | .slope | .home | .bw
  | .dpllMode | .prio | .holdAvgS | .ppsEn | .ppsTb | .ppsWidth | .ppsSlewLim | .ppsOfs | .squelch | .freq1
  | .freq0 => true
  | _ => false

/-- The configuration fields (CFG-B and CFG-T) of the TIM block. -/
def TimCell.isCfg : TimCell → Bool
  | .setNs | .setSecLo | .setSecHi | .src | .osmcCarrier | .stepEn | .freqLim | .kp | .ki | .sampTmoS
  | .lockNs | .stepUs | .ppsDelay | .hostofs | .trigMode | .trigTb | .trigWidth | .trigPeriod | .trigTgtNs
  | .trigTgtSecLo | .trigTgtSecHi | .tsTb | .tcMode => true
  | _ => false

/-- The configuration fields (CFG-B and CFG-T) of the MON block. -/
def MonCell.isCfg : MonCell → Bool
  | .syncMask | .seqLen | .monEn | .fEn | .fDcFreeze | .fDcEn | .fDcK | .fOrder | .fCh | .fDecimM1 | .fIshift
  | .fCshift => true
  | _ => false

/-- The configuration fields (CFG-B and CFG-T) of the BIAS block. -/
def BiasCell.isCfg : BiasCell → Bool
  | .wrapAuto | .biasSrc | .biasEn | .lOrder | .lDecimM1 | .biasTmo | .phaseAcqMs | .resetSlew | .wrapMv
  | .toneHz | .ditherMv | .pol | .refPhase | .ptKi | .lockThr | .initMv | .vpiMv => true
  | _ => false

/-- The configuration fields (CFG-B and CFG-T) of the CAL block. -/
def CalCell.isCfg : CalCell → Bool
  | .calTol | .navgLog2 | .slotMask | .calrefUv | .sliceMs | .tolGain | .tolOfs | .tolSkew | .bgEn => true
  | _ => false

/-- The configuration fields (CFG-B and CFG-T) of the PWR block. -/
def PwrCell.isCfg : PwrCell → Bool
  | .ksDrainMs => true
  | _ => false

/-- The configuration fields (CFG-B and CFG-T) of the TRC block. -/
def TrcCell.isCfg : TrcCell → Bool
  | .trcK | .trcMode | .tagCw | .tagRx | .tagTx | .trcEn => true
  | _ => false

/-- The configuration fields (CFG-B and CFG-T) of the INJ block. -/
def InjCell.isCfg : InjCell → Bool
  | .testEnable | .uType | .uMode | .uPath | .uTarget | .uParam => true
  | _ => false

/-- The configuration fields (CFG-B and CFG-T) of the CRC block. -/
def CrcCell.isCfg : CrcCell → Bool
  | .poly | .init | .xorout | .widthM1 | .refin | .refout | .space | .crcDie | .addr | .len => true
  | _ => false

/-- The configuration fields (CFG-B and CFG-T) of the TEL block. -/
def TelCell.isCfg : TelCell → Bool
  | .telBase | .periodMs | .sizeLog2 | .sign | .kind => true
  | _ => false

/-- The cells that hold configuration: CFG-B and CFG-T fields, alarm masks and window words. -/
def Cell.isCfg : Cell → Bool
  | .tkt c => c.isCfg
  | .chn c => c.isCfg
  | .lt c => c.isCfg
  | .las c => c.isCfg
  | .lr c => c.isCfg
  | .fec c => c.isCfg
  | .ct c => c.isCfg
  | .tdm c => c.isCfg
  | .pel c => c.isCfg
  | .der c => c.isCfg
  | .hl c => c.isCfg
  | .qs c => c.isCfg
  | .pan c => c.isCfg
  | .crr c => c.isCfg
  | .sbg c => c.isCfg
  | .svc c => c.isCfg
  | .ao c => c.isCfg
  | .cry c => c.isCfg
  | .bell c => c.isCfg
  | .clk c => c.isCfg
  | .tim c => c.isCfg
  | .mon c => c.isCfg
  | .bias c => c.isCfg
  | .cal c => c.isCfg
  | .pwr c => c.isCfg
  | .trc c => c.isCfg
  | .inj c => c.isCfg
  | .crc c => c.isCfg
  | .tel c => c.isCfg
  | .mask _ | .win _ | .winNew _ | .winDirty _ => true
  | _ => false

/-- The bits of a carrier die (its live bits read 0 while the carrier is not AWAKE, R430). -/
def Alm.onDie : Alm → Bool
  | .chnClkLoss | .chnPeerMismatch | .chnLaneSpared | .chnDown | .spokeLost | .ltTxcalFail | .ltDacClipHi
  | .ltTxDown | .lrRxcalFail | .lrAcqFailed | .lrQualLow | .lrCdNearLimit | .lrRxPwrLow | .lrAdcOverload
  | .lrAdcClipHi | .lrCycleSlip | .lrEqSlip | .lrSyncLoss | .lrLoLost | .lrLos | .lrRxDown | .fecBipOnly
  | .fecUncorr | .fecLdpcFail | .fecLockLoss | .fecSd | .fecSf | .ctCtnAny | .ctBondSkewExc | .ctLmfnErr
  | .ctSmBdiRx | .ctSmTim | .ctOof | .ctLof | .ctnSf | .ctnAisRx | .ctnLckRx | .ctnOciRx | .ctnLof
  | .ctnPmTim | .ctnPmDeg | .ctnPmBdiRx | .ctnPtMismatch | .ctnGmpErr | .ctnGapMiss | .tdmHistLost
  | .tdmDiffExcess | .tdmApsFop | .tdmSwitched | .tdmRealign | .crySealFail | .cryReplay | .cryCryptoHold
  | .cryKeyUnknown | .cryRekeyLate | .pelLate | .pelWalkExc | .pelSuspended | .pelNbLost | .derArmFail
  | .derSplit | .derRollback | .derAis | .derMissed | .hllPrbsErr | .hllMarginLow | .hllIdleExitFail
  | .hllStepFail | .hllNegFail | .hllLol | .hllLos | .hlpCtAbort | .hlpHostMacctl | .hlpRfRx | .hlpLfRx
  | .hlpFecDegrade | .hlpFecUncorr | .hlpAlignLoss | .hlpLinkDown | .qsDrainDisc | .qsBrakeOn
  | .qsGateCycleCut | .qsGateDrop | .qsClsNoRoom | .qsQFullDrop | .qsStageOvf | .panRetireDrop | .panTrackOvf
  | .panMigUrgent | .panXtsFault | .panWalkFault | .panScrubSlow | .panSpareEmpty | .panSpareLow
  | .panHardFault | .panUe | .panDown | .crrPcie | .crrAbort | .crrHalt | .cryHoldAny | .cryCtxAny | .trcFull
  | .injInjected | .telOvf => true
  | _ => false

/-- The bits of a LAS port or a Lantern slot block: reported at carrier level with that index (R36, R94). -/
def Alm.onSlot : Alm → Bool
  | .lasWarn | .lasLow | .lasFault | .bellTxBlocked | .bellPeerChange | .bellGaspRx | .bellDiscFail | .monOvr
  | .biasStartFail | .biasRail | .biasCalFail | .biasWrap | .biasNearRail | .biasOutFault | .biasUnlock => true
  | _ => false

/-- The bits of a container entry of CT_CTN or TDM_CTN. -/
def Alm.inCtn : Alm → Bool
  | .ctnSf | .ctnAisRx | .ctnLckRx | .ctnOciRx | .ctnLof | .ctnPmTim | .ctnPmDeg | .ctnPmBdiRx
  | .ctnPtMismatch | .ctnGmpErr | .ctnGapMiss | .tdmHistLost | .tdmDiffExcess | .tdmApsFop | .tdmSwitched
  | .tdmRealign => true
  | _ => false

/-- The bits of an entry of CRY_CTX. -/
def Alm.inCtx : Alm → Bool
  | .crySealFail | .cryReplay | .cryCryptoHold | .cryKeyUnknown | .cryRekeyLate => true
  | _ => false

/-- The bit of `ALM_DIE_SUM` that stands for the block of an alarm of a carrier die (R440); 0: none. -/
def Alm.sumBit : Alm → Nat
  | .chnClkLoss | .chnPeerMismatch | .chnLaneSpared | .chnDown | .spokeLost => 13
  | .ltTxcalFail | .ltDacClipHi | .ltTxDown => 5
  | .lrRxcalFail | .lrAcqFailed | .lrQualLow | .lrCdNearLimit | .lrRxPwrLow | .lrAdcOverload | .lrAdcClipHi
  | .lrCycleSlip | .lrEqSlip | .lrSyncLoss | .lrLoLost | .lrLos | .lrRxDown => 6
  | .fecBipOnly | .fecUncorr | .fecLdpcFail | .fecLockLoss | .fecSd | .fecSf => 7
  | .ctCtnAny | .ctBondSkewExc | .ctLmfnErr | .ctSmBdiRx | .ctSmTim | .ctOof | .ctLof | .ctnSf | .ctnAisRx
  | .ctnLckRx | .ctnOciRx | .ctnLof | .ctnPmTim | .ctnPmDeg | .ctnPmBdiRx | .ctnPtMismatch | .ctnGmpErr
  | .ctnGapMiss | .tdmHistLost | .tdmDiffExcess | .tdmApsFop | .tdmSwitched | .tdmRealign => 4
  | .crySealFail | .cryReplay | .cryCryptoHold | .cryKeyUnknown | .cryRekeyLate | .cryHoldAny | .cryCtxAny => 10
  | .pelLate | .pelWalkExc | .pelSuspended | .pelNbLost => 8
  | .derArmFail | .derSplit | .derRollback | .derAis | .derMissed => 9
  | .hllPrbsErr | .hllMarginLow | .hllIdleExitFail | .hllStepFail | .hllNegFail | .hllLol | .hllLos => 1
  | .hlpCtAbort | .hlpHostMacctl | .hlpRfRx | .hlpLfRx | .hlpFecDegrade | .hlpFecUncorr | .hlpAlignLoss
  | .hlpLinkDown => 2
  | .qsDrainDisc | .qsBrakeOn | .qsGateCycleCut | .qsGateDrop | .qsClsNoRoom | .qsQFullDrop | .qsStageOvf => 3
  | .panRetireDrop | .panTrackOvf | .panMigUrgent | .panXtsFault | .panWalkFault | .panScrubSlow
  | .panSpareEmpty | .panSpareLow | .panHardFault | .panUe | .panDown => 11
  | .crrPcie | .crrAbort | .crrHalt => 12
  | .trcFull => 14
  | .injInjected => 15
  | _ => 0

/-- The bit number of an alarm in its registers. -/
def Alm.bitNo : Alm → Nat
  | .bootCrcMismatch | .chnDown | .spokeLost | .ltTxDown | .lasFault | .lrRxDown | .fecSf | .ctLof | .ctnSf
  | .tdmHistLost | .crySealFail | .pelNbLost | .derMissed | .hllLos | .hlpLinkDown | .qsStageOvf | .panDown
  | .crrHalt | .sbgEntropyFail | .aoTamperVolt | .pgVddCore | .cryCtxAny | .bellDiscFail | .clkAFreewheel
  | .timTbHold | .monOvr | .biasUnlock | .calConvFail | .trcFull | .injInjected | .telOvf => 0
  | .bootFallback | .chnLaneSpared | .ltDacClipHi | .lasLow | .lrLos | .fecSd | .ctOof | .ctnAisRx
  | .tdmDiffExcess | .cryReplay | .pelSuspended | .derAis | .hllLol | .hlpAlignLoss | .qsQFullDrop | .panUe
  | .crrAbort | .sbgPeerAuthFail | .aoTamperClk | .pgVddSrds | .cryHoldAny | .bellGaspRx | .clkASwitch
  | .timTbStep | .biasOutFault | .calConvNoSpare => 1
  | .bootSlowFlash | .chnPeerMismatch | .ltTxcalFail | .lasWarn | .lrLoLost | .fecLockLoss | .ctSmTim
  | .ctnLckRx | .tdmApsFop | .cryCryptoHold | .pelWalkExc | .derRollback | .hllNegFail | .hlpFecUncorr
  | .qsClsNoRoom | .panHardFault | .crrPcie | .sbgTrustRevokedPeer | .aoTamperTemp | .pgVddhSrds
  | .bellPeerChange | .clkBFreewheel | .timTrigLate | .biasNearRail | .calConvReject => 2
  | .bootJournalInvalid | .chnClkLoss | .lrSyncLoss | .fecLdpcFail | .ctSmBdiRx | .ctnOciRx | .tdmSwitched
  | .cryKeyUnknown | .pelLate | .derSplit | .hllStepFail | .hlpFecDegrade | .qsGateDrop | .panSpareLow
  | .sbgWrapFail | .aoTamperMesh | .pgVddConv | .bellTxBlocked | .clkBSwitch | .timTcUnsync | .biasWrap
  | .calConvStale => 3
  | .bootRestarted | .lrEqSlip | .fecUncorr | .ctLmfnErr | .ctnLof | .tdmRealign | .cryRekeyLate
  | .derArmFail | .hllIdleExitFail | .hlpLfRx | .qsGateCycleCut | .panSpareEmpty | .sbgCryptoHoldAny
  | .pgVddhConv | .clkRefDisq | .timPathChange | .biasCalFail | .calSyscalFail => 4
  | .bootFlashHeld | .lrCycleSlip | .fecBipOnly | .ctBondSkewExc | .ctnPmTim | .hllMarginLow | .hlpRfRx
  | .qsBrakeOn | .panScrubSlow | .sbgSvcFault | .pgVddPan | .clkRefSoft | .biasRail => 5
  | .lrAdcClipHi | .ctCtnAny | .ctnPmDeg | .hllPrbsErr | .hlpHostMacctl | .qsDrainDisc | .panWalkFault
  | .sbgKchTagFail | .pgVddqPan | .clkXoLoss | .biasStartFail => 6
  | .lrAdcOverload | .ctnPmBdiRx | .hlpCtAbort | .panXtsFault | .pgVddOe | .clkXoSuspect => 7
  | .lrRxPwrLow | .ctnPtMismatch | .panMigUrgent | .pgVio | .clkPpsSlew => 8
  | .lrCdNearLimit | .ctnGmpErr | .panTrackOvf | .pgVhvp => 9
  | .lrQualLow | .ctnGapMiss | .panRetireDrop | .pgVhvn => 10
  | .lrAcqFailed => 11
  | .lrRxcalFail => 12

/-- The address of the sticky register of an alarm, or of its window's _ADDR register (R442). -/
def Alm.addr (a : Alm) (d i : Nat) : Nat :=
  match a with
  | .bootFlashHeld | .bootRestarted | .bootJournalInvalid | .bootSlowFlash | .bootFallback | .bootCrcMismatch => 0x1018
  | .chnClkLoss | .chnPeerMismatch | .chnLaneSpared | .chnDown => 0x10000000 + d * 0x1000000 + 0x580014 + i * 0x1000
  | .spokeLost => 0x10000000 + d * 0x1000000 + 0x582014
  | .ltTxcalFail | .ltDacClipHi | .ltTxDown => 0x10000000 + d * 0x1000000 + 0x300204
  | .lasWarn | .lasLow | .lasFault => 0x3014 + d * 0x100
  | .lrRxcalFail | .lrAcqFailed | .lrQualLow | .lrCdNearLimit | .lrRxPwrLow | .lrAdcOverload | .lrAdcClipHi
  | .lrCycleSlip | .lrEqSlip | .lrSyncLoss | .lrLoLost | .lrLos | .lrRxDown => 0x10000000 + d * 0x1000000 + 0x380204
  | .fecBipOnly | .fecUncorr | .fecLdpcFail | .fecLockLoss | .fecSd | .fecSf => 0x10000000 + d * 0x1000000 + 0x400204
  | .ctCtnAny | .ctBondSkewExc | .ctLmfnErr | .ctSmBdiRx | .ctSmTim | .ctOof | .ctLof => 0x10000000 + d * 0x1000000 + 0x200204
  | .ctnSf | .ctnAisRx | .ctnLckRx | .ctnOciRx | .ctnLof | .ctnPmTim | .ctnPmDeg | .ctnPmBdiRx
  | .ctnPtMismatch | .ctnGmpErr | .ctnGapMiss => 0x10000000 + d * 0x1000000 + 0x200040
  | .tdmHistLost | .tdmDiffExcess | .tdmApsFop | .tdmSwitched | .tdmRealign => 0x10000000 + d * 0x1000000 + 0x20C010
  | .crySealFail | .cryReplay | .cryCryptoHold | .cryKeyUnknown | .cryRekeyLate => 0x10000000 + d * 0x1000000 + 0x500020
  | .pelLate | .pelWalkExc | .pelSuspended | .pelNbLost => 0x10000000 + d * 0x1000000 + 0x480204
  | .derArmFail | .derSplit | .derRollback | .derAis | .derMissed => 0x10000000 + d * 0x1000000 + 0x481204
  | .hllPrbsErr | .hllMarginLow | .hllIdleExitFail | .hllStepFail | .hllNegFail | .hllLol | .hllLos => 0x10000000 + d * 0x1000000 + 0x204 + i * 0x400
  | .hlpCtAbort | .hlpHostMacctl | .hlpRfRx | .hlpLfRx | .hlpFecDegrade | .hlpFecUncorr | .hlpAlignLoss
  | .hlpLinkDown => 0x10000000 + d * 0x1000000 + 0x8204 + i * 0x400
  | .qsDrainDisc | .qsBrakeOn | .qsGateCycleCut | .qsGateDrop | .qsClsNoRoom | .qsQFullDrop | .qsStageOvf => 0x10000000 + d * 0x1000000 + 0x100204
  | .panRetireDrop | .panTrackOvf | .panMigUrgent | .panXtsFault | .panWalkFault | .panScrubSlow
  | .panSpareEmpty | .panSpareLow | .panHardFault | .panUe | .panDown => 0x10000000 + d * 0x1000000 + 0x600204
  | .crrPcie | .crrAbort | .crrHalt => 0x10000000 + d * 0x1000000 + 0x680E04
  | .sbgKchTagFail | .sbgSvcFault | .sbgCryptoHoldAny | .sbgWrapFail | .sbgTrustRevokedPeer
  | .sbgPeerAuthFail | .sbgEntropyFail => 0x5014
  | .aoTamperMesh | .aoTamperTemp | .aoTamperClk | .aoTamperVolt => 0x08000000 + 0x104
  | .pgVhvn | .pgVhvp | .pgVio | .pgVddOe | .pgVddqPan | .pgVddPan | .pgVddhConv | .pgVddConv | .pgVddhSrds
  | .pgVddSrds | .pgVddCore => 0x08000000 + 0x404
  | .cryHoldAny | .cryCtxAny => 0x10000000 + d * 0x1000000 + 0x500204
  | .bellTxBlocked | .bellPeerChange | .bellGaspRx | .bellDiscFail => 0x08000000 + 0x100204 + d * 0x1000
  | .clkPpsSlew | .clkXoSuspect | .clkXoLoss | .clkRefSoft | .clkRefDisq | .clkBSwitch | .clkBFreewheel
  | .clkASwitch | .clkAFreewheel => 0x7E04
  | .timPathChange | .timTcUnsync | .timTrigLate | .timTbStep | .timTbHold => 0x8E04
  | .monOvr => 0x08000000 + 0x200204 + d * 0x1000
  | .biasStartFail | .biasRail | .biasCalFail | .biasWrap | .biasNearRail | .biasOutFault | .biasUnlock => 0x08000000 + 0x300204 + d * 0x1000
  | .calSyscalFail | .calConvStale | .calConvReject | .calConvNoSpare | .calConvFail => 0x08000000 + 0x400204
  | .trcFull => 0x10000000 + d * 0x1000000 + 0x701204
  | .injInjected => 0x10000000 + d * 0x1000000 + 0x780204
  | .telOvf => 0x10000000 + d * 0x1000000 + 0x683204

/-- Where a cell of the state is: its name, its die, slot or LAS port, and its index. -/
structure Key where
  cell : Cell
  die : Nat
  idx : Nat
  deriving DecidableEq, Repr

/-- The value a name has after reset (for a window word and a mask, by its place). -/
def Key.reset (k : Key) : Nat :=
  match k.cell with
  | .id c => c.reset
  | .boot c => c.reset
  | .tkt c => c.reset
  | .chn c => c.reset
  | .lt c => c.reset
  | .las c => c.reset
  | .lr c => c.reset
  | .fec c => c.reset
  | .ct c => c.reset
  | .tdm c => c.reset
  | .pel c => c.reset
  | .der c => c.reset
  | .hl c => c.reset
  | .qs c => c.reset
  | .pan c => c.reset
  | .crr c => c.reset
  | .sbg c => c.reset
  | .svc c => c.reset
  | .ao c => c.reset
  | .cry c => c.reset
  | .bell c => c.reset
  | .clk c => c.reset
  | .tim c => c.reset
  | .mon c => c.reset
  | .bias c => c.reset
  | .cal c => c.reset
  | .pwr c => c.reset
  | .trc c => c.reset
  | .crc c => c.reset
  | .sys c => c.reset
  | .mask a => if a.maskSet then 1 else 0
  | .win .timLink => if k.idx % 16 = 0 then 0x00400020 else 0
  | .winNew .timLink => if k.idx % 16 = 0 then 0x00400020 else 0
  | _ => 0

end Sys2Proof.Machine
end

