-- ==== Sys2Proof/Machine/State.lean ====
section
/-!
DEFINITION. The machine's state as plain data.  Every register field, counter, alarm bit, window word and hidden
quantity of the rules is a cell of one store (the names are in Machine/Cells.lean); sequences the spec gives the
machine (queues, rings, logs, buffers) are lists of records beside it.
-/
namespace Sys2Proof.Machine

/-- The store: the cells whose value is not their value after reset, in strictly rising order of their keys. -/
abbrev Store := List (Key × Nat)

/-- An alarm report on its way to the lead die (R36, R442, R443). -/
structure Report where
  die : Nat
  loc : Nat
  addr : Nat
  kind : Nat
  entry : Nat
  bit : Nat
  sec : Nat
  ns : Nat
  deriving DecidableEq, Repr

/-- A class 0 or 1 flit held for want of a route (R21). -/
structure HeldFlit where
  die : Nat
  cls : Nat
  dest : Nat
  deriving DecidableEq, Repr

/-- Where a submitted ticket comes from (R60, R61). -/
inductive TktSrc where
  | mailbox
  | ring (n : Nat)
  deriving DecidableEq, Repr

/-- What record execution waits for (R48, R52). -/
inductive Wait where
  | none
  | us
  | poll (addr mask value : Nat)
  | proc
  deriving DecidableEq, Repr

/-- Record execution in progress: for a ticket, the records left after the one at `index`, and the command with its argument
words, which acts when the records are done. -/
structure Run where
  byTicket : Bool
  rest : List Rec
  index : Nat
  wait : Wait
  command : Nat
  args : List Nat
  deriving DecidableEq, Repr

/-- A candidate of the frame aligner (R149): its bit offset and its consecutive hits. -/
structure Cand where
  die : Nat
  offset : Nat
  hits : Nat
  deriving DecidableEq, Repr

/-- An entry of a telemetry ring in host memory that the host has not consumed (R450, R451): its ring, TYPE, SEQ and payload
words. -/
structure TelEntry where
  ring : Nat
  type : Nat
  seq : Nat
  payload : List Nat
  deriving DecidableEq, Repr

/-- An entry of a die's classification table (R241, R242). -/
structure ClsEntry where
  die : Nat
  form : Nat
  port : Nat
  sVid : Nat
  cVid : Nat
  sPresent : Bool
  cPresent : Bool
  pcp : Nat
  queue : Nat
  deriving DecidableEq, Repr

/-- A received frame in staging (R247, R249): its local ingress port, the queue it was classified to, its length after
any tag removal as far as it has arrived, whether it is complete, its input colour, FORM, trace tag, ingress time in
1/256 ns and PTP header; `gone`: the frame has been discarded while it still arrives. -/
structure Staged where
  die : Nat
  id : Nat
  port : Nat
  queue : Nat
  len : Nat
  whole : Bool
  gone : Bool
  colour : Nat
  form : Nat
  tag : Option Nat
  time : Nat
  ptp : Option Ptp
  deriving DecidableEq, Repr

/-- A record of a queue ring (R251): a gap record with its count in `len`, or a frame record.  `words`: the 8-byte words
it occupies; `fin`: its length is final; `sent`: its start has been sent; `held`: its first hold by a gate is counted. -/
structure RingRec where
  die : Nat
  queue : Nat
  gap : Bool
  id : Nat
  len : Nat
  words : Nat
  colour : Nat
  port : Nat
  ct : Bool
  void : Bool
  fin : Bool
  sent : Bool
  held : Bool
  chargeQ : Nat
  chargeC : Nat
  tag : Option Nat
  time : Nat
  ptp : Option Ptp
  deriving DecidableEq, Repr

/-- An entry of a die's correction tracker (R294): a physical granule and its corrections in this lap. -/
structure Track where
  die : Nat
  gran : Nat
  count : Nat
  deriving DecidableEq, Repr

/-- A page in a die's retirement queue (R295): the physical page, the granule with the hard fault and its cause. -/
structure RetireReq where
  die : Nat
  ppn : Nat
  gran : Nat
  cause : Nat
  deriving DecidableEq, Repr

/-- An entry of a die's merge buffer (R287): the granule of a home page it stands for (page times 128 plus granule), and
which of the granule's eight words have been written. -/
structure MergeEnt where
  die : Nat
  gran : Nat
  mask : Nat
  deriving DecidableEq, Repr

/-- A Courier descriptor that has not completed (R304, R307): `state` as in its STATUS word, `depth` its place among the
pre-empted descriptors of its channel, `resumes` the resumes after its present fault code. -/
structure Desc where
  die : Nat
  chan : Nat
  cls : Nat
  idx : Nat
  srcSpace : Nat
  dstSpace : Nat
  src : Nat
  dst : Nat
  len : Nat
  migrate : Bool
  sign : Bool
  tag : Nat
  state : Nat
  depth : Nat
  done : Nat
  fault : Nat
  resumes : Nat
  deriving DecidableEq, Repr

/-- A key channel message that is being rebuilt (R321): the carrier it arrives on, TYPE, SENDER, SEQ, the number of its
fragments and which have arrived. -/
structure KchMsg where
  on : Nat
  type : Nat
  sender : Nat
  seq : Nat
  count : Nat
  got : Nat
  deriving DecidableEq, Repr

/-- A stored residence time of a two-step Sync (R396): the port it left on, its key, the time in 1/256 ns and when it was
stored in ns. -/
structure FupEnt where
  die : Nat
  port : Nat
  key : Nat
  rho : Nat
  time : Nat
  deriving DecidableEq, Repr

/-- The machine.  `pending` is the queue of commands that wait, first in, first out. -/
structure State where
  cells : Store := []
  mbox : List Host.Cell := []
  pending : List Instr := []
  readData : List Nat := []
  reports : List Report := []
  held : List HeldFlit := []
  tickets : List TktSrc := []
  run : Option Run := none
  policy : List PolicyEntry := []
  imgPolicy : List PolicyEntry := []
  trust : List Nat := []
  cands : List Cand := []
  telOut : List TelEntry := []
  clsTab : List ClsEntry := []
  staged : List Staged := []
  rings : List RingRec := []
  tracker : List Track := []
  retireQ : List RetireReq := []
  merge : List MergeEnt := []
  descs : List Desc := []
  kch : List KchMsg := []
  fups : List FupEnt := []
  deriving DecidableEq, Repr

/-- The reasons the machine stops with a fault.  There is none: every command of the table has an effect that the spec
gives, or changes nothing because it does not apply in the present state. -/
inductive Fault where
  deriving DecidableEq, Repr

/-- The reasons a command is refused. -/
inductive Refusal where
  /-- A command of the opcode table whose meaning has not been written (raised only by an arm of `exec`; safe, since the
  machine stops). -/
  | notModelled (mnemonic : String)
  deriving DecidableEq, Repr

/-- The outcome of a command. -/
abbrev Result := Host.Outcome State Fault Refusal

/-- The part right after VDD_AO has been applied and before power-good (R56 step 1): every register at its reset value,
nothing released, no command waiting. -/
def State.reset : State := {}

end Sys2Proof.Machine
end

