-- ==== Sys2Proof/Word.lean ====
section
/-!
DEFINITION. The widths the spec fixes once: a register and a window word are 32 bits (R3, R467), a memory byte is 8.
-/
namespace Sys2Proof

/-- The number of values of a 32-bit register. -/
abbrev Word.size : Nat := 0x100000000

/-- The number of values of a 64-bit counter (R445). -/
abbrev Counter.size : Nat := 0x10000000000000000

/-- One byte of the ticket mailbox. -/
abbrev Byte := BitVec 8

end Sys2Proof
end

