-- ==== Sys2Proof/Machine/Ops.lean ====
section
/-!
DEFINITION. The named operations over the state: the store of cells, counters, lists, the mailbox bytes, free values,
and which carrier dies are present and running (R1, R2, R430).
-/
namespace Sys2Proof.Machine

/-- The order of keys: by name, then die, then index. -/
def Key.before (a b : Key) : Bool :=
  if a.cell.code = b.cell.code then
    if a.die = b.die then decide (a.idx < b.idx) else decide (a.die < b.die)
  else decide (a.cell.code < b.cell.code)

/-- The value of a key; an unlisted key has its value after reset. -/
def Store.get (st : Store) (k : Key) : Nat :=
  match st with
  | [] => k.reset
  | e :: r => if e.1 = k then e.2 else Store.get r k

/-- The store without a key. -/
def Store.erase (st : Store) (k : Key) : Store := st.filter (fun e => decide (e.1 ≠ k))

/-- Insert an entry at its place. -/
def Store.insert (e : Key × Nat) : Store → Store
  | [] => [e]
  | x :: r => if e.1.before x.1 then e :: x :: r else x :: Store.insert e r

/-- Set a key.  Setting the value after reset removes the entry, so equal stores are equal lists. -/
def Store.put (st : Store) (k : Key) (v : Nat) : Store :=
  if v = k.reset then st.erase k else Store.insert (k, v) (st.erase k)

/-- Keys strictly rising. -/
def Store.sorted : Store → Bool
  | [] => true
  | [_] => true
  | a :: b :: r => a.1.before b.1 && Store.sorted (b :: r)

/-- The canonical form: keys strictly rising, no entry equal to its value after reset. -/
def Store.wf (st : Store) : Bool := st.sorted && st.all (fun e => decide (e.2 ≠ e.1.reset))

/-- The value of cell `c` of die (slot, port) `d` at index `i`. -/
def State.get (s : State) (c : Cell) (d i : Nat) : Nat := Store.get s.cells ⟨c, d, i⟩

/-- Set cell `c` of die `d` at index `i` to `v`. -/
def State.set (s : State) (c : Cell) (d i v : Nat) : State := { s with cells := Store.put s.cells ⟨c, d, i⟩ v }

/-- The value of a key. -/
def State.getK (s : State) (k : Key) : Nat := Store.get s.cells k

/-- A cell as a flag. -/
def State.flag (s : State) (c : Cell) (d i : Nat) : Bool := decide (s.get c d i ≠ 0)

/-- The signed quantity of a cell. -/
def State.getI (s : State) (c : Cell) (d i : Nat) : Int := dec (s.get c d i)

/-- Set a signed quantity. -/
def State.setI (s : State) (c : Cell) (d i : Nat) (v : Int) : State := s.set c d i (enc v)

/-- Set a flag. -/
def State.setB (s : State) (c : Cell) (d i : Nat) (b : Bool) : State := s.set c d i b.toNat

/-- Add to a 64-bit counter, which wraps (R445). -/
def State.add (s : State) (c : Cell) (d i n : Nat) : State := s.set c d i ((s.get c d i + n) % 2 ^ 64)

/-- One more event on a counter (R445). -/
def State.inc (s : State) (c : Cell) (d i : Nat) : State := s.add c d i 1

/-- Count an event if it happened. -/
def State.incIf (s : State) (b : Bool) (c : Cell) (d i : Nat) : State := if b then s.inc c d i else s

/-- Apply an operation if a condition holds. -/
def State.when (s : State) (b : Bool) (f : State → State) : State := if b then f s else s

/-- Apply an operation for each element of a list, in order. -/
def State.each {α : Type} (s : State) (l : List α) (f : State → α → State) : State := l.foldl f s

/-- A value the spec leaves open: the next free value (log 5). -/
def State.free (s : State) : Nat := Config.freeNat (s.get (.sys .freeCount) 0 0)

/-- Advance the free-value counter after a use of `State.free`. -/
def State.used (s : State) : State := s.inc (.sys .freeCount) 0 0

/-- A free value limited to a field of `w` bits. -/
def State.freeBits (s : State) (w : Nat) : Nat := s.free % 2 ^ w

/-- Remove every cell that a predicate selects: it then has its value after reset. -/
def State.clear (s : State) (p : Key → Bool) : State := { s with cells := s.cells.filter (fun e => !p e.1) }

/-- The element of a list that answers a test and comes first, with the list without it. -/
def takeFirst {α : Type} (p : α → Bool) : List α → Option (α × List α)
  | [] => none
  | a :: r => if p a then some (a, r) else (takeFirst p r).map (fun x => (x.1, a :: x.2))

-- The ticket mailbox: a memory window of bytes (R60).

/-- What a mailbox byte that nothing has written reads as: zero (DESIGN CHOICE, log 7). -/
def mboxDefault : Byte := 0

/-- Read one byte of the mailbox. -/
def mboxGet : List Host.Cell → Nat → Byte
  | [], _ => mboxDefault
  | (a, b) :: r, x => if a = x then b else mboxGet r x

/-- Insert a byte at its place. -/
def mboxInsert (a : Nat) (b : Byte) : List Host.Cell → List Host.Cell
  | [] => [(a, b)]
  | (x, y) :: r => if a < x then (a, b) :: (x, y) :: r else (x, y) :: mboxInsert a b r

/-- Write one byte of the mailbox. -/
def mboxPut (m : List Host.Cell) (a : Nat) (b : Byte) : List Host.Cell :=
  if b = mboxDefault then m.filter (fun e => decide (e.1 ≠ a)) else mboxInsert a b (m.filter (fun e => decide (e.1 ≠ a)))

/-- The canonical form of the mailbox: addresses strictly rising, no entry equal to the unlisted value. -/
def Memory.wf : List Host.Cell → Bool
  | [] => true
  | [(_, b)] => decide (b ≠ mboxDefault)
  | (a, b) :: (a', b') :: r => decide (a < a') && decide (b ≠ mboxDefault) && Memory.wf ((a', b') :: r)

/-- A little-endian word of the mailbox (R59). -/
def mboxWord (m : List Host.Cell) (a : Nat) : Nat :=
  (mboxGet m a).toNat + (mboxGet m (a + 1)).toNat * 0x100 + (mboxGet m (a + 2)).toNat * 0x10000 +
    (mboxGet m (a + 3)).toNat * 0x1000000

/-- Write a little-endian word of the mailbox. -/
def mboxPutWord (m : List Host.Cell) (a w : Nat) : List Host.Cell :=
  mboxPut (mboxPut (mboxPut (mboxPut m a (BitVec.ofNat 8 w)) (a + 1) (BitVec.ofNat 8 (w / 0x100))) (a + 2)
    (BitVec.ofNat 8 (w / 0x10000))) (a + 3) (BitVec.ofNat 8 (w / 0x1000000))

-- Which dies there are and which run.

/-- Carrier slot `d` is populated (R1, R2). -/
def State.present (s : State) (d : Nat) : Bool := decide (d < 8) && bit (s.get (.sys .diePresent) 0 0) d

/-- Carrier die `d` is populated and released from reset (R50, R56). -/
def State.released (s : State) (d : Nat) : Bool := s.present d && bit (s.get (.sys .dieReleased) 0 0) d

/-- The stage of carrier `d` (R432). -/
def State.stage (s : State) (d : Nat) : Nat := s.get (.pwr .stage) d 0

/-- Carrier `d` is released and AWAKE: its registers answer and its alarms count (R430). -/
def State.awake (s : State) (d : Nat) : Bool := s.released d && decide (s.stage d = 0)

/-- Carrier `d` has its clocks: it is AWAKE, in DRAIN or WAKING (R428, R432). -/
def State.up (s : State) (d : Nat) : Bool :=
  s.released d && (decide (s.stage d = 0) || decide (s.stage d = 1) || decide (s.stage d = 5))

/-- The Lantern runs from the first power-good after VDD_AO is applied (R12, R425); slot `d` exists with its carrier (R2). -/
def State.lantern (s : State) (d : Nat) : Bool := s.flag (.sys .aoOn) 0 0 && s.flag (.sys .railsGood) 0 0 && s.present d

/-- The number of populated carrier slots. -/
def State.dieCount (s : State) : Nat := popCount 8 (s.get (.sys .diePresent) 0 0)

/-- The populated carrier dies, in order. -/
def State.dies (s : State) : List Nat := (List.range 8).filter s.present

/-- Start-up states of `BOOT_STATUS`.STATE. -/
def bootPor : Nat := 0
def bootRom : Nat := 1
def bootFlash : Nat := 2
def bootVerify : Nat := 3
def bootPhases : Nat := 4
def bootRun : Nat := 5
def bootFailed : Nat := 6
def bootRestartWait : Nat := 7
def bootKickstand : Nat := 8

/-- `BOOT_STATUS`.STATE. -/
def State.bootState (s : State) : Nat := s.get (.boot .state) 0 0

/-- The part is in RUN. -/
def State.inRun (s : State) : Bool := decide (s.bootState = bootRun)

/-- TOTAL_NS of time base `b` (R383). -/
def State.tbNow (s : State) (b : Nat) : Nat := s.get (.tim .tbSec) 0 b * 1000000000 + s.get (.tim .tbNs) 0 b

-- Firmware procedures (R51, R52).

/-- Procedure `id` has been called by a PROC record and has not ended. -/
def State.called (s : State) (id : Nat) : Bool := s.flag (.boot .procCalled) 0 id

/-- Argument word `k` of the last call of procedure `id`; words that the record leaves out are 0. -/
def State.procArg (s : State) (id k : Nat) : Nat := s.get (.boot .procArgW) 0 (16 * id + k)

/-- Procedure `id` ends; the image's waiting PROC record gets its outcome and result code (R52). -/
def State.procEnd (s : State) (id : Nat) (ok : Bool) (code : Nat) : State :=
  let s1 := s.set (.boot .procCalled) 0 id 0
  if s.get (.boot .procId) 0 0 = id then
    (s1.set (.boot .procDone) 0 0 (if ok then 1 else 2)).set (.boot .procCode) 0 0 code
  else s1

end Sys2Proof.Machine
end

