-- ==== Sys2Proof/Machine/Flags.lean ====
section
/-!
DEFINITION. Alarm bits and what follows from them: the live, sticky and mask bits of R437, the reports of R36 and R442,
the pins ALERT_N and FAULT_N (R438, R439), the summary registers (R440), the interrupt message of R468, and `finish`,
with which every meaning ends.
-/
namespace Sys2Proof.Machine

/-- The alarm location code of R9 from its fields. -/
def locCode (level carrier container queue : Nat) : Nat :=
  level * 0x20000000 + carrier * 0x4000000 + container * 0x4000 + queue * 0x800

/-- Location of a carrier, of a local container, of a bond group and of the package (R7, R9). -/
def locCarrier (d : Nat) : Nat := locCode 2 d 0 0
def locContainer (d i : Nat) : Nat := locCode 1 d (512 * d + i) 0
def locBond (g : Nat) : Nat := locCode 3 g 0 0
def locPackage : Nat := locCode 4 0 0 0
def locQueue (d i pos : Nat) : Nat := locCode 0 d (512 * d + i) pos

/-- The location an alarm bit is reported with (R36). -/
def Alm.loc (a : Alm) (d i : Nat) : Nat :=
  if a.inCtn || a.inCtx then locContainer d i
  else if a.onDie || a.onSlot then locCarrier d
  else locPackage

/-- The bit of `Alm.addr` that an alarm has: its number, or its channel for MON_OVR. -/
def Alm.bitAt (a : Alm) (i : Nat) : Nat := if a = .monOvr then i else a.bitNo

/-- Whether a live bit drives FAULT_N: as its table row says, and for CHAIN_DOWN and DER_AIS under the condition that
their rows add. -/
def State.drives (s : State) (a : Alm) (d i : Nat) : Bool :=
  match a with
  | .chnDown => decide (s.get (.chn .tandemBw) d i ≠ 0) || decide (s.get (.chn .bondBw) d i ≠ 0) ||
      s.held.any (fun h => decide (h.die = d))
  | .derAis => decide (s.get (.der .uRole) d 0 = 1)
  | a => a.drivesFault

/-- Report a change of an alarm bit toward the lead die's log (R442, R443). -/
def State.report (s : State) (a : Alm) (d i loc kind : Nat) : State :=
  let e := if a.inCtn || a.inCtx then i else 0
  { s with reports := s.reports ++
      [⟨if a.onDie then d else 0, loc, a.addr d i, kind, e, a.bitAt i, s.get (.tim .tbSec) 0 0 % 2 ^ 32,
        s.get (.tim .tbNs) 0 0⟩] }

/-- Set a sticky bit; a change from 0 to 1 is reported with KIND 0 (R437, R442). -/
def State.stick (s : State) (a : Alm) (d i loc : Nat) : State :=
  if s.flag (.sticky a) d i then s else (s.set (.sticky a) d i 1).report a d i loc 0

/-- A condition begins to hold, reported at a given location. -/
def State.raiseAt (s : State) (a : Alm) (d i loc : Nat) : State :=
  if s.flag (.live a) d i then s
  else
    let s1 := (s.set (.live a) d i 1).stick a d i loc
    if s.drives a d i then s1.report a d i loc 1 else s1

/-- A condition ends, reported at a given location. -/
def State.lowerAt (s : State) (a : Alm) (d i loc : Nat) : State :=
  if s.flag (.live a) d i then
    let s1 := s.set (.live a) d i 0
    if s.drives a d i then s1.report a d i loc 2 else s1
  else s

/-- A condition begins to hold (R437). -/
def State.raise (s : State) (a : Alm) (d i : Nat) : State := s.raiseAt a d i (a.loc d i)

/-- A condition ends; its sticky bit stays (R437). -/
def State.lower (s : State) (a : Alm) (d i : Nat) : State := s.lowerAt a d i (a.loc d i)

/-- A condition holds or does not. -/
def State.cond (s : State) (a : Alm) (d i : Nat) (b : Bool) : State := if b then s.raise a d i else s.lower a d i

/-- An event occurs: its sticky bit is set, its live bit reads 0 (R437). -/
def State.event (s : State) (a : Alm) (d i : Nat) : State := s.stick a d i (a.loc d i)

/-- An event occurs, reported at a given location. -/
def State.eventAt (s : State) (a : Alm) (d i loc : Nat) : State := s.stick a d i loc

/-- A live bit as it reads: 0 while its carrier is not AWAKE (R430). -/
def State.liveSeen (s : State) (a : Alm) (d i : Nat) : Bool :=
  s.flag (.live a) d i && (!a.onDie || s.awake d)

/-- A sticky bit that passes its mask, on an awake die, a lead-die global block or a Lantern block (R438); the INJECTED
bit always passes (R463). -/
def State.alerts (s : State) (a : Alm) (d i : Nat) : Bool :=
  s.flag (.sticky a) d i && (decide (a = .injInjected) || s.flag (.mask a) d i) && (!a.onDie || s.awake d)

/-- Does any entry of the store answer a test on alarm bits? -/
def State.anyAlm (s : State) (p : Cell → Nat → Nat → Bool) : Bool :=
  s.cells.any (fun e => decide (e.2 ≠ 0) && p e.1.cell e.1.die e.1.idx)

/-- ALERT_N is driven low (R438); it is released in package Kickstand (R439). -/
def State.alertLow (s : State) : Bool :=
  !s.flag (.pwr .pkgGated) 0 0 &&
    s.anyAlm (fun c d i => match c with | .sticky a => s.alerts a d i | _ => false)

/-- FAULT_N is driven low (R439): a driving bit is live, or start-up has not reached RUN, or a tamper trip holds. -/
def State.faultLow (s : State) : Bool :=
  !s.flag (.pwr .pkgGated) 0 0 &&
    (!s.inRun || s.flag (.ao .tamperDown) 0 0 ||
      s.anyAlm (fun c d i => match c with | .live a => s.liveSeen a d i && s.drives a d i | _ => false))

/-- `ALM_DIE_SUM` or `ALM_DIE_FAULT` of die `d` (R440): one bit per block, bit 0 the OR of them. -/
def State.dieSum (s : State) (d : Nat) (fault : Bool) : Nat :=
  let hit (b : Nat) : Bool := s.anyAlm (fun c d' i => match c with
    | .sticky a => !fault && decide (d' = d) && decide (a.sumBit = b) && a.onDie && s.alerts a d i
    | .live a => fault && decide (d' = d) && decide (a.sumBit = b) && a.onDie && s.liveSeen a d i && s.drives a d i
    | _ => false)
  let v := (List.range 15).foldl (fun v b => if hit (b + 1) then v + 2 ^ (b + 1) else v) 0
  if v = 0 then 0 else v + 1

/-- Is any container entry of die `d` with a sticky bit that passes its mask (CTN_ANY, CTX_ANY)? -/
def State.anyEntry (s : State) (d : Nat) (ctx : Bool) : Bool :=
  s.anyAlm (fun c d' i => match c with
    | .sticky a => decide (d' = d) && (if ctx then a.inCtx else a.inCtn) && s.flag (.mask a) d i
    | _ => false)

/-- Is any container of die `d` in NOKEY or CRYPTO_HOLD (R328, HOLD_ANY)? -/
def State.anyHold (s : State) (d : Nat) : Bool :=
  s.cells.any (fun e => decide (e.1.die = d) &&
    ((decide (e.1.cell = .cry .txState) && (decide (e.2 = 1) || decide (e.2 = 4))) ||
     (decide (e.1.cell = .cry .rxState) && decide (e.2 = 1))))

/-- The dies on which a summary condition of window entries may change: those that hold such an entry or show it. -/
def State.summaryDies (s : State) : List Nat :=
  (s.cells.filterMap (fun e => match e.1.cell with
    | .sticky a => if a.inCtn || a.inCtx then some e.1.die else none
    | .live .ctCtnAny => some e.1.die
    | .live .cryCtxAny => some e.1.die
    | .live .cryHoldAny => some e.1.die
    | .cry .txState => some e.1.die
    | .cry .rxState => some e.1.die
    | _ => none)).dedup

/-- Bring the summary conditions of window entries up to date (R437: CTN_ANY, CTX_ANY; CRY_STATUS: HOLD_ANY). -/
def State.summaries (s : State) : State :=
  s.each s.summaryDies (fun s d =>
    ((s.cond .ctCtnAny d 0 (s.anyEntry d false)).cond .cryCtxAny d 0 (s.anyEntry d true)).cond .cryHoldAny d 0
      (s.anyHold d))

/-- Reports detected on the same clock cycle go in ascending register address, then bit (R443). -/
def Report.before (a b : Report) : Bool :=
  if a.addr = b.addr then decide (a.bit < b.bit) else decide (a.addr < b.addr)

/-- Insert a report after those that go before it or together with it. -/
def insertReport (r : Report) : List Report → List Report
  | [] => [r]
  | x :: l => if r.before x then r :: x :: l else x :: insertReport r l

/-- Put the reports made by one command in the order of R443. -/
def sortReports (l : List Report) : List Report := l.foldl (fun acc r => insertReport r acc) []

/-- Send the interrupt message of R468 for a fall of either pin, at most once in 10 µs. -/
def State.msi (s : State) : State :=
  let al := s.alertLow
  let fl := s.faultLow
  let fall := (al && !s.flag (.sys .alertSeen) 0 0) || (fl && !s.flag (.sys .faultSeen) 0 0)
  let s1 := (s.setB (.sys .alertSeen) 0 0 al).setB (.sys .faultSeen) 0 0 fl
  let last := s.get (.sys .msiLast) 0 0
  let now := s.get (.sys .time) 0 0
  if fall && s.flag (.sys .msiEn) 0 0 && s.flag (.sys .busMaster) 0 0 && s.flag (.sys .pcieUp) 0 0 &&
      (decide (last = 0) || decide (last + 10000 ≤ now + 1)) then
    (s1.inc (.sys .msiSent) 0 0).set (.sys .msiLast) 0 0 (now + 1)
  else s1

/-- What follows from any command: the order of its reports, the summary conditions and the interrupt message.
`s` is the state before the command, `t` the state with the command's own effect. -/
def settle (s t : State) : State :=
  let t1 := t.summaries
  let n := s.reports.length
  { t1 with reports := t1.reports.take n ++ sortReports (t1.reports.drop n) }.msi

/-- Every meaning answers so: a next state, settled. -/
def finish (s t : State) : Result := .next (settle s t)

/-- A command for something that is absent, unpowered or not in a state in which the event can happen: it changes
nothing (R2, R430). -/
def idle (s : State) : Result := .next s

/-- A command that acts only under a condition; otherwise it changes nothing. -/
def finishIf (b : Bool) (s : State) (f : State → State) : Result := if b then finish s (f s) else idle s

end Sys2Proof.Machine
end

