-- ==== Sys2Proof/Machine/LineMode.lean ====
section
/-!
DEFINITION. The line mode: bank fields, rates and capacity, the composition and the matcher, pilots and the descriptor
(R74 to R81).
-/
namespace Sys2Proof.Machine

/-- A line mode: the fields of one mode bank (R74). -/
structure Mode where
  lineStd : Nat
  rs : Nat
  cst : Nat
  entropy : Nat
  nlpd : Nat
  pilotGain : Nat
  fecRate : Nat
  rolloff : Nat
  netK : Nat
  deriving DecidableEq, Repr

/-- Transmit bank `b` of carrier `d`. -/
def State.txBank (s : State) (d b : Nat) : Mode :=
  ⟨s.get (.lt .lineStd) d b, s.get (.lt .rs) d b, s.get (.lt .const) d b, s.get (.lt .entropy) d b,
    s.get (.lt .nlpdBank) d b, s.get (.lt .pilotGain) d b, s.get (.lt .fecRate) d b, s.get (.lt .rolloff) d b,
    s.get (.lt .netK) d b⟩

/-- Receive bank `b` of carrier `d`; pre-distortion has no field there (R98). -/
def State.rxBank (s : State) (d b : Nat) : Mode :=
  ⟨s.get (.lr .lineStd) d b, s.get (.lr .rs) d b, s.get (.lr .const) d b, s.get (.lr .entropy) d b, 0,
    s.get (.lr .pilotGain) d b, s.get (.lr .fecRate) d b, s.get (.lr .rolloff) d b, s.get (.lr .netK) d b⟩

/-- Bits per polarisation-symbol m (R76). -/
def Mode.m (q : Mode) : Nat := 2 * (q.cst + 1)

/-- 12800 × (1 − R), with R = inner rate × 127/128 (R76). -/
def parity12800 (fecRate : Nat) : Nat := 12800 - 127 * (80 + 2 * fecRate)

/-- 12800 × I, the information per polarisation-symbol (R76). -/
def Mode.info12800 (q : Mode) : Int := (800 * q.entropy : Nat) - (q.m * parity12800 q.fecRate : Nat)

/-- The capacity C over the common denominator of C and F (R76). -/
def Mode.capacity (q : Mode) : Int := 31 * q.rs * q.info12800 * 4520000

/-- The line frame rate F over the common denominator: NET_K / 2 slices of 239/226 × 99.5328 Gb/s (R76). -/
def Mode.frameRate (q : Mode) : Int := q.netK * 239 * 995328 * 819200

/-- EXCESS: (C − F) / F in 0.001 % (R77). -/
def Mode.excess (q : Mode) : Nat :=
  if q.lineStd = 0 then roundDiv ((q.capacity - q.frameRate).toNat * 100000) q.frameRate.toNat else 0

/-- The entropy range of the constellation (R75). -/
def Mode.entropyOk (q : Mode) : Bool :=
  match q.cst with
  | 0 => decide (q.entropy = 32)
  | 1 => decide (40 ≤ q.entropy) && decide (q.entropy ≤ 63)
  | 2 => decide (56 ≤ q.entropy) && decide (q.entropy ≤ 95)
  | _ => decide (80 ≤ q.entropy) && decide (q.entropy ≤ 118)

/-- Number of amplitudes L of a constellation (R78); 1 for QPSK, which is not shaped. -/
def ampCount (cst : Nat) : Nat := 2 ^ cst

/-- Input bits k of a block of 1,024 amplitudes: 512 × (H − 2) (R78). -/
def ccdmBits (entropy : Nat) : Nat := 32 * entropy - 1024

/-- n! -/
def fact : Nat → Nat
  | 0 => 1
  | n + 1 => (n + 1) * fact n

/-- The number of sequences of a composition: N! / Π nₐ!. -/
def sequences (comp : List Nat) : Nat := fact comp.sum / (comp.map fact).prod

/-- Σ nₐ × a² with amplitude 2i + 1 at position i. -/
def energyFrom : Nat → List Nat → Nat
  | _, [] => 0
  | i, n :: r => n * (2 * i + 1) ^ 2 + energyFrom (i + 1) r

/-- All compositions of `n` in `parts` counts. -/
def compositions : Nat → Nat → List (List Nat)
  | 0, n => if n = 0 then [[]] else []
  | p + 1, n => (List.range (n + 1)).flatMap (fun k => (compositions p (n - k)).map (k :: ·))

/-- Lists of counts compared from the largest amplitude down. -/
def lexLt : List Nat → List Nat → Bool
  | a :: r, b :: t => if a = b then lexLt r t else decide (a < b)
  | _, _ => false

/-- The better of two compositions under R78. -/
def betterComp (a b : List Nat) : List Nat :=
  if energyFrom 0 b < energyFrom 0 a then b
  else if energyFrom 0 a < energyFrom 0 b then a
  else if lexLt b.reverse a.reverse then b else a

/-- The composition of R78: the least energy among those with at least 2^k sequences.  A definition by enumeration: it
says which composition is meant, not how firmware finds it. -/
def composition (cst entropy : Nat) : Option (List Nat) :=
  if cst = 0 then none
  else (((compositions (ampCount cst) 1024).filter (fun c => decide (2 ^ ccdmBits entropy ≤ sequences c))).foldl
    (fun best c => match best with
      | none => some c
      | some b => some (betterComp b c)) none)

/-- Some composition meets the bound: the uniform one, which has the most sequences, does (R78). -/
def compositionExists (cst entropy : Nat) : Bool :=
  decide (cst = 0) ||
    decide (2 ^ ccdmBits entropy ≤ sequences (List.replicate (ampCount cst) (1024 / ampCount cst)))

/-- The counts that `LT_COMPj` or `LR_COMPj` report: amplitude 2i + 1 at position i of 8. -/
def Mode.compCounts (q : Mode) : List Nat :=
  if q.lineStd ≠ 0 then List.replicate 8 0
  else
    let c := (composition q.cst q.entropy).getD []
    c ++ List.replicate (8 - c.length) 0

/-- The block of sequence number `r` in lexicographic order among the sequences of a composition (R78); the list holds
amplitude indices. -/
def ccdm : Nat → List Nat → Nat → List Nat
  | 0, _, _ => []
  | fuel + 1, comp, r =>
    let step := (List.range comp.length).foldl (fun (st : Nat × Option (Nat × Nat)) i =>
      match st.2 with
      | some _ => st
      | none =>
        let c := comp.getD i 0
        if c = 0 then st
        else
          let n := sequences (comp.set i (c - 1))
          if r < st.1 + n then (st.1, some (i, r - st.1)) else (st.1 + n, none)) (0, none)
    match step.2 with
    | some (i, r') => i :: ccdm fuel (comp.set i (comp.getD i 0 - 1)) r'
    | none => []

/-- The binary-reflected Gray label of amplitude index `i` (R79). -/
def grayLabel (i : Nat) : Nat := i ^^^ (i / 2)

/-- Every field within its table (R74); LINE_STD 3 is rejected by the field itself. -/
def Mode.rangesOk (q : Mode) : Bool :=
  decide (400 ≤ q.rs) && decide (q.rs ≤ 1280) && decide (32 ≤ q.entropy) && decide (q.entropy ≤ 118) &&
    decide (q.pilotGain ≤ 6) && decide (1 ≤ q.rolloff) && decide (q.rolloff ≤ 20) && decide (8 ≤ q.netK) &&
    decide (q.netK ≤ 64)

/-- The checks of R75 but for the partition check; they apply when LINE_STD is 0. -/
def Mode.ok (q : Mode) : Bool :=
  decide (q.lineStd ≠ 0) ||
    (q.rangesOk && q.entropyOk && decide (q.frameRate ≤ q.capacity) &&
      decide ((q.capacity - q.frameRate) * 50 ≤ q.frameRate) && compositionExists q.cst q.entropy &&
      (decide (q.nlpd = 0) || decide (q.rs ≤ 800)))

/-- One step of the PRBS-23 x²³ + x¹⁸ + 1: the bit and the next state (R80). -/
def prbs23 (st : Nat) : Nat × Nat :=
  let b := (bits st 22 1 + bits st 17 1) % 2
  (b, (2 * st + b) % 2 ^ 23)

/-- The Y generator's seed (R80). -/
def pilotYSeed (x : Nat) : Nat := x ^^^ 0x2AAAAA

/-- A pilot seed that R80 permits. -/
def pilotSeedOk (x : Nat) : Bool := decide (x ≠ 0) && decide (x ≠ 0x2AAAAA)

/-- The slot width in 12.5 GHz units that holds the occupied band Rs × (1 + roll-off) (DEDUCED, log 9). -/
def Mode.slotWidth (q : Mode) : Nat := (q.rs * (100 + q.rolloff) + 4999) / 5000

/-- The line mode descriptor of R81, 32 bytes in network order. -/
def descriptor (q : Mode) (seed grid : Nat) : List Nat :=
  [1, 64 * q.lineStd + q.cst, q.rs / 256, q.rs % 256, q.entropy, q.fecRate + 128 * q.nlpd, q.rolloff, q.netK,
    bits seed 16 7, bits seed 8 8, bits seed 0 8, q.pilotGain] ++
  q.compCounts.flatMap (fun n => [n / 256, n % 256]) ++ [bits grid 8 8, bits grid 0 8, q.slotWidth, 0]

/-- Write the composition registers of a transmit bank (R74, R78). -/
def State.setTxComp (s : State) (d b : Nat) : State :=
  let c := (s.txBank d b).compCounts
  s.each (List.range 4) (fun s j =>
    (s.set (.lt .compLo) d (4 * b + j) (c.getD (2 * j) 0)).set (.lt .compHi) d (4 * b + j) (c.getD (2 * j + 1) 0))

/-- Write the composition registers of a receive bank (R98). -/
def State.setRxComp (s : State) (d b : Nat) : State :=
  let c := (s.rxBank d b).compCounts
  s.each (List.range 4) (fun s j =>
    (s.set (.lr .compLo) d (4 * b + j) (c.getD (2 * j) 0)).set (.lr .compHi) d (4 * b + j) (c.getD (2 * j + 1) 0))

end Sys2Proof.Machine
end

