-- ==== Sys2Proof/Machine/Transmitter.lean ====
section
/-!
DEFINITION. The line transmitter: start, mute causes, DSP frames, pre-compensation (R73, R77, R80, R83 to R89).
-/
namespace Sys2Proof.Machine

/-- States of `LT_STATUS`.TX_STATE. -/
def txOff : Nat := 0
def txWaitLaser : Nat := 1
def txWaitBias : Nat := 2
def txWaitCal : Nat := 3
def txActive : Nat := 4
def txMuted : Nat := 5

/-- STATE of LAS port `p`. -/
def State.lasState (s : State) (p : Nat) : Nat := s.get (.las .state) p 0

/-- The port is READY. -/
def State.lasReady (s : State) (p : Nat) : Bool := decide (s.lasState p = 3)

/-- TX_STATE of carrier `d`. -/
def State.txState (s : State) (d : Nat) : Nat := s.get (.lt .txState) d 0

/-- The active transmit bank. -/
def State.txMode (s : State) (d : Nat) : Mode := s.txBank d (s.get (.lt .bank) d 0)

/-- The mute causes that hold, as `LT_STATUS`.MUTE_CAUSE shows them (R88). -/
def State.muteCauses (s : State) (d : Nat) : Nat :=
  s.get (.lt .mute) d 0 % 2 + (if s.lasReady d then 0 else 2) + (if s.flag (.bias .biasLock) d 0 then 0 else 4) +
    (if s.get (.lt .sysCause) d 0 = 0 then 0 else 8)

/-- Step 4 of R87 has begun: the transmitter is ACTIVE or ramps. -/
def State.txBegun (s : State) (d : Nat) : Bool := decide (s.txState d = txActive) || s.flag (.lt .ramp) d 0

/-- DSP frames are formed: from step 4 on, and not in an OIF mode (R80). -/
def State.txFrames (s : State) (d : Nat) : Bool := s.txBegun d && decide ((s.txMode d).lineStd = 0)

/-- TX_DOWN is live while TX_EN = 1 and TX_STATE is not ACTIVE. -/
def State.txDownCond (s : State) (d : Nat) : State :=
  s.cond .ltTxDown d 0 (s.flag (.lt .txEn) d 0 && decide (s.txState d ≠ txActive))

/-- The states of a bias point (R418). -/
def ptOff : Nat := 0
def ptClamped : Nat := 1
def ptSearch : Nat := 2
def ptLocked : Nat := 3
def ptPreset : Nat := 4
def ptHold : Nat := 5
def ptWrap : Nat := 6
def ptKeying : Nat := 7
def ptFaulty : Nat := 8
def ptUnlocked : Nat := 9

/-- A point goes on tracking, not LOCKED yet. -/
def State.ptTrack (s : State) (d k : Nat) : State :=
  ((s.set (.bias .ptBase) d k ptUnlocked).set (.bias .ptLockRun) d k 0).set (.bias .ptUnlRun) d k 0

/-- The modulator is driven: a phase point in PRESET starts tracking, with PHASE_ACQ_MS to lock (R414). -/
def State.phaseDrive (s : State) (d : Nat) : State :=
  s.each [2, 5] fun s k =>
    if s.get (.bias .ptBase) d k = ptPreset then
      ((s.ptTrack d k).set (.bias .ptAcq) d k 1).set (.bias .ptState) d k
        (if s.get (.bias .ptState) d k = ptPreset then ptUnlocked else s.get (.bias .ptState) d k)
    else s

/-- The modulator is not driven: a tracking phase point is in PRESET, at its last locked value if it has one (R414). -/
def State.phaseIdle (s : State) (d : Nat) : State :=
  s.each [2, 5] fun s k =>
    if s.get (.bias .ptBase) d k = ptLocked ∨ s.get (.bias .ptBase) d k = ptUnlocked then
      let v := if s.flag (.bias .ptHasLock) d k then s.get (.bias .ptLockV) d k else enc (s.getI (.bias .initMv) d k * 4096)
      (((s.set (.bias .ptBase) d k ptPreset).set (.bias .ptV) d k v).set (.bias .ptAcq) d k 0).set (.bias .ptState) d k
        (if s.get (.bias .ptState) d k = ptLocked ∨ s.get (.bias .ptState) d k = ptUnlocked then ptPreset
         else s.get (.bias .ptState) d k)
    else s

/-- Enter MUTED (R88). -/
def State.txEnterMuted (s : State) (d causes : Nat) : State :=
  ((((s.set (.lt .begun4) d 0 (if s.txBegun d then 1 else 0)).set (.lt .otherCause) d 0
    (if bit causes 1 || bit causes 3 then 1 else 0)).set (.lt .ramp) d 0 0).set (.lt .txState) d 0 txMuted).inc
    (.lt .nMuteEnter) d 0 |>.phaseIdle d

/-- Leave MUTED when every cause has cleared: step 4 (the ramp, TX_STATE kept) or step 1 (R88). -/
def State.txResume (s : State) (d : Nat) : State :=
  if s.flag (.lt .begun4) d 0 && !s.flag (.lt .otherCause) d 0 then s.set (.lt .ramp) d 0 1
  else s.set (.lt .txState) d 0 txWaitLaser

/-- Bring the transmitter in line with the mute causes that hold now (R88). -/
def State.muteRefresh (s : State) (d : Nat) : State :=
  if s.flag (.lt .txEn) d 0 then
    let c := s.muteCauses d
    let s1 := s.set (.lt .muteCause) d 0 c
    let mute := bit c 0 || bit c 3 || (s.txBegun d && decide (c ≠ 0))
    let s2 :=
      if decide (s.txState d = txMuted) && !s.flag (.lt .ramp) d 0 then
        if c = 0 then s1.txResume d
        else s1.when (bit c 1 || bit c 3) (fun s => s.set (.lt .otherCause) d 0 1)
      else s1.when mute (fun s => s.txEnterMuted d c)
    s2.txDownCond d
  else (s.set (.lt .muteCause) d 0 0).txDownCond d

/-- A bank becomes active: BANK and EXCESS (R74, R77). -/
def State.txActivate (s : State) (d b : Nat) : State :=
  (s.set (.lt .bank) d 0 b).set (.lt .excess) d 0 ((s.txBank d b).excess)

/-- Load transmit calibration values (R83). -/
def State.txLoadCal (s : State) (d : Nat) (c : OeCal) : State :=
  ((((s.each (List.range 4) (fun s t =>
    (s.setI (.lt .tribGain) d t (c.gain.getD t 0)).setI (.lt .tribSkew) d t (c.skew.getD t 0))).setI
    (.lt .xPhase) d 0 c.xPhase).setI (.lt .yPhase) d 0 c.yPhase).each (List.range 132) (fun s k =>
    s.set (.win .ltFir) d (16 * k) (c.fir.getD k 0 % 2 ^ 16))).set (.lt .firPending) d 0 1

/-- The values of R83 when the calibration memory fails its CRC.  Which tap carries the unit impulse is not stated (free
value, log 5). -/
def defaultCal (tap : Nat) : OeCal :=
  { crcOk := false
    gain := []
    skew := []
    xPhase := 0
    yPhase := 0
    fir := (List.range 132).map (fun k => if k % 33 = tap % 33 then 0x4000 else 0) }

/-- Read the transmit calibration memory at the first TX_EN rise after start-up (R83). -/
def State.txReadCal (s : State) (d : Nat) (c : OeCal) : State :=
  if s.flag (.lt .txcalSrc) d 0 then s
  else if c.crcOk then (s.txLoadCal d c).lower .ltTxcalFail d 0
  else ((s.txLoadCal d (defaultCal s.free)).used).raise .ltTxcalFail d 0

/-- TX_EN changes from 0 to 1 (R74, R83, R87). -/
def State.txStart (s : State) (d : Nat) (c : OeCal) : State :=
  let s1 := if s.flag (.lt .firstStart) d 0 then s
    else ((s.txReadCal d c).txActivate d 0).set (.lt .firstStart) d 0 1
  (((s1.set (.lt .txEn) d 0 1).set (.lt .txState) d 0 txWaitLaser).set (.lt .ramp) d 0 0).muteRefresh d

/-- TX_EN changes to 0: OFF from any state (R89). -/
def State.txStop (s : State) (d : Nat) : State :=
  ((((s.set (.lt .txEn) d 0 0).set (.lt .txState) d 0 txOff).set (.lt .ramp) d 0 0).phaseIdle d).muteRefresh d

/-- TX_EN_RISE (R74, R83, R87); `cal` is what the calibration memory holds. -/
def execTxEnRise (d : Nat) (cal : OeCal) (s : State) : Result :=
  finishIf (s.up d && (!s.flag (.lt .txEn) d 0 || decide (s.txState d = txOff))) s fun s => s.txStart d cal

/-- TX_EN_FALL (R89). -/
def execTxEnFall (d : Nat) (s : State) : Result :=
  finishIf (s.up d && s.flag (.lt .txEn) d 0) s fun s => s.txStop d

/-- The condition of the present wait of R87 is met. -/
def State.txWaitMet (s : State) (d : Nat) : Bool :=
  if s.txState d = txWaitLaser then s.lasReady d
  else if s.txState d = txWaitBias then s.flag (.bias .biasLock) d 0
  else if s.txState d = txWaitCal then s.flag (.cal .convValid) d 0 && !s.flag (.lt .ramp) d 0
  else false

/-- TX_WAIT_END (R87): the next step; from WAIT_CAL the ramp begins with TX_STATE kept.  A cause that was only a wait
before step 4 mutes from step 4 on (R88). -/
def execTxWaitEnd (d : Nat) (s : State) : Result :=
  finishIf (s.up d && s.txWaitMet d) s fun s =>
    (if s.txState d = txWaitCal then s.set (.lt .ramp) d 0 1
     else s.set (.lt .txState) d 0 (s.txState d + 1)).muteRefresh d

/-- TX_RAMP_COMPLETE (R87). -/
def execTxRampComplete (d : Nat) (s : State) : Result :=
  finishIf (s.up d && s.flag (.lt .ramp) d 0) s fun s =>
    (((s.set (.lt .ramp) d 0 0).set (.lt .txState) d 0 txActive).phaseDrive d).muteRefresh d

/-- TX_MUTE_CAUSE_SET (R88): cause 0 is the MUTE bit; the others hold by the state of their own blocks. -/
def execTxMuteCauseSet (d c : Nat) (s : State) : Result :=
  finishIf (s.up d) s fun s => (s.when (decide (c = 0)) (fun s => s.set (.lt .mute) d 0 1)).muteRefresh d

/-- TX_MUTE_CAUSE_CLEAR (R88). -/
def execTxMuteCauseClear (d c : Nat) (s : State) : Result :=
  finishIf (s.up d) s fun s => (s.when (decide (c = 0)) (fun s => s.set (.lt .mute) d 0 0)).muteRefresh d

/-- Pending pre-compensation and pre-distortion changes take effect (R83, R84). -/
def State.txApplyPending (s : State) (d : Nat) : State :=
  let s1 := (((s.each (List.range 4) (fun s t =>
    (s.set (.lt .useGain) d t (s.get (.lt .tribGain) d t)).set (.lt .useSkew) d t (s.get (.lt .tribSkew) d t))).set
    (.lt .useXPhase) d 0 (s.get (.lt .xPhase) d 0)).set (.lt .useYPhase) d 0 (s.get (.lt .yPhase) d 0)).set
    (.lt .useNlpd) d 0 (s.get (.lt .nlpdGain) d 0)
  if s.flag (.lt .firPending) d 0 then
    (s1.each (List.range 132) (fun s k => s.set (.lt .useFir) d k (s.get (.win .ltFir) d (16 * k)))).set
      (.lt .firPending) d 0 0
  else s1

/-- The pilot generators are seeded at the start of every DSP frame (R80). -/
def State.txReseed (s : State) (d : Nat) : State :=
  (s.set (.lt .pilotX) d 0 (s.get (.lt .pilotSeed) d 0)).set (.lt .pilotY) d 0
    (pilotYSeed (s.get (.lt .pilotSeed) d 0))

/-- DSP_FRAME_BOUNDARY (R80, R83, R84). -/
def execDspFrameBoundary (d : Nat) (s : State) : Result :=
  finishIf (s.up d && s.txFrames d) s fun s => ((s.txApplyPending d).txReseed d).inc (.lt .nDspFrame) d 0

/-- DAC_CLIP_WINDOW (R86): the samples that clipped in a 1 ms window. -/
def execDacClipWindow (d clipped : Nat) (s : State) : Result :=
  finishIf (s.up d && s.txBegun d) s fun s =>
    (s.add (.lt .nDacClip) d 0 clipped).when (decide (1600 < clipped)) (fun s => s.event .ltDacClipHi d 0)

/-- LT_FIR_APPLY (R83). -/
def execLtFirApply (d : Nat) (s : State) : Result :=
  finishIf (s.up d) s fun s => s.set (.lt .firPending) d 0 1

end Sys2Proof.Machine
end

