-- ==== Sys2Proof/Machine/BiasPoints.lean ====
section
/-!
DEFINITION. The bias points of a slot: what each shows, the carrier's bias lock, and the light at the modulator (R412,
R414, R415, R417, R418).
-/
namespace Sys2Proof.Machine

/-- The points XI, XQ, YI, YQ track null; XP and YP track quadrature (R402, R414). -/
def ptChild (k : Nat) : Bool := decide (k = 0) || decide (k = 1) || decide (k = 3) || decide (k = 4)
def ptPhase (k : Nat) : Bool := decide (k = 2) || decide (k = 5)

/-- The loops of slot `d` run: started, and BIAS_EN = 1. -/
def State.biasOn (s : State) (d : Nat) : Bool := s.flag (.bias .started) d 0 && s.flag (.bias .biasEn) d 0

/-- The Lantern keys through the bias path (R350, R418). -/
def State.keying (s : State) (d : Nat) : Bool := decide (s.get (.bell .txSrc) d 0 = 2)

/-- The output of a point in mV, as the loop has it. -/
def State.ptMv (s : State) (d k : Nat) : Int := s.getI (.bias .ptV) d k / 4096

/-- The state of R418: the row nearest the top that applies.  Outputs 6 and 7 hold their setpoints. -/
def State.ptShown (s : State) (d k : Nat) : Nat :=
  if !s.biasOn d then ptOff
  else if s.flag (.bias .ptFault) d k then ptFaulty
  else if s.flag (.bias .hvClamp) d 0 then ptClamped
  else if s.keying d then (if k = 0 ∨ k = 3 then ptKeying else ptHold)
  else if !s.flag (.bias .light) d 0 then ptHold
  else if 6 ≤ k then ptPreset
  else s.get (.bias .ptBase) d k

/-- What a cause above tracking leaves for the return (R418): a point that was LOCKED tracks anew; after the clamp it has
50 outputs to lock, after the loss of light its first output decides, and after keying it starts from its last locked
value. -/
def State.ptLeave (s : State) (d k v : Nat) : State :=
  let s1 := if s.get (.bias .ptBase) d k = ptLocked then s.ptTrack d k else s
  if v = ptClamped then s1.set (.bias .ptTry) d k 50
  else if v = ptKeying then
    if s1.flag (.bias .ptHasLock) d k then s1.set (.bias .ptV) d k (s1.get (.bias .ptLockV) d k) else s1
  else if v = ptHold ∧ ¬ s1.keying d then s1.set (.bias .ptFirst) d k 1
  else s1

/-- Show a point: its state, its output, and an exit from LOCKED.  The offset at which a keyed point lies is not stated in
millivolts (free value, log 5). -/
def State.ptShow (s : State) (d k : Nat) : State :=
  let v := s.ptShown d k
  let s1 := if v = ptFaulty ∨ v = ptClamped ∨ v = ptHold ∨ v = ptKeying then s.ptLeave d k v else s
  let s2 := s1.incIf (decide (s.get (.bias .ptState) d k = ptLocked) && decide (v ≠ ptLocked)) (.bias .nUnlock) d 0
  let s3 := s2.set (.bias .ptState) d k v
  if v = ptKeying then (s3.set (.bias .outMv) d k (s3.freeBits 16)).used
  else s3.set (.bias .outMv) d k (if v = ptOff ∨ v = ptClamped then 0 else enc (s3.ptMv d k) % 2 ^ 16)

/-- Bias lock of carrier `d` (R415). -/
def State.biasLocked (s : State) (d : Nat) : Bool :=
  (List.range 6).all fun k =>
    let v := s.get (.bias .ptState) d k
    decide (v = ptLocked) ||
      (ptPhase k && ((decide (v = ptPreset) && decide (s.txState d ≠ txActive)) ||
        (decide (v = ptUnlocked) && s.flag (.bias .ptAcq) d k)))

/-- A point of the slot lies beyond a level in mV. -/
def State.ptBeyond (s : State) (d : Nat) (mv : Int) : Bool :=
  s.biasOn d && (List.range 6).any (fun k => decide (mv * 4096 < (s.getI (.bias .ptV) d k).natAbs))

/-- Everything that follows from the points of slot `d`: what they show, bias lock, the conditions, and the transmitter's
mute cause (R88, R415, R417). -/
def State.biasShow (s : State) (d : Nat) : State :=
  let s1 := s.each (List.range 8) fun s k => s.ptShow d k
  let s2 := s1.set (.bias .ptLocked) d 0
    (((List.range 8).filter (fun k => decide (s1.get (.bias .ptState) d k = ptLocked))).map (fun k => 2 ^ k)).sum
  let s3 := s2.setB (.bias .biasLock) d 0 (s2.biasLocked d)
  let wrap : Int := s3.get (.bias .wrapMv) d 0
  let s4 := (((s3.cond .biasUnlock d 0 (s3.flag (.bias .biasEn) d 0 && !s3.flag (.bias .biasLock) d 0)).cond
    .biasOutFault d 0 (s3.biasOn d && (List.range 8).any (fun k => s3.flag (.bias .ptFault) d k))).cond
    .biasRail d 0 (s3.biasOn d && (List.range 6).any (fun k => decide ((s3.getI (.bias .ptV) d k).natAbs = 16000 * 4096)))).cond
    .biasNearRail d 0 (s3.ptBeyond d (wrap - 1000))
  s4.when (s4.up d) fun s => s.muteRefresh d

/-- The channel 12 tap rises above, or falls below, the LASER_LOW level (R93, R418). -/
def State.lightSet (s : State) (d : Nat) (b : Bool) : State :=
  if s.flag (.bias .light) d 0 = b then s else (s.setB (.bias .light) d 0 b).biasShow d

end Sys2Proof.Machine
end

