-- ==== Sys2Proof/Machine/Laser.lean ====
section
/-!
DEFINITION. The laser units and their LAS ports: discovery, transactions, monitoring, recovery (R90 to R95).
-/
namespace Sys2Proof.Machine

/-- States of `LAS_STATUS`.STATE. -/
def lasIdle : Nat := 0
def lasDiscover : Nat := 1
def lasTuning : Nat := 2
def lasReadySt : Nat := 3
def lasFaultSt : Nat := 4
def lasDisabled : Nat := 5
def lasAbsent : Nat := 6

/-- The carrier's transmitter and receiver follow the state of its laser unit: mute causes (R88) and LO_LOST (R119). -/
def State.opticsRefresh (s : State) (d : Nat) : State :=
  (s.muteRefresh d).cond .lrLoLost d 0 (s.flag (.lr .rxEn) d 0 && !s.lasReady d)

/-- LAS port `p` exists and its block is up (R2, R11). -/
def State.lasPort (s : State) (p : Nat) : Bool := s.up 0 && s.present p

/-- LASER_DISCOVER runs for port `p`. -/
def State.discovering (s : State) (p : Nat) : Bool := s.called 4 && decide (s.procArg 4 0 = p)

/-- LASER_DISCOVER, if it runs for this port, ends (R92): with TOLERATE it ends with success all the same. -/
def State.discoverEnd (s : State) (p : Nat) (ok : Bool) (reason : Nat) : State :=
  s.when (s.discovering p) fun s => s.procEnd 4 (ok || bit (s.procArg 4 1) 0) (if ok then 0 else reason)

/-- The port enters FAULT, or ABSENT for reason 1 (R91, R93, R94).  A failed rerun of the recovery is no new entry. -/
def State.lasFail (s : State) (p reason : Nat) : State :=
  let s1 := (((s.set (.las .state) p 0 (if reason = 1 then lasAbsent else lasFaultSt)).set (.las .reason) p 0
    reason).set (.las .lowCount) p 0 0).set (.las .recovering) p 0 0
  let s2 := if s.flag (.las .recovering) p 0 then s1 else (s1.inc (.las .nFaultEnter) p 0).raise .lasFault p 0
  (s2.discoverEnd p false reason).opticsRefresh p

/-- Step 6 of R92: the reference tap level is recorded and the port is READY; a recovery has succeeded (R94). -/
def State.lasEnterReady (s : State) (p : Nat) (tap : Int) : State :=
  ((((((((s.setI (.las .refTap) p 0 tap).set (.las .lowCount) p 0 0).set (.las .recovering) p 0 0).set (.las .reason) p
    0 0).set (.las .state) p 0 lasReadySt).lower .lasFault p 0).lower .lasLow p 0).discoverEnd p true 0).opticsRefresh
    p |>.lightSet p true

/-- The port is DISABLED: the unit's output is off (R92, R95). -/
def State.lasDisable (s : State) (p : Nat) : State :=
  ((((((s.set (.las .state) p 0 lasDisabled).set (.las .reason) p 0 0).set (.las .recovering) p 0 0).set
    (.las .lowCount) p 0 0).lower .lasFault p 0).discoverEnd p true 0).opticsRefresh p |>.lightSet p false

/-- Steps 4 to 6 of R92, with the port in TUNING: the unit reports that it is tuned, or the port waits. -/
def State.lasTune (s : State) (p : Nat) (r : LasRead) : State :=
  let s1 := s.set (.las .state) p 0 lasTuning
  if r.tuned then s1.lasEnterReady p r.tap else s1.opticsRefresh p

/-- From step 3 of R92 on: ModuleReady is reached or waited for; with LAS_EN = 0 the port ends DISABLED. -/
def State.lasModule (s : State) (p : Nat) (r : LasRead) : State :=
  let s1 := s.set (.las .state) p 0 lasDiscover
  if r.ready then
    let s2 := s1.set (.las .passed3) p 0 1
    if s.flag (.las .lasEn) p 0 then s2.lasTune p r else s2.lasDisable p
  else s1.opticsRefresh p

/-- Steps 1 to 6 of R92. -/
def State.lasSteps (s : State) (p : Nat) (r : LasRead) : State :=
  let s1 := s.setB (.las .present) p 0 r.present
  if !r.present then s1.lasFail p 1
  else if !r.supported then s1.lasFail p 4
  else s1.lasModule p r

/-- LASER_DISCOVER (R92): procedure 0x04 on the carrier of its argument word 0. -/
def execLaserDiscover (d : Nat) (r : LasRead) (s : State) : Result :=
  finishIf (s.lasPort d && s.discovering d) s fun s => s.lasSteps d r

/-- LAS_TRANSACTION (R91): an attempt completes, or fails; the fourth failure fails the transaction, with reason 2 (no
acknowledge) or 3 (timeout or mismatch). -/
def execLasTransaction (p : Nat) (ok noAck : Bool) (s : State) : Result :=
  finishIf (s.lasPort p && s.flag (.las .present) p 0 && !s.flag (.las .retryWait) p 0) s fun s =>
    if ok then (s.inc (.las .nXact) p 0).set (.las .attempt) p 0 0
    else if s.get (.las .attempt) p 0 < 3 then
      (s.set (.las .attempt) p 0 (s.get (.las .attempt) p 0 + 1)).set (.las .retryWait) p 0 1
    else ((s.inc (.las .nXactFail) p 0).set (.las .attempt) p 0 0).lasFail p (if noAck then 2 else 3)

/-- LAS_RETRY_WAIT_EXPIRY (R91). -/
def execLasRetryWaitExpiry (p : Nat) (s : State) : Result :=
  finishIf (s.lasPort p && s.flag (.las .retryWait) p 0) s fun s =>
    (s.set (.las .retryWait) p 0 0).inc (.las .nRetry) p 0

/-- LAS_PRESENCE_LOST (R91): the transaction is abandoned at once and the port enters ABSENT. -/
def execLasPresenceLost (p : Nat) (s : State) : Result :=
  finishIf (s.lasPort p && decide (s.lasState p ≠ lasAbsent)) s fun s =>
    ((((s.set (.las .present) p 0 0).set (.las .attempt) p 0 0).set (.las .retryWait) p 0 0).lasFail p 1).lightSet p false

/-- A laser-input tap level is more than PIN_MARGIN dB below the reference (R93); levels are in 0.1 dB. -/
def State.tapLow (s : State) (p : Nat) (tap : Int) : Bool :=
  decide (tap < s.getI (.las .refTap) p 0 - 10 * s.get (.las .pinMargin) p 0)

/-- One monitoring reading of a READY port (R93). -/
def State.lasMonitor (s : State) (p : Nat) (r : LasRead) : State :=
  let low := s.tapLow p r.tap
  let n := if low then s.get (.las .lowCount) p 0 + 1 else 0
  let s1 := ((((s.set (.las .freqErr) p 0 (enc r.freqErr % 2 ^ 16)).cond .lasWarn p 0 r.warn).cond .lasLow p 0 low).set
    (.las .lowCount) p 0 n).lightSet p (!low)
  if r.fault then s1.lasFail p 6 else if 10 ≤ n then s1.lasFail p 7 else s1

/-- LAS_POLL (R92, R93): a READY port is monitored; a port in DISCOVER or TUNING goes on when the unit is ready or
tuned. -/
def execLasPoll (p : Nat) (r : LasRead) (s : State) : Result :=
  finishIf (s.lasPort p) s fun s =>
    if s.lasState p = lasReadySt then s.lasMonitor p r
    else if s.lasState p = lasTuning then s.lasTune p r
    else if s.lasState p = lasDiscover then s.lasModule p r
    else s

/-- LAS_TUNE_TIMEOUT (R92). -/
def execLasTuneTimeout (p : Nat) (s : State) : Result :=
  finishIf (s.lasPort p && (decide (s.lasState p = lasDiscover) || decide (s.lasState p = lasTuning))) s fun s =>
    s.lasFail p 5

/-- LAS_RECOVER_TIMER (R94): steps 1 to 6 run again, REASON kept and LASER_FAULT live. -/
def execLasRecoverTimer (p : Nat) (r : LasRead) (s : State) : Result :=
  finishIf (s.lasPort p && (decide (s.lasState p = lasFaultSt) || decide (s.lasState p = lasAbsent))) s fun s =>
    (s.set (.las .recovering) p 0 1).lasSteps p r

/-- What an accepted change of GRID_N starts (R95): steps 4 to 6 of R92; while LAS_EN = 0 the port stays DISABLED.  A
port that no procedure has brought up yet only keeps the value. -/
def State.lasRetune (s : State) (p : Nat) : State :=
  if s.flag (.las .lasEn) p 0 && (s.lasReady p || decide (s.lasState p = lasFaultSt)) then
    (s.set (.las .state) p 0 lasTuning).opticsRefresh p
  else s

/-- LAS_GRID_CHANGE (R95). -/
def execLasGridChange (p n : Nat) (s : State) : Result :=
  finishIf (s.lasPort p) s fun s => (s.setI (.las .gridN) p 0 (sext 16 n)).lasRetune p

/-- What a rise of LAS_EN starts (R95). -/
def State.lasEnable (s : State) (p : Nat) : State :=
  ((s.set (.las .lasEn) p 0 1).set (.las .state) p 0
    (if s.flag (.las .passed3) p 0 then lasTuning else lasDiscover)).opticsRefresh p

/-- LAS_EN_RISE (R95). -/
def execLasEnRise (p : Nat) (s : State) : Result :=
  finishIf (s.lasPort p && !s.flag (.las .lasEn) p 0) s fun s => s.lasEnable p

/-- What a fall of LAS_EN does (R95). -/
def State.lasEnFall (s : State) (p : Nat) : State := (s.set (.las .lasEn) p 0 0).lasDisable p

/-- LAS_EN_FALL (R95). -/
def execLasEnFall (p : Nat) (s : State) : Result :=
  finishIf (s.lasPort p && s.flag (.las .lasEn) p 0) s fun s => s.lasEnFall p

end Sys2Proof.Machine
end

