-- ==== Sys2Proof/Machine/Windows.lean ====
section
/-!
DEFINITION. The storage of the indirect windows (R153, R266, R474): words in force, words written since the last commit,
words committed and not yet applied; and the path-change log (R392).
-/
namespace Sys2Proof.Machine

/-- A window word in force: 16 word places an entry. -/
def State.winWordAt (s : State) (w : Win) (d e k : Nat) : Nat := s.get (.win w) d (16 * e + k)

/-- Set a window word in force. -/
def State.setWin (s : State) (w : Win) (d e k v : Nat) : State := s.set (.win w) d (16 * e + k) v

/-- The indices and values that the store lists for a cell of a die. -/
def State.listed (s : State) (c : Cell) (d : Nat) : List (Nat × Nat) :=
  s.cells.filterMap (fun e => if e.1.cell = c ∧ e.1.die = d then some (e.1.idx, e.2) else none)

/-- Words that COMMIT has scheduled stand at this displacement until they apply. -/
def winHold : Nat := 0x100000

/-- Write a window word that a later COMMIT applies. -/
def State.stageWin (s : State) (w : Win) (d e k v : Nat) : State :=
  (s.set (.winNew w) d (16 * e + k) v).set (.winDirty w) d (16 * e + k) 1

/-- COMMIT: every word written since the last commit is scheduled and BUSY rises (R153, R266). -/
def State.commitWin (s : State) (w : Win) (d : Nat) : State :=
  let l := ((s.listed (.winDirty w) d).map Prod.fst).filter (fun i => decide (i < winHold))
  (s.each l (fun s i =>
    (((s.set (.winNew w) d (winHold + i) (s.get (.winNew w) d i)).set (.winDirty w) d (winHold + i) 1).set
      (.winDirty w) d i 0))).set (.sys .winBusy) d w.ctorIdx 1

/-- The alarm bits of an entry of a window whose entries carry the words of R437. -/
def Win.alms : Win → List Alm
  | .ctCtn => [.ctnSf, .ctnAisRx, .ctnLckRx, .ctnOciRx, .ctnLof, .ctnPmTim, .ctnPmDeg, .ctnPmBdiRx, .ctnPtMismatch,
      .ctnGmpErr, .ctnGapMiss]
  | .tdmCtn => [.tdmHistLost, .tdmDiffExcess, .tdmApsFop, .tdmSwitched, .tdmRealign]
  | .cryCtx => [.crySealFail, .cryReplay, .cryCryptoHold, .cryKeyUnknown, .cryRekeyLate]
  | _ => []

/-- The places of the live, sticky and mask words of such an entry; TDM_CTN has no live word of that layout. -/
def Win.liveWord : Win → Option Nat
  | .ctCtn => some 1
  | .cryCtx => some 2
  | _ => none
def Win.stickyWord : Win → Option Nat
  | .ctCtn | .tdmCtn => some 2
  | .cryCtx => some 3
  | _ => none
def Win.maskWord : Win → Option Nat
  | .ctCtn | .tdmCtn => some 3
  | .cryCtx => some 4
  | _ => none

/-- A committed word takes effect: a mask word in the mask bits of its entry, any other word as it is. -/
def State.landWin (s : State) (w : Win) (d i v : Nat) : State :=
  if w.maskWord = some (i % 16) then s.each w.alms fun s a => s.setB (.mask a) d (i / 16) (bit v a.bitNo)
  else s.set (.win w) d i v

/-- The scheduled words take effect together and BUSY clears. -/
def State.applyWin (s : State) (w : Win) (d : Nat) : State :=
  let l := ((s.listed (.winDirty w) d).map Prod.fst).filter (fun i => decide (winHold ≤ i))
  (s.each l (fun s i =>
    ((s.landWin w d (i - winHold) (s.get (.winNew w) d i)).set (.winDirty w) d i 0))).set (.sys .winBusy) d
      w.ctorIdx 0

/-- BUSY of a window. -/
def State.winBusy (s : State) (w : Win) (d : Nat) : Bool := s.flag (.sys .winBusy) d w.ctorIdx

/-- A word as it will stand once every written entry applies. -/
def State.winPlan (s : State) (w : Win) (d e k : Nat) : Nat :=
  let i := 16 * e + k
  if s.flag (.winDirty w) d i then s.get (.winNew w) d i
  else if s.flag (.winDirty w) d (winHold + i) then s.get (.winNew w) d (winHold + i)
  else s.get (.win w) d i

/-- A path-change event or LOF of carrier `d` is remembered with the reading of every time base (R390): the last eight of
a carrier. -/
def State.carrierEvent (s : State) (d : Nat) : State :=
  let n := s.get (.tim .evtNext) d 0
  (s.each (List.range 4) fun s b => s.set (.tim .evtAt) d (8 * b + n) (s.tbNow b + 1)).set (.tim .evtNext) d 0 ((n + 1) % 8)

/-- A path-change event: an entry of the 64-entry circular TIM_PCE log, the counter and PATH_CHANGE (R392). -/
def State.pathChange (s : State) (kind loc : Nat) : State :=
  let e := s.get (.tim .pceNext) 0 0
  let s := if kind ≤ 2 then s.each ((List.range 8).filter (fun d => decide (locCarrier d = loc))) fun s d => s.carrierEvent d else s
  ((((((s.setWin .timPce 0 e 0 kind).setWin .timPce 0 e 1 loc).setWin .timPce 0 e 2
    (s.get (.tim .tbSec) 0 0 % 2 ^ 32)).setWin .timPce 0 e 3 (s.get (.tim .tbNs) 0 0)).set (.tim .pceNext) 0 0
    ((e + 1) % 64)).inc (.tim .nPce) 0 0).event .timPathChange 0 0

end Sys2Proof.Machine
end

