-- ==== Sys2Proof/Machine/Monitor.lean ====
section
/-!
DEFINITION. The monitor converters: sequencer, over-range handling, calibrated values, the filter units and the system
calibration (R403 to R411).
-/
namespace Sys2Proof.Machine

/-- States of `MON_STATUS`.SEQ_STATE. -/
def seqStopped : Nat := 0
def seqRun : Nat := 1
def seqPause : Nat := 2

/-- The fields of entry `e` of MON_SEQ. -/
def State.seqCh (s : State) (d e : Nat) : Nat := bits (s.winWordAt .monSeq d e 0) 0 4
def State.seqRepeat (s : State) (d e : Nat) : Nat := bits (s.winWordAt .monSeq d e 0) 8 8 + 1
def State.seqDelay (s : State) (d e : Nat) : Nat := bits (s.winWordAt .monSeq d e 0) 16 16

/-- The sequencer makes conversions. -/
def State.seqOn (s : State) (d : Nat) : Bool := s.flag (.mon .monEn) d 0 && decide (s.get (.mon .seqLen) d 0 ≠ 0)

/-- The time of an entry and of a lap in ns (R403). -/
def State.entryNs (s : State) (d e : Nat) : Nat := s.seqRepeat d e * 500 + s.seqDelay d e * 40
def State.lapNs (s : State) (d : Nat) : Nat :=
  ((List.range (s.get (.mon .seqLen) d 0)).map (fun e => s.entryNs d e)).sum

/-- The times within a lap, in ns, at which channel `c` is converted. -/
def State.convTimes (s : State) (d c : Nat) : List Nat :=
  ((List.range (s.get (.mon .seqLen) d 0)).foldl (fun (a : Nat × List Nat) e =>
    (a.1 + s.entryNs d e,
      if s.seqCh d e = c then a.2 ++ (List.range (s.seqRepeat d e)).map (fun i => a.1 + 500 * i) else a.2)) (0, [])).2

/-- The conversions of a lap that channel `c` gets. -/
def State.convCount (s : State) (d c : Nat) : Nat :=
  (((List.range (s.get (.mon .seqLen) d 0)).filter (fun e => decide (s.seqCh d e = c))).map (fun e => s.seqRepeat d e)).sum

/-- The spacing in ns of a channel's conversions if they are equally spaced across the lap boundary (R413). -/
def State.convSpacing (s : State) (d c : Nat) : Option Nat :=
  let t := s.convTimes d c
  let lap := s.lapNs d
  match t with
  | [] => none
  | t0 :: _ =>
    if lap % t.length = 0 ∧ ((List.range t.length).all fun i => t.getD i 0 = t0 + i * (lap / t.length)) then
      some (lap / t.length)
    else none

-- The filter chain (R406 to R409).

/-- A signed 80-bit quantity as a cell holds it, and back. -/
def w80 (v : Int) : Nat := (v % (2 ^ 80 : Nat)).toNat
def s80 (n : Nat) : Int := if n < 2 ^ 79 then n else (n : Int) - (2 ^ 80 : Nat)

/-- A right shift with the dropped bits discarded. -/
def shr (v : Int) (k : Nat) : Int := v / (2 ^ k : Nat)

/-- N and R of filter unit `f`, and the shifts after integrator and comb `i`. -/
def State.filtOrder (s : State) (d f : Nat) : Nat := s.get (.mon .fOrder) d f
def State.filtDecim (s : State) (d f : Nat) : Nat := s.get (.mon .fDecimM1) d f + 1
def State.filtIshift (s : State) (d f i : Nat) : Nat := bits (s.get (.mon .fIshift) d f) (4 * i) 4
def State.filtCshift (s : State) (d f i : Nat) : Nat := bits (s.get (.mon .fCshift) d f) (4 * i) 4

/-- Show the group delay: N × (R − 1) / 2 input samples at the channel's present rate (R407). -/
def State.filtGd (s : State) (d f : Nat) : State :=
  let n := s.convCount d (s.get (.mon .fCh) d f)
  s.set (.mon .fGd) d f
    (roundDiv (s.filtOrder d f * (s.filtDecim d f - 1) * s.lapNs d) (2 * n) % 2 ^ 32)

/-- The synchronising reset of a filter unit (R408). -/
def State.filtReset (s : State) (d f : Nat) : State :=
  let s1 := s.each (List.range 5) fun s i => (s.set (.mon .fAcc) d (8 * f + i) 0).set (.mon .fDel) d (8 * f + i) 0
  let s2 := (((s1.set (.mon .fPhase) d f 0).set (.mon .fOuts) d f 0).set (.mon .fSub) d f 0).set (.mon .fValid) d f 0
  (if s2.flag (.mon .fDcFreeze) d f then s2 else s2.set (.mon .fSeed) d f 1).filtGd d f

/-- Integrators 1 to N: each accumulates, then shifts. -/
def State.filtInteg (s : State) (d f : Nat) (x : Int) : State × Int :=
  (List.range (s.filtOrder d f)).foldl (fun (a : State × Int) i =>
    let acc := w80 (s80 (a.1.get (.mon .fAcc) d (8 * f + i)) + a.2)
    (a.1.set (.mon .fAcc) d (8 * f + i) acc, shr (s80 acc) (s.filtIshift d f i))) (s, x)

/-- Combs 1 to N: each subtracts its last input, then shifts. -/
def State.filtComb (s : State) (d f : Nat) (x : Int) : State × Int :=
  (List.range (s.filtOrder d f)).foldl (fun (a : State × Int) i =>
    let y := s80 (w80 (a.2 - s80 (a.1.get (.mon .fDel) d (8 * f + i))))
    (a.1.set (.mon .fDel) d (8 * f + i) (w80 a.2), shr y (s.filtCshift d f i))) (s, x)

/-- The DC block: y = x − m, then m follows unless it is frozen; after a reset m is seeded from the first valid output. -/
def State.filtDc (s : State) (d f : Nat) (x : Int) (valid : Bool) : State × Int :=
  if !s.flag (.mon .fDcEn) d f then (s, x)
  else
    let s1 := if valid && s.flag (.mon .fSeed) d f then (s.setI (.mon .fMean) d f x).set (.mon .fSeed) d f 0 else s
    let m := s1.getI (.mon .fMean) d f
    if s1.flag (.mon .fDcFreeze) d f then (s1, x - m)
    else (s1.setI (.mon .fMean) d f (m + shr (x - m) (s.get (.mon .fDcK) d f)), x - m)

/-- FILTER_OUTPUT: a decimated output, presented from input sample N × R on, with TAINT when its window held a substitute
or it saturated (R406, R408, R409). -/
def State.filtOutput (s : State) (d f : Nat) (x : Int) : State :=
  let c := s.filtComb d f x
  let n := c.1.get (.mon .fOuts) d f + 1
  let valid := decide (c.1.filtOrder d f ≤ n)
  let sat := satS 32 c.2
  let sub := c.1.get (.mon .fSub) d f
  let window := c.1.filtOrder d f * (c.1.filtDecim d f - 1) + 1
  let taint := decide (sat ≠ c.2) || (decide (sub ≠ 0) && decide (sub ≤ window))
  let b := (c.1.set (.mon .fOuts) d f (n % 2 ^ 64)).filtDc d f sat valid
  if valid then
    (((b.1.set (.mon .fOut) d f (enc b.2 % 2 ^ 32)).set (.mon .fValid) d f 1).setB (.mon .fTaint) d f taint).set
      (.mon .fCount) d f ((b.1.get (.mon .fCount) d f + 1) % 2 ^ 16)
  else b.1

/-- An input sample of a filter unit; `sub`: it repeats the last valid sample of the channel. -/
def State.filtInput (s : State) (d f : Nat) (x : Int) (sub : Bool) : State :=
  let s1 := s.set (.mon .fSub) d f
    (if sub then 1 else if s.get (.mon .fSub) d f = 0 then 0 else (s.get (.mon .fSub) d f + 1) % 2 ^ 64)
  let a := s1.filtInteg d f x
  let p := a.1.get (.mon .fPhase) d f + 1
  if p = a.1.filtDecim d f then (a.1.set (.mon .fPhase) d f 0).filtOutput d f a.2 else a.1.set (.mon .fPhase) d f p

/-- The filter units that view channel `c`. -/
def State.filtsOf (s : State) (d c : Nat) : List Nat :=
  (List.range 4).filter (fun f => s.flag (.mon .fEn) d f && decide (s.get (.mon .fCh) d f = c))

-- Conversions (R403 to R405).

/-- GAIN in 0.01 codes/V and OFFSET in 1/16 code in force (R405). -/
def State.monGain (s : State) (d : Nat) : Nat := if s.flag (.cal .sysValid) d 0 then s.get (.cal .sysGain) d 0 else 1310720
def State.monOfs (s : State) (d : Nat) : Int := if s.flag (.cal .sysValid) d 0 then sext 32 (s.get (.cal .sysOfs) d 0) else 0

/-- The input voltage of a code in µV. -/
def State.monUv (s : State) (d : Nat) (code : Int) : Int :=
  roundDivS ((16 * code - s.monOfs d) * 100000000) (16 * s.monGain d)

/-- The sequencer after one conversion. -/
def State.seqNext (s : State) (d : Nat) : State :=
  let e := s.get (.mon .seqPos) d 0
  let r := s.get (.mon .seqRep) d 0 + 1
  if r < s.seqRepeat d e then s.set (.mon .seqRep) d 0 r else (s.set (.mon .seqRep) d 0 0).set (.mon .seqPos) d 0 (e + 1)

/-- MON_CONVERSION (R404, R405, R409): `v` is the code the input would read without a limit. -/
def execMonConversion (d : Nat) (v : Int) (s : State) : Result :=
  finishIf (s.lantern d && decide (s.get (.mon .seqState) d 0 = seqRun) &&
      decide (s.get (.mon .seqPos) d 0 < s.get (.mon .seqLen) d 0)) s fun s =>
    let c := s.seqCh d (s.get (.mon .seqPos) d 0)
    let ovr := decide (v < -32768) || decide (32767 < v)
    let settle := decide (s.get (.mon .settle) d 0 ≠ 0)
    let code := satS 16 v
    let s1 := ((s.inc (.mon .nConv) d 0).incIf ovr (.mon .nOvr) d 0).incIf settle (.mon .nSettle) d 0
    let s2 := s1.set (.mon .settle) d 0 (if ovr then 2 else s.get (.mon .settle) d 0 - 1)
    let s3 := (((s2.set (.mon .chTag) d c (ovr.toNat + 2 * settle.toNat)).set (.mon .chSeq) d c
      ((s2.get (.mon .chSeq) d c + 1) % 2 ^ 14)).set (.mon .chCode) d c (enc code % 2 ^ 16)).set (.mon .chUv) d c
      (enc (s2.monUv d code) % 2 ^ 32)
    let s4 := (s3.cond .monOvr d c ovr).seqNext d
    let ok := !ovr && !settle
    let s5 := if ok then s4.setI (.mon .lastOk) d c code else s4
    s5.each (s5.filtsOf d c) fun s f => s.filtInput d f (s.getI (.mon .lastOk) d c) (!ok)

/-- The sequencer starts its lap at entry 0, or stops (R403). -/
def State.seqStart (s : State) (d : Nat) : State :=
  let s1 := ((s.set (.mon .seqPos) d 0 0).set (.mon .seqRep) d 0 0).set (.mon .seqState) d 0
    (if s.seqOn d then seqRun else seqStopped)
  (s1.set (.mon .lapUs) d 0 (if s1.seqOn d then s1.lapNs d / 1000 % 2 ^ 20 else 0)).each (List.range 4) fun s f => s.filtGd d f

/-- MON_EN or SEQ_LEN has changed: a running lap goes on, else the sequencer starts or stops. -/
def State.seqFollow (s : State) (d : Nat) : State :=
  if s.get (.mon .seqState) d 0 = seqPause then s
  else if s.seqOn d && decide (s.get (.mon .seqState) d 0 = seqRun) && decide (s.get (.mon .seqPos) d 0 ≤ s.get (.mon .seqLen) d 0)
    then s
  else s.seqStart d

/-- A commit of MON_SEQ takes effect: a filter whose channel's conversions change their spacing is reset (R403, R408). -/
def State.seqApply (s : State) (d : Nat) : State :=
  if s.winBusy .monSeq d then
    let t := s.applyWin .monSeq d
    t.each ((List.range 4).filter (fun f => t.flag (.mon .fEn) d f &&
        (let c := t.get (.mon .fCh) d f
         decide (s.convTimes d c ≠ t.convTimes d c) || decide (s.lapNs d ≠ t.lapNs d)))) fun s f => s.filtReset d f
  else s

/-- MON_LAP_END (R403). -/
def execMonLapEnd (d : Nat) (s : State) : Result :=
  finishIf (s.lantern d && decide (s.get (.mon .seqState) d 0 = seqRun) &&
      decide (s.get (.mon .seqLen) d 0 ≤ s.get (.mon .seqPos) d 0)) s fun s => (s.seqApply d).seqStart d

/-- SYNC resets every unit of SYNC_MASK on the same input sample (R408). -/
def State.filtSync (s : State) (d : Nat) : State :=
  s.each (maskBits 4 (s.get (.mon .syncMask) d 0)) fun s f => s.filtReset d f

/-- FILTER_SYNC (R408). -/
def execFilterSync (d : Nat) (s : State) : Result := finishIf (s.lantern d) s fun s => s.filtSync d

-- System calibration (R410, R411).

/-- CAL_START: the sequencers of the named slots pause. -/
def State.sysCalStart (s : State) : State :=
  let m := s.get (.cal .slotMask) 0 0
  ((s.set (.cal .sysBusy) 0 0 1).set (.cal .sysMask) 0 0 m).each ((maskBits 8 m).filter s.present) fun s d =>
    s.set (.mon .seqState) d 0 seqPause

/-- SYSCAL_START (R410). -/
def execSyscalStart (s : State) : Result :=
  finishIf (s.lantern 0 && !s.flag (.cal .sysBusy) 0 0) s fun s => s.sysCalStart

/-- RESULT of a slot's calibration (R411): 4 OVR, 3 RANGE, 2 REPEAT_MISMATCH, 1 PASS. -/
def State.sysResult (s : State) (m : SysMeas) : Nat :=
  let n : Int := (2 ^ s.get (.cal .navgLog2) 0 0 : Nat)
  let u : Int := s.get (.cal .calrefUv) 0 0
  let tol : Int := s.get (.cal .calTol) 0 0
  let g1 := m.ref1 - m.zero1
  let g2 := m.ref2 - m.zero2
  let gainOk (g : Int) : Bool := decide ((20 * (g * 10000000 - 131072 * n * u)).natAbs ≤ 131072 * n * u)
  let ofsOk (z : Int) : Bool := decide ((z.natAbs : Int) ≤ 655 * n)
  if m.ovr then 4
  else if !(gainOk g1 && gainOk g2 && ofsOk m.zero1 && ofsOk m.zero2) then 3
  else if ((10000 * (g1 - g2)).natAbs : Int) ≤ tol * g1 ∧ ((10000 * (m.zero1 - m.zero2)).natAbs : Int) ≤ tol * 32768 * n then 1
  else 2

/-- The result of one slot is installed or rejected, and its sequencer restarts at entry 0. -/
def State.sysCalSlot (s : State) (m : SysMeas) : State :=
  let d := m.slot
  let r := s.sysResult m
  let n : Nat := 2 ^ s.get (.cal .navgLog2) 0 0
  let u : Nat := s.get (.cal .calrefUv) 0 0
  let s1 := s.set (.cal .sysResult) d 0 r
  let s2 := if r = 1 then
      (((((s1.set (.cal .sysGain) d 0
        (enc (roundDivS ((m.ref1 - m.zero1 + m.ref2 - m.zero2) * 100000000) (2 * n * u)) % 2 ^ 32)).set (.cal .sysOfs) d 0
        (enc (roundDivS (16 * (m.zero1 + m.zero2)) (2 * n)) % 2 ^ 32)).set (.cal .sysValid) d 0 1).set (.cal .sysTimeS) d 0
        (s1.get (.tim .tbSec) 0 0 % 2 ^ 32)).set (.cal .sysTimeNs) d 0 (s1.get (.tim .tbNs) 0 0)).inc (.cal .nSysCount) 0 0
        |>.set (.mon .uncal) d 0 0
    else (s1.inc (.cal .nSysReject) 0 0).eventAt .calSyscalFail 0 0 (locCarrier d)
  let s3 := s2.each (List.range 4) fun s f =>
    if s.flag (.mon .fEn) d f then
      s.each (List.range (m.lost.getD f 0)) fun s _ => s.filtInput d f (s.getI (.mon .lastOk) d (s.get (.mon .fCh) d f)) true
    else s
  (s3.set (.mon .seqState) d 0 seqStopped).seqStart d

/-- SYSCAL_DONE (R411). -/
def execSyscalDone (meas : List SysMeas) (s : State) : Result :=
  finishIf (s.lantern 0 && s.flag (.cal .sysBusy) 0 0) s fun s =>
    let l := (meas.filter (fun m => bit (s.get (.cal .sysMask) 0 0) m.slot && s.present m.slot))
    let rest := ((maskBits 8 (s.get (.cal .sysMask) 0 0)).filter (fun d => s.present d && !l.any (fun m => decide (m.slot = d))))
    ((((s.each l fun s m => s.sysCalSlot m).each rest fun s d => (s.set (.mon .seqState) d 0 seqStopped).seqStart d).set
      (.cal .sysBusy) 0 0 0).set (.cal .sysMask) 0 0 0)

end Sys2Proof.Machine
end

