-- ==== Sys2Proof/Machine/Bias.lean ====
section
/-!
DEFINITION. The modulator bias loops: start, tracking, wraps and faults (R412 to R418).
-/
namespace Sys2Proof.Machine

/-- The channel on which a point is observed (R413). -/
def ptChannel (k : Nat) : Nat := if k < 3 then 8 else 9

/-- The checks of R413: channels 8 and 9 equally spaced, and six distinct tones, whole multiples of f_o below f_in / 4. -/
def State.biasConfigOk (s : State) (d : Nat) : Bool :=
  let r := s.get (.bias .lDecimM1) d 0 + 1
  let tone (k : Nat) : Nat := s.get (.bias .toneHz) d k
  decide ((((List.range 6).map tone).dedup).length = 6) &&
    (List.range 6).all fun k =>
      match s.convSpacing d (ptChannel k) with
      | some t => decide (1000 ≤ tone k) && decide (tone k * t * r % 1000000000 = 0) && decide (4 * tone k * t < 1000000000)
      | none => false

/-- Both HV rails are good (R427). -/
def State.hvGood (s : State) : Bool := !s.flag (.live .pgVhvp) 0 0 && !s.flag (.live .pgVhvn) 0 0

/-- BIAS_START runs for this carrier. -/
def State.biasCalled (s : State) (d : Nat) : Bool := s.called 6 && decide (s.procArg 6 0 % 8 = d)

/-- A start ends (R416); BIAS_START_FAIL is an event. -/
def State.biasEnd (s : State) (d code : Nat) : State :=
  let s1 := if code = 0 then s else s.event .biasStartFail d 0
  s1.when (s1.biasCalled d) fun s => s.procEnd 6 (decide (code = 0) || bit (s.procArg 6 1) 0) code

/-- Step 3: VPI_MV and INIT_MV from the engine's calibration memory, or 3,000 and 0 when it fails its CRC (R412). -/
def State.biasLoad (s : State) (d : Nat) (r : BiasRun) : State :=
  if s.flag (.bias .biasSrc) d 0 then s
  else
    (s.each (List.range 8) fun s k =>
      if r.crcOk then (s.set (.bias .vpiMv) d k (r.vpi.getD k 0 % 2 ^ 16)).setI (.bias .initMv) d k (r.init.getD k 0)
      else (s.set (.bias .vpiMv) d k 3000).setI (.bias .initMv) d k 0).cond .biasCalFail d 0 (!r.crcOk)

/-- Steps 3 to 6 of R416. -/
def State.biasRun (s : State) (d : Nat) (r : BiasRun) : State :=
  let s1 := ((s.biasLoad d r).set (.bias .started) d 0 1).each (List.range 8) fun s k =>
    ((((s.set (.bias .ptFault) d k 0).setI (.bias .ptV) d k (s.getI (.bias .initMv) d k * 4096)).set (.bias .ptTry) d k 0).set
      (.bias .ptFirst) d k 0).set (.bias .ptAcq) d k 0
  let s2 := s1.each (List.range 6) fun s k =>
    if ptPhase k then
      if s.txState d = txActive then (s.ptTrack d k).set (.bias .ptAcq) d k 1 else s.set (.bias .ptBase) d k ptPreset
    else
      match r.found.getD k none with
      | some v =>
        let s' := (s.ptTrack d k).setI (.bias .ptV) d k (v * 4096)
        if r.locked then ((s'.set (.bias .ptBase) d k ptLocked).setI (.bias .ptLockV) d k (v * 4096)).set (.bias .ptHasLock) d k 1
        else s'
      | none => s.set (.bias .ptBase) d k ptSearch
  match r.outFault with
  | some k => ((s2.set (.bias .ptFault) d (k % 8) 1).biasShow d).biasEnd d 5
  | none =>
    (s2.biasShow d).biasEnd d
      (if [0, 1, 3, 4].all (fun k => decide (s2.get (.bias .ptBase) d k = ptLocked)) then 0 else 1)

/-- BIAS_START (R416). -/
def execBiasStart (d : Nat) (r : BiasRun) (s : State) : Result :=
  finishIf (s.lantern d && s.biasCalled d) s fun s =>
    if s.flag (.bias .started) d 0 && s.flag (.bias .biasLock) d 0 then s.biasEnd d 0
    else if !s.flag (.cal .sysValid) d 0 then s.biasEnd d 6
    else if !s.lasReady d || !r.light then s.biasEnd d 2
    else if !s.hvGood then s.biasEnd d 4
    else if !s.biasConfigOk d then s.biasEnd d 3
    else (s.lightSet d true).biasRun d r

/-- BIAS_RESTART (R416). -/
def execBiasRestart (d : Nat) (r : BiasRun) (s : State) : Result :=
  finishIf (s.lantern d && s.flag (.bias .biasEn) d 0) s fun s => (s.set (.bias .restartReq) d 0 0).biasRun d r

/-- A wrap begins: the point moves by 2 × VPI_MV toward 0 V (R417). -/
def State.wrapStart (s : State) (d k : Nat) : State :=
  let v := s.getI (.bias .ptV) d k
  let step : Int := 2 * s.get (.bias .vpiMv) d k * 4096
  ((((s.set (.bias .ptBase) d k ptWrap).setI (.bias .ptWrapTo) d k (if v < 0 then v + step else v - step)).set (.bias .ptAcq) d
    k 0).inc (.bias .nWrap) d 0).event .biasWrap d 0

/-- A point is in tracking (R418). -/
def State.ptTracks (s : State) (d k : Nat) : Bool :=
  decide (s.get (.bias .ptState) d k = ptLocked) || decide (s.get (.bias .ptState) d k = ptUnlocked)

/-- The output moves by (KI / 4,096) mV per code × e × (−1)^POL, within ±16,000 mV (R414). -/
def State.ptMove (s : State) (d k : Nat) (e : Int) : State :=
  let g : Int := s.get (.bias .ptKi) d k
  let v := s.getI (.bias .ptV) d k + (if s.flag (.bias .pol) d k then -(g * e) else g * e)
  s.setI (.bias .ptV) d k (max (-65536000) (min 65536000 v))

/-- The lock state of a tracking point after an output (R414, R418). -/
def State.ptJudge (s : State) (d k : Nat) (e : Int) : State :=
  let thr := s.get (.bias .lockThr) d k
  let lr := if e.natAbs ≤ thr then min 16 (s.get (.bias .ptLockRun) d k + 1) else 0
  let ur := if 4 * thr < e.natAbs then min 16 (s.get (.bias .ptUnlRun) d k + 1) else 0
  let s1 := (s.set (.bias .ptLockRun) d k lr).set (.bias .ptUnlRun) d k ur
  let rail := decide ((s1.getI (.bias .ptV) d k).natAbs = 65536000)
  if rail || decide (ur = 16) then s1.ptTrack d k |>.set (.bias .ptUnlRun) d k ur
  else if lr = 16 then
    ((((s1.set (.bias .ptBase) d k ptLocked).set (.bias .ptHasLock) d k 1).set (.bias .ptLockV) d k
      (s1.get (.bias .ptV) d k)).set (.bias .ptAcq) d k 0).set (.bias .ptTry) d k 0
  else if s1.get (.bias .ptBase) d k = ptLocked then s1.set (.bias .ptLockV) d k (s1.get (.bias .ptV) d k)
  else if s1.get (.bias .ptTry) d k = 1 then (s1.set (.bias .ptTry) d k 0).set (.bias .ptBase) d k ptSearch
  else s1.set (.bias .ptTry) d k (s1.get (.bias .ptTry) d k - 1)

/-- BIAS_LOCKIN_OUTPUT (R409, R414, R417, R418): `found` is where a search ends with this output, in mV. -/
def execBiasLockinOutput (d k : Nat) (e : Int) (taint : Bool) (found : Option Int) (s : State) : Result :=
  finishIf (s.lantern d && s.biasOn d) s fun s =>
    if taint then s.inc (.bias .nTaint) d 0
    else
      let s1 := s.set (.bias .lastE) d k (enc (satS 16 e) % 2 ^ 16)
      let s2 :=
        if s1.get (.bias .ptState) d k = ptSearch then
          match found with
          | some v => (s1.ptTrack d k).setI (.bias .ptV) d k (v * 4096)
          | none => s1
        else if s1.ptTracks d k then
          let far := decide (4 * s1.get (.bias .lockThr) d k < e.natAbs)
          if s1.flag (.bias .ptFirst) d k && far then (s1.set (.bias .ptFirst) d k 0).set (.bias .ptBase) d k ptSearch
          else
            let t := (((s1.set (.bias .ptFirst) d k 0).ptMove d k e).ptJudge d k e)
            let v := (t.getI (.bias .ptV) d k).natAbs
            if t.flag (.bias .wrapAuto) d 0 && decide (t.get (.bias .wrapMv) d 0 * 4096 < v) then t.wrapStart d k else t
        else s1
      s2.biasShow d

/-- BIAS_WRAP_DONE (R417). -/
def execBiasWrapDone (d k : Nat) (s : State) : Result :=
  finishIf (s.lantern d && decide (s.get (.bias .ptState) d k = ptWrap)) s fun s =>
    ((s.set (.bias .ptV) d k (s.get (.bias .ptWrapTo) d k)).ptTrack d k).biasShow d

/-- BIAS_OUTPUT_FAULT (R412). -/
def execBiasOutputFault (d k : Nat) (s : State) : Result :=
  finishIf (s.lantern d && s.biasOn d) s fun s => (s.set (.bias .ptFault) d k 1).biasShow d

/-- BIAS_PHASE_ACQ_TIMEOUT (R414). -/
def execBiasPhaseAcqTimeout (d k : Nat) (s : State) : Result :=
  finishIf (s.lantern d && s.flag (.bias .ptAcq) d k) s fun s => (s.set (.bias .ptAcq) d k 0).biasShow d

/-- WRAP_NOW: every tracking point beyond WRAP_MV − 1,000 mV wraps (R417). -/
def State.wrapNow (s : State) (d : Nat) : State :=
  let lim := (s.get (.bias .wrapMv) d 0 - 1000) * 4096
  (s.each ((List.range 6).filter (fun k => s.ptTracks d k && decide (lim < (s.getI (.bias .ptV) d k).natAbs))) fun s k =>
    s.wrapStart d k).biasShow d

/-- BIAS_WRAP_NOW (R417). -/
def execBiasWrapNow (d : Nat) (s : State) : Result := finishIf (s.lantern d && s.biasOn d) s fun s => s.wrapNow d

/-- The bias clamp is put on, or released when both HV rails are good (R412, R427). -/
def State.clampSet (s : State) (b : Bool) : State :=
  s.each s.dies fun s d => (s.setB (.bias .hvClamp) d 0 b).biasShow d

end Sys2Proof.Machine
end

