-- ==== Sys2Proof/Machine/Chain.lean ====
section
/-!
DEFINITION. The Chain ports and the Spoke links: training, replay, classes, loss of a port (R14 to R24).
Port 0 is UP and port 1 is DN.
-/
namespace Sys2Proof.Machine

/-- States of `CHN_PORT_STATUS`.STATE. -/
def chnOff : Nat := 0
def chnTraining : Nat := 1
def chnUp : Nat := 2
def chnRetraining : Nat := 3
def chnDownSt : Nat := 4

/-- The die that port `p` of die `d` leads to in a ring of `n` dies. -/
def ringPeer (n d p : Nat) : Nat := if p = 0 then (d + 1) % n else (d + n - 1) % n

/-- The die index a port expects (R22). -/
def State.chainPeer (s : State) (d p : Nat) : Nat := ringPeer s.dieCount d p

/-- STATE of a Chain port. -/
def State.chainState (s : State) (d p : Nat) : Nat := s.get (.chn .state) d p

/-- Both ends of the link at port `p` of die `d` are UP. -/
def State.linkUp (s : State) (d p : Nat) : Bool :=
  decide (s.chainState d p = chnUp) && decide (s.chainState (s.chainPeer d p) (1 - p) = chnUp)

/-- A route of at most `fuel` hops in the direction of port `p` leads from `d` to `dest`. -/
def State.route (s : State) (p dest : Nat) : Nat → Nat → Bool
  | 0, _ => false
  | fuel + 1, d => s.linkUp d p &&
      (decide (s.chainPeer d p = dest) || s.route p dest fuel (s.chainPeer d p))

/-- The port of the shorter way from `d` to `dest`; UP where both ways are equally long. -/
def State.shorter (s : State) (d dest : Nat) : Nat :=
  let n := s.dieCount
  if (dest + n - d) % n ≤ (d + n - dest) % n then 0 else 1

/-- The port that a class 0 or 1 flit leaves through: the shorter way, else the other way round the ring (R17, R21). -/
def State.controlPort (s : State) (d dest : Nat) : Option Nat :=
  let p := s.shorter d dest
  if s.route p dest s.dieCount d then some p
  else if s.route (1 - p) dest s.dieCount d then some (1 - p)
  else none

/-- The reservation of a class on a port in 10 Gb/s; class 0 and 1 share the fixed reserve (R17). -/
def State.reserved (s : State) (d p cls : Nat) : Nat :=
  if cls ≤ 1 then 16
  else if cls = 2 then 64 * s.get (.chn .pelEn) d p
  else if cls = 3 then 5 * s.get (.chn .tandemBw) d p
  else 5 * s.get (.chn .bondBw) d p

/-- The sum of R18 in 10 Gb/s. -/
def State.reservedSum (s : State) (d p : Nat) : Nat :=
  16 + s.reserved d p 2 + s.reserved d p 3 + s.reserved d p 4

/-- R18: the reservations of every port fit 4.8 Tb/s, and on the IQ3202 both ports of a die carry equal values. -/
def State.chainBudgetOk (s : State) : Bool :=
  s.dies.all (fun d => decide (s.reservedSum d 0 ≤ 480) && decide (s.reservedSum d 1 ≤ 480) &&
    (decide (s.dieCount ≠ 2) ||
      (decide (s.get (.chn .pelEn) d 0 = s.get (.chn .pelEn) d 1) &&
       decide (s.get (.chn .tandemBw) d 0 = s.get (.chn .tandemBw) d 1) &&
       decide (s.get (.chn .bondBw) d 0 = s.get (.chn .bondBw) d 1))))

/-- The index of the credits of a class of a port. -/
def creditIdx (p cls : Nat) : Nat := 2 * cls + p

/-- A flit may be sent for the first time on a port: credits for its class and room in the replay buffer (R15, R16),
and for classes 2 to 4 a reservation (R17). -/
def State.canSend (s : State) (d p : Nat) (f : ChainOffer) : Bool :=
  decide (s.get (.chn .credits) d (creditIdx p f.cls) ≠ 0) && decide (s.get (.chn .unacked) d p < 256) &&
    decide (s.reserved d p f.cls ≠ 0)

/-- Send a flit for the first time. -/
def State.sendFlit (s : State) (d p : Nat) (f : ChainOffer) : State :=
  let k := creditIdx p f.cls
  (((((s.set (.chn .credits) d k (s.get (.chn .credits) d k - 1)).set (.chn .unacked) d p
    (s.get (.chn .unacked) d p + 1)).inc (.chn .txSeq) d p).inc (.chn .nFlitTx) d p).set (.chn .lastCls) d p
    (1 + f.cls)).set (.chn .lastDest) d p f.dest

/-- The next flit of a port among those offered (R17): class 1, then class 0, then one of classes 2 to 4.  The weighting
by reservation gives shares and no order, so the choice among them is free (log 5). -/
def State.pickFlit (s : State) (d p : Nat) (offers : List ChainOffer) : Option ChainOffer :=
  let ok := offers.filter (fun f => s.canSend d p f)
  let data := ok.filter (fun f => decide (2 ≤ f.cls))
  (ok.find? (fun f => decide (f.cls = 1))).orElse (fun _ =>
    (ok.find? (fun f => decide (f.cls = 0))).orElse (fun _ => data[s.free % data.length]?))

/-- A class 0 or 1 flit of a port that is not UP: rerouted, or held until a route exists (R21). -/
def State.rerouteFlit (s : State) (d : Nat) (f : ChainOffer) : State :=
  match s.controlPort d f.dest with
  | some q => if s.canSend d q f then s.sendFlit d q f else { s with held := s.held ++ [⟨d, f.cls, f.dest⟩] }
  | none => { s with held := s.held ++ [⟨d, f.cls, f.dest⟩] }

/-- Traffic of a port that is not UP (R21): classes 0 and 1 are rerouted or held; classes 2 to 4 stop, except on the
IQ3202, where they move to the surviving link. -/
def State.sendElsewhere (s : State) (d p : Nat) (offers : List ChainOffer) : State :=
  let ctl := (offers.find? (fun f => decide (f.cls = 1))).orElse (fun _ =>
    offers.find? (fun f => decide (f.cls = 0)))
  match ctl with
  | some f => s.rerouteFlit d f
  | none =>
    if decide (s.dieCount = 2) && s.linkUp d (1 - p) then
      match s.pickFlit d (1 - p) offers with
      | some f => (s.sendFlit d (1 - p) f).used
      | none => s
    else s

/-- CHAIN_FLIT_TX (R17): a replay in progress goes on; otherwise the next flit is chosen and sent. -/
def execChainFlitTx (d p : Nat) (offers : List ChainOffer) (s : State) : Result :=
  finishIf (s.up d) s fun s =>
    if s.chainState d p = chnUp then
      if s.get (.chn .replayLeft) d p ≠ 0 then
        (s.set (.chn .replayLeft) d p (s.get (.chn .replayLeft) d p - 1)).inc (.chn .nFlitTx) d p
      else
        match s.pickFlit d p offers with
        | some f => (s.sendFlit d p f).used
        | none => s
    else s.sendElsewhere d p offers

/-- Start a replay at the far port of port `p` of die `d`, from the sequence number that is expected (R15). -/
def State.askReplay (s : State) (d p : Nat) : State :=
  let e := s.chainPeer d p
  ((s.inc (.chn .nReplay) e (1 - p)).set (.chn .replayLeft) e (1 - p) (s.get (.chn .unacked) e (1 - p))).set
    (.chn .replayRun) d p (s.get (.chn .replayRun) d p + 1)

/-- The far port's flit has been accepted: it leaves the replay buffer and its credit returns (R15, R16). -/
def State.ackFlit (s : State) (d p cls : Nat) : State :=
  let e := s.chainPeer d p
  let k := creditIdx (1 - p) cls
  (s.set (.chn .unacked) e (1 - p) (s.get (.chn .unacked) e (1 - p) - 1)).set (.chn .credits) e k
    (min 256 (s.get (.chn .credits) e k + 1))

/-- CHAIN_FLIT_RX (R15, R16). -/
def execChainFlitRx (d p seq : Nat) (crcOk : Bool) (cls : Nat) (holdExpired : Bool) (s : State) : Result :=
  finishIf (s.up d && decide (s.chainState d p = chnUp)) s fun s =>
    let s1 := s.incIf (!crcOk) (.chn .nCrcErr) d p
    if crcOk && decide (seq = s.get (.chn .rxSeq) d p) then
      ((((s1.inc (.chn .nFlitRx) d p).inc (.chn .rxSeq) d p).set (.chn .replayRun) d p 0).ackFlit d p cls).incIf
        (decide (cls = 2) && holdExpired) (.chn .nPelLate) d p
    else s1.askReplay d p

/-- Enter DOWN (R19, R20, R22). -/
def State.chainGoDown (s : State) (d p : Nat) : State := (s.set (.chn .state) d p chnDownSt).raise .chnDown d p

/-- Leave UP for RETRAINING (R20): the port sends the training pattern; the first attempt of the sequence counts. -/
def State.chainLeaveUp (s : State) (d p : Nat) : State :=
  (((s.set (.chn .state) d p chnRetraining).set (.chn .attempt) d p 1).set (.chn .replayRun) d p 0).inc
    (.chn .nRetrain) d p

/-- PORT_EN changes from 0 to 1: a training sequence starts, its first attempt not counted (R19). -/
def State.chainEnable (s : State) (d p : Nat) : State :=
  ((s.set (.chn .portEn) d p 1).set (.chn .state) d p chnTraining).set (.chn .attempt) d p 1

/-- PORT_EN is written 0: the port is OFF and carries nothing (R19, R20).  A spare in use is given back (DEDUCED, log
8). -/
def State.chainDisable (s : State) (d p : Nat) : State :=
  (((((((((s.set (.chn .portEn) d p 0).set (.chn .state) d p chnOff).set (.chn .attempt) d p 0).set (.chn .clkOk) d p
    0).set (.chn .spareUsed) d p 0).set (.chn .failedLane) d p 63).lower .chnDown d p).lower .chnClkLoss d p).lower
    .chnPeerMismatch d p).lower .chnLaneSpared d p

/-- CHAIN_PORT_ENABLE (R19). -/
def execChainPortEnable (d p : Nat) (s : State) : Result :=
  finishIf (s.up d && !s.flag (.chn .portEn) d p) s fun s => s.chainEnable d p

/-- CHAIN_PORT_DISABLE (R19, R20). -/
def execChainPortDisable (d p : Nat) (s : State) : Result :=
  finishIf (s.up d && s.flag (.chn .portEn) d p) s fun s => s.chainDisable d p

/-- The lane test of an attempt finds more than the spare can replace (R19, R20). -/
def State.lanesLost (s : State) (d p : Nat) (failed : List Nat) : Bool :=
  match failed with
  | [] => false
  | [l] => s.flag (.chn .spareUsed) d p && decide (l ≠ s.get (.chn .failedLane) d p)
  | _ => true

/-- A single failed lane is replaced by the spare (R19). -/
def State.useSpare (s : State) (d p : Nat) (failed : List Nat) : State :=
  match failed with
  | [l] => ((s.set (.chn .spareUsed) d p 1).set (.chn .failedLane) d p l).raise .chnLaneSpared d p
  | _ => s

/-- The attempt failed: the next one, counted, or DOWN after the last of 1 + RETRAIN_MAX (R19). -/
def State.nextAttempt (s : State) (d p : Nat) : State :=
  if s.get (.chn .attempt) d p < 1 + s.get (.chn .retrainMax) d p then
    (s.set (.chn .attempt) d p (s.get (.chn .attempt) d p + 1)).inc (.chn .nRetrain) d p
  else s.chainGoDown d p

/-- Training completes: UP; flits in the replay buffer resume (R19, R20). -/
def State.chainComeUp (s : State) (d p : Nat) : State :=
  ((((s.set (.chn .state) d p chnUp).set (.chn .clkOk) d p 1).set (.chn .replayLeft) d p
    (s.get (.chn .unacked) d p)).lower .chnClkLoss d p).lower .chnPeerMismatch d p

/-- CHAIN_TRAIN_ATTEMPT_END (R19, R20, R22). -/
def execChainTrainAttemptEnd (d p : Nat) (completed : Bool) (failedLanes : List Nat) (peer : Nat) (s : State) :
    Result :=
  finishIf (s.up d && (decide (s.chainState d p = chnTraining) || decide (s.chainState d p = chnRetraining))) s fun s =>
    if s.lanesLost d p failedLanes then s.chainGoDown d p
    else
      let s1 := s.useSpare d p failedLanes
      if completed then
        let s2 := s1.set (.chn .peerDie) d p peer
        if peer = s.chainPeer d p then s2.chainComeUp d p else (s2.raise .chnPeerMismatch d p).chainGoDown d p
      else s1.nextAttempt d p

/-- CHAIN_CLK_LOSS (R20). -/
def execChainClkLoss (d p : Nat) (s : State) : Result :=
  finishIf (s.up d && decide (s.chainState d p = chnUp)) s fun s =>
    ((s.set (.chn .clkOk) d p 0).raise .chnClkLoss d p).chainLeaveUp d p

/-- Replays that have passed without acceptance, in either direction of a port (R20: both ports detect this). -/
def State.replaysRun (s : State) (d p : Nat) : Nat :=
  max (s.get (.chn .replayRun) d p) (s.get (.chn .replayRun) (s.chainPeer d p) (1 - p))

/-- CHAIN_REPLAY_LIMIT (R20): 16 consecutive replays in one direction without acceptance. -/
def execChainReplayLimit (d p : Nat) (s : State) : Result :=
  finishIf (s.up d && decide (s.chainState d p = chnUp) && decide (16 ≤ s.replaysRun d p)) s fun s =>
    s.chainLeaveUp d p

/-- The far port of a link sends the training pattern in place of flits (R20). -/
def State.farTrains (s : State) (d p : Nat) : Bool :=
  let q := s.chainState (s.chainPeer d p) (1 - p)
  decide (q = chnTraining) || decide (q = chnRetraining)

/-- CHAIN_PEER_RETRAIN (R20). -/
def execChainPeerRetrain (d p : Nat) (s : State) : Result :=
  finishIf (s.up d && decide (s.chainState d p = chnUp) && s.farTrains d p) s fun s => s.chainLeaveUp d p

/-- A held flit of die `d` can go. -/
def State.heldCanGo (s : State) (d : Nat) (h : HeldFlit) : Bool :=
  decide (h.die = d) && (match s.controlPort d h.dest with
    | some q => s.canSend d q ⟨h.cls, h.dest⟩
    | none => false)

/-- CHAIN_HELD_FLIT_RELEASE (R21): the oldest held flit of the die that has a route is sent. -/
def execChainHeldFlitRelease (d : Nat) (s : State) : Result :=
  finishIf (s.up d) s fun s =>
    match takeFirst (s.heldCanGo d) s.held with
    | some (h, rest) =>
      match s.controlPort d h.dest with
      | some q => { s with held := rest }.sendFlit d q ⟨h.cls, h.dest⟩
      | none => s
    | none => s

/-- SPOKE_FRAME_RX (R24): a frame that fails its CRC-16 is counted and sent again; a valid one ends SPOKE_LOST. -/
def execSpokeFrameRx (d : Nat) (crcOk : Bool) (s : State) : Result :=
  finishIf (s.up d) s fun s =>
    if crcOk then (s.set (.chn .spokeLost) d 0 0).lower .spokeLost d 0 else s.inc (.chn .nSpokeCrcErr) d 0

/-- SPOKE_LOST (R24): no valid frame for 1 ms; the converter status is stale (R422). -/
def execSpokeLost (d : Nat) (s : State) : Result :=
  finishIf (s.up d) s fun s =>
    (((s.set (.chn .spokeLost) d 0 1).raise .spokeLost d 0).set (.cal .stale) d 0 1).raiseAt .calConvStale 0 0 (locCarrier d)

end Sys2Proof.Machine
end

