-- ==== Sys2Proof/Machine/Framing.lean ====
section
/-!
DEFINITION. The state of a carrier's line as the framer sees it: the container map, signal fail of carriers and
containers, alignment and LOF, and FEC signal fail (R140, R147, R149 to R153, R157, R161, R167).
-/
namespace Sys2Proof.Machine

-- The container map (R153): entries of CT_TSMAP.

/-- USE, CONTAINER and SEQ of a map entry. -/
def tsUse (v : Nat) : Nat := bits v 30 2
def tsCtn (v : Nat) : Nat := bits v 0 12
def tsSeq (v : Nat) : Nat := bits v 16 10

/-- The slots of carrier `d` in use, with their map entries. -/
def State.slots (s : State) (d : Nat) : List (Nat × Nat) :=
  ((s.listed (.win .ctTsmap) d).map (fun e => (e.1 / 16, e.2))).filter (fun e => decide (tsUse e.2 ≠ 0))

/-- The package container numbers with working slots on carrier `d`. -/
def State.ctnsOn (s : State) (d : Nat) : List Nat :=
  (((s.slots d).filter (fun e => decide (tsUse e.2 = 1))).map (fun e => tsCtn e.2)).dedup

/-- Working slots of package container `c` on carrier `d`. -/
def State.slotsOf (s : State) (d c use : Nat) : Nat :=
  ((s.slots d).filter (fun e => decide (tsUse e.2 = use) && decide (tsCtn e.2 = c))).length

/-- k of a container: all its working slots (R153). -/
def State.ctnK (s : State) (c : Nat) : Nat := (s.dies.map (fun d => s.slotsOf d c 1)).sum

/-- The carriers that hold working slots of a container. -/
def State.carriersOf (s : State) (c : Nat) : List Nat := s.dies.filter (fun d => decide (s.slotsOf d c 1 ≠ 0))

-- Container configuration: word 0 of CT_CTN and of TDM_CTN.

/-- MODE of local container `i` of die `d`: 0 off, 1 packet, 2 transparent, 3 OCI. -/
def State.ctnMode (s : State) (d i : Nat) : Nat := bits (s.winWordAt .ctCtn d i 0) 0 2
/-- ADMIN_LCK, TIM_ACT, DEG_M and DEG_THR. -/
def State.adminLck (s : State) (d i : Nat) : Bool := bit (s.winWordAt .ctCtn d i 0) 2
def State.timAct (s : State) (d i : Nat) : Bool := bit (s.winWordAt .ctCtn d i 0) 3
def State.degM (s : State) (d i : Nat) : Nat := bits (s.winWordAt .ctCtn d i 0) 8 4
def State.degThr (s : State) (d i : Nat) : Nat := bits (s.winWordAt .ctCtn d i 0) 16 16
/-- TANDEM_EN. -/
def State.tandemEn (s : State) (d i : Nat) : Bool := bit (s.winWordAt .tdmCtn d i 0) 0
/-- Encryption of a container (R328). -/
def State.encOn (s : State) (d i : Nat) : Bool := bit (s.winWordAt .cryCtx d i 0) 0

/-- A carrier's line fails its containers: LOF, FRAMER_EN = 0, RX_SF, FEC_SF, or SM TIM with its action (R150, R163,
R167). -/
def State.carrierSf (s : State) (d : Nat) : Bool :=
  s.flag (.ct .lof) d 0 || !s.flag (.ct .framerEn) d 0 || s.flag (.lr .rxSf) d 0 || s.flag (.live .fecSf) d 0 ||
    (s.flag (.live .ctSmTim) d 0 && s.flag (.ct .smTimAct) d 0)

/-- Chain classes 2 to 4 pass between die `h` and a ring-adjacent die `m` (R21): some link between them is UP. -/
def State.chainReaches (s : State) (h m : Nat) : Bool :=
  (decide (s.chainPeer h 0 = m) && decide (s.chainState h 0 = chnUp)) ||
    (decide (s.chainPeer h 1 = m) && decide (s.chainState h 1 = chnUp))

/-- The bond group of a carrier has failed for containers with slots on more than one member (R161). -/
def State.bondFailed (s : State) (d : Nat) : Bool :=
  s.flag (.ct .bondEn) d 0 && decide (s.get (.ct .bondState) d 0 = 3)

/-- The causes of R167 for a container's own path, apart from Tandem delivery. -/
def State.pathSf (s : State) (h i : Nat) : Bool :=
  let c := 512 * h + i
  let cs := s.carriersOf c
  cs.any (fun m => s.carrierSf m || (decide (m ≠ h) && !s.chainReaches h m)) ||
    (decide (1 < cs.length) && s.bondFailed h) ||
    s.flag (.live .ctnLof) h i || s.flag (.live .ctnPtMismatch) h i || s.flag (.live .ctnAisRx) h i ||
    s.flag (.live .ctnLckRx) h i || s.flag (.live .ctnOciRx) h i ||
    (s.flag (.live .ctnPmTim) h i && s.timAct h i)

/-- A container signals fail (R167); a Tandem container by its delivered output: neither path is present. -/
def State.ctnFails (s : State) (h i : Nat) : Bool :=
  decide (s.ctnMode h i ≠ 0) &&
    (if s.tandemEn h i then !s.flag (.tdm .wPresent) h i && !s.flag (.tdm .pPresent) h i else s.pathSf h i)

/-- Bring CTN_SF of a container up to date. -/
def State.ctnRefresh (s : State) (h i : Nat) : State := s.cond .ctnSf h i (s.ctnFails h i)

/-- The containers that the configuration window of die `d` lists. -/
def State.ctnsOf (s : State) (d : Nat) : List Nat := ((s.listed (.win .ctCtn) d).map (fun e => e.1 / 16)).dedup

/-- Bring CTN_SF of every container with slots on carrier `d`, or homed there, up to date. -/
def State.ctnRefreshAll (s : State) (d : Nat) : State :=
  s.each ((s.ctnsOn d ++ (s.ctnsOf d).map (fun i => 512 * d + i)).dedup) (fun s c => s.ctnRefresh (c / 512) (c % 512))

/-- What a container sends toward the line in place of its payload: 0 normal, 1 ODU-AIS, 2 ODU-LCK, 3 ODU-OCI (R167,
R328). -/
def State.ctnTxMaintenance (s : State) (d i : Nat) : Nat :=
  if s.ctnMode d i = 3 then 3
  else if s.adminLck d i then 2
  else if s.encOn d i && (decide (s.get (.cry .txState) d i = 1) || decide (s.get (.cry .txState) d i = 4)) then 1
  else if s.flag (.live .derAis) d 0 then 1
  else 0

/-- PM BDI of a container and SM BDI of a carrier (R162). -/
def State.pmBdiTx (s : State) (d i : Nat) : Bool := s.flag (.live .ctnSf) d i
def State.smBdiTx (s : State) (d : Nat) : Bool := s.flag (.ct .lof) d 0 || s.flag (.lr .rxSf) d 0

-- Alignment and LOF (R149, R150).

/-- ALIGN, CAND_COUNT and the live bits LOF and OOF follow the aligner (R150). -/
def State.alignRefresh (s : State) (d : Nat) : State :=
  let on := s.flag (.ct .framerEn) d 0
  let lof := on && s.flag (.ct .lof) d 0
  let inf := on && s.flag (.ct .inFrame) d 0
  let s := s.when (lof && !s.flag (.live .ctLof) d 0) fun s => s.carrierEvent d
  ((((s.set (.ct .align) d 0 (if !on || lof then 0 else if inf then 2 else 1)).set (.ct .candCount) d 0
    (s.cands.filter (fun c => decide (c.die = d))).length).cond .ctLof d 0 lof).cond .ctOof d 0
    (on && !inf)).ctnRefreshAll d

/-- The candidates of a carrier are cleared. -/
def State.clearCands (s : State) (d : Nat) : State := { s with cands := s.cands.filter (fun c => decide (c.die ≠ d)) }

/-- The aligner leaves frame (R149, R150). -/
def State.loseFrame (s : State) (d : Nat) : State :=
  ((((s.set (.ct .inFrame) d 0 0).set (.ct .misses) d 0 0).set (.ct .mfasSeen) d 0 0).inc (.ct .nOofEnter) d
    0).clearCands d

/-- RX_SF or FEC_SF is live: LOF at once (R150). -/
def State.lofFollow (s : State) (d : Nat) : State :=
  let fail := s.flag (.ct .framerEn) d 0 && (s.flag (.lr .rxSf) d 0 || s.flag (.live .fecSf) d 0)
  (if fail then
    ((if s.flag (.ct .inFrame) d 0 then s.loseFrame d else s.clearCands d).set (.ct .lof) d 0 1)
   else s).alignRefresh d

/-- FRAMER_EN is written (R150). -/
def State.framerSet (s : State) (d v : Nat) : State :=
  if s.get (.ct .framerEn) d 0 = v then s
  else
    ((((s.set (.ct .framerEn) d 0 v).set (.ct .inFrame) d 0 0).set (.ct .lof) d 0 0).clearCands d).lofFollow d

/-- FEC_SF (R140): not LOCKED while RX_EN is 1, or the last 100 µs interval exceeded its threshold; the framer follows
(R150). -/
def State.fecSfRefresh (s : State) (d : Nat) : State :=
  (s.cond .fecSf d 0 (s.flag (.lr .rxEn) d 0 &&
    (decide (s.get (.fec .lockState) d 0 ≠ 2) || s.flag (.fec .sfInterval) d 0))).lofFollow d

/-- BIP violations that the decoder saw clean set BIP_ONLY (R142). -/
def State.bipOnly (s : State) (d n : Nat) : State :=
  if n = 0 then s else (s.add (.fec .nBipOnly) d 0 n).event .fecBipOnly d 0

end Sys2Proof.Machine
end

