-- ==== Sys2Proof/Machine/Tandem.lean ====
section
/-!
DEFINITION. Tandem protection: requests, the selector, the ring of the early path, realignment and path presence (R166,
R168 to R176).
-/
namespace Sys2Proof.Machine

-- Entries of R173 by their REQ code.
def reqNr : Nat := 0
def reqWtr : Nat := 1
def reqMsW : Nat := 2
def reqMsP : Nat := 3
def reqSeal : Nat := 4
def reqSdW : Nat := 5
def reqSdP : Nat := 6
def reqSfW : Nat := 7
def reqFs : Nat := 8
def reqSfP : Nat := 9
def reqLo : Nat := 10

/-- The states of a Tandem container. -/
def tdmOff : Nat := 0
def tdmSingle : Nat := 1
def tdmAligning : Nat := 2
def tdmProtected : Nat := 3
def tdmHistLostSt : Nat := 4

/-- The entry of R173 that a received request and signal number take (R166); what the table does not list is NR. -/
def apsEntry (r : ApsReq) (sig : Nat) : Nat :=
  match r, sig with
  | .lo, 0 => reqLo
  | .sfP, 0 => reqSfP
  | .fs, 1 => reqFs
  | .sf, 1 => reqSfW
  | .sd, 0 => reqSdP
  | .sd, 1 => reqSdW
  | .ms, 1 => reqMsP
  | .ms, 0 => reqMsW
  | .wtr, 1 => reqWtr
  | _, _ => reqNr

/-- The request and signal number that a local entry is sent with (R166); SEAL goes as SD with signal 1. -/
def apsSend (req revertive sel : Nat) : ApsReq × Nat :=
  match req with
  | 10 => (.lo, 0)
  | 9 => (.sfP, 0)
  | 8 => (.fs, 1)
  | 7 => (.sf, 1)
  | 6 => (.sd, 0)
  | 5 => (.sd, 1)
  | 4 => (.sd, 1)
  | 3 => (.ms, 1)
  | 2 => (.ms, 0)
  | 1 => (.wtr, 1)
  | _ => if revertive = 0 ∧ sel = 1 then (.dnr, 1) else (.nr, 0)

/-- SEL under the highest request (R173): 0 working, 1 protect. -/
def selFor (req revertive sel : Nat) : Nat :=
  if req = reqNr then (if revertive = 1 then 0 else sel)
  else if req = reqLo ∨ req = reqSfP ∨ req = reqSdP ∨ req = reqMsW then 0 else 1

/-- The pages of a container's ring (R172). -/
def ringPages (k diffMax : Nat) : Nat := (k * 625 * diffMax + 8191) / 8192 + 2

/-- The frames of 4 × 3,824 bytes that a ring holds. -/
def ringFrames (k diffMax : Nat) : Nat := ringPages k diffMax * 8192 / 15296

/-- The frames that arrive within a difference in µs: 625 k bytes a µs. -/
def framesIn (k us : Nat) : Nat := (k * 625 * us + 15295) / 15296

/-- The largest DIFF_MAX_US of a pair (R35, R172). -/
def diffLimit (pairSlots : Nat) : Nat := if pairSlots = 0 then 100000 else min 100000 (85899345920 / (pairSlots * 5000))

/-- The partner die of a Tandem pair (R168). -/
def State.pairPartner (s : State) (d : Nat) : Nat := s.chainPeer d (s.get (.tdm .port) d 0)

/-- A Tandem container of a pair. -/
def State.isTandem (s : State) (d i : Nat) : Bool := s.up d && s.tandemEn d i

/-- The conditions of R173 before their hold-off: bit 0 SF-W, 1 SF-P, 2 SD-W, 3 SD-P. -/
def State.tdmRaw (s : State) (d i : Nat) : Nat :=
  let b (x : Bool) (n : Nat) : Nat := if x then n else 0
  b (!s.flag (.tdm .wPresent) d i) 1 + b (!s.flag (.tdm .pPresent) d i) 2 +
    b (s.flag (.live .ctnPmDeg) d i || s.flag (.live .fecSd) d 0) 4 +
    b (s.flag (.tdm .pmDegP) d i || s.flag (.live .fecSd) (s.pairPartner d) 0) 8

/-- The far end's request that competes: none while APS_FOP is live or in unidirectional operation (R166). -/
def State.tdmFar (s : State) (d i : Nat) : Nat :=
  if s.flag (.live .tdmApsFop) d i || !s.flag (.tdm .bidir) d 0 then 0 else s.get (.tdm .far) d i

/-- The highest request in force apart from WTR (R173). -/
def State.tdmBase (s : State) (d i : Nat) : Nat :=
  let sf := s.get (.tdm .sf) d i
  let c (b : Bool) (r : Nat) : Nat := if b then r else 0
  max (max (max (s.get (.tdm .loc) d i) (s.tdmFar d i)) (max (c (bit sf 1) reqSfP) (c (bit sf 0) reqSfW)))
    (max (max (c (bit sf 3) reqSdP) (c (bit sf 2) reqSdW)) (c (s.flag (.tdm .seal) d i) reqSeal))

/-- Follow the highest request (R173): REQ, WTR and SEL.  A change of SEL is counted and sets TANDEM_SWITCHED. -/
def State.tdmFollow (s : State) (d i : Nat) : State :=
  let base := s.tdmBase d i
  let sel := s.get (.tdm .sel) d i
  let rev := s.get (.tdm .revertive) d 0
  let wtr := decide (base < 2) && decide (rev = 1) && decide (sel = 1) &&
    (decide (4 ≤ s.get (.tdm .req) d i) || s.flag (.tdm .wtr) d i)
  let req := if wtr then max base reqWtr else base
  let sel' := selFor req rev sel
  let s1 := (s.setB (.tdm .wtr) d i wtr).set (.tdm .req) d i req
  if sel' = sel then s1
  else ((s1.set (.tdm .sel) d i sel').inc (.tdm .nSwitch) d i).event .tdmSwitched d i

/-- Conditions that have ceased leave at once; with HOLDOFF = 0 new ones act at once (R173). -/
def State.tdmConditions (s : State) (d i : Nat) : State :=
  let raw := s.tdmRaw d i
  s.set (.tdm .sf) d i (if s.get (.tdm .holdoff) d 0 = 0 then raw else s.get (.tdm .sf) d i &&& raw)

/-- TANDEM_SELECT (R173). -/
def execTandemSelect (d i : Nat) (s : State) : Result :=
  finishIf (s.isTandem d i) s fun s => (s.tdmConditions d i).tdmFollow d i

/-- TANDEM_HOLDOFF_EXPIRY (R173): the conditions that hold take effect. -/
def execTandemHoldoffExpiry (d i : Nat) (s : State) : Result :=
  finishIf (s.isTandem d i) s fun s => (s.set (.tdm .sf) d i (s.tdmRaw d i)).tdmFollow d i

/-- TANDEM_WTR_EXPIRY (R173): the revertive selector returns to working. -/
def execTandemWtrExpiry (d i : Nat) (s : State) : Result :=
  finishIf (s.isTandem d i && s.flag (.tdm .wtr) d i) s fun s =>
    ((s.set (.tdm .wtr) d i 0).set (.tdm .req) d i 0).tdmFollow d i

/-- SEAL_REQUEST_CLEAR (R173). -/
def execSealRequestClear (d i : Nat) (s : State) : Result :=
  finishIf (s.isTandem d i && s.flag (.tdm .seal) d i) s fun s => (s.set (.tdm .seal) d i 0).tdmFollow d i

/-- The frames the ring holds. -/
def State.ringHeld (s : State) (d i : Nat) : Nat := s.get (.tdm .wrPtr) d i + 1 - s.get (.tdm .rewind) d i

/-- The ring holds the full measured difference (R174, R175). -/
def State.ringFull (s : State) (d i : Nat) : Bool :=
  decide (framesIn (s.ctnK (512 * d + i)) (s.get (.tdm .diffUs) d i) ≤ s.ringHeld d i)

/-- STATE becomes PROTECTED once the ring holds the measured difference and both paths are present (R174, R175). -/
def State.ringSettle (s : State) (d i : Nat) : State :=
  let st := s.get (.tdm .state) d i
  if (decide (st = tdmAligning) || decide (st = tdmHistLostSt)) && s.flag (.tdm .wPresent) d i &&
      s.flag (.tdm .pPresent) d i && s.ringFull d i then
    (s.set (.tdm .state) d i tdmProtected).lower .tdmHistLost d i
  else s

/-- An early-path frame is written to the ring; an overtake of the rewind mark loses history (R170, R174). -/
def State.ringWrite (s : State) (d i ctr : Nat) : State :=
  let cap := ringFrames (s.ctnK (512 * d + i)) (s.get (.tdm .diffMaxUs) d 0)
  let s1 := s.set (.tdm .wrPtr) d i ctr
  let s2 := if s.get (.tdm .rewind) d i = 0 then s1.set (.tdm .rewind) d i ctr else s1
  if s2.ringHeld d i ≤ cap then s2.ringSettle d i
  else
    ((s2.set (.tdm .rewind) d i (ctr + 1 - cap)).set (.tdm .state) d i tdmHistLostSt).raise .tdmHistLost d i

/-- The delivery delay is set by the later path and never shortened here; a change is a path-change event (R170). -/
def State.tdmDelay (s : State) (d i diff : Nat) : State :=
  let s1 := (s.set (.tdm .diffUs) d i (diff % 2 ^ 17)).cond .tdmDiffExcess d i
    (decide (s.get (.tdm .diffMaxUs) d 0 < diff))
  let want := diff + s.get (.tdm .guardUs) d 0
  if want ≤ s.get (.tdm .delay) d i then s1
  else (s1.set (.tdm .delay) d i want).pathChange 3 (locContainer d i)

/-- What the selector measures on a frame of one path (R170, R174, R175): the early path fills the ring, the late path
shows the difference and whether it comes too soon. -/
def State.tdmArrive (s : State) (d i : Nat) (f : CtnFrame) : State :=
  if f.protect.toNat = s.get (.tdm .early) d i then s.ringWrite d i f.ctr
  else
    let s1 := if s.flag (.tdm .wPresent) d i && s.flag (.tdm .pPresent) d i then s.tdmDelay d i f.diffUs else s
    let s2 := if s.get (.tdm .state) d i = tdmAligning then s1.setB (.tdm .early) d i f.protectFirst else s1
    s2.set (.tdm .earlyRun) d i (if f.beforeGuard then min 16 (s.get (.tdm .earlyRun) d i + 1) else 0)

/-- A frame is delivered from a path; a change of the delivering path is a path-change event (R170). -/
def State.deliver (s : State) (d i n path : Nat) : State :=
  let s1 := ((s.set (.tdm .delivered) d i n).set (.tdm .rewind) d i (max (s.get (.tdm .rewind) d i) (n + 1))).set
    (.tdm .lastPath) d i (1 + path)
  if s.get (.tdm .lastPath) d i = 1 + path ∨ s.get (.tdm .lastPath) d i = 0 then s1
  else s1.pathChange 4 (locContainer d i)

/-- A frame taken from path `q` when the selector needs it there: hitless if `q` still holds it; otherwise delivery jumps
to the oldest frame held and the skipped frames are counted (R174). -/
def State.deliverFrom (s : State) (d i n q : Nat) : State :=
  let r := s.get (.tdm .rewind) d i
  if q = s.get (.tdm .early) d i ∧ n < r then (s.deliver d i r q).add (.tdm .nGap) d i (r - n) else s.deliver d i n q

/-- TANDEM_FRAME_DELIVER (R171, R174): frame `n` is due; `wOk` and `pOk`: the copy of that path is there and its seal
has not failed.  A failed working copy beside a verified protect copy raises request SEAL. -/
def execTandemFrameDeliver (d i n : Nat) (wOk pOk : Bool) (s : State) : Result :=
  finishIf (s.isTandem d i) s fun s =>
    let sel := s.get (.tdm .sel) d i
    let selOk := if sel = 0 then wOk else pOk
    let othOk := if sel = 0 then pOk else wOk
    let req := s.get (.tdm .req) d i
    let s1 := s.when (!wOk && pOk) (fun s => s.set (.tdm .seal) d i 1)
    if selOk then s1.deliverFrom d i n sel
    else if othOk && decide (req ≠ reqLo) && decide (req ≠ reqFs) then
      (s1.deliverFrom d i n (1 - sel)).inc (.tdm .nSubst) d i
    else s1

/-- TANDEM_REALIGN (R175): the late path has come more than GUARD_US early for 16 consecutive frames. -/
def execTandemRealign (d i skip diffUs : Nat) (protectFirst : Bool) (s : State) : Result :=
  finishIf (s.isTandem d i && decide (16 ≤ s.get (.tdm .earlyRun) d i)) s fun s =>
    let s1 := ((((((((s.add (.tdm .nGap) d i skip).setB (.tdm .early) d i protectFirst).set (.tdm .wrPtr) d i 0).set
      (.tdm .rewind) d i 0).set (.tdm .earlyRun) d i 0).set (.tdm .state) d i tdmAligning).set (.tdm .diffUs) d i
      (diffUs % 2 ^ 17)).setB (.tdm .bothSeen) d i (s.flag (.tdm .wPresent) d i && s.flag (.tdm .pPresent) d i))
    ((((s1.lower .tdmHistLost d i).cond .tdmDiffExcess d i (decide (s.get (.tdm .diffMaxUs) d 0 < diffUs))).set
      (.tdm .delay) d i (diffUs + s.get (.tdm .guardUs) d 0)).pathChange 3 (locContainer d i)).event .tdmRealign d i
      |>.inc (.tdm .nRealign) d i

/-- TANDEM_PATH_PRESENCE (R175): `wOk` and `pOk` are the container-level findings on each path; the carriers' own signal
fail and, for the protect path, Chain class 3 to the partner come on top. -/
def execTandemPathPresence (d i : Nat) (wOk pOk : Bool) (s : State) : Result :=
  finishIf (s.isTandem d i) s fun s =>
    let q := s.pairPartner d
    let w := wOk && !s.pathSf d i
    let p := pOk && !s.carrierSf q && s.chainReaches d q
    let both := w && p
    let had := s.flag (.tdm .wPresent) d i && s.flag (.tdm .pPresent) d i
    let st := if both then (if had then s.get (.tdm .state) d i else tdmAligning)
      else if w || p then tdmSingle else s.get (.tdm .state) d i
    let s1 := (((s.setB (.tdm .wPresent) d i w).setB (.tdm .pPresent) d i p).set (.tdm .state) d i st).when both
      (fun s => s.set (.tdm .bothSeen) d i 1)
    ((s1.cond .tdmHistLost d i (decide (st = tdmHistLostSt))).ringSettle d i).ctnRefresh d i

/-- APS_FOP_TIMER (R166): a local request of a bidirectional pair was not reflected within 50 ms. -/
def execApsFopTimer (d i : Nat) (s : State) : Result :=
  finishIf (s.isTandem d i && s.flag (.tdm .bidir) d 0 && decide (s.get (.tdm .req) d i ≠ 0)) s fun s =>
    (s.set (.tdm .unreflected) d i 1).raise .tdmApsFop d i

/-- The APS bytes of a verified frame on the delivered path (R166): a request read identical in 3 consecutive frames is
accepted; D, B and the reflection decide APS_FOP. -/
def State.apsRead (s : State) (d i : Nat) (f : CtnFrame) : State :=
  if f.protect.toNat ≠ s.get (.tdm .sel) d i then s
  else if !f.verified then s.set (.tdm .apsRun) d i 0
  else
    let v := 2 * f.apsReq.ctorIdx + f.apsSig
    let run := if s.get (.tdm .apsLast) d i = v then min 3 (s.get (.tdm .apsRun) d i + 1) else 1
    let bad := f.apsB || decide (f.apsD ≠ s.flag (.tdm .bidir) d 0)
    let unr := s.flag (.tdm .unreflected) d i && decide (f.apsBridged ≠ s.get (.tdm .sel) d i)
    let s1 := (((s.set (.tdm .apsLast) d i v).set (.tdm .apsRun) d i run).setB (.tdm .mismatch) d i bad).setB
      (.tdm .unreflected) d i unr
    let s2 := s1.when (decide (3 ≤ run)) fun s => s.set (.tdm .far) d i (apsEntry f.apsReq f.apsSig)
    s2.cond .tdmApsFop d i (bad || unr)

/-- A command of the PROTECTION ticket on one container (R176). -/
def State.protect (s : State) (d i req : Nat) : State := (s.set (.tdm .loc) d i req).tdmFollow d i

end Sys2Proof.Machine
end

