-- ==== Sys2Proof/Machine/Containers.lean ====
section
/-!
DEFINITION. The framer's receive side apart from the line frame itself: candidates, LOF, container frames, markers,
trail traces, degrade, bond groups, GCC0 and the CT_ and TDM_ windows (R149, R150, R153, R155 to R164).
-/
namespace Sys2Proof.Machine

/-- The carrier is out of frame and searches: FRAMER_EN is 1 and neither RX_SF nor FEC_SF is live (R149, R150). -/
def State.searching (s : State) (d : Nat) : Bool :=
  s.up d && s.flag (.ct .framerEn) d 0 && !s.flag (.ct .inFrame) d 0 && !s.flag (.lr .rxSf) d 0 &&
    !s.flag (.live .fecSf) d 0

/-- FAS_PATTERN_FOUND (R149): a candidate at a new offset, at most four. -/
def execFasPatternFound (d offset : Nat) (s : State) : Result :=
  finishIf (s.searching d) s fun s =>
    let mine := s.cands.filter (fun c => decide (c.die = d))
    if decide (4 ≤ mine.length) || mine.any (fun c => decide (c.offset = offset)) then s
    else State.alignRefresh { s with cands := s.cands ++ [⟨d, offset, 1⟩] } d

/-- LOF_TIMER (R150): the persistence of LOF_MS is over. -/
def execLofTimer (d : Nat) (s : State) : Result :=
  finishIf (s.up d && s.flag (.ct .framerEn) d 0) s fun s =>
    (if !s.flag (.ct .inFrame) d 0 then s.set (.ct .lof) d 0 1
     else if s.flag (.lr .rxSf) d 0 || s.flag (.live .fecSf) d 0 then s
     else s.set (.ct .lof) d 0 0).alignRefresh d

/-- Container alignment (R157): one candidate, 3 hits to align, 5 misses to lose alignment.  `k` is the container's index,
displaced by 512 for the protect path; CTN_LOF shows the working or only path. -/
def State.ctnAlign (s : State) (d i k : Nat) (fas : Bool) : State :=
  let al := s.flag (.ct .cAligned) d k
  if fas then
    let s1 := s.set (.ct .cMisses) d k 0
    if al then s1
    else if s.get (.ct .cHits) d k < 2 then s1.set (.ct .cHits) d k (s.get (.ct .cHits) d k + 1)
    else (((s1.set (.ct .cAligned) d k 1).set (.ct .cHits) d k 0).set (.ct .gapInit) d i 0).when (decide (k < 512))
      (fun s => s.lower .ctnLof d i)
  else if s.get (.ct .cMisses) d k < 4 then
    (s.set (.ct .cMisses) d k (s.get (.ct .cMisses) d k + 1)).set (.ct .cHits) d k 0
  else
    (((s.set (.ct .cMisses) d k 0).set (.ct .cHits) d k 0).set (.ct .cAligned) d k 0).when (decide (k < 512))
      (fun s => s.raise .ctnLof d i)

/-- The PSI that a MODE expects (R154). -/
def psiFor (mode : Nat) : Nat := if mode = 1 then 0x82 else 0x81

/-- GAP_CNT of a verified packet-mode frame against the markers received (R159, R332). -/
def State.gapCompare (s : State) (d i gapCnt : Nat) : State :=
  if s.flag (.ct .gapInit) d i then
    let miss := (gapCnt + 65536 - s.get (.ct .gapSeen) d i) % 65536
    if miss = 0 then s
    else ((s.add (.ct .nGapMiss) d i miss).set (.ct .gapSeen) d i gapCnt).event .ctnGapMiss d i
  else (s.set (.ct .gapSeen) d i gapCnt).set (.ct .gapInit) d i 1

/-- SAPI and DAPI, the first 32 bytes of a TTI, of two entries of the TTI window differ (R163). -/
def State.ttiDiffers (s : State) (d a b : Nat) : Bool :=
  (List.range 8).any (fun k => decide (s.winWordAt .ctTti d a k ≠ s.winWordAt .ctTti d b k))

/-- A TTI read in one multiframe (R163): unchanged in 3 consecutive multiframes it is accepted into the received entry
`e`; the expected TTI is the entry before it. -/
def State.ttiRead (s : State) (d e : Nat) (words : List Nat) (tim : Alm) (i : Nat) : State :=
  if words = [] then s
  else
    let same := (List.range 16).all (fun k => decide (s.get (.ct .ttiLast) d (16 * e + k) = words.getD k 0))
    let run := if same then min 3 (s.get (.ct .ttiRun) d e + 1) else 1
    let s1 := (s.each (List.range 16) (fun s k => s.set (.ct .ttiLast) d (16 * e + k) (words.getD k 0 % 2 ^ 32))).set
      (.ct .ttiRun) d e run
    if run < 3 then s1
    else
      let s2 := s1.each (List.range 16) (fun s k => s.setWin .ctTti d e k (words.getD k 0 % 2 ^ 32))
      s2.cond tim d i (s2.ttiDiffers d e (e - 1))

/-- What a frame in alignment on the working or only path shows (R154 to R163, R177). -/
def State.ctnWorking (s : State) (d i : Nat) (f : CtnFrame) : State :=
  let md := s.ctnMode d i
  let s1 := (((((s.inc (.ct .nFrames) d i).add (.ct .nPmBip) d i f.bip).add (.ct .nPmBei) d i f.bei).incIf
    (decide (f.bip ≠ 0)) (.ct .degBad) d i).set (.ct .beiTx) d i (min 8 f.bip))
  let s2 := ((((s1.cond .ctnPtMismatch d i (decide (f.psi ≠ psiFor md))).cond .ctnPmBdiRx d i f.bdi).cond .ctnAisRx d i
    f.ais).cond .ctnLckRx d i f.lck).cond .ctnOciRx d i f.oci
  let s3 := s2.when f.gmpBad (fun s => s.event .ctnGmpErr d i)
  let s4 := s3.when (decide (md = 1) && f.verified) (fun s => s.gapCompare d i f.gapCnt)
  let s5 := s4.when (decide (md = 1) && !s.encOn d i) (fun s => s.add (.ct .nUncorrPkt) d i f.uncorrPkts)
  (s5.when (f.clean && decide (f.bip ≠ 0)) (fun s => s.bipOnly d 1)).ttiRead d (3 + 3 * i + 2) f.tti .ctnPmTim i

/-- What a frame in alignment on the protect path shows (R177). -/
def State.ctnProtect (s : State) (d i : Nat) (f : CtnFrame) : State :=
  ((s.add (.tdm .nPPmBip) d i f.bip).incIf (decide (f.bip ≠ 0)) (.tdm .degBadP) d i).when
    (f.clean && decide (f.bip ≠ 0)) (fun s => s.bipOnly (s.pairPartner d) 1)

/-- CONTAINER_FRAME_RX (R154 to R163, R166, R170): alignment first, then the overhead of an aligned frame. -/
def execContainerFrameRx (d i : Nat) (f : CtnFrame) (s : State) : Result :=
  finishIf (s.up d && (decide (s.ctnMode d i = 1) || decide (s.ctnMode d i = 2))) s fun s =>
    let k := if f.protect then 512 + i else i
    let s1 := s.ctnAlign d i k f.fas
    let s2 := if s1.flag (.ct .cAligned) d k then
        (if f.protect then s1.ctnProtect d i f else s1.ctnWorking d i f).when (s.tandemEn d i) (fun s =>
          (s.apsRead d i f).tdmArrive d i f)
      else s1
    s2.ctnRefresh d i

/-- A packet-mode container in alignment. -/
def State.ctnPacketRx (s : State) (d i : Nat) : Bool :=
  s.up d && decide (s.ctnMode d i = 1) && s.flag (.ct .cAligned) d i

/-- GAP_MARKER_RX (R159, R332): the packet in progress ends; the count of an unverified frame is not added. -/
def execGapMarkerRx (d i drops : Nat) (verified : Bool) (s : State) : Result :=
  finishIf (s.ctnPacketRx d i) s fun s =>
    ((s.inc (.ct .nGapRx) d i).when verified (fun s => (s.add (.ct .nGapPkts) d i drops).set (.ct .gapSeen) d i
      ((s.get (.ct .gapSeen) d i + 1) % 65536)))

/-- ERROR_MARKER_RX (R159, R332): not counted in an unverified frame. -/
def execErrorMarkerRx (d i : Nat) (verified : Bool) (s : State) : Result :=
  finishIf (s.ctnPacketRx d i) s fun s => s.incIf verified (.ct .nErrmkRx) d i

/-- One second of a degrade judgement (R162): the new run of seconds that differ from `deg`, and the new state. -/
def degSecond (thr m bad run : Nat) (deg : Bool) : Nat × Bool :=
  if thr = 0 then (0, false)
  else if decide (thr < bad) = deg then (0, deg)
  else if run + 1 < m then (run + 1, deg)
  else (0, !deg)

/-- PM_DEG_SECOND (R162): a second ends, on the working path and, for a Tandem container, on the protect path. -/
def execPmDegSecond (d i : Nat) (s : State) : Result :=
  finishIf (s.up d && decide (s.ctnMode d i ≠ 0)) s fun s =>
    let w := degSecond (s.degThr d i) (s.degM d i) (s.get (.ct .degBad) d i) (s.get (.ct .degRun) d i)
      (s.flag (.live .ctnPmDeg) d i)
    let p := degSecond (s.degThr d i) (s.degM d i) (s.get (.tdm .degBadP) d i) (s.get (.tdm .degRunP) d i)
      (s.flag (.tdm .pmDegP) d i)
    ((((((s.set (.ct .degBad) d i 0).set (.ct .degRun) d i w.1).cond .ctnPmDeg d i w.2).set (.tdm .degBadP) d i 0).set
      (.tdm .degRunP) d i p.1).setB (.tdm .pmDegP) d i p.2)

-- Bond groups (R160, R161).

/-- The members of the bond group of carrier `d`. -/
def State.bondMembers (s : State) (d : Nat) : List Nat := (maskBits 8 (s.get (.ct .members) d 0)).filter s.present

/-- The latest arrival among the members, and the skew between the latest and the earliest. -/
def State.bondLatest (s : State) (d : Nat) : Nat := (s.bondMembers d).foldl (fun m e => max m (s.get (.ct .arrival) e 0)) 0
def State.bondSkew (s : State) (d : Nat) : Nat :=
  let l := s.bondLatest d
  (s.bondMembers d).foldl (fun m e => max m (l - s.get (.ct .arrival) e 0)) 0

/-- The lowest-numbered member, which reports the group's events (R36). -/
def State.bondLead (s : State) (d : Nat) : Nat := (s.bondMembers d).headD d

/-- Every member's delay is set and the group is aligned (R160). -/
def State.bondSet (s : State) (d : Nat) : State :=
  let l := s.bondLatest d
  s.each (s.bondMembers d) fun s m =>
    (((s.set (.ct .deskewUs) m 0 ((l - s.get (.ct .arrival) m 0) + 5)).set (.ct .bondState) m 0 2).ctnRefreshAll m)

/-- The group fails: skew above SKEW_MAX_US (R161). -/
def State.bondFail (s : State) (d : Nat) : State :=
  (s.each (s.bondMembers d) fun s m => (s.set (.ct .bondState) m 0 3).ctnRefreshAll m).raiseAt .ctBondSkewExc
    (s.bondLead d) 0 (locBond (s.get (.ct .group) d 0))

/-- BOND_ARRIVAL_REPORT (R160, R161): a member's arrival; once every member has reported, the delays are set or the
group fails.  Later movements realign through BOND_REALIGN. -/
def execBondArrivalReport (d us : Nat) (s : State) : Result :=
  finishIf (s.up d && s.flag (.ct .bondEn) d 0) s fun s =>
    let s1 := ((s.set (.ct .arrival) d 0 us).set (.ct .arrived) d 0 1).when (decide (s.get (.ct .bondState) d 0 = 0))
      (fun s => s.set (.ct .bondState) d 0 1)
    if (s1.bondMembers d).all (fun m => s1.flag (.ct .arrived) m 0) then
      if s1.get (.ct .skewMaxUs) d 0 < s1.bondSkew d then s1.bondFail d
      else if s1.get (.ct .bondState) d 0 = 1 then s1.bondSet d
      else s1
    else s1

/-- Some member's delay has moved by more than 5 µs (R161). -/
def State.bondMoved (s : State) (d : Nat) : Bool :=
  let l := s.bondLatest d
  (s.bondMembers d).any (fun m =>
    let want := (l - s.get (.ct .arrival) m 0) + 5
    let have' := s.get (.ct .deskewUs) m 0
    decide (have' + 5 < want) || decide (want + 5 < have'))

/-- BOND_REALIGN (R161): after a move of more than 5 µs, or a return within SKEW_MAX_US. -/
def execBondRealign (d : Nat) (s : State) : Result :=
  finishIf (s.up d && s.flag (.ct .bondEn) d 0 && decide (s.bondSkew d ≤ s.get (.ct .skewMaxUs) d 0) &&
    (decide (s.get (.ct .bondState) d 0 = 3) || (decide (s.get (.ct .bondState) d 0 = 2) && s.bondMoved d))) s fun s =>
    let s1 := s.lowerAt .ctBondSkewExc (s.bondLead d) 0 (locBond (s.get (.ct .group) d 0))
    (s1.each (s1.bondMembers d) (fun s m => s.inc (.ct .nBondRealign) m 0)).bondSet d

/-- GCC0_FRAME_RX (R164): a frame with a bad FCS or an unknown address is discarded and counted; a good one passes to
the channel its address names. -/
def execGcc0FrameRx (d : Nat) (fcsOk : Bool) (address : Nat) (s : State) : Result :=
  finishIf (s.up d && s.flag (.ct .framerEn) d 0 && s.flag (.ct .inFrame) d 0) s fun s =>
    if !fcsOk then s.inc (.ct .nGccFcsErr) d 0
    else s.incIf (decide (address = 0) || decide (3 < address)) (.ct .nGccAddrDisc) d 0

-- The CT_ and TDM_ windows (R153).

/-- The framer windows. -/
def framerWin (w : Nat) : Win :=
  match w with
  | 0 => .ctTti
  | 1 => .ctTsmap
  | 2 => .ctCtn
  | _ => .tdmCtn

/-- CT_WINDOW_COMMIT (R153). -/
def execCtWindowCommit (d w : Nat) (s : State) : Result :=
  finishIf (s.up d) s fun s => s.commitWin (framerWin w) d

/-- Ring pages in use on a die: the rings of the Tandem containers homed there (R172, `TDM_REGION`). -/
def State.tdmPages (s : State) (d : Nat) : Nat :=
  ((s.listed (.win .tdmCtn) d).map (fun (e : Nat × Nat) =>
    if s.tandemEn d (e.1 / 16) && decide (e.1 % 16 = 0) then
      ringPages (s.ctnK (512 * d + e.1 / 16)) (s.get (.tdm .diffMaxUs) d 0)
    else 0)).sum

/-- Containers whose TANDEM_EN has just changed start or stop (R168, R175). -/
def State.tandemSync (s : State) (d : Nat) : State :=
  s.each (((s.listed (.win .tdmCtn) d).map (fun (e : Nat × Nat) => e.1 / 16) ++
      (s.listed (.tdm .state) d).map Prod.fst).dedup) fun s i =>
    if s.tandemEn d i then
      if s.get (.tdm .state) d i = tdmOff then s.set (.tdm .state) d i tdmSingle else s
    else (s.set (.tdm .state) d i tdmOff).lower .tdmHistLost d i

/-- CT_COMMIT_APPLY (R153): at a frame with FN mod 256 = 0 the committed entries take effect together; the windows PC_LVL,
TIM_LINK and TEL_LIST, which follow the layout of the CT_ windows, apply there too (DEDUCED, log 39). -/
def execCtCommitApply (d : Nat) (s : State) : Result :=
  finishIf (s.up d && decide (s.get (.ct .txFn) 0 0 % 256 = 0)) s fun s =>
    let s1 := ((if d = 0 then [Win.ctTti, .ctTsmap, .ctCtn, .tdmCtn, .pcLvl, .timLink, .telList]
      else [Win.ctTti, .ctTsmap, .ctCtn, .tdmCtn, .pcLvl]).filter (fun w => s.winBusy w d)).foldl (fun s w => s.applyWin w d) s
    let s2 := s1.tandemSync d
    (s2.set (.tdm .pages) d 0 (s2.tdmPages d)).ctnRefreshAll d

end Sys2Proof.Machine
end

