-- ==== Sys2Proof/Machine/Receiver.lean ====
section
/-!
DEFINITION. The line receiver: front end, dispersion, acquisition, losing and regaining lock (R97 to R122).
-/
namespace Sys2Proof.Machine

/-- RX_STATE codes: steps 1 to 9, LOCKED, HOLD, FAILED_WAIT (R116, R118). -/
def rxOff : Nat := 0
def rxPrereq : Nat := 1
def rxSignal : Nat := 2
def rxCd : Nat := 3
def rxFreq : Nat := 4
def rxTiming : Nat := 5
def rxEq : Nat := 6
def rxSync : Nat := 7
def rxCarrier : Nat := 8
def rxVerify : Nat := 9
def rxLocked : Nat := 10
def rxHold : Nat := 11
def rxFailedWait : Nat := 12

/-- RX_STATE of carrier `d`. -/
def State.rxState (s : State) (d : Nat) : Nat := s.get (.lr .rxState) d 0

/-- RX_EN of carrier `d`. -/
def State.rxOn (s : State) (d : Nat) : Bool := s.flag (.lr .rxEn) d 0

/-- The active receive bank. -/
def State.rxMode (s : State) (d : Nat) : Mode := s.rxBank d (s.get (.lr .bank) d 0)

/-- The compensation limit L at a symbol rate field, in ps/nm (R103). -/
def cdLimit (rs : Nat) : Nat := if rs ≤ 560 then 50000 else 50000 * 560 ^ 2 / rs ^ 2

/-- The DGD limit at a symbol rate field, in 0.01 ps (R106): (NTAPS − 1) / 4 symbol periods. -/
def dgdLimit (ntaps rs : Nat) : Nat := (ntaps - 1) * 100000 / rs

/-- |estimate| + 500 ps/nm exceeds L (R104, R105). -/
def cdOutOfRange (est : Int) (rs : Nat) : Bool := decide (cdLimit rs < est.natAbs + 500)

/-- The measured DGD exceeds 0.8 × the limit (R105). -/
def dgdOutOfRange (dgd ntaps rs : Nat) : Bool := decide (8 * (ntaps - 1) * 100000 < 10 * dgd * rs)

/-- The search window of R104: CD_MIN to CD_MAX clipped to ±L. -/
def State.cdWindow (s : State) (d : Nat) : Int × Int :=
  let l : Int := cdLimit (s.rxMode d).rs
  (max (s.getI (.lr .cdMin) d 0) (-l), min (s.getI (.lr .cdMax) d 0) l)

/-- Where the search starts (R104). -/
def State.cdStart (s : State) (d : Nat) : Int :=
  let w := s.cdWindow d
  if s.flag (.lr .cdEstValid) d 0 then s.getI (.lr .cdEst) d 0
  else if w.1 ≤ 0 && 0 ≤ w.2 then 0
  else if w.1.natAbs ≤ w.2.natAbs then w.1 else w.2

/-- CD_NEAR_LIMIT follows the estimate and the active rate (R104). -/
def State.cdNear (s : State) (d : Nat) : State :=
  s.cond .lrCdNearLimit d 0
    (s.flag (.lr .cdEstValid) d 0 && cdOutOfRange (s.getI (.lr .cdEst) d 0) (s.rxMode d).rs)

/-- The iteration cap in force (R137). -/
def State.iterCap (s : State) (d : Nat) : Nat :=
  let k := (s.rxMode d).netK
  if k = 0 then s.get (.fec .iterMax) d 0 else min (s.get (.fec .iterMax) d 0) (1024 / k)

/-- Codeword lock starts afresh in SEARCH, or is OFF (R136). -/
def State.fecEnter (s : State) (d st : Nat) : State :=
  (((s.clear (fun k => decide (k.cell = .fec .candAt) && decide (k.die = d))).set (.fec .failRun) d 0 0).set
    (.fec .lockState) d 0 st).set (.fec .iterCap) d 0 (if st = 0 then 0 else s.iterCap d)

/-- The FEC follows RX_SF (R136): OFF while it is 1; SEARCH when the receiver enters LOCKED. -/
def State.fecFollow (s : State) (d : Nat) : State :=
  (if s.rxState d = rxLocked then
    if s.get (.fec .lockState) d 0 = 0 then s.fecEnter d 1 else s
   else if s.get (.fec .lockState) d 0 = 0 then s else s.fecEnter d 0).fecSfRefresh d

/-- Go to a receiver state: RX_SF, RX_DOWN, codeword lock and the quality window follow (R121, R123, R136). -/
def State.rxGo (s : State) (d st : Nat) : State :=
  let s1 := (s.set (.lr .rxState) d 0 st).set (.lr .rxSf) d 0 (if st = rxLocked then 0 else 1)
  let s2 := if st = rxLocked then s1 else (s1.set (.lr .winLocked) d 0 0).set (.lr .missed) d 0 0
  (s2.cond .lrRxDown d 0 (s.rxOn d && decide (st ≠ rxLocked))).fecFollow d

/-- `LR_LATENCY`: the delay of the active bank and the Peloton hold. -/
def State.latencyRefresh (s : State) (d : Nat) : State :=
  s.set (.lr .latNs) d 0 ((s.get (.lr .latBase) d 0 + s.get (.pel .holdNs) d 0) % 2 ^ 16)

/-- A bank becomes active: the fixed delays of the receiver and the FEC in it, which the spec does not give (free
values, log 5). -/
def State.latencyBank (s : State) (d : Nat) : State :=
  let s1 := (s.set (.lr .latBase) d 0 (s.freeBits 16)).used
  ((s1.set (.fec .latNs) d 0 (s1.freeBits 16)).used).latencyRefresh d

/-- An attempt begins (R117). -/
def State.rxAttempt (s : State) (d : Nat) : State :=
  ((((s.inc (.lr .nAcqAttempt) d 0).set (.lr .acqRetryLeft) d 0 (s.get (.lr .acqRetry) d 0)).set (.lr .fastRun) d 0
    0)).rxGo d rxPrereq

/-- Load receive calibration values; they take effect at the next received DSP frame boundary (R102). -/
def State.rxLoadCal (s : State) (d : Nat) (c : OeCal) : State :=
  ((s.each (List.range 4) (fun s t =>
    (s.setI (.lr .tribGain) d t (c.gain.getD t 0)).setI (.lr .tribSkew) d t (c.skew.getD t 0))).setI
    (.lr .xPhase) d 0 c.xPhase).setI (.lr .yPhase) d 0 c.yPhase

/-- Read the receive calibration memory at the first RX_EN rise after start-up (R102). -/
def State.rxReadCal (s : State) (d : Nat) (c : OeCal) : State :=
  if s.flag (.lr .rxcalSrc) d 0 then s
  else if c.crcOk then (s.rxLoadCal d c).lower .lrRxcalFail d 0
  else (s.rxLoadCal d ⟨false, [], [], 0, 0, []⟩).raise .lrRxcalFail d 0

/-- Input power is below LOS_THRESH; powers are in 0.1 dBm (R119). -/
def State.powerLow (s : State) (d : Nat) (power : Int) : Bool := decide (power < s.getI (.lr .losThresh) d 0)

/-- Input power is above LOS_THRESH + 1 dB (R116, R119). -/
def State.powerBack (s : State) (d : Nat) (power : Int) : Bool := decide (s.getI (.lr .losThresh) d 0 + 10 < power)

/-- The input power as `LR_FRONT` shows it. -/
def State.setRxPower (s : State) (d : Nat) (power : Int) : State := s.set (.lr .rxPower) d 0 (enc power % 2 ^ 16)

/-- RX_EN is 1: acquisition begins at PREREQ with a new attempt and a new quality window (R116, R117, R119, R123). -/
def State.rxStart (s : State) (d : Nat) (cal : OeCal) (power : Int) : State :=
  let s1 := if s.flag (.lr .firstStart) d 0 then s else ((s.rxReadCal d cal).latencyBank d).set (.lr .firstStart) d 0 1
  let s2 := if s.rxOn d && decide (s.rxState d ≠ rxOff) then s1 else (s1.set (.lr .winLocked) d 0 0).when (s.powerLow d power) (fun s => s.raise .lrLos d 0)
  ((s2.set (.lr .rxEn) d 0 1).rxAttempt d).opticsRefresh d

/-- RX_EN changes to 0 (R118, R119). -/
def State.rxStop (s : State) (d : Nat) : State :=
  let s1 := ((((s.set (.lr .rxEn) d 0 0).set (.lr .cdEstValid) d 0 0).set (.lr .eqValid) d 0 0).set (.lr .fastRun) d 0
    0).set (.fec .sfInterval) d 0 0
  (((s1.rxGo d rxOff).cdNear d).lower .lrLos d 0).lower .lrLoLost d 0

/-- RX_EN_RISE (R116). -/
def execRxEnRise (d : Nat) (cal : OeCal) (power : Int) (s : State) : Result :=
  finishIf (s.up d && (!s.rxOn d || decide (s.rxState d = rxOff))) s fun s => s.rxStart d cal power

/-- ACQUIRE_LINE (R115): procedure 0x09, whatever state the receiver is in. -/
def execAcquireLine (d : Nat) (cal : OeCal) (power : Int) (s : State) : Result :=
  finishIf (s.up d && s.called 9 && decide (s.procArg 9 0 = d)) s fun s => s.rxStart d cal power

/-- RX_EN_FALL (R118). -/
def execRxEnFall (d : Nat) (s : State) : Result :=
  finishIf (s.up d && s.rxOn d) s fun s => s.rxStop d

/-- ACQUIRE_LINE, if it runs for this carrier, ends (R115). -/
def State.acquireEnd (s : State) (d : Nat) (ok : Bool) : State :=
  s.when (s.called 9 && decide (s.procArg 9 0 = d)) fun s =>
    s.procEnd 9 (ok || bit (s.procArg 9 1) 0)
      (if ok then 0 else 16 * s.get (.lr .lastFailStep) d 0 + s.get (.lr .lastFailReason) d 0)

/-- Acquisition is complete (R116, R117, R120). -/
def State.rxEnterLocked (s : State) (d : Nat) : State :=
  (((((((s.set (.lr .everLocked) d 0 1).set (.lr .acqRetryLeft) d 0 (s.get (.lr .acqRetry) d 0)).lower .lrAcqFailed d 0).incIf
    (s.flag (.lr .fastRun) d 0) (.lr .nRelockFast) d 0).set (.lr .fastRun) d 0 0).set (.lr .eqValid) d 0 1).rxGo d
    rxLocked).acquireEnd d true

/-- A dispersion estimate is stored and the filter set to it (R104). -/
def State.setCd (s : State) (d : Nat) (cd : Int) : State :=
  (((s.setI (.lr .cdEst) d 0 cd).set (.lr .cdEstValid) d 0 1).setI (.lr .cdFilter) d 0 cd).cdNear d

/-- The condition of the present acquisition step is met (R116). -/
def State.acqMet (s : State) (d : Nat) (m : AcqMeas) : Bool :=
  let w := s.cdWindow d
  match s.rxState d with
  | 1 => s.lasReady d && s.flag (.cal .convValid) d 0
  | 2 => s.powerBack d m.power
  | 3 => decide (w.1 ≤ m.cd) && decide (m.cd ≤ w.2)
  | 4 => decide (m.freq.natAbs ≤ 3500)
  | 9 => decide (s.get (.lr .ngmiMin) d 0 ≤ m.ngmi)
  | n => decide (5 ≤ n) && decide (n ≤ 8)

/-- The step passes: what it leaves and the step that follows (R104, R113, R116). -/
def State.acqPass (s : State) (d : Nat) (m : AcqMeas) : State :=
  match s.rxState d with
  | 1 => s.rxGo d rxSignal
  | 2 =>
    let s1 := ((s.setRxPower d m.power).set (.lr .tiaGain) d 0 (min 120 m.gain)).lower .lrLos d 0
    if s.flag (.lr .cdMode) d 0 then (s1.setCd d (s.getI (.lr .cdSet) d 0)).rxGo d rxFreq else s1.rxGo d rxCd
  | 3 => (s.setCd d m.cd).rxGo d rxFreq
  | 7 => (s.setB (.lr .xySwap) d 0 m.swap).rxGo d rxCarrier
  | 9 => s.rxEnterLocked d
  | n => s.rxGo d (n + 1)

/-- The receiver is in an acquisition step. -/
def State.acquiring (s : State) (d : Nat) : Bool := decide (1 ≤ s.rxState d) && decide (s.rxState d ≤ 9)

/-- ACQ_STEP_PASS (R116). -/
def execAcqStepPass (d : Nat) (m : AcqMeas) (s : State) : Result :=
  finishIf (s.up d && s.acquiring d && s.acqMet d m) s fun s => s.acqPass d m

/-- The reason code with which a step fails (R117). -/
def State.failReason (s : State) (d : Nat) : Nat :=
  match s.rxState d with
  | 1 => 2
  | 2 => if s.flag (.live .lrLos) d 0 then 3 else 1
  | 3 => 5
  | 4 => 4
  | 7 => 6
  | 9 => 7
  | _ => 1

/-- ACQ_STEP_TIMEOUT (R117): the step fails; a restart, or FAILED_WAIT when none is left. -/
def execAcqStepTimeout (d : Nat) (s : State) : Result :=
  finishIf (s.up d && s.acquiring d) s fun s =>
    let s1 := (((s.set (.lr .lastFailReason) d 0 (s.failReason d)).set (.lr .lastFailStep) d 0 (s.rxState d)).inc
      (.lr .nAcqFail) d 0).set (.lr .fastRun) d 0 0
    if s.get (.lr .acqRetryLeft) d 0 = 0 then ((s1.rxGo d rxFailedWait).raise .lrAcqFailed d 0).acquireEnd d false
    else
      (s1.set (.lr .acqRetryLeft) d 0 (s.get (.lr .acqRetryLeft) d 0 - 1)).rxGo d
        (if s.rxState d = rxPrereq then rxPrereq else rxSignal)

/-- FAILED_WAIT_EXPIRY (R117). -/
def execFailedWaitExpiry (d : Nat) (s : State) : Result :=
  finishIf (s.up d && s.rxOn d && decide (s.rxState d = rxFailedWait)) s fun s => s.rxAttempt d

/-- From HOLD to SIGNAL: the frozen equaliser state is discarded, the CD estimate kept (R120). -/
def State.holdToSignal (s : State) (d : Nat) : State := (s.set (.lr .eqValid) d 0 0).rxGo d rxSignal

/-- Enter HOLD; a HOLD_MS of 0 goes straight on to SIGNAL (R119, R120). -/
def State.enterHold (s : State) (d : Nat) : State :=
  let s1 := ((s.inc (.lr .nLosEnter) d 0).set (.lr .fastRun) d 0 0).rxGo d rxHold
  if s.get (.lr .holdMs) d 0 = 0 then s1.holdToSignal d else s1

/-- RX_LOS (R119): LOS is live in every state; LOCKED and steps CD to VERIFY go to HOLD. -/
def execRxLos (d : Nat) (power : Int) (s : State) : Result :=
  finishIf (s.up d && s.rxOn d && s.powerLow d power) s fun s =>
    ((s.setRxPower d power).raise .lrLos d 0).when (decide (3 ≤ s.rxState d) && decide (s.rxState d ≤ 10))
      (fun s => s.enterHold d)

/-- RX_POWER_RETURN (R119, R120). -/
def execRxPowerReturn (d : Nat) (power : Int) (s : State) : Result :=
  finishIf (s.up d && s.rxOn d && s.powerBack d power) s fun s =>
    let s1 := (s.setRxPower d power).lower .lrLos d 0
    if s.rxState d = rxHold then
      if s.flag (.lr .fastRelock) d 0 then (s1.set (.lr .fastRun) d 0 1).rxGo d rxTiming else s1.holdToSignal d
    else s1

/-- HOLD_EXPIRY (R120). -/
def execHoldExpiry (d : Nat) (s : State) : Result :=
  finishIf (s.up d && decide (s.rxState d = rxHold)) s fun s => s.holdToSignal d

/-- RX_LO_LOST (R119): from steps SIGNAL to VERIFY, LOCKED and HOLD to PREREQ, no failed step. -/
def execRxLoLost (d : Nat) (s : State) : Result :=
  finishIf (s.up d && s.rxOn d && !s.lasReady d) s fun s =>
    (s.raise .lrLoLost d 0).when (decide (2 ≤ s.rxState d) && decide (s.rxState d ≤ 11)) (fun s =>
      (s.set (.lr .fastRun) d 0 0).rxGo d rxPrereq)

/-- The receiver is LOCKED. -/
def State.locked (s : State) (d : Nat) : Bool := s.up d && decide (s.rxState d = rxLocked)

/-- EQ_SLIP (R108). -/
def execEqSlip (d : Nat) (s : State) : Result :=
  finishIf (s.locked d) s fun s => ((s.event .lrEqSlip d 0).inc (.lr .nEqReinit) d 0).rxGo d rxEq

/-- SYNC_LOSS (R113). -/
def execSyncLoss (d : Nat) (s : State) : Result :=
  finishIf (s.locked d) s fun s => ((s.event .lrSyncLoss d 0).inc (.lr .nSyncLoss) d 0).rxGo d rxSync

/-- FREQ_OFFSET_EXCEEDED (R110). -/
def execFreqOffsetExceeded (d : Nat) (s : State) : Result :=
  finishIf (s.locked d) s fun s => s.rxGo d rxFreq

/-- CYCLE_SLIP (R112): pilot-aided phase recovery runs from step CARRIER on; a slip never leaves LOCKED. -/
def execCycleSlip (d : Nat) (s : State) : Result :=
  finishIf (s.up d && decide (8 ≤ s.rxState d) && decide (s.rxState d ≤ 10)) s fun s =>
    (s.event .lrCycleSlip d 0).inc (.lr .nCycleSlip) d 0

/-- AGC_FAST_STEP (R100): the gain, in 0.25 dB, drops by 1 dB at once. -/
def execAgcFastStep (d : Nat) (s : State) : Result :=
  finishIf (s.up d && s.rxOn d) s fun s =>
    (s.set (.lr .tiaGain) d 0 (s.get (.lr .tiaGain) d 0 - 4)).inc (.lr .nAgcFastStep) d 0

/-- ADC_CLIP_WINDOW (R101): the samples of converter `t` that clipped in a 1 ms window. -/
def execAdcClipWindow (d t clipped : Nat) (s : State) : Result :=
  finishIf (s.up d && s.rxOn d) s fun s =>
    (s.add (.lr .nAdcClip) d t clipped).when (decide (1600 < clipped)) (fun s => s.event .lrAdcClipHi d 0)

/-- ADC_OVERLOAD (R101): live while the fast-step condition holds at gain 0. -/
def execAdcOverload (d : Nat) (holds : Bool) (s : State) : Result :=
  finishIf (s.up d && s.rxOn d) s fun s => s.cond .lrAdcOverload d 0 (holds && decide (s.get (.lr .tiaGain) d 0 = 0))

/-- RX_PWR_LOW (R101): live while the RMS lies 6 dB low at a gain of 30 dB. -/
def execRxPwrLow (d : Nat) (holds : Bool) (s : State) : Result :=
  finishIf (s.up d && s.rxOn d) s fun s => s.cond .lrRxPwrLow d 0 (holds && decide (s.get (.lr .tiaGain) d 0 = 120))

/-- CD_REPROGRAM (R104): an estimate more than 100 ps/nm from the filter setting. -/
def execCdReprogram (d : Nat) (cd : Int) (s : State) : Result :=
  finishIf (s.locked d && decide (100 < (cd - s.getI (.lr .cdFilter) d 0).natAbs)) s fun s => s.setCd d cd

/-- Pending receive calibration and bank reloads apply (R102, R122). -/
def State.rxApplyPending (s : State) (d : Nat) : State :=
  (((s.each (List.range 4) (fun s t =>
    (s.set (.lr .useGain) d t (s.get (.lr .tribGain) d t)).set (.lr .useSkew) d t (s.get (.lr .tribSkew) d t))).set
    (.lr .useXPhase) d 0 (s.get (.lr .xPhase) d 0)).set (.lr .useYPhase) d 0 (s.get (.lr .yPhase) d 0)).set
    (.lr .modeReload) d 0 0

/-- The active receive bank changes (R122): in any state but OFF. -/
def State.rxSwitch (s : State) (d b : Nat) : State :=
  if s.rxState d = rxOff then s
  else
    let same := decide ((s.rxBank d b).rs = (s.rxMode d).rs)
    let s1 := (((s.set (.lr .bank) d 0 b).inc (.lr .nBankSwitch) d 0).set (.lr .modeReload) d 0 1).latencyBank d
    let s2 := if same then s1 else (s1.set (.lr .winLocked) d 0 0).cdNear d
    let s3 := if !same && decide (s.rxState d = rxLocked) then s2.rxGo d rxTiming else s2
    s3.set (.fec .iterCap) d 0 (if s3.get (.fec .lockState) d 0 = 0 then 0 else s3.iterCap d)

end Sys2Proof.Machine
end

