-- ==== Sys2Proof/Machine/Fec.lean ====
section
/-!
DEFINITION. Soft-decision FEC: the codes and their placement, codeword lock, decoding, signal fail and degrade, and the
end of a quality window (R123, R124, R126 to R142).
-/
namespace Sys2Proof.Machine

/-- NGMI_TH in 1/65,536 (R127); in an OIF mode it is 0.860 (R144). -/
def Mode.ngmiTh (q : Mode) : Nat :=
  if q.lineStd ≠ 0 then 56361
  else [53871, 55116, 56361, 57606, 58851, 60097, 61342, 62587].getD q.fecRate 0

/-- The shift f(i, c) of an information column (R128). -/
def infoShift (i c : Nat) : Nat := (3 * c ^ 2 + (24 * i + 7) * c + 97 * i) % 384

/-- The entry of the base matrix at row block `i` and column block `c`: a shift, or none for a zero block (R128). -/
def baseEntry (i c : Nat) : Option Nat :=
  if c ≤ 46 then
    if i ≤ 2 || decide ((c + 2 * i) % 5 ≤ 1) then some (infoShift i c) else none
  else if i ≤ 2 then
    if c = 47 then some (if i = 1 then 0 else 1)
    else if c = 48 then (if i ≤ 1 then some 0 else none)
    else if c = 49 then (if 1 ≤ i then some 0 else none)
    else none
  else if c = 47 + i then some 0
  else if c = 47 + i % 3 then some (29 * i % 384)
  else none

/-- Whether the parity-check matrix has a 1 at row `r` of row block `i` and column `x` of column block `c`. -/
def parityBit (i r c x : Nat) : Bool :=
  match baseEntry i c with
  | some sh => decide (x = (r + sh) % 384)
  | none => false

/-- j = 40 + q (R126). -/
def fecJ (q : Nat) : Nat := 40 + q

/-- Bits of a transmitted codeword (R129): information, core parity and the extension parity that is sent. -/
def codewordBits (q : Nat) : Nat := 384 * fecJ q + 1152 + 384 * (7 - q)

/-- One step of the remainder by x¹² + x⁶ + x⁴ + x + 1 (R130). -/
def bchStep (rem : Nat) (b : Bool) : Nat :=
  let v := 2 * rem + b.toNat
  if bit v 12 then (v ^^^ 0x1053) % 4096 else v

/-- The 12 parity bits of the 3,060 leading bits of a component word (R130). -/
def bchParity (word : List Bool) : Nat := (word ++ List.replicate 12 false).foldl bchStep 0

/-- Groups in a superframe (R131). -/
def groupsPerSuperframe (m : Nat) : Nat := 124 * m

/-- L_sf, the line-frame bits of a superframe (R134). -/
def Mode.lsf (q : Mode) : Nat := q.netK * 239 * 12230590464 / (2825 * q.rs)

/-- I_sf, the information capacity of a superframe (R134). -/
def Mode.isf (q : Mode) : Nat :=
  595200 * q.entropy - groupsPerSuperframe q.m * (76800 - 1524 * fecJ q.fecRate)

/-- The fill Φ of a superframe and the fill bits F_g of a group (R134). -/
def Mode.fill (q : Mode) : Nat := q.isf - q.lsf
def Mode.groupFill (q : Mode) (g : Nat) : Nat :=
  (g + 1) * q.fill / groupsPerSuperframe q.m - g * q.fill / groupsPerSuperframe q.m

/-- One step of the fill PRBS-31 x³¹ + x²⁸ + 1 (R134). -/
def prbs31 (st : Nat) : Nat × Nat :=
  let b := (bits st 30 1 + bits st 27 1) % 2
  (b, (2 * st + b) % 2 ^ 31)

/-- The parity-check test of a row: the XOR of the bits that the matrix selects, over a list of column values. -/
def rowSyndrome (i r : Nat) (word : Nat → Nat → Bool) : Bool :=
  (List.range 57).foldl (fun acc c =>
    match baseEntry i c with
    | some sh => acc ^^ word c ((r + sh) % 384)
    | none => acc) false

/-- SUPERFRAME_ENCODE_START (R135): the staircase, the fill accumulator and the PRBS-31 restart. -/
def execSuperframeEncodeStart (d : Nat) (s : State) : Result :=
  finishIf (s.up d && s.txFrames d) s fun s =>
    (((s.set (.fec .stairClear) d 0 1).set (.fec .fillAcc) d 0 0).set (.fec .prbs31) d 0 0x7FFFFFFF).inc
      (.fec .superframes) d 0

/-- Codeword lock in SEARCH (R136): candidates 75 DSP frames apart that pass twice in succession give LOCKED. -/
def State.fecSearch (s : State) (d frame : Nat) (passed : Bool) : State :=
  let ph := frame % 75
  if !passed then s.set (.fec .candAt) d ph 0
  else if 75 ≤ frame ∧ s.get (.fec .candAt) d ph = frame - 75 + 1 then
    (((s.fecEnter d 2).set (.fec .lockPhase) d 0 ph)).fecSfRefresh d
  else s.set (.fec .candAt) d ph (frame + 1)

/-- The same test at a superframe start in LOCKED: four consecutive failures lose lock (R136). -/
def State.fecHold (s : State) (d : Nat) (passed : Bool) : State :=
  if passed then s.set (.fec .failRun) d 0 0
  else if s.get (.fec .failRun) d 0 < 3 then s.set (.fec .failRun) d 0 (s.get (.fec .failRun) d 0 + 1)
  else (((s.event .fecLockLoss d 0).inc (.fec .nLockLoss) d 0).fecEnter d 1).fecSfRefresh d

/-- FEC_LOCK_CANDIDATE (R136): the test of group 0 at the DSP frame boundary numbered `frame`. -/
def execFecLockCandidate (d frame : Nat) (passed : Bool) (s : State) : Result :=
  finishIf (s.up d) s fun s =>
    if s.get (.fec .lockState) d 0 = 1 then s.fecSearch d frame passed
    else if s.get (.fec .lockState) d 0 = 2 && decide (frame % 75 = s.get (.fec .lockPhase) d 0) then
      s.fecHold d passed
    else s

/-- CODEWORD_DECODE (R137, R139, R144): skipped while RX_SF is 1; in LOCKED it is counted, and in the histogram at the
iteration at which its syndrome first reached zero. -/
def execCodewordDecode (d : Nat) (converged : Bool) (iter : Nat) (s : State) : Result :=
  finishIf (s.up d && s.rxOn d) s fun s =>
    if s.flag (.lr .rxSf) d 0 then s.inc (.fec .nCwSkipped) d 0
    else if s.get (.fec .lockState) d 0 = 2 then
      let s1 := s.inc (.fec .nCw) d 0
      if converged && decide (iter ≤ s.get (.fec .iterCap) d 0) then
        s1.incIf (decide ((s.rxMode d).lineStd ≠ 1)) (.fec .nIterHist) d (iter - 1)
      else (s1.inc (.fec .nLdpcFail) d 0).event .fecLdpcFail d 0
    else s

/-- OUTER_ROW_EXIT (R138): a row leaves the window.  `outer` bits were corrected by the outer decoder, `ones` and `zeros`
are information bits whose final value differs from the hard decision, `residual` codewords hold a bit of a residual row
for the first time. -/
def execOuterRowExit (d outer ones zeros residual : Nat) (s : State) : Result :=
  finishIf (s.up d && s.rxOn d && decide (s.get (.fec .lockState) d 0 = 2)) s fun s =>
    let s1 := (((s.add (.fec .nOuterCorr) d 0 outer).add (.fec .nCorrBits) d 0 (ones + zeros)).add
      (.fec .nCorrOnes) d 0 ones).add (.fec .nCorrZeros) d 0 zeros
    s1.when (decide (residual ≠ 0)) fun s =>
      ((s.add (.fec .nUncorr) d 0 residual).add (.fec .ucwCount) d 0 residual).event .fecUncorr d 0

/-- FEC_SF_INTERVAL (R140): a 100 µs interval ends. -/
def execFecSfInterval (d : Nat) (s : State) : Result :=
  finishIf (s.up d && s.rxOn d) s fun s =>
    ((s.setB (.fec .sfInterval) d 0 (decide (s.get (.fec .ucwSfThresh) d 0 < s.get (.fec .ucwCount) d 0))).set
      (.fec .ucwCount) d 0 0).fecSfRefresh d

/-- NGMI in 1/65,536 from GMI in 1/4,096 bit: 1 − (H − GMI) / m (R124); in an OIF mode H = m = 4 (R144). -/
def Mode.ngmi (q : Mode) (gmi : Nat) : Nat :=
  let m := if q.lineStd ≠ 0 then 4 else q.m
  let h16 := if q.lineStd ≠ 0 then 64 else q.entropy
  satU 16 (65536 - roundDivS ((4096 * h16 : Nat) - (16 * gmi : Nat)) m).toNat

/-- Write every `LR_Q_` register but SEQ (R123, R124). -/
def State.writeQuality (s : State) (d : Nat) (q : Quality) (ngmi : Nat) : State :=
  let pel := if s.flag (.pel .pelOn) d 0 && (s.flag (.pel .nbUp) d 0 || s.flag (.pel .nbDn) d 0) then q.pelGain else 0
  let ber := if q.errs = 0 then 0xFFFF else q.berNlog % 2 ^ 16
  ((((((((((((((s.set (.lr .qSnrEff) d 0 (satU 16 q.snrEff)).set (.lr .qPelGain) d 0 (enc pel % 2 ^ 16)).set
    (.lr .qGmi) d 0 (satU 16 q.gmi)).set (.lr .qNgmi) d 0 ngmi).set (.lr .qCd) d 0 (enc q.cd % 2 ^ 32)).set
    (.lr .qDgd) d 0 (satU 16 q.dgd)).set (.lr .qPolRatePeak) d 0 (satU 16 q.polPeak)).set
    (.lr .qFreqOff) d 0 (enc q.freqOff % 2 ^ 16)).set (.lr .qLinewidth) d 0 (satU 16 q.linewidth)).set
    (.lr .qBerNlog) d 0 ber).set (.lr .qSnrX) d 0 (satU 16 q.snrX)).set (.lr .qSnrY) d 0 (satU 16 q.snrY)).set
    (.lr .qBits) d 0 (q.bits % 2 ^ 64))).set (.lr .qErrs) d 0 (q.errs % 2 ^ 64)

end Sys2Proof.Machine
end

