-- ==== Sys2Proof/Machine/Peloton.lean ====
section
/-!
DEFINITION. Peloton: declared neighbours, their envelopes, walk-off and hold, and their states (R178 to R183).
-/
namespace Sys2Proof.Machine

/-- The states of a neighbour (`PEL_STATUS`). -/
def nbOff : Nat := 0
def nbWait : Nat := 1
def nbActive : Nat := 2
def nbSuspended : Nat := 3
def nbWalkExc : Nat := 4
def nbLate : Nat := 5

/-- NB_UP or NB_DN of a carrier. -/
def State.nbBit (s : State) (d p : Nat) : Bool := if p = 0 then s.flag (.pel .nbUp) d 0 else s.flag (.pel .nbDn) d 0

/-- A neighbour that stage 7 of R97 may use: declared, with Peloton on and the receiver enabled (R178, R182). -/
def State.nbOn (s : State) (d p : Nat) : Bool := s.flag (.pel .pelOn) d 0 && s.nbBit d p && s.rxOn d

/-- Neighbour minus own GRID_N, in 6.25 GHz steps. -/
def State.nbGrid (s : State) (d p : Nat) : Int := s.getI (.las .gridN) (s.chainPeer d p) 0 - s.getI (.las .gridN) d 0

/-- SPACING in 0.1 GHz (`PEL_NB`). -/
def State.nbSpacing (s : State) (d p : Nat) : Int := roundDivS (s.nbGrid d p * 625) 10

/-- 12,480 × W in ps (R181): |CD| × 6.25 GHz × |difference| / 124.8. -/
def State.nbWalk (s : State) (d p : Nat) : Nat :=
  (sext 32 (s.get (.lr .qCd) d 0)).natAbs * (s.nbGrid d p).natAbs * 625

/-- W exceeds 100,000 ps. -/
def State.nbWalkBad (s : State) (d p : Nat) : Bool := decide (100000 * 12480 < s.nbWalk d p)

/-- WALKOFF in 10 ps units. -/
def State.nbWalkField (s : State) (d p : Nat) : Nat :=
  if 655340 * 12480 < s.nbWalk d p then 0xFFFF else roundDiv (s.nbWalk d p) 124800

/-- The hold a neighbour needs in ns: its lag, half of W and 100 ns (R180); part of a ns counts as a whole one. -/
def State.nbNeed (s : State) (d p lag : Nat) : Nat := lag + (s.nbWalk d p + 24959999) / 24960000 + 100

/-- No bank that a carrier runs from is an OIF mode (R144, R178). -/
def State.noOif (s : State) (d : Nat) : Bool := decide ((s.txMode d).lineStd = 0) && decide ((s.rxMode d).lineStd = 0)

/-- The declaration of one port is accepted (R178). -/
def State.nbDeclOk (s : State) (d p : Nat) : Bool :=
  let e := s.chainPeer d p
  s.flag (.pel .pelOn) d 0 && s.flag (.chn .pelEn) d p && s.nbBit e (1 - p) &&
    decide ((s.nbGrid d p).natAbs ≤ 80) && s.noOif d && s.noOif e

/-- Every declaration of the part is accepted (R178). -/
def State.pelotonOk (s : State) : Bool :=
  s.dies.all (fun d => (List.range 2).all (fun p => !s.nbBit d p || s.nbDeclOk d p))

/-- The neighbour's envelope can reach stage 7: its receiver is LOCKED with Peloton on, its die is awake and the link is
UP (R179, R182). -/
def State.nbSends (s : State) (d p : Nat) : Bool :=
  let e := s.chainPeer d p
  s.linkUp d p && s.locked e && s.flag (.pel .pelOn) e 0

/-- The alarms follow the neighbours (R182). -/
def State.pelAlarms (s : State) (d : Nat) : State :=
  let anySt (st : Nat) : Bool := decide (s.get (.pel .nbState) d 0 = st) || decide (s.get (.pel .nbState) d 1 = st)
  (((s.cond .pelNbLost d 0 (s.locked d && (s.flag (.pel .lost) d 0 || s.flag (.pel .lost) d 1))).cond .pelSuspended d 0
    (anySt nbSuspended)).cond .pelWalkExc d 0 (anySt nbWalkExc)).cond .pelLate d 0 (anySt nbLate)

/-- HOLD_NS is the largest need of the active neighbours; a change is a path-change event (R180, R392). -/
def State.pelHold (s : State) (d : Nat) : State :=
  let need (p : Nat) : Nat := if s.get (.pel .nbState) d p = nbActive then s.get (.pel .need) d p else 0
  let h := max (need 0) (need 1)
  if h = s.get (.pel .holdNs) d 0 then s
  else ((s.set (.pel .holdNs) d 0 h).latencyRefresh d).pathChange 2 (locCarrier d)

/-- Put a neighbour into a state; what its taps do (R182): 0 zero, 1 frozen, 2 adapting. -/
def State.nbEnter (s : State) (d p st taps : Nat) : State :=
  let s1 := (s.set (.pel .nbState) d p st).set (.pel .tapsRun) d p (if taps = 2 then 1 else 0)
  (if taps = 0 then s1.set (.pel .taps) d p 0 else s1).set (.pel .lost) d p 0

/-- The neighbour goes to WAIT: with zero taps from OFF, frozen otherwise; `lost`: its envelope stopped (R182). -/
def State.nbToWait (s : State) (d p : Nat) (lost : Bool) : State :=
  let st := s.get (.pel .nbState) d p
  if st = nbWait then s.when (!s.locked d) (fun s => s.set (.pel .lost) d p 0)
  else
    ((s.nbEnter d p nbWait (if st = nbOff then 0 else 1)).setB (.pel .lost) d p (lost && decide (st ≠ nbOff))).incIf
      (lost && decide (st = nbActive)) (.pel .nWaitEnter) d 0

/-- An envelope is present and the own receiver is LOCKED: ACTIVE, or WALK_EXC or LATE (R180, R182).  The latter two are
judged again once a quality window has ended. -/
def State.nbToUse (s : State) (d p lag : Nat) : State :=
  let st := s.get (.pel .nbState) d p
  if (decide (st = nbWalkExc) || decide (st = nbLate)) && !s.flag (.pel .reeval) d p then s
  else if s.nbWalkBad d p then (s.nbEnter d p nbWalkExc 0).set (.pel .reeval) d p 0
  else if 4000 < s.nbNeed d p lag then (s.nbEnter d p nbLate 0).set (.pel .reeval) d p 0
  else
    let s1 := s.when (decide (st ≠ nbActive)) (fun s => s.set (.pel .need) d p (s.nbNeed d p lag))
    s1.nbEnter d p nbActive 2

/-- One neighbour at a DSP frame boundary (R182). -/
def State.nbMove (s : State) (d p : Nat) (arriving : Bool) (lag : Nat) : State :=
  let st := s.get (.pel .nbState) d p
  if !s.nbOn d p then s.nbEnter d p nbOff 0
  else if st = nbSuspended then s
  else if !s.locked d then s.nbToWait d p false
  else if !(arriving && s.nbSends d p) then s.nbToWait d p true
  else s.nbToUse d p lag

/-- SPACING and WALKOFF of a declared neighbour. -/
def State.nbShow (s : State) (d p : Nat) : State :=
  if s.nbOn d p then
    (s.set (.pel .spacing) d p (enc (s.nbSpacing d p) % 2 ^ 16)).set (.pel .walkoff) d p (s.nbWalkField d p)
  else (s.set (.pel .spacing) d p 0).set (.pel .walkoff) d p 0

/-- PEL_ENVELOPE_RX (R180): an alignment word more than one sample from the expected count suspends the neighbour's term
until one agrees. -/
def execPelEnvelopeRx (d p : Nat) (hasWord : Bool) (word expected : Nat) (s : State) : Result :=
  finishIf (s.up d && s.nbOn d p && s.nbSends d p && hasWord) s fun s =>
    let diff := (word + 65536 - expected % 65536) % 65536
    if diff ≤ 1 ∨ diff = 65535 then s.set (.pel .termOff) d p 0
    else (s.set (.pel .termOff) d p 1).inc (.pel .nAlignErr) d 0

/-- PEL_NEIGHBOUR_EVENT (R180 to R182): at a DSP frame boundary; `arriving`: the neighbour's envelope comes in time,
`lagNs` its measured lag. -/
def execPelNeighbourEvent (d p : Nat) (arriving : Bool) (lagNs : Nat) (s : State) : Result :=
  finishIf (s.up d) s fun s => (((s.nbMove d p arriving lagNs).nbShow d p).pelHold d).pelAlarms d

/-- The suspended neighbours of a carrier return to WAIT with zero taps (R183). -/
def State.nbResume (s : State) (d p : Nat) : State :=
  s.when (decide (s.get (.pel .nbState) d p = nbSuspended)) fun s => s.nbEnter d p nbWait 0

/-- PEL_SUSPEND_EXPIRY (R183). -/
def execPelSuspendExpiry (d : Nat) (s : State) : Result :=
  finishIf (s.up d) s fun s => ((s.nbResume d 0).nbResume d 1).pelAlarms d

/-- One neighbour under the negative-gain guard (R183). -/
def State.nbGuard (s : State) (d p : Nat) : State :=
  let st := s.get (.pel .nbState) d p
  if st = nbOff ∨ st = nbSuspended then s else (s.nbEnter d p nbSuspended 0).inc (.pel .nSuspend) d 0

/-- The end of a quality window at Peloton (R182, R183): walk-off and lag are judged again; a valid window whose PEL_GAIN
lies below −0.10 dB suspends every neighbour. -/
def State.pelWindow (s : State) (d : Nat) (valid : Bool) (gain : Int) : State :=
  let s1 := (s.set (.pel .reeval) d 0 1).set (.pel .reeval) d 1 1
  if valid && s.flag (.pel .negGuard) d 0 && s.flag (.pel .pelOn) d 0 && decide (gain < -10) then
    (((s1.nbGuard d 0).nbGuard d 1).pelHold d).pelAlarms d
  else s1

/-- The taps of an active neighbour adapt by least mean squares on the pilot phase error, which the part measures: their
value is open (R181, log 5). -/
def State.tapsAdapt (s : State) (d p : Nat) : State :=
  if s.get (.pel .nbState) d p = nbActive ∧ ¬ s.flag (.pel .termOff) d p then
    (s.set (.pel .taps) d p (s.freeBits 64)).used
  else s

/-- RX_DSP_FRAME (R102, R113, R181): a received DSP frame boundary; in LOCKED the sync word is checked in every frame. -/
def execRxDspFrame (d : Nat) (synced : Bool) (s : State) : Result :=
  finishIf (s.up d && s.rxOn d && decide (rxSync ≤ s.rxState d) && decide (s.rxState d ≤ rxLocked)) s fun s =>
    let s1 := ((s.rxApplyPending d).tapsAdapt d 0).tapsAdapt d 1
    if s.rxState d = rxLocked then
      if synced then (s1.inc (.lr .nDspFrame) d 0).set (.lr .missed) d 0 0
      else s1.set (.lr .missed) d 0 (min 4 (s.get (.lr .missed) d 0 + 1))
    else s1

/-- A bank switch of carrier `d` that changes RS zeroes the taps of its own terms and of its term at its neighbours
(R182). -/
def State.pelBankSwitch (s : State) (d : Nat) (rsChanged : Bool) : State :=
  s.when rsChanged fun s =>
    s.each (List.range 2) fun s p =>
      (s.set (.pel .taps) d p 0).set (.pel .taps) (s.chainPeer d p) (1 - p) 0

end Sys2Proof.Machine
end

