-- ==== Sys2Proof/Machine/Derailleur.lean ====
section
/-!
DEFINITION. Derailleur: units, control messages, arming, the switch, misses, rollback and results, and the shifts that
firmware proposes (R184 to R202).
-/
namespace Sys2Proof.Machine

/-- `DER_STATUS`.STATE. -/
def derIdle : Nat := 0
def derProposed : Nat := 1
def derAwait : Nat := 2
def derArming : Nat := 3
def derArmed : Nat := 4
def derCommitted : Nat := 5
def derApplied : Nat := 6
def derCatchup : Nat := 7
def derRollbackSt : Nat := 8

/-- Reasons. -/
def derTimeout : Nat := 1
def derBankCheck : Nat := 2
def derCdRange : Nat := 4
def derDgdRange : Nat := 5
def derNotLocked : Nat := 6
def derPeloton : Nat := 7
def derNotPermitted : Nat := 8
def derMismatch : Nat := 9
def derBusy : Nat := 10
def derCollision : Nat := 11
def derNotInLadder : Nat := 12
def derChain : Nat := 13
def derAsleep : Nat := 14

/-- Message types (R188). -/
def msgPropose : Nat := 1
def msgArmed : Nat := 2
def msgRefuse : Nat := 3
def msgCommit : Nat := 4
def msgCancel : Nat := 5
def msgDone : Nat := 6

/-- States of a side. -/
def sideIdle : Nat := 0
def sideArmed : Nat := 1
def sideLatched : Nat := 2
def sideApplied : Nat := 3
def sideMissed : Nat := 4
def sideDone : Nat := 5
def sideRolled : Nat := 6

/-- The coordinator's state. -/
def State.derState (s : State) : Nat := s.get (.der .state) 0 0

/-- A shift runs: from PROPOSED or AWAIT until RESULT is set (R202). -/
def State.derActive (s : State) : Bool := decide (s.derState ≠ derIdle)

/-- The part is the responder of the shift. -/
def State.derResponder (s : State) : Bool := decide (s.get (.der .role) 0 0 = 1)

/-- ROLE of a unit: 1 shifting, 2 Peloton neighbour, 3 Tandem partner. -/
def State.unitRole (s : State) (d : Nat) : Nat := s.get (.der .uRole) d 0

/-- The units of the running shift. -/
def State.units (s : State) : List Nat := s.dies.filter (fun d => decide (s.unitRole d ≠ 0))

/-- A side of a unit. -/
def State.side (s : State) (d : Nat) (tx : Bool) : Nat := s.get (if tx then .der .txSide else .der .rxSide) d 0

/-- Set a side of a unit; DER_MISSED follows (bit 0 of `DER_ALM_LIVE`). -/
def State.setSide (s : State) (d : Nat) (tx : Bool) (v : Nat) : State :=
  let s1 := s.set (if tx then .der .txSide else .der .rxSide) d 0 v
  s1.cond .derMissed d 0 (decide (s1.side d true = sideMissed) || decide (s1.side d false = sideMissed))

/-- A side that has applied. -/
def sideHasApplied (v : Nat) : Bool := decide (v = sideApplied) || decide (v = sideDone)

-- The map (R185, R193).

/-- The CT_TSMAP words of a carrier that the shift has written. -/
def State.mapWords (s : State) (d : Nat) : List Nat :=
  ((s.listed (.winDirty .ctTsmap) d).map Prod.fst).filter (fun i => decide (i < winHold))

/-- The shift's map words of a carrier are discarded. -/
def State.mapDiscard (s : State) (d : Nat) : State :=
  s.each (s.mapWords d) fun s i => s.set (.winDirty .ctTsmap) d i 0

/-- The map words in force are kept for a return (R198, R199). -/
def State.mapKeep (s : State) (d : Nat) : State :=
  s.each (s.mapWords d) fun s i => s.set (.der .oldMap) d (i / 16) (s.get (.win .ctTsmap) d i)

/-- The receive side takes the new map words, or the old ones again. -/
def State.mapTake (s : State) (d : Nat) (new : Bool) : State :=
  (s.each (s.mapWords d) fun s i =>
    s.set (.win .ctTsmap) d i (if new then s.get (.winNew .ctTsmap) d i else s.get (.der .oldMap) d (i / 16)))

/-- The map word of a slot that the transmit side uses: its map switches with its bank (R193). -/
def State.txMapWord (s : State) (d slot : Nat) : Nat :=
  if s.flag (.winDirty .ctTsmap) d (16 * slot) then
    if sideHasApplied (s.side d true) then s.get (.winNew .ctTsmap) d (16 * slot) else s.get (.der .oldMap) d slot
  else s.winWordAt .ctTsmap d slot 0

-- Messages.

/-- The carriers a control message goes out on (R189): every shifting carrier in frame, else the lowest carrier in
frame. -/
def State.msgMask (s : State) : Nat :=
  let inf := s.dies.filter (fun d => s.flag (.ct .inFrame) d 0)
  let l := inf.filter (fun d => bit (s.get (.der .shiftMask) 0 0) d)
  ((if l = [] then inf.take 1 else l).map (fun d => 2 ^ d)).sum

/-- Send a control message: SEQ increments with every message (R187). -/
def State.derSend (s : State) (type reason : Nat) : State :=
  (((s.inc (.der .txSeq) 0 0).set (.der .lastMsg) 0 0 type).set (.der .lastReason) 0 0 reason).set (.der .lastOn) 0 0
    s.msgMask

/-- A message passes R189: its TAG verifies, SENDER is the span partner, SEQ is greater than the last accepted one. -/
def State.derMsgOk (s : State) (m : DerMsg) : Bool :=
  m.tagOk && s.flag (.bell .peerValid) m.on 0 && decide (m.sender = s.get (.bell .partner) m.on 0) &&
    decide (s.get (.der .rxSeq) 0 m.sender < m.seq)

/-- A message of the running (or last) shift whose type has been accepted before (R189). -/
def State.derSeen (s : State) (m : DerMsg) (type : Nat) : Bool :=
  decide (m.shiftId = s.get (.der .shiftId) 0 0) && bit (s.get (.der .seen) 0 0) type

/-- A new span control key: both directions restart SEQ at 1 (R187). -/
def State.derKeyRestart (s : State) (node : Nat) : State := (s.set (.der .txSeq) 0 0 0).set (.der .rxSeq) 0 node 0

/-- Take a received message: discarded and counted, ignored as a copy, or handled (R189). -/
def State.derTake (s : State) (m : DerMsg) (type : Nat) (f : State → State) : State :=
  if s.derMsgOk m then
    let s1 := s.set (.der .rxSeq) 0 m.sender m.seq
    if s1.derSeen m type then s1 else f s1
  else s.inc (.der .nMsgDisc) 0 0

/-- The (SHIFT_ID, TYPE) pair of a message of the running shift counts as accepted. -/
def State.derMark (s : State) (type : Nat) : State := s.set (.der .seen) 0 0 (putBit (s.get (.der .seen) 0 0) type true)

/-- A message of the running shift from its other part. -/
def State.derMine (s : State) (m : DerMsg) : Bool :=
  s.derActive && decide (m.shiftId = s.get (.der .shiftId) 0 0) && decide (m.sender = s.get (.der .partner) 0 0)

-- Beginning and ending a shift.

/-- The unit leaves the shift: sides and role idle, DER bytes of KIND 0 (R191, R198). -/
def State.unitRelease (s : State) (d : Nat) : State :=
  ((((((((s.set (.der .txSide) d 0 0).set (.der .rxSide) d 0 0).set (.der .uRole) d 0 0).set (.der .uShiftId) d 0 0).set
    (.der .kind) d 0 0).set (.der .kindEpoch) d 0 0).set (.der .ready) d 0 0).lower .derMissed d 0).lower .derAis d 0
    |>.mapDiscard d

/-- The shift ends with a RESULT: every unit is released and its carrier's hold-off of R201 begins. -/
def State.derEnd (s : State) (result : Nat) : State :=
  let now := s.get (.sys .time) 0 0
  ((s.each s.units fun s d =>
    (s.set (.der .lastShift) d 0 (1 + now)).unitRelease d).set (.der .result) 0 0 result).set (.der .state) 0 0 derIdle

/-- Show a reason in `DER_STATUS`. -/
def State.derReason (s : State) (reason carrier far : Nat) : State :=
  ((s.set (.der .reason) 0 0 reason).set (.der .failCarrier) 0 0 carrier).set (.der .far) 0 0 far

/-- The shift ends as CANCELLED. -/
def State.derCancel (s : State) (reason carrier far : Nat) : State :=
  ((s.derReason reason carrier far).inc (.der .nCancel) 0 0).derEnd 2

/-- The responder refuses the proposal (R190): REFUSE is sent and counted; a shift of its own ends as REFUSED. -/
def State.derRefuse (s : State) (reason carrier : Nat) : State :=
  ((s.derSend msgRefuse reason).inc (.der .nRefused) 0 0).derReason reason carrier 0

/-- The Tandem partners that the shift writes and the Peloton neighbours that do not shift (R184). -/
def State.tandemMask (s : State) (mask : Nat) : Nat :=
  ((s.dies.filter (fun d => !bit mask d && decide (s.mapWords d ≠ []) && s.flag (.tdm .pairEn) d 0 &&
    bit mask (s.pairPartner d))).map (fun d => 2 ^ d)).sum
def State.pelMask (s : State) (mask : Nat) : Nat :=
  ((s.dies.filter (fun d => !bit mask d && !bit (s.tandemMask mask) d &&
    (List.range 2).any (fun p => s.flag (.pel .pelOn) d 0 && s.nbBit d p && bit mask (s.chainPeer d p)))).map
      (fun d => 2 ^ d)).sum

/-- A shift begins: the coordinator's registers and the units (R184, R190). -/
def State.derBegin (s : State) (role id mask st node : Nat) : State :=
  let tm := s.tandemMask mask
  let pm := s.pelMask mask
  let s1 := ((((((((s.set (.der .shiftId) 0 0 id).set (.der .role) 0 0 role).set (.der .result) 0 0 0).derReason 0 0 0).set
    (.der .epoch) 0 0 0).set (.der .farEpoch) 0 0 0).set (.der .state) 0 0 st).set (.der .partner) 0 0 node)
  let s2 := (((((s1.set (.der .seen) 0 0 0).set (.der .armedRx) 0 0 0).set (.der .farCommit) 0 0 0).set
    (.der .farDone) 0 0 0).set (.der .doneSent) 0 0 0).set (.der .auto) 0 0 0
  let s3 := ((s2.set (.der .shiftMask) 0 0 mask).set (.der .tandemMask) 0 0 tm).set (.der .pelMask) 0 0 pm
  s3.each (maskBits 8 (mask ||| tm ||| pm)) fun s d =>
    ((((((((((s.set (.der .uRole) d 0 (if bit mask d then 1 else if bit tm d then 3 else 2)).set (.der .uShiftId) d 0
      id).set (.der .uReason) d 0 0).set (.der .txSide) d 0 0).set (.der .rxSide) d 0 0).set (.der .ready) d 0 0).set
      (.der .rxEpochHeld) d 0 0).set (.der .rxEpoch) d 0 0).set (.der .onNew) d 0 0).set (.der .returned) d 0 0).lower
      .derSplit d 0 |>.mapKeep d

/-- The initiator arms its units and sends PROPOSE (R190). -/
def State.derPropose (s : State) (id mask node : Nat) : State :=
  (s.derBegin 0 id mask derProposed node).derSend msgPropose 0

/-- A responder ticket waits for the proposal of the node it names (R185). -/
def State.derAwaitTicket (s : State) (id mask node : Nat) : State :=
  ((s.derBegin 1 id mask derAwait node).set (.der .initNode) 0 0 node)

-- Commit.

/-- A class 0 flit from die 0 reaches a die (R17, R21). -/
def State.leadReaches (s : State) (d : Nat) : Bool := decide (d = 0) || (s.controlPort 0 d).isSome

/-- The present transmit LMFN (R147). -/
def State.txLmfn (s : State) : Nat := s.get (.ct .txFn) 0 0 / 256 % 2 ^ 32

/-- A unit holds the commit: TX_SIDE LATCHED; a shifting or Tandem unit sends KIND 1 (R191, R192). -/
def State.unitCommit (s : State) (d e : Nat) : State :=
  let s1 := s.setSide d true sideLatched
  if s.unitRole d = 2 then s1 else (s1.set (.der .kind) d 0 1).set (.der .kindEpoch) d 0 e

/-- A lead die commits (R192). -/
def State.derCommit (s : State) : State :=
  let e := (s.txLmfn + s.get (.der .commitLead) 0 0) % 2 ^ 32
  let s1 := (((s.set (.der .epoch) 0 0 e).set (.der .state) 0 0 derCommitted).derSend msgCommit 0)
  s1.each (s1.units.filter s1.leadReaches) fun s d => s.unitCommit d e

/-- Every unit has reported READY. -/
def State.allReady (s : State) : Bool := s.units.all (fun d => s.flag (.der .ready) d 0)

/-- The initiator commits once every local unit is ready and ARMED has arrived (R190). -/
def State.derTryCommit (s : State) : State :=
  if s.derState = derProposed ∧ s.flag (.der .armedRx) 0 0 ∧ s.allReady then s.derCommit else s

/-- A receive side learns the far epoch (R192). -/
def State.learnEpoch (s : State) (d e : Nat) : State :=
  if s.flag (.der .rxEpochHeld) d 0 then s
  else (s.set (.der .rxEpochHeld) d 0 1).set (.der .rxEpoch) d 0 e

-- Completion.

/-- Every local side of the shift is DONE: transmit sides have applied, receive sides are DONE (R198). -/
def State.allDone (s : State) : Bool :=
  s.units.all (fun d => sideHasApplied (s.side d true) && decide (s.side d false = sideDone))

/-- Every local side has applied. -/
def State.allApplied (s : State) : Bool :=
  s.units.all (fun d => sideHasApplied (s.side d true) && sideHasApplied (s.side d false))

/-- STATE follows the sides after the epoch: APPLIED, CATCHUP, and COMPLETE once the far DONE has come (R197, R198). -/
def State.derFollow (s : State) : State :=
  if s.derState < derCommitted ∨ s.derState = derRollbackSt then s
  else
    let missed := s.units.any (fun d => decide (s.side d true = sideMissed) || decide (s.side d false = sideMissed))
    let s1 := s.set (.der .state) 0 0 (if missed then derCatchup else if s.allApplied then derApplied else s.derState)
    if s1.allDone then
      let s2 := if s1.flag (.der .doneSent) 0 0 then s1 else (s1.derSend msgDone 0).set (.der .doneSent) 0 0 1
      if s2.flag (.der .farDone) 0 0 then (s2.inc (.der .nShiftOk) 0 0).derEnd 1 else s2
    else s1

-- The line mode descriptors (R81, R190, R201).

/-- The mode a descriptor carries. -/
def modeOf (l : List Nat) : Mode :=
  ⟨l.getD 1 0 / 64, l.getD 2 0 % 8 * 256 + l.getD 3 0, l.getD 1 0 % 4, l.getD 4 0, l.getD 5 0 / 128, l.getD 11 0 % 8,
    l.getD 5 0 % 8, l.getD 6 0, l.getD 7 0⟩

/-- Two descriptors agree but for PILOT_SEED, GRID_N and slot width (R190). -/
def sameMode (a b : List Nat) : Bool :=
  decide (a.take 8 = b.take 8) && decide ((a.drop 11).take 17 = (b.drop 11).take 17)

/-- The descriptor of a transmit bank; of a receive bank, in which no field holds NLPD_EN (R98). -/
def State.txDesc (s : State) (d b : Nat) : List Nat :=
  descriptor (s.txBank d b) (s.get (.lt .pilotSeed) d 0) (s.get (.las .gridN) d 0)
def State.rxDesc (s : State) (d b : Nat) : List Nat :=
  descriptor (s.rxBank d b) (s.get (.lr .peerSeed) d 0) (s.get (.las .gridN) d 0)

/-- A descriptor without its pre-distortion bit, which a receive bank cannot hold. -/
def noNlpd (l : List Nat) : List Nat := l.set 5 (l.getD 5 0 % 128)

/-- The inactive banks of a carrier. -/
def State.txNew (s : State) (d : Nat) : Nat := 1 - s.get (.lt .bank) d 0
def State.rxNew (s : State) (d : Nat) : Nat := 1 - s.get (.lr .bank) d 0

/-- Write a transmit bank from a mode (R74, R78). -/
def State.writeTxBank (s : State) (d b : Nat) (q : Mode) : State :=
  (((((((((s.set (.lt .lineStd) d b q.lineStd).set (.lt .rs) d b q.rs).set (.lt .const) d b q.cst).set (.lt .entropy) d b
    q.entropy).set (.lt .nlpdBank) d b q.nlpd).set (.lt .pilotGain) d b q.pilotGain).set (.lt .fecRate) d b
    q.fecRate).set (.lt .rolloff) d b q.rolloff).set (.lt .netK) d b q.netK).setTxComp d b

/-- Write a receive bank from a mode (R98). -/
def State.writeRxBank (s : State) (d b : Nat) (q : Mode) : State :=
  ((((((((s.set (.lr .lineStd) d b q.lineStd).set (.lr .rs) d b q.rs).set (.lr .const) d b q.cst).set (.lr .entropy) d b
    q.entropy).set (.lr .pilotGain) d b q.pilotGain).set (.lr .fecRate) d b q.fecRate).set (.lr .rolloff) d b
    q.rolloff).set (.lr .netK) d b q.netK).setRxComp d b

/-- The proposal equals the banks that the responder's ticket has written (R190). -/
def State.entryMatches (s : State) (e : DerEntry) : Bool :=
  let d := e.farCarrier
  bit (s.get (.der .shiftMask) 0 0) d && sameMode (s.txDesc d (s.txNew d)) e.rxDesc &&
    sameMode (s.rxDesc d (s.rxNew d)) (noNlpd e.txDesc) && e.mapOk

/-- The far carriers of a proposal, as a mask. -/
def entryMask (l : List DerEntry) : Nat := ((l.map (fun e => e.farCarrier)).dedup.map (fun d => 2 ^ d)).sum

/-- The proposal leaves NET_K and the map of every carrier unchanged (R190). -/
def State.entryKeeps (s : State) (e : DerEntry) : Bool :=
  let d := e.farCarrier
  s.awake d && decide ((modeOf e.rxDesc).netK = (s.txMode d).netK) && decide ((modeOf e.txDesc).netK = (s.rxMode d).netK) &&
    e.mapOk

/-- The bytes of a ladder entry (DER_LADDER): the first byte in bits [31:24] of word 0. -/
def State.ladder (s : State) (d e : Nat) : List Nat :=
  (List.range 8).flatMap (fun k =>
    let w := s.winWordAt .derLadder d e k
    [bits w 24 8, bits w 16 8, bits w 8 8, bits w 0 8])

/-- A used ladder entry: its VERSION is not 0. -/
def State.ladderUsed (s : State) (d e : Nat) : Bool := decide ((s.ladder d e).getD 0 0 ≠ 0)

/-- The entry of the own ladder that a descriptor equals. -/
def State.ladderFind (s : State) (d : Nat) (desc : List Nat) : Option Nat :=
  (List.range 8).find? (fun e => s.ladderUsed d e && sameMode (s.ladder d e) desc)

/-- Every used ladder entry has the carrier's NET_K (R201). -/
def State.ladderOk (s : State) (d : Nat) : Bool :=
  (List.range 8).all (fun e => !s.ladderUsed d e || decide ((s.ladder d e).getD 7 0 = (s.txMode d).netK))

/-- An auto proposal moves both directions to one entry of the own ladder (R201). -/
def State.entryInLadder (s : State) (e : DerEntry) : Bool :=
  match s.ladderFind e.farCarrier e.txDesc with
  | some k => sameMode (s.ladder e.farCarrier k) e.rxDesc
  | none => false

/-- The responder writes the inactive banks from the descriptors, keeping its own PILOT_SEED (R190). -/
def State.entryLoad (s : State) (e : DerEntry) : State :=
  let d := e.farCarrier
  (s.writeTxBank d (s.txNew d) (modeOf e.rxDesc)).writeRxBank d (s.rxNew d) (modeOf e.txDesc)

/-- The responder accepts: its units arm (R190). -/
def State.derAccept (s : State) (m : DerMsg) (auto : Bool) (entries : List DerEntry) : State :=
  ((((s.each entries State.entryLoad).derBegin 1 m.shiftId (entryMask entries) derArming m.sender).setB (.der .auto) 0 0
    auto).derMark msgPropose)

/-- A proposal handled as responder (R190, R201). -/
def State.derRespond (s : State) (m : DerMsg) (auto : Bool) (entries : List DerEntry) : State :=
  if s.derState = derAwait then
    if m.shiftId = s.get (.der .shiftId) 0 0 ∧ m.sender = s.get (.der .initNode) 0 0 then
      if entries.all s.entryMatches ∧ entryMask entries = s.get (.der .shiftMask) 0 0 then
        (s.set (.der .state) 0 0 derArming).derMark msgPropose
      else ((s.derMark msgPropose).derRefuse derMismatch (((entries.find? (fun e => !s.entryMatches e)).map
        (fun e => e.farCarrier)).getD 0)).derEnd 5
    else s.derRefuse derMismatch 0
  else if auto then
    if s.flag (.der .autoEn) 0 0 ∧ entries.all s.entryInLadder ∧ entries.all s.entryKeeps then s.derAccept m auto entries
    else s.derRefuse derNotInLadder 0
  else if s.flag (.der .remoteAccept) 0 0 ∧ entries.all s.entryKeeps then s.derAccept m auto entries
  else s.derReason derNotPermitted 0 0

/-- DER_PROPOSE_RX (R189, R190): BUSY past PROPOSED; of two proposals at once the lower node's wins. -/
def execDerProposeRx (m : DerMsg) (auto : Bool) (entries : List DerEntry) (s : State) : Result :=
  finishIf (s.up 0) s fun s =>
    s.derTake m msgPropose fun s =>
      if derArming ≤ s.derState then (s.derSend msgRefuse derBusy).inc (.der .nRefused) 0 0
      else if s.derState = derProposed then
        if m.sender < s.get (.tkt .nodeId) 0 0 then (s.derCancel derCollision 0 0).derRespond m auto entries else s
      else s.derRespond m auto entries

/-- DER_ARMED_RX (R190). -/
def execDerArmedRx (m : DerMsg) (s : State) : Result :=
  finishIf (s.up 0) s fun s =>
    s.derTake m msgArmed fun s =>
      if s.derMine m && decide (s.derState = derProposed) then
        ((s.derMark msgArmed).set (.der .armedRx) 0 0 1).derTryCommit
      else s

/-- DER_REFUSE_RX (R190): the initiator sends CANCEL and the shift is CANCELLED with the far part's reason. -/
def execDerRefuseRx (m : DerMsg) (reason unit : Nat) (s : State) : Result :=
  finishIf (s.up 0) s fun s =>
    s.derTake m msgRefuse fun s =>
      if s.derMine m && decide (s.derState = derProposed) then
        ((s.derMark msgRefuse).derSend msgCancel reason).derCancel reason unit 1
      else s

/-- DER_COMMIT_RX (R192): every receive side learns the far epoch; the responder commits with its own. -/
def execDerCommitRx (m : DerMsg) (epoch : Nat) (s : State) : Result :=
  finishIf (s.up 0) s fun s =>
    s.derTake m msgCommit fun s =>
      if s.derMine m && decide (derArmed ≤ s.derState) then
        let s1 := (((s.derMark msgCommit).set (.der .farEpoch) 0 0 epoch).set (.der .farCommit) 0 0 1)
        let s2 := s1.each (s1.units.filter s1.leadReaches) (fun s d => s.learnEpoch d epoch)
        if s2.derResponder && decide (s2.derState = derArmed) then s2.derCommit else s2
      else s

/-- DER_CANCEL_RX (R190): before the commit every unit discards its shadow. -/
def execDerCancelRx (m : DerMsg) (reason : Nat) (s : State) : Result :=
  finishIf (s.up 0) s fun s =>
    s.derTake m msgCancel fun s =>
      if s.derMine m && decide (s.derState < derCommitted) then (s.derMark msgCancel).derCancel reason 0 1 else s

/-- DER_DONE_RX (R198). -/
def execDerDoneRx (m : DerMsg) (s : State) : Result :=
  finishIf (s.up 0) s fun s =>
    s.derTake m msgDone fun s =>
      if s.derMine m && decide (derCommitted ≤ s.derState) then
        ((s.derMark msgDone).set (.der .farDone) 0 0 1).derFollow
      else s

/-- The message that waits for an answer (R189): PROPOSE, COMMIT until the far COMMIT or DONE, then DONE. -/
def State.derWaiting (s : State) : Nat :=
  if s.derState = derProposed then msgPropose
  else if s.derState < derCommitted ∨ s.derState = derRollbackSt then 0
  else if s.flag (.der .doneSent) 0 0 then msgDone
  else if s.flag (.der .farCommit) 0 0 || s.flag (.der .farDone) 0 0 then 0
  else msgCommit

/-- DER_RESEND_TIMER (R189). -/
def execDerResendTimer (s : State) : Result :=
  finishIf (s.up 0 && decide (s.derWaiting ≠ 0)) s fun s => s.derSend s.derWaiting 0

-- Arming.

/-- Every Chain port in use of a die is UP. -/
def State.portsUp (s : State) (d : Nat) : Bool :=
  (List.range 2).all (fun p => !s.flag (.chn .portEn) d p || s.linkUp d p)

/-- Why a unit refuses to arm, 0 if it does not (R190): its banks (R75), the spacing of its neighbours (R178), the
receiver's conditions (R105), LOCKED, the Chain. -/
def State.armFault (s : State) (d : Nat) : Nat :=
  let tx := s.txBank d (s.txNew d)
  let rx := s.rxBank d (s.rxNew d)
  let shifts := decide (s.unitRole d = 1)
  if !s.awake d then derAsleep
  else if shifts && !(tx.ok && rx.ok) then derBankCheck
  else if (List.range 2).any (fun p => s.nbBit d p && !s.nbDeclOk d p) then derPeloton
  else if shifts && cdOutOfRange (s.getI (.lr .cdEst) d 0) rx.rs then derCdRange
  else if shifts && dgdOutOfRange (s.get (.lr .qDgd) d 0) (s.get (.lr .ntaps) d 0) rx.rs then derDgdRange
  else if !s.locked d then derNotLocked
  else if !s.portsUp d then derChain
  else 0

/-- A unit is ready: the initiator may commit, the responder answers ARMED once all are (R190). -/
def State.unitReady (s : State) (d : Nat) : State :=
  let s1 := ((s.setSide d true sideArmed).setSide d false sideArmed).set (.der .ready) d 0 1
  if s1.derResponder then
    if s1.allReady then (s1.derSend msgArmed 0).set (.der .state) 0 0 derArmed else s1
  else s1.derTryCommit

/-- A unit refuses to arm (R190). -/
def State.unitRefuse (s : State) (d r : Nat) : State :=
  let s1 := (s.event .derArmFail d 0).set (.der .uReason) d 0 r
  if s1.derResponder then (s1.derRefuse r d).derEnd 5 else (s1.derSend msgCancel r).derCancel r d 0

/-- DER_UNIT_ARM_REPORT (R190). -/
def execDerUnitArmReport (d : Nat) (s : State) : Result :=
  finishIf (s.up 0 && s.present d && decide (s.unitRole d ≠ 0) && !s.flag (.der .ready) d 0 &&
      (decide (s.derState = derProposed) || decide (s.derState = derArming))) s fun s =>
    if s.armFault d = 0 then s.unitReady d else s.unitRefuse d (s.armFault d)

/-- DER_ARM_TIMEOUT (R190): the initiator sends CANCEL; a responder that has sent ARMED just ends the shift. -/
def execDerArmTimeout (s : State) : Result :=
  finishIf (s.up 0 && (decide (s.derState = derProposed) || decide (s.derState = derArmed))) s fun s =>
    if s.derResponder then s.derCancel derTimeout 0 0 else (s.derSend msgCancel derTimeout).derCancel derTimeout 0 0

-- The switch.

/-- Why a side misses its epoch, 0 if it passes its latch point (R194).  The spec gives no code for a side that is not
enabled or has not learnt the far epoch (free value, log 5). -/
def State.latchFault (s : State) (d : Nat) (tx : Bool) : Nat :=
  let open' := 1 + s.free % 14
  let rx := s.rxBank d (s.rxNew d)
  if tx then
    if s.side d true ≠ sideLatched && s.side d true ≠ sideMissed && !s.leadReaches d then derChain
    else if !s.flag (.lt .txEn) d 0 then open' else 0
  else if !s.flag (.der .rxEpochHeld) d 0 || !s.rxOn d then open'
  else if s.unitRole d ≠ 1 then 0
  else if cdOutOfRange (s.getI (.lr .cdEst) d 0) rx.rs then derCdRange
  else if dgdOutOfRange (s.get (.lr .qDgd) d 0) (s.get (.lr .ntaps) d 0) rx.rs then derDgdRange
  else 0

/-- A side waits for its epoch or, having missed it, for a catch-up epoch. -/
def State.atLatch (s : State) (d : Nat) (tx : Bool) : Bool :=
  let v := s.side d tx
  s.up d && decide (s.unitRole d ≠ 0) && decide (derCommitted ≤ s.derState) && decide (s.derState ≠ derRollbackSt) &&
    (decide (v = sideArmed) || decide (v = sideMissed) || (tx && decide (v = sideLatched)))

/-- DER_LATCH_POINT (R194, R197): two multiframes before the epoch or a catch-up epoch the side checks itself.  A miss is
counted once. -/
def execDerLatchPoint (d : Nat) (tx : Bool) (s : State) : Result :=
  finishIf (s.atLatch d tx) s fun s =>
    let r := s.latchFault d tx
    if r = 0 then s.setSide d tx sideLatched
    else if s.side d tx = sideMissed then s
    else ((((s.setSide d tx sideMissed).inc (.der .nMiss) d 0).set (.der .uReason) d 0 r).derReason r d 0).used.derFollow

/-- The unit acts under R195 from its epoch until the side that has missed applies. -/
def State.derAisFollow (s : State) (d : Nat) : State :=
  s.cond .derAis d 0 (s.flag (.live .derAis) d 0 &&
    (decide (s.side d true = sideMissed) || decide (s.side d false = sideMissed)))

/-- The epoch passes for a transmit side: from then on the unit sends KIND 2 with the next catch-up epoch (R197). -/
def State.kindNext (s : State) (d : Nat) : State :=
  if s.get (.der .kind) d 0 = 0 then s
  else (s.set (.der .kind) d 0 2).set (.der .kindEpoch) d 0 ((s.get (.der .kindEpoch) d 0 + 256) % 2 ^ 32)

/-- A transmit side changes its bank: BANK, EXCESS, the counter and the path-change event (R77, R193). -/
def State.txBankSwitch (s : State) (d : Nat) : State :=
  let b := s.txNew d
  ((((s.txActivate d b).inc (.lt .nBankSwitch) d 0).pelBankSwitch d
    (decide ((s.txBank d b).rs ≠ (s.txMode d).rs))).pathChange 1 (locCarrier d)).muteRefresh d

/-- A receive side changes its bank (R122, R193). -/
def State.rxBankSwitch (s : State) (d : Nat) : State :=
  let b := s.rxNew d
  ((s.rxSwitch d b).pelBankSwitch d (decide ((s.rxBank d b).rs ≠ (s.rxMode d).rs))).pathChange 1 (locCarrier d)

/-- DER_TX_SWITCH (R193, R195): the epoch, or a catch-up epoch, of a transmit side. -/
def execDerTxSwitch (d : Nat) (s : State) : Result :=
  finishIf (s.up d && decide (s.unitRole d ≠ 0) && decide (derCommitted ≤ s.derState) &&
      (decide (s.side d true = sideLatched) || decide (s.side d true = sideMissed))) s fun s =>
    if s.side d true = sideMissed then ((s.raise .derAis d 0).kindNext d).ctnRefreshAll d
    else
      let s1 := s.when (decide (s.unitRole d = 1)) (fun s => s.txBankSwitch d)
      ((((s1.setSide d true sideApplied).inc (.der .nApply) d 0).kindNext d).derAisFollow d).derFollow

/-- DER_RX_SWITCH (R193, R195): the received epoch, or a received catch-up epoch, of a receive side. -/
def execDerRxSwitch (d : Nat) (s : State) : Result :=
  finishIf (s.up d && decide (s.unitRole d ≠ 0) && decide (derCommitted ≤ s.derState) &&
      (decide (s.side d false = sideLatched) || decide (s.side d false = sideMissed))) s fun s =>
    if s.side d false = sideMissed then s.raise .derAis d 0
    else
      let s1 := (s.when (decide (s.unitRole d = 1)) (fun s => s.rxBankSwitch d)).mapTake d true
      (((((s1.setSide d false sideApplied).inc (.der .nApply) d 0).derAisFollow d).ctnRefreshAll d)).derFollow

/-- DER_SIDE_DONE (R198): 16 multiframes LOCKED on the new bank, in frame and in codeword lock, without FEC_SF. -/
def execDerSideDone (d : Nat) (s : State) : Result :=
  finishIf (s.locked d && decide (s.side d false = sideApplied) && decide (s.get (.fec .lockState) d 0 = 2) &&
      s.flag (.ct .inFrame) d 0 && !s.flag (.live .fecSf) d 0 && decide (derCommitted ≤ s.derState)) s fun s =>
    (s.setSide d false sideDone).derFollow

/-- DER_ROLLBACK_DECISION (R199): at E + 752 every transmit side that applied sends KIND 3 with E + 768. -/
def execDerRollbackDecision (s : State) : Result :=
  finishIf (s.up 0 && decide (derCommitted ≤ s.derState) && decide (s.derState ≠ derRollbackSt)) s fun s =>
    let e := (s.get (.der .epoch) 0 0 + 768) % 2 ^ 32
    (s.each (s.units.filter (fun d => sideHasApplied (s.side d true) && decide (s.unitRole d ≠ 2))) fun s d =>
      (s.set (.der .kind) d 0 3).set (.der .kindEpoch) d 0 e).set (.der .state) 0 0 derRollbackSt

/-- A receive side that applied returns: always when out of frame, in frame only if it has accepted KIND 3 (R199). -/
def State.rxReturns (s : State) (d : Nat) : Bool :=
  !s.flag (.ct .inFrame) d 0 || decide (s.get (.der .rxKind) d 0 = 3)

/-- What every return to the old mode leaves (R199). -/
def State.sideReturned (s : State) (d : Nat) (tx : Bool) : State :=
  (((s.setSide d tx sideRolled).set (.der .returned) d 0 1).inc (.der .nRollback) d 0).event .derRollback d 0

/-- DER_ROLLBACK_RETURN (R199): at E + 768 of the side's own numbering. -/
def execDerRollbackReturn (d : Nat) (tx : Bool) (s : State) : Result :=
  finishIf (s.up d && decide (s.unitRole d ≠ 0) && decide (s.derState = derRollbackSt) &&
      sideHasApplied (s.side d tx) && (tx || s.rxReturns d)) s fun s =>
    if tx then (s.when (decide (s.unitRole d = 1)) (fun s => s.txBankSwitch d)).sideReturned d true
    else (((s.when (decide (s.unitRole d = 1)) (fun s => s.rxBankSwitch d)).mapTake d false).sideReturned d
      false).ctnRefreshAll d

/-- DER_RESULT_SET (R200): SPLIT if a local receive side stays on the new mode, else ROLLED_BACK. -/
def execDerResultSet (s : State) : Result :=
  finishIf (s.up 0 && decide (s.derState = derRollbackSt)) s fun s =>
    let stay := s.units.filter (fun d => sideHasApplied (s.side d false))
    let all := s.units
    let s1 := (s.derEnd (if stay = [] then 3 else 4)).each stay fun s d => (s.set (.der .onNew) d 0 1).raise .derSplit d 0
    s1.each all fun s d => s.set (.der .returned) d 0 1

-- Shifts proposed on falling SNR (R201).

/-- The carrier's hold-off has passed since its last shift. -/
def State.holdoffOver (s : State) (d : Nat) : Bool :=
  let t := s.get (.der .lastShift) d 0
  decide (t = 0) || decide (t - 1 + s.get (.der .holdoffS) 0 0 * 1000000000 ≤ s.get (.sys .time) 0 0)

/-- The lead die proposes a shift of carrier `d` to ladder entry `e` in both directions; the map is unchanged. -/
def State.autoPropose (s : State) (d e : Nat) : State :=
  let q := modeOf (s.ladder d e)
  let s1 := (s.writeTxBank d (s.txNew d) q).writeRxBank d (s.rxNew d) q
  let id := 128 + s.get (.der .autoId) 0 0
  ((((s1.derPropose id (2 ^ d) (s.get (.bell .partner) d 0)).set (.der .auto) 0 0 1).set (.der .autoId) 0 0
    ((s.get (.der .autoId) 0 0 + 1) % 128)).set (.der .downRun) d 0 0).set (.der .upRun) d 0 0

/-- Another valid window, or an interruption, of a run of windows. -/
def windowRun (hit : Bool) (n : Nat) : Nat := if hit then min 255 (n + 1) else 0

/-- The end of a quality window at the ladder (R201). -/
def State.ladderWindow (s : State) (d : Nat) (valid : Bool) (margin : Int) : State :=
  let down := windowRun (valid && decide (margin < s.getI (.der .downMargin) 0 0)) (s.get (.der .downRun) d 0)
  let up := windowRun (valid && decide (s.getI (.der .upMargin) 0 0 < margin)) (s.get (.der .upRun) d 0)
  let s1 := (s.set (.der .downRun) d 0 down).set (.der .upRun) d 0 up
  if s.flag (.der .autoEn) 0 0 && !s.derActive && s.holdoffOver d then
    match s.ladderFind d (s.txDesc d (s.get (.lt .bank) d 0)) with
    | some e =>
      if decide (s.get (.der .downWin) 0 0 ≤ down) && decide (0 < e) && s.ladderUsed d (e - 1) then s1.autoPropose d (e - 1)
      else if decide (s.get (.der .upWin) 0 0 ≤ up) && decide (e < 7) && s.ladderUsed d (e + 1) then
        s1.autoPropose d (e + 1)
      else s1
    | none => s1
  else s1

/-- QUALITY_WINDOW_END (R123, R124, R140, R141, R183, R201): the measures, FEC_MARGIN, SEQ and QUAL_VALID, then QUAL_LOW
and FEC_SD of a valid window; the next window begins. -/
def execQualityWindowEnd (d : Nat) (q : Quality) (s : State) : Result :=
  finishIf (s.up d && s.rxOn d) s fun s =>
    let md := s.rxMode d
    let ngmi := md.ngmi q.gmi
    let margin : Int := ngmi - md.ngmiTh
    let valid := s.flag (.lr .winLocked) d 0 && decide (s.rxState d = rxLocked)
    let s1 := ((((s.writeQuality d q ngmi).set (.fec .margin) d 0 (enc margin % 2 ^ 16)).set (.fec .iterMean) d 0
      (satU 16 q.iterMean)).set (.lr .qSeq) d 0 ((s.get (.lr .qSeq) d 0 + 1) % 2 ^ 31)).setB (.lr .qValid) d 0 valid
    let s2 := s1.when valid fun s =>
      (s.cond .lrQualLow d 0 (decide (ngmi < s.get (.lr .ngmiWarn) d 0))).cond .fecSd d 0
        (decide (margin < s.getI (.fec .sdMargin) d 0))
    ((s2.pelWindow d valid q.pelGain).ladderWindow d valid margin).setB (.lr .winLocked) d 0
      (decide (s.rxState d = rxLocked))

-- The ticket's checks (R185, R186).

/-- The containers with a slot of either map on a carrier, and their slots in the new map. -/
def State.newMapWord (s : State) (d slot : Nat) : Nat := s.winPlan .ctTsmap d slot 0
def State.newSlots (s : State) (d c : Nat) : Nat :=
  ((List.range 640).filter (fun k =>
    let w := s.newMapWord d k
    decide (tsUse w = 1) && decide (tsCtn w = c))).length

/-- No container of a shifting carrier is added, removed or resized (R186 point 3). -/
def State.mapKeepsSizes (s : State) (d : Nat) : Bool :=
  let old := s.ctnsOn d
  let new := (((List.range 640).map (fun k => s.newMapWord d k)).filter (fun w => decide (tsUse w = 1))).map tsCtn
  (old ++ new).dedup.all (fun c => decide (s.slotsOf d c 1 = s.newSlots d c))

/-- The shift changes NET_K or the map of a carrier. -/
def State.changesRate (s : State) (d : Nat) : Bool :=
  decide ((s.txBank d (s.txNew d)).netK ≠ (s.txMode d).netK) || decide ((s.rxBank d (s.rxNew d)).netK ≠ (s.rxMode d).netK) ||
    decide (s.mapWords d ≠ [])

/-- The shift changes RS of a carrier. -/
def State.changesRs (s : State) (d : Nat) : Bool :=
  decide ((s.txBank d (s.txNew d)).rs ≠ (s.txMode d).rs) || decide ((s.rxBank d (s.rxNew d)).rs ≠ (s.rxMode d).rs)

/-- A carrier, its Peloton neighbours and its Tandem partner are out of Kickstand (R186 point 7). -/
def State.partyAwake (s : State) (d : Nat) : Bool :=
  s.awake d && (List.range 2).all (fun p => !s.nbBit d p || s.awake (s.chainPeer d p)) &&
    (!s.flag (.tdm .pairEn) d 0 || s.awake (s.pairPartner d))

/-- The checks of R186 apart from R18 and R29. -/
def State.shiftOk (s : State) (mask : Nat) : Bool :=
  (maskBits 8 mask).all (fun d =>
    let tx := s.txBank d (s.txNew d)
    let rx := s.rxBank d (s.rxNew d)
    s.partyAwake d && tx.ok && rx.ok && s.mapKeepsSizes d &&
      (!(s.changesRate d && s.flag (.ct .bondEn) d 0) || decide (s.get (.ct .members) d 0 &&& mask = s.get (.ct .members) d 0)) &&
      (!(s.changesRs d && s.flag (.tdm .pairEn) d 0 && bit mask (s.pairPartner d)) || !s.changesRs (s.pairPartner d)) &&
      decide (tx.lineStd = 0) && decide (rx.lineStd = 0) && s.noOif d)

end Sys2Proof.Machine
end

