-- ==== Sys2Proof/Machine/Domains.lean ====
section
/-!
DEFINITION. What each part of the state belongs to (a carrier die, the Lantern, the always-on island, fuses, flash) and
what a restart, a gated carrier and a loss of VDD_AO take away (R46, R56, R425, R430, R432, R445, R482).
-/
namespace Sys2Proof.Machine

/-- An alarm bit of the Lantern area 0x0800_0000 to 0x08FF_FFFF (R466). -/
def Alm.inLantern (a : Alm) : Bool := decide (0x8000000 ≤ a.addr 0 0) && decide (a.addr 0 0 < 0x9000000)

/-- The windows that every carrier die holds (R474). -/
def Win.onDie : Win → Bool
  | .almLog | .telList | .sbgSpan | .sbgPub | .timLink | .timPce | .monSeq | .bellDesc => false
  | _ => true

/-- Cells of the carrier-die blocks (R472). -/
def Cell.onDie : Cell → Bool
  | .chn _ | .lt _ | .lr _ | .fec _ | .ct _ | .tdm _ | .pel _ | .der _ | .hl _ | .qs _ | .pan _ | .crr _ | .cry _ | .alm _
  | .pc _ | .trc _ | .inj _ => true
  | .live a | .sticky a | .mask a => a.onDie
  | .win w | .winNew w | .winDirty w => w.onDie
  | _ => false

/-- Fused or held by the stack for good (R44, R280). -/
def PanCell.fused : PanCell → Bool
  | .fuse | .pprHeld => true
  | _ => false

/-- What the stack in self-refresh and its page tables keep while the die is gated (R283, R429). -/
def PanCell.inStack : PanCell → Bool
  | .fuse | .pprHeld | .taken | .given | .mapTo | .homeOf | .out | .rebuild | .poison | .rowPages | .sparesLeft | .pprLeft
  | .fuseFree | .state => true
  | _ => false

/-- What the Saddlebag knows of a container's keys, and the frame counter it goes on with (DESIGN CHOICE, log 34). -/
def CryCell.inSaddlebag : CryCell → Bool
  | .txLast | .txSms | .txEpoch | .txKeySms | .frameCtr | .rxLast | .rxSms | .rxEpoch => true
  | _ => false

/-- The modes the line runs in and the values in force there (DEDUCED, log 33). -/
def LtCell.inForce : LtCell → Bool
  | .bank | .excess | .firstStart | .useGain | .useSkew | .useXPhase | .useYPhase | .useNlpd | .useFir => true
  | _ => false
def LrCell.inForce : LrCell → Bool
  | .bank | .firstStart | .useGain | .useSkew | .useXPhase | .useYPhase | .latBase => true
  | _ => false

/-- What a gated carrier keeps of its die blocks: its configuration, which firmware restores at the wake (R430; DEDUCED,
log 33), the stack's contents, and what the Saddlebag knows. -/
def Cell.keptAsleep : Cell → Bool
  | .pan c => c.inStack || c.isCfg
  | .cry c => c.inSaddlebag || c.isCfg
  | .lt c => c.inForce || c.isCfg
  | .lr c => c.inForce || c.isCfg
  | c => c.isCfg

/-- Everything of carrier `d` that its die holds is lost, but for what `Cell.keptAsleep` names (R430, R432, R445). -/
def State.dieGone (s : State) (d : Nat) : State :=
  let s1 := (s.clear (fun k => decide (k.die = d) && k.cell.onDie && !k.cell.keptAsleep)).phaseIdle d
  { s1 with
    held := s1.held.filter (fun x => decide (x.die ≠ d))
    reports := s1.reports.filter (fun x => decide (x.die ≠ d) || decide (0x8000000 ≤ x.addr ∧ x.addr < 0x9000000))
    cands := s1.cands.filter (fun x => decide (x.die ≠ d))
    staged := s1.staged.filter (fun x => decide (x.die ≠ d))
    rings := s1.rings.filter (fun x => decide (x.die ≠ d))
    tracker := s1.tracker.filter (fun x => decide (x.die ≠ d))
    retireQ := s1.retireQ.filter (fun x => decide (x.die ≠ d))
    merge := s1.merge.filter (fun x => decide (x.die ≠ d))
    descs := s1.descs.filter (fun x => decide (x.die ≠ d))
    fups := s1.fups.filter (fun x => decide (x.die ≠ d)) }

/-- Cells of the model, of the package's pins and of fuses, which no restart changes. -/
def SysCell.kept : SysCell → Bool
  | .time | .diePresent | .aoOn | .railsGood | .sysRstN | .perstN | .alertSeen | .faultSeen | .msiSent | .msiLast
  | .freeCount | .fuseOwned | .fuseSvn | .jtagIr | .jtagBr => true
  | _ => false

/-- The ticket journal in flash (R65, R66). -/
def TktCell.inFlash : TktCell → Bool
  | .jSeq | .jPos | .ceiling | .jBlank => true
  | _ => false

/-- What survives every restart: fuses, flash, the always-on island and the Lantern (R12, R46, R482). -/
def Cell.survives : Cell → Bool
  | .id _ | .bell _ | .mon _ | .bias _ | .cal _ | .ao _ => true
  | .sys c => c.kept
  | .pan c => c.fused
  | .tkt c => c.inFlash
  | .pwr .savedCd | .pwr .savedCdValid => true
  | .tim .aoSec | .tim .aoNs | .tim .tbOfs | .clk .wasQual => true
  | .live a | .sticky a | .mask a => a.inLantern
  | .win w | .winNew w | .winDirty w => decide (w = .monSeq) || decide (w = .bellDesc)
  | _ => false

/-- The dies and every sequence they hold are as after reset. -/
def State.diesReset (s : State) : State :=
  { (s.clear (fun k => !k.cell.survives)).each (List.range 8) (fun s d => s.phaseIdle d) with
    mbox := [], reports := [], held := [], tickets := [], run := none, policy := [], imgPolicy := [], trust := [],
    cands := [], telOut := [], clsTab := [], staged := [], rings := [], tracker := [], retireQ := [], merge := [],
    descs := [], kch := [], fups := [] }

/-- The Lantern holds every carrier die in reset: step 1 of R56. -/
def State.toStep1 (s : State) : State := (s.diesReset.set (.boot .step) 0 0 1).set (.boot .state) 0 0 bootPor

/-- A restart: start-up begins again at step 2 of R56. -/
def State.restart (s : State) : State :=
  ((s.diesReset.set (.boot .step) 0 0 2).set (.boot .state) 0 0 bootPor).set (.ao .powerOff) 0 0 0

/-- The Lantern removes power from every carrier die and Pannier stack (R343 step 4, R427). -/
def State.diesOff (s : State) : State := s.toStep1.set (.ao .powerOff) 0 0 1

/-- What loss of VDD_AO leaves: fuses, flash, the levels at the pins, and the model's own cells. -/
def Cell.outlastsAo : Cell → Bool
  | .id _ => true
  | .sys c => decide (c ≠ .aoOn) && decide (c ≠ .railsGood) && decide (c ≠ .jtagIr) && decide (c ≠ .jtagBr) && c.kept
  | .pan c => c.fused
  | .tkt c => c.inFlash
  | _ => false

/-- Loss of VDD_AO. -/
def State.aoLost (s : State) : State :=
  let s1 := s.diesReset
  (State.set (s1.clear (fun k => !k.cell.outlastsAo)) (.sys .aoOn) 0 0 0)

end Sys2Proof.Machine
end

