-- ==== Sys2Proof/Machine/HostLanes.lean ====
section
/-!
DEFINITION. Host lanes and Ethernet ports: gear negotiation, the transmitter equaliser, loss and relock, electrical idle,
eye scan, PRBS, ports, host FEC and PFC (R205 to R237).
-/
namespace Sys2Proof.Machine

/-- `HL_LANE_STATUS`.STATE. -/
def hlOff : Nat := 0
def hlIdle : Nat := 1
def hlLock : Nat := 2
def hlCaps : Nat := 3
def hlTrain : Nat := 4
def hlStep : Nat := 5
def hlUp : Nat := 6
def hlWait : Nat := 7
def hlForced : Nat := 8
def hlTest : Nat := 9

/-- `HL_PORT_STATUS`.STATE. -/
def prtOff : Nat := 0
def prtNeg : Nat := 1
def prtAlign : Nat := 2
def prtUp : Nat := 3
def prtIdle : Nat := 4
def prtLoop : Nat := 5
def prtTest : Nat := 6

/-- FAIL_REASON. -/
def failNoLock : Nat := 1
def failCaps : Nat := 2
def failGearCap : Nat := 3
def failStep : Nat := 4
def failTrain : Nat := 5
def failRole : Nat := 6
def failAbort : Nat := 7
def failIdleExit : Nat := 8

/-- Lanes of a WIDTH code (0: no port). -/
def widthLanes (w : Nat) : Nat := if w = 0 then 0 else 2 ^ (w - 1)

/-- The Gear that a speed and width require (R226); 0: no such combination. -/
def gearFor (speed width : Nat) : Nat :=
  match speed, width with
  | 0, 4 => 1
  | 0, 3 => 2
  | 0, 2 => 3
  | 0, 1 => 4
  | 1, 5 => 1
  | 1, 4 => 2
  | 1, 3 => 3
  | 1, 2 => 4
  | 2, 4 => 3
  | 2, 3 => 4
  | 3, 5 => 3
  | 3, 4 => 4
  | _, _ => 0

/-- The Gear of port `p`. -/
def State.portGear (s : State) (d p : Nat) : Nat := gearFor (s.get (.hl .speed) d p) (s.get (.hl .width) d p)

/-- The lanes of port `p`. -/
def State.portLanes (s : State) (d p : Nat) : List Nat :=
  ((List.range (widthLanes (s.get (.hl .width) d p))).map (p + ·)).filter (fun l => decide (l < 16))

/-- The port that owns a lane. -/
def State.lanePort (s : State) (d l : Nat) : Option Nat :=
  (List.range 16).find? (fun p => decide (l ∈ s.portLanes d p))

/-- STATE of a lane and of a port. -/
def State.laneState (s : State) (d l : Nat) : Nat := s.get (.hl .state) d l
def State.portState (s : State) (d p : Nat) : Nat := s.get (.hl .pState) d p

/-- A lane under test: generator or checker on (R224). -/
def State.laneTest (s : State) (d l : Nat) : Bool := s.flag (.hl .prbsGen) d l || s.flag (.hl .prbsChk) d l

/-- The port's signalling rate S in half Gb/s (R237). -/
def portRate2 (speed : Nat) : Nat := 425 * 2 ^ speed

/-- A_RX and A_TX of a Gear in 0.1 ns (R237). -/
def aRx (g : Nat) : Nat := [210, 175, 110, 85].getD (g - 1) 0
def aTx (g : Nat) : Nat := [150, 125, 80, 60].getD (g - 1) 0

/-- CORR_RX and CORR_TX in 1/256 ns, to the nearest unit (R237). -/
def corrRx (g speed fecMode : Nat) : Nat :=
  let s2 := portRate2 speed
  if fecMode = 0 then roundDiv (((aRx g + 240) * s2 + 217600) * 256) (10 * s2) else roundDiv ((aRx g + 80) * 256) 10
def corrTx (g : Nat) : Nat := roundDiv ((aTx g + 60) * 256) 10

/-- HL_TS_CORR is valid while the port is UP. -/
def State.portCorr (s : State) (d p : Nat) : State :=
  if s.portState d p = prtUp then
    (s.set (.hl .corrRx) d p (corrRx (s.portGear d p) (s.get (.hl .speed) d p) (s.get (.hl .fecMode) d p))).set
      (.hl .corrTx) d p (corrTx (s.portGear d p))
  else (s.set (.hl .corrRx) d p 0).set (.hl .corrTx) d p 0

/-- HOST_GEARS runs for carrier `d`, and its lanes. -/
def State.gearsLanes (s : State) (d : Nat) : List Nat := if s.procArg 10 0 % 8 = d then maskBits 16 (s.procArg 10 1) else []

/-- HOST_GEARS returns success when every lane of its mask and every port of those lanes is UP (R219). -/
def State.gearsCheck (s : State) (d : Nat) : State :=
  let l := s.gearsLanes d
  s.when (s.called 10 && decide (s.procArg 10 0 % 8 = d) && l.all (fun l => decide (s.laneState d l = hlUp) &&
      (match s.lanePort d l with
        | some p => decide (s.portState d p = prtUp)
        | none => false))) fun s => s.procEnd 10 true 0

/-- The state of a port from its lanes (R220, R224, R225, R228). -/
def State.portNext (s : State) (d p : Nat) : Nat :=
  let ls := s.portLanes d p
  let st := s.portState d p
  if !s.flag (.hl .portEn) d p || decide (s.get (.hl .mode) d p = 0) || decide (ls = []) then prtOff
  else if ls.any (fun l => s.laneTest d l) then prtTest
  else if s.get (.hl .loop) d p ≠ 0 then prtLoop
  else if ls.all (fun l => decide (s.laneState d l = hlIdle)) then prtIdle
  else if ls.all (fun l => decide (s.laneState d l = hlUp)) then
    if st = prtUp ∨ st = prtIdle then prtUp else prtAlign
  else prtNeg

/-- Bring a port in line with its lanes: STATE, GEAR, LINK_DOWN, the corrections and HOST_GEARS. -/
def State.portRefresh (s : State) (d p : Nat) : State :=
  let n := s.portNext d p
  let s1 := ((s.set (.hl .pState) d p n).set (.hl .pGear) d p (if n = prtOff then 0 else s.portGear d p)).cond
    .hlpLinkDown d p (decide (n = prtNeg) || decide (n = prtAlign))
  (s1.portCorr d p).gearsCheck d

/-- The port of a lane follows. -/
def State.laneDone (s : State) (d l : Nat) : State :=
  match s.lanePort d l with
  | some p => s.portRefresh d p
  | none => s

-- The transmitter equaliser (R212).

/-- The presets of a Gear: c(−2), c(−1), c(+1). -/
def tapPreset (g : Nat) : Nat × Nat × Nat := [(0, 0, 0), (0, 2, 4), (0, 6, 4), (2, 10, 4)].getD (g - 1) (0, 0, 0)

/-- Put taps in force. -/
def State.setTaps (s : State) (d l : Nat) (t : Nat × Nat × Nat) : State :=
  ((s.set (.hl .eqCm2) d l t.1).set (.hl .eqCm1) d l t.2.1).set (.hl .eqCp1) d l t.2.2

/-- The taps in force. -/
def State.laneTaps (s : State) (d l : Nat) : Nat × Nat × Nat :=
  (s.get (.hl .eqCm2) d l, s.get (.hl .eqCm1) d l, s.get (.hl .eqCp1) d l)

/-- Taps within their ranges that leave c(0) at 32 or more. -/
def tapsOk (t : Nat × Nat × Nat) : Bool :=
  decide (t.1 ≤ 6) && decide (t.2.1 ≤ 24) && decide (t.2.2 ≤ 16) && decide (t.1 + t.2.1 + t.2.2 ≤ 32)

/-- One request: the new taps, if the request is applied, and RESULT. -/
def tapRequest (t : Nat × Nat × Nat) (tap action : Nat) : Option (Nat × Nat × Nat) × Nat :=
  let f (x : Nat) : Option Nat := if action = 1 then some (x + 1) else if x = 0 then none else some (x - 1)
  let bad := if action = 1 then 3 else 2
  if action = 0 ∨ action = 3 ∨ 3 ≤ tap then (some t, 1)
  else
    let n := match tap with
      | 0 => (f t.1).map (fun x => (x, t.2.1, t.2.2))
      | 1 => (f t.2.1).map (fun x => (t.1, x, t.2.2))
      | _ => (f t.2.2).map (fun x => (t.1, t.2.1, x))
    match n with
    | some u => if tapsOk u then (some u, 1) else (none, bad)
    | none => (none, bad)

/-- TXEQ: a new REQ_SEQ is acted on once and answered. -/
def State.eqRequest (s : State) (d l : Nat) (f : NegFrame) : State :=
  if f.reqSeq = s.get (.hl .reqSeq) d l then s
  else
    let s1 := s.set (.hl .reqSeq) d l f.reqSeq
    if f.preset then (s1.setTaps d l (tapPreset (s.get (.hl .gear) d l))).set (.hl .reqResult) d l 1
    else
      let r := tapRequest (s.laneTaps d l) f.tap f.action
      ((match r.1 with
        | some t => s1.setTaps d l t
        | none => s1)).set (.hl .reqResult) d l r.2

-- Starting, failing and stopping a lane.

/-- Frame lock and the run counters of a Gear start afresh. -/
def State.laneSearch (s : State) (d l : Nat) : State :=
  ((((((s.set (.hl .fLock) d l 0).set (.hl .goodRun) d l 0).set (.hl .badRun) d l 0).set (.hl .rxReady) d l 0).set
    (.hl .readyRun) d l 0).set (.hl .readyLeft) d l 0)

/-- What a lane forgets when it starts afresh or is OFF. -/
def State.laneForget (s : State) (d l : Nat) : State :=
  ((((((((((((s.laneSearch d l).set (.hl .capsRun) d l 0).set (.hl .farPreCap) d l 0).set (.hl .countdown) d l 0).set
    (.hl .farCount) d l 0).set (.hl .preNext) d l 0).set (.hl .switched) d l 0).set (.hl .fellBack) d l 0).set
    (.hl .stepFails) d l 0).set (.hl .reqSeq) d l 0).set (.hl .reqResult) d l 0).set (.hl .waitSig) d l 0).set
    (.hl .relock) d l 0 |>.set (.hl .keep) d l 0 |>.set (.hl .idleRun) d l 0

/-- A forced lane transmits data at its Gear and waits for its clock recovery (R217). -/
def State.laneForced (s : State) (d l : Nat) : State :=
  ((((((s.laneForget d l).set (.hl .state) d l hlForced).set (.hl .gear) d l (s.get (.hl .forceGear) d l)).setTaps d l
    (s.get (.hl .forceCm2) d l, s.get (.hl .forceCm1) d l, s.get (.hl .forceCp1) d l)).set (.hl .preTx) d l
    (s.get (.hl .forcePreTx) d l)).set (.hl .preRx) d l (s.get (.hl .forcePreRx) d l)).set (.hl .cdrLock) d l 0

/-- A lane negotiates from step 1 of R213: CAPS at Gear 1. -/
def State.laneNegotiate (s : State) (d l : Nat) : State :=
  ((((((s.laneForget d l).set (.hl .state) d l hlLock).set (.hl .gear) d l 1).setTaps d l (tapPreset 1)).set (.hl .preTx) d l
    0).set (.hl .preRx) d l 0 |>.set (.hl .cdrLock) d l 0).inc (.hl .nNegAttempt) d l

/-- A lane of an enabled port starts (R213, R217, R224). -/
def State.laneStart (s : State) (d l : Nat) : State :=
  if s.laneTest d l then s.set (.hl .state) d l hlTest
  else if s.get (.hl .forceGear) d l ≠ 0 then s.laneForced d l else s.laneNegotiate d l

/-- A lane is OFF: electrical idle, input ignored (R205, R228). -/
def State.laneOff (s : State) (d l : Nat) : State :=
  ((((((((s.laneForget d l).set (.hl .state) d l hlOff).set (.hl .gear) d l 0).setTaps d l (0, 0, 0)).set (.hl .preTx) d l
    0).set (.hl .preRx) d l 0).set (.hl .cdrLock) d l 0).set (.hl .sig) d l 0).lower .hllLos d l |>.lower .hllLol d l

/-- A lane fails negotiation (R216): ABORT frames and WAIT. -/
def State.laneFail (s : State) (d l reason : Nat) : State :=
  ((((s.laneSearch d l).set (.hl .failReason) d l reason).set (.hl .state) d l hlWait).event .hllNegFail d l).laneDone d l

/-- A lane enters UP. -/
def State.laneUp (s : State) (d l : Nat) : State :=
  (((((((s.set (.hl .state) d l hlUp).set (.hl .relock) d l 0).set (.hl .keep) d l 0).set (.hl .idleRun) d l 0).set
    (.hl .sig) d l 1).set (.hl .cdrLock) d l 1).lower .hllLol d l).laneDone d l

/-- The part asks for precoding at a Gear (R215). -/
def State.preWant (s : State) (d l g : Nat) : Bool :=
  match s.get (.hl .precodePol) d l with
  | 1 => decide (2 ≤ g)
  | 2 => decide (g = 4)
  | _ => false

/-- The part is the leader of a lane. -/
def State.leads (s : State) (d l : Nat) : Bool := !s.flag (.hl .role) d l

/-- The Gear a lane is to reach. -/
def State.laneTarget (s : State) (d l : Nat) : Nat :=
  match s.lanePort d l with
  | some p => s.portGear d p
  | none => 0

/-- Training begins at the present Gear (R214). -/
def State.laneTrain (s : State) (d l : Nat) : State :=
  (((((s.set (.hl .state) d l hlTrain).set (.hl .rxReady) d l 0).set (.hl .readyRun) d l 0).set (.hl .switched) d l 0).set
    (.hl .farCount) d l 0).set (.hl .cdrLock) d l 1 |>.set (.hl .sig) d l 1

/-- The leader sends STEP frames (R215). -/
def State.stepBegin (s : State) (d l : Nat) : State :=
  ((s.set (.hl .state) d l hlStep).set (.hl .countdown) d l 15).set (.hl .farCount) d l 0

/-- Frame lock is gained (R213, R215, R216). -/
def State.lockGained (s : State) (d l : Nat) : State :=
  let s1 := s.set (.hl .fLock) d l 1
  if s.laneState d l = hlLock then s1.set (.hl .state) d l hlCaps
  else if s.flag (.hl .fellBack) d l then
    let fails := s.get (.hl .stepFails) d l + 1
    let s2 := ((((s1.set (.hl .fellBack) d l 0).set (.hl .switched) d l 0).set (.hl .stepFails) d l fails).inc (.hl .nStepFail) d
      l).event .hllStepFail d l
    if s.get (.hl .stepRetry) d 0 < fails then s2.laneFail d l failStep
    else if s.leads d l then s2.stepBegin d l else s2.set (.hl .state) d l hlTrain
  else if s.flag (.hl .switched) d l then (s1.set (.hl .stepFails) d l 0).laneTrain d l
  else s1

/-- Frame lock is lost (R215, R216); while READY frames end a training the far end may already send data. -/
def State.lockLost (s : State) (d l : Nat) : State :=
  let s1 := ((s.set (.hl .fLock) d l 0).set (.hl .goodRun) d l 0).set (.hl .badRun) d l 0
  let st := s.laneState d l
  if st = hlStep then
    s1.when (decide (s.get (.hl .farCount) d l ≠ 0) && decide (s.get (.hl .farCount) d l ≤ 3)) (fun s =>
      s.set (.hl .countdown) d l 0)
  else if (decide (st = hlCaps) || decide (st = hlTrain)) && decide (s.get (.hl .readyLeft) d l = 0) then
    s1.laneFail d l failNoLock
  else s1

/-- A CAPS that is read (R213). -/
def State.readCaps (s : State) (d l : Nat) (f : NegFrame) : State :=
  if f.gearMax = 0 ∨ 4 < f.gearMax ∨ f.gearNow ≠ 1 then s.laneFail d l failCaps
  else if s.get (.hl .capsRun) d l = 0 then s.set (.hl .capsRun) d l 1
  else
    let s1 := ((s.set (.hl .capsRun) d l 2).set (.hl .farGearMax) d l f.gearMax).setB (.hl .farPreCap) d l f.preCap
    if f.gearMax < s.laneTarget d l then s1.laneFail d l failGearCap
    else if f.leader = s.leads d l then s1.laneFail d l failRole
    else s1.laneTrain d l

/-- The Gear is trained (R214, R215). -/
def State.laneTrained (s : State) (d l : Nat) : State :=
  if s.get (.hl .gear) d l = s.laneTarget d l then s.set (.hl .readyLeft) d l 16
  else if s.leads d l then s.stepBegin d l else s

/-- A frame in TRAIN (R214, R215): precoding at GEAR_NOW, RX_READY, and a follower's first STEP. -/
def State.readTrain (s : State) (d l : Nat) (f : NegFrame) : State :=
  if f.msg = 3 then
    if !s.leads d l && decide (f.gearNext = s.get (.hl .gear) d l + 1) && decide (4 ≤ f.countdown) then
      ((((s.set (.hl .state) d l hlStep).set (.hl .countdown) d l (f.countdown - 1)).set (.hl .farCount) d l
        (1 + f.countdown)).setB (.hl .preNext) d l f.preReq)
    else s
  else
    let s1 := s.when (decide (f.msg = 1)) (fun s =>
      s.setB (.hl .preTx) d l (f.preReq && decide (2 ≤ s.get (.hl .gear) d l)))
    let run := if s.flag (.hl .rxReady) d l && f.rxReady then min 8 (s.get (.hl .readyRun) d l + 1) else 0
    let s2 := s1.set (.hl .readyRun) d l run
    if run = 8 ∧ s.get (.hl .readyRun) d l ≠ 8 ∧ s.get (.hl .readyLeft) d l = 0 then s2.laneTrained d l else s2

/-- A control word in frame lock (R210 to R216). -/
def State.readWordHl (s : State) (d l : Nat) (f : NegFrame) : State :=
  if f.ver ≠ 1 ∨ 5 < f.msg then s
  else
    let s1 := s.eqRequest d l f
    if f.msg = 5 then s1.laneFail d l failAbort
    else if s1.laneState d l = hlCaps then (if f.msg = 0 then s1.readCaps d l f else s1)
    else if s1.laneState d l = hlTrain then s1.readTrain d l f
    else if s1.laneState d l = hlStep && decide (f.msg = 3) then
      (s1.set (.hl .farCount) d l (1 + f.countdown)).setB (.hl .preNext) d l f.preReq
    else s1

/-- A frame period passes for the frames the lane sends: COUNTDOWN and the 16 READY frames (R214, R215). -/
def State.framePeriod (s : State) (d l : Nat) : State :=
  if s.laneState d l = hlStep then s.set (.hl .countdown) d l (s.get (.hl .countdown) d l - 1)
  else if s.laneState d l = hlTrain then
    if s.get (.hl .readyLeft) d l = 0 then s
    else if s.get (.hl .readyLeft) d l = 1 then (s.set (.hl .readyLeft) d l 0).laneUp d l
    else s.set (.hl .readyLeft) d l (s.get (.hl .readyLeft) d l - 1)
  else s

/-- The lane negotiates: frames are sent and looked for. -/
def State.negotiating (s : State) (d l : Nat) : Bool :=
  s.up d && decide (hlLock ≤ s.laneState d l) && decide (s.laneState d l ≤ hlStep) && !s.flag (.hl .relock) d l

/-- NEG_FRAME_RX (R211 to R216). -/
def execNegFrameRx (d l : Nat) (f : NegFrame) (s : State) : Result :=
  finishIf (s.negotiating d l) s fun s =>
    let s0 := s.framePeriod d l
    if !s0.negotiating d l then s0
    else if f.marker && f.crcOk then
      let n := min 3 (s0.get (.hl .goodRun) d l + 1)
      let s1 := (s0.set (.hl .goodRun) d l n).set (.hl .badRun) d l 0
      let s2 := if n = 3 && !s1.flag (.hl .fLock) d l then s1.lockGained d l else s1
      if s2.flag (.hl .fLock) d l && s2.negotiating d l then s2.readWordHl d l f else s2
    else
      let s1 := s0.set (.hl .goodRun) d l 0
      if !s1.flag (.hl .fLock) d l then s1
      else if s1.get (.hl .badRun) d l < 3 then s1.set (.hl .badRun) d l (s1.get (.hl .badRun) d l + 1)
      else s1.lockLost d l

/-- NEG_GEAR_SWITCH (R215): at the end of the frame with COUNTDOWN 0. -/
def execNegGearSwitch (d l : Nat) (s : State) : Result :=
  finishIf (s.negotiating d l && decide (s.laneState d l = hlStep) && decide (s.get (.hl .countdown) d l = 0) &&
      !s.flag (.hl .switched) d l && !s.flag (.hl .fellBack) d l) s fun s =>
    let g := s.get (.hl .gear) d l + 1
    let t := s.laneTaps d l
    let s1 := (s.set (.hl .oldTaps) d l (t.1 * 65536 + t.2.1 * 256 + t.2.2)).set (.hl .oldPre) d l
      (s.get (.hl .preTx) d l + 2 * s.get (.hl .preRx) d l)
    let s2 := (((s1.laneSearch d l).set (.hl .gear) d l g).setTaps d l (tapPreset g)).set (.hl .switched) d l 1
    (s2.setB (.hl .preTx) d l (s.flag (.hl .preNext) d l && decide (2 ≤ g))).setB (.hl .preRx) d l
      (s.preWant d l g && s.flag (.hl .farPreCap) d l)

/-- Return to the lower Gear and search there (R216). -/
def State.stepReturn (s : State) (d l : Nat) : State :=
  let t := s.get (.hl .oldTaps) d l
  let p := s.get (.hl .oldPre) d l
  (((((s.laneSearch d l).set (.hl .gear) d l (s.get (.hl .gear) d l - 1)).setTaps d l (bits t 16 8, bits t 8 8,
    bits t 0 8)).set (.hl .preTx) d l (p % 2)).set (.hl .preRx) d l (p / 2)).set (.hl .fellBack) d l 1

/-- NEG_LOCK_TIMEOUT (R213, R216, R218): T_LOCK passes in CAPS, after a switch, after a return, or in a relock. -/
def execNegLockTimeout (d l : Nat) (s : State) : Result :=
  finishIf (s.up d && decide (hlLock ≤ s.laneState d l) && decide (s.laneState d l ≤ hlStep)) s fun s =>
    if s.flag (.hl .relock) d l then (s.laneStart d l).laneDone d l
    else if s.laneState d l = hlCaps then s.laneFail d l failCaps
    else if s.laneState d l = hlStep && !s.flag (.hl .fLock) d l then
      if s.flag (.hl .fellBack) d l then s.laneFail d l failNoLock
      else if s.flag (.hl .switched) d l then s.stepReturn d l
      else s
    else s

/-- NEG_TRAIN_TIMEOUT (R214). -/
def execNegTrainTimeout (d l : Nat) (s : State) : Result :=
  finishIf (s.negotiating d l && decide (s.laneState d l = hlTrain) && decide (s.get (.hl .readyRun) d l < 8)) s fun s =>
    s.laneFail d l failTrain

/-- NEG_WAIT_EXPIRY (R216). -/
def execNegWaitExpiry (d l : Nat) (s : State) : Result :=
  finishIf (s.up d && decide (s.laneState d l = hlWait)) s fun s => (s.laneStart d l).laneDone d l

/-- FORCED_CDR_LOCK (R217, R218): the clock recovery of a forced lane, or of a lane that relocks, locks. -/
def execForcedCdrLock (d l : Nat) (s : State) : Result :=
  finishIf (s.up d && (decide (s.laneState d l = hlForced) || s.flag (.hl .relock) d l)) s fun s => s.laneUp d l

/-- HL_LOS (R218). -/
def execHlLos (d l : Nat) (s : State) : Result :=
  finishIf (s.up d && decide (s.laneState d l = hlUp)) s fun s =>
    ((((((s.set (.hl .state) d l hlOff).set (.hl .waitSig) d l 1).set (.hl .sig) d l 0).set (.hl .cdrLock) d l 0).raise
      .hllLos d l).inc (.hl .nLosEnter) d l).laneDone d l

/-- HL_SIGNAL_RETURN (R218). -/
def execHlSignalReturn (d l : Nat) (s : State) : Result :=
  finishIf (s.up d && s.flag (.hl .waitSig) d l) s fun s =>
    ((((s.set (.hl .sig) d l 1).lower .hllLos d l).laneStart d l).laneDone d l)

/-- HL_LOL (R218). -/
def execHlLol (d l : Nat) (s : State) : Result :=
  finishIf (s.up d && decide (s.laneState d l = hlUp)) s fun s =>
    let s1 := ((s.set (.hl .cdrLock) d l 0).raise .hllLol d l).inc (.hl .nLolEnter) d l
    (if s.get (.hl .forceGear) d l ≠ 0 then s1.set (.hl .state) d l hlForced
     else (s1.set (.hl .state) d l hlLock).set (.hl .relock) d l 1).laneDone d l

-- Ports.

/-- PORT_EN becomes 1 (R213, R228). -/
def State.portStart (s : State) (d p : Nat) : State :=
  let s1 := s.set (.hl .portEn) d p 1
  if s.get (.hl .mode) d p = 0 then s1.portRefresh d p
  else (s1.each (s.portLanes d p) fun s l => s.laneStart d l).portRefresh d p

/-- PORT_EN becomes 0: the lanes enter OFF (R218, R228). -/
def State.portStop (s : State) (d p : Nat) : State :=
  (((s.set (.hl .portEn) d p 0).each (s.portLanes d p) fun s l => s.laneOff d l).portRefresh d p).set (.hl .pfcTold) d p
    0 |>.lower .hlpLfRx d p |>.lower .hlpRfRx d p |>.lower .hlpFecDegrade d p

/-- PORT_ENABLE (R228). -/
def execPortEnable (d p : Nat) (s : State) : Result :=
  finishIf (s.up d && !s.flag (.hl .portEn) d p) s fun s => s.portStart d p

/-- PORT_DISABLE (R228). -/
def execPortDisable (d p : Nat) (s : State) : Result :=
  finishIf (s.up d && s.flag (.hl .portEn) d p) s fun s => s.portStop d p

/-- HOST_GEARS (R219): the lanes of the mask start, if their port is enabled and they do not run yet. -/
def execHostGears (d : Nat) (s : State) : Result :=
  finishIf (s.up d && s.called 10 && decide (s.procArg 10 0 % 8 = d)) s fun s =>
    (s.each (s.gearsLanes d) fun s l =>
      match s.lanePort d l with
      | some p =>
        if s.flag (.hl .portEn) d p ∧ s.laneState d l = hlOff ∧ ¬ s.flag (.hl .waitSig) d l then
          (s.laneStart d l).portRefresh d p
        else s
      | none => s).gearsCheck d

/-- HOST_GEARS_TIMEOUT (R219): the result code names the first lane of the mask that is not UP. -/
def execHostGearsTimeout (s : State) : Result :=
  let d := s.procArg 10 0 % 8
  finishIf (s.called 10) s fun s =>
    if bit (s.procArg 10 2) 0 then s.procEnd 10 true 0
    else
      match (s.gearsLanes d).find? (fun l => decide (s.laneState d l ≠ hlUp)) with
      | some l => s.procEnd 10 false (16 * l + s.get (.hl .failReason) d l)
      | none => s

-- Electrical idle (R220, R221).

/-- A lane falls silent; `keep`: with its equaliser state. -/
def State.laneIdle (s : State) (d l : Nat) (keep : Bool) : State :=
  ((if keep then s else s.laneForget d l).set (.hl .state) d l hlIdle).setB (.hl .keep) d l keep

/-- The lanes of a port enter idle: announced from UP, at once otherwise. -/
def State.portIdle (s : State) (d p : Nat) : State :=
  let keep := decide (s.portState d p = prtUp)
  ((s.set (.hl .idleReq) d p 1).each (s.portLanes d p) fun s l => s.laneIdle d l keep).portRefresh d p

/-- The lanes of a port leave idle: fast with the state kept, else through full negotiation. -/
def State.portWake (s : State) (d p : Nat) : State :=
  ((s.set (.hl .idleReq) d p 0).each (s.portLanes d p) fun s l =>
    if s.laneState d l = hlIdle then
      if s.flag (.hl .keep) d l then (s.inc (.hl .nIdleExit) d l).laneUp d l else s.laneStart d l
    else s).portRefresh d p

/-- IDLE_ENTER (R220). -/
def execIdleEnter (d p : Nat) (s : State) : Result :=
  finishIf (s.up d && s.flag (.hl .portEn) d p && !s.flag (.hl .idleReq) d p) s fun s => s.portIdle d p

/-- IDLE_FAST_EXIT (R220, R221). -/
def execIdleFastExit (d p : Nat) (s : State) : Result :=
  finishIf (s.up d && s.flag (.hl .portEn) d p && s.flag (.hl .idleReq) d p) s fun s => s.portWake d p

/-- HOST_IDLE_ANNOUNCE_RX (R220): IDLE read with a good CRC in 2 frames makes the silence idle. -/
def execHostIdleAnnounceRx (d l : Nat) (crcOk : Bool) (s : State) : Result :=
  finishIf (s.up d && decide (s.laneState d l = hlUp) && crcOk) s fun s =>
    if s.get (.hl .idleRun) d l = 0 then s.set (.hl .idleRun) d l 1
    else ((s.set (.hl .idleRun) d l 0).laneIdle d l true).laneDone d l

/-- HOST_IDLE_EXIT_RX (R221): the host's burst ends; the lane has locked, or it fails and negotiates again at once. -/
def execHostIdleExitRx (d l : Nat) (locked : Bool) (s : State) : Result :=
  finishIf (s.up d && decide (s.laneState d l = hlIdle) && s.flag (.hl .keep) d l) s fun s =>
    if locked then s.laneUp d l
    else
      (((((s.set (.hl .failReason) d l failIdleExit).event .hllIdleExitFail d l).event .hllNegFail d l).inc
        (.hl .nIdleExitFail) d l).laneStart d l).laneDone d l

-- Signal quality (R222 to R224).

/-- A manual scan may start: none runs, and the eye exists at the lane's Gear (R222). -/
def State.escanOk (s : State) (d l : Nat) : Bool :=
  !s.flag (.hl .escanBusy) d l && !(decide (s.get (.hl .gear) d l = 1) && decide (s.get (.hl .escanEye) d l ≠ 1))

/-- START of `HL_ESCAN_CTRL`. -/
def State.escanBegin (s : State) (d l : Nat) : State :=
  ((s.set (.hl .escanBusy) d l 1).set (.hl .escanErr) d l 0).set (.hl .mutValid) d l 0

/-- ESCAN_START (R222). -/
def execEscanStart (d l : Nat) (s : State) : Result :=
  finishIf (s.up d && s.escanOk d l) s fun s => s.escanBegin d l

/-- ESCAN_DONE (R222): `errs` of the 2^DWELL comparisons disagreed. -/
def execEscanDone (d l errs : Nat) (s : State) : Result :=
  finishIf (s.up d && s.flag (.hl .escanBusy) d l) s fun s =>
    (s.set (.hl .escanBusy) d l 0).set (.hl .escanErr) d l (min (2 ^ s.get (.hl .escanDwell) d l) errs)

/-- MUT of one eye in 1/256 units (R223). -/
def eyeMut (e : Eye) : Nat := min (256 * e.v / 12) (256 * e.h / 8)

/-- The eye with the smallest MUT. -/
def worstEye : List Eye → Option Eye
  | [] => none
  | e :: r =>
    match worstEye r with
    | none => some e
    | some w => if eyeMut e ≤ eyeMut w then some e else some w

/-- EYE_SWEEP_DONE (R214, R223): while the lane is UP or training and no manual scan runs; in training RX_READY follows
READY_MUT. -/
def execEyeSweepDone (d l : Nat) (eyes : List Eye) (s : State) : Result :=
  finishIf (s.up d && (decide (s.laneState d l = hlUp) || decide (s.laneState d l = hlTrain)) &&
      !s.flag (.hl .escanBusy) d l && decide (eyes ≠ [])) s fun s =>
    match worstEye eyes with
    | none => s
    | some w =>
      let v := eyes.foldl (fun m e => min m e.v) 127
      let h := eyes.foldl (fun m e => min m e.h) 63
      let m := min 65535 (min (256 * v / 12) (256 * h / 8))
      let s1 := ((((s.set (.hl .eyeV) d l v).set (.hl .eyeH) d l h).set (.hl .worstEye) d l (w.eye % 4)).set (.hl .mut) d l
        m).set (.hl .mutValid) d l 1
      (s1.cond .hllMarginLow d l (decide (m < s.get (.hl .mutWarn) d 0))).when
        (decide (s.laneState d l = hlTrain) && decide (s.get (.hl .readyMut) d 0 ≤ m)) (fun s => s.set (.hl .rxReady) d l 1)

/-- PRBS_CHECKER_SYNC (R224): a run of received bits at the checker, at most one window of 4,096, and its errors. -/
def execPrbsCheckerSync (d l bits errs : Nat) (s : State) : Result :=
  finishIf (s.up d && s.flag (.hl .prbsChk) d l) s fun s =>
    if s.flag (.hl .prbsLock) d l then
      let s1 := ((s.add (.hl .nPrbsBits) d l bits).add (.hl .nPrbsErr) d l errs).when (decide (errs ≠ 0)) (fun s =>
        s.event .hllPrbsErr d l)
      if 1024 < errs then s1.set (.hl .prbsLock) d l 0 else s1
    else if errs = 0 ∧ 64 ≤ bits then s.set (.hl .prbsLock) d l 1
    else s

/-- PRBS_GEN or PRBS_CHK is written: TEST while either is set, a new start when both are 0 (R224). -/
def State.laneTestSet (s : State) (d l : Nat) : State :=
  let s1 := if s.flag (.hl .prbsChk) d l then s else s.set (.hl .prbsLock) d l 0
  if s.laneTest d l then (s1.set (.hl .state) d l hlTest).laneDone d l
  else if s.laneState d l ≠ hlTest then s1
  else
    match s.lanePort d l with
    | some p => if s.flag (.hl .portEn) d p then (s1.laneStart d l).portRefresh d p else s1.laneOff d l
    | none => s1.laneOff d l

-- The port layer.

/-- PCS_ALIGNED (R228). -/
def execPcsAligned (d p : Nat) (s : State) : Result :=
  finishIf (s.up d && decide (s.portState d p = prtAlign)) s fun s => (s.set (.hl .pState) d p prtUp).portRefresh d p

/-- PCS_ALIGN_LOSS (R228). -/
def execPcsAlignLoss (d p : Nat) (s : State) : Result :=
  finishIf (s.up d && decide (s.portState d p = prtUp)) s fun s =>
    ((s.event .hlpAlignLoss d p).set (.hl .pState) d p prtAlign).portRefresh d p

/-- The PCS and host FEC of a port run. -/
def State.pcsRuns (s : State) (d p : Nat) : Bool :=
  s.up d && (decide (s.portState d p = prtAlign) || decide (s.portState d p = prtUp))

/-- HOST_FEC_CODEWORD (R229, R232): symbol errors of a codeword, whether it is uncorrectable, and the fault ordered sets
in its blocks.  DETECT corrects nothing. -/
def execHostFecCodeword (d p symErr : Nat) (uncorr lf rf : Bool) (s : State) : Result :=
  finishIf (s.pcsRuns d p) s fun s =>
    let s1 := (((s.inc (.hl .nFecCw) d p).add (.hl .nFecSymErr) d p symErr).add (.hl .symMs) d p symErr).incIf
      (!uncorr && decide (symErr ≠ 0) && decide (s.get (.hl .fecMode) d p = 0)) (.hl .nFecCorrCw) d p
    let s2 := s1.when uncorr fun s => (s.inc (.hl .nFecUncorrCw) d p).event .hlpFecUncorr d p
    (s2.cond .hlpLfRx d p lf).cond .hlpRfRx d p rf

/-- HOST_FEC_DEGRADE_INTERVAL (R229): the end of a 1 ms. -/
def execHostFecDegradeInterval (d p : Nat) (s : State) : Result :=
  finishIf (s.pcsRuns d p) s fun s =>
    let t := s.get (.hl .degSym) d p
    (s.cond .hlpFecDegrade d p (decide (t ≠ 0) && decide (t < s.get (.hl .symMs) d p))).set (.hl .symMs) d p 0

/-- Remote fault is sent toward the host while the receive side is in NEG or ALIGN (R232). -/
def State.sendsRemoteFault (s : State) (d p : Nat) : Bool :=
  decide (s.portState d p = prtNeg) || decide (s.portState d p = prtAlign)

-- Backpressure (R234).

/-- A packet port that is UP. -/
def State.packetUp (s : State) (d p : Nat) : Bool :=
  s.up d && decide (s.get (.hl .mode) d p = 1) && decide (s.portState d p = prtUp)

/-- The priorities for which XOFF is in force and PFC is on. -/
def State.pfcWant (s : State) (d p : Nat) : Nat := s.get (.hl .pXoff) d p &&& s.get (.hl .pfcEn) d p

/-- A PFC frame is sent; conditions that have changed together share it. -/
def State.pfcSend (s : State) (d p : Nat) : State :=
  (s.inc (.hl .nPfcTx) d p).set (.hl .pfcTold) d p (s.pfcWant d p)

/-- PFC_XOFF_START (R234): a condition has started since the last frame. -/
def execPfcXoffStart (d p : Nat) (s : State) : Result :=
  finishIf (s.packetUp d p && (List.range 8).any (fun c => bit (s.pfcWant d p) c && !bit (s.get (.hl .pfcTold) d p) c)) s
    fun s => s.pfcSend d p

/-- PFC_XON (R234): a condition has ended since the last frame. -/
def execPfcXon (d p : Nat) (s : State) : Result :=
  finishIf (s.packetUp d p && (List.range 8).any (fun c => !bit (s.pfcWant d p) c && bit (s.get (.hl .pfcTold) d p) c)) s
    fun s => s.pfcSend d p

/-- PFC_REFRESH_TIMER (R234): repeated while a condition lasts. -/
def execPfcRefreshTimer (d p : Nat) (s : State) : Result :=
  finishIf (s.packetUp d p && decide (s.pfcWant d p ≠ 0) && decide (s.get (.hl .pfcTold) d p ≠ 0)) s fun s => s.pfcSend d p

-- Checks at start-up and of tickets.

/-- Ethernet speed of a port in Gb/s. -/
def portSpeed (speed : Nat) : Nat := 200 * 2 ^ speed

/-- PFC_REFRESH is shorter than PFC_QUANTA × 512 bit times (R234). -/
def State.pfcTimesOk (s : State) (d p : Nat) : Bool :=
  decide (s.get (.hl .pfcRefresh) d p * 100 * portSpeed (s.get (.hl .speed) d p) < s.get (.hl .pfcQuanta) d p * 512)

/-- A port's placement (R226, R227). -/
def State.portPlaceOk (s : State) (d p : Nat) : Bool :=
  let w := widthLanes (s.get (.hl .width) d p)
  if w = 0 then decide (s.get (.hl .mode) d p = 0) && !s.flag (.hl .portEn) d p
  else decide (s.portGear d p ≠ 0) && decide (p % w = 0) && decide (p + w ≤ 16) &&
    (List.range w).all (fun k => decide (k = 0) || decide (s.get (.hl .width) d (p + k) = 0))

/-- A forced lane has its port's Gear and permitted taps (R217). -/
def State.forceOk (s : State) (d l : Nat) : Bool :=
  let g := s.get (.hl .forceGear) d l
  decide (g = 0) || (decide (g = s.laneTarget d l) &&
    tapsOk (s.get (.hl .forceCm2) d l, s.get (.hl .forceCm1) d l, s.get (.hl .forceCp1) d l))

/-- The checks of the ports of a die (R217, R226, R227, R234). -/
def State.portsOk (s : State) (d : Nat) : Bool :=
  (List.range 16).all (fun p => s.portPlaceOk d p &&
    (decide (s.get (.hl .mode) d p ≠ 1) || decide (s.get (.hl .pfcEn) d p = 0) || s.pfcTimesOk d p)) &&
    (List.range 16).all (fun l => (s.lanePort d l).isNone || s.forceOk d l)

end Sys2Proof.Machine
end

