-- ==== Sys2Proof/Machine/Pannier.lean ====
section
/-!
DEFINITION. The Pannier stack: pages, spares and page tables, poison, the correction tracker, write-backs, the merge
buffer, hard faults and the repair fuse map (R274 to R300).  A page of R276 is named by its own physical number (its home
page); a retired page is served by another physical page.
-/
namespace Sys2Proof.Machine

/-- First page and number of pages of region `r` (R276). -/
def regionBase (r : Nat) : Nat :=
  match r with
  | 0 => 0
  | 1 => 1703936
  | 2 => 3020608
  | 3 => 3028800
  | _ => 3045184
def regionSize (r : Nat) : Nat :=
  match r with
  | 0 => 1703936
  | 1 => 1310720
  | 2 => 8192
  | 3 => 16384
  | 4 => 8192
  | _ => 0

/-- The region that a home page lies in; 5: none of the five (page tables, firmware, spares). -/
def regionOf (h : Nat) : Nat :=
  ((List.range 5).find? (fun r => decide (regionBase r ≤ h) && decide (h < regionBase r + regionSize r))).getD 5

/-- First spare page, and the pages of a stack. -/
def spareBase : Nat := 3133440
def panPages : Nat := 3145728

/-- Where a granule lies in the stack (R275): pseudo-channel, bank, row, and the word 2 of PAN_RETIRE. -/
def granPc (g : Nat) : Nat := g % 128 / 4
def granBank (g : Nat) : Nat := g / 128 / 4 % 16
def granRow (g : Nat) : Nat := g / 128 / 4 / 16
def retireWord (g : Nat) : Nat := granRow g * 512 + granBank g * 32 + granPc g

/-- The first of the four pages of a row (R275). -/
def rowPage (bank row : Nat) : Nat := 4 * (row * 16 + bank)

/-- `PAN_STATUS`.STATE. -/
def panReset : Nat := 0
def panInit : Nat := 1
def panReady : Nat := 2
def panSelfRefresh : Nat := 3
def panFailed : Nat := 4

/-- The stack of die `d` serves its users. -/
def State.panOk (s : State) (d : Nat) : Bool := decide (s.get (.pan .state) d 0 = panReady)

/-- STATE, with PAN_DOWN (R281). -/
def State.panState (s : State) (d v : Nat) : State := (s.set (.pan .state) d 0 v).cond .panDown d 0 (decide (v = panFailed))

-- Pages (R277, R278, R296, R298).

/-- The physical page that serves a home page, and the home page that a physical page serves. -/
def State.pageAt (s : State) (d h : Nat) : Nat :=
  let m := s.get (.pan .mapTo) d h
  if m = 0 then h else m - 1
def State.homeAt (s : State) (d p : Nat) : Nat :=
  let m := s.get (.pan .homeOf) d p
  if m = 0 then p else m - 1

/-- The home page that migrates. -/
def State.migrating (s : State) (d h : Nat) : Bool := decide (s.get (.pan .migHome) d 0 = h + 1)

/-- The PTE of a home page (R278). -/
def State.pte (s : State) (d h : Nat) : Nat :=
  let out := s.flag (.pan .out) d h
  (!out).toNat + 2 + 4 * (s.migrating d h).toNat + 8 * out.toNat + 64 * s.pageAt d h + 0x10000000 * regionOf h

/-- A page is in the spare pool: a spare page not taken, or a repaired page given to it. -/
def State.isFree (s : State) (d p : Nat) : Bool :=
  (decide (spareBase ≤ p) && decide (p < panPages) && !s.flag (.pan .taken) d p) || s.flag (.pan .given) d p

/-- A physical page serves some home page. -/
def State.inUse (s : State) (d p : Nat) : Bool :=
  if p < spareBase then
    decide (s.pageAt d p = p) || decide (s.get (.pan .homeOf) d p ≠ 0)
  else decide (s.get (.pan .homeOf) d p ≠ 0)

/-- The lowest page in the pool. -/
def State.lowestSpare (s : State) (d : Nat) : Option Nat :=
  let given := ((s.listed (.pan .given) d).map Prod.fst).filter (fun p => s.isFree d p)
  let fresh := ((List.range (panPages - spareBase)).map (fun i => spareBase + i)).find? (fun p => s.isFree d p)
  match given, fresh with
  | [], f => f
  | p :: r, none => some (r.foldl min p)
  | p :: r, some f => some (r.foldl min (min p f))

/-- SPARE_LOW and SPARE_EMPTY follow SPARES_LEFT (R298). -/
def State.spareFollow (s : State) (d : Nat) : State :=
  let n := s.get (.pan .sparesLeft) d 0
  (s.cond .panSpareLow d 0 (decide (n < s.get (.pan .spareWarn) d 0 * 128))).cond .panSpareEmpty d 0 (decide (n = 0))

/-- A page leaves or joins the pool. -/
def State.takeSpare (s : State) (d p : Nat) : State :=
  let s1 := if spareBase ≤ p then s.set (.pan .taken) d p 1 else s.set (.pan .given) d p 0
  (s1.set (.pan .sparesLeft) d 0 (s.get (.pan .sparesLeft) d 0 - 1)).spareFollow d
def State.giveSpare (s : State) (d p : Nat) : State :=
  let s1 := if spareBase ≤ p then s.set (.pan .taken) d p 0 else s.set (.pan .given) d p 1
  (s1.set (.pan .sparesLeft) d 0 (s.get (.pan .sparesLeft) d 0 + 1)).spareFollow d

/-- The spare's PPN goes into both PTE copies: home page `h` is now served by page `p` (R296). -/
def State.remap (s : State) (d h p : Nat) : State :=
  ((s.set (.pan .homeOf) d (s.pageAt d h) 0).set (.pan .mapTo) d h (if p = h then 0 else p + 1)).set (.pan .homeOf) d p
    (if p = h then 0 else h + 1)

-- Retirement (R293, R295, R298, R299).

/-- RETIRE_PEND and MIG_URGENT follow the retirement queue (R291). -/
def State.retireFollow (s : State) (d : Nat) : State :=
  let n := (s.retireQ.filter (fun r => decide (r.die = d))).length
  (s.set (.pan .retirePend) d 0 n).cond .panMigUrgent d 0 (decide (s.get (.pan .retireUrgent) d 0 ≤ n))

/-- A page is queued for retirement. -/
def State.queued (s : State) (d p : Nat) : Bool := s.retireQ.any (fun r => decide (r.die = d) && decide (r.ppn = p))

/-- The page of a hard fault: it leaves the pool, or is queued unless it is queued, migrating or out of use (R295, R297). -/
def State.faultPage (s : State) (d g cause : Nat) : State :=
  let p := g / 128
  let h := s.homeAt d p
  if s.isFree d p then s.takeSpare d p
  else if s.queued d p || !s.inUse d p then s
  else if s.migrating d h && decide (s.pageAt d h = p) then s
  else if 64 ≤ (s.retireQ.filter (fun r => decide (r.die = d))).length then
    (s.inc (.pan .nRetireDrop) d 0).event .panRetireDrop d 0
  else
    State.retireFollow { s with retireQ := s.retireQ ++
      [⟨d, p, g, if s.get (.pan .homeOf) d p = 0 then cause else 3⟩] } d

/-- A hard fault (R293, R295). -/
def State.hardFault (s : State) (d g cause : Nat) : State :=
  ((s.inc (.pan .nHard) d 0).event .panHardFault d 0).faultPage d g cause

/-- A retirement record, while there is room for one (R295, R299). -/
def State.retireRecord (s : State) (d cause g old new : Nat) (inPlace : Bool) : State :=
  let e := s.get (.pan .records) d 0
  let s1 := s.inc (.pan .nRetire) d 0
  if e < 16384 then
    ((((s1.setWin .panRetire d e 0 (2 ^ 31 + cause * 0x20000000 + inPlace.toNat * 0x10000000 + old)).setWin .panRetire d e
      1 new).setWin .panRetire d e 2 (retireWord g)).setWin .panRetire d e 3 (s.get (.tim .tbSec) 0 0 % 2 ^ 32)).set
      (.pan .records) d 0 (e + 1)
  else s1

-- Poison, corrections and write-backs (R285, R286, R294).

/-- A granule is written poisoned. -/
def State.poisonWrite (s : State) (d g : Nat) : State := (s.set (.pan .poison) d g 1).inc (.pan .nPoisonWr) d 0

/-- An uncorrectable granule that is not poison (R286, R293). -/
def State.freshUe (s : State) (d g : Nat) : State :=
  (((s.inc (.pan .nUe) d 0).event .panUe d 0).poisonWrite d g).hardFault d g 2

/-- The tracker counts a correction; the third in a lap makes a hard fault of cause REPEAT. -/
def State.track (s : State) (d g : Nat) : State :=
  match s.tracker.find? (fun t => decide (t.die = d) && decide (t.gran = g)) with
  | some t =>
    let s1 := { s with tracker := s.tracker.map (fun u => if u = t then { u with count := u.count + 1 } else u) }
    if t.count = 2 then s1.hardFault d g 0 else s1
  | none =>
    if (s.tracker.filter (fun t => decide (t.die = d))).length < 256 then
      { s with tracker := s.tracker ++ [⟨d, g, 1⟩] }
    else
      match takeFirst (fun t : Track => decide (t.die = d) && decide (t.count = 1)) s.tracker with
      | some (_, rest) => { s with tracker := rest ++ [⟨d, g, 1⟩] }
      | none => (s.inc (.pan .nTrackOvf) d 0).event .panTrackOvf d 0

/-- The tracker of a die is cleared. -/
def State.trackClear (s : State) (d : Nat) : State := { s with tracker := s.tracker.filter (fun t => decide (t.die ≠ d)) }

-- Writes (R287, R296).

/-- A whole granule of a home page is written: to the spare of a migrating page, with DIRTY; otherwise to the page that
serves it, where it clears poison and replaces a write-back. -/
def State.granWrite (s : State) (d hg : Nat) : State :=
  let h := hg / 128
  let o := hg % 128
  if s.migrating d h then
    (s.set (.pan .migDirty) d o 1).set (.pan .poison) d (s.get (.pan .migNew) d 0 * 128 + o) 0
  else
    let g := s.pageAt d h * 128 + o
    (s.set (.pan .poison) d g 0).set (.pan .wbPend) d g 0

/-- The physical granule that a read of a granule of a home page is served from (R296 step 3; the copy is taken as not
yet made). -/
def State.readGran (s : State) (d hg : Nat) : Nat :=
  let h := hg / 128
  let o := hg % 128
  if s.migrating d h && s.flag (.pan .migDirty) d o then s.get (.pan .migNew) d 0 * 128 + o else s.pageAt d h * 128 + o

/-- A merge entry is flushed: a full write, or a read-modify-write; old bytes that are uncorrectable, or a cipher check that
fails, leave the granule poisoned (R286, R287). -/
def State.mergeFlush (s : State) (e : MergeEnt) (oldUe cipherBad : Bool) : State :=
  let d := e.die
  let s0 := { s with merge := s.merge.filter (fun x => decide (x ≠ e)) }
  let g := s0.readGran d e.gran
  let old := s0.flag (.pan .poison) d g
  if e.mask = 255 && !cipherBad then s0.granWrite d e.gran
  else
    let s1 := s0.incIf (decide (e.mask ≠ 255)) (.pan .nMergeRmw) d 0
    let s2 := s1.when (oldUe && !old && decide (e.mask ≠ 255)) (fun s =>
      ((s.inc (.pan .nUe) d 0).event .panUe d 0).hardFault d g 2)
    let s3 := s2.granWrite d e.gran
    let bad := cipherBad || (decide (e.mask ≠ 255) && (oldUe || old))
    (s3.incIf cipherBad (.pan .nXtsFault) d 0).when bad (fun s => s.poisonWrite d (s.readGran d e.gran))

/-- Words of a granule are written: into its merge entry, or into a new one, for which the oldest gives way when the 64
entries are full.  A granule written whole is a plain full write. -/
def State.mergeWrite (s : State) (d hg mask : Nat) : State :=
  let put (s : State) (m : Nat) : State :=
    if m = 255 then State.granWrite { s with merge := s.merge.filter (fun x => decide (x.die ≠ d) || decide (x.gran ≠ hg)) } d hg
    else if s.merge.any (fun x => decide (x.die = d) && decide (x.gran = hg)) then
      { s with merge := s.merge.map (fun x => if x.die = d ∧ x.gran = hg then { x with mask := m } else x) }
    else { s with merge := s.merge ++ [⟨d, hg, m⟩] }
  match s.merge.find? (fun x => decide (x.die = d) && decide (x.gran = hg)) with
  | some x => put s (x.mask ||| mask)
  | none =>
    if mask = 255 then put s mask
    else
      let mine := s.merge.filter (fun x => decide (x.die = d))
      match mine with
      | x :: _ => if 64 ≤ mine.length then put (s.mergeFlush x false false) mask else put s mask
      | [] => put s mask

/-- The words of granule `k` (counted in granules) that lie in `n` words from word `w` on, as a mask. -/
def wordMask (w n k : Nat) : Nat :=
  ((List.range 8).filter (fun b => decide (w ≤ 8 * k + b) && decide (8 * k + b < w + n))).foldl (fun m b => m + 2 ^ b) 0

/-- `n` words are written into the ring of `pages` pages at page `base` of region 0, from word `w` of the ring on. -/
def State.panRingWrite (s : State) (d base pages w n : Nat) : State :=
  if s.panOk d && decide (n ≠ 0) then
    let w0 := w % (pages * 1024)
    s.each ((List.range ((w0 + n - 1) / 8 + 1 - w0 / 8)).map (fun i => w0 / 8 + i)) fun s k =>
      s.mergeWrite d (base * 128 + k % (pages * 128)) (wordMask w0 n k)
  else s

-- The repair fuse map (R280, R300).

/-- The words of fuse entry `e`. -/
def State.fuseWord (s : State) (d e k : Nat) : Nat := s.get (.pan .fuse) d (2 * e + k)

/-- KIND of a fuse entry: 0 unused, 1 row, 2 column. -/
def State.fuseKind (s : State) (d e : Nat) : Nat := bits (s.fuseWord d e 0) 30 2

/-- The entries of a kind. -/
def State.fuseOf (s : State) (d kind : Nat) : List Nat := (List.range 128).filter (fun e => decide (s.fuseKind d e = kind))

/-- The first free entry. -/
def State.fuseFree (s : State) (d : Nat) : Option Nat := (List.range 128).find? (fun e => decide (s.fuseKind d e = 0))

/-- Bank and row, or lane, of an entry. -/
def rowFuse (pc : Nat) : Nat := 0x40000000 + pc
def colFuse (pc : Nat) : Nat := 0x80000000 + pc

/-- BLOW_REPAIR of a row is allowed: a free entry, no repeat, and a repair resource left in the bank (one a bank, R300 and
PPR_LEFT). -/
def State.rowBlowOk (s : State) (d pc bank row : Nat) : Bool :=
  decide (row < 49152) && (s.fuseFree d).isSome &&
    !(s.fuseOf d 1).any (fun e => decide (s.fuseWord d e 0 % 32 = pc) && decide (bits (s.fuseWord d e 1) 20 4 = bank))

/-- BLOW_REPAIR of a column is allowed: the pseudo-channel's spare lane is free. -/
def State.colBlowOk (s : State) (d pc lane : Nat) : Bool :=
  decide (lane ≤ 65) && (s.fuseFree d).isSome && !(s.fuseOf d 2).any (fun e => decide (s.fuseWord d e 0 % 32 = pc))

/-- An entry is burnt. -/
def State.blowFuse (s : State) (d w0 w1 : Nat) : State :=
  match s.fuseFree d with
  | some e => (s.set (.pan .fuse) d (2 * e) w0).set (.pan .fuse) d (2 * e + 1) w1
  | none => s

end Sys2Proof.Machine
end

