-- ==== Sys2Proof/Machine/Courier.lean ====
section
/-!
DEFINITION. The DRBG (R341), the service cipher and its lock (R338 to R340), and the Courier channels with their
descriptors, pre-emption, faults and recovery (R303 to R312).
-/
namespace Sys2Proof.Machine

-- The DRBG (R341).

/-- A generate request: it reseeds before a request for prediction resistance and after every 2^16 requests. -/
def State.drbg (s : State) (predictionResistance : Bool) : State :=
  if !s.flag (.sbg .rngOk) 0 0 then s
  else
    let n := s.get (.sbg .drbgCount) 0 0
    if predictionResistance || decide (65536 ≤ n) then (s.inc (.sbg .nDrbgReseed) 0 0).set (.sbg .drbgCount) 0 0 1
    else s.set (.sbg .drbgCount) 0 0 (n + 1)

-- Descriptors in their lists.

/-- The descriptors of a channel, in the order in which they were posted. -/
def State.chan (s : State) (d c : Nat) : List Desc := s.descs.filter (fun x => decide (x.die = d) && decide (x.chan = c))

/-- The descriptor that a channel works on or is halted at. -/
def State.current (s : State) (d c : Nat) : Option Desc := (s.chan d c).find? (fun x => decide (x.state = 1) || decide (x.state = 4))

/-- Change one descriptor; remove it. -/
def State.descEdit (s : State) (x y : Desc) : State := { s with descs := s.descs.map (fun z => if z = x then y else z) }
def State.descDrop (s : State) (x : Desc) : State := { s with descs := s.descs.filter (fun z => decide (z ≠ x)) }

/-- The channel's registers show a descriptor (R307, R309). -/
def State.chanShow (s : State) (x : Desc) (state : Nat) : State :=
  (((((s.set (.crr .state) x.die x.chan state).set (.crr .cls) x.die x.chan x.cls).set (.crr .descIdx) x.die x.chan x.idx).set
    (.crr .doneBytes) x.die x.chan x.done).set (.crr .depth) x.die x.chan
    ((s.chan x.die x.chan).filter (fun y => decide (y.state = 2))).length)

/-- CRR_HALT is live while a channel of the die is halted. -/
def State.haltFollow (s : State) (d : Nat) : State :=
  s.cond .crrHalt d 0 ((List.range 12).any (fun c => decide (s.get (.crr .state) d c = 2)))

/-- A channel halts with a fault (R309): `done` bytes were written, the granule at `addr` of `space` failed. -/
def State.chanHalt (s : State) (x : Desc) (code done space addr : Nat) : State :=
  let y := { x with state := 4, done := done, fault := code, resumes := if x.fault = code then x.resumes else 0 }
  let s1 := (s.descEdit x y).chanShow y 2
  let s2 := ((((s1.set (.crr .fault) x.die x.chan code).set (.crr .faultSpace) x.die x.chan space).set (.crr .faultAddr) x.die
    x.chan addr).inc (.crr .nFault) x.die x.chan).add (.crr .nBytes) x.die x.chan (done - x.done)
  (s2.haltFollow x.die).when (decide (code = 6) || decide (code = 7)) fun s => s.event .crrPcie x.die 0

-- The service cipher (R338 to R340).  Agent 0 is the most urgent, agent 7 (Courier) the least.

def svcCourier : Nat := 7
def svcTicket : Nat := 5

/-- The state of each suspend slot. -/
def State.slotValid (s : State) (k : Nat) : Bool := if k = 0 then s.flag (.svc .s0Valid) 0 0 else s.flag (.svc .s1Valid) 0 0
def State.slotAgent (s : State) (k : Nat) : Nat := if k = 0 then s.get (.svc .s0Agent) 0 0 else s.get (.svc .s1Agent) 0 0
def State.slotSet (s : State) (k a : Nat) (v : Bool) : State :=
  if k = 0 then (s.setB (.svc .s0Valid) 0 0 v).set (.svc .s0Agent) 0 0 a
  else (s.setB (.svc .s1Valid) 0 0 v).set (.svc .s1Agent) 0 0 a

/-- The agent takes the lock. -/
def State.svcTake (s : State) (a : Nat) (suspender : Bool) : State :=
  ((s.set (.svc .busy) 0 0 1).set (.svc .owner) 0 0 a).setB (.svc .suspender) 0 0 suspender

/-- The agent waits. -/
def State.svcWaiting (s : State) (a : Nat) : Bool := bit (s.get (.svc .waiting) 0 0) a
def State.svcWait (s : State) (a : Nat) (b : Bool) : State := s.set (.svc .waiting) 0 0 (putBit (s.get (.svc .waiting) 0 0) a b)

/-- The channel whose SIGN descriptor uses the service cipher. -/
def State.signDesc (s : State) : Option Desc :=
  let h := s.get (.svc .crrHolder) 0 0
  if h = 0 then none else s.current ((h - 1) / 16) ((h - 1) % 16)

/-- Courier's message is suspended: its channel shows CIPHER_WAIT (R308). -/
def State.signSuspend (s : State) : State :=
  match s.signDesc with
  | some x => ((s.chanShow x 3).inc (.crr .nCipherWait) x.die x.chan)
  | none => s

/-- An agent asks for the lock (R339). -/
def State.svcRequest (s : State) (a : Nat) : State :=
  if !s.flag (.svc .busy) 0 0 then s.svcTake a false
  else
    let o := s.get (.svc .owner) 0 0
    let free := (List.range 2).find? (fun k => !s.slotValid k)
    match free with
    | some k =>
      if a < o && !s.flag (.svc .suspender) 0 0 then
        let s1 := ((s.slotSet k o true).svcTake a true).inc (.svc .nSuspend) 0 0
        if o = svcCourier then s1.signSuspend else s1
      else (s.svcWait a true).inc (.svc .nWait) 0 0
    | none => (s.svcWait a true).inc (.svc .nWait) 0 0

/-- A message fails and its agent is told (R340): Courier faults with CIPHER, the journal and the key channel retry once, a
ticket's hash has failed. -/
def State.svcFail (s : State) (a : Nat) : State :=
  if a = svcCourier then
    match s.signDesc with
    | some x => (s.chanHalt x 9 x.done x.srcSpace (x.src + x.done)).set (.svc .crrHolder) 0 0 0
    | none => s
  else if a = svcTicket then s.set (.tkt .hashFail) 0 0 1
  else if (a = 3 ∨ a = 4) ∧ ¬ s.flag (.svc .retried) 0 a then (s.set (.svc .retried) 0 a 1).svcWait a true
  else s.set (.svc .retried) 0 a 0

/-- The most urgent of the waiting agents and the suspended messages takes the free lock; a suspended message wins a tie.
A context that fails its parity check on resume fails its message, and the next one takes the lock. -/
def State.svcNext (s : State) (parity : Bool) : Nat → State
  | 0 => s
  | fuel + 1 =>
    match (List.range 8).find? (fun a => s.svcWaiting a || (List.range 2).any (fun k => s.slotValid k && decide (s.slotAgent k = a))) with
    | none => s
    | some a =>
      match (List.range 2).find? (fun k => s.slotValid k && decide (s.slotAgent k = a)) with
      | some k =>
        let s1 := s.slotSet k 0 false
        if parity then s1.svcTake a false
        else ((s1.inc (.svc .nSuspFail) 0 0).svcFail a).svcNext true fuel
      | none => (s.svcWait a false).svcTake a false

/-- The owner's message ends: completed, or failed by the duplicate datapath. -/
def State.svcRelease (s : State) (checkOk parity : Bool) : State :=
  if s.flag (.svc .busy) 0 0 then
    let a := s.get (.svc .owner) 0 0
    let s1 := ((s.set (.svc .busy) 0 0 0).set (.svc .owner) 0 0 0).set (.svc .suspender) 0 0 0
    let s2 := if checkOk then (s1.inc (.svc .nMsg) 0 0).set (.svc .retried) 0 a 0
      else ((s1.inc (.svc .nCheckFail) 0 0).raise .sbgSvcFault 0 0).svcFail a
    s2.svcNext parity 4
  else s

/-- SVC_LOCK_REQUEST (R339): an agent that owns the lock, waits or has a suspended message asks for nothing more. -/
def execSvcLockRequest (a : Nat) (s : State) : Result :=
  finishIf (!(s.flag (.svc .busy) 0 0 && decide (s.get (.svc .owner) 0 0 = a)) && !s.svcWaiting a &&
    !(List.range 2).any (fun k => s.slotValid k && decide (s.slotAgent k = a)) && (decide (a ≠ 0) || !s.inRun)) s fun s =>
      s.svcRequest a

/-- SVC_LOCK_RELEASE (R339, R340). -/
def execSvcLockRelease (checkOk parityOk : Bool) (s : State) : Result :=
  finishIf (s.flag (.svc .busy) 0 0) s fun s => s.svcRelease checkOk parityOk

/-- SVC_SUSPEND_TIMEOUT (R340): the message suspended in slot `k` is not resumed within SUSP_MAX_US. -/
def execSvcSuspendTimeout (k : Nat) (s : State) : Result :=
  finishIf (s.slotValid k) s fun s =>
    let a := s.slotAgent k
    ((s.slotSet k 0 false).inc (.svc .nSuspFail) 0 0).svcFail a

-- Courier (R303 to R312).

/-- CRR_WIN_w covers a host address for a write (TELEMETRY or TICKET) or a read (TICKET) (R305): the end of the window. -/
def State.winEnd (s : State) (w a : Nat) (write : Bool) : Option Nat :=
  let b := s.get (.crr .winBase) 0 w
  let e := b + s.get (.crr .winSize) 0 w * 4096
  if s.flag (.crr .winEn) 0 w && (s.flag (.crr .winTicket) 0 w || (write && s.flag (.crr .winTelemetry) 0 w)) &&
      decide (b ≤ a) && decide (a < e) then some e else none

/-- How far from `a` on the permitted windows reach. -/
def State.reach (s : State) (write : Bool) : Nat → Nat → Nat
  | 0, a => a
  | fuel + 1, a =>
    match (List.range 16).findSome? (fun w => s.winEnd w a write) with
    | some e => s.reach write fuel e
    | none => a

/-- The end of the last destination granule that is complete when `n` source bytes are good (R306). -/
def doneFloor (dst n : Nat) : Nat := (dst + n) / 64 * 64 - dst

/-- Where a host range stops being permitted: bytes from its start, if before its end. -/
def State.hostStop (s : State) (a len : Nat) (write : Bool) : Option Nat :=
  let r := s.reach write 16 a
  if r < a + len then some (r - a) else none

/-- A virtual address (R277): its region, and its byte within the region. -/
def vaRegion (a : Nat) : Nat := bits a 35 3
def vaByte (a : Nat) : Nat := bits a 0 35

/-- The lower of two faults. -/
def firstFault (a b : Option (Nat × Nat)) : Option (Nat × Nat) :=
  match a, b with
  | some x, some y => if y.1 < x.1 then some y else some x
  | some x, none => some x
  | none, y => y

/-- Where a range of a region first meets a page with OUT, or a poisoned granule (for reads): the bytes before it and the
fault code. -/
def State.pageFault (s : State) (d a len : Nat) (read : Bool) : Option (Nat × Nat) :=
  let r := vaRegion a
  let b := vaByte a
  let hit (start size code : Nat) : Option (Nat × Nat) :=
    if start < b + len ∧ b < start + size then some (start - b, code) else none
  let outs := ((s.listed (.pan .out) d).map (fun (e : Nat × Nat) =>
    if regionOf e.1 = r then hit ((e.1 - regionBase r) * 8192) 8192 5 else none))
  let bads := if read then ((s.listed (.pan .poison) d).map (fun (e : Nat × Nat) =>
      let h := s.homeAt d (e.1 / 128)
      if regionOf h = r then hit ((h - regionBase r) * 8192 + e.1 % 128 * 64) 64 4 else none)) else []
  (outs ++ bads).foldl firstFault none

/-- Where a Pannier virtual range first fails: beyond its region (XLATE), or as above (R310). -/
def State.virtStop (s : State) (d a len : Nat) (read : Bool) : Option (Nat × Nat) :=
  let room := regionSize (vaRegion a) * 8192 - vaByte a
  firstFault (if room < len then some (room, 2) else none) (s.pageFault d a len read)

/-- A malformed descriptor, or a space the channel may not use (R304, R310). -/
def Desc.malformed (x : Desc) : Bool :=
  decide (x.len = 0) || decide (16777215 < x.len) || (x.sign && decide (65536 < x.len)) ||
    (!x.migrate && (decide (x.srcSpace = 3) || decide (x.dstSpace = 3))) ||
    (decide (x.chan < 4) && (decide (x.srcSpace = 2) || decide (x.dstSpace = 2)))

/-- A descriptor that reads or writes the host. -/
def Desc.toHost (x : Desc) : Bool := decide (x.srcSpace = 2) || decide (x.dstSpace = 2)

/-- The host answers: the link is up and Bus Master Enable is 1 (R310, R311). -/
def State.hostUp (s : State) : Bool := s.flag (.sys .pcieUp) 0 0 && s.flag (.sys .busMaster) 0 0

/-- A descriptor begins or goes on: checked first, then its link, then the lock of a SIGN descriptor. -/
def State.descRun (s : State) (x : Desc) : State :=
  if x.malformed then (s.used.used).chanHalt x 1 x.done (s.freeBits 2) (s.used.freeBits 64)
  else if x.toHost && !s.hostUp then
    s.chanHalt x 7 x.done 2 ((if x.dstSpace = 2 then x.dst else x.src) + x.done)
  else
    let y := { x with state := 1, depth := 0 }
    let s1 := (s.descEdit x y).chanShow y 1
    if x.sign && decide (s.get (.svc .crrHolder) 0 0 = 0) then
      (s1.set (.svc .crrHolder) 0 0 (1 + 16 * x.die + x.chan)).svcRequest svcCourier
    else s1

/-- The descriptor a free channel takes next (R307): one of a higher class than the last pre-empted one, in ring order, or
that one. -/
def State.chanPick (s : State) (d c : Nat) : Option Desc :=
  let l := s.chan d c
  let top := (l.filter (fun x => decide (x.state = 2))).foldl (fun (b : Option Desc) x => match b with
    | none => some x
    | some y => if y.depth < x.depth then some x else some y) none
  let new := (l.filter (fun x => decide (x.state = 0))).foldl (fun (b : Option Desc) x => match b with
    | none => some x
    | some y => if y.cls < x.cls then some x else some y) none
  match top, new with
  | none, n => n
  | some t, none => some t
  | some t, some n => if t.cls < n.cls then some n else some t

/-- The channel is in service (R303). -/
def State.chanOn (s : State) (d c : Nat) : Bool := s.up d && s.flag (.crr .chEn) d c && (decide (c < 4) || decide (d = 0))

/-- A channel that does nothing takes its next descriptor. -/
def State.chanNext (s : State) (d c : Nat) : State :=
  match s.current d c with
  | some _ => s
  | none =>
    match s.chanPick d c with
    | some x => s.descRun x
    | none => (s.set (.crr .state) d c 0).set (.crr .depth) d c 0

/-- COURIER_DESC_POST (R303, R304): firmware posts a descriptor in the ring of its class, which holds 64; channel 0 carries
migrations only. -/
def execCourierDescPost (d c : Nat) (p : CrrPost) (s : State) : Result :=
  finishIf (s.chanOn d c && decide (c ≠ 0) && decide (p.cls < 4) &&
      decide (((s.chan d c).filter (fun x => decide (x.cls = p.cls))).length < 64)) s fun s =>
    let i := s.get (.crr .post) d (4 * c + p.cls)
    let s1 := (State.set { s with descs := s.descs ++
        [⟨d, c, p.cls, i, p.srcSpace, p.dstSpace, p.src, p.dst, p.len, p.migrate, p.sign, p.tag, 0, 0, 0, 0, 0⟩] }
      (.crr .post) d (4 * c + p.cls) ((i + 1) % 64))
    s1.chanNext d c

/-- A descriptor of a higher class waits. -/
def State.outranked (s : State) (x : Desc) : Bool :=
  (s.chan x.die x.chan).any (fun y => decide (y.state = 0) && decide (x.cls < y.cls))

/-- COURIER_PREEMPT (R307): the running descriptor yields at `done` bytes, the next destination address that is a multiple
of 4,096; a SIGN descriptor never does. -/
def execCourierPreempt (d c done : Nat) (s : State) : Result :=
  finishIf (s.chanOn d c) s fun s =>
    match s.current d c with
    | some x =>
      if x.state = 1 ∧ ¬ x.sign ∧ s.outranked x ∧ x.done ≤ done ∧ done < x.len ∧ (x.dst + done) % 4096 = 0 then
        let n := ((s.chan d c).filter (fun y => decide (y.state = 2))).length
        let y := { x with state := 2, done := done, depth := n + 1 }
        (((s.descEdit x y).inc (.crr .nPreempt) d c).add (.crr .nBytes) d c (done - x.done)).chanNext d c
      else s
    | none => s

/-- The first fault that the part's own tables give a descriptor: code, complete destination bytes, space and address of
the granule that fails (R305, R306, R310). -/
def State.descStop (s : State) (x : Desc) : Option (Nat × Nat × Nat × Nat) :=
  let left := x.len - x.done
  let host (a : Nat) (write : Bool) : Option (Nat × Nat) :=
    (s.hostStop (a + x.done) left write).map (fun n => (x.done + n, 8))
  let src := if x.srcSpace = 2 then host x.src false else if x.srcSpace = 0 then s.virtStop x.die x.src x.len true else none
  let dst := if x.dstSpace = 2 then host x.dst true else if x.dstSpace = 0 then s.virtStop x.die x.dst x.len false else none
  match src, dst with
  | none, none => none
  | some a, none => some (a.2, max x.done (doneFloor x.dst a.1), x.srcSpace, (x.src + a.1) / 64 * 64)
  | none, some b => some (b.2, max x.done (doneFloor x.dst b.1), x.dstSpace, (x.dst + b.1) / 64 * 64)
  | some a, some b =>
    if b.1 < a.1 then some (b.2, max x.done (doneFloor x.dst b.1), x.dstSpace, (x.dst + b.1) / 64 * 64)
    else some (a.2, max x.done (doneFloor x.dst a.1), x.srcSpace, (x.src + a.1) / 64 * 64)

/-- A SIGN descriptor gives the lock back. -/
def State.signEnd (s : State) (x : Desc) : State :=
  if s.get (.svc .crrHolder) 0 0 = 1 + 16 * x.die + x.chan ∧ x.sign then
    let s1 := s.set (.svc .crrHolder) 0 0 0
    if s1.flag (.svc .busy) 0 0 && decide (s1.get (.svc .owner) 0 0 = svcCourier) then s1.svcRelease true true
    else (s1.svcWait svcCourier false)
  else s

/-- The part has the lock for a SIGN descriptor. -/
def State.signHeld (s : State) (x : Desc) : Bool :=
  !x.sign || (decide (s.get (.svc .crrHolder) 0 0 = 1 + 16 * x.die + x.chan) && s.flag (.svc .busy) 0 0 &&
    decide (s.get (.svc .owner) 0 0 = svcCourier))

/-- The destination pages of a completed descriptor hold new data: every poisoned granule that it wrote whole is clean
(R286). -/
def State.descWrote (s : State) (x : Desc) : State :=
  if x.dstSpace = 0 then
    let r := vaRegion x.dst
    let b := vaByte x.dst
    s.each ((s.listed (.pan .poison) x.die).filter (fun (e : Nat × Nat) =>
      let h := s.homeAt x.die (e.1 / 128)
      let p := (h - regionBase r) * 8192 + e.1 % 128 * 64
      decide (regionOf h = r) && decide (b ≤ p) && decide (p + 64 ≤ b + x.len))) fun s e => s.set (.pan .poison) x.die e.1 0
  else s

/-- A descriptor completes (R306): its counters and bytes; the channel goes on. -/
def State.descDone (s : State) (x : Desc) : State :=
  let s1 := (((s.descDrop x).inc (.crr .nDescDone) x.die x.chan).add (.crr .nBytes) x.die x.chan (x.len - x.done)).set
    (.crr .doneBytes) x.die x.chan x.len
  ((s1.descWrote x).signEnd x).chanNext x.die x.chan

/-- COURIER_DESC_DONE (R305, R306, R308, R310): the running descriptor reaches its end, unless its ranges leave the
permitted windows, its region, or meet a retired page or a poisoned granule: then it halts there. -/
def execCourierDescDone (d c : Nat) (s : State) : Result :=
  finishIf (s.chanOn d c) s fun s =>
    match s.current d c with
    | some x =>
      if x.state = 1 ∧ s.signHeld x ∧ s.get (.crr .state) d c = 1 then
        match s.descStop x with
        | some (code, done, space, addr) => s.chanHalt x code done space addr
        | none => s.descDone x
      else s
    | none => s

/-- COURIER_FAULT (R309, R310): a granule cannot complete; the fault's code, place and the bytes written are what the
channel found. -/
def execCourierFault (d c code done space addr : Nat) (s : State) : Result :=
  finishIf (s.chanOn d c && decide (1 ≤ code) && decide (code ≤ 9)) s fun s =>
    match s.current d c with
    | some x =>
      if x.state = 1 ∧ x.done ≤ done ∧ done < x.len then
        (s.chanHalt x code done space addr).incIf (decide (code = 9) && !x.sign) (.pan .nXtsFault) d 0
      else s
    | none => s

/-- Firmware's fixed policy of R310: resume (true) or abort. -/
def State.mayResume (s : State) (x : Desc) : Bool :=
  match x.fault with
  | 3 => decide (x.resumes = 0) && decide (s.listed (.pan .rebuild) x.die = [])
  | 6 => decide (x.resumes < s.get (.crr .resumeMax) x.die x.chan)
  | 9 => decide (x.resumes = 0)
  | _ => false

/-- COURIER_RESUME (R309, R310): at DONE_BYTES. -/
def execCourierResume (d c : Nat) (s : State) : Result :=
  finishIf (s.chanOn d c) s fun s =>
    match s.current d c with
    | some x =>
      if x.state = 4 ∧ s.mayResume x then
        let y := { x with resumes := x.resumes + 1 }
        State.haltFollow (((s.descEdit x y).inc (.crr .nResume) d c).descRun y) d
      else s
    | none => s

/-- A descriptor is aborted; a ticket fetch then has failed (R63, R310), and a second XTS failure raises XTS_FAULT. -/
def State.descAbort (s : State) (x : Desc) : State :=
  let s1 := ((s.descDrop x).inc (.crr .nAbort) x.die x.chan).event .crrAbort x.die 0
  let s2 := (s1.when (decide (x.fault = 9) && !x.sign) (fun s => s.raise .panXtsFault x.die 0)).when
    (decide (x.chan = 4)) (fun s => s.set (.tkt .fetched) 0 0 2)
  (((s2.signEnd x).set (.crr .state) x.die x.chan 0).chanNext x.die x.chan).haltFollow x.die

/-- COURIER_ABORT (R309, R310). -/
def execCourierAbort (d c : Nat) (s : State) : Result :=
  finishIf (s.chanOn d c) s fun s =>
    match s.current d c with
    | some x => if x.state = 4 ∧ ¬ (s.mayResume x ∨ (x.fault = 3 ∧ x.resumes = 0)) then s.descAbort x else s
    | none => s

/-- COURIER_CIPHER_RESUME (R308): the suspended message has resumed. -/
def execCourierCipherResume (d c : Nat) (s : State) : Result :=
  finishIf (s.chanOn d c && decide (s.get (.crr .state) d c = 3)) s fun s =>
    match s.current d c with
    | some x => if s.signHeld x then s.chanShow x 1 else s
    | none => s

/-- PCIE_COMPLETION_TIMEOUT (R310, R311): a host read of a ticket fetch; `done`: the bytes written. -/
def execPcieCompletionTimeout (done : Nat) (s : State) : Result :=
  finishIf (s.chanOn 0 4) s fun s =>
    match s.current 0 4 with
    | some x =>
      if x.state = 1 ∧ x.srcSpace = 2 ∧ x.done ≤ done ∧ done < x.len then s.chanHalt x 6 done 2 ((x.src + done) / 64 * 64) else s
    | none => s

/-- PCIE_UNEXPECTED_COMPLETION (R311). -/
def execPcieUnexpectedCompletion (s : State) : Result := finishIf (s.up 0) s fun s => s.inc (.crr .nPcieUnexp) 0 0

/-- The link goes down: every running host descriptor stops with PCIE_ABORT; `done`: the bytes it had written. -/
def State.linkDown (s : State) (done : List Nat) : State :=
  (s.set (.sys .pcieUp) 0 0 0).each ((List.range 8).map (fun i => i + 4)) fun s c =>
    match s.current 0 c with
    | some x =>
      if x.state = 1 ∧ x.toHost then
        let n := max x.done (min (done.getD (c - 4) 0) (x.len - 1))
        s.chanHalt x 7 n 2 (((if x.dstSpace = 2 then x.dst else x.src) + n) / 64 * 64)
      else s
    | none => s

/-- PCIE_LINK_DOWN (R311). -/
def execPcieLinkDown (done : List Nat) (s : State) : Result :=
  finishIf (s.flag (.sys .pcieUp) 0 0) s fun s => s.linkDown done

end Sys2Proof.Machine
end

