-- ==== Sys2Proof/Machine/Saddlebag.lean ====
section
/-!
DEFINITION. The Saddlebag: spans and their secrets, the key channel, key delivery to the dies and the rekeying of containers
(R316 to R330).
-/
namespace Sys2Proof.Machine

-- Container keys (R328, R329).

/-- TX_STATE and RX_STATE of CRY_CTX. -/
def cryOff : Nat := 0
def cryNokey : Nat := 1
def cryActive : Nat := 2
def cryRekeying : Nat := 3
def cryHold : Nat := 4
def cryNextReady : Nat := 3

/-- CRYPTO_HOLD_ANY is live while a container of the package is in NOKEY or CRYPTO_HOLD (R328). -/
def State.holdFollow (s : State) : State :=
  s.cond .sbgCryptoHoldAny 0 0 (s.cells.any (fun e => decide (e.1.cell = .cry .txState) && (decide (e.2 = 1) || decide (e.2 = 4))))

/-- TX_STATE changes; CRYPTO_HOLD of the container is live in NOKEY and in HOLD, which takes the same actions. -/
def State.txSet (s : State) (d i v : Nat) : State :=
  ((s.set (.cry .txState) d i v).cond .cryCryptoHold d i (decide (v = cryNokey) || decide (v = cryHold))).holdFollow

/-- A rekey of a container is in progress. -/
def State.rekeying (s : State) (d i : Nat) : Bool := s.flag (.cry .txNext) d i || s.flag (.cry .txRetry) d i

/-- REKEY_LATE is live while TX_FRAMES is at least 2^32 − 2^28 and the rekey is not complete (R329). -/
def State.lateFollow (s : State) (d i : Nat) : State :=
  s.cond .cryRekeyLate d i (decide (2 ^ 32 - 2 ^ 28 ≤ s.get (.cry .txFrames) d i))

-- Spans (R321 to R326): entries of SBG_SPAN.

def spanNone : Nat := 0
def spanHandshake : Nat := 1
def spanEstablished : Nat := 2
def spanFailed : Nat := 3

/-- The fields of an SBG_SPAN entry. -/
def State.spanState (s : State) (k : Nat) : Nat := bits (s.winWordAt .sbgSpan 0 k 0) 29 3
def State.spanCarriers (s : State) (k : Nat) : Nat := bits (s.winWordAt .sbgSpan 0 k 0) 16 8
def State.spanPartner (s : State) (k : Nat) : Nat := bits (s.winWordAt .sbgSpan 0 k 0) 0 12
def State.spanSms (s : State) (k : Nat) : Nat := bits (s.winWordAt .sbgSpan 0 k 1) 0 8

/-- Set a field of word 0. -/
def State.spanPut (s : State) (k lo w v : Nat) : State := s.setWin .sbgSpan 0 k 0 (putBits (s.winWordAt .sbgSpan 0 k 0) lo w v)

/-- The span of a carrier. -/
def State.spanOn (s : State) (d : Nat) : Option Nat :=
  (List.range 8).find? (fun k => bit (s.spanCarriers k) d)

/-- The span that carries a container. -/
def State.spanOf (s : State) (c : Nat) : Option Nat :=
  (List.range 8).find? (fun k => (s.carriersOf c).any (fun d => bit (s.spanCarriers k) d))

/-- The encrypted containers of the part, as home die and local index. -/
def State.encrypted (s : State) : List (Nat × Nat) :=
  s.dies.flatMap (fun d => ((s.ctnsOf d).filter (fun i => s.encOn d i)).map (fun i => (d, i)))

/-- The encrypted containers that a span carries. -/
def State.spanCtns (s : State) (k : Nat) : List (Nat × Nat) :=
  s.encrypted.filter (fun x => (s.carriersOf (512 * x.1 + x.2)).any (fun d => bit (s.spanCarriers k) d))

/-- SPANS_UP. -/
def State.spansFollow (s : State) : State :=
  s.set (.sbg .spansUp) 0 0 ((List.range 8).filter (fun k => s.flag (.sbg .spHas) 0 k)).length

/-- A message is sent on a span; a new one takes the next SEQ, a repeat keeps it. -/
def State.kchSend (s : State) (k type : Nat) : State :=
  ((s.set (.sbg .spTxType) 0 k type).set (.sbg .spSeqTx) 0 k (s.get (.sbg .spSeqTx) 0 k + 1)).inc (.sbg .spSent) 0 k
def State.kchAgain (s : State) (k : Nat) : State := s.inc (.sbg .spSent) 0 k

/-- This part is the initiator: its node ID is the lower one (R323). -/
def State.initiates (s : State) (k : Nat) : Bool := decide (s.get (.tkt .nodeId) 0 0 < s.spanPartner k)

-- Rekeying.

/-- The lead die derives a container's next transmit key, installs it and sends KEY_NEXT (R329 steps 1 and 2).  A member
die installs it when its key flit arrives. -/
def State.rekeyStart (s : State) (d i : Nat) : State :=
  match s.spanOf (512 * d + i) with
  | none => s
  | some k =>
    if !s.flag (.sbg .spHas) 0 k || s.flag (.cry .txNext) d i then s
    else
      let sms := s.spanSms k + 1
      let epoch := if s.get (.cry .txSms) d i = sms then s.get (.cry .txLast) d i else 0
      let s1 := (((((s.set (.cry .txSms) d i sms).set (.cry .txLast) d i (epoch + 1)).set (.cry .txNextEpoch) d i
        epoch).set (.cry .txNextSms) d i sms).set (.cry .txNext) d i (if d = 0 then 2 else 1)).set (.cry .txRetry) d i 0
      ((s1.set (.cry .flitFailed) d (2 * i) 0).when (decide (s.get (.cry .txState) d i = cryActive)) (fun s =>
        s.txSet d i cryRekeying)).kchSend k 0x10

/-- The older span secret is erased when no installed key derives from it (R326). -/
def State.oldSms (s : State) (k : Nat) : State :=
  let cur := s.spanSms k + 1
  s.setB (.sbg .spOld) 0 k (s.flag (.sbg .spOld) 0 k && (s.spanCtns k).any (fun x =>
    decide (s.get (.cry .txKeySms) x.1 x.2 ≠ 0) && decide (s.get (.cry .txKeySms) x.1 x.2 ≠ cur)))

/-- The sealer moves to the new key (R329 step 4). -/
def State.txSwitch (s : State) (d i k : Nat) : State :=
  let s1 := ((((s.set (.cry .txEpoch) d i (s.get (.cry .txNextEpoch) d i)).set (.cry .txKeySms) d i
    (s.get (.cry .txNextSms) d i)).set (.cry .txNext) d i 0).set (.cry .txFrames) d i 0).inc (.cry .nRekey) d i
  ((s1.txSet d i (if s.get (.cry .frameCtr) d i = 2 ^ 64 - 1 then cryHold else cryActive)).lateFollow d i).oldSms k

-- KEY_AGREE (R325).

/-- The result codes of R325. -/
def kaTimeout : Nat := 1
def kaNotTrusted : Nat := 2
def kaSignature : Nat := 3
def kaMac : Nat := 4
def kaEntropy : Nat := 5
def kaNoChannel : Nat := 6
def kaMismatch : Nat := 7
def kaProtocol : Nat := 8

/-- KEY_AGREE runs for span `k`. -/
def State.kaRuns (s : State) (k : Nat) : Bool := s.called 8 && decide (s.get (.sbg .kaSpan) 0 0 = k + 1)

/-- TOLERATE of KEY_AGREE. -/
def State.kaTolerate (s : State) : Bool := bit (s.procArg 8 2) 0

/-- KEY_AGREE fails; with TOLERATE it returns success and the span retries every 10 s. -/
def State.kaFail (s : State) (k code : Nat) : State :=
  if s.kaRuns k then
    ((s.set (.sbg .kaSpan) 0 0 0).procEnd 8 s.kaTolerate (if s.kaTolerate then 0 else code)).when
      (s.kaTolerate && !s.flag (.sbg .spHas) 0 k) (fun s => s.set (.sbg .spRetry) 0 k 1)
  else s

/-- KEY_AGREE succeeds when every encrypted container on its mask is ACTIVE in both directions. -/
def State.kaCheck (s : State) (k : Nat) : State :=
  if s.kaRuns k && s.flag (.sbg .spHas) 0 k && decide (s.get (.sbg .spStep) 0 k = 0) &&
      (s.spanCtns k).all (fun x => decide (s.get (.cry .txState) x.1 x.2 = cryActive) &&
        decide (s.get (.cry .rxState) x.1 x.2 = cryActive)) then
    (s.set (.sbg .kaSpan) 0 0 0).procEnd 8 true 0
  else s

-- The handshake (R323).

/-- STATE of a span while a handshake runs or after it failed: a secret in force stays in force (R326). -/
def State.spanShow (s : State) (k v : Nat) : State := (s.spanPut k 29 3 v).spansFollow

/-- A handshake fails: LAST_ERR, the counter, and what KEY_AGREE and the retries make of it. -/
def State.hsFail (s : State) (k code : Nat) : State :=
  let s1 := ((s.spanPut k 24 4 code).set (.sbg .spStep) 0 k 0).inc (.sbg .nHsFail) 0 0
  let s2 := s1.spanShow k (if s.flag (.sbg .spHas) 0 k then spanEstablished else spanFailed)
  (s2.when (s.flag (.sbg .spHas) 0 k) (fun s => s.set (.sbg .spRetry) 0 k 1)).kaFail k code

/-- A handshake begins: the initiator draws its nonce and ephemeral keys and sends HELLO; the responder waits for it. -/
def State.hsStart (s : State) (k : Nat) : State :=
  if s.initiates k then
    if s.flag (.sbg .rngOk) 0 0 then
      (((((s.drbg true).drbg true).drbg true).set (.sbg .spStep) 0 k 1).spanShow k spanHandshake).kchSend k 0x01
    else s.hsFail k kaEntropy
  else (s.set (.sbg .spStep) 0 k 4).spanShow k spanHandshake

/-- The trust entry of a node (R320): present and VALID, and REVOKED. -/
def State.trustOf (s : State) (node : Nat) : Option Nat := s.trust.find? (fun e => decide (e % 4096 = node))
def State.trusted (s : State) (node : Nat) : Bool :=
  match s.trustOf node with
  | some e => bit e 12 && !bit e 13
  | none => false
def State.revoked (s : State) (node : Nat) : Bool :=
  match s.trustOf node with
  | some e => bit e 13
  | none => false

/-- The first check of R323 that a peer fails, as a result code; 0: accepted. -/
def State.peerCode (s : State) (k : Nat) (p : KchPeer) : Nat :=
  if !p.formOk then kaProtocol
  else if !p.hashOk || !s.trusted p.node then kaNotTrusted
  else if !p.sigOk then kaSignature
  else if !p.macOk then kaMac
  else if p.node ≠ s.spanPartner k then kaMismatch
  else 0

/-- A peer is refused: PEER_AUTH_FAIL, TRUST_REVOKED_PEER where its entry is revoked, ABORT. -/
def State.peerFail (s : State) (k code node : Nat) : State :=
  (((s.when (decide (code ≠ kaProtocol)) (fun s => s.event .sbgPeerAuthFail 0 0)).when
    (decide (code = kaNotTrusted) && s.revoked node) (fun s => s.event .sbgTrustRevokedPeer 0 0)).kchSend k 0x20).hsFail k code

/-- The handshake succeeds: a new span secret (R326). -/
def State.hsDone (s : State) (k : Nat) : State :=
  let had := s.flag (.sbg .spHas) 0 k
  let again := s.flag (.sbg .spRekey) 0 k || s.kaRuns k
  let s1 := (((((s.setWin .sbgSpan 0 k 1 ((s.spanSms k + 1) % 256)).setWin .sbgSpan 0 k 2
    (s.get (.tim .tbSec) 0 0 % 2 ^ 32)).spanPut k 24 4 0).set (.sbg .spHas) 0 k 1).setB (.sbg .spOld) 0 k had).set
    (.sbg .spStep) 0 k 0
  let s2 := ((((s1.set (.sbg .spSeqRx) 0 k 0).set (.sbg .spSeqTx) 0 k 0).set (.sbg .spRetry) 0 k 0).set (.sbg .spRekey) 0 k
    0).inc (.sbg .nHsOk) 0 0
  let s3 := s2.spanShow k spanEstablished
  (s3.each ((s3.spanCtns k).filter (fun x => again || decide (s3.get (.cry .txState) x.1 x.2 = cryNokey))) (fun s x =>
    s.rekeyStart x.1 x.2)).kaCheck k

-- Messages (R321, R322).

/-- A rebuilt message of a TYPE and SEQ from SENDER stands on a carrier: it is taken. -/
def State.kchTake (s : State) (h : KchHead) (type : Nat) : Option State :=
  (takeFirst (fun m : KchMsg => decide (m.on = h.on) && decide (m.type = type) && decide (m.sender = h.sender) &&
    decide (m.seq = h.seq) && decide (m.got + 1 = 2 ^ m.count)) s.kch).map (fun x => { s with kch := x.2 })

/-- A message is discarded (R321). -/
def State.kchDisc (s : State) : State := s.inc (.sbg .nKchDisc) 0 0

/-- What becomes of a rebuilt message: the checks of R321, then its meaning for span `k`.  SEQ is held against the last one
accepted for the types that carry a TAG; a copy of an accepted message is ignored. -/
def State.kchRecv (s : State) (h : KchHead) (type : Nat) (f : Nat → State → State) : State :=
  match s.kchTake h type with
  | none => s
  | some s1 =>
    match s1.spanOn h.on with
    | none => s1.kchDisc
    | some k =>
      if h.sender ≠ s1.spanPartner k then s1.kchDisc
      else if 0x10 ≤ type ∧ ¬ h.tagOk then (s1.kchDisc).event .sbgKchTagFail 0 0
      else if 0x10 ≤ type ∧ h.seq = s1.get (.sbg .spSeqRx) 0 k then s1
      else if 0x10 ≤ type ∧ h.seq < s1.get (.sbg .spSeqRx) 0 k then s1.kchDisc
      else f k (s1.when (decide (0x10 ≤ type)) (fun s => s.set (.sbg .spSeqRx) 0 k h.seq))

/-- The key channel of a carrier works: the framer is in frame (R164). -/
def State.kchUp (s : State) (d : Nat) : Bool := s.up d && s.flag (.ct .framerEn) d 0 && s.flag (.ct .inFrame) d 0

/-- KCH_FRAGMENT_RX (R321): fragment `idx` of `count`. -/
def execKchFragmentRx (h : KchHead) (type idx count : Nat) (s : State) : Result :=
  finishIf (s.kchUp h.on && decide (idx < count)) s fun s =>
    if s.kch.any (fun m => decide (m.on = h.on) && decide (m.type = type) && decide (m.sender = h.sender) && decide (m.seq = h.seq)) then
      { s with kch := s.kch.map (fun m => if m.on = h.on ∧ m.type = type ∧ m.sender = h.sender ∧ m.seq = h.seq then
        { m with got := putBit m.got idx true } else m) }
    else { s with kch := s.kch ++ [⟨h.on, type, h.sender, h.seq, count, 2 ^ idx⟩] }

/-- KCH_REASSEMBLY_TIMEOUT (R321): a fragment is missing 50 ms after the first. -/
def execKchReassemblyTimeout (on type sender seq : Nat) (s : State) : Result :=
  finishIf (s.up on) s fun s =>
    match takeFirst (fun m : KchMsg => decide (m.on = on) && decide (m.type = type) && decide (m.sender = sender) &&
        decide (m.seq = seq) && decide (m.got + 1 ≠ 2 ^ m.count)) s.kch with
    | some (_, rest) => State.kchDisc { s with kch := rest }
    | none => s

/-- KCH_HELLO_RX (R323): the responder answers a repeated HELLO with its stored REPLY; a fresh one discards any handshake in
progress on the span. -/
def execKchHelloRx (h : KchHead) (fresh formOk : Bool) (s : State) : Result :=
  finishIf (s.kchUp h.on) s fun s => s.kchRecv h 0x01 fun k s =>
    if s.initiates k then s
    else if !fresh && decide (s.get (.sbg .spStep) 0 k = 2) then s.kchAgain k
    else if !formOk then (s.kchSend k 0x20).hsFail k kaProtocol
    else if !s.flag (.sbg .rngOk) 0 0 then (s.kchSend k 0x20).hsFail k kaEntropy
    else ((((s.drbg true).drbg true).set (.sbg .spStep) 0 k 2).spanShow k spanHandshake).kchSend k 0x02

/-- KCH_REPLY_RX (R323): the initiator checks it and sends AUTH. -/
def execKchReplyRx (h : KchHead) (p : KchPeer) (s : State) : Result :=
  finishIf (s.kchUp h.on) s fun s => s.kchRecv h 0x02 fun k s =>
    if s.get (.sbg .spStep) 0 k = 1 then
      let code := s.peerCode k { p with macOk := true }
      if code = 0 then (s.set (.sbg .spStep) 0 k 3).kchSend k 0x03 else s.peerFail k code p.node
    else s

/-- KCH_AUTH_RX (R323): the responder checks it, derives the span secret and sends CONFIRM. -/
def execKchAuthRx (h : KchHead) (p : KchPeer) (s : State) : Result :=
  finishIf (s.kchUp h.on) s fun s => s.kchRecv h 0x03 fun k s =>
    if s.get (.sbg .spStep) 0 k = 2 then
      let code := s.peerCode k p
      if code = 0 then (s.kchSend k 0x04).hsDone k else s.peerFail k code p.node
    else s

/-- KCH_CONFIRM_RX (R323): the initiator checks its MAC and installs the span secret. -/
def execKchConfirmRx (h : KchHead) (macOk : Bool) (s : State) : Result :=
  finishIf (s.kchUp h.on) s fun s => s.kchRecv h 0x04 fun k s =>
    if s.get (.sbg .spStep) 0 k = 3 then
      if macOk then s.hsDone k else s.peerFail k kaMac (s.spanPartner k)
    else s

/-- KCH_ABORT_RX (R323, R325). -/
def execKchAbortRx (h : KchHead) (s : State) : Result :=
  finishIf (s.kchUp h.on) s fun s => s.kchRecv h 0x20 fun k s =>
    if s.get (.sbg .spStep) 0 k = 0 then s else s.hsFail k kaProtocol

/-- Why a KEY_NEXT entry is refused (R322); 0: it is not. -/
def State.nextReason (s : State) (k sms : Nat) (e : KeyEntry) : Nat :=
  let d := e.ctn / 512
  let i := e.ctn % 512
  if !s.present d || decide (s.ctnMode d i = 0) then 1
  else if !s.encOn d i then 2
  else if !s.flag (.sbg .spHas) 0 k || decide (sms ≠ s.spanSms k) then 4
  else if s.get (.cry .rxSms) d i = sms + 1 ∧ e.epoch < s.get (.cry .rxLast) d i then 3
  else 0

/-- The partner's next key goes into the NEXT receive slot (R329 step 3). -/
def State.rxInstall (s : State) (d i : Nat) : State :=
  (s.set (.cry .rxNext) d i 2).set (.cry .rxState) d i cryNextReady
def State.rxNextKey (s : State) (sms : Nat) (e : KeyEntry) : State :=
  let d := e.ctn / 512
  let i := e.ctn % 512
  let s1 := ((((s.set (.cry .rxSms) d i (sms + 1)).set (.cry .rxLast) d i (e.epoch + 1)).set (.cry .rxNextEpoch) d i
    e.epoch).set (.cry .rxNext) d i 1).set (.cry .flitFailed) d (2 * i + 1) 0
  if d = 0 then s1.rxInstall d i else s1

/-- KCH_KEY_NEXT_RX (R322, R329): the entries installed are answered with KEY_READY, the others with KEY_REFUSE. -/
def execKchKeyNextRx (h : KchHead) (sms : Nat) (entries : List KeyEntry) (s : State) : Result :=
  finishIf (s.kchUp h.on) s fun s => s.kchRecv h 0x10 fun k s =>
    let good := entries.filter (fun e => decide (s.nextReason k sms e = 0))
    let s1 := s.each good fun s e => s.rxNextKey sms e
    let s2 := if good = [] then s1 else s1.kchSend k 0x11
    if good.length = entries.length then s2 else s2.kchSend k 0x12

/-- KCH_KEY_READY_RX (R329 step 4). -/
def execKchKeyReadyRx (h : KchHead) (entries : List KeyEntry) (s : State) : Result :=
  finishIf (s.kchUp h.on) s fun s => s.kchRecv h 0x11 fun k s =>
    (s.each entries fun s e =>
      let d := e.ctn / 512
      let i := e.ctn % 512
      if s.get (.cry .txNext) d i = 2 ∧ s.get (.cry .txNextEpoch) d i = e.epoch ∧ d < 8 then s.txSwitch d i k else s).kaCheck k

/-- KCH_KEY_REFUSE_RX (R329): the container stays on its key, REKEY_LATE is set, and the rekey is retried after 1 s. -/
def execKchKeyRefuseRx (h : KchHead) (entries : List KeyEntry) (s : State) : Result :=
  finishIf (s.kchUp h.on) s fun s => s.kchRecv h 0x12 fun _ s =>
    s.each entries fun s e =>
      let d := e.ctn / 512
      let i := e.ctn % 512
      if s.get (.cry .txNext) d i ≠ 0 ∧ s.get (.cry .txNextEpoch) d i = e.epoch ∧ d < 8 then
        ((((s.set (.cry .txNext) d i 0).set (.cry .txRetry) d i 1).when (decide (s.get (.cry .txState) d i = cryRekeying))
          (fun s => s.txSet d i cryActive)).event .cryRekeyLate d i)
      else s

-- Timers.

/-- KCH_RESEND_TIMER (R323): every 50 ms the last message is sent again until it is answered. -/
def execKchResendTimer (k : Nat) (s : State) : Result :=
  finishIf (decide (1 ≤ s.get (.sbg .spStep) 0 k) && decide (s.get (.sbg .spStep) 0 k ≤ 3)) s fun s => s.kchAgain k

/-- KEY_NEXT_RESEND (R329): every 10 ms until it is answered. -/
def execKeyNextResend (d i : Nat) (s : State) : Result :=
  finishIf (s.flag (.cry .txNext) d i) s fun s =>
    match s.spanOf (512 * d + i) with
    | some k => s.kchAgain k
    | none => s

/-- REKEY_RETRY_TIMER (R329): 1 s after KEY_REFUSE. -/
def execRekeyRetryTimer (d i : Nat) (s : State) : Result :=
  finishIf (s.flag (.cry .txRetry) d i && s.encOn d i) s fun s => s.rekeyStart d i

/-- REKEY_TIMER (R329): REKEY_S seconds under one key. -/
def execRekeyTimer (d i : Nat) (s : State) : Result :=
  finishIf (s.encOn d i && decide (s.get (.cry .txState) d i = cryActive)) s fun s => s.rekeyStart d i

/-- HANDSHAKE_RETRY_TIMER (R325, R326): every 10 s. -/
def execHandshakeRetryTimer (k : Nat) (s : State) : Result :=
  finishIf (s.flag (.sbg .spRetry) 0 k && decide (s.get (.sbg .spStep) 0 k = 0)) s fun s => s.hsStart k

/-- SPAN_REKEY_TIMER (R326): SPAN_REKEY_H hours after the last success. -/
def execSpanRekeyTimer (k : Nat) (s : State) : Result :=
  finishIf (s.flag (.sbg .spHas) 0 k && decide (s.get (.sbg .spStep) 0 k = 0)) s fun s => s.hsStart k

/-- The partner that KEY_AGREE names, or that Bell discovery found on the lowest carrier of its mask (R325). -/
def State.kaPartner (s : State) : Nat :=
  let p := s.procArg 8 1 % 4096
  if p = 0xFFF then s.get (.bell .partner) ((maskBits 8 (s.procArg 8 0)).headD 0) 0 else p

/-- The SBG_SPAN entry for a partner: its own, or the first that is free. -/
def State.spanEntry (s : State) (partner : Nat) : Option Nat :=
  ((List.range 8).find? (fun k => decide (s.spanState k ≠ spanNone) && decide (s.spanPartner k = partner))).orElse fun _ =>
    (List.range 8).find? (fun k => decide (s.spanState k = spanNone))

/-- A carrier of a span is in frame. -/
def State.spanInFrame (s : State) (k : Nat) : Bool :=
  (maskBits 8 (s.spanCarriers k)).any (fun d => s.kchUp d)

/-- KEY_AGREE takes its span and starts the handshake once a carrier of the mask is in frame (R325). -/
def State.keyAgree (s : State) : State :=
  let p := s.kaPartner
  match s.spanEntry p with
  | none => s
  | some k =>
    let s1 := ((s.spanPut k 16 8 (s.procArg 8 0)).spanPut k 0 12 p).set (.sbg .kaSpan) 0 0 (k + 1)
    if s1.spanInFrame k && decide (s1.get (.sbg .spStep) 0 k = 0) then s1.hsStart k else s1.spanShow k
      (if s1.spanState k = spanNone then spanHandshake else s1.spanState k)

/-- KEY_AGREE (R325). -/
def execKeyAgree (s : State) : Result := finishIf (s.called 8) s fun s => s.keyAgree

/-- KEY_AGREE_TIMEOUT (R325): NO_CHANNEL if no carrier of the mask came in frame. -/
def execKeyAgreeTimeout (s : State) : Result :=
  finishIf (s.called 8 && decide (s.get (.sbg .kaSpan) 0 0 ≠ 0)) s fun s =>
    let k := s.get (.sbg .kaSpan) 0 0 - 1
    if s.get (.sbg .spStep) 0 k = 0 ∧ ¬ s.flag (.sbg .spHas) 0 k then
      ((s.spanPut k 24 4 kaNoChannel).spanShow k spanFailed).kaFail k kaNoChannel
    else if s.get (.sbg .spStep) 0 k = 0 then s.kaFail k kaTimeout
    else s.hsFail k kaTimeout

-- Key flits (R319).

/-- The lead die agrees a new wrap key with a member die: a fresh nonce, unless the DRBG refuses. -/
def State.wrapNonce (s : State) (d : Nat) : State :=
  if s.flag (.sbg .rngOk) 0 0 then (((s.drbg true).set (.sbg .kwOk) 0 d 1).set (.sbg .wrapCtr) 0 d 0)
  else s.set (.sbg .kwOk) 0 d 0

/-- WRAP_NONCE_RETRY (R319): every 10 s while the DRBG refused the nonce. -/
def execWrapNonceRetry (d : Nat) (s : State) : Result :=
  finishIf (s.up d && decide (d ≠ 0) && !s.flag (.sbg .kwOk) 0 d) s fun s => s.wrapNonce d

/-- A key flit for a slot is on its way. -/
def State.flitWaits (s : State) (d : Nat) : KeySlot → Bool
  | .xts => s.flag (.sbg .xtsPend) 0 d
  | .tx i => decide (s.get (.cry .txNext) d i = 1) || s.flag (.cry .restore) d (2 * i)
  | .rx i => decide (s.get (.cry .rxNext) d i = 1) || s.flag (.cry .restore) d (2 * i + 1)

/-- The first failure of a key's delivery; a key that fails twice. -/
def State.flitFailed (s : State) (d : Nat) : KeySlot → Bool
  | .xts => s.flag (.sbg .xtsRetry) 0 d
  | .tx i => s.flag (.cry .flitFailed) d (2 * i)
  | .rx i => s.flag (.cry .flitFailed) d (2 * i + 1)
def State.flitFailSet (s : State) (d : Nat) : KeySlot → State
  | .xts => s.set (.sbg .xtsRetry) 0 d 1
  | .tx i => s.set (.cry .flitFailed) d (2 * i) 1
  | .rx i => s.set (.cry .flitFailed) d (2 * i + 1) 1
def State.flitLost (s : State) (d : Nat) : KeySlot → State
  | .xts => s.set (.sbg .xtsPend) 0 d 0
  | .tx i => ((s.set (.cry .txNext) d i 0).set (.cry .restore) d (2 * i) 0).when
      (decide (s.get (.cry .txState) d i = cryRekeying)) (fun s => s.txSet d i cryActive)
  | .rx i => (s.set (.cry .rxNext) d i 0).set (.cry .restore) d (2 * i + 1) 0

/-- A key that a wake sends again is in force at once (R434). -/
def State.txRestore (s : State) (d i : Nat) : State :=
  (s.set (.cry .restore) d (2 * i) 0).txSet d i (if s.get (.cry .frameCtr) d i = 2 ^ 64 - 1 then cryHold else cryActive)
def State.rxRestore (s : State) (d i : Nat) : State :=
  ((s.set (.cry .restore) d (2 * i + 1) 0).set (.cry .rxHas) d i 1).set (.cry .rxState) d i cryActive

/-- A key arrives. -/
def State.flitIn (s : State) (d : Nat) : KeySlot → State
  | .xts => ((s.set (.sbg .xtsPend) 0 d 0).set (.sbg .xtsRetry) 0 d 0).set (.pan .xtsReady) d 0 1
  | .tx i => if s.flag (.cry .restore) d (2 * i) then s.txRestore d i else s.set (.cry .txNext) d i 2
  | .rx i => if s.flag (.cry .restore) d (2 * i + 1) then s.rxRestore d i else s.rxInstall d i

/-- KEY_FLIT_RX (R319): a flit whose wrap counter does not rise or whose tag fails is rejected; the key is sent once more,
and a second failure is its delivery failure. -/
def execKeyFlitRx (d : Nat) (slot : KeySlot) (ctr : Nat) (tagOk : Bool) (s : State) : Result :=
  finishIf (s.up d && decide (d ≠ 0) && s.flag (.sbg .kwOk) 0 d && s.flitWaits d slot) s fun s =>
    if tagOk && decide (s.get (.sbg .wrapCtr) 0 d < ctr) then (s.set (.sbg .wrapCtr) 0 d ctr).flitIn d slot
    else
      let s1 := (s.inc (.sbg .nWrapFail) 0 0).event .sbgWrapFail 0 0
      if s1.flitFailed d slot then s1.flitLost d slot else s1.flitFailSet d slot

-- Entropy (R341).

/-- ENTROPY_HEALTH_FAIL (R341). -/
def execEntropyHealthFail (s : State) : Result :=
  finishIf (s.released 0) s fun s =>
    ((s.set (.sbg .rngOk) 0 0 0).inc (.sbg .nHealthFail) 0 0).raise .sbgEntropyFail 0 0

/-- ENTROPY_RETEST (R341): every 10 s while the source is stopped. -/
def execEntropyRetest (pass : Bool) (s : State) : Result :=
  finishIf (s.released 0 && !s.flag (.sbg .rngOk) 0 0) s fun s =>
    if pass then (s.set (.sbg .rngOk) 0 0 1).lower .sbgEntropyFail 0 0 else s

end Sys2Proof.Machine
end

