-- ==== Sys2Proof/Machine/Seal.lean ====
section
/-!
DEFINITION. Sealing and verifying container frames, CRYPTO_HOLD, Drafting release and the frames that leave toward the host
(R327 to R337, R395, R396), and the changes of ENC_EN and of the CRY_CTX entries.
-/
namespace Sys2Proof.Machine

/-- SAFE of a container (R336). -/
def State.safe (s : State) (d i : Nat) : Bool := bit (s.winWordAt .cryCtx d i 0) 1

/-- DRAFT_LAT of a container in ns (R335, R336): T_cf / 15,296 is 1.6 / k ns. -/
def draftLat (k : Nat) (safe : Bool) : Nat :=
  if k = 0 then 0 else ((if safe then 367216 else 122480) + 10 * k - 1) / (10 * k) + 40

/-- A container's keys, counters and states when ENC_EN rises at a container add, or falls (R328, R329, R331). -/
def State.encChange (s : State) (d i : Nat) : State :=
  if s.encOn d i then
    if s.get (.cry .txState) d i = cryOff then
      let s1 := ((((s.set (.cry .frameCtr) d i 0).set (.cry .txFrames) d i 0).set (.cry .highest) d i 0).set (.cry .highest) d
        (512 + i) 0).set (.cry .rxState) d i cryNokey
      (s1.txSet d i cryNokey).rekeyStart d i
    else s
  else
    let s1 := (((s.set (.cry .txKeySms) d i 0).set (.cry .txNext) d i 0).set (.cry .txRetry) d i 0).set (.cry .rxNext) d i 0
    let s2 := ((s1.set (.cry .rxHas) d i 0).set (.cry .rxOld) d i 0).set (.cry .rxState) d i cryOff
    ((s2.txSet d i cryOff).lower .cryRekeyLate d i).lower .crySealFail d i

/-- The committed words of container `i`'s CRY_CTX entry take effect; BUSY clears when no entry waits. -/
def State.cryApply (s : State) (d i : Nat) : State :=
  let l := ((s.listed (.winDirty .cryCtx) d).map Prod.fst).filter (fun x => decide (winHold ≤ x) && decide ((x - winHold) / 16 = i))
  if l = [] then s
  else
    let s1 := s.each l fun s x => (s.landWin .cryCtx d (x - winHold) (s.get (.winNew .cryCtx) d x)).set (.winDirty .cryCtx) d x 0
    let left := ((s1.listed (.winDirty .cryCtx) d).map Prod.fst).filter (fun x => decide (winHold ≤ x))
    (s1.setB (.sys .winBusy) d Win.cryCtx.ctorIdx (decide (left ≠ []))).encChange d i

/-- CRYPTO_HOLD (R328). -/
def State.cryEnterHold (s : State) (d i : Nat) : State := s.txSet d i cryHold

/-- One frame is sealed; TX_FRAMES may start a rekey or end in CRYPTO_HOLD (R328, R329). -/
def State.sealFrame (s : State) (d i : Nat) : State :=
  let n := s.get (.cry .txFrames) d i + 1
  let s1 := (((s.set (.cry .frameCtr) d i (s.get (.cry .frameCtr) d i + 1)).set (.cry .txFrames) d i n).inc (.cry .nSealed) d
    i).lateFollow d i
  let s2 := s1.when (decide (2 ^ s.get (.cry .rekeyLog2) d 0 ≤ n) && !s.rekeying d i) (fun s => s.rekeyStart d i)
  if n = 2 ^ 32 then s2.cryEnterHold d i else s2

/-- CONTAINER_FRAME_SEAL (R327, R328): in NOKEY and CRYPTO_HOLD the frame goes as ODU-AIS and is counted. -/
def execContainerFrameSeal (d i : Nat) (s : State) : Result :=
  finishIf (s.up d && (decide (s.ctnMode d i = 1) || decide (s.ctnMode d i = 2))) s fun s =>
    let s1 := s.cryApply d i
    if !s1.encOn d i then s1
    else if s1.get (.cry .txState) d i = cryNokey ∨ s1.get (.cry .txState) d i = cryHold then s1.inc (.cry .nHoldFrames) d i
    else if s1.get (.cry .frameCtr) d i = 2 ^ 64 - 1 then (s1.cryEnterHold d i).inc (.cry .nHoldFrames) d i
    else s1.sealFrame d i

-- Verdicts (R331).

/-- Which key matches the epoch byte of KEY_ID: 1 current or the old one not yet erased, 2 NEXT, 0 none. -/
def State.keyFor (s : State) (d i kid : Nat) : Nat :=
  if s.get (.cry .rxNext) d i = 2 ∧ s.get (.cry .rxNextEpoch) d i % 256 = kid then 2
  else if s.flag (.cry .rxHas) d i ∧ s.get (.cry .rxEpoch) d i % 256 = kid then 1
  else if s.flag (.cry .rxOld) d i ∧ s.get (.cry .rxOldEpoch) d i % 256 = kid then 1
  else 0

/-- The first frame that verifies under the new epoch promotes NEXT (R329 step 5); a Tandem container keeps the old key
until both paths have verified under the new one. -/
def State.promote (s : State) (d i path : Nat) : State :=
  let old := s.flag (.cry .rxHas) d i && s.tandemEn d i
  (((((((s.setB (.cry .rxOld) d i old).set (.cry .rxOldEpoch) d i (s.get (.cry .rxEpoch) d i)).set (.cry .rxEpoch) d i
    (s.get (.cry .rxNextEpoch) d i)).set (.cry .rxHas) d i 1).set (.cry .rxNext) d i 0).set (.cry .rxSeen) d i
    (2 ^ path)).set (.cry .rxState) d i cryActive)

/-- A verified frame under the current epoch; with both paths seen the old key is erased. -/
def State.seenOn (s : State) (d i path kid : Nat) : State :=
  if s.get (.cry .rxEpoch) d i % 256 = kid then
    let m := putBit (s.get (.cry .rxSeen) d i) path true
    let s1 := s.set (.cry .rxSeen) d i m
    if m = 3 then s1.set (.cry .rxOld) d i 0 else s1
  else s

/-- The delivered path of a container. -/
def State.deliveredPath (s : State) (d i : Nat) : Nat := if s.tandemEn d i then s.get (.tdm .sel) d i else 0

/-- SEAL_FAIL_RUN: the last 8 verdicts on the delivered path have all failed (CRY_CTX word 2). -/
def State.runFollow (s : State) (d i : Nat) : State :=
  s.cond .crySealFail d i (decide (8 ≤ s.get (.cry .failRun) d (512 * s.deliveredPath d i + i)))

/-- A verdict passes. -/
def State.sealPass (s : State) (d i : Nat) (f : SealCopy) : State :=
  let path := f.protect.toNat
  let s1 := (((s.incIf (!f.protect) (.cry .nVerified) d i).set (.cry .highest) d (512 * path + i) f.ctr).set (.cry .failRun) d
    (512 * path + i) 0)
  let s2 := if s1.keyFor d i f.kid = 2 then s1.promote d i path else s1.seenOn d i path f.kid
  let s3 := s2.runFollow d i
  match s3.spanOf (512 * d + i) with
  | some k => s3.kaCheck k
  | none => s3

/-- What Drafting release does about a failed verdict (R334, R336, R337). -/
def State.draftFail (s : State) (d i : Nat) (f : SealCopy) : State :=
  let delivered := decide (f.protect.toNat = s.deliveredPath d i)
  if !delivered then s
  else if s.tandemEn d i && f.otherOk then
    (s.add (.cry .nDraftErrblk) d i (if s.safe d i then 0 else f.started)).inc (.tdm .nSubst) d i
  else if s.safe d i then s.add (.cry .nDraftDisc) d i (f.started + f.unsent)
  else (s.add (.cry .nDraftErrblk) d i f.started).add (.cry .nDraftDisc) d i f.unsent

/-- A verdict fails for a cause: 1 KEY_UNKNOWN, 2 REPLAY, 3 TAG_MISSING, 4 a wrong tag. -/
def State.sealFail (s : State) (d i : Nat) (f : SealCopy) (cause : Nat) : State :=
  let k := 512 * f.protect.toNat + i
  let s1 := match cause with
    | 1 => s.event .cryKeyUnknown d i
    | 2 => (s.inc (.cry .nReplay) d i).event .cryReplay d i
    | 3 => s.inc (.cry .nTagMissing) d i
    | _ => s
  let s2 := ((s1.inc (if f.protect then .cry .nPSealFail else .cry .nSealFail) d i).event .crySealFail d i).set
    (.cry .failRun) d k (min 8 (s.get (.cry .failRun) d k + 1))
  let s3 := s2.runFollow d i
  (s3.when (s.tandemEn d i && !f.protect && f.otherOk) (fun s => s.set (.tdm .seal) d i 1)).draftFail d i f

/-- SEAL_VERDICT (R331): key, counter, tag, in this order. -/
def execSealVerdict (d i : Nat) (f : SealCopy) (s : State) : Result :=
  finishIf (s.up d && s.encOn d i && (!f.protect || s.tandemEn d i)) s fun s =>
    if s.keyFor d i f.kid = 0 then s.sealFail d i f 1
    else if f.ctr ≤ s.get (.cry .highest) d (512 * f.protect.toNat + i) then s.sealFail d i f 2
    else if !f.tagHere then s.sealFail d i f 3
    else if f.tagOk then s.sealPass d i f
    else s.sealFail d i f 4

/-- RX_OLD_KEY_ERASE (R329): DIFF_MAX_US + 1 ms after the first verification under a new epoch. -/
def execRxOldKeyErase (d i : Nat) (s : State) : Result :=
  finishIf (s.flag (.cry .rxOld) d i) s fun s => s.set (.cry .rxOld) d i 0

-- Frames toward the host (R333, R334, R336, R395, R396).

/-- A frame's time at the port's MAC rate in ns, rounded up: counted length × 8 / speed. -/
def portTime (len gbps : Nat) : Nat := ((len + 20) * 8 + gbps - 1) / gbps

/-- The frame may start now (R333, R336): not before its due time less its time at the port, in safe mode not before its due
time, and after every frame with an earlier due time. -/
def State.mayStart (s : State) (d p : Nat) (f : EgressFrame) : Bool :=
  let now := s.get (.sys .time) 0 0
  let lead := if s.safe f.home f.ctn then 0 else portTime f.len (portSpeed (s.get (.hl .speed) d p))
  !f.earlier && (!s.encOn f.home f.ctn || decide (f.due ≤ now + lead))

/-- The residence time of a marked message in 1/256 ns: (t_out − t_in) mod 10⁹ ns; a MARK holds half nanoseconds. -/
def residence (tOut mark : Nat) : Nat :=
  let tIn := bits mark 0 30 * 256 + (bits mark 30 1) * 128
  let m := 1000000000 * 256
  (tOut % m + m - tIn % m) % m

/-- The 64-entry table of a port: an older entry gives way when it is full. -/
def State.fupStore (s : State) (e : FupEnt) : State :=
  let mine := s.fups.filter (fun x => decide (x.die = e.die) && decide (x.port = e.port))
  let l := if 64 ≤ mine.length then
      match takeFirst (fun x : FupEnt => decide (x.die = e.die) && decide (x.port = e.port)) s.fups with
      | some (_, r) => r
      | none => s.fups
    else s.fups
  { s with fups := l ++ [e] }

/-- TS_TB is LOCKED (R386). -/
def State.tsLocked (s : State) : Bool := decide (s.get (.tim .tbState) 0 (s.get (.tim .tsTb) 0 0) = 2)

/-- The far end of the transparent clock (R395, R396). -/
def State.ptpFar (s : State) (d p : Nat) (f : EgressFrame) : State :=
  match f.ptp with
  | none => s
  | some m =>
    let now := s.get (.sys .time) 0 0
    let mode := s.get (.tim .tcMode) 0 0
    if mode = 0 then s
    else if (m.kind = 1 ∨ m.kind = 2) ∧ bit m.mark 31 then
      let rho := residence (f.rawTime + s.get (.hl .corrTx) d p) m.mark
      let s1 := s.when (!s.tsLocked) (fun s => (s.inc (.tim .nTcUnsync) 0 0).event .timTcUnsync 0 0)
      if mode = 2 ∧ m.kind = 1 ∧ m.twoStep then s1.fupStore ⟨d, p, m.key, rho, now⟩
      else (s1.inc (.tim .nTcCorr) 0 0).set (.tim .ptpCorr) d p (rho * 256)
    else if mode = 2 ∧ m.kind = 3 then
      match takeFirst (fun x : FupEnt => decide (x.die = d) && decide (x.port = p) && decide (x.key = m.key) &&
          decide (now ≤ x.time + 1000000000)) s.fups with
      | some (x, r) => State.set (State.inc { s with fups := r } (.tim .nTcCorr) 0 0) (.tim .ptpCorr) d p (x.rho * 256)
      | none => s.inc (.tim .nTcFupMiss) 0 0
    else s

/-- HOST_FRAME_START (R333, R336, R395). -/
def execHostFrameStart (d p : Nat) (f : EgressFrame) (s : State) : Result :=
  finishIf (s.up d && decide (s.get (.hl .mode) d p = 1) && decide (s.get (.hl .pState) d p = prtUp) && s.mayStart d p f &&
      (f.headIn || f.ptp = none)) s fun s =>
    ((s.inc (.hl .nTxFrames) d p).add (.hl .nTxBytes) d p f.len).ptpFar d p f

end Sys2Proof.Machine
end

