-- ==== Sys2Proof/Machine/Trace.lean ====
section
/-!
DEFINITION. Telemetry rings as the rest of the part feeds them, and trace tagging (R449 to R456).
-/
namespace Sys2Proof.Machine

/-- Low and high half of the TB0 stamp: nanoseconds, and the low 32 bits of the seconds. -/
def State.stampNs (s : State) : Nat := s.get (.tim .tbNs) 0 0
def State.stampSec (s : State) : Nat := s.get (.tim .tbSec) 0 0 % 2 ^ 32

/-- KIND of ring `t`. -/
def State.telKind (s : State) (t : Nat) : Nat := s.get (.tel .kind) 0 t

/-- Entries written and not yet consumed (R451). -/
def State.telOpen (s : State) (t : Nat) : Nat := (s.get (.tel .written) 0 t + 2 ^ 32 - s.get (.tel .db) 0 t) % 2 ^ 32

/-- Entries are lost: TEL_DROP, TEL_OVF (R451, R453). -/
def State.telLose (s : State) (t n : Nat) : State :=
  ((s.add (.tel .nDrop) 0 t n).set (.tel .dropped) 0 t (s.get (.tel .dropped) 0 t + n)).event .telOvf 0 0

/-- Write one entry, with the next SEQ. -/
def State.telWrite (s : State) (t type : Nat) (payload : List Nat) : State :=
  let n := s.get (.tel .written) 0 t
  { s.set (.tel .written) 0 t ((n + 1) % 2 ^ 32) with telOut := s.telOut ++ [⟨t, type, n + 1, payload⟩] }

/-- The path to host memory of ring `t` is open: the link, Bus Master Enable and Courier channel 5 + t (R449, R453). -/
def State.telLink (s : State) (t : Nat) : Bool :=
  s.flag (.sys .pcieUp) 0 0 && s.flag (.sys .busMaster) 0 0 && s.flag (.crr .chEn) 0 (5 + t)

/-- The signature entry over the entries of a descriptor (R453): its 12 tag words. -/
def telTag (version : Nat) (l : List (Nat × List Nat)) : List Nat :=
  (List.range 12).map (fun k => Config.mac (version :: l.flatMap (fun e => e.1 :: e.2)) k % 2 ^ 32)

/-- One Courier descriptor of at most 1,023 entries: entries are written while there is room, the newest are dropped, a gap
entry comes first after a drop, and with SIGN = 1 a signature entry ends it (R451, R453). -/
def State.telDesc (s : State) (t : Nat) (l : List (Nat × List Nat)) : State :=
  if !s.telLink t then s.telLose t l.length
  else
    let gap := s.get (.tel .dropped) 0 t
    let l1 := if gap = 0 then l else (7, [gap]) :: l
    let sign := s.flag (.tel .sign) 0 t
    let k := min l1.length (2 ^ s.get (.tel .sizeLog2) 0 t - s.telOpen t - sign.toNat)
    if k = 0 then s.telLose t l.length
    else
      let s1 := ((s.set (.tel .dropped) 0 t 0).each (l1.take k) fun s e => s.telWrite t e.1 e.2)
      let s2 := if sign then s1.telWrite t 8 (telTag (s.get (.boot .imageVersion) 0 0) (l1.take k)) else s1
      if k < l1.length then s2.telLose t (l1.length - k) else s2

/-- Several entries, in descriptors of at most 1,023 with the gap entry. -/
def State.telBatch (s : State) (t : Nat) : Nat → List (Nat × List Nat) → State
  | 0, _ => s
  | fuel + 1, l => if l = [] then s else (s.telDesc t (l.take 1022)).telBatch t fuel (l.drop 1022)

/-- Write one entry. -/
def State.telPush (s : State) (t type : Nat) (payload : List Nat) : State := s.telDesc t [(type, payload)]

/-- Every ring of a KIND receives an entry. -/
def State.telAll (s : State) (kind type : Nat) (payload : List Nat) : State :=
  s.each ((List.range 7).filter (fun t => decide (s.telKind t = kind))) fun s t => s.telPush t type payload

/-- Trace stages (R455). -/
def trcMacRx : Nat := 1
def trcClassified : Nat := 2
def trcEnqueued : Nat := 3
def trcDequeued : Nat := 4
def trcDropped : Nat := 31

/-- An item is tagged or not, with a TAG_ID: one in 2^TRC_K at random, from an LFSR whose sequence the spec leaves open
(free values, log 5). -/
def State.traceTag (s : State) (d : Nat) (enable : Bool) : State × Option Nat :=
  if s.flag (.trc .trcEn) d 0 && enable then
    let hit := decide (s.free % 2 ^ s.get (.trc .trcK) d 0 = 0)
    let s1 := s.used
    if hit then ((s1.inc (.trc .nTagged) d 0).used, some (s1.freeBits 16)) else (s1, none)
  else (s, none)

/-- A trace record at a stage (R455, R456): the buffer, unless it is full with TRC_MODE 1, and the rings of KIND 3. -/
def State.traceRec (s : State) (d tag stage loc data : Nat) (inj : Bool) : State :=
  let w := [tag * 65536 + stage * 256 + inj.toNat * 128 + d, s.stampNs, s.stampSec, loc, data, 0, 0, 0]
  let full := s.flag (.trc .trcMode) d 0 && decide (4096 ≤ s.get (.trc .count) d 0)
  let s1 :=
    if full then s.inc (.trc .nLost) d 0
    else
      let e := s.get (.trc .trcNext) d 0
      let s2 := s.each (List.range 8) fun s k => s.setWin .trcBuf d e k (w.getD k 0)
      let n := min 4096 (s.get (.trc .count) d 0 + 1)
      let s3 := (s2.set (.trc .trcNext) d 0 ((e + 1) % 4096)).set (.trc .count) d 0 n
      s3.cond .trcFull d 0 (s.flag (.trc .trcMode) d 0 && decide (n = 4096))
  s1.telAll 3 5 w

/-- A record for an item that may carry a tag. -/
def State.traceItem (s : State) (d : Nat) (tag : Option Nat) (stage loc data : Nat) : State :=
  match tag with
  | some t => s.traceRec d t stage loc data false
  | none => s

end Sys2Proof.Machine
end

