-- ==== Sys2Proof/Machine/Queues.lean ====
section
/-!
DEFINITION. Packets from the host: classification, policing, staging, queue rings, admission, cut-through, watermarks and
the ends of drains (R230, R240 to R257, R268, R395).
-/
namespace Sys2Proof.Machine

-- The fields of the QS_ windows (registers of chapter 09).

/-- QS_Q. -/
def State.qEn (s : State) (d q : Nat) : Bool := bit (s.winWordAt .qsQ d q 0) 31
def State.ringLog2 (s : State) (d q : Nat) : Nat := bits (s.winWordAt .qsQ d q 0) 26 5
def State.ctEn (s : State) (d q : Nat) : Bool := bit (s.winWordAt .qsQ d q 0) 25
def State.excessOk (s : State) (d q : Nat) : Bool := bit (s.winWordAt .qsQ d q 0) 24
def State.qSp (s : State) (d q : Nat) : Bool := bit (s.winWordAt .qsQ d q 0) 23
def State.svcClass (s : State) (d q : Nat) : Nat := bits (s.winWordAt .qsQ d q 0) 20 3
def State.qWeight (s : State) (d q : Nat) : Nat := bits (s.winWordAt .qsQ d q 0) 12 8
def State.qPos (s : State) (d q : Nat) : Nat := bits (s.winWordAt .qsQ d q 0) 9 3
def State.qCtn (s : State) (d q : Nat) : Nat := bits (s.winWordAt .qsQ d q 0) 0 9
def State.pfcPort (s : State) (d q : Nat) : Nat := bits (s.winWordAt .qsQ d q 1) 28 4
def State.pfcPrio (s : State) (d q : Nat) : Nat := bits (s.winWordAt .qsQ d q 1) 25 3
def State.pfcMap (s : State) (d q : Nat) : Bool := bit (s.winWordAt .qsQ d q 1) 24
def State.xoffHi (s : State) (d q : Nat) : Nat := bits (s.winWordAt .qsQ d q 2) 0 20
def State.xoffLo (s : State) (d q : Nat) : Nat := bits (s.winWordAt .qsQ d q 3) 0 20
def State.yelLimit (s : State) (d q : Nat) : Nat := bits (s.winWordAt .qsQ d q 4) 0 20

/-- QS_CTN. -/
def State.schedEn (s : State) (d i : Nat) : Bool := bit (s.winWordAt .qsCtn d i 0) 31
def State.egressPort (s : State) (d i : Nat) : Nat := bits (s.winWordAt .qsCtn d i 0) 16 4

/-- The queues that the configuration window lists. -/
def State.queuesOf (s : State) (d : Nat) : List Nat := ((s.listed (.win .qsQ) d).map (fun e => e.1 / 16)).dedup

/-- The enabled queues of container `i`, by position (R258). -/
def State.ctnQueues (s : State) (d i : Nat) : List Nat :=
  (List.range 8).filterMap (fun pos =>
    (s.queuesOf d).find? (fun q => s.qEn d q && decide (s.qCtn d q = i) && decide (s.qPos d q = pos)))

/-- ACTIVE of a container (QS_CTN word 5): in packet mode with slots, and not draining (DEDUCED). -/
def State.ctnActive (s : State) (d i : Nat) : Bool :=
  decide (s.ctnMode d i = 1) && decide (s.ctnK (512 * d + i) ≠ 0) && !s.flag (.qs .cDrain) d i

/-- A queue that takes frames (R244, R268). -/
def State.queueUsable (s : State) (d q : Nat) : Bool := s.qEn d q && s.ctnActive d (s.qCtn d q) && !s.flag (.qs .qDrain) d q

-- Rings (R250).

/-- The words of a ring, the modulus of its pointers and OCC. -/
def State.ringWords (s : State) (d q : Nat) : Nat := 2 ^ s.ringLog2 d q * 1024
def State.ringMod (s : State) (d q : Nat) : Nat := 2 ^ (s.ringLog2 d q + 11)
def State.occ (s : State) (d q : Nat) : Nat :=
  (s.get (.qs .wr) d q + s.ringMod d q - s.get (.qs .rd) d q) % s.ringMod d q

/-- Words of a frame record of `n` bytes (R251). -/
def recWords (n : Nat) : Nat := 1 + (n + 7) / 8

/-- BRAKE follows DIE_OCC (R257). -/
def State.brakeFollow (s : State) (d : Nat) : State :=
  let hi := s.get (.qs .dieHi) d 0
  let o := s.get (.qs .dieOcc) d 0
  let b := if hi = 0 then false
    else if hi * 1024 ≤ o then true
    else if o ≤ s.get (.qs .dieLo) d 0 * 1024 then false else s.flag (.qs .brake) d 0
  (s.setB (.qs .brake) d 0 b).cond .qsBrakeOn d 0 b

/-- The XOFF conditions of a port: a mapped queue is in XOFF (R256). -/
def State.xoffMask (s : State) (d p : Nat) : Nat :=
  ((List.range 8).filter (fun c => (s.queuesOf d).any (fun q => s.flag (.qs .qXoff) d q && s.qEn d q && s.pfcMap d q &&
    decide (s.pfcPort d q = p) && decide (s.pfcPrio d q = c)))).foldl (fun v c => v + 2 ^ c) 0

/-- XOFF of a queue follows its occupancy (R256). -/
def State.xoffFollow (s : State) (d q : Nat) : State :=
  let hi := s.xoffHi d q
  let o := s.occ d q
  let x := if hi = 0 then false
    else if hi * 1024 ≤ o then true
    else if o ≤ s.xoffLo d q * 1024 then false else s.flag (.qs .qXoff) d q
  let s1 := s.setB (.qs .qXoff) d q x
  if s.pfcMap d q then s1.set (.hl .pXoff) d (s.pfcPort d q) (s1.xoffMask d (s.pfcPort d q)) else s1

/-- The write pointer moves on by `w` words; the read pointer; what follows (R250, R256, R257). -/
def State.occAdd (s : State) (d q w : Nat) : State :=
  let n := s.get (.qs .occWords) d 0 + w
  ((((s.set (.qs .wr) d q ((s.get (.qs .wr) d q + w) % s.ringMod d q)).set (.qs .occWords) d 0 n).set (.qs .dieOcc) d 0
    ((n + 1023) / 1024)).xoffFollow d q).brakeFollow d
def State.occSub (s : State) (d q w : Nat) : State :=
  let n := s.get (.qs .occWords) d 0 - w
  ((((s.set (.qs .rd) d q ((s.get (.qs .rd) d q + w) % s.ringMod d q)).set (.qs .occWords) d 0 n).set (.qs .dieOcc) d 0
    ((n + 1023) / 1024)).xoffFollow d q).brakeFollow d

/-- The records of a queue, oldest first. -/
def State.ring (s : State) (d q : Nat) : List RingRec := s.rings.filter (fun r => decide (r.die = d) && decide (r.queue = q))

/-- The queue holds an unfinished cut-through frame. -/
def State.ctBusy (s : State) (d q : Nat) : Bool := (s.ring d q).any (fun r => r.ct && !r.fin)

/-- `n` words are written to the ring of a queue from word `w` on (R250, R287). -/
def State.ringStore (s : State) (d q w n : Nat) : State :=
  s.panRingWrite d (bits (s.winWordAt .qsQ d q 1) 0 21) (2 ^ s.ringLog2 d q) w n

/-- The word at which a record begins. -/
def State.recStart (s : State) (d : Nat) (r : RingRec) : Nat :=
  s.get (.qs .rd) d r.queue + (((s.ring d r.queue).takeWhile (fun x => decide (x ≠ r))).map (fun x => x.words)).sum

/-- Remove one record and free its space. -/
def State.ringDrop (s : State) (d q id : Nat) (gap : Bool) : State :=
  match takeFirst (fun r : RingRec => decide (r.die = d) && decide (r.queue = q) && decide (r.id = id) && decide (r.gap = gap))
    s.rings with
  | some (r, rest) => { s with rings := rest }.occSub d q r.words
  | none => s

/-- Change the record of an unfinished frame. -/
def State.ringEdit (s : State) (d id : Nat) (f : RingRec → RingRec) : State :=
  { s with rings := s.rings.map (fun r => if r.die = d ∧ r.id = id ∧ ¬ r.gap ∧ ¬ r.fin then f r else r) }

-- Classification (R240 to R244).

/-- The S-tag, C-tag and the first tag's PCP and DEI. -/
structure Header where
  sVid : Nat
  sPresent : Bool
  cVid : Nat
  cPresent : Bool
  pcp : Nat
  dei : Bool
  deriving DecidableEq, Repr

/-- Parse the tags after the source address, or after a queue tag (R240). -/
def parseTags (l : List (Nat × Nat)) : Header :=
  match l with
  | (0x88A8, t) :: (0x8100, u) :: _ => ⟨t % 4096, true, u % 4096, true, t / 8192 % 8, bit t 12⟩
  | (0x88A8, t) :: _ => ⟨t % 4096, true, 0, false, t / 8192 % 8, bit t 12⟩
  | (0x8100, t) :: _ => ⟨0, false, t % 4096, true, t / 8192 % 8, bit t 12⟩
  | _ => ⟨0, false, 0, false, 0, false⟩

/-- An entry's key equals the key of its FORM that a frame gives (R241). -/
def ClsEntry.hits (e : ClsEntry) (d p : Nat) (h : Header) : Bool :=
  decide (e.die = d) && decide (e.port = p) &&
    (decide (e.form = 3) || (decide (e.sVid = h.sVid) && decide (e.sPresent = h.sPresent) &&
      (decide (e.form = 2) || (decide (e.cVid = h.cVid) && decide (e.cPresent = h.cPresent) &&
        (decide (e.form = 1) || decide (e.pcp = h.pcp))))))

/-- The first key, in the order of FORM, that an entry matches. -/
def State.clsLookup (s : State) (d p : Nat) (h : Header) : Option ClsEntry :=
  (((s.clsTab.find? (fun e => decide (e.form = 0) && e.hits d p h)).orElse fun _ =>
    s.clsTab.find? (fun e => decide (e.form = 1) && e.hits d p h)).orElse fun _ =>
    s.clsTab.find? (fun e => decide (e.form = 2) && e.hits d p h)).orElse fun _ =>
    s.clsTab.find? (fun e => decide (e.form = 3) && e.hits d p h)

/-- The queue and FORM that a frame's key or queue tag gives, if it does not miss (R243, R244). -/
def State.clsMatch (s : State) (d p : Nat) (f : HostFrame) : Option (Nat × Nat) :=
  if s.get (.qs .clsMode) d p = 0 then
    ((s.clsLookup d p (parseTags f.tags)).map (fun e => (e.queue, e.form))).filter (fun x => s.queueUsable d x.1)
  else
    match f.qtag with
    | some t => if t / 2048 % 8 = 0 ∧ s.queueUsable d (t % 2048) then some (t % 2048, 3) else none
    | none => none

/-- A queue tag with reserved bits set (R244). -/
def State.tagBad (s : State) (d p : Nat) (f : HostFrame) : Bool :=
  s.flag (.qs .clsMode) d p && (match f.qtag with
    | some t => decide (t / 2048 % 8 ≠ 0)
    | none => false)

/-- Classify a frame: counters, and the queue and FORM unless it is discarded (R244). -/
def State.classify (s : State) (d p : Nat) (f : HostFrame) : State × Option (Nat × Nat) :=
  match s.clsMatch d p f with
  | some (q, fm) => (s.inc (.qs .nClsHit) d fm, some (q, fm))
  | none =>
    let s1 := (s.incIf (s.tagBad d p f) (.qs .nClsTagBad) d 0).inc (.qs .nClsMiss) d 0
    let q := s.get (.qs .missQueue) d p
    if s.flag (.qs .missDrop) d p || !s.queueUsable d q then (s1, none) else (s1, some (q, 3))

/-- The input colour (R245): 0 green, 1 yellow, 2 red. -/
def State.inputColour (s : State) (d p : Nat) (f : HostFrame) : Nat :=
  let h := parseTags f.tags
  let c := match f.qtag with
    | some t => if s.flag (.qs .clsMode) d p then t / 16384 % 4 else 3
    | none => 3
  if c < 3 then c
  else match s.get (.qs .colourSrc) d p with
    | 1 => if h.dei then 1 else 0
    | 2 => bits (s.get (.qs .pcpColour) d p) (2 * h.pcp) 2
    | _ => 0

-- Policing (R246 to R248).  A bucket is kept as its deficit in 1/8000 byte: a rate in Mb/s removes that many units a ns.

/-- The words of a policer: queue policers 0 to 2,047, container policer `i` at 4096 + i. -/
def State.polWord (s : State) (d x k : Nat) : Nat :=
  if x < 4096 then s.winWordAt .qsQpol d x k else s.winWordAt .qsCpol d (x - 4096) k

/-- The fields of a policer. -/
def State.polAlg (s : State) (d x : Nat) : Nat := bits (s.polWord d x 0) 30 2
def State.polAware (s : State) (d x : Nat) : Bool := bit (s.polWord d x 0) 29
def State.polCf (s : State) (d x : Nat) : Bool := bit (s.polWord d x 0) 28
def State.polCir (s : State) (d x : Nat) : Nat := bits (s.polWord d x 0) 0 22
def State.polPir (s : State) (d x : Nat) : Nat := bits (s.polWord d x 1) 0 22
def State.polCbs (s : State) (d x : Nat) : Nat := bits (s.polWord d x 2) 0 24
def State.polPbs (s : State) (d x : Nat) : Nat := bits (s.polWord d x 3) 0 24

/-- Both buckets fill up to now; with the coupling flag of MEF 10.3 what overflows the committed one goes to the other. -/
def State.polFill (s : State) (d x : Nat) : State :=
  let now := s.get (.sys .time) 0 0
  let dt := now - s.get (.qs .polAt) d x
  let c := s.get (.qs .polC) d x
  let spill := if s.polAlg d x = 2 ∧ s.polCf d x then s.polCir d x * dt - c else 0
  ((s.set (.qs .polC) d x (c - s.polCir d x * dt)).set (.qs .polP) d x
    (s.get (.qs .polP) d x - (s.polPir d x * dt + spill))).set (.qs .polAt) d x now

/-- A bucket of size `size` bytes with a deficit holds at least `n` bytes. -/
def bucketHas (size deficit n : Nat) : Bool := decide (deficit + 8000 * n ≤ 8000 * size)

/-- The verdict of a policer on `n` bytes: the output colour and which buckets are charged (bit 0 committed, bit 1 peak or
excess). -/
def State.polVerdict (s : State) (d x colour n : Nat) : Nat × Nat :=
  let col := if s.polAware d x then colour else 0
  let c := bucketHas (s.polCbs d x) (s.get (.qs .polC) d x) n
  let p := bucketHas (s.polPbs d x) (s.get (.qs .polP) d x) n
  match s.polAlg d x with
  | 1 => if col = 2 || !p then (2, 0) else if col = 1 || !c then (1, 2) else (0, 3)
  | 2 => if col = 2 then (2, 0) else if col = 0 && c then (0, 1) else if p then (1, 2) else (2, 0)
  | _ => (colour, 0)

/-- Charge, or credit back, the buckets of a mask. -/
def State.polCharge (s : State) (d x mask n : Nat) : State :=
  (s.when (bit mask 0) (fun s => s.set (.qs .polC) d x (s.get (.qs .polC) d x + 8000 * n))).when (bit mask 1) (fun s =>
    s.set (.qs .polP) d x (s.get (.qs .polP) d x + 8000 * n))
def State.polCredit (s : State) (d x mask n : Nat) : State :=
  (s.when (bit mask 0) (fun s => s.set (.qs .polC) d x (s.get (.qs .polC) d x - 8000 * n))).when (bit mask 1) (fun s =>
    s.set (.qs .polP) d x (s.get (.qs .polP) d x - 8000 * n))

/-- One policer decides on a frame. -/
def State.polAsk (s : State) (d x colour n : Nat) : State × Nat × Nat :=
  if s.polAlg d x = 0 then (s, colour, 0)
  else
    let s1 := s.polFill d x
    let v := s1.polVerdict d x colour n
    (s1.polCharge d x v.2 n, v.1, v.2)

/-- Both policers in turn: the final colour, and the charges of each (R247). -/
def State.police (s : State) (d q colour n : Nat) : State × Nat × Nat × Nat :=
  let a := s.polAsk d q colour n
  let i := s.qCtn d q
  let b := a.1.polAsk d (4096 + i) a.2.1 n
  let aware := s.polAware d (4096 + i) || decide (s.polAlg d (4096 + i) = 0)
  let made := decide (b.2.1 = 2) && (decide (a.2.1 ≠ 2) || !aware)
  (b.1.incIf made (.qs .nCPolRed) d i, b.2.1, a.2.2, b.2.2)

-- Admission (R252, R253).

/-- A frame is lost: its trace record, once (R454, R455). -/
def State.lostFrame (s : State) (f : Staged) (why : Nat) : State :=
  s.traceItem f.die f.tag trcDropped (locContainer f.die (s.qCtn f.die f.queue)) why

/-- Put a record at the end of its ring. -/
def State.ringPut (s : State) (r : RingRec) : State :=
  State.occAdd (State.ringStore { s with rings := s.rings ++ [r] } r.die r.queue (s.get (.qs .wr) r.die r.queue) r.words)
    r.die r.queue r.words

/-- An empty queue that receives a frame wakes at the virtual time (R260). -/
def State.wakeQueue (s : State) (d q : Nat) : State :=
  if s.ring d q = [] then
    (s.set (.qs .tagS) d q (s.get (.qs .vTime) d (s.qCtn d q))).set (.qs .passed) d q 0
  else s

/-- A gap record that GAP_PEND calls for goes first (R253). -/
def State.gapRecord (s : State) (d q : Nat) : State :=
  let n := s.get (.qs .gapPend) d q
  if n = 0 then s
  else (s.ringPut ⟨d, q, true, 0, n, 1, 0, 0, false, false, true, false, false, 0, 0, none, 0, none⟩).set (.qs .gapPend) d q 0

/-- The frame enters its ring; `present` bytes are written now. -/
def State.enqueue (s : State) (f : Staged) (colour present : Nat) (ct : Bool) (cq cc : Nat) : State :=
  let d := f.die
  let q := f.queue
  let s1 := ((s.wakeQueue d q).gapRecord d q).ringPut
    ⟨d, q, false, f.id, present, recWords present, colour, f.port, ct, false, !ct, false, false, cq, cc, f.tag, f.time, f.ptp⟩
  let s2 := ((s1.inc (.qs .nQEnqPkts) d q).add (.qs .nQEnqBytes) d q (if ct then 0 else present)).incIf ct (.qs .nQCtPkts) d q
  s2.traceItem d f.tag trcEnqueued (locContainer d (s.qCtn d q)) ((s2.occ d q + 1023) / 1024)

/-- A frame is dropped for lack of space (R252, R253). -/
def State.dropFull (s : State) (d q : Nat) : State :=
  ((s.inc (.qs .nQDropFull) d q).set (.qs .gapPend) d q (min 65535 (s.get (.qs .gapPend) d q + 1))).event .qsQFullDrop d 0

/-- The frame leaves staging: its reservation is released (R249). -/
def State.unstage (s : State) (f : Staged) : State :=
  { s with staged := s.staged.filter (fun g => decide (g.die ≠ f.die) || decide (g.id ≠ f.id)) }

/-- The decision on a staged frame (R247, R252): police `n` bytes, then take it in or drop it; `ct`: for cut-through, with MTU
bytes to fit. -/
def State.takeIn (s : State) (f : Staged) (ct : Bool) : State :=
  let d := f.die
  let q := f.queue
  let n := if ct then s.get (.hl .mtu) d f.port else f.len
  let v := (s.unstage f).police d q f.colour n
  let s1 := v.1.traceItem d f.tag trcClassified (locContainer d (s.qCtn d q)) (f.form * 65536 + v.2.1)
  let need := recWords n + (if s.get (.qs .gapPend) d q = 0 then 0 else 1)
  if v.2.1 = 2 then (s1.inc (.qs .nQDropRed) d q).lostFrame f 1
  else if v.2.1 = 1 ∧ s.yelLimit d q ≠ 0 ∧ s.yelLimit d q * 1024 ≤ s.occ d q then
    (s1.inc (.qs .nQDropYel) d q).lostFrame f 3
  else if s.ringWords d q < s.occ d q + need then (s1.dropFull d q).lostFrame f 2
  else s1.enqueue f v.2.1 f.len ct v.2.2.1 v.2.2.2

/-- The conditions of cut-through (R254). -/
def State.ctAllowed (s : State) (d q p : Nat) : Bool :=
  s.ctEn d q && decide (s.ctnK (512 * d + s.qCtn d q) * 5 ≤ portSpeed (s.get (.hl .speed) d p)) && !s.ctBusy d q

/-- A staged frame at its decision point (R247, R254): complete, or with CT_THRESH bytes present and admitted for
cut-through.  Behind an unfinished cut-through frame it waits. -/
def State.atDecision (s : State) (f : Staged) : Bool :=
  !s.ctBusy f.die f.queue &&
    (f.whole || (decide (s.get (.qs .ctThresh) f.die 0 ≤ f.len) && s.ctAllowed f.die f.queue f.port))

/-- The staged frame with a number. -/
def State.stagedAt (s : State) (d id : Nat) : Option Staged := s.staged.find? (fun f => decide (f.die = d) && decide (f.id = id))

/-- FRAME_DECISION_POINT (R247, R252). -/
def execFrameDecisionPoint (d id : Nat) (s : State) : Result :=
  finishIf (s.up d) s fun s =>
    match s.stagedAt d id with
    | some f => if s.atDecision f && !f.gone then s.takeIn f (!f.whole) else s
    | none => s

/-- STAGED_FRAME_RELEASE (R254): a frame that has waited behind a cut-through frame is decided as a whole frame. -/
def execStagedFrameRelease (d id : Nat) (s : State) : Result :=
  finishIf (s.up d) s fun s =>
    match s.stagedAt d id with
    | some f => if f.whole && !f.gone && !s.ctBusy d f.queue then s.takeIn f false else s
    | none => s

-- Frames that arrive (R230, R249).

/-- Bytes reserved in the staging buffer of a die. -/
def State.stagingUsed (s : State) (d : Nat) : Nat :=
  ((s.staged.filter (fun f => decide (f.die = d) && !f.gone)).map (fun f => s.get (.hl .mtu) d f.port)).sum

/-- The length after the queue tag is removed and the rest padded to 64 bytes (R243). -/
def State.frameLen (s : State) (d p : Nat) (f : HostFrame) : Nat :=
  if s.flag (.qs .clsMode) d p && f.qtag.isSome then max 64 (f.len - 4) else f.len

/-- What R230 says of a complete frame whose start has not been sent: 0 good, 1 size, 2 FCS, 3 MAC control. -/
def State.macVerdict (s : State) (d p : Nat) (f : HostFrame) : Nat :=
  if !f.sfdOk then 2
  else if s.get (.hl .mtu) d p < f.len then 1
  else if f.cutOff then 2
  else if f.len < 64 then 1
  else if !f.fcsOk then 2
  else if f.macctl then 3 else 0

/-- Count a frame by the verdict of R230, R235. -/
def State.macCount (s : State) (d p v len : Nat) : State :=
  match v with
  | 0 => (s.inc (.hl .nRxFrames) d p).add (.hl .nRxBytes) d p len
  | 1 => s.inc (.hl .nRxSizeErr) d p
  | 2 => s.inc (.hl .nRxFcsErr) d p
  | _ => (s.inc (.hl .nMacctlRx) d p).event .hlpHostMacctl d p

/-- A frame is put into staging. -/
def State.stageFrame (s : State) (d p : Nat) (f : HostFrame) (q fm : Nat) (tag : Option Nat) (gone : Bool) : State :=
  { s with staged := s.staged ++ [⟨d, f.id, p, q, s.frameLen d p f, f.last, gone, s.inputColour d p f, fm, tag,
    f.rawTime - s.get (.hl .corrRx) d p, f.ptp⟩] }

/-- A new frame is discarded; while it still arrives it is remembered. -/
def State.newGone (s : State) (d p : Nat) (f : HostFrame) (tag : Option Nat) (why : Nat) : State :=
  (if f.last then s else s.stageFrame d p f 0 3 none true).traceItem d tag trcDropped (locCarrier d) why

/-- A new frame: staging, then classification. -/
def State.newFrame (s : State) (d p : Nat) (f : HostFrame) : State :=
  let t := s.traceTag d (s.flag (.trc .tagTx) d 0)
  let s1 := t.1.traceItem d t.2 trcMacRx (locCarrier d) f.len
  if 524288 < s.stagingUsed d + s.get (.hl .mtu) d p then
    ((s1.inc (.qs .nStageDrop) d 0).raise .qsStageOvf d 0).newGone d p f t.2 6
  else
    let c := (s1.lower .qsStageOvf d 0).classify d p f
    match c.2 with
    | none => c.1.newGone d p f t.2 5
    | some (q, fm) => c.1.stageFrame d p f q fm t.2 false

/-- More of a staged frame has arrived. -/
def State.moreStaged (s : State) (d p : Nat) (f : HostFrame) (g : Staged) : State :=
  if !f.last then
    { s with staged := s.staged.map (fun h => if h = g then { h with len := s.frameLen d p f } else h) }
  else
    let v := s.macVerdict d p f
    let s1 := s.macCount d p v f.len
    if v = 0 ∧ ¬ g.gone then { s1 with staged := s1.staged.map (fun h => if h = g then { h with len := s.frameLen d p f, whole := true } else h) }
    else s1.unstage g

/-- A cut-through frame in its ring fails (R230, R255): with its start sent the part ends it with the error marker;
otherwise its record is void. -/
def State.ctFail (s : State) (d p : Nat) (r : RingRec) (size : Bool) : State :=
  if r.sent then
    (((s.inc (.hl .nRxFcsErr) d p).inc (.hl .nCtAbort) d p).event .hlpCtAbort d p).ringDrop d r.queue r.id false
  else
    (((if size then s.inc (.hl .nRxSizeErr) d p else s.inc (.hl .nRxFcsErr) d p).ringEdit d r.id (fun r =>
      { r with void := true, fin := true })).inc (.qs .nQVoid) d r.queue).ringStore d r.queue (s.recStart d r) 1

/-- A cut-through frame in its ring ends well (R247, R250, R251). -/
def State.ctEnd (s : State) (d p : Nat) (f : HostFrame) (r : RingRec) : State :=
  let n := s.frameLen d p f
  let mtu := s.get (.hl .mtu) d p
  let s1 := (((s.inc (.hl .nRxFrames) d p).add (.hl .nRxBytes) d p f.len).add (.qs .nQEnqBytes) d r.queue n)
  let s2 := (s1.polCredit d r.queue r.chargeQ (mtu - n)).polCredit d (4096 + s.qCtn d r.queue) r.chargeC (mtu - n)
  let at' := s.recStart d r
  let s3 := (((s2.ringEdit d r.id (fun r => { r with len := n, words := recWords n, fin := true })).ringStore d r.queue
    (at' + r.words) (recWords n - r.words)).ringStore d r.queue at' 1).occAdd d r.queue (recWords n - r.words)
  if r.sent then (s3.add (.qs .nQDeqBytes) d r.queue n).ringDrop d r.queue r.id false else s3

/-- The unfinished cut-through record with a number. -/
def State.ctRecord (s : State) (d id : Nat) : Option RingRec :=
  s.rings.find? (fun r => decide (r.die = d) && decide (r.id = id) && !r.gap && r.ct && !r.fin)

/-- HOST_FRAME_RX (R230, R235, R240 to R249): a frame, or more of one, arrives on a packet port.  One that will be discarded
is counted at its end. -/
def execHostFrameRx (d p : Nat) (f : HostFrame) (s : State) : Result :=
  finishIf (s.up d && decide (s.get (.hl .mode) d p = 1) && (decide (s.portState d p = prtUp) || f.cutOff)) s fun s =>
    match s.stagedAt d f.id, s.ctRecord d f.id with
    | some g, _ => s.moreStaged d p f g
    | none, some r =>
      if !f.last then s
      else
        let v := s.macVerdict d p f
        if v = 0 ∨ v = 3 then s.ctEnd d p f r else s.ctFail d p r (decide (v = 1))
    | none, none =>
      if f.last then
        let v := s.macVerdict d p f
        let s1 := s.macCount d p v f.len
        if v = 0 then s1.newFrame d p f else s1
      else if !f.sfdOk || f.macctl then s.stageFrame d p f 0 3 none true
      else s.newFrame d p f

/-- CT_FRAME_FAIL (R255): `long`: the frame turned out longer than MTU. -/
def execCtFrameFail (d id : Nat) (long : Bool) (s : State) : Result :=
  finishIf (s.up d) s fun s =>
    match s.ctRecord d id with
    | some r => s.ctFail d r.port r long
    | none => s

-- The classification table (R242).

/-- The entry that two words spell. -/
def clsEntry (d w0 w1 : Nat) : ClsEntry :=
  ⟨d, bits w0 30 2, bits w0 24 4, bits w0 12 12, bits w0 0 12, bit w1 31, bit w1 30, bits w1 27 3, bits w1 0 11⟩

/-- A field that FORM does not use is not 0. -/
def ClsEntry.malformed (e : ClsEntry) : Bool :=
  (decide (1 ≤ e.form) && decide (e.pcp ≠ 0)) || (decide (2 ≤ e.form) && (decide (e.cVid ≠ 0) || e.cPresent)) ||
    (decide (e.form = 3) && (decide (e.sVid ≠ 0) || e.sPresent))

/-- Two entries have the same key. -/
def ClsEntry.sameKey (a b : ClsEntry) : Bool := decide ({ a with queue := 0 } = { b with queue := 0 })

/-- Entries held by a die. -/
def State.clsUsed (s : State) (d : Nat) : Nat := (s.clsTab.filter (fun e => decide (e.die = d))).length

/-- Report RESULT and CLS_USED. -/
def State.clsDone (s : State) (d result : Nat) : State :=
  (s.set (.qs .clsResult) d 0 result).set (.qs .clsUsed) d 0 (s.clsUsed d)

/-- INSERT finds room: always up to 28,672 entries held; above that the part's hash functions decide (free value, log
5). -/
def State.clsRoom (s : State) (d : Nat) : Bool :=
  decide (s.clsUsed d ≤ 28672) || (decide (s.clsUsed d < 32768) && decide (s.free % 2 = 0))

/-- The result of an INSERT. -/
def State.clsInsertResult (s : State) (e : ClsEntry) : Nat :=
  if e.malformed then 4 else if s.clsTab.any (fun f => f.sameKey e) then 3 else if s.clsRoom e.die then 0 else 1

/-- INSERT. -/
def State.clsInsert (s : State) (d w0 w1 : Nat) : State :=
  let e := clsEntry d w0 w1
  let r := s.clsInsertResult e
  let s1 := (if r = 0 then { s with clsTab := s.clsTab ++ [e] } else s).used
  (s1.when (decide (r = 1)) (fun s => (s.inc (.qs .nClsNoRoom) d 0).event .qsClsNoRoom d 0)).clsDone d r

/-- DELETE. -/
def State.clsDelete (s : State) (d w0 w1 : Nat) : State :=
  let e := clsEntry d w0 w1
  if e.malformed then s.clsDone d 4
  else if s.clsTab.any (fun f => f.sameKey e) then
    State.clsDone { s with clsTab := s.clsTab.filter (fun f => !f.sameKey e) } d 0
  else s.clsDone d 2

/-- LOOKUP: QUEUE comes back in word 1. -/
def State.clsFind (s : State) (d w0 w1 : Nat) : State :=
  let e := clsEntry d w0 w1
  if e.malformed then s.clsDone d 4
  else
    match s.clsTab.find? (fun f => f.sameKey e) with
    | some f => (s.setWin .qsCls d 0 1 (putBits w1 0 11 f.queue)).clsDone d 0
    | none => s.clsDone d 2

/-- An operation begins with its words. -/
def State.clsWords (s : State) (d op w0 w1 : Nat) : State :=
  ((s.set (.qs .clsOp) d 0 op).setWin .qsCls d 0 0 w0).setWin .qsCls d 0 1 w1

/-- QS_CLS_INSERT (R242). -/
def execQsClsInsert (d w0 w1 : Nat) (s : State) : Result :=
  finishIf (s.up d) s fun s => (s.clsWords d 0 w0 w1).clsInsert d w0 w1

/-- QS_CLS_DELETE (R242). -/
def execQsClsDelete (d w0 w1 : Nat) (s : State) : Result :=
  finishIf (s.up d) s fun s => (s.clsWords d 1 w0 w1).clsDelete d w0 w1

/-- QS_CLS_LOOKUP (R242). -/
def execQsClsLookup (d w0 w1 : Nat) (s : State) : Result :=
  finishIf (s.up d) s fun s => (s.clsWords d 2 w0 w1).clsFind d w0 w1

-- Drains (R268).

/-- CLS_USED follows the table. -/
def State.clsUsedShow (s : State) (d : Nat) : State := s.set (.qs .clsUsed) d 0 (s.clsUsed d)

/-- A queue's classification entries are removed at once and it admits nothing more. -/
def State.queueDrain (s : State) (d q : Nat) : State :=
  (State.clsUsedShow { s with clsTab := s.clsTab.filter (fun e => decide (e.die ≠ d) || decide (e.queue ≠ q)) } d).set
    (.qs .qDrain) d q 1

/-- A container drains with all its queues. -/
def State.ctnDrain (s : State) (d i : Nat) : State :=
  (s.each (s.ctnQueues d i) fun s q => s.queueDrain d q).set (.qs .cDrain) d i 1

/-- The records that remain in a queue are discarded and counted for its container; the queue is no longer enabled. -/
def State.queueFlush (s : State) (d q : Nat) : State :=
  let l := s.ring d q
  let s1 := { s with rings := s.rings.filter (fun r => decide (r.die ≠ d) || decide (r.queue ≠ q)) }
  let s2 := (s1.occSub d q (s.occ d q)).set (.qs .gapPend) d q 0
  let s3 := s2.each l fun s r => s.traceItem d r.tag trcDropped (locContainer d (s.qCtn d q)) 9
  if l = [] then s3 else (s3.add (.qs .nCDrainDisc) d (s.qCtn d q) l.length).event .qsDrainDisc d 0

/-- A drained queue ends: DRAINING clears and Q_EN is 0. -/
def State.queueEnd (s : State) (d q : Nat) : State :=
  ((s.queueFlush d q).set (.qs .qDrain) d q 0).setWin .qsQ d q 0 (putBit (s.winWordAt .qsQ d q 0) 31 false)

/-- The slots of a deleted container become unused at the next CT_TSMAP commit. -/
def State.freeSlots (s : State) (c : Nat) : State :=
  s.each s.dies fun s d =>
    let l := (s.slots d).filter (fun e => decide (tsCtn e.2 = c))
    if l = [] then s
    else (s.each l fun s e =>
      (s.set (.winNew .ctTsmap) d (winHold + 16 * e.1) 0).set (.winDirty .ctTsmap) d (winHold + 16 * e.1) 1).set
        (.sys .winBusy) d (Win.ctTsmap).ctorIdx 1

/-- DRAIN_END of a container. -/
def State.ctnDrainEnd (s : State) (d i : Nat) : State :=
  (((s.each (s.ctnQueues d i) fun s q => s.queueEnd d q).set (.qs .cDrain) d i 0).freeSlots (512 * d + i))

/-- DRAIN_END (R268): the rings are empty or DRAIN_MS has passed. -/
def execDrainEnd (d : Nat) (container : Bool) (idx : Nat) (s : State) : Result :=
  finishIf (s.up d && s.flag (if container then .qs .cDrain else .qs .qDrain) d idx) s fun s =>
    if container then s.ctnDrainEnd d idx else s.queueEnd d idx

/-- BRAKE_N[d] is low (R236): the watermark state, a die that is not awake or has lost its Spoke link, or no traffic
yet. -/
def State.brakeLow (s : State) (d : Nat) : Bool :=
  s.present d && (s.flag (.qs .brake) d 0 || !s.awake d || s.flag (.chn .spokeLost) d 0 || !s.flag (.boot .traffic) 0 0)

end Sys2Proof.Machine
end

