-- ==== Sys2Proof/Machine/Scheduler.lean ====
section
/-!
DEFINITION. The container scheduler, the subscriber shaper, the time-aware gates and the commits of the QS_ windows
(R246, R248, R250, R253, R256, R258 to R266, R395).
-/
namespace Sys2Proof.Machine

-- The shaper (R261).  Buckets are kept as deficits in 1/8000 byte, so that a level below 0 is a deficit above the size.

/-- The fields of QS_SHP. -/
def State.shpEn (s : State) (d i : Nat) : Bool := bit (s.winWordAt .qsShp d i 0) 31
def State.shpReset (s : State) (d i : Nat) : Bool := bit (s.winWordAt .qsShp d i 0) 30
def State.shpCir (s : State) (d i : Nat) : Nat := bits (s.winWordAt .qsShp d i 0) 0 22
def State.shpEir (s : State) (d i : Nat) : Nat := bits (s.winWordAt .qsShp d i 1) 0 22
def State.shpCbs (s : State) (d i : Nat) : Nat := bits (s.winWordAt .qsShp d i 2) 0 24
def State.shpEbs (s : State) (d i : Nat) : Nat := bits (s.winWordAt .qsShp d i 3) 0 24

/-- Both buckets fill up to now; neither spills into the other. -/
def State.shpFill (s : State) (d i : Nat) : State :=
  let now := s.get (.sys .time) 0 0
  let dt := now - s.get (.qs .shpAt) d i
  ((s.set (.qs .shpC) d i (s.get (.qs .shpC) d i - s.shpCir d i * dt)).set (.qs .shpE) d i
    (s.get (.qs .shpE) d i - s.shpEir d i * dt)).set (.qs .shpAt) d i now

/-- Which bucket lets a frame of queue `q` start: 0 none needed, 1 committed, 2 excess, 3 neither. -/
def State.shpAsk (s : State) (d i q : Nat) : Nat :=
  if !s.shpEn d i then 0
  else if s.get (.qs .shpC) d i ≤ 8000 * s.shpCbs d i then 1
  else if s.excessOk d q && decide (s.get (.qs .shpE) d i ≤ 8000 * s.shpEbs d i) then 2
  else 3

/-- A frame's counted length is charged at its start to the bucket that allowed it. -/
def State.shpCharge (s : State) (d i how n : Nat) : State :=
  match how with
  | 1 => s.set (.qs .shpC) d i (s.get (.qs .shpC) d i + 8000 * n)
  | 2 => (s.set (.qs .shpE) d i (s.get (.qs .shpE) d i + 8000 * n)).add (.qs .nCExcessBytes) d i n
  | _ => s

-- The gates (R263 to R265).

/-- The spans of a list: cut at the cycle end, or its last entry held until then. -/
def gateSpans : List (Nat × Nat) → Nat → List (Nat × Nat)
  | [], _ => []
  | [(g, _)], left => [(g, left)]
  | (g, n) :: r, left => if left ≤ n then [(g, left)] else (g, n) :: gateSpans r (left - n)

/-- The time for which class `c` stays open from `pos` on, and whether it closes within the spans. -/
def gateWalk (c : Nat) : Nat → Nat → List (Nat × Nat) → Nat × Bool
  | _, acc, [] => (acc, false)
  | pos, acc, (g, n) :: r =>
    if n ≤ pos then gateWalk c (pos - n) acc r
    else if bit g c then gateWalk c 0 (acc + (n - pos)) r else (acc, true)

/-- The open time of class `c` from `pos` in a cycle on; none: the list never closes it. -/
def gateOpen (c pos : Nat) (l : List (Nat × Nat)) : Option Nat :=
  match gateWalk c pos 0 (l ++ l ++ l) with
  | (n, true) => some n
  | (_, false) => none

/-- The starts of the spans. -/
def gateStarts : Nat → List (Nat × Nat) → List Nat
  | _, [] => []
  | at', (_, n) :: r => at' :: gateStarts (at' + n) r

/-- The longest continuous open time of class `c` (R265); none: it is open all the time. -/
def gateLongest (c : Nat) (l : List (Nat × Nat)) : Option Nat :=
  (gateStarts 0 l).foldl (fun m p => match m, gateOpen c p l with
    | some a, some b => some (max a b)
    | _, _ => none) (some 0)

/-- The operating list and the pending list. -/
def State.gateOper (s : State) (d : Nat) : List (Nat × Nat) :=
  gateSpans ((List.range (s.get (.qs .operLen) d 0)).map (fun e =>
    (bits (s.winWordAt .qsGate d (256 + e) 0) 0 8, bits (s.winWordAt .qsGate d (256 + e) 1) 0 30)))
    (s.get (.qs .operCycle) d 0)
def State.gateNext (s : State) (d : Nat) : List (Nat × Nat) :=
  gateSpans ((List.range (s.get (.qs .gatePendLen) d 0)).map (fun e =>
    (bits (s.get (.qs .gatePend) d (2 * e)) 0 8, bits (s.get (.qs .gatePend) d (2 * e + 1)) 0 30)))
    (s.get (.qs .gatePendCycle) d 0)

/-- The gates act: GATE_EN with an operating list (log 11). -/
def State.gatesOn (s : State) (d : Nat) : Bool := s.flag (.qs .gateEn) d 0 && s.flag (.qs .operValid) d 0

/-- The cycle position: (now − start) modulo cycle, also after a step of the time base. -/
def State.gatePos (s : State) (d : Nat) : Nat :=
  (((s.tbNow (s.get (.qs .gateTb) d 0) : Int) - (s.get (.qs .gateStart) d 0 : Int)) %
    (s.get (.qs .operCycle) d 0 : Int)).toNat

/-- The time in ns until the gate of class `c` next closes, a pending list taken into account from its start instant
on; none: it never closes. -/
def State.gateTime (s : State) (d c : Nat) : Option Nat :=
  let cur := gateOpen c (s.gatePos d) (s.gateOper d)
  if s.flag (.qs .gatePending) d 0 then
    let left := s.get (.qs .gatePendAt) d 0 - s.tbNow (s.get (.qs .gateTb) d 0)
    match cur with
    | some n => if n < left then some n else (gateOpen c 0 (s.gateNext d)).map (fun m => left + m)
    | none => (gateOpen c 0 (s.gateNext d)).map (fun m => left + m)
  else cur

/-- T of a counted length at `k` slots is at most `ns`: T = n · 8 / (k · 4.82820 Gb/s) (R262, R265). -/
def fitsGate (n k ns : Nat) : Bool := decide (n * 8 * 100000 ≤ ns * (k * 482820))

/-- A frame of class `c` and counted length `n` fits before its gate next closes. -/
def State.gateFits (s : State) (d i c n : Nat) : Bool :=
  if s.gatesOn d then
    match s.gateTime d c with
    | some ns => decide (ns ≠ 0) && fitsGate n (s.ctnK (512 * d + i)) ns
    | none => true
  else true

/-- A frame that can never start: T exceeds the longest open time of its class in the operating list. -/
def State.gateNever (s : State) (d i c n : Nat) : Bool :=
  if s.gatesOn d then
    match gateLongest c (s.gateOper d) with
    | some ns => !fitsGate n (s.ctnK (512 * d + i)) ns
    | none => false
  else false

-- Heads.

/-- The counted length of a frame record: L + 20, or MTU + 20 while its length is not final (R260, R265). -/
def State.counted (s : State) (r : RingRec) : Nat :=
  (if r.ct && !r.fin then s.get (.hl .mtu) r.die r.port else r.len) + 20

/-- Void records at the head of a queue are skipped and their space freed (R255). -/
def State.skipVoid (s : State) (d q : Nat) : State :=
  s.each ((s.ring d q).takeWhile (fun r => r.void)) fun s r => s.ringDrop d q r.id r.gap

/-- The head of a queue. -/
def State.headOf (s : State) (d q : Nat) : Option RingRec := (s.ring d q).head?

/-- Send a gap marker for container `i` (R159, R253). -/
def State.sendGap (s : State) (d i : Nat) : State :=
  (s.set (.ct .gapTx) d i ((s.get (.ct .gapTx) d i + 1) % 65536)).inc (.qs .nCGapTx) d i

/-- A head that can never fit its gate is discarded, with a gap marker (R265). -/
def State.gateDiscard (s : State) (d i q : Nat) (r : RingRec) : State :=
  ((((((s.ringDrop d q r.id false).inc (.qs .nQGateDrop) d q).inc (.qs .nGateDrop) d 0).event .qsGateDrop d
    0).sendGap d i)).traceItem d r.tag trcDropped (locContainer d i) 7

/-- The heads that can never start are discarded until another record comes to the head; `fuel`: the records held. -/
def State.gatePurge (s : State) (d i q : Nat) : Nat → State
  | 0 => s
  | fuel + 1 =>
    let s1 := s.skipVoid d q
    match s1.headOf d q with
    | some r =>
      if !r.gap && s1.gateNever d i (s1.svcClass d q) (s1.counted r) then
        (s1.gateDiscard d i q r).gatePurge d i q fuel
      else s1
    | none => s1

/-- A head competes: a gap record, or a frame that its gate and the shaper allow to start (R259). -/
def State.eligible (s : State) (d i q : Nat) : Bool :=
  match s.headOf d q with
  | some r => r.gap || (s.gateFits d i (s.svcClass d q) (s.counted r) && decide (s.shpAsk d i q ≠ 3))
  | none => false

/-- The first hold of a frame by its gate is counted (R265). -/
def State.noteHold (s : State) (d i q : Nat) : State :=
  match s.headOf d q with
  | some r =>
    if !r.gap && !r.held && !s.gateFits d i (s.svcClass d q) (s.counted r) then
      State.inc { s with rings := s.rings.map (fun x => if x = r then { x with held := true } else x) } (.qs .nGateHold) d
        (s.svcClass d q)
    else s
  | none => s

/-- a before b in signed 48-bit difference. -/
def tagBefore (a b : Nat) : Bool := decide (sext 48 ((a + 2 ^ 48 - b) % 2 ^ 48) < 0)

/-- The later of two tags. -/
def tagMax (a b : Nat) : Nat := if tagBefore a b then b else a

/-- The tag with which a head competes. -/
def State.tagNow (s : State) (d i q : Nat) : Nat :=
  if s.flag (.qs .passed) d q then tagMax (s.get (.qs .vTime) d i) (s.get (.qs .tagS) d q) else s.get (.qs .tagS) d q

/-- The queue that a scheduler takes among eligible ones in order of position: the first SP queue, else the smallest S,
a tie to the lower position (R259, R260). -/
def State.pick (s : State) (d i : Nat) (l : List Nat) : Option Nat :=
  match l.find? (fun q => s.qSp d q) with
  | some q => some q
  | none => l.foldl (fun b q => match b with
      | none => some q
      | some x => if tagBefore (s.tagNow d i q) (s.tagNow d i x) then some q else some x) none

-- Sending.

/-- The near end of the transparent clock marks a Sync or Delay_Req with its ingress time (R395). -/
def State.ptpNear (s : State) (d i : Nat) (r : RingRec) : State :=
  match r.ptp with
  | some m =>
    if s.get (.tim .tcMode) 0 0 ≠ 0 ∧ (m.kind = 1 ∨ m.kind = 2) then
      if m.mark ≠ 0 ∨ m.noOctets then s.inc (.tim .nTcSkip) 0 0
      else s.set (.tim .ptpMark) d i (2 ^ 31 + r.time / 128 % 2 * 2 ^ 30 + r.time / 256 % 1000000000)
    else s
  | none => s

/-- The start of a frame is sent: tags, charge, counters; an unfinished cut-through frame stays until it ends. -/
def State.sendFrame (s : State) (d i q : Nat) (r : RingRec) : State :=
  let n := s.counted r
  let s1 := (s.shpCharge d i (s.shpAsk d i q) n).when (!s.qSp d q) (fun s =>
    let v := s.tagNow d i q
    let f := (v + n * 256 / max 1 (s.qWeight d q)) % 2 ^ 48
    (((s.set (.qs .vTime) d i v).set (.qs .tagF) d q f).set (.qs .tagS) d q f).set (.qs .passed) d q 0)
  let s2 := ((s1.inc (.qs .nQDeqPkts) d q).traceItem d r.tag trcDequeued (locContainer d i)
    ((s1.occ d q + 1023) / 1024)).ptpNear d i r
  if r.ct && !r.fin then s2.ringEdit d r.id (fun r => { r with sent := true })
  else (s2.add (.qs .nQDeqBytes) d q r.len).ringDrop d q r.id false

/-- Serve the head of queue `q`. -/
def State.serve (s : State) (d i q : Nat) : State :=
  match s.headOf d q with
  | some r => if r.gap then (s.sendGap d i).ringDrop d q r.id true else s.sendFrame d i q r
  | none => s

/-- An empty queue with GAP_PEND: a marker at the next frame boundary (R253). -/
def State.pendingGap (s : State) (d i : Nat) : Option Nat :=
  (s.ctnQueues d i).find? (fun q => decide (s.ring d q = []) && decide (s.get (.qs .gapPend) d q ≠ 0))

/-- The container's scheduler runs: SCHED_EN, packet mode, no maintenance signal in place of frames, and no frame in
progress (R167, R259, R262). -/
def State.canSchedule (s : State) (d i : Nat) : Bool :=
  s.schedEn d i && decide (s.ctnMode d i = 1) && decide (s.ctnK (512 * d + i) ≠ 0) &&
    decide (s.ctnTxMaintenance d i = 0) &&
    !(s.ctnQueues d i).any (fun q => (s.ring d q).any (fun r => r.sent && !r.fin))

/-- SCHEDULER_SELECT (R253, R255, R259 to R262, R265). -/
def execSchedulerSelect (d i : Nat) (s : State) : Result :=
  finishIf (s.up d && s.canSchedule d i) s fun s =>
    let l := s.ctnQueues d i
    let s1 := (s.shpFill d i).each l fun s q => s.gatePurge d i q ((s.ring d q).length + 1)
    let s2 := s1.each l fun s q => s.noteHold d i q
    match s2.pendingGap d i with
    | some q => (s2.sendGap d i).set (.qs .gapPend) d q 0
    | none =>
      let s3 := s2.each l fun s q => if s.eligible d i q || decide (s.headOf d q = none) then s else s.set (.qs .passed) d q 1
      match s3.pick d i (l.filter (s3.eligible d i)) with
      | some q => s3.serve d i q
      | none => s3

-- Commits (R266).

/-- The windows of R266. -/
def qsWin (w : Nat) : Win :=
  match w with
  | 0 => .qsQ
  | 1 => .qsQpol
  | 2 => .qsCtn
  | 3 => .qsCpol
  | 4 => .qsShp
  | _ => .qsGate

/-- The entries of a window that hold or will hold something. -/
def State.planned (s : State) (w : Win) (d : Nat) : List Nat :=
  (((s.listed (.win w) d).map (fun (e : Nat × Nat) => e.1 / 16)) ++ ((s.listed (.winDirty w) d).map (fun (e : Nat × Nat) =>
    (if winHold ≤ e.1 then e.1 - winHold else e.1) / 16))).dedup

/-- The largest MTU among the packet ports of a die. -/
def State.mtuMax (s : State) (d : Nat) : Nat :=
  ((List.range 16).filter (fun p => decide (s.get (.hl .mode) d p = 1))).foldl (fun m p => max m (s.get (.hl .mtu) d p)) 0

/-- R246 on one policer entry. -/
def State.polOk (s : State) (w : Win) (d e : Nat) : Bool :=
  let p (k : Nat) : Nat := s.winPlan w d e k
  let alg := bits (p 0) 30 2
  let rates := decide (bits (p 0) 0 22 ≤ 3200000) && decide (bits (p 1) 0 22 ≤ 3200000)
  match alg with
  | 0 => rates
  | 1 => rates && decide (bits (p 0) 0 22 ≤ bits (p 1) 0 22) && decide (s.mtuMax d ≤ bits (p 2) 0 24) &&
      decide (s.mtuMax d ≤ bits (p 3) 0 24)
  | 2 => rates && decide (s.mtuMax d ≤ bits (p 2) 0 24)
  | _ => false

/-- The page range of a planned ring. -/
def State.planRing (s : State) (d q : Nat) : Nat × Nat :=
  (bits (s.winPlan .qsQ d q 1) 0 21, 2 ^ bits (s.winPlan .qsQ d q 0) 26 5)

/-- A planned queue is enabled. -/
def State.planEn (s : State) (d q : Nat) : Bool := bit (s.winPlan .qsQ d q 0) 31

/-- RING_LOG2 and RING_BASE change only while the queue is empty and has Q_EN = 0 (R266). -/
def State.ringChangeOk (s : State) (d q : Nat) : Bool :=
  (decide (bits (s.winPlan .qsQ d q 0) 26 5 = s.ringLog2 d q) &&
      decide (bits (s.winPlan .qsQ d q 1) 0 21 = bits (s.winWordAt .qsQ d q 1) 0 21)) ||
    (!s.qEn d q && decide (s.ring d q = []))

/-- R250, R256 and R258 on one queue entry. -/
def State.queueOk (s : State) (d q : Nat) : Bool :=
  let w0 := s.winPlan .qsQ d q 0
  let r := s.planRing d q
  let hi := bits (s.winPlan .qsQ d q 2) 0 20
  s.ringChangeOk d q && (!s.planEn d q ||
    (decide (1 ≤ bits w0 26 5) && decide (bits w0 26 5 ≤ 20) && decide (r.1 % r.2 = 0) && decide (r.1 + r.2 ≤ 1703936) &&
      (decide (hi = 0) || decide (bits (s.winPlan .qsQ d q 3) 0 20 < hi)) &&
      decide (s.ctnMode d (bits w0 0 9) = 1) && (bit w0 23 || decide (1 ≤ bits w0 12 8)) &&
      (s.planned .qsQ d).all (fun x => decide (x = q) || !s.planEn d x ||
        (!(decide (bits (s.winPlan .qsQ d x 0) 0 9 = bits w0 0 9) &&
            decide (bits (s.winPlan .qsQ d x 0) 9 3 = bits w0 9 3)) &&
          (decide (r.1 + r.2 ≤ (s.planRing d x).1) ||
            decide ((s.planRing d x).1 + (s.planRing d x).2 ≤ r.1))))))

/-- The packet-mode containers of a die that egress by port `p`, by the planned entries. -/
def State.egressSum (s : State) (d p : Nat) : Nat :=
  (((s.ctnsOf d).filter (fun i => decide (s.ctnMode d i = 1) && decide (bits (s.winPlan .qsCtn d i 0) 16 4 = p))).map
    (fun i => s.ctnK (512 * d + i))).sum

/-- EGRESS_PORT names an enabled packet port, and the slots toward it fit it (R258). -/
def State.egressOk (s : State) (d i : Nat) : Bool :=
  let p := bits (s.winPlan .qsCtn d i 0) 16 4
  decide (s.ctnMode d i ≠ 1) ||
    (decide (s.get (.hl .mode) d p = 1) && decide (s.egressSum d p * 5 ≤ portSpeed (s.get (.hl .speed) d p)))

/-- R263 on the admin list. -/
def State.gateListOk (s : State) (d : Nat) : Bool :=
  (List.range (s.get (.qs .adminLen) d 0)).all (fun e =>
    let n := bits (s.winPlan .qsGate d e 1) 0 30
    decide (16 ≤ n) && decide (n ≤ 1000000000))

/-- The checks of R266 on the entries of a window as they will stand. -/
def State.qsCheck (s : State) (w d : Nat) : Bool :=
  match w with
  | 0 => (s.planned .qsQ d).all (s.queueOk d)
  | 1 => (s.planned .qsQpol d).all (s.polOk .qsQpol d)
  | 2 => ((s.planned .qsCtn d).all (s.egressOk d))
  | 3 => (s.planned .qsCpol d).all (s.polOk .qsCpol d)
  | 4 => true
  | _ => (s.planned .qsGate d).all (fun e => decide (256 ≤ e) ||
      (decide (16 ≤ bits (s.winPlan .qsGate d e 1) 0 30) && decide (bits (s.winPlan .qsGate d e 1) 0 30 ≤ 1000000000)))

/-- The words written since the last commit are dropped: every entry stays as before. -/
def State.dropStaged (s : State) (w : Win) (d : Nat) : State :=
  s.clear (fun k => (decide (k.cell = .winDirty w) || decide (k.cell = .winNew w)) && decide (k.die = d) &&
    decide (k.idx < winHold))

/-- QS_WINDOW_COMMIT (R266): checked, then scheduled; a failure leaves every entry as before. -/
def State.qsCommit (s : State) (d w : Nat) : State :=
  if s.qsCheck w d then s.commitWin (qsWin w) d else s.dropStaged (qsWin w) d
def execQsWindowCommit (d w : Nat) (s : State) : Result :=
  finishIf (s.up d && decide (w < 6)) s fun s => s.qsCommit d w

/-- The entries of a window whose committed words wait. -/
def State.changing (s : State) (w : Win) (d : Nat) : List Nat :=
  (((s.listed (.winDirty w) d).filter (fun e => decide (winHold ≤ e.1))).map (fun e => (e.1 - winHold) / 16)).dedup

/-- A changed policer entry refills its buckets (R248); a changed shaper entry sets them as TOKEN_RESET says (R261). -/
def State.polRefill (s : State) (d x : Nat) : State :=
  ((s.set (.qs .polC) d x 0).set (.qs .polP) d x 0).set (.qs .polAt) d x (s.get (.sys .time) 0 0)
def State.shpRefill (s : State) (d i : Nat) : State :=
  let r := s.shpReset d i
  ((s.set (.qs .shpC) d i (if r then 8000 * s.shpCbs d i else 0)).set (.qs .shpE) d i
    (if r then 8000 * s.shpEbs d i else 0)).set (.qs .shpAt) d i (s.get (.sys .time) 0 0)

/-- The committed entries of a window take effect. -/
def State.qsApply (s : State) (d w : Nat) : State :=
  let l := s.changing (qsWin w) d
  let s1 := s.applyWin (qsWin w) d
  match w with
  | 0 => (s1.each l fun s q => s.xoffFollow d q).brakeFollow d
  | 1 => s1.each l fun s q => s.polRefill d q
  | 3 => s1.each l fun s i => s.polRefill d (4096 + i)
  | 4 => s1.each l fun s i => s.shpRefill d i
  | _ => s1

/-- QS_COMMIT_APPLY (R248, R261, R266). -/
def execQsCommitApply (d w : Nat) (s : State) : Result :=
  finishIf (s.up d && decide (w < 6) && s.winBusy (qsWin w) d) s fun s => s.qsApply d w

-- The gate list (R264).

/-- The base time in ns. -/
def State.gateBase (s : State) (d : Nat) : Nat :=
  (s.get (.qs .gateBaseSHi) d 0 * 2 ^ 32 + s.get (.qs .gateBaseSLo) d 0) * 1000000000 + s.get (.qs .gateBaseNs) d 0

/-- The start instant: the base, or the first base + N · cycle, at least 10 µs after now. -/
def gateStartAt (base cycle now : Nat) : Nat :=
  let e := now + 10000
  if e ≤ base then base else base + (e - base + cycle - 1) / max 1 cycle * cycle

/-- GATE_COMMIT: the admin list is taken and its start fixed (R264). -/
def State.gateCommit (s : State) (d : Nat) : State :=
  if s.gateListOk d then
    let n := s.get (.qs .adminLen) d 0
    let c := s.get (.qs .gateCycle) d 0
    let t := gateStartAt (s.gateBase d) c (s.tbNow (s.get (.qs .gateTb) d 0))
    let s1 := s.each (List.range n) fun s e =>
      (s.set (.qs .gatePend) d (2 * e) (s.winPlan .qsGate d e 0)).set (.qs .gatePend) d (2 * e + 1) (s.winPlan .qsGate d e 1)
    ((((((s1.set (.qs .gatePendLen) d 0 n).set (.qs .gatePendCycle) d 0 c).set (.qs .gatePendAt) d 0 t).set
      (.qs .gatePending) d 0 1).set (.qs .gateStartNs) d 0 (t % 1000000000)).set (.qs .gateStartS) d 0
      (t / 1000000000)).inc (.qs .nGateCommit) d 0
  else s

/-- GATE_COMMIT (R264). -/
def execGateCommit (d : Nat) (s : State) : Result := finishIf (s.up d) s fun s => s.gateCommit d

/-- The pending list becomes the operating list. -/
def State.gateStartNow (s : State) (d : Nat) : State :=
  let n := s.get (.qs .gatePendLen) d 0
  let c := s.get (.qs .gatePendCycle) d 0
  let sum := ((List.range n).map (fun e => bits (s.get (.qs .gatePend) d (2 * e + 1)) 0 30)).sum
  let s1 := s.each (List.range n) fun s e =>
    (s.setWin .qsGate d (256 + e) 0 (s.get (.qs .gatePend) d (2 * e))).setWin .qsGate d (256 + e) 1
      (s.get (.qs .gatePend) d (2 * e + 1))
  (((((s1.set (.qs .operLen) d 0 n).set (.qs .operCycle) d 0 c).set (.qs .operValid) d 0 1).set (.qs .gateStart) d 0
    (s.get (.qs .gatePendAt) d 0)).set (.qs .gatePending) d 0 0).when (decide (c < sum)) (fun s =>
      s.event .qsGateCycleCut d 0)

/-- GATE_LIST_START (R263, R264). -/
def execGateListStart (d : Nat) (s : State) : Result :=
  finishIf (s.up d && s.flag (.qs .gatePending) d 0) s fun s => s.gateStartNow d

end Sys2Proof.Machine
end

