-- ==== Sys2Proof/Machine/Stack.lean ====
section
/-!
DEFINITION. What happens in a Pannier stack: its start-up procedures, corrected and uncorrectable reads, write-backs,
merge flushes, scrub laps, migration, table walks and the repair fuses (R55, R279 to R302).
-/
namespace Sys2Proof.Machine

-- Start-up (R55, R279 to R282).

/-- What is volatile of a stack and its page map. -/
def Cell.panVolatile : Cell → Bool
  | .pan c => decide (c = .taken) || decide (c = .given) || decide (c = .mapTo) || decide (c = .homeOf) ||
      decide (c = .out) || decide (c = .rebuild) || decide (c = .poison) || decide (c = .wbPend) ||
      decide (c = .migHome) || decide (c = .migDirty) || decide (c = .rowPages) || decide (c = .records)
  | .win w => decide (w = .panRetire) || decide (w = .panRepair)
  | _ => false

/-- Everything volatile of the stack of die `d` begins again; the fuse map and the stack's own repairs stay. -/
def State.panBegin (s : State) (d : Nat) : State :=
  let s1 := s.clear (fun k => decide (k.die = d) && k.cell.panVolatile)
  let s2 := { s1 with tracker := s1.tracker.filter (fun t => decide (t.die ≠ d)) }
  let s3 := { s2 with retireQ := s2.retireQ.filter (fun t => decide (t.die ≠ d)) }
  let s4 := { s3 with merge := s3.merge.filter (fun t => decide (t.die ≠ d)) }
  (((s4.set (.pan .sparesLeft) d 0 (panPages - spareBase)).spareFollow d).retireFollow d).lower .panWalkFault d 0

/-- A page moves onto the lowest spare without a retirement record; a page of the pool only leaves it. -/
def State.ontoSpare (s : State) (d p : Nat) : State :=
  if s.isFree d p then s.takeSpare d p
  else
    match s.lowestSpare d with
    | some n => (s.takeSpare d n).remap d (s.homeAt d p) n
    | none => s

/-- Step 2 of R280: the fuse map is shown, and each row that the stack does not hold is pending, its pages on spares. -/
def State.repairMap (s : State) (d : Nat) : State :=
  let s1 := s.each (List.range 128) fun s e =>
    let pend := decide (s.fuseKind d e = 1) && !s.flag (.pan .pprHeld) d e
    (s.setWin .panRepair d e 0 (putBits (s.fuseWord d e 0) 28 2 pend.toNat)).setWin .panRepair d e 1 (s.fuseWord d e 1)
  let rows := (s1.fuseOf d 1).filter (fun e => !s1.flag (.pan .pprHeld) d e)
  let s2 := s1.each rows fun s e =>
    let p := rowPage (bits (s.fuseWord d e 1) 20 4) (bits (s.fuseWord d e 1) 0 16)
    s.each (List.range 4) fun s i => s.ontoSpare d (p + i)
  let s3 := s2.each rows fun s e => s.set (.pan .rowPages) d e 15
  ((s3.set (.pan .fuseFree) d 0 (s3.fuseOf d 0).length).set (.pan .appliedNew) d 0 0).set (.pan .pprLeft) d 0
    (512 - ((s3.fuseOf d 1).filter (fun e => s3.flag (.pan .pprHeld) d e)).length)

/-- One fault of step 5 of R280: kind 0 a data bit, 1 a check bit, 2 uncorrectable.  Its page is retired at once; none of
the causes of PAN_RETIRE names a correctable fault of this step, so that record's CAUSE is a free value (log 5). -/
def State.initFault (s : State) (d : Nat) (f : Nat × Nat) : State :=
  let s1 := match f.2 with
    | 0 => s.inc (.pan .nCeData) d 0
    | 1 => s.inc (.pan .nCeCheck) d 0
    | _ => (s.inc (.pan .nUe) d 0).event .panUe d 0
  let s2 := ((s1.inc (.pan .nHard) d 0).event .panHardFault d 0)
  let p := f.1 / 128
  if s2.isFree d p then s2.takeSpare d p
  else if !s2.inUse d p then s2
  else
    match s2.lowestSpare d with
    | some n =>
      let cause := if f.2 = 2 then 2 else s2.freeBits 2
      (((s2.used.takeSpare d n).remap d (s2.homeAt d p) n).retireRecord d cause f.1 p n false)
    | none => s2

/-- The pages that the faults of step 5 need. -/
def State.initNeed (s : State) (d : Nat) (faults : List (Nat × Nat)) : Nat :=
  (((faults.map (fun f => f.1 / 128)).dedup).filter (fun p => s.inUse d p || s.isFree d p)).length

/-- The result code of PANNIER_INIT (R281); 0: success. -/
def State.initCode (s : State) (d : Nat) (train geometry map key : Bool) (faults : List (Nat × Nat)) : Nat :=
  if !train then 1 else if !geometry then 2 else if !map then 3
  else if !key || !s.flag (.sbg .rngOk) 0 0 then 5
  else if s.get (.pan .sparesLeft) d 0 < s.initNeed d faults then 4 else 0

/-- PANNIER_INIT (R280, R281, R283): `map` is the verdict of the fuse map's CRC, `key` that the wrapped XTS key arrived,
`faults` the granules that step 5 finds in error. -/
def State.pannierInit (s : State) (d : Nat) (train geometry map key : Bool) (faults : List (Nat × Nat)) : State :=
  let s1 := (s.panBegin d).panState d panInit
  let s2 := if train && geometry && map then (s1.repairMap d).drbg true else s1
  let code := s2.initCode d train geometry map key faults
  if code = 0 then
    (((s2.set (.pan .xtsReady) d 0 1).each faults (fun s f => s.initFault d f)).panState d panReady).procEnd 1 true 0
  else if code = 4 then ((s2.set (.pan .xtsReady) d 0 1).panState d panFailed).procEnd 1 false 4
  else ((s2.set (.pan .xtsReady) d 0 0).panState d panFailed).procEnd 1 false code

/-- PANNIER_INIT (R280). -/
def execPannierInit (d : Nat) (train geometry map key : Bool) (faults : List (Nat × Nat)) (s : State) : Result :=
  finishIf (s.up d && s.called 1 && decide (s.procArg 1 0 % 8 = d)) s fun s => s.pannierInit d train geometry map key faults

/-- ECC_SELFTEST (R55): `pass`: every step of the test gave the expected result. -/
def execEccSelftest (d : Nat) (pass : Bool) (s : State) : Result :=
  finishIf (s.up d && s.called 2 && decide (s.procArg 2 0 % 8 = d)) s fun s =>
    ((s.set (.boot .eccRan) 0 0 (putBit (s.get (.boot .eccRan) 0 0) d true)).set (.boot .eccPass) 0 0
      (putBit (s.get (.boot .eccPass) 0 0) d pass)).procEnd 2 pass 0

/-- One pending row is repaired (R282): a row that verifies is APPLIED, and its verified pages join the pool; a row that
does not is FAILED and stays on spares. -/
def State.repairRow (s : State) (d e : Nat) (r : RowRepair) : State :=
  let w := s.winWordAt .panRepair d e 0
  if r.ok then
    let p := rowPage (bits (s.fuseWord d e 1) 20 4) (bits (s.fuseWord d e 1) 0 16)
    let s1 := ((((s.setWin .panRepair d e 0 (putBits w 28 2 0)).set (.pan .pprHeld) d e 1).set (.pan .appliedNew) d 0
      (s.get (.pan .appliedNew) d 0 + 1)).set (.pan .pprLeft) d 0 (s.get (.pan .pprLeft) d 0 - 1)).set (.pan .rowPages) d e 0
    s1.each (maskBits 4 r.pages) fun s i => s.giveSpare d (p + i)
  else s.setWin .panRepair d e 0 (putBits w 28 2 2)

/-- The rows that APPLY_REPAIR works on: entries shown PENDING. -/
def State.pendingRows (s : State) (d : Nat) : List Nat :=
  (List.range 128).filter (fun e => decide (bits (s.winWordAt .panRepair d e 0) 30 2 = 1) &&
    decide (bits (s.winWordAt .panRepair d e 0) 28 2 = 1))

/-- APPLY_REPAIR (R281, R282): the rows in order; code 6 unless TOLERATE. -/
def execApplyRepair (d : Nat) (rows : List RowRepair) (s : State) : Result :=
  finishIf (s.up d && s.called 3 && decide (s.procArg 3 0 % 8 = d)) s fun s =>
    let l := s.pendingRows d
    let got (i : Nat) : RowRepair := rows.getD i ⟨false, 0⟩
    let s1 := s.each (List.range l.length) fun s i => s.repairRow d (l.getD i 0) (got i)
    let ok := (List.range l.length).all (fun i => (got i).ok)
    s1.procEnd 3 (ok || bit (s.procArg 3 1) 0) (if ok then 0 else 6)

-- Reads (R285, R286, R288).

/-- PAN_CORRECTED_READ (R285, R293, R294): the corrected granule waits for its write-back, unless a merge entry of it takes
the correction in, or the scrubber read a MIGRATING page's granule that is already copied. -/
def execPanCorrectedRead (d g : Nat) (check scrub : Bool) (s : State) : Result :=
  finishIf (s.up d && s.panOk d) s fun s =>
    let s1 := (s.inc (if check then .pan .nCeCheck else .pan .nCeData) d 0).track d g
    let h := s.homeAt d (g / 128)
    let merged := s.merge.any (fun e => decide (e.die = d) && decide (e.gran = h * 128 + g % 128))
    let copied := scrub && s.migrating d h && s.flag (.pan .migDirty) d (g % 128)
    if merged || copied then s1 else s1.set (.pan .wbPend) d g 1

/-- PAN_WRITE_BACK (R285): an error in the read-back is a hard fault with cause WB_FAIL. -/
def execPanWriteBack (d g : Nat) (ok : Bool) (s : State) : Result :=
  finishIf (s.up d && s.panOk d && s.flag (.pan .wbPend) d g) s fun s =>
    let s1 := s.set (.pan .wbPend) d g 0
    if ok then s1 else (s1.inc (.pan .nWbFail) d 0).hardFault d g 1

/-- A queued frame is lost to an uncorrectable payload (R288): not started, it goes as if VOID and GAP_PEND rises; started,
it ends with the error marker. -/
def State.payloadLost (s : State) (d q id : Nat) : State :=
  match (s.ring d q).find? (fun r => decide (r.id = id) && !r.gap && !r.void) with
  | some r =>
    let s1 := s.inc (.pan .nQLossPkts) d 0
    if r.sent then s1.ringDrop d q id false
    else
      (({ s1 with rings := s1.rings.map (fun x => if x = r then { x with void := true, fin := true } else x) }).set
        (.qs .gapPend) d q (min 65535 (s1.get (.qs .gapPend) d q + 1))).traceItem d r.tag trcDropped
          (locContainer d (s.qCtn d q)) 9
  | none => s

/-- A ring whose record headers cannot be read is flushed with one gap marker (R288). -/
def State.headerLost (s : State) (d q : Nat) : State :=
  let l := s.ring d q
  let n := min 65535 (l.filter (fun r => !r.gap && !r.sent)).length
  let s1 := State.occSub { s with rings := s.rings.filter (fun r => decide (r.die ≠ d) || decide (r.queue ≠ q)) } d q
    (s.occ d q)
  ((s1.add (.pan .nQLossPkts) d 0 n).inc (.pan .nQFlush) d 0).sendGap d (s.qCtn d q)

/-- An uncorrectable or poisoned granule, or an access that failed its walk, reaches its user (R288, R302); the Tandem,
deskew, walk and Courier users show it by their own commands. -/
def State.usageLost (s : State) (d : Nat) (u : PanUse) : State :=
  match u with
  | .ringWrite q => s.dropFull d q
  | .ringPayload q id => s.payloadLost d q id
  | .ringHeader q => s.headerLost d q
  | _ => s

/-- PAN_UNCORRECTABLE_READ (R286, R288, R293, R296): a poisoned granule only counts; a fresh one is poisoned and a hard
fault.  A copy read of a migration poisons the granule in the spare unless it is DIRTY. -/
def execPanUncorrectableRead (d g : Nat) (u : PanUse) (s : State) : Result :=
  finishIf (s.up d && s.panOk d) s fun s =>
    let s1 := if s.flag (.pan .poison) d g then s.inc (.pan .nPoisonRd) d 0 else s.freshUe d g
    s1.usageLost d u

/-- MERGE_FLUSH (R286, R287): an entry's time has passed; `oldUe`: the old bytes are uncorrectable; `cipherBad`: the cipher
check fails on the write. -/
def execMergeFlush (d hg : Nat) (oldUe cipherBad : Bool) (s : State) : Result :=
  finishIf (s.up d && s.panOk d) s fun s =>
    match s.merge.find? (fun e => decide (e.die = d) && decide (e.gran = hg)) with
    | some e => s.mergeFlush e oldUe cipherBad
    | none => s

-- Scrubbing (R292).

/-- SCRUB_LAP_END (R292). -/
def execScrubLapEnd (d ms : Nat) (s : State) : Result :=
  finishIf (s.up d && s.panOk d && s.flag (.pan .scrubEn) d 0) s fun s =>
    (((s.set (.pan .lastLapMs) d 0 (satU 24 ms)).inc (.pan .nScrubLaps) d 0).trackClear d).when
      (decide (s.get (.pan .lapMax) d 0 * 1000 < ms)) (fun s => s.event .panScrubSlow d 0)

/-- TRACKER_CLEAR_TIMER (R292): with SCRUB_EN = 0, every LAP_MAX seconds. -/
def execTrackerClearTimer (d : Nat) (s : State) : Result :=
  finishIf (s.up d && s.panOk d && !s.flag (.pan .scrubEn) d 0) s fun s => (s.trackClear d).set (.pan .lastLapMs) d 0 0

-- Migration (R295 to R298).

/-- The first page of the retirement queue of a die. -/
def State.retireHead (s : State) (d : Nat) : Option (RetireReq × List RetireReq) :=
  takeFirst (fun r : RetireReq => decide (r.die = d)) s.retireQ

/-- A page is retired in place (R298): OUT in regions 2 to 4, in service elsewhere; its record's NEW_PPN is a free value
(log 5). -/
def State.retireInPlace (s : State) (d : Nat) (r : RetireReq) : State :=
  let h := s.homeAt d r.ppn
  let s1 := s.used.retireRecord d r.cause r.gran r.ppn (s.freeBits 22) true
  if 2 ≤ regionOf h ∧ regionOf h ≤ 4 then s1.set (.pan .out) d h 1 else s1

/-- A queued page begins to migrate to the lowest spare (R296 step 1). -/
def State.migrateBegin (s : State) (d n : Nat) (r : RetireReq) : State :=
  ((((((s.takeSpare d n).clear (fun k => decide (k.cell = .pan .migDirty) && decide (k.die = d))).set (.pan .migHome) d 0
    (s.homeAt d r.ppn + 1)).set (.pan .migNew) d 0 n).set (.pan .migGran) d 0 r.gran).set (.pan .migCause) d 0 r.cause).set
      (.crr .state) d 0 1

/-- PAGE_MIGRATION_START (R295, R296, R298). -/
def execPageMigrationStart (d : Nat) (s : State) : Result :=
  finishIf (s.up d && s.panOk d && decide (s.get (.pan .migHome) d 0 = 0) && decide (s.stage d ≠ 1)) s fun s =>
    match s.retireHead d with
    | some (r, rest) =>
      let s1 := State.retireFollow { s with retireQ := rest } d
      match s1.lowestSpare d with
      | some n => s1.migrateBegin d n r
      | none => s1.retireInPlace d r
    | none => s

/-- The copy (R296 step 4): DIRTY granules are skipped, the others copied, poison with them. -/
def State.migrateCopy (s : State) (d old new : Nat) : State :=
  s.each (List.range 128) fun s o =>
    if s.flag (.pan .migDirty) d o then s.inc (.pan .nMigSkip) d 0
    else if s.flag (.pan .poison) d (old * 128 + o) then s.poisonWrite d (new * 128 + o)
    else s

/-- The swap (R296 step 5), the record and channel 0's descriptor, which is done. -/
def State.migrateEnd (s : State) (d : Nat) : State :=
  let h := s.get (.pan .migHome) d 0 - 1
  let old := s.pageAt d h
  let new := s.get (.pan .migNew) d 0
  let g := s.get (.pan .migGran) d 0
  let n := 128 - ((s.listed (.pan .migDirty) d).length)
  let s1 := (s.migrateCopy d old new).retireRecord d (s.get (.pan .migCause) d 0) g old new false
  let s2 := (s1.set (.pan .migHome) d 0 0).remap d h new
  (((s2.clear (fun k => decide (k.cell = .pan .migDirty) && decide (k.die = d))).set (.crr .state) d 0 0).inc
    (.crr .nDescDone) d 0).add (.crr .nBytes) d 0 (64 * n)

/-- PAGE_MIGRATION_DONE (R296). -/
def execPageMigrationDone (d : Nat) (s : State) : Result :=
  finishIf (s.up d && s.panOk d && decide (s.get (.pan .migHome) d 0 ≠ 0)) s fun s => s.migrateEnd d

-- Table walks (R301, R302).

/-- The home page of a virtual page. -/
def homeOfVpn (r v : Nat) : Nat := regionBase r + v

/-- PTE_WALK (R301, R302): `pUe`, `mUe`: the primary, the mirror granule is uncorrectable; `bad`: a VALID PTE with a wrong
tag, range or reserved bits. -/
def execPteWalk (d r v : Nat) (pUe mUe bad : Bool) (u : PanUse) (s : State) : Result :=
  finishIf (s.up d && s.panOk d && decide (v < regionSize r)) s fun s =>
    if (pUe && mUe) || bad then
      ((((s.inc (.pan .nWalkFault) d 0).set (.pan .rebuild) d (homeOfVpn r v) 1).raise .panWalkFault d 0)).usageLost d u
    else s.incIf pUe (.pan .nWalkRepair) d 0

/-- PTE_REBUILD_DONE (R302): WALK_FAULT clears when no rebuilt PTE remains outstanding. -/
def execPteRebuildDone (d r v : Nat) (s : State) : Result :=
  finishIf (s.up d && s.flag (.pan .rebuild) d (homeOfVpn r v)) s fun s =>
    let s1 := s.set (.pan .rebuild) d (homeOfVpn r v) 0
    if s1.listed (.pan .rebuild) d = [] then s1.lower .panWalkFault d 0 else s1

end Sys2Proof.Machine
end

