-- ==== Sys2Proof/Machine/Kickstand.lean ====
section
/-!
DEFINITION. Kickstand: shutdown stages, wake sources, the wake of a carrier and of the package (R400, R429 to R434).
-/
namespace Sys2Proof.Machine

/-- The stages of `PWR_KS_STATUS`. -/
def ksAwake : Nat := 0
def ksDrain : Nat := 1
def ksClocksOff : Nat := 2
def ksIsolate : Nat := 3
def ksGated : Nat := 4
def ksWaking : Nat := 5

/-- Set the stage of carrier `d`. -/
def State.setStage (s : State) (d v : Nat) : State := s.set (.pwr .stage) d 0 v

/-- The package entry is in force. -/
def State.pkgEntry (s : State) : Bool := s.flag (.pwr .pkgMove) 0 0

/-- The package sleeps: every carrier die is gated. -/
def State.pkgAsleep (s : State) : Bool := s.flag (.pwr .pkgGated) 0 0

/-- The carriers that move through the shutdown stages with carrier `d`: all of them for the package (R432). -/
def State.ksWith (s : State) (d : Nat) : List Nat :=
  if s.pkgEntry then s.dies.filter (fun e => decide (s.stage e = s.stage d)) else [d]

/-- A port in use. -/
def State.portsOf (s : State) (d : Nat) : List Nat := (List.range 16).filter (fun p => s.flag (.hl .portEn) d p)

-- Shutdown (R432).

/-- DRAIN begins: BRAKE_N goes low and the ports enter idle with the announcement. -/
def State.ksBegin (s : State) (d : Nat) : State :=
  (s.setStage d ksDrain).each (s.portsOf d) fun s p => s.portIdle d p

/-- The records that remain in the rings of a queue are discarded. -/
def State.ksDiscard (s : State) (d q : Nat) : State :=
  let l := s.ring d q
  let s1 := { s with rings := s.rings.filter (fun r => decide (r.die ≠ d) || decide (r.queue ≠ q)) }
  let s2 := (s1.occSub d q (s.occ d q)).set (.qs .gapPend) d q 0
  (s2.each l fun s r => s.traceItem d r.tag trcDropped (locContainer d (s.qCtn d q)) 9).add (.pwr .nKsDrainDisc) 0 0
    l.length

/-- Every descriptor that has not finished is aborted (R312). -/
def State.abortAll (s : State) (d : Nat) : Nat → State
  | 0 => s
  | n + 1 =>
    match s.descs.find? (fun x => decide (x.die = d)) with
    | some x => (s.descAbort x).abortAll d n
    | none => s

/-- The page migration in progress completes (R297). -/
def State.migrateFinish (s : State) (d : Nat) : State :=
  if s.get (.pan .migHome) d 0 ≠ 0 then s.migrateEnd d else s

/-- The end of DRAIN on one carrier, and the entry to CLOCKS_OFF: the transmitter mutes with the system cause, the
Lantern saves the last locked CD estimate, and the stack enters self-refresh, or powers down with the package. -/
def State.ksClocks (s : State) (d : Nat) : State :=
  let s1 := ((s.each (s.queuesOf d) fun s q => s.ksDiscard d q).abortAll d s.descs.length).migrateFinish d
  let s2 := (s1.setStage d ksClocksOff).set (.lt .sysCause) d 0 (putBit (s1.get (.lt .sysCause) d 0) 1 true)
  let s3 := (s2.muteRefresh d).when (s2.flag (.lr .cdEstValid) d 0) fun s =>
    (s.set (.pwr .savedCd) d 0 (s.get (.lr .cdEst) d 0)).set (.pwr .savedCdValid) d 0 1
  if s3.panOk d then (s3.panState d (if s3.pkgEntry then panReset else panSelfRefresh)) else s3

/-- KS_DRAIN_END (R432). -/
def execKsDrainEnd (d : Nat) (s : State) : Result :=
  finishIf (s.up d && decide (s.stage d = ksDrain)) s fun s => s.each (s.ksWith d) fun s e => s.ksClocks e

/-- ISOLATE: the Chain ports and the Spoke link go OFF. -/
def State.ksIsolateIn (s : State) (d : Nat) : State :=
  ((s.setStage d ksIsolate).set (.chn .state) d 0 0).set (.chn .state) d 1 0

/-- GATED: the power gates open; container key slots and die state are lost. -/
def State.ksGate (s : State) (d : Nat) : State :=
  (((s.dieGone d).setStage d ksGated).set (.sys .dieReleased) 0 0 (putBit (s.get (.sys .dieReleased) 0 0) d false)).inc
    (.pwr .nKsEnter) 0 0

-- Waking.

/-- The wake is recorded (R434). -/
def State.wakeInfo (s : State) (src bell : Nat) : State :=
  ((s.set (.ao .wakeSource) 0 0 src).set (.ao .wakeCarrier) 0 0 (if src = 1 then bell else 0)).inc (.pwr .nWake) 0 (src - 1)

/-- A wake source that changes nothing (R433, R434). -/
def State.wakeIgnored (s : State) : State := s.inc (.pwr .nWakeIgnored) 0 0

/-- The keys of the die's containers are sent again; until each arrives its container is in NOKEY (R319, R434). -/
def State.keysAgain (s : State) (d : Nat) : State :=
  s.each (s.encrypted.filter (fun x => decide (x.1 = d))) fun s x =>
    let i := x.2
    let s1 := (s.set (.cry .txState) d i cryNokey).set (.cry .rxState) d i cryNokey
    (s1.when (decide (s1.get (.cry .txKeySms) d i ≠ 0)) (fun s => s.set (.cry .restore) d (2 * i) 1)).when
      (decide (s1.get (.cry .rxLast) d i ≠ 0)) (fun s => s.set (.cry .restore) d (2 * i + 1) 1)

/-- A gated carrier wakes: the Lantern ungates the die, firmware restores its configuration, the lead die sends a fresh
wrap nonce, the stack leaves self-refresh, and the Chain ports, the line and the host ports start (R434). -/
def State.startWake (s : State) (d src bell : Nat) : State :=
  let s1 := (((s.setStage d ksWaking).set (.sys .dieReleased) 0 0 (putBit (s.get (.sys .dieReleased) 0 0) d true)).set
    (.pwr .wakeEn) d 0 0).wakeInfo src bell
  let s2 := s1.each (List.range 2) fun s p => if s.flag (.chn .portEn) d p then s.chainEnable d p else s
  let s3 := ((s2.wrapNonce d).keysAgain d).when (decide (s2.get (.pan .state) d 0 = panSelfRefresh)) fun s =>
    (s.panState d panReady).set (.sbg .xtsPend) 0 d 1
  let s4 := s3.when (s3.flag (.pwr .savedCdValid) d 0) fun s =>
    ((s.set (.lr .cdEst) d 0 (s.get (.pwr .savedCd) d 0)).set (.lr .cdEstValid) d 0 1).cdNear d
  let s5 := s4.when (s4.flag (.lt .txEn) d 0) fun s => (s.set (.lt .txState) d 0 txWaitLaser).muteRefresh d
  let s6 := s5.when (s5.rxOn d) fun s => (s.rxAttempt d).opticsRefresh d
  (s6.each (s6.portsOf d) fun s p => s.portStart d p).lofFollow d

/-- Shutdown reverses from DRAIN or CLOCKS_OFF (R433): the ports leave idle, and a transmitter that had begun step 4 of
R87 restarts from it. -/
def State.ksReverse (s : State) (d : Nat) : State :=
  let off := decide (s.stage d = ksClocksOff)
  let s1 := (s.setStage d ksAwake).set (.pwr .wakeEn) d 0 0
  let s2 := s1.when off fun s =>
    let s' := (s.set (.lt .sysCause) d 0 (putBit (s.get (.lt .sysCause) d 0) 1 false)).set (.lt .otherCause) d 0 0
    (s'.when (decide (s'.get (.pan .state) d 0 = panSelfRefresh)) (fun s => s.panState d panReady)).muteRefresh d
  s2.each (s2.portsOf d) fun s p => s.portWake d p

/-- A wake source acts on carrier `d` (R433, R434). -/
def State.wakeDie (s : State) (d src bell : Nat) : State :=
  if s.stage d = ksAwake then s
  else if s.stage d = ksWaking ∨ s.flag (.pwr .lateWake) d 0 ∨ ¬ bit (s.get (.pwr .wakeEn) d 0) (src - 1) then s.wakeIgnored
  else if s.stage d = ksGated then s.startWake d src bell
  else if s.stage d = ksIsolate then
    ((s.set (.pwr .lateWake) d 0 src).set (.pwr .lateBell) d 0 bell).inc (.pwr .nKsLateWake) 0 0
  else ((s.ksReverse d).wakeInfo src bell).inc (.pwr .nKsReverse) 0 0

/-- Every rail is inside its window (R427). -/
def State.railsOk (s : State) : Bool := !s.anyAlm (fun c _ _ => match c with
  | .live a => decide (a ∈ [Alm.pgVddCore, .pgVddSrds, .pgVddhSrds, .pgVddConv, .pgVddhConv, .pgVddPan, .pgVddqPan, .pgVddOe,
      .pgVio, .pgVhvp, .pgVhvn])
  | _ => false)

/-- The time bases are loaded from the always-on counter, each with its offset to TB0 (R400). -/
def State.tbFromAo (s : State) : State :=
  let base : Int := (s.get (.tim .aoSec) 0 0 * 1000000000 + s.get (.tim .aoNs) 0 0 : Nat)
  (s.each (List.range 4) fun s i =>
    let t := (base + s.getI (.tim .tbOfs) 0 i).toNat
    (s.set (.tim .tbSec) 0 i (t / 1000000000 % 2 ^ 48)).set (.tim .tbNs) 0 i (t % 1000000000)).set (.tim .fromAo) 0 0 1

/-- The package wakes: start-up begins at step 2 of R56. -/
def State.pkgWake (s : State) (src bell : Nat) : State := ((s.restart).tbFromAo).wakeInfo src bell

/-- A wake source acts on the package (R427, R433, R434). -/
def State.wakePkg (s : State) (src bell : Nat) : State :=
  let st := s.stage 0
  if ¬ bit (s.get (.pwr .pkgWakeEn) 0 0) (src - 1) ∨ s.flag (.pwr .lateWake) 0 0 ∨ s.flag (.pwr .waitWake) 0 0 then
    s.wakeIgnored
  else if st = ksGated then
    if s.railsOk then s.pkgWake src bell
    else (s.set (.pwr .waitWake) 0 0 src).set (.pwr .waitBell) 0 0 bell
  else if st = ksIsolate then
    ((s.set (.pwr .lateWake) 0 0 src).set (.pwr .lateBell) 0 0 bell).inc (.pwr .nKsLateWake) 0 0
  else
    ((((s.each (s.ksWith 0) fun s e => s.ksReverse e).set (.pwr .pkgMove) 0 0 0).wakeInfo src bell).inc
      (.pwr .nKsReverse) 0 0)

/-- A wake source acts on what sleeps there: the package, or the carrier. -/
def State.wakeSource (s : State) (d src : Nat) : State := if s.pkgEntry then s.wakePkg src d else s.wakeDie d src d

/-- The lead die copies TB0, and the offsets of the other time bases, into the Lantern (R400). -/
def State.tbToAo (s : State) : State :=
  let now (i : Nat) : Int := (s.get (.tim .tbSec) 0 i * 1000000000 + s.get (.tim .tbNs) 0 i : Nat)
  let s1 := ((s.set (.tim .aoSec) 0 0 (s.get (.tim .tbSec) 0 0)).set (.tim .aoNs) 0 0 (s.get (.tim .tbNs) 0 0)).each
    (List.range 4) fun s i => s.setI (.tim .tbOfs) 0 i (now i - now 0)
  s1.set (.clk .wasQual) 0 0 (((List.range 14).filter (fun r => decide (s.get (.clk .qstate) 0 r = 3))).map (fun r => 2 ^ r)).sum

/-- Every carrier die is gated, the lead die last: only the Lantern and the always-on island run (R429, R432). -/
def State.pkgGate (s : State) : State :=
  let en := s.get (.pwr .pkgWakeEn) 0 0
  let late := s.get (.pwr .lateWake) 0 0
  let bell := s.get (.pwr .lateBell) 0 0
  let delay := s.get (.pwr .wakeDelay) 0 0
  let s1 := (s.tbToAo).diesReset
  let s2 := ((((s1.each s1.dies fun s d => s.setStage d ksGated).set (.pwr .pkgGated) 0 0 1).set (.pwr .pkgMove) 0 0 1).set
    (.pwr .pkgWakeEn) 0 0 en).set (.pwr .wakeDelay) 0 0 delay
  let s3 := (s2.set (.boot .step) 0 0 1).set (.boot .state) 0 0 bootKickstand
  if late = 0 then s3 else s3.wakePkg late bell

/-- KS_STAGE_COMPLETE (R432, R433): CLOCKS_OFF to ISOLATE, ISOLATE to GATED, where a late wake follows at once. -/
def execKsStageComplete (d : Nat) (s : State) : Result :=
  finishIf (s.present d && (decide (s.stage d = ksClocksOff) || decide (s.stage d = ksIsolate))) s fun s =>
    if s.stage d = ksClocksOff then s.each (s.ksWith d) fun s e => s.ksIsolateIn e
    else if s.pkgEntry then s.pkgGate
    else
      let late := s.get (.pwr .lateWake) d 0
      let s1 := (s.ksGate d).set (.pwr .lateWake) d 0 0
      if late = 0 then s1 else s1.startWake d late (s.get (.pwr .lateBell) d 0)

/-- KS_WAKE_SOURCE (R434): source 1 is the wake request that an accepted Bell WAKE has raised. -/
def execKsWakeSource (d src : Nat) (s : State) : Result :=
  finishIf (s.lantern d && (decide (src ≠ 1) || s.flag (.bell .wakeReq) d 0)) s fun s =>
    (s.when (decide (src = 1)) fun s => s.set (.bell .wakeReq) d 0 0).wakeSource d src

/-- KS_WAKE_TIMER (R434): WAKE_DELAY_S after entry, every carrier of the ticket, or the package. -/
def execKsWakeTimer (d : Nat) (s : State) : Result :=
  finishIf (s.lantern d && (s.pkgEntry || decide (s.stage d ≠ ksAwake))) s fun s =>
    if s.pkgEntry then s.wakePkg 2 0
    else s.each (maskBits 8 (s.get (.pwr .wakeGroup) d 0)) fun s e => s.wakeDie e 2 e

/-- WAKE_N_LOW (R434, R482): ignored while SYS_RST_N is low. -/
def execWakeNLow (s : State) : Result :=
  finishIf (s.lantern 0 && s.flag (.sys .sysRstN) 0 0) s fun s =>
    if s.pkgEntry then s.wakePkg 3 0 else s.each s.dies fun s d => s.wakeDie d 3 d

/-- KS_WAKE_COMPLETE (R434). -/
def execKsWakeComplete (d : Nat) (s : State) : Result :=
  finishIf (s.up d && decide (s.stage d = ksWaking)) s fun s => s.setStage d ksAwake

-- Entry (R431).

/-- Carriers enter per-carrier Kickstand: their shutdown begins. -/
def State.ksEnter (s : State) (mask en delay : Nat) : State :=
  s.each (maskBits 8 mask) fun s d =>
    if s.stage d ≠ ksAwake then s
    else
      ((((s.set (.pwr .wakeEn) d 0 en).set (.pwr .wakeDelay) d 0 delay).set (.pwr .wakeGroup) d 0 mask).set (.pwr .lateWake)
        d 0 0).ksBegin d

/-- The package enters Kickstand: the carriers that are awake pass through the stages together. -/
def State.ksEnterPkg (s : State) (en delay : Nat) : State :=
  let s1 := (((s.set (.pwr .pkgMove) 0 0 1).set (.pwr .pkgWakeEn) 0 0 (en % 8)).set (.pwr .wakeDelay) 0 0 delay).set
    (.pwr .lateWake) 0 0 0
  s1.each (s1.dies.filter (fun d => decide (s1.stage d = ksAwake))) fun s d => s.ksBegin d

/-- KICKSTAND_LEAVE wakes the carriers it names (R434). -/
def State.ksLeave (s : State) (mask : Nat) : State := s.each (maskBits 8 mask) fun s d => s.wakeDie d 4 d

end Sys2Proof.Machine
end

