-- ==== Sys2Proof/Machine/Bell.lean ====
section
/-!
DEFINITION. The Bell channel: chips and codes, keying paths, transmission, reception, discovery, adoption and wake (R347
to R365).
-/
namespace Sys2Proof.Machine

-- Codes and formats (R348, R349, R351, R364).

/-- Sequence a: a_(k+5) = a_(k+2) XOR a_k, from 0, 0, 0, 0, 1 (R349); the list holds the next five bits. -/
def goldA : Nat → List Nat → List Nat
  | 0, _ => []
  | n + 1, l => l.getD 0 0 :: goldA n (l.drop 1 ++ [(l.getD 2 0 + l.getD 0 0) % 2])

/-- Sequence b: b_(k+5) = b_(k+4) XOR b_(k+3) XOR b_(k+2) XOR b_k. -/
def goldB : Nat → List Nat → List Nat
  | 0, _ => []
  | n + 1, l => l.getD 0 0 :: goldB n (l.drop 1 ++ [(l.getD 4 0 + l.getD 3 0 + l.getD 2 0 + l.getD 0 0) % 2])

/-- Gold code `i`, 31 chips (R349). -/
def goldCode (i : Nat) : List Nat :=
  let a := goldA 31 [0, 0, 0, 0, 1]
  let b := goldB 31 [0, 0, 0, 0, 1]
  if i = 0 then a
  else if i = 1 then b
  else (List.range 31).map (fun k => (a.getD k 0 + b.getD ((k + i - 2) % 31) 0) % 2)

/-- Differential encoding of the data bits, e = 0 before the first (R348). -/
def bellEncode : Nat → List Nat → List Nat
  | _, [] => []
  | e, d :: r => (e + d) % 2 :: bellEncode ((e + d) % 2) r

/-- The chips of a message: chip k of bit n is g_k XOR e_n (R348). -/
def bellChips (code : Nat) (dataBits : List Nat) : List Nat :=
  (bellEncode 0 dataBits).flatMap (fun e => (goldCode code).map (fun g => (g + e) % 2))

/-- CRC-16 x¹⁶ + x¹² + x⁵ + 1, initial value 0xFFFF, most significant bit first (R351). -/
def crc16Bit (c b : Nat) : Nat := if (c / 2 ^ 15 + b) % 2 = 1 then (2 * c % 2 ^ 16) ^^^ 0x1021 else 2 * c % 2 ^ 16
def hcrc (bytes : List Nat) : Nat :=
  (bytes.flatMap (fun x => (List.range 8).map (fun i => x / 2 ^ (7 - i) % 2))).foldl crc16Bit 0xFFFF

/-- The header of a native message (R351). -/
def bellHeader (type bodyLen sender carrier dest destCarrier seq : Nat) (heard slow : Bool) : List Nat :=
  let h := [16 + type, bodyLen, carrier * 32 + sender / 256, sender % 256, destCarrier * 16 + dest / 256, dest % 256, seq,
    heard.toNat + 2 * slow.toNat]
  h ++ [hcrc h / 256, hcrc h % 256]

/-- BODY_LEN of a message type (R352). -/
def bellBodyLen (type : Nat) : Nat := if type = 1 then 32 else if type = 2 then 8 else 0

/-- The duration of a native message in 0.1 µs at the native rate: (160 + 8 × BODY_LEN) × Tb (R352). -/
def bellDuration (type : Nat) : Nat := (160 + 8 * bellBodyLen type) * 992

/-- Message types (R352). -/
def bellHello : Nat := 1
def bellGasp : Nat := 2
def bellWake : Nat := 3
def bellParked : Nat := 4

/-- Reasons of a LAST_GASP. -/
def gaspTamper : Nat := 1
def gaspRail : Nat := 2
def gaspRestart : Nat := 3

-- Keying paths (R350).

/-- The DSP path of carrier `d` is usable. -/
def State.dspPath (s : State) (d : Nat) : Bool :=
  s.up d && decide (s.txState d = txActive) && decide (s.get (.lt .bellDepth) d 0 ≠ 0) &&
    decide ((s.txMode d).lineStd = 0) && !s.flag (.chn .spokeLost) d 0

/-- Carrier `d` is in Kickstand, or powered off by the Lantern (R343, R427). -/
def State.bellAsleep (s : State) (d : Nat) : Bool :=
  (decide (ksClocksOff ≤ s.stage d) && decide (s.stage d ≤ ksGated)) || s.flag (.ao .powerOff) 0 0

/-- Light, VIO and both HV rails are good: the bias path can key. -/
def State.biasPath (s : State) (d : Nat) : Bool := s.flag (.bias .light) d 0 && !s.flag (.live .pgVio) 0 0 && s.hvGood

/-- The path on which a message of a type can go: 0 none, 1 DSP, 2 Lantern; HELLO and WAKE have no slow form, PARKED no
native one (R352). -/
def State.bellPath (s : State) (d type : Nat) : Nat :=
  if s.dspPath d && decide (type ≠ bellParked) then 1
  else if s.bellAsleep d && s.biasPath d && (decide (type = bellGasp) || (decide (type = bellParked) && s.flag (.bell .ksKey) d 0))
    then 2
  else 0

-- Transmission (R353, R354).

/-- Pending, by type. -/
def State.bellPend (s : State) (d type : Nat) (b : Bool) : State :=
  s.set (.bell .pend) d 0 (putBit (s.get (.bell .pend) d 0) (type - 1) b)
def State.bellPending (s : State) (d type : Nat) : Bool := bit (s.get (.bell .pend) d 0) (type - 1)

/-- The pending message with the highest priority; 0: none. -/
def State.bellTop (s : State) (d : Nat) : Nat :=
  ([bellGasp, bellWake, bellHello, bellParked].find? (fun t => s.bellPending d t)).getD 0

/-- TX_STATE and BELL_TX_BLOCKED follow; a LAST_GASP with no path is dropped. -/
def State.bellFollow (s : State) (d : Nat) : State :=
  let drop := decide (s.get (.bell .cur) d 0 = 0) && s.bellPending d bellGasp && decide (s.bellPath d bellGasp = 0)
  let s1 := if drop then (s.bellPend d bellGasp false).event .bellTxBlocked d 0 else s
  let t := s1.bellTop d
  let blocked := decide (s1.get (.bell .cur) d 0 = 0) && decide (t ≠ 0) && decide (s1.bellPath d t = 0)
  (s1.set (.bell .txState) d 0 (if s1.get (.bell .cur) d 0 ≠ 0 then 1 else if blocked then 2 else 0)).cond .bellTxBlocked d 0
    blocked

/-- The message in progress stops: TX_SRC 0; the bias points return from keying (R418). -/
def State.bellStop (s : State) (d : Nat) : State :=
  let k := s.keying d
  let s1 := (((s.set (.bell .cur) d 0 0).set (.bell .txSrc) d 0 0).set (.bell .txCompat) d 0 0)
  if k then s1.biasShow d else s1

/-- The message in progress is abandoned and sent again whole later. -/
def State.bellAbandon (s : State) (d : Nat) : State :=
  let c := s.get (.bell .cur) d 0
  if c = 0 then s else (s.bellStop d).bellPend d c true

/-- Queue a message. -/
def State.bellQueue (s : State) (d type : Nat) : State := (s.bellPend d type true).bellFollow d

/-- A LAST_GASP becomes pending: any other message in progress is abandoned at once (R353, R354). -/
def State.gaspQueue (s : State) (d reason : Nat) : State :=
  if s.flag (.bell .bellEn) d 0 && s.lantern d then
    let s1 := if s.get (.bell .cur) d 0 = bellGasp then s else s.bellAbandon d
    ((s1.set (.bell .gaspOut) d 0 reason).set (.bell .gaspOutLoc) d 0 locPackage).bellQueue d bellGasp
  else s

/-- BELL_TX_MESSAGE_START (R349, R353). -/
def execBellTxMessageStart (d : Nat) (s : State) : Result :=
  finishIf (s.lantern d && s.flag (.bell .bellEn) d 0 && decide (s.get (.bell .cur) d 0 = 0) && decide (s.bellTop d ≠ 0) &&
      decide (s.bellPath d (s.bellTop d) ≠ 0)) s fun s =>
    let t := s.bellTop d
    let code := s.get (.bell .code) d 0
    let fmt := decide (s.get (.bell .compat) d 0 = 2) || (decide (s.get (.bell .compat) d 0 = 1) && s.flag (.bell .peerCompat) d 0)
    let s1 := ((((s.set (.bell .txSrc) d 0 (s.bellPath d t)).set (.bell .cur) d 0 t).bellPend d t false).set (.bell .seqTx) d 0
      ((s.get (.bell .seqTx) d 0 + 1) % 256)).set (.bell .codeUsed) d 0 (if code ≤ 32 then code else s.get (.ao .nodeId) 0 0 % 33)
    let s2 := (s1.setB (.bell .txCompat) d 0 fmt).bellFollow d
    if s2.keying d then s2.biasShow d else s2

/-- A LAST_GASP of a carrier that the DSP keys has not completed. -/
def State.gaspGoing (s : State) (d : Nat) : Bool :=
  (decide (s.get (.bell .cur) d 0 = bellGasp) && decide (s.get (.bell .txSrc) d 0 = 1)) ||
    (s.bellPending d bellGasp && s.dspPath d)

/-- An accepted RESTART begins once every LAST_GASP that the DSP keys has completed (R354). -/
def State.restartFollow (s : State) : State :=
  if s.flag (.sys .restartPend) 0 0 && !s.dies.any s.gaspGoing then s.restart else s

/-- BELL_TX_DONE (R353). -/
def execBellTxDone (d : Nat) (s : State) : Result :=
  finishIf (s.lantern d && decide (s.get (.bell .cur) d 0 ≠ 0)) s fun s =>
    (((s.inc (.bell .nTxMsg) d 0).bellStop d).bellFollow d).restartFollow

/-- BELL_PATH_CHANGE (R353): the keying path changes or the transmitter restarts; a LAST_GASP that the Lantern has begun
goes on. -/
def execBellPathChange (d : Nat) (s : State) : Result :=
  finishIf (s.lantern d) s fun s =>
    let c := s.get (.bell .cur) d 0
    if c ≠ 0 ∧ s.bellPath d c ≠ s.get (.bell .txSrc) d 0 ∧ ¬ (c = bellGasp ∧ s.get (.bell .txSrc) d 0 = 2 ∧ s.txState d ≠ txActive)
    then ((s.bellAbandon d).bellFollow d).restartFollow
    else (s.bellFollow d).restartFollow

/-- BELL_HELLO_TIMER (R354): while discovery runs and the carrier is not DISCOVERED. -/
def execBellHelloTimer (d : Nat) (s : State) : Result :=
  finishIf (s.lantern d && s.flag (.bell .bellEn) d 0 && s.flag (.bell .discRun) d 0 && decide (s.get (.bell .discState) d 0 ≠ 3)) s
    fun s => s.bellQueue d bellHello

/-- BELL_PARKED_TIMER (R354, R429). -/
def execBellParkedTimer (d : Nat) (s : State) : Result :=
  finishIf (s.lantern d && s.flag (.bell .bellEn) d 0 && s.flag (.bell .ksKey) d 0 && decide (ksClocksOff ≤ s.stage d) &&
      decide (s.stage d ≤ ksGated)) s fun s => s.bellQueue d bellParked

/-- BELL_WAKE_TIMER (R354). -/
def execBellWakeTimer (d : Nat) (s : State) : Result :=
  finishIf (s.lantern d && s.flag (.bell .bellEn) d 0 && s.flag (.bell .peerParked) d 0 && s.rxOn d && s.awake d) s fun s =>
    s.bellQueue d bellWake

-- Reception (R356 to R359).

/-- States of RX_STATE. -/
def bellOff : Nat := 0
def bellSearch : Nat := 1
def bellDetected : Nat := 2
def bellHdr : Nat := 3
def bellBody : Nat := 4

def State.bellRx (s : State) (d : Nat) : Nat := s.get (.bell .rxState) d 0

/-- Back to SEARCH: the AGC runs again. -/
def State.bellIdle (s : State) (d : Nat) : State :=
  (((s.set (.bell .rxState) d 0 bellSearch).set (.bell .agcFrozen) d 0 0).set (.bell .rxSlow) d 0 0).set (.bell .rxCompat) d 0 0

/-- The receiver runs. -/
def State.bellOn (s : State) (d : Nat) : Bool := s.lantern d && s.flag (.bell .bellEn) d 0

/-- The format is one that COMPAT selects (R364). -/
def State.bellFormat (s : State) (d : Nat) (compat : Bool) : Bool :=
  if compat then decide (s.get (.bell .compat) d 0 ≠ 0) else decide (s.get (.bell .compat) d 0 ≠ 2)

/-- BELL_DETECT (R355, R357). -/
def execBellDetect (d : Nat) (slow : Bool) (s : State) : Result :=
  finishIf (s.bellOn d && decide (s.bellRx d = bellSearch)) s fun s =>
    (((s.set (.bell .rxState) d 0 bellDetected).set (.bell .agcFrozen) d 0 1).setB (.bell .rxSlow) d 0 slow).inc
      (.bell .nDetect) d 0

/-- HEADER is entered: RSSI is latched. -/
def State.bellHeaderIn (s : State) (d : Nat) (rssi : Int) (compat : Bool) : State :=
  ((s.set (.bell .rxState) d 0 bellHdr).set (.bell .rssi) d 0 (enc rssi % 2 ^ 16)).setB (.bell .rxCompat) d 0 compat

/-- BELL_SYNC_FOUND (R357); RSSI is in 0.25 dB. -/
def execBellSyncFound (d : Nat) (rssi : Int) (compat : Bool) (s : State) : Result :=
  finishIf (s.bellOn d && decide (s.bellRx d = bellDetected) && s.bellFormat d compat) s fun s => s.bellHeaderIn d rssi compat

/-- BELL_SYNC_TIMEOUT (R357). -/
def execBellSyncTimeout (d : Nat) (s : State) : Result :=
  finishIf (s.bellOn d && decide (s.bellRx d = bellDetected)) s fun s => (s.bellIdle d).inc (.bell .nFalseDet) d 0

/-- BELL_HEADER_DONE (R357): `ok`: HCRC, VER, TYPE and BODY_LEN are good. -/
def execBellHeaderDone (d : Nat) (ok : Bool) (s : State) : Result :=
  finishIf (s.bellOn d && decide (s.bellRx d = bellHdr) && !s.flag (.bell .rxCompat) d 0) s fun s =>
    if ok then s.set (.bell .rxState) d 0 bellBody else (s.bellIdle d).inc (.bell .nFalseDet) d 0

/-- BELL_BODY_DONE (R357): a message with a good CRC is offered. -/
def execBellBodyDone (d : Nat) (ok : Bool) (s : State) : Result :=
  finishIf (s.bellOn d && decide (s.bellRx d = bellBody)) s fun s =>
    if ok then (s.bellIdle d).set (.bell .offered) d 0 1 else (s.bellIdle d).inc (.bell .nCrcFail) d 0

/-- BELL_SIGNAL_FADE (R357). -/
def execBellSignalFade (d : Nat) (s : State) : Result :=
  finishIf (s.bellOn d && (decide (s.bellRx d = bellHdr) || decide (s.bellRx d = bellBody))) s fun s =>
    (s.bellIdle d).inc (if s.bellRx d = bellHdr then .bell .nFalseDet else .bell .nCrcFail) d 0

/-- BELL_CAPTURE (R358): a sync word at another offset. -/
def execBellCapture (d : Nat) (rssi : Int) (compat : Bool) (s : State) : Result :=
  finishIf (s.bellOn d && decide (bellDetected ≤ s.bellRx d) && s.bellFormat d compat &&
      (decide (s.bellRx d ≠ bellBody) ||
        decide (sext 16 (s.get (.bell .rssi) d 0) + 4 * s.get (.bell .captureDb) d 0 ≤ rssi))) s fun s =>
    (s.bellHeaderIn d rssi compat).inc (.bell .nCapture) d 0

/-- BELL_NOISE_UPDATE (R356), in 0.25 dB. -/
def execBellNoiseUpdate (d : Nat) (noise : Int) (s : State) : Result :=
  finishIf (s.bellOn d && decide (s.bellRx d = bellSearch)) s fun s => s.set (.bell .noise) d 0 (enc noise % 2 ^ 16)

/-- A message is accepted (R359). -/
def State.bellAccepts (s : State) (d : Nat) (m : BellMsg) (hello : Bool) : Bool :=
  decide (m.dest = 0xFFF) ||
    (decide (m.dest = s.get (.ao .nodeId) 0 0) && (decide (m.destCarrier = d) || (hello && !m.heard)))

/-- Discarded or refused. -/
def State.bellDisc (s : State) (d : Nat) : State := s.inc (.bell .nRxDisc) d 0

/-- The message comes from the recorded partner. -/
def State.fromPartner (s : State) (d : Nat) (m : BellMsg) : Bool :=
  s.flag (.bell .peerValid) d 0 && decide (m.sender = s.get (.bell .partner) d 0)

/-- An accepted message: counted; any but PARKED from the partner clears PEER_PARKED (R359). -/
def State.bellTake (s : State) (d : Nat) (m : BellMsg) : State :=
  (s.inc (.bell .nRxMsg) d 0).when (s.fromPartner d m) fun s => s.set (.bell .peerParked) d 0 0

/-- The offered message is consumed: accepted and handled, or discarded. -/
def State.bellOffer (s : State) (d : Nat) (m : BellMsg) (hello : Bool) (f : State → State) : State :=
  let s1 := s.set (.bell .offered) d 0 0
  if s1.bellAccepts d m hello then f s1 else s1.bellDisc d

/-- A message is offered on slot `d`. -/
def State.bellOffered (s : State) (d : Nat) : Bool := s.bellOn d && s.flag (.bell .offered) d 0

/-- A LAST_GASP is latched and logged at carrier level. -/
def State.gaspTake (s : State) (d : Nat) (m : BellMsg) (reason loc : Nat) : State :=
  ((((((s.bellTake d m).set (.bell .gaspValid) d 0 1).set (.bell .gaspCarrier) d 0 m.carrier).set (.bell .gaspSender) d 0
    m.sender).set (.bell .gaspReason) d 0 (reason % 16)).set (.bell .gaspLoc) d 0 loc).event .bellGaspRx d 0

/-- BELL_LAST_GASP_RX (R359). -/
def execBellLastGaspRx (d : Nat) (m : BellMsg) (reason loc : Nat) (s : State) : Result :=
  finishIf (s.bellOffered d) s fun s => s.bellOffer d m false fun s => s.gaspTake d m reason loc

/-- BELL_PARKED_RX (R359). -/
def execBellParkedRx (d : Nat) (m : BellMsg) (s : State) : Result :=
  finishIf (s.bellOffered d) s fun s => s.bellOffer d m false fun s =>
    (s.inc (.bell .nRxMsg) d 0).when (s.fromPartner d m) fun s => s.set (.bell .peerParked) d 0 1

/-- PEER_PARKED_TIMEOUT (R359). -/
def execPeerParkedTimeout (d : Nat) (s : State) : Result :=
  finishIf (s.lantern d && s.flag (.bell .peerParked) d 0) s fun s => s.set (.bell .peerParked) d 0 0

/-- A WAKE is accepted, or refused (R363). -/
def State.wakeTake (s : State) (d : Nat) (m : BellMsg) : State :=
  let now := s.get (.sys .time) 0 0
  let last := s.get (.bell .lastWake) d 0
  if s.flag (.bell .wakeEn) d 0 && s.fromPartner d m && (decide (last = 0) || decide (last + 10000000000 ≤ now + 1)) then
    (((s.bellTake d m).inc (.bell .nWakeRx) d 0).set (.bell .lastWake) d 0 (now + 1)).set (.bell .wakeReq) d 0 1
  else (s.bellDisc d).when (s.fromPartner d m) fun s => s.set (.bell .peerParked) d 0 0

/-- BELL_WAKE_RX (R363). -/
def execBellWakeRx (d : Nat) (m : BellMsg) (s : State) : Result :=
  finishIf (s.bellOffered d) s fun s => s.bellOffer d m false fun s => s.wakeTake d m

-- Discovery (R360 to R362).

/-- States of DISC_STATE. -/
def discIdle : Nat := 0
def discSearch : Nat := 1
def discHeard : Nat := 2
def discDone : Nat := 3
def discFailed : Nat := 4

/-- The result codes of R362. -/
def discTimeout : Nat := 1
def discMismatch : Nat := 2
def discGrid : Nat := 3
def discBank : Nat := 4
def discNotAvail : Nat := 5
def discNoDesc : Nat := 6

/-- DISC_STATE, with DISC_FAIL. -/
def State.discSet (s : State) (d v : Nat) : State := (s.set (.bell .discState) d 0 v).cond .bellDiscFail d 0 (decide (v = discFailed))

/-- BELL_DISCOVER runs for this carrier. -/
def State.discCalled (s : State) (d : Nat) : Bool := s.called 7 && decide (s.procArg 7 0 % 8 = d)

/-- Discovery fails; with TOLERATE it returns success and goes on (R362). -/
def State.discFail (s : State) (d code : Nat) : State :=
  let tol := s.flag (.bell .tolerate) d 0
  let s1 := ((s.discSet d discFailed).set (.bell .discFailReason) d 0 code).setB (.bell .discRun) d 0 tol
  s1.when (s1.discCalled d) fun s => s.procEnd 7 tol code

/-- The carrier is DISCOVERED. -/
def State.discEnd (s : State) (d : Nat) : State :=
  let s1 := (((s.discSet d discDone).set (.bell .discFailReason) d 0 0).set (.bell .peerValid) d 0 1).set (.bell .discRun) d 0 0
  s1.when (s1.discCalled d) fun s => s.procEnd 7 true 0

/-- Discovery starts (R360). -/
def State.discStart (s : State) (d node : Nat) (tolerate : Bool) : State :=
  let s1 := ((((((s.set (.bell .peerValid) d 0 0).set (.bell .peerCompat) d 0 0).set (.bell .peerParked) d 0 0).set
    (.bell .farCarrier) d 0 0).set (.bell .partner) d 0 0).set (.bell .descOk) d 0 0).set (.bell .discFailReason) d 0 0
  let s2 := (((s1.discSet d discSearch).set (.bell .expNode) d 0 (node % 4096)).setB (.bell .tolerate) d 0 tolerate).set
    (.bell .discRun) d 0 1
  if s2.flag (.bell .bellEn) d 0 then s2.bellQueue d bellHello else s2.discFail d discNotAvail

/-- BELL_DISCOVER (R360). -/
def execBellDiscover (d : Nat) (s : State) : Result :=
  finishIf (s.lantern d && s.discCalled d) s fun s => s.discStart d (s.procArg 7 1) (bit (s.procArg 7 2) 0)

/-- BELL_DISCOVER_TIMEOUT (R362). -/
def execBellDiscoverTimeout (d : Nat) (s : State) : Result :=
  finishIf (s.lantern d && s.flag (.bell .discRun) d 0 && decide (s.get (.bell .discState) d 0 ≠ discDone)) s fun s =>
    s.discFail d discTimeout

/-- BELL_NOT_AVAILABLE_TIMEOUT (R362). -/
def execBellNotAvailableTimeout (d : Nat) (s : State) : Result :=
  finishIf (s.lantern d && s.flag (.bell .discRun) d 0 && decide (s.get (.bell .discState) d 0 ≠ discDone) && !s.dspPath d) s
    fun s => s.discFail d discNotAvail

/-- DER_REDISCOVER_TIMER (R200, R362): TOLERATE = 1 and the current banks. -/
def execDerRediscoverTimer (d : Nat) (s : State) : Result :=
  finishIf (s.up d && s.lantern d && decide (s.rxState d ≠ rxLocked) && s.flag (.der .returned) d 0) s fun s =>
    (s.set (.der .returned) d 0 0).discStart d (s.get (.bell .expNode) d 0) true

/-- The body goes into the BELL_DESC window, first byte in bits [31:24] of word 0. -/
def State.descStore (s : State) (d : Nat) (desc : List Nat) : State :=
  (s.each (List.range 8) fun s k =>
    s.setWin .bellDesc d 0 k (desc.getD (4 * k) 0 % 256 * 0x1000000 + desc.getD (4 * k + 1) 0 % 256 * 0x10000 +
      desc.getD (4 * k + 2) 0 % 256 * 0x100 + desc.getD (4 * k + 3) 0 % 256)).set (.bell .descOk) d 0 1

/-- The PILOT_SEED and GRID_N that a descriptor carries (R81). -/
def descSeed (l : List Nat) : Nat := l.getD 8 0 % 128 * 65536 + l.getD 9 0 * 256 + l.getD 10 0
def descGrid (l : List Nat) : List Nat := (l.drop 28).take 2

/-- The partner's descriptor equals receive bank 0 (R361). -/
def State.descMatches (s : State) (d : Nat) (l : List Nat) : Bool :=
  sameMode (s.rxDesc d 0) (noNlpd l) && (s.flag (.lr .seedSrc) d 0 || decide (((s.rxDesc d 0).drop 8).take 3 = (l.drop 8).take 3))

/-- The part may adopt the partner's mode (R361). -/
def State.mayAdopt (s : State) (d node : Nat) (l : List Nat) : Bool :=
  s.flag (.bell .adopt) d 0 && decide (node < s.get (.ao .nodeId) 0 0) && decide (l.getD 7 0 = (s.rxBank d 0).netK) &&
    !s.flag (.lr .everLocked) d 0

/-- The transmitter restarts from step 4 of R87. -/
def State.txStep4 (s : State) (d : Nat) : State :=
  if s.txBegun d then
    (((s.set (.lt .txState) d 0 txWaitCal).set (.lt .ramp) d 0 1).phaseIdle d).muteRefresh d
  else s

/-- BELL_MODE_ADOPT: D goes into transmit and receive bank 0, and the transmitter restarts (R361). -/
def State.adoptMode (s : State) (d : Nat) (l : List Nat) : State :=
  let q := modeOf l
  ((((s.writeTxBank d 0 q).writeRxBank d 0 q).set (.lr .peerSeed) d 0 (descSeed l)).txActivate d (s.get (.lt .bank) d 0)).txStep4 d

/-- A descriptor that passes: PEER_SEED is written when SEED_SRC = 1; HEARD, or DISCOVERED for a HELLO with HEARD = 1. -/
def State.descPass (s : State) (d : Nat) (l : List Nat) (heard : Bool) : State :=
  let s1 := s.when (s.flag (.lr .seedSrc) d 0) fun s => s.set (.lr .peerSeed) d 0 (descSeed l)
  if heard then s1.discEnd d else (s1.discSet d discHeard).set (.bell .discFailReason) d 0 0

/-- The checks of R361 on a stored descriptor. -/
def State.descCheck (s : State) (d node : Nat) (l : List Nat) (heard : Bool) : State :=
  if descGrid l ≠ descGrid (s.rxDesc d 0) then s.discFail d discGrid
  else if s.descMatches d l then s.descPass d l heard
  else if s.mayAdopt d node l then
    let s1 := s.adoptMode d l
    if (s1.txBank d 0).ok && (s1.rxBank d 0).ok then s1.descPass d l heard else s1.discFail d discBank
  else s.discFail d discMismatch

/-- An accepted HELLO (R359, R360, R362); `desc` is empty in the compatibility format, which carries none (R364). -/
def State.helloTake (s : State) (d : Nat) (m : BellMsg) (desc : List Nat) (compat : Bool) : State :=
  let heard := m.heard && decide (m.dest = s.get (.ao .nodeId) 0 0) && decide (m.destCarrier = d)
  if s.flag (.bell .discRun) d 0 then
    if s.get (.bell .expNode) d 0 ≠ 0xFFF ∧ m.sender ≠ s.get (.bell .expNode) d 0 then s.bellDisc d
    else
      let s1 := ((((s.inc (.bell .nRxMsg) d 0).set (.bell .partner) d 0 m.sender).set (.bell .farCarrier) d 0 m.carrier).setB
        (.bell .peerCompat) d 0 compat).set (.bell .peerParked) d 0 0
      if compat then
        if s1.flag (.lr .seedSrc) d 0 then (s1.set (.bell .descOk) d 0 0).discFail d discNoDesc
        else (s1.set (.bell .descOk) d 0 0).descPass d [] heard
      else (s1.descStore d desc).descCheck d m.sender desc heard
  else if s.get (.bell .discState) d 0 = discDone then
    if m.sender = s.get (.bell .partner) d 0 then (s.bellTake d m).bellQueue d bellHello
    else (s.bellTake d m).event .bellPeerChange d 0
  else s.bellTake d m

/-- BELL_HELLO_RX (R360). -/
def execBellHelloRx (d : Nat) (m : BellMsg) (desc : List Nat) (s : State) : Result :=
  finishIf (s.bellOffered d) s fun s => s.bellOffer d m true fun s => s.helloTake d m desc false

/-- BELL_COMPAT_RX (R364): `type` 1 HELLO, 2 LAST_GASP, 3 WAKE.  The format has no LOCATION (free value, log 5); another
TYPE has no meaning there and is discarded. -/
def execBellCompatRx (d : Nat) (ok : Bool) (type : Nat) (m : BellMsg) (reason : Nat) (s : State) : Result :=
  finishIf (s.bellOn d && decide (s.bellRx d = bellHdr) && s.flag (.bell .rxCompat) d 0) s fun s =>
    let s1 := s.bellIdle d
    if !ok then s1.inc (.bell .nCrcFail) d 0
    else if s1.bellAccepts d m (decide (type = 1)) && decide (1 ≤ type) && decide (type ≤ 3) then
      let s2 := (s1.inc (.bell .nCompatRx) d 0).when (s1.fromPartner d m) fun s => s.set (.bell .peerCompat) d 0 1
      if type = 1 then s2.helloTake d m [] true
      else if type = 2 then (s2.gaspTake d m reason (s2.freeBits 32)).used
      else s2.wakeTake d m
    else s1.bellDisc d

/-- BELL_EN is written (BELL_CFG): RX_STATE OFF and nothing sent while it is 0. -/
def State.bellEnable (s : State) (d v : Nat) : State :=
  let s1 := s.set (.bell .bellEn) d 0 v
  if v = 1 then (if s.get (.bell .bellEn) d 0 = 1 then s1 else (s1.bellIdle d).bellFollow d)
  else
    let s2 := ((((s1.bellIdle d).set (.bell .rxState) d 0 bellOff).set (.bell .offered) d 0 0).bellStop d).set (.bell .pend) d 0 0
    (s2.bellFollow d).restartFollow

/-- An accepted RESTART (R354, R68): the flash bus is reclaimed, every carrier sends LAST_GASP, and the restart begins once
those that the DSP keys have completed. -/
def State.restartTicket (s : State) : State :=
  (((s.set (.ao .flashReleased) 0 0 0).each s.dies fun s d => s.gaspQueue d gaspRestart).set (.sys .restartPend) 0 0
    1).restartFollow

-- The code of the compatibility format (R365).

/-- The shift of row `i` in information column `c`. -/
def compatShift (i c : Nat) : Nat := (5 * i * c + 3 * c + 7 * i + 1) % 16

/-- A circulant of shift `k` applied to a block of 16 bits, as in R128: row r takes the bit at (r + k) mod 16. -/
def circ (k : Nat) (b : List Nat) : List Nat := (List.range 16).map (fun r => b.getD ((r + k) % 16) 0)

/-- The sum of two blocks. -/
def xorBlock (a b : List Nat) : List Nat := (List.range 16).map (fun r => (a.getD r 0 + b.getD r 0) % 2)

/-- The part of row `i` that the information blocks give. -/
def compatRow (info : List (List Nat)) (i : Nat) : List Nat :=
  (List.range 4).foldl (fun a c => xorBlock a (circ (compatShift i c) (info.getD c []))) (List.replicate 16 0)

/-- The parity blocks: p₄ from row 0, then each from row i and the block before it. -/
def compatParity (info : List (List Nat)) : List (List Nat) :=
  let p4 := compatRow info 0
  let p5 := xorBlock (compatRow info 1) p4
  let p6 := xorBlock (compatRow info 2) p5
  [p4, p5, p6, xorBlock (compatRow info 3) p6]

end Sys2Proof.Machine
end

