-- ==== Sys2Proof/Machine/Power.lean ====
section
/-!
DEFINITION. The supplies, power-good, tamper sensing, the reset pins and the JTAG port (R342, R343, R425 to R427, R482,
R483).
-/
namespace Sys2Proof.Machine

/-- The logic rails, VDD_CORE to VDD_OE and VIO, by bit of `AO_PG_LIVE`. -/
def railAlm : List Alm :=
  [.pgVddCore, .pgVddSrds, .pgVddhSrds, .pgVddConv, .pgVddhConv, .pgVddPan, .pgVddqPan, .pgVddOe, .pgVio]

/-- The HV rails: VHVP, then VHVN. -/
def hvAlm : List Alm := [.pgVhvp, .pgVhvn]

/-- The tamper sensors, by bit of `AO_TAMPER_LIVE`. -/
def tamperAlm : List Alm := [.aoTamperVolt, .aoTamperClk, .aoTamperTemp, .aoTamperMesh]

/-- Power has been removed from the dies by a logic-rail failure or a tamper trip. -/
def State.poweredOff (s : State) : Bool := s.flag (.ao .powerOff) 0 0

/-- Start-up begins again at step 2 of R56; while SYS_RST_N is low the part stays at step 1 with its power on (R482). -/
def State.restartOrHold (s : State) : State :=
  if s.flag (.sys .sysRstN) 0 0 then s.restart else s.toStep1.set (.ao .powerOff) 0 0 0

/-- A rail is recorded as failed. -/
def State.railBad (s : State) (a : Alm) : State := (s.raise a 0 0).inc (.ao .nPgFail) 0 0

/-- Power is removed from every carrier die and stack, whose mute goes with their state, and every slot keys LAST_GASP
(R343, R354, R427). -/
def State.powerCut (s : State) (reason : Nat) : State :=
  (s.diesOff).each s.dies fun s d => s.gaspQueue d reason

/-- POWER_GOOD (R56 step 1, R425): every logic rail has been good for 10 ms.  The Lantern leaves reset; bias lock is not
held, a condition from reset on. -/
def execPowerGood (s : State) : Result :=
  finishIf (s.flag (.sys .aoOn) 0 0 && !s.flag (.sys .railsGood) 0 0) s fun s =>
    let s1 := (s.each railAlm fun s a => s.lower a 0 0).set (.sys .railsGood) 0 0 1
    let s2 := s1.each s1.dies fun s d => s.set (.live .biasUnlock) d 0 1
    s2.when (s2.flag (.sys .sysRstN) 0 0) fun s => s.set (.boot .step) 0 0 2

/-- RAIL_FAIL (R427); `tamper`: VDD_CORE has left the tamper range too, and R343 applies in place of the actions.  A
failure in package Kickstand, or with the power already off, is recorded only. -/
def execRailFail (rail : Nat) (tamper : Bool) (s : State) : Result :=
  finishIf (s.flag (.sys .aoOn) 0 0) s fun s =>
    let s1 := s.railBad (railAlm.getD rail .pgVio)
    if (tamper && decide (rail = 0)) || s1.pkgAsleep || s1.poweredOff || !s1.flag (.sys .railsGood) 0 0 then s1
    else s1.powerCut gaspRail

/-- A package wake that waits for the rails begins (R427). -/
def State.railWake (s : State) : State :=
  let src := s.get (.pwr .waitWake) 0 0
  if src ≠ 0 ∧ s.railsOk then s.pkgWake src (s.get (.pwr .waitBell) 0 0) else s

/-- RAIL_RECOVERED (R427): every rail has been good for RESTART_HOLD_MS. -/
def execRailRecovered (s : State) : Result :=
  finishIf (s.flag (.sys .aoOn) 0 0) s fun s =>
    let s1 := ((s.each (railAlm ++ hvAlm) fun s a => s.lower a 0 0).clampSet false)
    if s1.poweredOff && !s1.flag (.ao .tamperDown) 0 0 then s1.restartOrHold else s1.railWake

/-- HV_RAIL_FAIL (R412, R427): all bias outputs are clamped, in every state. -/
def execHvRailFail (neg : Bool) (s : State) : Result :=
  finishIf (s.flag (.sys .aoOn) 0 0) s fun s => (s.railBad (if neg then .pgVhvn else .pgVhvp)).clampSet true

/-- HV_RAIL_RECOVERED (R427): both HV rails have been good for 10 ms. -/
def execHvRailRecovered (s : State) : Result :=
  finishIf (s.flag (.sys .aoOn) 0 0) s fun s => ((s.each hvAlm fun s a => s.lower a 0 0).clampSet false).railWake

-- Tamper (R343).

/-- TAMPER_TRIP (R343): the keys go with the state of the dies that the Lantern zeroises and powers off.  With
TAMPER_HOLD_S = 0 the part stays so until VDD_AO is cycled. -/
def execTamperTrip (sensor : Nat) (s : State) : Result :=
  finishIf (s.flag (.sys .aoOn) 0 0 && s.flag (.sys .railsGood) 0 0) s fun s =>
    let s1 := s.raise (tamperAlm.getD sensor .aoTamperMesh) 0 0
    if s1.flag (.ao .tamperDown) 0 0 && s1.poweredOff then s1
    else
      (((s1.set (.ao .tamperDown) 0 0 1).setB (.ao .stuck) 0 0 (decide (s1.get (.ao .tamperHoldS) 0 0 = 0))).powerCut
        gaspTamper)

/-- TAMPER_HOLD_EXPIRY (R343): bit k of `still`: sensor k is still tripped. -/
def execTamperHoldExpiry (still : Nat) (s : State) : Result :=
  finishIf (s.flag (.ao .tamperDown) 0 0 && s.poweredOff && !s.flag (.ao .stuck) 0 0) s fun s =>
    let s1 := s.each (List.range 4) fun s k => s.cond (tamperAlm.getD k .aoTamperMesh) 0 0 (bit still k)
    if still % 16 = 0 then (s1.inc (.ao .nTamper) 0 0).restartOrHold else s1.set (.ao .stuck) 0 0 1

-- The always-on supply and the reset pins.

/-- VDD_AO_APPLIED (R425). -/
def execVddAoApplied (s : State) : Result :=
  finishIf (!s.flag (.sys .aoOn) 0 0) s fun s => s.set (.sys .aoOn) 0 0 1

/-- VDD_AO_LOSS (R46, R343, R427, R445). -/
def execVddAoLoss (s : State) : Result := finishIf (s.flag (.sys .aoOn) 0 0) s fun s => s.aoLost

/-- SYS_RST_LOW (R482): low for at least 1 us. -/
def execSysRstLow (s : State) : Result :=
  finish s (((s.toStep1.set (.sys .sysRstN) 0 0 0).set (.ao .flashReleased) 0 0 0))

/-- SYS_RST_RISE (R482): start-up continues from step 2; EXTEST ends, since it is accepted only while the pin is low
(R483). -/
def execSysRstRise (s : State) : Result :=
  finishIf (!s.flag (.sys .sysRstN) 0 0) s fun s =>
    let s1 := s.set (.sys .sysRstN) 0 0 1
    let s2 := s1.when (decide (s1.get (.sys .jtagIr) 0 0 = 3)) fun s => s.set (.sys .jtagIr) 0 0 0
    if s2.flag (.sys .railsGood) 0 0 && !s2.poweredOff then s2.restart else s2

/-- The PCIe endpoint trains once SYS_RST_N and PERST_N are both high and the lead die runs (R56 step 2); the host then
sets Bus Master Enable and the MSI enable as it does (log 12). -/
def State.linkTrain (s : State) (master msi : Bool) : State :=
  if s.flag (.sys .sysRstN) 0 0 && s.flag (.sys .perstN) 0 0 && s.released 0 then
    ((s.set (.sys .pcieUp) 0 0 1).setB (.sys .busMaster) 0 0 master).setB (.sys .msiEn) 0 0 msi
  else s

/-- PERST_ASSERT (R310, R311, R482): the endpoint is reset and its link goes down. -/
def execPerstAssert (done : List Nat) (s : State) : Result :=
  finish s
    (let s1 := s.set (.sys .perstN) 0 0 0
     let s2 := if s1.flag (.sys .pcieUp) 0 0 then s1.linkDown done else s1
     (s2.set (.sys .busMaster) 0 0 0).set (.sys .msiEn) 0 0 0)

/-- PERST_RELEASE (R56). -/
def execPerstRelease (busMaster msi : Bool) (s : State) : Result :=
  finish s ((s.set (.sys .perstN) 0 0 1).linkTrain busMaster msi)

-- The JTAG port (R483).

/-- JTAG_BYPASS. -/
def execJtagBypass (s : State) : Result := finishIf (s.flag (.sys .aoOn) 0 0) s fun s => s.set (.sys .jtagIr) 0 0 0

/-- The device identification code (R483). -/
def State.idcode (s : State) : Nat :=
  s.get (.id .stepMajor) 0 0 * 2 ^ 28 + s.get (.id .deviceId) 0 0 * 2 ^ 12 + 0x3A5 * 2 + 1

/-- JTAG_IDCODE: the code is shifted out. -/
def execJtagIdcode (s : State) : Result :=
  finishIf (s.flag (.sys .aoOn) 0 0) s fun s =>
    State.set { s with readData := [s.idcode] } (.sys .jtagIr) 0 0 1

/-- The boundary register is loaded. -/
def State.boundaryLoad (s : State) (l : List Bool) : State :=
  s.each l.zipIdx fun s x => s.setB (.sys .jtagBr) 0 x.2 x.1

/-- JTAG_SAMPLE_PRELOAD: the levels at the balls are captured and shifted out while new cells are shifted in. -/
def execJtagSamplePreload (captured loaded : List Bool) (s : State) : Result :=
  finishIf (s.flag (.sys .aoOn) 0 0) s fun s =>
    (State.set { s with readData := captured.map Bool.toNat } (.sys .jtagIr) 0 0 2).boundaryLoad loaded

/-- JTAG_EXTEST: accepted only while SYS_RST_N is low; otherwise the port keeps BYPASS. -/
def execJtagExtest (s : State) : Result :=
  finishIf (s.flag (.sys .aoOn) 0 0) s fun s => s.set (.sys .jtagIr) 0 0 (if s.flag (.sys .sysRstN) 0 0 then 0 else 3)

end Sys2Proof.Machine
end

