-- ==== Sys2Proof/Machine/RegTable.lean ====
section
/-!
DEFINITION. The register map as data: the registers, the 64-bit counters and the alarm registers of every block with
their addresses (R466, R470 to R473), their fields, access types (R4) and the values their tables permit (R500).
Transcribed from the register tables of spec/; where a reset value is given it is in Machine/Cells.lean.
-/
namespace Sys2Proof.Machine

/-- Access types of R4 (W1C and SEC bits stand in the alarm registers). -/
inductive Acc where
  | ro | cfgB | cfgT | cmd
  deriving DecidableEq, Repr

/-- Which values a field's table permits (R500). -/
inductive Rng where
  | any
  | ivs (l : List (Int × Int))
  | oddTaps
  | pcp
  | prio
  | pps
  | bw
  | align (n : Nat)
  deriving DecidableEq, Repr

/-- Where a block is placed (R466, R471 to R473). -/
inductive Area where
  | lead
  | lantern
  | lasPort (step : Nat)
  | slot (base : Nat)
  | slotRow (step : Nat)
  | die
  | dieZero
  | courier
  deriving DecidableEq, Repr

/-- One field: its bits, the cell that holds it, its access type, whether it is signed, and its permitted values.
`dAdd` and `iAdd` displace the cell's die and index for registers that show several cells of one name. -/
structure Fld where
  hi : Nat
  lo : Nat
  cell : Cell
  acc : Acc
  sgn : Bool := false
  rng : Rng := .any
  dAdd : Nat := 0
  iAdd : Nat := 0
  deriving DecidableEq, Repr

/-- One register, or an array of registers with the dimensions `dims` (count and step of each). -/
structure Reg where
  area : Area
  off : Nat
  dims : List (Nat × Nat)
  flds : List Fld
  deriving DecidableEq, Repr

/-- One 64-bit register or counter of two halves (R446); `acc` is `ro` for counters. -/
structure Ctr where
  area : Area
  off : Nat
  dims : List (Nat × Nat)
  cell : Cell
  acc : Acc := .ro
  rng : Rng := .any
  deriving DecidableEq, Repr

/-- The live, sticky and mask registers of one alarm group. -/
structure AlmReg where
  area : Area
  live : Nat
  sticky : Nat
  mask : Nat
  maskAcc : Acc
  dims : List (Nat × Nat)
  bits : List (Nat × Alm)
  deriving DecidableEq, Repr

/-- Short forms of the rows below: a read-only, a boot-only, a ticket-changeable and a command field. -/
def fR (hi lo : Nat) (c : Cell) : Fld := { hi, lo, cell := c, acc := .ro }
def fB (hi lo : Nat) (c : Cell) (r : Rng := .any) : Fld := { hi, lo, cell := c, acc := .cfgB, rng := r }
def fT (hi lo : Nat) (c : Cell) (r : Rng := .any) : Fld := { hi, lo, cell := c, acc := .cfgT, rng := r }
def fTs (hi lo : Nat) (c : Cell) (r : Rng := .any) : Fld := { hi, lo, cell := c, acc := .cfgT, sgn := true, rng := r }
def fC (hi lo : Nat) (c : Cell) : Fld := { hi, lo, cell := c, acc := .cmd }

/-- Registers of the ID block (17_register_map.md). -/
def regsId : List Reg := [
  -- ID_DEVICE
  ⟨.lead, 0x0, [], [fR 31 16 (.id .family),
     fR 15 8 (.id .slots),
     fR 7 4 (.id .stepMajor),
     fR 3 0 (.id .stepMinor)]⟩,
  -- ID_PCI
  ⟨.lead, 0x8, [], [fR 31 16 (.id .deviceId), fR 15 0 (.id .vendorId)]⟩]

/-- Registers of the BOOT block (02_salsel_image_and_startup.md). -/
def regsBoot : List Reg := [
  -- BOOT_STATUS
  ⟨.lead, 0x1000, [], [fR 27 20 (.boot .errCode),
     fR 19 16 (.boot .phase),
     fR 15 14 (.boot .slot),
     fR 3 0 (.boot .state)]⟩,
  -- BOOT_ERR_DETAIL
  ⟨.lead, 0x1004, [], [fR 26 24 (.boot .errDie), fR 23 0 (.boot .detail)]⟩,
  -- BOOT_ERR_ADDR
  ⟨.lead, 0x1008, [], [fR 31 0 (.boot .errAddr)]⟩,
  -- BOOT_IMAGE
  ⟨.lead, 0x100C, [], [fR 31 0 (.boot .imageVersion)]⟩,
  -- BOOT_SVN
  ⟨.lead, 0x1010, [], [fR 14 8 (.boot .fuseSvn), fR 6 0 (.boot .imageSvn)]⟩,
  -- BOOT_SELFTEST
  ⟨.lead, 0x1020, [], [fR 17 17 (.boot .entropyPass),
     fR 16 16 (.boot .katPass),
     fR 15 8 (.boot .eccRan),
     fR 7 0 (.boot .eccPass)]⟩,
  -- BOOT_PHASE_MS
  ⟨.lead, 0x1040, [(8, 0x4)], [fR 31 0 (.boot .phaseMs)]⟩]

/-- Registers of the TKT block (02_salsel_image_and_startup.md). -/
def regsTkt : List Reg := [
  -- TKT_STATUS
  ⟨.lead, 0x2000, [], [fR 31 31 (.tkt .mboxBusy),
     fR 23 16 (.tkt .lastCode),
     fR 15 0 (.tkt .lastRecord)]⟩,
  -- TKT_HOST_WR_REJ_ADDR
  ⟨.lead, 0x2020, [], [fR 31 0 (.tkt .hostWrRejAddr)]⟩,
  -- TKT_RING_SIZE
  ⟨.lead, 0x2048, [], [fB 3 0 (.tkt .ringSize) (.ivs [(0, 0), (4, 12)])]⟩,
  -- NODE_ID
  ⟨.lead, 0x204C, [], [fB 11 0 (.tkt .nodeId)]⟩,
  -- TKT_RING_HEAD
  ⟨.lead, 0x2050, [], [fR 31 0 (.tkt .ringHead)]⟩]

/-- Registers of the CHN block (01_package_and_dies.md). -/
def regsChn : List Reg := [
  -- CHN_PORT_CFG
  ⟨.die, 0x580000, [(2, 0x1000)], [fB 19 17 (.chn .retrainMax),
     fT 16 10 (.chn .bondBw) (.ivs [(0, 80)]),
     fT 9 2 (.chn .tandemBw) (.ivs [(0, 64)]),
     fT 1 1 (.chn .pelEn),
     fT 0 0 (.chn .portEn)]⟩,
  -- CHN_PORT_STATUS
  ⟨.die, 0x580004, [(2, 0x1000)], [fR 13 11 (.chn .peerDie),
     fR 10 10 (.chn .clkOk),
     fR 9 4 (.chn .failedLane),
     fR 3 3 (.chn .spareUsed),
     fR 2 0 (.chn .state)]⟩,
  -- CHN_SPOKE_STATUS
  ⟨.die, 0x582000, [], [fR 0 0 (.chn .spokeLost)]⟩]

/-- Registers of the LT block (03_line_transmitter.md). -/
def regsLt : List Reg := [
  -- LT_MODE0
  ⟨.die, 0x300000, [(2, 0x40)], [fT 27 26 (.lt .lineStd),
     fT 20 10 (.lt .rs),
     fT 9 8 (.lt .const),
     fT 6 0 (.lt .entropy)]⟩,
  -- LT_MODE1
  ⟨.die, 0x300004, [(2, 0x40)], [fT 23 23 (.lt .nlpdBank),
     fT 22 20 (.lt .pilotGain),
     fT 18 16 (.lt .fecRate),
     fT 15 11 (.lt .rolloff),
     fT 6 0 (.lt .netK)]⟩,
  -- LT_COMP0
  ⟨.die, 0x300010, [(2, 0x40), (4, 0x4)], [fR 26 16 (.lt .compHi), fR 10 0 (.lt .compLo)]⟩,
  -- LT_CTRL
  ⟨.die, 0x300080, [], [fT 31 24 (.lt .nlpdGain),
     fT 23 16 (.lt .bellDepth) (.ivs [(0, 0), (4, 12)]),
     fB 9 9 (.lt .txcalSrc),
     fT 1 1 (.lt .mute),
     fT 0 0 (.lt .txEn)]⟩,
  -- LT_STATUS
  ⟨.die, 0x300084, [], [fR 31 16 (.lt .excess),
     fR 8 8 (.lt .bank),
     fR 7 4 (.lt .muteCause),
     fR 2 0 (.lt .txState)]⟩,
  -- LT_DAC
  ⟨.die, 0x300088, [], [fT 7 0 (.lt .backoff) (.ivs [(30, 200)])]⟩,
  -- LT_OE
  ⟨.die, 0x30008C, [], [fT 13 8 (.lt .txVoa) (.ivs [(0, 40)]), fT 5 0 (.lt .drvGain)]⟩,
  -- LT_PILOT
  ⟨.die, 0x300090, [], [fB 22 0 (.lt .pilotSeed) (.ivs [(1, 2796201), (2796203, 8388607)])]⟩,
  -- LT_TRIB
  ⟨.die, 0x300100, [(4, 0x4)], [fTs 27 16 (.lt .tribGain) (.ivs [(-200, 200)]), fTs 11 0 (.lt .tribSkew) (.ivs [(-1000, 1000)])]⟩,
  -- LT_IQPHASE
  ⟨.die, 0x300110, [], [fTs 25 16 (.lt .yPhase) (.ivs [(-500, 500)]), fTs 9 0 (.lt .xPhase) (.ivs [(-500, 500)])]⟩]

/-- Registers of the LAS block (03_line_transmitter.md). -/
def regsLas : List Reg := [
  -- LAS_CFG
  ⟨(.lasPort 0x100), 0x3000, [], [fT 28 28 (.las .lasEn),
     fT 27 24 (.las .pinMargin) (.ivs [(1, 15)]),
     fT 23 16 (.las .power) (.ivs [(0, 200)]),
     fTs 15 0 (.las .gridN)]⟩,
  -- LAS_TIMING
  ⟨(.lasPort 0x100), 0x3004, [], [fB 31 24 (.las .recoverS) (.ivs [(1, 255)]),
     fB 23 16 (.las .tuneTimeout) (.ivs [(1, 255)]),
     fB 15 8 (.las .poll) (.ivs [(1, 255)]),
     fB 7 0 (.las .xactTimeout) (.ivs [(1, 255)])]⟩,
  -- LAS_STATUS
  ⟨(.lasPort 0x100), 0x3008, [], [fR 31 16 (.las .freqErr),
     fR 8 8 (.las .present),
     fR 7 4 (.las .reason),
     fR 2 0 (.las .state)]⟩]

/-- Registers of the LR block (04_line_receiver.md). -/
def regsLr : List Reg := [
  -- LR_MODE0
  ⟨.die, 0x380000, [(2, 0x40)], [fT 27 26 (.lr .lineStd),
     fT 20 10 (.lr .rs),
     fT 9 8 (.lr .const),
     fT 6 0 (.lr .entropy)]⟩,
  -- LR_MODE1
  ⟨.die, 0x380004, [(2, 0x40)], [fT 22 20 (.lr .pilotGain),
     fT 18 16 (.lr .fecRate),
     fT 15 11 (.lr .rolloff),
     fT 6 0 (.lr .netK)]⟩,
  -- LR_COMP0
  ⟨.die, 0x380010, [(2, 0x40), (4, 0x4)], [fR 26 16 (.lr .compHi), fR 10 0 (.lr .compLo)]⟩,
  -- LR_CTRL
  ⟨.die, 0x380080, [], [fB 30 30 (.lr .rxcalSrc),
     fB 29 24 (.lr .ntaps) .oddTaps,
     fT 23 16 (.lr .holdMs),
     fT 12 8 (.lr .qualK) (.ivs [(10, 20)]),
     fT 2 2 (.lr .fastRelock),
     fT 1 1 (.lr .cdMode),
     fT 0 0 (.lr .rxEn)]⟩,
  -- LR_STATUS
  ⟨.die, 0x380084, [], [fR 23 16 (.lr .acqRetryLeft),
     fR 14 14 (.lr .xySwap),
     fR 13 13 (.lr .rxSf),
     fR 12 12 (.lr .bank),
     fR 11 8 (.lr .lastFailReason),
     fR 7 4 (.lr .lastFailStep),
     fR 3 0 (.lr .rxState)]⟩,
  -- LR_LATENCY
  ⟨.die, 0x380088, [], [fR 15 0 (.lr .latNs)]⟩,
  -- LR_PILOT
  ⟨.die, 0x38008C, [], [fB 31 31 (.lr .seedSrc), fT 22 0 (.lr .peerSeed) (.ivs [(1, 2796201), (2796203, 8388607)])]⟩,
  -- LR_CD_SET
  ⟨.die, 0x380090, [], [fTs 31 0 (.lr .cdSet)]⟩,
  -- LR_CD_MIN
  ⟨.die, 0x380094, [], [fTs 31 0 (.lr .cdMin)]⟩,
  -- LR_CD_MAX
  ⟨.die, 0x380098, [], [fTs 31 0 (.lr .cdMax)]⟩,
  -- LR_AGC
  ⟨.die, 0x3800A0, [], [fTs 31 16 (.lr .losThresh) (.ivs [(-400, -100)]),
     fT 15 8 (.lr .agcSlew) (.ivs [(1, 255)]),
     fT 7 0 (.lr .adcTarget) (.ivs [(30, 200)])]⟩,
  -- LR_QTHR
  ⟨.die, 0x3800A4, [], [fT 31 16 (.lr .ngmiMin), fT 15 0 (.lr .ngmiWarn)]⟩,
  -- LR_FRONT
  ⟨.die, 0x3800A8, [], [fR 31 16 (.lr .rxPower), fR 6 0 (.lr .tiaGain)]⟩,
  -- LR_ACQ_TMO0
  ⟨.die, 0x3800B0, [], [fT 31 24 (.lr .tFreq) (.ivs [(1, 255)]),
     fT 23 16 (.lr .tCd) (.ivs [(1, 255)]),
     fT 15 8 (.lr .tSignal) (.ivs [(1, 255)]),
     fT 7 0 (.lr .tLo) (.ivs [(1, 255)])]⟩,
  -- LR_ACQ_TMO1
  ⟨.die, 0x3800B4, [], [fT 31 24 (.lr .tCarrier) (.ivs [(1, 255)]),
     fT 23 16 (.lr .tSync) (.ivs [(1, 255)]),
     fT 15 8 (.lr .tEq) (.ivs [(1, 255)]),
     fT 7 0 (.lr .tTiming) (.ivs [(1, 255)])]⟩,
  -- LR_ACQ_TMO2
  ⟨.die, 0x3800B8, [], [fT 11 8 (.lr .acqRetry), fT 7 0 (.lr .tVerify) (.ivs [(1, 255)])]⟩,
  -- LR_TRIB
  ⟨.die, 0x380100, [(4, 0x4)], [fTs 27 16 (.lr .tribGain) (.ivs [(-200, 200)]), fTs 11 0 (.lr .tribSkew) (.ivs [(-1000, 1000)])]⟩,
  -- LR_IQPHASE
  ⟨.die, 0x380110, [], [fTs 25 16 (.lr .yPhase) (.ivs [(-500, 500)]), fTs 9 0 (.lr .xPhase) (.ivs [(-500, 500)])]⟩,
  -- LR_Q_SNR
  ⟨.die, 0x380400, [], [fR 31 16 (.lr .qPelGain), fR 15 0 (.lr .qSnrEff)]⟩,
  -- LR_Q_GMI
  ⟨.die, 0x380404, [], [fR 31 16 (.lr .qNgmi), fR 15 0 (.lr .qGmi)]⟩,
  -- LR_Q_CD
  ⟨.die, 0x380408, [], [fR 31 0 (.lr .qCd)]⟩,
  -- LR_Q_PMD
  ⟨.die, 0x38040C, [], [fR 31 16 (.lr .qPolRatePeak), fR 15 0 (.lr .qDgd)]⟩,
  -- LR_Q_FREQ
  ⟨.die, 0x380410, [], [fR 31 16 (.lr .qLinewidth), fR 15 0 (.lr .qFreqOff)]⟩,
  -- LR_Q_SEQ
  ⟨.die, 0x380414, [], [fR 31 31 (.lr .qValid), fR 30 0 (.lr .qSeq)]⟩,
  -- LR_Q_BER
  ⟨.die, 0x380418, [], [fR 15 0 (.lr .qBerNlog)]⟩,
  -- LR_Q_SNRXY
  ⟨.die, 0x38041C, [], [fR 31 16 (.lr .qSnrY), fR 15 0 (.lr .qSnrX)]⟩]

/-- Registers of the FEC block (05_soft_decision_fec.md). -/
def regsFec : List Reg := [
  -- FEC_CTRL
  ⟨.die, 0x400000, [], [fT 31 16 (.fec .ucwSfThresh) (.ivs [(1, 65535)]),
     fT 8 8 (.fec .earlyTerm),
     fT 5 0 (.fec .iterMax) (.ivs [(1, 32)])]⟩,
  -- FEC_THR
  ⟨.die, 0x400004, [], [fTs 15 0 (.fec .sdMargin)]⟩,
  -- FEC_STATUS
  ⟨.die, 0x400008, [], [fR 21 16 (.fec .iterCap), fR 1 0 (.fec .lockState)]⟩,
  -- FEC_MARGIN
  ⟨.die, 0x40000C, [], [fR 31 16 (.fec .iterMean), fR 15 0 (.fec .margin)]⟩,
  -- FEC_LATENCY
  ⟨.die, 0x400010, [], [fR 15 0 (.fec .latNs)]⟩]

/-- Registers of the CT block (06_line_framing_containers_tandem.md). -/
def regsCt : List Reg := [
  -- CT_CTRL
  ⟨.die, 0x200000, [], [fB 15 12 (.ct .lofMs) (.ivs [(1, 15)]),
     fT 8 8 (.ct .smTimAct),
     fT 0 0 (.ct .framerEn)]⟩,
  -- CT_STATUS
  ⟨.die, 0x200004, [], [fR 23 16 (.ct .mfas),
     fR 12 10 (.ct .candCount),
     fR 1 0 (.ct .align)]⟩,
  -- CT_RX_LMFN
  ⟨.die, 0x200008, [], [fR 31 0 (.ct .rxLmfn)]⟩,
  -- CT_TX_LMFN
  ⟨.die, 0x20000C, [], [fR 31 0 (.ct .txLmfn)]⟩,
  -- CT_BOND
  ⟨.die, 0x200060, [], [fB 26 16 (.ct .skewMaxUs) (.ivs [(100, 2000)]),
     fB 15 8 (.ct .members),
     fB 5 4 (.ct .group),
     fB 0 0 (.ct .bondEn)]⟩,
  -- CT_BOND_STATUS
  ⟨.die, 0x200064, [], [fR 31 16 (.ct .deskewUs), fR 1 0 (.ct .bondState)]⟩]

/-- Registers of the TDM block (06_line_framing_containers_tandem.md). -/
def regsTdm : List Reg := [
  -- TDM_PAIR_CFG
  ⟨.die, 0x20C000, [], [fT 31 24 (.tdm .holdoff) (.ivs [(0, 100)]),
     fT 23 20 (.tdm .wtrMin) (.ivs [(1, 12)]),
     fT 15 12 (.tdm .guardUs) (.ivs [(1, 8)]),
     fT 3 3 (.tdm .revertive),
     fB 2 2 (.tdm .bidir),
     fB 1 1 (.tdm .port),
     fB 0 0 (.tdm .pairEn)]⟩,
  -- TDM_DIFF_MAX
  ⟨.die, 0x20C004, [], [fB 16 0 (.tdm .diffMaxUs) (.ivs [(1000, 100000)])]⟩,
  -- TDM_REGION
  ⟨.die, 0x20C008, [], [fR 20 0 (.tdm .pages)]⟩]

/-- Registers of the PEL block (07_peloton_and_derailleur.md). -/
def regsPel : List Reg := [
  -- PEL_CFG
  ⟨.die, 0x480000, [], [fT 23 16 (.pel .mu) (.ivs [(1, 255)]),
     fT 3 3 (.pel .negGuard),
     fT 2 2 (.pel .nbDn),
     fT 1 1 (.pel .nbUp),
     fT 0 0 (.pel .pelOn)]⟩,
  -- PEL_STATUS
  ⟨.die, 0x480004, [], [fR 31 16 (.pel .holdNs),
     { fR 7 4 (.pel .nbState) with iAdd := 1 },
     fR 3 0 (.pel .nbState)]⟩,
  -- PEL_NB
  ⟨.die, 0x480008, [(2, 0x4)], [fR 31 16 (.pel .walkoff), fR 15 0 (.pel .spacing)]⟩]

/-- Registers of the DER block (07_peloton_and_derailleur.md). -/
def regsDer : List Reg := [
  -- DER_UNIT
  ⟨.die, 0x481000, [], [fR 31 24 (.der .uShiftId),
     fR 23 20 (.der .uReason),
     fR 15 12 (.der .rxSide),
     fR 11 8 (.der .txSide),
     fR 2 0 (.der .uRole)]⟩,
  -- DER_RX_EPOCH
  ⟨.die, 0x481004, [], [fR 31 0 (.der .rxEpoch)]⟩,
  -- DER_CFG
  ⟨.dieZero, 0x481800, [], [fT 31 21 (.der .commitLead) (.ivs [(4, 1024)]),
     fT 20 7 (.der .armTmoMs) (.ivs [(10, 10000)]),
     fT 2 2 (.der .autoEn),
     fT 1 1 (.der .remoteAccept)]⟩,
  -- DER_AUTO0
  ⟨.dieZero, 0x481804, [], [fTs 31 16 (.der .upMargin), fTs 15 0 (.der .downMargin)]⟩,
  -- DER_AUTO1
  ⟨.dieZero, 0x481808, [], [fT 31 24 (.der .downWin) (.ivs [(1, 255)]),
     fT 23 16 (.der .upWin) (.ivs [(1, 255)]),
     fT 15 0 (.der .holdoffS) (.ivs [(1, 65535)])]⟩,
  -- DER_STATUS
  ⟨.dieZero, 0x481810, [], [fR 31 24 (.der .shiftId),
     fR 23 20 (.der .reason),
     fR 19 16 (.der .result),
     fR 11 11 (.der .far),
     fR 10 8 (.der .failCarrier),
     fR 4 4 (.der .role),
     fR 3 0 (.der .state)]⟩,
  -- DER_EPOCH
  ⟨.dieZero, 0x481814, [], [fR 31 0 (.der .epoch)]⟩,
  -- DER_FAR_EPOCH
  ⟨.dieZero, 0x481818, [], [fR 31 0 (.der .farEpoch)]⟩,
  -- DER_UNITS
  ⟨.dieZero, 0x48181C, [], [fR 23 16 (.der .pelMask),
     fR 15 8 (.der .tandemMask),
     fR 7 0 (.der .shiftMask)]⟩]

/-- Registers of the HL block (08_host_lanes.md). -/
def regsHl : List Reg := [
  -- HL_LANE_CFG
  ⟨.die, 0x0, [(16, 0x400)], [fB 17 17 (.hl .txInv),
     fB 16 16 (.hl .rxInv),
     fT 15 12 (.hl .prbsPat) (.ivs [(0, 9)]),
     fT 11 11 (.hl .prbsChk),
     fT 10 10 (.hl .prbsGen),
     fT 9 8 (.hl .precodePol) (.ivs [(0, 2)]),
     fB 7 7 (.hl .forcePreTx),
     fB 6 6 (.hl .forcePreRx),
     fB 5 5 (.hl .role),
     fB 2 0 (.hl .forceGear) (.ivs [(0, 4)])]⟩,
  -- HL_LANE_STATUS
  ⟨.die, 0x4, [(16, 0x400)], [fR 27 24 (.hl .failReason),
     fR 23 23 (.hl .preRx),
     fR 22 22 (.hl .preTx),
     fR 21 21 (.hl .cdrLock),
     fR 20 20 (.hl .sig),
     fR 15 12 (.hl .farGearMax),
     fR 11 8 (.hl .gear),
     fR 3 0 (.hl .state)]⟩,
  -- HL_LANE_EQ
  ⟨.die, 0x8, [(16, 0x400)], [fR 20 16 (.hl .eqCm2),
     fR 12 8 (.hl .eqCm1),
     fR 4 0 (.hl .eqCp1)]⟩,
  -- HL_TXEQ_FORCE
  ⟨.die, 0xC, [(16, 0x400)], [fB 20 16 (.hl .forceCm2) (.ivs [(0, 6)]),
     fB 12 8 (.hl .forceCm1) (.ivs [(0, 24)]),
     fB 4 0 (.hl .forceCp1) (.ivs [(0, 16)])]⟩,
  -- HL_ESCAN_CTRL
  ⟨.die, 0x10, [(16, 0x400)], [fC 31 31 (.hl .escanStart),
     fR 30 30 (.hl .escanBusy),
     fT 25 24 (.hl .escanEye) (.ivs [(0, 2)]),
     fT 23 17 (.hl .escanLevel),
     fT 16 11 (.hl .escanPhase),
     fT 10 5 (.hl .escanDwell) (.ivs [(10, 40)])]⟩,
  -- HL_MUT
  ⟨.die, 0x14, [(16, 0x400)], [fR 31 31 (.hl .mutValid),
     fR 30 24 (.hl .eyeV),
     fR 23 18 (.hl .eyeH),
     fR 17 16 (.hl .worstEye),
     fR 15 0 (.hl .mut)]⟩,
  -- HL_NEG_TIMING
  ⟨.die, 0x7000, [], [fB 31 24 (.hl .negTmo) (.ivs [(1, 255)]),
     fB 23 16 (.hl .tTrain) (.ivs [(1, 255)]),
     fB 15 12 (.hl .stepRetry),
     fB 7 0 (.hl .tLock) (.ivs [(1, 255)])]⟩,
  -- HL_MUT_CFG
  ⟨.die, 0x7004, [], [fT 31 16 (.hl .mutWarn), fT 15 0 (.hl .readyMut)]⟩,
  -- HL_PORT_CFG
  ⟨.die, 0x8000, [(16, 0x400)], [fB 30 28 (.hl .width) (.ivs [(0, 5)]),
     fB 27 26 (.hl .speed),
     fB 25 24 (.hl .mode) (.ivs [(0, 2)]),
     fB 23 15 (.hl .tpContainer),
     fB 14 14 (.hl .fecMode),
     fT 13 12 (.hl .loop),
     fT 11 11 (.hl .idleReq),
     fT 0 0 (.hl .portEn)]⟩,
  -- HL_PORT_MAC
  ⟨.die, 0x8004, [(16, 0x400)], [fT 31 16 (.hl .pfcQuanta), fT 13 0 (.hl .mtu) (.ivs [(64, 9216)])]⟩,
  -- HL_PORT_PFC
  ⟨.die, 0x8008, [(16, 0x400)], [fT 31 24 (.hl .pfcEn), fT 15 0 (.hl .pfcRefresh) (.ivs [(1, 65535)])]⟩,
  -- HL_PORT_STATUS
  ⟨.die, 0x800C, [(16, 0x400)], [fR 23 16 (.hl .pXoff),
     fR 7 4 (.hl .pGear),
     fR 3 0 (.hl .pState)]⟩,
  -- HL_TS_CORR
  ⟨.die, 0x8010, [(16, 0x400)], [fR 31 16 (.hl .corrRx), fR 15 0 (.hl .corrTx)]⟩,
  -- HL_PORT_FEC
  ⟨.die, 0x8014, [(16, 0x400)], [fT 31 0 (.hl .degSym)]⟩]

/-- Registers of the QS block (09_classification_queues_scheduling.md). -/
def regsQs : List Reg := [
  -- QS_CTRL
  ⟨.die, 0x100000, [], [fT 31 16 (.qs .drainMs) (.ivs [(1, 1000)]), fT 13 0 (.qs .ctThresh) (.ivs [(64, 9216)])]⟩,
  -- QS_DIE_WM
  ⟨.die, 0x100004, [], [fT 31 16 (.qs .dieHi) (.ivs [(0, 1664)]), fT 15 0 (.qs .dieLo)]⟩,
  -- QS_STATUS
  ⟨.die, 0x100008, [], [fR 31 31 (.qs .brake), fR 20 0 (.qs .dieOcc)]⟩,
  -- QS_CLS_STATUS
  ⟨.die, 0x10000C, [], [fR 15 0 (.qs .clsUsed)]⟩,
  -- QS_PORT_CLS
  ⟨.die, 0x100100, [(16, 0x4)], [fT 31 16 (.qs .pcpColour) .pcp,
     fT 15 14 (.qs .colourSrc) (.ivs [(0, 2)]),
     fT 13 13 (.qs .clsMode),
     fT 12 12 (.qs .missDrop),
     fT 10 0 (.qs .missQueue)]⟩,
  -- QS_GATE_CFG
  ⟨.die, 0x100090, [], [fT 31 31 (.qs .gateEn),
     fT 29 28 (.qs .gateTb),
     fT 24 16 (.qs .adminLen) (.ivs [(1, 256)])]⟩,
  -- QS_GATE_CYCLE
  ⟨.die, 0x100094, [], [fT 29 0 (.qs .gateCycle) (.ivs [(1000, 1000000000)])]⟩,
  -- QS_GATE_BASE_NS
  ⟨.die, 0x100098, [], [fT 29 0 (.qs .gateBaseNs) (.ivs [(0, 999999999)])]⟩,
  -- QS_GATE_BASE_S
  ⟨.die, 0x10009C, [], [fT 31 0 (.qs .gateBaseSLo)]⟩,
  -- QS_GATE_BASE_S_HI
  ⟨.die, 0x1000A0, [], [fT 15 0 (.qs .gateBaseSHi)]⟩,
  -- QS_GATE_CTRL
  ⟨.die, 0x1000A4, [], [fC 0 0 (.qs .gateCommit),
     fR 1 1 (.qs .gatePending),
     fR 2 2 (.qs .operValid),
     fR 24 16 (.qs .operLen)]⟩,
  -- QS_GATE_START_NS
  ⟨.die, 0x1000A8, [], [fR 31 0 (.qs .gateStartNs)]⟩,
  -- QS_GATE_OPER_CYCLE
  ⟨.die, 0x1000B4, [], [fR 31 0 (.qs .operCycle)]⟩]

/-- Registers of the PAN block (10_pannier_memory_and_courier.md). -/
def regsPan : List Reg := [
  -- PAN_CTRL
  ⟨.die, 0x600000, [], [fT 31 24 (.pan .lapMax) (.ivs [(1, 255)]),
     fT 23 16 (.pan .spareWarn) (.ivs [(0, 96)]),
     fT 11 4 (.pan .mergeNs) (.ivs [(5, 200)]),
     fB 0 0 (.pan .scrubEn)]⟩,
  -- PAN_ARB
  ⟨.die, 0x600004, [], [fT 31 24 (.pan .retireUrgent) (.ivs [(1, 64)]),
     fT 23 16 (.pan .migCap) (.ivs [(1, 40)]),
     fT 11 8 (.pan .wCrr) (.ivs [(1, 15)]),
     fT 7 4 (.pan .wMig) (.ivs [(1, 15)]),
     fT 3 0 (.pan .wScrub) (.ivs [(1, 15)])]⟩,
  -- PAN_STATUS
  ⟨.die, 0x600008, [], [fR 31 29 (.pan .state),
     fR 28 28 (.pan .xtsReady),
     fR 22 16 (.pan .retirePend),
     fR 13 0 (.pan .sparesLeft)]⟩,
  -- PAN_SCRUB
  ⟨.die, 0x60000C, [], [fR 31 24 (.pan .lapPct), fR 23 0 (.pan .lastLapMs)]⟩,
  -- PAN_REPAIR_STATUS
  ⟨.die, 0x600010, [], [fR 31 24 (.pan .fuseFree),
     fR 23 16 (.pan .appliedNew),
     fR 9 0 (.pan .pprLeft)]⟩,
  -- PAN_RETIRE_COUNT
  ⟨.die, 0x600014, [], [fR 15 0 (.pan .records)]⟩]

/-- Registers of the CRR block (10_pannier_memory_and_courier.md). -/
def regsCrr : List Reg := [
  -- CRR_CH_CFG
  ⟨.courier, 0x680000, [(12, 0x100)], [fT 5 4 (.crr .resumeMax), fB 0 0 (.crr .chEn)]⟩,
  -- CRR_CH_STATUS
  ⟨.courier, 0x680004, [(12, 0x100)], [fR 21 16 (.crr .descIdx),
     fR 15 12 (.crr .fault),
     fR 11 10 (.crr .faultSpace),
     fR 9 8 (.crr .depth),
     fR 5 4 (.crr .cls),
     fR 2 0 (.crr .state)]⟩,
  -- CRR_CH_DONE
  ⟨.courier, 0x680008, [(12, 0x100)], [fR 23 0 (.crr .doneBytes)]⟩,
  -- CRR_WIN_SIZE
  ⟨.dieZero, 0x681008, [(16, 0x10)], [fB 20 0 (.crr .winSize) (.ivs [(0, 1048576)])]⟩,
  -- CRR_WIN_FLAGS
  ⟨.dieZero, 0x68100C, [(16, 0x10)], [fB 0 0 (.crr .winEn),
     fB 1 1 (.crr .winTicket),
     fB 2 2 (.crr .winTelemetry)]⟩]

/-- Registers of the SBG block (11_security_and_container_encryption.md). -/
def regsSbg : List Reg := [
  -- SBG_STATUS
  ⟨.lead, 0x5000, [], [fR 31 30 (.sbg .lifecycle),
     fR 29 29 (.sbg .rngOk),
     fR 28 28 (.sbg .keysReady),
     fR 3 0 (.sbg .spansUp)]⟩,
  -- SBG_CFG
  ⟨.lead, 0x5004, [], [fT 31 16 (.sbg .kaTmoMs) (.ivs [(100, 60000)]), fT 7 0 (.sbg .spanRekeyH) (.ivs [(1, 168)])]⟩]

/-- Registers of the SVC block (11_security_and_container_encryption.md). -/
def regsSvc : List Reg := [
  -- SVC_LOCK
  ⟨.lead, 0x6000, [], [fR 31 31 (.svc .busy),
     fR 30 28 (.svc .owner),
     fR 27 27 (.svc .suspender),
     fR 23 23 (.svc .s0Valid),
     fR 22 20 (.svc .s0Agent),
     fR 19 19 (.svc .s1Valid),
     fR 18 16 (.svc .s1Agent)]⟩,
  -- SVC_CFG
  ⟨.lead, 0x6004, [], [fB 13 0 (.svc .suspMaxUs) (.ivs [(10, 10000)])]⟩]

/-- Registers of the AO block (11_security_and_container_encryption.md). -/
def regsAo : List Reg := [
  -- AO_TAMPER_CFG
  ⟨.lantern, 0x10C, [], [fB 7 0 (.ao .tamperHoldS)]⟩,
  -- AO_BOOT_TRIES
  ⟨.lantern, 0x20, [], [fR 4 4 (.ao .flashReleased),
     fR 3 2 (.ao .triesB),
     fR 1 0 (.ao .triesA)]⟩,
  -- AO_PG_CFG
  ⟨.lantern, 0x40C, [], [fB 15 0 (.ao .restartHoldMs) (.ivs [(10, 60000)])]⟩,
  -- AO_WAKE_INFO
  ⟨.lantern, 0x410, [], [fR 6 4 (.ao .wakeCarrier), fR 2 0 (.ao .wakeSource)]⟩]

/-- Registers of the CRY block (11_security_and_container_encryption.md). -/
def regsCry : List Reg := [
  -- CRY_CFG
  ⟨.die, 0x500000, [], [fT 28 24 (.cry .rekeyLog2) (.ivs [(20, 31)]), fT 16 0 (.cry .rekeyS) (.ivs [(60, 86400)])]⟩]

/-- Registers of the BELL block (12_bell_channel.md). -/
def regsBell : List Reg := [
  -- BELL_CFG
  ⟨(.slot 0x100000), 0x0, [], [fT 27 24 (.bell .captureDb),
     fT 20 16 (.bell .detThr) (.ivs [(6, 20)]),
     fB 15 8 (.bell .code) (.ivs [(0, 32), (255, 255)]),
     fT 5 4 (.bell .compat) (.ivs [(0, 2)]),
     fB 3 3 (.bell .adopt),
     fT 2 2 (.bell .wakeEn),
     fT 1 1 (.bell .ksKey),
     fT 0 0 (.bell .bellEn)]⟩,
  -- BELL_TIMING
  ⟨(.slot 0x100000), 0x4, [], [fT 31 24 (.bell .tParkS) (.ivs [(1, 255)]),
     fT 23 16 (.bell .discTmo) (.ivs [(1, 255)]),
     fT 15 0 (.bell .tHelloMs) (.ivs [(20, 10000)])]⟩,
  -- BELL_STATUS
  ⟨(.slot 0x100000), 0x8, [], [fR 31 24 (.bell .codeUsed),
     fR 23 23 (.bell .agcFrozen),
     fR 22 22 (.bell .rxSlow),
     fR 21 21 (.bell .rxCompat),
     fR 18 16 (.bell .txSrc),
     fR 15 12 (.bell .discFailReason),
     fR 11 8 (.bell .discState),
     fR 7 4 (.bell .txState),
     fR 3 0 (.bell .rxState)]⟩,
  -- BELL_LEVEL
  ⟨(.slot 0x100000), 0xC, [], [fR 31 16 (.bell .rssi), fR 15 0 (.bell .noise)]⟩,
  -- BELL_PEER
  ⟨(.slot 0x100000), 0x10, [], [fR 31 31 (.bell .peerValid),
     fR 30 30 (.bell .peerCompat),
     fR 29 29 (.bell .peerParked),
     fR 14 12 (.bell .farCarrier),
     fR 11 0 (.bell .partner)]⟩,
  -- BELL_KS
  ⟨(.slot 0x100000), 0x14, [], [fT 15 8 (.bell .ksDepth) (.ivs [(5, 25)]), fT 7 0 (.bell .ksLevel) (.ivs [(10, 20)])]⟩,
  -- BELL_GASP
  ⟨(.slot 0x100000), 0x30, [], [fR 31 31 (.bell .gaspValid),
     fR 30 28 (.bell .gaspCarrier),
     fR 27 24 (.bell .gaspReason),
     fR 11 0 (.bell .gaspSender)]⟩,
  -- BELL_GASP_LOC
  ⟨(.slot 0x100000), 0x34, [], [fR 31 0 (.bell .gaspLoc)]⟩]

/-- Registers of the CLK block (13_clocks_and_time.md). -/
def regsClk : List Reg := [
  -- CLK_XO
  ⟨.lead, 0x7000, [], [fR 3 3 (.clk .xoSuspect),
     fR 2 2 (.clk .xoOk),
     fB 1 0 (.clk .xoFreq)]⟩,
  -- CLK_REF_CFG0
  ⟨.lead, 0x7100, [(14, 0x10)], [fT 31 16 (.clk .hardPpb) (.ivs [(100, 50000)]), fT 15 0 (.clk .softPpb) (.ivs [(50, 50000)])]⟩,
  -- CLK_REF_CFG1
  ⟨.lead, 0x7104, [(14, 0x10)], [fT 31 24 (.clk .persist) (.ivs [(1, 255)]),
     fT 23 16 (.clk .agree) (.ivs [(1, 255)]),
     fT 15 6 (.clk .wtrS) (.ivs [(0, 720)]),
     fT 5 5 (.clk .monEn),
     fB 3 0 (.clk .refFreq) (.ivs [(0, 7)])]⟩,
  -- CLK_REF_STATUS
  ⟨.lead, 0x7108, [(14, 0x10)], [fR 31 29 (.clk .qstate),
     fR 28 26 (.clk .cause),
     fR 25 25 (.clk .soft),
     fR 9 0 (.clk .wtrLeft)]⟩,
  -- CLK_REF_OFFSET
  ⟨.lead, 0x710C, [(14, 0x10)], [fR 31 0 (.clk .offset)]⟩,
  -- CLK_DPLL_CFG
  ⟨.lead, 0x7400, [(2, 0x100)], [fT 31 24 (.clk .slope) (.ivs [(1, 200)]),
     fT 11 8 (.clk .home) (.ivs [(0, 13), (15, 15)]),
     fB 7 5 (.clk .bw) .bw,
     fT 1 0 (.clk .dpllMode) (.ivs [(0, 1)])]⟩,
  -- CLK_DPLL_PRIO
  ⟨.lead, 0x7404, [(2, 0x100)], [fT 31 0 (.clk .prio) .prio]⟩,
  -- CLK_DPLL_HOLD
  ⟨.lead, 0x7408, [(2, 0x100)], [fB 7 0 (.clk .holdAvgS) (.ivs [(1, 255)])]⟩,
  -- CLK_DPLL_STATUS
  ⟨.lead, 0x740C, [(2, 0x100)], [fR 31 28 (.clk .selected),
     fR 27 27 (.clk .histValid),
     fR 26 24 (.clk .dpllState)]⟩,
  -- CLK_DPLL_PHASE
  ⟨.lead, 0x7410, [(2, 0x100)], [fR 31 0 (.clk .phase)]⟩,
  -- CLK_DPLL_FREQ
  ⟨.lead, 0x7414, [(2, 0x100)], [fR 31 0 (.clk .dpllFreq)]⟩,
  -- CLK_PPS_CFG
  ⟨.lead, 0x7600, [(5, 0x10)], [fT 31 31 (.clk .ppsEn),
     fT 29 28 (.clk .ppsTb),
     fT 25 16 (.clk .ppsWidth) .pps,
     fT 9 0 (.clk .ppsSlewLim) (.ivs [(1, 1000)])]⟩,
  -- CLK_PPS_OFS
  ⟨.lead, 0x7604, [(5, 0x10)], [fTs 31 0 (.clk .ppsOfs) (.ivs [(-500000000, 499999999)])]⟩,
  -- CLK_PPS_ERR
  ⟨.lead, 0x7608, [(5, 0x10)], [fR 31 0 (.clk .ppsErr)]⟩,
  -- CLK_CLKOUT
  ⟨.lead, 0x7660, [], [fB 8 8 (.clk .squelch),
     fB 7 4 (.clk .freq1) (.ivs [(0, 3)]),
     fB 3 0 (.clk .freq0) (.ivs [(0, 3)])]⟩]

/-- Registers of the TIM block (13_clocks_and_time.md). -/
def regsTim : List Reg := [
  -- TIM_TB_SET_NS
  ⟨.lead, 0x8010, [(4, 0x100)], [fT 29 0 (.tim .setNs) (.ivs [(0, 999999999)])]⟩,
  -- TIM_TB_SET_SEC_LO
  ⟨.lead, 0x8014, [(4, 0x100)], [fT 31 0 (.tim .setSecLo)]⟩,
  -- TIM_TB_SET_SEC_HI
  ⟨.lead, 0x8018, [(4, 0x100)], [fT 15 0 (.tim .setSecHi)]⟩,
  -- TIM_TB_CTRL
  ⟨.lead, 0x801C, [(4, 0x100)], [fC 0 0 (.tim .tbSet), fC 2 2 (.tim .hostApply)]⟩,
  -- TIM_TB_CFG
  ⟨.lead, 0x8020, [(4, 0x100)], [fB 31 29 (.tim .src) (.ivs [(0, 4)]),
     fT 28 26 (.tim .osmcCarrier),
     fT 25 25 (.tim .stepEn),
     fT 10 0 (.tim .freqLim) (.ivs [(1, 2000)])]⟩,
  -- TIM_TB_SERVO
  ⟨.lead, 0x8024, [(4, 0x100)], [fT 31 16 (.tim .kp), fT 15 0 (.tim .ki)]⟩,
  -- TIM_TB_THR
  ⟨.lead, 0x8028, [(4, 0x100)], [fT 31 24 (.tim .sampTmoS) (.ivs [(1, 255)]),
     fT 23 16 (.tim .lockNs) (.ivs [(1, 255)]),
     fT 15 0 (.tim .stepUs) (.ivs [(1, 65535)])]⟩,
  -- TIM_TB_PPS_DELAY
  ⟨.lead, 0x802C, [(4, 0x100)], [fTs 31 0 (.tim .ppsDelay)]⟩,
  -- TIM_TB_HOSTOFS
  ⟨.lead, 0x8030, [(4, 0x100)], [fTs 31 0 (.tim .hostofs)]⟩,
  -- TIM_TB_STATUS
  ⟨.lead, 0x8034, [(4, 0x100)], [fR 31 31 (.tim .tbValid), fR 30 28 (.tim .tbState)]⟩,
  -- TIM_TB_OFFSET
  ⟨.lead, 0x8038, [(4, 0x100)], [fR 31 0 (.tim .tbOffset)]⟩,
  -- TIM_TB_FREQ
  ⟨.lead, 0x803C, [(4, 0x100)], [fR 31 0 (.tim .tbFreq)]⟩,
  -- TIM_TRIG_CFG
  ⟨.lead, 0x8800, [(4, 0x40)], [fT 31 30 (.tim .trigMode) (.ivs [(0, 2)]),
     fT 29 28 (.tim .trigTb),
     fT 23 0 (.tim .trigWidth) (.ivs [(8, 16777215)])]⟩,
  -- TIM_TRIG_PERIOD
  ⟨.lead, 0x8804, [(4, 0x40)], [fT 29 0 (.tim .trigPeriod) (.ivs [(1000, 1000000000)])]⟩,
  -- TIM_TRIG_TGT_NS
  ⟨.lead, 0x8808, [(4, 0x40)], [fT 29 0 (.tim .trigTgtNs) (.ivs [(0, 999999999)])]⟩,
  -- TIM_TRIG_TGT_SEC
  ⟨.lead, 0x880C, [(4, 0x40)], [fT 31 0 (.tim .trigTgtSecLo)]⟩,
  -- TIM_TRIG_TGT_SEC_HI
  ⟨.lead, 0x8810, [(4, 0x40)], [fT 15 0 (.tim .trigTgtSecHi)]⟩,
  -- TIM_TRIG_CTRL
  ⟨.lead, 0x8814, [(4, 0x40)], [fC 0 0 (.tim .trigArm),
     fC 1 1 (.tim .trigDisarm),
     fR 2 2 (.tim .trigArmed),
     fR 3 3 (.tim .trigHeld)]⟩,
  -- TIM_TC_CFG
  ⟨.lead, 0x8C00, [], [fB 5 4 (.tim .tsTb), fB 1 0 (.tim .tcMode) (.ivs [(0, 2)])]⟩,
  -- TIM_PCE_NEXT
  ⟨.lead, 0x8C2C, [], [fR 5 0 (.tim .pceNext)]⟩]

/-- Registers of the MON block (14_monitor_calibration_bias.md). -/
def regsMon : List Reg := [
  -- MON_CTRL
  ⟨(.slot 0x200000), 0x0, [], [fC 31 31 (.mon .sync),
     fT 27 24 (.mon .syncMask),
     fT 21 16 (.mon .seqLen) (.ivs [(0, 32)]),
     fT 0 0 (.mon .monEn)]⟩,
  -- MON_STATUS
  ⟨(.slot 0x200000), 0x4, [], [fR 31 12 (.mon .lapUs), fR 1 0 (.mon .seqState)]⟩,
  -- MON_CH_VAL
  ⟨(.slot 0x200000), 0x100, [(16, 0x4)], [fR 31 30 (.mon .chTag),
     fR 29 16 (.mon .chSeq),
     fR 15 0 (.mon .chCode)]⟩,
  -- MON_CH_UV
  ⟨(.slot 0x200000), 0x140, [(16, 0x4)], [fR 31 0 (.mon .chUv)]⟩,
  -- MON_UNCAL
  ⟨(.slot 0x200000), 0x180, [], [fR 0 0 (.mon .uncal)]⟩,
  -- MON_FILT_CFG
  ⟨(.slot 0x200000), 0x400, [(4, 0x40)], [fT 31 31 (.mon .fEn),
     fT 30 30 (.mon .fDcFreeze),
     fT 29 29 (.mon .fDcEn),
     fT 28 24 (.mon .fDcK),
     fT 22 20 (.mon .fOrder) (.ivs [(3, 5)]),
     fT 19 16 (.mon .fCh),
     fT 11 0 (.mon .fDecimM1) (.ivs [(1, 4095)])]⟩,
  -- MON_FILT_ISHIFT
  ⟨(.slot 0x200000), 0x404, [(4, 0x40)], [fT 19 0 (.mon .fIshift)]⟩,
  -- MON_FILT_CSHIFT
  ⟨(.slot 0x200000), 0x408, [(4, 0x40)], [fT 19 0 (.mon .fCshift)]⟩,
  -- MON_FILT_OUT
  ⟨(.slot 0x200000), 0x40C, [(4, 0x40)], [fR 31 0 (.mon .fOutLatched)]⟩,
  -- MON_FILT_STAT
  ⟨(.slot 0x200000), 0x410, [(4, 0x40)], [fR 31 31 (.mon .fValid),
     fR 30 30 (.mon .fTaint),
     fR 15 0 (.mon .fCount)]⟩,
  -- MON_FILT_GD
  ⟨(.slot 0x200000), 0x414, [(4, 0x40)], [fR 31 0 (.mon .fGd)]⟩]

/-- Registers of the BIAS block (14_monitor_calibration_bias.md). -/
def regsBias : List Reg := [
  -- BIAS_CTRL
  ⟨(.slot 0x300000), 0x0, [], [fC 31 31 (.bias .restart),
     fC 30 30 (.bias .wrapNow),
     fT 16 16 (.bias .wrapAuto),
     fB 9 9 (.bias .biasSrc),
     fT 0 0 (.bias .biasEn)]⟩,
  -- BIAS_LOOP
  ⟨(.slot 0x300000), 0x4, [], [fT 18 16 (.bias .lOrder) (.ivs [(3, 5)]), fT 11 0 (.bias .lDecimM1) (.ivs [(1, 4095)])]⟩,
  -- BIAS_TIMING
  ⟨(.slot 0x300000), 0x8, [], [fT 31 24 (.bias .biasTmo),
     fT 23 16 (.bias .phaseAcqMs),
     fT 15 8 (.bias .resetSlew) (.ivs [(1, 50)])]⟩,
  -- BIAS_WRAP_CFG
  ⟨(.slot 0x300000), 0xC, [], [fT 15 0 (.bias .wrapMv) (.ivs [(8000, 15500)])]⟩,
  -- BIAS_STATUS
  ⟨(.slot 0x300000), 0x10, [], [fR 31 31 (.bias .biasLock),
     fR 30 30 (.bias .hvClamp),
     fR 29 29 (.bias .light),
     fR 7 0 (.bias .ptLocked)]⟩,
  -- BIAS_PT_CFG0
  ⟨(.slot 0x300000), 0x100, [(8, 0x20)], [fT 31 19 (.bias .toneHz) (.ivs [(0, 0), (1000, 8000)]),
     fT 18 10 (.bias .ditherMv) (.ivs [(0, 0), (1, 500)]),
     fT 9 9 (.bias .pol)]⟩,
  -- BIAS_PT_CFG1
  ⟨(.slot 0x300000), 0x104, [(8, 0x20)], [fT 31 24 (.bias .refPhase),
     fT 23 12 (.bias .ptKi) (.ivs [(1, 4095)]),
     fT 11 0 (.bias .lockThr) (.ivs [(1, 4095)])]⟩,
  -- BIAS_PT_VPI
  ⟨(.slot 0x300000), 0x108, [(8, 0x20)], [fTs 31 16 (.bias .initMv), fT 15 0 (.bias .vpiMv) (.ivs [(0, 0), (1000, 8000)])]⟩,
  -- BIAS_PT_STATUS
  ⟨(.slot 0x300000), 0x10C, [(8, 0x20)], [fR 31 28 (.bias .ptState), fR 15 0 (.bias .outMv)]⟩,
  -- BIAS_PT_RB
  ⟨(.slot 0x300000), 0x110, [(8, 0x20)], [fR 31 16 (.bias .rbMv), fR 15 0 (.bias .lastE)]⟩]

/-- Registers of the CAL block (14_monitor_calibration_bias.md). -/
def regsCal : List Reg := [
  -- CAL_SYS_CFG
  ⟨.lantern, 0x400000, [], [fT 31 24 (.cal .calTol) (.ivs [(1, 100)]),
     fT 15 12 (.cal .navgLog2) (.ivs [(10, 16)]),
     fT 7 0 (.cal .slotMask)]⟩,
  -- CAL_REF_UV
  ⟨.lantern, 0x400004, [], [fT 31 0 (.cal .calrefUv) (.ivs [(1000000, 2400000)])]⟩,
  -- CAL_SYS_CTRL
  ⟨.lantern, 0x400008, [], [fC 0 0 (.cal .calStart), fR 1 1 (.cal .sysBusy)]⟩,
  -- CAL_SYS_GAIN
  ⟨(.slotRow 0x20), 0x400100, [], [fR 31 0 (.cal .sysGain)]⟩,
  -- CAL_SYS_OFS
  ⟨(.slotRow 0x20), 0x400104, [], [fR 31 0 (.cal .sysOfs)]⟩,
  -- CAL_SYS_STATUS
  ⟨(.slotRow 0x20), 0x400108, [], [fR 31 31 (.cal .sysValid), fR 30 28 (.cal .sysResult)]⟩,
  -- CAL_SYS_TIME_S
  ⟨(.slotRow 0x20), 0x40010C, [], [fR 31 0 (.cal .sysTimeS)]⟩,
  -- CAL_SYS_TIME_NS
  ⟨(.slotRow 0x20), 0x400110, [], [fR 31 0 (.cal .sysTimeNs)]⟩,
  -- CAL_CONV_CFG
  ⟨(.slotRow 0x100), 0x401000, [], [fT 31 24 (.cal .sliceMs) (.ivs [(1, 100)]),
     fT 23 16 (.cal .tolGain) (.ivs [(1, 255)]),
     fT 15 8 (.cal .tolOfs) (.ivs [(1, 255)]),
     fT 7 0 (.cal .tolSkew) (.ivs [(1, 255)])]⟩,
  -- CAL_CONV_CTRL
  ⟨(.slotRow 0x100), 0x401004, [], [fT 7 0 (.cal .bgEn)]⟩,
  -- CAL_CONV_STATUS
  ⟨(.slotRow 0x100), 0x401008, [], [fR 31 31 (.cal .convValid),
     fR 29 24 (.cal .setMeasured),
     fR 23 16 (.cal .sparePerm),
     fR 15 8 (.cal .convFailed),
     fR 6 0 (.cal .roundPct)]⟩,
  -- CAL_CONV_TIME_S
  ⟨(.slotRow 0x100), 0x40100C, [], [fR 31 0 (.cal .convTimeS)]⟩,
  -- CAL_CONV_TIME_NS
  ⟨(.slotRow 0x100), 0x401010, [], [fR 31 0 (.cal .convTimeNs)]⟩]

/-- Registers of the PWR block (15_power_and_kickstand.md). -/
def regsPwr : List Reg := [
  -- PWR_KS_STATUS
  ⟨.lead, 0x9000, [], [{ fR 31 28 (.pwr .stage) with dAdd := 7 },
     { fR 27 24 (.pwr .stage) with dAdd := 6 },
     { fR 23 20 (.pwr .stage) with dAdd := 5 },
     { fR 19 16 (.pwr .stage) with dAdd := 4 },
     { fR 15 12 (.pwr .stage) with dAdd := 3 },
     { fR 11 8 (.pwr .stage) with dAdd := 2 },
     { fR 7 4 (.pwr .stage) with dAdd := 1 },
     fR 3 0 (.pwr .stage)]⟩,
  -- PWR_KS_CFG
  ⟨.lead, 0x9004, [], [fT 15 0 (.pwr .ksDrainMs) (.ivs [(1, 1000)])]⟩]

/-- Registers of the ALM block (16_alarms_counters_diagnostics.md). -/
def regsAlm : List Reg := [
  -- ALM_FAR
  ⟨.die, 0x7C0010, [], [fR 31 31 (.alm .farFresh),
     fR 26 24 (.alm .farCarrier),
     fR 19 16 (.alm .farFlags),
     fR 11 0 (.alm .farSender)]⟩,
  -- ALM_LOG_NEXT
  ⟨.dieZero, 0x7C2010, [], [fR 9 0 (.alm .logNext)]⟩]

/-- Registers of the TRC block (16_alarms_counters_diagnostics.md). -/
def regsTrc : List Reg := [
  -- TRC_CFG
  ⟨.die, 0x701000, [], [fT 20 16 (.trc .trcK) (.ivs [(8, 30)]),
     fT 4 4 (.trc .trcMode),
     fT 3 3 (.trc .tagCw),
     fT 2 2 (.trc .tagRx),
     fT 1 1 (.trc .tagTx),
     fT 0 0 (.trc .trcEn)]⟩,
  -- TRC_STATUS
  ⟨.die, 0x701004, [], [fR 11 0 (.trc .trcNext)]⟩]

/-- Registers of the INJ block (16_alarms_counters_diagnostics.md). -/
def regsInj : List Reg := [
  -- INJ_TEST
  ⟨.dieZero, 0x780000, [], [fB 0 0 (.inj .testEnable)]⟩,
  -- INJ_U_CFG
  ⟨.die, 0x780100, [(8, 0x20)], [fT 31 28 (.inj .uType),
     fT 24 24 (.inj .uMode),
     fT 20 20 (.inj .uPath),
     fT 15 0 (.inj .uTarget)]⟩,
  -- INJ_U_PARAM
  ⟨.die, 0x780104, [(8, 0x20)], [fT 31 0 (.inj .uParam)]⟩,
  -- INJ_U_CTRL
  ⟨.die, 0x780108, [(8, 0x20)], [fC 0 0 (.inj .fire),
     fC 1 1 (.inj .stop),
     fR 2 2 (.inj .uActive),
     fR 5 4 (.inj .uResult)]⟩]

/-- Registers of the CRC block (16_alarms_counters_diagnostics.md). -/
def regsCrc : List Reg := [
  -- CRC_CFG
  ⟨.lead, 0xB018, [], [fT 5 0 (.crc .widthM1),
     fT 8 8 (.crc .refin),
     fT 9 9 (.crc .refout),
     fT 12 12 (.crc .space),
     fT 18 16 (.crc .crcDie)]⟩,
  -- CRC_LEN
  ⟨.lead, 0xB024, [], [fT 31 0 (.crc .len) (.ivs [(1, 4294967295)])]⟩,
  -- CRC_SUBMIT
  ⟨.lead, 0xB028, [], [fC 0 0 (.crc .submit),
     fR 10 8 (.crc .resSlot),
     fR 19 16 (.crc .jobsQueued)]⟩,
  -- CRC_RES_STATUS
  ⟨.lead, 0xB100, [(8, 0x20)], [fR 31 29 (.crc .resStatus)]⟩]

/-- Registers of the TEL block (16_alarms_counters_diagnostics.md). -/
def regsTel : List Reg := [
  -- CRR_TEL_CFG
  ⟨.dieZero, 0x682008, [(7, 0x40)], [fB 31 16 (.tel .periodMs),
     fB 12 8 (.tel .sizeLog2),
     fB 4 4 (.tel .sign),
     fB 1 0 (.tel .kind)]⟩,
  -- CRR_TEL_DB
  ⟨.dieZero, 0x683000, [(7, 0x4)], [fR 31 0 (.tel .db)]⟩]

/-- Every 32-bit register of the map. -/
def allRegs : List Reg :=
  regsId ++ regsBoot ++ regsTkt ++ regsChn ++ regsLt ++ regsLas ++ regsLr ++ regsFec ++ regsCt ++ regsTdm ++ regsPel ++ regsDer ++ regsHl ++ regsQs ++ regsPan ++ regsCrr ++ regsSbg ++ regsSvc ++ regsAo ++ regsCry ++ regsBell ++ regsClk ++ regsTim ++ regsMon ++ regsBias ++ regsCal ++ regsPwr ++ regsAlm ++ regsTrc ++ regsInj ++ regsCrc ++ regsTel

/-- 64-bit registers and counters of the BOOT block. -/
def ctrsBoot : List Ctr := [
  { area := .lead, off := 0x1100, dims := [], cell := .boot .nFlashReread }]

/-- 64-bit registers and counters of the TKT block. -/
def ctrsTkt : List Ctr := [
  { area := .lead, off := 0x2100, dims := [], cell := .tkt .nAccepted },
  { area := .lead, off := 0x2108, dims := [], cell := .tkt .nRejected },
  { area := .lead, off := 0x2110, dims := [], cell := .tkt .nHostWrRej },
  { area := .lead, off := 0x2118, dims := [], cell := .tkt .nHostRdDeny },
  { area := .lead, off := 0x2120, dims := [], cell := .tkt .nJournalWr },
  { area := .lead, off := 0x2128, dims := [], cell := .tkt .nRingBad },
  { area := .lead, off := 0x2130, dims := [], cell := .tkt .nJournalErase },
  { area := .lead, off := 0x2008, dims := [], cell := .tkt .ctrLast },
  { area := .lead, off := 0x2040, dims := [], cell := .tkt .ringBase, acc := .cfgB, rng := (.align 16) }]

/-- 64-bit registers and counters of the CHN block. -/
def ctrsChn : List Ctr := [
  { area := .die, off := 0x580100, dims := [(2, 0x1000)], cell := .chn .nFlitTx },
  { area := .die, off := 0x580108, dims := [(2, 0x1000)], cell := .chn .nFlitRx },
  { area := .die, off := 0x580110, dims := [(2, 0x1000)], cell := .chn .nCrcErr },
  { area := .die, off := 0x580118, dims := [(2, 0x1000)], cell := .chn .nReplay },
  { area := .die, off := 0x580120, dims := [(2, 0x1000)], cell := .chn .nRetrain },
  { area := .die, off := 0x580128, dims := [(2, 0x1000)], cell := .chn .nPelLate },
  { area := .die, off := 0x582008, dims := [], cell := .chn .nSpokeCrcErr }]

/-- 64-bit registers and counters of the LT block. -/
def ctrsLt : List Ctr := [
  { area := .die, off := 0x300300, dims := [], cell := .lt .nDspFrame },
  { area := .die, off := 0x300308, dims := [], cell := .lt .nDacClip },
  { area := .die, off := 0x300310, dims := [], cell := .lt .nMuteEnter },
  { area := .die, off := 0x300318, dims := [], cell := .lt .nBankSwitch }]

/-- 64-bit registers and counters of the LAS block. -/
def ctrsLas : List Ctr := [
  { area := (.lasPort 0x40), off := 0x3800, dims := [], cell := .las .nXact },
  { area := (.lasPort 0x40), off := 0x3808, dims := [], cell := .las .nRetry },
  { area := (.lasPort 0x40), off := 0x3810, dims := [], cell := .las .nXactFail },
  { area := (.lasPort 0x40), off := 0x3818, dims := [], cell := .las .nFaultEnter }]

/-- 64-bit registers and counters of the LR block. -/
def ctrsLr : List Ctr := [
  { area := .die, off := 0x380420, dims := [], cell := .lr .qBits },
  { area := .die, off := 0x380428, dims := [], cell := .lr .qErrs },
  { area := .die, off := 0x380300, dims := [], cell := .lr .nDspFrame },
  { area := .die, off := 0x380308, dims := [], cell := .lr .nAcqAttempt },
  { area := .die, off := 0x380310, dims := [], cell := .lr .nAcqFail },
  { area := .die, off := 0x380318, dims := [], cell := .lr .nRelockFast },
  { area := .die, off := 0x380320, dims := [], cell := .lr .nLosEnter },
  { area := .die, off := 0x380328, dims := [], cell := .lr .nSyncLoss },
  { area := .die, off := 0x380330, dims := [], cell := .lr .nEqReinit },
  { area := .die, off := 0x380338, dims := [], cell := .lr .nCycleSlip },
  { area := .die, off := 0x380340, dims := [], cell := .lr .nAgcFastStep },
  { area := .die, off := 0x380348, dims := [], cell := .lr .nBankSwitch },
  { area := .die, off := 0x380350, dims := [(4, 0x8)], cell := .lr .nAdcClip }]

/-- 64-bit registers and counters of the FEC block. -/
def ctrsFec : List Ctr := [
  { area := .die, off := 0x400300, dims := [], cell := .fec .nCw },
  { area := .die, off := 0x400308, dims := [], cell := .fec .nCwSkipped },
  { area := .die, off := 0x400310, dims := [], cell := .fec .nCorrBits },
  { area := .die, off := 0x400318, dims := [], cell := .fec .nCorrOnes },
  { area := .die, off := 0x400320, dims := [], cell := .fec .nCorrZeros },
  { area := .die, off := 0x400328, dims := [], cell := .fec .nOuterCorr },
  { area := .die, off := 0x400330, dims := [], cell := .fec .nLdpcFail },
  { area := .die, off := 0x400338, dims := [], cell := .fec .nUncorr },
  { area := .die, off := 0x400340, dims := [], cell := .fec .nLockLoss },
  { area := .die, off := 0x400348, dims := [], cell := .fec .nBipOnly },
  { area := .die, off := 0x400400, dims := [(32, 0x8)], cell := .fec .nIterHist }]

/-- 64-bit registers and counters of the CT block. -/
def ctrsCt : List Ctr := [
  { area := .die, off := 0x200300, dims := [], cell := .ct .nSmBip },
  { area := .die, off := 0x200308, dims := [], cell := .ct .nSmBei },
  { area := .die, off := 0x200310, dims := [], cell := .ct .nOofEnter },
  { area := .die, off := 0x200318, dims := [], cell := .ct .nCandRej },
  { area := .die, off := 0x200320, dims := [], cell := .ct .nLmfnErr },
  { area := .die, off := 0x200328, dims := [], cell := .ct .nGccFcsErr },
  { area := .die, off := 0x200330, dims := [], cell := .ct .nGccAddrDisc },
  { area := .die, off := 0x200338, dims := [], cell := .ct .nBondRealign },
  { area := .die, off := 0x204000, dims := [(512, 0x40)], cell := .ct .nFrames },
  { area := .die, off := 0x204008, dims := [(512, 0x40)], cell := .ct .nPmBip },
  { area := .die, off := 0x204010, dims := [(512, 0x40)], cell := .ct .nPmBei },
  { area := .die, off := 0x204018, dims := [(512, 0x40)], cell := .ct .nGapRx },
  { area := .die, off := 0x204020, dims := [(512, 0x40)], cell := .ct .nGapPkts },
  { area := .die, off := 0x204028, dims := [(512, 0x40)], cell := .ct .nGapMiss },
  { area := .die, off := 0x204030, dims := [(512, 0x40)], cell := .ct .nErrmkRx },
  { area := .die, off := 0x204038, dims := [(512, 0x40)], cell := .ct .nUncorrPkt }]

/-- 64-bit registers and counters of the TDM block. -/
def ctrsTdm : List Ctr := [
  { area := .die, off := 0x20E000, dims := [(512, 0x40)], cell := .tdm .nSwitch },
  { area := .die, off := 0x20E008, dims := [(512, 0x40)], cell := .tdm .nSubst },
  { area := .die, off := 0x20E010, dims := [(512, 0x40)], cell := .tdm .nGap },
  { area := .die, off := 0x20E018, dims := [(512, 0x40)], cell := .tdm .nRealign },
  { area := .die, off := 0x20E020, dims := [(512, 0x40)], cell := .tdm .nPPmBip }]

/-- 64-bit registers and counters of the PEL block. -/
def ctrsPel : List Ctr := [
  { area := .die, off := 0x480300, dims := [], cell := .pel .nWaitEnter },
  { area := .die, off := 0x480308, dims := [], cell := .pel .nSuspend },
  { area := .die, off := 0x480310, dims := [], cell := .pel .nAlignErr }]

/-- 64-bit registers and counters of the DER block. -/
def ctrsDer : List Ctr := [
  { area := .die, off := 0x481300, dims := [], cell := .der .nApply },
  { area := .die, off := 0x481308, dims := [], cell := .der .nMiss },
  { area := .die, off := 0x481310, dims := [], cell := .der .nRollback },
  { area := .die, off := 0x481318, dims := [], cell := .der .nOhCrc },
  { area := .dieZero, off := 0x481900, dims := [], cell := .der .nShiftOk },
  { area := .dieZero, off := 0x481908, dims := [], cell := .der .nCancel },
  { area := .dieZero, off := 0x481910, dims := [], cell := .der .nRefused },
  { area := .dieZero, off := 0x481918, dims := [], cell := .der .nMsgDisc }]

/-- 64-bit registers and counters of the HL block. -/
def ctrsHl : List Ctr := [
  { area := .die, off := 0x100, dims := [(16, 0x400)], cell := .hl .nNegAttempt },
  { area := .die, off := 0x108, dims := [(16, 0x400)], cell := .hl .nStepFail },
  { area := .die, off := 0x110, dims := [(16, 0x400)], cell := .hl .nLosEnter },
  { area := .die, off := 0x118, dims := [(16, 0x400)], cell := .hl .nLolEnter },
  { area := .die, off := 0x120, dims := [(16, 0x400)], cell := .hl .nIdleExit },
  { area := .die, off := 0x128, dims := [(16, 0x400)], cell := .hl .nIdleExitFail },
  { area := .die, off := 0x130, dims := [(16, 0x400)], cell := .hl .nPrbsBits },
  { area := .die, off := 0x138, dims := [(16, 0x400)], cell := .hl .nPrbsErr },
  { area := .die, off := 0x140, dims := [(16, 0x400)], cell := .hl .escanErr },
  { area := .die, off := 0x8100, dims := [(16, 0x400)], cell := .hl .nRxFrames },
  { area := .die, off := 0x8108, dims := [(16, 0x400)], cell := .hl .nRxBytes },
  { area := .die, off := 0x8110, dims := [(16, 0x400)], cell := .hl .nRxFcsErr },
  { area := .die, off := 0x8118, dims := [(16, 0x400)], cell := .hl .nRxSizeErr },
  { area := .die, off := 0x8120, dims := [(16, 0x400)], cell := .hl .nTxFrames },
  { area := .die, off := 0x8128, dims := [(16, 0x400)], cell := .hl .nTxBytes },
  { area := .die, off := 0x8130, dims := [(16, 0x400)], cell := .hl .nFecCw },
  { area := .die, off := 0x8138, dims := [(16, 0x400)], cell := .hl .nFecCorrCw },
  { area := .die, off := 0x8140, dims := [(16, 0x400)], cell := .hl .nFecUncorrCw },
  { area := .die, off := 0x8148, dims := [(16, 0x400)], cell := .hl .nFecSymErr },
  { area := .die, off := 0x8150, dims := [(16, 0x400)], cell := .hl .nPfcTx },
  { area := .die, off := 0x8158, dims := [(16, 0x400)], cell := .hl .nMacctlRx },
  { area := .die, off := 0x8160, dims := [(16, 0x400)], cell := .hl .nCtAbort }]

/-- 64-bit registers and counters of the QS block. -/
def ctrsQs : List Ctr := [
  { area := .die, off := 0x100300, dims := [(4, 0x8)], cell := .qs .nClsHit },
  { area := .die, off := 0x100320, dims := [], cell := .qs .nClsMiss },
  { area := .die, off := 0x100328, dims := [], cell := .qs .nClsTagBad },
  { area := .die, off := 0x100330, dims := [], cell := .qs .nClsNoRoom },
  { area := .die, off := 0x100338, dims := [], cell := .qs .nStageDrop },
  { area := .die, off := 0x100340, dims := [], cell := .qs .nGateCommit },
  { area := .die, off := 0x100348, dims := [], cell := .qs .nGateDrop },
  { area := .die, off := 0x100380, dims := [(8, 0x8)], cell := .qs .nGateHold },
  { area := .die, off := 0x108000, dims := [(2048, 0x80)], cell := .qs .nQEnqPkts },
  { area := .die, off := 0x108008, dims := [(2048, 0x80)], cell := .qs .nQEnqBytes },
  { area := .die, off := 0x108010, dims := [(2048, 0x80)], cell := .qs .nQDeqPkts },
  { area := .die, off := 0x108018, dims := [(2048, 0x80)], cell := .qs .nQDeqBytes },
  { area := .die, off := 0x108020, dims := [(2048, 0x80)], cell := .qs .nQDropFull },
  { area := .die, off := 0x108028, dims := [(2048, 0x80)], cell := .qs .nQDropRed },
  { area := .die, off := 0x108030, dims := [(2048, 0x80)], cell := .qs .nQDropYel },
  { area := .die, off := 0x108038, dims := [(2048, 0x80)], cell := .qs .nQCtPkts },
  { area := .die, off := 0x108040, dims := [(2048, 0x80)], cell := .qs .nQVoid },
  { area := .die, off := 0x108048, dims := [(2048, 0x80)], cell := .qs .nQGateDrop },
  { area := .die, off := 0x104000, dims := [(512, 0x20)], cell := .qs .nCGapTx },
  { area := .die, off := 0x104008, dims := [(512, 0x20)], cell := .qs .nCPolRed },
  { area := .die, off := 0x104010, dims := [(512, 0x20)], cell := .qs .nCDrainDisc },
  { area := .die, off := 0x104018, dims := [(512, 0x20)], cell := .qs .nCExcessBytes },
  { area := .die, off := 0x1000AC, dims := [], cell := .qs .gateStartS }]

/-- 64-bit registers and counters of the PAN block. -/
def ctrsPan : List Ctr := [
  { area := .die, off := 0x600300, dims := [], cell := .pan .nCeData },
  { area := .die, off := 0x600308, dims := [], cell := .pan .nCeCheck },
  { area := .die, off := 0x600310, dims := [], cell := .pan .nUe },
  { area := .die, off := 0x600318, dims := [], cell := .pan .nPoisonRd },
  { area := .die, off := 0x600320, dims := [], cell := .pan .nPoisonWr },
  { area := .die, off := 0x600328, dims := [], cell := .pan .nWbFail },
  { area := .die, off := 0x600330, dims := [], cell := .pan .nHard },
  { area := .die, off := 0x600338, dims := [], cell := .pan .nRetire },
  { area := .die, off := 0x600340, dims := [], cell := .pan .nRetireDrop },
  { area := .die, off := 0x600348, dims := [], cell := .pan .nMigSkip },
  { area := .die, off := 0x600350, dims := [], cell := .pan .nTrackOvf },
  { area := .die, off := 0x600358, dims := [], cell := .pan .nScrubLaps },
  { area := .die, off := 0x600360, dims := [], cell := .pan .nMergeRmw },
  { area := .die, off := 0x600368, dims := [], cell := .pan .nWalkRepair },
  { area := .die, off := 0x600370, dims := [], cell := .pan .nWalkFault },
  { area := .die, off := 0x600378, dims := [], cell := .pan .nQLossPkts },
  { area := .die, off := 0x600380, dims := [], cell := .pan .nQFlush },
  { area := .die, off := 0x600388, dims := [], cell := .pan .nXtsFault }]

/-- 64-bit registers and counters of the CRR block. -/
def ctrsCrr : List Ctr := [
  { area := .courier, off := 0x680080, dims := [(12, 0x100)], cell := .crr .nDescDone },
  { area := .courier, off := 0x680088, dims := [(12, 0x100)], cell := .crr .nBytes },
  { area := .courier, off := 0x680090, dims := [(12, 0x100)], cell := .crr .nPreempt },
  { area := .courier, off := 0x680098, dims := [(12, 0x100)], cell := .crr .nFault },
  { area := .courier, off := 0x6800A0, dims := [(12, 0x100)], cell := .crr .nResume },
  { area := .courier, off := 0x6800A8, dims := [(12, 0x100)], cell := .crr .nAbort },
  { area := .courier, off := 0x6800B0, dims := [(12, 0x100)], cell := .crr .nCipherWait },
  { area := .dieZero, off := 0x680F00, dims := [], cell := .crr .nPcieUnexp },
  { area := .courier, off := 0x680010, dims := [(12, 0x100)], cell := .crr .faultAddr },
  { area := .dieZero, off := 0x681000, dims := [(16, 0x10)], cell := .crr .winBase, acc := .cfgB, rng := (.align 4096) }]

/-- 64-bit registers and counters of the SBG block. -/
def ctrsSbg : List Ctr := [
  { area := .lead, off := 0x5100, dims := [], cell := .sbg .nHsOk },
  { area := .lead, off := 0x5108, dims := [], cell := .sbg .nHsFail },
  { area := .lead, off := 0x5110, dims := [], cell := .sbg .nKchDisc },
  { area := .lead, off := 0x5118, dims := [], cell := .sbg .nWrapFail },
  { area := .lead, off := 0x5120, dims := [], cell := .sbg .nDrbgReseed },
  { area := .lead, off := 0x5128, dims := [], cell := .sbg .nHealthFail }]

/-- 64-bit registers and counters of the SVC block. -/
def ctrsSvc : List Ctr := [
  { area := .lead, off := 0x6300, dims := [], cell := .svc .nMsg },
  { area := .lead, off := 0x6308, dims := [], cell := .svc .nSuspend },
  { area := .lead, off := 0x6310, dims := [], cell := .svc .nSuspFail },
  { area := .lead, off := 0x6318, dims := [], cell := .svc .nCheckFail },
  { area := .lead, off := 0x6320, dims := [], cell := .svc .nWait }]

/-- 64-bit registers and counters of the AO block. -/
def ctrsAo : List Ctr := [
  { area := .lantern, off := 0x110, dims := [], cell := .ao .nTamper },
  { area := .lantern, off := 0x500, dims := [], cell := .ao .nPgFail }]

/-- 64-bit registers and counters of the CRY block. -/
def ctrsCry : List Ctr := [
  { area := .die, off := 0x510000, dims := [(512, 0x80)], cell := .cry .nSealed },
  { area := .die, off := 0x510008, dims := [(512, 0x80)], cell := .cry .nVerified },
  { area := .die, off := 0x510010, dims := [(512, 0x80)], cell := .cry .nSealFail },
  { area := .die, off := 0x510018, dims := [(512, 0x80)], cell := .cry .nTagMissing },
  { area := .die, off := 0x510020, dims := [(512, 0x80)], cell := .cry .nReplay },
  { area := .die, off := 0x510028, dims := [(512, 0x80)], cell := .cry .nDraftErrblk },
  { area := .die, off := 0x510030, dims := [(512, 0x80)], cell := .cry .nDraftDisc },
  { area := .die, off := 0x510038, dims := [(512, 0x80)], cell := .cry .nRekey },
  { area := .die, off := 0x510040, dims := [(512, 0x80)], cell := .cry .nPSealFail },
  { area := .die, off := 0x510048, dims := [(512, 0x80)], cell := .cry .nHoldFrames }]

/-- 64-bit registers and counters of the BELL block. -/
def ctrsBell : List Ctr := [
  { area := (.slot 0x100000), off := 0x100, dims := [], cell := .bell .nTxMsg },
  { area := (.slot 0x100000), off := 0x108, dims := [], cell := .bell .nDetect },
  { area := (.slot 0x100000), off := 0x110, dims := [], cell := .bell .nFalseDet },
  { area := (.slot 0x100000), off := 0x118, dims := [], cell := .bell .nCapture },
  { area := (.slot 0x100000), off := 0x120, dims := [], cell := .bell .nCrcFail },
  { area := (.slot 0x100000), off := 0x128, dims := [], cell := .bell .nRxMsg },
  { area := (.slot 0x100000), off := 0x130, dims := [], cell := .bell .nRxDisc },
  { area := (.slot 0x100000), off := 0x138, dims := [], cell := .bell .nWakeRx },
  { area := (.slot 0x100000), off := 0x140, dims := [], cell := .bell .nCompatRx }]

/-- 64-bit registers and counters of the CLK block. -/
def ctrsClk : List Ctr := [
  { area := .lead, off := 0x7F00, dims := [(2, 0x8)], cell := .clk .nSwitch },
  { area := .lead, off := 0x7F10, dims := [(2, 0x8)], cell := .clk .nFw },
  { area := .lead, off := 0x7F20, dims := [], cell := .clk .nWtrRestart },
  { area := .lead, off := 0x7F80, dims := [(14, 0x8)], cell := .clk .nDisq }]

/-- 64-bit registers and counters of the TIM block. -/
def ctrsTim : List Ctr := [
  { area := .lead, off := 0x8F00, dims := [(4, 0x20)], cell := .tim .nSamples },
  { area := .lead, off := 0x8F08, dims := [(4, 0x20)], cell := .tim .nSampDisc },
  { area := .lead, off := 0x8F10, dims := [(4, 0x20)], cell := .tim .nOutlier },
  { area := .lead, off := 0x8F18, dims := [(4, 0x20)], cell := .tim .nStep },
  { area := .lead, off := 0x8F80, dims := [], cell := .tim .nPce },
  { area := .lead, off := 0x8F88, dims := [], cell := .tim .nTrigLate },
  { area := .lead, off := 0x8F90, dims := [], cell := .tim .nTcCorr },
  { area := .lead, off := 0x8F98, dims := [], cell := .tim .nTcFupMiss },
  { area := .lead, off := 0x8FA0, dims := [], cell := .tim .nTcUnsync },
  { area := .lead, off := 0x8FA8, dims := [], cell := .tim .nTcSkip },
  { area := .lead, off := 0x8FB0, dims := [], cell := .tim .nOsmcDisc },
  { area := .lead, off := 0x8FC0, dims := [(4, 0x8)], cell := .tim .nTrigFired }]

/-- 64-bit registers and counters of the MON block. -/
def ctrsMon : List Ctr := [
  { area := (.slot 0x200000), off := 0x300, dims := [], cell := .mon .nConv },
  { area := (.slot 0x200000), off := 0x308, dims := [], cell := .mon .nOvr },
  { area := (.slot 0x200000), off := 0x310, dims := [], cell := .mon .nSettle }]

/-- 64-bit registers and counters of the BIAS block. -/
def ctrsBias : List Ctr := [
  { area := (.slot 0x300000), off := 0x300, dims := [], cell := .bias .nUnlock },
  { area := (.slot 0x300000), off := 0x308, dims := [], cell := .bias .nWrap },
  { area := (.slot 0x300000), off := 0x310, dims := [], cell := .bias .nTaint }]

/-- 64-bit registers and counters of the CAL block. -/
def ctrsCal : List Ctr := [
  { area := .lantern, off := 0x400300, dims := [], cell := .cal .nSysCount },
  { area := .lantern, off := 0x400308, dims := [], cell := .cal .nSysReject },
  { area := (.slotRow 0x100), off := 0x401080, dims := [], cell := .cal .nConvCount },
  { area := (.slotRow 0x100), off := 0x401088, dims := [], cell := .cal .nConvReject }]

/-- 64-bit registers and counters of the PWR block. -/
def ctrsPwr : List Ctr := [
  { area := .lead, off := 0x9100, dims := [], cell := .pwr .nKsEnter },
  { area := .lead, off := 0x9108, dims := [], cell := .pwr .nKsReverse },
  { area := .lead, off := 0x9110, dims := [], cell := .pwr .nKsLateWake },
  { area := .lead, off := 0x9118, dims := [], cell := .pwr .nKsDrainDisc },
  { area := .lead, off := 0x9120, dims := [], cell := .pwr .nWakeIgnored },
  { area := .lead, off := 0x9148, dims := [(4, 0x8)], cell := .pwr .nWake }]

/-- 64-bit registers and counters of the ALM block. -/
def ctrsAlm : List Ctr := [
  { area := .die, off := 0x7C0100, dims := [], cell := .alm .nMgmtDisc },
  { area := .dieZero, off := 0x7C2100, dims := [], cell := .alm .nLogEntries },
  { area := .dieZero, off := 0x7C2108, dims := [], cell := .alm .nLogOverwrite }]

/-- 64-bit registers and counters of the PC block. -/
def ctrsPc : List Ctr := [
  { area := .die, off := 0x700100, dims := [(16, 0x8)], cell := .pc .nLvl }]

/-- 64-bit registers and counters of the TRC block. -/
def ctrsTrc : List Ctr := [
  { area := .die, off := 0x701100, dims := [], cell := .trc .nTagged },
  { area := .die, off := 0x701108, dims := [], cell := .trc .nLost }]

/-- 64-bit registers and counters of the INJ block. -/
def ctrsInj : List Ctr := [
  { area := .die, off := 0x780110, dims := [(8, 0x20)], cell := .inj .nInj }]

/-- 64-bit registers and counters of the CRC block. -/
def ctrsCrc : List Ctr := [
  { area := .lead, off := 0xB200, dims := [], cell := .crc .nJobs },
  { area := .lead, off := 0xB208, dims := [], cell := .crc .nReject },
  { area := .lead, off := 0xB000, dims := [], cell := .crc .poly, acc := .cfgT },
  { area := .lead, off := 0xB008, dims := [], cell := .crc .init, acc := .cfgT },
  { area := .lead, off := 0xB010, dims := [], cell := .crc .xorout, acc := .cfgT },
  { area := .lead, off := 0xB01C, dims := [], cell := .crc .addr, acc := .cfgT },
  { area := .lead, off := 0xB108, dims := [(8, 0x20)], cell := .crc .resResult },
  { area := .lead, off := 0xB110, dims := [(8, 0x20)], cell := .crc .resBytes },
  { area := .lead, off := 0xB118, dims := [(8, 0x20)], cell := .crc .resFaultAddr }]

/-- 64-bit registers and counters of the TEL block. -/
def ctrsTel : List Ctr := [
  { area := .dieZero, off := 0x683300, dims := [(7, 0x20)], cell := .tel .nDrop },
  { area := .dieZero, off := 0x683308, dims := [(7, 0x20)], cell := .tel .nSkip },
  { area := .dieZero, off := 0x683310, dims := [(7, 0x20)], cell := .tel .nDbBad },
  { area := .dieZero, off := 0x682000, dims := [(7, 0x40)], cell := .tel .telBase, acc := .cfgB, rng := (.align 64) }]

/-- Every 64-bit register and counter of the map. -/
def allCtrs : List Ctr :=
  ctrsBoot ++ ctrsTkt ++ ctrsChn ++ ctrsLt ++ ctrsLas ++ ctrsLr ++ ctrsFec ++ ctrsCt ++ ctrsTdm ++ ctrsPel ++ ctrsDer ++ ctrsHl ++ ctrsQs ++ ctrsPan ++ ctrsCrr ++ ctrsSbg ++ ctrsSvc ++ ctrsAo ++ ctrsCry ++ ctrsBell ++ ctrsClk ++ ctrsTim ++ ctrsMon ++ ctrsBias ++ ctrsCal ++ ctrsPwr ++ ctrsAlm ++ ctrsPc ++ ctrsTrc ++ ctrsInj ++ ctrsCrc ++ ctrsTel

/-- Every alarm register group of the map. -/
def allAlms : List AlmReg := [
  ⟨.lead, 0x1014, 0x1018, 0x101C, .cfgT, [],
    [(5, .bootFlashHeld), (4, .bootRestarted), (3, .bootJournalInvalid), (2, .bootSlowFlash), (1, .bootFallback), (0, .bootCrcMismatch)]⟩,
  ⟨.die, 0x580010, 0x580014, 0x580018, .cfgT, [(2, 0x1000)],
    [(3, .chnClkLoss), (2, .chnPeerMismatch), (1, .chnLaneSpared), (0, .chnDown)]⟩,
  ⟨.die, 0x582010, 0x582014, 0x582018, .cfgT, [],
    [(0, .spokeLost)]⟩,
  ⟨.die, 0x300200, 0x300204, 0x300208, .cfgT, [],
    [(2, .ltTxcalFail), (1, .ltDacClipHi), (0, .ltTxDown)]⟩,
  ⟨(.lasPort 0x100), 0x3010, 0x3014, 0x3018, .cfgT, [],
    [(2, .lasWarn), (1, .lasLow), (0, .lasFault)]⟩,
  ⟨.die, 0x380200, 0x380204, 0x380208, .cfgT, [],
    [(12, .lrRxcalFail), (11, .lrAcqFailed), (10, .lrQualLow), (9, .lrCdNearLimit), (8, .lrRxPwrLow), (7, .lrAdcOverload), (6, .lrAdcClipHi), (5, .lrCycleSlip), (4, .lrEqSlip), (3, .lrSyncLoss), (2, .lrLoLost), (1, .lrLos), (0, .lrRxDown)]⟩,
  ⟨.die, 0x400200, 0x400204, 0x400208, .cfgT, [],
    [(5, .fecBipOnly), (4, .fecUncorr), (3, .fecLdpcFail), (2, .fecLockLoss), (1, .fecSd), (0, .fecSf)]⟩,
  ⟨.die, 0x200200, 0x200204, 0x200208, .cfgT, [],
    [(6, .ctCtnAny), (5, .ctBondSkewExc), (4, .ctLmfnErr), (3, .ctSmBdiRx), (2, .ctSmTim), (1, .ctOof), (0, .ctLof)]⟩,
  ⟨.die, 0x480200, 0x480204, 0x480208, .cfgT, [],
    [(3, .pelLate), (2, .pelWalkExc), (1, .pelSuspended), (0, .pelNbLost)]⟩,
  ⟨.die, 0x481200, 0x481204, 0x481208, .cfgT, [],
    [(4, .derArmFail), (3, .derSplit), (2, .derRollback), (1, .derAis), (0, .derMissed)]⟩,
  ⟨.die, 0x200, 0x204, 0x208, .cfgT, [(16, 0x400)],
    [(6, .hllPrbsErr), (5, .hllMarginLow), (4, .hllIdleExitFail), (3, .hllStepFail), (2, .hllNegFail), (1, .hllLol), (0, .hllLos)]⟩,
  ⟨.die, 0x8200, 0x8204, 0x8208, .cfgT, [(16, 0x400)],
    [(7, .hlpCtAbort), (6, .hlpHostMacctl), (5, .hlpRfRx), (4, .hlpLfRx), (3, .hlpFecDegrade), (2, .hlpFecUncorr), (1, .hlpAlignLoss), (0, .hlpLinkDown)]⟩,
  ⟨.die, 0x100200, 0x100204, 0x100208, .cfgT, [],
    [(6, .qsDrainDisc), (5, .qsBrakeOn), (4, .qsGateCycleCut), (3, .qsGateDrop), (2, .qsClsNoRoom), (1, .qsQFullDrop), (0, .qsStageOvf)]⟩,
  ⟨.die, 0x600200, 0x600204, 0x600208, .cfgT, [],
    [(10, .panRetireDrop), (9, .panTrackOvf), (8, .panMigUrgent), (7, .panXtsFault), (6, .panWalkFault), (5, .panScrubSlow), (4, .panSpareEmpty), (3, .panSpareLow), (2, .panHardFault), (1, .panUe), (0, .panDown)]⟩,
  ⟨.die, 0x680E00, 0x680E04, 0x680E08, .cfgT, [],
    [(2, .crrPcie), (1, .crrAbort), (0, .crrHalt)]⟩,
  ⟨.lead, 0x5010, 0x5014, 0x5018, .cfgT, [],
    [(6, .sbgKchTagFail), (5, .sbgSvcFault), (4, .sbgCryptoHoldAny), (3, .sbgWrapFail), (2, .sbgTrustRevokedPeer), (1, .sbgPeerAuthFail), (0, .sbgEntropyFail)]⟩,
  ⟨.lantern, 0x100, 0x104, 0x108, .cfgT, [],
    [(3, .aoTamperMesh), (2, .aoTamperTemp), (1, .aoTamperClk), (0, .aoTamperVolt)]⟩,
  ⟨.lantern, 0x400, 0x404, 0x408, .cfgT, [],
    [(10, .pgVhvn), (9, .pgVhvp), (8, .pgVio), (7, .pgVddOe), (6, .pgVddqPan), (5, .pgVddPan), (4, .pgVddhConv), (3, .pgVddConv), (2, .pgVddhSrds), (1, .pgVddSrds), (0, .pgVddCore)]⟩,
  ⟨.die, 0x500200, 0x500204, 0x500208, .cfgT, [],
    [(1, .cryHoldAny), (0, .cryCtxAny)]⟩,
  ⟨(.slot 0x100000), 0x200, 0x204, 0x208, .cfgT, [],
    [(3, .bellTxBlocked), (2, .bellPeerChange), (1, .bellGaspRx), (0, .bellDiscFail)]⟩,
  ⟨.lead, 0x7E00, 0x7E04, 0x7E08, .cfgT, [],
    [(8, .clkPpsSlew), (7, .clkXoSuspect), (6, .clkXoLoss), (5, .clkRefSoft), (4, .clkRefDisq), (3, .clkBSwitch), (2, .clkBFreewheel), (1, .clkASwitch), (0, .clkAFreewheel)]⟩,
  ⟨.lead, 0x8E00, 0x8E04, 0x8E08, .cfgT, [],
    [(4, .timPathChange), (3, .timTcUnsync), (2, .timTrigLate), (1, .timTbStep), (0, .timTbHold)]⟩,
  ⟨(.slot 0x300000), 0x200, 0x204, 0x208, .cfgT, [],
    [(6, .biasStartFail), (5, .biasRail), (4, .biasCalFail), (3, .biasWrap), (2, .biasNearRail), (1, .biasOutFault), (0, .biasUnlock)]⟩,
  ⟨.lantern, 0x400200, 0x400204, 0x400208, .cfgT, [],
    [(4, .calSyscalFail), (3, .calConvStale), (2, .calConvReject), (1, .calConvNoSpare), (0, .calConvFail)]⟩,
  ⟨.die, 0x701200, 0x701204, 0x701208, .cfgT, [],
    [(0, .trcFull)]⟩,
  ⟨.die, 0x780200, 0x780204, 0x780208, .ro, [],
    [(0, .injInjected)]⟩,
  ⟨.dieZero, 0x683200, 0x683204, 0x683208, .cfgT, [],
    [(0, .telOvf)]⟩]

end Sys2Proof.Machine
end

