-- ==== Sys2Proof/Machine/Address.lean ====
section
/-!
DEFINITION. The address decode (R466, R469 to R474): what stands at an address.
-/
namespace Sys2Proof.Machine

/-- Where the _ADDR register of a window is, and its entries and words per entry (R474); QS_CLS has no index. -/
structure WinInfo where
  area : Area
  off : Nat
  entries : Nat
  words : Nat
  deriving DecidableEq, Repr

/-- The windows of R474. -/
def Win.info : Win → WinInfo
  | .ltFir => ⟨.die, 0x300120, 132, 1⟩
  | .ctTti => ⟨.die, 0x200020, 1539, 16⟩
  | .ctTsmap => ⟨.die, 0x200030, 640, 1⟩
  | .ctCtn => ⟨.die, 0x200040, 512, 4⟩
  | .tdmCtn => ⟨.die, 0x20C010, 512, 4⟩
  | .derLadder => ⟨.die, 0x481100, 8, 8⟩
  | .qsCls => ⟨.die, 0x100020, 0, 2⟩
  | .qsQ => ⟨.die, 0x100030, 2048, 7⟩
  | .qsQpol => ⟨.die, 0x100040, 2048, 4⟩
  | .qsCtn => ⟨.die, 0x100050, 512, 7⟩
  | .qsCpol => ⟨.die, 0x100060, 512, 4⟩
  | .qsShp => ⟨.die, 0x100070, 512, 4⟩
  | .qsGate => ⟨.die, 0x100080, 512, 2⟩
  | .panRetire => ⟨.die, 0x600020, 16384, 4⟩
  | .panRepair => ⟨.die, 0x600030, 128, 2⟩
  | .cryCtx => ⟨.die, 0x500020, 512, 8⟩
  | .pcLvl => ⟨.die, 0x700010, 16, 2⟩
  | .trcBuf => ⟨.die, 0x701010, 4096, 8⟩
  | .almLog => ⟨.dieZero, 0x7C2000, 1024, 6⟩
  | .telList => ⟨.dieZero, 0x683100, 64, 2⟩
  | .sbgSpan => ⟨.lead, 0x5020, 8, 3⟩
  | .sbgPub => ⟨.lead, 0x5030, 1090, 1⟩
  | .timLink => ⟨.lead, 0x8C10, 8, 4⟩
  | .timPce => ⟨.lead, 0x8C20, 64, 4⟩
  | .monSeq => ⟨.slot 0x200000, 0x10, 32, 1⟩
  | .bellDesc => ⟨.slot 0x100000, 0x20, 1, 8⟩

/-- Every window. -/
def allWins : List Win :=
  [.ltFir, .ctTti, .ctTsmap, .ctCtn, .tdmCtn, .derLadder, .qsCls, .qsQ, .qsQpol, .qsCtn, .qsCpol, .qsShp, .qsGate, .panRetire, .panRepair, .cryCtx, .pcLvl, .trcBuf, .almLog, .telList, .sbgSpan, .sbgPub, .timLink, .timPce, .monSeq, .bellDesc]

/-- The base of an area, and the dimension over dies, slots or ports that comes before the register's own. -/
def Area.base : Area → Nat × List (Nat × Nat)
  | .lead => (0, [])
  | .lantern => (0x8000000, [])
  | .lasPort step => (0, [(8, step)])
  | .slot b => (0x8000000 + b, [(8, 0x1000)])
  | .slotRow step => (0x8000000, [(8, step)])
  | .die => (0x10000000, [(8, 0x1000000)])
  | .dieZero => (0x10000000, [])
  | .courier => (0x10000000, [(8, 0x1000000)])

/-- The indices that an offset has in a list of dimensions, outermost first, and what is left of it. -/
def splitDims : List (Nat × Nat) → Nat → Option (List Nat × Nat)
  | [], r => some ([], r)
  | (n, st) :: ds, r => if r / st < n then (splitDims ds (r % st)).map (fun x => (r / st :: x.1, x.2)) else none

/-- One index over the register's own dimensions. -/
def flatIdx : List (Nat × Nat) → List Nat → Nat → Nat
  | (n, _) :: ds, i :: is, acc => flatIdx ds is (acc * n + i)
  | _, _, acc => acc

/-- The die (slot, port) and index at which an address lies in an array at `area` and `off`, and the bytes left over. -/
def areaMatch (a : Area) (off : Nat) (dims : List (Nat × Nat)) (x : Nat) : Option (Nat × Nat × Nat) :=
  let b := a.base
  if x < b.1 + off then none
  else
    match splitDims (b.2 ++ dims) (x - b.1 - off) with
    | none => none
    | some (is, r) =>
      let d := if b.2 = [] then 0 else is.headD 0
      let i := flatIdx dims (is.drop b.2.length) 0
      if a = .courier && decide (4 ≤ i) && decide (d ≠ 0) then none else some (d, i, r)

/-- What stands at a word address. -/
inductive Place where
  | reg (r : Reg) (d i : Nat)
  | half (c : Ctr) (d i : Nat) (hi : Bool)
  | live (g : AlmReg) (d i : Nat)
  | sticky (g : AlmReg) (d i : Nat)
  | mask (g : AlmReg) (d i : Nat)
  | winAddr (w : Win) (d : Nat)
  | winData (w : Win) (d : Nat)
  | winCtrl (w : Win) (d : Nat)
  | monOvr (d k : Nat)
  | fused (k : Nat)
  | idStatus
  | pub (w : Nat)
  | cryStatus (d : Nat)
  | dieSum (d : Nat) (fault : Bool)
  | pkgSum (fault : Bool)
  | timeBase (b k : Nat)
  | testMirror (d : Nat)
  | mailbox (off : Nat)
  | goWord
  | ringTail
  | keyBearing
  | nothing
  deriving DecidableEq, Repr

/-- The key-bearing ranges (R316). -/
def keyRange (x : Nat) : Bool :=
  (decide (0x5800 ≤ x) && decide (x < 0x6000)) || (decide (0x6100 ≤ x) && decide (x < 0x6200)) ||
    (decide (0x10000000 ≤ x) && decide (x < 0x18000000) && decide (0x508000 ≤ x % 0x1000000) &&
      decide (x % 0x1000000 < 0x509000))

/-- The places that are not in the register table. -/
def specialPlace (x : Nat) : Option Place :=
  if keyRange x then some .keyBearing
  else if x = 0x4 then some .idStatus
  else if (0x10 ≤ x ∧ x < 0x18) ∨ (0x20 ≤ x ∧ x < 0x60) then some (.fused (x / 4))
  else if 0xC000 ≤ x ∧ x < 0xD108 then some (.pub ((x - 0xC000) / 4))
  else if 0x10000 ≤ x ∧ x < 0x20000 then some (.mailbox (x - 0x10000))
  else if x = 0x20000 then some .goWord
  else if x = 0x20004 then some .ringTail
  else if 0x8000 ≤ x ∧ x < 0x8400 ∧ x % 0x100 < 0x10 then some (.timeBase ((x - 0x8000) / 0x100) (x % 0x100 / 4))
  else if 0x8200000 ≤ x ∧ x < 0x8208000 ∧ 0x200 ≤ x % 0x1000 ∧ x % 0x1000 < 0x20C then
    some (.monOvr ((x - 0x8200000) / 0x1000) ((x % 0x1000 - 0x200) / 4))
  else if x = 0x107C1000 then some (.pkgSum false)
  else if x = 0x107C1004 then some (.pkgSum true)
  else if 0x11000000 ≤ x ∧ x < 0x18000000 ∧ x % 0x1000000 = 0x780000 then some (.testMirror (x / 0x1000000 - 0x10))
  else if 0x10000000 ≤ x ∧ x < 0x18000000 then
    let d := x / 0x1000000 - 0x10
    let o := x % 0x1000000
    if o = 0x500004 then some (.cryStatus d)
    else if o = 0x7C0000 then some (.dieSum d false)
    else if o = 0x7C0004 then some (.dieSum d true)
    else none
  else none

/-- A register at an address. -/
def regAt (x : Nat) : Option Place :=
  allRegs.findSome? (fun r => match areaMatch r.area r.off r.dims x with
    | some (d, i, 0) => some (.reg r d i)
    | _ => none)

/-- A half of a 64-bit register or counter at an address. -/
def ctrAt (x : Nat) : Option Place :=
  allCtrs.findSome? (fun c => match areaMatch c.area c.off c.dims x with
    | some (d, i, 0) => some (.half c d i false)
    | some (d, i, 4) => some (.half c d i true)
    | _ => none)

/-- An alarm register at an address. -/
def almAt (x : Nat) : Option Place :=
  allAlms.findSome? (fun g =>
    match areaMatch g.area g.live g.dims x, areaMatch g.area g.sticky g.dims x, areaMatch g.area g.mask g.dims x with
    | some (d, i, 0), _, _ => some (.live g d i)
    | _, some (d, i, 0), _ => some (.sticky g d i)
    | _, _, some (d, i, 0) => some (.mask g d i)
    | _, _, _ => none)

/-- A window register at an address. -/
def winAt (x : Nat) : Option Place :=
  allWins.findSome? (fun w => match areaMatch w.info.area w.info.off [] x with
    | some (d, _, 0) => some (.winAddr w d)
    | some (d, _, 4) => some (.winData w d)
    | some (d, _, 8) => some (.winCtrl w d)
    | _ => none)

/-- The address decode: aligned word addresses only. -/
def placeAt (x : Nat) : Place :=
  if x % 4 ≠ 0 then .nothing
  else
    match specialPlace x with
    | some p => p
    | none =>
      match regAt x with
      | some p => p
      | none =>
        match ctrAt x with
        | some p => p
        | none =>
          match almAt x with
          | some p => p
          | none => (winAt x).getD .nothing

/-- A list of policy entries grants READ, or CLEAR, of a word (R69). -/
def grants (l : List PolicyEntry) (clear : Bool) (a : Nat) : Bool :=
  l.any (fun e => decide (e.base ≤ a) && decide (a ≤ e.limit) && (if clear then e.clear else e.read)) && !keyRange a

/-- A policy grants READ of a word; a counter's half only through an entry that covers both halves (R69, R448). -/
def grantsRead (l : List PolicyEntry) (a : Nat) : Bool :=
  match placeAt a with
  | .half _ _ _ hi =>
    let low := if hi then a - 4 else a
    l.any (fun e => decide (e.base ≤ low) && decide (low + 4 ≤ e.limit) && e.read) && !keyRange a
  | _ => grants l false a

/-- The carrier die that an address lies on. -/
def addrDie (x : Nat) : Option Nat := if 0x10000000 ≤ x ∧ x < 0x18000000 then some (x / 0x1000000 - 0x10) else none

/-- The carrier slot that a LAS port, its counters or a Lantern slot block belongs to. -/
def addrSlot (x : Nat) : Option Nat :=
  if 0x3000 ≤ x ∧ x < 0x3800 then some ((x - 0x3000) / 0x100)
  else if 0x3800 ≤ x ∧ x < 0x3A00 then some ((x - 0x3800) / 0x40)
  else if 0x8100000 ≤ x ∧ x < 0x8400000 ∧ x % 0x100000 < 0x8000 then some (x % 0x100000 / 0x1000)
  else if 0x8400100 ≤ x ∧ x < 0x8400200 then some ((x - 0x8400100) / 0x20)
  else if 0x8401000 ≤ x ∧ x < 0x8401800 then some ((x - 0x8401000) / 0x100)
  else none

/-- An address names a die or slot that is not populated (R2). -/
def State.addrAbsent (s : State) (x : Nat) : Bool :=
  (match addrDie x with
   | some d => !s.present d
   | none => false) ||
  (match addrSlot x with
   | some d => !s.present d
   | none => false)

/-- The block at an address answers: its die runs and is AWAKE, or the Lantern or the lead die runs (R430). -/
def State.addrAnswers (s : State) (x : Nat) : Bool :=
  match addrDie x with
  | some d => s.awake d
  | none => s.released 0 && !s.addrAbsent x

end Sys2Proof.Machine
end

