-- ==== Sys2Proof/Machine/Clocks.lean ====
section
/-!
DEFINITION. The frequency references, their monitors, the two DPLLs and the pulse outputs (R367 to R382).
-/
namespace Sys2Proof.Machine

/-- States of a reference (QSTATE). -/
def refOff : Nat := 0
def refDisqualified : Nat := 1
def refWtr : Nat := 2
def refQualified : Nat := 3

/-- Causes of a disqualification. -/
def causeLos : Nat := 1
def causeHard : Nat := 2
def causeDrift : Nat := 3

/-- States of a DPLL (R377). -/
def dpllFreeRun : Nat := 0
def dpllAcquiring : Nat := 1
def dpllLocked : Nat := 2
def dpllFreewheel : Nat := 3
def dpllSwitching : Nat := 4
def dpllNoRef : Nat := 5

/-- The CLK and TIM blocks answer: the lead die runs. -/
def State.clkOn (s : State) : Bool := s.up 0

/-- The references a DPLL may select (R367, R369, R370): 0 is DPLL A, 1 is DPLL B. -/
def refCandidate (x r : Nat) : Bool :=
  if x = 0 then decide (r < 4) || (decide (6 ≤ r) && decide (r < 14)) else decide (r < 6) || decide (r = 14)

/-- OFFSET of a reference in 0.01 ppb. -/
def State.refOffset (s : State) (r : Nat) : Int := sext 32 (s.get (.clk .offset) 0 r)

/-- The state of a DPLL. -/
def State.dpll (s : State) (x : Nat) : Nat := s.get (.clk .dpllState) 0 x

/-- A reference is QUALIFIED; r = 14 is while DPLL A follows a reference (R370). -/
def State.refOk (s : State) (r : Nat) : Bool :=
  if r = 14 then decide (s.dpll 0 = dpllLocked) || decide (s.dpll 0 = dpllSwitching) || decide (s.dpll 0 = dpllAcquiring)
  else decide (r < 14) && decide (s.get (.clk .qstate) 0 r = refQualified)

-- Selection (R376 to R380).

/-- The phase period P of a reference in ns (R367). -/
def State.refPeriod (s : State) (r : Nat) : Nat :=
  if r < 4 then [1, 125000, 488, 100, 40, 8, 6, 6].getD (s.get (.clk .refFreq) 0 r) 1
  else if r < 6 then 1000000000 else 1000

/-- The reference that AUTO selects; 15: none (R376). -/
def State.dpllChoice (s : State) (x : Nat) : Nat :=
  let home := s.get (.clk .home) 0 x
  let cur := s.get (.clk .selected) 0 x
  if s.refOk home then home
  else if s.refOk cur then cur
  else (((List.range 8).map (fun i => bits (s.get (.clk .prio) 0 x) (4 * i) 4)).find? s.refOk).getD 15

/-- A DPLL enters a state; A_FREEWHEEL or B_FREEWHEEL is live in FREEWHEEL and NO_REF. -/
def State.dpllEnter (s : State) (x st : Nat) : State :=
  (s.set (.clk .dpllState) 0 x st).cond (if x = 0 then .clkAFreewheel else .clkBFreewheel) 0 0
    (decide (st = dpllFreewheel) || decide (st = dpllNoRef))

/-- The last reference is lost: FREEWHEEL at the mean of the holdover history, whose value the spec leaves to the
measurement, or NO_REF on XO_HOLD (R376, R380). -/
def State.dpllLose (s : State) (x : Nat) : State :=
  if s.flag (.clk .histValid) 0 x then
    if s.dpll x = dpllFreewheel then s
    else (((s.set (.clk .dpllFreq) 0 x (s.freeBits 32)).used).inc (.clk .nFw) 0 x).dpllEnter x dpllFreewheel
  else (s.set (.clk .dpllFreq) 0 x 0).dpllEnter x dpllNoRef

/-- A new reference is selected: from LOCKED, SWITCHING, FREEWHEEL, and from ACQUIRING, a pull starts; from NO_REF and
FREE_RUN the DPLL acquires.  PHASE begins at a phase within the reference's period, which the spec leaves to the
signals (R377 to R379). -/
def State.dpllTake (s : State) (x r : Nat) : State :=
  let p : Int := s.refPeriod r
  let ph : Int := (s.free : Int) % p - p / 2
  let s1 := ((s.set (.clk .selected) 0 x r).set (.clk .phase) 0 x (enc ph % 2 ^ 32)).used
  let s2 := s1.set (.clk .driftRun) 0 x 0
  if s.dpll x = dpllNoRef ∨ s.dpll x = dpllFreeRun then s2.dpllEnter x dpllAcquiring
  else ((s2.inc (.clk .nSwitch) 0 x).event (if x = 0 then .clkASwitch else .clkBSwitch) 0 0).dpllEnter x dpllSwitching

/-- DPLL_SELECT: one DPLL evaluates its selection. -/
def State.dpllSelect1 (s : State) (x : Nat) : State :=
  let cur := s.get (.clk .selected) 0 x
  if s.get (.clk .dpllMode) 0 x = 0 then
    if s.dpll x = dpllFreeRun then s
    else (((s.set (.clk .selected) 0 x 15).set (.clk .phase) 0 x 0).set (.clk .dpllFreq) 0 x 0).dpllEnter x dpllFreeRun
  else
    let n := s.dpllChoice x
    if n = 15 then
      if s.dpll x = dpllFreewheel ∨ s.dpll x = dpllNoRef then s
      else ((s.set (.clk .selected) 0 x 15).set (.clk .phase) 0 x 0).dpllLose x
    else if n = cur then s
    else s.dpllTake x n

/-- Both DPLLs evaluate their selections; DPLL B follows what DPLL A has become. -/
def State.dpllSelect (s : State) : State := (s.dpllSelect1 0).dpllSelect1 1

/-- How long a pull lasts, in ns: |Δφ| in ns over SLOPE times 0.05 ns/ms (R378). -/
def pullTime (dphi : Int) (slope : Nat) : Nat := dphi.natAbs * 20000000 / slope

/-- DPLL_PULL_END (R378). -/
def execDpllPullEnd (x : Nat) (s : State) : Result :=
  finishIf (s.clkOn && decide (s.dpll x = dpllSwitching)) s fun s =>
    ((s.set (.clk .phase) 0 x 0).dpllEnter x dpllAcquiring).dpllSelect

/-- DPLL_LOCK (R377). -/
def execDpllLock (x : Nat) (s : State) : Result :=
  finishIf (s.clkOn && decide (s.dpll x = dpllAcquiring)) s fun s => s.dpllEnter x dpllLocked

/-- HOLDOVER_HISTORY_VALID (R380). -/
def execHoldoverHistoryValid (x : Nat) (s : State) : Result :=
  finishIf (s.clkOn && decide (s.dpll x = dpllLocked)) s fun s => s.set (.clk .histValid) 0 x 1

-- Monitoring (R371 to R375).

/-- Two references agree (R373): by the narrower of their AGREE windows. -/
def State.refAgree (s : State) (a b : Nat) : Bool :=
  decide ((s.refOffset a - s.refOffset b).natAbs ≤ 1000 * min (s.get (.clk .agree) 0 a) (s.get (.clk .agree) 0 b))

/-- A reference lies beyond its hard threshold. -/
def State.refHard (s : State) (r : Nat) : Bool := decide (100 * s.get (.clk .hardPpb) 0 r < (s.refOffset r).natAbs)

/-- A disqualification: from QUALIFIED it is counted; from WTR the WTR is restarted (R371, R375). -/
def State.refDisqualify (s : State) (r cause : Nat) : State :=
  let q := s.get (.clk .qstate) 0 r
  let s1 := (((s.set (.clk .qstate) 0 r refDisqualified).set (.clk .cause) 0 r cause).set (.clk .cleanRun) 0 r 0).set
    (.clk .wtrEnd) 0 r 0
  if q = refQualified then ((s1.inc (.clk .nDisq) 0 r).event .clkRefDisq 0 0)
  else if q = refWtr then s1.inc (.clk .nWtrRestart) 0 0
  else s

/-- REF_SOFT is live while any monitored reference is above SOFT_PPB (R372). -/
def State.softFollow (s : State) : State :=
  s.cond .clkRefSoft 0 0 ((List.range 14).any (fun r => s.flag (.clk .soft) 0 r))

/-- The QUALIFIED monitored references. -/
def State.refsOk (s : State) : List Nat := (List.range 14).filter s.refOk

/-- All of a list agree pairwise. -/
def State.allAgree (s : State) (l : List Nat) : Bool := l.all (fun a => l.all (fun b => s.refAgree a b))

/-- Set or clear XO_SUSPECT. -/
def State.xoSuspect (s : State) (mask : Nat) : State :=
  ((s.set (.clk .suspects) 0 0 mask).set (.clk .xoSuspect) 0 0 (if mask = 0 then 0 else 1)).cond .clkXoSuspect 0 0
    (decide (mask ≠ 0))

/-- The part suspects, or no longer suspects, that XO_HOLD has drifted (R374). -/
def State.suspectFollow (s : State) : State :=
  let m := s.get (.clk .suspects) 0 0
  if m ≠ 0 then
    if (maskBits 14 m).any (fun r => !s.refHard r) then s.xoSuspect 0 else s
  else
    let l := s.refsOk
    let same := l.all (fun r => decide (0 < s.refOffset r)) || l.all (fun r => decide (s.refOffset r < 0))
    if 2 ≤ l.length ∧ l.all s.refHard ∧ same ∧ s.allAgree l then s.xoSuspect ((l.map (fun r => 2 ^ r)).sum) else s

/-- Disqualification with cause HARD is withheld from a reference (R374). -/
def State.refExempt (s : State) (r : Nat) : Bool := bit (s.get (.clk .suspects) 0 0) r

/-- The hard threshold (R372). -/
def State.hardCheck (s : State) (r : Nat) : State :=
  let n := if s.refHard r then min 255 (s.get (.clk .hardRun) 0 r + 1) else 0
  let s1 := s.set (.clk .hardRun) 0 r n
  if s.get (.clk .persist) 0 r ≤ n ∧ ¬ s.refExempt r ∧ n ≠ 0 then s1.refDisqualify r causeHard else s1

/-- The cross-check of the reference that a DPLL has selected, at that reference's updates (R373). -/
def State.crossCheck (s : State) (x r : Nat) : State :=
  if s.get (.clk .selected) 0 x ≠ r ∨ r = 14 then s
  else
    let q := (s.refsOk).filter (fun a => refCandidate x a && decide (a ≠ r) && !s.flag (.clk .refLos) 0 a)
    let bad := decide (2 ≤ q.length) && s.allAgree q && q.all (fun a => !s.refAgree r a)
    let n := if bad then min 255 (s.get (.clk .driftRun) 0 x + 1) else 0
    let s1 := s.set (.clk .driftRun) 0 x n
    if bad ∧ s.get (.clk .persist) 0 r ≤ n then s1.refDisqualify r causeDrift else s1

/-- WTR begins, or with WTR_S = 0, or for a reference that was QUALIFIED when the package fell asleep, the reference is
QUALIFIED at once (R375, R400). -/
def State.refReturn (s : State) (r : Nat) : State :=
  let w := s.get (.clk .wtrS) 0 r
  let was := s.get (.clk .wasQual) 0 0
  let s1 := s.set (.clk .cleanRun) 0 r 0
  if w = 0 ∨ bit was r then (s1.set (.clk .qstate) 0 r refQualified).set (.clk .wasQual) 0 0 (putBit was r false)
  else (s1.set (.clk .qstate) 0 r refWtr).set (.clk .wtrEnd) 0 r (s.get (.sys .time) 0 0 + w * 1000000000)

/-- A clean update of a disqualified reference (R375 stage 1). -/
def State.cleanUpdate (s : State) (r : Nat) : State :=
  if s.get (.clk .qstate) 0 r ≠ refDisqualified then s
  else
    let ok := (!s.refHard r || s.refExempt r) &&
      (decide (s.get (.clk .cause) 0 r ≠ causeDrift) || (s.refsOk).any (fun a => s.refAgree r a))
    let n := if ok then min 255 (s.get (.clk .cleanRun) 0 r + 1) else 0
    if ok ∧ s.get (.clk .persist) 0 r ≤ n then s.refReturn r else s.set (.clk .cleanRun) 0 r n

/-- A reference is measured: MON_EN is 1, and a recovered clock is not squelched (R109, R371). -/
def State.refMonitored (s : State) (r : Nat) : Bool :=
  s.flag (.clk .monEn) 0 r && (decide (r < 6) || (s.awake (r - 6) && decide (s.get (.lr .rxState) (r - 6) 0 = 10)))

/-- A DPLL that is LOCKED runs at the frequency of its reference. -/
def State.dpllFreqFollow (s : State) (x r : Nat) : State :=
  if s.dpll x = dpllLocked ∧ s.get (.clk .selected) 0 x = r then s.set (.clk .dpllFreq) 0 x (s.get (.clk .offset) 0 r) else s

/-- REF_MONITOR_UPDATE (R371 to R376): `offset` in 0.01 ppb against XO_HOLD, or the crystal in its place. -/
def execRefMonitorUpdate (r : Nat) (offset : Int) (s : State) : Result :=
  finishIf (s.clkOn && s.refMonitored r) s fun s =>
    let s1 := (s.set (.clk .offset) 0 r (enc (satS 32 offset) % 2 ^ 32)).set (.clk .refLos) 0 r 0
    let s2 := (s1.setB (.clk .soft) 0 r (decide (100 * s1.get (.clk .softPpb) 0 r < (s1.refOffset r).natAbs))).softFollow
    let s3 := (s2.suspectFollow).cleanUpdate r
    let s4 := ((s3.hardCheck r).crossCheck 0 r).crossCheck 1 r
    ((s4.dpllSelect).dpllFreqFollow 0 r).dpllFreqFollow 1 r

/-- REF_LOS (R371). -/
def execRefLos (r : Nat) (s : State) : Result :=
  finishIf (s.clkOn && s.flag (.clk .monEn) 0 r) s fun s =>
    (((s.set (.clk .refLos) 0 r 1).set (.clk .cleanRun) 0 r 0).refDisqualify r causeLos).dpllSelect

/-- REF_WTR_EXPIRY (R375 stage 2). -/
def execRefWtrExpiry (r : Nat) (s : State) : Result :=
  finishIf (s.clkOn && decide (s.get (.clk .qstate) 0 r = refWtr)) s fun s =>
    ((s.set (.clk .qstate) 0 r refQualified).set (.clk .wtrEnd) 0 r 0).dpllSelect

/-- WTR_LEFT: whole seconds of WTR that remain. -/
def State.wtrLeft (s : State) (r : Nat) : Nat :=
  if s.get (.clk .qstate) 0 r = refWtr then
    min 1023 ((s.get (.clk .wtrEnd) 0 r - s.get (.sys .time) 0 0 + 999999999) / 1000000000)
  else 0

/-- MON_EN is written (R375): 0 puts the reference OFF, 1 makes it wait as disqualified. -/
def State.monEnSet (s : State) (r v : Nat) : State :=
  if s.get (.clk .monEn) 0 r = v then s
  else
    let s1 := (((((s.set (.clk .monEn) 0 r v).set (.clk .hardRun) 0 r 0).set (.clk .cleanRun) 0 r 0).set (.clk .wtrEnd) 0 r
      0).set (.clk .soft) 0 r 0).set (.clk .refLos) 0 r 0
    ((s1.set (.clk .qstate) 0 r (if v = 0 then refOff else refDisqualified)).set (.clk .cause) 0 r 0).softFollow.dpllSelect

/-- What the image and every ticket must keep of the references (R369, R370, R372). -/
def State.clkConfigOk (s : State) : Bool :=
  (List.range 14).all (fun r => decide (s.get (.clk .softPpb) 0 r ≤ s.get (.clk .hardPpb) 0 r)) &&
  (List.range 2).all (fun x =>
    (s.get (.clk .home) 0 x :: (List.range 8).map (fun i => bits (s.get (.clk .prio) 0 x) (4 * i) 4)).all (fun r =>
      decide (r = 15) || (refCandidate x r && (decide (r = 14) || (s.flag (.clk .monEn) 0 r &&
        (decide (x = 1) || decide (s.get (.clk .hardPpb) 0 r ≤ 4600)))))))

-- XO_HOLD (R368).

/-- XO_LOSS (R368). -/
def execXoLoss (s : State) : Result := finishIf s.clkOn s fun s => (s.set (.clk .xoOk) 0 0 0).raise .clkXoLoss 0 0

/-- XO_HOLD_RECOVERED (R368). -/
def execXoHoldRecovered (s : State) : Result := finishIf s.clkOn s fun s => (s.set (.clk .xoOk) 0 0 1).lower .clkXoLoss 0 0

-- Pins (R377, R382).

/-- The level of CLKST_A or CLKST_B: 0b101 while the lead die is in reset or gated. -/
def State.clkSt (s : State) (x : Nat) : Nat := if s.clkOn then s.dpll x else 5

/-- CLKOUTk is driven with its frequency (R367, R382): 0 is off, or the FREQ code. -/
def State.clkOut (s : State) (k : Nat) : Nat :=
  if s.clkOn && !(s.flag (.clk .squelch) 0 0 && (decide (s.dpll 0 = dpllFreeRun) || decide (s.dpll 0 = dpllNoRef))) then
    s.get (if k = 0 then .clk .freq0 else .clk .freq1) 0 0
  else 0

-- Pulse outputs (R381).

/-- The period of a pulse output in ns: PPSOUTp 1 s, FSYNC 125 us. -/
def ppsPeriod (p : Nat) : Nat := if p = 4 then 125000 else 1000000000

/-- The time base of a pulse output is VALID. -/
def State.ppsValid (s : State) (p : Nat) : Bool := s.flag (.tim .tbValid) 0 (s.get (.clk .ppsTb) 0 p)

/-- ERR in 1/8000 ns, the shorter way round the period. -/
def ppsWrap (p : Nat) (e : Int) : Int :=
  let w : Int := 8000 * ppsPeriod p
  (e + w / 2) % w - w / 2

/-- CLK_PPS_ERR and PPS_SLEW follow. -/
def State.ppsFollow (s : State) (p : Nat) : State :=
  let s1 := s.set (.clk .ppsErr) 0 p (enc (s.getI (.clk .ppsErr8) 0 p / 8000) % 2 ^ 32)
  s1.cond .clkPpsSlew 0 0 ((List.range 5).any (fun k => s1.flag (.clk .ppsEn) 0 k && s1.flag (.clk .ppsRun) 0 k &&
    decide (80000 < (s1.getI (.clk .ppsErr8) 0 k).natAbs)))

/-- The target of a running output moves: ERR changes by `e` ns. -/
def State.ppsShift (s : State) (p : Nat) (e : Int) : State :=
  if s.flag (.clk .ppsRun) 0 p then
    (s.setI (.clk .ppsErr8) 0 p (ppsWrap p (s.getI (.clk .ppsErr8) 0 p + 8000 * e))).ppsFollow p
  else s

/-- A time base has stepped by `e` ns: the outputs on it slew to their targets. -/
def State.ppsTbStep (s : State) (b : Nat) (e : Int) : State :=
  s.each (List.range 5) fun s p => if s.get (.clk .ppsTb) 0 p = b then s.ppsShift p e else s

/-- OFFSET_NS is written. -/
def State.ppsOfsSet (s : State) (p : Nat) (v : Int) : State :=
  (s.setI (.clk .ppsOfs) 0 p v).ppsShift p (s.getI (.clk .ppsOfs) 0 p - v)

/-- TB of a pulse output is written. -/
def State.ppsTbSet (s : State) (p b : Nat) : State :=
  (s.set (.clk .ppsTb) 0 p b).ppsShift p ((s.tbNow b : Int) - s.tbNow (s.get (.clk .ppsTb) 0 p))

/-- The first target at least 1 ms ahead: a time T with T = OFFSET_NS modulo the period. -/
def ppsTarget (p : Nat) (ofs : Int) (now : Nat) : Nat :=
  let w : Int := ppsPeriod p
  let t : Int := now + 1000000
  (t + (ofs - t) % w).toNat

/-- The first edge of an output is placed on its target. -/
def State.ppsBegin (s : State) (p : Nat) : State :=
  if s.ppsValid p then
    (((s.set (.clk .ppsRun) 0 p 1).set (.clk .ppsFirst) 0 p
      (ppsTarget p (s.getI (.clk .ppsOfs) 0 p) (s.tbNow (s.get (.clk .ppsTb) 0 p)))).set (.clk .ppsErr8) 0 p 0).ppsFollow p
  else (s.set (.clk .ppsRun) 0 p 0).ppsFollow p

/-- PPS_EN is written: setting it realigns at once, clearing it stops the pulses. -/
def State.ppsEnSet (s : State) (p v : Nat) : State :=
  if s.get (.clk .ppsEn) 0 p = v then s
  else
    let s1 := s.set (.clk .ppsEn) 0 p v
    if v = 0 then ((s1.set (.clk .ppsRun) 0 p 0).set (.clk .ppsErr8) 0 p 0).ppsFollow p else s1.ppsBegin p

/-- PPS_ENABLE (R381): PPS_EN changes to 1. -/
def execPpsEnable (p : Nat) (s : State) : Result :=
  finishIf (s.clkOn && !s.flag (.clk .ppsEn) 0 p) s fun s => s.ppsEnSet p 1

/-- ERR after an edge: toward 0 by at most SLEW ns per second, for FSYNC SLEW / 8000 ns per edge (R381). -/
def ppsSlewed (p slew : Nat) (e : Int) : Int :=
  let m : Int := if p = 4 then slew else 8000 * slew
  if m < e then e - m else if e < -m then e + m else 0

/-- PPS_EDGE (R381): an output whose time base has become VALID since PPS_EN was set begins like one just enabled. -/
def execPpsEdge (p : Nat) (s : State) : Result :=
  finishIf (s.clkOn && s.flag (.clk .ppsEn) 0 p && s.ppsValid p) s fun s =>
    if s.flag (.clk .ppsRun) 0 p then
      (s.setI (.clk .ppsErr8) 0 p (ppsSlewed p (s.get (.clk .ppsSlewLim) 0 p) (s.getI (.clk .ppsErr8) 0 p))).ppsFollow p
    else s.ppsBegin p

end Sys2Proof.Machine
end

