-- ==== Sys2Proof/Machine/TimeBase.lean ====
section
/-!
DEFINITION. The Cadence unit: time bases and their servos, time transfer over OSMC, SSM, and the trigger outputs
(R383 to R400).
-/
namespace Sys2Proof.Machine

/-- States of a servo (R386). -/
def tbFree : Nat := 0
def tbAcquire : Nat := 1
def tbLocked : Nat := 2
def tbHold : Nat := 3

/-- The state of a servo. -/
def State.tbSt (s : State) (b : Nat) : Nat := s.get (.tim .tbState) 0 b

/-- TB_HOLD is live while a servo is in HOLD. -/
def State.tbEnter (s : State) (b st : Nat) : State :=
  let s1 := s.set (.tim .tbState) 0 b st
  s1.cond .timTbHold 0 0 ((List.range 4).any (fun k => decide (s1.tbSt k = tbHold)))

/-- A time base reads `t` ns from now on. -/
def State.tbLoad (s : State) (b t : Nat) : State :=
  (s.set (.tim .tbSec) 0 b (t / 1000000000 % 2 ^ 48)).set (.tim .tbNs) 0 b (t % 1000000000)

-- Triggers (R397 to R399).

/-- The signed 40-bit difference of R397. -/
def trigDiff (now target : Nat) : Int := sext 40 (((now : Int) - target) % 2 ^ 40).toNat

/-- The present time of a unit's time base. -/
def State.trigNow (s : State) (u : Nat) : Nat := s.tbNow (s.get (.tim .trigTb) 0 u)

/-- The first target of a periodic unit at least 1 us ahead, whole periods after `last` (R398). -/
def trigNext (last period now : Nat) : Nat :=
  if now + 1000 ≤ last + period then last + period
  else last + (now + 1000 - last + period - 1) / period * period

/-- A late firing (R398). -/
def State.trigLate (s : State) (u : Nat) : State :=
  ((s.inc (.tim .nTrigFired) 0 u).inc (.tim .nTrigLate) 0 0).event .timTrigLate 0 0

/-- The unit has fired late: it stops, or advances to its next target. -/
def State.trigLateFire (s : State) (u : Nat) : State :=
  let s1 := (s.trigLate u).set (.tim .trigHeld) 0 u 0
  if s1.get (.tim .trigMode) 0 u = 2 then
    (s1.set (.tim .trigTgt) 0 u (trigNext (s1.get (.tim .trigTgt) 0 u) (s1.get (.tim .trigPeriod) 0 u) (s1.trigNow u))).set
      (.tim .trigArmed) 0 u 1
  else s1.set (.tim .trigArmed) 0 u 0

/-- The unit is armed with its target: held, late, or loaded into the compare (R398). -/
def State.trigLoad (s : State) (u : Nat) : State :=
  let t := s.get (.tim .trigTgt) 0 u
  let now := s.trigNow u
  if t ≤ now then s.trigLateFire u
  else if now + 549000000000 < t then (s.set (.tim .trigArmed) 0 u 1).set (.tim .trigHeld) 0 u 1
  else (s.set (.tim .trigArmed) 0 u 1).set (.tim .trigHeld) 0 u 0

/-- The target in the unit's registers, as TOTAL_NS. -/
def State.trigTarget (s : State) (u : Nat) : Nat :=
  (s.get (.tim .trigTgtSecHi) 0 u * 2 ^ 32 + s.get (.tim .trigTgtSecLo) 0 u) * 1000000000 + s.get (.tim .trigTgtNs) 0 u

/-- ARM may be accepted (R398). -/
def State.trigMayArm (s : State) (u : Nat) : Bool := s.flag (.tim .tbValid) 0 (s.get (.tim .trigTb) 0 u)

/-- ARM; a unit whose MODE is 0 is off. -/
def State.trigArm (s : State) (u : Nat) : State :=
  if s.get (.tim .trigMode) 0 u = 0 then s else (s.set (.tim .trigTgt) 0 u (s.trigTarget u)).trigLoad u

/-- DISARM. -/
def State.trigDisarm (s : State) (u : Nat) : State := (s.set (.tim .trigArmed) 0 u 0).set (.tim .trigHeld) 0 u 0

/-- TRIGGER_ARM (R398): without a VALID time base it is rejected. -/
def execTriggerArm (u : Nat) (s : State) : Result := finishIf (s.clkOn && s.trigMayArm u) s fun s => s.trigArm u

/-- TRIGGER_DISARM (R398). -/
def execTriggerDisarm (u : Nat) (s : State) : Result := finishIf s.clkOn s fun s => s.trigDisarm u

/-- The compare of an armed unit is met (R397). -/
def State.trigMet (s : State) (u : Nat) : Bool :=
  s.flag (.tim .trigArmed) 0 u && !s.flag (.tim .trigHeld) 0 u && decide (0 ≤ trigDiff (s.trigNow u) (s.get (.tim .trigTgt) 0 u))

/-- The unit fires at its target; in periodic mode the next target is one period on, and one that has passed fires at
once as a late firing (R397, R398). -/
def State.trigFire (s : State) (u : Nat) : State :=
  let s1 := s.inc (.tim .nTrigFired) 0 u
  if s1.get (.tim .trigMode) 0 u = 2 then
    let t := s1.get (.tim .trigTgt) 0 u + s1.get (.tim .trigPeriod) 0 u
    let s2 := s1.set (.tim .trigTgt) 0 u t
    if t ≤ s2.trigNow u then s2.trigLateFire u else s2
  else s1.set (.tim .trigArmed) 0 u 0

/-- TRIGGER_FIRE (R397). -/
def execTriggerFire (u : Nat) (s : State) : Result := finishIf (s.clkOn && s.trigMet u) s fun s => s.trigFire u

/-- TRIGGER_HELD_LOAD (R398): the target of a held unit is at most 500 s ahead. -/
def execTriggerHeldLoad (u : Nat) (s : State) : Result :=
  finishIf (s.clkOn && s.flag (.tim .trigHeld) 0 u && decide (s.get (.tim .trigTgt) 0 u ≤ s.trigNow u + 500000000000)) s
    fun s => s.trigLoad u

/-- After a step of a time base its armed and held units are evaluated again (R399). -/
def State.trigTbStep (s : State) (b : Nat) : State :=
  s.each (List.range 4) fun s u =>
    if s.flag (.tim .trigArmed) 0 u ∧ s.get (.tim .trigTb) 0 u = b then s.trigLoad u else s

-- Time bases (R385 to R387).

/-- A set or a step: the time base reads `t` ns, VALID is set, and the pulse outputs and triggers on it follow (R385). -/
def State.tbStepTo (s : State) (b t : Nat) : State :=
  let e : Int := (t : Int) - s.tbNow b
  let s1 := (((s.tbLoad b t).set (.tim .tbValid) 0 b 1).inc (.tim .nStep) 0 b).event .timTbStep 0 0
  (s1.ppsTbStep b e).trigTbStep b

/-- SET (R385). -/
def State.tbSetNow (s : State) (b : Nat) : State :=
  let t := (s.get (.tim .setSecHi) 0 b * 2 ^ 32 + s.get (.tim .setSecLo) 0 b) * 1000000000 + s.get (.tim .setNs) 0 b
  ((s.set (.tim .tbFrac) 0 b 0).set (.tim .tbSub) 0 b 0).tbStepTo b t

/-- TB_SET (R385): at a whole microsecond of the time clock. -/
def execTbSet (tb : Nat) (s : State) : Result := finishIf s.clkOn s fun s => s.tbSetNow tb

/-- FREQ_LIM in units of 2^-40. -/
def State.tbLimit (s : State) (b : Nat) : Int := (s.get (.tim .freqLim) 0 b * 2 ^ 40 / 10000000 : Nat)

/-- Set the trim; TIM_TB_FREQ shows it in 0.1 ppb. -/
def State.tbTrim (s : State) (b : Nat) (trim : Int) : State :=
  (s.setI (.tim .trim) 0 b trim).set (.tim .tbFreq) 0 b (enc (trim * 10000000000 / 2 ^ 40) % 2 ^ 32)

/-- One step of the PI servo (R386): `theta` in ns, `t` ns since the previous accepted sample, all in units of 2^-40. -/
def servoInteg (integ lim theta : Int) (ki t : Nat) : Int := max (-lim) (min lim (integ + ki * theta * 2 ^ 24 / t))
def servoOut (integ lim theta : Int) (kp t : Nat) : Int := max (-lim) (min lim (integ + kp * theta * 2 ^ 24 / t))

/-- An accepted sample is taken into the servo; the first one has no interval and only starts it. -/
def State.servoTake (s : State) (b : Nat) (theta : Int) : State :=
  let at0 := s.get (.tim .sampAt) 0 b
  if at0 = 0 then s
  else
    let t := max 1 (s.get (.sys .time) 0 0 + 1 - at0)
    let lim := s.tbLimit b
    let i := servoInteg (s.getI (.tim .integ) 0 b) lim theta (s.get (.tim .ki) 0 b) t
    (s.setI (.tim .integ) 0 b i).tbTrim b (-(servoOut i lim theta (s.get (.tim .kp) 0 b) t))

/-- A sample is accepted: counted, shown, and its time kept. -/
def State.sampleAccept (s : State) (b : Nat) (theta : Int) : State :=
  ((s.inc (.tim .nSamples) 0 b).set (.tim .tbOffset) 0 b (enc (satS 32 theta) % 2 ^ 32)).set (.tim .sampAt) 0 b
    (s.get (.sys .time) 0 0 + 1)

/-- Beyond STEP_US. -/
def State.tbFar (s : State) (b : Nat) (theta : Int) : Bool := decide (1000 * s.get (.tim .stepUs) 0 b < theta.natAbs)

/-- An offset sample is offered to a servo (R386). -/
def State.servoSample (s : State) (b : Nat) (theta : Int) : State :=
  let st := s.tbSt b
  if st = tbFree then s
  else if st = tbLocked then
    if s.tbFar b theta then
      let n := s.get (.tim .outRun) 0 b + 1
      let s1 := s.inc (.tim .nOutlier) 0 b
      if n = 8 then ((s1.set (.tim .outRun) 0 b 0).set (.tim .lockRun) 0 b 0).tbEnter b tbAcquire
      else s1.set (.tim .outRun) 0 b n
    else ((s.servoTake b theta).sampleAccept b theta).set (.tim .outRun) 0 b 0
  else
    let s1 := if st = tbHold then (s.set (.tim .lockRun) 0 b 0).tbEnter b tbAcquire else s
    if s1.tbFar b theta && s1.flag (.tim .stepEn) 0 b then
      ((s1.sampleAccept b theta).set (.tim .lockRun) 0 b 0).tbStepTo b ((s1.tbNow b : Int) - theta).toNat
    else
      let n := if theta.natAbs ≤ s1.get (.tim .lockNs) 0 b then s1.get (.tim .lockRun) 0 b + 1 else 0
      let s2 := (s1.servoTake b theta).sampleAccept b theta
      if n = 8 then ((s2.set (.tim .lockRun) 0 b 0).set (.tim .outRun) 0 b 0).tbEnter b tbLocked
      else s2.set (.tim .lockRun) 0 b n

/-- TB_SERVO_SAMPLE (R386): `theta` is the time base minus its source in ns. -/
def execTbServoSample (tb : Nat) (theta : Int) (s : State) : Result := finishIf s.clkOn s fun s => s.servoSample tb theta

/-- TB_SAMPLE_TIMEOUT (R386): no accepted sample for SAMP_TMO_S. -/
def execTbSampleTimeout (tb : Nat) (s : State) : Result :=
  finishIf (s.clkOn && (decide (s.tbSt tb = tbAcquire) || decide (s.tbSt tb = tbLocked))) s fun s =>
    (s.tbTrim tb (-(s.getI (.tim .integ) 0 tb))).tbEnter tb tbHold

/-- SRC is written: 0 is FREE with trim 0, any other source starts at ACQUIRE (R386, R400). -/
def State.tbSrcSet (s : State) (b v : Nat) : State :=
  let s1 := ((((s.set (.tim .src) 0 b v).set (.tim .lockRun) 0 b 0).set (.tim .outRun) 0 b 0).set (.tim .sampAt) 0 b 0)
  if v = 0 then ((s1.set (.tim .integ) 0 b 0).tbTrim b 0).tbEnter b tbFree
  else if s.get (.tim .src) 0 b = v then s
  else s1.tbEnter b tbAcquire

/-- θ of a PPSIN edge (R387): the stamp minus PPS_DELAY, taken modulo 1 s into half a second either way. -/
def ppsTheta (stamp : Nat) (delay : Int) : Int := ((stamp : Int) - delay + 500000000) % 1000000000 - 500000000

/-- PPSIN_EDGE (R387): no sample while that PPSIN is in LOS. -/
def execPpsinEdge (i : Nat) (s : State) : Result :=
  finishIf (s.clkOn && !s.flag (.clk .refLos) 0 (4 + i)) s fun s =>
    s.each (List.range 4) fun s b =>
      if s.get (.tim .src) 0 b = 2 + i then
        s.servoSample b (ppsTheta (s.get (.tim .tbNs) 0 b) (s.getI (.tim .ppsDelay) 0 b))
      else s

/-- HOST_APPLY (R387). -/
def State.hostApply (s : State) (b : Nat) : State := s.servoSample b (s.getI (.tim .hostofs) 0 b)

/-- TB_HOST_APPLY (R387): with any other SRC it is rejected. -/
def execTbHostApply (tb : Nat) (s : State) : Result :=
  finishIf (s.clkOn && decide (s.get (.tim .src) 0 tb = 4)) s fun s => s.hostApply tb

-- OSMC (R388 to R391).

/-- The fields of a TIM_LINK entry. -/
def State.osmcOn (s : State) (d : Nat) : Bool := s.up d && bit (s.winWordAt .timLink 0 d 0) 0
def State.osmcRole (s : State) (d b : Nat) : Nat := bits (s.winWordAt .timLink 0 d 0) (2 * b + 8) 2
def State.osmcDomain (s : State) (d : Nat) : Nat := bits (s.winWordAt .timLink 0 d 0) 24 8
def State.osmcTxQl (s : State) (d : Nat) : Nat := bits (s.winWordAt .timLink 0 d 0) 4 4
def State.osmcAsym (s : State) (d : Nat) : Int := sext 32 (s.winWordAt .timLink 0 d 1)

/-- RX_LAT in 0.1 ns (R389): what the engine and the die fix, `LR_LATENCY` and `FEC_LATENCY`. -/
def State.rxLat (s : State) (d : Nat) : Nat :=
  (Config.rxDelay d + 10 * (s.get (.lr .latNs) d 0 + s.get (.fec .latNs) d 0)) % 2 ^ 32

/-- TX_LAT in 0.1 ns (R389). -/
def State.txLat (s : State) (d : Nat) : Nat :=
  let m := s.txMode d
  Config.txDelay d m.rs m.cst m.fecRate % 2 ^ 16

/-- The span that carries the carrier has a span secret: without one no time messages are sent (R388). -/
def State.osmcKeyed (s : State) (d : Nat) : Bool :=
  match s.spanOn d with
  | some k => s.flag (.sbg .spHas) 0 k
  | none => false

/-- The time base a received message is for, with the role it needs (R388): 1 master, 2 slave. -/
def State.osmcFor (s : State) (d domain role : Nat) : Option Nat :=
  (List.range 4).find? (fun b => decide (s.osmcDomain d + b = domain) && decide (s.osmcRole d b = role))

/-- A sequenceId advances. -/
def seqAdvances (last seq : Nat) : Bool :=
  decide (last = 0) || (decide ((seq + 65537 - last) % 65536 ≠ 0) && decide ((seq + 65537 - last) % 65536 < 32768))

/-- A stamp of the present time of a time base in 0.1 ns. -/
def State.stamp (s : State) (b : Nat) : Nat := 10 * s.tbNow b

/-- A time message is discarded (R388). -/
def State.osmcDisc (s : State) : State := s.inc (.tim .nOsmcDisc) 0 0

/-- PTP_SYNC_TIMER (R388, R389): a master sends Sync and Follow_Up with t1, a slave sends Delay_Req. -/
def execPtpSyncTimer (d tb : Nat) (s : State) : Result :=
  finishIf (s.clkOn && s.osmcOn d && s.osmcKeyed d) s fun s =>
    let next (c : Nat) : Nat := if c = 0 then 1 else c % 65536 + 1
    if s.osmcRole d tb = 1 then
      (s.set (.tim .ptpTxSeq) d tb (next (s.get (.tim .ptpTxSeq) d tb))).set (.tim .ptpTxT1) d tb (s.stamp tb + s.txLat d)
    else if s.osmcRole d tb = 2 then
      (s.set (.tim .ptpReqSeq) d tb (next (s.get (.tim .ptpReqSeq) d tb))).set (.tim .ptpT3) d tb (s.stamp tb + s.txLat d)
    else s

/-- A received message passes the checks of R388. -/
def osmcPass (m : PtpMsg) (last : Nat) : Bool := m.tagOk && !m.malformed && seqAdvances last m.seq

/-- PTP_SYNC_RX (R388, R389): t2 is kept, its Follow_Up is awaited. -/
def execPtpSyncRx (d : Nat) (m : PtpMsg) (s : State) : Result :=
  finishIf (s.clkOn && s.osmcOn d) s fun s =>
    match s.osmcFor d m.domain 2 with
    | none => s.osmcDisc
    | some b =>
      if osmcPass m (s.get (.tim .ptpSyncSeq) d b) then
        ((s.set (.tim .ptpSyncSeq) d b (m.seq + 1)).set (.tim .ptpT2) d b (s.stamp b - s.rxLat d)).set (.tim .ptpHaveSync) d b 0
      else s.osmcDisc

/-- An event of the carrier lies between two times of a time base in 0.1 ns (R390). -/
def State.eventWithin (s : State) (d b lo hi : Nat) : Bool :=
  (List.range 8).any (fun n =>
    let e := s.get (.tim .evtAt) d (8 * b + n)
    decide (e ≠ 0) && decide (lo ≤ 10 * (e - 1)) && decide (10 * (e - 1) ≤ hi))

/-- θ of a pair in ns (R390), from times and ASYM in 0.1 ns. -/
def pairTheta (t1 t2 t3 t4 : Nat) (asym : Int) : Int :=
  ((((t2 : Int) - t1) - ((t4 : Int) - t3)) / 2 - asym) / 10

/-- The slave pairs its latest Sync with its latest answered Delay_Req (R390). -/
def State.ptpPair (s : State) (d b : Nat) : State :=
  if s.flag (.tim .ptpHaveSync) d b && s.flag (.tim .ptpHaveReq) d b then
    let t1 := s.get (.tim .ptpT1) d b
    let t2 := s.get (.tim .ptpT2) d b
    let t3 := s.get (.tim .ptpPairT3) d b
    let t4 := s.get (.tim .ptpT4) d b
    let lo := min (min t1 t2) (min t3 t4)
    let hi := max (max t1 t2) (max t3 t4)
    if 20000000000 < hi - lo then s
    else if s.eventWithin d b lo hi then s.inc (.tim .nSampDisc) 0 b
    else if s.get (.tim .src) 0 b = 1 ∧ s.get (.tim .osmcCarrier) 0 b = d then
      s.servoSample b (pairTheta t1 t2 t3 t4 (s.osmcAsym d))
    else s
  else s

/-- PTP_FOLLOW_UP_RX (R388, R390): t1 in 0.1 ns, for the latest Sync. -/
def execPtpFollowUpRx (d : Nat) (m : PtpMsg) (t1 : Nat) (s : State) : Result :=
  finishIf (s.clkOn && s.osmcOn d) s fun s =>
    match s.osmcFor d m.domain 2 with
    | none => s.osmcDisc
    | some b =>
      if m.tagOk && !m.malformed && decide (s.get (.tim .ptpSyncSeq) d b = m.seq + 1) && !s.flag (.tim .ptpHaveSync) d b then
        ((s.set (.tim .ptpT1) d b t1).set (.tim .ptpHaveSync) d b 1).ptpPair d b
      else s.osmcDisc

/-- PTP_DELAY_REQ_RX (R388, R389): the master answers with t4. -/
def execPtpDelayReqRx (d : Nat) (m : PtpMsg) (s : State) : Result :=
  finishIf (s.clkOn && s.osmcOn d) s fun s =>
    match s.osmcFor d m.domain 1 with
    | none => s.osmcDisc
    | some b =>
      if osmcPass m (s.get (.tim .ptpReqRxSeq) d b) then
        let s1 := s.set (.tim .ptpReqRxSeq) d b (m.seq + 1)
        if s1.osmcKeyed d then s1.set (.tim .ptpTxT4) d b (s.stamp b - s.rxLat d) else s1
      else s.osmcDisc

/-- PTP_DELAY_RESP_RX (R390): t4 in 0.1 ns, for the latest Delay_Req. -/
def execPtpDelayRespRx (d : Nat) (m : PtpMsg) (t4 : Nat) (s : State) : Result :=
  finishIf (s.clkOn && s.osmcOn d) s fun s =>
    match s.osmcFor d m.domain 2 with
    | none => s.osmcDisc
    | some b =>
      if m.tagOk && !m.malformed && decide (s.get (.tim .ptpReqSeq) d b = m.seq + 1) && decide (s.get (.tim .ptpT3) d b ≠ 0) then
        ((((s.set (.tim .ptpPairT3) d b (s.get (.tim .ptpT3) d b)).set (.tim .ptpT4) d b t4).set (.tim .ptpHaveReq) d b 1).set
          (.tim .ptpT3) d b 0).ptpPair d b
      else s.osmcDisc

/-- The quality level of the SSM of a carrier (R391). -/
def State.ssmQl (s : State) (d : Nat) : Nat :=
  if s.get (.clk .selected) 0 0 = 6 + d then 0xF
  else if s.refOk 14 then s.osmcTxQl d
  else 0xB

/-- SSM_TX (R391). -/
def execSsmTx (d : Nat) (s : State) : Result :=
  finishIf (s.clkOn && s.osmcOn d) s fun s => s.set (.tim .ssmTx) d 0 (s.ssmQl d + 1)

/-- SSM_RX (R391). -/
def execSsmRx (d ql : Nat) (s : State) : Result :=
  finishIf (s.clkOn && s.osmcOn d) s fun s => s.set (.tim .rxQl) d 0 (16 + ql)

-- The passage of time (R383, R400).

/-- One cycle of the 1 GHz time clock: a time base adds 1 ns plus its trim; its fraction is kept in units of 2^-40 ns. -/
def State.tbTick (s : State) (b : Nat) : State :=
  let f : Int := s.get (.tim .tbFrac) 0 b * 2 ^ 24 + s.get (.tim .tbSub) 0 b + 2 ^ 40 + s.getI (.tim .trim) 0 b
  let n := f.toNat
  ((s.tbLoad b (s.tbNow b + n / 2 ^ 40)).set (.tim .tbFrac) 0 b (n / 2 ^ 24 % 2 ^ 16)).set (.tim .tbSub) 0 b (n % 2 ^ 24)

/-- The always-on counter advances in package Kickstand (R400). -/
def State.aoTick (s : State) : State :=
  let t := s.get (.tim .aoSec) 0 0 * 1000000000 + s.get (.tim .aoNs) 0 0 + 1
  (s.set (.tim .aoSec) 0 0 (t / 1000000000 % 2 ^ 48)).set (.tim .aoNs) 0 0 (t % 1000000000)

end Sys2Proof.Machine
end

