-- ==== Sys2Proof/Machine/Words.lean ====
section
/-!
DEFINITION. What every address and every window word reads as: registers assembled from their fields, alarm registers,
counters, derived words, and the data word of an indirect window (R466, R469, R474).
-/
namespace Sys2Proof.Machine

/-- Milliseconds that a phase took, or has taken so far (`BOOT_PHASE_MS`). -/
def State.phaseMs (s : State) (p : Nat) : Nat :=
  if s.flag (.boot .phaseRun) 0 0 ∧ s.get (.boot .phase) 0 0 = p then
    (s.get (.sys .time) 0 0 - s.get (.boot .phaseAt) 0 0) / 1000000 % 2 ^ 32
  else s.get (.boot .phaseMs) 0 p

/-- The scrubber of a die runs (R292). -/
def State.scrubs (s : State) (d : Nat) : Bool := s.panOk d && s.flag (.pan .scrubEn) d 0

/-- The value that a field shows.  The progress of a scrub lap and the readback of
a bias output are not stated (free values, log 5). -/
def State.cellRead (s : State) (c : Cell) (d i : Nat) : Nat :=
  match c with
  | .clk .wtrLeft => s.wtrLeft i
  | .pan .lapPct => if s.scrubs d then s.free % 101 else 0
  | .boot .phaseMs => s.phaseMs i
  | .bias .rbMv => s.freeBits 16
  | c => s.get c d i

/-- A field in its place; a command field reads 0 (R4). -/
def State.fldRead (s : State) (f : Fld) (d i : Nat) : Nat :=
  if f.acc = .cmd then 0 else s.cellRead f.cell (d + f.dAdd) (i + f.iAdd) % 2 ^ (f.hi - f.lo + 1) * 2 ^ f.lo

/-- A register word. -/
def State.regWord (s : State) (r : Reg) (d i : Nat) : Nat := (r.flds.map (fun f => s.fldRead f d i)).sum

/-- Alarm bits in their places. -/
def packAlms (l : List Alm) (f : Alm → Bool) : Nat := (l.map (fun a => if f a then 2 ^ a.bitNo else 0)).sum

/-- The words of an alarm register group; the live bits read 0 while the carrier is not AWAKE (R430). -/
def State.almLive (s : State) (g : AlmReg) (d i : Nat) : Nat := packAlms (g.bits.map Prod.snd) (fun a => s.liveSeen a d i)
def State.almSticky (s : State) (g : AlmReg) (d i : Nat) : Nat :=
  packAlms (g.bits.map Prod.snd) (fun a => s.flag (.sticky a) d i)
def State.almMask (s : State) (g : AlmReg) (d i : Nat) : Nat :=
  packAlms (g.bits.map Prod.snd) (fun a => s.flag (.mask a) d i)

/-- `ID_SERIAL`: a fused value that is neither 0 nor all ones. -/
def idSerial : Nat := 1 + (Config.fusedWord 0 % 2 ^ 32 * 2 ^ 32 + Config.fusedWord 1 % 2 ^ 32) % (2 ^ 64 - 2)

/-- Word `k` (from address 0) of ID_SERIAL, ID_DKI and ID_HASH, and word `w` of SBG_PUB. -/
def fusedId (k : Nat) : Nat :=
  if k = 4 then idSerial % 2 ^ 32 else if k = 5 then idSerial / 2 ^ 32 else Config.fusedWord k % 2 ^ 32
def State.pubWord (s : State) (w : Nat) : Nat :=
  if s.flag (.sbg .keysReady) 0 0 && decide (w < 1090) then Config.fusedWord (32 + w) % 2 ^ 32 else 0

/-- `ID_STATUS`. -/
def State.idStatus (s : State) : Nat :=
  s.faultLow.toNat * 2 ^ 31 + s.alertLow.toNat * 2 ^ 30 + s.get (.inj .testEnable) 0 0 % 2 * 2 ^ 29 +
    ((List.range 8).map (fun d => if s.awake d then 2 ^ d else 0)).sum * 2 ^ 16 + s.get (.sys .diePresent) 0 0 % 256 * 256

/-- `CRY_STATUS`: containers with ENC_EN, and containers in NOKEY or CRYPTO_HOLD. -/
def State.cryStatus (s : State) (d : Nat) : Nat :=
  ((List.range 512).filter (fun i => s.encOn d i)).length * 2 ^ 16 +
    ((List.range 512).filter (fun i => decide (s.get (.cry .txState) d i = cryNokey) ||
      decide (s.get (.cry .txState) d i = cryHold) || decide (s.get (.cry .rxState) d i = cryNokey))).length

/-- A global block of the lead die or TEL (bit 9 of the package summaries), or a Lantern block (bit 10) (R440). -/
def Alm.pkgBit (a : Alm) : Nat := if a.inLantern then 10 else if a.onDie && decide (a.sumBit ≠ 0) then 0 else 9

/-- `ALM_PKG_SUM` or `ALM_PKG_FAULT`. -/
def State.pkgSum (s : State) (fault : Bool) : Nat :=
  let hit (b : Nat) : Bool := s.anyAlm (fun c d i => match c with
    | .sticky a => !fault && decide (a.pkgBit = b) && s.alerts a d i
    | .live a => fault && decide (a.pkgBit = b) && s.liveSeen a d i && s.drives a d i
    | _ => false)
  ((List.range 8).map (fun d => if s.dieSum d fault = 0 then 0 else 2 ^ d)).sum + (hit 9).toNat * 2 ^ 9 +
    (hit 10).toNat * 2 ^ 10

/-- MON_OVR words: live, sticky and mask bits of the 16 channels of a slot. -/
def State.monOvrWord (s : State) (d k : Nat) : Nat :=
  ((List.range 16).map (fun c =>
    let on := match k with
      | 0 => s.flag (.live .monOvr) d c
      | 1 => s.flag (.sticky .monOvr) d c
      | _ => s.flag (.mask .monOvr) d c
    if on then 2 ^ c else 0)).sum

-- Windows.

/-- The queue at a position of a container. -/
def State.posQueue (s : State) (d i pos : Nat) : Option Nat :=
  (s.queuesOf d).find? (fun q => s.qEn d q && decide (s.qCtn d q = i) && decide (s.qPos d q = pos))

/-- VALID and the queue of a position, 16 bits. -/
def State.posHalf (s : State) (d i pos : Nat) : Nat :=
  match s.posQueue d i pos with
  | some q => 0x8000 + q % 2048
  | none => 0

/-- Word `k` of entry `e` of a window as its table gives it, in force. -/
def State.winShown (s : State) (w : Win) (d e k : Nat) : Nat :=
  if w.liveWord = some k then packAlms w.alms (fun a => s.flag (.live a) d e)
  else if w.stickyWord = some k then packAlms w.alms (fun a => s.flag (.sticky a) d e)
  else if w.maskWord = some k then packAlms w.alms (fun a => s.flag (.mask a) d e)
  else
    match w, k with
    | .tdmCtn, 1 =>
      s.get (.tdm .diffUs) d e % 2 ^ 17 * 2 ^ 15 + s.get (.tdm .req) d e % 16 * 2 ^ 11 + s.get (.tdm .early) d e % 2 * 2 ^ 10 +
        s.get (.tdm .state) d e % 8 * 2 ^ 7 + s.get (.live .tdmDiffExcess) d e % 2 * 2 ^ 6 +
        s.get (.live .tdmApsFop) d e % 2 * 2 ^ 5 + s.get (.tdm .sel) d e % 2
    | .cryCtx, 1 =>
      (s.get (.cry .txKeySms) d e + 255) % 256 * (if s.flag (.cry .txKeySms) d e then 1 else 0) * 2 ^ 24 +
        s.get (.cry .rxEpoch) d e % 256 * 2 ^ 16 + s.get (.cry .txEpoch) d e % 256 * 2 ^ 8 +
        s.get (.cry .rxState) d e % 8 * 8 + s.get (.cry .txState) d e % 8
    | .cryCtx, 5 => min (2 ^ 32 - 1) (s.get (.cry .txFrames) d e)
    | .cryCtx, 6 => draftLat (s.ctnK (512 * d + e)) (s.safe d e) % 2 ^ 16
    | .cryCtx, 7 => s.get (.cry .highest) d (512 * s.deliveredPath d e + e) % 2 ^ 32
    | .qsQ, 5 => s.get (.qs .qXoff) d e % 2 * 2 ^ 31 + s.occ d e % 2 ^ 31
    | .qsQ, 6 => s.get (.qs .qDrain) d e % 2 * 2 ^ 31 + s.get (.qs .gapPend) d e % 2 ^ 16
    | .qsCtn, 1 => s.posHalf d e 0 * 2 ^ 16 + s.posHalf d e 1
    | .qsCtn, 2 => s.posHalf d e 2 * 2 ^ 16 + s.posHalf d e 3
    | .qsCtn, 3 => s.posHalf d e 4 * 2 ^ 16 + s.posHalf d e 5
    | .qsCtn, 4 => s.posHalf d e 6 * 2 ^ 16 + s.posHalf d e 7
    | .qsCtn, 5 => s.get (.qs .cDrain) d e % 2 * 2 ^ 31 + (s.ctnActive d e).toNat * 2 ^ 30
    | .qsCtn, 6 => s.get (.qs .vTime) d e / 2 ^ 16 % 2 ^ 32
    | .sbgPub, 0 => s.pubWord e
    | .timLink, 2 => s.rxLat e
    | .timLink, 3 => s.txLat e % 2 ^ 16 * 2 ^ 16 + s.get (.tim .rxQl) e 0 % 32 * 16 % 2 ^ 9
    | w, k => s.winWordAt w d e k

/-- A word of a window; beyond its range 0 (R474). -/
def State.winWord (s : State) (w : Win) (d e k : Nat) : Nat :=
  if w = .qsCls then (if k < 2 then s.winWordAt .qsCls d 0 k else 0)
  else if e < w.info.entries ∧ k < w.info.words then s.winShown w d e k else 0

/-- The place of an access port among the pointers of a window (R474). -/
def portCode : APort → Nat
  | .pcie => 0
  | .spi => 1
  | .mgmt => 2
  | .courier => 3
  | .exec => 4

/-- The ENTRY and WORD pointers of a port. -/
def State.winPtr (s : State) (w : Win) (d : Nat) (p : APort) : Nat × Nat :=
  (s.get (.sys .winEntry) d (8 * w.ctorIdx + portCode p), s.get (.sys .winWord) d (8 * w.ctorIdx + portCode p))
def State.setPtr (s : State) (w : Win) (d : Nat) (p : APort) (e k : Nat) : State :=
  (s.set (.sys .winEntry) d (8 * w.ctorIdx + portCode p) e).set (.sys .winWord) d (8 * w.ctorIdx + portCode p) k

/-- The pointer after a _DATA access: the next word, from the last word the next entry, never past the last word of the
last entry (R474); QS_CLS has one keyed entry. -/
def winNext (w : Win) (e k : Nat) : Nat × Nat :=
  if w = .qsCls then (e, if k < 1 then k + 1 else 0)
  else if w.info.entries ≤ e ∨ w.info.words ≤ k then (e, k)
  else if k + 1 < w.info.words then (e, k + 1)
  else if e + 1 < w.info.entries then (e + 1, 0)
  else (e, k)

/-- _ADDR as a port reads it. -/
def State.winAddrWord (s : State) (w : Win) (d : Nat) (p : APort) : Nat := (s.winPtr w d p).1 + (s.winPtr w d p).2 * 2 ^ 16

/-- _CTRL: BUSY; for QS_CLS OP and RESULT, its operations end at once. -/
def State.winCtrlWord (s : State) (w : Win) (d : Nat) : Nat :=
  if w = .qsCls then s.get (.qs .clsOp) d 0 % 4 * 4 + s.get (.qs .clsResult) d 0 % 8 * 16
  else (s.winBusy w d).toNat * 2

-- Places.

/-- The 64-bit value that a two-half register shows (R446). -/
def State.half64 (s : State) (p : Place) : Option Nat :=
  match p with
  | .half c d i _ => some (s.get c.cell d i % 2 ^ 64)
  | .fused 4 | .fused 5 => some idSerial
  | _ => none

/-- What a place reads as, to a port, without the snapshot of R446. -/
def State.placeWord (s : State) (port : APort) (p : Place) : Nat :=
  match p with
  | .reg r d i => s.regWord r d i
  | .half c d i hi => if hi then s.get c.cell d i / 2 ^ 32 % 2 ^ 32 else s.get c.cell d i % 2 ^ 32
  | .live g d i => s.almLive g d i
  | .sticky g d i => s.almSticky g d i
  | .mask g d i => s.almMask g d i
  | .winAddr w d => s.winAddrWord w d port
  | .winData w d => s.winWord w d (s.winPtr w d port).1 (s.winPtr w d port).2
  | .winCtrl w d => s.winCtrlWord w d
  | .monOvr d k => s.monOvrWord d k
  | .fused k => fusedId k
  | .idStatus => s.idStatus
  | .pub w => s.pubWord w
  | .cryStatus d => s.cryStatus d
  | .dieSum d fault => s.dieSum d fault
  | .pkgSum fault => s.pkgSum fault
  | .timeBase b k =>
    let i := 8 * b + portCode port
    let lat := s.flag (.sys .tbLatchValid) 0 i
    match k with
    | 0 => s.get (.tim .tbNs) 0 b
    | 1 => (if lat then s.get (.sys .tbLatchSec) 0 i else s.get (.tim .tbSec) 0 b) % 2 ^ 32
    | 2 => (if lat then s.get (.sys .tbLatchSec) 0 i else s.get (.tim .tbSec) 0 b) / 2 ^ 32 % 2 ^ 16
    | _ => if lat then s.get (.sys .tbLatchFrac) 0 i else s.get (.tim .tbFrac) 0 b
  | .testMirror _ => s.get (.inj .testEnable) 0 0
  | .mailbox _ | .goWord | .ringTail | .keyBearing | .nothing => 0

/-- What a word address reads as: 0 where the block is absent or does not answer (R2, R430). -/
def State.readAt (s : State) (port : APort) (x : Nat) : Nat :=
  if s.addrAnswers x then s.placeWord port (placeAt x) else 0

end Sys2Proof.Machine
end

