-- ==== Sys2Proof/Machine/Diagnostics.lean ====
section
/-!
DEFINITION. Alarms as they arise and reach the log, FAR_STATUS, level counters, telemetry rings, the CRC scan engine and
error injection (R437 to R463).
-/
namespace Sys2Proof.Machine

-- Alarms and the log (R437, R442, R443).

/-- The block at an address runs: its carrier is AWAKE, the Lantern or the lead die runs, its slot is populated. -/
def State.blockRuns (s : State) (x : Nat) : Bool :=
  !s.addrAbsent x && (match addrDie x with
    | some d => s.awake d
    | none => if 0x8000000 ≤ x ∧ x < 0x9000000 then s.lantern 0 else s.up 0)

/-- The alarm bit at a sticky register, a MON_OVR word or a window entry. -/
def almBitAt (addr entry b : Nat) : Option (Alm × Nat × Nat) :=
  match placeAt addr with
  | .sticky g d i => (g.bits.find? (fun x => decide (x.1 = b))).map (fun x => (x.2, d, i))
  | .monOvr d 1 => if b < 16 then some (.monOvr, d, b) else none
  | .winAddr w d => (w.alms.find? (fun a => decide (a.bitNo = b))).map (fun a => (a, d, entry))
  | _ => none

/-- ALARM_STICKY_SET (R437): an event occurs, or a condition begins to hold. -/
def execAlarmStickySet (addr entry bit : Nat) (s : State) : Result :=
  match almBitAt addr entry bit with
  | some (a, d, i) => finishIf (s.blockRuns addr && (!(a.inCtn || a.inCtx) || decide (i < 512))) s fun s =>
      if a.isEvent then s.event a d i else s.raise a d i
  | none => idle s

/-- The words of a log entry (R442). -/
def logWords (r : Report) (seq : Nat) : List Nat :=
  [r.loc, r.addr, r.kind * 2 ^ 30 + r.entry * 2 ^ 8 + r.bit, r.sec, r.ns, seq]

/-- An entry of the alarm log: the circle of 1,024, its counters, and the rings of KIND 1 (R442, R443, R449). -/
def State.logWrite (s : State) (r : Report) : State :=
  let n := s.get (.alm .nLogEntries) 0 0
  let e := s.get (.alm .logNext) 0 0
  let w := logWords r ((n + 1) % 2 ^ 32)
  let s1 := s.each (List.range 6) fun s k => s.setWin .almLog 0 e k (w.getD k 0)
  (((s1.set (.alm .logNext) 0 0 ((e + 1) % 1024)).inc (.alm .nLogEntries) 0 0).incIf (decide (1024 ≤ n))
    (.alm .nLogOverwrite) 0 0).telAll 1 1 w

/-- ALARM_REPORT_RX (R442, R443): the oldest report of die `d` reaches the lead die; without a route it is held. -/
def execAlarmReportRx (d : Nat) (s : State) : Result :=
  match takeFirst (fun r => decide (r.die = d)) s.reports with
  | some (r, rest) => finishIf (s.up 0 && (decide (d = 0) || (s.controlPort d 0).isSome)) s fun s =>
      State.logWrite { s with reports := rest } r
  | none => idle s

-- FAR_STATUS (R441).

/-- A FAULT_N driver is live on the carrier, in its die's blocks or in its slot's. -/
def State.carrierFault (s : State) (d : Nat) : Bool :=
  s.anyAlm (fun c d' i => match c with
    | .live a => decide (d' = d) && (a.onDie || a.onSlot) && s.liveSeen a d i && s.drives a d i
    | _ => false)

/-- FLAGS of the carrier. -/
def State.farFlags (s : State) (d : Nat) : Nat :=
  (s.carrierFault d).toNat + (decide (s.rxState d = rxLocked)).toNat * 2 + (decide (s.txState d = txMuted)).toNat * 4 +
    (s.flag (.sticky .injInjected) d 0).toNat * 8

/-- SEQ restarts at 1 with each span secret: `sms` is 1 + SMS_EPOCH. -/
def State.farSend (s : State) (d sms : Nat) : State :=
  let q := if s.get (.alm .farTxSms) d 0 = sms then s.get (.alm .farTxSeq) d 0 + 1 else 1
  ((s.set (.alm .farTxSms) d 0 sms).set (.alm .farTxSeq) d 0 (q % 2 ^ 32)).set (.alm .farTxFlags) d 0 (s.farFlags d)

/-- FAR_STATUS_TX (R441): a carrier in frame with a span secret. -/
def execFarStatusTx (d : Nat) (s : State) : Result :=
  match s.spanOn d with
  | some k => finishIf (s.kchUp d && s.flag (.sbg .spHas) 0 k) s fun s => s.farSend d (1 + s.spanSms k)
  | none => idle s

/-- A message is accepted: its TAG verifies, SENDER is the span partner, SEQ advances, TYPE is 1. -/
def State.farOk (s : State) (d : Nat) (m : FarMsg) : Bool :=
  match s.spanOn d with
  | some k => m.tagOk && s.flag (.sbg .spHas) 0 k && decide (m.type = 1) && decide (m.sender = s.spanPartner k) &&
      (if s.get (.alm .farRxSms) d 0 = 1 + s.spanSms k then decide (s.get (.alm .farRxSeq) d 0 < m.seq) else decide (0 < m.seq))
  | none => false

/-- An accepted message is shown. -/
def State.farShow (s : State) (d : Nat) (m : FarMsg) : State :=
  let sms := match s.spanOn d with
    | some k => 1 + s.spanSms k
    | none => 0
  (((((s.set (.alm .farRxSms) d 0 sms).set (.alm .farRxSeq) d 0 m.seq).set (.alm .farFresh) d 0 1).set (.alm .farCarrier) d 0
    (m.carrier % 8)).set (.alm .farFlags) d 0 (m.flags % 16)).set (.alm .farSender) d 0 (m.sender % 4096)

/-- FAR_STATUS_RX (R441). -/
def execFarStatusRx (d : Nat) (m : FarMsg) (s : State) : Result :=
  finishIf (s.kchUp d) s fun s => if s.farOk d m then s.farShow d m else s.inc (.alm .nMgmtDisc) d 0

/-- FAR_STATUS_STALE (R441): no message has been accepted for 1 s. -/
def execFarStatusStale (d : Nat) (s : State) : Result := finishIf (s.awake d) s fun s => s.set (.alm .farFresh) d 0 0

-- Level counters (R447).

/-- The bit that level counter `k` of die `d` watches is 1. -/
def State.levelHigh (s : State) (d k : Nat) : Bool :=
  match placeAt (s.winWordAt .pcLvl d k 0) with
  | .live g e i => decide (addrDie (s.winWordAt .pcLvl d k 0) = some d) && bit (s.almLive g e i) (bits (s.winWordAt .pcLvl d k 1) 0 5)
  | _ => false

/-- LEVEL_COUNTER_TICK (R447). -/
def execLevelCounterTick (d k : Nat) (s : State) : Result :=
  finishIf (s.awake d && bit (s.winWordAt .pcLvl d k 1) 31 && s.levelHigh d k) s fun s => s.inc (.pc .nLvl) d k

-- Telemetry rings (R449 to R453).

/-- Drop the first `n` entries of ring `t`. -/
def dropRing (t : Nat) : Nat → List TelEntry → List TelEntry
  | _, [] => []
  | 0, l => l
  | n + 1, e :: l => if e.ring = t then dropRing t n l else e :: dropRing t (n + 1) l

/-- The host may use the doorbells: the link is trained, carrier die 0 answers. -/
def State.hostBus (s : State) : Bool := s.flag (.sys .pcieUp) 0 0 && s.released 0

/-- A doorbell write (R451): taken if it lies between the last value accepted and the entries written. -/
def State.telDoorbell (s : State) (t value : Nat) : State :=
  let db := s.get (.tel .db) 0 t
  let step := (value + 2 ^ 32 - db) % 2 ^ 32
  if step ≤ s.telOpen t then { s.set (.tel .db) 0 t (value % 2 ^ 32) with telOut := dropRing t step s.telOut }
  else s.inc (.tel .nDbBad) 0 t

/-- TEL_DOORBELL_WRITE (R451). -/
def execTelDoorbellWrite (t value : Nat) (s : State) : Result :=
  finishIf (s.hostBus && decide (t < 7)) s fun s => s.telDoorbell t value

/-- Cut a list of (place, words) into entries of at most `n` items: list index and first item in the first word. -/
def telCut (type idx n : Nat) (items : List (List Nat)) : List (Nat × List Nat) :=
  (List.range ((items.length + n - 1) / n)).map (fun k =>
    (type, (idx + k * n * 2 ^ 16) :: ((items.drop (k * n)).take n).flatten))

/-- The entries of one range of TEL_LIST: up to 6 counters, or up to 12 words, an entry (R450, R452). -/
def State.telRange (s : State) (idx : Nat) : List (Nat × List Nat) :=
  let a := s.winWordAt .telList 0 idx 0
  let w := s.winWordAt .telList 0 idx 1
  let n := bits w 0 8 + 1
  if a = 0 then []
  else if bit w 31 then
    match placeAt a with
    | .winAddr win d =>
      telCut 4 idx 12 ((List.range n).map (fun k =>
        let x := bits w 8 16 + k
        [if s.addrAnswers a then s.winWord win d (x / win.info.words) (x % win.info.words) else 0]))
    | _ => []
  else telCut 3 idx 6 ((List.range n).map (fun k => [s.readAt .courier (a + 8 * k), s.readAt .courier (a + 8 * k + 4)]))

/-- A snapshot: its start entry, then every range in list order. -/
def State.telSnapshot (s : State) (t : Nat) : State :=
  let n := (s.get (.tel .snapNo) 0 t + 1) % 2 ^ 32
  let l := (2, [n, s.stampSec, s.stampNs]) :: (List.range 64).flatMap s.telRange
  (s.set (.tel .snapNo) 0 t n).telBatch t (l.length + 1) l

/-- TEL_SNAPSHOT_TIMER (R452); `busy`: the last snapshot is still being delivered. -/
def execTelSnapshotTimer (t : Nat) (busy : Bool) (s : State) : Result :=
  finishIf (s.inRun && s.up 0 && decide (s.telKind t = 2)) s fun s =>
    if busy then s.inc (.tel .nSkip) 0 t else s.telSnapshot t

-- The CRC scan engine (R457 to R459).

/-- The parameters of R457. -/
structure CrcPoly where
  width : Nat
  poly : Nat
  init : Nat
  refin : Bool
  refout : Bool
  xorout : Nat
  deriving DecidableEq, Repr

/-- One bit, most significant first. -/
def crcBit (p : CrcPoly) (c b : Nat) : Nat :=
  let c1 := 2 * c % 2 ^ p.width
  if (c / 2 ^ (p.width - 1) + b) % 2 = 1 then c1 ^^^ (p.poly % 2 ^ p.width) else c1

/-- `n` bits in the opposite order. -/
def reflect (n x : Nat) : Nat := (List.range n).foldl (fun v i => 2 * v + x / 2 ^ i % 2) 0

/-- One byte. -/
def crcByte (p : CrcPoly) (c b : Nat) : Nat :=
  let x := if p.refin then reflect 8 b else b
  [7, 6, 5, 4, 3, 2, 1, 0].foldl (fun c i => crcBit p c (x / 2 ^ i % 2)) c

/-- The register after `n` bytes of a source that counts on from `i`. -/
def crcRun (p : CrcPoly) (src : Nat → Nat) : Nat → Nat → Nat → Nat
  | 0, _, c => c
  | n + 1, i, c => crcRun p src n (i + 1) (crcByte p c (src i % 256))

/-- The result: REFOUT and XOROUT (R457). -/
def crcOut (p : CrcPoly) (c : Nat) : Nat :=
  ((if p.refout then reflect p.width c else c) ^^^ p.xorout) % 2 ^ p.width

/-- The CRC of a list of bytes. -/
def crcOf (p : CrcPoly) (l : List Nat) : Nat := crcOut p (l.foldl (crcByte p) (p.init % 2 ^ p.width))

/-- Result slot states (R459). -/
def crcQueued : Nat := 6
def crcRunning : Nat := 7

/-- STATUS of a result slot. -/
def State.crcStatus (s : State) (k : Nat) : Nat := s.get (.crc .resStatus) 0 k

/-- A slot may be given to a new job: it is free, or its job has ended and its STATUS has been read since. -/
def State.crcReusable (s : State) (k : Nat) : Bool :=
  decide (s.crcStatus k = 0) || (decide (s.crcStatus k < 6) && s.flag (.crc .slotRead) 0 k)

/-- The jobs in the queue, the running one among them. -/
def State.crcJobs (s : State) : List Nat := (List.range 8).filter (fun k => decide (6 ≤ s.crcStatus k))

/-- The slot for the next job. -/
def State.crcSlot (s : State) : Option Nat := (List.range 8).find? s.crcReusable

/-- The queued job that was submitted first starts when no job runs. -/
def State.crcNext (s : State) : State :=
  let q := (List.range 8).filter (fun k => decide (s.crcStatus k = crcQueued))
  if (List.range 8).any (fun k => decide (s.crcStatus k = crcRunning)) then s
  else
    match q.find? (fun k => q.all (fun j => decide (s.get (.crc .jobOrder) 0 k ≤ s.get (.crc .jobOrder) 0 j))) with
    | some k => s.set (.crc .resStatus) 0 k crcRunning
    | none => s

/-- jobs queued, as `CRC_SUBMIT` shows. -/
def State.crcShow (s : State) : State := s.set (.crc .jobsQueued) 0 0 s.crcJobs.length

/-- SUBMIT (R458): the staging registers are taken and a result slot is given, or the submit is refused. -/
def State.crcSubmit (s : State) : State :=
  match s.crcSlot with
  | none => s.inc (.crc .nReject) 0 0
  | some k =>
    let cfg := s.get (.crc .widthM1) 0 0 + s.get (.crc .refin) 0 0 * 2 ^ 8 + s.get (.crc .refout) 0 0 * 2 ^ 9 +
      s.get (.crc .space) 0 0 * 2 ^ 12 + s.get (.crc .crcDie) 0 0 * 2 ^ 16
    let s1 := (((((s.set (.crc .jobPoly) 0 k (s.get (.crc .poly) 0 0)).set (.crc .jobInit) 0 k (s.get (.crc .init) 0 0)).set
      (.crc .jobXor) 0 k (s.get (.crc .xorout) 0 0)).set (.crc .jobCfg) 0 k cfg).set (.crc .jobAddr) 0 k
      (s.get (.crc .addr) 0 0)).set (.crc .jobLen) 0 k (s.get (.crc .len) 0 0)
    let s2 := (((s1.set (.crc .jobOrder) 0 k (s.get (.crc .submits) 0 0)).inc (.crc .submits) 0 0).set (.crc .slotRead) 0 k
      0).set (.crc .resStatus) 0 k crcQueued
    let s3 := (((s2.set (.crc .resResult) 0 k 0).set (.crc .resBytes) 0 k 0).set (.crc .resFaultAddr) 0 k 0).set
      (.crc .resSlot) 0 0 k
    s3.crcNext.crcShow

/-- CRC_SUBMIT (R458). -/
def execCrcSubmit (s : State) : Result := finishIf (s.up 0) s fun s => s.crcSubmit

/-- The parameters, die, space, address and length of a job. -/
def State.jobPoly (s : State) (k : Nat) : CrcPoly :=
  let c := s.get (.crc .jobCfg) 0 k
  { width := bits c 0 6 + 1
    poly := s.get (.crc .jobPoly) 0 k
    init := s.get (.crc .jobInit) 0 k
    refin := bit c 8
    refout := bit c 9
    xorout := s.get (.crc .jobXor) 0 k }
def State.jobDie (s : State) (k : Nat) : Nat := bits (s.get (.crc .jobCfg) 0 k) 16 3
def State.jobSpace (s : State) (k : Nat) : Nat := bits (s.get (.crc .jobCfg) 0 k) 12 1

/-- The register after the first `n` bytes of a job. -/
def State.jobCrc (s : State) (k n : Nat) : Nat :=
  let p := s.jobPoly k
  crcRun p (Config.memByte (s.get (.crc .jobOrder) 0 k) (s.jobSpace k) (s.jobDie k)) n (s.get (.crc .jobAddr) 0 k)
    (p.init % 2 ^ p.width)

/-- RANGE (R459): the die is absent or the address lies beyond the 32 MiB of SRAM. -/
def State.jobRange (s : State) (k : Nat) : Bool :=
  !s.present (s.jobDie k) || (decide (s.jobSpace k = 0) &&
    decide (0x2000000 < s.get (.crc .jobAddr) 0 k + s.get (.crc .jobLen) 0 k))

/-- The job of slot `k` ends. -/
def State.jobEnd (s : State) (k status result bytes fault : Nat) : State :=
  ((((((s.set (.crc .resStatus) 0 k status).set (.crc .resResult) 0 k result).set (.crc .resBytes) 0 k bytes).set
    (.crc .resFaultAddr) 0 k fault).inc (.crc .nJobs) 0 0).crcNext).crcShow

/-- CRC_JOB_END (R459): `how` is 0 for every byte read, or the STATUS code 3, 4 or 5 of a failure after `bytes` bytes in
whole granules; `g` is the physical granule of an UNCORR.  A job out of range ends so whatever else; a job of a die that is
not AWAKE is aborted. -/
def execCrcJobEnd (how bytes g : Nat) (s : State) : Result :=
  match s.crcJobs.find? (fun k => decide (s.crcStatus k = crcRunning)) with
  | none => idle s
  | some k =>
    let len := s.get (.crc .jobLen) 0 k
    let d := s.jobDie k
    let part := decide (bytes % 64 = 0) && decide (bytes < len)
    if s.jobRange k then finishIf (s.up 0) s fun s => s.jobEnd k 2 0 0 0
    else if how = 0 then
      finishIf (s.up 0 && s.awake d) s fun s => s.jobEnd k 1 (crcOut (s.jobPoly k) (s.jobCrc k len)) len 0
    else if how = 3 then
      finishIf (s.up 0 && part && decide (s.jobSpace k = 1) && s.awake d) s fun s => s.jobEnd k 3 (s.jobCrc k bytes) bytes 0
    else if how = 4 then
      finishIf (s.up 0 && part && decide (s.jobSpace k = 1) && s.awake d) s fun s =>
        (s.jobEnd k 4 (s.jobCrc k bytes) bytes ((s.get (.crc .jobAddr) 0 k + bytes) / 64 * 64)).faultPage d g 2
    else
      finishIf (s.up 0 && part && decide (how = 5) && !s.awake d) s fun s => s.jobEnd k 5 (s.jobCrc k bytes) bytes 0

-- Error injection (R460 to R463).

/-- The fields of a unit. -/
def State.injType (s : State) (d u : Nat) : Nat := s.get (.inj .uType) d u
def State.injTarget (s : State) (d u : Nat) : Nat := s.get (.inj .uTarget) d u
def State.injParam (s : State) (d u : Nat) : Nat := s.get (.inj .uParam) d u
def State.injCont (s : State) (d u : Nat) : Bool := s.flag (.inj .uMode) d u

/-- The unit's TYPE, MODE, PATH and PARAM are ones that R461 gives. -/
def State.injOk (s : State) (d u : Nat) : Bool :=
  let t := s.injType d u
  let p := s.injParam d u
  decide (1 ≤ t) && decide (t ≤ 10) &&
    (if t = 10 then s.injCont d u && decide (1 ≤ p) && decide (p ≤ 2000)
     else if s.injCont d u then decide (t ≤ 3) && decide (1 ≤ bits p 8 4) && decide (bits p 8 4 ≤ 9) && decide (2 ≤ bits p 0 5) &&
       decide (bits p 0 5 ≤ 12)
     else decide (bits p 0 16 ≠ 0)) &&
    (!s.flag (.inj .uPath) d u || ((decide (t = 5) || decide (t = 6)) && s.tandemEn d (s.injTarget d u)))

/-- The target is in the state that its TYPE requires. -/
def State.injReady (s : State) (d u : Nat) : Bool :=
  let x := s.injTarget d u
  match s.injType d u with
  | 1 => decide (x < 16) && s.flag (.hl .prbsGen) d x
  | 2 => decide (s.txState d = txActive)
  | 3 | 4 => decide (s.get (.fec .lockState) d 0 = 2)
  | 5 => decide (x < 512) && decide (s.ctnMode d x ≠ 0)
  | 6 => decide (x < 512) && s.encOn d x
  | 7 | 8 | 9 => decide (x < 2) && s.linkUp d x
  | _ => s.flag (.ct .bondEn) d 0

/-- FIRE of a unit that is not ACTIVE (R461). -/
def State.injFire (s : State) (d u : Nat) : State :=
  if s.injReady d u then
    ((s.set (.inj .uActive) d u 1).set (.inj .uResult) d u 0).set (.inj .left) d u
      (if s.injCont d u then 0 else bits (s.injParam d u) 0 16)
  else (s.set (.inj .uActive) d u 0).set (.inj .uResult) d u 2

/-- FIRE may be accepted; a FIRE while ACTIVE is RETRY. -/
def State.injMayFire (s : State) (d u : Nat) : Bool :=
  s.flag (.inj .testEnable) 0 0 && !s.flag (.inj .uActive) d u && s.injOk d u

/-- INJ_FIRE (R461). -/
def execInjFire (d u : Nat) (s : State) : Result := finishIf (s.awake d && s.injMayFire d u) s fun s => s.injFire d u

/-- STOP ends a unit in continuous mode. -/
def State.injStop (s : State) (d u : Nat) : State :=
  if s.flag (.inj .uActive) d u && s.injCont d u then (s.set (.inj .uActive) d u 0).set (.inj .uResult) d u 3 else s

/-- INJ_STOP (R461). -/
def execInjStop (d u : Nat) (s : State) : Result :=
  finishIf (s.awake d && s.flag (.inj .testEnable) 0 0) s fun s => s.injStop d u

/-- INJ_APPLY (R462, R463): one injection is made; in count mode the last one ends the unit. -/
def execInjApply (d u : Nat) (s : State) : Result :=
  finishIf (s.awake d && s.flag (.inj .uActive) d u) s fun s =>
    let s1 := (s.inc (.inj .nInj) d u).event .injInjected d 0
    if s.injCont d u then s1
    else
      let n := s.get (.inj .left) d u - 1
      let s2 := s1.set (.inj .left) d u n
      if n = 0 then (s2.set (.inj .uActive) d u 0).set (.inj .uResult) d u 1 else s2

end Sys2Proof.Machine
end

