-- ==== Sys2Proof/Machine/Reads.lean ====
section
/-!
DEFINITION. Reads: what a read of a word returns and leaves behind (snapshots, latches, pointers), which reads the host and
the SPI target are granted, and what a host write may reach (R5, R57, R70, R71, R384, R409, R446, R458, R467 to R469, R474).
-/
namespace Sys2Proof.Machine

/-- The address of the low half of the two-half register in which an address lies. -/
def lowAddr (x : Nat) : Nat :=
  match placeAt x with
  | .half _ _ _ true | .fused 5 => x - 4
  | _ => x

/-- A read of a high half: the port's snapshot if it is of that register and not consumed, or the live value (R446). -/
def State.highRead (s : State) (port : APort) (x v : Nat) : Nat × State :=
  let k := portCode port
  if s.flag (.sys .snapValid) 0 k && decide (s.get (.sys .snapAddr) 0 k = lowAddr x) then
    (s.get (.sys .snapHi) 0 k, s.set (.sys .snapValid) 0 k 0)
  else (v / 2 ^ 32, s)

/-- A read of a low half: its value; the high half is latched in the port's snapshot. -/
def State.lowRead (s : State) (port : APort) (x v : Nat) : Nat × State :=
  let k := portCode port
  (v % 2 ^ 32, ((s.set (.sys .snapValid) 0 k 1).set (.sys .snapAddr) 0 k x).set (.sys .snapHi) 0 k (v / 2 ^ 32))

/-- A read of TIM_TB_NS latches the seconds and the fraction of its time base for the port (R384). -/
def State.tbLatch (s : State) (port : APort) (b : Nat) : State :=
  let i := 8 * b + portCode port
  ((s.set (.sys .tbLatchValid) 0 i 1).set (.sys .tbLatchSec) 0 i (s.get (.tim .tbSec) 0 b)).set (.sys .tbLatchFrac) 0 i
    (s.get (.tim .tbFrac) 0 b)

/-- What reading a register's fields leaves behind: a read of MON_FILT_STAT latches MON_FILT_OUT (R409), a read of the
status of an ended CRC job frees its slot (R458), and a use of a free value is counted. -/
def State.fldSeen (s : State) (c : Cell) (d i : Nat) : State :=
  match c with
  | .mon .fValid => s.set (.mon .fOutLatched) d i (s.get (.mon .fOut) d i)
  | .crc .resStatus =>
    if 1 ≤ s.crcStatus i ∧ s.crcStatus i < 6 then s.set (.crc .slotRead) 0 i 1 else s
  | .pan .lapPct | .bias .rbMv => s.used
  | _ => s

/-- A read of the counter of rejected writes releases the latched address (R5). -/
def State.ctrSeen (s : State) (c : Cell) : State :=
  match c with
  | .tkt .nHostWrRej => s.set (.tkt .rejHeld) 0 0 0
  | _ => s

/-- A read of a place that answers: the word and the state after it. -/
def State.readPlace (s : State) (port : APort) (x : Nat) (p : Place) : Nat × State :=
  match p with
  | .half c d i hi =>
    let v := s.get c.cell d i % 2 ^ 64
    let r := if hi then s.highRead port x v else s.lowRead port x v
    (r.1, r.2.ctrSeen c.cell)
  | .fused 4 => s.lowRead port x idSerial
  | .fused 5 => s.highRead port x idSerial
  | .timeBase b 0 => (s.get (.tim .tbNs) 0 b, s.tbLatch port b)
  | .reg r d i => (s.regWord r d i, s.each r.flds fun s f => s.fldSeen f.cell (d + f.dAdd) (i + f.iAdd))
  | .winData w d =>
    let q := s.winPtr w d port
    let n := winNext w q.1 q.2
    (s.winWord w d q.1 q.2, s.setPtr w d port n.1 n.2)
  | p => (s.placeWord port p, s)

/-- A read of an aligned word by a port (R467): 0 where nothing answers (R2, R430). -/
def State.read (s : State) (port : APort) (x : Nat) : Nat × State :=
  if s.addrAnswers x then s.readPlace port x (placeAt x) else (0, s)

/-- The fixed boot set (R469). -/
def bootSet (x : Nat) : Bool :=
  decide (x < 0x100) || (decide (0x1000 ≤ x) && decide (x < 0x3000)) || (decide (0xC000 ≤ x) && decide (x < 0xD108))

/-- The ticket mailbox, GO word and ring tail (R469): they read 0 and are not counted. -/
def mboxRange (x : Nat) : Bool := decide (0x10000 ≤ x) && decide (x < 0x20008)

/-- The host may read a word: the fixed boot set, and from RUN on what the policy grants (R57, R70, R448). -/
def State.hostMayRead (s : State) (x : Nat) : Bool :=
  bootSet x || (s.inRun && s.flag (.boot .policyIn) 0 0 && grantsRead s.policy x)

/-- A denied read of a host reader returns 0 and is counted (R57, R70, R71). -/
def State.denied (s : State) : State := s.inc (.tkt .nHostRdDeny) 0 0

/-- A read by a host reader. -/
def State.guarded (s : State) (port : APort) (ok : Bool) (x : Nat) : Nat × State :=
  if mboxRange x then (0, s) else if ok then s.read port x else (0, s.denied)

/-- Consecutive words from `x`, each under the rules of its own address (R467). -/
def State.readRun (s : State) (f : State → Nat → Nat × State) : Nat → Nat → List Nat × State
  | 0, _ => ([], s)
  | n + 1, x =>
    let r := f s x
    let t := State.readRun r.2 f n (x + 4)
    (r.1 :: t.1, t.2)

/-- A read by any port, under the rules of the port. -/
def State.portRead (s : State) (port : APort) (x : Nat) : Nat × State :=
  match port with
  | .pcie => s.guarded .pcie (s.hostMayRead x) x
  | .spi => s.guarded .spi (bootSet x) x
  | p => s.read p x

/-- The words of a read go to the reader. -/
def State.answer (r : List Nat × State) : State := { r.2 with readData := r.1 }

/-- A port can read: the host needs its link, the SPI target the lead die, the others carrier die 0 with its cores. -/
def State.portOn (s : State) (port : APort) : Bool :=
  match port with
  | .pcie => s.hostBus
  | _ => s.released 0

/-- HOST_READ (R57, R70, R468): up to 32 words; a longer request is an Unsupported Request and counted. -/
def execHostRead (addr words : Nat) (s : State) : Result :=
  finishIf s.hostBus s fun s =>
    if 32 < words then { s.denied with readData := [] }
    else State.answer (s.readRun (fun s x => s.portRead .pcie x) words addr)

/-- SPI_READ_COMMAND (R71): words of the fixed boot set from a word address on. -/
def execSpiReadCommand (wordAddr count : Nat) (s : State) : Result :=
  finishIf (s.released 0) s fun s => State.answer (s.readRun (fun s x => s.portRead .spi x) count (4 * wordAddr))

/-- SPI_OTHER_COMMAND (R71): bytes of 0xFF. -/
def execSpiOtherCommand (code count : Nat) (s : State) : Result :=
  finishIf (s.released 0 && decide (code ≠ 3)) s fun s => { s with readData := List.replicate count 0xFF }

/-- A single read through a port. -/
def State.readOne (s : State) (port : APort) (x : Nat) : State :=
  let r := s.portRead port x
  { r.2 with readData := [r.1] }

/-- The address is the low half, or the high half, of a two-half register. -/
def isHalf (x : Nat) (hi : Bool) : Bool :=
  match placeAt x with
  | .half _ _ _ h => h = hi
  | .fused 4 => !hi
  | .fused 5 => hi
  | _ => false

/-- COUNTER_LOW_READ and COUNTER_HIGH_READ (R446). -/
def execCounterLowRead (port : APort) (addr : Nat) (s : State) : Result :=
  finishIf (s.portOn port && isHalf addr false) s fun s => s.readOne port addr
def execCounterHighRead (port : APort) (addr : Nat) (s : State) : Result :=
  finishIf (s.portOn port && isHalf addr true) s fun s => s.readOne port addr

/-- TIM_TB_NS_READ (R384). -/
def execTimTbNsRead (port : APort) (tb : Nat) (s : State) : Result :=
  finishIf (s.portOn port) s fun s => s.readOne port (0x8000 + 0x100 * tb)

/-- MON_FILT_STAT_READ (R409). -/
def execMonFiltStatRead (port : APort) (d f : Nat) (s : State) : Result :=
  finishIf (s.portOn port) s fun s => s.readOne port (0x8200410 + 0x1000 * d + 0x40 * f)

/-- CRC_RESULT_STATUS_READ (R458). -/
def execCrcResultStatusRead (port : APort) (slot : Nat) (s : State) : Result :=
  finishIf (s.portOn port) s fun s => s.readOne port (0xB100 + 0x20 * slot)

/-- A host write that has no effect: counted, its address latched while none is held (R5). -/
def State.rejectWrite (s : State) (x : Nat) : State :=
  let s1 := s.inc (.tkt .nHostWrRej) 0 0
  if s.flag (.tkt .rejHeld) 0 0 then s1 else (s1.set (.tkt .rejHeld) 0 0 1).set (.tkt .hostWrRejAddr) 0 0 x

/-- PARTIAL_WORD_ACCESS (R467): a read returns 0 and latches nothing, a write has no effect; from the host it counts. -/
def execPartialWordAccess (port : APort) (addr : Nat) (write : Bool) (s : State) : Result :=
  finishIf (s.portOn port) s fun s =>
    if !write then { s with readData := [0] } else s.when (decide (port = .pcie)) fun s => s.rejectWrite addr

end Sys2Proof.Machine
end

