-- ==== Sys2Proof/Machine/Converter.lean ====
section
/-!
DEFINITION. Converter calibration: slices, temperature sets, acceptance, spares (R419 to R422).
-/
namespace Sys2Proof.Machine

/-- The place of a coefficient: converter `v`, slice `sl` (128: the spare), kind (0 offset, 1 gain, 2 skew), set `n`. -/
def coefIdx (v sl kind n : Nat) : Nat := ((v * 129 + sl) * 3 + kind) * 6 + n

/-- Coefficients are held in units of 2^-20 (the spec gives no resolution: DESIGN CHOICE, log 36). -/
def coefOne : Int := 1048576

/-- The nominal temperature of a set in 0.5 °C: −5, 15, 35, 55, 75, 95 °C (R420). -/
def setTemp (n : Nat) : Int := 40 * n - 10

/-- The lower set of the two that bracket a temperature and the distance above it in 0.5 °C, clamped to the end sets. -/
def bracket (t : Int) : Nat × Nat :=
  let u : Int := max 0 (min 200 (t + 10))
  if u = 200 then (5, 0) else ((u / 40).toNat, (u % 40).toNat)

/-- The coefficient in force at the die's temperature: the linear interpolation of R420. -/
def State.coefAt (s : State) (d v sl kind : Nat) : Int :=
  let b := bracket (s.getI (.cal .temp) d 0)
  let c (n : Nat) : Int := s.getI (.cal .coef) d (coefIdx v sl kind n)
  if b.2 = 0 then c b.1 else (c b.1 * (40 - b.2) + c (b.1 + 1) * b.2) / 40

/-- The nearest set and its interpolation weight in 1/40. -/
def nearSet (t : Int) : Nat × Nat :=
  let b := bracket t
  if b.2 ≤ 20 then (b.1, 40 - b.2) else (b.1 + 1, b.2)

/-- An accepted measurement adjusts the nearest set only (R420). -/
def State.coefTake (s : State) (d v sl kind : Nat) (m : Int) : State :=
  let n := nearSet (s.getI (.cal .temp) d 0)
  let i := coefIdx v sl kind n.1
  s.setI (.cal .coef) d i (s.getI (.cal .coef) d i + (m * coefOne - s.coefAt d v sl kind) * 40 / n.2)

/-- Bit j of SET_MEASURED for every set within 10 °C. -/
def State.setsMeasured (s : State) (d : Nat) : State :=
  let t := s.getI (.cal .temp) d 0
  (s.each ((List.range 6).filter (fun n => decide ((t - setTemp n).natAbs ≤ 20))) fun s n =>
    s.set (.cal .setMeasured) d 0 (putBit (s.get (.cal .setMeasured) d 0) n true))

/-- What an accepted measurement leaves besides the coefficients (R421, R422). -/
def State.convAccept (s : State) (d v sl n : Nat) : State :=
  let s1 := (((s.set (.cal .rejRun) d (v * 129 + sl) 0).add (.cal .nConvCount) d 0 n).set (.cal .convTimeS) d 0
    (s.get (.tim .tbSec) 0 0 % 2 ^ 32)).set (.cal .convTimeNs) d 0 (s.get (.tim .tbNs) 0 0)
  let s2 := (s1.setsMeasured d).set (.cal .stale) d 0 0
  if (List.range 8).any (fun e => s2.flag (.cal .stale) e 0) then s2 else s2.lowerAt .calConvStale 0 0 (locCarrier d)

/-- A slice must be replaced: by the spare for good, or its converter is FAILED (R421). -/
def State.convReplace (s : State) (d v sl : Nat) : State :=
  if bit (s.get (.cal .sparePerm) d 0) v then
    ((s.set (.cal .convFailed) d 0 (putBit (s.get (.cal .convFailed) d 0) v true)).set (.cal .convValid) d 0 0).raiseAt
      .calConvFail 0 0 (locCarrier d)
  else
    ((s.set (.cal .sparePerm) d 0 (putBit (s.get (.cal .sparePerm) d 0) v true)).set (.cal .spareFor) d v (sl + 1)).raiseAt
      .calConvNoSpare 0 0 (locCarrier d)

/-- A rejected measurement (R421). -/
def State.convReject (s : State) (d v sl : Nat) : State :=
  let n := s.get (.cal .rejRun) d (v * 129 + sl) + 1
  let s1 := (s.inc (.cal .nConvReject) d 0).eventAt .calConvReject 0 0 (locCarrier d)
  if n = 3 then (s1.set (.cal .rejRun) d (v * 129 + sl) 0).convReplace d v sl else s1.set (.cal .rejRun) d (v * 129 + sl) n

/-- The two readings agree (R421). -/
def State.readsAgree (s : State) (d : Nat) (a b : SliceRead) : Bool :=
  decide ((a.gain - b.gain).natAbs ≤ s.get (.cal .tolGain) d 0) && decide ((a.offset - b.offset).natAbs ≤ s.get (.cal .tolOfs) d 0) &&
    decide ((a.skew - b.skew).natAbs ≤ s.get (.cal .tolSkew) d 0)

/-- CONV_SLICE_MEASURE (R419, R421): the background measurement of the next slice of converter `v`; `m` is what its two
readings give. -/
def execConvSliceMeasure (d v : Nat) (a b m : SliceRead) (s : State) : Result :=
  finishIf (s.lantern d && s.up d && s.flag (.cal .bgRun) d 0 && bit (s.get (.cal .bgEn) d 0) v &&
      !bit (s.get (.cal .sparePerm) d 0) v) s fun s =>
    let sl := s.get (.cal .convPos) d v
    let s1 := (s.set (.cal .convPos) d v ((sl + 1) % 128)).set (.cal .roundPct) d 0 ((sl + 1) % 128 * 100 / 128)
    if s.readsAgree d a b then
      (((s1.coefTake d v sl 0 m.offset).coefTake d v sl 1 m.gain).coefTake d v sl 2 m.skew).convAccept d v sl 1
    else s1.convReject d v sl

/-- CONV_TEMP_UPDATE (R420): the die temperature has moved by 0.5 °C or more. -/
def execConvTempUpdate (d : Nat) (t : Int) (s : State) : Result :=
  finishIf (s.lantern d && s.up d && decide (t ≠ s.getI (.cal .temp) d 0)) s fun s => s.setI (.cal .temp) d 0 t

/-- One slice of the foreground calibration: into all six sets, or rejected (R422). -/
def State.convFore (s : State) (d : Nat) (c : SliceCal) : State :=
  let s1 := s.each (List.range (min 2 c.rejects)) fun s _ => s.convReject d c.conv c.slice
  if 2 ≤ c.rejects then s1
  else
    (s1.each (List.range 6) fun s n =>
      ((s.setI (.cal .coef) d (coefIdx c.conv c.slice 0 n) (c.m.offset * coefOne)).setI (.cal .coef) d
        (coefIdx c.conv c.slice 1 n) (c.m.gain * coefOne)).setI (.cal .coef) d (coefIdx c.conv c.slice 2 n)
        (c.m.skew * coefOne)).convAccept d c.conv c.slice 1

/-- CAL_CONVERTERS runs for this carrier. -/
def State.convCalled (s : State) (d : Nat) : Bool := s.called 5 && decide (s.procArg 5 0 % 8 = d)

/-- CAL_CONVERTERS ends. -/
def State.convEnd (s : State) (code : Nat) : State := s.procEnd 5 (decide (code = 0) || bit (s.procArg 5 1) 0) code

/-- The background rounds begin at slice 0 (R422). -/
def State.convRounds (s : State) (d : Nat) : State :=
  ((s.each (List.range 8) fun s v => s.set (.cal .convPos) d v 0).set (.cal .bgRun) d 0 1).set (.cal .roundPct) d 0 0

/-- CONV_FAIL follows the FAILED converters of every carrier. -/
def State.convFailFollow (s : State) (d : Nat) : State :=
  if (List.range 8).any (fun e => decide (s.get (.cal .convFailed) e 0 ≠ 0)) then s
  else s.lowerAt .calConvFail 0 0 (locCarrier d)

/-- The foreground calibration: every slice and spare of all eight converters (R422).  A new start-up begins with no
converter FAILED (R421). -/
def State.convForeground (s : State) (d : Nat) (meas : List SliceCal) : State :=
  let s0 := if s.inRun then s else (s.set (.cal .convFailed) d 0 0).convFailFollow d
  let s1 := s0.each (meas.filter (fun c => decide (c.conv < 8) && decide (c.slice ≤ 128))) fun s c => s.convFore d c
  let bad := decide (s1.get (.cal .convFailed) d 0 ≠ 0)
  ((s1.setB (.cal .convValid) d 0 (!bad)).convRounds d).convEnd (if bad then 3 else 0)

/-- CAL_CONVERTERS (R422): `waited`: a system calibration of the slot has been running for longer than 20 ms; `meas`:
the slices and spares measured. -/
def execCalConverters (d : Nat) (waited : Bool) (meas : List SliceCal) (s : State) : Result :=
  finishIf (s.lantern d && s.convCalled d) s fun s =>
    let active := s.flag (.lt .txEn) d 0 || s.flag (.lr .rxEn) d 0
    let busy := s.flag (.cal .sysBusy) 0 0 && bit (s.get (.cal .sysMask) 0 0) d
    if s.inRun && active then (s.convRounds d).convEnd 0
    else if busy then if waited then s.convEnd 4 else s
    else if !s.flag (.cal .sysValid) d 0 then s.convEnd 1
    else if active then s.convEnd 2
    else s.convForeground d meas

end Sys2Proof.Machine
end

