-- ==== Sys2Proof/Machine/Rules.lean ====
section
/-!
DEFINITION. The rules that a configuration must keep (R18, R25 to R29, R75, R144, R153, R156, R168, R172, R178, R201, R270,
R303, R305, R320, R447, R449, R452), as tests on a state.  OPEN_TRAFFIC runs them all (R53); a ticket breaks a rule if
the rule holds before it and fails on the state that its records would leave (R63, check 11).
-/
namespace Sys2Proof.Machine

/-- The state with every written window entry in force, as the checks of R153 read it. -/
def State.asPlanned (s : State) : State :=
  s.each s.dies fun s d => s.each [Win.ctTsmap, .ctCtn, .tdmCtn, .cryCtx] fun s w => (s.commitWin w d).applyWin w d

/-- The bank that a side of a carrier will run from: during a shift the new one. -/
def State.txPlan (s : State) (d : Nat) : Mode :=
  if s.unitRole d = 1 ∧ s.derActive then s.txBank d (s.txNew d) else s.txMode d
def State.rxPlan (s : State) (d : Nat) : Mode :=
  if s.unitRole d = 1 ∧ s.derActive then s.rxBank d (s.rxNew d) else s.rxMode d

/-- A bank carries no containers: it is unwritten or in an OIF mode (R144). -/
def Mode.slots (q : Mode) : Nat := if q.lineStd = 0 then 10 * q.netK else 0

/-- The partition check of R75 and R153: no slot in use lies beyond NET_K × 10 of either direction; a receive bank that
nothing has written yet gives no limit (DEDUCED, log 40). -/
def State.partitionOk (s : State) (d : Nat) : Bool :=
  let r := s.rxPlan d
  (s.slots d).all (fun (e : Nat × Nat) => decide (e.1 < (s.txPlan d).slots) &&
    (decide (e.1 < r.slots) || (decide (r.rs = 0) && decide (r.netK = 0))))

/-- The SEQ values of the entries of a carrier for a container with a given USE. -/
def State.seqsOn (s : State) (d c use : Nat) : List Nat :=
  ((s.slots d).filter (fun (e : Nat × Nat) => decide (tsUse e.2 = use) && decide (tsCtn e.2 = c))).map (fun (e : Nat × Nat) =>
    tsSeq e.2)

/-- SEQ of a container runs from 0 to k − 1 without gaps (R153). -/
def State.seqOk (s : State) (c : Nat) : Bool :=
  let l := s.dies.flatMap (fun d => s.seqsOn d c 1)
  decide (l.dedup.length = l.length) && l.all (fun q => decide (q < l.length))

/-- A container lies on its home die and on ring-adjacent members of its bond group (R26). -/
def State.placeOk (s : State) (c : Nat) : Bool :=
  let h := c / 512
  s.present h && (s.carriersOf c).all (fun d => decide (d = h) ||
    ((decide (s.chainPeer h 0 = d) || decide (s.chainPeer h 1 = d)) && s.flag (.ct .bondEn) h 0 && s.flag (.ct .bondEn) d 0 &&
      decide (s.get (.ct .group) d 0 = s.get (.ct .group) h 0) && bit (s.get (.ct .members) h 0) d))

/-- A protect entry names a container that is Tandem-protected and homed on the partner (R168). -/
def State.protectOk (s : State) (e v : Nat) : Bool :=
  let h := tsCtn v / 512
  s.present h && s.flag (.tdm .pairEn) e 0 && decide (s.pairPartner e = h) && s.tandemEn h (tsCtn v % 512)

/-- The container map of a carrier (R26, R153, R168). -/
def State.mapOk (s : State) (d : Nat) : Bool :=
  (s.ctnsOn d).all (fun c => s.seqOk c && s.placeOk c) &&
    (s.slots d).all (fun (e : Nat × Nat) => decide (tsUse e.2 ≠ 3) && (decide (tsUse e.2 ≠ 2) || s.protectOk d e.2))

/-- The protected slots of a Tandem pair: over the Tandem containers of both home dies (R168). -/
def State.tandemCtns (s : State) (d : Nat) : List Nat :=
  ((s.listed (.win .tdmCtn) d).filterMap (fun (e : Nat × Nat) =>
    if e.1 % 16 = 0 ∧ s.tandemEn d (e.1 / 16) then some (512 * d + e.1 / 16) else none))
def State.pairSlots (s : State) (d : Nat) : Nat :=
  ((s.tandemCtns d ++ (if s.pairPartner d = d then [] else s.tandemCtns (s.pairPartner d))).map s.ctnK).sum

/-- The conditions of R168 on one Tandem container. -/
def State.tandemOk (s : State) (d c : Nat) : Bool :=
  let e := s.pairPartner d
  s.flag (.tdm .pairEn) d 0 && s.encOn d (c % 512) && decide (s.carriersOf c = [d]) &&
    decide ((s.seqsOn e c 2).length = s.ctnK c) && (s.seqsOn d c 1).all (fun q => (s.seqsOn e c 2).contains q)

/-- A Tandem pair (R25, R27, R168, R172): both dies name each other, neither is bonded, its protected slots fit its port,
its rings fit the region and DIFF_MAX_US its limit. -/
def State.pairOk (s : State) (d : Nat) : Bool :=
  let e := s.pairPartner d
  let n := s.pairSlots d
  decide (e ≠ d) && s.flag (.tdm .pairEn) e 0 && decide (s.pairPartner e = d) && !s.flag (.ct .bondEn) d 0 && decide (n ≤ 640) &&
    decide (n ≤ 10 * s.get (.chn .tandemBw) d (s.get (.tdm .port) d 0)) && decide (s.tdmPages d ≤ 1310720) &&
    decide (s.get (.tdm .diffMaxUs) d 0 ≤ diffLimit n)
def State.tandemsOk (s : State) (d : Nat) : Bool :=
  (s.tandemCtns d).all (s.tandemOk d) && (!s.flag (.tdm .pairEn) d 0 || s.pairOk d)

/-- A bond group (R26): 2 to 8 carriers, consecutive around the ring, that all declare it alike. -/
def State.bondOk (s : State) (d : Nat) : Bool :=
  let m := s.get (.ct .members) d 0
  let l := maskBits 8 m
  !s.flag (.ct .bondEn) d 0 || (decide (2 ≤ l.length) && bit m d && !s.flag (.tdm .pairEn) d 0 &&
    l.all (fun e => s.present e && s.flag (.ct .bondEn) e 0 && decide (s.get (.ct .members) e 0 = m) &&
      decide (s.get (.ct .group) e 0 = s.get (.ct .group) d 0)) &&
    decide ((l.filter (fun e => !l.contains (s.chainPeer e 0))).length ≤ 1))

/-- The least k of a transparent container, by the SPEED of its port (R156). -/
def leastK (speed : Nat) : Nat :=
  match speed with
  | 0 => 41
  | 1 => 81
  | 2 => 162
  | _ => 323

/-- A transparent port has a transparent container of its own die that is large enough (R156, R233). -/
def State.clientOk (s : State) (d p : Nat) : Bool :=
  decide (s.get (.hl .mode) d p ≠ 2) || (decide (s.ctnMode d (s.get (.hl .tpContainer) d p) = 2) &&
    decide (leastK (s.get (.hl .speed) d p) ≤ s.ctnK (512 * d + s.get (.hl .tpContainer) d p)))

/-- On a carrier in an OIF mode nothing is configured that the mode lacks (R144). -/
def State.oifOk (s : State) (d : Nat) : Bool :=
  s.noOif d || (decide (s.slots d = []) && !s.flag (.ct .bondEn) d 0 && !s.flag (.tdm .pairEn) d 0 &&
    (List.range 512).all (fun i => decide (s.ctnMode d i = 0) && !s.encOn d i && !s.tandemEn d i) &&
    !s.flag (.pel .nbUp) d 0 && !s.flag (.pel .nbDn) d 0)

/-- With CD_MODE = 1 CD_SET lies within ±L (R104). -/
def State.cdSetOk (s : State) (d : Nat) : Bool :=
  !s.flag (.lr .cdMode) d 0 || decide ((s.getI (.lr .cdSet) d 0).natAbs ≤ cdLimit (s.rxMode d).rs)

/-- DIE_LO is below DIE_HI where the latter is set (R257). -/
def State.dieWmOk (s : State) (d : Nat) : Bool :=
  decide (s.get (.qs .dieHi) d 0 = 0) || decide (s.get (.qs .dieLo) d 0 < s.get (.qs .dieHi) d 0)

/-- A level counter watches a live alarm register of its own die (R447). -/
def State.levelOk (s : State) (d k : Nat) : Bool :=
  let a := s.winPlan .pcLvl d k 0
  (decide (a = 0) && !bit (s.winPlan .pcLvl d k 1) 31) ||
    match placeAt a with
    | .live _ _ _ => decide (addrDie a = some d)
    | _ => false

/-- Values that their tables tie to another field of the same block (R104, R398). -/
def State.relationsOk (s : State) : Bool :=
  s.dies.all (fun d => decide (s.getI (.lr .cdMin) d 0 ≤ s.getI (.lr .cdMax) d 0)) &&
    (List.range 4).all (fun u => decide (s.get (.tim .trigWidth) 0 u < s.get (.tim .trigPeriod) 0 u))

/-- The first queueing window of a die whose entries break chapter 9 (R270), as its _ADDR register. -/
def Win.addrAt (w : Win) (d : Nat) : Nat :=
  match w.info.area with
  | .die => 0x10000000 + 0x1000000 * d + w.info.off
  | .dieZero => 0x10000000 + w.info.off
  | .slot b => 0x8000000 + b + 0x1000 * d + w.info.off
  | _ => w.info.off
def State.qsOffence (s : State) : Option Nat :=
  s.dies.findSome? (fun d => (List.range 6).findSome? (fun w => if s.qsCheck w d then none else some ((qsWin w).addrAt d)))

/-- The rules that the image and every ticket must keep. -/
def State.rules (s : State) : List Bool :=
  let p := s.asPlanned
  [s.chainBudgetOk, s.pelotonOk, s.clkConfigOk, s.relationsOk, decide (s.qsOffence = none)] ++
    s.dies.flatMap (fun d => [p.partitionOk d, p.mapOk d, p.tandemsOk d, p.bondOk d, p.oifOk d,
      (List.range 16).all (p.clientOk d), s.portsOk d, s.cdSetOk d, s.dieWmOk d, (List.range 16).all (s.levelOk d)])

/-- Some rule holds in `s` and fails in `t`. -/
def rulesBroken (s t : State) : Bool := ((s.rules.zip t.rules).any (fun (x : Bool × Bool) => x.1 && !x.2))

-- What the image alone can configure.

/-- A range of host memory lies in one window that a test accepts (R305). -/
def State.inWindow (s : State) (flagOk : Nat → Bool) (a n : Nat) : Bool :=
  (List.range 16).any (fun w => s.flag (.crr .winEn) 0 w && flagOk w && decide (s.get (.crr .winBase) 0 w ≤ a) &&
    decide (a + n ≤ s.get (.crr .winBase) 0 w + s.get (.crr .winSize) 0 w * 4096))

/-- The ticket ring lies in a TICKET window and its channel is enabled (R60, R303, R305). -/
def State.ticketRingOk (s : State) : Bool :=
  let n := s.get (.tkt .ringSize) 0 0
  decide (n = 0) || (s.flag (.crr .chEn) 0 4 &&
    s.inWindow (fun w => s.flag (.crr .winTicket) 0 w) (s.get (.tkt .ringBase) 0 0) (16 * 2 ^ n))

/-- A telemetry ring (R303, R449). -/
def State.telRingOk (s : State) (t : Nat) : Bool :=
  let z := s.get (.tel .sizeLog2) 0 t
  decide (s.get (.tel .kind) 0 t = 0) || (s.flag (.crr .chEn) 0 (5 + t) && decide (4 ≤ z) && decide (z ≤ 16) &&
    decide (s.get (.tel .telBase) 0 t % 64 = 0) &&
    (decide (s.get (.tel .kind) 0 t ≠ 2) || decide (1 ≤ s.get (.tel .periodMs) 0 t)) &&
    s.inWindow (fun w => s.flag (.crr .winTelemetry) 0 w) (s.get (.tel .telBase) 0 t) (64 * 2 ^ z))

/-- Every range of TEL_LIST is granted READ (R448, R452). -/
def State.telListOk (s : State) (l : List PolicyEntry) : Bool :=
  (List.range 64).all (fun e =>
    let a := s.winPlan .telList 0 e 0
    let w := s.winPlan .telList 0 e 1
    decide (a = 0) || (if bit w 31 then grants l false a
      else (List.range (bits w 0 8 + 1)).all (fun k => grantsRead l (a + 8 * k))))

/-- The part's own trust entry: VALID, not REVOKED and with its own ID_HASH (R320); bit 14 of an entry says the last. -/
def State.ownTrustOk (s : State) : Bool :=
  match s.trustOf (s.get (.boot .nodeHdr) 0 0) with
  | some e => bit e 12 && !bit e 13 && bit e 14
  | none => false

/-- What only the image can break. -/
def State.imageRulesOk (s : State) : Bool :=
  s.ticketRingOk && (List.range 7).all s.telRingOk && s.telListOk s.imgPolicy && s.dies.all s.ladderOk && s.ownTrustOk

end Sys2Proof.Machine
end

