-- ==== Sys2Proof/Machine/Writes.lean ====
section
/-!
DEFINITION. Writes: which access types and values a write is checked against (R4, R49, R466, R474, R500), and what a write
that passes does to every field, command bit, alarm bit and window word.
-/
namespace Sys2Proof.Machine

/-- Why a write is not carried out: the resource is absent, the access type forbids it (for a ticket, the field is
boot-only), the target is not yet available, a value or a rule is broken, or the target is busy (R49, R50, R499). -/
inductive WErr where
  | absent | access | bootOnly | order | rule | busy
  deriving DecidableEq, Repr

/-- A value is one that the field's table permits (R500). -/
def Rng.ok (r : Rng) (sgn : Bool) (w i v : Nat) : Bool :=
  match r with
  | .any | .prio => true
  | .ivs l => l.any (fun (x : Int × Int) =>
      let y : Int := if sgn then sext w v else v
      decide (x.1 ≤ y) && decide (y ≤ x.2))
  | .oddTaps => decide (v % 2 = 1) && decide (9 ≤ v) && decide (v ≤ 41)
  | .pcp => (List.range 8).all (fun k => decide (bits v (2 * k) 2 ≠ 3))
  | .pps => decide (1 ≤ v) && decide (v ≤ if i < 4 then 1000 else 100)
  | .bw => decide (v ≤ if i = 0 then 2 else 3)
  | .align n => decide (v % n = 0)

/-- Bits of `old` where `mask` is 0, of `new` where it is 1 (R48). -/
def mergeBits (old mask new : Nat) : Nat := (old &&& ((2 ^ 32 - 1) ^^^ (mask % 2 ^ 32))) ||| (new &&& mask)

/-- A write sets to 1 a bit that no field has. -/
def rsvHit (used mask value : Nat) : Bool := decide ((mask &&& value) &&& ((2 ^ 32 - 1) ^^^ used) ≠ 0)

/-- The bits of a range of a word. -/
def spanBits (hi lo : Nat) : Nat := 2 ^ (hi + 1) - 2 ^ lo

/-- The width of a field, and the part of a mask or value that it covers. -/
def Fld.width (f : Fld) : Nat := f.hi - f.lo + 1
def Fld.part (f : Fld) (x : Nat) : Nat := bits x f.lo f.width

/-- The raw value of a field after a masked write. -/
def State.fldNew (s : State) (f : Fld) (d i mask value : Nat) : Nat :=
  mergeBits (s.get f.cell (d + f.dAdd) (i + f.iAdd) % 2 ^ f.width) (f.part mask) (f.part value) % 2 ^ f.width

/-- What an access type answers to a write under a mask. -/
def Acc.err (a : Acc) (ticket : Bool) : Option WErr :=
  match a with
  | .ro => some .access
  | .cfgB => if ticket then some .bootOnly else none
  | .cfgT | .cmd => none

/-- The first error of a list. -/
def firstErr {α : Type} (l : List α) (f : α → Option WErr) : Option WErr := l.findSome? f

-- Window words.

/-- A field of a window word and the values it permits. -/
structure WFld where
  hi : Nat
  lo : Nat
  rng : Rng := .any
  deriving DecidableEq, Repr

/-- What a window word is: read-only, configuration, sticky bits, or their mask. -/
inductive WordKind where
  | ro
  | cfg (a : Acc) (flds : List WFld)
  | sticky
  | mask
  deriving DecidableEq, Repr

/-- A whole word of 32 bits. -/
def wAll : List WFld := [⟨31, 0, .any⟩]

/-- The words of a policer entry and of a shaper entry (QS_QPOL, QS_CPOL, QS_SHP). -/
def polFlds (k : Nat) : List WFld :=
  match k with
  | 0 => [⟨31, 30, .any⟩, ⟨29, 29, .any⟩, ⟨28, 28, .any⟩, ⟨21, 0, .any⟩]
  | 1 => [⟨21, 0, .any⟩]
  | _ => [⟨23, 0, .any⟩]

/-- What word `k` of entry `e` of a window is, by its table. -/
def Win.kind (w : Win) (e k : Nat) : WordKind :=
  match w, k with
  | .ltFir, _ => .cfg .cfgT [⟨15, 0, .any⟩]
  | .ctTti, _ => if e % 3 = 2 then .ro else .cfg .cfgT wAll
  | .ctTsmap, _ => .cfg .cfgT [⟨31, 30, .ivs [(0, 2)]⟩, ⟨25, 16, .any⟩, ⟨11, 0, .any⟩]
  | .ctCtn, 0 => .cfg .cfgT [⟨31, 16, .any⟩, ⟨11, 8, .ivs [(2, 10)]⟩, ⟨3, 3, .any⟩, ⟨2, 2, .any⟩, ⟨1, 0, .any⟩]
  | .ctCtn, 2 | .tdmCtn, 2 | .cryCtx, 3 => .sticky
  | .ctCtn, 3 | .tdmCtn, 3 | .cryCtx, 4 => .mask
  | .tdmCtn, 0 => .cfg .cfgT [⟨0, 0, .any⟩]
  | .cryCtx, 0 => .cfg .cfgT [⟨1, 1, .any⟩, ⟨0, 0, .any⟩]
  | .derLadder, _ => .cfg .cfgB wAll
  | .qsCls, 0 => .cfg .cfgT [⟨31, 30, .any⟩, ⟨27, 24, .any⟩, ⟨23, 12, .any⟩, ⟨11, 0, .any⟩]
  | .qsCls, _ => .cfg .cfgT [⟨31, 27, .any⟩, ⟨10, 0, .any⟩]
  | .qsQ, 0 => .cfg .cfgT wAll
  | .qsQ, 1 => .cfg .cfgT [⟨31, 24, .any⟩, ⟨20, 0, .any⟩]
  | .qsQ, 2 | .qsQ, 3 | .qsQ, 4 => .cfg .cfgT [⟨19, 0, .any⟩]
  | .qsQpol, k | .qsCpol, k => .cfg .cfgT (polFlds k)
  | .qsShp, 0 => .cfg .cfgT [⟨31, 30, .any⟩, ⟨21, 0, .any⟩]
  | .qsShp, k => .cfg .cfgT (polFlds k)
  | .qsCtn, 0 => .cfg .cfgT [⟨31, 31, .any⟩, ⟨19, 16, .any⟩]
  | .qsGate, 0 => if e < 256 then .cfg .cfgT [⟨7, 0, .any⟩] else .ro
  | .qsGate, _ => if e < 256 then .cfg .cfgT [⟨29, 0, .any⟩] else .ro
  | .pcLvl, 0 => .cfg .cfgT wAll
  | .pcLvl, _ => .cfg .cfgT [⟨31, 31, .any⟩, ⟨4, 0, .any⟩]
  | .telList, 0 => .cfg .cfgB wAll
  | .telList, _ => .cfg .cfgB [⟨31, 31, .any⟩, ⟨23, 0, .any⟩]
  | .timLink, 0 => .cfg .cfgT [⟨31, 24, .ivs [(0, 124)]⟩, ⟨22, 20, .any⟩, ⟨15, 14, .ivs [(0, 2)]⟩, ⟨13, 12, .ivs [(0, 2)]⟩,
      ⟨11, 10, .ivs [(0, 2)]⟩, ⟨9, 8, .ivs [(0, 2)]⟩, ⟨7, 4, .any⟩, ⟨0, 0, .any⟩]
  | .timLink, 1 => .cfg .cfgT wAll
  | .monSeq, _ => .cfg .cfgT [⟨31, 8, .any⟩, ⟨3, 0, .any⟩]
  | .ctCtn, _ | .tdmCtn, _ | .cryCtx, _ | .qsQ, _ | .qsCtn, _ | .timLink, _ | .panRetire, _ | .panRepair, _ | .trcBuf, _
  | .almLog, _ | .sbgSpan, _ | .sbgPub, _ | .timPce, _ | .bellDesc, _ => .ro

/-- The index of a queueing window among those of `qsWin`. -/
def Win.qsIdx : Win → Option Nat
  | .qsQ => some 0
  | .qsQpol => some 1
  | .qsCtn => some 2
  | .qsCpol => some 3
  | .qsShp => some 4
  | .qsGate => some 5
  | _ => none

/-- Windows with a COMMIT that schedules entries. -/
def Win.commits (w : Win) : Bool :=
  match w with
  | .ctTti | .ctTsmap | .ctCtn | .tdmCtn | .qsQ | .qsQpol | .qsCtn | .qsCpol | .qsShp | .qsGate | .cryCtx | .pcLvl | .telList
  | .timLink | .monSeq => true
  | _ => false

/-- The value that a masked write gives a window word: the planned word with the masked bits replaced. -/
def State.winNewWord (s : State) (w : Win) (d e k mask value : Nat) : Nat := mergeBits (s.winPlan w d e k) mask value

/-- The pointer of the image and ticket executor. -/
def State.execPtr (s : State) (w : Win) (d : Nat) : Nat × Nat := s.winPtr w d .exec

/-- The check of a _DATA write: beyond the window or read-only ACCESS; reserved bits ACCESS; values RULE (R474, R500). -/
def State.winDataErr (s : State) (w : Win) (d e k mask value : Nat) (ticket : Bool) : Option WErr :=
  if w ≠ .qsCls ∧ (w.info.entries ≤ e ∨ w.info.words ≤ k) then some .access
  else
    match w.kind e k with
    | .ro => some .access
    | .sticky | .mask => if rsvHit (packAlms w.alms (fun _ => true)) mask value then some .access else none
    | .cfg a l =>
      let new := s.winNewWord w d e k mask value
      match a.err ticket with
      | some x => some x
      | none =>
        if rsvHit ((l.map (fun f => spanBits f.hi f.lo)).sum) mask value then some .access
        else if l.all (fun f => decide (bits mask f.lo (f.hi - f.lo + 1) = 0) ||
            f.rng.ok false (f.hi - f.lo + 1) e (bits new f.lo (f.hi - f.lo + 1))) then none
        else some .rule

/-- The check of a _CTRL write: COMMIT is a command, BUSY and RESULT are read-only (R153, R242, R266). -/
def Win.ctrlErr (w : Win) (mask value : Nat) : Option WErr :=
  if w = .qsCls then
    if mask &&& 0x72 ≠ 0 ∨ rsvHit 0x7E mask value then some .access
    else if bits mask 2 2 ≠ 0 ∧ bits (mask &&& value) 2 2 = 3 then some .rule else none
  else if w = .ltFir ∨ w.commits then
    if bit mask 1 || rsvHit 3 mask value then some .access else none
  else if rsvHit 0 mask value then some .access else none

-- The checks of one word.

/-- Access types of every bit under the mask (R49); an address that no table assigns is reserved (R466). -/
def State.accessErr (s : State) (who : Writer) (x mask value : Nat) : Option WErr :=
  let tk := decide (who = .ticket)
  let roErr : Option WErr := if mask = 0 then none else some .access
  match placeAt x with
  | .reg r _ _ =>
    match firstErr r.flds (fun f => if f.part mask = 0 then none else f.acc.err tk) with
    | some e => some e
    | none => if rsvHit ((r.flds.map (fun f => spanBits f.hi f.lo)).sum) mask value then some .access else none
  | .half c _ _ _ => if mask = 0 then none else c.acc.err tk
  | .live _ _ _ => roErr
  | .sticky g _ _ =>
    let sec := packAlms ((g.bits.map Prod.snd).filter Alm.isSec) (fun _ => true)
    if mask &&& sec ≠ 0 ∨ rsvHit (packAlms (g.bits.map Prod.snd) (fun _ => true)) mask value then some .access else none
  | .mask g _ _ =>
    if mask ≠ 0 ∧ g.maskAcc = .ro ∨ rsvHit (packAlms (g.bits.map Prod.snd) (fun _ => true)) mask value then some .access else none
  | .monOvr _ k => if k = 0 then roErr else if rsvHit 0xFFFF mask value then some .access else none
  | .winAddr w _ => if mask = 0 then none else (if w = .derLadder ∨ w = .telList then Acc.cfgB else Acc.cfgT).err tk
  | .winData w d =>
    match s.winDataErr w d (s.execPtr w d).1 (s.execPtr w d).2 mask value tk with
    | some .rule => none
    | e => e
  | .winCtrl w _ =>
    match w.ctrlErr mask value with
    | some .rule => none
    | e => e
  | .nothing => if rsvHit 0 mask value then some .access else none
  | _ => roErr

/-- A LT_ or LR_ mode bank at an address (R74, R98): 0 and 1 transmit, 2 and 3 receive. -/
def bankAt (x : Nat) : Option (Nat × Nat) :=
  match addrDie x with
  | none => none
  | some d =>
    let o := x % 0x1000000
    if o = 0x300000 ∨ o = 0x300004 then some (d, 0)
    else if o = 0x300040 ∨ o = 0x300044 then some (d, 1)
    else if o = 0x380000 ∨ o = 0x380004 then some (d, 2)
    else if o = 0x380040 ∨ o = 0x380044 then some (d, 3)
    else none

/-- The value of the CRY_CTX word 0 that a _DATA write leaves changes ENC_EN (R328). -/
def State.encWrite (s : State) (w : Win) (d e k mask value : Nat) : Bool :=
  decide (w = .cryCtx) && decide (k = 0) && decide (s.winNewWord w d e k mask value % 2 ≠ s.winPlan w d e k % 2)

/-- What a command bit needs, apart from a free target (R219, R393, R398, R460). -/
def State.cmdRule (s : State) (c : Cell) (d i : Nat) : Bool :=
  match c with
  | .hl .escanStart => !(decide (s.get (.hl .gear) d i = 1) && decide (s.get (.hl .escanEye) d i ≠ 1))
  | .tim .hostApply => decide (s.get (.tim .src) 0 i = 4)
  | .tim .trigArm => s.trigMayArm i
  | .inj .fire => s.injOk d i
  | .qs .gateCommit => s.gateListOk d
  | _ => true

/-- What a command bit acts on is busy (R219, R410, R458, R461). -/
def State.cmdBusy (s : State) (c : Cell) (d i : Nat) : Bool :=
  match c with
  | .hl .escanStart => s.flag (.hl .escanBusy) d i
  | .cal .calStart => s.flag (.cal .sysBusy) 0 0
  | .crc .submit => decide (s.crcSlot = none)
  | .inj .fire => s.flag (.inj .uActive) d i
  | _ => false

/-- Rejected values and the rules that one write can break (R500 and the owning chapters). -/
def State.ruleErr (s : State) (x mask value : Nat) : Bool :=
  match placeAt x with
  | .reg r d i =>
    (r.flds.any (fun f => decide (f.part mask ≠ 0) &&
      (if f.acc = .cmd then false
       else !f.rng.ok f.sgn f.width i (s.fldNew f d i mask value)))) ||
    (!s.flag (.inj .testEnable) 0 0 && decide (mask ≠ 0) &&
      r.flds.any (fun f => match f.cell with | .inj .testEnable => false | .inj _ => true | _ => false))
  | .half c d i hi =>
    !c.rng.ok false 64 i (if hi then mergeBits (s.get c.cell d i / 2 ^ 32) mask value * 2 ^ 32 + s.get c.cell d i % 2 ^ 32
      else s.get c.cell d i / 2 ^ 32 * 2 ^ 32 + mergeBits (s.get c.cell d i % 2 ^ 32) mask value)
  | .winData w d =>
    decide (s.winDataErr w d (s.execPtr w d).1 (s.execPtr w d).2 mask value false = some .rule)
  | .winCtrl w d =>
    decide (w.ctrlErr mask value = some .rule) ||
      (bit (mask &&& value) 0 && (match w.qsIdx with | some k => !s.qsCheck k d | none => false))
  | _ => false

-- What a write does.

/-- Fields whose change has an effect of its own. -/
def Cell.hooked (c : Cell) : Bool :=
  match c with
  | .chn .portEn | .lt .txEn | .lt .mute | .lt .bellDepth | .lt .lineStd | .lt .rs | .lt .const | .lt .entropy | .lt .netK
  | .lt .fecRate | .lr .rxEn | .lr .lineStd | .lr .rs | .lr .const | .lr .entropy | .lr .netK | .lr .fecRate | .las .lasEn
  | .las .gridN | .fec .iterMax | .ct .framerEn | .pel .pelOn | .pel .nbUp | .pel .nbDn | .hl .portEn | .hl .idleReq | .hl .prbsPat
  | .hl .prbsGen | .hl .prbsChk | .qs .dieHi | .qs .dieLo | .pan .spareWarn | .pan .retireUrgent | .trc .trcEn | .bell .bellEn
  | .mon .monEn | .mon .seqLen | .mon .fEn | .mon .fOrder | .mon .fCh | .mon .fDecimM1 | .mon .fIshift | .mon .fCshift
  | .bias .biasEn | .clk .monEn | .clk .home | .clk .prio | .clk .dpllMode | .clk .ppsEn | .clk .ppsTb | .clk .ppsOfs
  | .tim .src | .tkt .nodeId => true
  | _ => false

/-- A Peloton declaration or PEL_ON changes (R178, R182). -/
def State.pelFollow (s : State) (d : Nat) : State :=
  s.each [0, 1] fun s p =>
    (if !s.nbOn d p then s.nbEnter d p nbOff 0
     else if s.get (.pel .nbState) d p = nbOff then s.nbEnter d p nbWait 0 else s).nbShow d p

/-- Set a field to a new value, with what follows from the change; `v` is the cell's value (signed fields encoded). -/
def State.putField (s : State) (c : Cell) (d i v : Nat) : State :=
  let old := s.get c d i
  let t := s.set c d i v
  match c with
  | .chn .portEn => if v = old then s else if v = 1 then s.chainEnable d i else s.chainDisable d i
  | .lt .txEn =>
    if v = old then s
    else if v = 0 then s.txStop d
    else if s.flag (.lt .firstStart) d 0 || s.flag (.lt .txcalSrc) d 0 then s.txStart d (defaultCal 0) else t
  | .lt .mute => t.muteRefresh d
  | .lt .bellDepth => t.bellFollow d
  | .lt .lineStd | .lt .rs | .lt .const | .lt .entropy | .lt .netK | .lt .fecRate => t.setTxComp d i
  | .lr .rxEn => if v = old then s else if v = 0 then s.rxStop d else t
  | .lr .lineStd | .lr .rs | .lr .const | .lr .entropy | .lr .netK | .lr .fecRate => t.setRxComp d i
  | .las .lasEn => if v = old then s else if v = 1 then s.lasEnable d else s.lasEnFall d
  | .las .gridN => if v = old then s else t.lasRetune d
  | .fec .iterMax => if t.get (.fec .lockState) d 0 = 0 then t else t.set (.fec .iterCap) d 0 (t.iterCap d)
  | .ct .framerEn => s.framerSet d v
  | .pel .pelOn | .pel .nbUp | .pel .nbDn => t.pelFollow d
  | .hl .portEn => if v = old then s else if v = 1 then s.portStart d i else s.portStop d i
  | .hl .idleReq =>
    if v = old then s else if !s.flag (.hl .portEn) d i then t else if v = 1 then s.portIdle d i else s.portWake d i
  | .hl .prbsPat | .hl .prbsGen | .hl .prbsChk => if v = old then s else t.laneTestSet d i
  | .qs .dieHi | .qs .dieLo => t.brakeFollow d
  | .pan .spareWarn => t.spareFollow d
  | .pan .retireUrgent => t.retireFollow d
  | .trc .trcEn => if old = 0 ∧ v = 1 then (t.set (.trc .count) d 0 0).drbg false else t
  | .bell .bellEn => s.bellEnable d v
  | .mon .monEn | .mon .seqLen => if v = old then s else t.seqFollow d
  | .mon .fEn | .mon .fOrder | .mon .fCh | .mon .fDecimM1 | .mon .fIshift | .mon .fCshift =>
    if v = old then s else if t.flag (.mon .fEn) d i then t.filtReset d i else t.set (.mon .fValid) d i 0
  | .bias .biasEn => t.biasShow d
  | .clk .monEn => s.monEnSet i v
  | .clk .home | .clk .prio | .clk .dpllMode => t.dpllSelect
  | .clk .ppsEn => s.ppsEnSet i v
  | .clk .ppsTb => s.ppsTbSet i v
  | .clk .ppsOfs => s.ppsOfsSet i (dec v)
  | .tim .src => s.tbSrcSet i v
  | .tkt .nodeId => t.set (.ao .nodeId) 0 0 v
  | _ => t

/-- A command bit is written with 1 (R4). -/
def State.command (s : State) (c : Cell) (d i : Nat) : State :=
  if s.cmdBusy c d i || !s.cmdRule c d i then s
  else
    match c with
    | .hl .escanStart => s.escanBegin d i
    | .qs .gateCommit => s.gateCommit d
    | .tim .tbSet => s.tbSetNow i
    | .tim .hostApply => s.hostApply i
    | .tim .trigArm => s.trigArm i
    | .tim .trigDisarm => s.trigDisarm i
    | .mon .sync => s.filtSync d
    | .bias .restart => s.set (.bias .restartReq) d 0 1
    | .bias .wrapNow => s.wrapNow d
    | .cal .calStart => s.sysCalStart
    | .inj .fire => s.injFire d i
    | .inj .stop => s.injStop d i
    | .crc .submit => s.crcSubmit
    | _ => s

/-- One field takes its part of a masked write. -/
def State.writeFld (s : State) (f : Fld) (d i mask value : Nat) : State :=
  if f.part mask = 0 then s
  else
    let raw := s.fldNew f d i mask value
    s.putField f.cell (d + f.dAdd) (i + f.iAdd) (if f.sgn then enc (sext f.width raw) else raw)

/-- The command bits that a masked write sets to 1, from the lowest, with the places of their fields. -/
def Reg.commands (r : Reg) (mask value : Nat) : List Fld :=
  (r.flds.filter (fun f => decide (f.acc = .cmd) && decide (f.part (mask &&& value) ≠ 0))).reverse

/-- The fields of a register that are no command bits take a masked write: plain fields together, then fields with effects
from the lowest bit. -/
def State.writeFlds (s : State) (r : Reg) (d i mask value : Nat) : State :=
  let cfg := (r.flds.filter (fun f => decide (f.acc ≠ .cmd))).reverse
  let s1 := s.each (cfg.filter (fun f => !f.cell.hooked)) fun s f => s.writeFld f d i mask value
  s1.each (cfg.filter (fun f => f.cell.hooked)) fun s f => s.writeFld f d i mask value

/-- A register takes a masked write: its fields, then its command bits (DEDUCED, log 38: a write is one access, and its
command bits act on the values it leaves). -/
def State.writeReg (s : State) (r : Reg) (d i mask value : Nat) : State :=
  (s.writeFlds r d i mask value).each (r.commands mask value) fun s f => s.command f.cell (d + f.dAdd) (i + f.iAdd)

/-- Alarm bits of a word where `sel` is 1. -/
def selAlms (l : List Alm) (sel : Nat) : List Alm := l.filter (fun a => bit sel a.bitNo)

/-- Sticky bits written with 1 clear, but for those whose condition sets them again in the same cycle (R6). -/
def State.clearSticky (s : State) (l : List Alm) (d i ones again : Nat) : State :=
  s.each ((selAlms l ones).filter (fun a => !bit again a.bitNo)) fun s a => s.set (.sticky a) d i 0

/-- Mask bits take their part of a masked write. -/
def State.writeMask (s : State) (l : List Alm) (d i mask value : Nat) : State :=
  s.each (selAlms l mask) fun s a => s.setB (.mask a) d i (bit value a.bitNo)

/-- The operation of QS_CLS that _CTRL.OP names (R242). -/
def State.clsRun (s : State) (d w0 w1 : Nat) : State :=
  match s.get (.qs .clsOp) d 0 with
  | 0 => s.clsInsert d w0 w1
  | 1 => s.clsDelete d w0 w1
  | 2 => s.clsFind d w0 w1
  | _ => s

/-- A _DATA write: sticky words clear at once, LT_FIR and DER_LADDER entries are stored, an operation of QS_CLS runs when
word 1 is written, and any other word waits for its COMMIT. -/
def State.winStore (s : State) (w : Win) (d e k mask value : Nat) : State :=
  let new := s.winNewWord w d e k mask value
  match w with
  | .ltFir | .derLadder => s.setWin w d e k new
  | .qsCls =>
    if k = 0 then s.setWin w d 0 0 new
    else (s.setWin w d 0 1 new).clsRun d (s.winWordAt .qsCls d 0 0) new
  | w => if w.stickyWord = some k then s.clearSticky w.alms d e (mask &&& value) 0 else s.stageWin w d e k new

/-- A _DATA write through a port's pointer, which advances (R474). -/
def State.winWrite (s : State) (w : Win) (d : Nat) (port : APort) (mask value : Nat) : State :=
  let p := s.winPtr w d port
  let n := winNext w p.1 p.2
  (s.winStore w d p.1 p.2 mask value).setPtr w d port n.1 n.2

/-- A _CTRL write. -/
def State.winControl (s : State) (w : Win) (d mask value : Nat) : State :=
  if w = .qsCls then s.set (.qs .clsOp) d 0 (mergeBits (s.get (.qs .clsOp) d 0) (bits mask 2 2) (bits value 2 2))
  else if !bit (mask &&& value) 0 then s
  else
    match w.qsIdx with
    | some k => s.qsCommit d k
    | none =>
      match w with
      | .ltFir => s.set (.lt .firPending) d 0 1
      | .monSeq => if s.get (.mon .seqState) d 0 = seqStopped then (s.commitWin .monSeq d).seqApply d else s.commitWin .monSeq d
      | w => if w.commits then s.commitWin w d else s

/-- The first write of a phase to a mode bank keeps its earlier content (R75). -/
def State.bankSave (s : State) (x : Nat) : State :=
  match bankAt x with
  | none => s
  | some (d, b) =>
    if bit (s.get (.boot .wroteBank) d 0) b then s
    else
      let base := x / 8 * 8
      ((s.set (.boot .oldBank) d (2 * b) (s.placeWord .exec (placeAt base))).set (.boot .oldBank) d (2 * b + 1)
        (s.placeWord .exec (placeAt (base + 4)))).set (.boot .wroteBank) d 0 (putBit (s.get (.boot .wroteBank) d 0) b true)

/-- A masked write that has passed its checks takes effect. -/
def State.applyWrite (s : State) (x mask value : Nat) : State :=
  let s := s.bankSave x
  match placeAt x with
  | .reg r d i => s.writeReg r d i mask value
  | .half c d i hi =>
    let o := s.get c.cell d i
    s.set c.cell d i (if hi then mergeBits (o / 2 ^ 32 % 2 ^ 32) mask value * 2 ^ 32 + o % 2 ^ 32
      else o / 2 ^ 32 * 2 ^ 32 + mergeBits (o % 2 ^ 32) mask value)
  | .sticky g d i => s.clearSticky ((g.bits.map Prod.snd).filter (fun a => !a.isSec)) d i (mask &&& value) 0
  | .mask g d i => s.writeMask (g.bits.map Prod.snd) d i mask value
  | .monOvr d k => s.each ((List.range 16).filter (fun c => bit mask c)) fun s c =>
      if k = 1 then (if bit value c then s.set (.sticky .monOvr) d c 0 else s) else s.setB (.mask .monOvr) d c (bit value c)
  | .winAddr w d =>
    let p := s.winPtr w d .exec
    let a := mergeBits (p.1 + p.2 * 2 ^ 16) mask value
    s.setPtr w d .exec (bits a 0 16) (bits a 16 4)
  | .winData w d => if mask = 0 then s else s.winWrite w d .exec mask value
  | .winCtrl w d => s.winControl w d mask value
  | _ => s

end Sys2Proof.Machine
end

