-- ==== Sys2Proof/Machine/Records.lean ====
section
/-!
DEFINITION. Records (R48 to R51, R499): their format, the accesses each stands for, and the checks of one access and of one
PROC, for the image and for a ticket.
-/
namespace Sys2Proof.Machine

/-- An access of a record: address, mask, value. -/
abbrev Access := Nat × Nat × Nat

/-- All bits of a word. -/
def fullMask : Nat := 0xFFFFFFFF

/-- Entry `e` of a TABLE: the pointer, then its words through the _DATA register (R48, R474). -/
def tableEntry (window first words : Nat) (data : List Nat) (e : Nat) : List Access :=
  (window, 0xFFFFF, (first + e) % 2 ^ 16) ::
    (List.range words).map (fun k => (window + 4, fullMask, data.getD (words * e + k) 0))

/-- The writes that a record stands for (R48). -/
def recWrites (r : Rec) : List Access :=
  match r with
  | .write a m v => [(a, m, v)]
  | .fill a m v n st => (List.range n).map (fun k => (a + k * st, m, v))
  | .table w first words n data => (List.range n).flatMap (tableEntry w first words data)
  | .waitUs _ | .pollUntil _ _ _ _ | .proc _ _ | .bad => []

/-- The format of a record (R48, R51); in a ticket the limits of R63 on waits apply. -/
def recFormatOk (ticket : Bool) (r : Rec) : Bool :=
  match r with
  | .write a _ _ => decide (a % 4 = 0)
  | .fill a _ _ n st => decide (a % 4 = 0) && decide (1 ≤ n) && decide (n ≤ 65536) && decide (4 ≤ st) && decide (st ≤ 65536) &&
      decide (st % 4 = 0) && decide (a + (n - 1) * st ≤ 0xFFFFFFFC)
  | .table w _ words n data => decide (w % 4 = 0) && decide (1 ≤ words) && decide (words ≤ 16) && decide (1 ≤ n) &&
      decide (data.length = n * words) && decide (4 + n * words < 65536)
  | .waitUs us => decide (1 ≤ us) && decide (us ≤ if ticket then 100000 else 1000000)
  | .pollUntil a _ _ t => decide (a % 4 = 0) && decide (1 ≤ t) && decide (t ≤ if ticket then 1000000 else 10000000)
  | .proc id args => decide (1 ≤ id) && decide (id ≤ 11) && decide (args.length ≤ 15)
  | .bad => false

/-- A TABLE must name the _ADDR register of a window and stay within it; QS_CLS has no index (R242, R474; DEDUCED, log 41:
anything else is an address that no TABLE can load). -/
def tableFits (r : Rec) : Bool :=
  match r with
  | .table w first words n _ =>
    match placeAt w with
    | .winAddr q _ => decide (words ≤ q.info.words) && (decide (q = .qsCls) || decide (first + n ≤ q.info.entries))
    | _ => false
  | _ => true

/-- The die that an address concerns. -/
def accessDie (x : Nat) : Nat := ((addrDie x).orElse fun _ => addrSlot x).getD 0

/-- An address on a member die. -/
def onMember (x : Nat) : Bool :=
  match addrDie x with
  | some d => decide (d ≠ 0)
  | none => false

/-- The command bits that an access sets, with their places. -/
def accessCommands (x mask value : Nat) : List (Cell × Nat × Nat) :=
  match placeAt x with
  | .reg r d i => (r.commands mask value).map (fun f => (f.cell, d + f.dAdd, i + f.iAdd))
  | _ => []

/-- A command bit is refused by its rule, as the access's own fields leave the block (R219, R264, R398, R460). -/
def State.commandRefused (s : State) (x mask value : Nat) : Bool :=
  match placeAt x with
  | .reg r d i =>
    let t := s.writeFlds r d i mask value
    (accessCommands x mask value).any (fun c => !t.cmdRule c.1 c.2.1 c.2.2)
  | _ => false

/-- An access changes GRID_N of a port. -/
def State.gridChange (s : State) (x mask value : Nat) : Option Nat :=
  match placeAt x with
  | .reg r d i => r.flds.findSome? (fun f =>
      if f.cell = .las .gridN ∧ s.fldNew f d i mask value ≠ s.get f.cell (d + f.dAdd) (i + f.iAdd) % 2 ^ f.width then
        some (d + f.dAdd) else none)
  | _ => none

/-- The target of an access is busy with an action of the part's own (R95, R219, R410, R458, R461). -/
def State.accessBusy (s : State) (x mask value : Nat) : Bool :=
  (accessCommands x mask value).any (fun c => s.cmdBusy c.1 c.2.1 c.2.2) ||
    match s.gridChange x mask value with
    | some p => decide (s.get (.las .state) p 0 = lasDiscover) || decide (s.get (.las .state) p 0 = lasTuning)
    | none => false

/-- An INSERT or DELETE of QS_CLS that this access completed did not end DONE (R242). -/
def State.clsRefused (s t : State) (x : Nat) : Bool :=
  match placeAt x with
  | .winData .qsCls d => decide ((s.execPtr .qsCls d).2 = 1) && decide (s.get (.qs .clsOp) d 0 < 2) &&
      decide (t.get (.qs .clsResult) d 0 ≠ 0)
  | _ => false

/-- The words of a register that an access to CHN_PORT_CFG hits (R18). -/
def hitsPortCfg (x : Nat) : Bool :=
  match placeAt x with
  | .reg r _ _ => r.flds.any (fun f => decide (f.cell = .chn .tandemBw))
  | _ => false

-- Procedures (R51).

/-- The phase that a procedure belongs to, and whether a ticket may call it (R51). -/
def procPhase (id : Nat) : Nat := if id ≤ 3 then 3 else if id ≤ 6 then 4 else if id ≤ 9 then 5 else if id = 10 then 6 else 7
def procFromTicket (id : Nat) : Bool := decide (id = 5) || decide (id = 7) || decide (id = 9) || decide (id = 10)

/-- The carriers that the arguments of a procedure name. -/
def procDies (id : Nat) (args : List Nat) : List Nat :=
  match id with
  | 8 => maskBits 8 (args.headD 0)
  | 4 | 9 => [args.headD 0]
  | 11 => []
  | _ => [args.headD 0 % 8]

/-- A procedure names a carrier that is not populated (R2). -/
def State.procAbsent (s : State) (id : Nat) (args : List Nat) : Bool := (procDies id args).any (fun d => !s.present d)

/-- ECC_SELFTEST and APPLY_REPAIR come after that die's PANNIER_INIT (R279). -/
def State.procEarly (s : State) (id : Nat) (args : List Nat) : Bool :=
  (decide (id = 2) || decide (id = 3)) && (procDies id args).any (fun d => decide (s.get (.pan .state) d 0 = panReset))

/-- A procedure is called: its arguments are held, words that are left out being 0. -/
def State.procCall (s : State) (id : Nat) (args : List Nat) : State :=
  (s.each (List.range 16) fun s k => s.set (.boot .procArgW) 0 (16 * id + k) (args.getD k 0)).set (.boot .procCalled) 0 id 1

-- What a record reads.

/-- A read of a record by the executor, with its read effects (R48). -/
def State.recRead (s : State) (x : Nat) : Nat × State := s.read .exec x

/-- The read of a POLL_UNTIL matches. -/
def State.pollMatches (s : State) (x mask value : Nat) : Bool := decide ((s.recRead x).1 &&& mask = value)

end Sys2Proof.Machine
end

