-- ==== Sys2Proof/Machine/Startup.lean ====
section
/-!
DEFINITION. Start-up (R37 to R58): the boot loader, flash discovery, the choice and check of an image, the phases and their
records, OPEN_TRAFFIC, and what a failure does.
-/
namespace Sys2Proof.Machine

-- BOOT_STATUS.ERR_CODE.
def errSelftest : Nat := 1
def errNoImage : Nat := 2
def errRollback : Nat := 3
def errSignature : Nat := 4
def errHash : Nat := 5
def errFormat : Nat := 6
def errOrder : Nat := 7
def errAccess : Nat := 8
def errAbsent : Nat := 9
def errRule : Nat := 10
def errPollTimeout : Nat := 11
def errPhaseTimeout : Nat := 12
def errProc : Nat := 13
def errDieTimeout : Nat := 14
def errNoOwner : Nat := 15
def errFlash : Nat := 16

/-- BOOT_ERR_DETAIL.DETAIL where there is none. -/
def noDetail : Nat := 0xFFFFFF

/-- The image error of a refused access (R49, R499); a boot-only field is none in the image. -/
def WErr.code : WErr → Nat
  | .absent => errAbsent
  | .access | .bootOnly => errAccess
  | .order => errOrder
  | .rule => errRule
  | .busy => 0

-- Failure (R58).

/-- Every transmitter mutes for the system cause, every laser unit is disabled and every host lane idles (R58). -/
def State.goDark (s : State) : State :=
  let s1 := s.each s.dies fun s d => (s.set (.lt .sysCause) d 0 (putBit (s.get (.lt .sysCause) d 0) 0 true)).muteRefresh d
  let s2 := s1.each s1.dies fun s d => s.lasDisable d
  s2.each s2.dies fun s d =>
    let s1 := s.each (List.range 16) fun s l => s.laneIdle d l false
    s1.each (List.range 16) fun s p => s.portRefresh d p

/-- The running phase stops and its length stands in BOOT_PHASE_MS. -/
def State.phaseStop (s : State) : State :=
  let p := s.get (.boot .phase) 0 0
  (s.set (.boot .phaseMs) 0 p (s.phaseMs p)).set (.boot .phaseRun) 0 0 0

/-- The failed-attempt count of the running slot goes up (R46). -/
def State.triesUp (s : State) : State :=
  let c : Cell := .ao (if s.get (.boot .slot) 0 0 = 2 then .triesB else .triesA)
  s.set c 0 0 (min 3 (s.get c 0 0 + 1))

/-- The error is latched (R58 step 4). -/
def State.latchError (s : State) (code detail die addr : Nat) : State :=
  (((s.set (.boot .errCode) 0 0 code).set (.boot .detail) 0 0 detail).set (.boot .errDie) 0 0 die).set (.boot .errAddr) 0 0 addr

/-- Start-up fails (R58): a failure in the phases leads to RESTART_WAIT, any other to FAILED, where the counter of the
journal's last entry counts (R64). -/
def State.startFail (s : State) (code detail die addr : Nat) : State :=
  let inPhases := decide (s.bootState = bootPhases)
  let s1 := (s.latchError code detail die addr).when (s.flag (.boot .phaseRun) 0 0) State.phaseStop
  let s2 := { (s1.each (List.range 12) fun s k => s.set (.boot .procCalled) 0 k 0) with run := none }
  let s3 := s2.goDark
  if inPhases then (s3.triesUp.raise .bootRestarted 0 0).set (.boot .state) 0 0 bootRestartWait
  else (s3.set (.boot .state) 0 0 bootFailed).set (.tkt .ctrLast) 0 0 (s3.get (.tkt .ceiling) 0 0)

/-- A failure of the record that runs (R48, R499). -/
def State.recordFail (s : State) (code die addr : Nat) : State := s.startFail code (s.get (.boot .recIndex) 0 0) die addr

-- Steps 2 and 3 of R56.

/-- LEAD_DIE_RELEASE (R54, R56, R68): the boot loader reads the fuses and runs its self-tests; while FLASH_RELEASED is 1 it
waits. -/
def execLeadDieRelease (katOk entropyOk busMaster msi : Bool) (s : State) : Result :=
  finishIf (decide (s.get (.boot .step) 0 0 = 2) && !s.released 0 && s.flag (.sys .sysRstN) 0 0 && s.flag (.sys .railsGood) 0 0 &&
      !s.poweredOff) s fun s =>
    let s1 := ((((((((s.set (.sys .dieReleased) 0 0 1).set (.boot .state) 0 0 bootRom).setB (.boot .katPass) 0 0 katOk).setB
      (.boot .entropyPass) 0 0 entropyOk).set (.boot .fuseSvn) 0 0 (s.get (.sys .fuseSvn) 0 0)).setB (.sbg .lifecycle) 0 0
      (s.flag (.sys .fuseOwned) 0 0)).setB (.sbg .rngOk) 0 0 entropyOk).set (.sbg .keysReady) 0 0 1).linkTrain busMaster msi
    let s2 := (s1.set (.live .clkAFreewheel) 0 0 1).set (.live .clkBFreewheel) 0 0 1
    if katOk && entropyOk then
      let s3 := s2.set (.boot .step) 0 0 3
      if s3.flag (.ao .flashReleased) 0 0 then (s3.set (.boot .state) 0 0 bootFlash).raise .bootFlashHeld 0 0 else s3
    else s2.startFail errSelftest noDetail 0 0

/-- Start-up is at step 3 and may read flash. -/
def State.readsFlash (s : State) : Bool :=
  decide (s.get (.boot .step) 0 0 = 3) && s.released 0 && !s.flag (.ao .flashReleased) 0 0 && decide (s.bootState < bootPhases)

/-- FLASH_DISCOVERY (R38). -/
def execFlashDiscovery (info : FlashInfo) (s : State) : Result :=
  finishIf (s.readsFlash && decide (s.get (.boot .flashMode) 0 0 = 0)) s fun s =>
    let s1 := (s.set (.boot .state) 0 0 bootFlash).set (.boot .flashMode) 0 0 (if info.octal then 1 else 2)
    let s2 := s1.cond .bootSlowFlash 0 0 (!info.octal)
    if info.erase4k then s2 else s2.startFail errFlash noDetail 0 0

/-- IMAGE_SEGMENT_READ (R43): one reread on a CRC-32 mismatch; VERIFY shows once every segment of a slot has been read
(DEDUCED, log 42). -/
def execImageSegmentRead (slot seg : Nat) (firstOk secondOk : Bool) (s : State) : Result :=
  finishIf (s.readsFlash && decide (s.get (.boot .flashMode) 0 0 ≠ 0)) s fun s =>
    let b := 4 * (slot - 1) + (seg - 1)
    let s1 := s.set (.boot .segRead) 0 0 (putBit (s.get (.boot .segRead) 0 0) b true)
    let s2 := (s1.set (.boot .segCrcBad) 0 0 (putBit (s1.get (.boot .segCrcBad) 0 0) b (!firstOk && !secondOk))).incIf (!firstOk)
      (.boot .nFlashReread) 0 0
    s2.when (decide (bits (s2.get (.boot .segRead) 0 0) (4 * (slot - 1)) 4 = 15)) fun s => s.set (.boot .state) 0 0 bootVerify

/-- A slot is a candidate (R45 step 2). -/
def State.candidate (s : State) (i : SlotImage) (slot : Nat) : Bool :=
  i.magicOk && decide (s.get (.sys .fuseSvn) 0 0 ≤ i.svn) &&
    decide (s.get (.ao (if slot = 2 then .triesB else .triesA)) 0 0 < 3)

/-- The error of a candidate; none: it verifies (R40 to R43, R318). -/
def State.imageFault (s : State) (i : SlotImage) : Option Nat :=
  if !i.formatOk then some errFormat
  else if !i.keyIdOk then some errSignature
  else if !s.flag (.sys .fuseOwned) 0 0 && !i.enrolment then some errNoOwner
  else if !i.signatureOk then some errSignature
  else if !i.hashOk then some errHash
  else none

/-- The error when no slot is a candidate (R45). -/
def State.noCandidate (s : State) (a b : SlotImage) : Nat :=
  let l := [a, b].filter (fun i => i.magicOk)
  if l ≠ [] ∧ l.all (fun i => decide (i.svn < s.get (.sys .fuseSvn) 0 0)) &&
      !(a.magicOk && decide (3 ≤ s.get (.ao .triesA) 0 0)) && !(b.magicOk && decide (3 ≤ s.get (.ao .triesB) 0 0)) then errRollback
  else errNoImage

/-- A background erase of the sector used next starts, or waits for the released bus (R66). -/
def State.journalErase (s : State) : State :=
  (s.set (.tkt .jBlank) 0 0 0).set (.tkt (if s.flag (.ao .flashReleased) 0 0 then .jEraseWait else .jErasing)) 0 0 1

/-- An image is accepted (R40, R44, R65, R69, R318, R320): what its header and segments give the part; phases follow. -/
def State.imageAccept (s : State) (i : SlotImage) (slot : Nat) : State :=
  let s1 := (((((s.set (.boot .slot) 0 0 slot).set (.boot .imageVersion) 0 0 i.version).set (.boot .imageSvn) 0 0 i.svn).set
    (.boot .nodeHdr) 0 0 i.node).set (.sys .fuseOwned) 0 0 1).set (.sbg .lifecycle) 0 0 1
  let s2 := (s1.set (.tkt .keys) 0 0 (min 8 i.keyMasks.length)).each (List.range 8) fun s k =>
    s.set (.tkt .keyMask) 0 (k + 1) (i.keyMasks.getD k 0)
  let s3 := { s2 with imgPolicy := i.policy.take 256, trust := i.trust }
  let s4 := (s3.set (.tkt .ctrLast) 0 0 (max i.ticketFloor (s3.get (.tkt .ceiling) 0 0))).cond .bootCrcMismatch 0 0
    (decide (bits (s3.get (.boot .segCrcBad) 0 0) (4 * (slot - 1)) 4 ≠ 0))
  let s5 := (s4.cond .bootJournalInvalid 0 0 (decide (s4.get (.tkt .jSeq) 0 0 = 0))).when (!s4.flag (.tkt .jBlank) 0 0)
    State.journalErase
  (s5.set (.boot .step) 0 0 4).set (.boot .state) 0 0 bootPhases

/-- The choice of R45: the candidates in the order tried, each with its slot. -/
def State.imageOrder (s : State) (a b : SlotImage) : List (SlotImage × Nat) :=
  let l := if a.version < b.version then [(b, 2), (a, 1)] else [(a, 1), (b, 2)]
  l.filter (fun x => s.candidate x.1 x.2)

/-- Try the candidates; `first` while none has failed yet. -/
def State.tryImages (s : State) (first : Bool) : List (SlotImage × Nat) → State
  | [] => s
  | (i, slot) :: r =>
    let s1 := s.when (!first) fun s => s.raise .bootFallback 0 0
    match s1.imageFault i with
    | none => s1.imageAccept i slot
    | some e => if r = [] then (s1.set (.boot .slot) 0 0 slot).startFail e noDetail 0 0 else State.tryImages s1 false r

/-- IMAGE_VERIFY (R41 to R45). -/
def execImageVerify (a b : SlotImage) (s : State) : Result :=
  finishIf (s.readsFlash && decide (s.get (.boot .flashMode) 0 0 ≠ 0)) s fun s =>
    let s1 := s.set (.boot .state) 0 0 bootVerify
    match s1.imageOrder a b with
    | [] => (s1.set (.boot .slot) 0 0 0).startFail (s1.noCandidate a b) noDetail 0 0
    | l => s1.tryImages true l

-- Phases (R47, R50).

/-- The banks that the phase wrote and that fail R75: carrier and bank. -/
def State.badBanks (s : State) : List (Nat × Nat) :=
  s.dies.flatMap (fun d => ((maskBits 4 (s.get (.boot .wroteBank) d 0)).filter (fun b =>
    !(if b < 2 then s.txBank d b else s.rxBank d (b - 2)).ok)).map (fun b => (d, b)))

/-- The address of the first word of a bank. -/
def bankAddr (d b : Nat) : Nat := 0x10300000 + 0x1000000 * d + 0x80000 * (b / 2) + 0x40 * (b % 2)

/-- A failed bank gets its earlier content back (R75). -/
def State.bankBack (s : State) (x : Nat × Nat) : State :=
  s.each [0, 1] fun s k =>
    match placeAt (bankAddr x.1 x.2 + 4 * k) with
    | .reg r d i => s.writeFlds r d i fullMask (s.get (.boot .oldBank) x.1 (2 * x.2 + k))
    | _ => s

/-- The checks at the end of a phase (R18, R75); on failure the error has been latched. -/
def State.phaseChecks (s : State) : Option State :=
  if s.flag (.boot .wrotePortCfg) 0 0 && !s.chainBudgetOk then some (s.startFail errRule noDetail 0 0)
  else
    match s.badBanks with
    | [] => none
    | x :: r => some ((s.each (x :: r) State.bankBack).startFail errRule noDetail x.1 (bankAddr x.1 x.2))

/-- Every member die has reported ready (R50). -/
def State.membersReady (s : State) : Bool := s.dies.all (fun d => bit (s.get (.boot .memberReady) 0 0) d)

/-- A phase begins: its time and budget count, and its records are numbered from 0.  Phase 1 first releases the member dies;
with their links up the lead die agrees their wrap keys before phase 2 (R319, R50). -/
def State.phaseBegin (s : State) (p budget : Nat) : State :=
  let s1 := (((((s.set (.boot .phase) 0 0 p).set (.boot .phaseAt) 0 0 (s.get (.sys .time) 0 0)).set (.boot .phaseRun) 0 0 1).set
    (.boot .phaseBudget) 0 0 budget).set (.boot .recIndex) 0 0 0).set (.boot .wrotePortCfg) 0 0 0
  let s2 := s1.each (List.range 8) fun s d => s.set (.boot .wroteBank) d 0 0
  if p = 1 then (s2.set (.sys .dieReleased) 0 0 (s2.get (.sys .diePresent) 0 0)).set (.boot .memberReady) 0 0 1
  else if p = 2 then s2.each (s2.dies.filter (fun d => decide (d ≠ 0))) fun s d => s.wrapNonce d
  else s2

/-- The phase that ran last; none before the first. -/
def State.lastPhase (s : State) : Option Nat := if s.get (.boot .phase) 0 0 = 15 then none else some (s.get (.boot .phase) 0 0)

/-- PHASE_START (R18, R47, R50, R75): the running phase ends with its checks, and the next begins.  `hasBlock`: the image holds
a block for the phase; only phase 1 takes place without one. -/
def execPhaseStart (phase : Nat) (hasBlock : Bool) (budget memberRecords : Nat) (s : State) : Result :=
  finishIf (decide (s.bootState = bootPhases) && decide (s.run = none) && (hasBlock || decide (phase = 1)) &&
      (match s.lastPhase with
       | none => decide (phase ≤ 1)
       | some q => (decide (q ≠ 0) || decide (phase ≤ 1)) && (decide (q ≠ 1) || s.membersReady))) s fun s =>
    let s1 := s.when (s.flag (.boot .phaseRun) 0 0) State.phaseStop
    match (if s.flag (.boot .phaseRun) 0 0 then s1.phaseChecks else none) with
    | some t => t
    | none =>
      if (match s.lastPhase with | none => false | some q => decide (phase ≤ q)) ||
          (hasBlock && (decide (budget = 0) || decide (60000 < budget))) || (decide (phase = 1) && decide (4096 < memberRecords)) then
        s1.startFail errFormat noDetail 0 0
      else s1.phaseBegin phase (if hasBlock then budget else 0)

/-- The part waits in phase 1 for member die `d`. -/
def State.awaits (s : State) (d : Nat) : Bool :=
  decide (s.bootState = bootPhases) && s.flag (.boot .phaseRun) 0 0 && decide (s.get (.boot .phase) 0 0 = 1) && decide (d ≠ 0) &&
    s.present d && !bit (s.get (.boot .memberReady) 0 0) d

/-- MEMBER_DIE_READY (R50): a die whose self-test failed does not report ready. -/
def execMemberDieReady (d : Nat) (selftestOk : Bool) (s : State) : Result :=
  finishIf (s.awaits d && selftestOk) s fun s =>
    s.set (.boot .memberReady) 0 0 (putBit (s.get (.boot .memberReady) 0 0) d true)

/-- MEMBER_DIE_TIMEOUT (R50). -/
def execMemberDieTimeout (d : Nat) (s : State) : Result :=
  finishIf (s.awaits d) s fun s => s.startFail errDieTimeout noDetail d 0

/-- PHASE_TIMEOUT (R50, R52). -/
def execPhaseTimeout (s : State) : Result :=
  finishIf (decide (s.bootState = bootPhases) && s.flag (.boot .phaseRun) 0 0 && decide (s.get (.boot .phaseBudget) 0 0 ≠ 0)) s
    fun s => s.recordFail errPhaseTimeout 0 0

-- Records (R48 to R50).

/-- The next record of the image may run. -/
def State.recordTurn (s : State) : Bool :=
  decide (s.bootState = bootPhases) && s.flag (.boot .phaseRun) 0 0 && decide (s.get (.boot .phaseBudget) 0 0 ≠ 0) &&
    decide (s.run = none) && (decide (s.get (.boot .phase) 0 0 ≠ 1) || s.membersReady)

/-- A target is not yet available in the running phase (R50). -/
def State.tooEarly (s : State) (table : Bool) (x : Nat) : Bool :=
  onMember x && (decide (s.get (.boot .phase) 0 0 = 0) || (table && decide (s.get (.boot .phase) 0 0 < 3)))

/-- The error of an access of the image (R49, R50, R500). -/
def State.imageErr (s : State) (table : Bool) (x mask value : Nat) : Option WErr :=
  if s.addrAbsent x then some .absent
  else if s.tooEarly table x then some .order
  else
    match s.accessErr .image x mask value with
    | some e => some e
    | none => if s.ruleErr x mask value || s.commandRefused x mask value then some .rule else none

/-- Accesses of the image in order, up to the first error: the state, and the error with its address. -/
def State.imageWrites (s : State) (table : Bool) : List Access → State × Option (WErr × Nat)
  | [] => (s, none)
  | (x, m, v) :: r =>
    match s.imageErr table x m v with
    | some e => (s, some (e, x))
    | none =>
      let t := (s.applyWrite x m v).when (hitsPortCfg x && decide (m ≠ 0)) fun s => s.set (.boot .wrotePortCfg) 0 0 1
      if s.clsRefused t x then (t, some (.rule, x)) else State.imageWrites t table r

/-- A record is done. -/
def State.recordDone (s : State) : State := s.set (.boot .recIndex) 0 0 (s.get (.boot .recIndex) 0 0 + 1)

/-- A record of the image that writes (R48): FORMAT, then its accesses; a busy target makes it wait (R499). -/
def State.imageRecord (s : State) (r : Rec) (x : Nat) : State :=
  if !recFormatOk false r then s.recordFail errFormat 0 x
  else if s.addrAbsent x then s.recordFail errAbsent (accessDie x) x
  else if !tableFits r then s.recordFail errAccess (accessDie x) x
  else if (recWrites r).any (fun (a : Access) => s.accessBusy a.1 a.2.1 a.2.2) then s
  else
    let out := s.imageWrites (match r with | .table _ _ _ _ _ => true | _ => false) (recWrites r)
    match out.2 with
    | some (e, y) => out.1.recordFail e.code (accessDie y) y
    | none =>
      if s.relationsOk && !out.1.relationsOk then out.1.recordFail errRule (accessDie x) x
      else if out.1.get (.tkt .nodeId) 0 0 ≠ s.get (.tkt .nodeId) 0 0 ∧
          out.1.get (.tkt .nodeId) 0 0 ≠ out.1.get (.boot .nodeHdr) 0 0 then out.1.recordFail errFormat 0 x
      else out.1.recordDone

/-- RECORD_WRITE (R48, R49). -/
def execRecordWrite (addr mask value : Nat) (s : State) : Result :=
  finishIf s.recordTurn s fun s => s.imageRecord (.write addr mask value) addr

/-- RECORD_FILL (R48, R49). -/
def execRecordFill (addr mask value count stride : Nat) (s : State) : Result :=
  finishIf s.recordTurn s fun s => s.imageRecord (.fill addr mask value count stride) addr

/-- RECORD_TABLE (R48, R50): entries of `words` words each. -/
def execRecordTable (window first words : Nat) (data : List Nat) (s : State) : Result :=
  finishIf s.recordTurn s fun s => s.imageRecord (.table window first words (data.length / words) data) window

/-- A record waits for an event. -/
def State.recordWait (s : State) (w : Wait) : State := { s with run := some ⟨false, [], s.get (.boot .recIndex) 0 0, w, 0, []⟩ }

/-- RECORD_WAIT_US (R48). -/
def execRecordWaitUs (us : Nat) (s : State) : Result :=
  finishIf s.recordTurn s fun s =>
    if !recFormatOk false (.waitUs us) then s.recordFail errFormat 0 0
    else s.recordWait .us

/-- RECORD_POLL_UNTIL (R48, R50): the first read takes place at once. -/
def execRecordPollUntil (addr mask value timeoutUs : Nat) (s : State) : Result :=
  finishIf s.recordTurn s fun s =>
    if !recFormatOk false (.pollUntil addr mask value timeoutUs) then s.recordFail errFormat 0 addr
    else if s.addrAbsent addr then s.recordFail errAbsent (accessDie addr) addr
    else if s.tooEarly false addr then s.recordFail errOrder (accessDie addr) addr
    else (s.recRead addr).2.recordWait (.poll addr mask value)

/-- RECORD_PROC (R51): FORMAT, ORDER or ABSENT, or the procedure starts and the record waits for its return. -/
def execRecordProc (id : Nat) (args : List Nat) (s : State) : Result :=
  finishIf s.recordTurn s fun s =>
    if !recFormatOk false (.proc id args) then s.recordFail errFormat 0 0
    else if procPhase id ≠ s.get (.boot .phase) 0 0 then s.recordFail errOrder 0 0
    else if s.procAbsent id args then s.recordFail errAbsent (args.headD 0 % 8) 0
    else if s.procEarly id args then s.recordFail errOrder (args.headD 0 % 8) 0
    else (((s.procCall id args).set (.boot .procId) 0 0 id).set (.boot .procDone) 0 0 0).recordWait .proc

/-- PROC_RETURN (R52, R55): the procedure that the image called has ended; a failed ECC_SELFTEST is error SELFTEST. -/
def execProcReturn (s : State) : Result :=
  finishIf (decide (s.bootState = bootPhases) && decide (s.get (.boot .procId) 0 0 ≠ 0) &&
      decide (s.get (.boot .procDone) 0 0 ≠ 0)) s fun s =>
    let id := s.get (.boot .procId) 0 0
    let s1 := { (s.set (.boot .procId) 0 0 0).set (.boot .procDone) 0 0 0 with run := none }
    if s.get (.boot .procDone) 0 0 = 1 then s1.recordDone
    else if id = 2 then s1.recordFail errSelftest (s.procArg 2 0 % 8) 0
    else s1.startFail errProc (s.get (.boot .procCode) 0 0) (s.procArg id 0 % 8) 0

/-- OPEN_TRAFFIC (R53): the checks of the end of phase 7, and its steps 1 to 5. -/
def State.openTraffic (s : State) : State :=
  let s1 := s.phaseStop
  match s1.phaseChecks with
  | some t => t
  | none =>
    if s1.get (.tkt .nodeId) 0 0 ≠ s1.get (.boot .nodeHdr) 0 0 then s1.startFail errFormat noDetail 0 0
    else if s1.rules.all id && s1.imageRulesOk then
      let s2 := { (s1.set (.boot .frozen) 0 0 1).set (.boot .policyIn) 0 0 1 with policy := s1.imgPolicy, run := none }
      let s3 := ((((s2.set (.ao .triesA) 0 0 0).set (.ao .triesB) 0 0 0).set (.boot .state) 0 0 bootRun).set (.boot .step) 0 0 5).set
        (.boot .traffic) 0 0 1
      ((s3.set (.ao .tamperDown) 0 0 0).set (.tkt .ringHead) 0 0 0).set (.boot .procId) 0 0 0
    else s1.startFail errRule noDetail 0 (s1.qsOffence.getD 0)

/-- OPEN_TRAFFIC (R53). -/
def execOpenTraffic (s : State) : Result :=
  finishIf (decide (s.bootState = bootPhases) && s.called 11) s fun s => (s.set (.boot .procCalled) 0 11 0).openTraffic

/-- RESTART_WAIT_EXPIRY (R58): start-up begins again at step 2. -/
def execRestartWaitExpiry (s : State) : Result :=
  finishIf (decide (s.bootState = bootRestartWait)) s fun s => s.restart.raise .bootRestarted 0 0

end Sys2Proof.Machine
end

