-- ==== Sys2Proof/Machine/TicketForm.lean ====
section
/-!
DEFINITION. The form of a ticket (R48, R59, R63 check 3, R67): its header, argument words and delta records.
-/
namespace Sys2Proof.Machine

-- Commands (R67).
def cmdShift : Nat := 1
def cmdProtection : Nat := 2
def cmdContainer : Nat := 3
def cmdShaper : Nat := 4
def cmdRekey : Nat := 5
def cmdKickstandEnter : Nat := 6
def cmdKickstandLeave : Nat := 7
def cmdClearSec : Nat := 8
def cmdBlowRepair : Nat := 9
def cmdApplyDelta : Nat := 10
def cmdRestart : Nat := 11
def cmdFlashRelease : Nat := 12
def cmdFlashReclaim : Nat := 13
def cmdAdvanceSvn : Nat := 14

/-- A ticket as the part holds it: its length as submitted, its words up to the signatures, the last byte, the verdict. -/
structure TktIn where
  len : Nat
  words : List Nat
  tailZero : Bool
  sigOk : Bool
  deriving DecidableEq, Repr

/-- Both signatures and the final zero byte take 4,724 bytes (R59). -/
def sigBytes : Nat := 4724

/-- The words before the signatures. -/
def bodyWords (len : Nat) : Nat := (len - sigBytes) / 4

/-- A length that R61 allows. -/
def ticketLenOk (len : Nat) : Bool := decide (len % 4 = 0) && decide (4756 ≤ len) && decide (len ≤ 65536)

/-- Word `k`, and the fields of the header (R59). -/
def TktIn.word (t : TktIn) (k : Nat) : Nat := t.words.getD k 0
def TktIn.magic (t : TktIn) : Nat := t.word 0
def TktIn.length (t : TktIn) : Nat := t.word 1
def TktIn.node (t : TktIn) : Nat := bits (t.word 2) 0 16
def TktIn.command (t : TktIn) : Nat := bits (t.word 2) 16 16
def TktIn.keyIndex (t : TktIn) : Nat := bits (t.word 3) 0 8
def TktIn.argLen (t : TktIn) : Nat := bits (t.word 3) 16 16
def TktIn.counter (t : TktIn) : Nat := t.word 4 + t.word 5 * 2 ^ 32
def TktIn.recordCount (t : TktIn) : Nat := t.word 6

/-- The argument words. -/
def TktIn.args (t : TktIn) : List Nat := (List.range (t.argLen / 4)).map (fun k => t.word (8 + k))

/-- The words of the records: what stands between the arguments and the signatures. -/
def TktIn.recWords (t : TktIn) : List Nat :=
  let a := 8 + t.argLen / 4
  (List.range (bodyWords t.length - a)).map (fun k => t.word (a + k))

/-- A record from its TYPE and the words that follow its first (R48).  The four words WINDOW, FIRST, WORDS and COUNT come
before the data of a TABLE (DEDUCED, log 41: R48 gives its LENGTH as 3 + COUNT × WORDS and lists one word more). -/
def parseRec (type : Nat) (b : List Nat) : Rec :=
  let w (k : Nat) : Nat := b.getD k 0
  match type with
  | 1 => if b.length = 3 then .write (w 0) (w 1) (w 2) else .bad
  | 2 => if b.length = 5 then .fill (w 0) (w 1) (w 2) (w 3) (w 4) else .bad
  | 3 => if 4 ≤ b.length then .table (w 0) (w 1) (w 2) (w 3) (b.drop 4) else .bad
  | 4 => if b.length = 1 then .waitUs (w 0) else .bad
  | 5 => if b.length = 4 then .pollUntil (w 0) (w 1) (w 2) (w 3) else .bad
  | 6 => if 1 ≤ b.length ∧ b.length ≤ 16 then .proc (w 0) (b.drop 1) else .bad
  | _ => .bad

/-- `n` records that take up a list of words; none if they do not take up exactly all of it. -/
def parseRecs : Nat → List Nat → Option (List Rec)
  | 0, [] => some []
  | 0, _ :: _ => none
  | _ + 1, [] => none
  | n + 1, h :: r =>
    let len := bits h 0 16
    if r.length < len then none
    else
      (parseRecs n (r.drop len)).map (fun l =>
        (if bits h 16 8 = 0 then parseRec (bits h 24 8) (r.take len) else .bad) :: l)

/-- The delta records; none if the ticket's length does not hold them. -/
def TktIn.records (t : TktIn) : Option (List Rec) := parseRecs t.recordCount t.recWords

/-- The argument words of a command (R67); none: no such command. -/
def cmdArgs (cmd : Nat) : Option Nat := [2, 2, 1, 1, 1, 3, 1, 2, 2, 0, 0, 0, 0, 0][cmd - 1]? |>.filter (fun _ => cmd ≠ 0)

/-- A command that takes delta records. -/
def cmdTakesRecords (cmd : Nat) : Bool :=
  decide (cmd = cmdShift) || decide (cmd = cmdContainer) || decide (cmd = cmdShaper) || decide (cmd = cmdApplyDelta)

/-- The bits of the argument words that the owning chapters define (R176, R185, R267, R269, R300, R330, R344, R431, R434). -/
def argBits (cmd : Nat) (args : List Nat) : List Nat :=
  match cmd with
  | 1 => [0x00FF03FF, if bits (args.headD 0) 8 2 = 1 then 0xFFF else 0]
  | 2 => [0x80000FFF, 0xF]
  | 3 => [0x07070FFF]
  | 4 => [0xFFF]
  | 5 => [0xC0000FFF]
  | 6 => [0x800000FF, 0xF, fullMask]
  | 7 => [0xFF]
  | 8 => [fullMask, fullMask]
  | 9 => [0x107, if bit (args.headD 0) 8 then 0x7F1F else 0x1FFFFFF]
  | _ => []

/-- Argument values that their chapters call FORMAT: ROLE 2 and 3, a PROTECTION command above 4, OP 0 and 7 (R176, R185, R267);
SHIFT_ID outside 1 to 127 likewise (DEDUCED, log 43). -/
def argValuesOk (cmd : Nat) (args : List Nat) : Bool :=
  let a := args.headD 0
  match cmd with
  | 1 => decide (bits a 8 2 < 2) && decide (1 ≤ bits a 0 8) && decide (bits a 0 8 ≤ 127)
  | 2 => decide (args.getD 1 0 ≤ 4)
  | 3 => decide (bits a 16 3 ≠ 0) && decide (bits a 16 3 ≠ 7)
  | _ => true

/-- The arguments of a command: their number, undefined bits and values (R67). -/
def argsOk (cmd : Nat) (args : List Nat) : Bool :=
  decide (cmdArgs cmd = some args.length) && argValuesOk cmd args &&
    (List.range args.length).all (fun k => decide (args.getD k 0 &&& (fullMask ^^^ (argBits cmd args).getD k 0) = 0))

/-- The header: MAGIC, LENGTH, reserved fields, KEY_INDEX (R59, R63 check 3). -/
def TktIn.headOk (t : TktIn) : Bool :=
  ticketLenOk t.len && decide (t.magic = 0x54494B33) && decide (t.length = t.len) && decide (t.node < 4096) &&
    decide (bits (t.word 3) 8 8 = 0) && decide (t.word 7 = 0) && decide (t.keyIndex ≤ 8) && t.tailZero

/-- Check 3 of R63: the records of a ticket whose form is right. -/
def TktIn.form (t : TktIn) : Option (List Rec) :=
  if t.headOk && decide (t.argLen % 4 = 0) && argsOk t.command t.args && decide (t.recordCount ≤ 4096) &&
      (cmdTakesRecords t.command || decide (t.recordCount = 0)) then
    t.records.filter (fun l => l.all (recFormatOk true))
  else none

end Sys2Proof.Machine
end

