-- ==== Sys2Proof/Machine/TicketCheck.lean ====
section
/-!
DEFINITION. Checks 8 to 12 of a ticket (R62, R63, R499): every record is tried in order on a copy of the state, and each
fault found is noted with the number of its check; the first check that fails decides.
-/
namespace Sys2Proof.Machine

/-- A fault: the number of the check of R63, the status, and the record (0xFFFF: none). -/
structure TktFault where
  check : Nat
  code : Nat
  record : Nat
  deriving DecidableEq, Repr

-- Status codes of R63.
def stAccepted : Nat := 0x00
def stNotReady : Nat := 0x01
def stFormat : Nat := 0x02
def stNode : Nat := 0x03
def stSignature : Nat := 0x04
def stStale : Nat := 0x05
def stNotPermitted : Nat := 0x06
def stBootOnly : Nat := 0x07
def stAbsent : Nat := 0x08
def stRule : Nat := 0x09
def stRetry : Nat := 0x0A
def stTimeout : Nat := 0x0B
def stFetch : Nat := 0x0C
def stJournal : Nat := 0x0D
def stAccess : Nat := 0x0E

/-- LAST_RECORD where no record failed. -/
def noRecord : Nat := 0xFFFF

/-- The trial of a ticket's records: the state that they would leave, the faults, and every access with the place it hits and
the entry pointer of the executor at that place. -/
structure Probe where
  st : State
  faults : List TktFault
  hits : List (Place × Nat × Access)

/-- The check and status of a refused access (R499). -/
def WErr.fault (e : WErr) (r : Nat) : TktFault :=
  match e with
  | .absent => ⟨10, stAbsent, r⟩
  | .access => ⟨9, stAccess, r⟩
  | .bootOnly | .order => ⟨9, stBootOnly, r⟩
  | .rule => ⟨11, stRule, r⟩
  | .busy => ⟨12, stRetry, r⟩

/-- A fault if a condition holds. -/
def faultIf (b : Bool) (f : TktFault) : List TktFault := if b then [f] else []

/-- A bank of a carrier is active. -/
def State.bankActive (s : State) (d b : Nat) : Bool :=
  if b < 2 then decide (s.get (.lt .bank) d 0 = b) else decide (s.get (.lr .bank) d 0 + 2 = b)

/-- A ticket writes a mode bank: only DERAILLEUR_SHIFT may, and never the active bank (R74, R185). -/
def State.bankForbidden (s : State) (cmd x mask : Nat) : Bool :=
  match bankAt x with
  | some (d, b) => decide (mask ≠ 0) && (decide (cmd ≠ cmdShift) || s.bankActive d b)
  | none => false

/-- A ticket changes ENC_EN: only CONTAINER_EDIT OP 1 may (R328). -/
def State.encForbidden (s : State) (cmd op x mask value : Nat) : Bool :=
  match placeAt x with
  | .winData w d => s.encWrite w d (s.execPtr w d).1 (s.execPtr w d).2 mask value && !(decide (cmd = cmdContainer) && decide (op = 1))
  | _ => false

/-- During a shift, an access writes a bank, a CT_TSMAP entry or PEL_CFG of a unit (R202). -/
def State.shiftBusy (s : State) (x mask : Nat) : Bool :=
  s.derActive && decide (mask ≠ 0) &&
    match addrDie x with
    | some d => decide (s.unitRole d ≠ 0) && ((bankAt x).isSome ||
        match placeAt x with
        | .winData .ctTsmap _ => true
        | .reg r _ _ => r.flds.any (fun f => decide (f.cell = .pel .pelOn))
        | _ => false)
    | none => false

/-- A populated carrier is not AWAKE (R430). -/
def State.asleep (s : State) (d : Nat) : Bool := s.present d && !s.awake d

/-- The address lies on a carrier that is not AWAKE. -/
def State.addrAsleep (s : State) (x : Nat) : Bool :=
  match addrDie x with
  | some d => s.asleep d
  | none => false

/-- The entry pointer of the executor at a place. -/
def State.hitEntry (s : State) (p : Place) : Nat :=
  match p with
  | .winData w d => (s.execPtr w d).1
  | _ => 0

/-- Try one access of record `r` on the copy `p.st`; `s` is the state before the ticket. -/
def State.probeAccess (s : State) (cmd op r : Nat) (p : Probe) (a : Access) : Probe :=
  let x := a.1
  let m := a.2.1
  let v := a.2.2
  let t := p.st
  let hard :=
    (match t.accessErr .ticket x m v with
     | some e => [e.fault r]
     | none => []) ++
    faultIf (s.addrAbsent x) ⟨10, stAbsent, r⟩ ++
    faultIf (t.ruleErr x m v || t.commandRefused x m v || s.bankForbidden cmd x m || t.encForbidden cmd op x m v) ⟨11, stRule, r⟩
  let soft := faultIf (s.addrAsleep x || s.accessBusy x m v || s.shiftBusy x m) ⟨12, stRetry, r⟩
  let t' := if hard = [] ∧ ¬ s.addrAsleep x then t.applyWrite x m v else t
  { st := t'
    faults := p.faults ++ hard ++ soft ++ faultIf (decide (hard = []) && t.clsRefused t' x) ⟨11, stRule, r⟩
    hits := p.hits ++ [(placeAt x, t.hitEntry (placeAt x), a)] }

/-- The carriers that a procedure names are asleep, or it runs already (R62, R430). -/
def State.procBusy (s : State) (id : Nat) (args : List Nat) : Bool := s.called id || (procDies id args).any s.asleep

/-- Try one record. -/
def State.probeRecord (s : State) (cmd op : Nat) (p : Probe) (x : Rec × Nat) : Probe :=
  let r := x.2
  match x.1 with
  | .pollUntil a _ _ _ =>
    { p with faults := p.faults ++ faultIf (s.addrAbsent a) ⟨10, stAbsent, r⟩ ++ faultIf (s.addrAsleep a) ⟨12, stRetry, r⟩ }
  | .waitUs _ => p
  | .proc id args =>
    { p with faults := p.faults ++ faultIf (!procFromTicket id) ⟨9, stBootOnly, r⟩ ++
        faultIf (s.procAbsent id args) ⟨10, stAbsent, r⟩ ++ faultIf (decide (cmd ≠ cmdApplyDelta)) ⟨11, stRule, r⟩ ++
        faultIf (s.procBusy id args) ⟨12, stRetry, r⟩ }
  | rec =>
    if !tableFits rec then { p with faults := p.faults ++ [⟨9, stAccess, r⟩] }
    else (recWrites rec).foldl (s.probeAccess cmd op r) p

/-- Try every record. -/
def State.probe (s : State) (cmd op : Nat) (l : List Rec) : Probe := (l.zipIdx).foldl (s.probeRecord cmd op) ⟨s, [], []⟩

-- What a command may write (R185, R267, R269).

/-- The Tandem partner of a named carrier. -/
def State.partnerOfMask (s : State) (mask d : Nat) : Bool :=
  (maskBits 8 mask).any (fun e => s.flag (.tdm .pairEn) e 0 && decide (s.pairPartner e = d))

/-- A hit that DERAILLEUR_SHIFT allows (R185). -/
def State.shiftHit (s : State) (mask : Nat) (h : Place × Nat × Access) : Bool :=
  match bankAt h.2.2.1 with
  | some (d, _) => bit mask d
  | none =>
    match h.1 with
    | .winAddr .ctTsmap d | .winData .ctTsmap d => bit mask d || s.partnerOfMask mask d
    | _ => false

/-- A planned QS_Q entry names local container `i`. -/
def State.queueNames (s : State) (d q i : Nat) : Bool := decide (bits (s.winPlan .qsQ d q 0) 0 9 = i)

/-- A queue entry belongs to a container before or after the ticket. -/
def queueBelongs (s t : State) (d q i : Nat) : Bool := t.queueNames d q i || (s.qEn d q && s.queueNames d q i)

/-- A slot of the map names container `c`, or nothing. -/
def slotNames (w c : Nat) : Bool := decide (tsUse w = 0) || decide (tsCtn w = c)

/-- The windows that CONTAINER_EDIT may write. -/
def editWin (w : Win) : Bool :=
  match w with
  | .qsCls | .qsQ | .qsQpol | .qsCtn | .qsCpol | .qsShp | .ctTsmap | .ctCtn | .ctTti | .tdmCtn | .cryCtx => true
  | _ => false

/-- A hit that CONTAINER_EDIT allows for local container `i` of die `d` (R267). -/
def editHit (s t : State) (d i : Nat) (h : Place × Nat × Access) : Bool :=
  match h.1 with
  | .winAddr w e | .winCtrl w e => editWin w && (decide (e = d) || decide (w = .ctTsmap))
  | .winData w e =>
    let k := h.2.1
    match w with
    | .ctTsmap => slotNames (s.winPlan .ctTsmap e k 0) (512 * d + i) && slotNames (t.winPlan .ctTsmap e k 0) (512 * d + i)
    | .qsCls => decide (e = d) && (decide (bits h.2.2.2.1 0 11 = 0) || queueBelongs s t d (bits h.2.2.2.2 0 11) i)
    | .qsQ | .qsQpol => decide (e = d) && queueBelongs s t d k i
    | .ctTti => decide (e = d) && decide (k / 3 = i)
    | w => editWin w && decide (e = d) && decide (k = i)
  | _ => false

/-- A hit that SHAPER_CHANGE allows (R269). -/
def shaperHit (d i : Nat) (h : Place × Nat × Access) : Bool :=
  match h.1 with
  | .winAddr .qsShp e | .winCtrl .qsShp e => decide (e = d)
  | .winData .qsShp e => decide (e = d) && decide (h.2.1 = i)
  | _ => false

-- The owning chapters' checks of a command.

/-- Die and local index of a package-wide container. -/
def ctnDie (c : Nat) : Nat := c / 512
def ctnLocal (c : Nat) : Nat := c % 512

/-- The containers that PROTECTION names (R176). -/
def State.protCtns (s : State) (args : List Nat) : List Nat :=
  let c := bits (args.headD 0) 0 12
  if bit (args.headD 0) 31 then (List.range 512).filter (fun i => s.tandemEn (ctnDie c) i) else [ctnLocal c]

/-- The request that a PROTECTION command makes (R176). -/
def protReq (cmd : Nat) : Nat :=
  match cmd with
  | 1 => reqLo
  | 2 => reqFs
  | 3 => reqMsP
  | 4 => reqMsW
  | _ => 0

/-- The queue at a position of a container. -/
def State.queueAtPos (s : State) (d i pos : Nat) : Option Nat :=
  (s.queuesOf d).find? (fun q => s.qEn d q && decide (s.qCtn d q = i) && decide (s.qPos d q = pos))

/-- Some slot that the ticket writes belongs to a container that drains (R267 OP 1). -/
def State.slotsDrain (s : State) (hits : List (Place × Nat × Access)) : Bool :=
  hits.any (fun h => match h.1 with
    | .winData .ctTsmap e =>
      let w := s.winWordAt .ctTsmap e h.2.1 0
      decide (tsUse w ≠ 0) && s.flag (.qs .cDrain) (tsCtn w / 512) (tsCtn w % 512)
    | _ => false)

/-- A container of the package exists: it has a mode or slots. -/
def State.ctnExists (s : State) (d i : Nat) : Bool := decide (s.ctnMode d i ≠ 0) || decide (s.ctnK (512 * d + i) ≠ 0)

/-- The containers that REKEY_NOW rekeys (R330): of the span with SPAN, of the die with ALL, or the one named. -/
def State.rekeyList (s : State) (w : Nat) : List (Nat × Nat) :=
  let c := bits w 0 12
  let byDie := if bit w 31 then (s.encrypted).filter (fun x => decide (x.1 = ctnDie c)) else []
  let bySpan := if bit w 30 then (match s.spanOf c with | some k => s.spanCtns k | none => []) else []
  ((ctnDie c, ctnLocal c) :: byDie ++ bySpan).dedup

/-- Carriers in a shift, draining, or on their way into or out of Kickstand (R431). -/
def State.ksBusy (s : State) (d : Nat) : Bool :=
  (s.derActive && decide (s.unitRole d ≠ 0)) || (List.range 512).any (fun i => s.flag (.qs .cDrain) d i) ||
    decide (s.stage d ≠ ksAwake)

/-- A bond group that a mask names in part (R431). -/
def State.bondSplit (s : State) (mask : Nat) : Bool :=
  s.dies.any (fun d => s.flag (.ct .bondEn) d 0 && decide (mask &&& s.get (.ct .members) d 0 ≠ 0) &&
    decide (mask &&& s.get (.ct .members) d 0 ≠ s.get (.ct .members) d 0))

/-- The SEC bits of an alarm word, if there is one at an address (R344). -/
def secBits (x : Nat) : Option (List Alm) :=
  match placeAt x with
  | .sticky g _ _ =>
    let l := (g.bits.map Prod.snd).filter Alm.isSec
    if l = [] then none else some l
  | _ => none

/-- The faults of a command apart from its records. -/
def State.ownFaults (s : State) (cmd : Nat) (args : List Nat) (p : Probe) : List TktFault :=
  let a := args.headD 0
  let b := args.getD 1 0
  let c := bits a 0 12
  let d := ctnDie c
  let i := ctnLocal c
  let absent (x : Bool) := faultIf x ⟨10, stAbsent, noRecord⟩
  let rule (x : Bool) := faultIf x ⟨11, stRule, noRecord⟩
  let retry (x : Bool) := faultIf x ⟨12, stRetry, noRecord⟩
  match cmd with
  | 1 =>
    let m := bits a 16 8
    absent ((maskBits 8 m).any (fun d => !s.present d)) ++
      rule (decide (m = 0) || !p.hits.all (s.shiftHit m) || !p.st.shiftOk m ||
        rulesBroken s (p.st.derBegin 0 (bits a 0 8) m derArming 0)) ++
      retry (s.derActive || (maskBits 8 m).any s.asleep)
  | 2 =>
    let l := s.protCtns args
    absent (!s.present d) ++
      rule (l.any (fun i => !s.tandemEn d i || (decide (3 ≤ b) && decide (protReq b < s.get (.tdm .req) d i)))) ++ retry (s.asleep d)
  | 3 =>
    let op := bits a 16 3
    let pos := bits a 24 3
    let q := s.queueAtPos d i pos
    absent (!s.present d) ++
      rule (!p.hits.all (editHit s p.st d i) || (decide (op = 3) && !s.ctnExists d i) || (decide (op = 6) && q.isNone)) ++
      retry (s.asleep d || (s.derActive && decide (s.unitRole d ≠ 0)) || s.flag (.qs .cDrain) d i ||
        (decide (op = 1) && s.slotsDrain p.hits) ||
        (decide (4 ≤ op) && (match q with | some q => s.flag (.qs .qDrain) d q | none => false)))
  | 4 => absent (!s.present d) ++ rule (decide (s.ctnMode d i ≠ 1) || !p.hits.all (shaperHit d i)) ++ retry (s.asleep d)
  | 5 => absent (!s.present d) ++ rule (!s.encOn d i) ++ retry (s.asleep d || (s.rekeyList a).any (fun x => s.rekeying x.1 x.2))
  | 6 =>
    let m := bits a 0 8
    let delay := args.getD 2 0
    if bit a 31 then rule (decide (b % 8 = 0) || (bit b 1 && decide (delay = 0))) ++
      retry (s.dies.any (fun d => decide (s.stage d ≠ ksGated) && s.ksBusy d))
    else absent ((maskBits 8 m).any (fun d => !s.present d)) ++
      rule (decide (m = 0) || bit m 0 || s.bondSplit m || decide (b % 16 = 0) || (bit b 1 && decide (delay = 0))) ++
      retry ((maskBits 8 m).any s.ksBusy)
  | 8 =>
    match secBits a with
    | none => rule true
    | some l => rule (decide (b &&& (fullMask ^^^ packAlms l (fun _ => true)) ≠ 0))
  | 9 =>
    let d := bits a 0 3
    absent (!s.present d) ++
      rule (if bit a 8 then !s.colBlowOk d (bits b 0 5) (bits b 8 7) else !s.rowBlowOk d (bits b 0 5) (bits b 5 4) (bits b 9 16)) ++
      retry (s.asleep d)
  | _ => []

/-- Some GRID_N changes on a carrier that transmits, as the ticket leaves it (R95). -/
def gridBroken (s t : State) : Bool :=
  s.dies.any (fun d => decide (s.get (.las .gridN) d 0 ≠ t.get (.las .gridN) d 0) && t.flag (.lt .txEn) d 0 &&
    !t.flag (.lt .mute) d 0)

/-- The rules that a ticket's records break as a whole (R29, R63 check 11, R95). -/
def State.wholeFaults (s : State) (cmd : Nat) (p : Probe) : List TktFault :=
  faultIf (gridBroken s p.st || (decide (cmd ≠ cmdShift) && rulesBroken s p.st)) ⟨11, stRule, noRecord⟩

/-- The fault of the first check that fails. -/
def decidingFault (l : List TktFault) : Option TktFault :=
  l.foldl (fun acc f => match acc with
    | none => some f
    | some g => if f.check < g.check then some f else some g) none

/-- OP of a CONTAINER_EDIT. -/
def editOp (args : List Nat) : Nat := bits (args.headD 0) 16 3

/-- Checks 9 to 12. -/
def State.ticketFault (s : State) (cmd : Nat) (args : List Nat) (l : List Rec) : Option TktFault :=
  let p := s.probe cmd (editOp args) l
  decidingFault (p.faults ++ s.ownFaults cmd args p ++ s.wholeFaults cmd p)

end Sys2Proof.Machine
end

