-- ==== Sys2Proof/Machine/Tickets.lean ====
section
/-!
DEFINITION. Tickets (R59 to R68): submission, the checks in order, the journal, the execution of delta records, and what each
command does.
-/
namespace Sys2Proof.Machine

-- The journal (R65, R66).

/-- A ticket's counter needs an entry that the journal cannot take now: the bus is released, or the next entry needs a new
sector that is not blank yet. -/
def State.journalBlocked (s : State) (counter : Nat) : Bool :=
  decide (s.get (.tkt .ceiling) 0 0 < counter) &&
    (s.flag (.ao .flashReleased) 0 0 || (decide (s.get (.tkt .jPos) 0 0 % 64 = 0) && !s.flag (.tkt .jBlank) 0 0))

/-- A new ceiling is written where the counter exceeds the present one; the first entry of a sector starts the erase of the
next sector. -/
def State.journalWrite (s : State) (counter : Nat) : State :=
  if counter ≤ s.get (.tkt .ceiling) 0 0 then s
  else
    let p := s.get (.tkt .jPos) 0 0
    let s1 := (((s.set (.tkt .ceiling) 0 0 ((counter + 65536) % 2 ^ 64)).set (.tkt .jSeq) 0 0 (s.get (.tkt .jSeq) 0 0 + 1)).set
      (.tkt .jPos) 0 0 ((p + 1) % 1024)).inc (.tkt .nJournalWr) 0 0
    s1.when (decide (p % 64 = 0)) State.journalErase

/-- A background erase ends: the sector is blank. -/
def State.eraseEnd (s : State) : State :=
  ((s.set (.tkt .jErasing) 0 0 0).set (.tkt .jBlank) 0 0 1).inc (.tkt .nJournalErase) 0 0

/-- JOURNAL_ERASE_DONE (R66). -/
def execJournalEraseDone (s : State) : Result := finishIf (s.flag (.tkt .jErasing) 0 0) s State.eraseEnd

-- Completion (R60, R61, R63).

/-- The ticket at the front completes with a status; `counter`: the COUNTER that the part has read of it, or 0. -/
def State.ticketDone (s : State) (code record counter : Nat) : State :=
  let s1 := ((s.set (.tkt .lastCode) 0 0 code).set (.tkt .lastRecord) 0 0 record).inc
    (.tkt (if code = stAccepted then .nAccepted else .nRejected)) 0 0
  let s2 := { (s1.set (.tkt .fetched) 0 0 0).set (.tkt .hashFail) 0 0 0 with run := none, tickets := s1.tickets.tail }
  match s.tickets with
  | .mailbox :: _ => s2.set (.tkt .mboxBusy) 0 0 0
  | .ring _ :: _ =>
    (s2.set (.tkt .ringPost) 0 0 (counter % 2 ^ 16 * 2 ^ 16 + 2 ^ 15 + code)).set (.tkt .ringHead) 0 0
      ((s.get (.tkt .ringHead) 0 0 + 1) % 2 ^ 32)
  | [] => s2

-- Submission (R60, R61).

/-- The part takes a mailbox ticket into its queue: in RUN, or in FAILED under R64. -/
def State.takesTicket (s : State) : Bool :=
  s.inRun || (decide (s.bootState = bootFailed) && decide (s.get (.boot .errCode) 0 0 ≠ errSelftest))

/-- A write to the GO word. -/
def State.goWrite (s : State) (value : Nat) : State :=
  if s.flag (.tkt .mboxBusy) 0 0 then s.rejectWrite 0x20000
  else
    let s1 := s.set (.tkt .mboxLen) 0 0 value
    if s.takesTicket then { s1.set (.tkt .mboxBusy) 0 0 1 with tickets := s1.tickets ++ [.mailbox] }
    else
      ((s1.set (.tkt .lastCode) 0 0 stNotReady).set (.tkt .lastRecord) 0 0 noRecord).inc (.tkt .nRejected) 0 0

/-- TICKET_GO_WRITE (R57, R60, R63 check 1). -/
def execTicketGoWrite (value : Nat) (s : State) : Result := finishIf s.hostBus s fun s => s.goWrite value

/-- A tail value lies between the last one accepted and 2^TKT_RING_SIZE entries ahead of HEAD. -/
def State.tailOk (s : State) (value : Nat) : Bool :=
  let head := s.get (.tkt .ringHead) 0 0
  let ahead := (value + 2 ^ 32 - head) % 2 ^ 32
  decide (ahead ≤ 2 ^ s.get (.tkt .ringSize) 0 0) && decide ((s.get (.tkt .ringTail) 0 0 + 2 ^ 32 - head) % 2 ^ 32 ≤ ahead)

/-- A write to the ring tail. -/
def State.tailWrite (s : State) (value : Nat) : State :=
  let v := value % 2 ^ 32
  if s.get (.tkt .ringSize) 0 0 = 0 ∨ ¬ s.inRun ∨ ¬ s.tailOk v then s.inc (.tkt .nRingBad) 0 0
  else
    let t := s.get (.tkt .ringTail) 0 0
    { s.set (.tkt .ringTail) 0 0 v with
      tickets := s.tickets ++ (List.range ((v + 2 ^ 32 - t) % 2 ^ 32)).map (fun k => .ring ((t + k) % 2 ^ 32)) }

/-- TICKET_RING_TAIL_WRITE (R61). -/
def execTicketRingTailWrite (value : Nat) (s : State) : Result := finishIf s.hostBus s fun s => s.tailWrite value

/-- The front entry is a ring ticket that has not been fetched. -/
def State.fetchTurn (s : State) : Bool :=
  s.inRun && decide (s.run = none) && decide (s.get (.tkt .fetched) 0 0 ≠ 1) && !s.flag (.sys .restartPend) 0 0 &&
    match s.tickets with
    | .ring _ :: _ => true
    | _ => false

/-- The fetch of the front ring ticket ends (R61, R63 check 2, R310): a bad length completes it without a fetch; it fails where
channel 4, the link or Bus Master Enable is off. -/
def execTicketFetchDone (entryLen : Nat) (ok : Bool) (s : State) : Result :=
  finishIf s.fetchTurn s fun s =>
    if !ticketLenOk entryLen then s.ticketDone stFormat noRecord 0
    else if ok && s.flag (.crr .chEn) 0 4 && s.flag (.sys .pcieUp) 0 0 && s.flag (.sys .busMaster) 0 0 &&
        decide (s.get (.tkt .fetched) 0 0 = 0) then
      (s.set (.tkt .fetched) 0 0 1).set (.tkt .fetchLen) 0 0 entryLen
    else s.ticketDone stFetch noRecord 0

-- The ticket at the front.

/-- The ticket at the front as the part holds it: a mailbox ticket's words are those of the mailbox; a ring ticket must have
been fetched. -/
def State.front (s : State) (t : Tkt) : Option TktIn :=
  match s.tickets with
  | .mailbox :: _ =>
    let n := s.get (.tkt .mboxLen) 0 0
    some { len := n, words := (List.range (bodyWords (min n 65536))).map (fun k => mboxWord s.mbox (4 * k)),
           tailZero := decide (mboxGet s.mbox (n - 1) = 0), sigOk := t.sigOk }
  | .ring _ :: _ =>
    if s.get (.tkt .fetched) 0 0 = 1 then
      some { len := s.get (.tkt .fetchLen) 0 0, words := t.words, tailZero := t.tailZero, sigOk := t.sigOk }
    else none
  | [] => none

/-- A ticket may be processed now (R62). -/
def State.ticketTurn (s : State) : Bool :=
  (s.inRun || decide (s.bootState = bootFailed)) && decide (s.run = none) && !s.flag (.sys .restartPend) 0 0

-- What the commands do.

/-- PROTECTION (R176). -/
def State.actProtection (s : State) (args : List Nat) : State :=
  s.each (s.protCtns args) fun s i => s.protect (ctnDie (bits (args.headD 0) 0 12)) i (protReq (args.getD 1 0))

/-- DERAILLEUR_SHIFT (R185, R190): an initiator proposes to the partner that Bell discovery found on its lowest carrier. -/
def State.actShift (s : State) (args : List Nat) : State :=
  let a := args.headD 0
  let m := bits a 16 8
  if bits a 8 2 = 0 then s.derPropose (bits a 0 8) m (s.get (.bell .partner) ((maskBits 8 m).headD 0) 0)
  else s.derAwaitTicket (bits a 0 8) m (bits (args.getD 1 0) 0 12)

/-- CONTAINER_EDIT: what its records commit takes effect by itself; a deletion starts the drain (R267, R268). -/
def State.actEdit (s : State) (args : List Nat) : State :=
  let a := args.headD 0
  let d := ctnDie (bits a 0 12)
  let i := ctnLocal (bits a 0 12)
  if bits a 16 3 = 3 then s.ctnDrain d i
  else if bits a 16 3 = 6 then
    match s.queueAtPos d i (bits a 24 3) with
    | some q => s.queueDrain d q
    | none => s
  else s

/-- REKEY_NOW (R330): with SPAN the span's handshake first, and the span's containers rekey when it has succeeded. -/
def State.actRekey (s : State) (args : List Nat) : State :=
  let w := args.headD 0
  let c := bits w 0 12
  if bit w 30 then
    match s.spanOf c with
    | some k =>
      let s1 := s.when (bit w 31) fun s => s.each ((s.encrypted).filter (fun x => decide (x.1 = ctnDie c) &&
        !(s.spanCtns k).contains x)) fun s x => s.rekeyStart x.1 x.2
      (s1.set (.sbg .spRekey) 0 k 1).hsStart k
    | none => s
  else s.each (s.rekeyList w) fun s x => s.rekeyStart x.1 x.2

/-- KICKSTAND_ENTER (R431). -/
def State.actKickstand (s : State) (args : List Nat) : State :=
  let a := args.headD 0
  if bit a 31 then s.ksEnterPkg (bits (args.getD 1 0) 0 3) (args.getD 2 0)
  else s.ksEnter (bits a 0 8) (bits (args.getD 1 0) 0 4) (args.getD 2 0)

/-- CLEAR_SEC (R344). -/
def State.actClearSec (s : State) (args : List Nat) : State :=
  match placeAt (args.headD 0) with
  | .sticky g d i => s.clearSticky ((g.bits.map Prod.snd).filter Alm.isSec) d i (args.getD 1 0) 0
  | _ => s

/-- BLOW_REPAIR (R300). -/
def State.actBlow (s : State) (args : List Nat) : State :=
  let a := args.headD 0
  let b := args.getD 1 0
  if bit a 8 then s.blowFuse (bits a 0 3) (colFuse (bits b 0 5)) (bits b 8 7)
  else s.blowFuse (bits a 0 3) (rowFuse (bits b 0 5)) (bits b 5 4 * 2 ^ 20 + bits b 9 16)

/-- FLASH_RELEASE (R68): an erase in progress completes first. -/
def State.actRelease (s : State) : State :=
  (s.when (s.flag (.tkt .jErasing) 0 0) State.eraseEnd).set (.ao .flashReleased) 0 0 1

/-- FLASH_RECLAIM (R66, R68): an erase that waited for the bus starts. -/
def State.actReclaim (s : State) : State :=
  let s1 := s.set (.ao .flashReleased) 0 0 0
  s1.when (s1.flag (.tkt .jEraseWait) 0 0) fun s => (s.set (.tkt .jEraseWait) 0 0 0).set (.tkt .jErasing) 0 0 1

/-- ADVANCE_SVN (R44). -/
def State.actSvn (s : State) : State :=
  let v := max (s.get (.sys .fuseSvn) 0 0) (s.get (.boot .imageSvn) 0 0)
  (s.set (.sys .fuseSvn) 0 0 v).set (.boot .fuseSvn) 0 0 v

/-- The action of a command after its records. -/
def State.act (s : State) (cmd : Nat) (args : List Nat) : State :=
  match cmd with
  | 1 => s.actShift args
  | 2 => s.actProtection args
  | 3 => s.actEdit args
  | 5 => s.actRekey args
  | 6 => s.actKickstand args
  | 7 => s.ksLeave (bits (args.headD 0) 0 8)
  | 8 => s.actClearSec args
  | 9 => s.actBlow args
  | 11 => s.restartTicket
  | 12 => s.actRelease
  | 13 => s.actReclaim
  | 14 => s.actSvn
  | _ => s

-- Execution (R63 check 13).

/-- The records run in order from record `idx`; a wait leaves the rest for later; at the end the ticket is ACCEPTED and its
command acts. -/
def State.runRecords (s : State) (cmd : Nat) (args : List Nat) : Nat → List Rec → State
  | _, [] => (s.ticketDone stAccepted noRecord (s.get (.tkt .ctrLast) 0 0)).act cmd args
  | idx, r :: rest =>
    match r with
    | .waitUs _ => { s with run := some ⟨true, rest, idx, .us, cmd, args⟩ }
    | .pollUntil a m v _ => { (s.recRead a).2 with run := some ⟨true, rest, idx, .poll a m v, cmd, args⟩ }
    | .proc id l => State.runRecords (s.procCall id l) cmd args (idx + 1) rest
    | r => State.runRecords ((recWrites r).foldl (fun s (a : Access) => s.applyWrite a.1 a.2.1 a.2.2) s) cmd args (idx + 1) rest

/-- The wait of a record ends: the image goes on to its next record, a ticket with its rest. -/
def State.runOn (s : State) (r : Run) : State :=
  let s1 := { s with run := none }
  if r.byTicket then s1.runRecords r.command r.args (r.index + 1) r.rest else s1.recordDone

/-- A record's limit passes: POLL_TIMEOUT for the image, EXEC_TIMEOUT for a ticket. -/
def State.runLate (s : State) (r : Run) (addr : Nat) : State :=
  if r.byTicket then s.ticketDone stTimeout r.index (s.get (.tkt .ctrLast) 0 0)
  else s.recordFail errPollTimeout (accessDie addr) addr

/-- WAIT_US_EXPIRY (R48). -/
def execWaitUsExpiry (s : State) : Result :=
  match s.run with
  | some ⟨b, l, n, .us, c, a⟩ => finish s (s.runOn ⟨b, l, n, .us, c, a⟩)
  | _ => idle s

/-- POLL_UNTIL_MATCH (R48): the read that matches. -/
def execPollUntilMatch (s : State) : Result :=
  match s.run with
  | some ⟨b, l, n, .poll x m v, c, a⟩ =>
    finishIf (s.pollMatches x m v) s fun s => (s.recRead x).2.runOn ⟨b, l, n, .poll x m v, c, a⟩
  | _ => idle s

/-- POLL_UNTIL_TIMEOUT (R48, R499). -/
def execPollUntilTimeout (s : State) : Result :=
  match s.run with
  | some ⟨b, l, n, .poll x m v, c, a⟩ =>
    finishIf (!s.pollMatches x m v) s fun s => s.runLate ⟨b, l, n, .poll x m v, c, a⟩ x
  | _ => idle s

/-- TICKET_EXEC_TIMEOUT (R63): 2 s have passed; the records before the one that runs stay in effect. -/
def execTicketExecTimeout (s : State) : Result :=
  match s.run with
  | some ⟨true, l, n, w, c, a⟩ => finish s (s.runLate ⟨true, l, n, w, c, a⟩ 0)
  | _ => idle s

-- The checks in order.

/-- The key may use the command (R63 check 8, R69); the owner key may use every one. -/
def State.keyPermits (s : State) (key cmd : Nat) : Bool := decide (key = 0) || bit (s.get (.tkt .keyMask) 0 key) (cmd - 1)

/-- Checks 4 to 13 of a ticket whose form is right. -/
def State.checkTicket (s : State) (t : TktIn) (l : List Rec) : State :=
  let ctr := t.counter
  if t.node ≠ s.get (.tkt .nodeId) 0 0 then s.ticketDone stNode noRecord ctr
  else if s.flag (.tkt .hashFail) 0 0 then s.ticketDone stTimeout noRecord ctr
  else if !t.sigOk || decide (s.get (.tkt .keys) 0 0 < t.keyIndex) then s.ticketDone stSignature noRecord ctr
  else if ctr ≤ s.get (.tkt .ctrLast) 0 0 then s.ticketDone stStale noRecord ctr
  else if s.journalBlocked ctr then s.ticketDone stJournal noRecord ctr
  else
    let s1 := (s.journalWrite ctr).set (.tkt .ctrLast) 0 0 ctr
    if !s1.keyPermits t.keyIndex t.command then s1.ticketDone stNotPermitted noRecord ctr
    else
      match s1.ticketFault t.command t.args l with
      | some f => s1.ticketDone f.code f.record ctr
      | none => s1.runRecords t.command t.args 0 l

/-- A word of the ticket's bytes against a word of the identification registers, whose first byte is in bits 31 to 24. -/
def swapBytes (w : Nat) : Nat :=
  bits w 0 8 * 2 ^ 24 + bits w 8 8 * 2 ^ 16 + bits w 16 8 * 2 ^ 8 + bits w 24 8

/-- The form of a ticket in FAILED (R64 check 3). -/
def TktIn.failedForm (t : TktIn) : Bool :=
  t.headOk && decide (t.command = cmdRestart) && decide (t.keyIndex = 0) && decide (t.recordCount = 0) && decide (t.argLen = 2708) &&
    decide (t.len = 32 + 2708 + sigBytes)

/-- The checks of R64 on a ticket in FAILED; `ownerOk`: the hash of the keys that it carries equals the fused owner key
hash. -/
def State.failedTicket (s : State) (t : TktIn) (ownerOk : Bool) : State :=
  let ctr := t.counter
  if s.get (.boot .errCode) 0 0 = errSelftest then s.ticketDone stNotReady noRecord ctr
  else if !t.failedForm then s.ticketDone stFormat noRecord ctr
  else if !(List.range 4).all (fun k => decide (swapBytes (t.word (8 + k)) = Config.fusedWord (8 + k) % 2 ^ 32)) then
    s.ticketDone stNode noRecord ctr
  else if !(s.flag (.sys .fuseOwned) 0 0 && ownerOk && decide (t.word (8 + 676) / 256 = 0) && t.sigOk) then
    s.ticketDone stSignature noRecord ctr
  else if ctr ≤ s.get (.tkt .ctrLast) 0 0 then s.ticketDone stStale noRecord ctr
  else if s.journalBlocked ctr then s.ticketDone stJournal noRecord ctr
  else
    let s1 := ((s.journalWrite ctr).set (.tkt .ctrLast) 0 0 ctr).ticketDone stAccepted noRecord ctr
    ((s1.set (.ao .triesA) 0 0 0).set (.ao .triesB) 0 0 0).restartTicket

/-- A command of the table arrives with the ticket at the front.  A ticket whose form is wrong completes with FORMAT, whatever
command it claims; another command than the row's is not this row's ticket. -/
def State.ticket (s : State) (t : Tkt) (mine : Nat → List Nat → Bool) : State :=
  match s.front t with
  | none => s
  | some i =>
    if s.bootState = bootFailed then (if i.command = cmdRestart ∧ i.headOk then s else s.failedTicket i false)
    else
      match i.form with
      | none => s.ticketDone stFormat noRecord i.counter
      | some l => if mine i.command i.args then s.checkTicket i l else s

/-- APPLY_DELTA (R67). -/
def execApplyDelta (t : Tkt) (s : State) : Result :=
  finishIf s.ticketTurn s fun s => s.ticket t fun c _ => decide (c = cmdApplyDelta)

/-- DERAILLEUR_SHIFT with ROLE 0 and 1 (R185). -/
def execDerShiftInitiate (t : Tkt) (s : State) : Result :=
  finishIf s.ticketTurn s fun s => s.ticket t fun c a => decide (c = cmdShift) && decide (bits (a.headD 0) 8 2 = 0)
def execDerShiftRespond (t : Tkt) (s : State) : Result :=
  finishIf s.ticketTurn s fun s => s.ticket t fun c a => decide (c = cmdShift) && decide (bits (a.headD 0) 8 2 = 1)

/-- PROTECTION, by its command (R176). -/
def execProtectionClear (t : Tkt) (s : State) : Result :=
  finishIf s.ticketTurn s fun s => s.ticket t fun c a => decide (c = cmdProtection) && decide (a.getD 1 0 = 0)
def execProtectionLo (t : Tkt) (s : State) : Result :=
  finishIf s.ticketTurn s fun s => s.ticket t fun c a => decide (c = cmdProtection) && decide (a.getD 1 0 = 1)
def execProtectionFs (t : Tkt) (s : State) : Result :=
  finishIf s.ticketTurn s fun s => s.ticket t fun c a => decide (c = cmdProtection) && decide (a.getD 1 0 = 2)
def execProtectionMsP (t : Tkt) (s : State) : Result :=
  finishIf s.ticketTurn s fun s => s.ticket t fun c a => decide (c = cmdProtection) && decide (a.getD 1 0 = 3)
def execProtectionMsW (t : Tkt) (s : State) : Result :=
  finishIf s.ticketTurn s fun s => s.ticket t fun c a => decide (c = cmdProtection) && decide (a.getD 1 0 = 4)

/-- CONTAINER_EDIT, by OP (R267). -/
def execContainerAdd (t : Tkt) (s : State) : Result :=
  finishIf s.ticketTurn s fun s => s.ticket t fun c a => decide (c = cmdContainer) && decide (editOp a = 1)
def execContainerChange (t : Tkt) (s : State) : Result :=
  finishIf s.ticketTurn s fun s => s.ticket t fun c a => decide (c = cmdContainer) && decide (editOp a = 2)
def execContainerDelete (t : Tkt) (s : State) : Result :=
  finishIf s.ticketTurn s fun s => s.ticket t fun c a => decide (c = cmdContainer) && decide (editOp a = 3)
def execQueueAdd (t : Tkt) (s : State) : Result :=
  finishIf s.ticketTurn s fun s => s.ticket t fun c a => decide (c = cmdContainer) && decide (editOp a = 4)
def execQueueChange (t : Tkt) (s : State) : Result :=
  finishIf s.ticketTurn s fun s => s.ticket t fun c a => decide (c = cmdContainer) && decide (editOp a = 5)
def execQueueDelete (t : Tkt) (s : State) : Result :=
  finishIf s.ticketTurn s fun s => s.ticket t fun c a => decide (c = cmdContainer) && decide (editOp a = 6)

/-- SHAPER_CHANGE (R269). -/
def execShaperChange (t : Tkt) (s : State) : Result :=
  finishIf s.ticketTurn s fun s => s.ticket t fun c _ => decide (c = cmdShaper)

/-- REKEY_NOW, without SPAN and ALL, with SPAN, and with ALL (R330). -/
def execRekeyNow (t : Tkt) (s : State) : Result :=
  finishIf s.ticketTurn s fun s => s.ticket t fun c a => decide (c = cmdRekey) && decide (bits (a.headD 0) 30 2 = 0)
def execRekeyNowSpan (t : Tkt) (s : State) : Result :=
  finishIf s.ticketTurn s fun s => s.ticket t fun c a => decide (c = cmdRekey) && bit (a.headD 0) 30
def execRekeyNowAll (t : Tkt) (s : State) : Result :=
  finishIf s.ticketTurn s fun s => s.ticket t fun c a => decide (c = cmdRekey) && decide (bits (a.headD 0) 30 2 = 2)

/-- KICKSTAND_ENTER with PACKAGE 0 and 1 (R431), and KICKSTAND_LEAVE (R434). -/
def execKickstandEnterCarrier (t : Tkt) (s : State) : Result :=
  finishIf s.ticketTurn s fun s => s.ticket t fun c a => decide (c = cmdKickstandEnter) && !bit (a.headD 0) 31
def execKickstandEnterPackage (t : Tkt) (s : State) : Result :=
  finishIf s.ticketTurn s fun s => s.ticket t fun c a => decide (c = cmdKickstandEnter) && bit (a.headD 0) 31
def execKickstandLeave (t : Tkt) (s : State) : Result :=
  finishIf s.ticketTurn s fun s => s.ticket t fun c _ => decide (c = cmdKickstandLeave)

/-- CLEAR_SEC (R344). -/
def execClearSec (t : Tkt) (s : State) : Result :=
  finishIf s.ticketTurn s fun s => s.ticket t fun c _ => decide (c = cmdClearSec)

/-- BLOW_REPAIR of a row and of a column (R300). -/
def execBlowRepairRow (t : Tkt) (s : State) : Result :=
  finishIf s.ticketTurn s fun s => s.ticket t fun c a => decide (c = cmdBlowRepair) && !bit (a.headD 0) 8
def execBlowRepairColumn (t : Tkt) (s : State) : Result :=
  finishIf s.ticketTurn s fun s => s.ticket t fun c a => decide (c = cmdBlowRepair) && bit (a.headD 0) 8

/-- RESTART in RUN (R67), and in FAILED (R64). -/
def execRestart (t : Tkt) (s : State) : Result :=
  finishIf s.ticketTurn s fun s => s.ticket t fun c _ => decide (c = cmdRestart)
def execRestartInFailed (t : Tkt) (ownerOk : Bool) (s : State) : Result :=
  finishIf (s.ticketTurn && decide (s.bootState = bootFailed)) s fun s =>
    match s.front t with
    | none => s
    | some i => s.failedTicket i ownerOk

/-- FLASH_RELEASE and FLASH_RECLAIM (R68). -/
def execFlashRelease (t : Tkt) (s : State) : Result :=
  finishIf s.ticketTurn s fun s => s.ticket t fun c _ => decide (c = cmdFlashRelease)
def execFlashReclaim (t : Tkt) (s : State) : Result :=
  finishIf s.ticketTurn s fun s => s.ticket t fun c _ => decide (c = cmdFlashReclaim)

/-- ADVANCE_SVN (R44). -/
def execAdvanceSvn (t : Tkt) (s : State) : Result :=
  finishIf s.ticketTurn s fun s => s.ticket t fun c _ => decide (c = cmdAdvanceSvn)

end Sys2Proof.Machine
end

