-- ==== Sys2Proof/Machine/Access.lean ====
section
/-!
DEFINITION. Register accesses that have no row of their own: writes by the image, a ticket record and the host, clears of
sticky bits, and accesses of the indirect windows by any port (R4 to R6, R49, R60, R70, R467, R474).
-/
namespace Sys2Proof.Machine

/-- A ticket record may act now. -/
def State.ticketMayWrite (s : State) : Bool := s.inRun && decide (s.run = none) && !s.flag (.sys .restartPend) 0 0

/-- One delta record that passes the checks 9 to 12 of R63 takes effect; else nothing changes. -/
def State.deltaWrite (s : State) (x mask value : Nat) : State :=
  match s.ticketFault cmdApplyDelta [] [.write x mask value] with
  | none => s.applyWrite x mask value
  | some _ => s

/-- The sticky bits at an address that a write of 1 can clear, with the die and index of each: SEC bits are not among them. -/
def clearable (x : Nat) : List (Alm × Nat × Nat) :=
  match placeAt x with
  | .sticky g d i => ((g.bits.map Prod.snd).filter (fun a => !a.isSec)).map (fun a => (a, d, i))
  | .monOvr d 1 => (List.range 16).map (fun c => (.monOvr, d, c))
  | _ => []

/-- The bit of such an alarm in its word. -/
def clearBit (e : Alm × Nat × Nat) : Nat := if e.1 = .monOvr then e.2.2 else e.1.bitNo

/-- Ones clear, but for a bit whose condition sets it again in the same cycle (R6). -/
def State.clearOnes (s : State) (x ones again : Nat) : State :=
  s.each ((clearable x).filter (fun e => bit ones (clearBit e) && !bit again (clearBit e))) fun s e =>
    s.set (.sticky e.1) e.2.1 e.2.2 0

/-- The host clears the bits that its policy grants; a write that clears nothing is rejected (R5, R70). -/
def State.hostClear (s : State) (x value again : Nat) : State :=
  if s.inRun && s.flag (.boot .policyIn) 0 0 && grants s.policy true x && decide (clearable x ≠ []) then s.clearOnes x value again
  else s.rejectWrite x

/-- A word that the host writes (R5, R60, R61, R70). -/
def State.hostWrite (s : State) (x value : Nat) : State :=
  match placeAt x with
  | .mailbox o =>
    if s.flag (.tkt .mboxBusy) 0 0 then s.rejectWrite x else { s with mbox := mboxPutWord s.mbox o value }
  | .goWord => s.goWrite value
  | .ringTail => s.tailWrite value
  | .reg r _ i => if r.flds.any (fun f => decide (f.cell = .tel .db)) then s.telDoorbell i value else s.rejectWrite x
  | _ => s.hostClear x value 0

/-- REGISTER_WRITE (R4, R5, R49, R60, R70, R467); a host write of less than a word has no effect and is rejected. -/
def execRegisterWrite (who : Writer) (addr mask value : Nat) (s : State) : Result :=
  match who with
  | .image => finishIf s.recordTurn s fun s => s.imageRecord (.write addr mask value) addr
  | .ticket => finishIf s.ticketMayWrite s fun s => s.deltaWrite addr mask value
  | .host => finishIf s.hostBus s fun s => if mask = fullMask then s.hostWrite addr value else s.rejectWrite addr

/-- W1C_CLEAR (R6, R49, R70); `again`: bits whose condition sets them again in the same cycle. -/
def execW1cClear (who : Writer) (addr value again : Nat) (s : State) : Result :=
  match who with
  | .image => finishIf s.recordTurn s fun s =>
      match s.imageErr false addr value value with
      | some e => s.recordFail e.code (accessDie addr) addr
      | none => (s.clearOnes addr value again).recordDone
  | .ticket => finishIf s.ticketMayWrite s fun s =>
      match s.ticketFault cmdApplyDelta [] [.write addr value value] with
      | none => s.clearOnes addr value again
      | some _ => s
  | .host => finishIf s.hostBus s fun s => s.hostClear addr value again

/-- A write of a window register by the management cores or Courier, through their own pointers (R474). -/
def State.portWrite (s : State) (port : APort) (x value : Nat) : State :=
  if !s.addrAnswers x then s
  else
    match placeAt x with
    | .winAddr w d => s.setPtr w d port (bits value 0 16) (bits value 16 4)
    | .winData w d =>
      let p := s.winPtr w d port
      if (s.winDataErr w d p.1 p.2 fullMask value false).isSome then s else s.winWrite w d port fullMask value
    | .winCtrl w d => if (w.ctrlErr fullMask value).isSome || s.ruleErr x fullMask value then s else s.winControl w d fullMask value
    | _ => s

/-- The address is a register of an indirect window. -/
def isWindow (x : Nat) : Bool :=
  match placeAt x with
  | .winAddr _ _ | .winData _ _ | .winCtrl _ _ => true
  | _ => false

/-- WINDOW_DATA_ACCESS (R242, R474): a read, or a write by the port's owner. -/
def execWindowDataAccess (port : APort) (who : Writer) (addr : Nat) (write : Bool) (value : Nat) (s : State) : Result :=
  if !write then finishIf (s.portOn port && isWindow addr) s fun s => s.readOne port addr
  else
    match port with
    | .exec =>
      match who with
      | .image => finishIf (s.recordTurn && isWindow addr) s fun s => s.imageRecord (.write addr fullMask value) addr
      | .ticket => finishIf (s.ticketMayWrite && isWindow addr) s fun s => s.deltaWrite addr fullMask value
      | .host => idle s
    | .pcie => finishIf (s.hostBus && isWindow addr) s fun s => s.hostWrite addr value
    | .spi => idle s
    | .mgmt | .courier => finishIf (s.portOn port && isWindow addr) s fun s => s.portWrite port addr value

end Sys2Proof.Machine
end

