-- ==== Sys2Proof/Machine/LineFrame.lean ====
section
/-!
DEFINITION. The line frame, received and sent: candidates and alignment, FN, SM overhead and the DER bytes (R147 to R149,
R162, R163, R191).
-/
namespace Sys2Proof.Machine

/-- The candidates of a carrier after a frame period: one that saw no pattern is dropped (R149). -/
def candsAfter (d : Nat) (hits : List Nat) (l : List Cand) : List Cand :=
  l.filterMap (fun c =>
    if c.die ≠ d then some c
    else if hits.contains c.offset then some { c with hits := c.hits + 1 } else none)

/-- The aligner declares in-frame at an offset: FN starts anew. -/
def State.enterFrame (s : State) (d offset : Nat) : State :=
  (((((((s.set (.ct .inFrame) d 0 1).set (.ct .framePos) d 0 offset).set (.ct .misses) d 0 0).set (.ct .mfasSeen) d 0
    0).set (.ct .lmfnValid) d 0 0).set (.ct .lmfnRun) d 0 0).clearCands d)

/-- Out of frame: candidates with three hits take the second check, and the one opened first that passes wins (R149). -/
def State.searchFrame (s : State) (d : Nat) (f : LineFrame) : State :=
  let l := candsAfter d f.hits s.cands
  let ripe := l.filter (fun c => decide (c.die = d) && decide (3 ≤ c.hits))
  let bad := ripe.filter (fun c => !f.mfasOk.contains c.offset)
  let s1 := ({ s with cands := l.filter (fun c => decide (c.die ≠ d) || decide (c.hits < 3)) }.add (.ct .nCandRej) d 0
    bad.length)
  match ripe.find? (fun c => f.mfasOk.contains c.offset) with
  | some c => s1.enterFrame d c.offset
  | none => s1

/-- In frame: only the frame position is checked; five consecutive misses lose it (R149). -/
def State.checkFrame (s : State) (d : Nat) (f : LineFrame) : State :=
  if f.hits.contains (s.get (.ct .framePos) d 0) then s.set (.ct .misses) d 0 0
  else if s.get (.ct .misses) d 0 < 4 then s.set (.ct .misses) d 0 (s.get (.ct .misses) d 0 + 1)
  else s.loseFrame d

/-- The LMFN expected in this frame: one more than the accepted one once MFAS has wrapped (R147). -/
def State.lmfnExpected (s : State) (d mfas : Nat) : Nat :=
  (s.get (.ct .rxLmfn) d 0 + (if s.flag (.ct .mfasSeen) d 0 && decide (mfas < s.get (.ct .mfas) d 0) then 1 else 0)) %
    2 ^ 32

/-- MFAS and LMFN of a frame (R147): a value read in 4 consecutive frames is accepted; another value than the expected
one is a sequence error. -/
def State.readFn (s : State) (d : Nat) (f : LineFrame) : State :=
  let want := s.lmfnExpected d f.mfas
  let s1 :=
    if s.flag (.ct .lmfnValid) d 0 then
      if f.lmfn = want then s.set (.ct .rxLmfn) d 0 want
      else
        ((((s.set (.ct .lmfnValid) d 0 0).set (.ct .lmfnCand) d 0 f.lmfn).set (.ct .lmfnRun) d 0 1).inc
          (.ct .nLmfnErr) d 0).raise .ctLmfnErr d 0
    else
      let run := if f.lmfn = s.get (.ct .lmfnCand) d 0 ∧ s.get (.ct .lmfnRun) d 0 ≠ 0 then s.get (.ct .lmfnRun) d 0 + 1 else 1
      let s2 := (s.set (.ct .lmfnCand) d 0 f.lmfn).set (.ct .lmfnRun) d 0 run
      if run < 4 then s2
      else (((s2.set (.ct .lmfnRun) d 0 0).set (.ct .lmfnValid) d 0 1).set (.ct .rxLmfn) d 0 f.lmfn).lower .ctLmfnErr d 0
  (s1.set (.ct .mfas) d 0 f.mfas).set (.ct .mfasSeen) d 0 1

/-- The SM overhead (R162, R163) and the violations that the decoder saw clean (R142). -/
def State.readSm (s : State) (d : Nat) (f : LineFrame) : State :=
  let s1 := (((s.add (.ct .nSmBip) d 0 f.bip).add (.ct .nSmBei) d 0 f.bei).set (.ct .beiTx) d 512 (min 8 f.bip)).cond
    .ctSmBdiRx d 0 f.bdi
  (s1.when (decide (f.bip ≠ 0)) (fun s => s.bipOnly d f.bipOnly)).ttiRead d 2 f.tti .ctSmTim 0

/-- KIND, RX_DONE, SHIFT_ID and EPOCH of the DER bytes as one number. -/
def derWord (kind : Nat) (done : Bool) (shift epoch : Nat) : Nat :=
  ((kind * 2 + done.toNat) * 256 + shift) * 2 ^ 32 + epoch

/-- The DER bytes of a frame (R191, R192): accepted after three identical sets with a good CRC. -/
def State.readDer (s : State) (d : Nat) (f : LineFrame) : State :=
  if !f.derCrc then (s.inc (.der .nOhCrc) d 0).set (.der .rxRun) d 0 0
  else
    let w := derWord f.derKind f.derRxDone f.derShift f.derEpoch
    let run := if w = s.get (.der .rxLast) d 0 ∧ s.get (.der .rxRun) d 0 ≠ 0 then min 3 (s.get (.der .rxRun) d 0 + 1) else 1
    let s1 := (s.set (.der .rxLast) d 0 w).set (.der .rxRun) d 0 run
    if run < 3 then s1
    else
      let s2 := (s1.set (.der .rxKind) d 0 f.derKind).setB (.der .farRxDone) d 0 f.derRxDone
      if decide (f.derKind = 1 ∨ f.derKind = 2) && decide (s.unitRole d ≠ 0) &&
          decide (f.derShift = s.get (.der .uShiftId) d 0) then
        (s2.when (decide (f.derKind = 1)) (fun s => s.set (.der .farEpoch) 0 0 f.derEpoch)).learnEpoch d f.derEpoch
      else s2

/-- LINE_FRAME_RX (R147 to R149, R162, R163, R191): alignment first, then the overhead at the frame position. -/
def execLineFrameRx (d : Nat) (f : LineFrame) (s : State) : Result :=
  finishIf (s.up d && s.flag (.ct .framerEn) d 0 && !s.flag (.lr .rxSf) d 0 && !s.flag (.live .fecSf) d 0) s fun s =>
    let was := s.flag (.ct .inFrame) d 0
    let s1 := if was then s.checkFrame d f else s.searchFrame d f
    let s2 := if was && s1.flag (.ct .inFrame) d 0 then ((s1.readFn d f).readSm d f).readDer d f else s1
    s2.alignRefresh d

/-- One step of the CRC-8 x⁸ + x² + x + 1 over a byte (R191). -/
def crc8Byte (c b : Nat) : Nat :=
  (List.range 8).foldl (fun c _ => if 128 ≤ c then (2 * c % 256) ^^^ 7 else 2 * c) (c ^^^ b)

/-- The CRC-8 of R191 over a list of bytes, initial value 0. -/
def crc8 (l : List Nat) : Nat := l.foldl crc8Byte 0

/-- RX_DONE: the state of the sender's own receive side (R191, R198). -/
def State.rxDoneBit (s : State) (d : Nat) : Nat := if s.side d false = sideDone then 1 else 0

/-- The 8 DER bytes a carrier sends (R191). -/
def State.derBytes (s : State) (d : Nat) : List Nat :=
  let k := s.get (.der .kind) d 0
  let id := if k = 0 then 0 else s.get (.der .uShiftId) d 0
  let e := if k = 0 then 0 else s.get (.der .kindEpoch) d 0
  let l := [64 * k + s.rxDoneBit d, id, bits e 24 8, bits e 16 8, bits e 8 8, bits e 0 8, 0]
  l ++ [crc8 l]

/-- The SM TTI byte of a frame: byte MFAS mod 64 of the sent TTI, entry 0 (R163). -/
def State.smTtiByte (s : State) (d mfas : Nat) : Nat :=
  let b := mfas % 64
  bits (s.winWordAt .ctTti d 0 (b / 4)) (24 - 8 * (b % 4)) 8

/-- LINE_FRAME_TX (R147, R148, R162, R163, R191): the carrier sends the frame of the package FN; a carrier that has sent
this FN already begins the next one.  With FRAMER_EN = 0 the frame is all zero (R150). -/
def execLineFrameTx (d : Nat) (s : State) : Result :=
  finishIf (s.up d && s.txBegun d) s fun s =>
    let fn := s.get (.ct .txFn) 0 0
    let fn' := if s.get (.ct .sentFn) d 0 = 1 + fn then (fn + 1) % 2 ^ 40 else fn
    let s1 := ((s.set (.ct .txFn) 0 0 fn').set (.ct .sentFn) d 0 (1 + fn')).set (.ct .txLmfn) d 0 (fn' / 256)
    if s.flag (.ct .framerEn) d 0 then
      ((((s1.set (.ct .txDer) d 0 ((s.derBytes d).foldl (fun a b => a * 256 + b) 0)).set (.ct .txSmBei) d 0
        (s.get (.ct .beiTx) d 512)).set (.ct .txSmBdi) d 0 (s.smBdiTx d).toNat).set (.ct .txSmTti) d 0
        (s.smTtiByte d (fn' % 256))).set (.ct .beiTx) d 512 0
    else (((s1.set (.ct .txDer) d 0 0).set (.ct .txSmBei) d 0 0).set (.ct .txSmBdi) d 0 0).set (.ct .txSmTti) d 0 0

end Sys2Proof.Machine
end

