-- ==== Sys2Proof/Machine/Dispatch.lean ====
section
/-!
DEFINITION. One arm per command: a direct call of its meaning.
-/
namespace Sys2Proof.Machine

def exec (i : Instr) (s : State) : Host.Outcome State Fault Refusal :=
  match i with
  | .registerWrite who addr mask value => Sys2Proof.Machine.execRegisterWrite who addr mask value s
  | .w1cClear who addr value again => Sys2Proof.Machine.execW1cClear who addr value again s
  | .hostRead addr words => Sys2Proof.Machine.execHostRead addr words s
  | .partialWordAccess port addr write => Sys2Proof.Machine.execPartialWordAccess port addr write s
  | .spiReadCommand wordAddr count => Sys2Proof.Machine.execSpiReadCommand wordAddr count s
  | .spiOtherCommand code count => Sys2Proof.Machine.execSpiOtherCommand code count s
  | .counterLowRead port addr => Sys2Proof.Machine.execCounterLowRead port addr s
  | .counterHighRead port addr => Sys2Proof.Machine.execCounterHighRead port addr s
  | .timTbNsRead port tb => Sys2Proof.Machine.execTimTbNsRead port tb s
  | .monFiltStatRead port d f => Sys2Proof.Machine.execMonFiltStatRead port d f s
  | .windowDataAccess port who addr write value => Sys2Proof.Machine.execWindowDataAccess port who addr write value s
  | .chainFlitTx d p offers => Sys2Proof.Machine.execChainFlitTx d p offers s
  | .chainFlitRx d p seq crcOk cls holdExpired => Sys2Proof.Machine.execChainFlitRx d p seq crcOk cls holdExpired s
  | .chainPortEnable d p => Sys2Proof.Machine.execChainPortEnable d p s
  | .chainPortDisable d p => Sys2Proof.Machine.execChainPortDisable d p s
  | .chainTrainAttemptEnd d p completed failedLanes peer => Sys2Proof.Machine.execChainTrainAttemptEnd d p completed failedLanes peer s
  | .chainClkLoss d p => Sys2Proof.Machine.execChainClkLoss d p s
  | .chainReplayLimit d p => Sys2Proof.Machine.execChainReplayLimit d p s
  | .chainPeerRetrain d p => Sys2Proof.Machine.execChainPeerRetrain d p s
  | .chainHeldFlitRelease d => Sys2Proof.Machine.execChainHeldFlitRelease d s
  | .spokeFrameRx d crcOk => Sys2Proof.Machine.execSpokeFrameRx d crcOk s
  | .spokeLost d => Sys2Proof.Machine.execSpokeLost d s
  | .powerGood => Sys2Proof.Machine.execPowerGood s
  | .leadDieRelease katOk entropyOk busMaster msi => Sys2Proof.Machine.execLeadDieRelease katOk entropyOk busMaster msi s
  | .flashDiscovery info => Sys2Proof.Machine.execFlashDiscovery info s
  | .imageSegmentRead slot seg firstOk secondOk => Sys2Proof.Machine.execImageSegmentRead slot seg firstOk secondOk s
  | .imageVerify a b => Sys2Proof.Machine.execImageVerify a b s
  | .phaseStart phase hasBlock budget memberRecords => Sys2Proof.Machine.execPhaseStart phase hasBlock budget memberRecords s
  | .memberDieReady d selftestOk => Sys2Proof.Machine.execMemberDieReady d selftestOk s
  | .memberDieTimeout d => Sys2Proof.Machine.execMemberDieTimeout d s
  | .phaseTimeout => Sys2Proof.Machine.execPhaseTimeout s
  | .recordWrite addr mask value => Sys2Proof.Machine.execRecordWrite addr mask value s
  | .recordFill addr mask value count stride => Sys2Proof.Machine.execRecordFill addr mask value count stride s
  | .recordTable window first words data => Sys2Proof.Machine.execRecordTable window first words data s
  | .recordWaitUs us => Sys2Proof.Machine.execRecordWaitUs us s
  | .waitUsExpiry => Sys2Proof.Machine.execWaitUsExpiry s
  | .recordPollUntil addr mask value timeoutUs => Sys2Proof.Machine.execRecordPollUntil addr mask value timeoutUs s
  | .pollUntilMatch => Sys2Proof.Machine.execPollUntilMatch s
  | .pollUntilTimeout => Sys2Proof.Machine.execPollUntilTimeout s
  | .recordProc id args => Sys2Proof.Machine.execRecordProc id args s
  | .procReturn => Sys2Proof.Machine.execProcReturn s
  | .pannierInit d train geometry map key faults => Sys2Proof.Machine.execPannierInit d train geometry map key faults s
  | .eccSelftest d pass => Sys2Proof.Machine.execEccSelftest d pass s
  | .applyRepair d rows => Sys2Proof.Machine.execApplyRepair d rows s
  | .laserDiscover d r => Sys2Proof.Machine.execLaserDiscover d r s
  | .calConverters d waited meas => Sys2Proof.Machine.execCalConverters d waited meas s
  | .biasStart d r => Sys2Proof.Machine.execBiasStart d r s
  | .bellDiscover d => Sys2Proof.Machine.execBellDiscover d s
  | .keyAgree => Sys2Proof.Machine.execKeyAgree s
  | .acquireLine d cal power => Sys2Proof.Machine.execAcquireLine d cal power s
  | .hostGears d => Sys2Proof.Machine.execHostGears d s
  | .openTraffic => Sys2Proof.Machine.execOpenTraffic s
  | .restartWaitExpiry => Sys2Proof.Machine.execRestartWaitExpiry s
  | .ticketGoWrite value => Sys2Proof.Machine.execTicketGoWrite value s
  | .ticketRingTailWrite value => Sys2Proof.Machine.execTicketRingTailWrite value s
  | .ticketFetchDone entryLen ok => Sys2Proof.Machine.execTicketFetchDone entryLen ok s
  | .ticketExecTimeout => Sys2Proof.Machine.execTicketExecTimeout s
  | .journalEraseDone => Sys2Proof.Machine.execJournalEraseDone s
  | .applyDelta t => Sys2Proof.Machine.execApplyDelta t s
  | .derShiftInitiate t => Sys2Proof.Machine.execDerShiftInitiate t s
  | .derShiftRespond t => Sys2Proof.Machine.execDerShiftRespond t s
  | .protectionClear t => Sys2Proof.Machine.execProtectionClear t s
  | .protectionLo t => Sys2Proof.Machine.execProtectionLo t s
  | .protectionFs t => Sys2Proof.Machine.execProtectionFs t s
  | .protectionMsP t => Sys2Proof.Machine.execProtectionMsP t s
  | .protectionMsW t => Sys2Proof.Machine.execProtectionMsW t s
  | .containerAdd t => Sys2Proof.Machine.execContainerAdd t s
  | .containerChange t => Sys2Proof.Machine.execContainerChange t s
  | .containerDelete t => Sys2Proof.Machine.execContainerDelete t s
  | .queueAdd t => Sys2Proof.Machine.execQueueAdd t s
  | .queueChange t => Sys2Proof.Machine.execQueueChange t s
  | .queueDelete t => Sys2Proof.Machine.execQueueDelete t s
  | .shaperChange t => Sys2Proof.Machine.execShaperChange t s
  | .rekeyNow t => Sys2Proof.Machine.execRekeyNow t s
  | .rekeyNowSpan t => Sys2Proof.Machine.execRekeyNowSpan t s
  | .rekeyNowAll t => Sys2Proof.Machine.execRekeyNowAll t s
  | .kickstandEnterCarrier t => Sys2Proof.Machine.execKickstandEnterCarrier t s
  | .kickstandEnterPackage t => Sys2Proof.Machine.execKickstandEnterPackage t s
  | .kickstandLeave t => Sys2Proof.Machine.execKickstandLeave t s
  | .clearSec t => Sys2Proof.Machine.execClearSec t s
  | .blowRepairRow t => Sys2Proof.Machine.execBlowRepairRow t s
  | .blowRepairColumn t => Sys2Proof.Machine.execBlowRepairColumn t s
  | .restart t => Sys2Proof.Machine.execRestart t s
  | .restartInFailed t ownerOk => Sys2Proof.Machine.execRestartInFailed t ownerOk s
  | .flashRelease t => Sys2Proof.Machine.execFlashRelease t s
  | .flashReclaim t => Sys2Proof.Machine.execFlashReclaim t s
  | .advanceSvn t => Sys2Proof.Machine.execAdvanceSvn t s
  | .txEnRise d cal => Sys2Proof.Machine.execTxEnRise d cal s
  | .txEnFall d => Sys2Proof.Machine.execTxEnFall d s
  | .txWaitEnd d => Sys2Proof.Machine.execTxWaitEnd d s
  | .txRampComplete d => Sys2Proof.Machine.execTxRampComplete d s
  | .txMuteCauseSet d c => Sys2Proof.Machine.execTxMuteCauseSet d c s
  | .txMuteCauseClear d c => Sys2Proof.Machine.execTxMuteCauseClear d c s
  | .dspFrameBoundary d => Sys2Proof.Machine.execDspFrameBoundary d s
  | .dacClipWindow d clipped => Sys2Proof.Machine.execDacClipWindow d clipped s
  | .ltFirApply d => Sys2Proof.Machine.execLtFirApply d s
  | .lasTransaction p ok noAck => Sys2Proof.Machine.execLasTransaction p ok noAck s
  | .lasRetryWaitExpiry p => Sys2Proof.Machine.execLasRetryWaitExpiry p s
  | .lasPresenceLost p => Sys2Proof.Machine.execLasPresenceLost p s
  | .lasPoll p r => Sys2Proof.Machine.execLasPoll p r s
  | .lasTuneTimeout p => Sys2Proof.Machine.execLasTuneTimeout p s
  | .lasRecoverTimer p r => Sys2Proof.Machine.execLasRecoverTimer p r s
  | .lasGridChange p n => Sys2Proof.Machine.execLasGridChange p n s
  | .lasEnRise p => Sys2Proof.Machine.execLasEnRise p s
  | .lasEnFall p => Sys2Proof.Machine.execLasEnFall p s
  | .rxEnRise d cal power => Sys2Proof.Machine.execRxEnRise d cal power s
  | .rxEnFall d => Sys2Proof.Machine.execRxEnFall d s
  | .acqStepPass d m => Sys2Proof.Machine.execAcqStepPass d m s
  | .acqStepTimeout d => Sys2Proof.Machine.execAcqStepTimeout d s
  | .failedWaitExpiry d => Sys2Proof.Machine.execFailedWaitExpiry d s
  | .rxLos d power => Sys2Proof.Machine.execRxLos d power s
  | .rxPowerReturn d power => Sys2Proof.Machine.execRxPowerReturn d power s
  | .holdExpiry d => Sys2Proof.Machine.execHoldExpiry d s
  | .rxLoLost d => Sys2Proof.Machine.execRxLoLost d s
  | .eqSlip d => Sys2Proof.Machine.execEqSlip d s
  | .syncLoss d => Sys2Proof.Machine.execSyncLoss d s
  | .freqOffsetExceeded d => Sys2Proof.Machine.execFreqOffsetExceeded d s
  | .cycleSlip d => Sys2Proof.Machine.execCycleSlip d s
  | .agcFastStep d => Sys2Proof.Machine.execAgcFastStep d s
  | .adcClipWindow d t clipped => Sys2Proof.Machine.execAdcClipWindow d t clipped s
  | .adcOverload d holds => Sys2Proof.Machine.execAdcOverload d holds s
  | .rxPwrLow d holds => Sys2Proof.Machine.execRxPwrLow d holds s
  | .cdReprogram d cd => Sys2Proof.Machine.execCdReprogram d cd s
  | .qualityWindowEnd d q => Sys2Proof.Machine.execQualityWindowEnd d q s
  | .superframeEncodeStart d => Sys2Proof.Machine.execSuperframeEncodeStart d s
  | .fecLockCandidate d frame passed => Sys2Proof.Machine.execFecLockCandidate d frame passed s
  | .codewordDecode d converged iter => Sys2Proof.Machine.execCodewordDecode d converged iter s
  | .outerRowExit d outer ones zeros residual => Sys2Proof.Machine.execOuterRowExit d outer ones zeros residual s
  | .fecSfInterval d => Sys2Proof.Machine.execFecSfInterval d s
  | .fasPatternFound d offset => Sys2Proof.Machine.execFasPatternFound d offset s
  | .lineFrameRx d f => Sys2Proof.Machine.execLineFrameRx d f s
  | .lofTimer d => Sys2Proof.Machine.execLofTimer d s
  | .containerFrameRx d i0 f => Sys2Proof.Machine.execContainerFrameRx d i0 f s
  | .gapMarkerRx d i0 drops verified => Sys2Proof.Machine.execGapMarkerRx d i0 drops verified s
  | .errorMarkerRx d i0 verified => Sys2Proof.Machine.execErrorMarkerRx d i0 verified s
  | .apsFopTimer d i0 => Sys2Proof.Machine.execApsFopTimer d i0 s
  | .pmDegSecond d i0 => Sys2Proof.Machine.execPmDegSecond d i0 s
  | .bondArrivalReport d us => Sys2Proof.Machine.execBondArrivalReport d us s
  | .bondRealign d => Sys2Proof.Machine.execBondRealign d s
  | .gcc0FrameRx d fcsOk address => Sys2Proof.Machine.execGcc0FrameRx d fcsOk address s
  | .ctWindowCommit d w => Sys2Proof.Machine.execCtWindowCommit d w s
  | .ctCommitApply d => Sys2Proof.Machine.execCtCommitApply d s
  | .tandemFrameDeliver d i0 n wOk pOk => Sys2Proof.Machine.execTandemFrameDeliver d i0 n wOk pOk s
  | .tandemSelect d i0 => Sys2Proof.Machine.execTandemSelect d i0 s
  | .tandemHoldoffExpiry d i0 => Sys2Proof.Machine.execTandemHoldoffExpiry d i0 s
  | .tandemWtrExpiry d i0 => Sys2Proof.Machine.execTandemWtrExpiry d i0 s
  | .sealRequestClear d i0 => Sys2Proof.Machine.execSealRequestClear d i0 s
  | .tandemRealign d i0 skip diffUs protectFirst => Sys2Proof.Machine.execTandemRealign d i0 skip diffUs protectFirst s
  | .tandemPathPresence d i0 wOk pOk => Sys2Proof.Machine.execTandemPathPresence d i0 wOk pOk s
  | .pelEnvelopeRx d p hasWord word expected => Sys2Proof.Machine.execPelEnvelopeRx d p hasWord word expected s
  | .pelNeighbourEvent d p arriving lagNs => Sys2Proof.Machine.execPelNeighbourEvent d p arriving lagNs s
  | .pelSuspendExpiry d => Sys2Proof.Machine.execPelSuspendExpiry d s
  | .derProposeRx m auto entries => Sys2Proof.Machine.execDerProposeRx m auto entries s
  | .derArmedRx m => Sys2Proof.Machine.execDerArmedRx m s
  | .derRefuseRx m reason unit => Sys2Proof.Machine.execDerRefuseRx m reason unit s
  | .derCommitRx m epoch => Sys2Proof.Machine.execDerCommitRx m epoch s
  | .derCancelRx m reason => Sys2Proof.Machine.execDerCancelRx m reason s
  | .derDoneRx m => Sys2Proof.Machine.execDerDoneRx m s
  | .derResendTimer => Sys2Proof.Machine.execDerResendTimer s
  | .derUnitArmReport d => Sys2Proof.Machine.execDerUnitArmReport d s
  | .derArmTimeout => Sys2Proof.Machine.execDerArmTimeout s
  | .derLatchPoint d tx => Sys2Proof.Machine.execDerLatchPoint d tx s
  | .derTxSwitch d => Sys2Proof.Machine.execDerTxSwitch d s
  | .derRxSwitch d => Sys2Proof.Machine.execDerRxSwitch d s
  | .derSideDone d => Sys2Proof.Machine.execDerSideDone d s
  | .derRollbackDecision => Sys2Proof.Machine.execDerRollbackDecision s
  | .derRollbackReturn d tx => Sys2Proof.Machine.execDerRollbackReturn d tx s
  | .derResultSet => Sys2Proof.Machine.execDerResultSet s
  | .derRediscoverTimer d => Sys2Proof.Machine.execDerRediscoverTimer d s
  | .portEnable d p => Sys2Proof.Machine.execPortEnable d p s
  | .portDisable d p => Sys2Proof.Machine.execPortDisable d p s
  | .negFrameRx d l f => Sys2Proof.Machine.execNegFrameRx d l f s
  | .negGearSwitch d l => Sys2Proof.Machine.execNegGearSwitch d l s
  | .negLockTimeout d l => Sys2Proof.Machine.execNegLockTimeout d l s
  | .negTrainTimeout d l => Sys2Proof.Machine.execNegTrainTimeout d l s
  | .negWaitExpiry d l => Sys2Proof.Machine.execNegWaitExpiry d l s
  | .forcedCdrLock d l => Sys2Proof.Machine.execForcedCdrLock d l s
  | .hlLos d l => Sys2Proof.Machine.execHlLos d l s
  | .hlSignalReturn d l => Sys2Proof.Machine.execHlSignalReturn d l s
  | .hlLol d l => Sys2Proof.Machine.execHlLol d l s
  | .hostGearsTimeout => Sys2Proof.Machine.execHostGearsTimeout s
  | .idleEnter d p => Sys2Proof.Machine.execIdleEnter d p s
  | .idleFastExit d p => Sys2Proof.Machine.execIdleFastExit d p s
  | .hostIdleAnnounceRx d l crcOk => Sys2Proof.Machine.execHostIdleAnnounceRx d l crcOk s
  | .hostIdleExitRx d l locked => Sys2Proof.Machine.execHostIdleExitRx d l locked s
  | .escanStart d l => Sys2Proof.Machine.execEscanStart d l s
  | .escanDone d l errs => Sys2Proof.Machine.execEscanDone d l errs s
  | .eyeSweepDone d l eyes => Sys2Proof.Machine.execEyeSweepDone d l eyes s
  | .pcsAligned d p => Sys2Proof.Machine.execPcsAligned d p s
  | .pcsAlignLoss d p => Sys2Proof.Machine.execPcsAlignLoss d p s
  | .hostFecCodeword d p symErr uncorr lf rf => Sys2Proof.Machine.execHostFecCodeword d p symErr uncorr lf rf s
  | .hostFecDegradeInterval d p => Sys2Proof.Machine.execHostFecDegradeInterval d p s
  | .hostFrameRx d p f => Sys2Proof.Machine.execHostFrameRx d p f s
  | .frameDecisionPoint d id => Sys2Proof.Machine.execFrameDecisionPoint d id s
  | .stagedFrameRelease d id => Sys2Proof.Machine.execStagedFrameRelease d id s
  | .ctFrameFail d id long => Sys2Proof.Machine.execCtFrameFail d id long s
  | .schedulerSelect d i0 => Sys2Proof.Machine.execSchedulerSelect d i0 s
  | .hostFrameStart d p f => Sys2Proof.Machine.execHostFrameStart d p f s
  | .pfcXoffStart d p => Sys2Proof.Machine.execPfcXoffStart d p s
  | .pfcXon d p => Sys2Proof.Machine.execPfcXon d p s
  | .pfcRefreshTimer d p => Sys2Proof.Machine.execPfcRefreshTimer d p s
  | .qsClsInsert d w0 w1 => Sys2Proof.Machine.execQsClsInsert d w0 w1 s
  | .qsClsDelete d w0 w1 => Sys2Proof.Machine.execQsClsDelete d w0 w1 s
  | .qsClsLookup d w0 w1 => Sys2Proof.Machine.execQsClsLookup d w0 w1 s
  | .qsWindowCommit d w => Sys2Proof.Machine.execQsWindowCommit d w s
  | .qsCommitApply d w => Sys2Proof.Machine.execQsCommitApply d w s
  | .gateCommit d => Sys2Proof.Machine.execGateCommit d s
  | .gateListStart d => Sys2Proof.Machine.execGateListStart d s
  | .drainEnd d container idx => Sys2Proof.Machine.execDrainEnd d container idx s
  | .panCorrectedRead d g check scrub => Sys2Proof.Machine.execPanCorrectedRead d g check scrub s
  | .panWriteBack d g ok => Sys2Proof.Machine.execPanWriteBack d g ok s
  | .panUncorrectableRead d g u => Sys2Proof.Machine.execPanUncorrectableRead d g u s
  | .mergeFlush d hg oldUe cipherBad => Sys2Proof.Machine.execMergeFlush d hg oldUe cipherBad s
  | .scrubLapEnd d ms => Sys2Proof.Machine.execScrubLapEnd d ms s
  | .trackerClearTimer d => Sys2Proof.Machine.execTrackerClearTimer d s
  | .pageMigrationStart d => Sys2Proof.Machine.execPageMigrationStart d s
  | .pageMigrationDone d => Sys2Proof.Machine.execPageMigrationDone d s
  | .pteWalk d r v pUe mUe bad u => Sys2Proof.Machine.execPteWalk d r v pUe mUe bad u s
  | .pteRebuildDone d r v => Sys2Proof.Machine.execPteRebuildDone d r v s
  | .courierDescPost d c p => Sys2Proof.Machine.execCourierDescPost d c p s
  | .courierPreempt d c done => Sys2Proof.Machine.execCourierPreempt d c done s
  | .courierDescDone d c => Sys2Proof.Machine.execCourierDescDone d c s
  | .courierFault d c code done space addr => Sys2Proof.Machine.execCourierFault d c code done space addr s
  | .courierResume d c => Sys2Proof.Machine.execCourierResume d c s
  | .courierAbort d c => Sys2Proof.Machine.execCourierAbort d c s
  | .courierCipherResume d c => Sys2Proof.Machine.execCourierCipherResume d c s
  | .pcieCompletionTimeout done => Sys2Proof.Machine.execPcieCompletionTimeout done s
  | .pcieUnexpectedCompletion => Sys2Proof.Machine.execPcieUnexpectedCompletion s
  | .pcieLinkDown done => Sys2Proof.Machine.execPcieLinkDown done s
  | .perstAssert done => Sys2Proof.Machine.execPerstAssert done s
  | .keyFlitRx d slot ctr tagOk => Sys2Proof.Machine.execKeyFlitRx d slot ctr tagOk s
  | .wrapNonceRetry d => Sys2Proof.Machine.execWrapNonceRetry d s
  | .kchFragmentRx h type idx count => Sys2Proof.Machine.execKchFragmentRx h type idx count s
  | .kchReassemblyTimeout on type sender seq => Sys2Proof.Machine.execKchReassemblyTimeout on type sender seq s
  | .kchHelloRx h fresh formOk => Sys2Proof.Machine.execKchHelloRx h fresh formOk s
  | .kchReplyRx h p => Sys2Proof.Machine.execKchReplyRx h p s
  | .kchAuthRx h p => Sys2Proof.Machine.execKchAuthRx h p s
  | .kchConfirmRx h macOk => Sys2Proof.Machine.execKchConfirmRx h macOk s
  | .kchKeyNextRx h sms entries => Sys2Proof.Machine.execKchKeyNextRx h sms entries s
  | .kchKeyReadyRx h entries => Sys2Proof.Machine.execKchKeyReadyRx h entries s
  | .kchKeyRefuseRx h entries => Sys2Proof.Machine.execKchKeyRefuseRx h entries s
  | .kchAbortRx h => Sys2Proof.Machine.execKchAbortRx h s
  | .kchResendTimer k => Sys2Proof.Machine.execKchResendTimer k s
  | .keyNextResend d i0 => Sys2Proof.Machine.execKeyNextResend d i0 s
  | .rekeyRetryTimer d i0 => Sys2Proof.Machine.execRekeyRetryTimer d i0 s
  | .keyAgreeTimeout => Sys2Proof.Machine.execKeyAgreeTimeout s
  | .handshakeRetryTimer k => Sys2Proof.Machine.execHandshakeRetryTimer k s
  | .spanRekeyTimer k => Sys2Proof.Machine.execSpanRekeyTimer k s
  | .rekeyTimer d i0 => Sys2Proof.Machine.execRekeyTimer d i0 s
  | .containerFrameSeal d i0 => Sys2Proof.Machine.execContainerFrameSeal d i0 s
  | .sealVerdict d i0 f => Sys2Proof.Machine.execSealVerdict d i0 f s
  | .rxOldKeyErase d i0 => Sys2Proof.Machine.execRxOldKeyErase d i0 s
  | .svcLockRequest a => Sys2Proof.Machine.execSvcLockRequest a s
  | .svcLockRelease checkOk parityOk => Sys2Proof.Machine.execSvcLockRelease checkOk parityOk s
  | .svcSuspendTimeout k => Sys2Proof.Machine.execSvcSuspendTimeout k s
  | .entropyHealthFail => Sys2Proof.Machine.execEntropyHealthFail s
  | .entropyRetest pass => Sys2Proof.Machine.execEntropyRetest pass s
  | .tamperTrip sensor => Sys2Proof.Machine.execTamperTrip sensor s
  | .tamperHoldExpiry still => Sys2Proof.Machine.execTamperHoldExpiry still s
  | .bellTxMessageStart d => Sys2Proof.Machine.execBellTxMessageStart d s
  | .bellTxDone d => Sys2Proof.Machine.execBellTxDone d s
  | .bellPathChange d => Sys2Proof.Machine.execBellPathChange d s
  | .bellHelloTimer d => Sys2Proof.Machine.execBellHelloTimer d s
  | .bellParkedTimer d => Sys2Proof.Machine.execBellParkedTimer d s
  | .bellWakeTimer d => Sys2Proof.Machine.execBellWakeTimer d s
  | .bellDetect d slow => Sys2Proof.Machine.execBellDetect d slow s
  | .bellSyncFound d rssi compat => Sys2Proof.Machine.execBellSyncFound d rssi compat s
  | .bellSyncTimeout d => Sys2Proof.Machine.execBellSyncTimeout d s
  | .bellHeaderDone d ok => Sys2Proof.Machine.execBellHeaderDone d ok s
  | .bellBodyDone d ok => Sys2Proof.Machine.execBellBodyDone d ok s
  | .bellSignalFade d => Sys2Proof.Machine.execBellSignalFade d s
  | .bellCapture d rssi compat => Sys2Proof.Machine.execBellCapture d rssi compat s
  | .bellNoiseUpdate d noise => Sys2Proof.Machine.execBellNoiseUpdate d noise s
  | .bellHelloRx d m desc => Sys2Proof.Machine.execBellHelloRx d m desc s
  | .bellLastGaspRx d m reason loc => Sys2Proof.Machine.execBellLastGaspRx d m reason loc s
  | .bellWakeRx d m => Sys2Proof.Machine.execBellWakeRx d m s
  | .bellParkedRx d m => Sys2Proof.Machine.execBellParkedRx d m s
  | .bellCompatRx d ok type m reason => Sys2Proof.Machine.execBellCompatRx d ok type m reason s
  | .peerParkedTimeout d => Sys2Proof.Machine.execPeerParkedTimeout d s
  | .bellDiscoverTimeout d => Sys2Proof.Machine.execBellDiscoverTimeout d s
  | .refMonitorUpdate r offset => Sys2Proof.Machine.execRefMonitorUpdate r offset s
  | .refLos r => Sys2Proof.Machine.execRefLos r s
  | .refWtrExpiry r => Sys2Proof.Machine.execRefWtrExpiry r s
  | .dpllPullEnd x => Sys2Proof.Machine.execDpllPullEnd x s
  | .dpllLock x => Sys2Proof.Machine.execDpllLock x s
  | .xoLoss => Sys2Proof.Machine.execXoLoss s
  | .ppsEnable p => Sys2Proof.Machine.execPpsEnable p s
  | .ppsEdge p => Sys2Proof.Machine.execPpsEdge p s
  | .ppsinEdge i0 => Sys2Proof.Machine.execPpsinEdge i0 s
  | .tbSet tb => Sys2Proof.Machine.execTbSet tb s
  | .tbHostApply tb => Sys2Proof.Machine.execTbHostApply tb s
  | .tbServoSample tb theta => Sys2Proof.Machine.execTbServoSample tb theta s
  | .tbSampleTimeout tb => Sys2Proof.Machine.execTbSampleTimeout tb s
  | .ptpSyncTimer d tb => Sys2Proof.Machine.execPtpSyncTimer d tb s
  | .ptpSyncRx d m => Sys2Proof.Machine.execPtpSyncRx d m s
  | .ptpFollowUpRx d m t1 => Sys2Proof.Machine.execPtpFollowUpRx d m t1 s
  | .ptpDelayReqRx d m => Sys2Proof.Machine.execPtpDelayReqRx d m s
  | .ptpDelayRespRx d m t4 => Sys2Proof.Machine.execPtpDelayRespRx d m t4 s
  | .ssmTx d => Sys2Proof.Machine.execSsmTx d s
  | .ssmRx d ql => Sys2Proof.Machine.execSsmRx d ql s
  | .triggerArm u => Sys2Proof.Machine.execTriggerArm u s
  | .triggerDisarm u => Sys2Proof.Machine.execTriggerDisarm u s
  | .triggerFire u => Sys2Proof.Machine.execTriggerFire u s
  | .triggerHeldLoad u => Sys2Proof.Machine.execTriggerHeldLoad u s
  | .monConversion d v => Sys2Proof.Machine.execMonConversion d v s
  | .monLapEnd d => Sys2Proof.Machine.execMonLapEnd d s
  | .filterSync d => Sys2Proof.Machine.execFilterSync d s
  | .syscalStart => Sys2Proof.Machine.execSyscalStart s
  | .syscalDone meas => Sys2Proof.Machine.execSyscalDone meas s
  | .biasLockinOutput d k e taint found => Sys2Proof.Machine.execBiasLockinOutput d k e taint found s
  | .biasWrapDone d k => Sys2Proof.Machine.execBiasWrapDone d k s
  | .biasOutputFault d k => Sys2Proof.Machine.execBiasOutputFault d k s
  | .biasPhaseAcqTimeout d k => Sys2Proof.Machine.execBiasPhaseAcqTimeout d k s
  | .biasRestart d r => Sys2Proof.Machine.execBiasRestart d r s
  | .biasWrapNow d => Sys2Proof.Machine.execBiasWrapNow d s
  | .convSliceMeasure d v a b m => Sys2Proof.Machine.execConvSliceMeasure d v a b m s
  | .convTempUpdate d t => Sys2Proof.Machine.execConvTempUpdate d t s
  | .railFail rail tamper => Sys2Proof.Machine.execRailFail rail tamper s
  | .railRecovered => Sys2Proof.Machine.execRailRecovered s
  | .hvRailFail neg => Sys2Proof.Machine.execHvRailFail neg s
  | .hvRailRecovered => Sys2Proof.Machine.execHvRailRecovered s
  | .ksDrainEnd d => Sys2Proof.Machine.execKsDrainEnd d s
  | .ksStageComplete d => Sys2Proof.Machine.execKsStageComplete d s
  | .ksWakeSource d src => Sys2Proof.Machine.execKsWakeSource d src s
  | .ksWakeTimer d => Sys2Proof.Machine.execKsWakeTimer d s
  | .wakeNLow => Sys2Proof.Machine.execWakeNLow s
  | .ksWakeComplete d => Sys2Proof.Machine.execKsWakeComplete d s
  | .sysRstLow => Sys2Proof.Machine.execSysRstLow s
  | .sysRstRise => Sys2Proof.Machine.execSysRstRise s
  | .alarmStickySet addr entry bit => Sys2Proof.Machine.execAlarmStickySet addr entry bit s
  | .alarmReportRx d => Sys2Proof.Machine.execAlarmReportRx d s
  | .farStatusTx d => Sys2Proof.Machine.execFarStatusTx d s
  | .farStatusRx d m => Sys2Proof.Machine.execFarStatusRx d m s
  | .farStatusStale d => Sys2Proof.Machine.execFarStatusStale d s
  | .levelCounterTick d k => Sys2Proof.Machine.execLevelCounterTick d k s
  | .telDoorbellWrite t value => Sys2Proof.Machine.execTelDoorbellWrite t value s
  | .telSnapshotTimer t busy => Sys2Proof.Machine.execTelSnapshotTimer t busy s
  | .crcSubmit => Sys2Proof.Machine.execCrcSubmit s
  | .crcJobEnd how bytes g => Sys2Proof.Machine.execCrcJobEnd how bytes g s
  | .injFire d u => Sys2Proof.Machine.execInjFire d u s
  | .injStop d u => Sys2Proof.Machine.execInjStop d u s
  | .injApply d u => Sys2Proof.Machine.execInjApply d u s
  | .jtagBypass => Sys2Proof.Machine.execJtagBypass s
  | .jtagIdcode => Sys2Proof.Machine.execJtagIdcode s
  | .jtagSamplePreload captured loaded => Sys2Proof.Machine.execJtagSamplePreload captured loaded s
  | .jtagExtest => Sys2Proof.Machine.execJtagExtest s
  | .vddAoApplied => Sys2Proof.Machine.execVddAoApplied s
  | .vddAoLoss => Sys2Proof.Machine.execVddAoLoss s
  | .perstRelease busMaster msi => Sys2Proof.Machine.execPerstRelease busMaster msi s
  | .xoHoldRecovered => Sys2Proof.Machine.execXoHoldRecovered s
  | .holdoverHistoryValid x => Sys2Proof.Machine.execHoldoverHistoryValid x s
  | .bellNotAvailableTimeout d => Sys2Proof.Machine.execBellNotAvailableTimeout d s
  | .crcResultStatusRead port slot => Sys2Proof.Machine.execCrcResultStatusRead port slot s
  | .prbsCheckerSync d l bits errs => Sys2Proof.Machine.execPrbsCheckerSync d l bits errs s
  | .rxDspFrame d synced => Sys2Proof.Machine.execRxDspFrame d synced s
  | .lineFrameTx d => Sys2Proof.Machine.execLineFrameTx d s

end Sys2Proof.Machine
end

