-- ==== Sys2Proof/Machine/Step.lean ====
section
/-!
DEFINITION. One step: the command at the front of the queue, or a nanosecond of time while none waits (log 3).
-/
namespace Sys2Proof.Machine

/-- A nanosecond passes with no command waiting: the time bases of a running lead die advance (R383), or the always-on
counter in package Kickstand (R400). -/
def State.idleTick (s : State) : State :=
  let s1 := s.set (.sys .time) 0 0 ((s.get (.sys .time) 0 0 + 1) % 2 ^ 64)
  if s1.pkgAsleep then s1.aoTick
  else if s1.up 0 then s1.each (List.range 4) fun s b => s.tbTick b
  else s1

/-- Take the command at the front of the queue and run it with the queue's rest; with an empty queue, time passes. -/
def step (s : State) : Host.Outcome State Fault Refusal :=
  match s.pending with
  | [] => .next s.idleTick
  | c :: rest => exec c { s with pending := rest }

/-- The state with the command that a word spells at the front of its queue; unchanged where the word spells none. -/
def State.withFetchWord (s : State) (nbits w : Nat) : State :=
  match decodeTableWord nbits w with
  | some c => { s with pending := c :: s.pending }
  | none => s

end Sys2Proof.Machine
end

