-- ==== Sys2Proof/Safety.lean ====
section
/-!
DEFINITION. What claims are stated in: the canonical forms of the store and of the mailbox, a command that completes with a
property of the state it leaves, and what a command may leave unchanged.
-/
namespace Sys2Proof.Machine

/-- The canonical forms hold: equal contents are equal data. -/
def State.wf (s : State) : Bool := s.cells.wf && Memory.wf s.mbox

/-- Command `c` completes in `s`: it answers a next state, and that state has property `P`. -/
def Completes (c : Instr) (s : State) (P : State → Prop) : Prop := ∃ t, exec c s = .next t ∧ P t

/-- A cell that the summary bits of R437 and R438 and the interrupt lines of R468 follow; every command may move them. -/
def Cell.summary : Cell → Bool
  | .live .ctCtnAny | .sticky .ctCtnAny | .live .cryCtxAny | .sticky .cryCtxAny | .live .cryHoldAny | .sticky .cryHoldAny
  | .sys .alertSeen | .sys .faultSeen | .sys .msiLast | .sys .msiSent => true
  | _ => false

/-- The parts of the state beside the store of cells. -/
inductive Part where
  | mbox | pending | readData | reports | held | tickets | run | policy | imgPolicy | trust | cands | telOut | clsTab
  | staged | rings | tracker | retireQ | merge | descs | kch | fups
  deriving DecidableEq, Repr

/-- A part is the same in two states; for the mailbox, every byte reads the same. -/
def Part.same (p : Part) (s t : State) : Prop :=
  match p with
  | .mbox => ∀ a, mboxGet t.mbox a = mboxGet s.mbox a
  | .pending => t.pending = s.pending
  | .readData => t.readData = s.readData
  | .reports => t.reports = s.reports
  | .held => t.held = s.held
  | .tickets => t.tickets = s.tickets
  | .run => t.run = s.run
  | .policy => t.policy = s.policy
  | .imgPolicy => t.imgPolicy = s.imgPolicy
  | .trust => t.trust = s.trust
  | .cands => t.cands = s.cands
  | .telOut => t.telOut = s.telOut
  | .clsTab => t.clsTab = s.clsTab
  | .staged => t.staged = s.staged
  | .rings => t.rings = s.rings
  | .tracker => t.tracker = s.tracker
  | .retireQ => t.retireQ = s.retireQ
  | .merge => t.merge = s.merge
  | .descs => t.descs = s.descs
  | .kch => t.kch = s.kch
  | .fups => t.fups = s.fups

/-- The rows of the table that submit a ticket in RUN, each with the COMMAND and arguments that are its own (R67, R176, R185,
R267, R330, R431). -/
def ticketRows : List ((Tkt → Instr) × (Nat → List Nat → Bool)) :=
  [(.applyDelta, fun c _ => decide (c = cmdApplyDelta)),
   (.derShiftInitiate, fun c a => decide (c = cmdShift) && decide (bits (a.headD 0) 8 2 = 0)),
   (.derShiftRespond, fun c a => decide (c = cmdShift) && decide (bits (a.headD 0) 8 2 = 1)),
   (.protectionClear, fun c a => decide (c = cmdProtection) && decide (a.getD 1 0 = 0)),
   (.protectionLo, fun c a => decide (c = cmdProtection) && decide (a.getD 1 0 = 1)),
   (.protectionFs, fun c a => decide (c = cmdProtection) && decide (a.getD 1 0 = 2)),
   (.protectionMsP, fun c a => decide (c = cmdProtection) && decide (a.getD 1 0 = 3)),
   (.protectionMsW, fun c a => decide (c = cmdProtection) && decide (a.getD 1 0 = 4)),
   (.containerAdd, fun c a => decide (c = cmdContainer) && decide (editOp a = 1)),
   (.containerChange, fun c a => decide (c = cmdContainer) && decide (editOp a = 2)),
   (.containerDelete, fun c a => decide (c = cmdContainer) && decide (editOp a = 3)),
   (.queueAdd, fun c a => decide (c = cmdContainer) && decide (editOp a = 4)),
   (.queueChange, fun c a => decide (c = cmdContainer) && decide (editOp a = 5)),
   (.queueDelete, fun c a => decide (c = cmdContainer) && decide (editOp a = 6)),
   (.shaperChange, fun c _ => decide (c = cmdShaper)),
   (.rekeyNow, fun c a => decide (c = cmdRekey) && decide (bits (a.headD 0) 30 2 = 0)),
   (.rekeyNowSpan, fun c a => decide (c = cmdRekey) && bit (a.headD 0) 30),
   (.rekeyNowAll, fun c a => decide (c = cmdRekey) && decide (bits (a.headD 0) 30 2 = 2)),
   (.kickstandEnterCarrier, fun c a => decide (c = cmdKickstandEnter) && !bit (a.headD 0) 31),
   (.kickstandEnterPackage, fun c a => decide (c = cmdKickstandEnter) && bit (a.headD 0) 31),
   (.kickstandLeave, fun c _ => decide (c = cmdKickstandLeave)),
   (.clearSec, fun c _ => decide (c = cmdClearSec)),
   (.blowRepairRow, fun c a => decide (c = cmdBlowRepair) && !bit (a.headD 0) 8),
   (.blowRepairColumn, fun c a => decide (c = cmdBlowRepair) && bit (a.headD 0) 8),
   (.restart, fun c _ => decide (c = cmdRestart)),
   (.flashRelease, fun c _ => decide (c = cmdFlashRelease)),
   (.flashReclaim, fun c _ => decide (c = cmdFlashReclaim)),
   (.advanceSvn, fun c _ => decide (c = cmdAdvanceSvn))]

/-- The state in which a ticket has taken its COUNTER (R63 check 7, R65). -/
def State.ctrTaken (s : State) (ctr : Nat) : State := (s.journalWrite ctr).set (.tkt .ctrLast) 0 0 ctr

/-- The part is in RUN and processes the ticket at the front, which it holds as `i`, with the records `l` (R62, R63 check 3). -/
def State.processes (s : State) (t : Tkt) (i : TktIn) (l : List Rec) : Bool :=
  s.inRun && s.ticketTurn && decide (s.front t = some i) && decide (i.form = some l)

/-- Checks 4 to 7 of R63 pass. -/
def State.admits (s : State) (i : TktIn) : Bool :=
  decide (i.node = s.get (.tkt .nodeId) 0 0) && !s.flag (.tkt .hashFail) 0 0 && i.sigOk &&
    decide (i.keyIndex ≤ s.get (.tkt .keys) 0 0) && decide (s.get (.tkt .ctrLast) 0 0 < i.counter) && !s.journalBlocked i.counter

/-- Every check of R63 passes. -/
def State.passes (s : State) (t : Tkt) (i : TktIn) (l : List Rec) : Bool :=
  s.processes t i l && s.admits i && (s.ctrTaken i.counter).keyPermits i.keyIndex i.command &&
    decide ((s.ctrTaken i.counter).ticketFault i.command i.args l = none)

/-- A record that does not wait. -/
def recAtOnce (r : Rec) : Bool :=
  match r with
  | .waitUs _ | .pollUntil _ _ _ _ => false
  | _ => true

/-- Argument word `k` of a ticket. -/
def TktIn.arg (i : TktIn) (k : Nat) : Nat := i.args.getD k 0

end Sys2Proof.Machine
end

