-- ==== Sys2Proof/Footprint.lean ====
section
/-!
DEFINITION. Footprints: for each command the cells and the other parts of the state that it may change, for the statements
about what a command leaves alone.  A footprint says which die's cells may change; everything outside it, and outside the
summary bits of R437 and R438 and the interrupt lines of R468, stays as it was.
-/
namespace Sys2Proof.Machine

/-- The kinds of cells that some commands reach by an address or a window. -/
inductive CellKind where
  | live | sticky | mask | win | winNew | winDirty
  deriving DecidableEq, Repr

/-- The kind of a cell. -/
def Cell.kind : Cell → Option CellKind
  | .live _ => some .live
  | .sticky _ => some .sticky
  | .mask _ => some .mask
  | .win _ => some .win
  | .winNew _ => some .winNew
  | .winDirty _ => some .winDirty
  | _ => none

/-- The chapters of spec/ in groups. -/
inductive Side where
  | chain | line | host | memory | keys | clocks | analogue | package
  deriving DecidableEq, Repr

/-- A footprint: cells of the command's own die, cells of die 0, which holds the single copies, cells of any die, and the
parts of the state beside the cells; every command may also add to or reorder the reports. -/
structure Foot where
  own : List Cell := []
  lead : List Cell := []
  every : List Cell := []
  ownKinds : List CellKind := []
  anyKinds : List CellKind := []
  parts : List Part := []
  deriving DecidableEq, Repr

/-- A condition and its sticky bit; sticky bits alone; live bits alone. -/
def conds (l : List Alm) : List Cell := l.flatMap fun a => [.live a, .sticky a]
def stickies (l : List Alm) : List Cell := l.map .sticky
def lives (l : List Alm) : List Cell := l.map .live

/-- The cell at a place lies in a footprint whose own die is `die`. -/
def Foot.moves (f : Foot) (die : Nat) (k : Key) : Bool :=
  k.cell.summary || f.every.contains k.cell || (k.die == die && f.own.contains k.cell) ||
    (k.die == 0 && f.lead.contains k.cell) ||
    (match k.cell.kind with
     | some x => f.anyKinds.contains x || (k.die == die && f.ownKinds.contains x)
     | none => false)

/-- A part beside the cells lies in a footprint. -/
def Foot.touches (f : Foot) (p : Part) : Bool := decide (p = .reports) || f.parts.contains p

/-- Everything in one of several footprints. -/
def Foot.join (l : List Foot) : Foot :=
  { own := l.flatMap Foot.own, lead := l.flatMap Foot.lead, every := l.flatMap Foot.every,
    ownKinds := l.flatMap Foot.ownKinds, anyKinds := l.flatMap Foot.anyKinds, parts := l.flatMap Foot.parts }

-- What the shared operations may change.

/-- What `State.alignRefresh` may change. -/
def footAlignRefresh : Foot :=
  { own := [.ct .align, .ct .candCount, .tim .evtAt, .tim .evtNext] ++ conds [.ctLof, .ctOof],
    every := conds [.ctnSf] }

/-- What `State.bellFollow` may change. -/
def footBellFollow : Foot :=
  { own := [.bell .pend, .bell .txState] ++ conds [.bellTxBlocked] }

/-- What `State.biasShow` may change. -/
def footBiasShow : Foot :=
  { own := [.bias .biasLock, .bias .nUnlock, .bias .outMv, .bias .ptAcq, .bias .ptBase, .bias .ptFirst,
        .bias .ptLockRun, .bias .ptLocked, .bias .ptState, .bias .ptTry, .bias .ptUnlRun, .bias .ptV, .lt .begun4,
        .lt .muteCause, .lt .nMuteEnter, .lt .otherCause, .lt .ramp, .lt .txState] ++ conds [.biasNearRail,
        .biasOutFault, .biasRail, .biasUnlock, .ltTxDown],
    lead := [.sys .freeCount] }

/-- What `State.chanNext` may change. -/
def footChanNext : Foot :=
  { lead := [.svc .busy, .svc .crrHolder, .svc .nSuspend, .svc .nWait, .svc .owner, .svc .s0Agent, .svc .s0Valid,
        .svc .s1Agent, .svc .s1Valid, .svc .suspender, .svc .waiting, .sys .freeCount],
    every := [.crr .cls, .crr .depth, .crr .descIdx, .crr .doneBytes, .crr .fault, .crr .faultAddr,
        .crr .faultSpace, .crr .nBytes, .crr .nCipherWait, .crr .nFault, .crr .state] ++ conds [.crrHalt] ++
        stickies [.crrPcie] }

/-- What `State.clampSet` may change. -/
def footClampSet : Foot :=
  { lead := [.sys .freeCount],
    every := [.bias .biasLock, .bias .hvClamp, .bias .nUnlock, .bias .outMv, .bias .ptAcq, .bias .ptBase,
        .bias .ptFirst, .bias .ptLockRun, .bias .ptLocked, .bias .ptState, .bias .ptTry, .bias .ptUnlRun,
        .bias .ptV, .lt .begun4, .lt .muteCause, .lt .nMuteEnter, .lt .otherCause, .lt .ramp, .lt .txState] ++
        conds [.biasNearRail, .biasOutFault, .biasRail, .biasUnlock, .ltTxDown] }

/-- What `State.convFore` may change. -/
def footConvFore : Foot :=
  { own := [.cal .coef, .cal .convFailed, .cal .convTimeNs, .cal .convTimeS, .cal .convValid, .cal .nConvCount,
        .cal .nConvReject, .cal .rejRun, .cal .setMeasured, .cal .spareFor, .cal .sparePerm, .cal .stale],
    lead := conds [.calConvFail, .calConvNoSpare] ++ stickies [.calConvReject] ++ lives [.calConvStale] }

/-- What `State.derEnd` may change. -/
def footDerEnd : Foot :=
  { lead := [.der .result, .der .state],
    every := [.der .kind, .der .kindEpoch, .der .lastShift, .der .ready, .der .rxSide, .der .txSide, .der .uRole,
        .der .uShiftId, .winDirty .ctTsmap] ++ lives [.derAis, .derMissed] }

/-- What `State.derPropose` may change. -/
def footDerPropose : Foot :=
  { lead := [.der .armedRx, .der .auto, .der .doneSent, .der .epoch, .der .failCarrier, .der .far, .der .farCommit,
        .der .farDone, .der .farEpoch, .der .lastMsg, .der .lastOn, .der .lastReason, .der .partner, .der .pelMask,
        .der .reason, .der .result, .der .role, .der .seen, .der .shiftId, .der .shiftMask, .der .state,
        .der .tandemMask, .der .txSeq],
    every := [.der .oldMap, .der .onNew, .der .ready, .der .returned, .der .rxEpoch, .der .rxEpochHeld,
        .der .rxSide, .der .txSide, .der .uReason, .der .uRole, .der .uShiftId] ++ lives [.derSplit] }

/-- What `State.derSend` may change. -/
def footDerSend : Foot :=
  { lead := [.der .lastMsg, .der .lastOn, .der .lastReason, .der .txSeq] }

/-- What `State.discFail` may change. -/
def footDiscFail : Foot :=
  { own := [.bell .discFailReason, .bell .discRun, .bell .discState] ++ conds [.bellDiscFail],
    lead := [.boot .procCalled, .boot .procCode, .boot .procDone] }

/-- What `State.dpllSelect1` may change. -/
def footDpllSelect1 : Foot :=
  { lead := [.clk .dpllFreq, .clk .dpllState, .clk .driftRun, .clk .nFw, .clk .nSwitch, .clk .phase,
        .clk .selected, .sys .freeCount] ++ conds [.clkAFreewheel, .clkBFreewheel] ++ stickies [.clkASwitch,
        .clkBSwitch] }

/-- What `State.entryLoad` may change. -/
def footEntryLoad : Foot :=
  { own := [.lr .compHi, .lr .compLo, .lr .const, .lr .entropy, .lr .fecRate, .lr .lineStd, .lr .netK,
        .lr .pilotGain, .lr .rolloff, .lr .rs, .lt .compHi, .lt .compLo, .lt .const, .lt .entropy, .lt .fecRate,
        .lt .lineStd, .lt .netK, .lt .nlpdBank, .lt .pilotGain, .lt .rolloff, .lt .rs] }

/-- What `State.goWrite` may change. -/
def footGoWrite : Foot :=
  { lead := [.tkt .hostWrRejAddr, .tkt .lastCode, .tkt .lastRecord, .tkt .mboxBusy, .tkt .mboxLen,
        .tkt .nHostWrRej, .tkt .nRejected, .tkt .rejHeld] }

/-- What `State.hsFail` may change. -/
def footHsFail : Foot :=
  { lead := [.boot .procCalled, .boot .procCode, .boot .procDone, .sbg .kaSpan, .sbg .nHsFail, .sbg .spRetry,
        .sbg .spStep, .sbg .spansUp, .win .sbgSpan] }

/-- What `State.ksLeave` may change. -/
def footKsLeave : Foot :=
  { lead := [.ao .wakeCarrier, .ao .wakeSource, .boot .procCalled, .boot .procCode, .boot .procDone,
        .pwr .nKsLateWake, .pwr .nKsReverse, .pwr .nWake, .pwr .nWakeIgnored, .sbg .drbgCount, .sbg .kwOk,
        .sbg .nDrbgReseed, .sbg .wrapCtr, .sbg .xtsPend, .sys .dieReleased],
    every := [.bias .ptAcq, .bias .ptBase, .bias .ptState, .bias .ptV, .chn .attempt, .chn .portEn, .chn .state,
        .cry .restore, .cry .rxState, .cry .txState, .ct .align, .ct .candCount, .ct .inFrame, .ct .lof,
        .ct .mfasSeen, .ct .misses, .ct .nOofEnter, .fec .candAt, .fec .failRun, .fec .iterCap, .fec .lockState,
        .hl .badRun, .hl .capsRun, .hl .cdrLock, .hl .corrRx, .hl .corrTx, .hl .countdown, .hl .eqCm1, .hl .eqCm2,
        .hl .eqCp1, .hl .fLock, .hl .farCount, .hl .farPreCap, .hl .fellBack, .hl .gear, .hl .goodRun,
        .hl .idleReq, .hl .idleRun, .hl .keep, .hl .nIdleExit, .hl .nNegAttempt, .hl .pGear, .hl .pState,
        .hl .portEn, .hl .preNext, .hl .preRx, .hl .preTx, .hl .readyLeft, .hl .readyRun, .hl .relock,
        .hl .reqResult, .hl .reqSeq, .hl .rxReady, .hl .sig, .hl .state, .hl .stepFails, .hl .switched,
        .hl .waitSig, .lr .acqRetryLeft, .lr .cdEst, .lr .cdEstValid, .lr .fastRun, .lr .missed, .lr .nAcqAttempt,
        .lr .rxSf, .lr .rxState, .lr .winLocked, .lt .begun4, .lt .muteCause, .lt .nMuteEnter, .lt .otherCause,
        .lt .ramp, .lt .sysCause, .lt .txState, .pan .state, .pwr .lateBell, .pwr .lateWake, .pwr .stage,
        .pwr .wakeEn, .tim .evtAt, .tim .evtNext] ++ conds [.ctLof, .ctOof, .ctnSf, .fecSf, .hlpLinkDown,
        .lrCdNearLimit, .lrLoLost, .lrRxDown, .ltTxDown, .panDown] ++ lives [.hllLol] }

/-- What `State.laneForced` may change. -/
def footLaneForced : Foot :=
  { own := [.hl .badRun, .hl .capsRun, .hl .cdrLock, .hl .countdown, .hl .eqCm1, .hl .eqCm2, .hl .eqCp1,
        .hl .fLock, .hl .farCount, .hl .farPreCap, .hl .fellBack, .hl .gear, .hl .goodRun, .hl .idleRun, .hl .keep,
        .hl .preNext, .hl .preRx, .hl .preTx, .hl .readyLeft, .hl .readyRun, .hl .relock, .hl .reqResult,
        .hl .reqSeq, .hl .rxReady, .hl .state, .hl .stepFails, .hl .switched, .hl .waitSig] }

/-- What `State.laneSearch` may change. -/
def footLaneSearch : Foot :=
  { own := [.hl .badRun, .hl .fLock, .hl .goodRun, .hl .readyLeft, .hl .readyRun, .hl .rxReady] }

/-- What `State.lasFail` may change. -/
def footLasFail : Foot :=
  { own := [.bias .ptAcq, .bias .ptBase, .bias .ptState, .bias .ptV, .las .lowCount, .las .nFaultEnter,
        .las .reason, .las .recovering, .las .state, .lt .begun4, .lt .muteCause, .lt .nMuteEnter, .lt .otherCause,
        .lt .ramp, .lt .txState] ++ conds [.lasFault, .lrLoLost, .ltTxDown],
    lead := [.boot .procCalled, .boot .procCode, .boot .procDone] }

/-- What `State.linkDown` may change. -/
def footLinkDown : Foot :=
  { lead := [.sys .pcieUp],
    every := [.crr .cls, .crr .depth, .crr .descIdx, .crr .doneBytes, .crr .fault, .crr .faultAddr,
        .crr .faultSpace, .crr .nBytes, .crr .nFault, .crr .state] ++ conds [.crrHalt] ++ stickies [.crrPcie] }

/-- What `State.mergeWrite` may change. -/
def footMergeWrite : Foot :=
  { every := [.pan .given, .pan .migDirty, .pan .nHard, .pan .nMergeRmw, .pan .nPoisonWr, .pan .nRetireDrop,
        .pan .nUe, .pan .nXtsFault, .pan .poison, .pan .retirePend, .pan .sparesLeft, .pan .taken, .pan .wbPend] ++
        conds [.panMigUrgent, .panSpareEmpty, .panSpareLow] ++ stickies [.panHardFault, .panRetireDrop, .panUe] }

/-- What `State.muteRefresh` may change. -/
def footMuteRefresh : Foot :=
  { own := [.bias .ptAcq, .bias .ptBase, .bias .ptState, .bias .ptV, .lt .begun4, .lt .muteCause, .lt .nMuteEnter,
        .lt .otherCause, .lt .ramp, .lt .txState] ++ conds [.ltTxDown] }

/-- What `State.occSub` may change. -/
def footOccSub : Foot :=
  { own := [.hl .pXoff, .qs .brake, .qs .dieOcc, .qs .occWords, .qs .qXoff, .qs .rd] ++ conds [.qsBrakeOn] }

/-- What `State.pathChange` may change. -/
def footPathChange : Foot :=
  { lead := [.tim .nPce, .tim .pceNext, .win .timPce] ++ stickies [.timPathChange],
    every := [.tim .evtAt, .tim .evtNext] }

/-- What `State.pelAlarms` may change. -/
def footPelAlarms : Foot :=
  { own := conds [.pelLate, .pelNbLost, .pelSuspended, .pelWalkExc] }

/-- What `State.portRefresh` may change. -/
def footPortRefresh : Foot :=
  { own := [.hl .corrRx, .hl .corrTx, .hl .pGear, .hl .pState] ++ conds [.hlpLinkDown],
    lead := [.boot .procCalled, .boot .procCode, .boot .procDone] }

/-- What `State.readPlace` may change. -/
def footReadPlace : Foot :=
  { lead := [.crc .slotRead, .sys .freeCount, .sys .snapAddr, .sys .snapHi, .sys .snapValid, .sys .tbLatchFrac,
        .sys .tbLatchSec, .sys .tbLatchValid, .tkt .rejHeld],
    every := [.mon .fOutLatched, .sys .winEntry, .sys .winWord] }

/-- What `State.rekeyStart` may change. -/
def footRekeyStart : Foot :=
  { own := [.cry .flitFailed, .cry .txLast, .cry .txNext, .cry .txNextEpoch, .cry .txNextSms, .cry .txRetry,
        .cry .txSms, .cry .txState] ++ conds [.cryCryptoHold],
    lead := [.sbg .spSent, .sbg .spSeqTx, .sbg .spTxType] ++ conds [.sbgCryptoHoldAny] }

/-- What `State.rxBankSwitch` may change. -/
def footRxBankSwitch : Foot :=
  { own := [.ct .align, .ct .candCount, .ct .inFrame, .ct .lof, .ct .mfasSeen, .ct .misses, .ct .nOofEnter,
        .fec .candAt, .fec .failRun, .fec .iterCap, .fec .latNs, .fec .lockState, .lr .bank, .lr .latBase,
        .lr .latNs, .lr .missed, .lr .modeReload, .lr .nBankSwitch, .lr .rxSf, .lr .rxState, .lr .winLocked] ++
        conds [.ctLof, .ctOof, .fecSf, .lrCdNearLimit, .lrRxDown],
    lead := [.sys .freeCount, .tim .nPce, .tim .pceNext, .win .timPce] ++ stickies [.timPathChange],
    every := [.pel .taps, .tim .evtAt, .tim .evtNext] ++ conds [.ctnSf] }

/-- What `State.rxGo` may change. -/
def footRxGo : Foot :=
  { own := [.ct .align, .ct .candCount, .ct .inFrame, .ct .lof, .ct .mfasSeen, .ct .misses, .ct .nOofEnter,
        .fec .candAt, .fec .failRun, .fec .iterCap, .fec .lockState, .lr .missed, .lr .rxSf, .lr .rxState,
        .lr .winLocked, .tim .evtAt, .tim .evtNext] ++ conds [.ctLof, .ctOof, .fecSf, .lrRxDown],
    every := conds [.ctnSf] }

/-- What `State.servoSample` may change. -/
def footServoSample : Foot :=
  { lead := [.clk .ppsErr, .clk .ppsErr8, .tim .integ, .tim .lockRun, .tim .nOutlier, .tim .nSamples, .tim .nStep,
        .tim .nTrigFired, .tim .nTrigLate, .tim .outRun, .tim .sampAt, .tim .tbFreq, .tim .tbNs, .tim .tbOffset,
        .tim .tbSec, .tim .tbState, .tim .tbValid, .tim .trigArmed, .tim .trigHeld, .tim .trigTgt, .tim .trim] ++
        conds [.clkPpsSlew, .timTbHold] ++ stickies [.timTbStep, .timTrigLate] }

/-- What `State.startFail` may change. -/
def footStartFail : Foot :=
  { lead := [.ao .triesA, .ao .triesB, .boot .detail, .boot .errAddr, .boot .errCode, .boot .errDie,
        .boot .phaseMs, .boot .phaseRun, .boot .procCalled, .boot .procCode, .boot .procDone, .boot .state,
        .sys .freeCount, .tkt .ctrLast] ++ conds [.bootRestarted],
    every := [.bias .biasLock, .bias .light, .bias .nUnlock, .bias .outMv, .bias .ptAcq, .bias .ptBase,
        .bias .ptFirst, .bias .ptLockRun, .bias .ptLocked, .bias .ptState, .bias .ptTry, .bias .ptUnlRun,
        .bias .ptV, .hl .badRun, .hl .capsRun, .hl .corrRx, .hl .corrTx, .hl .countdown, .hl .fLock, .hl .farCount,
        .hl .farPreCap, .hl .fellBack, .hl .goodRun, .hl .idleRun, .hl .keep, .hl .pGear, .hl .pState,
        .hl .preNext, .hl .readyLeft, .hl .readyRun, .hl .relock, .hl .reqResult, .hl .reqSeq, .hl .rxReady,
        .hl .state, .hl .stepFails, .hl .switched, .hl .waitSig, .las .lowCount, .las .reason, .las .recovering,
        .las .state, .lt .begun4, .lt .muteCause, .lt .nMuteEnter, .lt .otherCause, .lt .ramp, .lt .sysCause,
        .lt .txState] ++ conds [.biasNearRail, .biasOutFault, .biasRail, .biasUnlock, .hlpLinkDown, .lrLoLost,
        .ltTxDown] ++ lives [.lasFault] }

/-- What `State.svcFail` may change. -/
def footSvcFail : Foot :=
  { lead := [.svc .crrHolder, .svc .retried, .svc .waiting, .tkt .hashFail],
    every := [.crr .cls, .crr .depth, .crr .descIdx, .crr .doneBytes, .crr .fault, .crr .faultAddr,
        .crr .faultSpace, .crr .nBytes, .crr .nFault, .crr .state] ++ conds [.crrHalt] ++ stickies [.crrPcie] }

/-- What `State.takeSpare` may change. -/
def footTakeSpare : Foot :=
  { own := [.pan .given, .pan .sparesLeft, .pan .taken] ++ conds [.panSpareEmpty, .panSpareLow] }

/-- What `State.ticketDone` may change. -/
def footTicketDone : Foot :=
  { lead := [.tkt .fetched, .tkt .hashFail, .tkt .lastCode, .tkt .lastRecord, .tkt .mboxBusy, .tkt .nAccepted,
        .tkt .nRejected, .tkt .ringHead, .tkt .ringPost] }

/-- What `State.traceRec` may change. -/
def footTraceRec : Foot :=
  { own := [.trc .count, .trc .nLost, .trc .trcNext, .win .trcBuf] ++ conds [.trcFull],
    lead := [.tel .dropped, .tel .nDrop, .tel .written] ++ stickies [.telOvf] }

/-- What `State.trigLateFire` may change. -/
def footTrigLateFire : Foot :=
  { lead := [.tim .nTrigFired, .tim .nTrigLate, .tim .trigArmed, .tim .trigHeld, .tim .trigTgt] ++ stickies
        [.timTrigLate] }

-- What a ticket may change, by the COMMAND it carries.

/-- What the completion of a ticket may change. -/
def footDone : Foot :=
  .join [footTicketDone, { parts := [.run, .tickets] }]

/-- What a new journal entry may change. -/
def footJournal : Foot :=
  { lead := [.tkt .ceiling, .tkt .jBlank, .tkt .jEraseWait, .tkt .jErasing, .tkt .jPos, .tkt .jSeq,
        .tkt .nJournalWr] }

/-- What a read of one word may change. -/
def footRead : Foot :=
  .join [footReadPlace, { lead := [.tkt .nHostRdDeny], parts := [.readData] }]

/-- What a word that the host writes may change. -/
def footHost : Foot :=
  .join [footGoWrite,
  { lead := [.tel .db, .tel .nDbBad, .tkt .nRingBad, .tkt .ringTail],
    anyKinds := [.sticky],
    parts := [.mbox, .telOut, .tickets] }]

/-- What a window register that the management cores or Courier write may change. -/
def footPort : Foot :=
  { lead := [.sys .freeCount],
    every := [.lt .firPending, .mon .fAcc, .mon .fDel, .mon .fGd, .mon .fOuts, .mon .fPhase, .mon .fSeed,
        .mon .fSub, .mon .fValid, .qs .clsOp, .qs .clsResult, .qs .clsUsed, .qs .nClsNoRoom, .sys .winBusy,
        .sys .winEntry, .sys .winWord, .win .monSeq, .win .qsCls, .winDirty .monSeq, .winNew .monSeq] ++ stickies
        [.qsClsNoRoom],
    anyKinds := [.mask, .sticky, .win, .winDirty, .winNew],
    parts := [.clsTab] }

/-- What the command of an accepted ticket without records may change; none: RESTART, after which nothing of the dies stays
as it was. -/
def footAct (cmd : Nat) : Option Foot :=
  match cmd with
  | 1 => some (.join [footDerPropose, { lead := [.der .initNode] }])
  | 2 => some
      { every := [.tdm .loc, .tdm .nSwitch, .tdm .req, .tdm .sel, .tdm .wtr] ++ stickies [.tdmSwitched] }
  | 3 => some { every := [.qs .cDrain, .qs .clsUsed, .qs .qDrain], parts := [.clsTab] }
  | 5 => some (.join [footHsFail,
      { lead := [.sbg .drbgCount, .sbg .nDrbgReseed, .sbg .spRekey, .sbg .spSent, .sbg .spSeqTx, .sbg .spTxType] ++
            conds [.sbgCryptoHoldAny],
        every := [.cry .flitFailed, .cry .txLast, .cry .txNext, .cry .txNextEpoch, .cry .txNextSms, .cry .txRetry,
            .cry .txSms, .cry .txState] ++ conds [.cryCryptoHold] }])
  | 6 => some
      { lead := [.boot .procCalled, .boot .procCode, .boot .procDone, .pwr .pkgMove, .pwr .pkgWakeEn],
        every := [.hl .badRun, .hl .capsRun, .hl .corrRx, .hl .corrTx, .hl .countdown, .hl .fLock, .hl .farCount,
            .hl .farPreCap, .hl .fellBack, .hl .goodRun, .hl .idleReq, .hl .idleRun, .hl .keep, .hl .pGear,
            .hl .pState, .hl .preNext, .hl .readyLeft, .hl .readyRun, .hl .relock, .hl .reqResult, .hl .reqSeq,
            .hl .rxReady, .hl .state, .hl .stepFails, .hl .switched, .hl .waitSig, .pwr .lateWake, .pwr .stage,
            .pwr .wakeDelay, .pwr .wakeEn, .pwr .wakeGroup] ++ conds [.hlpLinkDown] }
  | 7 => some (.join [footKsLeave, { parts := [.cands] }])
  | 8 => some { anyKinds := [.sticky] }
  | 9 => some { every := [.pan .fuse] }
  | 12 => some { lead := [.ao .flashReleased, .tkt .jBlank, .tkt .jErasing, .tkt .nJournalErase] }
  | 13 => some { lead := [.ao .flashReleased, .tkt .jEraseWait, .tkt .jErasing] }
  | 14 => some { lead := [.boot .fuseSvn, .sys .fuseSvn] }
  | 11 => none
  | _ => some {}

/-- What a ticket may change before its command acts: its counter, the journal, and what its completion shows. -/
def footTicket : Foot := .join [footDone, footJournal, { lead := [.tkt .ctrLast] }]

/-- What a restart, a reset pin, a failed rail or a tamper trip may change of what survives it, or may leave at another value
than after reset of what does not. -/
def footRestart : Foot :=
  .join [footClampSet,
    { lead := [.ao .powerOff, .ao .flashReleased, .ao .tamperDown, .ao .stuck, .ao .nTamper, .ao .nPgFail, .ao .wakeSource,
          .ao .wakeCarrier, .sys .sysRstN, .sys .jtagIr, .boot .step, .boot .state, .pwr .nWake, .tim .fromAo, .tim .tbSec,
          .tim .tbNs] ++ conds (railAlm ++ hvAlm ++ tamperAlm ++ [.bootRestarted]),
      every := [.bell .pend, .bell .txCompat, .bell .txSrc, .bell .cur, .bell .txState, .bell .gaspOut, .bell .gaspOutLoc] ++
          conds [.bellTxBlocked] }]

/-- The commands that may bring such a restart, reset or failure with them. -/
def resetCmd : Instr → Bool
  | .sysRstLow | .sysRstRise | .restartWaitExpiry | .railRecovered | .railFail _ _ | .tamperTrip _ | .tamperHoldExpiry _ => true
  | _ => false


end Sys2Proof.Machine

namespace Sys2Proof

open Sys2Proof.Machine

/-- The side of the machine that a command belongs to, the die of its own cells, and its footprint in a state; none where it
may change anything: a write that takes effect, an accepted ticket, a restart, a failure of the rails. -/
def Instr.foot (i : Instr) (s : State) : Option (Side × Nat × Foot) :=
  match i with
  | .registerWrite who _ _ _ =>
    if decide (who ≠ .host) then none
    else some (.package, 0, .join [footGoWrite,
      { lead := [.tel .db, .tel .nDbBad, .tkt .nRingBad, .tkt .ringTail],
        anyKinds := [.sticky],
        parts := [.mbox, .telOut, .tickets] }])
  | .w1cClear _ _ _ _ => some (.package, 0, .join [footStartFail,
      { lead := [.boot .recIndex, .tkt .hostWrRejAddr, .tkt .nHostWrRej, .tkt .rejHeld],
        anyKinds := [.sticky],
        parts := [.run] }])
  | .hostRead _ _ => some (.package, 0, .join [footReadPlace, { lead := [.tkt .nHostRdDeny], parts := [.readData] }])
  | .partialWordAccess _ _ _ =>
    some (.package, 0, { lead := [.tkt .hostWrRejAddr, .tkt .nHostWrRej, .tkt .rejHeld], parts := [.readData] })
  | .spiReadCommand _ _ =>
    some (.package, 0, .join [footReadPlace, { lead := [.tkt .nHostRdDeny], parts := [.readData] }])
  | .spiOtherCommand _ _ => some (.package, 0, { parts := [.readData] })
  | .counterLowRead _ _ =>
    some (.package, 0, .join [footReadPlace, { lead := [.tkt .nHostRdDeny], parts := [.readData] }])
  | .counterHighRead _ _ =>
    some (.package, 0, .join [footReadPlace, { lead := [.tkt .nHostRdDeny], parts := [.readData] }])
  | .timTbNsRead _ _ =>
    some (.package, 0, .join [footReadPlace, { lead := [.tkt .nHostRdDeny], parts := [.readData] }])
  | .monFiltStatRead _ _ _ =>
    some (.package, 0, .join [footReadPlace, { lead := [.tkt .nHostRdDeny], parts := [.readData] }])
  | .windowDataAccess port _ _ write _ =>
    if !write then some (.package, 0, footRead)
    else if port = .pcie then some (.package, 0, footHost)
    else if port = .mgmt ∨ port = .courier then some (.package, 0, footPort)
    else none
  | .chainFlitTx d _ _ => some (.chain, d,
      { own := [.chn .credits, .chn .lastCls, .chn .lastDest, .chn .nFlitTx, .chn .replayLeft, .chn .txSeq,
            .chn .unacked],
        lead := [.sys .freeCount],
        parts := [.held] })
  | .chainFlitRx d _ _ _ _ _ => some (.chain, d,
      { own := [.chn .nCrcErr, .chn .nFlitRx, .chn .nPelLate, .chn .replayRun, .chn .rxSeq],
        every := [.chn .credits, .chn .nReplay, .chn .replayLeft, .chn .unacked] })
  | .chainPortEnable d _ => some (.chain, d, { own := [.chn .attempt, .chn .portEn, .chn .state] })
  | .chainPortDisable d _ => some (.chain, d,
      { own := [.chn .attempt, .chn .clkOk, .chn .failedLane, .chn .portEn, .chn .spareUsed, .chn .state] ++ lives
            [.chnClkLoss, .chnDown, .chnLaneSpared, .chnPeerMismatch] })
  | .chainTrainAttemptEnd d _ _ _ _ => some (.chain, d,
      { own := [.chn .attempt, .chn .clkOk, .chn .failedLane, .chn .nRetrain, .chn .peerDie, .chn .replayLeft,
            .chn .spareUsed, .chn .state] ++ conds [.chnDown, .chnLaneSpared, .chnPeerMismatch] ++ lives
            [.chnClkLoss] })
  | .chainClkLoss d _ => some (.chain, d,
      { own := [.chn .attempt, .chn .clkOk, .chn .nRetrain, .chn .replayRun, .chn .state] ++ conds [.chnClkLoss] })
  | .chainReplayLimit d _ =>
    some (.chain, d, { own := [.chn .attempt, .chn .nRetrain, .chn .replayRun, .chn .state] })
  | .chainPeerRetrain d _ =>
    some (.chain, d, { own := [.chn .attempt, .chn .nRetrain, .chn .replayRun, .chn .state] })
  | .chainHeldFlitRelease d => some (.chain, d,
      { own := [.chn .credits, .chn .lastCls, .chn .lastDest, .chn .nFlitTx, .chn .txSeq, .chn .unacked],
        parts := [.held] })
  | .spokeFrameRx d _ => some (.chain, d, { own := [.chn .nSpokeCrcErr, .chn .spokeLost] ++ lives [.spokeLost] })
  | .spokeLost d => some (.chain, d,
      { own := [.cal .stale, .chn .spokeLost] ++ conds [.spokeLost], lead := conds [.calConvStale] })
  | .powerGood => some (.package, 0,
      { lead := [.boot .step, .sys .railsGood], every := lives [.biasUnlock], anyKinds := [.live] })
  | .leadDieRelease _ _ _ _ => some (.package, 0, .join [footStartFail,
      { lead := [.boot .entropyPass, .boot .fuseSvn, .boot .katPass, .boot .step, .sbg .keysReady, .sbg .lifecycle,
            .sbg .rngOk, .sys .busMaster, .sys .dieReleased, .sys .msiEn, .sys .pcieUp] ++ conds [.bootFlashHeld]
            ++ lives [.clkAFreewheel, .clkBFreewheel],
        parts := [.run] }])
  | .flashDiscovery _ => some (.package, 0, .join [footStartFail,
      { lead := [.boot .flashMode] ++ conds [.bootSlowFlash], parts := [.run] }])
  | .imageSegmentRead _ _ _ _ =>
    some (.package, 0, { lead := [.boot .nFlashReread, .boot .segCrcBad, .boot .segRead, .boot .state] })
  | .imageVerify _ _ => some (.package, 0, .join [footStartFail,
      { lead := [.boot .imageSvn, .boot .imageVersion, .boot .nodeHdr, .boot .slot, .boot .step, .sbg .lifecycle,
            .sys .fuseOwned, .tkt .jBlank, .tkt .jEraseWait, .tkt .jErasing, .tkt .keyMask, .tkt .keys] ++ conds
            [.bootCrcMismatch, .bootFallback, .bootJournalInvalid],
        parts := [.imgPolicy, .run, .trust] }])
  | .phaseStart _ _ _ _ =>
    if decide (s.badBanks ≠ []) then none
    else some (.package, 0, .join [footStartFail,
      { lead := [.boot .memberReady, .boot .phase, .boot .phaseAt, .boot .phaseBudget, .boot .recIndex,
            .boot .wrotePortCfg, .sbg .drbgCount, .sbg .kwOk, .sbg .nDrbgReseed, .sbg .wrapCtr, .sys .dieReleased],
        every := [.boot .wroteBank],
        parts := [.run] }])
  | .memberDieReady _ _ => some (.package, 0, { lead := [.boot .memberReady] })
  | .memberDieTimeout _ => some (.package, 0, .join [footStartFail, { parts := [.run] }])
  | .phaseTimeout => some (.package, 0, .join [footStartFail, { parts := [.run] }])
  | .recordWrite _ _ _ => none
  | .recordFill _ _ _ _ _ => none
  | .recordTable _ _ _ _ => none
  | .recordWaitUs _ => some (.package, 0, .join [footStartFail, { parts := [.run] }])
  | .waitUsExpiry =>
    if s.run.any (fun r => r.byTicket) then none
    else some (.package, 0, { lead := [.boot .recIndex], parts := [.run] })
  | .recordPollUntil _ _ _ _ => some (.package, 0, .join [footStartFail, footReadPlace, { parts := [.run] }])
  | .pollUntilMatch =>
    if s.run.any (fun r => r.byTicket) then none
    else some (.package, 0, .join [footReadPlace, { lead := [.boot .recIndex], parts := [.run] }])
  | .pollUntilTimeout => some (.package, 0, .join [footStartFail, footTicketDone, { parts := [.run, .tickets] }])
  | .recordProc _ _ =>
    some (.package, 0, .join [footStartFail, { lead := [.boot .procArgW, .boot .procId], parts := [.run] }])
  | .procReturn =>
    some (.package, 0, .join [footStartFail, { lead := [.boot .procId, .boot .recIndex], parts := [.run] }])
  | .pannierInit d _ _ _ _ _ => some (.memory, d, .join [footTakeSpare,
      { own := [.pan .appliedNew, .pan .fuseFree, .pan .homeOf, .pan .mapTo, .pan .migDirty, .pan .migHome,
            .pan .nCeCheck, .pan .nCeData, .pan .nHard, .pan .nRetire, .pan .nUe, .pan .out, .pan .poison,
            .pan .pprLeft, .pan .rebuild, .pan .records, .pan .retirePend, .pan .rowPages, .pan .state,
            .pan .wbPend, .pan .xtsReady, .win .panRepair, .win .panRetire] ++ conds [.panDown, .panMigUrgent] ++
            stickies [.panHardFault, .panUe] ++ lives [.panWalkFault],
        lead := [.boot .procCalled, .boot .procCode, .boot .procDone, .sbg .drbgCount, .sbg .nDrbgReseed,
            .sys .freeCount],
        parts := [.merge, .retireQ, .tracker] }])
  | .eccSelftest _ _ => some (.memory, 0,
      { lead := [.boot .eccPass, .boot .eccRan, .boot .procCalled, .boot .procCode, .boot .procDone] })
  | .applyRepair d _ => some (.memory, d, .join [footTakeSpare,
      { own := [.pan .appliedNew, .pan .pprHeld, .pan .pprLeft, .pan .rowPages, .win .panRepair],
        lead := [.boot .procCalled, .boot .procCode, .boot .procDone] }])
  | .laserDiscover d _ => some (.line, d, .join [footBiasShow, footLasFail,
      { own := [.bias .light, .las .passed3, .las .present, .las .refTap] ++ lives [.lasLow] }])
  | .calConverters d _ _ => some (.analogue, d, .join [footConvFore,
      { own := [.cal .bgRun, .cal .convPos, .cal .roundPct],
        lead := [.boot .procCalled, .boot .procCode, .boot .procDone] }])
  | .biasStart d _ => some (.analogue, d, .join [footBiasShow,
      { own := [.bias .initMv, .bias .light, .bias .ptFault, .bias .ptHasLock, .bias .ptLockV, .bias .started,
            .bias .vpiMv] ++ conds [.biasCalFail] ++ stickies [.biasStartFail],
        lead := [.boot .procCalled, .boot .procCode, .boot .procDone] }])
  | .bellDiscover d => some (.keys, d, .join [footDiscFail, footBellFollow,
      { own := [.bell .descOk, .bell .expNode, .bell .farCarrier, .bell .partner, .bell .peerCompat,
            .bell .peerParked, .bell .peerValid, .bell .tolerate] }])
  | .keyAgree => some (.keys, 0, .join [footHsFail,
      { lead := [.sbg .drbgCount, .sbg .nDrbgReseed, .sbg .spSent, .sbg .spSeqTx, .sbg .spTxType] }])
  | .acquireLine d _ _ => some (.line, d, .join [footRxGo, footMuteRefresh,
      { own := [.fec .latNs, .lr .acqRetryLeft, .lr .fastRun, .lr .firstStart, .lr .latBase, .lr .latNs,
            .lr .nAcqAttempt, .lr .rxEn, .lr .tribGain, .lr .tribSkew, .lr .xPhase, .lr .yPhase] ++ conds
            [.lrLoLost, .lrLos, .lrRxcalFail],
        lead := [.sys .freeCount],
        parts := [.cands] }])
  | .hostGears d => some (.host, d, .join [footLaneForced, footPortRefresh, { own := [.hl .nNegAttempt] }])
  | .openTraffic =>
    if decide (s.badBanks ≠ []) then none
    else some (.package, 0, .join [footStartFail,
      { lead := [.ao .tamperDown, .boot .frozen, .boot .policyIn, .boot .procId, .boot .step, .boot .traffic,
            .tkt .ringHead],
        parts := [.policy, .run] }])
  | .restartWaitExpiry => none
  | .ticketGoWrite _ => some (.package, 0, .join [footGoWrite, { parts := [.tickets] }])
  | .ticketRingTailWrite _ => some (.package, 0, { lead := [.tkt .nRingBad, .tkt .ringTail], parts := [.tickets] })
  | .ticketFetchDone _ _ =>
    some (.package, 0, .join [footTicketDone, { lead := [.tkt .fetchLen], parts := [.run, .tickets] }])
  | .ticketExecTimeout => some (.package, 0, .join [footStartFail, footTicketDone, { parts := [.run, .tickets] }])
  | .journalEraseDone => some (.package, 0, { lead := [.tkt .jBlank, .tkt .jErasing, .tkt .nJournalErase] })
  | .applyDelta _ => none
  | .derShiftInitiate _ => none
  | .derShiftRespond _ => none
  | .protectionClear _ => none
  | .protectionLo _ => none
  | .protectionFs _ => none
  | .protectionMsP _ => none
  | .protectionMsW _ => none
  | .containerAdd _ => none
  | .containerChange _ => none
  | .containerDelete _ => none
  | .queueAdd _ => none
  | .queueChange _ => none
  | .queueDelete _ => none
  | .shaperChange _ => none
  | .rekeyNow _ => none
  | .rekeyNowSpan _ => none
  | .rekeyNowAll _ => none
  | .kickstandEnterCarrier _ => none
  | .kickstandEnterPackage _ => none
  | .kickstandLeave _ => none
  | .clearSec _ => none
  | .blowRepairRow _ => none
  | .blowRepairColumn _ => none
  | .restart _ => none
  | .restartInFailed _ _ => none
  | .flashRelease _ => none
  | .flashReclaim _ => none
  | .advanceSvn _ => none
  | .txEnRise d _ => some (.line, d, .join [footMuteRefresh,
      { own := [.lt .bank, .lt .excess, .lt .firPending, .lt .firstStart, .lt .tribGain, .lt .tribSkew, .lt .txEn,
            .lt .xPhase, .lt .yPhase, .win .ltFir] ++ conds [.ltTxcalFail],
        lead := [.sys .freeCount] }])
  | .txEnFall d => some (.line, d, .join [footMuteRefresh, { own := [.lt .txEn] }])
  | .txWaitEnd d => some (.line, d, .join [footMuteRefresh])
  | .txRampComplete d => some (.line, d, .join [footMuteRefresh, { own := [.bias .ptLockRun, .bias .ptUnlRun] }])
  | .txMuteCauseSet d _ => some (.line, d, .join [footMuteRefresh, { own := [.lt .mute] }])
  | .txMuteCauseClear d _ => some (.line, d, .join [footMuteRefresh, { own := [.lt .mute] }])
  | .dspFrameBoundary d => some (.line, d,
      { own := [.lt .firPending, .lt .nDspFrame, .lt .pilotX, .lt .pilotY, .lt .useFir, .lt .useGain, .lt .useNlpd,
            .lt .useSkew, .lt .useXPhase, .lt .useYPhase] })
  | .dacClipWindow d _ => some (.line, d, { own := [.lt .nDacClip] ++ stickies [.ltDacClipHi] })
  | .ltFirApply d => some (.line, d, { own := [.lt .firPending] })
  | .lasTransaction p _ _ => some (.line, p, .join [footMuteRefresh, footLasFail,
      { own := [.las .attempt, .las .nXact, .las .nXactFail, .las .retryWait] }])
  | .lasRetryWaitExpiry p => some (.line, p, { own := [.las .nRetry, .las .retryWait] })
  | .lasPresenceLost p => some (.line, p, .join [footBiasShow, footLasFail,
      { own := [.bias .light, .las .attempt, .las .present, .las .retryWait] }])
  | .lasPoll p _ => some (.line, p, .join [footBiasShow, footLasFail,
      { own := [.bias .light, .las .freqErr, .las .passed3, .las .refTap] ++ conds [.lasLow, .lasWarn] }])
  | .lasTuneTimeout p => some (.line, p, .join [footMuteRefresh, footLasFail])
  | .lasRecoverTimer p _ => some (.line, p, .join [footBiasShow, footLasFail,
      { own := [.bias .light, .las .passed3, .las .present, .las .refTap] ++ lives [.lasLow] }])
  | .lasGridChange p _ =>
    some (.line, p, .join [footMuteRefresh, { own := [.las .gridN, .las .state] ++ conds [.lrLoLost] }])
  | .lasEnRise p =>
    some (.line, p, .join [footMuteRefresh, { own := [.las .lasEn, .las .state] ++ conds [.lrLoLost] }])
  | .lasEnFall p => some (.line, p, .join [footBiasShow,
      { own := [.bias .light, .las .lasEn, .las .lowCount, .las .reason, .las .recovering, .las .state] ++ conds
            [.lrLoLost] ++ lives [.lasFault],
        lead := [.boot .procCalled, .boot .procCode, .boot .procDone] }])
  | .rxEnRise d _ _ => some (.line, d, .join [footRxGo, footMuteRefresh,
      { own := [.fec .latNs, .lr .acqRetryLeft, .lr .fastRun, .lr .firstStart, .lr .latBase, .lr .latNs,
            .lr .nAcqAttempt, .lr .rxEn, .lr .tribGain, .lr .tribSkew, .lr .xPhase, .lr .yPhase] ++ conds
            [.lrLoLost, .lrLos, .lrRxcalFail],
        lead := [.sys .freeCount],
        parts := [.cands] }])
  | .rxEnFall d => some (.line, d, .join [footRxGo,
      { own := [.fec .sfInterval, .lr .cdEstValid, .lr .eqValid, .lr .fastRun, .lr .rxEn] ++ conds [.lrCdNearLimit]
            ++ lives [.lrLoLost, .lrLos],
        parts := [.cands] }])
  | .acqStepPass d _ => some (.line, d, .join [footRxGo,
      { own := [.lr .acqRetryLeft, .lr .cdEst, .lr .cdEstValid, .lr .cdFilter, .lr .eqValid, .lr .everLocked,
            .lr .fastRun, .lr .nRelockFast, .lr .rxPower, .lr .tiaGain, .lr .xySwap] ++ conds [.lrCdNearLimit] ++
            lives [.lrAcqFailed, .lrLos],
        lead := [.boot .procCalled, .boot .procCode, .boot .procDone],
        parts := [.cands] }])
  | .acqStepTimeout d => some (.line, d, .join [footRxGo,
      { own := [.lr .acqRetryLeft, .lr .fastRun, .lr .lastFailReason, .lr .lastFailStep, .lr .nAcqFail] ++ conds
            [.lrAcqFailed],
        lead := [.boot .procCalled, .boot .procCode, .boot .procDone],
        parts := [.cands] }])
  | .failedWaitExpiry d => some (.line, d, .join [footRxGo,
      { own := [.lr .acqRetryLeft, .lr .fastRun, .lr .nAcqAttempt], parts := [.cands] }])
  | .rxLos d _ => some (.line, d, .join [footRxGo,
      { own := [.lr .eqValid, .lr .fastRun, .lr .nLosEnter, .lr .rxPower] ++ conds [.lrLos], parts := [.cands] }])
  | .rxPowerReturn d _ => some (.line, d, .join [footRxGo,
      { own := [.lr .eqValid, .lr .fastRun, .lr .rxPower] ++ lives [.lrLos], parts := [.cands] }])
  | .holdExpiry d => some (.line, d, .join [footRxGo, { own := [.lr .eqValid], parts := [.cands] }])
  | .rxLoLost d =>
    some (.line, d, .join [footRxGo, { own := [.lr .fastRun] ++ conds [.lrLoLost], parts := [.cands] }])
  | .eqSlip d => some (.line, d, .join [footRxGo,
      { own := [.lr .nEqReinit] ++ stickies [.lrEqSlip], parts := [.cands] }])
  | .syncLoss d => some (.line, d, .join [footRxGo,
      { own := [.lr .nSyncLoss] ++ stickies [.lrSyncLoss], parts := [.cands] }])
  | .freqOffsetExceeded d => some (.line, d, .join [footRxGo, { parts := [.cands] }])
  | .cycleSlip d => some (.line, d, { own := [.lr .nCycleSlip] ++ stickies [.lrCycleSlip] })
  | .agcFastStep d => some (.line, d, { own := [.lr .nAgcFastStep, .lr .tiaGain] })
  | .adcClipWindow d _ _ => some (.line, d, { own := [.lr .nAdcClip] ++ stickies [.lrAdcClipHi] })
  | .adcOverload d _ => some (.line, d, { own := conds [.lrAdcOverload] })
  | .rxPwrLow d _ => some (.line, d, { own := conds [.lrRxPwrLow] })
  | .cdReprogram d _ =>
    some (.line, d, { own := [.lr .cdEst, .lr .cdEstValid, .lr .cdFilter] ++ conds [.lrCdNearLimit] })
  | .qualityWindowEnd d _ => some (.line, d, .join [footDerPropose, footEntryLoad, footPathChange, footPelAlarms,
      { own := [.der .downRun, .der .upRun, .fec .iterMean, .fec .margin, .lr .latNs, .lr .qBerNlog, .lr .qBits,
            .lr .qCd, .lr .qDgd, .lr .qErrs, .lr .qFreqOff, .lr .qGmi, .lr .qLinewidth, .lr .qNgmi, .lr .qPelGain,
            .lr .qPolRatePeak, .lr .qSeq, .lr .qSnrEff, .lr .qSnrX, .lr .qSnrY, .lr .qValid, .lr .winLocked,
            .pel .holdNs, .pel .lost, .pel .nSuspend, .pel .nbState, .pel .reeval, .pel .taps, .pel .tapsRun] ++
            conds [.fecSd, .lrQualLow],
        lead := [.der .autoId] }])
  | .superframeEncodeStart d =>
    some (.line, d, { own := [.fec .fillAcc, .fec .prbs31, .fec .stairClear, .fec .superframes] })
  | .fecLockCandidate d _ _ => some (.line, d, .join [footAlignRefresh,
      { own := [.ct .inFrame, .ct .lof, .ct .mfasSeen, .ct .misses, .ct .nOofEnter, .fec .candAt, .fec .failRun,
            .fec .iterCap, .fec .lockPhase, .fec .lockState, .fec .nLockLoss] ++ conds [.fecSf] ++ stickies
            [.fecLockLoss],
        parts := [.cands] }])
  | .codewordDecode d _ _ => some (.line, d,
      { own := [.fec .nCw, .fec .nCwSkipped, .fec .nIterHist, .fec .nLdpcFail] ++ stickies [.fecLdpcFail] })
  | .outerRowExit d _ _ _ _ => some (.line, d,
      { own := [.fec .nCorrBits, .fec .nCorrOnes, .fec .nCorrZeros, .fec .nOuterCorr, .fec .nUncorr,
            .fec .ucwCount] ++ stickies [.fecUncorr] })
  | .fecSfInterval d => some (.line, d, .join [footAlignRefresh,
      { own := [.ct .inFrame, .ct .lof, .ct .mfasSeen, .ct .misses, .ct .nOofEnter, .fec .sfInterval,
            .fec .ucwCount] ++ conds [.fecSf],
        parts := [.cands] }])
  | .fasPatternFound d _ => some (.line, d, .join [footAlignRefresh, { parts := [.cands] }])
  | .lineFrameRx d _ => some (.line, d, .join [footAlignRefresh,
      { own := [.ct .beiTx, .ct .framePos, .ct .inFrame, .ct .lmfnCand, .ct .lmfnRun, .ct .lmfnValid, .ct .mfas,
            .ct .mfasSeen, .ct .misses, .ct .nCandRej, .ct .nLmfnErr, .ct .nOofEnter, .ct .nSmBei, .ct .nSmBip,
            .ct .rxLmfn, .ct .ttiLast, .ct .ttiRun, .der .farRxDone, .der .nOhCrc, .der .rxEpoch,
            .der .rxEpochHeld, .der .rxKind, .der .rxLast, .der .rxRun, .fec .nBipOnly, .win .ctTti] ++ conds
            [.ctLmfnErr, .ctSmBdiRx, .ctSmTim] ++ stickies [.fecBipOnly],
        lead := [.der .farEpoch],
        parts := [.cands] }])
  | .lofTimer d => some (.line, d, .join [footAlignRefresh, { own := [.ct .lof] }])
  | .containerFrameRx d _ _ => some (.line, d, .join [footPathChange,
      { own := [.ct .beiTx, .ct .cAligned, .ct .cHits, .ct .cMisses, .ct .degBad, .ct .gapInit, .ct .gapSeen,
            .ct .nFrames, .ct .nGapMiss, .ct .nPmBei, .ct .nPmBip, .ct .nUncorrPkt, .ct .ttiLast, .ct .ttiRun,
            .tdm .apsLast, .tdm .apsRun, .tdm .degBadP, .tdm .delay, .tdm .diffUs, .tdm .early, .tdm .earlyRun,
            .tdm .far, .tdm .mismatch, .tdm .nPPmBip, .tdm .rewind, .tdm .state, .tdm .unreflected, .tdm .wrPtr,
            .win .ctTti] ++ conds [.ctnAisRx, .ctnLckRx, .ctnLof, .ctnOciRx, .ctnPmBdiRx, .ctnPmTim,
            .ctnPtMismatch, .ctnSf, .tdmApsFop, .tdmDiffExcess, .tdmHistLost] ++ stickies [.ctnGapMiss, .ctnGmpErr],
        every := [.fec .nBipOnly] ++ stickies [.fecBipOnly] }])
  | .gapMarkerRx d _ _ _ => some (.line, d, { own := [.ct .gapSeen, .ct .nGapPkts, .ct .nGapRx] })
  | .errorMarkerRx d _ _ => some (.line, d, { own := [.ct .nErrmkRx] })
  | .apsFopTimer d _ => some (.line, d, { own := [.tdm .unreflected] ++ conds [.tdmApsFop] })
  | .pmDegSecond d _ => some (.line, d,
      { own := [.ct .degBad, .ct .degRun, .tdm .degBadP, .tdm .degRunP, .tdm .pmDegP] ++ conds [.ctnPmDeg] })
  | .bondArrivalReport d _ => some (.line, d,
      { own := [.ct .arrival, .ct .arrived],
        every := [.ct .bondState, .ct .deskewUs] ++ conds [.ctBondSkewExc, .ctnSf] })
  | .bondRealign _ => some (.line, 0,
      { every := [.ct .bondState, .ct .deskewUs, .ct .nBondRealign] ++ conds [.ctnSf] ++ lives [.ctBondSkewExc] })
  | .gcc0FrameRx d _ _ => some (.line, d, { own := [.ct .nGccAddrDisc, .ct .nGccFcsErr] })
  | .ctWindowCommit d w => some (.line, d, { own := [.sys .winBusy, .winDirty (framerWin w), .winNew (framerWin w)] })
  | .ctCommitApply d => some (.line, d,
      { own := [.sys .winBusy, .tdm .pages, .tdm .state] ++ lives [.tdmHistLost],
        every := conds [.ctnSf],
        ownKinds := [.mask, .win, .winDirty] })
  | .tandemFrameDeliver d _ _ _ _ => some (.line, d, .join [footPathChange,
      { own := [.tdm .delivered, .tdm .lastPath, .tdm .nGap, .tdm .nSubst, .tdm .rewind, .tdm .seal] }])
  | .tandemSelect d _ => some (.line, d,
      { own := [.tdm .nSwitch, .tdm .req, .tdm .sel, .tdm .sf, .tdm .wtr] ++ stickies [.tdmSwitched] })
  | .tandemHoldoffExpiry d _ => some (.line, d,
      { own := [.tdm .nSwitch, .tdm .req, .tdm .sel, .tdm .sf, .tdm .wtr] ++ stickies [.tdmSwitched] })
  | .tandemWtrExpiry d _ =>
    some (.line, d, { own := [.tdm .nSwitch, .tdm .req, .tdm .sel, .tdm .wtr] ++ stickies [.tdmSwitched] })
  | .sealRequestClear d _ => some (.line, d,
      { own := [.tdm .nSwitch, .tdm .req, .tdm .seal, .tdm .sel, .tdm .wtr] ++ stickies [.tdmSwitched] })
  | .tandemRealign d _ _ _ _ => some (.line, d, .join [footPathChange,
      { own := [.tdm .bothSeen, .tdm .delay, .tdm .diffUs, .tdm .early, .tdm .earlyRun, .tdm .nGap, .tdm .nRealign,
            .tdm .rewind, .tdm .state, .tdm .wrPtr] ++ conds [.tdmDiffExcess] ++ stickies [.tdmRealign] ++ lives
            [.tdmHistLost] }])
  | .tandemPathPresence d _ _ _ => some (.line, d,
      { own := [.tdm .bothSeen, .tdm .pPresent, .tdm .state, .tdm .wPresent] ++ conds [.ctnSf, .tdmHistLost] })
  | .pelEnvelopeRx d _ _ _ _ => some (.line, d, { own := [.pel .nAlignErr, .pel .termOff] })
  | .pelNeighbourEvent d _ _ _ => some (.line, d, .join [footPathChange, footPelAlarms,
      { own := [.lr .latNs, .pel .holdNs, .pel .lost, .pel .nWaitEnter, .pel .nbState, .pel .need, .pel .reeval,
            .pel .spacing, .pel .taps, .pel .tapsRun, .pel .walkoff] }])
  | .pelSuspendExpiry d => some (.line, d, .join [footPelAlarms,
      { own := [.pel .lost, .pel .nbState, .pel .taps, .pel .tapsRun] }])
  | .derProposeRx _ _ _ => some (.line, 0, .join [footDerEnd, footDerPropose,
      { lead := [.der .nCancel, .der .nMsgDisc, .der .nRefused, .der .rxSeq],
        every := [.lr .compHi, .lr .compLo, .lr .const, .lr .entropy, .lr .fecRate, .lr .lineStd, .lr .netK,
            .lr .pilotGain, .lr .rolloff, .lr .rs, .lt .compHi, .lt .compLo, .lt .const, .lt .entropy,
            .lt .fecRate, .lt .lineStd, .lt .netK, .lt .nlpdBank, .lt .pilotGain, .lt .rolloff, .lt .rs] }])
  | .derArmedRx _ => some (.line, 0, .join [footDerSend,
      { lead := [.der .armedRx, .der .epoch, .der .nMsgDisc, .der .rxSeq, .der .seen, .der .state],
        every := [.der .kind, .der .kindEpoch, .der .rxSide, .der .txSide] ++ conds [.derMissed] }])
  | .derRefuseRx _ _ _ => some (.line, 0, .join [footDerEnd, footDerSend,
      { lead := [.der .failCarrier, .der .far, .der .nCancel, .der .nMsgDisc, .der .reason, .der .rxSeq,
            .der .seen] }])
  | .derCommitRx _ _ => some (.line, 0, .join [footDerSend,
      { lead := [.der .epoch, .der .farCommit, .der .farEpoch, .der .nMsgDisc, .der .rxSeq, .der .seen,
            .der .state],
        every := [.der .kind, .der .kindEpoch, .der .rxEpoch, .der .rxEpochHeld, .der .rxSide, .der .txSide] ++
            conds [.derMissed] }])
  | .derCancelRx _ _ => some (.line, 0, .join [footDerEnd,
      { lead := [.der .failCarrier, .der .far, .der .nCancel, .der .nMsgDisc, .der .reason, .der .rxSeq,
            .der .seen] }])
  | .derDoneRx _ => some (.line, 0, .join [footDerEnd, footDerSend,
      { lead := [.der .doneSent, .der .farDone, .der .nMsgDisc, .der .nShiftOk, .der .rxSeq, .der .seen] }])
  | .derResendTimer => some (.line, 0, .join [footDerSend])
  | .derUnitArmReport d => some (.line, d, .join [footDerEnd, footDerSend,
      { own := [.der .uReason] ++ stickies [.derArmFail],
        lead := [.der .epoch, .der .failCarrier, .der .far, .der .nCancel, .der .nRefused, .der .reason],
        every := stickies [.derMissed] }])
  | .derArmTimeout => some (.line, 0, .join [footDerEnd, footDerSend,
      { lead := [.der .failCarrier, .der .far, .der .nCancel, .der .reason] }])
  | .derLatchPoint d _ => some (.line, d, .join [footDerEnd, footDerSend,
      { own := [.der .nMiss, .der .uReason] ++ stickies [.derMissed],
        lead := [.der .doneSent, .der .failCarrier, .der .far, .der .nShiftOk, .der .reason, .sys .freeCount] }])
  | .derTxSwitch d => some (.line, d, .join [footMuteRefresh, footDerEnd, footDerSend, footPathChange,
      { own := [.der .nApply, .lt .bank, .lt .excess, .lt .nBankSwitch] ++ stickies [.derAis, .derMissed],
        lead := [.der .doneSent, .der .nShiftOk],
        every := [.pel .taps] ++ conds [.ctnSf] }])
  | .derRxSwitch d => some (.line, d, .join [footDerEnd, footRxBankSwitch, footDerSend,
      { own := [.der .nApply, .win .ctTsmap] ++ stickies [.derAis, .derMissed],
        lead := [.der .doneSent, .der .nShiftOk],
        parts := [.cands] }])
  | .derSideDone d => some (.line, d, .join [footDerEnd, footDerSend,
      { own := stickies [.derMissed], lead := [.der .doneSent, .der .nShiftOk] }])
  | .derRollbackDecision => some (.line, 0, { lead := [.der .state], every := [.der .kind, .der .kindEpoch] })
  | .derRollbackReturn d _ => some (.line, d, .join [footMuteRefresh, footRxBankSwitch,
      { own := [.der .nRollback, .der .returned, .der .rxSide, .der .txSide, .lt .bank, .lt .excess,
            .lt .nBankSwitch, .win .ctTsmap] ++ conds [.derMissed] ++ stickies [.derRollback],
        parts := [.cands] }])
  | .derResultSet =>
    some (.line, 0, .join [footDerEnd, { every := [.der .onNew, .der .returned] ++ conds [.derSplit] }])
  | .derRediscoverTimer d => some (.keys, d, .join [footDiscFail, footBellFollow,
      { own := [.bell .descOk, .bell .expNode, .bell .farCarrier, .bell .partner, .bell .peerCompat,
            .bell .peerParked, .bell .peerValid, .bell .tolerate, .der .returned] }])
  | .portEnable d _ =>
    some (.host, d, .join [footLaneForced, footPortRefresh, { own := [.hl .nNegAttempt, .hl .portEn] }])
  | .portDisable d _ => some (.host, d, .join [footLaneForced, footPortRefresh,
      { own := [.hl .pfcTold, .hl .portEn, .hl .sig] ++ lives [.hllLol, .hllLos, .hlpFecDegrade, .hlpLfRx,
            .hlpRfRx] }])
  | .negFrameRx d _ _ => some (.host, d, .join [footPortRefresh, footLaneSearch,
      { own := [.hl .capsRun, .hl .cdrLock, .hl .countdown, .hl .eqCm1, .hl .eqCm2, .hl .eqCp1, .hl .failReason,
            .hl .farCount, .hl .farGearMax, .hl .farPreCap, .hl .fellBack, .hl .idleRun, .hl .keep, .hl .nStepFail,
            .hl .preNext, .hl .preTx, .hl .relock, .hl .reqResult, .hl .reqSeq, .hl .sig, .hl .state,
            .hl .stepFails, .hl .switched] ++ stickies [.hllNegFail, .hllStepFail] ++ lives [.hllLol] }])
  | .negGearSwitch d _ => some (.host, d, .join [footLaneSearch,
      { own := [.hl .eqCm1, .hl .eqCm2, .hl .eqCp1, .hl .gear, .hl .oldPre, .hl .oldTaps, .hl .preRx, .hl .preTx,
            .hl .switched] }])
  | .negLockTimeout d _ => some (.host, d, .join [footLaneForced, footPortRefresh,
      { own := [.hl .failReason, .hl .nNegAttempt] ++ stickies [.hllNegFail] }])
  | .negTrainTimeout d _ => some (.host, d, .join [footPortRefresh, footLaneSearch,
      { own := [.hl .failReason, .hl .state] ++ stickies [.hllNegFail] }])
  | .negWaitExpiry d _ => some (.host, d, .join [footLaneForced, footPortRefresh, { own := [.hl .nNegAttempt] }])
  | .forcedCdrLock d _ => some (.host, d, .join [footPortRefresh,
      { own := [.hl .cdrLock, .hl .idleRun, .hl .keep, .hl .relock, .hl .sig, .hl .state] ++ lives [.hllLol] }])
  | .hlLos d _ => some (.host, d, .join [footPortRefresh,
      { own := [.hl .cdrLock, .hl .nLosEnter, .hl .sig, .hl .state, .hl .waitSig] ++ conds [.hllLos] }])
  | .hlSignalReturn d _ => some (.host, d, .join [footLaneForced, footPortRefresh,
      { own := [.hl .nNegAttempt, .hl .sig] ++ lives [.hllLos] }])
  | .hlLol d _ => some (.host, d, .join [footPortRefresh,
      { own := [.hl .cdrLock, .hl .nLolEnter, .hl .relock, .hl .state] ++ conds [.hllLol] }])
  | .hostGearsTimeout => some (.host, 0, { lead := [.boot .procCalled, .boot .procCode, .boot .procDone] })
  | .idleEnter d _ => some (.host, d, .join [footPortRefresh, footLaneSearch,
      { own := [.hl .capsRun, .hl .countdown, .hl .farCount, .hl .farPreCap, .hl .fellBack, .hl .idleReq,
            .hl .idleRun, .hl .keep, .hl .preNext, .hl .relock, .hl .reqResult, .hl .reqSeq, .hl .state,
            .hl .stepFails, .hl .switched, .hl .waitSig] }])
  | .idleFastExit d _ => some (.host, d, .join [footLaneForced, footPortRefresh,
      { own := [.hl .idleReq, .hl .nIdleExit, .hl .nNegAttempt, .hl .sig] ++ lives [.hllLol] }])
  | .hostIdleAnnounceRx d _ _ => some (.host, d, .join [footPortRefresh, footLaneSearch,
      { own := [.hl .capsRun, .hl .countdown, .hl .farCount, .hl .farPreCap, .hl .fellBack, .hl .idleRun,
            .hl .keep, .hl .preNext, .hl .relock, .hl .reqResult, .hl .reqSeq, .hl .state, .hl .stepFails,
            .hl .switched, .hl .waitSig] }])
  | .hostIdleExitRx d _ _ => some (.host, d, .join [footLaneForced, footPortRefresh,
      { own := [.hl .failReason, .hl .nIdleExitFail, .hl .nNegAttempt, .hl .sig] ++ stickies [.hllIdleExitFail,
            .hllNegFail] ++ lives [.hllLol] }])
  | .escanStart d _ => some (.host, d, { own := [.hl .escanBusy, .hl .escanErr, .hl .mutValid] })
  | .escanDone d _ _ => some (.host, d, { own := [.hl .escanBusy, .hl .escanErr] })
  | .eyeSweepDone d _ _ => some (.host, d,
      { own := [.hl .eyeH, .hl .eyeV, .hl .mut, .hl .mutValid, .hl .rxReady, .hl .worstEye] ++ conds
            [.hllMarginLow] })
  | .pcsAligned d _ => some (.host, d, .join [footPortRefresh])
  | .pcsAlignLoss d _ => some (.host, d, .join [footPortRefresh, { own := stickies [.hlpAlignLoss] }])
  | .hostFecCodeword d _ _ _ _ _ => some (.host, d,
      { own := [.hl .nFecCorrCw, .hl .nFecCw, .hl .nFecSymErr, .hl .nFecUncorrCw, .hl .symMs] ++ conds [.hlpLfRx,
            .hlpRfRx] ++ stickies [.hlpFecUncorr] })
  | .hostFecDegradeInterval d _ => some (.host, d, { own := [.hl .symMs] ++ conds [.hlpFecDegrade] })
  | .hostFrameRx d _ _ => some (.host, d, .join [footMergeWrite, footTraceRec, footOccSub,
      { own := [.hl .nCtAbort, .hl .nMacctlRx, .hl .nRxBytes, .hl .nRxFcsErr, .hl .nRxFrames, .hl .nRxSizeErr,
            .qs .nClsHit, .qs .nClsMiss, .qs .nClsTagBad, .qs .nQDeqBytes, .qs .nQEnqBytes, .qs .nQVoid,
            .qs .nStageDrop, .qs .polC, .qs .polP, .qs .wr, .trc .nTagged] ++ conds [.qsStageOvf] ++ stickies
            [.hlpCtAbort, .hlpHostMacctl],
        lead := [.sys .freeCount],
        parts := [.merge, .retireQ, .rings, .staged, .telOut] }])
  | .frameDecisionPoint _ _ => some (.host, 0, .join [footMergeWrite,
      { lead := [.tel .dropped, .tel .nDrop, .tel .written] ++ stickies [.telOvf],
        every := [.hl .pXoff, .qs .brake, .qs .dieOcc, .qs .gapPend, .qs .nCPolRed, .qs .nQCtPkts, .qs .nQDropFull,
            .qs .nQDropRed, .qs .nQDropYel, .qs .nQEnqBytes, .qs .nQEnqPkts, .qs .occWords, .qs .passed,
            .qs .polAt, .qs .polC, .qs .polP, .qs .qXoff, .qs .tagS, .qs .wr, .trc .count, .trc .nLost,
            .trc .trcNext, .win .trcBuf] ++ conds [.qsBrakeOn, .trcFull] ++ stickies [.qsQFullDrop],
        parts := [.merge, .retireQ, .rings, .staged, .telOut] }])
  | .stagedFrameRelease _ _ => some (.host, 0, .join [footMergeWrite,
      { lead := [.tel .dropped, .tel .nDrop, .tel .written] ++ stickies [.telOvf],
        every := [.hl .pXoff, .qs .brake, .qs .dieOcc, .qs .gapPend, .qs .nCPolRed, .qs .nQCtPkts, .qs .nQDropFull,
            .qs .nQDropRed, .qs .nQDropYel, .qs .nQEnqBytes, .qs .nQEnqPkts, .qs .occWords, .qs .passed,
            .qs .polAt, .qs .polC, .qs .polP, .qs .qXoff, .qs .tagS, .qs .wr, .trc .count, .trc .nLost,
            .trc .trcNext, .win .trcBuf] ++ conds [.qsBrakeOn, .trcFull] ++ stickies [.qsQFullDrop],
        parts := [.merge, .retireQ, .rings, .staged, .telOut] }])
  | .ctFrameFail d _ _ => some (.host, d, .join [footMergeWrite, footOccSub,
      { own := [.hl .nCtAbort, .hl .nRxFcsErr, .hl .nRxSizeErr, .qs .nQVoid] ++ stickies [.hlpCtAbort],
        parts := [.merge, .retireQ, .rings] }])
  | .schedulerSelect d _ => some (.host, d, .join [footTraceRec, footOccSub,
      { own := [.ct .gapTx, .qs .gapPend, .qs .nCExcessBytes, .qs .nCGapTx, .qs .nGateDrop, .qs .nGateHold,
            .qs .nQDeqBytes, .qs .nQDeqPkts, .qs .nQGateDrop, .qs .passed, .qs .shpAt, .qs .shpC, .qs .shpE,
            .qs .tagF, .qs .tagS, .qs .vTime, .tim .ptpMark] ++ stickies [.qsGateDrop],
        lead := [.tim .nTcSkip],
        parts := [.rings, .telOut] }])
  | .hostFrameStart d _ _ => some (.keys, d,
      { own := [.hl .nTxBytes, .hl .nTxFrames, .tim .ptpCorr],
        lead := [.tim .nTcCorr, .tim .nTcFupMiss, .tim .nTcUnsync] ++ stickies [.timTcUnsync],
        parts := [.fups] })
  | .pfcXoffStart d _ => some (.host, d, { own := [.hl .nPfcTx, .hl .pfcTold] })
  | .pfcXon d _ => some (.host, d, { own := [.hl .nPfcTx, .hl .pfcTold] })
  | .pfcRefreshTimer d _ => some (.host, d, { own := [.hl .nPfcTx, .hl .pfcTold] })
  | .qsClsInsert d _ _ => some (.host, d,
      { own := [.qs .clsOp, .qs .clsResult, .qs .clsUsed, .qs .nClsNoRoom, .win .qsCls] ++ stickies [.qsClsNoRoom],
        lead := [.sys .freeCount],
        parts := [.clsTab] })
  | .qsClsDelete d _ _ =>
    some (.host, d, { own := [.qs .clsOp, .qs .clsResult, .qs .clsUsed, .win .qsCls], parts := [.clsTab] })
  | .qsClsLookup d _ _ => some (.host, d, { own := [.qs .clsOp, .qs .clsResult, .qs .clsUsed, .win .qsCls] })
  | .qsWindowCommit d _ => some (.host, d, { own := [.sys .winBusy], ownKinds := [.winDirty, .winNew] })
  | .qsCommitApply d _ => some (.host, d,
      { own := [.hl .pXoff, .qs .brake, .qs .polAt, .qs .polC, .qs .polP, .qs .qXoff, .qs .shpAt, .qs .shpC,
            .qs .shpE, .sys .winBusy] ++ conds [.qsBrakeOn],
        ownKinds := [.mask, .win, .winDirty] })
  | .gateCommit d => some (.host, d,
      { own := [.qs .gatePend, .qs .gatePendAt, .qs .gatePendCycle, .qs .gatePendLen, .qs .gatePending,
            .qs .gateStartNs, .qs .gateStartS, .qs .nGateCommit] })
  | .gateListStart d => some (.host, d,
      { own := [.qs .gatePending, .qs .gateStart, .qs .operCycle, .qs .operLen, .qs .operValid, .win .qsGate] ++
            stickies [.qsGateCycleCut] })
  | .drainEnd d _ _ => some (.host, d, .join [footTraceRec, footOccSub,
      { own := [.qs .cDrain, .qs .gapPend, .qs .nCDrainDisc, .qs .qDrain, .win .qsQ] ++ stickies [.qsDrainDisc],
        every := [.sys .winBusy, .winDirty .ctTsmap, .winNew .ctTsmap],
        parts := [.rings, .telOut] }])
  | .panCorrectedRead d _ _ _ => some (.memory, d, .join [footTakeSpare,
      { own := [.pan .nCeCheck, .pan .nCeData, .pan .nHard, .pan .nRetireDrop, .pan .nTrackOvf, .pan .retirePend,
            .pan .wbPend] ++ conds [.panMigUrgent] ++ stickies [.panHardFault, .panRetireDrop, .panTrackOvf],
        parts := [.retireQ, .tracker] }])
  | .panWriteBack d _ _ => some (.memory, d, .join [footTakeSpare,
      { own := [.pan .nHard, .pan .nRetireDrop, .pan .nWbFail, .pan .retirePend, .pan .wbPend] ++ conds
            [.panMigUrgent] ++ stickies [.panHardFault, .panRetireDrop],
        parts := [.retireQ] }])
  | .panUncorrectableRead d _ _ => some (.memory, d, .join [footTraceRec, footOccSub, footTakeSpare,
      { own := [.ct .gapTx, .pan .nHard, .pan .nPoisonRd, .pan .nPoisonWr, .pan .nQFlush, .pan .nQLossPkts,
            .pan .nRetireDrop, .pan .nUe, .pan .poison, .pan .retirePend, .qs .gapPend, .qs .nCGapTx,
            .qs .nQDropFull] ++ conds [.panMigUrgent] ++ stickies [.panHardFault, .panRetireDrop, .panUe,
            .qsQFullDrop],
        parts := [.retireQ, .rings, .telOut] }])
  | .mergeFlush _ _ _ _ => some (.memory, 0, .join [footMergeWrite, { parts := [.merge, .retireQ] }])
  | .scrubLapEnd d _ => some (.memory, d,
      { own := [.pan .lastLapMs, .pan .nScrubLaps] ++ stickies [.panScrubSlow], parts := [.tracker] })
  | .trackerClearTimer d => some (.memory, d, { own := [.pan .lastLapMs], parts := [.tracker] })
  | .pageMigrationStart d => some (.memory, d, .join [footTakeSpare,
      { own := [.crr .state, .pan .migCause, .pan .migDirty, .pan .migGran, .pan .migHome, .pan .migNew,
            .pan .nRetire, .pan .out, .pan .records, .pan .retirePend, .win .panRetire] ++ conds [.panMigUrgent],
        lead := [.sys .freeCount],
        parts := [.retireQ] }])
  | .pageMigrationDone d => some (.memory, d,
      { own := [.crr .nBytes, .crr .nDescDone, .crr .state, .pan .homeOf, .pan .mapTo, .pan .migDirty,
            .pan .migHome, .pan .nMigSkip, .pan .nPoisonWr, .pan .nRetire, .pan .poison, .pan .records,
            .win .panRetire] })
  | .pteWalk d _ _ _ _ _ _ => some (.memory, d, .join [footTraceRec, footOccSub,
      { own := [.ct .gapTx, .pan .nQFlush, .pan .nQLossPkts, .pan .nWalkFault, .pan .nWalkRepair, .pan .rebuild,
            .qs .gapPend, .qs .nCGapTx, .qs .nQDropFull] ++ conds [.panWalkFault] ++ stickies [.qsQFullDrop],
        parts := [.rings, .telOut] }])
  | .pteRebuildDone d _ _ => some (.memory, d, { own := [.pan .rebuild] ++ lives [.panWalkFault] })
  | .courierDescPost d _ _ => some (.memory, d, .join [footChanNext, { own := [.crr .post], parts := [.descs] }])
  | .courierPreempt d _ _ => some (.memory, d, .join [footChanNext, { own := [.crr .nPreempt], parts := [.descs] }])
  | .courierDescDone _ _ => some (.memory, 0, .join [footChanNext, footSvcFail,
      { lead := [.svc .nCheckFail, .svc .nMsg, .svc .nSuspFail] ++ conds [.sbgSvcFault],
        every := [.crr .nDescDone, .pan .poison],
        parts := [.descs] }])
  | .courierFault d _ _ _ _ _ => some (.memory, d,
      { own := [.pan .nXtsFault],
        every := [.crr .cls, .crr .depth, .crr .descIdx, .crr .doneBytes, .crr .fault, .crr .faultAddr,
            .crr .faultSpace, .crr .nBytes, .crr .nFault, .crr .state] ++ conds [.crrHalt] ++ stickies [.crrPcie],
        parts := [.descs] })
  | .courierResume d _ => some (.memory, d, .join [footChanNext, { own := [.crr .nResume], parts := [.descs] }])
  | .courierAbort _ _ => some (.memory, 0, .join [footChanNext, footSvcFail,
      { lead := [.svc .nCheckFail, .svc .nMsg, .svc .nSuspFail, .tkt .fetched] ++ conds [.sbgSvcFault],
        every := [.crr .nAbort] ++ conds [.panXtsFault] ++ stickies [.crrAbort],
        parts := [.descs] }])
  | .courierCipherResume _ _ =>
    some (.memory, 0, { every := [.crr .cls, .crr .depth, .crr .descIdx, .crr .doneBytes, .crr .state] })
  | .pcieCompletionTimeout _ => some (.memory, 0,
      { every := [.crr .cls, .crr .depth, .crr .descIdx, .crr .doneBytes, .crr .fault, .crr .faultAddr,
            .crr .faultSpace, .crr .nBytes, .crr .nFault, .crr .state] ++ conds [.crrHalt] ++ stickies [.crrPcie],
        parts := [.descs] })
  | .pcieUnexpectedCompletion => some (.memory, 0, { lead := [.crr .nPcieUnexp] })
  | .pcieLinkDown _ => some (.memory, 0, .join [footLinkDown, { parts := [.descs] }])
  | .perstAssert _ => some (.package, 0, .join [footLinkDown,
      { lead := [.sys .busMaster, .sys .msiEn, .sys .perstN], parts := [.descs] }])
  | .keyFlitRx d _ _ _ => some (.keys, d,
      { own := [.cry .flitFailed, .cry .restore, .cry .rxHas, .cry .rxNext, .cry .rxState, .cry .txNext,
            .cry .txState, .pan .xtsReady] ++ conds [.cryCryptoHold],
        lead := [.sbg .nWrapFail, .sbg .wrapCtr, .sbg .xtsPend, .sbg .xtsRetry] ++ conds [.sbgCryptoHoldAny] ++
            stickies [.sbgWrapFail] })
  | .wrapNonceRetry _ => some (.keys, 0, { lead := [.sbg .drbgCount, .sbg .kwOk, .sbg .nDrbgReseed, .sbg .wrapCtr] })
  | .kchFragmentRx _ _ _ _ => some (.keys, 0, { parts := [.kch] })
  | .kchReassemblyTimeout _ _ _ _ => some (.keys, 0, { lead := [.sbg .nKchDisc], parts := [.kch] })
  | .kchHelloRx _ _ _ => some (.keys, 0, .join [footHsFail,
      { lead := [.sbg .drbgCount, .sbg .nDrbgReseed, .sbg .nKchDisc, .sbg .spSent, .sbg .spSeqRx, .sbg .spSeqTx,
            .sbg .spTxType] ++ stickies [.sbgKchTagFail],
        parts := [.kch] }])
  | .kchReplyRx _ _ => some (.keys, 0, .join [footHsFail,
      { lead := [.sbg .nKchDisc, .sbg .spSent, .sbg .spSeqRx, .sbg .spSeqTx, .sbg .spTxType] ++ stickies
            [.sbgKchTagFail, .sbgPeerAuthFail, .sbgTrustRevokedPeer],
        parts := [.kch] }])
  | .kchAuthRx _ _ => some (.keys, 0, .join [footHsFail,
      { lead := [.sbg .nHsOk, .sbg .nKchDisc, .sbg .spHas, .sbg .spOld, .sbg .spRekey, .sbg .spSent, .sbg .spSeqRx,
            .sbg .spSeqTx, .sbg .spTxType] ++ conds [.sbgCryptoHoldAny] ++ stickies [.sbgKchTagFail,
            .sbgPeerAuthFail, .sbgTrustRevokedPeer],
        every := [.cry .flitFailed, .cry .txLast, .cry .txNext, .cry .txNextEpoch, .cry .txNextSms, .cry .txRetry,
            .cry .txSms, .cry .txState] ++ conds [.cryCryptoHold],
        parts := [.kch] }])
  | .kchConfirmRx _ _ => some (.keys, 0, .join [footHsFail,
      { lead := [.sbg .nHsOk, .sbg .nKchDisc, .sbg .spHas, .sbg .spOld, .sbg .spRekey, .sbg .spSent, .sbg .spSeqRx,
            .sbg .spSeqTx, .sbg .spTxType] ++ conds [.sbgCryptoHoldAny] ++ stickies [.sbgKchTagFail,
            .sbgPeerAuthFail, .sbgTrustRevokedPeer],
        every := [.cry .flitFailed, .cry .txLast, .cry .txNext, .cry .txNextEpoch, .cry .txNextSms, .cry .txRetry,
            .cry .txSms, .cry .txState] ++ conds [.cryCryptoHold],
        parts := [.kch] }])
  | .kchKeyNextRx _ _ _ => some (.keys, 0,
      { lead := [.sbg .nKchDisc, .sbg .spSent, .sbg .spSeqRx, .sbg .spSeqTx, .sbg .spTxType] ++ stickies
            [.sbgKchTagFail],
        every := [.cry .flitFailed, .cry .rxLast, .cry .rxNext, .cry .rxNextEpoch, .cry .rxSms, .cry .rxState],
        parts := [.kch] })
  | .kchKeyReadyRx _ _ => some (.keys, 0,
      { lead := [.boot .procCalled, .boot .procCode, .boot .procDone, .sbg .kaSpan, .sbg .nKchDisc, .sbg .spOld,
            .sbg .spSeqRx] ++ conds [.sbgCryptoHoldAny] ++ stickies [.sbgKchTagFail],
        every := [.cry .nRekey, .cry .txEpoch, .cry .txFrames, .cry .txKeySms, .cry .txNext, .cry .txState] ++
            conds [.cryCryptoHold, .cryRekeyLate],
        parts := [.kch] })
  | .kchKeyRefuseRx _ _ => some (.keys, 0,
      { lead := [.sbg .nKchDisc, .sbg .spSeqRx] ++ conds [.sbgCryptoHoldAny] ++ stickies [.sbgKchTagFail],
        every := [.cry .txNext, .cry .txRetry, .cry .txState] ++ conds [.cryCryptoHold] ++ stickies [.cryRekeyLate],
        parts := [.kch] })
  | .kchAbortRx _ => some (.keys, 0, .join [footHsFail,
      { lead := [.sbg .nKchDisc, .sbg .spSeqRx] ++ stickies [.sbgKchTagFail], parts := [.kch] }])
  | .kchResendTimer _ => some (.keys, 0, { lead := [.sbg .spSent] })
  | .keyNextResend _ _ => some (.keys, 0, { lead := [.sbg .spSent] })
  | .rekeyRetryTimer d _ => some (.keys, d, .join [footRekeyStart])
  | .keyAgreeTimeout => some (.keys, 0, .join [footHsFail])
  | .handshakeRetryTimer _ => some (.keys, 0, .join [footHsFail,
      { lead := [.sbg .drbgCount, .sbg .nDrbgReseed, .sbg .spSent, .sbg .spSeqTx, .sbg .spTxType] }])
  | .spanRekeyTimer _ => some (.keys, 0, .join [footHsFail,
      { lead := [.sbg .drbgCount, .sbg .nDrbgReseed, .sbg .spSent, .sbg .spSeqTx, .sbg .spTxType] }])
  | .rekeyTimer d _ => some (.keys, d, .join [footRekeyStart])
  | .containerFrameSeal d _ => some (.keys, d, .join [footRekeyStart,
      { own := [.cry .frameCtr, .cry .highest, .cry .nHoldFrames, .cry .nSealed, .cry .rxHas, .cry .rxNext,
            .cry .rxOld, .cry .rxState, .cry .txFrames, .cry .txKeySms, .sys .winBusy, .win .cryCtx,
            .winDirty .cryCtx] ++ conds [.cryRekeyLate] ++ lives [.crySealFail],
        ownKinds := [.mask] }])
  | .sealVerdict d _ _ => some (.keys, d,
      { own := [.cry .failRun, .cry .highest, .cry .nDraftDisc, .cry .nDraftErrblk, .cry .nPSealFail,
            .cry .nReplay, .cry .nSealFail, .cry .nTagMissing, .cry .nVerified, .cry .rxEpoch, .cry .rxHas,
            .cry .rxNext, .cry .rxOld, .cry .rxOldEpoch, .cry .rxSeen, .cry .rxState, .tdm .nSubst, .tdm .seal] ++
            conds [.crySealFail] ++ stickies [.cryKeyUnknown, .cryReplay],
        lead := [.boot .procCalled, .boot .procCode, .boot .procDone, .sbg .kaSpan] })
  | .rxOldKeyErase d _ => some (.keys, d, { own := [.cry .rxOld] })
  | .svcLockRequest _ => some (.memory, 0,
      { lead := [.svc .busy, .svc .nSuspend, .svc .nWait, .svc .owner, .svc .s0Agent, .svc .s0Valid, .svc .s1Agent,
            .svc .s1Valid, .svc .suspender, .svc .waiting],
        every := [.crr .cls, .crr .depth, .crr .descIdx, .crr .doneBytes, .crr .nCipherWait, .crr .state] })
  | .svcLockRelease _ _ => some (.memory, 0, .join [footSvcFail,
      { lead := [.svc .busy, .svc .nCheckFail, .svc .nMsg, .svc .nSuspFail, .svc .owner, .svc .s0Agent,
            .svc .s0Valid, .svc .s1Agent, .svc .s1Valid, .svc .suspender] ++ conds [.sbgSvcFault],
        parts := [.descs] }])
  | .svcSuspendTimeout _ => some (.memory, 0, .join [footSvcFail,
      { lead := [.svc .nSuspFail, .svc .s0Agent, .svc .s0Valid, .svc .s1Agent, .svc .s1Valid], parts := [.descs] }])
  | .entropyHealthFail => some (.keys, 0, { lead := [.sbg .nHealthFail, .sbg .rngOk] ++ conds [.sbgEntropyFail] })
  | .entropyRetest _ => some (.keys, 0, { lead := [.sbg .rngOk] ++ lives [.sbgEntropyFail] })
  | .tamperTrip _ => none
  | .tamperHoldExpiry still =>
    if decide (still % 16 = 0) then none
    else some (.package, 0,
      { lead := [.ao .stuck] ++ conds [.aoTamperClk, .aoTamperMesh, .aoTamperTemp, .aoTamperVolt] })
  | .bellTxMessageStart d => some (.keys, d, .join [footBiasShow, footBellFollow,
      { own := [.bell .codeUsed, .bell .cur, .bell .seqTx, .bell .txCompat, .bell .txSrc] }])
  | .bellTxDone d =>
    if s.flag (.sys .restartPend) 0 0 then none
    else some (.keys, d, .join [footBiasShow, footBellFollow,
      { own := [.bell .cur, .bell .nTxMsg, .bell .txCompat, .bell .txSrc] }])
  | .bellPathChange d =>
    if s.flag (.sys .restartPend) 0 0 then none
    else some (.keys, d, .join [footBiasShow, footBellFollow,
      { own := [.bell .cur, .bell .txCompat, .bell .txSrc] }])
  | .bellHelloTimer d => some (.keys, d, .join [footBellFollow])
  | .bellParkedTimer d => some (.keys, d, .join [footBellFollow])
  | .bellWakeTimer d => some (.keys, d, .join [footBellFollow])
  | .bellDetect d _ => some (.keys, d, { own := [.bell .agcFrozen, .bell .nDetect, .bell .rxSlow, .bell .rxState] })
  | .bellSyncFound d _ _ => some (.keys, d, { own := [.bell .rssi, .bell .rxCompat, .bell .rxState] })
  | .bellSyncTimeout d => some (.keys, d,
      { own := [.bell .agcFrozen, .bell .nFalseDet, .bell .rxCompat, .bell .rxSlow, .bell .rxState] })
  | .bellHeaderDone d _ => some (.keys, d,
      { own := [.bell .agcFrozen, .bell .nFalseDet, .bell .rxCompat, .bell .rxSlow, .bell .rxState] })
  | .bellBodyDone d _ => some (.keys, d,
      { own := [.bell .agcFrozen, .bell .nCrcFail, .bell .offered, .bell .rxCompat, .bell .rxSlow, .bell .rxState] })
  | .bellSignalFade d => some (.keys, d,
      { own := [.bell .agcFrozen, .bell .nCrcFail, .bell .nFalseDet, .bell .rxCompat, .bell .rxSlow,
            .bell .rxState] })
  | .bellCapture d _ _ => some (.keys, d, { own := [.bell .nCapture, .bell .rssi, .bell .rxCompat, .bell .rxState] })
  | .bellNoiseUpdate d _ => some (.keys, d, { own := [.bell .noise] })
  | .bellHelloRx d _ _ => some (.keys, d, .join [footMuteRefresh, footEntryLoad, footDiscFail, footBellFollow,
      { own := [.bell .descOk, .bell .farCarrier, .bell .nRxDisc, .bell .nRxMsg, .bell .offered, .bell .partner,
            .bell .peerCompat, .bell .peerParked, .bell .peerValid, .lr .peerSeed, .lt .bank, .lt .excess,
            .win .bellDesc] ++ stickies [.bellPeerChange] }])
  | .bellLastGaspRx d _ _ _ => some (.keys, d,
      { own := [.bell .gaspCarrier, .bell .gaspLoc, .bell .gaspReason, .bell .gaspSender, .bell .gaspValid,
            .bell .nRxDisc, .bell .nRxMsg, .bell .offered, .bell .peerParked] ++ stickies [.bellGaspRx] })
  | .bellWakeRx d _ => some (.keys, d,
      { own := [.bell .lastWake, .bell .nRxDisc, .bell .nRxMsg, .bell .nWakeRx, .bell .offered, .bell .peerParked,
            .bell .wakeReq] })
  | .bellParkedRx d _ =>
    some (.keys, d, { own := [.bell .nRxDisc, .bell .nRxMsg, .bell .offered, .bell .peerParked] })
  | .bellCompatRx d _ _ _ _ => some (.keys, d, .join [footMuteRefresh, footEntryLoad, footDiscFail, footBellFollow,
      { own := [.bell .agcFrozen, .bell .descOk, .bell .farCarrier, .bell .gaspCarrier, .bell .gaspLoc,
            .bell .gaspReason, .bell .gaspSender, .bell .gaspValid, .bell .lastWake, .bell .nCompatRx,
            .bell .nCrcFail, .bell .nRxDisc, .bell .nRxMsg, .bell .nWakeRx, .bell .partner, .bell .peerCompat,
            .bell .peerParked, .bell .peerValid, .bell .rxCompat, .bell .rxSlow, .bell .rxState, .bell .wakeReq,
            .lr .peerSeed, .lt .bank, .lt .excess, .win .bellDesc] ++ stickies [.bellGaspRx, .bellPeerChange],
        lead := [.sys .freeCount] }])
  | .peerParkedTimeout d => some (.keys, d, { own := [.bell .peerParked] })
  | .bellDiscoverTimeout d => some (.keys, d, .join [footDiscFail])
  | .refMonitorUpdate _ _ => some (.clocks, 0, .join [footDpllSelect1,
      { lead := [.clk .cause, .clk .cleanRun, .clk .hardRun, .clk .nDisq, .clk .nWtrRestart, .clk .offset,
            .clk .qstate, .clk .refLos, .clk .soft, .clk .suspects, .clk .wasQual, .clk .wtrEnd, .clk .xoSuspect]
            ++ conds [.clkRefSoft, .clkXoSuspect] ++ stickies [.clkRefDisq] }])
  | .refLos _ => some (.clocks, 0, .join [footDpllSelect1,
      { lead := [.clk .cause, .clk .cleanRun, .clk .nDisq, .clk .nWtrRestart, .clk .qstate, .clk .refLos,
            .clk .wtrEnd] ++ stickies [.clkRefDisq] }])
  | .refWtrExpiry _ => some (.clocks, 0, .join [footDpllSelect1, { lead := [.clk .qstate, .clk .wtrEnd] }])
  | .dpllPullEnd _ => some (.clocks, 0, .join [footDpllSelect1])
  | .dpllLock _ => some (.clocks, 0, { lead := [.clk .dpllState] ++ conds [.clkAFreewheel, .clkBFreewheel] })
  | .xoLoss => some (.clocks, 0, { lead := [.clk .xoOk] ++ conds [.clkXoLoss] })
  | .ppsEnable _ => some (.clocks, 0,
      { lead := [.clk .ppsEn, .clk .ppsErr, .clk .ppsErr8, .clk .ppsFirst, .clk .ppsRun] ++ conds [.clkPpsSlew] })
  | .ppsEdge _ => some (.clocks, 0,
      { lead := [.clk .ppsErr, .clk .ppsErr8, .clk .ppsFirst, .clk .ppsRun] ++ conds [.clkPpsSlew] })
  | .ppsinEdge _ => some (.clocks, 0, .join [footServoSample])
  | .tbSet _ => some (.clocks, 0, .join [footTrigLateFire,
      { lead := [.clk .ppsErr, .clk .ppsErr8, .tim .nStep, .tim .tbFrac, .tim .tbNs, .tim .tbSec, .tim .tbSub,
            .tim .tbValid] ++ conds [.clkPpsSlew] ++ stickies [.timTbStep] }])
  | .tbHostApply _ => some (.clocks, 0, .join [footServoSample])
  | .tbServoSample _ _ => some (.clocks, 0, .join [footServoSample])
  | .tbSampleTimeout _ =>
    some (.clocks, 0, { lead := [.tim .tbFreq, .tim .tbState, .tim .trim] ++ conds [.timTbHold] })
  | .ptpSyncTimer d _ => some (.clocks, d, { own := [.tim .ptpReqSeq, .tim .ptpT3, .tim .ptpTxSeq, .tim .ptpTxT1] })
  | .ptpSyncRx d _ =>
    some (.clocks, d, { own := [.tim .ptpHaveSync, .tim .ptpSyncSeq, .tim .ptpT2], lead := [.tim .nOsmcDisc] })
  | .ptpFollowUpRx d _ _ => some (.clocks, d, .join [footServoSample,
      { own := [.tim .ptpHaveSync, .tim .ptpT1], lead := [.tim .nOsmcDisc, .tim .nSampDisc] }])
  | .ptpDelayReqRx d _ => some (.clocks, d, { own := [.tim .ptpReqRxSeq, .tim .ptpTxT4], lead := [.tim .nOsmcDisc] })
  | .ptpDelayRespRx d _ _ => some (.clocks, d, .join [footServoSample,
      { own := [.tim .ptpHaveReq, .tim .ptpPairT3, .tim .ptpT3, .tim .ptpT4],
        lead := [.tim .nOsmcDisc, .tim .nSampDisc] }])
  | .ssmTx d => some (.clocks, d, { own := [.tim .ssmTx] })
  | .ssmRx d _ => some (.clocks, d, { own := [.tim .rxQl] })
  | .triggerArm _ => some (.clocks, 0, .join [footTrigLateFire])
  | .triggerDisarm _ => some (.clocks, 0, { lead := [.tim .trigArmed, .tim .trigHeld] })
  | .triggerFire _ => some (.clocks, 0, .join [footTrigLateFire])
  | .triggerHeldLoad _ => some (.clocks, 0, .join [footTrigLateFire])
  | .monConversion d _ => some (.analogue, d,
      { own := [.mon .chCode, .mon .chSeq, .mon .chTag, .mon .chUv, .mon .fAcc, .mon .fCount, .mon .fDel,
            .mon .fMean, .mon .fOut, .mon .fOuts, .mon .fPhase, .mon .fSeed, .mon .fSub, .mon .fTaint,
            .mon .fValid, .mon .lastOk, .mon .nConv, .mon .nOvr, .mon .nSettle, .mon .seqPos, .mon .seqRep,
            .mon .settle] ++ conds [.monOvr] })
  | .monLapEnd d => some (.analogue, d,
      { own := [.mon .fAcc, .mon .fDel, .mon .fGd, .mon .fOuts, .mon .fPhase, .mon .fSeed, .mon .fSub,
            .mon .fValid, .mon .lapUs, .mon .seqPos, .mon .seqRep, .mon .seqState, .sys .winBusy, .win .monSeq,
            .winDirty .monSeq],
        ownKinds := [.mask] })
  | .filterSync d => some (.analogue, d,
      { own := [.mon .fAcc, .mon .fDel, .mon .fGd, .mon .fOuts, .mon .fPhase, .mon .fSeed, .mon .fSub,
            .mon .fValid] })
  | .syscalStart => some (.analogue, 0, { lead := [.cal .sysBusy, .cal .sysMask], every := [.mon .seqState] })
  | .syscalDone _ => some (.analogue, 0,
      { lead := [.cal .nSysCount, .cal .nSysReject, .cal .sysBusy, .cal .sysMask] ++ stickies [.calSyscalFail],
        every := [.cal .sysGain, .cal .sysOfs, .cal .sysResult, .cal .sysTimeNs, .cal .sysTimeS, .cal .sysValid,
            .mon .fAcc, .mon .fCount, .mon .fDel, .mon .fGd, .mon .fMean, .mon .fOut, .mon .fOuts, .mon .fPhase,
            .mon .fSeed, .mon .fSub, .mon .fTaint, .mon .fValid, .mon .lapUs, .mon .seqPos, .mon .seqRep,
            .mon .seqState, .mon .uncal] })
  | .biasLockinOutput d _ _ _ _ => some (.analogue, d, .join [footBiasShow,
      { own := [.bias .lastE, .bias .nTaint, .bias .nWrap, .bias .ptHasLock, .bias .ptLockV, .bias .ptWrapTo] ++
            stickies [.biasWrap] }])
  | .biasWrapDone d _ => some (.analogue, d, .join [footBiasShow])
  | .biasOutputFault d _ => some (.analogue, d, .join [footBiasShow, { own := [.bias .ptFault] }])
  | .biasPhaseAcqTimeout d _ => some (.analogue, d, .join [footBiasShow])
  | .biasRestart d _ => some (.analogue, d, .join [footBiasShow,
      { own := [.bias .initMv, .bias .ptFault, .bias .ptHasLock, .bias .ptLockV, .bias .restartReq, .bias .started,
            .bias .vpiMv] ++ conds [.biasCalFail] ++ stickies [.biasStartFail],
        lead := [.boot .procCalled, .boot .procCode, .boot .procDone] }])
  | .biasWrapNow d => some (.analogue, d, .join [footBiasShow,
      { own := [.bias .nWrap, .bias .ptWrapTo] ++ stickies [.biasWrap] }])
  | .convSliceMeasure d _ _ _ _ =>
    some (.analogue, d, .join [footConvFore, { own := [.cal .convPos, .cal .roundPct] }])
  | .convTempUpdate d _ => some (.analogue, d, { own := [.cal .temp] })
  | .railFail _ _ =>
    if !s.pkgAsleep && !s.poweredOff && s.flag (.sys .railsGood) 0 0 then none
    else some (.package, 0,
      { lead := [.ao .nPgFail] ++ conds [.pgVddConv, .pgVddCore, .pgVddOe, .pgVddPan, .pgVddSrds, .pgVddhConv,
            .pgVddhSrds, .pgVddqPan, .pgVio] })
  | .railRecovered => none
  | .hvRailFail _ => some (.package, 0, .join [footClampSet, { lead := [.ao .nPgFail] ++ conds [.pgVhvn, .pgVhvp] }])
  | .hvRailRecovered =>
    if s.flag (.pwr .waitWake) 0 0 then none
    else some (.package, 0, .join [footClampSet, { lead := lives [.pgVhvn, .pgVhvp] }])
  | .ksDrainEnd _ => some (.package, 0, .join [footChanNext, footSvcFail,
      { lead := [.pwr .nKsDrainDisc, .svc .nCheckFail, .svc .nMsg, .svc .nSuspFail, .tel .dropped, .tel .nDrop,
            .tel .written, .tkt .fetched] ++ conds [.sbgSvcFault] ++ stickies [.telOvf],
        every := [.bias .ptAcq, .bias .ptBase, .bias .ptState, .bias .ptV, .crr .nAbort, .crr .nDescDone,
            .hl .pXoff, .lt .begun4, .lt .muteCause, .lt .nMuteEnter, .lt .otherCause, .lt .ramp, .lt .sysCause,
            .lt .txState, .pan .homeOf, .pan .mapTo, .pan .migDirty, .pan .migHome, .pan .nMigSkip,
            .pan .nPoisonWr, .pan .nRetire, .pan .poison, .pan .records, .pan .state, .pwr .savedCd,
            .pwr .savedCdValid, .pwr .stage, .qs .brake, .qs .dieOcc, .qs .gapPend, .qs .occWords, .qs .qXoff,
            .qs .rd, .trc .count, .trc .nLost, .trc .trcNext, .win .panRetire, .win .trcBuf] ++ conds [.ltTxDown,
            .panDown, .panXtsFault, .qsBrakeOn, .trcFull] ++ stickies [.crrAbort],
        parts := [.descs, .rings, .telOut] }])
  | .ksStageComplete d =>
    if s.pkgEntry || decide (s.stage d = ksIsolate) then none
    else some (.package, d, { own := [.chn .state, .pwr .stage] })
  | .ksWakeSource d _ =>
    if s.pkgEntry then none
    else some (.package, d, .join [footRxGo, footLaneForced, footMuteRefresh, footPortRefresh,
      { own := [.bell .wakeReq, .chn .attempt, .chn .portEn, .chn .state, .cry .restore, .cry .rxState,
            .cry .txState, .hl .idleReq, .hl .nIdleExit, .hl .nNegAttempt, .hl .portEn, .hl .sig,
            .lr .acqRetryLeft, .lr .cdEst, .lr .cdEstValid, .lr .fastRun, .lr .nAcqAttempt, .lt .sysCause,
            .pan .state, .pwr .lateBell, .pwr .lateWake, .pwr .stage, .pwr .wakeEn] ++ conds [.lrCdNearLimit,
            .lrLoLost, .panDown] ++ lives [.hllLol],
        lead := [.ao .wakeCarrier, .ao .wakeSource, .pwr .nKsLateWake, .pwr .nKsReverse, .pwr .nWake,
            .pwr .nWakeIgnored, .sbg .drbgCount, .sbg .kwOk, .sbg .nDrbgReseed, .sbg .wrapCtr, .sbg .xtsPend,
            .sys .dieReleased],
        parts := [.cands] }])
  | .ksWakeTimer _ =>
    if s.pkgEntry then none
    else some (.package, 0, .join [footKsLeave, { parts := [.cands] }])
  | .wakeNLow =>
    if s.pkgEntry then none
    else some (.package, 0, .join [footKsLeave, { parts := [.cands] }])
  | .ksWakeComplete d => some (.package, d, { own := [.pwr .stage] })
  | .sysRstLow => none
  | .sysRstRise => none
  | .alarmStickySet _ _ _ => some (.package, 0, { anyKinds := [.live, .sticky] })
  | .alarmReportRx _ => some (.package, 0,
      { lead := [.alm .logNext, .alm .nLogEntries, .alm .nLogOverwrite, .tel .dropped, .tel .nDrop, .tel .written,
            .win .almLog] ++ stickies [.telOvf],
        parts := [.telOut] })
  | .farStatusTx d => some (.package, d, { own := [.alm .farTxFlags, .alm .farTxSeq, .alm .farTxSms] })
  | .farStatusRx d _ => some (.package, d,
      { own := [.alm .farCarrier, .alm .farFlags, .alm .farFresh, .alm .farRxSeq, .alm .farRxSms, .alm .farSender,
            .alm .nMgmtDisc] })
  | .farStatusStale d => some (.package, d, { own := [.alm .farFresh] })
  | .levelCounterTick d _ => some (.package, d, { own := [.pc .nLvl] })
  | .telDoorbellWrite _ _ => some (.package, 0, { lead := [.tel .db, .tel .nDbBad], parts := [.telOut] })
  | .telSnapshotTimer _ _ => some (.package, 0,
      { lead := [.tel .dropped, .tel .nDrop, .tel .nSkip, .tel .snapNo, .tel .written] ++ stickies [.telOvf],
        parts := [.telOut] })
  | .crcSubmit => some (.package, 0,
      { lead := [.crc .jobAddr, .crc .jobCfg, .crc .jobInit, .crc .jobLen, .crc .jobOrder, .crc .jobPoly,
            .crc .jobXor, .crc .jobsQueued, .crc .nReject, .crc .resBytes, .crc .resFaultAddr, .crc .resResult,
            .crc .resSlot, .crc .resStatus, .crc .slotRead, .crc .submits] })
  | .crcJobEnd _ _ _ => some (.package, 0,
      { lead := [.crc .jobsQueued, .crc .nJobs, .crc .resBytes, .crc .resFaultAddr, .crc .resResult,
            .crc .resStatus],
        every := [.pan .given, .pan .nRetireDrop, .pan .retirePend, .pan .sparesLeft, .pan .taken] ++ conds
            [.panMigUrgent, .panSpareEmpty, .panSpareLow] ++ stickies [.panRetireDrop],
        parts := [.retireQ] })
  | .injFire d _ => some (.package, d, { own := [.inj .left, .inj .uActive, .inj .uResult] })
  | .injStop d _ => some (.package, d, { own := [.inj .uActive, .inj .uResult] })
  | .injApply d _ => some (.package, d,
      { own := [.inj .left, .inj .nInj, .inj .uActive, .inj .uResult] ++ stickies [.injInjected] })
  | .jtagBypass => some (.package, 0, { lead := [.sys .jtagIr] })
  | .jtagIdcode => some (.package, 0, { lead := [.sys .jtagIr], parts := [.readData] })
  | .jtagSamplePreload _ _ => some (.package, 0, { lead := [.sys .jtagBr, .sys .jtagIr], parts := [.readData] })
  | .jtagExtest => some (.package, 0, { lead := [.sys .jtagIr] })
  | .vddAoApplied => some (.package, 0, { lead := [.sys .aoOn] })
  | .vddAoLoss => none
  | .perstRelease _ _ => some (.package, 0, { lead := [.sys .busMaster, .sys .msiEn, .sys .pcieUp, .sys .perstN] })
  | .xoHoldRecovered => some (.clocks, 0, { lead := [.clk .xoOk] ++ lives [.clkXoLoss] })
  | .holdoverHistoryValid _ => some (.clocks, 0, { lead := [.clk .histValid] })
  | .bellNotAvailableTimeout d => some (.keys, d, .join [footDiscFail])
  | .crcResultStatusRead _ _ =>
    some (.package, 0, .join [footReadPlace, { lead := [.tkt .nHostRdDeny], parts := [.readData] }])
  | .prbsCheckerSync d _ _ _ =>
    some (.host, d, { own := [.hl .nPrbsBits, .hl .nPrbsErr, .hl .prbsLock] ++ stickies [.hllPrbsErr] })
  | .rxDspFrame d _ => some (.line, d,
      { own := [.lr .missed, .lr .modeReload, .lr .nDspFrame, .lr .useGain, .lr .useSkew, .lr .useXPhase,
            .lr .useYPhase, .pel .taps],
        lead := [.sys .freeCount] })
  | .lineFrameTx d => some (.line, d,
      { own := [.ct .beiTx, .ct .sentFn, .ct .txDer, .ct .txLmfn, .ct .txSmBdi, .ct .txSmBei, .ct .txSmTti],
        lead := [.ct .txFn] })

end Sys2Proof
end

