-- ==== Sys2Proof/Certificates/Slice0/Obligations.lean ====
section
/-!
DEFINITION. The statements for the provers.  Most are lists of clauses, each about one command in one situation: the command
completes, and what the state it leaves holds.
-/
open Sys2Proof Sys2Proof.Machine

/-- A step runs the command at the front of the queue with the queue's rest; with an empty queue a nanosecond passes,
which is the model's choice (log 3). -/
def Obligations.StepRunsFront : Prop :=
  ∀ (c : Instr) (rest : List Instr) (s : State),
    (s.pending = c :: rest → step s = exec c { s with pending := rest }) ∧
    (s.pending = [] → step s = .next s.idleTick)

/-- What the spec says of the machine right after reset: no die is released and start-up has not begun (R56), every
Chain port, every receiver and every lane is OFF (R19, R118, R205), each DPLL is in NO_REF with MODE 1 (R367 and its
chapter), every time base reads 0 s with VALID = 0 (R385); no ticket runs, no frame is held and no command waits. -/
def Obligations.ResetState : Prop :=
  State.reset.wf = true ∧ State.reset.pending = [] ∧ State.reset.bootState = bootPor ∧ State.reset.inRun = false ∧
    State.reset.tickets = [] ∧ State.reset.run = none ∧ State.reset.rings = [] ∧ State.reset.staged = [] ∧
    ∀ d i : Nat, State.reset.released d = false ∧ State.reset.get (.chn .state) d i = 0 ∧ State.reset.rxState d = rxOff ∧
      State.reset.flag (.lr .rxSf) d 0 = true ∧ State.reset.laneState d i = hlOff ∧ State.reset.portState d i = prtOff ∧
      State.reset.dpll i = dpllNoRef ∧ State.reset.get (.clk .dpllMode) 0 i = 1 ∧ State.reset.get (.tim .tbSec) 0 i = 0 ∧
      State.reset.get (.tim .tbNs) 0 i = 0 ∧ State.reset.flag (.tim .tbValid) 0 i = false

/-- No command stops the machine: each answers a next state, and leaves the queue of waiting commands alone. -/
def Obligations.EveryCommandAnswers : Prop :=
  ∀ (c : Instr) (s : State), Completes c s fun t => t.pending = s.pending

/-- The canonical forms of the store and of the mailbox survive every step. -/
def Obligations.StepKeepsForm : Prop :=
  ∀ s t : State, s.wf = true → step s = .next t → t.wf = true

/-- R63, R65: a counter that a ticket has used serves no second ticket, whichever rows submit the two: after a ticket
that passed every check, one with the same or a smaller counter completes with STALE_COUNTER. -/
def Obligations.ReplayRefused : Prop :=
  ∀ (s t : State) (k m : Tkt) (i j : TktIn) (l l' : List Rec) (x y : (Tkt → Instr) × (Nat → List Nat → Bool)),
    x ∈ ticketRows → y ∈ ticketRows → s.passes k i l = true → x.2 i.command i.args = true → i.command ≠ cmdRestart →
    exec (x.1 k) s = .next t →
    t.processes m j l' = true → y.2 j.command j.args = true → j.node = t.get (.tkt .nodeId) 0 0 →
    t.flag (.tkt .hashFail) 0 0 = false → j.sigOk = true → j.keyIndex ≤ t.get (.tkt .keys) 0 0 → j.counter ≤ i.counter →
    Completes (y.1 m) t fun u => u.get (.tkt .lastCode) 0 0 = stStale ∧ u.tickets = t.tickets.tail ∧
      u.get (.tkt .ctrLast) 0 0 = t.get (.tkt .ctrLast) 0 0

/-- R235: "It discards each such frame, increments HL_P_MACCTL_RX and sets HOST_MACCTL": nothing of it is staged or
queued, and no gate or port changes its state. -/
def Obligations.MacControlFrames : Prop :=
  ∀ (s : State) (d p : Nat) (f : HostFrame), s.up d = true → s.get (.hl .mode) d p = 1 → s.portState d p = prtUp →
    s.ctRecord d f.id = none → f.macctl = true →
    (s.stagedAt d f.id = none → f.last = true → s.macVerdict d p f = 3 → Completes (.hostFrameRx d p f) s fun t =>
      t.staged = s.staged ∧ t.rings = s.rings ∧ t.portState d p = prtUp ∧ t.flag (.sticky .hlpHostMacctl) d p = true ∧
        t.get (.hl .nMacctlRx) d p = (s.get (.hl .nMacctlRx) d p + 1) % Counter.size) ∧
    (s.stagedAt d f.id = none → f.last = false → Completes (.hostFrameRx d p f) s fun t =>
      t.rings = s.rings ∧ (∀ g ∈ t.staged, g ∈ s.staged ∨ g.gone = true) ∧
        t.get (.hl .nMacctlRx) d p = s.get (.hl .nMacctlRx) d p) ∧
    (∀ g, s.stagedAt d f.id = some g → f.last = true → s.macVerdict d p f = 3 → Completes (.hostFrameRx d p f) s fun t =>
      t.stagedAt d f.id = none ∧ t.rings = s.rings ∧ t.flag (.sticky .hlpHostMacctl) d p = true ∧
        t.get (.hl .nMacctlRx) d p = (s.get (.hl .nMacctlRx) d p + 1) % Counter.size)

/-- R384, for each port: a read of TIM_TB_NS latches; SEC_LO, SEC_HI and FRAC then return the snapshot, and with none
the live value. -/
def Obligations.TimeSnapshots : Prop :=
  ∀ (s : State) (b : Nat) (port : APort), b < 4 → s.portOn port = true → port ≠ .pcie → port ≠ .spi →
    (∀ k, k < 4 → s.addrAnswers (0x8000 + 0x100 * b + 4 * k) = true) →
    (Completes (.timTbNsRead port b) s fun t => t.readData = [s.get (.tim .tbNs) 0 b] ∧
      (t.portRead port (0x8004 + 0x100 * b)).1 = s.get (.tim .tbSec) 0 b % Word.size ∧
      (t.portRead port (0x8008 + 0x100 * b)).1 = s.get (.tim .tbSec) 0 b / Word.size % 2 ^ 16 ∧
      (t.portRead port (0x800C + 0x100 * b)).1 = s.get (.tim .tbFrac) 0 b) ∧
    (s.flag (.sys .tbLatchValid) 0 (8 * b + portCode port) = true →
      (s.portRead port (0x8004 + 0x100 * b)) = (s.get (.sys .tbLatchSec) 0 (8 * b + portCode port) % Word.size, s) ∧
      (s.portRead port (0x8008 + 0x100 * b)) = (s.get (.sys .tbLatchSec) 0 (8 * b + portCode port) / Word.size % 2 ^ 16, s) ∧
      (s.portRead port (0x800C + 0x100 * b)) = (s.get (.sys .tbLatchFrac) 0 (8 * b + portCode port), s)) ∧
    (s.flag (.sys .tbLatchValid) 0 (8 * b + portCode port) = false →
      (s.portRead port (0x8004 + 0x100 * b)).1 = s.get (.tim .tbSec) 0 b % Word.size ∧
      (s.portRead port (0x8008 + 0x100 * b)).1 = s.get (.tim .tbSec) 0 b / Word.size % 2 ^ 16 ∧
      (s.portRead port (0x800C + 0x100 * b)).1 = s.get (.tim .tbFrac) 0 b)

/-- R42: an image whose device key identifier does not match the part is invalid with error SIGNATURE; the other
candidate is tried, and if none verifies the part enters FAILED with the last one's error. -/
def Obligations.DeviceKeyIdentifier : Prop :=
  ∀ (s : State) (a b : SlotImage), s.readsFlash = true → s.get (.boot .flashMode) 0 0 ≠ 0 →
    (a.formatOk = true → a.keyIdOk = false → s.imageFault a = some errSignature) ∧
    (s.candidate a 1 = true → s.candidate b 2 = true → a.formatOk = true → a.keyIdOk = false → b.version ≤ a.version →
      s.imageFault b = none → Completes (.imageVerify a b) s fun t => t.bootState = bootPhases ∧ t.get (.boot .slot) 0 0 = 2 ∧
        t.flag (.live .bootFallback) 0 0 = true) ∧
    (s.candidate a 1 = true → s.candidate b 2 = true → b.formatOk = true → b.keyIdOk = false → a.version < b.version →
      s.imageFault a = none → Completes (.imageVerify a b) s fun t => t.bootState = bootPhases ∧ t.get (.boot .slot) 0 0 = 1 ∧
        t.flag (.live .bootFallback) 0 0 = true) ∧
    (s.candidate a 1 = true → s.candidate b 2 = false → a.formatOk = true → a.keyIdOk = false →
      Completes (.imageVerify a b) s fun t => t.bootState = bootFailed ∧ t.get (.boot .errCode) 0 0 = errSignature ∧
        t.get (.boot .slot) 0 0 = 1) ∧
    (s.candidate a 1 = true → s.candidate b 2 = true → a.formatOk = true → a.keyIdOk = false → b.formatOk = true →
      b.keyIdOk = false → Completes (.imageVerify a b) s fun t => t.bootState = bootFailed ∧
        t.get (.boot .errCode) 0 0 = errSignature ∧ t.get (.boot .slot) 0 0 = if a.version < b.version then 1 else 2)

/-- R448: a counter outside the fixed boot set reads for the host only where one policy entry grants READ on both
halves; else each half is denied. -/
def Obligations.CounterReadPolicy : Prop :=
  ∀ (s : State) (addr low d i : Nat) (c : Ctr) (hi : Bool), s.hostBus = true → s.inRun = true →
    s.flag (.boot .policyIn) 0 0 = true → placeAt addr = .half c d i hi → low = (if hi then addr - 4 else addr) →
    bootSet addr = false → mboxRange addr = false → keyRange addr = false →
    ((∀ e ∈ s.policy, ¬ (e.read = true ∧ e.base ≤ low ∧ low + 4 ≤ e.limit)) → Completes (.hostRead addr 1) s fun t =>
      t.readData = [0] ∧ t.get (.tkt .nHostRdDeny) 0 0 = (s.get (.tkt .nHostRdDeny) 0 0 + 1) % Counter.size) ∧
    (∀ e ∈ s.policy, e.read = true → e.base ≤ low → low + 4 ≤ e.limit → Completes (.hostRead addr 1) s fun t =>
      t.readData = [(s.read .pcie addr).1] ∧ t.get (.tkt .nHostRdDeny) 0 0 = s.get (.tkt .nHostRdDeny) 0 0 ∧
        (s.addrAnswers addr = true → hi = false → t.readData = [s.get c.cell d i % Counter.size % Word.size]))

/-- R27, R53: a configuration with a carrier that is both in a Tandem pair and in a bond group breaks the rules that
OPEN_TRAFFIC checks, and the part does not reach RUN. -/
def Obligations.TandemOrBond : Prop :=
  ∀ (s : State) (d : Nat), s.present d = true → d < 8 → s.flag (.tdm .pairEn) d 0 = true → s.flag (.ct .bondEn) d 0 = true →
    s.bootState = bootPhases → s.called 11 = true →
    s.rules.all id = false ∧ Completes .openTraffic s fun t => t.bootState ≠ bootRun

/-- R246: a colour-aware policer never improves a frame's colour and passes only frames whose bytes its buckets hold:
with a deficit within its size before, no bucket owes more than its size after, and a red frame charges nothing. -/
def Obligations.PolicersHold : Prop :=
  ∀ (s : State) (d x colour n : Nat), colour ≤ 2 → s.polAlg d x ≤ 2 →
    s.get (.qs .polC) d x ≤ 8000 * s.polCbs d x → s.get (.qs .polP) d x ≤ 8000 * s.polPbs d x →
    (s.polAsk d x colour n).2.1 ≤ 2 ∧
    (s.polAware d x = true ∨ s.polAlg d x = 0 → colour ≤ (s.polAsk d x colour n).2.1) ∧
    (s.polAlg d x ≠ 0 → (s.polAsk d x colour n).2.1 = 2 → (s.polAsk d x colour n).2.2 = 0 ∧
      (s.polAsk d x colour n).1.get (.qs .polC) d x = (s.polFill d x).get (.qs .polC) d x) ∧
    (s.polAlg d x = 1 → (s.polAsk d x colour n).2.1 = 0 → (s.polAsk d x colour n).2.2 = 3) ∧
    (s.polAlg d x = 2 → (s.polAsk d x colour n).2.1 = 0 → (s.polAsk d x colour n).2.2 = 1) ∧
    (s.polAsk d x colour n).1.get (.qs .polC) d x ≤ 8000 * s.polCbs d x ∧
    (s.polAsk d x colour n).1.get (.qs .polP) d x ≤ 8000 * s.polPbs d x

/-- R264: the start that GATE_COMMIT fixes is the base where that lies at least 10 us after now, and else the first
base plus a whole number of cycles that does. -/
def Obligations.GateStarts : Prop :=
  ∀ base cycle now : Nat, 0 < cycle →
    (now + 10000 ≤ base → gateStartAt base cycle now = base) ∧
    now + 10000 ≤ gateStartAt base cycle now ∧
    (∃ n, gateStartAt base cycle now = base + n * cycle) ∧
    ∀ n, now + 10000 ≤ base + n * cycle → gateStartAt base cycle now ≤ base + n * cycle

/-- R4, R48, R49: a masked write of a register whose fields have no effects of their own: each field in the mask
takes its part of the value, and every other register keeps its contents. -/
def Obligations.RegisterFields : Prop :=
  ∀ (s : State) (addr mask value d i : Nat) (r : Reg), s.recordTurn = true → addr % 4 = 0 → s.addrAbsent addr = false →
    s.accessBusy addr mask value = false → recFormatOk false (.write addr mask value) = true →
    (s.imageWrites false [(addr, mask, value)]).2 = none →
    (s.relationsOk = false ∨ (s.imageWrites false [(addr, mask, value)]).1.relationsOk = true) →
    bankAt addr = none → placeAt addr = .reg r d i → (∀ f ∈ r.flds, f.cell.hooked = false ∧ f.acc ≠ .cmd) →
    Completes (.recordWrite addr mask value) s fun t =>
      (∀ f ∈ r.flds, f.part mask ≠ 0 → t.get f.cell (d + f.dAdd) (i + f.iAdd) =
        if f.sgn then enc (sext f.width (s.fldNew f d i mask value)) else s.fldNew f d i mask value) ∧
      ∀ k : Key, k.cell.summary = false → k.cell ≠ .boot .recIndex → k.cell ≠ .boot .wrotePortCfg →
        (∀ f ∈ r.flds, f.part mask ≠ 0 → k ≠ ⟨f.cell, d + f.dAdd, i + f.iAdd⟩) → t.getK k = s.getK k

/-- What the commands of the Chain, the line, the framing, Tandem, Peloton and Derailleur (R10 to R36, R73 to R204)
leave alone: outside a command's footprint every register, counter, alarm bit and window word stays as it was, and so
does every other part of the state. -/
def Obligations.ChainAndLineKept : Prop :=
  ∀ (c : Instr) (s t : State) (side : Side) (die : Nat) (f : Foot), c.foot s = some (side, die, f) → side = .chain ∨ side = .line →
    exec c s = .next t →
    (∀ k, f.moves die k = false → t.getK k = s.getK k) ∧ ∀ p, f.touches p = false → p.same s t

/-- What the commands of the host lanes, the queues, Pannier and Courier (R205 to R314) leave alone: outside a
command's footprint every register, counter, alarm bit and window word stays as it was, and so does every other part
of the state. -/
def Obligations.HostAndMemoryKept : Prop :=
  ∀ (c : Instr) (s t : State) (side : Side) (die : Nat) (f : Foot), c.foot s = some (side, die, f) → side = .host ∨ side = .memory →
    exec c s = .next t →
    (∀ k, f.moves die k = false → t.getK k = s.getK k) ∧ ∀ p, f.touches p = false → p.same s t

/-- What the commands of the Saddlebag, the seals and the Bell channel (R315 to R366) leave alone: outside a
command's footprint every register, counter, alarm bit and window word stays as it was, and so does every other part
of the state. What the commands of the clocks, the time bases, the monitors, the converters and the bias loops (R367
to R423) leave alone: outside a command's footprint every register, counter, alarm bit and window word stays as it
was, and so does every other part of the state. -/
def Obligations.KeysClocksAnalogueKept : Prop :=
  (∀ (c : Instr) (s t : State) (side : Side) (die : Nat) (f : Foot), c.foot s = some (side, die, f) → side = .keys →
    exec c s = .next t →
    (∀ k, f.moves die k = false → t.getK k = s.getK k) ∧ ∀ p, f.touches p = false → p.same s t) ∧
  (∀ (c : Instr) (s t : State) (side : Side) (die : Nat) (f : Foot), c.foot s = some (side, die, f) → side = .clocks ∨ side = .analogue →
    exec c s = .next t →
    (∀ k, f.moves die k = false → t.getK k = s.getK k) ∧ ∀ p, f.touches p = false → p.same s t)

/-- What the commands of start-up, the reads, Kickstand, the rails and the diagnostics (R37 to R72, R424 to R475)
leave alone: outside a command's footprint every register, counter, alarm bit and window word stays as it was, and so
does every other part of the state. -/
def Obligations.PackageKept : Prop :=
  ∀ (c : Instr) (s t : State) (side : Side) (die : Nat) (f : Foot), c.foot s = some (side, die, f) → side = .package →
    exec c s = .next t →
    (∀ k, f.moves die k = false → t.getK k = s.getK k) ∧ ∀ p, f.touches p = false → p.same s t

/-- What tickets leave alone (R63, R65, R66): one that fails a check changes only what its completion and the journal
show; an accepted one without records also what its command does. -/
def Obligations.TicketsKept : Prop :=
  ∀ (s t : State) (m : Tkt) (i : TktIn) (l : List Rec) (f : Foot) (x : (Tkt → Instr) × (Nat → List Nat → Bool)),
    x ∈ ticketRows → s.front m = some i → exec (x.1 m) s = .next t →
    (i.form = none ∨ i.form = some l ∧ s.passes m i l = false →
      (∀ k, footTicket.moves 0 k = false → t.getK k = s.getK k) ∧
      ∀ p, footTicket.touches p = false → p.same s t) ∧
    (s.passes m i [] = true → footAct i.command = some f →
      (∀ k, (Foot.join [footTicket, f]).moves 0 k = false → t.getK k = s.getK k) ∧
      ∀ p, (Foot.join [footTicket, f]).touches p = false → p.same s t)

/-- R12, R46, R56, R58, R343, R427, R445, R482: what a restart, a reset pin, a failed rail, a tamper trip or the loss
of VDD_AO leaves. Fuses, flash, the Lantern and the always-on island keep their contents; everything else stays or is
as after reset. -/
def Obligations.RestartsKept : Prop :=
  ∀ (c : Instr) (s t : State) (k : Key),
    (resetCmd c = true → exec c s = .next t → footRestart.moves 0 k = false →
      (k.cell.survives = true → t.getK k = s.getK k) ∧ (t.getK k = s.getK k ∨ t.getK k = k.reset)) ∧
    (exec .vddAoLoss s = .next t → k.cell.summary = false → k.cell.outlastsAo = true → t.getK k = s.getK k) ∧
    (exec .vddAoLoss s = .next t → k.cell.summary = false → s.flag (.sys .aoOn) 0 0 = true → k.cell.outlastsAo = false →
      k.cell ≠ .sys .aoOn → t.getK k = k.reset)

/-- R19, R20, R22: what each command of training does to a Chain port, and how the port leaves UP. R15, R16, R17,
R21, R24: flits over the Chain and frames over a Spoke link. -/
def Obligations.Chain : Prop :=
  (∀ (s : State) (d p lane peer : Nat) (failed : List Nat) (completed : Bool), s.up d = true →
    (s.flag (.chn .portEn) d p = false → Completes (.chainPortEnable d p) s fun t =>
      t.get (.chn .portEn) d p = 1 ∧ t.get (.chn .state) d p = chnTraining ∧
        t.get (.chn .nRetrain) d p = s.get (.chn .nRetrain) d p) ∧
    (s.flag (.chn .portEn) d p = true → Completes (.chainPortDisable d p) s fun t =>
      t.get (.chn .portEn) d p = 0 ∧ t.get (.chn .state) d p = chnOff ∧ t.flag (.live .chnDown) d p = false) ∧
    (s.chainState d p = chnTraining ∨ s.chainState d p = chnRetraining → 2 ≤ failed.length →
      Completes (.chainTrainAttemptEnd d p completed failed peer) s fun t =>
        t.get (.chn .state) d p = chnDownSt ∧ t.flag (.live .chnDown) d p = true ∧
          t.get (.chn .nRetrain) d p = s.get (.chn .nRetrain) d p) ∧
    (s.chainState d p = chnTraining ∨ s.chainState d p = chnRetraining → s.flag (.chn .spareUsed) d p = false →
      Completes (.chainTrainAttemptEnd d p true [lane] (s.chainPeer d p)) s fun t =>
        t.get (.chn .state) d p = chnUp ∧ t.get (.chn .spareUsed) d p = 1 ∧ t.get (.chn .failedLane) d p = lane ∧
          t.flag (.live .chnLaneSpared) d p = true ∧ t.get (.chn .peerDie) d p = s.chainPeer d p) ∧
    (s.chainState d p = chnTraining ∨ s.chainState d p = chnRetraining → peer ≠ s.chainPeer d p →
      Completes (.chainTrainAttemptEnd d p true [] peer) s fun t =>
        t.get (.chn .state) d p = chnDownSt ∧ t.flag (.live .chnPeerMismatch) d p = true ∧
          t.get (.chn .peerDie) d p = peer) ∧
    (s.chainState d p = chnTraining ∨ s.chainState d p = chnRetraining →
      Completes (.chainTrainAttemptEnd d p false [] peer) s fun t =>
        if s.get (.chn .attempt) d p < 1 + s.get (.chn .retrainMax) d p then
          t.get (.chn .state) d p = s.get (.chn .state) d p ∧
            t.get (.chn .nRetrain) d p = (s.get (.chn .nRetrain) d p + 1) % Counter.size
        else t.get (.chn .state) d p = chnDownSt ∧ t.flag (.live .chnDown) d p = true) ∧
    (s.chainState d p = chnUp → Completes (.chainClkLoss d p) s fun t =>
      t.get (.chn .state) d p = chnRetraining ∧ t.get (.chn .clkOk) d p = 0 ∧ t.flag (.live .chnClkLoss) d p = true ∧
        t.get (.chn .nRetrain) d p = (s.get (.chn .nRetrain) d p + 1) % Counter.size) ∧
    (s.chainState d p = chnUp → 16 ≤ s.replaysRun d p → Completes (.chainReplayLimit d p) s fun t =>
      t.get (.chn .state) d p = chnRetraining ∧
        t.get (.chn .nRetrain) d p = (s.get (.chn .nRetrain) d p + 1) % Counter.size) ∧
    (s.chainState d p = chnUp → s.farTrains d p = true → Completes (.chainPeerRetrain d p) s fun t =>
      t.get (.chn .state) d p = chnRetraining ∧
        t.get (.chn .nRetrain) d p = (s.get (.chn .nRetrain) d p + 1) % Counter.size)) ∧
  (∀ (s : State) (d p q cls seq : Nat) (crcOk late : Bool) (offers : List ChainOffer) (f : ChainOffer) (h : HeldFlit)
      (rest : List HeldFlit), s.up d = true →
    (s.chainState d p = chnUp → s.get (.chn .replayLeft) d p = 0 → s.pickFlit d p offers = some f →
      Completes (.chainFlitTx d p offers) s fun t =>
        t.get (.chn .nFlitTx) d p = (s.get (.chn .nFlitTx) d p + 1) % Counter.size ∧
        t.get (.chn .credits) d (creditIdx p f.cls) = s.get (.chn .credits) d (creditIdx p f.cls) - 1 ∧
        t.get (.chn .unacked) d p = s.get (.chn .unacked) d p + 1) ∧
    (s.chainState d p = chnUp → Completes (.chainFlitRx d p (s.get (.chn .rxSeq) d p) true cls late) s fun t =>
      t.get (.chn .nFlitRx) d p = (s.get (.chn .nFlitRx) d p + 1) % Counter.size ∧
        t.get (.chn .rxSeq) d p = (s.get (.chn .rxSeq) d p + 1) % Counter.size ∧
        t.get (.chn .nPelLate) d p =
          (if cls = 2 ∧ late = true then (s.get (.chn .nPelLate) d p + 1) % Counter.size else s.get (.chn .nPelLate) d p)) ∧
    (s.chainState d p = chnUp → (crcOk = false ∨ seq ≠ s.get (.chn .rxSeq) d p) →
      Completes (.chainFlitRx d p seq crcOk cls late) s fun t =>
        t.get (.chn .nFlitRx) d p = s.get (.chn .nFlitRx) d p ∧ t.get (.chn .rxSeq) d p = s.get (.chn .rxSeq) d p ∧
        t.get (.chn .nCrcErr) d p =
          (if crcOk = false then (s.get (.chn .nCrcErr) d p + 1) % Counter.size else s.get (.chn .nCrcErr) d p) ∧
        t.get (.chn .nReplay) (s.chainPeer d p) (1 - p) =
          (s.get (.chn .nReplay) (s.chainPeer d p) (1 - p) + 1) % Counter.size) ∧
    (takeFirst (s.heldCanGo d) s.held = some (h, rest) → s.controlPort d h.dest = some q →
      Completes (.chainHeldFlitRelease d) s fun t => t.held = rest ∧
        t.get (.chn .nFlitTx) d q = (s.get (.chn .nFlitTx) d q + 1) % Counter.size) ∧
    (Completes (.spokeFrameRx d true) s fun t => t.get (.chn .spokeLost) d 0 = 0 ∧ t.flag (.live .spokeLost) d 0 = false) ∧
    (Completes (.spokeFrameRx d false) s fun t =>
      t.get (.chn .nSpokeCrcErr) d 0 = (s.get (.chn .nSpokeCrcErr) d 0 + 1) % Counter.size) ∧
    (Completes (.spokeLost d) s fun t => t.get (.chn .spokeLost) d 0 = 1 ∧ t.flag (.live .spokeLost) d 0 = true ∧
      t.get (.cal .stale) d 0 = 1))

/-- R87, R88, R89: how the transmitter starts, passes its waits, mutes, resumes and stops. R80, R83, R84, R86: what a
DSP frame boundary, a DAC clip window and an applied filter do. -/
def Obligations.Transmitter : Prop :=
  (∀ (s : State) (d : Nat) (cal : OeCal), s.up d = true →
    (s.flag (.lt .txEn) d 0 = false → s.get (.lt .mute) d 0 % 2 = 0 → s.get (.lt .sysCause) d 0 = 0 →
      Completes (.txEnRise d cal) s fun t => t.get (.lt .txEn) d 0 = 1 ∧ t.get (.lt .txState) d 0 = txWaitLaser ∧
        t.flag (.live .ltTxDown) d 0 = true) ∧
    (s.flag (.lt .txEn) d 0 = true → Completes (.txEnFall d) s fun t =>
      t.get (.lt .txEn) d 0 = 0 ∧ t.get (.lt .txState) d 0 = txOff ∧ t.get (.lt .muteCause) d 0 = 0 ∧
        t.flag (.live .ltTxDown) d 0 = false) ∧
    (s.flag (.lt .txEn) d 0 = true → s.flag (.lt .ramp) d 0 = false → s.muteCauses d = 0 →
      (s.txState d = txWaitLaser → Completes (.txWaitEnd d) s fun t => t.get (.lt .txState) d 0 = txWaitBias) ∧
      (s.txState d = txWaitBias → Completes (.txWaitEnd d) s fun t => t.get (.lt .txState) d 0 = txWaitCal) ∧
      (s.txState d = txWaitCal → s.flag (.cal .convValid) d 0 = true → Completes (.txWaitEnd d) s fun t =>
        t.get (.lt .txState) d 0 = txWaitCal ∧ t.get (.lt .ramp) d 0 = 1)) ∧
    (s.flag (.lt .txEn) d 0 = true → s.flag (.lt .ramp) d 0 = true → s.muteCauses d = 0 →
      Completes (.txRampComplete d) s fun t => t.get (.lt .txState) d 0 = txActive ∧ t.get (.lt .ramp) d 0 = 0 ∧
        t.flag (.live .ltTxDown) d 0 = false) ∧
    (s.flag (.lt .txEn) d 0 = true → s.txState d ≠ txMuted → Completes (.txMuteCauseSet d 0) s fun t =>
      t.get (.lt .txState) d 0 = txMuted ∧ t.get (.lt .mute) d 0 = 1 ∧ bit (t.get (.lt .muteCause) d 0) 0 = true ∧
        t.get (.lt .nMuteEnter) d 0 = (s.get (.lt .nMuteEnter) d 0 + 1) % Counter.size) ∧
    (s.flag (.lt .txEn) d 0 = true → s.txState d = txMuted → s.flag (.lt .ramp) d 0 = false → s.muteCauses d = 1 →
      Completes (.txMuteCauseClear d 0) s fun t => t.get (.lt .mute) d 0 = 0 ∧ t.get (.lt .muteCause) d 0 = 0 ∧
        (if s.flag (.lt .begun4) d 0 = true ∧ s.flag (.lt .otherCause) d 0 = false then
          t.get (.lt .txState) d 0 = txMuted ∧ t.get (.lt .ramp) d 0 = 1
        else t.get (.lt .txState) d 0 = txWaitLaser))) ∧
  (∀ (s : State) (d clipped : Nat), s.up d = true →
    (s.txFrames d = true → Completes (.dspFrameBoundary d) s fun t =>
      t.get (.lt .nDspFrame) d 0 = (s.get (.lt .nDspFrame) d 0 + 1) % Counter.size ∧
        t.get (.lt .pilotX) d 0 = s.get (.lt .pilotSeed) d 0 ∧
        t.get (.lt .pilotY) d 0 = pilotYSeed (s.get (.lt .pilotSeed) d 0) ∧
        t.get (.lt .useNlpd) d 0 = s.get (.lt .nlpdGain) d 0 ∧ t.get (.lt .firPending) d 0 = 0) ∧
    (s.txBegun d = true → Completes (.dacClipWindow d clipped) s fun t =>
      t.get (.lt .nDacClip) d 0 = (s.get (.lt .nDacClip) d 0 + clipped) % Counter.size ∧
        (1600 < clipped → t.flag (.sticky .ltDacClipHi) d 0 = true)) ∧
    (Completes (.ltFirApply d) s fun t => t.get (.lt .firPending) d 0 = 1))

/-- R91 to R95: what each command does to the state of a laser port. -/
def Obligations.LaserStates : Prop :=
  ∀ (s : State) (p n : Nat) (r : LasRead) (noAck : Bool), s.lasPort p = true →
    (s.discovering p = true → r.present = false → Completes (.laserDiscover p r) s fun t =>
      t.get (.las .state) p 0 = lasAbsent ∧ t.get (.las .reason) p 0 = 1 ∧ t.get (.las .present) p 0 = 0) ∧
    (s.discovering p = true → s.flag (.las .lasEn) p 0 = true →
      r.present = true → r.supported = true → r.ready = true → r.tuned = true → Completes (.laserDiscover p r) s fun t =>
        t.get (.las .state) p 0 = lasReadySt ∧ t.get (.las .reason) p 0 = 0 ∧ t.getI (.las .refTap) p 0 = dec (enc r.tap) ∧
          t.flag (.live .lasFault) p 0 = false) ∧
    (s.flag (.las .lasEn) p 0 = true → s.lasState p = lasFaultSt ∨ s.lasState p = lasAbsent →
      r.present = true → r.supported = true → r.ready = true → r.tuned = true → Completes (.lasRecoverTimer p r) s fun t =>
        t.get (.las .state) p 0 = lasReadySt ∧ t.flag (.live .lasFault) p 0 = false) ∧
    (s.flag (.las .present) p 0 = true → s.flag (.las .retryWait) p 0 = false →
      (Completes (.lasTransaction p true noAck) s fun t =>
        t.get (.las .nXact) p 0 = (s.get (.las .nXact) p 0 + 1) % Counter.size ∧ t.get (.las .attempt) p 0 = 0) ∧
      (Completes (.lasTransaction p false noAck) s fun t =>
        if s.get (.las .attempt) p 0 < 3 then
          t.get (.las .attempt) p 0 = s.get (.las .attempt) p 0 + 1 ∧ t.get (.las .retryWait) p 0 = 1
        else t.get (.las .nXactFail) p 0 = (s.get (.las .nXactFail) p 0 + 1) % Counter.size ∧
          t.get (.las .state) p 0 = lasFaultSt ∧ t.get (.las .reason) p 0 = if noAck then 2 else 3)) ∧
    (s.flag (.las .retryWait) p 0 = true → Completes (.lasRetryWaitExpiry p) s fun t =>
      t.get (.las .retryWait) p 0 = 0 ∧ t.get (.las .nRetry) p 0 = (s.get (.las .nRetry) p 0 + 1) % Counter.size) ∧
    (s.lasState p ≠ lasAbsent → Completes (.lasPresenceLost p) s fun t =>
      t.get (.las .state) p 0 = lasAbsent ∧ t.get (.las .reason) p 0 = 1 ∧ t.get (.las .present) p 0 = 0) ∧
    (s.lasState p = lasReadySt → s.tapLow p r.tap = false → r.fault = false →
      Completes (.lasPoll p r) s fun t => t.get (.las .state) p 0 = lasReadySt ∧ t.get (.las .lowCount) p 0 = 0 ∧
        t.get (.las .freqErr) p 0 = enc r.freqErr % 2 ^ 16 ∧ t.flag (.live .lasLow) p 0 = false ∧
        t.flag (.live .lasWarn) p 0 = r.warn) ∧
    (s.lasState p = lasReadySt → s.tapLow p r.tap = true → r.fault = false →
      s.get (.las .lowCount) p 0 = 9 → Completes (.lasPoll p r) s fun t =>
        t.get (.las .state) p 0 = lasFaultSt ∧ t.get (.las .reason) p 0 = 7 ∧ t.flag (.live .lasLow) p 0 = true) ∧
    (s.lasState p = lasDiscover ∨ s.lasState p = lasTuning → Completes (.lasTuneTimeout p) s fun t =>
      t.get (.las .state) p 0 = lasFaultSt ∧ t.get (.las .reason) p 0 = 5) ∧
    (Completes (.lasGridChange p n) s fun t => t.getI (.las .gridN) p 0 = dec (enc (sext 16 n)) ∧
      (s.flag (.las .lasEn) p 0 = true → s.lasState p = lasReadySt → t.get (.las .state) p 0 = lasTuning)) ∧
    (s.flag (.las .lasEn) p 0 = false → Completes (.lasEnRise p) s fun t => t.get (.las .lasEn) p 0 = 1 ∧
      t.get (.las .state) p 0 = if s.flag (.las .passed3) p 0 then lasTuning else lasDiscover) ∧
    (s.flag (.las .lasEn) p 0 = true → Completes (.lasEnFall p) s fun t => t.get (.las .lasEn) p 0 = 0 ∧
      t.get (.las .state) p 0 = lasDisabled ∧ t.flag (.live .lasFault) p 0 = false)

/-- R115 to R120: how acquisition starts, passes its steps, fails a step and ends. -/
def Obligations.ReceiverAcquisition : Prop :=
  ∀ (s : State) (d : Nat) (m : AcqMeas) (cal : OeCal) (power : Int), s.up d = true →
    (s.flag (.lr .rxEn) d 0 = false → Completes (.rxEnRise d cal power) s fun t =>
      t.get (.lr .rxEn) d 0 = 1 ∧ t.rxState d = rxPrereq ∧ t.get (.lr .rxSf) d 0 = 1 ∧
        t.get (.lr .acqRetryLeft) d 0 = s.get (.lr .acqRetry) d 0 ∧
        t.get (.lr .nAcqAttempt) d 0 = (s.get (.lr .nAcqAttempt) d 0 + 1) % Counter.size ∧
        t.flag (.live .lrRxDown) d 0 = true ∧ (s.powerLow d power = true → t.flag (.live .lrLos) d 0 = true)) ∧
    (s.called 9 = true → s.procArg 9 0 = d → Completes (.acquireLine d cal power) s fun t =>
      t.get (.lr .rxEn) d 0 = 1 ∧ t.rxState d = rxPrereq ∧ t.called 9 = true ∧
        t.get (.lr .nAcqAttempt) d 0 = (s.get (.lr .nAcqAttempt) d 0 + 1) % Counter.size) ∧
    (s.flag (.lr .rxEn) d 0 = true → Completes (.rxEnFall d) s fun t =>
      t.get (.lr .rxEn) d 0 = 0 ∧ t.rxState d = rxOff ∧ t.get (.lr .cdEstValid) d 0 = 0 ∧ t.get (.lr .eqValid) d 0 = 0 ∧
        t.flag (.live .lrRxDown) d 0 = false ∧ t.flag (.live .lrLos) d 0 = false ∧ t.flag (.live .lrLoLost) d 0 = false) ∧
    (s.rxState d = rxPrereq → s.lasReady d = true → s.flag (.cal .convValid) d 0 = true →
      Completes (.acqStepPass d m) s fun t => t.rxState d = rxSignal) ∧
    (s.rxState d = rxSignal → s.getI (.lr .losThresh) d 0 + 10 < m.power → Completes (.acqStepPass d m) s fun t =>
      t.rxState d = (if s.flag (.lr .cdMode) d 0 then rxFreq else rxCd) ∧ t.flag (.live .lrLos) d 0 = false ∧
        t.get (.lr .tiaGain) d 0 = min 120 m.gain) ∧
    (s.rxState d = rxCd → (s.cdWindow d).1 ≤ m.cd → m.cd ≤ (s.cdWindow d).2 → Completes (.acqStepPass d m) s fun t =>
      t.rxState d = rxFreq ∧ t.getI (.lr .cdEst) d 0 = dec (enc m.cd) ∧ t.get (.lr .cdEstValid) d 0 = 1 ∧
        t.getI (.lr .cdFilter) d 0 = dec (enc m.cd)) ∧
    (s.rxState d = rxFreq → m.freq.natAbs ≤ 3500 → Completes (.acqStepPass d m) s fun t => t.rxState d = rxTiming) ∧
    (5 ≤ s.rxState d → s.rxState d ≤ 8 → Completes (.acqStepPass d m) s fun t =>
      t.rxState d = s.rxState d + 1 ∧ (s.rxState d = rxSync → t.get (.lr .xySwap) d 0 = m.swap.toNat)) ∧
    (s.rxState d = rxVerify → s.get (.lr .ngmiMin) d 0 ≤ m.ngmi → Completes (.acqStepPass d m) s fun t =>
      t.rxState d = rxLocked ∧ t.get (.lr .rxSf) d 0 = 0 ∧ t.get (.lr .eqValid) d 0 = 1 ∧
        t.get (.lr .acqRetryLeft) d 0 = s.get (.lr .acqRetry) d 0 ∧ t.flag (.live .lrAcqFailed) d 0 = false ∧
        t.flag (.live .lrRxDown) d 0 = false) ∧
    (s.acquiring d = true → s.get (.lr .acqRetryLeft) d 0 ≠ 0 → Completes (.acqStepTimeout d) s fun t =>
      t.rxState d = (if s.rxState d = rxPrereq then rxPrereq else rxSignal) ∧
        t.get (.lr .acqRetryLeft) d 0 = s.get (.lr .acqRetryLeft) d 0 - 1 ∧ t.get (.lr .lastFailStep) d 0 = s.rxState d ∧
        t.get (.lr .nAcqFail) d 0 = (s.get (.lr .nAcqFail) d 0 + 1) % Counter.size) ∧
    (s.acquiring d = true → s.get (.lr .acqRetryLeft) d 0 = 0 → Completes (.acqStepTimeout d) s fun t =>
      t.rxState d = rxFailedWait ∧ t.flag (.live .lrAcqFailed) d 0 = true ∧ t.get (.lr .lastFailStep) d 0 = s.rxState d) ∧
    (s.flag (.lr .rxEn) d 0 = true → s.rxState d = rxFailedWait → Completes (.failedWaitExpiry d) s fun t =>
      t.rxState d = rxPrereq ∧ t.get (.lr .acqRetryLeft) d 0 = s.get (.lr .acqRetry) d 0 ∧
        t.get (.lr .nAcqAttempt) d 0 = (s.get (.lr .nAcqAttempt) d 0 + 1) % Counter.size)

/-- R100, R101, R104, R108, R110, R112, R113, R119, R120: how the receiver loses and regains lock and what it tracks. -/
def Obligations.ReceiverTracking : Prop :=
  ∀ (s : State) (d tr clipped : Nat) (power cd : Int) (holds : Bool), s.up d = true →
    (s.flag (.lr .rxEn) d 0 = true → power < s.getI (.lr .losThresh) d 0 → Completes (.rxLos d power) s fun t =>
      t.flag (.live .lrLos) d 0 = true ∧ t.get (.lr .rxPower) d 0 = enc power % 2 ^ 16 ∧
        (if 3 ≤ s.rxState d ∧ s.rxState d ≤ 10 then
          t.rxState d = (if s.get (.lr .holdMs) d 0 = 0 then rxSignal else rxHold) ∧
            t.get (.lr .nLosEnter) d 0 = (s.get (.lr .nLosEnter) d 0 + 1) % Counter.size
        else t.rxState d = s.rxState d)) ∧
    (s.flag (.lr .rxEn) d 0 = true → s.getI (.lr .losThresh) d 0 + 10 < power →
      Completes (.rxPowerReturn d power) s fun t => t.flag (.live .lrLos) d 0 = false ∧
        (s.rxState d = rxHold → t.rxState d = if s.flag (.lr .fastRelock) d 0 then rxTiming else rxSignal) ∧
        (s.rxState d ≠ rxHold → t.rxState d = s.rxState d)) ∧
    (s.rxState d = rxHold → Completes (.holdExpiry d) s fun t =>
      t.rxState d = rxSignal ∧ t.get (.lr .eqValid) d 0 = 0 ∧ t.get (.lr .cdEst) d 0 = s.get (.lr .cdEst) d 0) ∧
    (s.flag (.lr .rxEn) d 0 = true → s.lasReady d = false → Completes (.rxLoLost d) s fun t =>
      t.flag (.live .lrLoLost) d 0 = true ∧
        t.rxState d = (if 2 ≤ s.rxState d ∧ s.rxState d ≤ 11 then rxPrereq else s.rxState d) ∧
        t.get (.lr .acqRetryLeft) d 0 = s.get (.lr .acqRetryLeft) d 0) ∧
    (s.rxState d = rxLocked →
      (Completes (.eqSlip d) s fun t => t.rxState d = rxEq ∧ t.flag (.sticky .lrEqSlip) d 0 = true ∧
        t.get (.lr .nEqReinit) d 0 = (s.get (.lr .nEqReinit) d 0 + 1) % Counter.size) ∧
      (Completes (.syncLoss d) s fun t => t.rxState d = rxSync ∧ t.flag (.sticky .lrSyncLoss) d 0 = true ∧
        t.get (.lr .nSyncLoss) d 0 = (s.get (.lr .nSyncLoss) d 0 + 1) % Counter.size) ∧
      (Completes (.freqOffsetExceeded d) s fun t => t.rxState d = rxFreq ∧ t.get (.lr .rxSf) d 0 = 1)) ∧
    (8 ≤ s.rxState d → s.rxState d ≤ 10 → Completes (.cycleSlip d) s fun t => t.rxState d = s.rxState d ∧
      t.flag (.sticky .lrCycleSlip) d 0 = true ∧
      t.get (.lr .nCycleSlip) d 0 = (s.get (.lr .nCycleSlip) d 0 + 1) % Counter.size) ∧
    (s.flag (.lr .rxEn) d 0 = true →
      (Completes (.agcFastStep d) s fun t => t.get (.lr .tiaGain) d 0 = s.get (.lr .tiaGain) d 0 - 4 ∧
        t.get (.lr .nAgcFastStep) d 0 = (s.get (.lr .nAgcFastStep) d 0 + 1) % Counter.size) ∧
      (Completes (.adcClipWindow d tr clipped) s fun t =>
        t.get (.lr .nAdcClip) d tr = (s.get (.lr .nAdcClip) d tr + clipped) % Counter.size ∧
        (1600 < clipped → t.flag (.sticky .lrAdcClipHi) d 0 = true)) ∧
      (Completes (.adcOverload d holds) s fun t =>
        t.flag (.live .lrAdcOverload) d 0 = (holds && decide (s.get (.lr .tiaGain) d 0 = 0))) ∧
      (Completes (.rxPwrLow d holds) s fun t =>
        t.flag (.live .lrRxPwrLow) d 0 = (holds && decide (s.get (.lr .tiaGain) d 0 = 120)))) ∧
    (s.rxState d = rxLocked → 100 < (cd - s.getI (.lr .cdFilter) d 0).natAbs → Completes (.cdReprogram d cd) s fun t =>
      t.getI (.lr .cdEst) d 0 = dec (enc cd) ∧ t.get (.lr .cdEstValid) d 0 = 1 ∧
        t.getI (.lr .cdFilter) d 0 = dec (enc cd) ∧ t.rxState d = rxLocked)

/-- R135 to R140: codeword lock, the decoder's counts and the signal-fail interval. R123, R124, R141: what a quality
window leaves. -/
def Obligations.Decoder : Prop :=
  (∀ (s : State) (d frame iter outer ones zeros residual : Nat), s.up d = true →
    (s.txFrames d = true → Completes (.superframeEncodeStart d) s fun t =>
      t.get (.fec .prbs31) d 0 = 0x7FFFFFFF ∧ t.get (.fec .fillAcc) d 0 = 0 ∧ t.get (.fec .stairClear) d 0 = 1 ∧
        t.get (.fec .superframes) d 0 = (s.get (.fec .superframes) d 0 + 1) % Counter.size) ∧
    (s.get (.fec .lockState) d 0 = 1 → 75 ≤ frame → s.get (.fec .candAt) d (frame % 75) = frame - 75 + 1 →
      Completes (.fecLockCandidate d frame true) s fun t =>
        t.get (.fec .lockState) d 0 = 2 ∧ t.get (.fec .lockPhase) d 0 = frame % 75 ∧ t.get (.fec .failRun) d 0 = 0) ∧
    (s.get (.fec .lockState) d 0 = 1 → s.get (.fec .candAt) d (frame % 75) ≠ frame - 75 + 1 →
      Completes (.fecLockCandidate d frame true) s fun t =>
        t.get (.fec .lockState) d 0 = 1 ∧ t.get (.fec .candAt) d (frame % 75) = frame + 1) ∧
    (s.get (.fec .lockState) d 0 = 2 → s.get (.fec .lockPhase) d 0 = frame % 75 → 3 ≤ s.get (.fec .failRun) d 0 →
      Completes (.fecLockCandidate d frame false) s fun t =>
        t.get (.fec .lockState) d 0 = 1 ∧ t.flag (.sticky .fecLockLoss) d 0 = true ∧
          t.get (.fec .nLockLoss) d 0 = (s.get (.fec .nLockLoss) d 0 + 1) % Counter.size) ∧
    (s.get (.fec .lockState) d 0 = 2 → s.get (.fec .lockPhase) d 0 = frame % 75 → s.get (.fec .failRun) d 0 < 3 →
      Completes (.fecLockCandidate d frame false) s fun t =>
        t.get (.fec .lockState) d 0 = 2 ∧ t.get (.fec .failRun) d 0 = s.get (.fec .failRun) d 0 + 1) ∧
    (s.flag (.lr .rxEn) d 0 = true → s.flag (.lr .rxSf) d 0 = true → Completes (.codewordDecode d true iter) s fun t =>
      t.get (.fec .nCwSkipped) d 0 = (s.get (.fec .nCwSkipped) d 0 + 1) % Counter.size ∧
        t.get (.fec .nCw) d 0 = s.get (.fec .nCw) d 0) ∧
    (s.flag (.lr .rxEn) d 0 = true → s.flag (.lr .rxSf) d 0 = false → s.get (.fec .lockState) d 0 = 2 →
      (Completes (.codewordDecode d false iter) s fun t =>
        t.get (.fec .nCw) d 0 = (s.get (.fec .nCw) d 0 + 1) % Counter.size ∧
          t.get (.fec .nLdpcFail) d 0 = (s.get (.fec .nLdpcFail) d 0 + 1) % Counter.size ∧
          t.flag (.sticky .fecLdpcFail) d 0 = true) ∧
      (iter ≤ s.get (.fec .iterCap) d 0 → (s.rxMode d).lineStd = 0 → Completes (.codewordDecode d true iter) s fun t =>
        t.get (.fec .nCw) d 0 = (s.get (.fec .nCw) d 0 + 1) % Counter.size ∧
          t.get (.fec .nIterHist) d (iter - 1) = (s.get (.fec .nIterHist) d (iter - 1) + 1) % Counter.size ∧
          t.get (.fec .nLdpcFail) d 0 = s.get (.fec .nLdpcFail) d 0)) ∧
    (s.flag (.lr .rxEn) d 0 = true → s.get (.fec .lockState) d 0 = 2 →
      Completes (.outerRowExit d outer ones zeros residual) s fun t =>
        t.get (.fec .nOuterCorr) d 0 = (s.get (.fec .nOuterCorr) d 0 + outer) % Counter.size ∧
          t.get (.fec .nCorrBits) d 0 = (s.get (.fec .nCorrBits) d 0 + (ones + zeros)) % Counter.size ∧
          t.get (.fec .nCorrOnes) d 0 = (s.get (.fec .nCorrOnes) d 0 + ones) % Counter.size ∧
          t.get (.fec .nCorrZeros) d 0 = (s.get (.fec .nCorrZeros) d 0 + zeros) % Counter.size ∧
          (residual ≠ 0 → t.flag (.sticky .fecUncorr) d 0 = true ∧
            t.get (.fec .nUncorr) d 0 = (s.get (.fec .nUncorr) d 0 + residual) % Counter.size)) ∧
    (s.flag (.lr .rxEn) d 0 = true → s.get (.fec .lockState) d 0 = 2 → Completes (.fecSfInterval d) s fun t =>
      t.flag (.live .fecSf) d 0 = decide (s.get (.fec .ucwSfThresh) d 0 < s.get (.fec .ucwCount) d 0) ∧
        t.get (.fec .ucwCount) d 0 = 0)) ∧
  (∀ (s : State) (d : Nat) (q : Quality), s.up d = true → s.flag (.lr .rxEn) d 0 = true →
    (Completes (.qualityWindowEnd d q) s fun t =>
      t.get (.lr .qSeq) d 0 = (s.get (.lr .qSeq) d 0 + 1) % 2 ^ 31 ∧
        t.get (.lr .qValid) d 0 = (s.flag (.lr .winLocked) d 0 && decide (s.rxState d = rxLocked)).toNat ∧
        t.get (.lr .qSnrEff) d 0 = min q.snrEff 0xFFFF ∧ t.get (.lr .qGmi) d 0 = min q.gmi 0xFFFF ∧
        t.get (.lr .qNgmi) d 0 = (s.rxMode d).ngmi q.gmi ∧
        t.get (.fec .margin) d 0 = enc (((s.rxMode d).ngmi q.gmi : Nat) - ((s.rxMode d).ngmiTh : Nat) : Int) % 2 ^ 16 ∧
        t.get (.lr .qBits) d 0 = q.bits % 2 ^ 64 ∧ t.get (.lr .qErrs) d 0 = q.errs % 2 ^ 64 ∧
        t.get (.lr .winLocked) d 0 = (decide (s.rxState d = rxLocked)).toNat) ∧
    (s.flag (.lr .winLocked) d 0 = true → s.rxState d = rxLocked → Completes (.qualityWindowEnd d q) s fun t =>
      t.flag (.live .lrQualLow) d 0 = decide ((s.rxMode d).ngmi q.gmi < s.get (.lr .ngmiWarn) d 0)))

/-- R147 to R150, R162 to R164: alignment, loss of frame and the overhead of the line frame. R153 to R162: container
frames, markers, the degrade judgement, bond groups and window commits. -/
def Obligations.Framing : Prop :=
  (∀ (s : State) (d offset addr : Nat) (f : LineFrame), s.up d = true →
    (s.searching d = true → (s.cands.any fun c => decide (c.die = d)) = false → Completes (.fasPatternFound d offset) s
      fun t => t.cands = s.cands ++ [⟨d, offset, 1⟩] ∧ t.get (.ct .candCount) d 0 = 1) ∧
    (s.flag (.ct .framerEn) d 0 = true → s.flag (.ct .inFrame) d 0 = false → Completes (.lofTimer d) s fun t =>
      t.get (.ct .lof) d 0 = 1 ∧ t.flag (.live .ctLof) d 0 = true ∧ t.get (.ct .align) d 0 = 0) ∧
    (s.flag (.ct .framerEn) d 0 = true → s.flag (.ct .inFrame) d 0 = true → s.flag (.lr .rxSf) d 0 = false →
      s.flag (.live .fecSf) d 0 = false → Completes (.lofTimer d) s fun t =>
        t.get (.ct .lof) d 0 = 0 ∧ t.flag (.live .ctLof) d 0 = false ∧ t.get (.ct .align) d 0 = 2) ∧
    (s.flag (.ct .framerEn) d 0 = true → s.flag (.lr .rxSf) d 0 = false → s.flag (.live .fecSf) d 0 = false →
      (s.flag (.ct .inFrame) d 0 = true → s.get (.ct .framePos) d 0 ∈ f.hits → Completes (.lineFrameRx d f) s fun t =>
        t.get (.ct .misses) d 0 = 0 ∧ t.flag (.ct .inFrame) d 0 = true ∧
          t.get (.ct .nSmBip) d 0 = (s.get (.ct .nSmBip) d 0 + f.bip) % Counter.size ∧
          t.get (.ct .nSmBei) d 0 = (s.get (.ct .nSmBei) d 0 + f.bei) % Counter.size ∧
          t.flag (.live .ctSmBdiRx) d 0 = f.bdi ∧ t.get (.ct .beiTx) d 512 = min 8 f.bip ∧
          (s.flag (.ct .lmfnValid) d 0 = true → f.lmfn ≠ s.lmfnExpected d f.mfas →
            t.get (.ct .lmfnValid) d 0 = 0 ∧ t.flag (.live .ctLmfnErr) d 0 = true ∧
              t.get (.ct .nLmfnErr) d 0 = (s.get (.ct .nLmfnErr) d 0 + 1) % Counter.size)) ∧
      (s.flag (.ct .inFrame) d 0 = true → s.get (.ct .framePos) d 0 ∉ f.hits → s.get (.ct .misses) d 0 = 4 →
        Completes (.lineFrameRx d f) s fun t => t.get (.ct .inFrame) d 0 = 0 ∧ t.flag (.live .ctOof) d 0 = true ∧
          t.get (.ct .nOofEnter) d 0 = (s.get (.ct .nOofEnter) d 0 + 1) % Counter.size) ∧
      (s.flag (.ct .inFrame) d 0 = false → s.cands = [⟨d, offset, 2⟩] → offset ∈ f.hits → offset ∈ f.mfasOk →
        Completes (.lineFrameRx d f) s fun t => t.get (.ct .inFrame) d 0 = 1 ∧ t.get (.ct .framePos) d 0 = offset ∧
          t.cands = [] ∧ t.flag (.live .ctOof) d 0 = false)) ∧
    (s.txBegun d = true → s.get (.ct .sentFn) d 0 = 1 + s.get (.ct .txFn) 0 0 → Completes (.lineFrameTx d) s fun t =>
      t.get (.ct .txFn) 0 0 = (s.get (.ct .txFn) 0 0 + 1) % 2 ^ 40 ∧ t.get (.ct .sentFn) d 0 = 1 + t.get (.ct .txFn) 0 0 ∧
        t.get (.ct .txLmfn) d 0 = t.get (.ct .txFn) 0 0 / 256 ∧
        (s.flag (.ct .framerEn) d 0 = true → t.get (.ct .txSmBdi) d 0 = (s.smBdiTx d).toNat ∧
          t.get (.ct .txSmBei) d 0 = s.get (.ct .beiTx) d 512) ∧
        (s.flag (.ct .framerEn) d 0 = false → t.get (.ct .txDer) d 0 = 0 ∧ t.get (.ct .txSmBdi) d 0 = 0)) ∧
    (s.flag (.ct .framerEn) d 0 = true → s.flag (.ct .inFrame) d 0 = true →
      (Completes (.gcc0FrameRx d false addr) s fun t =>
        t.get (.ct .nGccFcsErr) d 0 = (s.get (.ct .nGccFcsErr) d 0 + 1) % Counter.size) ∧
      (addr = 0 ∨ 3 < addr → Completes (.gcc0FrameRx d true addr) s fun t =>
        t.get (.ct .nGccAddrDisc) d 0 = (s.get (.ct .nGccAddrDisc) d 0 + 1) % Counter.size))) ∧
  (∀ (s : State) (d i w us drops : Nat) (v : Bool) (f : CtnFrame), s.up d = true →
    (s.ctnMode d i = 1 ∨ s.ctnMode d i = 2 → f.protect = false → s.tandemEn d i = false →
      (f.fas = true → s.flag (.ct .cAligned) d i = true → Completes (.containerFrameRx d i f) s fun t =>
        t.get (.ct .cMisses) d i = 0 ∧ t.get (.ct .nFrames) d i = (s.get (.ct .nFrames) d i + 1) % Counter.size ∧
          t.get (.ct .nPmBip) d i = (s.get (.ct .nPmBip) d i + f.bip) % Counter.size ∧
          t.get (.ct .nPmBei) d i = (s.get (.ct .nPmBei) d i + f.bei) % Counter.size ∧
          t.flag (.live .ctnPtMismatch) d i = decide (f.psi ≠ psiFor (s.ctnMode d i)) ∧
          t.flag (.live .ctnPmBdiRx) d i = f.bdi ∧ t.flag (.live .ctnAisRx) d i = f.ais ∧
          t.flag (.live .ctnLckRx) d i = f.lck ∧ t.flag (.live .ctnOciRx) d i = f.oci) ∧
      (f.fas = false → s.get (.ct .cMisses) d i = 4 → Completes (.containerFrameRx d i f) s fun t =>
        t.get (.ct .cAligned) d i = 0 ∧ t.flag (.live .ctnLof) d i = true ∧
          t.get (.ct .nFrames) d i = s.get (.ct .nFrames) d i)) ∧
    (s.ctnMode d i = 1 → s.flag (.ct .cAligned) d i = true →
      (Completes (.gapMarkerRx d i drops v) s fun t =>
        t.get (.ct .nGapRx) d i = (s.get (.ct .nGapRx) d i + 1) % Counter.size ∧
          t.get (.ct .nGapPkts) d i = if v then (s.get (.ct .nGapPkts) d i + drops) % Counter.size
            else s.get (.ct .nGapPkts) d i) ∧
      (Completes (.errorMarkerRx d i v) s fun t =>
        t.get (.ct .nErrmkRx) d i = if v then (s.get (.ct .nErrmkRx) d i + 1) % Counter.size
          else s.get (.ct .nErrmkRx) d i)) ∧
    (s.ctnMode d i ≠ 0 → Completes (.pmDegSecond d i) s fun t => t.get (.ct .degBad) d i = 0 ∧
      t.flag (.live .ctnPmDeg) d i = (degSecond (s.degThr d i) (s.degM d i) (s.get (.ct .degBad) d i)
        (s.get (.ct .degRun) d i) (s.flag (.live .ctnPmDeg) d i)).2) ∧
    (s.flag (.ct .bondEn) d 0 = true → Completes (.bondArrivalReport d us) s fun t =>
      t.get (.ct .arrival) d 0 = us ∧ t.get (.ct .arrived) d 0 = 1) ∧
    (s.flag (.ct .bondEn) d 0 = true → s.bondSkew d ≤ s.get (.ct .skewMaxUs) d 0 → s.get (.ct .bondState) d 0 = 3 →
      d ∈ s.bondMembers d → Completes (.bondRealign d) s fun t => t.get (.ct .bondState) d 0 = 2 ∧
        t.get (.ct .deskewUs) d 0 = (s.bondLatest d - s.get (.ct .arrival) d 0) + 5 ∧
        t.flag (.live .ctBondSkewExc) (s.bondLead d) 0 = false) ∧
    (s.winBusy (framerWin w) d = false → Completes (.ctWindowCommit d w) s fun t =>
      t = settle s (s.commitWin (framerWin w) d)) ∧
    (s.get (.ct .txFn) 0 0 % 256 = 0 → Completes (.ctCommitApply d) s fun t =>
      t.winBusy .ctCtn d = false ∧ t.winBusy .ctTsmap d = false))

/-- R166, R173: the requests of a Tandem container and what its selector follows. R170, R171, R174, R175: delivery,
substitution, realignment and the presence of the two paths. -/
def Obligations.Tandem : Prop :=
  (∀ (s : State) (d i : Nat), s.isTandem d i = true →
    (s.get (.tdm .holdoff) d 0 = 0 → s.tdmRaw d i = 1 → s.get (.tdm .loc) d i = 0 → s.tdmFar d i = 0 →
      s.flag (.tdm .seal) d i = false → Completes (.tandemSelect d i) s fun t =>
        t.get (.tdm .sf) d i = 1 ∧ t.get (.tdm .req) d i = reqSfW ∧ t.get (.tdm .sel) d i = 1 ∧
          (s.get (.tdm .sel) d i = 0 → t.flag (.sticky .tdmSwitched) d i = true ∧
            t.get (.tdm .nSwitch) d i = (s.get (.tdm .nSwitch) d i + 1) % Counter.size)) ∧
    (s.get (.tdm .loc) d i = reqLo → s.tdmFar d i < reqLo → Completes (.tandemSelect d i) s fun t =>
      t.get (.tdm .req) d i = reqLo ∧ t.get (.tdm .sel) d i = 0) ∧
    (Completes (.tandemHoldoffExpiry d i) s fun t => t.get (.tdm .sf) d i = s.tdmRaw d i ∧
      t.get (.tdm .sel) d i = selFor (t.get (.tdm .req) d i) (s.get (.tdm .revertive) d 0) (s.get (.tdm .sel) d i)) ∧
    (s.flag (.tdm .wtr) d i = true → s.tdmBase d i < 2 → s.get (.tdm .revertive) d 0 = 1 →
      s.tdmBase d i = 0 → Completes (.tandemWtrExpiry d i) s fun t =>
        t.get (.tdm .wtr) d i = 0 ∧ t.get (.tdm .req) d i = 0 ∧ t.get (.tdm .sel) d i = 0) ∧
    (s.flag (.tdm .seal) d i = true → Completes (.sealRequestClear d i) s fun t => t.get (.tdm .seal) d i = 0) ∧
    (s.flag (.tdm .bidir) d 0 = true → s.get (.tdm .req) d i ≠ 0 → Completes (.apsFopTimer d i) s fun t =>
      t.flag (.live .tdmApsFop) d i = true ∧ t.get (.tdm .unreflected) d i = 1)) ∧
  (∀ (s : State) (d i n skip diff : Nat) (first : Bool), s.isTandem d i = true →
    (s.get (.tdm .sel) d i = 0 → s.get (.tdm .early) d i = 1 → Completes (.tandemFrameDeliver d i n true true) s fun t =>
      t.get (.tdm .delivered) d i = n ∧ t.get (.tdm .lastPath) d i = 1 ∧
        t.get (.tdm .nSubst) d i = s.get (.tdm .nSubst) d i) ∧
    (s.get (.tdm .sel) d i = 0 → s.get (.tdm .req) d i ≠ reqLo → s.get (.tdm .req) d i ≠ reqFs → s.get (.tdm .early) d i = 0 →
      Completes (.tandemFrameDeliver d i n false true) s fun t => t.get (.tdm .seal) d i = 1 ∧
        t.get (.tdm .delivered) d i = n ∧ t.get (.tdm .lastPath) d i = 2 ∧
        t.get (.tdm .nSubst) d i = (s.get (.tdm .nSubst) d i + 1) % Counter.size) ∧
    (16 ≤ s.get (.tdm .earlyRun) d i → Completes (.tandemRealign d i skip diff first) s fun t =>
      t.get (.tdm .nGap) d i = (s.get (.tdm .nGap) d i + skip) % Counter.size ∧ t.get (.tdm .state) d i = tdmAligning ∧
        t.get (.tdm .early) d i = first.toNat ∧ t.get (.tdm .delay) d i = diff + s.get (.tdm .guardUs) d 0 ∧
        t.get (.tdm .nRealign) d i = (s.get (.tdm .nRealign) d i + 1) % Counter.size ∧
        t.flag (.sticky .tdmRealign) d i = true ∧ t.flag (.live .tdmHistLost) d i = false ∧
        t.get (.tim .nPce) 0 0 = (s.get (.tim .nPce) 0 0 + 1) % Counter.size) ∧
    (s.pathSf d i = false → Completes (.tandemPathPresence d i true false) s fun t =>
      t.get (.tdm .wPresent) d i = 1 ∧ t.get (.tdm .pPresent) d i = 0 ∧ t.get (.tdm .state) d i = tdmSingle) ∧
    (Completes (.tandemPathPresence d i false false) s fun t =>
      t.get (.tdm .wPresent) d i = 0 ∧ t.get (.tdm .pPresent) d i = 0 ∧
        t.get (.tdm .state) d i = s.get (.tdm .state) d i ∧
        t.flag (.live .ctnSf) d i = decide (s.ctnMode d i ≠ 0)))

/-- R180 to R183, R113: the state of a Peloton neighbour, its alignment word and the guard. -/
def Obligations.PelotonNeighbours : Prop :=
  ∀ (s : State) (d p word lag : Nat) (arriving : Bool), s.up d = true → p < 2 →
    (s.nbOn d p = true → s.nbSends d p = true →
      (Completes (.pelEnvelopeRx d p true (word % 65536) word) s fun t => t.get (.pel .termOff) d p = 0) ∧
      (Completes (.pelEnvelopeRx d p true ((word + 2) % 65536) word) s fun t => t.get (.pel .termOff) d p = 1 ∧
        t.get (.pel .nAlignErr) d 0 = (s.get (.pel .nAlignErr) d 0 + 1) % Counter.size)) ∧
    (s.nbOn d p = false → Completes (.pelNeighbourEvent d p arriving lag) s fun t =>
      t.get (.pel .nbState) d p = nbOff ∧ t.get (.pel .taps) d p = 0 ∧ t.get (.pel .spacing) d p = 0) ∧
    (s.nbOn d p = true → s.locked d = true → s.nbSends d p = true → s.get (.pel .nbState) d p = nbWait →
      (s.nbWalkBad d p = false → s.nbNeed d p lag ≤ 4000 → Completes (.pelNeighbourEvent d p true lag) s fun t =>
        t.get (.pel .nbState) d p = nbActive ∧ s.nbNeed d p lag ≤ t.get (.pel .holdNs) d 0) ∧
      (s.nbWalkBad d p = true → Completes (.pelNeighbourEvent d p true lag) s fun t =>
        t.get (.pel .nbState) d p = nbWalkExc ∧ t.get (.pel .taps) d p = 0 ∧ t.flag (.live .pelWalkExc) d 0 = true) ∧
      (s.nbWalkBad d p = false → 4000 < s.nbNeed d p lag → Completes (.pelNeighbourEvent d p true lag) s fun t =>
        t.get (.pel .nbState) d p = nbLate ∧ t.flag (.live .pelLate) d 0 = true)) ∧
    (s.nbOn d p = true → s.locked d = true → s.get (.pel .nbState) d p = nbActive →
      Completes (.pelNeighbourEvent d p false lag) s fun t => t.get (.pel .nbState) d p = nbWait ∧
        t.get (.pel .taps) d p = s.get (.pel .taps) d p ∧ t.flag (.live .pelNbLost) d 0 = true ∧
        t.get (.pel .nWaitEnter) d 0 = (s.get (.pel .nWaitEnter) d 0 + 1) % Counter.size) ∧
    (s.get (.pel .nbState) d p = nbSuspended → Completes (.pelSuspendExpiry d) s fun t =>
      t.get (.pel .nbState) d p = nbWait ∧ t.get (.pel .taps) d p = 0 ∧ t.flag (.live .pelSuspended) d 0 = false) ∧
    (s.locked d = true → s.rxOn d = true →
      (Completes (.rxDspFrame d true) s fun t => t.get (.lr .missed) d 0 = 0 ∧
        t.get (.lr .useXPhase) d 0 = s.get (.lr .xPhase) d 0 ∧ t.get (.lr .modeReload) d 0 = 0 ∧
        t.get (.lr .nDspFrame) d 0 = (s.get (.lr .nDspFrame) d 0 + 1) % Counter.size) ∧
      (Completes (.rxDspFrame d false) s fun t => t.get (.lr .missed) d 0 = min 4 (s.get (.lr .missed) d 0 + 1) ∧
        t.get (.lr .nDspFrame) d 0 = s.get (.lr .nDspFrame) d 0))

/-- R187 to R190, R192, R198: what the messages of a shift, their timers and the arming reports do at the
coordinator. R193 to R200: latch points, the switch of the two sides, completion and rollback. -/
def Obligations.Derailleur : Prop :=
  (∀ (s : State) (m : DerMsg) (entries : List DerEntry) (auto : Bool) (d reason unit epoch : Nat), s.up 0 = true →
    (s.derMsgOk m = false → Completes (.derProposeRx m auto entries) s fun t =>
      t.get (.der .nMsgDisc) 0 0 = (s.get (.der .nMsgDisc) 0 0 + 1) % Counter.size ∧ t.derState = s.derState) ∧
    (s.derMsgOk m = true →
      (s.derSeen m msgPropose = false → derArming ≤ s.derState → Completes (.derProposeRx m auto entries) s fun t =>
        t.get (.der .lastMsg) 0 0 = msgRefuse ∧ t.get (.der .lastReason) 0 0 = derBusy ∧
          t.get (.der .nRefused) 0 0 = (s.get (.der .nRefused) 0 0 + 1) % Counter.size ∧ t.derState = s.derState ∧
          t.get (.der .rxSeq) 0 m.sender = m.seq) ∧
      (s.derSeen m msgPropose = false → s.derState = derIdle → s.flag (.der .remoteAccept) 0 0 = true →
        entries.all s.entryKeeps = true → Completes (.derProposeRx m false entries) s fun t =>
          t.derState = derArming ∧ t.get (.der .shiftId) 0 0 = m.shiftId ∧ t.get (.der .role) 0 0 = 1 ∧
            t.get (.der .partner) 0 0 = m.sender ∧ t.get (.der .shiftMask) 0 0 = entryMask entries) ∧
      (s.derSeen m msgArmed = false → s.derMine m = true → s.derState = derProposed →
        Completes (.derArmedRx m) s fun t => t.get (.der .armedRx) 0 0 = 1 ∧
          (s.allReady = true → t.derState = derCommitted ∧
            t.get (.der .epoch) 0 0 = (s.txLmfn + s.get (.der .commitLead) 0 0) % 2 ^ 32 ∧
            t.get (.der .lastMsg) 0 0 = msgCommit) ∧
          (s.allReady = false → t.derState = derProposed)) ∧
      (s.derSeen m msgRefuse = false → s.derMine m = true → s.derState = derProposed →
        Completes (.derRefuseRx m reason unit) s fun t => t.derState = derIdle ∧ t.get (.der .result) 0 0 = 2 ∧
          t.get (.der .reason) 0 0 = reason ∧ t.get (.der .lastMsg) 0 0 = msgCancel ∧
          t.get (.der .nCancel) 0 0 = (s.get (.der .nCancel) 0 0 + 1) % Counter.size) ∧
      (s.derSeen m msgCommit = false → s.derMine m = true → derArmed ≤ s.derState →
        Completes (.derCommitRx m epoch) s fun t => t.get (.der .farEpoch) 0 0 = epoch ∧
          t.get (.der .farCommit) 0 0 = 1 ∧
          (s.derResponder = true → s.derState = derArmed → t.derState = derCommitted)) ∧
      (s.derSeen m msgCancel = false → s.derMine m = true → s.derState < derCommitted →
        Completes (.derCancelRx m reason) s fun t => t.derState = derIdle ∧ t.get (.der .result) 0 0 = 2 ∧
          t.get (.der .reason) 0 0 = reason ∧ t.get (.der .far) 0 0 = 1) ∧
      (s.derSeen m msgDone = false → s.derMine m = true → derCommitted ≤ s.derState → s.derState ≠ derRollbackSt →
        (s.allDone = true → Completes (.derDoneRx m) s fun t => t.derState = derIdle ∧ t.get (.der .result) 0 0 = 1 ∧
          t.get (.der .nShiftOk) 0 0 = (s.get (.der .nShiftOk) 0 0 + 1) % Counter.size) ∧
        (s.allDone = false → Completes (.derDoneRx m) s fun t => t.get (.der .farDone) 0 0 = 1 ∧
          derCommitted ≤ t.derState))) ∧
    (s.derWaiting ≠ 0 → Completes .derResendTimer s fun t => t.get (.der .lastMsg) 0 0 = s.derWaiting ∧
      t.get (.der .txSeq) 0 0 = (s.get (.der .txSeq) 0 0 + 1) % Counter.size) ∧
    (s.present d = true → s.unitRole d ≠ 0 → s.flag (.der .ready) d 0 = false → s.derState = derProposed →
      s.derResponder = false →
      (s.armFault d = 0 → s.flag (.der .armedRx) 0 0 = false → Completes (.derUnitArmReport d) s fun t =>
        t.get (.der .ready) d 0 = 1 ∧ t.side d true = sideArmed ∧ t.side d false = sideArmed ∧
          t.derState = derProposed) ∧
      (s.armFault d ≠ 0 → Completes (.derUnitArmReport d) s fun t => t.derState = derIdle ∧
        t.get (.der .reason) 0 0 = s.armFault d ∧ t.get (.der .failCarrier) 0 0 = d ∧
        t.get (.der .lastMsg) 0 0 = msgCancel ∧ t.flag (.sticky .derArmFail) d 0 = true)) ∧
    (s.derState = derProposed ∨ s.derState = derArmed → Completes .derArmTimeout s fun t =>
      t.derState = derIdle ∧ t.get (.der .result) 0 0 = 2 ∧ t.get (.der .reason) 0 0 = derTimeout ∧
        (s.derResponder = false → t.get (.der .lastMsg) 0 0 = msgCancel))) ∧
  (∀ (s : State) (d : Nat), s.up d = true → s.unitRole d ≠ 0 → derCommitted ≤ s.derState →
    s.flag (.der .farDone) 0 0 = false →
    (s.derState ≠ derRollbackSt → s.side d true = sideLatched ∨ s.side d true = sideArmed →
      (s.latchFault d true = 0 → Completes (.derLatchPoint d true) s fun t => t.side d true = sideLatched) ∧
      (s.latchFault d true ≠ 0 → Completes (.derLatchPoint d true) s fun t => t.side d true = sideMissed ∧
        t.flag (.live .derMissed) d 0 = true ∧ t.get (.der .nMiss) d 0 = (s.get (.der .nMiss) d 0 + 1) % Counter.size ∧
        t.derState = derCatchup)) ∧
    (s.side d true = sideMissed → Completes (.derTxSwitch d) s fun t =>
      t.flag (.live .derAis) d 0 = true ∧ t.side d true = sideMissed) ∧
    (s.side d true = sideLatched → Completes (.derTxSwitch d) s fun t => t.side d true = sideApplied ∧
      t.get (.der .nApply) d 0 = (s.get (.der .nApply) d 0 + 1) % Counter.size ∧
      (s.unitRole d = 1 → t.get (.lt .bank) d 0 = 1 - s.get (.lt .bank) d 0 ∧
        t.get (.lt .nBankSwitch) d 0 = (s.get (.lt .nBankSwitch) d 0 + 1) % Counter.size ∧
        t.get (.tim .nPce) 0 0 = (s.get (.tim .nPce) 0 0 + 1) % Counter.size)) ∧
    (s.side d false = sideLatched → Completes (.derRxSwitch d) s fun t => t.side d false = sideApplied ∧
      t.get (.der .nApply) d 0 = (s.get (.der .nApply) d 0 + 1) % Counter.size ∧
      (s.unitRole d = 1 → s.rxState d ≠ rxOff → t.get (.lr .bank) d 0 = 1 - s.get (.lr .bank) d 0)) ∧
    (s.locked d = true → s.side d false = sideApplied → s.get (.fec .lockState) d 0 = 2 →
      s.flag (.ct .inFrame) d 0 = true → s.flag (.live .fecSf) d 0 = false → Completes (.derSideDone d) s fun t =>
        t.side d false = sideDone) ∧
    (s.up 0 = true → s.derState ≠ derRollbackSt → sideHasApplied (s.side d true) = true → s.unitRole d ≠ 2 →
      Completes .derRollbackDecision s fun t => t.derState = derRollbackSt ∧ t.get (.der .kind) d 0 = 3 ∧
        t.get (.der .kindEpoch) d 0 = (s.get (.der .epoch) 0 0 + 768) % 2 ^ 32) ∧
    (s.derState = derRollbackSt → sideHasApplied (s.side d true) = true → Completes (.derRollbackReturn d true) s fun t =>
      t.side d true = sideRolled ∧ t.flag (.sticky .derRollback) d 0 = true ∧
        t.get (.der .nRollback) d 0 = (s.get (.der .nRollback) d 0 + 1) % Counter.size ∧
        (s.unitRole d = 1 → t.get (.lt .bank) d 0 = 1 - s.get (.lt .bank) d 0)) ∧
    (s.up 0 = true → s.derState = derRollbackSt → Completes .derResultSet s fun t => t.derState = derIdle ∧
      t.get (.der .result) 0 0 = (if (s.units.any fun e => sideHasApplied (s.side e false)) then 4 else 3) ∧
      t.flag (.live .derSplit) d 0 = (s.flag (.live .derSplit) d 0 || sideHasApplied (s.side d false))))

/-- R211 to R217: frame lock, capabilities, steps of the Gear, failures and restarts of a host lane. -/
def Obligations.HostLaneNegotiation : Prop :=
  ∀ (s : State) (d l : Nat) (f : NegFrame), s.up d = true → s.flag (.hl .relock) d l = false →
    (s.laneState d l = hlLock → s.flag (.hl .fLock) d l = false → s.get (.hl .goodRun) d l = 2 → f.marker = true →
      f.crcOk = true → f.msg = 1 → Completes (.negFrameRx d l f) s fun t =>
        t.laneState d l = hlCaps ∧ t.get (.hl .fLock) d l = 1) ∧
    (s.laneState d l = hlCaps → s.flag (.hl .fLock) d l = true → f.marker = true → f.crcOk = true → f.ver = 1 →
      (f.msg = 0 → s.get (.hl .capsRun) d l ≠ 0 → 1 ≤ f.gearMax → f.gearMax ≤ 4 → f.gearNow = 1 →
        s.laneTarget d l ≤ f.gearMax → f.leader ≠ s.leads d l → Completes (.negFrameRx d l f) s fun t =>
          t.laneState d l = hlTrain ∧ t.get (.hl .farGearMax) d l = f.gearMax ∧
            t.get (.hl .farPreCap) d l = f.preCap.toNat) ∧
      (f.msg = 5 → Completes (.negFrameRx d l f) s fun t => t.laneState d l = hlWait ∧
        t.get (.hl .failReason) d l = failAbort ∧ t.flag (.sticky .hllNegFail) d l = true)) ∧
    (s.laneState d l = hlStep → s.get (.hl .countdown) d l = 0 → s.flag (.hl .switched) d l = false →
      s.flag (.hl .fellBack) d l = false → Completes (.negGearSwitch d l) s fun t =>
        t.get (.hl .gear) d l = s.get (.hl .gear) d l + 1 ∧ t.laneTaps d l = tapPreset (s.get (.hl .gear) d l + 1) ∧
          t.get (.hl .switched) d l = 1 ∧ t.get (.hl .fLock) d l = 0) ∧
    (s.laneState d l = hlCaps → Completes (.negLockTimeout d l) s fun t => t.laneState d l = hlWait ∧
      t.get (.hl .failReason) d l = failCaps ∧ t.flag (.sticky .hllNegFail) d l = true) ∧
    (s.laneState d l = hlStep → s.flag (.hl .fLock) d l = false → s.flag (.hl .fellBack) d l = false →
      s.flag (.hl .switched) d l = true → Completes (.negLockTimeout d l) s fun t =>
        t.get (.hl .gear) d l = s.get (.hl .gear) d l - 1 ∧ t.get (.hl .fellBack) d l = 1) ∧
    (s.laneState d l = hlTrain → s.get (.hl .readyRun) d l < 8 → Completes (.negTrainTimeout d l) s fun t =>
      t.laneState d l = hlWait ∧ t.get (.hl .failReason) d l = failTrain) ∧
    (s.laneState d l = hlWait → s.laneTest d l = false →
      (s.get (.hl .forceGear) d l = 0 → Completes (.negWaitExpiry d l) s fun t => t.laneState d l = hlLock ∧
        t.get (.hl .gear) d l = 1 ∧ t.get (.hl .nNegAttempt) d l = (s.get (.hl .nNegAttempt) d l + 1) % Counter.size) ∧
      (s.get (.hl .forceGear) d l ≠ 0 → Completes (.negWaitExpiry d l) s fun t => t.laneState d l = hlForced ∧
        t.get (.hl .gear) d l = s.get (.hl .forceGear) d l)) ∧
    (s.laneState d l = hlForced → Completes (.forcedCdrLock d l) s fun t => t.laneState d l = hlUp ∧
      t.get (.hl .cdrLock) d l = 1 ∧ t.flag (.live .hllLol) d l = false)

/-- R218 to R224: loss of signal and of lock, electrical idle, eye scan and PRBS of a host lane. -/
def Obligations.HostLaneSignal : Prop :=
  ∀ (s : State) (d l errs nb : Nat) (e : Eye), s.up d = true →
    (s.laneState d l = hlUp →
      (Completes (.hlLos d l) s fun t => t.laneState d l = hlOff ∧ t.flag (.live .hllLos) d l = true ∧
        t.get (.hl .nLosEnter) d l = (s.get (.hl .nLosEnter) d l + 1) % Counter.size ∧ t.get (.hl .waitSig) d l = 1) ∧
      (Completes (.hlLol d l) s fun t => t.flag (.live .hllLol) d l = true ∧
        t.get (.hl .nLolEnter) d l = (s.get (.hl .nLolEnter) d l + 1) % Counter.size ∧
        t.laneState d l = if s.get (.hl .forceGear) d l ≠ 0 then hlForced else hlLock) ∧
      (s.get (.hl .idleRun) d l = 0 → Completes (.hostIdleAnnounceRx d l true) s fun t =>
        t.laneState d l = hlUp ∧ t.get (.hl .idleRun) d l = 1) ∧
      (s.get (.hl .idleRun) d l ≠ 0 → Completes (.hostIdleAnnounceRx d l true) s fun t =>
        t.laneState d l = hlIdle ∧ t.get (.hl .keep) d l = 1)) ∧
    (s.flag (.hl .waitSig) d l = true → s.laneTest d l = false → Completes (.hlSignalReturn d l) s fun t =>
      t.flag (.live .hllLos) d l = false ∧ t.get (.hl .waitSig) d l = 0 ∧
        t.laneState d l = if s.get (.hl .forceGear) d l ≠ 0 then hlForced else hlLock) ∧
    (s.laneState d l = hlIdle → s.flag (.hl .keep) d l = true →
      (Completes (.hostIdleExitRx d l true) s fun t => t.laneState d l = hlUp) ∧
      (Completes (.hostIdleExitRx d l false) s fun t => t.get (.hl .failReason) d l = failIdleExit ∧
        t.flag (.sticky .hllIdleExitFail) d l = true ∧ t.flag (.sticky .hllNegFail) d l = true ∧
        t.get (.hl .nIdleExitFail) d l = (s.get (.hl .nIdleExitFail) d l + 1) % Counter.size)) ∧
    (s.escanOk d l = true → Completes (.escanStart d l) s fun t => t.get (.hl .escanBusy) d l = 1 ∧
      t.get (.hl .escanErr) d l = 0 ∧ t.get (.hl .mutValid) d l = 0) ∧
    (s.flag (.hl .escanBusy) d l = true → Completes (.escanDone d l errs) s fun t => t.get (.hl .escanBusy) d l = 0 ∧
      t.get (.hl .escanErr) d l = min (2 ^ s.get (.hl .escanDwell) d l) errs) ∧
    (s.laneState d l = hlUp → s.flag (.hl .escanBusy) d l = false → Completes (.eyeSweepDone d l [e]) s fun t =>
      t.get (.hl .eyeV) d l = min 127 e.v ∧ t.get (.hl .eyeH) d l = min 63 e.h ∧ t.get (.hl .mutValid) d l = 1 ∧
        t.get (.hl .mut) d l = min (256 * min 127 e.v / 12) (256 * min 63 e.h / 8) ∧
        t.flag (.live .hllMarginLow) d l = decide (t.get (.hl .mut) d l < s.get (.hl .mutWarn) d 0)) ∧
    (s.flag (.hl .prbsChk) d l = true →
      (s.flag (.hl .prbsLock) d l = true → Completes (.prbsCheckerSync d l nb errs) s fun t =>
        t.get (.hl .nPrbsBits) d l = (s.get (.hl .nPrbsBits) d l + nb) % Counter.size ∧
          t.get (.hl .nPrbsErr) d l = (s.get (.hl .nPrbsErr) d l + errs) % Counter.size ∧
          (errs ≠ 0 → t.flag (.sticky .hllPrbsErr) d l = true) ∧
          t.flag (.hl .prbsLock) d l = decide (errs ≤ 1024)) ∧
      (s.flag (.hl .prbsLock) d l = false → 64 ≤ nb → Completes (.prbsCheckerSync d l nb 0) s fun t =>
        t.get (.hl .prbsLock) d l = 1 ∧ t.get (.hl .nPrbsBits) d l = s.get (.hl .nPrbsBits) d l))

/-- R219 to R221, R226 to R234: ports, HOST_GEARS, host FEC and priority flow control. -/
def Obligations.HostPorts : Prop :=
  ∀ (s : State) (d p l sym : Nat) (unc lf rf : Bool), s.up d = true →
    (s.flag (.hl .portEn) d p = false → s.get (.hl .mode) d p ≠ 0 → l ∈ s.portLanes d p → s.laneTest d l = false →
      s.get (.hl .forceGear) d l = 0 → Completes (.portEnable d p) s fun t =>
        t.get (.hl .portEn) d p = 1 ∧ t.laneState d l = hlLock) ∧
    (s.flag (.hl .portEn) d p = true → Completes (.portDisable d p) s fun t => t.get (.hl .portEn) d p = 0 ∧
      t.portState d p = prtOff ∧ t.get (.hl .pfcTold) d p = 0 ∧ t.flag (.live .hlpLinkDown) d p = false ∧
      (l ∈ s.portLanes d p → t.laneState d l = hlOff)) ∧
    (s.called 10 = true → s.procArg 10 0 % 8 = d → l ∈ s.gearsLanes d → s.lanePort d l = some p →
      s.flag (.hl .portEn) d p = true → s.laneState d l = hlOff → s.flag (.hl .waitSig) d l = false →
      s.laneTest d l = false → s.get (.hl .forceGear) d l = 0 → Completes (.hostGears d) s fun t =>
        t.laneState d l = hlLock ∧ t.called 10 = true) ∧
    (s.called 10 = true → s.get (.boot .procId) 0 0 = 10 →
      (bit (s.procArg 10 2) 0 = true → Completes .hostGearsTimeout s fun t => t.called 10 = false ∧
        t.get (.boot .procDone) 0 0 = 1 ∧ t.get (.boot .procCode) 0 0 = 0) ∧
      (bit (s.procArg 10 2) 0 = false → s.procArg 10 0 % 8 = d → (s.gearsLanes d).head? = some l →
        s.laneState d l ≠ hlUp → Completes .hostGearsTimeout s fun t => t.called 10 = false ∧
          t.get (.boot .procDone) 0 0 = 2 ∧ t.get (.boot .procCode) 0 0 = 16 * l + s.get (.hl .failReason) d l)) ∧
    (s.flag (.hl .portEn) d p = true →
      (s.flag (.hl .idleReq) d p = false → l ∈ s.portLanes d p → Completes (.idleEnter d p) s fun t =>
        t.get (.hl .idleReq) d p = 1 ∧ t.laneState d l = hlIdle ∧
          t.flag (.hl .keep) d l = decide (s.portState d p = prtUp)) ∧
      (s.flag (.hl .idleReq) d p = true → l ∈ s.portLanes d p → s.laneState d l = hlIdle →
        s.flag (.hl .keep) d l = true → Completes (.idleFastExit d p) s fun t =>
          t.get (.hl .idleReq) d p = 0 ∧ t.laneState d l = hlUp ∧
            t.get (.hl .nIdleExit) d l = (s.get (.hl .nIdleExit) d l + 1) % Counter.size)) ∧
    (s.portState d p = prtAlign → s.portNext d p = prtAlign → Completes (.pcsAligned d p) s fun t =>
      t.portState d p = prtUp ∧ t.flag (.live .hlpLinkDown) d p = false ∧
        t.get (.hl .corrTx) d p = corrTx (s.portGear d p)) ∧
    (s.portState d p = prtUp → s.portNext d p = prtUp → Completes (.pcsAlignLoss d p) s fun t =>
      t.portState d p = prtAlign ∧ t.flag (.live .hlpLinkDown) d p = true ∧
        t.flag (.sticky .hlpAlignLoss) d p = true ∧ t.get (.hl .corrTx) d p = 0) ∧
    (s.pcsRuns d p = true →
      (Completes (.hostFecCodeword d p sym unc lf rf) s fun t =>
        t.get (.hl .nFecCw) d p = (s.get (.hl .nFecCw) d p + 1) % Counter.size ∧
          t.get (.hl .nFecSymErr) d p = (s.get (.hl .nFecSymErr) d p + sym) % Counter.size ∧
          t.flag (.live .hlpLfRx) d p = lf ∧ t.flag (.live .hlpRfRx) d p = rf ∧
          (unc = true → t.flag (.sticky .hlpFecUncorr) d p = true ∧
            t.get (.hl .nFecUncorrCw) d p = (s.get (.hl .nFecUncorrCw) d p + 1) % Counter.size)) ∧
      (Completes (.hostFecDegradeInterval d p) s fun t => t.get (.hl .symMs) d p = 0 ∧
        t.flag (.live .hlpFecDegrade) d p =
          decide (s.get (.hl .degSym) d p ≠ 0 ∧ s.get (.hl .degSym) d p < s.get (.hl .symMs) d p))) ∧
    (s.packetUp d p = true →
      (s.pfcWant d p = 1 → s.get (.hl .pfcTold) d p = 0 → Completes (.pfcXoffStart d p) s fun t =>
        t.get (.hl .pfcTold) d p = 1 ∧ t.get (.hl .nPfcTx) d p = (s.get (.hl .nPfcTx) d p + 1) % Counter.size) ∧
      (s.pfcWant d p = 0 → s.get (.hl .pfcTold) d p = 1 → Completes (.pfcXon d p) s fun t =>
        t.get (.hl .pfcTold) d p = 0 ∧ t.get (.hl .nPfcTx) d p = (s.get (.hl .nPfcTx) d p + 1) % Counter.size) ∧
      (s.pfcWant d p ≠ 0 → s.get (.hl .pfcTold) d p ≠ 0 → Completes (.pfcRefreshTimer d p) s fun t =>
        t.get (.hl .pfcTold) d p = s.pfcWant d p ∧
          t.get (.hl .nPfcTx) d p = (s.get (.hl .nPfcTx) d p + 1) % Counter.size))

/-- R230, R235, R243 to R247, R249, R252, R255: what a frame from the host and its decision do. -/
def Obligations.HostFrames : Prop :=
  ∀ (s : State) (d p q fm : Nat) (f : HostFrame) (g : Staged) (r : RingRec) (long : Bool),
    (s.packetUp d p = true → s.stagedAt d f.id = none → s.ctRecord d f.id = none → f.last = true →
      (s.macVerdict d p f = 1 → Completes (.hostFrameRx d p f) s fun t => t.staged = s.staged ∧
        t.get (.hl .nRxSizeErr) d p = (s.get (.hl .nRxSizeErr) d p + 1) % Counter.size) ∧
      (s.macVerdict d p f = 2 → Completes (.hostFrameRx d p f) s fun t => t.staged = s.staged ∧
        t.get (.hl .nRxFcsErr) d p = (s.get (.hl .nRxFcsErr) d p + 1) % Counter.size) ∧
      (s.macVerdict d p f = 3 → Completes (.hostFrameRx d p f) s fun t => t.staged = s.staged ∧
        t.flag (.sticky .hlpHostMacctl) d p = true ∧
        t.get (.hl .nMacctlRx) d p = (s.get (.hl .nMacctlRx) d p + 1) % Counter.size) ∧
      (s.macVerdict d p f = 0 → s.flag (.trc .trcEn) d 0 = false →
        s.stagingUsed d + s.get (.hl .mtu) d p ≤ 524288 →
        (s.clsMatch d p f = some (q, fm) → Completes (.hostFrameRx d p f) s fun t =>
          t.staged = s.staged ++ [⟨d, f.id, p, q, s.frameLen d p f, true, false, s.inputColour d p f, fm, none,
            f.rawTime - s.get (.hl .corrRx) d p, f.ptp⟩] ∧
          t.get (.hl .nRxFrames) d p = (s.get (.hl .nRxFrames) d p + 1) % Counter.size ∧
          t.get (.hl .nRxBytes) d p = (s.get (.hl .nRxBytes) d p + f.len) % Counter.size ∧
          t.get (.qs .nClsHit) d fm = (s.get (.qs .nClsHit) d fm + 1) % Counter.size) ∧
        (s.clsMatch d p f = none → s.flag (.qs .missDrop) d p = true → Completes (.hostFrameRx d p f) s fun t =>
          t.staged = s.staged ∧ t.get (.qs .nClsMiss) d 0 = (s.get (.qs .nClsMiss) d 0 + 1) % Counter.size))) ∧
    (s.up g.die = true → s.stagedAt g.die g.id = some g → g.whole = true → g.gone = false → g.tag = none →
      s.ctBusy g.die g.queue = false → s.polAlg g.die g.queue = 0 → s.polAlg g.die (4096 + s.qCtn g.die g.queue) = 0 →
      s.get (.qs .gapPend) g.die g.queue = 0 →
      (g.colour = 0 → s.occ g.die g.queue + recWords g.len ≤ s.ringWords g.die g.queue →
        (Completes (.frameDecisionPoint g.die g.id) s fun t => t.stagedAt g.die g.id = none ∧
          t.get (.qs .wr) g.die g.queue = (s.get (.qs .wr) g.die g.queue + recWords g.len) % s.ringMod g.die g.queue ∧
          t.get (.qs .nQEnqPkts) g.die g.queue = (s.get (.qs .nQEnqPkts) g.die g.queue + 1) % Counter.size ∧
          t.get (.qs .nQEnqBytes) g.die g.queue = (s.get (.qs .nQEnqBytes) g.die g.queue + g.len) % Counter.size) ∧
        (Completes (.stagedFrameRelease g.die g.id) s fun t => t.stagedAt g.die g.id = none ∧
          t.get (.qs .nQEnqPkts) g.die g.queue = (s.get (.qs .nQEnqPkts) g.die g.queue + 1) % Counter.size)) ∧
      (g.colour = 0 → s.ringWords g.die g.queue < s.occ g.die g.queue + recWords g.len →
        Completes (.frameDecisionPoint g.die g.id) s fun t => t.stagedAt g.die g.id = none ∧ t.rings = s.rings ∧
          t.flag (.sticky .qsQFullDrop) g.die 0 = true ∧ t.get (.qs .gapPend) g.die g.queue = 1 ∧
          t.get (.qs .nQDropFull) g.die g.queue = (s.get (.qs .nQDropFull) g.die g.queue + 1) % Counter.size) ∧
      (g.colour = 2 → Completes (.frameDecisionPoint g.die g.id) s fun t => t.stagedAt g.die g.id = none ∧
        t.rings = s.rings ∧
        t.get (.qs .nQDropRed) g.die g.queue = (s.get (.qs .nQDropRed) g.die g.queue + 1) % Counter.size)) ∧
    (s.up r.die = true → s.ctRecord r.die r.id = some r →
      (r.sent = true → Completes (.ctFrameFail r.die r.id long) s fun t => t.flag (.sticky .hlpCtAbort) r.die r.port = true ∧
        t.get (.hl .nCtAbort) r.die r.port = (s.get (.hl .nCtAbort) r.die r.port + 1) % Counter.size ∧
        t.get (.hl .nRxFcsErr) r.die r.port = (s.get (.hl .nRxFcsErr) r.die r.port + 1) % Counter.size) ∧
      (r.sent = false → Completes (.ctFrameFail r.die r.id long) s fun t =>
        t.get (.qs .nQVoid) r.die r.queue = (s.get (.qs .nQVoid) r.die r.queue + 1) % Counter.size ∧
        (if long then t.get (.hl .nRxSizeErr) r.die r.port = (s.get (.hl .nRxSizeErr) r.die r.port + 1) % Counter.size
          else t.get (.hl .nRxFcsErr) r.die r.port = (s.get (.hl .nRxFcsErr) r.die r.port + 1) % Counter.size)))

/-- R242, R268: the classification table and the ends of drains. R253, R259 to R266: the scheduler's choice, the
commits of the QS_ windows and the gate list. -/
def Obligations.ClassificationAndScheduling : Prop :=
  (∀ (s : State) (d q w0 w1 : Nat), s.up d = true →
    (Completes (.qsClsInsert d w0 w1) s fun t =>
      t.get (.qs .clsResult) d 0 = s.clsInsertResult (clsEntry d w0 w1) ∧
        t.clsTab = (if s.clsInsertResult (clsEntry d w0 w1) = 0 then s.clsTab ++ [clsEntry d w0 w1] else s.clsTab) ∧
        t.get (.qs .clsUsed) d 0 = t.clsUsed d) ∧
    ((clsEntry d w0 w1).malformed = true →
      (Completes (.qsClsDelete d w0 w1) s fun t => t.get (.qs .clsResult) d 0 = 4 ∧ t.clsTab = s.clsTab) ∧
      (Completes (.qsClsLookup d w0 w1) s fun t => t.get (.qs .clsResult) d 0 = 4 ∧ t.clsTab = s.clsTab)) ∧
    ((clsEntry d w0 w1).malformed = false → (s.clsTab.any fun e => e.sameKey (clsEntry d w0 w1)) = false →
      (Completes (.qsClsDelete d w0 w1) s fun t => t.get (.qs .clsResult) d 0 = 2 ∧ t.clsTab = s.clsTab) ∧
      (Completes (.qsClsLookup d w0 w1) s fun t => t.get (.qs .clsResult) d 0 = 2 ∧ t.clsTab = s.clsTab)) ∧
    ((clsEntry d w0 w1).malformed = false → (s.clsTab.any fun e => e.sameKey (clsEntry d w0 w1)) = true →
      (Completes (.qsClsDelete d w0 w1) s fun t => t.get (.qs .clsResult) d 0 = 0 ∧
        t.clsTab = s.clsTab.filter fun e => !e.sameKey (clsEntry d w0 w1)) ∧
      (Completes (.qsClsLookup d w0 w1) s fun t => t.get (.qs .clsResult) d 0 = 0 ∧ t.clsTab = s.clsTab ∧
        bits (t.winWordAt .qsCls d 0 1) 0 11 =
          ((s.clsTab.find? fun e => e.sameKey (clsEntry d w0 w1)).map fun e => e.queue % 2048).getD 0)) ∧
    (s.flag (.qs .qDrain) d q = true → Completes (.drainEnd d false q) s fun t =>
      t.get (.qs .qDrain) d q = 0 ∧ t.qEn d q = false ∧ t.ring d q = [] ∧
        (s.ring d q ≠ [] → t.flag (.sticky .qsDrainDisc) d 0 = true)) ∧
    (s.flag (.qs .cDrain) d q = true → Completes (.drainEnd d true q) s fun t => t.get (.qs .cDrain) d q = 0)) ∧
  (∀ (s : State) (d i q w x : Nat) (r : RingRec) (rest : List RingRec), s.up d = true →
    (s.canSchedule d i = true → s.ctnQueues d i = [q] → s.ring d q = [] → s.get (.qs .gapPend) d q ≠ 0 →
      Completes (.schedulerSelect d i) s fun t => t.get (.qs .gapPend) d q = 0 ∧
        t.get (.ct .gapTx) d i = (s.get (.ct .gapTx) d i + 1) % 65536 ∧
        t.get (.qs .nCGapTx) d i = (s.get (.qs .nCGapTx) d i + 1) % Counter.size) ∧
    (s.canSchedule d i = true → s.ctnQueues d i = [q] → s.ring d q = r :: rest → r.void = false → r.gap = false →
      r.fin = true → r.tag = none → r.ptp = none → s.gatesOn d = false → s.shpEn d i = false →
      Completes (.schedulerSelect d i) s fun t => t.ring d q = rest ∧
        t.get (.qs .nQDeqPkts) d q = (s.get (.qs .nQDeqPkts) d q + 1) % Counter.size ∧
        t.get (.qs .nQDeqBytes) d q = (s.get (.qs .nQDeqBytes) d q + r.len) % Counter.size) ∧
    (w < 6 → s.qsCheck w d = true → Completes (.qsWindowCommit d w) s fun t => t.winBusy (qsWin w) d = true) ∧
    (w < 6 → s.qsCheck w d = false → Completes (.qsWindowCommit d w) s fun t =>
      t = settle s (s.dropStaged (qsWin w) d) ∧ t.winBusy (qsWin w) d = s.winBusy (qsWin w) d) ∧
    (w < 6 → s.winBusy (qsWin w) d = true → Completes (.qsCommitApply d w) s fun t => t.winBusy (qsWin w) d = false ∧
      (w = 1 → x ∈ s.changing .qsQpol d → t.get (.qs .polC) d x = 0 ∧ t.get (.qs .polP) d x = 0)) ∧
    (s.gateListOk d = true → Completes (.gateCommit d) s fun t => t.get (.qs .gatePending) d 0 = 1 ∧
      t.get (.qs .gatePendLen) d 0 = s.get (.qs .adminLen) d 0 ∧
      t.get (.qs .gatePendAt) d 0 =
        gateStartAt (s.gateBase d) (s.get (.qs .gateCycle) d 0) (s.tbNow (s.get (.qs .gateTb) d 0)) ∧
      t.get (.qs .nGateCommit) d 0 = (s.get (.qs .nGateCommit) d 0 + 1) % Counter.size) ∧
    (s.gateListOk d = false → Completes (.gateCommit d) s fun t =>
      t.get (.qs .gatePending) d 0 = s.get (.qs .gatePending) d 0 ∧
        t.get (.qs .nGateCommit) d 0 = s.get (.qs .nGateCommit) d 0) ∧
    (s.flag (.qs .gatePending) d 0 = true → Completes (.gateListStart d) s fun t =>
      t.get (.qs .gatePending) d 0 = 0 ∧ t.get (.qs .operValid) d 0 = 1 ∧
        t.get (.qs .operLen) d 0 = s.get (.qs .gatePendLen) d 0 ∧
        t.get (.qs .operCycle) d 0 = s.get (.qs .gatePendCycle) d 0 ∧
        t.get (.qs .gateStart) d 0 = s.get (.qs .gatePendAt) d 0))

/-- R55, R280 to R282: the start-up procedures of a Pannier stack. R295 to R302: page migration and table walks. -/
def Obligations.PannierStack : Prop :=
  (∀ (s : State) (d e : Nat) (train geometry map key pass : Bool) (faults : List (Nat × Nat)), s.up d = true →
    (s.called 1 = true → s.procArg 1 0 % 8 = d → s.get (.boot .procId) 0 0 = 1 →
      (Completes (.pannierInit d false geometry map key faults) s fun t => t.get (.pan .state) d 0 = panFailed ∧
        t.flag (.live .panDown) d 0 = true ∧ t.called 1 = false ∧ t.get (.boot .procDone) 0 0 = 2 ∧
        t.get (.boot .procCode) 0 0 = 1) ∧
      (train = true → geometry = true → map = true → key = true → s.flag (.sbg .rngOk) 0 0 = true →
        Completes (.pannierInit d train geometry map key []) s fun t => t.get (.pan .state) d 0 = panReady ∧
          t.get (.pan .xtsReady) d 0 = 1 ∧ t.flag (.live .panDown) d 0 = false ∧ t.called 1 = false ∧
          t.get (.boot .procDone) 0 0 = 1) ∧
      (train = true → geometry = true → map = true → key = false →
        Completes (.pannierInit d train geometry map key faults) s fun t => t.get (.pan .state) d 0 = panFailed ∧
          t.get (.boot .procCode) 0 0 = 5)) ∧
    (s.called 2 = true → s.procArg 2 0 % 8 = d → Completes (.eccSelftest d pass) s fun t => t.called 2 = false ∧
      bit (t.get (.boot .eccRan) 0 0) d = true ∧ bit (t.get (.boot .eccPass) 0 0) d = pass) ∧
    (s.called 3 = true → s.procArg 3 0 % 8 = d → s.get (.boot .procId) 0 0 = 3 → s.pendingRows d = [e] →
      (Completes (.applyRepair d [⟨true, 15⟩]) s fun t => t.called 3 = false ∧ t.get (.boot .procDone) 0 0 = 1 ∧
        bits (t.winWordAt .panRepair d e 0) 28 2 = 0 ∧ t.get (.pan .pprHeld) d e = 1 ∧
        t.get (.pan .sparesLeft) d 0 = s.get (.pan .sparesLeft) d 0 + 4) ∧
      (bit (s.procArg 3 1) 0 = false → Completes (.applyRepair d [⟨false, 0⟩]) s fun t => t.called 3 = false ∧
        t.get (.boot .procDone) 0 0 = 2 ∧ t.get (.boot .procCode) 0 0 = 6 ∧
        bits (t.winWordAt .panRepair d e 0) 28 2 = 2))) ∧
  (∀ (s : State) (d n r v x : Nat) (q : RetireReq) (rest : List RetireReq), s.up d = true → s.panOk d = true →
    (s.get (.pan .migHome) d 0 = 0 → s.stage d = 0 → s.retireHead d = some (q, rest) →
      (s.lowestSpare d = some n → Completes (.pageMigrationStart d) s fun t => t.retireQ = rest ∧
        t.get (.pan .migHome) d 0 = s.homeAt d q.ppn + 1 ∧ t.get (.pan .migNew) d 0 = n ∧
        t.get (.pan .sparesLeft) d 0 = s.get (.pan .sparesLeft) d 0 - 1 ∧ t.isFree d n = false ∧
        t.get (.crr .state) d 0 = 1) ∧
      (s.lowestSpare d = none → Completes (.pageMigrationStart d) s fun t => t.retireQ = rest ∧
        t.get (.pan .migHome) d 0 = 0 ∧ t.get (.pan .nRetire) d 0 = (s.get (.pan .nRetire) d 0 + 1) % Counter.size ∧
        (2 ≤ regionOf (s.homeAt d q.ppn) → regionOf (s.homeAt d q.ppn) ≤ 4 →
          t.get (.pan .out) d (s.homeAt d q.ppn) = 1))) ∧
    (s.get (.pan .migHome) d 0 = x + 1 → Completes (.pageMigrationDone d) s fun t => t.get (.pan .migHome) d 0 = 0 ∧
      t.pageAt d x = s.get (.pan .migNew) d 0 ∧ t.get (.crr .state) d 0 = 0 ∧
      t.get (.pan .nRetire) d 0 = (s.get (.pan .nRetire) d 0 + 1) % Counter.size ∧
      t.get (.crr .nDescDone) d 0 = (s.get (.crr .nDescDone) d 0 + 1) % Counter.size) ∧
    (v < regionSize r →
      (Completes (.pteWalk d r v true true false .walk) s fun t => t.get (.pan .rebuild) d (homeOfVpn r v) = 1 ∧
        t.flag (.live .panWalkFault) d 0 = true ∧
        t.get (.pan .nWalkFault) d 0 = (s.get (.pan .nWalkFault) d 0 + 1) % Counter.size) ∧
      (Completes (.pteWalk d r v true false false .walk) s fun t =>
        t.get (.pan .nWalkRepair) d 0 = (s.get (.pan .nWalkRepair) d 0 + 1) % Counter.size ∧
          t.flag (.live .panWalkFault) d 0 = s.flag (.live .panWalkFault) d 0)) ∧
    (s.flag (.pan .rebuild) d (homeOfVpn r v) = true → Completes (.pteRebuildDone d r v) s fun t =>
      t.get (.pan .rebuild) d (homeOfVpn r v) = 0 ∧
        (s.wf = true → (s.listed (.pan .rebuild) d).length = 1 → t.flag (.live .panWalkFault) d 0 = false)))

/-- R285 to R294: corrected and uncorrectable reads, write-backs, merge flushes and the scrub lap. -/
def Obligations.StackReads : Prop :=
  ∀ (s : State) (d g ms m : Nat), s.up d = true → s.panOk d = true →
    (s.merge = [] → s.get (.pan .migHome) d 0 = 0 →
      (Completes (.panCorrectedRead d g false true) s fun t => t.get (.pan .wbPend) d g = 1 ∧
        t.get (.pan .nCeData) d 0 = (s.get (.pan .nCeData) d 0 + 1) % Counter.size) ∧
      (s.tracker = [⟨d, g, 2⟩] → Completes (.panCorrectedRead d g true true) s fun t =>
        t.flag (.sticky .panHardFault) d 0 = true ∧ t.tracker = [⟨d, g, 3⟩] ∧
          t.get (.pan .nHard) d 0 = (s.get (.pan .nHard) d 0 + 1) % Counter.size ∧
          t.get (.pan .nCeCheck) d 0 = (s.get (.pan .nCeCheck) d 0 + 1) % Counter.size)) ∧
    (s.flag (.pan .wbPend) d g = true →
      (Completes (.panWriteBack d g true) s fun t => t.get (.pan .wbPend) d g = 0 ∧
        t.get (.pan .nHard) d 0 = s.get (.pan .nHard) d 0) ∧
      (Completes (.panWriteBack d g false) s fun t => t.get (.pan .wbPend) d g = 0 ∧
        t.get (.pan .nWbFail) d 0 = (s.get (.pan .nWbFail) d 0 + 1) % Counter.size ∧
        t.get (.pan .nHard) d 0 = (s.get (.pan .nHard) d 0 + 1) % Counter.size ∧
        t.flag (.sticky .panHardFault) d 0 = true)) ∧
    (s.flag (.pan .poison) d g = true → Completes (.panUncorrectableRead d g .scrub) s fun t =>
      t.get (.pan .nPoisonRd) d 0 = (s.get (.pan .nPoisonRd) d 0 + 1) % Counter.size ∧
        t.get (.pan .nUe) d 0 = s.get (.pan .nUe) d 0) ∧
    (s.flag (.pan .poison) d g = false → Completes (.panUncorrectableRead d g .scrub) s fun t =>
      t.get (.pan .poison) d g = 1 ∧ t.get (.pan .nUe) d 0 = (s.get (.pan .nUe) d 0 + 1) % Counter.size ∧
        t.flag (.sticky .panUe) d 0 = true ∧ t.flag (.sticky .panHardFault) d 0 = true) ∧
    (s.merge = [⟨d, g, m⟩] → s.get (.pan .migHome) d 0 = 0 →
      (m = 255 → Completes (.mergeFlush d g false false) s fun t => t.merge = [] ∧
        t.get (.pan .poison) d (s.readGran d g) = 0 ∧ t.get (.pan .nMergeRmw) d 0 = s.get (.pan .nMergeRmw) d 0) ∧
      (m ≠ 255 → s.flag (.pan .poison) d (s.readGran d g) = false → Completes (.mergeFlush d g false false) s fun t =>
        t.merge = [] ∧ t.get (.pan .poison) d (s.readGran d g) = 0 ∧
          t.get (.pan .nMergeRmw) d 0 = (s.get (.pan .nMergeRmw) d 0 + 1) % Counter.size) ∧
      (Completes (.mergeFlush d g false true) s fun t => t.merge = [] ∧ t.get (.pan .poison) d (s.readGran d g) = 1 ∧
        t.get (.pan .nXtsFault) d 0 = (s.get (.pan .nXtsFault) d 0 + 1) % Counter.size)) ∧
    (s.flag (.pan .scrubEn) d 0 = true → Completes (.scrubLapEnd d ms) s fun t =>
      t.get (.pan .lastLapMs) d 0 = min ms 0xFFFFFF ∧ (t.tracker.any fun x => decide (x.die = d)) = false ∧
        t.get (.pan .nScrubLaps) d 0 = (s.get (.pan .nScrubLaps) d 0 + 1) % Counter.size ∧
        (s.get (.pan .lapMax) d 0 * 1000 < ms → t.flag (.sticky .panScrubSlow) d 0 = true)) ∧
    (s.flag (.pan .scrubEn) d 0 = false → Completes (.trackerClearTimer d) s fun t =>
      t.get (.pan .lastLapMs) d 0 = 0 ∧ (t.tracker.any fun x => decide (x.die = d)) = false)

/-- R303 to R311: descriptors, faults and recovery of a Courier channel. R338 to R340: the lock of the service
cipher. -/
def Obligations.Courier : Prop :=
  (∀ (s : State) (d c code done space addr : Nat) (p : CrrPost) (x : Desc) (l : List Nat),
    (s.chanOn d c = true → c ≠ 0 → c < 12 → s.chan d c = [] → p.cls < 4 →
      (p.len = 0 → Completes (.courierDescPost d c p) s fun t => t.get (.crr .state) d c = 2 ∧
        t.get (.crr .fault) d c = 1 ∧ t.flag (.live .crrHalt) d 0 = true) ∧
      (0 < p.len → p.len ≤ 16777215 → p.srcSpace = 0 → p.dstSpace = 1 → p.sign = false →
        Completes (.courierDescPost d c p) s fun t => t.get (.crr .state) d c = 1 ∧
          (t.chan d c).map (fun y => (y.cls, y.src, y.dst, y.len, y.state)) = [(p.cls, p.src, p.dst, p.len, 1)])) ∧
    (s.chanOn d c = true → s.current d c = some x →
      (x.state = 1 → x.sign = false → s.outranked x = true → x.done ≤ done → done < x.len → (x.dst + done) % 4096 = 0 →
        Completes (.courierPreempt d c done) s fun t =>
          t.get (.crr .nPreempt) d c = (s.get (.crr .nPreempt) d c + 1) % Counter.size) ∧
      (x.state = 1 → x.sign = false → s.get (.crr .state) d c = 1 → s.descStop x = none →
        Completes (.courierDescDone d c) s fun t =>
          t.get (.crr .nDescDone) d c = (s.get (.crr .nDescDone) d c + 1) % Counter.size) ∧
      (x.state = 1 → x.sign = false → s.get (.crr .state) d c = 1 → (s.descStop x).isSome = true →
        Completes (.courierDescDone d c) s fun t => t.get (.crr .state) d c = 2 ∧
          s.descStop x = some (t.get (.crr .fault) d c, t.get (.crr .doneBytes) d c, t.get (.crr .faultSpace) d c,
            t.get (.crr .faultAddr) d c)) ∧
      (x.state = 1 → x.done ≤ done → done < x.len → 1 ≤ code → code ≤ 9 → c < 12 →
        Completes (.courierFault d c code done space addr) s fun t => t.get (.crr .state) d c = 2 ∧
          t.get (.crr .fault) d c = code ∧ t.get (.crr .doneBytes) d c = done ∧ t.get (.crr .faultSpace) d c = space ∧
          t.get (.crr .faultAddr) d c = addr ∧ t.flag (.live .crrHalt) d 0 = true ∧
          t.get (.crr .nFault) d c = (s.get (.crr .nFault) d c + 1) % Counter.size) ∧
      (x.state = 4 → s.mayResume x = true → x.malformed = false → x.toHost = false → x.sign = false →
        Completes (.courierResume d c) s fun t => t.get (.crr .state) d c = 1 ∧
          t.get (.crr .nResume) d c = (s.get (.crr .nResume) d c + 1) % Counter.size ∧
          t.get (.crr .doneBytes) d c = x.done) ∧
      (x.state = 4 → s.mayResume x = false → x.fault ≠ 3 → Completes (.courierAbort d c) s fun t =>
        t.flag (.sticky .crrAbort) d 0 = true ∧ t.get (.crr .nAbort) d c = (s.get (.crr .nAbort) d c + 1) % Counter.size) ∧
      (s.get (.crr .state) d c = 3 → x.sign = false → Completes (.courierCipherResume d c) s fun t =>
        t.get (.crr .state) d c = 1)) ∧
    (s.chanOn 0 4 = true → s.current 0 4 = some x → x.state = 1 → x.srcSpace = 2 → x.done ≤ done → done < x.len →
      Completes (.pcieCompletionTimeout done) s fun t => t.get (.crr .state) 0 4 = 2 ∧ t.get (.crr .fault) 0 4 = 6 ∧
        t.flag (.sticky .crrPcie) 0 0 = true) ∧
    (s.up 0 = true → Completes .pcieUnexpectedCompletion s fun t =>
      t.get (.crr .nPcieUnexp) 0 0 = (s.get (.crr .nPcieUnexp) 0 0 + 1) % Counter.size) ∧
    (s.flag (.sys .pcieUp) 0 0 = true → Completes (.pcieLinkDown l) s fun t => t.get (.sys .pcieUp) 0 0 = 0) ∧
    (s.flag (.sys .pcieUp) 0 0 = true → 4 ≤ c → c < 12 → s.current 0 c = some x → x.state = 1 → x.toHost = true →
      Completes (.pcieLinkDown l) s fun t => t.get (.crr .state) 0 c = 2 ∧ t.get (.crr .fault) 0 c = 7)) ∧
  (∀ (s : State) (a k : Nat), a < 8 →
    (a ≠ 0 ∨ s.inRun = false → s.svcWaiting a = false → s.slotValid 0 = false → s.slotValid 1 = false →
      (s.flag (.svc .busy) 0 0 = false → Completes (.svcLockRequest a) s fun t => t.get (.svc .busy) 0 0 = 1 ∧
        t.get (.svc .owner) 0 0 = a) ∧
      (s.flag (.svc .busy) 0 0 = true → a < s.get (.svc .owner) 0 0 → s.flag (.svc .suspender) 0 0 = false →
        Completes (.svcLockRequest a) s fun t => t.get (.svc .owner) 0 0 = a ∧ t.slotValid 0 = true ∧
          t.slotAgent 0 = s.get (.svc .owner) 0 0 ∧
          t.get (.svc .nSuspend) 0 0 = (s.get (.svc .nSuspend) 0 0 + 1) % Counter.size) ∧
      (s.flag (.svc .busy) 0 0 = true → s.get (.svc .owner) 0 0 < a → Completes (.svcLockRequest a) s fun t =>
        t.get (.svc .owner) 0 0 = s.get (.svc .owner) 0 0 ∧ t.svcWaiting a = true ∧
          t.get (.svc .nWait) 0 0 = (s.get (.svc .nWait) 0 0 + 1) % Counter.size)) ∧
    (s.flag (.svc .busy) 0 0 = true → s.slotValid 0 = false → s.slotValid 1 = false →
      (s.get (.svc .waiting) 0 0 = 0 → Completes (.svcLockRelease true true) s fun t => t.get (.svc .busy) 0 0 = 0 ∧
        t.get (.svc .nMsg) 0 0 = (s.get (.svc .nMsg) 0 0 + 1) % Counter.size) ∧
      (s.get (.svc .waiting) 0 0 = 2 ^ a → Completes (.svcLockRelease true true) s fun t => t.get (.svc .busy) 0 0 = 1 ∧
        t.get (.svc .owner) 0 0 = a ∧ t.get (.svc .waiting) 0 0 = 0)) ∧
    (s.flag (.svc .busy) 0 0 = true → Completes (.svcLockRelease false true) s fun t =>
      t.flag (.live .sbgSvcFault) 0 0 = true ∧
        t.get (.svc .nCheckFail) 0 0 = (s.get (.svc .nCheckFail) 0 0 + 1) % Counter.size) ∧
    (k < 2 → s.slotValid k = true → Completes (.svcSuspendTimeout k) s fun t => t.slotValid k = false ∧
      t.get (.svc .nSuspFail) 0 0 = (s.get (.svc .nSuspFail) 0 0 + 1) % Counter.size))

/-- R321 to R323, R326: fragments, the handshake of a span and the messages that the key channel refuses. -/
def Obligations.KeyChannel : Prop :=
  ∀ (s : State) (h : KchHead) (k type idx count : Nat) (p : KchPeer), s.kchUp h.on = true →
    (idx < count → s.kch = [] → Completes (.kchFragmentRx h type idx count) s fun t =>
      t.kch = [⟨h.on, type, h.sender, h.seq, count, 2 ^ idx⟩]) ∧
    (s.kch = [⟨h.on, type, h.sender, h.seq, 2, 1⟩] →
      (Completes (.kchFragmentRx h type 1 2) s fun t => t.kch = [⟨h.on, type, h.sender, h.seq, 2, 3⟩]) ∧
      (Completes (.kchReassemblyTimeout h.on type h.sender h.seq) s fun t => t.kch = [] ∧
        t.get (.sbg .nKchDisc) 0 0 = (s.get (.sbg .nKchDisc) 0 0 + 1) % Counter.size)) ∧
    (s.spanOn h.on = some k → h.sender ≠ s.spanPartner k → (s.kchTake h 0x01).isSome = true →
      Completes (.kchHelloRx h true true) s fun t =>
        t.get (.sbg .nKchDisc) 0 0 = (s.get (.sbg .nKchDisc) 0 0 + 1) % Counter.size ∧
          t.get (.sbg .spStep) 0 k = s.get (.sbg .spStep) 0 k) ∧
    (s.spanOn h.on = some k → h.sender = s.spanPartner k →
      ((s.kchTake h 0x01).isSome = true → s.initiates k = false → s.flag (.sbg .rngOk) 0 0 = true →
        Completes (.kchHelloRx h true true) s fun t => t.get (.sbg .spStep) 0 k = 2 ∧ t.spanState k = spanHandshake ∧
          t.get (.sbg .spTxType) 0 k = 2) ∧
      ((s.kchTake h 0x01).isSome = true → s.initiates k = false → s.get (.sbg .spStep) 0 k = 2 →
        Completes (.kchHelloRx h false true) s fun t => t.get (.sbg .spStep) 0 k = 2 ∧
          t.get (.sbg .spSent) 0 k = (s.get (.sbg .spSent) 0 k + 1) % Counter.size) ∧
      ((s.kchTake h 0x02).isSome = true → s.get (.sbg .spStep) 0 k = 1 →
        (s.peerCode k { p with macOk := true } = 0 → Completes (.kchReplyRx h p) s fun t =>
          t.get (.sbg .spStep) 0 k = 3 ∧ t.get (.sbg .spTxType) 0 k = 3) ∧
        (s.peerCode k { p with macOk := true } ≠ 0 → Completes (.kchReplyRx h p) s fun t =>
          t.get (.sbg .spStep) 0 k = 0 ∧ t.get (.sbg .spTxType) 0 k = 0x20 ∧
            t.get (.sbg .nHsFail) 0 0 = (s.get (.sbg .nHsFail) 0 0 + 1) % Counter.size)) ∧
      ((s.kchTake h 0x03).isSome = true → s.get (.sbg .spStep) 0 k = 2 → s.peerCode k p = 0 →
        Completes (.kchAuthRx h p) s fun t => t.get (.sbg .spHas) 0 k = 1 ∧ t.get (.sbg .spStep) 0 k = 0 ∧
          t.spanState k = spanEstablished ∧ t.spanSms k = (s.spanSms k + 1) % 256 ∧
          t.get (.sbg .nHsOk) 0 0 = (s.get (.sbg .nHsOk) 0 0 + 1) % Counter.size) ∧
      ((s.kchTake h 0x04).isSome = true → s.get (.sbg .spStep) 0 k = 3 →
        (Completes (.kchConfirmRx h true) s fun t => t.get (.sbg .spHas) 0 k = 1 ∧ t.spanState k = spanEstablished ∧
          t.spanSms k = (s.spanSms k + 1) % 256) ∧
        (Completes (.kchConfirmRx h false) s fun t => t.flag (.sticky .sbgPeerAuthFail) 0 0 = true ∧
          t.get (.sbg .nHsFail) 0 0 = (s.get (.sbg .nHsFail) 0 0 + 1) % Counter.size)) ∧
      ((s.kchTake h 0x20).isSome = true → h.tagOk = true → s.get (.sbg .spSeqRx) 0 k < h.seq →
        s.get (.sbg .spStep) 0 k ≠ 0 → Completes (.kchAbortRx h) s fun t => t.get (.sbg .spStep) 0 k = 0 ∧
          t.get (.sbg .nHsFail) 0 0 = (s.get (.sbg .nHsFail) 0 0 + 1) % Counter.size) ∧
      ((s.kchTake h 0x20).isSome = true → h.tagOk = false → Completes (.kchAbortRx h) s fun t =>
        t.flag (.sticky .sbgKchTagFail) 0 0 = true ∧ t.get (.sbg .spStep) 0 k = s.get (.sbg .spStep) 0 k ∧
          t.get (.sbg .nKchDisc) 0 0 = (s.get (.sbg .nKchDisc) 0 0 + 1) % Counter.size))

/-- R319, R322, R329: how the keys of a container are derived, delivered, answered and taken into use. -/
def Obligations.ContainerKeys : Prop :=
  ∀ (s : State) (h : KchHead) (d i k sms ep ctr : Nat),
    (s.kchUp h.on = true → s.spanOn h.on = some k → h.sender = s.spanPartner k → h.tagOk = true →
      s.get (.sbg .spSeqRx) 0 k < h.seq → d < 8 → i < 512 →
      ((s.kchTake h 0x10).isSome = true → s.nextReason k sms ⟨512 * d + i, ep⟩ = 0 →
        Completes (.kchKeyNextRx h sms [⟨512 * d + i, ep⟩]) s fun t => t.get (.cry .rxNextEpoch) d i = ep ∧
          t.get (.cry .rxNext) d i = (if d = 0 then 2 else 1) ∧ t.get (.sbg .spTxType) 0 k = 0x11) ∧
      ((s.kchTake h 0x10).isSome = true → s.nextReason k sms ⟨512 * d + i, ep⟩ ≠ 0 →
        Completes (.kchKeyNextRx h sms [⟨512 * d + i, ep⟩]) s fun t => t.get (.sbg .spTxType) 0 k = 0x12 ∧
          t.get (.cry .rxNext) d i = s.get (.cry .rxNext) d i) ∧
      ((s.kchTake h 0x11).isSome = true → s.get (.cry .txNext) d i = 2 → s.get (.cry .txNextEpoch) d i = ep →
        s.get (.cry .frameCtr) d i < 2 ^ 64 - 1 → Completes (.kchKeyReadyRx h [⟨512 * d + i, ep⟩]) s fun t =>
          t.get (.cry .txEpoch) d i = ep ∧ t.get (.cry .txNext) d i = 0 ∧ t.get (.cry .txFrames) d i = 0 ∧
            t.get (.cry .txState) d i = cryActive ∧ t.flag (.live .cryRekeyLate) d i = false ∧
            t.get (.cry .nRekey) d i = (s.get (.cry .nRekey) d i + 1) % Counter.size) ∧
      ((s.kchTake h 0x12).isSome = true → s.get (.cry .txNext) d i ≠ 0 → s.get (.cry .txNextEpoch) d i = ep →
        Completes (.kchKeyRefuseRx h [⟨512 * d + i, ep⟩]) s fun t => t.get (.cry .txNext) d i = 0 ∧
          t.get (.cry .txRetry) d i = 1 ∧ t.flag (.sticky .cryRekeyLate) d i = true)) ∧
    (s.encOn d i = true → s.spanOf (512 * d + i) = some k → s.flag (.sbg .spHas) 0 k = true →
      (s.get (.cry .txNext) d i = 0 → s.get (.cry .txState) d i = cryActive → Completes (.rekeyTimer d i) s fun t =>
        t.get (.cry .txNext) d i = (if d = 0 then 2 else 1) ∧ t.get (.cry .txState) d i = cryRekeying ∧
          t.get (.sbg .spTxType) 0 k = 0x10) ∧
      (s.get (.cry .txNext) d i = 0 → s.flag (.cry .txRetry) d i = true → Completes (.rekeyRetryTimer d i) s fun t =>
        t.get (.cry .txNext) d i = (if d = 0 then 2 else 1) ∧ t.get (.cry .txRetry) d i = 0 ∧
          t.get (.sbg .spTxType) 0 k = 0x10) ∧
      (s.get (.cry .txNext) d i ≠ 0 → Completes (.keyNextResend d i) s fun t =>
        t.get (.sbg .spSent) 0 k = (s.get (.sbg .spSent) 0 k + 1) % Counter.size)) ∧
    (s.up d = true → d ≠ 0 →
      (s.flag (.sbg .kwOk) 0 d = true → s.flitWaits d (.tx i) = true → s.flag (.cry .restore) d (2 * i) = false →
        s.get (.sbg .wrapCtr) 0 d < ctr → Completes (.keyFlitRx d (.tx i) ctr true) s fun t =>
          t.get (.sbg .wrapCtr) 0 d = ctr ∧ t.get (.cry .txNext) d i = 2) ∧
      (s.flag (.sbg .kwOk) 0 d = true → s.flitWaits d .xts = true → s.get (.sbg .wrapCtr) 0 d < ctr →
        Completes (.keyFlitRx d .xts ctr true) s fun t => t.get (.pan .xtsReady) d 0 = 1 ∧
          t.get (.sbg .xtsPend) 0 d = 0) ∧
      (s.flag (.sbg .kwOk) 0 d = true → s.flitWaits d (.rx i) = true → ctr ≤ s.get (.sbg .wrapCtr) 0 d →
        Completes (.keyFlitRx d (.rx i) ctr true) s fun t => t.flag (.sticky .sbgWrapFail) 0 0 = true ∧
          t.get (.sbg .wrapCtr) 0 d = s.get (.sbg .wrapCtr) 0 d ∧
          t.get (.sbg .nWrapFail) 0 0 = (s.get (.sbg .nWrapFail) 0 0 + 1) % Counter.size) ∧
      (s.flag (.sbg .kwOk) 0 d = false → s.flag (.sbg .rngOk) 0 0 = true → Completes (.wrapNonceRetry d) s fun t =>
        t.get (.sbg .kwOk) 0 d = 1 ∧ t.get (.sbg .wrapCtr) 0 d = 0))

/-- R323 to R326, R341: KEY_AGREE, the handshake timers and the entropy source. -/
def Obligations.KeyAgreement : Prop :=
  ∀ (s : State) (k : Nat),
    (s.called 8 = true → s.spanEntry s.kaPartner = some k → Completes .keyAgree s fun t =>
      t.spanCarriers k = s.procArg 8 0 % 256 ∧ t.spanPartner k = s.kaPartner % 4096 ∧
        t.spanState k ≠ spanNone) ∧
    (s.called 8 = true → s.get (.boot .procId) 0 0 = 8 → s.get (.sbg .kaSpan) 0 0 = k + 1 → s.kaTolerate = false →
      (s.get (.sbg .spStep) 0 k = 0 → s.flag (.sbg .spHas) 0 k = false → Completes .keyAgreeTimeout s fun t =>
        t.called 8 = false ∧ t.get (.boot .procDone) 0 0 = 2 ∧ t.get (.boot .procCode) 0 0 = kaNoChannel ∧
          t.spanState k = spanFailed) ∧
      (s.get (.sbg .spStep) 0 k ≠ 0 → Completes .keyAgreeTimeout s fun t => t.called 8 = false ∧
        t.get (.boot .procCode) 0 0 = kaTimeout ∧ t.get (.sbg .spStep) 0 k = 0 ∧
        t.get (.sbg .nHsFail) 0 0 = (s.get (.sbg .nHsFail) 0 0 + 1) % Counter.size)) ∧
    (1 ≤ s.get (.sbg .spStep) 0 k → s.get (.sbg .spStep) 0 k ≤ 3 → Completes (.kchResendTimer k) s fun t =>
      t.get (.sbg .spSent) 0 k = (s.get (.sbg .spSent) 0 k + 1) % Counter.size) ∧
    (s.get (.sbg .spStep) 0 k = 0 → s.initiates k = true → s.flag (.sbg .rngOk) 0 0 = true →
      (s.flag (.sbg .spRetry) 0 k = true → Completes (.handshakeRetryTimer k) s fun t =>
        t.get (.sbg .spStep) 0 k = 1 ∧ t.get (.sbg .spTxType) 0 k = 1 ∧ t.spanState k = spanHandshake) ∧
      (s.flag (.sbg .spHas) 0 k = true → Completes (.spanRekeyTimer k) s fun t =>
        t.get (.sbg .spStep) 0 k = 1 ∧ t.get (.sbg .spTxType) 0 k = 1 ∧ t.flag (.sbg .spHas) 0 k = true)) ∧
    (s.released 0 = true →
      (Completes .entropyHealthFail s fun t => t.get (.sbg .rngOk) 0 0 = 0 ∧
        t.flag (.live .sbgEntropyFail) 0 0 = true ∧
        t.get (.sbg .nHealthFail) 0 0 = (s.get (.sbg .nHealthFail) 0 0 + 1) % Counter.size) ∧
      (s.flag (.sbg .rngOk) 0 0 = false → Completes (.entropyRetest true) s fun t => t.get (.sbg .rngOk) 0 0 = 1 ∧
        t.flag (.live .sbgEntropyFail) 0 0 = false) ∧
      (s.flag (.sbg .rngOk) 0 0 = false → Completes (.entropyRetest false) s fun t => t.flag (.sbg .rngOk) 0 0 = false))

/-- R327, R328, R331, R329, R334: sealing a container frame and the verdict on a received one. R235, R333, R336,
R395: a frame leaves toward the host, and the correction of a transparent clock. -/
def Obligations.Seals : Prop :=
  (∀ (s : State) (d i : Nat) (f : SealCopy), s.up d = true → s.encOn d i = true →
    (s.ctnMode d i = 1 ∨ s.ctnMode d i = 2 → s.listed (.winDirty .cryCtx) d = [] →
      (s.get (.cry .txState) d i = cryActive → s.get (.cry .frameCtr) d i < 2 ^ 64 - 1 →
        s.get (.cry .txFrames) d i + 1 < 2 ^ s.get (.cry .rekeyLog2) d 0 → s.get (.cry .txFrames) d i + 1 < 2 ^ 32 →
        Completes (.containerFrameSeal d i) s fun t => t.get (.cry .frameCtr) d i = s.get (.cry .frameCtr) d i + 1 ∧
          t.get (.cry .txFrames) d i = s.get (.cry .txFrames) d i + 1 ∧ t.get (.cry .txState) d i = cryActive ∧
          t.get (.cry .nSealed) d i = (s.get (.cry .nSealed) d i + 1) % Counter.size) ∧
      (s.get (.cry .txState) d i = cryActive → s.get (.cry .frameCtr) d i < 2 ^ 64 - 1 →
        s.get (.cry .txFrames) d i + 1 = 2 ^ 32 → Completes (.containerFrameSeal d i) s fun t =>
          t.get (.cry .txState) d i = cryHold ∧ t.flag (.live .cryCryptoHold) d i = true) ∧
      (s.get (.cry .txState) d i = cryNokey ∨ s.get (.cry .txState) d i = cryHold →
        Completes (.containerFrameSeal d i) s fun t => t.get (.cry .frameCtr) d i = s.get (.cry .frameCtr) d i ∧
          t.get (.cry .nHoldFrames) d i = (s.get (.cry .nHoldFrames) d i + 1) % Counter.size)) ∧
    (f.protect = false →
      (s.keyFor d i f.kid = 0 → Completes (.sealVerdict d i f) s fun t => t.flag (.sticky .cryKeyUnknown) d i = true ∧
        t.flag (.sticky .crySealFail) d i = true ∧ t.get (.cry .highest) d i = s.get (.cry .highest) d i ∧
        t.get (.cry .nSealFail) d i = (s.get (.cry .nSealFail) d i + 1) % Counter.size) ∧
      (s.keyFor d i f.kid ≠ 0 → f.ctr ≤ s.get (.cry .highest) d i → Completes (.sealVerdict d i f) s fun t =>
        t.flag (.sticky .cryReplay) d i = true ∧
          t.get (.cry .nReplay) d i = (s.get (.cry .nReplay) d i + 1) % Counter.size ∧
          t.get (.cry .highest) d i = s.get (.cry .highest) d i) ∧
      (s.keyFor d i f.kid ≠ 0 → s.get (.cry .highest) d i < f.ctr → f.tagHere = false →
        Completes (.sealVerdict d i f) s fun t =>
          t.get (.cry .nTagMissing) d i = (s.get (.cry .nTagMissing) d i + 1) % Counter.size ∧
          t.get (.cry .failRun) d i = min 8 (s.get (.cry .failRun) d i + 1)) ∧
      (s.keyFor d i f.kid ≠ 0 → s.get (.cry .highest) d i < f.ctr → f.tagHere = true → f.tagOk = true →
        Completes (.sealVerdict d i f) s fun t => t.get (.cry .highest) d i = f.ctr ∧ t.get (.cry .failRun) d i = 0 ∧
          t.get (.cry .nVerified) d i = (s.get (.cry .nVerified) d i + 1) % Counter.size ∧
          (s.keyFor d i f.kid = 2 → t.get (.cry .rxEpoch) d i = s.get (.cry .rxNextEpoch) d i ∧
            t.get (.cry .rxNext) d i = 0)) ∧
      (s.keyFor d i f.kid ≠ 0 → s.get (.cry .highest) d i < f.ctr → f.tagHere = true → f.tagOk = false →
        Completes (.sealVerdict d i f) s fun t => t.get (.cry .highest) d i = s.get (.cry .highest) d i ∧
          t.get (.cry .nSealFail) d i = (s.get (.cry .nSealFail) d i + 1) % Counter.size)) ∧
    (s.flag (.cry .rxOld) d i = true → Completes (.rxOldKeyErase d i) s fun t => t.get (.cry .rxOld) d i = 0)) ∧
  (∀ (s : State) (d p : Nat) (f : EgressFrame) (m : Ptp), s.packetUp d p = true → s.mayStart d p f = true →
    (f.ptp = none → Completes (.hostFrameStart d p f) s fun t =>
      t.get (.hl .nTxFrames) d p = (s.get (.hl .nTxFrames) d p + 1) % Counter.size ∧
        t.get (.hl .nTxBytes) d p = (s.get (.hl .nTxBytes) d p + f.len) % Counter.size) ∧
    (f.headIn = true → f.ptp = some m → m.kind = 1 → bit m.mark 31 = true → s.get (.tim .tcMode) 0 0 = 1 →
      Completes (.hostFrameStart d p f) s fun t =>
        t.get (.hl .nTxFrames) d p = (s.get (.hl .nTxFrames) d p + 1) % Counter.size ∧
          t.get (.tim .nTcCorr) 0 0 = (s.get (.tim .nTcCorr) 0 0 + 1) % Counter.size ∧
          t.get (.tim .ptpCorr) d p = residence (f.rawTime + s.get (.hl .corrTx) d p) m.mark * 256 ∧
          (s.tsLocked = false → t.flag (.sticky .timTcUnsync) 0 0 = true)))

/-- R350, R353, R354: what a carrier sends on the Bell channel and when. R359, R363, R364: what an offered message
does, and the messages that are refused. -/
def Obligations.BellSendingAndMessages : Prop :=
  (∀ (s : State) (d ty : Nat), s.bellOn d = true → s.flag (.sys .restartPend) 0 0 = false →
    (s.get (.bell .cur) d 0 = 0 → s.bellTop d = ty → ty ≠ 0 → s.bellPath d ty ≠ 0 →
      Completes (.bellTxMessageStart d) s fun t => t.get (.bell .cur) d 0 = ty ∧
        t.get (.bell .txSrc) d 0 = s.bellPath d ty ∧ t.bellPending d ty = false ∧
        t.get (.bell .seqTx) d 0 = (s.get (.bell .seqTx) d 0 + 1) % 256 ∧
        (s.get (.bell .code) d 0 ≤ 32 → t.get (.bell .codeUsed) d 0 = s.get (.bell .code) d 0)) ∧
    (s.get (.bell .cur) d 0 ≠ 0 → Completes (.bellTxDone d) s fun t => t.get (.bell .cur) d 0 = 0 ∧
      t.get (.bell .txSrc) d 0 = 0 ∧ t.get (.bell .nTxMsg) d 0 = (s.get (.bell .nTxMsg) d 0 + 1) % Counter.size) ∧
    (s.get (.bell .cur) d 0 = ty → ty ≠ 0 → ty ≠ bellGasp → s.bellPath d ty ≠ s.get (.bell .txSrc) d 0 →
      Completes (.bellPathChange d) s fun t => t.get (.bell .cur) d 0 = 0 ∧ t.get (.bell .txSrc) d 0 = 0 ∧
        t.bellPending d ty = true) ∧
    (s.flag (.bell .discRun) d 0 = true → s.get (.bell .discState) d 0 ≠ 3 → Completes (.bellHelloTimer d) s fun t =>
      t.bellPending d bellHello = true) ∧
    (s.flag (.bell .ksKey) d 0 = true → ksClocksOff ≤ s.stage d → s.stage d ≤ ksGated →
      Completes (.bellParkedTimer d) s fun t => t.bellPending d bellParked = true) ∧
    (s.flag (.bell .peerParked) d 0 = true → s.rxOn d = true → s.awake d = true → Completes (.bellWakeTimer d) s fun t =>
      t.bellPending d bellWake = true)) ∧
  (∀ (s : State) (d reason loc : Nat) (m : BellMsg), s.bellOn d = true →
    (s.flag (.bell .offered) d 0 = true →
      (s.bellAccepts d m false = false → Completes (.bellLastGaspRx d m reason loc) s fun t =>
        t.get (.bell .offered) d 0 = 0 ∧ t.get (.bell .gaspValid) d 0 = s.get (.bell .gaspValid) d 0 ∧
          t.get (.bell .nRxDisc) d 0 = (s.get (.bell .nRxDisc) d 0 + 1) % Counter.size) ∧
      (s.bellAccepts d m false = true →
        (Completes (.bellLastGaspRx d m reason loc) s fun t => t.get (.bell .gaspValid) d 0 = 1 ∧
          t.get (.bell .gaspSender) d 0 = m.sender ∧ t.get (.bell .gaspCarrier) d 0 = m.carrier ∧
          t.get (.bell .gaspReason) d 0 = reason % 16 ∧ t.get (.bell .gaspLoc) d 0 = loc ∧
          t.flag (.sticky .bellGaspRx) d 0 = true ∧
          t.get (.bell .nRxMsg) d 0 = (s.get (.bell .nRxMsg) d 0 + 1) % Counter.size) ∧
        (s.fromPartner d m = true → Completes (.bellParkedRx d m) s fun t => t.get (.bell .peerParked) d 0 = 1 ∧
          t.get (.bell .nRxMsg) d 0 = (s.get (.bell .nRxMsg) d 0 + 1) % Counter.size) ∧
        (s.fromPartner d m = true → s.flag (.bell .wakeEn) d 0 = true → s.get (.bell .lastWake) d 0 = 0 →
          Completes (.bellWakeRx d m) s fun t => t.get (.bell .wakeReq) d 0 = 1 ∧ t.get (.bell .peerParked) d 0 = 0 ∧
            t.get (.bell .nWakeRx) d 0 = (s.get (.bell .nWakeRx) d 0 + 1) % Counter.size) ∧
        (s.flag (.bell .wakeEn) d 0 = false → Completes (.bellWakeRx d m) s fun t =>
          t.get (.bell .wakeReq) d 0 = s.get (.bell .wakeReq) d 0 ∧
            t.get (.bell .nRxDisc) d 0 = (s.get (.bell .nRxDisc) d 0 + 1) % Counter.size))) ∧
    (s.flag (.bell .peerParked) d 0 = true → Completes (.peerParkedTimeout d) s fun t =>
      t.get (.bell .peerParked) d 0 = 0) ∧
    (s.bellRx d = bellHdr → s.flag (.bell .rxCompat) d 0 = true →
      (Completes (.bellCompatRx d false 2 m reason) s fun t => t.bellRx d = bellSearch ∧
        t.get (.bell .nCrcFail) d 0 = (s.get (.bell .nCrcFail) d 0 + 1) % Counter.size) ∧
      (s.bellAccepts d m false = true → Completes (.bellCompatRx d true 2 m reason) s fun t =>
        t.bellRx d = bellSearch ∧ t.get (.bell .gaspReason) d 0 = reason % 16 ∧ t.get (.bell .gaspValid) d 0 = 1 ∧
          t.get (.bell .nCompatRx) d 0 = (s.get (.bell .nCompatRx) d 0 + 1) % Counter.size)))

/-- R355 to R358: the states of the Bell receiver. R360 to R362, R200: discovery of the span partner. -/
def Obligations.BellReception : Prop :=
  (∀ (s : State) (d : Nat) (rssi noise : Int) (slow compat : Bool), s.bellOn d = true →
    (s.bellRx d = bellSearch →
      (Completes (.bellDetect d slow) s fun t => t.bellRx d = bellDetected ∧ t.get (.bell .agcFrozen) d 0 = 1 ∧
        t.get (.bell .rxSlow) d 0 = slow.toNat ∧
        t.get (.bell .nDetect) d 0 = (s.get (.bell .nDetect) d 0 + 1) % Counter.size) ∧
      (Completes (.bellNoiseUpdate d noise) s fun t => t.get (.bell .noise) d 0 = enc noise % 2 ^ 16)) ∧
    (s.bellRx d = bellDetected →
      (s.bellFormat d compat = true → Completes (.bellSyncFound d rssi compat) s fun t => t.bellRx d = bellHdr ∧
        t.get (.bell .rssi) d 0 = enc rssi % 2 ^ 16 ∧ t.get (.bell .rxCompat) d 0 = compat.toNat) ∧
      (Completes (.bellSyncTimeout d) s fun t => t.bellRx d = bellSearch ∧ t.get (.bell .agcFrozen) d 0 = 0 ∧
        t.get (.bell .nFalseDet) d 0 = (s.get (.bell .nFalseDet) d 0 + 1) % Counter.size)) ∧
    (s.bellRx d = bellHdr → s.flag (.bell .rxCompat) d 0 = false →
      (Completes (.bellHeaderDone d true) s fun t => t.bellRx d = bellBody) ∧
      (Completes (.bellHeaderDone d false) s fun t => t.bellRx d = bellSearch ∧
        t.get (.bell .nFalseDet) d 0 = (s.get (.bell .nFalseDet) d 0 + 1) % Counter.size)) ∧
    (s.bellRx d = bellHdr → Completes (.bellSignalFade d) s fun t => t.bellRx d = bellSearch ∧
      t.get (.bell .nFalseDet) d 0 = (s.get (.bell .nFalseDet) d 0 + 1) % Counter.size) ∧
    (s.bellRx d = bellBody →
      (Completes (.bellBodyDone d true) s fun t => t.bellRx d = bellSearch ∧ t.get (.bell .offered) d 0 = 1) ∧
      (Completes (.bellBodyDone d false) s fun t => t.bellRx d = bellSearch ∧
        t.get (.bell .nCrcFail) d 0 = (s.get (.bell .nCrcFail) d 0 + 1) % Counter.size) ∧
      (Completes (.bellSignalFade d) s fun t => t.bellRx d = bellSearch ∧
        t.get (.bell .nCrcFail) d 0 = (s.get (.bell .nCrcFail) d 0 + 1) % Counter.size) ∧
      (s.bellFormat d compat = true → sext 16 (s.get (.bell .rssi) d 0) + 4 * s.get (.bell .captureDb) d 0 ≤ rssi →
        Completes (.bellCapture d rssi compat) s fun t => t.bellRx d = bellHdr ∧
          t.get (.bell .rssi) d 0 = enc rssi % 2 ^ 16 ∧
          t.get (.bell .nCapture) d 0 = (s.get (.bell .nCapture) d 0 + 1) % Counter.size))) ∧
  (∀ (s : State) (d : Nat) (m : BellMsg) (desc : List Nat), s.lantern d = true →
    (s.discCalled d = true → s.flag (.bell .bellEn) d 0 = true → Completes (.bellDiscover d) s fun t =>
      t.get (.bell .discState) d 0 = discSearch ∧ t.get (.bell .discRun) d 0 = 1 ∧ t.get (.bell .peerValid) d 0 = 0 ∧
        t.get (.bell .expNode) d 0 = s.procArg 7 1 % 4096 ∧ t.bellPending d bellHello = true) ∧
    (s.discCalled d = true → s.flag (.bell .bellEn) d 0 = false → s.get (.boot .procId) 0 0 = 7 →
      bit (s.procArg 7 2) 0 = false → Completes (.bellDiscover d) s fun t =>
        t.get (.bell .discState) d 0 = discFailed ∧ t.get (.boot .procDone) 0 0 = 2 ∧
          t.get (.boot .procCode) 0 0 = discNotAvail ∧ t.flag (.live .bellDiscFail) d 0 = true) ∧
    (s.flag (.bell .discRun) d 0 = true → s.get (.bell .discState) d 0 ≠ discDone →
      (Completes (.bellDiscoverTimeout d) s fun t => t.get (.bell .discState) d 0 = discFailed ∧
        t.get (.bell .discFailReason) d 0 = discTimeout ∧ t.flag (.live .bellDiscFail) d 0 = true ∧
        t.flag (.bell .discRun) d 0 = s.flag (.bell .tolerate) d 0) ∧
      (s.dspPath d = false → Completes (.bellNotAvailableTimeout d) s fun t =>
        t.get (.bell .discState) d 0 = discFailed ∧ t.get (.bell .discFailReason) d 0 = discNotAvail)) ∧
    (s.up d = true → s.rxState d ≠ rxLocked → s.flag (.der .returned) d 0 = true → s.flag (.bell .bellEn) d 0 = true →
      Completes (.derRediscoverTimer d) s fun t => t.get (.der .returned) d 0 = 0 ∧
        t.get (.bell .discState) d 0 = discSearch ∧ t.flag (.bell .tolerate) d 0 = true) ∧
    (s.bellOffered d = true → s.bellAccepts d m true = true →
      (s.flag (.bell .discRun) d 0 = false → s.get (.bell .discState) d 0 = discDone →
        s.get (.bell .partner) d 0 = m.sender → Completes (.bellHelloRx d m desc) s fun t =>
          t.bellPending d bellHello = true ∧ t.get (.bell .offered) d 0 = 0) ∧
      (s.flag (.bell .discRun) d 0 = false → s.get (.bell .discState) d 0 = discDone →
        s.get (.bell .partner) d 0 ≠ m.sender → Completes (.bellHelloRx d m desc) s fun t =>
          t.flag (.sticky .bellPeerChange) d 0 = true) ∧
      (s.flag (.bell .discRun) d 0 = true → s.get (.bell .expNode) d 0 = 0xFFF →
        descGrid desc ≠ descGrid (s.rxDesc d 0) → Completes (.bellHelloRx d m desc) s fun t =>
          t.get (.bell .discState) d 0 = discFailed ∧ t.get (.bell .discFailReason) d 0 = discGrid) ∧
      (s.flag (.bell .discRun) d 0 = true → s.get (.bell .expNode) d 0 = 0xFFF →
        descGrid desc = descGrid (s.rxDesc d 0) → s.descMatches d desc = true → m.heard = false →
        Completes (.bellHelloRx d m desc) s fun t => t.get (.bell .discState) d 0 = discHeard ∧
          t.get (.bell .partner) d 0 = m.sender ∧ t.get (.bell .descOk) d 0 = 1) ∧
      (s.flag (.bell .discRun) d 0 = true → s.get (.bell .expNode) d 0 = 0xFFF →
        descGrid desc = descGrid (s.rxDesc d 0) → s.descMatches d desc = true → m.heard = true →
        m.dest = s.get (.ao .nodeId) 0 0 → m.destCarrier = d → Completes (.bellHelloRx d m desc) s fun t =>
          t.get (.bell .discState) d 0 = discDone ∧ t.get (.bell .peerValid) d 0 = 1 ∧
            t.get (.bell .discRun) d 0 = 0)))

/-- R368, R371 to R377, R380: reference monitors, XO_HOLD and the DPLLs. R381: the pulse outputs start on their
targets and slew toward them. -/
def Obligations.References : Prop :=
  (∀ (s : State) (r x : Nat) (off : Int), s.clkOn = true →
    (s.refMonitored r = true → Completes (.refMonitorUpdate r off) s fun t => t.refOffset r = satS 32 off ∧
      t.get (.clk .refLos) 0 r = 0 ∧
      t.flag (.clk .soft) 0 r = decide (100 * s.get (.clk .softPpb) 0 r < (satS 32 off).natAbs)) ∧
    (s.refMonitored r = true → s.get (.clk .qstate) 0 r = refQualified → s.get (.clk .persist) 0 r = 1 →
      s.get (.clk .suspects) 0 0 = 0 → s.refsOk.length ≤ 1 →
      100 * s.get (.clk .hardPpb) 0 r < (satS 32 off).natAbs → Completes (.refMonitorUpdate r off) s fun t =>
        t.get (.clk .qstate) 0 r = refDisqualified ∧ t.get (.clk .cause) 0 r = causeHard ∧
          t.flag (.sticky .clkRefDisq) 0 0 = true) ∧
    (s.flag (.clk .monEn) 0 r = true → s.get (.clk .qstate) 0 r = refQualified → Completes (.refLos r) s fun t =>
      t.get (.clk .refLos) 0 r = 1 ∧ t.get (.clk .qstate) 0 r = refDisqualified ∧ t.get (.clk .cause) 0 r = causeLos ∧
        t.get (.clk .nDisq) 0 r = (s.get (.clk .nDisq) 0 r + 1) % Counter.size ∧
        t.flag (.sticky .clkRefDisq) 0 0 = true) ∧
    (s.flag (.clk .monEn) 0 r = true → s.get (.clk .qstate) 0 r = refWtr → Completes (.refLos r) s fun t =>
      t.get (.clk .qstate) 0 r = refDisqualified ∧
        t.get (.clk .nWtrRestart) 0 0 = (s.get (.clk .nWtrRestart) 0 0 + 1) % Counter.size) ∧
    (s.get (.clk .qstate) 0 r = refWtr → Completes (.refWtrExpiry r) s fun t =>
      t.get (.clk .qstate) 0 r = refQualified ∧ t.get (.clk .wtrEnd) 0 r = 0) ∧
    (Completes .xoLoss s fun t => t.get (.clk .xoOk) 0 0 = 0 ∧ t.flag (.live .clkXoLoss) 0 0 = true) ∧
    (Completes .xoHoldRecovered s fun t => t.get (.clk .xoOk) 0 0 = 1 ∧ t.flag (.live .clkXoLoss) 0 0 = false) ∧
    (s.dpll x = dpllAcquiring → Completes (.dpllLock x) s fun t => t.dpll x = dpllLocked) ∧
    (s.dpll x = dpllLocked → Completes (.holdoverHistoryValid x) s fun t => t.get (.clk .histValid) 0 x = 1) ∧
    (s.dpll x = dpllSwitching → x < 2 → s.dpllChoice x = s.get (.clk .selected) 0 x →
      s.get (.clk .selected) 0 x ≠ 15 → s.get (.clk .selected) 0 x ≠ 14 → s.get (.clk .dpllMode) 0 x ≠ 0 →
      Completes (.dpllPullEnd x) s fun t => t.dpll x = dpllAcquiring ∧ t.get (.clk .phase) 0 x = 0)) ∧
  (∀ (s : State) (p : Nat), s.clkOn = true → p < 5 →
    (s.flag (.clk .ppsEn) 0 p = false → s.ppsValid p = true → Completes (.ppsEnable p) s fun t =>
      t.get (.clk .ppsEn) 0 p = 1 ∧ t.get (.clk .ppsRun) 0 p = 1 ∧ t.getI (.clk .ppsErr8) 0 p = 0 ∧
        t.get (.clk .ppsFirst) 0 p =
          ppsTarget p (s.getI (.clk .ppsOfs) 0 p) (s.tbNow (s.get (.clk .ppsTb) 0 p))) ∧
    (s.flag (.clk .ppsEn) 0 p = false → s.ppsValid p = false → Completes (.ppsEnable p) s fun t =>
      t.get (.clk .ppsEn) 0 p = 1 ∧ t.get (.clk .ppsRun) 0 p = 0) ∧
    (s.flag (.clk .ppsEn) 0 p = true → s.ppsValid p = true → s.flag (.clk .ppsRun) 0 p = true →
      Completes (.ppsEdge p) s fun t => t.getI (.clk .ppsErr8) 0 p =
        dec (enc (ppsSlewed p (s.get (.clk .ppsSlewLim) 0 p) (s.getI (.clk .ppsErr8) 0 p)))))

/-- R385 to R387: sets, steps and servos of the time bases. R397, R398: arming, firing and disarming a trigger unit. -/
def Obligations.TimeBasesAndTriggers : Prop :=
  (∀ (s : State) (b i : Nat) (theta : Int), s.clkOn = true → b < 4 →
    (s.get (.tim .setNs) 0 b < 1000000000 → Completes (.tbSet b) s fun t =>
      t.get (.tim .tbSec) 0 b = (s.get (.tim .setSecHi) 0 b * 2 ^ 32 + s.get (.tim .setSecLo) 0 b) % 2 ^ 48 ∧
        t.get (.tim .tbNs) 0 b = s.get (.tim .setNs) 0 b ∧ t.get (.tim .tbFrac) 0 b = 0 ∧
        t.get (.tim .tbValid) 0 b = 1 ∧ t.flag (.sticky .timTbStep) 0 0 = true ∧
        t.get (.tim .nStep) 0 b = (s.get (.tim .nStep) 0 b + 1) % Counter.size) ∧
    (s.tbSt b = tbFree → Completes (.tbServoSample b theta) s fun t =>
      t.get (.tim .nSamples) 0 b = s.get (.tim .nSamples) 0 b ∧ t.tbNow b = s.tbNow b) ∧
    (s.tbSt b = tbLocked → s.tbFar b theta = true → Completes (.tbServoSample b theta) s fun t =>
      t.get (.tim .nOutlier) 0 b = (s.get (.tim .nOutlier) 0 b + 1) % Counter.size ∧
        t.get (.tim .nSamples) 0 b = s.get (.tim .nSamples) 0 b ∧
        t.tbSt b = if s.get (.tim .outRun) 0 b = 7 then tbAcquire else tbLocked) ∧
    (s.tbSt b = tbLocked → s.tbFar b theta = false → Completes (.tbServoSample b theta) s fun t =>
      t.get (.tim .nSamples) 0 b = (s.get (.tim .nSamples) 0 b + 1) % Counter.size ∧ t.get (.tim .outRun) 0 b = 0 ∧
        t.get (.tim .tbOffset) 0 b = enc (satS 32 theta) % 2 ^ 32 ∧ t.tbSt b = tbLocked) ∧
    (s.tbSt b = tbAcquire → s.tbFar b theta = true → s.flag (.tim .stepEn) 0 b = true →
      Completes (.tbServoSample b theta) s fun t => t.get (.tim .tbValid) 0 b = 1 ∧
        t.flag (.sticky .timTbStep) 0 0 = true ∧ t.tbSt b = tbAcquire ∧ t.get (.tim .lockRun) 0 b = 0 ∧
        t.tbNow b = ((s.tbNow b : Int) - theta).toNat / 1000000000 % 2 ^ 48 * 1000000000 +
          ((s.tbNow b : Int) - theta).toNat % 1000000000) ∧
    (s.tbSt b = tbAcquire → s.tbFar b theta = false → theta.natAbs ≤ s.get (.tim .lockNs) 0 b →
      s.get (.tim .lockRun) 0 b = 7 → Completes (.tbServoSample b theta) s fun t => t.tbSt b = tbLocked) ∧
    (s.tbSt b = tbLocked → Completes (.tbSampleTimeout b) s fun t => t.tbSt b = tbHold ∧
      t.flag (.live .timTbHold) 0 0 = true) ∧
    (i < 2 → s.flag (.clk .refLos) 0 (4 + i) = false → s.get (.tim .src) 0 b = 2 + i → s.tbSt b = tbLocked →
      s.tbFar b (ppsTheta (s.get (.tim .tbNs) 0 b) (s.getI (.tim .ppsDelay) 0 b)) = false →
      Completes (.ppsinEdge i) s fun t =>
        t.get (.tim .nSamples) 0 b = (s.get (.tim .nSamples) 0 b + 1) % Counter.size) ∧
    (s.get (.tim .src) 0 b = 4 → s.tbSt b = tbLocked → s.tbFar b (s.getI (.tim .hostofs) 0 b) = false →
      Completes (.tbHostApply b) s fun t =>
        t.get (.tim .nSamples) 0 b = (s.get (.tim .nSamples) 0 b + 1) % Counter.size)) ∧
  (∀ (s : State) (u : Nat), s.clkOn = true →
    (s.trigMayArm u = true → s.get (.tim .trigMode) 0 u = 1 → s.trigNow u < s.trigTarget u →
      Completes (.triggerArm u) s fun t => t.get (.tim .trigArmed) 0 u = 1 ∧
        t.get (.tim .trigTgt) 0 u = s.trigTarget u ∧
        t.get (.tim .trigHeld) 0 u = (decide (s.trigNow u + 549000000000 < s.trigTarget u)).toNat) ∧
    (s.trigMayArm u = true → s.get (.tim .trigMode) 0 u = 1 → s.trigTarget u ≤ s.trigNow u →
      Completes (.triggerArm u) s fun t => t.get (.tim .trigArmed) 0 u = 0 ∧
        t.flag (.sticky .timTrigLate) 0 0 = true ∧
        t.get (.tim .nTrigLate) 0 0 = (s.get (.tim .nTrigLate) 0 0 + 1) % Counter.size) ∧
    (s.trigMayArm u = false → Completes (.triggerArm u) s fun t =>
      t.get (.tim .trigArmed) 0 u = s.get (.tim .trigArmed) 0 u) ∧
    (Completes (.triggerDisarm u) s fun t => t.get (.tim .trigArmed) 0 u = 0 ∧ t.get (.tim .trigHeld) 0 u = 0) ∧
    (s.trigMet u = true → s.get (.tim .trigMode) 0 u = 1 → Completes (.triggerFire u) s fun t =>
      t.get (.tim .trigArmed) 0 u = 0 ∧
        t.get (.tim .nTrigFired) 0 u = (s.get (.tim .nTrigFired) 0 u + 1) % Counter.size) ∧
    (s.trigMet u = true → s.get (.tim .trigMode) 0 u = 2 →
      s.trigNow u < s.get (.tim .trigTgt) 0 u + s.get (.tim .trigPeriod) 0 u → Completes (.triggerFire u) s fun t =>
        t.flag (.tim .trigArmed) 0 u = true ∧
          t.get (.tim .trigTgt) 0 u = s.get (.tim .trigTgt) 0 u + s.get (.tim .trigPeriod) 0 u) ∧
    (s.flag (.tim .trigHeld) 0 u = true → s.trigNow u < s.get (.tim .trigTgt) 0 u →
      s.get (.tim .trigTgt) 0 u ≤ s.trigNow u + 500000000000 → Completes (.triggerHeldLoad u) s fun t =>
        t.get (.tim .trigHeld) 0 u = 0 ∧ t.get (.tim .trigArmed) 0 u = 1))

/-- R388 to R391: time messages and the synchronisation status on a carrier. -/
def Obligations.TimeMessages : Prop :=
  ∀ (s : State) (d b t1 ql : Nat) (m : PtpMsg), s.clkOn = true → s.osmcOn d = true → b < 4 →
    (s.osmcKeyed d = true → s.osmcRole d b = 1 → Completes (.ptpSyncTimer d b) s fun t =>
      t.get (.tim .ptpTxT1) d b = 10 * s.tbNow b + s.txLat d ∧
        t.get (.tim .ptpTxSeq) d b = if s.get (.tim .ptpTxSeq) d b = 0 then 1 else s.get (.tim .ptpTxSeq) d b % 65536 + 1) ∧
    (s.osmcKeyed d = true → s.osmcRole d b = 2 → Completes (.ptpSyncTimer d b) s fun t =>
      t.get (.tim .ptpT3) d b = 10 * s.tbNow b + s.txLat d) ∧
    (s.osmcFor d m.domain 2 = some b →
      (osmcPass m (s.get (.tim .ptpSyncSeq) d b) = true → Completes (.ptpSyncRx d m) s fun t =>
        t.get (.tim .ptpT2) d b = 10 * s.tbNow b - s.rxLat d ∧ t.get (.tim .ptpSyncSeq) d b = m.seq + 1 ∧
          t.get (.tim .ptpHaveSync) d b = 0) ∧
      (osmcPass m (s.get (.tim .ptpSyncSeq) d b) = false → Completes (.ptpSyncRx d m) s fun t =>
        t.get (.tim .nOsmcDisc) 0 0 = (s.get (.tim .nOsmcDisc) 0 0 + 1) % Counter.size) ∧
      (m.tagOk = true → m.malformed = false → s.get (.tim .ptpSyncSeq) d b = m.seq + 1 →
        s.flag (.tim .ptpHaveSync) d b = false → Completes (.ptpFollowUpRx d m t1) s fun t =>
          t.get (.tim .ptpT1) d b = t1 ∧ t.get (.tim .ptpHaveSync) d b = 1) ∧
      (m.tagOk = true → m.malformed = false → s.get (.tim .ptpReqSeq) d b = m.seq + 1 →
        s.get (.tim .ptpT3) d b ≠ 0 → Completes (.ptpDelayRespRx d m t1) s fun t => t.get (.tim .ptpT4) d b = t1 ∧
          t.get (.tim .ptpPairT3) d b = s.get (.tim .ptpT3) d b ∧ t.get (.tim .ptpHaveReq) d b = 1)) ∧
    (s.osmcFor d m.domain 1 = some b → osmcPass m (s.get (.tim .ptpReqRxSeq) d b) = true →
      Completes (.ptpDelayReqRx d m) s fun t => t.get (.tim .ptpReqRxSeq) d b = m.seq + 1 ∧
        (s.osmcKeyed d = true → t.get (.tim .ptpTxT4) d b = 10 * s.tbNow b - s.rxLat d)) ∧
    (s.osmcFor d m.domain 1 = none → s.osmcFor d m.domain 2 = none →
      (Completes (.ptpDelayReqRx d m) s fun t =>
        t.get (.tim .nOsmcDisc) 0 0 = (s.get (.tim .nOsmcDisc) 0 0 + 1) % Counter.size) ∧
      (Completes (.ptpFollowUpRx d m t1) s fun t =>
        t.get (.tim .nOsmcDisc) 0 0 = (s.get (.tim .nOsmcDisc) 0 0 + 1) % Counter.size)) ∧
    (Completes (.ssmTx d) s fun t => t.get (.tim .ssmTx) d 0 = s.ssmQl d + 1) ∧
    (Completes (.ssmRx d ql) s fun t => t.get (.tim .rxQl) d 0 = 16 + ql)

/-- R403 to R405, R408: a monitor conversion, the end of a lap, and the synchronising reset of the filter units.
R410, R411: the system calibration pauses the sequencers of the named slots, installs what passes and rejects the
rest. R419 to R422: slice measurements, the temperature sets, and the foreground calibration. -/
def Obligations.MonitorsAndCalibration : Prop :=
  (∀ (s : State) (d f i : Nat) (v : Int), s.lantern d = true →
    (s.get (.mon .seqState) d 0 = seqRun → s.get (.mon .seqPos) d 0 < s.get (.mon .seqLen) d 0 → v < -32768 ∨ 32767 < v →
      Completes (.monConversion d v) s fun t =>
        t.get (.mon .chCode) d (s.seqCh d (s.get (.mon .seqPos) d 0)) = (if v < 0 then 32768 else 32767) ∧
          t.get (.mon .chTag) d (s.seqCh d (s.get (.mon .seqPos) d 0)) =
            1 + (if s.get (.mon .settle) d 0 = 0 then 0 else 2) ∧
          t.get (.mon .settle) d 0 = 2 ∧
          t.flag (.live .monOvr) d (s.seqCh d (s.get (.mon .seqPos) d 0)) = true ∧
          t.get (.mon .nOvr) d 0 = (s.get (.mon .nOvr) d 0 + 1) % Counter.size) ∧
    (s.get (.mon .seqState) d 0 = seqRun → s.get (.mon .seqPos) d 0 < s.get (.mon .seqLen) d 0 → -32768 ≤ v → v ≤ 32767 →
      Completes (.monConversion d v) s fun t =>
        t.get (.mon .chCode) d (s.seqCh d (s.get (.mon .seqPos) d 0)) = (v % 65536).toNat ∧
          t.get (.mon .chSeq) d (s.seqCh d (s.get (.mon .seqPos) d 0)) =
            (s.get (.mon .chSeq) d (s.seqCh d (s.get (.mon .seqPos) d 0)) + 1) % 2 ^ 14 ∧
          t.get (.mon .chTag) d (s.seqCh d (s.get (.mon .seqPos) d 0)) = (if s.get (.mon .settle) d 0 = 0 then 0 else 2) ∧
          t.get (.mon .settle) d 0 = s.get (.mon .settle) d 0 - 1 ∧
          t.flag (.live .monOvr) d (s.seqCh d (s.get (.mon .seqPos) d 0)) = false ∧
          t.get (.mon .nConv) d 0 = (s.get (.mon .nConv) d 0 + 1) % Counter.size ∧
          (t.get (.mon .seqPos) d 0, t.get (.mon .seqRep) d 0) =
            (if s.get (.mon .seqRep) d 0 + 1 < s.seqRepeat d (s.get (.mon .seqPos) d 0) then
              (s.get (.mon .seqPos) d 0, s.get (.mon .seqRep) d 0 + 1)
            else (s.get (.mon .seqPos) d 0 + 1, 0))) ∧
    (s.get (.mon .seqState) d 0 = seqRun → s.get (.mon .seqLen) d 0 ≤ s.get (.mon .seqPos) d 0 → Completes (.monLapEnd d) s fun t =>
      t.get (.mon .seqPos) d 0 = 0 ∧ t.get (.mon .seqRep) d 0 = 0 ∧
        t.get (.mon .seqState) d 0 = (if s.seqOn d then seqRun else seqStopped)) ∧
    (f < 4 → i < 5 → bit (s.get (.mon .syncMask) d 0) f = true → Completes (.filterSync d) s fun t =>
      t.get (.mon .fAcc) d (8 * f + i) = 0 ∧ t.get (.mon .fDel) d (8 * f + i) = 0 ∧ t.get (.mon .fPhase) d f = 0 ∧
        t.get (.mon .fOuts) d f = 0 ∧ t.get (.mon .fValid) d f = 0)) ∧
  (∀ (s : State) (d : Nat) (m : SysMeas), s.lantern 0 = true →
    (s.flag (.cal .sysBusy) 0 0 = false → bit (s.get (.cal .slotMask) 0 0) d = true → s.present d = true → d < 8 →
      Completes .syscalStart s fun t => t.get (.cal .sysBusy) 0 0 = 1 ∧
        t.get (.cal .sysMask) 0 0 = s.get (.cal .slotMask) 0 0 ∧ t.get (.mon .seqState) d 0 = seqPause) ∧
    (s.flag (.cal .sysBusy) 0 0 = true → bit (s.get (.cal .sysMask) 0 0) m.slot = true → s.present m.slot = true →
      s.sysResult m = 1 → Completes (.syscalDone [m]) s fun t =>
        t.get (.cal .sysBusy) 0 0 = 0 ∧ t.get (.cal .sysMask) 0 0 = 0 ∧ t.get (.cal .sysResult) m.slot 0 = 1 ∧
          t.get (.cal .sysValid) m.slot 0 = 1 ∧
          t.get (.cal .sysOfs) m.slot 0 = enc (roundDivS (16 * (m.zero1 + m.zero2))
            (2 * 2 ^ s.get (.cal .navgLog2) 0 0)) % 2 ^ 32 ∧
          t.get (.cal .nSysCount) 0 0 = (s.get (.cal .nSysCount) 0 0 + 1) % Counter.size) ∧
    (s.flag (.cal .sysBusy) 0 0 = true → bit (s.get (.cal .sysMask) 0 0) m.slot = true → s.present m.slot = true →
      s.sysResult m ≠ 1 → Completes (.syscalDone [m]) s fun t =>
        t.get (.cal .sysBusy) 0 0 = 0 ∧ t.get (.cal .sysResult) m.slot 0 = s.sysResult m ∧
          t.get (.cal .sysGain) m.slot 0 = s.get (.cal .sysGain) m.slot 0 ∧
          t.get (.cal .sysValid) m.slot 0 = s.get (.cal .sysValid) m.slot 0 ∧
          t.get (.cal .nSysReject) 0 0 = (s.get (.cal .nSysReject) 0 0 + 1) % Counter.size ∧
          t.flag (.sticky .calSyscalFail) 0 0 = true)) ∧
  (∀ (s : State) (d v : Nat) (a b m : SliceRead) (tp : Int) (waited : Bool) (meas : List SliceCal), s.lantern d = true →
    d < 8 → v < 8 →
    (s.up d = true → s.flag (.cal .bgRun) d 0 = true → bit (s.get (.cal .bgEn) d 0) v = true →
      bit (s.get (.cal .sparePerm) d 0) v = false → s.readsAgree d a b = true →
      Completes (.convSliceMeasure d v a b m) s fun t =>
        t.get (.cal .convPos) d v = (s.get (.cal .convPos) d v + 1) % 128 ∧
          t.get (.cal .roundPct) d 0 = (s.get (.cal .convPos) d v + 1) % 128 * 100 / 128 ∧
          t.get (.cal .rejRun) d (v * 129 + s.get (.cal .convPos) d v) = 0 ∧ t.get (.cal .stale) d 0 = 0 ∧
          t.get (.cal .nConvCount) d 0 = (s.get (.cal .nConvCount) d 0 + 1) % Counter.size) ∧
    (s.up d = true → s.flag (.cal .bgRun) d 0 = true → bit (s.get (.cal .bgEn) d 0) v = true →
      bit (s.get (.cal .sparePerm) d 0) v = false → s.readsAgree d a b = false →
      s.get (.cal .rejRun) d (v * 129 + s.get (.cal .convPos) d v) ≠ 2 →
      Completes (.convSliceMeasure d v a b m) s fun t =>
        t.get (.cal .nConvReject) d 0 = (s.get (.cal .nConvReject) d 0 + 1) % Counter.size ∧
          t.get (.cal .rejRun) d (v * 129 + s.get (.cal .convPos) d v) =
            s.get (.cal .rejRun) d (v * 129 + s.get (.cal .convPos) d v) + 1 ∧
          t.flag (.sticky .calConvReject) 0 0 = true) ∧
    (s.up d = true → s.flag (.cal .bgRun) d 0 = true → bit (s.get (.cal .bgEn) d 0) v = true →
      bit (s.get (.cal .sparePerm) d 0) v = false → s.readsAgree d a b = false →
      s.get (.cal .rejRun) d (v * 129 + s.get (.cal .convPos) d v) = 2 →
      Completes (.convSliceMeasure d v a b m) s fun t =>
        bit (t.get (.cal .sparePerm) d 0) v = true ∧ t.get (.cal .spareFor) d v = s.get (.cal .convPos) d v + 1 ∧
          t.flag (.live .calConvNoSpare) 0 0 = true ∧ t.get (.cal .convFailed) d 0 = s.get (.cal .convFailed) d 0) ∧
    (s.up d = true → tp ≠ s.getI (.cal .temp) d 0 → Completes (.convTempUpdate d tp) s fun t => t.getI (.cal .temp) d 0 = tp) ∧
    (s.convCalled d = true → s.get (.boot .procId) 0 0 = 5 → s.inRun = true → s.flag (.lt .txEn) d 0 = true →
      Completes (.calConverters d waited meas) s fun t => t.get (.cal .bgRun) d 0 = 1 ∧ t.get (.cal .convPos) d v = 0 ∧
        t.get (.cal .coef) d v = s.get (.cal .coef) d v ∧ t.get (.boot .procCode) 0 0 = 0 ∧
        t.get (.boot .procDone) 0 0 = 1) ∧
    (s.convCalled d = true → s.get (.boot .procId) 0 0 = 5 → s.inRun = false → s.flag (.cal .sysValid) d 0 = true →
      s.flag (.cal .sysBusy) 0 0 = false → s.flag (.lt .txEn) d 0 = false → s.flag (.lr .rxEn) d 0 = false →
      (meas.all fun c => decide (c.rejects = 0)) = true →
      Completes (.calConverters d waited meas) s fun t => t.get (.cal .convFailed) d 0 = 0 ∧ t.get (.cal .convValid) d 0 = 1 ∧
        t.get (.cal .bgRun) d 0 = 1 ∧ t.get (.boot .procCode) 0 0 = 0) ∧
    (s.convCalled d = true → s.get (.boot .procId) 0 0 = 5 → s.inRun = false → s.flag (.cal .sysValid) d 0 = false →
      s.flag (.cal .sysBusy) 0 0 = false → Completes (.calConverters d waited meas) s fun t =>
        t.get (.boot .procCode) 0 0 = 1 ∧ t.get (.cal .convValid) d 0 = s.get (.cal .convValid) d 0))

/-- R412 to R418: the modulator bias loops. -/
def Obligations.BiasLoops : Prop :=
  ∀ (s : State) (d k : Nat) (e : Int) (r : BiasRun) (found : Option Int), s.lantern d = true → k < 6 → d < 8 →
    (s.biasCalled d = true → s.get (.boot .procId) 0 0 = 6 → s.flag (.bias .biasEn) d 0 = true → s.flag (.bias .started) d 0 = false →
      s.flag (.cal .sysValid) d 0 = false → Completes (.biasStart d r) s fun t =>
        t.get (.boot .procCode) 0 0 = 6 ∧ t.flag (.bias .started) d 0 = false ∧ t.flag (.sticky .biasStartFail) d 0 = true) ∧
    (s.biasCalled d = true → s.get (.boot .procId) 0 0 = 6 → s.flag (.bias .started) d 0 = false → s.flag (.cal .sysValid) d 0 = true → s.lasReady d = true →
      r.light = true → s.hvGood = true → s.biasConfigOk d = false → Completes (.biasStart d r) s fun t =>
        t.get (.boot .procCode) 0 0 = 3 ∧ t.flag (.bias .started) d 0 = false) ∧
    (s.flag (.bias .biasEn) d 0 = true → s.flag (.bias .biasSrc) d 0 = false → r.crcOk = false →
      Completes (.biasRestart d r) s fun t =>
        t.flag (.bias .started) d 0 = true ∧ t.get (.bias .vpiMv) d k = 3000 ∧ t.flag (.live .biasCalFail) d 0 = true ∧
          t.get (.bias .restartReq) d 0 = 0) ∧
    (s.biasOn d = true → Completes (.biasLockinOutput d k e true found) s fun t =>
      t.get (.bias .nTaint) d 0 = (s.get (.bias .nTaint) d 0 + 1) % Counter.size ∧
        t.getI (.bias .ptV) d k = s.getI (.bias .ptV) d k ∧ t.get (.bias .ptState) d k = s.get (.bias .ptState) d k) ∧
    (s.biasOn d = true → s.get (.bias .ptState) d k = ptLocked → s.flag (.bias .ptFirst) d k = false →
      s.flag (.bias .wrapAuto) d 0 = false → s.keying d = false → s.flag (.bias .light) d 0 = true →
      s.flag (.bias .hvClamp) d 0 = false → s.flag (.bias .ptFault) d k = false →
      Completes (.biasLockinOutput d k e false found) s fun t =>
        t.getI (.bias .ptV) d k = max (-65536000) (min 65536000 (s.getI (.bias .ptV) d k +
          (if s.flag (.bias .pol) d k then -(s.get (.bias .ptKi) d k * e) else s.get (.bias .ptKi) d k * e))) ∧
        t.get (.bias .lastE) d k = enc (satS 16 e) % 2 ^ 16) ∧
    (s.biasOn d = true → s.get (.bias .ptState) d k = ptLocked → s.get (.bias .ptBase) d k = ptLocked →
      s.flag (.bias .ptFirst) d k = false →
      s.flag (.bias .wrapAuto) d 0 = false → s.keying d = false → s.flag (.bias .light) d 0 = true →
      s.flag (.bias .hvClamp) d 0 = false → s.flag (.bias .ptFault) d k = false →
      4 * s.get (.bias .lockThr) d k < e.natAbs → 15 ≤ s.get (.bias .ptUnlRun) d k →
      Completes (.biasLockinOutput d k e false found) s fun t =>
        t.get (.bias .ptState) d k = ptUnlocked ∧ t.flag (.bias .biasLock) d 0 = (ptPhase k && t.flag (.bias .biasLock) d 0)) ∧
    (s.get (.bias .ptState) d k = ptWrap → s.biasOn d = true → s.keying d = false → s.flag (.bias .light) d 0 = true →
      s.flag (.bias .hvClamp) d 0 = false → s.flag (.bias .ptFault) d k = false →
      Completes (.biasWrapDone d k) s fun t => t.get (.bias .ptV) d k = s.get (.bias .ptWrapTo) d k ∧
        t.get (.bias .ptState) d k = ptUnlocked) ∧
    (s.biasOn d = true → Completes (.biasOutputFault d k) s fun t => t.get (.bias .ptFault) d k = 1 ∧
      t.get (.bias .ptState) d k = ptFaulty ∧ t.flag (.live .biasOutFault) d 0 = true ∧
      t.flag (.bias .biasLock) d 0 = false) ∧
    (s.flag (.bias .ptAcq) d k = true → Completes (.biasPhaseAcqTimeout d k) s fun t => t.get (.bias .ptAcq) d k = 0) ∧
    (s.biasOn d = true → s.get (.bias .ptState) d k = ptLocked →
      (s.get (.bias .wrapMv) d 0 - 1000) * 4096 < (s.getI (.bias .ptV) d k).natAbs →
      s.keying d = false → s.flag (.bias .light) d 0 = true → s.flag (.bias .hvClamp) d 0 = false →
      s.flag (.bias .ptFault) d k = false → Completes (.biasWrapNow d) s fun t =>
        t.get (.bias .ptState) d k = ptWrap ∧
          t.get (.bias .ptV) d k = s.get (.bias .ptV) d k ∧
          t.getI (.bias .ptWrapTo) d k = (if s.getI (.bias .ptV) d k < 0 then
            s.getI (.bias .ptV) d k + 2 * s.get (.bias .vpiMv) d k * 4096
          else s.getI (.bias .ptV) d k - 2 * s.get (.bias .vpiMv) d k * 4096))

/-- R56, R343, R412, R425, R427: power-good, rail failures and tamper trips. R46, R425, R482, R483: the always-on
supply, the reset pins and the JTAG port. -/
def Obligations.RailsPinsAndTamper : Prop :=
  (∀ (s : State) (d rail sensor still : Nat) (neg : Bool), s.flag (.sys .aoOn) 0 0 = true →
    (s.flag (.sys .railsGood) 0 0 = false → s.present d = true → rail < 9 → Completes .powerGood s fun t =>
      t.flag (.sys .railsGood) 0 0 = true ∧ t.flag (.live (railAlm.getD rail .pgVio)) 0 0 = false ∧
        t.flag (.live .biasUnlock) d 0 = true ∧
        t.get (.boot .step) 0 0 = (if s.flag (.sys .sysRstN) 0 0 then 2 else s.get (.boot .step) 0 0)) ∧
    (rail < 9 → s.flag (.sys .railsGood) 0 0 = true → s.pkgAsleep = false → s.poweredOff = false →
      Completes (.railFail rail false) s fun t => t.poweredOff = true ∧ t.bootState = bootPor ∧ t.get (.boot .step) 0 0 = 1 ∧
        t.get (.sys .dieReleased) 0 0 = 0 ∧ t.flag (.live (railAlm.getD rail .pgVio)) 0 0 = true ∧
        t.get (.ao .nPgFail) 0 0 = (s.get (.ao .nPgFail) 0 0 + 1) % Counter.size) ∧
    (rail < 9 → s.poweredOff = true → s.flag (.ao .tamperDown) 0 0 = false → s.flag (.sys .sysRstN) 0 0 = true →
      Completes .railRecovered s fun t => t.poweredOff = false ∧ t.bootState = bootPor ∧ t.get (.boot .step) 0 0 = 2 ∧
        t.flag (.live (railAlm.getD rail .pgVio)) 0 0 = false ∧
        (s.present d = true → t.flag (.bias .hvClamp) d 0 = false)) ∧
    (Completes (.hvRailFail neg) s fun t => t.flag (.live (if neg then .pgVhvn else .pgVhvp)) 0 0 = true ∧
      (s.present d = true → t.flag (.bias .hvClamp) d 0 = true)) ∧
    (s.flag (.pwr .waitWake) 0 0 = false → Completes .hvRailRecovered s fun t => t.flag (.live .pgVhvp) 0 0 = false ∧
      t.flag (.live .pgVhvn) 0 0 = false ∧ (s.present d = true → t.flag (.bias .hvClamp) d 0 = false)) ∧
    (sensor < 4 → s.flag (.sys .railsGood) 0 0 = true → s.flag (.ao .tamperDown) 0 0 = false →
      Completes (.tamperTrip sensor) s fun t => t.flag (.live (tamperAlm.getD sensor .aoTamperMesh)) 0 0 = true ∧
        t.flag (.ao .tamperDown) 0 0 = true ∧ t.poweredOff = true ∧ t.bootState = bootPor ∧
        t.flag (.sbg .spHas) 0 d = false ∧ t.get (.cry .txKeySms) d sensor = 0 ∧ t.flag (.ao .stuck) 0 0 = decide (s.get (.ao .tamperHoldS) 0 0 = 0)) ∧
    (s.flag (.ao .tamperDown) 0 0 = true → s.poweredOff = true → s.flag (.ao .stuck) 0 0 = false → still % 16 ≠ 0 →
      Completes (.tamperHoldExpiry still) s fun t => t.flag (.ao .stuck) 0 0 = true ∧ t.poweredOff = true) ∧
    (s.flag (.ao .tamperDown) 0 0 = true → s.poweredOff = true → s.flag (.ao .stuck) 0 0 = false → still % 16 = 0 →
      s.flag (.sys .sysRstN) 0 0 = true → Completes (.tamperHoldExpiry still) s fun t =>
        t.poweredOff = false ∧ t.get (.boot .step) 0 0 = 2 ∧ t.flag (.live .aoTamperMesh) 0 0 = false ∧
          t.get (.ao .nTamper) 0 0 = (s.get (.ao .nTamper) 0 0 + 1) % Counter.size)) ∧
  (∀ (s : State) (b c : Bool) (done : List Nat) (captured loaded : List Bool) (i : Nat),
    (s.flag (.sys .aoOn) 0 0 = false → Completes .vddAoApplied s fun t => t.flag (.sys .aoOn) 0 0 = true) ∧
    (s.flag (.sys .aoOn) 0 0 = true → Completes .vddAoLoss s fun t => t.flag (.sys .aoOn) 0 0 = false ∧
      t.flag (.sys .railsGood) 0 0 = false ∧ t.poweredOff = false ∧ t.flag (.ao .tamperDown) 0 0 = false ∧
      t.get (.sys .dieReleased) 0 0 = 0) ∧
    (Completes .sysRstLow s fun t => t.flag (.sys .sysRstN) 0 0 = false ∧ t.bootState = bootPor ∧ t.get (.boot .step) 0 0 = 1 ∧
      t.get (.sys .dieReleased) 0 0 = 0) ∧
    (s.flag (.sys .sysRstN) 0 0 = false → s.flag (.sys .railsGood) 0 0 = true → s.poweredOff = false →
      Completes .sysRstRise s fun t => t.flag (.sys .sysRstN) 0 0 = true ∧ t.bootState = bootPor ∧ t.get (.boot .step) 0 0 = 2 ∧
        t.get (.sys .jtagIr) 0 0 = (if s.get (.sys .jtagIr) 0 0 = 3 then 0 else s.get (.sys .jtagIr) 0 0)) ∧
    (Completes (.perstAssert done) s fun t => t.flag (.sys .perstN) 0 0 = false ∧ t.flag (.sys .pcieUp) 0 0 = false ∧
      t.flag (.sys .busMaster) 0 0 = false ∧ t.flag (.sys .msiEn) 0 0 = false) ∧
    (s.flag (.sys .sysRstN) 0 0 = true → s.released 0 = true → Completes (.perstRelease b c) s fun t =>
      t.flag (.sys .perstN) 0 0 = true ∧ t.flag (.sys .pcieUp) 0 0 = true ∧ t.flag (.sys .busMaster) 0 0 = b ∧
        t.flag (.sys .msiEn) 0 0 = c) ∧
    (s.flag (.sys .sysRstN) 0 0 = false → Completes (.perstRelease b c) s fun t =>
      t.flag (.sys .perstN) 0 0 = true ∧ t.flag (.sys .pcieUp) 0 0 = s.flag (.sys .pcieUp) 0 0) ∧
    (s.flag (.sys .aoOn) 0 0 = true → Completes .jtagBypass s fun t => t.get (.sys .jtagIr) 0 0 = 0) ∧
    (s.flag (.sys .aoOn) 0 0 = true → Completes .jtagIdcode s fun t => t.get (.sys .jtagIr) 0 0 = 1 ∧
      t.readData = [s.get (.id .stepMajor) 0 0 * 2 ^ 28 + s.get (.id .deviceId) 0 0 * 2 ^ 12 + 0x74B]) ∧
    (s.flag (.sys .aoOn) 0 0 = true → Completes (.jtagSamplePreload captured loaded) s fun t =>
      t.readData = captured.map Bool.toNat ∧ t.get (.sys .jtagIr) 0 0 = 2 ∧
        (i < loaded.length → t.flag (.sys .jtagBr) 0 i = loaded.getD i false)) ∧
    (s.flag (.sys .aoOn) 0 0 = true → Completes .jtagExtest s fun t =>
      t.get (.sys .jtagIr) 0 0 = (if s.flag (.sys .sysRstN) 0 0 then 0 else 3)))

/-- R429, R432: the shutdown stages and what they leave. R433, R434: the wake sources, by the stage in which they
find the carrier. R430, R432: the end of ISOLATE gates one carrier: its die loses all but what `Cell.keptAsleep`
names (log 33), and no other carrier's state changes. -/
def Obligations.Kickstand : Prop :=
  (∀ (s : State) (d q : Nat), d < 8 →
    (s.up d = true → s.stage d = ksDrain → s.pkgEntry = false → Completes (.ksDrainEnd d) s fun t =>
      t.stage d = ksClocksOff ∧ bit (t.get (.lt .sysCause) d 0) 1 = true ∧
        (q ∈ s.queuesOf d → t.ring d q = [])) ∧
    (s.present d = true → s.stage d = ksClocksOff → s.pkgEntry = false → Completes (.ksStageComplete d) s fun t =>
      t.stage d = ksIsolate ∧ t.chainState d 0 = 0 ∧ t.chainState d 1 = 0) ∧
    (s.present d = true → s.stage d = ksIsolate → s.pkgEntry = false → s.flag (.pwr .lateWake) d 0 = false →
      Completes (.ksStageComplete d) s fun t => t.stage d = ksGated ∧ t.released d = false ∧
        t.get (.pwr .nKsEnter) 0 0 = (s.get (.pwr .nKsEnter) 0 0 + 1) % Counter.size) ∧
    (s.present 0 = true → s.stage 0 = ksIsolate → s.pkgEntry = true → s.flag (.pwr .lateWake) 0 0 = false → s.present d = true →
      Completes (.ksStageComplete 0) s fun t => t.pkgAsleep = true ∧ t.bootState = bootKickstand ∧ t.stage d = ksGated ∧
        t.released d = false ∧ t.get (.tim .aoSec) 0 0 = s.get (.tim .tbSec) 0 0 ∧
        t.get (.tim .aoNs) 0 0 = s.get (.tim .tbNs) 0 0) ∧
    (s.up d = true → s.stage d = ksWaking → Completes (.ksWakeComplete d) s fun t => t.stage d = ksAwake)) ∧
  (∀ (s : State) (d src : Nat), d < 8 → s.lantern d = true → s.pkgEntry = false → 2 ≤ src → src ≤ 4 →
    (s.stage d = ksGated → bit (s.get (.pwr .wakeEn) d 0) (src - 1) = true → s.flag (.pwr .lateWake) d 0 = false →
      Completes (.ksWakeSource d src) s fun t => t.stage d = ksWaking ∧ t.released d = true ∧ t.get (.pwr .wakeEn) d 0 = 0 ∧
        t.get (.ao .wakeSource) 0 0 = src ∧
        t.get (.pwr .nWake) 0 (src - 1) = (s.get (.pwr .nWake) 0 (src - 1) + 1) % Counter.size) ∧
    (s.stage d = ksIsolate → bit (s.get (.pwr .wakeEn) d 0) (src - 1) = true → s.flag (.pwr .lateWake) d 0 = false →
      Completes (.ksWakeSource d src) s fun t => t.stage d = ksIsolate ∧ t.get (.pwr .lateWake) d 0 = src ∧
        t.get (.pwr .nKsLateWake) 0 0 = (s.get (.pwr .nKsLateWake) 0 0 + 1) % Counter.size) ∧
    (s.stage d = ksDrain ∨ s.stage d = ksClocksOff → bit (s.get (.pwr .wakeEn) d 0) (src - 1) = true →
      s.flag (.pwr .lateWake) d 0 = false → Completes (.ksWakeSource d src) s fun t =>
        t.stage d = ksAwake ∧ t.get (.ao .wakeSource) 0 0 = src ∧
          t.get (.pwr .nKsReverse) 0 0 = (s.get (.pwr .nKsReverse) 0 0 + 1) % Counter.size) ∧
    (s.stage d = ksWaking ∨ (s.stage d ≠ ksAwake ∧ bit (s.get (.pwr .wakeEn) d 0) (src - 1) = false) →
      Completes (.ksWakeSource d src) s fun t => t.stage d = s.stage d ∧
        t.get (.pwr .nWakeIgnored) 0 0 = (s.get (.pwr .nWakeIgnored) 0 0 + 1) % Counter.size) ∧
    (s.stage d = ksGated → bit (s.get (.pwr .wakeEn) d 0) 1 = true → s.flag (.pwr .lateWake) d 0 = false →
      s.get (.pwr .wakeGroup) d 0 = 2 ^ d → Completes (.ksWakeTimer d) s fun t => t.stage d = ksWaking ∧
        t.get (.ao .wakeSource) 0 0 = 2) ∧
    (s.stage d = ksGated → bit (s.get (.pwr .wakeEn) d 0) 2 = true → s.flag (.pwr .lateWake) d 0 = false →
      s.flag (.sys .sysRstN) 0 0 = true → s.present 0 = true → Completes .wakeNLow s fun t => t.stage d = ksWaking ∧
        t.get (.ao .wakeSource) 0 0 = 3)) ∧
  (∀ (s : State) (d : Nat), s.present d = true → s.stage d = ksIsolate → s.pkgEntry = false → s.flag (.pwr .lateWake) d 0 = false →
    Completes (.ksStageComplete d) s fun t => t.stage d = ksGated ∧
      t.get (.pwr .nKsEnter) 0 0 = (s.get (.pwr .nKsEnter) 0 0 + 1) % Counter.size ∧
      ∀ k : Key, k.cell.summary = false → k.cell ≠ .pwr .stage → k.cell ≠ .pwr .nKsEnter → k.cell ≠ .sys .dieReleased →
        (k.die ≠ d ∨ k.cell.onDie = false ∧ (∀ b, k.cell ≠ .bias b) → t.getK k = s.getK k) ∧
        (k.die = d → k.cell.onDie = true → k.cell.keptAsleep = false → t.getK k = k.reset) ∧
        (k.die = d → k.cell.onDie = true → k.cell.keptAsleep = true → t.getK k = s.getK k))

/-- R437, R441 to R443, R447, R449 to R452: alarms, the log, FAR_STATUS, level counters and the telemetry rings. -/
def Obligations.AlarmsAndTelemetry : Prop :=
  ∀ (s : State) (d i k addr entry b t0 value : Nat) (a : Alm) (r : Report) (rest : List Report) (m : FarMsg),
    (almBitAt addr entry b = some (a, d, i) → s.blockRuns addr = true → a.inCtn = false → a.inCtx = false → ¬ (Cell.live a).summary = true →
      Completes (.alarmStickySet addr entry b) s fun t =>
        (a.isEvent = true ∨ s.flag (.live a) d i = false → t.flag (.sticky a) d i = true) ∧
          (a.isEvent = false → t.flag (.live a) d i = true)) ∧
    (takeFirst (fun x => decide (x.die = d)) s.reports = some (r, rest) → s.up 0 = true → d = 0 →
      (∀ j ∈ List.range 8, s.telKind j ≠ 1) → Completes (.alarmReportRx d) s fun t =>
        t.get (.alm .logNext) 0 0 = (s.get (.alm .logNext) 0 0 + 1) % 1024 ∧
          t.get (.alm .nLogEntries) 0 0 = (s.get (.alm .nLogEntries) 0 0 + 1) % Counter.size ∧ t.reports = rest ∧
          t.winWordAt .almLog 0 (s.get (.alm .logNext) 0 0) 0 = r.loc) ∧
    (s.spanOn d = some k → s.kchUp d = true → s.flag (.sbg .spHas) 0 k = true → Completes (.farStatusTx d) s fun t =>
      t.get (.alm .farTxSeq) d 0 = (if s.get (.alm .farTxSms) d 0 = 1 + s.spanSms k then
        (s.get (.alm .farTxSeq) d 0 + 1) % 2 ^ 32 else 1) ∧ t.get (.alm .farTxFlags) d 0 = s.farFlags d) ∧
    (s.kchUp d = true → s.farOk d m = true → Completes (.farStatusRx d m) s fun t => t.get (.alm .farFresh) d 0 = 1 ∧
      t.get (.alm .farRxSeq) d 0 = m.seq ∧ t.get (.alm .farSender) d 0 = m.sender % 4096 ∧
      t.get (.alm .farFlags) d 0 = m.flags % 16) ∧
    (s.kchUp d = true → s.farOk d m = false → Completes (.farStatusRx d m) s fun t =>
      t.get (.alm .nMgmtDisc) d 0 = (s.get (.alm .nMgmtDisc) d 0 + 1) % Counter.size ∧
        t.get (.alm .farRxSeq) d 0 = s.get (.alm .farRxSeq) d 0) ∧
    (s.awake d = true → Completes (.farStatusStale d) s fun t => t.get (.alm .farFresh) d 0 = 0) ∧
    (s.awake d = true → bit (s.winWordAt .pcLvl d k 1) 31 = true → s.levelHigh d k = true →
      Completes (.levelCounterTick d k) s fun t =>
        t.get (.pc .nLvl) d k = (s.get (.pc .nLvl) d k + 1) % Counter.size) ∧
    (s.hostBus = true → t0 < 7 → (value + 2 ^ 32 - s.get (.tel .db) 0 t0) % 2 ^ 32 ≤ s.telOpen t0 →
      Completes (.telDoorbellWrite t0 value) s fun t => t.get (.tel .db) 0 t0 = value % 2 ^ 32) ∧
    (s.hostBus = true → t0 < 7 → s.telOpen t0 < (value + 2 ^ 32 - s.get (.tel .db) 0 t0) % 2 ^ 32 →
      Completes (.telDoorbellWrite t0 value) s fun t => t.get (.tel .db) 0 t0 = s.get (.tel .db) 0 t0 ∧ t.telOut = s.telOut ∧
        t.get (.tel .nDbBad) 0 t0 = (s.get (.tel .nDbBad) 0 t0 + 1) % Counter.size) ∧
    (s.inRun = true → s.up 0 = true → s.telKind t0 = 2 → Completes (.telSnapshotTimer t0 true) s fun t =>
      t.get (.tel .nSkip) 0 t0 = (s.get (.tel .nSkip) 0 t0 + 1) % Counter.size) ∧
    (s.inRun = true → s.up 0 = true → s.telKind t0 = 2 → Completes (.telSnapshotTimer t0 false) s fun t =>
      t.get (.tel .snapNo) 0 t0 = (s.get (.tel .snapNo) 0 t0 + 1) % 2 ^ 32)

/-- R458, R459: the CRC scan engine. R461 to R463: the injection units. -/
def Obligations.ScansAndInjection : Prop :=
  ∀ (s : State) (d u k how bytes g : Nat),
    (s.up 0 = true → s.crcSlot = none → Completes .crcSubmit s fun t =>
      t.get (.crc .nReject) 0 0 = (s.get (.crc .nReject) 0 0 + 1) % Counter.size ∧ t.crcJobs = s.crcJobs) ∧
    (s.up 0 = true → s.crcSlot = some k → s.crcJobs = [] → Completes .crcSubmit s fun t => t.crcStatus k = crcRunning ∧
      t.get (.crc .resSlot) 0 0 = k ∧ t.get (.crc .jobsQueued) 0 0 = 1 ∧
      t.get (.crc .jobAddr) 0 k = s.get (.crc .addr) 0 0 ∧ t.get (.crc .jobLen) 0 k = s.get (.crc .len) 0 0) ∧
    (s.up 0 = true → s.crcJobs = [k] → s.crcStatus k = crcRunning → s.jobRange k = true →
      Completes (.crcJobEnd how bytes g) s fun t => t.crcStatus k = 2 ∧ t.get (.crc .resBytes) 0 k = 0 ∧
        t.get (.crc .jobsQueued) 0 0 = 0 ∧ t.get (.crc .nJobs) 0 0 = (s.get (.crc .nJobs) 0 0 + 1) % Counter.size) ∧
    (s.up 0 = true → s.crcJobs = [k] → s.crcStatus k = crcRunning → s.jobRange k = false → s.awake (s.jobDie k) = true →
      s.get (.crc .jobLen) 0 k ≤ 64 →
      Completes (.crcJobEnd 0 bytes g) s fun t => t.crcStatus k = 1 ∧ t.get (.crc .resBytes) 0 k = s.get (.crc .jobLen) 0 k ∧
        t.get (.crc .resResult) 0 k = crcOut (s.jobPoly k) (s.jobCrc k (s.get (.crc .jobLen) 0 k))) ∧
    (s.awake d = true → s.injMayFire d u = true → s.injReady d u = true → Completes (.injFire d u) s fun t =>
      t.flag (.inj .uActive) d u = true ∧ t.get (.inj .uResult) d u = 0 ∧
        t.get (.inj .left) d u = (if s.injCont d u then 0 else bits (s.injParam d u) 0 16)) ∧
    (s.awake d = true → s.injMayFire d u = true → s.injReady d u = false → Completes (.injFire d u) s fun t =>
      t.flag (.inj .uActive) d u = false ∧ t.get (.inj .uResult) d u = 2) ∧
    (s.awake d = true → s.flag (.inj .testEnable) 0 0 = true → s.flag (.inj .uActive) d u = true → s.injCont d u = true →
      Completes (.injStop d u) s fun t => t.flag (.inj .uActive) d u = false ∧ t.get (.inj .uResult) d u = 3) ∧
    (s.awake d = true → s.flag (.inj .uActive) d u = true → s.injCont d u = false → s.get (.inj .left) d u = 1 →
      Completes (.injApply d u) s fun t => t.flag (.inj .uActive) d u = false ∧ t.get (.inj .uResult) d u = 1 ∧
        t.get (.inj .nInj) d u = (s.get (.inj .nInj) d u + 1) % Counter.size ∧ t.flag (.sticky .injInjected) d 0 = true) ∧
    (s.awake d = true → s.flag (.inj .uActive) d u = true → s.injCont d u = true → Completes (.injApply d u) s fun t =>
      t.flag (.inj .uActive) d u = true ∧ t.flag (.sticky .injInjected) d 0 = true)

/-- R57, R70, R71, R467 to R469: what the host and the SPI target read. R384, R409, R446, R458: the reads that latch
or release something, each for its own port. -/
def Obligations.PortReads : Prop :=
  (∀ (s : State) (addr words count code : Nat) (r : Reg) (d i : Nat) (port : APort),
    (s.hostBus = true → 32 < words → Completes (.hostRead addr words) s fun t => t.readData = [] ∧
      t.get (.tkt .nHostRdDeny) 0 0 = (s.get (.tkt .nHostRdDeny) 0 0 + 1) % Counter.size) ∧
    (s.hostBus = true → mboxRange addr = true → Completes (.hostRead addr 1) s fun t => t.readData = [0] ∧
      t.get (.tkt .nHostRdDeny) 0 0 = s.get (.tkt .nHostRdDeny) 0 0) ∧
    (s.hostBus = true → mboxRange addr = false → s.hostMayRead addr = false → Completes (.hostRead addr 1) s fun t =>
      t.readData = [0] ∧ t.get (.tkt .nHostRdDeny) 0 0 = (s.get (.tkt .nHostRdDeny) 0 0 + 1) % Counter.size) ∧
    (s.hostBus = true → mboxRange addr = false → s.hostMayRead addr = true → s.addrAnswers addr = true →
      placeAt addr = .reg r d i → Completes (.hostRead addr 1) s fun t => t.readData = [s.regWord r d i]) ∧
    (s.hostBus = true → s.bootState ≠ bootRun → bootSet addr = false → mboxRange addr = false →
      Completes (.hostRead addr 1) s fun t => t.readData = [0]) ∧
    (s.released 0 = true → mboxRange (4 * addr) = false → bootSet (4 * addr) = false →
      Completes (.spiReadCommand addr 1) s fun t => t.readData = [0] ∧
        t.get (.tkt .nHostRdDeny) 0 0 = (s.get (.tkt .nHostRdDeny) 0 0 + 1) % Counter.size) ∧
    (s.released 0 = true → bootSet (4 * addr) = true → s.addrAnswers (4 * addr) = true → placeAt (4 * addr) = .reg r d i →
      Completes (.spiReadCommand addr 1) s fun t => t.readData = [s.regWord r d i]) ∧
    (s.released 0 = true → code ≠ 3 → Completes (.spiOtherCommand code count) s fun t =>
      t.readData.length = count ∧ ∀ b ∈ t.readData, b = 255) ∧
    (s.portOn port = true → Completes (.partialWordAccess port addr false) s fun t => t.readData = [0] ∧
      t.get (.sys .snapValid) 0 (portCode port) = s.get (.sys .snapValid) 0 (portCode port)) ∧
    (s.hostBus = true → s.flag (.tkt .rejHeld) 0 0 = false → Completes (.partialWordAccess .pcie addr true) s fun t =>
      t.get (.tkt .nHostWrRej) 0 0 = (s.get (.tkt .nHostWrRej) 0 0 + 1) % Counter.size ∧
        t.get (.tkt .hostWrRejAddr) 0 0 = addr ∧ t.flag (.tkt .rejHeld) 0 0 = true)) ∧
  (∀ (s : State) (addr d i f b k : Nat) (c : Ctr) (port : APort), s.portOn port = true → port ≠ .pcie → port ≠ .spi →
    (s.addrAnswers addr = true → placeAt addr = .half c d i false → Completes (.counterLowRead port addr) s fun t =>
      t.readData = [s.get c.cell d i % 2 ^ 64 % 2 ^ 32] ∧ t.flag (.sys .snapValid) 0 (portCode port) = true ∧
        t.get (.sys .snapAddr) 0 (portCode port) = addr ∧
        t.get (.sys .snapHi) 0 (portCode port) = s.get c.cell d i % 2 ^ 64 / 2 ^ 32) ∧
    (s.addrAnswers addr = true → placeAt addr = .half c d i true → s.flag (.sys .snapValid) 0 (portCode port) = true →
      s.get (.sys .snapAddr) 0 (portCode port) = addr - 4 → Completes (.counterHighRead port addr) s fun t =>
        t.readData = [s.get (.sys .snapHi) 0 (portCode port)] ∧ t.flag (.sys .snapValid) 0 (portCode port) = false) ∧
    (s.addrAnswers addr = true → placeAt addr = .half c d i true →
      s.flag (.sys .snapValid) 0 (portCode port) = false ∨ s.get (.sys .snapAddr) 0 (portCode port) ≠ addr - 4 →
      Completes (.counterHighRead port addr) s fun t => t.readData = [s.get c.cell d i % 2 ^ 64 / 2 ^ 32] ∧
        t.flag (.sys .snapValid) 0 (portCode port) = s.flag (.sys .snapValid) 0 (portCode port)) ∧
    (b < 4 → s.addrAnswers (0x8000 + 0x100 * b) = true → Completes (.timTbNsRead port b) s fun t =>
      t.readData = [s.get (.tim .tbNs) 0 b] ∧ t.flag (.sys .tbLatchValid) 0 (8 * b + portCode port) = true ∧
        t.get (.sys .tbLatchSec) 0 (8 * b + portCode port) = s.get (.tim .tbSec) 0 b ∧
        t.get (.sys .tbLatchFrac) 0 (8 * b + portCode port) = s.get (.tim .tbFrac) 0 b) ∧
    (d < 8 → f < 4 → s.addrAnswers (0x8200410 + 0x1000 * d + 0x40 * f) = true → Completes (.monFiltStatRead port d f) s fun t =>
      t.get (.mon .fOutLatched) d f = s.get (.mon .fOut) d f) ∧
    (k < 8 → s.addrAnswers (0xB100 + 0x20 * k) = true → 1 ≤ s.crcStatus k → s.crcStatus k < 6 →
      Completes (.crcResultStatusRead port k) s fun t => s.crcReusable k = s.flag (.crc .slotRead) 0 k ∧
        t.crcReusable k = true) ∧
    (k < 8 → s.addrAnswers (0xB100 + 0x20 * k) = true → 6 ≤ s.crcStatus k →
      Completes (.crcResultStatusRead port k) s fun t => t.crcReusable k = false))

/-- R4 to R6, R49, R70, R242, R474: writes, clears of sticky bits, and the windows. -/
def Obligations.RegisterAccess : Prop :=
  ∀ (s : State) (addr mask value again d i : Nat) (a : Alm) (who : Writer) (w : Win) (c : Ctr) (p : APort),
    (s.hostBus = true → mask ≠ fullMask → s.flag (.tkt .rejHeld) 0 0 = false →
      Completes (.registerWrite .host addr mask value) s fun t =>
        t.get (.tkt .nHostWrRej) 0 0 = (s.get (.tkt .nHostWrRej) 0 0 + 1) % Counter.size ∧
          t.get (.tkt .hostWrRejAddr) 0 0 = addr) ∧
    (s.hostBus = true → placeAt addr = .half c d i false → s.flag (.tkt .rejHeld) 0 0 = false →
      Completes (.registerWrite .host addr fullMask value) s fun t => t.get (.tkt .hostWrRejAddr) 0 0 = addr ∧
        t.flag (.tkt .rejHeld) 0 0 = true) ∧
    (s.ticketMayWrite = true → s.ticketFault cmdApplyDelta [] [.write addr mask value] ≠ none →
      Completes (.registerWrite .ticket addr mask value) s fun t =>
        t.get (.tkt .nHostWrRej) 0 0 = s.get (.tkt .nHostWrRej) 0 0 ∧ t.reports = s.reports) ∧
    (s.hostBus = true → s.inRun = true → s.flag (.boot .policyIn) 0 0 = true → grants s.policy true addr = true →
      (a, d, i) ∈ clearable addr → bit value (clearBit (a, d, i)) = true → bit again (clearBit (a, d, i)) = false →
      ¬ (Cell.sticky a).summary = true →
      Completes (.w1cClear .host addr value again) s fun t => t.flag (.sticky a) d i = false) ∧
    (s.hostBus = true → s.inRun = true → s.flag (.boot .policyIn) 0 0 = true → grants s.policy true addr = true →
      (a, d, i) ∈ clearable addr → bit value (clearBit (a, d, i)) = false ∨ bit again (clearBit (a, d, i)) = true →
      ¬ (Cell.sticky a).summary = true →
      Completes (.w1cClear .host addr value again) s fun t => t.flag (.sticky a) d i = s.flag (.sticky a) d i) ∧
    (s.hostBus = true → grants s.policy true addr = false → s.flag (.tkt .rejHeld) 0 0 = false →
      Completes (.w1cClear .host addr value again) s fun t => t.get (.tkt .hostWrRejAddr) 0 0 = addr ∧
        (¬ (Cell.sticky a).summary = true → t.flag (.sticky a) d i = s.flag (.sticky a) d i)) ∧
    (p = .mgmt ∨ p = .courier → s.portOn p = true → s.addrAnswers addr = true → placeAt addr = .winAddr w d →
      Completes (.windowDataAccess p who addr true value) s fun t =>
        t.winPtr w d p = (bits value 0 16, bits value 16 4)) ∧
    (p = .mgmt ∨ p = .courier → s.portOn p = true → s.addrAnswers addr = true → placeAt addr = .winData w d →
      Completes (.windowDataAccess p who addr false value) s fun t =>
        t.readData = [s.winWord w d (s.winPtr w d p).1 (s.winPtr w d p).2] ∧
          t.winPtr w d p = winNext w (s.winPtr w d p).1 (s.winPtr w d p).2)

/-- R38, R41 to R46, R54 to R58, R68: from the release of the lead die to an accepted image. -/
def Obligations.StartupAndImages : Prop :=
  ∀ (s : State) (katOk entropyOk busMaster msi : Bool) (info : FlashInfo) (slot seg : Nat) (ok1 ok2 : Bool) (a b : SlotImage),
    (s.get (.boot .step) 0 0 = 2 → s.released 0 = false → s.flag (.sys .sysRstN) 0 0 = true →
      s.flag (.sys .railsGood) 0 0 = true → s.poweredOff = false → katOk = true → entropyOk = true →
      Completes (.leadDieRelease katOk entropyOk busMaster msi) s fun t =>
        t.get (.sys .dieReleased) 0 0 = 1 ∧ t.get (.boot .step) 0 0 = 3 ∧
          t.bootState = (if s.flag (.ao .flashReleased) 0 0 then bootFlash else bootRom) ∧
          t.flag (.live .bootFlashHeld) 0 0 = (s.flag (.ao .flashReleased) 0 0 || s.flag (.live .bootFlashHeld) 0 0)) ∧
    (s.get (.boot .step) 0 0 = 2 → s.released 0 = false → s.flag (.sys .sysRstN) 0 0 = true →
      s.flag (.sys .railsGood) 0 0 = true → s.poweredOff = false → (katOk && entropyOk) = false →
      Completes (.leadDieRelease katOk entropyOk busMaster msi) s fun t =>
        t.bootState = bootFailed ∧ t.get (.boot .errCode) 0 0 = errSelftest ∧ t.get (.boot .detail) 0 0 = noDetail) ∧
    (s.readsFlash = true → s.get (.boot .flashMode) 0 0 = 0 → info.erase4k = true →
      Completes (.flashDiscovery info) s fun t => t.bootState = bootFlash ∧
        t.get (.boot .flashMode) 0 0 = (if info.octal then 1 else 2) ∧ t.flag (.live .bootSlowFlash) 0 0 = !info.octal) ∧
    (s.readsFlash = true → s.get (.boot .flashMode) 0 0 = 0 → info.erase4k = false →
      Completes (.flashDiscovery info) s fun t => t.bootState = bootFailed ∧ t.get (.boot .errCode) 0 0 = errFlash) ∧
    (s.readsFlash = true → s.get (.boot .flashMode) 0 0 ≠ 0 → 1 ≤ slot → slot ≤ 2 → 1 ≤ seg → seg ≤ 4 →
      Completes (.imageSegmentRead slot seg ok1 ok2) s fun t =>
        bit (t.get (.boot .segRead) 0 0) (4 * (slot - 1) + (seg - 1)) = true ∧
          bit (t.get (.boot .segCrcBad) 0 0) (4 * (slot - 1) + (seg - 1)) = (!ok1 && !ok2) ∧
          t.get (.boot .nFlashReread) 0 0 =
            (if ok1 then s.get (.boot .nFlashReread) 0 0 else (s.get (.boot .nFlashReread) 0 0 + 1) % Counter.size)) ∧
    (s.readsFlash = true → s.get (.boot .flashMode) 0 0 ≠ 0 → s.candidate a 1 = true → s.candidate b 2 = false →
      s.imageFault a = none → Completes (.imageVerify a b) s fun t => t.bootState = bootPhases ∧
        t.get (.boot .slot) 0 0 = 1 ∧ t.get (.boot .imageVersion) 0 0 = a.version ∧ t.get (.boot .nodeHdr) 0 0 = a.node ∧
        t.flag (.sys .fuseOwned) 0 0 = true ∧ t.get (.tkt .ctrLast) 0 0 = max a.ticketFloor (s.get (.tkt .ceiling) 0 0)) ∧
    (s.readsFlash = true → s.get (.boot .flashMode) 0 0 ≠ 0 → s.candidate a 1 = true → s.candidate b 2 = true →
      a.version < b.version → s.imageFault b = none → Completes (.imageVerify a b) s fun t =>
        t.bootState = bootPhases ∧ t.get (.boot .slot) 0 0 = 2 ∧
          t.flag (.live .bootFallback) 0 0 = s.flag (.live .bootFallback) 0 0) ∧
    (s.readsFlash = true → s.get (.boot .flashMode) 0 0 ≠ 0 → s.candidate a 1 = true → s.candidate b 2 = true →
      a.version < b.version → s.imageFault b ≠ none → s.imageFault a = none → Completes (.imageVerify a b) s fun t =>
        t.bootState = bootPhases ∧ t.get (.boot .slot) 0 0 = 1 ∧ t.flag (.live .bootFallback) 0 0 = true) ∧
    (s.readsFlash = true → s.get (.boot .flashMode) 0 0 ≠ 0 → s.candidate a 1 = false → s.candidate b 2 = false →
      Completes (.imageVerify a b) s fun t => t.bootState = bootFailed ∧ t.get (.boot .errCode) 0 0 = s.noCandidate a b) ∧
    (s.bootState = bootRestartWait → Completes .restartWaitExpiry s fun t => t.bootState = bootPor ∧
      t.get (.boot .step) 0 0 = 2 ∧ t.get (.sys .dieReleased) 0 0 = 0 ∧ t.flag (.live .bootRestarted) 0 0 = true)

/-- R47, R48, R50 to R53, R58, R499: the phases, the records of the image and the procedures they call. The form of
RECORD_TABLE is the reading of log 41. -/
def Obligations.PhasesAndRecords : Prop :=
  ∀ (s : State) (d p budget recs addr mask value us timeout id count stride win first words : Nat) (data args : List Nat) (ok : Bool),
    (s.bootState = bootPhases → s.run = none → s.lastPhase = none → p ≤ 1 → 1 ≤ budget → budget ≤ 60000 → recs ≤ 4096 →
      s.flag (.boot .phaseRun) 0 0 = false → Completes (.phaseStart p true budget recs) s fun t =>
        t.get (.boot .phase) 0 0 = p ∧ t.flag (.boot .phaseRun) 0 0 = true ∧ t.get (.boot .phaseBudget) 0 0 = budget ∧
          t.get (.boot .recIndex) 0 0 = 0 ∧
          t.get (.sys .dieReleased) 0 0 = (if p = 1 then s.get (.sys .diePresent) 0 0 else s.get (.sys .dieReleased) 0 0)) ∧
    (s.bootState = bootPhases → s.run = none → s.lastPhase = some p → 1 < p →
      s.flag (.boot .phaseRun) 0 0 = false → 1 ≤ p → Completes (.phaseStart (p - 1) true budget recs) s fun t =>
        t.bootState = bootRestartWait ∧ t.get (.boot .errCode) 0 0 = errFormat) ∧
    (s.awaits d = true → d < 8 → ok = true → Completes (.memberDieReady d ok) s fun t => bit (t.get (.boot .memberReady) 0 0) d = true) ∧
    (s.awaits d = true → d < 8 → Completes (.memberDieTimeout d) s fun t => t.bootState = bootRestartWait ∧
      t.get (.boot .errCode) 0 0 = errDieTimeout ∧ t.get (.boot .errDie) 0 0 = d) ∧
    (s.bootState = bootPhases → s.flag (.boot .phaseRun) 0 0 = true → s.get (.boot .phaseBudget) 0 0 ≠ 0 →
      Completes .phaseTimeout s fun t => t.bootState = bootRestartWait ∧ t.get (.boot .errCode) 0 0 = errPhaseTimeout ∧
        t.get (.boot .detail) 0 0 = s.get (.boot .recIndex) 0 0) ∧
    (s.recordTurn = true → addr % 4 = 0 → s.addrAbsent addr = false → s.accessBusy addr mask value = false →
      (s.imageWrites false [(addr, mask, value)]).2 = none →
      (s.relationsOk = false ∨ (s.imageWrites false [(addr, mask, value)]).1.relationsOk = true) →
      (s.imageWrites false [(addr, mask, value)]).1.get (.tkt .nodeId) 0 0 = s.get (.tkt .nodeId) 0 0 →
      recFormatOk false (.write addr mask value) = true →
      Completes (.recordWrite addr mask value) s fun t => t.bootState = bootPhases ∧
        t.get (.boot .recIndex) 0 0 = (s.imageWrites false [(addr, mask, value)]).1.get (.boot .recIndex) 0 0 + 1) ∧
    (s.recordTurn = true → recFormatOk false (.write addr mask value) = false → Completes (.recordWrite addr mask value) s fun t =>
      t.bootState = bootRestartWait ∧ t.get (.boot .errCode) 0 0 = errFormat ∧ t.get (.boot .errAddr) 0 0 = addr) ∧
    (s.recordTurn = true → recFormatOk false (.fill addr mask value count stride) = true → s.addrAbsent addr = true →
      Completes (.recordFill addr mask value count stride) s fun t => t.bootState = bootRestartWait ∧
        t.get (.boot .errCode) 0 0 = errAbsent ∧ t.get (.boot .errAddr) 0 0 = addr) ∧
    (s.recordTurn = true → recFormatOk false (.fill addr mask value 1 stride) = true → s.addrAbsent addr = false →
      s.accessBusy addr mask value = false → (s.imageWrites false [(addr, mask, value)]).2 = none →
      (s.imageWrites false [(addr, mask, value)]).1.relationsOk = true →
      (s.imageWrites false [(addr, mask, value)]).1.get (.tkt .nodeId) 0 0 = s.get (.tkt .nodeId) 0 0 →
      Completes (.recordFill addr mask value 1 stride) s fun t => t.bootState = bootPhases ∧
        t.get (.boot .recIndex) 0 0 = (s.imageWrites false [(addr, mask, value)]).1.get (.boot .recIndex) 0 0 + 1) ∧
    (s.recordTurn = true → recFormatOk false (.table win first words (data.length / words) data) = true →
      s.addrAbsent win = false → tableFits (.table win first words (data.length / words) data) = false →
      Completes (.recordTable win first words data) s fun t => t.bootState = bootRestartWait ∧
        t.get (.boot .errCode) 0 0 = errAccess) ∧
    (s.recordTurn = true → recFormatOk false (.table win first words (data.length / words) data) = true →
      s.addrAbsent win = false → tableFits (.table win first words (data.length / words) data) = true →
      ((recWrites (.table win first words (data.length / words) data)).any fun x => s.accessBusy x.1 x.2.1 x.2.2) = false →
      (s.imageWrites true (recWrites (.table win first words (data.length / words) data))).2 = none →
      (s.imageWrites true (recWrites (.table win first words (data.length / words) data))).1.relationsOk = true →
      (s.imageWrites true (recWrites (.table win first words (data.length / words) data))).1.get (.tkt .nodeId) 0 0 =
        s.get (.tkt .nodeId) 0 0 → Completes (.recordTable win first words data) s fun t =>
        t.get (.boot .recIndex) 0 0 = (s.imageWrites true
          (recWrites (.table win first words (data.length / words) data))).1.get (.boot .recIndex) 0 0 + 1) ∧
    (s.recordTurn = true → recFormatOk false (.waitUs us) = true → Completes (.recordWaitUs us) s fun t =>
      t.run.map (fun r => (r.byTicket, r.wait)) = some (false, .us) ∧
        t.get (.boot .recIndex) 0 0 = s.get (.boot .recIndex) 0 0) ∧
    (s.recordTurn = true → recFormatOk false (.pollUntil addr mask value timeout) = true → s.addrAbsent addr = false →
      s.tooEarly false addr = false → Completes (.recordPollUntil addr mask value timeout) s fun t =>
        t.run.map (fun r => (r.byTicket, r.wait)) = some (false, .poll addr mask value)) ∧
    (s.recordTurn = true → recFormatOk false (.proc id args) = true → procPhase id ≠ s.get (.boot .phase) 0 0 →
      Completes (.recordProc id args) s fun t => t.bootState = bootRestartWait ∧ t.get (.boot .errCode) 0 0 = errOrder) ∧
    (s.recordTurn = true → recFormatOk false (.proc id args) = true → procPhase id = s.get (.boot .phase) 0 0 →
      s.procAbsent id args = false → s.procEarly id args = false → id < 12 →
      Completes (.recordProc id args) s fun t =>
        t.get (.boot .procId) 0 0 = id ∧ t.get (.boot .procDone) 0 0 = 0 ∧
          t.run.map (fun r => (r.byTicket, r.wait)) = some (false, .proc)) ∧
    (s.bootState = bootPhases → s.get (.boot .procId) 0 0 ≠ 0 → s.get (.boot .procDone) 0 0 = 1 → Completes .procReturn s fun t =>
      t.get (.boot .procId) 0 0 = 0 ∧ t.run = none ∧ t.get (.boot .recIndex) 0 0 = s.get (.boot .recIndex) 0 0 + 1) ∧
    (s.bootState = bootPhases → s.get (.boot .procId) 0 0 ≠ 0 → s.get (.boot .procId) 0 0 ≠ 2 → 2 ≤ s.get (.boot .procDone) 0 0 →
      Completes .procReturn s fun t => t.bootState = bootRestartWait ∧ t.get (.boot .errCode) 0 0 = errProc ∧
        t.get (.boot .detail) 0 0 = s.get (.boot .procCode) 0 0) ∧
    (s.bootState = bootPhases → s.called 11 = true →
      ((s.set (.boot .procCalled) 0 11 0).phaseStop).phaseChecks = none →
      s.get (.tkt .nodeId) 0 0 = s.get (.boot .nodeHdr) 0 0 →
      (((s.set (.boot .procCalled) 0 11 0).phaseStop).rules.all id && ((s.set (.boot .procCalled) 0 11 0).phaseStop).imageRulesOk) = true →
      Completes .openTraffic s fun t => t.bootState = bootRun ∧ t.flag (.boot .frozen) 0 0 = true ∧ t.policy = s.imgPolicy ∧
        t.flag (.boot .policyIn) 0 0 = true ∧ t.get (.ao .triesA) 0 0 = 0 ∧ t.get (.ao .triesB) 0 0 = 0 ∧
        t.flag (.ao .tamperDown) 0 0 = false ∧ t.run = none)

/-- R48, R60, R61, R63, R66: the submission of tickets, the fetch, the journal's erase, and the waits of records. -/
def Obligations.TicketSubmission : Prop :=
  ∀ (s : State) (value entryLen n c x m v : Nat) (ok b : Bool) (args : List Nat) (l : List Rec),
    (s.flag (.tkt .jErasing) 0 0 = true → Completes .journalEraseDone s fun t => t.flag (.tkt .jErasing) 0 0 = false ∧
      t.flag (.tkt .jBlank) 0 0 = true ∧
      t.get (.tkt .nJournalErase) 0 0 = (s.get (.tkt .nJournalErase) 0 0 + 1) % Counter.size) ∧
    (s.hostBus = true → s.flag (.tkt .mboxBusy) 0 0 = false → s.inRun = true → Completes (.ticketGoWrite value) s fun t =>
      t.flag (.tkt .mboxBusy) 0 0 = true ∧ t.get (.tkt .mboxLen) 0 0 = value ∧ t.tickets = s.tickets ++ [.mailbox]) ∧
    (s.hostBus = true → s.flag (.tkt .mboxBusy) 0 0 = true → s.flag (.tkt .rejHeld) 0 0 = false →
      Completes (.ticketGoWrite value) s fun t => t.get (.tkt .hostWrRejAddr) 0 0 = 0x20000 ∧ t.tickets = s.tickets ∧
        t.get (.tkt .nHostWrRej) 0 0 = (s.get (.tkt .nHostWrRej) 0 0 + 1) % Counter.size) ∧
    (s.hostBus = true → s.flag (.tkt .mboxBusy) 0 0 = false → s.takesTicket = false → Completes (.ticketGoWrite value) s fun t =>
      t.get (.tkt .lastCode) 0 0 = stNotReady ∧ t.tickets = s.tickets ∧
        t.get (.tkt .nRejected) 0 0 = (s.get (.tkt .nRejected) 0 0 + 1) % Counter.size) ∧
    (s.hostBus = true → s.get (.tkt .ringSize) 0 0 ≠ 0 → s.inRun = true → s.tailOk (value % 2 ^ 32) = true →
      (value % 2 ^ 32 + 2 ^ 32 - s.get (.tkt .ringTail) 0 0) % 2 ^ 32 ≤ 65536 →
      Completes (.ticketRingTailWrite value) s fun t => t.get (.tkt .ringTail) 0 0 = value % 2 ^ 32 ∧
        t.tickets.length = s.tickets.length + (value % 2 ^ 32 + 2 ^ 32 - s.get (.tkt .ringTail) 0 0) % 2 ^ 32) ∧
    (s.hostBus = true → s.get (.tkt .ringSize) 0 0 = 0 ∨ s.inRun = false ∨ s.tailOk (value % 2 ^ 32) = false →
      Completes (.ticketRingTailWrite value) s fun t => t.get (.tkt .ringTail) 0 0 = s.get (.tkt .ringTail) 0 0 ∧
        t.tickets = s.tickets ∧ t.get (.tkt .nRingBad) 0 0 = (s.get (.tkt .nRingBad) 0 0 + 1) % Counter.size) ∧
    (s.fetchTurn = true → ticketLenOk entryLen = true → s.flag (.crr .chEn) 0 4 = true → s.flag (.sys .pcieUp) 0 0 = true →
      s.flag (.sys .busMaster) 0 0 = true → s.get (.tkt .fetched) 0 0 = 0 → Completes (.ticketFetchDone entryLen true) s fun t =>
        t.get (.tkt .fetched) 0 0 = 1 ∧ t.get (.tkt .fetchLen) 0 0 = entryLen ∧ t.tickets = s.tickets) ∧
    (s.fetchTurn = true → ticketLenOk entryLen = false → Completes (.ticketFetchDone entryLen ok) s fun t =>
      t.get (.tkt .lastCode) 0 0 = stFormat ∧ t.tickets = s.tickets.tail ∧
        t.get (.tkt .ringHead) 0 0 = (s.get (.tkt .ringHead) 0 0 + 1) % 2 ^ 32) ∧
    (s.fetchTurn = true → ticketLenOk entryLen = true → Completes (.ticketFetchDone entryLen false) s fun t =>
      t.get (.tkt .lastCode) 0 0 = stFetch ∧ t.tickets = s.tickets.tail) ∧
    (s.run = some ⟨false, [], n, .us, 0, []⟩ → Completes .waitUsExpiry s fun t => t.run = none ∧
      t.get (.boot .recIndex) 0 0 = s.get (.boot .recIndex) 0 0 + 1) ∧
    (s.run = some ⟨true, [], n, .us, cmdApplyDelta, args⟩ → Completes .waitUsExpiry s fun t => t.run = none ∧
      t.get (.tkt .lastCode) 0 0 = stAccepted ∧ t.get (.tkt .lastRecord) 0 0 = noRecord ∧ t.tickets = s.tickets.tail) ∧
    (s.run = some ⟨false, [], n, .poll x m v, 0, []⟩ → s.pollMatches x m v = true → Completes .pollUntilMatch s fun t =>
      t.run = none ∧ t.get (.boot .recIndex) 0 0 = s.get (.boot .recIndex) 0 0 + 1) ∧
    (s.run = some ⟨false, [], n, .poll x m v, 0, []⟩ → s.pollMatches x m v = false → s.bootState = bootPhases →
      Completes .pollUntilTimeout s fun t => t.bootState = bootRestartWait ∧ t.get (.boot .errCode) 0 0 = errPollTimeout ∧
        t.get (.boot .errAddr) 0 0 = x ∧ t.run = none) ∧
    (s.run = some ⟨true, l, n, .poll x m v, c, args⟩ → s.pollMatches x m v = false → Completes .pollUntilTimeout s fun t =>
      t.get (.tkt .lastCode) 0 0 = stTimeout ∧ t.get (.tkt .lastRecord) 0 0 = n ∧ t.tickets = s.tickets.tail ∧ t.run = none) ∧
    (s.run = some ⟨true, l, n, (if b then .us else .poll x m v), c, args⟩ → Completes .ticketExecTimeout s fun t =>
      t.get (.tkt .lastCode) 0 0 = stTimeout ∧ t.get (.tkt .lastRecord) 0 0 = n ∧ t.tickets = s.tickets.tail ∧ t.run = none)

/-- R62 to R67, R69: the checks of a ticket in RUN, in their order, for every row that submits one. R64: a RESTART
ticket in FAILED. -/
def Obligations.TicketChecks : Prop :=
  (∀ (s : State) (k : Tkt) (i : TktIn) (l : List Rec) (f : TktFault) (x : (Tkt → Instr) × (Nat → List Nat → Bool)),
    x ∈ ticketRows → s.inRun = true → s.ticketTurn = true → s.front k = some i →
    (i.form = none → Completes (x.1 k) s fun t => t.get (.tkt .lastCode) 0 0 = stFormat ∧ t.tickets = s.tickets.tail ∧
      t.get (.tkt .ctrLast) 0 0 = s.get (.tkt .ctrLast) 0 0) ∧
    (i.form = some l → x.2 i.command i.args = true → i.node ≠ s.get (.tkt .nodeId) 0 0 → Completes (x.1 k) s fun t =>
      t.get (.tkt .lastCode) 0 0 = stNode ∧ t.tickets = s.tickets.tail ∧
        t.get (.tkt .ctrLast) 0 0 = s.get (.tkt .ctrLast) 0 0) ∧
    (i.form = some l → x.2 i.command i.args = true → i.node = s.get (.tkt .nodeId) 0 0 → s.flag (.tkt .hashFail) 0 0 = false →
      i.sigOk = false ∨ s.get (.tkt .keys) 0 0 < i.keyIndex → Completes (x.1 k) s fun t =>
        t.get (.tkt .lastCode) 0 0 = stSignature ∧ t.tickets = s.tickets.tail ∧
          t.get (.tkt .ctrLast) 0 0 = s.get (.tkt .ctrLast) 0 0) ∧
    (i.form = some l → x.2 i.command i.args = true → i.node = s.get (.tkt .nodeId) 0 0 → s.flag (.tkt .hashFail) 0 0 = false →
      i.sigOk = true → i.keyIndex ≤ s.get (.tkt .keys) 0 0 → i.counter ≤ s.get (.tkt .ctrLast) 0 0 →
      Completes (x.1 k) s fun t => t.get (.tkt .lastCode) 0 0 = stStale ∧ t.tickets = s.tickets.tail ∧
        t.get (.tkt .ctrLast) 0 0 = s.get (.tkt .ctrLast) 0 0) ∧
    (i.form = some l → x.2 i.command i.args = true → i.node = s.get (.tkt .nodeId) 0 0 → s.flag (.tkt .hashFail) 0 0 = false →
      i.sigOk = true → i.keyIndex ≤ s.get (.tkt .keys) 0 0 → s.get (.tkt .ctrLast) 0 0 < i.counter →
      s.journalBlocked i.counter = true →
      Completes (x.1 k) s fun t => t.get (.tkt .lastCode) 0 0 = stJournal ∧ t.tickets = s.tickets.tail ∧
        t.get (.tkt .ctrLast) 0 0 = s.get (.tkt .ctrLast) 0 0) ∧
    (i.form = some l → x.2 i.command i.args = true → s.admits i = true →
      (s.ctrTaken i.counter).keyPermits i.keyIndex i.command = false → Completes (x.1 k) s fun t =>
        t.get (.tkt .lastCode) 0 0 = stNotPermitted ∧ t.tickets = s.tickets.tail ∧
          t.get (.tkt .ctrLast) 0 0 = i.counter) ∧
    (i.form = some l → x.2 i.command i.args = true → s.admits i = true →
      (s.ctrTaken i.counter).keyPermits i.keyIndex i.command = true →
      (s.ctrTaken i.counter).ticketFault i.command i.args l = some f → Completes (x.1 k) s fun t =>
        t.get (.tkt .lastCode) 0 0 = f.code ∧ t.get (.tkt .lastRecord) 0 0 = f.record ∧ t.tickets = s.tickets.tail ∧
          t.get (.tkt .ctrLast) 0 0 = i.counter) ∧
    (s.passes k i l = true → x.2 i.command i.args = true → i.command ≠ cmdRestart → l.all recAtOnce = true →
      Completes (x.1 k) s fun t =>
        t.get (.tkt .lastCode) 0 0 = stAccepted ∧ t.get (.tkt .lastRecord) 0 0 = noRecord ∧ t.tickets = s.tickets.tail ∧
          t.get (.tkt .ctrLast) 0 0 = i.counter ∧
          t.get (.tkt .nAccepted) 0 0 = (s.get (.tkt .nAccepted) 0 0 + 1) % Counter.size)) ∧
  (∀ (s : State) (k : Tkt) (i : TktIn) (ownerOk : Bool), s.bootState = bootFailed → s.ticketTurn = true → s.front k = some i →
    (s.get (.boot .errCode) 0 0 = errSelftest → Completes (.restartInFailed k ownerOk) s fun t =>
      t.get (.tkt .lastCode) 0 0 = stNotReady ∧ t.bootState = bootFailed) ∧
    (s.get (.boot .errCode) 0 0 ≠ errSelftest → i.failedForm = false → Completes (.restartInFailed k ownerOk) s fun t =>
      t.get (.tkt .lastCode) 0 0 = stFormat ∧ t.bootState = bootFailed) ∧
    (s.get (.boot .errCode) 0 0 ≠ errSelftest → i.failedForm = true →
      ((List.range 4).all fun j => decide (swapBytes (i.word (8 + j)) = Config.fusedWord (8 + j) % 2 ^ 32)) = true →
      s.flag (.sys .fuseOwned) 0 0 = true → ownerOk = true → i.word 684 / 256 = 0 → i.sigOk = true →
      s.get (.tkt .ctrLast) 0 0 < i.counter → s.journalBlocked i.counter = false →
      Completes (.restartInFailed k ownerOk) s fun t => t.get (.ao .triesA) 0 0 = 0 ∧ t.get (.ao .triesB) 0 0 = 0 ∧
        t.flag (.ao .flashReleased) 0 0 = false ∧
        (t.flag (.sys .restartPend) 0 0 = true ∨ (t.bootState = bootPor ∧ t.get (.boot .step) 0 0 = 2))))

/-- R44, R64, R66 to R68, R176, R185, R190, R267 to R269, R300, R330, R344, R431, R434: what each accepted ticket
does. -/
def Obligations.TicketEffects : Prop :=
  ∀ (s : State) (k : Tkt) (i : TktIn) (l : List Rec) (c : Cell) (d j q e p x m v : Nat) (a : Alm) (g : AlmReg),
    s.passes k i l = true →
    (i.command = cmdApplyDelta → l = [.write x m v] → (∀ y, c ≠ .tkt y) → ¬ c.summary = true →
      Completes (.applyDelta k) s fun t => t.get c d j = ((s.ctrTaken i.counter).applyWrite x m v).get c d j) ∧
    (i.command = cmdShaper → l = [.write x m v] → (∀ y, c ≠ .tkt y) → ¬ c.summary = true →
      Completes (.shaperChange k) s fun t => t.get c d j = ((s.ctrTaken i.counter).applyWrite x m v).get c d j) ∧
    (i.command = cmdContainer → editOp i.args = 1 → l = [.write x m v] → (∀ y, c ≠ .tkt y) → ¬ c.summary = true →
      Completes (.containerAdd k) s fun t => t.get c d j = ((s.ctrTaken i.counter).applyWrite x m v).get c d j) ∧
    (i.command = cmdContainer → editOp i.args = 2 → l = [.write x m v] → (∀ y, c ≠ .tkt y) → ¬ c.summary = true →
      Completes (.containerChange k) s fun t => t.get c d j = ((s.ctrTaken i.counter).applyWrite x m v).get c d j) ∧
    (i.command = cmdContainer → editOp i.args = 4 → l = [.write x m v] → (∀ y, c ≠ .tkt y) → ¬ c.summary = true →
      Completes (.queueAdd k) s fun t => t.get c d j = ((s.ctrTaken i.counter).applyWrite x m v).get c d j) ∧
    (i.command = cmdContainer → editOp i.args = 5 → l = [.write x m v] → (∀ y, c ≠ .tkt y) → ¬ c.summary = true →
      Completes (.queueChange k) s fun t => t.get c d j = ((s.ctrTaken i.counter).applyWrite x m v).get c d j) ∧
    (i.command = cmdContainer → editOp i.args = 3 → l.all recAtOnce = true → Completes (.containerDelete k) s fun t =>
      t.flag (.qs .cDrain) (ctnDie (bits (i.arg 0) 0 12)) (ctnLocal (bits (i.arg 0) 0 12)) = true) ∧
    (i.command = cmdContainer → editOp i.args = 6 → l = [] →
      (s.ctrTaken i.counter).queueAtPos (ctnDie (bits (i.arg 0) 0 12)) (ctnLocal (bits (i.arg 0) 0 12)) (bits (i.arg 0) 24 3) = some q →
      Completes (.queueDelete k) s fun t => t.flag (.qs .qDrain) (ctnDie (bits (i.arg 0) 0 12)) q = true) ∧
    (i.command = cmdShift → bits (i.arg 0) 8 2 = 0 → l.all recAtOnce = true → Completes (.derShiftInitiate k) s fun t =>
      t.get (.der .state) 0 0 = derProposed ∧ t.get (.der .role) 0 0 = 0 ∧ t.get (.der .shiftId) 0 0 = bits (i.arg 0) 0 8 ∧
        t.get (.der .shiftMask) 0 0 = bits (i.arg 0) 16 8) ∧
    (i.command = cmdShift → bits (i.arg 0) 8 2 = 1 → l.all recAtOnce = true → Completes (.derShiftRespond k) s fun t =>
      t.get (.der .state) 0 0 = derAwait ∧ t.get (.der .role) 0 0 = 1 ∧ t.get (.der .shiftId) 0 0 = bits (i.arg 0) 0 8 ∧
        t.get (.der .initNode) 0 0 = bits (i.arg 1) 0 12) ∧
    (i.command = cmdProtection → i.arg 1 = 0 → bit (i.arg 0) 31 = false → Completes (.protectionClear k) s fun t =>
      t.get (.tdm .loc) (ctnDie (bits (i.arg 0) 0 12)) (ctnLocal (bits (i.arg 0) 0 12)) = 0) ∧
    (i.command = cmdProtection → i.arg 1 = 1 → bit (i.arg 0) 31 = false → Completes (.protectionLo k) s fun t =>
      t.get (.tdm .loc) (ctnDie (bits (i.arg 0) 0 12)) (ctnLocal (bits (i.arg 0) 0 12)) = reqLo) ∧
    (i.command = cmdProtection → i.arg 1 = 2 → bit (i.arg 0) 31 = false → Completes (.protectionFs k) s fun t =>
      t.get (.tdm .loc) (ctnDie (bits (i.arg 0) 0 12)) (ctnLocal (bits (i.arg 0) 0 12)) = reqFs) ∧
    (i.command = cmdProtection → i.arg 1 = 3 → bit (i.arg 0) 31 = false → Completes (.protectionMsP k) s fun t =>
      t.get (.tdm .loc) (ctnDie (bits (i.arg 0) 0 12)) (ctnLocal (bits (i.arg 0) 0 12)) = reqMsP) ∧
    (i.command = cmdProtection → i.arg 1 = 4 → bit (i.arg 0) 31 = false → Completes (.protectionMsW k) s fun t =>
      t.get (.tdm .loc) (ctnDie (bits (i.arg 0) 0 12)) (ctnLocal (bits (i.arg 0) 0 12)) = reqMsW) ∧
    (i.command = cmdRekey → bits (i.arg 0) 30 2 = 0 → d = ctnDie (bits (i.arg 0) 0 12) → j = ctnLocal (bits (i.arg 0) 0 12) →
      s.spanOf (bits (i.arg 0) 0 12) = some p → s.flag (.sbg .spHas) 0 p = true → s.flag (.cry .txNext) d j = false →
      Completes (.rekeyNow k) s fun t => t.get (.cry .txNext) d j = (if d = 0 then 2 else 1) ∧
        t.get (.cry .txSms) d j = s.spanSms p + 1) ∧
    (i.command = cmdRekey → bits (i.arg 0) 30 2 = 2 → (d, j) ∈ s.rekeyList (i.arg 0) →
      s.spanOf (512 * d + j) = some p → s.flag (.sbg .spHas) 0 p = true → s.flag (.cry .txNext) d j = false →
      Completes (.rekeyNowAll k) s fun t => t.get (.cry .txNext) d j = (if d = 0 then 2 else 1) ∧
        t.get (.cry .txSms) d j = s.spanSms p + 1) ∧
    (i.command = cmdRekey → bit (i.arg 0) 30 = true → s.spanOf (bits (i.arg 0) 0 12) = some p → s.initiates p = true →
      s.flag (.sbg .rngOk) 0 0 = true → Completes (.rekeyNowSpan k) s fun t => t.get (.sbg .spRekey) 0 p = 1 ∧
        t.get (.sbg .spStep) 0 p = 1) ∧
    (i.command = cmdKickstandEnter → bit (i.arg 0) 31 = false → d < 8 → bit (i.arg 0) d = true →
      Completes (.kickstandEnterCarrier k) s fun t => t.stage d = ksDrain ∧
        t.get (.pwr .wakeEn) d 0 = bits (i.arg 1) 0 4 ∧ t.get (.pwr .wakeDelay) d 0 = i.arg 2) ∧
    (i.command = cmdKickstandEnter → bit (i.arg 0) 31 = true → s.present d = true → s.stage d = ksAwake →
      Completes (.kickstandEnterPackage k) s fun t => t.pkgEntry = true ∧ t.stage d = ksDrain ∧
        t.get (.pwr .pkgWakeEn) 0 0 = bits (i.arg 1) 0 3) ∧
    (i.command = cmdKickstandLeave → d < 8 → bit (i.arg 0) d = true → s.stage d = ksGated →
      s.flag (.pwr .lateWake) d 0 = false → bit (s.get (.pwr .wakeEn) d 0) 3 = true →
      Completes (.kickstandLeave k) s fun t => t.stage d = ksWaking ∧ t.released d = true ∧
        t.get (.pwr .wakeEn) d 0 = 0) ∧
    (i.command = cmdClearSec → placeAt (i.arg 0) = .sticky g d j → a ∈ g.bits.map Prod.snd → a.isSec = true →
      bit (i.arg 1) a.bitNo = true → ¬ (Cell.sticky a).summary = true → Completes (.clearSec k) s fun t => t.flag (.sticky a) d j = false) ∧
    (i.command = cmdBlowRepair → bit (i.arg 0) 8 = false → s.fuseFree (bits (i.arg 0) 0 3) = some e →
      Completes (.blowRepairRow k) s fun t =>
        t.get (.pan .fuse) (bits (i.arg 0) 0 3) (2 * e) = 0x40000000 + bits (i.arg 1) 0 5 ∧
          t.get (.pan .fuse) (bits (i.arg 0) 0 3) (2 * e + 1) = bits (i.arg 1) 5 4 * 2 ^ 20 + bits (i.arg 1) 9 16) ∧
    (i.command = cmdBlowRepair → bit (i.arg 0) 8 = true → s.fuseFree (bits (i.arg 0) 0 3) = some e →
      Completes (.blowRepairColumn k) s fun t =>
        t.get (.pan .fuse) (bits (i.arg 0) 0 3) (2 * e) = 0x80000000 + bits (i.arg 1) 0 5 ∧
          t.get (.pan .fuse) (bits (i.arg 0) 0 3) (2 * e + 1) = bits (i.arg 1) 8 7) ∧
    (i.command = cmdRestart → Completes (.restart k) s fun t => t.flag (.ao .flashReleased) 0 0 = false ∧
      (t.flag (.sys .restartPend) 0 0 = true ∨ (t.bootState = bootPor ∧ t.get (.boot .step) 0 0 = 2))) ∧
    (i.command = cmdFlashRelease → Completes (.flashRelease k) s fun t => t.flag (.ao .flashReleased) 0 0 = true ∧
      t.flag (.tkt .jErasing) 0 0 = false) ∧
    (i.command = cmdFlashReclaim → Completes (.flashReclaim k) s fun t => t.flag (.ao .flashReleased) 0 0 = false ∧
      t.flag (.tkt .jEraseWait) 0 0 = false) ∧
    (i.command = cmdAdvanceSvn → Completes (.advanceSvn k) s fun t =>
      t.get (.sys .fuseSvn) 0 0 = max (s.get (.sys .fuseSvn) 0 0) (s.get (.boot .imageSvn) 0 0))
end

