-- ==== Sys2Proof/Laws/Order.lean ====
section
/-!
SUPPORT. The order of keys: names, groups of names and keys have one place each.
-/
namespace Sys2Proof.Machine

theorem IdCell.ctorIdx_small (a : IdCell) : a.ctorIdx < 1000 := by cases a <;> decide

theorem BootCell.ctorIdx_small (a : BootCell) : a.ctorIdx < 1000 := by cases a <;> decide

theorem TktCell.ctorIdx_small (a : TktCell) : a.ctorIdx < 1000 := by cases a <;> decide

theorem ChnCell.ctorIdx_small (a : ChnCell) : a.ctorIdx < 1000 := by cases a <;> decide

theorem LtCell.ctorIdx_small (a : LtCell) : a.ctorIdx < 1000 := by cases a <;> decide

theorem LasCell.ctorIdx_small (a : LasCell) : a.ctorIdx < 1000 := by cases a <;> decide

theorem LrCell.ctorIdx_small (a : LrCell) : a.ctorIdx < 1000 := by cases a <;> decide

theorem FecCell.ctorIdx_small (a : FecCell) : a.ctorIdx < 1000 := by cases a <;> decide

theorem CtCell.ctorIdx_small (a : CtCell) : a.ctorIdx < 1000 := by cases a <;> decide

theorem TdmCell.ctorIdx_small (a : TdmCell) : a.ctorIdx < 1000 := by cases a <;> decide

theorem PelCell.ctorIdx_small (a : PelCell) : a.ctorIdx < 1000 := by cases a <;> decide

theorem DerCell.ctorIdx_small (a : DerCell) : a.ctorIdx < 1000 := by cases a <;> decide

theorem HlCell.ctorIdx_small (a : HlCell) : a.ctorIdx < 1000 := by cases a <;> decide

theorem QsCell.ctorIdx_small (a : QsCell) : a.ctorIdx < 1000 := by cases a <;> decide

theorem PanCell.ctorIdx_small (a : PanCell) : a.ctorIdx < 1000 := by cases a <;> decide

theorem CrrCell.ctorIdx_small (a : CrrCell) : a.ctorIdx < 1000 := by cases a <;> decide

theorem SbgCell.ctorIdx_small (a : SbgCell) : a.ctorIdx < 1000 := by cases a <;> decide

theorem SvcCell.ctorIdx_small (a : SvcCell) : a.ctorIdx < 1000 := by cases a <;> decide

theorem AoCell.ctorIdx_small (a : AoCell) : a.ctorIdx < 1000 := by cases a <;> decide

theorem CryCell.ctorIdx_small (a : CryCell) : a.ctorIdx < 1000 := by cases a <;> decide

theorem BellCell.ctorIdx_small (a : BellCell) : a.ctorIdx < 1000 := by cases a <;> decide

theorem ClkCell.ctorIdx_small (a : ClkCell) : a.ctorIdx < 1000 := by cases a <;> decide

theorem TimCell.ctorIdx_small (a : TimCell) : a.ctorIdx < 1000 := by cases a <;> decide

theorem MonCell.ctorIdx_small (a : MonCell) : a.ctorIdx < 1000 := by cases a <;> decide

theorem BiasCell.ctorIdx_small (a : BiasCell) : a.ctorIdx < 1000 := by cases a <;> decide

theorem CalCell.ctorIdx_small (a : CalCell) : a.ctorIdx < 1000 := by cases a <;> decide

theorem PwrCell.ctorIdx_small (a : PwrCell) : a.ctorIdx < 1000 := by cases a <;> decide

theorem AlmCell.ctorIdx_small (a : AlmCell) : a.ctorIdx < 1000 := by cases a <;> decide

theorem PcCell.ctorIdx_small (a : PcCell) : a.ctorIdx < 1000 := by cases a <;> decide

theorem TrcCell.ctorIdx_small (a : TrcCell) : a.ctorIdx < 1000 := by cases a <;> decide

theorem InjCell.ctorIdx_small (a : InjCell) : a.ctorIdx < 1000 := by cases a <;> decide

theorem CrcCell.ctorIdx_small (a : CrcCell) : a.ctorIdx < 1000 := by cases a <;> decide

theorem TelCell.ctorIdx_small (a : TelCell) : a.ctorIdx < 1000 := by cases a <;> decide

theorem SysCell.ctorIdx_small (a : SysCell) : a.ctorIdx < 1000 := by cases a <;> decide

theorem Alm.ctorIdx_small (a : Alm) : a.ctorIdx < 1000 := by cases a <;> decide

theorem Win.ctorIdx_small (a : Win) : a.ctorIdx < 1000 := by cases a <;> decide

/-- The name that has a number. -/
def Cell.ofCode (n : Nat) : Cell :=
  match n / 1000 with
  | 0 => .id (IdCell.ofNat (n % 1000))
  | 1 => .boot (BootCell.ofNat (n % 1000))
  | 2 => .tkt (TktCell.ofNat (n % 1000))
  | 3 => .chn (ChnCell.ofNat (n % 1000))
  | 4 => .lt (LtCell.ofNat (n % 1000))
  | 5 => .las (LasCell.ofNat (n % 1000))
  | 6 => .lr (LrCell.ofNat (n % 1000))
  | 7 => .fec (FecCell.ofNat (n % 1000))
  | 8 => .ct (CtCell.ofNat (n % 1000))
  | 9 => .tdm (TdmCell.ofNat (n % 1000))
  | 10 => .pel (PelCell.ofNat (n % 1000))
  | 11 => .der (DerCell.ofNat (n % 1000))
  | 12 => .hl (HlCell.ofNat (n % 1000))
  | 13 => .qs (QsCell.ofNat (n % 1000))
  | 14 => .pan (PanCell.ofNat (n % 1000))
  | 15 => .crr (CrrCell.ofNat (n % 1000))
  | 16 => .sbg (SbgCell.ofNat (n % 1000))
  | 17 => .svc (SvcCell.ofNat (n % 1000))
  | 18 => .ao (AoCell.ofNat (n % 1000))
  | 19 => .cry (CryCell.ofNat (n % 1000))
  | 20 => .bell (BellCell.ofNat (n % 1000))
  | 21 => .clk (ClkCell.ofNat (n % 1000))
  | 22 => .tim (TimCell.ofNat (n % 1000))
  | 23 => .mon (MonCell.ofNat (n % 1000))
  | 24 => .bias (BiasCell.ofNat (n % 1000))
  | 25 => .cal (CalCell.ofNat (n % 1000))
  | 26 => .pwr (PwrCell.ofNat (n % 1000))
  | 27 => .alm (AlmCell.ofNat (n % 1000))
  | 28 => .pc (PcCell.ofNat (n % 1000))
  | 29 => .trc (TrcCell.ofNat (n % 1000))
  | 30 => .inj (InjCell.ofNat (n % 1000))
  | 31 => .crc (CrcCell.ofNat (n % 1000))
  | 32 => .tel (TelCell.ofNat (n % 1000))
  | 33 => .sys (SysCell.ofNat (n % 1000))
  | 34 => .live (Alm.ofNat (n % 1000))
  | 35 => .sticky (Alm.ofNat (n % 1000))
  | 36 => .mask (Alm.ofNat (n % 1000))
  | 37 => .win (Win.ofNat (n % 1000))
  | 38 => .winNew (Win.ofNat (n % 1000))
  | _ => .winDirty (Win.ofNat (n % 1000))

/-- A name can be read back from its number. -/
theorem Cell.ofCode_code (a : Cell) : Cell.ofCode a.code = a := by
  cases a with
  | id x =>
    have h := x.ctorIdx_small
    have h1 : (0 + x.ctorIdx) / 1000 = 0 := by omega
    have h2 : (0 + x.ctorIdx) % 1000 = x.ctorIdx := by omega
    simp only [Cell.code, Cell.ofCode, h1, h2, IdCell.ofNat_ctorIdx]
  | boot x =>
    have h := x.ctorIdx_small
    have h1 : (1000 + x.ctorIdx) / 1000 = 1 := by omega
    have h2 : (1000 + x.ctorIdx) % 1000 = x.ctorIdx := by omega
    simp only [Cell.code, Cell.ofCode, h1, h2, BootCell.ofNat_ctorIdx]
  | tkt x =>
    have h := x.ctorIdx_small
    have h1 : (2000 + x.ctorIdx) / 1000 = 2 := by omega
    have h2 : (2000 + x.ctorIdx) % 1000 = x.ctorIdx := by omega
    simp only [Cell.code, Cell.ofCode, h1, h2, TktCell.ofNat_ctorIdx]
  | chn x =>
    have h := x.ctorIdx_small
    have h1 : (3000 + x.ctorIdx) / 1000 = 3 := by omega
    have h2 : (3000 + x.ctorIdx) % 1000 = x.ctorIdx := by omega
    simp only [Cell.code, Cell.ofCode, h1, h2, ChnCell.ofNat_ctorIdx]
  | lt x =>
    have h := x.ctorIdx_small
    have h1 : (4000 + x.ctorIdx) / 1000 = 4 := by omega
    have h2 : (4000 + x.ctorIdx) % 1000 = x.ctorIdx := by omega
    simp only [Cell.code, Cell.ofCode, h1, h2, LtCell.ofNat_ctorIdx]
  | las x =>
    have h := x.ctorIdx_small
    have h1 : (5000 + x.ctorIdx) / 1000 = 5 := by omega
    have h2 : (5000 + x.ctorIdx) % 1000 = x.ctorIdx := by omega
    simp only [Cell.code, Cell.ofCode, h1, h2, LasCell.ofNat_ctorIdx]
  | lr x =>
    have h := x.ctorIdx_small
    have h1 : (6000 + x.ctorIdx) / 1000 = 6 := by omega
    have h2 : (6000 + x.ctorIdx) % 1000 = x.ctorIdx := by omega
    simp only [Cell.code, Cell.ofCode, h1, h2, LrCell.ofNat_ctorIdx]
  | fec x =>
    have h := x.ctorIdx_small
    have h1 : (7000 + x.ctorIdx) / 1000 = 7 := by omega
    have h2 : (7000 + x.ctorIdx) % 1000 = x.ctorIdx := by omega
    simp only [Cell.code, Cell.ofCode, h1, h2, FecCell.ofNat_ctorIdx]
  | ct x =>
    have h := x.ctorIdx_small
    have h1 : (8000 + x.ctorIdx) / 1000 = 8 := by omega
    have h2 : (8000 + x.ctorIdx) % 1000 = x.ctorIdx := by omega
    simp only [Cell.code, Cell.ofCode, h1, h2, CtCell.ofNat_ctorIdx]
  | tdm x =>
    have h := x.ctorIdx_small
    have h1 : (9000 + x.ctorIdx) / 1000 = 9 := by omega
    have h2 : (9000 + x.ctorIdx) % 1000 = x.ctorIdx := by omega
    simp only [Cell.code, Cell.ofCode, h1, h2, TdmCell.ofNat_ctorIdx]
  | pel x =>
    have h := x.ctorIdx_small
    have h1 : (10000 + x.ctorIdx) / 1000 = 10 := by omega
    have h2 : (10000 + x.ctorIdx) % 1000 = x.ctorIdx := by omega
    simp only [Cell.code, Cell.ofCode, h1, h2, PelCell.ofNat_ctorIdx]
  | der x =>
    have h := x.ctorIdx_small
    have h1 : (11000 + x.ctorIdx) / 1000 = 11 := by omega
    have h2 : (11000 + x.ctorIdx) % 1000 = x.ctorIdx := by omega
    simp only [Cell.code, Cell.ofCode, h1, h2, DerCell.ofNat_ctorIdx]
  | hl x =>
    have h := x.ctorIdx_small
    have h1 : (12000 + x.ctorIdx) / 1000 = 12 := by omega
    have h2 : (12000 + x.ctorIdx) % 1000 = x.ctorIdx := by omega
    simp only [Cell.code, Cell.ofCode, h1, h2, HlCell.ofNat_ctorIdx]
  | qs x =>
    have h := x.ctorIdx_small
    have h1 : (13000 + x.ctorIdx) / 1000 = 13 := by omega
    have h2 : (13000 + x.ctorIdx) % 1000 = x.ctorIdx := by omega
    simp only [Cell.code, Cell.ofCode, h1, h2, QsCell.ofNat_ctorIdx]
  | pan x =>
    have h := x.ctorIdx_small
    have h1 : (14000 + x.ctorIdx) / 1000 = 14 := by omega
    have h2 : (14000 + x.ctorIdx) % 1000 = x.ctorIdx := by omega
    simp only [Cell.code, Cell.ofCode, h1, h2, PanCell.ofNat_ctorIdx]
  | crr x =>
    have h := x.ctorIdx_small
    have h1 : (15000 + x.ctorIdx) / 1000 = 15 := by omega
    have h2 : (15000 + x.ctorIdx) % 1000 = x.ctorIdx := by omega
    simp only [Cell.code, Cell.ofCode, h1, h2, CrrCell.ofNat_ctorIdx]
  | sbg x =>
    have h := x.ctorIdx_small
    have h1 : (16000 + x.ctorIdx) / 1000 = 16 := by omega
    have h2 : (16000 + x.ctorIdx) % 1000 = x.ctorIdx := by omega
    simp only [Cell.code, Cell.ofCode, h1, h2, SbgCell.ofNat_ctorIdx]
  | svc x =>
    have h := x.ctorIdx_small
    have h1 : (17000 + x.ctorIdx) / 1000 = 17 := by omega
    have h2 : (17000 + x.ctorIdx) % 1000 = x.ctorIdx := by omega
    simp only [Cell.code, Cell.ofCode, h1, h2, SvcCell.ofNat_ctorIdx]
  | ao x =>
    have h := x.ctorIdx_small
    have h1 : (18000 + x.ctorIdx) / 1000 = 18 := by omega
    have h2 : (18000 + x.ctorIdx) % 1000 = x.ctorIdx := by omega
    simp only [Cell.code, Cell.ofCode, h1, h2, AoCell.ofNat_ctorIdx]
  | cry x =>
    have h := x.ctorIdx_small
    have h1 : (19000 + x.ctorIdx) / 1000 = 19 := by omega
    have h2 : (19000 + x.ctorIdx) % 1000 = x.ctorIdx := by omega
    simp only [Cell.code, Cell.ofCode, h1, h2, CryCell.ofNat_ctorIdx]
  | bell x =>
    have h := x.ctorIdx_small
    have h1 : (20000 + x.ctorIdx) / 1000 = 20 := by omega
    have h2 : (20000 + x.ctorIdx) % 1000 = x.ctorIdx := by omega
    simp only [Cell.code, Cell.ofCode, h1, h2, BellCell.ofNat_ctorIdx]
  | clk x =>
    have h := x.ctorIdx_small
    have h1 : (21000 + x.ctorIdx) / 1000 = 21 := by omega
    have h2 : (21000 + x.ctorIdx) % 1000 = x.ctorIdx := by omega
    simp only [Cell.code, Cell.ofCode, h1, h2, ClkCell.ofNat_ctorIdx]
  | tim x =>
    have h := x.ctorIdx_small
    have h1 : (22000 + x.ctorIdx) / 1000 = 22 := by omega
    have h2 : (22000 + x.ctorIdx) % 1000 = x.ctorIdx := by omega
    simp only [Cell.code, Cell.ofCode, h1, h2, TimCell.ofNat_ctorIdx]
  | mon x =>
    have h := x.ctorIdx_small
    have h1 : (23000 + x.ctorIdx) / 1000 = 23 := by omega
    have h2 : (23000 + x.ctorIdx) % 1000 = x.ctorIdx := by omega
    simp only [Cell.code, Cell.ofCode, h1, h2, MonCell.ofNat_ctorIdx]
  | bias x =>
    have h := x.ctorIdx_small
    have h1 : (24000 + x.ctorIdx) / 1000 = 24 := by omega
    have h2 : (24000 + x.ctorIdx) % 1000 = x.ctorIdx := by omega
    simp only [Cell.code, Cell.ofCode, h1, h2, BiasCell.ofNat_ctorIdx]
  | cal x =>
    have h := x.ctorIdx_small
    have h1 : (25000 + x.ctorIdx) / 1000 = 25 := by omega
    have h2 : (25000 + x.ctorIdx) % 1000 = x.ctorIdx := by omega
    simp only [Cell.code, Cell.ofCode, h1, h2, CalCell.ofNat_ctorIdx]
  | pwr x =>
    have h := x.ctorIdx_small
    have h1 : (26000 + x.ctorIdx) / 1000 = 26 := by omega
    have h2 : (26000 + x.ctorIdx) % 1000 = x.ctorIdx := by omega
    simp only [Cell.code, Cell.ofCode, h1, h2, PwrCell.ofNat_ctorIdx]
  | alm x =>
    have h := x.ctorIdx_small
    have h1 : (27000 + x.ctorIdx) / 1000 = 27 := by omega
    have h2 : (27000 + x.ctorIdx) % 1000 = x.ctorIdx := by omega
    simp only [Cell.code, Cell.ofCode, h1, h2, AlmCell.ofNat_ctorIdx]
  | pc x =>
    have h := x.ctorIdx_small
    have h1 : (28000 + x.ctorIdx) / 1000 = 28 := by omega
    have h2 : (28000 + x.ctorIdx) % 1000 = x.ctorIdx := by omega
    simp only [Cell.code, Cell.ofCode, h1, h2, PcCell.ofNat_ctorIdx]
  | trc x =>
    have h := x.ctorIdx_small
    have h1 : (29000 + x.ctorIdx) / 1000 = 29 := by omega
    have h2 : (29000 + x.ctorIdx) % 1000 = x.ctorIdx := by omega
    simp only [Cell.code, Cell.ofCode, h1, h2, TrcCell.ofNat_ctorIdx]
  | inj x =>
    have h := x.ctorIdx_small
    have h1 : (30000 + x.ctorIdx) / 1000 = 30 := by omega
    have h2 : (30000 + x.ctorIdx) % 1000 = x.ctorIdx := by omega
    simp only [Cell.code, Cell.ofCode, h1, h2, InjCell.ofNat_ctorIdx]
  | crc x =>
    have h := x.ctorIdx_small
    have h1 : (31000 + x.ctorIdx) / 1000 = 31 := by omega
    have h2 : (31000 + x.ctorIdx) % 1000 = x.ctorIdx := by omega
    simp only [Cell.code, Cell.ofCode, h1, h2, CrcCell.ofNat_ctorIdx]
  | tel x =>
    have h := x.ctorIdx_small
    have h1 : (32000 + x.ctorIdx) / 1000 = 32 := by omega
    have h2 : (32000 + x.ctorIdx) % 1000 = x.ctorIdx := by omega
    simp only [Cell.code, Cell.ofCode, h1, h2, TelCell.ofNat_ctorIdx]
  | sys x =>
    have h := x.ctorIdx_small
    have h1 : (33000 + x.ctorIdx) / 1000 = 33 := by omega
    have h2 : (33000 + x.ctorIdx) % 1000 = x.ctorIdx := by omega
    simp only [Cell.code, Cell.ofCode, h1, h2, SysCell.ofNat_ctorIdx]
  | live x =>
    have h := x.ctorIdx_small
    have h1 : (34000 + x.ctorIdx) / 1000 = 34 := by omega
    have h2 : (34000 + x.ctorIdx) % 1000 = x.ctorIdx := by omega
    simp only [Cell.code, Cell.ofCode, h1, h2, Alm.ofNat_ctorIdx]
  | sticky x =>
    have h := x.ctorIdx_small
    have h1 : (35000 + x.ctorIdx) / 1000 = 35 := by omega
    have h2 : (35000 + x.ctorIdx) % 1000 = x.ctorIdx := by omega
    simp only [Cell.code, Cell.ofCode, h1, h2, Alm.ofNat_ctorIdx]
  | mask x =>
    have h := x.ctorIdx_small
    have h1 : (36000 + x.ctorIdx) / 1000 = 36 := by omega
    have h2 : (36000 + x.ctorIdx) % 1000 = x.ctorIdx := by omega
    simp only [Cell.code, Cell.ofCode, h1, h2, Alm.ofNat_ctorIdx]
  | win x =>
    have h := x.ctorIdx_small
    have h1 : (37000 + x.ctorIdx) / 1000 = 37 := by omega
    have h2 : (37000 + x.ctorIdx) % 1000 = x.ctorIdx := by omega
    simp only [Cell.code, Cell.ofCode, h1, h2, Win.ofNat_ctorIdx]
  | winNew x =>
    have h := x.ctorIdx_small
    have h1 : (38000 + x.ctorIdx) / 1000 = 38 := by omega
    have h2 : (38000 + x.ctorIdx) % 1000 = x.ctorIdx := by omega
    simp only [Cell.code, Cell.ofCode, h1, h2, Win.ofNat_ctorIdx]
  | winDirty x =>
    have h := x.ctorIdx_small
    have h1 : (39000 + x.ctorIdx) / 1000 = 39 := by omega
    have h2 : (39000 + x.ctorIdx) % 1000 = x.ctorIdx := by omega
    simp only [Cell.code, Cell.ofCode, h1, h2, Win.ofNat_ctorIdx]

/-- Different names have different numbers. -/
theorem Cell.code_inj {a b : Cell} (h : a.code = b.code) : a = b := by
  rw [← Cell.ofCode_code a, ← Cell.ofCode_code b, h]

/-- Of two keys one goes before the other, or they are equal. -/
theorem Key.before_total (a b : Key) : a.before b = true ∨ a = b ∨ b.before a = true := by
  obtain ⟨ca, da, ia⟩ := a
  obtain ⟨cb, db, ib⟩ := b
  by_cases hc : ca.code = cb.code
  · have := Cell.code_inj hc
    subst this
    simp only [Key.before, if_true, Key.mk.injEq, true_and]
    by_cases hd : da = db
    · subst hd
      simp only [if_true, true_and, decide_eq_true_eq]
      omega
    · simp only [hd, Ne.symm hd, if_false, false_and, false_or, decide_eq_true_eq]
      omega
  · simp only [Key.before, hc, Ne.symm hc, if_false, decide_eq_true_eq]
    omega

/-- No key goes before itself. -/
theorem Key.before_irrefl (a : Key) : a.before a = false := by simp [Key.before]

/-- The order of keys is transitive. -/
theorem Key.before_trans {a b c : Key} (h1 : a.before b = true) (h2 : b.before c = true) : a.before c = true := by
  unfold Key.before at *
  split_ifs at h1 h2 ⊢ <;> simp only [decide_eq_true_eq] at * <;> omega

end Sys2Proof.Machine
end

