-- ==== Sys2Proof/Laws/Store.lean ====
section
/-!
SUPPORT. The store and the mailbox: reading after writing, and that every write keeps the canonical form.
-/
namespace Sys2Proof.Machine

theorem Store.get_insert_self (k : Key) (v : Nat) (st : Store) (h : ∀ e ∈ st, e.1 ≠ k) :
    Store.get (Store.insert (k, v) st) k = v := by
  induction st with
  | nil => simp [Store.insert, Store.get]
  | cons x r ih =>
    have hx : x.1 ≠ k := h x (by simp)
    unfold Store.insert
    split
    · simp [Store.get]
    · simp only [Store.get, hx, if_false]
      exact ih fun e he => h e (by simp [he])

theorem Store.get_insert_ne (k k' : Key) (v : Nat) (st : Store) (h : k' ≠ k) :
    Store.get (Store.insert (k, v) st) k' = Store.get st k' := by
  induction st with
  | nil => simp [Store.insert, Store.get, h.symm]
  | cons x r ih =>
    unfold Store.insert
    split
    · simp [Store.get, h.symm]
    · simp only [Store.get, ih]

theorem Store.get_filter (p : Key → Bool) (st : Store) (k : Key) :
    Store.get (st.filter fun e => p e.1) k = if p k then Store.get st k else k.reset := by
  induction st with
  | nil => simp [Store.get]
  | cons x r ih =>
    by_cases hx : x.1 = k
    · subst hx
      by_cases hp : p x.1
      · simp [hp, Store.get]
      · simpa [List.filter_cons, hp] using ih
    · by_cases hp : p x.1
      · simp [hp, Store.get, hx, ih]
      · simp [hp, Store.get, hx, ih]

theorem Store.get_erase (st : Store) (k k' : Key) :
    Store.get (st.erase k) k' = if k' = k then k'.reset else Store.get st k' := by
  have := Store.get_filter (fun x => decide (x ≠ k)) st k'
  unfold Store.erase
  rw [this]
  by_cases h : k' = k <;> simp [h]

/-- Reading after writing, at any key. -/
theorem Store.get_put (st : Store) (k k' : Key) (v : Nat) :
    Store.get (Store.put st k v) k' = if k' = k then v else Store.get st k' := by
  unfold Store.put
  by_cases hk : k' = k
  · subst hk
    split
    · rename_i h
      simp [Store.get_erase, h]
    · rw [Store.get_insert_self]
      · simp
      · intro e he
        simpa [Store.erase] using (List.mem_filter.1 he).2
  · split
    · simp [Store.get_erase, hk]
    · simp [Store.get_insert_ne _ _ _ _ hk, Store.get_erase, hk]

-- Sorted stores, through the pairwise order of their keys.

theorem Store.sorted_iff (st : Store) : st.sorted = true ↔ st.Pairwise fun a b => a.1.before b.1 = true := by
  induction st with
  | nil => simp [Store.sorted]
  | cons a r ih =>
    cases r with
    | nil => simp [Store.sorted]
    | cons b r =>
      simp only [Store.sorted, Bool.and_eq_true, ih, List.pairwise_cons (a := a)]
      constructor
      · rintro ⟨hab, hr⟩
        refine ⟨?_, hr⟩
        intro c hc
        rcases List.mem_cons.1 hc with rfl | hc
        · exact hab
        · exact Key.before_trans hab ((List.pairwise_cons.1 hr).1 c hc)
      · rintro ⟨ha, hr⟩
        exact ⟨ha b (by simp), hr⟩

theorem Store.mem_insert (e x : Key × Nat) (st : Store) : x ∈ Store.insert e st ↔ x = e ∨ x ∈ st := by
  induction st with
  | nil => simp [Store.insert]
  | cons a r ih =>
    unfold Store.insert
    split
    · simp
    · simp [ih]
      tauto

theorem Store.pairwise_insert (e : Key × Nat) (st : Store)
    (h : st.Pairwise fun a b => a.1.before b.1 = true) (hne : ∀ x ∈ st, x.1 ≠ e.1) :
    (Store.insert e st).Pairwise fun a b => a.1.before b.1 = true := by
  induction st with
  | nil => simp [Store.insert]
  | cons a r ih =>
    obtain ⟨ha, hr⟩ := List.pairwise_cons.1 h
    unfold Store.insert
    split
    · rename_i he
      refine List.pairwise_cons.2 ⟨?_, h⟩
      intro x hx
      rcases List.mem_cons.1 hx with rfl | hx
      · exact he
      · exact Key.before_trans he (ha x hx)
    · rename_i he
      refine List.pairwise_cons.2 ⟨?_, ih hr fun x hx => hne x (by simp [hx])⟩
      intro x hx
      rcases (Store.mem_insert e x r).1 hx with rfl | hx
      · rcases Key.before_total x.1 a.1 with h1 | h1 | h1
        · exact absurd h1 he
        · exact absurd h1.symm (hne a (by simp))
        · exact h1
      · exact ha x hx

theorem Store.wf_iff (st : Store) :
    st.wf = true ↔ (st.Pairwise fun a b => a.1.before b.1 = true) ∧ ∀ e ∈ st, e.2 ≠ e.1.reset := by
  simp [Store.wf, Store.sorted_iff]

theorem Store.wf_filter {st : Store} (h : st.wf = true) (p : Key × Nat → Bool) : Store.wf (st.filter p) = true := by
  rw [Store.wf_iff] at h ⊢
  exact ⟨h.1.filter _, fun e he => h.2 e (List.mem_filter.1 he).1⟩

/-- Writing a key keeps the canonical form. -/
theorem Store.wf_put {st : Store} (h : st.wf = true) (k : Key) (v : Nat) : (Store.put st k v).wf = true := by
  have he : (st.erase k).wf = true := Store.wf_filter h _
  unfold Store.put
  split
  · exact he
  · rename_i hv
    rw [Store.wf_iff] at he ⊢
    refine ⟨Store.pairwise_insert _ _ he.1 ?_, ?_⟩
    · intro x hx
      simpa [Store.erase] using (List.mem_filter.1 hx).2
    · intro e h1
      rcases (Store.mem_insert _ _ _).1 h1 with rfl | h1
      · exact hv
      · exact he.2 e h1

-- The mailbox.

theorem mboxGet_insert_self (m : List Host.Cell) (a : Nat) (b : Byte) (h : ∀ e ∈ m, e.1 ≠ a) :
    mboxGet (mboxInsert a b m) a = b := by
  induction m with
  | nil => simp [mboxInsert, mboxGet]
  | cons x r ih =>
    have hx : x.1 ≠ a := h x (by simp)
    unfold mboxInsert
    split
    · simp [mboxGet]
    · simp only [mboxGet, hx, if_false]
      exact ih fun e he => h e (by simp [he])

theorem mboxGet_insert_ne (m : List Host.Cell) (a x : Nat) (b : Byte) (h : x ≠ a) :
    mboxGet (mboxInsert a b m) x = mboxGet m x := by
  induction m with
  | nil => simp [mboxInsert, mboxGet, h.symm]
  | cons e r ih =>
    unfold mboxInsert
    split
    · simp [mboxGet, h.symm]
    · simp only [mboxGet, ih]

theorem mboxGet_filter (m : List Host.Cell) (a x : Nat) :
    mboxGet (m.filter fun e => decide (e.1 ≠ a)) x = if x = a then mboxDefault else mboxGet m x := by
  induction m with
  | nil => simp [mboxGet]
  | cons e r ih =>
    by_cases he : e.1 = a
    · by_cases hx : x = a
      · simpa [List.filter_cons, he, hx] using ih
      · have : ¬ a = x := fun h => hx h.symm
        simp [he, hx, mboxGet, this]
        simpa [hx] using ih
    · by_cases hx : x = a
      · subst hx
        simp [he, mboxGet]
        simpa using ih
      · simp only [List.filter_cons, he, ne_eq, not_false_eq_true, decide_true, if_true, mboxGet, hx, if_false]
        simp only [hx, if_false, ne_eq] at ih
        rw [ih]

/-- Reading a byte of the mailbox after writing one. -/
theorem mboxGet_put (m : List Host.Cell) (a x : Nat) (b : Byte) :
    mboxGet (mboxPut m a b) x = if x = a then b else mboxGet m x := by
  have hf := mboxGet_filter m a x
  have hn : ∀ e ∈ m.filter (fun e => decide (e.1 ≠ a)), e.1 ≠ a := fun e he => by simpa using (List.mem_filter.1 he).2
  unfold mboxPut
  by_cases hx : x = a
  · subst hx
    split
    · rename_i h
      rw [hf]
      simp [h]
    · rw [mboxGet_insert_self _ _ _ hn]
      simp
  · split
    · rw [hf, if_neg hx]
    · rw [mboxGet_insert_ne _ _ _ _ hx, hf, if_neg hx]

theorem Memory.wf_iff (m : List Host.Cell) :
    Memory.wf m = true ↔ (m.Pairwise fun a b => a.1 < b.1) ∧ ∀ e ∈ m, e.2 ≠ mboxDefault := by
  induction m with
  | nil => simp [Memory.wf]
  | cons a r ih =>
    cases r with
    | nil => simp [Memory.wf]
    | cons b r =>
      simp only [Memory.wf, Bool.and_eq_true, ih, List.pairwise_cons (a := a), decide_eq_true_eq]
      constructor
      · rintro ⟨⟨hab, ha⟩, hp, hv⟩
        refine ⟨⟨?_, hp⟩, ?_⟩
        · intro c hc
          rcases List.mem_cons.1 hc with rfl | hc
          · exact hab
          · exact lt_trans hab ((List.pairwise_cons.1 hp).1 c hc)
        · intro e he
          rcases List.mem_cons.1 he with rfl | he
          · exact ha
          · exact hv e he
      · rintro ⟨⟨ha, hp⟩, hv⟩
        exact ⟨⟨ha b (by simp), hv a (by simp)⟩, hp, fun e he => hv e (by simp [he])⟩

theorem mem_mboxInsert (a : Nat) (b : Byte) (x : Host.Cell) (m : List Host.Cell) :
    x ∈ mboxInsert a b m ↔ x = (a, b) ∨ x ∈ m := by
  induction m with
  | nil => simp [mboxInsert]
  | cons e r ih =>
    unfold mboxInsert
    split
    · simp
    · simp [ih]
      tauto

theorem mboxInsert_pairwise (a : Nat) (b : Byte) (m : List Host.Cell)
    (h : m.Pairwise fun a b => a.1 < b.1) (hne : ∀ x ∈ m, x.1 ≠ a) :
    (mboxInsert a b m).Pairwise fun a b => a.1 < b.1 := by
  induction m with
  | nil => simp [mboxInsert]
  | cons e r ih =>
    obtain ⟨he, hr⟩ := List.pairwise_cons.1 h
    unfold mboxInsert
    split
    · rename_i hlt
      refine List.pairwise_cons.2 ⟨?_, h⟩
      intro x hx
      rcases List.mem_cons.1 hx with rfl | hx
      · exact hlt
      · exact lt_trans hlt (he x hx)
    · rename_i hlt
      refine List.pairwise_cons.2 ⟨?_, ih hr fun x hx => hne x (by simp [hx])⟩
      intro x hx
      rcases (mem_mboxInsert a b x r).1 hx with rfl | hx
      · have := hne e (by simp)
        simp only at *
        omega
      · exact he x hx

/-- Writing a byte of the mailbox keeps the canonical form. -/
theorem Memory.wf_put {m : List Host.Cell} (h : Memory.wf m = true) (a : Nat) (b : Byte) :
    Memory.wf (mboxPut m a b) = true := by
  have hf : Memory.wf (m.filter fun e => decide (e.1 ≠ a)) = true := by
    rw [Memory.wf_iff] at h ⊢
    exact ⟨h.1.filter _, fun e he => h.2 e (List.mem_filter.1 he).1⟩
  unfold mboxPut
  split
  · exact hf
  · rename_i hb
    rw [Memory.wf_iff] at hf ⊢
    refine ⟨mboxInsert_pairwise _ _ _ hf.1 ?_, ?_⟩
    · intro x hx
      simpa using (List.mem_filter.1 hx).2
    · intro e he
      rcases (mem_mboxInsert _ _ _ _).1 he with rfl | he
      · exact hb
      · exact hf.2 e he

/-- Writing a word of the mailbox keeps the canonical form. -/
theorem Memory.wf_putWord {m : List Host.Cell} (h : Memory.wf m = true) (a w : Nat) :
    Memory.wf (mboxPutWord m a w) = true :=
  Memory.wf_put (Memory.wf_put (Memory.wf_put (Memory.wf_put h _ _) _ _) _ _) _ _

end Sys2Proof.Machine
end

