-- ==== Sys2Proof/Laws/State.lean ====
section
/-!
SUPPORT. What each field of the state reads after each update, and how the named operations read.
-/
namespace Sys2Proof.Machine

@[simp] theorem State.set_mbox (s : State) (c : Cell) (d i v : Nat) : (s.set c d i v).mbox = s.mbox := rfl
@[simp] theorem State.set_pending (s : State) (c : Cell) (d i v : Nat) : (s.set c d i v).pending = s.pending := rfl
@[simp] theorem State.set_readData (s : State) (c : Cell) (d i v : Nat) : (s.set c d i v).readData = s.readData := rfl
@[simp] theorem State.set_reports (s : State) (c : Cell) (d i v : Nat) : (s.set c d i v).reports = s.reports := rfl
@[simp] theorem State.set_held (s : State) (c : Cell) (d i v : Nat) : (s.set c d i v).held = s.held := rfl
@[simp] theorem State.set_tickets (s : State) (c : Cell) (d i v : Nat) : (s.set c d i v).tickets = s.tickets := rfl
@[simp] theorem State.set_run (s : State) (c : Cell) (d i v : Nat) : (s.set c d i v).run = s.run := rfl
@[simp] theorem State.set_policy (s : State) (c : Cell) (d i v : Nat) : (s.set c d i v).policy = s.policy := rfl
@[simp] theorem State.set_imgPolicy (s : State) (c : Cell) (d i v : Nat) : (s.set c d i v).imgPolicy = s.imgPolicy := rfl
@[simp] theorem State.set_trust (s : State) (c : Cell) (d i v : Nat) : (s.set c d i v).trust = s.trust := rfl
@[simp] theorem State.set_cands (s : State) (c : Cell) (d i v : Nat) : (s.set c d i v).cands = s.cands := rfl
@[simp] theorem State.set_telOut (s : State) (c : Cell) (d i v : Nat) : (s.set c d i v).telOut = s.telOut := rfl
@[simp] theorem State.set_clsTab (s : State) (c : Cell) (d i v : Nat) : (s.set c d i v).clsTab = s.clsTab := rfl
@[simp] theorem State.set_staged (s : State) (c : Cell) (d i v : Nat) : (s.set c d i v).staged = s.staged := rfl
@[simp] theorem State.set_rings (s : State) (c : Cell) (d i v : Nat) : (s.set c d i v).rings = s.rings := rfl
@[simp] theorem State.set_tracker (s : State) (c : Cell) (d i v : Nat) : (s.set c d i v).tracker = s.tracker := rfl
@[simp] theorem State.set_retireQ (s : State) (c : Cell) (d i v : Nat) : (s.set c d i v).retireQ = s.retireQ := rfl
@[simp] theorem State.set_merge (s : State) (c : Cell) (d i v : Nat) : (s.set c d i v).merge = s.merge := rfl
@[simp] theorem State.set_descs (s : State) (c : Cell) (d i v : Nat) : (s.set c d i v).descs = s.descs := rfl
@[simp] theorem State.set_kch (s : State) (c : Cell) (d i v : Nat) : (s.set c d i v).kch = s.kch := rfl
@[simp] theorem State.set_fups (s : State) (c : Cell) (d i v : Nat) : (s.set c d i v).fups = s.fups := rfl
@[simp] theorem State.setI_mbox (s : State) (c : Cell) (d i : Nat) (v : Int) : (s.setI c d i v).mbox = s.mbox := rfl
@[simp] theorem State.setI_pending (s : State) (c : Cell) (d i : Nat) (v : Int) : (s.setI c d i v).pending = s.pending := rfl
@[simp] theorem State.setI_readData (s : State) (c : Cell) (d i : Nat) (v : Int) : (s.setI c d i v).readData = s.readData := rfl
@[simp] theorem State.setI_reports (s : State) (c : Cell) (d i : Nat) (v : Int) : (s.setI c d i v).reports = s.reports := rfl
@[simp] theorem State.setI_held (s : State) (c : Cell) (d i : Nat) (v : Int) : (s.setI c d i v).held = s.held := rfl
@[simp] theorem State.setI_tickets (s : State) (c : Cell) (d i : Nat) (v : Int) : (s.setI c d i v).tickets = s.tickets := rfl
@[simp] theorem State.setI_run (s : State) (c : Cell) (d i : Nat) (v : Int) : (s.setI c d i v).run = s.run := rfl
@[simp] theorem State.setI_policy (s : State) (c : Cell) (d i : Nat) (v : Int) : (s.setI c d i v).policy = s.policy := rfl
@[simp] theorem State.setI_imgPolicy (s : State) (c : Cell) (d i : Nat) (v : Int) : (s.setI c d i v).imgPolicy = s.imgPolicy := rfl
@[simp] theorem State.setI_trust (s : State) (c : Cell) (d i : Nat) (v : Int) : (s.setI c d i v).trust = s.trust := rfl
@[simp] theorem State.setI_cands (s : State) (c : Cell) (d i : Nat) (v : Int) : (s.setI c d i v).cands = s.cands := rfl
@[simp] theorem State.setI_telOut (s : State) (c : Cell) (d i : Nat) (v : Int) : (s.setI c d i v).telOut = s.telOut := rfl
@[simp] theorem State.setI_clsTab (s : State) (c : Cell) (d i : Nat) (v : Int) : (s.setI c d i v).clsTab = s.clsTab := rfl
@[simp] theorem State.setI_staged (s : State) (c : Cell) (d i : Nat) (v : Int) : (s.setI c d i v).staged = s.staged := rfl
@[simp] theorem State.setI_rings (s : State) (c : Cell) (d i : Nat) (v : Int) : (s.setI c d i v).rings = s.rings := rfl
@[simp] theorem State.setI_tracker (s : State) (c : Cell) (d i : Nat) (v : Int) : (s.setI c d i v).tracker = s.tracker := rfl
@[simp] theorem State.setI_retireQ (s : State) (c : Cell) (d i : Nat) (v : Int) : (s.setI c d i v).retireQ = s.retireQ := rfl
@[simp] theorem State.setI_merge (s : State) (c : Cell) (d i : Nat) (v : Int) : (s.setI c d i v).merge = s.merge := rfl
@[simp] theorem State.setI_descs (s : State) (c : Cell) (d i : Nat) (v : Int) : (s.setI c d i v).descs = s.descs := rfl
@[simp] theorem State.setI_kch (s : State) (c : Cell) (d i : Nat) (v : Int) : (s.setI c d i v).kch = s.kch := rfl
@[simp] theorem State.setI_fups (s : State) (c : Cell) (d i : Nat) (v : Int) : (s.setI c d i v).fups = s.fups := rfl
@[simp] theorem State.setB_mbox (s : State) (c : Cell) (d i : Nat) (b : Bool) : (s.setB c d i b).mbox = s.mbox := rfl
@[simp] theorem State.setB_pending (s : State) (c : Cell) (d i : Nat) (b : Bool) : (s.setB c d i b).pending = s.pending := rfl
@[simp] theorem State.setB_readData (s : State) (c : Cell) (d i : Nat) (b : Bool) : (s.setB c d i b).readData = s.readData := rfl
@[simp] theorem State.setB_reports (s : State) (c : Cell) (d i : Nat) (b : Bool) : (s.setB c d i b).reports = s.reports := rfl
@[simp] theorem State.setB_held (s : State) (c : Cell) (d i : Nat) (b : Bool) : (s.setB c d i b).held = s.held := rfl
@[simp] theorem State.setB_tickets (s : State) (c : Cell) (d i : Nat) (b : Bool) : (s.setB c d i b).tickets = s.tickets := rfl
@[simp] theorem State.setB_run (s : State) (c : Cell) (d i : Nat) (b : Bool) : (s.setB c d i b).run = s.run := rfl
@[simp] theorem State.setB_policy (s : State) (c : Cell) (d i : Nat) (b : Bool) : (s.setB c d i b).policy = s.policy := rfl
@[simp] theorem State.setB_imgPolicy (s : State) (c : Cell) (d i : Nat) (b : Bool) : (s.setB c d i b).imgPolicy = s.imgPolicy := rfl
@[simp] theorem State.setB_trust (s : State) (c : Cell) (d i : Nat) (b : Bool) : (s.setB c d i b).trust = s.trust := rfl
@[simp] theorem State.setB_cands (s : State) (c : Cell) (d i : Nat) (b : Bool) : (s.setB c d i b).cands = s.cands := rfl
@[simp] theorem State.setB_telOut (s : State) (c : Cell) (d i : Nat) (b : Bool) : (s.setB c d i b).telOut = s.telOut := rfl
@[simp] theorem State.setB_clsTab (s : State) (c : Cell) (d i : Nat) (b : Bool) : (s.setB c d i b).clsTab = s.clsTab := rfl
@[simp] theorem State.setB_staged (s : State) (c : Cell) (d i : Nat) (b : Bool) : (s.setB c d i b).staged = s.staged := rfl
@[simp] theorem State.setB_rings (s : State) (c : Cell) (d i : Nat) (b : Bool) : (s.setB c d i b).rings = s.rings := rfl
@[simp] theorem State.setB_tracker (s : State) (c : Cell) (d i : Nat) (b : Bool) : (s.setB c d i b).tracker = s.tracker := rfl
@[simp] theorem State.setB_retireQ (s : State) (c : Cell) (d i : Nat) (b : Bool) : (s.setB c d i b).retireQ = s.retireQ := rfl
@[simp] theorem State.setB_merge (s : State) (c : Cell) (d i : Nat) (b : Bool) : (s.setB c d i b).merge = s.merge := rfl
@[simp] theorem State.setB_descs (s : State) (c : Cell) (d i : Nat) (b : Bool) : (s.setB c d i b).descs = s.descs := rfl
@[simp] theorem State.setB_kch (s : State) (c : Cell) (d i : Nat) (b : Bool) : (s.setB c d i b).kch = s.kch := rfl
@[simp] theorem State.setB_fups (s : State) (c : Cell) (d i : Nat) (b : Bool) : (s.setB c d i b).fups = s.fups := rfl
@[simp] theorem State.add_mbox (s : State) (c : Cell) (d i n : Nat) : (s.add c d i n).mbox = s.mbox := rfl
@[simp] theorem State.add_pending (s : State) (c : Cell) (d i n : Nat) : (s.add c d i n).pending = s.pending := rfl
@[simp] theorem State.add_readData (s : State) (c : Cell) (d i n : Nat) : (s.add c d i n).readData = s.readData := rfl
@[simp] theorem State.add_reports (s : State) (c : Cell) (d i n : Nat) : (s.add c d i n).reports = s.reports := rfl
@[simp] theorem State.add_held (s : State) (c : Cell) (d i n : Nat) : (s.add c d i n).held = s.held := rfl
@[simp] theorem State.add_tickets (s : State) (c : Cell) (d i n : Nat) : (s.add c d i n).tickets = s.tickets := rfl
@[simp] theorem State.add_run (s : State) (c : Cell) (d i n : Nat) : (s.add c d i n).run = s.run := rfl
@[simp] theorem State.add_policy (s : State) (c : Cell) (d i n : Nat) : (s.add c d i n).policy = s.policy := rfl
@[simp] theorem State.add_imgPolicy (s : State) (c : Cell) (d i n : Nat) : (s.add c d i n).imgPolicy = s.imgPolicy := rfl
@[simp] theorem State.add_trust (s : State) (c : Cell) (d i n : Nat) : (s.add c d i n).trust = s.trust := rfl
@[simp] theorem State.add_cands (s : State) (c : Cell) (d i n : Nat) : (s.add c d i n).cands = s.cands := rfl
@[simp] theorem State.add_telOut (s : State) (c : Cell) (d i n : Nat) : (s.add c d i n).telOut = s.telOut := rfl
@[simp] theorem State.add_clsTab (s : State) (c : Cell) (d i n : Nat) : (s.add c d i n).clsTab = s.clsTab := rfl
@[simp] theorem State.add_staged (s : State) (c : Cell) (d i n : Nat) : (s.add c d i n).staged = s.staged := rfl
@[simp] theorem State.add_rings (s : State) (c : Cell) (d i n : Nat) : (s.add c d i n).rings = s.rings := rfl
@[simp] theorem State.add_tracker (s : State) (c : Cell) (d i n : Nat) : (s.add c d i n).tracker = s.tracker := rfl
@[simp] theorem State.add_retireQ (s : State) (c : Cell) (d i n : Nat) : (s.add c d i n).retireQ = s.retireQ := rfl
@[simp] theorem State.add_merge (s : State) (c : Cell) (d i n : Nat) : (s.add c d i n).merge = s.merge := rfl
@[simp] theorem State.add_descs (s : State) (c : Cell) (d i n : Nat) : (s.add c d i n).descs = s.descs := rfl
@[simp] theorem State.add_kch (s : State) (c : Cell) (d i n : Nat) : (s.add c d i n).kch = s.kch := rfl
@[simp] theorem State.add_fups (s : State) (c : Cell) (d i n : Nat) : (s.add c d i n).fups = s.fups := rfl
@[simp] theorem State.inc_mbox (s : State) (c : Cell) (d i : Nat) : (s.inc c d i).mbox = s.mbox := rfl
@[simp] theorem State.inc_pending (s : State) (c : Cell) (d i : Nat) : (s.inc c d i).pending = s.pending := rfl
@[simp] theorem State.inc_readData (s : State) (c : Cell) (d i : Nat) : (s.inc c d i).readData = s.readData := rfl
@[simp] theorem State.inc_reports (s : State) (c : Cell) (d i : Nat) : (s.inc c d i).reports = s.reports := rfl
@[simp] theorem State.inc_held (s : State) (c : Cell) (d i : Nat) : (s.inc c d i).held = s.held := rfl
@[simp] theorem State.inc_tickets (s : State) (c : Cell) (d i : Nat) : (s.inc c d i).tickets = s.tickets := rfl
@[simp] theorem State.inc_run (s : State) (c : Cell) (d i : Nat) : (s.inc c d i).run = s.run := rfl
@[simp] theorem State.inc_policy (s : State) (c : Cell) (d i : Nat) : (s.inc c d i).policy = s.policy := rfl
@[simp] theorem State.inc_imgPolicy (s : State) (c : Cell) (d i : Nat) : (s.inc c d i).imgPolicy = s.imgPolicy := rfl
@[simp] theorem State.inc_trust (s : State) (c : Cell) (d i : Nat) : (s.inc c d i).trust = s.trust := rfl
@[simp] theorem State.inc_cands (s : State) (c : Cell) (d i : Nat) : (s.inc c d i).cands = s.cands := rfl
@[simp] theorem State.inc_telOut (s : State) (c : Cell) (d i : Nat) : (s.inc c d i).telOut = s.telOut := rfl
@[simp] theorem State.inc_clsTab (s : State) (c : Cell) (d i : Nat) : (s.inc c d i).clsTab = s.clsTab := rfl
@[simp] theorem State.inc_staged (s : State) (c : Cell) (d i : Nat) : (s.inc c d i).staged = s.staged := rfl
@[simp] theorem State.inc_rings (s : State) (c : Cell) (d i : Nat) : (s.inc c d i).rings = s.rings := rfl
@[simp] theorem State.inc_tracker (s : State) (c : Cell) (d i : Nat) : (s.inc c d i).tracker = s.tracker := rfl
@[simp] theorem State.inc_retireQ (s : State) (c : Cell) (d i : Nat) : (s.inc c d i).retireQ = s.retireQ := rfl
@[simp] theorem State.inc_merge (s : State) (c : Cell) (d i : Nat) : (s.inc c d i).merge = s.merge := rfl
@[simp] theorem State.inc_descs (s : State) (c : Cell) (d i : Nat) : (s.inc c d i).descs = s.descs := rfl
@[simp] theorem State.inc_kch (s : State) (c : Cell) (d i : Nat) : (s.inc c d i).kch = s.kch := rfl
@[simp] theorem State.inc_fups (s : State) (c : Cell) (d i : Nat) : (s.inc c d i).fups = s.fups := rfl
@[simp] theorem State.clear_mbox (s : State) (p : Key → Bool) : (s.clear p).mbox = s.mbox := rfl
@[simp] theorem State.clear_pending (s : State) (p : Key → Bool) : (s.clear p).pending = s.pending := rfl
@[simp] theorem State.clear_readData (s : State) (p : Key → Bool) : (s.clear p).readData = s.readData := rfl
@[simp] theorem State.clear_reports (s : State) (p : Key → Bool) : (s.clear p).reports = s.reports := rfl
@[simp] theorem State.clear_held (s : State) (p : Key → Bool) : (s.clear p).held = s.held := rfl
@[simp] theorem State.clear_tickets (s : State) (p : Key → Bool) : (s.clear p).tickets = s.tickets := rfl
@[simp] theorem State.clear_run (s : State) (p : Key → Bool) : (s.clear p).run = s.run := rfl
@[simp] theorem State.clear_policy (s : State) (p : Key → Bool) : (s.clear p).policy = s.policy := rfl
@[simp] theorem State.clear_imgPolicy (s : State) (p : Key → Bool) : (s.clear p).imgPolicy = s.imgPolicy := rfl
@[simp] theorem State.clear_trust (s : State) (p : Key → Bool) : (s.clear p).trust = s.trust := rfl
@[simp] theorem State.clear_cands (s : State) (p : Key → Bool) : (s.clear p).cands = s.cands := rfl
@[simp] theorem State.clear_telOut (s : State) (p : Key → Bool) : (s.clear p).telOut = s.telOut := rfl
@[simp] theorem State.clear_clsTab (s : State) (p : Key → Bool) : (s.clear p).clsTab = s.clsTab := rfl
@[simp] theorem State.clear_staged (s : State) (p : Key → Bool) : (s.clear p).staged = s.staged := rfl
@[simp] theorem State.clear_rings (s : State) (p : Key → Bool) : (s.clear p).rings = s.rings := rfl
@[simp] theorem State.clear_tracker (s : State) (p : Key → Bool) : (s.clear p).tracker = s.tracker := rfl
@[simp] theorem State.clear_retireQ (s : State) (p : Key → Bool) : (s.clear p).retireQ = s.retireQ := rfl
@[simp] theorem State.clear_merge (s : State) (p : Key → Bool) : (s.clear p).merge = s.merge := rfl
@[simp] theorem State.clear_descs (s : State) (p : Key → Bool) : (s.clear p).descs = s.descs := rfl
@[simp] theorem State.clear_kch (s : State) (p : Key → Bool) : (s.clear p).kch = s.kch := rfl
@[simp] theorem State.clear_fups (s : State) (p : Key → Bool) : (s.clear p).fups = s.fups := rfl
@[simp] theorem State.incIf_mbox (s : State) (b : Bool) (c : Cell) (d i : Nat) : (s.incIf b c d i).mbox = s.mbox := by
  cases b <;> rfl
@[simp] theorem State.incIf_pending (s : State) (b : Bool) (c : Cell) (d i : Nat) : (s.incIf b c d i).pending = s.pending := by
  cases b <;> rfl
@[simp] theorem State.incIf_readData (s : State) (b : Bool) (c : Cell) (d i : Nat) : (s.incIf b c d i).readData = s.readData := by
  cases b <;> rfl
@[simp] theorem State.incIf_reports (s : State) (b : Bool) (c : Cell) (d i : Nat) : (s.incIf b c d i).reports = s.reports := by
  cases b <;> rfl
@[simp] theorem State.incIf_held (s : State) (b : Bool) (c : Cell) (d i : Nat) : (s.incIf b c d i).held = s.held := by
  cases b <;> rfl
@[simp] theorem State.incIf_tickets (s : State) (b : Bool) (c : Cell) (d i : Nat) : (s.incIf b c d i).tickets = s.tickets := by
  cases b <;> rfl
@[simp] theorem State.incIf_run (s : State) (b : Bool) (c : Cell) (d i : Nat) : (s.incIf b c d i).run = s.run := by
  cases b <;> rfl
@[simp] theorem State.incIf_policy (s : State) (b : Bool) (c : Cell) (d i : Nat) : (s.incIf b c d i).policy = s.policy := by
  cases b <;> rfl
@[simp] theorem State.incIf_imgPolicy (s : State) (b : Bool) (c : Cell) (d i : Nat) : (s.incIf b c d i).imgPolicy = s.imgPolicy := by
  cases b <;> rfl
@[simp] theorem State.incIf_trust (s : State) (b : Bool) (c : Cell) (d i : Nat) : (s.incIf b c d i).trust = s.trust := by
  cases b <;> rfl
@[simp] theorem State.incIf_cands (s : State) (b : Bool) (c : Cell) (d i : Nat) : (s.incIf b c d i).cands = s.cands := by
  cases b <;> rfl
@[simp] theorem State.incIf_telOut (s : State) (b : Bool) (c : Cell) (d i : Nat) : (s.incIf b c d i).telOut = s.telOut := by
  cases b <;> rfl
@[simp] theorem State.incIf_clsTab (s : State) (b : Bool) (c : Cell) (d i : Nat) : (s.incIf b c d i).clsTab = s.clsTab := by
  cases b <;> rfl
@[simp] theorem State.incIf_staged (s : State) (b : Bool) (c : Cell) (d i : Nat) : (s.incIf b c d i).staged = s.staged := by
  cases b <;> rfl
@[simp] theorem State.incIf_rings (s : State) (b : Bool) (c : Cell) (d i : Nat) : (s.incIf b c d i).rings = s.rings := by
  cases b <;> rfl
@[simp] theorem State.incIf_tracker (s : State) (b : Bool) (c : Cell) (d i : Nat) : (s.incIf b c d i).tracker = s.tracker := by
  cases b <;> rfl
@[simp] theorem State.incIf_retireQ (s : State) (b : Bool) (c : Cell) (d i : Nat) : (s.incIf b c d i).retireQ = s.retireQ := by
  cases b <;> rfl
@[simp] theorem State.incIf_merge (s : State) (b : Bool) (c : Cell) (d i : Nat) : (s.incIf b c d i).merge = s.merge := by
  cases b <;> rfl
@[simp] theorem State.incIf_descs (s : State) (b : Bool) (c : Cell) (d i : Nat) : (s.incIf b c d i).descs = s.descs := by
  cases b <;> rfl
@[simp] theorem State.incIf_kch (s : State) (b : Bool) (c : Cell) (d i : Nat) : (s.incIf b c d i).kch = s.kch := by
  cases b <;> rfl
@[simp] theorem State.incIf_fups (s : State) (b : Bool) (c : Cell) (d i : Nat) : (s.incIf b c d i).fups = s.fups := by
  cases b <;> rfl

/-- An update of the lists alone leaves every cell. -/
@[simp] theorem State.get_lists (s : State) (mb pe rd re he ti ru po im tr ca te cl st ri tk rq me de kc fu) (c : Cell)
    (d i : Nat) : State.get ⟨s.cells, mb, pe, rd, re, he, ti, ru, po, im, tr, ca, te, cl, st, ri, tk, rq, me, de, kc, fu⟩ c d i =
      s.get c d i := rfl

@[simp] theorem State.flag_lists (s : State) (mb pe rd re he ti ru po im tr ca te cl st ri tk rq me de kc fu) (c : Cell)
    (d i : Nat) : State.flag ⟨s.cells, mb, pe, rd, re, he, ti, ru, po, im, tr, ca, te, cl, st, ri, tk, rq, me, de, kc, fu⟩ c d i =
      s.flag c d i := rfl

/-- A cell right after it is set, or any other cell. -/
theorem State.get_set (s : State) (c c' : Cell) (d d' i i' v : Nat) :
    (s.set c d i v).get c' d' i' = if c' = c ∧ d' = d ∧ i' = i then v else s.get c' d' i' := by
  simp only [State.get, State.set, Store.get_put, Key.mk.injEq]

theorem State.getK_set (s : State) (c : Cell) (d i v : Nat) (k : Key) :
    (s.set c d i v).getK k = if k = ⟨c, d, i⟩ then v else s.getK k := by
  simp only [State.getK, State.set, Store.get_put]

theorem State.getK_eq (s : State) (k : Key) : s.getK k = s.get k.cell k.die k.idx := rfl

@[simp] theorem State.get_set_self (s : State) (c : Cell) (d i v : Nat) : (s.set c d i v).get c d i = v := by
  simp [State.get_set]

theorem State.get_set_cell (s : State) {c c' : Cell} (h : c' ≠ c) (d d' i i' v : Nat) :
    (s.set c d i v).get c' d' i' = s.get c' d' i' := by
  simp [State.get_set, h]

theorem State.get_set_die (s : State) (c c' : Cell) {d d' : Nat} (h : d' ≠ d) (i i' v : Nat) :
    (s.set c d i v).get c' d' i' = s.get c' d' i' := by
  simp [State.get_set, h]

theorem State.get_setI (s : State) (c c' : Cell) (d d' i i' : Nat) (v : Int) :
    (s.setI c d i v).get c' d' i' = if c' = c ∧ d' = d ∧ i' = i then enc v else s.get c' d' i' :=
  State.get_set _ _ _ _ _ _ _ _

theorem State.get_setB (s : State) (c c' : Cell) (d d' i i' : Nat) (b : Bool) :
    (s.setB c d i b).get c' d' i' = if c' = c ∧ d' = d ∧ i' = i then b.toNat else s.get c' d' i' :=
  State.get_set _ _ _ _ _ _ _ _

theorem State.get_add (s : State) (c c' : Cell) (d d' i i' n : Nat) :
    (s.add c d i n).get c' d' i' = if c' = c ∧ d' = d ∧ i' = i then (s.get c d i + n) % 2 ^ 64 else s.get c' d' i' :=
  State.get_set _ _ _ _ _ _ _ _

theorem State.get_inc (s : State) (c c' : Cell) (d d' i i' : Nat) :
    (s.inc c d i).get c' d' i' = if c' = c ∧ d' = d ∧ i' = i then (s.get c d i + 1) % 2 ^ 64 else s.get c' d' i' :=
  State.get_set _ _ _ _ _ _ _ _

theorem State.get_clear (s : State) (p : Key → Bool) (c : Cell) (d i : Nat) :
    (s.clear p).get c d i = if p ⟨c, d, i⟩ then (⟨c, d, i⟩ : Key).reset else s.get c d i := by
  have h := Store.get_filter (fun k => !p k) s.cells ⟨c, d, i⟩
  simp only [State.get, State.clear]
  rw [h]
  cases p ⟨c, d, i⟩ <;> rfl

/-- A flag after a cell is set. -/
theorem State.flag_set (s : State) (c c' : Cell) (d d' i i' v : Nat) :
    (s.set c d i v).flag c' d' i' = if c' = c ∧ d' = d ∧ i' = i then decide (v ≠ 0) else s.flag c' d' i' := by
  simp only [State.flag, State.get_set]
  split <;> rfl

@[simp] theorem State.when_true (s : State) (f : State → State) : s.when true f = f s := rfl
@[simp] theorem State.when_false (s : State) (f : State → State) : s.when false f = s := rfl
@[simp] theorem State.each_nil {α : Type} (s : State) (f : State → α → State) : s.each [] f = s := rfl
@[simp] theorem State.each_cons {α : Type} (s : State) (a : α) (l : List α) (f : State → α → State) :
    s.each (a :: l) f = (f s a).each l f := rfl

end Sys2Proof.Machine
end

