-- ==== Sys2Proof/Laws/Reach.lean ====
section
/-!
SUPPORT. What an operation may change.  `Reach P Q s t`: `t` comes from `s` by writes of cells that `P` allows and of the other
parts that `Q` allows, and the canonical forms are kept.  One lemma per operation says everything it can do.
-/
namespace Sys2Proof.Machine

structure Reach (P : Key → Bool) (Q : Part → Bool) (s t : State) : Prop where
  cells : ∀ k, P k = false → t.getK k = s.getK k
  parts : ∀ p, Q p = false → p.same s t
  wf : s.wf = true → t.wf = true

theorem Part.same_refl (p : Part) (s : State) : p.same s s := by cases p <;> simp [Part.same]

theorem Part.same_trans {p : Part} {s t u : State} (h1 : p.same s t) (h2 : p.same t u) : p.same s u := by
  cases p <;> simp only [Part.same] at * <;> simp only [h1, h2, implies_true]

variable {P : Key → Bool} {Q : Part → Bool} {s0 s t u : State}

theorem Reach.refl : Reach P Q s s := ⟨fun _ _ => rfl, fun p _ => p.same_refl s, id⟩

theorem Reach.trans (h1 : Reach P Q s t) (h2 : Reach P Q t u) : Reach P Q s u :=
  ⟨fun k hk => (h2.cells k hk).trans (h1.cells k hk), fun p hp => Part.same_trans (h1.parts p hp) (h2.parts p hp),
    fun h => h2.wf (h1.wf h)⟩

theorem Reach.mono {P' : Key → Bool} {Q' : Part → Bool} (h : Reach P Q s t) (hP : ∀ k, P k = true → P' k = true)
    (hQ : ∀ p, Q p = true → Q' p = true) : Reach P' Q' s t :=
  ⟨fun k hk => h.cells k (by
      cases hp : P k with
      | false => rfl
      | true => simp [hP k hp] at hk),
    fun p hp => h.parts p (by
      cases hq : Q p with
      | false => rfl
      | true => simp [hQ p hq] at hp), h.wf⟩

/-- Parts that an update of other fields leaves alone, with the cells unchanged. -/
theorem Reach.parts_only (h : Reach P Q s0 s) (hc : t.cells = s.cells) (hm : t.mbox = s.mbox)
    (hp : ∀ p, Q p = false → p.same s t) : Reach P Q s0 t :=
  h.trans ⟨fun k _ => by simp [State.getK, hc], hp, fun hw => by simpa [State.wf, hc, hm] using hw⟩

theorem State.set_reach (h : Reach P Q s0 s) {c : Cell} {d i v : Nat} (hP : P ⟨c, d, i⟩ = true) :
    Reach P Q s0 (s.set c d i v) :=
  h.trans ⟨fun k hk => by
      rw [State.getK_set, if_neg]
      rintro rfl
      simp [hP] at hk,
    fun p _ => by cases p <;> simp [Part.same], fun hw => by
      simp only [State.wf, Bool.and_eq_true] at hw ⊢
      exact ⟨Store.wf_put hw.1 _ _, hw.2⟩⟩

theorem State.clear_reach (h : Reach P Q s0 s) {p : Key → Bool} (hP : ∀ k, p k = true → P k = true) :
    Reach P Q s0 (s.clear p) :=
  h.trans ⟨fun k hk => by
      have hp : p k = false := by
        cases hp : p k with
        | false => rfl
        | true => simp [hP k hp] at hk
      rw [State.getK_eq, State.get_clear, if_neg]
      · rfl
      · rw [show (⟨k.cell, k.die, k.idx⟩ : Key) = k from rfl, hp]
        simp,
    fun p _ => by cases p <;> simp [Part.same], fun hw => by
      simp only [State.wf, Bool.and_eq_true] at hw ⊢
      exact ⟨Store.wf_filter hw.1 _, hw.2⟩⟩

theorem State.each_reach {α : Type} {l : List α} {f : State → α → State} (h : Reach P Q s0 s)
    (hf : ∀ x a, Reach P Q s0 x → Reach P Q s0 (f x a)) : Reach P Q s0 (s.each l f) := by
  unfold State.each
  induction l generalizing s with
  | nil => exact h
  | cons a l ih => exact ih (hf _ _ h)

theorem foldl_reach {α : Type} {l : List α} {f : State → α → State} (h : Reach P Q s0 s)
    (hf : ∀ x a, Reach P Q s0 x → Reach P Q s0 (f x a)) : Reach P Q s0 (l.foldl f s) := State.each_reach h hf

theorem pairFold_reach {α β : Type} {l : List α} {f : State × β → α → State × β} {x : State × β} (h : Reach P Q s0 x.1)
    (hf : ∀ x a, Reach P Q s0 x.1 → Reach P Q s0 (f x a).1) : Reach P Q s0 (l.foldl f x).1 := by
  induction l generalizing x with
  | nil => exact h
  | cons a l ih => exact ih (hf _ _ h)

theorem State.when_reach {b : Bool} {f : State → State} (h : Reach P Q s0 s)
    (hf : ∀ x, Reach P Q s0 x → Reach P Q s0 (f x)) : Reach P Q s0 (s.when b f) := by
  unfold State.when
  split
  · exact hf _ h
  · exact h

theorem State.mbox_reach (h : Reach P Q s0 s) {m : List Host.Cell} (hq : Q .mbox = true)
    (hw : Memory.wf s.mbox = true → Memory.wf m = true) : Reach P Q s0 { s with mbox := m } :=
  h.trans ⟨fun _ _ => rfl, fun p hp => by cases p <;> simp_all [Part.same], fun hs => by
    simp only [State.wf, Bool.and_eq_true] at hs ⊢
    exact ⟨hs.1, hw hs.2⟩⟩

-- One lemma per list: a new value of it changes that part alone.

theorem State.readData_reach (h : Reach P Q s0 s) {l} (hq : Q .readData = true) : Reach P Q s0 { s with readData := l } :=
  h.parts_only rfl rfl fun p hp => by cases p <;> first | (simp only [Part.same, implies_true]; done) | simp [hq] at hp

theorem State.reports_reach (h : Reach P Q s0 s) {l} (hq : Q .reports = true) : Reach P Q s0 { s with reports := l } :=
  h.parts_only rfl rfl fun p hp => by cases p <;> first | (simp only [Part.same, implies_true]; done) | simp [hq] at hp

theorem State.held_reach (h : Reach P Q s0 s) {l} (hq : Q .held = true) : Reach P Q s0 { s with held := l } :=
  h.parts_only rfl rfl fun p hp => by cases p <;> first | (simp only [Part.same, implies_true]; done) | simp [hq] at hp

theorem State.tickets_reach (h : Reach P Q s0 s) {l} (hq : Q .tickets = true) : Reach P Q s0 { s with tickets := l } :=
  h.parts_only rfl rfl fun p hp => by cases p <;> first | (simp only [Part.same, implies_true]; done) | simp [hq] at hp

theorem State.run_reach (h : Reach P Q s0 s) {l} (hq : Q .run = true) : Reach P Q s0 { s with run := l } :=
  h.parts_only rfl rfl fun p hp => by cases p <;> first | (simp only [Part.same, implies_true]; done) | simp [hq] at hp

theorem State.policy_reach (h : Reach P Q s0 s) {l} (hq : Q .policy = true) : Reach P Q s0 { s with policy := l } :=
  h.parts_only rfl rfl fun p hp => by cases p <;> first | (simp only [Part.same, implies_true]; done) | simp [hq] at hp

theorem State.imgPolicy_reach (h : Reach P Q s0 s) {l} (hq : Q .imgPolicy = true) : Reach P Q s0 { s with imgPolicy := l } :=
  h.parts_only rfl rfl fun p hp => by cases p <;> first | (simp only [Part.same, implies_true]; done) | simp [hq] at hp

theorem State.trust_reach (h : Reach P Q s0 s) {l} (hq : Q .trust = true) : Reach P Q s0 { s with trust := l } :=
  h.parts_only rfl rfl fun p hp => by cases p <;> first | (simp only [Part.same, implies_true]; done) | simp [hq] at hp

theorem State.cands_reach (h : Reach P Q s0 s) {l} (hq : Q .cands = true) : Reach P Q s0 { s with cands := l } :=
  h.parts_only rfl rfl fun p hp => by cases p <;> first | (simp only [Part.same, implies_true]; done) | simp [hq] at hp

theorem State.telOut_reach (h : Reach P Q s0 s) {l} (hq : Q .telOut = true) : Reach P Q s0 { s with telOut := l } :=
  h.parts_only rfl rfl fun p hp => by cases p <;> first | (simp only [Part.same, implies_true]; done) | simp [hq] at hp

theorem State.clsTab_reach (h : Reach P Q s0 s) {l} (hq : Q .clsTab = true) : Reach P Q s0 { s with clsTab := l } :=
  h.parts_only rfl rfl fun p hp => by cases p <;> first | (simp only [Part.same, implies_true]; done) | simp [hq] at hp

theorem State.staged_reach (h : Reach P Q s0 s) {l} (hq : Q .staged = true) : Reach P Q s0 { s with staged := l } :=
  h.parts_only rfl rfl fun p hp => by cases p <;> first | (simp only [Part.same, implies_true]; done) | simp [hq] at hp

theorem State.rings_reach (h : Reach P Q s0 s) {l} (hq : Q .rings = true) : Reach P Q s0 { s with rings := l } :=
  h.parts_only rfl rfl fun p hp => by cases p <;> first | (simp only [Part.same, implies_true]; done) | simp [hq] at hp

theorem State.tracker_reach (h : Reach P Q s0 s) {l} (hq : Q .tracker = true) : Reach P Q s0 { s with tracker := l } :=
  h.parts_only rfl rfl fun p hp => by cases p <;> first | (simp only [Part.same, implies_true]; done) | simp [hq] at hp

theorem State.retireQ_reach (h : Reach P Q s0 s) {l} (hq : Q .retireQ = true) : Reach P Q s0 { s with retireQ := l } :=
  h.parts_only rfl rfl fun p hp => by cases p <;> first | (simp only [Part.same, implies_true]; done) | simp [hq] at hp

theorem State.merge_reach (h : Reach P Q s0 s) {l} (hq : Q .merge = true) : Reach P Q s0 { s with merge := l } :=
  h.parts_only rfl rfl fun p hp => by cases p <;> first | (simp only [Part.same, implies_true]; done) | simp [hq] at hp

theorem State.descs_reach (h : Reach P Q s0 s) {l} (hq : Q .descs = true) : Reach P Q s0 { s with descs := l } :=
  h.parts_only rfl rfl fun p hp => by cases p <;> first | (simp only [Part.same, implies_true]; done) | simp [hq] at hp

theorem State.kch_reach (h : Reach P Q s0 s) {l} (hq : Q .kch = true) : Reach P Q s0 { s with kch := l } :=
  h.parts_only rfl rfl fun p hp => by cases p <;> first | (simp only [Part.same, implies_true]; done) | simp [hq] at hp

theorem State.fups_reach (h : Reach P Q s0 s) {l} (hq : Q .fups = true) : Reach P Q s0 { s with fups := l } :=
  h.parts_only rfl rfl fun p hp => by cases p <;> first | (simp only [Part.same, implies_true]; done) | simp [hq] at hp

end Sys2Proof.Machine
end

