-- ==== Sys2Proof/Laws/MovesOps.lean ====
section
/-!
SUPPORT. What the operations of Machine/Ops.lean may change, one lemma each (Laws/Reach.lean).
-/
namespace Sys2Proof.Machine

set_option linter.unusedTactic false
set_option linter.unreachableTactic false

variable {P : Key → Bool} {Q : Part → Bool} {s0 s : State}

theorem State.setB_reach {c : Cell} {d : Nat} {i : Nat} {b : Bool} (hs : Reach P Q s0 s) (h1 : ∀ i, P ⟨c, d, i⟩) :
    Reach P Q s0 (State.setB s c d i b) := by
  unfold State.setB
  repeat' with_reducible first | assumption | apply State.set_reach | (intros; show P _ = true; apply_assumption) | split | dsimp only | intro _

theorem State.add_reach {c : Cell} {d : Nat} {i : Nat} {n : Nat} (hs : Reach P Q s0 s) (h1 : ∀ i, P ⟨c, d, i⟩) :
    Reach P Q s0 (State.add s c d i n) := by
  unfold State.add
  repeat' with_reducible first | assumption | apply State.set_reach | (intros; show P _ = true; apply_assumption) | split | dsimp only | intro _

theorem State.inc_reach {c : Cell} {d : Nat} {i : Nat} (hs : Reach P Q s0 s) (h1 : ∀ i, P ⟨c, d, i⟩) :
    Reach P Q s0 (State.inc s c d i) := by
  unfold State.inc
  repeat' with_reducible first | assumption | apply State.add_reach | (intros; show P _ = true; apply_assumption) | split | dsimp only | intro _

theorem State.incIf_reach {b : Bool} {c : Cell} {d : Nat} {i : Nat} (hs : Reach P Q s0 s) (h1 : ∀ i, P ⟨c, d, i⟩) :
    Reach P Q s0 (State.incIf s b c d i) := by
  unfold State.incIf
  repeat' with_reducible first | assumption | apply State.inc_reach | (intros; show P _ = true; apply_assumption) | split | dsimp only | intro _

theorem State.used_reach (hs : Reach P Q s0 s) (h1 : ∀ i, P ⟨.sys .freeCount, 0, i⟩) :
    Reach P Q s0 (State.used s) := by
  unfold State.used
  repeat' with_reducible first | assumption | apply State.inc_reach | (intros; show P _ = true; apply_assumption) | split | dsimp only | intro _

theorem State.procEnd_reach {id : Nat} {ok : Bool} {code : Nat} (hs : Reach P Q s0 s) (h1 : ∀ i, P ⟨.boot .procCalled, 0, i⟩) (h2 : ∀ i, P ⟨.boot .procCode, 0, i⟩) (h3 : ∀ i, P ⟨.boot .procDone, 0, i⟩) :
    Reach P Q s0 (State.procEnd s id ok code) := by
  unfold State.procEnd
  repeat' with_reducible first | assumption | apply State.set_reach | (intros; show P _ = true; apply_assumption) | split | dsimp only | intro _

theorem State.setI_reach {c : Cell} {d : Nat} {i : Nat} {v : Int} (hs : Reach P Q s0 s) (h1 : ∀ i, P ⟨c, d, i⟩) :
    Reach P Q s0 (State.setI s c d i v) := by
  unfold State.setI
  repeat' with_reducible first | assumption | apply State.set_reach | (intros; show P _ = true; apply_assumption) | split | dsimp only | intro _

end Sys2Proof.Machine
end

