-- ==== Sys2Proof/Laws/MovesFlags.lean ====
section
/-!
SUPPORT. What the operations of Machine/Flags.lean may change, one lemma each (Laws/Reach.lean).
-/
namespace Sys2Proof.Machine

set_option linter.unusedTactic false
set_option linter.unreachableTactic false

variable {P : Key → Bool} {Q : Part → Bool} {s0 s : State}

theorem State.report_reach {a : Alm} {d : Nat} {i : Nat} {loc : Nat} {kind : Nat} (hs : Reach P Q s0 s) (qreports : Q .reports) :
    Reach P Q s0 (State.report s a d i loc kind) := by
  unfold State.report
  repeat' with_reducible first | assumption | apply foldl_reach | (intros; show P _ = true; apply_assumption) | split | dsimp only | intro _ | apply State.reports_reach

theorem State.stick_reach {a : Alm} {d : Nat} {i : Nat} {loc : Nat} (hs : Reach P Q s0 s) (h1 : ∀ i, P ⟨Cell.sticky a, d, i⟩) (qreports : Q .reports) :
    Reach P Q s0 (State.stick s a d i loc) := by
  unfold State.stick
  repeat' with_reducible first | assumption | apply State.report_reach | apply State.set_reach | (intros; show P _ = true; apply_assumption) | split | dsimp only | intro _

theorem State.raiseAt_reach {a : Alm} {d : Nat} {i : Nat} {loc : Nat} (hs : Reach P Q s0 s) (h1 : ∀ i, P ⟨Cell.sticky a, d, i⟩) (h2 : ∀ i, P ⟨Cell.live a, d, i⟩) (qreports : Q .reports) :
    Reach P Q s0 (State.raiseAt s a d i loc) := by
  unfold State.raiseAt
  repeat' with_reducible first | assumption | apply State.stick_reach | apply State.set_reach | apply State.report_reach | (intros; show P _ = true; apply_assumption) | split | dsimp only | intro _

theorem State.raise_reach {a : Alm} {d : Nat} {i : Nat} (hs : Reach P Q s0 s) (h1 : ∀ i, P ⟨Cell.sticky a, d, i⟩) (h2 : ∀ i, P ⟨Cell.live a, d, i⟩) (qreports : Q .reports) :
    Reach P Q s0 (State.raise s a d i) := by
  unfold State.raise
  repeat' with_reducible first | assumption | apply State.raiseAt_reach | (intros; show P _ = true; apply_assumption) | split | dsimp only | intro _

theorem State.lowerAt_reach {a : Alm} {d : Nat} {i : Nat} {loc : Nat} (hs : Reach P Q s0 s) (h1 : ∀ i, P ⟨Cell.live a, d, i⟩) (qreports : Q .reports) :
    Reach P Q s0 (State.lowerAt s a d i loc) := by
  unfold State.lowerAt
  repeat' with_reducible first | assumption | apply State.set_reach | apply State.report_reach | (intros; show P _ = true; apply_assumption) | split | dsimp only | intro _

theorem State.lower_reach {a : Alm} {d : Nat} {i : Nat} (hs : Reach P Q s0 s) (h1 : ∀ i, P ⟨Cell.live a, d, i⟩) (qreports : Q .reports) :
    Reach P Q s0 (State.lower s a d i) := by
  unfold State.lower
  repeat' with_reducible first | assumption | apply State.lowerAt_reach | (intros; show P _ = true; apply_assumption) | split | dsimp only | intro _

theorem State.cond_reach {a : Alm} {d : Nat} {i : Nat} {b : Bool} (hs : Reach P Q s0 s) (h1 : ∀ i, P ⟨Cell.sticky a, d, i⟩) (h2 : ∀ i, P ⟨Cell.live a, d, i⟩) (qreports : Q .reports) :
    Reach P Q s0 (State.cond s a d i b) := by
  unfold State.cond
  repeat' with_reducible first | assumption | apply State.raise_reach | apply State.lower_reach | (intros; show P _ = true; apply_assumption) | split | dsimp only | intro _

theorem State.summaries_reach (hs : Reach P Q s0 s) (h1 : ∀ d i, P ⟨.sticky .cryHoldAny, d, i⟩) (h2 : ∀ d i, P ⟨.live .cryHoldAny, d, i⟩) (h3 : ∀ d i, P ⟨.sticky .cryCtxAny, d, i⟩) (h4 : ∀ d i, P ⟨.live .cryCtxAny, d, i⟩) (h5 : ∀ d i, P ⟨.sticky .ctCtnAny, d, i⟩) (h6 : ∀ d i, P ⟨.live .ctCtnAny, d, i⟩) (qreports : Q .reports) :
    Reach P Q s0 (State.summaries s) := by
  unfold State.summaries
  repeat' with_reducible first | assumption | apply State.each_reach | apply State.cond_reach | (intros; show P _ = true; apply_assumption) | split | dsimp only | intro _

theorem State.msi_reach (hs : Reach P Q s0 s) (h1 : ∀ i, P ⟨.sys .faultSeen, 0, i⟩) (h2 : ∀ i, P ⟨.sys .alertSeen, 0, i⟩) (h3 : ∀ i, P ⟨.sys .msiLast, 0, i⟩) (h4 : ∀ i, P ⟨.sys .msiSent, 0, i⟩) :
    Reach P Q s0 (State.msi s) := by
  unfold State.msi
  repeat' with_reducible first | assumption | apply State.setB_reach | apply State.set_reach | apply State.inc_reach | (intros; show P _ = true; apply_assumption) | split | dsimp only | intro _

theorem State.event_reach {a : Alm} {d : Nat} {i : Nat} (hs : Reach P Q s0 s) (h1 : ∀ i, P ⟨Cell.sticky a, d, i⟩) (qreports : Q .reports) :
    Reach P Q s0 (State.event s a d i) := by
  unfold State.event
  repeat' with_reducible first | assumption | apply State.stick_reach | (intros; show P _ = true; apply_assumption) | split | dsimp only | intro _

theorem State.eventAt_reach {a : Alm} {d : Nat} {i : Nat} {loc : Nat} (hs : Reach P Q s0 s) (h1 : ∀ i, P ⟨Cell.sticky a, d, i⟩) (qreports : Q .reports) :
    Reach P Q s0 (State.eventAt s a d i loc) := by
  unfold State.eventAt
  repeat' with_reducible first | assumption | apply State.stick_reach | (intros; show P _ = true; apply_assumption) | split | dsimp only | intro _

theorem settle_reach {s1 t : State} (ht : Reach P Q s0 t) (hsum : ∀ k, k.cell.summary = true → P k = true)
    (q : Q .reports = true) : Reach P Q s0 (settle s1 t) := by
  unfold settle
  refine State.msi_reach (State.reports_reach ?_ q) ?_ ?_ ?_ ?_
  · apply State.summaries_reach ht <;> first | exact q | (intro _ _; exact hsum _ rfl)
  all_goals (intro _; exact hsum _ rfl)

theorem finish_reach {s1 t : State} (ht : Reach P Q s0 t) (hsum : ∀ k, k.cell.summary = true → P k = true)
    (q : Q .reports = true) : ∃ u, finish s1 t = .next u ∧ Reach P Q s0 u :=
  ⟨_, rfl, settle_reach ht hsum q⟩

theorem idle_reach (hs : Reach P Q s0 s) : ∃ t, idle s = .next t ∧ Reach P Q s0 t := ⟨_, rfl, hs⟩

/-- A command that acts only under a condition: it answers a next state in every case. -/
theorem finishIf_reach {b : Bool} {f : State → State} (hs : Reach P Q s0 s)
    (hsum : ∀ k, k.cell.summary = true → P k = true) (q : Q .reports = true)
    (hf : ∀ x, Reach P Q s0 x → Reach P Q s0 (f x)) : ∃ t, finishIf b s f = .next t ∧ Reach P Q s0 t := by
  unfold finishIf
  split
  · exact finish_reach (hf _ hs) hsum q
  · exact ⟨_, rfl, hs⟩

end Sys2Proof.Machine
end

