-- ==== Sys2Proof/Laws/Alarms.lean ====
section
/-!
SUPPORT. How alarm bits and other cells read after a condition begins or ends, after an event, and after a command settles.
-/
namespace Sys2Proof.Machine

variable {s t : State}

-- Which cells are summary cells.

@[simp] theorem Cell.summary_id (c : IdCell) : (Cell.id c).summary = false := (rfl)
@[simp] theorem Cell.summary_boot (c : BootCell) : (Cell.boot c).summary = false := (rfl)
@[simp] theorem Cell.summary_tkt (c : TktCell) : (Cell.tkt c).summary = false := (rfl)
@[simp] theorem Cell.summary_chn (c : ChnCell) : (Cell.chn c).summary = false := (rfl)
@[simp] theorem Cell.summary_lt (c : LtCell) : (Cell.lt c).summary = false := (rfl)
@[simp] theorem Cell.summary_las (c : LasCell) : (Cell.las c).summary = false := (rfl)
@[simp] theorem Cell.summary_lr (c : LrCell) : (Cell.lr c).summary = false := (rfl)
@[simp] theorem Cell.summary_fec (c : FecCell) : (Cell.fec c).summary = false := (rfl)
@[simp] theorem Cell.summary_ct (c : CtCell) : (Cell.ct c).summary = false := (rfl)
@[simp] theorem Cell.summary_tdm (c : TdmCell) : (Cell.tdm c).summary = false := (rfl)
@[simp] theorem Cell.summary_pel (c : PelCell) : (Cell.pel c).summary = false := (rfl)
@[simp] theorem Cell.summary_der (c : DerCell) : (Cell.der c).summary = false := (rfl)
@[simp] theorem Cell.summary_hl (c : HlCell) : (Cell.hl c).summary = false := (rfl)
@[simp] theorem Cell.summary_qs (c : QsCell) : (Cell.qs c).summary = false := (rfl)
@[simp] theorem Cell.summary_pan (c : PanCell) : (Cell.pan c).summary = false := (rfl)
@[simp] theorem Cell.summary_crr (c : CrrCell) : (Cell.crr c).summary = false := (rfl)
@[simp] theorem Cell.summary_sbg (c : SbgCell) : (Cell.sbg c).summary = false := (rfl)
@[simp] theorem Cell.summary_svc (c : SvcCell) : (Cell.svc c).summary = false := (rfl)
@[simp] theorem Cell.summary_ao (c : AoCell) : (Cell.ao c).summary = false := (rfl)
@[simp] theorem Cell.summary_cry (c : CryCell) : (Cell.cry c).summary = false := (rfl)
@[simp] theorem Cell.summary_bell (c : BellCell) : (Cell.bell c).summary = false := (rfl)
@[simp] theorem Cell.summary_clk (c : ClkCell) : (Cell.clk c).summary = false := (rfl)
@[simp] theorem Cell.summary_tim (c : TimCell) : (Cell.tim c).summary = false := (rfl)
@[simp] theorem Cell.summary_mon (c : MonCell) : (Cell.mon c).summary = false := (rfl)
@[simp] theorem Cell.summary_bias (c : BiasCell) : (Cell.bias c).summary = false := (rfl)
@[simp] theorem Cell.summary_cal (c : CalCell) : (Cell.cal c).summary = false := (rfl)
@[simp] theorem Cell.summary_pwr (c : PwrCell) : (Cell.pwr c).summary = false := (rfl)
@[simp] theorem Cell.summary_alm (c : AlmCell) : (Cell.alm c).summary = false := (rfl)
@[simp] theorem Cell.summary_pc (c : PcCell) : (Cell.pc c).summary = false := (rfl)
@[simp] theorem Cell.summary_trc (c : TrcCell) : (Cell.trc c).summary = false := (rfl)
@[simp] theorem Cell.summary_inj (c : InjCell) : (Cell.inj c).summary = false := (rfl)
@[simp] theorem Cell.summary_crc (c : CrcCell) : (Cell.crc c).summary = false := (rfl)
@[simp] theorem Cell.summary_tel (c : TelCell) : (Cell.tel c).summary = false := (rfl)
@[simp] theorem Cell.summary_sys (c : SysCell) :
    (Cell.sys c).summary = (decide (c = .alertSeen) || decide (c = .faultSeen) || decide (c = .msiLast) || decide (c = .msiSent)) := by
  cases c <;> rfl

@[simp] theorem Cell.summary_live (a : Alm) :
    (Cell.live a).summary = (decide (a = .ctCtnAny) || decide (a = .cryCtxAny) || decide (a = .cryHoldAny)) := by
  cases a <;> rfl

@[simp] theorem Cell.summary_sticky (a : Alm) :
    (Cell.sticky a).summary = (decide (a = .ctCtnAny) || decide (a = .cryCtxAny) || decide (a = .cryHoldAny)) := by
  cases a <;> rfl

@[simp] theorem Cell.summary_mask (c : Alm) : (Cell.mask c).summary = false := (rfl)
@[simp] theorem Cell.summary_win (c : Win) : (Cell.win c).summary = false := (rfl)
@[simp] theorem Cell.summary_winNew (c : Win) : (Cell.winNew c).summary = false := (rfl)
@[simp] theorem Cell.summary_winDirty (c : Win) : (Cell.winDirty c).summary = false := (rfl)

/-- Settling moves the summary cells alone. -/
theorem get_settle {c : Cell} (h : ¬ c.summary = true) (d i : Nat) : (settle s t).get c d i = t.get c d i :=
  (settle_reach (P := fun k => k.cell.summary) (Q := fun _ => true) (s1 := s) (Reach.refl (s := t)) (fun _ hk => hk)
    rfl).cells ⟨c, d, i⟩ (by simpa using h)

theorem flag_settle {c : Cell} (h : ¬ c.summary = true) (d i : Nat) : (settle s t).flag c d i = t.flag c d i := by
  simp only [State.flag, get_settle h]

/-- Settling moves no part but the reports. -/
theorem settle_part {p : Part} (h : p ≠ .reports) : p.same t (settle s t) :=
  (settle_reach (P := fun _ => true) (Q := fun p => decide (p = .reports)) (s1 := s) (Reach.refl (s := t)) (fun _ _ => rfl)
    rfl).parts p (by simp [h])

theorem State.get_raise {a : Alm} {c : Cell} (h1 : c ≠ .live a) (h2 : c ≠ .sticky a) (d d' i i' : Nat) :
    (s.raise a d i).get c d' i' = s.get c d' i' :=
  (State.raise_reach (P := fun k => decide (k.cell = .live a) || decide (k.cell = .sticky a)) (Q := fun _ => true)
    (Reach.refl (s := s)) (by simp) (by simp) rfl).cells ⟨c, d', i'⟩ (by simp [h1, h2])

theorem State.get_lower {a : Alm} {c : Cell} (h1 : c ≠ .live a) (d d' i i' : Nat) :
    (s.lower a d i).get c d' i' = s.get c d' i' :=
  (State.lower_reach (P := fun k => decide (k.cell = .live a)) (Q := fun _ => true)
    (Reach.refl (s := s)) (by simp) rfl).cells ⟨c, d', i'⟩ (by simp [h1])

theorem State.get_cond {a : Alm} {c : Cell} (h1 : c ≠ .live a) (h2 : c ≠ .sticky a) (d d' i i' : Nat) (b : Bool) :
    (s.cond a d i b).get c d' i' = s.get c d' i' := by
  cases b
  · exact State.get_lower h1 ..
  · exact State.get_raise h1 h2 ..

theorem State.get_event {a : Alm} {c : Cell} (h2 : c ≠ .sticky a) (d d' i i' : Nat) :
    (s.event a d i).get c d' i' = s.get c d' i' :=
  (State.event_reach (P := fun k => decide (k.cell = .sticky a)) (Q := fun _ => true)
    (Reach.refl (s := s)) (by simp) rfl).cells ⟨c, d', i'⟩ (by simp [h2])

theorem State.get_report (a : Alm) (c : Cell) (d d' i i' loc kind : Nat) :
    (s.report a d i loc kind).get c d' i' = s.get c d' i' := rfl

theorem State.get_stick_self {a : Alm} (d i loc : Nat) : (s.stick a d i loc).flag (.sticky a) d i = true := by
  unfold State.stick
  split
  · assumption
  · simp [State.flag, State.get_report]

/-- Beginning a condition whose live bit reads 0 sets its sticky bit as well (R437). -/
theorem State.raise_sticky (a : Alm) (d i : Nat) (h : s.flag (.live a) d i = false) :
    (s.raise a d i).flag (.sticky a) d i = true := by
  unfold State.raise State.raiseAt
  simp only [h, Bool.false_eq_true, if_false]
  split
  · exact State.get_stick_self _ _ _
  · exact State.get_stick_self _ _ _

/-- Once a condition has begun, its live bit and its sticky bit read 1 (R437). -/
theorem State.raise_live (a : Alm) (d i : Nat) : (s.raise a d i).flag (.live a) d i = true := by
  unfold State.raise State.raiseAt
  split
  · assumption
  · simp only [State.stick]
    split <;> split <;> simp [State.flag, State.get_report, State.get_set]

theorem State.flag_raise {a : Alm} {c : Cell} (h1 : c ≠ .live a) (h2 : c ≠ .sticky a) (d d' i i' : Nat) :
    (s.raise a d i).flag c d' i' = s.flag c d' i' := by
  simp only [State.flag, State.get_raise h1 h2]

theorem State.flag_lower {a : Alm} {c : Cell} (h1 : c ≠ .live a) (d d' i i' : Nat) :
    (s.lower a d i).flag c d' i' = s.flag c d' i' := by
  simp only [State.flag, State.get_lower h1]

theorem State.flag_event {a : Alm} {c : Cell} (h : c ≠ .sticky a) (d d' i i' : Nat) :
    (s.event a d i).flag c d' i' = s.flag c d' i' := by
  simp only [State.flag, State.get_event h]

/-- Once a condition has ended, its live bit reads 0; its sticky bit is as before (R437). -/
theorem State.lower_live (a : Alm) (d i : Nat) : (s.lower a d i).get (.live a) d i = 0 := by
  unfold State.lower State.lowerAt
  split
  · split <;> simp [State.get_report]
  · rename_i h
    simpa [State.flag] using h

theorem State.lower_flag (a : Alm) (d i : Nat) : (s.lower a d i).flag (.live a) d i = false := by
  simp [State.flag, State.lower_live]

theorem State.get_raiseAt {a : Alm} {c : Cell} (h1 : c ≠ .live a) (h2 : c ≠ .sticky a) (d d' i i' loc : Nat) :
    (s.raiseAt a d i loc).get c d' i' = s.get c d' i' :=
  (State.raiseAt_reach (P := fun k => decide (k.cell = .live a) || decide (k.cell = .sticky a)) (Q := fun _ => true)
    (Reach.refl (s := s)) (by simp) (by simp) rfl).cells ⟨c, d', i'⟩ (by simp [h1, h2])

theorem State.flag_raiseAt {a : Alm} {c : Cell} (h1 : c ≠ .live a) (h2 : c ≠ .sticky a) (d d' i i' loc : Nat) :
    (s.raiseAt a d i loc).flag c d' i' = s.flag c d' i' := by
  simp only [State.flag, State.get_raiseAt h1 h2]

theorem State.raiseAt_live (a : Alm) (d i loc : Nat) : (s.raiseAt a d i loc).flag (.live a) d i = true := by
  unfold State.raiseAt
  split
  · assumption
  · simp only [State.stick]
    split <;> split <;> simp [State.flag, State.get_report, State.get_set]

theorem State.get_lowerAt {a : Alm} {c : Cell} (h1 : c ≠ .live a) (d d' i i' loc : Nat) :
    (s.lowerAt a d i loc).get c d' i' = s.get c d' i' :=
  (State.lowerAt_reach (P := fun k => decide (k.cell = .live a)) (Q := fun _ => true)
    (Reach.refl (s := s)) (by simp) rfl).cells ⟨c, d', i'⟩ (by simp [h1])

theorem State.lowerAt_flag (a : Alm) (d i loc : Nat) : (s.lowerAt a d i loc).flag (.live a) d i = false := by
  unfold State.lowerAt
  split
  · split <;> simp [State.get_report, State.flag]
  · rename_i h
    simpa using h

theorem State.get_eventAt {a : Alm} {c : Cell} (h2 : c ≠ .sticky a) (d d' i i' loc : Nat) :
    (s.eventAt a d i loc).get c d' i' = s.get c d' i' :=
  (State.eventAt_reach (P := fun k => decide (k.cell = .sticky a)) (Q := fun _ => true)
    (Reach.refl (s := s)) (by simp) rfl).cells ⟨c, d', i'⟩ (by simp [h2])

theorem State.eventAt_sticky (a : Alm) (d i loc : Nat) : (s.eventAt a d i loc).flag (.sticky a) d i = true :=
  State.get_stick_self _ _ _

theorem State.get_cond_other {a : Alm} {c : Cell} (h1 : c ≠ .live a) (h2 : c ≠ .sticky a) (d d' i i' : Nat) (b : Bool) :
    (s.cond a d i b).flag c d' i' = s.flag c d' i' := by
  simp only [State.flag, State.get_cond h1 h2]

/-- After `cond` the live bit shows the condition. -/
theorem State.cond_live (a : Alm) (d i : Nat) (b : Bool) : (s.cond a d i b).flag (.live a) d i = b := by
  cases b
  · exact State.lower_flag ..
  · exact State.raise_live ..

theorem State.event_sticky (a : Alm) (d i : Nat) : (s.event a d i).flag (.sticky a) d i = true := State.get_stick_self _ _ _

end Sys2Proof.Machine
end

