-- ==== Sys2Proof/Laws/Footprint.lean ====
section
/-!
SUPPORT. When a cell lies in a footprint.
-/
namespace Sys2Proof.Machine

variable {f : Foot} {c : Cell} {die d i : Nat} {x : CellKind}

theorem Foot.moves_summary {k : Key} (h : k.cell.summary = true) : f.moves die k = true := by simp [Foot.moves, h]

theorem Foot.moves_every (h : f.every.contains c = true) : f.moves die ⟨c, d, i⟩ = true := by simp [Foot.moves, List.contains_iff_mem.mp h]

theorem Foot.moves_own (h : f.own.contains c = true) : f.moves die ⟨c, die, i⟩ = true := by simp [Foot.moves, List.contains_iff_mem.mp h]

theorem Foot.moves_lead (h : f.lead.contains c = true) : f.moves die ⟨c, 0, i⟩ = true := by simp [Foot.moves, List.contains_iff_mem.mp h]

theorem Foot.moves_anyKind (hc : c.kind = some x) (h : f.anyKinds.contains x = true) : f.moves die ⟨c, d, i⟩ = true := by
  simp [Foot.moves, hc, List.contains_iff_mem.mp h]

theorem Foot.moves_ownKind (hc : c.kind = some x) (h : f.ownKinds.contains x = true) : f.moves die ⟨c, die, i⟩ = true := by
  simp [Foot.moves, hc, List.contains_iff_mem.mp h]

end Sys2Proof.Machine
end

