-- ==== Sys2Proof/Laws/MovesChain.lean ====
section
/-!
SUPPORT. What the operations of Machine/Chain.lean may change, one lemma each (Laws/Reach.lean).
-/
namespace Sys2Proof.Machine

set_option linter.unusedTactic false
set_option linter.unreachableTactic false

variable {P : Key → Bool} {Q : Part → Bool} {s0 s : State}

theorem State.chainEnable_reach {d : Nat} {p : Nat} (hs : Reach P Q s0 s) (h1 : ∀ i, P ⟨.chn .attempt, d, i⟩) (h2 : ∀ i, P ⟨.chn .state, d, i⟩) (h3 : ∀ i, P ⟨.chn .portEn, d, i⟩) :
    Reach P Q s0 (State.chainEnable s d p) := by
  unfold State.chainEnable
  repeat' with_reducible first | assumption | apply State.set_reach | (intros; show P _ = true; apply_assumption) | split | dsimp only | intro _

theorem State.chainDisable_reach {d : Nat} {p : Nat} (hs : Reach P Q s0 s) (h1 : ∀ i, P ⟨.live .chnLaneSpared, d, i⟩) (h2 : ∀ i, P ⟨.live .chnPeerMismatch, d, i⟩) (h3 : ∀ i, P ⟨.live .chnClkLoss, d, i⟩) (h4 : ∀ i, P ⟨.live .chnDown, d, i⟩) (h5 : ∀ i, P ⟨.chn .failedLane, d, i⟩) (h6 : ∀ i, P ⟨.chn .spareUsed, d, i⟩) (h7 : ∀ i, P ⟨.chn .clkOk, d, i⟩) (h8 : ∀ i, P ⟨.chn .attempt, d, i⟩) (h9 : ∀ i, P ⟨.chn .state, d, i⟩) (h10 : ∀ i, P ⟨.chn .portEn, d, i⟩) (qreports : Q .reports) :
    Reach P Q s0 (State.chainDisable s d p) := by
  unfold State.chainDisable
  repeat' with_reducible first | assumption | apply State.lower_reach | apply State.set_reach | (intros; show P _ = true; apply_assumption) | split | dsimp only | intro _

theorem State.useSpare_reach {d : Nat} {p : Nat} {failed : List Nat} (hs : Reach P Q s0 s) (h1 : ∀ i, P ⟨.sticky .chnLaneSpared, d, i⟩) (h2 : ∀ i, P ⟨.live .chnLaneSpared, d, i⟩) (h3 : ∀ i, P ⟨.chn .failedLane, d, i⟩) (h4 : ∀ i, P ⟨.chn .spareUsed, d, i⟩) (qreports : Q .reports) :
    Reach P Q s0 (State.useSpare s d p failed) := by
  unfold State.useSpare
  repeat' with_reducible first | assumption | apply State.raise_reach | apply State.set_reach | (intros; show P _ = true; apply_assumption) | split | dsimp only | intro _

theorem State.chainGoDown_reach {d : Nat} {p : Nat} (hs : Reach P Q s0 s) (h1 : ∀ i, P ⟨.sticky .chnDown, d, i⟩) (h2 : ∀ i, P ⟨.live .chnDown, d, i⟩) (h3 : ∀ i, P ⟨.chn .state, d, i⟩) (qreports : Q .reports) :
    Reach P Q s0 (State.chainGoDown s d p) := by
  unfold State.chainGoDown
  repeat' with_reducible first | assumption | apply State.raise_reach | apply State.set_reach | (intros; show P _ = true; apply_assumption) | split | dsimp only | intro _

theorem State.chainComeUp_reach {d : Nat} {p : Nat} (hs : Reach P Q s0 s) (h1 : ∀ i, P ⟨.live .chnPeerMismatch, d, i⟩) (h2 : ∀ i, P ⟨.live .chnClkLoss, d, i⟩) (h3 : ∀ i, P ⟨.chn .replayLeft, d, i⟩) (h4 : ∀ i, P ⟨.chn .clkOk, d, i⟩) (h5 : ∀ i, P ⟨.chn .state, d, i⟩) (qreports : Q .reports) :
    Reach P Q s0 (State.chainComeUp s d p) := by
  unfold State.chainComeUp
  repeat' with_reducible first | assumption | apply State.lower_reach | apply State.set_reach | (intros; show P _ = true; apply_assumption) | split | dsimp only | intro _

theorem State.chainLeaveUp_reach {d : Nat} {p : Nat} (hs : Reach P Q s0 s) (h1 : ∀ i, P ⟨.chn .nRetrain, d, i⟩) (h2 : ∀ i, P ⟨.chn .replayRun, d, i⟩) (h3 : ∀ i, P ⟨.chn .attempt, d, i⟩) (h4 : ∀ i, P ⟨.chn .state, d, i⟩) :
    Reach P Q s0 (State.chainLeaveUp s d p) := by
  unfold State.chainLeaveUp
  repeat' with_reducible first | assumption | apply State.inc_reach | apply State.set_reach | (intros; show P _ = true; apply_assumption) | split | dsimp only | intro _

theorem execChainClkLoss_reach {d : Nat} {p : Nat} (hs : Reach P Q s0 s) (hsum : ∀ k, k.cell.summary → P k) (h11 : ∀ i, P ⟨.chn .nRetrain, d, i⟩) (h12 : ∀ i, P ⟨.chn .replayRun, d, i⟩) (h13 : ∀ i, P ⟨.chn .attempt, d, i⟩) (h14 : ∀ i, P ⟨.chn .state, d, i⟩) (h15 : ∀ i, P ⟨.sticky .chnClkLoss, d, i⟩) (h16 : ∀ i, P ⟨.live .chnClkLoss, d, i⟩) (h17 : ∀ i, P ⟨.chn .clkOk, d, i⟩) (qreports : Q .reports) :
    ∃ t, execChainClkLoss d p s = .next t ∧ Reach P Q s0 t := by
  unfold execChainClkLoss
  repeat' with_reducible first | assumption | apply finishIf_reach | apply State.chainLeaveUp_reach | apply State.raise_reach | apply State.set_reach | (intros; show P _ = true; first | exact hsum _ rfl | (clear hsum; apply_assumption)) | split | dsimp only | intro _

theorem State.ackFlit_reach {d : Nat} {p : Nat} {cls : Nat} (hs : Reach P Q s0 s) (h1 : ∀ d i, P ⟨.chn .credits, d, i⟩) (h2 : ∀ d i, P ⟨.chn .unacked, d, i⟩) :
    Reach P Q s0 (State.ackFlit s d p cls) := by
  unfold State.ackFlit
  repeat' with_reducible first | assumption | apply State.set_reach | (intros; show P _ = true; apply_assumption) | split | dsimp only | intro _

theorem State.askReplay_reach {d : Nat} {p : Nat} (hs : Reach P Q s0 s) (h1 : ∀ i, P ⟨.chn .replayRun, d, i⟩) (h2 : ∀ d i, P ⟨.chn .replayLeft, d, i⟩) (h3 : ∀ d i, P ⟨.chn .nReplay, d, i⟩) :
    Reach P Q s0 (State.askReplay s d p) := by
  unfold State.askReplay
  repeat' with_reducible first | assumption | apply State.set_reach | apply State.inc_reach | (intros; show P _ = true; apply_assumption) | split | dsimp only | intro _

theorem execChainFlitRx_reach {d : Nat} {p : Nat} {seq : Nat} {crcOk : Bool} {cls : Nat} {holdExpired : Bool} (hs : Reach P Q s0 s) (hsum : ∀ k, k.cell.summary → P k) (h11 : ∀ i, P ⟨.chn .nCrcErr, d, i⟩) (h12 : ∀ i, P ⟨.chn .nPelLate, d, i⟩) (h13 : ∀ d i, P ⟨.chn .credits, d, i⟩) (h14 : ∀ d i, P ⟨.chn .unacked, d, i⟩) (h15 : ∀ i, P ⟨.chn .replayRun, d, i⟩) (h16 : ∀ i, P ⟨.chn .rxSeq, d, i⟩) (h17 : ∀ i, P ⟨.chn .nFlitRx, d, i⟩) (h18 : ∀ d i, P ⟨.chn .replayLeft, d, i⟩) (h19 : ∀ d i, P ⟨.chn .nReplay, d, i⟩) (qreports : Q .reports) :
    ∃ t, execChainFlitRx d p seq crcOk cls holdExpired s = .next t ∧ Reach P Q s0 t := by
  unfold execChainFlitRx
  repeat' with_reducible first | assumption | apply finishIf_reach | apply State.incIf_reach | apply State.ackFlit_reach | apply State.set_reach | apply State.inc_reach | apply State.askReplay_reach | (intros; show P _ = true; first | exact hsum _ rfl | (clear hsum; apply_assumption)) | split | dsimp only | intro _

theorem State.nextAttempt_reach {d : Nat} {p : Nat} (hs : Reach P Q s0 s) (h1 : ∀ i, P ⟨.chn .nRetrain, d, i⟩) (h2 : ∀ i, P ⟨.chn .attempt, d, i⟩) (h3 : ∀ i, P ⟨.sticky .chnDown, d, i⟩) (h4 : ∀ i, P ⟨.live .chnDown, d, i⟩) (h5 : ∀ i, P ⟨.chn .state, d, i⟩) (qreports : Q .reports) :
    Reach P Q s0 (State.nextAttempt s d p) := by
  unfold State.nextAttempt
  repeat' with_reducible first | assumption | apply State.inc_reach | apply State.set_reach | apply State.chainGoDown_reach | (intros; show P _ = true; apply_assumption) | split | dsimp only | intro _

theorem State.sendFlit_reach {d : Nat} {p : Nat} {f : Sys2Proof.ChainOffer} (hs : Reach P Q s0 s) (h1 : ∀ i, P ⟨.chn .lastDest, d, i⟩) (h2 : ∀ i, P ⟨.chn .lastCls, d, i⟩) (h3 : ∀ i, P ⟨.chn .nFlitTx, d, i⟩) (h4 : ∀ i, P ⟨.chn .txSeq, d, i⟩) (h5 : ∀ i, P ⟨.chn .unacked, d, i⟩) (h6 : ∀ i, P ⟨.chn .credits, d, i⟩) :
    Reach P Q s0 (State.sendFlit s d p f) := by
  unfold State.sendFlit
  repeat' with_reducible first | assumption | apply State.set_reach | apply State.inc_reach | (intros; show P _ = true; apply_assumption) | split | dsimp only | intro _

theorem execChainHeldFlitRelease_reach {d : Nat} (hs : Reach P Q s0 s) (hsum : ∀ k, k.cell.summary → P k) (h11 : ∀ i, P ⟨.chn .lastDest, d, i⟩) (h12 : ∀ i, P ⟨.chn .lastCls, d, i⟩) (h13 : ∀ i, P ⟨.chn .nFlitTx, d, i⟩) (h14 : ∀ i, P ⟨.chn .txSeq, d, i⟩) (h15 : ∀ i, P ⟨.chn .unacked, d, i⟩) (h16 : ∀ i, P ⟨.chn .credits, d, i⟩) (qreports : Q .reports) (qheld : Q .held) :
    ∃ t, execChainHeldFlitRelease d s = .next t ∧ Reach P Q s0 t := by
  unfold execChainHeldFlitRelease
  repeat' with_reducible first | assumption | apply finishIf_reach | apply State.sendFlit_reach | (intros; show P _ = true; first | exact hsum _ rfl | (clear hsum; apply_assumption)) | split | dsimp only | intro _ | apply State.held_reach

theorem State.rerouteFlit_reach {d : Nat} {f : Sys2Proof.ChainOffer} (hs : Reach P Q s0 s) (h1 : ∀ i, P ⟨.chn .lastDest, d, i⟩) (h2 : ∀ i, P ⟨.chn .lastCls, d, i⟩) (h3 : ∀ i, P ⟨.chn .nFlitTx, d, i⟩) (h4 : ∀ i, P ⟨.chn .txSeq, d, i⟩) (h5 : ∀ i, P ⟨.chn .unacked, d, i⟩) (h6 : ∀ i, P ⟨.chn .credits, d, i⟩) (qheld : Q .held) :
    Reach P Q s0 (State.rerouteFlit s d f) := by
  unfold State.rerouteFlit
  repeat' with_reducible first | assumption | apply State.sendFlit_reach | (intros; show P _ = true; apply_assumption) | split | dsimp only | intro _ | apply State.held_reach

theorem State.sendElsewhere_reach {d : Nat} {p : Nat} {offers : List Sys2Proof.ChainOffer} (hs : Reach P Q s0 s) (h1 : ∀ i, P ⟨.chn .lastDest, d, i⟩) (h2 : ∀ i, P ⟨.chn .lastCls, d, i⟩) (h3 : ∀ i, P ⟨.chn .nFlitTx, d, i⟩) (h4 : ∀ i, P ⟨.chn .txSeq, d, i⟩) (h5 : ∀ i, P ⟨.chn .unacked, d, i⟩) (h6 : ∀ i, P ⟨.chn .credits, d, i⟩) (h7 : ∀ i, P ⟨.sys .freeCount, 0, i⟩) (qheld : Q .held) :
    Reach P Q s0 (State.sendElsewhere s d p offers) := by
  unfold State.sendElsewhere
  repeat' with_reducible first | assumption | apply State.rerouteFlit_reach | apply State.used_reach | apply State.sendFlit_reach | (intros; show P _ = true; apply_assumption) | split | dsimp only | intro _

theorem execChainTrainAttemptEnd_reach {d : Nat} {p : Nat} {completed : Bool} {failedLanes : List Nat} {peer : Nat} (hs : Reach P Q s0 s) (hsum : ∀ k, k.cell.summary → P k) (h11 : ∀ i, P ⟨.sticky .chnDown, d, i⟩) (h12 : ∀ i, P ⟨.live .chnDown, d, i⟩) (h13 : ∀ i, P ⟨.chn .state, d, i⟩) (h14 : ∀ i, P ⟨.sticky .chnLaneSpared, d, i⟩) (h15 : ∀ i, P ⟨.live .chnLaneSpared, d, i⟩) (h16 : ∀ i, P ⟨.chn .failedLane, d, i⟩) (h17 : ∀ i, P ⟨.chn .spareUsed, d, i⟩) (h18 : ∀ i, P ⟨.chn .peerDie, d, i⟩) (h19 : ∀ i, P ⟨.live .chnPeerMismatch, d, i⟩) (h20 : ∀ i, P ⟨.live .chnClkLoss, d, i⟩) (h21 : ∀ i, P ⟨.chn .replayLeft, d, i⟩) (h22 : ∀ i, P ⟨.chn .clkOk, d, i⟩) (h23 : ∀ i, P ⟨.sticky .chnPeerMismatch, d, i⟩) (h24 : ∀ i, P ⟨.chn .nRetrain, d, i⟩) (h25 : ∀ i, P ⟨.chn .attempt, d, i⟩) (qreports : Q .reports) :
    ∃ t, execChainTrainAttemptEnd d p completed failedLanes peer s = .next t ∧ Reach P Q s0 t := by
  unfold execChainTrainAttemptEnd
  repeat' with_reducible first | assumption | apply finishIf_reach | apply State.chainGoDown_reach | apply State.useSpare_reach | apply State.set_reach | apply State.chainComeUp_reach | apply State.raise_reach | apply State.nextAttempt_reach | (intros; show P _ = true; first | exact hsum _ rfl | (clear hsum; apply_assumption)) | split | dsimp only | intro _

theorem execChainPeerRetrain_reach {d : Nat} {p : Nat} (hs : Reach P Q s0 s) (hsum : ∀ k, k.cell.summary → P k) (h11 : ∀ i, P ⟨.chn .nRetrain, d, i⟩) (h12 : ∀ i, P ⟨.chn .replayRun, d, i⟩) (h13 : ∀ i, P ⟨.chn .attempt, d, i⟩) (h14 : ∀ i, P ⟨.chn .state, d, i⟩) (qreports : Q .reports) :
    ∃ t, execChainPeerRetrain d p s = .next t ∧ Reach P Q s0 t := by
  unfold execChainPeerRetrain
  repeat' with_reducible first | assumption | apply finishIf_reach | apply State.chainLeaveUp_reach | (intros; show P _ = true; first | exact hsum _ rfl | (clear hsum; apply_assumption)) | split | dsimp only | intro _

theorem execSpokeFrameRx_reach {d : Nat} {crcOk : Bool} (hs : Reach P Q s0 s) (hsum : ∀ k, k.cell.summary → P k) (h11 : ∀ i, P ⟨.live .spokeLost, d, i⟩) (h12 : ∀ i, P ⟨.chn .spokeLost, d, i⟩) (h13 : ∀ i, P ⟨.chn .nSpokeCrcErr, d, i⟩) (qreports : Q .reports) :
    ∃ t, execSpokeFrameRx d crcOk s = .next t ∧ Reach P Q s0 t := by
  unfold execSpokeFrameRx
  repeat' with_reducible first | assumption | apply finishIf_reach | apply State.lower_reach | apply State.set_reach | apply State.inc_reach | (intros; show P _ = true; first | exact hsum _ rfl | (clear hsum; apply_assumption)) | split | dsimp only | intro _

theorem execChainReplayLimit_reach {d : Nat} {p : Nat} (hs : Reach P Q s0 s) (hsum : ∀ k, k.cell.summary → P k) (h11 : ∀ i, P ⟨.chn .nRetrain, d, i⟩) (h12 : ∀ i, P ⟨.chn .replayRun, d, i⟩) (h13 : ∀ i, P ⟨.chn .attempt, d, i⟩) (h14 : ∀ i, P ⟨.chn .state, d, i⟩) (qreports : Q .reports) :
    ∃ t, execChainReplayLimit d p s = .next t ∧ Reach P Q s0 t := by
  unfold execChainReplayLimit
  repeat' with_reducible first | assumption | apply finishIf_reach | apply State.chainLeaveUp_reach | (intros; show P _ = true; first | exact hsum _ rfl | (clear hsum; apply_assumption)) | split | dsimp only | intro _

theorem execChainFlitTx_reach {d : Nat} {p : Nat} {offers : List Sys2Proof.ChainOffer} (hs : Reach P Q s0 s) (hsum : ∀ k, k.cell.summary → P k) (h11 : ∀ i, P ⟨.chn .nFlitTx, d, i⟩) (h12 : ∀ i, P ⟨.chn .replayLeft, d, i⟩) (h13 : ∀ i, P ⟨.sys .freeCount, 0, i⟩) (h14 : ∀ i, P ⟨.chn .lastDest, d, i⟩) (h15 : ∀ i, P ⟨.chn .lastCls, d, i⟩) (h16 : ∀ i, P ⟨.chn .txSeq, d, i⟩) (h17 : ∀ i, P ⟨.chn .unacked, d, i⟩) (h18 : ∀ i, P ⟨.chn .credits, d, i⟩) (qreports : Q .reports) (qheld : Q .held) :
    ∃ t, execChainFlitTx d p offers s = .next t ∧ Reach P Q s0 t := by
  unfold execChainFlitTx
  repeat' with_reducible first | assumption | apply finishIf_reach | apply State.inc_reach | apply State.set_reach | apply State.used_reach | apply State.sendFlit_reach | apply State.sendElsewhere_reach | (intros; show P _ = true; first | exact hsum _ rfl | (clear hsum; apply_assumption)) | split | dsimp only | intro _

theorem execChainPortEnable_reach {d : Nat} {p : Nat} (hs : Reach P Q s0 s) (hsum : ∀ k, k.cell.summary → P k) (h11 : ∀ i, P ⟨.chn .attempt, d, i⟩) (h12 : ∀ i, P ⟨.chn .state, d, i⟩) (h13 : ∀ i, P ⟨.chn .portEn, d, i⟩) (qreports : Q .reports) :
    ∃ t, execChainPortEnable d p s = .next t ∧ Reach P Q s0 t := by
  unfold execChainPortEnable
  repeat' with_reducible first | assumption | apply finishIf_reach | apply State.chainEnable_reach | (intros; show P _ = true; first | exact hsum _ rfl | (clear hsum; apply_assumption)) | split | dsimp only | intro _

theorem execChainPortDisable_reach {d : Nat} {p : Nat} (hs : Reach P Q s0 s) (hsum : ∀ k, k.cell.summary → P k) (h11 : ∀ i, P ⟨.live .chnLaneSpared, d, i⟩) (h12 : ∀ i, P ⟨.live .chnPeerMismatch, d, i⟩) (h13 : ∀ i, P ⟨.live .chnClkLoss, d, i⟩) (h14 : ∀ i, P ⟨.live .chnDown, d, i⟩) (h15 : ∀ i, P ⟨.chn .failedLane, d, i⟩) (h16 : ∀ i, P ⟨.chn .spareUsed, d, i⟩) (h17 : ∀ i, P ⟨.chn .clkOk, d, i⟩) (h18 : ∀ i, P ⟨.chn .attempt, d, i⟩) (h19 : ∀ i, P ⟨.chn .state, d, i⟩) (h20 : ∀ i, P ⟨.chn .portEn, d, i⟩) (qreports : Q .reports) :
    ∃ t, execChainPortDisable d p s = .next t ∧ Reach P Q s0 t := by
  unfold execChainPortDisable
  repeat' with_reducible first | assumption | apply finishIf_reach | apply State.chainDisable_reach | (intros; show P _ = true; first | exact hsum _ rfl | (clear hsum; apply_assumption)) | split | dsimp only | intro _

theorem execSpokeLost_reach {d : Nat} (hs : Reach P Q s0 s) (hsum : ∀ k, k.cell.summary → P k) (h11 : ∀ i, P ⟨.sticky .calConvStale, 0, i⟩) (h12 : ∀ i, P ⟨.live .calConvStale, 0, i⟩) (h13 : ∀ i, P ⟨.cal .stale, d, i⟩) (h14 : ∀ i, P ⟨.sticky .spokeLost, d, i⟩) (h15 : ∀ i, P ⟨.live .spokeLost, d, i⟩) (h16 : ∀ i, P ⟨.chn .spokeLost, d, i⟩) (qreports : Q .reports) :
    ∃ t, execSpokeLost d s = .next t ∧ Reach P Q s0 t := by
  unfold execSpokeLost
  repeat' with_reducible first | assumption | apply finishIf_reach | apply State.raiseAt_reach | apply State.set_reach | apply State.raise_reach | (intros; show P _ = true; first | exact hsum _ rfl | (clear hsum; apply_assumption)) | split | dsimp only | intro _

end Sys2Proof.Machine
end

