-- ==== Sys2Proof/Laws/MovesWindows.lean ====
section
/-!
SUPPORT. What the operations of Machine/Windows.lean may change, one lemma each (Laws/Reach.lean).
-/
namespace Sys2Proof.Machine

set_option linter.unusedTactic false
set_option linter.unreachableTactic false

variable {P : Key → Bool} {Q : Part → Bool} {s0 s : State}

theorem State.setWin_reach {w : Win} {d : Nat} {e : Nat} {k : Nat} {v : Nat} (hs : Reach P Q s0 s) (h1 : ∀ i, P ⟨Cell.win w, d, i⟩) :
    Reach P Q s0 (State.setWin s w d e k v) := by
  unfold State.setWin
  repeat' with_reducible first | assumption | apply State.set_reach | (intros; show P _ = true; apply_assumption) | split | dsimp only | intro _

theorem State.carrierEvent_reach {d : Nat} (hs : Reach P Q s0 s) (h1 : ∀ i, P ⟨.tim .evtNext, d, i⟩) (h2 : ∀ i, P ⟨.tim .evtAt, d, i⟩) :
    Reach P Q s0 (State.carrierEvent s d) := by
  unfold State.carrierEvent
  repeat' with_reducible first | assumption | apply State.set_reach | apply State.each_reach | (intros; show P _ = true; apply_assumption) | split | dsimp only | intro _

theorem State.stageWin_reach {w : Win} {d : Nat} {e : Nat} {k : Nat} {v : Nat} (hs : Reach P Q s0 s) (h1 : ∀ i, P ⟨Cell.winDirty w, d, i⟩) (h2 : ∀ i, P ⟨Cell.winNew w, d, i⟩) :
    Reach P Q s0 (State.stageWin s w d e k v) := by
  unfold State.stageWin
  repeat' with_reducible first | assumption | apply State.set_reach | (intros; show P _ = true; apply_assumption) | split | dsimp only | intro _

theorem State.commitWin_reach {w : Win} {d : Nat} (hs : Reach P Q s0 s) (h1 : ∀ i, P ⟨.sys .winBusy, d, i⟩) (h2 : ∀ i, P ⟨Cell.winDirty w, d, i⟩) (h3 : ∀ i, P ⟨Cell.winNew w, d, i⟩) :
    Reach P Q s0 (State.commitWin s w d) := by
  unfold State.commitWin
  repeat' with_reducible first | assumption | apply State.set_reach | apply State.each_reach | (intros; show P _ = true; apply_assumption) | split | dsimp only | intro _

theorem State.landWin_reach {w : Win} {d : Nat} {i : Nat} {v : Nat} (hs : Reach P Q s0 s) (h1 : ∀ a i, P ⟨Cell.mask a, d, i⟩) (h2 : ∀ i, P ⟨Cell.win w, d, i⟩) :
    Reach P Q s0 (State.landWin s w d i v) := by
  unfold State.landWin
  repeat' with_reducible first | assumption | apply State.each_reach | apply State.setB_reach | apply State.set_reach | (intros; show P _ = true; apply_assumption) | split | dsimp only | intro _

theorem State.applyWin_reach {w : Win} {d : Nat} (hs : Reach P Q s0 s) (h1 : ∀ i, P ⟨.sys .winBusy, d, i⟩) (h2 : ∀ i, P ⟨Cell.winDirty w, d, i⟩) (h3 : ∀ a i, P ⟨Cell.mask a, d, i⟩) (h4 : ∀ i, P ⟨Cell.win w, d, i⟩) :
    Reach P Q s0 (State.applyWin s w d) := by
  unfold State.applyWin
  repeat' with_reducible first | assumption | apply State.set_reach | apply State.each_reach | apply State.landWin_reach | (intros; show P _ = true; apply_assumption) | split | dsimp only | intro _

theorem State.pathChange_reach {kind : Nat} {loc : Nat} (hs : Reach P Q s0 s) (h1 : ∀ d i, P ⟨.tim .evtNext, d, i⟩) (h2 : ∀ d i, P ⟨.tim .evtAt, d, i⟩) (h3 : ∀ i, P ⟨.sticky .timPathChange, 0, i⟩) (h4 : ∀ i, P ⟨.tim .nPce, 0, i⟩) (h5 : ∀ i, P ⟨.tim .pceNext, 0, i⟩) (h6 : ∀ i, P ⟨.win .timPce, 0, i⟩) (qreports : Q .reports) :
    Reach P Q s0 (State.pathChange s kind loc) := by
  unfold State.pathChange
  repeat' with_reducible first | assumption | apply State.each_reach | apply State.carrierEvent_reach | apply State.event_reach | apply State.inc_reach | apply State.set_reach | apply State.setWin_reach | (intros; show P _ = true; apply_assumption) | split | dsimp only | intro _

end Sys2Proof.Machine
end

