-- ==== Sys2Proof/Laws/MovesFraming.lean ====
section
/-!
SUPPORT. What the operations of Machine/Framing.lean may change, one lemma each (Laws/Reach.lean).
-/
namespace Sys2Proof.Machine

set_option linter.unusedTactic false
set_option linter.unreachableTactic false

variable {P : Key → Bool} {Q : Part → Bool} {s0 s : State}

theorem State.ctnRefresh_reach {h : Nat} {i : Nat} (hs : Reach P Q s0 s) (h1 : ∀ i, P ⟨.sticky .ctnSf, h, i⟩) (h2 : ∀ i, P ⟨.live .ctnSf, h, i⟩) (qreports : Q .reports) :
    Reach P Q s0 (State.ctnRefresh s h i) := by
  unfold State.ctnRefresh
  repeat' with_reducible first | assumption | apply State.cond_reach | (intros; show P _ = true; apply_assumption) | split | dsimp only | intro _

theorem State.ctnRefreshAll_reach {d : Nat} (hs : Reach P Q s0 s) (h1 : ∀ d i, P ⟨.sticky .ctnSf, d, i⟩) (h2 : ∀ d i, P ⟨.live .ctnSf, d, i⟩) (qreports : Q .reports) :
    Reach P Q s0 (State.ctnRefreshAll s d) := by
  unfold State.ctnRefreshAll
  repeat' with_reducible first | assumption | apply State.each_reach | apply State.ctnRefresh_reach | (intros; show P _ = true; apply_assumption) | split | dsimp only | intro _

theorem State.alignRefresh_reach {d : Nat} (hs : Reach P Q s0 s) (h1 : ∀ i, P ⟨.tim .evtNext, d, i⟩) (h2 : ∀ i, P ⟨.tim .evtAt, d, i⟩) (h3 : ∀ d i, P ⟨.sticky .ctnSf, d, i⟩) (h4 : ∀ d i, P ⟨.live .ctnSf, d, i⟩) (h5 : ∀ i, P ⟨.sticky .ctOof, d, i⟩) (h6 : ∀ i, P ⟨.live .ctOof, d, i⟩) (h7 : ∀ i, P ⟨.sticky .ctLof, d, i⟩) (h8 : ∀ i, P ⟨.live .ctLof, d, i⟩) (h9 : ∀ i, P ⟨.ct .candCount, d, i⟩) (h10 : ∀ i, P ⟨.ct .align, d, i⟩) (qreports : Q .reports) :
    Reach P Q s0 (State.alignRefresh s d) := by
  unfold State.alignRefresh
  repeat' with_reducible first | assumption | apply State.when_reach | apply State.carrierEvent_reach | apply State.ctnRefreshAll_reach | apply State.cond_reach | apply State.set_reach | (intros; show P _ = true; apply_assumption) | split | dsimp only | intro _

theorem State.clearCands_reach {d : Nat} (hs : Reach P Q s0 s) (qcands : Q .cands) :
    Reach P Q s0 (State.clearCands s d) := by
  unfold State.clearCands
  repeat' with_reducible first | assumption | apply foldl_reach | (intros; show P _ = true; apply_assumption) | split | dsimp only | intro _ | apply State.cands_reach

theorem State.loseFrame_reach {d : Nat} (hs : Reach P Q s0 s) (h1 : ∀ i, P ⟨.ct .nOofEnter, d, i⟩) (h2 : ∀ i, P ⟨.ct .mfasSeen, d, i⟩) (h3 : ∀ i, P ⟨.ct .misses, d, i⟩) (h4 : ∀ i, P ⟨.ct .inFrame, d, i⟩) (qcands : Q .cands) :
    Reach P Q s0 (State.loseFrame s d) := by
  unfold State.loseFrame
  repeat' with_reducible first | assumption | apply State.clearCands_reach | apply State.inc_reach | apply State.set_reach | (intros; show P _ = true; apply_assumption) | split | dsimp only | intro _

theorem State.lofFollow_reach {d : Nat} (hs : Reach P Q s0 s) (h1 : ∀ i, P ⟨.tim .evtNext, d, i⟩) (h2 : ∀ i, P ⟨.tim .evtAt, d, i⟩) (h3 : ∀ d i, P ⟨.sticky .ctnSf, d, i⟩) (h4 : ∀ d i, P ⟨.live .ctnSf, d, i⟩) (h5 : ∀ i, P ⟨.sticky .ctOof, d, i⟩) (h6 : ∀ i, P ⟨.live .ctOof, d, i⟩) (h7 : ∀ i, P ⟨.sticky .ctLof, d, i⟩) (h8 : ∀ i, P ⟨.live .ctLof, d, i⟩) (h9 : ∀ i, P ⟨.ct .candCount, d, i⟩) (h10 : ∀ i, P ⟨.ct .align, d, i⟩) (h11 : ∀ i, P ⟨.ct .lof, d, i⟩) (h12 : ∀ i, P ⟨.ct .nOofEnter, d, i⟩) (h13 : ∀ i, P ⟨.ct .mfasSeen, d, i⟩) (h14 : ∀ i, P ⟨.ct .misses, d, i⟩) (h15 : ∀ i, P ⟨.ct .inFrame, d, i⟩) (qreports : Q .reports) (qcands : Q .cands) :
    Reach P Q s0 (State.lofFollow s d) := by
  unfold State.lofFollow
  repeat' with_reducible first | assumption | apply State.alignRefresh_reach | apply State.set_reach | apply State.loseFrame_reach | apply State.clearCands_reach | (intros; show P _ = true; apply_assumption) | split | dsimp only | intro _

theorem State.fecSfRefresh_reach {d : Nat} (hs : Reach P Q s0 s) (h1 : ∀ i, P ⟨.tim .evtNext, d, i⟩) (h2 : ∀ i, P ⟨.tim .evtAt, d, i⟩) (h3 : ∀ d i, P ⟨.sticky .ctnSf, d, i⟩) (h4 : ∀ d i, P ⟨.live .ctnSf, d, i⟩) (h5 : ∀ i, P ⟨.sticky .ctOof, d, i⟩) (h6 : ∀ i, P ⟨.live .ctOof, d, i⟩) (h7 : ∀ i, P ⟨.sticky .ctLof, d, i⟩) (h8 : ∀ i, P ⟨.live .ctLof, d, i⟩) (h9 : ∀ i, P ⟨.ct .candCount, d, i⟩) (h10 : ∀ i, P ⟨.ct .align, d, i⟩) (h11 : ∀ i, P ⟨.ct .lof, d, i⟩) (h12 : ∀ i, P ⟨.ct .nOofEnter, d, i⟩) (h13 : ∀ i, P ⟨.ct .mfasSeen, d, i⟩) (h14 : ∀ i, P ⟨.ct .misses, d, i⟩) (h15 : ∀ i, P ⟨.ct .inFrame, d, i⟩) (h16 : ∀ i, P ⟨.sticky .fecSf, d, i⟩) (h17 : ∀ i, P ⟨.live .fecSf, d, i⟩) (qreports : Q .reports) (qcands : Q .cands) :
    Reach P Q s0 (State.fecSfRefresh s d) := by
  unfold State.fecSfRefresh
  repeat' with_reducible first | assumption | apply State.lofFollow_reach | apply State.cond_reach | (intros; show P _ = true; apply_assumption) | split | dsimp only | intro _

theorem State.framerSet_reach {d : Nat} {v : Nat} (hs : Reach P Q s0 s) (h1 : ∀ i, P ⟨.tim .evtNext, d, i⟩) (h2 : ∀ i, P ⟨.tim .evtAt, d, i⟩) (h3 : ∀ d i, P ⟨.sticky .ctnSf, d, i⟩) (h4 : ∀ d i, P ⟨.live .ctnSf, d, i⟩) (h5 : ∀ i, P ⟨.sticky .ctOof, d, i⟩) (h6 : ∀ i, P ⟨.live .ctOof, d, i⟩) (h7 : ∀ i, P ⟨.sticky .ctLof, d, i⟩) (h8 : ∀ i, P ⟨.live .ctLof, d, i⟩) (h9 : ∀ i, P ⟨.ct .candCount, d, i⟩) (h10 : ∀ i, P ⟨.ct .align, d, i⟩) (h11 : ∀ i, P ⟨.ct .lof, d, i⟩) (h12 : ∀ i, P ⟨.ct .nOofEnter, d, i⟩) (h13 : ∀ i, P ⟨.ct .mfasSeen, d, i⟩) (h14 : ∀ i, P ⟨.ct .misses, d, i⟩) (h15 : ∀ i, P ⟨.ct .inFrame, d, i⟩) (h16 : ∀ i, P ⟨.ct .framerEn, d, i⟩) (qreports : Q .reports) (qcands : Q .cands) :
    Reach P Q s0 (State.framerSet s d v) := by
  unfold State.framerSet
  repeat' with_reducible first | assumption | apply State.lofFollow_reach | apply State.clearCands_reach | apply State.set_reach | (intros; show P _ = true; apply_assumption) | split | dsimp only | intro _

theorem State.bipOnly_reach {d : Nat} {n : Nat} (hs : Reach P Q s0 s) (h1 : ∀ i, P ⟨.sticky .fecBipOnly, d, i⟩) (h2 : ∀ i, P ⟨.fec .nBipOnly, d, i⟩) (qreports : Q .reports) :
    Reach P Q s0 (State.bipOnly s d n) := by
  unfold State.bipOnly
  repeat' with_reducible first | assumption | apply State.event_reach | apply State.add_reach | (intros; show P _ = true; apply_assumption) | split | dsimp only | intro _

end Sys2Proof.Machine
end

