-- ==== Sys2Proof/Laws/MovesLineMode.lean ====
section
/-!
SUPPORT. What the operations of Machine/LineMode.lean may change, one lemma each (Laws/Reach.lean).
-/
namespace Sys2Proof.Machine

set_option linter.unusedTactic false
set_option linter.unreachableTactic false

variable {P : Key → Bool} {Q : Part → Bool} {s0 s : State}

theorem State.setTxComp_reach {d : Nat} {b : Nat} (hs : Reach P Q s0 s) (h1 : ∀ i, P ⟨.lt .compHi, d, i⟩) (h2 : ∀ i, P ⟨.lt .compLo, d, i⟩) :
    Reach P Q s0 (State.setTxComp s d b) := by
  unfold State.setTxComp
  repeat' with_reducible first | assumption | apply State.each_reach | apply State.set_reach | (intros; show P _ = true; apply_assumption) | split | dsimp only | intro _

theorem State.setRxComp_reach {d : Nat} {b : Nat} (hs : Reach P Q s0 s) (h1 : ∀ i, P ⟨.lr .compHi, d, i⟩) (h2 : ∀ i, P ⟨.lr .compLo, d, i⟩) :
    Reach P Q s0 (State.setRxComp s d b) := by
  unfold State.setRxComp
  repeat' with_reducible first | assumption | apply State.each_reach | apply State.set_reach | (intros; show P _ = true; apply_assumption) | split | dsimp only | intro _

end Sys2Proof.Machine
end

