-- ==== Sys2Proof/Laws/MovesTransmitter.lean ====
section
/-!
SUPPORT. What the operations of Machine/Transmitter.lean may change, one lemma each (Laws/Reach.lean).
-/
namespace Sys2Proof.Machine

set_option linter.unusedTactic false
set_option linter.unreachableTactic false

variable {P : Key → Bool} {Q : Part → Bool} {s0 s : State}

theorem State.txResume_reach {d : Nat} (hs : Reach P Q s0 s) (h1 : ∀ i, P ⟨.lt .ramp, d, i⟩) (h2 : ∀ i, P ⟨.lt .txState, d, i⟩) :
    Reach P Q s0 (State.txResume s d) := by
  unfold State.txResume
  repeat' with_reducible first | assumption | apply State.set_reach | (intros; show P _ = true; apply_assumption) | split | dsimp only | intro _

theorem State.phaseIdle_reach {d : Nat} (hs : Reach P Q s0 s) (h1 : ∀ i, P ⟨.bias .ptState, d, i⟩) (h2 : ∀ i, P ⟨.bias .ptAcq, d, i⟩) (h3 : ∀ i, P ⟨.bias .ptV, d, i⟩) (h4 : ∀ i, P ⟨.bias .ptBase, d, i⟩) :
    Reach P Q s0 (State.phaseIdle s d) := by
  unfold State.phaseIdle
  repeat' with_reducible first | assumption | apply State.each_reach | apply State.set_reach | (intros; show P _ = true; apply_assumption) | split | dsimp only | intro _

theorem State.txEnterMuted_reach {d : Nat} {causes : Nat} (hs : Reach P Q s0 s) (h1 : ∀ i, P ⟨.bias .ptState, d, i⟩) (h2 : ∀ i, P ⟨.bias .ptAcq, d, i⟩) (h3 : ∀ i, P ⟨.bias .ptV, d, i⟩) (h4 : ∀ i, P ⟨.bias .ptBase, d, i⟩) (h5 : ∀ i, P ⟨.lt .nMuteEnter, d, i⟩) (h6 : ∀ i, P ⟨.lt .txState, d, i⟩) (h7 : ∀ i, P ⟨.lt .ramp, d, i⟩) (h8 : ∀ i, P ⟨.lt .otherCause, d, i⟩) (h9 : ∀ i, P ⟨.lt .begun4, d, i⟩) :
    Reach P Q s0 (State.txEnterMuted s d causes) := by
  unfold State.txEnterMuted
  repeat' with_reducible first | assumption | apply State.phaseIdle_reach | apply State.inc_reach | apply State.set_reach | (intros; show P _ = true; apply_assumption) | split | dsimp only | intro _

theorem State.txDownCond_reach {d : Nat} (hs : Reach P Q s0 s) (h1 : ∀ i, P ⟨.sticky .ltTxDown, d, i⟩) (h2 : ∀ i, P ⟨.live .ltTxDown, d, i⟩) (qreports : Q .reports) :
    Reach P Q s0 (State.txDownCond s d) := by
  unfold State.txDownCond
  repeat' with_reducible first | assumption | apply State.cond_reach | (intros; show P _ = true; apply_assumption) | split | dsimp only | intro _

theorem State.muteRefresh_reach {d : Nat} (hs : Reach P Q s0 s) (h1 : ∀ i, P ⟨.lt .muteCause, d, i⟩) (h2 : ∀ i, P ⟨.lt .ramp, d, i⟩) (h3 : ∀ i, P ⟨.lt .txState, d, i⟩) (h4 : ∀ i, P ⟨.lt .otherCause, d, i⟩) (h5 : ∀ i, P ⟨.bias .ptState, d, i⟩) (h6 : ∀ i, P ⟨.bias .ptAcq, d, i⟩) (h7 : ∀ i, P ⟨.bias .ptV, d, i⟩) (h8 : ∀ i, P ⟨.bias .ptBase, d, i⟩) (h9 : ∀ i, P ⟨.lt .nMuteEnter, d, i⟩) (h10 : ∀ i, P ⟨.lt .begun4, d, i⟩) (h11 : ∀ i, P ⟨.sticky .ltTxDown, d, i⟩) (h12 : ∀ i, P ⟨.live .ltTxDown, d, i⟩) (qreports : Q .reports) :
    Reach P Q s0 (State.muteRefresh s d) := by
  unfold State.muteRefresh
  repeat' with_reducible first | assumption | apply State.set_reach | apply State.txResume_reach | apply State.when_reach | apply State.txEnterMuted_reach | apply State.txDownCond_reach | (intros; show P _ = true; apply_assumption) | split | dsimp only | intro _

theorem State.ptTrack_reach {d : Nat} {k : Nat} (hs : Reach P Q s0 s) (h1 : ∀ i, P ⟨.bias .ptUnlRun, d, i⟩) (h2 : ∀ i, P ⟨.bias .ptLockRun, d, i⟩) (h3 : ∀ i, P ⟨.bias .ptBase, d, i⟩) :
    Reach P Q s0 (State.ptTrack s d k) := by
  unfold State.ptTrack
  repeat' with_reducible first | assumption | apply State.set_reach | (intros; show P _ = true; apply_assumption) | split | dsimp only | intro _

theorem State.txStop_reach {d : Nat} (hs : Reach P Q s0 s) (h1 : ∀ i, P ⟨.lt .muteCause, d, i⟩) (h2 : ∀ i, P ⟨.lt .ramp, d, i⟩) (h3 : ∀ i, P ⟨.lt .txState, d, i⟩) (h4 : ∀ i, P ⟨.lt .otherCause, d, i⟩) (h5 : ∀ i, P ⟨.bias .ptState, d, i⟩) (h6 : ∀ i, P ⟨.bias .ptAcq, d, i⟩) (h7 : ∀ i, P ⟨.bias .ptV, d, i⟩) (h8 : ∀ i, P ⟨.bias .ptBase, d, i⟩) (h9 : ∀ i, P ⟨.lt .nMuteEnter, d, i⟩) (h10 : ∀ i, P ⟨.lt .begun4, d, i⟩) (h11 : ∀ i, P ⟨.sticky .ltTxDown, d, i⟩) (h12 : ∀ i, P ⟨.live .ltTxDown, d, i⟩) (h13 : ∀ i, P ⟨.lt .txEn, d, i⟩) (qreports : Q .reports) :
    Reach P Q s0 (State.txStop s d) := by
  unfold State.txStop
  repeat' with_reducible first | assumption | apply State.muteRefresh_reach | apply State.phaseIdle_reach | apply State.set_reach | (intros; show P _ = true; apply_assumption) | split | dsimp only | intro _

theorem State.txActivate_reach {d : Nat} {b : Nat} (hs : Reach P Q s0 s) (h1 : ∀ i, P ⟨.lt .excess, d, i⟩) (h2 : ∀ i, P ⟨.lt .bank, d, i⟩) :
    Reach P Q s0 (State.txActivate s d b) := by
  unfold State.txActivate
  repeat' with_reducible first | assumption | apply State.set_reach | (intros; show P _ = true; apply_assumption) | split | dsimp only | intro _

theorem State.txLoadCal_reach {d : Nat} {c : Sys2Proof.OeCal} (hs : Reach P Q s0 s) (h1 : ∀ i, P ⟨.lt .firPending, d, i⟩) (h2 : ∀ i, P ⟨.lt .yPhase, d, i⟩) (h3 : ∀ i, P ⟨.lt .xPhase, d, i⟩) (h4 : ∀ i, P ⟨.lt .tribSkew, d, i⟩) (h5 : ∀ i, P ⟨.lt .tribGain, d, i⟩) (h6 : ∀ i, P ⟨.win .ltFir, d, i⟩) :
    Reach P Q s0 (State.txLoadCal s d c) := by
  unfold State.txLoadCal
  repeat' with_reducible first | assumption | apply State.set_reach | apply State.each_reach | apply State.setI_reach | (intros; show P _ = true; apply_assumption) | split | dsimp only | intro _

theorem State.txReadCal_reach {d : Nat} {c : Sys2Proof.OeCal} (hs : Reach P Q s0 s) (h1 : ∀ i, P ⟨.live .ltTxcalFail, d, i⟩) (h2 : ∀ i, P ⟨.lt .firPending, d, i⟩) (h3 : ∀ i, P ⟨.lt .yPhase, d, i⟩) (h4 : ∀ i, P ⟨.lt .xPhase, d, i⟩) (h5 : ∀ i, P ⟨.lt .tribSkew, d, i⟩) (h6 : ∀ i, P ⟨.lt .tribGain, d, i⟩) (h7 : ∀ i, P ⟨.win .ltFir, d, i⟩) (h8 : ∀ i, P ⟨.sticky .ltTxcalFail, d, i⟩) (h9 : ∀ i, P ⟨.sys .freeCount, 0, i⟩) (qreports : Q .reports) :
    Reach P Q s0 (State.txReadCal s d c) := by
  unfold State.txReadCal
  repeat' with_reducible first | assumption | apply State.lower_reach | apply State.txLoadCal_reach | apply State.raise_reach | apply State.used_reach | (intros; show P _ = true; apply_assumption) | split | dsimp only | intro _

theorem State.txStart_reach {d : Nat} {c : Sys2Proof.OeCal} (hs : Reach P Q s0 s) (h1 : ∀ i, P ⟨.lt .firstStart, d, i⟩) (h2 : ∀ i, P ⟨.lt .excess, d, i⟩) (h3 : ∀ i, P ⟨.lt .bank, d, i⟩) (h4 : ∀ i, P ⟨.live .ltTxcalFail, d, i⟩) (h5 : ∀ i, P ⟨.lt .firPending, d, i⟩) (h6 : ∀ i, P ⟨.lt .yPhase, d, i⟩) (h7 : ∀ i, P ⟨.lt .xPhase, d, i⟩) (h8 : ∀ i, P ⟨.lt .tribSkew, d, i⟩) (h9 : ∀ i, P ⟨.lt .tribGain, d, i⟩) (h10 : ∀ i, P ⟨.win .ltFir, d, i⟩) (h11 : ∀ i, P ⟨.sticky .ltTxcalFail, d, i⟩) (h12 : ∀ i, P ⟨.sys .freeCount, 0, i⟩) (h13 : ∀ i, P ⟨.lt .muteCause, d, i⟩) (h14 : ∀ i, P ⟨.lt .ramp, d, i⟩) (h15 : ∀ i, P ⟨.lt .txState, d, i⟩) (h16 : ∀ i, P ⟨.lt .otherCause, d, i⟩) (h17 : ∀ i, P ⟨.bias .ptState, d, i⟩) (h18 : ∀ i, P ⟨.bias .ptAcq, d, i⟩) (h19 : ∀ i, P ⟨.bias .ptV, d, i⟩) (h20 : ∀ i, P ⟨.bias .ptBase, d, i⟩) (h21 : ∀ i, P ⟨.lt .nMuteEnter, d, i⟩) (h22 : ∀ i, P ⟨.lt .begun4, d, i⟩) (h23 : ∀ i, P ⟨.sticky .ltTxDown, d, i⟩) (h24 : ∀ i, P ⟨.live .ltTxDown, d, i⟩) (h25 : ∀ i, P ⟨.lt .txEn, d, i⟩) (qreports : Q .reports) :
    Reach P Q s0 (State.txStart s d c) := by
  unfold State.txStart
  repeat' with_reducible first | assumption | apply State.set_reach | apply State.txActivate_reach | apply State.txReadCal_reach | apply State.muteRefresh_reach | (intros; show P _ = true; apply_assumption) | split | dsimp only | intro _

theorem State.phaseDrive_reach {d : Nat} (hs : Reach P Q s0 s) (h1 : ∀ i, P ⟨.bias .ptState, d, i⟩) (h2 : ∀ i, P ⟨.bias .ptAcq, d, i⟩) (h3 : ∀ i, P ⟨.bias .ptUnlRun, d, i⟩) (h4 : ∀ i, P ⟨.bias .ptLockRun, d, i⟩) (h5 : ∀ i, P ⟨.bias .ptBase, d, i⟩) :
    Reach P Q s0 (State.phaseDrive s d) := by
  unfold State.phaseDrive
  repeat' with_reducible first | assumption | apply State.each_reach | apply State.set_reach | apply State.ptTrack_reach | (intros; show P _ = true; apply_assumption) | split | dsimp only | intro _

theorem execDacClipWindow_reach {d : Nat} {clipped : Nat} (hs : Reach P Q s0 s) (hsum : ∀ k, k.cell.summary → P k) (h11 : ∀ i, P ⟨.lt .nDacClip, d, i⟩) (h12 : ∀ i, P ⟨.sticky .ltDacClipHi, d, i⟩) (qreports : Q .reports) :
    ∃ t, execDacClipWindow d clipped s = .next t ∧ Reach P Q s0 t := by
  unfold execDacClipWindow
  repeat' with_reducible first | assumption | apply finishIf_reach | apply State.when_reach | apply State.add_reach | apply State.event_reach | (intros; show P _ = true; first | exact hsum _ rfl | (clear hsum; apply_assumption)) | split | dsimp only | intro _

theorem execTxMuteCauseSet_reach {d : Nat} {c : Nat} (hs : Reach P Q s0 s) (hsum : ∀ k, k.cell.summary → P k) (h11 : ∀ i, P ⟨.lt .muteCause, d, i⟩) (h12 : ∀ i, P ⟨.lt .ramp, d, i⟩) (h13 : ∀ i, P ⟨.lt .txState, d, i⟩) (h14 : ∀ i, P ⟨.lt .otherCause, d, i⟩) (h15 : ∀ i, P ⟨.bias .ptState, d, i⟩) (h16 : ∀ i, P ⟨.bias .ptAcq, d, i⟩) (h17 : ∀ i, P ⟨.bias .ptV, d, i⟩) (h18 : ∀ i, P ⟨.bias .ptBase, d, i⟩) (h19 : ∀ i, P ⟨.lt .nMuteEnter, d, i⟩) (h20 : ∀ i, P ⟨.lt .begun4, d, i⟩) (h21 : ∀ i, P ⟨.sticky .ltTxDown, d, i⟩) (h22 : ∀ i, P ⟨.live .ltTxDown, d, i⟩) (h23 : ∀ i, P ⟨.lt .mute, d, i⟩) (qreports : Q .reports) :
    ∃ t, execTxMuteCauseSet d c s = .next t ∧ Reach P Q s0 t := by
  unfold execTxMuteCauseSet
  repeat' with_reducible first | assumption | apply finishIf_reach | apply State.muteRefresh_reach | apply State.when_reach | apply State.set_reach | (intros; show P _ = true; first | exact hsum _ rfl | (clear hsum; apply_assumption)) | split | dsimp only | intro _

theorem State.txReseed_reach {d : Nat} (hs : Reach P Q s0 s) (h1 : ∀ i, P ⟨.lt .pilotY, d, i⟩) (h2 : ∀ i, P ⟨.lt .pilotX, d, i⟩) :
    Reach P Q s0 (State.txReseed s d) := by
  unfold State.txReseed
  repeat' with_reducible first | assumption | apply State.set_reach | (intros; show P _ = true; apply_assumption) | split | dsimp only | intro _

theorem State.txApplyPending_reach {d : Nat} (hs : Reach P Q s0 s) (h1 : ∀ i, P ⟨.lt .useNlpd, d, i⟩) (h2 : ∀ i, P ⟨.lt .useYPhase, d, i⟩) (h3 : ∀ i, P ⟨.lt .useXPhase, d, i⟩) (h4 : ∀ i, P ⟨.lt .useSkew, d, i⟩) (h5 : ∀ i, P ⟨.lt .useGain, d, i⟩) (h6 : ∀ i, P ⟨.lt .firPending, d, i⟩) (h7 : ∀ i, P ⟨.lt .useFir, d, i⟩) :
    Reach P Q s0 (State.txApplyPending s d) := by
  unfold State.txApplyPending
  repeat' with_reducible first | assumption | apply State.set_reach | apply State.each_reach | (intros; show P _ = true; apply_assumption) | split | dsimp only | intro _

theorem execDspFrameBoundary_reach {d : Nat} (hs : Reach P Q s0 s) (hsum : ∀ k, k.cell.summary → P k) (h11 : ∀ i, P ⟨.lt .nDspFrame, d, i⟩) (h12 : ∀ i, P ⟨.lt .pilotY, d, i⟩) (h13 : ∀ i, P ⟨.lt .pilotX, d, i⟩) (h14 : ∀ i, P ⟨.lt .useNlpd, d, i⟩) (h15 : ∀ i, P ⟨.lt .useYPhase, d, i⟩) (h16 : ∀ i, P ⟨.lt .useXPhase, d, i⟩) (h17 : ∀ i, P ⟨.lt .useSkew, d, i⟩) (h18 : ∀ i, P ⟨.lt .useGain, d, i⟩) (h19 : ∀ i, P ⟨.lt .firPending, d, i⟩) (h20 : ∀ i, P ⟨.lt .useFir, d, i⟩) (qreports : Q .reports) :
    ∃ t, execDspFrameBoundary d s = .next t ∧ Reach P Q s0 t := by
  unfold execDspFrameBoundary
  repeat' with_reducible first | assumption | apply finishIf_reach | apply State.inc_reach | apply State.txReseed_reach | apply State.txApplyPending_reach | (intros; show P _ = true; first | exact hsum _ rfl | (clear hsum; apply_assumption)) | split | dsimp only | intro _

theorem execTxEnRise_reach {d : Nat} {cal : Sys2Proof.OeCal} (hs : Reach P Q s0 s) (hsum : ∀ k, k.cell.summary → P k) (h11 : ∀ i, P ⟨.lt .firstStart, d, i⟩) (h12 : ∀ i, P ⟨.lt .excess, d, i⟩) (h13 : ∀ i, P ⟨.lt .bank, d, i⟩) (h14 : ∀ i, P ⟨.live .ltTxcalFail, d, i⟩) (h15 : ∀ i, P ⟨.lt .firPending, d, i⟩) (h16 : ∀ i, P ⟨.lt .yPhase, d, i⟩) (h17 : ∀ i, P ⟨.lt .xPhase, d, i⟩) (h18 : ∀ i, P ⟨.lt .tribSkew, d, i⟩) (h19 : ∀ i, P ⟨.lt .tribGain, d, i⟩) (h20 : ∀ i, P ⟨.win .ltFir, d, i⟩) (h21 : ∀ i, P ⟨.sticky .ltTxcalFail, d, i⟩) (h22 : ∀ i, P ⟨.sys .freeCount, 0, i⟩) (h23 : ∀ i, P ⟨.lt .muteCause, d, i⟩) (h24 : ∀ i, P ⟨.lt .ramp, d, i⟩) (h25 : ∀ i, P ⟨.lt .txState, d, i⟩) (h26 : ∀ i, P ⟨.lt .otherCause, d, i⟩) (h27 : ∀ i, P ⟨.bias .ptState, d, i⟩) (h28 : ∀ i, P ⟨.bias .ptAcq, d, i⟩) (h29 : ∀ i, P ⟨.bias .ptV, d, i⟩) (h30 : ∀ i, P ⟨.bias .ptBase, d, i⟩) (h31 : ∀ i, P ⟨.lt .nMuteEnter, d, i⟩) (h32 : ∀ i, P ⟨.lt .begun4, d, i⟩) (h33 : ∀ i, P ⟨.sticky .ltTxDown, d, i⟩) (h34 : ∀ i, P ⟨.live .ltTxDown, d, i⟩) (h35 : ∀ i, P ⟨.lt .txEn, d, i⟩) (qreports : Q .reports) :
    ∃ t, execTxEnRise d cal s = .next t ∧ Reach P Q s0 t := by
  unfold execTxEnRise
  repeat' with_reducible first | assumption | apply finishIf_reach | apply State.txStart_reach | (intros; show P _ = true; first | exact hsum _ rfl | (clear hsum; apply_assumption)) | split | dsimp only | intro _

theorem execTxRampComplete_reach {d : Nat} (hs : Reach P Q s0 s) (hsum : ∀ k, k.cell.summary → P k) (h11 : ∀ i, P ⟨.lt .muteCause, d, i⟩) (h12 : ∀ i, P ⟨.lt .ramp, d, i⟩) (h13 : ∀ i, P ⟨.lt .txState, d, i⟩) (h14 : ∀ i, P ⟨.lt .otherCause, d, i⟩) (h15 : ∀ i, P ⟨.bias .ptState, d, i⟩) (h16 : ∀ i, P ⟨.bias .ptAcq, d, i⟩) (h17 : ∀ i, P ⟨.bias .ptV, d, i⟩) (h18 : ∀ i, P ⟨.bias .ptBase, d, i⟩) (h19 : ∀ i, P ⟨.lt .nMuteEnter, d, i⟩) (h20 : ∀ i, P ⟨.lt .begun4, d, i⟩) (h21 : ∀ i, P ⟨.sticky .ltTxDown, d, i⟩) (h22 : ∀ i, P ⟨.live .ltTxDown, d, i⟩) (h23 : ∀ i, P ⟨.bias .ptUnlRun, d, i⟩) (h24 : ∀ i, P ⟨.bias .ptLockRun, d, i⟩) (qreports : Q .reports) :
    ∃ t, execTxRampComplete d s = .next t ∧ Reach P Q s0 t := by
  unfold execTxRampComplete
  repeat' with_reducible first | assumption | apply finishIf_reach | apply State.muteRefresh_reach | apply State.phaseDrive_reach | apply State.set_reach | (intros; show P _ = true; first | exact hsum _ rfl | (clear hsum; apply_assumption)) | split | dsimp only | intro _

theorem execTxMuteCauseClear_reach {d : Nat} {c : Nat} (hs : Reach P Q s0 s) (hsum : ∀ k, k.cell.summary → P k) (h11 : ∀ i, P ⟨.lt .muteCause, d, i⟩) (h12 : ∀ i, P ⟨.lt .ramp, d, i⟩) (h13 : ∀ i, P ⟨.lt .txState, d, i⟩) (h14 : ∀ i, P ⟨.lt .otherCause, d, i⟩) (h15 : ∀ i, P ⟨.bias .ptState, d, i⟩) (h16 : ∀ i, P ⟨.bias .ptAcq, d, i⟩) (h17 : ∀ i, P ⟨.bias .ptV, d, i⟩) (h18 : ∀ i, P ⟨.bias .ptBase, d, i⟩) (h19 : ∀ i, P ⟨.lt .nMuteEnter, d, i⟩) (h20 : ∀ i, P ⟨.lt .begun4, d, i⟩) (h21 : ∀ i, P ⟨.sticky .ltTxDown, d, i⟩) (h22 : ∀ i, P ⟨.live .ltTxDown, d, i⟩) (h23 : ∀ i, P ⟨.lt .mute, d, i⟩) (qreports : Q .reports) :
    ∃ t, execTxMuteCauseClear d c s = .next t ∧ Reach P Q s0 t := by
  unfold execTxMuteCauseClear
  repeat' with_reducible first | assumption | apply finishIf_reach | apply State.muteRefresh_reach | apply State.when_reach | apply State.set_reach | (intros; show P _ = true; first | exact hsum _ rfl | (clear hsum; apply_assumption)) | split | dsimp only | intro _

theorem execTxWaitEnd_reach {d : Nat} (hs : Reach P Q s0 s) (hsum : ∀ k, k.cell.summary → P k) (h11 : ∀ i, P ⟨.lt .muteCause, d, i⟩) (h12 : ∀ i, P ⟨.lt .ramp, d, i⟩) (h13 : ∀ i, P ⟨.lt .txState, d, i⟩) (h14 : ∀ i, P ⟨.lt .otherCause, d, i⟩) (h15 : ∀ i, P ⟨.bias .ptState, d, i⟩) (h16 : ∀ i, P ⟨.bias .ptAcq, d, i⟩) (h17 : ∀ i, P ⟨.bias .ptV, d, i⟩) (h18 : ∀ i, P ⟨.bias .ptBase, d, i⟩) (h19 : ∀ i, P ⟨.lt .nMuteEnter, d, i⟩) (h20 : ∀ i, P ⟨.lt .begun4, d, i⟩) (h21 : ∀ i, P ⟨.sticky .ltTxDown, d, i⟩) (h22 : ∀ i, P ⟨.live .ltTxDown, d, i⟩) (qreports : Q .reports) :
    ∃ t, execTxWaitEnd d s = .next t ∧ Reach P Q s0 t := by
  unfold execTxWaitEnd
  repeat' with_reducible first | assumption | apply finishIf_reach | apply State.muteRefresh_reach | apply State.set_reach | (intros; show P _ = true; first | exact hsum _ rfl | (clear hsum; apply_assumption)) | split | dsimp only | intro _

theorem execTxEnFall_reach {d : Nat} (hs : Reach P Q s0 s) (hsum : ∀ k, k.cell.summary → P k) (h11 : ∀ i, P ⟨.lt .muteCause, d, i⟩) (h12 : ∀ i, P ⟨.lt .ramp, d, i⟩) (h13 : ∀ i, P ⟨.lt .txState, d, i⟩) (h14 : ∀ i, P ⟨.lt .otherCause, d, i⟩) (h15 : ∀ i, P ⟨.bias .ptState, d, i⟩) (h16 : ∀ i, P ⟨.bias .ptAcq, d, i⟩) (h17 : ∀ i, P ⟨.bias .ptV, d, i⟩) (h18 : ∀ i, P ⟨.bias .ptBase, d, i⟩) (h19 : ∀ i, P ⟨.lt .nMuteEnter, d, i⟩) (h20 : ∀ i, P ⟨.lt .begun4, d, i⟩) (h21 : ∀ i, P ⟨.sticky .ltTxDown, d, i⟩) (h22 : ∀ i, P ⟨.live .ltTxDown, d, i⟩) (h23 : ∀ i, P ⟨.lt .txEn, d, i⟩) (qreports : Q .reports) :
    ∃ t, execTxEnFall d s = .next t ∧ Reach P Q s0 t := by
  unfold execTxEnFall
  repeat' with_reducible first | assumption | apply finishIf_reach | apply State.txStop_reach | (intros; show P _ = true; first | exact hsum _ rfl | (clear hsum; apply_assumption)) | split | dsimp only | intro _

theorem execLtFirApply_reach {d : Nat} (hs : Reach P Q s0 s) (hsum : ∀ k, k.cell.summary → P k) (h11 : ∀ i, P ⟨.lt .firPending, d, i⟩) (qreports : Q .reports) :
    ∃ t, execLtFirApply d s = .next t ∧ Reach P Q s0 t := by
  unfold execLtFirApply
  repeat' with_reducible first | assumption | apply finishIf_reach | apply State.set_reach | (intros; show P _ = true; first | exact hsum _ rfl | (clear hsum; apply_assumption)) | split | dsimp only | intro _

end Sys2Proof.Machine
end

