-- ==== Sys2Proof/Laws/MovesBiasPoints.lean ====
section
/-!
SUPPORT. What the operations of Machine/BiasPoints.lean may change, one lemma each (Laws/Reach.lean).
-/
namespace Sys2Proof.Machine

set_option linter.unusedTactic false
set_option linter.unreachableTactic false

variable {P : Key → Bool} {Q : Part → Bool} {s0 s : State}

theorem State.ptLeave_reach {d : Nat} {k : Nat} {v : Nat} (hs : Reach P Q s0 s) (h1 : ∀ i, P ⟨.bias .ptUnlRun, d, i⟩) (h2 : ∀ i, P ⟨.bias .ptLockRun, d, i⟩) (h3 : ∀ i, P ⟨.bias .ptBase, d, i⟩) (h4 : ∀ i, P ⟨.bias .ptTry, d, i⟩) (h5 : ∀ i, P ⟨.bias .ptV, d, i⟩) (h6 : ∀ i, P ⟨.bias .ptFirst, d, i⟩) :
    Reach P Q s0 (State.ptLeave s d k v) := by
  unfold State.ptLeave
  repeat' with_reducible first | assumption | apply State.ptTrack_reach | apply State.set_reach | (intros; show P _ = true; apply_assumption) | split | dsimp only | intro _

theorem State.ptShow_reach {d : Nat} {k : Nat} (hs : Reach P Q s0 s) (h1 : ∀ i, P ⟨.bias .ptUnlRun, d, i⟩) (h2 : ∀ i, P ⟨.bias .ptLockRun, d, i⟩) (h3 : ∀ i, P ⟨.bias .ptBase, d, i⟩) (h4 : ∀ i, P ⟨.bias .ptTry, d, i⟩) (h5 : ∀ i, P ⟨.bias .ptV, d, i⟩) (h6 : ∀ i, P ⟨.bias .ptFirst, d, i⟩) (h7 : ∀ i, P ⟨.bias .nUnlock, d, i⟩) (h8 : ∀ i, P ⟨.bias .ptState, d, i⟩) (h9 : ∀ i, P ⟨.sys .freeCount, 0, i⟩) (h10 : ∀ i, P ⟨.bias .outMv, d, i⟩) :
    Reach P Q s0 (State.ptShow s d k) := by
  unfold State.ptShow
  repeat' with_reducible first | assumption | apply State.ptLeave_reach | apply State.incIf_reach | apply State.set_reach | apply State.used_reach | (intros; show P _ = true; apply_assumption) | split | dsimp only | intro _

theorem State.biasShow_reach {d : Nat} (hs : Reach P Q s0 s) (h1 : ∀ i, P ⟨.bias .ptUnlRun, d, i⟩) (h2 : ∀ i, P ⟨.bias .ptLockRun, d, i⟩) (h3 : ∀ i, P ⟨.bias .ptBase, d, i⟩) (h4 : ∀ i, P ⟨.bias .ptTry, d, i⟩) (h5 : ∀ i, P ⟨.bias .ptV, d, i⟩) (h6 : ∀ i, P ⟨.bias .ptFirst, d, i⟩) (h7 : ∀ i, P ⟨.bias .nUnlock, d, i⟩) (h8 : ∀ i, P ⟨.bias .ptState, d, i⟩) (h9 : ∀ i, P ⟨.sys .freeCount, 0, i⟩) (h10 : ∀ i, P ⟨.bias .outMv, d, i⟩) (h11 : ∀ i, P ⟨.bias .ptLocked, d, i⟩) (h12 : ∀ i, P ⟨.bias .biasLock, d, i⟩) (h13 : ∀ i, P ⟨.sticky .biasNearRail, d, i⟩) (h14 : ∀ i, P ⟨.live .biasNearRail, d, i⟩) (h15 : ∀ i, P ⟨.sticky .biasRail, d, i⟩) (h16 : ∀ i, P ⟨.live .biasRail, d, i⟩) (h17 : ∀ i, P ⟨.sticky .biasOutFault, d, i⟩) (h18 : ∀ i, P ⟨.live .biasOutFault, d, i⟩) (h19 : ∀ i, P ⟨.sticky .biasUnlock, d, i⟩) (h20 : ∀ i, P ⟨.live .biasUnlock, d, i⟩) (h21 : ∀ i, P ⟨.lt .muteCause, d, i⟩) (h22 : ∀ i, P ⟨.lt .ramp, d, i⟩) (h23 : ∀ i, P ⟨.lt .txState, d, i⟩) (h24 : ∀ i, P ⟨.lt .otherCause, d, i⟩) (h25 : ∀ i, P ⟨.bias .ptAcq, d, i⟩) (h26 : ∀ i, P ⟨.lt .nMuteEnter, d, i⟩) (h27 : ∀ i, P ⟨.lt .begun4, d, i⟩) (h28 : ∀ i, P ⟨.sticky .ltTxDown, d, i⟩) (h29 : ∀ i, P ⟨.live .ltTxDown, d, i⟩) (qreports : Q .reports) :
    Reach P Q s0 (State.biasShow s d) := by
  unfold State.biasShow
  repeat' with_reducible first | assumption | apply State.each_reach | apply State.ptShow_reach | apply State.set_reach | apply State.setB_reach | apply State.cond_reach | apply State.when_reach | apply State.muteRefresh_reach | (intros; show P _ = true; apply_assumption) | split | dsimp only | intro _

theorem State.lightSet_reach {d : Nat} {b : Bool} (hs : Reach P Q s0 s) (h1 : ∀ i, P ⟨.bias .ptUnlRun, d, i⟩) (h2 : ∀ i, P ⟨.bias .ptLockRun, d, i⟩) (h3 : ∀ i, P ⟨.bias .ptBase, d, i⟩) (h4 : ∀ i, P ⟨.bias .ptTry, d, i⟩) (h5 : ∀ i, P ⟨.bias .ptV, d, i⟩) (h6 : ∀ i, P ⟨.bias .ptFirst, d, i⟩) (h7 : ∀ i, P ⟨.bias .nUnlock, d, i⟩) (h8 : ∀ i, P ⟨.bias .ptState, d, i⟩) (h9 : ∀ i, P ⟨.sys .freeCount, 0, i⟩) (h10 : ∀ i, P ⟨.bias .outMv, d, i⟩) (h11 : ∀ i, P ⟨.bias .ptLocked, d, i⟩) (h12 : ∀ i, P ⟨.bias .biasLock, d, i⟩) (h13 : ∀ i, P ⟨.sticky .biasNearRail, d, i⟩) (h14 : ∀ i, P ⟨.live .biasNearRail, d, i⟩) (h15 : ∀ i, P ⟨.sticky .biasRail, d, i⟩) (h16 : ∀ i, P ⟨.live .biasRail, d, i⟩) (h17 : ∀ i, P ⟨.sticky .biasOutFault, d, i⟩) (h18 : ∀ i, P ⟨.live .biasOutFault, d, i⟩) (h19 : ∀ i, P ⟨.sticky .biasUnlock, d, i⟩) (h20 : ∀ i, P ⟨.live .biasUnlock, d, i⟩) (h21 : ∀ i, P ⟨.lt .muteCause, d, i⟩) (h22 : ∀ i, P ⟨.lt .ramp, d, i⟩) (h23 : ∀ i, P ⟨.lt .txState, d, i⟩) (h24 : ∀ i, P ⟨.lt .otherCause, d, i⟩) (h25 : ∀ i, P ⟨.bias .ptAcq, d, i⟩) (h26 : ∀ i, P ⟨.lt .nMuteEnter, d, i⟩) (h27 : ∀ i, P ⟨.lt .begun4, d, i⟩) (h28 : ∀ i, P ⟨.sticky .ltTxDown, d, i⟩) (h29 : ∀ i, P ⟨.live .ltTxDown, d, i⟩) (h30 : ∀ i, P ⟨.bias .light, d, i⟩) (qreports : Q .reports) :
    Reach P Q s0 (State.lightSet s d b) := by
  unfold State.lightSet
  repeat' with_reducible first | assumption | apply State.biasShow_reach | apply State.setB_reach | (intros; show P _ = true; apply_assumption) | split | dsimp only | intro _

end Sys2Proof.Machine
end

