-- ==== Sys2Proof/Laws/MovesLaser.lean ====
section
/-!
SUPPORT. What the operations of Machine/Laser.lean may change, one lemma each (Laws/Reach.lean).
-/
namespace Sys2Proof.Machine

set_option linter.unusedTactic false
set_option linter.unreachableTactic false

variable {P : Key → Bool} {Q : Part → Bool} {s0 s : State}

theorem State.opticsRefresh_reach {d : Nat} (hs : Reach P Q s0 s) (h1 : ∀ i, P ⟨.sticky .lrLoLost, d, i⟩) (h2 : ∀ i, P ⟨.live .lrLoLost, d, i⟩) (h3 : ∀ i, P ⟨.lt .muteCause, d, i⟩) (h4 : ∀ i, P ⟨.lt .ramp, d, i⟩) (h5 : ∀ i, P ⟨.lt .txState, d, i⟩) (h6 : ∀ i, P ⟨.lt .otherCause, d, i⟩) (h7 : ∀ i, P ⟨.bias .ptState, d, i⟩) (h8 : ∀ i, P ⟨.bias .ptAcq, d, i⟩) (h9 : ∀ i, P ⟨.bias .ptV, d, i⟩) (h10 : ∀ i, P ⟨.bias .ptBase, d, i⟩) (h11 : ∀ i, P ⟨.lt .nMuteEnter, d, i⟩) (h12 : ∀ i, P ⟨.lt .begun4, d, i⟩) (h13 : ∀ i, P ⟨.sticky .ltTxDown, d, i⟩) (h14 : ∀ i, P ⟨.live .ltTxDown, d, i⟩) (qreports : Q .reports) :
    Reach P Q s0 (State.opticsRefresh s d) := by
  unfold State.opticsRefresh
  repeat' with_reducible first | assumption | apply State.cond_reach | apply State.muteRefresh_reach | (intros; show P _ = true; apply_assumption) | split | dsimp only | intro _

theorem State.discoverEnd_reach {p : Nat} {ok : Bool} {reason : Nat} (hs : Reach P Q s0 s) (h1 : ∀ i, P ⟨.boot .procCalled, 0, i⟩) (h2 : ∀ i, P ⟨.boot .procCode, 0, i⟩) (h3 : ∀ i, P ⟨.boot .procDone, 0, i⟩) :
    Reach P Q s0 (State.discoverEnd s p ok reason) := by
  unfold State.discoverEnd
  repeat' with_reducible first | assumption | apply State.when_reach | apply State.procEnd_reach | (intros; show P _ = true; apply_assumption) | split | dsimp only | intro _

theorem State.lasDisable_reach {p : Nat} (hs : Reach P Q s0 s) (h1 : ∀ i, P ⟨.bias .ptUnlRun, p, i⟩) (h2 : ∀ i, P ⟨.bias .ptLockRun, p, i⟩) (h3 : ∀ i, P ⟨.bias .ptBase, p, i⟩) (h4 : ∀ i, P ⟨.bias .ptTry, p, i⟩) (h5 : ∀ i, P ⟨.bias .ptV, p, i⟩) (h6 : ∀ i, P ⟨.bias .ptFirst, p, i⟩) (h7 : ∀ i, P ⟨.bias .nUnlock, p, i⟩) (h8 : ∀ i, P ⟨.bias .ptState, p, i⟩) (h9 : ∀ i, P ⟨.sys .freeCount, 0, i⟩) (h10 : ∀ i, P ⟨.bias .outMv, p, i⟩) (h11 : ∀ i, P ⟨.bias .ptLocked, p, i⟩) (h12 : ∀ i, P ⟨.bias .biasLock, p, i⟩) (h13 : ∀ i, P ⟨.sticky .biasNearRail, p, i⟩) (h14 : ∀ i, P ⟨.live .biasNearRail, p, i⟩) (h15 : ∀ i, P ⟨.sticky .biasRail, p, i⟩) (h16 : ∀ i, P ⟨.live .biasRail, p, i⟩) (h17 : ∀ i, P ⟨.sticky .biasOutFault, p, i⟩) (h18 : ∀ i, P ⟨.live .biasOutFault, p, i⟩) (h19 : ∀ i, P ⟨.sticky .biasUnlock, p, i⟩) (h20 : ∀ i, P ⟨.live .biasUnlock, p, i⟩) (h21 : ∀ i, P ⟨.lt .muteCause, p, i⟩) (h22 : ∀ i, P ⟨.lt .ramp, p, i⟩) (h23 : ∀ i, P ⟨.lt .txState, p, i⟩) (h24 : ∀ i, P ⟨.lt .otherCause, p, i⟩) (h25 : ∀ i, P ⟨.bias .ptAcq, p, i⟩) (h26 : ∀ i, P ⟨.lt .nMuteEnter, p, i⟩) (h27 : ∀ i, P ⟨.lt .begun4, p, i⟩) (h28 : ∀ i, P ⟨.sticky .ltTxDown, p, i⟩) (h29 : ∀ i, P ⟨.live .ltTxDown, p, i⟩) (h30 : ∀ i, P ⟨.bias .light, p, i⟩) (h31 : ∀ i, P ⟨.sticky .lrLoLost, p, i⟩) (h32 : ∀ i, P ⟨.live .lrLoLost, p, i⟩) (h33 : ∀ i, P ⟨.boot .procCalled, 0, i⟩) (h34 : ∀ i, P ⟨.boot .procCode, 0, i⟩) (h35 : ∀ i, P ⟨.boot .procDone, 0, i⟩) (h36 : ∀ i, P ⟨.live .lasFault, p, i⟩) (h37 : ∀ i, P ⟨.las .lowCount, p, i⟩) (h38 : ∀ i, P ⟨.las .recovering, p, i⟩) (h39 : ∀ i, P ⟨.las .reason, p, i⟩) (h40 : ∀ i, P ⟨.las .state, p, i⟩) (qreports : Q .reports) :
    Reach P Q s0 (State.lasDisable s p) := by
  unfold State.lasDisable
  repeat' with_reducible first | assumption | apply State.lightSet_reach | apply State.opticsRefresh_reach | apply State.discoverEnd_reach | apply State.lower_reach | apply State.set_reach | (intros; show P _ = true; apply_assumption) | split | dsimp only | intro _

theorem State.lasEnable_reach {p : Nat} (hs : Reach P Q s0 s) (h1 : ∀ i, P ⟨.sticky .lrLoLost, p, i⟩) (h2 : ∀ i, P ⟨.live .lrLoLost, p, i⟩) (h3 : ∀ i, P ⟨.lt .muteCause, p, i⟩) (h4 : ∀ i, P ⟨.lt .ramp, p, i⟩) (h5 : ∀ i, P ⟨.lt .txState, p, i⟩) (h6 : ∀ i, P ⟨.lt .otherCause, p, i⟩) (h7 : ∀ i, P ⟨.bias .ptState, p, i⟩) (h8 : ∀ i, P ⟨.bias .ptAcq, p, i⟩) (h9 : ∀ i, P ⟨.bias .ptV, p, i⟩) (h10 : ∀ i, P ⟨.bias .ptBase, p, i⟩) (h11 : ∀ i, P ⟨.lt .nMuteEnter, p, i⟩) (h12 : ∀ i, P ⟨.lt .begun4, p, i⟩) (h13 : ∀ i, P ⟨.sticky .ltTxDown, p, i⟩) (h14 : ∀ i, P ⟨.live .ltTxDown, p, i⟩) (h15 : ∀ i, P ⟨.las .state, p, i⟩) (h16 : ∀ i, P ⟨.las .lasEn, p, i⟩) (qreports : Q .reports) :
    Reach P Q s0 (State.lasEnable s p) := by
  unfold State.lasEnable
  repeat' with_reducible first | assumption | apply State.opticsRefresh_reach | apply State.set_reach | (intros; show P _ = true; apply_assumption) | split | dsimp only | intro _

theorem State.lasEnFall_reach {p : Nat} (hs : Reach P Q s0 s) (h1 : ∀ i, P ⟨.bias .ptUnlRun, p, i⟩) (h2 : ∀ i, P ⟨.bias .ptLockRun, p, i⟩) (h3 : ∀ i, P ⟨.bias .ptBase, p, i⟩) (h4 : ∀ i, P ⟨.bias .ptTry, p, i⟩) (h5 : ∀ i, P ⟨.bias .ptV, p, i⟩) (h6 : ∀ i, P ⟨.bias .ptFirst, p, i⟩) (h7 : ∀ i, P ⟨.bias .nUnlock, p, i⟩) (h8 : ∀ i, P ⟨.bias .ptState, p, i⟩) (h9 : ∀ i, P ⟨.sys .freeCount, 0, i⟩) (h10 : ∀ i, P ⟨.bias .outMv, p, i⟩) (h11 : ∀ i, P ⟨.bias .ptLocked, p, i⟩) (h12 : ∀ i, P ⟨.bias .biasLock, p, i⟩) (h13 : ∀ i, P ⟨.sticky .biasNearRail, p, i⟩) (h14 : ∀ i, P ⟨.live .biasNearRail, p, i⟩) (h15 : ∀ i, P ⟨.sticky .biasRail, p, i⟩) (h16 : ∀ i, P ⟨.live .biasRail, p, i⟩) (h17 : ∀ i, P ⟨.sticky .biasOutFault, p, i⟩) (h18 : ∀ i, P ⟨.live .biasOutFault, p, i⟩) (h19 : ∀ i, P ⟨.sticky .biasUnlock, p, i⟩) (h20 : ∀ i, P ⟨.live .biasUnlock, p, i⟩) (h21 : ∀ i, P ⟨.lt .muteCause, p, i⟩) (h22 : ∀ i, P ⟨.lt .ramp, p, i⟩) (h23 : ∀ i, P ⟨.lt .txState, p, i⟩) (h24 : ∀ i, P ⟨.lt .otherCause, p, i⟩) (h25 : ∀ i, P ⟨.bias .ptAcq, p, i⟩) (h26 : ∀ i, P ⟨.lt .nMuteEnter, p, i⟩) (h27 : ∀ i, P ⟨.lt .begun4, p, i⟩) (h28 : ∀ i, P ⟨.sticky .ltTxDown, p, i⟩) (h29 : ∀ i, P ⟨.live .ltTxDown, p, i⟩) (h30 : ∀ i, P ⟨.bias .light, p, i⟩) (h31 : ∀ i, P ⟨.sticky .lrLoLost, p, i⟩) (h32 : ∀ i, P ⟨.live .lrLoLost, p, i⟩) (h33 : ∀ i, P ⟨.boot .procCalled, 0, i⟩) (h34 : ∀ i, P ⟨.boot .procCode, 0, i⟩) (h35 : ∀ i, P ⟨.boot .procDone, 0, i⟩) (h36 : ∀ i, P ⟨.live .lasFault, p, i⟩) (h37 : ∀ i, P ⟨.las .lowCount, p, i⟩) (h38 : ∀ i, P ⟨.las .recovering, p, i⟩) (h39 : ∀ i, P ⟨.las .reason, p, i⟩) (h40 : ∀ i, P ⟨.las .state, p, i⟩) (h41 : ∀ i, P ⟨.las .lasEn, p, i⟩) (qreports : Q .reports) :
    Reach P Q s0 (State.lasEnFall s p) := by
  unfold State.lasEnFall
  repeat' with_reducible first | assumption | apply State.lasDisable_reach | apply State.set_reach | (intros; show P _ = true; apply_assumption) | split | dsimp only | intro _

theorem State.lasRetune_reach {p : Nat} (hs : Reach P Q s0 s) (h1 : ∀ i, P ⟨.sticky .lrLoLost, p, i⟩) (h2 : ∀ i, P ⟨.live .lrLoLost, p, i⟩) (h3 : ∀ i, P ⟨.lt .muteCause, p, i⟩) (h4 : ∀ i, P ⟨.lt .ramp, p, i⟩) (h5 : ∀ i, P ⟨.lt .txState, p, i⟩) (h6 : ∀ i, P ⟨.lt .otherCause, p, i⟩) (h7 : ∀ i, P ⟨.bias .ptState, p, i⟩) (h8 : ∀ i, P ⟨.bias .ptAcq, p, i⟩) (h9 : ∀ i, P ⟨.bias .ptV, p, i⟩) (h10 : ∀ i, P ⟨.bias .ptBase, p, i⟩) (h11 : ∀ i, P ⟨.lt .nMuteEnter, p, i⟩) (h12 : ∀ i, P ⟨.lt .begun4, p, i⟩) (h13 : ∀ i, P ⟨.sticky .ltTxDown, p, i⟩) (h14 : ∀ i, P ⟨.live .ltTxDown, p, i⟩) (h15 : ∀ i, P ⟨.las .state, p, i⟩) (qreports : Q .reports) :
    Reach P Q s0 (State.lasRetune s p) := by
  unfold State.lasRetune
  repeat' with_reducible first | assumption | apply State.opticsRefresh_reach | apply State.set_reach | (intros; show P _ = true; apply_assumption) | split | dsimp only | intro _

theorem State.lasFail_reach {p : Nat} {reason : Nat} (hs : Reach P Q s0 s) (h1 : ∀ i, P ⟨.las .recovering, p, i⟩) (h2 : ∀ i, P ⟨.las .lowCount, p, i⟩) (h3 : ∀ i, P ⟨.las .reason, p, i⟩) (h4 : ∀ i, P ⟨.las .state, p, i⟩) (h5 : ∀ i, P ⟨.sticky .lasFault, p, i⟩) (h6 : ∀ i, P ⟨.live .lasFault, p, i⟩) (h7 : ∀ i, P ⟨.las .nFaultEnter, p, i⟩) (h8 : ∀ i, P ⟨.sticky .lrLoLost, p, i⟩) (h9 : ∀ i, P ⟨.live .lrLoLost, p, i⟩) (h10 : ∀ i, P ⟨.lt .muteCause, p, i⟩) (h11 : ∀ i, P ⟨.lt .ramp, p, i⟩) (h12 : ∀ i, P ⟨.lt .txState, p, i⟩) (h13 : ∀ i, P ⟨.lt .otherCause, p, i⟩) (h14 : ∀ i, P ⟨.bias .ptState, p, i⟩) (h15 : ∀ i, P ⟨.bias .ptAcq, p, i⟩) (h16 : ∀ i, P ⟨.bias .ptV, p, i⟩) (h17 : ∀ i, P ⟨.bias .ptBase, p, i⟩) (h18 : ∀ i, P ⟨.lt .nMuteEnter, p, i⟩) (h19 : ∀ i, P ⟨.lt .begun4, p, i⟩) (h20 : ∀ i, P ⟨.sticky .ltTxDown, p, i⟩) (h21 : ∀ i, P ⟨.live .ltTxDown, p, i⟩) (h22 : ∀ i, P ⟨.boot .procCalled, 0, i⟩) (h23 : ∀ i, P ⟨.boot .procCode, 0, i⟩) (h24 : ∀ i, P ⟨.boot .procDone, 0, i⟩) (qreports : Q .reports) :
    Reach P Q s0 (State.lasFail s p reason) := by
  unfold State.lasFail
  repeat' with_reducible first | assumption | apply State.set_reach | apply State.raise_reach | apply State.inc_reach | apply State.opticsRefresh_reach | apply State.discoverEnd_reach | (intros; show P _ = true; apply_assumption) | split | dsimp only | intro _

theorem execLasPresenceLost_reach {p : Nat} (hs : Reach P Q s0 s) (hsum : ∀ k, k.cell.summary → P k) (h11 : ∀ i, P ⟨.bias .ptUnlRun, p, i⟩) (h12 : ∀ i, P ⟨.bias .ptLockRun, p, i⟩) (h13 : ∀ i, P ⟨.bias .ptBase, p, i⟩) (h14 : ∀ i, P ⟨.bias .ptTry, p, i⟩) (h15 : ∀ i, P ⟨.bias .ptV, p, i⟩) (h16 : ∀ i, P ⟨.bias .ptFirst, p, i⟩) (h17 : ∀ i, P ⟨.bias .nUnlock, p, i⟩) (h18 : ∀ i, P ⟨.bias .ptState, p, i⟩) (h19 : ∀ i, P ⟨.sys .freeCount, 0, i⟩) (h20 : ∀ i, P ⟨.bias .outMv, p, i⟩) (h21 : ∀ i, P ⟨.bias .ptLocked, p, i⟩) (h22 : ∀ i, P ⟨.bias .biasLock, p, i⟩) (h23 : ∀ i, P ⟨.sticky .biasNearRail, p, i⟩) (h24 : ∀ i, P ⟨.live .biasNearRail, p, i⟩) (h25 : ∀ i, P ⟨.sticky .biasRail, p, i⟩) (h26 : ∀ i, P ⟨.live .biasRail, p, i⟩) (h27 : ∀ i, P ⟨.sticky .biasOutFault, p, i⟩) (h28 : ∀ i, P ⟨.live .biasOutFault, p, i⟩) (h29 : ∀ i, P ⟨.sticky .biasUnlock, p, i⟩) (h30 : ∀ i, P ⟨.live .biasUnlock, p, i⟩) (h31 : ∀ i, P ⟨.lt .muteCause, p, i⟩) (h32 : ∀ i, P ⟨.lt .ramp, p, i⟩) (h33 : ∀ i, P ⟨.lt .txState, p, i⟩) (h34 : ∀ i, P ⟨.lt .otherCause, p, i⟩) (h35 : ∀ i, P ⟨.bias .ptAcq, p, i⟩) (h36 : ∀ i, P ⟨.lt .nMuteEnter, p, i⟩) (h37 : ∀ i, P ⟨.lt .begun4, p, i⟩) (h38 : ∀ i, P ⟨.sticky .ltTxDown, p, i⟩) (h39 : ∀ i, P ⟨.live .ltTxDown, p, i⟩) (h40 : ∀ i, P ⟨.bias .light, p, i⟩) (h41 : ∀ i, P ⟨.las .recovering, p, i⟩) (h42 : ∀ i, P ⟨.las .lowCount, p, i⟩) (h43 : ∀ i, P ⟨.las .reason, p, i⟩) (h44 : ∀ i, P ⟨.las .state, p, i⟩) (h45 : ∀ i, P ⟨.sticky .lasFault, p, i⟩) (h46 : ∀ i, P ⟨.live .lasFault, p, i⟩) (h47 : ∀ i, P ⟨.las .nFaultEnter, p, i⟩) (h48 : ∀ i, P ⟨.sticky .lrLoLost, p, i⟩) (h49 : ∀ i, P ⟨.live .lrLoLost, p, i⟩) (h50 : ∀ i, P ⟨.boot .procCalled, 0, i⟩) (h51 : ∀ i, P ⟨.boot .procCode, 0, i⟩) (h52 : ∀ i, P ⟨.boot .procDone, 0, i⟩) (h53 : ∀ i, P ⟨.las .retryWait, p, i⟩) (h54 : ∀ i, P ⟨.las .attempt, p, i⟩) (h55 : ∀ i, P ⟨.las .present, p, i⟩) (qreports : Q .reports) :
    ∃ t, execLasPresenceLost p s = .next t ∧ Reach P Q s0 t := by
  unfold execLasPresenceLost
  repeat' with_reducible first | assumption | apply finishIf_reach | apply State.lightSet_reach | apply State.lasFail_reach | apply State.set_reach | (intros; show P _ = true; first | exact hsum _ rfl | (clear hsum; apply_assumption)) | split | dsimp only | intro _

theorem execLasRetryWaitExpiry_reach {p : Nat} (hs : Reach P Q s0 s) (hsum : ∀ k, k.cell.summary → P k) (h11 : ∀ i, P ⟨.las .nRetry, p, i⟩) (h12 : ∀ i, P ⟨.las .retryWait, p, i⟩) (qreports : Q .reports) :
    ∃ t, execLasRetryWaitExpiry p s = .next t ∧ Reach P Q s0 t := by
  unfold execLasRetryWaitExpiry
  repeat' with_reducible first | assumption | apply finishIf_reach | apply State.inc_reach | apply State.set_reach | (intros; show P _ = true; first | exact hsum _ rfl | (clear hsum; apply_assumption)) | split | dsimp only | intro _

theorem State.lasEnterReady_reach {p : Nat} {tap : Int} (hs : Reach P Q s0 s) (h1 : ∀ i, P ⟨.bias .ptUnlRun, p, i⟩) (h2 : ∀ i, P ⟨.bias .ptLockRun, p, i⟩) (h3 : ∀ i, P ⟨.bias .ptBase, p, i⟩) (h4 : ∀ i, P ⟨.bias .ptTry, p, i⟩) (h5 : ∀ i, P ⟨.bias .ptV, p, i⟩) (h6 : ∀ i, P ⟨.bias .ptFirst, p, i⟩) (h7 : ∀ i, P ⟨.bias .nUnlock, p, i⟩) (h8 : ∀ i, P ⟨.bias .ptState, p, i⟩) (h9 : ∀ i, P ⟨.sys .freeCount, 0, i⟩) (h10 : ∀ i, P ⟨.bias .outMv, p, i⟩) (h11 : ∀ i, P ⟨.bias .ptLocked, p, i⟩) (h12 : ∀ i, P ⟨.bias .biasLock, p, i⟩) (h13 : ∀ i, P ⟨.sticky .biasNearRail, p, i⟩) (h14 : ∀ i, P ⟨.live .biasNearRail, p, i⟩) (h15 : ∀ i, P ⟨.sticky .biasRail, p, i⟩) (h16 : ∀ i, P ⟨.live .biasRail, p, i⟩) (h17 : ∀ i, P ⟨.sticky .biasOutFault, p, i⟩) (h18 : ∀ i, P ⟨.live .biasOutFault, p, i⟩) (h19 : ∀ i, P ⟨.sticky .biasUnlock, p, i⟩) (h20 : ∀ i, P ⟨.live .biasUnlock, p, i⟩) (h21 : ∀ i, P ⟨.lt .muteCause, p, i⟩) (h22 : ∀ i, P ⟨.lt .ramp, p, i⟩) (h23 : ∀ i, P ⟨.lt .txState, p, i⟩) (h24 : ∀ i, P ⟨.lt .otherCause, p, i⟩) (h25 : ∀ i, P ⟨.bias .ptAcq, p, i⟩) (h26 : ∀ i, P ⟨.lt .nMuteEnter, p, i⟩) (h27 : ∀ i, P ⟨.lt .begun4, p, i⟩) (h28 : ∀ i, P ⟨.sticky .ltTxDown, p, i⟩) (h29 : ∀ i, P ⟨.live .ltTxDown, p, i⟩) (h30 : ∀ i, P ⟨.bias .light, p, i⟩) (h31 : ∀ i, P ⟨.sticky .lrLoLost, p, i⟩) (h32 : ∀ i, P ⟨.live .lrLoLost, p, i⟩) (h33 : ∀ i, P ⟨.boot .procCalled, 0, i⟩) (h34 : ∀ i, P ⟨.boot .procCode, 0, i⟩) (h35 : ∀ i, P ⟨.boot .procDone, 0, i⟩) (h36 : ∀ i, P ⟨.live .lasLow, p, i⟩) (h37 : ∀ i, P ⟨.live .lasFault, p, i⟩) (h38 : ∀ i, P ⟨.las .state, p, i⟩) (h39 : ∀ i, P ⟨.las .reason, p, i⟩) (h40 : ∀ i, P ⟨.las .recovering, p, i⟩) (h41 : ∀ i, P ⟨.las .lowCount, p, i⟩) (h42 : ∀ i, P ⟨.las .refTap, p, i⟩) (qreports : Q .reports) :
    Reach P Q s0 (State.lasEnterReady s p tap) := by
  unfold State.lasEnterReady
  repeat' with_reducible first | assumption | apply State.lightSet_reach | apply State.opticsRefresh_reach | apply State.discoverEnd_reach | apply State.lower_reach | apply State.set_reach | apply State.setI_reach | (intros; show P _ = true; apply_assumption) | split | dsimp only | intro _

theorem State.lasTune_reach {p : Nat} {r : Sys2Proof.LasRead} (hs : Reach P Q s0 s) (h1 : ∀ i, P ⟨.las .state, p, i⟩) (h2 : ∀ i, P ⟨.bias .ptUnlRun, p, i⟩) (h3 : ∀ i, P ⟨.bias .ptLockRun, p, i⟩) (h4 : ∀ i, P ⟨.bias .ptBase, p, i⟩) (h5 : ∀ i, P ⟨.bias .ptTry, p, i⟩) (h6 : ∀ i, P ⟨.bias .ptV, p, i⟩) (h7 : ∀ i, P ⟨.bias .ptFirst, p, i⟩) (h8 : ∀ i, P ⟨.bias .nUnlock, p, i⟩) (h9 : ∀ i, P ⟨.bias .ptState, p, i⟩) (h10 : ∀ i, P ⟨.sys .freeCount, 0, i⟩) (h11 : ∀ i, P ⟨.bias .outMv, p, i⟩) (h12 : ∀ i, P ⟨.bias .ptLocked, p, i⟩) (h13 : ∀ i, P ⟨.bias .biasLock, p, i⟩) (h14 : ∀ i, P ⟨.sticky .biasNearRail, p, i⟩) (h15 : ∀ i, P ⟨.live .biasNearRail, p, i⟩) (h16 : ∀ i, P ⟨.sticky .biasRail, p, i⟩) (h17 : ∀ i, P ⟨.live .biasRail, p, i⟩) (h18 : ∀ i, P ⟨.sticky .biasOutFault, p, i⟩) (h19 : ∀ i, P ⟨.live .biasOutFault, p, i⟩) (h20 : ∀ i, P ⟨.sticky .biasUnlock, p, i⟩) (h21 : ∀ i, P ⟨.live .biasUnlock, p, i⟩) (h22 : ∀ i, P ⟨.lt .muteCause, p, i⟩) (h23 : ∀ i, P ⟨.lt .ramp, p, i⟩) (h24 : ∀ i, P ⟨.lt .txState, p, i⟩) (h25 : ∀ i, P ⟨.lt .otherCause, p, i⟩) (h26 : ∀ i, P ⟨.bias .ptAcq, p, i⟩) (h27 : ∀ i, P ⟨.lt .nMuteEnter, p, i⟩) (h28 : ∀ i, P ⟨.lt .begun4, p, i⟩) (h29 : ∀ i, P ⟨.sticky .ltTxDown, p, i⟩) (h30 : ∀ i, P ⟨.live .ltTxDown, p, i⟩) (h31 : ∀ i, P ⟨.bias .light, p, i⟩) (h32 : ∀ i, P ⟨.sticky .lrLoLost, p, i⟩) (h33 : ∀ i, P ⟨.live .lrLoLost, p, i⟩) (h34 : ∀ i, P ⟨.boot .procCalled, 0, i⟩) (h35 : ∀ i, P ⟨.boot .procCode, 0, i⟩) (h36 : ∀ i, P ⟨.boot .procDone, 0, i⟩) (h37 : ∀ i, P ⟨.live .lasLow, p, i⟩) (h38 : ∀ i, P ⟨.live .lasFault, p, i⟩) (h39 : ∀ i, P ⟨.las .reason, p, i⟩) (h40 : ∀ i, P ⟨.las .recovering, p, i⟩) (h41 : ∀ i, P ⟨.las .lowCount, p, i⟩) (h42 : ∀ i, P ⟨.las .refTap, p, i⟩) (qreports : Q .reports) :
    Reach P Q s0 (State.lasTune s p r) := by
  unfold State.lasTune
  repeat' with_reducible first | assumption | apply State.set_reach | apply State.lasEnterReady_reach | apply State.opticsRefresh_reach | (intros; show P _ = true; apply_assumption) | split | dsimp only | intro _

theorem execLasEnFall_reach {p : Nat} (hs : Reach P Q s0 s) (hsum : ∀ k, k.cell.summary → P k) (h11 : ∀ i, P ⟨.bias .ptUnlRun, p, i⟩) (h12 : ∀ i, P ⟨.bias .ptLockRun, p, i⟩) (h13 : ∀ i, P ⟨.bias .ptBase, p, i⟩) (h14 : ∀ i, P ⟨.bias .ptTry, p, i⟩) (h15 : ∀ i, P ⟨.bias .ptV, p, i⟩) (h16 : ∀ i, P ⟨.bias .ptFirst, p, i⟩) (h17 : ∀ i, P ⟨.bias .nUnlock, p, i⟩) (h18 : ∀ i, P ⟨.bias .ptState, p, i⟩) (h19 : ∀ i, P ⟨.sys .freeCount, 0, i⟩) (h20 : ∀ i, P ⟨.bias .outMv, p, i⟩) (h21 : ∀ i, P ⟨.bias .ptLocked, p, i⟩) (h22 : ∀ i, P ⟨.bias .biasLock, p, i⟩) (h23 : ∀ i, P ⟨.sticky .biasNearRail, p, i⟩) (h24 : ∀ i, P ⟨.live .biasNearRail, p, i⟩) (h25 : ∀ i, P ⟨.sticky .biasRail, p, i⟩) (h26 : ∀ i, P ⟨.live .biasRail, p, i⟩) (h27 : ∀ i, P ⟨.sticky .biasOutFault, p, i⟩) (h28 : ∀ i, P ⟨.live .biasOutFault, p, i⟩) (h29 : ∀ i, P ⟨.sticky .biasUnlock, p, i⟩) (h30 : ∀ i, P ⟨.live .biasUnlock, p, i⟩) (h31 : ∀ i, P ⟨.lt .muteCause, p, i⟩) (h32 : ∀ i, P ⟨.lt .ramp, p, i⟩) (h33 : ∀ i, P ⟨.lt .txState, p, i⟩) (h34 : ∀ i, P ⟨.lt .otherCause, p, i⟩) (h35 : ∀ i, P ⟨.bias .ptAcq, p, i⟩) (h36 : ∀ i, P ⟨.lt .nMuteEnter, p, i⟩) (h37 : ∀ i, P ⟨.lt .begun4, p, i⟩) (h38 : ∀ i, P ⟨.sticky .ltTxDown, p, i⟩) (h39 : ∀ i, P ⟨.live .ltTxDown, p, i⟩) (h40 : ∀ i, P ⟨.bias .light, p, i⟩) (h41 : ∀ i, P ⟨.sticky .lrLoLost, p, i⟩) (h42 : ∀ i, P ⟨.live .lrLoLost, p, i⟩) (h43 : ∀ i, P ⟨.boot .procCalled, 0, i⟩) (h44 : ∀ i, P ⟨.boot .procCode, 0, i⟩) (h45 : ∀ i, P ⟨.boot .procDone, 0, i⟩) (h46 : ∀ i, P ⟨.live .lasFault, p, i⟩) (h47 : ∀ i, P ⟨.las .lowCount, p, i⟩) (h48 : ∀ i, P ⟨.las .recovering, p, i⟩) (h49 : ∀ i, P ⟨.las .reason, p, i⟩) (h50 : ∀ i, P ⟨.las .state, p, i⟩) (h51 : ∀ i, P ⟨.las .lasEn, p, i⟩) (qreports : Q .reports) :
    ∃ t, execLasEnFall p s = .next t ∧ Reach P Q s0 t := by
  unfold execLasEnFall
  repeat' with_reducible first | assumption | apply finishIf_reach | apply State.lasEnFall_reach | (intros; show P _ = true; first | exact hsum _ rfl | (clear hsum; apply_assumption)) | split | dsimp only | intro _

theorem State.lasMonitor_reach {p : Nat} {r : Sys2Proof.LasRead} (hs : Reach P Q s0 s) (h1 : ∀ i, P ⟨.bias .ptUnlRun, p, i⟩) (h2 : ∀ i, P ⟨.bias .ptLockRun, p, i⟩) (h3 : ∀ i, P ⟨.bias .ptBase, p, i⟩) (h4 : ∀ i, P ⟨.bias .ptTry, p, i⟩) (h5 : ∀ i, P ⟨.bias .ptV, p, i⟩) (h6 : ∀ i, P ⟨.bias .ptFirst, p, i⟩) (h7 : ∀ i, P ⟨.bias .nUnlock, p, i⟩) (h8 : ∀ i, P ⟨.bias .ptState, p, i⟩) (h9 : ∀ i, P ⟨.sys .freeCount, 0, i⟩) (h10 : ∀ i, P ⟨.bias .outMv, p, i⟩) (h11 : ∀ i, P ⟨.bias .ptLocked, p, i⟩) (h12 : ∀ i, P ⟨.bias .biasLock, p, i⟩) (h13 : ∀ i, P ⟨.sticky .biasNearRail, p, i⟩) (h14 : ∀ i, P ⟨.live .biasNearRail, p, i⟩) (h15 : ∀ i, P ⟨.sticky .biasRail, p, i⟩) (h16 : ∀ i, P ⟨.live .biasRail, p, i⟩) (h17 : ∀ i, P ⟨.sticky .biasOutFault, p, i⟩) (h18 : ∀ i, P ⟨.live .biasOutFault, p, i⟩) (h19 : ∀ i, P ⟨.sticky .biasUnlock, p, i⟩) (h20 : ∀ i, P ⟨.live .biasUnlock, p, i⟩) (h21 : ∀ i, P ⟨.lt .muteCause, p, i⟩) (h22 : ∀ i, P ⟨.lt .ramp, p, i⟩) (h23 : ∀ i, P ⟨.lt .txState, p, i⟩) (h24 : ∀ i, P ⟨.lt .otherCause, p, i⟩) (h25 : ∀ i, P ⟨.bias .ptAcq, p, i⟩) (h26 : ∀ i, P ⟨.lt .nMuteEnter, p, i⟩) (h27 : ∀ i, P ⟨.lt .begun4, p, i⟩) (h28 : ∀ i, P ⟨.sticky .ltTxDown, p, i⟩) (h29 : ∀ i, P ⟨.live .ltTxDown, p, i⟩) (h30 : ∀ i, P ⟨.bias .light, p, i⟩) (h31 : ∀ i, P ⟨.las .lowCount, p, i⟩) (h32 : ∀ i, P ⟨.sticky .lasLow, p, i⟩) (h33 : ∀ i, P ⟨.live .lasLow, p, i⟩) (h34 : ∀ i, P ⟨.sticky .lasWarn, p, i⟩) (h35 : ∀ i, P ⟨.live .lasWarn, p, i⟩) (h36 : ∀ i, P ⟨.las .freqErr, p, i⟩) (h37 : ∀ i, P ⟨.las .recovering, p, i⟩) (h38 : ∀ i, P ⟨.las .reason, p, i⟩) (h39 : ∀ i, P ⟨.las .state, p, i⟩) (h40 : ∀ i, P ⟨.sticky .lasFault, p, i⟩) (h41 : ∀ i, P ⟨.live .lasFault, p, i⟩) (h42 : ∀ i, P ⟨.las .nFaultEnter, p, i⟩) (h43 : ∀ i, P ⟨.sticky .lrLoLost, p, i⟩) (h44 : ∀ i, P ⟨.live .lrLoLost, p, i⟩) (h45 : ∀ i, P ⟨.boot .procCalled, 0, i⟩) (h46 : ∀ i, P ⟨.boot .procCode, 0, i⟩) (h47 : ∀ i, P ⟨.boot .procDone, 0, i⟩) (qreports : Q .reports) :
    Reach P Q s0 (State.lasMonitor s p r) := by
  unfold State.lasMonitor
  repeat' with_reducible first | assumption | apply State.lightSet_reach | apply State.set_reach | apply State.cond_reach | apply State.lasFail_reach | (intros; show P _ = true; apply_assumption) | split | dsimp only | intro _

theorem execLasTransaction_reach {p : Nat} {ok : Bool} {noAck : Bool} (hs : Reach P Q s0 s) (hsum : ∀ k, k.cell.summary → P k) (h11 : ∀ i, P ⟨.las .attempt, p, i⟩) (h12 : ∀ i, P ⟨.las .nXact, p, i⟩) (h13 : ∀ i, P ⟨.las .retryWait, p, i⟩) (h14 : ∀ i, P ⟨.las .recovering, p, i⟩) (h15 : ∀ i, P ⟨.las .lowCount, p, i⟩) (h16 : ∀ i, P ⟨.las .reason, p, i⟩) (h17 : ∀ i, P ⟨.las .state, p, i⟩) (h18 : ∀ i, P ⟨.sticky .lasFault, p, i⟩) (h19 : ∀ i, P ⟨.live .lasFault, p, i⟩) (h20 : ∀ i, P ⟨.las .nFaultEnter, p, i⟩) (h21 : ∀ i, P ⟨.sticky .lrLoLost, p, i⟩) (h22 : ∀ i, P ⟨.live .lrLoLost, p, i⟩) (h23 : ∀ i, P ⟨.lt .muteCause, p, i⟩) (h24 : ∀ i, P ⟨.lt .ramp, p, i⟩) (h25 : ∀ i, P ⟨.lt .txState, p, i⟩) (h26 : ∀ i, P ⟨.lt .otherCause, p, i⟩) (h27 : ∀ i, P ⟨.bias .ptState, p, i⟩) (h28 : ∀ i, P ⟨.bias .ptAcq, p, i⟩) (h29 : ∀ i, P ⟨.bias .ptV, p, i⟩) (h30 : ∀ i, P ⟨.bias .ptBase, p, i⟩) (h31 : ∀ i, P ⟨.lt .nMuteEnter, p, i⟩) (h32 : ∀ i, P ⟨.lt .begun4, p, i⟩) (h33 : ∀ i, P ⟨.sticky .ltTxDown, p, i⟩) (h34 : ∀ i, P ⟨.live .ltTxDown, p, i⟩) (h35 : ∀ i, P ⟨.boot .procCalled, 0, i⟩) (h36 : ∀ i, P ⟨.boot .procCode, 0, i⟩) (h37 : ∀ i, P ⟨.boot .procDone, 0, i⟩) (h38 : ∀ i, P ⟨.las .nXactFail, p, i⟩) (qreports : Q .reports) :
    ∃ t, execLasTransaction p ok noAck s = .next t ∧ Reach P Q s0 t := by
  unfold execLasTransaction
  repeat' with_reducible first | assumption | apply finishIf_reach | apply State.set_reach | apply State.inc_reach | apply State.lasFail_reach | (intros; show P _ = true; first | exact hsum _ rfl | (clear hsum; apply_assumption)) | split | dsimp only | intro _

theorem execLasTuneTimeout_reach {p : Nat} (hs : Reach P Q s0 s) (hsum : ∀ k, k.cell.summary → P k) (h11 : ∀ i, P ⟨.las .recovering, p, i⟩) (h12 : ∀ i, P ⟨.las .lowCount, p, i⟩) (h13 : ∀ i, P ⟨.las .reason, p, i⟩) (h14 : ∀ i, P ⟨.las .state, p, i⟩) (h15 : ∀ i, P ⟨.sticky .lasFault, p, i⟩) (h16 : ∀ i, P ⟨.live .lasFault, p, i⟩) (h17 : ∀ i, P ⟨.las .nFaultEnter, p, i⟩) (h18 : ∀ i, P ⟨.sticky .lrLoLost, p, i⟩) (h19 : ∀ i, P ⟨.live .lrLoLost, p, i⟩) (h20 : ∀ i, P ⟨.lt .muteCause, p, i⟩) (h21 : ∀ i, P ⟨.lt .ramp, p, i⟩) (h22 : ∀ i, P ⟨.lt .txState, p, i⟩) (h23 : ∀ i, P ⟨.lt .otherCause, p, i⟩) (h24 : ∀ i, P ⟨.bias .ptState, p, i⟩) (h25 : ∀ i, P ⟨.bias .ptAcq, p, i⟩) (h26 : ∀ i, P ⟨.bias .ptV, p, i⟩) (h27 : ∀ i, P ⟨.bias .ptBase, p, i⟩) (h28 : ∀ i, P ⟨.lt .nMuteEnter, p, i⟩) (h29 : ∀ i, P ⟨.lt .begun4, p, i⟩) (h30 : ∀ i, P ⟨.sticky .ltTxDown, p, i⟩) (h31 : ∀ i, P ⟨.live .ltTxDown, p, i⟩) (h32 : ∀ i, P ⟨.boot .procCalled, 0, i⟩) (h33 : ∀ i, P ⟨.boot .procCode, 0, i⟩) (h34 : ∀ i, P ⟨.boot .procDone, 0, i⟩) (qreports : Q .reports) :
    ∃ t, execLasTuneTimeout p s = .next t ∧ Reach P Q s0 t := by
  unfold execLasTuneTimeout
  repeat' with_reducible first | assumption | apply finishIf_reach | apply State.lasFail_reach | (intros; show P _ = true; first | exact hsum _ rfl | (clear hsum; apply_assumption)) | split | dsimp only | intro _

theorem State.lasModule_reach {p : Nat} {r : Sys2Proof.LasRead} (hs : Reach P Q s0 s) (h1 : ∀ i, P ⟨.las .state, p, i⟩) (h2 : ∀ i, P ⟨.las .passed3, p, i⟩) (h3 : ∀ i, P ⟨.bias .ptUnlRun, p, i⟩) (h4 : ∀ i, P ⟨.bias .ptLockRun, p, i⟩) (h5 : ∀ i, P ⟨.bias .ptBase, p, i⟩) (h6 : ∀ i, P ⟨.bias .ptTry, p, i⟩) (h7 : ∀ i, P ⟨.bias .ptV, p, i⟩) (h8 : ∀ i, P ⟨.bias .ptFirst, p, i⟩) (h9 : ∀ i, P ⟨.bias .nUnlock, p, i⟩) (h10 : ∀ i, P ⟨.bias .ptState, p, i⟩) (h11 : ∀ i, P ⟨.sys .freeCount, 0, i⟩) (h12 : ∀ i, P ⟨.bias .outMv, p, i⟩) (h13 : ∀ i, P ⟨.bias .ptLocked, p, i⟩) (h14 : ∀ i, P ⟨.bias .biasLock, p, i⟩) (h15 : ∀ i, P ⟨.sticky .biasNearRail, p, i⟩) (h16 : ∀ i, P ⟨.live .biasNearRail, p, i⟩) (h17 : ∀ i, P ⟨.sticky .biasRail, p, i⟩) (h18 : ∀ i, P ⟨.live .biasRail, p, i⟩) (h19 : ∀ i, P ⟨.sticky .biasOutFault, p, i⟩) (h20 : ∀ i, P ⟨.live .biasOutFault, p, i⟩) (h21 : ∀ i, P ⟨.sticky .biasUnlock, p, i⟩) (h22 : ∀ i, P ⟨.live .biasUnlock, p, i⟩) (h23 : ∀ i, P ⟨.lt .muteCause, p, i⟩) (h24 : ∀ i, P ⟨.lt .ramp, p, i⟩) (h25 : ∀ i, P ⟨.lt .txState, p, i⟩) (h26 : ∀ i, P ⟨.lt .otherCause, p, i⟩) (h27 : ∀ i, P ⟨.bias .ptAcq, p, i⟩) (h28 : ∀ i, P ⟨.lt .nMuteEnter, p, i⟩) (h29 : ∀ i, P ⟨.lt .begun4, p, i⟩) (h30 : ∀ i, P ⟨.sticky .ltTxDown, p, i⟩) (h31 : ∀ i, P ⟨.live .ltTxDown, p, i⟩) (h32 : ∀ i, P ⟨.bias .light, p, i⟩) (h33 : ∀ i, P ⟨.sticky .lrLoLost, p, i⟩) (h34 : ∀ i, P ⟨.live .lrLoLost, p, i⟩) (h35 : ∀ i, P ⟨.boot .procCalled, 0, i⟩) (h36 : ∀ i, P ⟨.boot .procCode, 0, i⟩) (h37 : ∀ i, P ⟨.boot .procDone, 0, i⟩) (h38 : ∀ i, P ⟨.live .lasLow, p, i⟩) (h39 : ∀ i, P ⟨.live .lasFault, p, i⟩) (h40 : ∀ i, P ⟨.las .reason, p, i⟩) (h41 : ∀ i, P ⟨.las .recovering, p, i⟩) (h42 : ∀ i, P ⟨.las .lowCount, p, i⟩) (h43 : ∀ i, P ⟨.las .refTap, p, i⟩) (qreports : Q .reports) :
    Reach P Q s0 (State.lasModule s p r) := by
  unfold State.lasModule
  repeat' with_reducible first | assumption | apply State.set_reach | apply State.lasTune_reach | apply State.lasDisable_reach | apply State.opticsRefresh_reach | (intros; show P _ = true; apply_assumption) | split | dsimp only | intro _

theorem State.lasSteps_reach {p : Nat} {r : Sys2Proof.LasRead} (hs : Reach P Q s0 s) (h1 : ∀ i, P ⟨.las .present, p, i⟩) (h2 : ∀ i, P ⟨.las .recovering, p, i⟩) (h3 : ∀ i, P ⟨.las .lowCount, p, i⟩) (h4 : ∀ i, P ⟨.las .reason, p, i⟩) (h5 : ∀ i, P ⟨.las .state, p, i⟩) (h6 : ∀ i, P ⟨.sticky .lasFault, p, i⟩) (h7 : ∀ i, P ⟨.live .lasFault, p, i⟩) (h8 : ∀ i, P ⟨.las .nFaultEnter, p, i⟩) (h9 : ∀ i, P ⟨.sticky .lrLoLost, p, i⟩) (h10 : ∀ i, P ⟨.live .lrLoLost, p, i⟩) (h11 : ∀ i, P ⟨.lt .muteCause, p, i⟩) (h12 : ∀ i, P ⟨.lt .ramp, p, i⟩) (h13 : ∀ i, P ⟨.lt .txState, p, i⟩) (h14 : ∀ i, P ⟨.lt .otherCause, p, i⟩) (h15 : ∀ i, P ⟨.bias .ptState, p, i⟩) (h16 : ∀ i, P ⟨.bias .ptAcq, p, i⟩) (h17 : ∀ i, P ⟨.bias .ptV, p, i⟩) (h18 : ∀ i, P ⟨.bias .ptBase, p, i⟩) (h19 : ∀ i, P ⟨.lt .nMuteEnter, p, i⟩) (h20 : ∀ i, P ⟨.lt .begun4, p, i⟩) (h21 : ∀ i, P ⟨.sticky .ltTxDown, p, i⟩) (h22 : ∀ i, P ⟨.live .ltTxDown, p, i⟩) (h23 : ∀ i, P ⟨.boot .procCalled, 0, i⟩) (h24 : ∀ i, P ⟨.boot .procCode, 0, i⟩) (h25 : ∀ i, P ⟨.boot .procDone, 0, i⟩) (h26 : ∀ i, P ⟨.las .passed3, p, i⟩) (h27 : ∀ i, P ⟨.bias .ptUnlRun, p, i⟩) (h28 : ∀ i, P ⟨.bias .ptLockRun, p, i⟩) (h29 : ∀ i, P ⟨.bias .ptTry, p, i⟩) (h30 : ∀ i, P ⟨.bias .ptFirst, p, i⟩) (h31 : ∀ i, P ⟨.bias .nUnlock, p, i⟩) (h32 : ∀ i, P ⟨.sys .freeCount, 0, i⟩) (h33 : ∀ i, P ⟨.bias .outMv, p, i⟩) (h34 : ∀ i, P ⟨.bias .ptLocked, p, i⟩) (h35 : ∀ i, P ⟨.bias .biasLock, p, i⟩) (h36 : ∀ i, P ⟨.sticky .biasNearRail, p, i⟩) (h37 : ∀ i, P ⟨.live .biasNearRail, p, i⟩) (h38 : ∀ i, P ⟨.sticky .biasRail, p, i⟩) (h39 : ∀ i, P ⟨.live .biasRail, p, i⟩) (h40 : ∀ i, P ⟨.sticky .biasOutFault, p, i⟩) (h41 : ∀ i, P ⟨.live .biasOutFault, p, i⟩) (h42 : ∀ i, P ⟨.sticky .biasUnlock, p, i⟩) (h43 : ∀ i, P ⟨.live .biasUnlock, p, i⟩) (h44 : ∀ i, P ⟨.bias .light, p, i⟩) (h45 : ∀ i, P ⟨.live .lasLow, p, i⟩) (h46 : ∀ i, P ⟨.las .refTap, p, i⟩) (qreports : Q .reports) :
    Reach P Q s0 (State.lasSteps s p r) := by
  unfold State.lasSteps
  repeat' with_reducible first | assumption | apply State.setB_reach | apply State.lasFail_reach | apply State.lasModule_reach | (intros; show P _ = true; apply_assumption) | split | dsimp only | intro _

theorem execLaserDiscover_reach {d : Nat} {r : Sys2Proof.LasRead} (hs : Reach P Q s0 s) (hsum : ∀ k, k.cell.summary → P k) (h11 : ∀ i, P ⟨.las .present, d, i⟩) (h12 : ∀ i, P ⟨.las .recovering, d, i⟩) (h13 : ∀ i, P ⟨.las .lowCount, d, i⟩) (h14 : ∀ i, P ⟨.las .reason, d, i⟩) (h15 : ∀ i, P ⟨.las .state, d, i⟩) (h16 : ∀ i, P ⟨.sticky .lasFault, d, i⟩) (h17 : ∀ i, P ⟨.live .lasFault, d, i⟩) (h18 : ∀ i, P ⟨.las .nFaultEnter, d, i⟩) (h19 : ∀ i, P ⟨.sticky .lrLoLost, d, i⟩) (h20 : ∀ i, P ⟨.live .lrLoLost, d, i⟩) (h21 : ∀ i, P ⟨.lt .muteCause, d, i⟩) (h22 : ∀ i, P ⟨.lt .ramp, d, i⟩) (h23 : ∀ i, P ⟨.lt .txState, d, i⟩) (h24 : ∀ i, P ⟨.lt .otherCause, d, i⟩) (h25 : ∀ i, P ⟨.bias .ptState, d, i⟩) (h26 : ∀ i, P ⟨.bias .ptAcq, d, i⟩) (h27 : ∀ i, P ⟨.bias .ptV, d, i⟩) (h28 : ∀ i, P ⟨.bias .ptBase, d, i⟩) (h29 : ∀ i, P ⟨.lt .nMuteEnter, d, i⟩) (h30 : ∀ i, P ⟨.lt .begun4, d, i⟩) (h31 : ∀ i, P ⟨.sticky .ltTxDown, d, i⟩) (h32 : ∀ i, P ⟨.live .ltTxDown, d, i⟩) (h33 : ∀ i, P ⟨.boot .procCalled, 0, i⟩) (h34 : ∀ i, P ⟨.boot .procCode, 0, i⟩) (h35 : ∀ i, P ⟨.boot .procDone, 0, i⟩) (h36 : ∀ i, P ⟨.las .passed3, d, i⟩) (h37 : ∀ i, P ⟨.bias .ptUnlRun, d, i⟩) (h38 : ∀ i, P ⟨.bias .ptLockRun, d, i⟩) (h39 : ∀ i, P ⟨.bias .ptTry, d, i⟩) (h40 : ∀ i, P ⟨.bias .ptFirst, d, i⟩) (h41 : ∀ i, P ⟨.bias .nUnlock, d, i⟩) (h42 : ∀ i, P ⟨.sys .freeCount, 0, i⟩) (h43 : ∀ i, P ⟨.bias .outMv, d, i⟩) (h44 : ∀ i, P ⟨.bias .ptLocked, d, i⟩) (h45 : ∀ i, P ⟨.bias .biasLock, d, i⟩) (h46 : ∀ i, P ⟨.sticky .biasNearRail, d, i⟩) (h47 : ∀ i, P ⟨.live .biasNearRail, d, i⟩) (h48 : ∀ i, P ⟨.sticky .biasRail, d, i⟩) (h49 : ∀ i, P ⟨.live .biasRail, d, i⟩) (h50 : ∀ i, P ⟨.sticky .biasOutFault, d, i⟩) (h51 : ∀ i, P ⟨.live .biasOutFault, d, i⟩) (h52 : ∀ i, P ⟨.sticky .biasUnlock, d, i⟩) (h53 : ∀ i, P ⟨.live .biasUnlock, d, i⟩) (h54 : ∀ i, P ⟨.bias .light, d, i⟩) (h55 : ∀ i, P ⟨.live .lasLow, d, i⟩) (h56 : ∀ i, P ⟨.las .refTap, d, i⟩) (qreports : Q .reports) :
    ∃ t, execLaserDiscover d r s = .next t ∧ Reach P Q s0 t := by
  unfold execLaserDiscover
  repeat' with_reducible first | assumption | apply finishIf_reach | apply State.lasSteps_reach | (intros; show P _ = true; first | exact hsum _ rfl | (clear hsum; apply_assumption)) | split | dsimp only | intro _

theorem execLasRecoverTimer_reach {p : Nat} {r : Sys2Proof.LasRead} (hs : Reach P Q s0 s) (hsum : ∀ k, k.cell.summary → P k) (h11 : ∀ i, P ⟨.las .present, p, i⟩) (h12 : ∀ i, P ⟨.las .recovering, p, i⟩) (h13 : ∀ i, P ⟨.las .lowCount, p, i⟩) (h14 : ∀ i, P ⟨.las .reason, p, i⟩) (h15 : ∀ i, P ⟨.las .state, p, i⟩) (h16 : ∀ i, P ⟨.sticky .lasFault, p, i⟩) (h17 : ∀ i, P ⟨.live .lasFault, p, i⟩) (h18 : ∀ i, P ⟨.las .nFaultEnter, p, i⟩) (h19 : ∀ i, P ⟨.sticky .lrLoLost, p, i⟩) (h20 : ∀ i, P ⟨.live .lrLoLost, p, i⟩) (h21 : ∀ i, P ⟨.lt .muteCause, p, i⟩) (h22 : ∀ i, P ⟨.lt .ramp, p, i⟩) (h23 : ∀ i, P ⟨.lt .txState, p, i⟩) (h24 : ∀ i, P ⟨.lt .otherCause, p, i⟩) (h25 : ∀ i, P ⟨.bias .ptState, p, i⟩) (h26 : ∀ i, P ⟨.bias .ptAcq, p, i⟩) (h27 : ∀ i, P ⟨.bias .ptV, p, i⟩) (h28 : ∀ i, P ⟨.bias .ptBase, p, i⟩) (h29 : ∀ i, P ⟨.lt .nMuteEnter, p, i⟩) (h30 : ∀ i, P ⟨.lt .begun4, p, i⟩) (h31 : ∀ i, P ⟨.sticky .ltTxDown, p, i⟩) (h32 : ∀ i, P ⟨.live .ltTxDown, p, i⟩) (h33 : ∀ i, P ⟨.boot .procCalled, 0, i⟩) (h34 : ∀ i, P ⟨.boot .procCode, 0, i⟩) (h35 : ∀ i, P ⟨.boot .procDone, 0, i⟩) (h36 : ∀ i, P ⟨.las .passed3, p, i⟩) (h37 : ∀ i, P ⟨.bias .ptUnlRun, p, i⟩) (h38 : ∀ i, P ⟨.bias .ptLockRun, p, i⟩) (h39 : ∀ i, P ⟨.bias .ptTry, p, i⟩) (h40 : ∀ i, P ⟨.bias .ptFirst, p, i⟩) (h41 : ∀ i, P ⟨.bias .nUnlock, p, i⟩) (h42 : ∀ i, P ⟨.sys .freeCount, 0, i⟩) (h43 : ∀ i, P ⟨.bias .outMv, p, i⟩) (h44 : ∀ i, P ⟨.bias .ptLocked, p, i⟩) (h45 : ∀ i, P ⟨.bias .biasLock, p, i⟩) (h46 : ∀ i, P ⟨.sticky .biasNearRail, p, i⟩) (h47 : ∀ i, P ⟨.live .biasNearRail, p, i⟩) (h48 : ∀ i, P ⟨.sticky .biasRail, p, i⟩) (h49 : ∀ i, P ⟨.live .biasRail, p, i⟩) (h50 : ∀ i, P ⟨.sticky .biasOutFault, p, i⟩) (h51 : ∀ i, P ⟨.live .biasOutFault, p, i⟩) (h52 : ∀ i, P ⟨.sticky .biasUnlock, p, i⟩) (h53 : ∀ i, P ⟨.live .biasUnlock, p, i⟩) (h54 : ∀ i, P ⟨.bias .light, p, i⟩) (h55 : ∀ i, P ⟨.live .lasLow, p, i⟩) (h56 : ∀ i, P ⟨.las .refTap, p, i⟩) (qreports : Q .reports) :
    ∃ t, execLasRecoverTimer p r s = .next t ∧ Reach P Q s0 t := by
  unfold execLasRecoverTimer
  repeat' with_reducible first | assumption | apply finishIf_reach | apply State.lasSteps_reach | apply State.set_reach | (intros; show P _ = true; first | exact hsum _ rfl | (clear hsum; apply_assumption)) | split | dsimp only | intro _

theorem execLasGridChange_reach {p : Nat} {n : Nat} (hs : Reach P Q s0 s) (hsum : ∀ k, k.cell.summary → P k) (h11 : ∀ i, P ⟨.sticky .lrLoLost, p, i⟩) (h12 : ∀ i, P ⟨.live .lrLoLost, p, i⟩) (h13 : ∀ i, P ⟨.lt .muteCause, p, i⟩) (h14 : ∀ i, P ⟨.lt .ramp, p, i⟩) (h15 : ∀ i, P ⟨.lt .txState, p, i⟩) (h16 : ∀ i, P ⟨.lt .otherCause, p, i⟩) (h17 : ∀ i, P ⟨.bias .ptState, p, i⟩) (h18 : ∀ i, P ⟨.bias .ptAcq, p, i⟩) (h19 : ∀ i, P ⟨.bias .ptV, p, i⟩) (h20 : ∀ i, P ⟨.bias .ptBase, p, i⟩) (h21 : ∀ i, P ⟨.lt .nMuteEnter, p, i⟩) (h22 : ∀ i, P ⟨.lt .begun4, p, i⟩) (h23 : ∀ i, P ⟨.sticky .ltTxDown, p, i⟩) (h24 : ∀ i, P ⟨.live .ltTxDown, p, i⟩) (h25 : ∀ i, P ⟨.las .state, p, i⟩) (h26 : ∀ i, P ⟨.las .gridN, p, i⟩) (qreports : Q .reports) :
    ∃ t, execLasGridChange p n s = .next t ∧ Reach P Q s0 t := by
  unfold execLasGridChange
  repeat' with_reducible first | assumption | apply finishIf_reach | apply State.lasRetune_reach | apply State.setI_reach | (intros; show P _ = true; first | exact hsum _ rfl | (clear hsum; apply_assumption)) | split | dsimp only | intro _

theorem execLasEnRise_reach {p : Nat} (hs : Reach P Q s0 s) (hsum : ∀ k, k.cell.summary → P k) (h11 : ∀ i, P ⟨.sticky .lrLoLost, p, i⟩) (h12 : ∀ i, P ⟨.live .lrLoLost, p, i⟩) (h13 : ∀ i, P ⟨.lt .muteCause, p, i⟩) (h14 : ∀ i, P ⟨.lt .ramp, p, i⟩) (h15 : ∀ i, P ⟨.lt .txState, p, i⟩) (h16 : ∀ i, P ⟨.lt .otherCause, p, i⟩) (h17 : ∀ i, P ⟨.bias .ptState, p, i⟩) (h18 : ∀ i, P ⟨.bias .ptAcq, p, i⟩) (h19 : ∀ i, P ⟨.bias .ptV, p, i⟩) (h20 : ∀ i, P ⟨.bias .ptBase, p, i⟩) (h21 : ∀ i, P ⟨.lt .nMuteEnter, p, i⟩) (h22 : ∀ i, P ⟨.lt .begun4, p, i⟩) (h23 : ∀ i, P ⟨.sticky .ltTxDown, p, i⟩) (h24 : ∀ i, P ⟨.live .ltTxDown, p, i⟩) (h25 : ∀ i, P ⟨.las .state, p, i⟩) (h26 : ∀ i, P ⟨.las .lasEn, p, i⟩) (qreports : Q .reports) :
    ∃ t, execLasEnRise p s = .next t ∧ Reach P Q s0 t := by
  unfold execLasEnRise
  repeat' with_reducible first | assumption | apply finishIf_reach | apply State.lasEnable_reach | (intros; show P _ = true; first | exact hsum _ rfl | (clear hsum; apply_assumption)) | split | dsimp only | intro _

theorem execLasPoll_reach {p : Nat} {r : Sys2Proof.LasRead} (hs : Reach P Q s0 s) (hsum : ∀ k, k.cell.summary → P k) (h11 : ∀ i, P ⟨.bias .ptUnlRun, p, i⟩) (h12 : ∀ i, P ⟨.bias .ptLockRun, p, i⟩) (h13 : ∀ i, P ⟨.bias .ptBase, p, i⟩) (h14 : ∀ i, P ⟨.bias .ptTry, p, i⟩) (h15 : ∀ i, P ⟨.bias .ptV, p, i⟩) (h16 : ∀ i, P ⟨.bias .ptFirst, p, i⟩) (h17 : ∀ i, P ⟨.bias .nUnlock, p, i⟩) (h18 : ∀ i, P ⟨.bias .ptState, p, i⟩) (h19 : ∀ i, P ⟨.sys .freeCount, 0, i⟩) (h20 : ∀ i, P ⟨.bias .outMv, p, i⟩) (h21 : ∀ i, P ⟨.bias .ptLocked, p, i⟩) (h22 : ∀ i, P ⟨.bias .biasLock, p, i⟩) (h23 : ∀ i, P ⟨.sticky .biasNearRail, p, i⟩) (h24 : ∀ i, P ⟨.live .biasNearRail, p, i⟩) (h25 : ∀ i, P ⟨.sticky .biasRail, p, i⟩) (h26 : ∀ i, P ⟨.live .biasRail, p, i⟩) (h27 : ∀ i, P ⟨.sticky .biasOutFault, p, i⟩) (h28 : ∀ i, P ⟨.live .biasOutFault, p, i⟩) (h29 : ∀ i, P ⟨.sticky .biasUnlock, p, i⟩) (h30 : ∀ i, P ⟨.live .biasUnlock, p, i⟩) (h31 : ∀ i, P ⟨.lt .muteCause, p, i⟩) (h32 : ∀ i, P ⟨.lt .ramp, p, i⟩) (h33 : ∀ i, P ⟨.lt .txState, p, i⟩) (h34 : ∀ i, P ⟨.lt .otherCause, p, i⟩) (h35 : ∀ i, P ⟨.bias .ptAcq, p, i⟩) (h36 : ∀ i, P ⟨.lt .nMuteEnter, p, i⟩) (h37 : ∀ i, P ⟨.lt .begun4, p, i⟩) (h38 : ∀ i, P ⟨.sticky .ltTxDown, p, i⟩) (h39 : ∀ i, P ⟨.live .ltTxDown, p, i⟩) (h40 : ∀ i, P ⟨.bias .light, p, i⟩) (h41 : ∀ i, P ⟨.las .lowCount, p, i⟩) (h42 : ∀ i, P ⟨.sticky .lasLow, p, i⟩) (h43 : ∀ i, P ⟨.live .lasLow, p, i⟩) (h44 : ∀ i, P ⟨.sticky .lasWarn, p, i⟩) (h45 : ∀ i, P ⟨.live .lasWarn, p, i⟩) (h46 : ∀ i, P ⟨.las .freqErr, p, i⟩) (h47 : ∀ i, P ⟨.las .recovering, p, i⟩) (h48 : ∀ i, P ⟨.las .reason, p, i⟩) (h49 : ∀ i, P ⟨.las .state, p, i⟩) (h50 : ∀ i, P ⟨.sticky .lasFault, p, i⟩) (h51 : ∀ i, P ⟨.live .lasFault, p, i⟩) (h52 : ∀ i, P ⟨.las .nFaultEnter, p, i⟩) (h53 : ∀ i, P ⟨.sticky .lrLoLost, p, i⟩) (h54 : ∀ i, P ⟨.live .lrLoLost, p, i⟩) (h55 : ∀ i, P ⟨.boot .procCalled, 0, i⟩) (h56 : ∀ i, P ⟨.boot .procCode, 0, i⟩) (h57 : ∀ i, P ⟨.boot .procDone, 0, i⟩) (h58 : ∀ i, P ⟨.las .refTap, p, i⟩) (h59 : ∀ i, P ⟨.las .passed3, p, i⟩) (qreports : Q .reports) :
    ∃ t, execLasPoll p r s = .next t ∧ Reach P Q s0 t := by
  unfold execLasPoll
  repeat' with_reducible first | assumption | apply finishIf_reach | apply State.lasMonitor_reach | apply State.lasTune_reach | apply State.lasModule_reach | (intros; show P _ = true; first | exact hsum _ rfl | (clear hsum; apply_assumption)) | split | dsimp only | intro _

end Sys2Proof.Machine
end

