-- ==== Sys2Proof/Laws/MovesReceiver.lean ====
section
/-!
SUPPORT. What the operations of Machine/Receiver.lean may change, one lemma each (Laws/Reach.lean).
-/
namespace Sys2Proof.Machine

set_option linter.unusedTactic false
set_option linter.unreachableTactic false

variable {P : Key → Bool} {Q : Part → Bool} {s0 s : State}

theorem State.cdNear_reach {d : Nat} (hs : Reach P Q s0 s) (h1 : ∀ i, P ⟨.sticky .lrCdNearLimit, d, i⟩) (h2 : ∀ i, P ⟨.live .lrCdNearLimit, d, i⟩) (qreports : Q .reports) :
    Reach P Q s0 (State.cdNear s d) := by
  unfold State.cdNear
  repeat' with_reducible first | assumption | apply State.cond_reach | (intros; show P _ = true; apply_assumption) | split | dsimp only | intro _

theorem State.fecEnter_reach {d : Nat} {st : Nat} (hs : Reach P Q s0 s) (h1 : ∀ i, P ⟨.fec .iterCap, d, i⟩) (h2 : ∀ i, P ⟨.fec .lockState, d, i⟩) (h3 : ∀ i, P ⟨.fec .failRun, d, i⟩) (h4 : ∀ i, P ⟨.fec .candAt, d, i⟩) :
    Reach P Q s0 (State.fecEnter s d st) := by
  unfold State.fecEnter
  refine State.set_reach (State.set_reach (State.set_reach (State.clear_reach hs ?_) (h3 _)) (h2 _)) (h1 _)
  rintro ⟨c, e, i⟩ hk
  simp only [Bool.and_eq_true, decide_eq_true_eq] at hk
  obtain ⟨rfl, rfl⟩ := hk
  exact h4 _

theorem State.fecFollow_reach {d : Nat} (hs : Reach P Q s0 s) (h1 : ∀ i, P ⟨.tim .evtNext, d, i⟩) (h2 : ∀ i, P ⟨.tim .evtAt, d, i⟩) (h3 : ∀ d i, P ⟨.sticky .ctnSf, d, i⟩) (h4 : ∀ d i, P ⟨.live .ctnSf, d, i⟩) (h5 : ∀ i, P ⟨.sticky .ctOof, d, i⟩) (h6 : ∀ i, P ⟨.live .ctOof, d, i⟩) (h7 : ∀ i, P ⟨.sticky .ctLof, d, i⟩) (h8 : ∀ i, P ⟨.live .ctLof, d, i⟩) (h9 : ∀ i, P ⟨.ct .candCount, d, i⟩) (h10 : ∀ i, P ⟨.ct .align, d, i⟩) (h11 : ∀ i, P ⟨.ct .lof, d, i⟩) (h12 : ∀ i, P ⟨.ct .nOofEnter, d, i⟩) (h13 : ∀ i, P ⟨.ct .mfasSeen, d, i⟩) (h14 : ∀ i, P ⟨.ct .misses, d, i⟩) (h15 : ∀ i, P ⟨.ct .inFrame, d, i⟩) (h16 : ∀ i, P ⟨.sticky .fecSf, d, i⟩) (h17 : ∀ i, P ⟨.live .fecSf, d, i⟩) (h18 : ∀ i, P ⟨.fec .iterCap, d, i⟩) (h19 : ∀ i, P ⟨.fec .lockState, d, i⟩) (h20 : ∀ i, P ⟨.fec .failRun, d, i⟩) (h21 : ∀ i, P ⟨.fec .candAt, d, i⟩) (qreports : Q .reports) (qcands : Q .cands) :
    Reach P Q s0 (State.fecFollow s d) := by
  unfold State.fecFollow
  repeat' with_reducible first | assumption | apply State.fecSfRefresh_reach | apply State.fecEnter_reach | (intros; show P _ = true; apply_assumption) | split | dsimp only | intro _

theorem State.rxGo_reach {d : Nat} {st : Nat} (hs : Reach P Q s0 s) (h1 : ∀ i, P ⟨.lr .rxSf, d, i⟩) (h2 : ∀ i, P ⟨.lr .rxState, d, i⟩) (h3 : ∀ i, P ⟨.lr .missed, d, i⟩) (h4 : ∀ i, P ⟨.lr .winLocked, d, i⟩) (h5 : ∀ i, P ⟨.tim .evtNext, d, i⟩) (h6 : ∀ i, P ⟨.tim .evtAt, d, i⟩) (h7 : ∀ d i, P ⟨.sticky .ctnSf, d, i⟩) (h8 : ∀ d i, P ⟨.live .ctnSf, d, i⟩) (h9 : ∀ i, P ⟨.sticky .ctOof, d, i⟩) (h10 : ∀ i, P ⟨.live .ctOof, d, i⟩) (h11 : ∀ i, P ⟨.sticky .ctLof, d, i⟩) (h12 : ∀ i, P ⟨.live .ctLof, d, i⟩) (h13 : ∀ i, P ⟨.ct .candCount, d, i⟩) (h14 : ∀ i, P ⟨.ct .align, d, i⟩) (h15 : ∀ i, P ⟨.ct .lof, d, i⟩) (h16 : ∀ i, P ⟨.ct .nOofEnter, d, i⟩) (h17 : ∀ i, P ⟨.ct .mfasSeen, d, i⟩) (h18 : ∀ i, P ⟨.ct .misses, d, i⟩) (h19 : ∀ i, P ⟨.ct .inFrame, d, i⟩) (h20 : ∀ i, P ⟨.sticky .fecSf, d, i⟩) (h21 : ∀ i, P ⟨.live .fecSf, d, i⟩) (h22 : ∀ i, P ⟨.fec .iterCap, d, i⟩) (h23 : ∀ i, P ⟨.fec .lockState, d, i⟩) (h24 : ∀ i, P ⟨.fec .failRun, d, i⟩) (h25 : ∀ i, P ⟨.fec .candAt, d, i⟩) (h26 : ∀ i, P ⟨.sticky .lrRxDown, d, i⟩) (h27 : ∀ i, P ⟨.live .lrRxDown, d, i⟩) (qreports : Q .reports) (qcands : Q .cands) :
    Reach P Q s0 (State.rxGo s d st) := by
  unfold State.rxGo
  repeat' with_reducible first | assumption | apply State.set_reach | apply State.fecFollow_reach | apply State.cond_reach | (intros; show P _ = true; apply_assumption) | split | dsimp only | intro _

theorem State.rxAttempt_reach {d : Nat} (hs : Reach P Q s0 s) (h1 : ∀ i, P ⟨.lr .rxSf, d, i⟩) (h2 : ∀ i, P ⟨.lr .rxState, d, i⟩) (h3 : ∀ i, P ⟨.lr .missed, d, i⟩) (h4 : ∀ i, P ⟨.lr .winLocked, d, i⟩) (h5 : ∀ i, P ⟨.tim .evtNext, d, i⟩) (h6 : ∀ i, P ⟨.tim .evtAt, d, i⟩) (h7 : ∀ d i, P ⟨.sticky .ctnSf, d, i⟩) (h8 : ∀ d i, P ⟨.live .ctnSf, d, i⟩) (h9 : ∀ i, P ⟨.sticky .ctOof, d, i⟩) (h10 : ∀ i, P ⟨.live .ctOof, d, i⟩) (h11 : ∀ i, P ⟨.sticky .ctLof, d, i⟩) (h12 : ∀ i, P ⟨.live .ctLof, d, i⟩) (h13 : ∀ i, P ⟨.ct .candCount, d, i⟩) (h14 : ∀ i, P ⟨.ct .align, d, i⟩) (h15 : ∀ i, P ⟨.ct .lof, d, i⟩) (h16 : ∀ i, P ⟨.ct .nOofEnter, d, i⟩) (h17 : ∀ i, P ⟨.ct .mfasSeen, d, i⟩) (h18 : ∀ i, P ⟨.ct .misses, d, i⟩) (h19 : ∀ i, P ⟨.ct .inFrame, d, i⟩) (h20 : ∀ i, P ⟨.sticky .fecSf, d, i⟩) (h21 : ∀ i, P ⟨.live .fecSf, d, i⟩) (h22 : ∀ i, P ⟨.fec .iterCap, d, i⟩) (h23 : ∀ i, P ⟨.fec .lockState, d, i⟩) (h24 : ∀ i, P ⟨.fec .failRun, d, i⟩) (h25 : ∀ i, P ⟨.fec .candAt, d, i⟩) (h26 : ∀ i, P ⟨.sticky .lrRxDown, d, i⟩) (h27 : ∀ i, P ⟨.live .lrRxDown, d, i⟩) (h28 : ∀ i, P ⟨.lr .fastRun, d, i⟩) (h29 : ∀ i, P ⟨.lr .acqRetryLeft, d, i⟩) (h30 : ∀ i, P ⟨.lr .nAcqAttempt, d, i⟩) (qreports : Q .reports) (qcands : Q .cands) :
    Reach P Q s0 (State.rxAttempt s d) := by
  unfold State.rxAttempt
  repeat' with_reducible first | assumption | apply State.rxGo_reach | apply State.set_reach | apply State.inc_reach | (intros; show P _ = true; apply_assumption) | split | dsimp only | intro _

theorem State.rxStop_reach {d : Nat} (hs : Reach P Q s0 s) (h1 : ∀ i, P ⟨.fec .sfInterval, d, i⟩) (h2 : ∀ i, P ⟨.lr .fastRun, d, i⟩) (h3 : ∀ i, P ⟨.lr .eqValid, d, i⟩) (h4 : ∀ i, P ⟨.lr .cdEstValid, d, i⟩) (h5 : ∀ i, P ⟨.lr .rxEn, d, i⟩) (h6 : ∀ i, P ⟨.live .lrLoLost, d, i⟩) (h7 : ∀ i, P ⟨.live .lrLos, d, i⟩) (h8 : ∀ i, P ⟨.sticky .lrCdNearLimit, d, i⟩) (h9 : ∀ i, P ⟨.live .lrCdNearLimit, d, i⟩) (h10 : ∀ i, P ⟨.lr .rxSf, d, i⟩) (h11 : ∀ i, P ⟨.lr .rxState, d, i⟩) (h12 : ∀ i, P ⟨.lr .missed, d, i⟩) (h13 : ∀ i, P ⟨.lr .winLocked, d, i⟩) (h14 : ∀ i, P ⟨.tim .evtNext, d, i⟩) (h15 : ∀ i, P ⟨.tim .evtAt, d, i⟩) (h16 : ∀ d i, P ⟨.sticky .ctnSf, d, i⟩) (h17 : ∀ d i, P ⟨.live .ctnSf, d, i⟩) (h18 : ∀ i, P ⟨.sticky .ctOof, d, i⟩) (h19 : ∀ i, P ⟨.live .ctOof, d, i⟩) (h20 : ∀ i, P ⟨.sticky .ctLof, d, i⟩) (h21 : ∀ i, P ⟨.live .ctLof, d, i⟩) (h22 : ∀ i, P ⟨.ct .candCount, d, i⟩) (h23 : ∀ i, P ⟨.ct .align, d, i⟩) (h24 : ∀ i, P ⟨.ct .lof, d, i⟩) (h25 : ∀ i, P ⟨.ct .nOofEnter, d, i⟩) (h26 : ∀ i, P ⟨.ct .mfasSeen, d, i⟩) (h27 : ∀ i, P ⟨.ct .misses, d, i⟩) (h28 : ∀ i, P ⟨.ct .inFrame, d, i⟩) (h29 : ∀ i, P ⟨.sticky .fecSf, d, i⟩) (h30 : ∀ i, P ⟨.live .fecSf, d, i⟩) (h31 : ∀ i, P ⟨.fec .iterCap, d, i⟩) (h32 : ∀ i, P ⟨.fec .lockState, d, i⟩) (h33 : ∀ i, P ⟨.fec .failRun, d, i⟩) (h34 : ∀ i, P ⟨.fec .candAt, d, i⟩) (h35 : ∀ i, P ⟨.sticky .lrRxDown, d, i⟩) (h36 : ∀ i, P ⟨.live .lrRxDown, d, i⟩) (qreports : Q .reports) (qcands : Q .cands) :
    Reach P Q s0 (State.rxStop s d) := by
  unfold State.rxStop
  repeat' with_reducible first | assumption | apply State.set_reach | apply State.lower_reach | apply State.cdNear_reach | apply State.rxGo_reach | (intros; show P _ = true; apply_assumption) | split | dsimp only | intro _

theorem State.setCd_reach {d : Nat} {cd : Int} (hs : Reach P Q s0 s) (h1 : ∀ i, P ⟨.sticky .lrCdNearLimit, d, i⟩) (h2 : ∀ i, P ⟨.live .lrCdNearLimit, d, i⟩) (h3 : ∀ i, P ⟨.lr .cdFilter, d, i⟩) (h4 : ∀ i, P ⟨.lr .cdEstValid, d, i⟩) (h5 : ∀ i, P ⟨.lr .cdEst, d, i⟩) (qreports : Q .reports) :
    Reach P Q s0 (State.setCd s d cd) := by
  unfold State.setCd
  repeat' with_reducible first | assumption | apply State.cdNear_reach | apply State.setI_reach | apply State.set_reach | (intros; show P _ = true; apply_assumption) | split | dsimp only | intro _

theorem execCdReprogram_reach {d : Nat} {cd : Int} (hs : Reach P Q s0 s) (hsum : ∀ k, k.cell.summary → P k) (h11 : ∀ i, P ⟨.sticky .lrCdNearLimit, d, i⟩) (h12 : ∀ i, P ⟨.live .lrCdNearLimit, d, i⟩) (h13 : ∀ i, P ⟨.lr .cdFilter, d, i⟩) (h14 : ∀ i, P ⟨.lr .cdEstValid, d, i⟩) (h15 : ∀ i, P ⟨.lr .cdEst, d, i⟩) (qreports : Q .reports) :
    ∃ t, execCdReprogram d cd s = .next t ∧ Reach P Q s0 t := by
  unfold execCdReprogram
  repeat' with_reducible first | assumption | apply finishIf_reach | apply State.setCd_reach | (intros; show P _ = true; first | exact hsum _ rfl | (clear hsum; apply_assumption)) | split | dsimp only | intro _

theorem State.latencyRefresh_reach {d : Nat} (hs : Reach P Q s0 s) (h1 : ∀ i, P ⟨.lr .latNs, d, i⟩) :
    Reach P Q s0 (State.latencyRefresh s d) := by
  unfold State.latencyRefresh
  repeat' with_reducible first | assumption | apply State.set_reach | (intros; show P _ = true; apply_assumption) | split | dsimp only | intro _

theorem execRxLoLost_reach {d : Nat} (hs : Reach P Q s0 s) (hsum : ∀ k, k.cell.summary → P k) (h11 : ∀ i, P ⟨.sticky .lrLoLost, d, i⟩) (h12 : ∀ i, P ⟨.live .lrLoLost, d, i⟩) (h13 : ∀ i, P ⟨.lr .rxSf, d, i⟩) (h14 : ∀ i, P ⟨.lr .rxState, d, i⟩) (h15 : ∀ i, P ⟨.lr .missed, d, i⟩) (h16 : ∀ i, P ⟨.lr .winLocked, d, i⟩) (h17 : ∀ i, P ⟨.tim .evtNext, d, i⟩) (h18 : ∀ i, P ⟨.tim .evtAt, d, i⟩) (h19 : ∀ d i, P ⟨.sticky .ctnSf, d, i⟩) (h20 : ∀ d i, P ⟨.live .ctnSf, d, i⟩) (h21 : ∀ i, P ⟨.sticky .ctOof, d, i⟩) (h22 : ∀ i, P ⟨.live .ctOof, d, i⟩) (h23 : ∀ i, P ⟨.sticky .ctLof, d, i⟩) (h24 : ∀ i, P ⟨.live .ctLof, d, i⟩) (h25 : ∀ i, P ⟨.ct .candCount, d, i⟩) (h26 : ∀ i, P ⟨.ct .align, d, i⟩) (h27 : ∀ i, P ⟨.ct .lof, d, i⟩) (h28 : ∀ i, P ⟨.ct .nOofEnter, d, i⟩) (h29 : ∀ i, P ⟨.ct .mfasSeen, d, i⟩) (h30 : ∀ i, P ⟨.ct .misses, d, i⟩) (h31 : ∀ i, P ⟨.ct .inFrame, d, i⟩) (h32 : ∀ i, P ⟨.sticky .fecSf, d, i⟩) (h33 : ∀ i, P ⟨.live .fecSf, d, i⟩) (h34 : ∀ i, P ⟨.fec .iterCap, d, i⟩) (h35 : ∀ i, P ⟨.fec .lockState, d, i⟩) (h36 : ∀ i, P ⟨.fec .failRun, d, i⟩) (h37 : ∀ i, P ⟨.fec .candAt, d, i⟩) (h38 : ∀ i, P ⟨.sticky .lrRxDown, d, i⟩) (h39 : ∀ i, P ⟨.live .lrRxDown, d, i⟩) (h40 : ∀ i, P ⟨.lr .fastRun, d, i⟩) (qreports : Q .reports) (qcands : Q .cands) :
    ∃ t, execRxLoLost d s = .next t ∧ Reach P Q s0 t := by
  unfold execRxLoLost
  repeat' with_reducible first | assumption | apply finishIf_reach | apply State.when_reach | apply State.raise_reach | apply State.rxGo_reach | apply State.set_reach | (intros; show P _ = true; first | exact hsum _ rfl | (clear hsum; apply_assumption)) | split | dsimp only | intro _

theorem execRxEnFall_reach {d : Nat} (hs : Reach P Q s0 s) (hsum : ∀ k, k.cell.summary → P k) (h11 : ∀ i, P ⟨.fec .sfInterval, d, i⟩) (h12 : ∀ i, P ⟨.lr .fastRun, d, i⟩) (h13 : ∀ i, P ⟨.lr .eqValid, d, i⟩) (h14 : ∀ i, P ⟨.lr .cdEstValid, d, i⟩) (h15 : ∀ i, P ⟨.lr .rxEn, d, i⟩) (h16 : ∀ i, P ⟨.live .lrLoLost, d, i⟩) (h17 : ∀ i, P ⟨.live .lrLos, d, i⟩) (h18 : ∀ i, P ⟨.sticky .lrCdNearLimit, d, i⟩) (h19 : ∀ i, P ⟨.live .lrCdNearLimit, d, i⟩) (h20 : ∀ i, P ⟨.lr .rxSf, d, i⟩) (h21 : ∀ i, P ⟨.lr .rxState, d, i⟩) (h22 : ∀ i, P ⟨.lr .missed, d, i⟩) (h23 : ∀ i, P ⟨.lr .winLocked, d, i⟩) (h24 : ∀ i, P ⟨.tim .evtNext, d, i⟩) (h25 : ∀ i, P ⟨.tim .evtAt, d, i⟩) (h26 : ∀ d i, P ⟨.sticky .ctnSf, d, i⟩) (h27 : ∀ d i, P ⟨.live .ctnSf, d, i⟩) (h28 : ∀ i, P ⟨.sticky .ctOof, d, i⟩) (h29 : ∀ i, P ⟨.live .ctOof, d, i⟩) (h30 : ∀ i, P ⟨.sticky .ctLof, d, i⟩) (h31 : ∀ i, P ⟨.live .ctLof, d, i⟩) (h32 : ∀ i, P ⟨.ct .candCount, d, i⟩) (h33 : ∀ i, P ⟨.ct .align, d, i⟩) (h34 : ∀ i, P ⟨.ct .lof, d, i⟩) (h35 : ∀ i, P ⟨.ct .nOofEnter, d, i⟩) (h36 : ∀ i, P ⟨.ct .mfasSeen, d, i⟩) (h37 : ∀ i, P ⟨.ct .misses, d, i⟩) (h38 : ∀ i, P ⟨.ct .inFrame, d, i⟩) (h39 : ∀ i, P ⟨.sticky .fecSf, d, i⟩) (h40 : ∀ i, P ⟨.live .fecSf, d, i⟩) (h41 : ∀ i, P ⟨.fec .iterCap, d, i⟩) (h42 : ∀ i, P ⟨.fec .lockState, d, i⟩) (h43 : ∀ i, P ⟨.fec .failRun, d, i⟩) (h44 : ∀ i, P ⟨.fec .candAt, d, i⟩) (h45 : ∀ i, P ⟨.sticky .lrRxDown, d, i⟩) (h46 : ∀ i, P ⟨.live .lrRxDown, d, i⟩) (qreports : Q .reports) (qcands : Q .cands) :
    ∃ t, execRxEnFall d s = .next t ∧ Reach P Q s0 t := by
  unfold execRxEnFall
  repeat' with_reducible first | assumption | apply finishIf_reach | apply State.rxStop_reach | (intros; show P _ = true; first | exact hsum _ rfl | (clear hsum; apply_assumption)) | split | dsimp only | intro _

theorem State.rxLoadCal_reach {d : Nat} {c : Sys2Proof.OeCal} (hs : Reach P Q s0 s) (h1 : ∀ i, P ⟨.lr .yPhase, d, i⟩) (h2 : ∀ i, P ⟨.lr .xPhase, d, i⟩) (h3 : ∀ i, P ⟨.lr .tribSkew, d, i⟩) (h4 : ∀ i, P ⟨.lr .tribGain, d, i⟩) :
    Reach P Q s0 (State.rxLoadCal s d c) := by
  unfold State.rxLoadCal
  repeat' with_reducible first | assumption | apply State.setI_reach | apply State.each_reach | (intros; show P _ = true; apply_assumption) | split | dsimp only | intro _

theorem State.rxReadCal_reach {d : Nat} {c : Sys2Proof.OeCal} (hs : Reach P Q s0 s) (h1 : ∀ i, P ⟨.live .lrRxcalFail, d, i⟩) (h2 : ∀ i, P ⟨.lr .yPhase, d, i⟩) (h3 : ∀ i, P ⟨.lr .xPhase, d, i⟩) (h4 : ∀ i, P ⟨.lr .tribSkew, d, i⟩) (h5 : ∀ i, P ⟨.lr .tribGain, d, i⟩) (h6 : ∀ i, P ⟨.sticky .lrRxcalFail, d, i⟩) (qreports : Q .reports) :
    Reach P Q s0 (State.rxReadCal s d c) := by
  unfold State.rxReadCal
  repeat' with_reducible first | assumption | apply State.lower_reach | apply State.rxLoadCal_reach | apply State.raise_reach | (intros; show P _ = true; apply_assumption) | split | dsimp only | intro _

theorem State.latencyBank_reach {d : Nat} (hs : Reach P Q s0 s) (h1 : ∀ i, P ⟨.sys .freeCount, 0, i⟩) (h2 : ∀ i, P ⟨.lr .latBase, d, i⟩) (h3 : ∀ i, P ⟨.lr .latNs, d, i⟩) (h4 : ∀ i, P ⟨.fec .latNs, d, i⟩) :
    Reach P Q s0 (State.latencyBank s d) := by
  unfold State.latencyBank
  repeat' with_reducible first | assumption | apply State.used_reach | apply State.set_reach | apply State.latencyRefresh_reach | (intros; show P _ = true; apply_assumption) | split | dsimp only | intro _

theorem State.rxStart_reach {d : Nat} {cal : Sys2Proof.OeCal} {power : Int} (hs : Reach P Q s0 s) (h1 : ∀ i, P ⟨.lr .firstStart, d, i⟩) (h2 : ∀ i, P ⟨.sys .freeCount, 0, i⟩) (h3 : ∀ i, P ⟨.lr .latBase, d, i⟩) (h4 : ∀ i, P ⟨.lr .latNs, d, i⟩) (h5 : ∀ i, P ⟨.fec .latNs, d, i⟩) (h6 : ∀ i, P ⟨.live .lrRxcalFail, d, i⟩) (h7 : ∀ i, P ⟨.lr .yPhase, d, i⟩) (h8 : ∀ i, P ⟨.lr .xPhase, d, i⟩) (h9 : ∀ i, P ⟨.lr .tribSkew, d, i⟩) (h10 : ∀ i, P ⟨.lr .tribGain, d, i⟩) (h11 : ∀ i, P ⟨.sticky .lrRxcalFail, d, i⟩) (h12 : ∀ i, P ⟨.lr .winLocked, d, i⟩) (h13 : ∀ i, P ⟨.sticky .lrLos, d, i⟩) (h14 : ∀ i, P ⟨.live .lrLos, d, i⟩) (h15 : ∀ i, P ⟨.sticky .lrLoLost, d, i⟩) (h16 : ∀ i, P ⟨.live .lrLoLost, d, i⟩) (h17 : ∀ i, P ⟨.lt .muteCause, d, i⟩) (h18 : ∀ i, P ⟨.lt .ramp, d, i⟩) (h19 : ∀ i, P ⟨.lt .txState, d, i⟩) (h20 : ∀ i, P ⟨.lt .otherCause, d, i⟩) (h21 : ∀ i, P ⟨.bias .ptState, d, i⟩) (h22 : ∀ i, P ⟨.bias .ptAcq, d, i⟩) (h23 : ∀ i, P ⟨.bias .ptV, d, i⟩) (h24 : ∀ i, P ⟨.bias .ptBase, d, i⟩) (h25 : ∀ i, P ⟨.lt .nMuteEnter, d, i⟩) (h26 : ∀ i, P ⟨.lt .begun4, d, i⟩) (h27 : ∀ i, P ⟨.sticky .ltTxDown, d, i⟩) (h28 : ∀ i, P ⟨.live .ltTxDown, d, i⟩) (h29 : ∀ i, P ⟨.lr .rxSf, d, i⟩) (h30 : ∀ i, P ⟨.lr .rxState, d, i⟩) (h31 : ∀ i, P ⟨.lr .missed, d, i⟩) (h32 : ∀ i, P ⟨.tim .evtNext, d, i⟩) (h33 : ∀ i, P ⟨.tim .evtAt, d, i⟩) (h34 : ∀ d i, P ⟨.sticky .ctnSf, d, i⟩) (h35 : ∀ d i, P ⟨.live .ctnSf, d, i⟩) (h36 : ∀ i, P ⟨.sticky .ctOof, d, i⟩) (h37 : ∀ i, P ⟨.live .ctOof, d, i⟩) (h38 : ∀ i, P ⟨.sticky .ctLof, d, i⟩) (h39 : ∀ i, P ⟨.live .ctLof, d, i⟩) (h40 : ∀ i, P ⟨.ct .candCount, d, i⟩) (h41 : ∀ i, P ⟨.ct .align, d, i⟩) (h42 : ∀ i, P ⟨.ct .lof, d, i⟩) (h43 : ∀ i, P ⟨.ct .nOofEnter, d, i⟩) (h44 : ∀ i, P ⟨.ct .mfasSeen, d, i⟩) (h45 : ∀ i, P ⟨.ct .misses, d, i⟩) (h46 : ∀ i, P ⟨.ct .inFrame, d, i⟩) (h47 : ∀ i, P ⟨.sticky .fecSf, d, i⟩) (h48 : ∀ i, P ⟨.live .fecSf, d, i⟩) (h49 : ∀ i, P ⟨.fec .iterCap, d, i⟩) (h50 : ∀ i, P ⟨.fec .lockState, d, i⟩) (h51 : ∀ i, P ⟨.fec .failRun, d, i⟩) (h52 : ∀ i, P ⟨.fec .candAt, d, i⟩) (h53 : ∀ i, P ⟨.sticky .lrRxDown, d, i⟩) (h54 : ∀ i, P ⟨.live .lrRxDown, d, i⟩) (h55 : ∀ i, P ⟨.lr .fastRun, d, i⟩) (h56 : ∀ i, P ⟨.lr .acqRetryLeft, d, i⟩) (h57 : ∀ i, P ⟨.lr .nAcqAttempt, d, i⟩) (h58 : ∀ i, P ⟨.lr .rxEn, d, i⟩) (qreports : Q .reports) (qcands : Q .cands) :
    Reach P Q s0 (State.rxStart s d cal power) := by
  unfold State.rxStart
  repeat' with_reducible first | assumption | apply State.set_reach | apply State.latencyBank_reach | apply State.rxReadCal_reach | apply State.when_reach | apply State.raise_reach | apply State.opticsRefresh_reach | apply State.rxAttempt_reach | (intros; show P _ = true; apply_assumption) | split | dsimp only | intro _

theorem execRxEnRise_reach {d : Nat} {cal : Sys2Proof.OeCal} {power : Int} (hs : Reach P Q s0 s) (hsum : ∀ k, k.cell.summary → P k) (h11 : ∀ i, P ⟨.lr .firstStart, d, i⟩) (h12 : ∀ i, P ⟨.sys .freeCount, 0, i⟩) (h13 : ∀ i, P ⟨.lr .latBase, d, i⟩) (h14 : ∀ i, P ⟨.lr .latNs, d, i⟩) (h15 : ∀ i, P ⟨.fec .latNs, d, i⟩) (h16 : ∀ i, P ⟨.live .lrRxcalFail, d, i⟩) (h17 : ∀ i, P ⟨.lr .yPhase, d, i⟩) (h18 : ∀ i, P ⟨.lr .xPhase, d, i⟩) (h19 : ∀ i, P ⟨.lr .tribSkew, d, i⟩) (h20 : ∀ i, P ⟨.lr .tribGain, d, i⟩) (h21 : ∀ i, P ⟨.sticky .lrRxcalFail, d, i⟩) (h22 : ∀ i, P ⟨.lr .winLocked, d, i⟩) (h23 : ∀ i, P ⟨.sticky .lrLos, d, i⟩) (h24 : ∀ i, P ⟨.live .lrLos, d, i⟩) (h25 : ∀ i, P ⟨.sticky .lrLoLost, d, i⟩) (h26 : ∀ i, P ⟨.live .lrLoLost, d, i⟩) (h27 : ∀ i, P ⟨.lt .muteCause, d, i⟩) (h28 : ∀ i, P ⟨.lt .ramp, d, i⟩) (h29 : ∀ i, P ⟨.lt .txState, d, i⟩) (h30 : ∀ i, P ⟨.lt .otherCause, d, i⟩) (h31 : ∀ i, P ⟨.bias .ptState, d, i⟩) (h32 : ∀ i, P ⟨.bias .ptAcq, d, i⟩) (h33 : ∀ i, P ⟨.bias .ptV, d, i⟩) (h34 : ∀ i, P ⟨.bias .ptBase, d, i⟩) (h35 : ∀ i, P ⟨.lt .nMuteEnter, d, i⟩) (h36 : ∀ i, P ⟨.lt .begun4, d, i⟩) (h37 : ∀ i, P ⟨.sticky .ltTxDown, d, i⟩) (h38 : ∀ i, P ⟨.live .ltTxDown, d, i⟩) (h39 : ∀ i, P ⟨.lr .rxSf, d, i⟩) (h40 : ∀ i, P ⟨.lr .rxState, d, i⟩) (h41 : ∀ i, P ⟨.lr .missed, d, i⟩) (h42 : ∀ i, P ⟨.tim .evtNext, d, i⟩) (h43 : ∀ i, P ⟨.tim .evtAt, d, i⟩) (h44 : ∀ d i, P ⟨.sticky .ctnSf, d, i⟩) (h45 : ∀ d i, P ⟨.live .ctnSf, d, i⟩) (h46 : ∀ i, P ⟨.sticky .ctOof, d, i⟩) (h47 : ∀ i, P ⟨.live .ctOof, d, i⟩) (h48 : ∀ i, P ⟨.sticky .ctLof, d, i⟩) (h49 : ∀ i, P ⟨.live .ctLof, d, i⟩) (h50 : ∀ i, P ⟨.ct .candCount, d, i⟩) (h51 : ∀ i, P ⟨.ct .align, d, i⟩) (h52 : ∀ i, P ⟨.ct .lof, d, i⟩) (h53 : ∀ i, P ⟨.ct .nOofEnter, d, i⟩) (h54 : ∀ i, P ⟨.ct .mfasSeen, d, i⟩) (h55 : ∀ i, P ⟨.ct .misses, d, i⟩) (h56 : ∀ i, P ⟨.ct .inFrame, d, i⟩) (h57 : ∀ i, P ⟨.sticky .fecSf, d, i⟩) (h58 : ∀ i, P ⟨.live .fecSf, d, i⟩) (h59 : ∀ i, P ⟨.fec .iterCap, d, i⟩) (h60 : ∀ i, P ⟨.fec .lockState, d, i⟩) (h61 : ∀ i, P ⟨.fec .failRun, d, i⟩) (h62 : ∀ i, P ⟨.fec .candAt, d, i⟩) (h63 : ∀ i, P ⟨.sticky .lrRxDown, d, i⟩) (h64 : ∀ i, P ⟨.live .lrRxDown, d, i⟩) (h65 : ∀ i, P ⟨.lr .fastRun, d, i⟩) (h66 : ∀ i, P ⟨.lr .acqRetryLeft, d, i⟩) (h67 : ∀ i, P ⟨.lr .nAcqAttempt, d, i⟩) (h68 : ∀ i, P ⟨.lr .rxEn, d, i⟩) (qreports : Q .reports) (qcands : Q .cands) :
    ∃ t, execRxEnRise d cal power s = .next t ∧ Reach P Q s0 t := by
  unfold execRxEnRise
  repeat' with_reducible first | assumption | apply finishIf_reach | apply State.rxStart_reach | (intros; show P _ = true; first | exact hsum _ rfl | (clear hsum; apply_assumption)) | split | dsimp only | intro _

theorem State.holdToSignal_reach {d : Nat} (hs : Reach P Q s0 s) (h1 : ∀ i, P ⟨.lr .rxSf, d, i⟩) (h2 : ∀ i, P ⟨.lr .rxState, d, i⟩) (h3 : ∀ i, P ⟨.lr .missed, d, i⟩) (h4 : ∀ i, P ⟨.lr .winLocked, d, i⟩) (h5 : ∀ i, P ⟨.tim .evtNext, d, i⟩) (h6 : ∀ i, P ⟨.tim .evtAt, d, i⟩) (h7 : ∀ d i, P ⟨.sticky .ctnSf, d, i⟩) (h8 : ∀ d i, P ⟨.live .ctnSf, d, i⟩) (h9 : ∀ i, P ⟨.sticky .ctOof, d, i⟩) (h10 : ∀ i, P ⟨.live .ctOof, d, i⟩) (h11 : ∀ i, P ⟨.sticky .ctLof, d, i⟩) (h12 : ∀ i, P ⟨.live .ctLof, d, i⟩) (h13 : ∀ i, P ⟨.ct .candCount, d, i⟩) (h14 : ∀ i, P ⟨.ct .align, d, i⟩) (h15 : ∀ i, P ⟨.ct .lof, d, i⟩) (h16 : ∀ i, P ⟨.ct .nOofEnter, d, i⟩) (h17 : ∀ i, P ⟨.ct .mfasSeen, d, i⟩) (h18 : ∀ i, P ⟨.ct .misses, d, i⟩) (h19 : ∀ i, P ⟨.ct .inFrame, d, i⟩) (h20 : ∀ i, P ⟨.sticky .fecSf, d, i⟩) (h21 : ∀ i, P ⟨.live .fecSf, d, i⟩) (h22 : ∀ i, P ⟨.fec .iterCap, d, i⟩) (h23 : ∀ i, P ⟨.fec .lockState, d, i⟩) (h24 : ∀ i, P ⟨.fec .failRun, d, i⟩) (h25 : ∀ i, P ⟨.fec .candAt, d, i⟩) (h26 : ∀ i, P ⟨.sticky .lrRxDown, d, i⟩) (h27 : ∀ i, P ⟨.live .lrRxDown, d, i⟩) (h28 : ∀ i, P ⟨.lr .eqValid, d, i⟩) (qreports : Q .reports) (qcands : Q .cands) :
    Reach P Q s0 (State.holdToSignal s d) := by
  unfold State.holdToSignal
  repeat' with_reducible first | assumption | apply State.rxGo_reach | apply State.set_reach | (intros; show P _ = true; apply_assumption) | split | dsimp only | intro _

theorem State.rxApplyPending_reach {d : Nat} (hs : Reach P Q s0 s) (h1 : ∀ i, P ⟨.lr .modeReload, d, i⟩) (h2 : ∀ i, P ⟨.lr .useYPhase, d, i⟩) (h3 : ∀ i, P ⟨.lr .useXPhase, d, i⟩) (h4 : ∀ i, P ⟨.lr .useSkew, d, i⟩) (h5 : ∀ i, P ⟨.lr .useGain, d, i⟩) :
    Reach P Q s0 (State.rxApplyPending s d) := by
  unfold State.rxApplyPending
  repeat' with_reducible first | assumption | apply State.set_reach | apply State.each_reach | (intros; show P _ = true; apply_assumption) | split | dsimp only | intro _

theorem State.acquireEnd_reach {d : Nat} {ok : Bool} (hs : Reach P Q s0 s) (h1 : ∀ i, P ⟨.boot .procCalled, 0, i⟩) (h2 : ∀ i, P ⟨.boot .procCode, 0, i⟩) (h3 : ∀ i, P ⟨.boot .procDone, 0, i⟩) :
    Reach P Q s0 (State.acquireEnd s d ok) := by
  unfold State.acquireEnd
  repeat' with_reducible first | assumption | apply State.when_reach | apply State.procEnd_reach | (intros; show P _ = true; apply_assumption) | split | dsimp only | intro _

theorem State.enterHold_reach {d : Nat} (hs : Reach P Q s0 s) (h1 : ∀ i, P ⟨.lr .rxSf, d, i⟩) (h2 : ∀ i, P ⟨.lr .rxState, d, i⟩) (h3 : ∀ i, P ⟨.lr .missed, d, i⟩) (h4 : ∀ i, P ⟨.lr .winLocked, d, i⟩) (h5 : ∀ i, P ⟨.tim .evtNext, d, i⟩) (h6 : ∀ i, P ⟨.tim .evtAt, d, i⟩) (h7 : ∀ d i, P ⟨.sticky .ctnSf, d, i⟩) (h8 : ∀ d i, P ⟨.live .ctnSf, d, i⟩) (h9 : ∀ i, P ⟨.sticky .ctOof, d, i⟩) (h10 : ∀ i, P ⟨.live .ctOof, d, i⟩) (h11 : ∀ i, P ⟨.sticky .ctLof, d, i⟩) (h12 : ∀ i, P ⟨.live .ctLof, d, i⟩) (h13 : ∀ i, P ⟨.ct .candCount, d, i⟩) (h14 : ∀ i, P ⟨.ct .align, d, i⟩) (h15 : ∀ i, P ⟨.ct .lof, d, i⟩) (h16 : ∀ i, P ⟨.ct .nOofEnter, d, i⟩) (h17 : ∀ i, P ⟨.ct .mfasSeen, d, i⟩) (h18 : ∀ i, P ⟨.ct .misses, d, i⟩) (h19 : ∀ i, P ⟨.ct .inFrame, d, i⟩) (h20 : ∀ i, P ⟨.sticky .fecSf, d, i⟩) (h21 : ∀ i, P ⟨.live .fecSf, d, i⟩) (h22 : ∀ i, P ⟨.fec .iterCap, d, i⟩) (h23 : ∀ i, P ⟨.fec .lockState, d, i⟩) (h24 : ∀ i, P ⟨.fec .failRun, d, i⟩) (h25 : ∀ i, P ⟨.fec .candAt, d, i⟩) (h26 : ∀ i, P ⟨.sticky .lrRxDown, d, i⟩) (h27 : ∀ i, P ⟨.live .lrRxDown, d, i⟩) (h28 : ∀ i, P ⟨.lr .fastRun, d, i⟩) (h29 : ∀ i, P ⟨.lr .nLosEnter, d, i⟩) (h30 : ∀ i, P ⟨.lr .eqValid, d, i⟩) (qreports : Q .reports) (qcands : Q .cands) :
    Reach P Q s0 (State.enterHold s d) := by
  unfold State.enterHold
  repeat' with_reducible first | assumption | apply State.rxGo_reach | apply State.set_reach | apply State.inc_reach | apply State.holdToSignal_reach | (intros; show P _ = true; apply_assumption) | split | dsimp only | intro _

theorem State.rxSwitch_reach {d : Nat} {b : Nat} (hs : Reach P Q s0 s) (h1 : ∀ i, P ⟨.sys .freeCount, 0, i⟩) (h2 : ∀ i, P ⟨.lr .latBase, d, i⟩) (h3 : ∀ i, P ⟨.lr .latNs, d, i⟩) (h4 : ∀ i, P ⟨.fec .latNs, d, i⟩) (h5 : ∀ i, P ⟨.lr .modeReload, d, i⟩) (h6 : ∀ i, P ⟨.lr .nBankSwitch, d, i⟩) (h7 : ∀ i, P ⟨.lr .bank, d, i⟩) (h8 : ∀ i, P ⟨.sticky .lrCdNearLimit, d, i⟩) (h9 : ∀ i, P ⟨.live .lrCdNearLimit, d, i⟩) (h10 : ∀ i, P ⟨.lr .winLocked, d, i⟩) (h11 : ∀ i, P ⟨.lr .rxSf, d, i⟩) (h12 : ∀ i, P ⟨.lr .rxState, d, i⟩) (h13 : ∀ i, P ⟨.lr .missed, d, i⟩) (h14 : ∀ i, P ⟨.tim .evtNext, d, i⟩) (h15 : ∀ i, P ⟨.tim .evtAt, d, i⟩) (h16 : ∀ d i, P ⟨.sticky .ctnSf, d, i⟩) (h17 : ∀ d i, P ⟨.live .ctnSf, d, i⟩) (h18 : ∀ i, P ⟨.sticky .ctOof, d, i⟩) (h19 : ∀ i, P ⟨.live .ctOof, d, i⟩) (h20 : ∀ i, P ⟨.sticky .ctLof, d, i⟩) (h21 : ∀ i, P ⟨.live .ctLof, d, i⟩) (h22 : ∀ i, P ⟨.ct .candCount, d, i⟩) (h23 : ∀ i, P ⟨.ct .align, d, i⟩) (h24 : ∀ i, P ⟨.ct .lof, d, i⟩) (h25 : ∀ i, P ⟨.ct .nOofEnter, d, i⟩) (h26 : ∀ i, P ⟨.ct .mfasSeen, d, i⟩) (h27 : ∀ i, P ⟨.ct .misses, d, i⟩) (h28 : ∀ i, P ⟨.ct .inFrame, d, i⟩) (h29 : ∀ i, P ⟨.sticky .fecSf, d, i⟩) (h30 : ∀ i, P ⟨.live .fecSf, d, i⟩) (h31 : ∀ i, P ⟨.fec .iterCap, d, i⟩) (h32 : ∀ i, P ⟨.fec .lockState, d, i⟩) (h33 : ∀ i, P ⟨.fec .failRun, d, i⟩) (h34 : ∀ i, P ⟨.fec .candAt, d, i⟩) (h35 : ∀ i, P ⟨.sticky .lrRxDown, d, i⟩) (h36 : ∀ i, P ⟨.live .lrRxDown, d, i⟩) (qreports : Q .reports) (qcands : Q .cands) :
    Reach P Q s0 (State.rxSwitch s d b) := by
  unfold State.rxSwitch
  repeat' with_reducible first | assumption | apply State.latencyBank_reach | apply State.set_reach | apply State.inc_reach | apply State.cdNear_reach | apply State.rxGo_reach | (intros; show P _ = true; apply_assumption) | split | dsimp only | intro _

theorem execFreqOffsetExceeded_reach {d : Nat} (hs : Reach P Q s0 s) (hsum : ∀ k, k.cell.summary → P k) (h11 : ∀ i, P ⟨.lr .rxSf, d, i⟩) (h12 : ∀ i, P ⟨.lr .rxState, d, i⟩) (h13 : ∀ i, P ⟨.lr .missed, d, i⟩) (h14 : ∀ i, P ⟨.lr .winLocked, d, i⟩) (h15 : ∀ i, P ⟨.tim .evtNext, d, i⟩) (h16 : ∀ i, P ⟨.tim .evtAt, d, i⟩) (h17 : ∀ d i, P ⟨.sticky .ctnSf, d, i⟩) (h18 : ∀ d i, P ⟨.live .ctnSf, d, i⟩) (h19 : ∀ i, P ⟨.sticky .ctOof, d, i⟩) (h20 : ∀ i, P ⟨.live .ctOof, d, i⟩) (h21 : ∀ i, P ⟨.sticky .ctLof, d, i⟩) (h22 : ∀ i, P ⟨.live .ctLof, d, i⟩) (h23 : ∀ i, P ⟨.ct .candCount, d, i⟩) (h24 : ∀ i, P ⟨.ct .align, d, i⟩) (h25 : ∀ i, P ⟨.ct .lof, d, i⟩) (h26 : ∀ i, P ⟨.ct .nOofEnter, d, i⟩) (h27 : ∀ i, P ⟨.ct .mfasSeen, d, i⟩) (h28 : ∀ i, P ⟨.ct .misses, d, i⟩) (h29 : ∀ i, P ⟨.ct .inFrame, d, i⟩) (h30 : ∀ i, P ⟨.sticky .fecSf, d, i⟩) (h31 : ∀ i, P ⟨.live .fecSf, d, i⟩) (h32 : ∀ i, P ⟨.fec .iterCap, d, i⟩) (h33 : ∀ i, P ⟨.fec .lockState, d, i⟩) (h34 : ∀ i, P ⟨.fec .failRun, d, i⟩) (h35 : ∀ i, P ⟨.fec .candAt, d, i⟩) (h36 : ∀ i, P ⟨.sticky .lrRxDown, d, i⟩) (h37 : ∀ i, P ⟨.live .lrRxDown, d, i⟩) (qreports : Q .reports) (qcands : Q .cands) :
    ∃ t, execFreqOffsetExceeded d s = .next t ∧ Reach P Q s0 t := by
  unfold execFreqOffsetExceeded
  repeat' with_reducible first | assumption | apply finishIf_reach | apply State.rxGo_reach | (intros; show P _ = true; first | exact hsum _ rfl | (clear hsum; apply_assumption)) | split | dsimp only | intro _

theorem execFailedWaitExpiry_reach {d : Nat} (hs : Reach P Q s0 s) (hsum : ∀ k, k.cell.summary → P k) (h11 : ∀ i, P ⟨.lr .rxSf, d, i⟩) (h12 : ∀ i, P ⟨.lr .rxState, d, i⟩) (h13 : ∀ i, P ⟨.lr .missed, d, i⟩) (h14 : ∀ i, P ⟨.lr .winLocked, d, i⟩) (h15 : ∀ i, P ⟨.tim .evtNext, d, i⟩) (h16 : ∀ i, P ⟨.tim .evtAt, d, i⟩) (h17 : ∀ d i, P ⟨.sticky .ctnSf, d, i⟩) (h18 : ∀ d i, P ⟨.live .ctnSf, d, i⟩) (h19 : ∀ i, P ⟨.sticky .ctOof, d, i⟩) (h20 : ∀ i, P ⟨.live .ctOof, d, i⟩) (h21 : ∀ i, P ⟨.sticky .ctLof, d, i⟩) (h22 : ∀ i, P ⟨.live .ctLof, d, i⟩) (h23 : ∀ i, P ⟨.ct .candCount, d, i⟩) (h24 : ∀ i, P ⟨.ct .align, d, i⟩) (h25 : ∀ i, P ⟨.ct .lof, d, i⟩) (h26 : ∀ i, P ⟨.ct .nOofEnter, d, i⟩) (h27 : ∀ i, P ⟨.ct .mfasSeen, d, i⟩) (h28 : ∀ i, P ⟨.ct .misses, d, i⟩) (h29 : ∀ i, P ⟨.ct .inFrame, d, i⟩) (h30 : ∀ i, P ⟨.sticky .fecSf, d, i⟩) (h31 : ∀ i, P ⟨.live .fecSf, d, i⟩) (h32 : ∀ i, P ⟨.fec .iterCap, d, i⟩) (h33 : ∀ i, P ⟨.fec .lockState, d, i⟩) (h34 : ∀ i, P ⟨.fec .failRun, d, i⟩) (h35 : ∀ i, P ⟨.fec .candAt, d, i⟩) (h36 : ∀ i, P ⟨.sticky .lrRxDown, d, i⟩) (h37 : ∀ i, P ⟨.live .lrRxDown, d, i⟩) (h38 : ∀ i, P ⟨.lr .fastRun, d, i⟩) (h39 : ∀ i, P ⟨.lr .acqRetryLeft, d, i⟩) (h40 : ∀ i, P ⟨.lr .nAcqAttempt, d, i⟩) (qreports : Q .reports) (qcands : Q .cands) :
    ∃ t, execFailedWaitExpiry d s = .next t ∧ Reach P Q s0 t := by
  unfold execFailedWaitExpiry
  repeat' with_reducible first | assumption | apply finishIf_reach | apply State.rxAttempt_reach | (intros; show P _ = true; first | exact hsum _ rfl | (clear hsum; apply_assumption)) | split | dsimp only | intro _

theorem execAcquireLine_reach {d : Nat} {cal : Sys2Proof.OeCal} {power : Int} (hs : Reach P Q s0 s) (hsum : ∀ k, k.cell.summary → P k) (h11 : ∀ i, P ⟨.lr .firstStart, d, i⟩) (h12 : ∀ i, P ⟨.sys .freeCount, 0, i⟩) (h13 : ∀ i, P ⟨.lr .latBase, d, i⟩) (h14 : ∀ i, P ⟨.lr .latNs, d, i⟩) (h15 : ∀ i, P ⟨.fec .latNs, d, i⟩) (h16 : ∀ i, P ⟨.live .lrRxcalFail, d, i⟩) (h17 : ∀ i, P ⟨.lr .yPhase, d, i⟩) (h18 : ∀ i, P ⟨.lr .xPhase, d, i⟩) (h19 : ∀ i, P ⟨.lr .tribSkew, d, i⟩) (h20 : ∀ i, P ⟨.lr .tribGain, d, i⟩) (h21 : ∀ i, P ⟨.sticky .lrRxcalFail, d, i⟩) (h22 : ∀ i, P ⟨.lr .winLocked, d, i⟩) (h23 : ∀ i, P ⟨.sticky .lrLos, d, i⟩) (h24 : ∀ i, P ⟨.live .lrLos, d, i⟩) (h25 : ∀ i, P ⟨.sticky .lrLoLost, d, i⟩) (h26 : ∀ i, P ⟨.live .lrLoLost, d, i⟩) (h27 : ∀ i, P ⟨.lt .muteCause, d, i⟩) (h28 : ∀ i, P ⟨.lt .ramp, d, i⟩) (h29 : ∀ i, P ⟨.lt .txState, d, i⟩) (h30 : ∀ i, P ⟨.lt .otherCause, d, i⟩) (h31 : ∀ i, P ⟨.bias .ptState, d, i⟩) (h32 : ∀ i, P ⟨.bias .ptAcq, d, i⟩) (h33 : ∀ i, P ⟨.bias .ptV, d, i⟩) (h34 : ∀ i, P ⟨.bias .ptBase, d, i⟩) (h35 : ∀ i, P ⟨.lt .nMuteEnter, d, i⟩) (h36 : ∀ i, P ⟨.lt .begun4, d, i⟩) (h37 : ∀ i, P ⟨.sticky .ltTxDown, d, i⟩) (h38 : ∀ i, P ⟨.live .ltTxDown, d, i⟩) (h39 : ∀ i, P ⟨.lr .rxSf, d, i⟩) (h40 : ∀ i, P ⟨.lr .rxState, d, i⟩) (h41 : ∀ i, P ⟨.lr .missed, d, i⟩) (h42 : ∀ i, P ⟨.tim .evtNext, d, i⟩) (h43 : ∀ i, P ⟨.tim .evtAt, d, i⟩) (h44 : ∀ d i, P ⟨.sticky .ctnSf, d, i⟩) (h45 : ∀ d i, P ⟨.live .ctnSf, d, i⟩) (h46 : ∀ i, P ⟨.sticky .ctOof, d, i⟩) (h47 : ∀ i, P ⟨.live .ctOof, d, i⟩) (h48 : ∀ i, P ⟨.sticky .ctLof, d, i⟩) (h49 : ∀ i, P ⟨.live .ctLof, d, i⟩) (h50 : ∀ i, P ⟨.ct .candCount, d, i⟩) (h51 : ∀ i, P ⟨.ct .align, d, i⟩) (h52 : ∀ i, P ⟨.ct .lof, d, i⟩) (h53 : ∀ i, P ⟨.ct .nOofEnter, d, i⟩) (h54 : ∀ i, P ⟨.ct .mfasSeen, d, i⟩) (h55 : ∀ i, P ⟨.ct .misses, d, i⟩) (h56 : ∀ i, P ⟨.ct .inFrame, d, i⟩) (h57 : ∀ i, P ⟨.sticky .fecSf, d, i⟩) (h58 : ∀ i, P ⟨.live .fecSf, d, i⟩) (h59 : ∀ i, P ⟨.fec .iterCap, d, i⟩) (h60 : ∀ i, P ⟨.fec .lockState, d, i⟩) (h61 : ∀ i, P ⟨.fec .failRun, d, i⟩) (h62 : ∀ i, P ⟨.fec .candAt, d, i⟩) (h63 : ∀ i, P ⟨.sticky .lrRxDown, d, i⟩) (h64 : ∀ i, P ⟨.live .lrRxDown, d, i⟩) (h65 : ∀ i, P ⟨.lr .fastRun, d, i⟩) (h66 : ∀ i, P ⟨.lr .acqRetryLeft, d, i⟩) (h67 : ∀ i, P ⟨.lr .nAcqAttempt, d, i⟩) (h68 : ∀ i, P ⟨.lr .rxEn, d, i⟩) (qreports : Q .reports) (qcands : Q .cands) :
    ∃ t, execAcquireLine d cal power s = .next t ∧ Reach P Q s0 t := by
  unfold execAcquireLine
  repeat' with_reducible first | assumption | apply finishIf_reach | apply State.rxStart_reach | (intros; show P _ = true; first | exact hsum _ rfl | (clear hsum; apply_assumption)) | split | dsimp only | intro _

theorem State.setRxPower_reach {d : Nat} {power : Int} (hs : Reach P Q s0 s) (h1 : ∀ i, P ⟨.lr .rxPower, d, i⟩) :
    Reach P Q s0 (State.setRxPower s d power) := by
  unfold State.setRxPower
  repeat' with_reducible first | assumption | apply State.set_reach | (intros; show P _ = true; apply_assumption) | split | dsimp only | intro _

theorem execRxLos_reach {d : Nat} {power : Int} (hs : Reach P Q s0 s) (hsum : ∀ k, k.cell.summary → P k) (h11 : ∀ i, P ⟨.sticky .lrLos, d, i⟩) (h12 : ∀ i, P ⟨.live .lrLos, d, i⟩) (h13 : ∀ i, P ⟨.lr .rxPower, d, i⟩) (h14 : ∀ i, P ⟨.lr .rxSf, d, i⟩) (h15 : ∀ i, P ⟨.lr .rxState, d, i⟩) (h16 : ∀ i, P ⟨.lr .missed, d, i⟩) (h17 : ∀ i, P ⟨.lr .winLocked, d, i⟩) (h18 : ∀ i, P ⟨.tim .evtNext, d, i⟩) (h19 : ∀ i, P ⟨.tim .evtAt, d, i⟩) (h20 : ∀ d i, P ⟨.sticky .ctnSf, d, i⟩) (h21 : ∀ d i, P ⟨.live .ctnSf, d, i⟩) (h22 : ∀ i, P ⟨.sticky .ctOof, d, i⟩) (h23 : ∀ i, P ⟨.live .ctOof, d, i⟩) (h24 : ∀ i, P ⟨.sticky .ctLof, d, i⟩) (h25 : ∀ i, P ⟨.live .ctLof, d, i⟩) (h26 : ∀ i, P ⟨.ct .candCount, d, i⟩) (h27 : ∀ i, P ⟨.ct .align, d, i⟩) (h28 : ∀ i, P ⟨.ct .lof, d, i⟩) (h29 : ∀ i, P ⟨.ct .nOofEnter, d, i⟩) (h30 : ∀ i, P ⟨.ct .mfasSeen, d, i⟩) (h31 : ∀ i, P ⟨.ct .misses, d, i⟩) (h32 : ∀ i, P ⟨.ct .inFrame, d, i⟩) (h33 : ∀ i, P ⟨.sticky .fecSf, d, i⟩) (h34 : ∀ i, P ⟨.live .fecSf, d, i⟩) (h35 : ∀ i, P ⟨.fec .iterCap, d, i⟩) (h36 : ∀ i, P ⟨.fec .lockState, d, i⟩) (h37 : ∀ i, P ⟨.fec .failRun, d, i⟩) (h38 : ∀ i, P ⟨.fec .candAt, d, i⟩) (h39 : ∀ i, P ⟨.sticky .lrRxDown, d, i⟩) (h40 : ∀ i, P ⟨.live .lrRxDown, d, i⟩) (h41 : ∀ i, P ⟨.lr .fastRun, d, i⟩) (h42 : ∀ i, P ⟨.lr .nLosEnter, d, i⟩) (h43 : ∀ i, P ⟨.lr .eqValid, d, i⟩) (qreports : Q .reports) (qcands : Q .cands) :
    ∃ t, execRxLos d power s = .next t ∧ Reach P Q s0 t := by
  unfold execRxLos
  repeat' with_reducible first | assumption | apply finishIf_reach | apply State.when_reach | apply State.raise_reach | apply State.setRxPower_reach | apply State.enterHold_reach | (intros; show P _ = true; first | exact hsum _ rfl | (clear hsum; apply_assumption)) | split | dsimp only | intro _

theorem execHoldExpiry_reach {d : Nat} (hs : Reach P Q s0 s) (hsum : ∀ k, k.cell.summary → P k) (h11 : ∀ i, P ⟨.lr .rxSf, d, i⟩) (h12 : ∀ i, P ⟨.lr .rxState, d, i⟩) (h13 : ∀ i, P ⟨.lr .missed, d, i⟩) (h14 : ∀ i, P ⟨.lr .winLocked, d, i⟩) (h15 : ∀ i, P ⟨.tim .evtNext, d, i⟩) (h16 : ∀ i, P ⟨.tim .evtAt, d, i⟩) (h17 : ∀ d i, P ⟨.sticky .ctnSf, d, i⟩) (h18 : ∀ d i, P ⟨.live .ctnSf, d, i⟩) (h19 : ∀ i, P ⟨.sticky .ctOof, d, i⟩) (h20 : ∀ i, P ⟨.live .ctOof, d, i⟩) (h21 : ∀ i, P ⟨.sticky .ctLof, d, i⟩) (h22 : ∀ i, P ⟨.live .ctLof, d, i⟩) (h23 : ∀ i, P ⟨.ct .candCount, d, i⟩) (h24 : ∀ i, P ⟨.ct .align, d, i⟩) (h25 : ∀ i, P ⟨.ct .lof, d, i⟩) (h26 : ∀ i, P ⟨.ct .nOofEnter, d, i⟩) (h27 : ∀ i, P ⟨.ct .mfasSeen, d, i⟩) (h28 : ∀ i, P ⟨.ct .misses, d, i⟩) (h29 : ∀ i, P ⟨.ct .inFrame, d, i⟩) (h30 : ∀ i, P ⟨.sticky .fecSf, d, i⟩) (h31 : ∀ i, P ⟨.live .fecSf, d, i⟩) (h32 : ∀ i, P ⟨.fec .iterCap, d, i⟩) (h33 : ∀ i, P ⟨.fec .lockState, d, i⟩) (h34 : ∀ i, P ⟨.fec .failRun, d, i⟩) (h35 : ∀ i, P ⟨.fec .candAt, d, i⟩) (h36 : ∀ i, P ⟨.sticky .lrRxDown, d, i⟩) (h37 : ∀ i, P ⟨.live .lrRxDown, d, i⟩) (h38 : ∀ i, P ⟨.lr .eqValid, d, i⟩) (qreports : Q .reports) (qcands : Q .cands) :
    ∃ t, execHoldExpiry d s = .next t ∧ Reach P Q s0 t := by
  unfold execHoldExpiry
  repeat' with_reducible first | assumption | apply finishIf_reach | apply State.holdToSignal_reach | (intros; show P _ = true; first | exact hsum _ rfl | (clear hsum; apply_assumption)) | split | dsimp only | intro _

theorem execAcqStepTimeout_reach {d : Nat} (hs : Reach P Q s0 s) (hsum : ∀ k, k.cell.summary → P k) (h11 : ∀ i, P ⟨.lr .fastRun, d, i⟩) (h12 : ∀ i, P ⟨.lr .nAcqFail, d, i⟩) (h13 : ∀ i, P ⟨.lr .lastFailStep, d, i⟩) (h14 : ∀ i, P ⟨.lr .lastFailReason, d, i⟩) (h15 : ∀ i, P ⟨.boot .procCalled, 0, i⟩) (h16 : ∀ i, P ⟨.boot .procCode, 0, i⟩) (h17 : ∀ i, P ⟨.boot .procDone, 0, i⟩) (h18 : ∀ i, P ⟨.sticky .lrAcqFailed, d, i⟩) (h19 : ∀ i, P ⟨.live .lrAcqFailed, d, i⟩) (h20 : ∀ i, P ⟨.lr .rxSf, d, i⟩) (h21 : ∀ i, P ⟨.lr .rxState, d, i⟩) (h22 : ∀ i, P ⟨.lr .missed, d, i⟩) (h23 : ∀ i, P ⟨.lr .winLocked, d, i⟩) (h24 : ∀ i, P ⟨.tim .evtNext, d, i⟩) (h25 : ∀ i, P ⟨.tim .evtAt, d, i⟩) (h26 : ∀ d i, P ⟨.sticky .ctnSf, d, i⟩) (h27 : ∀ d i, P ⟨.live .ctnSf, d, i⟩) (h28 : ∀ i, P ⟨.sticky .ctOof, d, i⟩) (h29 : ∀ i, P ⟨.live .ctOof, d, i⟩) (h30 : ∀ i, P ⟨.sticky .ctLof, d, i⟩) (h31 : ∀ i, P ⟨.live .ctLof, d, i⟩) (h32 : ∀ i, P ⟨.ct .candCount, d, i⟩) (h33 : ∀ i, P ⟨.ct .align, d, i⟩) (h34 : ∀ i, P ⟨.ct .lof, d, i⟩) (h35 : ∀ i, P ⟨.ct .nOofEnter, d, i⟩) (h36 : ∀ i, P ⟨.ct .mfasSeen, d, i⟩) (h37 : ∀ i, P ⟨.ct .misses, d, i⟩) (h38 : ∀ i, P ⟨.ct .inFrame, d, i⟩) (h39 : ∀ i, P ⟨.sticky .fecSf, d, i⟩) (h40 : ∀ i, P ⟨.live .fecSf, d, i⟩) (h41 : ∀ i, P ⟨.fec .iterCap, d, i⟩) (h42 : ∀ i, P ⟨.fec .lockState, d, i⟩) (h43 : ∀ i, P ⟨.fec .failRun, d, i⟩) (h44 : ∀ i, P ⟨.fec .candAt, d, i⟩) (h45 : ∀ i, P ⟨.sticky .lrRxDown, d, i⟩) (h46 : ∀ i, P ⟨.live .lrRxDown, d, i⟩) (h47 : ∀ i, P ⟨.lr .acqRetryLeft, d, i⟩) (qreports : Q .reports) (qcands : Q .cands) :
    ∃ t, execAcqStepTimeout d s = .next t ∧ Reach P Q s0 t := by
  unfold execAcqStepTimeout
  repeat' with_reducible first | assumption | apply finishIf_reach | apply State.set_reach | apply State.inc_reach | apply State.acquireEnd_reach | apply State.raise_reach | apply State.rxGo_reach | (intros; show P _ = true; first | exact hsum _ rfl | (clear hsum; apply_assumption)) | split | dsimp only | intro _

theorem execRxPowerReturn_reach {d : Nat} {power : Int} (hs : Reach P Q s0 s) (hsum : ∀ k, k.cell.summary → P k) (h11 : ∀ i, P ⟨.live .lrLos, d, i⟩) (h12 : ∀ i, P ⟨.lr .rxPower, d, i⟩) (h13 : ∀ i, P ⟨.lr .rxSf, d, i⟩) (h14 : ∀ i, P ⟨.lr .rxState, d, i⟩) (h15 : ∀ i, P ⟨.lr .missed, d, i⟩) (h16 : ∀ i, P ⟨.lr .winLocked, d, i⟩) (h17 : ∀ i, P ⟨.tim .evtNext, d, i⟩) (h18 : ∀ i, P ⟨.tim .evtAt, d, i⟩) (h19 : ∀ d i, P ⟨.sticky .ctnSf, d, i⟩) (h20 : ∀ d i, P ⟨.live .ctnSf, d, i⟩) (h21 : ∀ i, P ⟨.sticky .ctOof, d, i⟩) (h22 : ∀ i, P ⟨.live .ctOof, d, i⟩) (h23 : ∀ i, P ⟨.sticky .ctLof, d, i⟩) (h24 : ∀ i, P ⟨.live .ctLof, d, i⟩) (h25 : ∀ i, P ⟨.ct .candCount, d, i⟩) (h26 : ∀ i, P ⟨.ct .align, d, i⟩) (h27 : ∀ i, P ⟨.ct .lof, d, i⟩) (h28 : ∀ i, P ⟨.ct .nOofEnter, d, i⟩) (h29 : ∀ i, P ⟨.ct .mfasSeen, d, i⟩) (h30 : ∀ i, P ⟨.ct .misses, d, i⟩) (h31 : ∀ i, P ⟨.ct .inFrame, d, i⟩) (h32 : ∀ i, P ⟨.sticky .fecSf, d, i⟩) (h33 : ∀ i, P ⟨.live .fecSf, d, i⟩) (h34 : ∀ i, P ⟨.fec .iterCap, d, i⟩) (h35 : ∀ i, P ⟨.fec .lockState, d, i⟩) (h36 : ∀ i, P ⟨.fec .failRun, d, i⟩) (h37 : ∀ i, P ⟨.fec .candAt, d, i⟩) (h38 : ∀ i, P ⟨.sticky .lrRxDown, d, i⟩) (h39 : ∀ i, P ⟨.live .lrRxDown, d, i⟩) (h40 : ∀ i, P ⟨.lr .fastRun, d, i⟩) (h41 : ∀ i, P ⟨.lr .eqValid, d, i⟩) (qreports : Q .reports) (qcands : Q .cands) :
    ∃ t, execRxPowerReturn d power s = .next t ∧ Reach P Q s0 t := by
  unfold execRxPowerReturn
  repeat' with_reducible first | assumption | apply finishIf_reach | apply State.lower_reach | apply State.setRxPower_reach | apply State.rxGo_reach | apply State.set_reach | apply State.holdToSignal_reach | (intros; show P _ = true; first | exact hsum _ rfl | (clear hsum; apply_assumption)) | split | dsimp only | intro _

theorem execAgcFastStep_reach {d : Nat} (hs : Reach P Q s0 s) (hsum : ∀ k, k.cell.summary → P k) (h11 : ∀ i, P ⟨.lr .nAgcFastStep, d, i⟩) (h12 : ∀ i, P ⟨.lr .tiaGain, d, i⟩) (qreports : Q .reports) :
    ∃ t, execAgcFastStep d s = .next t ∧ Reach P Q s0 t := by
  unfold execAgcFastStep
  repeat' with_reducible first | assumption | apply finishIf_reach | apply State.inc_reach | apply State.set_reach | (intros; show P _ = true; first | exact hsum _ rfl | (clear hsum; apply_assumption)) | split | dsimp only | intro _

theorem State.rxEnterLocked_reach {d : Nat} (hs : Reach P Q s0 s) (h1 : ∀ i, P ⟨.boot .procCalled, 0, i⟩) (h2 : ∀ i, P ⟨.boot .procCode, 0, i⟩) (h3 : ∀ i, P ⟨.boot .procDone, 0, i⟩) (h4 : ∀ i, P ⟨.lr .rxSf, d, i⟩) (h5 : ∀ i, P ⟨.lr .rxState, d, i⟩) (h6 : ∀ i, P ⟨.lr .missed, d, i⟩) (h7 : ∀ i, P ⟨.lr .winLocked, d, i⟩) (h8 : ∀ i, P ⟨.tim .evtNext, d, i⟩) (h9 : ∀ i, P ⟨.tim .evtAt, d, i⟩) (h10 : ∀ d i, P ⟨.sticky .ctnSf, d, i⟩) (h11 : ∀ d i, P ⟨.live .ctnSf, d, i⟩) (h12 : ∀ i, P ⟨.sticky .ctOof, d, i⟩) (h13 : ∀ i, P ⟨.live .ctOof, d, i⟩) (h14 : ∀ i, P ⟨.sticky .ctLof, d, i⟩) (h15 : ∀ i, P ⟨.live .ctLof, d, i⟩) (h16 : ∀ i, P ⟨.ct .candCount, d, i⟩) (h17 : ∀ i, P ⟨.ct .align, d, i⟩) (h18 : ∀ i, P ⟨.ct .lof, d, i⟩) (h19 : ∀ i, P ⟨.ct .nOofEnter, d, i⟩) (h20 : ∀ i, P ⟨.ct .mfasSeen, d, i⟩) (h21 : ∀ i, P ⟨.ct .misses, d, i⟩) (h22 : ∀ i, P ⟨.ct .inFrame, d, i⟩) (h23 : ∀ i, P ⟨.sticky .fecSf, d, i⟩) (h24 : ∀ i, P ⟨.live .fecSf, d, i⟩) (h25 : ∀ i, P ⟨.fec .iterCap, d, i⟩) (h26 : ∀ i, P ⟨.fec .lockState, d, i⟩) (h27 : ∀ i, P ⟨.fec .failRun, d, i⟩) (h28 : ∀ i, P ⟨.fec .candAt, d, i⟩) (h29 : ∀ i, P ⟨.sticky .lrRxDown, d, i⟩) (h30 : ∀ i, P ⟨.live .lrRxDown, d, i⟩) (h31 : ∀ i, P ⟨.lr .eqValid, d, i⟩) (h32 : ∀ i, P ⟨.lr .fastRun, d, i⟩) (h33 : ∀ i, P ⟨.lr .nRelockFast, d, i⟩) (h34 : ∀ i, P ⟨.live .lrAcqFailed, d, i⟩) (h35 : ∀ i, P ⟨.lr .acqRetryLeft, d, i⟩) (h36 : ∀ i, P ⟨.lr .everLocked, d, i⟩) (qreports : Q .reports) (qcands : Q .cands) :
    Reach P Q s0 (State.rxEnterLocked s d) := by
  unfold State.rxEnterLocked
  repeat' with_reducible first | assumption | apply State.acquireEnd_reach | apply State.rxGo_reach | apply State.set_reach | apply State.incIf_reach | apply State.lower_reach | (intros; show P _ = true; apply_assumption) | split | dsimp only | intro _

theorem State.acqPass_reach {d : Nat} {m : Sys2Proof.AcqMeas} (hs : Reach P Q s0 s) (h1 : ∀ i, P ⟨.lr .rxSf, d, i⟩) (h2 : ∀ i, P ⟨.lr .rxState, d, i⟩) (h3 : ∀ i, P ⟨.lr .missed, d, i⟩) (h4 : ∀ i, P ⟨.lr .winLocked, d, i⟩) (h5 : ∀ i, P ⟨.tim .evtNext, d, i⟩) (h6 : ∀ i, P ⟨.tim .evtAt, d, i⟩) (h7 : ∀ d i, P ⟨.sticky .ctnSf, d, i⟩) (h8 : ∀ d i, P ⟨.live .ctnSf, d, i⟩) (h9 : ∀ i, P ⟨.sticky .ctOof, d, i⟩) (h10 : ∀ i, P ⟨.live .ctOof, d, i⟩) (h11 : ∀ i, P ⟨.sticky .ctLof, d, i⟩) (h12 : ∀ i, P ⟨.live .ctLof, d, i⟩) (h13 : ∀ i, P ⟨.ct .candCount, d, i⟩) (h14 : ∀ i, P ⟨.ct .align, d, i⟩) (h15 : ∀ i, P ⟨.ct .lof, d, i⟩) (h16 : ∀ i, P ⟨.ct .nOofEnter, d, i⟩) (h17 : ∀ i, P ⟨.ct .mfasSeen, d, i⟩) (h18 : ∀ i, P ⟨.ct .misses, d, i⟩) (h19 : ∀ i, P ⟨.ct .inFrame, d, i⟩) (h20 : ∀ i, P ⟨.sticky .fecSf, d, i⟩) (h21 : ∀ i, P ⟨.live .fecSf, d, i⟩) (h22 : ∀ i, P ⟨.fec .iterCap, d, i⟩) (h23 : ∀ i, P ⟨.fec .lockState, d, i⟩) (h24 : ∀ i, P ⟨.fec .failRun, d, i⟩) (h25 : ∀ i, P ⟨.fec .candAt, d, i⟩) (h26 : ∀ i, P ⟨.sticky .lrRxDown, d, i⟩) (h27 : ∀ i, P ⟨.live .lrRxDown, d, i⟩) (h28 : ∀ i, P ⟨.live .lrLos, d, i⟩) (h29 : ∀ i, P ⟨.lr .tiaGain, d, i⟩) (h30 : ∀ i, P ⟨.lr .rxPower, d, i⟩) (h31 : ∀ i, P ⟨.sticky .lrCdNearLimit, d, i⟩) (h32 : ∀ i, P ⟨.live .lrCdNearLimit, d, i⟩) (h33 : ∀ i, P ⟨.lr .cdFilter, d, i⟩) (h34 : ∀ i, P ⟨.lr .cdEstValid, d, i⟩) (h35 : ∀ i, P ⟨.lr .cdEst, d, i⟩) (h36 : ∀ i, P ⟨.lr .xySwap, d, i⟩) (h37 : ∀ i, P ⟨.boot .procCalled, 0, i⟩) (h38 : ∀ i, P ⟨.boot .procCode, 0, i⟩) (h39 : ∀ i, P ⟨.boot .procDone, 0, i⟩) (h40 : ∀ i, P ⟨.lr .eqValid, d, i⟩) (h41 : ∀ i, P ⟨.lr .fastRun, d, i⟩) (h42 : ∀ i, P ⟨.lr .nRelockFast, d, i⟩) (h43 : ∀ i, P ⟨.live .lrAcqFailed, d, i⟩) (h44 : ∀ i, P ⟨.lr .acqRetryLeft, d, i⟩) (h45 : ∀ i, P ⟨.lr .everLocked, d, i⟩) (qreports : Q .reports) (qcands : Q .cands) :
    Reach P Q s0 (State.acqPass s d m) := by
  unfold State.acqPass
  repeat' with_reducible first | assumption | apply State.rxGo_reach | apply State.lower_reach | apply State.set_reach | apply State.setRxPower_reach | apply State.setCd_reach | apply State.setB_reach | apply State.rxEnterLocked_reach | (intros; show P _ = true; apply_assumption) | split | dsimp only | intro _

theorem execAcqStepPass_reach {d : Nat} {m : Sys2Proof.AcqMeas} (hs : Reach P Q s0 s) (hsum : ∀ k, k.cell.summary → P k) (h11 : ∀ i, P ⟨.lr .rxSf, d, i⟩) (h12 : ∀ i, P ⟨.lr .rxState, d, i⟩) (h13 : ∀ i, P ⟨.lr .missed, d, i⟩) (h14 : ∀ i, P ⟨.lr .winLocked, d, i⟩) (h15 : ∀ i, P ⟨.tim .evtNext, d, i⟩) (h16 : ∀ i, P ⟨.tim .evtAt, d, i⟩) (h17 : ∀ d i, P ⟨.sticky .ctnSf, d, i⟩) (h18 : ∀ d i, P ⟨.live .ctnSf, d, i⟩) (h19 : ∀ i, P ⟨.sticky .ctOof, d, i⟩) (h20 : ∀ i, P ⟨.live .ctOof, d, i⟩) (h21 : ∀ i, P ⟨.sticky .ctLof, d, i⟩) (h22 : ∀ i, P ⟨.live .ctLof, d, i⟩) (h23 : ∀ i, P ⟨.ct .candCount, d, i⟩) (h24 : ∀ i, P ⟨.ct .align, d, i⟩) (h25 : ∀ i, P ⟨.ct .lof, d, i⟩) (h26 : ∀ i, P ⟨.ct .nOofEnter, d, i⟩) (h27 : ∀ i, P ⟨.ct .mfasSeen, d, i⟩) (h28 : ∀ i, P ⟨.ct .misses, d, i⟩) (h29 : ∀ i, P ⟨.ct .inFrame, d, i⟩) (h30 : ∀ i, P ⟨.sticky .fecSf, d, i⟩) (h31 : ∀ i, P ⟨.live .fecSf, d, i⟩) (h32 : ∀ i, P ⟨.fec .iterCap, d, i⟩) (h33 : ∀ i, P ⟨.fec .lockState, d, i⟩) (h34 : ∀ i, P ⟨.fec .failRun, d, i⟩) (h35 : ∀ i, P ⟨.fec .candAt, d, i⟩) (h36 : ∀ i, P ⟨.sticky .lrRxDown, d, i⟩) (h37 : ∀ i, P ⟨.live .lrRxDown, d, i⟩) (h38 : ∀ i, P ⟨.live .lrLos, d, i⟩) (h39 : ∀ i, P ⟨.lr .tiaGain, d, i⟩) (h40 : ∀ i, P ⟨.lr .rxPower, d, i⟩) (h41 : ∀ i, P ⟨.sticky .lrCdNearLimit, d, i⟩) (h42 : ∀ i, P ⟨.live .lrCdNearLimit, d, i⟩) (h43 : ∀ i, P ⟨.lr .cdFilter, d, i⟩) (h44 : ∀ i, P ⟨.lr .cdEstValid, d, i⟩) (h45 : ∀ i, P ⟨.lr .cdEst, d, i⟩) (h46 : ∀ i, P ⟨.lr .xySwap, d, i⟩) (h47 : ∀ i, P ⟨.boot .procCalled, 0, i⟩) (h48 : ∀ i, P ⟨.boot .procCode, 0, i⟩) (h49 : ∀ i, P ⟨.boot .procDone, 0, i⟩) (h50 : ∀ i, P ⟨.lr .eqValid, d, i⟩) (h51 : ∀ i, P ⟨.lr .fastRun, d, i⟩) (h52 : ∀ i, P ⟨.lr .nRelockFast, d, i⟩) (h53 : ∀ i, P ⟨.live .lrAcqFailed, d, i⟩) (h54 : ∀ i, P ⟨.lr .acqRetryLeft, d, i⟩) (h55 : ∀ i, P ⟨.lr .everLocked, d, i⟩) (qreports : Q .reports) (qcands : Q .cands) :
    ∃ t, execAcqStepPass d m s = .next t ∧ Reach P Q s0 t := by
  unfold execAcqStepPass
  repeat' with_reducible first | assumption | apply finishIf_reach | apply State.acqPass_reach | (intros; show P _ = true; first | exact hsum _ rfl | (clear hsum; apply_assumption)) | split | dsimp only | intro _

theorem execRxPwrLow_reach {d : Nat} {holds : Bool} (hs : Reach P Q s0 s) (hsum : ∀ k, k.cell.summary → P k) (h11 : ∀ i, P ⟨.sticky .lrRxPwrLow, d, i⟩) (h12 : ∀ i, P ⟨.live .lrRxPwrLow, d, i⟩) (qreports : Q .reports) :
    ∃ t, execRxPwrLow d holds s = .next t ∧ Reach P Q s0 t := by
  unfold execRxPwrLow
  repeat' with_reducible first | assumption | apply finishIf_reach | apply State.cond_reach | (intros; show P _ = true; first | exact hsum _ rfl | (clear hsum; apply_assumption)) | split | dsimp only | intro _

theorem execAdcOverload_reach {d : Nat} {holds : Bool} (hs : Reach P Q s0 s) (hsum : ∀ k, k.cell.summary → P k) (h11 : ∀ i, P ⟨.sticky .lrAdcOverload, d, i⟩) (h12 : ∀ i, P ⟨.live .lrAdcOverload, d, i⟩) (qreports : Q .reports) :
    ∃ t, execAdcOverload d holds s = .next t ∧ Reach P Q s0 t := by
  unfold execAdcOverload
  repeat' with_reducible first | assumption | apply finishIf_reach | apply State.cond_reach | (intros; show P _ = true; first | exact hsum _ rfl | (clear hsum; apply_assumption)) | split | dsimp only | intro _

theorem execCycleSlip_reach {d : Nat} (hs : Reach P Q s0 s) (hsum : ∀ k, k.cell.summary → P k) (h11 : ∀ i, P ⟨.lr .nCycleSlip, d, i⟩) (h12 : ∀ i, P ⟨.sticky .lrCycleSlip, d, i⟩) (qreports : Q .reports) :
    ∃ t, execCycleSlip d s = .next t ∧ Reach P Q s0 t := by
  unfold execCycleSlip
  repeat' with_reducible first | assumption | apply finishIf_reach | apply State.inc_reach | apply State.event_reach | (intros; show P _ = true; first | exact hsum _ rfl | (clear hsum; apply_assumption)) | split | dsimp only | intro _

theorem execSyncLoss_reach {d : Nat} (hs : Reach P Q s0 s) (hsum : ∀ k, k.cell.summary → P k) (h11 : ∀ i, P ⟨.lr .rxSf, d, i⟩) (h12 : ∀ i, P ⟨.lr .rxState, d, i⟩) (h13 : ∀ i, P ⟨.lr .missed, d, i⟩) (h14 : ∀ i, P ⟨.lr .winLocked, d, i⟩) (h15 : ∀ i, P ⟨.tim .evtNext, d, i⟩) (h16 : ∀ i, P ⟨.tim .evtAt, d, i⟩) (h17 : ∀ d i, P ⟨.sticky .ctnSf, d, i⟩) (h18 : ∀ d i, P ⟨.live .ctnSf, d, i⟩) (h19 : ∀ i, P ⟨.sticky .ctOof, d, i⟩) (h20 : ∀ i, P ⟨.live .ctOof, d, i⟩) (h21 : ∀ i, P ⟨.sticky .ctLof, d, i⟩) (h22 : ∀ i, P ⟨.live .ctLof, d, i⟩) (h23 : ∀ i, P ⟨.ct .candCount, d, i⟩) (h24 : ∀ i, P ⟨.ct .align, d, i⟩) (h25 : ∀ i, P ⟨.ct .lof, d, i⟩) (h26 : ∀ i, P ⟨.ct .nOofEnter, d, i⟩) (h27 : ∀ i, P ⟨.ct .mfasSeen, d, i⟩) (h28 : ∀ i, P ⟨.ct .misses, d, i⟩) (h29 : ∀ i, P ⟨.ct .inFrame, d, i⟩) (h30 : ∀ i, P ⟨.sticky .fecSf, d, i⟩) (h31 : ∀ i, P ⟨.live .fecSf, d, i⟩) (h32 : ∀ i, P ⟨.fec .iterCap, d, i⟩) (h33 : ∀ i, P ⟨.fec .lockState, d, i⟩) (h34 : ∀ i, P ⟨.fec .failRun, d, i⟩) (h35 : ∀ i, P ⟨.fec .candAt, d, i⟩) (h36 : ∀ i, P ⟨.sticky .lrRxDown, d, i⟩) (h37 : ∀ i, P ⟨.live .lrRxDown, d, i⟩) (h38 : ∀ i, P ⟨.lr .nSyncLoss, d, i⟩) (h39 : ∀ i, P ⟨.sticky .lrSyncLoss, d, i⟩) (qreports : Q .reports) (qcands : Q .cands) :
    ∃ t, execSyncLoss d s = .next t ∧ Reach P Q s0 t := by
  unfold execSyncLoss
  repeat' with_reducible first | assumption | apply finishIf_reach | apply State.rxGo_reach | apply State.inc_reach | apply State.event_reach | (intros; show P _ = true; first | exact hsum _ rfl | (clear hsum; apply_assumption)) | split | dsimp only | intro _

theorem execAdcClipWindow_reach {d : Nat} {t1 : Nat} {clipped : Nat} (hs : Reach P Q s0 s) (hsum : ∀ k, k.cell.summary → P k) (h11 : ∀ i, P ⟨.lr .nAdcClip, d, i⟩) (h12 : ∀ i, P ⟨.sticky .lrAdcClipHi, d, i⟩) (qreports : Q .reports) :
    ∃ t, execAdcClipWindow d t1 clipped s = .next t ∧ Reach P Q s0 t := by
  unfold execAdcClipWindow
  repeat' with_reducible first | assumption | apply finishIf_reach | apply State.when_reach | apply State.add_reach | apply State.event_reach | (intros; show P _ = true; first | exact hsum _ rfl | (clear hsum; apply_assumption)) | split | dsimp only | intro _

theorem execEqSlip_reach {d : Nat} (hs : Reach P Q s0 s) (hsum : ∀ k, k.cell.summary → P k) (h11 : ∀ i, P ⟨.lr .rxSf, d, i⟩) (h12 : ∀ i, P ⟨.lr .rxState, d, i⟩) (h13 : ∀ i, P ⟨.lr .missed, d, i⟩) (h14 : ∀ i, P ⟨.lr .winLocked, d, i⟩) (h15 : ∀ i, P ⟨.tim .evtNext, d, i⟩) (h16 : ∀ i, P ⟨.tim .evtAt, d, i⟩) (h17 : ∀ d i, P ⟨.sticky .ctnSf, d, i⟩) (h18 : ∀ d i, P ⟨.live .ctnSf, d, i⟩) (h19 : ∀ i, P ⟨.sticky .ctOof, d, i⟩) (h20 : ∀ i, P ⟨.live .ctOof, d, i⟩) (h21 : ∀ i, P ⟨.sticky .ctLof, d, i⟩) (h22 : ∀ i, P ⟨.live .ctLof, d, i⟩) (h23 : ∀ i, P ⟨.ct .candCount, d, i⟩) (h24 : ∀ i, P ⟨.ct .align, d, i⟩) (h25 : ∀ i, P ⟨.ct .lof, d, i⟩) (h26 : ∀ i, P ⟨.ct .nOofEnter, d, i⟩) (h27 : ∀ i, P ⟨.ct .mfasSeen, d, i⟩) (h28 : ∀ i, P ⟨.ct .misses, d, i⟩) (h29 : ∀ i, P ⟨.ct .inFrame, d, i⟩) (h30 : ∀ i, P ⟨.sticky .fecSf, d, i⟩) (h31 : ∀ i, P ⟨.live .fecSf, d, i⟩) (h32 : ∀ i, P ⟨.fec .iterCap, d, i⟩) (h33 : ∀ i, P ⟨.fec .lockState, d, i⟩) (h34 : ∀ i, P ⟨.fec .failRun, d, i⟩) (h35 : ∀ i, P ⟨.fec .candAt, d, i⟩) (h36 : ∀ i, P ⟨.sticky .lrRxDown, d, i⟩) (h37 : ∀ i, P ⟨.live .lrRxDown, d, i⟩) (h38 : ∀ i, P ⟨.lr .nEqReinit, d, i⟩) (h39 : ∀ i, P ⟨.sticky .lrEqSlip, d, i⟩) (qreports : Q .reports) (qcands : Q .cands) :
    ∃ t, execEqSlip d s = .next t ∧ Reach P Q s0 t := by
  unfold execEqSlip
  repeat' with_reducible first | assumption | apply finishIf_reach | apply State.rxGo_reach | apply State.inc_reach | apply State.event_reach | (intros; show P _ = true; first | exact hsum _ rfl | (clear hsum; apply_assumption)) | split | dsimp only | intro _

end Sys2Proof.Machine
end

