-- ==== Sys2Proof/Laws/MovesDomains.lean ====
section
/-!
SUPPORT. What the operations of Machine/Domains.lean may change, one lemma each (Laws/Reach.lean).
-/
namespace Sys2Proof.Machine

set_option linter.unusedTactic false
set_option linter.unreachableTactic false

variable {P : Key → Bool} {Q : Part → Bool} {s0 s : State}

theorem State.diesReset_reach (hs : Reach P Q s0 s) (h1 : ∀ k, P k) (qmbox : Q .mbox) (qreports : Q .reports) (qheld : Q .held) (qtickets : Q .tickets) (qrun : Q .run) (qpolicy : Q .policy) (qimgPolicy : Q .imgPolicy) (qtrust : Q .trust) (qcands : Q .cands) (qtelOut : Q .telOut) (qclsTab : Q .clsTab) (qstaged : Q .staged) (qrings : Q .rings) (qtracker : Q .tracker) (qretireQ : Q .retireQ) (qmerge : Q .merge) (qdescs : Q .descs) (qkch : Q .kch) (qfups : Q .fups) :
    Reach P Q s0 (State.diesReset s) := by
  unfold State.diesReset
  have h : Reach P Q s0 ((s.clear (fun k => !k.cell.survives)).each (List.range 8) fun s d => s.phaseIdle d) :=
    State.each_reach (State.clear_reach hs fun k _ => h1 k) fun x a hx =>
      State.phaseIdle_reach hx (fun _ => h1 _) (fun _ => h1 _) (fun _ => h1 _) (fun _ => h1 _)
  have h2 := State.mbox_reach (m := []) h qmbox fun _ => rfl
  refine Reach.parts_only h2 rfl rfl ?_
  intro p hp
  cases p <;> first | (simp only [Part.same, implies_true]; done) | simp_all

theorem State.restart_reach (hs : Reach P Q s0 s) (h1 : ∀ k, P k) (qmbox : Q .mbox) (qreports : Q .reports) (qheld : Q .held) (qtickets : Q .tickets) (qrun : Q .run) (qpolicy : Q .policy) (qimgPolicy : Q .imgPolicy) (qtrust : Q .trust) (qcands : Q .cands) (qtelOut : Q .telOut) (qclsTab : Q .clsTab) (qstaged : Q .staged) (qrings : Q .rings) (qtracker : Q .tracker) (qretireQ : Q .retireQ) (qmerge : Q .merge) (qdescs : Q .descs) (qkch : Q .kch) (qfups : Q .fups) :
    Reach P Q s0 (State.restart s) := by
  unfold State.restart
  repeat' with_reducible first | assumption | apply State.set_reach | apply State.diesReset_reach | (intros; show P _ = true; apply_assumption) | split | dsimp only | intro _

theorem State.toStep1_reach (hs : Reach P Q s0 s) (h1 : ∀ k, P k) (qmbox : Q .mbox) (qreports : Q .reports) (qheld : Q .held) (qtickets : Q .tickets) (qrun : Q .run) (qpolicy : Q .policy) (qimgPolicy : Q .imgPolicy) (qtrust : Q .trust) (qcands : Q .cands) (qtelOut : Q .telOut) (qclsTab : Q .clsTab) (qstaged : Q .staged) (qrings : Q .rings) (qtracker : Q .tracker) (qretireQ : Q .retireQ) (qmerge : Q .merge) (qdescs : Q .descs) (qkch : Q .kch) (qfups : Q .fups) :
    Reach P Q s0 (State.toStep1 s) := by
  unfold State.toStep1
  repeat' with_reducible first | assumption | apply State.set_reach | apply State.diesReset_reach | (intros; show P _ = true; apply_assumption) | split | dsimp only | intro _

theorem State.diesOff_reach (hs : Reach P Q s0 s) (h1 : ∀ k, P k) (qmbox : Q .mbox) (qreports : Q .reports) (qheld : Q .held) (qtickets : Q .tickets) (qrun : Q .run) (qpolicy : Q .policy) (qimgPolicy : Q .imgPolicy) (qtrust : Q .trust) (qcands : Q .cands) (qtelOut : Q .telOut) (qclsTab : Q .clsTab) (qstaged : Q .staged) (qrings : Q .rings) (qtracker : Q .tracker) (qretireQ : Q .retireQ) (qmerge : Q .merge) (qdescs : Q .descs) (qkch : Q .kch) (qfups : Q .fups) :
    Reach P Q s0 (State.diesOff s) := by
  unfold State.diesOff
  repeat' with_reducible first | assumption | apply State.set_reach | apply State.toStep1_reach | (intros; show P _ = true; apply_assumption) | split | dsimp only | intro _

theorem State.dieGone_reach {d : Nat} (hs : Reach P Q s0 s) (h1 : ∀ c i, P ⟨c, d, i⟩) (qreports : Q .reports) (qheld : Q .held) (qcands : Q .cands) (qstaged : Q .staged) (qrings : Q .rings) (qtracker : Q .tracker) (qretireQ : Q .retireQ) (qmerge : Q .merge) (qdescs : Q .descs) (qfups : Q .fups) :
    Reach P Q s0 (State.dieGone s d) := by
  unfold State.dieGone
  refine Reach.parts_only (s := ((s.clear (fun k => decide (k.die = d) && k.cell.onDie && !k.cell.keptAsleep)).phaseIdle d)) ?_ rfl rfl ?_
  · refine State.phaseIdle_reach (State.clear_reach hs ?_) (fun _ => h1 _ _) (fun _ => h1 _ _) (fun _ => h1 _ _) (fun _ => h1 _ _)
    rintro ⟨c, e, i⟩ hk
    simp only [Bool.and_eq_true, decide_eq_true_eq] at hk
    obtain ⟨⟨rfl, _⟩, _⟩ := hk
    exact h1 _ _
  · intro p hp
    cases p <;> first | (simp only [Part.same, implies_true]; done) | simp_all

theorem State.aoLost_reach (hs : Reach P Q s0 s) (h1 : ∀ k, P k) (qmbox : Q .mbox) (qreports : Q .reports) (qheld : Q .held) (qtickets : Q .tickets) (qrun : Q .run) (qpolicy : Q .policy) (qimgPolicy : Q .imgPolicy) (qtrust : Q .trust) (qcands : Q .cands) (qtelOut : Q .telOut) (qclsTab : Q .clsTab) (qstaged : Q .staged) (qrings : Q .rings) (qtracker : Q .tracker) (qretireQ : Q .retireQ) (qmerge : Q .merge) (qdescs : Q .descs) (qkch : Q .kch) (qfups : Q .fups) :
    Reach P Q s0 (State.aoLost s) := by
  unfold State.aoLost
  refine State.set_reach (State.clear_reach (State.diesReset_reach hs h1 ?_ ?_ ?_ ?_ ?_ ?_ ?_ ?_ ?_ ?_ ?_ ?_ ?_ ?_ ?_ ?_ ?_ ?_ ?_) fun k _ => h1 k) (h1 _) <;> assumption

end Sys2Proof.Machine
end

