-- ==== Sys2Proof/Laws/MovesHostLanes.lean ====
section
/-!
SUPPORT. What the operations of Machine/HostLanes.lean may change, one lemma each (Laws/Reach.lean).
-/
namespace Sys2Proof.Machine

set_option linter.unusedTactic false
set_option linter.unreachableTactic false

variable {P : Key → Bool} {Q : Part → Bool} {s0 s : State}

theorem State.laneSearch_reach {d : Nat} {l : Nat} (hs : Reach P Q s0 s) (h1 : ∀ i, P ⟨.hl .readyLeft, d, i⟩) (h2 : ∀ i, P ⟨.hl .readyRun, d, i⟩) (h3 : ∀ i, P ⟨.hl .rxReady, d, i⟩) (h4 : ∀ i, P ⟨.hl .badRun, d, i⟩) (h5 : ∀ i, P ⟨.hl .goodRun, d, i⟩) (h6 : ∀ i, P ⟨.hl .fLock, d, i⟩) :
    Reach P Q s0 (State.laneSearch s d l) := by
  unfold State.laneSearch
  repeat' with_reducible first | assumption | apply State.set_reach | (intros; show P _ = true; apply_assumption) | split | dsimp only | intro _

theorem State.laneForget_reach {d : Nat} {l : Nat} (hs : Reach P Q s0 s) (h1 : ∀ i, P ⟨.hl .idleRun, d, i⟩) (h2 : ∀ i, P ⟨.hl .keep, d, i⟩) (h3 : ∀ i, P ⟨.hl .relock, d, i⟩) (h4 : ∀ i, P ⟨.hl .waitSig, d, i⟩) (h5 : ∀ i, P ⟨.hl .reqResult, d, i⟩) (h6 : ∀ i, P ⟨.hl .reqSeq, d, i⟩) (h7 : ∀ i, P ⟨.hl .stepFails, d, i⟩) (h8 : ∀ i, P ⟨.hl .fellBack, d, i⟩) (h9 : ∀ i, P ⟨.hl .switched, d, i⟩) (h10 : ∀ i, P ⟨.hl .preNext, d, i⟩) (h11 : ∀ i, P ⟨.hl .farCount, d, i⟩) (h12 : ∀ i, P ⟨.hl .countdown, d, i⟩) (h13 : ∀ i, P ⟨.hl .farPreCap, d, i⟩) (h14 : ∀ i, P ⟨.hl .capsRun, d, i⟩) (h15 : ∀ i, P ⟨.hl .readyLeft, d, i⟩) (h16 : ∀ i, P ⟨.hl .readyRun, d, i⟩) (h17 : ∀ i, P ⟨.hl .rxReady, d, i⟩) (h18 : ∀ i, P ⟨.hl .badRun, d, i⟩) (h19 : ∀ i, P ⟨.hl .goodRun, d, i⟩) (h20 : ∀ i, P ⟨.hl .fLock, d, i⟩) :
    Reach P Q s0 (State.laneForget s d l) := by
  unfold State.laneForget
  repeat' with_reducible first | assumption | apply State.set_reach | apply State.laneSearch_reach | (intros; show P _ = true; apply_assumption) | split | dsimp only | intro _

theorem State.laneIdle_reach {d : Nat} {l : Nat} {keep : Bool} (hs : Reach P Q s0 s) (h1 : ∀ i, P ⟨.hl .keep, d, i⟩) (h2 : ∀ i, P ⟨.hl .state, d, i⟩) (h3 : ∀ i, P ⟨.hl .idleRun, d, i⟩) (h4 : ∀ i, P ⟨.hl .relock, d, i⟩) (h5 : ∀ i, P ⟨.hl .waitSig, d, i⟩) (h6 : ∀ i, P ⟨.hl .reqResult, d, i⟩) (h7 : ∀ i, P ⟨.hl .reqSeq, d, i⟩) (h8 : ∀ i, P ⟨.hl .stepFails, d, i⟩) (h9 : ∀ i, P ⟨.hl .fellBack, d, i⟩) (h10 : ∀ i, P ⟨.hl .switched, d, i⟩) (h11 : ∀ i, P ⟨.hl .preNext, d, i⟩) (h12 : ∀ i, P ⟨.hl .farCount, d, i⟩) (h13 : ∀ i, P ⟨.hl .countdown, d, i⟩) (h14 : ∀ i, P ⟨.hl .farPreCap, d, i⟩) (h15 : ∀ i, P ⟨.hl .capsRun, d, i⟩) (h16 : ∀ i, P ⟨.hl .readyLeft, d, i⟩) (h17 : ∀ i, P ⟨.hl .readyRun, d, i⟩) (h18 : ∀ i, P ⟨.hl .rxReady, d, i⟩) (h19 : ∀ i, P ⟨.hl .badRun, d, i⟩) (h20 : ∀ i, P ⟨.hl .goodRun, d, i⟩) (h21 : ∀ i, P ⟨.hl .fLock, d, i⟩) :
    Reach P Q s0 (State.laneIdle s d l keep) := by
  unfold State.laneIdle
  repeat' with_reducible first | assumption | apply State.setB_reach | apply State.set_reach | apply State.laneForget_reach | (intros; show P _ = true; apply_assumption) | split | dsimp only | intro _

theorem State.gearsCheck_reach {d : Nat} (hs : Reach P Q s0 s) (h1 : ∀ i, P ⟨.boot .procCalled, 0, i⟩) (h2 : ∀ i, P ⟨.boot .procCode, 0, i⟩) (h3 : ∀ i, P ⟨.boot .procDone, 0, i⟩) :
    Reach P Q s0 (State.gearsCheck s d) := by
  unfold State.gearsCheck
  repeat' with_reducible first | assumption | apply State.when_reach | apply State.procEnd_reach | (intros; show P _ = true; apply_assumption) | split | dsimp only | intro _

theorem State.portCorr_reach {d : Nat} {p : Nat} (hs : Reach P Q s0 s) (h1 : ∀ i, P ⟨.hl .corrTx, d, i⟩) (h2 : ∀ i, P ⟨.hl .corrRx, d, i⟩) :
    Reach P Q s0 (State.portCorr s d p) := by
  unfold State.portCorr
  repeat' with_reducible first | assumption | apply State.set_reach | (intros; show P _ = true; apply_assumption) | split | dsimp only | intro _

theorem State.portRefresh_reach {d : Nat} {p : Nat} (hs : Reach P Q s0 s) (h1 : ∀ i, P ⟨.sticky .hlpLinkDown, d, i⟩) (h2 : ∀ i, P ⟨.live .hlpLinkDown, d, i⟩) (h3 : ∀ i, P ⟨.hl .pGear, d, i⟩) (h4 : ∀ i, P ⟨.hl .pState, d, i⟩) (h5 : ∀ i, P ⟨.boot .procCalled, 0, i⟩) (h6 : ∀ i, P ⟨.boot .procCode, 0, i⟩) (h7 : ∀ i, P ⟨.boot .procDone, 0, i⟩) (h8 : ∀ i, P ⟨.hl .corrTx, d, i⟩) (h9 : ∀ i, P ⟨.hl .corrRx, d, i⟩) (qreports : Q .reports) :
    Reach P Q s0 (State.portRefresh s d p) := by
  unfold State.portRefresh
  repeat' with_reducible first | assumption | apply State.cond_reach | apply State.set_reach | apply State.gearsCheck_reach | apply State.portCorr_reach | (intros; show P _ = true; apply_assumption) | split | dsimp only | intro _

theorem State.portIdle_reach {d : Nat} {p : Nat} (hs : Reach P Q s0 s) (h1 : ∀ i, P ⟨.sticky .hlpLinkDown, d, i⟩) (h2 : ∀ i, P ⟨.live .hlpLinkDown, d, i⟩) (h3 : ∀ i, P ⟨.hl .pGear, d, i⟩) (h4 : ∀ i, P ⟨.hl .pState, d, i⟩) (h5 : ∀ i, P ⟨.boot .procCalled, 0, i⟩) (h6 : ∀ i, P ⟨.boot .procCode, 0, i⟩) (h7 : ∀ i, P ⟨.boot .procDone, 0, i⟩) (h8 : ∀ i, P ⟨.hl .corrTx, d, i⟩) (h9 : ∀ i, P ⟨.hl .corrRx, d, i⟩) (h10 : ∀ i, P ⟨.hl .idleReq, d, i⟩) (h11 : ∀ i, P ⟨.hl .keep, d, i⟩) (h12 : ∀ i, P ⟨.hl .state, d, i⟩) (h13 : ∀ i, P ⟨.hl .idleRun, d, i⟩) (h14 : ∀ i, P ⟨.hl .relock, d, i⟩) (h15 : ∀ i, P ⟨.hl .waitSig, d, i⟩) (h16 : ∀ i, P ⟨.hl .reqResult, d, i⟩) (h17 : ∀ i, P ⟨.hl .reqSeq, d, i⟩) (h18 : ∀ i, P ⟨.hl .stepFails, d, i⟩) (h19 : ∀ i, P ⟨.hl .fellBack, d, i⟩) (h20 : ∀ i, P ⟨.hl .switched, d, i⟩) (h21 : ∀ i, P ⟨.hl .preNext, d, i⟩) (h22 : ∀ i, P ⟨.hl .farCount, d, i⟩) (h23 : ∀ i, P ⟨.hl .countdown, d, i⟩) (h24 : ∀ i, P ⟨.hl .farPreCap, d, i⟩) (h25 : ∀ i, P ⟨.hl .capsRun, d, i⟩) (h26 : ∀ i, P ⟨.hl .readyLeft, d, i⟩) (h27 : ∀ i, P ⟨.hl .readyRun, d, i⟩) (h28 : ∀ i, P ⟨.hl .rxReady, d, i⟩) (h29 : ∀ i, P ⟨.hl .badRun, d, i⟩) (h30 : ∀ i, P ⟨.hl .goodRun, d, i⟩) (h31 : ∀ i, P ⟨.hl .fLock, d, i⟩) (qreports : Q .reports) :
    Reach P Q s0 (State.portIdle s d p) := by
  unfold State.portIdle
  repeat' with_reducible first | assumption | apply State.portRefresh_reach | apply State.each_reach | apply State.set_reach | apply State.laneIdle_reach | (intros; show P _ = true; apply_assumption) | split | dsimp only | intro _

theorem State.setTaps_reach {d : Nat} {l : Nat} {t1 : Nat × Nat × Nat} (hs : Reach P Q s0 s) (h1 : ∀ i, P ⟨.hl .eqCp1, d, i⟩) (h2 : ∀ i, P ⟨.hl .eqCm1, d, i⟩) (h3 : ∀ i, P ⟨.hl .eqCm2, d, i⟩) :
    Reach P Q s0 (State.setTaps s d l t1) := by
  unfold State.setTaps
  repeat' with_reducible first | assumption | apply State.set_reach | (intros; show P _ = true; apply_assumption) | split | dsimp only | intro _

theorem State.laneForced_reach {d : Nat} {l : Nat} (hs : Reach P Q s0 s) (h1 : ∀ i, P ⟨.hl .cdrLock, d, i⟩) (h2 : ∀ i, P ⟨.hl .preRx, d, i⟩) (h3 : ∀ i, P ⟨.hl .preTx, d, i⟩) (h4 : ∀ i, P ⟨.hl .eqCp1, d, i⟩) (h5 : ∀ i, P ⟨.hl .eqCm1, d, i⟩) (h6 : ∀ i, P ⟨.hl .eqCm2, d, i⟩) (h7 : ∀ i, P ⟨.hl .gear, d, i⟩) (h8 : ∀ i, P ⟨.hl .state, d, i⟩) (h9 : ∀ i, P ⟨.hl .idleRun, d, i⟩) (h10 : ∀ i, P ⟨.hl .keep, d, i⟩) (h11 : ∀ i, P ⟨.hl .relock, d, i⟩) (h12 : ∀ i, P ⟨.hl .waitSig, d, i⟩) (h13 : ∀ i, P ⟨.hl .reqResult, d, i⟩) (h14 : ∀ i, P ⟨.hl .reqSeq, d, i⟩) (h15 : ∀ i, P ⟨.hl .stepFails, d, i⟩) (h16 : ∀ i, P ⟨.hl .fellBack, d, i⟩) (h17 : ∀ i, P ⟨.hl .switched, d, i⟩) (h18 : ∀ i, P ⟨.hl .preNext, d, i⟩) (h19 : ∀ i, P ⟨.hl .farCount, d, i⟩) (h20 : ∀ i, P ⟨.hl .countdown, d, i⟩) (h21 : ∀ i, P ⟨.hl .farPreCap, d, i⟩) (h22 : ∀ i, P ⟨.hl .capsRun, d, i⟩) (h23 : ∀ i, P ⟨.hl .readyLeft, d, i⟩) (h24 : ∀ i, P ⟨.hl .readyRun, d, i⟩) (h25 : ∀ i, P ⟨.hl .rxReady, d, i⟩) (h26 : ∀ i, P ⟨.hl .badRun, d, i⟩) (h27 : ∀ i, P ⟨.hl .goodRun, d, i⟩) (h28 : ∀ i, P ⟨.hl .fLock, d, i⟩) :
    Reach P Q s0 (State.laneForced s d l) := by
  unfold State.laneForced
  repeat' with_reducible first | assumption | apply State.set_reach | apply State.setTaps_reach | apply State.laneForget_reach | (intros; show P _ = true; apply_assumption) | split | dsimp only | intro _

theorem State.laneNegotiate_reach {d : Nat} {l : Nat} (hs : Reach P Q s0 s) (h1 : ∀ i, P ⟨.hl .nNegAttempt, d, i⟩) (h2 : ∀ i, P ⟨.hl .cdrLock, d, i⟩) (h3 : ∀ i, P ⟨.hl .preRx, d, i⟩) (h4 : ∀ i, P ⟨.hl .preTx, d, i⟩) (h5 : ∀ i, P ⟨.hl .eqCp1, d, i⟩) (h6 : ∀ i, P ⟨.hl .eqCm1, d, i⟩) (h7 : ∀ i, P ⟨.hl .eqCm2, d, i⟩) (h8 : ∀ i, P ⟨.hl .gear, d, i⟩) (h9 : ∀ i, P ⟨.hl .state, d, i⟩) (h10 : ∀ i, P ⟨.hl .idleRun, d, i⟩) (h11 : ∀ i, P ⟨.hl .keep, d, i⟩) (h12 : ∀ i, P ⟨.hl .relock, d, i⟩) (h13 : ∀ i, P ⟨.hl .waitSig, d, i⟩) (h14 : ∀ i, P ⟨.hl .reqResult, d, i⟩) (h15 : ∀ i, P ⟨.hl .reqSeq, d, i⟩) (h16 : ∀ i, P ⟨.hl .stepFails, d, i⟩) (h17 : ∀ i, P ⟨.hl .fellBack, d, i⟩) (h18 : ∀ i, P ⟨.hl .switched, d, i⟩) (h19 : ∀ i, P ⟨.hl .preNext, d, i⟩) (h20 : ∀ i, P ⟨.hl .farCount, d, i⟩) (h21 : ∀ i, P ⟨.hl .countdown, d, i⟩) (h22 : ∀ i, P ⟨.hl .farPreCap, d, i⟩) (h23 : ∀ i, P ⟨.hl .capsRun, d, i⟩) (h24 : ∀ i, P ⟨.hl .readyLeft, d, i⟩) (h25 : ∀ i, P ⟨.hl .readyRun, d, i⟩) (h26 : ∀ i, P ⟨.hl .rxReady, d, i⟩) (h27 : ∀ i, P ⟨.hl .badRun, d, i⟩) (h28 : ∀ i, P ⟨.hl .goodRun, d, i⟩) (h29 : ∀ i, P ⟨.hl .fLock, d, i⟩) :
    Reach P Q s0 (State.laneNegotiate s d l) := by
  unfold State.laneNegotiate
  repeat' with_reducible first | assumption | apply State.inc_reach | apply State.set_reach | apply State.setTaps_reach | apply State.laneForget_reach | (intros; show P _ = true; apply_assumption) | split | dsimp only | intro _

theorem State.laneStart_reach {d : Nat} {l : Nat} (hs : Reach P Q s0 s) (h1 : ∀ i, P ⟨.hl .state, d, i⟩) (h2 : ∀ i, P ⟨.hl .cdrLock, d, i⟩) (h3 : ∀ i, P ⟨.hl .preRx, d, i⟩) (h4 : ∀ i, P ⟨.hl .preTx, d, i⟩) (h5 : ∀ i, P ⟨.hl .eqCp1, d, i⟩) (h6 : ∀ i, P ⟨.hl .eqCm1, d, i⟩) (h7 : ∀ i, P ⟨.hl .eqCm2, d, i⟩) (h8 : ∀ i, P ⟨.hl .gear, d, i⟩) (h9 : ∀ i, P ⟨.hl .idleRun, d, i⟩) (h10 : ∀ i, P ⟨.hl .keep, d, i⟩) (h11 : ∀ i, P ⟨.hl .relock, d, i⟩) (h12 : ∀ i, P ⟨.hl .waitSig, d, i⟩) (h13 : ∀ i, P ⟨.hl .reqResult, d, i⟩) (h14 : ∀ i, P ⟨.hl .reqSeq, d, i⟩) (h15 : ∀ i, P ⟨.hl .stepFails, d, i⟩) (h16 : ∀ i, P ⟨.hl .fellBack, d, i⟩) (h17 : ∀ i, P ⟨.hl .switched, d, i⟩) (h18 : ∀ i, P ⟨.hl .preNext, d, i⟩) (h19 : ∀ i, P ⟨.hl .farCount, d, i⟩) (h20 : ∀ i, P ⟨.hl .countdown, d, i⟩) (h21 : ∀ i, P ⟨.hl .farPreCap, d, i⟩) (h22 : ∀ i, P ⟨.hl .capsRun, d, i⟩) (h23 : ∀ i, P ⟨.hl .readyLeft, d, i⟩) (h24 : ∀ i, P ⟨.hl .readyRun, d, i⟩) (h25 : ∀ i, P ⟨.hl .rxReady, d, i⟩) (h26 : ∀ i, P ⟨.hl .badRun, d, i⟩) (h27 : ∀ i, P ⟨.hl .goodRun, d, i⟩) (h28 : ∀ i, P ⟨.hl .fLock, d, i⟩) (h29 : ∀ i, P ⟨.hl .nNegAttempt, d, i⟩) :
    Reach P Q s0 (State.laneStart s d l) := by
  unfold State.laneStart
  repeat' with_reducible first | assumption | apply State.set_reach | apply State.laneForced_reach | apply State.laneNegotiate_reach | (intros; show P _ = true; apply_assumption) | split | dsimp only | intro _

theorem State.portStart_reach {d : Nat} {p : Nat} (hs : Reach P Q s0 s) (h1 : ∀ i, P ⟨.hl .portEn, d, i⟩) (h2 : ∀ i, P ⟨.sticky .hlpLinkDown, d, i⟩) (h3 : ∀ i, P ⟨.live .hlpLinkDown, d, i⟩) (h4 : ∀ i, P ⟨.hl .pGear, d, i⟩) (h5 : ∀ i, P ⟨.hl .pState, d, i⟩) (h6 : ∀ i, P ⟨.boot .procCalled, 0, i⟩) (h7 : ∀ i, P ⟨.boot .procCode, 0, i⟩) (h8 : ∀ i, P ⟨.boot .procDone, 0, i⟩) (h9 : ∀ i, P ⟨.hl .corrTx, d, i⟩) (h10 : ∀ i, P ⟨.hl .corrRx, d, i⟩) (h11 : ∀ i, P ⟨.hl .state, d, i⟩) (h12 : ∀ i, P ⟨.hl .cdrLock, d, i⟩) (h13 : ∀ i, P ⟨.hl .preRx, d, i⟩) (h14 : ∀ i, P ⟨.hl .preTx, d, i⟩) (h15 : ∀ i, P ⟨.hl .eqCp1, d, i⟩) (h16 : ∀ i, P ⟨.hl .eqCm1, d, i⟩) (h17 : ∀ i, P ⟨.hl .eqCm2, d, i⟩) (h18 : ∀ i, P ⟨.hl .gear, d, i⟩) (h19 : ∀ i, P ⟨.hl .idleRun, d, i⟩) (h20 : ∀ i, P ⟨.hl .keep, d, i⟩) (h21 : ∀ i, P ⟨.hl .relock, d, i⟩) (h22 : ∀ i, P ⟨.hl .waitSig, d, i⟩) (h23 : ∀ i, P ⟨.hl .reqResult, d, i⟩) (h24 : ∀ i, P ⟨.hl .reqSeq, d, i⟩) (h25 : ∀ i, P ⟨.hl .stepFails, d, i⟩) (h26 : ∀ i, P ⟨.hl .fellBack, d, i⟩) (h27 : ∀ i, P ⟨.hl .switched, d, i⟩) (h28 : ∀ i, P ⟨.hl .preNext, d, i⟩) (h29 : ∀ i, P ⟨.hl .farCount, d, i⟩) (h30 : ∀ i, P ⟨.hl .countdown, d, i⟩) (h31 : ∀ i, P ⟨.hl .farPreCap, d, i⟩) (h32 : ∀ i, P ⟨.hl .capsRun, d, i⟩) (h33 : ∀ i, P ⟨.hl .readyLeft, d, i⟩) (h34 : ∀ i, P ⟨.hl .readyRun, d, i⟩) (h35 : ∀ i, P ⟨.hl .rxReady, d, i⟩) (h36 : ∀ i, P ⟨.hl .badRun, d, i⟩) (h37 : ∀ i, P ⟨.hl .goodRun, d, i⟩) (h38 : ∀ i, P ⟨.hl .fLock, d, i⟩) (h39 : ∀ i, P ⟨.hl .nNegAttempt, d, i⟩) (qreports : Q .reports) :
    Reach P Q s0 (State.portStart s d p) := by
  unfold State.portStart
  repeat' with_reducible first | assumption | apply State.set_reach | apply State.portRefresh_reach | apply State.each_reach | apply State.laneStart_reach | (intros; show P _ = true; apply_assumption) | split | dsimp only | intro _

theorem State.laneDone_reach {d : Nat} {l : Nat} (hs : Reach P Q s0 s) (h1 : ∀ i, P ⟨.sticky .hlpLinkDown, d, i⟩) (h2 : ∀ i, P ⟨.live .hlpLinkDown, d, i⟩) (h3 : ∀ i, P ⟨.hl .pGear, d, i⟩) (h4 : ∀ i, P ⟨.hl .pState, d, i⟩) (h5 : ∀ i, P ⟨.boot .procCalled, 0, i⟩) (h6 : ∀ i, P ⟨.boot .procCode, 0, i⟩) (h7 : ∀ i, P ⟨.boot .procDone, 0, i⟩) (h8 : ∀ i, P ⟨.hl .corrTx, d, i⟩) (h9 : ∀ i, P ⟨.hl .corrRx, d, i⟩) (qreports : Q .reports) :
    Reach P Q s0 (State.laneDone s d l) := by
  unfold State.laneDone
  repeat' with_reducible first | assumption | apply State.portRefresh_reach | (intros; show P _ = true; apply_assumption) | split | dsimp only | intro _

theorem State.laneUp_reach {d : Nat} {l : Nat} (hs : Reach P Q s0 s) (h1 : ∀ i, P ⟨.sticky .hlpLinkDown, d, i⟩) (h2 : ∀ i, P ⟨.live .hlpLinkDown, d, i⟩) (h3 : ∀ i, P ⟨.hl .pGear, d, i⟩) (h4 : ∀ i, P ⟨.hl .pState, d, i⟩) (h5 : ∀ i, P ⟨.boot .procCalled, 0, i⟩) (h6 : ∀ i, P ⟨.boot .procCode, 0, i⟩) (h7 : ∀ i, P ⟨.boot .procDone, 0, i⟩) (h8 : ∀ i, P ⟨.hl .corrTx, d, i⟩) (h9 : ∀ i, P ⟨.hl .corrRx, d, i⟩) (h10 : ∀ i, P ⟨.live .hllLol, d, i⟩) (h11 : ∀ i, P ⟨.hl .cdrLock, d, i⟩) (h12 : ∀ i, P ⟨.hl .sig, d, i⟩) (h13 : ∀ i, P ⟨.hl .idleRun, d, i⟩) (h14 : ∀ i, P ⟨.hl .keep, d, i⟩) (h15 : ∀ i, P ⟨.hl .relock, d, i⟩) (h16 : ∀ i, P ⟨.hl .state, d, i⟩) (qreports : Q .reports) :
    Reach P Q s0 (State.laneUp s d l) := by
  unfold State.laneUp
  repeat' with_reducible first | assumption | apply State.laneDone_reach | apply State.lower_reach | apply State.set_reach | (intros; show P _ = true; apply_assumption) | split | dsimp only | intro _

theorem State.portWake_reach {d : Nat} {p : Nat} (hs : Reach P Q s0 s) (h1 : ∀ i, P ⟨.sticky .hlpLinkDown, d, i⟩) (h2 : ∀ i, P ⟨.live .hlpLinkDown, d, i⟩) (h3 : ∀ i, P ⟨.hl .pGear, d, i⟩) (h4 : ∀ i, P ⟨.hl .pState, d, i⟩) (h5 : ∀ i, P ⟨.boot .procCalled, 0, i⟩) (h6 : ∀ i, P ⟨.boot .procCode, 0, i⟩) (h7 : ∀ i, P ⟨.boot .procDone, 0, i⟩) (h8 : ∀ i, P ⟨.hl .corrTx, d, i⟩) (h9 : ∀ i, P ⟨.hl .corrRx, d, i⟩) (h10 : ∀ i, P ⟨.hl .idleReq, d, i⟩) (h11 : ∀ i, P ⟨.live .hllLol, d, i⟩) (h12 : ∀ i, P ⟨.hl .cdrLock, d, i⟩) (h13 : ∀ i, P ⟨.hl .sig, d, i⟩) (h14 : ∀ i, P ⟨.hl .idleRun, d, i⟩) (h15 : ∀ i, P ⟨.hl .keep, d, i⟩) (h16 : ∀ i, P ⟨.hl .relock, d, i⟩) (h17 : ∀ i, P ⟨.hl .state, d, i⟩) (h18 : ∀ i, P ⟨.hl .nIdleExit, d, i⟩) (h19 : ∀ i, P ⟨.hl .preRx, d, i⟩) (h20 : ∀ i, P ⟨.hl .preTx, d, i⟩) (h21 : ∀ i, P ⟨.hl .eqCp1, d, i⟩) (h22 : ∀ i, P ⟨.hl .eqCm1, d, i⟩) (h23 : ∀ i, P ⟨.hl .eqCm2, d, i⟩) (h24 : ∀ i, P ⟨.hl .gear, d, i⟩) (h25 : ∀ i, P ⟨.hl .waitSig, d, i⟩) (h26 : ∀ i, P ⟨.hl .reqResult, d, i⟩) (h27 : ∀ i, P ⟨.hl .reqSeq, d, i⟩) (h28 : ∀ i, P ⟨.hl .stepFails, d, i⟩) (h29 : ∀ i, P ⟨.hl .fellBack, d, i⟩) (h30 : ∀ i, P ⟨.hl .switched, d, i⟩) (h31 : ∀ i, P ⟨.hl .preNext, d, i⟩) (h32 : ∀ i, P ⟨.hl .farCount, d, i⟩) (h33 : ∀ i, P ⟨.hl .countdown, d, i⟩) (h34 : ∀ i, P ⟨.hl .farPreCap, d, i⟩) (h35 : ∀ i, P ⟨.hl .capsRun, d, i⟩) (h36 : ∀ i, P ⟨.hl .readyLeft, d, i⟩) (h37 : ∀ i, P ⟨.hl .readyRun, d, i⟩) (h38 : ∀ i, P ⟨.hl .rxReady, d, i⟩) (h39 : ∀ i, P ⟨.hl .badRun, d, i⟩) (h40 : ∀ i, P ⟨.hl .goodRun, d, i⟩) (h41 : ∀ i, P ⟨.hl .fLock, d, i⟩) (h42 : ∀ i, P ⟨.hl .nNegAttempt, d, i⟩) (qreports : Q .reports) :
    Reach P Q s0 (State.portWake s d p) := by
  unfold State.portWake
  repeat' with_reducible first | assumption | apply State.portRefresh_reach | apply State.each_reach | apply State.set_reach | apply State.laneUp_reach | apply State.inc_reach | apply State.laneStart_reach | (intros; show P _ = true; apply_assumption) | split | dsimp only | intro _

theorem State.laneOff_reach {d : Nat} {l : Nat} (hs : Reach P Q s0 s) (h1 : ∀ i, P ⟨.live .hllLol, d, i⟩) (h2 : ∀ i, P ⟨.live .hllLos, d, i⟩) (h3 : ∀ i, P ⟨.hl .sig, d, i⟩) (h4 : ∀ i, P ⟨.hl .cdrLock, d, i⟩) (h5 : ∀ i, P ⟨.hl .preRx, d, i⟩) (h6 : ∀ i, P ⟨.hl .preTx, d, i⟩) (h7 : ∀ i, P ⟨.hl .eqCp1, d, i⟩) (h8 : ∀ i, P ⟨.hl .eqCm1, d, i⟩) (h9 : ∀ i, P ⟨.hl .eqCm2, d, i⟩) (h10 : ∀ i, P ⟨.hl .gear, d, i⟩) (h11 : ∀ i, P ⟨.hl .state, d, i⟩) (h12 : ∀ i, P ⟨.hl .idleRun, d, i⟩) (h13 : ∀ i, P ⟨.hl .keep, d, i⟩) (h14 : ∀ i, P ⟨.hl .relock, d, i⟩) (h15 : ∀ i, P ⟨.hl .waitSig, d, i⟩) (h16 : ∀ i, P ⟨.hl .reqResult, d, i⟩) (h17 : ∀ i, P ⟨.hl .reqSeq, d, i⟩) (h18 : ∀ i, P ⟨.hl .stepFails, d, i⟩) (h19 : ∀ i, P ⟨.hl .fellBack, d, i⟩) (h20 : ∀ i, P ⟨.hl .switched, d, i⟩) (h21 : ∀ i, P ⟨.hl .preNext, d, i⟩) (h22 : ∀ i, P ⟨.hl .farCount, d, i⟩) (h23 : ∀ i, P ⟨.hl .countdown, d, i⟩) (h24 : ∀ i, P ⟨.hl .farPreCap, d, i⟩) (h25 : ∀ i, P ⟨.hl .capsRun, d, i⟩) (h26 : ∀ i, P ⟨.hl .readyLeft, d, i⟩) (h27 : ∀ i, P ⟨.hl .readyRun, d, i⟩) (h28 : ∀ i, P ⟨.hl .rxReady, d, i⟩) (h29 : ∀ i, P ⟨.hl .badRun, d, i⟩) (h30 : ∀ i, P ⟨.hl .goodRun, d, i⟩) (h31 : ∀ i, P ⟨.hl .fLock, d, i⟩) (qreports : Q .reports) :
    Reach P Q s0 (State.laneOff s d l) := by
  unfold State.laneOff
  repeat' with_reducible first | assumption | apply State.lower_reach | apply State.set_reach | apply State.setTaps_reach | apply State.laneForget_reach | (intros; show P _ = true; apply_assumption) | split | dsimp only | intro _

theorem State.portStop_reach {d : Nat} {p : Nat} (hs : Reach P Q s0 s) (h1 : ∀ i, P ⟨.live .hlpFecDegrade, d, i⟩) (h2 : ∀ i, P ⟨.live .hlpRfRx, d, i⟩) (h3 : ∀ i, P ⟨.live .hlpLfRx, d, i⟩) (h4 : ∀ i, P ⟨.hl .pfcTold, d, i⟩) (h5 : ∀ i, P ⟨.sticky .hlpLinkDown, d, i⟩) (h6 : ∀ i, P ⟨.live .hlpLinkDown, d, i⟩) (h7 : ∀ i, P ⟨.hl .pGear, d, i⟩) (h8 : ∀ i, P ⟨.hl .pState, d, i⟩) (h9 : ∀ i, P ⟨.boot .procCalled, 0, i⟩) (h10 : ∀ i, P ⟨.boot .procCode, 0, i⟩) (h11 : ∀ i, P ⟨.boot .procDone, 0, i⟩) (h12 : ∀ i, P ⟨.hl .corrTx, d, i⟩) (h13 : ∀ i, P ⟨.hl .corrRx, d, i⟩) (h14 : ∀ i, P ⟨.hl .portEn, d, i⟩) (h15 : ∀ i, P ⟨.live .hllLol, d, i⟩) (h16 : ∀ i, P ⟨.live .hllLos, d, i⟩) (h17 : ∀ i, P ⟨.hl .sig, d, i⟩) (h18 : ∀ i, P ⟨.hl .cdrLock, d, i⟩) (h19 : ∀ i, P ⟨.hl .preRx, d, i⟩) (h20 : ∀ i, P ⟨.hl .preTx, d, i⟩) (h21 : ∀ i, P ⟨.hl .eqCp1, d, i⟩) (h22 : ∀ i, P ⟨.hl .eqCm1, d, i⟩) (h23 : ∀ i, P ⟨.hl .eqCm2, d, i⟩) (h24 : ∀ i, P ⟨.hl .gear, d, i⟩) (h25 : ∀ i, P ⟨.hl .state, d, i⟩) (h26 : ∀ i, P ⟨.hl .idleRun, d, i⟩) (h27 : ∀ i, P ⟨.hl .keep, d, i⟩) (h28 : ∀ i, P ⟨.hl .relock, d, i⟩) (h29 : ∀ i, P ⟨.hl .waitSig, d, i⟩) (h30 : ∀ i, P ⟨.hl .reqResult, d, i⟩) (h31 : ∀ i, P ⟨.hl .reqSeq, d, i⟩) (h32 : ∀ i, P ⟨.hl .stepFails, d, i⟩) (h33 : ∀ i, P ⟨.hl .fellBack, d, i⟩) (h34 : ∀ i, P ⟨.hl .switched, d, i⟩) (h35 : ∀ i, P ⟨.hl .preNext, d, i⟩) (h36 : ∀ i, P ⟨.hl .farCount, d, i⟩) (h37 : ∀ i, P ⟨.hl .countdown, d, i⟩) (h38 : ∀ i, P ⟨.hl .farPreCap, d, i⟩) (h39 : ∀ i, P ⟨.hl .capsRun, d, i⟩) (h40 : ∀ i, P ⟨.hl .readyLeft, d, i⟩) (h41 : ∀ i, P ⟨.hl .readyRun, d, i⟩) (h42 : ∀ i, P ⟨.hl .rxReady, d, i⟩) (h43 : ∀ i, P ⟨.hl .badRun, d, i⟩) (h44 : ∀ i, P ⟨.hl .goodRun, d, i⟩) (h45 : ∀ i, P ⟨.hl .fLock, d, i⟩) (qreports : Q .reports) :
    Reach P Q s0 (State.portStop s d p) := by
  unfold State.portStop
  repeat' with_reducible first | assumption | apply State.lower_reach | apply State.set_reach | apply State.portRefresh_reach | apply State.each_reach | apply State.laneOff_reach | (intros; show P _ = true; apply_assumption) | split | dsimp only | intro _

theorem State.laneTestSet_reach {d : Nat} {l : Nat} (hs : Reach P Q s0 s) (h1 : ∀ i, P ⟨.hl .prbsLock, d, i⟩) (h2 : ∀ i, P ⟨.sticky .hlpLinkDown, d, i⟩) (h3 : ∀ i, P ⟨.live .hlpLinkDown, d, i⟩) (h4 : ∀ i, P ⟨.hl .pGear, d, i⟩) (h5 : ∀ i, P ⟨.hl .pState, d, i⟩) (h6 : ∀ i, P ⟨.boot .procCalled, 0, i⟩) (h7 : ∀ i, P ⟨.boot .procCode, 0, i⟩) (h8 : ∀ i, P ⟨.boot .procDone, 0, i⟩) (h9 : ∀ i, P ⟨.hl .corrTx, d, i⟩) (h10 : ∀ i, P ⟨.hl .corrRx, d, i⟩) (h11 : ∀ i, P ⟨.hl .state, d, i⟩) (h12 : ∀ i, P ⟨.hl .cdrLock, d, i⟩) (h13 : ∀ i, P ⟨.hl .preRx, d, i⟩) (h14 : ∀ i, P ⟨.hl .preTx, d, i⟩) (h15 : ∀ i, P ⟨.hl .eqCp1, d, i⟩) (h16 : ∀ i, P ⟨.hl .eqCm1, d, i⟩) (h17 : ∀ i, P ⟨.hl .eqCm2, d, i⟩) (h18 : ∀ i, P ⟨.hl .gear, d, i⟩) (h19 : ∀ i, P ⟨.hl .idleRun, d, i⟩) (h20 : ∀ i, P ⟨.hl .keep, d, i⟩) (h21 : ∀ i, P ⟨.hl .relock, d, i⟩) (h22 : ∀ i, P ⟨.hl .waitSig, d, i⟩) (h23 : ∀ i, P ⟨.hl .reqResult, d, i⟩) (h24 : ∀ i, P ⟨.hl .reqSeq, d, i⟩) (h25 : ∀ i, P ⟨.hl .stepFails, d, i⟩) (h26 : ∀ i, P ⟨.hl .fellBack, d, i⟩) (h27 : ∀ i, P ⟨.hl .switched, d, i⟩) (h28 : ∀ i, P ⟨.hl .preNext, d, i⟩) (h29 : ∀ i, P ⟨.hl .farCount, d, i⟩) (h30 : ∀ i, P ⟨.hl .countdown, d, i⟩) (h31 : ∀ i, P ⟨.hl .farPreCap, d, i⟩) (h32 : ∀ i, P ⟨.hl .capsRun, d, i⟩) (h33 : ∀ i, P ⟨.hl .readyLeft, d, i⟩) (h34 : ∀ i, P ⟨.hl .readyRun, d, i⟩) (h35 : ∀ i, P ⟨.hl .rxReady, d, i⟩) (h36 : ∀ i, P ⟨.hl .badRun, d, i⟩) (h37 : ∀ i, P ⟨.hl .goodRun, d, i⟩) (h38 : ∀ i, P ⟨.hl .fLock, d, i⟩) (h39 : ∀ i, P ⟨.hl .nNegAttempt, d, i⟩) (h40 : ∀ i, P ⟨.live .hllLol, d, i⟩) (h41 : ∀ i, P ⟨.live .hllLos, d, i⟩) (h42 : ∀ i, P ⟨.hl .sig, d, i⟩) (qreports : Q .reports) :
    Reach P Q s0 (State.laneTestSet s d l) := by
  unfold State.laneTestSet
  repeat' with_reducible first | assumption | apply State.set_reach | apply State.laneDone_reach | apply State.portRefresh_reach | apply State.laneStart_reach | apply State.laneOff_reach | (intros; show P _ = true; apply_assumption) | split | dsimp only | intro _

theorem State.escanBegin_reach {d : Nat} {l : Nat} (hs : Reach P Q s0 s) (h1 : ∀ i, P ⟨.hl .mutValid, d, i⟩) (h2 : ∀ i, P ⟨.hl .escanErr, d, i⟩) (h3 : ∀ i, P ⟨.hl .escanBusy, d, i⟩) :
    Reach P Q s0 (State.escanBegin s d l) := by
  unfold State.escanBegin
  repeat' with_reducible first | assumption | apply State.set_reach | (intros; show P _ = true; apply_assumption) | split | dsimp only | intro _

theorem State.laneTrain_reach {d : Nat} {l : Nat} (hs : Reach P Q s0 s) (h1 : ∀ i, P ⟨.hl .sig, d, i⟩) (h2 : ∀ i, P ⟨.hl .cdrLock, d, i⟩) (h3 : ∀ i, P ⟨.hl .farCount, d, i⟩) (h4 : ∀ i, P ⟨.hl .switched, d, i⟩) (h5 : ∀ i, P ⟨.hl .readyRun, d, i⟩) (h6 : ∀ i, P ⟨.hl .rxReady, d, i⟩) (h7 : ∀ i, P ⟨.hl .state, d, i⟩) :
    Reach P Q s0 (State.laneTrain s d l) := by
  unfold State.laneTrain
  repeat' with_reducible first | assumption | apply State.set_reach | (intros; show P _ = true; apply_assumption) | split | dsimp only | intro _

theorem State.laneFail_reach {d : Nat} {l : Nat} {reason : Nat} (hs : Reach P Q s0 s) (h1 : ∀ i, P ⟨.sticky .hlpLinkDown, d, i⟩) (h2 : ∀ i, P ⟨.live .hlpLinkDown, d, i⟩) (h3 : ∀ i, P ⟨.hl .pGear, d, i⟩) (h4 : ∀ i, P ⟨.hl .pState, d, i⟩) (h5 : ∀ i, P ⟨.boot .procCalled, 0, i⟩) (h6 : ∀ i, P ⟨.boot .procCode, 0, i⟩) (h7 : ∀ i, P ⟨.boot .procDone, 0, i⟩) (h8 : ∀ i, P ⟨.hl .corrTx, d, i⟩) (h9 : ∀ i, P ⟨.hl .corrRx, d, i⟩) (h10 : ∀ i, P ⟨.sticky .hllNegFail, d, i⟩) (h11 : ∀ i, P ⟨.hl .state, d, i⟩) (h12 : ∀ i, P ⟨.hl .failReason, d, i⟩) (h13 : ∀ i, P ⟨.hl .readyLeft, d, i⟩) (h14 : ∀ i, P ⟨.hl .readyRun, d, i⟩) (h15 : ∀ i, P ⟨.hl .rxReady, d, i⟩) (h16 : ∀ i, P ⟨.hl .badRun, d, i⟩) (h17 : ∀ i, P ⟨.hl .goodRun, d, i⟩) (h18 : ∀ i, P ⟨.hl .fLock, d, i⟩) (qreports : Q .reports) :
    Reach P Q s0 (State.laneFail s d l reason) := by
  unfold State.laneFail
  repeat' with_reducible first | assumption | apply State.laneDone_reach | apply State.event_reach | apply State.set_reach | apply State.laneSearch_reach | (intros; show P _ = true; apply_assumption) | split | dsimp only | intro _

theorem State.stepBegin_reach {d : Nat} {l : Nat} (hs : Reach P Q s0 s) (h1 : ∀ i, P ⟨.hl .farCount, d, i⟩) (h2 : ∀ i, P ⟨.hl .countdown, d, i⟩) (h3 : ∀ i, P ⟨.hl .state, d, i⟩) :
    Reach P Q s0 (State.stepBegin s d l) := by
  unfold State.stepBegin
  repeat' with_reducible first | assumption | apply State.set_reach | (intros; show P _ = true; apply_assumption) | split | dsimp only | intro _

theorem State.lockGained_reach {d : Nat} {l : Nat} (hs : Reach P Q s0 s) (h1 : ∀ i, P ⟨.hl .fLock, d, i⟩) (h2 : ∀ i, P ⟨.hl .state, d, i⟩) (h3 : ∀ i, P ⟨.sticky .hllStepFail, d, i⟩) (h4 : ∀ i, P ⟨.hl .nStepFail, d, i⟩) (h5 : ∀ i, P ⟨.hl .stepFails, d, i⟩) (h6 : ∀ i, P ⟨.hl .switched, d, i⟩) (h7 : ∀ i, P ⟨.hl .fellBack, d, i⟩) (h8 : ∀ i, P ⟨.sticky .hlpLinkDown, d, i⟩) (h9 : ∀ i, P ⟨.live .hlpLinkDown, d, i⟩) (h10 : ∀ i, P ⟨.hl .pGear, d, i⟩) (h11 : ∀ i, P ⟨.hl .pState, d, i⟩) (h12 : ∀ i, P ⟨.boot .procCalled, 0, i⟩) (h13 : ∀ i, P ⟨.boot .procCode, 0, i⟩) (h14 : ∀ i, P ⟨.boot .procDone, 0, i⟩) (h15 : ∀ i, P ⟨.hl .corrTx, d, i⟩) (h16 : ∀ i, P ⟨.hl .corrRx, d, i⟩) (h17 : ∀ i, P ⟨.sticky .hllNegFail, d, i⟩) (h18 : ∀ i, P ⟨.hl .failReason, d, i⟩) (h19 : ∀ i, P ⟨.hl .readyLeft, d, i⟩) (h20 : ∀ i, P ⟨.hl .readyRun, d, i⟩) (h21 : ∀ i, P ⟨.hl .rxReady, d, i⟩) (h22 : ∀ i, P ⟨.hl .badRun, d, i⟩) (h23 : ∀ i, P ⟨.hl .goodRun, d, i⟩) (h24 : ∀ i, P ⟨.hl .farCount, d, i⟩) (h25 : ∀ i, P ⟨.hl .countdown, d, i⟩) (h26 : ∀ i, P ⟨.hl .sig, d, i⟩) (h27 : ∀ i, P ⟨.hl .cdrLock, d, i⟩) (qreports : Q .reports) :
    Reach P Q s0 (State.lockGained s d l) := by
  unfold State.lockGained
  repeat' with_reducible first | assumption | apply State.set_reach | apply State.event_reach | apply State.inc_reach | apply State.laneFail_reach | apply State.stepBegin_reach | apply State.laneTrain_reach | (intros; show P _ = true; apply_assumption) | split | dsimp only | intro _

theorem execPcsAligned_reach {d : Nat} {p : Nat} (hs : Reach P Q s0 s) (hsum : ∀ k, k.cell.summary → P k) (h11 : ∀ i, P ⟨.sticky .hlpLinkDown, d, i⟩) (h12 : ∀ i, P ⟨.live .hlpLinkDown, d, i⟩) (h13 : ∀ i, P ⟨.hl .pGear, d, i⟩) (h14 : ∀ i, P ⟨.hl .pState, d, i⟩) (h15 : ∀ i, P ⟨.boot .procCalled, 0, i⟩) (h16 : ∀ i, P ⟨.boot .procCode, 0, i⟩) (h17 : ∀ i, P ⟨.boot .procDone, 0, i⟩) (h18 : ∀ i, P ⟨.hl .corrTx, d, i⟩) (h19 : ∀ i, P ⟨.hl .corrRx, d, i⟩) (qreports : Q .reports) :
    ∃ t, execPcsAligned d p s = .next t ∧ Reach P Q s0 t := by
  unfold execPcsAligned
  repeat' with_reducible first | assumption | apply finishIf_reach | apply State.portRefresh_reach | apply State.set_reach | (intros; show P _ = true; first | exact hsum _ rfl | (clear hsum; apply_assumption)) | split | dsimp only | intro _

theorem execHostGearsTimeout_reach (hs : Reach P Q s0 s) (hsum : ∀ k, k.cell.summary → P k) (h11 : ∀ i, P ⟨.boot .procCalled, 0, i⟩) (h12 : ∀ i, P ⟨.boot .procCode, 0, i⟩) (h13 : ∀ i, P ⟨.boot .procDone, 0, i⟩) (qreports : Q .reports) :
    ∃ t, execHostGearsTimeout s = .next t ∧ Reach P Q s0 t := by
  unfold execHostGearsTimeout
  repeat' with_reducible first | assumption | apply finishIf_reach | apply State.procEnd_reach | (intros; show P _ = true; first | exact hsum _ rfl | (clear hsum; apply_assumption)) | split | dsimp only | intro _

theorem execHostGears_reach {d : Nat} (hs : Reach P Q s0 s) (hsum : ∀ k, k.cell.summary → P k) (h11 : ∀ i, P ⟨.boot .procCalled, 0, i⟩) (h12 : ∀ i, P ⟨.boot .procCode, 0, i⟩) (h13 : ∀ i, P ⟨.boot .procDone, 0, i⟩) (h14 : ∀ i, P ⟨.sticky .hlpLinkDown, d, i⟩) (h15 : ∀ i, P ⟨.live .hlpLinkDown, d, i⟩) (h16 : ∀ i, P ⟨.hl .pGear, d, i⟩) (h17 : ∀ i, P ⟨.hl .pState, d, i⟩) (h18 : ∀ i, P ⟨.hl .corrTx, d, i⟩) (h19 : ∀ i, P ⟨.hl .corrRx, d, i⟩) (h20 : ∀ i, P ⟨.hl .state, d, i⟩) (h21 : ∀ i, P ⟨.hl .cdrLock, d, i⟩) (h22 : ∀ i, P ⟨.hl .preRx, d, i⟩) (h23 : ∀ i, P ⟨.hl .preTx, d, i⟩) (h24 : ∀ i, P ⟨.hl .eqCp1, d, i⟩) (h25 : ∀ i, P ⟨.hl .eqCm1, d, i⟩) (h26 : ∀ i, P ⟨.hl .eqCm2, d, i⟩) (h27 : ∀ i, P ⟨.hl .gear, d, i⟩) (h28 : ∀ i, P ⟨.hl .idleRun, d, i⟩) (h29 : ∀ i, P ⟨.hl .keep, d, i⟩) (h30 : ∀ i, P ⟨.hl .relock, d, i⟩) (h31 : ∀ i, P ⟨.hl .waitSig, d, i⟩) (h32 : ∀ i, P ⟨.hl .reqResult, d, i⟩) (h33 : ∀ i, P ⟨.hl .reqSeq, d, i⟩) (h34 : ∀ i, P ⟨.hl .stepFails, d, i⟩) (h35 : ∀ i, P ⟨.hl .fellBack, d, i⟩) (h36 : ∀ i, P ⟨.hl .switched, d, i⟩) (h37 : ∀ i, P ⟨.hl .preNext, d, i⟩) (h38 : ∀ i, P ⟨.hl .farCount, d, i⟩) (h39 : ∀ i, P ⟨.hl .countdown, d, i⟩) (h40 : ∀ i, P ⟨.hl .farPreCap, d, i⟩) (h41 : ∀ i, P ⟨.hl .capsRun, d, i⟩) (h42 : ∀ i, P ⟨.hl .readyLeft, d, i⟩) (h43 : ∀ i, P ⟨.hl .readyRun, d, i⟩) (h44 : ∀ i, P ⟨.hl .rxReady, d, i⟩) (h45 : ∀ i, P ⟨.hl .badRun, d, i⟩) (h46 : ∀ i, P ⟨.hl .goodRun, d, i⟩) (h47 : ∀ i, P ⟨.hl .fLock, d, i⟩) (h48 : ∀ i, P ⟨.hl .nNegAttempt, d, i⟩) (qreports : Q .reports) :
    ∃ t, execHostGears d s = .next t ∧ Reach P Q s0 t := by
  unfold execHostGears
  repeat' with_reducible first | assumption | apply finishIf_reach | apply State.gearsCheck_reach | apply State.each_reach | apply State.portRefresh_reach | apply State.laneStart_reach | (intros; show P _ = true; first | exact hsum _ rfl | (clear hsum; apply_assumption)) | split | dsimp only | intro _

theorem execHostIdleAnnounceRx_reach {d : Nat} {l : Nat} {crcOk : Bool} (hs : Reach P Q s0 s) (hsum : ∀ k, k.cell.summary → P k) (h11 : ∀ i, P ⟨.hl .idleRun, d, i⟩) (h12 : ∀ i, P ⟨.sticky .hlpLinkDown, d, i⟩) (h13 : ∀ i, P ⟨.live .hlpLinkDown, d, i⟩) (h14 : ∀ i, P ⟨.hl .pGear, d, i⟩) (h15 : ∀ i, P ⟨.hl .pState, d, i⟩) (h16 : ∀ i, P ⟨.boot .procCalled, 0, i⟩) (h17 : ∀ i, P ⟨.boot .procCode, 0, i⟩) (h18 : ∀ i, P ⟨.boot .procDone, 0, i⟩) (h19 : ∀ i, P ⟨.hl .corrTx, d, i⟩) (h20 : ∀ i, P ⟨.hl .corrRx, d, i⟩) (h21 : ∀ i, P ⟨.hl .keep, d, i⟩) (h22 : ∀ i, P ⟨.hl .state, d, i⟩) (h23 : ∀ i, P ⟨.hl .relock, d, i⟩) (h24 : ∀ i, P ⟨.hl .waitSig, d, i⟩) (h25 : ∀ i, P ⟨.hl .reqResult, d, i⟩) (h26 : ∀ i, P ⟨.hl .reqSeq, d, i⟩) (h27 : ∀ i, P ⟨.hl .stepFails, d, i⟩) (h28 : ∀ i, P ⟨.hl .fellBack, d, i⟩) (h29 : ∀ i, P ⟨.hl .switched, d, i⟩) (h30 : ∀ i, P ⟨.hl .preNext, d, i⟩) (h31 : ∀ i, P ⟨.hl .farCount, d, i⟩) (h32 : ∀ i, P ⟨.hl .countdown, d, i⟩) (h33 : ∀ i, P ⟨.hl .farPreCap, d, i⟩) (h34 : ∀ i, P ⟨.hl .capsRun, d, i⟩) (h35 : ∀ i, P ⟨.hl .readyLeft, d, i⟩) (h36 : ∀ i, P ⟨.hl .readyRun, d, i⟩) (h37 : ∀ i, P ⟨.hl .rxReady, d, i⟩) (h38 : ∀ i, P ⟨.hl .badRun, d, i⟩) (h39 : ∀ i, P ⟨.hl .goodRun, d, i⟩) (h40 : ∀ i, P ⟨.hl .fLock, d, i⟩) (qreports : Q .reports) :
    ∃ t, execHostIdleAnnounceRx d l crcOk s = .next t ∧ Reach P Q s0 t := by
  unfold execHostIdleAnnounceRx
  repeat' with_reducible first | assumption | apply finishIf_reach | apply State.set_reach | apply State.laneDone_reach | apply State.laneIdle_reach | (intros; show P _ = true; first | exact hsum _ rfl | (clear hsum; apply_assumption)) | split | dsimp only | intro _

theorem State.stepReturn_reach {d : Nat} {l : Nat} (hs : Reach P Q s0 s) (h1 : ∀ i, P ⟨.hl .fellBack, d, i⟩) (h2 : ∀ i, P ⟨.hl .preRx, d, i⟩) (h3 : ∀ i, P ⟨.hl .preTx, d, i⟩) (h4 : ∀ i, P ⟨.hl .eqCp1, d, i⟩) (h5 : ∀ i, P ⟨.hl .eqCm1, d, i⟩) (h6 : ∀ i, P ⟨.hl .eqCm2, d, i⟩) (h7 : ∀ i, P ⟨.hl .gear, d, i⟩) (h8 : ∀ i, P ⟨.hl .readyLeft, d, i⟩) (h9 : ∀ i, P ⟨.hl .readyRun, d, i⟩) (h10 : ∀ i, P ⟨.hl .rxReady, d, i⟩) (h11 : ∀ i, P ⟨.hl .badRun, d, i⟩) (h12 : ∀ i, P ⟨.hl .goodRun, d, i⟩) (h13 : ∀ i, P ⟨.hl .fLock, d, i⟩) :
    Reach P Q s0 (State.stepReturn s d l) := by
  unfold State.stepReturn
  repeat' with_reducible first | assumption | apply State.set_reach | apply State.setTaps_reach | apply State.laneSearch_reach | (intros; show P _ = true; apply_assumption) | split | dsimp only | intro _

theorem execNegLockTimeout_reach {d : Nat} {l : Nat} (hs : Reach P Q s0 s) (hsum : ∀ k, k.cell.summary → P k) (h11 : ∀ i, P ⟨.sticky .hlpLinkDown, d, i⟩) (h12 : ∀ i, P ⟨.live .hlpLinkDown, d, i⟩) (h13 : ∀ i, P ⟨.hl .pGear, d, i⟩) (h14 : ∀ i, P ⟨.hl .pState, d, i⟩) (h15 : ∀ i, P ⟨.boot .procCalled, 0, i⟩) (h16 : ∀ i, P ⟨.boot .procCode, 0, i⟩) (h17 : ∀ i, P ⟨.boot .procDone, 0, i⟩) (h18 : ∀ i, P ⟨.hl .corrTx, d, i⟩) (h19 : ∀ i, P ⟨.hl .corrRx, d, i⟩) (h20 : ∀ i, P ⟨.hl .state, d, i⟩) (h21 : ∀ i, P ⟨.hl .cdrLock, d, i⟩) (h22 : ∀ i, P ⟨.hl .preRx, d, i⟩) (h23 : ∀ i, P ⟨.hl .preTx, d, i⟩) (h24 : ∀ i, P ⟨.hl .eqCp1, d, i⟩) (h25 : ∀ i, P ⟨.hl .eqCm1, d, i⟩) (h26 : ∀ i, P ⟨.hl .eqCm2, d, i⟩) (h27 : ∀ i, P ⟨.hl .gear, d, i⟩) (h28 : ∀ i, P ⟨.hl .idleRun, d, i⟩) (h29 : ∀ i, P ⟨.hl .keep, d, i⟩) (h30 : ∀ i, P ⟨.hl .relock, d, i⟩) (h31 : ∀ i, P ⟨.hl .waitSig, d, i⟩) (h32 : ∀ i, P ⟨.hl .reqResult, d, i⟩) (h33 : ∀ i, P ⟨.hl .reqSeq, d, i⟩) (h34 : ∀ i, P ⟨.hl .stepFails, d, i⟩) (h35 : ∀ i, P ⟨.hl .fellBack, d, i⟩) (h36 : ∀ i, P ⟨.hl .switched, d, i⟩) (h37 : ∀ i, P ⟨.hl .preNext, d, i⟩) (h38 : ∀ i, P ⟨.hl .farCount, d, i⟩) (h39 : ∀ i, P ⟨.hl .countdown, d, i⟩) (h40 : ∀ i, P ⟨.hl .farPreCap, d, i⟩) (h41 : ∀ i, P ⟨.hl .capsRun, d, i⟩) (h42 : ∀ i, P ⟨.hl .readyLeft, d, i⟩) (h43 : ∀ i, P ⟨.hl .readyRun, d, i⟩) (h44 : ∀ i, P ⟨.hl .rxReady, d, i⟩) (h45 : ∀ i, P ⟨.hl .badRun, d, i⟩) (h46 : ∀ i, P ⟨.hl .goodRun, d, i⟩) (h47 : ∀ i, P ⟨.hl .fLock, d, i⟩) (h48 : ∀ i, P ⟨.hl .nNegAttempt, d, i⟩) (h49 : ∀ i, P ⟨.sticky .hllNegFail, d, i⟩) (h50 : ∀ i, P ⟨.hl .failReason, d, i⟩) (qreports : Q .reports) :
    ∃ t, execNegLockTimeout d l s = .next t ∧ Reach P Q s0 t := by
  unfold execNegLockTimeout
  repeat' with_reducible first | assumption | apply finishIf_reach | apply State.laneDone_reach | apply State.laneStart_reach | apply State.laneFail_reach | apply State.stepReturn_reach | (intros; show P _ = true; first | exact hsum _ rfl | (clear hsum; apply_assumption)) | split | dsimp only | intro _

theorem execPcsAlignLoss_reach {d : Nat} {p : Nat} (hs : Reach P Q s0 s) (hsum : ∀ k, k.cell.summary → P k) (h11 : ∀ i, P ⟨.sticky .hlpLinkDown, d, i⟩) (h12 : ∀ i, P ⟨.live .hlpLinkDown, d, i⟩) (h13 : ∀ i, P ⟨.hl .pGear, d, i⟩) (h14 : ∀ i, P ⟨.hl .pState, d, i⟩) (h15 : ∀ i, P ⟨.boot .procCalled, 0, i⟩) (h16 : ∀ i, P ⟨.boot .procCode, 0, i⟩) (h17 : ∀ i, P ⟨.boot .procDone, 0, i⟩) (h18 : ∀ i, P ⟨.hl .corrTx, d, i⟩) (h19 : ∀ i, P ⟨.hl .corrRx, d, i⟩) (h20 : ∀ i, P ⟨.sticky .hlpAlignLoss, d, i⟩) (qreports : Q .reports) :
    ∃ t, execPcsAlignLoss d p s = .next t ∧ Reach P Q s0 t := by
  unfold execPcsAlignLoss
  repeat' with_reducible first | assumption | apply finishIf_reach | apply State.portRefresh_reach | apply State.set_reach | apply State.event_reach | (intros; show P _ = true; first | exact hsum _ rfl | (clear hsum; apply_assumption)) | split | dsimp only | intro _

theorem State.eqRequest_reach {d : Nat} {l : Nat} {f : Sys2Proof.NegFrame} (hs : Reach P Q s0 s) (h1 : ∀ i, P ⟨.hl .reqSeq, d, i⟩) (h2 : ∀ i, P ⟨.hl .reqResult, d, i⟩) (h3 : ∀ i, P ⟨.hl .eqCp1, d, i⟩) (h4 : ∀ i, P ⟨.hl .eqCm1, d, i⟩) (h5 : ∀ i, P ⟨.hl .eqCm2, d, i⟩) :
    Reach P Q s0 (State.eqRequest s d l f) := by
  unfold State.eqRequest
  repeat' with_reducible first | assumption | apply State.set_reach | apply State.setTaps_reach | (intros; show P _ = true; apply_assumption) | split | dsimp only | intro _

theorem execHlLos_reach {d : Nat} {l : Nat} (hs : Reach P Q s0 s) (hsum : ∀ k, k.cell.summary → P k) (h11 : ∀ i, P ⟨.sticky .hlpLinkDown, d, i⟩) (h12 : ∀ i, P ⟨.live .hlpLinkDown, d, i⟩) (h13 : ∀ i, P ⟨.hl .pGear, d, i⟩) (h14 : ∀ i, P ⟨.hl .pState, d, i⟩) (h15 : ∀ i, P ⟨.boot .procCalled, 0, i⟩) (h16 : ∀ i, P ⟨.boot .procCode, 0, i⟩) (h17 : ∀ i, P ⟨.boot .procDone, 0, i⟩) (h18 : ∀ i, P ⟨.hl .corrTx, d, i⟩) (h19 : ∀ i, P ⟨.hl .corrRx, d, i⟩) (h20 : ∀ i, P ⟨.hl .nLosEnter, d, i⟩) (h21 : ∀ i, P ⟨.sticky .hllLos, d, i⟩) (h22 : ∀ i, P ⟨.live .hllLos, d, i⟩) (h23 : ∀ i, P ⟨.hl .cdrLock, d, i⟩) (h24 : ∀ i, P ⟨.hl .sig, d, i⟩) (h25 : ∀ i, P ⟨.hl .waitSig, d, i⟩) (h26 : ∀ i, P ⟨.hl .state, d, i⟩) (qreports : Q .reports) :
    ∃ t, execHlLos d l s = .next t ∧ Reach P Q s0 t := by
  unfold execHlLos
  repeat' with_reducible first | assumption | apply finishIf_reach | apply State.laneDone_reach | apply State.inc_reach | apply State.raise_reach | apply State.set_reach | (intros; show P _ = true; first | exact hsum _ rfl | (clear hsum; apply_assumption)) | split | dsimp only | intro _

theorem State.pfcSend_reach {d : Nat} {p : Nat} (hs : Reach P Q s0 s) (h1 : ∀ i, P ⟨.hl .pfcTold, d, i⟩) (h2 : ∀ i, P ⟨.hl .nPfcTx, d, i⟩) :
    Reach P Q s0 (State.pfcSend s d p) := by
  unfold State.pfcSend
  repeat' with_reducible first | assumption | apply State.set_reach | apply State.inc_reach | (intros; show P _ = true; apply_assumption) | split | dsimp only | intro _

theorem execPfcXoffStart_reach {d : Nat} {p : Nat} (hs : Reach P Q s0 s) (hsum : ∀ k, k.cell.summary → P k) (h11 : ∀ i, P ⟨.hl .pfcTold, d, i⟩) (h12 : ∀ i, P ⟨.hl .nPfcTx, d, i⟩) (qreports : Q .reports) :
    ∃ t, execPfcXoffStart d p s = .next t ∧ Reach P Q s0 t := by
  unfold execPfcXoffStart
  repeat' with_reducible first | assumption | apply finishIf_reach | apply State.pfcSend_reach | (intros; show P _ = true; first | exact hsum _ rfl | (clear hsum; apply_assumption)) | split | dsimp only | intro _

theorem State.readCaps_reach {d : Nat} {l : Nat} {f : Sys2Proof.NegFrame} (hs : Reach P Q s0 s) (h1 : ∀ i, P ⟨.sticky .hlpLinkDown, d, i⟩) (h2 : ∀ i, P ⟨.live .hlpLinkDown, d, i⟩) (h3 : ∀ i, P ⟨.hl .pGear, d, i⟩) (h4 : ∀ i, P ⟨.hl .pState, d, i⟩) (h5 : ∀ i, P ⟨.boot .procCalled, 0, i⟩) (h6 : ∀ i, P ⟨.boot .procCode, 0, i⟩) (h7 : ∀ i, P ⟨.boot .procDone, 0, i⟩) (h8 : ∀ i, P ⟨.hl .corrTx, d, i⟩) (h9 : ∀ i, P ⟨.hl .corrRx, d, i⟩) (h10 : ∀ i, P ⟨.sticky .hllNegFail, d, i⟩) (h11 : ∀ i, P ⟨.hl .state, d, i⟩) (h12 : ∀ i, P ⟨.hl .failReason, d, i⟩) (h13 : ∀ i, P ⟨.hl .readyLeft, d, i⟩) (h14 : ∀ i, P ⟨.hl .readyRun, d, i⟩) (h15 : ∀ i, P ⟨.hl .rxReady, d, i⟩) (h16 : ∀ i, P ⟨.hl .badRun, d, i⟩) (h17 : ∀ i, P ⟨.hl .goodRun, d, i⟩) (h18 : ∀ i, P ⟨.hl .fLock, d, i⟩) (h19 : ∀ i, P ⟨.hl .capsRun, d, i⟩) (h20 : ∀ i, P ⟨.hl .farPreCap, d, i⟩) (h21 : ∀ i, P ⟨.hl .farGearMax, d, i⟩) (h22 : ∀ i, P ⟨.hl .sig, d, i⟩) (h23 : ∀ i, P ⟨.hl .cdrLock, d, i⟩) (h24 : ∀ i, P ⟨.hl .farCount, d, i⟩) (h25 : ∀ i, P ⟨.hl .switched, d, i⟩) (qreports : Q .reports) :
    Reach P Q s0 (State.readCaps s d l f) := by
  unfold State.readCaps
  repeat' with_reducible first | assumption | apply State.laneFail_reach | apply State.set_reach | apply State.setB_reach | apply State.laneTrain_reach | (intros; show P _ = true; apply_assumption) | split | dsimp only | intro _

theorem State.laneTrained_reach {d : Nat} {l : Nat} (hs : Reach P Q s0 s) (h1 : ∀ i, P ⟨.hl .readyLeft, d, i⟩) (h2 : ∀ i, P ⟨.hl .farCount, d, i⟩) (h3 : ∀ i, P ⟨.hl .countdown, d, i⟩) (h4 : ∀ i, P ⟨.hl .state, d, i⟩) :
    Reach P Q s0 (State.laneTrained s d l) := by
  unfold State.laneTrained
  repeat' with_reducible first | assumption | apply State.set_reach | apply State.stepBegin_reach | (intros; show P _ = true; apply_assumption) | split | dsimp only | intro _

theorem State.readTrain_reach {d : Nat} {l : Nat} {f : Sys2Proof.NegFrame} (hs : Reach P Q s0 s) (h1 : ∀ i, P ⟨.hl .preNext, d, i⟩) (h2 : ∀ i, P ⟨.hl .farCount, d, i⟩) (h3 : ∀ i, P ⟨.hl .countdown, d, i⟩) (h4 : ∀ i, P ⟨.hl .state, d, i⟩) (h5 : ∀ i, P ⟨.hl .preTx, d, i⟩) (h6 : ∀ i, P ⟨.hl .readyRun, d, i⟩) (h7 : ∀ i, P ⟨.hl .readyLeft, d, i⟩) :
    Reach P Q s0 (State.readTrain s d l f) := by
  unfold State.readTrain
  repeat' with_reducible first | assumption | apply State.setB_reach | apply State.set_reach | apply State.when_reach | apply State.laneTrained_reach | (intros; show P _ = true; apply_assumption) | split | dsimp only | intro _

theorem State.readWordHl_reach {d : Nat} {l : Nat} {f : Sys2Proof.NegFrame} (hs : Reach P Q s0 s) (h1 : ∀ i, P ⟨.hl .reqSeq, d, i⟩) (h2 : ∀ i, P ⟨.hl .reqResult, d, i⟩) (h3 : ∀ i, P ⟨.hl .eqCp1, d, i⟩) (h4 : ∀ i, P ⟨.hl .eqCm1, d, i⟩) (h5 : ∀ i, P ⟨.hl .eqCm2, d, i⟩) (h6 : ∀ i, P ⟨.sticky .hlpLinkDown, d, i⟩) (h7 : ∀ i, P ⟨.live .hlpLinkDown, d, i⟩) (h8 : ∀ i, P ⟨.hl .pGear, d, i⟩) (h9 : ∀ i, P ⟨.hl .pState, d, i⟩) (h10 : ∀ i, P ⟨.boot .procCalled, 0, i⟩) (h11 : ∀ i, P ⟨.boot .procCode, 0, i⟩) (h12 : ∀ i, P ⟨.boot .procDone, 0, i⟩) (h13 : ∀ i, P ⟨.hl .corrTx, d, i⟩) (h14 : ∀ i, P ⟨.hl .corrRx, d, i⟩) (h15 : ∀ i, P ⟨.sticky .hllNegFail, d, i⟩) (h16 : ∀ i, P ⟨.hl .state, d, i⟩) (h17 : ∀ i, P ⟨.hl .failReason, d, i⟩) (h18 : ∀ i, P ⟨.hl .readyLeft, d, i⟩) (h19 : ∀ i, P ⟨.hl .readyRun, d, i⟩) (h20 : ∀ i, P ⟨.hl .rxReady, d, i⟩) (h21 : ∀ i, P ⟨.hl .badRun, d, i⟩) (h22 : ∀ i, P ⟨.hl .goodRun, d, i⟩) (h23 : ∀ i, P ⟨.hl .fLock, d, i⟩) (h24 : ∀ i, P ⟨.hl .capsRun, d, i⟩) (h25 : ∀ i, P ⟨.hl .farPreCap, d, i⟩) (h26 : ∀ i, P ⟨.hl .farGearMax, d, i⟩) (h27 : ∀ i, P ⟨.hl .sig, d, i⟩) (h28 : ∀ i, P ⟨.hl .cdrLock, d, i⟩) (h29 : ∀ i, P ⟨.hl .farCount, d, i⟩) (h30 : ∀ i, P ⟨.hl .switched, d, i⟩) (h31 : ∀ i, P ⟨.hl .preNext, d, i⟩) (h32 : ∀ i, P ⟨.hl .countdown, d, i⟩) (h33 : ∀ i, P ⟨.hl .preTx, d, i⟩) (qreports : Q .reports) :
    Reach P Q s0 (State.readWordHl s d l f) := by
  unfold State.readWordHl
  repeat' with_reducible first | assumption | apply State.eqRequest_reach | apply State.laneFail_reach | apply State.readCaps_reach | apply State.readTrain_reach | apply State.setB_reach | apply State.set_reach | (intros; show P _ = true; apply_assumption) | split | dsimp only | intro _

theorem execHostFecCodeword_reach {d : Nat} {p : Nat} {symErr : Nat} {uncorr : Bool} {lf : Bool} {rf : Bool} (hs : Reach P Q s0 s) (hsum : ∀ k, k.cell.summary → P k) (h11 : ∀ i, P ⟨.hl .nFecCorrCw, d, i⟩) (h12 : ∀ i, P ⟨.hl .symMs, d, i⟩) (h13 : ∀ i, P ⟨.hl .nFecSymErr, d, i⟩) (h14 : ∀ i, P ⟨.hl .nFecCw, d, i⟩) (h15 : ∀ i, P ⟨.sticky .hlpFecUncorr, d, i⟩) (h16 : ∀ i, P ⟨.hl .nFecUncorrCw, d, i⟩) (h17 : ∀ i, P ⟨.sticky .hlpRfRx, d, i⟩) (h18 : ∀ i, P ⟨.live .hlpRfRx, d, i⟩) (h19 : ∀ i, P ⟨.sticky .hlpLfRx, d, i⟩) (h20 : ∀ i, P ⟨.live .hlpLfRx, d, i⟩) (qreports : Q .reports) :
    ∃ t, execHostFecCodeword d p symErr uncorr lf rf s = .next t ∧ Reach P Q s0 t := by
  unfold execHostFecCodeword
  repeat' with_reducible first | assumption | apply finishIf_reach | apply State.incIf_reach | apply State.add_reach | apply State.inc_reach | apply State.when_reach | apply State.event_reach | apply State.cond_reach | (intros; show P _ = true; first | exact hsum _ rfl | (clear hsum; apply_assumption)) | split | dsimp only | intro _

theorem execNegTrainTimeout_reach {d : Nat} {l : Nat} (hs : Reach P Q s0 s) (hsum : ∀ k, k.cell.summary → P k) (h11 : ∀ i, P ⟨.sticky .hlpLinkDown, d, i⟩) (h12 : ∀ i, P ⟨.live .hlpLinkDown, d, i⟩) (h13 : ∀ i, P ⟨.hl .pGear, d, i⟩) (h14 : ∀ i, P ⟨.hl .pState, d, i⟩) (h15 : ∀ i, P ⟨.boot .procCalled, 0, i⟩) (h16 : ∀ i, P ⟨.boot .procCode, 0, i⟩) (h17 : ∀ i, P ⟨.boot .procDone, 0, i⟩) (h18 : ∀ i, P ⟨.hl .corrTx, d, i⟩) (h19 : ∀ i, P ⟨.hl .corrRx, d, i⟩) (h20 : ∀ i, P ⟨.sticky .hllNegFail, d, i⟩) (h21 : ∀ i, P ⟨.hl .state, d, i⟩) (h22 : ∀ i, P ⟨.hl .failReason, d, i⟩) (h23 : ∀ i, P ⟨.hl .readyLeft, d, i⟩) (h24 : ∀ i, P ⟨.hl .readyRun, d, i⟩) (h25 : ∀ i, P ⟨.hl .rxReady, d, i⟩) (h26 : ∀ i, P ⟨.hl .badRun, d, i⟩) (h27 : ∀ i, P ⟨.hl .goodRun, d, i⟩) (h28 : ∀ i, P ⟨.hl .fLock, d, i⟩) (qreports : Q .reports) :
    ∃ t, execNegTrainTimeout d l s = .next t ∧ Reach P Q s0 t := by
  unfold execNegTrainTimeout
  repeat' with_reducible first | assumption | apply finishIf_reach | apply State.laneFail_reach | (intros; show P _ = true; first | exact hsum _ rfl | (clear hsum; apply_assumption)) | split | dsimp only | intro _

theorem execIdleFastExit_reach {d : Nat} {p : Nat} (hs : Reach P Q s0 s) (hsum : ∀ k, k.cell.summary → P k) (h11 : ∀ i, P ⟨.sticky .hlpLinkDown, d, i⟩) (h12 : ∀ i, P ⟨.live .hlpLinkDown, d, i⟩) (h13 : ∀ i, P ⟨.hl .pGear, d, i⟩) (h14 : ∀ i, P ⟨.hl .pState, d, i⟩) (h15 : ∀ i, P ⟨.boot .procCalled, 0, i⟩) (h16 : ∀ i, P ⟨.boot .procCode, 0, i⟩) (h17 : ∀ i, P ⟨.boot .procDone, 0, i⟩) (h18 : ∀ i, P ⟨.hl .corrTx, d, i⟩) (h19 : ∀ i, P ⟨.hl .corrRx, d, i⟩) (h20 : ∀ i, P ⟨.hl .idleReq, d, i⟩) (h21 : ∀ i, P ⟨.live .hllLol, d, i⟩) (h22 : ∀ i, P ⟨.hl .cdrLock, d, i⟩) (h23 : ∀ i, P ⟨.hl .sig, d, i⟩) (h24 : ∀ i, P ⟨.hl .idleRun, d, i⟩) (h25 : ∀ i, P ⟨.hl .keep, d, i⟩) (h26 : ∀ i, P ⟨.hl .relock, d, i⟩) (h27 : ∀ i, P ⟨.hl .state, d, i⟩) (h28 : ∀ i, P ⟨.hl .nIdleExit, d, i⟩) (h29 : ∀ i, P ⟨.hl .preRx, d, i⟩) (h30 : ∀ i, P ⟨.hl .preTx, d, i⟩) (h31 : ∀ i, P ⟨.hl .eqCp1, d, i⟩) (h32 : ∀ i, P ⟨.hl .eqCm1, d, i⟩) (h33 : ∀ i, P ⟨.hl .eqCm2, d, i⟩) (h34 : ∀ i, P ⟨.hl .gear, d, i⟩) (h35 : ∀ i, P ⟨.hl .waitSig, d, i⟩) (h36 : ∀ i, P ⟨.hl .reqResult, d, i⟩) (h37 : ∀ i, P ⟨.hl .reqSeq, d, i⟩) (h38 : ∀ i, P ⟨.hl .stepFails, d, i⟩) (h39 : ∀ i, P ⟨.hl .fellBack, d, i⟩) (h40 : ∀ i, P ⟨.hl .switched, d, i⟩) (h41 : ∀ i, P ⟨.hl .preNext, d, i⟩) (h42 : ∀ i, P ⟨.hl .farCount, d, i⟩) (h43 : ∀ i, P ⟨.hl .countdown, d, i⟩) (h44 : ∀ i, P ⟨.hl .farPreCap, d, i⟩) (h45 : ∀ i, P ⟨.hl .capsRun, d, i⟩) (h46 : ∀ i, P ⟨.hl .readyLeft, d, i⟩) (h47 : ∀ i, P ⟨.hl .readyRun, d, i⟩) (h48 : ∀ i, P ⟨.hl .rxReady, d, i⟩) (h49 : ∀ i, P ⟨.hl .badRun, d, i⟩) (h50 : ∀ i, P ⟨.hl .goodRun, d, i⟩) (h51 : ∀ i, P ⟨.hl .fLock, d, i⟩) (h52 : ∀ i, P ⟨.hl .nNegAttempt, d, i⟩) (qreports : Q .reports) :
    ∃ t, execIdleFastExit d p s = .next t ∧ Reach P Q s0 t := by
  unfold execIdleFastExit
  repeat' with_reducible first | assumption | apply finishIf_reach | apply State.portWake_reach | (intros; show P _ = true; first | exact hsum _ rfl | (clear hsum; apply_assumption)) | split | dsimp only | intro _

theorem State.framePeriod_reach {d : Nat} {l : Nat} (hs : Reach P Q s0 s) (h1 : ∀ i, P ⟨.hl .countdown, d, i⟩) (h2 : ∀ i, P ⟨.sticky .hlpLinkDown, d, i⟩) (h3 : ∀ i, P ⟨.live .hlpLinkDown, d, i⟩) (h4 : ∀ i, P ⟨.hl .pGear, d, i⟩) (h5 : ∀ i, P ⟨.hl .pState, d, i⟩) (h6 : ∀ i, P ⟨.boot .procCalled, 0, i⟩) (h7 : ∀ i, P ⟨.boot .procCode, 0, i⟩) (h8 : ∀ i, P ⟨.boot .procDone, 0, i⟩) (h9 : ∀ i, P ⟨.hl .corrTx, d, i⟩) (h10 : ∀ i, P ⟨.hl .corrRx, d, i⟩) (h11 : ∀ i, P ⟨.live .hllLol, d, i⟩) (h12 : ∀ i, P ⟨.hl .cdrLock, d, i⟩) (h13 : ∀ i, P ⟨.hl .sig, d, i⟩) (h14 : ∀ i, P ⟨.hl .idleRun, d, i⟩) (h15 : ∀ i, P ⟨.hl .keep, d, i⟩) (h16 : ∀ i, P ⟨.hl .relock, d, i⟩) (h17 : ∀ i, P ⟨.hl .state, d, i⟩) (h18 : ∀ i, P ⟨.hl .readyLeft, d, i⟩) (qreports : Q .reports) :
    Reach P Q s0 (State.framePeriod s d l) := by
  unfold State.framePeriod
  repeat' with_reducible first | assumption | apply State.set_reach | apply State.laneUp_reach | (intros; show P _ = true; apply_assumption) | split | dsimp only | intro _

theorem State.lockLost_reach {d : Nat} {l : Nat} (hs : Reach P Q s0 s) (h1 : ∀ i, P ⟨.hl .badRun, d, i⟩) (h2 : ∀ i, P ⟨.hl .goodRun, d, i⟩) (h3 : ∀ i, P ⟨.hl .fLock, d, i⟩) (h4 : ∀ i, P ⟨.hl .countdown, d, i⟩) (h5 : ∀ i, P ⟨.sticky .hlpLinkDown, d, i⟩) (h6 : ∀ i, P ⟨.live .hlpLinkDown, d, i⟩) (h7 : ∀ i, P ⟨.hl .pGear, d, i⟩) (h8 : ∀ i, P ⟨.hl .pState, d, i⟩) (h9 : ∀ i, P ⟨.boot .procCalled, 0, i⟩) (h10 : ∀ i, P ⟨.boot .procCode, 0, i⟩) (h11 : ∀ i, P ⟨.boot .procDone, 0, i⟩) (h12 : ∀ i, P ⟨.hl .corrTx, d, i⟩) (h13 : ∀ i, P ⟨.hl .corrRx, d, i⟩) (h14 : ∀ i, P ⟨.sticky .hllNegFail, d, i⟩) (h15 : ∀ i, P ⟨.hl .state, d, i⟩) (h16 : ∀ i, P ⟨.hl .failReason, d, i⟩) (h17 : ∀ i, P ⟨.hl .readyLeft, d, i⟩) (h18 : ∀ i, P ⟨.hl .readyRun, d, i⟩) (h19 : ∀ i, P ⟨.hl .rxReady, d, i⟩) (qreports : Q .reports) :
    Reach P Q s0 (State.lockLost s d l) := by
  unfold State.lockLost
  repeat' with_reducible first | assumption | apply State.set_reach | apply State.when_reach | apply State.laneFail_reach | (intros; show P _ = true; apply_assumption) | split | dsimp only | intro _

theorem execNegFrameRx_reach {d : Nat} {l : Nat} {f : Sys2Proof.NegFrame} (hs : Reach P Q s0 s) (hsum : ∀ k, k.cell.summary → P k) (h11 : ∀ i, P ⟨.hl .countdown, d, i⟩) (h12 : ∀ i, P ⟨.sticky .hlpLinkDown, d, i⟩) (h13 : ∀ i, P ⟨.live .hlpLinkDown, d, i⟩) (h14 : ∀ i, P ⟨.hl .pGear, d, i⟩) (h15 : ∀ i, P ⟨.hl .pState, d, i⟩) (h16 : ∀ i, P ⟨.boot .procCalled, 0, i⟩) (h17 : ∀ i, P ⟨.boot .procCode, 0, i⟩) (h18 : ∀ i, P ⟨.boot .procDone, 0, i⟩) (h19 : ∀ i, P ⟨.hl .corrTx, d, i⟩) (h20 : ∀ i, P ⟨.hl .corrRx, d, i⟩) (h21 : ∀ i, P ⟨.live .hllLol, d, i⟩) (h22 : ∀ i, P ⟨.hl .cdrLock, d, i⟩) (h23 : ∀ i, P ⟨.hl .sig, d, i⟩) (h24 : ∀ i, P ⟨.hl .idleRun, d, i⟩) (h25 : ∀ i, P ⟨.hl .keep, d, i⟩) (h26 : ∀ i, P ⟨.hl .relock, d, i⟩) (h27 : ∀ i, P ⟨.hl .state, d, i⟩) (h28 : ∀ i, P ⟨.hl .readyLeft, d, i⟩) (h29 : ∀ i, P ⟨.hl .badRun, d, i⟩) (h30 : ∀ i, P ⟨.hl .goodRun, d, i⟩) (h31 : ∀ i, P ⟨.hl .fLock, d, i⟩) (h32 : ∀ i, P ⟨.sticky .hllStepFail, d, i⟩) (h33 : ∀ i, P ⟨.hl .nStepFail, d, i⟩) (h34 : ∀ i, P ⟨.hl .stepFails, d, i⟩) (h35 : ∀ i, P ⟨.hl .switched, d, i⟩) (h36 : ∀ i, P ⟨.hl .fellBack, d, i⟩) (h37 : ∀ i, P ⟨.sticky .hllNegFail, d, i⟩) (h38 : ∀ i, P ⟨.hl .failReason, d, i⟩) (h39 : ∀ i, P ⟨.hl .readyRun, d, i⟩) (h40 : ∀ i, P ⟨.hl .rxReady, d, i⟩) (h41 : ∀ i, P ⟨.hl .farCount, d, i⟩) (h42 : ∀ i, P ⟨.hl .reqSeq, d, i⟩) (h43 : ∀ i, P ⟨.hl .reqResult, d, i⟩) (h44 : ∀ i, P ⟨.hl .eqCp1, d, i⟩) (h45 : ∀ i, P ⟨.hl .eqCm1, d, i⟩) (h46 : ∀ i, P ⟨.hl .eqCm2, d, i⟩) (h47 : ∀ i, P ⟨.hl .capsRun, d, i⟩) (h48 : ∀ i, P ⟨.hl .farPreCap, d, i⟩) (h49 : ∀ i, P ⟨.hl .farGearMax, d, i⟩) (h50 : ∀ i, P ⟨.hl .preNext, d, i⟩) (h51 : ∀ i, P ⟨.hl .preTx, d, i⟩) (qreports : Q .reports) :
    ∃ t, execNegFrameRx d l f s = .next t ∧ Reach P Q s0 t := by
  unfold execNegFrameRx
  repeat' with_reducible first | assumption | apply finishIf_reach | apply State.framePeriod_reach | apply State.set_reach | apply State.lockGained_reach | apply State.readWordHl_reach | apply State.lockLost_reach | (intros; show P _ = true; first | exact hsum _ rfl | (clear hsum; apply_assumption)) | split | dsimp only | intro _

theorem execNegGearSwitch_reach {d : Nat} {l : Nat} (hs : Reach P Q s0 s) (hsum : ∀ k, k.cell.summary → P k) (h11 : ∀ i, P ⟨.hl .oldPre, d, i⟩) (h12 : ∀ i, P ⟨.hl .oldTaps, d, i⟩) (h13 : ∀ i, P ⟨.hl .switched, d, i⟩) (h14 : ∀ i, P ⟨.hl .eqCp1, d, i⟩) (h15 : ∀ i, P ⟨.hl .eqCm1, d, i⟩) (h16 : ∀ i, P ⟨.hl .eqCm2, d, i⟩) (h17 : ∀ i, P ⟨.hl .gear, d, i⟩) (h18 : ∀ i, P ⟨.hl .readyLeft, d, i⟩) (h19 : ∀ i, P ⟨.hl .readyRun, d, i⟩) (h20 : ∀ i, P ⟨.hl .rxReady, d, i⟩) (h21 : ∀ i, P ⟨.hl .badRun, d, i⟩) (h22 : ∀ i, P ⟨.hl .goodRun, d, i⟩) (h23 : ∀ i, P ⟨.hl .fLock, d, i⟩) (h24 : ∀ i, P ⟨.hl .preRx, d, i⟩) (h25 : ∀ i, P ⟨.hl .preTx, d, i⟩) (qreports : Q .reports) :
    ∃ t, execNegGearSwitch d l s = .next t ∧ Reach P Q s0 t := by
  unfold execNegGearSwitch
  repeat' with_reducible first | assumption | apply finishIf_reach | apply State.set_reach | apply State.setTaps_reach | apply State.laneSearch_reach | apply State.setB_reach | (intros; show P _ = true; first | exact hsum _ rfl | (clear hsum; apply_assumption)) | split | dsimp only | intro _

theorem execPrbsCheckerSync_reach {d : Nat} {l : Nat} {bits : Nat} {errs : Nat} (hs : Reach P Q s0 s) (hsum : ∀ k, k.cell.summary → P k) (h11 : ∀ i, P ⟨.hl .nPrbsErr, d, i⟩) (h12 : ∀ i, P ⟨.hl .nPrbsBits, d, i⟩) (h13 : ∀ i, P ⟨.sticky .hllPrbsErr, d, i⟩) (h14 : ∀ i, P ⟨.hl .prbsLock, d, i⟩) (qreports : Q .reports) :
    ∃ t, execPrbsCheckerSync d l bits errs s = .next t ∧ Reach P Q s0 t := by
  unfold execPrbsCheckerSync
  repeat' with_reducible first | assumption | apply finishIf_reach | apply State.when_reach | apply State.add_reach | apply State.event_reach | apply State.set_reach | (intros; show P _ = true; first | exact hsum _ rfl | (clear hsum; apply_assumption)) | split | dsimp only | intro _

theorem execPfcXon_reach {d : Nat} {p : Nat} (hs : Reach P Q s0 s) (hsum : ∀ k, k.cell.summary → P k) (h11 : ∀ i, P ⟨.hl .pfcTold, d, i⟩) (h12 : ∀ i, P ⟨.hl .nPfcTx, d, i⟩) (qreports : Q .reports) :
    ∃ t, execPfcXon d p s = .next t ∧ Reach P Q s0 t := by
  unfold execPfcXon
  repeat' with_reducible first | assumption | apply finishIf_reach | apply State.pfcSend_reach | (intros; show P _ = true; first | exact hsum _ rfl | (clear hsum; apply_assumption)) | split | dsimp only | intro _

theorem execEyeSweepDone_reach {d : Nat} {l : Nat} {eyes : List Sys2Proof.Eye} (hs : Reach P Q s0 s) (hsum : ∀ k, k.cell.summary → P k) (h11 : ∀ i, P ⟨.hl .mutValid, d, i⟩) (h12 : ∀ i, P ⟨.hl .mut, d, i⟩) (h13 : ∀ i, P ⟨.hl .worstEye, d, i⟩) (h14 : ∀ i, P ⟨.hl .eyeH, d, i⟩) (h15 : ∀ i, P ⟨.hl .eyeV, d, i⟩) (h16 : ∀ i, P ⟨.sticky .hllMarginLow, d, i⟩) (h17 : ∀ i, P ⟨.live .hllMarginLow, d, i⟩) (h18 : ∀ i, P ⟨.hl .rxReady, d, i⟩) (qreports : Q .reports) :
    ∃ t, execEyeSweepDone d l eyes s = .next t ∧ Reach P Q s0 t := by
  unfold execEyeSweepDone
  repeat' with_reducible first | assumption | apply finishIf_reach | apply State.set_reach | apply State.when_reach | apply State.cond_reach | apply foldl_reach | (intros; show P _ = true; first | exact hsum _ rfl | (clear hsum; apply_assumption)) | split | dsimp only | intro _

theorem execHlLol_reach {d : Nat} {l : Nat} (hs : Reach P Q s0 s) (hsum : ∀ k, k.cell.summary → P k) (h11 : ∀ i, P ⟨.hl .nLolEnter, d, i⟩) (h12 : ∀ i, P ⟨.sticky .hllLol, d, i⟩) (h13 : ∀ i, P ⟨.live .hllLol, d, i⟩) (h14 : ∀ i, P ⟨.hl .cdrLock, d, i⟩) (h15 : ∀ i, P ⟨.sticky .hlpLinkDown, d, i⟩) (h16 : ∀ i, P ⟨.live .hlpLinkDown, d, i⟩) (h17 : ∀ i, P ⟨.hl .pGear, d, i⟩) (h18 : ∀ i, P ⟨.hl .pState, d, i⟩) (h19 : ∀ i, P ⟨.boot .procCalled, 0, i⟩) (h20 : ∀ i, P ⟨.boot .procCode, 0, i⟩) (h21 : ∀ i, P ⟨.boot .procDone, 0, i⟩) (h22 : ∀ i, P ⟨.hl .corrTx, d, i⟩) (h23 : ∀ i, P ⟨.hl .corrRx, d, i⟩) (h24 : ∀ i, P ⟨.hl .state, d, i⟩) (h25 : ∀ i, P ⟨.hl .relock, d, i⟩) (qreports : Q .reports) :
    ∃ t, execHlLol d l s = .next t ∧ Reach P Q s0 t := by
  unfold execHlLol
  repeat' with_reducible first | assumption | apply finishIf_reach | apply State.inc_reach | apply State.raise_reach | apply State.set_reach | apply State.laneDone_reach | (intros; show P _ = true; first | exact hsum _ rfl | (clear hsum; apply_assumption)) | split | dsimp only | intro _

theorem execEscanStart_reach {d : Nat} {l : Nat} (hs : Reach P Q s0 s) (hsum : ∀ k, k.cell.summary → P k) (h11 : ∀ i, P ⟨.hl .mutValid, d, i⟩) (h12 : ∀ i, P ⟨.hl .escanErr, d, i⟩) (h13 : ∀ i, P ⟨.hl .escanBusy, d, i⟩) (qreports : Q .reports) :
    ∃ t, execEscanStart d l s = .next t ∧ Reach P Q s0 t := by
  unfold execEscanStart
  repeat' with_reducible first | assumption | apply finishIf_reach | apply State.escanBegin_reach | (intros; show P _ = true; first | exact hsum _ rfl | (clear hsum; apply_assumption)) | split | dsimp only | intro _

theorem execPfcRefreshTimer_reach {d : Nat} {p : Nat} (hs : Reach P Q s0 s) (hsum : ∀ k, k.cell.summary → P k) (h11 : ∀ i, P ⟨.hl .pfcTold, d, i⟩) (h12 : ∀ i, P ⟨.hl .nPfcTx, d, i⟩) (qreports : Q .reports) :
    ∃ t, execPfcRefreshTimer d p s = .next t ∧ Reach P Q s0 t := by
  unfold execPfcRefreshTimer
  repeat' with_reducible first | assumption | apply finishIf_reach | apply State.pfcSend_reach | (intros; show P _ = true; first | exact hsum _ rfl | (clear hsum; apply_assumption)) | split | dsimp only | intro _

theorem execNegWaitExpiry_reach {d : Nat} {l : Nat} (hs : Reach P Q s0 s) (hsum : ∀ k, k.cell.summary → P k) (h11 : ∀ i, P ⟨.sticky .hlpLinkDown, d, i⟩) (h12 : ∀ i, P ⟨.live .hlpLinkDown, d, i⟩) (h13 : ∀ i, P ⟨.hl .pGear, d, i⟩) (h14 : ∀ i, P ⟨.hl .pState, d, i⟩) (h15 : ∀ i, P ⟨.boot .procCalled, 0, i⟩) (h16 : ∀ i, P ⟨.boot .procCode, 0, i⟩) (h17 : ∀ i, P ⟨.boot .procDone, 0, i⟩) (h18 : ∀ i, P ⟨.hl .corrTx, d, i⟩) (h19 : ∀ i, P ⟨.hl .corrRx, d, i⟩) (h20 : ∀ i, P ⟨.hl .state, d, i⟩) (h21 : ∀ i, P ⟨.hl .cdrLock, d, i⟩) (h22 : ∀ i, P ⟨.hl .preRx, d, i⟩) (h23 : ∀ i, P ⟨.hl .preTx, d, i⟩) (h24 : ∀ i, P ⟨.hl .eqCp1, d, i⟩) (h25 : ∀ i, P ⟨.hl .eqCm1, d, i⟩) (h26 : ∀ i, P ⟨.hl .eqCm2, d, i⟩) (h27 : ∀ i, P ⟨.hl .gear, d, i⟩) (h28 : ∀ i, P ⟨.hl .idleRun, d, i⟩) (h29 : ∀ i, P ⟨.hl .keep, d, i⟩) (h30 : ∀ i, P ⟨.hl .relock, d, i⟩) (h31 : ∀ i, P ⟨.hl .waitSig, d, i⟩) (h32 : ∀ i, P ⟨.hl .reqResult, d, i⟩) (h33 : ∀ i, P ⟨.hl .reqSeq, d, i⟩) (h34 : ∀ i, P ⟨.hl .stepFails, d, i⟩) (h35 : ∀ i, P ⟨.hl .fellBack, d, i⟩) (h36 : ∀ i, P ⟨.hl .switched, d, i⟩) (h37 : ∀ i, P ⟨.hl .preNext, d, i⟩) (h38 : ∀ i, P ⟨.hl .farCount, d, i⟩) (h39 : ∀ i, P ⟨.hl .countdown, d, i⟩) (h40 : ∀ i, P ⟨.hl .farPreCap, d, i⟩) (h41 : ∀ i, P ⟨.hl .capsRun, d, i⟩) (h42 : ∀ i, P ⟨.hl .readyLeft, d, i⟩) (h43 : ∀ i, P ⟨.hl .readyRun, d, i⟩) (h44 : ∀ i, P ⟨.hl .rxReady, d, i⟩) (h45 : ∀ i, P ⟨.hl .badRun, d, i⟩) (h46 : ∀ i, P ⟨.hl .goodRun, d, i⟩) (h47 : ∀ i, P ⟨.hl .fLock, d, i⟩) (h48 : ∀ i, P ⟨.hl .nNegAttempt, d, i⟩) (qreports : Q .reports) :
    ∃ t, execNegWaitExpiry d l s = .next t ∧ Reach P Q s0 t := by
  unfold execNegWaitExpiry
  repeat' with_reducible first | assumption | apply finishIf_reach | apply State.laneDone_reach | apply State.laneStart_reach | (intros; show P _ = true; first | exact hsum _ rfl | (clear hsum; apply_assumption)) | split | dsimp only | intro _

theorem execHlSignalReturn_reach {d : Nat} {l : Nat} (hs : Reach P Q s0 s) (hsum : ∀ k, k.cell.summary → P k) (h11 : ∀ i, P ⟨.sticky .hlpLinkDown, d, i⟩) (h12 : ∀ i, P ⟨.live .hlpLinkDown, d, i⟩) (h13 : ∀ i, P ⟨.hl .pGear, d, i⟩) (h14 : ∀ i, P ⟨.hl .pState, d, i⟩) (h15 : ∀ i, P ⟨.boot .procCalled, 0, i⟩) (h16 : ∀ i, P ⟨.boot .procCode, 0, i⟩) (h17 : ∀ i, P ⟨.boot .procDone, 0, i⟩) (h18 : ∀ i, P ⟨.hl .corrTx, d, i⟩) (h19 : ∀ i, P ⟨.hl .corrRx, d, i⟩) (h20 : ∀ i, P ⟨.hl .state, d, i⟩) (h21 : ∀ i, P ⟨.hl .cdrLock, d, i⟩) (h22 : ∀ i, P ⟨.hl .preRx, d, i⟩) (h23 : ∀ i, P ⟨.hl .preTx, d, i⟩) (h24 : ∀ i, P ⟨.hl .eqCp1, d, i⟩) (h25 : ∀ i, P ⟨.hl .eqCm1, d, i⟩) (h26 : ∀ i, P ⟨.hl .eqCm2, d, i⟩) (h27 : ∀ i, P ⟨.hl .gear, d, i⟩) (h28 : ∀ i, P ⟨.hl .idleRun, d, i⟩) (h29 : ∀ i, P ⟨.hl .keep, d, i⟩) (h30 : ∀ i, P ⟨.hl .relock, d, i⟩) (h31 : ∀ i, P ⟨.hl .waitSig, d, i⟩) (h32 : ∀ i, P ⟨.hl .reqResult, d, i⟩) (h33 : ∀ i, P ⟨.hl .reqSeq, d, i⟩) (h34 : ∀ i, P ⟨.hl .stepFails, d, i⟩) (h35 : ∀ i, P ⟨.hl .fellBack, d, i⟩) (h36 : ∀ i, P ⟨.hl .switched, d, i⟩) (h37 : ∀ i, P ⟨.hl .preNext, d, i⟩) (h38 : ∀ i, P ⟨.hl .farCount, d, i⟩) (h39 : ∀ i, P ⟨.hl .countdown, d, i⟩) (h40 : ∀ i, P ⟨.hl .farPreCap, d, i⟩) (h41 : ∀ i, P ⟨.hl .capsRun, d, i⟩) (h42 : ∀ i, P ⟨.hl .readyLeft, d, i⟩) (h43 : ∀ i, P ⟨.hl .readyRun, d, i⟩) (h44 : ∀ i, P ⟨.hl .rxReady, d, i⟩) (h45 : ∀ i, P ⟨.hl .badRun, d, i⟩) (h46 : ∀ i, P ⟨.hl .goodRun, d, i⟩) (h47 : ∀ i, P ⟨.hl .fLock, d, i⟩) (h48 : ∀ i, P ⟨.hl .nNegAttempt, d, i⟩) (h49 : ∀ i, P ⟨.live .hllLos, d, i⟩) (h50 : ∀ i, P ⟨.hl .sig, d, i⟩) (qreports : Q .reports) :
    ∃ t, execHlSignalReturn d l s = .next t ∧ Reach P Q s0 t := by
  unfold execHlSignalReturn
  repeat' with_reducible first | assumption | apply finishIf_reach | apply State.laneDone_reach | apply State.laneStart_reach | apply State.lower_reach | apply State.set_reach | (intros; show P _ = true; first | exact hsum _ rfl | (clear hsum; apply_assumption)) | split | dsimp only | intro _

theorem execEscanDone_reach {d : Nat} {l : Nat} {errs : Nat} (hs : Reach P Q s0 s) (hsum : ∀ k, k.cell.summary → P k) (h11 : ∀ i, P ⟨.hl .escanErr, d, i⟩) (h12 : ∀ i, P ⟨.hl .escanBusy, d, i⟩) (qreports : Q .reports) :
    ∃ t, execEscanDone d l errs s = .next t ∧ Reach P Q s0 t := by
  unfold execEscanDone
  repeat' with_reducible first | assumption | apply finishIf_reach | apply State.set_reach | (intros; show P _ = true; first | exact hsum _ rfl | (clear hsum; apply_assumption)) | split | dsimp only | intro _

theorem execIdleEnter_reach {d : Nat} {p : Nat} (hs : Reach P Q s0 s) (hsum : ∀ k, k.cell.summary → P k) (h11 : ∀ i, P ⟨.sticky .hlpLinkDown, d, i⟩) (h12 : ∀ i, P ⟨.live .hlpLinkDown, d, i⟩) (h13 : ∀ i, P ⟨.hl .pGear, d, i⟩) (h14 : ∀ i, P ⟨.hl .pState, d, i⟩) (h15 : ∀ i, P ⟨.boot .procCalled, 0, i⟩) (h16 : ∀ i, P ⟨.boot .procCode, 0, i⟩) (h17 : ∀ i, P ⟨.boot .procDone, 0, i⟩) (h18 : ∀ i, P ⟨.hl .corrTx, d, i⟩) (h19 : ∀ i, P ⟨.hl .corrRx, d, i⟩) (h20 : ∀ i, P ⟨.hl .idleReq, d, i⟩) (h21 : ∀ i, P ⟨.hl .keep, d, i⟩) (h22 : ∀ i, P ⟨.hl .state, d, i⟩) (h23 : ∀ i, P ⟨.hl .idleRun, d, i⟩) (h24 : ∀ i, P ⟨.hl .relock, d, i⟩) (h25 : ∀ i, P ⟨.hl .waitSig, d, i⟩) (h26 : ∀ i, P ⟨.hl .reqResult, d, i⟩) (h27 : ∀ i, P ⟨.hl .reqSeq, d, i⟩) (h28 : ∀ i, P ⟨.hl .stepFails, d, i⟩) (h29 : ∀ i, P ⟨.hl .fellBack, d, i⟩) (h30 : ∀ i, P ⟨.hl .switched, d, i⟩) (h31 : ∀ i, P ⟨.hl .preNext, d, i⟩) (h32 : ∀ i, P ⟨.hl .farCount, d, i⟩) (h33 : ∀ i, P ⟨.hl .countdown, d, i⟩) (h34 : ∀ i, P ⟨.hl .farPreCap, d, i⟩) (h35 : ∀ i, P ⟨.hl .capsRun, d, i⟩) (h36 : ∀ i, P ⟨.hl .readyLeft, d, i⟩) (h37 : ∀ i, P ⟨.hl .readyRun, d, i⟩) (h38 : ∀ i, P ⟨.hl .rxReady, d, i⟩) (h39 : ∀ i, P ⟨.hl .badRun, d, i⟩) (h40 : ∀ i, P ⟨.hl .goodRun, d, i⟩) (h41 : ∀ i, P ⟨.hl .fLock, d, i⟩) (qreports : Q .reports) :
    ∃ t, execIdleEnter d p s = .next t ∧ Reach P Q s0 t := by
  unfold execIdleEnter
  repeat' with_reducible first | assumption | apply finishIf_reach | apply State.portIdle_reach | (intros; show P _ = true; first | exact hsum _ rfl | (clear hsum; apply_assumption)) | split | dsimp only | intro _

theorem execPortEnable_reach {d : Nat} {p : Nat} (hs : Reach P Q s0 s) (hsum : ∀ k, k.cell.summary → P k) (h11 : ∀ i, P ⟨.hl .portEn, d, i⟩) (h12 : ∀ i, P ⟨.sticky .hlpLinkDown, d, i⟩) (h13 : ∀ i, P ⟨.live .hlpLinkDown, d, i⟩) (h14 : ∀ i, P ⟨.hl .pGear, d, i⟩) (h15 : ∀ i, P ⟨.hl .pState, d, i⟩) (h16 : ∀ i, P ⟨.boot .procCalled, 0, i⟩) (h17 : ∀ i, P ⟨.boot .procCode, 0, i⟩) (h18 : ∀ i, P ⟨.boot .procDone, 0, i⟩) (h19 : ∀ i, P ⟨.hl .corrTx, d, i⟩) (h20 : ∀ i, P ⟨.hl .corrRx, d, i⟩) (h21 : ∀ i, P ⟨.hl .state, d, i⟩) (h22 : ∀ i, P ⟨.hl .cdrLock, d, i⟩) (h23 : ∀ i, P ⟨.hl .preRx, d, i⟩) (h24 : ∀ i, P ⟨.hl .preTx, d, i⟩) (h25 : ∀ i, P ⟨.hl .eqCp1, d, i⟩) (h26 : ∀ i, P ⟨.hl .eqCm1, d, i⟩) (h27 : ∀ i, P ⟨.hl .eqCm2, d, i⟩) (h28 : ∀ i, P ⟨.hl .gear, d, i⟩) (h29 : ∀ i, P ⟨.hl .idleRun, d, i⟩) (h30 : ∀ i, P ⟨.hl .keep, d, i⟩) (h31 : ∀ i, P ⟨.hl .relock, d, i⟩) (h32 : ∀ i, P ⟨.hl .waitSig, d, i⟩) (h33 : ∀ i, P ⟨.hl .reqResult, d, i⟩) (h34 : ∀ i, P ⟨.hl .reqSeq, d, i⟩) (h35 : ∀ i, P ⟨.hl .stepFails, d, i⟩) (h36 : ∀ i, P ⟨.hl .fellBack, d, i⟩) (h37 : ∀ i, P ⟨.hl .switched, d, i⟩) (h38 : ∀ i, P ⟨.hl .preNext, d, i⟩) (h39 : ∀ i, P ⟨.hl .farCount, d, i⟩) (h40 : ∀ i, P ⟨.hl .countdown, d, i⟩) (h41 : ∀ i, P ⟨.hl .farPreCap, d, i⟩) (h42 : ∀ i, P ⟨.hl .capsRun, d, i⟩) (h43 : ∀ i, P ⟨.hl .readyLeft, d, i⟩) (h44 : ∀ i, P ⟨.hl .readyRun, d, i⟩) (h45 : ∀ i, P ⟨.hl .rxReady, d, i⟩) (h46 : ∀ i, P ⟨.hl .badRun, d, i⟩) (h47 : ∀ i, P ⟨.hl .goodRun, d, i⟩) (h48 : ∀ i, P ⟨.hl .fLock, d, i⟩) (h49 : ∀ i, P ⟨.hl .nNegAttempt, d, i⟩) (qreports : Q .reports) :
    ∃ t, execPortEnable d p s = .next t ∧ Reach P Q s0 t := by
  unfold execPortEnable
  repeat' with_reducible first | assumption | apply finishIf_reach | apply State.portStart_reach | (intros; show P _ = true; first | exact hsum _ rfl | (clear hsum; apply_assumption)) | split | dsimp only | intro _

theorem execHostIdleExitRx_reach {d : Nat} {l : Nat} {locked : Bool} (hs : Reach P Q s0 s) (hsum : ∀ k, k.cell.summary → P k) (h11 : ∀ i, P ⟨.sticky .hlpLinkDown, d, i⟩) (h12 : ∀ i, P ⟨.live .hlpLinkDown, d, i⟩) (h13 : ∀ i, P ⟨.hl .pGear, d, i⟩) (h14 : ∀ i, P ⟨.hl .pState, d, i⟩) (h15 : ∀ i, P ⟨.boot .procCalled, 0, i⟩) (h16 : ∀ i, P ⟨.boot .procCode, 0, i⟩) (h17 : ∀ i, P ⟨.boot .procDone, 0, i⟩) (h18 : ∀ i, P ⟨.hl .corrTx, d, i⟩) (h19 : ∀ i, P ⟨.hl .corrRx, d, i⟩) (h20 : ∀ i, P ⟨.live .hllLol, d, i⟩) (h21 : ∀ i, P ⟨.hl .cdrLock, d, i⟩) (h22 : ∀ i, P ⟨.hl .sig, d, i⟩) (h23 : ∀ i, P ⟨.hl .idleRun, d, i⟩) (h24 : ∀ i, P ⟨.hl .keep, d, i⟩) (h25 : ∀ i, P ⟨.hl .relock, d, i⟩) (h26 : ∀ i, P ⟨.hl .state, d, i⟩) (h27 : ∀ i, P ⟨.hl .preRx, d, i⟩) (h28 : ∀ i, P ⟨.hl .preTx, d, i⟩) (h29 : ∀ i, P ⟨.hl .eqCp1, d, i⟩) (h30 : ∀ i, P ⟨.hl .eqCm1, d, i⟩) (h31 : ∀ i, P ⟨.hl .eqCm2, d, i⟩) (h32 : ∀ i, P ⟨.hl .gear, d, i⟩) (h33 : ∀ i, P ⟨.hl .waitSig, d, i⟩) (h34 : ∀ i, P ⟨.hl .reqResult, d, i⟩) (h35 : ∀ i, P ⟨.hl .reqSeq, d, i⟩) (h36 : ∀ i, P ⟨.hl .stepFails, d, i⟩) (h37 : ∀ i, P ⟨.hl .fellBack, d, i⟩) (h38 : ∀ i, P ⟨.hl .switched, d, i⟩) (h39 : ∀ i, P ⟨.hl .preNext, d, i⟩) (h40 : ∀ i, P ⟨.hl .farCount, d, i⟩) (h41 : ∀ i, P ⟨.hl .countdown, d, i⟩) (h42 : ∀ i, P ⟨.hl .farPreCap, d, i⟩) (h43 : ∀ i, P ⟨.hl .capsRun, d, i⟩) (h44 : ∀ i, P ⟨.hl .readyLeft, d, i⟩) (h45 : ∀ i, P ⟨.hl .readyRun, d, i⟩) (h46 : ∀ i, P ⟨.hl .rxReady, d, i⟩) (h47 : ∀ i, P ⟨.hl .badRun, d, i⟩) (h48 : ∀ i, P ⟨.hl .goodRun, d, i⟩) (h49 : ∀ i, P ⟨.hl .fLock, d, i⟩) (h50 : ∀ i, P ⟨.hl .nNegAttempt, d, i⟩) (h51 : ∀ i, P ⟨.hl .nIdleExitFail, d, i⟩) (h52 : ∀ i, P ⟨.sticky .hllNegFail, d, i⟩) (h53 : ∀ i, P ⟨.sticky .hllIdleExitFail, d, i⟩) (h54 : ∀ i, P ⟨.hl .failReason, d, i⟩) (qreports : Q .reports) :
    ∃ t, execHostIdleExitRx d l locked s = .next t ∧ Reach P Q s0 t := by
  unfold execHostIdleExitRx
  repeat' with_reducible first | assumption | apply finishIf_reach | apply State.laneUp_reach | apply State.laneDone_reach | apply State.laneStart_reach | apply State.inc_reach | apply State.event_reach | apply State.set_reach | (intros; show P _ = true; first | exact hsum _ rfl | (clear hsum; apply_assumption)) | split | dsimp only | intro _

theorem execPortDisable_reach {d : Nat} {p : Nat} (hs : Reach P Q s0 s) (hsum : ∀ k, k.cell.summary → P k) (h11 : ∀ i, P ⟨.live .hlpFecDegrade, d, i⟩) (h12 : ∀ i, P ⟨.live .hlpRfRx, d, i⟩) (h13 : ∀ i, P ⟨.live .hlpLfRx, d, i⟩) (h14 : ∀ i, P ⟨.hl .pfcTold, d, i⟩) (h15 : ∀ i, P ⟨.sticky .hlpLinkDown, d, i⟩) (h16 : ∀ i, P ⟨.live .hlpLinkDown, d, i⟩) (h17 : ∀ i, P ⟨.hl .pGear, d, i⟩) (h18 : ∀ i, P ⟨.hl .pState, d, i⟩) (h19 : ∀ i, P ⟨.boot .procCalled, 0, i⟩) (h20 : ∀ i, P ⟨.boot .procCode, 0, i⟩) (h21 : ∀ i, P ⟨.boot .procDone, 0, i⟩) (h22 : ∀ i, P ⟨.hl .corrTx, d, i⟩) (h23 : ∀ i, P ⟨.hl .corrRx, d, i⟩) (h24 : ∀ i, P ⟨.hl .portEn, d, i⟩) (h25 : ∀ i, P ⟨.live .hllLol, d, i⟩) (h26 : ∀ i, P ⟨.live .hllLos, d, i⟩) (h27 : ∀ i, P ⟨.hl .sig, d, i⟩) (h28 : ∀ i, P ⟨.hl .cdrLock, d, i⟩) (h29 : ∀ i, P ⟨.hl .preRx, d, i⟩) (h30 : ∀ i, P ⟨.hl .preTx, d, i⟩) (h31 : ∀ i, P ⟨.hl .eqCp1, d, i⟩) (h32 : ∀ i, P ⟨.hl .eqCm1, d, i⟩) (h33 : ∀ i, P ⟨.hl .eqCm2, d, i⟩) (h34 : ∀ i, P ⟨.hl .gear, d, i⟩) (h35 : ∀ i, P ⟨.hl .state, d, i⟩) (h36 : ∀ i, P ⟨.hl .idleRun, d, i⟩) (h37 : ∀ i, P ⟨.hl .keep, d, i⟩) (h38 : ∀ i, P ⟨.hl .relock, d, i⟩) (h39 : ∀ i, P ⟨.hl .waitSig, d, i⟩) (h40 : ∀ i, P ⟨.hl .reqResult, d, i⟩) (h41 : ∀ i, P ⟨.hl .reqSeq, d, i⟩) (h42 : ∀ i, P ⟨.hl .stepFails, d, i⟩) (h43 : ∀ i, P ⟨.hl .fellBack, d, i⟩) (h44 : ∀ i, P ⟨.hl .switched, d, i⟩) (h45 : ∀ i, P ⟨.hl .preNext, d, i⟩) (h46 : ∀ i, P ⟨.hl .farCount, d, i⟩) (h47 : ∀ i, P ⟨.hl .countdown, d, i⟩) (h48 : ∀ i, P ⟨.hl .farPreCap, d, i⟩) (h49 : ∀ i, P ⟨.hl .capsRun, d, i⟩) (h50 : ∀ i, P ⟨.hl .readyLeft, d, i⟩) (h51 : ∀ i, P ⟨.hl .readyRun, d, i⟩) (h52 : ∀ i, P ⟨.hl .rxReady, d, i⟩) (h53 : ∀ i, P ⟨.hl .badRun, d, i⟩) (h54 : ∀ i, P ⟨.hl .goodRun, d, i⟩) (h55 : ∀ i, P ⟨.hl .fLock, d, i⟩) (qreports : Q .reports) :
    ∃ t, execPortDisable d p s = .next t ∧ Reach P Q s0 t := by
  unfold execPortDisable
  repeat' with_reducible first | assumption | apply finishIf_reach | apply State.portStop_reach | (intros; show P _ = true; first | exact hsum _ rfl | (clear hsum; apply_assumption)) | split | dsimp only | intro _

theorem execForcedCdrLock_reach {d : Nat} {l : Nat} (hs : Reach P Q s0 s) (hsum : ∀ k, k.cell.summary → P k) (h11 : ∀ i, P ⟨.sticky .hlpLinkDown, d, i⟩) (h12 : ∀ i, P ⟨.live .hlpLinkDown, d, i⟩) (h13 : ∀ i, P ⟨.hl .pGear, d, i⟩) (h14 : ∀ i, P ⟨.hl .pState, d, i⟩) (h15 : ∀ i, P ⟨.boot .procCalled, 0, i⟩) (h16 : ∀ i, P ⟨.boot .procCode, 0, i⟩) (h17 : ∀ i, P ⟨.boot .procDone, 0, i⟩) (h18 : ∀ i, P ⟨.hl .corrTx, d, i⟩) (h19 : ∀ i, P ⟨.hl .corrRx, d, i⟩) (h20 : ∀ i, P ⟨.live .hllLol, d, i⟩) (h21 : ∀ i, P ⟨.hl .cdrLock, d, i⟩) (h22 : ∀ i, P ⟨.hl .sig, d, i⟩) (h23 : ∀ i, P ⟨.hl .idleRun, d, i⟩) (h24 : ∀ i, P ⟨.hl .keep, d, i⟩) (h25 : ∀ i, P ⟨.hl .relock, d, i⟩) (h26 : ∀ i, P ⟨.hl .state, d, i⟩) (qreports : Q .reports) :
    ∃ t, execForcedCdrLock d l s = .next t ∧ Reach P Q s0 t := by
  unfold execForcedCdrLock
  repeat' with_reducible first | assumption | apply finishIf_reach | apply State.laneUp_reach | (intros; show P _ = true; first | exact hsum _ rfl | (clear hsum; apply_assumption)) | split | dsimp only | intro _

theorem execHostFecDegradeInterval_reach {d : Nat} {p : Nat} (hs : Reach P Q s0 s) (hsum : ∀ k, k.cell.summary → P k) (h11 : ∀ i, P ⟨.hl .symMs, d, i⟩) (h12 : ∀ i, P ⟨.sticky .hlpFecDegrade, d, i⟩) (h13 : ∀ i, P ⟨.live .hlpFecDegrade, d, i⟩) (qreports : Q .reports) :
    ∃ t, execHostFecDegradeInterval d p s = .next t ∧ Reach P Q s0 t := by
  unfold execHostFecDegradeInterval
  repeat' with_reducible first | assumption | apply finishIf_reach | apply State.set_reach | apply State.cond_reach | (intros; show P _ = true; first | exact hsum _ rfl | (clear hsum; apply_assumption)) | split | dsimp only | intro _

end Sys2Proof.Machine
end

