-- ==== Sys2Proof/Laws/MovesPannier.lean ====
section
/-!
SUPPORT. What the operations of Machine/Pannier.lean may change, one lemma each (Laws/Reach.lean).
-/
namespace Sys2Proof.Machine

set_option linter.unusedTactic false
set_option linter.unreachableTactic false

variable {P : Key → Bool} {Q : Part → Bool} {s0 s : State}

theorem State.panState_reach {d : Nat} {v : Nat} (hs : Reach P Q s0 s) (h1 : ∀ i, P ⟨.sticky .panDown, d, i⟩) (h2 : ∀ i, P ⟨.live .panDown, d, i⟩) (h3 : ∀ i, P ⟨.pan .state, d, i⟩) (qreports : Q .reports) :
    Reach P Q s0 (State.panState s d v) := by
  unfold State.panState
  repeat' with_reducible first | assumption | apply State.cond_reach | apply State.set_reach | (intros; show P _ = true; apply_assumption) | split | dsimp only | intro _

theorem State.blowFuse_reach {d : Nat} {w0 : Nat} {w1 : Nat} (hs : Reach P Q s0 s) (h1 : ∀ i, P ⟨.pan .fuse, d, i⟩) :
    Reach P Q s0 (State.blowFuse s d w0 w1) := by
  unfold State.blowFuse
  repeat' with_reducible first | assumption | apply State.set_reach | (intros; show P _ = true; apply_assumption) | split | dsimp only | intro _

theorem State.spareFollow_reach {d : Nat} (hs : Reach P Q s0 s) (h1 : ∀ i, P ⟨.sticky .panSpareEmpty, d, i⟩) (h2 : ∀ i, P ⟨.live .panSpareEmpty, d, i⟩) (h3 : ∀ i, P ⟨.sticky .panSpareLow, d, i⟩) (h4 : ∀ i, P ⟨.live .panSpareLow, d, i⟩) (qreports : Q .reports) :
    Reach P Q s0 (State.spareFollow s d) := by
  unfold State.spareFollow
  repeat' with_reducible first | assumption | apply State.cond_reach | (intros; show P _ = true; apply_assumption) | split | dsimp only | intro _

theorem State.retireFollow_reach {d : Nat} (hs : Reach P Q s0 s) (h1 : ∀ i, P ⟨.sticky .panMigUrgent, d, i⟩) (h2 : ∀ i, P ⟨.live .panMigUrgent, d, i⟩) (h3 : ∀ i, P ⟨.pan .retirePend, d, i⟩) (qreports : Q .reports) :
    Reach P Q s0 (State.retireFollow s d) := by
  unfold State.retireFollow
  repeat' with_reducible first | assumption | apply State.cond_reach | apply State.set_reach | (intros; show P _ = true; apply_assumption) | split | dsimp only | intro _

theorem State.retireRecord_reach {d : Nat} {cause : Nat} {g : Nat} {old : Nat} {new : Nat} {inPlace : Bool} (hs : Reach P Q s0 s) (h1 : ∀ i, P ⟨.pan .nRetire, d, i⟩) (h2 : ∀ i, P ⟨.pan .records, d, i⟩) (h3 : ∀ i, P ⟨.win .panRetire, d, i⟩) :
    Reach P Q s0 (State.retireRecord s d cause g old new inPlace) := by
  unfold State.retireRecord
  repeat' with_reducible first | assumption | apply State.inc_reach | apply State.set_reach | apply State.setWin_reach | (intros; show P _ = true; apply_assumption) | split | dsimp only | intro _

theorem State.poisonWrite_reach {d : Nat} {g : Nat} (hs : Reach P Q s0 s) (h1 : ∀ i, P ⟨.pan .nPoisonWr, d, i⟩) (h2 : ∀ i, P ⟨.pan .poison, d, i⟩) :
    Reach P Q s0 (State.poisonWrite s d g) := by
  unfold State.poisonWrite
  repeat' with_reducible first | assumption | apply State.inc_reach | apply State.set_reach | (intros; show P _ = true; apply_assumption) | split | dsimp only | intro _

theorem State.remap_reach {d : Nat} {h : Nat} {p : Nat} (hs : Reach P Q s0 s) (h1 : ∀ i, P ⟨.pan .homeOf, d, i⟩) (h2 : ∀ i, P ⟨.pan .mapTo, d, i⟩) :
    Reach P Q s0 (State.remap s d h p) := by
  unfold State.remap
  repeat' with_reducible first | assumption | apply State.set_reach | (intros; show P _ = true; apply_assumption) | split | dsimp only | intro _

theorem State.takeSpare_reach {d : Nat} {p : Nat} (hs : Reach P Q s0 s) (h1 : ∀ i, P ⟨.pan .taken, d, i⟩) (h2 : ∀ i, P ⟨.pan .given, d, i⟩) (h3 : ∀ i, P ⟨.sticky .panSpareEmpty, d, i⟩) (h4 : ∀ i, P ⟨.live .panSpareEmpty, d, i⟩) (h5 : ∀ i, P ⟨.sticky .panSpareLow, d, i⟩) (h6 : ∀ i, P ⟨.live .panSpareLow, d, i⟩) (h7 : ∀ i, P ⟨.pan .sparesLeft, d, i⟩) (qreports : Q .reports) :
    Reach P Q s0 (State.takeSpare s d p) := by
  unfold State.takeSpare
  repeat' with_reducible first | assumption | apply State.set_reach | apply State.spareFollow_reach | (intros; show P _ = true; apply_assumption) | split | dsimp only | intro _

theorem State.faultPage_reach {d : Nat} {g : Nat} {cause : Nat} (hs : Reach P Q s0 s) (h1 : ∀ i, P ⟨.pan .taken, d, i⟩) (h2 : ∀ i, P ⟨.pan .given, d, i⟩) (h3 : ∀ i, P ⟨.sticky .panSpareEmpty, d, i⟩) (h4 : ∀ i, P ⟨.live .panSpareEmpty, d, i⟩) (h5 : ∀ i, P ⟨.sticky .panSpareLow, d, i⟩) (h6 : ∀ i, P ⟨.live .panSpareLow, d, i⟩) (h7 : ∀ i, P ⟨.pan .sparesLeft, d, i⟩) (h8 : ∀ i, P ⟨.sticky .panRetireDrop, d, i⟩) (h9 : ∀ i, P ⟨.pan .nRetireDrop, d, i⟩) (h10 : ∀ i, P ⟨.sticky .panMigUrgent, d, i⟩) (h11 : ∀ i, P ⟨.live .panMigUrgent, d, i⟩) (h12 : ∀ i, P ⟨.pan .retirePend, d, i⟩) (qreports : Q .reports) (qretireQ : Q .retireQ) :
    Reach P Q s0 (State.faultPage s d g cause) := by
  unfold State.faultPage
  repeat' with_reducible first | assumption | apply State.takeSpare_reach | apply State.event_reach | apply State.inc_reach | apply State.retireFollow_reach | (intros; show P _ = true; apply_assumption) | split | dsimp only | intro _ | apply State.retireQ_reach

theorem State.hardFault_reach {d : Nat} {g : Nat} {cause : Nat} (hs : Reach P Q s0 s) (h1 : ∀ i, P ⟨.pan .taken, d, i⟩) (h2 : ∀ i, P ⟨.pan .given, d, i⟩) (h3 : ∀ i, P ⟨.sticky .panSpareEmpty, d, i⟩) (h4 : ∀ i, P ⟨.live .panSpareEmpty, d, i⟩) (h5 : ∀ i, P ⟨.sticky .panSpareLow, d, i⟩) (h6 : ∀ i, P ⟨.live .panSpareLow, d, i⟩) (h7 : ∀ i, P ⟨.pan .sparesLeft, d, i⟩) (h8 : ∀ i, P ⟨.sticky .panRetireDrop, d, i⟩) (h9 : ∀ i, P ⟨.pan .nRetireDrop, d, i⟩) (h10 : ∀ i, P ⟨.sticky .panMigUrgent, d, i⟩) (h11 : ∀ i, P ⟨.live .panMigUrgent, d, i⟩) (h12 : ∀ i, P ⟨.pan .retirePend, d, i⟩) (h13 : ∀ i, P ⟨.sticky .panHardFault, d, i⟩) (h14 : ∀ i, P ⟨.pan .nHard, d, i⟩) (qreports : Q .reports) (qretireQ : Q .retireQ) :
    Reach P Q s0 (State.hardFault s d g cause) := by
  unfold State.hardFault
  repeat' with_reducible first | assumption | apply State.faultPage_reach | apply State.event_reach | apply State.inc_reach | (intros; show P _ = true; apply_assumption) | split | dsimp only | intro _

theorem State.freshUe_reach {d : Nat} {g : Nat} (hs : Reach P Q s0 s) (h1 : ∀ i, P ⟨.pan .taken, d, i⟩) (h2 : ∀ i, P ⟨.pan .given, d, i⟩) (h3 : ∀ i, P ⟨.sticky .panSpareEmpty, d, i⟩) (h4 : ∀ i, P ⟨.live .panSpareEmpty, d, i⟩) (h5 : ∀ i, P ⟨.sticky .panSpareLow, d, i⟩) (h6 : ∀ i, P ⟨.live .panSpareLow, d, i⟩) (h7 : ∀ i, P ⟨.pan .sparesLeft, d, i⟩) (h8 : ∀ i, P ⟨.sticky .panRetireDrop, d, i⟩) (h9 : ∀ i, P ⟨.pan .nRetireDrop, d, i⟩) (h10 : ∀ i, P ⟨.sticky .panMigUrgent, d, i⟩) (h11 : ∀ i, P ⟨.live .panMigUrgent, d, i⟩) (h12 : ∀ i, P ⟨.pan .retirePend, d, i⟩) (h13 : ∀ i, P ⟨.sticky .panHardFault, d, i⟩) (h14 : ∀ i, P ⟨.pan .nHard, d, i⟩) (h15 : ∀ i, P ⟨.pan .nPoisonWr, d, i⟩) (h16 : ∀ i, P ⟨.pan .poison, d, i⟩) (h17 : ∀ i, P ⟨.sticky .panUe, d, i⟩) (h18 : ∀ i, P ⟨.pan .nUe, d, i⟩) (qreports : Q .reports) (qretireQ : Q .retireQ) :
    Reach P Q s0 (State.freshUe s d g) := by
  unfold State.freshUe
  repeat' with_reducible first | assumption | apply State.hardFault_reach | apply State.poisonWrite_reach | apply State.event_reach | apply State.inc_reach | (intros; show P _ = true; apply_assumption) | split | dsimp only | intro _

theorem State.trackClear_reach {d : Nat} (hs : Reach P Q s0 s) (qtracker : Q .tracker) :
    Reach P Q s0 (State.trackClear s d) := by
  unfold State.trackClear
  repeat' with_reducible first | assumption | apply foldl_reach | (intros; show P _ = true; apply_assumption) | split | dsimp only | intro _ | apply State.tracker_reach

theorem State.granWrite_reach {d : Nat} {hg : Nat} (hs : Reach P Q s0 s) (h1 : ∀ i, P ⟨.pan .poison, d, i⟩) (h2 : ∀ i, P ⟨.pan .migDirty, d, i⟩) (h3 : ∀ i, P ⟨.pan .wbPend, d, i⟩) :
    Reach P Q s0 (State.granWrite s d hg) := by
  unfold State.granWrite
  repeat' with_reducible first | assumption | apply State.set_reach | (intros; show P _ = true; apply_assumption) | split | dsimp only | intro _

theorem State.mergeFlush_reach {e : MergeEnt} {oldUe : Bool} {cipherBad : Bool} (hs : Reach P Q s0 s) (h1 : ∀ i, P ⟨.pan .poison, e.die, i⟩) (h2 : ∀ i, P ⟨.pan .migDirty, e.die, i⟩) (h3 : ∀ i, P ⟨.pan .wbPend, e.die, i⟩) (h4 : ∀ i, P ⟨.pan .nMergeRmw, e.die, i⟩) (h5 : ∀ i, P ⟨.pan .taken, e.die, i⟩) (h6 : ∀ i, P ⟨.pan .given, e.die, i⟩) (h7 : ∀ i, P ⟨.sticky .panSpareEmpty, e.die, i⟩) (h8 : ∀ i, P ⟨.live .panSpareEmpty, e.die, i⟩) (h9 : ∀ i, P ⟨.sticky .panSpareLow, e.die, i⟩) (h10 : ∀ i, P ⟨.live .panSpareLow, e.die, i⟩) (h11 : ∀ i, P ⟨.pan .sparesLeft, e.die, i⟩) (h12 : ∀ i, P ⟨.sticky .panRetireDrop, e.die, i⟩) (h13 : ∀ i, P ⟨.pan .nRetireDrop, e.die, i⟩) (h14 : ∀ i, P ⟨.sticky .panMigUrgent, e.die, i⟩) (h15 : ∀ i, P ⟨.live .panMigUrgent, e.die, i⟩) (h16 : ∀ i, P ⟨.pan .retirePend, e.die, i⟩) (h17 : ∀ i, P ⟨.sticky .panHardFault, e.die, i⟩) (h18 : ∀ i, P ⟨.pan .nHard, e.die, i⟩) (h19 : ∀ i, P ⟨.sticky .panUe, e.die, i⟩) (h20 : ∀ i, P ⟨.pan .nUe, e.die, i⟩) (h21 : ∀ i, P ⟨.pan .nXtsFault, e.die, i⟩) (h22 : ∀ i, P ⟨.pan .nPoisonWr, e.die, i⟩) (qmerge : Q .merge) (qreports : Q .reports) (qretireQ : Q .retireQ) :
    Reach P Q s0 (State.mergeFlush s e oldUe cipherBad) := by
  unfold State.mergeFlush
  repeat' with_reducible first | assumption | apply State.granWrite_reach | apply State.incIf_reach | apply State.when_reach | apply State.hardFault_reach | apply State.event_reach | apply State.inc_reach | apply State.poisonWrite_reach | (intros; show P _ = true; apply_assumption) | split | dsimp only | intro _ | apply State.merge_reach

theorem State.mergeWrite_reach {d : Nat} {hg : Nat} {mask : Nat} (hs : Reach P Q s0 s) (h1 : ∀ d i, P ⟨.pan .poison, d, i⟩) (h2 : ∀ d i, P ⟨.pan .migDirty, d, i⟩) (h3 : ∀ d i, P ⟨.pan .wbPend, d, i⟩) (h4 : ∀ d i, P ⟨.pan .nMergeRmw, d, i⟩) (h5 : ∀ d i, P ⟨.pan .taken, d, i⟩) (h6 : ∀ d i, P ⟨.pan .given, d, i⟩) (h7 : ∀ d i, P ⟨.sticky .panSpareEmpty, d, i⟩) (h8 : ∀ d i, P ⟨.live .panSpareEmpty, d, i⟩) (h9 : ∀ d i, P ⟨.sticky .panSpareLow, d, i⟩) (h10 : ∀ d i, P ⟨.live .panSpareLow, d, i⟩) (h11 : ∀ d i, P ⟨.pan .sparesLeft, d, i⟩) (h12 : ∀ d i, P ⟨.sticky .panRetireDrop, d, i⟩) (h13 : ∀ d i, P ⟨.pan .nRetireDrop, d, i⟩) (h14 : ∀ d i, P ⟨.sticky .panMigUrgent, d, i⟩) (h15 : ∀ d i, P ⟨.live .panMigUrgent, d, i⟩) (h16 : ∀ d i, P ⟨.pan .retirePend, d, i⟩) (h17 : ∀ d i, P ⟨.sticky .panHardFault, d, i⟩) (h18 : ∀ d i, P ⟨.pan .nHard, d, i⟩) (h19 : ∀ d i, P ⟨.sticky .panUe, d, i⟩) (h20 : ∀ d i, P ⟨.pan .nUe, d, i⟩) (h21 : ∀ d i, P ⟨.pan .nXtsFault, d, i⟩) (h22 : ∀ d i, P ⟨.pan .nPoisonWr, d, i⟩) (qmerge : Q .merge) (qreports : Q .reports) (qretireQ : Q .retireQ) :
    Reach P Q s0 (State.mergeWrite s d hg mask) := by
  unfold State.mergeWrite
  repeat' with_reducible first | assumption | apply State.granWrite_reach | apply State.mergeFlush_reach | (intros; show P _ = true; apply_assumption) | split | dsimp only | intro _ | apply State.merge_reach

theorem State.panRingWrite_reach {d : Nat} {base : Nat} {pages : Nat} {w : Nat} {n : Nat} (hs : Reach P Q s0 s) (h1 : ∀ d i, P ⟨.pan .poison, d, i⟩) (h2 : ∀ d i, P ⟨.pan .migDirty, d, i⟩) (h3 : ∀ d i, P ⟨.pan .wbPend, d, i⟩) (h4 : ∀ d i, P ⟨.pan .nMergeRmw, d, i⟩) (h5 : ∀ d i, P ⟨.pan .taken, d, i⟩) (h6 : ∀ d i, P ⟨.pan .given, d, i⟩) (h7 : ∀ d i, P ⟨.sticky .panSpareEmpty, d, i⟩) (h8 : ∀ d i, P ⟨.live .panSpareEmpty, d, i⟩) (h9 : ∀ d i, P ⟨.sticky .panSpareLow, d, i⟩) (h10 : ∀ d i, P ⟨.live .panSpareLow, d, i⟩) (h11 : ∀ d i, P ⟨.pan .sparesLeft, d, i⟩) (h12 : ∀ d i, P ⟨.sticky .panRetireDrop, d, i⟩) (h13 : ∀ d i, P ⟨.pan .nRetireDrop, d, i⟩) (h14 : ∀ d i, P ⟨.sticky .panMigUrgent, d, i⟩) (h15 : ∀ d i, P ⟨.live .panMigUrgent, d, i⟩) (h16 : ∀ d i, P ⟨.pan .retirePend, d, i⟩) (h17 : ∀ d i, P ⟨.sticky .panHardFault, d, i⟩) (h18 : ∀ d i, P ⟨.pan .nHard, d, i⟩) (h19 : ∀ d i, P ⟨.sticky .panUe, d, i⟩) (h20 : ∀ d i, P ⟨.pan .nUe, d, i⟩) (h21 : ∀ d i, P ⟨.pan .nXtsFault, d, i⟩) (h22 : ∀ d i, P ⟨.pan .nPoisonWr, d, i⟩) (qmerge : Q .merge) (qreports : Q .reports) (qretireQ : Q .retireQ) :
    Reach P Q s0 (State.panRingWrite s d base pages w n) := by
  unfold State.panRingWrite
  repeat' with_reducible first | assumption | apply State.each_reach | apply State.mergeWrite_reach | (intros; show P _ = true; apply_assumption) | split | dsimp only | intro _

theorem State.giveSpare_reach {d : Nat} {p : Nat} (hs : Reach P Q s0 s) (h1 : ∀ i, P ⟨.pan .taken, d, i⟩) (h2 : ∀ i, P ⟨.pan .given, d, i⟩) (h3 : ∀ i, P ⟨.sticky .panSpareEmpty, d, i⟩) (h4 : ∀ i, P ⟨.live .panSpareEmpty, d, i⟩) (h5 : ∀ i, P ⟨.sticky .panSpareLow, d, i⟩) (h6 : ∀ i, P ⟨.live .panSpareLow, d, i⟩) (h7 : ∀ i, P ⟨.pan .sparesLeft, d, i⟩) (qreports : Q .reports) :
    Reach P Q s0 (State.giveSpare s d p) := by
  unfold State.giveSpare
  repeat' with_reducible first | assumption | apply State.set_reach | apply State.spareFollow_reach | (intros; show P _ = true; apply_assumption) | split | dsimp only | intro _

theorem State.track_reach {d : Nat} {g : Nat} (hs : Reach P Q s0 s) (h1 : ∀ i, P ⟨.pan .taken, d, i⟩) (h2 : ∀ i, P ⟨.pan .given, d, i⟩) (h3 : ∀ i, P ⟨.sticky .panSpareEmpty, d, i⟩) (h4 : ∀ i, P ⟨.live .panSpareEmpty, d, i⟩) (h5 : ∀ i, P ⟨.sticky .panSpareLow, d, i⟩) (h6 : ∀ i, P ⟨.live .panSpareLow, d, i⟩) (h7 : ∀ i, P ⟨.pan .sparesLeft, d, i⟩) (h8 : ∀ i, P ⟨.sticky .panRetireDrop, d, i⟩) (h9 : ∀ i, P ⟨.pan .nRetireDrop, d, i⟩) (h10 : ∀ i, P ⟨.sticky .panMigUrgent, d, i⟩) (h11 : ∀ i, P ⟨.live .panMigUrgent, d, i⟩) (h12 : ∀ i, P ⟨.pan .retirePend, d, i⟩) (h13 : ∀ i, P ⟨.sticky .panHardFault, d, i⟩) (h14 : ∀ i, P ⟨.pan .nHard, d, i⟩) (h15 : ∀ i, P ⟨.sticky .panTrackOvf, d, i⟩) (h16 : ∀ i, P ⟨.pan .nTrackOvf, d, i⟩) (qtracker : Q .tracker) (qreports : Q .reports) (qretireQ : Q .retireQ) :
    Reach P Q s0 (State.track s d g) := by
  unfold State.track
  repeat' with_reducible first | assumption | apply State.hardFault_reach | apply State.event_reach | apply State.inc_reach | (intros; show P _ = true; apply_assumption) | split | dsimp only | intro _ | apply State.tracker_reach

end Sys2Proof.Machine
end

