-- ==== Sys2Proof/Laws/MovesTrace.lean ====
section
/-!
SUPPORT. What the operations of Machine/Trace.lean may change, one lemma each (Laws/Reach.lean).
-/
namespace Sys2Proof.Machine

set_option linter.unusedTactic false
set_option linter.unreachableTactic false

variable {P : Key → Bool} {Q : Part → Bool} {s0 s : State}

theorem State.traceTag_reach {d : Nat} {enable : Bool} (hs : Reach P Q s0 s) (h1 : ∀ i, P ⟨.sys .freeCount, 0, i⟩) (h2 : ∀ i, P ⟨.trc .nTagged, d, i⟩) :
    Reach P Q s0 (State.traceTag s d enable).1 := by
  unfold State.traceTag
  repeat' with_reducible first | assumption | apply State.used_reach | apply State.inc_reach | (intros; show P _ = true; apply_assumption) | split | dsimp only | intro _

theorem State.telLose_reach {t1 : Nat} {n : Nat} (hs : Reach P Q s0 s) (h1 : ∀ i, P ⟨.sticky .telOvf, 0, i⟩) (h2 : ∀ i, P ⟨.tel .dropped, 0, i⟩) (h3 : ∀ i, P ⟨.tel .nDrop, 0, i⟩) (qreports : Q .reports) :
    Reach P Q s0 (State.telLose s t1 n) := by
  unfold State.telLose
  repeat' with_reducible first | assumption | apply State.event_reach | apply State.set_reach | apply State.add_reach | (intros; show P _ = true; apply_assumption) | split | dsimp only | intro _

theorem State.telWrite_reach {t1 : Nat} {type : Nat} {payload : List Nat} (hs : Reach P Q s0 s) (h1 : ∀ i, P ⟨.tel .written, 0, i⟩) (qtelOut : Q .telOut) :
    Reach P Q s0 (State.telWrite s t1 type payload) := by
  unfold State.telWrite
  repeat' with_reducible first | assumption | apply State.set_reach | (intros; show P _ = true; apply_assumption) | split | dsimp only | intro _ | apply State.telOut_reach

theorem State.telDesc_reach {t1 : Nat} {l : List (Nat × List Nat)} (hs : Reach P Q s0 s) (h1 : ∀ i, P ⟨.sticky .telOvf, 0, i⟩) (h2 : ∀ i, P ⟨.tel .dropped, 0, i⟩) (h3 : ∀ i, P ⟨.tel .nDrop, 0, i⟩) (h4 : ∀ i, P ⟨.tel .written, 0, i⟩) (qreports : Q .reports) (qtelOut : Q .telOut) :
    Reach P Q s0 (State.telDesc s t1 l) := by
  unfold State.telDesc
  repeat' with_reducible first | assumption | apply State.telLose_reach | apply State.each_reach | apply State.set_reach | apply State.telWrite_reach | (intros; show P _ = true; apply_assumption) | split | dsimp only | intro _

theorem State.telPush_reach {t1 : Nat} {type : Nat} {payload : List Nat} (hs : Reach P Q s0 s) (h1 : ∀ i, P ⟨.sticky .telOvf, 0, i⟩) (h2 : ∀ i, P ⟨.tel .dropped, 0, i⟩) (h3 : ∀ i, P ⟨.tel .nDrop, 0, i⟩) (h4 : ∀ i, P ⟨.tel .written, 0, i⟩) (qreports : Q .reports) (qtelOut : Q .telOut) :
    Reach P Q s0 (State.telPush s t1 type payload) := by
  unfold State.telPush
  repeat' with_reducible first | assumption | apply State.telDesc_reach | (intros; show P _ = true; apply_assumption) | split | dsimp only | intro _

theorem State.telAll_reach {kind : Nat} {type : Nat} {payload : List Nat} (hs : Reach P Q s0 s) (h1 : ∀ i, P ⟨.sticky .telOvf, 0, i⟩) (h2 : ∀ i, P ⟨.tel .dropped, 0, i⟩) (h3 : ∀ i, P ⟨.tel .nDrop, 0, i⟩) (h4 : ∀ i, P ⟨.tel .written, 0, i⟩) (qreports : Q .reports) (qtelOut : Q .telOut) :
    Reach P Q s0 (State.telAll s kind type payload) := by
  unfold State.telAll
  repeat' with_reducible first | assumption | apply State.each_reach | apply State.telPush_reach | (intros; show P _ = true; apply_assumption) | split | dsimp only | intro _

theorem State.traceRec_reach {d : Nat} {tag : Nat} {stage : Nat} {loc : Nat} {data : Nat} {inj : Bool} (hs : Reach P Q s0 s) (h1 : ∀ i, P ⟨.trc .nLost, d, i⟩) (h2 : ∀ i, P ⟨.win .trcBuf, d, i⟩) (h3 : ∀ i, P ⟨.trc .count, d, i⟩) (h4 : ∀ i, P ⟨.trc .trcNext, d, i⟩) (h5 : ∀ i, P ⟨.sticky .trcFull, d, i⟩) (h6 : ∀ i, P ⟨.live .trcFull, d, i⟩) (h7 : ∀ i, P ⟨.sticky .telOvf, 0, i⟩) (h8 : ∀ i, P ⟨.tel .dropped, 0, i⟩) (h9 : ∀ i, P ⟨.tel .nDrop, 0, i⟩) (h10 : ∀ i, P ⟨.tel .written, 0, i⟩) (qreports : Q .reports) (qtelOut : Q .telOut) :
    Reach P Q s0 (State.traceRec s d tag stage loc data inj) := by
  unfold State.traceRec
  repeat' with_reducible first | assumption | apply State.inc_reach | apply State.each_reach | apply State.setWin_reach | apply State.set_reach | apply State.cond_reach | apply State.telAll_reach | (intros; show P _ = true; apply_assumption) | split | dsimp only | intro _

theorem State.traceItem_reach {d : Nat} {tag : Option Nat} {stage : Nat} {loc : Nat} {data : Nat} (hs : Reach P Q s0 s) (h1 : ∀ i, P ⟨.trc .nLost, d, i⟩) (h2 : ∀ i, P ⟨.win .trcBuf, d, i⟩) (h3 : ∀ i, P ⟨.trc .count, d, i⟩) (h4 : ∀ i, P ⟨.trc .trcNext, d, i⟩) (h5 : ∀ i, P ⟨.sticky .trcFull, d, i⟩) (h6 : ∀ i, P ⟨.live .trcFull, d, i⟩) (h7 : ∀ i, P ⟨.sticky .telOvf, 0, i⟩) (h8 : ∀ i, P ⟨.tel .dropped, 0, i⟩) (h9 : ∀ i, P ⟨.tel .nDrop, 0, i⟩) (h10 : ∀ i, P ⟨.tel .written, 0, i⟩) (qreports : Q .reports) (qtelOut : Q .telOut) :
    Reach P Q s0 (State.traceItem s d tag stage loc data) := by
  unfold State.traceItem
  repeat' with_reducible first | assumption | apply State.traceRec_reach | (intros; show P _ = true; apply_assumption) | split | dsimp only | intro _

theorem State.telBatch_reach {t1 : Nat} {x2 : Nat} {x3 : List (Nat × List Nat)} (hs : Reach P Q s0 s) (h1 : ∀ i, P ⟨.sticky .telOvf, 0, i⟩) (h2 : ∀ i, P ⟨.tel .dropped, 0, i⟩) (h3 : ∀ i, P ⟨.tel .nDrop, 0, i⟩) (h4 : ∀ i, P ⟨.tel .written, 0, i⟩) (qreports : Q .reports) (qtelOut : Q .telOut) :
    Reach P Q s0 (State.telBatch s t1 x2 x3) := by
  induction x2 generalizing s x3 with
  | zero => exact hs
  | succ n ih =>
    unfold State.telBatch
    repeat' with_reducible first | assumption | apply ih | apply State.telBatch_reach | apply State.telDesc_reach | (intros; show P _ = true; apply_assumption) | split | dsimp only | intro _

end Sys2Proof.Machine
end

