-- ==== Sys2Proof/Laws/MovesQueues.lean ====
section
/-!
SUPPORT. What the operations of Machine/Queues.lean may change, one lemma each (Laws/Reach.lean).
-/
namespace Sys2Proof.Machine

set_option linter.unusedTactic false
set_option linter.unreachableTactic false

variable {P : Key → Bool} {Q : Part → Bool} {s0 s : State}

theorem State.clsUsedShow_reach {d : Nat} (hs : Reach P Q s0 s) (h1 : ∀ i, P ⟨.qs .clsUsed, d, i⟩) :
    Reach P Q s0 (State.clsUsedShow s d) := by
  unfold State.clsUsedShow
  repeat' with_reducible first | assumption | apply State.set_reach | (intros; show P _ = true; apply_assumption) | split | dsimp only | intro _

theorem State.queueDrain_reach {d : Nat} {q : Nat} (hs : Reach P Q s0 s) (h1 : ∀ i, P ⟨.qs .qDrain, d, i⟩) (h2 : ∀ i, P ⟨.qs .clsUsed, d, i⟩) (qclsTab : Q .clsTab) :
    Reach P Q s0 (State.queueDrain s d q) := by
  unfold State.queueDrain
  repeat' with_reducible first | assumption | apply State.set_reach | apply State.clsUsedShow_reach | (intros; show P _ = true; apply_assumption) | split | dsimp only | intro _ | apply State.clsTab_reach

theorem State.ctnDrain_reach {d : Nat} {i : Nat} (hs : Reach P Q s0 s) (h1 : ∀ i, P ⟨.qs .cDrain, d, i⟩) (h2 : ∀ i, P ⟨.qs .qDrain, d, i⟩) (h3 : ∀ i, P ⟨.qs .clsUsed, d, i⟩) (qclsTab : Q .clsTab) :
    Reach P Q s0 (State.ctnDrain s d i) := by
  unfold State.ctnDrain
  repeat' with_reducible first | assumption | apply State.set_reach | apply State.each_reach | apply State.queueDrain_reach | (intros; show P _ = true; apply_assumption) | split | dsimp only | intro _

theorem State.brakeFollow_reach {d : Nat} (hs : Reach P Q s0 s) (h1 : ∀ i, P ⟨.sticky .qsBrakeOn, d, i⟩) (h2 : ∀ i, P ⟨.live .qsBrakeOn, d, i⟩) (h3 : ∀ i, P ⟨.qs .brake, d, i⟩) (qreports : Q .reports) :
    Reach P Q s0 (State.brakeFollow s d) := by
  unfold State.brakeFollow
  repeat' with_reducible first | assumption | apply State.cond_reach | apply State.setB_reach | (intros; show P _ = true; apply_assumption) | split | dsimp only | intro _

theorem State.clsDone_reach {d : Nat} {result : Nat} (hs : Reach P Q s0 s) (h1 : ∀ i, P ⟨.qs .clsUsed, d, i⟩) (h2 : ∀ i, P ⟨.qs .clsResult, d, i⟩) :
    Reach P Q s0 (State.clsDone s d result) := by
  unfold State.clsDone
  repeat' with_reducible first | assumption | apply State.set_reach | (intros; show P _ = true; apply_assumption) | split | dsimp only | intro _

theorem State.clsInsert_reach {d : Nat} {w0 : Nat} {w1 : Nat} (hs : Reach P Q s0 s) (h1 : ∀ i, P ⟨.sys .freeCount, 0, i⟩) (h2 : ∀ i, P ⟨.qs .clsUsed, d, i⟩) (h3 : ∀ i, P ⟨.qs .clsResult, d, i⟩) (h4 : ∀ i, P ⟨.sticky .qsClsNoRoom, d, i⟩) (h5 : ∀ i, P ⟨.qs .nClsNoRoom, d, i⟩) (qclsTab : Q .clsTab) (qreports : Q .reports) :
    Reach P Q s0 (State.clsInsert s d w0 w1) := by
  unfold State.clsInsert
  repeat' with_reducible first | assumption | apply State.used_reach | apply State.clsDone_reach | apply State.when_reach | apply State.event_reach | apply State.inc_reach | (intros; show P _ = true; apply_assumption) | split | dsimp only | intro _ | apply State.clsTab_reach

theorem State.clsDelete_reach {d : Nat} {w0 : Nat} {w1 : Nat} (hs : Reach P Q s0 s) (h1 : ∀ i, P ⟨.qs .clsUsed, d, i⟩) (h2 : ∀ i, P ⟨.qs .clsResult, d, i⟩) (qclsTab : Q .clsTab) :
    Reach P Q s0 (State.clsDelete s d w0 w1) := by
  unfold State.clsDelete
  repeat' with_reducible first | assumption | apply State.clsDone_reach | (intros; show P _ = true; apply_assumption) | split | dsimp only | intro _ | apply State.clsTab_reach

theorem State.clsFind_reach {d : Nat} {w0 : Nat} {w1 : Nat} (hs : Reach P Q s0 s) (h1 : ∀ i, P ⟨.qs .clsUsed, d, i⟩) (h2 : ∀ i, P ⟨.qs .clsResult, d, i⟩) (h3 : ∀ i, P ⟨.win .qsCls, d, i⟩) :
    Reach P Q s0 (State.clsFind s d w0 w1) := by
  unfold State.clsFind
  repeat' with_reducible first | assumption | apply State.clsDone_reach | apply State.setWin_reach | (intros; show P _ = true; apply_assumption) | split | dsimp only | intro _

theorem State.xoffFollow_reach {d : Nat} {q : Nat} (hs : Reach P Q s0 s) (h1 : ∀ i, P ⟨.qs .qXoff, d, i⟩) (h2 : ∀ i, P ⟨.hl .pXoff, d, i⟩) :
    Reach P Q s0 (State.xoffFollow s d q) := by
  unfold State.xoffFollow
  repeat' with_reducible first | assumption | apply State.setB_reach | apply State.set_reach | (intros; show P _ = true; apply_assumption) | split | dsimp only | intro _

theorem State.occAdd_reach {d : Nat} {q : Nat} {w : Nat} (hs : Reach P Q s0 s) (h1 : ∀ i, P ⟨.sticky .qsBrakeOn, d, i⟩) (h2 : ∀ i, P ⟨.live .qsBrakeOn, d, i⟩) (h3 : ∀ i, P ⟨.qs .brake, d, i⟩) (h4 : ∀ i, P ⟨.qs .qXoff, d, i⟩) (h5 : ∀ i, P ⟨.hl .pXoff, d, i⟩) (h6 : ∀ i, P ⟨.qs .dieOcc, d, i⟩) (h7 : ∀ i, P ⟨.qs .occWords, d, i⟩) (h8 : ∀ i, P ⟨.qs .wr, d, i⟩) (qreports : Q .reports) :
    Reach P Q s0 (State.occAdd s d q w) := by
  unfold State.occAdd
  repeat' with_reducible first | assumption | apply State.brakeFollow_reach | apply State.xoffFollow_reach | apply State.set_reach | (intros; show P _ = true; apply_assumption) | split | dsimp only | intro _

theorem State.stageFrame_reach {d : Nat} {p : Nat} {f : Sys2Proof.HostFrame} {q : Nat} {fm : Nat} {tag : Option Nat} {gone : Bool} (hs : Reach P Q s0 s) (qstaged : Q .staged) :
    Reach P Q s0 (State.stageFrame s d p f q fm tag gone) := by
  unfold State.stageFrame
  repeat' with_reducible first | assumption | apply foldl_reach | (intros; show P _ = true; apply_assumption) | split | dsimp only | intro _ | apply State.staged_reach

theorem State.newGone_reach {d : Nat} {p : Nat} {f : Sys2Proof.HostFrame} {tag : Option Nat} {why : Nat} (hs : Reach P Q s0 s) (h1 : ∀ i, P ⟨.trc .nLost, d, i⟩) (h2 : ∀ i, P ⟨.win .trcBuf, d, i⟩) (h3 : ∀ i, P ⟨.trc .count, d, i⟩) (h4 : ∀ i, P ⟨.trc .trcNext, d, i⟩) (h5 : ∀ i, P ⟨.sticky .trcFull, d, i⟩) (h6 : ∀ i, P ⟨.live .trcFull, d, i⟩) (h7 : ∀ i, P ⟨.sticky .telOvf, 0, i⟩) (h8 : ∀ i, P ⟨.tel .dropped, 0, i⟩) (h9 : ∀ i, P ⟨.tel .nDrop, 0, i⟩) (h10 : ∀ i, P ⟨.tel .written, 0, i⟩) (qreports : Q .reports) (qtelOut : Q .telOut) (qstaged : Q .staged) :
    Reach P Q s0 (State.newGone s d p f tag why) := by
  unfold State.newGone
  repeat' with_reducible first | assumption | apply State.traceItem_reach | apply State.stageFrame_reach | (intros; show P _ = true; apply_assumption) | split | dsimp only | intro _

theorem State.classify_reach {d : Nat} {p : Nat} {f : Sys2Proof.HostFrame} (hs : Reach P Q s0 s) (h1 : ∀ i, P ⟨.qs .nClsHit, d, i⟩) (h2 : ∀ i, P ⟨.qs .nClsMiss, d, i⟩) (h3 : ∀ i, P ⟨.qs .nClsTagBad, d, i⟩) :
    Reach P Q s0 (State.classify s d p f).1 := by
  unfold State.classify
  repeat' with_reducible first | assumption | apply State.inc_reach | apply State.incIf_reach | (intros; show P _ = true; apply_assumption) | split | dsimp only | intro _

theorem State.newFrame_reach {d : Nat} {p : Nat} {f : Sys2Proof.HostFrame} (hs : Reach P Q s0 s) (h1 : ∀ i, P ⟨.sys .freeCount, 0, i⟩) (h2 : ∀ i, P ⟨.trc .nTagged, d, i⟩) (h3 : ∀ i, P ⟨.trc .nLost, d, i⟩) (h4 : ∀ i, P ⟨.win .trcBuf, d, i⟩) (h5 : ∀ i, P ⟨.trc .count, d, i⟩) (h6 : ∀ i, P ⟨.trc .trcNext, d, i⟩) (h7 : ∀ i, P ⟨.sticky .trcFull, d, i⟩) (h8 : ∀ i, P ⟨.live .trcFull, d, i⟩) (h9 : ∀ i, P ⟨.sticky .telOvf, 0, i⟩) (h10 : ∀ i, P ⟨.tel .dropped, 0, i⟩) (h11 : ∀ i, P ⟨.tel .nDrop, 0, i⟩) (h12 : ∀ i, P ⟨.tel .written, 0, i⟩) (h13 : ∀ i, P ⟨.sticky .qsStageOvf, d, i⟩) (h14 : ∀ i, P ⟨.live .qsStageOvf, d, i⟩) (h15 : ∀ i, P ⟨.qs .nStageDrop, d, i⟩) (h16 : ∀ i, P ⟨.qs .nClsHit, d, i⟩) (h17 : ∀ i, P ⟨.qs .nClsMiss, d, i⟩) (h18 : ∀ i, P ⟨.qs .nClsTagBad, d, i⟩) (qreports : Q .reports) (qtelOut : Q .telOut) (qstaged : Q .staged) :
    Reach P Q s0 (State.newFrame s d p f) := by
  unfold State.newFrame
  repeat' with_reducible first | assumption | apply State.traceTag_reach | apply State.traceItem_reach | apply State.newGone_reach | apply State.raise_reach | apply State.inc_reach | apply State.classify_reach | apply State.lower_reach | apply State.stageFrame_reach | (intros; show P _ = true; apply_assumption) | split | dsimp only | intro _

theorem State.occSub_reach {d : Nat} {q : Nat} {w : Nat} (hs : Reach P Q s0 s) (h1 : ∀ i, P ⟨.sticky .qsBrakeOn, d, i⟩) (h2 : ∀ i, P ⟨.live .qsBrakeOn, d, i⟩) (h3 : ∀ i, P ⟨.qs .brake, d, i⟩) (h4 : ∀ i, P ⟨.qs .qXoff, d, i⟩) (h5 : ∀ i, P ⟨.hl .pXoff, d, i⟩) (h6 : ∀ i, P ⟨.qs .dieOcc, d, i⟩) (h7 : ∀ i, P ⟨.qs .occWords, d, i⟩) (h8 : ∀ i, P ⟨.qs .rd, d, i⟩) (qreports : Q .reports) :
    Reach P Q s0 (State.occSub s d q w) := by
  unfold State.occSub
  repeat' with_reducible first | assumption | apply State.brakeFollow_reach | apply State.xoffFollow_reach | apply State.set_reach | (intros; show P _ = true; apply_assumption) | split | dsimp only | intro _

theorem State.queueFlush_reach {d : Nat} {q : Nat} (hs : Reach P Q s0 s) (h1 : ∀ i, P ⟨.qs .gapPend, d, i⟩) (h2 : ∀ i, P ⟨.sticky .qsBrakeOn, d, i⟩) (h3 : ∀ i, P ⟨.live .qsBrakeOn, d, i⟩) (h4 : ∀ i, P ⟨.qs .brake, d, i⟩) (h5 : ∀ i, P ⟨.qs .qXoff, d, i⟩) (h6 : ∀ i, P ⟨.hl .pXoff, d, i⟩) (h7 : ∀ i, P ⟨.qs .dieOcc, d, i⟩) (h8 : ∀ i, P ⟨.qs .occWords, d, i⟩) (h9 : ∀ i, P ⟨.qs .rd, d, i⟩) (h10 : ∀ i, P ⟨.trc .nLost, d, i⟩) (h11 : ∀ i, P ⟨.win .trcBuf, d, i⟩) (h12 : ∀ i, P ⟨.trc .count, d, i⟩) (h13 : ∀ i, P ⟨.trc .trcNext, d, i⟩) (h14 : ∀ i, P ⟨.sticky .trcFull, d, i⟩) (h15 : ∀ i, P ⟨.live .trcFull, d, i⟩) (h16 : ∀ i, P ⟨.sticky .telOvf, 0, i⟩) (h17 : ∀ i, P ⟨.tel .dropped, 0, i⟩) (h18 : ∀ i, P ⟨.tel .nDrop, 0, i⟩) (h19 : ∀ i, P ⟨.tel .written, 0, i⟩) (h20 : ∀ i, P ⟨.sticky .qsDrainDisc, d, i⟩) (h21 : ∀ i, P ⟨.qs .nCDrainDisc, d, i⟩) (qrings : Q .rings) (qreports : Q .reports) (qtelOut : Q .telOut) :
    Reach P Q s0 (State.queueFlush s d q) := by
  unfold State.queueFlush
  repeat' with_reducible first | assumption | apply State.set_reach | apply State.occSub_reach | apply State.each_reach | apply State.traceItem_reach | apply State.event_reach | apply State.add_reach | (intros; show P _ = true; apply_assumption) | split | dsimp only | intro _ | apply State.rings_reach

theorem State.dropFull_reach {d : Nat} {q : Nat} (hs : Reach P Q s0 s) (h1 : ∀ i, P ⟨.sticky .qsQFullDrop, d, i⟩) (h2 : ∀ i, P ⟨.qs .gapPend, d, i⟩) (h3 : ∀ i, P ⟨.qs .nQDropFull, d, i⟩) (qreports : Q .reports) :
    Reach P Q s0 (State.dropFull s d q) := by
  unfold State.dropFull
  repeat' with_reducible first | assumption | apply State.event_reach | apply State.set_reach | apply State.inc_reach | (intros; show P _ = true; apply_assumption) | split | dsimp only | intro _

theorem State.ringDrop_reach {d : Nat} {q : Nat} {id : Nat} {gap : Bool} (hs : Reach P Q s0 s) (h1 : ∀ i, P ⟨.sticky .qsBrakeOn, d, i⟩) (h2 : ∀ i, P ⟨.live .qsBrakeOn, d, i⟩) (h3 : ∀ i, P ⟨.qs .brake, d, i⟩) (h4 : ∀ i, P ⟨.qs .qXoff, d, i⟩) (h5 : ∀ i, P ⟨.hl .pXoff, d, i⟩) (h6 : ∀ i, P ⟨.qs .dieOcc, d, i⟩) (h7 : ∀ i, P ⟨.qs .occWords, d, i⟩) (h8 : ∀ i, P ⟨.qs .rd, d, i⟩) (qreports : Q .reports) (qrings : Q .rings) :
    Reach P Q s0 (State.ringDrop s d q id gap) := by
  unfold State.ringDrop
  repeat' with_reducible first | assumption | apply State.occSub_reach | (intros; show P _ = true; apply_assumption) | split | dsimp only | intro _ | apply State.rings_reach

theorem State.wakeQueue_reach {d : Nat} {q : Nat} (hs : Reach P Q s0 s) (h1 : ∀ i, P ⟨.qs .passed, d, i⟩) (h2 : ∀ i, P ⟨.qs .tagS, d, i⟩) :
    Reach P Q s0 (State.wakeQueue s d q) := by
  unfold State.wakeQueue
  repeat' with_reducible first | assumption | apply State.set_reach | (intros; show P _ = true; apply_assumption) | split | dsimp only | intro _

theorem State.ringEdit_reach {d : Nat} {id : Nat} {f : RingRec → RingRec} (hs : Reach P Q s0 s) (qrings : Q .rings) :
    Reach P Q s0 (State.ringEdit s d id f) := by
  unfold State.ringEdit
  repeat' with_reducible first | assumption | apply foldl_reach | (intros; show P _ = true; apply_assumption) | split | dsimp only | intro _ | apply State.rings_reach

theorem State.ringStore_reach {d : Nat} {q : Nat} {w : Nat} {n : Nat} (hs : Reach P Q s0 s) (h1 : ∀ d i, P ⟨.pan .poison, d, i⟩) (h2 : ∀ d i, P ⟨.pan .migDirty, d, i⟩) (h3 : ∀ d i, P ⟨.pan .wbPend, d, i⟩) (h4 : ∀ d i, P ⟨.pan .nMergeRmw, d, i⟩) (h5 : ∀ d i, P ⟨.pan .taken, d, i⟩) (h6 : ∀ d i, P ⟨.pan .given, d, i⟩) (h7 : ∀ d i, P ⟨.sticky .panSpareEmpty, d, i⟩) (h8 : ∀ d i, P ⟨.live .panSpareEmpty, d, i⟩) (h9 : ∀ d i, P ⟨.sticky .panSpareLow, d, i⟩) (h10 : ∀ d i, P ⟨.live .panSpareLow, d, i⟩) (h11 : ∀ d i, P ⟨.pan .sparesLeft, d, i⟩) (h12 : ∀ d i, P ⟨.sticky .panRetireDrop, d, i⟩) (h13 : ∀ d i, P ⟨.pan .nRetireDrop, d, i⟩) (h14 : ∀ d i, P ⟨.sticky .panMigUrgent, d, i⟩) (h15 : ∀ d i, P ⟨.live .panMigUrgent, d, i⟩) (h16 : ∀ d i, P ⟨.pan .retirePend, d, i⟩) (h17 : ∀ d i, P ⟨.sticky .panHardFault, d, i⟩) (h18 : ∀ d i, P ⟨.pan .nHard, d, i⟩) (h19 : ∀ d i, P ⟨.sticky .panUe, d, i⟩) (h20 : ∀ d i, P ⟨.pan .nUe, d, i⟩) (h21 : ∀ d i, P ⟨.pan .nXtsFault, d, i⟩) (h22 : ∀ d i, P ⟨.pan .nPoisonWr, d, i⟩) (qmerge : Q .merge) (qreports : Q .reports) (qretireQ : Q .retireQ) :
    Reach P Q s0 (State.ringStore s d q w n) := by
  unfold State.ringStore
  repeat' with_reducible first | assumption | apply State.panRingWrite_reach | (intros; show P _ = true; apply_assumption) | split | dsimp only | intro _

theorem State.ringPut_reach {r : RingRec} (hs : Reach P Q s0 s) (h1 : ∀ i, P ⟨.sticky .qsBrakeOn, r.die, i⟩) (h2 : ∀ i, P ⟨.live .qsBrakeOn, r.die, i⟩) (h3 : ∀ i, P ⟨.qs .brake, r.die, i⟩) (h4 : ∀ i, P ⟨.qs .qXoff, r.die, i⟩) (h5 : ∀ i, P ⟨.hl .pXoff, r.die, i⟩) (h6 : ∀ i, P ⟨.qs .dieOcc, r.die, i⟩) (h7 : ∀ i, P ⟨.qs .occWords, r.die, i⟩) (h8 : ∀ i, P ⟨.qs .wr, r.die, i⟩) (h9 : ∀ d i, P ⟨.pan .poison, d, i⟩) (h10 : ∀ d i, P ⟨.pan .migDirty, d, i⟩) (h11 : ∀ d i, P ⟨.pan .wbPend, d, i⟩) (h12 : ∀ d i, P ⟨.pan .nMergeRmw, d, i⟩) (h13 : ∀ d i, P ⟨.pan .taken, d, i⟩) (h14 : ∀ d i, P ⟨.pan .given, d, i⟩) (h15 : ∀ d i, P ⟨.sticky .panSpareEmpty, d, i⟩) (h16 : ∀ d i, P ⟨.live .panSpareEmpty, d, i⟩) (h17 : ∀ d i, P ⟨.sticky .panSpareLow, d, i⟩) (h18 : ∀ d i, P ⟨.live .panSpareLow, d, i⟩) (h19 : ∀ d i, P ⟨.pan .sparesLeft, d, i⟩) (h20 : ∀ d i, P ⟨.sticky .panRetireDrop, d, i⟩) (h21 : ∀ d i, P ⟨.pan .nRetireDrop, d, i⟩) (h22 : ∀ d i, P ⟨.sticky .panMigUrgent, d, i⟩) (h23 : ∀ d i, P ⟨.live .panMigUrgent, d, i⟩) (h24 : ∀ d i, P ⟨.pan .retirePend, d, i⟩) (h25 : ∀ d i, P ⟨.sticky .panHardFault, d, i⟩) (h26 : ∀ d i, P ⟨.pan .nHard, d, i⟩) (h27 : ∀ d i, P ⟨.sticky .panUe, d, i⟩) (h28 : ∀ d i, P ⟨.pan .nUe, d, i⟩) (h29 : ∀ d i, P ⟨.pan .nXtsFault, d, i⟩) (h30 : ∀ d i, P ⟨.pan .nPoisonWr, d, i⟩) (qreports : Q .reports) (qmerge : Q .merge) (qretireQ : Q .retireQ) (qrings : Q .rings) :
    Reach P Q s0 (State.ringPut s r) := by
  unfold State.ringPut
  repeat' with_reducible first | assumption | apply State.occAdd_reach | apply State.ringStore_reach | (intros; show P _ = true; apply_assumption) | split | dsimp only | intro _ | apply State.rings_reach

theorem State.gapRecord_reach {d : Nat} {q : Nat} (hs : Reach P Q s0 s) (h1 : ∀ i, P ⟨.qs .gapPend, d, i⟩) (h2 : ∀ d i, P ⟨.sticky .qsBrakeOn, d, i⟩) (h3 : ∀ d i, P ⟨.live .qsBrakeOn, d, i⟩) (h4 : ∀ d i, P ⟨.qs .brake, d, i⟩) (h5 : ∀ d i, P ⟨.qs .qXoff, d, i⟩) (h6 : ∀ d i, P ⟨.hl .pXoff, d, i⟩) (h7 : ∀ d i, P ⟨.qs .dieOcc, d, i⟩) (h8 : ∀ d i, P ⟨.qs .occWords, d, i⟩) (h9 : ∀ d i, P ⟨.qs .wr, d, i⟩) (h10 : ∀ d i, P ⟨.pan .poison, d, i⟩) (h11 : ∀ d i, P ⟨.pan .migDirty, d, i⟩) (h12 : ∀ d i, P ⟨.pan .wbPend, d, i⟩) (h13 : ∀ d i, P ⟨.pan .nMergeRmw, d, i⟩) (h14 : ∀ d i, P ⟨.pan .taken, d, i⟩) (h15 : ∀ d i, P ⟨.pan .given, d, i⟩) (h16 : ∀ d i, P ⟨.sticky .panSpareEmpty, d, i⟩) (h17 : ∀ d i, P ⟨.live .panSpareEmpty, d, i⟩) (h18 : ∀ d i, P ⟨.sticky .panSpareLow, d, i⟩) (h19 : ∀ d i, P ⟨.live .panSpareLow, d, i⟩) (h20 : ∀ d i, P ⟨.pan .sparesLeft, d, i⟩) (h21 : ∀ d i, P ⟨.sticky .panRetireDrop, d, i⟩) (h22 : ∀ d i, P ⟨.pan .nRetireDrop, d, i⟩) (h23 : ∀ d i, P ⟨.sticky .panMigUrgent, d, i⟩) (h24 : ∀ d i, P ⟨.live .panMigUrgent, d, i⟩) (h25 : ∀ d i, P ⟨.pan .retirePend, d, i⟩) (h26 : ∀ d i, P ⟨.sticky .panHardFault, d, i⟩) (h27 : ∀ d i, P ⟨.pan .nHard, d, i⟩) (h28 : ∀ d i, P ⟨.sticky .panUe, d, i⟩) (h29 : ∀ d i, P ⟨.pan .nUe, d, i⟩) (h30 : ∀ d i, P ⟨.pan .nXtsFault, d, i⟩) (h31 : ∀ d i, P ⟨.pan .nPoisonWr, d, i⟩) (qreports : Q .reports) (qmerge : Q .merge) (qretireQ : Q .retireQ) (qrings : Q .rings) :
    Reach P Q s0 (State.gapRecord s d q) := by
  unfold State.gapRecord
  repeat' with_reducible first | assumption | apply State.set_reach | apply State.ringPut_reach | (intros; show P _ = true; apply_assumption) | split | dsimp only | intro _

theorem State.enqueue_reach {f : Staged} {colour : Nat} {present : Nat} {ct : Bool} {cq : Nat} {cc : Nat} (hs : Reach P Q s0 s) (h1 : ∀ d i, P ⟨.sticky .qsBrakeOn, d, i⟩) (h2 : ∀ d i, P ⟨.live .qsBrakeOn, d, i⟩) (h3 : ∀ d i, P ⟨.qs .brake, d, i⟩) (h4 : ∀ d i, P ⟨.qs .qXoff, d, i⟩) (h5 : ∀ d i, P ⟨.hl .pXoff, d, i⟩) (h6 : ∀ d i, P ⟨.qs .dieOcc, d, i⟩) (h7 : ∀ d i, P ⟨.qs .occWords, d, i⟩) (h8 : ∀ d i, P ⟨.qs .wr, d, i⟩) (h9 : ∀ d i, P ⟨.pan .poison, d, i⟩) (h10 : ∀ d i, P ⟨.pan .migDirty, d, i⟩) (h11 : ∀ d i, P ⟨.pan .wbPend, d, i⟩) (h12 : ∀ d i, P ⟨.pan .nMergeRmw, d, i⟩) (h13 : ∀ d i, P ⟨.pan .taken, d, i⟩) (h14 : ∀ d i, P ⟨.pan .given, d, i⟩) (h15 : ∀ d i, P ⟨.sticky .panSpareEmpty, d, i⟩) (h16 : ∀ d i, P ⟨.live .panSpareEmpty, d, i⟩) (h17 : ∀ d i, P ⟨.sticky .panSpareLow, d, i⟩) (h18 : ∀ d i, P ⟨.live .panSpareLow, d, i⟩) (h19 : ∀ d i, P ⟨.pan .sparesLeft, d, i⟩) (h20 : ∀ d i, P ⟨.sticky .panRetireDrop, d, i⟩) (h21 : ∀ d i, P ⟨.pan .nRetireDrop, d, i⟩) (h22 : ∀ d i, P ⟨.sticky .panMigUrgent, d, i⟩) (h23 : ∀ d i, P ⟨.live .panMigUrgent, d, i⟩) (h24 : ∀ d i, P ⟨.pan .retirePend, d, i⟩) (h25 : ∀ d i, P ⟨.sticky .panHardFault, d, i⟩) (h26 : ∀ d i, P ⟨.pan .nHard, d, i⟩) (h27 : ∀ d i, P ⟨.sticky .panUe, d, i⟩) (h28 : ∀ d i, P ⟨.pan .nUe, d, i⟩) (h29 : ∀ d i, P ⟨.pan .nXtsFault, d, i⟩) (h30 : ∀ d i, P ⟨.pan .nPoisonWr, d, i⟩) (h31 : ∀ i, P ⟨.qs .gapPend, f.die, i⟩) (h32 : ∀ i, P ⟨.qs .passed, f.die, i⟩) (h33 : ∀ i, P ⟨.qs .tagS, f.die, i⟩) (h34 : ∀ i, P ⟨.qs .nQCtPkts, f.die, i⟩) (h35 : ∀ i, P ⟨.qs .nQEnqBytes, f.die, i⟩) (h36 : ∀ i, P ⟨.qs .nQEnqPkts, f.die, i⟩) (h37 : ∀ i, P ⟨.trc .nLost, f.die, i⟩) (h38 : ∀ i, P ⟨.win .trcBuf, f.die, i⟩) (h39 : ∀ i, P ⟨.trc .count, f.die, i⟩) (h40 : ∀ i, P ⟨.trc .trcNext, f.die, i⟩) (h41 : ∀ i, P ⟨.sticky .trcFull, f.die, i⟩) (h42 : ∀ i, P ⟨.live .trcFull, f.die, i⟩) (h43 : ∀ i, P ⟨.sticky .telOvf, 0, i⟩) (h44 : ∀ i, P ⟨.tel .dropped, 0, i⟩) (h45 : ∀ i, P ⟨.tel .nDrop, 0, i⟩) (h46 : ∀ i, P ⟨.tel .written, 0, i⟩) (qreports : Q .reports) (qmerge : Q .merge) (qretireQ : Q .retireQ) (qrings : Q .rings) (qtelOut : Q .telOut) :
    Reach P Q s0 (State.enqueue s f colour present ct cq cc) := by
  unfold State.enqueue
  repeat' with_reducible first | assumption | apply State.ringPut_reach | apply State.gapRecord_reach | apply State.wakeQueue_reach | apply State.incIf_reach | apply State.add_reach | apply State.inc_reach | apply State.traceItem_reach | (intros; show P _ = true; apply_assumption) | split | dsimp only | intro _

theorem State.ctFail_reach {d : Nat} {p : Nat} {r : RingRec} {size : Bool} (hs : Reach P Q s0 s) (h1 : ∀ i, P ⟨.sticky .qsBrakeOn, d, i⟩) (h2 : ∀ i, P ⟨.live .qsBrakeOn, d, i⟩) (h3 : ∀ i, P ⟨.qs .brake, d, i⟩) (h4 : ∀ i, P ⟨.qs .qXoff, d, i⟩) (h5 : ∀ i, P ⟨.hl .pXoff, d, i⟩) (h6 : ∀ i, P ⟨.qs .dieOcc, d, i⟩) (h7 : ∀ i, P ⟨.qs .occWords, d, i⟩) (h8 : ∀ i, P ⟨.qs .rd, d, i⟩) (h9 : ∀ i, P ⟨.sticky .hlpCtAbort, d, i⟩) (h10 : ∀ i, P ⟨.hl .nCtAbort, d, i⟩) (h11 : ∀ i, P ⟨.hl .nRxFcsErr, d, i⟩) (h12 : ∀ d i, P ⟨.pan .poison, d, i⟩) (h13 : ∀ d i, P ⟨.pan .migDirty, d, i⟩) (h14 : ∀ d i, P ⟨.pan .wbPend, d, i⟩) (h15 : ∀ d i, P ⟨.pan .nMergeRmw, d, i⟩) (h16 : ∀ d i, P ⟨.pan .taken, d, i⟩) (h17 : ∀ d i, P ⟨.pan .given, d, i⟩) (h18 : ∀ d i, P ⟨.sticky .panSpareEmpty, d, i⟩) (h19 : ∀ d i, P ⟨.live .panSpareEmpty, d, i⟩) (h20 : ∀ d i, P ⟨.sticky .panSpareLow, d, i⟩) (h21 : ∀ d i, P ⟨.live .panSpareLow, d, i⟩) (h22 : ∀ d i, P ⟨.pan .sparesLeft, d, i⟩) (h23 : ∀ d i, P ⟨.sticky .panRetireDrop, d, i⟩) (h24 : ∀ d i, P ⟨.pan .nRetireDrop, d, i⟩) (h25 : ∀ d i, P ⟨.sticky .panMigUrgent, d, i⟩) (h26 : ∀ d i, P ⟨.live .panMigUrgent, d, i⟩) (h27 : ∀ d i, P ⟨.pan .retirePend, d, i⟩) (h28 : ∀ d i, P ⟨.sticky .panHardFault, d, i⟩) (h29 : ∀ d i, P ⟨.pan .nHard, d, i⟩) (h30 : ∀ d i, P ⟨.sticky .panUe, d, i⟩) (h31 : ∀ d i, P ⟨.pan .nUe, d, i⟩) (h32 : ∀ d i, P ⟨.pan .nXtsFault, d, i⟩) (h33 : ∀ d i, P ⟨.pan .nPoisonWr, d, i⟩) (h34 : ∀ i, P ⟨.qs .nQVoid, d, i⟩) (h35 : ∀ i, P ⟨.hl .nRxSizeErr, d, i⟩) (qreports : Q .reports) (qrings : Q .rings) (qmerge : Q .merge) (qretireQ : Q .retireQ) :
    Reach P Q s0 (State.ctFail s d p r size) := by
  unfold State.ctFail
  repeat' with_reducible first | assumption | apply State.ringDrop_reach | apply State.event_reach | apply State.inc_reach | apply State.ringStore_reach | apply State.ringEdit_reach | (intros; show P _ = true; apply_assumption) | split | dsimp only | intro _

theorem execCtFrameFail_reach {d : Nat} {id : Nat} {long : Bool} (hs : Reach P Q s0 s) (hsum : ∀ k, k.cell.summary → P k) (h11 : ∀ i, P ⟨.sticky .qsBrakeOn, d, i⟩) (h12 : ∀ i, P ⟨.live .qsBrakeOn, d, i⟩) (h13 : ∀ i, P ⟨.qs .brake, d, i⟩) (h14 : ∀ i, P ⟨.qs .qXoff, d, i⟩) (h15 : ∀ i, P ⟨.hl .pXoff, d, i⟩) (h16 : ∀ i, P ⟨.qs .dieOcc, d, i⟩) (h17 : ∀ i, P ⟨.qs .occWords, d, i⟩) (h18 : ∀ i, P ⟨.qs .rd, d, i⟩) (h19 : ∀ i, P ⟨.sticky .hlpCtAbort, d, i⟩) (h20 : ∀ i, P ⟨.hl .nCtAbort, d, i⟩) (h21 : ∀ i, P ⟨.hl .nRxFcsErr, d, i⟩) (h22 : ∀ d i, P ⟨.pan .poison, d, i⟩) (h23 : ∀ d i, P ⟨.pan .migDirty, d, i⟩) (h24 : ∀ d i, P ⟨.pan .wbPend, d, i⟩) (h25 : ∀ d i, P ⟨.pan .nMergeRmw, d, i⟩) (h26 : ∀ d i, P ⟨.pan .taken, d, i⟩) (h27 : ∀ d i, P ⟨.pan .given, d, i⟩) (h28 : ∀ d i, P ⟨.sticky .panSpareEmpty, d, i⟩) (h29 : ∀ d i, P ⟨.live .panSpareEmpty, d, i⟩) (h30 : ∀ d i, P ⟨.sticky .panSpareLow, d, i⟩) (h31 : ∀ d i, P ⟨.live .panSpareLow, d, i⟩) (h32 : ∀ d i, P ⟨.pan .sparesLeft, d, i⟩) (h33 : ∀ d i, P ⟨.sticky .panRetireDrop, d, i⟩) (h34 : ∀ d i, P ⟨.pan .nRetireDrop, d, i⟩) (h35 : ∀ d i, P ⟨.sticky .panMigUrgent, d, i⟩) (h36 : ∀ d i, P ⟨.live .panMigUrgent, d, i⟩) (h37 : ∀ d i, P ⟨.pan .retirePend, d, i⟩) (h38 : ∀ d i, P ⟨.sticky .panHardFault, d, i⟩) (h39 : ∀ d i, P ⟨.pan .nHard, d, i⟩) (h40 : ∀ d i, P ⟨.sticky .panUe, d, i⟩) (h41 : ∀ d i, P ⟨.pan .nUe, d, i⟩) (h42 : ∀ d i, P ⟨.pan .nXtsFault, d, i⟩) (h43 : ∀ d i, P ⟨.pan .nPoisonWr, d, i⟩) (h44 : ∀ i, P ⟨.qs .nQVoid, d, i⟩) (h45 : ∀ i, P ⟨.hl .nRxSizeErr, d, i⟩) (qreports : Q .reports) (qrings : Q .rings) (qmerge : Q .merge) (qretireQ : Q .retireQ) :
    ∃ t, execCtFrameFail d id long s = .next t ∧ Reach P Q s0 t := by
  unfold execCtFrameFail
  repeat' with_reducible first | assumption | apply finishIf_reach | apply State.ctFail_reach | (intros; show P _ = true; first | exact hsum _ rfl | (clear hsum; apply_assumption)) | split | dsimp only | intro _

theorem State.polCharge_reach {d : Nat} {x : Nat} {mask : Nat} {n : Nat} (hs : Reach P Q s0 s) (h1 : ∀ i, P ⟨.qs .polC, d, i⟩) (h2 : ∀ i, P ⟨.qs .polP, d, i⟩) :
    Reach P Q s0 (State.polCharge s d x mask n) := by
  unfold State.polCharge
  repeat' with_reducible first | assumption | apply State.when_reach | apply State.set_reach | (intros; show P _ = true; apply_assumption) | split | dsimp only | intro _

theorem State.clsWords_reach {d : Nat} {op : Nat} {w0 : Nat} {w1 : Nat} (hs : Reach P Q s0 s) (h1 : ∀ i, P ⟨.win .qsCls, d, i⟩) (h2 : ∀ i, P ⟨.qs .clsOp, d, i⟩) :
    Reach P Q s0 (State.clsWords s d op w0 w1) := by
  unfold State.clsWords
  repeat' with_reducible first | assumption | apply State.setWin_reach | apply State.set_reach | (intros; show P _ = true; apply_assumption) | split | dsimp only | intro _

theorem execQsClsLookup_reach {d : Nat} {w0 : Nat} {w1 : Nat} (hs : Reach P Q s0 s) (hsum : ∀ k, k.cell.summary → P k) (h11 : ∀ i, P ⟨.qs .clsUsed, d, i⟩) (h12 : ∀ i, P ⟨.qs .clsResult, d, i⟩) (h13 : ∀ i, P ⟨.win .qsCls, d, i⟩) (h14 : ∀ i, P ⟨.qs .clsOp, d, i⟩) (qreports : Q .reports) :
    ∃ t, execQsClsLookup d w0 w1 s = .next t ∧ Reach P Q s0 t := by
  unfold execQsClsLookup
  repeat' with_reducible first | assumption | apply finishIf_reach | apply State.clsFind_reach | apply State.clsWords_reach | (intros; show P _ = true; first | exact hsum _ rfl | (clear hsum; apply_assumption)) | split | dsimp only | intro _

theorem State.polCredit_reach {d : Nat} {x : Nat} {mask : Nat} {n : Nat} (hs : Reach P Q s0 s) (h1 : ∀ i, P ⟨.qs .polC, d, i⟩) (h2 : ∀ i, P ⟨.qs .polP, d, i⟩) :
    Reach P Q s0 (State.polCredit s d x mask n) := by
  unfold State.polCredit
  repeat' with_reducible first | assumption | apply State.when_reach | apply State.set_reach | (intros; show P _ = true; apply_assumption) | split | dsimp only | intro _

theorem State.macCount_reach {d : Nat} {p : Nat} {v : Nat} {len : Nat} (hs : Reach P Q s0 s) (h1 : ∀ i, P ⟨.hl .nRxBytes, d, i⟩) (h2 : ∀ i, P ⟨.hl .nRxFrames, d, i⟩) (h3 : ∀ i, P ⟨.hl .nRxSizeErr, d, i⟩) (h4 : ∀ i, P ⟨.hl .nRxFcsErr, d, i⟩) (h5 : ∀ i, P ⟨.sticky .hlpHostMacctl, d, i⟩) (h6 : ∀ i, P ⟨.hl .nMacctlRx, d, i⟩) (qreports : Q .reports) :
    Reach P Q s0 (State.macCount s d p v len) := by
  unfold State.macCount
  repeat' with_reducible first | assumption | apply State.add_reach | apply State.inc_reach | apply State.event_reach | (intros; show P _ = true; apply_assumption) | split | dsimp only | intro _

theorem State.unstage_reach {f : Staged} (hs : Reach P Q s0 s) (qstaged : Q .staged) :
    Reach P Q s0 (State.unstage s f) := by
  unfold State.unstage
  repeat' with_reducible first | assumption | apply foldl_reach | (intros; show P _ = true; apply_assumption) | split | dsimp only | intro _ | apply State.staged_reach

theorem State.moreStaged_reach {d : Nat} {p : Nat} {f : Sys2Proof.HostFrame} {g : Staged} (hs : Reach P Q s0 s) (h1 : ∀ i, P ⟨.hl .nRxBytes, d, i⟩) (h2 : ∀ i, P ⟨.hl .nRxFrames, d, i⟩) (h3 : ∀ i, P ⟨.hl .nRxSizeErr, d, i⟩) (h4 : ∀ i, P ⟨.hl .nRxFcsErr, d, i⟩) (h5 : ∀ i, P ⟨.sticky .hlpHostMacctl, d, i⟩) (h6 : ∀ i, P ⟨.hl .nMacctlRx, d, i⟩) (qstaged : Q .staged) (qreports : Q .reports) :
    Reach P Q s0 (State.moreStaged s d p f g) := by
  unfold State.moreStaged
  repeat' with_reducible first | assumption | apply State.macCount_reach | apply State.unstage_reach | (intros; show P _ = true; apply_assumption) | split | dsimp only | intro _ | apply State.staged_reach

theorem State.ctEnd_reach {d : Nat} {p : Nat} {f : Sys2Proof.HostFrame} {r : RingRec} (hs : Reach P Q s0 s) (h1 : ∀ i, P ⟨.qs .nQEnqBytes, d, i⟩) (h2 : ∀ i, P ⟨.hl .nRxBytes, d, i⟩) (h3 : ∀ i, P ⟨.hl .nRxFrames, d, i⟩) (h4 : ∀ i, P ⟨.qs .polC, d, i⟩) (h5 : ∀ i, P ⟨.qs .polP, d, i⟩) (h6 : ∀ i, P ⟨.sticky .qsBrakeOn, d, i⟩) (h7 : ∀ i, P ⟨.live .qsBrakeOn, d, i⟩) (h8 : ∀ i, P ⟨.qs .brake, d, i⟩) (h9 : ∀ i, P ⟨.qs .qXoff, d, i⟩) (h10 : ∀ i, P ⟨.hl .pXoff, d, i⟩) (h11 : ∀ i, P ⟨.qs .dieOcc, d, i⟩) (h12 : ∀ i, P ⟨.qs .occWords, d, i⟩) (h13 : ∀ i, P ⟨.qs .wr, d, i⟩) (h14 : ∀ d i, P ⟨.pan .poison, d, i⟩) (h15 : ∀ d i, P ⟨.pan .migDirty, d, i⟩) (h16 : ∀ d i, P ⟨.pan .wbPend, d, i⟩) (h17 : ∀ d i, P ⟨.pan .nMergeRmw, d, i⟩) (h18 : ∀ d i, P ⟨.pan .taken, d, i⟩) (h19 : ∀ d i, P ⟨.pan .given, d, i⟩) (h20 : ∀ d i, P ⟨.sticky .panSpareEmpty, d, i⟩) (h21 : ∀ d i, P ⟨.live .panSpareEmpty, d, i⟩) (h22 : ∀ d i, P ⟨.sticky .panSpareLow, d, i⟩) (h23 : ∀ d i, P ⟨.live .panSpareLow, d, i⟩) (h24 : ∀ d i, P ⟨.pan .sparesLeft, d, i⟩) (h25 : ∀ d i, P ⟨.sticky .panRetireDrop, d, i⟩) (h26 : ∀ d i, P ⟨.pan .nRetireDrop, d, i⟩) (h27 : ∀ d i, P ⟨.sticky .panMigUrgent, d, i⟩) (h28 : ∀ d i, P ⟨.live .panMigUrgent, d, i⟩) (h29 : ∀ d i, P ⟨.pan .retirePend, d, i⟩) (h30 : ∀ d i, P ⟨.sticky .panHardFault, d, i⟩) (h31 : ∀ d i, P ⟨.pan .nHard, d, i⟩) (h32 : ∀ d i, P ⟨.sticky .panUe, d, i⟩) (h33 : ∀ d i, P ⟨.pan .nUe, d, i⟩) (h34 : ∀ d i, P ⟨.pan .nXtsFault, d, i⟩) (h35 : ∀ d i, P ⟨.pan .nPoisonWr, d, i⟩) (h36 : ∀ i, P ⟨.qs .rd, d, i⟩) (h37 : ∀ i, P ⟨.qs .nQDeqBytes, d, i⟩) (qreports : Q .reports) (qmerge : Q .merge) (qretireQ : Q .retireQ) (qrings : Q .rings) :
    Reach P Q s0 (State.ctEnd s d p f r) := by
  unfold State.ctEnd
  repeat' with_reducible first | assumption | apply State.add_reach | apply State.inc_reach | apply State.polCredit_reach | apply State.occAdd_reach | apply State.ringStore_reach | apply State.ringEdit_reach | apply State.ringDrop_reach | (intros; show P _ = true; apply_assumption) | split | dsimp only | intro _

theorem execHostFrameRx_reach {d : Nat} {p : Nat} {f : Sys2Proof.HostFrame} (hs : Reach P Q s0 s) (hsum : ∀ k, k.cell.summary → P k) (h11 : ∀ i, P ⟨.hl .nRxBytes, d, i⟩) (h12 : ∀ i, P ⟨.hl .nRxFrames, d, i⟩) (h13 : ∀ i, P ⟨.hl .nRxSizeErr, d, i⟩) (h14 : ∀ i, P ⟨.hl .nRxFcsErr, d, i⟩) (h15 : ∀ i, P ⟨.sticky .hlpHostMacctl, d, i⟩) (h16 : ∀ i, P ⟨.hl .nMacctlRx, d, i⟩) (h17 : ∀ i, P ⟨.qs .nQEnqBytes, d, i⟩) (h18 : ∀ i, P ⟨.qs .polC, d, i⟩) (h19 : ∀ i, P ⟨.qs .polP, d, i⟩) (h20 : ∀ i, P ⟨.sticky .qsBrakeOn, d, i⟩) (h21 : ∀ i, P ⟨.live .qsBrakeOn, d, i⟩) (h22 : ∀ i, P ⟨.qs .brake, d, i⟩) (h23 : ∀ i, P ⟨.qs .qXoff, d, i⟩) (h24 : ∀ i, P ⟨.hl .pXoff, d, i⟩) (h25 : ∀ i, P ⟨.qs .dieOcc, d, i⟩) (h26 : ∀ i, P ⟨.qs .occWords, d, i⟩) (h27 : ∀ i, P ⟨.qs .wr, d, i⟩) (h28 : ∀ d i, P ⟨.pan .poison, d, i⟩) (h29 : ∀ d i, P ⟨.pan .migDirty, d, i⟩) (h30 : ∀ d i, P ⟨.pan .wbPend, d, i⟩) (h31 : ∀ d i, P ⟨.pan .nMergeRmw, d, i⟩) (h32 : ∀ d i, P ⟨.pan .taken, d, i⟩) (h33 : ∀ d i, P ⟨.pan .given, d, i⟩) (h34 : ∀ d i, P ⟨.sticky .panSpareEmpty, d, i⟩) (h35 : ∀ d i, P ⟨.live .panSpareEmpty, d, i⟩) (h36 : ∀ d i, P ⟨.sticky .panSpareLow, d, i⟩) (h37 : ∀ d i, P ⟨.live .panSpareLow, d, i⟩) (h38 : ∀ d i, P ⟨.pan .sparesLeft, d, i⟩) (h39 : ∀ d i, P ⟨.sticky .panRetireDrop, d, i⟩) (h40 : ∀ d i, P ⟨.pan .nRetireDrop, d, i⟩) (h41 : ∀ d i, P ⟨.sticky .panMigUrgent, d, i⟩) (h42 : ∀ d i, P ⟨.live .panMigUrgent, d, i⟩) (h43 : ∀ d i, P ⟨.pan .retirePend, d, i⟩) (h44 : ∀ d i, P ⟨.sticky .panHardFault, d, i⟩) (h45 : ∀ d i, P ⟨.pan .nHard, d, i⟩) (h46 : ∀ d i, P ⟨.sticky .panUe, d, i⟩) (h47 : ∀ d i, P ⟨.pan .nUe, d, i⟩) (h48 : ∀ d i, P ⟨.pan .nXtsFault, d, i⟩) (h49 : ∀ d i, P ⟨.pan .nPoisonWr, d, i⟩) (h50 : ∀ i, P ⟨.qs .rd, d, i⟩) (h51 : ∀ i, P ⟨.qs .nQDeqBytes, d, i⟩) (h52 : ∀ i, P ⟨.sticky .hlpCtAbort, d, i⟩) (h53 : ∀ i, P ⟨.hl .nCtAbort, d, i⟩) (h54 : ∀ i, P ⟨.qs .nQVoid, d, i⟩) (h55 : ∀ i, P ⟨.sys .freeCount, 0, i⟩) (h56 : ∀ i, P ⟨.trc .nTagged, d, i⟩) (h57 : ∀ i, P ⟨.trc .nLost, d, i⟩) (h58 : ∀ i, P ⟨.win .trcBuf, d, i⟩) (h59 : ∀ i, P ⟨.trc .count, d, i⟩) (h60 : ∀ i, P ⟨.trc .trcNext, d, i⟩) (h61 : ∀ i, P ⟨.sticky .trcFull, d, i⟩) (h62 : ∀ i, P ⟨.live .trcFull, d, i⟩) (h63 : ∀ i, P ⟨.sticky .telOvf, 0, i⟩) (h64 : ∀ i, P ⟨.tel .dropped, 0, i⟩) (h65 : ∀ i, P ⟨.tel .nDrop, 0, i⟩) (h66 : ∀ i, P ⟨.tel .written, 0, i⟩) (h67 : ∀ i, P ⟨.sticky .qsStageOvf, d, i⟩) (h68 : ∀ i, P ⟨.live .qsStageOvf, d, i⟩) (h69 : ∀ i, P ⟨.qs .nStageDrop, d, i⟩) (h70 : ∀ i, P ⟨.qs .nClsHit, d, i⟩) (h71 : ∀ i, P ⟨.qs .nClsMiss, d, i⟩) (h72 : ∀ i, P ⟨.qs .nClsTagBad, d, i⟩) (qreports : Q .reports) (qstaged : Q .staged) (qmerge : Q .merge) (qretireQ : Q .retireQ) (qrings : Q .rings) (qtelOut : Q .telOut) :
    ∃ t, execHostFrameRx d p f s = .next t ∧ Reach P Q s0 t := by
  unfold execHostFrameRx
  repeat' with_reducible first | assumption | apply finishIf_reach | apply State.moreStaged_reach | apply State.ctEnd_reach | apply State.ctFail_reach | apply State.macCount_reach | apply State.newFrame_reach | apply State.stageFrame_reach | (intros; show P _ = true; first | exact hsum _ rfl | (clear hsum; apply_assumption)) | split | dsimp only | intro _

theorem State.polFill_reach {d : Nat} {x : Nat} (hs : Reach P Q s0 s) (h1 : ∀ i, P ⟨.qs .polAt, d, i⟩) (h2 : ∀ i, P ⟨.qs .polP, d, i⟩) (h3 : ∀ i, P ⟨.qs .polC, d, i⟩) :
    Reach P Q s0 (State.polFill s d x) := by
  unfold State.polFill
  repeat' with_reducible first | assumption | apply State.set_reach | (intros; show P _ = true; apply_assumption) | split | dsimp only | intro _

theorem State.polAsk_reach {d : Nat} {x : Nat} {colour : Nat} {n : Nat} (hs : Reach P Q s0 s) (h1 : ∀ i, P ⟨.qs .polAt, d, i⟩) (h2 : ∀ i, P ⟨.qs .polP, d, i⟩) (h3 : ∀ i, P ⟨.qs .polC, d, i⟩) :
    Reach P Q s0 (State.polAsk s d x colour n).1 := by
  unfold State.polAsk
  repeat' with_reducible first | assumption | apply State.polFill_reach | apply State.polCharge_reach | (intros; show P _ = true; apply_assumption) | split | dsimp only | intro _

theorem State.police_reach {d : Nat} {q : Nat} {colour : Nat} {n : Nat} (hs : Reach P Q s0 s) (h1 : ∀ i, P ⟨.qs .polAt, d, i⟩) (h2 : ∀ i, P ⟨.qs .polP, d, i⟩) (h3 : ∀ i, P ⟨.qs .polC, d, i⟩) (h4 : ∀ i, P ⟨.qs .nCPolRed, d, i⟩) :
    Reach P Q s0 (State.police s d q colour n).1 := by
  unfold State.police
  repeat' with_reducible first | assumption | apply State.polAsk_reach | apply State.incIf_reach | (intros; show P _ = true; apply_assumption) | split | dsimp only | intro _

theorem State.lostFrame_reach {f : Staged} {why : Nat} (hs : Reach P Q s0 s) (h1 : ∀ i, P ⟨.trc .nLost, f.die, i⟩) (h2 : ∀ i, P ⟨.win .trcBuf, f.die, i⟩) (h3 : ∀ i, P ⟨.trc .count, f.die, i⟩) (h4 : ∀ i, P ⟨.trc .trcNext, f.die, i⟩) (h5 : ∀ i, P ⟨.sticky .trcFull, f.die, i⟩) (h6 : ∀ i, P ⟨.live .trcFull, f.die, i⟩) (h7 : ∀ i, P ⟨.sticky .telOvf, 0, i⟩) (h8 : ∀ i, P ⟨.tel .dropped, 0, i⟩) (h9 : ∀ i, P ⟨.tel .nDrop, 0, i⟩) (h10 : ∀ i, P ⟨.tel .written, 0, i⟩) (qreports : Q .reports) (qtelOut : Q .telOut) :
    Reach P Q s0 (State.lostFrame s f why) := by
  unfold State.lostFrame
  repeat' with_reducible first | assumption | apply State.traceItem_reach | (intros; show P _ = true; apply_assumption) | split | dsimp only | intro _

theorem State.takeIn_reach {f : Staged} {ct : Bool} (hs : Reach P Q s0 s) (h1 : ∀ i, P ⟨.qs .polAt, f.die, i⟩) (h2 : ∀ i, P ⟨.qs .polP, f.die, i⟩) (h3 : ∀ i, P ⟨.qs .polC, f.die, i⟩) (h4 : ∀ i, P ⟨.qs .nCPolRed, f.die, i⟩) (h5 : ∀ i, P ⟨.trc .nLost, f.die, i⟩) (h6 : ∀ i, P ⟨.win .trcBuf, f.die, i⟩) (h7 : ∀ i, P ⟨.trc .count, f.die, i⟩) (h8 : ∀ i, P ⟨.trc .trcNext, f.die, i⟩) (h9 : ∀ i, P ⟨.sticky .trcFull, f.die, i⟩) (h10 : ∀ i, P ⟨.live .trcFull, f.die, i⟩) (h11 : ∀ i, P ⟨.sticky .telOvf, 0, i⟩) (h12 : ∀ i, P ⟨.tel .dropped, 0, i⟩) (h13 : ∀ i, P ⟨.tel .nDrop, 0, i⟩) (h14 : ∀ i, P ⟨.tel .written, 0, i⟩) (h15 : ∀ i, P ⟨.qs .nQDropRed, f.die, i⟩) (h16 : ∀ i, P ⟨.qs .nQDropYel, f.die, i⟩) (h17 : ∀ i, P ⟨.sticky .qsQFullDrop, f.die, i⟩) (h18 : ∀ i, P ⟨.qs .gapPend, f.die, i⟩) (h19 : ∀ i, P ⟨.qs .nQDropFull, f.die, i⟩) (h20 : ∀ d i, P ⟨.sticky .qsBrakeOn, d, i⟩) (h21 : ∀ d i, P ⟨.live .qsBrakeOn, d, i⟩) (h22 : ∀ d i, P ⟨.qs .brake, d, i⟩) (h23 : ∀ d i, P ⟨.qs .qXoff, d, i⟩) (h24 : ∀ d i, P ⟨.hl .pXoff, d, i⟩) (h25 : ∀ d i, P ⟨.qs .dieOcc, d, i⟩) (h26 : ∀ d i, P ⟨.qs .occWords, d, i⟩) (h27 : ∀ d i, P ⟨.qs .wr, d, i⟩) (h28 : ∀ d i, P ⟨.pan .poison, d, i⟩) (h29 : ∀ d i, P ⟨.pan .migDirty, d, i⟩) (h30 : ∀ d i, P ⟨.pan .wbPend, d, i⟩) (h31 : ∀ d i, P ⟨.pan .nMergeRmw, d, i⟩) (h32 : ∀ d i, P ⟨.pan .taken, d, i⟩) (h33 : ∀ d i, P ⟨.pan .given, d, i⟩) (h34 : ∀ d i, P ⟨.sticky .panSpareEmpty, d, i⟩) (h35 : ∀ d i, P ⟨.live .panSpareEmpty, d, i⟩) (h36 : ∀ d i, P ⟨.sticky .panSpareLow, d, i⟩) (h37 : ∀ d i, P ⟨.live .panSpareLow, d, i⟩) (h38 : ∀ d i, P ⟨.pan .sparesLeft, d, i⟩) (h39 : ∀ d i, P ⟨.sticky .panRetireDrop, d, i⟩) (h40 : ∀ d i, P ⟨.pan .nRetireDrop, d, i⟩) (h41 : ∀ d i, P ⟨.sticky .panMigUrgent, d, i⟩) (h42 : ∀ d i, P ⟨.live .panMigUrgent, d, i⟩) (h43 : ∀ d i, P ⟨.pan .retirePend, d, i⟩) (h44 : ∀ d i, P ⟨.sticky .panHardFault, d, i⟩) (h45 : ∀ d i, P ⟨.pan .nHard, d, i⟩) (h46 : ∀ d i, P ⟨.sticky .panUe, d, i⟩) (h47 : ∀ d i, P ⟨.pan .nUe, d, i⟩) (h48 : ∀ d i, P ⟨.pan .nXtsFault, d, i⟩) (h49 : ∀ d i, P ⟨.pan .nPoisonWr, d, i⟩) (h50 : ∀ i, P ⟨.qs .passed, f.die, i⟩) (h51 : ∀ i, P ⟨.qs .tagS, f.die, i⟩) (h52 : ∀ i, P ⟨.qs .nQCtPkts, f.die, i⟩) (h53 : ∀ i, P ⟨.qs .nQEnqBytes, f.die, i⟩) (h54 : ∀ i, P ⟨.qs .nQEnqPkts, f.die, i⟩) (qstaged : Q .staged) (qreports : Q .reports) (qtelOut : Q .telOut) (qmerge : Q .merge) (qretireQ : Q .retireQ) (qrings : Q .rings) :
    Reach P Q s0 (State.takeIn s f ct) := by
  unfold State.takeIn
  repeat' with_reducible first | assumption | apply State.police_reach | apply State.unstage_reach | apply State.traceItem_reach | apply State.lostFrame_reach | apply State.inc_reach | apply State.dropFull_reach | apply State.enqueue_reach | (intros; show P _ = true; apply_assumption) | split | dsimp only | intro _

theorem execStagedFrameRelease_reach {d : Nat} {id : Nat} (hs : Reach P Q s0 s) (hsum : ∀ k, k.cell.summary → P k) (h11 : ∀ d i, P ⟨.qs .polAt, d, i⟩) (h12 : ∀ d i, P ⟨.qs .polP, d, i⟩) (h13 : ∀ d i, P ⟨.qs .polC, d, i⟩) (h14 : ∀ d i, P ⟨.qs .nCPolRed, d, i⟩) (h15 : ∀ d i, P ⟨.trc .nLost, d, i⟩) (h16 : ∀ d i, P ⟨.win .trcBuf, d, i⟩) (h17 : ∀ d i, P ⟨.trc .count, d, i⟩) (h18 : ∀ d i, P ⟨.trc .trcNext, d, i⟩) (h19 : ∀ d i, P ⟨.sticky .trcFull, d, i⟩) (h20 : ∀ d i, P ⟨.live .trcFull, d, i⟩) (h21 : ∀ i, P ⟨.sticky .telOvf, 0, i⟩) (h22 : ∀ i, P ⟨.tel .dropped, 0, i⟩) (h23 : ∀ i, P ⟨.tel .nDrop, 0, i⟩) (h24 : ∀ i, P ⟨.tel .written, 0, i⟩) (h25 : ∀ d i, P ⟨.qs .nQDropRed, d, i⟩) (h26 : ∀ d i, P ⟨.qs .nQDropYel, d, i⟩) (h27 : ∀ d i, P ⟨.sticky .qsQFullDrop, d, i⟩) (h28 : ∀ d i, P ⟨.qs .gapPend, d, i⟩) (h29 : ∀ d i, P ⟨.qs .nQDropFull, d, i⟩) (h30 : ∀ d i, P ⟨.sticky .qsBrakeOn, d, i⟩) (h31 : ∀ d i, P ⟨.live .qsBrakeOn, d, i⟩) (h32 : ∀ d i, P ⟨.qs .brake, d, i⟩) (h33 : ∀ d i, P ⟨.qs .qXoff, d, i⟩) (h34 : ∀ d i, P ⟨.hl .pXoff, d, i⟩) (h35 : ∀ d i, P ⟨.qs .dieOcc, d, i⟩) (h36 : ∀ d i, P ⟨.qs .occWords, d, i⟩) (h37 : ∀ d i, P ⟨.qs .wr, d, i⟩) (h38 : ∀ d i, P ⟨.pan .poison, d, i⟩) (h39 : ∀ d i, P ⟨.pan .migDirty, d, i⟩) (h40 : ∀ d i, P ⟨.pan .wbPend, d, i⟩) (h41 : ∀ d i, P ⟨.pan .nMergeRmw, d, i⟩) (h42 : ∀ d i, P ⟨.pan .taken, d, i⟩) (h43 : ∀ d i, P ⟨.pan .given, d, i⟩) (h44 : ∀ d i, P ⟨.sticky .panSpareEmpty, d, i⟩) (h45 : ∀ d i, P ⟨.live .panSpareEmpty, d, i⟩) (h46 : ∀ d i, P ⟨.sticky .panSpareLow, d, i⟩) (h47 : ∀ d i, P ⟨.live .panSpareLow, d, i⟩) (h48 : ∀ d i, P ⟨.pan .sparesLeft, d, i⟩) (h49 : ∀ d i, P ⟨.sticky .panRetireDrop, d, i⟩) (h50 : ∀ d i, P ⟨.pan .nRetireDrop, d, i⟩) (h51 : ∀ d i, P ⟨.sticky .panMigUrgent, d, i⟩) (h52 : ∀ d i, P ⟨.live .panMigUrgent, d, i⟩) (h53 : ∀ d i, P ⟨.pan .retirePend, d, i⟩) (h54 : ∀ d i, P ⟨.sticky .panHardFault, d, i⟩) (h55 : ∀ d i, P ⟨.pan .nHard, d, i⟩) (h56 : ∀ d i, P ⟨.sticky .panUe, d, i⟩) (h57 : ∀ d i, P ⟨.pan .nUe, d, i⟩) (h58 : ∀ d i, P ⟨.pan .nXtsFault, d, i⟩) (h59 : ∀ d i, P ⟨.pan .nPoisonWr, d, i⟩) (h60 : ∀ d i, P ⟨.qs .passed, d, i⟩) (h61 : ∀ d i, P ⟨.qs .tagS, d, i⟩) (h62 : ∀ d i, P ⟨.qs .nQCtPkts, d, i⟩) (h63 : ∀ d i, P ⟨.qs .nQEnqBytes, d, i⟩) (h64 : ∀ d i, P ⟨.qs .nQEnqPkts, d, i⟩) (qreports : Q .reports) (qstaged : Q .staged) (qtelOut : Q .telOut) (qmerge : Q .merge) (qretireQ : Q .retireQ) (qrings : Q .rings) :
    ∃ t, execStagedFrameRelease d id s = .next t ∧ Reach P Q s0 t := by
  unfold execStagedFrameRelease
  repeat' with_reducible first | assumption | apply finishIf_reach | apply State.takeIn_reach | (intros; show P _ = true; first | exact hsum _ rfl | (clear hsum; apply_assumption)) | split | dsimp only | intro _

theorem execQsClsDelete_reach {d : Nat} {w0 : Nat} {w1 : Nat} (hs : Reach P Q s0 s) (hsum : ∀ k, k.cell.summary → P k) (h11 : ∀ i, P ⟨.qs .clsUsed, d, i⟩) (h12 : ∀ i, P ⟨.qs .clsResult, d, i⟩) (h13 : ∀ i, P ⟨.win .qsCls, d, i⟩) (h14 : ∀ i, P ⟨.qs .clsOp, d, i⟩) (qreports : Q .reports) (qclsTab : Q .clsTab) :
    ∃ t, execQsClsDelete d w0 w1 s = .next t ∧ Reach P Q s0 t := by
  unfold execQsClsDelete
  repeat' with_reducible first | assumption | apply finishIf_reach | apply State.clsDelete_reach | apply State.clsWords_reach | (intros; show P _ = true; first | exact hsum _ rfl | (clear hsum; apply_assumption)) | split | dsimp only | intro _

theorem State.queueEnd_reach {d : Nat} {q : Nat} (hs : Reach P Q s0 s) (h1 : ∀ i, P ⟨.win .qsQ, d, i⟩) (h2 : ∀ i, P ⟨.qs .qDrain, d, i⟩) (h3 : ∀ i, P ⟨.qs .gapPend, d, i⟩) (h4 : ∀ i, P ⟨.sticky .qsBrakeOn, d, i⟩) (h5 : ∀ i, P ⟨.live .qsBrakeOn, d, i⟩) (h6 : ∀ i, P ⟨.qs .brake, d, i⟩) (h7 : ∀ i, P ⟨.qs .qXoff, d, i⟩) (h8 : ∀ i, P ⟨.hl .pXoff, d, i⟩) (h9 : ∀ i, P ⟨.qs .dieOcc, d, i⟩) (h10 : ∀ i, P ⟨.qs .occWords, d, i⟩) (h11 : ∀ i, P ⟨.qs .rd, d, i⟩) (h12 : ∀ i, P ⟨.trc .nLost, d, i⟩) (h13 : ∀ i, P ⟨.win .trcBuf, d, i⟩) (h14 : ∀ i, P ⟨.trc .count, d, i⟩) (h15 : ∀ i, P ⟨.trc .trcNext, d, i⟩) (h16 : ∀ i, P ⟨.sticky .trcFull, d, i⟩) (h17 : ∀ i, P ⟨.live .trcFull, d, i⟩) (h18 : ∀ i, P ⟨.sticky .telOvf, 0, i⟩) (h19 : ∀ i, P ⟨.tel .dropped, 0, i⟩) (h20 : ∀ i, P ⟨.tel .nDrop, 0, i⟩) (h21 : ∀ i, P ⟨.tel .written, 0, i⟩) (h22 : ∀ i, P ⟨.sticky .qsDrainDisc, d, i⟩) (h23 : ∀ i, P ⟨.qs .nCDrainDisc, d, i⟩) (qrings : Q .rings) (qreports : Q .reports) (qtelOut : Q .telOut) :
    Reach P Q s0 (State.queueEnd s d q) := by
  unfold State.queueEnd
  repeat' with_reducible first | assumption | apply State.setWin_reach | apply State.set_reach | apply State.queueFlush_reach | (intros; show P _ = true; apply_assumption) | split | dsimp only | intro _

theorem execFrameDecisionPoint_reach {d : Nat} {id : Nat} (hs : Reach P Q s0 s) (hsum : ∀ k, k.cell.summary → P k) (h11 : ∀ d i, P ⟨.qs .polAt, d, i⟩) (h12 : ∀ d i, P ⟨.qs .polP, d, i⟩) (h13 : ∀ d i, P ⟨.qs .polC, d, i⟩) (h14 : ∀ d i, P ⟨.qs .nCPolRed, d, i⟩) (h15 : ∀ d i, P ⟨.trc .nLost, d, i⟩) (h16 : ∀ d i, P ⟨.win .trcBuf, d, i⟩) (h17 : ∀ d i, P ⟨.trc .count, d, i⟩) (h18 : ∀ d i, P ⟨.trc .trcNext, d, i⟩) (h19 : ∀ d i, P ⟨.sticky .trcFull, d, i⟩) (h20 : ∀ d i, P ⟨.live .trcFull, d, i⟩) (h21 : ∀ i, P ⟨.sticky .telOvf, 0, i⟩) (h22 : ∀ i, P ⟨.tel .dropped, 0, i⟩) (h23 : ∀ i, P ⟨.tel .nDrop, 0, i⟩) (h24 : ∀ i, P ⟨.tel .written, 0, i⟩) (h25 : ∀ d i, P ⟨.qs .nQDropRed, d, i⟩) (h26 : ∀ d i, P ⟨.qs .nQDropYel, d, i⟩) (h27 : ∀ d i, P ⟨.sticky .qsQFullDrop, d, i⟩) (h28 : ∀ d i, P ⟨.qs .gapPend, d, i⟩) (h29 : ∀ d i, P ⟨.qs .nQDropFull, d, i⟩) (h30 : ∀ d i, P ⟨.sticky .qsBrakeOn, d, i⟩) (h31 : ∀ d i, P ⟨.live .qsBrakeOn, d, i⟩) (h32 : ∀ d i, P ⟨.qs .brake, d, i⟩) (h33 : ∀ d i, P ⟨.qs .qXoff, d, i⟩) (h34 : ∀ d i, P ⟨.hl .pXoff, d, i⟩) (h35 : ∀ d i, P ⟨.qs .dieOcc, d, i⟩) (h36 : ∀ d i, P ⟨.qs .occWords, d, i⟩) (h37 : ∀ d i, P ⟨.qs .wr, d, i⟩) (h38 : ∀ d i, P ⟨.pan .poison, d, i⟩) (h39 : ∀ d i, P ⟨.pan .migDirty, d, i⟩) (h40 : ∀ d i, P ⟨.pan .wbPend, d, i⟩) (h41 : ∀ d i, P ⟨.pan .nMergeRmw, d, i⟩) (h42 : ∀ d i, P ⟨.pan .taken, d, i⟩) (h43 : ∀ d i, P ⟨.pan .given, d, i⟩) (h44 : ∀ d i, P ⟨.sticky .panSpareEmpty, d, i⟩) (h45 : ∀ d i, P ⟨.live .panSpareEmpty, d, i⟩) (h46 : ∀ d i, P ⟨.sticky .panSpareLow, d, i⟩) (h47 : ∀ d i, P ⟨.live .panSpareLow, d, i⟩) (h48 : ∀ d i, P ⟨.pan .sparesLeft, d, i⟩) (h49 : ∀ d i, P ⟨.sticky .panRetireDrop, d, i⟩) (h50 : ∀ d i, P ⟨.pan .nRetireDrop, d, i⟩) (h51 : ∀ d i, P ⟨.sticky .panMigUrgent, d, i⟩) (h52 : ∀ d i, P ⟨.live .panMigUrgent, d, i⟩) (h53 : ∀ d i, P ⟨.pan .retirePend, d, i⟩) (h54 : ∀ d i, P ⟨.sticky .panHardFault, d, i⟩) (h55 : ∀ d i, P ⟨.pan .nHard, d, i⟩) (h56 : ∀ d i, P ⟨.sticky .panUe, d, i⟩) (h57 : ∀ d i, P ⟨.pan .nUe, d, i⟩) (h58 : ∀ d i, P ⟨.pan .nXtsFault, d, i⟩) (h59 : ∀ d i, P ⟨.pan .nPoisonWr, d, i⟩) (h60 : ∀ d i, P ⟨.qs .passed, d, i⟩) (h61 : ∀ d i, P ⟨.qs .tagS, d, i⟩) (h62 : ∀ d i, P ⟨.qs .nQCtPkts, d, i⟩) (h63 : ∀ d i, P ⟨.qs .nQEnqBytes, d, i⟩) (h64 : ∀ d i, P ⟨.qs .nQEnqPkts, d, i⟩) (qreports : Q .reports) (qstaged : Q .staged) (qtelOut : Q .telOut) (qmerge : Q .merge) (qretireQ : Q .retireQ) (qrings : Q .rings) :
    ∃ t, execFrameDecisionPoint d id s = .next t ∧ Reach P Q s0 t := by
  unfold execFrameDecisionPoint
  repeat' with_reducible first | assumption | apply finishIf_reach | apply State.takeIn_reach | (intros; show P _ = true; first | exact hsum _ rfl | (clear hsum; apply_assumption)) | split | dsimp only | intro _

theorem State.freeSlots_reach {c : Nat} (hs : Reach P Q s0 s) (h1 : ∀ d i, P ⟨.sys .winBusy, d, i⟩) (h2 : ∀ d i, P ⟨.winDirty .ctTsmap, d, i⟩) (h3 : ∀ d i, P ⟨.winNew .ctTsmap, d, i⟩) :
    Reach P Q s0 (State.freeSlots s c) := by
  unfold State.freeSlots
  repeat' with_reducible first | assumption | apply State.each_reach | apply State.set_reach | (intros; show P _ = true; apply_assumption) | split | dsimp only | intro _

theorem State.ctnDrainEnd_reach {d : Nat} {i : Nat} (hs : Reach P Q s0 s) (h1 : ∀ d i, P ⟨.sys .winBusy, d, i⟩) (h2 : ∀ d i, P ⟨.winDirty .ctTsmap, d, i⟩) (h3 : ∀ d i, P ⟨.winNew .ctTsmap, d, i⟩) (h4 : ∀ i, P ⟨.qs .cDrain, d, i⟩) (h5 : ∀ i, P ⟨.win .qsQ, d, i⟩) (h6 : ∀ i, P ⟨.qs .qDrain, d, i⟩) (h7 : ∀ i, P ⟨.qs .gapPend, d, i⟩) (h8 : ∀ i, P ⟨.sticky .qsBrakeOn, d, i⟩) (h9 : ∀ i, P ⟨.live .qsBrakeOn, d, i⟩) (h10 : ∀ i, P ⟨.qs .brake, d, i⟩) (h11 : ∀ i, P ⟨.qs .qXoff, d, i⟩) (h12 : ∀ i, P ⟨.hl .pXoff, d, i⟩) (h13 : ∀ i, P ⟨.qs .dieOcc, d, i⟩) (h14 : ∀ i, P ⟨.qs .occWords, d, i⟩) (h15 : ∀ i, P ⟨.qs .rd, d, i⟩) (h16 : ∀ i, P ⟨.trc .nLost, d, i⟩) (h17 : ∀ i, P ⟨.win .trcBuf, d, i⟩) (h18 : ∀ i, P ⟨.trc .count, d, i⟩) (h19 : ∀ i, P ⟨.trc .trcNext, d, i⟩) (h20 : ∀ i, P ⟨.sticky .trcFull, d, i⟩) (h21 : ∀ i, P ⟨.live .trcFull, d, i⟩) (h22 : ∀ i, P ⟨.sticky .telOvf, 0, i⟩) (h23 : ∀ i, P ⟨.tel .dropped, 0, i⟩) (h24 : ∀ i, P ⟨.tel .nDrop, 0, i⟩) (h25 : ∀ i, P ⟨.tel .written, 0, i⟩) (h26 : ∀ i, P ⟨.sticky .qsDrainDisc, d, i⟩) (h27 : ∀ i, P ⟨.qs .nCDrainDisc, d, i⟩) (qrings : Q .rings) (qreports : Q .reports) (qtelOut : Q .telOut) :
    Reach P Q s0 (State.ctnDrainEnd s d i) := by
  unfold State.ctnDrainEnd
  repeat' with_reducible first | assumption | apply State.freeSlots_reach | apply State.set_reach | apply State.each_reach | apply State.queueEnd_reach | (intros; show P _ = true; apply_assumption) | split | dsimp only | intro _

theorem execDrainEnd_reach {d : Nat} {container : Bool} {idx : Nat} (hs : Reach P Q s0 s) (hsum : ∀ k, k.cell.summary → P k) (h11 : ∀ d i, P ⟨.sys .winBusy, d, i⟩) (h12 : ∀ d i, P ⟨.winDirty .ctTsmap, d, i⟩) (h13 : ∀ d i, P ⟨.winNew .ctTsmap, d, i⟩) (h14 : ∀ i, P ⟨.qs .cDrain, d, i⟩) (h15 : ∀ i, P ⟨.win .qsQ, d, i⟩) (h16 : ∀ i, P ⟨.qs .qDrain, d, i⟩) (h17 : ∀ i, P ⟨.qs .gapPend, d, i⟩) (h18 : ∀ i, P ⟨.sticky .qsBrakeOn, d, i⟩) (h19 : ∀ i, P ⟨.live .qsBrakeOn, d, i⟩) (h20 : ∀ i, P ⟨.qs .brake, d, i⟩) (h21 : ∀ i, P ⟨.qs .qXoff, d, i⟩) (h22 : ∀ i, P ⟨.hl .pXoff, d, i⟩) (h23 : ∀ i, P ⟨.qs .dieOcc, d, i⟩) (h24 : ∀ i, P ⟨.qs .occWords, d, i⟩) (h25 : ∀ i, P ⟨.qs .rd, d, i⟩) (h26 : ∀ i, P ⟨.trc .nLost, d, i⟩) (h27 : ∀ i, P ⟨.win .trcBuf, d, i⟩) (h28 : ∀ i, P ⟨.trc .count, d, i⟩) (h29 : ∀ i, P ⟨.trc .trcNext, d, i⟩) (h30 : ∀ i, P ⟨.sticky .trcFull, d, i⟩) (h31 : ∀ i, P ⟨.live .trcFull, d, i⟩) (h32 : ∀ i, P ⟨.sticky .telOvf, 0, i⟩) (h33 : ∀ i, P ⟨.tel .dropped, 0, i⟩) (h34 : ∀ i, P ⟨.tel .nDrop, 0, i⟩) (h35 : ∀ i, P ⟨.tel .written, 0, i⟩) (h36 : ∀ i, P ⟨.sticky .qsDrainDisc, d, i⟩) (h37 : ∀ i, P ⟨.qs .nCDrainDisc, d, i⟩) (qreports : Q .reports) (qrings : Q .rings) (qtelOut : Q .telOut) :
    ∃ t, execDrainEnd d container idx s = .next t ∧ Reach P Q s0 t := by
  unfold execDrainEnd
  repeat' with_reducible first | assumption | apply finishIf_reach | apply State.ctnDrainEnd_reach | apply State.queueEnd_reach | (intros; show P _ = true; first | exact hsum _ rfl | (clear hsum; apply_assumption)) | split | dsimp only | intro _

theorem execQsClsInsert_reach {d : Nat} {w0 : Nat} {w1 : Nat} (hs : Reach P Q s0 s) (hsum : ∀ k, k.cell.summary → P k) (h11 : ∀ i, P ⟨.sys .freeCount, 0, i⟩) (h12 : ∀ i, P ⟨.qs .clsUsed, d, i⟩) (h13 : ∀ i, P ⟨.qs .clsResult, d, i⟩) (h14 : ∀ i, P ⟨.sticky .qsClsNoRoom, d, i⟩) (h15 : ∀ i, P ⟨.qs .nClsNoRoom, d, i⟩) (h16 : ∀ i, P ⟨.win .qsCls, d, i⟩) (h17 : ∀ i, P ⟨.qs .clsOp, d, i⟩) (qreports : Q .reports) (qclsTab : Q .clsTab) :
    ∃ t, execQsClsInsert d w0 w1 s = .next t ∧ Reach P Q s0 t := by
  unfold execQsClsInsert
  repeat' with_reducible first | assumption | apply finishIf_reach | apply State.clsInsert_reach | apply State.clsWords_reach | (intros; show P _ = true; first | exact hsum _ rfl | (clear hsum; apply_assumption)) | split | dsimp only | intro _

end Sys2Proof.Machine
end

