-- ==== Sys2Proof/Laws/MovesScheduler.lean ====
section
/-!
SUPPORT. What the operations of Machine/Scheduler.lean may change, one lemma each (Laws/Reach.lean).
-/
namespace Sys2Proof.Machine

set_option linter.unusedTactic false
set_option linter.unreachableTactic false

variable {P : Key → Bool} {Q : Part → Bool} {s0 s : State}

theorem State.gateCommit_reach {d : Nat} (hs : Reach P Q s0 s) (h1 : ∀ i, P ⟨.qs .gatePend, d, i⟩) (h2 : ∀ i, P ⟨.qs .nGateCommit, d, i⟩) (h3 : ∀ i, P ⟨.qs .gateStartS, d, i⟩) (h4 : ∀ i, P ⟨.qs .gateStartNs, d, i⟩) (h5 : ∀ i, P ⟨.qs .gatePending, d, i⟩) (h6 : ∀ i, P ⟨.qs .gatePendAt, d, i⟩) (h7 : ∀ i, P ⟨.qs .gatePendCycle, d, i⟩) (h8 : ∀ i, P ⟨.qs .gatePendLen, d, i⟩) :
    Reach P Q s0 (State.gateCommit s d) := by
  unfold State.gateCommit
  repeat' with_reducible first | assumption | apply State.each_reach | apply State.set_reach | apply State.inc_reach | (intros; show P _ = true; apply_assumption) | split | dsimp only | intro _

theorem State.dropStaged_reach {w : Win} {d : Nat} (hs : Reach P Q s0 s) (h1 : ∀ i, P ⟨Cell.winDirty w, d, i⟩) (h2 : ∀ i, P ⟨Cell.winNew w, d, i⟩) :
    Reach P Q s0 (State.dropStaged s w d) := by
  unfold State.dropStaged
  refine State.clear_reach hs ?_
  rintro ⟨c, e, i⟩ hk
  simp only [Bool.and_eq_true, Bool.or_eq_true, decide_eq_true_eq] at hk
  obtain ⟨⟨rfl | rfl, rfl⟩, _⟩ := hk
  · exact h1 _
  · exact h2 _

theorem State.qsCommit_reach {d : Nat} {w : Nat} (hs : Reach P Q s0 s) (h1 : ∀ i, P ⟨.sys .winBusy, d, i⟩) (h2 : ∀ i, P ⟨Cell.winDirty (qsWin w), d, i⟩) (h3 : ∀ i, P ⟨Cell.winNew (qsWin w), d, i⟩) :
    Reach P Q s0 (State.qsCommit s d w) := by
  unfold State.qsCommit
  repeat' with_reducible first | assumption | apply State.commitWin_reach | apply State.dropStaged_reach | (intros; show P _ = true; apply_assumption) | split | dsimp only | intro _

theorem State.sendGap_reach {d : Nat} {i : Nat} (hs : Reach P Q s0 s) (h1 : ∀ i, P ⟨.qs .nCGapTx, d, i⟩) (h2 : ∀ i, P ⟨.ct .gapTx, d, i⟩) :
    Reach P Q s0 (State.sendGap s d i) := by
  unfold State.sendGap
  repeat' with_reducible first | assumption | apply State.inc_reach | apply State.set_reach | (intros; show P _ = true; apply_assumption) | split | dsimp only | intro _

theorem State.polRefill_reach {d : Nat} {x : Nat} (hs : Reach P Q s0 s) (h1 : ∀ i, P ⟨.qs .polAt, d, i⟩) (h2 : ∀ i, P ⟨.qs .polP, d, i⟩) (h3 : ∀ i, P ⟨.qs .polC, d, i⟩) :
    Reach P Q s0 (State.polRefill s d x) := by
  unfold State.polRefill
  repeat' with_reducible first | assumption | apply State.set_reach | (intros; show P _ = true; apply_assumption) | split | dsimp only | intro _

theorem State.shpRefill_reach {d : Nat} {i : Nat} (hs : Reach P Q s0 s) (h1 : ∀ i, P ⟨.qs .shpAt, d, i⟩) (h2 : ∀ i, P ⟨.qs .shpE, d, i⟩) (h3 : ∀ i, P ⟨.qs .shpC, d, i⟩) :
    Reach P Q s0 (State.shpRefill s d i) := by
  unfold State.shpRefill
  repeat' with_reducible first | assumption | apply State.set_reach | (intros; show P _ = true; apply_assumption) | split | dsimp only | intro _

theorem State.qsApply_reach {d : Nat} {w : Nat} (hs : Reach P Q s0 s) (h1 : ∀ i, P ⟨.sys .winBusy, d, i⟩) (h2 : ∀ i, P ⟨Cell.winDirty (qsWin w), d, i⟩) (h3 : ∀ a i, P ⟨Cell.mask a, d, i⟩) (h4 : ∀ i, P ⟨Cell.win (qsWin w), d, i⟩) (h5 : ∀ i, P ⟨.sticky .qsBrakeOn, d, i⟩) (h6 : ∀ i, P ⟨.live .qsBrakeOn, d, i⟩) (h7 : ∀ i, P ⟨.qs .brake, d, i⟩) (h8 : ∀ i, P ⟨.qs .qXoff, d, i⟩) (h9 : ∀ i, P ⟨.hl .pXoff, d, i⟩) (h10 : ∀ i, P ⟨.qs .polAt, d, i⟩) (h11 : ∀ i, P ⟨.qs .polP, d, i⟩) (h12 : ∀ i, P ⟨.qs .polC, d, i⟩) (h13 : ∀ i, P ⟨.qs .shpAt, d, i⟩) (h14 : ∀ i, P ⟨.qs .shpE, d, i⟩) (h15 : ∀ i, P ⟨.qs .shpC, d, i⟩) (qreports : Q .reports) :
    Reach P Q s0 (State.qsApply s d w) := by
  unfold State.qsApply
  repeat' with_reducible first | assumption | apply State.applyWin_reach | apply State.brakeFollow_reach | apply State.each_reach | apply State.xoffFollow_reach | apply State.polRefill_reach | apply State.shpRefill_reach | (intros; show P _ = true; apply_assumption) | split | dsimp only | intro _

theorem execGateCommit_reach {d : Nat} (hs : Reach P Q s0 s) (hsum : ∀ k, k.cell.summary → P k) (h11 : ∀ i, P ⟨.qs .gatePend, d, i⟩) (h12 : ∀ i, P ⟨.qs .nGateCommit, d, i⟩) (h13 : ∀ i, P ⟨.qs .gateStartS, d, i⟩) (h14 : ∀ i, P ⟨.qs .gateStartNs, d, i⟩) (h15 : ∀ i, P ⟨.qs .gatePending, d, i⟩) (h16 : ∀ i, P ⟨.qs .gatePendAt, d, i⟩) (h17 : ∀ i, P ⟨.qs .gatePendCycle, d, i⟩) (h18 : ∀ i, P ⟨.qs .gatePendLen, d, i⟩) (qreports : Q .reports) :
    ∃ t, execGateCommit d s = .next t ∧ Reach P Q s0 t := by
  unfold execGateCommit
  repeat' with_reducible first | assumption | apply finishIf_reach | apply State.gateCommit_reach | (intros; show P _ = true; first | exact hsum _ rfl | (clear hsum; apply_assumption)) | split | dsimp only | intro _

theorem State.skipVoid_reach {d : Nat} {q : Nat} (hs : Reach P Q s0 s) (h1 : ∀ i, P ⟨.sticky .qsBrakeOn, d, i⟩) (h2 : ∀ i, P ⟨.live .qsBrakeOn, d, i⟩) (h3 : ∀ i, P ⟨.qs .brake, d, i⟩) (h4 : ∀ i, P ⟨.qs .qXoff, d, i⟩) (h5 : ∀ i, P ⟨.hl .pXoff, d, i⟩) (h6 : ∀ i, P ⟨.qs .dieOcc, d, i⟩) (h7 : ∀ i, P ⟨.qs .occWords, d, i⟩) (h8 : ∀ i, P ⟨.qs .rd, d, i⟩) (qreports : Q .reports) (qrings : Q .rings) :
    Reach P Q s0 (State.skipVoid s d q) := by
  unfold State.skipVoid
  repeat' with_reducible first | assumption | apply State.each_reach | apply State.ringDrop_reach | (intros; show P _ = true; apply_assumption) | split | dsimp only | intro _

theorem State.gateDiscard_reach {d : Nat} {i : Nat} {q : Nat} {r : RingRec} (hs : Reach P Q s0 s) (h1 : ∀ i, P ⟨.trc .nLost, d, i⟩) (h2 : ∀ i, P ⟨.win .trcBuf, d, i⟩) (h3 : ∀ i, P ⟨.trc .count, d, i⟩) (h4 : ∀ i, P ⟨.trc .trcNext, d, i⟩) (h5 : ∀ i, P ⟨.sticky .trcFull, d, i⟩) (h6 : ∀ i, P ⟨.live .trcFull, d, i⟩) (h7 : ∀ i, P ⟨.sticky .telOvf, 0, i⟩) (h8 : ∀ i, P ⟨.tel .dropped, 0, i⟩) (h9 : ∀ i, P ⟨.tel .nDrop, 0, i⟩) (h10 : ∀ i, P ⟨.tel .written, 0, i⟩) (h11 : ∀ i, P ⟨.qs .nCGapTx, d, i⟩) (h12 : ∀ i, P ⟨.ct .gapTx, d, i⟩) (h13 : ∀ i, P ⟨.sticky .qsGateDrop, d, i⟩) (h14 : ∀ i, P ⟨.qs .nGateDrop, d, i⟩) (h15 : ∀ i, P ⟨.qs .nQGateDrop, d, i⟩) (h16 : ∀ i, P ⟨.sticky .qsBrakeOn, d, i⟩) (h17 : ∀ i, P ⟨.live .qsBrakeOn, d, i⟩) (h18 : ∀ i, P ⟨.qs .brake, d, i⟩) (h19 : ∀ i, P ⟨.qs .qXoff, d, i⟩) (h20 : ∀ i, P ⟨.hl .pXoff, d, i⟩) (h21 : ∀ i, P ⟨.qs .dieOcc, d, i⟩) (h22 : ∀ i, P ⟨.qs .occWords, d, i⟩) (h23 : ∀ i, P ⟨.qs .rd, d, i⟩) (qreports : Q .reports) (qtelOut : Q .telOut) (qrings : Q .rings) :
    Reach P Q s0 (State.gateDiscard s d i q r) := by
  unfold State.gateDiscard
  repeat' with_reducible first | assumption | apply State.traceItem_reach | apply State.sendGap_reach | apply State.event_reach | apply State.inc_reach | apply State.ringDrop_reach | (intros; show P _ = true; apply_assumption) | split | dsimp only | intro _

theorem State.gatePurge_reach {d : Nat} {i : Nat} {q : Nat} {x4 : Nat} (hs : Reach P Q s0 s) (h1 : ∀ i, P ⟨.sticky .qsBrakeOn, d, i⟩) (h2 : ∀ i, P ⟨.live .qsBrakeOn, d, i⟩) (h3 : ∀ i, P ⟨.qs .brake, d, i⟩) (h4 : ∀ i, P ⟨.qs .qXoff, d, i⟩) (h5 : ∀ i, P ⟨.hl .pXoff, d, i⟩) (h6 : ∀ i, P ⟨.qs .dieOcc, d, i⟩) (h7 : ∀ i, P ⟨.qs .occWords, d, i⟩) (h8 : ∀ i, P ⟨.qs .rd, d, i⟩) (h9 : ∀ i, P ⟨.trc .nLost, d, i⟩) (h10 : ∀ i, P ⟨.win .trcBuf, d, i⟩) (h11 : ∀ i, P ⟨.trc .count, d, i⟩) (h12 : ∀ i, P ⟨.trc .trcNext, d, i⟩) (h13 : ∀ i, P ⟨.sticky .trcFull, d, i⟩) (h14 : ∀ i, P ⟨.live .trcFull, d, i⟩) (h15 : ∀ i, P ⟨.sticky .telOvf, 0, i⟩) (h16 : ∀ i, P ⟨.tel .dropped, 0, i⟩) (h17 : ∀ i, P ⟨.tel .nDrop, 0, i⟩) (h18 : ∀ i, P ⟨.tel .written, 0, i⟩) (h19 : ∀ i, P ⟨.qs .nCGapTx, d, i⟩) (h20 : ∀ i, P ⟨.ct .gapTx, d, i⟩) (h21 : ∀ i, P ⟨.sticky .qsGateDrop, d, i⟩) (h22 : ∀ i, P ⟨.qs .nGateDrop, d, i⟩) (h23 : ∀ i, P ⟨.qs .nQGateDrop, d, i⟩) (qreports : Q .reports) (qrings : Q .rings) (qtelOut : Q .telOut) :
    Reach P Q s0 (State.gatePurge s d i q x4) := by
  induction x4 generalizing s with
  | zero => exact hs
  | succ n ih =>
    unfold State.gatePurge
    repeat' with_reducible first | assumption | apply ih | apply State.skipVoid_reach | apply State.gatePurge_reach | apply State.gateDiscard_reach | (intros; show P _ = true; apply_assumption) | split | dsimp only | intro _

theorem State.shpCharge_reach {d : Nat} {i : Nat} {how : Nat} {n : Nat} (hs : Reach P Q s0 s) (h1 : ∀ i, P ⟨.qs .shpC, d, i⟩) (h2 : ∀ i, P ⟨.qs .nCExcessBytes, d, i⟩) (h3 : ∀ i, P ⟨.qs .shpE, d, i⟩) :
    Reach P Q s0 (State.shpCharge s d i how n) := by
  unfold State.shpCharge
  repeat' with_reducible first | assumption | apply State.set_reach | apply State.add_reach | (intros; show P _ = true; apply_assumption) | split | dsimp only | intro _

theorem State.ptpNear_reach {d : Nat} {i : Nat} {r : RingRec} (hs : Reach P Q s0 s) (h1 : ∀ i, P ⟨.tim .nTcSkip, 0, i⟩) (h2 : ∀ i, P ⟨.tim .ptpMark, d, i⟩) :
    Reach P Q s0 (State.ptpNear s d i r) := by
  unfold State.ptpNear
  repeat' with_reducible first | assumption | apply State.inc_reach | apply State.set_reach | (intros; show P _ = true; apply_assumption) | split | dsimp only | intro _

theorem State.sendFrame_reach {d : Nat} {i : Nat} {q : Nat} {r : RingRec} (hs : Reach P Q s0 s) (h1 : ∀ i, P ⟨.qs .shpC, d, i⟩) (h2 : ∀ i, P ⟨.qs .nCExcessBytes, d, i⟩) (h3 : ∀ i, P ⟨.qs .shpE, d, i⟩) (h4 : ∀ i, P ⟨.qs .passed, d, i⟩) (h5 : ∀ i, P ⟨.qs .tagS, d, i⟩) (h6 : ∀ i, P ⟨.qs .tagF, d, i⟩) (h7 : ∀ i, P ⟨.qs .vTime, d, i⟩) (h8 : ∀ i, P ⟨.tim .nTcSkip, 0, i⟩) (h9 : ∀ i, P ⟨.tim .ptpMark, d, i⟩) (h10 : ∀ i, P ⟨.trc .nLost, d, i⟩) (h11 : ∀ i, P ⟨.win .trcBuf, d, i⟩) (h12 : ∀ i, P ⟨.trc .count, d, i⟩) (h13 : ∀ i, P ⟨.trc .trcNext, d, i⟩) (h14 : ∀ i, P ⟨.sticky .trcFull, d, i⟩) (h15 : ∀ i, P ⟨.live .trcFull, d, i⟩) (h16 : ∀ i, P ⟨.sticky .telOvf, 0, i⟩) (h17 : ∀ i, P ⟨.tel .dropped, 0, i⟩) (h18 : ∀ i, P ⟨.tel .nDrop, 0, i⟩) (h19 : ∀ i, P ⟨.tel .written, 0, i⟩) (h20 : ∀ i, P ⟨.qs .nQDeqPkts, d, i⟩) (h21 : ∀ i, P ⟨.sticky .qsBrakeOn, d, i⟩) (h22 : ∀ i, P ⟨.live .qsBrakeOn, d, i⟩) (h23 : ∀ i, P ⟨.qs .brake, d, i⟩) (h24 : ∀ i, P ⟨.qs .qXoff, d, i⟩) (h25 : ∀ i, P ⟨.hl .pXoff, d, i⟩) (h26 : ∀ i, P ⟨.qs .dieOcc, d, i⟩) (h27 : ∀ i, P ⟨.qs .occWords, d, i⟩) (h28 : ∀ i, P ⟨.qs .rd, d, i⟩) (h29 : ∀ i, P ⟨.qs .nQDeqBytes, d, i⟩) (qreports : Q .reports) (qtelOut : Q .telOut) (qrings : Q .rings) :
    Reach P Q s0 (State.sendFrame s d i q r) := by
  unfold State.sendFrame
  repeat' with_reducible first | assumption | apply State.when_reach | apply State.shpCharge_reach | apply State.set_reach | apply State.ptpNear_reach | apply State.traceItem_reach | apply State.inc_reach | apply State.ringEdit_reach | apply State.ringDrop_reach | apply State.add_reach | (intros; show P _ = true; apply_assumption) | split | dsimp only | intro _

theorem State.serve_reach {d : Nat} {i : Nat} {q : Nat} (hs : Reach P Q s0 s) (h1 : ∀ i, P ⟨.sticky .qsBrakeOn, d, i⟩) (h2 : ∀ i, P ⟨.live .qsBrakeOn, d, i⟩) (h3 : ∀ i, P ⟨.qs .brake, d, i⟩) (h4 : ∀ i, P ⟨.qs .qXoff, d, i⟩) (h5 : ∀ i, P ⟨.hl .pXoff, d, i⟩) (h6 : ∀ i, P ⟨.qs .dieOcc, d, i⟩) (h7 : ∀ i, P ⟨.qs .occWords, d, i⟩) (h8 : ∀ i, P ⟨.qs .rd, d, i⟩) (h9 : ∀ i, P ⟨.qs .nCGapTx, d, i⟩) (h10 : ∀ i, P ⟨.ct .gapTx, d, i⟩) (h11 : ∀ i, P ⟨.qs .shpC, d, i⟩) (h12 : ∀ i, P ⟨.qs .nCExcessBytes, d, i⟩) (h13 : ∀ i, P ⟨.qs .shpE, d, i⟩) (h14 : ∀ i, P ⟨.qs .passed, d, i⟩) (h15 : ∀ i, P ⟨.qs .tagS, d, i⟩) (h16 : ∀ i, P ⟨.qs .tagF, d, i⟩) (h17 : ∀ i, P ⟨.qs .vTime, d, i⟩) (h18 : ∀ i, P ⟨.tim .nTcSkip, 0, i⟩) (h19 : ∀ i, P ⟨.tim .ptpMark, d, i⟩) (h20 : ∀ i, P ⟨.trc .nLost, d, i⟩) (h21 : ∀ i, P ⟨.win .trcBuf, d, i⟩) (h22 : ∀ i, P ⟨.trc .count, d, i⟩) (h23 : ∀ i, P ⟨.trc .trcNext, d, i⟩) (h24 : ∀ i, P ⟨.sticky .trcFull, d, i⟩) (h25 : ∀ i, P ⟨.live .trcFull, d, i⟩) (h26 : ∀ i, P ⟨.sticky .telOvf, 0, i⟩) (h27 : ∀ i, P ⟨.tel .dropped, 0, i⟩) (h28 : ∀ i, P ⟨.tel .nDrop, 0, i⟩) (h29 : ∀ i, P ⟨.tel .written, 0, i⟩) (h30 : ∀ i, P ⟨.qs .nQDeqPkts, d, i⟩) (h31 : ∀ i, P ⟨.qs .nQDeqBytes, d, i⟩) (qreports : Q .reports) (qrings : Q .rings) (qtelOut : Q .telOut) :
    Reach P Q s0 (State.serve s d i q) := by
  unfold State.serve
  repeat' with_reducible first | assumption | apply State.ringDrop_reach | apply State.sendGap_reach | apply State.sendFrame_reach | (intros; show P _ = true; apply_assumption) | split | dsimp only | intro _

theorem execQsWindowCommit_reach {d : Nat} {w : Nat} (hs : Reach P Q s0 s) (hsum : ∀ k, k.cell.summary → P k) (h11 : ∀ i, P ⟨.sys .winBusy, d, i⟩) (h12 : ∀ i, P ⟨Cell.winDirty (qsWin w), d, i⟩) (h13 : ∀ i, P ⟨Cell.winNew (qsWin w), d, i⟩) (qreports : Q .reports) :
    ∃ t, execQsWindowCommit d w s = .next t ∧ Reach P Q s0 t := by
  unfold execQsWindowCommit
  repeat' with_reducible first | assumption | apply finishIf_reach | apply State.qsCommit_reach | (intros; show P _ = true; first | exact hsum _ rfl | (clear hsum; apply_assumption)) | split | dsimp only | intro _

theorem State.gateStartNow_reach {d : Nat} (hs : Reach P Q s0 s) (h1 : ∀ i, P ⟨.win .qsGate, d, i⟩) (h2 : ∀ i, P ⟨.qs .gatePending, d, i⟩) (h3 : ∀ i, P ⟨.qs .gateStart, d, i⟩) (h4 : ∀ i, P ⟨.qs .operValid, d, i⟩) (h5 : ∀ i, P ⟨.qs .operCycle, d, i⟩) (h6 : ∀ i, P ⟨.qs .operLen, d, i⟩) (h7 : ∀ i, P ⟨.sticky .qsGateCycleCut, d, i⟩) (qreports : Q .reports) :
    Reach P Q s0 (State.gateStartNow s d) := by
  unfold State.gateStartNow
  repeat' with_reducible first | assumption | apply State.each_reach | apply State.setWin_reach | apply State.when_reach | apply State.set_reach | apply State.event_reach | (intros; show P _ = true; apply_assumption) | split | dsimp only | intro _

theorem execGateListStart_reach {d : Nat} (hs : Reach P Q s0 s) (hsum : ∀ k, k.cell.summary → P k) (h11 : ∀ i, P ⟨.win .qsGate, d, i⟩) (h12 : ∀ i, P ⟨.qs .gatePending, d, i⟩) (h13 : ∀ i, P ⟨.qs .gateStart, d, i⟩) (h14 : ∀ i, P ⟨.qs .operValid, d, i⟩) (h15 : ∀ i, P ⟨.qs .operCycle, d, i⟩) (h16 : ∀ i, P ⟨.qs .operLen, d, i⟩) (h17 : ∀ i, P ⟨.sticky .qsGateCycleCut, d, i⟩) (qreports : Q .reports) :
    ∃ t, execGateListStart d s = .next t ∧ Reach P Q s0 t := by
  unfold execGateListStart
  repeat' with_reducible first | assumption | apply finishIf_reach | apply State.gateStartNow_reach | (intros; show P _ = true; first | exact hsum _ rfl | (clear hsum; apply_assumption)) | split | dsimp only | intro _

theorem State.shpFill_reach {d : Nat} {i : Nat} (hs : Reach P Q s0 s) (h1 : ∀ i, P ⟨.qs .shpAt, d, i⟩) (h2 : ∀ i, P ⟨.qs .shpE, d, i⟩) (h3 : ∀ i, P ⟨.qs .shpC, d, i⟩) :
    Reach P Q s0 (State.shpFill s d i) := by
  unfold State.shpFill
  repeat' with_reducible first | assumption | apply State.set_reach | (intros; show P _ = true; apply_assumption) | split | dsimp only | intro _

theorem State.noteHold_reach {d : Nat} {i : Nat} {q : Nat} (hs : Reach P Q s0 s) (h1 : ∀ i, P ⟨.qs .nGateHold, d, i⟩) (qrings : Q .rings) :
    Reach P Q s0 (State.noteHold s d i q) := by
  unfold State.noteHold
  repeat' with_reducible first | assumption | apply State.inc_reach | (intros; show P _ = true; apply_assumption) | split | dsimp only | intro _ | apply State.rings_reach

theorem execSchedulerSelect_reach {d : Nat} {i : Nat} (hs : Reach P Q s0 s) (hsum : ∀ k, k.cell.summary → P k) (h11 : ∀ i, P ⟨.qs .shpAt, d, i⟩) (h12 : ∀ i, P ⟨.qs .shpE, d, i⟩) (h13 : ∀ i, P ⟨.qs .shpC, d, i⟩) (h14 : ∀ i, P ⟨.sticky .qsBrakeOn, d, i⟩) (h15 : ∀ i, P ⟨.live .qsBrakeOn, d, i⟩) (h16 : ∀ i, P ⟨.qs .brake, d, i⟩) (h17 : ∀ i, P ⟨.qs .qXoff, d, i⟩) (h18 : ∀ i, P ⟨.hl .pXoff, d, i⟩) (h19 : ∀ i, P ⟨.qs .dieOcc, d, i⟩) (h20 : ∀ i, P ⟨.qs .occWords, d, i⟩) (h21 : ∀ i, P ⟨.qs .rd, d, i⟩) (h22 : ∀ i, P ⟨.trc .nLost, d, i⟩) (h23 : ∀ i, P ⟨.win .trcBuf, d, i⟩) (h24 : ∀ i, P ⟨.trc .count, d, i⟩) (h25 : ∀ i, P ⟨.trc .trcNext, d, i⟩) (h26 : ∀ i, P ⟨.sticky .trcFull, d, i⟩) (h27 : ∀ i, P ⟨.live .trcFull, d, i⟩) (h28 : ∀ i, P ⟨.sticky .telOvf, 0, i⟩) (h29 : ∀ i, P ⟨.tel .dropped, 0, i⟩) (h30 : ∀ i, P ⟨.tel .nDrop, 0, i⟩) (h31 : ∀ i, P ⟨.tel .written, 0, i⟩) (h32 : ∀ i, P ⟨.qs .nCGapTx, d, i⟩) (h33 : ∀ i, P ⟨.ct .gapTx, d, i⟩) (h34 : ∀ i, P ⟨.sticky .qsGateDrop, d, i⟩) (h35 : ∀ i, P ⟨.qs .nGateDrop, d, i⟩) (h36 : ∀ i, P ⟨.qs .nQGateDrop, d, i⟩) (h37 : ∀ i, P ⟨.qs .nGateHold, d, i⟩) (h38 : ∀ i, P ⟨.qs .gapPend, d, i⟩) (h39 : ∀ i, P ⟨.qs .passed, d, i⟩) (h40 : ∀ i, P ⟨.qs .nCExcessBytes, d, i⟩) (h41 : ∀ i, P ⟨.qs .tagS, d, i⟩) (h42 : ∀ i, P ⟨.qs .tagF, d, i⟩) (h43 : ∀ i, P ⟨.qs .vTime, d, i⟩) (h44 : ∀ i, P ⟨.tim .nTcSkip, 0, i⟩) (h45 : ∀ i, P ⟨.tim .ptpMark, d, i⟩) (h46 : ∀ i, P ⟨.qs .nQDeqPkts, d, i⟩) (h47 : ∀ i, P ⟨.qs .nQDeqBytes, d, i⟩) (qreports : Q .reports) (qrings : Q .rings) (qtelOut : Q .telOut) :
    ∃ t, execSchedulerSelect d i s = .next t ∧ Reach P Q s0 t := by
  unfold execSchedulerSelect
  repeat' with_reducible first | assumption | apply finishIf_reach | apply State.each_reach | apply State.shpFill_reach | apply State.gatePurge_reach | apply State.noteHold_reach | apply State.set_reach | apply State.sendGap_reach | apply State.serve_reach | (intros; show P _ = true; first | exact hsum _ rfl | (clear hsum; apply_assumption)) | split | dsimp only | intro _

theorem execQsCommitApply_reach {d : Nat} {w : Nat} (hs : Reach P Q s0 s) (hsum : ∀ k, k.cell.summary → P k) (h11 : ∀ i, P ⟨.sys .winBusy, d, i⟩) (h12 : ∀ i, P ⟨Cell.winDirty (qsWin w), d, i⟩) (h13 : ∀ a i, P ⟨Cell.mask a, d, i⟩) (h14 : ∀ i, P ⟨Cell.win (qsWin w), d, i⟩) (h15 : ∀ i, P ⟨.sticky .qsBrakeOn, d, i⟩) (h16 : ∀ i, P ⟨.live .qsBrakeOn, d, i⟩) (h17 : ∀ i, P ⟨.qs .brake, d, i⟩) (h18 : ∀ i, P ⟨.qs .qXoff, d, i⟩) (h19 : ∀ i, P ⟨.hl .pXoff, d, i⟩) (h20 : ∀ i, P ⟨.qs .polAt, d, i⟩) (h21 : ∀ i, P ⟨.qs .polP, d, i⟩) (h22 : ∀ i, P ⟨.qs .polC, d, i⟩) (h23 : ∀ i, P ⟨.qs .shpAt, d, i⟩) (h24 : ∀ i, P ⟨.qs .shpE, d, i⟩) (h25 : ∀ i, P ⟨.qs .shpC, d, i⟩) (qreports : Q .reports) :
    ∃ t, execQsCommitApply d w s = .next t ∧ Reach P Q s0 t := by
  unfold execQsCommitApply
  repeat' with_reducible first | assumption | apply finishIf_reach | apply State.qsApply_reach | (intros; show P _ = true; first | exact hsum _ rfl | (clear hsum; apply_assumption)) | split | dsimp only | intro _

end Sys2Proof.Machine
end

