-- ==== Sys2Proof/Laws/MovesCourier.lean ====
section
/-!
SUPPORT. What the operations of Machine/Courier.lean may change, one lemma each (Laws/Reach.lean).
-/
namespace Sys2Proof.Machine

set_option linter.unusedTactic false
set_option linter.unreachableTactic false

variable {P : Key → Bool} {Q : Part → Bool} {s0 s : State}

theorem State.drbg_reach {predictionResistance : Bool} (hs : Reach P Q s0 s) (h1 : ∀ i, P ⟨.sbg .drbgCount, 0, i⟩) (h2 : ∀ i, P ⟨.sbg .nDrbgReseed, 0, i⟩) :
    Reach P Q s0 (State.drbg s predictionResistance) := by
  unfold State.drbg
  repeat' with_reducible first | assumption | apply State.set_reach | apply State.inc_reach | (intros; show P _ = true; apply_assumption) | split | dsimp only | intro _

theorem State.chanShow_reach {x : Desc} {state : Nat} (hs : Reach P Q s0 s) (h1 : ∀ i, P ⟨.crr .depth, x.die, i⟩) (h2 : ∀ i, P ⟨.crr .doneBytes, x.die, i⟩) (h3 : ∀ i, P ⟨.crr .descIdx, x.die, i⟩) (h4 : ∀ i, P ⟨.crr .cls, x.die, i⟩) (h5 : ∀ i, P ⟨.crr .state, x.die, i⟩) :
    Reach P Q s0 (State.chanShow s x state) := by
  unfold State.chanShow
  repeat' with_reducible first | assumption | apply State.set_reach | (intros; show P _ = true; apply_assumption) | split | dsimp only | intro _

theorem State.descEdit_reach {x : Desc} {y : Desc} (hs : Reach P Q s0 s) (qdescs : Q .descs) :
    Reach P Q s0 (State.descEdit s x y) := by
  unfold State.descEdit
  repeat' with_reducible first | assumption | apply foldl_reach | (intros; show P _ = true; apply_assumption) | split | dsimp only | intro _ | apply State.descs_reach

theorem State.haltFollow_reach {d : Nat} (hs : Reach P Q s0 s) (h1 : ∀ i, P ⟨.sticky .crrHalt, d, i⟩) (h2 : ∀ i, P ⟨.live .crrHalt, d, i⟩) (qreports : Q .reports) :
    Reach P Q s0 (State.haltFollow s d) := by
  unfold State.haltFollow
  repeat' with_reducible first | assumption | apply State.cond_reach | (intros; show P _ = true; apply_assumption) | split | dsimp only | intro _

theorem State.chanHalt_reach {x : Desc} {code : Nat} {done : Nat} {space : Nat} {addr : Nat} (hs : Reach P Q s0 s) (h1 : ∀ d i, P ⟨.crr .depth, d, i⟩) (h2 : ∀ d i, P ⟨.crr .doneBytes, d, i⟩) (h3 : ∀ d i, P ⟨.crr .descIdx, d, i⟩) (h4 : ∀ d i, P ⟨.crr .cls, d, i⟩) (h5 : ∀ d i, P ⟨.crr .state, d, i⟩) (h6 : ∀ i, P ⟨.crr .nBytes, x.die, i⟩) (h7 : ∀ i, P ⟨.crr .nFault, x.die, i⟩) (h8 : ∀ i, P ⟨.crr .faultAddr, x.die, i⟩) (h9 : ∀ i, P ⟨.crr .faultSpace, x.die, i⟩) (h10 : ∀ i, P ⟨.crr .fault, x.die, i⟩) (h11 : ∀ i, P ⟨.sticky .crrHalt, x.die, i⟩) (h12 : ∀ i, P ⟨.live .crrHalt, x.die, i⟩) (h13 : ∀ i, P ⟨.sticky .crrPcie, x.die, i⟩) (qdescs : Q .descs) (qreports : Q .reports) :
    Reach P Q s0 (State.chanHalt s x code done space addr) := by
  unfold State.chanHalt
  repeat' with_reducible first | assumption | apply State.chanShow_reach | apply State.descEdit_reach | apply State.add_reach | apply State.inc_reach | apply State.set_reach | apply State.when_reach | apply State.haltFollow_reach | apply State.event_reach | (intros; show P _ = true; apply_assumption) | split | dsimp only | intro _

theorem State.svcTake_reach {a : Nat} {suspender : Bool} (hs : Reach P Q s0 s) (h1 : ∀ i, P ⟨.svc .suspender, 0, i⟩) (h2 : ∀ i, P ⟨.svc .owner, 0, i⟩) (h3 : ∀ i, P ⟨.svc .busy, 0, i⟩) :
    Reach P Q s0 (State.svcTake s a suspender) := by
  unfold State.svcTake
  repeat' with_reducible first | assumption | apply State.setB_reach | apply State.set_reach | (intros; show P _ = true; apply_assumption) | split | dsimp only | intro _

theorem State.slotSet_reach {k : Nat} {a : Nat} {v : Bool} (hs : Reach P Q s0 s) (h1 : ∀ i, P ⟨.svc .s0Agent, 0, i⟩) (h2 : ∀ i, P ⟨.svc .s0Valid, 0, i⟩) (h3 : ∀ i, P ⟨.svc .s1Agent, 0, i⟩) (h4 : ∀ i, P ⟨.svc .s1Valid, 0, i⟩) :
    Reach P Q s0 (State.slotSet s k a v) := by
  unfold State.slotSet
  repeat' with_reducible first | assumption | apply State.set_reach | apply State.setB_reach | (intros; show P _ = true; apply_assumption) | split | dsimp only | intro _

theorem State.signSuspend_reach (hs : Reach P Q s0 s) (h1 : ∀ d i, P ⟨.crr .nCipherWait, d, i⟩) (h2 : ∀ d i, P ⟨.crr .depth, d, i⟩) (h3 : ∀ d i, P ⟨.crr .doneBytes, d, i⟩) (h4 : ∀ d i, P ⟨.crr .descIdx, d, i⟩) (h5 : ∀ d i, P ⟨.crr .cls, d, i⟩) (h6 : ∀ d i, P ⟨.crr .state, d, i⟩) :
    Reach P Q s0 (State.signSuspend s) := by
  unfold State.signSuspend
  repeat' with_reducible first | assumption | apply State.inc_reach | apply State.chanShow_reach | (intros; show P _ = true; apply_assumption) | split | dsimp only | intro _

theorem State.svcWait_reach {a : Nat} {b : Bool} (hs : Reach P Q s0 s) (h1 : ∀ i, P ⟨.svc .waiting, 0, i⟩) :
    Reach P Q s0 (State.svcWait s a b) := by
  unfold State.svcWait
  repeat' with_reducible first | assumption | apply State.set_reach | (intros; show P _ = true; apply_assumption) | split | dsimp only | intro _

theorem State.svcRequest_reach {a : Nat} (hs : Reach P Q s0 s) (h1 : ∀ i, P ⟨.svc .suspender, 0, i⟩) (h2 : ∀ i, P ⟨.svc .owner, 0, i⟩) (h3 : ∀ i, P ⟨.svc .busy, 0, i⟩) (h4 : ∀ i, P ⟨.svc .nSuspend, 0, i⟩) (h5 : ∀ i, P ⟨.svc .s0Agent, 0, i⟩) (h6 : ∀ i, P ⟨.svc .s0Valid, 0, i⟩) (h7 : ∀ i, P ⟨.svc .s1Agent, 0, i⟩) (h8 : ∀ i, P ⟨.svc .s1Valid, 0, i⟩) (h9 : ∀ d i, P ⟨.crr .nCipherWait, d, i⟩) (h10 : ∀ d i, P ⟨.crr .depth, d, i⟩) (h11 : ∀ d i, P ⟨.crr .doneBytes, d, i⟩) (h12 : ∀ d i, P ⟨.crr .descIdx, d, i⟩) (h13 : ∀ d i, P ⟨.crr .cls, d, i⟩) (h14 : ∀ d i, P ⟨.crr .state, d, i⟩) (h15 : ∀ i, P ⟨.svc .nWait, 0, i⟩) (h16 : ∀ i, P ⟨.svc .waiting, 0, i⟩) :
    Reach P Q s0 (State.svcRequest s a) := by
  unfold State.svcRequest
  repeat' with_reducible first | assumption | apply State.svcTake_reach | apply State.inc_reach | apply State.slotSet_reach | apply State.signSuspend_reach | apply State.svcWait_reach | (intros; show P _ = true; apply_assumption) | split | dsimp only | intro _

theorem State.descRun_reach {x : Desc} (hs : Reach P Q s0 s) (h1 : ∀ d i, P ⟨.crr .depth, d, i⟩) (h2 : ∀ d i, P ⟨.crr .doneBytes, d, i⟩) (h3 : ∀ d i, P ⟨.crr .descIdx, d, i⟩) (h4 : ∀ d i, P ⟨.crr .cls, d, i⟩) (h5 : ∀ d i, P ⟨.crr .state, d, i⟩) (h6 : ∀ i, P ⟨.crr .nBytes, x.die, i⟩) (h7 : ∀ i, P ⟨.crr .nFault, x.die, i⟩) (h8 : ∀ i, P ⟨.crr .faultAddr, x.die, i⟩) (h9 : ∀ i, P ⟨.crr .faultSpace, x.die, i⟩) (h10 : ∀ i, P ⟨.crr .fault, x.die, i⟩) (h11 : ∀ i, P ⟨.sticky .crrHalt, x.die, i⟩) (h12 : ∀ i, P ⟨.live .crrHalt, x.die, i⟩) (h13 : ∀ i, P ⟨.sticky .crrPcie, x.die, i⟩) (h14 : ∀ i, P ⟨.sys .freeCount, 0, i⟩) (h15 : ∀ i, P ⟨.svc .suspender, 0, i⟩) (h16 : ∀ i, P ⟨.svc .owner, 0, i⟩) (h17 : ∀ i, P ⟨.svc .busy, 0, i⟩) (h18 : ∀ i, P ⟨.svc .nSuspend, 0, i⟩) (h19 : ∀ i, P ⟨.svc .s0Agent, 0, i⟩) (h20 : ∀ i, P ⟨.svc .s0Valid, 0, i⟩) (h21 : ∀ i, P ⟨.svc .s1Agent, 0, i⟩) (h22 : ∀ i, P ⟨.svc .s1Valid, 0, i⟩) (h23 : ∀ d i, P ⟨.crr .nCipherWait, d, i⟩) (h24 : ∀ i, P ⟨.svc .nWait, 0, i⟩) (h25 : ∀ i, P ⟨.svc .waiting, 0, i⟩) (h26 : ∀ i, P ⟨.svc .crrHolder, 0, i⟩) (qdescs : Q .descs) (qreports : Q .reports) :
    Reach P Q s0 (State.descRun s x) := by
  unfold State.descRun
  repeat' with_reducible first | assumption | apply State.chanHalt_reach | apply State.used_reach | apply State.chanShow_reach | apply State.descEdit_reach | apply State.svcRequest_reach | apply State.set_reach | (intros; show P _ = true; apply_assumption) | split | dsimp only | intro _

theorem State.chanNext_reach {d : Nat} {c : Nat} (hs : Reach P Q s0 s) (h1 : ∀ d i, P ⟨.crr .depth, d, i⟩) (h2 : ∀ d i, P ⟨.crr .doneBytes, d, i⟩) (h3 : ∀ d i, P ⟨.crr .descIdx, d, i⟩) (h4 : ∀ d i, P ⟨.crr .cls, d, i⟩) (h5 : ∀ d i, P ⟨.crr .state, d, i⟩) (h6 : ∀ d i, P ⟨.crr .nBytes, d, i⟩) (h7 : ∀ d i, P ⟨.crr .nFault, d, i⟩) (h8 : ∀ d i, P ⟨.crr .faultAddr, d, i⟩) (h9 : ∀ d i, P ⟨.crr .faultSpace, d, i⟩) (h10 : ∀ d i, P ⟨.crr .fault, d, i⟩) (h11 : ∀ d i, P ⟨.sticky .crrHalt, d, i⟩) (h12 : ∀ d i, P ⟨.live .crrHalt, d, i⟩) (h13 : ∀ d i, P ⟨.sticky .crrPcie, d, i⟩) (h14 : ∀ i, P ⟨.sys .freeCount, 0, i⟩) (h15 : ∀ i, P ⟨.svc .suspender, 0, i⟩) (h16 : ∀ i, P ⟨.svc .owner, 0, i⟩) (h17 : ∀ i, P ⟨.svc .busy, 0, i⟩) (h18 : ∀ i, P ⟨.svc .nSuspend, 0, i⟩) (h19 : ∀ i, P ⟨.svc .s0Agent, 0, i⟩) (h20 : ∀ i, P ⟨.svc .s0Valid, 0, i⟩) (h21 : ∀ i, P ⟨.svc .s1Agent, 0, i⟩) (h22 : ∀ i, P ⟨.svc .s1Valid, 0, i⟩) (h23 : ∀ d i, P ⟨.crr .nCipherWait, d, i⟩) (h24 : ∀ i, P ⟨.svc .nWait, 0, i⟩) (h25 : ∀ i, P ⟨.svc .waiting, 0, i⟩) (h26 : ∀ i, P ⟨.svc .crrHolder, 0, i⟩) (qdescs : Q .descs) (qreports : Q .reports) :
    Reach P Q s0 (State.chanNext s d c) := by
  unfold State.chanNext
  repeat' with_reducible first | assumption | apply State.descRun_reach | apply State.set_reach | (intros; show P _ = true; apply_assumption) | split | dsimp only | intro _

theorem State.svcFail_reach {a : Nat} (hs : Reach P Q s0 s) (h1 : ∀ i, P ⟨.svc .crrHolder, 0, i⟩) (h2 : ∀ d i, P ⟨.crr .depth, d, i⟩) (h3 : ∀ d i, P ⟨.crr .doneBytes, d, i⟩) (h4 : ∀ d i, P ⟨.crr .descIdx, d, i⟩) (h5 : ∀ d i, P ⟨.crr .cls, d, i⟩) (h6 : ∀ d i, P ⟨.crr .state, d, i⟩) (h7 : ∀ d i, P ⟨.crr .nBytes, d, i⟩) (h8 : ∀ d i, P ⟨.crr .nFault, d, i⟩) (h9 : ∀ d i, P ⟨.crr .faultAddr, d, i⟩) (h10 : ∀ d i, P ⟨.crr .faultSpace, d, i⟩) (h11 : ∀ d i, P ⟨.crr .fault, d, i⟩) (h12 : ∀ d i, P ⟨.sticky .crrHalt, d, i⟩) (h13 : ∀ d i, P ⟨.live .crrHalt, d, i⟩) (h14 : ∀ d i, P ⟨.sticky .crrPcie, d, i⟩) (h15 : ∀ i, P ⟨.tkt .hashFail, 0, i⟩) (h16 : ∀ i, P ⟨.svc .waiting, 0, i⟩) (h17 : ∀ i, P ⟨.svc .retried, 0, i⟩) (qdescs : Q .descs) (qreports : Q .reports) :
    Reach P Q s0 (State.svcFail s a) := by
  unfold State.svcFail
  repeat' with_reducible first | assumption | apply State.set_reach | apply State.chanHalt_reach | apply State.svcWait_reach | (intros; show P _ = true; apply_assumption) | split | dsimp only | intro _

theorem State.svcNext_reach {parity : Bool} {x2 : Nat} (hs : Reach P Q s0 s) (h1 : ∀ i, P ⟨.svc .s0Agent, 0, i⟩) (h2 : ∀ i, P ⟨.svc .s0Valid, 0, i⟩) (h3 : ∀ i, P ⟨.svc .s1Agent, 0, i⟩) (h4 : ∀ i, P ⟨.svc .s1Valid, 0, i⟩) (h5 : ∀ i, P ⟨.svc .suspender, 0, i⟩) (h6 : ∀ i, P ⟨.svc .owner, 0, i⟩) (h7 : ∀ i, P ⟨.svc .busy, 0, i⟩) (h8 : ∀ i, P ⟨.svc .crrHolder, 0, i⟩) (h9 : ∀ d i, P ⟨.crr .depth, d, i⟩) (h10 : ∀ d i, P ⟨.crr .doneBytes, d, i⟩) (h11 : ∀ d i, P ⟨.crr .descIdx, d, i⟩) (h12 : ∀ d i, P ⟨.crr .cls, d, i⟩) (h13 : ∀ d i, P ⟨.crr .state, d, i⟩) (h14 : ∀ d i, P ⟨.crr .nBytes, d, i⟩) (h15 : ∀ d i, P ⟨.crr .nFault, d, i⟩) (h16 : ∀ d i, P ⟨.crr .faultAddr, d, i⟩) (h17 : ∀ d i, P ⟨.crr .faultSpace, d, i⟩) (h18 : ∀ d i, P ⟨.crr .fault, d, i⟩) (h19 : ∀ d i, P ⟨.sticky .crrHalt, d, i⟩) (h20 : ∀ d i, P ⟨.live .crrHalt, d, i⟩) (h21 : ∀ d i, P ⟨.sticky .crrPcie, d, i⟩) (h22 : ∀ i, P ⟨.tkt .hashFail, 0, i⟩) (h23 : ∀ i, P ⟨.svc .waiting, 0, i⟩) (h24 : ∀ i, P ⟨.svc .retried, 0, i⟩) (h25 : ∀ i, P ⟨.svc .nSuspFail, 0, i⟩) (qdescs : Q .descs) (qreports : Q .reports) :
    Reach P Q s0 (State.svcNext s parity x2) := by
  induction x2 generalizing s parity with
  | zero => exact hs
  | succ n ih =>
    unfold State.svcNext
    repeat' with_reducible first | assumption | apply ih | apply State.slotSet_reach | apply State.svcTake_reach | apply State.svcNext_reach | apply State.svcFail_reach | apply State.inc_reach | apply State.svcWait_reach | (intros; show P _ = true; apply_assumption) | split | dsimp only | intro _

theorem State.svcRelease_reach {checkOk : Bool} {parity : Bool} (hs : Reach P Q s0 s) (h1 : ∀ i, P ⟨.svc .suspender, 0, i⟩) (h2 : ∀ i, P ⟨.svc .owner, 0, i⟩) (h3 : ∀ i, P ⟨.svc .busy, 0, i⟩) (h4 : ∀ i, P ⟨.svc .retried, 0, i⟩) (h5 : ∀ i, P ⟨.svc .nMsg, 0, i⟩) (h6 : ∀ i, P ⟨.svc .crrHolder, 0, i⟩) (h7 : ∀ d i, P ⟨.crr .depth, d, i⟩) (h8 : ∀ d i, P ⟨.crr .doneBytes, d, i⟩) (h9 : ∀ d i, P ⟨.crr .descIdx, d, i⟩) (h10 : ∀ d i, P ⟨.crr .cls, d, i⟩) (h11 : ∀ d i, P ⟨.crr .state, d, i⟩) (h12 : ∀ d i, P ⟨.crr .nBytes, d, i⟩) (h13 : ∀ d i, P ⟨.crr .nFault, d, i⟩) (h14 : ∀ d i, P ⟨.crr .faultAddr, d, i⟩) (h15 : ∀ d i, P ⟨.crr .faultSpace, d, i⟩) (h16 : ∀ d i, P ⟨.crr .fault, d, i⟩) (h17 : ∀ d i, P ⟨.sticky .crrHalt, d, i⟩) (h18 : ∀ d i, P ⟨.live .crrHalt, d, i⟩) (h19 : ∀ d i, P ⟨.sticky .crrPcie, d, i⟩) (h20 : ∀ i, P ⟨.tkt .hashFail, 0, i⟩) (h21 : ∀ i, P ⟨.svc .waiting, 0, i⟩) (h22 : ∀ i, P ⟨.sticky .sbgSvcFault, 0, i⟩) (h23 : ∀ i, P ⟨.live .sbgSvcFault, 0, i⟩) (h24 : ∀ i, P ⟨.svc .nCheckFail, 0, i⟩) (h25 : ∀ i, P ⟨.svc .s0Agent, 0, i⟩) (h26 : ∀ i, P ⟨.svc .s0Valid, 0, i⟩) (h27 : ∀ i, P ⟨.svc .s1Agent, 0, i⟩) (h28 : ∀ i, P ⟨.svc .s1Valid, 0, i⟩) (h29 : ∀ i, P ⟨.svc .nSuspFail, 0, i⟩) (qdescs : Q .descs) (qreports : Q .reports) :
    Reach P Q s0 (State.svcRelease s checkOk parity) := by
  unfold State.svcRelease
  repeat' with_reducible first | assumption | apply State.set_reach | apply State.inc_reach | apply State.svcFail_reach | apply State.raise_reach | apply State.svcNext_reach | (intros; show P _ = true; apply_assumption) | split | dsimp only | intro _

theorem State.signEnd_reach {x : Desc} (hs : Reach P Q s0 s) (h1 : ∀ i, P ⟨.svc .crrHolder, 0, i⟩) (h2 : ∀ i, P ⟨.svc .suspender, 0, i⟩) (h3 : ∀ i, P ⟨.svc .owner, 0, i⟩) (h4 : ∀ i, P ⟨.svc .busy, 0, i⟩) (h5 : ∀ i, P ⟨.svc .retried, 0, i⟩) (h6 : ∀ i, P ⟨.svc .nMsg, 0, i⟩) (h7 : ∀ d i, P ⟨.crr .depth, d, i⟩) (h8 : ∀ d i, P ⟨.crr .doneBytes, d, i⟩) (h9 : ∀ d i, P ⟨.crr .descIdx, d, i⟩) (h10 : ∀ d i, P ⟨.crr .cls, d, i⟩) (h11 : ∀ d i, P ⟨.crr .state, d, i⟩) (h12 : ∀ d i, P ⟨.crr .nBytes, d, i⟩) (h13 : ∀ d i, P ⟨.crr .nFault, d, i⟩) (h14 : ∀ d i, P ⟨.crr .faultAddr, d, i⟩) (h15 : ∀ d i, P ⟨.crr .faultSpace, d, i⟩) (h16 : ∀ d i, P ⟨.crr .fault, d, i⟩) (h17 : ∀ d i, P ⟨.sticky .crrHalt, d, i⟩) (h18 : ∀ d i, P ⟨.live .crrHalt, d, i⟩) (h19 : ∀ d i, P ⟨.sticky .crrPcie, d, i⟩) (h20 : ∀ i, P ⟨.tkt .hashFail, 0, i⟩) (h21 : ∀ i, P ⟨.svc .waiting, 0, i⟩) (h22 : ∀ i, P ⟨.sticky .sbgSvcFault, 0, i⟩) (h23 : ∀ i, P ⟨.live .sbgSvcFault, 0, i⟩) (h24 : ∀ i, P ⟨.svc .nCheckFail, 0, i⟩) (h25 : ∀ i, P ⟨.svc .s0Agent, 0, i⟩) (h26 : ∀ i, P ⟨.svc .s0Valid, 0, i⟩) (h27 : ∀ i, P ⟨.svc .s1Agent, 0, i⟩) (h28 : ∀ i, P ⟨.svc .s1Valid, 0, i⟩) (h29 : ∀ i, P ⟨.svc .nSuspFail, 0, i⟩) (qdescs : Q .descs) (qreports : Q .reports) :
    Reach P Q s0 (State.signEnd s x) := by
  unfold State.signEnd
  repeat' with_reducible first | assumption | apply State.set_reach | apply State.svcRelease_reach | apply State.svcWait_reach | (intros; show P _ = true; apply_assumption) | split | dsimp only | intro _

theorem State.linkDown_reach {done : List Nat} (hs : Reach P Q s0 s) (h1 : ∀ i, P ⟨.sys .pcieUp, 0, i⟩) (h2 : ∀ d i, P ⟨.crr .depth, d, i⟩) (h3 : ∀ d i, P ⟨.crr .doneBytes, d, i⟩) (h4 : ∀ d i, P ⟨.crr .descIdx, d, i⟩) (h5 : ∀ d i, P ⟨.crr .cls, d, i⟩) (h6 : ∀ d i, P ⟨.crr .state, d, i⟩) (h7 : ∀ d i, P ⟨.crr .nBytes, d, i⟩) (h8 : ∀ d i, P ⟨.crr .nFault, d, i⟩) (h9 : ∀ d i, P ⟨.crr .faultAddr, d, i⟩) (h10 : ∀ d i, P ⟨.crr .faultSpace, d, i⟩) (h11 : ∀ d i, P ⟨.crr .fault, d, i⟩) (h12 : ∀ d i, P ⟨.sticky .crrHalt, d, i⟩) (h13 : ∀ d i, P ⟨.live .crrHalt, d, i⟩) (h14 : ∀ d i, P ⟨.sticky .crrPcie, d, i⟩) (qdescs : Q .descs) (qreports : Q .reports) :
    Reach P Q s0 (State.linkDown s done) := by
  unfold State.linkDown
  repeat' with_reducible first | assumption | apply State.each_reach | apply State.set_reach | apply State.chanHalt_reach | (intros; show P _ = true; apply_assumption) | split | dsimp only | intro _

theorem execCourierDescPost_reach {d : Nat} {c : Nat} {p : Sys2Proof.CrrPost} (hs : Reach P Q s0 s) (hsum : ∀ k, k.cell.summary → P k) (h11 : ∀ i, P ⟨.crr .post, d, i⟩) (h12 : ∀ d i, P ⟨.crr .depth, d, i⟩) (h13 : ∀ d i, P ⟨.crr .doneBytes, d, i⟩) (h14 : ∀ d i, P ⟨.crr .descIdx, d, i⟩) (h15 : ∀ d i, P ⟨.crr .cls, d, i⟩) (h16 : ∀ d i, P ⟨.crr .state, d, i⟩) (h17 : ∀ d i, P ⟨.crr .nBytes, d, i⟩) (h18 : ∀ d i, P ⟨.crr .nFault, d, i⟩) (h19 : ∀ d i, P ⟨.crr .faultAddr, d, i⟩) (h20 : ∀ d i, P ⟨.crr .faultSpace, d, i⟩) (h21 : ∀ d i, P ⟨.crr .fault, d, i⟩) (h22 : ∀ d i, P ⟨.sticky .crrHalt, d, i⟩) (h23 : ∀ d i, P ⟨.live .crrHalt, d, i⟩) (h24 : ∀ d i, P ⟨.sticky .crrPcie, d, i⟩) (h25 : ∀ i, P ⟨.sys .freeCount, 0, i⟩) (h26 : ∀ i, P ⟨.svc .suspender, 0, i⟩) (h27 : ∀ i, P ⟨.svc .owner, 0, i⟩) (h28 : ∀ i, P ⟨.svc .busy, 0, i⟩) (h29 : ∀ i, P ⟨.svc .nSuspend, 0, i⟩) (h30 : ∀ i, P ⟨.svc .s0Agent, 0, i⟩) (h31 : ∀ i, P ⟨.svc .s0Valid, 0, i⟩) (h32 : ∀ i, P ⟨.svc .s1Agent, 0, i⟩) (h33 : ∀ i, P ⟨.svc .s1Valid, 0, i⟩) (h34 : ∀ d i, P ⟨.crr .nCipherWait, d, i⟩) (h35 : ∀ i, P ⟨.svc .nWait, 0, i⟩) (h36 : ∀ i, P ⟨.svc .waiting, 0, i⟩) (h37 : ∀ i, P ⟨.svc .crrHolder, 0, i⟩) (qreports : Q .reports) (qdescs : Q .descs) :
    ∃ t, execCourierDescPost d c p s = .next t ∧ Reach P Q s0 t := by
  unfold execCourierDescPost
  repeat' with_reducible first | assumption | apply finishIf_reach | apply State.set_reach | apply State.chanNext_reach | (intros; show P _ = true; first | exact hsum _ rfl | (clear hsum; apply_assumption)) | split | dsimp only | intro _ | apply State.descs_reach

theorem execPcieLinkDown_reach {done : List Nat} (hs : Reach P Q s0 s) (hsum : ∀ k, k.cell.summary → P k) (h11 : ∀ i, P ⟨.sys .pcieUp, 0, i⟩) (h12 : ∀ d i, P ⟨.crr .depth, d, i⟩) (h13 : ∀ d i, P ⟨.crr .doneBytes, d, i⟩) (h14 : ∀ d i, P ⟨.crr .descIdx, d, i⟩) (h15 : ∀ d i, P ⟨.crr .cls, d, i⟩) (h16 : ∀ d i, P ⟨.crr .state, d, i⟩) (h17 : ∀ d i, P ⟨.crr .nBytes, d, i⟩) (h18 : ∀ d i, P ⟨.crr .nFault, d, i⟩) (h19 : ∀ d i, P ⟨.crr .faultAddr, d, i⟩) (h20 : ∀ d i, P ⟨.crr .faultSpace, d, i⟩) (h21 : ∀ d i, P ⟨.crr .fault, d, i⟩) (h22 : ∀ d i, P ⟨.sticky .crrHalt, d, i⟩) (h23 : ∀ d i, P ⟨.live .crrHalt, d, i⟩) (h24 : ∀ d i, P ⟨.sticky .crrPcie, d, i⟩) (qreports : Q .reports) (qdescs : Q .descs) :
    ∃ t, execPcieLinkDown done s = .next t ∧ Reach P Q s0 t := by
  unfold execPcieLinkDown
  repeat' with_reducible first | assumption | apply finishIf_reach | apply State.linkDown_reach | (intros; show P _ = true; first | exact hsum _ rfl | (clear hsum; apply_assumption)) | split | dsimp only | intro _

theorem State.descDrop_reach {x : Desc} (hs : Reach P Q s0 s) (qdescs : Q .descs) :
    Reach P Q s0 (State.descDrop s x) := by
  unfold State.descDrop
  repeat' with_reducible first | assumption | apply foldl_reach | (intros; show P _ = true; apply_assumption) | split | dsimp only | intro _ | apply State.descs_reach

theorem State.descWrote_reach {x : Desc} (hs : Reach P Q s0 s) (h1 : ∀ i, P ⟨.pan .poison, x.die, i⟩) :
    Reach P Q s0 (State.descWrote s x) := by
  unfold State.descWrote
  repeat' with_reducible first | assumption | apply State.each_reach | apply State.set_reach | (intros; show P _ = true; apply_assumption) | split | dsimp only | intro _

theorem State.descDone_reach {x : Desc} (hs : Reach P Q s0 s) (h1 : ∀ i, P ⟨.crr .nDescDone, x.die, i⟩) (h2 : ∀ d i, P ⟨.crr .depth, d, i⟩) (h3 : ∀ d i, P ⟨.crr .doneBytes, d, i⟩) (h4 : ∀ d i, P ⟨.crr .descIdx, d, i⟩) (h5 : ∀ d i, P ⟨.crr .cls, d, i⟩) (h6 : ∀ d i, P ⟨.crr .state, d, i⟩) (h7 : ∀ d i, P ⟨.crr .nBytes, d, i⟩) (h8 : ∀ d i, P ⟨.crr .nFault, d, i⟩) (h9 : ∀ d i, P ⟨.crr .faultAddr, d, i⟩) (h10 : ∀ d i, P ⟨.crr .faultSpace, d, i⟩) (h11 : ∀ d i, P ⟨.crr .fault, d, i⟩) (h12 : ∀ d i, P ⟨.sticky .crrHalt, d, i⟩) (h13 : ∀ d i, P ⟨.live .crrHalt, d, i⟩) (h14 : ∀ d i, P ⟨.sticky .crrPcie, d, i⟩) (h15 : ∀ i, P ⟨.sys .freeCount, 0, i⟩) (h16 : ∀ i, P ⟨.svc .suspender, 0, i⟩) (h17 : ∀ i, P ⟨.svc .owner, 0, i⟩) (h18 : ∀ i, P ⟨.svc .busy, 0, i⟩) (h19 : ∀ i, P ⟨.svc .nSuspend, 0, i⟩) (h20 : ∀ i, P ⟨.svc .s0Agent, 0, i⟩) (h21 : ∀ i, P ⟨.svc .s0Valid, 0, i⟩) (h22 : ∀ i, P ⟨.svc .s1Agent, 0, i⟩) (h23 : ∀ i, P ⟨.svc .s1Valid, 0, i⟩) (h24 : ∀ d i, P ⟨.crr .nCipherWait, d, i⟩) (h25 : ∀ i, P ⟨.svc .nWait, 0, i⟩) (h26 : ∀ i, P ⟨.svc .waiting, 0, i⟩) (h27 : ∀ i, P ⟨.svc .crrHolder, 0, i⟩) (h28 : ∀ i, P ⟨.svc .retried, 0, i⟩) (h29 : ∀ i, P ⟨.svc .nMsg, 0, i⟩) (h30 : ∀ i, P ⟨.tkt .hashFail, 0, i⟩) (h31 : ∀ i, P ⟨.sticky .sbgSvcFault, 0, i⟩) (h32 : ∀ i, P ⟨.live .sbgSvcFault, 0, i⟩) (h33 : ∀ i, P ⟨.svc .nCheckFail, 0, i⟩) (h34 : ∀ i, P ⟨.svc .nSuspFail, 0, i⟩) (h35 : ∀ i, P ⟨.pan .poison, x.die, i⟩) (qdescs : Q .descs) (qreports : Q .reports) :
    Reach P Q s0 (State.descDone s x) := by
  unfold State.descDone
  repeat' with_reducible first | assumption | apply State.set_reach | apply State.add_reach | apply State.inc_reach | apply State.descDrop_reach | apply State.chanNext_reach | apply State.signEnd_reach | apply State.descWrote_reach | (intros; show P _ = true; apply_assumption) | split | dsimp only | intro _

theorem execCourierDescDone_reach {d : Nat} {c : Nat} (hs : Reach P Q s0 s) (hsum : ∀ k, k.cell.summary → P k) (h11 : ∀ d i, P ⟨.crr .depth, d, i⟩) (h12 : ∀ d i, P ⟨.crr .doneBytes, d, i⟩) (h13 : ∀ d i, P ⟨.crr .descIdx, d, i⟩) (h14 : ∀ d i, P ⟨.crr .cls, d, i⟩) (h15 : ∀ d i, P ⟨.crr .state, d, i⟩) (h16 : ∀ d i, P ⟨.crr .nBytes, d, i⟩) (h17 : ∀ d i, P ⟨.crr .nFault, d, i⟩) (h18 : ∀ d i, P ⟨.crr .faultAddr, d, i⟩) (h19 : ∀ d i, P ⟨.crr .faultSpace, d, i⟩) (h20 : ∀ d i, P ⟨.crr .fault, d, i⟩) (h21 : ∀ d i, P ⟨.sticky .crrHalt, d, i⟩) (h22 : ∀ d i, P ⟨.live .crrHalt, d, i⟩) (h23 : ∀ d i, P ⟨.sticky .crrPcie, d, i⟩) (h24 : ∀ d i, P ⟨.crr .nDescDone, d, i⟩) (h25 : ∀ i, P ⟨.sys .freeCount, 0, i⟩) (h26 : ∀ i, P ⟨.svc .suspender, 0, i⟩) (h27 : ∀ i, P ⟨.svc .owner, 0, i⟩) (h28 : ∀ i, P ⟨.svc .busy, 0, i⟩) (h29 : ∀ i, P ⟨.svc .nSuspend, 0, i⟩) (h30 : ∀ i, P ⟨.svc .s0Agent, 0, i⟩) (h31 : ∀ i, P ⟨.svc .s0Valid, 0, i⟩) (h32 : ∀ i, P ⟨.svc .s1Agent, 0, i⟩) (h33 : ∀ i, P ⟨.svc .s1Valid, 0, i⟩) (h34 : ∀ d i, P ⟨.crr .nCipherWait, d, i⟩) (h35 : ∀ i, P ⟨.svc .nWait, 0, i⟩) (h36 : ∀ i, P ⟨.svc .waiting, 0, i⟩) (h37 : ∀ i, P ⟨.svc .crrHolder, 0, i⟩) (h38 : ∀ i, P ⟨.svc .retried, 0, i⟩) (h39 : ∀ i, P ⟨.svc .nMsg, 0, i⟩) (h40 : ∀ i, P ⟨.tkt .hashFail, 0, i⟩) (h41 : ∀ i, P ⟨.sticky .sbgSvcFault, 0, i⟩) (h42 : ∀ i, P ⟨.live .sbgSvcFault, 0, i⟩) (h43 : ∀ i, P ⟨.svc .nCheckFail, 0, i⟩) (h44 : ∀ i, P ⟨.svc .nSuspFail, 0, i⟩) (h45 : ∀ d i, P ⟨.pan .poison, d, i⟩) (qreports : Q .reports) (qdescs : Q .descs) :
    ∃ t, execCourierDescDone d c s = .next t ∧ Reach P Q s0 t := by
  unfold execCourierDescDone
  repeat' with_reducible first | assumption | apply finishIf_reach | apply State.chanHalt_reach | apply State.descDone_reach | (intros; show P _ = true; first | exact hsum _ rfl | (clear hsum; apply_assumption)) | split | dsimp only | intro _

theorem execSvcSuspendTimeout_reach {k : Nat} (hs : Reach P Q s0 s) (hsum : ∀ k, k.cell.summary → P k) (h11 : ∀ i, P ⟨.svc .crrHolder, 0, i⟩) (h12 : ∀ d i, P ⟨.crr .depth, d, i⟩) (h13 : ∀ d i, P ⟨.crr .doneBytes, d, i⟩) (h14 : ∀ d i, P ⟨.crr .descIdx, d, i⟩) (h15 : ∀ d i, P ⟨.crr .cls, d, i⟩) (h16 : ∀ d i, P ⟨.crr .state, d, i⟩) (h17 : ∀ d i, P ⟨.crr .nBytes, d, i⟩) (h18 : ∀ d i, P ⟨.crr .nFault, d, i⟩) (h19 : ∀ d i, P ⟨.crr .faultAddr, d, i⟩) (h20 : ∀ d i, P ⟨.crr .faultSpace, d, i⟩) (h21 : ∀ d i, P ⟨.crr .fault, d, i⟩) (h22 : ∀ d i, P ⟨.sticky .crrHalt, d, i⟩) (h23 : ∀ d i, P ⟨.live .crrHalt, d, i⟩) (h24 : ∀ d i, P ⟨.sticky .crrPcie, d, i⟩) (h25 : ∀ i, P ⟨.tkt .hashFail, 0, i⟩) (h26 : ∀ i, P ⟨.svc .waiting, 0, i⟩) (h27 : ∀ i, P ⟨.svc .retried, 0, i⟩) (h28 : ∀ i, P ⟨.svc .nSuspFail, 0, i⟩) (h29 : ∀ i, P ⟨.svc .s0Agent, 0, i⟩) (h30 : ∀ i, P ⟨.svc .s0Valid, 0, i⟩) (h31 : ∀ i, P ⟨.svc .s1Agent, 0, i⟩) (h32 : ∀ i, P ⟨.svc .s1Valid, 0, i⟩) (qreports : Q .reports) (qdescs : Q .descs) :
    ∃ t, execSvcSuspendTimeout k s = .next t ∧ Reach P Q s0 t := by
  unfold execSvcSuspendTimeout
  repeat' with_reducible first | assumption | apply finishIf_reach | apply State.svcFail_reach | apply State.inc_reach | apply State.slotSet_reach | (intros; show P _ = true; first | exact hsum _ rfl | (clear hsum; apply_assumption)) | split | dsimp only | intro _

theorem execCourierCipherResume_reach {d : Nat} {c : Nat} (hs : Reach P Q s0 s) (hsum : ∀ k, k.cell.summary → P k) (h11 : ∀ d i, P ⟨.crr .depth, d, i⟩) (h12 : ∀ d i, P ⟨.crr .doneBytes, d, i⟩) (h13 : ∀ d i, P ⟨.crr .descIdx, d, i⟩) (h14 : ∀ d i, P ⟨.crr .cls, d, i⟩) (h15 : ∀ d i, P ⟨.crr .state, d, i⟩) (qreports : Q .reports) :
    ∃ t, execCourierCipherResume d c s = .next t ∧ Reach P Q s0 t := by
  unfold execCourierCipherResume
  repeat' with_reducible first | assumption | apply finishIf_reach | apply State.chanShow_reach | (intros; show P _ = true; first | exact hsum _ rfl | (clear hsum; apply_assumption)) | split | dsimp only | intro _

theorem execCourierResume_reach {d : Nat} {c : Nat} (hs : Reach P Q s0 s) (hsum : ∀ k, k.cell.summary → P k) (h11 : ∀ d i, P ⟨.crr .depth, d, i⟩) (h12 : ∀ d i, P ⟨.crr .doneBytes, d, i⟩) (h13 : ∀ d i, P ⟨.crr .descIdx, d, i⟩) (h14 : ∀ d i, P ⟨.crr .cls, d, i⟩) (h15 : ∀ d i, P ⟨.crr .state, d, i⟩) (h16 : ∀ d i, P ⟨.crr .nBytes, d, i⟩) (h17 : ∀ d i, P ⟨.crr .nFault, d, i⟩) (h18 : ∀ d i, P ⟨.crr .faultAddr, d, i⟩) (h19 : ∀ d i, P ⟨.crr .faultSpace, d, i⟩) (h20 : ∀ d i, P ⟨.crr .fault, d, i⟩) (h21 : ∀ d i, P ⟨.sticky .crrHalt, d, i⟩) (h22 : ∀ d i, P ⟨.live .crrHalt, d, i⟩) (h23 : ∀ d i, P ⟨.sticky .crrPcie, d, i⟩) (h24 : ∀ i, P ⟨.sys .freeCount, 0, i⟩) (h25 : ∀ i, P ⟨.svc .suspender, 0, i⟩) (h26 : ∀ i, P ⟨.svc .owner, 0, i⟩) (h27 : ∀ i, P ⟨.svc .busy, 0, i⟩) (h28 : ∀ i, P ⟨.svc .nSuspend, 0, i⟩) (h29 : ∀ i, P ⟨.svc .s0Agent, 0, i⟩) (h30 : ∀ i, P ⟨.svc .s0Valid, 0, i⟩) (h31 : ∀ i, P ⟨.svc .s1Agent, 0, i⟩) (h32 : ∀ i, P ⟨.svc .s1Valid, 0, i⟩) (h33 : ∀ d i, P ⟨.crr .nCipherWait, d, i⟩) (h34 : ∀ i, P ⟨.svc .nWait, 0, i⟩) (h35 : ∀ i, P ⟨.svc .waiting, 0, i⟩) (h36 : ∀ i, P ⟨.svc .crrHolder, 0, i⟩) (h37 : ∀ i, P ⟨.crr .nResume, d, i⟩) (qreports : Q .reports) (qdescs : Q .descs) :
    ∃ t, execCourierResume d c s = .next t ∧ Reach P Q s0 t := by
  unfold execCourierResume
  repeat' with_reducible first | assumption | apply finishIf_reach | apply State.haltFollow_reach | apply State.descRun_reach | apply State.inc_reach | apply State.descEdit_reach | (intros; show P _ = true; first | exact hsum _ rfl | (clear hsum; apply_assumption)) | split | dsimp only | intro _

theorem State.descAbort_reach {x : Desc} (hs : Reach P Q s0 s) (h1 : ∀ i, P ⟨.sticky .crrAbort, x.die, i⟩) (h2 : ∀ i, P ⟨.crr .nAbort, x.die, i⟩) (h3 : ∀ i, P ⟨.sticky .panXtsFault, x.die, i⟩) (h4 : ∀ i, P ⟨.live .panXtsFault, x.die, i⟩) (h5 : ∀ i, P ⟨.tkt .fetched, 0, i⟩) (h6 : ∀ d i, P ⟨.crr .depth, d, i⟩) (h7 : ∀ d i, P ⟨.crr .doneBytes, d, i⟩) (h8 : ∀ d i, P ⟨.crr .descIdx, d, i⟩) (h9 : ∀ d i, P ⟨.crr .cls, d, i⟩) (h10 : ∀ d i, P ⟨.crr .state, d, i⟩) (h11 : ∀ d i, P ⟨.crr .nBytes, d, i⟩) (h12 : ∀ d i, P ⟨.crr .nFault, d, i⟩) (h13 : ∀ d i, P ⟨.crr .faultAddr, d, i⟩) (h14 : ∀ d i, P ⟨.crr .faultSpace, d, i⟩) (h15 : ∀ d i, P ⟨.crr .fault, d, i⟩) (h16 : ∀ d i, P ⟨.sticky .crrHalt, d, i⟩) (h17 : ∀ d i, P ⟨.live .crrHalt, d, i⟩) (h18 : ∀ d i, P ⟨.sticky .crrPcie, d, i⟩) (h19 : ∀ i, P ⟨.sys .freeCount, 0, i⟩) (h20 : ∀ i, P ⟨.svc .suspender, 0, i⟩) (h21 : ∀ i, P ⟨.svc .owner, 0, i⟩) (h22 : ∀ i, P ⟨.svc .busy, 0, i⟩) (h23 : ∀ i, P ⟨.svc .nSuspend, 0, i⟩) (h24 : ∀ i, P ⟨.svc .s0Agent, 0, i⟩) (h25 : ∀ i, P ⟨.svc .s0Valid, 0, i⟩) (h26 : ∀ i, P ⟨.svc .s1Agent, 0, i⟩) (h27 : ∀ i, P ⟨.svc .s1Valid, 0, i⟩) (h28 : ∀ d i, P ⟨.crr .nCipherWait, d, i⟩) (h29 : ∀ i, P ⟨.svc .nWait, 0, i⟩) (h30 : ∀ i, P ⟨.svc .waiting, 0, i⟩) (h31 : ∀ i, P ⟨.svc .crrHolder, 0, i⟩) (h32 : ∀ i, P ⟨.svc .retried, 0, i⟩) (h33 : ∀ i, P ⟨.svc .nMsg, 0, i⟩) (h34 : ∀ i, P ⟨.tkt .hashFail, 0, i⟩) (h35 : ∀ i, P ⟨.sticky .sbgSvcFault, 0, i⟩) (h36 : ∀ i, P ⟨.live .sbgSvcFault, 0, i⟩) (h37 : ∀ i, P ⟨.svc .nCheckFail, 0, i⟩) (h38 : ∀ i, P ⟨.svc .nSuspFail, 0, i⟩) (qreports : Q .reports) (qdescs : Q .descs) :
    Reach P Q s0 (State.descAbort s x) := by
  unfold State.descAbort
  repeat' with_reducible first | assumption | apply State.event_reach | apply State.inc_reach | apply State.descDrop_reach | apply State.when_reach | apply State.raise_reach | apply State.set_reach | apply State.haltFollow_reach | apply State.chanNext_reach | apply State.signEnd_reach | (intros; show P _ = true; apply_assumption) | split | dsimp only | intro _

theorem execPcieCompletionTimeout_reach {done : Nat} (hs : Reach P Q s0 s) (hsum : ∀ k, k.cell.summary → P k) (h11 : ∀ d i, P ⟨.crr .depth, d, i⟩) (h12 : ∀ d i, P ⟨.crr .doneBytes, d, i⟩) (h13 : ∀ d i, P ⟨.crr .descIdx, d, i⟩) (h14 : ∀ d i, P ⟨.crr .cls, d, i⟩) (h15 : ∀ d i, P ⟨.crr .state, d, i⟩) (h16 : ∀ d i, P ⟨.crr .nBytes, d, i⟩) (h17 : ∀ d i, P ⟨.crr .nFault, d, i⟩) (h18 : ∀ d i, P ⟨.crr .faultAddr, d, i⟩) (h19 : ∀ d i, P ⟨.crr .faultSpace, d, i⟩) (h20 : ∀ d i, P ⟨.crr .fault, d, i⟩) (h21 : ∀ d i, P ⟨.sticky .crrHalt, d, i⟩) (h22 : ∀ d i, P ⟨.live .crrHalt, d, i⟩) (h23 : ∀ d i, P ⟨.sticky .crrPcie, d, i⟩) (qreports : Q .reports) (qdescs : Q .descs) :
    ∃ t, execPcieCompletionTimeout done s = .next t ∧ Reach P Q s0 t := by
  unfold execPcieCompletionTimeout
  repeat' with_reducible first | assumption | apply finishIf_reach | apply State.chanHalt_reach | (intros; show P _ = true; first | exact hsum _ rfl | (clear hsum; apply_assumption)) | split | dsimp only | intro _

theorem execCourierAbort_reach {d : Nat} {c : Nat} (hs : Reach P Q s0 s) (hsum : ∀ k, k.cell.summary → P k) (h11 : ∀ d i, P ⟨.sticky .crrAbort, d, i⟩) (h12 : ∀ d i, P ⟨.crr .nAbort, d, i⟩) (h13 : ∀ d i, P ⟨.sticky .panXtsFault, d, i⟩) (h14 : ∀ d i, P ⟨.live .panXtsFault, d, i⟩) (h15 : ∀ i, P ⟨.tkt .fetched, 0, i⟩) (h16 : ∀ d i, P ⟨.crr .depth, d, i⟩) (h17 : ∀ d i, P ⟨.crr .doneBytes, d, i⟩) (h18 : ∀ d i, P ⟨.crr .descIdx, d, i⟩) (h19 : ∀ d i, P ⟨.crr .cls, d, i⟩) (h20 : ∀ d i, P ⟨.crr .state, d, i⟩) (h21 : ∀ d i, P ⟨.crr .nBytes, d, i⟩) (h22 : ∀ d i, P ⟨.crr .nFault, d, i⟩) (h23 : ∀ d i, P ⟨.crr .faultAddr, d, i⟩) (h24 : ∀ d i, P ⟨.crr .faultSpace, d, i⟩) (h25 : ∀ d i, P ⟨.crr .fault, d, i⟩) (h26 : ∀ d i, P ⟨.sticky .crrHalt, d, i⟩) (h27 : ∀ d i, P ⟨.live .crrHalt, d, i⟩) (h28 : ∀ d i, P ⟨.sticky .crrPcie, d, i⟩) (h29 : ∀ i, P ⟨.sys .freeCount, 0, i⟩) (h30 : ∀ i, P ⟨.svc .suspender, 0, i⟩) (h31 : ∀ i, P ⟨.svc .owner, 0, i⟩) (h32 : ∀ i, P ⟨.svc .busy, 0, i⟩) (h33 : ∀ i, P ⟨.svc .nSuspend, 0, i⟩) (h34 : ∀ i, P ⟨.svc .s0Agent, 0, i⟩) (h35 : ∀ i, P ⟨.svc .s0Valid, 0, i⟩) (h36 : ∀ i, P ⟨.svc .s1Agent, 0, i⟩) (h37 : ∀ i, P ⟨.svc .s1Valid, 0, i⟩) (h38 : ∀ d i, P ⟨.crr .nCipherWait, d, i⟩) (h39 : ∀ i, P ⟨.svc .nWait, 0, i⟩) (h40 : ∀ i, P ⟨.svc .waiting, 0, i⟩) (h41 : ∀ i, P ⟨.svc .crrHolder, 0, i⟩) (h42 : ∀ i, P ⟨.svc .retried, 0, i⟩) (h43 : ∀ i, P ⟨.svc .nMsg, 0, i⟩) (h44 : ∀ i, P ⟨.tkt .hashFail, 0, i⟩) (h45 : ∀ i, P ⟨.sticky .sbgSvcFault, 0, i⟩) (h46 : ∀ i, P ⟨.live .sbgSvcFault, 0, i⟩) (h47 : ∀ i, P ⟨.svc .nCheckFail, 0, i⟩) (h48 : ∀ i, P ⟨.svc .nSuspFail, 0, i⟩) (qreports : Q .reports) (qdescs : Q .descs) :
    ∃ t, execCourierAbort d c s = .next t ∧ Reach P Q s0 t := by
  unfold execCourierAbort
  repeat' with_reducible first | assumption | apply finishIf_reach | apply State.descAbort_reach | (intros; show P _ = true; first | exact hsum _ rfl | (clear hsum; apply_assumption)) | split | dsimp only | intro _

theorem execSvcLockRequest_reach {a : Nat} (hs : Reach P Q s0 s) (hsum : ∀ k, k.cell.summary → P k) (h11 : ∀ i, P ⟨.svc .suspender, 0, i⟩) (h12 : ∀ i, P ⟨.svc .owner, 0, i⟩) (h13 : ∀ i, P ⟨.svc .busy, 0, i⟩) (h14 : ∀ i, P ⟨.svc .nSuspend, 0, i⟩) (h15 : ∀ i, P ⟨.svc .s0Agent, 0, i⟩) (h16 : ∀ i, P ⟨.svc .s0Valid, 0, i⟩) (h17 : ∀ i, P ⟨.svc .s1Agent, 0, i⟩) (h18 : ∀ i, P ⟨.svc .s1Valid, 0, i⟩) (h19 : ∀ d i, P ⟨.crr .nCipherWait, d, i⟩) (h20 : ∀ d i, P ⟨.crr .depth, d, i⟩) (h21 : ∀ d i, P ⟨.crr .doneBytes, d, i⟩) (h22 : ∀ d i, P ⟨.crr .descIdx, d, i⟩) (h23 : ∀ d i, P ⟨.crr .cls, d, i⟩) (h24 : ∀ d i, P ⟨.crr .state, d, i⟩) (h25 : ∀ i, P ⟨.svc .nWait, 0, i⟩) (h26 : ∀ i, P ⟨.svc .waiting, 0, i⟩) (qreports : Q .reports) :
    ∃ t, execSvcLockRequest a s = .next t ∧ Reach P Q s0 t := by
  unfold execSvcLockRequest
  repeat' with_reducible first | assumption | apply finishIf_reach | apply State.svcRequest_reach | (intros; show P _ = true; first | exact hsum _ rfl | (clear hsum; apply_assumption)) | split | dsimp only | intro _

theorem execCourierFault_reach {d : Nat} {c : Nat} {code : Nat} {done : Nat} {space : Nat} {addr : Nat} (hs : Reach P Q s0 s) (hsum : ∀ k, k.cell.summary → P k) (h11 : ∀ i, P ⟨.pan .nXtsFault, d, i⟩) (h12 : ∀ d i, P ⟨.crr .depth, d, i⟩) (h13 : ∀ d i, P ⟨.crr .doneBytes, d, i⟩) (h14 : ∀ d i, P ⟨.crr .descIdx, d, i⟩) (h15 : ∀ d i, P ⟨.crr .cls, d, i⟩) (h16 : ∀ d i, P ⟨.crr .state, d, i⟩) (h17 : ∀ d i, P ⟨.crr .nBytes, d, i⟩) (h18 : ∀ d i, P ⟨.crr .nFault, d, i⟩) (h19 : ∀ d i, P ⟨.crr .faultAddr, d, i⟩) (h20 : ∀ d i, P ⟨.crr .faultSpace, d, i⟩) (h21 : ∀ d i, P ⟨.crr .fault, d, i⟩) (h22 : ∀ d i, P ⟨.sticky .crrHalt, d, i⟩) (h23 : ∀ d i, P ⟨.live .crrHalt, d, i⟩) (h24 : ∀ d i, P ⟨.sticky .crrPcie, d, i⟩) (qreports : Q .reports) (qdescs : Q .descs) :
    ∃ t, execCourierFault d c code done space addr s = .next t ∧ Reach P Q s0 t := by
  unfold execCourierFault
  repeat' with_reducible first | assumption | apply finishIf_reach | apply State.incIf_reach | apply State.chanHalt_reach | (intros; show P _ = true; first | exact hsum _ rfl | (clear hsum; apply_assumption)) | split | dsimp only | intro _

theorem execCourierPreempt_reach {d : Nat} {c : Nat} {done : Nat} (hs : Reach P Q s0 s) (hsum : ∀ k, k.cell.summary → P k) (h11 : ∀ d i, P ⟨.crr .depth, d, i⟩) (h12 : ∀ d i, P ⟨.crr .doneBytes, d, i⟩) (h13 : ∀ d i, P ⟨.crr .descIdx, d, i⟩) (h14 : ∀ d i, P ⟨.crr .cls, d, i⟩) (h15 : ∀ d i, P ⟨.crr .state, d, i⟩) (h16 : ∀ d i, P ⟨.crr .nBytes, d, i⟩) (h17 : ∀ d i, P ⟨.crr .nFault, d, i⟩) (h18 : ∀ d i, P ⟨.crr .faultAddr, d, i⟩) (h19 : ∀ d i, P ⟨.crr .faultSpace, d, i⟩) (h20 : ∀ d i, P ⟨.crr .fault, d, i⟩) (h21 : ∀ d i, P ⟨.sticky .crrHalt, d, i⟩) (h22 : ∀ d i, P ⟨.live .crrHalt, d, i⟩) (h23 : ∀ d i, P ⟨.sticky .crrPcie, d, i⟩) (h24 : ∀ i, P ⟨.sys .freeCount, 0, i⟩) (h25 : ∀ i, P ⟨.svc .suspender, 0, i⟩) (h26 : ∀ i, P ⟨.svc .owner, 0, i⟩) (h27 : ∀ i, P ⟨.svc .busy, 0, i⟩) (h28 : ∀ i, P ⟨.svc .nSuspend, 0, i⟩) (h29 : ∀ i, P ⟨.svc .s0Agent, 0, i⟩) (h30 : ∀ i, P ⟨.svc .s0Valid, 0, i⟩) (h31 : ∀ i, P ⟨.svc .s1Agent, 0, i⟩) (h32 : ∀ i, P ⟨.svc .s1Valid, 0, i⟩) (h33 : ∀ d i, P ⟨.crr .nCipherWait, d, i⟩) (h34 : ∀ i, P ⟨.svc .nWait, 0, i⟩) (h35 : ∀ i, P ⟨.svc .waiting, 0, i⟩) (h36 : ∀ i, P ⟨.svc .crrHolder, 0, i⟩) (h37 : ∀ i, P ⟨.crr .nPreempt, d, i⟩) (qreports : Q .reports) (qdescs : Q .descs) :
    ∃ t, execCourierPreempt d c done s = .next t ∧ Reach P Q s0 t := by
  unfold execCourierPreempt
  repeat' with_reducible first | assumption | apply finishIf_reach | apply State.chanNext_reach | apply State.add_reach | apply State.inc_reach | apply State.descEdit_reach | (intros; show P _ = true; first | exact hsum _ rfl | (clear hsum; apply_assumption)) | split | dsimp only | intro _

theorem execSvcLockRelease_reach {checkOk : Bool} {parityOk : Bool} (hs : Reach P Q s0 s) (hsum : ∀ k, k.cell.summary → P k) (h11 : ∀ i, P ⟨.svc .suspender, 0, i⟩) (h12 : ∀ i, P ⟨.svc .owner, 0, i⟩) (h13 : ∀ i, P ⟨.svc .busy, 0, i⟩) (h14 : ∀ i, P ⟨.svc .retried, 0, i⟩) (h15 : ∀ i, P ⟨.svc .nMsg, 0, i⟩) (h16 : ∀ i, P ⟨.svc .crrHolder, 0, i⟩) (h17 : ∀ d i, P ⟨.crr .depth, d, i⟩) (h18 : ∀ d i, P ⟨.crr .doneBytes, d, i⟩) (h19 : ∀ d i, P ⟨.crr .descIdx, d, i⟩) (h20 : ∀ d i, P ⟨.crr .cls, d, i⟩) (h21 : ∀ d i, P ⟨.crr .state, d, i⟩) (h22 : ∀ d i, P ⟨.crr .nBytes, d, i⟩) (h23 : ∀ d i, P ⟨.crr .nFault, d, i⟩) (h24 : ∀ d i, P ⟨.crr .faultAddr, d, i⟩) (h25 : ∀ d i, P ⟨.crr .faultSpace, d, i⟩) (h26 : ∀ d i, P ⟨.crr .fault, d, i⟩) (h27 : ∀ d i, P ⟨.sticky .crrHalt, d, i⟩) (h28 : ∀ d i, P ⟨.live .crrHalt, d, i⟩) (h29 : ∀ d i, P ⟨.sticky .crrPcie, d, i⟩) (h30 : ∀ i, P ⟨.tkt .hashFail, 0, i⟩) (h31 : ∀ i, P ⟨.svc .waiting, 0, i⟩) (h32 : ∀ i, P ⟨.sticky .sbgSvcFault, 0, i⟩) (h33 : ∀ i, P ⟨.live .sbgSvcFault, 0, i⟩) (h34 : ∀ i, P ⟨.svc .nCheckFail, 0, i⟩) (h35 : ∀ i, P ⟨.svc .s0Agent, 0, i⟩) (h36 : ∀ i, P ⟨.svc .s0Valid, 0, i⟩) (h37 : ∀ i, P ⟨.svc .s1Agent, 0, i⟩) (h38 : ∀ i, P ⟨.svc .s1Valid, 0, i⟩) (h39 : ∀ i, P ⟨.svc .nSuspFail, 0, i⟩) (qreports : Q .reports) (qdescs : Q .descs) :
    ∃ t, execSvcLockRelease checkOk parityOk s = .next t ∧ Reach P Q s0 t := by
  unfold execSvcLockRelease
  repeat' with_reducible first | assumption | apply finishIf_reach | apply State.svcRelease_reach | (intros; show P _ = true; first | exact hsum _ rfl | (clear hsum; apply_assumption)) | split | dsimp only | intro _

theorem execPcieUnexpectedCompletion_reach (hs : Reach P Q s0 s) (hsum : ∀ k, k.cell.summary → P k) (h11 : ∀ i, P ⟨.crr .nPcieUnexp, 0, i⟩) (qreports : Q .reports) :
    ∃ t, execPcieUnexpectedCompletion s = .next t ∧ Reach P Q s0 t := by
  unfold execPcieUnexpectedCompletion
  repeat' with_reducible first | assumption | apply finishIf_reach | apply State.inc_reach | (intros; show P _ = true; first | exact hsum _ rfl | (clear hsum; apply_assumption)) | split | dsimp only | intro _

end Sys2Proof.Machine
end

