-- ==== Sys2Proof/Laws/MovesStack.lean ====
section
/-!
SUPPORT. What the operations of Machine/Stack.lean may change, one lemma each (Laws/Reach.lean).
-/
namespace Sys2Proof.Machine

set_option linter.unusedTactic false
set_option linter.unreachableTactic false

variable {P : Key → Bool} {Q : Part → Bool} {s0 s : State}

theorem State.migrateCopy_reach {d : Nat} {old : Nat} {new : Nat} (hs : Reach P Q s0 s) (h1 : ∀ i, P ⟨.pan .nMigSkip, d, i⟩) (h2 : ∀ i, P ⟨.pan .nPoisonWr, d, i⟩) (h3 : ∀ i, P ⟨.pan .poison, d, i⟩) :
    Reach P Q s0 (State.migrateCopy s d old new) := by
  unfold State.migrateCopy
  repeat' with_reducible first | assumption | apply State.each_reach | apply State.inc_reach | apply State.poisonWrite_reach | (intros; show P _ = true; apply_assumption) | split | dsimp only | intro _

theorem State.migrateEnd_reach {d : Nat} (hs : Reach P Q s0 s) (h1 : ∀ i, P ⟨.pan .nRetire, d, i⟩) (h2 : ∀ i, P ⟨.pan .records, d, i⟩) (h3 : ∀ i, P ⟨.win .panRetire, d, i⟩) (h4 : ∀ i, P ⟨.pan .nMigSkip, d, i⟩) (h5 : ∀ i, P ⟨.pan .nPoisonWr, d, i⟩) (h6 : ∀ i, P ⟨.pan .poison, d, i⟩) (h7 : ∀ i, P ⟨.pan .homeOf, d, i⟩) (h8 : ∀ i, P ⟨.pan .mapTo, d, i⟩) (h9 : ∀ i, P ⟨.pan .migHome, d, i⟩) (h10 : ∀ i, P ⟨.crr .nBytes, d, i⟩) (h11 : ∀ i, P ⟨.crr .nDescDone, d, i⟩) (h12 : ∀ i, P ⟨.crr .state, d, i⟩) (h13 : ∀ i, P ⟨.pan .migDirty, d, i⟩) :
    Reach P Q s0 (State.migrateEnd s d) := by
  unfold State.migrateEnd
  refine State.add_reach (State.inc_reach (State.set_reach (State.clear_reach ?_ ?_) (h12 _)) h11) h10
  · repeat' with_reducible first | assumption | apply State.remap_reach | apply State.set_reach | apply State.retireRecord_reach | apply State.migrateCopy_reach | (intros; first | assumption | exact h1 _ | exact h2 _ | exact h3 _ | exact h4 _ | exact h5 _ | exact h6 _ | exact h7 _ | exact h8 _ | exact h9 _)
  · rintro ⟨c, e, i⟩ hk
    simp only [Bool.and_eq_true, decide_eq_true_eq] at hk
    obtain ⟨rfl, rfl⟩ := hk
    exact h13 _

theorem execPageMigrationDone_reach {d : Nat} (hs : Reach P Q s0 s) (hsum : ∀ k, k.cell.summary → P k) (h11 : ∀ i, P ⟨.pan .nRetire, d, i⟩) (h12 : ∀ i, P ⟨.pan .records, d, i⟩) (h13 : ∀ i, P ⟨.win .panRetire, d, i⟩) (h14 : ∀ i, P ⟨.pan .nMigSkip, d, i⟩) (h15 : ∀ i, P ⟨.pan .nPoisonWr, d, i⟩) (h16 : ∀ i, P ⟨.pan .poison, d, i⟩) (h17 : ∀ i, P ⟨.pan .homeOf, d, i⟩) (h18 : ∀ i, P ⟨.pan .mapTo, d, i⟩) (h19 : ∀ i, P ⟨.pan .migHome, d, i⟩) (h20 : ∀ i, P ⟨.crr .nBytes, d, i⟩) (h21 : ∀ i, P ⟨.crr .nDescDone, d, i⟩) (h22 : ∀ i, P ⟨.crr .state, d, i⟩) (h23 : ∀ i, P ⟨.pan .migDirty, d, i⟩) (qreports : Q .reports) :
    ∃ t, execPageMigrationDone d s = .next t ∧ Reach P Q s0 t := by
  unfold execPageMigrationDone
  repeat' with_reducible first | assumption | apply finishIf_reach | apply State.migrateEnd_reach | (intros; show P _ = true; first | exact hsum _ rfl | (clear hsum; apply_assumption)) | split | dsimp only | intro _

theorem State.payloadLost_reach {d : Nat} {q : Nat} {id : Nat} (hs : Reach P Q s0 s) (h1 : ∀ i, P ⟨.pan .nQLossPkts, d, i⟩) (h2 : ∀ i, P ⟨.sticky .qsBrakeOn, d, i⟩) (h3 : ∀ i, P ⟨.live .qsBrakeOn, d, i⟩) (h4 : ∀ i, P ⟨.qs .brake, d, i⟩) (h5 : ∀ i, P ⟨.qs .qXoff, d, i⟩) (h6 : ∀ i, P ⟨.hl .pXoff, d, i⟩) (h7 : ∀ i, P ⟨.qs .dieOcc, d, i⟩) (h8 : ∀ i, P ⟨.qs .occWords, d, i⟩) (h9 : ∀ i, P ⟨.qs .rd, d, i⟩) (h10 : ∀ i, P ⟨.trc .nLost, d, i⟩) (h11 : ∀ i, P ⟨.win .trcBuf, d, i⟩) (h12 : ∀ i, P ⟨.trc .count, d, i⟩) (h13 : ∀ i, P ⟨.trc .trcNext, d, i⟩) (h14 : ∀ i, P ⟨.sticky .trcFull, d, i⟩) (h15 : ∀ i, P ⟨.live .trcFull, d, i⟩) (h16 : ∀ i, P ⟨.sticky .telOvf, 0, i⟩) (h17 : ∀ i, P ⟨.tel .dropped, 0, i⟩) (h18 : ∀ i, P ⟨.tel .nDrop, 0, i⟩) (h19 : ∀ i, P ⟨.tel .written, 0, i⟩) (h20 : ∀ i, P ⟨.qs .gapPend, d, i⟩) (qreports : Q .reports) (qrings : Q .rings) (qtelOut : Q .telOut) :
    Reach P Q s0 (State.payloadLost s d q id) := by
  unfold State.payloadLost
  repeat' with_reducible first | assumption | apply State.inc_reach | apply State.ringDrop_reach | apply State.traceItem_reach | apply State.set_reach | (intros; show P _ = true; apply_assumption) | split | dsimp only | intro _ | apply State.rings_reach

theorem State.headerLost_reach {d : Nat} {q : Nat} (hs : Reach P Q s0 s) (h1 : ∀ i, P ⟨.sticky .qsBrakeOn, d, i⟩) (h2 : ∀ i, P ⟨.live .qsBrakeOn, d, i⟩) (h3 : ∀ i, P ⟨.qs .brake, d, i⟩) (h4 : ∀ i, P ⟨.qs .qXoff, d, i⟩) (h5 : ∀ i, P ⟨.hl .pXoff, d, i⟩) (h6 : ∀ i, P ⟨.qs .dieOcc, d, i⟩) (h7 : ∀ i, P ⟨.qs .occWords, d, i⟩) (h8 : ∀ i, P ⟨.qs .rd, d, i⟩) (h9 : ∀ i, P ⟨.qs .nCGapTx, d, i⟩) (h10 : ∀ i, P ⟨.ct .gapTx, d, i⟩) (h11 : ∀ i, P ⟨.pan .nQFlush, d, i⟩) (h12 : ∀ i, P ⟨.pan .nQLossPkts, d, i⟩) (qreports : Q .reports) (qrings : Q .rings) :
    Reach P Q s0 (State.headerLost s d q) := by
  unfold State.headerLost
  repeat' with_reducible first | assumption | apply State.occSub_reach | apply State.sendGap_reach | apply State.inc_reach | apply State.add_reach | (intros; show P _ = true; apply_assumption) | split | dsimp only | intro _ | apply State.rings_reach

theorem State.usageLost_reach {d : Nat} {u : Sys2Proof.PanUse} (hs : Reach P Q s0 s) (h1 : ∀ i, P ⟨.sticky .qsQFullDrop, d, i⟩) (h2 : ∀ i, P ⟨.qs .gapPend, d, i⟩) (h3 : ∀ i, P ⟨.qs .nQDropFull, d, i⟩) (h4 : ∀ i, P ⟨.pan .nQLossPkts, d, i⟩) (h5 : ∀ i, P ⟨.sticky .qsBrakeOn, d, i⟩) (h6 : ∀ i, P ⟨.live .qsBrakeOn, d, i⟩) (h7 : ∀ i, P ⟨.qs .brake, d, i⟩) (h8 : ∀ i, P ⟨.qs .qXoff, d, i⟩) (h9 : ∀ i, P ⟨.hl .pXoff, d, i⟩) (h10 : ∀ i, P ⟨.qs .dieOcc, d, i⟩) (h11 : ∀ i, P ⟨.qs .occWords, d, i⟩) (h12 : ∀ i, P ⟨.qs .rd, d, i⟩) (h13 : ∀ i, P ⟨.trc .nLost, d, i⟩) (h14 : ∀ i, P ⟨.win .trcBuf, d, i⟩) (h15 : ∀ i, P ⟨.trc .count, d, i⟩) (h16 : ∀ i, P ⟨.trc .trcNext, d, i⟩) (h17 : ∀ i, P ⟨.sticky .trcFull, d, i⟩) (h18 : ∀ i, P ⟨.live .trcFull, d, i⟩) (h19 : ∀ i, P ⟨.sticky .telOvf, 0, i⟩) (h20 : ∀ i, P ⟨.tel .dropped, 0, i⟩) (h21 : ∀ i, P ⟨.tel .nDrop, 0, i⟩) (h22 : ∀ i, P ⟨.tel .written, 0, i⟩) (h23 : ∀ i, P ⟨.qs .nCGapTx, d, i⟩) (h24 : ∀ i, P ⟨.ct .gapTx, d, i⟩) (h25 : ∀ i, P ⟨.pan .nQFlush, d, i⟩) (qreports : Q .reports) (qrings : Q .rings) (qtelOut : Q .telOut) :
    Reach P Q s0 (State.usageLost s d u) := by
  unfold State.usageLost
  repeat' with_reducible first | assumption | apply State.dropFull_reach | apply State.payloadLost_reach | apply State.headerLost_reach | (intros; show P _ = true; apply_assumption) | split | dsimp only | intro _

theorem execPanUncorrectableRead_reach {d : Nat} {g : Nat} {u : Sys2Proof.PanUse} (hs : Reach P Q s0 s) (hsum : ∀ k, k.cell.summary → P k) (h11 : ∀ i, P ⟨.pan .nPoisonRd, d, i⟩) (h12 : ∀ i, P ⟨.pan .taken, d, i⟩) (h13 : ∀ i, P ⟨.pan .given, d, i⟩) (h14 : ∀ i, P ⟨.sticky .panSpareEmpty, d, i⟩) (h15 : ∀ i, P ⟨.live .panSpareEmpty, d, i⟩) (h16 : ∀ i, P ⟨.sticky .panSpareLow, d, i⟩) (h17 : ∀ i, P ⟨.live .panSpareLow, d, i⟩) (h18 : ∀ i, P ⟨.pan .sparesLeft, d, i⟩) (h19 : ∀ i, P ⟨.sticky .panRetireDrop, d, i⟩) (h20 : ∀ i, P ⟨.pan .nRetireDrop, d, i⟩) (h21 : ∀ i, P ⟨.sticky .panMigUrgent, d, i⟩) (h22 : ∀ i, P ⟨.live .panMigUrgent, d, i⟩) (h23 : ∀ i, P ⟨.pan .retirePend, d, i⟩) (h24 : ∀ i, P ⟨.sticky .panHardFault, d, i⟩) (h25 : ∀ i, P ⟨.pan .nHard, d, i⟩) (h26 : ∀ i, P ⟨.pan .nPoisonWr, d, i⟩) (h27 : ∀ i, P ⟨.pan .poison, d, i⟩) (h28 : ∀ i, P ⟨.sticky .panUe, d, i⟩) (h29 : ∀ i, P ⟨.pan .nUe, d, i⟩) (h30 : ∀ i, P ⟨.sticky .qsQFullDrop, d, i⟩) (h31 : ∀ i, P ⟨.qs .gapPend, d, i⟩) (h32 : ∀ i, P ⟨.qs .nQDropFull, d, i⟩) (h33 : ∀ i, P ⟨.pan .nQLossPkts, d, i⟩) (h34 : ∀ i, P ⟨.sticky .qsBrakeOn, d, i⟩) (h35 : ∀ i, P ⟨.live .qsBrakeOn, d, i⟩) (h36 : ∀ i, P ⟨.qs .brake, d, i⟩) (h37 : ∀ i, P ⟨.qs .qXoff, d, i⟩) (h38 : ∀ i, P ⟨.hl .pXoff, d, i⟩) (h39 : ∀ i, P ⟨.qs .dieOcc, d, i⟩) (h40 : ∀ i, P ⟨.qs .occWords, d, i⟩) (h41 : ∀ i, P ⟨.qs .rd, d, i⟩) (h42 : ∀ i, P ⟨.trc .nLost, d, i⟩) (h43 : ∀ i, P ⟨.win .trcBuf, d, i⟩) (h44 : ∀ i, P ⟨.trc .count, d, i⟩) (h45 : ∀ i, P ⟨.trc .trcNext, d, i⟩) (h46 : ∀ i, P ⟨.sticky .trcFull, d, i⟩) (h47 : ∀ i, P ⟨.live .trcFull, d, i⟩) (h48 : ∀ i, P ⟨.sticky .telOvf, 0, i⟩) (h49 : ∀ i, P ⟨.tel .dropped, 0, i⟩) (h50 : ∀ i, P ⟨.tel .nDrop, 0, i⟩) (h51 : ∀ i, P ⟨.tel .written, 0, i⟩) (h52 : ∀ i, P ⟨.qs .nCGapTx, d, i⟩) (h53 : ∀ i, P ⟨.ct .gapTx, d, i⟩) (h54 : ∀ i, P ⟨.pan .nQFlush, d, i⟩) (qreports : Q .reports) (qretireQ : Q .retireQ) (qrings : Q .rings) (qtelOut : Q .telOut) :
    ∃ t, execPanUncorrectableRead d g u s = .next t ∧ Reach P Q s0 t := by
  unfold execPanUncorrectableRead
  repeat' with_reducible first | assumption | apply finishIf_reach | apply State.inc_reach | apply State.freshUe_reach | apply State.usageLost_reach | (intros; show P _ = true; first | exact hsum _ rfl | (clear hsum; apply_assumption)) | split | dsimp only | intro _

theorem execEccSelftest_reach {d : Nat} {pass : Bool} (hs : Reach P Q s0 s) (hsum : ∀ k, k.cell.summary → P k) (h11 : ∀ i, P ⟨.boot .procCalled, 0, i⟩) (h12 : ∀ i, P ⟨.boot .procCode, 0, i⟩) (h13 : ∀ i, P ⟨.boot .procDone, 0, i⟩) (h14 : ∀ i, P ⟨.boot .eccPass, 0, i⟩) (h15 : ∀ i, P ⟨.boot .eccRan, 0, i⟩) (qreports : Q .reports) :
    ∃ t, execEccSelftest d pass s = .next t ∧ Reach P Q s0 t := by
  unfold execEccSelftest
  repeat' with_reducible first | assumption | apply finishIf_reach | apply State.procEnd_reach | apply State.set_reach | (intros; show P _ = true; first | exact hsum _ rfl | (clear hsum; apply_assumption)) | split | dsimp only | intro _

theorem State.panBegin_reach {d : Nat} (hs : Reach P Q s0 s) (h1 : ∀ i, P ⟨.live .panWalkFault, d, i⟩) (h2 : ∀ i, P ⟨.sticky .panMigUrgent, d, i⟩) (h3 : ∀ i, P ⟨.live .panMigUrgent, d, i⟩) (h4 : ∀ i, P ⟨.pan .retirePend, d, i⟩) (h5 : ∀ i, P ⟨.sticky .panSpareEmpty, d, i⟩) (h6 : ∀ i, P ⟨.live .panSpareEmpty, d, i⟩) (h7 : ∀ i, P ⟨.sticky .panSpareLow, d, i⟩) (h8 : ∀ i, P ⟨.live .panSpareLow, d, i⟩) (h9 : ∀ i, P ⟨.pan .sparesLeft, d, i⟩) (h10 : ∀ i, P ⟨.pan .taken, d, i⟩) (h11 : ∀ i, P ⟨.pan .given, d, i⟩) (h12 : ∀ i, P ⟨.pan .mapTo, d, i⟩) (h13 : ∀ i, P ⟨.pan .homeOf, d, i⟩) (h14 : ∀ i, P ⟨.pan .out, d, i⟩) (h15 : ∀ i, P ⟨.pan .rebuild, d, i⟩) (h16 : ∀ i, P ⟨.pan .poison, d, i⟩) (h17 : ∀ i, P ⟨.pan .wbPend, d, i⟩) (h18 : ∀ i, P ⟨.pan .migHome, d, i⟩) (h19 : ∀ i, P ⟨.pan .migDirty, d, i⟩) (h20 : ∀ i, P ⟨.pan .rowPages, d, i⟩) (h21 : ∀ i, P ⟨.pan .records, d, i⟩) (h22 : ∀ i, P ⟨.win .panRetire, d, i⟩) (h23 : ∀ i, P ⟨.win .panRepair, d, i⟩) (qtracker : Q .tracker) (qretireQ : Q .retireQ) (qmerge : Q .merge) (qreports : Q .reports) :
    Reach P Q s0 (State.panBegin s d) := by
  unfold State.panBegin
  have hc : Reach P Q s0 (s.clear fun k => decide (k.die = d) && k.cell.panVolatile) := by
    refine State.clear_reach hs ?_
    rintro ⟨c, e, i⟩ hk
    simp only [Bool.and_eq_true, decide_eq_true_eq] at hk
    obtain ⟨rfl, hk⟩ := hk
    unfold Cell.panVolatile at hk
    split at hk <;> simp only [Bool.or_eq_true, decide_eq_true_eq, Bool.false_eq_true] at hk
    · obtain ((((((((((rfl | rfl) | rfl) | rfl) | rfl) | rfl) | rfl) | rfl) | rfl) | rfl) | rfl) | rfl := hk
      all_goals first | exact h10 _ | exact h11 _ | exact h12 _ | exact h13 _ | exact h14 _ | exact h15 _ | exact h16 _ | exact h17 _ | exact h18 _ | exact h19 _ | exact h20 _ | exact h21 _
    · obtain rfl | rfl := hk
      · exact h22 _
      · exact h23 _
  have hk := State.merge_reach (l := ((s.clear fun k => decide (k.die = d) && k.cell.panVolatile).merge).filter
    fun t => decide (t.die ≠ d)) (State.retireQ_reach (l := ((s.clear fun k => decide (k.die = d) &&
    k.cell.panVolatile).retireQ).filter fun t => decide (t.die ≠ d)) (State.tracker_reach (l := ((s.clear fun k =>
    decide (k.die = d) && k.cell.panVolatile).tracker).filter fun t => decide (t.die ≠ d)) hc qtracker) qretireQ) qmerge
  repeat' with_reducible first | assumption | apply State.lower_reach | apply State.retireFollow_reach | apply State.spareFollow_reach | apply State.set_reach | exact h9 _

theorem State.ontoSpare_reach {d : Nat} {p : Nat} (hs : Reach P Q s0 s) (h1 : ∀ i, P ⟨.pan .taken, d, i⟩) (h2 : ∀ i, P ⟨.pan .given, d, i⟩) (h3 : ∀ i, P ⟨.sticky .panSpareEmpty, d, i⟩) (h4 : ∀ i, P ⟨.live .panSpareEmpty, d, i⟩) (h5 : ∀ i, P ⟨.sticky .panSpareLow, d, i⟩) (h6 : ∀ i, P ⟨.live .panSpareLow, d, i⟩) (h7 : ∀ i, P ⟨.pan .sparesLeft, d, i⟩) (h8 : ∀ i, P ⟨.pan .homeOf, d, i⟩) (h9 : ∀ i, P ⟨.pan .mapTo, d, i⟩) (qreports : Q .reports) :
    Reach P Q s0 (State.ontoSpare s d p) := by
  unfold State.ontoSpare
  repeat' with_reducible first | assumption | apply State.takeSpare_reach | apply State.remap_reach | (intros; show P _ = true; apply_assumption) | split | dsimp only | intro _

theorem State.repairMap_reach {d : Nat} (hs : Reach P Q s0 s) (h1 : ∀ i, P ⟨.win .panRepair, d, i⟩) (h2 : ∀ i, P ⟨.pan .taken, d, i⟩) (h3 : ∀ i, P ⟨.pan .given, d, i⟩) (h4 : ∀ i, P ⟨.sticky .panSpareEmpty, d, i⟩) (h5 : ∀ i, P ⟨.live .panSpareEmpty, d, i⟩) (h6 : ∀ i, P ⟨.sticky .panSpareLow, d, i⟩) (h7 : ∀ i, P ⟨.live .panSpareLow, d, i⟩) (h8 : ∀ i, P ⟨.pan .sparesLeft, d, i⟩) (h9 : ∀ i, P ⟨.pan .homeOf, d, i⟩) (h10 : ∀ i, P ⟨.pan .mapTo, d, i⟩) (h11 : ∀ i, P ⟨.pan .rowPages, d, i⟩) (h12 : ∀ i, P ⟨.pan .pprLeft, d, i⟩) (h13 : ∀ i, P ⟨.pan .appliedNew, d, i⟩) (h14 : ∀ i, P ⟨.pan .fuseFree, d, i⟩) (qreports : Q .reports) :
    Reach P Q s0 (State.repairMap s d) := by
  unfold State.repairMap
  repeat' with_reducible first | assumption | apply State.each_reach | apply State.setWin_reach | apply State.ontoSpare_reach | apply State.set_reach | (intros; show P _ = true; apply_assumption) | split | dsimp only | intro _

theorem State.initFault_reach {d : Nat} {f : Nat × Nat} (hs : Reach P Q s0 s) (h1 : ∀ i, P ⟨.pan .nCeData, d, i⟩) (h2 : ∀ i, P ⟨.pan .nCeCheck, d, i⟩) (h3 : ∀ i, P ⟨.sticky .panUe, d, i⟩) (h4 : ∀ i, P ⟨.pan .nUe, d, i⟩) (h5 : ∀ i, P ⟨.sticky .panHardFault, d, i⟩) (h6 : ∀ i, P ⟨.pan .nHard, d, i⟩) (h7 : ∀ i, P ⟨.pan .taken, d, i⟩) (h8 : ∀ i, P ⟨.pan .given, d, i⟩) (h9 : ∀ i, P ⟨.sticky .panSpareEmpty, d, i⟩) (h10 : ∀ i, P ⟨.live .panSpareEmpty, d, i⟩) (h11 : ∀ i, P ⟨.sticky .panSpareLow, d, i⟩) (h12 : ∀ i, P ⟨.live .panSpareLow, d, i⟩) (h13 : ∀ i, P ⟨.pan .sparesLeft, d, i⟩) (h14 : ∀ i, P ⟨.pan .nRetire, d, i⟩) (h15 : ∀ i, P ⟨.pan .records, d, i⟩) (h16 : ∀ i, P ⟨.win .panRetire, d, i⟩) (h17 : ∀ i, P ⟨.pan .homeOf, d, i⟩) (h18 : ∀ i, P ⟨.pan .mapTo, d, i⟩) (h19 : ∀ i, P ⟨.sys .freeCount, 0, i⟩) (qreports : Q .reports) :
    Reach P Q s0 (State.initFault s d f) := by
  unfold State.initFault
  repeat' with_reducible first | assumption | apply State.inc_reach | apply State.event_reach | apply State.takeSpare_reach | apply State.retireRecord_reach | apply State.remap_reach | apply State.used_reach | (intros; show P _ = true; apply_assumption) | split | dsimp only | intro _

theorem State.pannierInit_reach {d : Nat} {train : Bool} {geometry : Bool} {map : Bool} {key : Bool} {faults : List (Nat × Nat)} (hs : Reach P Q s0 s) (h1 : ∀ i, P ⟨.sticky .panDown, d, i⟩) (h2 : ∀ i, P ⟨.live .panDown, d, i⟩) (h3 : ∀ i, P ⟨.pan .state, d, i⟩) (h4 : ∀ i, P ⟨.live .panWalkFault, d, i⟩) (h5 : ∀ i, P ⟨.sticky .panMigUrgent, d, i⟩) (h6 : ∀ i, P ⟨.live .panMigUrgent, d, i⟩) (h7 : ∀ i, P ⟨.pan .retirePend, d, i⟩) (h8 : ∀ i, P ⟨.sticky .panSpareEmpty, d, i⟩) (h9 : ∀ i, P ⟨.live .panSpareEmpty, d, i⟩) (h10 : ∀ i, P ⟨.sticky .panSpareLow, d, i⟩) (h11 : ∀ i, P ⟨.live .panSpareLow, d, i⟩) (h12 : ∀ i, P ⟨.pan .sparesLeft, d, i⟩) (h13 : ∀ i, P ⟨.pan .taken, d, i⟩) (h14 : ∀ i, P ⟨.pan .given, d, i⟩) (h15 : ∀ i, P ⟨.pan .mapTo, d, i⟩) (h16 : ∀ i, P ⟨.pan .homeOf, d, i⟩) (h17 : ∀ i, P ⟨.pan .out, d, i⟩) (h18 : ∀ i, P ⟨.pan .rebuild, d, i⟩) (h19 : ∀ i, P ⟨.pan .poison, d, i⟩) (h20 : ∀ i, P ⟨.pan .wbPend, d, i⟩) (h21 : ∀ i, P ⟨.pan .migHome, d, i⟩) (h22 : ∀ i, P ⟨.pan .migDirty, d, i⟩) (h23 : ∀ i, P ⟨.pan .rowPages, d, i⟩) (h24 : ∀ i, P ⟨.pan .records, d, i⟩) (h25 : ∀ i, P ⟨.win .panRetire, d, i⟩) (h26 : ∀ i, P ⟨.win .panRepair, d, i⟩) (h27 : ∀ i, P ⟨.sbg .drbgCount, 0, i⟩) (h28 : ∀ i, P ⟨.sbg .nDrbgReseed, 0, i⟩) (h29 : ∀ i, P ⟨.pan .pprLeft, d, i⟩) (h30 : ∀ i, P ⟨.pan .appliedNew, d, i⟩) (h31 : ∀ i, P ⟨.pan .fuseFree, d, i⟩) (h32 : ∀ i, P ⟨.boot .procCalled, 0, i⟩) (h33 : ∀ i, P ⟨.boot .procCode, 0, i⟩) (h34 : ∀ i, P ⟨.boot .procDone, 0, i⟩) (h35 : ∀ i, P ⟨.pan .xtsReady, d, i⟩) (h36 : ∀ i, P ⟨.pan .nCeData, d, i⟩) (h37 : ∀ i, P ⟨.pan .nCeCheck, d, i⟩) (h38 : ∀ i, P ⟨.sticky .panUe, d, i⟩) (h39 : ∀ i, P ⟨.pan .nUe, d, i⟩) (h40 : ∀ i, P ⟨.sticky .panHardFault, d, i⟩) (h41 : ∀ i, P ⟨.pan .nHard, d, i⟩) (h42 : ∀ i, P ⟨.pan .nRetire, d, i⟩) (h43 : ∀ i, P ⟨.sys .freeCount, 0, i⟩) (qreports : Q .reports) (qtracker : Q .tracker) (qretireQ : Q .retireQ) (qmerge : Q .merge) :
    Reach P Q s0 (State.pannierInit s d train geometry map key faults) := by
  unfold State.pannierInit
  repeat' with_reducible first | assumption | apply State.panState_reach | apply State.panBegin_reach | apply State.drbg_reach | apply State.repairMap_reach | apply State.procEnd_reach | apply State.each_reach | apply State.set_reach | apply State.initFault_reach | (intros; show P _ = true; apply_assumption) | split | dsimp only | intro _

theorem execPanWriteBack_reach {d : Nat} {g : Nat} {ok : Bool} (hs : Reach P Q s0 s) (hsum : ∀ k, k.cell.summary → P k) (h11 : ∀ i, P ⟨.pan .wbPend, d, i⟩) (h12 : ∀ i, P ⟨.pan .taken, d, i⟩) (h13 : ∀ i, P ⟨.pan .given, d, i⟩) (h14 : ∀ i, P ⟨.sticky .panSpareEmpty, d, i⟩) (h15 : ∀ i, P ⟨.live .panSpareEmpty, d, i⟩) (h16 : ∀ i, P ⟨.sticky .panSpareLow, d, i⟩) (h17 : ∀ i, P ⟨.live .panSpareLow, d, i⟩) (h18 : ∀ i, P ⟨.pan .sparesLeft, d, i⟩) (h19 : ∀ i, P ⟨.sticky .panRetireDrop, d, i⟩) (h20 : ∀ i, P ⟨.pan .nRetireDrop, d, i⟩) (h21 : ∀ i, P ⟨.sticky .panMigUrgent, d, i⟩) (h22 : ∀ i, P ⟨.live .panMigUrgent, d, i⟩) (h23 : ∀ i, P ⟨.pan .retirePend, d, i⟩) (h24 : ∀ i, P ⟨.sticky .panHardFault, d, i⟩) (h25 : ∀ i, P ⟨.pan .nHard, d, i⟩) (h26 : ∀ i, P ⟨.pan .nWbFail, d, i⟩) (qreports : Q .reports) (qretireQ : Q .retireQ) :
    ∃ t, execPanWriteBack d g ok s = .next t ∧ Reach P Q s0 t := by
  unfold execPanWriteBack
  repeat' with_reducible first | assumption | apply finishIf_reach | apply State.set_reach | apply State.hardFault_reach | apply State.inc_reach | (intros; show P _ = true; first | exact hsum _ rfl | (clear hsum; apply_assumption)) | split | dsimp only | intro _

theorem execScrubLapEnd_reach {d : Nat} {ms : Nat} (hs : Reach P Q s0 s) (hsum : ∀ k, k.cell.summary → P k) (h11 : ∀ i, P ⟨.pan .nScrubLaps, d, i⟩) (h12 : ∀ i, P ⟨.pan .lastLapMs, d, i⟩) (h13 : ∀ i, P ⟨.sticky .panScrubSlow, d, i⟩) (qreports : Q .reports) (qtracker : Q .tracker) :
    ∃ t, execScrubLapEnd d ms s = .next t ∧ Reach P Q s0 t := by
  unfold execScrubLapEnd
  repeat' with_reducible first | assumption | apply finishIf_reach | apply State.when_reach | apply State.trackClear_reach | apply State.inc_reach | apply State.set_reach | apply State.event_reach | (intros; show P _ = true; first | exact hsum _ rfl | (clear hsum; apply_assumption)) | split | dsimp only | intro _

theorem execPanCorrectedRead_reach {d : Nat} {g : Nat} {check : Bool} {scrub : Bool} (hs : Reach P Q s0 s) (hsum : ∀ k, k.cell.summary → P k) (h11 : ∀ i, P ⟨.pan .taken, d, i⟩) (h12 : ∀ i, P ⟨.pan .given, d, i⟩) (h13 : ∀ i, P ⟨.sticky .panSpareEmpty, d, i⟩) (h14 : ∀ i, P ⟨.live .panSpareEmpty, d, i⟩) (h15 : ∀ i, P ⟨.sticky .panSpareLow, d, i⟩) (h16 : ∀ i, P ⟨.live .panSpareLow, d, i⟩) (h17 : ∀ i, P ⟨.pan .sparesLeft, d, i⟩) (h18 : ∀ i, P ⟨.sticky .panRetireDrop, d, i⟩) (h19 : ∀ i, P ⟨.pan .nRetireDrop, d, i⟩) (h20 : ∀ i, P ⟨.sticky .panMigUrgent, d, i⟩) (h21 : ∀ i, P ⟨.live .panMigUrgent, d, i⟩) (h22 : ∀ i, P ⟨.pan .retirePend, d, i⟩) (h23 : ∀ i, P ⟨.sticky .panHardFault, d, i⟩) (h24 : ∀ i, P ⟨.pan .nHard, d, i⟩) (h25 : ∀ i, P ⟨.sticky .panTrackOvf, d, i⟩) (h26 : ∀ i, P ⟨.pan .nTrackOvf, d, i⟩) (h27 : ∀ i, P ⟨.pan .nCeCheck, d, i⟩) (h28 : ∀ i, P ⟨.pan .nCeData, d, i⟩) (h29 : ∀ i, P ⟨.pan .wbPend, d, i⟩) (qreports : Q .reports) (qtracker : Q .tracker) (qretireQ : Q .retireQ) :
    ∃ t, execPanCorrectedRead d g check scrub s = .next t ∧ Reach P Q s0 t := by
  unfold execPanCorrectedRead
  repeat' with_reducible first | assumption | apply finishIf_reach | apply State.track_reach | apply State.inc_reach | apply State.set_reach | (intros; show P _ = true; first | exact hsum _ rfl | (clear hsum; apply_assumption)) | split | dsimp only | intro _

theorem execPteRebuildDone_reach {d : Nat} {r : Nat} {v : Nat} (hs : Reach P Q s0 s) (hsum : ∀ k, k.cell.summary → P k) (h11 : ∀ i, P ⟨.pan .rebuild, d, i⟩) (h12 : ∀ i, P ⟨.live .panWalkFault, d, i⟩) (qreports : Q .reports) :
    ∃ t, execPteRebuildDone d r v s = .next t ∧ Reach P Q s0 t := by
  unfold execPteRebuildDone
  repeat' with_reducible first | assumption | apply finishIf_reach | apply State.set_reach | apply State.lower_reach | (intros; show P _ = true; first | exact hsum _ rfl | (clear hsum; apply_assumption)) | split | dsimp only | intro _

theorem execTrackerClearTimer_reach {d : Nat} (hs : Reach P Q s0 s) (hsum : ∀ k, k.cell.summary → P k) (h11 : ∀ i, P ⟨.pan .lastLapMs, d, i⟩) (qreports : Q .reports) (qtracker : Q .tracker) :
    ∃ t, execTrackerClearTimer d s = .next t ∧ Reach P Q s0 t := by
  unfold execTrackerClearTimer
  repeat' with_reducible first | assumption | apply finishIf_reach | apply State.set_reach | apply State.trackClear_reach | (intros; show P _ = true; first | exact hsum _ rfl | (clear hsum; apply_assumption)) | split | dsimp only | intro _

theorem State.retireInPlace_reach {d : Nat} {r : RetireReq} (hs : Reach P Q s0 s) (h1 : ∀ i, P ⟨.pan .nRetire, d, i⟩) (h2 : ∀ i, P ⟨.pan .records, d, i⟩) (h3 : ∀ i, P ⟨.win .panRetire, d, i⟩) (h4 : ∀ i, P ⟨.sys .freeCount, 0, i⟩) (h5 : ∀ i, P ⟨.pan .out, d, i⟩) :
    Reach P Q s0 (State.retireInPlace s d r) := by
  unfold State.retireInPlace
  repeat' with_reducible first | assumption | apply State.retireRecord_reach | apply State.used_reach | apply State.set_reach | (intros; show P _ = true; apply_assumption) | split | dsimp only | intro _

theorem execPteWalk_reach {d : Nat} {r : Nat} {v : Nat} {pUe : Bool} {mUe : Bool} {bad : Bool} {u : Sys2Proof.PanUse} (hs : Reach P Q s0 s) (hsum : ∀ k, k.cell.summary → P k) (h11 : ∀ i, P ⟨.sticky .qsQFullDrop, d, i⟩) (h12 : ∀ i, P ⟨.qs .gapPend, d, i⟩) (h13 : ∀ i, P ⟨.qs .nQDropFull, d, i⟩) (h14 : ∀ i, P ⟨.pan .nQLossPkts, d, i⟩) (h15 : ∀ i, P ⟨.sticky .qsBrakeOn, d, i⟩) (h16 : ∀ i, P ⟨.live .qsBrakeOn, d, i⟩) (h17 : ∀ i, P ⟨.qs .brake, d, i⟩) (h18 : ∀ i, P ⟨.qs .qXoff, d, i⟩) (h19 : ∀ i, P ⟨.hl .pXoff, d, i⟩) (h20 : ∀ i, P ⟨.qs .dieOcc, d, i⟩) (h21 : ∀ i, P ⟨.qs .occWords, d, i⟩) (h22 : ∀ i, P ⟨.qs .rd, d, i⟩) (h23 : ∀ i, P ⟨.trc .nLost, d, i⟩) (h24 : ∀ i, P ⟨.win .trcBuf, d, i⟩) (h25 : ∀ i, P ⟨.trc .count, d, i⟩) (h26 : ∀ i, P ⟨.trc .trcNext, d, i⟩) (h27 : ∀ i, P ⟨.sticky .trcFull, d, i⟩) (h28 : ∀ i, P ⟨.live .trcFull, d, i⟩) (h29 : ∀ i, P ⟨.sticky .telOvf, 0, i⟩) (h30 : ∀ i, P ⟨.tel .dropped, 0, i⟩) (h31 : ∀ i, P ⟨.tel .nDrop, 0, i⟩) (h32 : ∀ i, P ⟨.tel .written, 0, i⟩) (h33 : ∀ i, P ⟨.qs .nCGapTx, d, i⟩) (h34 : ∀ i, P ⟨.ct .gapTx, d, i⟩) (h35 : ∀ i, P ⟨.pan .nQFlush, d, i⟩) (h36 : ∀ i, P ⟨.sticky .panWalkFault, d, i⟩) (h37 : ∀ i, P ⟨.live .panWalkFault, d, i⟩) (h38 : ∀ i, P ⟨.pan .rebuild, d, i⟩) (h39 : ∀ i, P ⟨.pan .nWalkFault, d, i⟩) (h40 : ∀ i, P ⟨.pan .nWalkRepair, d, i⟩) (qreports : Q .reports) (qrings : Q .rings) (qtelOut : Q .telOut) :
    ∃ t, execPteWalk d r v pUe mUe bad u s = .next t ∧ Reach P Q s0 t := by
  unfold execPteWalk
  repeat' with_reducible first | assumption | apply finishIf_reach | apply State.usageLost_reach | apply State.raise_reach | apply State.set_reach | apply State.inc_reach | apply State.incIf_reach | (intros; show P _ = true; first | exact hsum _ rfl | (clear hsum; apply_assumption)) | split | dsimp only | intro _

theorem State.migrateBegin_reach {d : Nat} {n : Nat} {r : RetireReq} (hs : Reach P Q s0 s) (h1 : ∀ i, P ⟨.crr .state, d, i⟩) (h2 : ∀ i, P ⟨.pan .migCause, d, i⟩) (h3 : ∀ i, P ⟨.pan .migGran, d, i⟩) (h4 : ∀ i, P ⟨.pan .migNew, d, i⟩) (h5 : ∀ i, P ⟨.pan .migHome, d, i⟩) (h6 : ∀ i, P ⟨.pan .taken, d, i⟩) (h7 : ∀ i, P ⟨.pan .given, d, i⟩) (h8 : ∀ i, P ⟨.sticky .panSpareEmpty, d, i⟩) (h9 : ∀ i, P ⟨.live .panSpareEmpty, d, i⟩) (h10 : ∀ i, P ⟨.sticky .panSpareLow, d, i⟩) (h11 : ∀ i, P ⟨.live .panSpareLow, d, i⟩) (h12 : ∀ i, P ⟨.pan .sparesLeft, d, i⟩) (h13 : ∀ i, P ⟨.pan .migDirty, d, i⟩) (qreports : Q .reports) :
    Reach P Q s0 (State.migrateBegin s d n r) := by
  unfold State.migrateBegin
  refine State.set_reach (State.set_reach (State.set_reach (State.set_reach (State.set_reach (State.clear_reach ?_ ?_) (h5 _)) (h4 _)) (h3 _)) (h2 _)) (h1 _)
  · apply State.takeSpare_reach hs <;> first | assumption | skip
  · rintro ⟨c, e, i⟩ hk
    simp only [Bool.and_eq_true, decide_eq_true_eq] at hk
    obtain ⟨rfl, rfl⟩ := hk
    exact h13 _

theorem execPageMigrationStart_reach {d : Nat} (hs : Reach P Q s0 s) (hsum : ∀ k, k.cell.summary → P k) (h11 : ∀ i, P ⟨.sticky .panMigUrgent, d, i⟩) (h12 : ∀ i, P ⟨.live .panMigUrgent, d, i⟩) (h13 : ∀ i, P ⟨.pan .retirePend, d, i⟩) (h14 : ∀ i, P ⟨.crr .state, d, i⟩) (h15 : ∀ i, P ⟨.pan .migCause, d, i⟩) (h16 : ∀ i, P ⟨.pan .migGran, d, i⟩) (h17 : ∀ i, P ⟨.pan .migNew, d, i⟩) (h18 : ∀ i, P ⟨.pan .migHome, d, i⟩) (h19 : ∀ i, P ⟨.pan .taken, d, i⟩) (h20 : ∀ i, P ⟨.pan .given, d, i⟩) (h21 : ∀ i, P ⟨.sticky .panSpareEmpty, d, i⟩) (h22 : ∀ i, P ⟨.live .panSpareEmpty, d, i⟩) (h23 : ∀ i, P ⟨.sticky .panSpareLow, d, i⟩) (h24 : ∀ i, P ⟨.live .panSpareLow, d, i⟩) (h25 : ∀ i, P ⟨.pan .sparesLeft, d, i⟩) (h26 : ∀ i, P ⟨.pan .migDirty, d, i⟩) (h27 : ∀ i, P ⟨.pan .nRetire, d, i⟩) (h28 : ∀ i, P ⟨.pan .records, d, i⟩) (h29 : ∀ i, P ⟨.win .panRetire, d, i⟩) (h30 : ∀ i, P ⟨.sys .freeCount, 0, i⟩) (h31 : ∀ i, P ⟨.pan .out, d, i⟩) (qreports : Q .reports) (qretireQ : Q .retireQ) :
    ∃ t, execPageMigrationStart d s = .next t ∧ Reach P Q s0 t := by
  unfold execPageMigrationStart
  repeat' with_reducible first | assumption | apply finishIf_reach | apply State.retireFollow_reach | apply State.migrateBegin_reach | apply State.retireInPlace_reach | (intros; show P _ = true; first | exact hsum _ rfl | (clear hsum; apply_assumption)) | split | dsimp only | intro _ | apply State.retireQ_reach

theorem State.repairRow_reach {d : Nat} {e : Nat} {r : Sys2Proof.RowRepair} (hs : Reach P Q s0 s) (h1 : ∀ i, P ⟨.pan .rowPages, d, i⟩) (h2 : ∀ i, P ⟨.pan .pprLeft, d, i⟩) (h3 : ∀ i, P ⟨.pan .appliedNew, d, i⟩) (h4 : ∀ i, P ⟨.pan .pprHeld, d, i⟩) (h5 : ∀ i, P ⟨.win .panRepair, d, i⟩) (h6 : ∀ i, P ⟨.pan .taken, d, i⟩) (h7 : ∀ i, P ⟨.pan .given, d, i⟩) (h8 : ∀ i, P ⟨.sticky .panSpareEmpty, d, i⟩) (h9 : ∀ i, P ⟨.live .panSpareEmpty, d, i⟩) (h10 : ∀ i, P ⟨.sticky .panSpareLow, d, i⟩) (h11 : ∀ i, P ⟨.live .panSpareLow, d, i⟩) (h12 : ∀ i, P ⟨.pan .sparesLeft, d, i⟩) (qreports : Q .reports) :
    Reach P Q s0 (State.repairRow s d e r) := by
  unfold State.repairRow
  repeat' with_reducible first | assumption | apply State.set_reach | apply State.setWin_reach | apply State.each_reach | apply State.giveSpare_reach | (intros; show P _ = true; apply_assumption) | split | dsimp only | intro _

theorem execApplyRepair_reach {d : Nat} {rows : List Sys2Proof.RowRepair} (hs : Reach P Q s0 s) (hsum : ∀ k, k.cell.summary → P k) (h11 : ∀ i, P ⟨.pan .rowPages, d, i⟩) (h12 : ∀ i, P ⟨.pan .pprLeft, d, i⟩) (h13 : ∀ i, P ⟨.pan .appliedNew, d, i⟩) (h14 : ∀ i, P ⟨.pan .pprHeld, d, i⟩) (h15 : ∀ i, P ⟨.win .panRepair, d, i⟩) (h16 : ∀ i, P ⟨.pan .taken, d, i⟩) (h17 : ∀ i, P ⟨.pan .given, d, i⟩) (h18 : ∀ i, P ⟨.sticky .panSpareEmpty, d, i⟩) (h19 : ∀ i, P ⟨.live .panSpareEmpty, d, i⟩) (h20 : ∀ i, P ⟨.sticky .panSpareLow, d, i⟩) (h21 : ∀ i, P ⟨.live .panSpareLow, d, i⟩) (h22 : ∀ i, P ⟨.pan .sparesLeft, d, i⟩) (h23 : ∀ i, P ⟨.boot .procCalled, 0, i⟩) (h24 : ∀ i, P ⟨.boot .procCode, 0, i⟩) (h25 : ∀ i, P ⟨.boot .procDone, 0, i⟩) (qreports : Q .reports) :
    ∃ t, execApplyRepair d rows s = .next t ∧ Reach P Q s0 t := by
  unfold execApplyRepair
  repeat' with_reducible first | assumption | apply finishIf_reach | apply State.each_reach | apply State.repairRow_reach | apply State.procEnd_reach | (intros; show P _ = true; first | exact hsum _ rfl | (clear hsum; apply_assumption)) | split | dsimp only | intro _

theorem execPannierInit_reach {d : Nat} {train : Bool} {geometry : Bool} {map : Bool} {key : Bool} {faults : List (Nat × Nat)} (hs : Reach P Q s0 s) (hsum : ∀ k, k.cell.summary → P k) (h11 : ∀ i, P ⟨.sticky .panDown, d, i⟩) (h12 : ∀ i, P ⟨.live .panDown, d, i⟩) (h13 : ∀ i, P ⟨.pan .state, d, i⟩) (h14 : ∀ i, P ⟨.live .panWalkFault, d, i⟩) (h15 : ∀ i, P ⟨.sticky .panMigUrgent, d, i⟩) (h16 : ∀ i, P ⟨.live .panMigUrgent, d, i⟩) (h17 : ∀ i, P ⟨.pan .retirePend, d, i⟩) (h18 : ∀ i, P ⟨.sticky .panSpareEmpty, d, i⟩) (h19 : ∀ i, P ⟨.live .panSpareEmpty, d, i⟩) (h20 : ∀ i, P ⟨.sticky .panSpareLow, d, i⟩) (h21 : ∀ i, P ⟨.live .panSpareLow, d, i⟩) (h22 : ∀ i, P ⟨.pan .sparesLeft, d, i⟩) (h23 : ∀ i, P ⟨.pan .taken, d, i⟩) (h24 : ∀ i, P ⟨.pan .given, d, i⟩) (h25 : ∀ i, P ⟨.pan .mapTo, d, i⟩) (h26 : ∀ i, P ⟨.pan .homeOf, d, i⟩) (h27 : ∀ i, P ⟨.pan .out, d, i⟩) (h28 : ∀ i, P ⟨.pan .rebuild, d, i⟩) (h29 : ∀ i, P ⟨.pan .poison, d, i⟩) (h30 : ∀ i, P ⟨.pan .wbPend, d, i⟩) (h31 : ∀ i, P ⟨.pan .migHome, d, i⟩) (h32 : ∀ i, P ⟨.pan .migDirty, d, i⟩) (h33 : ∀ i, P ⟨.pan .rowPages, d, i⟩) (h34 : ∀ i, P ⟨.pan .records, d, i⟩) (h35 : ∀ i, P ⟨.win .panRetire, d, i⟩) (h36 : ∀ i, P ⟨.win .panRepair, d, i⟩) (h37 : ∀ i, P ⟨.sbg .drbgCount, 0, i⟩) (h38 : ∀ i, P ⟨.sbg .nDrbgReseed, 0, i⟩) (h39 : ∀ i, P ⟨.pan .pprLeft, d, i⟩) (h40 : ∀ i, P ⟨.pan .appliedNew, d, i⟩) (h41 : ∀ i, P ⟨.pan .fuseFree, d, i⟩) (h42 : ∀ i, P ⟨.boot .procCalled, 0, i⟩) (h43 : ∀ i, P ⟨.boot .procCode, 0, i⟩) (h44 : ∀ i, P ⟨.boot .procDone, 0, i⟩) (h45 : ∀ i, P ⟨.pan .xtsReady, d, i⟩) (h46 : ∀ i, P ⟨.pan .nCeData, d, i⟩) (h47 : ∀ i, P ⟨.pan .nCeCheck, d, i⟩) (h48 : ∀ i, P ⟨.sticky .panUe, d, i⟩) (h49 : ∀ i, P ⟨.pan .nUe, d, i⟩) (h50 : ∀ i, P ⟨.sticky .panHardFault, d, i⟩) (h51 : ∀ i, P ⟨.pan .nHard, d, i⟩) (h52 : ∀ i, P ⟨.pan .nRetire, d, i⟩) (h53 : ∀ i, P ⟨.sys .freeCount, 0, i⟩) (qreports : Q .reports) (qtracker : Q .tracker) (qretireQ : Q .retireQ) (qmerge : Q .merge) :
    ∃ t, execPannierInit d train geometry map key faults s = .next t ∧ Reach P Q s0 t := by
  unfold execPannierInit
  repeat' with_reducible first | assumption | apply finishIf_reach | apply State.pannierInit_reach | (intros; show P _ = true; first | exact hsum _ rfl | (clear hsum; apply_assumption)) | split | dsimp only | intro _

theorem execMergeFlush_reach {d : Nat} {hg : Nat} {oldUe : Bool} {cipherBad : Bool} (hs : Reach P Q s0 s) (hsum : ∀ k, k.cell.summary → P k) (h11 : ∀ d i, P ⟨.pan .poison, d, i⟩) (h12 : ∀ d i, P ⟨.pan .migDirty, d, i⟩) (h13 : ∀ d i, P ⟨.pan .wbPend, d, i⟩) (h14 : ∀ d i, P ⟨.pan .nMergeRmw, d, i⟩) (h15 : ∀ d i, P ⟨.pan .taken, d, i⟩) (h16 : ∀ d i, P ⟨.pan .given, d, i⟩) (h17 : ∀ d i, P ⟨.sticky .panSpareEmpty, d, i⟩) (h18 : ∀ d i, P ⟨.live .panSpareEmpty, d, i⟩) (h19 : ∀ d i, P ⟨.sticky .panSpareLow, d, i⟩) (h20 : ∀ d i, P ⟨.live .panSpareLow, d, i⟩) (h21 : ∀ d i, P ⟨.pan .sparesLeft, d, i⟩) (h22 : ∀ d i, P ⟨.sticky .panRetireDrop, d, i⟩) (h23 : ∀ d i, P ⟨.pan .nRetireDrop, d, i⟩) (h24 : ∀ d i, P ⟨.sticky .panMigUrgent, d, i⟩) (h25 : ∀ d i, P ⟨.live .panMigUrgent, d, i⟩) (h26 : ∀ d i, P ⟨.pan .retirePend, d, i⟩) (h27 : ∀ d i, P ⟨.sticky .panHardFault, d, i⟩) (h28 : ∀ d i, P ⟨.pan .nHard, d, i⟩) (h29 : ∀ d i, P ⟨.sticky .panUe, d, i⟩) (h30 : ∀ d i, P ⟨.pan .nUe, d, i⟩) (h31 : ∀ d i, P ⟨.pan .nXtsFault, d, i⟩) (h32 : ∀ d i, P ⟨.pan .nPoisonWr, d, i⟩) (qreports : Q .reports) (qmerge : Q .merge) (qretireQ : Q .retireQ) :
    ∃ t, execMergeFlush d hg oldUe cipherBad s = .next t ∧ Reach P Q s0 t := by
  unfold execMergeFlush
  repeat' with_reducible first | assumption | apply finishIf_reach | apply State.mergeFlush_reach | (intros; show P _ = true; first | exact hsum _ rfl | (clear hsum; apply_assumption)) | split | dsimp only | intro _

end Sys2Proof.Machine
end

