-- ==== Sys2Proof/Laws/MovesSaddlebag.lean ====
section
/-!
SUPPORT. What the operations of Machine/Saddlebag.lean may change, one lemma each (Laws/Reach.lean).
-/
namespace Sys2Proof.Machine

set_option linter.unusedTactic false
set_option linter.unreachableTactic false

variable {P : Key → Bool} {Q : Part → Bool} {s0 s : State}

theorem State.kchSend_reach {k : Nat} {type : Nat} (hs : Reach P Q s0 s) (h1 : ∀ i, P ⟨.sbg .spSent, 0, i⟩) (h2 : ∀ i, P ⟨.sbg .spSeqTx, 0, i⟩) (h3 : ∀ i, P ⟨.sbg .spTxType, 0, i⟩) :
    Reach P Q s0 (State.kchSend s k type) := by
  unfold State.kchSend
  repeat' with_reducible first | assumption | apply State.inc_reach | apply State.set_reach | (intros; show P _ = true; apply_assumption) | split | dsimp only | intro _

theorem State.holdFollow_reach (hs : Reach P Q s0 s) (h1 : ∀ i, P ⟨.sticky .sbgCryptoHoldAny, 0, i⟩) (h2 : ∀ i, P ⟨.live .sbgCryptoHoldAny, 0, i⟩) (qreports : Q .reports) :
    Reach P Q s0 (State.holdFollow s) := by
  unfold State.holdFollow
  repeat' with_reducible first | assumption | apply State.cond_reach | (intros; show P _ = true; apply_assumption) | split | dsimp only | intro _

theorem State.txSet_reach {d : Nat} {i : Nat} {v : Nat} (hs : Reach P Q s0 s) (h1 : ∀ i, P ⟨.sticky .sbgCryptoHoldAny, 0, i⟩) (h2 : ∀ i, P ⟨.live .sbgCryptoHoldAny, 0, i⟩) (h3 : ∀ i, P ⟨.sticky .cryCryptoHold, d, i⟩) (h4 : ∀ i, P ⟨.live .cryCryptoHold, d, i⟩) (h5 : ∀ i, P ⟨.cry .txState, d, i⟩) (qreports : Q .reports) :
    Reach P Q s0 (State.txSet s d i v) := by
  unfold State.txSet
  repeat' with_reducible first | assumption | apply State.holdFollow_reach | apply State.cond_reach | apply State.set_reach | (intros; show P _ = true; apply_assumption) | split | dsimp only | intro _

theorem State.rekeyStart_reach {d : Nat} {i : Nat} (hs : Reach P Q s0 s) (h1 : ∀ i, P ⟨.cry .txRetry, d, i⟩) (h2 : ∀ i, P ⟨.cry .txNext, d, i⟩) (h3 : ∀ i, P ⟨.cry .txNextSms, d, i⟩) (h4 : ∀ i, P ⟨.cry .txNextEpoch, d, i⟩) (h5 : ∀ i, P ⟨.cry .txLast, d, i⟩) (h6 : ∀ i, P ⟨.cry .txSms, d, i⟩) (h7 : ∀ i, P ⟨.sbg .spSent, 0, i⟩) (h8 : ∀ i, P ⟨.sbg .spSeqTx, 0, i⟩) (h9 : ∀ i, P ⟨.sbg .spTxType, 0, i⟩) (h10 : ∀ i, P ⟨.cry .flitFailed, d, i⟩) (h11 : ∀ i, P ⟨.sticky .sbgCryptoHoldAny, 0, i⟩) (h12 : ∀ i, P ⟨.live .sbgCryptoHoldAny, 0, i⟩) (h13 : ∀ i, P ⟨.sticky .cryCryptoHold, d, i⟩) (h14 : ∀ i, P ⟨.live .cryCryptoHold, d, i⟩) (h15 : ∀ i, P ⟨.cry .txState, d, i⟩) (qreports : Q .reports) :
    Reach P Q s0 (State.rekeyStart s d i) := by
  unfold State.rekeyStart
  repeat' with_reducible first | assumption | apply State.set_reach | apply State.kchSend_reach | apply State.when_reach | apply State.txSet_reach | (intros; show P _ = true; apply_assumption) | split | dsimp only | intro _

theorem State.spansFollow_reach (hs : Reach P Q s0 s) (h1 : ∀ i, P ⟨.sbg .spansUp, 0, i⟩) :
    Reach P Q s0 (State.spansFollow s) := by
  unfold State.spansFollow
  repeat' with_reducible first | assumption | apply State.set_reach | (intros; show P _ = true; apply_assumption) | split | dsimp only | intro _

theorem State.spanPut_reach {k : Nat} {lo : Nat} {w : Nat} {v : Nat} (hs : Reach P Q s0 s) (h1 : ∀ i, P ⟨.win .sbgSpan, 0, i⟩) :
    Reach P Q s0 (State.spanPut s k lo w v) := by
  unfold State.spanPut
  repeat' with_reducible first | assumption | apply State.setWin_reach | (intros; show P _ = true; apply_assumption) | split | dsimp only | intro _

theorem State.spanShow_reach {k : Nat} {v : Nat} (hs : Reach P Q s0 s) (h1 : ∀ i, P ⟨.sbg .spansUp, 0, i⟩) (h2 : ∀ i, P ⟨.win .sbgSpan, 0, i⟩) :
    Reach P Q s0 (State.spanShow s k v) := by
  unfold State.spanShow
  repeat' with_reducible first | assumption | apply State.spansFollow_reach | apply State.spanPut_reach | (intros; show P _ = true; apply_assumption) | split | dsimp only | intro _

theorem State.kaFail_reach {k : Nat} {code : Nat} (hs : Reach P Q s0 s) (h1 : ∀ i, P ⟨.boot .procCalled, 0, i⟩) (h2 : ∀ i, P ⟨.boot .procCode, 0, i⟩) (h3 : ∀ i, P ⟨.boot .procDone, 0, i⟩) (h4 : ∀ i, P ⟨.sbg .kaSpan, 0, i⟩) (h5 : ∀ i, P ⟨.sbg .spRetry, 0, i⟩) :
    Reach P Q s0 (State.kaFail s k code) := by
  unfold State.kaFail
  repeat' with_reducible first | assumption | apply State.when_reach | apply State.procEnd_reach | apply State.set_reach | (intros; show P _ = true; apply_assumption) | split | dsimp only | intro _

theorem State.hsFail_reach {k : Nat} {code : Nat} (hs : Reach P Q s0 s) (h1 : ∀ i, P ⟨.sbg .nHsFail, 0, i⟩) (h2 : ∀ i, P ⟨.sbg .spStep, 0, i⟩) (h3 : ∀ i, P ⟨.win .sbgSpan, 0, i⟩) (h4 : ∀ i, P ⟨.sbg .spansUp, 0, i⟩) (h5 : ∀ i, P ⟨.boot .procCalled, 0, i⟩) (h6 : ∀ i, P ⟨.boot .procCode, 0, i⟩) (h7 : ∀ i, P ⟨.boot .procDone, 0, i⟩) (h8 : ∀ i, P ⟨.sbg .kaSpan, 0, i⟩) (h9 : ∀ i, P ⟨.sbg .spRetry, 0, i⟩) :
    Reach P Q s0 (State.hsFail s k code) := by
  unfold State.hsFail
  repeat' with_reducible first | assumption | apply State.inc_reach | apply State.set_reach | apply State.spanPut_reach | apply State.spanShow_reach | apply State.kaFail_reach | apply State.when_reach | (intros; show P _ = true; apply_assumption) | split | dsimp only | intro _

theorem State.hsStart_reach {k : Nat} (hs : Reach P Q s0 s) (h1 : ∀ i, P ⟨.sbg .spSent, 0, i⟩) (h2 : ∀ i, P ⟨.sbg .spSeqTx, 0, i⟩) (h3 : ∀ i, P ⟨.sbg .spTxType, 0, i⟩) (h4 : ∀ i, P ⟨.sbg .spansUp, 0, i⟩) (h5 : ∀ i, P ⟨.win .sbgSpan, 0, i⟩) (h6 : ∀ i, P ⟨.sbg .spStep, 0, i⟩) (h7 : ∀ i, P ⟨.sbg .drbgCount, 0, i⟩) (h8 : ∀ i, P ⟨.sbg .nDrbgReseed, 0, i⟩) (h9 : ∀ i, P ⟨.sbg .nHsFail, 0, i⟩) (h10 : ∀ i, P ⟨.boot .procCalled, 0, i⟩) (h11 : ∀ i, P ⟨.boot .procCode, 0, i⟩) (h12 : ∀ i, P ⟨.boot .procDone, 0, i⟩) (h13 : ∀ i, P ⟨.sbg .kaSpan, 0, i⟩) (h14 : ∀ i, P ⟨.sbg .spRetry, 0, i⟩) :
    Reach P Q s0 (State.hsStart s k) := by
  unfold State.hsStart
  repeat' with_reducible first | assumption | apply State.kchSend_reach | apply State.spanShow_reach | apply State.set_reach | apply State.drbg_reach | apply State.hsFail_reach | (intros; show P _ = true; apply_assumption) | split | dsimp only | intro _

theorem State.wrapNonce_reach {d : Nat} (hs : Reach P Q s0 s) (h1 : ∀ i, P ⟨.sbg .wrapCtr, 0, i⟩) (h2 : ∀ i, P ⟨.sbg .kwOk, 0, i⟩) (h3 : ∀ i, P ⟨.sbg .drbgCount, 0, i⟩) (h4 : ∀ i, P ⟨.sbg .nDrbgReseed, 0, i⟩) :
    Reach P Q s0 (State.wrapNonce s d) := by
  unfold State.wrapNonce
  repeat' with_reducible first | assumption | apply State.set_reach | apply State.drbg_reach | (intros; show P _ = true; apply_assumption) | split | dsimp only | intro _

theorem State.flitLost_reach {d : Nat} {x2 : Sys2Proof.KeySlot} (hs : Reach P Q s0 s) (h1 : ∀ i, P ⟨.sbg .xtsPend, 0, i⟩) (h2 : ∀ i, P ⟨.cry .restore, d, i⟩) (h3 : ∀ i, P ⟨.cry .txNext, d, i⟩) (h4 : ∀ i, P ⟨.sticky .sbgCryptoHoldAny, 0, i⟩) (h5 : ∀ i, P ⟨.live .sbgCryptoHoldAny, 0, i⟩) (h6 : ∀ i, P ⟨.sticky .cryCryptoHold, d, i⟩) (h7 : ∀ i, P ⟨.live .cryCryptoHold, d, i⟩) (h8 : ∀ i, P ⟨.cry .txState, d, i⟩) (h9 : ∀ i, P ⟨.cry .rxNext, d, i⟩) (qreports : Q .reports) :
    Reach P Q s0 (State.flitLost s d x2) := by
  unfold State.flitLost
  repeat' with_reducible first | assumption | apply State.set_reach | apply State.when_reach | apply State.txSet_reach | (intros; show P _ = true; apply_assumption) | split | dsimp only | intro _

theorem State.flitFailSet_reach {d : Nat} {x2 : Sys2Proof.KeySlot} (hs : Reach P Q s0 s) (h1 : ∀ i, P ⟨.sbg .xtsRetry, 0, i⟩) (h2 : ∀ i, P ⟨.cry .flitFailed, d, i⟩) :
    Reach P Q s0 (State.flitFailSet s d x2) := by
  unfold State.flitFailSet
  repeat' with_reducible first | assumption | apply State.set_reach | (intros; show P _ = true; apply_assumption) | split | dsimp only | intro _

theorem State.rxInstall_reach {d : Nat} {i : Nat} (hs : Reach P Q s0 s) (h1 : ∀ i, P ⟨.cry .rxState, d, i⟩) (h2 : ∀ i, P ⟨.cry .rxNext, d, i⟩) :
    Reach P Q s0 (State.rxInstall s d i) := by
  unfold State.rxInstall
  repeat' with_reducible first | assumption | apply State.set_reach | (intros; show P _ = true; apply_assumption) | split | dsimp only | intro _

theorem State.rxNextKey_reach {sms : Nat} {e : Sys2Proof.KeyEntry} (hs : Reach P Q s0 s) (h1 : ∀ d i, P ⟨.cry .flitFailed, d, i⟩) (h2 : ∀ d i, P ⟨.cry .rxNext, d, i⟩) (h3 : ∀ d i, P ⟨.cry .rxNextEpoch, d, i⟩) (h4 : ∀ d i, P ⟨.cry .rxLast, d, i⟩) (h5 : ∀ d i, P ⟨.cry .rxSms, d, i⟩) (h6 : ∀ d i, P ⟨.cry .rxState, d, i⟩) :
    Reach P Q s0 (State.rxNextKey s sms e) := by
  unfold State.rxNextKey
  repeat' with_reducible first | assumption | apply State.set_reach | apply State.rxInstall_reach | (intros; show P _ = true; apply_assumption) | split | dsimp only | intro _

theorem execSpanRekeyTimer_reach {k : Nat} (hs : Reach P Q s0 s) (hsum : ∀ k, k.cell.summary → P k) (h11 : ∀ i, P ⟨.sbg .spSent, 0, i⟩) (h12 : ∀ i, P ⟨.sbg .spSeqTx, 0, i⟩) (h13 : ∀ i, P ⟨.sbg .spTxType, 0, i⟩) (h14 : ∀ i, P ⟨.sbg .spansUp, 0, i⟩) (h15 : ∀ i, P ⟨.win .sbgSpan, 0, i⟩) (h16 : ∀ i, P ⟨.sbg .spStep, 0, i⟩) (h17 : ∀ i, P ⟨.sbg .drbgCount, 0, i⟩) (h18 : ∀ i, P ⟨.sbg .nDrbgReseed, 0, i⟩) (h19 : ∀ i, P ⟨.sbg .nHsFail, 0, i⟩) (h20 : ∀ i, P ⟨.boot .procCalled, 0, i⟩) (h21 : ∀ i, P ⟨.boot .procCode, 0, i⟩) (h22 : ∀ i, P ⟨.boot .procDone, 0, i⟩) (h23 : ∀ i, P ⟨.sbg .kaSpan, 0, i⟩) (h24 : ∀ i, P ⟨.sbg .spRetry, 0, i⟩) (qreports : Q .reports) :
    ∃ t, execSpanRekeyTimer k s = .next t ∧ Reach P Q s0 t := by
  unfold execSpanRekeyTimer
  repeat' with_reducible first | assumption | apply finishIf_reach | apply State.hsStart_reach | (intros; show P _ = true; first | exact hsum _ rfl | (clear hsum; apply_assumption)) | split | dsimp only | intro _

theorem State.oldSms_reach {k : Nat} (hs : Reach P Q s0 s) (h1 : ∀ i, P ⟨.sbg .spOld, 0, i⟩) :
    Reach P Q s0 (State.oldSms s k) := by
  unfold State.oldSms
  repeat' with_reducible first | assumption | apply State.setB_reach | (intros; show P _ = true; apply_assumption) | split | dsimp only | intro _

theorem State.kchAgain_reach {k : Nat} (hs : Reach P Q s0 s) (h1 : ∀ i, P ⟨.sbg .spSent, 0, i⟩) :
    Reach P Q s0 (State.kchAgain s k) := by
  unfold State.kchAgain
  repeat' with_reducible first | assumption | apply State.inc_reach | (intros; show P _ = true; apply_assumption) | split | dsimp only | intro _

theorem execKchResendTimer_reach {k : Nat} (hs : Reach P Q s0 s) (hsum : ∀ k, k.cell.summary → P k) (h11 : ∀ i, P ⟨.sbg .spSent, 0, i⟩) (qreports : Q .reports) :
    ∃ t, execKchResendTimer k s = .next t ∧ Reach P Q s0 t := by
  unfold execKchResendTimer
  repeat' with_reducible first | assumption | apply finishIf_reach | apply State.kchAgain_reach | (intros; show P _ = true; first | exact hsum _ rfl | (clear hsum; apply_assumption)) | split | dsimp only | intro _

theorem execHandshakeRetryTimer_reach {k : Nat} (hs : Reach P Q s0 s) (hsum : ∀ k, k.cell.summary → P k) (h11 : ∀ i, P ⟨.sbg .spSent, 0, i⟩) (h12 : ∀ i, P ⟨.sbg .spSeqTx, 0, i⟩) (h13 : ∀ i, P ⟨.sbg .spTxType, 0, i⟩) (h14 : ∀ i, P ⟨.sbg .spansUp, 0, i⟩) (h15 : ∀ i, P ⟨.win .sbgSpan, 0, i⟩) (h16 : ∀ i, P ⟨.sbg .spStep, 0, i⟩) (h17 : ∀ i, P ⟨.sbg .drbgCount, 0, i⟩) (h18 : ∀ i, P ⟨.sbg .nDrbgReseed, 0, i⟩) (h19 : ∀ i, P ⟨.sbg .nHsFail, 0, i⟩) (h20 : ∀ i, P ⟨.boot .procCalled, 0, i⟩) (h21 : ∀ i, P ⟨.boot .procCode, 0, i⟩) (h22 : ∀ i, P ⟨.boot .procDone, 0, i⟩) (h23 : ∀ i, P ⟨.sbg .kaSpan, 0, i⟩) (h24 : ∀ i, P ⟨.sbg .spRetry, 0, i⟩) (qreports : Q .reports) :
    ∃ t, execHandshakeRetryTimer k s = .next t ∧ Reach P Q s0 t := by
  unfold execHandshakeRetryTimer
  repeat' with_reducible first | assumption | apply finishIf_reach | apply State.hsStart_reach | (intros; show P _ = true; first | exact hsum _ rfl | (clear hsum; apply_assumption)) | split | dsimp only | intro _

theorem execEntropyRetest_reach {pass : Bool} (hs : Reach P Q s0 s) (hsum : ∀ k, k.cell.summary → P k) (h11 : ∀ i, P ⟨.live .sbgEntropyFail, 0, i⟩) (h12 : ∀ i, P ⟨.sbg .rngOk, 0, i⟩) (qreports : Q .reports) :
    ∃ t, execEntropyRetest pass s = .next t ∧ Reach P Q s0 t := by
  unfold execEntropyRetest
  repeat' with_reducible first | assumption | apply finishIf_reach | apply State.lower_reach | apply State.set_reach | (intros; show P _ = true; first | exact hsum _ rfl | (clear hsum; apply_assumption)) | split | dsimp only | intro _

theorem execRekeyTimer_reach {d : Nat} {i : Nat} (hs : Reach P Q s0 s) (hsum : ∀ k, k.cell.summary → P k) (h11 : ∀ i, P ⟨.cry .txRetry, d, i⟩) (h12 : ∀ i, P ⟨.cry .txNext, d, i⟩) (h13 : ∀ i, P ⟨.cry .txNextSms, d, i⟩) (h14 : ∀ i, P ⟨.cry .txNextEpoch, d, i⟩) (h15 : ∀ i, P ⟨.cry .txLast, d, i⟩) (h16 : ∀ i, P ⟨.cry .txSms, d, i⟩) (h17 : ∀ i, P ⟨.sbg .spSent, 0, i⟩) (h18 : ∀ i, P ⟨.sbg .spSeqTx, 0, i⟩) (h19 : ∀ i, P ⟨.sbg .spTxType, 0, i⟩) (h20 : ∀ i, P ⟨.cry .flitFailed, d, i⟩) (h21 : ∀ i, P ⟨.sticky .sbgCryptoHoldAny, 0, i⟩) (h22 : ∀ i, P ⟨.live .sbgCryptoHoldAny, 0, i⟩) (h23 : ∀ i, P ⟨.sticky .cryCryptoHold, d, i⟩) (h24 : ∀ i, P ⟨.live .cryCryptoHold, d, i⟩) (h25 : ∀ i, P ⟨.cry .txState, d, i⟩) (qreports : Q .reports) :
    ∃ t, execRekeyTimer d i s = .next t ∧ Reach P Q s0 t := by
  unfold execRekeyTimer
  repeat' with_reducible first | assumption | apply finishIf_reach | apply State.rekeyStart_reach | (intros; show P _ = true; first | exact hsum _ rfl | (clear hsum; apply_assumption)) | split | dsimp only | intro _

theorem State.kaCheck_reach {k : Nat} (hs : Reach P Q s0 s) (h1 : ∀ i, P ⟨.boot .procCalled, 0, i⟩) (h2 : ∀ i, P ⟨.boot .procCode, 0, i⟩) (h3 : ∀ i, P ⟨.boot .procDone, 0, i⟩) (h4 : ∀ i, P ⟨.sbg .kaSpan, 0, i⟩) :
    Reach P Q s0 (State.kaCheck s k) := by
  unfold State.kaCheck
  repeat' with_reducible first | assumption | apply State.procEnd_reach | apply State.set_reach | (intros; show P _ = true; apply_assumption) | split | dsimp only | intro _

theorem execRekeyRetryTimer_reach {d : Nat} {i : Nat} (hs : Reach P Q s0 s) (hsum : ∀ k, k.cell.summary → P k) (h11 : ∀ i, P ⟨.cry .txRetry, d, i⟩) (h12 : ∀ i, P ⟨.cry .txNext, d, i⟩) (h13 : ∀ i, P ⟨.cry .txNextSms, d, i⟩) (h14 : ∀ i, P ⟨.cry .txNextEpoch, d, i⟩) (h15 : ∀ i, P ⟨.cry .txLast, d, i⟩) (h16 : ∀ i, P ⟨.cry .txSms, d, i⟩) (h17 : ∀ i, P ⟨.sbg .spSent, 0, i⟩) (h18 : ∀ i, P ⟨.sbg .spSeqTx, 0, i⟩) (h19 : ∀ i, P ⟨.sbg .spTxType, 0, i⟩) (h20 : ∀ i, P ⟨.cry .flitFailed, d, i⟩) (h21 : ∀ i, P ⟨.sticky .sbgCryptoHoldAny, 0, i⟩) (h22 : ∀ i, P ⟨.live .sbgCryptoHoldAny, 0, i⟩) (h23 : ∀ i, P ⟨.sticky .cryCryptoHold, d, i⟩) (h24 : ∀ i, P ⟨.live .cryCryptoHold, d, i⟩) (h25 : ∀ i, P ⟨.cry .txState, d, i⟩) (qreports : Q .reports) :
    ∃ t, execRekeyRetryTimer d i s = .next t ∧ Reach P Q s0 t := by
  unfold execRekeyRetryTimer
  repeat' with_reducible first | assumption | apply finishIf_reach | apply State.rekeyStart_reach | (intros; show P _ = true; first | exact hsum _ rfl | (clear hsum; apply_assumption)) | split | dsimp only | intro _

theorem State.kchTake_reach {h : Sys2Proof.KchHead} {type : Nat} (hs : Reach P Q s0 s) (qkch : Q .kch) :
    ∀ t, State.kchTake s h type = some t → Reach P Q s0 t := by
  intro t ht
  unfold State.kchTake at ht
  rw [Option.map_eq_some_iff] at ht
  obtain ⟨a, _, rfl⟩ := ht
  exact State.kch_reach hs qkch

theorem State.kchDisc_reach (hs : Reach P Q s0 s) (h1 : ∀ i, P ⟨.sbg .nKchDisc, 0, i⟩) :
    Reach P Q s0 (State.kchDisc s) := by
  unfold State.kchDisc
  repeat' with_reducible first | assumption | apply State.inc_reach | (intros; show P _ = true; apply_assumption) | split | dsimp only | intro _

theorem State.kchRecv_reach {h : KchHead} {type : Nat} {f : Nat → State → State} (hs : Reach P Q s0 s)
    (h1 : ∀ i, P ⟨.sbg .nKchDisc, 0, i⟩ = true) (h2 : ∀ i, P ⟨.sticky .sbgKchTagFail, 0, i⟩ = true)
    (h3 : ∀ i, P ⟨.sbg .spSeqRx, 0, i⟩ = true) (qkch : Q .kch = true) (qreports : Q .reports = true)
    (hf : ∀ k x, Reach P Q s0 x → Reach P Q s0 (f k x)) : Reach P Q s0 (State.kchRecv s h type f) := by
  unfold State.kchRecv
  split
  · exact hs
  · rename_i s1 hk
    have h4 := State.kchTake_reach hs qkch s1 hk
    repeat' with_reducible first | assumption | apply State.kchDisc_reach | apply State.event_reach | apply hf | apply State.when_reach | apply State.set_reach | (intros; first | exact h1 _ | exact h2 _ | exact h3 _) | split | intro _

theorem State.hsDone_reach {k : Nat} (hs : Reach P Q s0 s) (h1 : ∀ i, P ⟨.sbg .spStep, 0, i⟩) (h2 : ∀ i, P ⟨.sbg .spOld, 0, i⟩) (h3 : ∀ i, P ⟨.sbg .spHas, 0, i⟩) (h4 : ∀ i, P ⟨.win .sbgSpan, 0, i⟩) (h5 : ∀ i, P ⟨.sbg .nHsOk, 0, i⟩) (h6 : ∀ i, P ⟨.sbg .spRekey, 0, i⟩) (h7 : ∀ i, P ⟨.sbg .spRetry, 0, i⟩) (h8 : ∀ i, P ⟨.sbg .spSeqTx, 0, i⟩) (h9 : ∀ i, P ⟨.sbg .spSeqRx, 0, i⟩) (h10 : ∀ i, P ⟨.sbg .spansUp, 0, i⟩) (h11 : ∀ i, P ⟨.boot .procCalled, 0, i⟩) (h12 : ∀ i, P ⟨.boot .procCode, 0, i⟩) (h13 : ∀ i, P ⟨.boot .procDone, 0, i⟩) (h14 : ∀ i, P ⟨.sbg .kaSpan, 0, i⟩) (h15 : ∀ d i, P ⟨.cry .txRetry, d, i⟩) (h16 : ∀ d i, P ⟨.cry .txNext, d, i⟩) (h17 : ∀ d i, P ⟨.cry .txNextSms, d, i⟩) (h18 : ∀ d i, P ⟨.cry .txNextEpoch, d, i⟩) (h19 : ∀ d i, P ⟨.cry .txLast, d, i⟩) (h20 : ∀ d i, P ⟨.cry .txSms, d, i⟩) (h21 : ∀ i, P ⟨.sbg .spSent, 0, i⟩) (h22 : ∀ i, P ⟨.sbg .spTxType, 0, i⟩) (h23 : ∀ d i, P ⟨.cry .flitFailed, d, i⟩) (h24 : ∀ i, P ⟨.sticky .sbgCryptoHoldAny, 0, i⟩) (h25 : ∀ i, P ⟨.live .sbgCryptoHoldAny, 0, i⟩) (h26 : ∀ d i, P ⟨.sticky .cryCryptoHold, d, i⟩) (h27 : ∀ d i, P ⟨.live .cryCryptoHold, d, i⟩) (h28 : ∀ d i, P ⟨.cry .txState, d, i⟩) (qreports : Q .reports) :
    Reach P Q s0 (State.hsDone s k) := by
  unfold State.hsDone
  repeat' with_reducible first | assumption | apply State.set_reach | apply State.setB_reach | apply State.spanPut_reach | apply State.setWin_reach | apply State.inc_reach | apply State.spanShow_reach | apply State.kaCheck_reach | apply State.each_reach | apply State.rekeyStart_reach | (intros; show P _ = true; apply_assumption) | split | dsimp only | intro _

theorem State.peerFail_reach {k : Nat} {code : Nat} {node : Nat} (hs : Reach P Q s0 s) (h1 : ∀ i, P ⟨.sbg .nHsFail, 0, i⟩) (h2 : ∀ i, P ⟨.sbg .spStep, 0, i⟩) (h3 : ∀ i, P ⟨.win .sbgSpan, 0, i⟩) (h4 : ∀ i, P ⟨.sbg .spansUp, 0, i⟩) (h5 : ∀ i, P ⟨.boot .procCalled, 0, i⟩) (h6 : ∀ i, P ⟨.boot .procCode, 0, i⟩) (h7 : ∀ i, P ⟨.boot .procDone, 0, i⟩) (h8 : ∀ i, P ⟨.sbg .kaSpan, 0, i⟩) (h9 : ∀ i, P ⟨.sbg .spRetry, 0, i⟩) (h10 : ∀ i, P ⟨.sbg .spSent, 0, i⟩) (h11 : ∀ i, P ⟨.sbg .spSeqTx, 0, i⟩) (h12 : ∀ i, P ⟨.sbg .spTxType, 0, i⟩) (h13 : ∀ i, P ⟨.sticky .sbgPeerAuthFail, 0, i⟩) (h14 : ∀ i, P ⟨.sticky .sbgTrustRevokedPeer, 0, i⟩) (qreports : Q .reports) :
    Reach P Q s0 (State.peerFail s k code node) := by
  unfold State.peerFail
  repeat' with_reducible first | assumption | apply State.hsFail_reach | apply State.kchSend_reach | apply State.when_reach | apply State.event_reach | (intros; show P _ = true; apply_assumption) | split | dsimp only | intro _

theorem execKchConfirmRx_reach {h : Sys2Proof.KchHead} {macOk : Bool} (hs : Reach P Q s0 s) (hsum : ∀ k, k.cell.summary → P k) (h11 : ∀ i, P ⟨.sbg .nKchDisc, 0, i⟩) (h12 : ∀ i, P ⟨.sticky .sbgKchTagFail, 0, i⟩) (h13 : ∀ i, P ⟨.sbg .spSeqRx, 0, i⟩) (h14 : ∀ i, P ⟨.sbg .spStep, 0, i⟩) (h15 : ∀ i, P ⟨.sbg .spOld, 0, i⟩) (h16 : ∀ i, P ⟨.sbg .spHas, 0, i⟩) (h17 : ∀ i, P ⟨.win .sbgSpan, 0, i⟩) (h18 : ∀ i, P ⟨.sbg .nHsOk, 0, i⟩) (h19 : ∀ i, P ⟨.sbg .spRekey, 0, i⟩) (h20 : ∀ i, P ⟨.sbg .spRetry, 0, i⟩) (h21 : ∀ i, P ⟨.sbg .spSeqTx, 0, i⟩) (h22 : ∀ i, P ⟨.sbg .spansUp, 0, i⟩) (h23 : ∀ i, P ⟨.boot .procCalled, 0, i⟩) (h24 : ∀ i, P ⟨.boot .procCode, 0, i⟩) (h25 : ∀ i, P ⟨.boot .procDone, 0, i⟩) (h26 : ∀ i, P ⟨.sbg .kaSpan, 0, i⟩) (h27 : ∀ d i, P ⟨.cry .txRetry, d, i⟩) (h28 : ∀ d i, P ⟨.cry .txNext, d, i⟩) (h29 : ∀ d i, P ⟨.cry .txNextSms, d, i⟩) (h30 : ∀ d i, P ⟨.cry .txNextEpoch, d, i⟩) (h31 : ∀ d i, P ⟨.cry .txLast, d, i⟩) (h32 : ∀ d i, P ⟨.cry .txSms, d, i⟩) (h33 : ∀ i, P ⟨.sbg .spSent, 0, i⟩) (h34 : ∀ i, P ⟨.sbg .spTxType, 0, i⟩) (h35 : ∀ d i, P ⟨.cry .flitFailed, d, i⟩) (h36 : ∀ i, P ⟨.sticky .sbgCryptoHoldAny, 0, i⟩) (h37 : ∀ i, P ⟨.live .sbgCryptoHoldAny, 0, i⟩) (h38 : ∀ d i, P ⟨.sticky .cryCryptoHold, d, i⟩) (h39 : ∀ d i, P ⟨.live .cryCryptoHold, d, i⟩) (h40 : ∀ d i, P ⟨.cry .txState, d, i⟩) (h41 : ∀ i, P ⟨.sbg .nHsFail, 0, i⟩) (h42 : ∀ i, P ⟨.sticky .sbgPeerAuthFail, 0, i⟩) (h43 : ∀ i, P ⟨.sticky .sbgTrustRevokedPeer, 0, i⟩) (qreports : Q .reports) (qkch : Q .kch) :
    ∃ t, execKchConfirmRx h macOk s = .next t ∧ Reach P Q s0 t := by
  unfold execKchConfirmRx
  repeat' with_reducible first | assumption | apply finishIf_reach | apply State.kchRecv_reach | apply State.hsDone_reach | apply State.peerFail_reach | (intros; show P _ = true; first | exact hsum _ rfl | (clear hsum; apply_assumption)) | split | dsimp only | intro _

theorem execKeyNextResend_reach {d : Nat} {i : Nat} (hs : Reach P Q s0 s) (hsum : ∀ k, k.cell.summary → P k) (h11 : ∀ i, P ⟨.sbg .spSent, 0, i⟩) (qreports : Q .reports) :
    ∃ t, execKeyNextResend d i s = .next t ∧ Reach P Q s0 t := by
  unfold execKeyNextResend
  repeat' with_reducible first | assumption | apply finishIf_reach | apply State.kchAgain_reach | (intros; show P _ = true; first | exact hsum _ rfl | (clear hsum; apply_assumption)) | split | dsimp only | intro _

theorem State.txRestore_reach {d : Nat} {i : Nat} (hs : Reach P Q s0 s) (h1 : ∀ i, P ⟨.sticky .sbgCryptoHoldAny, 0, i⟩) (h2 : ∀ i, P ⟨.live .sbgCryptoHoldAny, 0, i⟩) (h3 : ∀ i, P ⟨.sticky .cryCryptoHold, d, i⟩) (h4 : ∀ i, P ⟨.live .cryCryptoHold, d, i⟩) (h5 : ∀ i, P ⟨.cry .txState, d, i⟩) (h6 : ∀ i, P ⟨.cry .restore, d, i⟩) (qreports : Q .reports) :
    Reach P Q s0 (State.txRestore s d i) := by
  unfold State.txRestore
  repeat' with_reducible first | assumption | apply State.txSet_reach | apply State.set_reach | (intros; show P _ = true; apply_assumption) | split | dsimp only | intro _

theorem State.rxRestore_reach {d : Nat} {i : Nat} (hs : Reach P Q s0 s) (h1 : ∀ i, P ⟨.cry .rxState, d, i⟩) (h2 : ∀ i, P ⟨.cry .rxHas, d, i⟩) (h3 : ∀ i, P ⟨.cry .restore, d, i⟩) :
    Reach P Q s0 (State.rxRestore s d i) := by
  unfold State.rxRestore
  repeat' with_reducible first | assumption | apply State.set_reach | (intros; show P _ = true; apply_assumption) | split | dsimp only | intro _

theorem State.flitIn_reach {d : Nat} {x2 : Sys2Proof.KeySlot} (hs : Reach P Q s0 s) (h1 : ∀ i, P ⟨.pan .xtsReady, d, i⟩) (h2 : ∀ i, P ⟨.sbg .xtsRetry, 0, i⟩) (h3 : ∀ i, P ⟨.sbg .xtsPend, 0, i⟩) (h4 : ∀ i, P ⟨.sticky .sbgCryptoHoldAny, 0, i⟩) (h5 : ∀ i, P ⟨.live .sbgCryptoHoldAny, 0, i⟩) (h6 : ∀ i, P ⟨.sticky .cryCryptoHold, d, i⟩) (h7 : ∀ i, P ⟨.live .cryCryptoHold, d, i⟩) (h8 : ∀ i, P ⟨.cry .txState, d, i⟩) (h9 : ∀ i, P ⟨.cry .restore, d, i⟩) (h10 : ∀ i, P ⟨.cry .txNext, d, i⟩) (h11 : ∀ i, P ⟨.cry .rxState, d, i⟩) (h12 : ∀ i, P ⟨.cry .rxHas, d, i⟩) (h13 : ∀ i, P ⟨.cry .rxNext, d, i⟩) (qreports : Q .reports) :
    Reach P Q s0 (State.flitIn s d x2) := by
  unfold State.flitIn
  repeat' with_reducible first | assumption | apply State.set_reach | apply State.txRestore_reach | apply State.rxRestore_reach | apply State.rxInstall_reach | (intros; show P _ = true; apply_assumption) | split | dsimp only | intro _

theorem execKeyFlitRx_reach {d : Nat} {slot : Sys2Proof.KeySlot} {ctr : Nat} {tagOk : Bool} (hs : Reach P Q s0 s) (hsum : ∀ k, k.cell.summary → P k) (h11 : ∀ i, P ⟨.pan .xtsReady, d, i⟩) (h12 : ∀ i, P ⟨.sbg .xtsRetry, 0, i⟩) (h13 : ∀ i, P ⟨.sbg .xtsPend, 0, i⟩) (h14 : ∀ i, P ⟨.sticky .sbgCryptoHoldAny, 0, i⟩) (h15 : ∀ i, P ⟨.live .sbgCryptoHoldAny, 0, i⟩) (h16 : ∀ i, P ⟨.sticky .cryCryptoHold, d, i⟩) (h17 : ∀ i, P ⟨.live .cryCryptoHold, d, i⟩) (h18 : ∀ i, P ⟨.cry .txState, d, i⟩) (h19 : ∀ i, P ⟨.cry .restore, d, i⟩) (h20 : ∀ i, P ⟨.cry .txNext, d, i⟩) (h21 : ∀ i, P ⟨.cry .rxState, d, i⟩) (h22 : ∀ i, P ⟨.cry .rxHas, d, i⟩) (h23 : ∀ i, P ⟨.cry .rxNext, d, i⟩) (h24 : ∀ i, P ⟨.sbg .wrapCtr, 0, i⟩) (h25 : ∀ i, P ⟨.sticky .sbgWrapFail, 0, i⟩) (h26 : ∀ i, P ⟨.sbg .nWrapFail, 0, i⟩) (h27 : ∀ i, P ⟨.cry .flitFailed, d, i⟩) (qreports : Q .reports) :
    ∃ t, execKeyFlitRx d slot ctr tagOk s = .next t ∧ Reach P Q s0 t := by
  unfold execKeyFlitRx
  repeat' with_reducible first | assumption | apply finishIf_reach | apply State.flitIn_reach | apply State.set_reach | apply State.event_reach | apply State.inc_reach | apply State.flitLost_reach | apply State.flitFailSet_reach | (intros; show P _ = true; first | exact hsum _ rfl | (clear hsum; apply_assumption)) | split | dsimp only | intro _

theorem State.keyAgree_reach (hs : Reach P Q s0 s) (h1 : ∀ i, P ⟨.sbg .kaSpan, 0, i⟩) (h2 : ∀ i, P ⟨.win .sbgSpan, 0, i⟩) (h3 : ∀ i, P ⟨.sbg .spSent, 0, i⟩) (h4 : ∀ i, P ⟨.sbg .spSeqTx, 0, i⟩) (h5 : ∀ i, P ⟨.sbg .spTxType, 0, i⟩) (h6 : ∀ i, P ⟨.sbg .spansUp, 0, i⟩) (h7 : ∀ i, P ⟨.sbg .spStep, 0, i⟩) (h8 : ∀ i, P ⟨.sbg .drbgCount, 0, i⟩) (h9 : ∀ i, P ⟨.sbg .nDrbgReseed, 0, i⟩) (h10 : ∀ i, P ⟨.sbg .nHsFail, 0, i⟩) (h11 : ∀ i, P ⟨.boot .procCalled, 0, i⟩) (h12 : ∀ i, P ⟨.boot .procCode, 0, i⟩) (h13 : ∀ i, P ⟨.boot .procDone, 0, i⟩) (h14 : ∀ i, P ⟨.sbg .spRetry, 0, i⟩) :
    Reach P Q s0 (State.keyAgree s) := by
  unfold State.keyAgree
  repeat' with_reducible first | assumption | apply State.set_reach | apply State.spanPut_reach | apply State.hsStart_reach | apply State.spanShow_reach | (intros; show P _ = true; apply_assumption) | split | dsimp only | intro _

theorem execKchReplyRx_reach {h : Sys2Proof.KchHead} {p : Sys2Proof.KchPeer} (hs : Reach P Q s0 s) (hsum : ∀ k, k.cell.summary → P k) (h11 : ∀ i, P ⟨.sbg .nKchDisc, 0, i⟩) (h12 : ∀ i, P ⟨.sticky .sbgKchTagFail, 0, i⟩) (h13 : ∀ i, P ⟨.sbg .spSeqRx, 0, i⟩) (h14 : ∀ i, P ⟨.sbg .spSent, 0, i⟩) (h15 : ∀ i, P ⟨.sbg .spSeqTx, 0, i⟩) (h16 : ∀ i, P ⟨.sbg .spTxType, 0, i⟩) (h17 : ∀ i, P ⟨.sbg .spStep, 0, i⟩) (h18 : ∀ i, P ⟨.sbg .nHsFail, 0, i⟩) (h19 : ∀ i, P ⟨.win .sbgSpan, 0, i⟩) (h20 : ∀ i, P ⟨.sbg .spansUp, 0, i⟩) (h21 : ∀ i, P ⟨.boot .procCalled, 0, i⟩) (h22 : ∀ i, P ⟨.boot .procCode, 0, i⟩) (h23 : ∀ i, P ⟨.boot .procDone, 0, i⟩) (h24 : ∀ i, P ⟨.sbg .kaSpan, 0, i⟩) (h25 : ∀ i, P ⟨.sbg .spRetry, 0, i⟩) (h26 : ∀ i, P ⟨.sticky .sbgPeerAuthFail, 0, i⟩) (h27 : ∀ i, P ⟨.sticky .sbgTrustRevokedPeer, 0, i⟩) (qreports : Q .reports) (qkch : Q .kch) :
    ∃ t, execKchReplyRx h p s = .next t ∧ Reach P Q s0 t := by
  unfold execKchReplyRx
  repeat' with_reducible first | assumption | apply finishIf_reach | apply State.kchRecv_reach | apply State.kchSend_reach | apply State.set_reach | apply State.peerFail_reach | (intros; show P _ = true; first | exact hsum _ rfl | (clear hsum; apply_assumption)) | split | dsimp only | intro _

theorem execKchHelloRx_reach {h : Sys2Proof.KchHead} {fresh : Bool} {formOk : Bool} (hs : Reach P Q s0 s) (hsum : ∀ k, k.cell.summary → P k) (h11 : ∀ i, P ⟨.sbg .nKchDisc, 0, i⟩) (h12 : ∀ i, P ⟨.sticky .sbgKchTagFail, 0, i⟩) (h13 : ∀ i, P ⟨.sbg .spSeqRx, 0, i⟩) (h14 : ∀ i, P ⟨.sbg .spSent, 0, i⟩) (h15 : ∀ i, P ⟨.sbg .nHsFail, 0, i⟩) (h16 : ∀ i, P ⟨.sbg .spStep, 0, i⟩) (h17 : ∀ i, P ⟨.win .sbgSpan, 0, i⟩) (h18 : ∀ i, P ⟨.sbg .spansUp, 0, i⟩) (h19 : ∀ i, P ⟨.boot .procCalled, 0, i⟩) (h20 : ∀ i, P ⟨.boot .procCode, 0, i⟩) (h21 : ∀ i, P ⟨.boot .procDone, 0, i⟩) (h22 : ∀ i, P ⟨.sbg .kaSpan, 0, i⟩) (h23 : ∀ i, P ⟨.sbg .spRetry, 0, i⟩) (h24 : ∀ i, P ⟨.sbg .spSeqTx, 0, i⟩) (h25 : ∀ i, P ⟨.sbg .spTxType, 0, i⟩) (h26 : ∀ i, P ⟨.sbg .drbgCount, 0, i⟩) (h27 : ∀ i, P ⟨.sbg .nDrbgReseed, 0, i⟩) (qreports : Q .reports) (qkch : Q .kch) :
    ∃ t, execKchHelloRx h fresh formOk s = .next t ∧ Reach P Q s0 t := by
  unfold execKchHelloRx
  repeat' with_reducible first | assumption | apply finishIf_reach | apply State.kchRecv_reach | apply State.kchAgain_reach | apply State.hsFail_reach | apply State.kchSend_reach | apply State.spanShow_reach | apply State.set_reach | apply State.drbg_reach | (intros; show P _ = true; first | exact hsum _ rfl | (clear hsum; apply_assumption)) | split | dsimp only | intro _

theorem execKchFragmentRx_reach {h : Sys2Proof.KchHead} {type : Nat} {idx : Nat} {count : Nat} (hs : Reach P Q s0 s) (hsum : ∀ k, k.cell.summary → P k) (qreports : Q .reports) (qkch : Q .kch) :
    ∃ t, execKchFragmentRx h type idx count s = .next t ∧ Reach P Q s0 t := by
  unfold execKchFragmentRx
  repeat' with_reducible first | assumption | apply finishIf_reach | (intros; show P _ = true; first | exact hsum _ rfl | (clear hsum; apply_assumption)) | split | dsimp only | intro _ | apply State.kch_reach

theorem execKchAuthRx_reach {h : Sys2Proof.KchHead} {p : Sys2Proof.KchPeer} (hs : Reach P Q s0 s) (hsum : ∀ k, k.cell.summary → P k) (h11 : ∀ i, P ⟨.sbg .nKchDisc, 0, i⟩) (h12 : ∀ i, P ⟨.sticky .sbgKchTagFail, 0, i⟩) (h13 : ∀ i, P ⟨.sbg .spSeqRx, 0, i⟩) (h14 : ∀ i, P ⟨.sbg .spStep, 0, i⟩) (h15 : ∀ i, P ⟨.sbg .spOld, 0, i⟩) (h16 : ∀ i, P ⟨.sbg .spHas, 0, i⟩) (h17 : ∀ i, P ⟨.win .sbgSpan, 0, i⟩) (h18 : ∀ i, P ⟨.sbg .nHsOk, 0, i⟩) (h19 : ∀ i, P ⟨.sbg .spRekey, 0, i⟩) (h20 : ∀ i, P ⟨.sbg .spRetry, 0, i⟩) (h21 : ∀ i, P ⟨.sbg .spSeqTx, 0, i⟩) (h22 : ∀ i, P ⟨.sbg .spansUp, 0, i⟩) (h23 : ∀ i, P ⟨.boot .procCalled, 0, i⟩) (h24 : ∀ i, P ⟨.boot .procCode, 0, i⟩) (h25 : ∀ i, P ⟨.boot .procDone, 0, i⟩) (h26 : ∀ i, P ⟨.sbg .kaSpan, 0, i⟩) (h27 : ∀ d i, P ⟨.cry .txRetry, d, i⟩) (h28 : ∀ d i, P ⟨.cry .txNext, d, i⟩) (h29 : ∀ d i, P ⟨.cry .txNextSms, d, i⟩) (h30 : ∀ d i, P ⟨.cry .txNextEpoch, d, i⟩) (h31 : ∀ d i, P ⟨.cry .txLast, d, i⟩) (h32 : ∀ d i, P ⟨.cry .txSms, d, i⟩) (h33 : ∀ i, P ⟨.sbg .spSent, 0, i⟩) (h34 : ∀ i, P ⟨.sbg .spTxType, 0, i⟩) (h35 : ∀ d i, P ⟨.cry .flitFailed, d, i⟩) (h36 : ∀ i, P ⟨.sticky .sbgCryptoHoldAny, 0, i⟩) (h37 : ∀ i, P ⟨.live .sbgCryptoHoldAny, 0, i⟩) (h38 : ∀ d i, P ⟨.sticky .cryCryptoHold, d, i⟩) (h39 : ∀ d i, P ⟨.live .cryCryptoHold, d, i⟩) (h40 : ∀ d i, P ⟨.cry .txState, d, i⟩) (h41 : ∀ i, P ⟨.sbg .nHsFail, 0, i⟩) (h42 : ∀ i, P ⟨.sticky .sbgPeerAuthFail, 0, i⟩) (h43 : ∀ i, P ⟨.sticky .sbgTrustRevokedPeer, 0, i⟩) (qreports : Q .reports) (qkch : Q .kch) :
    ∃ t, execKchAuthRx h p s = .next t ∧ Reach P Q s0 t := by
  unfold execKchAuthRx
  repeat' with_reducible first | assumption | apply finishIf_reach | apply State.kchRecv_reach | apply State.hsDone_reach | apply State.kchSend_reach | apply State.peerFail_reach | (intros; show P _ = true; first | exact hsum _ rfl | (clear hsum; apply_assumption)) | split | dsimp only | intro _

theorem execKchKeyNextRx_reach {h : Sys2Proof.KchHead} {sms : Nat} {entries : List Sys2Proof.KeyEntry} (hs : Reach P Q s0 s) (hsum : ∀ k, k.cell.summary → P k) (h11 : ∀ i, P ⟨.sbg .nKchDisc, 0, i⟩) (h12 : ∀ i, P ⟨.sticky .sbgKchTagFail, 0, i⟩) (h13 : ∀ i, P ⟨.sbg .spSeqRx, 0, i⟩) (h14 : ∀ d i, P ⟨.cry .flitFailed, d, i⟩) (h15 : ∀ d i, P ⟨.cry .rxNext, d, i⟩) (h16 : ∀ d i, P ⟨.cry .rxNextEpoch, d, i⟩) (h17 : ∀ d i, P ⟨.cry .rxLast, d, i⟩) (h18 : ∀ d i, P ⟨.cry .rxSms, d, i⟩) (h19 : ∀ d i, P ⟨.cry .rxState, d, i⟩) (h20 : ∀ i, P ⟨.sbg .spSent, 0, i⟩) (h21 : ∀ i, P ⟨.sbg .spSeqTx, 0, i⟩) (h22 : ∀ i, P ⟨.sbg .spTxType, 0, i⟩) (qreports : Q .reports) (qkch : Q .kch) :
    ∃ t, execKchKeyNextRx h sms entries s = .next t ∧ Reach P Q s0 t := by
  unfold execKchKeyNextRx
  repeat' with_reducible first | assumption | apply finishIf_reach | apply State.kchRecv_reach | apply State.each_reach | apply State.rxNextKey_reach | apply State.kchSend_reach | (intros; show P _ = true; first | exact hsum _ rfl | (clear hsum; apply_assumption)) | split | dsimp only | intro _

theorem State.lateFollow_reach {d : Nat} {i : Nat} (hs : Reach P Q s0 s) (h1 : ∀ i, P ⟨.sticky .cryRekeyLate, d, i⟩) (h2 : ∀ i, P ⟨.live .cryRekeyLate, d, i⟩) (qreports : Q .reports) :
    Reach P Q s0 (State.lateFollow s d i) := by
  unfold State.lateFollow
  repeat' with_reducible first | assumption | apply State.cond_reach | (intros; show P _ = true; apply_assumption) | split | dsimp only | intro _

theorem execKchKeyRefuseRx_reach {h : Sys2Proof.KchHead} {entries : List Sys2Proof.KeyEntry} (hs : Reach P Q s0 s) (hsum : ∀ k, k.cell.summary → P k) (h11 : ∀ i, P ⟨.sbg .nKchDisc, 0, i⟩) (h12 : ∀ i, P ⟨.sticky .sbgKchTagFail, 0, i⟩) (h13 : ∀ i, P ⟨.sbg .spSeqRx, 0, i⟩) (h14 : ∀ d i, P ⟨.sticky .cryRekeyLate, d, i⟩) (h15 : ∀ d i, P ⟨.cry .txRetry, d, i⟩) (h16 : ∀ d i, P ⟨.cry .txNext, d, i⟩) (h17 : ∀ i, P ⟨.sticky .sbgCryptoHoldAny, 0, i⟩) (h18 : ∀ i, P ⟨.live .sbgCryptoHoldAny, 0, i⟩) (h19 : ∀ d i, P ⟨.sticky .cryCryptoHold, d, i⟩) (h20 : ∀ d i, P ⟨.live .cryCryptoHold, d, i⟩) (h21 : ∀ d i, P ⟨.cry .txState, d, i⟩) (qreports : Q .reports) (qkch : Q .kch) :
    ∃ t, execKchKeyRefuseRx h entries s = .next t ∧ Reach P Q s0 t := by
  unfold execKchKeyRefuseRx
  repeat' with_reducible first | assumption | apply finishIf_reach | apply State.kchRecv_reach | apply State.each_reach | apply State.event_reach | apply State.when_reach | apply State.set_reach | apply State.txSet_reach | (intros; show P _ = true; first | exact hsum _ rfl | (clear hsum; apply_assumption)) | split | dsimp only | intro _

theorem execWrapNonceRetry_reach {d : Nat} (hs : Reach P Q s0 s) (hsum : ∀ k, k.cell.summary → P k) (h11 : ∀ i, P ⟨.sbg .wrapCtr, 0, i⟩) (h12 : ∀ i, P ⟨.sbg .kwOk, 0, i⟩) (h13 : ∀ i, P ⟨.sbg .drbgCount, 0, i⟩) (h14 : ∀ i, P ⟨.sbg .nDrbgReseed, 0, i⟩) (qreports : Q .reports) :
    ∃ t, execWrapNonceRetry d s = .next t ∧ Reach P Q s0 t := by
  unfold execWrapNonceRetry
  repeat' with_reducible first | assumption | apply finishIf_reach | apply State.wrapNonce_reach | (intros; show P _ = true; first | exact hsum _ rfl | (clear hsum; apply_assumption)) | split | dsimp only | intro _

theorem State.txSwitch_reach {d : Nat} {i : Nat} {k : Nat} (hs : Reach P Q s0 s) (h1 : ∀ i, P ⟨.cry .nRekey, d, i⟩) (h2 : ∀ i, P ⟨.cry .txFrames, d, i⟩) (h3 : ∀ i, P ⟨.cry .txNext, d, i⟩) (h4 : ∀ i, P ⟨.cry .txKeySms, d, i⟩) (h5 : ∀ i, P ⟨.cry .txEpoch, d, i⟩) (h6 : ∀ i, P ⟨.sbg .spOld, 0, i⟩) (h7 : ∀ i, P ⟨.sticky .cryRekeyLate, d, i⟩) (h8 : ∀ i, P ⟨.live .cryRekeyLate, d, i⟩) (h9 : ∀ i, P ⟨.sticky .sbgCryptoHoldAny, 0, i⟩) (h10 : ∀ i, P ⟨.live .sbgCryptoHoldAny, 0, i⟩) (h11 : ∀ i, P ⟨.sticky .cryCryptoHold, d, i⟩) (h12 : ∀ i, P ⟨.live .cryCryptoHold, d, i⟩) (h13 : ∀ i, P ⟨.cry .txState, d, i⟩) (qreports : Q .reports) :
    Reach P Q s0 (State.txSwitch s d i k) := by
  unfold State.txSwitch
  repeat' with_reducible first | assumption | apply State.inc_reach | apply State.set_reach | apply State.oldSms_reach | apply State.lateFollow_reach | apply State.txSet_reach | (intros; show P _ = true; apply_assumption) | split | dsimp only | intro _

theorem execKeyAgreeTimeout_reach (hs : Reach P Q s0 s) (hsum : ∀ k, k.cell.summary → P k) (h11 : ∀ i, P ⟨.boot .procCalled, 0, i⟩) (h12 : ∀ i, P ⟨.boot .procCode, 0, i⟩) (h13 : ∀ i, P ⟨.boot .procDone, 0, i⟩) (h14 : ∀ i, P ⟨.sbg .kaSpan, 0, i⟩) (h15 : ∀ i, P ⟨.sbg .spRetry, 0, i⟩) (h16 : ∀ i, P ⟨.sbg .spansUp, 0, i⟩) (h17 : ∀ i, P ⟨.win .sbgSpan, 0, i⟩) (h18 : ∀ i, P ⟨.sbg .nHsFail, 0, i⟩) (h19 : ∀ i, P ⟨.sbg .spStep, 0, i⟩) (qreports : Q .reports) :
    ∃ t, execKeyAgreeTimeout s = .next t ∧ Reach P Q s0 t := by
  unfold execKeyAgreeTimeout
  repeat' with_reducible first | assumption | apply finishIf_reach | apply State.kaFail_reach | apply State.spanShow_reach | apply State.spanPut_reach | apply State.hsFail_reach | (intros; show P _ = true; first | exact hsum _ rfl | (clear hsum; apply_assumption)) | split | dsimp only | intro _

theorem execEntropyHealthFail_reach (hs : Reach P Q s0 s) (hsum : ∀ k, k.cell.summary → P k) (h11 : ∀ i, P ⟨.sticky .sbgEntropyFail, 0, i⟩) (h12 : ∀ i, P ⟨.live .sbgEntropyFail, 0, i⟩) (h13 : ∀ i, P ⟨.sbg .nHealthFail, 0, i⟩) (h14 : ∀ i, P ⟨.sbg .rngOk, 0, i⟩) (qreports : Q .reports) :
    ∃ t, execEntropyHealthFail s = .next t ∧ Reach P Q s0 t := by
  unfold execEntropyHealthFail
  repeat' with_reducible first | assumption | apply finishIf_reach | apply State.raise_reach | apply State.inc_reach | apply State.set_reach | (intros; show P _ = true; first | exact hsum _ rfl | (clear hsum; apply_assumption)) | split | dsimp only | intro _

theorem execKchReassemblyTimeout_reach {on : Nat} {type : Nat} {sender : Nat} {seq : Nat} (hs : Reach P Q s0 s) (hsum : ∀ k, k.cell.summary → P k) (h11 : ∀ i, P ⟨.sbg .nKchDisc, 0, i⟩) (qreports : Q .reports) (qkch : Q .kch) :
    ∃ t, execKchReassemblyTimeout on type sender seq s = .next t ∧ Reach P Q s0 t := by
  unfold execKchReassemblyTimeout
  repeat' with_reducible first | assumption | apply finishIf_reach | apply State.kchDisc_reach | (intros; show P _ = true; first | exact hsum _ rfl | (clear hsum; apply_assumption)) | split | dsimp only | intro _ | apply State.kch_reach

theorem execKchKeyReadyRx_reach {h : Sys2Proof.KchHead} {entries : List Sys2Proof.KeyEntry} (hs : Reach P Q s0 s) (hsum : ∀ k, k.cell.summary → P k) (h11 : ∀ i, P ⟨.sbg .nKchDisc, 0, i⟩) (h12 : ∀ i, P ⟨.sticky .sbgKchTagFail, 0, i⟩) (h13 : ∀ i, P ⟨.sbg .spSeqRx, 0, i⟩) (h14 : ∀ i, P ⟨.boot .procCalled, 0, i⟩) (h15 : ∀ i, P ⟨.boot .procCode, 0, i⟩) (h16 : ∀ i, P ⟨.boot .procDone, 0, i⟩) (h17 : ∀ i, P ⟨.sbg .kaSpan, 0, i⟩) (h18 : ∀ d i, P ⟨.cry .nRekey, d, i⟩) (h19 : ∀ d i, P ⟨.cry .txFrames, d, i⟩) (h20 : ∀ d i, P ⟨.cry .txNext, d, i⟩) (h21 : ∀ d i, P ⟨.cry .txKeySms, d, i⟩) (h22 : ∀ d i, P ⟨.cry .txEpoch, d, i⟩) (h23 : ∀ i, P ⟨.sbg .spOld, 0, i⟩) (h24 : ∀ d i, P ⟨.sticky .cryRekeyLate, d, i⟩) (h25 : ∀ d i, P ⟨.live .cryRekeyLate, d, i⟩) (h26 : ∀ i, P ⟨.sticky .sbgCryptoHoldAny, 0, i⟩) (h27 : ∀ i, P ⟨.live .sbgCryptoHoldAny, 0, i⟩) (h28 : ∀ d i, P ⟨.sticky .cryCryptoHold, d, i⟩) (h29 : ∀ d i, P ⟨.live .cryCryptoHold, d, i⟩) (h30 : ∀ d i, P ⟨.cry .txState, d, i⟩) (qreports : Q .reports) (qkch : Q .kch) :
    ∃ t, execKchKeyReadyRx h entries s = .next t ∧ Reach P Q s0 t := by
  unfold execKchKeyReadyRx
  repeat' with_reducible first | assumption | apply finishIf_reach | apply State.kchRecv_reach | apply State.kaCheck_reach | apply State.each_reach | apply State.txSwitch_reach | (intros; show P _ = true; first | exact hsum _ rfl | (clear hsum; apply_assumption)) | split | dsimp only | intro _

theorem execKeyAgree_reach (hs : Reach P Q s0 s) (hsum : ∀ k, k.cell.summary → P k) (h11 : ∀ i, P ⟨.sbg .kaSpan, 0, i⟩) (h12 : ∀ i, P ⟨.win .sbgSpan, 0, i⟩) (h13 : ∀ i, P ⟨.sbg .spSent, 0, i⟩) (h14 : ∀ i, P ⟨.sbg .spSeqTx, 0, i⟩) (h15 : ∀ i, P ⟨.sbg .spTxType, 0, i⟩) (h16 : ∀ i, P ⟨.sbg .spansUp, 0, i⟩) (h17 : ∀ i, P ⟨.sbg .spStep, 0, i⟩) (h18 : ∀ i, P ⟨.sbg .drbgCount, 0, i⟩) (h19 : ∀ i, P ⟨.sbg .nDrbgReseed, 0, i⟩) (h20 : ∀ i, P ⟨.sbg .nHsFail, 0, i⟩) (h21 : ∀ i, P ⟨.boot .procCalled, 0, i⟩) (h22 : ∀ i, P ⟨.boot .procCode, 0, i⟩) (h23 : ∀ i, P ⟨.boot .procDone, 0, i⟩) (h24 : ∀ i, P ⟨.sbg .spRetry, 0, i⟩) (qreports : Q .reports) :
    ∃ t, execKeyAgree s = .next t ∧ Reach P Q s0 t := by
  unfold execKeyAgree
  repeat' with_reducible first | assumption | apply finishIf_reach | apply State.keyAgree_reach | (intros; show P _ = true; first | exact hsum _ rfl | (clear hsum; apply_assumption)) | split | dsimp only | intro _

theorem execKchAbortRx_reach {h : Sys2Proof.KchHead} (hs : Reach P Q s0 s) (hsum : ∀ k, k.cell.summary → P k) (h11 : ∀ i, P ⟨.sbg .nKchDisc, 0, i⟩) (h12 : ∀ i, P ⟨.sticky .sbgKchTagFail, 0, i⟩) (h13 : ∀ i, P ⟨.sbg .spSeqRx, 0, i⟩) (h14 : ∀ i, P ⟨.sbg .nHsFail, 0, i⟩) (h15 : ∀ i, P ⟨.sbg .spStep, 0, i⟩) (h16 : ∀ i, P ⟨.win .sbgSpan, 0, i⟩) (h17 : ∀ i, P ⟨.sbg .spansUp, 0, i⟩) (h18 : ∀ i, P ⟨.boot .procCalled, 0, i⟩) (h19 : ∀ i, P ⟨.boot .procCode, 0, i⟩) (h20 : ∀ i, P ⟨.boot .procDone, 0, i⟩) (h21 : ∀ i, P ⟨.sbg .kaSpan, 0, i⟩) (h22 : ∀ i, P ⟨.sbg .spRetry, 0, i⟩) (qreports : Q .reports) (qkch : Q .kch) :
    ∃ t, execKchAbortRx h s = .next t ∧ Reach P Q s0 t := by
  unfold execKchAbortRx
  repeat' with_reducible first | assumption | apply finishIf_reach | apply State.kchRecv_reach | apply State.hsFail_reach | (intros; show P _ = true; first | exact hsum _ rfl | (clear hsum; apply_assumption)) | split | dsimp only | intro _

end Sys2Proof.Machine
end

