-- ==== Sys2Proof/Laws/MovesTandem.lean ====
section
/-!
SUPPORT. What the operations of Machine/Tandem.lean may change, one lemma each (Laws/Reach.lean).
-/
namespace Sys2Proof.Machine

set_option linter.unusedTactic false
set_option linter.unreachableTactic false

variable {P : Key → Bool} {Q : Part → Bool} {s0 s : State}

theorem State.tdmFollow_reach {d : Nat} {i : Nat} (hs : Reach P Q s0 s) (h1 : ∀ i, P ⟨.tdm .req, d, i⟩) (h2 : ∀ i, P ⟨.tdm .wtr, d, i⟩) (h3 : ∀ i, P ⟨.sticky .tdmSwitched, d, i⟩) (h4 : ∀ i, P ⟨.tdm .nSwitch, d, i⟩) (h5 : ∀ i, P ⟨.tdm .sel, d, i⟩) (qreports : Q .reports) :
    Reach P Q s0 (State.tdmFollow s d i) := by
  unfold State.tdmFollow
  repeat' with_reducible first | assumption | apply State.set_reach | apply State.setB_reach | apply State.event_reach | apply State.inc_reach | (intros; show P _ = true; apply_assumption) | split | dsimp only | intro _

theorem State.protect_reach {d : Nat} {i : Nat} {req : Nat} (hs : Reach P Q s0 s) (h1 : ∀ i, P ⟨.tdm .req, d, i⟩) (h2 : ∀ i, P ⟨.tdm .wtr, d, i⟩) (h3 : ∀ i, P ⟨.sticky .tdmSwitched, d, i⟩) (h4 : ∀ i, P ⟨.tdm .nSwitch, d, i⟩) (h5 : ∀ i, P ⟨.tdm .sel, d, i⟩) (h6 : ∀ i, P ⟨.tdm .loc, d, i⟩) (qreports : Q .reports) :
    Reach P Q s0 (State.protect s d i req) := by
  unfold State.protect
  repeat' with_reducible first | assumption | apply State.tdmFollow_reach | apply State.set_reach | (intros; show P _ = true; apply_assumption) | split | dsimp only | intro _

theorem State.ringSettle_reach {d : Nat} {i : Nat} (hs : Reach P Q s0 s) (h1 : ∀ i, P ⟨.live .tdmHistLost, d, i⟩) (h2 : ∀ i, P ⟨.tdm .state, d, i⟩) (qreports : Q .reports) :
    Reach P Q s0 (State.ringSettle s d i) := by
  unfold State.ringSettle
  repeat' with_reducible first | assumption | apply State.lower_reach | apply State.set_reach | (intros; show P _ = true; apply_assumption) | split | dsimp only | intro _

theorem State.ringWrite_reach {d : Nat} {i : Nat} {ctr : Nat} (hs : Reach P Q s0 s) (h1 : ∀ i, P ⟨.tdm .wrPtr, d, i⟩) (h2 : ∀ i, P ⟨.tdm .rewind, d, i⟩) (h3 : ∀ i, P ⟨.live .tdmHistLost, d, i⟩) (h4 : ∀ i, P ⟨.tdm .state, d, i⟩) (h5 : ∀ i, P ⟨.sticky .tdmHistLost, d, i⟩) (qreports : Q .reports) :
    Reach P Q s0 (State.ringWrite s d i ctr) := by
  unfold State.ringWrite
  repeat' with_reducible first | assumption | apply State.set_reach | apply State.ringSettle_reach | apply State.raise_reach | (intros; show P _ = true; apply_assumption) | split | dsimp only | intro _

theorem execApsFopTimer_reach {d : Nat} {i : Nat} (hs : Reach P Q s0 s) (hsum : ∀ k, k.cell.summary → P k) (h11 : ∀ i, P ⟨.sticky .tdmApsFop, d, i⟩) (h12 : ∀ i, P ⟨.live .tdmApsFop, d, i⟩) (h13 : ∀ i, P ⟨.tdm .unreflected, d, i⟩) (qreports : Q .reports) :
    ∃ t, execApsFopTimer d i s = .next t ∧ Reach P Q s0 t := by
  unfold execApsFopTimer
  repeat' with_reducible first | assumption | apply finishIf_reach | apply State.raise_reach | apply State.set_reach | (intros; show P _ = true; first | exact hsum _ rfl | (clear hsum; apply_assumption)) | split | dsimp only | intro _

theorem State.tdmDelay_reach {d : Nat} {i : Nat} {diff : Nat} (hs : Reach P Q s0 s) (h1 : ∀ i, P ⟨.sticky .tdmDiffExcess, d, i⟩) (h2 : ∀ i, P ⟨.live .tdmDiffExcess, d, i⟩) (h3 : ∀ i, P ⟨.tdm .diffUs, d, i⟩) (h4 : ∀ d i, P ⟨.tim .evtNext, d, i⟩) (h5 : ∀ d i, P ⟨.tim .evtAt, d, i⟩) (h6 : ∀ i, P ⟨.sticky .timPathChange, 0, i⟩) (h7 : ∀ i, P ⟨.tim .nPce, 0, i⟩) (h8 : ∀ i, P ⟨.tim .pceNext, 0, i⟩) (h9 : ∀ i, P ⟨.win .timPce, 0, i⟩) (h10 : ∀ i, P ⟨.tdm .delay, d, i⟩) (qreports : Q .reports) :
    Reach P Q s0 (State.tdmDelay s d i diff) := by
  unfold State.tdmDelay
  repeat' with_reducible first | assumption | apply State.cond_reach | apply State.set_reach | apply State.pathChange_reach | (intros; show P _ = true; apply_assumption) | split | dsimp only | intro _

theorem State.tdmArrive_reach {d : Nat} {i : Nat} {f : Sys2Proof.CtnFrame} (hs : Reach P Q s0 s) (h1 : ∀ i, P ⟨.tdm .wrPtr, d, i⟩) (h2 : ∀ i, P ⟨.tdm .rewind, d, i⟩) (h3 : ∀ i, P ⟨.live .tdmHistLost, d, i⟩) (h4 : ∀ i, P ⟨.tdm .state, d, i⟩) (h5 : ∀ i, P ⟨.sticky .tdmHistLost, d, i⟩) (h6 : ∀ i, P ⟨.sticky .tdmDiffExcess, d, i⟩) (h7 : ∀ i, P ⟨.live .tdmDiffExcess, d, i⟩) (h8 : ∀ i, P ⟨.tdm .diffUs, d, i⟩) (h9 : ∀ d i, P ⟨.tim .evtNext, d, i⟩) (h10 : ∀ d i, P ⟨.tim .evtAt, d, i⟩) (h11 : ∀ i, P ⟨.sticky .timPathChange, 0, i⟩) (h12 : ∀ i, P ⟨.tim .nPce, 0, i⟩) (h13 : ∀ i, P ⟨.tim .pceNext, 0, i⟩) (h14 : ∀ i, P ⟨.win .timPce, 0, i⟩) (h15 : ∀ i, P ⟨.tdm .delay, d, i⟩) (h16 : ∀ i, P ⟨.tdm .early, d, i⟩) (h17 : ∀ i, P ⟨.tdm .earlyRun, d, i⟩) (qreports : Q .reports) :
    Reach P Q s0 (State.tdmArrive s d i f) := by
  unfold State.tdmArrive
  repeat' with_reducible first | assumption | apply State.ringWrite_reach | apply State.tdmDelay_reach | apply State.setB_reach | apply State.set_reach | (intros; show P _ = true; apply_assumption) | split | dsimp only | intro _

theorem execTandemPathPresence_reach {d : Nat} {i : Nat} {wOk : Bool} {pOk : Bool} (hs : Reach P Q s0 s) (hsum : ∀ k, k.cell.summary → P k) (h11 : ∀ i, P ⟨.tdm .state, d, i⟩) (h12 : ∀ i, P ⟨.tdm .pPresent, d, i⟩) (h13 : ∀ i, P ⟨.tdm .wPresent, d, i⟩) (h14 : ∀ i, P ⟨.tdm .bothSeen, d, i⟩) (h15 : ∀ i, P ⟨.sticky .ctnSf, d, i⟩) (h16 : ∀ i, P ⟨.live .ctnSf, d, i⟩) (h17 : ∀ i, P ⟨.live .tdmHistLost, d, i⟩) (h18 : ∀ i, P ⟨.sticky .tdmHistLost, d, i⟩) (qreports : Q .reports) :
    ∃ t, execTandemPathPresence d i wOk pOk s = .next t ∧ Reach P Q s0 t := by
  unfold execTandemPathPresence
  repeat' with_reducible first | assumption | apply finishIf_reach | apply State.when_reach | apply State.set_reach | apply State.setB_reach | apply State.ctnRefresh_reach | apply State.ringSettle_reach | apply State.cond_reach | (intros; show P _ = true; first | exact hsum _ rfl | (clear hsum; apply_assumption)) | split | dsimp only | intro _

theorem State.apsRead_reach {d : Nat} {i : Nat} {f : Sys2Proof.CtnFrame} (hs : Reach P Q s0 s) (h1 : ∀ i, P ⟨.tdm .apsRun, d, i⟩) (h2 : ∀ i, P ⟨.tdm .unreflected, d, i⟩) (h3 : ∀ i, P ⟨.tdm .mismatch, d, i⟩) (h4 : ∀ i, P ⟨.tdm .apsLast, d, i⟩) (h5 : ∀ i, P ⟨.tdm .far, d, i⟩) (h6 : ∀ i, P ⟨.sticky .tdmApsFop, d, i⟩) (h7 : ∀ i, P ⟨.live .tdmApsFop, d, i⟩) (qreports : Q .reports) :
    Reach P Q s0 (State.apsRead s d i f) := by
  unfold State.apsRead
  repeat' with_reducible first | assumption | apply State.set_reach | apply State.setB_reach | apply State.when_reach | apply State.cond_reach | (intros; show P _ = true; apply_assumption) | split | dsimp only | intro _

theorem execTandemHoldoffExpiry_reach {d : Nat} {i : Nat} (hs : Reach P Q s0 s) (hsum : ∀ k, k.cell.summary → P k) (h11 : ∀ i, P ⟨.tdm .req, d, i⟩) (h12 : ∀ i, P ⟨.tdm .wtr, d, i⟩) (h13 : ∀ i, P ⟨.sticky .tdmSwitched, d, i⟩) (h14 : ∀ i, P ⟨.tdm .nSwitch, d, i⟩) (h15 : ∀ i, P ⟨.tdm .sel, d, i⟩) (h16 : ∀ i, P ⟨.tdm .sf, d, i⟩) (qreports : Q .reports) :
    ∃ t, execTandemHoldoffExpiry d i s = .next t ∧ Reach P Q s0 t := by
  unfold execTandemHoldoffExpiry
  repeat' with_reducible first | assumption | apply finishIf_reach | apply State.tdmFollow_reach | apply State.set_reach | (intros; show P _ = true; first | exact hsum _ rfl | (clear hsum; apply_assumption)) | split | dsimp only | intro _

theorem State.deliver_reach {d : Nat} {i : Nat} {n : Nat} {path : Nat} (hs : Reach P Q s0 s) (h1 : ∀ i, P ⟨.tdm .lastPath, d, i⟩) (h2 : ∀ i, P ⟨.tdm .rewind, d, i⟩) (h3 : ∀ i, P ⟨.tdm .delivered, d, i⟩) (h4 : ∀ d i, P ⟨.tim .evtNext, d, i⟩) (h5 : ∀ d i, P ⟨.tim .evtAt, d, i⟩) (h6 : ∀ i, P ⟨.sticky .timPathChange, 0, i⟩) (h7 : ∀ i, P ⟨.tim .nPce, 0, i⟩) (h8 : ∀ i, P ⟨.tim .pceNext, 0, i⟩) (h9 : ∀ i, P ⟨.win .timPce, 0, i⟩) (qreports : Q .reports) :
    Reach P Q s0 (State.deliver s d i n path) := by
  unfold State.deliver
  repeat' with_reducible first | assumption | apply State.set_reach | apply State.pathChange_reach | (intros; show P _ = true; apply_assumption) | split | dsimp only | intro _

theorem State.deliverFrom_reach {d : Nat} {i : Nat} {n : Nat} {q : Nat} (hs : Reach P Q s0 s) (h1 : ∀ i, P ⟨.tdm .nGap, d, i⟩) (h2 : ∀ i, P ⟨.tdm .lastPath, d, i⟩) (h3 : ∀ i, P ⟨.tdm .rewind, d, i⟩) (h4 : ∀ i, P ⟨.tdm .delivered, d, i⟩) (h5 : ∀ d i, P ⟨.tim .evtNext, d, i⟩) (h6 : ∀ d i, P ⟨.tim .evtAt, d, i⟩) (h7 : ∀ i, P ⟨.sticky .timPathChange, 0, i⟩) (h8 : ∀ i, P ⟨.tim .nPce, 0, i⟩) (h9 : ∀ i, P ⟨.tim .pceNext, 0, i⟩) (h10 : ∀ i, P ⟨.win .timPce, 0, i⟩) (qreports : Q .reports) :
    Reach P Q s0 (State.deliverFrom s d i n q) := by
  unfold State.deliverFrom
  repeat' with_reducible first | assumption | apply State.add_reach | apply State.deliver_reach | (intros; show P _ = true; apply_assumption) | split | dsimp only | intro _

theorem execTandemFrameDeliver_reach {d : Nat} {i : Nat} {n : Nat} {wOk : Bool} {pOk : Bool} (hs : Reach P Q s0 s) (hsum : ∀ k, k.cell.summary → P k) (h11 : ∀ i, P ⟨.tdm .seal, d, i⟩) (h12 : ∀ i, P ⟨.tdm .nGap, d, i⟩) (h13 : ∀ i, P ⟨.tdm .lastPath, d, i⟩) (h14 : ∀ i, P ⟨.tdm .rewind, d, i⟩) (h15 : ∀ i, P ⟨.tdm .delivered, d, i⟩) (h16 : ∀ d i, P ⟨.tim .evtNext, d, i⟩) (h17 : ∀ d i, P ⟨.tim .evtAt, d, i⟩) (h18 : ∀ i, P ⟨.sticky .timPathChange, 0, i⟩) (h19 : ∀ i, P ⟨.tim .nPce, 0, i⟩) (h20 : ∀ i, P ⟨.tim .pceNext, 0, i⟩) (h21 : ∀ i, P ⟨.win .timPce, 0, i⟩) (h22 : ∀ i, P ⟨.tdm .nSubst, d, i⟩) (qreports : Q .reports) :
    ∃ t, execTandemFrameDeliver d i n wOk pOk s = .next t ∧ Reach P Q s0 t := by
  unfold execTandemFrameDeliver
  repeat' with_reducible first | assumption | apply finishIf_reach | apply State.when_reach | apply State.set_reach | apply State.deliverFrom_reach | apply State.inc_reach | (intros; show P _ = true; first | exact hsum _ rfl | (clear hsum; apply_assumption)) | split | dsimp only | intro _

theorem State.tdmConditions_reach {d : Nat} {i : Nat} (hs : Reach P Q s0 s) (h1 : ∀ i, P ⟨.tdm .sf, d, i⟩) :
    Reach P Q s0 (State.tdmConditions s d i) := by
  unfold State.tdmConditions
  repeat' with_reducible first | assumption | apply State.set_reach | (intros; show P _ = true; apply_assumption) | split | dsimp only | intro _

theorem execSealRequestClear_reach {d : Nat} {i : Nat} (hs : Reach P Q s0 s) (hsum : ∀ k, k.cell.summary → P k) (h11 : ∀ i, P ⟨.tdm .req, d, i⟩) (h12 : ∀ i, P ⟨.tdm .wtr, d, i⟩) (h13 : ∀ i, P ⟨.sticky .tdmSwitched, d, i⟩) (h14 : ∀ i, P ⟨.tdm .nSwitch, d, i⟩) (h15 : ∀ i, P ⟨.tdm .sel, d, i⟩) (h16 : ∀ i, P ⟨.tdm .seal, d, i⟩) (qreports : Q .reports) :
    ∃ t, execSealRequestClear d i s = .next t ∧ Reach P Q s0 t := by
  unfold execSealRequestClear
  repeat' with_reducible first | assumption | apply finishIf_reach | apply State.tdmFollow_reach | apply State.set_reach | (intros; show P _ = true; first | exact hsum _ rfl | (clear hsum; apply_assumption)) | split | dsimp only | intro _

theorem execTandemWtrExpiry_reach {d : Nat} {i : Nat} (hs : Reach P Q s0 s) (hsum : ∀ k, k.cell.summary → P k) (h11 : ∀ i, P ⟨.tdm .req, d, i⟩) (h12 : ∀ i, P ⟨.tdm .wtr, d, i⟩) (h13 : ∀ i, P ⟨.sticky .tdmSwitched, d, i⟩) (h14 : ∀ i, P ⟨.tdm .nSwitch, d, i⟩) (h15 : ∀ i, P ⟨.tdm .sel, d, i⟩) (qreports : Q .reports) :
    ∃ t, execTandemWtrExpiry d i s = .next t ∧ Reach P Q s0 t := by
  unfold execTandemWtrExpiry
  repeat' with_reducible first | assumption | apply finishIf_reach | apply State.tdmFollow_reach | apply State.set_reach | (intros; show P _ = true; first | exact hsum _ rfl | (clear hsum; apply_assumption)) | split | dsimp only | intro _

theorem execTandemSelect_reach {d : Nat} {i : Nat} (hs : Reach P Q s0 s) (hsum : ∀ k, k.cell.summary → P k) (h11 : ∀ i, P ⟨.tdm .req, d, i⟩) (h12 : ∀ i, P ⟨.tdm .wtr, d, i⟩) (h13 : ∀ i, P ⟨.sticky .tdmSwitched, d, i⟩) (h14 : ∀ i, P ⟨.tdm .nSwitch, d, i⟩) (h15 : ∀ i, P ⟨.tdm .sel, d, i⟩) (h16 : ∀ i, P ⟨.tdm .sf, d, i⟩) (qreports : Q .reports) :
    ∃ t, execTandemSelect d i s = .next t ∧ Reach P Q s0 t := by
  unfold execTandemSelect
  repeat' with_reducible first | assumption | apply finishIf_reach | apply State.tdmFollow_reach | apply State.tdmConditions_reach | (intros; show P _ = true; first | exact hsum _ rfl | (clear hsum; apply_assumption)) | split | dsimp only | intro _

theorem execTandemRealign_reach {d : Nat} {i : Nat} {skip : Nat} {diffUs : Nat} {protectFirst : Bool} (hs : Reach P Q s0 s) (hsum : ∀ k, k.cell.summary → P k) (h11 : ∀ i, P ⟨.tdm .bothSeen, d, i⟩) (h12 : ∀ i, P ⟨.tdm .diffUs, d, i⟩) (h13 : ∀ i, P ⟨.tdm .state, d, i⟩) (h14 : ∀ i, P ⟨.tdm .earlyRun, d, i⟩) (h15 : ∀ i, P ⟨.tdm .rewind, d, i⟩) (h16 : ∀ i, P ⟨.tdm .wrPtr, d, i⟩) (h17 : ∀ i, P ⟨.tdm .early, d, i⟩) (h18 : ∀ i, P ⟨.tdm .nGap, d, i⟩) (h19 : ∀ i, P ⟨.tdm .nRealign, d, i⟩) (h20 : ∀ i, P ⟨.sticky .tdmRealign, d, i⟩) (h21 : ∀ d i, P ⟨.tim .evtNext, d, i⟩) (h22 : ∀ d i, P ⟨.tim .evtAt, d, i⟩) (h23 : ∀ i, P ⟨.sticky .timPathChange, 0, i⟩) (h24 : ∀ i, P ⟨.tim .nPce, 0, i⟩) (h25 : ∀ i, P ⟨.tim .pceNext, 0, i⟩) (h26 : ∀ i, P ⟨.win .timPce, 0, i⟩) (h27 : ∀ i, P ⟨.tdm .delay, d, i⟩) (h28 : ∀ i, P ⟨.sticky .tdmDiffExcess, d, i⟩) (h29 : ∀ i, P ⟨.live .tdmDiffExcess, d, i⟩) (h30 : ∀ i, P ⟨.live .tdmHistLost, d, i⟩) (qreports : Q .reports) :
    ∃ t, execTandemRealign d i skip diffUs protectFirst s = .next t ∧ Reach P Q s0 t := by
  unfold execTandemRealign
  repeat' with_reducible first | assumption | apply finishIf_reach | apply State.setB_reach | apply State.set_reach | apply State.add_reach | apply State.inc_reach | apply State.event_reach | apply State.pathChange_reach | apply State.cond_reach | apply State.lower_reach | (intros; show P _ = true; first | exact hsum _ rfl | (clear hsum; apply_assumption)) | split | dsimp only | intro _

end Sys2Proof.Machine
end

