-- ==== Sys2Proof/Laws/MovesSeal.lean ====
section
/-!
SUPPORT. What the operations of Machine/Seal.lean may change, one lemma each (Laws/Reach.lean).
-/
namespace Sys2Proof.Machine

set_option linter.unusedTactic false
set_option linter.unreachableTactic false

variable {P : Key → Bool} {Q : Part → Bool} {s0 s : State}

theorem State.draftFail_reach {d : Nat} {i : Nat} {f : Sys2Proof.SealCopy} (hs : Reach P Q s0 s) (h1 : ∀ i, P ⟨.tdm .nSubst, d, i⟩) (h2 : ∀ i, P ⟨.cry .nDraftErrblk, d, i⟩) (h3 : ∀ i, P ⟨.cry .nDraftDisc, d, i⟩) :
    Reach P Q s0 (State.draftFail s d i f) := by
  unfold State.draftFail
  repeat' with_reducible first | assumption | apply State.inc_reach | apply State.add_reach | (intros; show P _ = true; apply_assumption) | split | dsimp only | intro _

theorem State.seenOn_reach {d : Nat} {i : Nat} {path : Nat} {kid : Nat} (hs : Reach P Q s0 s) (h1 : ∀ i, P ⟨.cry .rxSeen, d, i⟩) (h2 : ∀ i, P ⟨.cry .rxOld, d, i⟩) :
    Reach P Q s0 (State.seenOn s d i path kid) := by
  unfold State.seenOn
  repeat' with_reducible first | assumption | apply State.set_reach | (intros; show P _ = true; apply_assumption) | split | dsimp only | intro _

theorem State.encChange_reach {d : Nat} {i : Nat} (hs : Reach P Q s0 s) (h1 : ∀ i, P ⟨.cry .rxState, d, i⟩) (h2 : ∀ i, P ⟨.cry .highest, d, i⟩) (h3 : ∀ i, P ⟨.cry .txFrames, d, i⟩) (h4 : ∀ i, P ⟨.cry .frameCtr, d, i⟩) (h5 : ∀ i, P ⟨.cry .txRetry, d, i⟩) (h6 : ∀ i, P ⟨.cry .txNext, d, i⟩) (h7 : ∀ i, P ⟨.cry .txNextSms, d, i⟩) (h8 : ∀ i, P ⟨.cry .txNextEpoch, d, i⟩) (h9 : ∀ i, P ⟨.cry .txLast, d, i⟩) (h10 : ∀ i, P ⟨.cry .txSms, d, i⟩) (h11 : ∀ i, P ⟨.sbg .spSent, 0, i⟩) (h12 : ∀ i, P ⟨.sbg .spSeqTx, 0, i⟩) (h13 : ∀ i, P ⟨.sbg .spTxType, 0, i⟩) (h14 : ∀ i, P ⟨.cry .flitFailed, d, i⟩) (h15 : ∀ i, P ⟨.sticky .sbgCryptoHoldAny, 0, i⟩) (h16 : ∀ i, P ⟨.live .sbgCryptoHoldAny, 0, i⟩) (h17 : ∀ i, P ⟨.sticky .cryCryptoHold, d, i⟩) (h18 : ∀ i, P ⟨.live .cryCryptoHold, d, i⟩) (h19 : ∀ i, P ⟨.cry .txState, d, i⟩) (h20 : ∀ i, P ⟨.cry .rxNext, d, i⟩) (h21 : ∀ i, P ⟨.cry .txKeySms, d, i⟩) (h22 : ∀ i, P ⟨.cry .rxOld, d, i⟩) (h23 : ∀ i, P ⟨.cry .rxHas, d, i⟩) (h24 : ∀ i, P ⟨.live .crySealFail, d, i⟩) (h25 : ∀ i, P ⟨.live .cryRekeyLate, d, i⟩) (qreports : Q .reports) :
    Reach P Q s0 (State.encChange s d i) := by
  unfold State.encChange
  repeat' with_reducible first | assumption | apply State.set_reach | apply State.rekeyStart_reach | apply State.txSet_reach | apply State.lower_reach | (intros; show P _ = true; apply_assumption) | split | dsimp only | intro _

theorem State.runFollow_reach {d : Nat} {i : Nat} (hs : Reach P Q s0 s) (h1 : ∀ i, P ⟨.sticky .crySealFail, d, i⟩) (h2 : ∀ i, P ⟨.live .crySealFail, d, i⟩) (qreports : Q .reports) :
    Reach P Q s0 (State.runFollow s d i) := by
  unfold State.runFollow
  repeat' with_reducible first | assumption | apply State.cond_reach | (intros; show P _ = true; apply_assumption) | split | dsimp only | intro _

theorem State.sealFail_reach {d : Nat} {i : Nat} {f : Sys2Proof.SealCopy} {cause : Nat} (hs : Reach P Q s0 s) (h1 : ∀ i, P ⟨.sticky .cryKeyUnknown, d, i⟩) (h2 : ∀ i, P ⟨.sticky .cryReplay, d, i⟩) (h3 : ∀ i, P ⟨.cry .nReplay, d, i⟩) (h4 : ∀ i, P ⟨.cry .nTagMissing, d, i⟩) (h5 : ∀ i, P ⟨.cry .failRun, d, i⟩) (h6 : ∀ i, P ⟨.sticky .crySealFail, d, i⟩) (h7 : ∀ i, P ⟨.cry .nPSealFail, d, i⟩) (h8 : ∀ i, P ⟨.cry .nSealFail, d, i⟩) (h9 : ∀ i, P ⟨.live .crySealFail, d, i⟩) (h10 : ∀ i, P ⟨.tdm .nSubst, d, i⟩) (h11 : ∀ i, P ⟨.cry .nDraftErrblk, d, i⟩) (h12 : ∀ i, P ⟨.cry .nDraftDisc, d, i⟩) (h13 : ∀ i, P ⟨.tdm .seal, d, i⟩) (qreports : Q .reports) :
    Reach P Q s0 (State.sealFail s d i f cause) := by
  unfold State.sealFail
  repeat' with_reducible first | assumption | apply State.event_reach | apply State.inc_reach | apply State.set_reach | apply State.runFollow_reach | apply State.draftFail_reach | apply State.when_reach | (intros; show P _ = true; apply_assumption) | split | dsimp only | intro _

theorem State.promote_reach {d : Nat} {i : Nat} {path : Nat} (hs : Reach P Q s0 s) (h1 : ∀ i, P ⟨.cry .rxState, d, i⟩) (h2 : ∀ i, P ⟨.cry .rxSeen, d, i⟩) (h3 : ∀ i, P ⟨.cry .rxNext, d, i⟩) (h4 : ∀ i, P ⟨.cry .rxHas, d, i⟩) (h5 : ∀ i, P ⟨.cry .rxEpoch, d, i⟩) (h6 : ∀ i, P ⟨.cry .rxOldEpoch, d, i⟩) (h7 : ∀ i, P ⟨.cry .rxOld, d, i⟩) :
    Reach P Q s0 (State.promote s d i path) := by
  unfold State.promote
  repeat' with_reducible first | assumption | apply State.set_reach | apply State.setB_reach | (intros; show P _ = true; apply_assumption) | split | dsimp only | intro _

theorem State.sealPass_reach {d : Nat} {i : Nat} {f : Sys2Proof.SealCopy} (hs : Reach P Q s0 s) (h1 : ∀ i, P ⟨.cry .failRun, d, i⟩) (h2 : ∀ i, P ⟨.cry .highest, d, i⟩) (h3 : ∀ i, P ⟨.cry .nVerified, d, i⟩) (h4 : ∀ i, P ⟨.cry .rxState, d, i⟩) (h5 : ∀ i, P ⟨.cry .rxSeen, d, i⟩) (h6 : ∀ i, P ⟨.cry .rxNext, d, i⟩) (h7 : ∀ i, P ⟨.cry .rxHas, d, i⟩) (h8 : ∀ i, P ⟨.cry .rxEpoch, d, i⟩) (h9 : ∀ i, P ⟨.cry .rxOldEpoch, d, i⟩) (h10 : ∀ i, P ⟨.cry .rxOld, d, i⟩) (h11 : ∀ i, P ⟨.sticky .crySealFail, d, i⟩) (h12 : ∀ i, P ⟨.live .crySealFail, d, i⟩) (h13 : ∀ i, P ⟨.boot .procCalled, 0, i⟩) (h14 : ∀ i, P ⟨.boot .procCode, 0, i⟩) (h15 : ∀ i, P ⟨.boot .procDone, 0, i⟩) (h16 : ∀ i, P ⟨.sbg .kaSpan, 0, i⟩) (qreports : Q .reports) :
    Reach P Q s0 (State.sealPass s d i f) := by
  unfold State.sealPass
  repeat' with_reducible first | assumption | apply State.set_reach | apply State.incIf_reach | apply State.promote_reach | apply State.seenOn_reach | apply State.runFollow_reach | apply State.kaCheck_reach | (intros; show P _ = true; apply_assumption) | split | dsimp only | intro _

theorem execSealVerdict_reach {d : Nat} {i : Nat} {f : Sys2Proof.SealCopy} (hs : Reach P Q s0 s) (hsum : ∀ k, k.cell.summary → P k) (h11 : ∀ i, P ⟨.sticky .cryKeyUnknown, d, i⟩) (h12 : ∀ i, P ⟨.sticky .cryReplay, d, i⟩) (h13 : ∀ i, P ⟨.cry .nReplay, d, i⟩) (h14 : ∀ i, P ⟨.cry .nTagMissing, d, i⟩) (h15 : ∀ i, P ⟨.cry .failRun, d, i⟩) (h16 : ∀ i, P ⟨.sticky .crySealFail, d, i⟩) (h17 : ∀ i, P ⟨.cry .nPSealFail, d, i⟩) (h18 : ∀ i, P ⟨.cry .nSealFail, d, i⟩) (h19 : ∀ i, P ⟨.live .crySealFail, d, i⟩) (h20 : ∀ i, P ⟨.tdm .nSubst, d, i⟩) (h21 : ∀ i, P ⟨.cry .nDraftErrblk, d, i⟩) (h22 : ∀ i, P ⟨.cry .nDraftDisc, d, i⟩) (h23 : ∀ i, P ⟨.tdm .seal, d, i⟩) (h24 : ∀ i, P ⟨.cry .highest, d, i⟩) (h25 : ∀ i, P ⟨.cry .nVerified, d, i⟩) (h26 : ∀ i, P ⟨.cry .rxState, d, i⟩) (h27 : ∀ i, P ⟨.cry .rxSeen, d, i⟩) (h28 : ∀ i, P ⟨.cry .rxNext, d, i⟩) (h29 : ∀ i, P ⟨.cry .rxHas, d, i⟩) (h30 : ∀ i, P ⟨.cry .rxEpoch, d, i⟩) (h31 : ∀ i, P ⟨.cry .rxOldEpoch, d, i⟩) (h32 : ∀ i, P ⟨.cry .rxOld, d, i⟩) (h33 : ∀ i, P ⟨.boot .procCalled, 0, i⟩) (h34 : ∀ i, P ⟨.boot .procCode, 0, i⟩) (h35 : ∀ i, P ⟨.boot .procDone, 0, i⟩) (h36 : ∀ i, P ⟨.sbg .kaSpan, 0, i⟩) (qreports : Q .reports) :
    ∃ t, execSealVerdict d i f s = .next t ∧ Reach P Q s0 t := by
  unfold execSealVerdict
  repeat' with_reducible first | assumption | apply finishIf_reach | apply State.sealFail_reach | apply State.sealPass_reach | (intros; show P _ = true; first | exact hsum _ rfl | (clear hsum; apply_assumption)) | split | dsimp only | intro _

theorem State.cryApply_reach {d : Nat} {i : Nat} (hs : Reach P Q s0 s) (h1 : ∀ i, P ⟨.winDirty .cryCtx, d, i⟩) (h2 : ∀ a i, P ⟨Cell.mask a, d, i⟩) (h3 : ∀ i, P ⟨.win .cryCtx, d, i⟩) (h4 : ∀ i, P ⟨.cry .rxState, d, i⟩) (h5 : ∀ i, P ⟨.cry .highest, d, i⟩) (h6 : ∀ i, P ⟨.cry .txFrames, d, i⟩) (h7 : ∀ i, P ⟨.cry .frameCtr, d, i⟩) (h8 : ∀ i, P ⟨.cry .txRetry, d, i⟩) (h9 : ∀ i, P ⟨.cry .txNext, d, i⟩) (h10 : ∀ i, P ⟨.cry .txNextSms, d, i⟩) (h11 : ∀ i, P ⟨.cry .txNextEpoch, d, i⟩) (h12 : ∀ i, P ⟨.cry .txLast, d, i⟩) (h13 : ∀ i, P ⟨.cry .txSms, d, i⟩) (h14 : ∀ i, P ⟨.sbg .spSent, 0, i⟩) (h15 : ∀ i, P ⟨.sbg .spSeqTx, 0, i⟩) (h16 : ∀ i, P ⟨.sbg .spTxType, 0, i⟩) (h17 : ∀ i, P ⟨.cry .flitFailed, d, i⟩) (h18 : ∀ i, P ⟨.sticky .sbgCryptoHoldAny, 0, i⟩) (h19 : ∀ i, P ⟨.live .sbgCryptoHoldAny, 0, i⟩) (h20 : ∀ i, P ⟨.sticky .cryCryptoHold, d, i⟩) (h21 : ∀ i, P ⟨.live .cryCryptoHold, d, i⟩) (h22 : ∀ i, P ⟨.cry .txState, d, i⟩) (h23 : ∀ i, P ⟨.cry .rxNext, d, i⟩) (h24 : ∀ i, P ⟨.cry .txKeySms, d, i⟩) (h25 : ∀ i, P ⟨.cry .rxOld, d, i⟩) (h26 : ∀ i, P ⟨.cry .rxHas, d, i⟩) (h27 : ∀ i, P ⟨.live .crySealFail, d, i⟩) (h28 : ∀ i, P ⟨.live .cryRekeyLate, d, i⟩) (h29 : ∀ i, P ⟨.sys .winBusy, d, i⟩) (qreports : Q .reports) :
    Reach P Q s0 (State.cryApply s d i) := by
  unfold State.cryApply
  repeat' with_reducible first | assumption | apply State.each_reach | apply State.set_reach | apply State.landWin_reach | apply State.encChange_reach | apply State.setB_reach | (intros; show P _ = true; apply_assumption) | split | dsimp only | intro _

theorem State.cryEnterHold_reach {d : Nat} {i : Nat} (hs : Reach P Q s0 s) (h1 : ∀ i, P ⟨.sticky .sbgCryptoHoldAny, 0, i⟩) (h2 : ∀ i, P ⟨.live .sbgCryptoHoldAny, 0, i⟩) (h3 : ∀ i, P ⟨.sticky .cryCryptoHold, d, i⟩) (h4 : ∀ i, P ⟨.live .cryCryptoHold, d, i⟩) (h5 : ∀ i, P ⟨.cry .txState, d, i⟩) (qreports : Q .reports) :
    Reach P Q s0 (State.cryEnterHold s d i) := by
  unfold State.cryEnterHold
  repeat' with_reducible first | assumption | apply State.txSet_reach | (intros; show P _ = true; apply_assumption) | split | dsimp only | intro _

theorem State.sealFrame_reach {d : Nat} {i : Nat} (hs : Reach P Q s0 s) (h1 : ∀ i, P ⟨.sticky .cryRekeyLate, d, i⟩) (h2 : ∀ i, P ⟨.live .cryRekeyLate, d, i⟩) (h3 : ∀ i, P ⟨.cry .nSealed, d, i⟩) (h4 : ∀ i, P ⟨.cry .txFrames, d, i⟩) (h5 : ∀ i, P ⟨.cry .frameCtr, d, i⟩) (h6 : ∀ i, P ⟨.cry .txRetry, d, i⟩) (h7 : ∀ i, P ⟨.cry .txNext, d, i⟩) (h8 : ∀ i, P ⟨.cry .txNextSms, d, i⟩) (h9 : ∀ i, P ⟨.cry .txNextEpoch, d, i⟩) (h10 : ∀ i, P ⟨.cry .txLast, d, i⟩) (h11 : ∀ i, P ⟨.cry .txSms, d, i⟩) (h12 : ∀ i, P ⟨.sbg .spSent, 0, i⟩) (h13 : ∀ i, P ⟨.sbg .spSeqTx, 0, i⟩) (h14 : ∀ i, P ⟨.sbg .spTxType, 0, i⟩) (h15 : ∀ i, P ⟨.cry .flitFailed, d, i⟩) (h16 : ∀ i, P ⟨.sticky .sbgCryptoHoldAny, 0, i⟩) (h17 : ∀ i, P ⟨.live .sbgCryptoHoldAny, 0, i⟩) (h18 : ∀ i, P ⟨.sticky .cryCryptoHold, d, i⟩) (h19 : ∀ i, P ⟨.live .cryCryptoHold, d, i⟩) (h20 : ∀ i, P ⟨.cry .txState, d, i⟩) (qreports : Q .reports) :
    Reach P Q s0 (State.sealFrame s d i) := by
  unfold State.sealFrame
  repeat' with_reducible first | assumption | apply State.lateFollow_reach | apply State.inc_reach | apply State.set_reach | apply State.when_reach | apply State.rekeyStart_reach | apply State.cryEnterHold_reach | (intros; show P _ = true; apply_assumption) | split | dsimp only | intro _

theorem execContainerFrameSeal_reach {d : Nat} {i : Nat} (hs : Reach P Q s0 s) (hsum : ∀ k, k.cell.summary → P k) (h11 : ∀ i, P ⟨.winDirty .cryCtx, d, i⟩) (h12 : ∀ a i, P ⟨Cell.mask a, d, i⟩) (h13 : ∀ i, P ⟨.win .cryCtx, d, i⟩) (h14 : ∀ i, P ⟨.cry .rxState, d, i⟩) (h15 : ∀ i, P ⟨.cry .highest, d, i⟩) (h16 : ∀ i, P ⟨.cry .txFrames, d, i⟩) (h17 : ∀ i, P ⟨.cry .frameCtr, d, i⟩) (h18 : ∀ i, P ⟨.cry .txRetry, d, i⟩) (h19 : ∀ i, P ⟨.cry .txNext, d, i⟩) (h20 : ∀ i, P ⟨.cry .txNextSms, d, i⟩) (h21 : ∀ i, P ⟨.cry .txNextEpoch, d, i⟩) (h22 : ∀ i, P ⟨.cry .txLast, d, i⟩) (h23 : ∀ i, P ⟨.cry .txSms, d, i⟩) (h24 : ∀ i, P ⟨.sbg .spSent, 0, i⟩) (h25 : ∀ i, P ⟨.sbg .spSeqTx, 0, i⟩) (h26 : ∀ i, P ⟨.sbg .spTxType, 0, i⟩) (h27 : ∀ i, P ⟨.cry .flitFailed, d, i⟩) (h28 : ∀ i, P ⟨.sticky .sbgCryptoHoldAny, 0, i⟩) (h29 : ∀ i, P ⟨.live .sbgCryptoHoldAny, 0, i⟩) (h30 : ∀ i, P ⟨.sticky .cryCryptoHold, d, i⟩) (h31 : ∀ i, P ⟨.live .cryCryptoHold, d, i⟩) (h32 : ∀ i, P ⟨.cry .txState, d, i⟩) (h33 : ∀ i, P ⟨.cry .rxNext, d, i⟩) (h34 : ∀ i, P ⟨.cry .txKeySms, d, i⟩) (h35 : ∀ i, P ⟨.cry .rxOld, d, i⟩) (h36 : ∀ i, P ⟨.cry .rxHas, d, i⟩) (h37 : ∀ i, P ⟨.live .crySealFail, d, i⟩) (h38 : ∀ i, P ⟨.live .cryRekeyLate, d, i⟩) (h39 : ∀ i, P ⟨.sys .winBusy, d, i⟩) (h40 : ∀ i, P ⟨.cry .nHoldFrames, d, i⟩) (h41 : ∀ i, P ⟨.sticky .cryRekeyLate, d, i⟩) (h42 : ∀ i, P ⟨.cry .nSealed, d, i⟩) (qreports : Q .reports) :
    ∃ t, execContainerFrameSeal d i s = .next t ∧ Reach P Q s0 t := by
  unfold execContainerFrameSeal
  repeat' with_reducible first | assumption | apply finishIf_reach | apply State.cryApply_reach | apply State.inc_reach | apply State.cryEnterHold_reach | apply State.sealFrame_reach | (intros; show P _ = true; first | exact hsum _ rfl | (clear hsum; apply_assumption)) | split | dsimp only | intro _

theorem State.fupStore_reach {e : FupEnt} (hs : Reach P Q s0 s) (qfups : Q .fups) :
    Reach P Q s0 (State.fupStore s e) := by
  unfold State.fupStore
  repeat' with_reducible first | assumption | apply foldl_reach | (intros; show P _ = true; apply_assumption) | split | dsimp only | intro _ | apply State.fups_reach

theorem State.ptpFar_reach {d : Nat} {p : Nat} {f : Sys2Proof.EgressFrame} (hs : Reach P Q s0 s) (h1 : ∀ i, P ⟨.sticky .timTcUnsync, 0, i⟩) (h2 : ∀ i, P ⟨.tim .nTcUnsync, 0, i⟩) (h3 : ∀ i, P ⟨.tim .ptpCorr, d, i⟩) (h4 : ∀ i, P ⟨.tim .nTcCorr, 0, i⟩) (h5 : ∀ i, P ⟨.tim .nTcFupMiss, 0, i⟩) (qreports : Q .reports) (qfups : Q .fups) :
    Reach P Q s0 (State.ptpFar s d p f) := by
  unfold State.ptpFar
  repeat' with_reducible first | assumption | apply State.when_reach | apply State.event_reach | apply State.inc_reach | apply State.fupStore_reach | apply State.set_reach | (intros; show P _ = true; apply_assumption) | split | dsimp only | intro _ | apply State.fups_reach

theorem execHostFrameStart_reach {d : Nat} {p : Nat} {f : Sys2Proof.EgressFrame} (hs : Reach P Q s0 s) (hsum : ∀ k, k.cell.summary → P k) (h11 : ∀ i, P ⟨.sticky .timTcUnsync, 0, i⟩) (h12 : ∀ i, P ⟨.tim .nTcUnsync, 0, i⟩) (h13 : ∀ i, P ⟨.tim .ptpCorr, d, i⟩) (h14 : ∀ i, P ⟨.tim .nTcCorr, 0, i⟩) (h15 : ∀ i, P ⟨.tim .nTcFupMiss, 0, i⟩) (h16 : ∀ i, P ⟨.hl .nTxBytes, d, i⟩) (h17 : ∀ i, P ⟨.hl .nTxFrames, d, i⟩) (qreports : Q .reports) (qfups : Q .fups) :
    ∃ t, execHostFrameStart d p f s = .next t ∧ Reach P Q s0 t := by
  unfold execHostFrameStart
  repeat' with_reducible first | assumption | apply finishIf_reach | apply State.ptpFar_reach | apply State.add_reach | apply State.inc_reach | (intros; show P _ = true; first | exact hsum _ rfl | (clear hsum; apply_assumption)) | split | dsimp only | intro _

theorem execRxOldKeyErase_reach {d : Nat} {i : Nat} (hs : Reach P Q s0 s) (hsum : ∀ k, k.cell.summary → P k) (h11 : ∀ i, P ⟨.cry .rxOld, d, i⟩) (qreports : Q .reports) :
    ∃ t, execRxOldKeyErase d i s = .next t ∧ Reach P Q s0 t := by
  unfold execRxOldKeyErase
  repeat' with_reducible first | assumption | apply finishIf_reach | apply State.set_reach | (intros; show P _ = true; first | exact hsum _ rfl | (clear hsum; apply_assumption)) | split | dsimp only | intro _

end Sys2Proof.Machine
end

