-- ==== Sys2Proof/Laws/MovesKickstand.lean ====
section
/-!
SUPPORT. What the operations of Machine/Kickstand.lean may change, one lemma each (Laws/Reach.lean).
-/
namespace Sys2Proof.Machine

set_option linter.unusedTactic false
set_option linter.unreachableTactic false

variable {P : Key → Bool} {Q : Part → Bool} {s0 s : State}

theorem State.setStage_reach {d : Nat} {v : Nat} (hs : Reach P Q s0 s) (h1 : ∀ i, P ⟨.pwr .stage, d, i⟩) :
    Reach P Q s0 (State.setStage s d v) := by
  unfold State.setStage
  repeat' with_reducible first | assumption | apply State.set_reach | (intros; show P _ = true; apply_assumption) | split | dsimp only | intro _

theorem State.ksBegin_reach {d : Nat} (hs : Reach P Q s0 s) (h1 : ∀ i, P ⟨.pwr .stage, d, i⟩) (h2 : ∀ i, P ⟨.sticky .hlpLinkDown, d, i⟩) (h3 : ∀ i, P ⟨.live .hlpLinkDown, d, i⟩) (h4 : ∀ i, P ⟨.hl .pGear, d, i⟩) (h5 : ∀ i, P ⟨.hl .pState, d, i⟩) (h6 : ∀ i, P ⟨.boot .procCalled, 0, i⟩) (h7 : ∀ i, P ⟨.boot .procCode, 0, i⟩) (h8 : ∀ i, P ⟨.boot .procDone, 0, i⟩) (h9 : ∀ i, P ⟨.hl .corrTx, d, i⟩) (h10 : ∀ i, P ⟨.hl .corrRx, d, i⟩) (h11 : ∀ i, P ⟨.hl .idleReq, d, i⟩) (h12 : ∀ i, P ⟨.hl .keep, d, i⟩) (h13 : ∀ i, P ⟨.hl .state, d, i⟩) (h14 : ∀ i, P ⟨.hl .idleRun, d, i⟩) (h15 : ∀ i, P ⟨.hl .relock, d, i⟩) (h16 : ∀ i, P ⟨.hl .waitSig, d, i⟩) (h17 : ∀ i, P ⟨.hl .reqResult, d, i⟩) (h18 : ∀ i, P ⟨.hl .reqSeq, d, i⟩) (h19 : ∀ i, P ⟨.hl .stepFails, d, i⟩) (h20 : ∀ i, P ⟨.hl .fellBack, d, i⟩) (h21 : ∀ i, P ⟨.hl .switched, d, i⟩) (h22 : ∀ i, P ⟨.hl .preNext, d, i⟩) (h23 : ∀ i, P ⟨.hl .farCount, d, i⟩) (h24 : ∀ i, P ⟨.hl .countdown, d, i⟩) (h25 : ∀ i, P ⟨.hl .farPreCap, d, i⟩) (h26 : ∀ i, P ⟨.hl .capsRun, d, i⟩) (h27 : ∀ i, P ⟨.hl .readyLeft, d, i⟩) (h28 : ∀ i, P ⟨.hl .readyRun, d, i⟩) (h29 : ∀ i, P ⟨.hl .rxReady, d, i⟩) (h30 : ∀ i, P ⟨.hl .badRun, d, i⟩) (h31 : ∀ i, P ⟨.hl .goodRun, d, i⟩) (h32 : ∀ i, P ⟨.hl .fLock, d, i⟩) (qreports : Q .reports) :
    Reach P Q s0 (State.ksBegin s d) := by
  unfold State.ksBegin
  repeat' with_reducible first | assumption | apply State.each_reach | apply State.setStage_reach | apply State.portIdle_reach | (intros; show P _ = true; apply_assumption) | split | dsimp only | intro _

theorem State.ksEnterPkg_reach {en : Nat} {delay : Nat} (hs : Reach P Q s0 s) (h1 : ∀ i, P ⟨.pwr .lateWake, 0, i⟩) (h2 : ∀ i, P ⟨.pwr .wakeDelay, 0, i⟩) (h3 : ∀ i, P ⟨.pwr .pkgWakeEn, 0, i⟩) (h4 : ∀ i, P ⟨.pwr .pkgMove, 0, i⟩) (h5 : ∀ d i, P ⟨.pwr .stage, d, i⟩) (h6 : ∀ d i, P ⟨.sticky .hlpLinkDown, d, i⟩) (h7 : ∀ d i, P ⟨.live .hlpLinkDown, d, i⟩) (h8 : ∀ d i, P ⟨.hl .pGear, d, i⟩) (h9 : ∀ d i, P ⟨.hl .pState, d, i⟩) (h10 : ∀ i, P ⟨.boot .procCalled, 0, i⟩) (h11 : ∀ i, P ⟨.boot .procCode, 0, i⟩) (h12 : ∀ i, P ⟨.boot .procDone, 0, i⟩) (h13 : ∀ d i, P ⟨.hl .corrTx, d, i⟩) (h14 : ∀ d i, P ⟨.hl .corrRx, d, i⟩) (h15 : ∀ d i, P ⟨.hl .idleReq, d, i⟩) (h16 : ∀ d i, P ⟨.hl .keep, d, i⟩) (h17 : ∀ d i, P ⟨.hl .state, d, i⟩) (h18 : ∀ d i, P ⟨.hl .idleRun, d, i⟩) (h19 : ∀ d i, P ⟨.hl .relock, d, i⟩) (h20 : ∀ d i, P ⟨.hl .waitSig, d, i⟩) (h21 : ∀ d i, P ⟨.hl .reqResult, d, i⟩) (h22 : ∀ d i, P ⟨.hl .reqSeq, d, i⟩) (h23 : ∀ d i, P ⟨.hl .stepFails, d, i⟩) (h24 : ∀ d i, P ⟨.hl .fellBack, d, i⟩) (h25 : ∀ d i, P ⟨.hl .switched, d, i⟩) (h26 : ∀ d i, P ⟨.hl .preNext, d, i⟩) (h27 : ∀ d i, P ⟨.hl .farCount, d, i⟩) (h28 : ∀ d i, P ⟨.hl .countdown, d, i⟩) (h29 : ∀ d i, P ⟨.hl .farPreCap, d, i⟩) (h30 : ∀ d i, P ⟨.hl .capsRun, d, i⟩) (h31 : ∀ d i, P ⟨.hl .readyLeft, d, i⟩) (h32 : ∀ d i, P ⟨.hl .readyRun, d, i⟩) (h33 : ∀ d i, P ⟨.hl .rxReady, d, i⟩) (h34 : ∀ d i, P ⟨.hl .badRun, d, i⟩) (h35 : ∀ d i, P ⟨.hl .goodRun, d, i⟩) (h36 : ∀ d i, P ⟨.hl .fLock, d, i⟩) (qreports : Q .reports) :
    Reach P Q s0 (State.ksEnterPkg s en delay) := by
  unfold State.ksEnterPkg
  repeat' with_reducible first | assumption | apply State.set_reach | apply State.each_reach | apply State.ksBegin_reach | (intros; show P _ = true; apply_assumption) | split | dsimp only | intro _

theorem State.ksEnter_reach {mask : Nat} {en : Nat} {delay : Nat} (hs : Reach P Q s0 s) (h1 : ∀ d i, P ⟨.pwr .stage, d, i⟩) (h2 : ∀ d i, P ⟨.sticky .hlpLinkDown, d, i⟩) (h3 : ∀ d i, P ⟨.live .hlpLinkDown, d, i⟩) (h4 : ∀ d i, P ⟨.hl .pGear, d, i⟩) (h5 : ∀ d i, P ⟨.hl .pState, d, i⟩) (h6 : ∀ i, P ⟨.boot .procCalled, 0, i⟩) (h7 : ∀ i, P ⟨.boot .procCode, 0, i⟩) (h8 : ∀ i, P ⟨.boot .procDone, 0, i⟩) (h9 : ∀ d i, P ⟨.hl .corrTx, d, i⟩) (h10 : ∀ d i, P ⟨.hl .corrRx, d, i⟩) (h11 : ∀ d i, P ⟨.hl .idleReq, d, i⟩) (h12 : ∀ d i, P ⟨.hl .keep, d, i⟩) (h13 : ∀ d i, P ⟨.hl .state, d, i⟩) (h14 : ∀ d i, P ⟨.hl .idleRun, d, i⟩) (h15 : ∀ d i, P ⟨.hl .relock, d, i⟩) (h16 : ∀ d i, P ⟨.hl .waitSig, d, i⟩) (h17 : ∀ d i, P ⟨.hl .reqResult, d, i⟩) (h18 : ∀ d i, P ⟨.hl .reqSeq, d, i⟩) (h19 : ∀ d i, P ⟨.hl .stepFails, d, i⟩) (h20 : ∀ d i, P ⟨.hl .fellBack, d, i⟩) (h21 : ∀ d i, P ⟨.hl .switched, d, i⟩) (h22 : ∀ d i, P ⟨.hl .preNext, d, i⟩) (h23 : ∀ d i, P ⟨.hl .farCount, d, i⟩) (h24 : ∀ d i, P ⟨.hl .countdown, d, i⟩) (h25 : ∀ d i, P ⟨.hl .farPreCap, d, i⟩) (h26 : ∀ d i, P ⟨.hl .capsRun, d, i⟩) (h27 : ∀ d i, P ⟨.hl .readyLeft, d, i⟩) (h28 : ∀ d i, P ⟨.hl .readyRun, d, i⟩) (h29 : ∀ d i, P ⟨.hl .rxReady, d, i⟩) (h30 : ∀ d i, P ⟨.hl .badRun, d, i⟩) (h31 : ∀ d i, P ⟨.hl .goodRun, d, i⟩) (h32 : ∀ d i, P ⟨.hl .fLock, d, i⟩) (h33 : ∀ d i, P ⟨.pwr .lateWake, d, i⟩) (h34 : ∀ d i, P ⟨.pwr .wakeGroup, d, i⟩) (h35 : ∀ d i, P ⟨.pwr .wakeDelay, d, i⟩) (h36 : ∀ d i, P ⟨.pwr .wakeEn, d, i⟩) (qreports : Q .reports) :
    Reach P Q s0 (State.ksEnter s mask en delay) := by
  unfold State.ksEnter
  repeat' with_reducible first | assumption | apply State.each_reach | apply State.ksBegin_reach | apply State.set_reach | (intros; show P _ = true; apply_assumption) | split | dsimp only | intro _

theorem State.wakeIgnored_reach (hs : Reach P Q s0 s) (h1 : ∀ i, P ⟨.pwr .nWakeIgnored, 0, i⟩) :
    Reach P Q s0 (State.wakeIgnored s) := by
  unfold State.wakeIgnored
  repeat' with_reducible first | assumption | apply State.inc_reach | (intros; show P _ = true; apply_assumption) | split | dsimp only | intro _

theorem State.wakeInfo_reach {src : Nat} {bell : Nat} (hs : Reach P Q s0 s) (h1 : ∀ i, P ⟨.pwr .nWake, 0, i⟩) (h2 : ∀ i, P ⟨.ao .wakeCarrier, 0, i⟩) (h3 : ∀ i, P ⟨.ao .wakeSource, 0, i⟩) :
    Reach P Q s0 (State.wakeInfo s src bell) := by
  unfold State.wakeInfo
  repeat' with_reducible first | assumption | apply State.inc_reach | apply State.set_reach | (intros; show P _ = true; apply_assumption) | split | dsimp only | intro _

theorem State.keysAgain_reach {d : Nat} (hs : Reach P Q s0 s) (h1 : ∀ i, P ⟨.cry .rxState, d, i⟩) (h2 : ∀ i, P ⟨.cry .txState, d, i⟩) (h3 : ∀ i, P ⟨.cry .restore, d, i⟩) :
    Reach P Q s0 (State.keysAgain s d) := by
  unfold State.keysAgain
  repeat' with_reducible first | assumption | apply State.each_reach | apply State.set_reach | apply State.when_reach | (intros; show P _ = true; apply_assumption) | split | dsimp only | intro _

theorem State.startWake_reach {d : Nat} {src : Nat} {bell : Nat} (hs : Reach P Q s0 s) (h1 : ∀ i, P ⟨.pwr .nWake, 0, i⟩) (h2 : ∀ i, P ⟨.ao .wakeCarrier, 0, i⟩) (h3 : ∀ i, P ⟨.ao .wakeSource, 0, i⟩) (h4 : ∀ i, P ⟨.pwr .wakeEn, d, i⟩) (h5 : ∀ i, P ⟨.sys .dieReleased, 0, i⟩) (h6 : ∀ i, P ⟨.pwr .stage, d, i⟩) (h7 : ∀ i, P ⟨.chn .attempt, d, i⟩) (h8 : ∀ i, P ⟨.chn .state, d, i⟩) (h9 : ∀ i, P ⟨.chn .portEn, d, i⟩) (h10 : ∀ i, P ⟨.cry .rxState, d, i⟩) (h11 : ∀ i, P ⟨.cry .txState, d, i⟩) (h12 : ∀ i, P ⟨.cry .restore, d, i⟩) (h13 : ∀ i, P ⟨.sbg .wrapCtr, 0, i⟩) (h14 : ∀ i, P ⟨.sbg .kwOk, 0, i⟩) (h15 : ∀ i, P ⟨.sbg .drbgCount, 0, i⟩) (h16 : ∀ i, P ⟨.sbg .nDrbgReseed, 0, i⟩) (h17 : ∀ i, P ⟨.sbg .xtsPend, 0, i⟩) (h18 : ∀ i, P ⟨.sticky .panDown, d, i⟩) (h19 : ∀ i, P ⟨.live .panDown, d, i⟩) (h20 : ∀ i, P ⟨.pan .state, d, i⟩) (h21 : ∀ i, P ⟨.sticky .lrCdNearLimit, d, i⟩) (h22 : ∀ i, P ⟨.live .lrCdNearLimit, d, i⟩) (h23 : ∀ i, P ⟨.lr .cdEstValid, d, i⟩) (h24 : ∀ i, P ⟨.lr .cdEst, d, i⟩) (h25 : ∀ i, P ⟨.lt .muteCause, d, i⟩) (h26 : ∀ i, P ⟨.lt .ramp, d, i⟩) (h27 : ∀ i, P ⟨.lt .txState, d, i⟩) (h28 : ∀ i, P ⟨.lt .otherCause, d, i⟩) (h29 : ∀ i, P ⟨.bias .ptState, d, i⟩) (h30 : ∀ i, P ⟨.bias .ptAcq, d, i⟩) (h31 : ∀ i, P ⟨.bias .ptV, d, i⟩) (h32 : ∀ i, P ⟨.bias .ptBase, d, i⟩) (h33 : ∀ i, P ⟨.lt .nMuteEnter, d, i⟩) (h34 : ∀ i, P ⟨.lt .begun4, d, i⟩) (h35 : ∀ i, P ⟨.sticky .ltTxDown, d, i⟩) (h36 : ∀ i, P ⟨.live .ltTxDown, d, i⟩) (h37 : ∀ i, P ⟨.sticky .lrLoLost, d, i⟩) (h38 : ∀ i, P ⟨.live .lrLoLost, d, i⟩) (h39 : ∀ i, P ⟨.lr .rxSf, d, i⟩) (h40 : ∀ i, P ⟨.lr .rxState, d, i⟩) (h41 : ∀ i, P ⟨.lr .missed, d, i⟩) (h42 : ∀ i, P ⟨.lr .winLocked, d, i⟩) (h43 : ∀ i, P ⟨.tim .evtNext, d, i⟩) (h44 : ∀ i, P ⟨.tim .evtAt, d, i⟩) (h45 : ∀ d i, P ⟨.sticky .ctnSf, d, i⟩) (h46 : ∀ d i, P ⟨.live .ctnSf, d, i⟩) (h47 : ∀ i, P ⟨.sticky .ctOof, d, i⟩) (h48 : ∀ i, P ⟨.live .ctOof, d, i⟩) (h49 : ∀ i, P ⟨.sticky .ctLof, d, i⟩) (h50 : ∀ i, P ⟨.live .ctLof, d, i⟩) (h51 : ∀ i, P ⟨.ct .candCount, d, i⟩) (h52 : ∀ i, P ⟨.ct .align, d, i⟩) (h53 : ∀ i, P ⟨.ct .lof, d, i⟩) (h54 : ∀ i, P ⟨.ct .nOofEnter, d, i⟩) (h55 : ∀ i, P ⟨.ct .mfasSeen, d, i⟩) (h56 : ∀ i, P ⟨.ct .misses, d, i⟩) (h57 : ∀ i, P ⟨.ct .inFrame, d, i⟩) (h58 : ∀ i, P ⟨.sticky .fecSf, d, i⟩) (h59 : ∀ i, P ⟨.live .fecSf, d, i⟩) (h60 : ∀ i, P ⟨.fec .iterCap, d, i⟩) (h61 : ∀ i, P ⟨.fec .lockState, d, i⟩) (h62 : ∀ i, P ⟨.fec .failRun, d, i⟩) (h63 : ∀ i, P ⟨.fec .candAt, d, i⟩) (h64 : ∀ i, P ⟨.sticky .lrRxDown, d, i⟩) (h65 : ∀ i, P ⟨.live .lrRxDown, d, i⟩) (h66 : ∀ i, P ⟨.lr .fastRun, d, i⟩) (h67 : ∀ i, P ⟨.lr .acqRetryLeft, d, i⟩) (h68 : ∀ i, P ⟨.lr .nAcqAttempt, d, i⟩) (h69 : ∀ i, P ⟨.hl .portEn, d, i⟩) (h70 : ∀ i, P ⟨.sticky .hlpLinkDown, d, i⟩) (h71 : ∀ i, P ⟨.live .hlpLinkDown, d, i⟩) (h72 : ∀ i, P ⟨.hl .pGear, d, i⟩) (h73 : ∀ i, P ⟨.hl .pState, d, i⟩) (h74 : ∀ i, P ⟨.boot .procCalled, 0, i⟩) (h75 : ∀ i, P ⟨.boot .procCode, 0, i⟩) (h76 : ∀ i, P ⟨.boot .procDone, 0, i⟩) (h77 : ∀ i, P ⟨.hl .corrTx, d, i⟩) (h78 : ∀ i, P ⟨.hl .corrRx, d, i⟩) (h79 : ∀ i, P ⟨.hl .state, d, i⟩) (h80 : ∀ i, P ⟨.hl .cdrLock, d, i⟩) (h81 : ∀ i, P ⟨.hl .preRx, d, i⟩) (h82 : ∀ i, P ⟨.hl .preTx, d, i⟩) (h83 : ∀ i, P ⟨.hl .eqCp1, d, i⟩) (h84 : ∀ i, P ⟨.hl .eqCm1, d, i⟩) (h85 : ∀ i, P ⟨.hl .eqCm2, d, i⟩) (h86 : ∀ i, P ⟨.hl .gear, d, i⟩) (h87 : ∀ i, P ⟨.hl .idleRun, d, i⟩) (h88 : ∀ i, P ⟨.hl .keep, d, i⟩) (h89 : ∀ i, P ⟨.hl .relock, d, i⟩) (h90 : ∀ i, P ⟨.hl .waitSig, d, i⟩) (h91 : ∀ i, P ⟨.hl .reqResult, d, i⟩) (h92 : ∀ i, P ⟨.hl .reqSeq, d, i⟩) (h93 : ∀ i, P ⟨.hl .stepFails, d, i⟩) (h94 : ∀ i, P ⟨.hl .fellBack, d, i⟩) (h95 : ∀ i, P ⟨.hl .switched, d, i⟩) (h96 : ∀ i, P ⟨.hl .preNext, d, i⟩) (h97 : ∀ i, P ⟨.hl .farCount, d, i⟩) (h98 : ∀ i, P ⟨.hl .countdown, d, i⟩) (h99 : ∀ i, P ⟨.hl .farPreCap, d, i⟩) (h100 : ∀ i, P ⟨.hl .capsRun, d, i⟩) (h101 : ∀ i, P ⟨.hl .readyLeft, d, i⟩) (h102 : ∀ i, P ⟨.hl .readyRun, d, i⟩) (h103 : ∀ i, P ⟨.hl .rxReady, d, i⟩) (h104 : ∀ i, P ⟨.hl .badRun, d, i⟩) (h105 : ∀ i, P ⟨.hl .goodRun, d, i⟩) (h106 : ∀ i, P ⟨.hl .fLock, d, i⟩) (h107 : ∀ i, P ⟨.hl .nNegAttempt, d, i⟩) (qreports : Q .reports) (qcands : Q .cands) :
    Reach P Q s0 (State.startWake s d src bell) := by
  unfold State.startWake
  repeat' with_reducible first | assumption | apply State.wakeInfo_reach | apply State.set_reach | apply State.setStage_reach | apply State.each_reach | apply State.chainEnable_reach | apply State.when_reach | apply State.keysAgain_reach | apply State.wrapNonce_reach | apply State.panState_reach | apply State.cdNear_reach | apply State.muteRefresh_reach | apply State.opticsRefresh_reach | apply State.rxAttempt_reach | apply State.lofFollow_reach | apply State.portStart_reach | (intros; show P _ = true; apply_assumption) | split | dsimp only | intro _

theorem State.ksReverse_reach {d : Nat} (hs : Reach P Q s0 s) (h1 : ∀ i, P ⟨.pwr .wakeEn, d, i⟩) (h2 : ∀ i, P ⟨.pwr .stage, d, i⟩) (h3 : ∀ i, P ⟨.lt .otherCause, d, i⟩) (h4 : ∀ i, P ⟨.lt .sysCause, d, i⟩) (h5 : ∀ i, P ⟨.lt .muteCause, d, i⟩) (h6 : ∀ i, P ⟨.lt .ramp, d, i⟩) (h7 : ∀ i, P ⟨.lt .txState, d, i⟩) (h8 : ∀ i, P ⟨.bias .ptState, d, i⟩) (h9 : ∀ i, P ⟨.bias .ptAcq, d, i⟩) (h10 : ∀ i, P ⟨.bias .ptV, d, i⟩) (h11 : ∀ i, P ⟨.bias .ptBase, d, i⟩) (h12 : ∀ i, P ⟨.lt .nMuteEnter, d, i⟩) (h13 : ∀ i, P ⟨.lt .begun4, d, i⟩) (h14 : ∀ i, P ⟨.sticky .ltTxDown, d, i⟩) (h15 : ∀ i, P ⟨.live .ltTxDown, d, i⟩) (h16 : ∀ i, P ⟨.sticky .panDown, d, i⟩) (h17 : ∀ i, P ⟨.live .panDown, d, i⟩) (h18 : ∀ i, P ⟨.pan .state, d, i⟩) (h19 : ∀ i, P ⟨.sticky .hlpLinkDown, d, i⟩) (h20 : ∀ i, P ⟨.live .hlpLinkDown, d, i⟩) (h21 : ∀ i, P ⟨.hl .pGear, d, i⟩) (h22 : ∀ i, P ⟨.hl .pState, d, i⟩) (h23 : ∀ i, P ⟨.boot .procCalled, 0, i⟩) (h24 : ∀ i, P ⟨.boot .procCode, 0, i⟩) (h25 : ∀ i, P ⟨.boot .procDone, 0, i⟩) (h26 : ∀ i, P ⟨.hl .corrTx, d, i⟩) (h27 : ∀ i, P ⟨.hl .corrRx, d, i⟩) (h28 : ∀ i, P ⟨.hl .idleReq, d, i⟩) (h29 : ∀ i, P ⟨.live .hllLol, d, i⟩) (h30 : ∀ i, P ⟨.hl .cdrLock, d, i⟩) (h31 : ∀ i, P ⟨.hl .sig, d, i⟩) (h32 : ∀ i, P ⟨.hl .idleRun, d, i⟩) (h33 : ∀ i, P ⟨.hl .keep, d, i⟩) (h34 : ∀ i, P ⟨.hl .relock, d, i⟩) (h35 : ∀ i, P ⟨.hl .state, d, i⟩) (h36 : ∀ i, P ⟨.hl .nIdleExit, d, i⟩) (h37 : ∀ i, P ⟨.hl .preRx, d, i⟩) (h38 : ∀ i, P ⟨.hl .preTx, d, i⟩) (h39 : ∀ i, P ⟨.hl .eqCp1, d, i⟩) (h40 : ∀ i, P ⟨.hl .eqCm1, d, i⟩) (h41 : ∀ i, P ⟨.hl .eqCm2, d, i⟩) (h42 : ∀ i, P ⟨.hl .gear, d, i⟩) (h43 : ∀ i, P ⟨.hl .waitSig, d, i⟩) (h44 : ∀ i, P ⟨.hl .reqResult, d, i⟩) (h45 : ∀ i, P ⟨.hl .reqSeq, d, i⟩) (h46 : ∀ i, P ⟨.hl .stepFails, d, i⟩) (h47 : ∀ i, P ⟨.hl .fellBack, d, i⟩) (h48 : ∀ i, P ⟨.hl .switched, d, i⟩) (h49 : ∀ i, P ⟨.hl .preNext, d, i⟩) (h50 : ∀ i, P ⟨.hl .farCount, d, i⟩) (h51 : ∀ i, P ⟨.hl .countdown, d, i⟩) (h52 : ∀ i, P ⟨.hl .farPreCap, d, i⟩) (h53 : ∀ i, P ⟨.hl .capsRun, d, i⟩) (h54 : ∀ i, P ⟨.hl .readyLeft, d, i⟩) (h55 : ∀ i, P ⟨.hl .readyRun, d, i⟩) (h56 : ∀ i, P ⟨.hl .rxReady, d, i⟩) (h57 : ∀ i, P ⟨.hl .badRun, d, i⟩) (h58 : ∀ i, P ⟨.hl .goodRun, d, i⟩) (h59 : ∀ i, P ⟨.hl .fLock, d, i⟩) (h60 : ∀ i, P ⟨.hl .nNegAttempt, d, i⟩) (qreports : Q .reports) :
    Reach P Q s0 (State.ksReverse s d) := by
  unfold State.ksReverse
  repeat' with_reducible first | assumption | apply State.set_reach | apply State.setStage_reach | apply State.when_reach | apply State.muteRefresh_reach | apply State.panState_reach | apply State.each_reach | apply State.portWake_reach | (intros; show P _ = true; apply_assumption) | split | dsimp only | intro _

theorem State.wakeDie_reach {d : Nat} {src : Nat} {bell : Nat} (hs : Reach P Q s0 s) (h1 : ∀ i, P ⟨.pwr .nWakeIgnored, 0, i⟩) (h2 : ∀ i, P ⟨.pwr .nWake, 0, i⟩) (h3 : ∀ i, P ⟨.ao .wakeCarrier, 0, i⟩) (h4 : ∀ i, P ⟨.ao .wakeSource, 0, i⟩) (h5 : ∀ i, P ⟨.pwr .wakeEn, d, i⟩) (h6 : ∀ i, P ⟨.sys .dieReleased, 0, i⟩) (h7 : ∀ i, P ⟨.pwr .stage, d, i⟩) (h8 : ∀ i, P ⟨.chn .attempt, d, i⟩) (h9 : ∀ i, P ⟨.chn .state, d, i⟩) (h10 : ∀ i, P ⟨.chn .portEn, d, i⟩) (h11 : ∀ i, P ⟨.cry .rxState, d, i⟩) (h12 : ∀ i, P ⟨.cry .txState, d, i⟩) (h13 : ∀ i, P ⟨.cry .restore, d, i⟩) (h14 : ∀ i, P ⟨.sbg .wrapCtr, 0, i⟩) (h15 : ∀ i, P ⟨.sbg .kwOk, 0, i⟩) (h16 : ∀ i, P ⟨.sbg .drbgCount, 0, i⟩) (h17 : ∀ i, P ⟨.sbg .nDrbgReseed, 0, i⟩) (h18 : ∀ i, P ⟨.sbg .xtsPend, 0, i⟩) (h19 : ∀ i, P ⟨.sticky .panDown, d, i⟩) (h20 : ∀ i, P ⟨.live .panDown, d, i⟩) (h21 : ∀ i, P ⟨.pan .state, d, i⟩) (h22 : ∀ i, P ⟨.sticky .lrCdNearLimit, d, i⟩) (h23 : ∀ i, P ⟨.live .lrCdNearLimit, d, i⟩) (h24 : ∀ i, P ⟨.lr .cdEstValid, d, i⟩) (h25 : ∀ i, P ⟨.lr .cdEst, d, i⟩) (h26 : ∀ i, P ⟨.lt .muteCause, d, i⟩) (h27 : ∀ i, P ⟨.lt .ramp, d, i⟩) (h28 : ∀ i, P ⟨.lt .txState, d, i⟩) (h29 : ∀ i, P ⟨.lt .otherCause, d, i⟩) (h30 : ∀ i, P ⟨.bias .ptState, d, i⟩) (h31 : ∀ i, P ⟨.bias .ptAcq, d, i⟩) (h32 : ∀ i, P ⟨.bias .ptV, d, i⟩) (h33 : ∀ i, P ⟨.bias .ptBase, d, i⟩) (h34 : ∀ i, P ⟨.lt .nMuteEnter, d, i⟩) (h35 : ∀ i, P ⟨.lt .begun4, d, i⟩) (h36 : ∀ i, P ⟨.sticky .ltTxDown, d, i⟩) (h37 : ∀ i, P ⟨.live .ltTxDown, d, i⟩) (h38 : ∀ i, P ⟨.sticky .lrLoLost, d, i⟩) (h39 : ∀ i, P ⟨.live .lrLoLost, d, i⟩) (h40 : ∀ i, P ⟨.lr .rxSf, d, i⟩) (h41 : ∀ i, P ⟨.lr .rxState, d, i⟩) (h42 : ∀ i, P ⟨.lr .missed, d, i⟩) (h43 : ∀ i, P ⟨.lr .winLocked, d, i⟩) (h44 : ∀ i, P ⟨.tim .evtNext, d, i⟩) (h45 : ∀ i, P ⟨.tim .evtAt, d, i⟩) (h46 : ∀ d i, P ⟨.sticky .ctnSf, d, i⟩) (h47 : ∀ d i, P ⟨.live .ctnSf, d, i⟩) (h48 : ∀ i, P ⟨.sticky .ctOof, d, i⟩) (h49 : ∀ i, P ⟨.live .ctOof, d, i⟩) (h50 : ∀ i, P ⟨.sticky .ctLof, d, i⟩) (h51 : ∀ i, P ⟨.live .ctLof, d, i⟩) (h52 : ∀ i, P ⟨.ct .candCount, d, i⟩) (h53 : ∀ i, P ⟨.ct .align, d, i⟩) (h54 : ∀ i, P ⟨.ct .lof, d, i⟩) (h55 : ∀ i, P ⟨.ct .nOofEnter, d, i⟩) (h56 : ∀ i, P ⟨.ct .mfasSeen, d, i⟩) (h57 : ∀ i, P ⟨.ct .misses, d, i⟩) (h58 : ∀ i, P ⟨.ct .inFrame, d, i⟩) (h59 : ∀ i, P ⟨.sticky .fecSf, d, i⟩) (h60 : ∀ i, P ⟨.live .fecSf, d, i⟩) (h61 : ∀ i, P ⟨.fec .iterCap, d, i⟩) (h62 : ∀ i, P ⟨.fec .lockState, d, i⟩) (h63 : ∀ i, P ⟨.fec .failRun, d, i⟩) (h64 : ∀ i, P ⟨.fec .candAt, d, i⟩) (h65 : ∀ i, P ⟨.sticky .lrRxDown, d, i⟩) (h66 : ∀ i, P ⟨.live .lrRxDown, d, i⟩) (h67 : ∀ i, P ⟨.lr .fastRun, d, i⟩) (h68 : ∀ i, P ⟨.lr .acqRetryLeft, d, i⟩) (h69 : ∀ i, P ⟨.lr .nAcqAttempt, d, i⟩) (h70 : ∀ i, P ⟨.hl .portEn, d, i⟩) (h71 : ∀ i, P ⟨.sticky .hlpLinkDown, d, i⟩) (h72 : ∀ i, P ⟨.live .hlpLinkDown, d, i⟩) (h73 : ∀ i, P ⟨.hl .pGear, d, i⟩) (h74 : ∀ i, P ⟨.hl .pState, d, i⟩) (h75 : ∀ i, P ⟨.boot .procCalled, 0, i⟩) (h76 : ∀ i, P ⟨.boot .procCode, 0, i⟩) (h77 : ∀ i, P ⟨.boot .procDone, 0, i⟩) (h78 : ∀ i, P ⟨.hl .corrTx, d, i⟩) (h79 : ∀ i, P ⟨.hl .corrRx, d, i⟩) (h80 : ∀ i, P ⟨.hl .state, d, i⟩) (h81 : ∀ i, P ⟨.hl .cdrLock, d, i⟩) (h82 : ∀ i, P ⟨.hl .preRx, d, i⟩) (h83 : ∀ i, P ⟨.hl .preTx, d, i⟩) (h84 : ∀ i, P ⟨.hl .eqCp1, d, i⟩) (h85 : ∀ i, P ⟨.hl .eqCm1, d, i⟩) (h86 : ∀ i, P ⟨.hl .eqCm2, d, i⟩) (h87 : ∀ i, P ⟨.hl .gear, d, i⟩) (h88 : ∀ i, P ⟨.hl .idleRun, d, i⟩) (h89 : ∀ i, P ⟨.hl .keep, d, i⟩) (h90 : ∀ i, P ⟨.hl .relock, d, i⟩) (h91 : ∀ i, P ⟨.hl .waitSig, d, i⟩) (h92 : ∀ i, P ⟨.hl .reqResult, d, i⟩) (h93 : ∀ i, P ⟨.hl .reqSeq, d, i⟩) (h94 : ∀ i, P ⟨.hl .stepFails, d, i⟩) (h95 : ∀ i, P ⟨.hl .fellBack, d, i⟩) (h96 : ∀ i, P ⟨.hl .switched, d, i⟩) (h97 : ∀ i, P ⟨.hl .preNext, d, i⟩) (h98 : ∀ i, P ⟨.hl .farCount, d, i⟩) (h99 : ∀ i, P ⟨.hl .countdown, d, i⟩) (h100 : ∀ i, P ⟨.hl .farPreCap, d, i⟩) (h101 : ∀ i, P ⟨.hl .capsRun, d, i⟩) (h102 : ∀ i, P ⟨.hl .readyLeft, d, i⟩) (h103 : ∀ i, P ⟨.hl .readyRun, d, i⟩) (h104 : ∀ i, P ⟨.hl .rxReady, d, i⟩) (h105 : ∀ i, P ⟨.hl .badRun, d, i⟩) (h106 : ∀ i, P ⟨.hl .goodRun, d, i⟩) (h107 : ∀ i, P ⟨.hl .fLock, d, i⟩) (h108 : ∀ i, P ⟨.hl .nNegAttempt, d, i⟩) (h109 : ∀ i, P ⟨.pwr .nKsLateWake, 0, i⟩) (h110 : ∀ i, P ⟨.pwr .lateBell, d, i⟩) (h111 : ∀ i, P ⟨.pwr .lateWake, d, i⟩) (h112 : ∀ i, P ⟨.pwr .nKsReverse, 0, i⟩) (h113 : ∀ i, P ⟨.lt .sysCause, d, i⟩) (h114 : ∀ i, P ⟨.hl .idleReq, d, i⟩) (h115 : ∀ i, P ⟨.live .hllLol, d, i⟩) (h116 : ∀ i, P ⟨.hl .sig, d, i⟩) (h117 : ∀ i, P ⟨.hl .nIdleExit, d, i⟩) (qreports : Q .reports) (qcands : Q .cands) :
    Reach P Q s0 (State.wakeDie s d src bell) := by
  unfold State.wakeDie
  repeat' with_reducible first | assumption | apply State.wakeIgnored_reach | apply State.startWake_reach | apply State.inc_reach | apply State.set_reach | apply State.wakeInfo_reach | apply State.ksReverse_reach | (intros; show P _ = true; apply_assumption) | split | dsimp only | intro _

theorem State.ksLeave_reach {mask : Nat} (hs : Reach P Q s0 s) (h1 : ∀ i, P ⟨.pwr .nWakeIgnored, 0, i⟩) (h2 : ∀ i, P ⟨.pwr .nWake, 0, i⟩) (h3 : ∀ i, P ⟨.ao .wakeCarrier, 0, i⟩) (h4 : ∀ i, P ⟨.ao .wakeSource, 0, i⟩) (h5 : ∀ d i, P ⟨.pwr .wakeEn, d, i⟩) (h6 : ∀ i, P ⟨.sys .dieReleased, 0, i⟩) (h7 : ∀ d i, P ⟨.pwr .stage, d, i⟩) (h8 : ∀ d i, P ⟨.chn .attempt, d, i⟩) (h9 : ∀ d i, P ⟨.chn .state, d, i⟩) (h10 : ∀ d i, P ⟨.chn .portEn, d, i⟩) (h11 : ∀ d i, P ⟨.cry .rxState, d, i⟩) (h12 : ∀ d i, P ⟨.cry .txState, d, i⟩) (h13 : ∀ d i, P ⟨.cry .restore, d, i⟩) (h14 : ∀ i, P ⟨.sbg .wrapCtr, 0, i⟩) (h15 : ∀ i, P ⟨.sbg .kwOk, 0, i⟩) (h16 : ∀ i, P ⟨.sbg .drbgCount, 0, i⟩) (h17 : ∀ i, P ⟨.sbg .nDrbgReseed, 0, i⟩) (h18 : ∀ i, P ⟨.sbg .xtsPend, 0, i⟩) (h19 : ∀ d i, P ⟨.sticky .panDown, d, i⟩) (h20 : ∀ d i, P ⟨.live .panDown, d, i⟩) (h21 : ∀ d i, P ⟨.pan .state, d, i⟩) (h22 : ∀ d i, P ⟨.sticky .lrCdNearLimit, d, i⟩) (h23 : ∀ d i, P ⟨.live .lrCdNearLimit, d, i⟩) (h24 : ∀ d i, P ⟨.lr .cdEstValid, d, i⟩) (h25 : ∀ d i, P ⟨.lr .cdEst, d, i⟩) (h26 : ∀ d i, P ⟨.lt .muteCause, d, i⟩) (h27 : ∀ d i, P ⟨.lt .ramp, d, i⟩) (h28 : ∀ d i, P ⟨.lt .txState, d, i⟩) (h29 : ∀ d i, P ⟨.lt .otherCause, d, i⟩) (h30 : ∀ d i, P ⟨.bias .ptState, d, i⟩) (h31 : ∀ d i, P ⟨.bias .ptAcq, d, i⟩) (h32 : ∀ d i, P ⟨.bias .ptV, d, i⟩) (h33 : ∀ d i, P ⟨.bias .ptBase, d, i⟩) (h34 : ∀ d i, P ⟨.lt .nMuteEnter, d, i⟩) (h35 : ∀ d i, P ⟨.lt .begun4, d, i⟩) (h36 : ∀ d i, P ⟨.sticky .ltTxDown, d, i⟩) (h37 : ∀ d i, P ⟨.live .ltTxDown, d, i⟩) (h38 : ∀ d i, P ⟨.sticky .lrLoLost, d, i⟩) (h39 : ∀ d i, P ⟨.live .lrLoLost, d, i⟩) (h40 : ∀ d i, P ⟨.lr .rxSf, d, i⟩) (h41 : ∀ d i, P ⟨.lr .rxState, d, i⟩) (h42 : ∀ d i, P ⟨.lr .missed, d, i⟩) (h43 : ∀ d i, P ⟨.lr .winLocked, d, i⟩) (h44 : ∀ d i, P ⟨.tim .evtNext, d, i⟩) (h45 : ∀ d i, P ⟨.tim .evtAt, d, i⟩) (h46 : ∀ d i, P ⟨.sticky .ctnSf, d, i⟩) (h47 : ∀ d i, P ⟨.live .ctnSf, d, i⟩) (h48 : ∀ d i, P ⟨.sticky .ctOof, d, i⟩) (h49 : ∀ d i, P ⟨.live .ctOof, d, i⟩) (h50 : ∀ d i, P ⟨.sticky .ctLof, d, i⟩) (h51 : ∀ d i, P ⟨.live .ctLof, d, i⟩) (h52 : ∀ d i, P ⟨.ct .candCount, d, i⟩) (h53 : ∀ d i, P ⟨.ct .align, d, i⟩) (h54 : ∀ d i, P ⟨.ct .lof, d, i⟩) (h55 : ∀ d i, P ⟨.ct .nOofEnter, d, i⟩) (h56 : ∀ d i, P ⟨.ct .mfasSeen, d, i⟩) (h57 : ∀ d i, P ⟨.ct .misses, d, i⟩) (h58 : ∀ d i, P ⟨.ct .inFrame, d, i⟩) (h59 : ∀ d i, P ⟨.sticky .fecSf, d, i⟩) (h60 : ∀ d i, P ⟨.live .fecSf, d, i⟩) (h61 : ∀ d i, P ⟨.fec .iterCap, d, i⟩) (h62 : ∀ d i, P ⟨.fec .lockState, d, i⟩) (h63 : ∀ d i, P ⟨.fec .failRun, d, i⟩) (h64 : ∀ d i, P ⟨.fec .candAt, d, i⟩) (h65 : ∀ d i, P ⟨.sticky .lrRxDown, d, i⟩) (h66 : ∀ d i, P ⟨.live .lrRxDown, d, i⟩) (h67 : ∀ d i, P ⟨.lr .fastRun, d, i⟩) (h68 : ∀ d i, P ⟨.lr .acqRetryLeft, d, i⟩) (h69 : ∀ d i, P ⟨.lr .nAcqAttempt, d, i⟩) (h70 : ∀ d i, P ⟨.hl .portEn, d, i⟩) (h71 : ∀ d i, P ⟨.sticky .hlpLinkDown, d, i⟩) (h72 : ∀ d i, P ⟨.live .hlpLinkDown, d, i⟩) (h73 : ∀ d i, P ⟨.hl .pGear, d, i⟩) (h74 : ∀ d i, P ⟨.hl .pState, d, i⟩) (h75 : ∀ i, P ⟨.boot .procCalled, 0, i⟩) (h76 : ∀ i, P ⟨.boot .procCode, 0, i⟩) (h77 : ∀ i, P ⟨.boot .procDone, 0, i⟩) (h78 : ∀ d i, P ⟨.hl .corrTx, d, i⟩) (h79 : ∀ d i, P ⟨.hl .corrRx, d, i⟩) (h80 : ∀ d i, P ⟨.hl .state, d, i⟩) (h81 : ∀ d i, P ⟨.hl .cdrLock, d, i⟩) (h82 : ∀ d i, P ⟨.hl .preRx, d, i⟩) (h83 : ∀ d i, P ⟨.hl .preTx, d, i⟩) (h84 : ∀ d i, P ⟨.hl .eqCp1, d, i⟩) (h85 : ∀ d i, P ⟨.hl .eqCm1, d, i⟩) (h86 : ∀ d i, P ⟨.hl .eqCm2, d, i⟩) (h87 : ∀ d i, P ⟨.hl .gear, d, i⟩) (h88 : ∀ d i, P ⟨.hl .idleRun, d, i⟩) (h89 : ∀ d i, P ⟨.hl .keep, d, i⟩) (h90 : ∀ d i, P ⟨.hl .relock, d, i⟩) (h91 : ∀ d i, P ⟨.hl .waitSig, d, i⟩) (h92 : ∀ d i, P ⟨.hl .reqResult, d, i⟩) (h93 : ∀ d i, P ⟨.hl .reqSeq, d, i⟩) (h94 : ∀ d i, P ⟨.hl .stepFails, d, i⟩) (h95 : ∀ d i, P ⟨.hl .fellBack, d, i⟩) (h96 : ∀ d i, P ⟨.hl .switched, d, i⟩) (h97 : ∀ d i, P ⟨.hl .preNext, d, i⟩) (h98 : ∀ d i, P ⟨.hl .farCount, d, i⟩) (h99 : ∀ d i, P ⟨.hl .countdown, d, i⟩) (h100 : ∀ d i, P ⟨.hl .farPreCap, d, i⟩) (h101 : ∀ d i, P ⟨.hl .capsRun, d, i⟩) (h102 : ∀ d i, P ⟨.hl .readyLeft, d, i⟩) (h103 : ∀ d i, P ⟨.hl .readyRun, d, i⟩) (h104 : ∀ d i, P ⟨.hl .rxReady, d, i⟩) (h105 : ∀ d i, P ⟨.hl .badRun, d, i⟩) (h106 : ∀ d i, P ⟨.hl .goodRun, d, i⟩) (h107 : ∀ d i, P ⟨.hl .fLock, d, i⟩) (h108 : ∀ d i, P ⟨.hl .nNegAttempt, d, i⟩) (h109 : ∀ i, P ⟨.pwr .nKsLateWake, 0, i⟩) (h110 : ∀ d i, P ⟨.pwr .lateBell, d, i⟩) (h111 : ∀ d i, P ⟨.pwr .lateWake, d, i⟩) (h112 : ∀ i, P ⟨.pwr .nKsReverse, 0, i⟩) (h113 : ∀ d i, P ⟨.lt .sysCause, d, i⟩) (h114 : ∀ d i, P ⟨.hl .idleReq, d, i⟩) (h115 : ∀ d i, P ⟨.live .hllLol, d, i⟩) (h116 : ∀ d i, P ⟨.hl .sig, d, i⟩) (h117 : ∀ d i, P ⟨.hl .nIdleExit, d, i⟩) (qreports : Q .reports) (qcands : Q .cands) :
    Reach P Q s0 (State.ksLeave s mask) := by
  unfold State.ksLeave
  repeat' with_reducible first | assumption | apply State.each_reach | apply State.wakeDie_reach | (intros; show P _ = true; apply_assumption) | split | dsimp only | intro _

theorem State.migrateFinish_reach {d : Nat} (hs : Reach P Q s0 s) (h1 : ∀ i, P ⟨.pan .nRetire, d, i⟩) (h2 : ∀ i, P ⟨.pan .records, d, i⟩) (h3 : ∀ i, P ⟨.win .panRetire, d, i⟩) (h4 : ∀ i, P ⟨.pan .nMigSkip, d, i⟩) (h5 : ∀ i, P ⟨.pan .nPoisonWr, d, i⟩) (h6 : ∀ i, P ⟨.pan .poison, d, i⟩) (h7 : ∀ i, P ⟨.pan .homeOf, d, i⟩) (h8 : ∀ i, P ⟨.pan .mapTo, d, i⟩) (h9 : ∀ i, P ⟨.pan .migHome, d, i⟩) (h10 : ∀ i, P ⟨.crr .nBytes, d, i⟩) (h11 : ∀ i, P ⟨.crr .nDescDone, d, i⟩) (h12 : ∀ i, P ⟨.crr .state, d, i⟩) (h13 : ∀ i, P ⟨.pan .migDirty, d, i⟩) :
    Reach P Q s0 (State.migrateFinish s d) := by
  unfold State.migrateFinish
  repeat' with_reducible first | assumption | apply State.migrateEnd_reach | (intros; show P _ = true; apply_assumption) | split | dsimp only | intro _

theorem State.ksGate_reach {d : Nat} (hs : Reach P Q s0 s) (h1 : ∀ i, P ⟨.pwr .nKsEnter, 0, i⟩) (h2 : ∀ i, P ⟨.sys .dieReleased, 0, i⟩) (h3 : ∀ c i, P ⟨c, d, i⟩) (qreports : Q .reports) (qheld : Q .held) (qcands : Q .cands) (qstaged : Q .staged) (qrings : Q .rings) (qtracker : Q .tracker) (qretireQ : Q .retireQ) (qmerge : Q .merge) (qdescs : Q .descs) (qfups : Q .fups) :
    Reach P Q s0 (State.ksGate s d) := by
  unfold State.ksGate
  repeat' with_reducible first | assumption | apply State.inc_reach | apply State.set_reach | apply State.setStage_reach | apply State.dieGone_reach | (intros; show P _ = true; apply_assumption) | split | dsimp only | intro _

theorem State.tbFromAo_reach (hs : Reach P Q s0 s) (h1 : ∀ i, P ⟨.tim .fromAo, 0, i⟩) (h2 : ∀ i, P ⟨.tim .tbNs, 0, i⟩) (h3 : ∀ i, P ⟨.tim .tbSec, 0, i⟩) :
    Reach P Q s0 (State.tbFromAo s) := by
  unfold State.tbFromAo
  repeat' with_reducible first | assumption | apply State.set_reach | apply State.each_reach | (intros; show P _ = true; apply_assumption) | split | dsimp only | intro _

theorem State.pkgWake_reach {src : Nat} {bell : Nat} (hs : Reach P Q s0 s) (h1 : ∀ k, P k) (qmbox : Q .mbox) (qreports : Q .reports) (qheld : Q .held) (qtickets : Q .tickets) (qrun : Q .run) (qpolicy : Q .policy) (qimgPolicy : Q .imgPolicy) (qtrust : Q .trust) (qcands : Q .cands) (qtelOut : Q .telOut) (qclsTab : Q .clsTab) (qstaged : Q .staged) (qrings : Q .rings) (qtracker : Q .tracker) (qretireQ : Q .retireQ) (qmerge : Q .merge) (qdescs : Q .descs) (qkch : Q .kch) (qfups : Q .fups) :
    Reach P Q s0 (State.pkgWake s src bell) := by
  unfold State.pkgWake
  repeat' with_reducible first | assumption | apply State.wakeInfo_reach | apply State.tbFromAo_reach | apply State.restart_reach | (intros; show P _ = true; apply_assumption) | split | dsimp only | intro _

theorem State.wakePkg_reach {src : Nat} {bell : Nat} (hs : Reach P Q s0 s) (h1 : ∀ k, P k) (qmbox : Q .mbox) (qreports : Q .reports) (qheld : Q .held) (qtickets : Q .tickets) (qrun : Q .run) (qpolicy : Q .policy) (qimgPolicy : Q .imgPolicy) (qtrust : Q .trust) (qcands : Q .cands) (qtelOut : Q .telOut) (qclsTab : Q .clsTab) (qstaged : Q .staged) (qrings : Q .rings) (qtracker : Q .tracker) (qretireQ : Q .retireQ) (qmerge : Q .merge) (qdescs : Q .descs) (qkch : Q .kch) (qfups : Q .fups) :
    Reach P Q s0 (State.wakePkg s src bell) := by
  unfold State.wakePkg
  repeat' with_reducible first | assumption | apply State.wakeIgnored_reach | apply State.pkgWake_reach | apply State.set_reach | apply State.inc_reach | apply State.wakeInfo_reach | apply State.each_reach | apply State.ksReverse_reach | (intros; show P _ = true; apply_assumption) | split | dsimp only | intro _

theorem execWakeNLow_reach (hs : Reach P Q s0 s) (h1 : ∀ k, P k) (qreports : Q .reports) (qmbox : Q .mbox) (qheld : Q .held) (qtickets : Q .tickets) (qrun : Q .run) (qpolicy : Q .policy) (qimgPolicy : Q .imgPolicy) (qtrust : Q .trust) (qcands : Q .cands) (qtelOut : Q .telOut) (qclsTab : Q .clsTab) (qstaged : Q .staged) (qrings : Q .rings) (qtracker : Q .tracker) (qretireQ : Q .retireQ) (qmerge : Q .merge) (qdescs : Q .descs) (qkch : Q .kch) (qfups : Q .fups) :
    ∃ t, execWakeNLow s = .next t ∧ Reach P Q s0 t := by
  unfold execWakeNLow
  repeat' with_reducible first | assumption | apply finishIf_reach | apply State.wakePkg_reach | apply State.each_reach | apply State.wakeDie_reach | (intros; show P _ = true; first | exact h1 _ | apply_assumption) | split | dsimp only | intro _

theorem State.wakeSource_reach {d : Nat} {src : Nat} (hs : Reach P Q s0 s) (h1 : ∀ k, P k) (qmbox : Q .mbox) (qreports : Q .reports) (qheld : Q .held) (qtickets : Q .tickets) (qrun : Q .run) (qpolicy : Q .policy) (qimgPolicy : Q .imgPolicy) (qtrust : Q .trust) (qcands : Q .cands) (qtelOut : Q .telOut) (qclsTab : Q .clsTab) (qstaged : Q .staged) (qrings : Q .rings) (qtracker : Q .tracker) (qretireQ : Q .retireQ) (qmerge : Q .merge) (qdescs : Q .descs) (qkch : Q .kch) (qfups : Q .fups) :
    Reach P Q s0 (State.wakeSource s d src) := by
  unfold State.wakeSource
  repeat' with_reducible first | assumption | apply State.wakePkg_reach | apply State.wakeDie_reach | (intros; show P _ = true; apply_assumption) | split | dsimp only | intro _

theorem execKsWakeSource_reach {d : Nat} {src : Nat} (hs : Reach P Q s0 s) (h1 : ∀ k, P k) (qreports : Q .reports) (qmbox : Q .mbox) (qheld : Q .held) (qtickets : Q .tickets) (qrun : Q .run) (qpolicy : Q .policy) (qimgPolicy : Q .imgPolicy) (qtrust : Q .trust) (qcands : Q .cands) (qtelOut : Q .telOut) (qclsTab : Q .clsTab) (qstaged : Q .staged) (qrings : Q .rings) (qtracker : Q .tracker) (qretireQ : Q .retireQ) (qmerge : Q .merge) (qdescs : Q .descs) (qkch : Q .kch) (qfups : Q .fups) :
    ∃ t, execKsWakeSource d src s = .next t ∧ Reach P Q s0 t := by
  unfold execKsWakeSource
  repeat' with_reducible first | assumption | apply finishIf_reach | apply State.wakeSource_reach | apply State.when_reach | apply State.set_reach | (intros; show P _ = true; first | exact h1 _ | apply_assumption) | split | dsimp only | intro _

theorem State.ksIsolateIn_reach {d : Nat} (hs : Reach P Q s0 s) (h1 : ∀ i, P ⟨.chn .state, d, i⟩) (h2 : ∀ i, P ⟨.pwr .stage, d, i⟩) :
    Reach P Q s0 (State.ksIsolateIn s d) := by
  unfold State.ksIsolateIn
  repeat' with_reducible first | assumption | apply State.set_reach | apply State.setStage_reach | (intros; show P _ = true; apply_assumption) | split | dsimp only | intro _

theorem State.abortAll_reach {d : Nat} {x2 : Nat} (hs : Reach P Q s0 s) (h1 : ∀ d i, P ⟨.sticky .crrAbort, d, i⟩) (h2 : ∀ d i, P ⟨.crr .nAbort, d, i⟩) (h3 : ∀ d i, P ⟨.sticky .panXtsFault, d, i⟩) (h4 : ∀ d i, P ⟨.live .panXtsFault, d, i⟩) (h5 : ∀ i, P ⟨.tkt .fetched, 0, i⟩) (h6 : ∀ d i, P ⟨.crr .depth, d, i⟩) (h7 : ∀ d i, P ⟨.crr .doneBytes, d, i⟩) (h8 : ∀ d i, P ⟨.crr .descIdx, d, i⟩) (h9 : ∀ d i, P ⟨.crr .cls, d, i⟩) (h10 : ∀ d i, P ⟨.crr .state, d, i⟩) (h11 : ∀ d i, P ⟨.crr .nBytes, d, i⟩) (h12 : ∀ d i, P ⟨.crr .nFault, d, i⟩) (h13 : ∀ d i, P ⟨.crr .faultAddr, d, i⟩) (h14 : ∀ d i, P ⟨.crr .faultSpace, d, i⟩) (h15 : ∀ d i, P ⟨.crr .fault, d, i⟩) (h16 : ∀ d i, P ⟨.sticky .crrHalt, d, i⟩) (h17 : ∀ d i, P ⟨.live .crrHalt, d, i⟩) (h18 : ∀ d i, P ⟨.sticky .crrPcie, d, i⟩) (h19 : ∀ i, P ⟨.sys .freeCount, 0, i⟩) (h20 : ∀ i, P ⟨.svc .suspender, 0, i⟩) (h21 : ∀ i, P ⟨.svc .owner, 0, i⟩) (h22 : ∀ i, P ⟨.svc .busy, 0, i⟩) (h23 : ∀ i, P ⟨.svc .nSuspend, 0, i⟩) (h24 : ∀ i, P ⟨.svc .s0Agent, 0, i⟩) (h25 : ∀ i, P ⟨.svc .s0Valid, 0, i⟩) (h26 : ∀ i, P ⟨.svc .s1Agent, 0, i⟩) (h27 : ∀ i, P ⟨.svc .s1Valid, 0, i⟩) (h28 : ∀ d i, P ⟨.crr .nCipherWait, d, i⟩) (h29 : ∀ i, P ⟨.svc .nWait, 0, i⟩) (h30 : ∀ i, P ⟨.svc .waiting, 0, i⟩) (h31 : ∀ i, P ⟨.svc .crrHolder, 0, i⟩) (h32 : ∀ i, P ⟨.svc .retried, 0, i⟩) (h33 : ∀ i, P ⟨.svc .nMsg, 0, i⟩) (h34 : ∀ i, P ⟨.tkt .hashFail, 0, i⟩) (h35 : ∀ i, P ⟨.sticky .sbgSvcFault, 0, i⟩) (h36 : ∀ i, P ⟨.live .sbgSvcFault, 0, i⟩) (h37 : ∀ i, P ⟨.svc .nCheckFail, 0, i⟩) (h38 : ∀ i, P ⟨.svc .nSuspFail, 0, i⟩) (qreports : Q .reports) (qdescs : Q .descs) :
    Reach P Q s0 (State.abortAll s d x2) := by
  induction x2 generalizing s with
  | zero => exact hs
  | succ n ih =>
    unfold State.abortAll
    repeat' with_reducible first | assumption | apply ih | apply State.abortAll_reach | apply State.descAbort_reach | (intros; show P _ = true; apply_assumption) | split | dsimp only | intro _

theorem State.ksDiscard_reach {d : Nat} {q : Nat} (hs : Reach P Q s0 s) (h1 : ∀ i, P ⟨.qs .gapPend, d, i⟩) (h2 : ∀ i, P ⟨.sticky .qsBrakeOn, d, i⟩) (h3 : ∀ i, P ⟨.live .qsBrakeOn, d, i⟩) (h4 : ∀ i, P ⟨.qs .brake, d, i⟩) (h5 : ∀ i, P ⟨.qs .qXoff, d, i⟩) (h6 : ∀ i, P ⟨.hl .pXoff, d, i⟩) (h7 : ∀ i, P ⟨.qs .dieOcc, d, i⟩) (h8 : ∀ i, P ⟨.qs .occWords, d, i⟩) (h9 : ∀ i, P ⟨.qs .rd, d, i⟩) (h10 : ∀ i, P ⟨.pwr .nKsDrainDisc, 0, i⟩) (h11 : ∀ i, P ⟨.trc .nLost, d, i⟩) (h12 : ∀ i, P ⟨.win .trcBuf, d, i⟩) (h13 : ∀ i, P ⟨.trc .count, d, i⟩) (h14 : ∀ i, P ⟨.trc .trcNext, d, i⟩) (h15 : ∀ i, P ⟨.sticky .trcFull, d, i⟩) (h16 : ∀ i, P ⟨.live .trcFull, d, i⟩) (h17 : ∀ i, P ⟨.sticky .telOvf, 0, i⟩) (h18 : ∀ i, P ⟨.tel .dropped, 0, i⟩) (h19 : ∀ i, P ⟨.tel .nDrop, 0, i⟩) (h20 : ∀ i, P ⟨.tel .written, 0, i⟩) (qrings : Q .rings) (qreports : Q .reports) (qtelOut : Q .telOut) :
    Reach P Q s0 (State.ksDiscard s d q) := by
  unfold State.ksDiscard
  repeat' with_reducible first | assumption | apply State.set_reach | apply State.occSub_reach | apply State.add_reach | apply State.each_reach | apply State.traceItem_reach | (intros; show P _ = true; apply_assumption) | split | dsimp only | intro _ | apply State.rings_reach

theorem State.ksClocks_reach {d : Nat} (hs : Reach P Q s0 s) (h1 : ∀ i, P ⟨.pan .nRetire, d, i⟩) (h2 : ∀ i, P ⟨.pan .records, d, i⟩) (h3 : ∀ i, P ⟨.win .panRetire, d, i⟩) (h4 : ∀ i, P ⟨.pan .nMigSkip, d, i⟩) (h5 : ∀ i, P ⟨.pan .nPoisonWr, d, i⟩) (h6 : ∀ i, P ⟨.pan .poison, d, i⟩) (h7 : ∀ i, P ⟨.pan .homeOf, d, i⟩) (h8 : ∀ i, P ⟨.pan .mapTo, d, i⟩) (h9 : ∀ i, P ⟨.pan .migHome, d, i⟩) (h10 : ∀ i, P ⟨.crr .nDescDone, d, i⟩) (h11 : ∀ i, P ⟨.pan .migDirty, d, i⟩) (h12 : ∀ d i, P ⟨.sticky .crrAbort, d, i⟩) (h13 : ∀ d i, P ⟨.crr .nAbort, d, i⟩) (h14 : ∀ d i, P ⟨.sticky .panXtsFault, d, i⟩) (h15 : ∀ d i, P ⟨.live .panXtsFault, d, i⟩) (h16 : ∀ i, P ⟨.tkt .fetched, 0, i⟩) (h17 : ∀ d i, P ⟨.crr .depth, d, i⟩) (h18 : ∀ d i, P ⟨.crr .doneBytes, d, i⟩) (h19 : ∀ d i, P ⟨.crr .descIdx, d, i⟩) (h20 : ∀ d i, P ⟨.crr .cls, d, i⟩) (h21 : ∀ d i, P ⟨.crr .state, d, i⟩) (h22 : ∀ d i, P ⟨.crr .nBytes, d, i⟩) (h23 : ∀ d i, P ⟨.crr .nFault, d, i⟩) (h24 : ∀ d i, P ⟨.crr .faultAddr, d, i⟩) (h25 : ∀ d i, P ⟨.crr .faultSpace, d, i⟩) (h26 : ∀ d i, P ⟨.crr .fault, d, i⟩) (h27 : ∀ d i, P ⟨.sticky .crrHalt, d, i⟩) (h28 : ∀ d i, P ⟨.live .crrHalt, d, i⟩) (h29 : ∀ d i, P ⟨.sticky .crrPcie, d, i⟩) (h30 : ∀ i, P ⟨.sys .freeCount, 0, i⟩) (h31 : ∀ i, P ⟨.svc .suspender, 0, i⟩) (h32 : ∀ i, P ⟨.svc .owner, 0, i⟩) (h33 : ∀ i, P ⟨.svc .busy, 0, i⟩) (h34 : ∀ i, P ⟨.svc .nSuspend, 0, i⟩) (h35 : ∀ i, P ⟨.svc .s0Agent, 0, i⟩) (h36 : ∀ i, P ⟨.svc .s0Valid, 0, i⟩) (h37 : ∀ i, P ⟨.svc .s1Agent, 0, i⟩) (h38 : ∀ i, P ⟨.svc .s1Valid, 0, i⟩) (h39 : ∀ d i, P ⟨.crr .nCipherWait, d, i⟩) (h40 : ∀ i, P ⟨.svc .nWait, 0, i⟩) (h41 : ∀ i, P ⟨.svc .waiting, 0, i⟩) (h42 : ∀ i, P ⟨.svc .crrHolder, 0, i⟩) (h43 : ∀ i, P ⟨.svc .retried, 0, i⟩) (h44 : ∀ i, P ⟨.svc .nMsg, 0, i⟩) (h45 : ∀ i, P ⟨.tkt .hashFail, 0, i⟩) (h46 : ∀ i, P ⟨.sticky .sbgSvcFault, 0, i⟩) (h47 : ∀ i, P ⟨.live .sbgSvcFault, 0, i⟩) (h48 : ∀ i, P ⟨.svc .nCheckFail, 0, i⟩) (h49 : ∀ i, P ⟨.svc .nSuspFail, 0, i⟩) (h50 : ∀ i, P ⟨.qs .gapPend, d, i⟩) (h51 : ∀ i, P ⟨.sticky .qsBrakeOn, d, i⟩) (h52 : ∀ i, P ⟨.live .qsBrakeOn, d, i⟩) (h53 : ∀ i, P ⟨.qs .brake, d, i⟩) (h54 : ∀ i, P ⟨.qs .qXoff, d, i⟩) (h55 : ∀ i, P ⟨.hl .pXoff, d, i⟩) (h56 : ∀ i, P ⟨.qs .dieOcc, d, i⟩) (h57 : ∀ i, P ⟨.qs .occWords, d, i⟩) (h58 : ∀ i, P ⟨.qs .rd, d, i⟩) (h59 : ∀ i, P ⟨.pwr .nKsDrainDisc, 0, i⟩) (h60 : ∀ i, P ⟨.trc .nLost, d, i⟩) (h61 : ∀ i, P ⟨.win .trcBuf, d, i⟩) (h62 : ∀ i, P ⟨.trc .count, d, i⟩) (h63 : ∀ i, P ⟨.trc .trcNext, d, i⟩) (h64 : ∀ i, P ⟨.sticky .trcFull, d, i⟩) (h65 : ∀ i, P ⟨.live .trcFull, d, i⟩) (h66 : ∀ i, P ⟨.sticky .telOvf, 0, i⟩) (h67 : ∀ i, P ⟨.tel .dropped, 0, i⟩) (h68 : ∀ i, P ⟨.tel .nDrop, 0, i⟩) (h69 : ∀ i, P ⟨.tel .written, 0, i⟩) (h70 : ∀ i, P ⟨.lt .sysCause, d, i⟩) (h71 : ∀ i, P ⟨.pwr .stage, d, i⟩) (h72 : ∀ i, P ⟨.lt .muteCause, d, i⟩) (h73 : ∀ i, P ⟨.lt .ramp, d, i⟩) (h74 : ∀ i, P ⟨.lt .txState, d, i⟩) (h75 : ∀ i, P ⟨.lt .otherCause, d, i⟩) (h76 : ∀ i, P ⟨.bias .ptState, d, i⟩) (h77 : ∀ i, P ⟨.bias .ptAcq, d, i⟩) (h78 : ∀ i, P ⟨.bias .ptV, d, i⟩) (h79 : ∀ i, P ⟨.bias .ptBase, d, i⟩) (h80 : ∀ i, P ⟨.lt .nMuteEnter, d, i⟩) (h81 : ∀ i, P ⟨.lt .begun4, d, i⟩) (h82 : ∀ i, P ⟨.sticky .ltTxDown, d, i⟩) (h83 : ∀ i, P ⟨.live .ltTxDown, d, i⟩) (h84 : ∀ i, P ⟨.pwr .savedCdValid, d, i⟩) (h85 : ∀ i, P ⟨.pwr .savedCd, d, i⟩) (h86 : ∀ i, P ⟨.sticky .panDown, d, i⟩) (h87 : ∀ i, P ⟨.live .panDown, d, i⟩) (h88 : ∀ i, P ⟨.pan .state, d, i⟩) (qreports : Q .reports) (qdescs : Q .descs) (qrings : Q .rings) (qtelOut : Q .telOut) :
    Reach P Q s0 (State.ksClocks s d) := by
  unfold State.ksClocks
  repeat' with_reducible first | assumption | apply State.migrateFinish_reach | apply State.abortAll_reach | apply State.each_reach | apply State.ksDiscard_reach | apply State.set_reach | apply State.setStage_reach | apply State.when_reach | apply State.muteRefresh_reach | apply State.panState_reach | (intros; show P _ = true; apply_assumption) | split | dsimp only | intro _

theorem State.tbToAo_reach (hs : Reach P Q s0 s) (h1 : ∀ i, P ⟨.tim .aoNs, 0, i⟩) (h2 : ∀ i, P ⟨.tim .aoSec, 0, i⟩) (h3 : ∀ i, P ⟨.tim .tbOfs, 0, i⟩) (h4 : ∀ i, P ⟨.clk .wasQual, 0, i⟩) :
    Reach P Q s0 (State.tbToAo s) := by
  unfold State.tbToAo
  repeat' with_reducible first | assumption | apply State.each_reach | apply State.set_reach | apply State.setI_reach | (intros; show P _ = true; apply_assumption) | split | dsimp only | intro _

theorem State.pkgGate_reach (hs : Reach P Q s0 s) (h1 : ∀ k, P k) (qmbox : Q .mbox) (qreports : Q .reports) (qheld : Q .held) (qtickets : Q .tickets) (qrun : Q .run) (qpolicy : Q .policy) (qimgPolicy : Q .imgPolicy) (qtrust : Q .trust) (qcands : Q .cands) (qtelOut : Q .telOut) (qclsTab : Q .clsTab) (qstaged : Q .staged) (qrings : Q .rings) (qtracker : Q .tracker) (qretireQ : Q .retireQ) (qmerge : Q .merge) (qdescs : Q .descs) (qkch : Q .kch) (qfups : Q .fups) :
    Reach P Q s0 (State.pkgGate s) := by
  unfold State.pkgGate
  repeat' with_reducible first | assumption | apply State.diesReset_reach | apply State.tbToAo_reach | apply State.set_reach | apply State.each_reach | apply State.setStage_reach | apply State.wakePkg_reach | (intros; show P _ = true; apply_assumption) | split | dsimp only | intro _

theorem execKsStageComplete_reach {d : Nat} (hs : Reach P Q s0 s) (h1 : ∀ k, P k) (qreports : Q .reports) (qmbox : Q .mbox) (qheld : Q .held) (qtickets : Q .tickets) (qrun : Q .run) (qpolicy : Q .policy) (qimgPolicy : Q .imgPolicy) (qtrust : Q .trust) (qcands : Q .cands) (qtelOut : Q .telOut) (qclsTab : Q .clsTab) (qstaged : Q .staged) (qrings : Q .rings) (qtracker : Q .tracker) (qretireQ : Q .retireQ) (qmerge : Q .merge) (qdescs : Q .descs) (qkch : Q .kch) (qfups : Q .fups) :
    ∃ t, execKsStageComplete d s = .next t ∧ Reach P Q s0 t := by
  unfold execKsStageComplete
  repeat' with_reducible first | assumption | apply finishIf_reach | apply State.each_reach | apply State.ksIsolateIn_reach | apply State.pkgGate_reach | apply State.set_reach | apply State.ksGate_reach | apply State.startWake_reach | (intros; show P _ = true; first | exact h1 _ | apply_assumption) | split | dsimp only | intro _

theorem execKsWakeComplete_reach {d : Nat} (hs : Reach P Q s0 s) (hsum : ∀ k, k.cell.summary → P k) (h11 : ∀ i, P ⟨.pwr .stage, d, i⟩) (qreports : Q .reports) :
    ∃ t, execKsWakeComplete d s = .next t ∧ Reach P Q s0 t := by
  unfold execKsWakeComplete
  repeat' with_reducible first | assumption | apply finishIf_reach | apply State.setStage_reach | (intros; show P _ = true; first | exact hsum _ rfl | (clear hsum; apply_assumption)) | split | dsimp only | intro _

theorem execKsDrainEnd_reach {d : Nat} (hs : Reach P Q s0 s) (hsum : ∀ k, k.cell.summary → P k) (h11 : ∀ d i, P ⟨.pan .nRetire, d, i⟩) (h12 : ∀ d i, P ⟨.pan .records, d, i⟩) (h13 : ∀ d i, P ⟨.win .panRetire, d, i⟩) (h14 : ∀ d i, P ⟨.pan .nMigSkip, d, i⟩) (h15 : ∀ d i, P ⟨.pan .nPoisonWr, d, i⟩) (h16 : ∀ d i, P ⟨.pan .poison, d, i⟩) (h17 : ∀ d i, P ⟨.pan .homeOf, d, i⟩) (h18 : ∀ d i, P ⟨.pan .mapTo, d, i⟩) (h19 : ∀ d i, P ⟨.pan .migHome, d, i⟩) (h20 : ∀ d i, P ⟨.crr .nDescDone, d, i⟩) (h21 : ∀ d i, P ⟨.pan .migDirty, d, i⟩) (h22 : ∀ d i, P ⟨.sticky .crrAbort, d, i⟩) (h23 : ∀ d i, P ⟨.crr .nAbort, d, i⟩) (h24 : ∀ d i, P ⟨.sticky .panXtsFault, d, i⟩) (h25 : ∀ d i, P ⟨.live .panXtsFault, d, i⟩) (h26 : ∀ i, P ⟨.tkt .fetched, 0, i⟩) (h27 : ∀ d i, P ⟨.crr .depth, d, i⟩) (h28 : ∀ d i, P ⟨.crr .doneBytes, d, i⟩) (h29 : ∀ d i, P ⟨.crr .descIdx, d, i⟩) (h30 : ∀ d i, P ⟨.crr .cls, d, i⟩) (h31 : ∀ d i, P ⟨.crr .state, d, i⟩) (h32 : ∀ d i, P ⟨.crr .nBytes, d, i⟩) (h33 : ∀ d i, P ⟨.crr .nFault, d, i⟩) (h34 : ∀ d i, P ⟨.crr .faultAddr, d, i⟩) (h35 : ∀ d i, P ⟨.crr .faultSpace, d, i⟩) (h36 : ∀ d i, P ⟨.crr .fault, d, i⟩) (h37 : ∀ d i, P ⟨.sticky .crrHalt, d, i⟩) (h38 : ∀ d i, P ⟨.live .crrHalt, d, i⟩) (h39 : ∀ d i, P ⟨.sticky .crrPcie, d, i⟩) (h40 : ∀ i, P ⟨.sys .freeCount, 0, i⟩) (h41 : ∀ i, P ⟨.svc .suspender, 0, i⟩) (h42 : ∀ i, P ⟨.svc .owner, 0, i⟩) (h43 : ∀ i, P ⟨.svc .busy, 0, i⟩) (h44 : ∀ i, P ⟨.svc .nSuspend, 0, i⟩) (h45 : ∀ i, P ⟨.svc .s0Agent, 0, i⟩) (h46 : ∀ i, P ⟨.svc .s0Valid, 0, i⟩) (h47 : ∀ i, P ⟨.svc .s1Agent, 0, i⟩) (h48 : ∀ i, P ⟨.svc .s1Valid, 0, i⟩) (h49 : ∀ d i, P ⟨.crr .nCipherWait, d, i⟩) (h50 : ∀ i, P ⟨.svc .nWait, 0, i⟩) (h51 : ∀ i, P ⟨.svc .waiting, 0, i⟩) (h52 : ∀ i, P ⟨.svc .crrHolder, 0, i⟩) (h53 : ∀ i, P ⟨.svc .retried, 0, i⟩) (h54 : ∀ i, P ⟨.svc .nMsg, 0, i⟩) (h55 : ∀ i, P ⟨.tkt .hashFail, 0, i⟩) (h56 : ∀ i, P ⟨.sticky .sbgSvcFault, 0, i⟩) (h57 : ∀ i, P ⟨.live .sbgSvcFault, 0, i⟩) (h58 : ∀ i, P ⟨.svc .nCheckFail, 0, i⟩) (h59 : ∀ i, P ⟨.svc .nSuspFail, 0, i⟩) (h60 : ∀ d i, P ⟨.qs .gapPend, d, i⟩) (h61 : ∀ d i, P ⟨.sticky .qsBrakeOn, d, i⟩) (h62 : ∀ d i, P ⟨.live .qsBrakeOn, d, i⟩) (h63 : ∀ d i, P ⟨.qs .brake, d, i⟩) (h64 : ∀ d i, P ⟨.qs .qXoff, d, i⟩) (h65 : ∀ d i, P ⟨.hl .pXoff, d, i⟩) (h66 : ∀ d i, P ⟨.qs .dieOcc, d, i⟩) (h67 : ∀ d i, P ⟨.qs .occWords, d, i⟩) (h68 : ∀ d i, P ⟨.qs .rd, d, i⟩) (h69 : ∀ i, P ⟨.pwr .nKsDrainDisc, 0, i⟩) (h70 : ∀ d i, P ⟨.trc .nLost, d, i⟩) (h71 : ∀ d i, P ⟨.win .trcBuf, d, i⟩) (h72 : ∀ d i, P ⟨.trc .count, d, i⟩) (h73 : ∀ d i, P ⟨.trc .trcNext, d, i⟩) (h74 : ∀ d i, P ⟨.sticky .trcFull, d, i⟩) (h75 : ∀ d i, P ⟨.live .trcFull, d, i⟩) (h76 : ∀ i, P ⟨.sticky .telOvf, 0, i⟩) (h77 : ∀ i, P ⟨.tel .dropped, 0, i⟩) (h78 : ∀ i, P ⟨.tel .nDrop, 0, i⟩) (h79 : ∀ i, P ⟨.tel .written, 0, i⟩) (h80 : ∀ d i, P ⟨.lt .sysCause, d, i⟩) (h81 : ∀ d i, P ⟨.pwr .stage, d, i⟩) (h82 : ∀ d i, P ⟨.lt .muteCause, d, i⟩) (h83 : ∀ d i, P ⟨.lt .ramp, d, i⟩) (h84 : ∀ d i, P ⟨.lt .txState, d, i⟩) (h85 : ∀ d i, P ⟨.lt .otherCause, d, i⟩) (h86 : ∀ d i, P ⟨.bias .ptState, d, i⟩) (h87 : ∀ d i, P ⟨.bias .ptAcq, d, i⟩) (h88 : ∀ d i, P ⟨.bias .ptV, d, i⟩) (h89 : ∀ d i, P ⟨.bias .ptBase, d, i⟩) (h90 : ∀ d i, P ⟨.lt .nMuteEnter, d, i⟩) (h91 : ∀ d i, P ⟨.lt .begun4, d, i⟩) (h92 : ∀ d i, P ⟨.sticky .ltTxDown, d, i⟩) (h93 : ∀ d i, P ⟨.live .ltTxDown, d, i⟩) (h94 : ∀ d i, P ⟨.pwr .savedCdValid, d, i⟩) (h95 : ∀ d i, P ⟨.pwr .savedCd, d, i⟩) (h96 : ∀ d i, P ⟨.sticky .panDown, d, i⟩) (h97 : ∀ d i, P ⟨.live .panDown, d, i⟩) (h98 : ∀ d i, P ⟨.pan .state, d, i⟩) (qreports : Q .reports) (qdescs : Q .descs) (qrings : Q .rings) (qtelOut : Q .telOut) :
    ∃ t, execKsDrainEnd d s = .next t ∧ Reach P Q s0 t := by
  unfold execKsDrainEnd
  repeat' with_reducible first | assumption | apply finishIf_reach | apply State.each_reach | apply State.ksClocks_reach | (intros; show P _ = true; first | exact hsum _ rfl | (clear hsum; apply_assumption)) | split | dsimp only | intro _

theorem execKsWakeTimer_reach {d : Nat} (hs : Reach P Q s0 s) (h1 : ∀ k, P k) (qreports : Q .reports) (qmbox : Q .mbox) (qheld : Q .held) (qtickets : Q .tickets) (qrun : Q .run) (qpolicy : Q .policy) (qimgPolicy : Q .imgPolicy) (qtrust : Q .trust) (qcands : Q .cands) (qtelOut : Q .telOut) (qclsTab : Q .clsTab) (qstaged : Q .staged) (qrings : Q .rings) (qtracker : Q .tracker) (qretireQ : Q .retireQ) (qmerge : Q .merge) (qdescs : Q .descs) (qkch : Q .kch) (qfups : Q .fups) :
    ∃ t, execKsWakeTimer d s = .next t ∧ Reach P Q s0 t := by
  unfold execKsWakeTimer
  repeat' with_reducible first | assumption | apply finishIf_reach | apply State.wakePkg_reach | apply State.each_reach | apply State.wakeDie_reach | (intros; show P _ = true; first | exact h1 _ | apply_assumption) | split | dsimp only | intro _

end Sys2Proof.Machine
end

