-- ==== Sys2Proof/Laws/MovesMonitor.lean ====
section
/-!
SUPPORT. What the operations of Machine/Monitor.lean may change, one lemma each (Laws/Reach.lean).
-/
namespace Sys2Proof.Machine

set_option linter.unusedTactic false
set_option linter.unreachableTactic false

variable {P : Key → Bool} {Q : Part → Bool} {s0 s : State}

theorem State.filtGd_reach {d : Nat} {f : Nat} (hs : Reach P Q s0 s) (h1 : ∀ i, P ⟨.mon .fGd, d, i⟩) :
    Reach P Q s0 (State.filtGd s d f) := by
  unfold State.filtGd
  repeat' with_reducible first | assumption | apply State.set_reach | (intros; show P _ = true; apply_assumption) | split | dsimp only | intro _

theorem State.seqStart_reach {d : Nat} (hs : Reach P Q s0 s) (h1 : ∀ i, P ⟨.mon .seqState, d, i⟩) (h2 : ∀ i, P ⟨.mon .seqRep, d, i⟩) (h3 : ∀ i, P ⟨.mon .seqPos, d, i⟩) (h4 : ∀ i, P ⟨.mon .lapUs, d, i⟩) (h5 : ∀ i, P ⟨.mon .fGd, d, i⟩) :
    Reach P Q s0 (State.seqStart s d) := by
  unfold State.seqStart
  repeat' with_reducible first | assumption | apply State.set_reach | apply State.each_reach | apply State.filtGd_reach | (intros; show P _ = true; apply_assumption) | split | dsimp only | intro _

theorem State.seqFollow_reach {d : Nat} (hs : Reach P Q s0 s) (h1 : ∀ i, P ⟨.mon .seqState, d, i⟩) (h2 : ∀ i, P ⟨.mon .seqRep, d, i⟩) (h3 : ∀ i, P ⟨.mon .seqPos, d, i⟩) (h4 : ∀ i, P ⟨.mon .lapUs, d, i⟩) (h5 : ∀ i, P ⟨.mon .fGd, d, i⟩) :
    Reach P Q s0 (State.seqFollow s d) := by
  unfold State.seqFollow
  repeat' with_reducible first | assumption | apply State.seqStart_reach | (intros; show P _ = true; apply_assumption) | split | dsimp only | intro _

theorem State.filtReset_reach {d : Nat} {f : Nat} (hs : Reach P Q s0 s) (h1 : ∀ i, P ⟨.mon .fDel, d, i⟩) (h2 : ∀ i, P ⟨.mon .fAcc, d, i⟩) (h3 : ∀ i, P ⟨.mon .fValid, d, i⟩) (h4 : ∀ i, P ⟨.mon .fSub, d, i⟩) (h5 : ∀ i, P ⟨.mon .fOuts, d, i⟩) (h6 : ∀ i, P ⟨.mon .fPhase, d, i⟩) (h7 : ∀ i, P ⟨.mon .fGd, d, i⟩) (h8 : ∀ i, P ⟨.mon .fSeed, d, i⟩) :
    Reach P Q s0 (State.filtReset s d f) := by
  unfold State.filtReset
  repeat' with_reducible first | assumption | apply State.each_reach | apply State.set_reach | apply State.filtGd_reach | (intros; show P _ = true; apply_assumption) | split | dsimp only | intro _

theorem State.filtSync_reach {d : Nat} (hs : Reach P Q s0 s) (h1 : ∀ i, P ⟨.mon .fDel, d, i⟩) (h2 : ∀ i, P ⟨.mon .fAcc, d, i⟩) (h3 : ∀ i, P ⟨.mon .fValid, d, i⟩) (h4 : ∀ i, P ⟨.mon .fSub, d, i⟩) (h5 : ∀ i, P ⟨.mon .fOuts, d, i⟩) (h6 : ∀ i, P ⟨.mon .fPhase, d, i⟩) (h7 : ∀ i, P ⟨.mon .fGd, d, i⟩) (h8 : ∀ i, P ⟨.mon .fSeed, d, i⟩) :
    Reach P Q s0 (State.filtSync s d) := by
  unfold State.filtSync
  repeat' with_reducible first | assumption | apply State.each_reach | apply State.filtReset_reach | (intros; show P _ = true; apply_assumption) | split | dsimp only | intro _

theorem State.sysCalStart_reach (hs : Reach P Q s0 s) (h1 : ∀ i, P ⟨.cal .sysMask, 0, i⟩) (h2 : ∀ i, P ⟨.cal .sysBusy, 0, i⟩) (h3 : ∀ d i, P ⟨.mon .seqState, d, i⟩) :
    Reach P Q s0 (State.sysCalStart s) := by
  unfold State.sysCalStart
  repeat' with_reducible first | assumption | apply State.each_reach | apply State.set_reach | (intros; show P _ = true; apply_assumption) | split | dsimp only | intro _

theorem State.seqApply_reach {d : Nat} (hs : Reach P Q s0 s) (h1 : ∀ i, P ⟨.sys .winBusy, d, i⟩) (h2 : ∀ i, P ⟨.winDirty .monSeq, d, i⟩) (h3 : ∀ a i, P ⟨Cell.mask a, d, i⟩) (h4 : ∀ i, P ⟨.win .monSeq, d, i⟩) (h5 : ∀ i, P ⟨.mon .fDel, d, i⟩) (h6 : ∀ i, P ⟨.mon .fAcc, d, i⟩) (h7 : ∀ i, P ⟨.mon .fValid, d, i⟩) (h8 : ∀ i, P ⟨.mon .fSub, d, i⟩) (h9 : ∀ i, P ⟨.mon .fOuts, d, i⟩) (h10 : ∀ i, P ⟨.mon .fPhase, d, i⟩) (h11 : ∀ i, P ⟨.mon .fGd, d, i⟩) (h12 : ∀ i, P ⟨.mon .fSeed, d, i⟩) :
    Reach P Q s0 (State.seqApply s d) := by
  unfold State.seqApply
  repeat' with_reducible first | assumption | apply State.applyWin_reach | apply State.each_reach | apply State.filtReset_reach | (intros; show P _ = true; apply_assumption) | split | dsimp only | intro _

theorem State.filtInteg_reach {d : Nat} {f : Nat} {x : Int} (hs : Reach P Q s0 s) (h1 : ∀ i, P ⟨.mon .fAcc, d, i⟩) :
    Reach P Q s0 (State.filtInteg s d f x).1 := by
  unfold State.filtInteg
  exact pairFold_reach hs fun x a hx => State.set_reach hx (h1 _)

theorem State.filtComb_reach {d : Nat} {f : Nat} {x : Int} (hs : Reach P Q s0 s) (h1 : ∀ i, P ⟨.mon .fDel, d, i⟩) :
    Reach P Q s0 (State.filtComb s d f x).1 := by
  unfold State.filtComb
  exact pairFold_reach hs fun x a hx => State.set_reach hx (h1 _)

theorem State.filtDc_reach {d : Nat} {f : Nat} {x : Int} {valid : Bool} (hs : Reach P Q s0 s) (h1 : ∀ i, P ⟨.mon .fSeed, d, i⟩) (h2 : ∀ i, P ⟨.mon .fMean, d, i⟩) :
    Reach P Q s0 (State.filtDc s d f x valid).1 := by
  unfold State.filtDc
  repeat' with_reducible first | assumption | apply State.set_reach | apply State.setI_reach | (intros; show P _ = true; apply_assumption) | split | dsimp only | intro _

theorem State.filtOutput_reach {d : Nat} {f : Nat} {x : Int} (hs : Reach P Q s0 s) (h1 : ∀ i, P ⟨.mon .fDel, d, i⟩) (h2 : ∀ i, P ⟨.mon .fSeed, d, i⟩) (h3 : ∀ i, P ⟨.mon .fMean, d, i⟩) (h4 : ∀ i, P ⟨.mon .fOuts, d, i⟩) (h5 : ∀ i, P ⟨.mon .fCount, d, i⟩) (h6 : ∀ i, P ⟨.mon .fTaint, d, i⟩) (h7 : ∀ i, P ⟨.mon .fValid, d, i⟩) (h8 : ∀ i, P ⟨.mon .fOut, d, i⟩) :
    Reach P Q s0 (State.filtOutput s d f x) := by
  unfold State.filtOutput
  repeat' with_reducible first | assumption | apply State.filtComb_reach | apply State.filtDc_reach | apply State.set_reach | apply State.setB_reach | (intros; show P _ = true; apply_assumption) | split | dsimp only | intro _

theorem State.filtInput_reach {d : Nat} {f : Nat} {x : Int} {sub : Bool} (hs : Reach P Q s0 s) (h1 : ∀ i, P ⟨.mon .fSub, d, i⟩) (h2 : ∀ i, P ⟨.mon .fAcc, d, i⟩) (h3 : ∀ i, P ⟨.mon .fDel, d, i⟩) (h4 : ∀ i, P ⟨.mon .fSeed, d, i⟩) (h5 : ∀ i, P ⟨.mon .fMean, d, i⟩) (h6 : ∀ i, P ⟨.mon .fOuts, d, i⟩) (h7 : ∀ i, P ⟨.mon .fCount, d, i⟩) (h8 : ∀ i, P ⟨.mon .fTaint, d, i⟩) (h9 : ∀ i, P ⟨.mon .fValid, d, i⟩) (h10 : ∀ i, P ⟨.mon .fOut, d, i⟩) (h11 : ∀ i, P ⟨.mon .fPhase, d, i⟩) :
    Reach P Q s0 (State.filtInput s d f x sub) := by
  unfold State.filtInput
  repeat' with_reducible first | assumption | apply State.set_reach | apply State.filtInteg_reach | apply State.filtOutput_reach | (intros; show P _ = true; apply_assumption) | split | dsimp only | intro _

theorem State.sysCalSlot_reach {m : Sys2Proof.SysMeas} (hs : Reach P Q s0 s) (h1 : ∀ i, P ⟨.cal .sysResult, m.slot, i⟩) (h2 : ∀ i, P ⟨.mon .uncal, m.slot, i⟩) (h3 : ∀ i, P ⟨.cal .nSysCount, 0, i⟩) (h4 : ∀ i, P ⟨.cal .sysTimeNs, m.slot, i⟩) (h5 : ∀ i, P ⟨.cal .sysTimeS, m.slot, i⟩) (h6 : ∀ i, P ⟨.cal .sysValid, m.slot, i⟩) (h7 : ∀ i, P ⟨.cal .sysOfs, m.slot, i⟩) (h8 : ∀ i, P ⟨.cal .sysGain, m.slot, i⟩) (h9 : ∀ i, P ⟨.sticky .calSyscalFail, 0, i⟩) (h10 : ∀ i, P ⟨.cal .nSysReject, 0, i⟩) (h11 : ∀ i, P ⟨.mon .fSub, m.slot, i⟩) (h12 : ∀ i, P ⟨.mon .fAcc, m.slot, i⟩) (h13 : ∀ i, P ⟨.mon .fDel, m.slot, i⟩) (h14 : ∀ i, P ⟨.mon .fSeed, m.slot, i⟩) (h15 : ∀ i, P ⟨.mon .fMean, m.slot, i⟩) (h16 : ∀ i, P ⟨.mon .fOuts, m.slot, i⟩) (h17 : ∀ i, P ⟨.mon .fCount, m.slot, i⟩) (h18 : ∀ i, P ⟨.mon .fTaint, m.slot, i⟩) (h19 : ∀ i, P ⟨.mon .fValid, m.slot, i⟩) (h20 : ∀ i, P ⟨.mon .fOut, m.slot, i⟩) (h21 : ∀ i, P ⟨.mon .fPhase, m.slot, i⟩) (h22 : ∀ i, P ⟨.mon .seqState, m.slot, i⟩) (h23 : ∀ i, P ⟨.mon .seqRep, m.slot, i⟩) (h24 : ∀ i, P ⟨.mon .seqPos, m.slot, i⟩) (h25 : ∀ i, P ⟨.mon .lapUs, m.slot, i⟩) (h26 : ∀ i, P ⟨.mon .fGd, m.slot, i⟩) (qreports : Q .reports) :
    Reach P Q s0 (State.sysCalSlot s m) := by
  unfold State.sysCalSlot
  repeat' with_reducible first | assumption | apply State.set_reach | apply State.inc_reach | apply State.eventAt_reach | apply State.each_reach | apply State.filtInput_reach | apply State.seqStart_reach | (intros; show P _ = true; apply_assumption) | split | dsimp only | intro _

theorem State.seqNext_reach {d : Nat} (hs : Reach P Q s0 s) (h1 : ∀ i, P ⟨.mon .seqRep, d, i⟩) (h2 : ∀ i, P ⟨.mon .seqPos, d, i⟩) :
    Reach P Q s0 (State.seqNext s d) := by
  unfold State.seqNext
  repeat' with_reducible first | assumption | apply State.set_reach | (intros; show P _ = true; apply_assumption) | split | dsimp only | intro _

theorem execMonConversion_reach {d : Nat} {v : Int} (hs : Reach P Q s0 s) (hsum : ∀ k, k.cell.summary → P k) (h11 : ∀ i, P ⟨.mon .nSettle, d, i⟩) (h12 : ∀ i, P ⟨.mon .nOvr, d, i⟩) (h13 : ∀ i, P ⟨.mon .nConv, d, i⟩) (h14 : ∀ i, P ⟨.mon .settle, d, i⟩) (h15 : ∀ i, P ⟨.mon .chUv, d, i⟩) (h16 : ∀ i, P ⟨.mon .chCode, d, i⟩) (h17 : ∀ i, P ⟨.mon .chSeq, d, i⟩) (h18 : ∀ i, P ⟨.mon .chTag, d, i⟩) (h19 : ∀ i, P ⟨.mon .seqRep, d, i⟩) (h20 : ∀ i, P ⟨.mon .seqPos, d, i⟩) (h21 : ∀ i, P ⟨.sticky .monOvr, d, i⟩) (h22 : ∀ i, P ⟨.live .monOvr, d, i⟩) (h23 : ∀ i, P ⟨.mon .lastOk, d, i⟩) (h24 : ∀ i, P ⟨.mon .fSub, d, i⟩) (h25 : ∀ i, P ⟨.mon .fAcc, d, i⟩) (h26 : ∀ i, P ⟨.mon .fDel, d, i⟩) (h27 : ∀ i, P ⟨.mon .fSeed, d, i⟩) (h28 : ∀ i, P ⟨.mon .fMean, d, i⟩) (h29 : ∀ i, P ⟨.mon .fOuts, d, i⟩) (h30 : ∀ i, P ⟨.mon .fCount, d, i⟩) (h31 : ∀ i, P ⟨.mon .fTaint, d, i⟩) (h32 : ∀ i, P ⟨.mon .fValid, d, i⟩) (h33 : ∀ i, P ⟨.mon .fOut, d, i⟩) (h34 : ∀ i, P ⟨.mon .fPhase, d, i⟩) (qreports : Q .reports) :
    ∃ t, execMonConversion d v s = .next t ∧ Reach P Q s0 t := by
  unfold execMonConversion
  repeat' with_reducible first | assumption | apply finishIf_reach | apply State.incIf_reach | apply State.inc_reach | apply State.set_reach | apply State.seqNext_reach | apply State.cond_reach | apply State.setI_reach | apply State.each_reach | apply State.filtInput_reach | (intros; show P _ = true; first | exact hsum _ rfl | (clear hsum; apply_assumption)) | split | dsimp only | intro _

theorem execMonLapEnd_reach {d : Nat} (hs : Reach P Q s0 s) (hsum : ∀ k, k.cell.summary → P k) (h11 : ∀ i, P ⟨.mon .seqState, d, i⟩) (h12 : ∀ i, P ⟨.mon .seqRep, d, i⟩) (h13 : ∀ i, P ⟨.mon .seqPos, d, i⟩) (h14 : ∀ i, P ⟨.mon .lapUs, d, i⟩) (h15 : ∀ i, P ⟨.mon .fGd, d, i⟩) (h16 : ∀ i, P ⟨.sys .winBusy, d, i⟩) (h17 : ∀ i, P ⟨.winDirty .monSeq, d, i⟩) (h18 : ∀ a i, P ⟨Cell.mask a, d, i⟩) (h19 : ∀ i, P ⟨.win .monSeq, d, i⟩) (h20 : ∀ i, P ⟨.mon .fDel, d, i⟩) (h21 : ∀ i, P ⟨.mon .fAcc, d, i⟩) (h22 : ∀ i, P ⟨.mon .fValid, d, i⟩) (h23 : ∀ i, P ⟨.mon .fSub, d, i⟩) (h24 : ∀ i, P ⟨.mon .fOuts, d, i⟩) (h25 : ∀ i, P ⟨.mon .fPhase, d, i⟩) (h26 : ∀ i, P ⟨.mon .fSeed, d, i⟩) (qreports : Q .reports) :
    ∃ t, execMonLapEnd d s = .next t ∧ Reach P Q s0 t := by
  unfold execMonLapEnd
  repeat' with_reducible first | assumption | apply finishIf_reach | apply State.seqStart_reach | apply State.seqApply_reach | (intros; show P _ = true; first | exact hsum _ rfl | (clear hsum; apply_assumption)) | split | dsimp only | intro _

theorem execFilterSync_reach {d : Nat} (hs : Reach P Q s0 s) (hsum : ∀ k, k.cell.summary → P k) (h11 : ∀ i, P ⟨.mon .fDel, d, i⟩) (h12 : ∀ i, P ⟨.mon .fAcc, d, i⟩) (h13 : ∀ i, P ⟨.mon .fValid, d, i⟩) (h14 : ∀ i, P ⟨.mon .fSub, d, i⟩) (h15 : ∀ i, P ⟨.mon .fOuts, d, i⟩) (h16 : ∀ i, P ⟨.mon .fPhase, d, i⟩) (h17 : ∀ i, P ⟨.mon .fGd, d, i⟩) (h18 : ∀ i, P ⟨.mon .fSeed, d, i⟩) (qreports : Q .reports) :
    ∃ t, execFilterSync d s = .next t ∧ Reach P Q s0 t := by
  unfold execFilterSync
  repeat' with_reducible first | assumption | apply finishIf_reach | apply State.filtSync_reach | (intros; show P _ = true; first | exact hsum _ rfl | (clear hsum; apply_assumption)) | split | dsimp only | intro _

theorem execSyscalStart_reach (hs : Reach P Q s0 s) (hsum : ∀ k, k.cell.summary → P k) (h11 : ∀ i, P ⟨.cal .sysMask, 0, i⟩) (h12 : ∀ i, P ⟨.cal .sysBusy, 0, i⟩) (h13 : ∀ d i, P ⟨.mon .seqState, d, i⟩) (qreports : Q .reports) :
    ∃ t, execSyscalStart s = .next t ∧ Reach P Q s0 t := by
  unfold execSyscalStart
  repeat' with_reducible first | assumption | apply finishIf_reach | apply State.sysCalStart_reach | (intros; show P _ = true; first | exact hsum _ rfl | (clear hsum; apply_assumption)) | split | dsimp only | intro _

theorem execSyscalDone_reach {meas : List Sys2Proof.SysMeas} (hs : Reach P Q s0 s) (hsum : ∀ k, k.cell.summary → P k) (h11 : ∀ i, P ⟨.cal .sysMask, 0, i⟩) (h12 : ∀ i, P ⟨.cal .sysBusy, 0, i⟩) (h13 : ∀ d i, P ⟨.cal .sysResult, d, i⟩) (h14 : ∀ d i, P ⟨.mon .uncal, d, i⟩) (h15 : ∀ i, P ⟨.cal .nSysCount, 0, i⟩) (h16 : ∀ d i, P ⟨.cal .sysTimeNs, d, i⟩) (h17 : ∀ d i, P ⟨.cal .sysTimeS, d, i⟩) (h18 : ∀ d i, P ⟨.cal .sysValid, d, i⟩) (h19 : ∀ d i, P ⟨.cal .sysOfs, d, i⟩) (h20 : ∀ d i, P ⟨.cal .sysGain, d, i⟩) (h21 : ∀ i, P ⟨.sticky .calSyscalFail, 0, i⟩) (h22 : ∀ i, P ⟨.cal .nSysReject, 0, i⟩) (h23 : ∀ d i, P ⟨.mon .fSub, d, i⟩) (h24 : ∀ d i, P ⟨.mon .fAcc, d, i⟩) (h25 : ∀ d i, P ⟨.mon .fDel, d, i⟩) (h26 : ∀ d i, P ⟨.mon .fSeed, d, i⟩) (h27 : ∀ d i, P ⟨.mon .fMean, d, i⟩) (h28 : ∀ d i, P ⟨.mon .fOuts, d, i⟩) (h29 : ∀ d i, P ⟨.mon .fCount, d, i⟩) (h30 : ∀ d i, P ⟨.mon .fTaint, d, i⟩) (h31 : ∀ d i, P ⟨.mon .fValid, d, i⟩) (h32 : ∀ d i, P ⟨.mon .fOut, d, i⟩) (h33 : ∀ d i, P ⟨.mon .fPhase, d, i⟩) (h34 : ∀ d i, P ⟨.mon .seqState, d, i⟩) (h35 : ∀ d i, P ⟨.mon .seqRep, d, i⟩) (h36 : ∀ d i, P ⟨.mon .seqPos, d, i⟩) (h37 : ∀ d i, P ⟨.mon .lapUs, d, i⟩) (h38 : ∀ d i, P ⟨.mon .fGd, d, i⟩) (qreports : Q .reports) :
    ∃ t, execSyscalDone meas s = .next t ∧ Reach P Q s0 t := by
  unfold execSyscalDone
  repeat' with_reducible first | assumption | apply finishIf_reach | apply State.set_reach | apply State.each_reach | apply State.sysCalSlot_reach | apply State.seqStart_reach | (intros; show P _ = true; first | exact hsum _ rfl | (clear hsum; apply_assumption)) | split | dsimp only | intro _

end Sys2Proof.Machine
end

