-- ==== Sys2Proof/Laws/MovesBias.lean ====
section
/-!
SUPPORT. What the operations of Machine/Bias.lean may change, one lemma each (Laws/Reach.lean).
-/
namespace Sys2Proof.Machine

set_option linter.unusedTactic false
set_option linter.unreachableTactic false

variable {P : Key → Bool} {Q : Part → Bool} {s0 s : State}

theorem State.wrapStart_reach {d : Nat} {k : Nat} (hs : Reach P Q s0 s) (h1 : ∀ i, P ⟨.sticky .biasWrap, d, i⟩) (h2 : ∀ i, P ⟨.bias .nWrap, d, i⟩) (h3 : ∀ i, P ⟨.bias .ptAcq, d, i⟩) (h4 : ∀ i, P ⟨.bias .ptWrapTo, d, i⟩) (h5 : ∀ i, P ⟨.bias .ptBase, d, i⟩) (qreports : Q .reports) :
    Reach P Q s0 (State.wrapStart s d k) := by
  unfold State.wrapStart
  repeat' with_reducible first | assumption | apply State.event_reach | apply State.inc_reach | apply State.set_reach | apply State.setI_reach | (intros; show P _ = true; apply_assumption) | split | dsimp only | intro _

theorem State.wrapNow_reach {d : Nat} (hs : Reach P Q s0 s) (h1 : ∀ i, P ⟨.bias .ptUnlRun, d, i⟩) (h2 : ∀ i, P ⟨.bias .ptLockRun, d, i⟩) (h3 : ∀ i, P ⟨.bias .ptBase, d, i⟩) (h4 : ∀ i, P ⟨.bias .ptTry, d, i⟩) (h5 : ∀ i, P ⟨.bias .ptV, d, i⟩) (h6 : ∀ i, P ⟨.bias .ptFirst, d, i⟩) (h7 : ∀ i, P ⟨.bias .nUnlock, d, i⟩) (h8 : ∀ i, P ⟨.bias .ptState, d, i⟩) (h9 : ∀ i, P ⟨.sys .freeCount, 0, i⟩) (h10 : ∀ i, P ⟨.bias .outMv, d, i⟩) (h11 : ∀ i, P ⟨.bias .ptLocked, d, i⟩) (h12 : ∀ i, P ⟨.bias .biasLock, d, i⟩) (h13 : ∀ i, P ⟨.sticky .biasNearRail, d, i⟩) (h14 : ∀ i, P ⟨.live .biasNearRail, d, i⟩) (h15 : ∀ i, P ⟨.sticky .biasRail, d, i⟩) (h16 : ∀ i, P ⟨.live .biasRail, d, i⟩) (h17 : ∀ i, P ⟨.sticky .biasOutFault, d, i⟩) (h18 : ∀ i, P ⟨.live .biasOutFault, d, i⟩) (h19 : ∀ i, P ⟨.sticky .biasUnlock, d, i⟩) (h20 : ∀ i, P ⟨.live .biasUnlock, d, i⟩) (h21 : ∀ i, P ⟨.lt .muteCause, d, i⟩) (h22 : ∀ i, P ⟨.lt .ramp, d, i⟩) (h23 : ∀ i, P ⟨.lt .txState, d, i⟩) (h24 : ∀ i, P ⟨.lt .otherCause, d, i⟩) (h25 : ∀ i, P ⟨.bias .ptAcq, d, i⟩) (h26 : ∀ i, P ⟨.lt .nMuteEnter, d, i⟩) (h27 : ∀ i, P ⟨.lt .begun4, d, i⟩) (h28 : ∀ i, P ⟨.sticky .ltTxDown, d, i⟩) (h29 : ∀ i, P ⟨.live .ltTxDown, d, i⟩) (h30 : ∀ i, P ⟨.sticky .biasWrap, d, i⟩) (h31 : ∀ i, P ⟨.bias .nWrap, d, i⟩) (h32 : ∀ i, P ⟨.bias .ptWrapTo, d, i⟩) (qreports : Q .reports) :
    Reach P Q s0 (State.wrapNow s d) := by
  unfold State.wrapNow
  repeat' with_reducible first | assumption | apply State.biasShow_reach | apply State.each_reach | apply State.wrapStart_reach | (intros; show P _ = true; apply_assumption) | split | dsimp only | intro _

theorem State.ptMove_reach {d : Nat} {k : Nat} {e : Int} (hs : Reach P Q s0 s) (h1 : ∀ i, P ⟨.bias .ptV, d, i⟩) :
    Reach P Q s0 (State.ptMove s d k e) := by
  unfold State.ptMove
  repeat' with_reducible first | assumption | apply State.setI_reach | (intros; show P _ = true; apply_assumption) | split | dsimp only | intro _

theorem State.biasLoad_reach {d : Nat} {r : Sys2Proof.BiasRun} (hs : Reach P Q s0 s) (h1 : ∀ i, P ⟨.sticky .biasCalFail, d, i⟩) (h2 : ∀ i, P ⟨.live .biasCalFail, d, i⟩) (h3 : ∀ i, P ⟨.bias .initMv, d, i⟩) (h4 : ∀ i, P ⟨.bias .vpiMv, d, i⟩) (qreports : Q .reports) :
    Reach P Q s0 (State.biasLoad s d r) := by
  unfold State.biasLoad
  repeat' with_reducible first | assumption | apply State.cond_reach | apply State.each_reach | apply State.setI_reach | apply State.set_reach | (intros; show P _ = true; apply_assumption) | split | dsimp only | intro _

theorem State.biasEnd_reach {d : Nat} {code : Nat} (hs : Reach P Q s0 s) (h1 : ∀ i, P ⟨.sticky .biasStartFail, d, i⟩) (h2 : ∀ i, P ⟨.boot .procCalled, 0, i⟩) (h3 : ∀ i, P ⟨.boot .procCode, 0, i⟩) (h4 : ∀ i, P ⟨.boot .procDone, 0, i⟩) (qreports : Q .reports) :
    Reach P Q s0 (State.biasEnd s d code) := by
  unfold State.biasEnd
  repeat' with_reducible first | assumption | apply State.event_reach | apply State.when_reach | apply State.procEnd_reach | (intros; show P _ = true; apply_assumption) | split | dsimp only | intro _

theorem State.biasRun_reach {d : Nat} {r : Sys2Proof.BiasRun} (hs : Reach P Q s0 s) (h1 : ∀ i, P ⟨.bias .started, d, i⟩) (h2 : ∀ i, P ⟨.sticky .biasCalFail, d, i⟩) (h3 : ∀ i, P ⟨.live .biasCalFail, d, i⟩) (h4 : ∀ i, P ⟨.bias .initMv, d, i⟩) (h5 : ∀ i, P ⟨.bias .vpiMv, d, i⟩) (h6 : ∀ i, P ⟨.bias .ptAcq, d, i⟩) (h7 : ∀ i, P ⟨.bias .ptFirst, d, i⟩) (h8 : ∀ i, P ⟨.bias .ptTry, d, i⟩) (h9 : ∀ i, P ⟨.bias .ptV, d, i⟩) (h10 : ∀ i, P ⟨.bias .ptFault, d, i⟩) (h11 : ∀ i, P ⟨.bias .ptUnlRun, d, i⟩) (h12 : ∀ i, P ⟨.bias .ptLockRun, d, i⟩) (h13 : ∀ i, P ⟨.bias .ptBase, d, i⟩) (h14 : ∀ i, P ⟨.bias .ptHasLock, d, i⟩) (h15 : ∀ i, P ⟨.bias .ptLockV, d, i⟩) (h16 : ∀ i, P ⟨.sticky .biasStartFail, d, i⟩) (h17 : ∀ i, P ⟨.boot .procCalled, 0, i⟩) (h18 : ∀ i, P ⟨.boot .procCode, 0, i⟩) (h19 : ∀ i, P ⟨.boot .procDone, 0, i⟩) (h20 : ∀ i, P ⟨.bias .nUnlock, d, i⟩) (h21 : ∀ i, P ⟨.bias .ptState, d, i⟩) (h22 : ∀ i, P ⟨.sys .freeCount, 0, i⟩) (h23 : ∀ i, P ⟨.bias .outMv, d, i⟩) (h24 : ∀ i, P ⟨.bias .ptLocked, d, i⟩) (h25 : ∀ i, P ⟨.bias .biasLock, d, i⟩) (h26 : ∀ i, P ⟨.sticky .biasNearRail, d, i⟩) (h27 : ∀ i, P ⟨.live .biasNearRail, d, i⟩) (h28 : ∀ i, P ⟨.sticky .biasRail, d, i⟩) (h29 : ∀ i, P ⟨.live .biasRail, d, i⟩) (h30 : ∀ i, P ⟨.sticky .biasOutFault, d, i⟩) (h31 : ∀ i, P ⟨.live .biasOutFault, d, i⟩) (h32 : ∀ i, P ⟨.sticky .biasUnlock, d, i⟩) (h33 : ∀ i, P ⟨.live .biasUnlock, d, i⟩) (h34 : ∀ i, P ⟨.lt .muteCause, d, i⟩) (h35 : ∀ i, P ⟨.lt .ramp, d, i⟩) (h36 : ∀ i, P ⟨.lt .txState, d, i⟩) (h37 : ∀ i, P ⟨.lt .otherCause, d, i⟩) (h38 : ∀ i, P ⟨.lt .nMuteEnter, d, i⟩) (h39 : ∀ i, P ⟨.lt .begun4, d, i⟩) (h40 : ∀ i, P ⟨.sticky .ltTxDown, d, i⟩) (h41 : ∀ i, P ⟨.live .ltTxDown, d, i⟩) (qreports : Q .reports) :
    Reach P Q s0 (State.biasRun s d r) := by
  unfold State.biasRun
  repeat' with_reducible first | assumption | apply State.each_reach | apply State.set_reach | apply State.biasLoad_reach | apply State.setI_reach | apply State.ptTrack_reach | apply State.biasEnd_reach | apply State.biasShow_reach | (intros; show P _ = true; apply_assumption) | split | dsimp only | intro _

theorem execBiasOutputFault_reach {d : Nat} {k : Nat} (hs : Reach P Q s0 s) (hsum : ∀ k, k.cell.summary → P k) (h11 : ∀ i, P ⟨.bias .ptUnlRun, d, i⟩) (h12 : ∀ i, P ⟨.bias .ptLockRun, d, i⟩) (h13 : ∀ i, P ⟨.bias .ptBase, d, i⟩) (h14 : ∀ i, P ⟨.bias .ptTry, d, i⟩) (h15 : ∀ i, P ⟨.bias .ptV, d, i⟩) (h16 : ∀ i, P ⟨.bias .ptFirst, d, i⟩) (h17 : ∀ i, P ⟨.bias .nUnlock, d, i⟩) (h18 : ∀ i, P ⟨.bias .ptState, d, i⟩) (h19 : ∀ i, P ⟨.sys .freeCount, 0, i⟩) (h20 : ∀ i, P ⟨.bias .outMv, d, i⟩) (h21 : ∀ i, P ⟨.bias .ptLocked, d, i⟩) (h22 : ∀ i, P ⟨.bias .biasLock, d, i⟩) (h23 : ∀ i, P ⟨.sticky .biasNearRail, d, i⟩) (h24 : ∀ i, P ⟨.live .biasNearRail, d, i⟩) (h25 : ∀ i, P ⟨.sticky .biasRail, d, i⟩) (h26 : ∀ i, P ⟨.live .biasRail, d, i⟩) (h27 : ∀ i, P ⟨.sticky .biasOutFault, d, i⟩) (h28 : ∀ i, P ⟨.live .biasOutFault, d, i⟩) (h29 : ∀ i, P ⟨.sticky .biasUnlock, d, i⟩) (h30 : ∀ i, P ⟨.live .biasUnlock, d, i⟩) (h31 : ∀ i, P ⟨.lt .muteCause, d, i⟩) (h32 : ∀ i, P ⟨.lt .ramp, d, i⟩) (h33 : ∀ i, P ⟨.lt .txState, d, i⟩) (h34 : ∀ i, P ⟨.lt .otherCause, d, i⟩) (h35 : ∀ i, P ⟨.bias .ptAcq, d, i⟩) (h36 : ∀ i, P ⟨.lt .nMuteEnter, d, i⟩) (h37 : ∀ i, P ⟨.lt .begun4, d, i⟩) (h38 : ∀ i, P ⟨.sticky .ltTxDown, d, i⟩) (h39 : ∀ i, P ⟨.live .ltTxDown, d, i⟩) (h40 : ∀ i, P ⟨.bias .ptFault, d, i⟩) (qreports : Q .reports) :
    ∃ t, execBiasOutputFault d k s = .next t ∧ Reach P Q s0 t := by
  unfold execBiasOutputFault
  repeat' with_reducible first | assumption | apply finishIf_reach | apply State.biasShow_reach | apply State.set_reach | (intros; show P _ = true; first | exact hsum _ rfl | (clear hsum; apply_assumption)) | split | dsimp only | intro _

theorem State.clampSet_reach {b : Bool} (hs : Reach P Q s0 s) (h1 : ∀ d i, P ⟨.bias .ptUnlRun, d, i⟩) (h2 : ∀ d i, P ⟨.bias .ptLockRun, d, i⟩) (h3 : ∀ d i, P ⟨.bias .ptBase, d, i⟩) (h4 : ∀ d i, P ⟨.bias .ptTry, d, i⟩) (h5 : ∀ d i, P ⟨.bias .ptV, d, i⟩) (h6 : ∀ d i, P ⟨.bias .ptFirst, d, i⟩) (h7 : ∀ d i, P ⟨.bias .nUnlock, d, i⟩) (h8 : ∀ d i, P ⟨.bias .ptState, d, i⟩) (h9 : ∀ i, P ⟨.sys .freeCount, 0, i⟩) (h10 : ∀ d i, P ⟨.bias .outMv, d, i⟩) (h11 : ∀ d i, P ⟨.bias .ptLocked, d, i⟩) (h12 : ∀ d i, P ⟨.bias .biasLock, d, i⟩) (h13 : ∀ d i, P ⟨.sticky .biasNearRail, d, i⟩) (h14 : ∀ d i, P ⟨.live .biasNearRail, d, i⟩) (h15 : ∀ d i, P ⟨.sticky .biasRail, d, i⟩) (h16 : ∀ d i, P ⟨.live .biasRail, d, i⟩) (h17 : ∀ d i, P ⟨.sticky .biasOutFault, d, i⟩) (h18 : ∀ d i, P ⟨.live .biasOutFault, d, i⟩) (h19 : ∀ d i, P ⟨.sticky .biasUnlock, d, i⟩) (h20 : ∀ d i, P ⟨.live .biasUnlock, d, i⟩) (h21 : ∀ d i, P ⟨.lt .muteCause, d, i⟩) (h22 : ∀ d i, P ⟨.lt .ramp, d, i⟩) (h23 : ∀ d i, P ⟨.lt .txState, d, i⟩) (h24 : ∀ d i, P ⟨.lt .otherCause, d, i⟩) (h25 : ∀ d i, P ⟨.bias .ptAcq, d, i⟩) (h26 : ∀ d i, P ⟨.lt .nMuteEnter, d, i⟩) (h27 : ∀ d i, P ⟨.lt .begun4, d, i⟩) (h28 : ∀ d i, P ⟨.sticky .ltTxDown, d, i⟩) (h29 : ∀ d i, P ⟨.live .ltTxDown, d, i⟩) (h30 : ∀ d i, P ⟨.bias .hvClamp, d, i⟩) (qreports : Q .reports) :
    Reach P Q s0 (State.clampSet s b) := by
  unfold State.clampSet
  repeat' with_reducible first | assumption | apply State.each_reach | apply State.biasShow_reach | apply State.setB_reach | (intros; show P _ = true; apply_assumption) | split | dsimp only | intro _

theorem execBiasWrapDone_reach {d : Nat} {k : Nat} (hs : Reach P Q s0 s) (hsum : ∀ k, k.cell.summary → P k) (h11 : ∀ i, P ⟨.bias .ptUnlRun, d, i⟩) (h12 : ∀ i, P ⟨.bias .ptLockRun, d, i⟩) (h13 : ∀ i, P ⟨.bias .ptBase, d, i⟩) (h14 : ∀ i, P ⟨.bias .ptTry, d, i⟩) (h15 : ∀ i, P ⟨.bias .ptV, d, i⟩) (h16 : ∀ i, P ⟨.bias .ptFirst, d, i⟩) (h17 : ∀ i, P ⟨.bias .nUnlock, d, i⟩) (h18 : ∀ i, P ⟨.bias .ptState, d, i⟩) (h19 : ∀ i, P ⟨.sys .freeCount, 0, i⟩) (h20 : ∀ i, P ⟨.bias .outMv, d, i⟩) (h21 : ∀ i, P ⟨.bias .ptLocked, d, i⟩) (h22 : ∀ i, P ⟨.bias .biasLock, d, i⟩) (h23 : ∀ i, P ⟨.sticky .biasNearRail, d, i⟩) (h24 : ∀ i, P ⟨.live .biasNearRail, d, i⟩) (h25 : ∀ i, P ⟨.sticky .biasRail, d, i⟩) (h26 : ∀ i, P ⟨.live .biasRail, d, i⟩) (h27 : ∀ i, P ⟨.sticky .biasOutFault, d, i⟩) (h28 : ∀ i, P ⟨.live .biasOutFault, d, i⟩) (h29 : ∀ i, P ⟨.sticky .biasUnlock, d, i⟩) (h30 : ∀ i, P ⟨.live .biasUnlock, d, i⟩) (h31 : ∀ i, P ⟨.lt .muteCause, d, i⟩) (h32 : ∀ i, P ⟨.lt .ramp, d, i⟩) (h33 : ∀ i, P ⟨.lt .txState, d, i⟩) (h34 : ∀ i, P ⟨.lt .otherCause, d, i⟩) (h35 : ∀ i, P ⟨.bias .ptAcq, d, i⟩) (h36 : ∀ i, P ⟨.lt .nMuteEnter, d, i⟩) (h37 : ∀ i, P ⟨.lt .begun4, d, i⟩) (h38 : ∀ i, P ⟨.sticky .ltTxDown, d, i⟩) (h39 : ∀ i, P ⟨.live .ltTxDown, d, i⟩) (qreports : Q .reports) :
    ∃ t, execBiasWrapDone d k s = .next t ∧ Reach P Q s0 t := by
  unfold execBiasWrapDone
  repeat' with_reducible first | assumption | apply finishIf_reach | apply State.biasShow_reach | apply State.ptTrack_reach | apply State.set_reach | (intros; show P _ = true; first | exact hsum _ rfl | (clear hsum; apply_assumption)) | split | dsimp only | intro _

theorem execBiasStart_reach {d : Nat} {r : Sys2Proof.BiasRun} (hs : Reach P Q s0 s) (hsum : ∀ k, k.cell.summary → P k) (h11 : ∀ i, P ⟨.sticky .biasStartFail, d, i⟩) (h12 : ∀ i, P ⟨.boot .procCalled, 0, i⟩) (h13 : ∀ i, P ⟨.boot .procCode, 0, i⟩) (h14 : ∀ i, P ⟨.boot .procDone, 0, i⟩) (h15 : ∀ i, P ⟨.bias .started, d, i⟩) (h16 : ∀ i, P ⟨.sticky .biasCalFail, d, i⟩) (h17 : ∀ i, P ⟨.live .biasCalFail, d, i⟩) (h18 : ∀ i, P ⟨.bias .initMv, d, i⟩) (h19 : ∀ i, P ⟨.bias .vpiMv, d, i⟩) (h20 : ∀ i, P ⟨.bias .ptAcq, d, i⟩) (h21 : ∀ i, P ⟨.bias .ptFirst, d, i⟩) (h22 : ∀ i, P ⟨.bias .ptTry, d, i⟩) (h23 : ∀ i, P ⟨.bias .ptV, d, i⟩) (h24 : ∀ i, P ⟨.bias .ptFault, d, i⟩) (h25 : ∀ i, P ⟨.bias .ptUnlRun, d, i⟩) (h26 : ∀ i, P ⟨.bias .ptLockRun, d, i⟩) (h27 : ∀ i, P ⟨.bias .ptBase, d, i⟩) (h28 : ∀ i, P ⟨.bias .ptHasLock, d, i⟩) (h29 : ∀ i, P ⟨.bias .ptLockV, d, i⟩) (h30 : ∀ i, P ⟨.bias .nUnlock, d, i⟩) (h31 : ∀ i, P ⟨.bias .ptState, d, i⟩) (h32 : ∀ i, P ⟨.sys .freeCount, 0, i⟩) (h33 : ∀ i, P ⟨.bias .outMv, d, i⟩) (h34 : ∀ i, P ⟨.bias .ptLocked, d, i⟩) (h35 : ∀ i, P ⟨.bias .biasLock, d, i⟩) (h36 : ∀ i, P ⟨.sticky .biasNearRail, d, i⟩) (h37 : ∀ i, P ⟨.live .biasNearRail, d, i⟩) (h38 : ∀ i, P ⟨.sticky .biasRail, d, i⟩) (h39 : ∀ i, P ⟨.live .biasRail, d, i⟩) (h40 : ∀ i, P ⟨.sticky .biasOutFault, d, i⟩) (h41 : ∀ i, P ⟨.live .biasOutFault, d, i⟩) (h42 : ∀ i, P ⟨.sticky .biasUnlock, d, i⟩) (h43 : ∀ i, P ⟨.live .biasUnlock, d, i⟩) (h44 : ∀ i, P ⟨.lt .muteCause, d, i⟩) (h45 : ∀ i, P ⟨.lt .ramp, d, i⟩) (h46 : ∀ i, P ⟨.lt .txState, d, i⟩) (h47 : ∀ i, P ⟨.lt .otherCause, d, i⟩) (h48 : ∀ i, P ⟨.lt .nMuteEnter, d, i⟩) (h49 : ∀ i, P ⟨.lt .begun4, d, i⟩) (h50 : ∀ i, P ⟨.sticky .ltTxDown, d, i⟩) (h51 : ∀ i, P ⟨.live .ltTxDown, d, i⟩) (h52 : ∀ i, P ⟨.bias .light, d, i⟩) (qreports : Q .reports) :
    ∃ t, execBiasStart d r s = .next t ∧ Reach P Q s0 t := by
  unfold execBiasStart
  repeat' with_reducible first | assumption | apply finishIf_reach | apply State.biasEnd_reach | apply State.biasRun_reach | apply State.lightSet_reach | (intros; show P _ = true; first | exact hsum _ rfl | (clear hsum; apply_assumption)) | split | dsimp only | intro _

theorem execBiasWrapNow_reach {d : Nat} (hs : Reach P Q s0 s) (hsum : ∀ k, k.cell.summary → P k) (h11 : ∀ i, P ⟨.bias .ptUnlRun, d, i⟩) (h12 : ∀ i, P ⟨.bias .ptLockRun, d, i⟩) (h13 : ∀ i, P ⟨.bias .ptBase, d, i⟩) (h14 : ∀ i, P ⟨.bias .ptTry, d, i⟩) (h15 : ∀ i, P ⟨.bias .ptV, d, i⟩) (h16 : ∀ i, P ⟨.bias .ptFirst, d, i⟩) (h17 : ∀ i, P ⟨.bias .nUnlock, d, i⟩) (h18 : ∀ i, P ⟨.bias .ptState, d, i⟩) (h19 : ∀ i, P ⟨.sys .freeCount, 0, i⟩) (h20 : ∀ i, P ⟨.bias .outMv, d, i⟩) (h21 : ∀ i, P ⟨.bias .ptLocked, d, i⟩) (h22 : ∀ i, P ⟨.bias .biasLock, d, i⟩) (h23 : ∀ i, P ⟨.sticky .biasNearRail, d, i⟩) (h24 : ∀ i, P ⟨.live .biasNearRail, d, i⟩) (h25 : ∀ i, P ⟨.sticky .biasRail, d, i⟩) (h26 : ∀ i, P ⟨.live .biasRail, d, i⟩) (h27 : ∀ i, P ⟨.sticky .biasOutFault, d, i⟩) (h28 : ∀ i, P ⟨.live .biasOutFault, d, i⟩) (h29 : ∀ i, P ⟨.sticky .biasUnlock, d, i⟩) (h30 : ∀ i, P ⟨.live .biasUnlock, d, i⟩) (h31 : ∀ i, P ⟨.lt .muteCause, d, i⟩) (h32 : ∀ i, P ⟨.lt .ramp, d, i⟩) (h33 : ∀ i, P ⟨.lt .txState, d, i⟩) (h34 : ∀ i, P ⟨.lt .otherCause, d, i⟩) (h35 : ∀ i, P ⟨.bias .ptAcq, d, i⟩) (h36 : ∀ i, P ⟨.lt .nMuteEnter, d, i⟩) (h37 : ∀ i, P ⟨.lt .begun4, d, i⟩) (h38 : ∀ i, P ⟨.sticky .ltTxDown, d, i⟩) (h39 : ∀ i, P ⟨.live .ltTxDown, d, i⟩) (h40 : ∀ i, P ⟨.sticky .biasWrap, d, i⟩) (h41 : ∀ i, P ⟨.bias .nWrap, d, i⟩) (h42 : ∀ i, P ⟨.bias .ptWrapTo, d, i⟩) (qreports : Q .reports) :
    ∃ t, execBiasWrapNow d s = .next t ∧ Reach P Q s0 t := by
  unfold execBiasWrapNow
  repeat' with_reducible first | assumption | apply finishIf_reach | apply State.wrapNow_reach | (intros; show P _ = true; first | exact hsum _ rfl | (clear hsum; apply_assumption)) | split | dsimp only | intro _

theorem State.ptJudge_reach {d : Nat} {k : Nat} {e : Int} (hs : Reach P Q s0 s) (h1 : ∀ i, P ⟨.bias .ptUnlRun, d, i⟩) (h2 : ∀ i, P ⟨.bias .ptLockRun, d, i⟩) (h3 : ∀ i, P ⟨.bias .ptBase, d, i⟩) (h4 : ∀ i, P ⟨.bias .ptTry, d, i⟩) (h5 : ∀ i, P ⟨.bias .ptAcq, d, i⟩) (h6 : ∀ i, P ⟨.bias .ptLockV, d, i⟩) (h7 : ∀ i, P ⟨.bias .ptHasLock, d, i⟩) :
    Reach P Q s0 (State.ptJudge s d k e) := by
  unfold State.ptJudge
  repeat' with_reducible first | assumption | apply State.set_reach | apply State.ptTrack_reach | (intros; show P _ = true; apply_assumption) | split | dsimp only | intro _

theorem execBiasRestart_reach {d : Nat} {r : Sys2Proof.BiasRun} (hs : Reach P Q s0 s) (hsum : ∀ k, k.cell.summary → P k) (h11 : ∀ i, P ⟨.bias .started, d, i⟩) (h12 : ∀ i, P ⟨.sticky .biasCalFail, d, i⟩) (h13 : ∀ i, P ⟨.live .biasCalFail, d, i⟩) (h14 : ∀ i, P ⟨.bias .initMv, d, i⟩) (h15 : ∀ i, P ⟨.bias .vpiMv, d, i⟩) (h16 : ∀ i, P ⟨.bias .ptAcq, d, i⟩) (h17 : ∀ i, P ⟨.bias .ptFirst, d, i⟩) (h18 : ∀ i, P ⟨.bias .ptTry, d, i⟩) (h19 : ∀ i, P ⟨.bias .ptV, d, i⟩) (h20 : ∀ i, P ⟨.bias .ptFault, d, i⟩) (h21 : ∀ i, P ⟨.bias .ptUnlRun, d, i⟩) (h22 : ∀ i, P ⟨.bias .ptLockRun, d, i⟩) (h23 : ∀ i, P ⟨.bias .ptBase, d, i⟩) (h24 : ∀ i, P ⟨.bias .ptHasLock, d, i⟩) (h25 : ∀ i, P ⟨.bias .ptLockV, d, i⟩) (h26 : ∀ i, P ⟨.sticky .biasStartFail, d, i⟩) (h27 : ∀ i, P ⟨.boot .procCalled, 0, i⟩) (h28 : ∀ i, P ⟨.boot .procCode, 0, i⟩) (h29 : ∀ i, P ⟨.boot .procDone, 0, i⟩) (h30 : ∀ i, P ⟨.bias .nUnlock, d, i⟩) (h31 : ∀ i, P ⟨.bias .ptState, d, i⟩) (h32 : ∀ i, P ⟨.sys .freeCount, 0, i⟩) (h33 : ∀ i, P ⟨.bias .outMv, d, i⟩) (h34 : ∀ i, P ⟨.bias .ptLocked, d, i⟩) (h35 : ∀ i, P ⟨.bias .biasLock, d, i⟩) (h36 : ∀ i, P ⟨.sticky .biasNearRail, d, i⟩) (h37 : ∀ i, P ⟨.live .biasNearRail, d, i⟩) (h38 : ∀ i, P ⟨.sticky .biasRail, d, i⟩) (h39 : ∀ i, P ⟨.live .biasRail, d, i⟩) (h40 : ∀ i, P ⟨.sticky .biasOutFault, d, i⟩) (h41 : ∀ i, P ⟨.live .biasOutFault, d, i⟩) (h42 : ∀ i, P ⟨.sticky .biasUnlock, d, i⟩) (h43 : ∀ i, P ⟨.live .biasUnlock, d, i⟩) (h44 : ∀ i, P ⟨.lt .muteCause, d, i⟩) (h45 : ∀ i, P ⟨.lt .ramp, d, i⟩) (h46 : ∀ i, P ⟨.lt .txState, d, i⟩) (h47 : ∀ i, P ⟨.lt .otherCause, d, i⟩) (h48 : ∀ i, P ⟨.lt .nMuteEnter, d, i⟩) (h49 : ∀ i, P ⟨.lt .begun4, d, i⟩) (h50 : ∀ i, P ⟨.sticky .ltTxDown, d, i⟩) (h51 : ∀ i, P ⟨.live .ltTxDown, d, i⟩) (h52 : ∀ i, P ⟨.bias .restartReq, d, i⟩) (qreports : Q .reports) :
    ∃ t, execBiasRestart d r s = .next t ∧ Reach P Q s0 t := by
  unfold execBiasRestart
  repeat' with_reducible first | assumption | apply finishIf_reach | apply State.biasRun_reach | apply State.set_reach | (intros; show P _ = true; first | exact hsum _ rfl | (clear hsum; apply_assumption)) | split | dsimp only | intro _

theorem execBiasPhaseAcqTimeout_reach {d : Nat} {k : Nat} (hs : Reach P Q s0 s) (hsum : ∀ k, k.cell.summary → P k) (h11 : ∀ i, P ⟨.bias .ptUnlRun, d, i⟩) (h12 : ∀ i, P ⟨.bias .ptLockRun, d, i⟩) (h13 : ∀ i, P ⟨.bias .ptBase, d, i⟩) (h14 : ∀ i, P ⟨.bias .ptTry, d, i⟩) (h15 : ∀ i, P ⟨.bias .ptV, d, i⟩) (h16 : ∀ i, P ⟨.bias .ptFirst, d, i⟩) (h17 : ∀ i, P ⟨.bias .nUnlock, d, i⟩) (h18 : ∀ i, P ⟨.bias .ptState, d, i⟩) (h19 : ∀ i, P ⟨.sys .freeCount, 0, i⟩) (h20 : ∀ i, P ⟨.bias .outMv, d, i⟩) (h21 : ∀ i, P ⟨.bias .ptLocked, d, i⟩) (h22 : ∀ i, P ⟨.bias .biasLock, d, i⟩) (h23 : ∀ i, P ⟨.sticky .biasNearRail, d, i⟩) (h24 : ∀ i, P ⟨.live .biasNearRail, d, i⟩) (h25 : ∀ i, P ⟨.sticky .biasRail, d, i⟩) (h26 : ∀ i, P ⟨.live .biasRail, d, i⟩) (h27 : ∀ i, P ⟨.sticky .biasOutFault, d, i⟩) (h28 : ∀ i, P ⟨.live .biasOutFault, d, i⟩) (h29 : ∀ i, P ⟨.sticky .biasUnlock, d, i⟩) (h30 : ∀ i, P ⟨.live .biasUnlock, d, i⟩) (h31 : ∀ i, P ⟨.lt .muteCause, d, i⟩) (h32 : ∀ i, P ⟨.lt .ramp, d, i⟩) (h33 : ∀ i, P ⟨.lt .txState, d, i⟩) (h34 : ∀ i, P ⟨.lt .otherCause, d, i⟩) (h35 : ∀ i, P ⟨.bias .ptAcq, d, i⟩) (h36 : ∀ i, P ⟨.lt .nMuteEnter, d, i⟩) (h37 : ∀ i, P ⟨.lt .begun4, d, i⟩) (h38 : ∀ i, P ⟨.sticky .ltTxDown, d, i⟩) (h39 : ∀ i, P ⟨.live .ltTxDown, d, i⟩) (qreports : Q .reports) :
    ∃ t, execBiasPhaseAcqTimeout d k s = .next t ∧ Reach P Q s0 t := by
  unfold execBiasPhaseAcqTimeout
  repeat' with_reducible first | assumption | apply finishIf_reach | apply State.biasShow_reach | apply State.set_reach | (intros; show P _ = true; first | exact hsum _ rfl | (clear hsum; apply_assumption)) | split | dsimp only | intro _

theorem execBiasLockinOutput_reach {d : Nat} {k : Nat} {e : Int} {taint : Bool} {found : Option Int} (hs : Reach P Q s0 s) (hsum : ∀ k, k.cell.summary → P k) (h11 : ∀ i, P ⟨.bias .nTaint, d, i⟩) (h12 : ∀ i, P ⟨.bias .lastE, d, i⟩) (h13 : ∀ i, P ⟨.bias .ptV, d, i⟩) (h14 : ∀ i, P ⟨.bias .ptUnlRun, d, i⟩) (h15 : ∀ i, P ⟨.bias .ptLockRun, d, i⟩) (h16 : ∀ i, P ⟨.bias .ptBase, d, i⟩) (h17 : ∀ i, P ⟨.bias .ptFirst, d, i⟩) (h18 : ∀ i, P ⟨.bias .ptTry, d, i⟩) (h19 : ∀ i, P ⟨.bias .ptAcq, d, i⟩) (h20 : ∀ i, P ⟨.bias .ptLockV, d, i⟩) (h21 : ∀ i, P ⟨.bias .ptHasLock, d, i⟩) (h22 : ∀ i, P ⟨.sticky .biasWrap, d, i⟩) (h23 : ∀ i, P ⟨.bias .nWrap, d, i⟩) (h24 : ∀ i, P ⟨.bias .ptWrapTo, d, i⟩) (h25 : ∀ i, P ⟨.bias .nUnlock, d, i⟩) (h26 : ∀ i, P ⟨.bias .ptState, d, i⟩) (h27 : ∀ i, P ⟨.sys .freeCount, 0, i⟩) (h28 : ∀ i, P ⟨.bias .outMv, d, i⟩) (h29 : ∀ i, P ⟨.bias .ptLocked, d, i⟩) (h30 : ∀ i, P ⟨.bias .biasLock, d, i⟩) (h31 : ∀ i, P ⟨.sticky .biasNearRail, d, i⟩) (h32 : ∀ i, P ⟨.live .biasNearRail, d, i⟩) (h33 : ∀ i, P ⟨.sticky .biasRail, d, i⟩) (h34 : ∀ i, P ⟨.live .biasRail, d, i⟩) (h35 : ∀ i, P ⟨.sticky .biasOutFault, d, i⟩) (h36 : ∀ i, P ⟨.live .biasOutFault, d, i⟩) (h37 : ∀ i, P ⟨.sticky .biasUnlock, d, i⟩) (h38 : ∀ i, P ⟨.live .biasUnlock, d, i⟩) (h39 : ∀ i, P ⟨.lt .muteCause, d, i⟩) (h40 : ∀ i, P ⟨.lt .ramp, d, i⟩) (h41 : ∀ i, P ⟨.lt .txState, d, i⟩) (h42 : ∀ i, P ⟨.lt .otherCause, d, i⟩) (h43 : ∀ i, P ⟨.lt .nMuteEnter, d, i⟩) (h44 : ∀ i, P ⟨.lt .begun4, d, i⟩) (h45 : ∀ i, P ⟨.sticky .ltTxDown, d, i⟩) (h46 : ∀ i, P ⟨.live .ltTxDown, d, i⟩) (qreports : Q .reports) :
    ∃ t, execBiasLockinOutput d k e taint found s = .next t ∧ Reach P Q s0 t := by
  unfold execBiasLockinOutput
  repeat' with_reducible first | assumption | apply finishIf_reach | apply State.inc_reach | apply State.set_reach | apply State.setI_reach | apply State.ptTrack_reach | apply State.ptJudge_reach | apply State.ptMove_reach | apply State.wrapStart_reach | apply State.biasShow_reach | (intros; show P _ = true; first | exact hsum _ rfl | (clear hsum; apply_assumption)) | split | dsimp only | intro _

end Sys2Proof.Machine
end

