-- ==== Sys2Proof/Laws/MovesFec.lean ====
section
/-!
SUPPORT. What the operations of Machine/Fec.lean may change, one lemma each (Laws/Reach.lean).
-/
namespace Sys2Proof.Machine

set_option linter.unusedTactic false
set_option linter.unreachableTactic false

variable {P : Key → Bool} {Q : Part → Bool} {s0 s : State}

theorem execSuperframeEncodeStart_reach {d : Nat} (hs : Reach P Q s0 s) (hsum : ∀ k, k.cell.summary → P k) (h11 : ∀ i, P ⟨.fec .superframes, d, i⟩) (h12 : ∀ i, P ⟨.fec .prbs31, d, i⟩) (h13 : ∀ i, P ⟨.fec .fillAcc, d, i⟩) (h14 : ∀ i, P ⟨.fec .stairClear, d, i⟩) (qreports : Q .reports) :
    ∃ t, execSuperframeEncodeStart d s = .next t ∧ Reach P Q s0 t := by
  unfold execSuperframeEncodeStart
  repeat' with_reducible first | assumption | apply finishIf_reach | apply State.inc_reach | apply State.set_reach | (intros; show P _ = true; first | exact hsum _ rfl | (clear hsum; apply_assumption)) | split | dsimp only | intro _

theorem State.fecSearch_reach {d : Nat} {frame : Nat} {passed : Bool} (hs : Reach P Q s0 s) (h1 : ∀ i, P ⟨.fec .candAt, d, i⟩) (h2 : ∀ i, P ⟨.tim .evtNext, d, i⟩) (h3 : ∀ i, P ⟨.tim .evtAt, d, i⟩) (h4 : ∀ d i, P ⟨.sticky .ctnSf, d, i⟩) (h5 : ∀ d i, P ⟨.live .ctnSf, d, i⟩) (h6 : ∀ i, P ⟨.sticky .ctOof, d, i⟩) (h7 : ∀ i, P ⟨.live .ctOof, d, i⟩) (h8 : ∀ i, P ⟨.sticky .ctLof, d, i⟩) (h9 : ∀ i, P ⟨.live .ctLof, d, i⟩) (h10 : ∀ i, P ⟨.ct .candCount, d, i⟩) (h11 : ∀ i, P ⟨.ct .align, d, i⟩) (h12 : ∀ i, P ⟨.ct .lof, d, i⟩) (h13 : ∀ i, P ⟨.ct .nOofEnter, d, i⟩) (h14 : ∀ i, P ⟨.ct .mfasSeen, d, i⟩) (h15 : ∀ i, P ⟨.ct .misses, d, i⟩) (h16 : ∀ i, P ⟨.ct .inFrame, d, i⟩) (h17 : ∀ i, P ⟨.sticky .fecSf, d, i⟩) (h18 : ∀ i, P ⟨.live .fecSf, d, i⟩) (h19 : ∀ i, P ⟨.fec .lockPhase, d, i⟩) (h20 : ∀ i, P ⟨.fec .iterCap, d, i⟩) (h21 : ∀ i, P ⟨.fec .lockState, d, i⟩) (h22 : ∀ i, P ⟨.fec .failRun, d, i⟩) (qreports : Q .reports) (qcands : Q .cands) :
    Reach P Q s0 (State.fecSearch s d frame passed) := by
  unfold State.fecSearch
  repeat' with_reducible first | assumption | apply State.set_reach | apply State.fecSfRefresh_reach | apply State.fecEnter_reach | (intros; show P _ = true; apply_assumption) | split | dsimp only | intro _

theorem State.fecHold_reach {d : Nat} {passed : Bool} (hs : Reach P Q s0 s) (h1 : ∀ i, P ⟨.fec .failRun, d, i⟩) (h2 : ∀ i, P ⟨.tim .evtNext, d, i⟩) (h3 : ∀ i, P ⟨.tim .evtAt, d, i⟩) (h4 : ∀ d i, P ⟨.sticky .ctnSf, d, i⟩) (h5 : ∀ d i, P ⟨.live .ctnSf, d, i⟩) (h6 : ∀ i, P ⟨.sticky .ctOof, d, i⟩) (h7 : ∀ i, P ⟨.live .ctOof, d, i⟩) (h8 : ∀ i, P ⟨.sticky .ctLof, d, i⟩) (h9 : ∀ i, P ⟨.live .ctLof, d, i⟩) (h10 : ∀ i, P ⟨.ct .candCount, d, i⟩) (h11 : ∀ i, P ⟨.ct .align, d, i⟩) (h12 : ∀ i, P ⟨.ct .lof, d, i⟩) (h13 : ∀ i, P ⟨.ct .nOofEnter, d, i⟩) (h14 : ∀ i, P ⟨.ct .mfasSeen, d, i⟩) (h15 : ∀ i, P ⟨.ct .misses, d, i⟩) (h16 : ∀ i, P ⟨.ct .inFrame, d, i⟩) (h17 : ∀ i, P ⟨.sticky .fecSf, d, i⟩) (h18 : ∀ i, P ⟨.live .fecSf, d, i⟩) (h19 : ∀ i, P ⟨.fec .iterCap, d, i⟩) (h20 : ∀ i, P ⟨.fec .lockState, d, i⟩) (h21 : ∀ i, P ⟨.fec .candAt, d, i⟩) (h22 : ∀ i, P ⟨.fec .nLockLoss, d, i⟩) (h23 : ∀ i, P ⟨.sticky .fecLockLoss, d, i⟩) (qreports : Q .reports) (qcands : Q .cands) :
    Reach P Q s0 (State.fecHold s d passed) := by
  unfold State.fecHold
  repeat' with_reducible first | assumption | apply State.set_reach | apply State.fecSfRefresh_reach | apply State.fecEnter_reach | apply State.inc_reach | apply State.event_reach | (intros; show P _ = true; apply_assumption) | split | dsimp only | intro _

theorem execFecLockCandidate_reach {d : Nat} {frame : Nat} {passed : Bool} (hs : Reach P Q s0 s) (hsum : ∀ k, k.cell.summary → P k) (h11 : ∀ i, P ⟨.fec .candAt, d, i⟩) (h12 : ∀ i, P ⟨.tim .evtNext, d, i⟩) (h13 : ∀ i, P ⟨.tim .evtAt, d, i⟩) (h14 : ∀ d i, P ⟨.sticky .ctnSf, d, i⟩) (h15 : ∀ d i, P ⟨.live .ctnSf, d, i⟩) (h16 : ∀ i, P ⟨.sticky .ctOof, d, i⟩) (h17 : ∀ i, P ⟨.live .ctOof, d, i⟩) (h18 : ∀ i, P ⟨.sticky .ctLof, d, i⟩) (h19 : ∀ i, P ⟨.live .ctLof, d, i⟩) (h20 : ∀ i, P ⟨.ct .candCount, d, i⟩) (h21 : ∀ i, P ⟨.ct .align, d, i⟩) (h22 : ∀ i, P ⟨.ct .lof, d, i⟩) (h23 : ∀ i, P ⟨.ct .nOofEnter, d, i⟩) (h24 : ∀ i, P ⟨.ct .mfasSeen, d, i⟩) (h25 : ∀ i, P ⟨.ct .misses, d, i⟩) (h26 : ∀ i, P ⟨.ct .inFrame, d, i⟩) (h27 : ∀ i, P ⟨.sticky .fecSf, d, i⟩) (h28 : ∀ i, P ⟨.live .fecSf, d, i⟩) (h29 : ∀ i, P ⟨.fec .lockPhase, d, i⟩) (h30 : ∀ i, P ⟨.fec .iterCap, d, i⟩) (h31 : ∀ i, P ⟨.fec .lockState, d, i⟩) (h32 : ∀ i, P ⟨.fec .failRun, d, i⟩) (h33 : ∀ i, P ⟨.fec .nLockLoss, d, i⟩) (h34 : ∀ i, P ⟨.sticky .fecLockLoss, d, i⟩) (qreports : Q .reports) (qcands : Q .cands) :
    ∃ t, execFecLockCandidate d frame passed s = .next t ∧ Reach P Q s0 t := by
  unfold execFecLockCandidate
  repeat' with_reducible first | assumption | apply finishIf_reach | apply State.fecSearch_reach | apply State.fecHold_reach | (intros; show P _ = true; first | exact hsum _ rfl | (clear hsum; apply_assumption)) | split | dsimp only | intro _

theorem execFecSfInterval_reach {d : Nat} (hs : Reach P Q s0 s) (hsum : ∀ k, k.cell.summary → P k) (h11 : ∀ i, P ⟨.tim .evtNext, d, i⟩) (h12 : ∀ i, P ⟨.tim .evtAt, d, i⟩) (h13 : ∀ d i, P ⟨.sticky .ctnSf, d, i⟩) (h14 : ∀ d i, P ⟨.live .ctnSf, d, i⟩) (h15 : ∀ i, P ⟨.sticky .ctOof, d, i⟩) (h16 : ∀ i, P ⟨.live .ctOof, d, i⟩) (h17 : ∀ i, P ⟨.sticky .ctLof, d, i⟩) (h18 : ∀ i, P ⟨.live .ctLof, d, i⟩) (h19 : ∀ i, P ⟨.ct .candCount, d, i⟩) (h20 : ∀ i, P ⟨.ct .align, d, i⟩) (h21 : ∀ i, P ⟨.ct .lof, d, i⟩) (h22 : ∀ i, P ⟨.ct .nOofEnter, d, i⟩) (h23 : ∀ i, P ⟨.ct .mfasSeen, d, i⟩) (h24 : ∀ i, P ⟨.ct .misses, d, i⟩) (h25 : ∀ i, P ⟨.ct .inFrame, d, i⟩) (h26 : ∀ i, P ⟨.sticky .fecSf, d, i⟩) (h27 : ∀ i, P ⟨.live .fecSf, d, i⟩) (h28 : ∀ i, P ⟨.fec .ucwCount, d, i⟩) (h29 : ∀ i, P ⟨.fec .sfInterval, d, i⟩) (qreports : Q .reports) (qcands : Q .cands) :
    ∃ t, execFecSfInterval d s = .next t ∧ Reach P Q s0 t := by
  unfold execFecSfInterval
  repeat' with_reducible first | assumption | apply finishIf_reach | apply State.fecSfRefresh_reach | apply State.set_reach | apply State.setB_reach | (intros; show P _ = true; first | exact hsum _ rfl | (clear hsum; apply_assumption)) | split | dsimp only | intro _

theorem State.writeQuality_reach {d : Nat} {q : Sys2Proof.Quality} {ngmi : Nat} (hs : Reach P Q s0 s) (h1 : ∀ i, P ⟨.lr .qErrs, d, i⟩) (h2 : ∀ i, P ⟨.lr .qBits, d, i⟩) (h3 : ∀ i, P ⟨.lr .qSnrY, d, i⟩) (h4 : ∀ i, P ⟨.lr .qSnrX, d, i⟩) (h5 : ∀ i, P ⟨.lr .qBerNlog, d, i⟩) (h6 : ∀ i, P ⟨.lr .qLinewidth, d, i⟩) (h7 : ∀ i, P ⟨.lr .qFreqOff, d, i⟩) (h8 : ∀ i, P ⟨.lr .qPolRatePeak, d, i⟩) (h9 : ∀ i, P ⟨.lr .qDgd, d, i⟩) (h10 : ∀ i, P ⟨.lr .qCd, d, i⟩) (h11 : ∀ i, P ⟨.lr .qNgmi, d, i⟩) (h12 : ∀ i, P ⟨.lr .qGmi, d, i⟩) (h13 : ∀ i, P ⟨.lr .qPelGain, d, i⟩) (h14 : ∀ i, P ⟨.lr .qSnrEff, d, i⟩) :
    Reach P Q s0 (State.writeQuality s d q ngmi) := by
  unfold State.writeQuality
  repeat' with_reducible first | assumption | apply State.set_reach | (intros; show P _ = true; apply_assumption) | split | dsimp only | intro _

theorem execOuterRowExit_reach {d : Nat} {outer : Nat} {ones : Nat} {zeros : Nat} {residual : Nat} (hs : Reach P Q s0 s) (hsum : ∀ k, k.cell.summary → P k) (h11 : ∀ i, P ⟨.fec .nCorrZeros, d, i⟩) (h12 : ∀ i, P ⟨.fec .nCorrOnes, d, i⟩) (h13 : ∀ i, P ⟨.fec .nCorrBits, d, i⟩) (h14 : ∀ i, P ⟨.fec .nOuterCorr, d, i⟩) (h15 : ∀ i, P ⟨.sticky .fecUncorr, d, i⟩) (h16 : ∀ i, P ⟨.fec .ucwCount, d, i⟩) (h17 : ∀ i, P ⟨.fec .nUncorr, d, i⟩) (qreports : Q .reports) :
    ∃ t, execOuterRowExit d outer ones zeros residual s = .next t ∧ Reach P Q s0 t := by
  unfold execOuterRowExit
  repeat' with_reducible first | assumption | apply finishIf_reach | apply State.add_reach | apply State.when_reach | apply State.event_reach | (intros; show P _ = true; first | exact hsum _ rfl | (clear hsum; apply_assumption)) | split | dsimp only | intro _

theorem execCodewordDecode_reach {d : Nat} {converged : Bool} {iter : Nat} (hs : Reach P Q s0 s) (hsum : ∀ k, k.cell.summary → P k) (h11 : ∀ i, P ⟨.fec .nCwSkipped, d, i⟩) (h12 : ∀ i, P ⟨.fec .nCw, d, i⟩) (h13 : ∀ i, P ⟨.fec .nIterHist, d, i⟩) (h14 : ∀ i, P ⟨.sticky .fecLdpcFail, d, i⟩) (h15 : ∀ i, P ⟨.fec .nLdpcFail, d, i⟩) (qreports : Q .reports) :
    ∃ t, execCodewordDecode d converged iter s = .next t ∧ Reach P Q s0 t := by
  unfold execCodewordDecode
  repeat' with_reducible first | assumption | apply finishIf_reach | apply State.inc_reach | apply State.incIf_reach | apply State.event_reach | (intros; show P _ = true; first | exact hsum _ rfl | (clear hsum; apply_assumption)) | split | dsimp only | intro _

end Sys2Proof.Machine
end

