-- ==== Sys2Proof/Laws/MovesPeloton.lean ====
section
/-!
SUPPORT. What the operations of Machine/Peloton.lean may change, one lemma each (Laws/Reach.lean).
-/
namespace Sys2Proof.Machine

set_option linter.unusedTactic false
set_option linter.unreachableTactic false

variable {P : Key → Bool} {Q : Part → Bool} {s0 s : State}

theorem State.nbShow_reach {d : Nat} {p : Nat} (hs : Reach P Q s0 s) (h1 : ∀ i, P ⟨.pel .walkoff, d, i⟩) (h2 : ∀ i, P ⟨.pel .spacing, d, i⟩) :
    Reach P Q s0 (State.nbShow s d p) := by
  unfold State.nbShow
  repeat' with_reducible first | assumption | apply State.set_reach | (intros; show P _ = true; apply_assumption) | split | dsimp only | intro _

theorem State.nbEnter_reach {d : Nat} {p : Nat} {st : Nat} {taps : Nat} (hs : Reach P Q s0 s) (h1 : ∀ i, P ⟨.pel .tapsRun, d, i⟩) (h2 : ∀ i, P ⟨.pel .nbState, d, i⟩) (h3 : ∀ i, P ⟨.pel .lost, d, i⟩) (h4 : ∀ i, P ⟨.pel .taps, d, i⟩) :
    Reach P Q s0 (State.nbEnter s d p st taps) := by
  unfold State.nbEnter
  repeat' with_reducible first | assumption | apply State.set_reach | (intros; show P _ = true; apply_assumption) | split | dsimp only | intro _

theorem State.pelAlarms_reach {d : Nat} (hs : Reach P Q s0 s) (h1 : ∀ i, P ⟨.sticky .pelLate, d, i⟩) (h2 : ∀ i, P ⟨.live .pelLate, d, i⟩) (h3 : ∀ i, P ⟨.sticky .pelWalkExc, d, i⟩) (h4 : ∀ i, P ⟨.live .pelWalkExc, d, i⟩) (h5 : ∀ i, P ⟨.sticky .pelSuspended, d, i⟩) (h6 : ∀ i, P ⟨.live .pelSuspended, d, i⟩) (h7 : ∀ i, P ⟨.sticky .pelNbLost, d, i⟩) (h8 : ∀ i, P ⟨.live .pelNbLost, d, i⟩) (qreports : Q .reports) :
    Reach P Q s0 (State.pelAlarms s d) := by
  unfold State.pelAlarms
  repeat' with_reducible first | assumption | apply State.cond_reach | (intros; show P _ = true; apply_assumption) | split | dsimp only | intro _

theorem State.pelHold_reach {d : Nat} (hs : Reach P Q s0 s) (h1 : ∀ d i, P ⟨.tim .evtNext, d, i⟩) (h2 : ∀ d i, P ⟨.tim .evtAt, d, i⟩) (h3 : ∀ i, P ⟨.sticky .timPathChange, 0, i⟩) (h4 : ∀ i, P ⟨.tim .nPce, 0, i⟩) (h5 : ∀ i, P ⟨.tim .pceNext, 0, i⟩) (h6 : ∀ i, P ⟨.win .timPce, 0, i⟩) (h7 : ∀ i, P ⟨.lr .latNs, d, i⟩) (h8 : ∀ i, P ⟨.pel .holdNs, d, i⟩) (qreports : Q .reports) :
    Reach P Q s0 (State.pelHold s d) := by
  unfold State.pelHold
  repeat' with_reducible first | assumption | apply State.pathChange_reach | apply State.latencyRefresh_reach | apply State.set_reach | (intros; show P _ = true; apply_assumption) | split | dsimp only | intro _

theorem State.nbToWait_reach {d : Nat} {p : Nat} {lost : Bool} (hs : Reach P Q s0 s) (h1 : ∀ i, P ⟨.pel .lost, d, i⟩) (h2 : ∀ i, P ⟨.pel .nWaitEnter, d, i⟩) (h3 : ∀ i, P ⟨.pel .tapsRun, d, i⟩) (h4 : ∀ i, P ⟨.pel .nbState, d, i⟩) (h5 : ∀ i, P ⟨.pel .taps, d, i⟩) :
    Reach P Q s0 (State.nbToWait s d p lost) := by
  unfold State.nbToWait
  repeat' with_reducible first | assumption | apply State.when_reach | apply State.set_reach | apply State.incIf_reach | apply State.setB_reach | apply State.nbEnter_reach | (intros; show P _ = true; apply_assumption) | split | dsimp only | intro _

theorem State.nbToUse_reach {d : Nat} {p : Nat} {lag : Nat} (hs : Reach P Q s0 s) (h1 : ∀ i, P ⟨.pel .reeval, d, i⟩) (h2 : ∀ i, P ⟨.pel .tapsRun, d, i⟩) (h3 : ∀ i, P ⟨.pel .nbState, d, i⟩) (h4 : ∀ i, P ⟨.pel .lost, d, i⟩) (h5 : ∀ i, P ⟨.pel .taps, d, i⟩) (h6 : ∀ i, P ⟨.pel .need, d, i⟩) :
    Reach P Q s0 (State.nbToUse s d p lag) := by
  unfold State.nbToUse
  repeat' with_reducible first | assumption | apply State.set_reach | apply State.nbEnter_reach | apply State.when_reach | (intros; show P _ = true; apply_assumption) | split | dsimp only | intro _

theorem State.nbMove_reach {d : Nat} {p : Nat} {arriving : Bool} {lag : Nat} (hs : Reach P Q s0 s) (h1 : ∀ i, P ⟨.pel .tapsRun, d, i⟩) (h2 : ∀ i, P ⟨.pel .nbState, d, i⟩) (h3 : ∀ i, P ⟨.pel .lost, d, i⟩) (h4 : ∀ i, P ⟨.pel .taps, d, i⟩) (h5 : ∀ i, P ⟨.pel .nWaitEnter, d, i⟩) (h6 : ∀ i, P ⟨.pel .reeval, d, i⟩) (h7 : ∀ i, P ⟨.pel .need, d, i⟩) :
    Reach P Q s0 (State.nbMove s d p arriving lag) := by
  unfold State.nbMove
  repeat' with_reducible first | assumption | apply State.nbEnter_reach | apply State.nbToWait_reach | apply State.nbToUse_reach | (intros; show P _ = true; apply_assumption) | split | dsimp only | intro _

theorem execPelNeighbourEvent_reach {d : Nat} {p : Nat} {arriving : Bool} {lagNs : Nat} (hs : Reach P Q s0 s) (hsum : ∀ k, k.cell.summary → P k) (h11 : ∀ i, P ⟨.sticky .pelLate, d, i⟩) (h12 : ∀ i, P ⟨.live .pelLate, d, i⟩) (h13 : ∀ i, P ⟨.sticky .pelWalkExc, d, i⟩) (h14 : ∀ i, P ⟨.live .pelWalkExc, d, i⟩) (h15 : ∀ i, P ⟨.sticky .pelSuspended, d, i⟩) (h16 : ∀ i, P ⟨.live .pelSuspended, d, i⟩) (h17 : ∀ i, P ⟨.sticky .pelNbLost, d, i⟩) (h18 : ∀ i, P ⟨.live .pelNbLost, d, i⟩) (h19 : ∀ d i, P ⟨.tim .evtNext, d, i⟩) (h20 : ∀ d i, P ⟨.tim .evtAt, d, i⟩) (h21 : ∀ i, P ⟨.sticky .timPathChange, 0, i⟩) (h22 : ∀ i, P ⟨.tim .nPce, 0, i⟩) (h23 : ∀ i, P ⟨.tim .pceNext, 0, i⟩) (h24 : ∀ i, P ⟨.win .timPce, 0, i⟩) (h25 : ∀ i, P ⟨.lr .latNs, d, i⟩) (h26 : ∀ i, P ⟨.pel .holdNs, d, i⟩) (h27 : ∀ i, P ⟨.pel .walkoff, d, i⟩) (h28 : ∀ i, P ⟨.pel .spacing, d, i⟩) (h29 : ∀ i, P ⟨.pel .tapsRun, d, i⟩) (h30 : ∀ i, P ⟨.pel .nbState, d, i⟩) (h31 : ∀ i, P ⟨.pel .lost, d, i⟩) (h32 : ∀ i, P ⟨.pel .taps, d, i⟩) (h33 : ∀ i, P ⟨.pel .nWaitEnter, d, i⟩) (h34 : ∀ i, P ⟨.pel .reeval, d, i⟩) (h35 : ∀ i, P ⟨.pel .need, d, i⟩) (qreports : Q .reports) :
    ∃ t, execPelNeighbourEvent d p arriving lagNs s = .next t ∧ Reach P Q s0 t := by
  unfold execPelNeighbourEvent
  repeat' with_reducible first | assumption | apply finishIf_reach | apply State.pelAlarms_reach | apply State.pelHold_reach | apply State.nbShow_reach | apply State.nbMove_reach | (intros; show P _ = true; first | exact hsum _ rfl | (clear hsum; apply_assumption)) | split | dsimp only | intro _

theorem State.nbGuard_reach {d : Nat} {p : Nat} (hs : Reach P Q s0 s) (h1 : ∀ i, P ⟨.pel .nSuspend, d, i⟩) (h2 : ∀ i, P ⟨.pel .tapsRun, d, i⟩) (h3 : ∀ i, P ⟨.pel .nbState, d, i⟩) (h4 : ∀ i, P ⟨.pel .lost, d, i⟩) (h5 : ∀ i, P ⟨.pel .taps, d, i⟩) :
    Reach P Q s0 (State.nbGuard s d p) := by
  unfold State.nbGuard
  repeat' with_reducible first | assumption | apply State.inc_reach | apply State.nbEnter_reach | (intros; show P _ = true; apply_assumption) | split | dsimp only | intro _

theorem State.nbResume_reach {d : Nat} {p : Nat} (hs : Reach P Q s0 s) (h1 : ∀ i, P ⟨.pel .tapsRun, d, i⟩) (h2 : ∀ i, P ⟨.pel .nbState, d, i⟩) (h3 : ∀ i, P ⟨.pel .lost, d, i⟩) (h4 : ∀ i, P ⟨.pel .taps, d, i⟩) :
    Reach P Q s0 (State.nbResume s d p) := by
  unfold State.nbResume
  repeat' with_reducible first | assumption | apply State.when_reach | apply State.nbEnter_reach | (intros; show P _ = true; apply_assumption) | split | dsimp only | intro _

theorem execPelSuspendExpiry_reach {d : Nat} (hs : Reach P Q s0 s) (hsum : ∀ k, k.cell.summary → P k) (h11 : ∀ i, P ⟨.sticky .pelLate, d, i⟩) (h12 : ∀ i, P ⟨.live .pelLate, d, i⟩) (h13 : ∀ i, P ⟨.sticky .pelWalkExc, d, i⟩) (h14 : ∀ i, P ⟨.live .pelWalkExc, d, i⟩) (h15 : ∀ i, P ⟨.sticky .pelSuspended, d, i⟩) (h16 : ∀ i, P ⟨.live .pelSuspended, d, i⟩) (h17 : ∀ i, P ⟨.sticky .pelNbLost, d, i⟩) (h18 : ∀ i, P ⟨.live .pelNbLost, d, i⟩) (h19 : ∀ i, P ⟨.pel .tapsRun, d, i⟩) (h20 : ∀ i, P ⟨.pel .nbState, d, i⟩) (h21 : ∀ i, P ⟨.pel .lost, d, i⟩) (h22 : ∀ i, P ⟨.pel .taps, d, i⟩) (qreports : Q .reports) :
    ∃ t, execPelSuspendExpiry d s = .next t ∧ Reach P Q s0 t := by
  unfold execPelSuspendExpiry
  repeat' with_reducible first | assumption | apply finishIf_reach | apply State.pelAlarms_reach | apply State.nbResume_reach | (intros; show P _ = true; first | exact hsum _ rfl | (clear hsum; apply_assumption)) | split | dsimp only | intro _

theorem State.pelWindow_reach {d : Nat} {valid : Bool} {gain : Int} (hs : Reach P Q s0 s) (h1 : ∀ i, P ⟨.pel .reeval, d, i⟩) (h2 : ∀ i, P ⟨.sticky .pelLate, d, i⟩) (h3 : ∀ i, P ⟨.live .pelLate, d, i⟩) (h4 : ∀ i, P ⟨.sticky .pelWalkExc, d, i⟩) (h5 : ∀ i, P ⟨.live .pelWalkExc, d, i⟩) (h6 : ∀ i, P ⟨.sticky .pelSuspended, d, i⟩) (h7 : ∀ i, P ⟨.live .pelSuspended, d, i⟩) (h8 : ∀ i, P ⟨.sticky .pelNbLost, d, i⟩) (h9 : ∀ i, P ⟨.live .pelNbLost, d, i⟩) (h10 : ∀ d i, P ⟨.tim .evtNext, d, i⟩) (h11 : ∀ d i, P ⟨.tim .evtAt, d, i⟩) (h12 : ∀ i, P ⟨.sticky .timPathChange, 0, i⟩) (h13 : ∀ i, P ⟨.tim .nPce, 0, i⟩) (h14 : ∀ i, P ⟨.tim .pceNext, 0, i⟩) (h15 : ∀ i, P ⟨.win .timPce, 0, i⟩) (h16 : ∀ i, P ⟨.lr .latNs, d, i⟩) (h17 : ∀ i, P ⟨.pel .holdNs, d, i⟩) (h18 : ∀ i, P ⟨.pel .nSuspend, d, i⟩) (h19 : ∀ i, P ⟨.pel .tapsRun, d, i⟩) (h20 : ∀ i, P ⟨.pel .nbState, d, i⟩) (h21 : ∀ i, P ⟨.pel .lost, d, i⟩) (h22 : ∀ i, P ⟨.pel .taps, d, i⟩) (qreports : Q .reports) :
    Reach P Q s0 (State.pelWindow s d valid gain) := by
  unfold State.pelWindow
  repeat' with_reducible first | assumption | apply State.set_reach | apply State.pelAlarms_reach | apply State.pelHold_reach | apply State.nbGuard_reach | (intros; show P _ = true; apply_assumption) | split | dsimp only | intro _

theorem State.pelBankSwitch_reach {d : Nat} {rsChanged : Bool} (hs : Reach P Q s0 s) (h1 : ∀ d i, P ⟨.pel .taps, d, i⟩) :
    Reach P Q s0 (State.pelBankSwitch s d rsChanged) := by
  unfold State.pelBankSwitch
  repeat' with_reducible first | assumption | apply State.when_reach | apply State.each_reach | apply State.set_reach | (intros; show P _ = true; apply_assumption) | split | dsimp only | intro _

theorem execPelEnvelopeRx_reach {d : Nat} {p : Nat} {hasWord : Bool} {word : Nat} {expected : Nat} (hs : Reach P Q s0 s) (hsum : ∀ k, k.cell.summary → P k) (h11 : ∀ i, P ⟨.pel .termOff, d, i⟩) (h12 : ∀ i, P ⟨.pel .nAlignErr, d, i⟩) (qreports : Q .reports) :
    ∃ t, execPelEnvelopeRx d p hasWord word expected s = .next t ∧ Reach P Q s0 t := by
  unfold execPelEnvelopeRx
  repeat' with_reducible first | assumption | apply finishIf_reach | apply State.set_reach | apply State.inc_reach | (intros; show P _ = true; first | exact hsum _ rfl | (clear hsum; apply_assumption)) | split | dsimp only | intro _

theorem State.tapsAdapt_reach {d : Nat} {p : Nat} (hs : Reach P Q s0 s) (h1 : ∀ i, P ⟨.sys .freeCount, 0, i⟩) (h2 : ∀ i, P ⟨.pel .taps, d, i⟩) :
    Reach P Q s0 (State.tapsAdapt s d p) := by
  unfold State.tapsAdapt
  repeat' with_reducible first | assumption | apply State.used_reach | apply State.set_reach | (intros; show P _ = true; apply_assumption) | split | dsimp only | intro _

theorem execRxDspFrame_reach {d : Nat} {synced : Bool} (hs : Reach P Q s0 s) (hsum : ∀ k, k.cell.summary → P k) (h11 : ∀ i, P ⟨.sys .freeCount, 0, i⟩) (h12 : ∀ i, P ⟨.pel .taps, d, i⟩) (h13 : ∀ i, P ⟨.lr .modeReload, d, i⟩) (h14 : ∀ i, P ⟨.lr .useYPhase, d, i⟩) (h15 : ∀ i, P ⟨.lr .useXPhase, d, i⟩) (h16 : ∀ i, P ⟨.lr .useSkew, d, i⟩) (h17 : ∀ i, P ⟨.lr .useGain, d, i⟩) (h18 : ∀ i, P ⟨.lr .missed, d, i⟩) (h19 : ∀ i, P ⟨.lr .nDspFrame, d, i⟩) (qreports : Q .reports) :
    ∃ t, execRxDspFrame d synced s = .next t ∧ Reach P Q s0 t := by
  unfold execRxDspFrame
  repeat' with_reducible first | assumption | apply finishIf_reach | apply State.tapsAdapt_reach | apply State.rxApplyPending_reach | apply State.set_reach | apply State.inc_reach | (intros; show P _ = true; first | exact hsum _ rfl | (clear hsum; apply_assumption)) | split | dsimp only | intro _

end Sys2Proof.Machine
end

