-- ==== Sys2Proof/Laws/MovesContainers.lean ====
section
/-!
SUPPORT. What the operations of Machine/Containers.lean may change, one lemma each (Laws/Reach.lean).
-/
namespace Sys2Proof.Machine

set_option linter.unusedTactic false
set_option linter.unreachableTactic false

variable {P : Key → Bool} {Q : Part → Bool} {s0 s : State}

theorem execPmDegSecond_reach {d : Nat} {i : Nat} (hs : Reach P Q s0 s) (hsum : ∀ k, k.cell.summary → P k) (h11 : ∀ i, P ⟨.tdm .pmDegP, d, i⟩) (h12 : ∀ i, P ⟨.tdm .degRunP, d, i⟩) (h13 : ∀ i, P ⟨.tdm .degBadP, d, i⟩) (h14 : ∀ i, P ⟨.sticky .ctnPmDeg, d, i⟩) (h15 : ∀ i, P ⟨.live .ctnPmDeg, d, i⟩) (h16 : ∀ i, P ⟨.ct .degRun, d, i⟩) (h17 : ∀ i, P ⟨.ct .degBad, d, i⟩) (qreports : Q .reports) :
    ∃ t, execPmDegSecond d i s = .next t ∧ Reach P Q s0 t := by
  unfold execPmDegSecond
  repeat' with_reducible first | assumption | apply finishIf_reach | apply State.setB_reach | apply State.set_reach | apply State.cond_reach | (intros; show P _ = true; first | exact hsum _ rfl | (clear hsum; apply_assumption)) | split | dsimp only | intro _

theorem State.tandemSync_reach {d : Nat} (hs : Reach P Q s0 s) (h1 : ∀ i, P ⟨.tdm .state, d, i⟩) (h2 : ∀ i, P ⟨.live .tdmHistLost, d, i⟩) (qreports : Q .reports) :
    Reach P Q s0 (State.tandemSync s d) := by
  unfold State.tandemSync
  repeat' with_reducible first | assumption | apply State.each_reach | apply State.set_reach | apply State.lower_reach | (intros; show P _ = true; apply_assumption) | split | dsimp only | intro _

theorem execCtCommitApply_reach {d : Nat} (hs : Reach P Q s0 s) (hsum : ∀ k, k.cell.summary → P k) (h11 : ∀ i, P ⟨.sys .winBusy, d, i⟩) (h12 : ∀ a i, P ⟨Cell.winDirty a, d, i⟩) (h13 : ∀ a i, P ⟨Cell.mask a, d, i⟩) (h14 : ∀ a i, P ⟨Cell.win a, d, i⟩) (h15 : ∀ i, P ⟨.tdm .state, d, i⟩) (h16 : ∀ i, P ⟨.live .tdmHistLost, d, i⟩) (h17 : ∀ d i, P ⟨.sticky .ctnSf, d, i⟩) (h18 : ∀ d i, P ⟨.live .ctnSf, d, i⟩) (h19 : ∀ i, P ⟨.tdm .pages, d, i⟩) (qreports : Q .reports) :
    ∃ t, execCtCommitApply d s = .next t ∧ Reach P Q s0 t := by
  unfold execCtCommitApply
  repeat' with_reducible first | assumption | apply finishIf_reach | apply State.applyWin_reach | apply State.tandemSync_reach | apply State.ctnRefreshAll_reach | apply State.set_reach | apply foldl_reach | (intros; show P _ = true; first | exact hsum _ rfl | (clear hsum; apply_assumption)) | split | dsimp only | intro _

theorem State.gapCompare_reach {d : Nat} {i : Nat} {gapCnt : Nat} (hs : Reach P Q s0 s) (h1 : ∀ i, P ⟨.sticky .ctnGapMiss, d, i⟩) (h2 : ∀ i, P ⟨.ct .gapSeen, d, i⟩) (h3 : ∀ i, P ⟨.ct .nGapMiss, d, i⟩) (h4 : ∀ i, P ⟨.ct .gapInit, d, i⟩) (qreports : Q .reports) :
    Reach P Q s0 (State.gapCompare s d i gapCnt) := by
  unfold State.gapCompare
  repeat' with_reducible first | assumption | apply State.event_reach | apply State.set_reach | apply State.add_reach | (intros; show P _ = true; apply_assumption) | split | dsimp only | intro _

theorem State.ttiRead_reach {d : Nat} {e : Nat} {words : List Nat} {tim : Alm} {i : Nat} (hs : Reach P Q s0 s) (h1 : ∀ i, P ⟨.ct .ttiRun, d, i⟩) (h2 : ∀ i, P ⟨.ct .ttiLast, d, i⟩) (h3 : ∀ i, P ⟨.win .ctTti, d, i⟩) (h4 : ∀ i, P ⟨Cell.sticky tim, d, i⟩) (h5 : ∀ i, P ⟨Cell.live tim, d, i⟩) (qreports : Q .reports) :
    Reach P Q s0 (State.ttiRead s d e words tim i) := by
  unfold State.ttiRead
  repeat' with_reducible first | assumption | apply State.set_reach | apply State.each_reach | apply State.setWin_reach | apply State.cond_reach | (intros; show P _ = true; apply_assumption) | split | dsimp only | intro _

theorem State.ctnWorking_reach {d : Nat} {i : Nat} {f : Sys2Proof.CtnFrame} (hs : Reach P Q s0 s) (h1 : ∀ i, P ⟨.ct .beiTx, d, i⟩) (h2 : ∀ i, P ⟨.ct .degBad, d, i⟩) (h3 : ∀ i, P ⟨.ct .nPmBei, d, i⟩) (h4 : ∀ i, P ⟨.ct .nPmBip, d, i⟩) (h5 : ∀ i, P ⟨.ct .nFrames, d, i⟩) (h6 : ∀ i, P ⟨.sticky .ctnOciRx, d, i⟩) (h7 : ∀ i, P ⟨.live .ctnOciRx, d, i⟩) (h8 : ∀ i, P ⟨.sticky .ctnLckRx, d, i⟩) (h9 : ∀ i, P ⟨.live .ctnLckRx, d, i⟩) (h10 : ∀ i, P ⟨.sticky .ctnAisRx, d, i⟩) (h11 : ∀ i, P ⟨.live .ctnAisRx, d, i⟩) (h12 : ∀ i, P ⟨.sticky .ctnPmBdiRx, d, i⟩) (h13 : ∀ i, P ⟨.live .ctnPmBdiRx, d, i⟩) (h14 : ∀ i, P ⟨.sticky .ctnPtMismatch, d, i⟩) (h15 : ∀ i, P ⟨.live .ctnPtMismatch, d, i⟩) (h16 : ∀ i, P ⟨.sticky .ctnGmpErr, d, i⟩) (h17 : ∀ i, P ⟨.sticky .ctnGapMiss, d, i⟩) (h18 : ∀ i, P ⟨.ct .gapSeen, d, i⟩) (h19 : ∀ i, P ⟨.ct .nGapMiss, d, i⟩) (h20 : ∀ i, P ⟨.ct .gapInit, d, i⟩) (h21 : ∀ i, P ⟨.ct .nUncorrPkt, d, i⟩) (h22 : ∀ i, P ⟨.ct .ttiRun, d, i⟩) (h23 : ∀ i, P ⟨.ct .ttiLast, d, i⟩) (h24 : ∀ i, P ⟨.win .ctTti, d, i⟩) (h25 : ∀ i, P ⟨.sticky .ctnPmTim, d, i⟩) (h26 : ∀ i, P ⟨.live .ctnPmTim, d, i⟩) (h27 : ∀ i, P ⟨.sticky .fecBipOnly, d, i⟩) (h28 : ∀ i, P ⟨.fec .nBipOnly, d, i⟩) (qreports : Q .reports) :
    Reach P Q s0 (State.ctnWorking s d i f) := by
  unfold State.ctnWorking
  repeat' with_reducible first | assumption | apply State.set_reach | apply State.incIf_reach | apply State.add_reach | apply State.inc_reach | apply State.cond_reach | apply State.when_reach | apply State.event_reach | apply State.gapCompare_reach | apply State.ttiRead_reach | apply State.bipOnly_reach | (intros; show P _ = true; apply_assumption) | split | dsimp only | intro _

theorem execErrorMarkerRx_reach {d : Nat} {i : Nat} {verified : Bool} (hs : Reach P Q s0 s) (hsum : ∀ k, k.cell.summary → P k) (h11 : ∀ i, P ⟨.ct .nErrmkRx, d, i⟩) (qreports : Q .reports) :
    ∃ t, execErrorMarkerRx d i verified s = .next t ∧ Reach P Q s0 t := by
  unfold execErrorMarkerRx
  repeat' with_reducible first | assumption | apply finishIf_reach | apply State.incIf_reach | (intros; show P _ = true; first | exact hsum _ rfl | (clear hsum; apply_assumption)) | split | dsimp only | intro _

theorem State.ctnAlign_reach {d : Nat} {i : Nat} {k : Nat} {fas : Bool} (hs : Reach P Q s0 s) (h1 : ∀ i, P ⟨.ct .cMisses, d, i⟩) (h2 : ∀ i, P ⟨.ct .cHits, d, i⟩) (h3 : ∀ i, P ⟨.ct .gapInit, d, i⟩) (h4 : ∀ i, P ⟨.ct .cAligned, d, i⟩) (h5 : ∀ i, P ⟨.live .ctnLof, d, i⟩) (h6 : ∀ i, P ⟨.sticky .ctnLof, d, i⟩) (qreports : Q .reports) :
    Reach P Q s0 (State.ctnAlign s d i k fas) := by
  unfold State.ctnAlign
  repeat' with_reducible first | assumption | apply State.set_reach | apply State.when_reach | apply State.lower_reach | apply State.raise_reach | (intros; show P _ = true; apply_assumption) | split | dsimp only | intro _

theorem State.ctnProtect_reach {d : Nat} {i : Nat} {f : Sys2Proof.CtnFrame} (hs : Reach P Q s0 s) (h1 : ∀ i, P ⟨.tdm .degBadP, d, i⟩) (h2 : ∀ i, P ⟨.tdm .nPPmBip, d, i⟩) (h3 : ∀ d i, P ⟨.sticky .fecBipOnly, d, i⟩) (h4 : ∀ d i, P ⟨.fec .nBipOnly, d, i⟩) (qreports : Q .reports) :
    Reach P Q s0 (State.ctnProtect s d i f) := by
  unfold State.ctnProtect
  repeat' with_reducible first | assumption | apply State.when_reach | apply State.incIf_reach | apply State.add_reach | apply State.bipOnly_reach | (intros; show P _ = true; apply_assumption) | split | dsimp only | intro _

theorem execContainerFrameRx_reach {d : Nat} {i : Nat} {f : Sys2Proof.CtnFrame} (hs : Reach P Q s0 s) (hsum : ∀ k, k.cell.summary → P k) (h11 : ∀ i, P ⟨.ct .cMisses, d, i⟩) (h12 : ∀ i, P ⟨.ct .cHits, d, i⟩) (h13 : ∀ i, P ⟨.ct .gapInit, d, i⟩) (h14 : ∀ i, P ⟨.ct .cAligned, d, i⟩) (h15 : ∀ i, P ⟨.live .ctnLof, d, i⟩) (h16 : ∀ i, P ⟨.sticky .ctnLof, d, i⟩) (h17 : ∀ i, P ⟨.tdm .degBadP, d, i⟩) (h18 : ∀ i, P ⟨.tdm .nPPmBip, d, i⟩) (h19 : ∀ d i, P ⟨.sticky .fecBipOnly, d, i⟩) (h20 : ∀ d i, P ⟨.fec .nBipOnly, d, i⟩) (h21 : ∀ i, P ⟨.ct .beiTx, d, i⟩) (h22 : ∀ i, P ⟨.ct .degBad, d, i⟩) (h23 : ∀ i, P ⟨.ct .nPmBei, d, i⟩) (h24 : ∀ i, P ⟨.ct .nPmBip, d, i⟩) (h25 : ∀ i, P ⟨.ct .nFrames, d, i⟩) (h26 : ∀ i, P ⟨.sticky .ctnOciRx, d, i⟩) (h27 : ∀ i, P ⟨.live .ctnOciRx, d, i⟩) (h28 : ∀ i, P ⟨.sticky .ctnLckRx, d, i⟩) (h29 : ∀ i, P ⟨.live .ctnLckRx, d, i⟩) (h30 : ∀ i, P ⟨.sticky .ctnAisRx, d, i⟩) (h31 : ∀ i, P ⟨.live .ctnAisRx, d, i⟩) (h32 : ∀ i, P ⟨.sticky .ctnPmBdiRx, d, i⟩) (h33 : ∀ i, P ⟨.live .ctnPmBdiRx, d, i⟩) (h34 : ∀ i, P ⟨.sticky .ctnPtMismatch, d, i⟩) (h35 : ∀ i, P ⟨.live .ctnPtMismatch, d, i⟩) (h36 : ∀ i, P ⟨.sticky .ctnGmpErr, d, i⟩) (h37 : ∀ i, P ⟨.sticky .ctnGapMiss, d, i⟩) (h38 : ∀ i, P ⟨.ct .gapSeen, d, i⟩) (h39 : ∀ i, P ⟨.ct .nGapMiss, d, i⟩) (h40 : ∀ i, P ⟨.ct .nUncorrPkt, d, i⟩) (h41 : ∀ i, P ⟨.ct .ttiRun, d, i⟩) (h42 : ∀ i, P ⟨.ct .ttiLast, d, i⟩) (h43 : ∀ i, P ⟨.win .ctTti, d, i⟩) (h44 : ∀ i, P ⟨.sticky .ctnPmTim, d, i⟩) (h45 : ∀ i, P ⟨.live .ctnPmTim, d, i⟩) (h46 : ∀ i, P ⟨.tdm .wrPtr, d, i⟩) (h47 : ∀ i, P ⟨.tdm .rewind, d, i⟩) (h48 : ∀ i, P ⟨.live .tdmHistLost, d, i⟩) (h49 : ∀ i, P ⟨.tdm .state, d, i⟩) (h50 : ∀ i, P ⟨.sticky .tdmHistLost, d, i⟩) (h51 : ∀ i, P ⟨.sticky .tdmDiffExcess, d, i⟩) (h52 : ∀ i, P ⟨.live .tdmDiffExcess, d, i⟩) (h53 : ∀ i, P ⟨.tdm .diffUs, d, i⟩) (h54 : ∀ d i, P ⟨.tim .evtNext, d, i⟩) (h55 : ∀ d i, P ⟨.tim .evtAt, d, i⟩) (h56 : ∀ i, P ⟨.sticky .timPathChange, 0, i⟩) (h57 : ∀ i, P ⟨.tim .nPce, 0, i⟩) (h58 : ∀ i, P ⟨.tim .pceNext, 0, i⟩) (h59 : ∀ i, P ⟨.win .timPce, 0, i⟩) (h60 : ∀ i, P ⟨.tdm .delay, d, i⟩) (h61 : ∀ i, P ⟨.tdm .early, d, i⟩) (h62 : ∀ i, P ⟨.tdm .earlyRun, d, i⟩) (h63 : ∀ i, P ⟨.tdm .apsRun, d, i⟩) (h64 : ∀ i, P ⟨.tdm .unreflected, d, i⟩) (h65 : ∀ i, P ⟨.tdm .mismatch, d, i⟩) (h66 : ∀ i, P ⟨.tdm .apsLast, d, i⟩) (h67 : ∀ i, P ⟨.tdm .far, d, i⟩) (h68 : ∀ i, P ⟨.sticky .tdmApsFop, d, i⟩) (h69 : ∀ i, P ⟨.live .tdmApsFop, d, i⟩) (h70 : ∀ i, P ⟨.sticky .ctnSf, d, i⟩) (h71 : ∀ i, P ⟨.live .ctnSf, d, i⟩) (qreports : Q .reports) :
    ∃ t, execContainerFrameRx d i f s = .next t ∧ Reach P Q s0 t := by
  unfold execContainerFrameRx
  repeat' with_reducible first | assumption | apply finishIf_reach | apply State.ctnAlign_reach | apply State.when_reach | apply State.ctnProtect_reach | apply State.ctnWorking_reach | apply State.tdmArrive_reach | apply State.apsRead_reach | apply State.ctnRefresh_reach | (intros; show P _ = true; first | exact hsum _ rfl | (clear hsum; apply_assumption)) | split | dsimp only | intro _

theorem State.bondFail_reach {d : Nat} (hs : Reach P Q s0 s) (h1 : ∀ d i, P ⟨.sticky .ctBondSkewExc, d, i⟩) (h2 : ∀ d i, P ⟨.live .ctBondSkewExc, d, i⟩) (h3 : ∀ d i, P ⟨.sticky .ctnSf, d, i⟩) (h4 : ∀ d i, P ⟨.live .ctnSf, d, i⟩) (h5 : ∀ d i, P ⟨.ct .bondState, d, i⟩) (qreports : Q .reports) :
    Reach P Q s0 (State.bondFail s d) := by
  unfold State.bondFail
  repeat' with_reducible first | assumption | apply State.raiseAt_reach | apply State.each_reach | apply State.ctnRefreshAll_reach | apply State.set_reach | (intros; show P _ = true; apply_assumption) | split | dsimp only | intro _

theorem State.bondSet_reach {d : Nat} (hs : Reach P Q s0 s) (h1 : ∀ d i, P ⟨.sticky .ctnSf, d, i⟩) (h2 : ∀ d i, P ⟨.live .ctnSf, d, i⟩) (h3 : ∀ d i, P ⟨.ct .bondState, d, i⟩) (h4 : ∀ d i, P ⟨.ct .deskewUs, d, i⟩) (qreports : Q .reports) :
    Reach P Q s0 (State.bondSet s d) := by
  unfold State.bondSet
  repeat' with_reducible first | assumption | apply State.each_reach | apply State.ctnRefreshAll_reach | apply State.set_reach | (intros; show P _ = true; apply_assumption) | split | dsimp only | intro _

theorem execCtWindowCommit_reach {d : Nat} {w : Nat} (hs : Reach P Q s0 s) (hsum : ∀ k, k.cell.summary → P k) (h11 : ∀ i, P ⟨.sys .winBusy, d, i⟩) (h12 : ∀ i, P ⟨Cell.winDirty (framerWin w), d, i⟩) (h13 : ∀ i, P ⟨Cell.winNew (framerWin w), d, i⟩) (qreports : Q .reports) :
    ∃ t, execCtWindowCommit d w s = .next t ∧ Reach P Q s0 t := by
  unfold execCtWindowCommit
  repeat' with_reducible first | assumption | apply finishIf_reach | apply State.commitWin_reach | (intros; show P _ = true; first | exact hsum _ rfl | (clear hsum; apply_assumption)) | split | dsimp only | intro _

theorem execBondRealign_reach {d : Nat} (hs : Reach P Q s0 s) (hsum : ∀ k, k.cell.summary → P k) (h11 : ∀ d i, P ⟨.live .ctBondSkewExc, d, i⟩) (h12 : ∀ d i, P ⟨.sticky .ctnSf, d, i⟩) (h13 : ∀ d i, P ⟨.live .ctnSf, d, i⟩) (h14 : ∀ d i, P ⟨.ct .bondState, d, i⟩) (h15 : ∀ d i, P ⟨.ct .deskewUs, d, i⟩) (h16 : ∀ d i, P ⟨.ct .nBondRealign, d, i⟩) (qreports : Q .reports) :
    ∃ t, execBondRealign d s = .next t ∧ Reach P Q s0 t := by
  unfold execBondRealign
  repeat' with_reducible first | assumption | apply finishIf_reach | apply State.lowerAt_reach | apply State.bondSet_reach | apply State.each_reach | apply State.inc_reach | (intros; show P _ = true; first | exact hsum _ rfl | (clear hsum; apply_assumption)) | split | dsimp only | intro _

theorem execFasPatternFound_reach {d : Nat} {offset : Nat} (hs : Reach P Q s0 s) (hsum : ∀ k, k.cell.summary → P k) (h11 : ∀ i, P ⟨.tim .evtNext, d, i⟩) (h12 : ∀ i, P ⟨.tim .evtAt, d, i⟩) (h13 : ∀ d i, P ⟨.sticky .ctnSf, d, i⟩) (h14 : ∀ d i, P ⟨.live .ctnSf, d, i⟩) (h15 : ∀ i, P ⟨.sticky .ctOof, d, i⟩) (h16 : ∀ i, P ⟨.live .ctOof, d, i⟩) (h17 : ∀ i, P ⟨.sticky .ctLof, d, i⟩) (h18 : ∀ i, P ⟨.live .ctLof, d, i⟩) (h19 : ∀ i, P ⟨.ct .candCount, d, i⟩) (h20 : ∀ i, P ⟨.ct .align, d, i⟩) (qreports : Q .reports) (qcands : Q .cands) :
    ∃ t, execFasPatternFound d offset s = .next t ∧ Reach P Q s0 t := by
  unfold execFasPatternFound
  repeat' with_reducible first | assumption | apply finishIf_reach | apply State.alignRefresh_reach | (intros; show P _ = true; first | exact hsum _ rfl | (clear hsum; apply_assumption)) | split | dsimp only | intro _ | apply State.cands_reach

theorem execGapMarkerRx_reach {d : Nat} {i : Nat} {drops : Nat} {verified : Bool} (hs : Reach P Q s0 s) (hsum : ∀ k, k.cell.summary → P k) (h11 : ∀ i, P ⟨.ct .nGapRx, d, i⟩) (h12 : ∀ i, P ⟨.ct .gapSeen, d, i⟩) (h13 : ∀ i, P ⟨.ct .nGapPkts, d, i⟩) (qreports : Q .reports) :
    ∃ t, execGapMarkerRx d i drops verified s = .next t ∧ Reach P Q s0 t := by
  unfold execGapMarkerRx
  repeat' with_reducible first | assumption | apply finishIf_reach | apply State.when_reach | apply State.inc_reach | apply State.set_reach | apply State.add_reach | (intros; show P _ = true; first | exact hsum _ rfl | (clear hsum; apply_assumption)) | split | dsimp only | intro _

theorem execBondArrivalReport_reach {d : Nat} {us : Nat} (hs : Reach P Q s0 s) (hsum : ∀ k, k.cell.summary → P k) (h11 : ∀ i, P ⟨.ct .arrived, d, i⟩) (h12 : ∀ i, P ⟨.ct .arrival, d, i⟩) (h13 : ∀ d i, P ⟨.sticky .ctBondSkewExc, d, i⟩) (h14 : ∀ d i, P ⟨.live .ctBondSkewExc, d, i⟩) (h15 : ∀ d i, P ⟨.sticky .ctnSf, d, i⟩) (h16 : ∀ d i, P ⟨.live .ctnSf, d, i⟩) (h17 : ∀ d i, P ⟨.ct .bondState, d, i⟩) (h18 : ∀ d i, P ⟨.ct .deskewUs, d, i⟩) (qreports : Q .reports) :
    ∃ t, execBondArrivalReport d us s = .next t ∧ Reach P Q s0 t := by
  unfold execBondArrivalReport
  repeat' with_reducible first | assumption | apply finishIf_reach | apply State.when_reach | apply State.set_reach | apply State.bondFail_reach | apply State.bondSet_reach | (intros; show P _ = true; first | exact hsum _ rfl | (clear hsum; apply_assumption)) | split | dsimp only | intro _

theorem execGcc0FrameRx_reach {d : Nat} {fcsOk : Bool} {address : Nat} (hs : Reach P Q s0 s) (hsum : ∀ k, k.cell.summary → P k) (h11 : ∀ i, P ⟨.ct .nGccFcsErr, d, i⟩) (h12 : ∀ i, P ⟨.ct .nGccAddrDisc, d, i⟩) (qreports : Q .reports) :
    ∃ t, execGcc0FrameRx d fcsOk address s = .next t ∧ Reach P Q s0 t := by
  unfold execGcc0FrameRx
  repeat' with_reducible first | assumption | apply finishIf_reach | apply State.inc_reach | apply State.incIf_reach | (intros; show P _ = true; first | exact hsum _ rfl | (clear hsum; apply_assumption)) | split | dsimp only | intro _

theorem execLofTimer_reach {d : Nat} (hs : Reach P Q s0 s) (hsum : ∀ k, k.cell.summary → P k) (h11 : ∀ i, P ⟨.tim .evtNext, d, i⟩) (h12 : ∀ i, P ⟨.tim .evtAt, d, i⟩) (h13 : ∀ d i, P ⟨.sticky .ctnSf, d, i⟩) (h14 : ∀ d i, P ⟨.live .ctnSf, d, i⟩) (h15 : ∀ i, P ⟨.sticky .ctOof, d, i⟩) (h16 : ∀ i, P ⟨.live .ctOof, d, i⟩) (h17 : ∀ i, P ⟨.sticky .ctLof, d, i⟩) (h18 : ∀ i, P ⟨.live .ctLof, d, i⟩) (h19 : ∀ i, P ⟨.ct .candCount, d, i⟩) (h20 : ∀ i, P ⟨.ct .align, d, i⟩) (h21 : ∀ i, P ⟨.ct .lof, d, i⟩) (qreports : Q .reports) :
    ∃ t, execLofTimer d s = .next t ∧ Reach P Q s0 t := by
  unfold execLofTimer
  repeat' with_reducible first | assumption | apply finishIf_reach | apply State.alignRefresh_reach | apply State.set_reach | (intros; show P _ = true; first | exact hsum _ rfl | (clear hsum; apply_assumption)) | split | dsimp only | intro _

end Sys2Proof.Machine
end

