-- ==== Sys2Proof/Laws/MovesDerailleur.lean ====
section
/-!
SUPPORT. What the operations of Machine/Derailleur.lean may change, one lemma each (Laws/Reach.lean).
-/
namespace Sys2Proof.Machine

set_option linter.unusedTactic false
set_option linter.unreachableTactic false

variable {P : Key → Bool} {Q : Part → Bool} {s0 s : State}

theorem State.derSend_reach {type : Nat} {reason : Nat} (hs : Reach P Q s0 s) (h1 : ∀ i, P ⟨.der .lastOn, 0, i⟩) (h2 : ∀ i, P ⟨.der .lastReason, 0, i⟩) (h3 : ∀ i, P ⟨.der .lastMsg, 0, i⟩) (h4 : ∀ i, P ⟨.der .txSeq, 0, i⟩) :
    Reach P Q s0 (State.derSend s type reason) := by
  unfold State.derSend
  repeat' with_reducible first | assumption | apply State.set_reach | apply State.inc_reach | (intros; show P _ = true; apply_assumption) | split | dsimp only | intro _

theorem State.derReason_reach {reason : Nat} {carrier : Nat} {far : Nat} (hs : Reach P Q s0 s) (h1 : ∀ i, P ⟨.der .far, 0, i⟩) (h2 : ∀ i, P ⟨.der .failCarrier, 0, i⟩) (h3 : ∀ i, P ⟨.der .reason, 0, i⟩) :
    Reach P Q s0 (State.derReason s reason carrier far) := by
  unfold State.derReason
  repeat' with_reducible first | assumption | apply State.set_reach | (intros; show P _ = true; apply_assumption) | split | dsimp only | intro _

theorem State.mapKeep_reach {d : Nat} (hs : Reach P Q s0 s) (h1 : ∀ i, P ⟨.der .oldMap, d, i⟩) :
    Reach P Q s0 (State.mapKeep s d) := by
  unfold State.mapKeep
  repeat' with_reducible first | assumption | apply State.each_reach | apply State.set_reach | (intros; show P _ = true; apply_assumption) | split | dsimp only | intro _

theorem State.derBegin_reach {role : Nat} {id : Nat} {mask : Nat} {st : Nat} {node : Nat} (hs : Reach P Q s0 s) (h1 : ∀ i, P ⟨.der .partner, 0, i⟩) (h2 : ∀ i, P ⟨.der .state, 0, i⟩) (h3 : ∀ i, P ⟨.der .farEpoch, 0, i⟩) (h4 : ∀ i, P ⟨.der .epoch, 0, i⟩) (h5 : ∀ i, P ⟨.der .far, 0, i⟩) (h6 : ∀ i, P ⟨.der .failCarrier, 0, i⟩) (h7 : ∀ i, P ⟨.der .reason, 0, i⟩) (h8 : ∀ i, P ⟨.der .result, 0, i⟩) (h9 : ∀ i, P ⟨.der .role, 0, i⟩) (h10 : ∀ i, P ⟨.der .shiftId, 0, i⟩) (h11 : ∀ i, P ⟨.der .auto, 0, i⟩) (h12 : ∀ i, P ⟨.der .doneSent, 0, i⟩) (h13 : ∀ i, P ⟨.der .farDone, 0, i⟩) (h14 : ∀ i, P ⟨.der .farCommit, 0, i⟩) (h15 : ∀ i, P ⟨.der .armedRx, 0, i⟩) (h16 : ∀ i, P ⟨.der .seen, 0, i⟩) (h17 : ∀ i, P ⟨.der .pelMask, 0, i⟩) (h18 : ∀ i, P ⟨.der .tandemMask, 0, i⟩) (h19 : ∀ i, P ⟨.der .shiftMask, 0, i⟩) (h20 : ∀ d i, P ⟨.der .oldMap, d, i⟩) (h21 : ∀ d i, P ⟨.live .derSplit, d, i⟩) (h22 : ∀ d i, P ⟨.der .returned, d, i⟩) (h23 : ∀ d i, P ⟨.der .onNew, d, i⟩) (h24 : ∀ d i, P ⟨.der .rxEpoch, d, i⟩) (h25 : ∀ d i, P ⟨.der .rxEpochHeld, d, i⟩) (h26 : ∀ d i, P ⟨.der .ready, d, i⟩) (h27 : ∀ d i, P ⟨.der .rxSide, d, i⟩) (h28 : ∀ d i, P ⟨.der .txSide, d, i⟩) (h29 : ∀ d i, P ⟨.der .uReason, d, i⟩) (h30 : ∀ d i, P ⟨.der .uShiftId, d, i⟩) (h31 : ∀ d i, P ⟨.der .uRole, d, i⟩) (qreports : Q .reports) :
    Reach P Q s0 (State.derBegin s role id mask st node) := by
  unfold State.derBegin
  repeat' with_reducible first | assumption | apply State.set_reach | apply State.derReason_reach | apply State.each_reach | apply State.mapKeep_reach | apply State.lower_reach | (intros; show P _ = true; apply_assumption) | split | dsimp only | intro _

theorem State.derPropose_reach {id : Nat} {mask : Nat} {node : Nat} (hs : Reach P Q s0 s) (h1 : ∀ i, P ⟨.der .lastOn, 0, i⟩) (h2 : ∀ i, P ⟨.der .lastReason, 0, i⟩) (h3 : ∀ i, P ⟨.der .lastMsg, 0, i⟩) (h4 : ∀ i, P ⟨.der .txSeq, 0, i⟩) (h5 : ∀ i, P ⟨.der .partner, 0, i⟩) (h6 : ∀ i, P ⟨.der .state, 0, i⟩) (h7 : ∀ i, P ⟨.der .farEpoch, 0, i⟩) (h8 : ∀ i, P ⟨.der .epoch, 0, i⟩) (h9 : ∀ i, P ⟨.der .far, 0, i⟩) (h10 : ∀ i, P ⟨.der .failCarrier, 0, i⟩) (h11 : ∀ i, P ⟨.der .reason, 0, i⟩) (h12 : ∀ i, P ⟨.der .result, 0, i⟩) (h13 : ∀ i, P ⟨.der .role, 0, i⟩) (h14 : ∀ i, P ⟨.der .shiftId, 0, i⟩) (h15 : ∀ i, P ⟨.der .auto, 0, i⟩) (h16 : ∀ i, P ⟨.der .doneSent, 0, i⟩) (h17 : ∀ i, P ⟨.der .farDone, 0, i⟩) (h18 : ∀ i, P ⟨.der .farCommit, 0, i⟩) (h19 : ∀ i, P ⟨.der .armedRx, 0, i⟩) (h20 : ∀ i, P ⟨.der .seen, 0, i⟩) (h21 : ∀ i, P ⟨.der .pelMask, 0, i⟩) (h22 : ∀ i, P ⟨.der .tandemMask, 0, i⟩) (h23 : ∀ i, P ⟨.der .shiftMask, 0, i⟩) (h24 : ∀ d i, P ⟨.der .oldMap, d, i⟩) (h25 : ∀ d i, P ⟨.live .derSplit, d, i⟩) (h26 : ∀ d i, P ⟨.der .returned, d, i⟩) (h27 : ∀ d i, P ⟨.der .onNew, d, i⟩) (h28 : ∀ d i, P ⟨.der .rxEpoch, d, i⟩) (h29 : ∀ d i, P ⟨.der .rxEpochHeld, d, i⟩) (h30 : ∀ d i, P ⟨.der .ready, d, i⟩) (h31 : ∀ d i, P ⟨.der .rxSide, d, i⟩) (h32 : ∀ d i, P ⟨.der .txSide, d, i⟩) (h33 : ∀ d i, P ⟨.der .uReason, d, i⟩) (h34 : ∀ d i, P ⟨.der .uShiftId, d, i⟩) (h35 : ∀ d i, P ⟨.der .uRole, d, i⟩) (qreports : Q .reports) :
    Reach P Q s0 (State.derPropose s id mask node) := by
  unfold State.derPropose
  repeat' with_reducible first | assumption | apply State.derSend_reach | apply State.derBegin_reach | (intros; show P _ = true; apply_assumption) | split | dsimp only | intro _

theorem State.derAwaitTicket_reach {id : Nat} {mask : Nat} {node : Nat} (hs : Reach P Q s0 s) (h1 : ∀ i, P ⟨.der .initNode, 0, i⟩) (h2 : ∀ i, P ⟨.der .partner, 0, i⟩) (h3 : ∀ i, P ⟨.der .state, 0, i⟩) (h4 : ∀ i, P ⟨.der .farEpoch, 0, i⟩) (h5 : ∀ i, P ⟨.der .epoch, 0, i⟩) (h6 : ∀ i, P ⟨.der .far, 0, i⟩) (h7 : ∀ i, P ⟨.der .failCarrier, 0, i⟩) (h8 : ∀ i, P ⟨.der .reason, 0, i⟩) (h9 : ∀ i, P ⟨.der .result, 0, i⟩) (h10 : ∀ i, P ⟨.der .role, 0, i⟩) (h11 : ∀ i, P ⟨.der .shiftId, 0, i⟩) (h12 : ∀ i, P ⟨.der .auto, 0, i⟩) (h13 : ∀ i, P ⟨.der .doneSent, 0, i⟩) (h14 : ∀ i, P ⟨.der .farDone, 0, i⟩) (h15 : ∀ i, P ⟨.der .farCommit, 0, i⟩) (h16 : ∀ i, P ⟨.der .armedRx, 0, i⟩) (h17 : ∀ i, P ⟨.der .seen, 0, i⟩) (h18 : ∀ i, P ⟨.der .pelMask, 0, i⟩) (h19 : ∀ i, P ⟨.der .tandemMask, 0, i⟩) (h20 : ∀ i, P ⟨.der .shiftMask, 0, i⟩) (h21 : ∀ d i, P ⟨.der .oldMap, d, i⟩) (h22 : ∀ d i, P ⟨.live .derSplit, d, i⟩) (h23 : ∀ d i, P ⟨.der .returned, d, i⟩) (h24 : ∀ d i, P ⟨.der .onNew, d, i⟩) (h25 : ∀ d i, P ⟨.der .rxEpoch, d, i⟩) (h26 : ∀ d i, P ⟨.der .rxEpochHeld, d, i⟩) (h27 : ∀ d i, P ⟨.der .ready, d, i⟩) (h28 : ∀ d i, P ⟨.der .rxSide, d, i⟩) (h29 : ∀ d i, P ⟨.der .txSide, d, i⟩) (h30 : ∀ d i, P ⟨.der .uReason, d, i⟩) (h31 : ∀ d i, P ⟨.der .uShiftId, d, i⟩) (h32 : ∀ d i, P ⟨.der .uRole, d, i⟩) (qreports : Q .reports) :
    Reach P Q s0 (State.derAwaitTicket s id mask node) := by
  unfold State.derAwaitTicket
  repeat' with_reducible first | assumption | apply State.set_reach | apply State.derBegin_reach | (intros; show P _ = true; apply_assumption) | split | dsimp only | intro _

theorem State.setSide_reach {d : Nat} {tx : Bool} {v : Nat} (hs : Reach P Q s0 s) (h1 : ∀ i, P ⟨.der .txSide, d, i⟩) (h2 : ∀ i, P ⟨.der .rxSide, d, i⟩) (h3 : ∀ i, P ⟨.sticky .derMissed, d, i⟩) (h4 : ∀ i, P ⟨.live .derMissed, d, i⟩) (qreports : Q .reports) :
    Reach P Q s0 (State.setSide s d tx v) := by
  unfold State.setSide
  repeat' with_reducible first | assumption | apply State.set_reach | apply State.cond_reach | (intros; show P _ = true; apply_assumption) | split | dsimp only | intro _

theorem State.sideReturned_reach {d : Nat} {tx : Bool} (hs : Reach P Q s0 s) (h1 : ∀ i, P ⟨.sticky .derRollback, d, i⟩) (h2 : ∀ i, P ⟨.der .nRollback, d, i⟩) (h3 : ∀ i, P ⟨.der .returned, d, i⟩) (h4 : ∀ i, P ⟨.der .txSide, d, i⟩) (h5 : ∀ i, P ⟨.der .rxSide, d, i⟩) (h6 : ∀ i, P ⟨.sticky .derMissed, d, i⟩) (h7 : ∀ i, P ⟨.live .derMissed, d, i⟩) (qreports : Q .reports) :
    Reach P Q s0 (State.sideReturned s d tx) := by
  unfold State.sideReturned
  repeat' with_reducible first | assumption | apply State.event_reach | apply State.inc_reach | apply State.set_reach | apply State.setSide_reach | (intros; show P _ = true; apply_assumption) | split | dsimp only | intro _

theorem State.derTake_reach {m : Sys2Proof.DerMsg} {type : Nat} {f : State → State} (hs : Reach P Q s0 s) (h1 : ∀ i, P ⟨.der .rxSeq, 0, i⟩) (h2 : ∀ i, P ⟨.der .nMsgDisc, 0, i⟩) (hf : ∀ x, Reach P Q s0 x → Reach P Q s0 (f x)) :
    Reach P Q s0 (State.derTake s m type f) := by
  unfold State.derTake
  repeat' with_reducible first | assumption | apply State.set_reach | apply State.inc_reach | apply hf | (intros; show P _ = true; apply_assumption) | split | dsimp only | intro _

theorem State.mapDiscard_reach {d : Nat} (hs : Reach P Q s0 s) (h1 : ∀ i, P ⟨.winDirty .ctTsmap, d, i⟩) :
    Reach P Q s0 (State.mapDiscard s d) := by
  unfold State.mapDiscard
  repeat' with_reducible first | assumption | apply State.each_reach | apply State.set_reach | (intros; show P _ = true; apply_assumption) | split | dsimp only | intro _

theorem State.unitRelease_reach {d : Nat} (hs : Reach P Q s0 s) (h1 : ∀ i, P ⟨.winDirty .ctTsmap, d, i⟩) (h2 : ∀ i, P ⟨.live .derAis, d, i⟩) (h3 : ∀ i, P ⟨.live .derMissed, d, i⟩) (h4 : ∀ i, P ⟨.der .ready, d, i⟩) (h5 : ∀ i, P ⟨.der .kindEpoch, d, i⟩) (h6 : ∀ i, P ⟨.der .kind, d, i⟩) (h7 : ∀ i, P ⟨.der .uShiftId, d, i⟩) (h8 : ∀ i, P ⟨.der .uRole, d, i⟩) (h9 : ∀ i, P ⟨.der .rxSide, d, i⟩) (h10 : ∀ i, P ⟨.der .txSide, d, i⟩) (qreports : Q .reports) :
    Reach P Q s0 (State.unitRelease s d) := by
  unfold State.unitRelease
  repeat' with_reducible first | assumption | apply State.mapDiscard_reach | apply State.lower_reach | apply State.set_reach | (intros; show P _ = true; apply_assumption) | split | dsimp only | intro _

theorem State.derEnd_reach {result : Nat} (hs : Reach P Q s0 s) (h1 : ∀ i, P ⟨.der .state, 0, i⟩) (h2 : ∀ i, P ⟨.der .result, 0, i⟩) (h3 : ∀ d i, P ⟨.winDirty .ctTsmap, d, i⟩) (h4 : ∀ d i, P ⟨.live .derAis, d, i⟩) (h5 : ∀ d i, P ⟨.live .derMissed, d, i⟩) (h6 : ∀ d i, P ⟨.der .ready, d, i⟩) (h7 : ∀ d i, P ⟨.der .kindEpoch, d, i⟩) (h8 : ∀ d i, P ⟨.der .kind, d, i⟩) (h9 : ∀ d i, P ⟨.der .uShiftId, d, i⟩) (h10 : ∀ d i, P ⟨.der .uRole, d, i⟩) (h11 : ∀ d i, P ⟨.der .rxSide, d, i⟩) (h12 : ∀ d i, P ⟨.der .txSide, d, i⟩) (h13 : ∀ d i, P ⟨.der .lastShift, d, i⟩) (qreports : Q .reports) :
    Reach P Q s0 (State.derEnd s result) := by
  unfold State.derEnd
  repeat' with_reducible first | assumption | apply State.set_reach | apply State.each_reach | apply State.unitRelease_reach | (intros; show P _ = true; apply_assumption) | split | dsimp only | intro _

theorem State.derFollow_reach (hs : Reach P Q s0 s) (h1 : ∀ i, P ⟨.der .state, 0, i⟩) (h2 : ∀ i, P ⟨.der .doneSent, 0, i⟩) (h3 : ∀ i, P ⟨.der .lastOn, 0, i⟩) (h4 : ∀ i, P ⟨.der .lastReason, 0, i⟩) (h5 : ∀ i, P ⟨.der .lastMsg, 0, i⟩) (h6 : ∀ i, P ⟨.der .txSeq, 0, i⟩) (h7 : ∀ i, P ⟨.der .result, 0, i⟩) (h8 : ∀ d i, P ⟨.winDirty .ctTsmap, d, i⟩) (h9 : ∀ d i, P ⟨.live .derAis, d, i⟩) (h10 : ∀ d i, P ⟨.live .derMissed, d, i⟩) (h11 : ∀ d i, P ⟨.der .ready, d, i⟩) (h12 : ∀ d i, P ⟨.der .kindEpoch, d, i⟩) (h13 : ∀ d i, P ⟨.der .kind, d, i⟩) (h14 : ∀ d i, P ⟨.der .uShiftId, d, i⟩) (h15 : ∀ d i, P ⟨.der .uRole, d, i⟩) (h16 : ∀ d i, P ⟨.der .rxSide, d, i⟩) (h17 : ∀ d i, P ⟨.der .txSide, d, i⟩) (h18 : ∀ d i, P ⟨.der .lastShift, d, i⟩) (h19 : ∀ i, P ⟨.der .nShiftOk, 0, i⟩) (qreports : Q .reports) :
    Reach P Q s0 (State.derFollow s) := by
  unfold State.derFollow
  repeat' with_reducible first | assumption | apply State.set_reach | apply State.derSend_reach | apply State.derEnd_reach | apply State.inc_reach | (intros; show P _ = true; apply_assumption) | split | dsimp only | intro _

theorem State.derMark_reach {type : Nat} (hs : Reach P Q s0 s) (h1 : ∀ i, P ⟨.der .seen, 0, i⟩) :
    Reach P Q s0 (State.derMark s type) := by
  unfold State.derMark
  repeat' with_reducible first | assumption | apply State.set_reach | (intros; show P _ = true; apply_assumption) | split | dsimp only | intro _

theorem execDerDoneRx_reach {m : Sys2Proof.DerMsg} (hs : Reach P Q s0 s) (hsum : ∀ k, k.cell.summary → P k) (h11 : ∀ i, P ⟨.der .rxSeq, 0, i⟩) (h12 : ∀ i, P ⟨.der .nMsgDisc, 0, i⟩) (h13 : ∀ i, P ⟨.der .state, 0, i⟩) (h14 : ∀ i, P ⟨.der .doneSent, 0, i⟩) (h15 : ∀ i, P ⟨.der .lastOn, 0, i⟩) (h16 : ∀ i, P ⟨.der .lastReason, 0, i⟩) (h17 : ∀ i, P ⟨.der .lastMsg, 0, i⟩) (h18 : ∀ i, P ⟨.der .txSeq, 0, i⟩) (h19 : ∀ i, P ⟨.der .result, 0, i⟩) (h20 : ∀ d i, P ⟨.winDirty .ctTsmap, d, i⟩) (h21 : ∀ d i, P ⟨.live .derAis, d, i⟩) (h22 : ∀ d i, P ⟨.live .derMissed, d, i⟩) (h23 : ∀ d i, P ⟨.der .ready, d, i⟩) (h24 : ∀ d i, P ⟨.der .kindEpoch, d, i⟩) (h25 : ∀ d i, P ⟨.der .kind, d, i⟩) (h26 : ∀ d i, P ⟨.der .uShiftId, d, i⟩) (h27 : ∀ d i, P ⟨.der .uRole, d, i⟩) (h28 : ∀ d i, P ⟨.der .rxSide, d, i⟩) (h29 : ∀ d i, P ⟨.der .txSide, d, i⟩) (h30 : ∀ d i, P ⟨.der .lastShift, d, i⟩) (h31 : ∀ i, P ⟨.der .nShiftOk, 0, i⟩) (h32 : ∀ i, P ⟨.der .farDone, 0, i⟩) (h33 : ∀ i, P ⟨.der .seen, 0, i⟩) (qreports : Q .reports) :
    ∃ t, execDerDoneRx m s = .next t ∧ Reach P Q s0 t := by
  unfold execDerDoneRx
  repeat' with_reducible first | assumption | apply finishIf_reach | apply State.derTake_reach | apply State.derFollow_reach | apply State.set_reach | apply State.derMark_reach | (intros; show P _ = true; first | exact hsum _ rfl | (clear hsum; apply_assumption)) | split | dsimp only | intro _

theorem State.writeRxBank_reach {d : Nat} {b : Nat} {q : Mode} (hs : Reach P Q s0 s) (h1 : ∀ i, P ⟨.lr .compHi, d, i⟩) (h2 : ∀ i, P ⟨.lr .compLo, d, i⟩) (h3 : ∀ i, P ⟨.lr .netK, d, i⟩) (h4 : ∀ i, P ⟨.lr .rolloff, d, i⟩) (h5 : ∀ i, P ⟨.lr .fecRate, d, i⟩) (h6 : ∀ i, P ⟨.lr .pilotGain, d, i⟩) (h7 : ∀ i, P ⟨.lr .entropy, d, i⟩) (h8 : ∀ i, P ⟨.lr .const, d, i⟩) (h9 : ∀ i, P ⟨.lr .rs, d, i⟩) (h10 : ∀ i, P ⟨.lr .lineStd, d, i⟩) :
    Reach P Q s0 (State.writeRxBank s d b q) := by
  unfold State.writeRxBank
  repeat' with_reducible first | assumption | apply State.setRxComp_reach | apply State.set_reach | (intros; show P _ = true; apply_assumption) | split | dsimp only | intro _

theorem State.writeTxBank_reach {d : Nat} {b : Nat} {q : Mode} (hs : Reach P Q s0 s) (h1 : ∀ i, P ⟨.lt .compHi, d, i⟩) (h2 : ∀ i, P ⟨.lt .compLo, d, i⟩) (h3 : ∀ i, P ⟨.lt .netK, d, i⟩) (h4 : ∀ i, P ⟨.lt .rolloff, d, i⟩) (h5 : ∀ i, P ⟨.lt .fecRate, d, i⟩) (h6 : ∀ i, P ⟨.lt .pilotGain, d, i⟩) (h7 : ∀ i, P ⟨.lt .nlpdBank, d, i⟩) (h8 : ∀ i, P ⟨.lt .entropy, d, i⟩) (h9 : ∀ i, P ⟨.lt .const, d, i⟩) (h10 : ∀ i, P ⟨.lt .rs, d, i⟩) (h11 : ∀ i, P ⟨.lt .lineStd, d, i⟩) :
    Reach P Q s0 (State.writeTxBank s d b q) := by
  unfold State.writeTxBank
  repeat' with_reducible first | assumption | apply State.setTxComp_reach | apply State.set_reach | (intros; show P _ = true; apply_assumption) | split | dsimp only | intro _

theorem State.derCancel_reach {reason : Nat} {carrier : Nat} {far : Nat} (hs : Reach P Q s0 s) (h1 : ∀ i, P ⟨.der .state, 0, i⟩) (h2 : ∀ i, P ⟨.der .result, 0, i⟩) (h3 : ∀ d i, P ⟨.winDirty .ctTsmap, d, i⟩) (h4 : ∀ d i, P ⟨.live .derAis, d, i⟩) (h5 : ∀ d i, P ⟨.live .derMissed, d, i⟩) (h6 : ∀ d i, P ⟨.der .ready, d, i⟩) (h7 : ∀ d i, P ⟨.der .kindEpoch, d, i⟩) (h8 : ∀ d i, P ⟨.der .kind, d, i⟩) (h9 : ∀ d i, P ⟨.der .uShiftId, d, i⟩) (h10 : ∀ d i, P ⟨.der .uRole, d, i⟩) (h11 : ∀ d i, P ⟨.der .rxSide, d, i⟩) (h12 : ∀ d i, P ⟨.der .txSide, d, i⟩) (h13 : ∀ d i, P ⟨.der .lastShift, d, i⟩) (h14 : ∀ i, P ⟨.der .nCancel, 0, i⟩) (h15 : ∀ i, P ⟨.der .far, 0, i⟩) (h16 : ∀ i, P ⟨.der .failCarrier, 0, i⟩) (h17 : ∀ i, P ⟨.der .reason, 0, i⟩) (qreports : Q .reports) :
    Reach P Q s0 (State.derCancel s reason carrier far) := by
  unfold State.derCancel
  repeat' with_reducible first | assumption | apply State.derEnd_reach | apply State.inc_reach | apply State.derReason_reach | (intros; show P _ = true; apply_assumption) | split | dsimp only | intro _

theorem execDerRefuseRx_reach {m : Sys2Proof.DerMsg} {reason : Nat} {unit : Nat} (hs : Reach P Q s0 s) (hsum : ∀ k, k.cell.summary → P k) (h11 : ∀ i, P ⟨.der .rxSeq, 0, i⟩) (h12 : ∀ i, P ⟨.der .nMsgDisc, 0, i⟩) (h13 : ∀ i, P ⟨.der .state, 0, i⟩) (h14 : ∀ i, P ⟨.der .result, 0, i⟩) (h15 : ∀ d i, P ⟨.winDirty .ctTsmap, d, i⟩) (h16 : ∀ d i, P ⟨.live .derAis, d, i⟩) (h17 : ∀ d i, P ⟨.live .derMissed, d, i⟩) (h18 : ∀ d i, P ⟨.der .ready, d, i⟩) (h19 : ∀ d i, P ⟨.der .kindEpoch, d, i⟩) (h20 : ∀ d i, P ⟨.der .kind, d, i⟩) (h21 : ∀ d i, P ⟨.der .uShiftId, d, i⟩) (h22 : ∀ d i, P ⟨.der .uRole, d, i⟩) (h23 : ∀ d i, P ⟨.der .rxSide, d, i⟩) (h24 : ∀ d i, P ⟨.der .txSide, d, i⟩) (h25 : ∀ d i, P ⟨.der .lastShift, d, i⟩) (h26 : ∀ i, P ⟨.der .nCancel, 0, i⟩) (h27 : ∀ i, P ⟨.der .far, 0, i⟩) (h28 : ∀ i, P ⟨.der .failCarrier, 0, i⟩) (h29 : ∀ i, P ⟨.der .reason, 0, i⟩) (h30 : ∀ i, P ⟨.der .lastOn, 0, i⟩) (h31 : ∀ i, P ⟨.der .lastReason, 0, i⟩) (h32 : ∀ i, P ⟨.der .lastMsg, 0, i⟩) (h33 : ∀ i, P ⟨.der .txSeq, 0, i⟩) (h34 : ∀ i, P ⟨.der .seen, 0, i⟩) (qreports : Q .reports) :
    ∃ t, execDerRefuseRx m reason unit s = .next t ∧ Reach P Q s0 t := by
  unfold execDerRefuseRx
  repeat' with_reducible first | assumption | apply finishIf_reach | apply State.derTake_reach | apply State.derCancel_reach | apply State.derSend_reach | apply State.derMark_reach | (intros; show P _ = true; first | exact hsum _ rfl | (clear hsum; apply_assumption)) | split | dsimp only | intro _

theorem State.kindNext_reach {d : Nat} (hs : Reach P Q s0 s) (h1 : ∀ i, P ⟨.der .kindEpoch, d, i⟩) (h2 : ∀ i, P ⟨.der .kind, d, i⟩) :
    Reach P Q s0 (State.kindNext s d) := by
  unfold State.kindNext
  repeat' with_reducible first | assumption | apply State.set_reach | (intros; show P _ = true; apply_assumption) | split | dsimp only | intro _

theorem State.unitCommit_reach {d : Nat} {e : Nat} (hs : Reach P Q s0 s) (h1 : ∀ i, P ⟨.der .txSide, d, i⟩) (h2 : ∀ i, P ⟨.der .rxSide, d, i⟩) (h3 : ∀ i, P ⟨.sticky .derMissed, d, i⟩) (h4 : ∀ i, P ⟨.live .derMissed, d, i⟩) (h5 : ∀ i, P ⟨.der .kindEpoch, d, i⟩) (h6 : ∀ i, P ⟨.der .kind, d, i⟩) (qreports : Q .reports) :
    Reach P Q s0 (State.unitCommit s d e) := by
  unfold State.unitCommit
  repeat' with_reducible first | assumption | apply State.setSide_reach | apply State.set_reach | (intros; show P _ = true; apply_assumption) | split | dsimp only | intro _

theorem execDerSideDone_reach {d : Nat} (hs : Reach P Q s0 s) (hsum : ∀ k, k.cell.summary → P k) (h11 : ∀ i, P ⟨.der .state, 0, i⟩) (h12 : ∀ i, P ⟨.der .doneSent, 0, i⟩) (h13 : ∀ i, P ⟨.der .lastOn, 0, i⟩) (h14 : ∀ i, P ⟨.der .lastReason, 0, i⟩) (h15 : ∀ i, P ⟨.der .lastMsg, 0, i⟩) (h16 : ∀ i, P ⟨.der .txSeq, 0, i⟩) (h17 : ∀ i, P ⟨.der .result, 0, i⟩) (h18 : ∀ d i, P ⟨.winDirty .ctTsmap, d, i⟩) (h19 : ∀ d i, P ⟨.live .derAis, d, i⟩) (h20 : ∀ d i, P ⟨.live .derMissed, d, i⟩) (h21 : ∀ d i, P ⟨.der .ready, d, i⟩) (h22 : ∀ d i, P ⟨.der .kindEpoch, d, i⟩) (h23 : ∀ d i, P ⟨.der .kind, d, i⟩) (h24 : ∀ d i, P ⟨.der .uShiftId, d, i⟩) (h25 : ∀ d i, P ⟨.der .uRole, d, i⟩) (h26 : ∀ d i, P ⟨.der .rxSide, d, i⟩) (h27 : ∀ d i, P ⟨.der .txSide, d, i⟩) (h28 : ∀ d i, P ⟨.der .lastShift, d, i⟩) (h29 : ∀ i, P ⟨.der .nShiftOk, 0, i⟩) (h30 : ∀ i, P ⟨.sticky .derMissed, d, i⟩) (qreports : Q .reports) :
    ∃ t, execDerSideDone d s = .next t ∧ Reach P Q s0 t := by
  unfold execDerSideDone
  repeat' with_reducible first | assumption | apply finishIf_reach | apply State.derFollow_reach | apply State.setSide_reach | (intros; show P _ = true; first | exact hsum _ rfl | (clear hsum; apply_assumption)) | split | dsimp only | intro _

theorem State.derCommit_reach (hs : Reach P Q s0 s) (h1 : ∀ i, P ⟨.der .lastOn, 0, i⟩) (h2 : ∀ i, P ⟨.der .lastReason, 0, i⟩) (h3 : ∀ i, P ⟨.der .lastMsg, 0, i⟩) (h4 : ∀ i, P ⟨.der .txSeq, 0, i⟩) (h5 : ∀ i, P ⟨.der .state, 0, i⟩) (h6 : ∀ i, P ⟨.der .epoch, 0, i⟩) (h7 : ∀ d i, P ⟨.der .txSide, d, i⟩) (h8 : ∀ d i, P ⟨.der .rxSide, d, i⟩) (h9 : ∀ d i, P ⟨.sticky .derMissed, d, i⟩) (h10 : ∀ d i, P ⟨.live .derMissed, d, i⟩) (h11 : ∀ d i, P ⟨.der .kindEpoch, d, i⟩) (h12 : ∀ d i, P ⟨.der .kind, d, i⟩) (qreports : Q .reports) :
    Reach P Q s0 (State.derCommit s) := by
  unfold State.derCommit
  repeat' with_reducible first | assumption | apply State.derSend_reach | apply State.set_reach | apply State.each_reach | apply State.unitCommit_reach | (intros; show P _ = true; apply_assumption) | split | dsimp only | intro _

theorem execDerLatchPoint_reach {d : Nat} {tx : Bool} (hs : Reach P Q s0 s) (hsum : ∀ k, k.cell.summary → P k) (h11 : ∀ i, P ⟨.sticky .derMissed, d, i⟩) (h12 : ∀ i, P ⟨.der .state, 0, i⟩) (h13 : ∀ i, P ⟨.der .doneSent, 0, i⟩) (h14 : ∀ i, P ⟨.der .lastOn, 0, i⟩) (h15 : ∀ i, P ⟨.der .lastReason, 0, i⟩) (h16 : ∀ i, P ⟨.der .lastMsg, 0, i⟩) (h17 : ∀ i, P ⟨.der .txSeq, 0, i⟩) (h18 : ∀ i, P ⟨.der .result, 0, i⟩) (h19 : ∀ d i, P ⟨.winDirty .ctTsmap, d, i⟩) (h20 : ∀ d i, P ⟨.live .derAis, d, i⟩) (h21 : ∀ d i, P ⟨.live .derMissed, d, i⟩) (h22 : ∀ d i, P ⟨.der .ready, d, i⟩) (h23 : ∀ d i, P ⟨.der .kindEpoch, d, i⟩) (h24 : ∀ d i, P ⟨.der .kind, d, i⟩) (h25 : ∀ d i, P ⟨.der .uShiftId, d, i⟩) (h26 : ∀ d i, P ⟨.der .uRole, d, i⟩) (h27 : ∀ d i, P ⟨.der .rxSide, d, i⟩) (h28 : ∀ d i, P ⟨.der .txSide, d, i⟩) (h29 : ∀ d i, P ⟨.der .lastShift, d, i⟩) (h30 : ∀ i, P ⟨.der .nShiftOk, 0, i⟩) (h31 : ∀ i, P ⟨.sys .freeCount, 0, i⟩) (h32 : ∀ i, P ⟨.der .far, 0, i⟩) (h33 : ∀ i, P ⟨.der .failCarrier, 0, i⟩) (h34 : ∀ i, P ⟨.der .reason, 0, i⟩) (h35 : ∀ i, P ⟨.der .uReason, d, i⟩) (h36 : ∀ i, P ⟨.der .nMiss, d, i⟩) (qreports : Q .reports) :
    ∃ t, execDerLatchPoint d tx s = .next t ∧ Reach P Q s0 t := by
  unfold execDerLatchPoint
  repeat' with_reducible first | assumption | apply finishIf_reach | apply State.setSide_reach | apply State.derFollow_reach | apply State.used_reach | apply State.derReason_reach | apply State.set_reach | apply State.inc_reach | (intros; show P _ = true; first | exact hsum _ rfl | (clear hsum; apply_assumption)) | split | dsimp only | intro _

theorem execDerRollbackDecision_reach (hs : Reach P Q s0 s) (hsum : ∀ k, k.cell.summary → P k) (h11 : ∀ i, P ⟨.der .state, 0, i⟩) (h12 : ∀ d i, P ⟨.der .kindEpoch, d, i⟩) (h13 : ∀ d i, P ⟨.der .kind, d, i⟩) (qreports : Q .reports) :
    ∃ t, execDerRollbackDecision s = .next t ∧ Reach P Q s0 t := by
  unfold execDerRollbackDecision
  repeat' with_reducible first | assumption | apply finishIf_reach | apply State.set_reach | apply State.each_reach | (intros; show P _ = true; first | exact hsum _ rfl | (clear hsum; apply_assumption)) | split | dsimp only | intro _

theorem execDerResultSet_reach (hs : Reach P Q s0 s) (hsum : ∀ k, k.cell.summary → P k) (h11 : ∀ i, P ⟨.der .state, 0, i⟩) (h12 : ∀ i, P ⟨.der .result, 0, i⟩) (h13 : ∀ d i, P ⟨.winDirty .ctTsmap, d, i⟩) (h14 : ∀ d i, P ⟨.live .derAis, d, i⟩) (h15 : ∀ d i, P ⟨.live .derMissed, d, i⟩) (h16 : ∀ d i, P ⟨.der .ready, d, i⟩) (h17 : ∀ d i, P ⟨.der .kindEpoch, d, i⟩) (h18 : ∀ d i, P ⟨.der .kind, d, i⟩) (h19 : ∀ d i, P ⟨.der .uShiftId, d, i⟩) (h20 : ∀ d i, P ⟨.der .uRole, d, i⟩) (h21 : ∀ d i, P ⟨.der .rxSide, d, i⟩) (h22 : ∀ d i, P ⟨.der .txSide, d, i⟩) (h23 : ∀ d i, P ⟨.der .lastShift, d, i⟩) (h24 : ∀ d i, P ⟨.sticky .derSplit, d, i⟩) (h25 : ∀ d i, P ⟨.live .derSplit, d, i⟩) (h26 : ∀ d i, P ⟨.der .onNew, d, i⟩) (h27 : ∀ d i, P ⟨.der .returned, d, i⟩) (qreports : Q .reports) :
    ∃ t, execDerResultSet s = .next t ∧ Reach P Q s0 t := by
  unfold execDerResultSet
  repeat' with_reducible first | assumption | apply finishIf_reach | apply State.each_reach | apply State.derEnd_reach | apply State.raise_reach | apply State.set_reach | (intros; show P _ = true; first | exact hsum _ rfl | (clear hsum; apply_assumption)) | split | dsimp only | intro _

theorem State.derAisFollow_reach {d : Nat} (hs : Reach P Q s0 s) (h1 : ∀ i, P ⟨.sticky .derAis, d, i⟩) (h2 : ∀ i, P ⟨.live .derAis, d, i⟩) (qreports : Q .reports) :
    Reach P Q s0 (State.derAisFollow s d) := by
  unfold State.derAisFollow
  repeat' with_reducible first | assumption | apply State.cond_reach | (intros; show P _ = true; apply_assumption) | split | dsimp only | intro _

theorem State.txBankSwitch_reach {d : Nat} (hs : Reach P Q s0 s) (h1 : ∀ i, P ⟨.lt .muteCause, d, i⟩) (h2 : ∀ i, P ⟨.lt .ramp, d, i⟩) (h3 : ∀ i, P ⟨.lt .txState, d, i⟩) (h4 : ∀ i, P ⟨.lt .otherCause, d, i⟩) (h5 : ∀ i, P ⟨.bias .ptState, d, i⟩) (h6 : ∀ i, P ⟨.bias .ptAcq, d, i⟩) (h7 : ∀ i, P ⟨.bias .ptV, d, i⟩) (h8 : ∀ i, P ⟨.bias .ptBase, d, i⟩) (h9 : ∀ i, P ⟨.lt .nMuteEnter, d, i⟩) (h10 : ∀ i, P ⟨.lt .begun4, d, i⟩) (h11 : ∀ i, P ⟨.sticky .ltTxDown, d, i⟩) (h12 : ∀ i, P ⟨.live .ltTxDown, d, i⟩) (h13 : ∀ d i, P ⟨.tim .evtNext, d, i⟩) (h14 : ∀ d i, P ⟨.tim .evtAt, d, i⟩) (h15 : ∀ i, P ⟨.sticky .timPathChange, 0, i⟩) (h16 : ∀ i, P ⟨.tim .nPce, 0, i⟩) (h17 : ∀ i, P ⟨.tim .pceNext, 0, i⟩) (h18 : ∀ i, P ⟨.win .timPce, 0, i⟩) (h19 : ∀ d i, P ⟨.pel .taps, d, i⟩) (h20 : ∀ i, P ⟨.lt .nBankSwitch, d, i⟩) (h21 : ∀ i, P ⟨.lt .excess, d, i⟩) (h22 : ∀ i, P ⟨.lt .bank, d, i⟩) (qreports : Q .reports) :
    Reach P Q s0 (State.txBankSwitch s d) := by
  unfold State.txBankSwitch
  repeat' with_reducible first | assumption | apply State.muteRefresh_reach | apply State.pathChange_reach | apply State.pelBankSwitch_reach | apply State.inc_reach | apply State.txActivate_reach | (intros; show P _ = true; apply_assumption) | split | dsimp only | intro _

theorem State.mapTake_reach {d : Nat} {new : Bool} (hs : Reach P Q s0 s) (h1 : ∀ i, P ⟨.win .ctTsmap, d, i⟩) :
    Reach P Q s0 (State.mapTake s d new) := by
  unfold State.mapTake
  repeat' with_reducible first | assumption | apply State.each_reach | apply State.set_reach | (intros; show P _ = true; apply_assumption) | split | dsimp only | intro _

theorem State.rxBankSwitch_reach {d : Nat} (hs : Reach P Q s0 s) (h1 : ∀ d i, P ⟨.tim .evtNext, d, i⟩) (h2 : ∀ d i, P ⟨.tim .evtAt, d, i⟩) (h3 : ∀ i, P ⟨.sticky .timPathChange, 0, i⟩) (h4 : ∀ i, P ⟨.tim .nPce, 0, i⟩) (h5 : ∀ i, P ⟨.tim .pceNext, 0, i⟩) (h6 : ∀ i, P ⟨.win .timPce, 0, i⟩) (h7 : ∀ d i, P ⟨.pel .taps, d, i⟩) (h8 : ∀ i, P ⟨.sys .freeCount, 0, i⟩) (h9 : ∀ i, P ⟨.lr .latBase, d, i⟩) (h10 : ∀ i, P ⟨.lr .latNs, d, i⟩) (h11 : ∀ i, P ⟨.fec .latNs, d, i⟩) (h12 : ∀ i, P ⟨.lr .modeReload, d, i⟩) (h13 : ∀ i, P ⟨.lr .nBankSwitch, d, i⟩) (h14 : ∀ i, P ⟨.lr .bank, d, i⟩) (h15 : ∀ i, P ⟨.sticky .lrCdNearLimit, d, i⟩) (h16 : ∀ i, P ⟨.live .lrCdNearLimit, d, i⟩) (h17 : ∀ i, P ⟨.lr .winLocked, d, i⟩) (h18 : ∀ i, P ⟨.lr .rxSf, d, i⟩) (h19 : ∀ i, P ⟨.lr .rxState, d, i⟩) (h20 : ∀ i, P ⟨.lr .missed, d, i⟩) (h21 : ∀ d i, P ⟨.sticky .ctnSf, d, i⟩) (h22 : ∀ d i, P ⟨.live .ctnSf, d, i⟩) (h23 : ∀ i, P ⟨.sticky .ctOof, d, i⟩) (h24 : ∀ i, P ⟨.live .ctOof, d, i⟩) (h25 : ∀ i, P ⟨.sticky .ctLof, d, i⟩) (h26 : ∀ i, P ⟨.live .ctLof, d, i⟩) (h27 : ∀ i, P ⟨.ct .candCount, d, i⟩) (h28 : ∀ i, P ⟨.ct .align, d, i⟩) (h29 : ∀ i, P ⟨.ct .lof, d, i⟩) (h30 : ∀ i, P ⟨.ct .nOofEnter, d, i⟩) (h31 : ∀ i, P ⟨.ct .mfasSeen, d, i⟩) (h32 : ∀ i, P ⟨.ct .misses, d, i⟩) (h33 : ∀ i, P ⟨.ct .inFrame, d, i⟩) (h34 : ∀ i, P ⟨.sticky .fecSf, d, i⟩) (h35 : ∀ i, P ⟨.live .fecSf, d, i⟩) (h36 : ∀ i, P ⟨.fec .iterCap, d, i⟩) (h37 : ∀ i, P ⟨.fec .lockState, d, i⟩) (h38 : ∀ i, P ⟨.fec .failRun, d, i⟩) (h39 : ∀ i, P ⟨.fec .candAt, d, i⟩) (h40 : ∀ i, P ⟨.sticky .lrRxDown, d, i⟩) (h41 : ∀ i, P ⟨.live .lrRxDown, d, i⟩) (qreports : Q .reports) (qcands : Q .cands) :
    Reach P Q s0 (State.rxBankSwitch s d) := by
  unfold State.rxBankSwitch
  repeat' with_reducible first | assumption | apply State.pathChange_reach | apply State.pelBankSwitch_reach | apply State.rxSwitch_reach | (intros; show P _ = true; apply_assumption) | split | dsimp only | intro _

theorem execDerRollbackReturn_reach {d : Nat} {tx : Bool} (hs : Reach P Q s0 s) (hsum : ∀ k, k.cell.summary → P k) (h11 : ∀ i, P ⟨.sticky .derRollback, d, i⟩) (h12 : ∀ i, P ⟨.der .nRollback, d, i⟩) (h13 : ∀ i, P ⟨.der .returned, d, i⟩) (h14 : ∀ i, P ⟨.der .txSide, d, i⟩) (h15 : ∀ i, P ⟨.der .rxSide, d, i⟩) (h16 : ∀ i, P ⟨.sticky .derMissed, d, i⟩) (h17 : ∀ i, P ⟨.live .derMissed, d, i⟩) (h18 : ∀ i, P ⟨.lt .muteCause, d, i⟩) (h19 : ∀ i, P ⟨.lt .ramp, d, i⟩) (h20 : ∀ i, P ⟨.lt .txState, d, i⟩) (h21 : ∀ i, P ⟨.lt .otherCause, d, i⟩) (h22 : ∀ i, P ⟨.bias .ptState, d, i⟩) (h23 : ∀ i, P ⟨.bias .ptAcq, d, i⟩) (h24 : ∀ i, P ⟨.bias .ptV, d, i⟩) (h25 : ∀ i, P ⟨.bias .ptBase, d, i⟩) (h26 : ∀ i, P ⟨.lt .nMuteEnter, d, i⟩) (h27 : ∀ i, P ⟨.lt .begun4, d, i⟩) (h28 : ∀ i, P ⟨.sticky .ltTxDown, d, i⟩) (h29 : ∀ i, P ⟨.live .ltTxDown, d, i⟩) (h30 : ∀ d i, P ⟨.tim .evtNext, d, i⟩) (h31 : ∀ d i, P ⟨.tim .evtAt, d, i⟩) (h32 : ∀ i, P ⟨.sticky .timPathChange, 0, i⟩) (h33 : ∀ i, P ⟨.tim .nPce, 0, i⟩) (h34 : ∀ i, P ⟨.tim .pceNext, 0, i⟩) (h35 : ∀ i, P ⟨.win .timPce, 0, i⟩) (h36 : ∀ d i, P ⟨.pel .taps, d, i⟩) (h37 : ∀ i, P ⟨.lt .nBankSwitch, d, i⟩) (h38 : ∀ i, P ⟨.lt .excess, d, i⟩) (h39 : ∀ i, P ⟨.lt .bank, d, i⟩) (h40 : ∀ d i, P ⟨.sticky .ctnSf, d, i⟩) (h41 : ∀ d i, P ⟨.live .ctnSf, d, i⟩) (h42 : ∀ i, P ⟨.win .ctTsmap, d, i⟩) (h43 : ∀ i, P ⟨.sys .freeCount, 0, i⟩) (h44 : ∀ i, P ⟨.lr .latBase, d, i⟩) (h45 : ∀ i, P ⟨.lr .latNs, d, i⟩) (h46 : ∀ i, P ⟨.fec .latNs, d, i⟩) (h47 : ∀ i, P ⟨.lr .modeReload, d, i⟩) (h48 : ∀ i, P ⟨.lr .nBankSwitch, d, i⟩) (h49 : ∀ i, P ⟨.lr .bank, d, i⟩) (h50 : ∀ i, P ⟨.sticky .lrCdNearLimit, d, i⟩) (h51 : ∀ i, P ⟨.live .lrCdNearLimit, d, i⟩) (h52 : ∀ i, P ⟨.lr .winLocked, d, i⟩) (h53 : ∀ i, P ⟨.lr .rxSf, d, i⟩) (h54 : ∀ i, P ⟨.lr .rxState, d, i⟩) (h55 : ∀ i, P ⟨.lr .missed, d, i⟩) (h56 : ∀ i, P ⟨.sticky .ctOof, d, i⟩) (h57 : ∀ i, P ⟨.live .ctOof, d, i⟩) (h58 : ∀ i, P ⟨.sticky .ctLof, d, i⟩) (h59 : ∀ i, P ⟨.live .ctLof, d, i⟩) (h60 : ∀ i, P ⟨.ct .candCount, d, i⟩) (h61 : ∀ i, P ⟨.ct .align, d, i⟩) (h62 : ∀ i, P ⟨.ct .lof, d, i⟩) (h63 : ∀ i, P ⟨.ct .nOofEnter, d, i⟩) (h64 : ∀ i, P ⟨.ct .mfasSeen, d, i⟩) (h65 : ∀ i, P ⟨.ct .misses, d, i⟩) (h66 : ∀ i, P ⟨.ct .inFrame, d, i⟩) (h67 : ∀ i, P ⟨.sticky .fecSf, d, i⟩) (h68 : ∀ i, P ⟨.live .fecSf, d, i⟩) (h69 : ∀ i, P ⟨.fec .iterCap, d, i⟩) (h70 : ∀ i, P ⟨.fec .lockState, d, i⟩) (h71 : ∀ i, P ⟨.fec .failRun, d, i⟩) (h72 : ∀ i, P ⟨.fec .candAt, d, i⟩) (h73 : ∀ i, P ⟨.sticky .lrRxDown, d, i⟩) (h74 : ∀ i, P ⟨.live .lrRxDown, d, i⟩) (qreports : Q .reports) (qcands : Q .cands) :
    ∃ t, execDerRollbackReturn d tx s = .next t ∧ Reach P Q s0 t := by
  unfold execDerRollbackReturn
  repeat' with_reducible first | assumption | apply finishIf_reach | apply State.sideReturned_reach | apply State.when_reach | apply State.txBankSwitch_reach | apply State.ctnRefreshAll_reach | apply State.mapTake_reach | apply State.rxBankSwitch_reach | (intros; show P _ = true; first | exact hsum _ rfl | (clear hsum; apply_assumption)) | split | dsimp only | intro _

theorem execDerTxSwitch_reach {d : Nat} (hs : Reach P Q s0 s) (hsum : ∀ k, k.cell.summary → P k) (h11 : ∀ d i, P ⟨.sticky .ctnSf, d, i⟩) (h12 : ∀ d i, P ⟨.live .ctnSf, d, i⟩) (h13 : ∀ i, P ⟨.sticky .derAis, d, i⟩) (h14 : ∀ i, P ⟨.lt .muteCause, d, i⟩) (h15 : ∀ i, P ⟨.lt .ramp, d, i⟩) (h16 : ∀ i, P ⟨.lt .txState, d, i⟩) (h17 : ∀ i, P ⟨.lt .otherCause, d, i⟩) (h18 : ∀ i, P ⟨.bias .ptState, d, i⟩) (h19 : ∀ i, P ⟨.bias .ptAcq, d, i⟩) (h20 : ∀ i, P ⟨.bias .ptV, d, i⟩) (h21 : ∀ i, P ⟨.bias .ptBase, d, i⟩) (h22 : ∀ i, P ⟨.lt .nMuteEnter, d, i⟩) (h23 : ∀ i, P ⟨.lt .begun4, d, i⟩) (h24 : ∀ i, P ⟨.sticky .ltTxDown, d, i⟩) (h25 : ∀ i, P ⟨.live .ltTxDown, d, i⟩) (h26 : ∀ d i, P ⟨.tim .evtNext, d, i⟩) (h27 : ∀ d i, P ⟨.tim .evtAt, d, i⟩) (h28 : ∀ i, P ⟨.sticky .timPathChange, 0, i⟩) (h29 : ∀ i, P ⟨.tim .nPce, 0, i⟩) (h30 : ∀ i, P ⟨.tim .pceNext, 0, i⟩) (h31 : ∀ i, P ⟨.win .timPce, 0, i⟩) (h32 : ∀ d i, P ⟨.pel .taps, d, i⟩) (h33 : ∀ i, P ⟨.lt .nBankSwitch, d, i⟩) (h34 : ∀ i, P ⟨.lt .excess, d, i⟩) (h35 : ∀ i, P ⟨.lt .bank, d, i⟩) (h36 : ∀ i, P ⟨.der .state, 0, i⟩) (h37 : ∀ i, P ⟨.der .doneSent, 0, i⟩) (h38 : ∀ i, P ⟨.der .lastOn, 0, i⟩) (h39 : ∀ i, P ⟨.der .lastReason, 0, i⟩) (h40 : ∀ i, P ⟨.der .lastMsg, 0, i⟩) (h41 : ∀ i, P ⟨.der .txSeq, 0, i⟩) (h42 : ∀ i, P ⟨.der .result, 0, i⟩) (h43 : ∀ d i, P ⟨.winDirty .ctTsmap, d, i⟩) (h44 : ∀ d i, P ⟨.live .derAis, d, i⟩) (h45 : ∀ d i, P ⟨.live .derMissed, d, i⟩) (h46 : ∀ d i, P ⟨.der .ready, d, i⟩) (h47 : ∀ d i, P ⟨.der .kindEpoch, d, i⟩) (h48 : ∀ d i, P ⟨.der .kind, d, i⟩) (h49 : ∀ d i, P ⟨.der .uShiftId, d, i⟩) (h50 : ∀ d i, P ⟨.der .uRole, d, i⟩) (h51 : ∀ d i, P ⟨.der .rxSide, d, i⟩) (h52 : ∀ d i, P ⟨.der .txSide, d, i⟩) (h53 : ∀ d i, P ⟨.der .lastShift, d, i⟩) (h54 : ∀ i, P ⟨.der .nShiftOk, 0, i⟩) (h55 : ∀ i, P ⟨.der .nApply, d, i⟩) (h56 : ∀ i, P ⟨.sticky .derMissed, d, i⟩) (qreports : Q .reports) :
    ∃ t, execDerTxSwitch d s = .next t ∧ Reach P Q s0 t := by
  unfold execDerTxSwitch
  repeat' with_reducible first | assumption | apply finishIf_reach | apply State.ctnRefreshAll_reach | apply State.kindNext_reach | apply State.raise_reach | apply State.when_reach | apply State.txBankSwitch_reach | apply State.derFollow_reach | apply State.derAisFollow_reach | apply State.inc_reach | apply State.setSide_reach | (intros; show P _ = true; first | exact hsum _ rfl | (clear hsum; apply_assumption)) | split | dsimp only | intro _

theorem execDerArmTimeout_reach (hs : Reach P Q s0 s) (hsum : ∀ k, k.cell.summary → P k) (h11 : ∀ i, P ⟨.der .state, 0, i⟩) (h12 : ∀ i, P ⟨.der .result, 0, i⟩) (h13 : ∀ d i, P ⟨.winDirty .ctTsmap, d, i⟩) (h14 : ∀ d i, P ⟨.live .derAis, d, i⟩) (h15 : ∀ d i, P ⟨.live .derMissed, d, i⟩) (h16 : ∀ d i, P ⟨.der .ready, d, i⟩) (h17 : ∀ d i, P ⟨.der .kindEpoch, d, i⟩) (h18 : ∀ d i, P ⟨.der .kind, d, i⟩) (h19 : ∀ d i, P ⟨.der .uShiftId, d, i⟩) (h20 : ∀ d i, P ⟨.der .uRole, d, i⟩) (h21 : ∀ d i, P ⟨.der .rxSide, d, i⟩) (h22 : ∀ d i, P ⟨.der .txSide, d, i⟩) (h23 : ∀ d i, P ⟨.der .lastShift, d, i⟩) (h24 : ∀ i, P ⟨.der .nCancel, 0, i⟩) (h25 : ∀ i, P ⟨.der .far, 0, i⟩) (h26 : ∀ i, P ⟨.der .failCarrier, 0, i⟩) (h27 : ∀ i, P ⟨.der .reason, 0, i⟩) (h28 : ∀ i, P ⟨.der .lastOn, 0, i⟩) (h29 : ∀ i, P ⟨.der .lastReason, 0, i⟩) (h30 : ∀ i, P ⟨.der .lastMsg, 0, i⟩) (h31 : ∀ i, P ⟨.der .txSeq, 0, i⟩) (qreports : Q .reports) :
    ∃ t, execDerArmTimeout s = .next t ∧ Reach P Q s0 t := by
  unfold execDerArmTimeout
  repeat' with_reducible first | assumption | apply finishIf_reach | apply State.derCancel_reach | apply State.derSend_reach | (intros; show P _ = true; first | exact hsum _ rfl | (clear hsum; apply_assumption)) | split | dsimp only | intro _

theorem State.learnEpoch_reach {d : Nat} {e : Nat} (hs : Reach P Q s0 s) (h1 : ∀ i, P ⟨.der .rxEpoch, d, i⟩) (h2 : ∀ i, P ⟨.der .rxEpochHeld, d, i⟩) :
    Reach P Q s0 (State.learnEpoch s d e) := by
  unfold State.learnEpoch
  repeat' with_reducible first | assumption | apply State.set_reach | (intros; show P _ = true; apply_assumption) | split | dsimp only | intro _

theorem State.autoPropose_reach {d : Nat} {e : Nat} (hs : Reach P Q s0 s) (h1 : ∀ i, P ⟨.lr .compHi, d, i⟩) (h2 : ∀ i, P ⟨.lr .compLo, d, i⟩) (h3 : ∀ i, P ⟨.lr .netK, d, i⟩) (h4 : ∀ i, P ⟨.lr .rolloff, d, i⟩) (h5 : ∀ i, P ⟨.lr .fecRate, d, i⟩) (h6 : ∀ i, P ⟨.lr .pilotGain, d, i⟩) (h7 : ∀ i, P ⟨.lr .entropy, d, i⟩) (h8 : ∀ i, P ⟨.lr .const, d, i⟩) (h9 : ∀ i, P ⟨.lr .rs, d, i⟩) (h10 : ∀ i, P ⟨.lr .lineStd, d, i⟩) (h11 : ∀ i, P ⟨.lt .compHi, d, i⟩) (h12 : ∀ i, P ⟨.lt .compLo, d, i⟩) (h13 : ∀ i, P ⟨.lt .netK, d, i⟩) (h14 : ∀ i, P ⟨.lt .rolloff, d, i⟩) (h15 : ∀ i, P ⟨.lt .fecRate, d, i⟩) (h16 : ∀ i, P ⟨.lt .pilotGain, d, i⟩) (h17 : ∀ i, P ⟨.lt .nlpdBank, d, i⟩) (h18 : ∀ i, P ⟨.lt .entropy, d, i⟩) (h19 : ∀ i, P ⟨.lt .const, d, i⟩) (h20 : ∀ i, P ⟨.lt .rs, d, i⟩) (h21 : ∀ i, P ⟨.lt .lineStd, d, i⟩) (h22 : ∀ i, P ⟨.der .upRun, d, i⟩) (h23 : ∀ i, P ⟨.der .downRun, d, i⟩) (h24 : ∀ i, P ⟨.der .autoId, 0, i⟩) (h25 : ∀ i, P ⟨.der .auto, 0, i⟩) (h26 : ∀ i, P ⟨.der .lastOn, 0, i⟩) (h27 : ∀ i, P ⟨.der .lastReason, 0, i⟩) (h28 : ∀ i, P ⟨.der .lastMsg, 0, i⟩) (h29 : ∀ i, P ⟨.der .txSeq, 0, i⟩) (h30 : ∀ i, P ⟨.der .partner, 0, i⟩) (h31 : ∀ i, P ⟨.der .state, 0, i⟩) (h32 : ∀ i, P ⟨.der .farEpoch, 0, i⟩) (h33 : ∀ i, P ⟨.der .epoch, 0, i⟩) (h34 : ∀ i, P ⟨.der .far, 0, i⟩) (h35 : ∀ i, P ⟨.der .failCarrier, 0, i⟩) (h36 : ∀ i, P ⟨.der .reason, 0, i⟩) (h37 : ∀ i, P ⟨.der .result, 0, i⟩) (h38 : ∀ i, P ⟨.der .role, 0, i⟩) (h39 : ∀ i, P ⟨.der .shiftId, 0, i⟩) (h40 : ∀ i, P ⟨.der .doneSent, 0, i⟩) (h41 : ∀ i, P ⟨.der .farDone, 0, i⟩) (h42 : ∀ i, P ⟨.der .farCommit, 0, i⟩) (h43 : ∀ i, P ⟨.der .armedRx, 0, i⟩) (h44 : ∀ i, P ⟨.der .seen, 0, i⟩) (h45 : ∀ i, P ⟨.der .pelMask, 0, i⟩) (h46 : ∀ i, P ⟨.der .tandemMask, 0, i⟩) (h47 : ∀ i, P ⟨.der .shiftMask, 0, i⟩) (h48 : ∀ d i, P ⟨.der .oldMap, d, i⟩) (h49 : ∀ d i, P ⟨.live .derSplit, d, i⟩) (h50 : ∀ d i, P ⟨.der .returned, d, i⟩) (h51 : ∀ d i, P ⟨.der .onNew, d, i⟩) (h52 : ∀ d i, P ⟨.der .rxEpoch, d, i⟩) (h53 : ∀ d i, P ⟨.der .rxEpochHeld, d, i⟩) (h54 : ∀ d i, P ⟨.der .ready, d, i⟩) (h55 : ∀ d i, P ⟨.der .rxSide, d, i⟩) (h56 : ∀ d i, P ⟨.der .txSide, d, i⟩) (h57 : ∀ d i, P ⟨.der .uReason, d, i⟩) (h58 : ∀ d i, P ⟨.der .uShiftId, d, i⟩) (h59 : ∀ d i, P ⟨.der .uRole, d, i⟩) (qreports : Q .reports) :
    Reach P Q s0 (State.autoPropose s d e) := by
  unfold State.autoPropose
  repeat' with_reducible first | assumption | apply State.writeRxBank_reach | apply State.writeTxBank_reach | apply State.set_reach | apply State.derPropose_reach | (intros; show P _ = true; apply_assumption) | split | dsimp only | intro _

theorem execDerResendTimer_reach (hs : Reach P Q s0 s) (hsum : ∀ k, k.cell.summary → P k) (h11 : ∀ i, P ⟨.der .lastOn, 0, i⟩) (h12 : ∀ i, P ⟨.der .lastReason, 0, i⟩) (h13 : ∀ i, P ⟨.der .lastMsg, 0, i⟩) (h14 : ∀ i, P ⟨.der .txSeq, 0, i⟩) (qreports : Q .reports) :
    ∃ t, execDerResendTimer s = .next t ∧ Reach P Q s0 t := by
  unfold execDerResendTimer
  repeat' with_reducible first | assumption | apply finishIf_reach | apply State.derSend_reach | (intros; show P _ = true; first | exact hsum _ rfl | (clear hsum; apply_assumption)) | split | dsimp only | intro _

theorem State.derRefuse_reach {reason : Nat} {carrier : Nat} (hs : Reach P Q s0 s) (h1 : ∀ i, P ⟨.der .far, 0, i⟩) (h2 : ∀ i, P ⟨.der .failCarrier, 0, i⟩) (h3 : ∀ i, P ⟨.der .reason, 0, i⟩) (h4 : ∀ i, P ⟨.der .nRefused, 0, i⟩) (h5 : ∀ i, P ⟨.der .lastOn, 0, i⟩) (h6 : ∀ i, P ⟨.der .lastReason, 0, i⟩) (h7 : ∀ i, P ⟨.der .lastMsg, 0, i⟩) (h8 : ∀ i, P ⟨.der .txSeq, 0, i⟩) :
    Reach P Q s0 (State.derRefuse s reason carrier) := by
  unfold State.derRefuse
  repeat' with_reducible first | assumption | apply State.derReason_reach | apply State.inc_reach | apply State.derSend_reach | (intros; show P _ = true; apply_assumption) | split | dsimp only | intro _

theorem State.entryLoad_reach {e : Sys2Proof.DerEntry} (hs : Reach P Q s0 s) (h1 : ∀ i, P ⟨.lr .compHi, e.farCarrier, i⟩) (h2 : ∀ i, P ⟨.lr .compLo, e.farCarrier, i⟩) (h3 : ∀ i, P ⟨.lr .netK, e.farCarrier, i⟩) (h4 : ∀ i, P ⟨.lr .rolloff, e.farCarrier, i⟩) (h5 : ∀ i, P ⟨.lr .fecRate, e.farCarrier, i⟩) (h6 : ∀ i, P ⟨.lr .pilotGain, e.farCarrier, i⟩) (h7 : ∀ i, P ⟨.lr .entropy, e.farCarrier, i⟩) (h8 : ∀ i, P ⟨.lr .const, e.farCarrier, i⟩) (h9 : ∀ i, P ⟨.lr .rs, e.farCarrier, i⟩) (h10 : ∀ i, P ⟨.lr .lineStd, e.farCarrier, i⟩) (h11 : ∀ i, P ⟨.lt .compHi, e.farCarrier, i⟩) (h12 : ∀ i, P ⟨.lt .compLo, e.farCarrier, i⟩) (h13 : ∀ i, P ⟨.lt .netK, e.farCarrier, i⟩) (h14 : ∀ i, P ⟨.lt .rolloff, e.farCarrier, i⟩) (h15 : ∀ i, P ⟨.lt .fecRate, e.farCarrier, i⟩) (h16 : ∀ i, P ⟨.lt .pilotGain, e.farCarrier, i⟩) (h17 : ∀ i, P ⟨.lt .nlpdBank, e.farCarrier, i⟩) (h18 : ∀ i, P ⟨.lt .entropy, e.farCarrier, i⟩) (h19 : ∀ i, P ⟨.lt .const, e.farCarrier, i⟩) (h20 : ∀ i, P ⟨.lt .rs, e.farCarrier, i⟩) (h21 : ∀ i, P ⟨.lt .lineStd, e.farCarrier, i⟩) :
    Reach P Q s0 (State.entryLoad s e) := by
  unfold State.entryLoad
  repeat' with_reducible first | assumption | apply State.writeRxBank_reach | apply State.writeTxBank_reach | (intros; show P _ = true; apply_assumption) | split | dsimp only | intro _

theorem State.derAccept_reach {m : Sys2Proof.DerMsg} {auto : Bool} {entries : List Sys2Proof.DerEntry} (hs : Reach P Q s0 s) (h1 : ∀ i, P ⟨.der .seen, 0, i⟩) (h2 : ∀ i, P ⟨.der .auto, 0, i⟩) (h3 : ∀ i, P ⟨.der .partner, 0, i⟩) (h4 : ∀ i, P ⟨.der .state, 0, i⟩) (h5 : ∀ i, P ⟨.der .farEpoch, 0, i⟩) (h6 : ∀ i, P ⟨.der .epoch, 0, i⟩) (h7 : ∀ i, P ⟨.der .far, 0, i⟩) (h8 : ∀ i, P ⟨.der .failCarrier, 0, i⟩) (h9 : ∀ i, P ⟨.der .reason, 0, i⟩) (h10 : ∀ i, P ⟨.der .result, 0, i⟩) (h11 : ∀ i, P ⟨.der .role, 0, i⟩) (h12 : ∀ i, P ⟨.der .shiftId, 0, i⟩) (h13 : ∀ i, P ⟨.der .doneSent, 0, i⟩) (h14 : ∀ i, P ⟨.der .farDone, 0, i⟩) (h15 : ∀ i, P ⟨.der .farCommit, 0, i⟩) (h16 : ∀ i, P ⟨.der .armedRx, 0, i⟩) (h17 : ∀ i, P ⟨.der .pelMask, 0, i⟩) (h18 : ∀ i, P ⟨.der .tandemMask, 0, i⟩) (h19 : ∀ i, P ⟨.der .shiftMask, 0, i⟩) (h20 : ∀ d i, P ⟨.der .oldMap, d, i⟩) (h21 : ∀ d i, P ⟨.live .derSplit, d, i⟩) (h22 : ∀ d i, P ⟨.der .returned, d, i⟩) (h23 : ∀ d i, P ⟨.der .onNew, d, i⟩) (h24 : ∀ d i, P ⟨.der .rxEpoch, d, i⟩) (h25 : ∀ d i, P ⟨.der .rxEpochHeld, d, i⟩) (h26 : ∀ d i, P ⟨.der .ready, d, i⟩) (h27 : ∀ d i, P ⟨.der .rxSide, d, i⟩) (h28 : ∀ d i, P ⟨.der .txSide, d, i⟩) (h29 : ∀ d i, P ⟨.der .uReason, d, i⟩) (h30 : ∀ d i, P ⟨.der .uShiftId, d, i⟩) (h31 : ∀ d i, P ⟨.der .uRole, d, i⟩) (h32 : ∀ d i, P ⟨.lr .compHi, d, i⟩) (h33 : ∀ d i, P ⟨.lr .compLo, d, i⟩) (h34 : ∀ d i, P ⟨.lr .netK, d, i⟩) (h35 : ∀ d i, P ⟨.lr .rolloff, d, i⟩) (h36 : ∀ d i, P ⟨.lr .fecRate, d, i⟩) (h37 : ∀ d i, P ⟨.lr .pilotGain, d, i⟩) (h38 : ∀ d i, P ⟨.lr .entropy, d, i⟩) (h39 : ∀ d i, P ⟨.lr .const, d, i⟩) (h40 : ∀ d i, P ⟨.lr .rs, d, i⟩) (h41 : ∀ d i, P ⟨.lr .lineStd, d, i⟩) (h42 : ∀ d i, P ⟨.lt .compHi, d, i⟩) (h43 : ∀ d i, P ⟨.lt .compLo, d, i⟩) (h44 : ∀ d i, P ⟨.lt .netK, d, i⟩) (h45 : ∀ d i, P ⟨.lt .rolloff, d, i⟩) (h46 : ∀ d i, P ⟨.lt .fecRate, d, i⟩) (h47 : ∀ d i, P ⟨.lt .pilotGain, d, i⟩) (h48 : ∀ d i, P ⟨.lt .nlpdBank, d, i⟩) (h49 : ∀ d i, P ⟨.lt .entropy, d, i⟩) (h50 : ∀ d i, P ⟨.lt .const, d, i⟩) (h51 : ∀ d i, P ⟨.lt .rs, d, i⟩) (h52 : ∀ d i, P ⟨.lt .lineStd, d, i⟩) (qreports : Q .reports) :
    Reach P Q s0 (State.derAccept s m auto entries) := by
  unfold State.derAccept
  repeat' with_reducible first | assumption | apply State.derMark_reach | apply State.setB_reach | apply State.derBegin_reach | apply State.each_reach | apply State.entryLoad_reach | (intros; show P _ = true; apply_assumption) | split | dsimp only | intro _

theorem State.derRespond_reach {m : Sys2Proof.DerMsg} {auto : Bool} {entries : List Sys2Proof.DerEntry} (hs : Reach P Q s0 s) (h1 : ∀ i, P ⟨.der .seen, 0, i⟩) (h2 : ∀ i, P ⟨.der .state, 0, i⟩) (h3 : ∀ i, P ⟨.der .result, 0, i⟩) (h4 : ∀ d i, P ⟨.winDirty .ctTsmap, d, i⟩) (h5 : ∀ d i, P ⟨.live .derAis, d, i⟩) (h6 : ∀ d i, P ⟨.live .derMissed, d, i⟩) (h7 : ∀ d i, P ⟨.der .ready, d, i⟩) (h8 : ∀ d i, P ⟨.der .kindEpoch, d, i⟩) (h9 : ∀ d i, P ⟨.der .kind, d, i⟩) (h10 : ∀ d i, P ⟨.der .uShiftId, d, i⟩) (h11 : ∀ d i, P ⟨.der .uRole, d, i⟩) (h12 : ∀ d i, P ⟨.der .rxSide, d, i⟩) (h13 : ∀ d i, P ⟨.der .txSide, d, i⟩) (h14 : ∀ d i, P ⟨.der .lastShift, d, i⟩) (h15 : ∀ i, P ⟨.der .far, 0, i⟩) (h16 : ∀ i, P ⟨.der .failCarrier, 0, i⟩) (h17 : ∀ i, P ⟨.der .reason, 0, i⟩) (h18 : ∀ i, P ⟨.der .nRefused, 0, i⟩) (h19 : ∀ i, P ⟨.der .lastOn, 0, i⟩) (h20 : ∀ i, P ⟨.der .lastReason, 0, i⟩) (h21 : ∀ i, P ⟨.der .lastMsg, 0, i⟩) (h22 : ∀ i, P ⟨.der .txSeq, 0, i⟩) (h23 : ∀ i, P ⟨.der .auto, 0, i⟩) (h24 : ∀ i, P ⟨.der .partner, 0, i⟩) (h25 : ∀ i, P ⟨.der .farEpoch, 0, i⟩) (h26 : ∀ i, P ⟨.der .epoch, 0, i⟩) (h27 : ∀ i, P ⟨.der .role, 0, i⟩) (h28 : ∀ i, P ⟨.der .shiftId, 0, i⟩) (h29 : ∀ i, P ⟨.der .doneSent, 0, i⟩) (h30 : ∀ i, P ⟨.der .farDone, 0, i⟩) (h31 : ∀ i, P ⟨.der .farCommit, 0, i⟩) (h32 : ∀ i, P ⟨.der .armedRx, 0, i⟩) (h33 : ∀ i, P ⟨.der .pelMask, 0, i⟩) (h34 : ∀ i, P ⟨.der .tandemMask, 0, i⟩) (h35 : ∀ i, P ⟨.der .shiftMask, 0, i⟩) (h36 : ∀ d i, P ⟨.der .oldMap, d, i⟩) (h37 : ∀ d i, P ⟨.live .derSplit, d, i⟩) (h38 : ∀ d i, P ⟨.der .returned, d, i⟩) (h39 : ∀ d i, P ⟨.der .onNew, d, i⟩) (h40 : ∀ d i, P ⟨.der .rxEpoch, d, i⟩) (h41 : ∀ d i, P ⟨.der .rxEpochHeld, d, i⟩) (h42 : ∀ d i, P ⟨.der .uReason, d, i⟩) (h43 : ∀ d i, P ⟨.lr .compHi, d, i⟩) (h44 : ∀ d i, P ⟨.lr .compLo, d, i⟩) (h45 : ∀ d i, P ⟨.lr .netK, d, i⟩) (h46 : ∀ d i, P ⟨.lr .rolloff, d, i⟩) (h47 : ∀ d i, P ⟨.lr .fecRate, d, i⟩) (h48 : ∀ d i, P ⟨.lr .pilotGain, d, i⟩) (h49 : ∀ d i, P ⟨.lr .entropy, d, i⟩) (h50 : ∀ d i, P ⟨.lr .const, d, i⟩) (h51 : ∀ d i, P ⟨.lr .rs, d, i⟩) (h52 : ∀ d i, P ⟨.lr .lineStd, d, i⟩) (h53 : ∀ d i, P ⟨.lt .compHi, d, i⟩) (h54 : ∀ d i, P ⟨.lt .compLo, d, i⟩) (h55 : ∀ d i, P ⟨.lt .netK, d, i⟩) (h56 : ∀ d i, P ⟨.lt .rolloff, d, i⟩) (h57 : ∀ d i, P ⟨.lt .fecRate, d, i⟩) (h58 : ∀ d i, P ⟨.lt .pilotGain, d, i⟩) (h59 : ∀ d i, P ⟨.lt .nlpdBank, d, i⟩) (h60 : ∀ d i, P ⟨.lt .entropy, d, i⟩) (h61 : ∀ d i, P ⟨.lt .const, d, i⟩) (h62 : ∀ d i, P ⟨.lt .rs, d, i⟩) (h63 : ∀ d i, P ⟨.lt .lineStd, d, i⟩) (qreports : Q .reports) :
    Reach P Q s0 (State.derRespond s m auto entries) := by
  unfold State.derRespond
  repeat' with_reducible first | assumption | apply State.derMark_reach | apply State.set_reach | apply State.derEnd_reach | apply State.derRefuse_reach | apply State.derAccept_reach | apply State.derReason_reach | (intros; show P _ = true; apply_assumption) | split | dsimp only | intro _

theorem State.ladderWindow_reach {d : Nat} {valid : Bool} {margin : Int} (hs : Reach P Q s0 s) (h1 : ∀ i, P ⟨.der .upRun, d, i⟩) (h2 : ∀ i, P ⟨.der .downRun, d, i⟩) (h3 : ∀ i, P ⟨.lr .compHi, d, i⟩) (h4 : ∀ i, P ⟨.lr .compLo, d, i⟩) (h5 : ∀ i, P ⟨.lr .netK, d, i⟩) (h6 : ∀ i, P ⟨.lr .rolloff, d, i⟩) (h7 : ∀ i, P ⟨.lr .fecRate, d, i⟩) (h8 : ∀ i, P ⟨.lr .pilotGain, d, i⟩) (h9 : ∀ i, P ⟨.lr .entropy, d, i⟩) (h10 : ∀ i, P ⟨.lr .const, d, i⟩) (h11 : ∀ i, P ⟨.lr .rs, d, i⟩) (h12 : ∀ i, P ⟨.lr .lineStd, d, i⟩) (h13 : ∀ i, P ⟨.lt .compHi, d, i⟩) (h14 : ∀ i, P ⟨.lt .compLo, d, i⟩) (h15 : ∀ i, P ⟨.lt .netK, d, i⟩) (h16 : ∀ i, P ⟨.lt .rolloff, d, i⟩) (h17 : ∀ i, P ⟨.lt .fecRate, d, i⟩) (h18 : ∀ i, P ⟨.lt .pilotGain, d, i⟩) (h19 : ∀ i, P ⟨.lt .nlpdBank, d, i⟩) (h20 : ∀ i, P ⟨.lt .entropy, d, i⟩) (h21 : ∀ i, P ⟨.lt .const, d, i⟩) (h22 : ∀ i, P ⟨.lt .rs, d, i⟩) (h23 : ∀ i, P ⟨.lt .lineStd, d, i⟩) (h24 : ∀ i, P ⟨.der .autoId, 0, i⟩) (h25 : ∀ i, P ⟨.der .auto, 0, i⟩) (h26 : ∀ i, P ⟨.der .lastOn, 0, i⟩) (h27 : ∀ i, P ⟨.der .lastReason, 0, i⟩) (h28 : ∀ i, P ⟨.der .lastMsg, 0, i⟩) (h29 : ∀ i, P ⟨.der .txSeq, 0, i⟩) (h30 : ∀ i, P ⟨.der .partner, 0, i⟩) (h31 : ∀ i, P ⟨.der .state, 0, i⟩) (h32 : ∀ i, P ⟨.der .farEpoch, 0, i⟩) (h33 : ∀ i, P ⟨.der .epoch, 0, i⟩) (h34 : ∀ i, P ⟨.der .far, 0, i⟩) (h35 : ∀ i, P ⟨.der .failCarrier, 0, i⟩) (h36 : ∀ i, P ⟨.der .reason, 0, i⟩) (h37 : ∀ i, P ⟨.der .result, 0, i⟩) (h38 : ∀ i, P ⟨.der .role, 0, i⟩) (h39 : ∀ i, P ⟨.der .shiftId, 0, i⟩) (h40 : ∀ i, P ⟨.der .doneSent, 0, i⟩) (h41 : ∀ i, P ⟨.der .farDone, 0, i⟩) (h42 : ∀ i, P ⟨.der .farCommit, 0, i⟩) (h43 : ∀ i, P ⟨.der .armedRx, 0, i⟩) (h44 : ∀ i, P ⟨.der .seen, 0, i⟩) (h45 : ∀ i, P ⟨.der .pelMask, 0, i⟩) (h46 : ∀ i, P ⟨.der .tandemMask, 0, i⟩) (h47 : ∀ i, P ⟨.der .shiftMask, 0, i⟩) (h48 : ∀ d i, P ⟨.der .oldMap, d, i⟩) (h49 : ∀ d i, P ⟨.live .derSplit, d, i⟩) (h50 : ∀ d i, P ⟨.der .returned, d, i⟩) (h51 : ∀ d i, P ⟨.der .onNew, d, i⟩) (h52 : ∀ d i, P ⟨.der .rxEpoch, d, i⟩) (h53 : ∀ d i, P ⟨.der .rxEpochHeld, d, i⟩) (h54 : ∀ d i, P ⟨.der .ready, d, i⟩) (h55 : ∀ d i, P ⟨.der .rxSide, d, i⟩) (h56 : ∀ d i, P ⟨.der .txSide, d, i⟩) (h57 : ∀ d i, P ⟨.der .uReason, d, i⟩) (h58 : ∀ d i, P ⟨.der .uShiftId, d, i⟩) (h59 : ∀ d i, P ⟨.der .uRole, d, i⟩) (qreports : Q .reports) :
    Reach P Q s0 (State.ladderWindow s d valid margin) := by
  unfold State.ladderWindow
  repeat' with_reducible first | assumption | apply State.set_reach | apply State.autoPropose_reach | (intros; show P _ = true; apply_assumption) | split | dsimp only | intro _

theorem State.unitRefuse_reach {d : Nat} {r : Nat} (hs : Reach P Q s0 s) (h1 : ∀ i, P ⟨.der .uReason, d, i⟩) (h2 : ∀ i, P ⟨.sticky .derArmFail, d, i⟩) (h3 : ∀ i, P ⟨.der .state, 0, i⟩) (h4 : ∀ i, P ⟨.der .result, 0, i⟩) (h5 : ∀ d i, P ⟨.winDirty .ctTsmap, d, i⟩) (h6 : ∀ d i, P ⟨.live .derAis, d, i⟩) (h7 : ∀ d i, P ⟨.live .derMissed, d, i⟩) (h8 : ∀ d i, P ⟨.der .ready, d, i⟩) (h9 : ∀ d i, P ⟨.der .kindEpoch, d, i⟩) (h10 : ∀ d i, P ⟨.der .kind, d, i⟩) (h11 : ∀ d i, P ⟨.der .uShiftId, d, i⟩) (h12 : ∀ d i, P ⟨.der .uRole, d, i⟩) (h13 : ∀ d i, P ⟨.der .rxSide, d, i⟩) (h14 : ∀ d i, P ⟨.der .txSide, d, i⟩) (h15 : ∀ d i, P ⟨.der .lastShift, d, i⟩) (h16 : ∀ i, P ⟨.der .far, 0, i⟩) (h17 : ∀ i, P ⟨.der .failCarrier, 0, i⟩) (h18 : ∀ i, P ⟨.der .reason, 0, i⟩) (h19 : ∀ i, P ⟨.der .nRefused, 0, i⟩) (h20 : ∀ i, P ⟨.der .lastOn, 0, i⟩) (h21 : ∀ i, P ⟨.der .lastReason, 0, i⟩) (h22 : ∀ i, P ⟨.der .lastMsg, 0, i⟩) (h23 : ∀ i, P ⟨.der .txSeq, 0, i⟩) (h24 : ∀ i, P ⟨.der .nCancel, 0, i⟩) (qreports : Q .reports) :
    Reach P Q s0 (State.unitRefuse s d r) := by
  unfold State.unitRefuse
  repeat' with_reducible first | assumption | apply State.set_reach | apply State.event_reach | apply State.derEnd_reach | apply State.derRefuse_reach | apply State.derCancel_reach | apply State.derSend_reach | (intros; show P _ = true; apply_assumption) | split | dsimp only | intro _

theorem State.derTryCommit_reach (hs : Reach P Q s0 s) (h1 : ∀ i, P ⟨.der .lastOn, 0, i⟩) (h2 : ∀ i, P ⟨.der .lastReason, 0, i⟩) (h3 : ∀ i, P ⟨.der .lastMsg, 0, i⟩) (h4 : ∀ i, P ⟨.der .txSeq, 0, i⟩) (h5 : ∀ i, P ⟨.der .state, 0, i⟩) (h6 : ∀ i, P ⟨.der .epoch, 0, i⟩) (h7 : ∀ d i, P ⟨.der .txSide, d, i⟩) (h8 : ∀ d i, P ⟨.der .rxSide, d, i⟩) (h9 : ∀ d i, P ⟨.sticky .derMissed, d, i⟩) (h10 : ∀ d i, P ⟨.live .derMissed, d, i⟩) (h11 : ∀ d i, P ⟨.der .kindEpoch, d, i⟩) (h12 : ∀ d i, P ⟨.der .kind, d, i⟩) (qreports : Q .reports) :
    Reach P Q s0 (State.derTryCommit s) := by
  unfold State.derTryCommit
  repeat' with_reducible first | assumption | apply State.derCommit_reach | (intros; show P _ = true; apply_assumption) | split | dsimp only | intro _

theorem execDerArmedRx_reach {m : Sys2Proof.DerMsg} (hs : Reach P Q s0 s) (hsum : ∀ k, k.cell.summary → P k) (h11 : ∀ i, P ⟨.der .rxSeq, 0, i⟩) (h12 : ∀ i, P ⟨.der .nMsgDisc, 0, i⟩) (h13 : ∀ i, P ⟨.der .lastOn, 0, i⟩) (h14 : ∀ i, P ⟨.der .lastReason, 0, i⟩) (h15 : ∀ i, P ⟨.der .lastMsg, 0, i⟩) (h16 : ∀ i, P ⟨.der .txSeq, 0, i⟩) (h17 : ∀ i, P ⟨.der .state, 0, i⟩) (h18 : ∀ i, P ⟨.der .epoch, 0, i⟩) (h19 : ∀ d i, P ⟨.der .txSide, d, i⟩) (h20 : ∀ d i, P ⟨.der .rxSide, d, i⟩) (h21 : ∀ d i, P ⟨.sticky .derMissed, d, i⟩) (h22 : ∀ d i, P ⟨.live .derMissed, d, i⟩) (h23 : ∀ d i, P ⟨.der .kindEpoch, d, i⟩) (h24 : ∀ d i, P ⟨.der .kind, d, i⟩) (h25 : ∀ i, P ⟨.der .armedRx, 0, i⟩) (h26 : ∀ i, P ⟨.der .seen, 0, i⟩) (qreports : Q .reports) :
    ∃ t, execDerArmedRx m s = .next t ∧ Reach P Q s0 t := by
  unfold execDerArmedRx
  repeat' with_reducible first | assumption | apply finishIf_reach | apply State.derTake_reach | apply State.derTryCommit_reach | apply State.set_reach | apply State.derMark_reach | (intros; show P _ = true; first | exact hsum _ rfl | (clear hsum; apply_assumption)) | split | dsimp only | intro _

theorem State.unitReady_reach {d : Nat} (hs : Reach P Q s0 s) (h1 : ∀ i, P ⟨.der .ready, d, i⟩) (h2 : ∀ i, P ⟨.der .state, 0, i⟩) (h3 : ∀ i, P ⟨.der .lastOn, 0, i⟩) (h4 : ∀ i, P ⟨.der .lastReason, 0, i⟩) (h5 : ∀ i, P ⟨.der .lastMsg, 0, i⟩) (h6 : ∀ i, P ⟨.der .txSeq, 0, i⟩) (h7 : ∀ i, P ⟨.der .epoch, 0, i⟩) (h8 : ∀ d i, P ⟨.der .txSide, d, i⟩) (h9 : ∀ d i, P ⟨.der .rxSide, d, i⟩) (h10 : ∀ d i, P ⟨.sticky .derMissed, d, i⟩) (h11 : ∀ d i, P ⟨.live .derMissed, d, i⟩) (h12 : ∀ d i, P ⟨.der .kindEpoch, d, i⟩) (h13 : ∀ d i, P ⟨.der .kind, d, i⟩) (qreports : Q .reports) :
    Reach P Q s0 (State.unitReady s d) := by
  unfold State.unitReady
  repeat' with_reducible first | assumption | apply State.set_reach | apply State.setSide_reach | apply State.derSend_reach | apply State.derTryCommit_reach | (intros; show P _ = true; apply_assumption) | split | dsimp only | intro _

theorem execDerUnitArmReport_reach {d : Nat} (hs : Reach P Q s0 s) (hsum : ∀ k, k.cell.summary → P k) (h11 : ∀ i, P ⟨.der .state, 0, i⟩) (h12 : ∀ i, P ⟨.der .lastOn, 0, i⟩) (h13 : ∀ i, P ⟨.der .lastReason, 0, i⟩) (h14 : ∀ i, P ⟨.der .lastMsg, 0, i⟩) (h15 : ∀ i, P ⟨.der .txSeq, 0, i⟩) (h16 : ∀ i, P ⟨.der .epoch, 0, i⟩) (h17 : ∀ d i, P ⟨.der .txSide, d, i⟩) (h18 : ∀ d i, P ⟨.der .rxSide, d, i⟩) (h19 : ∀ d i, P ⟨.sticky .derMissed, d, i⟩) (h20 : ∀ d i, P ⟨.live .derMissed, d, i⟩) (h21 : ∀ d i, P ⟨.der .kindEpoch, d, i⟩) (h22 : ∀ d i, P ⟨.der .kind, d, i⟩) (h23 : ∀ i, P ⟨.der .uReason, d, i⟩) (h24 : ∀ i, P ⟨.sticky .derArmFail, d, i⟩) (h25 : ∀ i, P ⟨.der .result, 0, i⟩) (h26 : ∀ d i, P ⟨.winDirty .ctTsmap, d, i⟩) (h27 : ∀ d i, P ⟨.live .derAis, d, i⟩) (h28 : ∀ d i, P ⟨.der .ready, d, i⟩) (h29 : ∀ d i, P ⟨.der .uShiftId, d, i⟩) (h30 : ∀ d i, P ⟨.der .uRole, d, i⟩) (h31 : ∀ d i, P ⟨.der .lastShift, d, i⟩) (h32 : ∀ i, P ⟨.der .far, 0, i⟩) (h33 : ∀ i, P ⟨.der .failCarrier, 0, i⟩) (h34 : ∀ i, P ⟨.der .reason, 0, i⟩) (h35 : ∀ i, P ⟨.der .nRefused, 0, i⟩) (h36 : ∀ i, P ⟨.der .nCancel, 0, i⟩) (qreports : Q .reports) :
    ∃ t, execDerUnitArmReport d s = .next t ∧ Reach P Q s0 t := by
  unfold execDerUnitArmReport
  repeat' with_reducible first | assumption | apply finishIf_reach | apply State.unitReady_reach | apply State.unitRefuse_reach | (intros; show P _ = true; first | exact hsum _ rfl | (clear hsum; apply_assumption)) | split | dsimp only | intro _

theorem execDerCommitRx_reach {m : Sys2Proof.DerMsg} {epoch : Nat} (hs : Reach P Q s0 s) (hsum : ∀ k, k.cell.summary → P k) (h11 : ∀ i, P ⟨.der .rxSeq, 0, i⟩) (h12 : ∀ i, P ⟨.der .nMsgDisc, 0, i⟩) (h13 : ∀ i, P ⟨.der .farCommit, 0, i⟩) (h14 : ∀ i, P ⟨.der .farEpoch, 0, i⟩) (h15 : ∀ i, P ⟨.der .seen, 0, i⟩) (h16 : ∀ d i, P ⟨.der .rxEpoch, d, i⟩) (h17 : ∀ d i, P ⟨.der .rxEpochHeld, d, i⟩) (h18 : ∀ i, P ⟨.der .lastOn, 0, i⟩) (h19 : ∀ i, P ⟨.der .lastReason, 0, i⟩) (h20 : ∀ i, P ⟨.der .lastMsg, 0, i⟩) (h21 : ∀ i, P ⟨.der .txSeq, 0, i⟩) (h22 : ∀ i, P ⟨.der .state, 0, i⟩) (h23 : ∀ i, P ⟨.der .epoch, 0, i⟩) (h24 : ∀ d i, P ⟨.der .txSide, d, i⟩) (h25 : ∀ d i, P ⟨.der .rxSide, d, i⟩) (h26 : ∀ d i, P ⟨.sticky .derMissed, d, i⟩) (h27 : ∀ d i, P ⟨.live .derMissed, d, i⟩) (h28 : ∀ d i, P ⟨.der .kindEpoch, d, i⟩) (h29 : ∀ d i, P ⟨.der .kind, d, i⟩) (qreports : Q .reports) :
    ∃ t, execDerCommitRx m epoch s = .next t ∧ Reach P Q s0 t := by
  unfold execDerCommitRx
  repeat' with_reducible first | assumption | apply finishIf_reach | apply State.derTake_reach | apply State.set_reach | apply State.derMark_reach | apply State.each_reach | apply State.learnEpoch_reach | apply State.derCommit_reach | (intros; show P _ = true; first | exact hsum _ rfl | (clear hsum; apply_assumption)) | split | dsimp only | intro _

theorem execQualityWindowEnd_reach {d : Nat} {q : Sys2Proof.Quality} (hs : Reach P Q s0 s) (hsum : ∀ k, k.cell.summary → P k) (h11 : ∀ i, P ⟨.lr .qValid, d, i⟩) (h12 : ∀ i, P ⟨.lr .qSeq, d, i⟩) (h13 : ∀ i, P ⟨.fec .iterMean, d, i⟩) (h14 : ∀ i, P ⟨.fec .margin, d, i⟩) (h15 : ∀ i, P ⟨.lr .qErrs, d, i⟩) (h16 : ∀ i, P ⟨.lr .qBits, d, i⟩) (h17 : ∀ i, P ⟨.lr .qSnrY, d, i⟩) (h18 : ∀ i, P ⟨.lr .qSnrX, d, i⟩) (h19 : ∀ i, P ⟨.lr .qBerNlog, d, i⟩) (h20 : ∀ i, P ⟨.lr .qLinewidth, d, i⟩) (h21 : ∀ i, P ⟨.lr .qFreqOff, d, i⟩) (h22 : ∀ i, P ⟨.lr .qPolRatePeak, d, i⟩) (h23 : ∀ i, P ⟨.lr .qDgd, d, i⟩) (h24 : ∀ i, P ⟨.lr .qCd, d, i⟩) (h25 : ∀ i, P ⟨.lr .qNgmi, d, i⟩) (h26 : ∀ i, P ⟨.lr .qGmi, d, i⟩) (h27 : ∀ i, P ⟨.lr .qPelGain, d, i⟩) (h28 : ∀ i, P ⟨.lr .qSnrEff, d, i⟩) (h29 : ∀ i, P ⟨.sticky .fecSd, d, i⟩) (h30 : ∀ i, P ⟨.live .fecSd, d, i⟩) (h31 : ∀ i, P ⟨.sticky .lrQualLow, d, i⟩) (h32 : ∀ i, P ⟨.live .lrQualLow, d, i⟩) (h33 : ∀ i, P ⟨.lr .winLocked, d, i⟩) (h34 : ∀ i, P ⟨.der .upRun, d, i⟩) (h35 : ∀ i, P ⟨.der .downRun, d, i⟩) (h36 : ∀ i, P ⟨.lr .compHi, d, i⟩) (h37 : ∀ i, P ⟨.lr .compLo, d, i⟩) (h38 : ∀ i, P ⟨.lr .netK, d, i⟩) (h39 : ∀ i, P ⟨.lr .rolloff, d, i⟩) (h40 : ∀ i, P ⟨.lr .fecRate, d, i⟩) (h41 : ∀ i, P ⟨.lr .pilotGain, d, i⟩) (h42 : ∀ i, P ⟨.lr .entropy, d, i⟩) (h43 : ∀ i, P ⟨.lr .const, d, i⟩) (h44 : ∀ i, P ⟨.lr .rs, d, i⟩) (h45 : ∀ i, P ⟨.lr .lineStd, d, i⟩) (h46 : ∀ i, P ⟨.lt .compHi, d, i⟩) (h47 : ∀ i, P ⟨.lt .compLo, d, i⟩) (h48 : ∀ i, P ⟨.lt .netK, d, i⟩) (h49 : ∀ i, P ⟨.lt .rolloff, d, i⟩) (h50 : ∀ i, P ⟨.lt .fecRate, d, i⟩) (h51 : ∀ i, P ⟨.lt .pilotGain, d, i⟩) (h52 : ∀ i, P ⟨.lt .nlpdBank, d, i⟩) (h53 : ∀ i, P ⟨.lt .entropy, d, i⟩) (h54 : ∀ i, P ⟨.lt .const, d, i⟩) (h55 : ∀ i, P ⟨.lt .rs, d, i⟩) (h56 : ∀ i, P ⟨.lt .lineStd, d, i⟩) (h57 : ∀ i, P ⟨.der .autoId, 0, i⟩) (h58 : ∀ i, P ⟨.der .auto, 0, i⟩) (h59 : ∀ i, P ⟨.der .lastOn, 0, i⟩) (h60 : ∀ i, P ⟨.der .lastReason, 0, i⟩) (h61 : ∀ i, P ⟨.der .lastMsg, 0, i⟩) (h62 : ∀ i, P ⟨.der .txSeq, 0, i⟩) (h63 : ∀ i, P ⟨.der .partner, 0, i⟩) (h64 : ∀ i, P ⟨.der .state, 0, i⟩) (h65 : ∀ i, P ⟨.der .farEpoch, 0, i⟩) (h66 : ∀ i, P ⟨.der .epoch, 0, i⟩) (h67 : ∀ i, P ⟨.der .far, 0, i⟩) (h68 : ∀ i, P ⟨.der .failCarrier, 0, i⟩) (h69 : ∀ i, P ⟨.der .reason, 0, i⟩) (h70 : ∀ i, P ⟨.der .result, 0, i⟩) (h71 : ∀ i, P ⟨.der .role, 0, i⟩) (h72 : ∀ i, P ⟨.der .shiftId, 0, i⟩) (h73 : ∀ i, P ⟨.der .doneSent, 0, i⟩) (h74 : ∀ i, P ⟨.der .farDone, 0, i⟩) (h75 : ∀ i, P ⟨.der .farCommit, 0, i⟩) (h76 : ∀ i, P ⟨.der .armedRx, 0, i⟩) (h77 : ∀ i, P ⟨.der .seen, 0, i⟩) (h78 : ∀ i, P ⟨.der .pelMask, 0, i⟩) (h79 : ∀ i, P ⟨.der .tandemMask, 0, i⟩) (h80 : ∀ i, P ⟨.der .shiftMask, 0, i⟩) (h81 : ∀ d i, P ⟨.der .oldMap, d, i⟩) (h82 : ∀ d i, P ⟨.live .derSplit, d, i⟩) (h83 : ∀ d i, P ⟨.der .returned, d, i⟩) (h84 : ∀ d i, P ⟨.der .onNew, d, i⟩) (h85 : ∀ d i, P ⟨.der .rxEpoch, d, i⟩) (h86 : ∀ d i, P ⟨.der .rxEpochHeld, d, i⟩) (h87 : ∀ d i, P ⟨.der .ready, d, i⟩) (h88 : ∀ d i, P ⟨.der .rxSide, d, i⟩) (h89 : ∀ d i, P ⟨.der .txSide, d, i⟩) (h90 : ∀ d i, P ⟨.der .uReason, d, i⟩) (h91 : ∀ d i, P ⟨.der .uShiftId, d, i⟩) (h92 : ∀ d i, P ⟨.der .uRole, d, i⟩) (h93 : ∀ i, P ⟨.pel .reeval, d, i⟩) (h94 : ∀ i, P ⟨.sticky .pelLate, d, i⟩) (h95 : ∀ i, P ⟨.live .pelLate, d, i⟩) (h96 : ∀ i, P ⟨.sticky .pelWalkExc, d, i⟩) (h97 : ∀ i, P ⟨.live .pelWalkExc, d, i⟩) (h98 : ∀ i, P ⟨.sticky .pelSuspended, d, i⟩) (h99 : ∀ i, P ⟨.live .pelSuspended, d, i⟩) (h100 : ∀ i, P ⟨.sticky .pelNbLost, d, i⟩) (h101 : ∀ i, P ⟨.live .pelNbLost, d, i⟩) (h102 : ∀ d i, P ⟨.tim .evtNext, d, i⟩) (h103 : ∀ d i, P ⟨.tim .evtAt, d, i⟩) (h104 : ∀ i, P ⟨.sticky .timPathChange, 0, i⟩) (h105 : ∀ i, P ⟨.tim .nPce, 0, i⟩) (h106 : ∀ i, P ⟨.tim .pceNext, 0, i⟩) (h107 : ∀ i, P ⟨.win .timPce, 0, i⟩) (h108 : ∀ i, P ⟨.lr .latNs, d, i⟩) (h109 : ∀ i, P ⟨.pel .holdNs, d, i⟩) (h110 : ∀ i, P ⟨.pel .nSuspend, d, i⟩) (h111 : ∀ i, P ⟨.pel .tapsRun, d, i⟩) (h112 : ∀ i, P ⟨.pel .nbState, d, i⟩) (h113 : ∀ i, P ⟨.pel .lost, d, i⟩) (h114 : ∀ i, P ⟨.pel .taps, d, i⟩) (qreports : Q .reports) :
    ∃ t, execQualityWindowEnd d q s = .next t ∧ Reach P Q s0 t := by
  unfold execQualityWindowEnd
  repeat' with_reducible first | assumption | apply finishIf_reach | apply State.setB_reach | apply State.set_reach | apply State.writeQuality_reach | apply State.when_reach | apply State.cond_reach | apply State.ladderWindow_reach | apply State.pelWindow_reach | (intros; show P _ = true; first | exact hsum _ rfl | (clear hsum; apply_assumption)) | split | dsimp only | intro _

theorem execDerCancelRx_reach {m : Sys2Proof.DerMsg} {reason : Nat} (hs : Reach P Q s0 s) (hsum : ∀ k, k.cell.summary → P k) (h11 : ∀ i, P ⟨.der .rxSeq, 0, i⟩) (h12 : ∀ i, P ⟨.der .nMsgDisc, 0, i⟩) (h13 : ∀ i, P ⟨.der .state, 0, i⟩) (h14 : ∀ i, P ⟨.der .result, 0, i⟩) (h15 : ∀ d i, P ⟨.winDirty .ctTsmap, d, i⟩) (h16 : ∀ d i, P ⟨.live .derAis, d, i⟩) (h17 : ∀ d i, P ⟨.live .derMissed, d, i⟩) (h18 : ∀ d i, P ⟨.der .ready, d, i⟩) (h19 : ∀ d i, P ⟨.der .kindEpoch, d, i⟩) (h20 : ∀ d i, P ⟨.der .kind, d, i⟩) (h21 : ∀ d i, P ⟨.der .uShiftId, d, i⟩) (h22 : ∀ d i, P ⟨.der .uRole, d, i⟩) (h23 : ∀ d i, P ⟨.der .rxSide, d, i⟩) (h24 : ∀ d i, P ⟨.der .txSide, d, i⟩) (h25 : ∀ d i, P ⟨.der .lastShift, d, i⟩) (h26 : ∀ i, P ⟨.der .nCancel, 0, i⟩) (h27 : ∀ i, P ⟨.der .far, 0, i⟩) (h28 : ∀ i, P ⟨.der .failCarrier, 0, i⟩) (h29 : ∀ i, P ⟨.der .reason, 0, i⟩) (h30 : ∀ i, P ⟨.der .seen, 0, i⟩) (qreports : Q .reports) :
    ∃ t, execDerCancelRx m reason s = .next t ∧ Reach P Q s0 t := by
  unfold execDerCancelRx
  repeat' with_reducible first | assumption | apply finishIf_reach | apply State.derTake_reach | apply State.derCancel_reach | apply State.derMark_reach | (intros; show P _ = true; first | exact hsum _ rfl | (clear hsum; apply_assumption)) | split | dsimp only | intro _

theorem execDerProposeRx_reach {m : Sys2Proof.DerMsg} {auto : Bool} {entries : List Sys2Proof.DerEntry} (hs : Reach P Q s0 s) (hsum : ∀ k, k.cell.summary → P k) (h11 : ∀ i, P ⟨.der .rxSeq, 0, i⟩) (h12 : ∀ i, P ⟨.der .nMsgDisc, 0, i⟩) (h13 : ∀ i, P ⟨.der .nRefused, 0, i⟩) (h14 : ∀ i, P ⟨.der .lastOn, 0, i⟩) (h15 : ∀ i, P ⟨.der .lastReason, 0, i⟩) (h16 : ∀ i, P ⟨.der .lastMsg, 0, i⟩) (h17 : ∀ i, P ⟨.der .txSeq, 0, i⟩) (h18 : ∀ i, P ⟨.der .seen, 0, i⟩) (h19 : ∀ i, P ⟨.der .state, 0, i⟩) (h20 : ∀ i, P ⟨.der .result, 0, i⟩) (h21 : ∀ d i, P ⟨.winDirty .ctTsmap, d, i⟩) (h22 : ∀ d i, P ⟨.live .derAis, d, i⟩) (h23 : ∀ d i, P ⟨.live .derMissed, d, i⟩) (h24 : ∀ d i, P ⟨.der .ready, d, i⟩) (h25 : ∀ d i, P ⟨.der .kindEpoch, d, i⟩) (h26 : ∀ d i, P ⟨.der .kind, d, i⟩) (h27 : ∀ d i, P ⟨.der .uShiftId, d, i⟩) (h28 : ∀ d i, P ⟨.der .uRole, d, i⟩) (h29 : ∀ d i, P ⟨.der .rxSide, d, i⟩) (h30 : ∀ d i, P ⟨.der .txSide, d, i⟩) (h31 : ∀ d i, P ⟨.der .lastShift, d, i⟩) (h32 : ∀ i, P ⟨.der .far, 0, i⟩) (h33 : ∀ i, P ⟨.der .failCarrier, 0, i⟩) (h34 : ∀ i, P ⟨.der .reason, 0, i⟩) (h35 : ∀ i, P ⟨.der .auto, 0, i⟩) (h36 : ∀ i, P ⟨.der .partner, 0, i⟩) (h37 : ∀ i, P ⟨.der .farEpoch, 0, i⟩) (h38 : ∀ i, P ⟨.der .epoch, 0, i⟩) (h39 : ∀ i, P ⟨.der .role, 0, i⟩) (h40 : ∀ i, P ⟨.der .shiftId, 0, i⟩) (h41 : ∀ i, P ⟨.der .doneSent, 0, i⟩) (h42 : ∀ i, P ⟨.der .farDone, 0, i⟩) (h43 : ∀ i, P ⟨.der .farCommit, 0, i⟩) (h44 : ∀ i, P ⟨.der .armedRx, 0, i⟩) (h45 : ∀ i, P ⟨.der .pelMask, 0, i⟩) (h46 : ∀ i, P ⟨.der .tandemMask, 0, i⟩) (h47 : ∀ i, P ⟨.der .shiftMask, 0, i⟩) (h48 : ∀ d i, P ⟨.der .oldMap, d, i⟩) (h49 : ∀ d i, P ⟨.live .derSplit, d, i⟩) (h50 : ∀ d i, P ⟨.der .returned, d, i⟩) (h51 : ∀ d i, P ⟨.der .onNew, d, i⟩) (h52 : ∀ d i, P ⟨.der .rxEpoch, d, i⟩) (h53 : ∀ d i, P ⟨.der .rxEpochHeld, d, i⟩) (h54 : ∀ d i, P ⟨.der .uReason, d, i⟩) (h55 : ∀ d i, P ⟨.lr .compHi, d, i⟩) (h56 : ∀ d i, P ⟨.lr .compLo, d, i⟩) (h57 : ∀ d i, P ⟨.lr .netK, d, i⟩) (h58 : ∀ d i, P ⟨.lr .rolloff, d, i⟩) (h59 : ∀ d i, P ⟨.lr .fecRate, d, i⟩) (h60 : ∀ d i, P ⟨.lr .pilotGain, d, i⟩) (h61 : ∀ d i, P ⟨.lr .entropy, d, i⟩) (h62 : ∀ d i, P ⟨.lr .const, d, i⟩) (h63 : ∀ d i, P ⟨.lr .rs, d, i⟩) (h64 : ∀ d i, P ⟨.lr .lineStd, d, i⟩) (h65 : ∀ d i, P ⟨.lt .compHi, d, i⟩) (h66 : ∀ d i, P ⟨.lt .compLo, d, i⟩) (h67 : ∀ d i, P ⟨.lt .netK, d, i⟩) (h68 : ∀ d i, P ⟨.lt .rolloff, d, i⟩) (h69 : ∀ d i, P ⟨.lt .fecRate, d, i⟩) (h70 : ∀ d i, P ⟨.lt .pilotGain, d, i⟩) (h71 : ∀ d i, P ⟨.lt .nlpdBank, d, i⟩) (h72 : ∀ d i, P ⟨.lt .entropy, d, i⟩) (h73 : ∀ d i, P ⟨.lt .const, d, i⟩) (h74 : ∀ d i, P ⟨.lt .rs, d, i⟩) (h75 : ∀ d i, P ⟨.lt .lineStd, d, i⟩) (h76 : ∀ i, P ⟨.der .nCancel, 0, i⟩) (qreports : Q .reports) :
    ∃ t, execDerProposeRx m auto entries s = .next t ∧ Reach P Q s0 t := by
  unfold execDerProposeRx
  repeat' with_reducible first | assumption | apply finishIf_reach | apply State.derTake_reach | apply State.inc_reach | apply State.derSend_reach | apply State.derRespond_reach | apply State.derCancel_reach | (intros; show P _ = true; first | exact hsum _ rfl | (clear hsum; apply_assumption)) | split | dsimp only | intro _

theorem execDerRxSwitch_reach {d : Nat} (hs : Reach P Q s0 s) (hsum : ∀ k, k.cell.summary → P k) (h11 : ∀ i, P ⟨.sticky .derAis, d, i⟩) (h12 : ∀ i, P ⟨.win .ctTsmap, d, i⟩) (h13 : ∀ d i, P ⟨.tim .evtNext, d, i⟩) (h14 : ∀ d i, P ⟨.tim .evtAt, d, i⟩) (h15 : ∀ i, P ⟨.sticky .timPathChange, 0, i⟩) (h16 : ∀ i, P ⟨.tim .nPce, 0, i⟩) (h17 : ∀ i, P ⟨.tim .pceNext, 0, i⟩) (h18 : ∀ i, P ⟨.win .timPce, 0, i⟩) (h19 : ∀ d i, P ⟨.pel .taps, d, i⟩) (h20 : ∀ i, P ⟨.sys .freeCount, 0, i⟩) (h21 : ∀ i, P ⟨.lr .latBase, d, i⟩) (h22 : ∀ i, P ⟨.lr .latNs, d, i⟩) (h23 : ∀ i, P ⟨.fec .latNs, d, i⟩) (h24 : ∀ i, P ⟨.lr .modeReload, d, i⟩) (h25 : ∀ i, P ⟨.lr .nBankSwitch, d, i⟩) (h26 : ∀ i, P ⟨.lr .bank, d, i⟩) (h27 : ∀ i, P ⟨.sticky .lrCdNearLimit, d, i⟩) (h28 : ∀ i, P ⟨.live .lrCdNearLimit, d, i⟩) (h29 : ∀ i, P ⟨.lr .winLocked, d, i⟩) (h30 : ∀ i, P ⟨.lr .rxSf, d, i⟩) (h31 : ∀ i, P ⟨.lr .rxState, d, i⟩) (h32 : ∀ i, P ⟨.lr .missed, d, i⟩) (h33 : ∀ d i, P ⟨.sticky .ctnSf, d, i⟩) (h34 : ∀ d i, P ⟨.live .ctnSf, d, i⟩) (h35 : ∀ i, P ⟨.sticky .ctOof, d, i⟩) (h36 : ∀ i, P ⟨.live .ctOof, d, i⟩) (h37 : ∀ i, P ⟨.sticky .ctLof, d, i⟩) (h38 : ∀ i, P ⟨.live .ctLof, d, i⟩) (h39 : ∀ i, P ⟨.ct .candCount, d, i⟩) (h40 : ∀ i, P ⟨.ct .align, d, i⟩) (h41 : ∀ i, P ⟨.ct .lof, d, i⟩) (h42 : ∀ i, P ⟨.ct .nOofEnter, d, i⟩) (h43 : ∀ i, P ⟨.ct .mfasSeen, d, i⟩) (h44 : ∀ i, P ⟨.ct .misses, d, i⟩) (h45 : ∀ i, P ⟨.ct .inFrame, d, i⟩) (h46 : ∀ i, P ⟨.sticky .fecSf, d, i⟩) (h47 : ∀ i, P ⟨.live .fecSf, d, i⟩) (h48 : ∀ i, P ⟨.fec .iterCap, d, i⟩) (h49 : ∀ i, P ⟨.fec .lockState, d, i⟩) (h50 : ∀ i, P ⟨.fec .failRun, d, i⟩) (h51 : ∀ i, P ⟨.fec .candAt, d, i⟩) (h52 : ∀ i, P ⟨.sticky .lrRxDown, d, i⟩) (h53 : ∀ i, P ⟨.live .lrRxDown, d, i⟩) (h54 : ∀ i, P ⟨.der .state, 0, i⟩) (h55 : ∀ i, P ⟨.der .doneSent, 0, i⟩) (h56 : ∀ i, P ⟨.der .lastOn, 0, i⟩) (h57 : ∀ i, P ⟨.der .lastReason, 0, i⟩) (h58 : ∀ i, P ⟨.der .lastMsg, 0, i⟩) (h59 : ∀ i, P ⟨.der .txSeq, 0, i⟩) (h60 : ∀ i, P ⟨.der .result, 0, i⟩) (h61 : ∀ d i, P ⟨.winDirty .ctTsmap, d, i⟩) (h62 : ∀ d i, P ⟨.live .derAis, d, i⟩) (h63 : ∀ d i, P ⟨.live .derMissed, d, i⟩) (h64 : ∀ d i, P ⟨.der .ready, d, i⟩) (h65 : ∀ d i, P ⟨.der .kindEpoch, d, i⟩) (h66 : ∀ d i, P ⟨.der .kind, d, i⟩) (h67 : ∀ d i, P ⟨.der .uShiftId, d, i⟩) (h68 : ∀ d i, P ⟨.der .uRole, d, i⟩) (h69 : ∀ d i, P ⟨.der .rxSide, d, i⟩) (h70 : ∀ d i, P ⟨.der .txSide, d, i⟩) (h71 : ∀ d i, P ⟨.der .lastShift, d, i⟩) (h72 : ∀ i, P ⟨.der .nShiftOk, 0, i⟩) (h73 : ∀ i, P ⟨.der .nApply, d, i⟩) (h74 : ∀ i, P ⟨.sticky .derMissed, d, i⟩) (qreports : Q .reports) (qcands : Q .cands) :
    ∃ t, execDerRxSwitch d s = .next t ∧ Reach P Q s0 t := by
  unfold execDerRxSwitch
  repeat' with_reducible first | assumption | apply finishIf_reach | apply State.raise_reach | apply State.mapTake_reach | apply State.when_reach | apply State.rxBankSwitch_reach | apply State.derFollow_reach | apply State.ctnRefreshAll_reach | apply State.derAisFollow_reach | apply State.inc_reach | apply State.setSide_reach | (intros; show P _ = true; first | exact hsum _ rfl | (clear hsum; apply_assumption)) | split | dsimp only | intro _

theorem State.derKeyRestart_reach {node : Nat} (hs : Reach P Q s0 s) (h1 : ∀ i, P ⟨.der .rxSeq, 0, i⟩) (h2 : ∀ i, P ⟨.der .txSeq, 0, i⟩) :
    Reach P Q s0 (State.derKeyRestart s node) := by
  unfold State.derKeyRestart
  repeat' with_reducible first | assumption | apply State.set_reach | (intros; show P _ = true; apply_assumption) | split | dsimp only | intro _

end Sys2Proof.Machine
end

