-- ==== Sys2Proof/Laws/MovesBell.lean ====
section
/-!
SUPPORT. What the operations of Machine/Bell.lean may change, one lemma each (Laws/Reach.lean).
-/
namespace Sys2Proof.Machine

set_option linter.unusedTactic false
set_option linter.unreachableTactic false

variable {P : Key → Bool} {Q : Part → Bool} {s0 s : State}

theorem State.restartFollow_reach (hs : Reach P Q s0 s) (h1 : ∀ k, P k) (qmbox : Q .mbox) (qreports : Q .reports) (qheld : Q .held) (qtickets : Q .tickets) (qrun : Q .run) (qpolicy : Q .policy) (qimgPolicy : Q .imgPolicy) (qtrust : Q .trust) (qcands : Q .cands) (qtelOut : Q .telOut) (qclsTab : Q .clsTab) (qstaged : Q .staged) (qrings : Q .rings) (qtracker : Q .tracker) (qretireQ : Q .retireQ) (qmerge : Q .merge) (qdescs : Q .descs) (qkch : Q .kch) (qfups : Q .fups) :
    Reach P Q s0 (State.restartFollow s) := by
  unfold State.restartFollow
  repeat' with_reducible first | assumption | apply State.restart_reach | (intros; show P _ = true; apply_assumption) | split | dsimp only | intro _

theorem State.bellPend_reach {d : Nat} {type : Nat} {b : Bool} (hs : Reach P Q s0 s) (h1 : ∀ i, P ⟨.bell .pend, d, i⟩) :
    Reach P Q s0 (State.bellPend s d type b) := by
  unfold State.bellPend
  repeat' with_reducible first | assumption | apply State.set_reach | (intros; show P _ = true; apply_assumption) | split | dsimp only | intro _

theorem State.bellStop_reach {d : Nat} (hs : Reach P Q s0 s) (h1 : ∀ i, P ⟨.bell .txCompat, d, i⟩) (h2 : ∀ i, P ⟨.bell .txSrc, d, i⟩) (h3 : ∀ i, P ⟨.bell .cur, d, i⟩) (h4 : ∀ i, P ⟨.bias .ptUnlRun, d, i⟩) (h5 : ∀ i, P ⟨.bias .ptLockRun, d, i⟩) (h6 : ∀ i, P ⟨.bias .ptBase, d, i⟩) (h7 : ∀ i, P ⟨.bias .ptTry, d, i⟩) (h8 : ∀ i, P ⟨.bias .ptV, d, i⟩) (h9 : ∀ i, P ⟨.bias .ptFirst, d, i⟩) (h10 : ∀ i, P ⟨.bias .nUnlock, d, i⟩) (h11 : ∀ i, P ⟨.bias .ptState, d, i⟩) (h12 : ∀ i, P ⟨.sys .freeCount, 0, i⟩) (h13 : ∀ i, P ⟨.bias .outMv, d, i⟩) (h14 : ∀ i, P ⟨.bias .ptLocked, d, i⟩) (h15 : ∀ i, P ⟨.bias .biasLock, d, i⟩) (h16 : ∀ i, P ⟨.sticky .biasNearRail, d, i⟩) (h17 : ∀ i, P ⟨.live .biasNearRail, d, i⟩) (h18 : ∀ i, P ⟨.sticky .biasRail, d, i⟩) (h19 : ∀ i, P ⟨.live .biasRail, d, i⟩) (h20 : ∀ i, P ⟨.sticky .biasOutFault, d, i⟩) (h21 : ∀ i, P ⟨.live .biasOutFault, d, i⟩) (h22 : ∀ i, P ⟨.sticky .biasUnlock, d, i⟩) (h23 : ∀ i, P ⟨.live .biasUnlock, d, i⟩) (h24 : ∀ i, P ⟨.lt .muteCause, d, i⟩) (h25 : ∀ i, P ⟨.lt .ramp, d, i⟩) (h26 : ∀ i, P ⟨.lt .txState, d, i⟩) (h27 : ∀ i, P ⟨.lt .otherCause, d, i⟩) (h28 : ∀ i, P ⟨.bias .ptAcq, d, i⟩) (h29 : ∀ i, P ⟨.lt .nMuteEnter, d, i⟩) (h30 : ∀ i, P ⟨.lt .begun4, d, i⟩) (h31 : ∀ i, P ⟨.sticky .ltTxDown, d, i⟩) (h32 : ∀ i, P ⟨.live .ltTxDown, d, i⟩) (qreports : Q .reports) :
    Reach P Q s0 (State.bellStop s d) := by
  unfold State.bellStop
  repeat' with_reducible first | assumption | apply State.set_reach | apply State.biasShow_reach | (intros; show P _ = true; apply_assumption) | split | dsimp only | intro _

theorem State.bellAbandon_reach {d : Nat} (hs : Reach P Q s0 s) (h1 : ∀ i, P ⟨.bell .pend, d, i⟩) (h2 : ∀ i, P ⟨.bell .txCompat, d, i⟩) (h3 : ∀ i, P ⟨.bell .txSrc, d, i⟩) (h4 : ∀ i, P ⟨.bell .cur, d, i⟩) (h5 : ∀ i, P ⟨.bias .ptUnlRun, d, i⟩) (h6 : ∀ i, P ⟨.bias .ptLockRun, d, i⟩) (h7 : ∀ i, P ⟨.bias .ptBase, d, i⟩) (h8 : ∀ i, P ⟨.bias .ptTry, d, i⟩) (h9 : ∀ i, P ⟨.bias .ptV, d, i⟩) (h10 : ∀ i, P ⟨.bias .ptFirst, d, i⟩) (h11 : ∀ i, P ⟨.bias .nUnlock, d, i⟩) (h12 : ∀ i, P ⟨.bias .ptState, d, i⟩) (h13 : ∀ i, P ⟨.sys .freeCount, 0, i⟩) (h14 : ∀ i, P ⟨.bias .outMv, d, i⟩) (h15 : ∀ i, P ⟨.bias .ptLocked, d, i⟩) (h16 : ∀ i, P ⟨.bias .biasLock, d, i⟩) (h17 : ∀ i, P ⟨.sticky .biasNearRail, d, i⟩) (h18 : ∀ i, P ⟨.live .biasNearRail, d, i⟩) (h19 : ∀ i, P ⟨.sticky .biasRail, d, i⟩) (h20 : ∀ i, P ⟨.live .biasRail, d, i⟩) (h21 : ∀ i, P ⟨.sticky .biasOutFault, d, i⟩) (h22 : ∀ i, P ⟨.live .biasOutFault, d, i⟩) (h23 : ∀ i, P ⟨.sticky .biasUnlock, d, i⟩) (h24 : ∀ i, P ⟨.live .biasUnlock, d, i⟩) (h25 : ∀ i, P ⟨.lt .muteCause, d, i⟩) (h26 : ∀ i, P ⟨.lt .ramp, d, i⟩) (h27 : ∀ i, P ⟨.lt .txState, d, i⟩) (h28 : ∀ i, P ⟨.lt .otherCause, d, i⟩) (h29 : ∀ i, P ⟨.bias .ptAcq, d, i⟩) (h30 : ∀ i, P ⟨.lt .nMuteEnter, d, i⟩) (h31 : ∀ i, P ⟨.lt .begun4, d, i⟩) (h32 : ∀ i, P ⟨.sticky .ltTxDown, d, i⟩) (h33 : ∀ i, P ⟨.live .ltTxDown, d, i⟩) (qreports : Q .reports) :
    Reach P Q s0 (State.bellAbandon s d) := by
  unfold State.bellAbandon
  repeat' with_reducible first | assumption | apply State.bellPend_reach | apply State.bellStop_reach | (intros; show P _ = true; apply_assumption) | split | dsimp only | intro _

theorem State.bellFollow_reach {d : Nat} (hs : Reach P Q s0 s) (h1 : ∀ i, P ⟨.sticky .bellTxBlocked, d, i⟩) (h2 : ∀ i, P ⟨.bell .pend, d, i⟩) (h3 : ∀ i, P ⟨.live .bellTxBlocked, d, i⟩) (h4 : ∀ i, P ⟨.bell .txState, d, i⟩) (qreports : Q .reports) :
    Reach P Q s0 (State.bellFollow s d) := by
  unfold State.bellFollow
  repeat' with_reducible first | assumption | apply State.event_reach | apply State.bellPend_reach | apply State.cond_reach | apply State.set_reach | (intros; show P _ = true; apply_assumption) | split | dsimp only | intro _

theorem State.bellQueue_reach {d : Nat} {type : Nat} (hs : Reach P Q s0 s) (h1 : ∀ i, P ⟨.sticky .bellTxBlocked, d, i⟩) (h2 : ∀ i, P ⟨.bell .pend, d, i⟩) (h3 : ∀ i, P ⟨.live .bellTxBlocked, d, i⟩) (h4 : ∀ i, P ⟨.bell .txState, d, i⟩) (qreports : Q .reports) :
    Reach P Q s0 (State.bellQueue s d type) := by
  unfold State.bellQueue
  repeat' with_reducible first | assumption | apply State.bellFollow_reach | apply State.bellPend_reach | (intros; show P _ = true; apply_assumption) | split | dsimp only | intro _

theorem State.gaspQueue_reach {d : Nat} {reason : Nat} (hs : Reach P Q s0 s) (h1 : ∀ i, P ⟨.bell .pend, d, i⟩) (h2 : ∀ i, P ⟨.bell .txCompat, d, i⟩) (h3 : ∀ i, P ⟨.bell .txSrc, d, i⟩) (h4 : ∀ i, P ⟨.bell .cur, d, i⟩) (h5 : ∀ i, P ⟨.bias .ptUnlRun, d, i⟩) (h6 : ∀ i, P ⟨.bias .ptLockRun, d, i⟩) (h7 : ∀ i, P ⟨.bias .ptBase, d, i⟩) (h8 : ∀ i, P ⟨.bias .ptTry, d, i⟩) (h9 : ∀ i, P ⟨.bias .ptV, d, i⟩) (h10 : ∀ i, P ⟨.bias .ptFirst, d, i⟩) (h11 : ∀ i, P ⟨.bias .nUnlock, d, i⟩) (h12 : ∀ i, P ⟨.bias .ptState, d, i⟩) (h13 : ∀ i, P ⟨.sys .freeCount, 0, i⟩) (h14 : ∀ i, P ⟨.bias .outMv, d, i⟩) (h15 : ∀ i, P ⟨.bias .ptLocked, d, i⟩) (h16 : ∀ i, P ⟨.bias .biasLock, d, i⟩) (h17 : ∀ i, P ⟨.sticky .biasNearRail, d, i⟩) (h18 : ∀ i, P ⟨.live .biasNearRail, d, i⟩) (h19 : ∀ i, P ⟨.sticky .biasRail, d, i⟩) (h20 : ∀ i, P ⟨.live .biasRail, d, i⟩) (h21 : ∀ i, P ⟨.sticky .biasOutFault, d, i⟩) (h22 : ∀ i, P ⟨.live .biasOutFault, d, i⟩) (h23 : ∀ i, P ⟨.sticky .biasUnlock, d, i⟩) (h24 : ∀ i, P ⟨.live .biasUnlock, d, i⟩) (h25 : ∀ i, P ⟨.lt .muteCause, d, i⟩) (h26 : ∀ i, P ⟨.lt .ramp, d, i⟩) (h27 : ∀ i, P ⟨.lt .txState, d, i⟩) (h28 : ∀ i, P ⟨.lt .otherCause, d, i⟩) (h29 : ∀ i, P ⟨.bias .ptAcq, d, i⟩) (h30 : ∀ i, P ⟨.lt .nMuteEnter, d, i⟩) (h31 : ∀ i, P ⟨.lt .begun4, d, i⟩) (h32 : ∀ i, P ⟨.sticky .ltTxDown, d, i⟩) (h33 : ∀ i, P ⟨.live .ltTxDown, d, i⟩) (h34 : ∀ i, P ⟨.sticky .bellTxBlocked, d, i⟩) (h35 : ∀ i, P ⟨.live .bellTxBlocked, d, i⟩) (h36 : ∀ i, P ⟨.bell .txState, d, i⟩) (h37 : ∀ i, P ⟨.bell .gaspOutLoc, d, i⟩) (h38 : ∀ i, P ⟨.bell .gaspOut, d, i⟩) (qreports : Q .reports) :
    Reach P Q s0 (State.gaspQueue s d reason) := by
  unfold State.gaspQueue
  repeat' with_reducible first | assumption | apply State.bellAbandon_reach | apply State.bellQueue_reach | apply State.set_reach | (intros; show P _ = true; apply_assumption) | split | dsimp only | intro _

theorem State.restartTicket_reach (hs : Reach P Q s0 s) (h1 : ∀ k, P k) (qmbox : Q .mbox) (qreports : Q .reports) (qheld : Q .held) (qtickets : Q .tickets) (qrun : Q .run) (qpolicy : Q .policy) (qimgPolicy : Q .imgPolicy) (qtrust : Q .trust) (qcands : Q .cands) (qtelOut : Q .telOut) (qclsTab : Q .clsTab) (qstaged : Q .staged) (qrings : Q .rings) (qtracker : Q .tracker) (qretireQ : Q .retireQ) (qmerge : Q .merge) (qdescs : Q .descs) (qkch : Q .kch) (qfups : Q .fups) :
    Reach P Q s0 (State.restartTicket s) := by
  unfold State.restartTicket
  repeat' with_reducible first | assumption | apply State.restartFollow_reach | apply State.set_reach | apply State.each_reach | apply State.gaspQueue_reach | (intros; show P _ = true; apply_assumption) | split | dsimp only | intro _

theorem State.bellIdle_reach {d : Nat} (hs : Reach P Q s0 s) (h1 : ∀ i, P ⟨.bell .rxCompat, d, i⟩) (h2 : ∀ i, P ⟨.bell .rxSlow, d, i⟩) (h3 : ∀ i, P ⟨.bell .agcFrozen, d, i⟩) (h4 : ∀ i, P ⟨.bell .rxState, d, i⟩) :
    Reach P Q s0 (State.bellIdle s d) := by
  unfold State.bellIdle
  repeat' with_reducible first | assumption | apply State.set_reach | (intros; show P _ = true; apply_assumption) | split | dsimp only | intro _

theorem State.bellEnable_reach {d : Nat} {v : Nat} (hs : Reach P Q s0 s) (h1 : ∀ k, P k) (qreports : Q .reports) (qmbox : Q .mbox) (qheld : Q .held) (qtickets : Q .tickets) (qrun : Q .run) (qpolicy : Q .policy) (qimgPolicy : Q .imgPolicy) (qtrust : Q .trust) (qcands : Q .cands) (qtelOut : Q .telOut) (qclsTab : Q .clsTab) (qstaged : Q .staged) (qrings : Q .rings) (qtracker : Q .tracker) (qretireQ : Q .retireQ) (qmerge : Q .merge) (qdescs : Q .descs) (qkch : Q .kch) (qfups : Q .fups) :
    Reach P Q s0 (State.bellEnable s d v) := by
  unfold State.bellEnable
  repeat' with_reducible first | assumption | apply State.set_reach | apply State.bellFollow_reach | apply State.bellIdle_reach | apply State.bellStop_reach | apply State.restartFollow_reach | (intros; show P _ = true; apply_assumption) | split | dsimp only | intro _

theorem execBellParkedTimer_reach {d : Nat} (hs : Reach P Q s0 s) (hsum : ∀ k, k.cell.summary → P k) (h11 : ∀ i, P ⟨.sticky .bellTxBlocked, d, i⟩) (h12 : ∀ i, P ⟨.bell .pend, d, i⟩) (h13 : ∀ i, P ⟨.live .bellTxBlocked, d, i⟩) (h14 : ∀ i, P ⟨.bell .txState, d, i⟩) (qreports : Q .reports) :
    ∃ t, execBellParkedTimer d s = .next t ∧ Reach P Q s0 t := by
  unfold execBellParkedTimer
  repeat' with_reducible first | assumption | apply finishIf_reach | apply State.bellQueue_reach | (intros; show P _ = true; first | exact hsum _ rfl | (clear hsum; apply_assumption)) | split | dsimp only | intro _

theorem execPeerParkedTimeout_reach {d : Nat} (hs : Reach P Q s0 s) (hsum : ∀ k, k.cell.summary → P k) (h11 : ∀ i, P ⟨.bell .peerParked, d, i⟩) (qreports : Q .reports) :
    ∃ t, execPeerParkedTimeout d s = .next t ∧ Reach P Q s0 t := by
  unfold execPeerParkedTimeout
  repeat' with_reducible first | assumption | apply finishIf_reach | apply State.set_reach | (intros; show P _ = true; first | exact hsum _ rfl | (clear hsum; apply_assumption)) | split | dsimp only | intro _

theorem execBellDetect_reach {d : Nat} {slow : Bool} (hs : Reach P Q s0 s) (hsum : ∀ k, k.cell.summary → P k) (h11 : ∀ i, P ⟨.bell .nDetect, d, i⟩) (h12 : ∀ i, P ⟨.bell .rxSlow, d, i⟩) (h13 : ∀ i, P ⟨.bell .agcFrozen, d, i⟩) (h14 : ∀ i, P ⟨.bell .rxState, d, i⟩) (qreports : Q .reports) :
    ∃ t, execBellDetect d slow s = .next t ∧ Reach P Q s0 t := by
  unfold execBellDetect
  repeat' with_reducible first | assumption | apply finishIf_reach | apply State.inc_reach | apply State.setB_reach | apply State.set_reach | (intros; show P _ = true; first | exact hsum _ rfl | (clear hsum; apply_assumption)) | split | dsimp only | intro _

theorem State.bellDisc_reach {d : Nat} (hs : Reach P Q s0 s) (h1 : ∀ i, P ⟨.bell .nRxDisc, d, i⟩) :
    Reach P Q s0 (State.bellDisc s d) := by
  unfold State.bellDisc
  repeat' with_reducible first | assumption | apply State.inc_reach | (intros; show P _ = true; apply_assumption) | split | dsimp only | intro _

theorem State.discSet_reach {d : Nat} {v : Nat} (hs : Reach P Q s0 s) (h1 : ∀ i, P ⟨.sticky .bellDiscFail, d, i⟩) (h2 : ∀ i, P ⟨.live .bellDiscFail, d, i⟩) (h3 : ∀ i, P ⟨.bell .discState, d, i⟩) (qreports : Q .reports) :
    Reach P Q s0 (State.discSet s d v) := by
  unfold State.discSet
  repeat' with_reducible first | assumption | apply State.cond_reach | apply State.set_reach | (intros; show P _ = true; apply_assumption) | split | dsimp only | intro _

theorem State.discFail_reach {d : Nat} {code : Nat} (hs : Reach P Q s0 s) (h1 : ∀ i, P ⟨.bell .discRun, d, i⟩) (h2 : ∀ i, P ⟨.bell .discFailReason, d, i⟩) (h3 : ∀ i, P ⟨.sticky .bellDiscFail, d, i⟩) (h4 : ∀ i, P ⟨.live .bellDiscFail, d, i⟩) (h5 : ∀ i, P ⟨.bell .discState, d, i⟩) (h6 : ∀ i, P ⟨.boot .procCalled, 0, i⟩) (h7 : ∀ i, P ⟨.boot .procCode, 0, i⟩) (h8 : ∀ i, P ⟨.boot .procDone, 0, i⟩) (qreports : Q .reports) :
    Reach P Q s0 (State.discFail s d code) := by
  unfold State.discFail
  repeat' with_reducible first | assumption | apply State.setB_reach | apply State.set_reach | apply State.discSet_reach | apply State.when_reach | apply State.procEnd_reach | (intros; show P _ = true; apply_assumption) | split | dsimp only | intro _

theorem State.discEnd_reach {d : Nat} (hs : Reach P Q s0 s) (h1 : ∀ i, P ⟨.bell .discRun, d, i⟩) (h2 : ∀ i, P ⟨.bell .peerValid, d, i⟩) (h3 : ∀ i, P ⟨.bell .discFailReason, d, i⟩) (h4 : ∀ i, P ⟨.sticky .bellDiscFail, d, i⟩) (h5 : ∀ i, P ⟨.live .bellDiscFail, d, i⟩) (h6 : ∀ i, P ⟨.bell .discState, d, i⟩) (h7 : ∀ i, P ⟨.boot .procCalled, 0, i⟩) (h8 : ∀ i, P ⟨.boot .procCode, 0, i⟩) (h9 : ∀ i, P ⟨.boot .procDone, 0, i⟩) (qreports : Q .reports) :
    Reach P Q s0 (State.discEnd s d) := by
  unfold State.discEnd
  repeat' with_reducible first | assumption | apply State.set_reach | apply State.discSet_reach | apply State.when_reach | apply State.procEnd_reach | (intros; show P _ = true; apply_assumption) | split | dsimp only | intro _

theorem State.descPass_reach {d : Nat} {l : List Nat} {heard : Bool} (hs : Reach P Q s0 s) (h1 : ∀ i, P ⟨.lr .peerSeed, d, i⟩) (h2 : ∀ i, P ⟨.bell .discRun, d, i⟩) (h3 : ∀ i, P ⟨.bell .peerValid, d, i⟩) (h4 : ∀ i, P ⟨.bell .discFailReason, d, i⟩) (h5 : ∀ i, P ⟨.sticky .bellDiscFail, d, i⟩) (h6 : ∀ i, P ⟨.live .bellDiscFail, d, i⟩) (h7 : ∀ i, P ⟨.bell .discState, d, i⟩) (h8 : ∀ i, P ⟨.boot .procCalled, 0, i⟩) (h9 : ∀ i, P ⟨.boot .procCode, 0, i⟩) (h10 : ∀ i, P ⟨.boot .procDone, 0, i⟩) (qreports : Q .reports) :
    Reach P Q s0 (State.descPass s d l heard) := by
  unfold State.descPass
  repeat' with_reducible first | assumption | apply State.when_reach | apply State.set_reach | apply State.discEnd_reach | apply State.discSet_reach | (intros; show P _ = true; apply_assumption) | split | dsimp only | intro _

theorem State.txStep4_reach {d : Nat} (hs : Reach P Q s0 s) (h1 : ∀ i, P ⟨.lt .muteCause, d, i⟩) (h2 : ∀ i, P ⟨.lt .ramp, d, i⟩) (h3 : ∀ i, P ⟨.lt .txState, d, i⟩) (h4 : ∀ i, P ⟨.lt .otherCause, d, i⟩) (h5 : ∀ i, P ⟨.bias .ptState, d, i⟩) (h6 : ∀ i, P ⟨.bias .ptAcq, d, i⟩) (h7 : ∀ i, P ⟨.bias .ptV, d, i⟩) (h8 : ∀ i, P ⟨.bias .ptBase, d, i⟩) (h9 : ∀ i, P ⟨.lt .nMuteEnter, d, i⟩) (h10 : ∀ i, P ⟨.lt .begun4, d, i⟩) (h11 : ∀ i, P ⟨.sticky .ltTxDown, d, i⟩) (h12 : ∀ i, P ⟨.live .ltTxDown, d, i⟩) (qreports : Q .reports) :
    Reach P Q s0 (State.txStep4 s d) := by
  unfold State.txStep4
  repeat' with_reducible first | assumption | apply State.muteRefresh_reach | apply State.phaseIdle_reach | apply State.set_reach | (intros; show P _ = true; apply_assumption) | split | dsimp only | intro _

theorem State.adoptMode_reach {d : Nat} {l : List Nat} (hs : Reach P Q s0 s) (h1 : ∀ i, P ⟨.lt .muteCause, d, i⟩) (h2 : ∀ i, P ⟨.lt .ramp, d, i⟩) (h3 : ∀ i, P ⟨.lt .txState, d, i⟩) (h4 : ∀ i, P ⟨.lt .otherCause, d, i⟩) (h5 : ∀ i, P ⟨.bias .ptState, d, i⟩) (h6 : ∀ i, P ⟨.bias .ptAcq, d, i⟩) (h7 : ∀ i, P ⟨.bias .ptV, d, i⟩) (h8 : ∀ i, P ⟨.bias .ptBase, d, i⟩) (h9 : ∀ i, P ⟨.lt .nMuteEnter, d, i⟩) (h10 : ∀ i, P ⟨.lt .begun4, d, i⟩) (h11 : ∀ i, P ⟨.sticky .ltTxDown, d, i⟩) (h12 : ∀ i, P ⟨.live .ltTxDown, d, i⟩) (h13 : ∀ i, P ⟨.lt .excess, d, i⟩) (h14 : ∀ i, P ⟨.lt .bank, d, i⟩) (h15 : ∀ i, P ⟨.lr .peerSeed, d, i⟩) (h16 : ∀ i, P ⟨.lr .compHi, d, i⟩) (h17 : ∀ i, P ⟨.lr .compLo, d, i⟩) (h18 : ∀ i, P ⟨.lr .netK, d, i⟩) (h19 : ∀ i, P ⟨.lr .rolloff, d, i⟩) (h20 : ∀ i, P ⟨.lr .fecRate, d, i⟩) (h21 : ∀ i, P ⟨.lr .pilotGain, d, i⟩) (h22 : ∀ i, P ⟨.lr .entropy, d, i⟩) (h23 : ∀ i, P ⟨.lr .const, d, i⟩) (h24 : ∀ i, P ⟨.lr .rs, d, i⟩) (h25 : ∀ i, P ⟨.lr .lineStd, d, i⟩) (h26 : ∀ i, P ⟨.lt .compHi, d, i⟩) (h27 : ∀ i, P ⟨.lt .compLo, d, i⟩) (h28 : ∀ i, P ⟨.lt .netK, d, i⟩) (h29 : ∀ i, P ⟨.lt .rolloff, d, i⟩) (h30 : ∀ i, P ⟨.lt .fecRate, d, i⟩) (h31 : ∀ i, P ⟨.lt .pilotGain, d, i⟩) (h32 : ∀ i, P ⟨.lt .nlpdBank, d, i⟩) (h33 : ∀ i, P ⟨.lt .entropy, d, i⟩) (h34 : ∀ i, P ⟨.lt .const, d, i⟩) (h35 : ∀ i, P ⟨.lt .rs, d, i⟩) (h36 : ∀ i, P ⟨.lt .lineStd, d, i⟩) (qreports : Q .reports) :
    Reach P Q s0 (State.adoptMode s d l) := by
  unfold State.adoptMode
  repeat' with_reducible first | assumption | apply State.txStep4_reach | apply State.txActivate_reach | apply State.set_reach | apply State.writeRxBank_reach | apply State.writeTxBank_reach | (intros; show P _ = true; apply_assumption) | split | dsimp only | intro _

theorem State.descCheck_reach {d : Nat} {node : Nat} {l : List Nat} {heard : Bool} (hs : Reach P Q s0 s) (h1 : ∀ i, P ⟨.bell .discRun, d, i⟩) (h2 : ∀ i, P ⟨.bell .discFailReason, d, i⟩) (h3 : ∀ i, P ⟨.sticky .bellDiscFail, d, i⟩) (h4 : ∀ i, P ⟨.live .bellDiscFail, d, i⟩) (h5 : ∀ i, P ⟨.bell .discState, d, i⟩) (h6 : ∀ i, P ⟨.boot .procCalled, 0, i⟩) (h7 : ∀ i, P ⟨.boot .procCode, 0, i⟩) (h8 : ∀ i, P ⟨.boot .procDone, 0, i⟩) (h9 : ∀ i, P ⟨.lr .peerSeed, d, i⟩) (h10 : ∀ i, P ⟨.bell .peerValid, d, i⟩) (h11 : ∀ i, P ⟨.lt .muteCause, d, i⟩) (h12 : ∀ i, P ⟨.lt .ramp, d, i⟩) (h13 : ∀ i, P ⟨.lt .txState, d, i⟩) (h14 : ∀ i, P ⟨.lt .otherCause, d, i⟩) (h15 : ∀ i, P ⟨.bias .ptState, d, i⟩) (h16 : ∀ i, P ⟨.bias .ptAcq, d, i⟩) (h17 : ∀ i, P ⟨.bias .ptV, d, i⟩) (h18 : ∀ i, P ⟨.bias .ptBase, d, i⟩) (h19 : ∀ i, P ⟨.lt .nMuteEnter, d, i⟩) (h20 : ∀ i, P ⟨.lt .begun4, d, i⟩) (h21 : ∀ i, P ⟨.sticky .ltTxDown, d, i⟩) (h22 : ∀ i, P ⟨.live .ltTxDown, d, i⟩) (h23 : ∀ i, P ⟨.lt .excess, d, i⟩) (h24 : ∀ i, P ⟨.lt .bank, d, i⟩) (h25 : ∀ i, P ⟨.lr .compHi, d, i⟩) (h26 : ∀ i, P ⟨.lr .compLo, d, i⟩) (h27 : ∀ i, P ⟨.lr .netK, d, i⟩) (h28 : ∀ i, P ⟨.lr .rolloff, d, i⟩) (h29 : ∀ i, P ⟨.lr .fecRate, d, i⟩) (h30 : ∀ i, P ⟨.lr .pilotGain, d, i⟩) (h31 : ∀ i, P ⟨.lr .entropy, d, i⟩) (h32 : ∀ i, P ⟨.lr .const, d, i⟩) (h33 : ∀ i, P ⟨.lr .rs, d, i⟩) (h34 : ∀ i, P ⟨.lr .lineStd, d, i⟩) (h35 : ∀ i, P ⟨.lt .compHi, d, i⟩) (h36 : ∀ i, P ⟨.lt .compLo, d, i⟩) (h37 : ∀ i, P ⟨.lt .netK, d, i⟩) (h38 : ∀ i, P ⟨.lt .rolloff, d, i⟩) (h39 : ∀ i, P ⟨.lt .fecRate, d, i⟩) (h40 : ∀ i, P ⟨.lt .pilotGain, d, i⟩) (h41 : ∀ i, P ⟨.lt .nlpdBank, d, i⟩) (h42 : ∀ i, P ⟨.lt .entropy, d, i⟩) (h43 : ∀ i, P ⟨.lt .const, d, i⟩) (h44 : ∀ i, P ⟨.lt .rs, d, i⟩) (h45 : ∀ i, P ⟨.lt .lineStd, d, i⟩) (qreports : Q .reports) :
    Reach P Q s0 (State.descCheck s d node l heard) := by
  unfold State.descCheck
  repeat' with_reducible first | assumption | apply State.discFail_reach | apply State.descPass_reach | apply State.adoptMode_reach | (intros; show P _ = true; apply_assumption) | split | dsimp only | intro _

theorem State.descStore_reach {d : Nat} {desc : List Nat} (hs : Reach P Q s0 s) (h1 : ∀ i, P ⟨.bell .descOk, d, i⟩) (h2 : ∀ i, P ⟨.win .bellDesc, d, i⟩) :
    Reach P Q s0 (State.descStore s d desc) := by
  unfold State.descStore
  repeat' with_reducible first | assumption | apply State.set_reach | apply State.each_reach | apply State.setWin_reach | (intros; show P _ = true; apply_assumption) | split | dsimp only | intro _

theorem State.bellTake_reach {d : Nat} {m : Sys2Proof.BellMsg} (hs : Reach P Q s0 s) (h1 : ∀ i, P ⟨.bell .nRxMsg, d, i⟩) (h2 : ∀ i, P ⟨.bell .peerParked, d, i⟩) :
    Reach P Q s0 (State.bellTake s d m) := by
  unfold State.bellTake
  repeat' with_reducible first | assumption | apply State.when_reach | apply State.inc_reach | apply State.set_reach | (intros; show P _ = true; apply_assumption) | split | dsimp only | intro _

theorem State.helloTake_reach {d : Nat} {m : Sys2Proof.BellMsg} {desc : List Nat} {compat : Bool} (hs : Reach P Q s0 s) (h1 : ∀ i, P ⟨.bell .nRxDisc, d, i⟩) (h2 : ∀ i, P ⟨.bell .peerParked, d, i⟩) (h3 : ∀ i, P ⟨.bell .peerCompat, d, i⟩) (h4 : ∀ i, P ⟨.bell .farCarrier, d, i⟩) (h5 : ∀ i, P ⟨.bell .partner, d, i⟩) (h6 : ∀ i, P ⟨.bell .nRxMsg, d, i⟩) (h7 : ∀ i, P ⟨.bell .discRun, d, i⟩) (h8 : ∀ i, P ⟨.bell .discFailReason, d, i⟩) (h9 : ∀ i, P ⟨.sticky .bellDiscFail, d, i⟩) (h10 : ∀ i, P ⟨.live .bellDiscFail, d, i⟩) (h11 : ∀ i, P ⟨.bell .discState, d, i⟩) (h12 : ∀ i, P ⟨.boot .procCalled, 0, i⟩) (h13 : ∀ i, P ⟨.boot .procCode, 0, i⟩) (h14 : ∀ i, P ⟨.boot .procDone, 0, i⟩) (h15 : ∀ i, P ⟨.bell .descOk, d, i⟩) (h16 : ∀ i, P ⟨.lr .peerSeed, d, i⟩) (h17 : ∀ i, P ⟨.bell .peerValid, d, i⟩) (h18 : ∀ i, P ⟨.lt .muteCause, d, i⟩) (h19 : ∀ i, P ⟨.lt .ramp, d, i⟩) (h20 : ∀ i, P ⟨.lt .txState, d, i⟩) (h21 : ∀ i, P ⟨.lt .otherCause, d, i⟩) (h22 : ∀ i, P ⟨.bias .ptState, d, i⟩) (h23 : ∀ i, P ⟨.bias .ptAcq, d, i⟩) (h24 : ∀ i, P ⟨.bias .ptV, d, i⟩) (h25 : ∀ i, P ⟨.bias .ptBase, d, i⟩) (h26 : ∀ i, P ⟨.lt .nMuteEnter, d, i⟩) (h27 : ∀ i, P ⟨.lt .begun4, d, i⟩) (h28 : ∀ i, P ⟨.sticky .ltTxDown, d, i⟩) (h29 : ∀ i, P ⟨.live .ltTxDown, d, i⟩) (h30 : ∀ i, P ⟨.lt .excess, d, i⟩) (h31 : ∀ i, P ⟨.lt .bank, d, i⟩) (h32 : ∀ i, P ⟨.lr .compHi, d, i⟩) (h33 : ∀ i, P ⟨.lr .compLo, d, i⟩) (h34 : ∀ i, P ⟨.lr .netK, d, i⟩) (h35 : ∀ i, P ⟨.lr .rolloff, d, i⟩) (h36 : ∀ i, P ⟨.lr .fecRate, d, i⟩) (h37 : ∀ i, P ⟨.lr .pilotGain, d, i⟩) (h38 : ∀ i, P ⟨.lr .entropy, d, i⟩) (h39 : ∀ i, P ⟨.lr .const, d, i⟩) (h40 : ∀ i, P ⟨.lr .rs, d, i⟩) (h41 : ∀ i, P ⟨.lr .lineStd, d, i⟩) (h42 : ∀ i, P ⟨.lt .compHi, d, i⟩) (h43 : ∀ i, P ⟨.lt .compLo, d, i⟩) (h44 : ∀ i, P ⟨.lt .netK, d, i⟩) (h45 : ∀ i, P ⟨.lt .rolloff, d, i⟩) (h46 : ∀ i, P ⟨.lt .fecRate, d, i⟩) (h47 : ∀ i, P ⟨.lt .pilotGain, d, i⟩) (h48 : ∀ i, P ⟨.lt .nlpdBank, d, i⟩) (h49 : ∀ i, P ⟨.lt .entropy, d, i⟩) (h50 : ∀ i, P ⟨.lt .const, d, i⟩) (h51 : ∀ i, P ⟨.lt .rs, d, i⟩) (h52 : ∀ i, P ⟨.lt .lineStd, d, i⟩) (h53 : ∀ i, P ⟨.win .bellDesc, d, i⟩) (h54 : ∀ i, P ⟨.sticky .bellTxBlocked, d, i⟩) (h55 : ∀ i, P ⟨.bell .pend, d, i⟩) (h56 : ∀ i, P ⟨.live .bellTxBlocked, d, i⟩) (h57 : ∀ i, P ⟨.bell .txState, d, i⟩) (h58 : ∀ i, P ⟨.sticky .bellPeerChange, d, i⟩) (qreports : Q .reports) :
    Reach P Q s0 (State.helloTake s d m desc compat) := by
  unfold State.helloTake
  repeat' with_reducible first | assumption | apply State.bellDisc_reach | apply State.set_reach | apply State.setB_reach | apply State.inc_reach | apply State.discFail_reach | apply State.descPass_reach | apply State.descCheck_reach | apply State.descStore_reach | apply State.bellQueue_reach | apply State.bellTake_reach | apply State.event_reach | (intros; show P _ = true; apply_assumption) | split | dsimp only | intro _

theorem State.gaspTake_reach {d : Nat} {m : Sys2Proof.BellMsg} {reason : Nat} {loc : Nat} (hs : Reach P Q s0 s) (h1 : ∀ i, P ⟨.sticky .bellGaspRx, d, i⟩) (h2 : ∀ i, P ⟨.bell .gaspLoc, d, i⟩) (h3 : ∀ i, P ⟨.bell .gaspReason, d, i⟩) (h4 : ∀ i, P ⟨.bell .gaspSender, d, i⟩) (h5 : ∀ i, P ⟨.bell .gaspCarrier, d, i⟩) (h6 : ∀ i, P ⟨.bell .gaspValid, d, i⟩) (h7 : ∀ i, P ⟨.bell .nRxMsg, d, i⟩) (h8 : ∀ i, P ⟨.bell .peerParked, d, i⟩) (qreports : Q .reports) :
    Reach P Q s0 (State.gaspTake s d m reason loc) := by
  unfold State.gaspTake
  repeat' with_reducible first | assumption | apply State.event_reach | apply State.set_reach | apply State.bellTake_reach | (intros; show P _ = true; apply_assumption) | split | dsimp only | intro _

theorem State.wakeTake_reach {d : Nat} {m : Sys2Proof.BellMsg} (hs : Reach P Q s0 s) (h1 : ∀ i, P ⟨.bell .wakeReq, d, i⟩) (h2 : ∀ i, P ⟨.bell .lastWake, d, i⟩) (h3 : ∀ i, P ⟨.bell .nWakeRx, d, i⟩) (h4 : ∀ i, P ⟨.bell .nRxMsg, d, i⟩) (h5 : ∀ i, P ⟨.bell .peerParked, d, i⟩) (h6 : ∀ i, P ⟨.bell .nRxDisc, d, i⟩) :
    Reach P Q s0 (State.wakeTake s d m) := by
  unfold State.wakeTake
  repeat' with_reducible first | assumption | apply State.set_reach | apply State.inc_reach | apply State.bellTake_reach | apply State.when_reach | apply State.bellDisc_reach | (intros; show P _ = true; apply_assumption) | split | dsimp only | intro _

theorem execBellCompatRx_reach {d : Nat} {ok : Bool} {type : Nat} {m : Sys2Proof.BellMsg} {reason : Nat} (hs : Reach P Q s0 s) (hsum : ∀ k, k.cell.summary → P k) (h11 : ∀ i, P ⟨.bell .rxCompat, d, i⟩) (h12 : ∀ i, P ⟨.bell .rxSlow, d, i⟩) (h13 : ∀ i, P ⟨.bell .agcFrozen, d, i⟩) (h14 : ∀ i, P ⟨.bell .rxState, d, i⟩) (h15 : ∀ i, P ⟨.bell .nCrcFail, d, i⟩) (h16 : ∀ i, P ⟨.bell .nCompatRx, d, i⟩) (h17 : ∀ i, P ⟨.bell .peerCompat, d, i⟩) (h18 : ∀ i, P ⟨.bell .nRxDisc, d, i⟩) (h19 : ∀ i, P ⟨.bell .peerParked, d, i⟩) (h20 : ∀ i, P ⟨.bell .farCarrier, d, i⟩) (h21 : ∀ i, P ⟨.bell .partner, d, i⟩) (h22 : ∀ i, P ⟨.bell .nRxMsg, d, i⟩) (h23 : ∀ i, P ⟨.bell .discRun, d, i⟩) (h24 : ∀ i, P ⟨.bell .discFailReason, d, i⟩) (h25 : ∀ i, P ⟨.sticky .bellDiscFail, d, i⟩) (h26 : ∀ i, P ⟨.live .bellDiscFail, d, i⟩) (h27 : ∀ i, P ⟨.bell .discState, d, i⟩) (h28 : ∀ i, P ⟨.boot .procCalled, 0, i⟩) (h29 : ∀ i, P ⟨.boot .procCode, 0, i⟩) (h30 : ∀ i, P ⟨.boot .procDone, 0, i⟩) (h31 : ∀ i, P ⟨.bell .descOk, d, i⟩) (h32 : ∀ i, P ⟨.lr .peerSeed, d, i⟩) (h33 : ∀ i, P ⟨.bell .peerValid, d, i⟩) (h34 : ∀ i, P ⟨.lt .muteCause, d, i⟩) (h35 : ∀ i, P ⟨.lt .ramp, d, i⟩) (h36 : ∀ i, P ⟨.lt .txState, d, i⟩) (h37 : ∀ i, P ⟨.lt .otherCause, d, i⟩) (h38 : ∀ i, P ⟨.bias .ptState, d, i⟩) (h39 : ∀ i, P ⟨.bias .ptAcq, d, i⟩) (h40 : ∀ i, P ⟨.bias .ptV, d, i⟩) (h41 : ∀ i, P ⟨.bias .ptBase, d, i⟩) (h42 : ∀ i, P ⟨.lt .nMuteEnter, d, i⟩) (h43 : ∀ i, P ⟨.lt .begun4, d, i⟩) (h44 : ∀ i, P ⟨.sticky .ltTxDown, d, i⟩) (h45 : ∀ i, P ⟨.live .ltTxDown, d, i⟩) (h46 : ∀ i, P ⟨.lt .excess, d, i⟩) (h47 : ∀ i, P ⟨.lt .bank, d, i⟩) (h48 : ∀ i, P ⟨.lr .compHi, d, i⟩) (h49 : ∀ i, P ⟨.lr .compLo, d, i⟩) (h50 : ∀ i, P ⟨.lr .netK, d, i⟩) (h51 : ∀ i, P ⟨.lr .rolloff, d, i⟩) (h52 : ∀ i, P ⟨.lr .fecRate, d, i⟩) (h53 : ∀ i, P ⟨.lr .pilotGain, d, i⟩) (h54 : ∀ i, P ⟨.lr .entropy, d, i⟩) (h55 : ∀ i, P ⟨.lr .const, d, i⟩) (h56 : ∀ i, P ⟨.lr .rs, d, i⟩) (h57 : ∀ i, P ⟨.lr .lineStd, d, i⟩) (h58 : ∀ i, P ⟨.lt .compHi, d, i⟩) (h59 : ∀ i, P ⟨.lt .compLo, d, i⟩) (h60 : ∀ i, P ⟨.lt .netK, d, i⟩) (h61 : ∀ i, P ⟨.lt .rolloff, d, i⟩) (h62 : ∀ i, P ⟨.lt .fecRate, d, i⟩) (h63 : ∀ i, P ⟨.lt .pilotGain, d, i⟩) (h64 : ∀ i, P ⟨.lt .nlpdBank, d, i⟩) (h65 : ∀ i, P ⟨.lt .entropy, d, i⟩) (h66 : ∀ i, P ⟨.lt .const, d, i⟩) (h67 : ∀ i, P ⟨.lt .rs, d, i⟩) (h68 : ∀ i, P ⟨.lt .lineStd, d, i⟩) (h69 : ∀ i, P ⟨.win .bellDesc, d, i⟩) (h70 : ∀ i, P ⟨.sticky .bellTxBlocked, d, i⟩) (h71 : ∀ i, P ⟨.bell .pend, d, i⟩) (h72 : ∀ i, P ⟨.live .bellTxBlocked, d, i⟩) (h73 : ∀ i, P ⟨.bell .txState, d, i⟩) (h74 : ∀ i, P ⟨.sticky .bellPeerChange, d, i⟩) (h75 : ∀ i, P ⟨.sys .freeCount, 0, i⟩) (h76 : ∀ i, P ⟨.sticky .bellGaspRx, d, i⟩) (h77 : ∀ i, P ⟨.bell .gaspLoc, d, i⟩) (h78 : ∀ i, P ⟨.bell .gaspReason, d, i⟩) (h79 : ∀ i, P ⟨.bell .gaspSender, d, i⟩) (h80 : ∀ i, P ⟨.bell .gaspCarrier, d, i⟩) (h81 : ∀ i, P ⟨.bell .gaspValid, d, i⟩) (h82 : ∀ i, P ⟨.bell .wakeReq, d, i⟩) (h83 : ∀ i, P ⟨.bell .lastWake, d, i⟩) (h84 : ∀ i, P ⟨.bell .nWakeRx, d, i⟩) (qreports : Q .reports) :
    ∃ t, execBellCompatRx d ok type m reason s = .next t ∧ Reach P Q s0 t := by
  unfold execBellCompatRx
  repeat' with_reducible first | assumption | apply finishIf_reach | apply State.bellIdle_reach | apply State.inc_reach | apply State.when_reach | apply State.set_reach | apply State.helloTake_reach | apply State.used_reach | apply State.gaspTake_reach | apply State.wakeTake_reach | apply State.bellDisc_reach | (intros; show P _ = true; first | exact hsum _ rfl | (clear hsum; apply_assumption)) | split | dsimp only | intro _

theorem State.discStart_reach {d : Nat} {node : Nat} {tolerate : Bool} (hs : Reach P Q s0 s) (h1 : ∀ i, P ⟨.bell .discFailReason, d, i⟩) (h2 : ∀ i, P ⟨.bell .descOk, d, i⟩) (h3 : ∀ i, P ⟨.bell .partner, d, i⟩) (h4 : ∀ i, P ⟨.bell .farCarrier, d, i⟩) (h5 : ∀ i, P ⟨.bell .peerParked, d, i⟩) (h6 : ∀ i, P ⟨.bell .peerCompat, d, i⟩) (h7 : ∀ i, P ⟨.bell .peerValid, d, i⟩) (h8 : ∀ i, P ⟨.bell .discRun, d, i⟩) (h9 : ∀ i, P ⟨.bell .tolerate, d, i⟩) (h10 : ∀ i, P ⟨.bell .expNode, d, i⟩) (h11 : ∀ i, P ⟨.sticky .bellDiscFail, d, i⟩) (h12 : ∀ i, P ⟨.live .bellDiscFail, d, i⟩) (h13 : ∀ i, P ⟨.bell .discState, d, i⟩) (h14 : ∀ i, P ⟨.sticky .bellTxBlocked, d, i⟩) (h15 : ∀ i, P ⟨.bell .pend, d, i⟩) (h16 : ∀ i, P ⟨.live .bellTxBlocked, d, i⟩) (h17 : ∀ i, P ⟨.bell .txState, d, i⟩) (h18 : ∀ i, P ⟨.boot .procCalled, 0, i⟩) (h19 : ∀ i, P ⟨.boot .procCode, 0, i⟩) (h20 : ∀ i, P ⟨.boot .procDone, 0, i⟩) (qreports : Q .reports) :
    Reach P Q s0 (State.discStart s d node tolerate) := by
  unfold State.discStart
  repeat' with_reducible first | assumption | apply State.set_reach | apply State.setB_reach | apply State.discSet_reach | apply State.bellQueue_reach | apply State.discFail_reach | (intros; show P _ = true; apply_assumption) | split | dsimp only | intro _

theorem execDerRediscoverTimer_reach {d : Nat} (hs : Reach P Q s0 s) (hsum : ∀ k, k.cell.summary → P k) (h11 : ∀ i, P ⟨.bell .discFailReason, d, i⟩) (h12 : ∀ i, P ⟨.bell .descOk, d, i⟩) (h13 : ∀ i, P ⟨.bell .partner, d, i⟩) (h14 : ∀ i, P ⟨.bell .farCarrier, d, i⟩) (h15 : ∀ i, P ⟨.bell .peerParked, d, i⟩) (h16 : ∀ i, P ⟨.bell .peerCompat, d, i⟩) (h17 : ∀ i, P ⟨.bell .peerValid, d, i⟩) (h18 : ∀ i, P ⟨.bell .discRun, d, i⟩) (h19 : ∀ i, P ⟨.bell .tolerate, d, i⟩) (h20 : ∀ i, P ⟨.bell .expNode, d, i⟩) (h21 : ∀ i, P ⟨.sticky .bellDiscFail, d, i⟩) (h22 : ∀ i, P ⟨.live .bellDiscFail, d, i⟩) (h23 : ∀ i, P ⟨.bell .discState, d, i⟩) (h24 : ∀ i, P ⟨.sticky .bellTxBlocked, d, i⟩) (h25 : ∀ i, P ⟨.bell .pend, d, i⟩) (h26 : ∀ i, P ⟨.live .bellTxBlocked, d, i⟩) (h27 : ∀ i, P ⟨.bell .txState, d, i⟩) (h28 : ∀ i, P ⟨.boot .procCalled, 0, i⟩) (h29 : ∀ i, P ⟨.boot .procCode, 0, i⟩) (h30 : ∀ i, P ⟨.boot .procDone, 0, i⟩) (h31 : ∀ i, P ⟨.der .returned, d, i⟩) (qreports : Q .reports) :
    ∃ t, execDerRediscoverTimer d s = .next t ∧ Reach P Q s0 t := by
  unfold execDerRediscoverTimer
  repeat' with_reducible first | assumption | apply finishIf_reach | apply State.discStart_reach | apply State.set_reach | (intros; show P _ = true; first | exact hsum _ rfl | (clear hsum; apply_assumption)) | split | dsimp only | intro _

theorem execBellNoiseUpdate_reach {d : Nat} {noise : Int} (hs : Reach P Q s0 s) (hsum : ∀ k, k.cell.summary → P k) (h11 : ∀ i, P ⟨.bell .noise, d, i⟩) (qreports : Q .reports) :
    ∃ t, execBellNoiseUpdate d noise s = .next t ∧ Reach P Q s0 t := by
  unfold execBellNoiseUpdate
  repeat' with_reducible first | assumption | apply finishIf_reach | apply State.set_reach | (intros; show P _ = true; first | exact hsum _ rfl | (clear hsum; apply_assumption)) | split | dsimp only | intro _

theorem State.bellOffer_reach {d : Nat} {m : Sys2Proof.BellMsg} {hello : Bool} {f : State → State} (hs : Reach P Q s0 s) (h1 : ∀ i, P ⟨.bell .offered, d, i⟩) (h2 : ∀ i, P ⟨.bell .nRxDisc, d, i⟩) (hf : ∀ x, Reach P Q s0 x → Reach P Q s0 (f x)) :
    Reach P Q s0 (State.bellOffer s d m hello f) := by
  unfold State.bellOffer
  repeat' with_reducible first | assumption | apply State.set_reach | apply State.bellDisc_reach | apply hf | (intros; show P _ = true; apply_assumption) | split | dsimp only | intro _

theorem execBellWakeRx_reach {d : Nat} {m : Sys2Proof.BellMsg} (hs : Reach P Q s0 s) (hsum : ∀ k, k.cell.summary → P k) (h11 : ∀ i, P ⟨.bell .offered, d, i⟩) (h12 : ∀ i, P ⟨.bell .nRxDisc, d, i⟩) (h13 : ∀ i, P ⟨.bell .wakeReq, d, i⟩) (h14 : ∀ i, P ⟨.bell .lastWake, d, i⟩) (h15 : ∀ i, P ⟨.bell .nWakeRx, d, i⟩) (h16 : ∀ i, P ⟨.bell .nRxMsg, d, i⟩) (h17 : ∀ i, P ⟨.bell .peerParked, d, i⟩) (qreports : Q .reports) :
    ∃ t, execBellWakeRx d m s = .next t ∧ Reach P Q s0 t := by
  unfold execBellWakeRx
  repeat' with_reducible first | assumption | apply finishIf_reach | apply State.bellOffer_reach | apply State.wakeTake_reach | (intros; show P _ = true; first | exact hsum _ rfl | (clear hsum; apply_assumption)) | split | dsimp only | intro _

theorem execBellTxDone_reach {d : Nat} (hs : Reach P Q s0 s) (h1 : ∀ k, P k) (qreports : Q .reports) (qmbox : Q .mbox) (qheld : Q .held) (qtickets : Q .tickets) (qrun : Q .run) (qpolicy : Q .policy) (qimgPolicy : Q .imgPolicy) (qtrust : Q .trust) (qcands : Q .cands) (qtelOut : Q .telOut) (qclsTab : Q .clsTab) (qstaged : Q .staged) (qrings : Q .rings) (qtracker : Q .tracker) (qretireQ : Q .retireQ) (qmerge : Q .merge) (qdescs : Q .descs) (qkch : Q .kch) (qfups : Q .fups) :
    ∃ t, execBellTxDone d s = .next t ∧ Reach P Q s0 t := by
  unfold execBellTxDone
  repeat' with_reducible first | assumption | apply finishIf_reach | apply State.restartFollow_reach | apply State.bellFollow_reach | apply State.bellStop_reach | apply State.inc_reach | (intros; show P _ = true; first | exact h1 _ | apply_assumption) | split | dsimp only | intro _

theorem execBellLastGaspRx_reach {d : Nat} {m : Sys2Proof.BellMsg} {reason : Nat} {loc : Nat} (hs : Reach P Q s0 s) (hsum : ∀ k, k.cell.summary → P k) (h11 : ∀ i, P ⟨.bell .offered, d, i⟩) (h12 : ∀ i, P ⟨.bell .nRxDisc, d, i⟩) (h13 : ∀ i, P ⟨.sticky .bellGaspRx, d, i⟩) (h14 : ∀ i, P ⟨.bell .gaspLoc, d, i⟩) (h15 : ∀ i, P ⟨.bell .gaspReason, d, i⟩) (h16 : ∀ i, P ⟨.bell .gaspSender, d, i⟩) (h17 : ∀ i, P ⟨.bell .gaspCarrier, d, i⟩) (h18 : ∀ i, P ⟨.bell .gaspValid, d, i⟩) (h19 : ∀ i, P ⟨.bell .nRxMsg, d, i⟩) (h20 : ∀ i, P ⟨.bell .peerParked, d, i⟩) (qreports : Q .reports) :
    ∃ t, execBellLastGaspRx d m reason loc s = .next t ∧ Reach P Q s0 t := by
  unfold execBellLastGaspRx
  repeat' with_reducible first | assumption | apply finishIf_reach | apply State.bellOffer_reach | apply State.gaspTake_reach | (intros; show P _ = true; first | exact hsum _ rfl | (clear hsum; apply_assumption)) | split | dsimp only | intro _

theorem execBellParkedRx_reach {d : Nat} {m : Sys2Proof.BellMsg} (hs : Reach P Q s0 s) (hsum : ∀ k, k.cell.summary → P k) (h11 : ∀ i, P ⟨.bell .offered, d, i⟩) (h12 : ∀ i, P ⟨.bell .nRxDisc, d, i⟩) (h13 : ∀ i, P ⟨.bell .nRxMsg, d, i⟩) (h14 : ∀ i, P ⟨.bell .peerParked, d, i⟩) (qreports : Q .reports) :
    ∃ t, execBellParkedRx d m s = .next t ∧ Reach P Q s0 t := by
  unfold execBellParkedRx
  repeat' with_reducible first | assumption | apply finishIf_reach | apply State.bellOffer_reach | apply State.when_reach | apply State.inc_reach | apply State.set_reach | (intros; show P _ = true; first | exact hsum _ rfl | (clear hsum; apply_assumption)) | split | dsimp only | intro _

theorem execBellHelloRx_reach {d : Nat} {m : Sys2Proof.BellMsg} {desc : List Nat} (hs : Reach P Q s0 s) (hsum : ∀ k, k.cell.summary → P k) (h11 : ∀ i, P ⟨.bell .offered, d, i⟩) (h12 : ∀ i, P ⟨.bell .nRxDisc, d, i⟩) (h13 : ∀ i, P ⟨.bell .peerParked, d, i⟩) (h14 : ∀ i, P ⟨.bell .peerCompat, d, i⟩) (h15 : ∀ i, P ⟨.bell .farCarrier, d, i⟩) (h16 : ∀ i, P ⟨.bell .partner, d, i⟩) (h17 : ∀ i, P ⟨.bell .nRxMsg, d, i⟩) (h18 : ∀ i, P ⟨.bell .discRun, d, i⟩) (h19 : ∀ i, P ⟨.bell .discFailReason, d, i⟩) (h20 : ∀ i, P ⟨.sticky .bellDiscFail, d, i⟩) (h21 : ∀ i, P ⟨.live .bellDiscFail, d, i⟩) (h22 : ∀ i, P ⟨.bell .discState, d, i⟩) (h23 : ∀ i, P ⟨.boot .procCalled, 0, i⟩) (h24 : ∀ i, P ⟨.boot .procCode, 0, i⟩) (h25 : ∀ i, P ⟨.boot .procDone, 0, i⟩) (h26 : ∀ i, P ⟨.bell .descOk, d, i⟩) (h27 : ∀ i, P ⟨.lr .peerSeed, d, i⟩) (h28 : ∀ i, P ⟨.bell .peerValid, d, i⟩) (h29 : ∀ i, P ⟨.lt .muteCause, d, i⟩) (h30 : ∀ i, P ⟨.lt .ramp, d, i⟩) (h31 : ∀ i, P ⟨.lt .txState, d, i⟩) (h32 : ∀ i, P ⟨.lt .otherCause, d, i⟩) (h33 : ∀ i, P ⟨.bias .ptState, d, i⟩) (h34 : ∀ i, P ⟨.bias .ptAcq, d, i⟩) (h35 : ∀ i, P ⟨.bias .ptV, d, i⟩) (h36 : ∀ i, P ⟨.bias .ptBase, d, i⟩) (h37 : ∀ i, P ⟨.lt .nMuteEnter, d, i⟩) (h38 : ∀ i, P ⟨.lt .begun4, d, i⟩) (h39 : ∀ i, P ⟨.sticky .ltTxDown, d, i⟩) (h40 : ∀ i, P ⟨.live .ltTxDown, d, i⟩) (h41 : ∀ i, P ⟨.lt .excess, d, i⟩) (h42 : ∀ i, P ⟨.lt .bank, d, i⟩) (h43 : ∀ i, P ⟨.lr .compHi, d, i⟩) (h44 : ∀ i, P ⟨.lr .compLo, d, i⟩) (h45 : ∀ i, P ⟨.lr .netK, d, i⟩) (h46 : ∀ i, P ⟨.lr .rolloff, d, i⟩) (h47 : ∀ i, P ⟨.lr .fecRate, d, i⟩) (h48 : ∀ i, P ⟨.lr .pilotGain, d, i⟩) (h49 : ∀ i, P ⟨.lr .entropy, d, i⟩) (h50 : ∀ i, P ⟨.lr .const, d, i⟩) (h51 : ∀ i, P ⟨.lr .rs, d, i⟩) (h52 : ∀ i, P ⟨.lr .lineStd, d, i⟩) (h53 : ∀ i, P ⟨.lt .compHi, d, i⟩) (h54 : ∀ i, P ⟨.lt .compLo, d, i⟩) (h55 : ∀ i, P ⟨.lt .netK, d, i⟩) (h56 : ∀ i, P ⟨.lt .rolloff, d, i⟩) (h57 : ∀ i, P ⟨.lt .fecRate, d, i⟩) (h58 : ∀ i, P ⟨.lt .pilotGain, d, i⟩) (h59 : ∀ i, P ⟨.lt .nlpdBank, d, i⟩) (h60 : ∀ i, P ⟨.lt .entropy, d, i⟩) (h61 : ∀ i, P ⟨.lt .const, d, i⟩) (h62 : ∀ i, P ⟨.lt .rs, d, i⟩) (h63 : ∀ i, P ⟨.lt .lineStd, d, i⟩) (h64 : ∀ i, P ⟨.win .bellDesc, d, i⟩) (h65 : ∀ i, P ⟨.sticky .bellTxBlocked, d, i⟩) (h66 : ∀ i, P ⟨.bell .pend, d, i⟩) (h67 : ∀ i, P ⟨.live .bellTxBlocked, d, i⟩) (h68 : ∀ i, P ⟨.bell .txState, d, i⟩) (h69 : ∀ i, P ⟨.sticky .bellPeerChange, d, i⟩) (qreports : Q .reports) :
    ∃ t, execBellHelloRx d m desc s = .next t ∧ Reach P Q s0 t := by
  unfold execBellHelloRx
  repeat' with_reducible first | assumption | apply finishIf_reach | apply State.bellOffer_reach | apply State.helloTake_reach | (intros; show P _ = true; first | exact hsum _ rfl | (clear hsum; apply_assumption)) | split | dsimp only | intro _

theorem execBellHelloTimer_reach {d : Nat} (hs : Reach P Q s0 s) (hsum : ∀ k, k.cell.summary → P k) (h11 : ∀ i, P ⟨.sticky .bellTxBlocked, d, i⟩) (h12 : ∀ i, P ⟨.bell .pend, d, i⟩) (h13 : ∀ i, P ⟨.live .bellTxBlocked, d, i⟩) (h14 : ∀ i, P ⟨.bell .txState, d, i⟩) (qreports : Q .reports) :
    ∃ t, execBellHelloTimer d s = .next t ∧ Reach P Q s0 t := by
  unfold execBellHelloTimer
  repeat' with_reducible first | assumption | apply finishIf_reach | apply State.bellQueue_reach | (intros; show P _ = true; first | exact hsum _ rfl | (clear hsum; apply_assumption)) | split | dsimp only | intro _

theorem execBellDiscoverTimeout_reach {d : Nat} (hs : Reach P Q s0 s) (hsum : ∀ k, k.cell.summary → P k) (h11 : ∀ i, P ⟨.bell .discRun, d, i⟩) (h12 : ∀ i, P ⟨.bell .discFailReason, d, i⟩) (h13 : ∀ i, P ⟨.sticky .bellDiscFail, d, i⟩) (h14 : ∀ i, P ⟨.live .bellDiscFail, d, i⟩) (h15 : ∀ i, P ⟨.bell .discState, d, i⟩) (h16 : ∀ i, P ⟨.boot .procCalled, 0, i⟩) (h17 : ∀ i, P ⟨.boot .procCode, 0, i⟩) (h18 : ∀ i, P ⟨.boot .procDone, 0, i⟩) (qreports : Q .reports) :
    ∃ t, execBellDiscoverTimeout d s = .next t ∧ Reach P Q s0 t := by
  unfold execBellDiscoverTimeout
  repeat' with_reducible first | assumption | apply finishIf_reach | apply State.discFail_reach | (intros; show P _ = true; first | exact hsum _ rfl | (clear hsum; apply_assumption)) | split | dsimp only | intro _

theorem execBellNotAvailableTimeout_reach {d : Nat} (hs : Reach P Q s0 s) (hsum : ∀ k, k.cell.summary → P k) (h11 : ∀ i, P ⟨.bell .discRun, d, i⟩) (h12 : ∀ i, P ⟨.bell .discFailReason, d, i⟩) (h13 : ∀ i, P ⟨.sticky .bellDiscFail, d, i⟩) (h14 : ∀ i, P ⟨.live .bellDiscFail, d, i⟩) (h15 : ∀ i, P ⟨.bell .discState, d, i⟩) (h16 : ∀ i, P ⟨.boot .procCalled, 0, i⟩) (h17 : ∀ i, P ⟨.boot .procCode, 0, i⟩) (h18 : ∀ i, P ⟨.boot .procDone, 0, i⟩) (qreports : Q .reports) :
    ∃ t, execBellNotAvailableTimeout d s = .next t ∧ Reach P Q s0 t := by
  unfold execBellNotAvailableTimeout
  repeat' with_reducible first | assumption | apply finishIf_reach | apply State.discFail_reach | (intros; show P _ = true; first | exact hsum _ rfl | (clear hsum; apply_assumption)) | split | dsimp only | intro _

theorem State.bellHeaderIn_reach {d : Nat} {rssi : Int} {compat : Bool} (hs : Reach P Q s0 s) (h1 : ∀ i, P ⟨.bell .rxCompat, d, i⟩) (h2 : ∀ i, P ⟨.bell .rssi, d, i⟩) (h3 : ∀ i, P ⟨.bell .rxState, d, i⟩) :
    Reach P Q s0 (State.bellHeaderIn s d rssi compat) := by
  unfold State.bellHeaderIn
  repeat' with_reducible first | assumption | apply State.setB_reach | apply State.set_reach | (intros; show P _ = true; apply_assumption) | split | dsimp only | intro _

theorem execBellCapture_reach {d : Nat} {rssi : Int} {compat : Bool} (hs : Reach P Q s0 s) (hsum : ∀ k, k.cell.summary → P k) (h11 : ∀ i, P ⟨.bell .nCapture, d, i⟩) (h12 : ∀ i, P ⟨.bell .rxCompat, d, i⟩) (h13 : ∀ i, P ⟨.bell .rssi, d, i⟩) (h14 : ∀ i, P ⟨.bell .rxState, d, i⟩) (qreports : Q .reports) :
    ∃ t, execBellCapture d rssi compat s = .next t ∧ Reach P Q s0 t := by
  unfold execBellCapture
  repeat' with_reducible first | assumption | apply finishIf_reach | apply State.inc_reach | apply State.bellHeaderIn_reach | (intros; show P _ = true; first | exact hsum _ rfl | (clear hsum; apply_assumption)) | split | dsimp only | intro _

theorem execBellWakeTimer_reach {d : Nat} (hs : Reach P Q s0 s) (hsum : ∀ k, k.cell.summary → P k) (h11 : ∀ i, P ⟨.sticky .bellTxBlocked, d, i⟩) (h12 : ∀ i, P ⟨.bell .pend, d, i⟩) (h13 : ∀ i, P ⟨.live .bellTxBlocked, d, i⟩) (h14 : ∀ i, P ⟨.bell .txState, d, i⟩) (qreports : Q .reports) :
    ∃ t, execBellWakeTimer d s = .next t ∧ Reach P Q s0 t := by
  unfold execBellWakeTimer
  repeat' with_reducible first | assumption | apply finishIf_reach | apply State.bellQueue_reach | (intros; show P _ = true; first | exact hsum _ rfl | (clear hsum; apply_assumption)) | split | dsimp only | intro _

theorem execBellPathChange_reach {d : Nat} (hs : Reach P Q s0 s) (h1 : ∀ k, P k) (qreports : Q .reports) (qmbox : Q .mbox) (qheld : Q .held) (qtickets : Q .tickets) (qrun : Q .run) (qpolicy : Q .policy) (qimgPolicy : Q .imgPolicy) (qtrust : Q .trust) (qcands : Q .cands) (qtelOut : Q .telOut) (qclsTab : Q .clsTab) (qstaged : Q .staged) (qrings : Q .rings) (qtracker : Q .tracker) (qretireQ : Q .retireQ) (qmerge : Q .merge) (qdescs : Q .descs) (qkch : Q .kch) (qfups : Q .fups) :
    ∃ t, execBellPathChange d s = .next t ∧ Reach P Q s0 t := by
  unfold execBellPathChange
  repeat' with_reducible first | assumption | apply finishIf_reach | apply State.restartFollow_reach | apply State.bellFollow_reach | apply State.bellAbandon_reach | (intros; show P _ = true; first | exact h1 _ | apply_assumption) | split | dsimp only | intro _

theorem execBellDiscover_reach {d : Nat} (hs : Reach P Q s0 s) (hsum : ∀ k, k.cell.summary → P k) (h11 : ∀ i, P ⟨.bell .discFailReason, d, i⟩) (h12 : ∀ i, P ⟨.bell .descOk, d, i⟩) (h13 : ∀ i, P ⟨.bell .partner, d, i⟩) (h14 : ∀ i, P ⟨.bell .farCarrier, d, i⟩) (h15 : ∀ i, P ⟨.bell .peerParked, d, i⟩) (h16 : ∀ i, P ⟨.bell .peerCompat, d, i⟩) (h17 : ∀ i, P ⟨.bell .peerValid, d, i⟩) (h18 : ∀ i, P ⟨.bell .discRun, d, i⟩) (h19 : ∀ i, P ⟨.bell .tolerate, d, i⟩) (h20 : ∀ i, P ⟨.bell .expNode, d, i⟩) (h21 : ∀ i, P ⟨.sticky .bellDiscFail, d, i⟩) (h22 : ∀ i, P ⟨.live .bellDiscFail, d, i⟩) (h23 : ∀ i, P ⟨.bell .discState, d, i⟩) (h24 : ∀ i, P ⟨.sticky .bellTxBlocked, d, i⟩) (h25 : ∀ i, P ⟨.bell .pend, d, i⟩) (h26 : ∀ i, P ⟨.live .bellTxBlocked, d, i⟩) (h27 : ∀ i, P ⟨.bell .txState, d, i⟩) (h28 : ∀ i, P ⟨.boot .procCalled, 0, i⟩) (h29 : ∀ i, P ⟨.boot .procCode, 0, i⟩) (h30 : ∀ i, P ⟨.boot .procDone, 0, i⟩) (qreports : Q .reports) :
    ∃ t, execBellDiscover d s = .next t ∧ Reach P Q s0 t := by
  unfold execBellDiscover
  repeat' with_reducible first | assumption | apply finishIf_reach | apply State.discStart_reach | (intros; show P _ = true; first | exact hsum _ rfl | (clear hsum; apply_assumption)) | split | dsimp only | intro _

theorem execBellSyncTimeout_reach {d : Nat} (hs : Reach P Q s0 s) (hsum : ∀ k, k.cell.summary → P k) (h11 : ∀ i, P ⟨.bell .nFalseDet, d, i⟩) (h12 : ∀ i, P ⟨.bell .rxCompat, d, i⟩) (h13 : ∀ i, P ⟨.bell .rxSlow, d, i⟩) (h14 : ∀ i, P ⟨.bell .agcFrozen, d, i⟩) (h15 : ∀ i, P ⟨.bell .rxState, d, i⟩) (qreports : Q .reports) :
    ∃ t, execBellSyncTimeout d s = .next t ∧ Reach P Q s0 t := by
  unfold execBellSyncTimeout
  repeat' with_reducible first | assumption | apply finishIf_reach | apply State.inc_reach | apply State.bellIdle_reach | (intros; show P _ = true; first | exact hsum _ rfl | (clear hsum; apply_assumption)) | split | dsimp only | intro _

theorem execBellHeaderDone_reach {d : Nat} {ok : Bool} (hs : Reach P Q s0 s) (hsum : ∀ k, k.cell.summary → P k) (h11 : ∀ i, P ⟨.bell .rxState, d, i⟩) (h12 : ∀ i, P ⟨.bell .nFalseDet, d, i⟩) (h13 : ∀ i, P ⟨.bell .rxCompat, d, i⟩) (h14 : ∀ i, P ⟨.bell .rxSlow, d, i⟩) (h15 : ∀ i, P ⟨.bell .agcFrozen, d, i⟩) (qreports : Q .reports) :
    ∃ t, execBellHeaderDone d ok s = .next t ∧ Reach P Q s0 t := by
  unfold execBellHeaderDone
  repeat' with_reducible first | assumption | apply finishIf_reach | apply State.set_reach | apply State.inc_reach | apply State.bellIdle_reach | (intros; show P _ = true; first | exact hsum _ rfl | (clear hsum; apply_assumption)) | split | dsimp only | intro _

theorem execBellBodyDone_reach {d : Nat} {ok : Bool} (hs : Reach P Q s0 s) (hsum : ∀ k, k.cell.summary → P k) (h11 : ∀ i, P ⟨.bell .offered, d, i⟩) (h12 : ∀ i, P ⟨.bell .rxCompat, d, i⟩) (h13 : ∀ i, P ⟨.bell .rxSlow, d, i⟩) (h14 : ∀ i, P ⟨.bell .agcFrozen, d, i⟩) (h15 : ∀ i, P ⟨.bell .rxState, d, i⟩) (h16 : ∀ i, P ⟨.bell .nCrcFail, d, i⟩) (qreports : Q .reports) :
    ∃ t, execBellBodyDone d ok s = .next t ∧ Reach P Q s0 t := by
  unfold execBellBodyDone
  repeat' with_reducible first | assumption | apply finishIf_reach | apply State.set_reach | apply State.bellIdle_reach | apply State.inc_reach | (intros; show P _ = true; first | exact hsum _ rfl | (clear hsum; apply_assumption)) | split | dsimp only | intro _

theorem execBellSyncFound_reach {d : Nat} {rssi : Int} {compat : Bool} (hs : Reach P Q s0 s) (hsum : ∀ k, k.cell.summary → P k) (h11 : ∀ i, P ⟨.bell .rxCompat, d, i⟩) (h12 : ∀ i, P ⟨.bell .rssi, d, i⟩) (h13 : ∀ i, P ⟨.bell .rxState, d, i⟩) (qreports : Q .reports) :
    ∃ t, execBellSyncFound d rssi compat s = .next t ∧ Reach P Q s0 t := by
  unfold execBellSyncFound
  repeat' with_reducible first | assumption | apply finishIf_reach | apply State.bellHeaderIn_reach | (intros; show P _ = true; first | exact hsum _ rfl | (clear hsum; apply_assumption)) | split | dsimp only | intro _

theorem execBellTxMessageStart_reach {d : Nat} (hs : Reach P Q s0 s) (hsum : ∀ k, k.cell.summary → P k) (h11 : ∀ i, P ⟨.bell .codeUsed, d, i⟩) (h12 : ∀ i, P ⟨.bell .seqTx, d, i⟩) (h13 : ∀ i, P ⟨.bell .pend, d, i⟩) (h14 : ∀ i, P ⟨.bell .cur, d, i⟩) (h15 : ∀ i, P ⟨.bell .txSrc, d, i⟩) (h16 : ∀ i, P ⟨.sticky .bellTxBlocked, d, i⟩) (h17 : ∀ i, P ⟨.live .bellTxBlocked, d, i⟩) (h18 : ∀ i, P ⟨.bell .txState, d, i⟩) (h19 : ∀ i, P ⟨.bell .txCompat, d, i⟩) (h20 : ∀ i, P ⟨.bias .ptUnlRun, d, i⟩) (h21 : ∀ i, P ⟨.bias .ptLockRun, d, i⟩) (h22 : ∀ i, P ⟨.bias .ptBase, d, i⟩) (h23 : ∀ i, P ⟨.bias .ptTry, d, i⟩) (h24 : ∀ i, P ⟨.bias .ptV, d, i⟩) (h25 : ∀ i, P ⟨.bias .ptFirst, d, i⟩) (h26 : ∀ i, P ⟨.bias .nUnlock, d, i⟩) (h27 : ∀ i, P ⟨.bias .ptState, d, i⟩) (h28 : ∀ i, P ⟨.sys .freeCount, 0, i⟩) (h29 : ∀ i, P ⟨.bias .outMv, d, i⟩) (h30 : ∀ i, P ⟨.bias .ptLocked, d, i⟩) (h31 : ∀ i, P ⟨.bias .biasLock, d, i⟩) (h32 : ∀ i, P ⟨.sticky .biasNearRail, d, i⟩) (h33 : ∀ i, P ⟨.live .biasNearRail, d, i⟩) (h34 : ∀ i, P ⟨.sticky .biasRail, d, i⟩) (h35 : ∀ i, P ⟨.live .biasRail, d, i⟩) (h36 : ∀ i, P ⟨.sticky .biasOutFault, d, i⟩) (h37 : ∀ i, P ⟨.live .biasOutFault, d, i⟩) (h38 : ∀ i, P ⟨.sticky .biasUnlock, d, i⟩) (h39 : ∀ i, P ⟨.live .biasUnlock, d, i⟩) (h40 : ∀ i, P ⟨.lt .muteCause, d, i⟩) (h41 : ∀ i, P ⟨.lt .ramp, d, i⟩) (h42 : ∀ i, P ⟨.lt .txState, d, i⟩) (h43 : ∀ i, P ⟨.lt .otherCause, d, i⟩) (h44 : ∀ i, P ⟨.bias .ptAcq, d, i⟩) (h45 : ∀ i, P ⟨.lt .nMuteEnter, d, i⟩) (h46 : ∀ i, P ⟨.lt .begun4, d, i⟩) (h47 : ∀ i, P ⟨.sticky .ltTxDown, d, i⟩) (h48 : ∀ i, P ⟨.live .ltTxDown, d, i⟩) (qreports : Q .reports) :
    ∃ t, execBellTxMessageStart d s = .next t ∧ Reach P Q s0 t := by
  unfold execBellTxMessageStart
  repeat' with_reducible first | assumption | apply finishIf_reach | apply State.set_reach | apply State.bellPend_reach | apply State.bellFollow_reach | apply State.setB_reach | apply State.biasShow_reach | (intros; show P _ = true; first | exact hsum _ rfl | (clear hsum; apply_assumption)) | split | dsimp only | intro _

theorem execBellSignalFade_reach {d : Nat} (hs : Reach P Q s0 s) (hsum : ∀ k, k.cell.summary → P k) (h11 : ∀ i, P ⟨.bell .nFalseDet, d, i⟩) (h12 : ∀ i, P ⟨.bell .nCrcFail, d, i⟩) (h13 : ∀ i, P ⟨.bell .rxCompat, d, i⟩) (h14 : ∀ i, P ⟨.bell .rxSlow, d, i⟩) (h15 : ∀ i, P ⟨.bell .agcFrozen, d, i⟩) (h16 : ∀ i, P ⟨.bell .rxState, d, i⟩) (qreports : Q .reports) :
    ∃ t, execBellSignalFade d s = .next t ∧ Reach P Q s0 t := by
  unfold execBellSignalFade
  repeat' with_reducible first | assumption | apply finishIf_reach | apply State.inc_reach | apply State.bellIdle_reach | (intros; show P _ = true; first | exact hsum _ rfl | (clear hsum; apply_assumption)) | split | dsimp only | intro _

end Sys2Proof.Machine
end

