-- ==== Sys2Proof/Laws/MovesPower.lean ====
section
/-!
SUPPORT. What the operations of Machine/Power.lean may change, one lemma each (Laws/Reach.lean).
-/
namespace Sys2Proof.Machine

set_option linter.unusedTactic false
set_option linter.unreachableTactic false

variable {P : Key → Bool} {Q : Part → Bool} {s0 s : State}

theorem execPowerGood_reach (hs : Reach P Q s0 s) (hsum : ∀ k, k.cell.summary → P k) (h11 : ∀ i, P ⟨.sys .railsGood, 0, i⟩) (h12 : ∀ a i, P ⟨Cell.live a, 0, i⟩) (h13 : ∀ d i, P ⟨.live .biasUnlock, d, i⟩) (h14 : ∀ i, P ⟨.boot .step, 0, i⟩) (qreports : Q .reports) :
    ∃ t, execPowerGood s = .next t ∧ Reach P Q s0 t := by
  unfold execPowerGood
  repeat' with_reducible first | assumption | apply finishIf_reach | apply State.set_reach | apply State.each_reach | apply State.lower_reach | apply State.when_reach | (intros; show P _ = true; first | exact hsum _ rfl | (clear hsum; apply_assumption)) | split | dsimp only | intro _

theorem State.boundaryLoad_reach {l : List Bool} (hs : Reach P Q s0 s) (h1 : ∀ i, P ⟨.sys .jtagBr, 0, i⟩) :
    Reach P Q s0 (State.boundaryLoad s l) := by
  unfold State.boundaryLoad
  repeat' with_reducible first | assumption | apply State.each_reach | apply State.setB_reach | (intros; show P _ = true; apply_assumption) | split | dsimp only | intro _

theorem State.powerCut_reach {reason : Nat} (hs : Reach P Q s0 s) (h1 : ∀ k, P k) (qmbox : Q .mbox) (qreports : Q .reports) (qheld : Q .held) (qtickets : Q .tickets) (qrun : Q .run) (qpolicy : Q .policy) (qimgPolicy : Q .imgPolicy) (qtrust : Q .trust) (qcands : Q .cands) (qtelOut : Q .telOut) (qclsTab : Q .clsTab) (qstaged : Q .staged) (qrings : Q .rings) (qtracker : Q .tracker) (qretireQ : Q .retireQ) (qmerge : Q .merge) (qdescs : Q .descs) (qkch : Q .kch) (qfups : Q .fups) :
    Reach P Q s0 (State.powerCut s reason) := by
  unfold State.powerCut
  repeat' with_reducible first | assumption | apply State.each_reach | apply State.diesOff_reach | apply State.gaspQueue_reach | (intros; show P _ = true; apply_assumption) | split | dsimp only | intro _

theorem execTamperTrip_reach {sensor : Nat} (hs : Reach P Q s0 s) (h1 : ∀ k, P k) (qreports : Q .reports) (qmbox : Q .mbox) (qheld : Q .held) (qtickets : Q .tickets) (qrun : Q .run) (qpolicy : Q .policy) (qimgPolicy : Q .imgPolicy) (qtrust : Q .trust) (qcands : Q .cands) (qtelOut : Q .telOut) (qclsTab : Q .clsTab) (qstaged : Q .staged) (qrings : Q .rings) (qtracker : Q .tracker) (qretireQ : Q .retireQ) (qmerge : Q .merge) (qdescs : Q .descs) (qkch : Q .kch) (qfups : Q .fups) :
    ∃ t, execTamperTrip sensor s = .next t ∧ Reach P Q s0 t := by
  unfold execTamperTrip
  repeat' with_reducible first | assumption | apply finishIf_reach | apply State.raise_reach | apply State.powerCut_reach | apply State.setB_reach | apply State.set_reach | (intros; show P _ = true; first | exact h1 _ | apply_assumption) | split | dsimp only | intro _

theorem execPerstAssert_reach {done : List Nat} (hs : Reach P Q s0 s) (hsum : ∀ k, k.cell.summary → P k) (h11 : ∀ i, P ⟨.sys .perstN, 0, i⟩) (h12 : ∀ i, P ⟨.sys .pcieUp, 0, i⟩) (h13 : ∀ d i, P ⟨.crr .depth, d, i⟩) (h14 : ∀ d i, P ⟨.crr .doneBytes, d, i⟩) (h15 : ∀ d i, P ⟨.crr .descIdx, d, i⟩) (h16 : ∀ d i, P ⟨.crr .cls, d, i⟩) (h17 : ∀ d i, P ⟨.crr .state, d, i⟩) (h18 : ∀ d i, P ⟨.crr .nBytes, d, i⟩) (h19 : ∀ d i, P ⟨.crr .nFault, d, i⟩) (h20 : ∀ d i, P ⟨.crr .faultAddr, d, i⟩) (h21 : ∀ d i, P ⟨.crr .faultSpace, d, i⟩) (h22 : ∀ d i, P ⟨.crr .fault, d, i⟩) (h23 : ∀ d i, P ⟨.sticky .crrHalt, d, i⟩) (h24 : ∀ d i, P ⟨.live .crrHalt, d, i⟩) (h25 : ∀ d i, P ⟨.sticky .crrPcie, d, i⟩) (h26 : ∀ i, P ⟨.sys .msiEn, 0, i⟩) (h27 : ∀ i, P ⟨.sys .busMaster, 0, i⟩) (qreports : Q .reports) (qdescs : Q .descs) :
    ∃ t, execPerstAssert done s = .next t ∧ Reach P Q s0 t := by
  unfold execPerstAssert
  repeat' with_reducible first | assumption | apply finish_reach | apply State.set_reach | apply State.linkDown_reach | (intros; show P _ = true; first | exact hsum _ rfl | (clear hsum; apply_assumption)) | split | dsimp only | intro _

theorem State.restartOrHold_reach (hs : Reach P Q s0 s) (h1 : ∀ k, P k) (qmbox : Q .mbox) (qreports : Q .reports) (qheld : Q .held) (qtickets : Q .tickets) (qrun : Q .run) (qpolicy : Q .policy) (qimgPolicy : Q .imgPolicy) (qtrust : Q .trust) (qcands : Q .cands) (qtelOut : Q .telOut) (qclsTab : Q .clsTab) (qstaged : Q .staged) (qrings : Q .rings) (qtracker : Q .tracker) (qretireQ : Q .retireQ) (qmerge : Q .merge) (qdescs : Q .descs) (qkch : Q .kch) (qfups : Q .fups) :
    Reach P Q s0 (State.restartOrHold s) := by
  unfold State.restartOrHold
  repeat' with_reducible first | assumption | apply State.restart_reach | apply State.set_reach | apply State.toStep1_reach | (intros; show P _ = true; apply_assumption) | split | dsimp only | intro _

theorem State.linkTrain_reach {master : Bool} {msi : Bool} (hs : Reach P Q s0 s) (h1 : ∀ i, P ⟨.sys .msiEn, 0, i⟩) (h2 : ∀ i, P ⟨.sys .busMaster, 0, i⟩) (h3 : ∀ i, P ⟨.sys .pcieUp, 0, i⟩) :
    Reach P Q s0 (State.linkTrain s master msi) := by
  unfold State.linkTrain
  repeat' with_reducible first | assumption | apply State.setB_reach | apply State.set_reach | (intros; show P _ = true; apply_assumption) | split | dsimp only | intro _

theorem execJtagIdcode_reach (hs : Reach P Q s0 s) (hsum : ∀ k, k.cell.summary → P k) (h11 : ∀ i, P ⟨.sys .jtagIr, 0, i⟩) (qreports : Q .reports) (qreadData : Q .readData) :
    ∃ t, execJtagIdcode s = .next t ∧ Reach P Q s0 t := by
  unfold execJtagIdcode
  repeat' with_reducible first | assumption | apply finishIf_reach | apply State.set_reach | (intros; show P _ = true; first | exact hsum _ rfl | (clear hsum; apply_assumption)) | split | dsimp only | intro _ | apply State.readData_reach

theorem State.railWake_reach (hs : Reach P Q s0 s) (h1 : ∀ k, P k) (qmbox : Q .mbox) (qreports : Q .reports) (qheld : Q .held) (qtickets : Q .tickets) (qrun : Q .run) (qpolicy : Q .policy) (qimgPolicy : Q .imgPolicy) (qtrust : Q .trust) (qcands : Q .cands) (qtelOut : Q .telOut) (qclsTab : Q .clsTab) (qstaged : Q .staged) (qrings : Q .rings) (qtracker : Q .tracker) (qretireQ : Q .retireQ) (qmerge : Q .merge) (qdescs : Q .descs) (qkch : Q .kch) (qfups : Q .fups) :
    Reach P Q s0 (State.railWake s) := by
  unfold State.railWake
  repeat' with_reducible first | assumption | apply State.pkgWake_reach | (intros; show P _ = true; apply_assumption) | split | dsimp only | intro _

theorem execHvRailRecovered_reach (hs : Reach P Q s0 s) (h1 : ∀ k, P k) (qreports : Q .reports) (qmbox : Q .mbox) (qheld : Q .held) (qtickets : Q .tickets) (qrun : Q .run) (qpolicy : Q .policy) (qimgPolicy : Q .imgPolicy) (qtrust : Q .trust) (qcands : Q .cands) (qtelOut : Q .telOut) (qclsTab : Q .clsTab) (qstaged : Q .staged) (qrings : Q .rings) (qtracker : Q .tracker) (qretireQ : Q .retireQ) (qmerge : Q .merge) (qdescs : Q .descs) (qkch : Q .kch) (qfups : Q .fups) :
    ∃ t, execHvRailRecovered s = .next t ∧ Reach P Q s0 t := by
  unfold execHvRailRecovered
  repeat' with_reducible first | assumption | apply finishIf_reach | apply State.railWake_reach | apply State.clampSet_reach | apply State.each_reach | apply State.lower_reach | (intros; show P _ = true; first | exact h1 _ | apply_assumption) | split | dsimp only | intro _

theorem execSysRstRise_reach (hs : Reach P Q s0 s) (h1 : ∀ k, P k) (qreports : Q .reports) (qmbox : Q .mbox) (qheld : Q .held) (qtickets : Q .tickets) (qrun : Q .run) (qpolicy : Q .policy) (qimgPolicy : Q .imgPolicy) (qtrust : Q .trust) (qcands : Q .cands) (qtelOut : Q .telOut) (qclsTab : Q .clsTab) (qstaged : Q .staged) (qrings : Q .rings) (qtracker : Q .tracker) (qretireQ : Q .retireQ) (qmerge : Q .merge) (qdescs : Q .descs) (qkch : Q .kch) (qfups : Q .fups) :
    ∃ t, execSysRstRise s = .next t ∧ Reach P Q s0 t := by
  unfold execSysRstRise
  repeat' with_reducible first | assumption | apply finishIf_reach | apply State.set_reach | apply State.when_reach | apply State.restart_reach | (intros; show P _ = true; first | exact h1 _ | apply_assumption) | split | dsimp only | intro _

theorem State.railBad_reach {a : Alm} (hs : Reach P Q s0 s) (h1 : ∀ i, P ⟨.ao .nPgFail, 0, i⟩) (h2 : ∀ i, P ⟨Cell.sticky a, 0, i⟩) (h3 : ∀ i, P ⟨Cell.live a, 0, i⟩) (qreports : Q .reports) :
    Reach P Q s0 (State.railBad s a) := by
  unfold State.railBad
  repeat' with_reducible first | assumption | apply State.inc_reach | apply State.raise_reach | (intros; show P _ = true; apply_assumption) | split | dsimp only | intro _

theorem execRailFail_reach {rail : Nat} {tamper : Bool} (hs : Reach P Q s0 s) (h1 : ∀ k, P k) (qreports : Q .reports) (qmbox : Q .mbox) (qheld : Q .held) (qtickets : Q .tickets) (qrun : Q .run) (qpolicy : Q .policy) (qimgPolicy : Q .imgPolicy) (qtrust : Q .trust) (qcands : Q .cands) (qtelOut : Q .telOut) (qclsTab : Q .clsTab) (qstaged : Q .staged) (qrings : Q .rings) (qtracker : Q .tracker) (qretireQ : Q .retireQ) (qmerge : Q .merge) (qdescs : Q .descs) (qkch : Q .kch) (qfups : Q .fups) :
    ∃ t, execRailFail rail tamper s = .next t ∧ Reach P Q s0 t := by
  unfold execRailFail
  repeat' with_reducible first | assumption | apply finishIf_reach | apply State.railBad_reach | apply State.powerCut_reach | (intros; show P _ = true; first | exact h1 _ | apply_assumption) | split | dsimp only | intro _

theorem execVddAoLoss_reach (hs : Reach P Q s0 s) (h1 : ∀ k, P k) (qreports : Q .reports) (qmbox : Q .mbox) (qheld : Q .held) (qtickets : Q .tickets) (qrun : Q .run) (qpolicy : Q .policy) (qimgPolicy : Q .imgPolicy) (qtrust : Q .trust) (qcands : Q .cands) (qtelOut : Q .telOut) (qclsTab : Q .clsTab) (qstaged : Q .staged) (qrings : Q .rings) (qtracker : Q .tracker) (qretireQ : Q .retireQ) (qmerge : Q .merge) (qdescs : Q .descs) (qkch : Q .kch) (qfups : Q .fups) :
    ∃ t, execVddAoLoss s = .next t ∧ Reach P Q s0 t := by
  unfold execVddAoLoss
  repeat' with_reducible first | assumption | apply finishIf_reach | apply State.aoLost_reach | (intros; show P _ = true; first | exact h1 _ | apply_assumption) | split | dsimp only | intro _

theorem execTamperHoldExpiry_reach {still : Nat} (hs : Reach P Q s0 s) (h1 : ∀ k, P k) (qreports : Q .reports) (qmbox : Q .mbox) (qheld : Q .held) (qtickets : Q .tickets) (qrun : Q .run) (qpolicy : Q .policy) (qimgPolicy : Q .imgPolicy) (qtrust : Q .trust) (qcands : Q .cands) (qtelOut : Q .telOut) (qclsTab : Q .clsTab) (qstaged : Q .staged) (qrings : Q .rings) (qtracker : Q .tracker) (qretireQ : Q .retireQ) (qmerge : Q .merge) (qdescs : Q .descs) (qkch : Q .kch) (qfups : Q .fups) :
    ∃ t, execTamperHoldExpiry still s = .next t ∧ Reach P Q s0 t := by
  unfold execTamperHoldExpiry
  repeat' with_reducible first | assumption | apply finishIf_reach | apply State.each_reach | apply State.cond_reach | apply State.restartOrHold_reach | apply State.inc_reach | apply State.set_reach | (intros; show P _ = true; first | exact h1 _ | apply_assumption) | split | dsimp only | intro _

theorem execJtagBypass_reach (hs : Reach P Q s0 s) (hsum : ∀ k, k.cell.summary → P k) (h11 : ∀ i, P ⟨.sys .jtagIr, 0, i⟩) (qreports : Q .reports) :
    ∃ t, execJtagBypass s = .next t ∧ Reach P Q s0 t := by
  unfold execJtagBypass
  repeat' with_reducible first | assumption | apply finishIf_reach | apply State.set_reach | (intros; show P _ = true; first | exact hsum _ rfl | (clear hsum; apply_assumption)) | split | dsimp only | intro _

theorem execRailRecovered_reach (hs : Reach P Q s0 s) (h1 : ∀ k, P k) (qreports : Q .reports) (qmbox : Q .mbox) (qheld : Q .held) (qtickets : Q .tickets) (qrun : Q .run) (qpolicy : Q .policy) (qimgPolicy : Q .imgPolicy) (qtrust : Q .trust) (qcands : Q .cands) (qtelOut : Q .telOut) (qclsTab : Q .clsTab) (qstaged : Q .staged) (qrings : Q .rings) (qtracker : Q .tracker) (qretireQ : Q .retireQ) (qmerge : Q .merge) (qdescs : Q .descs) (qkch : Q .kch) (qfups : Q .fups) :
    ∃ t, execRailRecovered s = .next t ∧ Reach P Q s0 t := by
  unfold execRailRecovered
  repeat' with_reducible first | assumption | apply finishIf_reach | apply State.clampSet_reach | apply State.each_reach | apply State.lower_reach | apply State.restartOrHold_reach | apply State.railWake_reach | (intros; show P _ = true; first | exact h1 _ | apply_assumption) | split | dsimp only | intro _

theorem execJtagSamplePreload_reach {captured : List Bool} {loaded : List Bool} (hs : Reach P Q s0 s) (hsum : ∀ k, k.cell.summary → P k) (h11 : ∀ i, P ⟨.sys .jtagBr, 0, i⟩) (h12 : ∀ i, P ⟨.sys .jtagIr, 0, i⟩) (qreports : Q .reports) (qreadData : Q .readData) :
    ∃ t, execJtagSamplePreload captured loaded s = .next t ∧ Reach P Q s0 t := by
  unfold execJtagSamplePreload
  repeat' with_reducible first | assumption | apply finishIf_reach | apply State.boundaryLoad_reach | apply State.set_reach | (intros; show P _ = true; first | exact hsum _ rfl | (clear hsum; apply_assumption)) | split | dsimp only | intro _ | apply State.readData_reach

theorem execPerstRelease_reach {busMaster : Bool} {msi : Bool} (hs : Reach P Q s0 s) (hsum : ∀ k, k.cell.summary → P k) (h11 : ∀ i, P ⟨.sys .msiEn, 0, i⟩) (h12 : ∀ i, P ⟨.sys .busMaster, 0, i⟩) (h13 : ∀ i, P ⟨.sys .pcieUp, 0, i⟩) (h14 : ∀ i, P ⟨.sys .perstN, 0, i⟩) (qreports : Q .reports) :
    ∃ t, execPerstRelease busMaster msi s = .next t ∧ Reach P Q s0 t := by
  unfold execPerstRelease
  repeat' with_reducible first | assumption | apply finish_reach | apply State.linkTrain_reach | apply State.set_reach | (intros; show P _ = true; first | exact hsum _ rfl | (clear hsum; apply_assumption)) | split | dsimp only | intro _

theorem execSysRstLow_reach (hs : Reach P Q s0 s) (h1 : ∀ k, P k) (qreports : Q .reports) (qmbox : Q .mbox) (qheld : Q .held) (qtickets : Q .tickets) (qrun : Q .run) (qpolicy : Q .policy) (qimgPolicy : Q .imgPolicy) (qtrust : Q .trust) (qcands : Q .cands) (qtelOut : Q .telOut) (qclsTab : Q .clsTab) (qstaged : Q .staged) (qrings : Q .rings) (qtracker : Q .tracker) (qretireQ : Q .retireQ) (qmerge : Q .merge) (qdescs : Q .descs) (qkch : Q .kch) (qfups : Q .fups) :
    ∃ t, execSysRstLow s = .next t ∧ Reach P Q s0 t := by
  unfold execSysRstLow
  refine finish_reach (State.set_reach (State.set_reach ?_ (h1 _)) (h1 _)) (fun k _ => h1 k) qreports
  apply State.toStep1_reach hs <;> assumption

theorem execJtagExtest_reach (hs : Reach P Q s0 s) (hsum : ∀ k, k.cell.summary → P k) (h11 : ∀ i, P ⟨.sys .jtagIr, 0, i⟩) (qreports : Q .reports) :
    ∃ t, execJtagExtest s = .next t ∧ Reach P Q s0 t := by
  unfold execJtagExtest
  repeat' with_reducible first | assumption | apply finishIf_reach | apply State.set_reach | (intros; show P _ = true; first | exact hsum _ rfl | (clear hsum; apply_assumption)) | split | dsimp only | intro _

theorem execHvRailFail_reach {neg : Bool} (hs : Reach P Q s0 s) (hsum : ∀ k, k.cell.summary → P k) (h11 : ∀ d i, P ⟨.bias .ptUnlRun, d, i⟩) (h12 : ∀ d i, P ⟨.bias .ptLockRun, d, i⟩) (h13 : ∀ d i, P ⟨.bias .ptBase, d, i⟩) (h14 : ∀ d i, P ⟨.bias .ptTry, d, i⟩) (h15 : ∀ d i, P ⟨.bias .ptV, d, i⟩) (h16 : ∀ d i, P ⟨.bias .ptFirst, d, i⟩) (h17 : ∀ d i, P ⟨.bias .nUnlock, d, i⟩) (h18 : ∀ d i, P ⟨.bias .ptState, d, i⟩) (h19 : ∀ i, P ⟨.sys .freeCount, 0, i⟩) (h20 : ∀ d i, P ⟨.bias .outMv, d, i⟩) (h21 : ∀ d i, P ⟨.bias .ptLocked, d, i⟩) (h22 : ∀ d i, P ⟨.bias .biasLock, d, i⟩) (h23 : ∀ d i, P ⟨.sticky .biasNearRail, d, i⟩) (h24 : ∀ d i, P ⟨.live .biasNearRail, d, i⟩) (h25 : ∀ d i, P ⟨.sticky .biasRail, d, i⟩) (h26 : ∀ d i, P ⟨.live .biasRail, d, i⟩) (h27 : ∀ d i, P ⟨.sticky .biasOutFault, d, i⟩) (h28 : ∀ d i, P ⟨.live .biasOutFault, d, i⟩) (h29 : ∀ d i, P ⟨.sticky .biasUnlock, d, i⟩) (h30 : ∀ d i, P ⟨.live .biasUnlock, d, i⟩) (h31 : ∀ d i, P ⟨.lt .muteCause, d, i⟩) (h32 : ∀ d i, P ⟨.lt .ramp, d, i⟩) (h33 : ∀ d i, P ⟨.lt .txState, d, i⟩) (h34 : ∀ d i, P ⟨.lt .otherCause, d, i⟩) (h35 : ∀ d i, P ⟨.bias .ptAcq, d, i⟩) (h36 : ∀ d i, P ⟨.lt .nMuteEnter, d, i⟩) (h37 : ∀ d i, P ⟨.lt .begun4, d, i⟩) (h38 : ∀ d i, P ⟨.sticky .ltTxDown, d, i⟩) (h39 : ∀ d i, P ⟨.live .ltTxDown, d, i⟩) (h40 : ∀ d i, P ⟨.bias .hvClamp, d, i⟩) (h41 : ∀ i, P ⟨.ao .nPgFail, 0, i⟩) (h42 : ∀ i, P ⟨.sticky .pgVhvn, 0, i⟩) (h43 : ∀ i, P ⟨.sticky .pgVhvp, 0, i⟩) (h44 : ∀ i, P ⟨.live .pgVhvn, 0, i⟩) (h45 : ∀ i, P ⟨.live .pgVhvp, 0, i⟩) (qreports : Q .reports) :
    ∃ t, execHvRailFail neg s = .next t ∧ Reach P Q s0 t := by
  unfold execHvRailFail
  repeat' with_reducible first | assumption | apply finishIf_reach | apply State.clampSet_reach | apply State.railBad_reach | (intros; show P _ = true; first | exact hsum _ rfl | (clear hsum; apply_assumption)) | split | dsimp only | intro _

theorem execVddAoApplied_reach (hs : Reach P Q s0 s) (hsum : ∀ k, k.cell.summary → P k) (h11 : ∀ i, P ⟨.sys .aoOn, 0, i⟩) (qreports : Q .reports) :
    ∃ t, execVddAoApplied s = .next t ∧ Reach P Q s0 t := by
  unfold execVddAoApplied
  repeat' with_reducible first | assumption | apply finishIf_reach | apply State.set_reach | (intros; show P _ = true; first | exact hsum _ rfl | (clear hsum; apply_assumption)) | split | dsimp only | intro _

end Sys2Proof.Machine
end

