-- ==== Sys2Proof/Laws/MovesClocks.lean ====
section
/-!
SUPPORT. What the operations of Machine/Clocks.lean may change, one lemma each (Laws/Reach.lean).
-/
namespace Sys2Proof.Machine

set_option linter.unusedTactic false
set_option linter.unreachableTactic false

variable {P : Key → Bool} {Q : Part → Bool} {s0 s : State}

theorem State.dpllEnter_reach {x : Nat} {st : Nat} (hs : Reach P Q s0 s) (h1 : ∀ i, P ⟨.sticky .clkAFreewheel, 0, i⟩) (h2 : ∀ i, P ⟨.sticky .clkBFreewheel, 0, i⟩) (h3 : ∀ i, P ⟨.live .clkAFreewheel, 0, i⟩) (h4 : ∀ i, P ⟨.live .clkBFreewheel, 0, i⟩) (h5 : ∀ i, P ⟨.clk .dpllState, 0, i⟩) (qreports : Q .reports) :
    Reach P Q s0 (State.dpllEnter s x st) := by
  unfold State.dpllEnter
  repeat' with_reducible first | assumption | apply State.cond_reach | apply State.set_reach | (intros; show P _ = true; apply_assumption) | split | dsimp only | intro _

theorem State.dpllLose_reach {x : Nat} (hs : Reach P Q s0 s) (h1 : ∀ i, P ⟨.sticky .clkAFreewheel, 0, i⟩) (h2 : ∀ i, P ⟨.sticky .clkBFreewheel, 0, i⟩) (h3 : ∀ i, P ⟨.live .clkAFreewheel, 0, i⟩) (h4 : ∀ i, P ⟨.live .clkBFreewheel, 0, i⟩) (h5 : ∀ i, P ⟨.clk .dpllState, 0, i⟩) (h6 : ∀ i, P ⟨.clk .nFw, 0, i⟩) (h7 : ∀ i, P ⟨.sys .freeCount, 0, i⟩) (h8 : ∀ i, P ⟨.clk .dpllFreq, 0, i⟩) (qreports : Q .reports) :
    Reach P Q s0 (State.dpllLose s x) := by
  unfold State.dpllLose
  repeat' with_reducible first | assumption | apply State.dpllEnter_reach | apply State.inc_reach | apply State.used_reach | apply State.set_reach | (intros; show P _ = true; apply_assumption) | split | dsimp only | intro _

theorem State.dpllTake_reach {x : Nat} {r : Nat} (hs : Reach P Q s0 s) (h1 : ∀ i, P ⟨.sys .freeCount, 0, i⟩) (h2 : ∀ i, P ⟨.clk .phase, 0, i⟩) (h3 : ∀ i, P ⟨.clk .selected, 0, i⟩) (h4 : ∀ i, P ⟨.clk .driftRun, 0, i⟩) (h5 : ∀ i, P ⟨.sticky .clkAFreewheel, 0, i⟩) (h6 : ∀ i, P ⟨.sticky .clkBFreewheel, 0, i⟩) (h7 : ∀ i, P ⟨.live .clkAFreewheel, 0, i⟩) (h8 : ∀ i, P ⟨.live .clkBFreewheel, 0, i⟩) (h9 : ∀ i, P ⟨.clk .dpllState, 0, i⟩) (h10 : ∀ i, P ⟨.sticky .clkASwitch, 0, i⟩) (h11 : ∀ i, P ⟨.sticky .clkBSwitch, 0, i⟩) (h12 : ∀ i, P ⟨.clk .nSwitch, 0, i⟩) (qreports : Q .reports) :
    Reach P Q s0 (State.dpllTake s x r) := by
  unfold State.dpllTake
  repeat' with_reducible first | assumption | apply State.used_reach | apply State.set_reach | apply State.dpllEnter_reach | apply State.event_reach | apply State.inc_reach | (intros; show P _ = true; first | exact h1 _ | exact h2 _ | exact h3 _ | exact h4 _ | exact h5 _ | exact h6 _ | exact h7 _ | exact h8 _ | exact h9 _ | exact h10 _ | exact h11 _ | exact h12 _) | split | dsimp only | intro _

theorem State.dpllSelect1_reach {x : Nat} (hs : Reach P Q s0 s) (h1 : ∀ i, P ⟨.sticky .clkAFreewheel, 0, i⟩) (h2 : ∀ i, P ⟨.sticky .clkBFreewheel, 0, i⟩) (h3 : ∀ i, P ⟨.live .clkAFreewheel, 0, i⟩) (h4 : ∀ i, P ⟨.live .clkBFreewheel, 0, i⟩) (h5 : ∀ i, P ⟨.clk .dpllState, 0, i⟩) (h6 : ∀ i, P ⟨.clk .dpllFreq, 0, i⟩) (h7 : ∀ i, P ⟨.clk .phase, 0, i⟩) (h8 : ∀ i, P ⟨.clk .selected, 0, i⟩) (h9 : ∀ i, P ⟨.clk .nFw, 0, i⟩) (h10 : ∀ i, P ⟨.sys .freeCount, 0, i⟩) (h11 : ∀ i, P ⟨.clk .driftRun, 0, i⟩) (h12 : ∀ i, P ⟨.sticky .clkASwitch, 0, i⟩) (h13 : ∀ i, P ⟨.sticky .clkBSwitch, 0, i⟩) (h14 : ∀ i, P ⟨.clk .nSwitch, 0, i⟩) (qreports : Q .reports) :
    Reach P Q s0 (State.dpllSelect1 s x) := by
  unfold State.dpllSelect1
  repeat' with_reducible first | assumption | apply State.dpllEnter_reach | apply State.set_reach | apply State.dpllLose_reach | apply State.dpllTake_reach | (intros; show P _ = true; apply_assumption) | split | dsimp only | intro _

theorem State.dpllSelect_reach (hs : Reach P Q s0 s) (h1 : ∀ i, P ⟨.sticky .clkAFreewheel, 0, i⟩) (h2 : ∀ i, P ⟨.sticky .clkBFreewheel, 0, i⟩) (h3 : ∀ i, P ⟨.live .clkAFreewheel, 0, i⟩) (h4 : ∀ i, P ⟨.live .clkBFreewheel, 0, i⟩) (h5 : ∀ i, P ⟨.clk .dpllState, 0, i⟩) (h6 : ∀ i, P ⟨.clk .dpllFreq, 0, i⟩) (h7 : ∀ i, P ⟨.clk .phase, 0, i⟩) (h8 : ∀ i, P ⟨.clk .selected, 0, i⟩) (h9 : ∀ i, P ⟨.clk .nFw, 0, i⟩) (h10 : ∀ i, P ⟨.sys .freeCount, 0, i⟩) (h11 : ∀ i, P ⟨.clk .driftRun, 0, i⟩) (h12 : ∀ i, P ⟨.sticky .clkASwitch, 0, i⟩) (h13 : ∀ i, P ⟨.sticky .clkBSwitch, 0, i⟩) (h14 : ∀ i, P ⟨.clk .nSwitch, 0, i⟩) (qreports : Q .reports) :
    Reach P Q s0 (State.dpllSelect s) := by
  unfold State.dpllSelect
  repeat' with_reducible first | assumption | apply State.dpllSelect1_reach | (intros; show P _ = true; apply_assumption) | split | dsimp only | intro _

theorem State.softFollow_reach (hs : Reach P Q s0 s) (h1 : ∀ i, P ⟨.sticky .clkRefSoft, 0, i⟩) (h2 : ∀ i, P ⟨.live .clkRefSoft, 0, i⟩) (qreports : Q .reports) :
    Reach P Q s0 (State.softFollow s) := by
  unfold State.softFollow
  repeat' with_reducible first | assumption | apply State.cond_reach | (intros; show P _ = true; apply_assumption) | split | dsimp only | intro _

theorem State.monEnSet_reach {r : Nat} {v : Nat} (hs : Reach P Q s0 s) (h1 : ∀ i, P ⟨.clk .refLos, 0, i⟩) (h2 : ∀ i, P ⟨.clk .soft, 0, i⟩) (h3 : ∀ i, P ⟨.clk .wtrEnd, 0, i⟩) (h4 : ∀ i, P ⟨.clk .cleanRun, 0, i⟩) (h5 : ∀ i, P ⟨.clk .hardRun, 0, i⟩) (h6 : ∀ i, P ⟨.clk .monEn, 0, i⟩) (h7 : ∀ i, P ⟨.sticky .clkAFreewheel, 0, i⟩) (h8 : ∀ i, P ⟨.sticky .clkBFreewheel, 0, i⟩) (h9 : ∀ i, P ⟨.live .clkAFreewheel, 0, i⟩) (h10 : ∀ i, P ⟨.live .clkBFreewheel, 0, i⟩) (h11 : ∀ i, P ⟨.clk .dpllState, 0, i⟩) (h12 : ∀ i, P ⟨.clk .dpllFreq, 0, i⟩) (h13 : ∀ i, P ⟨.clk .phase, 0, i⟩) (h14 : ∀ i, P ⟨.clk .selected, 0, i⟩) (h15 : ∀ i, P ⟨.clk .nFw, 0, i⟩) (h16 : ∀ i, P ⟨.sys .freeCount, 0, i⟩) (h17 : ∀ i, P ⟨.clk .driftRun, 0, i⟩) (h18 : ∀ i, P ⟨.sticky .clkASwitch, 0, i⟩) (h19 : ∀ i, P ⟨.sticky .clkBSwitch, 0, i⟩) (h20 : ∀ i, P ⟨.clk .nSwitch, 0, i⟩) (h21 : ∀ i, P ⟨.sticky .clkRefSoft, 0, i⟩) (h22 : ∀ i, P ⟨.live .clkRefSoft, 0, i⟩) (h23 : ∀ i, P ⟨.clk .cause, 0, i⟩) (h24 : ∀ i, P ⟨.clk .qstate, 0, i⟩) (qreports : Q .reports) :
    Reach P Q s0 (State.monEnSet s r v) := by
  unfold State.monEnSet
  repeat' with_reducible first | assumption | apply State.set_reach | apply State.dpllSelect_reach | apply State.softFollow_reach | (intros; show P _ = true; apply_assumption) | split | dsimp only | intro _

theorem State.ppsFollow_reach {p : Nat} (hs : Reach P Q s0 s) (h1 : ∀ i, P ⟨.clk .ppsErr, 0, i⟩) (h2 : ∀ i, P ⟨.sticky .clkPpsSlew, 0, i⟩) (h3 : ∀ i, P ⟨.live .clkPpsSlew, 0, i⟩) (qreports : Q .reports) :
    Reach P Q s0 (State.ppsFollow s p) := by
  unfold State.ppsFollow
  repeat' with_reducible first | assumption | apply State.set_reach | apply State.cond_reach | (intros; show P _ = true; apply_assumption) | split | dsimp only | intro _

theorem State.ppsBegin_reach {p : Nat} (hs : Reach P Q s0 s) (h1 : ∀ i, P ⟨.clk .ppsErr, 0, i⟩) (h2 : ∀ i, P ⟨.sticky .clkPpsSlew, 0, i⟩) (h3 : ∀ i, P ⟨.live .clkPpsSlew, 0, i⟩) (h4 : ∀ i, P ⟨.clk .ppsErr8, 0, i⟩) (h5 : ∀ i, P ⟨.clk .ppsFirst, 0, i⟩) (h6 : ∀ i, P ⟨.clk .ppsRun, 0, i⟩) (qreports : Q .reports) :
    Reach P Q s0 (State.ppsBegin s p) := by
  unfold State.ppsBegin
  repeat' with_reducible first | assumption | apply State.ppsFollow_reach | apply State.set_reach | (intros; show P _ = true; apply_assumption) | split | dsimp only | intro _

theorem State.ppsEnSet_reach {p : Nat} {v : Nat} (hs : Reach P Q s0 s) (h1 : ∀ i, P ⟨.clk .ppsEn, 0, i⟩) (h2 : ∀ i, P ⟨.clk .ppsErr, 0, i⟩) (h3 : ∀ i, P ⟨.sticky .clkPpsSlew, 0, i⟩) (h4 : ∀ i, P ⟨.live .clkPpsSlew, 0, i⟩) (h5 : ∀ i, P ⟨.clk .ppsErr8, 0, i⟩) (h6 : ∀ i, P ⟨.clk .ppsRun, 0, i⟩) (h7 : ∀ i, P ⟨.clk .ppsFirst, 0, i⟩) (qreports : Q .reports) :
    Reach P Q s0 (State.ppsEnSet s p v) := by
  unfold State.ppsEnSet
  repeat' with_reducible first | assumption | apply State.set_reach | apply State.ppsFollow_reach | apply State.ppsBegin_reach | (intros; show P _ = true; apply_assumption) | split | dsimp only | intro _

theorem State.ppsShift_reach {p : Nat} {e : Int} (hs : Reach P Q s0 s) (h1 : ∀ i, P ⟨.clk .ppsErr, 0, i⟩) (h2 : ∀ i, P ⟨.sticky .clkPpsSlew, 0, i⟩) (h3 : ∀ i, P ⟨.live .clkPpsSlew, 0, i⟩) (h4 : ∀ i, P ⟨.clk .ppsErr8, 0, i⟩) (qreports : Q .reports) :
    Reach P Q s0 (State.ppsShift s p e) := by
  unfold State.ppsShift
  repeat' with_reducible first | assumption | apply State.ppsFollow_reach | apply State.setI_reach | (intros; show P _ = true; apply_assumption) | split | dsimp only | intro _

theorem State.ppsTbSet_reach {p : Nat} {b : Nat} (hs : Reach P Q s0 s) (h1 : ∀ i, P ⟨.clk .ppsErr, 0, i⟩) (h2 : ∀ i, P ⟨.sticky .clkPpsSlew, 0, i⟩) (h3 : ∀ i, P ⟨.live .clkPpsSlew, 0, i⟩) (h4 : ∀ i, P ⟨.clk .ppsErr8, 0, i⟩) (h5 : ∀ i, P ⟨.clk .ppsTb, 0, i⟩) (qreports : Q .reports) :
    Reach P Q s0 (State.ppsTbSet s p b) := by
  unfold State.ppsTbSet
  repeat' with_reducible first | assumption | apply State.ppsShift_reach | apply State.set_reach | (intros; show P _ = true; apply_assumption) | split | dsimp only | intro _

theorem State.ppsOfsSet_reach {p : Nat} {v : Int} (hs : Reach P Q s0 s) (h1 : ∀ i, P ⟨.clk .ppsErr, 0, i⟩) (h2 : ∀ i, P ⟨.sticky .clkPpsSlew, 0, i⟩) (h3 : ∀ i, P ⟨.live .clkPpsSlew, 0, i⟩) (h4 : ∀ i, P ⟨.clk .ppsErr8, 0, i⟩) (h5 : ∀ i, P ⟨.clk .ppsOfs, 0, i⟩) (qreports : Q .reports) :
    Reach P Q s0 (State.ppsOfsSet s p v) := by
  unfold State.ppsOfsSet
  repeat' with_reducible first | assumption | apply State.ppsShift_reach | apply State.setI_reach | (intros; show P _ = true; apply_assumption) | split | dsimp only | intro _

theorem State.ppsTbStep_reach {b : Nat} {e : Int} (hs : Reach P Q s0 s) (h1 : ∀ i, P ⟨.clk .ppsErr, 0, i⟩) (h2 : ∀ i, P ⟨.sticky .clkPpsSlew, 0, i⟩) (h3 : ∀ i, P ⟨.live .clkPpsSlew, 0, i⟩) (h4 : ∀ i, P ⟨.clk .ppsErr8, 0, i⟩) (qreports : Q .reports) :
    Reach P Q s0 (State.ppsTbStep s b e) := by
  unfold State.ppsTbStep
  repeat' with_reducible first | assumption | apply State.each_reach | apply State.ppsShift_reach | (intros; show P _ = true; apply_assumption) | split | dsimp only | intro _

theorem State.refDisqualify_reach {r : Nat} {cause : Nat} (hs : Reach P Q s0 s) (h1 : ∀ i, P ⟨.clk .wtrEnd, 0, i⟩) (h2 : ∀ i, P ⟨.clk .cleanRun, 0, i⟩) (h3 : ∀ i, P ⟨.clk .cause, 0, i⟩) (h4 : ∀ i, P ⟨.clk .qstate, 0, i⟩) (h5 : ∀ i, P ⟨.sticky .clkRefDisq, 0, i⟩) (h6 : ∀ i, P ⟨.clk .nDisq, 0, i⟩) (h7 : ∀ i, P ⟨.clk .nWtrRestart, 0, i⟩) (qreports : Q .reports) :
    Reach P Q s0 (State.refDisqualify s r cause) := by
  unfold State.refDisqualify
  repeat' with_reducible first | assumption | apply State.set_reach | apply State.event_reach | apply State.inc_reach | (intros; show P _ = true; apply_assumption) | split | dsimp only | intro _

theorem execRefLos_reach {r : Nat} (hs : Reach P Q s0 s) (hsum : ∀ k, k.cell.summary → P k) (h11 : ∀ i, P ⟨.sticky .clkAFreewheel, 0, i⟩) (h12 : ∀ i, P ⟨.sticky .clkBFreewheel, 0, i⟩) (h13 : ∀ i, P ⟨.live .clkAFreewheel, 0, i⟩) (h14 : ∀ i, P ⟨.live .clkBFreewheel, 0, i⟩) (h15 : ∀ i, P ⟨.clk .dpllState, 0, i⟩) (h16 : ∀ i, P ⟨.clk .dpllFreq, 0, i⟩) (h17 : ∀ i, P ⟨.clk .phase, 0, i⟩) (h18 : ∀ i, P ⟨.clk .selected, 0, i⟩) (h19 : ∀ i, P ⟨.clk .nFw, 0, i⟩) (h20 : ∀ i, P ⟨.sys .freeCount, 0, i⟩) (h21 : ∀ i, P ⟨.clk .driftRun, 0, i⟩) (h22 : ∀ i, P ⟨.sticky .clkASwitch, 0, i⟩) (h23 : ∀ i, P ⟨.sticky .clkBSwitch, 0, i⟩) (h24 : ∀ i, P ⟨.clk .nSwitch, 0, i⟩) (h25 : ∀ i, P ⟨.clk .wtrEnd, 0, i⟩) (h26 : ∀ i, P ⟨.clk .cleanRun, 0, i⟩) (h27 : ∀ i, P ⟨.clk .cause, 0, i⟩) (h28 : ∀ i, P ⟨.clk .qstate, 0, i⟩) (h29 : ∀ i, P ⟨.sticky .clkRefDisq, 0, i⟩) (h30 : ∀ i, P ⟨.clk .nDisq, 0, i⟩) (h31 : ∀ i, P ⟨.clk .nWtrRestart, 0, i⟩) (h32 : ∀ i, P ⟨.clk .refLos, 0, i⟩) (qreports : Q .reports) :
    ∃ t, execRefLos r s = .next t ∧ Reach P Q s0 t := by
  unfold execRefLos
  repeat' with_reducible first | assumption | apply finishIf_reach | apply State.dpllSelect_reach | apply State.refDisqualify_reach | apply State.set_reach | (intros; show P _ = true; first | exact hsum _ rfl | (clear hsum; apply_assumption)) | split | dsimp only | intro _

theorem State.crossCheck_reach {x : Nat} {r : Nat} (hs : Reach P Q s0 s) (h1 : ∀ i, P ⟨.clk .driftRun, 0, i⟩) (h2 : ∀ i, P ⟨.clk .wtrEnd, 0, i⟩) (h3 : ∀ i, P ⟨.clk .cleanRun, 0, i⟩) (h4 : ∀ i, P ⟨.clk .cause, 0, i⟩) (h5 : ∀ i, P ⟨.clk .qstate, 0, i⟩) (h6 : ∀ i, P ⟨.sticky .clkRefDisq, 0, i⟩) (h7 : ∀ i, P ⟨.clk .nDisq, 0, i⟩) (h8 : ∀ i, P ⟨.clk .nWtrRestart, 0, i⟩) (qreports : Q .reports) :
    Reach P Q s0 (State.crossCheck s x r) := by
  unfold State.crossCheck
  repeat' with_reducible first | assumption | apply State.set_reach | apply State.refDisqualify_reach | (intros; show P _ = true; apply_assumption) | split | dsimp only | intro _

theorem State.dpllFreqFollow_reach {x : Nat} {r : Nat} (hs : Reach P Q s0 s) (h1 : ∀ i, P ⟨.clk .dpllFreq, 0, i⟩) :
    Reach P Q s0 (State.dpllFreqFollow s x r) := by
  unfold State.dpllFreqFollow
  repeat' with_reducible first | assumption | apply State.set_reach | (intros; show P _ = true; apply_assumption) | split | dsimp only | intro _

theorem State.hardCheck_reach {r : Nat} (hs : Reach P Q s0 s) (h1 : ∀ i, P ⟨.clk .hardRun, 0, i⟩) (h2 : ∀ i, P ⟨.clk .wtrEnd, 0, i⟩) (h3 : ∀ i, P ⟨.clk .cleanRun, 0, i⟩) (h4 : ∀ i, P ⟨.clk .cause, 0, i⟩) (h5 : ∀ i, P ⟨.clk .qstate, 0, i⟩) (h6 : ∀ i, P ⟨.sticky .clkRefDisq, 0, i⟩) (h7 : ∀ i, P ⟨.clk .nDisq, 0, i⟩) (h8 : ∀ i, P ⟨.clk .nWtrRestart, 0, i⟩) (qreports : Q .reports) :
    Reach P Q s0 (State.hardCheck s r) := by
  unfold State.hardCheck
  repeat' with_reducible first | assumption | apply State.set_reach | apply State.refDisqualify_reach | (intros; show P _ = true; apply_assumption) | split | dsimp only | intro _

theorem execRefWtrExpiry_reach {r : Nat} (hs : Reach P Q s0 s) (hsum : ∀ k, k.cell.summary → P k) (h11 : ∀ i, P ⟨.sticky .clkAFreewheel, 0, i⟩) (h12 : ∀ i, P ⟨.sticky .clkBFreewheel, 0, i⟩) (h13 : ∀ i, P ⟨.live .clkAFreewheel, 0, i⟩) (h14 : ∀ i, P ⟨.live .clkBFreewheel, 0, i⟩) (h15 : ∀ i, P ⟨.clk .dpllState, 0, i⟩) (h16 : ∀ i, P ⟨.clk .dpllFreq, 0, i⟩) (h17 : ∀ i, P ⟨.clk .phase, 0, i⟩) (h18 : ∀ i, P ⟨.clk .selected, 0, i⟩) (h19 : ∀ i, P ⟨.clk .nFw, 0, i⟩) (h20 : ∀ i, P ⟨.sys .freeCount, 0, i⟩) (h21 : ∀ i, P ⟨.clk .driftRun, 0, i⟩) (h22 : ∀ i, P ⟨.sticky .clkASwitch, 0, i⟩) (h23 : ∀ i, P ⟨.sticky .clkBSwitch, 0, i⟩) (h24 : ∀ i, P ⟨.clk .nSwitch, 0, i⟩) (h25 : ∀ i, P ⟨.clk .wtrEnd, 0, i⟩) (h26 : ∀ i, P ⟨.clk .qstate, 0, i⟩) (qreports : Q .reports) :
    ∃ t, execRefWtrExpiry r s = .next t ∧ Reach P Q s0 t := by
  unfold execRefWtrExpiry
  repeat' with_reducible first | assumption | apply finishIf_reach | apply State.dpllSelect_reach | apply State.set_reach | (intros; show P _ = true; first | exact hsum _ rfl | (clear hsum; apply_assumption)) | split | dsimp only | intro _

theorem State.refReturn_reach {r : Nat} (hs : Reach P Q s0 s) (h1 : ∀ i, P ⟨.clk .cleanRun, 0, i⟩) (h2 : ∀ i, P ⟨.clk .wasQual, 0, i⟩) (h3 : ∀ i, P ⟨.clk .qstate, 0, i⟩) (h4 : ∀ i, P ⟨.clk .wtrEnd, 0, i⟩) :
    Reach P Q s0 (State.refReturn s r) := by
  unfold State.refReturn
  repeat' with_reducible first | assumption | apply State.set_reach | (intros; show P _ = true; apply_assumption) | split | dsimp only | intro _

theorem State.cleanUpdate_reach {r : Nat} (hs : Reach P Q s0 s) (h1 : ∀ i, P ⟨.clk .cleanRun, 0, i⟩) (h2 : ∀ i, P ⟨.clk .wasQual, 0, i⟩) (h3 : ∀ i, P ⟨.clk .qstate, 0, i⟩) (h4 : ∀ i, P ⟨.clk .wtrEnd, 0, i⟩) :
    Reach P Q s0 (State.cleanUpdate s r) := by
  unfold State.cleanUpdate
  repeat' with_reducible first | assumption | apply State.refReturn_reach | apply State.set_reach | (intros; show P _ = true; apply_assumption) | split | dsimp only | intro _

theorem State.xoSuspect_reach {mask : Nat} (hs : Reach P Q s0 s) (h1 : ∀ i, P ⟨.sticky .clkXoSuspect, 0, i⟩) (h2 : ∀ i, P ⟨.live .clkXoSuspect, 0, i⟩) (h3 : ∀ i, P ⟨.clk .xoSuspect, 0, i⟩) (h4 : ∀ i, P ⟨.clk .suspects, 0, i⟩) (qreports : Q .reports) :
    Reach P Q s0 (State.xoSuspect s mask) := by
  unfold State.xoSuspect
  repeat' with_reducible first | assumption | apply State.cond_reach | apply State.set_reach | (intros; show P _ = true; apply_assumption) | split | dsimp only | intro _

theorem State.suspectFollow_reach (hs : Reach P Q s0 s) (h1 : ∀ i, P ⟨.sticky .clkXoSuspect, 0, i⟩) (h2 : ∀ i, P ⟨.live .clkXoSuspect, 0, i⟩) (h3 : ∀ i, P ⟨.clk .xoSuspect, 0, i⟩) (h4 : ∀ i, P ⟨.clk .suspects, 0, i⟩) (qreports : Q .reports) :
    Reach P Q s0 (State.suspectFollow s) := by
  unfold State.suspectFollow
  repeat' with_reducible first | assumption | apply State.xoSuspect_reach | (intros; show P _ = true; apply_assumption) | split | dsimp only | intro _

theorem execRefMonitorUpdate_reach {r : Nat} {offset : Int} (hs : Reach P Q s0 s) (hsum : ∀ k, k.cell.summary → P k) (h11 : ∀ i, P ⟨.clk .refLos, 0, i⟩) (h12 : ∀ i, P ⟨.clk .offset, 0, i⟩) (h13 : ∀ i, P ⟨.sticky .clkRefSoft, 0, i⟩) (h14 : ∀ i, P ⟨.live .clkRefSoft, 0, i⟩) (h15 : ∀ i, P ⟨.clk .soft, 0, i⟩) (h16 : ∀ i, P ⟨.clk .cleanRun, 0, i⟩) (h17 : ∀ i, P ⟨.clk .wasQual, 0, i⟩) (h18 : ∀ i, P ⟨.clk .qstate, 0, i⟩) (h19 : ∀ i, P ⟨.clk .wtrEnd, 0, i⟩) (h20 : ∀ i, P ⟨.sticky .clkXoSuspect, 0, i⟩) (h21 : ∀ i, P ⟨.live .clkXoSuspect, 0, i⟩) (h22 : ∀ i, P ⟨.clk .xoSuspect, 0, i⟩) (h23 : ∀ i, P ⟨.clk .suspects, 0, i⟩) (h24 : ∀ i, P ⟨.clk .driftRun, 0, i⟩) (h25 : ∀ i, P ⟨.clk .cause, 0, i⟩) (h26 : ∀ i, P ⟨.sticky .clkRefDisq, 0, i⟩) (h27 : ∀ i, P ⟨.clk .nDisq, 0, i⟩) (h28 : ∀ i, P ⟨.clk .nWtrRestart, 0, i⟩) (h29 : ∀ i, P ⟨.clk .hardRun, 0, i⟩) (h30 : ∀ i, P ⟨.clk .dpllFreq, 0, i⟩) (h31 : ∀ i, P ⟨.sticky .clkAFreewheel, 0, i⟩) (h32 : ∀ i, P ⟨.sticky .clkBFreewheel, 0, i⟩) (h33 : ∀ i, P ⟨.live .clkAFreewheel, 0, i⟩) (h34 : ∀ i, P ⟨.live .clkBFreewheel, 0, i⟩) (h35 : ∀ i, P ⟨.clk .dpllState, 0, i⟩) (h36 : ∀ i, P ⟨.clk .phase, 0, i⟩) (h37 : ∀ i, P ⟨.clk .selected, 0, i⟩) (h38 : ∀ i, P ⟨.clk .nFw, 0, i⟩) (h39 : ∀ i, P ⟨.sys .freeCount, 0, i⟩) (h40 : ∀ i, P ⟨.sticky .clkASwitch, 0, i⟩) (h41 : ∀ i, P ⟨.sticky .clkBSwitch, 0, i⟩) (h42 : ∀ i, P ⟨.clk .nSwitch, 0, i⟩) (qreports : Q .reports) :
    ∃ t, execRefMonitorUpdate r offset s = .next t ∧ Reach P Q s0 t := by
  unfold execRefMonitorUpdate
  repeat' with_reducible first | assumption | apply finishIf_reach | apply State.set_reach | apply State.softFollow_reach | apply State.setB_reach | apply State.cleanUpdate_reach | apply State.suspectFollow_reach | apply State.crossCheck_reach | apply State.hardCheck_reach | apply State.dpllFreqFollow_reach | apply State.dpllSelect_reach | (intros; show P _ = true; first | exact hsum _ rfl | (clear hsum; apply_assumption)) | split | dsimp only | intro _

theorem execPpsEnable_reach {p : Nat} (hs : Reach P Q s0 s) (hsum : ∀ k, k.cell.summary → P k) (h11 : ∀ i, P ⟨.clk .ppsEn, 0, i⟩) (h12 : ∀ i, P ⟨.clk .ppsErr, 0, i⟩) (h13 : ∀ i, P ⟨.sticky .clkPpsSlew, 0, i⟩) (h14 : ∀ i, P ⟨.live .clkPpsSlew, 0, i⟩) (h15 : ∀ i, P ⟨.clk .ppsErr8, 0, i⟩) (h16 : ∀ i, P ⟨.clk .ppsRun, 0, i⟩) (h17 : ∀ i, P ⟨.clk .ppsFirst, 0, i⟩) (qreports : Q .reports) :
    ∃ t, execPpsEnable p s = .next t ∧ Reach P Q s0 t := by
  unfold execPpsEnable
  repeat' with_reducible first | assumption | apply finishIf_reach | apply State.ppsEnSet_reach | (intros; show P _ = true; first | exact hsum _ rfl | (clear hsum; apply_assumption)) | split | dsimp only | intro _

theorem execHoldoverHistoryValid_reach {x : Nat} (hs : Reach P Q s0 s) (hsum : ∀ k, k.cell.summary → P k) (h11 : ∀ i, P ⟨.clk .histValid, 0, i⟩) (qreports : Q .reports) :
    ∃ t, execHoldoverHistoryValid x s = .next t ∧ Reach P Q s0 t := by
  unfold execHoldoverHistoryValid
  repeat' with_reducible first | assumption | apply finishIf_reach | apply State.set_reach | (intros; show P _ = true; first | exact hsum _ rfl | (clear hsum; apply_assumption)) | split | dsimp only | intro _

theorem execDpllLock_reach {x : Nat} (hs : Reach P Q s0 s) (hsum : ∀ k, k.cell.summary → P k) (h11 : ∀ i, P ⟨.sticky .clkAFreewheel, 0, i⟩) (h12 : ∀ i, P ⟨.sticky .clkBFreewheel, 0, i⟩) (h13 : ∀ i, P ⟨.live .clkAFreewheel, 0, i⟩) (h14 : ∀ i, P ⟨.live .clkBFreewheel, 0, i⟩) (h15 : ∀ i, P ⟨.clk .dpllState, 0, i⟩) (qreports : Q .reports) :
    ∃ t, execDpllLock x s = .next t ∧ Reach P Q s0 t := by
  unfold execDpllLock
  repeat' with_reducible first | assumption | apply finishIf_reach | apply State.dpllEnter_reach | (intros; show P _ = true; first | exact hsum _ rfl | (clear hsum; apply_assumption)) | split | dsimp only | intro _

theorem execDpllPullEnd_reach {x : Nat} (hs : Reach P Q s0 s) (hsum : ∀ k, k.cell.summary → P k) (h11 : ∀ i, P ⟨.sticky .clkAFreewheel, 0, i⟩) (h12 : ∀ i, P ⟨.sticky .clkBFreewheel, 0, i⟩) (h13 : ∀ i, P ⟨.live .clkAFreewheel, 0, i⟩) (h14 : ∀ i, P ⟨.live .clkBFreewheel, 0, i⟩) (h15 : ∀ i, P ⟨.clk .dpllState, 0, i⟩) (h16 : ∀ i, P ⟨.clk .dpllFreq, 0, i⟩) (h17 : ∀ i, P ⟨.clk .phase, 0, i⟩) (h18 : ∀ i, P ⟨.clk .selected, 0, i⟩) (h19 : ∀ i, P ⟨.clk .nFw, 0, i⟩) (h20 : ∀ i, P ⟨.sys .freeCount, 0, i⟩) (h21 : ∀ i, P ⟨.clk .driftRun, 0, i⟩) (h22 : ∀ i, P ⟨.sticky .clkASwitch, 0, i⟩) (h23 : ∀ i, P ⟨.sticky .clkBSwitch, 0, i⟩) (h24 : ∀ i, P ⟨.clk .nSwitch, 0, i⟩) (qreports : Q .reports) :
    ∃ t, execDpllPullEnd x s = .next t ∧ Reach P Q s0 t := by
  unfold execDpllPullEnd
  repeat' with_reducible first | assumption | apply finishIf_reach | apply State.dpllSelect_reach | apply State.dpllEnter_reach | apply State.set_reach | (intros; show P _ = true; first | exact hsum _ rfl | (clear hsum; apply_assumption)) | split | dsimp only | intro _

theorem execPpsEdge_reach {p : Nat} (hs : Reach P Q s0 s) (hsum : ∀ k, k.cell.summary → P k) (h11 : ∀ i, P ⟨.clk .ppsErr, 0, i⟩) (h12 : ∀ i, P ⟨.sticky .clkPpsSlew, 0, i⟩) (h13 : ∀ i, P ⟨.live .clkPpsSlew, 0, i⟩) (h14 : ∀ i, P ⟨.clk .ppsErr8, 0, i⟩) (h15 : ∀ i, P ⟨.clk .ppsFirst, 0, i⟩) (h16 : ∀ i, P ⟨.clk .ppsRun, 0, i⟩) (qreports : Q .reports) :
    ∃ t, execPpsEdge p s = .next t ∧ Reach P Q s0 t := by
  unfold execPpsEdge
  repeat' with_reducible first | assumption | apply finishIf_reach | apply State.ppsFollow_reach | apply State.setI_reach | apply State.ppsBegin_reach | (intros; show P _ = true; first | exact hsum _ rfl | (clear hsum; apply_assumption)) | split | dsimp only | intro _

theorem execXoLoss_reach (hs : Reach P Q s0 s) (hsum : ∀ k, k.cell.summary → P k) (h11 : ∀ i, P ⟨.sticky .clkXoLoss, 0, i⟩) (h12 : ∀ i, P ⟨.live .clkXoLoss, 0, i⟩) (h13 : ∀ i, P ⟨.clk .xoOk, 0, i⟩) (qreports : Q .reports) :
    ∃ t, execXoLoss s = .next t ∧ Reach P Q s0 t := by
  unfold execXoLoss
  repeat' with_reducible first | assumption | apply finishIf_reach | apply State.raise_reach | apply State.set_reach | (intros; show P _ = true; first | exact hsum _ rfl | (clear hsum; apply_assumption)) | split | dsimp only | intro _

theorem execXoHoldRecovered_reach (hs : Reach P Q s0 s) (hsum : ∀ k, k.cell.summary → P k) (h11 : ∀ i, P ⟨.live .clkXoLoss, 0, i⟩) (h12 : ∀ i, P ⟨.clk .xoOk, 0, i⟩) (qreports : Q .reports) :
    ∃ t, execXoHoldRecovered s = .next t ∧ Reach P Q s0 t := by
  unfold execXoHoldRecovered
  repeat' with_reducible first | assumption | apply finishIf_reach | apply State.lower_reach | apply State.set_reach | (intros; show P _ = true; first | exact hsum _ rfl | (clear hsum; apply_assumption)) | split | dsimp only | intro _

end Sys2Proof.Machine
end

