-- ==== Sys2Proof/Laws/MovesTimeBase.lean ====
section
/-!
SUPPORT. What the operations of Machine/TimeBase.lean may change, one lemma each (Laws/Reach.lean).
-/
namespace Sys2Proof.Machine

set_option linter.unusedTactic false
set_option linter.unreachableTactic false

variable {P : Key → Bool} {Q : Part → Bool} {s0 s : State}

theorem State.tbEnter_reach {b : Nat} {st : Nat} (hs : Reach P Q s0 s) (h1 : ∀ i, P ⟨.tim .tbState, 0, i⟩) (h2 : ∀ i, P ⟨.sticky .timTbHold, 0, i⟩) (h3 : ∀ i, P ⟨.live .timTbHold, 0, i⟩) (qreports : Q .reports) :
    Reach P Q s0 (State.tbEnter s b st) := by
  unfold State.tbEnter
  repeat' with_reducible first | assumption | apply State.set_reach | apply State.cond_reach | (intros; show P _ = true; apply_assumption) | split | dsimp only | intro _

theorem State.tbTrim_reach {b : Nat} {trim : Int} (hs : Reach P Q s0 s) (h1 : ∀ i, P ⟨.tim .tbFreq, 0, i⟩) (h2 : ∀ i, P ⟨.tim .trim, 0, i⟩) :
    Reach P Q s0 (State.tbTrim s b trim) := by
  unfold State.tbTrim
  repeat' with_reducible first | assumption | apply State.set_reach | apply State.setI_reach | (intros; show P _ = true; apply_assumption) | split | dsimp only | intro _

theorem State.tbSrcSet_reach {b : Nat} {v : Nat} (hs : Reach P Q s0 s) (h1 : ∀ i, P ⟨.tim .sampAt, 0, i⟩) (h2 : ∀ i, P ⟨.tim .outRun, 0, i⟩) (h3 : ∀ i, P ⟨.tim .lockRun, 0, i⟩) (h4 : ∀ i, P ⟨.tim .src, 0, i⟩) (h5 : ∀ i, P ⟨.tim .tbState, 0, i⟩) (h6 : ∀ i, P ⟨.sticky .timTbHold, 0, i⟩) (h7 : ∀ i, P ⟨.live .timTbHold, 0, i⟩) (h8 : ∀ i, P ⟨.tim .tbFreq, 0, i⟩) (h9 : ∀ i, P ⟨.tim .trim, 0, i⟩) (h10 : ∀ i, P ⟨.tim .integ, 0, i⟩) (qreports : Q .reports) :
    Reach P Q s0 (State.tbSrcSet s b v) := by
  unfold State.tbSrcSet
  repeat' with_reducible first | assumption | apply State.set_reach | apply State.tbEnter_reach | apply State.tbTrim_reach | (intros; show P _ = true; apply_assumption) | split | dsimp only | intro _

theorem State.tbLoad_reach {b : Nat} {t1 : Nat} (hs : Reach P Q s0 s) (h1 : ∀ i, P ⟨.tim .tbNs, 0, i⟩) (h2 : ∀ i, P ⟨.tim .tbSec, 0, i⟩) :
    Reach P Q s0 (State.tbLoad s b t1) := by
  unfold State.tbLoad
  repeat' with_reducible first | assumption | apply State.set_reach | (intros; show P _ = true; apply_assumption) | split | dsimp only | intro _

theorem State.trigLate_reach {u : Nat} (hs : Reach P Q s0 s) (h1 : ∀ i, P ⟨.sticky .timTrigLate, 0, i⟩) (h2 : ∀ i, P ⟨.tim .nTrigLate, 0, i⟩) (h3 : ∀ i, P ⟨.tim .nTrigFired, 0, i⟩) (qreports : Q .reports) :
    Reach P Q s0 (State.trigLate s u) := by
  unfold State.trigLate
  repeat' with_reducible first | assumption | apply State.event_reach | apply State.inc_reach | (intros; show P _ = true; apply_assumption) | split | dsimp only | intro _

theorem State.trigLateFire_reach {u : Nat} (hs : Reach P Q s0 s) (h1 : ∀ i, P ⟨.tim .trigHeld, 0, i⟩) (h2 : ∀ i, P ⟨.sticky .timTrigLate, 0, i⟩) (h3 : ∀ i, P ⟨.tim .nTrigLate, 0, i⟩) (h4 : ∀ i, P ⟨.tim .nTrigFired, 0, i⟩) (h5 : ∀ i, P ⟨.tim .trigArmed, 0, i⟩) (h6 : ∀ i, P ⟨.tim .trigTgt, 0, i⟩) (qreports : Q .reports) :
    Reach P Q s0 (State.trigLateFire s u) := by
  unfold State.trigLateFire
  repeat' with_reducible first | assumption | apply State.set_reach | apply State.trigLate_reach | (intros; show P _ = true; apply_assumption) | split | dsimp only | intro _

theorem State.trigLoad_reach {u : Nat} (hs : Reach P Q s0 s) (h1 : ∀ i, P ⟨.tim .trigHeld, 0, i⟩) (h2 : ∀ i, P ⟨.sticky .timTrigLate, 0, i⟩) (h3 : ∀ i, P ⟨.tim .nTrigLate, 0, i⟩) (h4 : ∀ i, P ⟨.tim .nTrigFired, 0, i⟩) (h5 : ∀ i, P ⟨.tim .trigArmed, 0, i⟩) (h6 : ∀ i, P ⟨.tim .trigTgt, 0, i⟩) (qreports : Q .reports) :
    Reach P Q s0 (State.trigLoad s u) := by
  unfold State.trigLoad
  repeat' with_reducible first | assumption | apply State.trigLateFire_reach | apply State.set_reach | (intros; show P _ = true; apply_assumption) | split | dsimp only | intro _

theorem State.trigTbStep_reach {b : Nat} (hs : Reach P Q s0 s) (h1 : ∀ i, P ⟨.tim .trigHeld, 0, i⟩) (h2 : ∀ i, P ⟨.sticky .timTrigLate, 0, i⟩) (h3 : ∀ i, P ⟨.tim .nTrigLate, 0, i⟩) (h4 : ∀ i, P ⟨.tim .nTrigFired, 0, i⟩) (h5 : ∀ i, P ⟨.tim .trigArmed, 0, i⟩) (h6 : ∀ i, P ⟨.tim .trigTgt, 0, i⟩) (qreports : Q .reports) :
    Reach P Q s0 (State.trigTbStep s b) := by
  unfold State.trigTbStep
  repeat' with_reducible first | assumption | apply State.each_reach | apply State.trigLoad_reach | (intros; show P _ = true; apply_assumption) | split | dsimp only | intro _

theorem State.tbStepTo_reach {b : Nat} {t1 : Nat} (hs : Reach P Q s0 s) (h1 : ∀ i, P ⟨.sticky .timTbStep, 0, i⟩) (h2 : ∀ i, P ⟨.tim .nStep, 0, i⟩) (h3 : ∀ i, P ⟨.tim .tbValid, 0, i⟩) (h4 : ∀ i, P ⟨.tim .tbNs, 0, i⟩) (h5 : ∀ i, P ⟨.tim .tbSec, 0, i⟩) (h6 : ∀ i, P ⟨.tim .trigHeld, 0, i⟩) (h7 : ∀ i, P ⟨.sticky .timTrigLate, 0, i⟩) (h8 : ∀ i, P ⟨.tim .nTrigLate, 0, i⟩) (h9 : ∀ i, P ⟨.tim .nTrigFired, 0, i⟩) (h10 : ∀ i, P ⟨.tim .trigArmed, 0, i⟩) (h11 : ∀ i, P ⟨.tim .trigTgt, 0, i⟩) (h12 : ∀ i, P ⟨.clk .ppsErr, 0, i⟩) (h13 : ∀ i, P ⟨.sticky .clkPpsSlew, 0, i⟩) (h14 : ∀ i, P ⟨.live .clkPpsSlew, 0, i⟩) (h15 : ∀ i, P ⟨.clk .ppsErr8, 0, i⟩) (qreports : Q .reports) :
    Reach P Q s0 (State.tbStepTo s b t1) := by
  unfold State.tbStepTo
  repeat' with_reducible first | assumption | apply State.event_reach | apply State.inc_reach | apply State.set_reach | apply State.tbLoad_reach | apply State.trigTbStep_reach | apply State.ppsTbStep_reach | (intros; show P _ = true; apply_assumption) | split | dsimp only | intro _

theorem State.tbSetNow_reach {b : Nat} (hs : Reach P Q s0 s) (h1 : ∀ i, P ⟨.sticky .timTbStep, 0, i⟩) (h2 : ∀ i, P ⟨.tim .nStep, 0, i⟩) (h3 : ∀ i, P ⟨.tim .tbValid, 0, i⟩) (h4 : ∀ i, P ⟨.tim .tbNs, 0, i⟩) (h5 : ∀ i, P ⟨.tim .tbSec, 0, i⟩) (h6 : ∀ i, P ⟨.tim .trigHeld, 0, i⟩) (h7 : ∀ i, P ⟨.sticky .timTrigLate, 0, i⟩) (h8 : ∀ i, P ⟨.tim .nTrigLate, 0, i⟩) (h9 : ∀ i, P ⟨.tim .nTrigFired, 0, i⟩) (h10 : ∀ i, P ⟨.tim .trigArmed, 0, i⟩) (h11 : ∀ i, P ⟨.tim .trigTgt, 0, i⟩) (h12 : ∀ i, P ⟨.clk .ppsErr, 0, i⟩) (h13 : ∀ i, P ⟨.sticky .clkPpsSlew, 0, i⟩) (h14 : ∀ i, P ⟨.live .clkPpsSlew, 0, i⟩) (h15 : ∀ i, P ⟨.clk .ppsErr8, 0, i⟩) (h16 : ∀ i, P ⟨.tim .tbSub, 0, i⟩) (h17 : ∀ i, P ⟨.tim .tbFrac, 0, i⟩) (qreports : Q .reports) :
    Reach P Q s0 (State.tbSetNow s b) := by
  unfold State.tbSetNow
  repeat' with_reducible first | assumption | apply State.tbStepTo_reach | apply State.set_reach | (intros; show P _ = true; apply_assumption) | split | dsimp only | intro _

theorem State.sampleAccept_reach {b : Nat} {theta : Int} (hs : Reach P Q s0 s) (h1 : ∀ i, P ⟨.tim .sampAt, 0, i⟩) (h2 : ∀ i, P ⟨.tim .tbOffset, 0, i⟩) (h3 : ∀ i, P ⟨.tim .nSamples, 0, i⟩) :
    Reach P Q s0 (State.sampleAccept s b theta) := by
  unfold State.sampleAccept
  repeat' with_reducible first | assumption | apply State.set_reach | apply State.inc_reach | (intros; show P _ = true; apply_assumption) | split | dsimp only | intro _

theorem State.servoTake_reach {b : Nat} {theta : Int} (hs : Reach P Q s0 s) (h1 : ∀ i, P ⟨.tim .tbFreq, 0, i⟩) (h2 : ∀ i, P ⟨.tim .trim, 0, i⟩) (h3 : ∀ i, P ⟨.tim .integ, 0, i⟩) :
    Reach P Q s0 (State.servoTake s b theta) := by
  unfold State.servoTake
  repeat' with_reducible first | assumption | apply State.tbTrim_reach | apply State.setI_reach | (intros; show P _ = true; apply_assumption) | split | dsimp only | intro _

theorem State.servoSample_reach {b : Nat} {theta : Int} (hs : Reach P Q s0 s) (h1 : ∀ i, P ⟨.tim .nOutlier, 0, i⟩) (h2 : ∀ i, P ⟨.tim .tbState, 0, i⟩) (h3 : ∀ i, P ⟨.sticky .timTbHold, 0, i⟩) (h4 : ∀ i, P ⟨.live .timTbHold, 0, i⟩) (h5 : ∀ i, P ⟨.tim .lockRun, 0, i⟩) (h6 : ∀ i, P ⟨.tim .outRun, 0, i⟩) (h7 : ∀ i, P ⟨.tim .sampAt, 0, i⟩) (h8 : ∀ i, P ⟨.tim .tbOffset, 0, i⟩) (h9 : ∀ i, P ⟨.tim .nSamples, 0, i⟩) (h10 : ∀ i, P ⟨.tim .tbFreq, 0, i⟩) (h11 : ∀ i, P ⟨.tim .trim, 0, i⟩) (h12 : ∀ i, P ⟨.tim .integ, 0, i⟩) (h13 : ∀ i, P ⟨.sticky .timTbStep, 0, i⟩) (h14 : ∀ i, P ⟨.tim .nStep, 0, i⟩) (h15 : ∀ i, P ⟨.tim .tbValid, 0, i⟩) (h16 : ∀ i, P ⟨.tim .tbNs, 0, i⟩) (h17 : ∀ i, P ⟨.tim .tbSec, 0, i⟩) (h18 : ∀ i, P ⟨.tim .trigHeld, 0, i⟩) (h19 : ∀ i, P ⟨.sticky .timTrigLate, 0, i⟩) (h20 : ∀ i, P ⟨.tim .nTrigLate, 0, i⟩) (h21 : ∀ i, P ⟨.tim .nTrigFired, 0, i⟩) (h22 : ∀ i, P ⟨.tim .trigArmed, 0, i⟩) (h23 : ∀ i, P ⟨.tim .trigTgt, 0, i⟩) (h24 : ∀ i, P ⟨.clk .ppsErr, 0, i⟩) (h25 : ∀ i, P ⟨.sticky .clkPpsSlew, 0, i⟩) (h26 : ∀ i, P ⟨.live .clkPpsSlew, 0, i⟩) (h27 : ∀ i, P ⟨.clk .ppsErr8, 0, i⟩) (qreports : Q .reports) :
    Reach P Q s0 (State.servoSample s b theta) := by
  unfold State.servoSample
  repeat' with_reducible first | assumption | apply State.inc_reach | apply State.tbEnter_reach | apply State.set_reach | apply State.sampleAccept_reach | apply State.servoTake_reach | apply State.tbStepTo_reach | (intros; show P _ = true; apply_assumption) | split | dsimp only | intro _

theorem State.hostApply_reach {b : Nat} (hs : Reach P Q s0 s) (h1 : ∀ i, P ⟨.tim .nOutlier, 0, i⟩) (h2 : ∀ i, P ⟨.tim .tbState, 0, i⟩) (h3 : ∀ i, P ⟨.sticky .timTbHold, 0, i⟩) (h4 : ∀ i, P ⟨.live .timTbHold, 0, i⟩) (h5 : ∀ i, P ⟨.tim .lockRun, 0, i⟩) (h6 : ∀ i, P ⟨.tim .outRun, 0, i⟩) (h7 : ∀ i, P ⟨.tim .sampAt, 0, i⟩) (h8 : ∀ i, P ⟨.tim .tbOffset, 0, i⟩) (h9 : ∀ i, P ⟨.tim .nSamples, 0, i⟩) (h10 : ∀ i, P ⟨.tim .tbFreq, 0, i⟩) (h11 : ∀ i, P ⟨.tim .trim, 0, i⟩) (h12 : ∀ i, P ⟨.tim .integ, 0, i⟩) (h13 : ∀ i, P ⟨.sticky .timTbStep, 0, i⟩) (h14 : ∀ i, P ⟨.tim .nStep, 0, i⟩) (h15 : ∀ i, P ⟨.tim .tbValid, 0, i⟩) (h16 : ∀ i, P ⟨.tim .tbNs, 0, i⟩) (h17 : ∀ i, P ⟨.tim .tbSec, 0, i⟩) (h18 : ∀ i, P ⟨.tim .trigHeld, 0, i⟩) (h19 : ∀ i, P ⟨.sticky .timTrigLate, 0, i⟩) (h20 : ∀ i, P ⟨.tim .nTrigLate, 0, i⟩) (h21 : ∀ i, P ⟨.tim .nTrigFired, 0, i⟩) (h22 : ∀ i, P ⟨.tim .trigArmed, 0, i⟩) (h23 : ∀ i, P ⟨.tim .trigTgt, 0, i⟩) (h24 : ∀ i, P ⟨.clk .ppsErr, 0, i⟩) (h25 : ∀ i, P ⟨.sticky .clkPpsSlew, 0, i⟩) (h26 : ∀ i, P ⟨.live .clkPpsSlew, 0, i⟩) (h27 : ∀ i, P ⟨.clk .ppsErr8, 0, i⟩) (qreports : Q .reports) :
    Reach P Q s0 (State.hostApply s b) := by
  unfold State.hostApply
  repeat' with_reducible first | assumption | apply State.servoSample_reach | (intros; show P _ = true; apply_assumption) | split | dsimp only | intro _

theorem State.trigArm_reach {u : Nat} (hs : Reach P Q s0 s) (h1 : ∀ i, P ⟨.tim .trigHeld, 0, i⟩) (h2 : ∀ i, P ⟨.sticky .timTrigLate, 0, i⟩) (h3 : ∀ i, P ⟨.tim .nTrigLate, 0, i⟩) (h4 : ∀ i, P ⟨.tim .nTrigFired, 0, i⟩) (h5 : ∀ i, P ⟨.tim .trigArmed, 0, i⟩) (h6 : ∀ i, P ⟨.tim .trigTgt, 0, i⟩) (qreports : Q .reports) :
    Reach P Q s0 (State.trigArm s u) := by
  unfold State.trigArm
  repeat' with_reducible first | assumption | apply State.trigLoad_reach | apply State.set_reach | (intros; show P _ = true; apply_assumption) | split | dsimp only | intro _

theorem State.trigDisarm_reach {u : Nat} (hs : Reach P Q s0 s) (h1 : ∀ i, P ⟨.tim .trigHeld, 0, i⟩) (h2 : ∀ i, P ⟨.tim .trigArmed, 0, i⟩) :
    Reach P Q s0 (State.trigDisarm s u) := by
  unfold State.trigDisarm
  repeat' with_reducible first | assumption | apply State.set_reach | (intros; show P _ = true; apply_assumption) | split | dsimp only | intro _

theorem State.osmcDisc_reach (hs : Reach P Q s0 s) (h1 : ∀ i, P ⟨.tim .nOsmcDisc, 0, i⟩) :
    Reach P Q s0 (State.osmcDisc s) := by
  unfold State.osmcDisc
  repeat' with_reducible first | assumption | apply State.inc_reach | (intros; show P _ = true; apply_assumption) | split | dsimp only | intro _

theorem execPtpSyncRx_reach {d : Nat} {m : Sys2Proof.PtpMsg} (hs : Reach P Q s0 s) (hsum : ∀ k, k.cell.summary → P k) (h11 : ∀ i, P ⟨.tim .nOsmcDisc, 0, i⟩) (h12 : ∀ i, P ⟨.tim .ptpHaveSync, d, i⟩) (h13 : ∀ i, P ⟨.tim .ptpT2, d, i⟩) (h14 : ∀ i, P ⟨.tim .ptpSyncSeq, d, i⟩) (qreports : Q .reports) :
    ∃ t, execPtpSyncRx d m s = .next t ∧ Reach P Q s0 t := by
  unfold execPtpSyncRx
  repeat' with_reducible first | assumption | apply finishIf_reach | apply State.osmcDisc_reach | apply State.set_reach | (intros; show P _ = true; first | exact hsum _ rfl | (clear hsum; apply_assumption)) | split | dsimp only | intro _

theorem execSsmTx_reach {d : Nat} (hs : Reach P Q s0 s) (hsum : ∀ k, k.cell.summary → P k) (h11 : ∀ i, P ⟨.tim .ssmTx, d, i⟩) (qreports : Q .reports) :
    ∃ t, execSsmTx d s = .next t ∧ Reach P Q s0 t := by
  unfold execSsmTx
  repeat' with_reducible first | assumption | apply finishIf_reach | apply State.set_reach | (intros; show P _ = true; first | exact hsum _ rfl | (clear hsum; apply_assumption)) | split | dsimp only | intro _

theorem State.ptpPair_reach {d : Nat} {b : Nat} (hs : Reach P Q s0 s) (h1 : ∀ i, P ⟨.tim .nSampDisc, 0, i⟩) (h2 : ∀ i, P ⟨.tim .nOutlier, 0, i⟩) (h3 : ∀ i, P ⟨.tim .tbState, 0, i⟩) (h4 : ∀ i, P ⟨.sticky .timTbHold, 0, i⟩) (h5 : ∀ i, P ⟨.live .timTbHold, 0, i⟩) (h6 : ∀ i, P ⟨.tim .lockRun, 0, i⟩) (h7 : ∀ i, P ⟨.tim .outRun, 0, i⟩) (h8 : ∀ i, P ⟨.tim .sampAt, 0, i⟩) (h9 : ∀ i, P ⟨.tim .tbOffset, 0, i⟩) (h10 : ∀ i, P ⟨.tim .nSamples, 0, i⟩) (h11 : ∀ i, P ⟨.tim .tbFreq, 0, i⟩) (h12 : ∀ i, P ⟨.tim .trim, 0, i⟩) (h13 : ∀ i, P ⟨.tim .integ, 0, i⟩) (h14 : ∀ i, P ⟨.sticky .timTbStep, 0, i⟩) (h15 : ∀ i, P ⟨.tim .nStep, 0, i⟩) (h16 : ∀ i, P ⟨.tim .tbValid, 0, i⟩) (h17 : ∀ i, P ⟨.tim .tbNs, 0, i⟩) (h18 : ∀ i, P ⟨.tim .tbSec, 0, i⟩) (h19 : ∀ i, P ⟨.tim .trigHeld, 0, i⟩) (h20 : ∀ i, P ⟨.sticky .timTrigLate, 0, i⟩) (h21 : ∀ i, P ⟨.tim .nTrigLate, 0, i⟩) (h22 : ∀ i, P ⟨.tim .nTrigFired, 0, i⟩) (h23 : ∀ i, P ⟨.tim .trigArmed, 0, i⟩) (h24 : ∀ i, P ⟨.tim .trigTgt, 0, i⟩) (h25 : ∀ i, P ⟨.clk .ppsErr, 0, i⟩) (h26 : ∀ i, P ⟨.sticky .clkPpsSlew, 0, i⟩) (h27 : ∀ i, P ⟨.live .clkPpsSlew, 0, i⟩) (h28 : ∀ i, P ⟨.clk .ppsErr8, 0, i⟩) (qreports : Q .reports) :
    Reach P Q s0 (State.ptpPair s d b) := by
  unfold State.ptpPair
  repeat' with_reducible first | assumption | apply State.inc_reach | apply State.servoSample_reach | (intros; show P _ = true; apply_assumption) | split | dsimp only | intro _

theorem execPtpFollowUpRx_reach {d : Nat} {m : Sys2Proof.PtpMsg} {t1 : Nat} (hs : Reach P Q s0 s) (hsum : ∀ k, k.cell.summary → P k) (h11 : ∀ i, P ⟨.tim .nOsmcDisc, 0, i⟩) (h12 : ∀ i, P ⟨.tim .nSampDisc, 0, i⟩) (h13 : ∀ i, P ⟨.tim .nOutlier, 0, i⟩) (h14 : ∀ i, P ⟨.tim .tbState, 0, i⟩) (h15 : ∀ i, P ⟨.sticky .timTbHold, 0, i⟩) (h16 : ∀ i, P ⟨.live .timTbHold, 0, i⟩) (h17 : ∀ i, P ⟨.tim .lockRun, 0, i⟩) (h18 : ∀ i, P ⟨.tim .outRun, 0, i⟩) (h19 : ∀ i, P ⟨.tim .sampAt, 0, i⟩) (h20 : ∀ i, P ⟨.tim .tbOffset, 0, i⟩) (h21 : ∀ i, P ⟨.tim .nSamples, 0, i⟩) (h22 : ∀ i, P ⟨.tim .tbFreq, 0, i⟩) (h23 : ∀ i, P ⟨.tim .trim, 0, i⟩) (h24 : ∀ i, P ⟨.tim .integ, 0, i⟩) (h25 : ∀ i, P ⟨.sticky .timTbStep, 0, i⟩) (h26 : ∀ i, P ⟨.tim .nStep, 0, i⟩) (h27 : ∀ i, P ⟨.tim .tbValid, 0, i⟩) (h28 : ∀ i, P ⟨.tim .tbNs, 0, i⟩) (h29 : ∀ i, P ⟨.tim .tbSec, 0, i⟩) (h30 : ∀ i, P ⟨.tim .trigHeld, 0, i⟩) (h31 : ∀ i, P ⟨.sticky .timTrigLate, 0, i⟩) (h32 : ∀ i, P ⟨.tim .nTrigLate, 0, i⟩) (h33 : ∀ i, P ⟨.tim .nTrigFired, 0, i⟩) (h34 : ∀ i, P ⟨.tim .trigArmed, 0, i⟩) (h35 : ∀ i, P ⟨.tim .trigTgt, 0, i⟩) (h36 : ∀ i, P ⟨.clk .ppsErr, 0, i⟩) (h37 : ∀ i, P ⟨.sticky .clkPpsSlew, 0, i⟩) (h38 : ∀ i, P ⟨.live .clkPpsSlew, 0, i⟩) (h39 : ∀ i, P ⟨.clk .ppsErr8, 0, i⟩) (h40 : ∀ i, P ⟨.tim .ptpHaveSync, d, i⟩) (h41 : ∀ i, P ⟨.tim .ptpT1, d, i⟩) (qreports : Q .reports) :
    ∃ t, execPtpFollowUpRx d m t1 s = .next t ∧ Reach P Q s0 t := by
  unfold execPtpFollowUpRx
  repeat' with_reducible first | assumption | apply finishIf_reach | apply State.osmcDisc_reach | apply State.ptpPair_reach | apply State.set_reach | (intros; show P _ = true; first | exact hsum _ rfl | (clear hsum; apply_assumption)) | split | dsimp only | intro _

theorem execSsmRx_reach {d : Nat} {ql : Nat} (hs : Reach P Q s0 s) (hsum : ∀ k, k.cell.summary → P k) (h11 : ∀ i, P ⟨.tim .rxQl, d, i⟩) (qreports : Q .reports) :
    ∃ t, execSsmRx d ql s = .next t ∧ Reach P Q s0 t := by
  unfold execSsmRx
  repeat' with_reducible first | assumption | apply finishIf_reach | apply State.set_reach | (intros; show P _ = true; first | exact hsum _ rfl | (clear hsum; apply_assumption)) | split | dsimp only | intro _

theorem execTriggerDisarm_reach {u : Nat} (hs : Reach P Q s0 s) (hsum : ∀ k, k.cell.summary → P k) (h11 : ∀ i, P ⟨.tim .trigHeld, 0, i⟩) (h12 : ∀ i, P ⟨.tim .trigArmed, 0, i⟩) (qreports : Q .reports) :
    ∃ t, execTriggerDisarm u s = .next t ∧ Reach P Q s0 t := by
  unfold execTriggerDisarm
  repeat' with_reducible first | assumption | apply finishIf_reach | apply State.trigDisarm_reach | (intros; show P _ = true; first | exact hsum _ rfl | (clear hsum; apply_assumption)) | split | dsimp only | intro _

theorem State.tbTick_reach {b : Nat} (hs : Reach P Q s0 s) (h1 : ∀ i, P ⟨.tim .tbSub, 0, i⟩) (h2 : ∀ i, P ⟨.tim .tbFrac, 0, i⟩) (h3 : ∀ i, P ⟨.tim .tbNs, 0, i⟩) (h4 : ∀ i, P ⟨.tim .tbSec, 0, i⟩) :
    Reach P Q s0 (State.tbTick s b) := by
  unfold State.tbTick
  repeat' with_reducible first | assumption | apply State.set_reach | apply State.tbLoad_reach | (intros; show P _ = true; apply_assumption) | split | dsimp only | intro _

theorem execTbServoSample_reach {tb : Nat} {theta : Int} (hs : Reach P Q s0 s) (hsum : ∀ k, k.cell.summary → P k) (h11 : ∀ i, P ⟨.tim .nOutlier, 0, i⟩) (h12 : ∀ i, P ⟨.tim .tbState, 0, i⟩) (h13 : ∀ i, P ⟨.sticky .timTbHold, 0, i⟩) (h14 : ∀ i, P ⟨.live .timTbHold, 0, i⟩) (h15 : ∀ i, P ⟨.tim .lockRun, 0, i⟩) (h16 : ∀ i, P ⟨.tim .outRun, 0, i⟩) (h17 : ∀ i, P ⟨.tim .sampAt, 0, i⟩) (h18 : ∀ i, P ⟨.tim .tbOffset, 0, i⟩) (h19 : ∀ i, P ⟨.tim .nSamples, 0, i⟩) (h20 : ∀ i, P ⟨.tim .tbFreq, 0, i⟩) (h21 : ∀ i, P ⟨.tim .trim, 0, i⟩) (h22 : ∀ i, P ⟨.tim .integ, 0, i⟩) (h23 : ∀ i, P ⟨.sticky .timTbStep, 0, i⟩) (h24 : ∀ i, P ⟨.tim .nStep, 0, i⟩) (h25 : ∀ i, P ⟨.tim .tbValid, 0, i⟩) (h26 : ∀ i, P ⟨.tim .tbNs, 0, i⟩) (h27 : ∀ i, P ⟨.tim .tbSec, 0, i⟩) (h28 : ∀ i, P ⟨.tim .trigHeld, 0, i⟩) (h29 : ∀ i, P ⟨.sticky .timTrigLate, 0, i⟩) (h30 : ∀ i, P ⟨.tim .nTrigLate, 0, i⟩) (h31 : ∀ i, P ⟨.tim .nTrigFired, 0, i⟩) (h32 : ∀ i, P ⟨.tim .trigArmed, 0, i⟩) (h33 : ∀ i, P ⟨.tim .trigTgt, 0, i⟩) (h34 : ∀ i, P ⟨.clk .ppsErr, 0, i⟩) (h35 : ∀ i, P ⟨.sticky .clkPpsSlew, 0, i⟩) (h36 : ∀ i, P ⟨.live .clkPpsSlew, 0, i⟩) (h37 : ∀ i, P ⟨.clk .ppsErr8, 0, i⟩) (qreports : Q .reports) :
    ∃ t, execTbServoSample tb theta s = .next t ∧ Reach P Q s0 t := by
  unfold execTbServoSample
  repeat' with_reducible first | assumption | apply finishIf_reach | apply State.servoSample_reach | (intros; show P _ = true; first | exact hsum _ rfl | (clear hsum; apply_assumption)) | split | dsimp only | intro _

theorem State.trigFire_reach {u : Nat} (hs : Reach P Q s0 s) (h1 : ∀ i, P ⟨.tim .nTrigFired, 0, i⟩) (h2 : ∀ i, P ⟨.tim .trigTgt, 0, i⟩) (h3 : ∀ i, P ⟨.tim .trigHeld, 0, i⟩) (h4 : ∀ i, P ⟨.sticky .timTrigLate, 0, i⟩) (h5 : ∀ i, P ⟨.tim .nTrigLate, 0, i⟩) (h6 : ∀ i, P ⟨.tim .trigArmed, 0, i⟩) (qreports : Q .reports) :
    Reach P Q s0 (State.trigFire s u) := by
  unfold State.trigFire
  repeat' with_reducible first | assumption | apply State.inc_reach | apply State.set_reach | apply State.trigLateFire_reach | (intros; show P _ = true; apply_assumption) | split | dsimp only | intro _

theorem execTriggerFire_reach {u : Nat} (hs : Reach P Q s0 s) (hsum : ∀ k, k.cell.summary → P k) (h11 : ∀ i, P ⟨.tim .nTrigFired, 0, i⟩) (h12 : ∀ i, P ⟨.tim .trigTgt, 0, i⟩) (h13 : ∀ i, P ⟨.tim .trigHeld, 0, i⟩) (h14 : ∀ i, P ⟨.sticky .timTrigLate, 0, i⟩) (h15 : ∀ i, P ⟨.tim .nTrigLate, 0, i⟩) (h16 : ∀ i, P ⟨.tim .trigArmed, 0, i⟩) (qreports : Q .reports) :
    ∃ t, execTriggerFire u s = .next t ∧ Reach P Q s0 t := by
  unfold execTriggerFire
  repeat' with_reducible first | assumption | apply finishIf_reach | apply State.trigFire_reach | (intros; show P _ = true; first | exact hsum _ rfl | (clear hsum; apply_assumption)) | split | dsimp only | intro _

theorem execPpsinEdge_reach {i : Nat} (hs : Reach P Q s0 s) (hsum : ∀ k, k.cell.summary → P k) (h11 : ∀ i, P ⟨.tim .nOutlier, 0, i⟩) (h12 : ∀ i, P ⟨.tim .tbState, 0, i⟩) (h13 : ∀ i, P ⟨.sticky .timTbHold, 0, i⟩) (h14 : ∀ i, P ⟨.live .timTbHold, 0, i⟩) (h15 : ∀ i, P ⟨.tim .lockRun, 0, i⟩) (h16 : ∀ i, P ⟨.tim .outRun, 0, i⟩) (h17 : ∀ i, P ⟨.tim .sampAt, 0, i⟩) (h18 : ∀ i, P ⟨.tim .tbOffset, 0, i⟩) (h19 : ∀ i, P ⟨.tim .nSamples, 0, i⟩) (h20 : ∀ i, P ⟨.tim .tbFreq, 0, i⟩) (h21 : ∀ i, P ⟨.tim .trim, 0, i⟩) (h22 : ∀ i, P ⟨.tim .integ, 0, i⟩) (h23 : ∀ i, P ⟨.sticky .timTbStep, 0, i⟩) (h24 : ∀ i, P ⟨.tim .nStep, 0, i⟩) (h25 : ∀ i, P ⟨.tim .tbValid, 0, i⟩) (h26 : ∀ i, P ⟨.tim .tbNs, 0, i⟩) (h27 : ∀ i, P ⟨.tim .tbSec, 0, i⟩) (h28 : ∀ i, P ⟨.tim .trigHeld, 0, i⟩) (h29 : ∀ i, P ⟨.sticky .timTrigLate, 0, i⟩) (h30 : ∀ i, P ⟨.tim .nTrigLate, 0, i⟩) (h31 : ∀ i, P ⟨.tim .nTrigFired, 0, i⟩) (h32 : ∀ i, P ⟨.tim .trigArmed, 0, i⟩) (h33 : ∀ i, P ⟨.tim .trigTgt, 0, i⟩) (h34 : ∀ i, P ⟨.clk .ppsErr, 0, i⟩) (h35 : ∀ i, P ⟨.sticky .clkPpsSlew, 0, i⟩) (h36 : ∀ i, P ⟨.live .clkPpsSlew, 0, i⟩) (h37 : ∀ i, P ⟨.clk .ppsErr8, 0, i⟩) (qreports : Q .reports) :
    ∃ t, execPpsinEdge i s = .next t ∧ Reach P Q s0 t := by
  unfold execPpsinEdge
  repeat' with_reducible first | assumption | apply finishIf_reach | apply State.each_reach | apply State.servoSample_reach | (intros; show P _ = true; first | exact hsum _ rfl | (clear hsum; apply_assumption)) | split | dsimp only | intro _

theorem State.aoTick_reach (hs : Reach P Q s0 s) (h1 : ∀ i, P ⟨.tim .aoNs, 0, i⟩) (h2 : ∀ i, P ⟨.tim .aoSec, 0, i⟩) :
    Reach P Q s0 (State.aoTick s) := by
  unfold State.aoTick
  repeat' with_reducible first | assumption | apply State.set_reach | (intros; show P _ = true; apply_assumption) | split | dsimp only | intro _

theorem execTbHostApply_reach {tb : Nat} (hs : Reach P Q s0 s) (hsum : ∀ k, k.cell.summary → P k) (h11 : ∀ i, P ⟨.tim .nOutlier, 0, i⟩) (h12 : ∀ i, P ⟨.tim .tbState, 0, i⟩) (h13 : ∀ i, P ⟨.sticky .timTbHold, 0, i⟩) (h14 : ∀ i, P ⟨.live .timTbHold, 0, i⟩) (h15 : ∀ i, P ⟨.tim .lockRun, 0, i⟩) (h16 : ∀ i, P ⟨.tim .outRun, 0, i⟩) (h17 : ∀ i, P ⟨.tim .sampAt, 0, i⟩) (h18 : ∀ i, P ⟨.tim .tbOffset, 0, i⟩) (h19 : ∀ i, P ⟨.tim .nSamples, 0, i⟩) (h20 : ∀ i, P ⟨.tim .tbFreq, 0, i⟩) (h21 : ∀ i, P ⟨.tim .trim, 0, i⟩) (h22 : ∀ i, P ⟨.tim .integ, 0, i⟩) (h23 : ∀ i, P ⟨.sticky .timTbStep, 0, i⟩) (h24 : ∀ i, P ⟨.tim .nStep, 0, i⟩) (h25 : ∀ i, P ⟨.tim .tbValid, 0, i⟩) (h26 : ∀ i, P ⟨.tim .tbNs, 0, i⟩) (h27 : ∀ i, P ⟨.tim .tbSec, 0, i⟩) (h28 : ∀ i, P ⟨.tim .trigHeld, 0, i⟩) (h29 : ∀ i, P ⟨.sticky .timTrigLate, 0, i⟩) (h30 : ∀ i, P ⟨.tim .nTrigLate, 0, i⟩) (h31 : ∀ i, P ⟨.tim .nTrigFired, 0, i⟩) (h32 : ∀ i, P ⟨.tim .trigArmed, 0, i⟩) (h33 : ∀ i, P ⟨.tim .trigTgt, 0, i⟩) (h34 : ∀ i, P ⟨.clk .ppsErr, 0, i⟩) (h35 : ∀ i, P ⟨.sticky .clkPpsSlew, 0, i⟩) (h36 : ∀ i, P ⟨.live .clkPpsSlew, 0, i⟩) (h37 : ∀ i, P ⟨.clk .ppsErr8, 0, i⟩) (qreports : Q .reports) :
    ∃ t, execTbHostApply tb s = .next t ∧ Reach P Q s0 t := by
  unfold execTbHostApply
  repeat' with_reducible first | assumption | apply finishIf_reach | apply State.hostApply_reach | (intros; show P _ = true; first | exact hsum _ rfl | (clear hsum; apply_assumption)) | split | dsimp only | intro _

theorem execPtpDelayReqRx_reach {d : Nat} {m : Sys2Proof.PtpMsg} (hs : Reach P Q s0 s) (hsum : ∀ k, k.cell.summary → P k) (h11 : ∀ i, P ⟨.tim .nOsmcDisc, 0, i⟩) (h12 : ∀ i, P ⟨.tim .ptpReqRxSeq, d, i⟩) (h13 : ∀ i, P ⟨.tim .ptpTxT4, d, i⟩) (qreports : Q .reports) :
    ∃ t, execPtpDelayReqRx d m s = .next t ∧ Reach P Q s0 t := by
  unfold execPtpDelayReqRx
  repeat' with_reducible first | assumption | apply finishIf_reach | apply State.osmcDisc_reach | apply State.set_reach | (intros; show P _ = true; first | exact hsum _ rfl | (clear hsum; apply_assumption)) | split | dsimp only | intro _

theorem execTriggerArm_reach {u : Nat} (hs : Reach P Q s0 s) (hsum : ∀ k, k.cell.summary → P k) (h11 : ∀ i, P ⟨.tim .trigHeld, 0, i⟩) (h12 : ∀ i, P ⟨.sticky .timTrigLate, 0, i⟩) (h13 : ∀ i, P ⟨.tim .nTrigLate, 0, i⟩) (h14 : ∀ i, P ⟨.tim .nTrigFired, 0, i⟩) (h15 : ∀ i, P ⟨.tim .trigArmed, 0, i⟩) (h16 : ∀ i, P ⟨.tim .trigTgt, 0, i⟩) (qreports : Q .reports) :
    ∃ t, execTriggerArm u s = .next t ∧ Reach P Q s0 t := by
  unfold execTriggerArm
  repeat' with_reducible first | assumption | apply finishIf_reach | apply State.trigArm_reach | (intros; show P _ = true; first | exact hsum _ rfl | (clear hsum; apply_assumption)) | split | dsimp only | intro _

theorem execTriggerHeldLoad_reach {u : Nat} (hs : Reach P Q s0 s) (hsum : ∀ k, k.cell.summary → P k) (h11 : ∀ i, P ⟨.tim .trigHeld, 0, i⟩) (h12 : ∀ i, P ⟨.sticky .timTrigLate, 0, i⟩) (h13 : ∀ i, P ⟨.tim .nTrigLate, 0, i⟩) (h14 : ∀ i, P ⟨.tim .nTrigFired, 0, i⟩) (h15 : ∀ i, P ⟨.tim .trigArmed, 0, i⟩) (h16 : ∀ i, P ⟨.tim .trigTgt, 0, i⟩) (qreports : Q .reports) :
    ∃ t, execTriggerHeldLoad u s = .next t ∧ Reach P Q s0 t := by
  unfold execTriggerHeldLoad
  repeat' with_reducible first | assumption | apply finishIf_reach | apply State.trigLoad_reach | (intros; show P _ = true; first | exact hsum _ rfl | (clear hsum; apply_assumption)) | split | dsimp only | intro _

theorem execPtpSyncTimer_reach {d : Nat} {tb : Nat} (hs : Reach P Q s0 s) (hsum : ∀ k, k.cell.summary → P k) (h11 : ∀ i, P ⟨.tim .ptpTxT1, d, i⟩) (h12 : ∀ i, P ⟨.tim .ptpTxSeq, d, i⟩) (h13 : ∀ i, P ⟨.tim .ptpT3, d, i⟩) (h14 : ∀ i, P ⟨.tim .ptpReqSeq, d, i⟩) (qreports : Q .reports) :
    ∃ t, execPtpSyncTimer d tb s = .next t ∧ Reach P Q s0 t := by
  unfold execPtpSyncTimer
  repeat' with_reducible first | assumption | apply finishIf_reach | apply State.set_reach | (intros; show P _ = true; first | exact hsum _ rfl | (clear hsum; apply_assumption)) | split | dsimp only | intro _

theorem execPtpDelayRespRx_reach {d : Nat} {m : Sys2Proof.PtpMsg} {t4 : Nat} (hs : Reach P Q s0 s) (hsum : ∀ k, k.cell.summary → P k) (h11 : ∀ i, P ⟨.tim .nOsmcDisc, 0, i⟩) (h12 : ∀ i, P ⟨.tim .nSampDisc, 0, i⟩) (h13 : ∀ i, P ⟨.tim .nOutlier, 0, i⟩) (h14 : ∀ i, P ⟨.tim .tbState, 0, i⟩) (h15 : ∀ i, P ⟨.sticky .timTbHold, 0, i⟩) (h16 : ∀ i, P ⟨.live .timTbHold, 0, i⟩) (h17 : ∀ i, P ⟨.tim .lockRun, 0, i⟩) (h18 : ∀ i, P ⟨.tim .outRun, 0, i⟩) (h19 : ∀ i, P ⟨.tim .sampAt, 0, i⟩) (h20 : ∀ i, P ⟨.tim .tbOffset, 0, i⟩) (h21 : ∀ i, P ⟨.tim .nSamples, 0, i⟩) (h22 : ∀ i, P ⟨.tim .tbFreq, 0, i⟩) (h23 : ∀ i, P ⟨.tim .trim, 0, i⟩) (h24 : ∀ i, P ⟨.tim .integ, 0, i⟩) (h25 : ∀ i, P ⟨.sticky .timTbStep, 0, i⟩) (h26 : ∀ i, P ⟨.tim .nStep, 0, i⟩) (h27 : ∀ i, P ⟨.tim .tbValid, 0, i⟩) (h28 : ∀ i, P ⟨.tim .tbNs, 0, i⟩) (h29 : ∀ i, P ⟨.tim .tbSec, 0, i⟩) (h30 : ∀ i, P ⟨.tim .trigHeld, 0, i⟩) (h31 : ∀ i, P ⟨.sticky .timTrigLate, 0, i⟩) (h32 : ∀ i, P ⟨.tim .nTrigLate, 0, i⟩) (h33 : ∀ i, P ⟨.tim .nTrigFired, 0, i⟩) (h34 : ∀ i, P ⟨.tim .trigArmed, 0, i⟩) (h35 : ∀ i, P ⟨.tim .trigTgt, 0, i⟩) (h36 : ∀ i, P ⟨.clk .ppsErr, 0, i⟩) (h37 : ∀ i, P ⟨.sticky .clkPpsSlew, 0, i⟩) (h38 : ∀ i, P ⟨.live .clkPpsSlew, 0, i⟩) (h39 : ∀ i, P ⟨.clk .ppsErr8, 0, i⟩) (h40 : ∀ i, P ⟨.tim .ptpT3, d, i⟩) (h41 : ∀ i, P ⟨.tim .ptpHaveReq, d, i⟩) (h42 : ∀ i, P ⟨.tim .ptpT4, d, i⟩) (h43 : ∀ i, P ⟨.tim .ptpPairT3, d, i⟩) (qreports : Q .reports) :
    ∃ t, execPtpDelayRespRx d m t4 s = .next t ∧ Reach P Q s0 t := by
  unfold execPtpDelayRespRx
  repeat' with_reducible first | assumption | apply finishIf_reach | apply State.osmcDisc_reach | apply State.ptpPair_reach | apply State.set_reach | (intros; show P _ = true; first | exact hsum _ rfl | (clear hsum; apply_assumption)) | split | dsimp only | intro _

theorem execTbSampleTimeout_reach {tb : Nat} (hs : Reach P Q s0 s) (hsum : ∀ k, k.cell.summary → P k) (h11 : ∀ i, P ⟨.tim .tbState, 0, i⟩) (h12 : ∀ i, P ⟨.sticky .timTbHold, 0, i⟩) (h13 : ∀ i, P ⟨.live .timTbHold, 0, i⟩) (h14 : ∀ i, P ⟨.tim .tbFreq, 0, i⟩) (h15 : ∀ i, P ⟨.tim .trim, 0, i⟩) (qreports : Q .reports) :
    ∃ t, execTbSampleTimeout tb s = .next t ∧ Reach P Q s0 t := by
  unfold execTbSampleTimeout
  repeat' with_reducible first | assumption | apply finishIf_reach | apply State.tbEnter_reach | apply State.tbTrim_reach | (intros; show P _ = true; first | exact hsum _ rfl | (clear hsum; apply_assumption)) | split | dsimp only | intro _

theorem execTbSet_reach {tb : Nat} (hs : Reach P Q s0 s) (hsum : ∀ k, k.cell.summary → P k) (h11 : ∀ i, P ⟨.sticky .timTbStep, 0, i⟩) (h12 : ∀ i, P ⟨.tim .nStep, 0, i⟩) (h13 : ∀ i, P ⟨.tim .tbValid, 0, i⟩) (h14 : ∀ i, P ⟨.tim .tbNs, 0, i⟩) (h15 : ∀ i, P ⟨.tim .tbSec, 0, i⟩) (h16 : ∀ i, P ⟨.tim .trigHeld, 0, i⟩) (h17 : ∀ i, P ⟨.sticky .timTrigLate, 0, i⟩) (h18 : ∀ i, P ⟨.tim .nTrigLate, 0, i⟩) (h19 : ∀ i, P ⟨.tim .nTrigFired, 0, i⟩) (h20 : ∀ i, P ⟨.tim .trigArmed, 0, i⟩) (h21 : ∀ i, P ⟨.tim .trigTgt, 0, i⟩) (h22 : ∀ i, P ⟨.clk .ppsErr, 0, i⟩) (h23 : ∀ i, P ⟨.sticky .clkPpsSlew, 0, i⟩) (h24 : ∀ i, P ⟨.live .clkPpsSlew, 0, i⟩) (h25 : ∀ i, P ⟨.clk .ppsErr8, 0, i⟩) (h26 : ∀ i, P ⟨.tim .tbSub, 0, i⟩) (h27 : ∀ i, P ⟨.tim .tbFrac, 0, i⟩) (qreports : Q .reports) :
    ∃ t, execTbSet tb s = .next t ∧ Reach P Q s0 t := by
  unfold execTbSet
  repeat' with_reducible first | assumption | apply finishIf_reach | apply State.tbSetNow_reach | (intros; show P _ = true; first | exact hsum _ rfl | (clear hsum; apply_assumption)) | split | dsimp only | intro _

end Sys2Proof.Machine
end

