-- ==== Sys2Proof/Laws/MovesWords.lean ====
section
/-!
SUPPORT. What the operations of Machine/Words.lean may change, one lemma each (Laws/Reach.lean).
-/
namespace Sys2Proof.Machine

set_option linter.unusedTactic false
set_option linter.unreachableTactic false

variable {P : Key → Bool} {Q : Part → Bool} {s0 s : State}

theorem State.setPtr_reach {w : Win} {d : Nat} {p : Sys2Proof.APort} {e : Nat} {k : Nat} (hs : Reach P Q s0 s) (h1 : ∀ i, P ⟨.sys .winWord, d, i⟩) (h2 : ∀ i, P ⟨.sys .winEntry, d, i⟩) :
    Reach P Q s0 (State.setPtr s w d p e k) := by
  unfold State.setPtr
  repeat' with_reducible first | assumption | apply State.set_reach | (intros; show P _ = true; apply_assumption) | split | dsimp only | intro _

end Sys2Proof.Machine
end

