-- ==== Sys2Proof/Laws/MovesDiagnostics.lean ====
section
/-!
SUPPORT. What the operations of Machine/Diagnostics.lean may change, one lemma each (Laws/Reach.lean).
-/
namespace Sys2Proof.Machine

set_option linter.unusedTactic false
set_option linter.unreachableTactic false

variable {P : Key → Bool} {Q : Part → Bool} {s0 s : State}

theorem State.injFire_reach {d : Nat} {u : Nat} (hs : Reach P Q s0 s) (h1 : ∀ i, P ⟨.inj .left, d, i⟩) (h2 : ∀ i, P ⟨.inj .uResult, d, i⟩) (h3 : ∀ i, P ⟨.inj .uActive, d, i⟩) :
    Reach P Q s0 (State.injFire s d u) := by
  unfold State.injFire
  repeat' with_reducible first | assumption | apply State.set_reach | (intros; show P _ = true; apply_assumption) | split | dsimp only | intro _

theorem State.injStop_reach {d : Nat} {u : Nat} (hs : Reach P Q s0 s) (h1 : ∀ i, P ⟨.inj .uResult, d, i⟩) (h2 : ∀ i, P ⟨.inj .uActive, d, i⟩) :
    Reach P Q s0 (State.injStop s d u) := by
  unfold State.injStop
  repeat' with_reducible first | assumption | apply State.set_reach | (intros; show P _ = true; apply_assumption) | split | dsimp only | intro _

theorem State.crcShow_reach (hs : Reach P Q s0 s) (h1 : ∀ i, P ⟨.crc .jobsQueued, 0, i⟩) :
    Reach P Q s0 (State.crcShow s) := by
  unfold State.crcShow
  repeat' with_reducible first | assumption | apply State.set_reach | (intros; show P _ = true; apply_assumption) | split | dsimp only | intro _

theorem State.crcNext_reach (hs : Reach P Q s0 s) (h1 : ∀ i, P ⟨.crc .resStatus, 0, i⟩) :
    Reach P Q s0 (State.crcNext s) := by
  unfold State.crcNext
  repeat' with_reducible first | assumption | apply State.set_reach | (intros; show P _ = true; apply_assumption) | split | dsimp only | intro _

theorem State.crcSubmit_reach (hs : Reach P Q s0 s) (h1 : ∀ i, P ⟨.crc .nReject, 0, i⟩) (h2 : ∀ i, P ⟨.crc .jobLen, 0, i⟩) (h3 : ∀ i, P ⟨.crc .jobAddr, 0, i⟩) (h4 : ∀ i, P ⟨.crc .jobCfg, 0, i⟩) (h5 : ∀ i, P ⟨.crc .jobXor, 0, i⟩) (h6 : ∀ i, P ⟨.crc .jobInit, 0, i⟩) (h7 : ∀ i, P ⟨.crc .jobPoly, 0, i⟩) (h8 : ∀ i, P ⟨.crc .resStatus, 0, i⟩) (h9 : ∀ i, P ⟨.crc .slotRead, 0, i⟩) (h10 : ∀ i, P ⟨.crc .submits, 0, i⟩) (h11 : ∀ i, P ⟨.crc .jobOrder, 0, i⟩) (h12 : ∀ i, P ⟨.crc .resSlot, 0, i⟩) (h13 : ∀ i, P ⟨.crc .resFaultAddr, 0, i⟩) (h14 : ∀ i, P ⟨.crc .resBytes, 0, i⟩) (h15 : ∀ i, P ⟨.crc .resResult, 0, i⟩) (h16 : ∀ i, P ⟨.crc .jobsQueued, 0, i⟩) :
    Reach P Q s0 (State.crcSubmit s) := by
  unfold State.crcSubmit
  repeat' with_reducible first | assumption | apply State.inc_reach | apply State.set_reach | apply State.crcShow_reach | apply State.crcNext_reach | (intros; show P _ = true; apply_assumption) | split | dsimp only | intro _

theorem State.logWrite_reach {r : Report} (hs : Reach P Q s0 s) (h1 : ∀ i, P ⟨.win .almLog, 0, i⟩) (h2 : ∀ i, P ⟨.sticky .telOvf, 0, i⟩) (h3 : ∀ i, P ⟨.tel .dropped, 0, i⟩) (h4 : ∀ i, P ⟨.tel .nDrop, 0, i⟩) (h5 : ∀ i, P ⟨.tel .written, 0, i⟩) (h6 : ∀ i, P ⟨.alm .nLogOverwrite, 0, i⟩) (h7 : ∀ i, P ⟨.alm .nLogEntries, 0, i⟩) (h8 : ∀ i, P ⟨.alm .logNext, 0, i⟩) (qreports : Q .reports) (qtelOut : Q .telOut) :
    Reach P Q s0 (State.logWrite s r) := by
  unfold State.logWrite
  repeat' with_reducible first | assumption | apply State.each_reach | apply State.setWin_reach | apply State.telAll_reach | apply State.incIf_reach | apply State.inc_reach | apply State.set_reach | (intros; show P _ = true; apply_assumption) | split | dsimp only | intro _

theorem execAlarmReportRx_reach {d : Nat} (hs : Reach P Q s0 s) (hsum : ∀ k, k.cell.summary → P k) (h11 : ∀ i, P ⟨.win .almLog, 0, i⟩) (h12 : ∀ i, P ⟨.sticky .telOvf, 0, i⟩) (h13 : ∀ i, P ⟨.tel .dropped, 0, i⟩) (h14 : ∀ i, P ⟨.tel .nDrop, 0, i⟩) (h15 : ∀ i, P ⟨.tel .written, 0, i⟩) (h16 : ∀ i, P ⟨.alm .nLogOverwrite, 0, i⟩) (h17 : ∀ i, P ⟨.alm .nLogEntries, 0, i⟩) (h18 : ∀ i, P ⟨.alm .logNext, 0, i⟩) (qreports : Q .reports) (qtelOut : Q .telOut) :
    ∃ t, execAlarmReportRx d s = .next t ∧ Reach P Q s0 t := by
  unfold execAlarmReportRx
  repeat' with_reducible first | assumption | apply finishIf_reach | apply State.logWrite_reach | apply idle_reach | (intros; show P _ = true; first | exact hsum _ rfl | (clear hsum; apply_assumption)) | split | dsimp only | intro _ | apply State.reports_reach

theorem execInjFire_reach {d : Nat} {u : Nat} (hs : Reach P Q s0 s) (hsum : ∀ k, k.cell.summary → P k) (h11 : ∀ i, P ⟨.inj .left, d, i⟩) (h12 : ∀ i, P ⟨.inj .uResult, d, i⟩) (h13 : ∀ i, P ⟨.inj .uActive, d, i⟩) (qreports : Q .reports) :
    ∃ t, execInjFire d u s = .next t ∧ Reach P Q s0 t := by
  unfold execInjFire
  repeat' with_reducible first | assumption | apply finishIf_reach | apply State.injFire_reach | (intros; show P _ = true; first | exact hsum _ rfl | (clear hsum; apply_assumption)) | split | dsimp only | intro _

theorem State.telDoorbell_reach {t1 : Nat} {value : Nat} (hs : Reach P Q s0 s) (h1 : ∀ i, P ⟨.tel .db, 0, i⟩) (h2 : ∀ i, P ⟨.tel .nDbBad, 0, i⟩) (qtelOut : Q .telOut) :
    Reach P Q s0 (State.telDoorbell s t1 value) := by
  unfold State.telDoorbell
  repeat' with_reducible first | assumption | apply State.set_reach | apply State.inc_reach | (intros; show P _ = true; apply_assumption) | split | dsimp only | intro _ | apply State.telOut_reach

theorem execTelDoorbellWrite_reach {t1 : Nat} {value : Nat} (hs : Reach P Q s0 s) (hsum : ∀ k, k.cell.summary → P k) (h11 : ∀ i, P ⟨.tel .db, 0, i⟩) (h12 : ∀ i, P ⟨.tel .nDbBad, 0, i⟩) (qreports : Q .reports) (qtelOut : Q .telOut) :
    ∃ t, execTelDoorbellWrite t1 value s = .next t ∧ Reach P Q s0 t := by
  unfold execTelDoorbellWrite
  repeat' with_reducible first | assumption | apply finishIf_reach | apply State.telDoorbell_reach | (intros; show P _ = true; first | exact hsum _ rfl | (clear hsum; apply_assumption)) | split | dsimp only | intro _

theorem execCrcSubmit_reach (hs : Reach P Q s0 s) (hsum : ∀ k, k.cell.summary → P k) (h11 : ∀ i, P ⟨.crc .nReject, 0, i⟩) (h12 : ∀ i, P ⟨.crc .jobLen, 0, i⟩) (h13 : ∀ i, P ⟨.crc .jobAddr, 0, i⟩) (h14 : ∀ i, P ⟨.crc .jobCfg, 0, i⟩) (h15 : ∀ i, P ⟨.crc .jobXor, 0, i⟩) (h16 : ∀ i, P ⟨.crc .jobInit, 0, i⟩) (h17 : ∀ i, P ⟨.crc .jobPoly, 0, i⟩) (h18 : ∀ i, P ⟨.crc .resStatus, 0, i⟩) (h19 : ∀ i, P ⟨.crc .slotRead, 0, i⟩) (h20 : ∀ i, P ⟨.crc .submits, 0, i⟩) (h21 : ∀ i, P ⟨.crc .jobOrder, 0, i⟩) (h22 : ∀ i, P ⟨.crc .resSlot, 0, i⟩) (h23 : ∀ i, P ⟨.crc .resFaultAddr, 0, i⟩) (h24 : ∀ i, P ⟨.crc .resBytes, 0, i⟩) (h25 : ∀ i, P ⟨.crc .resResult, 0, i⟩) (h26 : ∀ i, P ⟨.crc .jobsQueued, 0, i⟩) (qreports : Q .reports) :
    ∃ t, execCrcSubmit s = .next t ∧ Reach P Q s0 t := by
  unfold execCrcSubmit
  repeat' with_reducible first | assumption | apply finishIf_reach | apply State.crcSubmit_reach | (intros; show P _ = true; first | exact hsum _ rfl | (clear hsum; apply_assumption)) | split | dsimp only | intro _

theorem execInjApply_reach {d : Nat} {u : Nat} (hs : Reach P Q s0 s) (hsum : ∀ k, k.cell.summary → P k) (h11 : ∀ i, P ⟨.sticky .injInjected, d, i⟩) (h12 : ∀ i, P ⟨.inj .nInj, d, i⟩) (h13 : ∀ i, P ⟨.inj .left, d, i⟩) (h14 : ∀ i, P ⟨.inj .uResult, d, i⟩) (h15 : ∀ i, P ⟨.inj .uActive, d, i⟩) (qreports : Q .reports) :
    ∃ t, execInjApply d u s = .next t ∧ Reach P Q s0 t := by
  unfold execInjApply
  repeat' with_reducible first | assumption | apply finishIf_reach | apply State.event_reach | apply State.inc_reach | apply State.set_reach | (intros; show P _ = true; first | exact hsum _ rfl | (clear hsum; apply_assumption)) | split | dsimp only | intro _

theorem State.jobEnd_reach {k : Nat} {status : Nat} {result : Nat} {bytes : Nat} {fault : Nat} (hs : Reach P Q s0 s) (h1 : ∀ i, P ⟨.crc .jobsQueued, 0, i⟩) (h2 : ∀ i, P ⟨.crc .resStatus, 0, i⟩) (h3 : ∀ i, P ⟨.crc .nJobs, 0, i⟩) (h4 : ∀ i, P ⟨.crc .resFaultAddr, 0, i⟩) (h5 : ∀ i, P ⟨.crc .resBytes, 0, i⟩) (h6 : ∀ i, P ⟨.crc .resResult, 0, i⟩) :
    Reach P Q s0 (State.jobEnd s k status result bytes fault) := by
  unfold State.jobEnd
  repeat' with_reducible first | assumption | apply State.crcShow_reach | apply State.crcNext_reach | apply State.inc_reach | apply State.set_reach | (intros; show P _ = true; apply_assumption) | split | dsimp only | intro _

theorem execLevelCounterTick_reach {d : Nat} {k : Nat} (hs : Reach P Q s0 s) (hsum : ∀ k, k.cell.summary → P k) (h11 : ∀ i, P ⟨.pc .nLvl, d, i⟩) (qreports : Q .reports) :
    ∃ t, execLevelCounterTick d k s = .next t ∧ Reach P Q s0 t := by
  unfold execLevelCounterTick
  repeat' with_reducible first | assumption | apply finishIf_reach | apply State.inc_reach | (intros; show P _ = true; first | exact hsum _ rfl | (clear hsum; apply_assumption)) | split | dsimp only | intro _

theorem State.telSnapshot_reach {t1 : Nat} (hs : Reach P Q s0 s) (h1 : ∀ i, P ⟨.sticky .telOvf, 0, i⟩) (h2 : ∀ i, P ⟨.tel .dropped, 0, i⟩) (h3 : ∀ i, P ⟨.tel .nDrop, 0, i⟩) (h4 : ∀ i, P ⟨.tel .written, 0, i⟩) (h5 : ∀ i, P ⟨.tel .snapNo, 0, i⟩) (qreports : Q .reports) (qtelOut : Q .telOut) :
    Reach P Q s0 (State.telSnapshot s t1) := by
  unfold State.telSnapshot
  repeat' with_reducible first | assumption | apply State.telBatch_reach | apply State.set_reach | (intros; show P _ = true; apply_assumption) | split | dsimp only | intro _

theorem State.farSend_reach {d : Nat} {sms : Nat} (hs : Reach P Q s0 s) (h1 : ∀ i, P ⟨.alm .farTxFlags, d, i⟩) (h2 : ∀ i, P ⟨.alm .farTxSeq, d, i⟩) (h3 : ∀ i, P ⟨.alm .farTxSms, d, i⟩) :
    Reach P Q s0 (State.farSend s d sms) := by
  unfold State.farSend
  repeat' with_reducible first | assumption | apply State.set_reach | (intros; show P _ = true; apply_assumption) | split | dsimp only | intro _

theorem execFarStatusTx_reach {d : Nat} (hs : Reach P Q s0 s) (hsum : ∀ k, k.cell.summary → P k) (h11 : ∀ i, P ⟨.alm .farTxFlags, d, i⟩) (h12 : ∀ i, P ⟨.alm .farTxSeq, d, i⟩) (h13 : ∀ i, P ⟨.alm .farTxSms, d, i⟩) (qreports : Q .reports) :
    ∃ t, execFarStatusTx d s = .next t ∧ Reach P Q s0 t := by
  unfold execFarStatusTx
  repeat' with_reducible first | assumption | apply finishIf_reach | apply State.farSend_reach | apply idle_reach | (intros; show P _ = true; first | exact hsum _ rfl | (clear hsum; apply_assumption)) | split | dsimp only | intro _

theorem execTelSnapshotTimer_reach {t1 : Nat} {busy : Bool} (hs : Reach P Q s0 s) (hsum : ∀ k, k.cell.summary → P k) (h11 : ∀ i, P ⟨.tel .nSkip, 0, i⟩) (h12 : ∀ i, P ⟨.sticky .telOvf, 0, i⟩) (h13 : ∀ i, P ⟨.tel .dropped, 0, i⟩) (h14 : ∀ i, P ⟨.tel .nDrop, 0, i⟩) (h15 : ∀ i, P ⟨.tel .written, 0, i⟩) (h16 : ∀ i, P ⟨.tel .snapNo, 0, i⟩) (qreports : Q .reports) (qtelOut : Q .telOut) :
    ∃ t, execTelSnapshotTimer t1 busy s = .next t ∧ Reach P Q s0 t := by
  unfold execTelSnapshotTimer
  repeat' with_reducible first | assumption | apply finishIf_reach | apply State.inc_reach | apply State.telSnapshot_reach | (intros; show P _ = true; first | exact hsum _ rfl | (clear hsum; apply_assumption)) | split | dsimp only | intro _

theorem State.farShow_reach {d : Nat} {m : Sys2Proof.FarMsg} (hs : Reach P Q s0 s) (h1 : ∀ i, P ⟨.alm .farSender, d, i⟩) (h2 : ∀ i, P ⟨.alm .farFlags, d, i⟩) (h3 : ∀ i, P ⟨.alm .farCarrier, d, i⟩) (h4 : ∀ i, P ⟨.alm .farFresh, d, i⟩) (h5 : ∀ i, P ⟨.alm .farRxSeq, d, i⟩) (h6 : ∀ i, P ⟨.alm .farRxSms, d, i⟩) :
    Reach P Q s0 (State.farShow s d m) := by
  unfold State.farShow
  repeat' with_reducible first | assumption | apply State.set_reach | (intros; show P _ = true; apply_assumption) | split | dsimp only | intro _

theorem execFarStatusRx_reach {d : Nat} {m : Sys2Proof.FarMsg} (hs : Reach P Q s0 s) (hsum : ∀ k, k.cell.summary → P k) (h11 : ∀ i, P ⟨.alm .farSender, d, i⟩) (h12 : ∀ i, P ⟨.alm .farFlags, d, i⟩) (h13 : ∀ i, P ⟨.alm .farCarrier, d, i⟩) (h14 : ∀ i, P ⟨.alm .farFresh, d, i⟩) (h15 : ∀ i, P ⟨.alm .farRxSeq, d, i⟩) (h16 : ∀ i, P ⟨.alm .farRxSms, d, i⟩) (h17 : ∀ i, P ⟨.alm .nMgmtDisc, d, i⟩) (qreports : Q .reports) :
    ∃ t, execFarStatusRx d m s = .next t ∧ Reach P Q s0 t := by
  unfold execFarStatusRx
  repeat' with_reducible first | assumption | apply finishIf_reach | apply State.farShow_reach | apply State.inc_reach | (intros; show P _ = true; first | exact hsum _ rfl | (clear hsum; apply_assumption)) | split | dsimp only | intro _

theorem execFarStatusStale_reach {d : Nat} (hs : Reach P Q s0 s) (hsum : ∀ k, k.cell.summary → P k) (h11 : ∀ i, P ⟨.alm .farFresh, d, i⟩) (qreports : Q .reports) :
    ∃ t, execFarStatusStale d s = .next t ∧ Reach P Q s0 t := by
  unfold execFarStatusStale
  repeat' with_reducible first | assumption | apply finishIf_reach | apply State.set_reach | (intros; show P _ = true; first | exact hsum _ rfl | (clear hsum; apply_assumption)) | split | dsimp only | intro _

theorem execAlarmStickySet_reach {addr : Nat} {entry : Nat} {bit : Nat} (hs : Reach P Q s0 s) (hsum : ∀ k, k.cell.summary → P k) (h11 : ∀ a d i, P ⟨Cell.sticky a, d, i⟩) (h12 : ∀ a d i, P ⟨Cell.live a, d, i⟩) (qreports : Q .reports) :
    ∃ t, execAlarmStickySet addr entry bit s = .next t ∧ Reach P Q s0 t := by
  unfold execAlarmStickySet
  repeat' with_reducible first | assumption | apply finishIf_reach | apply State.event_reach | apply State.raise_reach | apply idle_reach | (intros; show P _ = true; first | exact hsum _ rfl | (clear hsum; apply_assumption)) | split | dsimp only | intro _

theorem execCrcJobEnd_reach {how : Nat} {bytes : Nat} {g : Nat} (hs : Reach P Q s0 s) (hsum : ∀ k, k.cell.summary → P k) (h11 : ∀ i, P ⟨.crc .jobsQueued, 0, i⟩) (h12 : ∀ i, P ⟨.crc .resStatus, 0, i⟩) (h13 : ∀ i, P ⟨.crc .nJobs, 0, i⟩) (h14 : ∀ i, P ⟨.crc .resFaultAddr, 0, i⟩) (h15 : ∀ i, P ⟨.crc .resBytes, 0, i⟩) (h16 : ∀ i, P ⟨.crc .resResult, 0, i⟩) (h17 : ∀ d i, P ⟨.pan .taken, d, i⟩) (h18 : ∀ d i, P ⟨.pan .given, d, i⟩) (h19 : ∀ d i, P ⟨.sticky .panSpareEmpty, d, i⟩) (h20 : ∀ d i, P ⟨.live .panSpareEmpty, d, i⟩) (h21 : ∀ d i, P ⟨.sticky .panSpareLow, d, i⟩) (h22 : ∀ d i, P ⟨.live .panSpareLow, d, i⟩) (h23 : ∀ d i, P ⟨.pan .sparesLeft, d, i⟩) (h24 : ∀ d i, P ⟨.sticky .panRetireDrop, d, i⟩) (h25 : ∀ d i, P ⟨.pan .nRetireDrop, d, i⟩) (h26 : ∀ d i, P ⟨.sticky .panMigUrgent, d, i⟩) (h27 : ∀ d i, P ⟨.live .panMigUrgent, d, i⟩) (h28 : ∀ d i, P ⟨.pan .retirePend, d, i⟩) (qreports : Q .reports) (qretireQ : Q .retireQ) :
    ∃ t, execCrcJobEnd how bytes g s = .next t ∧ Reach P Q s0 t := by
  unfold execCrcJobEnd
  repeat' with_reducible first | assumption | apply idle_reach | apply finishIf_reach | apply State.jobEnd_reach | apply State.faultPage_reach | (intros; show P _ = true; first | exact hsum _ rfl | (clear hsum; apply_assumption)) | split | dsimp only | intro _

theorem execInjStop_reach {d : Nat} {u : Nat} (hs : Reach P Q s0 s) (hsum : ∀ k, k.cell.summary → P k) (h11 : ∀ i, P ⟨.inj .uResult, d, i⟩) (h12 : ∀ i, P ⟨.inj .uActive, d, i⟩) (qreports : Q .reports) :
    ∃ t, execInjStop d u s = .next t ∧ Reach P Q s0 t := by
  unfold execInjStop
  repeat' with_reducible first | assumption | apply finishIf_reach | apply State.injStop_reach | (intros; show P _ = true; first | exact hsum _ rfl | (clear hsum; apply_assumption)) | split | dsimp only | intro _

end Sys2Proof.Machine
end

