-- ==== Sys2Proof/Laws/MovesReads.lean ====
section
/-!
SUPPORT. What the operations of Machine/Reads.lean may change, one lemma each (Laws/Reach.lean).
-/
namespace Sys2Proof.Machine

set_option linter.unusedTactic false
set_option linter.unreachableTactic false

variable {P : Key → Bool} {Q : Part → Bool} {s0 s : State}

theorem State.highRead_reach {port : Sys2Proof.APort} {x : Nat} {v : Nat} (hs : Reach P Q s0 s) (h1 : ∀ i, P ⟨.sys .snapValid, 0, i⟩) :
    Reach P Q s0 (State.highRead s port x v).2 := by
  unfold State.highRead
  repeat' with_reducible first | assumption | apply State.set_reach | (intros; show P _ = true; apply_assumption) | split | dsimp only | intro _

theorem State.lowRead_reach {port : Sys2Proof.APort} {x : Nat} {v : Nat} (hs : Reach P Q s0 s) (h1 : ∀ i, P ⟨.sys .snapHi, 0, i⟩) (h2 : ∀ i, P ⟨.sys .snapAddr, 0, i⟩) (h3 : ∀ i, P ⟨.sys .snapValid, 0, i⟩) :
    Reach P Q s0 (State.lowRead s port x v).2 := by
  unfold State.lowRead
  repeat' with_reducible first | assumption | apply State.set_reach | (intros; show P _ = true; apply_assumption) | split | dsimp only | intro _

theorem State.ctrSeen_reach {c : Cell} (hs : Reach P Q s0 s) (h1 : ∀ i, P ⟨.tkt .rejHeld, 0, i⟩) :
    Reach P Q s0 (State.ctrSeen s c) := by
  unfold State.ctrSeen
  repeat' with_reducible first | assumption | apply State.set_reach | (intros; show P _ = true; apply_assumption) | split | dsimp only | intro _

theorem State.tbLatch_reach {port : Sys2Proof.APort} {b : Nat} (hs : Reach P Q s0 s) (h1 : ∀ i, P ⟨.sys .tbLatchFrac, 0, i⟩) (h2 : ∀ i, P ⟨.sys .tbLatchSec, 0, i⟩) (h3 : ∀ i, P ⟨.sys .tbLatchValid, 0, i⟩) :
    Reach P Q s0 (State.tbLatch s port b) := by
  unfold State.tbLatch
  repeat' with_reducible first | assumption | apply State.set_reach | (intros; show P _ = true; apply_assumption) | split | dsimp only | intro _

theorem State.fldSeen_reach {c : Cell} {d : Nat} {i : Nat} (hs : Reach P Q s0 s) (h1 : ∀ i, P ⟨.mon .fOutLatched, d, i⟩) (h2 : ∀ i, P ⟨.crc .slotRead, 0, i⟩) (h3 : ∀ i, P ⟨.sys .freeCount, 0, i⟩) :
    Reach P Q s0 (State.fldSeen s c d i) := by
  unfold State.fldSeen
  repeat' with_reducible first | assumption | apply State.set_reach | apply State.used_reach | (intros; show P _ = true; apply_assumption) | split | dsimp only | intro _

theorem State.readPlace_reach {port : Sys2Proof.APort} {x : Nat} {p : Place} (hs : Reach P Q s0 s) (h1 : ∀ i, P ⟨.sys .snapValid, 0, i⟩) (h2 : ∀ i, P ⟨.sys .snapHi, 0, i⟩) (h3 : ∀ i, P ⟨.sys .snapAddr, 0, i⟩) (h4 : ∀ i, P ⟨.tkt .rejHeld, 0, i⟩) (h5 : ∀ i, P ⟨.sys .tbLatchFrac, 0, i⟩) (h6 : ∀ i, P ⟨.sys .tbLatchSec, 0, i⟩) (h7 : ∀ i, P ⟨.sys .tbLatchValid, 0, i⟩) (h8 : ∀ d i, P ⟨.mon .fOutLatched, d, i⟩) (h9 : ∀ i, P ⟨.crc .slotRead, 0, i⟩) (h10 : ∀ i, P ⟨.sys .freeCount, 0, i⟩) (h11 : ∀ d i, P ⟨.sys .winWord, d, i⟩) (h12 : ∀ d i, P ⟨.sys .winEntry, d, i⟩) :
    Reach P Q s0 (State.readPlace s port x p).2 := by
  unfold State.readPlace
  repeat' with_reducible first | assumption | apply State.highRead_reach | apply State.lowRead_reach | apply State.ctrSeen_reach | apply State.tbLatch_reach | apply State.each_reach | apply State.fldSeen_reach | apply State.setPtr_reach | (intros; show P _ = true; apply_assumption) | split | dsimp only | intro _

theorem State.read_reach {port : Sys2Proof.APort} {x : Nat} (hs : Reach P Q s0 s) (h1 : ∀ i, P ⟨.sys .snapValid, 0, i⟩) (h2 : ∀ i, P ⟨.sys .snapHi, 0, i⟩) (h3 : ∀ i, P ⟨.sys .snapAddr, 0, i⟩) (h4 : ∀ i, P ⟨.tkt .rejHeld, 0, i⟩) (h5 : ∀ i, P ⟨.sys .tbLatchFrac, 0, i⟩) (h6 : ∀ i, P ⟨.sys .tbLatchSec, 0, i⟩) (h7 : ∀ i, P ⟨.sys .tbLatchValid, 0, i⟩) (h8 : ∀ d i, P ⟨.mon .fOutLatched, d, i⟩) (h9 : ∀ i, P ⟨.crc .slotRead, 0, i⟩) (h10 : ∀ i, P ⟨.sys .freeCount, 0, i⟩) (h11 : ∀ d i, P ⟨.sys .winWord, d, i⟩) (h12 : ∀ d i, P ⟨.sys .winEntry, d, i⟩) :
    Reach P Q s0 (State.read s port x).2 := by
  unfold State.read
  repeat' with_reducible first | assumption | apply State.readPlace_reach | (intros; show P _ = true; apply_assumption) | split | dsimp only | intro _

theorem State.denied_reach (hs : Reach P Q s0 s) (h1 : ∀ i, P ⟨.tkt .nHostRdDeny, 0, i⟩) :
    Reach P Q s0 (State.denied s) := by
  unfold State.denied
  repeat' with_reducible first | assumption | apply State.inc_reach | (intros; show P _ = true; apply_assumption) | split | dsimp only | intro _

theorem State.guarded_reach {port : Sys2Proof.APort} {ok : Bool} {x : Nat} (hs : Reach P Q s0 s) (h1 : ∀ i, P ⟨.sys .snapValid, 0, i⟩) (h2 : ∀ i, P ⟨.sys .snapHi, 0, i⟩) (h3 : ∀ i, P ⟨.sys .snapAddr, 0, i⟩) (h4 : ∀ i, P ⟨.tkt .rejHeld, 0, i⟩) (h5 : ∀ i, P ⟨.sys .tbLatchFrac, 0, i⟩) (h6 : ∀ i, P ⟨.sys .tbLatchSec, 0, i⟩) (h7 : ∀ i, P ⟨.sys .tbLatchValid, 0, i⟩) (h8 : ∀ d i, P ⟨.mon .fOutLatched, d, i⟩) (h9 : ∀ i, P ⟨.crc .slotRead, 0, i⟩) (h10 : ∀ i, P ⟨.sys .freeCount, 0, i⟩) (h11 : ∀ d i, P ⟨.sys .winWord, d, i⟩) (h12 : ∀ d i, P ⟨.sys .winEntry, d, i⟩) (h13 : ∀ i, P ⟨.tkt .nHostRdDeny, 0, i⟩) :
    Reach P Q s0 (State.guarded s port ok x).2 := by
  unfold State.guarded
  repeat' with_reducible first | assumption | apply State.read_reach | apply State.denied_reach | (intros; show P _ = true; apply_assumption) | split | dsimp only | intro _

theorem State.portRead_reach {port : Sys2Proof.APort} {x : Nat} (hs : Reach P Q s0 s) (h1 : ∀ i, P ⟨.sys .snapValid, 0, i⟩) (h2 : ∀ i, P ⟨.sys .snapHi, 0, i⟩) (h3 : ∀ i, P ⟨.sys .snapAddr, 0, i⟩) (h4 : ∀ i, P ⟨.tkt .rejHeld, 0, i⟩) (h5 : ∀ i, P ⟨.sys .tbLatchFrac, 0, i⟩) (h6 : ∀ i, P ⟨.sys .tbLatchSec, 0, i⟩) (h7 : ∀ i, P ⟨.sys .tbLatchValid, 0, i⟩) (h8 : ∀ d i, P ⟨.mon .fOutLatched, d, i⟩) (h9 : ∀ i, P ⟨.crc .slotRead, 0, i⟩) (h10 : ∀ i, P ⟨.sys .freeCount, 0, i⟩) (h11 : ∀ d i, P ⟨.sys .winWord, d, i⟩) (h12 : ∀ d i, P ⟨.sys .winEntry, d, i⟩) (h13 : ∀ i, P ⟨.tkt .nHostRdDeny, 0, i⟩) :
    Reach P Q s0 (State.portRead s port x).2 := by
  unfold State.portRead
  repeat' with_reducible first | assumption | apply State.guarded_reach | apply State.read_reach | (intros; show P _ = true; apply_assumption) | split | dsimp only | intro _

theorem State.readRun_reach {f : State → Nat → Nat × State} {n x : Nat} (hs : Reach P Q s0 s)
    (hf : ∀ u y, Reach P Q s0 u → Reach P Q s0 (f u y).2) : Reach P Q s0 (State.readRun s f n x).2 := by
  induction n generalizing s x with
  | zero => exact hs
  | succ n ih => exact ih (hf _ _ hs)

theorem State.answer_reach {r : List Nat × State} (hs : Reach P Q s0 r.2) (q : Q .readData = true) :
    Reach P Q s0 (State.answer r) := State.readData_reach hs q

theorem State.readOne_reach {port : Sys2Proof.APort} {x : Nat} (hs : Reach P Q s0 s) (h1 : ∀ i, P ⟨.sys .snapValid, 0, i⟩) (h2 : ∀ i, P ⟨.sys .snapHi, 0, i⟩) (h3 : ∀ i, P ⟨.sys .snapAddr, 0, i⟩) (h4 : ∀ i, P ⟨.tkt .rejHeld, 0, i⟩) (h5 : ∀ i, P ⟨.sys .tbLatchFrac, 0, i⟩) (h6 : ∀ i, P ⟨.sys .tbLatchSec, 0, i⟩) (h7 : ∀ i, P ⟨.sys .tbLatchValid, 0, i⟩) (h8 : ∀ d i, P ⟨.mon .fOutLatched, d, i⟩) (h9 : ∀ i, P ⟨.crc .slotRead, 0, i⟩) (h10 : ∀ i, P ⟨.sys .freeCount, 0, i⟩) (h11 : ∀ d i, P ⟨.sys .winWord, d, i⟩) (h12 : ∀ d i, P ⟨.sys .winEntry, d, i⟩) (h13 : ∀ i, P ⟨.tkt .nHostRdDeny, 0, i⟩) (qreadData : Q .readData) :
    Reach P Q s0 (State.readOne s port x) := by
  unfold State.readOne
  repeat' with_reducible first | assumption | apply State.portRead_reach | (intros; show P _ = true; apply_assumption) | split | dsimp only | intro _ | apply State.readData_reach

theorem execCounterLowRead_reach {port : Sys2Proof.APort} {addr : Nat} (hs : Reach P Q s0 s) (hsum : ∀ k, k.cell.summary → P k) (h11 : ∀ i, P ⟨.sys .snapValid, 0, i⟩) (h12 : ∀ i, P ⟨.sys .snapHi, 0, i⟩) (h13 : ∀ i, P ⟨.sys .snapAddr, 0, i⟩) (h14 : ∀ i, P ⟨.tkt .rejHeld, 0, i⟩) (h15 : ∀ i, P ⟨.sys .tbLatchFrac, 0, i⟩) (h16 : ∀ i, P ⟨.sys .tbLatchSec, 0, i⟩) (h17 : ∀ i, P ⟨.sys .tbLatchValid, 0, i⟩) (h18 : ∀ d i, P ⟨.mon .fOutLatched, d, i⟩) (h19 : ∀ i, P ⟨.crc .slotRead, 0, i⟩) (h20 : ∀ i, P ⟨.sys .freeCount, 0, i⟩) (h21 : ∀ d i, P ⟨.sys .winWord, d, i⟩) (h22 : ∀ d i, P ⟨.sys .winEntry, d, i⟩) (h23 : ∀ i, P ⟨.tkt .nHostRdDeny, 0, i⟩) (qreports : Q .reports) (qreadData : Q .readData) :
    ∃ t, execCounterLowRead port addr s = .next t ∧ Reach P Q s0 t := by
  unfold execCounterLowRead
  repeat' with_reducible first | assumption | apply finishIf_reach | apply State.readOne_reach | (intros; show P _ = true; first | exact hsum _ rfl | (clear hsum; apply_assumption)) | split | dsimp only | intro _

theorem State.rejectWrite_reach {x : Nat} (hs : Reach P Q s0 s) (h1 : ∀ i, P ⟨.tkt .nHostWrRej, 0, i⟩) (h2 : ∀ i, P ⟨.tkt .hostWrRejAddr, 0, i⟩) (h3 : ∀ i, P ⟨.tkt .rejHeld, 0, i⟩) :
    Reach P Q s0 (State.rejectWrite s x) := by
  unfold State.rejectWrite
  repeat' with_reducible first | assumption | apply State.inc_reach | apply State.set_reach | (intros; show P _ = true; apply_assumption) | split | dsimp only | intro _

theorem execSpiReadCommand_reach {wordAddr : Nat} {count : Nat} (hs : Reach P Q s0 s) (hsum : ∀ k, k.cell.summary → P k) (h11 : ∀ i, P ⟨.sys .snapValid, 0, i⟩) (h12 : ∀ i, P ⟨.sys .snapHi, 0, i⟩) (h13 : ∀ i, P ⟨.sys .snapAddr, 0, i⟩) (h14 : ∀ i, P ⟨.tkt .rejHeld, 0, i⟩) (h15 : ∀ i, P ⟨.sys .tbLatchFrac, 0, i⟩) (h16 : ∀ i, P ⟨.sys .tbLatchSec, 0, i⟩) (h17 : ∀ i, P ⟨.sys .tbLatchValid, 0, i⟩) (h18 : ∀ d i, P ⟨.mon .fOutLatched, d, i⟩) (h19 : ∀ i, P ⟨.crc .slotRead, 0, i⟩) (h20 : ∀ i, P ⟨.sys .freeCount, 0, i⟩) (h21 : ∀ d i, P ⟨.sys .winWord, d, i⟩) (h22 : ∀ d i, P ⟨.sys .winEntry, d, i⟩) (h23 : ∀ i, P ⟨.tkt .nHostRdDeny, 0, i⟩) (qreports : Q .reports) (qreadData : Q .readData) :
    ∃ t, execSpiReadCommand wordAddr count s = .next t ∧ Reach P Q s0 t := by
  unfold execSpiReadCommand
  repeat' with_reducible first | assumption | apply finishIf_reach | apply State.answer_reach | apply State.readRun_reach | apply State.portRead_reach | (intros; show P _ = true; first | exact hsum _ rfl | (clear hsum; apply_assumption)) | split | dsimp only | intro _

theorem execCounterHighRead_reach {port : Sys2Proof.APort} {addr : Nat} (hs : Reach P Q s0 s) (hsum : ∀ k, k.cell.summary → P k) (h11 : ∀ i, P ⟨.sys .snapValid, 0, i⟩) (h12 : ∀ i, P ⟨.sys .snapHi, 0, i⟩) (h13 : ∀ i, P ⟨.sys .snapAddr, 0, i⟩) (h14 : ∀ i, P ⟨.tkt .rejHeld, 0, i⟩) (h15 : ∀ i, P ⟨.sys .tbLatchFrac, 0, i⟩) (h16 : ∀ i, P ⟨.sys .tbLatchSec, 0, i⟩) (h17 : ∀ i, P ⟨.sys .tbLatchValid, 0, i⟩) (h18 : ∀ d i, P ⟨.mon .fOutLatched, d, i⟩) (h19 : ∀ i, P ⟨.crc .slotRead, 0, i⟩) (h20 : ∀ i, P ⟨.sys .freeCount, 0, i⟩) (h21 : ∀ d i, P ⟨.sys .winWord, d, i⟩) (h22 : ∀ d i, P ⟨.sys .winEntry, d, i⟩) (h23 : ∀ i, P ⟨.tkt .nHostRdDeny, 0, i⟩) (qreports : Q .reports) (qreadData : Q .readData) :
    ∃ t, execCounterHighRead port addr s = .next t ∧ Reach P Q s0 t := by
  unfold execCounterHighRead
  repeat' with_reducible first | assumption | apply finishIf_reach | apply State.readOne_reach | (intros; show P _ = true; first | exact hsum _ rfl | (clear hsum; apply_assumption)) | split | dsimp only | intro _

theorem execHostRead_reach {addr : Nat} {words : Nat} (hs : Reach P Q s0 s) (hsum : ∀ k, k.cell.summary → P k) (h11 : ∀ i, P ⟨.tkt .nHostRdDeny, 0, i⟩) (h12 : ∀ i, P ⟨.sys .snapValid, 0, i⟩) (h13 : ∀ i, P ⟨.sys .snapHi, 0, i⟩) (h14 : ∀ i, P ⟨.sys .snapAddr, 0, i⟩) (h15 : ∀ i, P ⟨.tkt .rejHeld, 0, i⟩) (h16 : ∀ i, P ⟨.sys .tbLatchFrac, 0, i⟩) (h17 : ∀ i, P ⟨.sys .tbLatchSec, 0, i⟩) (h18 : ∀ i, P ⟨.sys .tbLatchValid, 0, i⟩) (h19 : ∀ d i, P ⟨.mon .fOutLatched, d, i⟩) (h20 : ∀ i, P ⟨.crc .slotRead, 0, i⟩) (h21 : ∀ i, P ⟨.sys .freeCount, 0, i⟩) (h22 : ∀ d i, P ⟨.sys .winWord, d, i⟩) (h23 : ∀ d i, P ⟨.sys .winEntry, d, i⟩) (qreports : Q .reports) (qreadData : Q .readData) :
    ∃ t, execHostRead addr words s = .next t ∧ Reach P Q s0 t := by
  unfold execHostRead
  repeat' with_reducible first | assumption | apply finishIf_reach | apply State.denied_reach | apply State.answer_reach | apply State.readRun_reach | apply State.portRead_reach | (intros; show P _ = true; first | exact hsum _ rfl | (clear hsum; apply_assumption)) | split | dsimp only | intro _ | apply State.readData_reach

theorem execTimTbNsRead_reach {port : Sys2Proof.APort} {tb : Nat} (hs : Reach P Q s0 s) (hsum : ∀ k, k.cell.summary → P k) (h11 : ∀ i, P ⟨.sys .snapValid, 0, i⟩) (h12 : ∀ i, P ⟨.sys .snapHi, 0, i⟩) (h13 : ∀ i, P ⟨.sys .snapAddr, 0, i⟩) (h14 : ∀ i, P ⟨.tkt .rejHeld, 0, i⟩) (h15 : ∀ i, P ⟨.sys .tbLatchFrac, 0, i⟩) (h16 : ∀ i, P ⟨.sys .tbLatchSec, 0, i⟩) (h17 : ∀ i, P ⟨.sys .tbLatchValid, 0, i⟩) (h18 : ∀ d i, P ⟨.mon .fOutLatched, d, i⟩) (h19 : ∀ i, P ⟨.crc .slotRead, 0, i⟩) (h20 : ∀ i, P ⟨.sys .freeCount, 0, i⟩) (h21 : ∀ d i, P ⟨.sys .winWord, d, i⟩) (h22 : ∀ d i, P ⟨.sys .winEntry, d, i⟩) (h23 : ∀ i, P ⟨.tkt .nHostRdDeny, 0, i⟩) (qreports : Q .reports) (qreadData : Q .readData) :
    ∃ t, execTimTbNsRead port tb s = .next t ∧ Reach P Q s0 t := by
  unfold execTimTbNsRead
  repeat' with_reducible first | assumption | apply finishIf_reach | apply State.readOne_reach | (intros; show P _ = true; first | exact hsum _ rfl | (clear hsum; apply_assumption)) | split | dsimp only | intro _

theorem execCrcResultStatusRead_reach {port : Sys2Proof.APort} {slot : Nat} (hs : Reach P Q s0 s) (hsum : ∀ k, k.cell.summary → P k) (h11 : ∀ i, P ⟨.sys .snapValid, 0, i⟩) (h12 : ∀ i, P ⟨.sys .snapHi, 0, i⟩) (h13 : ∀ i, P ⟨.sys .snapAddr, 0, i⟩) (h14 : ∀ i, P ⟨.tkt .rejHeld, 0, i⟩) (h15 : ∀ i, P ⟨.sys .tbLatchFrac, 0, i⟩) (h16 : ∀ i, P ⟨.sys .tbLatchSec, 0, i⟩) (h17 : ∀ i, P ⟨.sys .tbLatchValid, 0, i⟩) (h18 : ∀ d i, P ⟨.mon .fOutLatched, d, i⟩) (h19 : ∀ i, P ⟨.crc .slotRead, 0, i⟩) (h20 : ∀ i, P ⟨.sys .freeCount, 0, i⟩) (h21 : ∀ d i, P ⟨.sys .winWord, d, i⟩) (h22 : ∀ d i, P ⟨.sys .winEntry, d, i⟩) (h23 : ∀ i, P ⟨.tkt .nHostRdDeny, 0, i⟩) (qreports : Q .reports) (qreadData : Q .readData) :
    ∃ t, execCrcResultStatusRead port slot s = .next t ∧ Reach P Q s0 t := by
  unfold execCrcResultStatusRead
  repeat' with_reducible first | assumption | apply finishIf_reach | apply State.readOne_reach | (intros; show P _ = true; first | exact hsum _ rfl | (clear hsum; apply_assumption)) | split | dsimp only | intro _

theorem execMonFiltStatRead_reach {port : Sys2Proof.APort} {d : Nat} {f : Nat} (hs : Reach P Q s0 s) (hsum : ∀ k, k.cell.summary → P k) (h11 : ∀ i, P ⟨.sys .snapValid, 0, i⟩) (h12 : ∀ i, P ⟨.sys .snapHi, 0, i⟩) (h13 : ∀ i, P ⟨.sys .snapAddr, 0, i⟩) (h14 : ∀ i, P ⟨.tkt .rejHeld, 0, i⟩) (h15 : ∀ i, P ⟨.sys .tbLatchFrac, 0, i⟩) (h16 : ∀ i, P ⟨.sys .tbLatchSec, 0, i⟩) (h17 : ∀ i, P ⟨.sys .tbLatchValid, 0, i⟩) (h18 : ∀ d i, P ⟨.mon .fOutLatched, d, i⟩) (h19 : ∀ i, P ⟨.crc .slotRead, 0, i⟩) (h20 : ∀ i, P ⟨.sys .freeCount, 0, i⟩) (h21 : ∀ d i, P ⟨.sys .winWord, d, i⟩) (h22 : ∀ d i, P ⟨.sys .winEntry, d, i⟩) (h23 : ∀ i, P ⟨.tkt .nHostRdDeny, 0, i⟩) (qreports : Q .reports) (qreadData : Q .readData) :
    ∃ t, execMonFiltStatRead port d f s = .next t ∧ Reach P Q s0 t := by
  unfold execMonFiltStatRead
  repeat' with_reducible first | assumption | apply finishIf_reach | apply State.readOne_reach | (intros; show P _ = true; first | exact hsum _ rfl | (clear hsum; apply_assumption)) | split | dsimp only | intro _

theorem execPartialWordAccess_reach {port : Sys2Proof.APort} {addr : Nat} {write : Bool} (hs : Reach P Q s0 s) (hsum : ∀ k, k.cell.summary → P k) (h11 : ∀ i, P ⟨.tkt .nHostWrRej, 0, i⟩) (h12 : ∀ i, P ⟨.tkt .hostWrRejAddr, 0, i⟩) (h13 : ∀ i, P ⟨.tkt .rejHeld, 0, i⟩) (qreports : Q .reports) (qreadData : Q .readData) :
    ∃ t, execPartialWordAccess port addr write s = .next t ∧ Reach P Q s0 t := by
  unfold execPartialWordAccess
  repeat' with_reducible first | assumption | apply finishIf_reach | apply State.when_reach | apply State.rejectWrite_reach | (intros; show P _ = true; first | exact hsum _ rfl | (clear hsum; apply_assumption)) | split | dsimp only | intro _ | apply State.readData_reach

theorem execSpiOtherCommand_reach {code : Nat} {count : Nat} (hs : Reach P Q s0 s) (hsum : ∀ k, k.cell.summary → P k) (qreports : Q .reports) (qreadData : Q .readData) :
    ∃ t, execSpiOtherCommand code count s = .next t ∧ Reach P Q s0 t := by
  unfold execSpiOtherCommand
  repeat' with_reducible first | assumption | apply finishIf_reach | (intros; show P _ = true; first | exact hsum _ rfl | (clear hsum; apply_assumption)) | split | dsimp only | intro _ | apply State.readData_reach

end Sys2Proof.Machine
end

