-- ==== Sys2Proof/Laws/MovesConverter.lean ====
section
/-!
SUPPORT. What the operations of Machine/Converter.lean may change, one lemma each (Laws/Reach.lean).
-/
namespace Sys2Proof.Machine

set_option linter.unusedTactic false
set_option linter.unreachableTactic false

variable {P : Key → Bool} {Q : Part → Bool} {s0 s : State}

theorem State.convFailFollow_reach {d : Nat} (hs : Reach P Q s0 s) (h1 : ∀ i, P ⟨.live .calConvFail, 0, i⟩) (qreports : Q .reports) :
    Reach P Q s0 (State.convFailFollow s d) := by
  unfold State.convFailFollow
  repeat' with_reducible first | assumption | apply State.lowerAt_reach | (intros; show P _ = true; apply_assumption) | split | dsimp only | intro _

theorem State.convReplace_reach {d : Nat} {v : Nat} {sl : Nat} (hs : Reach P Q s0 s) (h1 : ∀ i, P ⟨.sticky .calConvFail, 0, i⟩) (h2 : ∀ i, P ⟨.live .calConvFail, 0, i⟩) (h3 : ∀ i, P ⟨.cal .convValid, d, i⟩) (h4 : ∀ i, P ⟨.cal .convFailed, d, i⟩) (h5 : ∀ i, P ⟨.sticky .calConvNoSpare, 0, i⟩) (h6 : ∀ i, P ⟨.live .calConvNoSpare, 0, i⟩) (h7 : ∀ i, P ⟨.cal .spareFor, d, i⟩) (h8 : ∀ i, P ⟨.cal .sparePerm, d, i⟩) (qreports : Q .reports) :
    Reach P Q s0 (State.convReplace s d v sl) := by
  unfold State.convReplace
  repeat' with_reducible first | assumption | apply State.raiseAt_reach | apply State.set_reach | (intros; show P _ = true; apply_assumption) | split | dsimp only | intro _

theorem State.convReject_reach {d : Nat} {v : Nat} {sl : Nat} (hs : Reach P Q s0 s) (h1 : ∀ i, P ⟨.sticky .calConvReject, 0, i⟩) (h2 : ∀ i, P ⟨.cal .nConvReject, d, i⟩) (h3 : ∀ i, P ⟨.sticky .calConvFail, 0, i⟩) (h4 : ∀ i, P ⟨.live .calConvFail, 0, i⟩) (h5 : ∀ i, P ⟨.cal .convValid, d, i⟩) (h6 : ∀ i, P ⟨.cal .convFailed, d, i⟩) (h7 : ∀ i, P ⟨.sticky .calConvNoSpare, 0, i⟩) (h8 : ∀ i, P ⟨.live .calConvNoSpare, 0, i⟩) (h9 : ∀ i, P ⟨.cal .spareFor, d, i⟩) (h10 : ∀ i, P ⟨.cal .sparePerm, d, i⟩) (h11 : ∀ i, P ⟨.cal .rejRun, d, i⟩) (qreports : Q .reports) :
    Reach P Q s0 (State.convReject s d v sl) := by
  unfold State.convReject
  repeat' with_reducible first | assumption | apply State.eventAt_reach | apply State.inc_reach | apply State.convReplace_reach | apply State.set_reach | (intros; show P _ = true; apply_assumption) | split | dsimp only | intro _

theorem State.setsMeasured_reach {d : Nat} (hs : Reach P Q s0 s) (h1 : ∀ i, P ⟨.cal .setMeasured, d, i⟩) :
    Reach P Q s0 (State.setsMeasured s d) := by
  unfold State.setsMeasured
  repeat' with_reducible first | assumption | apply State.each_reach | apply State.set_reach | (intros; show P _ = true; apply_assumption) | split | dsimp only | intro _

theorem State.convAccept_reach {d : Nat} {v : Nat} {sl : Nat} {n : Nat} (hs : Reach P Q s0 s) (h1 : ∀ i, P ⟨.cal .convTimeNs, d, i⟩) (h2 : ∀ i, P ⟨.cal .convTimeS, d, i⟩) (h3 : ∀ i, P ⟨.cal .nConvCount, d, i⟩) (h4 : ∀ i, P ⟨.cal .rejRun, d, i⟩) (h5 : ∀ i, P ⟨.cal .stale, d, i⟩) (h6 : ∀ i, P ⟨.cal .setMeasured, d, i⟩) (h7 : ∀ i, P ⟨.live .calConvStale, 0, i⟩) (qreports : Q .reports) :
    Reach P Q s0 (State.convAccept s d v sl n) := by
  unfold State.convAccept
  repeat' with_reducible first | assumption | apply State.set_reach | apply State.add_reach | apply State.setsMeasured_reach | apply State.lowerAt_reach | (intros; show P _ = true; apply_assumption) | split | dsimp only | intro _

theorem State.convFore_reach {d : Nat} {c : Sys2Proof.SliceCal} (hs : Reach P Q s0 s) (h1 : ∀ i, P ⟨.sticky .calConvReject, 0, i⟩) (h2 : ∀ i, P ⟨.cal .nConvReject, d, i⟩) (h3 : ∀ i, P ⟨.sticky .calConvFail, 0, i⟩) (h4 : ∀ i, P ⟨.live .calConvFail, 0, i⟩) (h5 : ∀ i, P ⟨.cal .convValid, d, i⟩) (h6 : ∀ i, P ⟨.cal .convFailed, d, i⟩) (h7 : ∀ i, P ⟨.sticky .calConvNoSpare, 0, i⟩) (h8 : ∀ i, P ⟨.live .calConvNoSpare, 0, i⟩) (h9 : ∀ i, P ⟨.cal .spareFor, d, i⟩) (h10 : ∀ i, P ⟨.cal .sparePerm, d, i⟩) (h11 : ∀ i, P ⟨.cal .rejRun, d, i⟩) (h12 : ∀ i, P ⟨.cal .convTimeNs, d, i⟩) (h13 : ∀ i, P ⟨.cal .convTimeS, d, i⟩) (h14 : ∀ i, P ⟨.cal .nConvCount, d, i⟩) (h15 : ∀ i, P ⟨.cal .stale, d, i⟩) (h16 : ∀ i, P ⟨.cal .setMeasured, d, i⟩) (h17 : ∀ i, P ⟨.live .calConvStale, 0, i⟩) (h18 : ∀ i, P ⟨.cal .coef, d, i⟩) (qreports : Q .reports) :
    Reach P Q s0 (State.convFore s d c) := by
  unfold State.convFore
  repeat' with_reducible first | assumption | apply State.each_reach | apply State.convReject_reach | apply State.convAccept_reach | apply State.setI_reach | (intros; show P _ = true; apply_assumption) | split | dsimp only | intro _

theorem State.convRounds_reach {d : Nat} (hs : Reach P Q s0 s) (h1 : ∀ i, P ⟨.cal .roundPct, d, i⟩) (h2 : ∀ i, P ⟨.cal .bgRun, d, i⟩) (h3 : ∀ i, P ⟨.cal .convPos, d, i⟩) :
    Reach P Q s0 (State.convRounds s d) := by
  unfold State.convRounds
  repeat' with_reducible first | assumption | apply State.set_reach | apply State.each_reach | (intros; show P _ = true; apply_assumption) | split | dsimp only | intro _

theorem State.coefTake_reach {d : Nat} {v : Nat} {sl : Nat} {kind : Nat} {m : Int} (hs : Reach P Q s0 s) (h1 : ∀ i, P ⟨.cal .coef, d, i⟩) :
    Reach P Q s0 (State.coefTake s d v sl kind m) := by
  unfold State.coefTake
  repeat' with_reducible first | assumption | apply State.setI_reach | (intros; show P _ = true; apply_assumption) | split | dsimp only | intro _

theorem execConvTempUpdate_reach {d : Nat} {t1 : Int} (hs : Reach P Q s0 s) (hsum : ∀ k, k.cell.summary → P k) (h11 : ∀ i, P ⟨.cal .temp, d, i⟩) (qreports : Q .reports) :
    ∃ t, execConvTempUpdate d t1 s = .next t ∧ Reach P Q s0 t := by
  unfold execConvTempUpdate
  repeat' with_reducible first | assumption | apply finishIf_reach | apply State.setI_reach | (intros; show P _ = true; first | exact hsum _ rfl | (clear hsum; apply_assumption)) | split | dsimp only | intro _

theorem execConvSliceMeasure_reach {d : Nat} {v : Nat} {a : Sys2Proof.SliceRead} {b : Sys2Proof.SliceRead} {m : Sys2Proof.SliceRead} (hs : Reach P Q s0 s) (hsum : ∀ k, k.cell.summary → P k) (h11 : ∀ i, P ⟨.cal .roundPct, d, i⟩) (h12 : ∀ i, P ⟨.cal .convPos, d, i⟩) (h13 : ∀ i, P ⟨.cal .convTimeNs, d, i⟩) (h14 : ∀ i, P ⟨.cal .convTimeS, d, i⟩) (h15 : ∀ i, P ⟨.cal .nConvCount, d, i⟩) (h16 : ∀ i, P ⟨.cal .rejRun, d, i⟩) (h17 : ∀ i, P ⟨.cal .stale, d, i⟩) (h18 : ∀ i, P ⟨.cal .setMeasured, d, i⟩) (h19 : ∀ i, P ⟨.live .calConvStale, 0, i⟩) (h20 : ∀ i, P ⟨.cal .coef, d, i⟩) (h21 : ∀ i, P ⟨.sticky .calConvReject, 0, i⟩) (h22 : ∀ i, P ⟨.cal .nConvReject, d, i⟩) (h23 : ∀ i, P ⟨.sticky .calConvFail, 0, i⟩) (h24 : ∀ i, P ⟨.live .calConvFail, 0, i⟩) (h25 : ∀ i, P ⟨.cal .convValid, d, i⟩) (h26 : ∀ i, P ⟨.cal .convFailed, d, i⟩) (h27 : ∀ i, P ⟨.sticky .calConvNoSpare, 0, i⟩) (h28 : ∀ i, P ⟨.live .calConvNoSpare, 0, i⟩) (h29 : ∀ i, P ⟨.cal .spareFor, d, i⟩) (h30 : ∀ i, P ⟨.cal .sparePerm, d, i⟩) (qreports : Q .reports) :
    ∃ t, execConvSliceMeasure d v a b m s = .next t ∧ Reach P Q s0 t := by
  unfold execConvSliceMeasure
  repeat' with_reducible first | assumption | apply finishIf_reach | apply State.set_reach | apply State.convAccept_reach | apply State.coefTake_reach | apply State.convReject_reach | (intros; show P _ = true; first | exact hsum _ rfl | (clear hsum; apply_assumption)) | split | dsimp only | intro _

theorem State.convEnd_reach {code : Nat} (hs : Reach P Q s0 s) (h1 : ∀ i, P ⟨.boot .procCalled, 0, i⟩) (h2 : ∀ i, P ⟨.boot .procCode, 0, i⟩) (h3 : ∀ i, P ⟨.boot .procDone, 0, i⟩) :
    Reach P Q s0 (State.convEnd s code) := by
  unfold State.convEnd
  repeat' with_reducible first | assumption | apply State.procEnd_reach | (intros; show P _ = true; apply_assumption) | split | dsimp only | intro _

theorem State.convForeground_reach {d : Nat} {meas : List Sys2Proof.SliceCal} (hs : Reach P Q s0 s) (h1 : ∀ i, P ⟨.live .calConvFail, 0, i⟩) (h2 : ∀ i, P ⟨.cal .convFailed, d, i⟩) (h3 : ∀ i, P ⟨.sticky .calConvReject, 0, i⟩) (h4 : ∀ i, P ⟨.cal .nConvReject, d, i⟩) (h5 : ∀ i, P ⟨.sticky .calConvFail, 0, i⟩) (h6 : ∀ i, P ⟨.cal .convValid, d, i⟩) (h7 : ∀ i, P ⟨.sticky .calConvNoSpare, 0, i⟩) (h8 : ∀ i, P ⟨.live .calConvNoSpare, 0, i⟩) (h9 : ∀ i, P ⟨.cal .spareFor, d, i⟩) (h10 : ∀ i, P ⟨.cal .sparePerm, d, i⟩) (h11 : ∀ i, P ⟨.cal .rejRun, d, i⟩) (h12 : ∀ i, P ⟨.cal .convTimeNs, d, i⟩) (h13 : ∀ i, P ⟨.cal .convTimeS, d, i⟩) (h14 : ∀ i, P ⟨.cal .nConvCount, d, i⟩) (h15 : ∀ i, P ⟨.cal .stale, d, i⟩) (h16 : ∀ i, P ⟨.cal .setMeasured, d, i⟩) (h17 : ∀ i, P ⟨.live .calConvStale, 0, i⟩) (h18 : ∀ i, P ⟨.cal .coef, d, i⟩) (h19 : ∀ i, P ⟨.boot .procCalled, 0, i⟩) (h20 : ∀ i, P ⟨.boot .procCode, 0, i⟩) (h21 : ∀ i, P ⟨.boot .procDone, 0, i⟩) (h22 : ∀ i, P ⟨.cal .roundPct, d, i⟩) (h23 : ∀ i, P ⟨.cal .bgRun, d, i⟩) (h24 : ∀ i, P ⟨.cal .convPos, d, i⟩) (qreports : Q .reports) :
    Reach P Q s0 (State.convForeground s d meas) := by
  unfold State.convForeground
  repeat' with_reducible first | assumption | apply State.convFailFollow_reach | apply State.set_reach | apply State.each_reach | apply State.convFore_reach | apply State.convEnd_reach | apply State.convRounds_reach | apply State.setB_reach | (intros; show P _ = true; apply_assumption) | split | dsimp only | intro _

theorem execCalConverters_reach {d : Nat} {waited : Bool} {meas : List Sys2Proof.SliceCal} (hs : Reach P Q s0 s) (hsum : ∀ k, k.cell.summary → P k) (h11 : ∀ i, P ⟨.boot .procCalled, 0, i⟩) (h12 : ∀ i, P ⟨.boot .procCode, 0, i⟩) (h13 : ∀ i, P ⟨.boot .procDone, 0, i⟩) (h14 : ∀ i, P ⟨.cal .roundPct, d, i⟩) (h15 : ∀ i, P ⟨.cal .bgRun, d, i⟩) (h16 : ∀ i, P ⟨.cal .convPos, d, i⟩) (h17 : ∀ i, P ⟨.live .calConvFail, 0, i⟩) (h18 : ∀ i, P ⟨.cal .convFailed, d, i⟩) (h19 : ∀ i, P ⟨.sticky .calConvReject, 0, i⟩) (h20 : ∀ i, P ⟨.cal .nConvReject, d, i⟩) (h21 : ∀ i, P ⟨.sticky .calConvFail, 0, i⟩) (h22 : ∀ i, P ⟨.cal .convValid, d, i⟩) (h23 : ∀ i, P ⟨.sticky .calConvNoSpare, 0, i⟩) (h24 : ∀ i, P ⟨.live .calConvNoSpare, 0, i⟩) (h25 : ∀ i, P ⟨.cal .spareFor, d, i⟩) (h26 : ∀ i, P ⟨.cal .sparePerm, d, i⟩) (h27 : ∀ i, P ⟨.cal .rejRun, d, i⟩) (h28 : ∀ i, P ⟨.cal .convTimeNs, d, i⟩) (h29 : ∀ i, P ⟨.cal .convTimeS, d, i⟩) (h30 : ∀ i, P ⟨.cal .nConvCount, d, i⟩) (h31 : ∀ i, P ⟨.cal .stale, d, i⟩) (h32 : ∀ i, P ⟨.cal .setMeasured, d, i⟩) (h33 : ∀ i, P ⟨.live .calConvStale, 0, i⟩) (h34 : ∀ i, P ⟨.cal .coef, d, i⟩) (qreports : Q .reports) :
    ∃ t, execCalConverters d waited meas s = .next t ∧ Reach P Q s0 t := by
  unfold execCalConverters
  repeat' with_reducible first | assumption | apply finishIf_reach | apply State.convEnd_reach | apply State.convRounds_reach | apply State.convForeground_reach | (intros; show P _ = true; first | exact hsum _ rfl | (clear hsum; apply_assumption)) | split | dsimp only | intro _

end Sys2Proof.Machine
end

