-- ==== Sys2Proof/Laws/MovesRules.lean ====
section
/-!
SUPPORT. What the operations of Machine/Rules.lean may change, one lemma each (Laws/Reach.lean).
-/
namespace Sys2Proof.Machine

set_option linter.unusedTactic false
set_option linter.unreachableTactic false

variable {P : Key → Bool} {Q : Part → Bool} {s0 s : State}

theorem State.asPlanned_reach (hs : Reach P Q s0 s) (h1 : ∀ d i, P ⟨.sys .winBusy, d, i⟩) (h2 : ∀ a d i, P ⟨Cell.winDirty a, d, i⟩) (h3 : ∀ a d i, P ⟨Cell.mask a, d, i⟩) (h4 : ∀ a d i, P ⟨Cell.win a, d, i⟩) (h5 : ∀ a d i, P ⟨Cell.winNew a, d, i⟩) :
    Reach P Q s0 (State.asPlanned s) := by
  unfold State.asPlanned
  repeat' with_reducible first | assumption | apply State.each_reach | apply State.applyWin_reach | apply State.commitWin_reach | (intros; show P _ = true; apply_assumption) | split | dsimp only | intro _

end Sys2Proof.Machine
end

