-- ==== Sys2Proof/Laws/MovesWrites.lean ====
section
/-!
SUPPORT. What the operations of Machine/Writes.lean may change, one lemma each (Laws/Reach.lean).
-/
namespace Sys2Proof.Machine

set_option linter.unusedTactic false
set_option linter.unreachableTactic false

variable {P : Key → Bool} {Q : Part → Bool} {s0 s : State}

theorem State.clearSticky_reach {l : List Alm} {d : Nat} {i : Nat} {ones : Nat} {again : Nat} (hs : Reach P Q s0 s) (h1 : ∀ a i, P ⟨Cell.sticky a, d, i⟩) :
    Reach P Q s0 (State.clearSticky s l d i ones again) := by
  unfold State.clearSticky
  repeat' with_reducible first | assumption | apply State.each_reach | apply State.set_reach | (intros; show P _ = true; apply_assumption) | split | dsimp only | intro _

theorem State.bankSave_reach {x : Nat} (hs : Reach P Q s0 s) (h1 : ∀ d i, P ⟨.boot .wroteBank, d, i⟩) (h2 : ∀ d i, P ⟨.boot .oldBank, d, i⟩) :
    Reach P Q s0 (State.bankSave s x) := by
  unfold State.bankSave
  repeat' with_reducible first | assumption | apply State.set_reach | (intros; show P _ = true; apply_assumption) | split | dsimp only | intro _

theorem State.pelFollow_reach {d : Nat} (hs : Reach P Q s0 s) (h1 : ∀ i, P ⟨.pel .walkoff, d, i⟩) (h2 : ∀ i, P ⟨.pel .spacing, d, i⟩) (h3 : ∀ i, P ⟨.pel .tapsRun, d, i⟩) (h4 : ∀ i, P ⟨.pel .nbState, d, i⟩) (h5 : ∀ i, P ⟨.pel .lost, d, i⟩) (h6 : ∀ i, P ⟨.pel .taps, d, i⟩) :
    Reach P Q s0 (State.pelFollow s d) := by
  unfold State.pelFollow
  repeat' with_reducible first | assumption | apply State.each_reach | apply State.nbShow_reach | apply State.nbEnter_reach | (intros; show P _ = true; apply_assumption) | split | dsimp only | intro _

theorem State.putField_reach {c : Cell} {d : Nat} {i : Nat} {v : Nat} (hs : Reach P Q s0 s) (h1 : ∀ k, P k) (qreports : Q .reports) (qcands : Q .cands) (qmbox : Q .mbox) (qheld : Q .held) (qtickets : Q .tickets) (qrun : Q .run) (qpolicy : Q .policy) (qimgPolicy : Q .imgPolicy) (qtrust : Q .trust) (qtelOut : Q .telOut) (qclsTab : Q .clsTab) (qstaged : Q .staged) (qrings : Q .rings) (qtracker : Q .tracker) (qretireQ : Q .retireQ) (qmerge : Q .merge) (qdescs : Q .descs) (qkch : Q .kch) (qfups : Q .fups) :
    Reach P Q s0 (State.putField s c d i v) := by
  unfold State.putField
  repeat' with_reducible first | assumption | apply State.set_reach | apply State.chainEnable_reach | apply State.chainDisable_reach | apply State.txStop_reach | apply State.txStart_reach | apply State.muteRefresh_reach | apply State.bellFollow_reach | apply State.setTxComp_reach | apply State.rxStop_reach | apply State.setRxComp_reach | apply State.lasEnable_reach | apply State.lasEnFall_reach | apply State.lasRetune_reach | apply State.framerSet_reach | apply State.pelFollow_reach | apply State.portStart_reach | apply State.portStop_reach | apply State.portIdle_reach | apply State.portWake_reach | apply State.laneTestSet_reach | apply State.brakeFollow_reach | apply State.spareFollow_reach | apply State.retireFollow_reach | apply State.drbg_reach | apply State.bellEnable_reach | apply State.seqFollow_reach | apply State.filtReset_reach | apply State.biasShow_reach | apply State.monEnSet_reach | apply State.dpllSelect_reach | apply State.ppsEnSet_reach | apply State.ppsTbSet_reach | apply State.ppsOfsSet_reach | apply State.tbSrcSet_reach | (intros; show P _ = true; apply_assumption) | split | dsimp only | intro _

theorem State.writeFld_reach {f : Fld} {d : Nat} {i : Nat} {mask : Nat} {value : Nat} (hs : Reach P Q s0 s) (h1 : ∀ k, P k) (qreports : Q .reports) (qcands : Q .cands) (qmbox : Q .mbox) (qheld : Q .held) (qtickets : Q .tickets) (qrun : Q .run) (qpolicy : Q .policy) (qimgPolicy : Q .imgPolicy) (qtrust : Q .trust) (qtelOut : Q .telOut) (qclsTab : Q .clsTab) (qstaged : Q .staged) (qrings : Q .rings) (qtracker : Q .tracker) (qretireQ : Q .retireQ) (qmerge : Q .merge) (qdescs : Q .descs) (qkch : Q .kch) (qfups : Q .fups) :
    Reach P Q s0 (State.writeFld s f d i mask value) := by
  unfold State.writeFld
  repeat' with_reducible first | assumption | apply State.putField_reach | (intros; show P _ = true; apply_assumption) | split | dsimp only | intro _

theorem State.writeFlds_reach {r : Reg} {d : Nat} {i : Nat} {mask : Nat} {value : Nat} (hs : Reach P Q s0 s) (h1 : ∀ k, P k) (qreports : Q .reports) (qcands : Q .cands) (qmbox : Q .mbox) (qheld : Q .held) (qtickets : Q .tickets) (qrun : Q .run) (qpolicy : Q .policy) (qimgPolicy : Q .imgPolicy) (qtrust : Q .trust) (qtelOut : Q .telOut) (qclsTab : Q .clsTab) (qstaged : Q .staged) (qrings : Q .rings) (qtracker : Q .tracker) (qretireQ : Q .retireQ) (qmerge : Q .merge) (qdescs : Q .descs) (qkch : Q .kch) (qfups : Q .fups) :
    Reach P Q s0 (State.writeFlds s r d i mask value) := by
  unfold State.writeFlds
  repeat' with_reducible first | assumption | apply State.each_reach | apply State.writeFld_reach | (intros; show P _ = true; apply_assumption) | split | dsimp only | intro _

theorem State.command_reach {c : Cell} {d : Nat} {i : Nat} (hs : Reach P Q s0 s) (h1 : ∀ i, P ⟨.hl .mutValid, d, i⟩) (h2 : ∀ i, P ⟨.hl .escanErr, d, i⟩) (h3 : ∀ i, P ⟨.hl .escanBusy, d, i⟩) (h4 : ∀ i, P ⟨.qs .gatePend, d, i⟩) (h5 : ∀ i, P ⟨.qs .nGateCommit, d, i⟩) (h6 : ∀ i, P ⟨.qs .gateStartS, d, i⟩) (h7 : ∀ i, P ⟨.qs .gateStartNs, d, i⟩) (h8 : ∀ i, P ⟨.qs .gatePending, d, i⟩) (h9 : ∀ i, P ⟨.qs .gatePendAt, d, i⟩) (h10 : ∀ i, P ⟨.qs .gatePendCycle, d, i⟩) (h11 : ∀ i, P ⟨.qs .gatePendLen, d, i⟩) (h12 : ∀ i, P ⟨.sticky .timTbStep, 0, i⟩) (h13 : ∀ i, P ⟨.tim .nStep, 0, i⟩) (h14 : ∀ i, P ⟨.tim .tbValid, 0, i⟩) (h15 : ∀ i, P ⟨.tim .tbNs, 0, i⟩) (h16 : ∀ i, P ⟨.tim .tbSec, 0, i⟩) (h17 : ∀ i, P ⟨.tim .trigHeld, 0, i⟩) (h18 : ∀ i, P ⟨.sticky .timTrigLate, 0, i⟩) (h19 : ∀ i, P ⟨.tim .nTrigLate, 0, i⟩) (h20 : ∀ i, P ⟨.tim .nTrigFired, 0, i⟩) (h21 : ∀ i, P ⟨.tim .trigArmed, 0, i⟩) (h22 : ∀ i, P ⟨.tim .trigTgt, 0, i⟩) (h23 : ∀ i, P ⟨.clk .ppsErr, 0, i⟩) (h24 : ∀ i, P ⟨.sticky .clkPpsSlew, 0, i⟩) (h25 : ∀ i, P ⟨.live .clkPpsSlew, 0, i⟩) (h26 : ∀ i, P ⟨.clk .ppsErr8, 0, i⟩) (h27 : ∀ i, P ⟨.tim .tbSub, 0, i⟩) (h28 : ∀ i, P ⟨.tim .tbFrac, 0, i⟩) (h29 : ∀ i, P ⟨.tim .nOutlier, 0, i⟩) (h30 : ∀ i, P ⟨.tim .tbState, 0, i⟩) (h31 : ∀ i, P ⟨.sticky .timTbHold, 0, i⟩) (h32 : ∀ i, P ⟨.live .timTbHold, 0, i⟩) (h33 : ∀ i, P ⟨.tim .lockRun, 0, i⟩) (h34 : ∀ i, P ⟨.tim .outRun, 0, i⟩) (h35 : ∀ i, P ⟨.tim .sampAt, 0, i⟩) (h36 : ∀ i, P ⟨.tim .tbOffset, 0, i⟩) (h37 : ∀ i, P ⟨.tim .nSamples, 0, i⟩) (h38 : ∀ i, P ⟨.tim .tbFreq, 0, i⟩) (h39 : ∀ i, P ⟨.tim .trim, 0, i⟩) (h40 : ∀ i, P ⟨.tim .integ, 0, i⟩) (h41 : ∀ i, P ⟨.mon .fDel, d, i⟩) (h42 : ∀ i, P ⟨.mon .fAcc, d, i⟩) (h43 : ∀ i, P ⟨.mon .fValid, d, i⟩) (h44 : ∀ i, P ⟨.mon .fSub, d, i⟩) (h45 : ∀ i, P ⟨.mon .fOuts, d, i⟩) (h46 : ∀ i, P ⟨.mon .fPhase, d, i⟩) (h47 : ∀ i, P ⟨.mon .fGd, d, i⟩) (h48 : ∀ i, P ⟨.mon .fSeed, d, i⟩) (h49 : ∀ i, P ⟨.bias .restartReq, d, i⟩) (h50 : ∀ i, P ⟨.bias .ptUnlRun, d, i⟩) (h51 : ∀ i, P ⟨.bias .ptLockRun, d, i⟩) (h52 : ∀ i, P ⟨.bias .ptBase, d, i⟩) (h53 : ∀ i, P ⟨.bias .ptTry, d, i⟩) (h54 : ∀ i, P ⟨.bias .ptV, d, i⟩) (h55 : ∀ i, P ⟨.bias .ptFirst, d, i⟩) (h56 : ∀ i, P ⟨.bias .nUnlock, d, i⟩) (h57 : ∀ i, P ⟨.bias .ptState, d, i⟩) (h58 : ∀ i, P ⟨.sys .freeCount, 0, i⟩) (h59 : ∀ i, P ⟨.bias .outMv, d, i⟩) (h60 : ∀ i, P ⟨.bias .ptLocked, d, i⟩) (h61 : ∀ i, P ⟨.bias .biasLock, d, i⟩) (h62 : ∀ i, P ⟨.sticky .biasNearRail, d, i⟩) (h63 : ∀ i, P ⟨.live .biasNearRail, d, i⟩) (h64 : ∀ i, P ⟨.sticky .biasRail, d, i⟩) (h65 : ∀ i, P ⟨.live .biasRail, d, i⟩) (h66 : ∀ i, P ⟨.sticky .biasOutFault, d, i⟩) (h67 : ∀ i, P ⟨.live .biasOutFault, d, i⟩) (h68 : ∀ i, P ⟨.sticky .biasUnlock, d, i⟩) (h69 : ∀ i, P ⟨.live .biasUnlock, d, i⟩) (h70 : ∀ i, P ⟨.lt .muteCause, d, i⟩) (h71 : ∀ i, P ⟨.lt .ramp, d, i⟩) (h72 : ∀ i, P ⟨.lt .txState, d, i⟩) (h73 : ∀ i, P ⟨.lt .otherCause, d, i⟩) (h74 : ∀ i, P ⟨.bias .ptAcq, d, i⟩) (h75 : ∀ i, P ⟨.lt .nMuteEnter, d, i⟩) (h76 : ∀ i, P ⟨.lt .begun4, d, i⟩) (h77 : ∀ i, P ⟨.sticky .ltTxDown, d, i⟩) (h78 : ∀ i, P ⟨.live .ltTxDown, d, i⟩) (h79 : ∀ i, P ⟨.sticky .biasWrap, d, i⟩) (h80 : ∀ i, P ⟨.bias .nWrap, d, i⟩) (h81 : ∀ i, P ⟨.bias .ptWrapTo, d, i⟩) (h82 : ∀ i, P ⟨.cal .sysMask, 0, i⟩) (h83 : ∀ i, P ⟨.cal .sysBusy, 0, i⟩) (h84 : ∀ d i, P ⟨.mon .seqState, d, i⟩) (h85 : ∀ i, P ⟨.inj .left, d, i⟩) (h86 : ∀ i, P ⟨.inj .uResult, d, i⟩) (h87 : ∀ i, P ⟨.inj .uActive, d, i⟩) (h88 : ∀ i, P ⟨.crc .nReject, 0, i⟩) (h89 : ∀ i, P ⟨.crc .jobLen, 0, i⟩) (h90 : ∀ i, P ⟨.crc .jobAddr, 0, i⟩) (h91 : ∀ i, P ⟨.crc .jobCfg, 0, i⟩) (h92 : ∀ i, P ⟨.crc .jobXor, 0, i⟩) (h93 : ∀ i, P ⟨.crc .jobInit, 0, i⟩) (h94 : ∀ i, P ⟨.crc .jobPoly, 0, i⟩) (h95 : ∀ i, P ⟨.crc .resStatus, 0, i⟩) (h96 : ∀ i, P ⟨.crc .slotRead, 0, i⟩) (h97 : ∀ i, P ⟨.crc .submits, 0, i⟩) (h98 : ∀ i, P ⟨.crc .jobOrder, 0, i⟩) (h99 : ∀ i, P ⟨.crc .resSlot, 0, i⟩) (h100 : ∀ i, P ⟨.crc .resFaultAddr, 0, i⟩) (h101 : ∀ i, P ⟨.crc .resBytes, 0, i⟩) (h102 : ∀ i, P ⟨.crc .resResult, 0, i⟩) (h103 : ∀ i, P ⟨.crc .jobsQueued, 0, i⟩) (qreports : Q .reports) :
    Reach P Q s0 (State.command s c d i) := by
  unfold State.command
  repeat' with_reducible first | assumption | apply State.escanBegin_reach | apply State.gateCommit_reach | apply State.tbSetNow_reach | apply State.hostApply_reach | apply State.trigArm_reach | apply State.trigDisarm_reach | apply State.filtSync_reach | apply State.set_reach | apply State.wrapNow_reach | apply State.sysCalStart_reach | apply State.injFire_reach | apply State.injStop_reach | apply State.crcSubmit_reach | (intros; show P _ = true; apply_assumption) | split | dsimp only | intro _

theorem State.writeReg_reach {r : Reg} {d : Nat} {i : Nat} {mask : Nat} {value : Nat} (hs : Reach P Q s0 s) (h1 : ∀ k, P k) (qreports : Q .reports) (qcands : Q .cands) (qmbox : Q .mbox) (qheld : Q .held) (qtickets : Q .tickets) (qrun : Q .run) (qpolicy : Q .policy) (qimgPolicy : Q .imgPolicy) (qtrust : Q .trust) (qtelOut : Q .telOut) (qclsTab : Q .clsTab) (qstaged : Q .staged) (qrings : Q .rings) (qtracker : Q .tracker) (qretireQ : Q .retireQ) (qmerge : Q .merge) (qdescs : Q .descs) (qkch : Q .kch) (qfups : Q .fups) :
    Reach P Q s0 (State.writeReg s r d i mask value) := by
  unfold State.writeReg
  repeat' with_reducible first | assumption | apply State.each_reach | apply State.writeFlds_reach | apply State.command_reach | (intros; show P _ = true; apply_assumption) | split | dsimp only | intro _

theorem State.writeMask_reach {l : List Alm} {d : Nat} {i : Nat} {mask : Nat} {value : Nat} (hs : Reach P Q s0 s) (h1 : ∀ a i, P ⟨Cell.mask a, d, i⟩) :
    Reach P Q s0 (State.writeMask s l d i mask value) := by
  unfold State.writeMask
  repeat' with_reducible first | assumption | apply State.each_reach | apply State.setB_reach | (intros; show P _ = true; apply_assumption) | split | dsimp only | intro _

theorem State.clsRun_reach {d : Nat} {w0 : Nat} {w1 : Nat} (hs : Reach P Q s0 s) (h1 : ∀ i, P ⟨.sys .freeCount, 0, i⟩) (h2 : ∀ i, P ⟨.qs .clsUsed, d, i⟩) (h3 : ∀ i, P ⟨.qs .clsResult, d, i⟩) (h4 : ∀ i, P ⟨.sticky .qsClsNoRoom, d, i⟩) (h5 : ∀ i, P ⟨.qs .nClsNoRoom, d, i⟩) (h6 : ∀ i, P ⟨.win .qsCls, d, i⟩) (qclsTab : Q .clsTab) (qreports : Q .reports) :
    Reach P Q s0 (State.clsRun s d w0 w1) := by
  unfold State.clsRun
  repeat' with_reducible first | assumption | apply State.clsInsert_reach | apply State.clsDelete_reach | apply State.clsFind_reach | (intros; show P _ = true; apply_assumption) | split | dsimp only | intro _

theorem State.winStore_reach {w : Win} {d : Nat} {e : Nat} {k : Nat} {mask : Nat} {value : Nat} (hs : Reach P Q s0 s) (h1 : ∀ i, P ⟨Cell.win w, d, i⟩) (h2 : ∀ i, P ⟨.sys .freeCount, 0, i⟩) (h3 : ∀ i, P ⟨.qs .clsUsed, d, i⟩) (h4 : ∀ i, P ⟨.qs .clsResult, d, i⟩) (h5 : ∀ i, P ⟨.sticky .qsClsNoRoom, d, i⟩) (h6 : ∀ i, P ⟨.qs .nClsNoRoom, d, i⟩) (h7 : ∀ i, P ⟨.win .qsCls, d, i⟩) (h8 : ∀ a i, P ⟨Cell.sticky a, d, i⟩) (h9 : ∀ a i, P ⟨Cell.winDirty a, d, i⟩) (h10 : ∀ a i, P ⟨Cell.winNew a, d, i⟩) (qclsTab : Q .clsTab) (qreports : Q .reports) :
    Reach P Q s0 (State.winStore s w d e k mask value) := by
  unfold State.winStore
  repeat' with_reducible first | assumption | apply State.setWin_reach | apply State.clsRun_reach | apply State.clearSticky_reach | apply State.stageWin_reach | (intros; show P _ = true; apply_assumption) | split | dsimp only | intro _

theorem State.winWrite_reach {w : Win} {d : Nat} {port : Sys2Proof.APort} {mask : Nat} {value : Nat} (hs : Reach P Q s0 s) (h1 : ∀ i, P ⟨.sys .winWord, d, i⟩) (h2 : ∀ i, P ⟨.sys .winEntry, d, i⟩) (h3 : ∀ i, P ⟨Cell.win w, d, i⟩) (h4 : ∀ i, P ⟨.sys .freeCount, 0, i⟩) (h5 : ∀ i, P ⟨.qs .clsUsed, d, i⟩) (h6 : ∀ i, P ⟨.qs .clsResult, d, i⟩) (h7 : ∀ i, P ⟨.sticky .qsClsNoRoom, d, i⟩) (h8 : ∀ i, P ⟨.qs .nClsNoRoom, d, i⟩) (h9 : ∀ i, P ⟨.win .qsCls, d, i⟩) (h10 : ∀ a i, P ⟨Cell.sticky a, d, i⟩) (h11 : ∀ a i, P ⟨Cell.winDirty a, d, i⟩) (h12 : ∀ a i, P ⟨Cell.winNew a, d, i⟩) (qclsTab : Q .clsTab) (qreports : Q .reports) :
    Reach P Q s0 (State.winWrite s w d port mask value) := by
  unfold State.winWrite
  repeat' with_reducible first | assumption | apply State.setPtr_reach | apply State.winStore_reach | (intros; show P _ = true; apply_assumption) | split | dsimp only | intro _

theorem State.winControl_reach {w : Win} {d : Nat} {mask : Nat} {value : Nat} (hs : Reach P Q s0 s) (h1 : ∀ i, P ⟨.qs .clsOp, d, i⟩) (h2 : ∀ i, P ⟨.sys .winBusy, d, i⟩) (h3 : ∀ a i, P ⟨Cell.winDirty a, d, i⟩) (h4 : ∀ a i, P ⟨Cell.winNew a, d, i⟩) (h5 : ∀ i, P ⟨.lt .firPending, d, i⟩) (h6 : ∀ i, P ⟨.winDirty .monSeq, d, i⟩) (h7 : ∀ a i, P ⟨Cell.mask a, d, i⟩) (h8 : ∀ i, P ⟨.win .monSeq, d, i⟩) (h9 : ∀ i, P ⟨.mon .fDel, d, i⟩) (h10 : ∀ i, P ⟨.mon .fAcc, d, i⟩) (h11 : ∀ i, P ⟨.mon .fValid, d, i⟩) (h12 : ∀ i, P ⟨.mon .fSub, d, i⟩) (h13 : ∀ i, P ⟨.mon .fOuts, d, i⟩) (h14 : ∀ i, P ⟨.mon .fPhase, d, i⟩) (h15 : ∀ i, P ⟨.mon .fGd, d, i⟩) (h16 : ∀ i, P ⟨.mon .fSeed, d, i⟩) (h17 : ∀ i, P ⟨.winNew .monSeq, d, i⟩) :
    Reach P Q s0 (State.winControl s w d mask value) := by
  unfold State.winControl
  repeat' with_reducible first | assumption | apply State.set_reach | apply State.qsCommit_reach | apply State.seqApply_reach | apply State.commitWin_reach | (intros; show P _ = true; apply_assumption) | split | dsimp only | intro _

theorem State.applyWrite_reach {x : Nat} {mask : Nat} {value : Nat} (hs : Reach P Q s0 s) (h1 : ∀ k, P k) (qreports : Q .reports) (qcands : Q .cands) (qmbox : Q .mbox) (qheld : Q .held) (qtickets : Q .tickets) (qrun : Q .run) (qpolicy : Q .policy) (qimgPolicy : Q .imgPolicy) (qtrust : Q .trust) (qtelOut : Q .telOut) (qclsTab : Q .clsTab) (qstaged : Q .staged) (qrings : Q .rings) (qtracker : Q .tracker) (qretireQ : Q .retireQ) (qmerge : Q .merge) (qdescs : Q .descs) (qkch : Q .kch) (qfups : Q .fups) :
    Reach P Q s0 (State.applyWrite s x mask value) := by
  unfold State.applyWrite
  repeat' with_reducible first | assumption | apply State.bankSave_reach | apply State.writeReg_reach | apply State.set_reach | apply State.clearSticky_reach | apply State.writeMask_reach | apply State.each_reach | apply State.setB_reach | apply State.setPtr_reach | apply State.winWrite_reach | apply State.winControl_reach | (intros; show P _ = true; apply_assumption) | split | dsimp only | intro _

end Sys2Proof.Machine
end

