-- ==== Sys2Proof/Laws/MovesRecords.lean ====
section
/-!
SUPPORT. What the operations of Machine/Records.lean may change, one lemma each (Laws/Reach.lean).
-/
namespace Sys2Proof.Machine

set_option linter.unusedTactic false
set_option linter.unreachableTactic false

variable {P : Key → Bool} {Q : Part → Bool} {s0 s : State}

theorem State.recRead_reach {x : Nat} (hs : Reach P Q s0 s) (h1 : ∀ i, P ⟨.sys .snapValid, 0, i⟩) (h2 : ∀ i, P ⟨.sys .snapHi, 0, i⟩) (h3 : ∀ i, P ⟨.sys .snapAddr, 0, i⟩) (h4 : ∀ i, P ⟨.tkt .rejHeld, 0, i⟩) (h5 : ∀ i, P ⟨.sys .tbLatchFrac, 0, i⟩) (h6 : ∀ i, P ⟨.sys .tbLatchSec, 0, i⟩) (h7 : ∀ i, P ⟨.sys .tbLatchValid, 0, i⟩) (h8 : ∀ d i, P ⟨.mon .fOutLatched, d, i⟩) (h9 : ∀ i, P ⟨.crc .slotRead, 0, i⟩) (h10 : ∀ i, P ⟨.sys .freeCount, 0, i⟩) (h11 : ∀ d i, P ⟨.sys .winWord, d, i⟩) (h12 : ∀ d i, P ⟨.sys .winEntry, d, i⟩) :
    Reach P Q s0 (State.recRead s x).2 := by
  unfold State.recRead
  repeat' with_reducible first | assumption | apply State.read_reach | (intros; show P _ = true; apply_assumption) | split | dsimp only | intro _

theorem State.procCall_reach {id : Nat} {args : List Nat} (hs : Reach P Q s0 s) (h1 : ∀ i, P ⟨.boot .procCalled, 0, i⟩) (h2 : ∀ i, P ⟨.boot .procArgW, 0, i⟩) :
    Reach P Q s0 (State.procCall s id args) := by
  unfold State.procCall
  repeat' with_reducible first | assumption | apply State.set_reach | apply State.each_reach | (intros; show P _ = true; apply_assumption) | split | dsimp only | intro _

end Sys2Proof.Machine
end

