-- ==== Sys2Proof/Laws/MovesStartup.lean ====
section
/-!
SUPPORT. What the operations of Machine/Startup.lean may change, one lemma each (Laws/Reach.lean).
-/
namespace Sys2Proof.Machine

set_option linter.unusedTactic false
set_option linter.unreachableTactic false

variable {P : Key → Bool} {Q : Part → Bool} {s0 s : State}

theorem State.latchError_reach {code : Nat} {detail : Nat} {die : Nat} {addr : Nat} (hs : Reach P Q s0 s) (h1 : ∀ i, P ⟨.boot .errAddr, 0, i⟩) (h2 : ∀ i, P ⟨.boot .errDie, 0, i⟩) (h3 : ∀ i, P ⟨.boot .detail, 0, i⟩) (h4 : ∀ i, P ⟨.boot .errCode, 0, i⟩) :
    Reach P Q s0 (State.latchError s code detail die addr) := by
  unfold State.latchError
  repeat' with_reducible first | assumption | apply State.set_reach | (intros; show P _ = true; apply_assumption) | split | dsimp only | intro _

theorem State.phaseStop_reach (hs : Reach P Q s0 s) (h1 : ∀ i, P ⟨.boot .phaseRun, 0, i⟩) (h2 : ∀ i, P ⟨.boot .phaseMs, 0, i⟩) :
    Reach P Q s0 (State.phaseStop s) := by
  unfold State.phaseStop
  repeat' with_reducible first | assumption | apply State.set_reach | (intros; show P _ = true; apply_assumption) | split | dsimp only | intro _

theorem State.goDark_reach (hs : Reach P Q s0 s) (h1 : ∀ d i, P ⟨.lt .muteCause, d, i⟩) (h2 : ∀ d i, P ⟨.lt .ramp, d, i⟩) (h3 : ∀ d i, P ⟨.lt .txState, d, i⟩) (h4 : ∀ d i, P ⟨.lt .otherCause, d, i⟩) (h5 : ∀ d i, P ⟨.bias .ptState, d, i⟩) (h6 : ∀ d i, P ⟨.bias .ptAcq, d, i⟩) (h7 : ∀ d i, P ⟨.bias .ptV, d, i⟩) (h8 : ∀ d i, P ⟨.bias .ptBase, d, i⟩) (h9 : ∀ d i, P ⟨.lt .nMuteEnter, d, i⟩) (h10 : ∀ d i, P ⟨.lt .begun4, d, i⟩) (h11 : ∀ d i, P ⟨.sticky .ltTxDown, d, i⟩) (h12 : ∀ d i, P ⟨.live .ltTxDown, d, i⟩) (h13 : ∀ d i, P ⟨.lt .sysCause, d, i⟩) (h14 : ∀ d i, P ⟨.bias .ptUnlRun, d, i⟩) (h15 : ∀ d i, P ⟨.bias .ptLockRun, d, i⟩) (h16 : ∀ d i, P ⟨.bias .ptTry, d, i⟩) (h17 : ∀ d i, P ⟨.bias .ptFirst, d, i⟩) (h18 : ∀ d i, P ⟨.bias .nUnlock, d, i⟩) (h19 : ∀ i, P ⟨.sys .freeCount, 0, i⟩) (h20 : ∀ d i, P ⟨.bias .outMv, d, i⟩) (h21 : ∀ d i, P ⟨.bias .ptLocked, d, i⟩) (h22 : ∀ d i, P ⟨.bias .biasLock, d, i⟩) (h23 : ∀ d i, P ⟨.sticky .biasNearRail, d, i⟩) (h24 : ∀ d i, P ⟨.live .biasNearRail, d, i⟩) (h25 : ∀ d i, P ⟨.sticky .biasRail, d, i⟩) (h26 : ∀ d i, P ⟨.live .biasRail, d, i⟩) (h27 : ∀ d i, P ⟨.sticky .biasOutFault, d, i⟩) (h28 : ∀ d i, P ⟨.live .biasOutFault, d, i⟩) (h29 : ∀ d i, P ⟨.sticky .biasUnlock, d, i⟩) (h30 : ∀ d i, P ⟨.live .biasUnlock, d, i⟩) (h31 : ∀ d i, P ⟨.bias .light, d, i⟩) (h32 : ∀ d i, P ⟨.sticky .lrLoLost, d, i⟩) (h33 : ∀ d i, P ⟨.live .lrLoLost, d, i⟩) (h34 : ∀ i, P ⟨.boot .procCalled, 0, i⟩) (h35 : ∀ i, P ⟨.boot .procCode, 0, i⟩) (h36 : ∀ i, P ⟨.boot .procDone, 0, i⟩) (h37 : ∀ d i, P ⟨.live .lasFault, d, i⟩) (h38 : ∀ d i, P ⟨.las .lowCount, d, i⟩) (h39 : ∀ d i, P ⟨.las .recovering, d, i⟩) (h40 : ∀ d i, P ⟨.las .reason, d, i⟩) (h41 : ∀ d i, P ⟨.las .state, d, i⟩) (h42 : ∀ d i, P ⟨.hl .keep, d, i⟩) (h43 : ∀ d i, P ⟨.hl .state, d, i⟩) (h44 : ∀ d i, P ⟨.hl .idleRun, d, i⟩) (h45 : ∀ d i, P ⟨.hl .relock, d, i⟩) (h46 : ∀ d i, P ⟨.hl .waitSig, d, i⟩) (h47 : ∀ d i, P ⟨.hl .reqResult, d, i⟩) (h48 : ∀ d i, P ⟨.hl .reqSeq, d, i⟩) (h49 : ∀ d i, P ⟨.hl .stepFails, d, i⟩) (h50 : ∀ d i, P ⟨.hl .fellBack, d, i⟩) (h51 : ∀ d i, P ⟨.hl .switched, d, i⟩) (h52 : ∀ d i, P ⟨.hl .preNext, d, i⟩) (h53 : ∀ d i, P ⟨.hl .farCount, d, i⟩) (h54 : ∀ d i, P ⟨.hl .countdown, d, i⟩) (h55 : ∀ d i, P ⟨.hl .farPreCap, d, i⟩) (h56 : ∀ d i, P ⟨.hl .capsRun, d, i⟩) (h57 : ∀ d i, P ⟨.hl .readyLeft, d, i⟩) (h58 : ∀ d i, P ⟨.hl .readyRun, d, i⟩) (h59 : ∀ d i, P ⟨.hl .rxReady, d, i⟩) (h60 : ∀ d i, P ⟨.hl .badRun, d, i⟩) (h61 : ∀ d i, P ⟨.hl .goodRun, d, i⟩) (h62 : ∀ d i, P ⟨.hl .fLock, d, i⟩) (h63 : ∀ d i, P ⟨.sticky .hlpLinkDown, d, i⟩) (h64 : ∀ d i, P ⟨.live .hlpLinkDown, d, i⟩) (h65 : ∀ d i, P ⟨.hl .pGear, d, i⟩) (h66 : ∀ d i, P ⟨.hl .pState, d, i⟩) (h67 : ∀ d i, P ⟨.hl .corrTx, d, i⟩) (h68 : ∀ d i, P ⟨.hl .corrRx, d, i⟩) (qreports : Q .reports) :
    Reach P Q s0 (State.goDark s) := by
  unfold State.goDark
  repeat' with_reducible first | assumption | apply State.each_reach | apply State.muteRefresh_reach | apply State.set_reach | apply State.lasDisable_reach | apply State.laneIdle_reach | apply State.portRefresh_reach | (intros; show P _ = true; apply_assumption) | split | dsimp only | intro _

theorem State.triesUp_reach (hs : Reach P Q s0 s) (h1 : ∀ i, P ⟨.ao .triesB, 0, i⟩) (h2 : ∀ i, P ⟨.ao .triesA, 0, i⟩) :
    Reach P Q s0 (State.triesUp s) := by
  unfold State.triesUp
  repeat' with_reducible first | assumption | apply State.set_reach | (intros; show P _ = true; apply_assumption) | split | dsimp only | intro _

theorem State.startFail_reach {code : Nat} {detail : Nat} {die : Nat} {addr : Nat} (hs : Reach P Q s0 s) (h1 : ∀ i, P ⟨.boot .errAddr, 0, i⟩) (h2 : ∀ i, P ⟨.boot .errDie, 0, i⟩) (h3 : ∀ i, P ⟨.boot .detail, 0, i⟩) (h4 : ∀ i, P ⟨.boot .errCode, 0, i⟩) (h5 : ∀ i, P ⟨.boot .phaseRun, 0, i⟩) (h6 : ∀ i, P ⟨.boot .phaseMs, 0, i⟩) (h7 : ∀ i, P ⟨.boot .procCalled, 0, i⟩) (h8 : ∀ d i, P ⟨.lt .muteCause, d, i⟩) (h9 : ∀ d i, P ⟨.lt .ramp, d, i⟩) (h10 : ∀ d i, P ⟨.lt .txState, d, i⟩) (h11 : ∀ d i, P ⟨.lt .otherCause, d, i⟩) (h12 : ∀ d i, P ⟨.bias .ptState, d, i⟩) (h13 : ∀ d i, P ⟨.bias .ptAcq, d, i⟩) (h14 : ∀ d i, P ⟨.bias .ptV, d, i⟩) (h15 : ∀ d i, P ⟨.bias .ptBase, d, i⟩) (h16 : ∀ d i, P ⟨.lt .nMuteEnter, d, i⟩) (h17 : ∀ d i, P ⟨.lt .begun4, d, i⟩) (h18 : ∀ d i, P ⟨.sticky .ltTxDown, d, i⟩) (h19 : ∀ d i, P ⟨.live .ltTxDown, d, i⟩) (h20 : ∀ d i, P ⟨.lt .sysCause, d, i⟩) (h21 : ∀ d i, P ⟨.bias .ptUnlRun, d, i⟩) (h22 : ∀ d i, P ⟨.bias .ptLockRun, d, i⟩) (h23 : ∀ d i, P ⟨.bias .ptTry, d, i⟩) (h24 : ∀ d i, P ⟨.bias .ptFirst, d, i⟩) (h25 : ∀ d i, P ⟨.bias .nUnlock, d, i⟩) (h26 : ∀ i, P ⟨.sys .freeCount, 0, i⟩) (h27 : ∀ d i, P ⟨.bias .outMv, d, i⟩) (h28 : ∀ d i, P ⟨.bias .ptLocked, d, i⟩) (h29 : ∀ d i, P ⟨.bias .biasLock, d, i⟩) (h30 : ∀ d i, P ⟨.sticky .biasNearRail, d, i⟩) (h31 : ∀ d i, P ⟨.live .biasNearRail, d, i⟩) (h32 : ∀ d i, P ⟨.sticky .biasRail, d, i⟩) (h33 : ∀ d i, P ⟨.live .biasRail, d, i⟩) (h34 : ∀ d i, P ⟨.sticky .biasOutFault, d, i⟩) (h35 : ∀ d i, P ⟨.live .biasOutFault, d, i⟩) (h36 : ∀ d i, P ⟨.sticky .biasUnlock, d, i⟩) (h37 : ∀ d i, P ⟨.live .biasUnlock, d, i⟩) (h38 : ∀ d i, P ⟨.bias .light, d, i⟩) (h39 : ∀ d i, P ⟨.sticky .lrLoLost, d, i⟩) (h40 : ∀ d i, P ⟨.live .lrLoLost, d, i⟩) (h41 : ∀ i, P ⟨.boot .procCode, 0, i⟩) (h42 : ∀ i, P ⟨.boot .procDone, 0, i⟩) (h43 : ∀ d i, P ⟨.live .lasFault, d, i⟩) (h44 : ∀ d i, P ⟨.las .lowCount, d, i⟩) (h45 : ∀ d i, P ⟨.las .recovering, d, i⟩) (h46 : ∀ d i, P ⟨.las .reason, d, i⟩) (h47 : ∀ d i, P ⟨.las .state, d, i⟩) (h48 : ∀ d i, P ⟨.hl .keep, d, i⟩) (h49 : ∀ d i, P ⟨.hl .state, d, i⟩) (h50 : ∀ d i, P ⟨.hl .idleRun, d, i⟩) (h51 : ∀ d i, P ⟨.hl .relock, d, i⟩) (h52 : ∀ d i, P ⟨.hl .waitSig, d, i⟩) (h53 : ∀ d i, P ⟨.hl .reqResult, d, i⟩) (h54 : ∀ d i, P ⟨.hl .reqSeq, d, i⟩) (h55 : ∀ d i, P ⟨.hl .stepFails, d, i⟩) (h56 : ∀ d i, P ⟨.hl .fellBack, d, i⟩) (h57 : ∀ d i, P ⟨.hl .switched, d, i⟩) (h58 : ∀ d i, P ⟨.hl .preNext, d, i⟩) (h59 : ∀ d i, P ⟨.hl .farCount, d, i⟩) (h60 : ∀ d i, P ⟨.hl .countdown, d, i⟩) (h61 : ∀ d i, P ⟨.hl .farPreCap, d, i⟩) (h62 : ∀ d i, P ⟨.hl .capsRun, d, i⟩) (h63 : ∀ d i, P ⟨.hl .readyLeft, d, i⟩) (h64 : ∀ d i, P ⟨.hl .readyRun, d, i⟩) (h65 : ∀ d i, P ⟨.hl .rxReady, d, i⟩) (h66 : ∀ d i, P ⟨.hl .badRun, d, i⟩) (h67 : ∀ d i, P ⟨.hl .goodRun, d, i⟩) (h68 : ∀ d i, P ⟨.hl .fLock, d, i⟩) (h69 : ∀ d i, P ⟨.sticky .hlpLinkDown, d, i⟩) (h70 : ∀ d i, P ⟨.live .hlpLinkDown, d, i⟩) (h71 : ∀ d i, P ⟨.hl .pGear, d, i⟩) (h72 : ∀ d i, P ⟨.hl .pState, d, i⟩) (h73 : ∀ d i, P ⟨.hl .corrTx, d, i⟩) (h74 : ∀ d i, P ⟨.hl .corrRx, d, i⟩) (h75 : ∀ i, P ⟨.boot .state, 0, i⟩) (h76 : ∀ i, P ⟨.sticky .bootRestarted, 0, i⟩) (h77 : ∀ i, P ⟨.live .bootRestarted, 0, i⟩) (h78 : ∀ i, P ⟨.ao .triesB, 0, i⟩) (h79 : ∀ i, P ⟨.ao .triesA, 0, i⟩) (h80 : ∀ i, P ⟨.tkt .ctrLast, 0, i⟩) (qrun : Q .run) (qreports : Q .reports) :
    Reach P Q s0 (State.startFail s code detail die addr) := by
  unfold State.startFail
  repeat' with_reducible first | assumption | apply State.when_reach | apply State.latchError_reach | apply State.phaseStop_reach | apply State.each_reach | apply State.set_reach | apply State.goDark_reach | apply State.raise_reach | apply State.triesUp_reach | (intros; show P _ = true; apply_assumption) | split | dsimp only | intro _ | apply State.run_reach

theorem execMemberDieTimeout_reach {d : Nat} (hs : Reach P Q s0 s) (hsum : ∀ k, k.cell.summary → P k) (h11 : ∀ i, P ⟨.boot .errAddr, 0, i⟩) (h12 : ∀ i, P ⟨.boot .errDie, 0, i⟩) (h13 : ∀ i, P ⟨.boot .detail, 0, i⟩) (h14 : ∀ i, P ⟨.boot .errCode, 0, i⟩) (h15 : ∀ i, P ⟨.boot .phaseRun, 0, i⟩) (h16 : ∀ i, P ⟨.boot .phaseMs, 0, i⟩) (h17 : ∀ i, P ⟨.boot .procCalled, 0, i⟩) (h18 : ∀ d i, P ⟨.lt .muteCause, d, i⟩) (h19 : ∀ d i, P ⟨.lt .ramp, d, i⟩) (h20 : ∀ d i, P ⟨.lt .txState, d, i⟩) (h21 : ∀ d i, P ⟨.lt .otherCause, d, i⟩) (h22 : ∀ d i, P ⟨.bias .ptState, d, i⟩) (h23 : ∀ d i, P ⟨.bias .ptAcq, d, i⟩) (h24 : ∀ d i, P ⟨.bias .ptV, d, i⟩) (h25 : ∀ d i, P ⟨.bias .ptBase, d, i⟩) (h26 : ∀ d i, P ⟨.lt .nMuteEnter, d, i⟩) (h27 : ∀ d i, P ⟨.lt .begun4, d, i⟩) (h28 : ∀ d i, P ⟨.sticky .ltTxDown, d, i⟩) (h29 : ∀ d i, P ⟨.live .ltTxDown, d, i⟩) (h30 : ∀ d i, P ⟨.lt .sysCause, d, i⟩) (h31 : ∀ d i, P ⟨.bias .ptUnlRun, d, i⟩) (h32 : ∀ d i, P ⟨.bias .ptLockRun, d, i⟩) (h33 : ∀ d i, P ⟨.bias .ptTry, d, i⟩) (h34 : ∀ d i, P ⟨.bias .ptFirst, d, i⟩) (h35 : ∀ d i, P ⟨.bias .nUnlock, d, i⟩) (h36 : ∀ i, P ⟨.sys .freeCount, 0, i⟩) (h37 : ∀ d i, P ⟨.bias .outMv, d, i⟩) (h38 : ∀ d i, P ⟨.bias .ptLocked, d, i⟩) (h39 : ∀ d i, P ⟨.bias .biasLock, d, i⟩) (h40 : ∀ d i, P ⟨.sticky .biasNearRail, d, i⟩) (h41 : ∀ d i, P ⟨.live .biasNearRail, d, i⟩) (h42 : ∀ d i, P ⟨.sticky .biasRail, d, i⟩) (h43 : ∀ d i, P ⟨.live .biasRail, d, i⟩) (h44 : ∀ d i, P ⟨.sticky .biasOutFault, d, i⟩) (h45 : ∀ d i, P ⟨.live .biasOutFault, d, i⟩) (h46 : ∀ d i, P ⟨.sticky .biasUnlock, d, i⟩) (h47 : ∀ d i, P ⟨.live .biasUnlock, d, i⟩) (h48 : ∀ d i, P ⟨.bias .light, d, i⟩) (h49 : ∀ d i, P ⟨.sticky .lrLoLost, d, i⟩) (h50 : ∀ d i, P ⟨.live .lrLoLost, d, i⟩) (h51 : ∀ i, P ⟨.boot .procCode, 0, i⟩) (h52 : ∀ i, P ⟨.boot .procDone, 0, i⟩) (h53 : ∀ d i, P ⟨.live .lasFault, d, i⟩) (h54 : ∀ d i, P ⟨.las .lowCount, d, i⟩) (h55 : ∀ d i, P ⟨.las .recovering, d, i⟩) (h56 : ∀ d i, P ⟨.las .reason, d, i⟩) (h57 : ∀ d i, P ⟨.las .state, d, i⟩) (h58 : ∀ d i, P ⟨.hl .keep, d, i⟩) (h59 : ∀ d i, P ⟨.hl .state, d, i⟩) (h60 : ∀ d i, P ⟨.hl .idleRun, d, i⟩) (h61 : ∀ d i, P ⟨.hl .relock, d, i⟩) (h62 : ∀ d i, P ⟨.hl .waitSig, d, i⟩) (h63 : ∀ d i, P ⟨.hl .reqResult, d, i⟩) (h64 : ∀ d i, P ⟨.hl .reqSeq, d, i⟩) (h65 : ∀ d i, P ⟨.hl .stepFails, d, i⟩) (h66 : ∀ d i, P ⟨.hl .fellBack, d, i⟩) (h67 : ∀ d i, P ⟨.hl .switched, d, i⟩) (h68 : ∀ d i, P ⟨.hl .preNext, d, i⟩) (h69 : ∀ d i, P ⟨.hl .farCount, d, i⟩) (h70 : ∀ d i, P ⟨.hl .countdown, d, i⟩) (h71 : ∀ d i, P ⟨.hl .farPreCap, d, i⟩) (h72 : ∀ d i, P ⟨.hl .capsRun, d, i⟩) (h73 : ∀ d i, P ⟨.hl .readyLeft, d, i⟩) (h74 : ∀ d i, P ⟨.hl .readyRun, d, i⟩) (h75 : ∀ d i, P ⟨.hl .rxReady, d, i⟩) (h76 : ∀ d i, P ⟨.hl .badRun, d, i⟩) (h77 : ∀ d i, P ⟨.hl .goodRun, d, i⟩) (h78 : ∀ d i, P ⟨.hl .fLock, d, i⟩) (h79 : ∀ d i, P ⟨.sticky .hlpLinkDown, d, i⟩) (h80 : ∀ d i, P ⟨.live .hlpLinkDown, d, i⟩) (h81 : ∀ d i, P ⟨.hl .pGear, d, i⟩) (h82 : ∀ d i, P ⟨.hl .pState, d, i⟩) (h83 : ∀ d i, P ⟨.hl .corrTx, d, i⟩) (h84 : ∀ d i, P ⟨.hl .corrRx, d, i⟩) (h85 : ∀ i, P ⟨.boot .state, 0, i⟩) (h86 : ∀ i, P ⟨.sticky .bootRestarted, 0, i⟩) (h87 : ∀ i, P ⟨.live .bootRestarted, 0, i⟩) (h88 : ∀ i, P ⟨.ao .triesB, 0, i⟩) (h89 : ∀ i, P ⟨.ao .triesA, 0, i⟩) (h90 : ∀ i, P ⟨.tkt .ctrLast, 0, i⟩) (qreports : Q .reports) (qrun : Q .run) :
    ∃ t, execMemberDieTimeout d s = .next t ∧ Reach P Q s0 t := by
  unfold execMemberDieTimeout
  repeat' with_reducible first | assumption | apply finishIf_reach | apply State.startFail_reach | (intros; show P _ = true; first | exact hsum _ rfl | (clear hsum; apply_assumption)) | split | dsimp only | intro _

theorem State.recordDone_reach (hs : Reach P Q s0 s) (h1 : ∀ i, P ⟨.boot .recIndex, 0, i⟩) :
    Reach P Q s0 (State.recordDone s) := by
  unfold State.recordDone
  repeat' with_reducible first | assumption | apply State.set_reach | (intros; show P _ = true; apply_assumption) | split | dsimp only | intro _

theorem State.journalErase_reach (hs : Reach P Q s0 s) (h1 : ∀ i, P ⟨.tkt .jEraseWait, 0, i⟩) (h2 : ∀ i, P ⟨.tkt .jErasing, 0, i⟩) (h3 : ∀ i, P ⟨.tkt .jBlank, 0, i⟩) :
    Reach P Q s0 (State.journalErase s) := by
  unfold State.journalErase
  repeat' with_reducible first | assumption | apply State.set_reach | (intros; show P _ = true; apply_assumption) | split | dsimp only | intro _

theorem State.recordFail_reach {code : Nat} {die : Nat} {addr : Nat} (hs : Reach P Q s0 s) (h1 : ∀ i, P ⟨.boot .errAddr, 0, i⟩) (h2 : ∀ i, P ⟨.boot .errDie, 0, i⟩) (h3 : ∀ i, P ⟨.boot .detail, 0, i⟩) (h4 : ∀ i, P ⟨.boot .errCode, 0, i⟩) (h5 : ∀ i, P ⟨.boot .phaseRun, 0, i⟩) (h6 : ∀ i, P ⟨.boot .phaseMs, 0, i⟩) (h7 : ∀ i, P ⟨.boot .procCalled, 0, i⟩) (h8 : ∀ d i, P ⟨.lt .muteCause, d, i⟩) (h9 : ∀ d i, P ⟨.lt .ramp, d, i⟩) (h10 : ∀ d i, P ⟨.lt .txState, d, i⟩) (h11 : ∀ d i, P ⟨.lt .otherCause, d, i⟩) (h12 : ∀ d i, P ⟨.bias .ptState, d, i⟩) (h13 : ∀ d i, P ⟨.bias .ptAcq, d, i⟩) (h14 : ∀ d i, P ⟨.bias .ptV, d, i⟩) (h15 : ∀ d i, P ⟨.bias .ptBase, d, i⟩) (h16 : ∀ d i, P ⟨.lt .nMuteEnter, d, i⟩) (h17 : ∀ d i, P ⟨.lt .begun4, d, i⟩) (h18 : ∀ d i, P ⟨.sticky .ltTxDown, d, i⟩) (h19 : ∀ d i, P ⟨.live .ltTxDown, d, i⟩) (h20 : ∀ d i, P ⟨.lt .sysCause, d, i⟩) (h21 : ∀ d i, P ⟨.bias .ptUnlRun, d, i⟩) (h22 : ∀ d i, P ⟨.bias .ptLockRun, d, i⟩) (h23 : ∀ d i, P ⟨.bias .ptTry, d, i⟩) (h24 : ∀ d i, P ⟨.bias .ptFirst, d, i⟩) (h25 : ∀ d i, P ⟨.bias .nUnlock, d, i⟩) (h26 : ∀ i, P ⟨.sys .freeCount, 0, i⟩) (h27 : ∀ d i, P ⟨.bias .outMv, d, i⟩) (h28 : ∀ d i, P ⟨.bias .ptLocked, d, i⟩) (h29 : ∀ d i, P ⟨.bias .biasLock, d, i⟩) (h30 : ∀ d i, P ⟨.sticky .biasNearRail, d, i⟩) (h31 : ∀ d i, P ⟨.live .biasNearRail, d, i⟩) (h32 : ∀ d i, P ⟨.sticky .biasRail, d, i⟩) (h33 : ∀ d i, P ⟨.live .biasRail, d, i⟩) (h34 : ∀ d i, P ⟨.sticky .biasOutFault, d, i⟩) (h35 : ∀ d i, P ⟨.live .biasOutFault, d, i⟩) (h36 : ∀ d i, P ⟨.sticky .biasUnlock, d, i⟩) (h37 : ∀ d i, P ⟨.live .biasUnlock, d, i⟩) (h38 : ∀ d i, P ⟨.bias .light, d, i⟩) (h39 : ∀ d i, P ⟨.sticky .lrLoLost, d, i⟩) (h40 : ∀ d i, P ⟨.live .lrLoLost, d, i⟩) (h41 : ∀ i, P ⟨.boot .procCode, 0, i⟩) (h42 : ∀ i, P ⟨.boot .procDone, 0, i⟩) (h43 : ∀ d i, P ⟨.live .lasFault, d, i⟩) (h44 : ∀ d i, P ⟨.las .lowCount, d, i⟩) (h45 : ∀ d i, P ⟨.las .recovering, d, i⟩) (h46 : ∀ d i, P ⟨.las .reason, d, i⟩) (h47 : ∀ d i, P ⟨.las .state, d, i⟩) (h48 : ∀ d i, P ⟨.hl .keep, d, i⟩) (h49 : ∀ d i, P ⟨.hl .state, d, i⟩) (h50 : ∀ d i, P ⟨.hl .idleRun, d, i⟩) (h51 : ∀ d i, P ⟨.hl .relock, d, i⟩) (h52 : ∀ d i, P ⟨.hl .waitSig, d, i⟩) (h53 : ∀ d i, P ⟨.hl .reqResult, d, i⟩) (h54 : ∀ d i, P ⟨.hl .reqSeq, d, i⟩) (h55 : ∀ d i, P ⟨.hl .stepFails, d, i⟩) (h56 : ∀ d i, P ⟨.hl .fellBack, d, i⟩) (h57 : ∀ d i, P ⟨.hl .switched, d, i⟩) (h58 : ∀ d i, P ⟨.hl .preNext, d, i⟩) (h59 : ∀ d i, P ⟨.hl .farCount, d, i⟩) (h60 : ∀ d i, P ⟨.hl .countdown, d, i⟩) (h61 : ∀ d i, P ⟨.hl .farPreCap, d, i⟩) (h62 : ∀ d i, P ⟨.hl .capsRun, d, i⟩) (h63 : ∀ d i, P ⟨.hl .readyLeft, d, i⟩) (h64 : ∀ d i, P ⟨.hl .readyRun, d, i⟩) (h65 : ∀ d i, P ⟨.hl .rxReady, d, i⟩) (h66 : ∀ d i, P ⟨.hl .badRun, d, i⟩) (h67 : ∀ d i, P ⟨.hl .goodRun, d, i⟩) (h68 : ∀ d i, P ⟨.hl .fLock, d, i⟩) (h69 : ∀ d i, P ⟨.sticky .hlpLinkDown, d, i⟩) (h70 : ∀ d i, P ⟨.live .hlpLinkDown, d, i⟩) (h71 : ∀ d i, P ⟨.hl .pGear, d, i⟩) (h72 : ∀ d i, P ⟨.hl .pState, d, i⟩) (h73 : ∀ d i, P ⟨.hl .corrTx, d, i⟩) (h74 : ∀ d i, P ⟨.hl .corrRx, d, i⟩) (h75 : ∀ i, P ⟨.boot .state, 0, i⟩) (h76 : ∀ i, P ⟨.sticky .bootRestarted, 0, i⟩) (h77 : ∀ i, P ⟨.live .bootRestarted, 0, i⟩) (h78 : ∀ i, P ⟨.ao .triesB, 0, i⟩) (h79 : ∀ i, P ⟨.ao .triesA, 0, i⟩) (h80 : ∀ i, P ⟨.tkt .ctrLast, 0, i⟩) (qrun : Q .run) (qreports : Q .reports) :
    Reach P Q s0 (State.recordFail s code die addr) := by
  unfold State.recordFail
  repeat' with_reducible first | assumption | apply State.startFail_reach | (intros; show P _ = true; apply_assumption) | split | dsimp only | intro _

theorem State.recordWait_reach {w : Wait} (hs : Reach P Q s0 s) (qrun : Q .run) :
    Reach P Q s0 (State.recordWait s w) := by
  unfold State.recordWait
  repeat' with_reducible first | assumption | apply foldl_reach | (intros; show P _ = true; apply_assumption) | split | dsimp only | intro _ | apply State.run_reach

theorem execRecordPollUntil_reach {addr : Nat} {mask : Nat} {value : Nat} {timeoutUs : Nat} (hs : Reach P Q s0 s) (hsum : ∀ k, k.cell.summary → P k) (h11 : ∀ i, P ⟨.boot .errAddr, 0, i⟩) (h12 : ∀ i, P ⟨.boot .errDie, 0, i⟩) (h13 : ∀ i, P ⟨.boot .detail, 0, i⟩) (h14 : ∀ i, P ⟨.boot .errCode, 0, i⟩) (h15 : ∀ i, P ⟨.boot .phaseRun, 0, i⟩) (h16 : ∀ i, P ⟨.boot .phaseMs, 0, i⟩) (h17 : ∀ i, P ⟨.boot .procCalled, 0, i⟩) (h18 : ∀ d i, P ⟨.lt .muteCause, d, i⟩) (h19 : ∀ d i, P ⟨.lt .ramp, d, i⟩) (h20 : ∀ d i, P ⟨.lt .txState, d, i⟩) (h21 : ∀ d i, P ⟨.lt .otherCause, d, i⟩) (h22 : ∀ d i, P ⟨.bias .ptState, d, i⟩) (h23 : ∀ d i, P ⟨.bias .ptAcq, d, i⟩) (h24 : ∀ d i, P ⟨.bias .ptV, d, i⟩) (h25 : ∀ d i, P ⟨.bias .ptBase, d, i⟩) (h26 : ∀ d i, P ⟨.lt .nMuteEnter, d, i⟩) (h27 : ∀ d i, P ⟨.lt .begun4, d, i⟩) (h28 : ∀ d i, P ⟨.sticky .ltTxDown, d, i⟩) (h29 : ∀ d i, P ⟨.live .ltTxDown, d, i⟩) (h30 : ∀ d i, P ⟨.lt .sysCause, d, i⟩) (h31 : ∀ d i, P ⟨.bias .ptUnlRun, d, i⟩) (h32 : ∀ d i, P ⟨.bias .ptLockRun, d, i⟩) (h33 : ∀ d i, P ⟨.bias .ptTry, d, i⟩) (h34 : ∀ d i, P ⟨.bias .ptFirst, d, i⟩) (h35 : ∀ d i, P ⟨.bias .nUnlock, d, i⟩) (h36 : ∀ i, P ⟨.sys .freeCount, 0, i⟩) (h37 : ∀ d i, P ⟨.bias .outMv, d, i⟩) (h38 : ∀ d i, P ⟨.bias .ptLocked, d, i⟩) (h39 : ∀ d i, P ⟨.bias .biasLock, d, i⟩) (h40 : ∀ d i, P ⟨.sticky .biasNearRail, d, i⟩) (h41 : ∀ d i, P ⟨.live .biasNearRail, d, i⟩) (h42 : ∀ d i, P ⟨.sticky .biasRail, d, i⟩) (h43 : ∀ d i, P ⟨.live .biasRail, d, i⟩) (h44 : ∀ d i, P ⟨.sticky .biasOutFault, d, i⟩) (h45 : ∀ d i, P ⟨.live .biasOutFault, d, i⟩) (h46 : ∀ d i, P ⟨.sticky .biasUnlock, d, i⟩) (h47 : ∀ d i, P ⟨.live .biasUnlock, d, i⟩) (h48 : ∀ d i, P ⟨.bias .light, d, i⟩) (h49 : ∀ d i, P ⟨.sticky .lrLoLost, d, i⟩) (h50 : ∀ d i, P ⟨.live .lrLoLost, d, i⟩) (h51 : ∀ i, P ⟨.boot .procCode, 0, i⟩) (h52 : ∀ i, P ⟨.boot .procDone, 0, i⟩) (h53 : ∀ d i, P ⟨.live .lasFault, d, i⟩) (h54 : ∀ d i, P ⟨.las .lowCount, d, i⟩) (h55 : ∀ d i, P ⟨.las .recovering, d, i⟩) (h56 : ∀ d i, P ⟨.las .reason, d, i⟩) (h57 : ∀ d i, P ⟨.las .state, d, i⟩) (h58 : ∀ d i, P ⟨.hl .keep, d, i⟩) (h59 : ∀ d i, P ⟨.hl .state, d, i⟩) (h60 : ∀ d i, P ⟨.hl .idleRun, d, i⟩) (h61 : ∀ d i, P ⟨.hl .relock, d, i⟩) (h62 : ∀ d i, P ⟨.hl .waitSig, d, i⟩) (h63 : ∀ d i, P ⟨.hl .reqResult, d, i⟩) (h64 : ∀ d i, P ⟨.hl .reqSeq, d, i⟩) (h65 : ∀ d i, P ⟨.hl .stepFails, d, i⟩) (h66 : ∀ d i, P ⟨.hl .fellBack, d, i⟩) (h67 : ∀ d i, P ⟨.hl .switched, d, i⟩) (h68 : ∀ d i, P ⟨.hl .preNext, d, i⟩) (h69 : ∀ d i, P ⟨.hl .farCount, d, i⟩) (h70 : ∀ d i, P ⟨.hl .countdown, d, i⟩) (h71 : ∀ d i, P ⟨.hl .farPreCap, d, i⟩) (h72 : ∀ d i, P ⟨.hl .capsRun, d, i⟩) (h73 : ∀ d i, P ⟨.hl .readyLeft, d, i⟩) (h74 : ∀ d i, P ⟨.hl .readyRun, d, i⟩) (h75 : ∀ d i, P ⟨.hl .rxReady, d, i⟩) (h76 : ∀ d i, P ⟨.hl .badRun, d, i⟩) (h77 : ∀ d i, P ⟨.hl .goodRun, d, i⟩) (h78 : ∀ d i, P ⟨.hl .fLock, d, i⟩) (h79 : ∀ d i, P ⟨.sticky .hlpLinkDown, d, i⟩) (h80 : ∀ d i, P ⟨.live .hlpLinkDown, d, i⟩) (h81 : ∀ d i, P ⟨.hl .pGear, d, i⟩) (h82 : ∀ d i, P ⟨.hl .pState, d, i⟩) (h83 : ∀ d i, P ⟨.hl .corrTx, d, i⟩) (h84 : ∀ d i, P ⟨.hl .corrRx, d, i⟩) (h85 : ∀ i, P ⟨.boot .state, 0, i⟩) (h86 : ∀ i, P ⟨.sticky .bootRestarted, 0, i⟩) (h87 : ∀ i, P ⟨.live .bootRestarted, 0, i⟩) (h88 : ∀ i, P ⟨.ao .triesB, 0, i⟩) (h89 : ∀ i, P ⟨.ao .triesA, 0, i⟩) (h90 : ∀ i, P ⟨.tkt .ctrLast, 0, i⟩) (h91 : ∀ i, P ⟨.sys .snapValid, 0, i⟩) (h92 : ∀ i, P ⟨.sys .snapHi, 0, i⟩) (h93 : ∀ i, P ⟨.sys .snapAddr, 0, i⟩) (h94 : ∀ i, P ⟨.tkt .rejHeld, 0, i⟩) (h95 : ∀ i, P ⟨.sys .tbLatchFrac, 0, i⟩) (h96 : ∀ i, P ⟨.sys .tbLatchSec, 0, i⟩) (h97 : ∀ i, P ⟨.sys .tbLatchValid, 0, i⟩) (h98 : ∀ d i, P ⟨.mon .fOutLatched, d, i⟩) (h99 : ∀ i, P ⟨.crc .slotRead, 0, i⟩) (h100 : ∀ d i, P ⟨.sys .winWord, d, i⟩) (h101 : ∀ d i, P ⟨.sys .winEntry, d, i⟩) (qreports : Q .reports) (qrun : Q .run) :
    ∃ t, execRecordPollUntil addr mask value timeoutUs s = .next t ∧ Reach P Q s0 t := by
  unfold execRecordPollUntil
  repeat' with_reducible first | assumption | apply finishIf_reach | apply State.recordFail_reach | apply State.recordWait_reach | apply State.recRead_reach | (intros; show P _ = true; first | exact hsum _ rfl | (clear hsum; apply_assumption)) | split | dsimp only | intro _

theorem State.bankBack_reach {x : Nat × Nat} (hs : Reach P Q s0 s) (h1 : ∀ k, P k) (qreports : Q .reports) (qcands : Q .cands) (qmbox : Q .mbox) (qheld : Q .held) (qtickets : Q .tickets) (qrun : Q .run) (qpolicy : Q .policy) (qimgPolicy : Q .imgPolicy) (qtrust : Q .trust) (qtelOut : Q .telOut) (qclsTab : Q .clsTab) (qstaged : Q .staged) (qrings : Q .rings) (qtracker : Q .tracker) (qretireQ : Q .retireQ) (qmerge : Q .merge) (qdescs : Q .descs) (qkch : Q .kch) (qfups : Q .fups) :
    Reach P Q s0 (State.bankBack s x) := by
  unfold State.bankBack
  repeat' with_reducible first | assumption | apply State.each_reach | apply State.writeFlds_reach | (intros; show P _ = true; apply_assumption) | split | dsimp only | intro _

theorem State.phaseChecks_reach (hs : Reach P Q s0 s) (h1 : ∀ k, P k) (qrun : Q .run) (qreports : Q .reports) (qcands : Q .cands) (qmbox : Q .mbox) (qheld : Q .held) (qtickets : Q .tickets) (qpolicy : Q .policy) (qimgPolicy : Q .imgPolicy) (qtrust : Q .trust) (qtelOut : Q .telOut) (qclsTab : Q .clsTab) (qstaged : Q .staged) (qrings : Q .rings) (qtracker : Q .tracker) (qretireQ : Q .retireQ) (qmerge : Q .merge) (qdescs : Q .descs) (qkch : Q .kch) (qfups : Q .fups) :
    ∀ t, State.phaseChecks s = some t → Reach P Q s0 t := by
  intro t ht
  unfold State.phaseChecks at ht
  split at ht
  · cases ht
    apply State.startFail_reach hs <;> first | assumption | (intros; exact h1 _)
  · split at ht
    · cases ht
    · cases ht
      apply State.startFail_reach (State.each_reach hs _) <;> first | assumption | (intros; exact h1 _) | skip
      intro x a hx
      apply State.bankBack_reach hx <;> first | assumption | (intros; exact h1 _)

theorem State.phaseBegin_reach {p : Nat} {budget : Nat} (hs : Reach P Q s0 s) (h1 : ∀ i, P ⟨.boot .wrotePortCfg, 0, i⟩) (h2 : ∀ i, P ⟨.boot .recIndex, 0, i⟩) (h3 : ∀ i, P ⟨.boot .phaseBudget, 0, i⟩) (h4 : ∀ i, P ⟨.boot .phaseRun, 0, i⟩) (h5 : ∀ i, P ⟨.boot .phaseAt, 0, i⟩) (h6 : ∀ i, P ⟨.boot .phase, 0, i⟩) (h7 : ∀ d i, P ⟨.boot .wroteBank, d, i⟩) (h8 : ∀ i, P ⟨.boot .memberReady, 0, i⟩) (h9 : ∀ i, P ⟨.sys .dieReleased, 0, i⟩) (h10 : ∀ i, P ⟨.sbg .wrapCtr, 0, i⟩) (h11 : ∀ i, P ⟨.sbg .kwOk, 0, i⟩) (h12 : ∀ i, P ⟨.sbg .drbgCount, 0, i⟩) (h13 : ∀ i, P ⟨.sbg .nDrbgReseed, 0, i⟩) :
    Reach P Q s0 (State.phaseBegin s p budget) := by
  unfold State.phaseBegin
  repeat' with_reducible first | assumption | apply State.set_reach | apply State.each_reach | apply State.wrapNonce_reach | (intros; show P _ = true; apply_assumption) | split | dsimp only | intro _

theorem execPhaseStart_reach {phase : Nat} {hasBlock : Bool} {budget : Nat} {memberRecords : Nat} (hs : Reach P Q s0 s) (h1 : ∀ k, P k) (qreports : Q .reports) (qrun : Q .run) (qcands : Q .cands) (qmbox : Q .mbox) (qheld : Q .held) (qtickets : Q .tickets) (qpolicy : Q .policy) (qimgPolicy : Q .imgPolicy) (qtrust : Q .trust) (qtelOut : Q .telOut) (qclsTab : Q .clsTab) (qstaged : Q .staged) (qrings : Q .rings) (qtracker : Q .tracker) (qretireQ : Q .retireQ) (qmerge : Q .merge) (qdescs : Q .descs) (qkch : Q .kch) (qfups : Q .fups) :
    ∃ t, execPhaseStart phase hasBlock budget memberRecords s = .next t ∧ Reach P Q s0 t := by
  unfold execPhaseStart
  refine finishIf_reach hs (fun k _ => h1 k) qreports fun x hx => ?_
  have hw : Reach P Q s0 (x.when (x.flag (.boot .phaseRun) 0 0) State.phaseStop) := by
    refine State.when_reach hx fun y hy => ?_
    apply State.phaseStop_reach hy <;> first | assumption | (intros; exact h1 _)
  dsimp only
  split
  · rename_i t ht
    split at ht
    · refine State.phaseChecks_reach hw h1 ?_ ?_ ?_ ?_ ?_ ?_ ?_ ?_ ?_ ?_ ?_ ?_ ?_ ?_ ?_ ?_ ?_ ?_ ?_ t ht <;> assumption
    · cases ht
  · repeat' with_reducible first | assumption | apply State.startFail_reach | apply State.phaseBegin_reach | (intros; exact h1 _) | split

theorem execMemberDieReady_reach {d : Nat} {selftestOk : Bool} (hs : Reach P Q s0 s) (hsum : ∀ k, k.cell.summary → P k) (h11 : ∀ i, P ⟨.boot .memberReady, 0, i⟩) (qreports : Q .reports) :
    ∃ t, execMemberDieReady d selftestOk s = .next t ∧ Reach P Q s0 t := by
  unfold execMemberDieReady
  repeat' with_reducible first | assumption | apply finishIf_reach | apply State.set_reach | (intros; show P _ = true; first | exact hsum _ rfl | (clear hsum; apply_assumption)) | split | dsimp only | intro _

theorem State.openTraffic_reach (hs : Reach P Q s0 s) (h1 : ∀ k, P k) (qrun : Q .run) (qreports : Q .reports) (qcands : Q .cands) (qmbox : Q .mbox) (qheld : Q .held) (qtickets : Q .tickets) (qpolicy : Q .policy) (qimgPolicy : Q .imgPolicy) (qtrust : Q .trust) (qtelOut : Q .telOut) (qclsTab : Q .clsTab) (qstaged : Q .staged) (qrings : Q .rings) (qtracker : Q .tracker) (qretireQ : Q .retireQ) (qmerge : Q .merge) (qdescs : Q .descs) (qkch : Q .kch) (qfups : Q .fups) :
    Reach P Q s0 (State.openTraffic s) := by
  unfold State.openTraffic
  dsimp only
  have hstop : Reach P Q s0 s.phaseStop := by
    apply State.phaseStop_reach hs <;> first | assumption | (intros; exact h1 _)
  split
  · rename_i t ht
    refine State.phaseChecks_reach hstop h1 ?_ ?_ ?_ ?_ ?_ ?_ ?_ ?_ ?_ ?_ ?_ ?_ ?_ ?_ ?_ ?_ ?_ ?_ ?_ t ht <;> assumption
  · repeat' with_reducible first | assumption | apply State.startFail_reach | apply State.set_reach | exact h1 _ | (intros; exact h1 _) | split
    exact State.run_reach (l := none) (State.policy_reach (l := s.phaseStop.imgPolicy)
      (State.set_reach (c := .boot .policyIn) (d := 0) (i := 0) (v := 1)
        (State.set_reach (c := .boot .frozen) (d := 0) (i := 0) (v := 1) hstop (h1 _)) (h1 _)) qpolicy) qrun

theorem execOpenTraffic_reach (hs : Reach P Q s0 s) (h1 : ∀ k, P k) (qreports : Q .reports) (qrun : Q .run) (qcands : Q .cands) (qmbox : Q .mbox) (qheld : Q .held) (qtickets : Q .tickets) (qpolicy : Q .policy) (qimgPolicy : Q .imgPolicy) (qtrust : Q .trust) (qtelOut : Q .telOut) (qclsTab : Q .clsTab) (qstaged : Q .staged) (qrings : Q .rings) (qtracker : Q .tracker) (qretireQ : Q .retireQ) (qmerge : Q .merge) (qdescs : Q .descs) (qkch : Q .kch) (qfups : Q .fups) :
    ∃ t, execOpenTraffic s = .next t ∧ Reach P Q s0 t := by
  unfold execOpenTraffic
  repeat' with_reducible first | assumption | apply finishIf_reach | apply State.openTraffic_reach | apply State.set_reach | (intros; show P _ = true; first | exact h1 _ | apply_assumption) | split | dsimp only | intro _

theorem execPhaseTimeout_reach (hs : Reach P Q s0 s) (hsum : ∀ k, k.cell.summary → P k) (h11 : ∀ i, P ⟨.boot .errAddr, 0, i⟩) (h12 : ∀ i, P ⟨.boot .errDie, 0, i⟩) (h13 : ∀ i, P ⟨.boot .detail, 0, i⟩) (h14 : ∀ i, P ⟨.boot .errCode, 0, i⟩) (h15 : ∀ i, P ⟨.boot .phaseRun, 0, i⟩) (h16 : ∀ i, P ⟨.boot .phaseMs, 0, i⟩) (h17 : ∀ i, P ⟨.boot .procCalled, 0, i⟩) (h18 : ∀ d i, P ⟨.lt .muteCause, d, i⟩) (h19 : ∀ d i, P ⟨.lt .ramp, d, i⟩) (h20 : ∀ d i, P ⟨.lt .txState, d, i⟩) (h21 : ∀ d i, P ⟨.lt .otherCause, d, i⟩) (h22 : ∀ d i, P ⟨.bias .ptState, d, i⟩) (h23 : ∀ d i, P ⟨.bias .ptAcq, d, i⟩) (h24 : ∀ d i, P ⟨.bias .ptV, d, i⟩) (h25 : ∀ d i, P ⟨.bias .ptBase, d, i⟩) (h26 : ∀ d i, P ⟨.lt .nMuteEnter, d, i⟩) (h27 : ∀ d i, P ⟨.lt .begun4, d, i⟩) (h28 : ∀ d i, P ⟨.sticky .ltTxDown, d, i⟩) (h29 : ∀ d i, P ⟨.live .ltTxDown, d, i⟩) (h30 : ∀ d i, P ⟨.lt .sysCause, d, i⟩) (h31 : ∀ d i, P ⟨.bias .ptUnlRun, d, i⟩) (h32 : ∀ d i, P ⟨.bias .ptLockRun, d, i⟩) (h33 : ∀ d i, P ⟨.bias .ptTry, d, i⟩) (h34 : ∀ d i, P ⟨.bias .ptFirst, d, i⟩) (h35 : ∀ d i, P ⟨.bias .nUnlock, d, i⟩) (h36 : ∀ i, P ⟨.sys .freeCount, 0, i⟩) (h37 : ∀ d i, P ⟨.bias .outMv, d, i⟩) (h38 : ∀ d i, P ⟨.bias .ptLocked, d, i⟩) (h39 : ∀ d i, P ⟨.bias .biasLock, d, i⟩) (h40 : ∀ d i, P ⟨.sticky .biasNearRail, d, i⟩) (h41 : ∀ d i, P ⟨.live .biasNearRail, d, i⟩) (h42 : ∀ d i, P ⟨.sticky .biasRail, d, i⟩) (h43 : ∀ d i, P ⟨.live .biasRail, d, i⟩) (h44 : ∀ d i, P ⟨.sticky .biasOutFault, d, i⟩) (h45 : ∀ d i, P ⟨.live .biasOutFault, d, i⟩) (h46 : ∀ d i, P ⟨.sticky .biasUnlock, d, i⟩) (h47 : ∀ d i, P ⟨.live .biasUnlock, d, i⟩) (h48 : ∀ d i, P ⟨.bias .light, d, i⟩) (h49 : ∀ d i, P ⟨.sticky .lrLoLost, d, i⟩) (h50 : ∀ d i, P ⟨.live .lrLoLost, d, i⟩) (h51 : ∀ i, P ⟨.boot .procCode, 0, i⟩) (h52 : ∀ i, P ⟨.boot .procDone, 0, i⟩) (h53 : ∀ d i, P ⟨.live .lasFault, d, i⟩) (h54 : ∀ d i, P ⟨.las .lowCount, d, i⟩) (h55 : ∀ d i, P ⟨.las .recovering, d, i⟩) (h56 : ∀ d i, P ⟨.las .reason, d, i⟩) (h57 : ∀ d i, P ⟨.las .state, d, i⟩) (h58 : ∀ d i, P ⟨.hl .keep, d, i⟩) (h59 : ∀ d i, P ⟨.hl .state, d, i⟩) (h60 : ∀ d i, P ⟨.hl .idleRun, d, i⟩) (h61 : ∀ d i, P ⟨.hl .relock, d, i⟩) (h62 : ∀ d i, P ⟨.hl .waitSig, d, i⟩) (h63 : ∀ d i, P ⟨.hl .reqResult, d, i⟩) (h64 : ∀ d i, P ⟨.hl .reqSeq, d, i⟩) (h65 : ∀ d i, P ⟨.hl .stepFails, d, i⟩) (h66 : ∀ d i, P ⟨.hl .fellBack, d, i⟩) (h67 : ∀ d i, P ⟨.hl .switched, d, i⟩) (h68 : ∀ d i, P ⟨.hl .preNext, d, i⟩) (h69 : ∀ d i, P ⟨.hl .farCount, d, i⟩) (h70 : ∀ d i, P ⟨.hl .countdown, d, i⟩) (h71 : ∀ d i, P ⟨.hl .farPreCap, d, i⟩) (h72 : ∀ d i, P ⟨.hl .capsRun, d, i⟩) (h73 : ∀ d i, P ⟨.hl .readyLeft, d, i⟩) (h74 : ∀ d i, P ⟨.hl .readyRun, d, i⟩) (h75 : ∀ d i, P ⟨.hl .rxReady, d, i⟩) (h76 : ∀ d i, P ⟨.hl .badRun, d, i⟩) (h77 : ∀ d i, P ⟨.hl .goodRun, d, i⟩) (h78 : ∀ d i, P ⟨.hl .fLock, d, i⟩) (h79 : ∀ d i, P ⟨.sticky .hlpLinkDown, d, i⟩) (h80 : ∀ d i, P ⟨.live .hlpLinkDown, d, i⟩) (h81 : ∀ d i, P ⟨.hl .pGear, d, i⟩) (h82 : ∀ d i, P ⟨.hl .pState, d, i⟩) (h83 : ∀ d i, P ⟨.hl .corrTx, d, i⟩) (h84 : ∀ d i, P ⟨.hl .corrRx, d, i⟩) (h85 : ∀ i, P ⟨.boot .state, 0, i⟩) (h86 : ∀ i, P ⟨.sticky .bootRestarted, 0, i⟩) (h87 : ∀ i, P ⟨.live .bootRestarted, 0, i⟩) (h88 : ∀ i, P ⟨.ao .triesB, 0, i⟩) (h89 : ∀ i, P ⟨.ao .triesA, 0, i⟩) (h90 : ∀ i, P ⟨.tkt .ctrLast, 0, i⟩) (qreports : Q .reports) (qrun : Q .run) :
    ∃ t, execPhaseTimeout s = .next t ∧ Reach P Q s0 t := by
  unfold execPhaseTimeout
  repeat' with_reducible first | assumption | apply finishIf_reach | apply State.recordFail_reach | (intros; show P _ = true; first | exact hsum _ rfl | (clear hsum; apply_assumption)) | split | dsimp only | intro _

theorem State.imageAccept_reach {i : Sys2Proof.SlotImage} {slot : Nat} (hs : Reach P Q s0 s) (h1 : ∀ i, P ⟨.sbg .lifecycle, 0, i⟩) (h2 : ∀ i, P ⟨.sys .fuseOwned, 0, i⟩) (h3 : ∀ i, P ⟨.boot .nodeHdr, 0, i⟩) (h4 : ∀ i, P ⟨.boot .imageSvn, 0, i⟩) (h5 : ∀ i, P ⟨.boot .imageVersion, 0, i⟩) (h6 : ∀ i, P ⟨.boot .slot, 0, i⟩) (h7 : ∀ i, P ⟨.tkt .keys, 0, i⟩) (h8 : ∀ i, P ⟨.tkt .keyMask, 0, i⟩) (h9 : ∀ i, P ⟨.sticky .bootCrcMismatch, 0, i⟩) (h10 : ∀ i, P ⟨.live .bootCrcMismatch, 0, i⟩) (h11 : ∀ i, P ⟨.tkt .ctrLast, 0, i⟩) (h12 : ∀ i, P ⟨.sticky .bootJournalInvalid, 0, i⟩) (h13 : ∀ i, P ⟨.live .bootJournalInvalid, 0, i⟩) (h14 : ∀ i, P ⟨.tkt .jEraseWait, 0, i⟩) (h15 : ∀ i, P ⟨.tkt .jErasing, 0, i⟩) (h16 : ∀ i, P ⟨.tkt .jBlank, 0, i⟩) (h17 : ∀ i, P ⟨.boot .state, 0, i⟩) (h18 : ∀ i, P ⟨.boot .step, 0, i⟩) (qimgPolicy : Q .imgPolicy) (qtrust : Q .trust) (qreports : Q .reports) :
    Reach P Q s0 (State.imageAccept s i slot) := by
  have hx : Reach P Q s0 (((((((((s.set (.boot .slot) 0 0 slot).set (.boot .imageVersion) 0 0 i.version).set
      (.boot .imageSvn) 0 0 i.svn).set (.boot .nodeHdr) 0 0 i.node).set (.sys .fuseOwned) 0 0 1).set
      (.sbg .lifecycle) 0 0 1).set (.tkt .keys) 0 0 (min 8 i.keyMasks.length))).each (List.range 8) fun s k =>
        s.set (.tkt .keyMask) 0 (k + 1) (i.keyMasks.getD k 0)) := by
    repeat' with_reducible first | assumption | apply State.set_reach | apply State.each_reach | apply State.cond_reach | apply State.when_reach | apply State.journalErase_reach | (intros; show P _ = true; apply_assumption) | split | dsimp only | intro _ | apply State.imgPolicy_reach | apply State.trust_reach
  have hb := State.trust_reach (l := i.trust) (State.imgPolicy_reach (l := i.policy.take 256) hx qimgPolicy) qtrust
  unfold State.imageAccept
  repeat' with_reducible first | assumption | apply State.set_reach | apply State.each_reach | apply State.cond_reach | apply State.when_reach | apply State.journalErase_reach | (intros; show P _ = true; apply_assumption) | split | dsimp only | intro _ | apply State.imgPolicy_reach | apply State.trust_reach

theorem State.tryImages_reach {first : Bool} {x2 : List (Sys2Proof.SlotImage × Nat)} (hs : Reach P Q s0 s) (h1 : ∀ i, P ⟨.sticky .bootFallback, 0, i⟩) (h2 : ∀ i, P ⟨.live .bootFallback, 0, i⟩) (h3 : ∀ i, P ⟨.sbg .lifecycle, 0, i⟩) (h4 : ∀ i, P ⟨.sys .fuseOwned, 0, i⟩) (h5 : ∀ i, P ⟨.boot .nodeHdr, 0, i⟩) (h6 : ∀ i, P ⟨.boot .imageSvn, 0, i⟩) (h7 : ∀ i, P ⟨.boot .imageVersion, 0, i⟩) (h8 : ∀ i, P ⟨.boot .slot, 0, i⟩) (h9 : ∀ i, P ⟨.tkt .keys, 0, i⟩) (h10 : ∀ i, P ⟨.tkt .keyMask, 0, i⟩) (h11 : ∀ i, P ⟨.sticky .bootCrcMismatch, 0, i⟩) (h12 : ∀ i, P ⟨.live .bootCrcMismatch, 0, i⟩) (h13 : ∀ i, P ⟨.tkt .ctrLast, 0, i⟩) (h14 : ∀ i, P ⟨.sticky .bootJournalInvalid, 0, i⟩) (h15 : ∀ i, P ⟨.live .bootJournalInvalid, 0, i⟩) (h16 : ∀ i, P ⟨.tkt .jEraseWait, 0, i⟩) (h17 : ∀ i, P ⟨.tkt .jErasing, 0, i⟩) (h18 : ∀ i, P ⟨.tkt .jBlank, 0, i⟩) (h19 : ∀ i, P ⟨.boot .state, 0, i⟩) (h20 : ∀ i, P ⟨.boot .step, 0, i⟩) (h21 : ∀ i, P ⟨.boot .errAddr, 0, i⟩) (h22 : ∀ i, P ⟨.boot .errDie, 0, i⟩) (h23 : ∀ i, P ⟨.boot .detail, 0, i⟩) (h24 : ∀ i, P ⟨.boot .errCode, 0, i⟩) (h25 : ∀ i, P ⟨.boot .phaseRun, 0, i⟩) (h26 : ∀ i, P ⟨.boot .phaseMs, 0, i⟩) (h27 : ∀ i, P ⟨.boot .procCalled, 0, i⟩) (h28 : ∀ d i, P ⟨.lt .muteCause, d, i⟩) (h29 : ∀ d i, P ⟨.lt .ramp, d, i⟩) (h30 : ∀ d i, P ⟨.lt .txState, d, i⟩) (h31 : ∀ d i, P ⟨.lt .otherCause, d, i⟩) (h32 : ∀ d i, P ⟨.bias .ptState, d, i⟩) (h33 : ∀ d i, P ⟨.bias .ptAcq, d, i⟩) (h34 : ∀ d i, P ⟨.bias .ptV, d, i⟩) (h35 : ∀ d i, P ⟨.bias .ptBase, d, i⟩) (h36 : ∀ d i, P ⟨.lt .nMuteEnter, d, i⟩) (h37 : ∀ d i, P ⟨.lt .begun4, d, i⟩) (h38 : ∀ d i, P ⟨.sticky .ltTxDown, d, i⟩) (h39 : ∀ d i, P ⟨.live .ltTxDown, d, i⟩) (h40 : ∀ d i, P ⟨.lt .sysCause, d, i⟩) (h41 : ∀ d i, P ⟨.bias .ptUnlRun, d, i⟩) (h42 : ∀ d i, P ⟨.bias .ptLockRun, d, i⟩) (h43 : ∀ d i, P ⟨.bias .ptTry, d, i⟩) (h44 : ∀ d i, P ⟨.bias .ptFirst, d, i⟩) (h45 : ∀ d i, P ⟨.bias .nUnlock, d, i⟩) (h46 : ∀ i, P ⟨.sys .freeCount, 0, i⟩) (h47 : ∀ d i, P ⟨.bias .outMv, d, i⟩) (h48 : ∀ d i, P ⟨.bias .ptLocked, d, i⟩) (h49 : ∀ d i, P ⟨.bias .biasLock, d, i⟩) (h50 : ∀ d i, P ⟨.sticky .biasNearRail, d, i⟩) (h51 : ∀ d i, P ⟨.live .biasNearRail, d, i⟩) (h52 : ∀ d i, P ⟨.sticky .biasRail, d, i⟩) (h53 : ∀ d i, P ⟨.live .biasRail, d, i⟩) (h54 : ∀ d i, P ⟨.sticky .biasOutFault, d, i⟩) (h55 : ∀ d i, P ⟨.live .biasOutFault, d, i⟩) (h56 : ∀ d i, P ⟨.sticky .biasUnlock, d, i⟩) (h57 : ∀ d i, P ⟨.live .biasUnlock, d, i⟩) (h58 : ∀ d i, P ⟨.bias .light, d, i⟩) (h59 : ∀ d i, P ⟨.sticky .lrLoLost, d, i⟩) (h60 : ∀ d i, P ⟨.live .lrLoLost, d, i⟩) (h61 : ∀ i, P ⟨.boot .procCode, 0, i⟩) (h62 : ∀ i, P ⟨.boot .procDone, 0, i⟩) (h63 : ∀ d i, P ⟨.live .lasFault, d, i⟩) (h64 : ∀ d i, P ⟨.las .lowCount, d, i⟩) (h65 : ∀ d i, P ⟨.las .recovering, d, i⟩) (h66 : ∀ d i, P ⟨.las .reason, d, i⟩) (h67 : ∀ d i, P ⟨.las .state, d, i⟩) (h68 : ∀ d i, P ⟨.hl .keep, d, i⟩) (h69 : ∀ d i, P ⟨.hl .state, d, i⟩) (h70 : ∀ d i, P ⟨.hl .idleRun, d, i⟩) (h71 : ∀ d i, P ⟨.hl .relock, d, i⟩) (h72 : ∀ d i, P ⟨.hl .waitSig, d, i⟩) (h73 : ∀ d i, P ⟨.hl .reqResult, d, i⟩) (h74 : ∀ d i, P ⟨.hl .reqSeq, d, i⟩) (h75 : ∀ d i, P ⟨.hl .stepFails, d, i⟩) (h76 : ∀ d i, P ⟨.hl .fellBack, d, i⟩) (h77 : ∀ d i, P ⟨.hl .switched, d, i⟩) (h78 : ∀ d i, P ⟨.hl .preNext, d, i⟩) (h79 : ∀ d i, P ⟨.hl .farCount, d, i⟩) (h80 : ∀ d i, P ⟨.hl .countdown, d, i⟩) (h81 : ∀ d i, P ⟨.hl .farPreCap, d, i⟩) (h82 : ∀ d i, P ⟨.hl .capsRun, d, i⟩) (h83 : ∀ d i, P ⟨.hl .readyLeft, d, i⟩) (h84 : ∀ d i, P ⟨.hl .readyRun, d, i⟩) (h85 : ∀ d i, P ⟨.hl .rxReady, d, i⟩) (h86 : ∀ d i, P ⟨.hl .badRun, d, i⟩) (h87 : ∀ d i, P ⟨.hl .goodRun, d, i⟩) (h88 : ∀ d i, P ⟨.hl .fLock, d, i⟩) (h89 : ∀ d i, P ⟨.sticky .hlpLinkDown, d, i⟩) (h90 : ∀ d i, P ⟨.live .hlpLinkDown, d, i⟩) (h91 : ∀ d i, P ⟨.hl .pGear, d, i⟩) (h92 : ∀ d i, P ⟨.hl .pState, d, i⟩) (h93 : ∀ d i, P ⟨.hl .corrTx, d, i⟩) (h94 : ∀ d i, P ⟨.hl .corrRx, d, i⟩) (h95 : ∀ i, P ⟨.sticky .bootRestarted, 0, i⟩) (h96 : ∀ i, P ⟨.live .bootRestarted, 0, i⟩) (h97 : ∀ i, P ⟨.ao .triesB, 0, i⟩) (h98 : ∀ i, P ⟨.ao .triesA, 0, i⟩) (qreports : Q .reports) (qimgPolicy : Q .imgPolicy) (qtrust : Q .trust) (qrun : Q .run) :
    Reach P Q s0 (State.tryImages s first x2) := by
  induction x2 generalizing s first with
  | nil => exact hs
  | cons a r ih =>
    obtain ⟨i, slot⟩ := a
    unfold State.tryImages
    repeat' with_reducible first | assumption | apply ih | apply State.when_reach | apply State.raise_reach | apply State.imageAccept_reach | apply State.startFail_reach | apply State.set_reach | apply State.tryImages_reach | (intros; show P _ = true; apply_assumption) | split | dsimp only | intro _

theorem execImageVerify_reach {a : Sys2Proof.SlotImage} {b : Sys2Proof.SlotImage} (hs : Reach P Q s0 s) (hsum : ∀ k, k.cell.summary → P k) (h11 : ∀ i, P ⟨.boot .state, 0, i⟩) (h12 : ∀ i, P ⟨.boot .errAddr, 0, i⟩) (h13 : ∀ i, P ⟨.boot .errDie, 0, i⟩) (h14 : ∀ i, P ⟨.boot .detail, 0, i⟩) (h15 : ∀ i, P ⟨.boot .errCode, 0, i⟩) (h16 : ∀ i, P ⟨.boot .phaseRun, 0, i⟩) (h17 : ∀ i, P ⟨.boot .phaseMs, 0, i⟩) (h18 : ∀ i, P ⟨.boot .procCalled, 0, i⟩) (h19 : ∀ d i, P ⟨.lt .muteCause, d, i⟩) (h20 : ∀ d i, P ⟨.lt .ramp, d, i⟩) (h21 : ∀ d i, P ⟨.lt .txState, d, i⟩) (h22 : ∀ d i, P ⟨.lt .otherCause, d, i⟩) (h23 : ∀ d i, P ⟨.bias .ptState, d, i⟩) (h24 : ∀ d i, P ⟨.bias .ptAcq, d, i⟩) (h25 : ∀ d i, P ⟨.bias .ptV, d, i⟩) (h26 : ∀ d i, P ⟨.bias .ptBase, d, i⟩) (h27 : ∀ d i, P ⟨.lt .nMuteEnter, d, i⟩) (h28 : ∀ d i, P ⟨.lt .begun4, d, i⟩) (h29 : ∀ d i, P ⟨.sticky .ltTxDown, d, i⟩) (h30 : ∀ d i, P ⟨.live .ltTxDown, d, i⟩) (h31 : ∀ d i, P ⟨.lt .sysCause, d, i⟩) (h32 : ∀ d i, P ⟨.bias .ptUnlRun, d, i⟩) (h33 : ∀ d i, P ⟨.bias .ptLockRun, d, i⟩) (h34 : ∀ d i, P ⟨.bias .ptTry, d, i⟩) (h35 : ∀ d i, P ⟨.bias .ptFirst, d, i⟩) (h36 : ∀ d i, P ⟨.bias .nUnlock, d, i⟩) (h37 : ∀ i, P ⟨.sys .freeCount, 0, i⟩) (h38 : ∀ d i, P ⟨.bias .outMv, d, i⟩) (h39 : ∀ d i, P ⟨.bias .ptLocked, d, i⟩) (h40 : ∀ d i, P ⟨.bias .biasLock, d, i⟩) (h41 : ∀ d i, P ⟨.sticky .biasNearRail, d, i⟩) (h42 : ∀ d i, P ⟨.live .biasNearRail, d, i⟩) (h43 : ∀ d i, P ⟨.sticky .biasRail, d, i⟩) (h44 : ∀ d i, P ⟨.live .biasRail, d, i⟩) (h45 : ∀ d i, P ⟨.sticky .biasOutFault, d, i⟩) (h46 : ∀ d i, P ⟨.live .biasOutFault, d, i⟩) (h47 : ∀ d i, P ⟨.sticky .biasUnlock, d, i⟩) (h48 : ∀ d i, P ⟨.live .biasUnlock, d, i⟩) (h49 : ∀ d i, P ⟨.bias .light, d, i⟩) (h50 : ∀ d i, P ⟨.sticky .lrLoLost, d, i⟩) (h51 : ∀ d i, P ⟨.live .lrLoLost, d, i⟩) (h52 : ∀ i, P ⟨.boot .procCode, 0, i⟩) (h53 : ∀ i, P ⟨.boot .procDone, 0, i⟩) (h54 : ∀ d i, P ⟨.live .lasFault, d, i⟩) (h55 : ∀ d i, P ⟨.las .lowCount, d, i⟩) (h56 : ∀ d i, P ⟨.las .recovering, d, i⟩) (h57 : ∀ d i, P ⟨.las .reason, d, i⟩) (h58 : ∀ d i, P ⟨.las .state, d, i⟩) (h59 : ∀ d i, P ⟨.hl .keep, d, i⟩) (h60 : ∀ d i, P ⟨.hl .state, d, i⟩) (h61 : ∀ d i, P ⟨.hl .idleRun, d, i⟩) (h62 : ∀ d i, P ⟨.hl .relock, d, i⟩) (h63 : ∀ d i, P ⟨.hl .waitSig, d, i⟩) (h64 : ∀ d i, P ⟨.hl .reqResult, d, i⟩) (h65 : ∀ d i, P ⟨.hl .reqSeq, d, i⟩) (h66 : ∀ d i, P ⟨.hl .stepFails, d, i⟩) (h67 : ∀ d i, P ⟨.hl .fellBack, d, i⟩) (h68 : ∀ d i, P ⟨.hl .switched, d, i⟩) (h69 : ∀ d i, P ⟨.hl .preNext, d, i⟩) (h70 : ∀ d i, P ⟨.hl .farCount, d, i⟩) (h71 : ∀ d i, P ⟨.hl .countdown, d, i⟩) (h72 : ∀ d i, P ⟨.hl .farPreCap, d, i⟩) (h73 : ∀ d i, P ⟨.hl .capsRun, d, i⟩) (h74 : ∀ d i, P ⟨.hl .readyLeft, d, i⟩) (h75 : ∀ d i, P ⟨.hl .readyRun, d, i⟩) (h76 : ∀ d i, P ⟨.hl .rxReady, d, i⟩) (h77 : ∀ d i, P ⟨.hl .badRun, d, i⟩) (h78 : ∀ d i, P ⟨.hl .goodRun, d, i⟩) (h79 : ∀ d i, P ⟨.hl .fLock, d, i⟩) (h80 : ∀ d i, P ⟨.sticky .hlpLinkDown, d, i⟩) (h81 : ∀ d i, P ⟨.live .hlpLinkDown, d, i⟩) (h82 : ∀ d i, P ⟨.hl .pGear, d, i⟩) (h83 : ∀ d i, P ⟨.hl .pState, d, i⟩) (h84 : ∀ d i, P ⟨.hl .corrTx, d, i⟩) (h85 : ∀ d i, P ⟨.hl .corrRx, d, i⟩) (h86 : ∀ i, P ⟨.sticky .bootRestarted, 0, i⟩) (h87 : ∀ i, P ⟨.live .bootRestarted, 0, i⟩) (h88 : ∀ i, P ⟨.ao .triesB, 0, i⟩) (h89 : ∀ i, P ⟨.ao .triesA, 0, i⟩) (h90 : ∀ i, P ⟨.tkt .ctrLast, 0, i⟩) (h91 : ∀ i, P ⟨.boot .slot, 0, i⟩) (h92 : ∀ i, P ⟨.sticky .bootFallback, 0, i⟩) (h93 : ∀ i, P ⟨.live .bootFallback, 0, i⟩) (h94 : ∀ i, P ⟨.sbg .lifecycle, 0, i⟩) (h95 : ∀ i, P ⟨.sys .fuseOwned, 0, i⟩) (h96 : ∀ i, P ⟨.boot .nodeHdr, 0, i⟩) (h97 : ∀ i, P ⟨.boot .imageSvn, 0, i⟩) (h98 : ∀ i, P ⟨.boot .imageVersion, 0, i⟩) (h99 : ∀ i, P ⟨.tkt .keys, 0, i⟩) (h100 : ∀ i, P ⟨.tkt .keyMask, 0, i⟩) (h101 : ∀ i, P ⟨.sticky .bootCrcMismatch, 0, i⟩) (h102 : ∀ i, P ⟨.live .bootCrcMismatch, 0, i⟩) (h103 : ∀ i, P ⟨.sticky .bootJournalInvalid, 0, i⟩) (h104 : ∀ i, P ⟨.live .bootJournalInvalid, 0, i⟩) (h105 : ∀ i, P ⟨.tkt .jEraseWait, 0, i⟩) (h106 : ∀ i, P ⟨.tkt .jErasing, 0, i⟩) (h107 : ∀ i, P ⟨.tkt .jBlank, 0, i⟩) (h108 : ∀ i, P ⟨.boot .step, 0, i⟩) (qreports : Q .reports) (qrun : Q .run) (qimgPolicy : Q .imgPolicy) (qtrust : Q .trust) :
    ∃ t, execImageVerify a b s = .next t ∧ Reach P Q s0 t := by
  unfold execImageVerify
  repeat' with_reducible first | assumption | apply finishIf_reach | apply State.set_reach | apply State.startFail_reach | apply State.tryImages_reach | (intros; show P _ = true; first | exact hsum _ rfl | (clear hsum; apply_assumption)) | split | dsimp only | intro _

theorem execImageSegmentRead_reach {slot : Nat} {seg : Nat} {firstOk : Bool} {secondOk : Bool} (hs : Reach P Q s0 s) (hsum : ∀ k, k.cell.summary → P k) (h11 : ∀ i, P ⟨.boot .segRead, 0, i⟩) (h12 : ∀ i, P ⟨.boot .nFlashReread, 0, i⟩) (h13 : ∀ i, P ⟨.boot .segCrcBad, 0, i⟩) (h14 : ∀ i, P ⟨.boot .state, 0, i⟩) (qreports : Q .reports) :
    ∃ t, execImageSegmentRead slot seg firstOk secondOk s = .next t ∧ Reach P Q s0 t := by
  unfold execImageSegmentRead
  repeat' with_reducible first | assumption | apply finishIf_reach | apply State.set_reach | apply State.incIf_reach | apply State.when_reach | (intros; show P _ = true; first | exact hsum _ rfl | (clear hsum; apply_assumption)) | split | dsimp only | intro _

theorem State.imageWrites_reach {table : Bool} {x2 : List Access} (hs : Reach P Q s0 s) (h1 : ∀ k, P k) (qreports : Q .reports) (qcands : Q .cands) (qmbox : Q .mbox) (qheld : Q .held) (qtickets : Q .tickets) (qrun : Q .run) (qpolicy : Q .policy) (qimgPolicy : Q .imgPolicy) (qtrust : Q .trust) (qtelOut : Q .telOut) (qclsTab : Q .clsTab) (qstaged : Q .staged) (qrings : Q .rings) (qtracker : Q .tracker) (qretireQ : Q .retireQ) (qmerge : Q .merge) (qdescs : Q .descs) (qkch : Q .kch) (qfups : Q .fups) :
    Reach P Q s0 (State.imageWrites s table x2).1 := by
  induction x2 generalizing s with
  | nil => exact hs
  | cons a r ih =>
    obtain ⟨x, m, v⟩ := a
    unfold State.imageWrites
    repeat' with_reducible first | assumption | apply ih | apply State.when_reach | apply State.applyWrite_reach | apply State.set_reach | apply State.imageWrites_reach | (intros; show P _ = true; apply_assumption) | split | dsimp only | intro _

theorem State.imageRecord_reach {r : Sys2Proof.Rec} {x : Nat} (hs : Reach P Q s0 s) (h1 : ∀ k, P k) (qrun : Q .run) (qreports : Q .reports) (qcands : Q .cands) (qmbox : Q .mbox) (qheld : Q .held) (qtickets : Q .tickets) (qpolicy : Q .policy) (qimgPolicy : Q .imgPolicy) (qtrust : Q .trust) (qtelOut : Q .telOut) (qclsTab : Q .clsTab) (qstaged : Q .staged) (qrings : Q .rings) (qtracker : Q .tracker) (qretireQ : Q .retireQ) (qmerge : Q .merge) (qdescs : Q .descs) (qkch : Q .kch) (qfups : Q .fups) :
    Reach P Q s0 (State.imageRecord s r x) := by
  unfold State.imageRecord
  repeat' with_reducible first | assumption | apply State.recordFail_reach | apply State.imageWrites_reach | apply State.recordDone_reach | (intros; show P _ = true; apply_assumption) | split | dsimp only | intro _

theorem execFlashDiscovery_reach {info : Sys2Proof.FlashInfo} (hs : Reach P Q s0 s) (hsum : ∀ k, k.cell.summary → P k) (h11 : ∀ i, P ⟨.boot .flashMode, 0, i⟩) (h12 : ∀ i, P ⟨.boot .state, 0, i⟩) (h13 : ∀ i, P ⟨.sticky .bootSlowFlash, 0, i⟩) (h14 : ∀ i, P ⟨.live .bootSlowFlash, 0, i⟩) (h15 : ∀ i, P ⟨.boot .errAddr, 0, i⟩) (h16 : ∀ i, P ⟨.boot .errDie, 0, i⟩) (h17 : ∀ i, P ⟨.boot .detail, 0, i⟩) (h18 : ∀ i, P ⟨.boot .errCode, 0, i⟩) (h19 : ∀ i, P ⟨.boot .phaseRun, 0, i⟩) (h20 : ∀ i, P ⟨.boot .phaseMs, 0, i⟩) (h21 : ∀ i, P ⟨.boot .procCalled, 0, i⟩) (h22 : ∀ d i, P ⟨.lt .muteCause, d, i⟩) (h23 : ∀ d i, P ⟨.lt .ramp, d, i⟩) (h24 : ∀ d i, P ⟨.lt .txState, d, i⟩) (h25 : ∀ d i, P ⟨.lt .otherCause, d, i⟩) (h26 : ∀ d i, P ⟨.bias .ptState, d, i⟩) (h27 : ∀ d i, P ⟨.bias .ptAcq, d, i⟩) (h28 : ∀ d i, P ⟨.bias .ptV, d, i⟩) (h29 : ∀ d i, P ⟨.bias .ptBase, d, i⟩) (h30 : ∀ d i, P ⟨.lt .nMuteEnter, d, i⟩) (h31 : ∀ d i, P ⟨.lt .begun4, d, i⟩) (h32 : ∀ d i, P ⟨.sticky .ltTxDown, d, i⟩) (h33 : ∀ d i, P ⟨.live .ltTxDown, d, i⟩) (h34 : ∀ d i, P ⟨.lt .sysCause, d, i⟩) (h35 : ∀ d i, P ⟨.bias .ptUnlRun, d, i⟩) (h36 : ∀ d i, P ⟨.bias .ptLockRun, d, i⟩) (h37 : ∀ d i, P ⟨.bias .ptTry, d, i⟩) (h38 : ∀ d i, P ⟨.bias .ptFirst, d, i⟩) (h39 : ∀ d i, P ⟨.bias .nUnlock, d, i⟩) (h40 : ∀ i, P ⟨.sys .freeCount, 0, i⟩) (h41 : ∀ d i, P ⟨.bias .outMv, d, i⟩) (h42 : ∀ d i, P ⟨.bias .ptLocked, d, i⟩) (h43 : ∀ d i, P ⟨.bias .biasLock, d, i⟩) (h44 : ∀ d i, P ⟨.sticky .biasNearRail, d, i⟩) (h45 : ∀ d i, P ⟨.live .biasNearRail, d, i⟩) (h46 : ∀ d i, P ⟨.sticky .biasRail, d, i⟩) (h47 : ∀ d i, P ⟨.live .biasRail, d, i⟩) (h48 : ∀ d i, P ⟨.sticky .biasOutFault, d, i⟩) (h49 : ∀ d i, P ⟨.live .biasOutFault, d, i⟩) (h50 : ∀ d i, P ⟨.sticky .biasUnlock, d, i⟩) (h51 : ∀ d i, P ⟨.live .biasUnlock, d, i⟩) (h52 : ∀ d i, P ⟨.bias .light, d, i⟩) (h53 : ∀ d i, P ⟨.sticky .lrLoLost, d, i⟩) (h54 : ∀ d i, P ⟨.live .lrLoLost, d, i⟩) (h55 : ∀ i, P ⟨.boot .procCode, 0, i⟩) (h56 : ∀ i, P ⟨.boot .procDone, 0, i⟩) (h57 : ∀ d i, P ⟨.live .lasFault, d, i⟩) (h58 : ∀ d i, P ⟨.las .lowCount, d, i⟩) (h59 : ∀ d i, P ⟨.las .recovering, d, i⟩) (h60 : ∀ d i, P ⟨.las .reason, d, i⟩) (h61 : ∀ d i, P ⟨.las .state, d, i⟩) (h62 : ∀ d i, P ⟨.hl .keep, d, i⟩) (h63 : ∀ d i, P ⟨.hl .state, d, i⟩) (h64 : ∀ d i, P ⟨.hl .idleRun, d, i⟩) (h65 : ∀ d i, P ⟨.hl .relock, d, i⟩) (h66 : ∀ d i, P ⟨.hl .waitSig, d, i⟩) (h67 : ∀ d i, P ⟨.hl .reqResult, d, i⟩) (h68 : ∀ d i, P ⟨.hl .reqSeq, d, i⟩) (h69 : ∀ d i, P ⟨.hl .stepFails, d, i⟩) (h70 : ∀ d i, P ⟨.hl .fellBack, d, i⟩) (h71 : ∀ d i, P ⟨.hl .switched, d, i⟩) (h72 : ∀ d i, P ⟨.hl .preNext, d, i⟩) (h73 : ∀ d i, P ⟨.hl .farCount, d, i⟩) (h74 : ∀ d i, P ⟨.hl .countdown, d, i⟩) (h75 : ∀ d i, P ⟨.hl .farPreCap, d, i⟩) (h76 : ∀ d i, P ⟨.hl .capsRun, d, i⟩) (h77 : ∀ d i, P ⟨.hl .readyLeft, d, i⟩) (h78 : ∀ d i, P ⟨.hl .readyRun, d, i⟩) (h79 : ∀ d i, P ⟨.hl .rxReady, d, i⟩) (h80 : ∀ d i, P ⟨.hl .badRun, d, i⟩) (h81 : ∀ d i, P ⟨.hl .goodRun, d, i⟩) (h82 : ∀ d i, P ⟨.hl .fLock, d, i⟩) (h83 : ∀ d i, P ⟨.sticky .hlpLinkDown, d, i⟩) (h84 : ∀ d i, P ⟨.live .hlpLinkDown, d, i⟩) (h85 : ∀ d i, P ⟨.hl .pGear, d, i⟩) (h86 : ∀ d i, P ⟨.hl .pState, d, i⟩) (h87 : ∀ d i, P ⟨.hl .corrTx, d, i⟩) (h88 : ∀ d i, P ⟨.hl .corrRx, d, i⟩) (h89 : ∀ i, P ⟨.sticky .bootRestarted, 0, i⟩) (h90 : ∀ i, P ⟨.live .bootRestarted, 0, i⟩) (h91 : ∀ i, P ⟨.ao .triesB, 0, i⟩) (h92 : ∀ i, P ⟨.ao .triesA, 0, i⟩) (h93 : ∀ i, P ⟨.tkt .ctrLast, 0, i⟩) (qreports : Q .reports) (qrun : Q .run) :
    ∃ t, execFlashDiscovery info s = .next t ∧ Reach P Q s0 t := by
  unfold execFlashDiscovery
  repeat' with_reducible first | assumption | apply finishIf_reach | apply State.set_reach | apply State.cond_reach | apply State.startFail_reach | (intros; show P _ = true; first | exact hsum _ rfl | (clear hsum; apply_assumption)) | split | dsimp only | intro _

theorem execRecordProc_reach {id : Nat} {args : List Nat} (hs : Reach P Q s0 s) (hsum : ∀ k, k.cell.summary → P k) (h11 : ∀ i, P ⟨.boot .errAddr, 0, i⟩) (h12 : ∀ i, P ⟨.boot .errDie, 0, i⟩) (h13 : ∀ i, P ⟨.boot .detail, 0, i⟩) (h14 : ∀ i, P ⟨.boot .errCode, 0, i⟩) (h15 : ∀ i, P ⟨.boot .phaseRun, 0, i⟩) (h16 : ∀ i, P ⟨.boot .phaseMs, 0, i⟩) (h17 : ∀ i, P ⟨.boot .procCalled, 0, i⟩) (h18 : ∀ d i, P ⟨.lt .muteCause, d, i⟩) (h19 : ∀ d i, P ⟨.lt .ramp, d, i⟩) (h20 : ∀ d i, P ⟨.lt .txState, d, i⟩) (h21 : ∀ d i, P ⟨.lt .otherCause, d, i⟩) (h22 : ∀ d i, P ⟨.bias .ptState, d, i⟩) (h23 : ∀ d i, P ⟨.bias .ptAcq, d, i⟩) (h24 : ∀ d i, P ⟨.bias .ptV, d, i⟩) (h25 : ∀ d i, P ⟨.bias .ptBase, d, i⟩) (h26 : ∀ d i, P ⟨.lt .nMuteEnter, d, i⟩) (h27 : ∀ d i, P ⟨.lt .begun4, d, i⟩) (h28 : ∀ d i, P ⟨.sticky .ltTxDown, d, i⟩) (h29 : ∀ d i, P ⟨.live .ltTxDown, d, i⟩) (h30 : ∀ d i, P ⟨.lt .sysCause, d, i⟩) (h31 : ∀ d i, P ⟨.bias .ptUnlRun, d, i⟩) (h32 : ∀ d i, P ⟨.bias .ptLockRun, d, i⟩) (h33 : ∀ d i, P ⟨.bias .ptTry, d, i⟩) (h34 : ∀ d i, P ⟨.bias .ptFirst, d, i⟩) (h35 : ∀ d i, P ⟨.bias .nUnlock, d, i⟩) (h36 : ∀ i, P ⟨.sys .freeCount, 0, i⟩) (h37 : ∀ d i, P ⟨.bias .outMv, d, i⟩) (h38 : ∀ d i, P ⟨.bias .ptLocked, d, i⟩) (h39 : ∀ d i, P ⟨.bias .biasLock, d, i⟩) (h40 : ∀ d i, P ⟨.sticky .biasNearRail, d, i⟩) (h41 : ∀ d i, P ⟨.live .biasNearRail, d, i⟩) (h42 : ∀ d i, P ⟨.sticky .biasRail, d, i⟩) (h43 : ∀ d i, P ⟨.live .biasRail, d, i⟩) (h44 : ∀ d i, P ⟨.sticky .biasOutFault, d, i⟩) (h45 : ∀ d i, P ⟨.live .biasOutFault, d, i⟩) (h46 : ∀ d i, P ⟨.sticky .biasUnlock, d, i⟩) (h47 : ∀ d i, P ⟨.live .biasUnlock, d, i⟩) (h48 : ∀ d i, P ⟨.bias .light, d, i⟩) (h49 : ∀ d i, P ⟨.sticky .lrLoLost, d, i⟩) (h50 : ∀ d i, P ⟨.live .lrLoLost, d, i⟩) (h51 : ∀ i, P ⟨.boot .procCode, 0, i⟩) (h52 : ∀ i, P ⟨.boot .procDone, 0, i⟩) (h53 : ∀ d i, P ⟨.live .lasFault, d, i⟩) (h54 : ∀ d i, P ⟨.las .lowCount, d, i⟩) (h55 : ∀ d i, P ⟨.las .recovering, d, i⟩) (h56 : ∀ d i, P ⟨.las .reason, d, i⟩) (h57 : ∀ d i, P ⟨.las .state, d, i⟩) (h58 : ∀ d i, P ⟨.hl .keep, d, i⟩) (h59 : ∀ d i, P ⟨.hl .state, d, i⟩) (h60 : ∀ d i, P ⟨.hl .idleRun, d, i⟩) (h61 : ∀ d i, P ⟨.hl .relock, d, i⟩) (h62 : ∀ d i, P ⟨.hl .waitSig, d, i⟩) (h63 : ∀ d i, P ⟨.hl .reqResult, d, i⟩) (h64 : ∀ d i, P ⟨.hl .reqSeq, d, i⟩) (h65 : ∀ d i, P ⟨.hl .stepFails, d, i⟩) (h66 : ∀ d i, P ⟨.hl .fellBack, d, i⟩) (h67 : ∀ d i, P ⟨.hl .switched, d, i⟩) (h68 : ∀ d i, P ⟨.hl .preNext, d, i⟩) (h69 : ∀ d i, P ⟨.hl .farCount, d, i⟩) (h70 : ∀ d i, P ⟨.hl .countdown, d, i⟩) (h71 : ∀ d i, P ⟨.hl .farPreCap, d, i⟩) (h72 : ∀ d i, P ⟨.hl .capsRun, d, i⟩) (h73 : ∀ d i, P ⟨.hl .readyLeft, d, i⟩) (h74 : ∀ d i, P ⟨.hl .readyRun, d, i⟩) (h75 : ∀ d i, P ⟨.hl .rxReady, d, i⟩) (h76 : ∀ d i, P ⟨.hl .badRun, d, i⟩) (h77 : ∀ d i, P ⟨.hl .goodRun, d, i⟩) (h78 : ∀ d i, P ⟨.hl .fLock, d, i⟩) (h79 : ∀ d i, P ⟨.sticky .hlpLinkDown, d, i⟩) (h80 : ∀ d i, P ⟨.live .hlpLinkDown, d, i⟩) (h81 : ∀ d i, P ⟨.hl .pGear, d, i⟩) (h82 : ∀ d i, P ⟨.hl .pState, d, i⟩) (h83 : ∀ d i, P ⟨.hl .corrTx, d, i⟩) (h84 : ∀ d i, P ⟨.hl .corrRx, d, i⟩) (h85 : ∀ i, P ⟨.boot .state, 0, i⟩) (h86 : ∀ i, P ⟨.sticky .bootRestarted, 0, i⟩) (h87 : ∀ i, P ⟨.live .bootRestarted, 0, i⟩) (h88 : ∀ i, P ⟨.ao .triesB, 0, i⟩) (h89 : ∀ i, P ⟨.ao .triesA, 0, i⟩) (h90 : ∀ i, P ⟨.tkt .ctrLast, 0, i⟩) (h91 : ∀ i, P ⟨.boot .procId, 0, i⟩) (h92 : ∀ i, P ⟨.boot .procArgW, 0, i⟩) (qreports : Q .reports) (qrun : Q .run) :
    ∃ t, execRecordProc id args s = .next t ∧ Reach P Q s0 t := by
  unfold execRecordProc
  repeat' with_reducible first | assumption | apply finishIf_reach | apply State.recordFail_reach | apply State.recordWait_reach | apply State.set_reach | apply State.procCall_reach | (intros; show P _ = true; first | exact hsum _ rfl | (clear hsum; apply_assumption)) | split | dsimp only | intro _

theorem execRecordTable_reach {window : Nat} {first : Nat} {words : Nat} {data : List Nat} (hs : Reach P Q s0 s) (h1 : ∀ k, P k) (qreports : Q .reports) (qrun : Q .run) (qcands : Q .cands) (qmbox : Q .mbox) (qheld : Q .held) (qtickets : Q .tickets) (qpolicy : Q .policy) (qimgPolicy : Q .imgPolicy) (qtrust : Q .trust) (qtelOut : Q .telOut) (qclsTab : Q .clsTab) (qstaged : Q .staged) (qrings : Q .rings) (qtracker : Q .tracker) (qretireQ : Q .retireQ) (qmerge : Q .merge) (qdescs : Q .descs) (qkch : Q .kch) (qfups : Q .fups) :
    ∃ t, execRecordTable window first words data s = .next t ∧ Reach P Q s0 t := by
  unfold execRecordTable
  repeat' with_reducible first | assumption | apply finishIf_reach | apply State.imageRecord_reach | (intros; show P _ = true; first | exact h1 _ | apply_assumption) | split | dsimp only | intro _

theorem execRecordFill_reach {addr : Nat} {mask : Nat} {value : Nat} {count : Nat} {stride : Nat} (hs : Reach P Q s0 s) (h1 : ∀ k, P k) (qreports : Q .reports) (qrun : Q .run) (qcands : Q .cands) (qmbox : Q .mbox) (qheld : Q .held) (qtickets : Q .tickets) (qpolicy : Q .policy) (qimgPolicy : Q .imgPolicy) (qtrust : Q .trust) (qtelOut : Q .telOut) (qclsTab : Q .clsTab) (qstaged : Q .staged) (qrings : Q .rings) (qtracker : Q .tracker) (qretireQ : Q .retireQ) (qmerge : Q .merge) (qdescs : Q .descs) (qkch : Q .kch) (qfups : Q .fups) :
    ∃ t, execRecordFill addr mask value count stride s = .next t ∧ Reach P Q s0 t := by
  unfold execRecordFill
  repeat' with_reducible first | assumption | apply finishIf_reach | apply State.imageRecord_reach | (intros; show P _ = true; first | exact h1 _ | apply_assumption) | split | dsimp only | intro _

theorem execRestartWaitExpiry_reach (hs : Reach P Q s0 s) (h1 : ∀ k, P k) (qreports : Q .reports) (qmbox : Q .mbox) (qheld : Q .held) (qtickets : Q .tickets) (qrun : Q .run) (qpolicy : Q .policy) (qimgPolicy : Q .imgPolicy) (qtrust : Q .trust) (qcands : Q .cands) (qtelOut : Q .telOut) (qclsTab : Q .clsTab) (qstaged : Q .staged) (qrings : Q .rings) (qtracker : Q .tracker) (qretireQ : Q .retireQ) (qmerge : Q .merge) (qdescs : Q .descs) (qkch : Q .kch) (qfups : Q .fups) :
    ∃ t, execRestartWaitExpiry s = .next t ∧ Reach P Q s0 t := by
  unfold execRestartWaitExpiry
  repeat' with_reducible first | assumption | apply finishIf_reach | apply State.raise_reach | apply State.restart_reach | (intros; show P _ = true; first | exact h1 _ | apply_assumption) | split | dsimp only | intro _

theorem execRecordWrite_reach {addr : Nat} {mask : Nat} {value : Nat} (hs : Reach P Q s0 s) (h1 : ∀ k, P k) (qreports : Q .reports) (qrun : Q .run) (qcands : Q .cands) (qmbox : Q .mbox) (qheld : Q .held) (qtickets : Q .tickets) (qpolicy : Q .policy) (qimgPolicy : Q .imgPolicy) (qtrust : Q .trust) (qtelOut : Q .telOut) (qclsTab : Q .clsTab) (qstaged : Q .staged) (qrings : Q .rings) (qtracker : Q .tracker) (qretireQ : Q .retireQ) (qmerge : Q .merge) (qdescs : Q .descs) (qkch : Q .kch) (qfups : Q .fups) :
    ∃ t, execRecordWrite addr mask value s = .next t ∧ Reach P Q s0 t := by
  unfold execRecordWrite
  repeat' with_reducible first | assumption | apply finishIf_reach | apply State.imageRecord_reach | (intros; show P _ = true; first | exact h1 _ | apply_assumption) | split | dsimp only | intro _

theorem execLeadDieRelease_reach {katOk : Bool} {entropyOk : Bool} {busMaster : Bool} {msi : Bool} (hs : Reach P Q s0 s) (hsum : ∀ k, k.cell.summary → P k) (h11 : ∀ i, P ⟨.sys .msiEn, 0, i⟩) (h12 : ∀ i, P ⟨.sys .busMaster, 0, i⟩) (h13 : ∀ i, P ⟨.sys .pcieUp, 0, i⟩) (h14 : ∀ i, P ⟨.sbg .keysReady, 0, i⟩) (h15 : ∀ i, P ⟨.sbg .rngOk, 0, i⟩) (h16 : ∀ i, P ⟨.sbg .lifecycle, 0, i⟩) (h17 : ∀ i, P ⟨.boot .fuseSvn, 0, i⟩) (h18 : ∀ i, P ⟨.boot .entropyPass, 0, i⟩) (h19 : ∀ i, P ⟨.boot .katPass, 0, i⟩) (h20 : ∀ i, P ⟨.boot .state, 0, i⟩) (h21 : ∀ i, P ⟨.sys .dieReleased, 0, i⟩) (h22 : ∀ i, P ⟨.live .clkBFreewheel, 0, i⟩) (h23 : ∀ i, P ⟨.live .clkAFreewheel, 0, i⟩) (h24 : ∀ i, P ⟨.boot .step, 0, i⟩) (h25 : ∀ i, P ⟨.sticky .bootFlashHeld, 0, i⟩) (h26 : ∀ i, P ⟨.live .bootFlashHeld, 0, i⟩) (h27 : ∀ i, P ⟨.boot .errAddr, 0, i⟩) (h28 : ∀ i, P ⟨.boot .errDie, 0, i⟩) (h29 : ∀ i, P ⟨.boot .detail, 0, i⟩) (h30 : ∀ i, P ⟨.boot .errCode, 0, i⟩) (h31 : ∀ i, P ⟨.boot .phaseRun, 0, i⟩) (h32 : ∀ i, P ⟨.boot .phaseMs, 0, i⟩) (h33 : ∀ i, P ⟨.boot .procCalled, 0, i⟩) (h34 : ∀ d i, P ⟨.lt .muteCause, d, i⟩) (h35 : ∀ d i, P ⟨.lt .ramp, d, i⟩) (h36 : ∀ d i, P ⟨.lt .txState, d, i⟩) (h37 : ∀ d i, P ⟨.lt .otherCause, d, i⟩) (h38 : ∀ d i, P ⟨.bias .ptState, d, i⟩) (h39 : ∀ d i, P ⟨.bias .ptAcq, d, i⟩) (h40 : ∀ d i, P ⟨.bias .ptV, d, i⟩) (h41 : ∀ d i, P ⟨.bias .ptBase, d, i⟩) (h42 : ∀ d i, P ⟨.lt .nMuteEnter, d, i⟩) (h43 : ∀ d i, P ⟨.lt .begun4, d, i⟩) (h44 : ∀ d i, P ⟨.sticky .ltTxDown, d, i⟩) (h45 : ∀ d i, P ⟨.live .ltTxDown, d, i⟩) (h46 : ∀ d i, P ⟨.lt .sysCause, d, i⟩) (h47 : ∀ d i, P ⟨.bias .ptUnlRun, d, i⟩) (h48 : ∀ d i, P ⟨.bias .ptLockRun, d, i⟩) (h49 : ∀ d i, P ⟨.bias .ptTry, d, i⟩) (h50 : ∀ d i, P ⟨.bias .ptFirst, d, i⟩) (h51 : ∀ d i, P ⟨.bias .nUnlock, d, i⟩) (h52 : ∀ i, P ⟨.sys .freeCount, 0, i⟩) (h53 : ∀ d i, P ⟨.bias .outMv, d, i⟩) (h54 : ∀ d i, P ⟨.bias .ptLocked, d, i⟩) (h55 : ∀ d i, P ⟨.bias .biasLock, d, i⟩) (h56 : ∀ d i, P ⟨.sticky .biasNearRail, d, i⟩) (h57 : ∀ d i, P ⟨.live .biasNearRail, d, i⟩) (h58 : ∀ d i, P ⟨.sticky .biasRail, d, i⟩) (h59 : ∀ d i, P ⟨.live .biasRail, d, i⟩) (h60 : ∀ d i, P ⟨.sticky .biasOutFault, d, i⟩) (h61 : ∀ d i, P ⟨.live .biasOutFault, d, i⟩) (h62 : ∀ d i, P ⟨.sticky .biasUnlock, d, i⟩) (h63 : ∀ d i, P ⟨.live .biasUnlock, d, i⟩) (h64 : ∀ d i, P ⟨.bias .light, d, i⟩) (h65 : ∀ d i, P ⟨.sticky .lrLoLost, d, i⟩) (h66 : ∀ d i, P ⟨.live .lrLoLost, d, i⟩) (h67 : ∀ i, P ⟨.boot .procCode, 0, i⟩) (h68 : ∀ i, P ⟨.boot .procDone, 0, i⟩) (h69 : ∀ d i, P ⟨.live .lasFault, d, i⟩) (h70 : ∀ d i, P ⟨.las .lowCount, d, i⟩) (h71 : ∀ d i, P ⟨.las .recovering, d, i⟩) (h72 : ∀ d i, P ⟨.las .reason, d, i⟩) (h73 : ∀ d i, P ⟨.las .state, d, i⟩) (h74 : ∀ d i, P ⟨.hl .keep, d, i⟩) (h75 : ∀ d i, P ⟨.hl .state, d, i⟩) (h76 : ∀ d i, P ⟨.hl .idleRun, d, i⟩) (h77 : ∀ d i, P ⟨.hl .relock, d, i⟩) (h78 : ∀ d i, P ⟨.hl .waitSig, d, i⟩) (h79 : ∀ d i, P ⟨.hl .reqResult, d, i⟩) (h80 : ∀ d i, P ⟨.hl .reqSeq, d, i⟩) (h81 : ∀ d i, P ⟨.hl .stepFails, d, i⟩) (h82 : ∀ d i, P ⟨.hl .fellBack, d, i⟩) (h83 : ∀ d i, P ⟨.hl .switched, d, i⟩) (h84 : ∀ d i, P ⟨.hl .preNext, d, i⟩) (h85 : ∀ d i, P ⟨.hl .farCount, d, i⟩) (h86 : ∀ d i, P ⟨.hl .countdown, d, i⟩) (h87 : ∀ d i, P ⟨.hl .farPreCap, d, i⟩) (h88 : ∀ d i, P ⟨.hl .capsRun, d, i⟩) (h89 : ∀ d i, P ⟨.hl .readyLeft, d, i⟩) (h90 : ∀ d i, P ⟨.hl .readyRun, d, i⟩) (h91 : ∀ d i, P ⟨.hl .rxReady, d, i⟩) (h92 : ∀ d i, P ⟨.hl .badRun, d, i⟩) (h93 : ∀ d i, P ⟨.hl .goodRun, d, i⟩) (h94 : ∀ d i, P ⟨.hl .fLock, d, i⟩) (h95 : ∀ d i, P ⟨.sticky .hlpLinkDown, d, i⟩) (h96 : ∀ d i, P ⟨.live .hlpLinkDown, d, i⟩) (h97 : ∀ d i, P ⟨.hl .pGear, d, i⟩) (h98 : ∀ d i, P ⟨.hl .pState, d, i⟩) (h99 : ∀ d i, P ⟨.hl .corrTx, d, i⟩) (h100 : ∀ d i, P ⟨.hl .corrRx, d, i⟩) (h101 : ∀ i, P ⟨.sticky .bootRestarted, 0, i⟩) (h102 : ∀ i, P ⟨.live .bootRestarted, 0, i⟩) (h103 : ∀ i, P ⟨.ao .triesB, 0, i⟩) (h104 : ∀ i, P ⟨.ao .triesA, 0, i⟩) (h105 : ∀ i, P ⟨.tkt .ctrLast, 0, i⟩) (qreports : Q .reports) (qrun : Q .run) :
    ∃ t, execLeadDieRelease katOk entropyOk busMaster msi s = .next t ∧ Reach P Q s0 t := by
  unfold execLeadDieRelease
  repeat' with_reducible first | assumption | apply finishIf_reach | apply State.linkTrain_reach | apply State.set_reach | apply State.setB_reach | apply State.raise_reach | apply State.startFail_reach | (intros; show P _ = true; first | exact hsum _ rfl | (clear hsum; apply_assumption)) | split | dsimp only | intro _

theorem execRecordWaitUs_reach {us : Nat} (hs : Reach P Q s0 s) (hsum : ∀ k, k.cell.summary → P k) (h11 : ∀ i, P ⟨.boot .errAddr, 0, i⟩) (h12 : ∀ i, P ⟨.boot .errDie, 0, i⟩) (h13 : ∀ i, P ⟨.boot .detail, 0, i⟩) (h14 : ∀ i, P ⟨.boot .errCode, 0, i⟩) (h15 : ∀ i, P ⟨.boot .phaseRun, 0, i⟩) (h16 : ∀ i, P ⟨.boot .phaseMs, 0, i⟩) (h17 : ∀ i, P ⟨.boot .procCalled, 0, i⟩) (h18 : ∀ d i, P ⟨.lt .muteCause, d, i⟩) (h19 : ∀ d i, P ⟨.lt .ramp, d, i⟩) (h20 : ∀ d i, P ⟨.lt .txState, d, i⟩) (h21 : ∀ d i, P ⟨.lt .otherCause, d, i⟩) (h22 : ∀ d i, P ⟨.bias .ptState, d, i⟩) (h23 : ∀ d i, P ⟨.bias .ptAcq, d, i⟩) (h24 : ∀ d i, P ⟨.bias .ptV, d, i⟩) (h25 : ∀ d i, P ⟨.bias .ptBase, d, i⟩) (h26 : ∀ d i, P ⟨.lt .nMuteEnter, d, i⟩) (h27 : ∀ d i, P ⟨.lt .begun4, d, i⟩) (h28 : ∀ d i, P ⟨.sticky .ltTxDown, d, i⟩) (h29 : ∀ d i, P ⟨.live .ltTxDown, d, i⟩) (h30 : ∀ d i, P ⟨.lt .sysCause, d, i⟩) (h31 : ∀ d i, P ⟨.bias .ptUnlRun, d, i⟩) (h32 : ∀ d i, P ⟨.bias .ptLockRun, d, i⟩) (h33 : ∀ d i, P ⟨.bias .ptTry, d, i⟩) (h34 : ∀ d i, P ⟨.bias .ptFirst, d, i⟩) (h35 : ∀ d i, P ⟨.bias .nUnlock, d, i⟩) (h36 : ∀ i, P ⟨.sys .freeCount, 0, i⟩) (h37 : ∀ d i, P ⟨.bias .outMv, d, i⟩) (h38 : ∀ d i, P ⟨.bias .ptLocked, d, i⟩) (h39 : ∀ d i, P ⟨.bias .biasLock, d, i⟩) (h40 : ∀ d i, P ⟨.sticky .biasNearRail, d, i⟩) (h41 : ∀ d i, P ⟨.live .biasNearRail, d, i⟩) (h42 : ∀ d i, P ⟨.sticky .biasRail, d, i⟩) (h43 : ∀ d i, P ⟨.live .biasRail, d, i⟩) (h44 : ∀ d i, P ⟨.sticky .biasOutFault, d, i⟩) (h45 : ∀ d i, P ⟨.live .biasOutFault, d, i⟩) (h46 : ∀ d i, P ⟨.sticky .biasUnlock, d, i⟩) (h47 : ∀ d i, P ⟨.live .biasUnlock, d, i⟩) (h48 : ∀ d i, P ⟨.bias .light, d, i⟩) (h49 : ∀ d i, P ⟨.sticky .lrLoLost, d, i⟩) (h50 : ∀ d i, P ⟨.live .lrLoLost, d, i⟩) (h51 : ∀ i, P ⟨.boot .procCode, 0, i⟩) (h52 : ∀ i, P ⟨.boot .procDone, 0, i⟩) (h53 : ∀ d i, P ⟨.live .lasFault, d, i⟩) (h54 : ∀ d i, P ⟨.las .lowCount, d, i⟩) (h55 : ∀ d i, P ⟨.las .recovering, d, i⟩) (h56 : ∀ d i, P ⟨.las .reason, d, i⟩) (h57 : ∀ d i, P ⟨.las .state, d, i⟩) (h58 : ∀ d i, P ⟨.hl .keep, d, i⟩) (h59 : ∀ d i, P ⟨.hl .state, d, i⟩) (h60 : ∀ d i, P ⟨.hl .idleRun, d, i⟩) (h61 : ∀ d i, P ⟨.hl .relock, d, i⟩) (h62 : ∀ d i, P ⟨.hl .waitSig, d, i⟩) (h63 : ∀ d i, P ⟨.hl .reqResult, d, i⟩) (h64 : ∀ d i, P ⟨.hl .reqSeq, d, i⟩) (h65 : ∀ d i, P ⟨.hl .stepFails, d, i⟩) (h66 : ∀ d i, P ⟨.hl .fellBack, d, i⟩) (h67 : ∀ d i, P ⟨.hl .switched, d, i⟩) (h68 : ∀ d i, P ⟨.hl .preNext, d, i⟩) (h69 : ∀ d i, P ⟨.hl .farCount, d, i⟩) (h70 : ∀ d i, P ⟨.hl .countdown, d, i⟩) (h71 : ∀ d i, P ⟨.hl .farPreCap, d, i⟩) (h72 : ∀ d i, P ⟨.hl .capsRun, d, i⟩) (h73 : ∀ d i, P ⟨.hl .readyLeft, d, i⟩) (h74 : ∀ d i, P ⟨.hl .readyRun, d, i⟩) (h75 : ∀ d i, P ⟨.hl .rxReady, d, i⟩) (h76 : ∀ d i, P ⟨.hl .badRun, d, i⟩) (h77 : ∀ d i, P ⟨.hl .goodRun, d, i⟩) (h78 : ∀ d i, P ⟨.hl .fLock, d, i⟩) (h79 : ∀ d i, P ⟨.sticky .hlpLinkDown, d, i⟩) (h80 : ∀ d i, P ⟨.live .hlpLinkDown, d, i⟩) (h81 : ∀ d i, P ⟨.hl .pGear, d, i⟩) (h82 : ∀ d i, P ⟨.hl .pState, d, i⟩) (h83 : ∀ d i, P ⟨.hl .corrTx, d, i⟩) (h84 : ∀ d i, P ⟨.hl .corrRx, d, i⟩) (h85 : ∀ i, P ⟨.boot .state, 0, i⟩) (h86 : ∀ i, P ⟨.sticky .bootRestarted, 0, i⟩) (h87 : ∀ i, P ⟨.live .bootRestarted, 0, i⟩) (h88 : ∀ i, P ⟨.ao .triesB, 0, i⟩) (h89 : ∀ i, P ⟨.ao .triesA, 0, i⟩) (h90 : ∀ i, P ⟨.tkt .ctrLast, 0, i⟩) (qreports : Q .reports) (qrun : Q .run) :
    ∃ t, execRecordWaitUs us s = .next t ∧ Reach P Q s0 t := by
  unfold execRecordWaitUs
  repeat' with_reducible first | assumption | apply finishIf_reach | apply State.recordFail_reach | apply State.recordWait_reach | (intros; show P _ = true; first | exact hsum _ rfl | (clear hsum; apply_assumption)) | split | dsimp only | intro _

theorem execProcReturn_reach (hs : Reach P Q s0 s) (hsum : ∀ k, k.cell.summary → P k) (h11 : ∀ i, P ⟨.boot .procDone, 0, i⟩) (h12 : ∀ i, P ⟨.boot .procId, 0, i⟩) (h13 : ∀ i, P ⟨.boot .recIndex, 0, i⟩) (h14 : ∀ i, P ⟨.boot .errAddr, 0, i⟩) (h15 : ∀ i, P ⟨.boot .errDie, 0, i⟩) (h16 : ∀ i, P ⟨.boot .detail, 0, i⟩) (h17 : ∀ i, P ⟨.boot .errCode, 0, i⟩) (h18 : ∀ i, P ⟨.boot .phaseRun, 0, i⟩) (h19 : ∀ i, P ⟨.boot .phaseMs, 0, i⟩) (h20 : ∀ i, P ⟨.boot .procCalled, 0, i⟩) (h21 : ∀ d i, P ⟨.lt .muteCause, d, i⟩) (h22 : ∀ d i, P ⟨.lt .ramp, d, i⟩) (h23 : ∀ d i, P ⟨.lt .txState, d, i⟩) (h24 : ∀ d i, P ⟨.lt .otherCause, d, i⟩) (h25 : ∀ d i, P ⟨.bias .ptState, d, i⟩) (h26 : ∀ d i, P ⟨.bias .ptAcq, d, i⟩) (h27 : ∀ d i, P ⟨.bias .ptV, d, i⟩) (h28 : ∀ d i, P ⟨.bias .ptBase, d, i⟩) (h29 : ∀ d i, P ⟨.lt .nMuteEnter, d, i⟩) (h30 : ∀ d i, P ⟨.lt .begun4, d, i⟩) (h31 : ∀ d i, P ⟨.sticky .ltTxDown, d, i⟩) (h32 : ∀ d i, P ⟨.live .ltTxDown, d, i⟩) (h33 : ∀ d i, P ⟨.lt .sysCause, d, i⟩) (h34 : ∀ d i, P ⟨.bias .ptUnlRun, d, i⟩) (h35 : ∀ d i, P ⟨.bias .ptLockRun, d, i⟩) (h36 : ∀ d i, P ⟨.bias .ptTry, d, i⟩) (h37 : ∀ d i, P ⟨.bias .ptFirst, d, i⟩) (h38 : ∀ d i, P ⟨.bias .nUnlock, d, i⟩) (h39 : ∀ i, P ⟨.sys .freeCount, 0, i⟩) (h40 : ∀ d i, P ⟨.bias .outMv, d, i⟩) (h41 : ∀ d i, P ⟨.bias .ptLocked, d, i⟩) (h42 : ∀ d i, P ⟨.bias .biasLock, d, i⟩) (h43 : ∀ d i, P ⟨.sticky .biasNearRail, d, i⟩) (h44 : ∀ d i, P ⟨.live .biasNearRail, d, i⟩) (h45 : ∀ d i, P ⟨.sticky .biasRail, d, i⟩) (h46 : ∀ d i, P ⟨.live .biasRail, d, i⟩) (h47 : ∀ d i, P ⟨.sticky .biasOutFault, d, i⟩) (h48 : ∀ d i, P ⟨.live .biasOutFault, d, i⟩) (h49 : ∀ d i, P ⟨.sticky .biasUnlock, d, i⟩) (h50 : ∀ d i, P ⟨.live .biasUnlock, d, i⟩) (h51 : ∀ d i, P ⟨.bias .light, d, i⟩) (h52 : ∀ d i, P ⟨.sticky .lrLoLost, d, i⟩) (h53 : ∀ d i, P ⟨.live .lrLoLost, d, i⟩) (h54 : ∀ i, P ⟨.boot .procCode, 0, i⟩) (h55 : ∀ d i, P ⟨.live .lasFault, d, i⟩) (h56 : ∀ d i, P ⟨.las .lowCount, d, i⟩) (h57 : ∀ d i, P ⟨.las .recovering, d, i⟩) (h58 : ∀ d i, P ⟨.las .reason, d, i⟩) (h59 : ∀ d i, P ⟨.las .state, d, i⟩) (h60 : ∀ d i, P ⟨.hl .keep, d, i⟩) (h61 : ∀ d i, P ⟨.hl .state, d, i⟩) (h62 : ∀ d i, P ⟨.hl .idleRun, d, i⟩) (h63 : ∀ d i, P ⟨.hl .relock, d, i⟩) (h64 : ∀ d i, P ⟨.hl .waitSig, d, i⟩) (h65 : ∀ d i, P ⟨.hl .reqResult, d, i⟩) (h66 : ∀ d i, P ⟨.hl .reqSeq, d, i⟩) (h67 : ∀ d i, P ⟨.hl .stepFails, d, i⟩) (h68 : ∀ d i, P ⟨.hl .fellBack, d, i⟩) (h69 : ∀ d i, P ⟨.hl .switched, d, i⟩) (h70 : ∀ d i, P ⟨.hl .preNext, d, i⟩) (h71 : ∀ d i, P ⟨.hl .farCount, d, i⟩) (h72 : ∀ d i, P ⟨.hl .countdown, d, i⟩) (h73 : ∀ d i, P ⟨.hl .farPreCap, d, i⟩) (h74 : ∀ d i, P ⟨.hl .capsRun, d, i⟩) (h75 : ∀ d i, P ⟨.hl .readyLeft, d, i⟩) (h76 : ∀ d i, P ⟨.hl .readyRun, d, i⟩) (h77 : ∀ d i, P ⟨.hl .rxReady, d, i⟩) (h78 : ∀ d i, P ⟨.hl .badRun, d, i⟩) (h79 : ∀ d i, P ⟨.hl .goodRun, d, i⟩) (h80 : ∀ d i, P ⟨.hl .fLock, d, i⟩) (h81 : ∀ d i, P ⟨.sticky .hlpLinkDown, d, i⟩) (h82 : ∀ d i, P ⟨.live .hlpLinkDown, d, i⟩) (h83 : ∀ d i, P ⟨.hl .pGear, d, i⟩) (h84 : ∀ d i, P ⟨.hl .pState, d, i⟩) (h85 : ∀ d i, P ⟨.hl .corrTx, d, i⟩) (h86 : ∀ d i, P ⟨.hl .corrRx, d, i⟩) (h87 : ∀ i, P ⟨.boot .state, 0, i⟩) (h88 : ∀ i, P ⟨.sticky .bootRestarted, 0, i⟩) (h89 : ∀ i, P ⟨.live .bootRestarted, 0, i⟩) (h90 : ∀ i, P ⟨.ao .triesB, 0, i⟩) (h91 : ∀ i, P ⟨.ao .triesA, 0, i⟩) (h92 : ∀ i, P ⟨.tkt .ctrLast, 0, i⟩) (qreports : Q .reports) (qrun : Q .run) :
    ∃ t, execProcReturn s = .next t ∧ Reach P Q s0 t := by
  unfold execProcReturn
  repeat' with_reducible first | assumption | apply finishIf_reach | apply State.set_reach | apply State.recordDone_reach | apply State.recordFail_reach | apply State.startFail_reach | (intros; show P _ = true; first | exact hsum _ rfl | (clear hsum; apply_assumption)) | split | dsimp only | intro _ | apply State.run_reach

end Sys2Proof.Machine
end

