-- ==== Sys2Proof/Laws/MovesTickets.lean ====
section
/-!
SUPPORT. What the operations of Machine/Tickets.lean may change, one lemma each (Laws/Reach.lean).
-/
namespace Sys2Proof.Machine

set_option linter.unusedTactic false
set_option linter.unreachableTactic false

variable {P : Key → Bool} {Q : Part → Bool} {s0 s : State}

theorem State.actShift_reach {args : List Nat} (hs : Reach P Q s0 s) (h1 : ∀ i, P ⟨.der .lastOn, 0, i⟩) (h2 : ∀ i, P ⟨.der .lastReason, 0, i⟩) (h3 : ∀ i, P ⟨.der .lastMsg, 0, i⟩) (h4 : ∀ i, P ⟨.der .txSeq, 0, i⟩) (h5 : ∀ i, P ⟨.der .partner, 0, i⟩) (h6 : ∀ i, P ⟨.der .state, 0, i⟩) (h7 : ∀ i, P ⟨.der .farEpoch, 0, i⟩) (h8 : ∀ i, P ⟨.der .epoch, 0, i⟩) (h9 : ∀ i, P ⟨.der .far, 0, i⟩) (h10 : ∀ i, P ⟨.der .failCarrier, 0, i⟩) (h11 : ∀ i, P ⟨.der .reason, 0, i⟩) (h12 : ∀ i, P ⟨.der .result, 0, i⟩) (h13 : ∀ i, P ⟨.der .role, 0, i⟩) (h14 : ∀ i, P ⟨.der .shiftId, 0, i⟩) (h15 : ∀ i, P ⟨.der .auto, 0, i⟩) (h16 : ∀ i, P ⟨.der .doneSent, 0, i⟩) (h17 : ∀ i, P ⟨.der .farDone, 0, i⟩) (h18 : ∀ i, P ⟨.der .farCommit, 0, i⟩) (h19 : ∀ i, P ⟨.der .armedRx, 0, i⟩) (h20 : ∀ i, P ⟨.der .seen, 0, i⟩) (h21 : ∀ i, P ⟨.der .pelMask, 0, i⟩) (h22 : ∀ i, P ⟨.der .tandemMask, 0, i⟩) (h23 : ∀ i, P ⟨.der .shiftMask, 0, i⟩) (h24 : ∀ d i, P ⟨.der .oldMap, d, i⟩) (h25 : ∀ d i, P ⟨.live .derSplit, d, i⟩) (h26 : ∀ d i, P ⟨.der .returned, d, i⟩) (h27 : ∀ d i, P ⟨.der .onNew, d, i⟩) (h28 : ∀ d i, P ⟨.der .rxEpoch, d, i⟩) (h29 : ∀ d i, P ⟨.der .rxEpochHeld, d, i⟩) (h30 : ∀ d i, P ⟨.der .ready, d, i⟩) (h31 : ∀ d i, P ⟨.der .rxSide, d, i⟩) (h32 : ∀ d i, P ⟨.der .txSide, d, i⟩) (h33 : ∀ d i, P ⟨.der .uReason, d, i⟩) (h34 : ∀ d i, P ⟨.der .uShiftId, d, i⟩) (h35 : ∀ d i, P ⟨.der .uRole, d, i⟩) (h36 : ∀ i, P ⟨.der .initNode, 0, i⟩) (qreports : Q .reports) :
    Reach P Q s0 (State.actShift s args) := by
  unfold State.actShift
  repeat' with_reducible first | assumption | apply State.derPropose_reach | apply State.derAwaitTicket_reach | (intros; show P _ = true; apply_assumption) | split | dsimp only | intro _

theorem State.actProtection_reach {args : List Nat} (hs : Reach P Q s0 s) (h1 : ∀ d i, P ⟨.tdm .req, d, i⟩) (h2 : ∀ d i, P ⟨.tdm .wtr, d, i⟩) (h3 : ∀ d i, P ⟨.sticky .tdmSwitched, d, i⟩) (h4 : ∀ d i, P ⟨.tdm .nSwitch, d, i⟩) (h5 : ∀ d i, P ⟨.tdm .sel, d, i⟩) (h6 : ∀ d i, P ⟨.tdm .loc, d, i⟩) (qreports : Q .reports) :
    Reach P Q s0 (State.actProtection s args) := by
  unfold State.actProtection
  repeat' with_reducible first | assumption | apply State.each_reach | apply State.protect_reach | (intros; show P _ = true; apply_assumption) | split | dsimp only | intro _

theorem State.actEdit_reach {args : List Nat} (hs : Reach P Q s0 s) (h1 : ∀ d i, P ⟨.qs .cDrain, d, i⟩) (h2 : ∀ d i, P ⟨.qs .qDrain, d, i⟩) (h3 : ∀ d i, P ⟨.qs .clsUsed, d, i⟩) (qclsTab : Q .clsTab) :
    Reach P Q s0 (State.actEdit s args) := by
  unfold State.actEdit
  repeat' with_reducible first | assumption | apply State.ctnDrain_reach | apply State.queueDrain_reach | (intros; show P _ = true; apply_assumption) | split | dsimp only | intro _

theorem State.actRekey_reach {args : List Nat} (hs : Reach P Q s0 s) (h1 : ∀ d i, P ⟨.cry .txRetry, d, i⟩) (h2 : ∀ d i, P ⟨.cry .txNext, d, i⟩) (h3 : ∀ d i, P ⟨.cry .txNextSms, d, i⟩) (h4 : ∀ d i, P ⟨.cry .txNextEpoch, d, i⟩) (h5 : ∀ d i, P ⟨.cry .txLast, d, i⟩) (h6 : ∀ d i, P ⟨.cry .txSms, d, i⟩) (h7 : ∀ i, P ⟨.sbg .spSent, 0, i⟩) (h8 : ∀ i, P ⟨.sbg .spSeqTx, 0, i⟩) (h9 : ∀ i, P ⟨.sbg .spTxType, 0, i⟩) (h10 : ∀ d i, P ⟨.cry .flitFailed, d, i⟩) (h11 : ∀ i, P ⟨.sticky .sbgCryptoHoldAny, 0, i⟩) (h12 : ∀ i, P ⟨.live .sbgCryptoHoldAny, 0, i⟩) (h13 : ∀ d i, P ⟨.sticky .cryCryptoHold, d, i⟩) (h14 : ∀ d i, P ⟨.live .cryCryptoHold, d, i⟩) (h15 : ∀ d i, P ⟨.cry .txState, d, i⟩) (h16 : ∀ i, P ⟨.sbg .spansUp, 0, i⟩) (h17 : ∀ i, P ⟨.win .sbgSpan, 0, i⟩) (h18 : ∀ i, P ⟨.sbg .spStep, 0, i⟩) (h19 : ∀ i, P ⟨.sbg .drbgCount, 0, i⟩) (h20 : ∀ i, P ⟨.sbg .nDrbgReseed, 0, i⟩) (h21 : ∀ i, P ⟨.sbg .nHsFail, 0, i⟩) (h22 : ∀ i, P ⟨.boot .procCalled, 0, i⟩) (h23 : ∀ i, P ⟨.boot .procCode, 0, i⟩) (h24 : ∀ i, P ⟨.boot .procDone, 0, i⟩) (h25 : ∀ i, P ⟨.sbg .kaSpan, 0, i⟩) (h26 : ∀ i, P ⟨.sbg .spRetry, 0, i⟩) (h27 : ∀ i, P ⟨.sbg .spRekey, 0, i⟩) (qreports : Q .reports) :
    Reach P Q s0 (State.actRekey s args) := by
  unfold State.actRekey
  repeat' with_reducible first | assumption | apply State.when_reach | apply State.each_reach | apply State.rekeyStart_reach | apply State.hsStart_reach | apply State.set_reach | (intros; show P _ = true; apply_assumption) | split | dsimp only | intro _

theorem State.actKickstand_reach {args : List Nat} (hs : Reach P Q s0 s) (h1 : ∀ i, P ⟨.pwr .pkgWakeEn, 0, i⟩) (h2 : ∀ i, P ⟨.pwr .pkgMove, 0, i⟩) (h3 : ∀ d i, P ⟨.pwr .stage, d, i⟩) (h4 : ∀ d i, P ⟨.sticky .hlpLinkDown, d, i⟩) (h5 : ∀ d i, P ⟨.live .hlpLinkDown, d, i⟩) (h6 : ∀ d i, P ⟨.hl .pGear, d, i⟩) (h7 : ∀ d i, P ⟨.hl .pState, d, i⟩) (h8 : ∀ i, P ⟨.boot .procCalled, 0, i⟩) (h9 : ∀ i, P ⟨.boot .procCode, 0, i⟩) (h10 : ∀ i, P ⟨.boot .procDone, 0, i⟩) (h11 : ∀ d i, P ⟨.hl .corrTx, d, i⟩) (h12 : ∀ d i, P ⟨.hl .corrRx, d, i⟩) (h13 : ∀ d i, P ⟨.hl .idleReq, d, i⟩) (h14 : ∀ d i, P ⟨.hl .keep, d, i⟩) (h15 : ∀ d i, P ⟨.hl .state, d, i⟩) (h16 : ∀ d i, P ⟨.hl .idleRun, d, i⟩) (h17 : ∀ d i, P ⟨.hl .relock, d, i⟩) (h18 : ∀ d i, P ⟨.hl .waitSig, d, i⟩) (h19 : ∀ d i, P ⟨.hl .reqResult, d, i⟩) (h20 : ∀ d i, P ⟨.hl .reqSeq, d, i⟩) (h21 : ∀ d i, P ⟨.hl .stepFails, d, i⟩) (h22 : ∀ d i, P ⟨.hl .fellBack, d, i⟩) (h23 : ∀ d i, P ⟨.hl .switched, d, i⟩) (h24 : ∀ d i, P ⟨.hl .preNext, d, i⟩) (h25 : ∀ d i, P ⟨.hl .farCount, d, i⟩) (h26 : ∀ d i, P ⟨.hl .countdown, d, i⟩) (h27 : ∀ d i, P ⟨.hl .farPreCap, d, i⟩) (h28 : ∀ d i, P ⟨.hl .capsRun, d, i⟩) (h29 : ∀ d i, P ⟨.hl .readyLeft, d, i⟩) (h30 : ∀ d i, P ⟨.hl .readyRun, d, i⟩) (h31 : ∀ d i, P ⟨.hl .rxReady, d, i⟩) (h32 : ∀ d i, P ⟨.hl .badRun, d, i⟩) (h33 : ∀ d i, P ⟨.hl .goodRun, d, i⟩) (h34 : ∀ d i, P ⟨.hl .fLock, d, i⟩) (h35 : ∀ d i, P ⟨.pwr .lateWake, d, i⟩) (h36 : ∀ d i, P ⟨.pwr .wakeGroup, d, i⟩) (h37 : ∀ d i, P ⟨.pwr .wakeDelay, d, i⟩) (h38 : ∀ d i, P ⟨.pwr .wakeEn, d, i⟩) (qreports : Q .reports) :
    Reach P Q s0 (State.actKickstand s args) := by
  unfold State.actKickstand
  repeat' with_reducible first | assumption | apply State.ksEnterPkg_reach | apply State.ksEnter_reach | (intros; show P _ = true; apply_assumption) | split | dsimp only | intro _

theorem State.actClearSec_reach {args : List Nat} (hs : Reach P Q s0 s) (h1 : ∀ a d i, P ⟨Cell.sticky a, d, i⟩) :
    Reach P Q s0 (State.actClearSec s args) := by
  unfold State.actClearSec
  repeat' with_reducible first | assumption | apply State.clearSticky_reach | (intros; show P _ = true; apply_assumption) | split | dsimp only | intro _

theorem State.actBlow_reach {args : List Nat} (hs : Reach P Q s0 s) (h1 : ∀ d i, P ⟨.pan .fuse, d, i⟩) :
    Reach P Q s0 (State.actBlow s args) := by
  unfold State.actBlow
  repeat' with_reducible first | assumption | apply State.blowFuse_reach | (intros; show P _ = true; apply_assumption) | split | dsimp only | intro _

theorem State.eraseEnd_reach (hs : Reach P Q s0 s) (h1 : ∀ i, P ⟨.tkt .nJournalErase, 0, i⟩) (h2 : ∀ i, P ⟨.tkt .jBlank, 0, i⟩) (h3 : ∀ i, P ⟨.tkt .jErasing, 0, i⟩) :
    Reach P Q s0 (State.eraseEnd s) := by
  unfold State.eraseEnd
  repeat' with_reducible first | assumption | apply State.inc_reach | apply State.set_reach | (intros; show P _ = true; apply_assumption) | split | dsimp only | intro _

theorem State.actRelease_reach (hs : Reach P Q s0 s) (h1 : ∀ i, P ⟨.ao .flashReleased, 0, i⟩) (h2 : ∀ i, P ⟨.tkt .nJournalErase, 0, i⟩) (h3 : ∀ i, P ⟨.tkt .jBlank, 0, i⟩) (h4 : ∀ i, P ⟨.tkt .jErasing, 0, i⟩) :
    Reach P Q s0 (State.actRelease s) := by
  unfold State.actRelease
  repeat' with_reducible first | assumption | apply State.set_reach | apply State.when_reach | apply State.eraseEnd_reach | (intros; show P _ = true; apply_assumption) | split | dsimp only | intro _

theorem State.actReclaim_reach (hs : Reach P Q s0 s) (h1 : ∀ i, P ⟨.ao .flashReleased, 0, i⟩) (h2 : ∀ i, P ⟨.tkt .jErasing, 0, i⟩) (h3 : ∀ i, P ⟨.tkt .jEraseWait, 0, i⟩) :
    Reach P Q s0 (State.actReclaim s) := by
  unfold State.actReclaim
  repeat' with_reducible first | assumption | apply State.set_reach | apply State.when_reach | (intros; show P _ = true; apply_assumption) | split | dsimp only | intro _

theorem State.actSvn_reach (hs : Reach P Q s0 s) (h1 : ∀ i, P ⟨.boot .fuseSvn, 0, i⟩) (h2 : ∀ i, P ⟨.sys .fuseSvn, 0, i⟩) :
    Reach P Q s0 (State.actSvn s) := by
  unfold State.actSvn
  repeat' with_reducible first | assumption | apply State.set_reach | (intros; show P _ = true; apply_assumption) | split | dsimp only | intro _

theorem State.act_reach {cmd : Nat} {args : List Nat} (hs : Reach P Q s0 s) (h1 : ∀ k, P k) (qreports : Q .reports) (qclsTab : Q .clsTab) (qcands : Q .cands) (qmbox : Q .mbox) (qheld : Q .held) (qtickets : Q .tickets) (qrun : Q .run) (qpolicy : Q .policy) (qimgPolicy : Q .imgPolicy) (qtrust : Q .trust) (qtelOut : Q .telOut) (qstaged : Q .staged) (qrings : Q .rings) (qtracker : Q .tracker) (qretireQ : Q .retireQ) (qmerge : Q .merge) (qdescs : Q .descs) (qkch : Q .kch) (qfups : Q .fups) :
    Reach P Q s0 (State.act s cmd args) := by
  unfold State.act
  repeat' with_reducible first | assumption | apply State.actShift_reach | apply State.actProtection_reach | apply State.actEdit_reach | apply State.actRekey_reach | apply State.actKickstand_reach | apply State.ksLeave_reach | apply State.actClearSec_reach | apply State.actBlow_reach | apply State.restartTicket_reach | apply State.actRelease_reach | apply State.actReclaim_reach | apply State.actSvn_reach | (intros; show P _ = true; apply_assumption) | split | dsimp only | intro _

theorem State.ticketDone_reach {code : Nat} {record : Nat} {counter : Nat} (hs : Reach P Q s0 s) (h1 : ∀ i, P ⟨.tkt .nAccepted, 0, i⟩) (h2 : ∀ i, P ⟨.tkt .nRejected, 0, i⟩) (h3 : ∀ i, P ⟨.tkt .lastRecord, 0, i⟩) (h4 : ∀ i, P ⟨.tkt .lastCode, 0, i⟩) (h5 : ∀ i, P ⟨.tkt .hashFail, 0, i⟩) (h6 : ∀ i, P ⟨.tkt .fetched, 0, i⟩) (h7 : ∀ i, P ⟨.tkt .mboxBusy, 0, i⟩) (h8 : ∀ i, P ⟨.tkt .ringHead, 0, i⟩) (h9 : ∀ i, P ⟨.tkt .ringPost, 0, i⟩) (qtickets : Q .tickets) (qrun : Q .run) :
    Reach P Q s0 (State.ticketDone s code record counter) := by
  unfold State.ticketDone
  have hx : Reach P Q s0 (((((s.set (.tkt .lastCode) 0 0 code).set (.tkt .lastRecord) 0 0 record).inc
      (.tkt (if code = stAccepted then .nAccepted else .nRejected)) 0 0).set (.tkt .fetched) 0 0 0).set
      (.tkt .hashFail) 0 0 0) := by
    repeat' with_reducible first | assumption | apply State.set_reach | apply State.inc_reach | (intros; first | exact h1 _ | exact h2 _ | exact h3 _ | exact h4 _ | exact h5 _ | exact h6 _) | split
  have hd := State.run_reach (l := none) (State.tickets_reach (l := s.tickets.tail) hx qtickets) qrun
  dsimp only
  split
  · exact State.set_reach hd (h7 _)
  · exact State.set_reach (State.set_reach hd (h9 _)) (h8 _)
  · exact hd

theorem State.runRecords_reach {cmd : Nat} {args : List Nat} {x3 : Nat} {x4 : List Sys2Proof.Rec} (hs : Reach P Q s0 s) (h1 : ∀ k, P k) (qreports : Q .reports) (qclsTab : Q .clsTab) (qcands : Q .cands) (qmbox : Q .mbox) (qheld : Q .held) (qtickets : Q .tickets) (qrun : Q .run) (qpolicy : Q .policy) (qimgPolicy : Q .imgPolicy) (qtrust : Q .trust) (qtelOut : Q .telOut) (qstaged : Q .staged) (qrings : Q .rings) (qtracker : Q .tracker) (qretireQ : Q .retireQ) (qmerge : Q .merge) (qdescs : Q .descs) (qkch : Q .kch) (qfups : Q .fups) :
    Reach P Q s0 (State.runRecords s cmd args x3 x4) := by
  induction x4 generalizing s x3 with
  | nil =>
    unfold State.runRecords
    repeat' with_reducible first | assumption | apply State.act_reach | apply State.ticketDone_reach | apply State.recRead_reach | apply State.runRecords_reach | apply State.procCall_reach | apply State.applyWrite_reach | apply foldl_reach | (intros; show P _ = true; apply_assumption) | split | dsimp only | intro _ | apply State.run_reach
  | cons r rest ih =>
    unfold State.runRecords
    repeat' with_reducible first | assumption | apply ih | apply State.act_reach | apply State.ticketDone_reach | apply State.recRead_reach | apply State.runRecords_reach | apply State.procCall_reach | apply State.applyWrite_reach | apply foldl_reach | (intros; show P _ = true; apply_assumption) | split | dsimp only | intro _ | apply State.run_reach

theorem State.runOn_reach {r : Run} (hs : Reach P Q s0 s) (h1 : ∀ k, P k) (qrun : Q .run) (qreports : Q .reports) (qclsTab : Q .clsTab) (qcands : Q .cands) (qmbox : Q .mbox) (qheld : Q .held) (qtickets : Q .tickets) (qpolicy : Q .policy) (qimgPolicy : Q .imgPolicy) (qtrust : Q .trust) (qtelOut : Q .telOut) (qstaged : Q .staged) (qrings : Q .rings) (qtracker : Q .tracker) (qretireQ : Q .retireQ) (qmerge : Q .merge) (qdescs : Q .descs) (qkch : Q .kch) (qfups : Q .fups) :
    Reach P Q s0 (State.runOn s r) := by
  unfold State.runOn
  repeat' with_reducible first | assumption | apply State.runRecords_reach | apply State.recordDone_reach | (intros; show P _ = true; apply_assumption) | split | dsimp only | intro _ | apply State.run_reach

theorem execPollUntilMatch_reach (hs : Reach P Q s0 s) (h1 : ∀ k, P k) (qreports : Q .reports) (qrun : Q .run) (qclsTab : Q .clsTab) (qcands : Q .cands) (qmbox : Q .mbox) (qheld : Q .held) (qtickets : Q .tickets) (qpolicy : Q .policy) (qimgPolicy : Q .imgPolicy) (qtrust : Q .trust) (qtelOut : Q .telOut) (qstaged : Q .staged) (qrings : Q .rings) (qtracker : Q .tracker) (qretireQ : Q .retireQ) (qmerge : Q .merge) (qdescs : Q .descs) (qkch : Q .kch) (qfups : Q .fups) :
    ∃ t, execPollUntilMatch s = .next t ∧ Reach P Q s0 t := by
  unfold execPollUntilMatch
  split
  · refine finishIf_reach hs (fun k _ => h1 k) qreports fun x hx => ?_
    apply State.runOn_reach <;> first | assumption | skip
    apply State.recRead_reach hx <;> first | assumption | (intros; exact h1 _)
  · exact ⟨_, rfl, hs⟩

theorem State.journalWrite_reach {counter : Nat} (hs : Reach P Q s0 s) (h1 : ∀ i, P ⟨.tkt .nJournalWr, 0, i⟩) (h2 : ∀ i, P ⟨.tkt .jPos, 0, i⟩) (h3 : ∀ i, P ⟨.tkt .jSeq, 0, i⟩) (h4 : ∀ i, P ⟨.tkt .ceiling, 0, i⟩) (h5 : ∀ i, P ⟨.tkt .jEraseWait, 0, i⟩) (h6 : ∀ i, P ⟨.tkt .jErasing, 0, i⟩) (h7 : ∀ i, P ⟨.tkt .jBlank, 0, i⟩) :
    Reach P Q s0 (State.journalWrite s counter) := by
  unfold State.journalWrite
  repeat' with_reducible first | assumption | apply State.inc_reach | apply State.set_reach | apply State.when_reach | apply State.journalErase_reach | (intros; show P _ = true; apply_assumption) | split | dsimp only | intro _

theorem State.failedTicket_reach {t1 : TktIn} {ownerOk : Bool} (hs : Reach P Q s0 s) (h1 : ∀ k, P k) (qtickets : Q .tickets) (qrun : Q .run) (qmbox : Q .mbox) (qreports : Q .reports) (qheld : Q .held) (qpolicy : Q .policy) (qimgPolicy : Q .imgPolicy) (qtrust : Q .trust) (qcands : Q .cands) (qtelOut : Q .telOut) (qclsTab : Q .clsTab) (qstaged : Q .staged) (qrings : Q .rings) (qtracker : Q .tracker) (qretireQ : Q .retireQ) (qmerge : Q .merge) (qdescs : Q .descs) (qkch : Q .kch) (qfups : Q .fups) :
    Reach P Q s0 (State.failedTicket s t1 ownerOk) := by
  unfold State.failedTicket
  repeat' with_reducible first | assumption | apply State.ticketDone_reach | apply State.set_reach | apply State.journalWrite_reach | apply State.restartTicket_reach | (intros; show P _ = true; apply_assumption) | split | dsimp only | intro _

theorem State.checkTicket_reach {t1 : TktIn} {l : List Sys2Proof.Rec} (hs : Reach P Q s0 s) (h1 : ∀ k, P k) (qtickets : Q .tickets) (qrun : Q .run) (qreports : Q .reports) (qclsTab : Q .clsTab) (qcands : Q .cands) (qmbox : Q .mbox) (qheld : Q .held) (qpolicy : Q .policy) (qimgPolicy : Q .imgPolicy) (qtrust : Q .trust) (qtelOut : Q .telOut) (qstaged : Q .staged) (qrings : Q .rings) (qtracker : Q .tracker) (qretireQ : Q .retireQ) (qmerge : Q .merge) (qdescs : Q .descs) (qkch : Q .kch) (qfups : Q .fups) :
    Reach P Q s0 (State.checkTicket s t1 l) := by
  unfold State.checkTicket
  repeat' with_reducible first | assumption | apply State.ticketDone_reach | apply State.set_reach | apply State.journalWrite_reach | apply State.runRecords_reach | (intros; show P _ = true; apply_assumption) | split | dsimp only | intro _

theorem State.ticket_reach {t1 : Sys2Proof.Tkt} {mine : Nat → List Nat → Bool} (hs : Reach P Q s0 s) (h1 : ∀ k, P k) (qtickets : Q .tickets) (qrun : Q .run) (qmbox : Q .mbox) (qreports : Q .reports) (qheld : Q .held) (qpolicy : Q .policy) (qimgPolicy : Q .imgPolicy) (qtrust : Q .trust) (qcands : Q .cands) (qtelOut : Q .telOut) (qclsTab : Q .clsTab) (qstaged : Q .staged) (qrings : Q .rings) (qtracker : Q .tracker) (qretireQ : Q .retireQ) (qmerge : Q .merge) (qdescs : Q .descs) (qkch : Q .kch) (qfups : Q .fups) :
    Reach P Q s0 (State.ticket s t1 mine) := by
  unfold State.ticket
  repeat' with_reducible first | assumption | apply State.failedTicket_reach | apply State.ticketDone_reach | apply State.checkTicket_reach | (intros; show P _ = true; apply_assumption) | split | dsimp only | intro _

theorem execProtectionMsP_reach {t1 : Sys2Proof.Tkt} (hs : Reach P Q s0 s) (h1 : ∀ k, P k) (qreports : Q .reports) (qtickets : Q .tickets) (qrun : Q .run) (qmbox : Q .mbox) (qheld : Q .held) (qpolicy : Q .policy) (qimgPolicy : Q .imgPolicy) (qtrust : Q .trust) (qcands : Q .cands) (qtelOut : Q .telOut) (qclsTab : Q .clsTab) (qstaged : Q .staged) (qrings : Q .rings) (qtracker : Q .tracker) (qretireQ : Q .retireQ) (qmerge : Q .merge) (qdescs : Q .descs) (qkch : Q .kch) (qfups : Q .fups) :
    ∃ t, execProtectionMsP t1 s = .next t ∧ Reach P Q s0 t := by
  unfold execProtectionMsP
  repeat' with_reducible first | assumption | apply finishIf_reach | apply State.ticket_reach | (intros; show P _ = true; first | exact h1 _ | apply_assumption) | split | dsimp only | intro _

theorem execFlashRelease_reach {t1 : Sys2Proof.Tkt} (hs : Reach P Q s0 s) (h1 : ∀ k, P k) (qreports : Q .reports) (qtickets : Q .tickets) (qrun : Q .run) (qmbox : Q .mbox) (qheld : Q .held) (qpolicy : Q .policy) (qimgPolicy : Q .imgPolicy) (qtrust : Q .trust) (qcands : Q .cands) (qtelOut : Q .telOut) (qclsTab : Q .clsTab) (qstaged : Q .staged) (qrings : Q .rings) (qtracker : Q .tracker) (qretireQ : Q .retireQ) (qmerge : Q .merge) (qdescs : Q .descs) (qkch : Q .kch) (qfups : Q .fups) :
    ∃ t, execFlashRelease t1 s = .next t ∧ Reach P Q s0 t := by
  unfold execFlashRelease
  repeat' with_reducible first | assumption | apply finishIf_reach | apply State.ticket_reach | (intros; show P _ = true; first | exact h1 _ | apply_assumption) | split | dsimp only | intro _

theorem execKickstandEnterPackage_reach {t1 : Sys2Proof.Tkt} (hs : Reach P Q s0 s) (h1 : ∀ k, P k) (qreports : Q .reports) (qtickets : Q .tickets) (qrun : Q .run) (qmbox : Q .mbox) (qheld : Q .held) (qpolicy : Q .policy) (qimgPolicy : Q .imgPolicy) (qtrust : Q .trust) (qcands : Q .cands) (qtelOut : Q .telOut) (qclsTab : Q .clsTab) (qstaged : Q .staged) (qrings : Q .rings) (qtracker : Q .tracker) (qretireQ : Q .retireQ) (qmerge : Q .merge) (qdescs : Q .descs) (qkch : Q .kch) (qfups : Q .fups) :
    ∃ t, execKickstandEnterPackage t1 s = .next t ∧ Reach P Q s0 t := by
  unfold execKickstandEnterPackage
  repeat' with_reducible first | assumption | apply finishIf_reach | apply State.ticket_reach | (intros; show P _ = true; first | exact h1 _ | apply_assumption) | split | dsimp only | intro _

theorem execQueueChange_reach {t1 : Sys2Proof.Tkt} (hs : Reach P Q s0 s) (h1 : ∀ k, P k) (qreports : Q .reports) (qtickets : Q .tickets) (qrun : Q .run) (qmbox : Q .mbox) (qheld : Q .held) (qpolicy : Q .policy) (qimgPolicy : Q .imgPolicy) (qtrust : Q .trust) (qcands : Q .cands) (qtelOut : Q .telOut) (qclsTab : Q .clsTab) (qstaged : Q .staged) (qrings : Q .rings) (qtracker : Q .tracker) (qretireQ : Q .retireQ) (qmerge : Q .merge) (qdescs : Q .descs) (qkch : Q .kch) (qfups : Q .fups) :
    ∃ t, execQueueChange t1 s = .next t ∧ Reach P Q s0 t := by
  unfold execQueueChange
  repeat' with_reducible first | assumption | apply finishIf_reach | apply State.ticket_reach | (intros; show P _ = true; first | exact h1 _ | apply_assumption) | split | dsimp only | intro _

theorem State.goWrite_reach {value : Nat} (hs : Reach P Q s0 s) (h1 : ∀ i, P ⟨.tkt .nHostWrRej, 0, i⟩) (h2 : ∀ i, P ⟨.tkt .hostWrRejAddr, 0, i⟩) (h3 : ∀ i, P ⟨.tkt .rejHeld, 0, i⟩) (h4 : ∀ i, P ⟨.tkt .mboxLen, 0, i⟩) (h5 : ∀ i, P ⟨.tkt .mboxBusy, 0, i⟩) (h6 : ∀ i, P ⟨.tkt .nRejected, 0, i⟩) (h7 : ∀ i, P ⟨.tkt .lastRecord, 0, i⟩) (h8 : ∀ i, P ⟨.tkt .lastCode, 0, i⟩) (qtickets : Q .tickets) :
    Reach P Q s0 (State.goWrite s value) := by
  unfold State.goWrite
  repeat' with_reducible first | assumption | apply State.rejectWrite_reach | apply State.set_reach | apply State.inc_reach | (intros; show P _ = true; apply_assumption) | split | dsimp only | intro _ | apply State.tickets_reach

theorem State.tailWrite_reach {value : Nat} (hs : Reach P Q s0 s) (h1 : ∀ i, P ⟨.tkt .nRingBad, 0, i⟩) (h2 : ∀ i, P ⟨.tkt .ringTail, 0, i⟩) (qtickets : Q .tickets) :
    Reach P Q s0 (State.tailWrite s value) := by
  unfold State.tailWrite
  repeat' with_reducible first | assumption | apply State.inc_reach | apply State.set_reach | (intros; show P _ = true; apply_assumption) | split | dsimp only | intro _ | apply State.tickets_reach

theorem execProtectionLo_reach {t1 : Sys2Proof.Tkt} (hs : Reach P Q s0 s) (h1 : ∀ k, P k) (qreports : Q .reports) (qtickets : Q .tickets) (qrun : Q .run) (qmbox : Q .mbox) (qheld : Q .held) (qpolicy : Q .policy) (qimgPolicy : Q .imgPolicy) (qtrust : Q .trust) (qcands : Q .cands) (qtelOut : Q .telOut) (qclsTab : Q .clsTab) (qstaged : Q .staged) (qrings : Q .rings) (qtracker : Q .tracker) (qretireQ : Q .retireQ) (qmerge : Q .merge) (qdescs : Q .descs) (qkch : Q .kch) (qfups : Q .fups) :
    ∃ t, execProtectionLo t1 s = .next t ∧ Reach P Q s0 t := by
  unfold execProtectionLo
  repeat' with_reducible first | assumption | apply finishIf_reach | apply State.ticket_reach | (intros; show P _ = true; first | exact h1 _ | apply_assumption) | split | dsimp only | intro _

theorem execQueueAdd_reach {t1 : Sys2Proof.Tkt} (hs : Reach P Q s0 s) (h1 : ∀ k, P k) (qreports : Q .reports) (qtickets : Q .tickets) (qrun : Q .run) (qmbox : Q .mbox) (qheld : Q .held) (qpolicy : Q .policy) (qimgPolicy : Q .imgPolicy) (qtrust : Q .trust) (qcands : Q .cands) (qtelOut : Q .telOut) (qclsTab : Q .clsTab) (qstaged : Q .staged) (qrings : Q .rings) (qtracker : Q .tracker) (qretireQ : Q .retireQ) (qmerge : Q .merge) (qdescs : Q .descs) (qkch : Q .kch) (qfups : Q .fups) :
    ∃ t, execQueueAdd t1 s = .next t ∧ Reach P Q s0 t := by
  unfold execQueueAdd
  repeat' with_reducible first | assumption | apply finishIf_reach | apply State.ticket_reach | (intros; show P _ = true; first | exact h1 _ | apply_assumption) | split | dsimp only | intro _

theorem execFlashReclaim_reach {t1 : Sys2Proof.Tkt} (hs : Reach P Q s0 s) (h1 : ∀ k, P k) (qreports : Q .reports) (qtickets : Q .tickets) (qrun : Q .run) (qmbox : Q .mbox) (qheld : Q .held) (qpolicy : Q .policy) (qimgPolicy : Q .imgPolicy) (qtrust : Q .trust) (qcands : Q .cands) (qtelOut : Q .telOut) (qclsTab : Q .clsTab) (qstaged : Q .staged) (qrings : Q .rings) (qtracker : Q .tracker) (qretireQ : Q .retireQ) (qmerge : Q .merge) (qdescs : Q .descs) (qkch : Q .kch) (qfups : Q .fups) :
    ∃ t, execFlashReclaim t1 s = .next t ∧ Reach P Q s0 t := by
  unfold execFlashReclaim
  repeat' with_reducible first | assumption | apply finishIf_reach | apply State.ticket_reach | (intros; show P _ = true; first | exact h1 _ | apply_assumption) | split | dsimp only | intro _

theorem State.runLate_reach {r : Run} {addr : Nat} (hs : Reach P Q s0 s) (h1 : ∀ i, P ⟨.tkt .nAccepted, 0, i⟩) (h2 : ∀ i, P ⟨.tkt .nRejected, 0, i⟩) (h3 : ∀ i, P ⟨.tkt .lastRecord, 0, i⟩) (h4 : ∀ i, P ⟨.tkt .lastCode, 0, i⟩) (h5 : ∀ i, P ⟨.tkt .hashFail, 0, i⟩) (h6 : ∀ i, P ⟨.tkt .fetched, 0, i⟩) (h7 : ∀ i, P ⟨.tkt .mboxBusy, 0, i⟩) (h8 : ∀ i, P ⟨.tkt .ringHead, 0, i⟩) (h9 : ∀ i, P ⟨.tkt .ringPost, 0, i⟩) (h10 : ∀ i, P ⟨.boot .errAddr, 0, i⟩) (h11 : ∀ i, P ⟨.boot .errDie, 0, i⟩) (h12 : ∀ i, P ⟨.boot .detail, 0, i⟩) (h13 : ∀ i, P ⟨.boot .errCode, 0, i⟩) (h14 : ∀ i, P ⟨.boot .phaseRun, 0, i⟩) (h15 : ∀ i, P ⟨.boot .phaseMs, 0, i⟩) (h16 : ∀ i, P ⟨.boot .procCalled, 0, i⟩) (h17 : ∀ d i, P ⟨.lt .muteCause, d, i⟩) (h18 : ∀ d i, P ⟨.lt .ramp, d, i⟩) (h19 : ∀ d i, P ⟨.lt .txState, d, i⟩) (h20 : ∀ d i, P ⟨.lt .otherCause, d, i⟩) (h21 : ∀ d i, P ⟨.bias .ptState, d, i⟩) (h22 : ∀ d i, P ⟨.bias .ptAcq, d, i⟩) (h23 : ∀ d i, P ⟨.bias .ptV, d, i⟩) (h24 : ∀ d i, P ⟨.bias .ptBase, d, i⟩) (h25 : ∀ d i, P ⟨.lt .nMuteEnter, d, i⟩) (h26 : ∀ d i, P ⟨.lt .begun4, d, i⟩) (h27 : ∀ d i, P ⟨.sticky .ltTxDown, d, i⟩) (h28 : ∀ d i, P ⟨.live .ltTxDown, d, i⟩) (h29 : ∀ d i, P ⟨.lt .sysCause, d, i⟩) (h30 : ∀ d i, P ⟨.bias .ptUnlRun, d, i⟩) (h31 : ∀ d i, P ⟨.bias .ptLockRun, d, i⟩) (h32 : ∀ d i, P ⟨.bias .ptTry, d, i⟩) (h33 : ∀ d i, P ⟨.bias .ptFirst, d, i⟩) (h34 : ∀ d i, P ⟨.bias .nUnlock, d, i⟩) (h35 : ∀ i, P ⟨.sys .freeCount, 0, i⟩) (h36 : ∀ d i, P ⟨.bias .outMv, d, i⟩) (h37 : ∀ d i, P ⟨.bias .ptLocked, d, i⟩) (h38 : ∀ d i, P ⟨.bias .biasLock, d, i⟩) (h39 : ∀ d i, P ⟨.sticky .biasNearRail, d, i⟩) (h40 : ∀ d i, P ⟨.live .biasNearRail, d, i⟩) (h41 : ∀ d i, P ⟨.sticky .biasRail, d, i⟩) (h42 : ∀ d i, P ⟨.live .biasRail, d, i⟩) (h43 : ∀ d i, P ⟨.sticky .biasOutFault, d, i⟩) (h44 : ∀ d i, P ⟨.live .biasOutFault, d, i⟩) (h45 : ∀ d i, P ⟨.sticky .biasUnlock, d, i⟩) (h46 : ∀ d i, P ⟨.live .biasUnlock, d, i⟩) (h47 : ∀ d i, P ⟨.bias .light, d, i⟩) (h48 : ∀ d i, P ⟨.sticky .lrLoLost, d, i⟩) (h49 : ∀ d i, P ⟨.live .lrLoLost, d, i⟩) (h50 : ∀ i, P ⟨.boot .procCode, 0, i⟩) (h51 : ∀ i, P ⟨.boot .procDone, 0, i⟩) (h52 : ∀ d i, P ⟨.live .lasFault, d, i⟩) (h53 : ∀ d i, P ⟨.las .lowCount, d, i⟩) (h54 : ∀ d i, P ⟨.las .recovering, d, i⟩) (h55 : ∀ d i, P ⟨.las .reason, d, i⟩) (h56 : ∀ d i, P ⟨.las .state, d, i⟩) (h57 : ∀ d i, P ⟨.hl .keep, d, i⟩) (h58 : ∀ d i, P ⟨.hl .state, d, i⟩) (h59 : ∀ d i, P ⟨.hl .idleRun, d, i⟩) (h60 : ∀ d i, P ⟨.hl .relock, d, i⟩) (h61 : ∀ d i, P ⟨.hl .waitSig, d, i⟩) (h62 : ∀ d i, P ⟨.hl .reqResult, d, i⟩) (h63 : ∀ d i, P ⟨.hl .reqSeq, d, i⟩) (h64 : ∀ d i, P ⟨.hl .stepFails, d, i⟩) (h65 : ∀ d i, P ⟨.hl .fellBack, d, i⟩) (h66 : ∀ d i, P ⟨.hl .switched, d, i⟩) (h67 : ∀ d i, P ⟨.hl .preNext, d, i⟩) (h68 : ∀ d i, P ⟨.hl .farCount, d, i⟩) (h69 : ∀ d i, P ⟨.hl .countdown, d, i⟩) (h70 : ∀ d i, P ⟨.hl .farPreCap, d, i⟩) (h71 : ∀ d i, P ⟨.hl .capsRun, d, i⟩) (h72 : ∀ d i, P ⟨.hl .readyLeft, d, i⟩) (h73 : ∀ d i, P ⟨.hl .readyRun, d, i⟩) (h74 : ∀ d i, P ⟨.hl .rxReady, d, i⟩) (h75 : ∀ d i, P ⟨.hl .badRun, d, i⟩) (h76 : ∀ d i, P ⟨.hl .goodRun, d, i⟩) (h77 : ∀ d i, P ⟨.hl .fLock, d, i⟩) (h78 : ∀ d i, P ⟨.sticky .hlpLinkDown, d, i⟩) (h79 : ∀ d i, P ⟨.live .hlpLinkDown, d, i⟩) (h80 : ∀ d i, P ⟨.hl .pGear, d, i⟩) (h81 : ∀ d i, P ⟨.hl .pState, d, i⟩) (h82 : ∀ d i, P ⟨.hl .corrTx, d, i⟩) (h83 : ∀ d i, P ⟨.hl .corrRx, d, i⟩) (h84 : ∀ i, P ⟨.boot .state, 0, i⟩) (h85 : ∀ i, P ⟨.sticky .bootRestarted, 0, i⟩) (h86 : ∀ i, P ⟨.live .bootRestarted, 0, i⟩) (h87 : ∀ i, P ⟨.ao .triesB, 0, i⟩) (h88 : ∀ i, P ⟨.ao .triesA, 0, i⟩) (h89 : ∀ i, P ⟨.tkt .ctrLast, 0, i⟩) (qtickets : Q .tickets) (qrun : Q .run) (qreports : Q .reports) :
    Reach P Q s0 (State.runLate s r addr) := by
  unfold State.runLate
  repeat' with_reducible first | assumption | apply State.ticketDone_reach | apply State.recordFail_reach | (intros; show P _ = true; apply_assumption) | split | dsimp only | intro _

theorem execContainerAdd_reach {t1 : Sys2Proof.Tkt} (hs : Reach P Q s0 s) (h1 : ∀ k, P k) (qreports : Q .reports) (qtickets : Q .tickets) (qrun : Q .run) (qmbox : Q .mbox) (qheld : Q .held) (qpolicy : Q .policy) (qimgPolicy : Q .imgPolicy) (qtrust : Q .trust) (qcands : Q .cands) (qtelOut : Q .telOut) (qclsTab : Q .clsTab) (qstaged : Q .staged) (qrings : Q .rings) (qtracker : Q .tracker) (qretireQ : Q .retireQ) (qmerge : Q .merge) (qdescs : Q .descs) (qkch : Q .kch) (qfups : Q .fups) :
    ∃ t, execContainerAdd t1 s = .next t ∧ Reach P Q s0 t := by
  unfold execContainerAdd
  repeat' with_reducible first | assumption | apply finishIf_reach | apply State.ticket_reach | (intros; show P _ = true; first | exact h1 _ | apply_assumption) | split | dsimp only | intro _

theorem execBlowRepairColumn_reach {t1 : Sys2Proof.Tkt} (hs : Reach P Q s0 s) (h1 : ∀ k, P k) (qreports : Q .reports) (qtickets : Q .tickets) (qrun : Q .run) (qmbox : Q .mbox) (qheld : Q .held) (qpolicy : Q .policy) (qimgPolicy : Q .imgPolicy) (qtrust : Q .trust) (qcands : Q .cands) (qtelOut : Q .telOut) (qclsTab : Q .clsTab) (qstaged : Q .staged) (qrings : Q .rings) (qtracker : Q .tracker) (qretireQ : Q .retireQ) (qmerge : Q .merge) (qdescs : Q .descs) (qkch : Q .kch) (qfups : Q .fups) :
    ∃ t, execBlowRepairColumn t1 s = .next t ∧ Reach P Q s0 t := by
  unfold execBlowRepairColumn
  repeat' with_reducible first | assumption | apply finishIf_reach | apply State.ticket_reach | (intros; show P _ = true; first | exact h1 _ | apply_assumption) | split | dsimp only | intro _

theorem execWaitUsExpiry_reach (hs : Reach P Q s0 s) (h1 : ∀ k, P k) (qreports : Q .reports) (qrun : Q .run) (qclsTab : Q .clsTab) (qcands : Q .cands) (qmbox : Q .mbox) (qheld : Q .held) (qtickets : Q .tickets) (qpolicy : Q .policy) (qimgPolicy : Q .imgPolicy) (qtrust : Q .trust) (qtelOut : Q .telOut) (qstaged : Q .staged) (qrings : Q .rings) (qtracker : Q .tracker) (qretireQ : Q .retireQ) (qmerge : Q .merge) (qdescs : Q .descs) (qkch : Q .kch) (qfups : Q .fups) :
    ∃ t, execWaitUsExpiry s = .next t ∧ Reach P Q s0 t := by
  unfold execWaitUsExpiry
  split
  · refine finish_reach ?_ (fun k _ => h1 k) qreports
    apply State.runOn_reach hs <;> assumption
  · exact ⟨_, rfl, hs⟩

theorem execKickstandEnterCarrier_reach {t1 : Sys2Proof.Tkt} (hs : Reach P Q s0 s) (h1 : ∀ k, P k) (qreports : Q .reports) (qtickets : Q .tickets) (qrun : Q .run) (qmbox : Q .mbox) (qheld : Q .held) (qpolicy : Q .policy) (qimgPolicy : Q .imgPolicy) (qtrust : Q .trust) (qcands : Q .cands) (qtelOut : Q .telOut) (qclsTab : Q .clsTab) (qstaged : Q .staged) (qrings : Q .rings) (qtracker : Q .tracker) (qretireQ : Q .retireQ) (qmerge : Q .merge) (qdescs : Q .descs) (qkch : Q .kch) (qfups : Q .fups) :
    ∃ t, execKickstandEnterCarrier t1 s = .next t ∧ Reach P Q s0 t := by
  unfold execKickstandEnterCarrier
  repeat' with_reducible first | assumption | apply finishIf_reach | apply State.ticket_reach | (intros; show P _ = true; first | exact h1 _ | apply_assumption) | split | dsimp only | intro _

theorem execDerShiftInitiate_reach {t1 : Sys2Proof.Tkt} (hs : Reach P Q s0 s) (h1 : ∀ k, P k) (qreports : Q .reports) (qtickets : Q .tickets) (qrun : Q .run) (qmbox : Q .mbox) (qheld : Q .held) (qpolicy : Q .policy) (qimgPolicy : Q .imgPolicy) (qtrust : Q .trust) (qcands : Q .cands) (qtelOut : Q .telOut) (qclsTab : Q .clsTab) (qstaged : Q .staged) (qrings : Q .rings) (qtracker : Q .tracker) (qretireQ : Q .retireQ) (qmerge : Q .merge) (qdescs : Q .descs) (qkch : Q .kch) (qfups : Q .fups) :
    ∃ t, execDerShiftInitiate t1 s = .next t ∧ Reach P Q s0 t := by
  unfold execDerShiftInitiate
  repeat' with_reducible first | assumption | apply finishIf_reach | apply State.ticket_reach | (intros; show P _ = true; first | exact h1 _ | apply_assumption) | split | dsimp only | intro _

theorem execAdvanceSvn_reach {t1 : Sys2Proof.Tkt} (hs : Reach P Q s0 s) (h1 : ∀ k, P k) (qreports : Q .reports) (qtickets : Q .tickets) (qrun : Q .run) (qmbox : Q .mbox) (qheld : Q .held) (qpolicy : Q .policy) (qimgPolicy : Q .imgPolicy) (qtrust : Q .trust) (qcands : Q .cands) (qtelOut : Q .telOut) (qclsTab : Q .clsTab) (qstaged : Q .staged) (qrings : Q .rings) (qtracker : Q .tracker) (qretireQ : Q .retireQ) (qmerge : Q .merge) (qdescs : Q .descs) (qkch : Q .kch) (qfups : Q .fups) :
    ∃ t, execAdvanceSvn t1 s = .next t ∧ Reach P Q s0 t := by
  unfold execAdvanceSvn
  repeat' with_reducible first | assumption | apply finishIf_reach | apply State.ticket_reach | (intros; show P _ = true; first | exact h1 _ | apply_assumption) | split | dsimp only | intro _

theorem execTicketRingTailWrite_reach {value : Nat} (hs : Reach P Q s0 s) (hsum : ∀ k, k.cell.summary → P k) (h11 : ∀ i, P ⟨.tkt .nRingBad, 0, i⟩) (h12 : ∀ i, P ⟨.tkt .ringTail, 0, i⟩) (qreports : Q .reports) (qtickets : Q .tickets) :
    ∃ t, execTicketRingTailWrite value s = .next t ∧ Reach P Q s0 t := by
  unfold execTicketRingTailWrite
  repeat' with_reducible first | assumption | apply finishIf_reach | apply State.tailWrite_reach | (intros; show P _ = true; first | exact hsum _ rfl | (clear hsum; apply_assumption)) | split | dsimp only | intro _

theorem execQueueDelete_reach {t1 : Sys2Proof.Tkt} (hs : Reach P Q s0 s) (h1 : ∀ k, P k) (qreports : Q .reports) (qtickets : Q .tickets) (qrun : Q .run) (qmbox : Q .mbox) (qheld : Q .held) (qpolicy : Q .policy) (qimgPolicy : Q .imgPolicy) (qtrust : Q .trust) (qcands : Q .cands) (qtelOut : Q .telOut) (qclsTab : Q .clsTab) (qstaged : Q .staged) (qrings : Q .rings) (qtracker : Q .tracker) (qretireQ : Q .retireQ) (qmerge : Q .merge) (qdescs : Q .descs) (qkch : Q .kch) (qfups : Q .fups) :
    ∃ t, execQueueDelete t1 s = .next t ∧ Reach P Q s0 t := by
  unfold execQueueDelete
  repeat' with_reducible first | assumption | apply finishIf_reach | apply State.ticket_reach | (intros; show P _ = true; first | exact h1 _ | apply_assumption) | split | dsimp only | intro _

theorem execContainerChange_reach {t1 : Sys2Proof.Tkt} (hs : Reach P Q s0 s) (h1 : ∀ k, P k) (qreports : Q .reports) (qtickets : Q .tickets) (qrun : Q .run) (qmbox : Q .mbox) (qheld : Q .held) (qpolicy : Q .policy) (qimgPolicy : Q .imgPolicy) (qtrust : Q .trust) (qcands : Q .cands) (qtelOut : Q .telOut) (qclsTab : Q .clsTab) (qstaged : Q .staged) (qrings : Q .rings) (qtracker : Q .tracker) (qretireQ : Q .retireQ) (qmerge : Q .merge) (qdescs : Q .descs) (qkch : Q .kch) (qfups : Q .fups) :
    ∃ t, execContainerChange t1 s = .next t ∧ Reach P Q s0 t := by
  unfold execContainerChange
  repeat' with_reducible first | assumption | apply finishIf_reach | apply State.ticket_reach | (intros; show P _ = true; first | exact h1 _ | apply_assumption) | split | dsimp only | intro _

theorem execRekeyNowAll_reach {t1 : Sys2Proof.Tkt} (hs : Reach P Q s0 s) (h1 : ∀ k, P k) (qreports : Q .reports) (qtickets : Q .tickets) (qrun : Q .run) (qmbox : Q .mbox) (qheld : Q .held) (qpolicy : Q .policy) (qimgPolicy : Q .imgPolicy) (qtrust : Q .trust) (qcands : Q .cands) (qtelOut : Q .telOut) (qclsTab : Q .clsTab) (qstaged : Q .staged) (qrings : Q .rings) (qtracker : Q .tracker) (qretireQ : Q .retireQ) (qmerge : Q .merge) (qdescs : Q .descs) (qkch : Q .kch) (qfups : Q .fups) :
    ∃ t, execRekeyNowAll t1 s = .next t ∧ Reach P Q s0 t := by
  unfold execRekeyNowAll
  repeat' with_reducible first | assumption | apply finishIf_reach | apply State.ticket_reach | (intros; show P _ = true; first | exact h1 _ | apply_assumption) | split | dsimp only | intro _

theorem execContainerDelete_reach {t1 : Sys2Proof.Tkt} (hs : Reach P Q s0 s) (h1 : ∀ k, P k) (qreports : Q .reports) (qtickets : Q .tickets) (qrun : Q .run) (qmbox : Q .mbox) (qheld : Q .held) (qpolicy : Q .policy) (qimgPolicy : Q .imgPolicy) (qtrust : Q .trust) (qcands : Q .cands) (qtelOut : Q .telOut) (qclsTab : Q .clsTab) (qstaged : Q .staged) (qrings : Q .rings) (qtracker : Q .tracker) (qretireQ : Q .retireQ) (qmerge : Q .merge) (qdescs : Q .descs) (qkch : Q .kch) (qfups : Q .fups) :
    ∃ t, execContainerDelete t1 s = .next t ∧ Reach P Q s0 t := by
  unfold execContainerDelete
  repeat' with_reducible first | assumption | apply finishIf_reach | apply State.ticket_reach | (intros; show P _ = true; first | exact h1 _ | apply_assumption) | split | dsimp only | intro _

theorem execBlowRepairRow_reach {t1 : Sys2Proof.Tkt} (hs : Reach P Q s0 s) (h1 : ∀ k, P k) (qreports : Q .reports) (qtickets : Q .tickets) (qrun : Q .run) (qmbox : Q .mbox) (qheld : Q .held) (qpolicy : Q .policy) (qimgPolicy : Q .imgPolicy) (qtrust : Q .trust) (qcands : Q .cands) (qtelOut : Q .telOut) (qclsTab : Q .clsTab) (qstaged : Q .staged) (qrings : Q .rings) (qtracker : Q .tracker) (qretireQ : Q .retireQ) (qmerge : Q .merge) (qdescs : Q .descs) (qkch : Q .kch) (qfups : Q .fups) :
    ∃ t, execBlowRepairRow t1 s = .next t ∧ Reach P Q s0 t := by
  unfold execBlowRepairRow
  repeat' with_reducible first | assumption | apply finishIf_reach | apply State.ticket_reach | (intros; show P _ = true; first | exact h1 _ | apply_assumption) | split | dsimp only | intro _

theorem execDerShiftRespond_reach {t1 : Sys2Proof.Tkt} (hs : Reach P Q s0 s) (h1 : ∀ k, P k) (qreports : Q .reports) (qtickets : Q .tickets) (qrun : Q .run) (qmbox : Q .mbox) (qheld : Q .held) (qpolicy : Q .policy) (qimgPolicy : Q .imgPolicy) (qtrust : Q .trust) (qcands : Q .cands) (qtelOut : Q .telOut) (qclsTab : Q .clsTab) (qstaged : Q .staged) (qrings : Q .rings) (qtracker : Q .tracker) (qretireQ : Q .retireQ) (qmerge : Q .merge) (qdescs : Q .descs) (qkch : Q .kch) (qfups : Q .fups) :
    ∃ t, execDerShiftRespond t1 s = .next t ∧ Reach P Q s0 t := by
  unfold execDerShiftRespond
  repeat' with_reducible first | assumption | apply finishIf_reach | apply State.ticket_reach | (intros; show P _ = true; first | exact h1 _ | apply_assumption) | split | dsimp only | intro _

theorem execProtectionClear_reach {t1 : Sys2Proof.Tkt} (hs : Reach P Q s0 s) (h1 : ∀ k, P k) (qreports : Q .reports) (qtickets : Q .tickets) (qrun : Q .run) (qmbox : Q .mbox) (qheld : Q .held) (qpolicy : Q .policy) (qimgPolicy : Q .imgPolicy) (qtrust : Q .trust) (qcands : Q .cands) (qtelOut : Q .telOut) (qclsTab : Q .clsTab) (qstaged : Q .staged) (qrings : Q .rings) (qtracker : Q .tracker) (qretireQ : Q .retireQ) (qmerge : Q .merge) (qdescs : Q .descs) (qkch : Q .kch) (qfups : Q .fups) :
    ∃ t, execProtectionClear t1 s = .next t ∧ Reach P Q s0 t := by
  unfold execProtectionClear
  repeat' with_reducible first | assumption | apply finishIf_reach | apply State.ticket_reach | (intros; show P _ = true; first | exact h1 _ | apply_assumption) | split | dsimp only | intro _

theorem execKickstandLeave_reach {t1 : Sys2Proof.Tkt} (hs : Reach P Q s0 s) (h1 : ∀ k, P k) (qreports : Q .reports) (qtickets : Q .tickets) (qrun : Q .run) (qmbox : Q .mbox) (qheld : Q .held) (qpolicy : Q .policy) (qimgPolicy : Q .imgPolicy) (qtrust : Q .trust) (qcands : Q .cands) (qtelOut : Q .telOut) (qclsTab : Q .clsTab) (qstaged : Q .staged) (qrings : Q .rings) (qtracker : Q .tracker) (qretireQ : Q .retireQ) (qmerge : Q .merge) (qdescs : Q .descs) (qkch : Q .kch) (qfups : Q .fups) :
    ∃ t, execKickstandLeave t1 s = .next t ∧ Reach P Q s0 t := by
  unfold execKickstandLeave
  repeat' with_reducible first | assumption | apply finishIf_reach | apply State.ticket_reach | (intros; show P _ = true; first | exact h1 _ | apply_assumption) | split | dsimp only | intro _

theorem execTicketExecTimeout_reach (hs : Reach P Q s0 s) (hsum : ∀ k, k.cell.summary → P k) (h11 : ∀ i, P ⟨.tkt .nAccepted, 0, i⟩) (h12 : ∀ i, P ⟨.tkt .nRejected, 0, i⟩) (h13 : ∀ i, P ⟨.tkt .lastRecord, 0, i⟩) (h14 : ∀ i, P ⟨.tkt .lastCode, 0, i⟩) (h15 : ∀ i, P ⟨.tkt .hashFail, 0, i⟩) (h16 : ∀ i, P ⟨.tkt .fetched, 0, i⟩) (h17 : ∀ i, P ⟨.tkt .mboxBusy, 0, i⟩) (h18 : ∀ i, P ⟨.tkt .ringHead, 0, i⟩) (h19 : ∀ i, P ⟨.tkt .ringPost, 0, i⟩) (h20 : ∀ i, P ⟨.boot .errAddr, 0, i⟩) (h21 : ∀ i, P ⟨.boot .errDie, 0, i⟩) (h22 : ∀ i, P ⟨.boot .detail, 0, i⟩) (h23 : ∀ i, P ⟨.boot .errCode, 0, i⟩) (h24 : ∀ i, P ⟨.boot .phaseRun, 0, i⟩) (h25 : ∀ i, P ⟨.boot .phaseMs, 0, i⟩) (h26 : ∀ i, P ⟨.boot .procCalled, 0, i⟩) (h27 : ∀ d i, P ⟨.lt .muteCause, d, i⟩) (h28 : ∀ d i, P ⟨.lt .ramp, d, i⟩) (h29 : ∀ d i, P ⟨.lt .txState, d, i⟩) (h30 : ∀ d i, P ⟨.lt .otherCause, d, i⟩) (h31 : ∀ d i, P ⟨.bias .ptState, d, i⟩) (h32 : ∀ d i, P ⟨.bias .ptAcq, d, i⟩) (h33 : ∀ d i, P ⟨.bias .ptV, d, i⟩) (h34 : ∀ d i, P ⟨.bias .ptBase, d, i⟩) (h35 : ∀ d i, P ⟨.lt .nMuteEnter, d, i⟩) (h36 : ∀ d i, P ⟨.lt .begun4, d, i⟩) (h37 : ∀ d i, P ⟨.sticky .ltTxDown, d, i⟩) (h38 : ∀ d i, P ⟨.live .ltTxDown, d, i⟩) (h39 : ∀ d i, P ⟨.lt .sysCause, d, i⟩) (h40 : ∀ d i, P ⟨.bias .ptUnlRun, d, i⟩) (h41 : ∀ d i, P ⟨.bias .ptLockRun, d, i⟩) (h42 : ∀ d i, P ⟨.bias .ptTry, d, i⟩) (h43 : ∀ d i, P ⟨.bias .ptFirst, d, i⟩) (h44 : ∀ d i, P ⟨.bias .nUnlock, d, i⟩) (h45 : ∀ i, P ⟨.sys .freeCount, 0, i⟩) (h46 : ∀ d i, P ⟨.bias .outMv, d, i⟩) (h47 : ∀ d i, P ⟨.bias .ptLocked, d, i⟩) (h48 : ∀ d i, P ⟨.bias .biasLock, d, i⟩) (h49 : ∀ d i, P ⟨.sticky .biasNearRail, d, i⟩) (h50 : ∀ d i, P ⟨.live .biasNearRail, d, i⟩) (h51 : ∀ d i, P ⟨.sticky .biasRail, d, i⟩) (h52 : ∀ d i, P ⟨.live .biasRail, d, i⟩) (h53 : ∀ d i, P ⟨.sticky .biasOutFault, d, i⟩) (h54 : ∀ d i, P ⟨.live .biasOutFault, d, i⟩) (h55 : ∀ d i, P ⟨.sticky .biasUnlock, d, i⟩) (h56 : ∀ d i, P ⟨.live .biasUnlock, d, i⟩) (h57 : ∀ d i, P ⟨.bias .light, d, i⟩) (h58 : ∀ d i, P ⟨.sticky .lrLoLost, d, i⟩) (h59 : ∀ d i, P ⟨.live .lrLoLost, d, i⟩) (h60 : ∀ i, P ⟨.boot .procCode, 0, i⟩) (h61 : ∀ i, P ⟨.boot .procDone, 0, i⟩) (h62 : ∀ d i, P ⟨.live .lasFault, d, i⟩) (h63 : ∀ d i, P ⟨.las .lowCount, d, i⟩) (h64 : ∀ d i, P ⟨.las .recovering, d, i⟩) (h65 : ∀ d i, P ⟨.las .reason, d, i⟩) (h66 : ∀ d i, P ⟨.las .state, d, i⟩) (h67 : ∀ d i, P ⟨.hl .keep, d, i⟩) (h68 : ∀ d i, P ⟨.hl .state, d, i⟩) (h69 : ∀ d i, P ⟨.hl .idleRun, d, i⟩) (h70 : ∀ d i, P ⟨.hl .relock, d, i⟩) (h71 : ∀ d i, P ⟨.hl .waitSig, d, i⟩) (h72 : ∀ d i, P ⟨.hl .reqResult, d, i⟩) (h73 : ∀ d i, P ⟨.hl .reqSeq, d, i⟩) (h74 : ∀ d i, P ⟨.hl .stepFails, d, i⟩) (h75 : ∀ d i, P ⟨.hl .fellBack, d, i⟩) (h76 : ∀ d i, P ⟨.hl .switched, d, i⟩) (h77 : ∀ d i, P ⟨.hl .preNext, d, i⟩) (h78 : ∀ d i, P ⟨.hl .farCount, d, i⟩) (h79 : ∀ d i, P ⟨.hl .countdown, d, i⟩) (h80 : ∀ d i, P ⟨.hl .farPreCap, d, i⟩) (h81 : ∀ d i, P ⟨.hl .capsRun, d, i⟩) (h82 : ∀ d i, P ⟨.hl .readyLeft, d, i⟩) (h83 : ∀ d i, P ⟨.hl .readyRun, d, i⟩) (h84 : ∀ d i, P ⟨.hl .rxReady, d, i⟩) (h85 : ∀ d i, P ⟨.hl .badRun, d, i⟩) (h86 : ∀ d i, P ⟨.hl .goodRun, d, i⟩) (h87 : ∀ d i, P ⟨.hl .fLock, d, i⟩) (h88 : ∀ d i, P ⟨.sticky .hlpLinkDown, d, i⟩) (h89 : ∀ d i, P ⟨.live .hlpLinkDown, d, i⟩) (h90 : ∀ d i, P ⟨.hl .pGear, d, i⟩) (h91 : ∀ d i, P ⟨.hl .pState, d, i⟩) (h92 : ∀ d i, P ⟨.hl .corrTx, d, i⟩) (h93 : ∀ d i, P ⟨.hl .corrRx, d, i⟩) (h94 : ∀ i, P ⟨.boot .state, 0, i⟩) (h95 : ∀ i, P ⟨.sticky .bootRestarted, 0, i⟩) (h96 : ∀ i, P ⟨.live .bootRestarted, 0, i⟩) (h97 : ∀ i, P ⟨.ao .triesB, 0, i⟩) (h98 : ∀ i, P ⟨.ao .triesA, 0, i⟩) (h99 : ∀ i, P ⟨.tkt .ctrLast, 0, i⟩) (qreports : Q .reports) (qtickets : Q .tickets) (qrun : Q .run) :
    ∃ t, execTicketExecTimeout s = .next t ∧ Reach P Q s0 t := by
  unfold execTicketExecTimeout
  repeat' with_reducible first | assumption | apply finish_reach | apply State.runLate_reach | apply idle_reach | (intros; show P _ = true; first | exact hsum _ rfl | (clear hsum; apply_assumption)) | split | dsimp only | intro _

theorem execApplyDelta_reach {t1 : Sys2Proof.Tkt} (hs : Reach P Q s0 s) (h1 : ∀ k, P k) (qreports : Q .reports) (qtickets : Q .tickets) (qrun : Q .run) (qmbox : Q .mbox) (qheld : Q .held) (qpolicy : Q .policy) (qimgPolicy : Q .imgPolicy) (qtrust : Q .trust) (qcands : Q .cands) (qtelOut : Q .telOut) (qclsTab : Q .clsTab) (qstaged : Q .staged) (qrings : Q .rings) (qtracker : Q .tracker) (qretireQ : Q .retireQ) (qmerge : Q .merge) (qdescs : Q .descs) (qkch : Q .kch) (qfups : Q .fups) :
    ∃ t, execApplyDelta t1 s = .next t ∧ Reach P Q s0 t := by
  unfold execApplyDelta
  repeat' with_reducible first | assumption | apply finishIf_reach | apply State.ticket_reach | (intros; show P _ = true; first | exact h1 _ | apply_assumption) | split | dsimp only | intro _

theorem execJournalEraseDone_reach (hs : Reach P Q s0 s) (hsum : ∀ k, k.cell.summary → P k) (h11 : ∀ i, P ⟨.tkt .nJournalErase, 0, i⟩) (h12 : ∀ i, P ⟨.tkt .jBlank, 0, i⟩) (h13 : ∀ i, P ⟨.tkt .jErasing, 0, i⟩) (qreports : Q .reports) :
    ∃ t, execJournalEraseDone s = .next t ∧ Reach P Q s0 t := by
  unfold execJournalEraseDone
  repeat' with_reducible first | assumption | apply finishIf_reach | apply State.eraseEnd_reach | (intros; show P _ = true; first | exact hsum _ rfl | (clear hsum; apply_assumption)) | split | dsimp only | intro _

theorem execRekeyNow_reach {t1 : Sys2Proof.Tkt} (hs : Reach P Q s0 s) (h1 : ∀ k, P k) (qreports : Q .reports) (qtickets : Q .tickets) (qrun : Q .run) (qmbox : Q .mbox) (qheld : Q .held) (qpolicy : Q .policy) (qimgPolicy : Q .imgPolicy) (qtrust : Q .trust) (qcands : Q .cands) (qtelOut : Q .telOut) (qclsTab : Q .clsTab) (qstaged : Q .staged) (qrings : Q .rings) (qtracker : Q .tracker) (qretireQ : Q .retireQ) (qmerge : Q .merge) (qdescs : Q .descs) (qkch : Q .kch) (qfups : Q .fups) :
    ∃ t, execRekeyNow t1 s = .next t ∧ Reach P Q s0 t := by
  unfold execRekeyNow
  repeat' with_reducible first | assumption | apply finishIf_reach | apply State.ticket_reach | (intros; show P _ = true; first | exact h1 _ | apply_assumption) | split | dsimp only | intro _

theorem execPollUntilTimeout_reach (hs : Reach P Q s0 s) (hsum : ∀ k, k.cell.summary → P k) (h11 : ∀ i, P ⟨.tkt .nAccepted, 0, i⟩) (h12 : ∀ i, P ⟨.tkt .nRejected, 0, i⟩) (h13 : ∀ i, P ⟨.tkt .lastRecord, 0, i⟩) (h14 : ∀ i, P ⟨.tkt .lastCode, 0, i⟩) (h15 : ∀ i, P ⟨.tkt .hashFail, 0, i⟩) (h16 : ∀ i, P ⟨.tkt .fetched, 0, i⟩) (h17 : ∀ i, P ⟨.tkt .mboxBusy, 0, i⟩) (h18 : ∀ i, P ⟨.tkt .ringHead, 0, i⟩) (h19 : ∀ i, P ⟨.tkt .ringPost, 0, i⟩) (h20 : ∀ i, P ⟨.boot .errAddr, 0, i⟩) (h21 : ∀ i, P ⟨.boot .errDie, 0, i⟩) (h22 : ∀ i, P ⟨.boot .detail, 0, i⟩) (h23 : ∀ i, P ⟨.boot .errCode, 0, i⟩) (h24 : ∀ i, P ⟨.boot .phaseRun, 0, i⟩) (h25 : ∀ i, P ⟨.boot .phaseMs, 0, i⟩) (h26 : ∀ i, P ⟨.boot .procCalled, 0, i⟩) (h27 : ∀ d i, P ⟨.lt .muteCause, d, i⟩) (h28 : ∀ d i, P ⟨.lt .ramp, d, i⟩) (h29 : ∀ d i, P ⟨.lt .txState, d, i⟩) (h30 : ∀ d i, P ⟨.lt .otherCause, d, i⟩) (h31 : ∀ d i, P ⟨.bias .ptState, d, i⟩) (h32 : ∀ d i, P ⟨.bias .ptAcq, d, i⟩) (h33 : ∀ d i, P ⟨.bias .ptV, d, i⟩) (h34 : ∀ d i, P ⟨.bias .ptBase, d, i⟩) (h35 : ∀ d i, P ⟨.lt .nMuteEnter, d, i⟩) (h36 : ∀ d i, P ⟨.lt .begun4, d, i⟩) (h37 : ∀ d i, P ⟨.sticky .ltTxDown, d, i⟩) (h38 : ∀ d i, P ⟨.live .ltTxDown, d, i⟩) (h39 : ∀ d i, P ⟨.lt .sysCause, d, i⟩) (h40 : ∀ d i, P ⟨.bias .ptUnlRun, d, i⟩) (h41 : ∀ d i, P ⟨.bias .ptLockRun, d, i⟩) (h42 : ∀ d i, P ⟨.bias .ptTry, d, i⟩) (h43 : ∀ d i, P ⟨.bias .ptFirst, d, i⟩) (h44 : ∀ d i, P ⟨.bias .nUnlock, d, i⟩) (h45 : ∀ i, P ⟨.sys .freeCount, 0, i⟩) (h46 : ∀ d i, P ⟨.bias .outMv, d, i⟩) (h47 : ∀ d i, P ⟨.bias .ptLocked, d, i⟩) (h48 : ∀ d i, P ⟨.bias .biasLock, d, i⟩) (h49 : ∀ d i, P ⟨.sticky .biasNearRail, d, i⟩) (h50 : ∀ d i, P ⟨.live .biasNearRail, d, i⟩) (h51 : ∀ d i, P ⟨.sticky .biasRail, d, i⟩) (h52 : ∀ d i, P ⟨.live .biasRail, d, i⟩) (h53 : ∀ d i, P ⟨.sticky .biasOutFault, d, i⟩) (h54 : ∀ d i, P ⟨.live .biasOutFault, d, i⟩) (h55 : ∀ d i, P ⟨.sticky .biasUnlock, d, i⟩) (h56 : ∀ d i, P ⟨.live .biasUnlock, d, i⟩) (h57 : ∀ d i, P ⟨.bias .light, d, i⟩) (h58 : ∀ d i, P ⟨.sticky .lrLoLost, d, i⟩) (h59 : ∀ d i, P ⟨.live .lrLoLost, d, i⟩) (h60 : ∀ i, P ⟨.boot .procCode, 0, i⟩) (h61 : ∀ i, P ⟨.boot .procDone, 0, i⟩) (h62 : ∀ d i, P ⟨.live .lasFault, d, i⟩) (h63 : ∀ d i, P ⟨.las .lowCount, d, i⟩) (h64 : ∀ d i, P ⟨.las .recovering, d, i⟩) (h65 : ∀ d i, P ⟨.las .reason, d, i⟩) (h66 : ∀ d i, P ⟨.las .state, d, i⟩) (h67 : ∀ d i, P ⟨.hl .keep, d, i⟩) (h68 : ∀ d i, P ⟨.hl .state, d, i⟩) (h69 : ∀ d i, P ⟨.hl .idleRun, d, i⟩) (h70 : ∀ d i, P ⟨.hl .relock, d, i⟩) (h71 : ∀ d i, P ⟨.hl .waitSig, d, i⟩) (h72 : ∀ d i, P ⟨.hl .reqResult, d, i⟩) (h73 : ∀ d i, P ⟨.hl .reqSeq, d, i⟩) (h74 : ∀ d i, P ⟨.hl .stepFails, d, i⟩) (h75 : ∀ d i, P ⟨.hl .fellBack, d, i⟩) (h76 : ∀ d i, P ⟨.hl .switched, d, i⟩) (h77 : ∀ d i, P ⟨.hl .preNext, d, i⟩) (h78 : ∀ d i, P ⟨.hl .farCount, d, i⟩) (h79 : ∀ d i, P ⟨.hl .countdown, d, i⟩) (h80 : ∀ d i, P ⟨.hl .farPreCap, d, i⟩) (h81 : ∀ d i, P ⟨.hl .capsRun, d, i⟩) (h82 : ∀ d i, P ⟨.hl .readyLeft, d, i⟩) (h83 : ∀ d i, P ⟨.hl .readyRun, d, i⟩) (h84 : ∀ d i, P ⟨.hl .rxReady, d, i⟩) (h85 : ∀ d i, P ⟨.hl .badRun, d, i⟩) (h86 : ∀ d i, P ⟨.hl .goodRun, d, i⟩) (h87 : ∀ d i, P ⟨.hl .fLock, d, i⟩) (h88 : ∀ d i, P ⟨.sticky .hlpLinkDown, d, i⟩) (h89 : ∀ d i, P ⟨.live .hlpLinkDown, d, i⟩) (h90 : ∀ d i, P ⟨.hl .pGear, d, i⟩) (h91 : ∀ d i, P ⟨.hl .pState, d, i⟩) (h92 : ∀ d i, P ⟨.hl .corrTx, d, i⟩) (h93 : ∀ d i, P ⟨.hl .corrRx, d, i⟩) (h94 : ∀ i, P ⟨.boot .state, 0, i⟩) (h95 : ∀ i, P ⟨.sticky .bootRestarted, 0, i⟩) (h96 : ∀ i, P ⟨.live .bootRestarted, 0, i⟩) (h97 : ∀ i, P ⟨.ao .triesB, 0, i⟩) (h98 : ∀ i, P ⟨.ao .triesA, 0, i⟩) (h99 : ∀ i, P ⟨.tkt .ctrLast, 0, i⟩) (qreports : Q .reports) (qtickets : Q .tickets) (qrun : Q .run) :
    ∃ t, execPollUntilTimeout s = .next t ∧ Reach P Q s0 t := by
  unfold execPollUntilTimeout
  repeat' with_reducible first | assumption | apply finishIf_reach | apply State.runLate_reach | apply idle_reach | (intros; show P _ = true; first | exact hsum _ rfl | (clear hsum; apply_assumption)) | split | dsimp only | intro _

theorem execTicketFetchDone_reach {entryLen : Nat} {ok : Bool} (hs : Reach P Q s0 s) (hsum : ∀ k, k.cell.summary → P k) (h11 : ∀ i, P ⟨.tkt .nAccepted, 0, i⟩) (h12 : ∀ i, P ⟨.tkt .nRejected, 0, i⟩) (h13 : ∀ i, P ⟨.tkt .lastRecord, 0, i⟩) (h14 : ∀ i, P ⟨.tkt .lastCode, 0, i⟩) (h15 : ∀ i, P ⟨.tkt .hashFail, 0, i⟩) (h16 : ∀ i, P ⟨.tkt .fetched, 0, i⟩) (h17 : ∀ i, P ⟨.tkt .mboxBusy, 0, i⟩) (h18 : ∀ i, P ⟨.tkt .ringHead, 0, i⟩) (h19 : ∀ i, P ⟨.tkt .ringPost, 0, i⟩) (h20 : ∀ i, P ⟨.tkt .fetchLen, 0, i⟩) (qreports : Q .reports) (qtickets : Q .tickets) (qrun : Q .run) :
    ∃ t, execTicketFetchDone entryLen ok s = .next t ∧ Reach P Q s0 t := by
  unfold execTicketFetchDone
  repeat' with_reducible first | assumption | apply finishIf_reach | apply State.ticketDone_reach | apply State.set_reach | (intros; show P _ = true; first | exact hsum _ rfl | (clear hsum; apply_assumption)) | split | dsimp only | intro _

theorem execShaperChange_reach {t1 : Sys2Proof.Tkt} (hs : Reach P Q s0 s) (h1 : ∀ k, P k) (qreports : Q .reports) (qtickets : Q .tickets) (qrun : Q .run) (qmbox : Q .mbox) (qheld : Q .held) (qpolicy : Q .policy) (qimgPolicy : Q .imgPolicy) (qtrust : Q .trust) (qcands : Q .cands) (qtelOut : Q .telOut) (qclsTab : Q .clsTab) (qstaged : Q .staged) (qrings : Q .rings) (qtracker : Q .tracker) (qretireQ : Q .retireQ) (qmerge : Q .merge) (qdescs : Q .descs) (qkch : Q .kch) (qfups : Q .fups) :
    ∃ t, execShaperChange t1 s = .next t ∧ Reach P Q s0 t := by
  unfold execShaperChange
  repeat' with_reducible first | assumption | apply finishIf_reach | apply State.ticket_reach | (intros; show P _ = true; first | exact h1 _ | apply_assumption) | split | dsimp only | intro _

theorem execClearSec_reach {t1 : Sys2Proof.Tkt} (hs : Reach P Q s0 s) (h1 : ∀ k, P k) (qreports : Q .reports) (qtickets : Q .tickets) (qrun : Q .run) (qmbox : Q .mbox) (qheld : Q .held) (qpolicy : Q .policy) (qimgPolicy : Q .imgPolicy) (qtrust : Q .trust) (qcands : Q .cands) (qtelOut : Q .telOut) (qclsTab : Q .clsTab) (qstaged : Q .staged) (qrings : Q .rings) (qtracker : Q .tracker) (qretireQ : Q .retireQ) (qmerge : Q .merge) (qdescs : Q .descs) (qkch : Q .kch) (qfups : Q .fups) :
    ∃ t, execClearSec t1 s = .next t ∧ Reach P Q s0 t := by
  unfold execClearSec
  repeat' with_reducible first | assumption | apply finishIf_reach | apply State.ticket_reach | (intros; show P _ = true; first | exact h1 _ | apply_assumption) | split | dsimp only | intro _

theorem execTicketGoWrite_reach {value : Nat} (hs : Reach P Q s0 s) (hsum : ∀ k, k.cell.summary → P k) (h11 : ∀ i, P ⟨.tkt .nHostWrRej, 0, i⟩) (h12 : ∀ i, P ⟨.tkt .hostWrRejAddr, 0, i⟩) (h13 : ∀ i, P ⟨.tkt .rejHeld, 0, i⟩) (h14 : ∀ i, P ⟨.tkt .mboxLen, 0, i⟩) (h15 : ∀ i, P ⟨.tkt .mboxBusy, 0, i⟩) (h16 : ∀ i, P ⟨.tkt .nRejected, 0, i⟩) (h17 : ∀ i, P ⟨.tkt .lastRecord, 0, i⟩) (h18 : ∀ i, P ⟨.tkt .lastCode, 0, i⟩) (qreports : Q .reports) (qtickets : Q .tickets) :
    ∃ t, execTicketGoWrite value s = .next t ∧ Reach P Q s0 t := by
  unfold execTicketGoWrite
  repeat' with_reducible first | assumption | apply finishIf_reach | apply State.goWrite_reach | (intros; show P _ = true; first | exact hsum _ rfl | (clear hsum; apply_assumption)) | split | dsimp only | intro _

theorem execRestartInFailed_reach {t1 : Sys2Proof.Tkt} {ownerOk : Bool} (hs : Reach P Q s0 s) (h1 : ∀ k, P k) (qreports : Q .reports) (qtickets : Q .tickets) (qrun : Q .run) (qmbox : Q .mbox) (qheld : Q .held) (qpolicy : Q .policy) (qimgPolicy : Q .imgPolicy) (qtrust : Q .trust) (qcands : Q .cands) (qtelOut : Q .telOut) (qclsTab : Q .clsTab) (qstaged : Q .staged) (qrings : Q .rings) (qtracker : Q .tracker) (qretireQ : Q .retireQ) (qmerge : Q .merge) (qdescs : Q .descs) (qkch : Q .kch) (qfups : Q .fups) :
    ∃ t, execRestartInFailed t1 ownerOk s = .next t ∧ Reach P Q s0 t := by
  unfold execRestartInFailed
  repeat' with_reducible first | assumption | apply finishIf_reach | apply State.failedTicket_reach | (intros; show P _ = true; first | exact h1 _ | apply_assumption) | split | dsimp only | intro _

theorem execRestart_reach {t1 : Sys2Proof.Tkt} (hs : Reach P Q s0 s) (h1 : ∀ k, P k) (qreports : Q .reports) (qtickets : Q .tickets) (qrun : Q .run) (qmbox : Q .mbox) (qheld : Q .held) (qpolicy : Q .policy) (qimgPolicy : Q .imgPolicy) (qtrust : Q .trust) (qcands : Q .cands) (qtelOut : Q .telOut) (qclsTab : Q .clsTab) (qstaged : Q .staged) (qrings : Q .rings) (qtracker : Q .tracker) (qretireQ : Q .retireQ) (qmerge : Q .merge) (qdescs : Q .descs) (qkch : Q .kch) (qfups : Q .fups) :
    ∃ t, execRestart t1 s = .next t ∧ Reach P Q s0 t := by
  unfold execRestart
  repeat' with_reducible first | assumption | apply finishIf_reach | apply State.ticket_reach | (intros; show P _ = true; first | exact h1 _ | apply_assumption) | split | dsimp only | intro _

theorem execProtectionFs_reach {t1 : Sys2Proof.Tkt} (hs : Reach P Q s0 s) (h1 : ∀ k, P k) (qreports : Q .reports) (qtickets : Q .tickets) (qrun : Q .run) (qmbox : Q .mbox) (qheld : Q .held) (qpolicy : Q .policy) (qimgPolicy : Q .imgPolicy) (qtrust : Q .trust) (qcands : Q .cands) (qtelOut : Q .telOut) (qclsTab : Q .clsTab) (qstaged : Q .staged) (qrings : Q .rings) (qtracker : Q .tracker) (qretireQ : Q .retireQ) (qmerge : Q .merge) (qdescs : Q .descs) (qkch : Q .kch) (qfups : Q .fups) :
    ∃ t, execProtectionFs t1 s = .next t ∧ Reach P Q s0 t := by
  unfold execProtectionFs
  repeat' with_reducible first | assumption | apply finishIf_reach | apply State.ticket_reach | (intros; show P _ = true; first | exact h1 _ | apply_assumption) | split | dsimp only | intro _

theorem execRekeyNowSpan_reach {t1 : Sys2Proof.Tkt} (hs : Reach P Q s0 s) (h1 : ∀ k, P k) (qreports : Q .reports) (qtickets : Q .tickets) (qrun : Q .run) (qmbox : Q .mbox) (qheld : Q .held) (qpolicy : Q .policy) (qimgPolicy : Q .imgPolicy) (qtrust : Q .trust) (qcands : Q .cands) (qtelOut : Q .telOut) (qclsTab : Q .clsTab) (qstaged : Q .staged) (qrings : Q .rings) (qtracker : Q .tracker) (qretireQ : Q .retireQ) (qmerge : Q .merge) (qdescs : Q .descs) (qkch : Q .kch) (qfups : Q .fups) :
    ∃ t, execRekeyNowSpan t1 s = .next t ∧ Reach P Q s0 t := by
  unfold execRekeyNowSpan
  repeat' with_reducible first | assumption | apply finishIf_reach | apply State.ticket_reach | (intros; show P _ = true; first | exact h1 _ | apply_assumption) | split | dsimp only | intro _

theorem execProtectionMsW_reach {t1 : Sys2Proof.Tkt} (hs : Reach P Q s0 s) (h1 : ∀ k, P k) (qreports : Q .reports) (qtickets : Q .tickets) (qrun : Q .run) (qmbox : Q .mbox) (qheld : Q .held) (qpolicy : Q .policy) (qimgPolicy : Q .imgPolicy) (qtrust : Q .trust) (qcands : Q .cands) (qtelOut : Q .telOut) (qclsTab : Q .clsTab) (qstaged : Q .staged) (qrings : Q .rings) (qtracker : Q .tracker) (qretireQ : Q .retireQ) (qmerge : Q .merge) (qdescs : Q .descs) (qkch : Q .kch) (qfups : Q .fups) :
    ∃ t, execProtectionMsW t1 s = .next t ∧ Reach P Q s0 t := by
  unfold execProtectionMsW
  repeat' with_reducible first | assumption | apply finishIf_reach | apply State.ticket_reach | (intros; show P _ = true; first | exact h1 _ | apply_assumption) | split | dsimp only | intro _

end Sys2Proof.Machine
end

