-- ==== Sys2Proof/Laws/MovesAccess.lean ====
section
/-!
SUPPORT. What the operations of Machine/Access.lean may change, one lemma each (Laws/Reach.lean).
-/
namespace Sys2Proof.Machine

set_option linter.unusedTactic false
set_option linter.unreachableTactic false

variable {P : Key → Bool} {Q : Part → Bool} {s0 s : State}

theorem State.deltaWrite_reach {x : Nat} {mask : Nat} {value : Nat} (hs : Reach P Q s0 s) (h1 : ∀ k, P k) (qreports : Q .reports) (qcands : Q .cands) (qmbox : Q .mbox) (qheld : Q .held) (qtickets : Q .tickets) (qrun : Q .run) (qpolicy : Q .policy) (qimgPolicy : Q .imgPolicy) (qtrust : Q .trust) (qtelOut : Q .telOut) (qclsTab : Q .clsTab) (qstaged : Q .staged) (qrings : Q .rings) (qtracker : Q .tracker) (qretireQ : Q .retireQ) (qmerge : Q .merge) (qdescs : Q .descs) (qkch : Q .kch) (qfups : Q .fups) :
    Reach P Q s0 (State.deltaWrite s x mask value) := by
  unfold State.deltaWrite
  repeat' with_reducible first | assumption | apply State.applyWrite_reach | (intros; show P _ = true; apply_assumption) | split | dsimp only | intro _

theorem State.clearOnes_reach {x : Nat} {ones : Nat} {again : Nat} (hs : Reach P Q s0 s) (h1 : ∀ a d i, P ⟨Cell.sticky a, d, i⟩) :
    Reach P Q s0 (State.clearOnes s x ones again) := by
  unfold State.clearOnes
  repeat' with_reducible first | assumption | apply State.each_reach | apply State.set_reach | (intros; show P _ = true; apply_assumption) | split | dsimp only | intro _

theorem State.hostClear_reach {x : Nat} {value : Nat} {again : Nat} (hs : Reach P Q s0 s) (h1 : ∀ a d i, P ⟨Cell.sticky a, d, i⟩) (h2 : ∀ i, P ⟨.tkt .nHostWrRej, 0, i⟩) (h3 : ∀ i, P ⟨.tkt .hostWrRejAddr, 0, i⟩) (h4 : ∀ i, P ⟨.tkt .rejHeld, 0, i⟩) :
    Reach P Q s0 (State.hostClear s x value again) := by
  unfold State.hostClear
  repeat' with_reducible first | assumption | apply State.clearOnes_reach | apply State.rejectWrite_reach | (intros; show P _ = true; apply_assumption) | split | dsimp only | intro _

theorem State.hostWrite_reach {x : Nat} {value : Nat} (hs : Reach P Q s0 s) (h1 : ∀ i, P ⟨.tkt .nHostWrRej, 0, i⟩) (h2 : ∀ i, P ⟨.tkt .hostWrRejAddr, 0, i⟩) (h3 : ∀ i, P ⟨.tkt .rejHeld, 0, i⟩) (h4 : ∀ i, P ⟨.tkt .mboxLen, 0, i⟩) (h5 : ∀ i, P ⟨.tkt .mboxBusy, 0, i⟩) (h6 : ∀ i, P ⟨.tkt .nRejected, 0, i⟩) (h7 : ∀ i, P ⟨.tkt .lastRecord, 0, i⟩) (h8 : ∀ i, P ⟨.tkt .lastCode, 0, i⟩) (h9 : ∀ i, P ⟨.tkt .nRingBad, 0, i⟩) (h10 : ∀ i, P ⟨.tkt .ringTail, 0, i⟩) (h11 : ∀ i, P ⟨.tel .db, 0, i⟩) (h12 : ∀ i, P ⟨.tel .nDbBad, 0, i⟩) (h13 : ∀ a d i, P ⟨Cell.sticky a, d, i⟩) (qmbox : Q .mbox) (qtickets : Q .tickets) (qtelOut : Q .telOut) :
    Reach P Q s0 (State.hostWrite s x value) := by
  unfold State.hostWrite
  repeat' with_reducible first | assumption | apply State.rejectWrite_reach | apply State.goWrite_reach | apply State.tailWrite_reach | apply State.telDoorbell_reach | apply State.hostClear_reach | (intros; first | assumption | exact h1 _ | exact h2 _ | exact h3 _ | exact h4 _ | exact h5 _ | exact h6 _ | exact h7 _ | exact h8 _ | exact h9 _ | exact h10 _ | exact h11 _ | exact h12 _ | exact h13 _ _ _) | split | dsimp only | (apply State.mbox_reach hs qmbox; intro h; exact Memory.wf_putWord h _ _)

theorem State.portWrite_reach {port : Sys2Proof.APort} {x : Nat} {value : Nat} (hs : Reach P Q s0 s) (h1 : ∀ d i, P ⟨.sys .winWord, d, i⟩) (h2 : ∀ d i, P ⟨.sys .winEntry, d, i⟩) (h3 : ∀ a d i, P ⟨Cell.win a, d, i⟩) (h4 : ∀ i, P ⟨.sys .freeCount, 0, i⟩) (h5 : ∀ d i, P ⟨.qs .clsUsed, d, i⟩) (h6 : ∀ d i, P ⟨.qs .clsResult, d, i⟩) (h7 : ∀ d i, P ⟨.sticky .qsClsNoRoom, d, i⟩) (h8 : ∀ d i, P ⟨.qs .nClsNoRoom, d, i⟩) (h9 : ∀ d i, P ⟨.win .qsCls, d, i⟩) (h10 : ∀ a d i, P ⟨Cell.sticky a, d, i⟩) (h11 : ∀ a d i, P ⟨Cell.winDirty a, d, i⟩) (h12 : ∀ a d i, P ⟨Cell.winNew a, d, i⟩) (h13 : ∀ d i, P ⟨.qs .clsOp, d, i⟩) (h14 : ∀ d i, P ⟨.sys .winBusy, d, i⟩) (h15 : ∀ d i, P ⟨.lt .firPending, d, i⟩) (h16 : ∀ d i, P ⟨.winDirty .monSeq, d, i⟩) (h17 : ∀ a d i, P ⟨Cell.mask a, d, i⟩) (h18 : ∀ d i, P ⟨.win .monSeq, d, i⟩) (h19 : ∀ d i, P ⟨.mon .fDel, d, i⟩) (h20 : ∀ d i, P ⟨.mon .fAcc, d, i⟩) (h21 : ∀ d i, P ⟨.mon .fValid, d, i⟩) (h22 : ∀ d i, P ⟨.mon .fSub, d, i⟩) (h23 : ∀ d i, P ⟨.mon .fOuts, d, i⟩) (h24 : ∀ d i, P ⟨.mon .fPhase, d, i⟩) (h25 : ∀ d i, P ⟨.mon .fGd, d, i⟩) (h26 : ∀ d i, P ⟨.mon .fSeed, d, i⟩) (h27 : ∀ d i, P ⟨.winNew .monSeq, d, i⟩) (qclsTab : Q .clsTab) (qreports : Q .reports) :
    Reach P Q s0 (State.portWrite s port x value) := by
  unfold State.portWrite
  repeat' with_reducible first | assumption | apply State.setPtr_reach | apply State.winWrite_reach | apply State.winControl_reach | (intros; show P _ = true; apply_assumption) | split | dsimp only | intro _

theorem execWindowDataAccess_reach {port : Sys2Proof.APort} {who : Sys2Proof.Writer} {addr : Nat} {write : Bool} {value : Nat} (hs : Reach P Q s0 s) (h1 : ∀ k, P k) (qreports : Q .reports) (qreadData : Q .readData) (qrun : Q .run) (qcands : Q .cands) (qmbox : Q .mbox) (qheld : Q .held) (qtickets : Q .tickets) (qpolicy : Q .policy) (qimgPolicy : Q .imgPolicy) (qtrust : Q .trust) (qtelOut : Q .telOut) (qclsTab : Q .clsTab) (qstaged : Q .staged) (qrings : Q .rings) (qtracker : Q .tracker) (qretireQ : Q .retireQ) (qmerge : Q .merge) (qdescs : Q .descs) (qkch : Q .kch) (qfups : Q .fups) :
    ∃ t, execWindowDataAccess port who addr write value s = .next t ∧ Reach P Q s0 t := by
  unfold execWindowDataAccess
  repeat' with_reducible first | assumption | exact idle_reach hs | (refine finishIf_reach hs (fun k _ => h1 k) qreports fun x hx => ?_) | apply State.readOne_reach | apply State.imageRecord_reach | apply State.deltaWrite_reach | apply State.hostWrite_reach | apply State.portWrite_reach | (intros; exact h1 _) | split

theorem execRegisterWrite_reach {who : Sys2Proof.Writer} {addr : Nat} {mask : Nat} {value : Nat} (hs : Reach P Q s0 s) (h1 : ∀ k, P k) (qreports : Q .reports) (qrun : Q .run) (qcands : Q .cands) (qmbox : Q .mbox) (qheld : Q .held) (qtickets : Q .tickets) (qpolicy : Q .policy) (qimgPolicy : Q .imgPolicy) (qtrust : Q .trust) (qtelOut : Q .telOut) (qclsTab : Q .clsTab) (qstaged : Q .staged) (qrings : Q .rings) (qtracker : Q .tracker) (qretireQ : Q .retireQ) (qmerge : Q .merge) (qdescs : Q .descs) (qkch : Q .kch) (qfups : Q .fups) :
    ∃ t, execRegisterWrite who addr mask value s = .next t ∧ Reach P Q s0 t := by
  unfold execRegisterWrite
  repeat' with_reducible first | assumption | apply finishIf_reach | apply State.imageRecord_reach | apply State.deltaWrite_reach | apply State.hostWrite_reach | apply State.rejectWrite_reach | (intros; show P _ = true; first | exact h1 _ | apply_assumption) | split | dsimp only | intro _

theorem execW1cClear_reach {who : Sys2Proof.Writer} {addr : Nat} {value : Nat} {again : Nat} (hs : Reach P Q s0 s) (hsum : ∀ k, k.cell.summary → P k) (h11 : ∀ i, P ⟨.boot .errAddr, 0, i⟩) (h12 : ∀ i, P ⟨.boot .errDie, 0, i⟩) (h13 : ∀ i, P ⟨.boot .detail, 0, i⟩) (h14 : ∀ i, P ⟨.boot .errCode, 0, i⟩) (h15 : ∀ i, P ⟨.boot .phaseRun, 0, i⟩) (h16 : ∀ i, P ⟨.boot .phaseMs, 0, i⟩) (h17 : ∀ i, P ⟨.boot .procCalled, 0, i⟩) (h18 : ∀ d i, P ⟨.lt .muteCause, d, i⟩) (h19 : ∀ d i, P ⟨.lt .ramp, d, i⟩) (h20 : ∀ d i, P ⟨.lt .txState, d, i⟩) (h21 : ∀ d i, P ⟨.lt .otherCause, d, i⟩) (h22 : ∀ d i, P ⟨.bias .ptState, d, i⟩) (h23 : ∀ d i, P ⟨.bias .ptAcq, d, i⟩) (h24 : ∀ d i, P ⟨.bias .ptV, d, i⟩) (h25 : ∀ d i, P ⟨.bias .ptBase, d, i⟩) (h26 : ∀ d i, P ⟨.lt .nMuteEnter, d, i⟩) (h27 : ∀ d i, P ⟨.lt .begun4, d, i⟩) (h28 : ∀ d i, P ⟨.sticky .ltTxDown, d, i⟩) (h29 : ∀ d i, P ⟨.live .ltTxDown, d, i⟩) (h30 : ∀ d i, P ⟨.lt .sysCause, d, i⟩) (h31 : ∀ d i, P ⟨.bias .ptUnlRun, d, i⟩) (h32 : ∀ d i, P ⟨.bias .ptLockRun, d, i⟩) (h33 : ∀ d i, P ⟨.bias .ptTry, d, i⟩) (h34 : ∀ d i, P ⟨.bias .ptFirst, d, i⟩) (h35 : ∀ d i, P ⟨.bias .nUnlock, d, i⟩) (h36 : ∀ i, P ⟨.sys .freeCount, 0, i⟩) (h37 : ∀ d i, P ⟨.bias .outMv, d, i⟩) (h38 : ∀ d i, P ⟨.bias .ptLocked, d, i⟩) (h39 : ∀ d i, P ⟨.bias .biasLock, d, i⟩) (h40 : ∀ d i, P ⟨.sticky .biasNearRail, d, i⟩) (h41 : ∀ d i, P ⟨.live .biasNearRail, d, i⟩) (h42 : ∀ d i, P ⟨.sticky .biasRail, d, i⟩) (h43 : ∀ d i, P ⟨.live .biasRail, d, i⟩) (h44 : ∀ d i, P ⟨.sticky .biasOutFault, d, i⟩) (h45 : ∀ d i, P ⟨.live .biasOutFault, d, i⟩) (h46 : ∀ d i, P ⟨.sticky .biasUnlock, d, i⟩) (h47 : ∀ d i, P ⟨.live .biasUnlock, d, i⟩) (h48 : ∀ d i, P ⟨.bias .light, d, i⟩) (h49 : ∀ d i, P ⟨.sticky .lrLoLost, d, i⟩) (h50 : ∀ d i, P ⟨.live .lrLoLost, d, i⟩) (h51 : ∀ i, P ⟨.boot .procCode, 0, i⟩) (h52 : ∀ i, P ⟨.boot .procDone, 0, i⟩) (h53 : ∀ d i, P ⟨.live .lasFault, d, i⟩) (h54 : ∀ d i, P ⟨.las .lowCount, d, i⟩) (h55 : ∀ d i, P ⟨.las .recovering, d, i⟩) (h56 : ∀ d i, P ⟨.las .reason, d, i⟩) (h57 : ∀ d i, P ⟨.las .state, d, i⟩) (h58 : ∀ d i, P ⟨.hl .keep, d, i⟩) (h59 : ∀ d i, P ⟨.hl .state, d, i⟩) (h60 : ∀ d i, P ⟨.hl .idleRun, d, i⟩) (h61 : ∀ d i, P ⟨.hl .relock, d, i⟩) (h62 : ∀ d i, P ⟨.hl .waitSig, d, i⟩) (h63 : ∀ d i, P ⟨.hl .reqResult, d, i⟩) (h64 : ∀ d i, P ⟨.hl .reqSeq, d, i⟩) (h65 : ∀ d i, P ⟨.hl .stepFails, d, i⟩) (h66 : ∀ d i, P ⟨.hl .fellBack, d, i⟩) (h67 : ∀ d i, P ⟨.hl .switched, d, i⟩) (h68 : ∀ d i, P ⟨.hl .preNext, d, i⟩) (h69 : ∀ d i, P ⟨.hl .farCount, d, i⟩) (h70 : ∀ d i, P ⟨.hl .countdown, d, i⟩) (h71 : ∀ d i, P ⟨.hl .farPreCap, d, i⟩) (h72 : ∀ d i, P ⟨.hl .capsRun, d, i⟩) (h73 : ∀ d i, P ⟨.hl .readyLeft, d, i⟩) (h74 : ∀ d i, P ⟨.hl .readyRun, d, i⟩) (h75 : ∀ d i, P ⟨.hl .rxReady, d, i⟩) (h76 : ∀ d i, P ⟨.hl .badRun, d, i⟩) (h77 : ∀ d i, P ⟨.hl .goodRun, d, i⟩) (h78 : ∀ d i, P ⟨.hl .fLock, d, i⟩) (h79 : ∀ d i, P ⟨.sticky .hlpLinkDown, d, i⟩) (h80 : ∀ d i, P ⟨.live .hlpLinkDown, d, i⟩) (h81 : ∀ d i, P ⟨.hl .pGear, d, i⟩) (h82 : ∀ d i, P ⟨.hl .pState, d, i⟩) (h83 : ∀ d i, P ⟨.hl .corrTx, d, i⟩) (h84 : ∀ d i, P ⟨.hl .corrRx, d, i⟩) (h85 : ∀ i, P ⟨.boot .state, 0, i⟩) (h86 : ∀ i, P ⟨.sticky .bootRestarted, 0, i⟩) (h87 : ∀ i, P ⟨.live .bootRestarted, 0, i⟩) (h88 : ∀ i, P ⟨.ao .triesB, 0, i⟩) (h89 : ∀ i, P ⟨.ao .triesA, 0, i⟩) (h90 : ∀ i, P ⟨.tkt .ctrLast, 0, i⟩) (h91 : ∀ i, P ⟨.boot .recIndex, 0, i⟩) (h92 : ∀ a d i, P ⟨Cell.sticky a, d, i⟩) (h93 : ∀ i, P ⟨.tkt .nHostWrRej, 0, i⟩) (h94 : ∀ i, P ⟨.tkt .hostWrRejAddr, 0, i⟩) (h95 : ∀ i, P ⟨.tkt .rejHeld, 0, i⟩) (qreports : Q .reports) (qrun : Q .run) :
    ∃ t, execW1cClear who addr value again s = .next t ∧ Reach P Q s0 t := by
  unfold execW1cClear
  repeat' with_reducible first | assumption | apply finishIf_reach | apply State.recordFail_reach | apply State.recordDone_reach | apply State.clearOnes_reach | apply State.hostClear_reach | (intros; show P _ = true; first | exact hsum _ rfl | (clear hsum; apply_assumption)) | split | dsimp only | intro _

end Sys2Proof.Machine
end

