-- ==== Sys2Proof/Laws/MovesLineFrame.lean ====
section
/-!
SUPPORT. What the operations of Machine/LineFrame.lean may change, one lemma each (Laws/Reach.lean).
-/
namespace Sys2Proof.Machine

set_option linter.unusedTactic false
set_option linter.unreachableTactic false

variable {P : Key → Bool} {Q : Part → Bool} {s0 s : State}

theorem State.checkFrame_reach {d : Nat} {f : Sys2Proof.LineFrame} (hs : Reach P Q s0 s) (h1 : ∀ i, P ⟨.ct .misses, d, i⟩) (h2 : ∀ i, P ⟨.ct .nOofEnter, d, i⟩) (h3 : ∀ i, P ⟨.ct .mfasSeen, d, i⟩) (h4 : ∀ i, P ⟨.ct .inFrame, d, i⟩) (qcands : Q .cands) :
    Reach P Q s0 (State.checkFrame s d f) := by
  unfold State.checkFrame
  repeat' with_reducible first | assumption | apply State.set_reach | apply State.loseFrame_reach | (intros; show P _ = true; apply_assumption) | split | dsimp only | intro _

theorem execLineFrameTx_reach {d : Nat} (hs : Reach P Q s0 s) (hsum : ∀ k, k.cell.summary → P k) (h11 : ∀ i, P ⟨.ct .txLmfn, d, i⟩) (h12 : ∀ i, P ⟨.ct .sentFn, d, i⟩) (h13 : ∀ i, P ⟨.ct .txFn, 0, i⟩) (h14 : ∀ i, P ⟨.ct .beiTx, d, i⟩) (h15 : ∀ i, P ⟨.ct .txSmTti, d, i⟩) (h16 : ∀ i, P ⟨.ct .txSmBdi, d, i⟩) (h17 : ∀ i, P ⟨.ct .txSmBei, d, i⟩) (h18 : ∀ i, P ⟨.ct .txDer, d, i⟩) (qreports : Q .reports) :
    ∃ t, execLineFrameTx d s = .next t ∧ Reach P Q s0 t := by
  unfold execLineFrameTx
  repeat' with_reducible first | assumption | apply finishIf_reach | apply State.set_reach | apply foldl_reach | (intros; show P _ = true; first | exact hsum _ rfl | (clear hsum; apply_assumption)) | split | dsimp only | intro _

theorem State.readDer_reach {d : Nat} {f : Sys2Proof.LineFrame} (hs : Reach P Q s0 s) (h1 : ∀ i, P ⟨.der .rxRun, d, i⟩) (h2 : ∀ i, P ⟨.der .nOhCrc, d, i⟩) (h3 : ∀ i, P ⟨.der .rxLast, d, i⟩) (h4 : ∀ i, P ⟨.der .farRxDone, d, i⟩) (h5 : ∀ i, P ⟨.der .rxKind, d, i⟩) (h6 : ∀ i, P ⟨.der .rxEpoch, d, i⟩) (h7 : ∀ i, P ⟨.der .rxEpochHeld, d, i⟩) (h8 : ∀ i, P ⟨.der .farEpoch, 0, i⟩) :
    Reach P Q s0 (State.readDer s d f) := by
  unfold State.readDer
  repeat' with_reducible first | assumption | apply State.set_reach | apply State.inc_reach | apply State.setB_reach | apply State.learnEpoch_reach | apply State.when_reach | (intros; show P _ = true; apply_assumption) | split | dsimp only | intro _

theorem State.enterFrame_reach {d : Nat} {offset : Nat} (hs : Reach P Q s0 s) (h1 : ∀ i, P ⟨.ct .lmfnRun, d, i⟩) (h2 : ∀ i, P ⟨.ct .lmfnValid, d, i⟩) (h3 : ∀ i, P ⟨.ct .mfasSeen, d, i⟩) (h4 : ∀ i, P ⟨.ct .misses, d, i⟩) (h5 : ∀ i, P ⟨.ct .framePos, d, i⟩) (h6 : ∀ i, P ⟨.ct .inFrame, d, i⟩) (qcands : Q .cands) :
    Reach P Q s0 (State.enterFrame s d offset) := by
  unfold State.enterFrame
  repeat' with_reducible first | assumption | apply State.clearCands_reach | apply State.set_reach | (intros; show P _ = true; apply_assumption) | split | dsimp only | intro _

theorem State.readSm_reach {d : Nat} {f : Sys2Proof.LineFrame} (hs : Reach P Q s0 s) (h1 : ∀ i, P ⟨.sticky .ctSmBdiRx, d, i⟩) (h2 : ∀ i, P ⟨.live .ctSmBdiRx, d, i⟩) (h3 : ∀ i, P ⟨.ct .beiTx, d, i⟩) (h4 : ∀ i, P ⟨.ct .nSmBei, d, i⟩) (h5 : ∀ i, P ⟨.ct .nSmBip, d, i⟩) (h6 : ∀ i, P ⟨.ct .ttiRun, d, i⟩) (h7 : ∀ i, P ⟨.ct .ttiLast, d, i⟩) (h8 : ∀ i, P ⟨.win .ctTti, d, i⟩) (h9 : ∀ i, P ⟨.sticky .ctSmTim, d, i⟩) (h10 : ∀ i, P ⟨.live .ctSmTim, d, i⟩) (h11 : ∀ i, P ⟨.sticky .fecBipOnly, d, i⟩) (h12 : ∀ i, P ⟨.fec .nBipOnly, d, i⟩) (qreports : Q .reports) :
    Reach P Q s0 (State.readSm s d f) := by
  unfold State.readSm
  repeat' with_reducible first | assumption | apply State.cond_reach | apply State.set_reach | apply State.add_reach | apply State.ttiRead_reach | apply State.when_reach | apply State.bipOnly_reach | (intros; show P _ = true; apply_assumption) | split | dsimp only | intro _

theorem State.searchFrame_reach {d : Nat} {f : Sys2Proof.LineFrame} (hs : Reach P Q s0 s) (h1 : ∀ i, P ⟨.ct .nCandRej, d, i⟩) (h2 : ∀ i, P ⟨.ct .lmfnRun, d, i⟩) (h3 : ∀ i, P ⟨.ct .lmfnValid, d, i⟩) (h4 : ∀ i, P ⟨.ct .mfasSeen, d, i⟩) (h5 : ∀ i, P ⟨.ct .misses, d, i⟩) (h6 : ∀ i, P ⟨.ct .framePos, d, i⟩) (h7 : ∀ i, P ⟨.ct .inFrame, d, i⟩) (qcands : Q .cands) :
    Reach P Q s0 (State.searchFrame s d f) := by
  unfold State.searchFrame
  repeat' with_reducible first | assumption | apply State.add_reach | apply State.enterFrame_reach | (intros; show P _ = true; apply_assumption) | split | dsimp only | intro _ | apply State.cands_reach

theorem State.readFn_reach {d : Nat} {f : Sys2Proof.LineFrame} (hs : Reach P Q s0 s) (h1 : ∀ i, P ⟨.ct .rxLmfn, d, i⟩) (h2 : ∀ i, P ⟨.sticky .ctLmfnErr, d, i⟩) (h3 : ∀ i, P ⟨.live .ctLmfnErr, d, i⟩) (h4 : ∀ i, P ⟨.ct .nLmfnErr, d, i⟩) (h5 : ∀ i, P ⟨.ct .lmfnRun, d, i⟩) (h6 : ∀ i, P ⟨.ct .lmfnCand, d, i⟩) (h7 : ∀ i, P ⟨.ct .lmfnValid, d, i⟩) (h8 : ∀ i, P ⟨.ct .mfasSeen, d, i⟩) (h9 : ∀ i, P ⟨.ct .mfas, d, i⟩) (qreports : Q .reports) :
    Reach P Q s0 (State.readFn s d f) := by
  unfold State.readFn
  repeat' with_reducible first | assumption | apply State.set_reach | apply State.raise_reach | apply State.inc_reach | apply State.lower_reach | (intros; show P _ = true; apply_assumption) | split | dsimp only | intro _

theorem execLineFrameRx_reach {d : Nat} {f : Sys2Proof.LineFrame} (hs : Reach P Q s0 s) (hsum : ∀ k, k.cell.summary → P k) (h11 : ∀ i, P ⟨.ct .misses, d, i⟩) (h12 : ∀ i, P ⟨.ct .nOofEnter, d, i⟩) (h13 : ∀ i, P ⟨.ct .mfasSeen, d, i⟩) (h14 : ∀ i, P ⟨.ct .inFrame, d, i⟩) (h15 : ∀ i, P ⟨.ct .nCandRej, d, i⟩) (h16 : ∀ i, P ⟨.ct .lmfnRun, d, i⟩) (h17 : ∀ i, P ⟨.ct .lmfnValid, d, i⟩) (h18 : ∀ i, P ⟨.ct .framePos, d, i⟩) (h19 : ∀ i, P ⟨.der .rxRun, d, i⟩) (h20 : ∀ i, P ⟨.der .nOhCrc, d, i⟩) (h21 : ∀ i, P ⟨.der .rxLast, d, i⟩) (h22 : ∀ i, P ⟨.der .farRxDone, d, i⟩) (h23 : ∀ i, P ⟨.der .rxKind, d, i⟩) (h24 : ∀ i, P ⟨.der .rxEpoch, d, i⟩) (h25 : ∀ i, P ⟨.der .rxEpochHeld, d, i⟩) (h26 : ∀ i, P ⟨.der .farEpoch, 0, i⟩) (h27 : ∀ i, P ⟨.sticky .ctSmBdiRx, d, i⟩) (h28 : ∀ i, P ⟨.live .ctSmBdiRx, d, i⟩) (h29 : ∀ i, P ⟨.ct .beiTx, d, i⟩) (h30 : ∀ i, P ⟨.ct .nSmBei, d, i⟩) (h31 : ∀ i, P ⟨.ct .nSmBip, d, i⟩) (h32 : ∀ i, P ⟨.ct .ttiRun, d, i⟩) (h33 : ∀ i, P ⟨.ct .ttiLast, d, i⟩) (h34 : ∀ i, P ⟨.win .ctTti, d, i⟩) (h35 : ∀ i, P ⟨.sticky .ctSmTim, d, i⟩) (h36 : ∀ i, P ⟨.live .ctSmTim, d, i⟩) (h37 : ∀ i, P ⟨.sticky .fecBipOnly, d, i⟩) (h38 : ∀ i, P ⟨.fec .nBipOnly, d, i⟩) (h39 : ∀ i, P ⟨.ct .rxLmfn, d, i⟩) (h40 : ∀ i, P ⟨.sticky .ctLmfnErr, d, i⟩) (h41 : ∀ i, P ⟨.live .ctLmfnErr, d, i⟩) (h42 : ∀ i, P ⟨.ct .nLmfnErr, d, i⟩) (h43 : ∀ i, P ⟨.ct .lmfnCand, d, i⟩) (h44 : ∀ i, P ⟨.ct .mfas, d, i⟩) (h45 : ∀ i, P ⟨.tim .evtNext, d, i⟩) (h46 : ∀ i, P ⟨.tim .evtAt, d, i⟩) (h47 : ∀ d i, P ⟨.sticky .ctnSf, d, i⟩) (h48 : ∀ d i, P ⟨.live .ctnSf, d, i⟩) (h49 : ∀ i, P ⟨.sticky .ctOof, d, i⟩) (h50 : ∀ i, P ⟨.live .ctOof, d, i⟩) (h51 : ∀ i, P ⟨.sticky .ctLof, d, i⟩) (h52 : ∀ i, P ⟨.live .ctLof, d, i⟩) (h53 : ∀ i, P ⟨.ct .candCount, d, i⟩) (h54 : ∀ i, P ⟨.ct .align, d, i⟩) (qreports : Q .reports) (qcands : Q .cands) :
    ∃ t, execLineFrameRx d f s = .next t ∧ Reach P Q s0 t := by
  unfold execLineFrameRx
  repeat' with_reducible first | assumption | apply finishIf_reach | apply State.checkFrame_reach | apply State.searchFrame_reach | apply State.readDer_reach | apply State.readSm_reach | apply State.readFn_reach | apply State.alignRefresh_reach | (intros; show P _ = true; first | exact hsum _ rfl | (clear hsum; apply_assumption)) | split | dsimp only | intro _

end Sys2Proof.Machine
end

