-- ==== Sys2Proof/Laws/MovesStep.lean ====
section
/-!
SUPPORT. What the operations of Machine/Step.lean may change, one lemma each (Laws/Reach.lean).
-/
namespace Sys2Proof.Machine

set_option linter.unusedTactic false
set_option linter.unreachableTactic false

variable {P : Key → Bool} {Q : Part → Bool} {s0 s : State}

theorem State.idleTick_reach (hs : Reach P Q s0 s) (h1 : ∀ i, P ⟨.sys .time, 0, i⟩) (h2 : ∀ i, P ⟨.tim .aoNs, 0, i⟩) (h3 : ∀ i, P ⟨.tim .aoSec, 0, i⟩) (h4 : ∀ i, P ⟨.tim .tbSub, 0, i⟩) (h5 : ∀ i, P ⟨.tim .tbFrac, 0, i⟩) (h6 : ∀ i, P ⟨.tim .tbNs, 0, i⟩) (h7 : ∀ i, P ⟨.tim .tbSec, 0, i⟩) :
    Reach P Q s0 (State.idleTick s) := by
  unfold State.idleTick
  repeat' with_reducible first | assumption | apply State.set_reach | apply State.aoTick_reach | apply State.each_reach | apply State.tbTick_reach | (intros; show P _ = true; apply_assumption) | split | dsimp only | intro _

end Sys2Proof.Machine
end

