-- ==== Sys2Proof/Laws/Transmit.lean ====
section
/-!
SUPPORT. What `muteRefresh` does in each of the cases of R88.
-/
namespace Sys2Proof.Machine

variable {s : State} {d : Nat}

/-- With TX_EN at 0 no cause shows. -/
theorem State.muteRefresh_off (h : s.flag (.lt .txEn) d 0 = false) :
    s.muteRefresh d = (s.set (.lt .muteCause) d 0 0).txDownCond d := by
  simp [State.muteRefresh, h]

/-- With no cause, a transmitter that is not MUTED, or ramps, keeps its state. -/
theorem State.muteRefresh_quiet (h : s.flag (.lt .txEn) d 0 = true) (hc : s.muteCauses d = 0)
    (hn : s.txState d ≠ txMuted ∨ s.flag (.lt .ramp) d 0 = true) :
    s.muteRefresh d = (s.set (.lt .muteCause) d 0 0).txDownCond d := by
  unfold State.muteRefresh
  have hb : (decide (s.txState d = txMuted) && !s.flag (.lt .ramp) d 0) = false := by
    rcases hn with hn | hn <;> simp [hn]
  simp [h, hc, hb, bit]

/-- With no cause left, MUTED ends. -/
theorem State.muteRefresh_resume (h : s.flag (.lt .txEn) d 0 = true) (hc : s.muteCauses d = 0)
    (hn : s.txState d = txMuted) (hr : s.flag (.lt .ramp) d 0 = false) :
    s.muteRefresh d = ((s.set (.lt .muteCause) d 0 0).txResume d).txDownCond d := by
  simp [State.muteRefresh, h, hc, hn, hr]

/-- MUTE, a system cause, or any cause from step 4 on mutes a transmitter that is not MUTED, or ramps. -/
theorem State.muteRefresh_enter (h : s.flag (.lt .txEn) d 0 = true)
    (hm : (bit (s.muteCauses d) 0 || bit (s.muteCauses d) 3 || (s.txBegun d && decide (s.muteCauses d ≠ 0))) = true)
    (hn : s.txState d ≠ txMuted ∨ s.flag (.lt .ramp) d 0 = true) :
    s.muteRefresh d = ((s.set (.lt .muteCause) d 0 (s.muteCauses d)).txEnterMuted d (s.muteCauses d)).txDownCond d := by
  unfold State.muteRefresh
  have hb : (decide (s.txState d = txMuted) && !s.flag (.lt .ramp) d 0) = false := by
    rcases hn with hn | hn <;> simp [hn]
  simp only [h, if_true, hb, Bool.false_eq_true, if_false, hm, State.when_true]

theorem State.get_phaseIdle {c : Cell} (h1 : c ≠ .bias .ptBase) (h2 : c ≠ .bias .ptV) (h3 : c ≠ .bias .ptAcq)
    (h4 : c ≠ .bias .ptState) (e i : Nat) : (s.phaseIdle d).get c e i = s.get c e i :=
  (State.phaseIdle_reach (P := fun k => decide (k.cell = .bias .ptBase) || decide (k.cell = .bias .ptV) ||
    decide (k.cell = .bias .ptAcq) || decide (k.cell = .bias .ptState)) (Q := fun _ => true) (Reach.refl (s := s))
    (by simp) (by simp) (by simp) (by simp)).cells ⟨c, e, i⟩ (by simp [*])

theorem State.get_phaseDrive {c : Cell} (h : ∀ x, c ≠ .bias x) (e i : Nat) : (s.phaseDrive d).get c e i = s.get c e i :=
  (State.phaseDrive_reach (P := fun k => match k.cell with | .bias _ => true | _ => false) (Q := fun _ => true)
    (Reach.refl (s := s)) (by simp) (by simp) (by simp) (by simp) (by simp)).cells ⟨c, e, i⟩ (by cases c <;> simp_all)

theorem State.get_txDownCond {c : Cell} (h1 : c ≠ .live .ltTxDown) (h2 : c ≠ .sticky .ltTxDown) (e i : Nat) :
    (s.txDownCond d).get c e i = s.get c e i := State.get_cond h1 h2 ..

/-- TX_DOWN is live exactly while TX_EN is 1 and the state is not ACTIVE. -/
theorem State.txDownCond_live :
    (s.txDownCond d).flag (.live .ltTxDown) d 0 = (s.flag (.lt .txEn) d 0 && decide (s.txState d ≠ txActive)) :=
  State.cond_live ..

end Sys2Proof.Machine
end

