-- ==== Sys2Proof/Machine/Package.lean ====
section
/-!
DEFINITION. The package as data (R424, R435, R476 to R498): the supplies with their windows, the ball map, pins, ratings,
and the thermal, optical and mechanical figures.  No command changes any of it; the figures are limits on the board and the
surroundings, in the units that each docstring gives.
-/
namespace Sys2Proof.Machine

-- Supplies (R424, R425).

/-- The rails in the order of R424. -/
inductive Rail where
  | ao | vio | core | srds | srdsH | conv | convH | pan | panQ | oe | hvp | hvn
  deriving DecidableEq, Repr

/-- A rail: nominal, low and high edge of its window in 0.1 mV, and its largest current on an IQ3208 in mA (R424). -/
structure RailInfo where
  nominal : Int
  low : Int
  high : Int
  amps : Nat
  deriving DecidableEq, Repr
def Rail.info : Rail → RailInfo
  | .ao => ⟨9000, 8550, 9450, 3300⟩
  | .vio => ⟨18000, 17100, 18900, 560⟩
  | .core => ⟨7000, 6650, 7350, 440000⟩
  | .srds => ⟨8000, 7600, 8400, 80000⟩
  | .srdsH => ⟨12000, 11400, 12600, 26700⟩
  | .conv => ⟨9000, 8550, 9450, 160000⟩
  | .convH => ⟨15000, 14250, 15750, 40000⟩
  | .pan => ⟨10500, 9975, 11025, 120000⟩
  | .panQ => ⟨4500, 4275, 4725, 146700⟩
  | .oe => ⟨33000, 31350, 34650, 14500⟩
  | .hvp => ⟨180000, 171000, 189000, 220⟩
  | .hvn => ⟨-180000, -189000, -171000, 220⟩

/-- A voltage in 0.1 mV lies in the rail's good window. -/
def Rail.good (r : Rail) (v : Int) : Bool := decide (r.info.low ≤ v) && decide (v ≤ r.info.high)

/-- The largest current in mA with `n` carrier slots: every rail but VDD_AO and VIO scales with them (R424). -/
def Rail.maxAmps (r : Rail) (n : Nat) : Nat :=
  match r with
  | .ao | .vio => r.info.amps
  | r => r.info.amps * n / 8

/-- Power in mW (R435): a carrier die, a stack, an optical engine, the Lantern, an IQ3208 at most and typically, a slot in
Kickstand, the package in Kickstand (less than this), and the always-on island. -/
def powerTable : List Nat := [76000, 24000, 7000, 4000, 860000, 720000, 1500, 4000, 120]

-- Balls (R476 to R480).

/-- The letters of the row names (R476). -/
def rowLetters : List Char := ['A', 'B', 'C', 'D', 'E', 'F', 'G', 'H', 'J', 'K', 'L', 'M', 'N', 'P', 'T', 'U', 'V', 'W', 'Y']

/-- The name of row `n`, from 1 at the north edge to 88. -/
def rowName (n : Nat) : List Char :=
  let last := rowLetters.getD ((n - 1) % 19) 'A'
  if n ≤ 19 then [last] else [rowLetters.getD ((n - 1) / 19 - 1) 'A', last]

/-- The balls of each group (R477): host lanes, the rails from VDD_CORE on, control, RSV and VSS. -/
def ballGroups : List Nat := [512, 1170, 429, 117, 351, 390, 234, 78, 64, 10, 4, 4, 4, 104, 24, 4249]

/-- A ball of the power field: rows 4 to 76, columns 6 to 83 (R478). -/
def powerField (row col : Nat) : Bool := decide (4 ≤ row) && decide (row ≤ 76) && decide (6 ≤ col) && decide (col ≤ 83)

/-- The rail of a ball of the power field; none: VSS (R478). -/
def powerBall (row col : Nat) : Option Rail :=
  if !powerField row col || (row + col) % 2 = 0 then none
  else if row = 4 then some (if col ≤ 25 then .ao else if col ≤ 33 then .vio else .oe)
  else if row = 5 then some .oe
  else if row ≤ 8 then some .convH
  else if row ≤ 19 then some .conv
  else if row ≤ 49 then some .core
  else if row ≤ 58 then some .pan
  else if row ≤ 68 then some .panQ
  else if row ≤ 74 then some .srds
  else some .srdsH

/-- Row and column of the P ball of host lane `l`, toward the host or from it; N is one column further east (R479). -/
def laneBall (l : Nat) (toHost : Bool) : Nat × Nat :=
  ((if toHost then 88 else 82) - l % 16 / 3, 11 * (l / 16) + 2 + 3 * (l % 16 % 3))

/-- Row and column of LAS_SCL, LAS_PRS_N and LAS_SDA of port `p`, and of BRAKE_N of die `d` (R480). -/
def lasBalls (p : Nat) : List (Nat × Nat) := [(3, 11 * p + 5), (3, 11 * p + 6), (3, 11 * p + 7)]
def brakeBall (d : Nat) : Nat × Nat := (2, 11 * d + 7)

/-- The balls of VHVP and VHVN (R480). -/
def hvBalls : List (Nat × Nat) := [(1, 2), (1, 3), (2, 2), (2, 3), (1, 86), (1, 87), (2, 86), (2, 87)]

-- Control pins (R481).

/-- What a control pin does while the lead die is in reset or gated. -/
inductive ResetPin where
  | active | ignored | low | highZ | released | clkHold
  deriving DecidableEq, Repr

/-- The groups of R481 in its order, FAULT_N and ALERT_N apart (they follow the alarms). -/
def resetPins : List ResetPin :=
  [.active, .ignored, .low, .highZ, .highZ, .ignored, .highZ, .released, .ignored, .ignored, .low, .clkHold, .active, .active,
    .highZ]

-- Ratings and conditions (R484 to R486).

/-- Absolute limits in mV: VDD_CORE, VDDQ_PAN, VDD_SRDS with VDD_AO and VDD_CONV, VDD_PAN, VDDH_SRDS, VDDH_CONV, VIO, VDD_OE,
VHVP and VHVN (R484). -/
def ratings : List (Int × Int) :=
  [(-300, 850), (-300, 550), (-300, 1000), (-300, 1200), (-300, 1400), (-300, 1700), (-300, 2000), (-300, 3800),
    (-300, 20000), (-20000, 300)]

/-- Operating temperatures in degrees Celsius: case and carrier dies; a stack and an engine have an upper limit (R485). -/
def caseOk (t : Int) : Bool := decide (-5 ≤ t) && decide (t ≤ 80)
def dieTempOk (t : Int) : Bool := decide (-5 ≤ t) && decide (t ≤ 110)
def stackTempOk (t : Int) : Bool := decide (t ≤ 95)
def engineTempOk (t : Int) : Bool := decide (t ≤ 90)

/-- A rail rises from 10 % to 90 % in 0.1 to 10 ms (time in µs, R486). -/
def riseOk (us : Nat) : Bool := decide (100 ≤ us) && decide (us ≤ 10000)

-- Electrical characteristics (R487 to R492).

/-- Nyquist frequency in kHz, insertion loss in dB and pre-FEC error exponent base of Gears 1 to 4 (R488). -/
def gearLoss : List (Nat × Nat) := [(13280000, 30), (13280000, 28), (26560000, 24), (53125000, 20)]

/-- Host-lane levels in mV peak-to-peak: swing, idle, largest input, present, lost (R488). -/
def laneLevels : List Nat := [800, 1000, 30, 1200, 100, 50]

/-- The source at CALREF in µV (R491). -/
def calRefOk (uv : Nat) : Bool := decide (1000000 ≤ uv) && decide (uv ≤ 2400000)

-- Thermal, optical and mechanical figures (R493 to R498).

/-- Junction above case in 0.1 °C at `mw` milliwatts with a resistance in 0.01 °C/W (R493). -/
def riseAbove (res mw : Nat) : Nat := res * mw / 10000

/-- The fibre behind a position of the receptacle: transmit fibres, laser inputs, receive fibres (R495). -/
inductive Fibre where
  | tx (d : Nat) | las (d : Nat) | rx (d : Nat)
  deriving DecidableEq, Repr
def fibreAt (pos : Nat) : Option Fibre :=
  if 1 ≤ pos ∧ pos ≤ 8 then some (.tx (pos - 1))
  else if 9 ≤ pos ∧ pos ≤ 12 then some (.las (pos - 9))
  else if 13 ≤ pos ∧ pos ≤ 20 then some (.rx (pos - 13))
  else if 21 ≤ pos ∧ pos ≤ 24 then some (.las (pos - 17))
  else none

/-- Optical powers in 0.1 dBm: laser input, transmit output at 18 dBm, receive input (R496). -/
def laserInOk (p : Int) : Bool := decide (140 ≤ p) && decide (p ≤ 200)
def txOutOk (p : Int) : Bool := decide (-10 ≤ p) && decide (p ≤ 30)
def rxInOk (p : Int) : Bool := decide (-200 ≤ p) && decide (p ≤ 30)

/-- Reflow: peak 230 to 245 °C, 60 to 120 s above 217 °C, at most three cycles (R497). -/
def reflowOk (peak seconds cycles : Nat) : Bool :=
  decide (230 ≤ peak) && decide (peak ≤ 245) && decide (60 ≤ seconds) && decide (seconds ≤ 120) && decide (cycles ≤ 3)

/-- The body in 0.1 mm: length, width, height (R498). -/
def bodySize : Nat × Nat × Nat := (900, 900, 58)

end Sys2Proof.Machine
end

