-- ==== Sys2Proof/WellFormed.lean ====
section
/-!
DEFINITION. Which commands are well formed: every die, port, lane, container, queue or other index operand names one
that the largest variant has (R1, R7, R8, R13), and every value that travels in a field of fixed width fits it.
-/
namespace Sys2Proof

/-- The range of every index and fixed-width operand of a command. -/
def Instr.wellFormed : Instr → Bool
  | .registerWrite _ addr mask value => addr < 2 ^ 32 && mask < 2 ^ 32 && value < 2 ^ 32
  | .w1cClear _ addr value again => addr < 2 ^ 32 && value < 2 ^ 32 && again < 2 ^ 32
  | .hostRead addr _ => addr < 2 ^ 32
  | .partialWordAccess _ addr _ => addr < 2 ^ 32
  | .spiReadCommand wordAddr _ => wordAddr < 2 ^ 24
  | .spiOtherCommand code _ => code < 2 ^ 8
  | .counterLowRead _ addr => addr < 2 ^ 32
  | .counterHighRead _ addr => addr < 2 ^ 32
  | .timTbNsRead _ tb => tb < 4
  | .monFiltStatRead _ d f => d < 8 && f < 4
  | .windowDataAccess _ _ addr _ value => addr < 2 ^ 32 && value < 2 ^ 32
  | .chainFlitTx d p _ => d < 8 && p < 2
  | .chainFlitRx d p seq _ cls _ => d < 8 && p < 2 && seq < 2 ^ 64 && cls < 5
  | .chainPortEnable d p => d < 8 && p < 2
  | .chainPortDisable d p => d < 8 && p < 2
  | .chainTrainAttemptEnd d p _ _ peer => d < 8 && p < 2 && peer < 8
  | .chainClkLoss d p => d < 8 && p < 2
  | .chainReplayLimit d p => d < 8 && p < 2
  | .chainPeerRetrain d p => d < 8 && p < 2
  | .chainHeldFlitRelease d => d < 8
  | .spokeFrameRx d _ => d < 8
  | .spokeLost d => d < 8
  | .powerGood => true
  | .leadDieRelease _ _ _ _ => true
  | .flashDiscovery _ => true
  | .imageSegmentRead slot seg _ _ => 1 ≤ slot && slot ≤ 2 && 1 ≤ seg && seg ≤ 4
  | .imageVerify _ _ => true
  | .phaseStart phase _ budget memberRecords => phase < 8 && budget < 2 ^ 16 && memberRecords < 2 ^ 16
  | .memberDieReady d _ => d < 8
  | .memberDieTimeout d => d < 8
  | .phaseTimeout => true
  | .recordWrite addr mask value => addr < 2 ^ 32 && mask < 2 ^ 32 && value < 2 ^ 32
  | .recordFill addr mask value count stride => addr < 2 ^ 32 && mask < 2 ^ 32 && value < 2 ^ 32 && count < 2 ^ 32 && stride < 2 ^ 32
  | .recordTable window first _ _ => window < 2 ^ 32 && first < 2 ^ 32
  | .recordWaitUs us => us < 2 ^ 32
  | .waitUsExpiry => true
  | .recordPollUntil addr mask value timeoutUs => addr < 2 ^ 32 && mask < 2 ^ 32 && value < 2 ^ 32 && timeoutUs < 2 ^ 32
  | .pollUntilMatch => true
  | .pollUntilTimeout => true
  | .recordProc id _ => id < 2 ^ 32
  | .procReturn => true
  | .pannierInit d _ _ _ _ _ => d < 8
  | .eccSelftest d _ => d < 8
  | .applyRepair d _ => d < 8
  | .laserDiscover d _ => d < 8
  | .calConverters d _ _ => d < 8
  | .biasStart d _ => d < 8
  | .bellDiscover d => d < 8
  | .keyAgree => true
  | .acquireLine d _ _ => d < 8
  | .hostGears d => d < 8
  | .openTraffic => true
  | .restartWaitExpiry => true
  | .ticketGoWrite value => value < 2 ^ 32
  | .ticketRingTailWrite value => value < 2 ^ 32
  | .ticketFetchDone entryLen _ => entryLen < 2 ^ 32
  | .ticketExecTimeout => true
  | .journalEraseDone => true
  | .applyDelta _ => true
  | .derShiftInitiate _ => true
  | .derShiftRespond _ => true
  | .protectionClear _ => true
  | .protectionLo _ => true
  | .protectionFs _ => true
  | .protectionMsP _ => true
  | .protectionMsW _ => true
  | .containerAdd _ => true
  | .containerChange _ => true
  | .containerDelete _ => true
  | .queueAdd _ => true
  | .queueChange _ => true
  | .queueDelete _ => true
  | .shaperChange _ => true
  | .rekeyNow _ => true
  | .rekeyNowSpan _ => true
  | .rekeyNowAll _ => true
  | .kickstandEnterCarrier _ => true
  | .kickstandEnterPackage _ => true
  | .kickstandLeave _ => true
  | .clearSec _ => true
  | .blowRepairRow _ => true
  | .blowRepairColumn _ => true
  | .restart _ => true
  | .restartInFailed _ _ => true
  | .flashRelease _ => true
  | .flashReclaim _ => true
  | .advanceSvn _ => true
  | .txEnRise d _ => d < 8
  | .txEnFall d => d < 8
  | .txWaitEnd d => d < 8
  | .txRampComplete d => d < 8
  | .txMuteCauseSet d c => d < 8 && c < 4
  | .txMuteCauseClear d c => d < 8 && c < 4
  | .dspFrameBoundary d => d < 8
  | .dacClipWindow d clipped => d < 8 && clipped < 2 ^ 32
  | .ltFirApply d => d < 8
  | .lasTransaction p _ _ => p < 8
  | .lasRetryWaitExpiry p => p < 8
  | .lasPresenceLost p => p < 8
  | .lasPoll p _ => p < 8
  | .lasTuneTimeout p => p < 8
  | .lasRecoverTimer p _ => p < 8
  | .lasGridChange p n => p < 8 && n < 2 ^ 16
  | .lasEnRise p => p < 8
  | .lasEnFall p => p < 8
  | .rxEnRise d _ _ => d < 8
  | .rxEnFall d => d < 8
  | .acqStepPass d _ => d < 8
  | .acqStepTimeout d => d < 8
  | .failedWaitExpiry d => d < 8
  | .rxLos d _ => d < 8
  | .rxPowerReturn d _ => d < 8
  | .holdExpiry d => d < 8
  | .rxLoLost d => d < 8
  | .eqSlip d => d < 8
  | .syncLoss d => d < 8
  | .freqOffsetExceeded d => d < 8
  | .cycleSlip d => d < 8
  | .agcFastStep d => d < 8
  | .adcClipWindow d t clipped => d < 8 && t < 4 && clipped < 2 ^ 32
  | .adcOverload d _ => d < 8
  | .rxPwrLow d _ => d < 8
  | .cdReprogram d _ => d < 8
  | .qualityWindowEnd d _ => d < 8
  | .superframeEncodeStart d => d < 8
  | .fecLockCandidate d _ _ => d < 8
  | .codewordDecode d _ iter => d < 8 && 1 ≤ iter && iter ≤ 32
  | .outerRowExit d outer ones zeros residual => d < 8 && outer < 2 ^ 16 && ones < 2 ^ 16 && zeros < 2 ^ 16 && residual < 2 ^ 16
  | .fecSfInterval d => d < 8
  | .fasPatternFound d _ => d < 8
  | .lineFrameRx d _ => d < 8
  | .lofTimer d => d < 8
  | .containerFrameRx d i _ => d < 8 && i < 512
  | .gapMarkerRx d i drops _ => d < 8 && i < 512 && drops < 2 ^ 16
  | .errorMarkerRx d i _ => d < 8 && i < 512
  | .apsFopTimer d i => d < 8 && i < 512
  | .pmDegSecond d i => d < 8 && i < 512
  | .bondArrivalReport d _ => d < 8
  | .bondRealign d => d < 8
  | .gcc0FrameRx d _ address => d < 8 && address < 2 ^ 8
  | .ctWindowCommit d w => d < 8 && w < 4
  | .ctCommitApply d => d < 8
  | .tandemFrameDeliver d i _ _ _ => d < 8 && i < 512
  | .tandemSelect d i => d < 8 && i < 512
  | .tandemHoldoffExpiry d i => d < 8 && i < 512
  | .tandemWtrExpiry d i => d < 8 && i < 512
  | .sealRequestClear d i => d < 8 && i < 512
  | .tandemRealign d i _ _ _ => d < 8 && i < 512
  | .tandemPathPresence d i _ _ => d < 8 && i < 512
  | .pelEnvelopeRx d p _ word expected => d < 8 && p < 2 && word < 2 ^ 16 && expected < 2 ^ 16
  | .pelNeighbourEvent d p _ _ => d < 8 && p < 2
  | .pelSuspendExpiry d => d < 8
  | .derProposeRx _ _ _ => true
  | .derArmedRx _ => true
  | .derRefuseRx _ reason unit => reason < 16 && unit < 8
  | .derCommitRx _ epoch => epoch < 2 ^ 32
  | .derCancelRx _ reason => reason < 16
  | .derDoneRx _ => true
  | .derResendTimer => true
  | .derUnitArmReport d => d < 8
  | .derArmTimeout => true
  | .derLatchPoint d _ => d < 8
  | .derTxSwitch d => d < 8
  | .derRxSwitch d => d < 8
  | .derSideDone d => d < 8
  | .derRollbackDecision => true
  | .derRollbackReturn d _ => d < 8
  | .derResultSet => true
  | .derRediscoverTimer d => d < 8
  | .portEnable d p => d < 8 && p < 16
  | .portDisable d p => d < 8 && p < 16
  | .negFrameRx d l _ => d < 8 && l < 16
  | .negGearSwitch d l => d < 8 && l < 16
  | .negLockTimeout d l => d < 8 && l < 16
  | .negTrainTimeout d l => d < 8 && l < 16
  | .negWaitExpiry d l => d < 8 && l < 16
  | .forcedCdrLock d l => d < 8 && l < 16
  | .hlLos d l => d < 8 && l < 16
  | .hlSignalReturn d l => d < 8 && l < 16
  | .hlLol d l => d < 8 && l < 16
  | .hostGearsTimeout => true
  | .idleEnter d p => d < 8 && p < 16
  | .idleFastExit d p => d < 8 && p < 16
  | .hostIdleAnnounceRx d l _ => d < 8 && l < 16
  | .hostIdleExitRx d l _ => d < 8 && l < 16
  | .escanStart d l => d < 8 && l < 16
  | .escanDone d l errs => d < 8 && l < 16 && errs < 2 ^ 64
  | .eyeSweepDone d l _ => d < 8 && l < 16
  | .pcsAligned d p => d < 8 && p < 16
  | .pcsAlignLoss d p => d < 8 && p < 16
  | .hostFecCodeword d p symErr _ _ _ => d < 8 && p < 16 && symErr < 2 ^ 16
  | .hostFecDegradeInterval d p => d < 8 && p < 16
  | .hostFrameRx d p _ => d < 8 && p < 16
  | .frameDecisionPoint d _ => d < 8
  | .stagedFrameRelease d _ => d < 8
  | .ctFrameFail d _ _ => d < 8
  | .schedulerSelect d i => d < 8 && i < 512
  | .hostFrameStart d p _ => d < 8 && p < 16
  | .pfcXoffStart d p => d < 8 && p < 16
  | .pfcXon d p => d < 8 && p < 16
  | .pfcRefreshTimer d p => d < 8 && p < 16
  | .qsClsInsert d w0 w1 => d < 8 && w0 < 2 ^ 32 && w1 < 2 ^ 32
  | .qsClsDelete d w0 w1 => d < 8 && w0 < 2 ^ 32 && w1 < 2 ^ 32
  | .qsClsLookup d w0 w1 => d < 8 && w0 < 2 ^ 32 && w1 < 2 ^ 32
  | .qsWindowCommit d w => d < 8 && w < 7
  | .qsCommitApply d w => d < 8 && w < 7
  | .gateCommit d => d < 8
  | .gateListStart d => d < 8
  | .drainEnd d _ idx => d < 8 && idx < 2048
  | .panCorrectedRead d g _ _ => d < 8 && g < 402653184
  | .panWriteBack d g _ => d < 8 && g < 402653184
  | .panUncorrectableRead d g _ => d < 8 && g < 402653184
  | .mergeFlush d hg _ _ => d < 8 && hg < 402653184
  | .scrubLapEnd d _ => d < 8
  | .trackerClearTimer d => d < 8
  | .pageMigrationStart d => d < 8
  | .pageMigrationDone d => d < 8
  | .pteWalk d r _ _ _ _ _ => d < 8 && r < 5
  | .pteRebuildDone d r _ => d < 8 && r < 5
  | .courierDescPost d c _ => d < 8 && c < 12
  | .courierPreempt d c done => d < 8 && c < 12 && done < 2 ^ 24
  | .courierDescDone d c => d < 8 && c < 12
  | .courierFault d c _ done _ addr => d < 8 && c < 12 && done < 2 ^ 24 && addr < 2 ^ 64
  | .courierResume d c => d < 8 && c < 12
  | .courierAbort d c => d < 8 && c < 12
  | .courierCipherResume d c => d < 8 && c < 12
  | .pcieCompletionTimeout done => done < 2 ^ 24
  | .pcieUnexpectedCompletion => true
  | .pcieLinkDown _ => true
  | .perstAssert _ => true
  | .keyFlitRx d _ ctr _ => d < 8 && ctr < 2 ^ 64
  | .wrapNonceRetry d => d < 8
  | .kchFragmentRx _ type idx count => type < 2 ^ 8 && idx < 16 && count < 16
  | .kchReassemblyTimeout on type sender seq => on < 8 && type < 2 ^ 8 && sender < 2 ^ 16 && seq < 2 ^ 32
  | .kchHelloRx _ _ _ => true
  | .kchReplyRx _ _ => true
  | .kchAuthRx _ _ => true
  | .kchConfirmRx _ _ => true
  | .kchKeyNextRx _ sms _ => sms < 2 ^ 8
  | .kchKeyReadyRx _ _ => true
  | .kchKeyRefuseRx _ _ => true
  | .kchAbortRx _ => true
  | .kchResendTimer k => k < 8
  | .keyNextResend d i => d < 8 && i < 512
  | .rekeyRetryTimer d i => d < 8 && i < 512
  | .keyAgreeTimeout => true
  | .handshakeRetryTimer k => k < 8
  | .spanRekeyTimer k => k < 8
  | .rekeyTimer d i => d < 8 && i < 512
  | .containerFrameSeal d i => d < 8 && i < 512
  | .sealVerdict d i _ => d < 8 && i < 512
  | .rxOldKeyErase d i => d < 8 && i < 512
  | .svcLockRequest a => a < 8
  | .svcLockRelease _ _ => true
  | .svcSuspendTimeout k => k < 2
  | .entropyHealthFail => true
  | .entropyRetest _ => true
  | .tamperTrip sensor => sensor < 4
  | .tamperHoldExpiry still => still < 16
  | .bellTxMessageStart d => d < 8
  | .bellTxDone d => d < 8
  | .bellPathChange d => d < 8
  | .bellHelloTimer d => d < 8
  | .bellParkedTimer d => d < 8
  | .bellWakeTimer d => d < 8
  | .bellDetect d _ => d < 8
  | .bellSyncFound d _ _ => d < 8
  | .bellSyncTimeout d => d < 8
  | .bellHeaderDone d _ => d < 8
  | .bellBodyDone d _ => d < 8
  | .bellSignalFade d => d < 8
  | .bellCapture d _ _ => d < 8
  | .bellNoiseUpdate d _ => d < 8
  | .bellHelloRx d _ _ => d < 8
  | .bellLastGaspRx d _ reason loc => d < 8 && reason < 16 && loc < 2 ^ 32
  | .bellWakeRx d _ => d < 8
  | .bellParkedRx d _ => d < 8
  | .bellCompatRx d _ type _ reason => d < 8 && type < 16 && reason < 2 ^ 8
  | .peerParkedTimeout d => d < 8
  | .bellDiscoverTimeout d => d < 8
  | .refMonitorUpdate r _ => r < 14
  | .refLos r => r < 14
  | .refWtrExpiry r => r < 14
  | .dpllPullEnd x => x < 2
  | .dpllLock x => x < 2
  | .xoLoss => true
  | .ppsEnable p => p < 5
  | .ppsEdge p => p < 5
  | .ppsinEdge i => i < 2
  | .tbSet tb => tb < 4
  | .tbHostApply tb => tb < 4
  | .tbServoSample tb _ => tb < 4
  | .tbSampleTimeout tb => tb < 4
  | .ptpSyncTimer d tb => d < 8 && tb < 4
  | .ptpSyncRx d _ => d < 8
  | .ptpFollowUpRx d _ _ => d < 8
  | .ptpDelayReqRx d _ => d < 8
  | .ptpDelayRespRx d _ _ => d < 8
  | .ssmTx d => d < 8
  | .ssmRx d ql => d < 8 && ql < 16
  | .triggerArm u => u < 4
  | .triggerDisarm u => u < 4
  | .triggerFire u => u < 4
  | .triggerHeldLoad u => u < 4
  | .monConversion d _ => d < 8
  | .monLapEnd d => d < 8
  | .filterSync d => d < 8
  | .syscalStart => true
  | .syscalDone _ => true
  | .biasLockinOutput d k _ _ _ => d < 8 && k < 6
  | .biasWrapDone d k => d < 8 && k < 6
  | .biasOutputFault d k => d < 8 && k < 8
  | .biasPhaseAcqTimeout d k => d < 8 && k < 6
  | .biasRestart d _ => d < 8
  | .biasWrapNow d => d < 8
  | .convSliceMeasure d v _ _ _ => d < 8 && v < 8
  | .convTempUpdate d _ => d < 8
  | .railFail rail _ => rail < 9
  | .railRecovered => true
  | .hvRailFail _ => true
  | .hvRailRecovered => true
  | .ksDrainEnd d => d < 8
  | .ksStageComplete d => d < 8
  | .ksWakeSource d src => d < 8 && 1 ≤ src && src ≤ 4
  | .ksWakeTimer d => d < 8
  | .wakeNLow => true
  | .ksWakeComplete d => d < 8
  | .sysRstLow => true
  | .sysRstRise => true
  | .alarmStickySet addr entry bit => addr < 2 ^ 32 && entry < 2 ^ 16 && bit < 16
  | .alarmReportRx d => d < 8
  | .farStatusTx d => d < 8
  | .farStatusRx d _ => d < 8
  | .farStatusStale d => d < 8
  | .levelCounterTick d k => d < 8 && k < 16
  | .telDoorbellWrite t value => t < 7 && value < 2 ^ 32
  | .telSnapshotTimer t _ => t < 7
  | .crcSubmit => true
  | .crcJobEnd _ bytes g => bytes < 2 ^ 32 && g < 402653184
  | .injFire d u => d < 8 && u < 8
  | .injStop d u => d < 8 && u < 8
  | .injApply d u => d < 8 && u < 8
  | .jtagBypass => true
  | .jtagIdcode => true
  | .jtagSamplePreload _ _ => true
  | .jtagExtest => true
  | .vddAoApplied => true
  | .vddAoLoss => true
  | .perstRelease _ _ => true
  | .xoHoldRecovered => true
  | .holdoverHistoryValid x => x < 2
  | .bellNotAvailableTimeout d => d < 8
  | .crcResultStatusRead _ slot => slot < 8
  | .prbsCheckerSync d l bits errs => d < 8 && l < 16 && bits < 2 ^ 16 && errs < 2 ^ 16
  | .rxDspFrame d _ => d < 8
  | .lineFrameTx d => d < 8

end Sys2Proof
end

