-- ==== Sys2Proof/Tests/Slice0.lean ====
section
/-!
SUPPORT. Tests of the model's own author: the ill-formed terms that the check of `WellFormed` refuses, a few worked examples of
the spec, and for every statement with hypotheses a witness, clause by clause: a state and operands that meet them together
(`witness_<Statement>`, with the part's name behind it where a statement has several parts).
-/
namespace Sys2Proof.Tests
open Sys2Proof.Machine

set_option Elab.async false

/-- A small state: the cells named hold the values named, everything else is as after reset. -/
def wSt (l : List (Cell × Nat × Nat × Nat)) : State :=
  l.foldl (fun s e => s.set e.1 e.2.1 e.2.2.1 e.2.2.2) State.reset

theorem test_wellFormed_refuses_1 (who : Writer) (n : Nat) (port : APort) (b : Bool) (x3 : List ChainOffer)
    (ns : List Nat) :
    List.all [
      .registerWrite who 4294967296 0 0, .registerWrite who 0 4294967296 0, .registerWrite who 0 0 4294967296,
      .w1cClear who 4294967296 0 0, .w1cClear who 0 4294967296 0, .w1cClear who 0 0 4294967296,
      .hostRead 4294967296 n, .partialWordAccess port 4294967296 b, .spiReadCommand 16777216 n,
      .spiOtherCommand 256 n, .counterLowRead port 4294967296, .counterHighRead port 4294967296, .timTbNsRead port 4,
      .monFiltStatRead port 8 0, .monFiltStatRead port 0 4, .windowDataAccess port who 4294967296 b 0,
      .windowDataAccess port who 0 b 4294967296, .chainFlitTx 8 0 x3, .chainFlitTx 0 2 x3, .chainFlitRx 8 0 0 b 0 b,
      .chainFlitRx 0 2 0 b 0 b, .chainFlitRx 0 0 18446744073709551616 b 0 b, .chainFlitRx 0 0 0 b 5 b,
      .chainPortEnable 8 0, .chainPortEnable 0 2, .chainPortDisable 8 0, .chainPortDisable 0 2,
      .chainTrainAttemptEnd 8 0 b ns 0, .chainTrainAttemptEnd 0 2 b ns 0, .chainTrainAttemptEnd 0 0 b ns 8,
      .chainClkLoss 8 0, .chainClkLoss 0 2, .chainReplayLimit 8 0, .chainReplayLimit 0 2, .chainPeerRetrain 8 0,
      .chainPeerRetrain 0 2, .chainHeldFlitRelease 8, .spokeFrameRx 8 b, .spokeLost 8, .imageSegmentRead 0 1 b b,
      .imageSegmentRead 3 1 b b, .imageSegmentRead 1 0 b b, .imageSegmentRead 1 5 b b, .phaseStart 8 b 0 0,
      .phaseStart 0 b 65536 0, .phaseStart 0 b 0 65536, .memberDieReady 8 b, .memberDieTimeout 8,
      .recordWrite 4294967296 0 0, .recordWrite 0 4294967296 0, .recordWrite 0 0 4294967296,
      .recordFill 4294967296 0 0 0 0, .recordFill 0 4294967296 0 0 0, .recordFill 0 0 4294967296 0 0,
      .recordFill 0 0 0 4294967296 0, .recordFill 0 0 0 0 4294967296, .recordTable 4294967296 0 n ns,
      .recordTable 0 4294967296 n ns, .recordWaitUs 4294967296, .recordPollUntil 4294967296 0 0 0] (fun (i : Instr) => !i.wellFormed) = true := rfl

theorem test_wellFormed_refuses_2 (ns : List Nat) (b : Bool) (x5 : List (Nat × Nat)) (x6 : List RowRepair)
    (x7 : LasRead) (x8 : List SliceCal) (x9 : BiasRun) (x10 : OeCal) (z : Int) (x12 : AcqMeas) (x13 : Quality) :
    List.all [
      .recordPollUntil 0 4294967296 0 0, .recordPollUntil 0 0 4294967296 0, .recordPollUntil 0 0 0 4294967296,
      .recordProc 4294967296 ns, .pannierInit 8 b b b b x5, .eccSelftest 8 b, .applyRepair 8 x6, .laserDiscover 8 x7,
      .calConverters 8 b x8, .biasStart 8 x9, .bellDiscover 8, .acquireLine 8 x10 z, .hostGears 8,
      .ticketGoWrite 4294967296, .ticketRingTailWrite 4294967296, .ticketFetchDone 4294967296 b, .txEnRise 8 x10,
      .txEnFall 8, .txWaitEnd 8, .txRampComplete 8, .txMuteCauseSet 8 0, .txMuteCauseSet 0 4, .txMuteCauseClear 8 0,
      .txMuteCauseClear 0 4, .dspFrameBoundary 8, .dacClipWindow 8 0, .dacClipWindow 0 4294967296, .ltFirApply 8,
      .lasTransaction 8 b b, .lasRetryWaitExpiry 8, .lasPresenceLost 8, .lasPoll 8 x7, .lasTuneTimeout 8,
      .lasRecoverTimer 8 x7, .lasGridChange 8 0, .lasGridChange 0 65536, .lasEnRise 8, .lasEnFall 8,
      .rxEnRise 8 x10 z, .rxEnFall 8, .acqStepPass 8 x12, .acqStepTimeout 8, .failedWaitExpiry 8, .rxLos 8 z,
      .rxPowerReturn 8 z, .holdExpiry 8, .rxLoLost 8, .eqSlip 8, .syncLoss 8, .freqOffsetExceeded 8, .cycleSlip 8,
      .agcFastStep 8, .adcClipWindow 8 0 0, .adcClipWindow 0 4 0, .adcClipWindow 0 0 4294967296, .adcOverload 8 b,
      .rxPwrLow 8 b, .cdReprogram 8 z, .qualityWindowEnd 8 x13, .superframeEncodeStart 8] (fun (i : Instr) => !i.wellFormed) = true := rfl

theorem test_wellFormed_refuses_3 (n : Nat) (b : Bool) (x14 : LineFrame) (x15 : CtnFrame) (dm : DerMsg) :
    List.all [
      .fecLockCandidate 8 n b, .codewordDecode 8 b 1, .codewordDecode 0 b 0, .codewordDecode 0 b 33,
      .outerRowExit 8 0 0 0 0, .outerRowExit 0 65536 0 0 0, .outerRowExit 0 0 65536 0 0, .outerRowExit 0 0 0 65536 0,
      .outerRowExit 0 0 0 0 65536, .fecSfInterval 8, .fasPatternFound 8 n, .lineFrameRx 8 x14, .lofTimer 8,
      .containerFrameRx 8 0 x15, .containerFrameRx 0 512 x15, .gapMarkerRx 8 0 0 b, .gapMarkerRx 0 512 0 b,
      .gapMarkerRx 0 0 65536 b, .errorMarkerRx 8 0 b, .errorMarkerRx 0 512 b, .apsFopTimer 8 0, .apsFopTimer 0 512,
      .pmDegSecond 8 0, .pmDegSecond 0 512, .bondArrivalReport 8 n, .bondRealign 8, .gcc0FrameRx 8 b 0,
      .gcc0FrameRx 0 b 256, .ctWindowCommit 8 0, .ctWindowCommit 0 4, .ctCommitApply 8, .tandemFrameDeliver 8 0 n b b,
      .tandemFrameDeliver 0 512 n b b, .tandemSelect 8 0, .tandemSelect 0 512, .tandemHoldoffExpiry 8 0,
      .tandemHoldoffExpiry 0 512, .tandemWtrExpiry 8 0, .tandemWtrExpiry 0 512, .sealRequestClear 8 0,
      .sealRequestClear 0 512, .tandemRealign 8 0 n n b, .tandemRealign 0 512 n n b, .tandemPathPresence 8 0 b b,
      .tandemPathPresence 0 512 b b, .pelEnvelopeRx 8 0 b 0 0, .pelEnvelopeRx 0 2 b 0 0, .pelEnvelopeRx 0 0 b 65536 0,
      .pelEnvelopeRx 0 0 b 0 65536, .pelNeighbourEvent 8 0 b n, .pelNeighbourEvent 0 2 b n, .pelSuspendExpiry 8,
      .derRefuseRx dm 16 0, .derRefuseRx dm 0 8, .derCommitRx dm 4294967296, .derCancelRx dm 16, .derUnitArmReport 8,
      .derLatchPoint 8 b, .derTxSwitch 8, .derRxSwitch 8] (fun (i : Instr) => !i.wellFormed) = true := rfl

theorem test_wellFormed_refuses_4 (b : Bool) (x17 : NegFrame) (x18 : List Eye) (x19 : HostFrame) (n : Nat)
    (x20 : EgressFrame) :
    List.all [
      .derSideDone 8, .derRollbackReturn 8 b, .derRediscoverTimer 8, .portEnable 8 0, .portEnable 0 16,
      .portDisable 8 0, .portDisable 0 16, .negFrameRx 8 0 x17, .negFrameRx 0 16 x17, .negGearSwitch 8 0,
      .negGearSwitch 0 16, .negLockTimeout 8 0, .negLockTimeout 0 16, .negTrainTimeout 8 0, .negTrainTimeout 0 16,
      .negWaitExpiry 8 0, .negWaitExpiry 0 16, .forcedCdrLock 8 0, .forcedCdrLock 0 16, .hlLos 8 0, .hlLos 0 16,
      .hlSignalReturn 8 0, .hlSignalReturn 0 16, .hlLol 8 0, .hlLol 0 16, .idleEnter 8 0, .idleEnter 0 16,
      .idleFastExit 8 0, .idleFastExit 0 16, .hostIdleAnnounceRx 8 0 b, .hostIdleAnnounceRx 0 16 b,
      .hostIdleExitRx 8 0 b, .hostIdleExitRx 0 16 b, .escanStart 8 0, .escanStart 0 16, .escanDone 8 0 0,
      .escanDone 0 16 0, .escanDone 0 0 18446744073709551616, .eyeSweepDone 8 0 x18, .eyeSweepDone 0 16 x18,
      .pcsAligned 8 0, .pcsAligned 0 16, .pcsAlignLoss 8 0, .pcsAlignLoss 0 16, .hostFecCodeword 8 0 0 b b b,
      .hostFecCodeword 0 16 0 b b b, .hostFecCodeword 0 0 65536 b b b, .hostFecDegradeInterval 8 0,
      .hostFecDegradeInterval 0 16, .hostFrameRx 8 0 x19, .hostFrameRx 0 16 x19, .frameDecisionPoint 8 n,
      .stagedFrameRelease 8 n, .ctFrameFail 8 n b, .schedulerSelect 8 0, .schedulerSelect 0 512,
      .hostFrameStart 8 0 x20, .hostFrameStart 0 16 x20, .pfcXoffStart 8 0, .pfcXoffStart 0 16] (fun (i : Instr) => !i.wellFormed) = true := rfl

theorem test_wellFormed_refuses_5 (b : Bool) (x21 : PanUse) (n : Nat) (x22 : CrrPost) (x23 : KeySlot) (kh : KchHead) :
    List.all [
      .pfcXon 8 0, .pfcXon 0 16, .pfcRefreshTimer 8 0, .pfcRefreshTimer 0 16, .qsClsInsert 8 0 0,
      .qsClsInsert 0 4294967296 0, .qsClsInsert 0 0 4294967296, .qsClsDelete 8 0 0, .qsClsDelete 0 4294967296 0,
      .qsClsDelete 0 0 4294967296, .qsClsLookup 8 0 0, .qsClsLookup 0 4294967296 0, .qsClsLookup 0 0 4294967296,
      .qsWindowCommit 8 0, .qsWindowCommit 0 7, .qsCommitApply 8 0, .qsCommitApply 0 7, .gateCommit 8,
      .gateListStart 8, .drainEnd 8 b 0, .drainEnd 0 b 2048, .panCorrectedRead 8 0 b b,
      .panCorrectedRead 0 402653184 b b, .panWriteBack 8 0 b, .panWriteBack 0 402653184 b,
      .panUncorrectableRead 8 0 x21, .panUncorrectableRead 0 402653184 x21, .mergeFlush 8 0 b b,
      .mergeFlush 0 402653184 b b, .scrubLapEnd 8 n, .trackerClearTimer 8, .pageMigrationStart 8,
      .pageMigrationDone 8, .pteWalk 8 0 n b b b x21, .pteWalk 0 5 n b b b x21, .pteRebuildDone 8 0 n,
      .pteRebuildDone 0 5 n, .courierDescPost 8 0 x22, .courierDescPost 0 12 x22, .courierPreempt 8 0 0,
      .courierPreempt 0 12 0, .courierPreempt 0 0 16777216, .courierDescDone 8 0, .courierDescDone 0 12,
      .courierFault 8 0 n 0 n 0, .courierFault 0 12 n 0 n 0, .courierFault 0 0 n 16777216 n 0,
      .courierFault 0 0 n 0 n 18446744073709551616, .courierResume 8 0, .courierResume 0 12, .courierAbort 8 0,
      .courierAbort 0 12, .courierCipherResume 8 0, .courierCipherResume 0 12, .pcieCompletionTimeout 16777216,
      .keyFlitRx 8 x23 0 b, .keyFlitRx 0 x23 18446744073709551616 b, .wrapNonceRetry 8, .kchFragmentRx kh 256 0 0,
      .kchFragmentRx kh 0 16 0] (fun (i : Instr) => !i.wellFormed) = true := rfl

theorem test_wellFormed_refuses_6 (kh : KchHead) (x25 : List KeyEntry) (x26 : SealCopy) (b : Bool) (z : Int)
    (bm : BellMsg) (ns : List Nat) :
    List.all [
      .kchFragmentRx kh 0 0 16, .kchReassemblyTimeout 8 0 0 0, .kchReassemblyTimeout 0 256 0 0,
      .kchReassemblyTimeout 0 0 65536 0, .kchReassemblyTimeout 0 0 0 4294967296, .kchKeyNextRx kh 256 x25,
      .kchResendTimer 8, .keyNextResend 8 0, .keyNextResend 0 512, .rekeyRetryTimer 8 0, .rekeyRetryTimer 0 512,
      .handshakeRetryTimer 8, .spanRekeyTimer 8, .rekeyTimer 8 0, .rekeyTimer 0 512, .containerFrameSeal 8 0,
      .containerFrameSeal 0 512, .sealVerdict 8 0 x26, .sealVerdict 0 512 x26, .rxOldKeyErase 8 0,
      .rxOldKeyErase 0 512, .svcLockRequest 8, .svcSuspendTimeout 2, .tamperTrip 4, .tamperHoldExpiry 16,
      .bellTxMessageStart 8, .bellTxDone 8, .bellPathChange 8, .bellHelloTimer 8, .bellParkedTimer 8,
      .bellWakeTimer 8, .bellDetect 8 b, .bellSyncFound 8 z b, .bellSyncTimeout 8, .bellHeaderDone 8 b,
      .bellBodyDone 8 b, .bellSignalFade 8, .bellCapture 8 z b, .bellNoiseUpdate 8 z, .bellHelloRx 8 bm ns,
      .bellLastGaspRx 8 bm 0 0, .bellLastGaspRx 0 bm 16 0, .bellLastGaspRx 0 bm 0 4294967296, .bellWakeRx 8 bm,
      .bellParkedRx 8 bm, .bellCompatRx 8 b 0 bm 0, .bellCompatRx 0 b 16 bm 0, .bellCompatRx 0 b 0 bm 256,
      .peerParkedTimeout 8, .bellDiscoverTimeout 8, .refMonitorUpdate 14 z, .refLos 14, .refWtrExpiry 14,
      .dpllPullEnd 2, .dpllLock 2, .ppsEnable 5, .ppsEdge 5, .ppsinEdge 2, .tbSet 4, .tbHostApply 4] (fun (i : Instr) => !i.wellFormed) = true := rfl

theorem test_wellFormed_refuses_7 (z : Int) (pm : PtpMsg) (n : Nat) (b : Bool) (x29 : Option Int)
    (x9 : BiasRun) (x30 : SliceRead) (x31 : FarMsg) :
    List.all [
      .tbServoSample 4 z, .tbSampleTimeout 4, .ptpSyncTimer 8 0, .ptpSyncTimer 0 4, .ptpSyncRx 8 pm,
      .ptpFollowUpRx 8 pm n, .ptpDelayReqRx 8 pm, .ptpDelayRespRx 8 pm n, .ssmTx 8, .ssmRx 8 0, .ssmRx 0 16,
      .triggerArm 4, .triggerDisarm 4, .triggerFire 4, .triggerHeldLoad 4, .monConversion 8 z, .monLapEnd 8,
      .filterSync 8, .biasLockinOutput 8 0 z b x29, .biasLockinOutput 0 6 z b x29, .biasWrapDone 8 0,
      .biasWrapDone 0 6, .biasOutputFault 8 0, .biasOutputFault 0 8, .biasPhaseAcqTimeout 8 0,
      .biasPhaseAcqTimeout 0 6, .biasRestart 8 x9, .biasWrapNow 8, .convSliceMeasure 8 0 x30 x30 x30,
      .convSliceMeasure 0 8 x30 x30 x30, .convTempUpdate 8 z, .railFail 9 b, .ksDrainEnd 8, .ksStageComplete 8,
      .ksWakeSource 8 1, .ksWakeSource 0 0, .ksWakeSource 0 5, .ksWakeTimer 8, .ksWakeComplete 8,
      .alarmStickySet 4294967296 0 0, .alarmStickySet 0 65536 0, .alarmStickySet 0 0 16, .alarmReportRx 8,
      .farStatusTx 8, .farStatusRx 8 x31, .farStatusStale 8, .levelCounterTick 8 0, .levelCounterTick 0 16,
      .telDoorbellWrite 7 0, .telDoorbellWrite 0 4294967296, .telSnapshotTimer 7 b, .crcJobEnd n 4294967296 0,
      .crcJobEnd n 0 402653184, .injFire 8 0, .injFire 0 8, .injStop 8 0, .injStop 0 8, .injApply 8 0, .injApply 0 8,
      .holdoverHistoryValid 2] (fun (i : Instr) => !i.wellFormed) = true := rfl

theorem test_wellFormed_refuses_8 (port : APort) (b : Bool) :
    List.all [
      .bellNotAvailableTimeout 8, .crcResultStatusRead port 8, .prbsCheckerSync 8 0 0 0, .prbsCheckerSync 0 16 0 0,
      .prbsCheckerSync 0 0 65536 0, .prbsCheckerSync 0 0 0 65536, .rxDspFrame 8 b, .lineFrameTx 8] (fun (i : Instr) => !i.wellFormed) = true := rfl

theorem test_wellFormed_accepts :
    List.all [.registerWrite .host 4294967295 4294967295 4294967295, .chainFlitTx 7 1 [], .monFiltStatRead .pcie 7 3,
      .imageSegmentRead 2 4 true 0, .panWriteBack 7 402653183 true, .injFire 7 7, .jtagIdcode]
      (fun (i : Instr) => i.wellFormed) = true := rfl

theorem test_reset_wf : State.reset.wf = true := by decide

/-- The example of R9: queue position 3 of container 1,700. -/
theorem test_locationCode_queue : locQueue 3 (1700 - 1536) 3 = 0x0DA91800 := by decide

/-- The example of R466: container 2,700. -/
theorem test_locationCode_container : locContainer 5 140 = 0x36A30000 := by decide

/-- The example of R466: CRY_C_SEAL_FAIL of container 2,700, and its high half. -/
theorem test_placeAt_sealFail :
    (match placeAt 0x15514610, placeAt 0x15514614 with
     | .half c d i false, .half c' d' i' true =>
       decide (c.cell = .cry .nSealFail ∧ c' = c ∧ d = 5 ∧ d' = 5 ∧ i = 140 ∧ i' = 140)
     | _, _ => false) = true := by decide +kernel

/-- The example of R466: ALM_DIE_FAULT of die 5. -/
theorem test_placeAt_dieFault : placeAt 0x157C0004 = .dieSum 5 true := by decide +kernel

/-- The identification code that R483 gives for stepping 1.0. -/
theorem test_jtagIdcode_reads :
    (match exec .jtagIdcode (wSt [(.sys .aoOn, 0, 0, 1)]) with
     | .next t => decide (t.readData = [0x1320874B])
     | _ => false) = true := by decide +kernel

/-- The table of R457, over the bytes 0x31 to 0x39. -/
theorem test_crc_table :
    crcOf ⟨16, 0x1021, 0xFFFF, false, false, 0⟩ [49, 50, 51, 52, 53, 54, 55, 56, 57] = 0x29B1 ∧
    crcOf ⟨32, 0x04C11DB7, 0xFFFFFFFF, true, true, 0xFFFFFFFF⟩ [49, 50, 51, 52, 53, 54, 55, 56, 57] = 0xCBF43926 ∧
    crcOf ⟨32, 0x1EDC6F41, 0xFFFFFFFF, true, true, 0xFFFFFFFF⟩ [49, 50, 51, 52, 53, 54, 55, 56, 57] = 0xE3069283 ∧
    crcOf ⟨64, 0x42F0E1EBA9EA3693, 0xFFFFFFFFFFFFFFFF, true, true, 0xFFFFFFFFFFFFFFFF⟩ [49, 50, 51, 52, 53, 54, 55, 56, 57] =
      0x995DC9BBDF1939FA := by decide +kernel

/-- The clocks chapter's example: 45,000 ns at 7.5 ns/ms take 6,000 ms. -/
theorem test_pullTime : pullTime 45000 150 = 6000 * 1000000 := by decide

/-- R264's example: a commit 240 us or 245 us into the second. -/
theorem test_gateStart :
    gateStartAt 1700000000000000000 250000 1700000012000240000 = 1700000012000250000 ∧
    gateStartAt 1700000000000000000 250000 1700000012000245000 = 1700000012000500000 := by decide

/-- R479's example: lane 77 has its transmit ball at DH49 (row 84) and its receive ball at DB49 (row 78). -/
theorem test_laneBall : laneBall 77 true = (84, 49) ∧ laneBall 77 false = (78, 49) := by decide

/-- R476 and R477: the groups fill 88 rows of 88 balls. -/
theorem test_ballGroups : ballGroups.sum = 7744 := by decide

/-- A step takes the command at the front and leaves the rest of the queue. -/
theorem test_step_runs_front :
    (match step { wSt [(.sys .aoOn, 0, 0, 1)] with
        pending := [.jtagIdcode, .jtagBypass] } with
     | .next t => decide (t.pending = [.jtagBypass] ∧ t.readData = [0x1320874B])
     | _ => false) = true := by decide +kernel

/-- Keys of the pages of die 0 from page `n` of the spare area on, `k` of them, each taken. -/
def takenKeys (k : Nat) : Store := (List.range k).map fun i => (⟨.pan .taken, 0, spareBase + i⟩, 1)

/-- A die whose spare pages are all taken. -/
def fullDie : State :=
  { (wSt [(.sys .dieReleased, 0, 0, 255), (.pan .state, 0, 0, panReady)]) with
    cells := (wSt [(.sys .dieReleased, 0, 0, 255), (.pan .state, 0, 0, panReady)]).cells ++ takenKeys (panPages - spareBase)
    retireQ := [⟨0, 5, 0, 0⟩] }

theorem store_get_append (a b : Store) (k : Key) (h : ∀ e ∈ a, e.1 ≠ k) : Store.get (a ++ b) k = Store.get b k := by
  induction a with
  | nil => rfl
  | cons e r ih =>
    have := h e (by simp)
    simp [Store.get, this, ih fun e he => h e (by simp [he])]

theorem store_get_one (b : Store) (k : Key) (h : ∀ e ∈ b, e.2 = 1) (m : ∃ e ∈ b, e.1 = k) : Store.get b k = 1 := by
  induction b with
  | nil => simp at m
  | cons e r ih =>
    by_cases q : e.1 = k
    · simp [Store.get, q, h e (by simp)]
    · obtain ⟨x, hx, rfl⟩ := m
      have hx : x ∈ r := by
        rcases List.mem_cons.1 hx with rfl | h
        · exact absurd rfl q
        · exact h
      simp [Store.get, q, ih (fun e he => h e (by simp [he])) ⟨x, hx, rfl⟩]

theorem fullDie_cells : fullDie.cells = (wSt [(.sys .dieReleased, 0, 0, 255), (.pan .state, 0, 0, panReady)]).cells ++
    takenKeys (panPages - spareBase) := rfl

theorem fullDie_taken {i : Nat} (h : i < panPages - spareBase) : fullDie.flag (.pan .taken) 0 (spareBase + i) = true := by
  have hc : ∀ e ∈ (wSt [(.sys .dieReleased, 0, 0, 255), (.pan .state, 0, 0, panReady)]).cells, e.1.cell ≠ .pan .taken := by
    decide +kernel
  have : fullDie.get (.pan .taken) 0 (spareBase + i) = 1 := by
    rw [State.get, fullDie_cells, store_get_append _ _ _ fun e he q => hc e he (by rw [q])]
    exact store_get_one _ _ (by simp [takenKeys]) ⟨(⟨.pan .taken, 0, spareBase + i⟩, 1), by
      simp only [takenKeys, List.mem_map, List.mem_range]; exact ⟨i, h, rfl⟩, rfl⟩
  simp [State.flag, this]

theorem fullDie_given (j : Nat) : fullDie.flag (.pan .given) 0 j = false := by
  have hc : ∀ e ∈ (wSt [(.sys .dieReleased, 0, 0, 255), (.pan .state, 0, 0, panReady)]).cells, e.1.cell ≠ .pan .given := by
    decide +kernel
  have key (b : Store) (hb : ∀ e ∈ b, e.1.cell = .pan .taken) : Store.get b ⟨.pan .given, 0, j⟩ = 0 := by
    induction b with
    | nil => rfl
    | cons e r ih =>
      have : e.1 ≠ ⟨.pan .given, 0, j⟩ := fun q => by
        have := hb e (by simp); rw [q] at this; cases this
      simp [Store.get, this, ih fun e he => hb e (by simp [he])]
  have : fullDie.get (.pan .given) 0 j = 0 := by
    rw [State.get, fullDie_cells, store_get_append _ _ _ fun e he q => hc e he (by rw [q])]
    exact key _ (by simp [takenKeys])
  simp [State.flag, this]

theorem fullDie_noSpare : fullDie.lowestSpare 0 = none := by
  have hl : ∀ p, fullDie.isFree 0 p = false := by
    intro p
    simp only [State.isFree, fullDie_given, Bool.or_false]
    by_cases h : spareBase ≤ p ∧ p < panPages
    · have := fullDie_taken (i := p - spareBase) (by omega)
      rw [show spareBase + (p - spareBase) = p by omega] at this
      simp [this]
    · rcases Nat.lt_or_ge p spareBase with q | q
      · simp [show ¬ spareBase ≤ p by omega]
      · simp [show ¬ p < panPages by omega]
  simp [State.lowestSpare, hl]

theorem rulesBroken_self (s : State) : rulesBroken s s = false := by
  have h : ∀ l : List Bool, (l.zip l).any (fun (x : Bool × Bool) => x.1 && !x.2) = false := by
    intro l
    induction l with
    | nil => rfl
    | cons a r ih => simp [ih]
  exact h _

theorem wholeFaults_none (s : State) (cmd op : Nat) : s.wholeFaults cmd (s.probe cmd op []) = [] := by
  have h : s.probe cmd op [] = ⟨s, [], []⟩ := rfl
  simp [h, State.wholeFaults, gridBroken, rulesBroken_self, faultIf]

/-- A ticket without records passes when its head, its signatures, its key and its command's own checks pass. -/
theorem passes_none {s : State} {k : Tkt} {i : TktIn} (h : (s.processes k i [] && s.admits i &&
    (s.ctrTaken i.counter).keyPermits i.keyIndex i.command) = true ∧
    decidingFault ((s.ctrTaken i.counter).ownFaults i.command i.args ⟨s.ctrTaken i.counter, [], []⟩) = none) :
    s.passes k i [] = true := by
  have e : (s.ctrTaken i.counter).ticketFault i.command i.args [] = none := by
    have q := wholeFaults_none (s.ctrTaken i.counter) i.command (editOp i.args)
    have p : (s.ctrTaken i.counter).probe i.command (editOp i.args) [] = ⟨s.ctrTaken i.counter, [], []⟩ := rfl
    rw [State.ticketFault]
    simp only [p] at q ⊢
    simpa [q] using h.2
  rw [State.passes, h.1, e]; rfl

/-- The words of a ticket: its command, key, arguments, number of records and record words, with counter 101. -/
def tkWords (cmd key : Nat) (args : List Nat) (nrec : Nat) (recs : List Nat) : List Nat :=
  [0x54494B33, 32 + 4 * args.length + 4 * recs.length + 4724, 0x12 + cmd * 65536, key + args.length * 4 * 65536, 101,
      0,
    nrec, 0] ++ args ++ recs

/-- What the front of the queue reads as when the fetched words are `w`. -/
def tkIn (w : List Nat) (sig : Bool := true) : TktIn := ⟨w.getD 1 0, w, true, sig⟩

/-- The operand of a ticket command whose words are `w`. -/
def tkTk (w : List Nat) (sig : Bool := true) : Tkt := ⟨w, true, sig⟩

/-- A state in RUN with a fetched ticket of words `w` at the front, dies 0 and 1 present and released, and the cells named besides. -/
def tkSt (w : List Nat) (l : List (Cell × Nat × Nat × Nat)) : State :=
  { wSt ([(.sys .diePresent, 0, 0, 3), (.sys .dieReleased, 0, 0, 3), (.boot .state, 0, 0, 5), (.tkt .nodeId, 0, 0,
      0x12), (.tkt .fetched, 0, 0, 1),
      (.tkt .fetchLen, 0, 0, w.getD 1 0)] ++ l) with
    tickets := [.ring 5, .ring 6] }

theorem witness_TicketEffects_1 :
    (∃ (s : State) (k : Tkt) (i : TktIn) (l : List Rec) (c : Cell) (x m v : Nat), s.passes k i l = true ∧ i.command =
        cmdApplyDelta ∧ l = [.write x m v] ∧ (match c with | .tkt _ => true | _ => false) = false ∧ ¬ c.summary =
        true) ∧
    (∃ (s : State) (k : Tkt) (i : TktIn) (l : List Rec) (c : Cell) (x m v : Nat), s.passes k i l = true ∧ i.command =
        cmdShaper ∧ l = [.write x m v] ∧ (match c with | .tkt _ => true | _ => false) = false ∧ ¬ c.summary = true) ∧
    (∃ (s : State) (k : Tkt) (i : TktIn) (l : List Rec) (c : Cell) (x m v : Nat), s.passes k i l = true ∧ i.command =
        cmdContainer ∧ editOp i.args = 1 ∧ l = [.write x m v] ∧ (match c with | .tkt _ => true | _ => false) = false ∧
        ¬ c.summary = true) ∧
    (∃ (s : State) (k : Tkt) (i : TktIn) (l : List Rec) (c : Cell) (x m v : Nat), s.passes k i l = true ∧ i.command =
        cmdContainer ∧ editOp i.args = 2 ∧ l = [.write x m v] ∧ (match c with | .tkt _ => true | _ => false) = false ∧
        ¬ c.summary = true) :=
  ⟨⟨tkSt (tkWords 10 0 [] 1 [0x01000003, 0x10100070, 0xFFFFFFFF, 0]) [], tkTk (tkWords 10 0 [] 1 [0x01000003,
      0x10100070, 0xFFFFFFFF, 0]), tkIn (tkWords 10 0 [] 1 [0x01000003, 0x10100070, 0xFFFFFFFF, 0]), [.write
      0x10100070 0xFFFFFFFF 0], .sys .winEntry, 0x10100070, 0xFFFFFFFF, 0, by decide +kernel⟩,
   ⟨tkSt (tkWords 4 0 [0] 1 [0x01000003, 0x10100070, 0xFFFFFFFF, 0]) [(.win .ctCtn, 0, 0, 1)], tkTk (tkWords 4 0 [0] 1
       [0x01000003, 0x10100070, 0xFFFFFFFF, 0]), tkIn (tkWords 4 0 [0] 1 [0x01000003, 0x10100070, 0xFFFFFFFF, 0]),
       [.write 0x10100070 0xFFFFFFFF 0], .sys .winEntry, 0x10100070, 0xFFFFFFFF, 0, by decide +kernel⟩,
   ⟨tkSt (tkWords 3 0 [65536] 1 [0x01000003, 0x10100050, 0xFFFFFFFF, 0]) [], tkTk (tkWords 3 0 [65536] 1 [0x01000003,
       0x10100050, 0xFFFFFFFF, 0]), tkIn (tkWords 3 0 [65536] 1 [0x01000003, 0x10100050, 0xFFFFFFFF, 0]), [.write
       0x10100050 0xFFFFFFFF 0], .sys .winEntry, 0x10100050, 0xFFFFFFFF, 0, by decide +kernel⟩,
   ⟨tkSt (tkWords 3 0 [131072] 1 [0x01000003, 0x10100050, 0xFFFFFFFF, 0]) [(.win .ctCtn, 0, 0, 1)], tkTk (tkWords 3 0
       [131072] 1 [0x01000003, 0x10100050, 0xFFFFFFFF, 0]), tkIn (tkWords 3 0 [131072] 1 [0x01000003, 0x10100050,
       0xFFFFFFFF, 0]), [.write 0x10100050 0xFFFFFFFF 0], .sys .winEntry, 0x10100050, 0xFFFFFFFF, 0,
       by decide +kernel⟩⟩

theorem witness_TicketEffects_2 :
    (∃ (s : State) (k : Tkt) (i : TktIn) (l : List Rec) (c : Cell) (x m v : Nat), s.passes k i l = true ∧ i.command =
        cmdContainer ∧ editOp i.args = 4 ∧ l = [.write x m v] ∧ (match c with | .tkt _ => true | _ => false) = false ∧
        ¬ c.summary = true) ∧
    (∃ (s : State) (k : Tkt) (i : TktIn) (l : List Rec) (c : Cell) (x m v : Nat), s.passes k i l = true ∧ i.command =
        cmdContainer ∧ editOp i.args = 5 ∧ l = [.write x m v] ∧ (match c with | .tkt _ => true | _ => false) = false ∧
        ¬ c.summary = true) ∧
    (∃ (s : State) (k : Tkt) (i : TktIn) (l : List Rec), s.passes k i l = true ∧ i.command = cmdContainer ∧ editOp
        i.args = 3 ∧ l.all recAtOnce = true) ∧
    (∃ (s : State) (k : Tkt) (i : TktIn) (l : List Rec) (q : Nat), s.passes k i l = true ∧ i.command = cmdContainer ∧
        editOp i.args = 6 ∧ l = [] ∧ (s.ctrTaken i.counter).queueAtPos (ctnDie (bits (i.arg 0) 0 12)) (ctnLocal (bits
        (i.arg 0) 0 12)) (bits (i.arg 0) 24 3) = some q) :=
  ⟨⟨tkSt (tkWords 3 0 [262144] 1 [0x01000003, 0x10100050, 0xFFFFFFFF, 0]) [(.win .ctCtn, 0, 0, 1)], tkTk (tkWords 3 0
      [262144] 1 [0x01000003, 0x10100050, 0xFFFFFFFF, 0]), tkIn (tkWords 3 0 [262144] 1 [0x01000003, 0x10100050,
      0xFFFFFFFF, 0]), [.write 0x10100050 0xFFFFFFFF 0], .sys .winEntry, 0x10100050, 0xFFFFFFFF, 0,
      by decide +kernel⟩,
   ⟨tkSt (tkWords 3 0 [327680] 1 [0x01000003, 0x10100050, 0xFFFFFFFF, 0]) [(.win .ctCtn, 0, 0, 1)], tkTk (tkWords 3 0
       [327680] 1 [0x01000003, 0x10100050, 0xFFFFFFFF, 0]), tkIn (tkWords 3 0 [327680] 1 [0x01000003, 0x10100050,
       0xFFFFFFFF, 0]), [.write 0x10100050 0xFFFFFFFF 0], .sys .winEntry, 0x10100050, 0xFFFFFFFF, 0,
       by decide +kernel⟩,
   ⟨tkSt (tkWords 3 0 [0x30000] 0 []) [(.win .ctCtn, 0, 0, 1)], tkTk (tkWords 3 0 [0x30000] 0 []), tkIn (tkWords 3 0
       [0x30000] 0 []), [], passes_none (by decide +kernel), by decide +kernel⟩,
   ⟨tkSt (tkWords 3 0 [0x60000] 0 []) [(.win .ctCtn, 0, 0, 1), (.win .qsQ, 0, 48, 0x80000000)], tkTk (tkWords 3 0
       [0x60000] 0 []), tkIn (tkWords 3 0 [0x60000] 0 []), [], 3, passes_none (by decide +kernel), by decide +kernel⟩⟩

theorem witness_TicketEffects_3 :
    (∃ (s : State) (k : Tkt) (i : TktIn) (l : List Rec), s.passes k i l = true ∧ i.command = cmdShift ∧ bits (i.arg 0)
        8 2 = 0 ∧ l.all recAtOnce = true) ∧
    (∃ (s : State) (k : Tkt) (i : TktIn) (l : List Rec), s.passes k i l = true ∧ i.command = cmdShift ∧ bits (i.arg 0)
        8 2 = 1 ∧ l.all recAtOnce = true) ∧
    (∃ (s : State) (k : Tkt) (i : TktIn) (l : List Rec), s.passes k i l = true ∧ i.command = cmdProtection ∧ i.arg 1 =
        0 ∧ bit (i.arg 0) 31 = false) ∧
    (∃ (s : State) (k : Tkt) (i : TktIn) (l : List Rec), s.passes k i l = true ∧ i.command = cmdProtection ∧ i.arg 1 =
        1 ∧ bit (i.arg 0) 31 = false) :=
  ⟨⟨tkSt (tkWords 1 0 [0x20005, 0] 0 []) [(.sys .diePresent, 0, 0, 2), (.lt .rs, 1, 0, 640), (.lt .entropy, 1, 0, 32),
      (.lt .fecRate, 1, 0, 3), (.lt .netK, 1, 0, 10), (.lt .rolloff, 1, 0, 10), (.lr .rs, 1, 0, 640), (.lr .entropy,
      1, 0, 32), (.lr .fecRate, 1, 0, 3), (.lr .netK, 1, 0, 10), (.lr .rolloff, 1, 0, 10), (.lt .rs, 1, 1, 640), (.lt
      .entropy, 1, 1, 32), (.lt .fecRate, 1, 1, 3), (.lt .netK, 1, 1, 10), (.lt .rolloff, 1, 1, 10), (.lr .rs, 1, 1,
      640), (.lr .entropy, 1, 1, 32), (.lr .fecRate, 1, 1, 3), (.lr .netK, 1, 1, 10), (.lr .rolloff, 1, 1, 10)], tkTk
      (tkWords 1 0 [0x20005, 0] 0 []), tkIn (tkWords 1 0 [0x20005, 0] 0 []), [], passes_none (by decide +kernel),
      by decide +kernel⟩,
   ⟨tkSt (tkWords 1 0 [0x20105, 0x34] 0 []) [(.sys .diePresent, 0, 0, 2), (.lt .rs, 1, 0, 640), (.lt .entropy, 1, 0,
       32), (.lt .fecRate, 1, 0, 3), (.lt .netK, 1, 0, 10), (.lt .rolloff, 1, 0, 10), (.lr .rs, 1, 0, 640), (.lr
       .entropy, 1, 0, 32), (.lr .fecRate, 1, 0, 3), (.lr .netK, 1, 0, 10), (.lr .rolloff, 1, 0, 10), (.lt .rs, 1, 1,
       640), (.lt .entropy, 1, 1, 32), (.lt .fecRate, 1, 1, 3), (.lt .netK, 1, 1, 10), (.lt .rolloff, 1, 1, 10), (.lr
       .rs, 1, 1, 640), (.lr .entropy, 1, 1, 32), (.lr .fecRate, 1, 1, 3), (.lr .netK, 1, 1, 10), (.lr .rolloff, 1, 1,
       10)], tkTk (tkWords 1 0 [0x20105, 0x34] 0 []), tkIn (tkWords 1 0 [0x20105, 0x34] 0 []), [], passes_none
       (by decide +kernel), by decide +kernel⟩,
   ⟨tkSt (tkWords 2 0 [3, 0] 0 []) [(.tdm .pairEn, 0, 0, 1), (.win .ctCtn, 0, 48, 1), (.win .tdmCtn, 0, 48, 1)], tkTk
       (tkWords 2 0 [3, 0] 0 []), tkIn (tkWords 2 0 [3, 0] 0 []), [], passes_none (by decide +kernel),
       by decide +kernel⟩,
   ⟨tkSt (tkWords 2 0 [3, 1] 0 []) [(.tdm .pairEn, 0, 0, 1), (.win .ctCtn, 0, 48, 1), (.win .tdmCtn, 0, 48, 1)], tkTk
       (tkWords 2 0 [3, 1] 0 []), tkIn (tkWords 2 0 [3, 1] 0 []), [], passes_none (by decide +kernel),
       by decide +kernel⟩⟩

theorem witness_TicketEffects_4 :
    (∃ (s : State) (k : Tkt) (i : TktIn) (l : List Rec), s.passes k i l = true ∧ i.command = cmdProtection ∧ i.arg 1 =
        2 ∧ bit (i.arg 0) 31 = false) ∧
    (∃ (s : State) (k : Tkt) (i : TktIn) (l : List Rec), s.passes k i l = true ∧ i.command = cmdProtection ∧ i.arg 1 =
        3 ∧ bit (i.arg 0) 31 = false) ∧
    (∃ (s : State) (k : Tkt) (i : TktIn) (l : List Rec), s.passes k i l = true ∧ i.command = cmdProtection ∧ i.arg 1 =
        4 ∧ bit (i.arg 0) 31 = false) ∧
    (∃ (s : State) (k : Tkt) (i : TktIn) (l : List Rec) (d j p : Nat), s.passes k i l = true ∧ i.command = cmdRekey ∧
        bits (i.arg 0) 30 2 = 0 ∧ d = ctnDie (bits (i.arg 0) 0 12) ∧ j = ctnLocal (bits (i.arg 0) 0 12) ∧ s.spanOf
        (bits (i.arg 0) 0 12) = some p ∧ s.flag (.sbg .spHas) 0 p = true ∧ s.flag (.cry .txNext) d j = false) :=
  ⟨⟨tkSt (tkWords 2 0 [3, 2] 0 []) [(.tdm .pairEn, 0, 0, 1), (.win .ctCtn, 0, 48, 1), (.win .tdmCtn, 0, 48, 1)], tkTk
      (tkWords 2 0 [3, 2] 0 []), tkIn (tkWords 2 0 [3, 2] 0 []), [], passes_none (by decide +kernel),
      by decide +kernel⟩,
   ⟨tkSt (tkWords 2 0 [3, 3] 0 []) [(.tdm .pairEn, 0, 0, 1), (.win .ctCtn, 0, 48, 1), (.win .tdmCtn, 0, 48, 1)], tkTk
       (tkWords 2 0 [3, 3] 0 []), tkIn (tkWords 2 0 [3, 3] 0 []), [], passes_none (by decide +kernel),
       by decide +kernel⟩,
   ⟨tkSt (tkWords 2 0 [3, 4] 0 []) [(.tdm .pairEn, 0, 0, 1), (.win .ctCtn, 0, 48, 1), (.win .tdmCtn, 0, 48, 1)], tkTk
       (tkWords 2 0 [3, 4] 0 []), tkIn (tkWords 2 0 [3, 4] 0 []), [], passes_none (by decide +kernel),
       by decide +kernel⟩,
   ⟨tkSt (tkWords 5 0 [0] 0 []) [(.win .cryCtx, 0, 0, 1), (.win .ctTsmap, 0, 0, 0x40000000), (.win .sbgSpan, 0, 0,
       0xFF0034), (.sbg .spHas, 0, 0, 1), (.sbg .rngOk, 0, 0, 1)], tkTk (tkWords 5 0 [0] 0 []), tkIn (tkWords 5 0 [0]
       0 []), [], 0, 0, 0, passes_none (by decide +kernel), by decide +kernel⟩⟩

theorem witness_TicketEffects_5 :
    (∃ (s : State) (k : Tkt) (i : TktIn) (l : List Rec) (d j p : Nat), s.passes k i l = true ∧ i.command = cmdRekey ∧
        bits (i.arg 0) 30 2 = 2 ∧ (d, j) ∈ s.rekeyList (i.arg 0) ∧ s.spanOf (512 * d + j) = some p ∧ s.flag (.sbg
        .spHas) 0 p = true ∧ s.flag (.cry .txNext) d j = false) ∧
    (∃ (s : State) (k : Tkt) (i : TktIn) (l : List Rec) (p : Nat), s.passes k i l = true ∧ i.command = cmdRekey ∧ bit
        (i.arg 0) 30 = true ∧ s.spanOf (bits (i.arg 0) 0 12) = some p ∧ s.initiates p = true ∧ s.flag (.sbg .rngOk) 0
        0 = true) ∧
    (∃ (s : State) (k : Tkt) (i : TktIn) (l : List Rec) (d : Nat), s.passes k i l = true ∧ i.command =
        cmdKickstandEnter ∧ bit (i.arg 0) 31 = false ∧ d < 8 ∧ bit (i.arg 0) d = true) ∧
    (∃ (s : State) (k : Tkt) (i : TktIn) (l : List Rec) (d : Nat), s.passes k i l = true ∧ i.command =
        cmdKickstandEnter ∧ bit (i.arg 0) 31 = true ∧ s.present d = true ∧ s.stage d = ksAwake) :=
  ⟨⟨tkSt (tkWords 5 0 [0x80000000] 0 []) [(.win .cryCtx, 0, 0, 1), (.win .ctTsmap, 0, 0, 0x40000000), (.win .sbgSpan,
      0, 0, 0xFF0034), (.sbg .spHas, 0, 0, 1), (.sbg .rngOk, 0, 0, 1)], tkTk (tkWords 5 0 [0x80000000] 0 []), tkIn
      (tkWords 5 0 [0x80000000] 0 []), [], 0, 0, 0, passes_none (by decide +kernel), by decide +kernel⟩,
   ⟨tkSt (tkWords 5 0 [0x40000000] 0 []) [(.win .cryCtx, 0, 0, 1), (.win .ctTsmap, 0, 0, 0x40000000), (.win .sbgSpan,
       0, 0, 0xFF0034), (.sbg .spHas, 0, 0, 1), (.sbg .rngOk, 0, 0, 1)], tkTk (tkWords 5 0 [0x40000000] 0 []), tkIn
       (tkWords 5 0 [0x40000000] 0 []), [], 0, passes_none (by decide +kernel), by decide +kernel⟩,
   ⟨tkSt (tkWords 6 0 [2, 8, 0] 0 []) [], tkTk (tkWords 6 0 [2, 8, 0] 0 []), tkIn (tkWords 6 0 [2, 8, 0] 0 []), [], 1,
       passes_none (by decide +kernel), by decide +kernel⟩,
   ⟨tkSt (tkWords 6 0 [0x80000000, 1, 0] 0 []) [], tkTk (tkWords 6 0 [0x80000000, 1, 0] 0 []), tkIn (tkWords 6 0
       [0x80000000, 1, 0] 0 []), [], 1, passes_none (by decide +kernel), by decide +kernel⟩⟩

theorem witness_TicketEffects_6 :
    (∃ (s : State) (k : Tkt) (i : TktIn) (l : List Rec) (d : Nat), s.passes k i l = true ∧ i.command =
        cmdKickstandLeave ∧ d < 8 ∧ bit (i.arg 0) d = true ∧ s.stage d = ksGated ∧ s.flag (.pwr .lateWake) d 0 = false
        ∧ bit (s.get (.pwr .wakeEn) d 0) 3 = true) ∧
    (∃ (s : State) (k : Tkt) (i : TktIn) (l : List Rec) (d j : Nat) (a : Alm) (g : AlmReg), s.passes k i l = true ∧
        i.command = cmdClearSec ∧ placeAt (i.arg 0) = .sticky g d j ∧ a ∈ g.bits.map Prod.snd ∧ a.isSec = true ∧ bit
        (i.arg 1) a.bitNo = true ∧ ¬ (Cell.sticky a).summary = true) ∧
    (∃ (s : State) (k : Tkt) (i : TktIn) (l : List Rec) (e : Nat), s.passes k i l = true ∧ i.command = cmdBlowRepair ∧
        bit (i.arg 0) 8 = false ∧ s.fuseFree (bits (i.arg 0) 0 3) = some e) ∧
    (∃ (s : State) (k : Tkt) (i : TktIn) (l : List Rec) (e : Nat), s.passes k i l = true ∧ i.command = cmdBlowRepair ∧
        bit (i.arg 0) 8 = true ∧ s.fuseFree (bits (i.arg 0) 0 3) = some e) :=
  ⟨⟨tkSt (tkWords 7 0 [2] 0 []) [(.pwr .stage, 1, 0, 4), (.pwr .wakeEn, 1, 0, 8)], tkTk (tkWords 7 0 [2] 0 []), tkIn
      (tkWords 7 0 [2] 0 []), [], 1, passes_none (by decide +kernel), by decide +kernel⟩,
   ⟨tkSt (tkWords 8 0 [0x5014, 1] 0 []) [(.sticky .sbgEntropyFail, 0, 0, 1)], tkTk (tkWords 8 0 [0x5014, 1] 0 []),
       tkIn (tkWords 8 0 [0x5014, 1] 0 []), [], 0, 0, .sbgEntropyFail, ⟨.lead, 0x5010, 0x5014, 0x5018, .cfgT, [], [(6,
       .sbgKchTagFail), (5, .sbgSvcFault), (4, .sbgCryptoHoldAny), (3, .sbgWrapFail), (2, .sbgTrustRevokedPeer), (1,
       .sbgPeerAuthFail), (0, .sbgEntropyFail)]⟩, passes_none (by decide +kernel), by decide +kernel⟩,
   ⟨tkSt (tkWords 9 0 [1, 0x2005] 0 []) [], tkTk (tkWords 9 0 [1, 0x2005] 0 []), tkIn (tkWords 9 0 [1, 0x2005] 0 []),
       [], 0, passes_none (by decide +kernel), by decide +kernel⟩,
   ⟨tkSt (tkWords 9 0 [0x101, 0x4105] 0 []) [], tkTk (tkWords 9 0 [0x101, 0x4105] 0 []), tkIn (tkWords 9 0 [0x101,
       0x4105] 0 []), [], 0, passes_none (by decide +kernel), by decide +kernel⟩⟩

theorem witness_TicketEffects_7 :
    (∃ (s : State) (k : Tkt) (i : TktIn) (l : List Rec), s.passes k i l = true ∧ i.command = cmdRestart) ∧
    (∃ (s : State) (k : Tkt) (i : TktIn) (l : List Rec), s.passes k i l = true ∧ i.command = cmdFlashRelease) ∧
    (∃ (s : State) (k : Tkt) (i : TktIn) (l : List Rec), s.passes k i l = true ∧ i.command = cmdFlashReclaim) ∧
    (∃ (s : State) (k : Tkt) (i : TktIn) (l : List Rec), s.passes k i l = true ∧ i.command = cmdAdvanceSvn) :=
  ⟨⟨tkSt (tkWords 11 0 [] 0 []) [], tkTk (tkWords 11 0 [] 0 []), tkIn (tkWords 11 0 [] 0 []), [], passes_none
      (by decide +kernel), by decide +kernel⟩,
   ⟨tkSt (tkWords 12 0 [] 0 []) [], tkTk (tkWords 12 0 [] 0 []), tkIn (tkWords 12 0 [] 0 []), [], passes_none
       (by decide +kernel), by decide +kernel⟩,
   ⟨tkSt (tkWords 13 0 [] 0 []) [], tkTk (tkWords 13 0 [] 0 []), tkIn (tkWords 13 0 [] 0 []), [], passes_none
       (by decide +kernel), by decide +kernel⟩,
   ⟨tkSt (tkWords 14 0 [] 0 []) [], tkTk (tkWords 14 0 [] 0 []), tkIn (tkWords 14 0 [] 0 []), [], passes_none
       (by decide +kernel), by decide +kernel⟩⟩

theorem witness_TicketChecks :
    (∃ (s : State) (k : Tkt) (i : TktIn) (l : List Rec), ∃ x ∈ ticketRows, s.inRun = true ∧ s.ticketTurn = true ∧
        s.front k = some i ∧ i.form = none) ∧
    (∃ (s : State) (k : Tkt) (i : TktIn) (l : List Rec), ∃ x ∈ ticketRows, s.inRun = true ∧ s.ticketTurn = true ∧
        s.front k = some i ∧ i.form = some l ∧ x.2 i.command i.args = true ∧ i.node ≠ s.get (.tkt .nodeId) 0 0) ∧
    (∃ (s : State) (k : Tkt) (i : TktIn) (l : List Rec), ∃ x ∈ ticketRows, s.inRun = true ∧ s.ticketTurn = true ∧
        s.front k = some i ∧ i.form = some l ∧ x.2 i.command i.args = true ∧ i.node = s.get (.tkt .nodeId) 0 0 ∧
        s.flag (.tkt .hashFail) 0 0 = false ∧ i.sigOk = false) ∧
    (∃ (s : State) (k : Tkt) (i : TktIn) (l : List Rec), ∃ x ∈ ticketRows, s.inRun = true ∧ s.ticketTurn = true ∧
        s.front k = some i ∧ i.form = some l ∧ x.2 i.command i.args = true ∧ i.node = s.get (.tkt .nodeId) 0 0 ∧
        s.flag (.tkt .hashFail) 0 0 = false ∧ s.get (.tkt .keys) 0 0 < i.keyIndex) ∧
    (∃ (s : State) (k : Tkt) (i : TktIn) (l : List Rec), ∃ x ∈ ticketRows, s.inRun = true ∧ s.ticketTurn = true ∧
        s.front k = some i ∧ i.form = some l ∧ x.2 i.command i.args = true ∧ i.node = s.get (.tkt .nodeId) 0 0 ∧
        s.flag (.tkt .hashFail) 0 0 = false ∧ i.sigOk = true ∧ i.keyIndex ≤ s.get (.tkt .keys) 0 0 ∧ i.counter ≤ s.get
        (.tkt .ctrLast) 0 0) ∧
    (∃ (s : State) (k : Tkt) (i : TktIn) (l : List Rec), ∃ x ∈ ticketRows, s.inRun = true ∧ s.ticketTurn = true ∧
        s.front k = some i ∧ i.form = some l ∧ x.2 i.command i.args = true ∧ i.node = s.get (.tkt .nodeId) 0 0 ∧
        s.flag (.tkt .hashFail) 0 0 = false ∧ i.sigOk = true ∧ i.keyIndex ≤ s.get (.tkt .keys) 0 0 ∧ s.get (.tkt
        .ctrLast) 0 0 < i.counter ∧ s.journalBlocked i.counter = true) ∧
    (∃ (s : State) (k : Tkt) (i : TktIn) (l : List Rec), ∃ x ∈ ticketRows, s.inRun = true ∧ s.ticketTurn = true ∧
        s.front k = some i ∧ i.form = some l ∧ x.2 i.command i.args = true ∧ s.admits i = true ∧ (s.ctrTaken
        i.counter).keyPermits i.keyIndex i.command = false) ∧
    (∃ (s : State) (k : Tkt) (i : TktIn) (l : List Rec), ∃ x ∈ ticketRows, s.inRun = true ∧ s.ticketTurn = true ∧
        s.front k = some i ∧ i.form = some l ∧ x.2 i.command i.args = true ∧ s.admits i = true ∧ (s.ctrTaken
        i.counter).keyPermits i.keyIndex i.command = true ∧ (s.ctrTaken i.counter).ticketFault i.command i.args l ≠
        none) ∧
    (∃ (s : State) (k : Tkt) (i : TktIn) (l : List Rec), ∃ x ∈ ticketRows, s.inRun = true ∧ s.ticketTurn = true ∧
        s.front k = some i ∧ s.passes k i l = true ∧ x.2 i.command i.args = true ∧ i.command ≠ cmdRestart ∧ l.all
        recAtOnce = true) :=
  ⟨⟨tkSt (tkWords 10 0 [1] 0 []) [], tkTk (tkWords 10 0 [1] 0 []), tkIn (tkWords 10 0 [1] 0 []), [], (.applyDelta, fun
      c _ => decide (c = cmdApplyDelta)), by simp [ticketRows], by decide +kernel⟩,
   ⟨tkSt (tkWords 10 0 [] 1 [0x01000003, 0x10100070, 0xFFFFFFFF, 0]) [(.tkt .nodeId, 0, 0, 0x13)], tkTk (tkWords 10 0
       [] 1 [0x01000003, 0x10100070, 0xFFFFFFFF, 0]), tkIn (tkWords 10 0 [] 1 [0x01000003, 0x10100070, 0xFFFFFFFF,
       0]), [.write 0x10100070 0xFFFFFFFF 0], (.applyDelta, fun c _ => decide (c = cmdApplyDelta)), by simp
       [ticketRows], by decide +kernel⟩,
   ⟨tkSt (tkWords 10 0 [] 1 [0x01000003, 0x10100070, 0xFFFFFFFF, 0]) [], tkTk (tkWords 10 0 [] 1 [0x01000003,
       0x10100070, 0xFFFFFFFF, 0]) false, tkIn (tkWords 10 0 [] 1 [0x01000003, 0x10100070, 0xFFFFFFFF, 0]) false,
       [.write 0x10100070 0xFFFFFFFF 0], (.applyDelta, fun c _ => decide (c = cmdApplyDelta)), by simp [ticketRows],
       by decide +kernel⟩,
   ⟨tkSt (tkWords 10 1 [] 1 [0x01000003, 0x10100070, 0xFFFFFFFF, 0]) [], tkTk (tkWords 10 1 [] 1 [0x01000003,
       0x10100070, 0xFFFFFFFF, 0]), tkIn (tkWords 10 1 [] 1 [0x01000003, 0x10100070, 0xFFFFFFFF, 0]), [.write
       0x10100070 0xFFFFFFFF 0], (.applyDelta, fun c _ => decide (c = cmdApplyDelta)), by simp [ticketRows],
       by decide +kernel⟩,
   ⟨tkSt (tkWords 10 0 [] 1 [0x01000003, 0x10100070, 0xFFFFFFFF, 0]) [(.tkt .ctrLast, 0, 0, 101)], tkTk (tkWords 10 0
       [] 1 [0x01000003, 0x10100070, 0xFFFFFFFF, 0]), tkIn (tkWords 10 0 [] 1 [0x01000003, 0x10100070, 0xFFFFFFFF,
       0]), [.write 0x10100070 0xFFFFFFFF 0], (.applyDelta, fun c _ => decide (c = cmdApplyDelta)), by simp
       [ticketRows], by decide +kernel⟩,
   ⟨tkSt (tkWords 10 0 [] 1 [0x01000003, 0x10100070, 0xFFFFFFFF, 0]) [(.ao .flashReleased, 0, 0, 1)], tkTk (tkWords 10
       0 [] 1 [0x01000003, 0x10100070, 0xFFFFFFFF, 0]), tkIn (tkWords 10 0 [] 1 [0x01000003, 0x10100070, 0xFFFFFFFF,
       0]), [.write 0x10100070 0xFFFFFFFF 0], (.applyDelta, fun c _ => decide (c = cmdApplyDelta)), by simp
       [ticketRows], by decide +kernel⟩,
   ⟨tkSt (tkWords 10 2 [] 1 [0x01000003, 0x10100070, 0xFFFFFFFF, 0]) [(.tkt .keys, 0, 0, 2)], tkTk (tkWords 10 2 [] 1
       [0x01000003, 0x10100070, 0xFFFFFFFF, 0]), tkIn (tkWords 10 2 [] 1 [0x01000003, 0x10100070, 0xFFFFFFFF, 0]),
       [.write 0x10100070 0xFFFFFFFF 0], (.applyDelta, fun c _ => decide (c = cmdApplyDelta)), by simp [ticketRows],
       by decide +kernel⟩,
   ⟨tkSt (tkWords 2 0 [3, 1] 0 []) [(.tdm .pairEn, 0, 0, 1)], tkTk (tkWords 2 0 [3, 1] 0 []), tkIn (tkWords 2 0 [3, 1]
       0 []), [], (.protectionLo, fun c a => decide (c = cmdProtection) && decide (a.getD 1 0 = 1)), by simp
       [ticketRows], by decide +kernel⟩,
   ⟨tkSt (tkWords 10 0 [] 1 [0x01000003, 0x10100070, 0xFFFFFFFF, 0]) [], tkTk (tkWords 10 0 [] 1 [0x01000003,
       0x10100070, 0xFFFFFFFF, 0]), tkIn (tkWords 10 0 [] 1 [0x01000003, 0x10100070, 0xFFFFFFFF, 0]), [.write
       0x10100070 0xFFFFFFFF 0], (.applyDelta, fun c _ => decide (c = cmdApplyDelta)), by simp [ticketRows],
       by decide +kernel⟩⟩

/-- The state that a command leaves, where it answers one. -/
def after (c : Instr) (s : State) : State :=
  match exec c s with
  | .next t => t
  | _ => s

def answers (c : Instr) (s : State) : Bool :=
  match exec c s with
  | .next _ => true
  | _ => false

theorem exec_after {c : Instr} {s : State} (h : answers c s = true) : exec c s = .next (after c s) := by
  unfold answers at h
  unfold after
  cases e : exec c s <;> simp [e] at h ⊢

theorem witness_StepRunsFront :
    (∃ (s : State) (c : Instr) (rest : List Instr), s.pending = c :: rest) ∧ (∃ s : State, s.pending = []) :=
  ⟨⟨{ State.reset with
        pending := [.ssmTx 3, .powerGood] }, .ssmTx 3, [.powerGood], rfl⟩, ⟨State.reset, rfl⟩⟩

theorem witness_StepKeepsForm : ∃ s t : State, s.wf = true ∧ s.pending ≠ [] ∧ step s = .next t := by
  have h : answers (.ssmTx 3) (wSt [(.sys .dieReleased, 0, 0, 255)]) = true := by decide +kernel
  refine ⟨{ wSt [(.sys .dieReleased, 0, 0, 255)] with
    pending := [.ssmTx 3] }, after (.ssmTx 3) (wSt [(.sys .dieReleased, 0, 0, 255)]), by decide +kernel, by decide, ?_⟩
  exact exec_after h

/-- A ticket in the ring whose copy waits in the mailbox. -/
def replaySt : State :=
  { tkSt (tkWords 13 0 [] 0 []) [(.tkt .mboxLen, 0, 0, 4756)] with
    tickets := [.ring 5, .mailbox]
    mbox := [(0, 0x33#8), (1, 0x4B#8), (2, 0x49#8), (3, 0x54#8), (4, 0x94#8), (5, 0x12#8), (8, 0x12#8), (10, 13#8), (16, 101#8)] }

theorem witness_ReplayRefused :
    ∃ (s t : State) (k m : Tkt) (i j : TktIn) (l l' : List Rec), ∃ x ∈ ticketRows, ∃ y ∈ ticketRows,
      s.passes k i l = true ∧ x.2 i.command i.args = true ∧ i.command ≠ cmdRestart ∧ exec (x.1 k) s = .next t ∧
      t.processes m j l' = true ∧ y.2 j.command j.args = true ∧ j.node = t.get (.tkt .nodeId) 0 0 ∧
      t.flag (.tkt .hashFail) 0 0 = false ∧ j.sigOk = true ∧ j.keyIndex ≤ t.get (.tkt .keys) 0 0 ∧ j.counter ≤ i.counter :=
  ⟨replaySt, after (.flashReclaim (tkTk (tkWords 13 0 [] 0 []))) replaySt, tkTk (tkWords 13 0 [] 0 []), ⟨[], true, true⟩,
    tkIn (tkWords 13 0 [] 0 []), tkIn (tkWords 13 0 [] 0 []), [], [],
    (.flashReclaim, fun c _ => decide (c = cmdFlashReclaim)), by simp [ticketRows],
    (.flashReclaim, fun c _ => decide (c = cmdFlashReclaim)), by simp [ticketRows],
    passes_none (by decide +kernel), by decide, by decide, exec_after (by decide +kernel), by decide +kernel,
    by decide +kernel⟩

theorem witness_PolicersHold :
    (∃ (s : State) (d x colour n : Nat), (colour ≤ 2 ∧ s.polAlg d x ≤ 2 ∧
      s.get (.qs .polC) d x ≤ 8000 * s.polCbs d x ∧ s.get (.qs .polP) d x ≤ 8000 * s.polPbs d x) ∧
      s.polAware d x = true ∧ s.polAlg d x = 2 ∧ (s.polAsk d x colour n).2.1 = 2) ∧
    (∃ (s : State) (d x colour n : Nat), (colour ≤ 2 ∧ s.polAlg d x ≤ 2 ∧
      s.get (.qs .polC) d x ≤ 8000 * s.polCbs d x ∧ s.get (.qs .polP) d x ≤ 8000 * s.polPbs d x) ∧
      s.polAlg d x = 1 ∧ (s.polAsk d x colour n).2.1 = 0) ∧
    (∃ (s : State) (d x colour n : Nat), (colour ≤ 2 ∧ s.polAlg d x ≤ 2 ∧
      s.get (.qs .polC) d x ≤ 8000 * s.polCbs d x ∧ s.get (.qs .polP) d x ≤ 8000 * s.polPbs d x) ∧
      s.polAlg d x = 2 ∧ (s.polAsk d x colour n).2.1 = 0) :=
  ⟨⟨wSt [(.win .qsQpol, 1, 48, 0xA0000000), (.win .qsQpol, 1, 50, 1000), (.win .qsQpol, 1, 51, 1000)], 1, 3, 2, 500,
      by decide +kernel⟩,
   ⟨wSt [(.win .qsQpol, 1, 48, 0x40000000), (.win .qsQpol, 1, 50, 1000), (.win .qsQpol, 1, 51, 1000)], 1, 3, 0, 500,
      by decide +kernel⟩,
   ⟨wSt [(.win .qsQpol, 1, 48, 0x80000000), (.win .qsQpol, 1, 50, 1000), (.win .qsQpol, 1, 51, 1000)], 1, 3, 0, 500,
      by decide +kernel⟩⟩

theorem witness_GateStarts :
    (∃ base cycle now : Nat, 0 < cycle ∧ now + 10000 ≤ base) ∧
    (∃ base cycle now n : Nat, 0 < cycle ∧ base < now + 10000 ∧ now + 10000 ≤ base + n * cycle) :=
  ⟨⟨10000, 1000, 0, by decide⟩, ⟨5000, 1000, 0, 5, by decide⟩⟩

def macFrame (last : Bool) : HostFrame := ⟨9, 64, last, true, true, false, true, none, [], none, 0⟩
def macCells : List (Cell × Nat × Nat × Nat) :=
  [(.sys .dieReleased, 0, 0, 255), (.hl .mode, 1, 2, 1), (.hl .pState, 1, 2, 3), (.hl .mtu, 1, 2, 1518)]

theorem witness_MacControlFrames :
    (∃ (s : State) (d p : Nat) (f : HostFrame), (s.up d = true ∧ s.get (.hl .mode) d p = 1 ∧ s.portState d p = prtUp ∧
      s.ctRecord d f.id = none ∧ f.macctl = true) ∧
      s.stagedAt d f.id = none ∧ f.last = true ∧ s.macVerdict d p f = 3) ∧
    (∃ (s : State) (d p : Nat) (f : HostFrame), (s.up d = true ∧ s.get (.hl .mode) d p = 1 ∧ s.portState d p = prtUp ∧
      s.ctRecord d f.id = none ∧ f.macctl = true) ∧ s.stagedAt d f.id = none ∧ f.last = false) ∧
    (∃ (s : State) (d p : Nat) (f : HostFrame) (g : Staged), (s.up d = true ∧ s.get (.hl .mode) d p = 1 ∧
      s.portState d p = prtUp ∧ s.ctRecord d f.id = none ∧ f.macctl = true) ∧
      s.stagedAt d f.id = some g ∧ f.last = true ∧ s.macVerdict d p f = 3) :=
  ⟨⟨wSt macCells, 1, 2, macFrame true, by decide +kernel⟩, ⟨wSt macCells, 1, 2, macFrame false, by decide +kernel⟩,
   ⟨{ wSt macCells with
        staged := [⟨1, 9, 2, 0, 64, false, false, 0, 0, none, 0, none⟩] }, 1, 2, macFrame true,
      ⟨1, 9, 2, 0, 64, false, false, 0, 0, none, 0, none⟩, by decide +kernel⟩⟩

theorem witness_TimeSnapshots :
    (∃ (s : State) (b : Nat) (port : APort), (b < 4 ∧ s.portOn port = true ∧ port ≠ .pcie ∧ port ≠ .spi ∧
      ∀ k, k < 4 → s.addrAnswers (0x8000 + 0x100 * b + 4 * k) = true) ∧
      s.flag (.sys .tbLatchValid) 0 (8 * b + portCode port) = true) ∧
    (∃ (s : State) (b : Nat) (port : APort), (b < 4 ∧ s.portOn port = true ∧ port ≠ .pcie ∧ port ≠ .spi ∧
      ∀ k, k < 4 → s.addrAnswers (0x8000 + 0x100 * b + 4 * k) = true) ∧
      s.flag (.sys .tbLatchValid) 0 (8 * b + portCode port) = false) :=
  ⟨⟨wSt [(.sys .dieReleased, 0, 0, 255), (.sys .tbLatchValid, 0, 24 + portCode .mgmt, 1)], 3, .mgmt, by decide +kernel⟩,
   ⟨wSt [(.sys .dieReleased, 0, 0, 255)], 0, .courier, by decide +kernel⟩⟩

/-- An image of version `v`, complete but for the bits that say its format and its key identifier hold. -/
def imgOf (v : Nat) (magic format keyId : Bool) : SlotImage :=
  ⟨magic, v, 1, 0x12, 100, format, keyId, true, true, true, [], [], []⟩
def flashCells : List (Cell × Nat × Nat × Nat) :=
  [(.sys .dieReleased, 0, 0, 255), (.boot .step, 0, 0, 3), (.boot .flashMode, 0, 0, 1)]

theorem witness_DeviceKeyIdentifier :
    (∃ (s : State) (a : SlotImage), (s.readsFlash = true ∧ s.get (.boot .flashMode) 0 0 ≠ 0) ∧
      a.formatOk = true ∧ a.keyIdOk = false) ∧
    (∃ (s : State) (a b : SlotImage), (s.readsFlash = true ∧ s.get (.boot .flashMode) 0 0 ≠ 0) ∧
      s.candidate a 1 = true ∧ s.candidate b 2 = true ∧ a.formatOk = true ∧ a.keyIdOk = false ∧ b.version ≤ a.version ∧
      s.imageFault b = none) ∧
    (∃ (s : State) (a b : SlotImage), (s.readsFlash = true ∧ s.get (.boot .flashMode) 0 0 ≠ 0) ∧
      s.candidate a 1 = true ∧ s.candidate b 2 = true ∧ b.formatOk = true ∧ b.keyIdOk = false ∧ a.version < b.version ∧
      s.imageFault a = none) ∧
    (∃ (s : State) (a b : SlotImage), (s.readsFlash = true ∧ s.get (.boot .flashMode) 0 0 ≠ 0) ∧
      s.candidate a 1 = true ∧ s.candidate b 2 = false ∧ a.formatOk = true ∧ a.keyIdOk = false) ∧
    (∃ (s : State) (a b : SlotImage), (s.readsFlash = true ∧ s.get (.boot .flashMode) 0 0 ≠ 0) ∧
      s.candidate a 1 = true ∧ s.candidate b 2 = true ∧ a.formatOk = true ∧ a.keyIdOk = false ∧ b.formatOk = true ∧
      b.keyIdOk = false) :=
  ⟨⟨wSt flashCells, imgOf 5 true true false, by decide +kernel⟩,
   ⟨wSt flashCells, imgOf 5 true true false, imgOf 5 true true true, by decide +kernel⟩,
   ⟨wSt flashCells, imgOf 4 true true true, imgOf 5 true true false, by decide +kernel⟩,
   ⟨wSt flashCells, imgOf 5 true true false, imgOf 5 false true true, by decide +kernel⟩,
   ⟨wSt flashCells, imgOf 5 true true false, imgOf 6 true true false, by decide +kernel⟩⟩

/-- A state in RUN, with the host connected, under the policy `p`. -/
def policySt (p : List PolicyEntry) : State :=
  { wSt [(.sys .dieReleased, 0, 0, 255), (.sys .pcieUp, 0, 0, 1), (.boot .state, 0, 0, 5), (.boot .policyIn, 0, 0, 1)] with
    policy := p }

theorem witness_CounterReadPolicy :
    (∃ (s : State) (addr low d i : Nat) (c : Ctr) (hi : Bool), (s.hostBus = true ∧ s.inRun = true ∧
      s.flag (.boot .policyIn) 0 0 = true ∧ placeAt addr = .half c d i hi ∧ low = (if hi then addr - 4 else addr) ∧
      bootSet addr = false ∧ mboxRange addr = false ∧ keyRange addr = false) ∧
      ∀ e ∈ s.policy, ¬ (e.read = true ∧ e.base ≤ low ∧ low + 4 ≤ e.limit)) ∧
    (∃ (s : State) (addr low d i : Nat) (c : Ctr) (hi : Bool), (s.hostBus = true ∧ s.inRun = true ∧
      s.flag (.boot .policyIn) 0 0 = true ∧ placeAt addr = .half c d i hi ∧ low = (if hi then addr - 4 else addr) ∧
      bootSet addr = false ∧ mboxRange addr = false ∧ keyRange addr = false) ∧
      (∃ e ∈ s.policy, e.read = true ∧ e.base ≤ low ∧ low + 4 ≤ e.limit) ∧ s.addrAnswers addr = true ∧ hi = false) :=
  ⟨⟨policySt [⟨0x11300300, 0x11300300, true, true⟩], 0x11300304, 0x11300300, 1, 0, ⟨.die, 0x300300, [], .lt .nDspFrame, .ro, .any⟩, true, by decide +kernel⟩,
   ⟨policySt [⟨0x11300300, 0x11300304, true, true⟩], 0x11300300, 0x11300300, 1, 0, ⟨.die, 0x300300, [], .lt .nDspFrame, .ro, .any⟩, false, by decide +kernel⟩⟩

theorem witness_TandemOrBond :
    ∃ (s : State) (d : Nat), s.present d = true ∧ d < 8 ∧ s.flag (.tdm .pairEn) d 0 = true ∧
      s.flag (.ct .bondEn) d 0 = true ∧ s.bootState = bootPhases ∧ s.called 11 = true :=
  ⟨wSt [(.tdm .pairEn, 2, 0, 1), (.ct .bondEn, 2, 0, 1), (.boot .state, 0, 0, 4), (.boot .procCalled, 0, 11, 1)], 2,
    by decide +kernel⟩

/-- A command of a side with a footprint answers a next state, and there is a cell outside the footprint. -/
def KeptWitness (x : Side) : Prop :=
  ∃ (c : Instr) (s t : State) (die : Nat) (f : Foot), c.foot s = some (x, die, f) ∧ exec c s = .next t ∧
    (∃ k, f.moves die k = false) ∧ ∃ p, f.touches p = false

theorem kept_of {x : Side} (c : Instr) (die : Nat) (f : Foot) (h : c.foot (wSt [(.sys .dieReleased, 0, 0, 255)]) = some (x, die, f))
    (a : answers c (wSt [(.sys .dieReleased, 0, 0, 255)]) = true) (k : Key) (q : f.moves die k = false) (p : Part)
    (r : f.touches p = false) : KeptWitness x :=
  ⟨c, wSt [(.sys .dieReleased, 0, 0, 255)], _, die, f, h, exec_after a, ⟨k, q⟩, p, r⟩

theorem witness_ChainAndLineKept : KeptWitness .chain ∧ KeptWitness .line :=
  ⟨kept_of (.chainPortDisable 2 1) 2 _ rfl (by decide +kernel) ⟨.lt .txState, 2, 0⟩ (by decide +kernel) .tickets (by decide),
   kept_of (.txEnFall 2) 2 _ rfl (by decide +kernel) ⟨.lt .txEn, 3, 0⟩ (by decide +kernel) .tickets (by decide)⟩

theorem witness_HostAndMemoryKept : KeptWitness .host ∧ KeptWitness .memory :=
  ⟨kept_of (.portDisable 2 7) 2 _ rfl (by decide +kernel) ⟨.hl .portEn, 3, 7⟩ (by decide +kernel) .tickets (by decide),
   kept_of (.panWriteBack 2 9 true) 2 _ rfl (by decide +kernel) ⟨.pan .state, 3, 0⟩ (by decide +kernel) .tickets (by decide)⟩

theorem witness_KeysClocksAnalogueKept : KeptWitness .keys ∧ KeptWitness .clocks ∧ KeptWitness .analogue :=
  ⟨kept_of (.bellHelloTimer 2) 2 _ rfl (by decide +kernel) ⟨.bell .txState, 3, 0⟩ (by decide +kernel) .tickets (by decide),
   kept_of (.ssmTx 2) 2 _ rfl (by decide +kernel) ⟨.tim .ssmTx, 3, 0⟩ (by decide +kernel) .tickets (by decide),
   kept_of (.monLapEnd 2) 2 _ rfl (by decide +kernel) ⟨.mon .monEn, 2, 0⟩ (by decide +kernel) .tickets (by decide)⟩

theorem witness_PackageKept : KeptWitness .package :=
  kept_of (.ksWakeComplete 2) 2 _ rfl (by decide +kernel) ⟨.pwr .stage, 3, 0⟩ (by decide +kernel) .tickets (by decide)

theorem witness_TicketsKept :
    (∃ (s t : State) (m : Tkt) (i : TktIn), ∃ x ∈ ticketRows, s.front m = some i ∧ exec (x.1 m) s = .next t ∧
      i.form = none) ∧
    (∃ (s t : State) (m : Tkt) (i : TktIn) (l : List Rec), ∃ x ∈ ticketRows, s.front m = some i ∧
      exec (x.1 m) s = .next t ∧ i.form = some l ∧ s.passes m i l = false) ∧
    (∃ (s t : State) (m : Tkt) (i : TktIn) (f : Foot), ∃ x ∈ ticketRows, s.front m = some i ∧ exec (x.1 m) s = .next t ∧
      s.passes m i [] = true ∧ footAct i.command = some f) :=
  ⟨⟨tkSt (tkWords 13 0 [1] 0 []) [], _, tkTk (tkWords 13 0 [1] 0 []), tkIn (tkWords 13 0 [1] 0 []),
      (.flashReclaim, fun c _ => decide (c = cmdFlashReclaim)), by simp [ticketRows], by decide +kernel,
      exec_after (by decide +kernel), by decide +kernel⟩,
   ⟨tkSt (tkWords 13 0 [] 0 []) [(.tkt .ctrLast, 0, 0, 101)], _, tkTk (tkWords 13 0 [] 0 []), tkIn (tkWords 13 0 [] 0 []), [],
      (.flashReclaim, fun c _ => decide (c = cmdFlashReclaim)), by simp [ticketRows], by decide +kernel,
      exec_after (by decide +kernel), by decide +kernel⟩,
   ⟨tkSt (tkWords 13 0 [] 0 []) [], _, tkTk (tkWords 13 0 [] 0 []), tkIn (tkWords 13 0 [] 0 []), _,
      (.flashReclaim, fun c _ => decide (c = cmdFlashReclaim)), by simp [ticketRows], by decide +kernel,
      exec_after (by decide +kernel), passes_none (by decide +kernel), rfl⟩⟩

theorem witness_RestartsKept :
    (∃ (c : Instr) (s t : State) (k : Key), resetCmd c = true ∧ exec c s = .next t ∧ footRestart.moves 0 k = false ∧
      k.cell.survives = true) ∧
    (∃ (s t : State) (k : Key), exec .vddAoLoss s = .next t ∧ k.cell.summary = false ∧ k.cell.outlastsAo = true) ∧
    (∃ (s t : State) (k : Key), exec .vddAoLoss s = .next t ∧ k.cell.summary = false ∧ s.flag (.sys .aoOn) 0 0 = true ∧
      k.cell.outlastsAo = false ∧ k.cell ≠ .sys .aoOn) :=
  ⟨⟨.sysRstLow, wSt [(.sys .dieReleased, 0, 0, 255)], _, ⟨.sys .fuseSvn, 0, 0⟩, rfl, exec_after (by decide +kernel),
      by decide +kernel⟩,
   ⟨wSt [(.sys .dieReleased, 0, 0, 255)], _, ⟨.sys .fuseSvn, 0, 0⟩, exec_after (by decide +kernel), by decide +kernel⟩,
   ⟨wSt [(.sys .dieReleased, 0, 0, 255), (.sys .aoOn, 0, 0, 1)], _, ⟨.hl .mtu, 1, 2⟩, exec_after (by decide +kernel),
      by decide +kernel⟩⟩

theorem witness_Kickstand_GatedCarrier :
    ∃ (s : State) (d : Nat), s.present d = true ∧ s.stage d = ksIsolate ∧ s.pkgEntry = false ∧
      s.flag (.pwr .lateWake) d 0 = false :=
  ⟨wSt [(.sys .dieReleased, 0, 0, 255), (.pwr .stage, 7, 0, 3)], 7, by decide +kernel⟩

theorem witness_RegisterFields :
    ∃ (s : State) (addr mask value d i : Nat) (r : Reg), s.recordTurn = true ∧ addr % 4 = 0 ∧ s.addrAbsent addr = false ∧
      s.accessBusy addr mask value = false ∧ recFormatOk false (.write addr mask value) = true ∧
      (s.imageWrites false [(addr, mask, value)]).2 = none ∧
      (s.relationsOk = false ∨ (s.imageWrites false [(addr, mask, value)]).1.relationsOk = true) ∧
      bankAt addr = none ∧ placeAt addr = .reg r d i ∧ (∀ f ∈ r.flds, f.cell.hooked = false ∧ f.acc ≠ .cmd) :=
  ⟨wSt [(.boot .state, 0, 0, 4), (.boot .phaseRun, 0, 0, 1), (.boot .phaseBudget, 0, 0, 100), (.boot .phase, 0, 0, 6)],
    0x11008804, 0x3FFF, 1500, 1, 2, ⟨.die, 0x8004, [(16, 0x400)], [fT 31 16 (.hl .pfcQuanta), fT 13 0 (.hl .mtu) (.ivs [(64, 9216)])]⟩,
    by decide +kernel⟩

theorem swapBytes_swapBytes {x : Nat} (h : x < 2 ^ 32) : swapBytes (swapBytes x) = x := by
  have split (a b c d : Nat) (ha : a < 256) (hb : b < 256) (hc : c < 256) (hd : d < 256) :
      swapBytes (a * 16777216 + b * 65536 + c * 256 + d) = d * 16777216 + c * 65536 + b * 256 + a := by
    have h0 : (a * 16777216 + b * 65536 + c * 256 + d) % 256 = d := by omega
    have h1 : (a * 16777216 + b * 65536 + c * 256 + d) / 256 % 256 = c := by omega
    have h2 : (a * 16777216 + b * 65536 + c * 256 + d) / 65536 % 256 = b := by omega
    have h3 : (a * 16777216 + b * 65536 + c * 256 + d) / 16777216 % 256 = a := by omega
    simp [swapBytes, bits, h0, h1, h2, h3]
  have e : x = x / 16777216 * 16777216 + x / 65536 % 256 * 65536 + x / 256 % 256 * 256 + x % 256 := by omega
  rw [e, split _ _ _ _ (by omega) (by omega) (by omega) (by omega), split _ _ _ _ (by omega) (by omega) (by omega) (by omega)]

/-- The words of a RESTART ticket in FAILED whose key words are those that the fuses hold. -/
def failedWords : List Nat :=
  [0x54494B33, 7464, 11 * 65536, 2708 * 65536, 101, 0, 0, 0] ++ (List.range 4).map fun j =>
    swapBytes (Config.fusedWord (8 + j) % 2 ^ 32)

def failedSt (l : List (Cell × Nat × Nat × Nat)) (len : Nat) : State :=
  { wSt ([(.boot .state, 0, 0, 6), (.tkt .fetched, 0, 0, 1), (.tkt .fetchLen, 0, 0, len)] ++ l) with
    tickets := [.ring 5] }

theorem failedSt_front : (failedSt [(.boot .errCode, 0, 0, 4), (.sys .fuseOwned, 0, 0, 1)] 7464).front ⟨failedWords, true, true⟩ =
    some ⟨7464, failedWords, true, true⟩ := by
  have h1 : (failedSt [(.boot .errCode, 0, 0, 4), (.sys .fuseOwned, 0, 0, 1)] 7464).get (.tkt .fetched) 0 0 = 1 := by
    decide +kernel
  have h2 : (failedSt [(.boot .errCode, 0, 0, 4), (.sys .fuseOwned, 0, 0, 1)] 7464).get (.tkt .fetchLen) 0 0 = 7464 := by
    decide +kernel
  have h3 : (failedSt [(.boot .errCode, 0, 0, 4), (.sys .fuseOwned, 0, 0, 1)] 7464).tickets = [.ring 5] := rfl
  simp only [State.front, h1, h2, h3, if_true]

theorem failedWords_key {j : Nat} (h : j < 4) :
    TktIn.word ⟨7464, failedWords, true, true⟩ (8 + j) = swapBytes (Config.fusedWord (8 + j) % 2 ^ 32) := by
  have q (a b c d e f g i : Nat) (r : Nat → Nat) : ([a, b, c, d, e, f, g, i] ++ (List.range 4).map r).getD (8 + j) 0 = r j := by
    interval_cases j <;> rfl
  rw [TktIn.word, failedWords, q]

theorem witness_TicketChecks_RestartInFailed :
    (∃ (s : State) (k : Tkt) (i : TktIn), (s.bootState = bootFailed ∧ s.ticketTurn = true ∧ s.front k = some i) ∧
      s.get (.boot .errCode) 0 0 = errSelftest) ∧
    (∃ (s : State) (k : Tkt) (i : TktIn), (s.bootState = bootFailed ∧ s.ticketTurn = true ∧ s.front k = some i) ∧
      s.get (.boot .errCode) 0 0 ≠ errSelftest ∧ i.failedForm = false) ∧
    (∃ (s : State) (k : Tkt) (i : TktIn) (ownerOk : Bool), (s.bootState = bootFailed ∧ s.ticketTurn = true ∧
      s.front k = some i) ∧ s.get (.boot .errCode) 0 0 ≠ errSelftest ∧ i.failedForm = true ∧
      ((List.range 4).all fun j => decide (swapBytes (i.word (8 + j)) = Config.fusedWord (8 + j) % 2 ^ 32)) = true ∧
      s.flag (.sys .fuseOwned) 0 0 = true ∧ ownerOk = true ∧ i.word 684 / 256 = 0 ∧ i.sigOk = true ∧
      s.get (.tkt .ctrLast) 0 0 < i.counter ∧ s.journalBlocked i.counter = false) := by
  refine ⟨⟨failedSt [(.boot .errCode, 0, 0, 1)] 4756, ⟨[], true, true⟩, ⟨4756, [], true, true⟩, by decide +kernel⟩,
   ⟨failedSt [(.boot .errCode, 0, 0, 4)] 4756, ⟨[], true, true⟩, ⟨4756, [], true, true⟩, by decide +kernel⟩,
   ⟨failedSt [(.boot .errCode, 0, 0, 4), (.sys .fuseOwned, 0, 0, 1)] 7464, ⟨failedWords, true, true⟩,
     ⟨7464, failedWords, true, true⟩, true, ⟨by decide +kernel, by decide +kernel, failedSt_front⟩, by decide +kernel, by decide +kernel, ?_,
     by decide +kernel, rfl, by decide +kernel, rfl, by decide +kernel, by decide +kernel⟩⟩
  simp only [List.all_eq_true, List.mem_range, decide_eq_true_eq]
  intro j h
  rw [failedWords_key h, swapBytes_swapBytes (Nat.mod_lt _ (by decide))]

theorem witness_BellSendingAndMessages_BellSending :
    (∃ (s : State) (d : Nat) (ty : Nat), s.bellOn d = true ∧ s.flag (.sys .restartPend) 0 0 = false ∧ s.get (.bell
      .cur) d 0 = 0 ∧ s.bellTop d = ty ∧ ty ≠ 0 ∧ s.bellPath d ty ≠ 0) ∧
    (∃ (s : State) (d : Nat), s.bellOn d = true ∧ s.flag (.sys .restartPend) 0 0 = false ∧ s.get (.bell .cur) d 0 ≠ 0) ∧
    (∃ (s : State) (d : Nat) (ty : Nat), s.bellOn d = true ∧ s.flag (.sys .restartPend) 0 0 = false ∧ s.get (.bell
      .cur) d 0 = ty ∧ ty ≠ 0 ∧ ty ≠ bellGasp ∧ s.bellPath d ty ≠ s.get (.bell .txSrc) d 0) ∧
    (∃ (s : State) (d : Nat), s.bellOn d = true ∧ s.flag (.sys .restartPend) 0 0 = false ∧ s.flag (.bell .discRun) d 0
      = true ∧ s.get (.bell .discState) d 0 ≠ 3) ∧
    (∃ (s : State) (d : Nat), s.bellOn d = true ∧ s.flag (.sys .restartPend) 0 0 = false ∧ s.flag (.bell .ksKey) d 0 =
      true ∧ ksClocksOff ≤ s.stage d ∧ s.stage d ≤ ksGated) ∧
    (∃ (s : State) (d : Nat), s.bellOn d = true ∧ s.flag (.sys .restartPend) 0 0 = false ∧ s.flag (.bell .peerParked)
      d 0 = true ∧ s.rxOn d = true ∧ s.awake d = true) :=
  ⟨⟨(wSt [(.lt .txState, 0, 0, 4), (.bell .bellEn, 0, 0, 1), (.bell .pend, 0, 0, 4), (.sys .dieReleased, 0, 0, 255),
      (.sys .railsGood, 0, 0, 1)]), 0, 3, by decide +kernel⟩,
   ⟨(wSt [(.bell .bellEn, 2, 0, 1), (.bell .cur, 2, 0, 1), (.sys .railsGood, 0, 0, 1)]), 2, by decide +kernel⟩,
   ⟨(wSt [(.bell .bellEn, 2, 0, 1), (.bell .txSrc, 2, 0, 2), (.bell .cur, 2, 0, 3), (.sys .railsGood, 0, 0, 1)]), 2,
      3, by decide +kernel⟩,
   ⟨(wSt [(.bell .bellEn, 5, 0, 1), (.bell .discRun, 5, 0, 1), (.sys .railsGood, 0, 0, 1)]), 5, by decide +kernel⟩,
   ⟨(wSt [(.bell .ksKey, 3, 0, 1), (.bell .bellEn, 3, 0, 1), (.pwr .stage, 3, 0, 3), (.sys .railsGood, 0, 0, 1)]), 3,
      by decide +kernel⟩,
   ⟨(wSt [(.lr .rxEn, 6, 0, 1), (.bell .bellEn, 6, 0, 1), (.bell .peerParked, 6, 0, 1), (.sys .dieReleased, 0, 0,
      255), (.sys .railsGood, 0, 0, 1)]), 6, by decide +kernel⟩⟩

theorem witness_BellReception_BellReceiver :
    (∃ (s : State) (d : Nat), s.bellOn d = true ∧ s.bellRx d = bellSearch) ∧
    (∃ (s : State) (d : Nat), s.bellOn d = true ∧ s.bellRx d = bellSearch) ∧
    (∃ (s : State) (d : Nat) (compat : Bool), s.bellOn d = true ∧ s.bellRx d = bellDetected ∧ s.bellFormat d compat =
      true) ∧
    (∃ (s : State) (d : Nat), s.bellOn d = true ∧ s.bellRx d = bellDetected) ∧
    (∃ (s : State) (d : Nat), s.bellOn d = true ∧ s.bellRx d = bellHdr ∧ s.flag (.bell .rxCompat) d 0 = false) ∧
    (∃ (s : State) (d : Nat), s.bellOn d = true ∧ s.bellRx d = bellHdr ∧ s.flag (.bell .rxCompat) d 0 = false) ∧
    (∃ (s : State) (d : Nat), s.bellOn d = true ∧ s.bellRx d = bellHdr) ∧
    (∃ (s : State) (d : Nat), s.bellOn d = true ∧ s.bellRx d = bellBody) ∧
    (∃ (s : State) (d : Nat), s.bellOn d = true ∧ s.bellRx d = bellBody) ∧
    (∃ (s : State) (d : Nat), s.bellOn d = true ∧ s.bellRx d = bellBody) ∧
    (∃ (s : State) (d : Nat) (rssi : Int) (compat : Bool), s.bellOn d = true ∧ s.bellRx d = bellBody ∧ s.bellFormat d
      compat = true ∧ sext 16 (s.get (.bell .rssi) d 0) + 4 * s.get (.bell .captureDb) d 0 ≤ rssi) :=
  ⟨⟨(wSt [(.bell .bellEn, 7, 0, 1), (.bell .rxState, 7, 0, 1), (.sys .railsGood, 0, 0, 1)]), 7, by decide +kernel⟩,
   ⟨(wSt [(.bell .bellEn, 3, 0, 1), (.bell .rxState, 3, 0, 1), (.sys .railsGood, 0, 0, 1)]), 3, by decide +kernel⟩,
   ⟨(wSt [(.bell .bellEn, 2, 0, 1), (.bell .rxState, 2, 0, 2), (.sys .railsGood, 0, 0, 1)]), 2, false,
      by decide +kernel⟩,
   ⟨(wSt [(.bell .bellEn, 4, 0, 1), (.bell .rxState, 4, 0, 2), (.sys .railsGood, 0, 0, 1)]), 4, by decide +kernel⟩,
   ⟨(wSt [(.bell .bellEn, 1, 0, 1), (.bell .rxState, 1, 0, 3), (.sys .railsGood, 0, 0, 1)]), 1, by decide +kernel⟩,
   ⟨(wSt [(.bell .bellEn, 5, 0, 1), (.bell .rxState, 5, 0, 3), (.sys .railsGood, 0, 0, 1)]), 5, by decide +kernel⟩,
   ⟨(wSt [(.bell .bellEn, 2, 0, 1), (.bell .rxState, 2, 0, 3), (.sys .railsGood, 0, 0, 1)]), 2, by decide +kernel⟩,
   ⟨(wSt [(.bell .bellEn, 3, 0, 1), (.bell .rxState, 3, 0, 4), (.sys .railsGood, 0, 0, 1)]), 3, by decide +kernel⟩,
   ⟨(wSt [(.bell .bellEn, 4, 0, 1), (.bell .rxState, 4, 0, 4), (.sys .railsGood, 0, 0, 1)]), 4, by decide +kernel⟩,
   ⟨(wSt [(.bell .bellEn, 7, 0, 1), (.bell .rxState, 7, 0, 4), (.sys .railsGood, 0, 0, 1)]), 7, by decide +kernel⟩,
   ⟨(wSt [(.bell .compat, 0, 0, 1), (.bell .bellEn, 0, 0, 1), (.bell .rxState, 0, 0, 4), (.sys .railsGood, 0, 0, 1)]),
      0, 2, true, by decide +kernel⟩⟩

theorem witness_BellSendingAndMessages_BellMessages :
    (∃ (s : State) (d : Nat) (m : BellMsg), s.bellOn d = true ∧ s.flag (.bell .offered) d 0 = true ∧ s.bellAccepts d m
      false = false) ∧
    (∃ (s : State) (d : Nat) (m : BellMsg), s.bellOn d = true ∧ s.flag (.bell .offered) d 0 = true ∧ s.bellAccepts d m
      false = true) ∧
    (∃ (s : State) (d : Nat) (m : BellMsg), s.bellOn d = true ∧ s.flag (.bell .offered) d 0 = true ∧ s.bellAccepts d m
      false = true ∧ s.fromPartner d m = true) ∧
    (∃ (s : State) (d : Nat) (m : BellMsg), s.bellOn d = true ∧ s.flag (.bell .offered) d 0 = true ∧ s.bellAccepts d m
      false = true ∧ s.fromPartner d m = true ∧ s.flag (.bell .wakeEn) d 0 = true ∧ s.get (.bell .lastWake) d 0 = 0) ∧
    (∃ (s : State) (d : Nat) (m : BellMsg), s.bellOn d = true ∧ s.flag (.bell .offered) d 0 = true ∧ s.bellAccepts d m
      false = true ∧ s.flag (.bell .wakeEn) d 0 = false) ∧
    (∃ (s : State) (d : Nat), s.bellOn d = true ∧ s.flag (.bell .peerParked) d 0 = true) ∧
    (∃ (s : State) (d : Nat), s.bellOn d = true ∧ s.bellRx d = bellHdr ∧ s.flag (.bell .rxCompat) d 0 = true) ∧
    (∃ (s : State) (d : Nat) (m : BellMsg), s.bellOn d = true ∧ s.bellRx d = bellHdr ∧ s.flag (.bell .rxCompat) d 0 =
      true ∧ s.bellAccepts d m false = true) :=
  ⟨⟨(wSt [(.bell .bellEn, 7, 0, 1), (.bell .offered, 7, 0, 1), (.sys .railsGood, 0, 0, 1)]), 7, ⟨0, 4, 1, 6, false⟩,
      by decide +kernel⟩,
   ⟨(wSt [(.bell .bellEn, 4, 0, 1), (.bell .offered, 4, 0, 1), (.sys .railsGood, 0, 0, 1)]), 4, ⟨1, 6, 4095, 3, true⟩,
      by decide +kernel⟩,
   ⟨(wSt [(.bell .bellEn, 0, 0, 1), (.bell .peerValid, 0, 0, 1), (.bell .offered, 0, 0, 1), (.sys .railsGood, 0, 0,
      1)]), 0, ⟨0, 2, 4095, 3, false⟩, by decide +kernel⟩,
   ⟨(wSt [(.ao .nodeId, 0, 0, 2), (.bell .wakeEn, 6, 0, 1), (.bell .bellEn, 6, 0, 1), (.bell .peerValid, 6, 0, 1),
      (.bell .partner, 6, 0, 1), (.bell .offered, 6, 0, 1), (.sys .railsGood, 0, 0, 1)]), 6, ⟨1, 6, 2, 6, true⟩,
      by decide +kernel⟩,
   ⟨(wSt [(.bell .bellEn, 2, 0, 1), (.bell .offered, 2, 0, 1), (.sys .railsGood, 0, 0, 1)]), 2, ⟨1, 3, 4095, 1,
      false⟩, by decide +kernel⟩,
   ⟨(wSt [(.bell .bellEn, 1, 0, 1), (.bell .peerParked, 1, 0, 1), (.sys .railsGood, 0, 0, 1)]), 1, by decide +kernel⟩,
   ⟨(wSt [(.bell .bellEn, 5, 0, 1), (.bell .rxCompat, 5, 0, 1), (.bell .rxState, 5, 0, 3), (.sys .railsGood, 0, 0,
      1)]), 5, by decide +kernel⟩,
   ⟨(wSt [(.bell .bellEn, 6, 0, 1), (.bell .rxCompat, 6, 0, 1), (.bell .rxState, 6, 0, 3), (.sys .railsGood, 0, 0,
      1)]), 6, ⟨2, 1, 4095, 2, true⟩, by decide +kernel⟩⟩

theorem witness_BellReception_BellDiscovery :
    (∃ (s : State) (d : Nat), s.lantern d = true ∧ s.discCalled d = true ∧ s.flag (.bell .bellEn) d 0 = true) ∧
    (∃ (s : State) (d : Nat), s.lantern d = true ∧ s.discCalled d = true ∧ s.flag (.bell .bellEn) d 0 = false ∧ s.get
      (.boot .procId) 0 0 = 7 ∧ bit (s.procArg 7 2) 0 = false) ∧
    (∃ (s : State) (d : Nat), s.lantern d = true ∧ s.flag (.bell .discRun) d 0 = true ∧ s.get (.bell .discState) d 0 ≠
      discDone) ∧
    (∃ (s : State) (d : Nat), s.lantern d = true ∧ s.flag (.bell .discRun) d 0 = true ∧ s.get (.bell .discState) d 0 ≠
      discDone ∧ s.dspPath d = false) ∧
    (∃ (s : State) (d : Nat), s.lantern d = true ∧ s.up d = true ∧ s.rxState d ≠ rxLocked ∧ s.flag (.der .returned) d
      0 = true ∧ s.flag (.bell .bellEn) d 0 = true) ∧
    (∃ (s : State) (d : Nat) (m : BellMsg), s.lantern d = true ∧ s.bellOffered d = true ∧ s.bellAccepts d m true =
      true ∧ s.flag (.bell .discRun) d 0 = false ∧ s.get (.bell .discState) d 0 = discDone ∧ s.get (.bell .partner) d
      0 = m.sender) ∧
    (∃ (s : State) (d : Nat) (m : BellMsg), s.lantern d = true ∧ s.bellOffered d = true ∧ s.bellAccepts d m true =
      true ∧ s.flag (.bell .discRun) d 0 = false ∧ s.get (.bell .discState) d 0 = discDone ∧ s.get (.bell .partner) d
      0 ≠ m.sender) ∧
    (∃ (s : State) (d : Nat) (m : BellMsg) (desc : List Nat), s.lantern d = true ∧ s.bellOffered d = true ∧
      s.bellAccepts d m true = true ∧ s.flag (.bell .discRun) d 0 = true ∧ s.get (.bell .expNode) d 0 = 0xFFF ∧
      descGrid desc ≠ descGrid (s.rxDesc d 0)) ∧
    (∃ (s : State) (d : Nat) (m : BellMsg) (desc : List Nat), s.lantern d = true ∧ s.bellOffered d = true ∧
      s.bellAccepts d m true = true ∧ s.flag (.bell .discRun) d 0 = true ∧ s.get (.bell .expNode) d 0 = 0xFFF ∧
      descGrid desc = descGrid (s.rxDesc d 0) ∧ s.descMatches d desc = true ∧ m.heard = false) ∧
    (∃ (s : State) (d : Nat) (m : BellMsg) (desc : List Nat), s.lantern d = true ∧ s.bellOffered d = true ∧
      s.bellAccepts d m true = true ∧ s.flag (.bell .discRun) d 0 = true ∧ s.get (.bell .expNode) d 0 = 0xFFF ∧
      descGrid desc = descGrid (s.rxDesc d 0) ∧ s.descMatches d desc = true ∧ m.heard = true ∧ m.dest = s.get (.ao
      .nodeId) 0 0 ∧ m.destCarrier = d) :=
  ⟨⟨(wSt [(.boot .procCalled, 0, 7, 1), (.boot .procArgW, 0, 112, 7), (.bell .bellEn, 7, 0, 1), (.sys .railsGood, 0,
      0, 1)]), 7, by decide +kernel⟩,
   ⟨(wSt [(.boot .procId, 0, 0, 7), (.boot .procCalled, 0, 7, 1), (.boot .procArgW, 0, 112, 3), (.sys .railsGood, 0,
      0, 1)]), 3, by decide +kernel⟩,
   ⟨(wSt [(.bell .discRun, 1, 0, 1), (.sys .railsGood, 0, 0, 1)]), 1, by decide +kernel⟩,
   ⟨(wSt [(.bell .discRun, 4, 0, 1), (.sys .railsGood, 0, 0, 1)]), 4, by decide +kernel⟩,
   ⟨(wSt [(.der .returned, 3, 0, 1), (.bell .bellEn, 3, 0, 1), (.sys .dieReleased, 0, 0, 255), (.sys .railsGood, 0, 0,
      1)]), 3, by decide +kernel⟩,
   ⟨(wSt [(.bell .bellEn, 0, 0, 1), (.bell .discState, 0, 0, 3), (.bell .partner, 0, 0, 1), (.bell .offered, 0, 0, 1),
      (.sys .railsGood, 0, 0, 1)]), 0, ⟨1, 4, 4095, 6, false⟩, by decide +kernel⟩,
   ⟨(wSt [(.bell .bellEn, 5, 0, 1), (.bell .discState, 5, 0, 3), (.bell .offered, 5, 0, 1), (.sys .railsGood, 0, 0,
      1)]), 5, ⟨1, 0, 4095, 1, false⟩, by decide +kernel⟩,
   ⟨(wSt [(.bell .bellEn, 7, 0, 1), (.bell .offered, 7, 0, 1), (.bell .discRun, 7, 0, 1), (.sys .railsGood, 0, 0,
      1)]), 7, ⟨1, 5, 4095, 7, true⟩, [], by decide +kernel⟩,
   ⟨(wSt [(.ao .nodeId, 0, 0, 2), (.bell .bellEn, 6, 0, 1), (.bell .offered, 6, 0, 1), (.bell .discRun, 6, 0, 1),
      (.sys .railsGood, 0, 0, 1)]), 6, ⟨0, 3, 2, 3, false⟩, [1, 0, 0, 0, 0, 0, 0, 0, 127, 255, 255, 0, 0, 0, 0, 0, 0,
      0, 0, 0, 0, 0, 0, 0, 0, 0, 0, 0, 0, 0, 0, 0], by decide +kernel⟩,
   ⟨(wSt [(.ao .nodeId, 0, 0, 4095), (.bell .bellEn, 5, 0, 1), (.bell .offered, 5, 0, 1), (.bell .discRun, 5, 0, 1),
      (.sys .railsGood, 0, 0, 1)]), 5, ⟨0, 4, 4095, 5, true⟩, [1, 0, 0, 0, 0, 0, 0, 0, 127, 255, 255, 0, 0, 0, 0, 0,
      0, 0, 0, 0, 0, 0, 0, 0, 0, 0, 0, 0, 0, 0, 0, 0], by decide +kernel⟩⟩

theorem witness_BiasLoops :
    (∃ (s : State) (d : Nat) (k : Nat), s.lantern d = true ∧ k < 6 ∧ d < 8 ∧ s.biasCalled d = true ∧ s.get (.boot
      .procId) 0 0 = 6 ∧ s.flag (.bias .biasEn) d 0 = true ∧ s.flag (.bias .started) d 0 = false ∧ s.flag (.cal
      .sysValid) d 0 = false) ∧
    (∃ (s : State) (d : Nat) (k : Nat) (r : BiasRun), s.lantern d = true ∧ k < 6 ∧ d < 8 ∧ s.biasCalled d = true ∧
      s.get (.boot .procId) 0 0 = 6 ∧ s.flag (.bias .started) d 0 = false ∧ s.flag (.cal .sysValid) d 0 = true ∧
      s.lasReady d = true ∧ r.light = true ∧ s.hvGood = true ∧ s.biasConfigOk d = false) ∧
    (∃ (s : State) (d : Nat) (k : Nat) (r : BiasRun), s.lantern d = true ∧ k < 6 ∧ d < 8 ∧ s.flag (.bias .biasEn) d 0
      = true ∧ s.flag (.bias .biasSrc) d 0 = false ∧ r.crcOk = false) ∧
    (∃ (s : State) (d : Nat) (k : Nat), s.lantern d = true ∧ k < 6 ∧ d < 8 ∧ s.biasOn d = true) ∧
    (∃ (s : State) (d : Nat) (k : Nat), s.lantern d = true ∧ k < 6 ∧ d < 8 ∧ s.biasOn d = true ∧ s.get (.bias
      .ptState) d k = ptLocked ∧ s.flag (.bias .ptFirst) d k = false ∧ s.flag (.bias .wrapAuto) d 0 = false ∧ s.keying
      d = false ∧ s.flag (.bias .light) d 0 = true ∧ s.flag (.bias .hvClamp) d 0 = false ∧ s.flag (.bias .ptFault) d k
      = false) ∧
    (∃ (s : State) (d : Nat) (k : Nat) (e : Int), s.lantern d = true ∧ k < 6 ∧ d < 8 ∧ s.biasOn d = true ∧ s.get
      (.bias .ptState) d k = ptLocked ∧ s.get (.bias .ptBase) d k = ptLocked ∧ s.flag (.bias .ptFirst) d k = false ∧
      s.flag (.bias .wrapAuto) d 0 = false ∧ s.keying d = false ∧ s.flag (.bias .light) d 0 = true ∧ s.flag (.bias
      .hvClamp) d 0 = false ∧ s.flag (.bias .ptFault) d k = false ∧ 4 * s.get (.bias .lockThr) d k < e.natAbs ∧ 15 ≤
      s.get (.bias .ptUnlRun) d k) ∧
    (∃ (s : State) (d : Nat) (k : Nat), s.lantern d = true ∧ k < 6 ∧ d < 8 ∧ s.get (.bias .ptState) d k = ptWrap ∧
      s.biasOn d = true ∧ s.keying d = false ∧ s.flag (.bias .light) d 0 = true ∧ s.flag (.bias .hvClamp) d 0 = false
      ∧ s.flag (.bias .ptFault) d k = false) ∧
    (∃ (s : State) (d : Nat) (k : Nat), s.lantern d = true ∧ k < 6 ∧ d < 8 ∧ s.biasOn d = true) ∧
    (∃ (s : State) (d : Nat) (k : Nat), s.lantern d = true ∧ k < 6 ∧ d < 8 ∧ s.flag (.bias .ptAcq) d k = true) ∧
    (∃ (s : State) (d : Nat) (k : Nat), s.lantern d = true ∧ k < 6 ∧ d < 8 ∧ s.biasOn d = true ∧ s.get (.bias
      .ptState) d k = ptLocked ∧ (s.get (.bias .wrapMv) d 0 - 1000) * 4096 < (s.getI (.bias .ptV) d k).natAbs ∧
      s.keying d = false ∧ s.flag (.bias .light) d 0 = true ∧ s.flag (.bias .hvClamp) d 0 = false ∧ s.flag (.bias
      .ptFault) d k = false) :=
  ⟨⟨(wSt [(.boot .procId, 0, 0, 6), (.boot .procCalled, 0, 6, 1), (.boot .procArgW, 0, 96, 4), (.sys .railsGood, 0, 0,
      1)]), 4, 0, by decide +kernel⟩,
   ⟨(wSt [(.boot .procId, 0, 0, 6), (.boot .procCalled, 0, 6, 1), (.boot .procArgW, 0, 96, 4), (.las .state, 4, 0, 3),
      (.cal .sysValid, 4, 0, 1), (.sys .railsGood, 0, 0, 1)]), 4, 1, ⟨true, [3], [4095], true, some 1, [none, none,
      some 1022], true⟩, by decide +kernel⟩,
   ⟨(wSt [(.sys .railsGood, 0, 0, 1)]), 2, 0, ⟨false, [15, 3, 0], [], false, some 0, [], true⟩, by decide +kernel⟩,
   ⟨(wSt [(.bias .started, 7, 0, 1), (.sys .railsGood, 0, 0, 1)]), 7, 0, by decide +kernel⟩,
   ⟨(wSt [(.bias .light, 1, 0, 1), (.bias .ptState, 1, 5, 3), (.bias .started, 1, 0, 1), (.sys .railsGood, 0, 0, 1)]),
      1, 5, by decide +kernel⟩,
   ⟨(wSt [(.bias .light, 7, 0, 1), (.bias .ptState, 7, 1, 3), (.bias .started, 7, 0, 1), (.bias .ptBase, 7, 1, 3),
      (.bias .ptUnlRun, 7, 1, 15), (.sys .railsGood, 0, 0, 1)]), 7, 1, (-4294967295), by decide +kernel⟩,
   ⟨(wSt [(.bias .light, 1, 0, 1), (.bias .ptState, 1, 1, 6), (.bias .started, 1, 0, 1), (.sys .railsGood, 0, 0, 1)]),
      1, 1, by decide +kernel⟩,
   ⟨(wSt [(.bias .started, 5, 0, 1), (.sys .railsGood, 0, 0, 1)]), 5, 0, by decide +kernel⟩,
   ⟨(wSt [(.bias .ptAcq, 6, 1, 1), (.sys .railsGood, 0, 0, 1)]), 6, 1, by decide +kernel⟩,
   ⟨(wSt [(.bias .light, 7, 0, 1), (.bias .ptState, 7, 2, 3), (.bias .started, 7, 0, 1), (.bias .ptV, 7, 2, 60000000),
      (.sys .railsGood, 0, 0, 1)]), 7, 2, by decide +kernel⟩⟩

theorem witness_StartupAndImages :
    (∃ (s : State) (katOk : Bool) (entropyOk : Bool), s.get (.boot .step) 0 0 = 2 ∧ s.released 0 = false ∧ s.flag
      (.sys .sysRstN) 0 0 = true ∧ s.flag (.sys .railsGood) 0 0 = true ∧ s.poweredOff = false ∧ katOk = true ∧
      entropyOk = true) ∧
    (∃ (s : State) (katOk : Bool) (entropyOk : Bool), s.get (.boot .step) 0 0 = 2 ∧ s.released 0 = false ∧ s.flag
      (.sys .sysRstN) 0 0 = true ∧ s.flag (.sys .railsGood) 0 0 = true ∧ s.poweredOff = false ∧ (katOk && entropyOk) =
      false) ∧
    (∃ (s : State) (info : FlashInfo), s.readsFlash = true ∧ s.get (.boot .flashMode) 0 0 = 0 ∧ info.erase4k = true) ∧
    (∃ (s : State) (info : FlashInfo), s.readsFlash = true ∧ s.get (.boot .flashMode) 0 0 = 0 ∧ info.erase4k = false) ∧
    (∃ (s : State) (slot : Nat) (seg : Nat), s.readsFlash = true ∧ s.get (.boot .flashMode) 0 0 ≠ 0 ∧ 1 ≤ slot ∧ slot
      ≤ 2 ∧ 1 ≤ seg ∧ seg ≤ 4) ∧
    (∃ (s : State) (a : SlotImage) (b : SlotImage), s.readsFlash = true ∧ s.get (.boot .flashMode) 0 0 ≠ 0 ∧
      s.candidate a 1 = true ∧ s.candidate b 2 = false ∧ s.imageFault a = none) ∧
    (∃ (s : State) (a : SlotImage) (b : SlotImage), s.readsFlash = true ∧ s.get (.boot .flashMode) 0 0 ≠ 0 ∧
      s.candidate a 1 = true ∧ s.candidate b 2 = true ∧ a.version < b.version ∧ s.imageFault b = none) ∧
    (∃ (s : State) (a : SlotImage) (b : SlotImage), s.readsFlash = true ∧ s.get (.boot .flashMode) 0 0 ≠ 0 ∧
      s.candidate a 1 = true ∧ s.candidate b 2 = true ∧ a.version < b.version ∧ s.imageFault b ≠ none ∧ s.imageFault a
      = none) ∧
    (∃ (s : State) (a : SlotImage) (b : SlotImage), s.readsFlash = true ∧ s.get (.boot .flashMode) 0 0 ≠ 0 ∧
      s.candidate a 1 = false ∧ s.candidate b 2 = false) ∧
    (∃ (s : State), s.bootState = bootRestartWait) :=
  ⟨⟨(wSt [(.boot .step, 0, 0, 2), (.sys .railsGood, 0, 0, 1)]), true, true, by decide +kernel⟩,
   ⟨(wSt [(.boot .step, 0, 0, 2), (.sys .railsGood, 0, 0, 1)]), false, true, by decide +kernel⟩,
   ⟨(wSt [(.boot .step, 0, 0, 3), (.sys .dieReleased, 0, 0, 1)]), ⟨true, true⟩, by decide +kernel⟩,
   ⟨(wSt [(.boot .step, 0, 0, 3), (.sys .dieReleased, 0, 0, 1)]), ⟨true, false⟩, by decide +kernel⟩,
   ⟨(wSt [(.boot .step, 0, 0, 3), (.boot .flashMode, 0, 0, 1), (.sys .dieReleased, 0, 0, 1)]), 2, 1,
      by decide +kernel⟩,
   ⟨(wSt [(.boot .step, 0, 0, 3), (.boot .flashMode, 0, 0, 1), (.sys .dieReleased, 0, 0, 1)]), ⟨true, 2, 2, 2923, 100,
      true, true, true, true, true, [⟨0, 4294967292, true, true⟩], [16383], [20498]⟩, ⟨false, 5, 1, 18, 100, true,
      true, true, true, true, [⟨0, 4294967292, true, true⟩], [16383], [20498]⟩, by decide +kernel⟩,
   ⟨(wSt [(.boot .step, 0, 0, 3), (.boot .flashMode, 0, 0, 1), (.sys .dieReleased, 0, 0, 1)]), ⟨true, 0, 1, 3356, 100,
      true, true, true, true, true, [⟨0, 4294967292, true, true⟩], [16383], [20498]⟩, ⟨true, 3, 2, 3342, 100, true,
      true, true, true, true, [⟨0, 4294967292, true, true⟩], [16383], [20498]⟩, by decide +kernel⟩,
   ⟨(wSt [(.boot .step, 0, 0, 3), (.boot .flashMode, 0, 0, 1), (.sys .dieReleased, 0, 0, 1)]), ⟨true, 0, 2, 626, 100,
      true, true, true, true, true, [⟨0, 4294967292, true, true⟩], [16383], [20498]⟩, ⟨true, 2, 1, 3216, 100, true,
      true, false, true, true, [⟨0, 4294967292, true, true⟩], [16383], [20498]⟩, by decide +kernel⟩,
   ⟨(wSt [(.boot .step, 0, 0, 3), (.boot .flashMode, 0, 0, 1), (.sys .dieReleased, 0, 0, 1)]), ⟨false, 5, 1, 18, 100,
      true, true, true, true, true, [⟨0, 4294967292, true, true⟩], [16383], [20498]⟩, ⟨false, 5, 1, 18, 100, true,
      true, true, true, true, [⟨0, 4294967292, true, true⟩], [16383], [20498]⟩, by decide +kernel⟩,
   ⟨(wSt [(.boot .state, 0, 0, 7)]), by decide +kernel⟩⟩

theorem witness_PhasesAndRecords :
    (∃ (s : State) (p : Nat) (budget : Nat) (recs : Nat), s.bootState = bootPhases ∧ s.run = none ∧ s.lastPhase = none
      ∧ p ≤ 1 ∧ 1 ≤ budget ∧ budget ≤ 60000 ∧ recs ≤ 4096 ∧ s.flag (.boot .phaseRun) 0 0 = false) ∧
    (∃ (s : State) (p : Nat), s.bootState = bootPhases ∧ s.run = none ∧ s.lastPhase = some p ∧ 1 < p ∧ s.flag (.boot
      .phaseRun) 0 0 = false ∧ 1 ≤ p) ∧
    (∃ (s : State) (d : Nat) (ok : Bool), s.awaits d = true ∧ d < 8 ∧ ok = true) ∧
    (∃ (s : State) (d : Nat), s.awaits d = true ∧ d < 8) ∧
    (∃ (s : State), s.bootState = bootPhases ∧ s.flag (.boot .phaseRun) 0 0 = true ∧ s.get (.boot .phaseBudget) 0 0 ≠
      0) ∧
    (∃ (s : State) (addr : Nat) (mask : Nat) (value : Nat), s.recordTurn = true ∧ addr % 4 = 0 ∧ s.addrAbsent addr =
      false ∧ s.accessBusy addr mask value = false ∧ (s.imageWrites false [(addr, mask, value)]).2 = none ∧
      ((s.relationsOk = false ∨ (s.imageWrites false [(addr, mask, value)]).1.relationsOk = true)) ∧ (s.imageWrites
      false [(addr, mask, value)]).1.get (.tkt .nodeId) 0 0 = s.get (.tkt .nodeId) 0 0 ∧ recFormatOk false (.write
      addr mask value) = true) ∧
    (∃ (s : State) (addr : Nat) (mask : Nat) (value : Nat), s.recordTurn = true ∧ recFormatOk false (.write addr mask
      value) = false) ∧
    (∃ (s : State) (addr : Nat) (mask : Nat) (value : Nat) (count : Nat) (stride : Nat), s.recordTurn = true ∧
      recFormatOk false (.fill addr mask value count stride) = true ∧ s.addrAbsent addr = true) ∧
    (∃ (s : State) (addr : Nat) (mask : Nat) (value : Nat) (stride : Nat), s.recordTurn = true ∧ recFormatOk false
      (.fill addr mask value 1 stride) = true ∧ s.addrAbsent addr = false ∧ s.accessBusy addr mask value = false ∧
      (s.imageWrites false [(addr, mask, value)]).2 = none ∧ (s.imageWrites false [(addr, mask, value)]).1.relationsOk
      = true ∧ (s.imageWrites false [(addr, mask, value)]).1.get (.tkt .nodeId) 0 0 = s.get (.tkt .nodeId) 0 0) ∧
    (∃ (s : State) (win : Nat) (first : Nat) (words : Nat) (data : List Nat), s.recordTurn = true ∧ recFormatOk false
      (.table win first words (data.length / words) data) = true ∧ s.addrAbsent win = false ∧ tableFits (.table win
      first words (data.length / words) data) = false) ∧
    (∃ (s : State) (win : Nat) (first : Nat) (words : Nat) (data : List Nat), s.recordTurn = true ∧ recFormatOk false
      (.table win first words (data.length / words) data) = true ∧ s.addrAbsent win = false ∧ tableFits (.table win
      first words (data.length / words) data) = true ∧ ((recWrites (.table win first words (data.length / words)
      data)).any fun x => s.accessBusy x.1 x.2.1 x.2.2) = false ∧ (s.imageWrites true (recWrites (.table win first
      words (data.length / words) data))).2 = none ∧ (s.imageWrites true (recWrites (.table win first words
      (data.length / words) data))).1.relationsOk = true ∧ (s.imageWrites true (recWrites (.table win first words
      (data.length / words) data))).1.get (.tkt .nodeId) 0 0 =
        s.get (.tkt .nodeId) 0 0) ∧
    (∃ (s : State) (us : Nat), s.recordTurn = true ∧ recFormatOk false (.waitUs us) = true) ∧
    (∃ (s : State) (addr : Nat) (mask : Nat) (value : Nat) (timeout : Nat), s.recordTurn = true ∧ recFormatOk false
      (.pollUntil addr mask value timeout) = true ∧ s.addrAbsent addr = false ∧ s.tooEarly false addr = false) ∧
    (∃ (s : State) (id : Nat) (args : List Nat), s.recordTurn = true ∧ recFormatOk false (.proc id args) = true ∧
      procPhase id ≠ s.get (.boot .phase) 0 0) ∧
    (∃ (s : State) (id : Nat) (args : List Nat), s.recordTurn = true ∧ recFormatOk false (.proc id args) = true ∧
      procPhase id = s.get (.boot .phase) 0 0 ∧ s.procAbsent id args = false ∧ s.procEarly id args = false ∧ id < 12) ∧
    (∃ (s : State), s.bootState = bootPhases ∧ s.get (.boot .procId) 0 0 ≠ 0 ∧ s.get (.boot .procDone) 0 0 = 1) ∧
    (∃ (s : State), s.bootState = bootPhases ∧ s.get (.boot .procId) 0 0 ≠ 0 ∧ s.get (.boot .procId) 0 0 ≠ 2 ∧ 2 ≤
      s.get (.boot .procDone) 0 0) ∧
    (∃ (s : State) (id : Nat), s.bootState = bootPhases ∧ s.called 11 = true ∧ ((s.set (.boot .procCalled) 0 11
      0).phaseStop).phaseChecks = none ∧ s.get (.tkt .nodeId) 0 0 = s.get (.boot .nodeHdr) 0 0 ∧ (((s.set (.boot
      .procCalled) 0 11 0).phaseStop).rules.all id && ((s.set (.boot .procCalled) 0 11 0).phaseStop).imageRulesOk) =
      true) :=
  ⟨⟨(wSt [(.boot .state, 0, 0, 4)]), 0, 2, 32, by decide +kernel⟩,
   ⟨(wSt [(.boot .phase, 0, 0, 2), (.boot .state, 0, 0, 4)]), 2, by decide +kernel⟩,
   ⟨(wSt [(.boot .phase, 0, 0, 1), (.boot .state, 0, 0, 4), (.boot .phaseRun, 0, 0, 1)]), 3, true, by decide +kernel⟩,
   ⟨(wSt [(.boot .phase, 0, 0, 1), (.boot .state, 0, 0, 4), (.boot .phaseRun, 0, 0, 1)]), 1, by decide +kernel⟩,
   ⟨(wSt [(.boot .state, 0, 0, 4), (.boot .phaseBudget, 0, 0, 1), (.boot .phaseRun, 0, 0, 1)]), by decide +kernel⟩,
   ⟨(wSt [(.boot .state, 0, 0, 4), (.boot .phaseBudget, 0, 0, 500), (.boot .phaseRun, 0, 0, 1)]), 8240, 2, 1,
      by decide +kernel⟩,
   ⟨(wSt [(.boot .state, 0, 0, 4), (.boot .phaseRun, 0, 0, 1), (.boot .phaseBudget, 0, 0, 100), (.boot .phase, 0, 0,
      2)]), 8195, 1, 1, by decide +kernel⟩,
   ⟨(wSt [(.boot .state, 0, 0, 4), (.boot .phaseRun, 0, 0, 1), (.boot .phaseBudget, 0, 0, 100), (.boot .phase, 0, 0,
      2), (.sys .diePresent, 0, 0, 1)]), (0x12000000), 1, 1, 2, 4, by decide +kernel⟩,
   ⟨(wSt [(.boot .state, 0, 0, 4), (.boot .phaseBudget, 0, 0, 500), (.boot .phaseRun, 0, 0, 1)]), 12, 2, 1, 12,
      by decide +kernel⟩,
   ⟨(wSt [(.boot .state, 0, 0, 4), (.boot .phaseBudget, 0, 0, 500), (.boot .phaseRun, 0, 0, 1)]), 256, 2, 1, [2],
      by decide +kernel⟩,
   ⟨(wSt [(.boot .state, 0, 0, 4), (.boot .phaseBudget, 0, 0, 500), (.boot .phaseRun, 0, 0, 1)]), 269484080, 127, 3,
      [63, 2, 8], by decide +kernel⟩,
   ⟨(wSt [(.boot .state, 0, 0, 4), (.boot .phaseBudget, 0, 0, 500), (.boot .phaseRun, 0, 0, 1)]), 1,
      by decide +kernel⟩,
   ⟨(wSt [(.boot .state, 0, 0, 4), (.boot .phaseBudget, 0, 0, 500), (.boot .phaseRun, 0, 0, 1)]), 8192, 3, 3, 6,
      by decide +kernel⟩,
   ⟨(wSt [(.boot .state, 0, 0, 4), (.boot .phaseBudget, 0, 0, 500), (.boot .phaseRun, 0, 0, 1)]), 3, [2],
      by decide +kernel⟩,
   ⟨(wSt [(.boot .phase, 0, 0, 3), (.boot .state, 0, 0, 4), (.boot .phaseBudget, 0, 0, 500), (.boot .phaseRun, 0, 0,
      1)]), 1, [0], by decide +kernel⟩,
   ⟨(wSt [(.boot .state, 0, 0, 4), (.boot .procId, 0, 0, 1), (.boot .procDone, 0, 0, 1)]), by decide +kernel⟩,
   ⟨(wSt [(.boot .state, 0, 0, 4), (.boot .procId, 0, 0, 3), (.boot .procDone, 0, 0, 2)]), by decide +kernel⟩,
   ⟨{ (wSt [(.boot .state, 0, 0, 4), (.boot .nodeHdr, 0, 0, 18), (.boot .procCalled, 0, 11, 1), (.tkt .nodeId, 0, 0,
      18)]) with
        trust := [20498] }, 31, by decide +kernel⟩⟩

theorem witness_Chain_ChainFlits :
    (∃ (s : State) (d : Nat) (p : Nat) (offers : List ChainOffer) (f : ChainOffer), s.up d = true ∧ s.chainState d p =
      chnUp ∧ s.get (.chn .replayLeft) d p = 0 ∧ s.pickFlit d p offers = some f) ∧
    (∃ (s : State) (d : Nat) (p : Nat), s.up d = true ∧ s.chainState d p = chnUp) ∧
    (∃ (s : State) (d : Nat) (p : Nat) (seq : Nat) (crcOk : Bool), s.up d = true ∧ s.chainState d p = chnUp ∧ ((crcOk
      = false ∨ seq ≠ s.get (.chn .rxSeq) d p))) ∧
    (∃ (s : State) (d : Nat) (q : Nat) (h : HeldFlit) (rest : List HeldFlit), s.up d = true ∧ takeFirst (s.heldCanGo
      d) s.held = some (h, rest) ∧ s.controlPort d h.dest = some q) ∧
    (∃ (s : State) (d : Nat), s.up d = true) ∧
    (∃ (s : State) (d : Nat), s.up d = true) ∧
    (∃ (s : State) (d : Nat), s.up d = true) :=
  ⟨⟨(wSt [(.chn .state, 0, 2, 2), (.sys .dieReleased, 0, 0, 255)]), 0, 2, [⟨1, 3⟩, ⟨2, 3⟩, ⟨1022, 2⟩], ⟨1, 3⟩,
      by decide +kernel⟩,
   ⟨(wSt [(.chn .state, 1, 0, 2), (.sys .dieReleased, 0, 0, 255)]), 1, 0, by decide +kernel⟩,
   ⟨(wSt [(.chn .state, 2, 1, 2), (.sys .dieReleased, 0, 0, 255)]), 2, 1, 65535, false, by decide +kernel⟩,
   ⟨{ (wSt [(.sys .dieReleased, 0, 0, 255), (.chn .state, 0, 0, 2), (.chn .state, 0, 1, 2), (.chn .state, 1, 0, 2),
      (.chn .state, 1, 1, 2), (.chn .credits, 0, 0, 5), (.chn .credits, 0, 1, 5)]) with
        held := [⟨0, 0, 1⟩] }, 0, 0, ⟨0, 0, 1⟩, [], by decide +kernel⟩,
   ⟨(wSt [(.sys .dieReleased, 0, 0, 255)]), 1, by decide +kernel⟩,
   ⟨(wSt [(.sys .dieReleased, 0, 0, 255)]), 1, by decide +kernel⟩,
   ⟨(wSt [(.sys .dieReleased, 0, 0, 255)]), 2, by decide +kernel⟩⟩

theorem witness_Chain_ChainTraining :
    (∃ (s : State) (d : Nat) (p : Nat), s.up d = true ∧ s.flag (.chn .portEn) d p = false) ∧
    (∃ (s : State) (d : Nat) (p : Nat), s.up d = true ∧ s.flag (.chn .portEn) d p = true) ∧
    (∃ (s : State) (d : Nat) (p : Nat) (failed : List Nat), s.up d = true ∧ (s.chainState d p = chnTraining ∨
      s.chainState d p = chnRetraining) ∧ 2 ≤ failed.length) ∧
    (∃ (s : State) (d : Nat) (p : Nat), s.up d = true ∧ (s.chainState d p = chnTraining ∨ s.chainState d p =
      chnRetraining) ∧ s.flag (.chn .spareUsed) d p = false) ∧
    (∃ (s : State) (d : Nat) (p : Nat) (peer : Nat), s.up d = true ∧ (s.chainState d p = chnTraining ∨ s.chainState d
      p = chnRetraining) ∧ peer ≠ s.chainPeer d p) ∧
    (∃ (s : State) (d : Nat) (p : Nat), s.up d = true ∧ (s.chainState d p = chnTraining ∨ s.chainState d p =
      chnRetraining)) ∧
    (∃ (s : State) (d : Nat) (p : Nat), s.up d = true ∧ s.chainState d p = chnUp) ∧
    (∃ (s : State) (d : Nat) (p : Nat), s.up d = true ∧ s.chainState d p = chnUp ∧ 16 ≤ s.replaysRun d p) ∧
    (∃ (s : State) (d : Nat) (p : Nat), s.up d = true ∧ s.chainState d p = chnUp ∧ s.farTrains d p = true) :=
  ⟨⟨(wSt [(.sys .dieReleased, 0, 0, 255)]), 7, 0, by decide +kernel⟩,
   ⟨(wSt [(.chn .portEn, 0, 0, 1), (.sys .dieReleased, 0, 0, 255)]), 0, 0, by decide +kernel⟩,
   ⟨(wSt [(.chn .state, 2, 2, 3), (.sys .dieReleased, 0, 0, 255)]), 2, 2, [1, 0, 3], by decide +kernel⟩,
   ⟨(wSt [(.chn .state, 7, 2, 3), (.sys .dieReleased, 0, 0, 255)]), 7, 2, by decide +kernel⟩,
   ⟨(wSt [(.chn .state, 1, 2, 3), (.sys .dieReleased, 0, 0, 255)]), 1, 2, 1, by decide +kernel⟩,
   ⟨(wSt [(.chn .state, 1, 2, 3), (.sys .dieReleased, 0, 0, 255)]), 1, 2, by decide +kernel⟩,
   ⟨(wSt [(.chn .state, 5, 0, 2), (.sys .dieReleased, 0, 0, 255)]), 5, 0, by decide +kernel⟩,
   ⟨(wSt [(.chn .state, 0, 0, 2), (.chn .replayRun, 0, 0, 128), (.sys .dieReleased, 0, 0, 255)]), 0, 0,
      by decide +kernel⟩,
   ⟨(wSt [(.chn .state, 0, 0, 1), (.chn .state, 1, 1, 2), (.sys .dieReleased, 0, 0, 255)]), 1, 1, by decide +kernel⟩⟩

theorem witness_References_ReferenceMonitors :
    (∃ (s : State) (r : Nat), s.clkOn = true ∧ s.refMonitored r = true) ∧
    (∃ (s : State) (r : Nat) (off : Int), s.clkOn = true ∧ s.refMonitored r = true ∧ s.get (.clk .qstate) 0 r =
      refQualified ∧ s.get (.clk .persist) 0 r = 1 ∧ s.get (.clk .suspects) 0 0 = 0 ∧ s.refsOk.length ≤ 1 ∧ 100 *
      s.get (.clk .hardPpb) 0 r < (satS 32 off).natAbs) ∧
    (∃ (s : State) (r : Nat), s.clkOn = true ∧ s.flag (.clk .monEn) 0 r = true ∧ s.get (.clk .qstate) 0 r =
      refQualified) ∧
    (∃ (s : State) (r : Nat), s.clkOn = true ∧ s.flag (.clk .monEn) 0 r = true ∧ s.get (.clk .qstate) 0 r = refWtr) ∧
    (∃ (s : State) (r : Nat), s.clkOn = true ∧ s.get (.clk .qstate) 0 r = refWtr) ∧
    (∃ (s : State), s.clkOn = true) ∧
    (∃ (s : State), s.clkOn = true) ∧
    (∃ (s : State) (x : Nat), s.clkOn = true ∧ s.dpll x = dpllAcquiring) ∧
    (∃ (s : State) (x : Nat), s.clkOn = true ∧ s.dpll x = dpllLocked) ∧
    (∃ (s : State) (x : Nat), s.clkOn = true ∧ s.dpll x = dpllSwitching ∧ x < 2 ∧ s.dpllChoice x = s.get (.clk
      .selected) 0 x ∧ s.get (.clk .selected) 0 x ≠ 15 ∧ s.get (.clk .selected) 0 x ≠ 14 ∧ s.get (.clk .dpllMode) 0 x
      ≠ 0) :=
  ⟨⟨(wSt [(.clk .monEn, 0, 1, 1), (.sys .dieReleased, 0, 0, 255)]), 1, by decide +kernel⟩,
   ⟨(wSt [(.clk .hardPpb, 0, 1, 0), (.clk .persist, 0, 1, 1), (.clk .monEn, 0, 1, 1), (.clk .qstate, 0, 1, 3), (.sys
      .dieReleased, 0, 0, 255)]), 1, 3, by decide +kernel⟩,
   ⟨(wSt [(.clk .monEn, 0, 1, 1), (.clk .qstate, 0, 1, 3), (.sys .dieReleased, 0, 0, 255)]), 1, by decide +kernel⟩,
   ⟨(wSt [(.clk .monEn, 0, 2, 1), (.clk .qstate, 0, 2, 2), (.sys .dieReleased, 0, 0, 255)]), 2, by decide +kernel⟩,
   ⟨(wSt [(.clk .qstate, 0, 2, 2), (.sys .dieReleased, 0, 0, 255)]), 2, by decide +kernel⟩,
   ⟨(wSt [(.sys .dieReleased, 0, 0, 255)]), by decide +kernel⟩,
   ⟨(wSt [(.sys .dieReleased, 0, 0, 255)]), by decide +kernel⟩,
   ⟨(wSt [(.clk .dpllState, 0, 1, 1), (.sys .dieReleased, 0, 0, 255)]), 1, by decide +kernel⟩,
   ⟨(wSt [(.clk .dpllState, 0, 1, 2), (.sys .dieReleased, 0, 0, 255)]), 1, by decide +kernel⟩,
   ⟨(wSt [(.clk .qstate, 0, 2, 3), (.clk .selected, 0, 1, 2), (.clk .dpllState, 0, 1, 4), (.sys .dieReleased, 0, 0,
      255)]), 1, by decide +kernel⟩⟩

theorem witness_References_PulseOutputs :
    (∃ (s : State) (p : Nat), s.clkOn = true ∧ p < 5 ∧ s.flag (.clk .ppsEn) 0 p = false ∧ s.ppsValid p = true) ∧
    (∃ (s : State) (p : Nat), s.clkOn = true ∧ p < 5 ∧ s.flag (.clk .ppsEn) 0 p = false ∧ s.ppsValid p = false) ∧
    (∃ (s : State) (p : Nat), s.clkOn = true ∧ p < 5 ∧ s.flag (.clk .ppsEn) 0 p = true ∧ s.ppsValid p = true ∧ s.flag
      (.clk .ppsRun) 0 p = true) :=
  ⟨⟨(wSt [(.tim .tbValid, 0, 0, 1), (.sys .dieReleased, 0, 0, 255)]), 1, by decide +kernel⟩,
   ⟨(wSt [(.sys .dieReleased, 0, 0, 255)]), 1, by decide +kernel⟩,
   ⟨(wSt [(.clk .ppsEn, 0, 2, 1), (.clk .ppsRun, 0, 2, 1), (.tim .tbValid, 0, 0, 1), (.sys .dieReleased, 0, 0, 255)]),
      2, by decide +kernel⟩⟩

theorem witness_MonitorsAndCalibration_ConverterCalibration :
    (∃ (s : State) (d : Nat) (v : Nat) (a : SliceRead) (b : SliceRead), s.lantern d = true ∧ d < 8 ∧ v < 8 ∧ s.up d =
      true ∧ s.flag (.cal .bgRun) d 0 = true ∧ bit (s.get (.cal .bgEn) d 0) v = true ∧ bit (s.get (.cal .sparePerm) d
      0) v = false ∧ s.readsAgree d a b = true) ∧
    (∃ (s : State) (d : Nat) (v : Nat) (a : SliceRead) (b : SliceRead), s.lantern d = true ∧ d < 8 ∧ v < 8 ∧ s.up d =
      true ∧ s.flag (.cal .bgRun) d 0 = true ∧ bit (s.get (.cal .bgEn) d 0) v = true ∧ bit (s.get (.cal .sparePerm) d
      0) v = false ∧ s.readsAgree d a b = false ∧ s.get (.cal .rejRun) d (v * 129 + s.get (.cal .convPos) d v) ≠ 2) ∧
    (∃ (s : State) (d : Nat) (v : Nat) (a : SliceRead) (b : SliceRead), s.lantern d = true ∧ d < 8 ∧ v < 8 ∧ s.up d =
      true ∧ s.flag (.cal .bgRun) d 0 = true ∧ bit (s.get (.cal .bgEn) d 0) v = true ∧ bit (s.get (.cal .sparePerm) d
      0) v = false ∧ s.readsAgree d a b = false ∧ s.get (.cal .rejRun) d (v * 129 + s.get (.cal .convPos) d v) = 2) ∧
    (∃ (s : State) (d : Nat) (v : Nat) (tp : Int), s.lantern d = true ∧ d < 8 ∧ v < 8 ∧ s.up d = true ∧ tp ≠ s.getI
      (.cal .temp) d 0) ∧
    (∃ (s : State) (d : Nat) (v : Nat), s.lantern d = true ∧ d < 8 ∧ v < 8 ∧ s.convCalled d = true ∧ s.get (.boot
      .procId) 0 0 = 5 ∧ s.inRun = true ∧ s.flag (.lt .txEn) d 0 = true) ∧
    (∃ (s : State) (d : Nat) (v : Nat) (meas : List SliceCal), s.lantern d = true ∧ d < 8 ∧ v < 8 ∧ s.convCalled d =
      true ∧ s.get (.boot .procId) 0 0 = 5 ∧ s.inRun = false ∧ s.flag (.cal .sysValid) d 0 = true ∧ s.flag (.cal
      .sysBusy) 0 0 = false ∧ s.flag (.lt .txEn) d 0 = false ∧ s.flag (.lr .rxEn) d 0 = false ∧ (meas.all fun c =>
      decide (c.rejects = 0)) = true) ∧
    (∃ (s : State) (d : Nat) (v : Nat), s.lantern d = true ∧ d < 8 ∧ v < 8 ∧ s.convCalled d = true ∧ s.get (.boot
      .procId) 0 0 = 5 ∧ s.inRun = false ∧ s.flag (.cal .sysValid) d 0 = false ∧ s.flag (.cal .sysBusy) 0 0 = false) :=
  ⟨⟨(wSt [(.cal .bgRun, 2, 0, 1), (.sys .dieReleased, 0, 0, 255), (.sys .railsGood, 0, 0, 1)]), 2, 2, ⟨0, 1, 4⟩, ⟨-3,
      2, 2⟩, by decide +kernel⟩,
   ⟨(wSt [(.cal .bgRun, 6, 0, 1), (.sys .dieReleased, 0, 0, 255), (.sys .railsGood, 0, 0, 1)]), 6, 5, ⟨3, 4095, 3⟩,
      ⟨3, 1022, -1048576⟩, by decide +kernel⟩,
   ⟨(wSt [(.cal .rejRun, 6, 0, 2), (.cal .bgRun, 6, 0, 1048576), (.sys .dieReleased, 0, 0, 255), (.sys .railsGood, 0,
      0, 1)]), 6, 0, ⟨-1, 8, 0⟩, ⟨3, -1, 0⟩, by decide +kernel⟩,
   ⟨(wSt [(.sys .dieReleased, 0, 0, 255), (.sys .railsGood, 0, 0, 1)]), 2, 4, 65535, by decide +kernel⟩,
   ⟨(wSt [(.boot .state, 0, 0, 5), (.boot .procId, 0, 0, 5), (.boot .procCalled, 0, 5, 1), (.lt .txEn, 0, 0, 1), (.sys
      .railsGood, 0, 0, 1)]), 0, 2, by decide +kernel⟩,
   ⟨(wSt [(.boot .procId, 0, 0, 5), (.boot .procCalled, 0, 5, 1), (.boot .procArgW, 0, 80, 1), (.cal .sysValid, 1, 0,
      1), (.sys .railsGood, 0, 0, 1)]), 1, 3, [], by decide +kernel⟩,
   ⟨(wSt [(.boot .procId, 0, 0, 5), (.boot .procCalled, 0, 5, 1), (.boot .procArgW, 0, 80, 5), (.sys .railsGood, 0, 0,
      1)]), 5, 1, by decide +kernel⟩⟩

theorem witness_Courier_CourierChannels :
    (∃ (s : State) (d : Nat) (c : Nat) (p : CrrPost), s.chanOn d c = true ∧ c ≠ 0 ∧ c < 12 ∧ s.chan d c = [] ∧ p.cls <
      4 ∧ p.len = 0) ∧
    (∃ (s : State) (d : Nat) (c : Nat) (p : CrrPost), s.chanOn d c = true ∧ c ≠ 0 ∧ c < 12 ∧ s.chan d c = [] ∧ p.cls <
      4 ∧ 0 < p.len ∧ p.len ≤ 16777215 ∧ p.srcSpace = 0 ∧ p.dstSpace = 1 ∧ p.sign = false) ∧
    (∃ (s : State) (d : Nat) (c : Nat) (done : Nat) (x : Desc), s.chanOn d c = true ∧ s.current d c = some x ∧ x.state
      = 1 ∧ x.sign = false ∧ s.outranked x = true ∧ x.done ≤ done ∧ done < x.len ∧ (x.dst + done) % 4096 = 0) ∧
    (∃ (s : State) (d : Nat) (c : Nat) (x : Desc), s.chanOn d c = true ∧ s.current d c = some x ∧ x.state = 1 ∧ x.sign
      = false ∧ s.get (.crr .state) d c = 1 ∧ s.descStop x = none) ∧
    (∃ (s : State) (d : Nat) (c : Nat) (x : Desc), s.chanOn d c = true ∧ s.current d c = some x ∧ x.state = 1 ∧ x.sign
      = false ∧ s.get (.crr .state) d c = 1 ∧ (s.descStop x).isSome = true) ∧
    (∃ (s : State) (d : Nat) (c : Nat) (code : Nat) (done : Nat) (x : Desc), s.chanOn d c = true ∧ s.current d c =
      some x ∧ x.state = 1 ∧ x.done ≤ done ∧ done < x.len ∧ 1 ≤ code ∧ code ≤ 9 ∧ c < 12) ∧
    (∃ (s : State) (d : Nat) (c : Nat) (x : Desc), s.chanOn d c = true ∧ s.current d c = some x ∧ x.state = 4 ∧
      s.mayResume x = true ∧ x.malformed = false ∧ x.toHost = false ∧ x.sign = false) ∧
    (∃ (s : State) (d : Nat) (c : Nat) (x : Desc), s.chanOn d c = true ∧ s.current d c = some x ∧ x.state = 4 ∧
      s.mayResume x = false ∧ x.fault ≠ 3) ∧
    (∃ (s : State) (d : Nat) (c : Nat) (x : Desc), s.chanOn d c = true ∧ s.current d c = some x ∧ s.get (.crr .state)
      d c = 3 ∧ x.sign = false) ∧
    (∃ (s : State) (done : Nat) (x : Desc), s.chanOn 0 4 = true ∧ s.current 0 4 = some x ∧ x.state = 1 ∧ x.srcSpace =
      2 ∧ x.done ≤ done ∧ done < x.len) ∧
    (∃ (s : State), s.up 0 = true) ∧
    (∃ (s : State), s.flag (.sys .pcieUp) 0 0 = true) ∧
    (∃ (s : State) (c : Nat) (x : Desc), s.flag (.sys .pcieUp) 0 0 = true ∧ 4 ≤ c ∧ c < 12 ∧ s.current 0 c = some x ∧
      x.state = 1 ∧ x.toHost = true) :=
  ⟨⟨(wSt [(.sys .dieReleased, 0, 0, 255)]), 7, 2, ⟨2, 0, 1, false, true, 0, 0, 0, 0⟩, by decide +kernel⟩,
   ⟨(wSt [(.sys .dieReleased, 0, 0, 255)]), 0, 1, ⟨3, 0, 1, false, false, 100, 0, 0, 0⟩, by decide +kernel⟩,
   ⟨{ (wSt [(.sys .dieReleased, 0, 0, 255), (.crr .chEn, 0, 5, 1)]) with
        descs := [⟨0, 5, 1, 0, 0, 0, 0, 4096, 8192, false, false, 7, 1, 0, 0, 0, 0⟩, ⟨0, 5, 2, 0, 0, 0, 0, 4096, 8192,
      false, false, 7, 0, 0, 0, 0, 0⟩] }, 0, 5, 4096, ⟨0, 5, 1, 0, 0, 0, 0, 4096, 8192, false, false, 7, 1, 0, 0, 0,
      0⟩, by decide +kernel⟩,
   ⟨{ (wSt [(.crr .state, 0, 1, 1), (.sys .dieReleased, 0, 0, 255)]) with
        descs := [⟨0, 1, 3, 57, 0, 1, 0, 4096, 8866, false, false, 0, 1, 0, 5, 9, 0⟩] }, 0, 1, ⟨0, 1, 3, 57, 0, 1, 0,
      4096, 8866, false, false, 0, 1, 0, 5, 9, 0⟩, by decide +kernel⟩,
   ⟨{ (wSt [(.crr .state, 0, 1, 1), (.sys .dieReleased, 0, 0, 255)]) with
        descs := [⟨0, 1, 0, 20, 1, 2, 0, 12288, 8807, false, false, 0, 1, 0, 42, 0, 0⟩] }, 0, 1, ⟨0, 1, 0, 20, 1, 2,
      0, 12288, 8807, false, false, 0, 1, 0, 42, 0, 0⟩, by decide +kernel⟩,
   ⟨{ (wSt [(.sys .dieReleased, 0, 0, 255)]) with
        descs := [⟨0, 1, 1, 40, 0, 2, 8192, 0, 3367, false, false, 0, 1, 0, 0, 4, 1⟩] }, 0, 1, 3, 0, ⟨0, 1, 1, 40, 0,
      2, 8192, 0, 3367, false, false, 0, 1, 0, 0, 4, 1⟩, by decide +kernel⟩,
   ⟨{ (wSt [(.sys .dieReleased, 0, 0, 255), (.crr .chEn, 0, 5, 1)]) with
        descs := [⟨0, 5, 1, 0, 0, 0, 0, 4096, 8192, false, false, 7, 4, 0, 4096, 9, 0⟩] }, 0, 5, ⟨0, 5, 1, 0, 0, 0, 0,
      4096, 8192, false, false, 7, 4, 0, 4096, 9, 0⟩, by decide +kernel⟩,
   ⟨{ (wSt [(.sys .dieReleased, 0, 0, 255)]) with
        descs := [⟨1, 1, 2, 20, 1, 2, 8192, 0, 2382, false, false, 0, 4, 0, 15, 9, 1⟩] }, 1, 1, ⟨1, 1, 2, 20, 1, 2,
      8192, 0, 2382, false, false, 0, 4, 0, 15, 9, 1⟩, by decide +kernel⟩,
   ⟨{ (wSt [(.crr .state, 0, 1, 3), (.sys .dieReleased, 0, 0, 255)]) with
        descs := [⟨0, 1, 2, 26, 2, 2, 8192, 4096, 9001, false, false, 0, 1, 0, 48, 4, 0⟩] }, 0, 1, ⟨0, 1, 2, 26, 2, 2,
      8192, 4096, 9001, false, false, 0, 1, 0, 48, 4, 0⟩, by decide +kernel⟩,
   ⟨{ (wSt [(.sys .dieReleased, 0, 0, 255)]) with
        descs := [⟨0, 4, 2, 7, 2, 2, 0, 0, 8766, false, false, 0, 1, 0, 0, 7, 1⟩] }, 1022, ⟨0, 4, 2, 7, 2, 2, 0, 0,
      8766, false, false, 0, 1, 0, 0, 7, 1⟩, by decide +kernel⟩,
   ⟨(wSt [(.sys .dieReleased, 0, 0, 255)]), by decide +kernel⟩,
   ⟨(wSt [(.sys .pcieUp, 0, 0, 1)]), by decide +kernel⟩,
   ⟨{ (wSt [(.sys .pcieUp, 0, 0, 1)]) with
        descs := [⟨0, 4, 1, 29, 2, 2, 0, 4096, 4930, false, false, 0, 1, 0, 0, 7, 1⟩] }, 4, ⟨0, 4, 1, 29, 2, 2, 0,
      4096, 4930, false, false, 0, 1, 0, 0, 7, 1⟩, by decide +kernel⟩⟩

theorem witness_Courier_ServiceCipher :
    (∃ (s : State) (a : Nat), a < 8 ∧ (a ≠ 0 ∨ s.inRun = false) ∧ s.svcWaiting a = false ∧ s.slotValid 0 = false ∧
      s.slotValid 1 = false ∧ s.flag (.svc .busy) 0 0 = false) ∧
    (∃ (s : State) (a : Nat), a < 8 ∧ (a ≠ 0 ∨ s.inRun = false) ∧ s.svcWaiting a = false ∧ s.slotValid 0 = false ∧
      s.slotValid 1 = false ∧ s.flag (.svc .busy) 0 0 = true ∧ a < s.get (.svc .owner) 0 0 ∧ s.flag (.svc .suspender)
      0 0 = false) ∧
    (∃ (s : State) (a : Nat), a < 8 ∧ (a ≠ 0 ∨ s.inRun = false) ∧ s.svcWaiting a = false ∧ s.slotValid 0 = false ∧
      s.slotValid 1 = false ∧ s.flag (.svc .busy) 0 0 = true ∧ s.get (.svc .owner) 0 0 < a) ∧
    (∃ (s : State) (a : Nat), a < 8 ∧ s.flag (.svc .busy) 0 0 = true ∧ s.slotValid 0 = false ∧ s.slotValid 1 = false ∧
      s.get (.svc .waiting) 0 0 = 0) ∧
    (∃ (s : State) (a : Nat), a < 8 ∧ s.flag (.svc .busy) 0 0 = true ∧ s.slotValid 0 = false ∧ s.slotValid 1 = false ∧
      s.get (.svc .waiting) 0 0 = 2 ^ a) ∧
    (∃ (s : State) (a : Nat), a < 8 ∧ s.flag (.svc .busy) 0 0 = true) ∧
    (∃ (s : State) (a : Nat) (k : Nat), a < 8 ∧ k < 2 ∧ s.slotValid k = true) :=
  ⟨⟨(wSt []), 1, by decide +kernel⟩,
   ⟨(wSt [(.svc .busy, 0, 0, 1), (.svc .owner, 0, 0, 1)]), 0, by decide +kernel⟩,
   ⟨(wSt [(.svc .busy, 0, 0, 1)]), 3, by decide +kernel⟩,
   ⟨(wSt [(.svc .busy, 0, 0, 1)]), 2, by decide +kernel⟩,
   ⟨(wSt [(.svc .busy, 0, 0, 1), (.svc .waiting, 0, 0, 2)]), 1, by decide +kernel⟩,
   ⟨(wSt [(.svc .busy, 0, 0, 1)]), 3, by decide +kernel⟩,
   ⟨(wSt [(.svc .s0Valid, 0, 0, 1)]), 0, 0, by decide +kernel⟩⟩

theorem witness_Derailleur_DerailleurMessages :
    (∃ (s : State) (m : DerMsg), s.up 0 = true ∧ s.derMsgOk m = false) ∧
    (∃ (s : State) (m : DerMsg), s.up 0 = true ∧ s.derMsgOk m = true ∧ s.derSeen m msgPropose = false ∧ derArming ≤
      s.derState) ∧
    (∃ (s : State) (m : DerMsg) (entries : List DerEntry), s.up 0 = true ∧ s.derMsgOk m = true ∧ s.derSeen m
      msgPropose = false ∧ s.derState = derIdle ∧ s.flag (.der .remoteAccept) 0 0 = true ∧ entries.all s.entryKeeps =
      true) ∧
    (∃ (s : State) (m : DerMsg), s.up 0 = true ∧ s.derMsgOk m = true ∧ s.derSeen m msgArmed = false ∧ s.derMine m =
      true ∧ s.derState = derProposed) ∧
    (∃ (s : State) (m : DerMsg), s.up 0 = true ∧ s.derMsgOk m = true ∧ s.derSeen m msgRefuse = false ∧ s.derMine m =
      true ∧ s.derState = derProposed) ∧
    (∃ (s : State) (m : DerMsg), s.up 0 = true ∧ s.derMsgOk m = true ∧ s.derSeen m msgCommit = false ∧ s.derMine m =
      true ∧ derArmed ≤ s.derState) ∧
    (∃ (s : State) (m : DerMsg), s.up 0 = true ∧ s.derMsgOk m = true ∧ s.derSeen m msgCancel = false ∧ s.derMine m =
      true ∧ s.derState < derCommitted) ∧
    (∃ (s : State) (m : DerMsg), s.up 0 = true ∧ s.derMsgOk m = true ∧ s.derSeen m msgDone = false ∧ s.derMine m =
      true ∧ derCommitted ≤ s.derState ∧ s.derState ≠ derRollbackSt ∧ s.allDone = true) ∧
    (∃ (s : State) (m : DerMsg), s.up 0 = true ∧ s.derMsgOk m = true ∧ s.derSeen m msgDone = false ∧ s.derMine m =
      true ∧ derCommitted ≤ s.derState ∧ s.derState ≠ derRollbackSt ∧ s.allDone = false) ∧
    (∃ (s : State), s.up 0 = true ∧ s.derWaiting ≠ 0) ∧
    (∃ (s : State) (d : Nat), s.up 0 = true ∧ s.present d = true ∧ s.unitRole d ≠ 0 ∧ s.flag (.der .ready) d 0 = false
      ∧ s.derState = derProposed ∧ s.derResponder = false ∧ s.armFault d = 0 ∧ s.flag (.der .armedRx) 0 0 = false) ∧
    (∃ (s : State) (d : Nat), s.up 0 = true ∧ s.present d = true ∧ s.unitRole d ≠ 0 ∧ s.flag (.der .ready) d 0 = false
      ∧ s.derState = derProposed ∧ s.derResponder = false ∧ s.armFault d ≠ 0) ∧
    (∃ (s : State), s.up 0 = true ∧ (s.derState = derProposed ∨ s.derState = derArmed)) :=
  ⟨⟨(wSt [(.sys .dieReleased, 0, 0, 255)]), ⟨4294967295, true, 2, 4, 2⟩, by decide +kernel⟩,
   ⟨(wSt [(.der .state, 0, 0, 6), (.bell .peerValid, 99999, 0, 1), (.bell .partner, 99999, 0, 3), (.sys .dieReleased,
      0, 0, 255)]), ⟨99999, true, 3, 63, 1⟩, by decide +kernel⟩,
   ⟨(wSt [(.der .remoteAccept, 0, 0, 1), (.bell .peerValid, 1000, 0, 1), (.bell .partner, 1000, 0, 3), (.sys
      .dieReleased, 0, 0, 255)]), ⟨1000, true, 3, 1022, 1⟩, [], by decide +kernel⟩,
   ⟨(wSt [(.der .shiftId, 0, 0, 1048576), (.der .state, 0, 0, 1), (.der .partner, 0, 0, 255), (.bell .peerValid, 0, 0,
      1), (.bell .partner, 0, 0, 255), (.sys .dieReleased, 0, 0, 255)]), ⟨0, true, 255, 11, 1048576⟩,
      by decide +kernel⟩,
   ⟨(wSt [(.der .shiftId, 0, 0, 1), (.der .state, 0, 0, 1), (.der .partner, 0, 0, 7), (.bell .peerValid, 0, 0, 1),
      (.bell .partner, 0, 0, 7), (.sys .dieReleased, 0, 0, 255)]), ⟨0, true, 7, 8, 1⟩, by decide +kernel⟩,
   ⟨(wSt [(.der .state, 0, 0, 4), (.der .partner, 0, 0, 99999), (.bell .peerValid, 3, 0, 1), (.bell .partner, 3, 0,
      99999), (.sys .dieReleased, 0, 0, 255)]), ⟨3, true, 99999, 3, 0⟩, by decide +kernel⟩,
   ⟨(wSt [(.der .shiftId, 0, 0, 3), (.der .state, 0, 0, 3), (.der .partner, 0, 0, 3), (.bell .peerValid, 13, 0, 1),
      (.bell .partner, 13, 0, 3), (.sys .dieReleased, 0, 0, 255)]), ⟨13, true, 3, 2, 3⟩, by decide +kernel⟩,
   ⟨(wSt [(.der .shiftId, 0, 0, 2), (.der .state, 0, 0, 7), (.bell .peerValid, 1, 0, 1), (.sys .dieReleased, 0, 0,
      255)]), ⟨1, true, 0, 3, 2⟩, by decide +kernel⟩,
   ⟨(wSt [(.der .uRole, 0, 0, 64), (.der .shiftId, 0, 0, 3), (.der .state, 0, 0, 5), (.der .partner, 0, 0, 2), (.bell
      .peerValid, 0, 0, 1), (.bell .partner, 0, 0, 2), (.sys .dieReleased, 0, 0, 255)]), ⟨0, true, 2, 2, 3⟩,
      by decide +kernel⟩,
   ⟨(wSt [(.der .state, 0, 0, 1), (.sys .dieReleased, 0, 0, 255)]), by decide +kernel⟩,
   ⟨(wSt [(.lr .rxState, 6, 0, 10), (.der .uRole, 6, 0, 2), (.der .state, 0, 0, 1), (.sys .dieReleased, 0, 0, 255)]),
      6, by decide +kernel⟩,
   ⟨(wSt [(.der .uRole, 3, 0, 3), (.der .state, 0, 0, 1), (.sys .dieReleased, 0, 0, 255)]), 3, by decide +kernel⟩,
   ⟨(wSt [(.der .state, 0, 0, 4), (.sys .dieReleased, 0, 0, 255)]), by decide +kernel⟩⟩

theorem witness_Derailleur_DerailleurSwitch :
    (∃ (s : State) (d : Nat), s.up d = true ∧ s.unitRole d ≠ 0 ∧ derCommitted ≤ s.derState ∧ s.flag (.der .farDone) 0
      0 = false ∧ s.derState ≠ derRollbackSt ∧ (s.side d true = sideLatched ∨ s.side d true = sideArmed) ∧
      s.latchFault d true = 0) ∧
    (∃ (s : State) (d : Nat), s.up d = true ∧ s.unitRole d ≠ 0 ∧ derCommitted ≤ s.derState ∧ s.flag (.der .farDone) 0
      0 = false ∧ s.derState ≠ derRollbackSt ∧ (s.side d true = sideLatched ∨ s.side d true = sideArmed) ∧
      s.latchFault d true ≠ 0) ∧
    (∃ (s : State) (d : Nat), s.up d = true ∧ s.unitRole d ≠ 0 ∧ derCommitted ≤ s.derState ∧ s.flag (.der .farDone) 0
      0 = false ∧ s.side d true = sideMissed) ∧
    (∃ (s : State) (d : Nat), s.up d = true ∧ s.unitRole d ≠ 0 ∧ derCommitted ≤ s.derState ∧ s.flag (.der .farDone) 0
      0 = false ∧ s.side d true = sideLatched) ∧
    (∃ (s : State) (d : Nat), s.up d = true ∧ s.unitRole d ≠ 0 ∧ derCommitted ≤ s.derState ∧ s.flag (.der .farDone) 0
      0 = false ∧ s.side d false = sideLatched) ∧
    (∃ (s : State) (d : Nat), s.up d = true ∧ s.unitRole d ≠ 0 ∧ derCommitted ≤ s.derState ∧ s.flag (.der .farDone) 0
      0 = false ∧ s.locked d = true ∧ s.side d false = sideApplied ∧ s.get (.fec .lockState) d 0 = 2 ∧ s.flag (.ct
      .inFrame) d 0 = true ∧ s.flag (.live .fecSf) d 0 = false) ∧
    (∃ (s : State) (d : Nat), s.up d = true ∧ s.unitRole d ≠ 0 ∧ derCommitted ≤ s.derState ∧ s.flag (.der .farDone) 0
      0 = false ∧ s.up 0 = true ∧ s.derState ≠ derRollbackSt ∧ sideHasApplied (s.side d true) = true ∧ s.unitRole d ≠
      2) ∧
    (∃ (s : State) (d : Nat), s.up d = true ∧ s.unitRole d ≠ 0 ∧ derCommitted ≤ s.derState ∧ s.flag (.der .farDone) 0
      0 = false ∧ s.derState = derRollbackSt ∧ sideHasApplied (s.side d true) = true) ∧
    (∃ (s : State) (d : Nat), s.up d = true ∧ s.unitRole d ≠ 0 ∧ derCommitted ≤ s.derState ∧ s.flag (.der .farDone) 0
      0 = false ∧ s.up 0 = true ∧ s.derState = derRollbackSt) :=
  ⟨⟨(wSt [(.lt .txEn, 0, 0, 1), (.der .txSide, 0, 0, 1), (.der .uRole, 0, 0, 3), (.der .state, 0, 0, 5), (.sys
      .dieReleased, 0, 0, 255)]), 0, by decide +kernel⟩,
   ⟨(wSt [(.der .txSide, 2, 0, 1), (.der .uRole, 2, 0, 3), (.der .state, 0, 0, 7), (.sys .dieReleased, 0, 0, 255)]),
      2, by decide +kernel⟩,
   ⟨(wSt [(.der .txSide, 6, 0, 4), (.der .uRole, 6, 0, 1), (.der .state, 0, 0, 5), (.sys .dieReleased, 0, 0, 255)]),
      6, by decide +kernel⟩,
   ⟨(wSt [(.der .txSide, 6, 0, 2), (.der .uRole, 6, 0, 1), (.der .state, 0, 0, 8), (.sys .dieReleased, 0, 0, 255)]),
      6, by decide +kernel⟩,
   ⟨(wSt [(.der .rxSide, 3, 0, 2), (.der .uRole, 3, 0, 2), (.der .state, 0, 0, 6), (.sys .dieReleased, 0, 0, 255)]),
      3, by decide +kernel⟩,
   ⟨(wSt [(.lr .rxState, 5, 0, 10), (.fec .lockState, 5, 0, 2), (.ct .inFrame, 5, 0, 1), (.der .rxSide, 5, 0, 3),
      (.der .uRole, 5, 0, 2), (.der .state, 0, 0, 6), (.sys .dieReleased, 0, 0, 255)]), 5, by decide +kernel⟩,
   ⟨(wSt [(.der .txSide, 1, 0, 3), (.der .uRole, 1, 0, 3), (.der .state, 0, 0, 7), (.sys .dieReleased, 0, 0, 255)]),
      1, by decide +kernel⟩,
   ⟨(wSt [(.der .txSide, 7, 0, 3), (.der .uRole, 7, 0, 2), (.der .state, 0, 0, 8), (.sys .dieReleased, 0, 0, 255)]),
      7, by decide +kernel⟩,
   ⟨(wSt [(.der .uRole, 7, 0, 3), (.der .state, 0, 0, 8), (.sys .dieReleased, 0, 0, 255)]), 7, by decide +kernel⟩⟩

theorem witness_AlarmsAndTelemetry :
    (∃ (s : State) (d : Nat) (i : Nat) (addr : Nat) (entry : Nat) (b : Nat) (a : Alm), almBitAt addr entry b = some
      (a, d, i) ∧ s.blockRuns addr = true ∧ a.inCtn = false ∧ a.inCtx = false ∧ ¬ (Cell.live a).summary = true) ∧
    (∃ (s : State) (d : Nat) (r : Report) (rest : List Report), takeFirst (fun x => decide (x.die = d)) s.reports =
      some (r, rest) ∧ s.up 0 = true ∧ d = 0 ∧ (∀ j ∈ List.range 8, s.telKind j ≠ 1)) ∧
    (∃ (s : State) (d : Nat) (k : Nat), s.spanOn d = some k ∧ s.kchUp d = true ∧ s.flag (.sbg .spHas) 0 k = true) ∧
    (∃ (s : State) (d : Nat) (m : FarMsg), s.kchUp d = true ∧ s.farOk d m = true) ∧
    (∃ (s : State) (d : Nat) (m : FarMsg), s.kchUp d = true ∧ s.farOk d m = false) ∧
    (∃ (s : State) (d : Nat), s.awake d = true) ∧
    (∃ (s : State) (d : Nat) (k : Nat), s.awake d = true ∧ bit (s.winWordAt .pcLvl d k 1) 31 = true ∧ s.levelHigh d k
      = true) ∧
    (∃ (s : State) (t0 : Nat) (value : Nat), s.hostBus = true ∧ t0 < 7 ∧ (value + 2 ^ 32 - s.get (.tel .db) 0 t0) % 2
      ^ 32 ≤ s.telOpen t0) ∧
    (∃ (s : State) (t0 : Nat) (value : Nat), s.hostBus = true ∧ t0 < 7 ∧ s.telOpen t0 < (value + 2 ^ 32 - s.get (.tel
      .db) 0 t0) % 2 ^ 32) ∧
    (∃ (s : State) (t0 : Nat), s.inRun = true ∧ s.up 0 = true ∧ s.telKind t0 = 2) ∧
    (∃ (s : State) (t0 : Nat), s.inRun = true ∧ s.up 0 = true ∧ s.telKind t0 = 2) :=
  ⟨⟨(wSt [(.sys .dieReleased, 0, 0, 255)]), 0, 0, (0x5014), 0, 0, .sbgEntropyFail, by decide +kernel⟩,
   ⟨{ (wSt [(.sys .dieReleased, 0, 0, 255)]) with
        reports := [⟨0, 1, 3, 1, 9, 3, 0, 5⟩] }, 0, ⟨0, 1, 3, 1, 9, 3, 0, 5⟩, [], by decide +kernel⟩,
   ⟨(wSt [(.ct .framerEn, 7, 0, 1), (.ct .inFrame, 7, 0, 1), (.sbg .spHas, 0, 1, 1), (.sys .dieReleased, 0, 0, 255),
      (.win .sbgSpan, 0, 16, 8388613)]), 7, 1, by decide +kernel⟩,
   ⟨(wSt [(.ct .framerEn, 7, 0, 1), (.ct .inFrame, 7, 0, 1), (.sbg .spHas, 0, 0, 1), (.sys .dieReleased, 0, 0, 255),
      (.win .sbgSpan, 0, 0, 8388609)]), 7, ⟨true, 1, 1, 1, 2, 63⟩, by decide +kernel⟩,
   ⟨(wSt [(.ct .framerEn, 5, 0, 1), (.ct .inFrame, 5, 0, 1), (.sys .dieReleased, 0, 0, 255)]), 5, ⟨true, 1, 255, 3,
      63, 2⟩, by decide +kernel⟩,
   ⟨(wSt [(.sys .dieReleased, 0, 0, 255)]), 6, by decide +kernel⟩,
   ⟨(wSt [(.sys .dieReleased, 0, 0, 255), (.live .fecSd, 2, 0, 1), (.win .pcLvl, 2, 16, 0x12400200), (.win .pcLvl, 2,
      17, 0x80000001)]), 2, 1, by decide +kernel⟩,
   ⟨(wSt [(.sys .dieReleased, 0, 0, 255), (.sys .pcieUp, 0, 0, 1)]), 3, 0, by decide +kernel⟩,
   ⟨(wSt [(.sys .dieReleased, 0, 0, 255), (.sys .pcieUp, 0, 0, 1)]), 0, 255, by decide +kernel⟩,
   ⟨(wSt [(.boot .state, 0, 0, 5), (.tel .kind, 0, 12, 2), (.sys .dieReleased, 0, 0, 255)]), 12, by decide +kernel⟩,
   ⟨(wSt [(.boot .state, 0, 0, 5), (.tel .kind, 0, 3, 2), (.sys .dieReleased, 0, 0, 255)]), 3, by decide +kernel⟩⟩

theorem witness_ScansAndInjection :
    (∃ (s : State), s.up 0 = true ∧ s.crcSlot = none) ∧
    (∃ (s : State) (k : Nat), s.up 0 = true ∧ s.crcSlot = some k ∧ s.crcJobs = []) ∧
    (∃ (s : State) (k : Nat), s.up 0 = true ∧ s.crcJobs = [k] ∧ s.crcStatus k = crcRunning ∧ s.jobRange k = true) ∧
    (∃ (s : State) (k : Nat), s.up 0 = true ∧ s.crcJobs = [k] ∧ s.crcStatus k = crcRunning ∧ s.jobRange k = false ∧
      s.awake (s.jobDie k) = true ∧ s.get (.crc .jobLen) 0 k ≤ 64) ∧
    (∃ (s : State) (d : Nat) (u : Nat), s.awake d = true ∧ s.injMayFire d u = true ∧ s.injReady d u = true) ∧
    (∃ (s : State) (d : Nat) (u : Nat), s.awake d = true ∧ s.injMayFire d u = true ∧ s.injReady d u = false) ∧
    (∃ (s : State) (d : Nat) (u : Nat), s.awake d = true ∧ s.flag (.inj .testEnable) 0 0 = true ∧ s.flag (.inj
      .uActive) d u = true ∧ s.injCont d u = true) ∧
    (∃ (s : State) (d : Nat) (u : Nat), s.awake d = true ∧ s.flag (.inj .uActive) d u = true ∧ s.injCont d u = false ∧
      s.get (.inj .left) d u = 1) ∧
    (∃ (s : State) (d : Nat) (u : Nat), s.awake d = true ∧ s.flag (.inj .uActive) d u = true ∧ s.injCont d u = true) :=
  ⟨⟨(wSt [(.crc .resStatus, 0, 0, 6), (.crc .resStatus, 0, 1, 6), (.crc .resStatus, 0, 2, 6), (.crc .resStatus, 0, 3,
      6), (.crc .resStatus, 0, 4, 6), (.crc .resStatus, 0, 5, 6), (.crc .resStatus, 0, 6, 6), (.crc .resStatus, 0, 7,
      6), (.sys .dieReleased, 0, 0, 255)]), by decide +kernel⟩,
   ⟨(wSt [(.sys .dieReleased, 0, 0, 255)]), 0, by decide +kernel⟩,
   ⟨(wSt [(.crc .resStatus, 0, 0, 7), (.crc .jobAddr, 0, 0, 99999999), (.sys .dieReleased, 0, 0, 255)]), 0,
      by decide +kernel⟩,
   ⟨(wSt [(.crc .resStatus, 0, 0, 7), (.sys .dieReleased, 0, 0, 255)]), 0, by decide +kernel⟩,
   ⟨(wSt [(.sys .dieReleased, 0, 0, 255), (.inj .testEnable, 0, 0, 1), (.inj .uType, 2, 1, 1), (.inj .uParam, 2, 1,
      5), (.inj .uTarget, 2, 1, 7), (.hl .prbsGen, 2, 7, 1)]), 2, 1, by decide +kernel⟩,
   ⟨(wSt [(.inj .testEnable, 0, 0, 1), (.inj .uType, 4, 2, 5), (.inj .uParam, 4, 2, 12), (.sys .dieReleased, 0, 0,
      255)]), 4, 2, by decide +kernel⟩,
   ⟨(wSt [(.inj .testEnable, 0, 0, 1), (.inj .uMode, 1, 0, 3), (.inj .uActive, 1, 0, 1), (.sys .dieReleased, 0, 0,
      255)]), 1, 0, by decide +kernel⟩,
   ⟨(wSt [(.inj .uActive, 0, 1, 1), (.inj .left, 0, 1, 1), (.sys .dieReleased, 0, 0, 255)]), 0, 1, by decide +kernel⟩,
   ⟨(wSt [(.inj .uMode, 4, 0, 3), (.inj .uActive, 4, 0, 1), (.sys .dieReleased, 0, 0, 255)]), 4, 0, by decide +kernel⟩⟩

theorem witness_Decoder_FecDecoding :
    (∃ (s : State) (d : Nat), s.up d = true ∧ s.txFrames d = true) ∧
    (∃ (s : State) (d : Nat) (frame : Nat), s.up d = true ∧ s.get (.fec .lockState) d 0 = 1 ∧ 75 ≤ frame ∧ s.get (.fec
      .candAt) d (frame % 75) = frame - 75 + 1) ∧
    (∃ (s : State) (d : Nat) (frame : Nat), s.up d = true ∧ s.get (.fec .lockState) d 0 = 1 ∧ s.get (.fec .candAt) d
      (frame % 75) ≠ frame - 75 + 1) ∧
    (∃ (s : State) (d : Nat) (frame : Nat), s.up d = true ∧ s.get (.fec .lockState) d 0 = 2 ∧ s.get (.fec .lockPhase)
      d 0 = frame % 75 ∧ 3 ≤ s.get (.fec .failRun) d 0) ∧
    (∃ (s : State) (d : Nat) (frame : Nat), s.up d = true ∧ s.get (.fec .lockState) d 0 = 2 ∧ s.get (.fec .lockPhase)
      d 0 = frame % 75 ∧ s.get (.fec .failRun) d 0 < 3) ∧
    (∃ (s : State) (d : Nat), s.up d = true ∧ s.flag (.lr .rxEn) d 0 = true ∧ s.flag (.lr .rxSf) d 0 = true) ∧
    (∃ (s : State) (d : Nat), s.up d = true ∧ s.flag (.lr .rxEn) d 0 = true ∧ s.flag (.lr .rxSf) d 0 = false ∧ s.get
      (.fec .lockState) d 0 = 2) ∧
    (∃ (s : State) (d : Nat) (iter : Nat), s.up d = true ∧ s.flag (.lr .rxEn) d 0 = true ∧ s.flag (.lr .rxSf) d 0 =
      false ∧ s.get (.fec .lockState) d 0 = 2 ∧ iter ≤ s.get (.fec .iterCap) d 0 ∧ (s.rxMode d).lineStd = 0) ∧
    (∃ (s : State) (d : Nat), s.up d = true ∧ s.flag (.lr .rxEn) d 0 = true ∧ s.get (.fec .lockState) d 0 = 2) ∧
    (∃ (s : State) (d : Nat), s.up d = true ∧ s.flag (.lr .rxEn) d 0 = true ∧ s.get (.fec .lockState) d 0 = 2) :=
  ⟨⟨(wSt [(.lt .ramp, 7, 0, 1), (.sys .dieReleased, 0, 0, 255)]), 7, by decide +kernel⟩,
   ⟨(wSt [(.fec .lockState, 3, 0, 1), (.fec .candAt, 3, 1, 1099511627702), (.sys .dieReleased, 0, 0, 255)]), 3,
      1099511627776, by decide +kernel⟩,
   ⟨(wSt [(.fec .lockState, 2, 0, 1), (.sys .dieReleased, 0, 0, 255)]), 2, 2, by decide +kernel⟩,
   ⟨(wSt [(.fec .lockState, 0, 0, 2), (.fec .failRun, 0, 0, 3), (.fec .lockPhase, 0, 0, 12), (.sys .dieReleased, 0, 0,
      255)]), 0, 12, by decide +kernel⟩,
   ⟨(wSt [(.fec .lockState, 5, 0, 2), (.fec .lockPhase, 5, 0, 3), (.sys .dieReleased, 0, 0, 255)]), 5, 3,
      by decide +kernel⟩,
   ⟨(wSt [(.lr .rxEn, 2, 0, 1), (.sys .dieReleased, 0, 0, 255)]), 2, by decide +kernel⟩,
   ⟨(wSt [(.lr .rxEn, 6, 0, 1), (.lr .rxSf, 6, 0, 0), (.fec .lockState, 6, 0, 2), (.sys .dieReleased, 0, 0, 255)]), 6,
      by decide +kernel⟩,
   ⟨(wSt [(.lr .rxEn, 4, 0, 1), (.lr .rxSf, 4, 0, 0), (.fec .lockState, 4, 0, 2), (.sys .dieReleased, 0, 0, 255)]), 4,
      0, by decide +kernel⟩,
   ⟨(wSt [(.lr .rxEn, 5, 0, 1), (.fec .lockState, 5, 0, 2), (.sys .dieReleased, 0, 0, 255)]), 5, by decide +kernel⟩,
   ⟨(wSt [(.lr .rxEn, 6, 0, 1), (.fec .lockState, 6, 0, 2), (.sys .dieReleased, 0, 0, 255)]), 6, by decide +kernel⟩⟩

theorem witness_Decoder_QualityWindow :
    (∃ (s : State) (d : Nat), s.up d = true ∧ s.flag (.lr .rxEn) d 0 = true) ∧
    (∃ (s : State) (d : Nat), s.up d = true ∧ s.flag (.lr .rxEn) d 0 = true ∧ s.flag (.lr .winLocked) d 0 = true ∧
      s.rxState d = rxLocked) :=
  ⟨⟨(wSt [(.lr .rxEn, 7, 0, 1), (.sys .dieReleased, 0, 0, 255)]), 7, by decide +kernel⟩,
   ⟨(wSt [(.lr .rxEn, 7, 0, 1), (.lr .rxState, 7, 0, 10), (.lr .winLocked, 7, 0, 1), (.sys .dieReleased, 0, 0, 255)]),
      7, by decide +kernel⟩⟩

theorem witness_HostLaneNegotiation :
    (∃ (s : State) (d : Nat) (l : Nat) (f : NegFrame), s.up d = true ∧ s.flag (.hl .relock) d l = false ∧ s.laneState
      d l = hlLock ∧ s.flag (.hl .fLock) d l = false ∧ s.get (.hl .goodRun) d l = 2 ∧ f.marker = true ∧ f.crcOk = true
      ∧ f.msg = 1) ∧
    (∃ (s : State) (d : Nat) (l : Nat) (f : NegFrame), s.up d = true ∧ s.flag (.hl .relock) d l = false ∧ s.laneState
      d l = hlCaps ∧ s.flag (.hl .fLock) d l = true ∧ f.marker = true ∧ f.crcOk = true ∧ f.ver = 1 ∧ f.msg = 0 ∧ s.get
      (.hl .capsRun) d l ≠ 0 ∧ 1 ≤ f.gearMax ∧ f.gearMax ≤ 4 ∧ f.gearNow = 1 ∧ s.laneTarget d l ≤ f.gearMax ∧ f.leader
      ≠ s.leads d l) ∧
    (∃ (s : State) (d : Nat) (l : Nat) (f : NegFrame), s.up d = true ∧ s.flag (.hl .relock) d l = false ∧ s.laneState
      d l = hlCaps ∧ s.flag (.hl .fLock) d l = true ∧ f.marker = true ∧ f.crcOk = true ∧ f.ver = 1 ∧ f.msg = 5) ∧
    (∃ (s : State) (d : Nat) (l : Nat), s.up d = true ∧ s.flag (.hl .relock) d l = false ∧ s.laneState d l = hlStep ∧
      s.get (.hl .countdown) d l = 0 ∧ s.flag (.hl .switched) d l = false ∧ s.flag (.hl .fellBack) d l = false) ∧
    (∃ (s : State) (d : Nat) (l : Nat), s.up d = true ∧ s.flag (.hl .relock) d l = false ∧ s.laneState d l = hlCaps) ∧
    (∃ (s : State) (d : Nat) (l : Nat), s.up d = true ∧ s.flag (.hl .relock) d l = false ∧ s.laneState d l = hlStep ∧
      s.flag (.hl .fLock) d l = false ∧ s.flag (.hl .fellBack) d l = false ∧ s.flag (.hl .switched) d l = true) ∧
    (∃ (s : State) (d : Nat) (l : Nat), s.up d = true ∧ s.flag (.hl .relock) d l = false ∧ s.laneState d l = hlTrain ∧
      s.get (.hl .readyRun) d l < 8) ∧
    (∃ (s : State) (d : Nat) (l : Nat), s.up d = true ∧ s.flag (.hl .relock) d l = false ∧ s.laneState d l = hlWait ∧
      s.laneTest d l = false ∧ s.get (.hl .forceGear) d l = 0) ∧
    (∃ (s : State) (d : Nat) (l : Nat), s.up d = true ∧ s.flag (.hl .relock) d l = false ∧ s.laneState d l = hlWait ∧
      s.laneTest d l = false ∧ s.get (.hl .forceGear) d l ≠ 0) ∧
    (∃ (s : State) (d : Nat) (l : Nat), s.up d = true ∧ s.flag (.hl .relock) d l = false ∧ s.laneState d l = hlForced) :=
  ⟨⟨(wSt [(.hl .state, 7, 0, 2), (.hl .goodRun, 7, 0, 2), (.sys .dieReleased, 0, 0, 255)]), 7, 0, ⟨true, true, 1, 1,
      1, 0, 2, 0, false, true, false, true, false, 0, 0, 1⟩, by decide +kernel⟩,
   ⟨(wSt [(.hl .state, 4, 1, 3), (.hl .fLock, 4, 1, 1), (.hl .capsRun, 4, 1, 1), (.sys .dieReleased, 0, 0, 255)]), 4,
      1, ⟨true, true, 1, 0, 1, 4, 2, 0, false, true, false, true, false, 0, 0, 0⟩, by decide +kernel⟩,
   ⟨(wSt [(.hl .state, 6, 2, 3), (.hl .fLock, 6, 2, 1), (.sys .dieReleased, 0, 0, 255)]), 6, 2, ⟨true, true, 1, 5, 1,
      4, 2, 0, false, true, false, true, false, 0, 0, 0⟩, by decide +kernel⟩,
   ⟨(wSt [(.hl .state, 2, 0, 5), (.sys .dieReleased, 0, 0, 255)]), 2, 0, by decide +kernel⟩,
   ⟨(wSt [(.hl .state, 6, 2, 3), (.sys .dieReleased, 0, 0, 255)]), 6, 2, by decide +kernel⟩,
   ⟨(wSt [(.hl .state, 5, 2, 5), (.hl .switched, 5, 2, 1), (.sys .dieReleased, 0, 0, 255)]), 5, 2, by decide +kernel⟩,
   ⟨(wSt [(.hl .state, 7, 2, 4), (.sys .dieReleased, 0, 0, 255)]), 7, 2, by decide +kernel⟩,
   ⟨(wSt [(.hl .state, 3, 2, 7), (.sys .dieReleased, 0, 0, 255)]), 3, 2, by decide +kernel⟩,
   ⟨(wSt [(.hl .forceGear, 7, 0, 1), (.hl .state, 7, 0, 7), (.sys .dieReleased, 0, 0, 255)]), 7, 0, by decide +kernel⟩,
   ⟨(wSt [(.hl .state, 7, 1, 8), (.sys .dieReleased, 0, 0, 255)]), 7, 1, by decide +kernel⟩⟩

theorem witness_HostLaneSignal :
    (∃ (s : State) (d : Nat) (l : Nat), s.up d = true ∧ s.laneState d l = hlUp) ∧
    (∃ (s : State) (d : Nat) (l : Nat), s.up d = true ∧ s.laneState d l = hlUp) ∧
    (∃ (s : State) (d : Nat) (l : Nat), s.up d = true ∧ s.laneState d l = hlUp ∧ s.get (.hl .idleRun) d l = 0) ∧
    (∃ (s : State) (d : Nat) (l : Nat), s.up d = true ∧ s.laneState d l = hlUp ∧ s.get (.hl .idleRun) d l ≠ 0) ∧
    (∃ (s : State) (d : Nat) (l : Nat), s.up d = true ∧ s.flag (.hl .waitSig) d l = true ∧ s.laneTest d l = false) ∧
    (∃ (s : State) (d : Nat) (l : Nat), s.up d = true ∧ s.laneState d l = hlIdle ∧ s.flag (.hl .keep) d l = true) ∧
    (∃ (s : State) (d : Nat) (l : Nat), s.up d = true ∧ s.laneState d l = hlIdle ∧ s.flag (.hl .keep) d l = true) ∧
    (∃ (s : State) (d : Nat) (l : Nat), s.up d = true ∧ s.escanOk d l = true) ∧
    (∃ (s : State) (d : Nat) (l : Nat), s.up d = true ∧ s.flag (.hl .escanBusy) d l = true) ∧
    (∃ (s : State) (d : Nat) (l : Nat), s.up d = true ∧ s.laneState d l = hlUp ∧ s.flag (.hl .escanBusy) d l = false) ∧
    (∃ (s : State) (d : Nat) (l : Nat), s.up d = true ∧ s.flag (.hl .prbsChk) d l = true ∧ s.flag (.hl .prbsLock) d l
      = true) ∧
    (∃ (s : State) (d : Nat) (l : Nat) (nb : Nat), s.up d = true ∧ s.flag (.hl .prbsChk) d l = true ∧ s.flag (.hl
      .prbsLock) d l = false ∧ 64 ≤ nb) :=
  ⟨⟨(wSt [(.hl .state, 7, 0, 6), (.sys .dieReleased, 0, 0, 255)]), 7, 0, by decide +kernel⟩,
   ⟨(wSt [(.hl .state, 3, 1, 6), (.sys .dieReleased, 0, 0, 255)]), 3, 1, by decide +kernel⟩,
   ⟨(wSt [(.hl .state, 7, 2, 6), (.sys .dieReleased, 0, 0, 255)]), 7, 2, by decide +kernel⟩,
   ⟨(wSt [(.hl .state, 7, 0, 6), (.hl .idleRun, 7, 0, 1), (.sys .dieReleased, 0, 0, 255)]), 7, 0, by decide +kernel⟩,
   ⟨(wSt [(.hl .waitSig, 7, 2, 1), (.sys .dieReleased, 0, 0, 255)]), 7, 2, by decide +kernel⟩,
   ⟨(wSt [(.hl .state, 5, 1, 1), (.hl .keep, 5, 1, 1), (.sys .dieReleased, 0, 0, 255)]), 5, 1, by decide +kernel⟩,
   ⟨(wSt [(.hl .state, 0, 2, 1), (.hl .keep, 0, 2, 1), (.sys .dieReleased, 0, 0, 255)]), 0, 2, by decide +kernel⟩,
   ⟨(wSt [(.sys .dieReleased, 0, 0, 255)]), 2, 0, by decide +kernel⟩,
   ⟨(wSt [(.hl .escanBusy, 1, 0, 1), (.sys .dieReleased, 0, 0, 255)]), 1, 0, by decide +kernel⟩,
   ⟨(wSt [(.hl .state, 1, 0, 6), (.sys .dieReleased, 0, 0, 255)]), 1, 0, by decide +kernel⟩,
   ⟨(wSt [(.hl .prbsChk, 6, 1, 1), (.hl .prbsLock, 6, 1, 1), (.sys .dieReleased, 0, 0, 255)]), 6, 1,
      by decide +kernel⟩,
   ⟨(wSt [(.hl .prbsChk, 3, 2, 1), (.sys .dieReleased, 0, 0, 255)]), 3, 2, 4095, by decide +kernel⟩⟩

theorem witness_HostPorts :
    (∃ (s : State) (d : Nat) (p : Nat) (l : Nat), s.up d = true ∧ s.flag (.hl .portEn) d p = false ∧ s.get (.hl .mode)
      d p ≠ 0 ∧ l ∈ s.portLanes d p ∧ s.laneTest d l = false ∧ s.get (.hl .forceGear) d l = 0) ∧
    (∃ (s : State) (d : Nat) (p : Nat), s.up d = true ∧ s.flag (.hl .portEn) d p = true) ∧
    (∃ (s : State) (d : Nat) (p : Nat) (l : Nat), s.up d = true ∧ s.called 10 = true ∧ s.procArg 10 0 % 8 = d ∧ l ∈
      s.gearsLanes d ∧ s.lanePort d l = some p ∧ s.flag (.hl .portEn) d p = true ∧ s.laneState d l = hlOff ∧ s.flag
      (.hl .waitSig) d l = false ∧ s.laneTest d l = false ∧ s.get (.hl .forceGear) d l = 0) ∧
    (∃ (s : State) (d : Nat), s.up d = true ∧ s.called 10 = true ∧ s.get (.boot .procId) 0 0 = 10 ∧ bit (s.procArg 10
      2) 0 = true) ∧
    (∃ (s : State) (d : Nat) (l : Nat), s.up d = true ∧ s.called 10 = true ∧ s.get (.boot .procId) 0 0 = 10 ∧ bit
      (s.procArg 10 2) 0 = false ∧ s.procArg 10 0 % 8 = d ∧ (s.gearsLanes d).head? = some l ∧ s.laneState d l ≠ hlUp) ∧
    (∃ (s : State) (d : Nat) (p : Nat) (l : Nat), s.up d = true ∧ s.flag (.hl .portEn) d p = true ∧ s.flag (.hl
      .idleReq) d p = false ∧ l ∈ s.portLanes d p) ∧
    (∃ (s : State) (d : Nat) (p : Nat) (l : Nat), s.up d = true ∧ s.flag (.hl .portEn) d p = true ∧ s.flag (.hl
      .idleReq) d p = true ∧ l ∈ s.portLanes d p ∧ s.laneState d l = hlIdle ∧ s.flag (.hl .keep) d l = true) ∧
    (∃ (s : State) (d : Nat) (p : Nat), s.up d = true ∧ s.portState d p = prtAlign ∧ s.portNext d p = prtAlign) ∧
    (∃ (s : State) (d : Nat) (p : Nat), s.up d = true ∧ s.portState d p = prtUp ∧ s.portNext d p = prtUp) ∧
    (∃ (s : State) (d : Nat) (p : Nat), s.up d = true ∧ s.pcsRuns d p = true) ∧
    (∃ (s : State) (d : Nat) (p : Nat), s.up d = true ∧ s.pcsRuns d p = true) ∧
    (∃ (s : State) (d : Nat) (p : Nat), s.up d = true ∧ s.packetUp d p = true ∧ s.pfcWant d p = 1 ∧ s.get (.hl
      .pfcTold) d p = 0) ∧
    (∃ (s : State) (d : Nat) (p : Nat), s.up d = true ∧ s.packetUp d p = true ∧ s.pfcWant d p = 0 ∧ s.get (.hl
      .pfcTold) d p = 1) ∧
    (∃ (s : State) (d : Nat) (p : Nat), s.up d = true ∧ s.packetUp d p = true ∧ s.pfcWant d p ≠ 0 ∧ s.get (.hl
      .pfcTold) d p ≠ 0) :=
  ⟨⟨(wSt [(.hl .width, 4, 1, 3), (.hl .mode, 4, 1, 1), (.sys .dieReleased, 0, 0, 255)]), 4, 1, 2, by decide +kernel⟩,
   ⟨(wSt [(.hl .portEn, 2, 1, 1), (.sys .dieReleased, 0, 0, 255)]), 2, 1, by decide +kernel⟩,
   ⟨(wSt [(.boot .procCalled, 0, 10, 1), (.boot .procArgW, 0, 160, 6), (.boot .procArgW, 0, 161, 65535), (.hl .width,
      6, 0, 3), (.hl .portEn, 6, 0, 1), (.sys .dieReleased, 0, 0, 255)]), 6, 0, 2, by decide +kernel⟩,
   ⟨(wSt [(.boot .procId, 0, 0, 10), (.boot .procCalled, 0, 10, 1), (.boot .procArgW, 0, 162, 1), (.sys .dieReleased,
      0, 0, 255)]), 6, by decide +kernel⟩,
   ⟨(wSt [(.boot .procId, 0, 0, 10), (.boot .procCalled, 0, 10, 1), (.boot .procArgW, 0, 160, 4), (.boot .procArgW, 0,
      161, 20), (.sys .dieReleased, 0, 0, 255)]), 4, 2, by decide +kernel⟩,
   ⟨(wSt [(.hl .width, 7, 2, 3), (.hl .portEn, 7, 2, 1), (.sys .dieReleased, 0, 0, 255)]), 7, 2, 2, by decide +kernel⟩,
   ⟨(wSt [(.hl .state, 6, 1, 1), (.hl .width, 6, 0, 3), (.hl .idleReq, 6, 0, 1), (.hl .portEn, 6, 0, 1), (.hl .keep,
      6, 1, 1), (.sys .dieReleased, 0, 0, 255)]), 6, 0, 1, by decide +kernel⟩,
   ⟨(wSt [(.hl .state, 5, 2, 6), (.hl .width, 5, 2, 1), (.hl .mode, 5, 2, 1), (.hl .portEn, 5, 2, 1), (.hl .pState, 5,
      2, 2), (.sys .dieReleased, 0, 0, 255)]), 5, 2, by decide +kernel⟩,
   ⟨(wSt [(.hl .state, 7, 1, 6), (.hl .width, 7, 1, 1), (.hl .mode, 7, 1, 1), (.hl .portEn, 7, 1, 1), (.hl .pState, 7,
      1, 3), (.sys .dieReleased, 0, 0, 255)]), 7, 1, by decide +kernel⟩,
   ⟨(wSt [(.hl .pState, 2, 1, 3), (.sys .dieReleased, 0, 0, 255)]), 2, 1, by decide +kernel⟩,
   ⟨(wSt [(.hl .pState, 4, 0, 3), (.sys .dieReleased, 0, 0, 255)]), 4, 0, by decide +kernel⟩,
   ⟨(wSt [(.hl .mode, 3, 0, 1), (.hl .pfcEn, 3, 0, 1), (.hl .pXoff, 3, 0, 1), (.hl .pState, 3, 0, 3), (.sys
      .dieReleased, 0, 0, 255)]), 3, 0, by decide +kernel⟩,
   ⟨(wSt [(.hl .mode, 1, 2, 1), (.hl .pState, 1, 2, 3), (.hl .pfcTold, 1, 2, 1), (.sys .dieReleased, 0, 0, 255)]), 1,
      2, by decide +kernel⟩,
   ⟨(wSt [(.hl .mode, 3, 1, 1), (.hl .pfcEn, 3, 1, 1), (.hl .pXoff, 3, 1, 1), (.hl .pState, 3, 1, 3), (.hl .pfcTold,
      3, 1, 1), (.sys .dieReleased, 0, 0, 255)]), 3, 1, by decide +kernel⟩⟩

theorem witness_Kickstand_KickstandShutdown :
    (∃ (s : State) (d : Nat), d < 8 ∧ s.up d = true ∧ s.stage d = ksDrain ∧ s.pkgEntry = false) ∧
    (∃ (s : State) (d : Nat), d < 8 ∧ s.present d = true ∧ s.stage d = ksClocksOff ∧ s.pkgEntry = false) ∧
    (∃ (s : State) (d : Nat), d < 8 ∧ s.present d = true ∧ s.stage d = ksIsolate ∧ s.pkgEntry = false ∧ s.flag (.pwr
      .lateWake) d 0 = false) ∧
    (∃ (s : State) (d : Nat), d < 8 ∧ s.present 0 = true ∧ s.stage 0 = ksIsolate ∧ s.pkgEntry = true ∧ s.flag (.pwr
      .lateWake) 0 0 = false ∧ s.present d = true) ∧
    (∃ (s : State) (d : Nat), d < 8 ∧ s.up d = true ∧ s.stage d = ksWaking) :=
  ⟨⟨(wSt [(.pwr .stage, 7, 0, 1), (.sys .dieReleased, 0, 0, 255)]), 7, by decide +kernel⟩,
   ⟨(wSt [(.pwr .stage, 4, 0, 2)]), 4, by decide +kernel⟩,
   ⟨(wSt [(.pwr .stage, 4, 0, 3)]), 4, by decide +kernel⟩,
   ⟨(wSt [(.pwr .stage, 0, 0, 3), (.pwr .pkgMove, 0, 0, 1)]), 3, by decide +kernel⟩,
   ⟨(wSt [(.pwr .stage, 4, 0, 5), (.sys .dieReleased, 0, 0, 255)]), 4, by decide +kernel⟩⟩

theorem witness_Kickstand_KickstandWake :
    (∃ (s : State) (d : Nat) (src : Nat), d < 8 ∧ s.lantern d = true ∧ s.pkgEntry = false ∧ 2 ≤ src ∧ src ≤ 4 ∧
      s.stage d = ksGated ∧ bit (s.get (.pwr .wakeEn) d 0) (src - 1) = true ∧ s.flag (.pwr .lateWake) d 0 = false) ∧
    (∃ (s : State) (d : Nat) (src : Nat), d < 8 ∧ s.lantern d = true ∧ s.pkgEntry = false ∧ 2 ≤ src ∧ src ≤ 4 ∧
      s.stage d = ksIsolate ∧ bit (s.get (.pwr .wakeEn) d 0) (src - 1) = true ∧ s.flag (.pwr .lateWake) d 0 = false) ∧
    (∃ (s : State) (d : Nat) (src : Nat), d < 8 ∧ s.lantern d = true ∧ s.pkgEntry = false ∧ 2 ≤ src ∧ src ≤ 4 ∧
      (s.stage d = ksDrain ∨ s.stage d = ksClocksOff) ∧ bit (s.get (.pwr .wakeEn) d 0) (src - 1) = true ∧ s.flag (.pwr
      .lateWake) d 0 = false) ∧
    (∃ (s : State) (d : Nat) (src : Nat), d < 8 ∧ s.lantern d = true ∧ s.pkgEntry = false ∧ 2 ≤ src ∧ src ≤ 4 ∧
      (s.stage d = ksWaking ∨ (s.stage d ≠ ksAwake ∧ bit (s.get (.pwr .wakeEn) d 0) (src - 1) = false))) ∧
    (∃ (s : State) (d : Nat) (src : Nat), d < 8 ∧ s.lantern d = true ∧ s.pkgEntry = false ∧ 2 ≤ src ∧ src ≤ 4 ∧
      s.stage d = ksGated ∧ bit (s.get (.pwr .wakeEn) d 0) 1 = true ∧ s.flag (.pwr .lateWake) d 0 = false ∧ s.get
      (.pwr .wakeGroup) d 0 = 2 ^ d) ∧
    (∃ (s : State) (d : Nat) (src : Nat), d < 8 ∧ s.lantern d = true ∧ s.pkgEntry = false ∧ 2 ≤ src ∧ src ≤ 4 ∧
      s.stage d = ksGated ∧ bit (s.get (.pwr .wakeEn) d 0) 2 = true ∧ s.flag (.pwr .lateWake) d 0 = false ∧ s.flag
      (.sys .sysRstN) 0 0 = true ∧ s.present 0 = true) :=
  ⟨⟨(wSt [(.pwr .stage, 6, 0, 4), (.pwr .wakeEn, 6, 0, 8), (.sys .railsGood, 0, 0, 1)]), 6, 4, by decide +kernel⟩,
   ⟨(wSt [(.pwr .stage, 7, 0, 3), (.pwr .wakeEn, 7, 0, 2), (.sys .railsGood, 0, 0, 1)]), 7, 2, by decide +kernel⟩,
   ⟨(wSt [(.pwr .stage, 3, 0, 2), (.pwr .wakeEn, 3, 0, 4), (.sys .railsGood, 0, 0, 1)]), 3, 3, by decide +kernel⟩,
   ⟨(wSt [(.pwr .stage, 1, 0, 5), (.sys .railsGood, 0, 0, 1)]), 1, 3, by decide +kernel⟩,
   ⟨(wSt [(.pwr .stage, 1, 0, 4), (.pwr .wakeEn, 1, 0, 2), (.pwr .wakeGroup, 1, 0, 2), (.sys .railsGood, 0, 0, 1)]),
      1, 2, by decide +kernel⟩,
   ⟨(wSt [(.pwr .stage, 1, 0, 4), (.pwr .wakeEn, 1, 0, 4), (.sys .railsGood, 0, 0, 1)]), 1, 2, by decide +kernel⟩⟩

theorem witness_LaserStates :
    (∃ (s : State) (p : Nat) (r : LasRead), s.lasPort p = true ∧ s.discovering p = true ∧ r.present = false) ∧
    (∃ (s : State) (p : Nat) (r : LasRead), s.lasPort p = true ∧ s.discovering p = true ∧ s.flag (.las .lasEn) p 0 =
      true ∧ r.present = true ∧ r.supported = true ∧ r.ready = true ∧ r.tuned = true) ∧
    (∃ (s : State) (p : Nat) (r : LasRead), s.lasPort p = true ∧ s.flag (.las .lasEn) p 0 = true ∧ (s.lasState p =
      lasFaultSt ∨ s.lasState p = lasAbsent) ∧ r.present = true ∧ r.supported = true ∧ r.ready = true ∧ r.tuned =
      true) ∧
    (∃ (s : State) (p : Nat), s.lasPort p = true ∧ s.flag (.las .present) p 0 = true ∧ s.flag (.las .retryWait) p 0 =
      false) ∧
    (∃ (s : State) (p : Nat), s.lasPort p = true ∧ s.flag (.las .present) p 0 = true ∧ s.flag (.las .retryWait) p 0 =
      false) ∧
    (∃ (s : State) (p : Nat), s.lasPort p = true ∧ s.flag (.las .retryWait) p 0 = true) ∧
    (∃ (s : State) (p : Nat), s.lasPort p = true ∧ s.lasState p ≠ lasAbsent) ∧
    (∃ (s : State) (p : Nat) (r : LasRead), s.lasPort p = true ∧ s.lasState p = lasReadySt ∧ s.tapLow p r.tap = false
      ∧ r.fault = false) ∧
    (∃ (s : State) (p : Nat) (r : LasRead), s.lasPort p = true ∧ s.lasState p = lasReadySt ∧ s.tapLow p r.tap = true ∧
      r.fault = false ∧ s.get (.las .lowCount) p 0 = 9) ∧
    (∃ (s : State) (p : Nat), s.lasPort p = true ∧ (s.lasState p = lasDiscover ∨ s.lasState p = lasTuning)) ∧
    (∃ (s : State) (p : Nat), s.lasPort p = true) ∧
    (∃ (s : State) (p : Nat), s.lasPort p = true ∧ s.flag (.las .lasEn) p 0 = false) ∧
    (∃ (s : State) (p : Nat), s.lasPort p = true ∧ s.flag (.las .lasEn) p 0 = true) :=
  ⟨⟨(wSt [(.sys .dieReleased, 0, 0, 255), (.boot .procCalled, 0, 4, 1)]), 0, ⟨false, true, true, true, false, false,
      0, 0⟩, by decide +kernel⟩,
   ⟨(wSt [(.sys .dieReleased, 0, 0, 255), (.boot .procCalled, 0, 4, 1), (.las .lasEn, 0, 0, 1)]), 0, ⟨true, true,
      true, true, false, false, 0, 0⟩, by decide +kernel⟩,
   ⟨(wSt [(.las .lasEn, 1, 0, 1), (.las .state, 1, 0, 6), (.sys .dieReleased, 0, 0, 255)]), 1, ⟨true, true, true,
      true, false, true, 2, -2⟩, by decide +kernel⟩,
   ⟨(wSt [(.las .present, 2, 0, 1), (.sys .dieReleased, 0, 0, 255)]), 2, by decide +kernel⟩,
   ⟨(wSt [(.las .present, 2, 0, 1), (.sys .dieReleased, 0, 0, 255)]), 2, by decide +kernel⟩,
   ⟨(wSt [(.las .retryWait, 0, 0, 1), (.sys .dieReleased, 0, 0, 255)]), 0, by decide +kernel⟩,
   ⟨(wSt [(.sys .dieReleased, 0, 0, 255)]), 0, by decide +kernel⟩,
   ⟨(wSt [(.las .state, 0, 0, 3), (.sys .dieReleased, 0, 0, 255)]), 0, ⟨false, false, true, false, false, false, -2,
      -2⟩, by decide +kernel⟩,
   ⟨(wSt [(.las .state, 1, 0, 3), (.las .lowCount, 1, 0, 9), (.sys .dieReleased, 0, 0, 255)]), 1, ⟨false, true, true,
      false, false, false, 63, -1048576⟩, by decide +kernel⟩,
   ⟨(wSt [(.las .state, 1, 0, 2), (.sys .dieReleased, 0, 0, 255)]), 1, by decide +kernel⟩,
   ⟨(wSt [(.sys .dieReleased, 0, 0, 255)]), 2, by decide +kernel⟩,
   ⟨(wSt [(.sys .dieReleased, 0, 0, 255)]), 1, by decide +kernel⟩,
   ⟨(wSt [(.las .lasEn, 1, 0, 1), (.sys .dieReleased, 0, 0, 255)]), 1, by decide +kernel⟩⟩

theorem witness_Framing_LineFrames :
    (∃ (s : State) (d : Nat), s.up d = true ∧ s.searching d = true ∧ (s.cands.any fun c => decide (c.die = d)) =
      false) ∧
    (∃ (s : State) (d : Nat), s.up d = true ∧ s.flag (.ct .framerEn) d 0 = true ∧ s.flag (.ct .inFrame) d 0 = false) ∧
    (∃ (s : State) (d : Nat), s.up d = true ∧ s.flag (.ct .framerEn) d 0 = true ∧ s.flag (.ct .inFrame) d 0 = true ∧
      s.flag (.lr .rxSf) d 0 = false ∧ s.flag (.live .fecSf) d 0 = false) ∧
    (∃ (s : State) (d : Nat) (f : LineFrame), s.up d = true ∧ s.flag (.ct .framerEn) d 0 = true ∧ s.flag (.lr .rxSf) d
      0 = false ∧ s.flag (.live .fecSf) d 0 = false ∧ s.flag (.ct .inFrame) d 0 = true ∧ s.get (.ct .framePos) d 0 ∈
      f.hits) ∧
    (∃ (s : State) (d : Nat) (f : LineFrame), s.up d = true ∧ s.flag (.ct .framerEn) d 0 = true ∧ s.flag (.lr .rxSf) d
      0 = false ∧ s.flag (.live .fecSf) d 0 = false ∧ s.flag (.ct .inFrame) d 0 = true ∧ s.get (.ct .framePos) d 0 ∉
      f.hits ∧ s.get (.ct .misses) d 0 = 4) ∧
    (∃ (s : State) (d : Nat) (offset : Nat) (f : LineFrame), s.up d = true ∧ s.flag (.ct .framerEn) d 0 = true ∧
      s.flag (.lr .rxSf) d 0 = false ∧ s.flag (.live .fecSf) d 0 = false ∧ s.flag (.ct .inFrame) d 0 = false ∧ s.cands
      = [⟨d, offset, 2⟩] ∧ offset ∈ f.hits ∧ offset ∈ f.mfasOk) ∧
    (∃ (s : State) (d : Nat), s.up d = true ∧ s.txBegun d = true ∧ s.get (.ct .sentFn) d 0 = 1 + s.get (.ct .txFn) 0
      0) ∧
    (∃ (s : State) (d : Nat), s.up d = true ∧ s.flag (.ct .framerEn) d 0 = true ∧ s.flag (.ct .inFrame) d 0 = true) ∧
    (∃ (s : State) (d : Nat) (addr : Nat), s.up d = true ∧ s.flag (.ct .framerEn) d 0 = true ∧ s.flag (.ct .inFrame) d
      0 = true ∧ (addr = 0 ∨ 3 < addr)) :=
  ⟨⟨(wSt [(.lr .rxSf, 7, 0, 0), (.ct .framerEn, 7, 0, 1), (.sys .dieReleased, 0, 0, 255)]), 7, by decide +kernel⟩,
   ⟨(wSt [(.ct .framerEn, 3, 0, 1), (.sys .dieReleased, 0, 0, 255)]), 3, by decide +kernel⟩,
   ⟨(wSt [(.lr .rxSf, 7, 0, 0), (.ct .framerEn, 7, 0, 1), (.ct .inFrame, 7, 0, 1), (.sys .dieReleased, 0, 0, 255)]),
      7, by decide +kernel⟩,
   ⟨(wSt [(.lr .rxSf, 1, 0, 0), (.ct .framerEn, 1, 0, 1), (.ct .inFrame, 1, 0, 1), (.sys .dieReleased, 0, 0, 255)]),
      1, ⟨[13, 0, 4294967295], [0, 1], 99999, 2, 1048576, 3, 1048576, false, [], true, 0, true, 1022, 255⟩,
      by decide +kernel⟩,
   ⟨(wSt [(.lr .rxSf, 5, 0, 0), (.ct .framerEn, 5, 0, 1), (.ct .inFrame, 5, 0, 1), (.ct .misses, 5, 0, 4), (.sys
      .dieReleased, 0, 0, 255)]), 5, ⟨[], [0], 1, 0, 2, 1, 1, false, [1, 2, 0], true, 3, false, 2, 4095⟩,
      by decide +kernel⟩,
   ⟨{ (wSt [(.lr .rxSf, 4, 0, 0), (.ct .framerEn, 4, 0, 1), (.sys .dieReleased, 0, 0, 255)]) with
        cands := [⟨4, 0, 2⟩] }, 4, 0, ⟨[0, 64], [5, 0], 1, 0, 0, 0, 2, false, [3, 2], true, 3, false, 1, 1000⟩,
      by decide +kernel⟩,
   ⟨(wSt [(.lt .ramp, 0, 0, 1), (.ct .sentFn, 0, 0, 1), (.sys .dieReleased, 0, 0, 255)]), 0, by decide +kernel⟩,
   ⟨(wSt [(.ct .framerEn, 4, 0, 1), (.ct .inFrame, 4, 0, 1), (.sys .dieReleased, 0, 0, 255)]), 4, by decide +kernel⟩,
   ⟨(wSt [(.ct .framerEn, 3, 0, 1), (.ct .inFrame, 3, 0, 1), (.sys .dieReleased, 0, 0, 255)]), 3, 14,
      by decide +kernel⟩⟩

theorem witness_Framing_ContainerFrames :
    (∃ (s : State) (d : Nat) (i : Nat) (f : CtnFrame), s.up d = true ∧ (s.ctnMode d i = 1 ∨ s.ctnMode d i = 2) ∧
      f.protect = false ∧ s.tandemEn d i = false ∧ f.fas = true ∧ s.flag (.ct .cAligned) d i = true) ∧
    (∃ (s : State) (d : Nat) (i : Nat) (f : CtnFrame), s.up d = true ∧ (s.ctnMode d i = 1 ∨ s.ctnMode d i = 2) ∧
      f.protect = false ∧ s.tandemEn d i = false ∧ f.fas = false ∧ s.get (.ct .cMisses) d i = 4) ∧
    (∃ (s : State) (d : Nat) (i : Nat), s.up d = true ∧ s.ctnMode d i = 1 ∧ s.flag (.ct .cAligned) d i = true) ∧
    (∃ (s : State) (d : Nat) (i : Nat), s.up d = true ∧ s.ctnMode d i = 1 ∧ s.flag (.ct .cAligned) d i = true) ∧
    (∃ (s : State) (d : Nat) (i : Nat), s.up d = true ∧ s.ctnMode d i ≠ 0) ∧
    (∃ (s : State) (d : Nat), s.up d = true ∧ s.flag (.ct .bondEn) d 0 = true) ∧
    (∃ (s : State) (d : Nat), s.up d = true ∧ s.flag (.ct .bondEn) d 0 = true ∧ s.bondSkew d ≤ s.get (.ct .skewMaxUs)
      d 0 ∧ s.get (.ct .bondState) d 0 = 3 ∧ d ∈ s.bondMembers d) ∧
    (∃ (s : State) (d : Nat) (w : Nat), s.up d = true ∧ s.winBusy (framerWin w) d = false) ∧
    (∃ (s : State) (d : Nat), s.up d = true ∧ s.get (.ct .txFn) 0 0 % 256 = 0) :=
  ⟨⟨(wSt [(.ct .cAligned, 7, 0, 1), (.sys .dieReleased, 0, 0, 255), (.win .ctCtn, 7, 0, 2)]), 7, 0, ⟨false, true, 3,
      false, 1, 0, .dnr, 31, 1099511627776, false, true, 0, 0, false, true, true, false, [127, 5, 2], false, 2, 1,
      false, true, true⟩, by decide +kernel⟩,
   ⟨(wSt [(.ct .cMisses, 6, 0, 4), (.sys .dieReleased, 0, 0, 255), (.win .ctCtn, 6, 0, 2)]), 6, 0, ⟨false, false, 64,
      true, 1, 1, .wtr, 0, 0, false, false, 3, 4095, true, false, true, true, [4095], true, 0, 65535, false, true,
      false⟩, by decide +kernel⟩,
   ⟨(wSt [(.ct .cAligned, 6, 1, 1), (.sys .dieReleased, 0, 0, 255), (.win .ctCtn, 6, 16, 1)]), 6, 1,
      by decide +kernel⟩,
   ⟨(wSt [(.ct .cAligned, 5, 0, 1), (.sys .dieReleased, 0, 0, 255), (.win .ctCtn, 5, 0, 1)]), 5, 0, by decide +kernel⟩,
   ⟨(wSt [(.sys .dieReleased, 0, 0, 255), (.win .ctCtn, 6, 0, 1)]), 6, 0, by decide +kernel⟩,
   ⟨(wSt [(.ct .bondEn, 2, 0, 1), (.sys .dieReleased, 0, 0, 255)]), 2, by decide +kernel⟩,
   ⟨(wSt [(.ct .members, 2, 0, 4), (.ct .bondEn, 2, 0, 1), (.ct .bondState, 2, 0, 3), (.sys .dieReleased, 0, 0,
      255)]), 2, by decide +kernel⟩,
   ⟨(wSt [(.sys .dieReleased, 0, 0, 255)]), 3, 2, by decide +kernel⟩,
   ⟨(wSt [(.sys .dieReleased, 0, 0, 255)]), 7, by decide +kernel⟩⟩

theorem witness_Transmitter_TransmitterStates :
    (∃ (s : State) (d : Nat), s.up d = true ∧ s.flag (.lt .txEn) d 0 = false ∧ s.get (.lt .mute) d 0 % 2 = 0 ∧ s.get
      (.lt .sysCause) d 0 = 0) ∧
    (∃ (s : State) (d : Nat), s.up d = true ∧ s.flag (.lt .txEn) d 0 = true) ∧
    (∃ (s : State) (d : Nat), s.up d = true ∧ s.flag (.lt .txEn) d 0 = true ∧ s.flag (.lt .ramp) d 0 = false ∧
      s.muteCauses d = 0 ∧ s.txState d = txWaitLaser) ∧
    (∃ (s : State) (d : Nat), s.up d = true ∧ s.flag (.lt .txEn) d 0 = true ∧ s.flag (.lt .ramp) d 0 = false ∧
      s.muteCauses d = 0 ∧ s.txState d = txWaitBias) ∧
    (∃ (s : State) (d : Nat), s.up d = true ∧ s.flag (.lt .txEn) d 0 = true ∧ s.flag (.lt .ramp) d 0 = false ∧
      s.muteCauses d = 0 ∧ s.txState d = txWaitCal ∧ s.flag (.cal .convValid) d 0 = true) ∧
    (∃ (s : State) (d : Nat), s.up d = true ∧ s.flag (.lt .txEn) d 0 = true ∧ s.flag (.lt .ramp) d 0 = true ∧
      s.muteCauses d = 0) ∧
    (∃ (s : State) (d : Nat), s.up d = true ∧ s.flag (.lt .txEn) d 0 = true ∧ s.txState d ≠ txMuted) ∧
    (∃ (s : State) (d : Nat), s.up d = true ∧ s.flag (.lt .txEn) d 0 = true ∧ s.txState d = txMuted ∧ s.flag (.lt
      .ramp) d 0 = false ∧ s.muteCauses d = 1) :=
  ⟨⟨(wSt [(.sys .dieReleased, 0, 0, 255)]), 7, by decide +kernel⟩,
   ⟨(wSt [(.lt .txEn, 2, 0, 1), (.sys .dieReleased, 0, 0, 255)]), 2, by decide +kernel⟩,
   ⟨(wSt [(.lt .txEn, 6, 0, 1), (.lt .txState, 6, 0, 1), (.las .state, 6, 0, 3), (.bias .biasLock, 6, 0, 3), (.sys
      .dieReleased, 0, 0, 255)]), 6, by decide +kernel⟩,
   ⟨(wSt [(.lt .txEn, 2, 0, 1), (.lt .txState, 2, 0, 2), (.las .state, 2, 0, 3), (.bias .biasLock, 2, 0, 8), (.sys
      .dieReleased, 0, 0, 255)]), 2, by decide +kernel⟩,
   ⟨(wSt [(.lt .txEn, 0, 0, 1), (.lt .txState, 0, 0, 3), (.las .state, 0, 0, 3), (.bias .biasLock, 0, 0, 2), (.cal
      .convValid, 0, 0, 1), (.sys .dieReleased, 0, 0, 255)]), 0, by decide +kernel⟩,
   ⟨(wSt [(.lt .txEn, 4, 0, 1), (.lt .ramp, 4, 0, 1), (.las .state, 4, 0, 3), (.bias .biasLock, 4, 0, 3), (.sys
      .dieReleased, 0, 0, 255)]), 4, by decide +kernel⟩,
   ⟨(wSt [(.lt .txEn, 5, 0, 1), (.sys .dieReleased, 0, 0, 255)]), 5, by decide +kernel⟩,
   ⟨(wSt [(.sys .dieReleased, 0, 0, 255), (.lt .txEn, 3, 0, 1), (.lt .txState, 3, 0, 5), (.lt .mute, 3, 0, 1), (.las
      .state, 3, 0, 3), (.bias .biasLock, 3, 0, 1)]), 3, by decide +kernel⟩⟩

theorem witness_Transmitter_TransmitterFrames :
    (∃ (s : State) (d : Nat), s.up d = true ∧ s.txFrames d = true) ∧
    (∃ (s : State) (d : Nat), s.up d = true ∧ s.txBegun d = true) ∧
    (∃ (s : State) (d : Nat), s.up d = true) :=
  ⟨⟨(wSt [(.lt .ramp, 7, 0, 1), (.sys .dieReleased, 0, 0, 255)]), 7, by decide +kernel⟩,
   ⟨(wSt [(.lt .ramp, 1, 0, 1), (.sys .dieReleased, 0, 0, 255)]), 1, by decide +kernel⟩,
   ⟨(wSt [(.sys .dieReleased, 0, 0, 255)]), 7, by decide +kernel⟩⟩

theorem witness_MonitorsAndCalibration_MonitorConversions :
    (∃ (s : State) (d : Nat) (v : Int), s.lantern d = true ∧ s.get (.mon .seqState) d 0 = seqRun ∧ s.get (.mon
      .seqPos) d 0 < s.get (.mon .seqLen) d 0 ∧ (v < -32768 ∨ 32767 < v)) ∧
    (∃ (s : State) (d : Nat) (v : Int), s.lantern d = true ∧ s.get (.mon .seqState) d 0 = seqRun ∧ s.get (.mon
      .seqPos) d 0 < s.get (.mon .seqLen) d 0 ∧ -32768 ≤ v ∧ v ≤ 32767) ∧
    (∃ (s : State) (d : Nat), s.lantern d = true ∧ s.get (.mon .seqState) d 0 = seqRun ∧ s.get (.mon .seqLen) d 0 ≤
      s.get (.mon .seqPos) d 0) ∧
    (∃ (s : State) (d : Nat) (f : Nat) (i : Nat), s.lantern d = true ∧ f < 4 ∧ i < 5 ∧ bit (s.get (.mon .syncMask) d
      0) f = true) :=
  ⟨⟨(wSt [(.mon .seqLen, 7, 0, 1), (.mon .seqState, 7, 0, 1), (.sys .railsGood, 0, 0, 1)]), 7, 65535,
      by decide +kernel⟩,
   ⟨(wSt [(.mon .seqLen, 7, 0, 2), (.mon .seqState, 7, 0, 1), (.sys .railsGood, 0, 0, 1)]), 7, 2, by decide +kernel⟩,
   ⟨(wSt [(.mon .seqState, 1, 0, 1), (.sys .railsGood, 0, 0, 1)]), 1, by decide +kernel⟩,
   ⟨(wSt [(.mon .syncMask, 2, 0, 2), (.sys .railsGood, 0, 0, 1)]), 2, 1, 0, by decide +kernel⟩⟩

theorem witness_MonitorsAndCalibration_SystemCalibration :
    (∃ (s : State) (d : Nat), s.lantern 0 = true ∧ s.flag (.cal .sysBusy) 0 0 = false ∧ bit (s.get (.cal .slotMask) 0
      0) d = true ∧ s.present d = true ∧ d < 8) ∧
    (∃ (s : State) (m : SysMeas), s.lantern 0 = true ∧ s.flag (.cal .sysBusy) 0 0 = true ∧ bit (s.get (.cal .sysMask)
      0 0) m.slot = true ∧ s.present m.slot = true ∧ s.sysResult m = 1) ∧
    (∃ (s : State) (m : SysMeas), s.lantern 0 = true ∧ s.flag (.cal .sysBusy) 0 0 = true ∧ bit (s.get (.cal .sysMask)
      0 0) m.slot = true ∧ s.present m.slot = true ∧ s.sysResult m ≠ 1) :=
  ⟨⟨(wSt [(.cal .slotMask, 0, 0, 128), (.sys .railsGood, 0, 0, 1)]), 7, by decide +kernel⟩,
   ⟨(wSt [(.cal .calrefUv, 0, 0, 0), (.cal .sysBusy, 0, 0, 1), (.cal .sysMask, 0, 0, 1), (.sys .railsGood, 0, 0, 1)]),
      ⟨0, 0, 0, 0, 0, false, [1, 2]⟩, by decide +kernel⟩,
   ⟨(wSt [(.cal .sysBusy, 0, 0, 1), (.cal .sysMask, 0, 0, 32), (.sys .railsGood, 0, 0, 1)]), ⟨5, 14485, 14485, 0, 3,
      false, [2]⟩, by decide +kernel⟩⟩

theorem witness_PannierStack_StackStartup :
    (∃ (s : State) (d : Nat), s.up d = true ∧ s.called 1 = true ∧ s.procArg 1 0 % 8 = d ∧ s.get (.boot .procId) 0 0 =
      1) ∧
    (∃ (s : State) (d : Nat) (train : Bool) (geometry : Bool) (map : Bool) (key : Bool), s.up d = true ∧ s.called 1 =
      true ∧ s.procArg 1 0 % 8 = d ∧ s.get (.boot .procId) 0 0 = 1 ∧ train = true ∧ geometry = true ∧ map = true ∧ key
      = true ∧ s.flag (.sbg .rngOk) 0 0 = true) ∧
    (∃ (s : State) (d : Nat) (train : Bool) (geometry : Bool) (map : Bool) (key : Bool), s.up d = true ∧ s.called 1 =
      true ∧ s.procArg 1 0 % 8 = d ∧ s.get (.boot .procId) 0 0 = 1 ∧ train = true ∧ geometry = true ∧ map = true ∧ key
      = false) ∧
    (∃ (s : State) (d : Nat), s.up d = true ∧ s.called 2 = true ∧ s.procArg 2 0 % 8 = d) ∧
    (∃ (s : State) (d : Nat) (e : Nat), s.up d = true ∧ s.called 3 = true ∧ s.procArg 3 0 % 8 = d ∧ s.get (.boot
      .procId) 0 0 = 3 ∧ s.pendingRows d = [e]) ∧
    (∃ (s : State) (d : Nat) (e : Nat), s.up d = true ∧ s.called 3 = true ∧ s.procArg 3 0 % 8 = d ∧ s.get (.boot
      .procId) 0 0 = 3 ∧ s.pendingRows d = [e] ∧ bit (s.procArg 3 1) 0 = false) :=
  ⟨⟨(wSt [(.boot .procId, 0, 0, 1), (.boot .procCalled, 0, 1, 1), (.boot .procArgW, 0, 16, 7), (.sys .dieReleased, 0,
      0, 255)]), 7, by decide +kernel⟩,
   ⟨(wSt [(.boot .procId, 0, 0, 1), (.boot .procCalled, 0, 1, 1), (.boot .procArgW, 0, 16, 3), (.sbg .rngOk, 0, 0, 1),
      (.sys .dieReleased, 0, 0, 255)]), 3, true, true, true, true, by decide +kernel⟩,
   ⟨(wSt [(.boot .procId, 0, 0, 1), (.boot .procCalled, 0, 1, 1), (.boot .procArgW, 0, 16, 2), (.sys .dieReleased, 0,
      0, 255)]), 2, true, true, true, false, by decide +kernel⟩,
   ⟨(wSt [(.boot .procCalled, 0, 2, 1), (.boot .procArgW, 0, 32, 6), (.sys .dieReleased, 0, 0, 255)]), 6,
      by decide +kernel⟩,
   ⟨(wSt [(.boot .procId, 0, 0, 3), (.boot .procCalled, 0, 3, 1), (.boot .procArgW, 0, 48, 2), (.sys .dieReleased, 0,
      0, 255), (.win .panRepair, 2, 96, 1342177280)]), 2, 6, by decide +kernel⟩,
   ⟨(wSt [(.boot .procId, 0, 0, 3), (.boot .procCalled, 0, 3, 1), (.boot .procArgW, 0, 48, 1), (.sys .dieReleased, 0,
      0, 255), (.win .panRepair, 1, 80, 1342177280)]), 1, 5, by decide +kernel⟩⟩

theorem witness_StackReads :
    (∃ (s : State) (d : Nat), s.up d = true ∧ s.panOk d = true ∧ s.merge = [] ∧ s.get (.pan .migHome) d 0 = 0) ∧
    (∃ (s : State) (d : Nat) (g : Nat), s.up d = true ∧ s.panOk d = true ∧ s.merge = [] ∧ s.get (.pan .migHome) d 0 =
      0 ∧ s.tracker = [⟨d, g, 2⟩]) ∧
    (∃ (s : State) (d : Nat) (g : Nat), s.up d = true ∧ s.panOk d = true ∧ s.flag (.pan .wbPend) d g = true) ∧
    (∃ (s : State) (d : Nat) (g : Nat), s.up d = true ∧ s.panOk d = true ∧ s.flag (.pan .wbPend) d g = true) ∧
    (∃ (s : State) (d : Nat) (g : Nat), s.up d = true ∧ s.panOk d = true ∧ s.flag (.pan .poison) d g = true) ∧
    (∃ (s : State) (d : Nat) (g : Nat), s.up d = true ∧ s.panOk d = true ∧ s.flag (.pan .poison) d g = false) ∧
    (∃ (s : State) (d : Nat) (g : Nat) (m : Nat), s.up d = true ∧ s.panOk d = true ∧ s.merge = [⟨d, g, m⟩] ∧ s.get
      (.pan .migHome) d 0 = 0 ∧ m = 255) ∧
    (∃ (s : State) (d : Nat) (g : Nat) (m : Nat), s.up d = true ∧ s.panOk d = true ∧ s.merge = [⟨d, g, m⟩] ∧ s.get
      (.pan .migHome) d 0 = 0 ∧ m ≠ 255 ∧ s.flag (.pan .poison) d (s.readGran d g) = false) ∧
    (∃ (s : State) (d : Nat) (g : Nat) (m : Nat), s.up d = true ∧ s.panOk d = true ∧ s.merge = [⟨d, g, m⟩] ∧ s.get
      (.pan .migHome) d 0 = 0) ∧
    (∃ (s : State) (d : Nat), s.up d = true ∧ s.panOk d = true ∧ s.flag (.pan .scrubEn) d 0 = true) ∧
    (∃ (s : State) (d : Nat), s.up d = true ∧ s.panOk d = true ∧ s.flag (.pan .scrubEn) d 0 = false) :=
  ⟨⟨(wSt [(.pan .state, 7, 0, 2), (.sys .dieReleased, 0, 0, 255)]), 7, by decide +kernel⟩,
   ⟨{ (wSt [(.pan .state, 3, 0, 2), (.sys .dieReleased, 0, 0, 255)]) with
        tracker := [⟨3, 0, 2⟩] }, 3, 0, by decide +kernel⟩,
   ⟨(wSt [(.pan .state, 6, 0, 2), (.pan .wbPend, 6, 11, 1), (.sys .dieReleased, 0, 0, 255)]), 6, 11,
      by decide +kernel⟩,
   ⟨(wSt [(.pan .state, 5, 0, 2), (.pan .wbPend, 5, 3, 1), (.sys .dieReleased, 0, 0, 255)]), 5, 3, by decide +kernel⟩,
   ⟨(wSt [(.pan .state, 2, 0, 2), (.pan .poison, 2, 31, 1), (.sys .dieReleased, 0, 0, 255)]), 2, 31,
      by decide +kernel⟩,
   ⟨(wSt [(.pan .state, 5, 0, 2), (.sys .dieReleased, 0, 0, 255)]), 5, 1, by decide +kernel⟩,
   ⟨{ (wSt [(.pan .state, 4, 0, 2), (.sys .dieReleased, 0, 0, 255)]) with
        merge := [⟨4, 1, 255⟩] }, 4, 1, 255, by decide +kernel⟩,
   ⟨{ (wSt [(.pan .state, 0, 0, 2), (.sys .dieReleased, 0, 0, 255)]) with
        merge := [⟨0, 0, 1⟩] }, 0, 0, 1, by decide +kernel⟩,
   ⟨{ (wSt [(.pan .state, 4, 0, 2), (.sys .dieReleased, 0, 0, 255)]) with
        merge := [⟨4, 2, 1⟩] }, 4, 2, 1, by decide +kernel⟩,
   ⟨(wSt [(.pan .state, 5, 0, 2), (.sys .dieReleased, 0, 0, 255)]), 5, by decide +kernel⟩,
   ⟨(wSt [(.pan .scrubEn, 5, 0, 0), (.pan .state, 5, 0, 2), (.sys .dieReleased, 0, 0, 255)]), 5, by decide +kernel⟩⟩

theorem witness_PannierStack_StackPages :
    (∃ (s : State) (d : Nat) (n : Nat) (q : RetireReq) (rest : List RetireReq), s.up d = true ∧ s.panOk d = true ∧
      s.get (.pan .migHome) d 0 = 0 ∧ s.stage d = 0 ∧ s.retireHead d = some (q, rest) ∧ s.lowestSpare d = some n) ∧
    (∃ (s : State) (d : Nat) (q : RetireReq) (rest : List RetireReq), s.up d = true ∧ s.panOk d = true ∧ s.get (.pan
      .migHome) d 0 = 0 ∧ s.stage d = 0 ∧ s.retireHead d = some (q, rest) ∧ s.lowestSpare d = none) ∧
    (∃ (s : State) (d : Nat) (x : Nat), s.up d = true ∧ s.panOk d = true ∧ s.get (.pan .migHome) d 0 = x + 1) ∧
    (∃ (s : State) (d : Nat) (r : Nat) (v : Nat), s.up d = true ∧ s.panOk d = true ∧ v < regionSize r) ∧
    (∃ (s : State) (d : Nat) (r : Nat) (v : Nat), s.up d = true ∧ s.panOk d = true ∧ v < regionSize r) ∧
    (∃ (s : State) (d : Nat) (r : Nat) (v : Nat), s.up d = true ∧ s.panOk d = true ∧ s.flag (.pan .rebuild) d
      (homeOfVpn r v) = true) :=
  ⟨⟨{ (wSt [(.pan .state, 0, 0, 2), (.pan .given, 0, 1, 1048576), (.sys .dieReleased, 0, 0, 255)]) with
        retireQ := [⟨0, 2370129, 209548200, 0⟩, ⟨1, 624509, 198520580, 3⟩] }, 0, 1, ⟨0, 2370129, 209548200, 0⟩, [⟨1,
      624509, 198520580, 3⟩], by decide +kernel⟩,
   ⟨fullDie, 0, ⟨0, 5, 0, 0⟩, [], by decide +kernel, by decide +kernel, by decide +kernel, by decide +kernel,
      by decide +kernel, fullDie_noSpare⟩,
   ⟨(wSt [(.pan .state, 1, 0, 2), (.pan .migHome, 1, 0, 2), (.sys .dieReleased, 0, 0, 255)]), 1, 1, by decide +kernel⟩,
   ⟨(wSt [(.pan .state, 5, 0, 2), (.sys .dieReleased, 0, 0, 255)]), 5, 0, 1, by decide +kernel⟩,
   ⟨(wSt [(.pan .state, 4, 0, 2), (.sys .dieReleased, 0, 0, 255)]), 4, 0, 2, by decide +kernel⟩,
   ⟨(wSt [(.pan .state, 7, 0, 2), (.pan .rebuild, 7, 2, 1), (.sys .dieReleased, 0, 0, 255)]), 7, 0, 2,
      by decide +kernel⟩⟩

theorem witness_PelotonNeighbours :
    (∃ (s : State) (d : Nat) (p : Nat), s.up d = true ∧ p < 2 ∧ s.nbOn d p = true ∧ s.nbSends d p = true) ∧
    (∃ (s : State) (d : Nat) (p : Nat), s.up d = true ∧ p < 2 ∧ s.nbOn d p = true ∧ s.nbSends d p = true) ∧
    (∃ (s : State) (d : Nat) (p : Nat), s.up d = true ∧ p < 2 ∧ s.nbOn d p = false) ∧
    (∃ (s : State) (d : Nat) (p : Nat) (lag : Nat), s.up d = true ∧ p < 2 ∧ s.nbOn d p = true ∧ s.locked d = true ∧
      s.nbSends d p = true ∧ s.get (.pel .nbState) d p = nbWait ∧ s.nbWalkBad d p = false ∧ s.nbNeed d p lag ≤ 4000) ∧
    (∃ (s : State) (d : Nat) (p : Nat), s.up d = true ∧ p < 2 ∧ s.nbOn d p = true ∧ s.locked d = true ∧ s.nbSends d p
      = true ∧ s.get (.pel .nbState) d p = nbWait ∧ s.nbWalkBad d p = true) ∧
    (∃ (s : State) (d : Nat) (p : Nat) (lag : Nat), s.up d = true ∧ p < 2 ∧ s.nbOn d p = true ∧ s.locked d = true ∧
      s.nbSends d p = true ∧ s.get (.pel .nbState) d p = nbWait ∧ s.nbWalkBad d p = false ∧ 4000 < s.nbNeed d p lag) ∧
    (∃ (s : State) (d : Nat) (p : Nat), s.up d = true ∧ p < 2 ∧ s.nbOn d p = true ∧ s.locked d = true ∧ s.get (.pel
      .nbState) d p = nbActive) ∧
    (∃ (s : State) (d : Nat) (p : Nat), s.up d = true ∧ p < 2 ∧ s.get (.pel .nbState) d p = nbSuspended) ∧
    (∃ (s : State) (d : Nat) (p : Nat), s.up d = true ∧ p < 2 ∧ s.locked d = true ∧ s.rxOn d = true) ∧
    (∃ (s : State) (d : Nat) (p : Nat), s.up d = true ∧ p < 2 ∧ s.locked d = true ∧ s.rxOn d = true) :=
  ⟨⟨(wSt [(.chn .state, 5, 0, 2), (.chn .state, 6, 1, 2), (.lr .rxEn, 6, 0, 1), (.lr .rxState, 5, 0, 10), (.pel .nbDn,
      6, 0, 1), (.pel .pelOn, 5, 0, 1), (.pel .pelOn, 6, 0, 1), (.sys .dieReleased, 0, 0, 255)]), 6, 1,
      by decide +kernel⟩,
   ⟨(wSt [(.chn .state, 3, 0, 2), (.chn .state, 4, 1, 2), (.lr .rxEn, 4, 0, 1), (.lr .rxState, 3, 0, 10), (.pel .nbDn,
      4, 0, 1), (.pel .pelOn, 3, 0, 1), (.pel .pelOn, 4, 0, 1), (.sys .dieReleased, 0, 0, 255)]), 4, 1,
      by decide +kernel⟩,
   ⟨(wSt [(.sys .dieReleased, 0, 0, 255)]), 1, 0, by decide +kernel⟩,
   ⟨(wSt [(.chn .state, 3, 0, 2), (.chn .state, 4, 1, 2), (.lr .rxEn, 4, 0, 1), (.lr .rxState, 3, 0, 10), (.lr
      .rxState, 4, 0, 10), (.pel .nbDn, 4, 0, 1), (.pel .pelOn, 3, 0, 1), (.pel .pelOn, 4, 0, 1), (.pel .nbState, 4,
      1, 1), (.sys .dieReleased, 0, 0, 255)]), 4, 1, 32, by decide +kernel⟩,
   ⟨(wSt [(.chn .state, 2, 0, 2), (.chn .state, 3, 1, 2), (.las .gridN, 3, 0, 70), (.lr .rxEn, 3, 0, 1), (.lr
      .rxState, 2, 0, 10), (.lr .rxState, 3, 0, 10), (.lr .qCd, 3, 0, 50000), (.pel .nbDn, 3, 0, 1), (.pel .pelOn, 2,
      0, 1), (.pel .pelOn, 3, 0, 1), (.pel .nbState, 3, 1, 1), (.sys .dieReleased, 0, 0, 255)]), 3, 1,
      by decide +kernel⟩,
   ⟨(wSt [(.chn .state, 0, 0, 2), (.chn .state, 1, 1, 2), (.lr .rxEn, 1, 0, 1), (.lr .rxState, 0, 0, 10), (.lr
      .rxState, 1, 0, 10), (.pel .nbDn, 1, 0, 1), (.pel .pelOn, 0, 0, 1), (.pel .pelOn, 1, 0, 1), (.pel .nbState, 1,
      1, 1), (.sys .dieReleased, 0, 0, 255)]), 1, 1, 65535, by decide +kernel⟩,
   ⟨(wSt [(.lr .rxEn, 0, 0, 1), (.lr .rxState, 0, 0, 10), (.pel .nbDn, 0, 0, 1), (.pel .pelOn, 0, 0, 1), (.pel
      .nbState, 0, 1, 2), (.sys .dieReleased, 0, 0, 255)]), 0, 1, by decide +kernel⟩,
   ⟨(wSt [(.pel .nbState, 6, 1, 3), (.sys .dieReleased, 0, 0, 255)]), 6, 1, by decide +kernel⟩,
   ⟨(wSt [(.lr .rxEn, 2, 0, 1), (.lr .rxState, 2, 0, 10), (.sys .dieReleased, 0, 0, 255)]), 2, 1, by decide +kernel⟩,
   ⟨(wSt [(.lr .rxEn, 7, 0, 1), (.lr .rxState, 7, 0, 10), (.sys .dieReleased, 0, 0, 255)]), 7, 0, by decide +kernel⟩⟩

theorem witness_RailsPinsAndTamper_RailsAndTamper :
    (∃ (s : State) (d : Nat) (rail : Nat), s.flag (.sys .aoOn) 0 0 = true ∧ s.flag (.sys .railsGood) 0 0 = false ∧
      s.present d = true ∧ rail < 9) ∧
    (∃ (s : State) (rail : Nat), s.flag (.sys .aoOn) 0 0 = true ∧ rail < 9 ∧ s.flag (.sys .railsGood) 0 0 = true ∧
      s.pkgAsleep = false ∧ s.poweredOff = false) ∧
    (∃ (s : State) (rail : Nat), s.flag (.sys .aoOn) 0 0 = true ∧ rail < 9 ∧ s.poweredOff = true ∧ s.flag (.ao
      .tamperDown) 0 0 = false ∧ s.flag (.sys .sysRstN) 0 0 = true) ∧
    (∃ (s : State), s.flag (.sys .aoOn) 0 0 = true) ∧
    (∃ (s : State), s.flag (.sys .aoOn) 0 0 = true ∧ s.flag (.pwr .waitWake) 0 0 = false) ∧
    (∃ (s : State) (sensor : Nat), s.flag (.sys .aoOn) 0 0 = true ∧ sensor < 4 ∧ s.flag (.sys .railsGood) 0 0 = true ∧
      s.flag (.ao .tamperDown) 0 0 = false) ∧
    (∃ (s : State) (still : Nat), s.flag (.sys .aoOn) 0 0 = true ∧ s.flag (.ao .tamperDown) 0 0 = true ∧ s.poweredOff
      = true ∧ s.flag (.ao .stuck) 0 0 = false ∧ still % 16 ≠ 0) ∧
    (∃ (s : State) (still : Nat), s.flag (.sys .aoOn) 0 0 = true ∧ s.flag (.ao .tamperDown) 0 0 = true ∧ s.poweredOff
      = true ∧ s.flag (.ao .stuck) 0 0 = false ∧ still % 16 = 0 ∧ s.flag (.sys .sysRstN) 0 0 = true) :=
  ⟨⟨(wSt []), 7, 0, by decide +kernel⟩,
   ⟨(wSt [(.sys .railsGood, 0, 0, 1)]), 2, by decide +kernel⟩,
   ⟨(wSt [(.ao .powerOff, 0, 0, 1)]), 0, by decide +kernel⟩,
   ⟨(wSt []), by decide +kernel⟩,
   ⟨(wSt []), by decide +kernel⟩,
   ⟨(wSt [(.sys .railsGood, 0, 0, 1)]), 3, by decide +kernel⟩,
   ⟨(wSt [(.ao .tamperDown, 0, 0, 1), (.ao .powerOff, 0, 0, 1)]), 13, by decide +kernel⟩,
   ⟨(wSt [(.ao .tamperDown, 0, 0, 1), (.ao .powerOff, 0, 0, 1)]), 0, by decide +kernel⟩⟩

theorem witness_RailsPinsAndTamper_SupplyPinsAndJtag :
    (∃ (s : State), s.flag (.sys .aoOn) 0 0 = false) ∧
    (∃ (s : State), s.flag (.sys .aoOn) 0 0 = true) ∧
    (∃ (s : State), s.flag (.sys .sysRstN) 0 0 = false ∧ s.flag (.sys .railsGood) 0 0 = true ∧ s.poweredOff = false) ∧
    (∃ (s : State), s.flag (.sys .sysRstN) 0 0 = true ∧ s.released 0 = true) ∧
    (∃ (s : State), s.flag (.sys .sysRstN) 0 0 = false) ∧
    (∃ (s : State), s.flag (.sys .aoOn) 0 0 = true) ∧
    (∃ (s : State), s.flag (.sys .aoOn) 0 0 = true) ∧
    (∃ (s : State), s.flag (.sys .aoOn) 0 0 = true) ∧
    (∃ (s : State), s.flag (.sys .aoOn) 0 0 = true) :=
  ⟨⟨(wSt [(.sys .aoOn, 0, 0, 0)]), by decide +kernel⟩,
   ⟨(wSt []), by decide +kernel⟩,
   ⟨(wSt [(.sys .railsGood, 0, 0, 1), (.sys .sysRstN, 0, 0, 0)]), by decide +kernel⟩,
   ⟨(wSt [(.sys .dieReleased, 0, 0, 1)]), by decide +kernel⟩,
   ⟨(wSt [(.sys .sysRstN, 0, 0, 0)]), by decide +kernel⟩,
   ⟨(wSt []), by decide +kernel⟩,
   ⟨(wSt []), by decide +kernel⟩,
   ⟨(wSt []), by decide +kernel⟩,
   ⟨(wSt []), by decide +kernel⟩⟩

theorem witness_HostFrames :
    (∃ (s : State) (d : Nat) (p : Nat) (f : HostFrame), s.packetUp d p = true ∧ s.stagedAt d f.id = none ∧ s.ctRecord
      d f.id = none ∧ f.last = true ∧ s.macVerdict d p f = 1) ∧
    (∃ (s : State) (d : Nat) (p : Nat) (f : HostFrame), s.packetUp d p = true ∧ s.stagedAt d f.id = none ∧ s.ctRecord
      d f.id = none ∧ f.last = true ∧ s.macVerdict d p f = 2) ∧
    (∃ (s : State) (d : Nat) (p : Nat) (f : HostFrame), s.packetUp d p = true ∧ s.stagedAt d f.id = none ∧ s.ctRecord
      d f.id = none ∧ f.last = true ∧ s.macVerdict d p f = 3) ∧
    (∃ (s : State) (d : Nat) (p : Nat) (q : Nat) (fm : Nat) (f : HostFrame), s.packetUp d p = true ∧ s.stagedAt d f.id
      = none ∧ s.ctRecord d f.id = none ∧ f.last = true ∧ s.macVerdict d p f = 0 ∧ s.flag (.trc .trcEn) d 0 = false ∧
      s.stagingUsed d + s.get (.hl .mtu) d p ≤ 524288 ∧ s.clsMatch d p f = some (q, fm)) ∧
    (∃ (s : State) (d : Nat) (p : Nat) (f : HostFrame), s.packetUp d p = true ∧ s.stagedAt d f.id = none ∧ s.ctRecord
      d f.id = none ∧ f.last = true ∧ s.macVerdict d p f = 0 ∧ s.flag (.trc .trcEn) d 0 = false ∧ s.stagingUsed d +
      s.get (.hl .mtu) d p ≤ 524288 ∧ s.clsMatch d p f = none ∧ s.flag (.qs .missDrop) d p = true) ∧
    (∃ (s : State) (g : Staged), s.up g.die = true ∧ s.stagedAt g.die g.id = some g ∧ g.whole = true ∧ g.gone = false
      ∧ g.tag = none ∧ s.ctBusy g.die g.queue = false ∧ s.polAlg g.die g.queue = 0 ∧ s.polAlg g.die (4096 + s.qCtn
      g.die g.queue) = 0 ∧ s.get (.qs .gapPend) g.die g.queue = 0 ∧ g.colour = 0 ∧ s.occ g.die g.queue + recWords
      g.len ≤ s.ringWords g.die g.queue) ∧
    (∃ (s : State) (g : Staged), s.up g.die = true ∧ s.stagedAt g.die g.id = some g ∧ g.whole = true ∧ g.gone = false
      ∧ g.tag = none ∧ s.ctBusy g.die g.queue = false ∧ s.polAlg g.die g.queue = 0 ∧ s.polAlg g.die (4096 + s.qCtn
      g.die g.queue) = 0 ∧ s.get (.qs .gapPend) g.die g.queue = 0 ∧ g.colour = 0 ∧ s.occ g.die g.queue + recWords
      g.len ≤ s.ringWords g.die g.queue) ∧
    (∃ (s : State) (g : Staged), s.up g.die = true ∧ s.stagedAt g.die g.id = some g ∧ g.whole = true ∧ g.gone = false
      ∧ g.tag = none ∧ s.ctBusy g.die g.queue = false ∧ s.polAlg g.die g.queue = 0 ∧ s.polAlg g.die (4096 + s.qCtn
      g.die g.queue) = 0 ∧ s.get (.qs .gapPend) g.die g.queue = 0 ∧ g.colour = 0 ∧ s.ringWords g.die g.queue < s.occ
      g.die g.queue + recWords g.len) ∧
    (∃ (s : State) (g : Staged), s.up g.die = true ∧ s.stagedAt g.die g.id = some g ∧ g.whole = true ∧ g.gone = false
      ∧ g.tag = none ∧ s.ctBusy g.die g.queue = false ∧ s.polAlg g.die g.queue = 0 ∧ s.polAlg g.die (4096 + s.qCtn
      g.die g.queue) = 0 ∧ s.get (.qs .gapPend) g.die g.queue = 0 ∧ g.colour = 2) ∧
    (∃ (s : State) (r : RingRec), s.up r.die = true ∧ s.ctRecord r.die r.id = some r ∧ r.sent = true) ∧
    (∃ (s : State) (r : RingRec), s.up r.die = true ∧ s.ctRecord r.die r.id = some r ∧ r.sent = false) :=
  ⟨⟨(wSt [(.hl .mode, 3, 2, 1), (.hl .mtu, 3, 2, 0), (.hl .pState, 3, 2, 3), (.sys .dieReleased, 0, 0, 255)]), 3, 2,
      ⟨3, 2156, true, true, true, false, false, none, [], none, 5⟩, by decide +kernel⟩,
   ⟨(wSt [(.hl .mode, 3, 0, 1), (.hl .pState, 3, 0, 3), (.sys .dieReleased, 0, 0, 255)]), 3, 0, ⟨2, 786, true, true,
      true, true, false, none, [], none, 5⟩, by decide +kernel⟩,
   ⟨(wSt [(.hl .mode, 0, 0, 1), (.hl .pState, 0, 0, 3), (.sys .dieReleased, 0, 0, 255)]), 0, 0, ⟨4095, 2976, true,
      true, true, false, true, none, [], none, 5⟩, by decide +kernel⟩,
   ⟨{ (wSt [(.hl .mode, 6, 2, 1), (.hl .pState, 6, 2, 3), (.sys .dieReleased, 0, 0, 255), (.win .ctTsmap, 6, 0,
      1073744896), (.win .ctCtn, 6, 0, 1), (.win .qsQ, 6, 0, 2281705472)]) with
        clsTab := [⟨6, 3, 2, 0, 0, false, false, 0, 0⟩] }, 6, 2, 0, 3, ⟨4294967295, 2213, true, true, true, false,
      false, none, [], none, 5⟩, by decide +kernel⟩,
   ⟨(wSt [(.hl .mode, 2, 1, 1), (.hl .pState, 2, 1, 3), (.qs .missDrop, 2, 1, 1), (.sys .dieReleased, 0, 0, 255)]), 2,
      1, ⟨0, 2108, true, true, true, false, false, none, [], none, 5⟩, by decide +kernel⟩,
   ⟨{ (wSt [(.sys .dieReleased, 0, 0, 255)]) with
        staged := [⟨4, 255, 3, 1, 3075, true, false, 0, 0, none, 0, none⟩] }, ⟨4, 255, 3, 1, 3075, true, false, 0, 0,
      none, 0, none⟩, by decide +kernel⟩,
   ⟨{ (wSt [(.sys .dieReleased, 0, 0, 255)]) with
        staged := [⟨2, 4, 0, 1, 230, true, false, 0, 0, none, 0, none⟩] }, ⟨2, 4, 0, 1, 230, true, false, 0, 0, none,
      0, none⟩, by decide +kernel⟩,
   ⟨{ (wSt [(.sys .dieReleased, 0, 0, 255)]) with
        staged := [⟨6, 32, 0, 1, 8499, true, false, 0, 0, none, 0, none⟩] }, ⟨6, 32, 0, 1, 8499, true, false, 0, 0,
      none, 0, none⟩, by decide +kernel⟩,
   ⟨{ (wSt [(.sys .dieReleased, 0, 0, 255)]) with
        staged := [⟨0, 2, 1, 1, 2618, true, false, 2, 0, none, 0, none⟩] }, ⟨0, 2, 1, 1, 2618, true, false, 2, 0,
      none, 0, none⟩, by decide +kernel⟩,
   ⟨{ (wSt [(.sys .dieReleased, 0, 0, 255)]) with
        rings := [⟨5, 1, false, 2, 3399, 219, 256, 1, true, false, false, true, false, 3, 100, none, 1, none⟩] }, ⟨5,
      1, false, 2, 3399, 219, 256, 1, true, false, false, true, false, 3, 100, none, 1, none⟩, by decide +kernel⟩,
   ⟨{ (wSt [(.sys .dieReleased, 0, 0, 255)]) with
        rings := [⟨5, 2, false, 1, 1987, 800, 2, 2, true, false, false, false, true, 31, 256, none, 2, none⟩] }, ⟨5,
      2, false, 1, 1987, 800, 2, 2, true, false, false, false, true, 31, 256, none, 2, none⟩, by decide +kernel⟩⟩

theorem witness_ClassificationAndScheduling_ClassificationTable :
    (∃ (s : State) (d : Nat), s.up d = true) ∧
    (∃ (s : State) (d : Nat) (w0 : Nat) (w1 : Nat), s.up d = true ∧ (clsEntry d w0 w1).malformed = true) ∧
    (∃ (s : State) (d : Nat) (w0 : Nat) (w1 : Nat), s.up d = true ∧ (clsEntry d w0 w1).malformed = true) ∧
    (∃ (s : State) (d : Nat) (w0 : Nat) (w1 : Nat), s.up d = true ∧ (clsEntry d w0 w1).malformed = false ∧
      (s.clsTab.any fun e => e.sameKey (clsEntry d w0 w1)) = false) ∧
    (∃ (s : State) (d : Nat) (w0 : Nat) (w1 : Nat), s.up d = true ∧ (clsEntry d w0 w1).malformed = false ∧
      (s.clsTab.any fun e => e.sameKey (clsEntry d w0 w1)) = false) ∧
    (∃ (s : State) (d : Nat) (w0 : Nat) (w1 : Nat), s.up d = true ∧ (clsEntry d w0 w1).malformed = false ∧
      (s.clsTab.any fun e => e.sameKey (clsEntry d w0 w1)) = true) ∧
    (∃ (s : State) (d : Nat) (w0 : Nat) (w1 : Nat), s.up d = true ∧ (clsEntry d w0 w1).malformed = false ∧
      (s.clsTab.any fun e => e.sameKey (clsEntry d w0 w1)) = true) ∧
    (∃ (s : State) (d : Nat) (q : Nat), s.up d = true ∧ s.flag (.qs .qDrain) d q = true) ∧
    (∃ (s : State) (d : Nat) (q : Nat), s.up d = true ∧ s.flag (.qs .cDrain) d q = true) :=
  ⟨⟨(wSt [(.sys .dieReleased, 0, 0, 255)]), 7, by decide +kernel⟩,
   ⟨(wSt [(.sys .dieReleased, 0, 0, 255)]), 2, 4294967295, 31, by decide +kernel⟩,
   ⟨(wSt [(.sys .dieReleased, 0, 0, 255)]), 3, 4294967295, 4, by decide +kernel⟩,
   ⟨(wSt [(.sys .dieReleased, 0, 0, 255)]), 2, 1000, 3, by decide +kernel⟩,
   ⟨(wSt [(.sys .dieReleased, 0, 0, 255)]), 4, 0, 256, by decide +kernel⟩,
   ⟨{ (wSt [(.sys .dieReleased, 0, 0, 255)]) with
        clsTab := [⟨5, 0, 0, 0, 14, false, false, 0, 7⟩] }, 5, 14, 1000, by decide +kernel⟩,
   ⟨{ (wSt [(.sys .dieReleased, 0, 0, 255)]) with
        clsTab := [⟨7, 0, 0, 0, 3, false, false, 0, 7⟩] }, 7, 3, 0, by decide +kernel⟩,
   ⟨(wSt [(.qs .qDrain, 6, 2, 1), (.sys .dieReleased, 0, 0, 255)]), 6, 2, by decide +kernel⟩,
   ⟨(wSt [(.qs .cDrain, 7, 2, 1), (.sys .dieReleased, 0, 0, 255)]), 7, 2, by decide +kernel⟩⟩

theorem witness_ClassificationAndScheduling_SchedulerAndGates :
    (∃ (s : State) (d : Nat) (i : Nat) (q : Nat), s.up d = true ∧ s.canSchedule d i = true ∧ s.ctnQueues d i = [q] ∧
      s.ring d q = [] ∧ s.get (.qs .gapPend) d q ≠ 0) ∧
    (∃ (s : State) (d : Nat) (i : Nat) (q : Nat) (r : RingRec) (rest : List RingRec), s.up d = true ∧ s.canSchedule d
      i = true ∧ s.ctnQueues d i = [q] ∧ s.ring d q = r :: rest ∧ r.void = false ∧ r.gap = false ∧ r.fin = true ∧
      r.tag = none ∧ r.ptp = none ∧ s.gatesOn d = false ∧ s.shpEn d i = false) ∧
    (∃ (s : State) (d : Nat) (w : Nat), s.up d = true ∧ w < 6 ∧ s.qsCheck w d = true) ∧
    (∃ (s : State) (d : Nat) (w : Nat), s.up d = true ∧ w < 6 ∧ s.qsCheck w d = false) ∧
    (∃ (s : State) (d : Nat) (w : Nat), s.up d = true ∧ w < 6 ∧ s.winBusy (qsWin w) d = true) ∧
    (∃ (s : State) (d : Nat), s.up d = true ∧ s.gateListOk d = true) ∧
    (∃ (s : State) (d : Nat), s.up d = true ∧ s.gateListOk d = false) ∧
    (∃ (s : State) (d : Nat), s.up d = true ∧ s.flag (.qs .gatePending) d 0 = true) :=
  ⟨⟨(wSt [(.qs .gapPend, 7, 2, 1), (.sys .dieReleased, 0, 0, 255), (.win .ctTsmap, 7, 0, 1073745408), (.win .ctCtn, 7,
      0, 1), (.win .qsQ, 7, 32, 2281705472), (.win .qsCtn, 7, 0, 2147483648)]), 7, 0, 2, by decide +kernel⟩,
   ⟨{ (wSt [(.sys .dieReleased, 0, 0, 255), (.win .ctTsmap, 5, 0, 1073744384), (.win .ctCtn, 5, 0, 1), (.win .qsQ, 5,
      16, 2281705472), (.win .qsCtn, 5, 0, 2147483648)]) with
        rings := [⟨5, 1, false, 2, 2265, 752, 3, 256, true, false, true, false, false, 1, 0, none, 32, none⟩] }, 5, 0,
      1, ⟨5, 1, false, 2, 2265, 752, 3, 256, true, false, true, false, false, 1, 0, none, 32, none⟩, [],
      by decide +kernel⟩,
   ⟨(wSt [(.sys .dieReleased, 0, 0, 255)]), 7, 2, by decide +kernel⟩,
   ⟨(wSt [(.sys .dieReleased, 0, 0, 255), (.winDirty .qsGate, 1, 17, 1), (.winNew .qsGate, 1, 17, 5)]), 1, 5,
      by decide +kernel⟩,
   ⟨(wSt [(.sys .dieReleased, 0, 0, 255), (.sys .winBusy, 2, 9, 1)]), 2, 2, by decide +kernel⟩,
   ⟨(wSt [(.sys .dieReleased, 0, 0, 255), (.win .qsGate, 5, 1, 100)]), 5, by decide +kernel⟩,
   ⟨(wSt [(.sys .dieReleased, 0, 0, 255)]), 7, by decide +kernel⟩,
   ⟨(wSt [(.qs .gatePending, 6, 0, 1), (.sys .dieReleased, 0, 0, 255)]), 6, by decide +kernel⟩⟩

theorem witness_PortReads_HostReads :
    (∃ (s : State) (words : Nat), s.hostBus = true ∧ 32 < words) ∧
    (∃ (s : State) (addr : Nat), s.hostBus = true ∧ mboxRange addr = true) ∧
    (∃ (s : State) (addr : Nat), s.hostBus = true ∧ mboxRange addr = false ∧ s.hostMayRead addr = false) ∧
    (∃ (s : State) (addr : Nat) (r : Reg) (d : Nat) (i : Nat), s.hostBus = true ∧ mboxRange addr = false ∧
      s.hostMayRead addr = true ∧ s.addrAnswers addr = true ∧ placeAt addr = .reg r d i) ∧
    (∃ (s : State) (addr : Nat), s.hostBus = true ∧ s.bootState ≠ bootRun ∧ bootSet addr = false ∧ mboxRange addr =
      false) ∧
    (∃ (s : State) (addr : Nat), s.released 0 = true ∧ mboxRange (4 * addr) = false ∧ bootSet (4 * addr) = false) ∧
    (∃ (s : State) (addr : Nat) (r : Reg) (d : Nat) (i : Nat), s.released 0 = true ∧ bootSet (4 * addr) = true ∧
      s.addrAnswers (4 * addr) = true ∧ placeAt (4 * addr) = .reg r d i) ∧
    (∃ (s : State) (code : Nat), s.released 0 = true ∧ code ≠ 3) ∧
    (∃ (s : State) (port : APort), s.portOn port = true) ∧
    (∃ (s : State), s.hostBus = true ∧ s.flag (.tkt .rejHeld) 0 0 = false) :=
  ⟨⟨(wSt [(.sys .dieReleased, 0, 0, 255), (.sys .pcieUp, 0, 0, 1)]), 1022, by decide +kernel⟩,
   ⟨(wSt [(.sys .dieReleased, 0, 0, 255), (.sys .pcieUp, 0, 0, 1)]), 99999, by decide +kernel⟩,
   ⟨(wSt [(.sys .dieReleased, 0, 0, 255), (.sys .pcieUp, 0, 0, 1)]), 23552, by decide +kernel⟩,
   ⟨(wSt [(.sys .dieReleased, 0, 0, 255), (.sys .pcieUp, 0, 0, 1)]), 8, ⟨.lead, 8, [], [⟨31, 16, .id .deviceId, .ro,
      false, .any, 0, 0⟩, ⟨15, 0, .id .vendorId, .ro, false, .any, 0, 0⟩]⟩, 0, 0, by decide +kernel⟩,
   ⟨(wSt [(.sys .dieReleased, 0, 0, 255), (.sys .pcieUp, 0, 0, 1)]), (0x3000), by decide +kernel⟩,
   ⟨(wSt [(.sys .dieReleased, 0, 0, 255)]), 136315392, by decide +kernel⟩,
   ⟨(wSt [(.sys .dieReleased, 0, 0, 255)]), 0, ⟨.lead, 0, [], [⟨31, 16, .id .family, .ro, false, .any, 0, 0⟩, ⟨15, 8,
      .id .slots, .ro, false, .any, 0, 0⟩, ⟨7, 4, .id .stepMajor, .ro, false, .any, 0, 0⟩, ⟨3, 0, .id .stepMinor, .ro,
      false, .any, 0, 0⟩]⟩, 0, 0, by decide +kernel⟩,
   ⟨(wSt [(.sys .dieReleased, 0, 0, 255)]), 1, by decide +kernel⟩,
   ⟨(wSt [(.sys .dieReleased, 0, 0, 255), (.sys .pcieUp, 0, 0, 1)]), .pcie, by decide +kernel⟩,
   ⟨(wSt [(.sys .dieReleased, 0, 0, 255), (.sys .pcieUp, 0, 0, 1)]), by decide +kernel⟩⟩

theorem witness_PortReads_LatchingReads :
    (∃ (s : State) (addr : Nat) (d : Nat) (i : Nat) (c : Ctr) (port : APort), s.portOn port = true ∧ port ≠ .pcie ∧
      port ≠ .spi ∧ s.addrAnswers addr = true ∧ placeAt addr = .half c d i false) ∧
    (∃ (s : State) (addr : Nat) (d : Nat) (i : Nat) (c : Ctr) (port : APort), s.portOn port = true ∧ port ≠ .pcie ∧
      port ≠ .spi ∧ s.addrAnswers addr = true ∧ placeAt addr = .half c d i true ∧ s.flag (.sys .snapValid) 0 (portCode
      port) = true ∧ s.get (.sys .snapAddr) 0 (portCode port) = addr - 4) ∧
    (∃ (s : State) (addr : Nat) (d : Nat) (i : Nat) (c : Ctr) (port : APort), s.portOn port = true ∧ port ≠ .pcie ∧
      port ≠ .spi ∧ s.addrAnswers addr = true ∧ placeAt addr = .half c d i true ∧ (s.flag (.sys .snapValid) 0
      (portCode port) = false ∨ s.get (.sys .snapAddr) 0 (portCode port) ≠ addr - 4)) ∧
    (∃ (s : State) (b : Nat) (port : APort), s.portOn port = true ∧ port ≠ .pcie ∧ port ≠ .spi ∧ b < 4 ∧ s.addrAnswers
      (0x8000 + 0x100 * b) = true) ∧
    (∃ (s : State) (d : Nat) (f : Nat) (port : APort), s.portOn port = true ∧ port ≠ .pcie ∧ port ≠ .spi ∧ d < 8 ∧ f <
      4 ∧ s.addrAnswers (0x8200410 + 0x1000 * d + 0x40 * f) = true) ∧
    (∃ (s : State) (k : Nat) (port : APort), s.portOn port = true ∧ port ≠ .pcie ∧ port ≠ .spi ∧ k < 8 ∧ s.addrAnswers
      (0xB100 + 0x20 * k) = true ∧ 1 ≤ s.crcStatus k ∧ s.crcStatus k < 6) ∧
    (∃ (s : State) (k : Nat) (port : APort), s.portOn port = true ∧ port ≠ .pcie ∧ port ≠ .spi ∧ k < 8 ∧ s.addrAnswers
      (0xB100 + 0x20 * k) = true ∧ 6 ≤ s.crcStatus k) :=
  ⟨⟨(wSt [(.sys .dieReleased, 0, 0, 255)]), 268435752, 0, 0, ⟨.die, 296, [(16, 1024)], .hl .nIdleExitFail, .ro, .any⟩,
      .mgmt, by decide +kernel⟩,
   ⟨(wSt [(.sys .dieReleased, 0, 0, 255), (.sys .snapAddr, 0, 2, 37136), (.sys .snapValid, 0, 2, 1)]), 37140, 0, 0,
      ⟨.lead, 37136, [], .pwr .nKsLateWake, .ro, .any⟩, .mgmt, by decide +kernel⟩,
   ⟨(wSt [(.sys .dieReleased, 0, 0, 255)]), 32660, 0, 2, ⟨.lead, 32640, [(14, 8)], .clk .nDisq, .ro, .any⟩, .mgmt,
      by decide +kernel⟩,
   ⟨(wSt [(.sys .dieReleased, 0, 0, 255)]), 1, .mgmt, by decide +kernel⟩,
   ⟨(wSt [(.sys .dieReleased, 0, 0, 255)]), 0, 3, .exec, by decide +kernel⟩,
   ⟨(wSt [(.crc .resStatus, 0, 0, 1), (.sys .dieReleased, 0, 0, 255)]), 0, .mgmt, by decide +kernel⟩,
   ⟨(wSt [(.crc .resStatus, 0, 2, 6), (.sys .dieReleased, 0, 0, 255)]), 2, .exec, by decide +kernel⟩⟩

theorem witness_RegisterAccess :
    (∃ (s : State) (mask : Nat), s.hostBus = true ∧ mask ≠ fullMask ∧ s.flag (.tkt .rejHeld) 0 0 = false) ∧
    (∃ (s : State) (addr : Nat) (d : Nat) (i : Nat) (c : Ctr), s.hostBus = true ∧ placeAt addr = .half c d i false ∧
      s.flag (.tkt .rejHeld) 0 0 = false) ∧
    (∃ (s : State) (addr : Nat) (mask : Nat) (value : Nat), s.ticketMayWrite = true ∧ s.ticketFault cmdApplyDelta []
      [.write addr mask value] ≠ none) ∧
    (∃ (s : State) (addr : Nat) (value : Nat) (again : Nat) (d : Nat) (i : Nat) (a : Alm), s.hostBus = true ∧ s.inRun
      = true ∧ s.flag (.boot .policyIn) 0 0 = true ∧ grants s.policy true addr = true ∧ (a, d, i) ∈ clearable addr ∧
      bit value (clearBit (a, d, i)) = true ∧ bit again (clearBit (a, d, i)) = false ∧ ¬ (Cell.sticky a).summary =
      true) ∧
    (∃ (s : State) (addr : Nat) (value : Nat) (again : Nat) (d : Nat) (i : Nat) (a : Alm), s.hostBus = true ∧ s.inRun
      = true ∧ s.flag (.boot .policyIn) 0 0 = true ∧ grants s.policy true addr = true ∧ (a, d, i) ∈ clearable addr ∧
      (bit value (clearBit (a, d, i)) = false ∨ bit again (clearBit (a, d, i)) = true) ∧ ¬ (Cell.sticky a).summary =
      true) ∧
    (∃ (s : State) (addr : Nat), s.hostBus = true ∧ grants s.policy true addr = false ∧ s.flag (.tkt .rejHeld) 0 0 =
      false) ∧
    (∃ (s : State) (addr : Nat) (d : Nat) (w : Win) (p : APort), (p = .mgmt ∨ p = .courier) ∧ s.portOn p = true ∧
      s.addrAnswers addr = true ∧ placeAt addr = .winAddr w d) ∧
    (∃ (s : State) (addr : Nat) (d : Nat) (w : Win) (p : APort), (p = .mgmt ∨ p = .courier) ∧ s.portOn p = true ∧
      s.addrAnswers addr = true ∧ placeAt addr = .winData w d) :=
  ⟨⟨(wSt [(.sys .dieReleased, 0, 0, 255), (.sys .pcieUp, 0, 0, 1)]), 2, by decide +kernel⟩,
   ⟨(wSt [(.sys .dieReleased, 0, 0, 255), (.sys .pcieUp, 0, 0, 1)]), 8448, 0, 0, ⟨.lead, 8448, [], .tkt .nAccepted,
      .ro, .any⟩, by decide +kernel⟩,
   ⟨(wSt [(.boot .state, 0, 0, 5)]), 23284, 3, 4294967295, by decide +kernel⟩,
   ⟨{ (wSt [(.boot .state, 0, 0, 5), (.boot .policyIn, 0, 0, 1), (.sys .dieReleased, 0, 0, 255), (.sys .pcieUp, 0, 0,
      1)]) with
        policy := [⟨0, 1073741820, true, true⟩] }, 268435972, 4294967295, 256, 0, 0, .hllNegFail, by decide +kernel⟩,
   ⟨{ (wSt [(.boot .state, 0, 0, 5), (.boot .policyIn, 0, 0, 1), (.sys .dieReleased, 0, 0, 255), (.sys .pcieUp, 0, 0,
      1)]) with
        policy := [⟨0, 1073741820, true, true⟩] }, 32260, 4294967295, 4095, 0, 0, .clkXoSuspect, by decide +kernel⟩,
   ⟨(wSt [(.sys .dieReleased, 0, 0, 255), (.sys .pcieUp, 0, 0, 1)]), 51400, by decide +kernel⟩,
   ⟨(wSt [(.sys .dieReleased, 0, 0, 255)]), 20512, 0, .sbgSpan, .courier, by decide +kernel⟩,
   ⟨(wSt [(.sys .dieReleased, 0, 0, 255)]), 274726964, 0, .panRepair, .mgmt, by decide +kernel⟩⟩

theorem witness_ReceiverAcquisition :
    (∃ (s : State) (d : Nat), s.up d = true ∧ s.flag (.lr .rxEn) d 0 = false) ∧
    (∃ (s : State) (d : Nat), s.up d = true ∧ s.called 9 = true ∧ s.procArg 9 0 = d) ∧
    (∃ (s : State) (d : Nat), s.up d = true ∧ s.flag (.lr .rxEn) d 0 = true) ∧
    (∃ (s : State) (d : Nat), s.up d = true ∧ s.rxState d = rxPrereq ∧ s.lasReady d = true ∧ s.flag (.cal .convValid)
      d 0 = true) ∧
    (∃ (s : State) (d : Nat) (m : AcqMeas), s.up d = true ∧ s.rxState d = rxSignal ∧ s.getI (.lr .losThresh) d 0 + 10
      < m.power) ∧
    (∃ (s : State) (d : Nat) (m : AcqMeas), s.up d = true ∧ s.rxState d = rxCd ∧ (s.cdWindow d).1 ≤ m.cd ∧ m.cd ≤
      (s.cdWindow d).2) ∧
    (∃ (s : State) (d : Nat) (m : AcqMeas), s.up d = true ∧ s.rxState d = rxFreq ∧ m.freq.natAbs ≤ 3500) ∧
    (∃ (s : State) (d : Nat), s.up d = true ∧ 5 ≤ s.rxState d ∧ s.rxState d ≤ 8) ∧
    (∃ (s : State) (d : Nat) (m : AcqMeas), s.up d = true ∧ s.rxState d = rxVerify ∧ s.get (.lr .ngmiMin) d 0 ≤
      m.ngmi) ∧
    (∃ (s : State) (d : Nat), s.up d = true ∧ s.acquiring d = true ∧ s.get (.lr .acqRetryLeft) d 0 ≠ 0) ∧
    (∃ (s : State) (d : Nat), s.up d = true ∧ s.acquiring d = true ∧ s.get (.lr .acqRetryLeft) d 0 = 0) ∧
    (∃ (s : State) (d : Nat), s.up d = true ∧ s.flag (.lr .rxEn) d 0 = true ∧ s.rxState d = rxFailedWait) :=
  ⟨⟨(wSt [(.sys .dieReleased, 0, 0, 255)]), 7, by decide +kernel⟩,
   ⟨(wSt [(.boot .procCalled, 0, 9, 1), (.boot .procArgW, 0, 144, 1), (.sys .dieReleased, 0, 0, 255)]), 1,
      by decide +kernel⟩,
   ⟨(wSt [(.lr .rxEn, 1, 0, 1), (.sys .dieReleased, 0, 0, 255)]), 1, by decide +kernel⟩,
   ⟨(wSt [(.las .state, 5, 0, 3), (.lr .rxState, 5, 0, 1), (.cal .convValid, 5, 0, 1), (.sys .dieReleased, 0, 0,
      255)]), 5, by decide +kernel⟩,
   ⟨(wSt [(.lr .rxState, 7, 0, 2), (.sys .dieReleased, 0, 0, 255)]), 7, ⟨0, 3, 4095, 0, true, 5⟩, by decide +kernel⟩,
   ⟨(wSt [(.lr .rxState, 5, 0, 3), (.sys .dieReleased, 0, 0, 255)]), 5, ⟨4095, 2, -128, -3, false, 4294967295⟩,
      by decide +kernel⟩,
   ⟨(wSt [(.lr .rxState, 4, 0, 4), (.sys .dieReleased, 0, 0, 255)]), 4, ⟨-3, 2, 3, -1, true, 1⟩, by decide +kernel⟩,
   ⟨(wSt [(.lr .rxState, 7, 0, 7), (.sys .dieReleased, 0, 0, 255)]), 7, by decide +kernel⟩,
   ⟨(wSt [(.lr .rxState, 7, 0, 9), (.sys .dieReleased, 0, 0, 255)]), 7, ⟨-1, 0, -3, 0, false, 65535⟩,
      by decide +kernel⟩,
   ⟨(wSt [(.lr .acqRetryLeft, 5, 0, 1), (.lr .rxState, 5, 0, 2), (.sys .dieReleased, 0, 0, 255)]), 5,
      by decide +kernel⟩,
   ⟨(wSt [(.lr .rxState, 6, 0, 1), (.sys .dieReleased, 0, 0, 255)]), 6, by decide +kernel⟩,
   ⟨(wSt [(.lr .rxEn, 4, 0, 1), (.lr .rxState, 4, 0, 12), (.sys .dieReleased, 0, 0, 255)]), 4, by decide +kernel⟩⟩

theorem witness_ReceiverTracking :
    (∃ (s : State) (d : Nat) (power : Int), s.up d = true ∧ s.flag (.lr .rxEn) d 0 = true ∧ power < s.getI (.lr
      .losThresh) d 0) ∧
    (∃ (s : State) (d : Nat) (power : Int), s.up d = true ∧ s.flag (.lr .rxEn) d 0 = true ∧ s.getI (.lr .losThresh) d
      0 + 10 < power) ∧
    (∃ (s : State) (d : Nat), s.up d = true ∧ s.rxState d = rxHold) ∧
    (∃ (s : State) (d : Nat), s.up d = true ∧ s.flag (.lr .rxEn) d 0 = true ∧ s.lasReady d = false) ∧
    (∃ (s : State) (d : Nat), s.up d = true ∧ s.rxState d = rxLocked) ∧
    (∃ (s : State) (d : Nat), s.up d = true ∧ s.rxState d = rxLocked) ∧
    (∃ (s : State) (d : Nat), s.up d = true ∧ s.rxState d = rxLocked) ∧
    (∃ (s : State) (d : Nat), s.up d = true ∧ 8 ≤ s.rxState d ∧ s.rxState d ≤ 10) ∧
    (∃ (s : State) (d : Nat), s.up d = true ∧ s.flag (.lr .rxEn) d 0 = true) ∧
    (∃ (s : State) (d : Nat), s.up d = true ∧ s.flag (.lr .rxEn) d 0 = true) ∧
    (∃ (s : State) (d : Nat), s.up d = true ∧ s.flag (.lr .rxEn) d 0 = true) ∧
    (∃ (s : State) (d : Nat), s.up d = true ∧ s.flag (.lr .rxEn) d 0 = true) ∧
    (∃ (s : State) (d : Nat) (cd : Int), s.up d = true ∧ s.rxState d = rxLocked ∧ 100 < (cd - s.getI (.lr .cdFilter) d
      0).natAbs) :=
  ⟨⟨(wSt [(.lr .rxEn, 7, 0, 1), (.sys .dieReleased, 0, 0, 255)]), 7, (-4095), by decide +kernel⟩,
   ⟨(wSt [(.lr .rxEn, 3, 0, 1), (.sys .dieReleased, 0, 0, 255)]), 3, (-1), by decide +kernel⟩,
   ⟨(wSt [(.lr .rxState, 2, 0, 11), (.sys .dieReleased, 0, 0, 255)]), 2, by decide +kernel⟩,
   ⟨(wSt [(.lr .rxEn, 4, 0, 1), (.sys .dieReleased, 0, 0, 255)]), 4, by decide +kernel⟩,
   ⟨(wSt [(.lr .rxState, 4, 0, 10), (.sys .dieReleased, 0, 0, 255)]), 4, by decide +kernel⟩,
   ⟨(wSt [(.lr .rxState, 5, 0, 10), (.sys .dieReleased, 0, 0, 255)]), 5, by decide +kernel⟩,
   ⟨(wSt [(.lr .rxState, 6, 0, 10), (.sys .dieReleased, 0, 0, 255)]), 6, by decide +kernel⟩,
   ⟨(wSt [(.lr .rxState, 2, 0, 10), (.sys .dieReleased, 0, 0, 255)]), 2, by decide +kernel⟩,
   ⟨(wSt [(.lr .rxEn, 0, 0, 1), (.sys .dieReleased, 0, 0, 255)]), 0, by decide +kernel⟩,
   ⟨(wSt [(.lr .rxEn, 3, 0, 1), (.sys .dieReleased, 0, 0, 255)]), 3, by decide +kernel⟩,
   ⟨(wSt [(.lr .rxEn, 3, 0, 1), (.sys .dieReleased, 0, 0, 255)]), 3, by decide +kernel⟩,
   ⟨(wSt [(.lr .rxEn, 1, 0, 1), (.sys .dieReleased, 0, 0, 255)]), 1, by decide +kernel⟩,
   ⟨(wSt [(.lr .rxState, 4, 0, 10), (.sys .dieReleased, 0, 0, 255)]), 4, (-65535), by decide +kernel⟩⟩

theorem witness_KeyChannel :
    (∃ (s : State) (h : KchHead) (idx : Nat) (count : Nat), s.kchUp h.on = true ∧ idx < count ∧ s.kch = []) ∧
    (∃ (s : State) (h : KchHead) (type : Nat), s.kchUp h.on = true ∧ s.kch = [⟨h.on, type, h.sender, h.seq, 2, 1⟩]) ∧
    (∃ (s : State) (h : KchHead) (type : Nat), s.kchUp h.on = true ∧ s.kch = [⟨h.on, type, h.sender, h.seq, 2, 1⟩]) ∧
    (∃ (s : State) (h : KchHead) (k : Nat), s.kchUp h.on = true ∧ s.spanOn h.on = some k ∧ h.sender ≠ s.spanPartner k
      ∧ (s.kchTake h 0x01).isSome = true) ∧
    (∃ (s : State) (h : KchHead) (k : Nat), s.kchUp h.on = true ∧ s.spanOn h.on = some k ∧ h.sender = s.spanPartner k
      ∧ (s.kchTake h 0x01).isSome = true ∧ s.initiates k = false ∧ s.flag (.sbg .rngOk) 0 0 = true) ∧
    (∃ (s : State) (h : KchHead) (k : Nat), s.kchUp h.on = true ∧ s.spanOn h.on = some k ∧ h.sender = s.spanPartner k
      ∧ (s.kchTake h 0x01).isSome = true ∧ s.initiates k = false ∧ s.get (.sbg .spStep) 0 k = 2) ∧
    (∃ (s : State) (h : KchHead) (k : Nat) (p : KchPeer), s.kchUp h.on = true ∧ s.spanOn h.on = some k ∧ h.sender =
      s.spanPartner k ∧ (s.kchTake h 0x02).isSome = true ∧ s.get (.sbg .spStep) 0 k = 1 ∧ s.peerCode k { p with macOk
      := true } = 0) ∧
    (∃ (s : State) (h : KchHead) (k : Nat) (p : KchPeer), s.kchUp h.on = true ∧ s.spanOn h.on = some k ∧ h.sender =
      s.spanPartner k ∧ (s.kchTake h 0x02).isSome = true ∧ s.get (.sbg .spStep) 0 k = 1 ∧ s.peerCode k { p with macOk
      := true } ≠ 0) ∧
    (∃ (s : State) (h : KchHead) (k : Nat) (p : KchPeer), s.kchUp h.on = true ∧ s.spanOn h.on = some k ∧ h.sender =
      s.spanPartner k ∧ (s.kchTake h 0x03).isSome = true ∧ s.get (.sbg .spStep) 0 k = 2 ∧ s.peerCode k p = 0) ∧
    (∃ (s : State) (h : KchHead) (k : Nat), s.kchUp h.on = true ∧ s.spanOn h.on = some k ∧ h.sender = s.spanPartner k
      ∧ (s.kchTake h 0x04).isSome = true ∧ s.get (.sbg .spStep) 0 k = 3) ∧
    (∃ (s : State) (h : KchHead) (k : Nat), s.kchUp h.on = true ∧ s.spanOn h.on = some k ∧ h.sender = s.spanPartner k
      ∧ (s.kchTake h 0x04).isSome = true ∧ s.get (.sbg .spStep) 0 k = 3) ∧
    (∃ (s : State) (h : KchHead) (k : Nat), s.kchUp h.on = true ∧ s.spanOn h.on = some k ∧ h.sender = s.spanPartner k
      ∧ (s.kchTake h 0x20).isSome = true ∧ h.tagOk = true ∧ s.get (.sbg .spSeqRx) 0 k < h.seq ∧ s.get (.sbg .spStep) 0
      k ≠ 0) ∧
    (∃ (s : State) (h : KchHead) (k : Nat), s.kchUp h.on = true ∧ s.spanOn h.on = some k ∧ h.sender = s.spanPartner k
      ∧ (s.kchTake h 0x20).isSome = true ∧ h.tagOk = false) :=
  ⟨⟨(wSt [(.ct .framerEn, 0, 0, 1), (.ct .inFrame, 0, 0, 1), (.sys .dieReleased, 0, 0, 255)]), ⟨0, 0, 8, true⟩, 0, 2,
      by decide +kernel⟩,
   ⟨{ (wSt [(.ct .framerEn, 0, 0, 1), (.ct .inFrame, 0, 0, 1), (.sys .dieReleased, 0, 0, 255)]) with
        kch := [⟨0, 5, 0, 5, 2, 1⟩] }, ⟨0, 0, 5, false⟩, 5, by decide +kernel⟩,
   ⟨{ (wSt [(.ct .framerEn, 0, 0, 1), (.ct .inFrame, 0, 0, 1), (.sys .dieReleased, 0, 0, 255)]) with
        kch := [⟨0, 2, 0, 1, 2, 1⟩] }, ⟨0, 0, 1, true⟩, 2, by decide +kernel⟩,
   ⟨{ (wSt [(.ct .framerEn, 1, 0, 1), (.ct .inFrame, 1, 0, 1), (.sys .dieReleased, 0, 0, 255), (.win .sbgSpan, 0, 0,
      131075)]) with
        kch := [⟨1, 1, 2, 8, 1, 1⟩] }, ⟨1, 2, 8, true⟩, 0, by decide +kernel⟩,
   ⟨{ (wSt [(.tkt .nodeId, 0, 0, 4095), (.ct .framerEn, 0, 0, 1), (.ct .inFrame, 0, 0, 1), (.sbg .rngOk, 0, 0, 1),
      (.sys .dieReleased, 0, 0, 255), (.win .sbgSpan, 0, 16, 65537)]) with
        kch := [⟨0, 1, 1, 6, 1, 1⟩] }, ⟨0, 1, 6, true⟩, 1, by decide +kernel⟩,
   ⟨{ (wSt [(.tkt .nodeId, 0, 0, 4095), (.ct .framerEn, 1, 0, 1), (.ct .inFrame, 1, 0, 1), (.sbg .spStep, 0, 5, 2),
      (.sys .dieReleased, 0, 0, 255), (.win .sbgSpan, 0, 80, 131073)]) with
        kch := [⟨1, 1, 1, 1, 1, 1⟩] }, ⟨1, 1, 1, true⟩, 5, by decide +kernel⟩,
   ⟨{ (wSt [(.ct .framerEn, 1, 0, 1), (.ct .inFrame, 1, 0, 1), (.sbg .spStep, 0, 1, 1), (.sys .dieReleased, 0, 0,
      255), (.win .sbgSpan, 0, 16, 131074)]) with
        trust := [4098],
        kch := [⟨1, 2, 2, 4, 1, 1⟩] }, ⟨1, 2, 4, true⟩, 1, ⟨true, true, true, true, 2⟩, by decide +kernel⟩,
   ⟨{ (wSt [(.ct .framerEn, 1, 0, 1), (.ct .inFrame, 1, 0, 1), (.sbg .spStep, 0, 2, 1), (.sys .dieReleased, 0, 0,
      255), (.win .sbgSpan, 0, 32, 131073)]) with
        kch := [⟨1, 2, 1, 5, 1, 1⟩] }, ⟨1, 1, 5, true⟩, 2, ⟨true, false, false, true, 1⟩, by decide +kernel⟩,
   ⟨{ (wSt [(.ct .framerEn, 1, 0, 1), (.ct .inFrame, 1, 0, 1), (.sbg .spStep, 0, 0, 2), (.sys .dieReleased, 0, 0,
      255), (.win .sbgSpan, 0, 0, 131074)]) with
        trust := [4098],
        kch := [⟨1, 3, 2, 7, 1, 1⟩] }, ⟨1, 2, 7, true⟩, 0, ⟨true, true, true, true, 2⟩, by decide +kernel⟩,
   ⟨{ (wSt [(.ct .framerEn, 1, 0, 1), (.ct .inFrame, 1, 0, 1), (.sbg .spStep, 0, 6, 3), (.sys .dieReleased, 0, 0,
      255), (.win .sbgSpan, 0, 96, 131073)]) with
        kch := [⟨1, 4, 1, 3, 1, 1⟩] }, ⟨1, 1, 3, false⟩, 6, by decide +kernel⟩,
   ⟨{ (wSt [(.ct .framerEn, 0, 0, 1), (.ct .inFrame, 0, 0, 1), (.sbg .spStep, 0, 3, 3), (.sys .dieReleased, 0, 0,
      255), (.win .sbgSpan, 0, 48, 65536)]) with
        kch := [⟨0, 4, 0, 1, 1, 1⟩] }, ⟨0, 0, 1, true⟩, 3, by decide +kernel⟩,
   ⟨{ (wSt [(.ct .framerEn, 1, 0, 1), (.ct .inFrame, 1, 0, 1), (.sbg .spStep, 0, 1, 1), (.sys .dieReleased, 0, 0,
      255), (.win .sbgSpan, 0, 16, 131074)]) with
        kch := [⟨1, 32, 2, 1, 1, 1⟩] }, ⟨1, 2, 1, true⟩, 1, by decide +kernel⟩,
   ⟨{ (wSt [(.ct .framerEn, 1, 0, 1), (.ct .inFrame, 1, 0, 1), (.sys .dieReleased, 0, 0, 255), (.win .sbgSpan, 0, 32,
      131072)]) with
        kch := [⟨1, 32, 0, 2, 1, 1⟩] }, ⟨1, 0, 2, false⟩, 2, by decide +kernel⟩⟩

theorem witness_ContainerKeys :
    (∃ (s : State) (h : KchHead) (d : Nat) (i : Nat) (k : Nat) (sms : Nat) (ep : Nat), s.kchUp h.on = true ∧ s.spanOn
      h.on = some k ∧ h.sender = s.spanPartner k ∧ h.tagOk = true ∧ s.get (.sbg .spSeqRx) 0 k < h.seq ∧ d < 8 ∧ i <
      512 ∧ (s.kchTake h 0x10).isSome = true ∧ s.nextReason k sms ⟨512 * d + i, ep⟩ = 0) ∧
    (∃ (s : State) (h : KchHead) (d : Nat) (i : Nat) (k : Nat) (sms : Nat) (ep : Nat), s.kchUp h.on = true ∧ s.spanOn
      h.on = some k ∧ h.sender = s.spanPartner k ∧ h.tagOk = true ∧ s.get (.sbg .spSeqRx) 0 k < h.seq ∧ d < 8 ∧ i <
      512 ∧ (s.kchTake h 0x10).isSome = true ∧ s.nextReason k sms ⟨512 * d + i, ep⟩ ≠ 0) ∧
    (∃ (s : State) (h : KchHead) (d : Nat) (i : Nat) (k : Nat) (ep : Nat), s.kchUp h.on = true ∧ s.spanOn h.on = some
      k ∧ h.sender = s.spanPartner k ∧ h.tagOk = true ∧ s.get (.sbg .spSeqRx) 0 k < h.seq ∧ d < 8 ∧ i < 512 ∧
      (s.kchTake h 0x11).isSome = true ∧ s.get (.cry .txNext) d i = 2 ∧ s.get (.cry .txNextEpoch) d i = ep ∧ s.get
      (.cry .frameCtr) d i < 2 ^ 64 - 1) ∧
    (∃ (s : State) (h : KchHead) (d : Nat) (i : Nat) (k : Nat) (ep : Nat), s.kchUp h.on = true ∧ s.spanOn h.on = some
      k ∧ h.sender = s.spanPartner k ∧ h.tagOk = true ∧ s.get (.sbg .spSeqRx) 0 k < h.seq ∧ d < 8 ∧ i < 512 ∧
      (s.kchTake h 0x12).isSome = true ∧ s.get (.cry .txNext) d i ≠ 0 ∧ s.get (.cry .txNextEpoch) d i = ep) ∧
    (∃ (s : State) (d : Nat) (i : Nat) (k : Nat), s.encOn d i = true ∧ s.spanOf (512 * d + i) = some k ∧ s.flag (.sbg
      .spHas) 0 k = true ∧ s.get (.cry .txNext) d i = 0 ∧ s.get (.cry .txState) d i = cryActive) ∧
    (∃ (s : State) (d : Nat) (i : Nat) (k : Nat), s.encOn d i = true ∧ s.spanOf (512 * d + i) = some k ∧ s.flag (.sbg
      .spHas) 0 k = true ∧ s.get (.cry .txNext) d i = 0 ∧ s.flag (.cry .txRetry) d i = true) ∧
    (∃ (s : State) (d : Nat) (i : Nat) (k : Nat), s.encOn d i = true ∧ s.spanOf (512 * d + i) = some k ∧ s.flag (.sbg
      .spHas) 0 k = true ∧ s.get (.cry .txNext) d i ≠ 0) ∧
    (∃ (s : State) (d : Nat) (i : Nat) (ctr : Nat), s.up d = true ∧ d ≠ 0 ∧ s.flag (.sbg .kwOk) 0 d = true ∧
      s.flitWaits d (.tx i) = true ∧ s.flag (.cry .restore) d (2 * i) = false ∧ s.get (.sbg .wrapCtr) 0 d < ctr) ∧
    (∃ (s : State) (d : Nat) (ctr : Nat), s.up d = true ∧ d ≠ 0 ∧ s.flag (.sbg .kwOk) 0 d = true ∧ s.flitWaits d .xts
      = true ∧ s.get (.sbg .wrapCtr) 0 d < ctr) ∧
    (∃ (s : State) (d : Nat) (i : Nat) (ctr : Nat), s.up d = true ∧ d ≠ 0 ∧ s.flag (.sbg .kwOk) 0 d = true ∧
      s.flitWaits d (.rx i) = true ∧ ctr ≤ s.get (.sbg .wrapCtr) 0 d) ∧
    (∃ (s : State) (d : Nat), s.up d = true ∧ d ≠ 0 ∧ s.flag (.sbg .kwOk) 0 d = false ∧ s.flag (.sbg .rngOk) 0 0 =
      true) :=
  ⟨⟨{ (wSt [(.ct .framerEn, 1, 0, 1), (.ct .inFrame, 1, 0, 1), (.sbg .spHas, 0, 2, 1), (.sys .dieReleased, 0, 0, 255),
      (.win .ctCtn, 4, 0, 1), (.win .cryCtx, 4, 0, 1), (.win .sbgSpan, 0, 32, 131074)]) with
        kch := [⟨1, 16, 2, 6, 1, 1⟩] }, ⟨1, 2, 6, true⟩, 4, 0, 2, 0, 3, by decide +kernel⟩,
   ⟨{ (wSt [(.ct .framerEn, 1, 0, 1), (.ct .inFrame, 1, 0, 1), (.sys .dieReleased, 0, 0, 255), (.win .sbgSpan, 0, 48,
      131073)]) with
        kch := [⟨1, 16, 1, 2, 1, 1⟩] }, ⟨1, 1, 2, true⟩, 3, 0, 3, 255, 8, by decide +kernel⟩,
   ⟨{ (wSt [(.ct .framerEn, 0, 0, 1), (.ct .inFrame, 0, 0, 1), (.cry .txNext, 1, 0, 2), (.cry .txNextEpoch, 1, 0, 2),
      (.sys .dieReleased, 0, 0, 255), (.win .sbgSpan, 0, 48, 65536)]) with
        kch := [⟨0, 17, 0, 6, 1, 1⟩] }, ⟨0, 0, 6, true⟩, 1, 0, 3, 2, by decide +kernel⟩,
   ⟨{ (wSt [(.ct .framerEn, 0, 0, 1), (.ct .inFrame, 0, 0, 1), (.cry .txNext, 1, 1, 1), (.sys .dieReleased, 0, 0,
      255), (.win .sbgSpan, 0, 48, 65537)]) with
        kch := [⟨0, 18, 1, 7, 1, 1⟩] }, ⟨0, 1, 7, true⟩, 1, 1, 3, 0, by decide +kernel⟩,
   ⟨(wSt [(.sbg .spHas, 0, 3, 1), (.cry .txState, 5, 1, 2), (.win .ctTsmap, 5, 0, 1073744385), (.win .cryCtx, 5, 16,
      1), (.win .sbgSpan, 0, 48, 2097229)]), 5, 1, 3, by decide +kernel⟩,
   ⟨(wSt [(.sbg .spHas, 0, 0, 1), (.cry .txRetry, 4, 2, 1), (.win .ctTsmap, 4, 0, 1073743874), (.win .cryCtx, 4, 32,
      1), (.win .sbgSpan, 0, 0, 1048653)]), 4, 2, 0, by decide +kernel⟩,
   ⟨(wSt [(.sbg .spHas, 0, 0, 1), (.cry .txNext, 1, 1, 1), (.win .ctTsmap, 1, 0, 1073742337), (.win .cryCtx, 1, 16,
      1), (.win .sbgSpan, 0, 0, 131149)]), 1, 1, 0, by decide +kernel⟩,
   ⟨(wSt [(.sbg .kwOk, 0, 3, 1), (.cry .txNext, 3, 2, 1), (.sys .dieReleased, 0, 0, 255)]), 3, 2, 65535,
      by decide +kernel⟩,
   ⟨(wSt [(.sbg .kwOk, 0, 5, 1), (.sbg .xtsPend, 0, 5, 1), (.sys .dieReleased, 0, 0, 255)]), 5, 2, by decide +kernel⟩,
   ⟨(wSt [(.sbg .kwOk, 0, 4, 1), (.cry .rxNext, 4, 2, 1), (.sys .dieReleased, 0, 0, 255)]), 4, 2, 0,
      by decide +kernel⟩,
   ⟨(wSt [(.sbg .rngOk, 0, 0, 1), (.sys .dieReleased, 0, 0, 255)]), 2, by decide +kernel⟩⟩

theorem witness_KeyAgreement :
    (∃ (s : State) (k : Nat), s.called 8 = true ∧ s.spanEntry s.kaPartner = some k) ∧
    (∃ (s : State) (k : Nat), s.called 8 = true ∧ s.get (.boot .procId) 0 0 = 8 ∧ s.get (.sbg .kaSpan) 0 0 = k + 1 ∧
      s.kaTolerate = false ∧ s.get (.sbg .spStep) 0 k = 0 ∧ s.flag (.sbg .spHas) 0 k = false) ∧
    (∃ (s : State) (k : Nat), s.called 8 = true ∧ s.get (.boot .procId) 0 0 = 8 ∧ s.get (.sbg .kaSpan) 0 0 = k + 1 ∧
      s.kaTolerate = false ∧ s.get (.sbg .spStep) 0 k ≠ 0) ∧
    (∃ (s : State) (k : Nat), 1 ≤ s.get (.sbg .spStep) 0 k ∧ s.get (.sbg .spStep) 0 k ≤ 3) ∧
    (∃ (s : State) (k : Nat), s.get (.sbg .spStep) 0 k = 0 ∧ s.initiates k = true ∧ s.flag (.sbg .rngOk) 0 0 = true ∧
      s.flag (.sbg .spRetry) 0 k = true) ∧
    (∃ (s : State) (k : Nat), s.get (.sbg .spStep) 0 k = 0 ∧ s.initiates k = true ∧ s.flag (.sbg .rngOk) 0 0 = true ∧
      s.flag (.sbg .spHas) 0 k = true) ∧
    (∃ (s : State), s.released 0 = true) ∧
    (∃ (s : State), s.released 0 = true ∧ s.flag (.sbg .rngOk) 0 0 = false) ∧
    (∃ (s : State), s.released 0 = true ∧ s.flag (.sbg .rngOk) 0 0 = false) :=
  ⟨⟨(wSt [(.boot .procCalled, 0, 8, 1)]), 0, by decide +kernel⟩,
   ⟨(wSt [(.boot .procId, 0, 0, 8), (.boot .procCalled, 0, 8, 1), (.sbg .kaSpan, 0, 0, 4)]), 3, by decide +kernel⟩,
   ⟨(wSt [(.boot .procId, 0, 0, 8), (.boot .procCalled, 0, 8, 1), (.sbg .spStep, 0, 0, 1), (.sbg .kaSpan, 0, 0, 1)]),
      0, by decide +kernel⟩,
   ⟨(wSt [(.sbg .spStep, 0, 1, 1)]), 1, by decide +kernel⟩,
   ⟨(wSt [(.sbg .rngOk, 0, 0, 1), (.sbg .spRetry, 0, 3, 1), (.win .sbgSpan, 0, 48, 5)]), 3, by decide +kernel⟩,
   ⟨(wSt [(.sbg .rngOk, 0, 0, 1), (.sbg .spHas, 0, 0, 1), (.win .sbgSpan, 0, 0, 5)]), 0, by decide +kernel⟩,
   ⟨(wSt [(.sys .dieReleased, 0, 0, 255)]), by decide +kernel⟩,
   ⟨(wSt [(.sys .dieReleased, 0, 0, 255)]), by decide +kernel⟩,
   ⟨(wSt [(.sys .dieReleased, 0, 0, 255)]), by decide +kernel⟩⟩

theorem witness_Seals_SealVerdicts :
    (∃ (s : State) (d : Nat) (i : Nat), s.up d = true ∧ s.encOn d i = true ∧ (s.ctnMode d i = 1 ∨ s.ctnMode d i = 2) ∧
      s.listed (.winDirty .cryCtx) d = [] ∧ s.get (.cry .txState) d i = cryActive ∧ s.get (.cry .frameCtr) d i < 2 ^
      64 - 1 ∧ s.get (.cry .txFrames) d i + 1 < 2 ^ s.get (.cry .rekeyLog2) d 0 ∧ s.get (.cry .txFrames) d i + 1 < 2 ^
      32) ∧
    (∃ (s : State) (d : Nat) (i : Nat), s.up d = true ∧ s.encOn d i = true ∧ (s.ctnMode d i = 1 ∨ s.ctnMode d i = 2) ∧
      s.listed (.winDirty .cryCtx) d = [] ∧ s.get (.cry .txState) d i = cryActive ∧ s.get (.cry .frameCtr) d i < 2 ^
      64 - 1 ∧ s.get (.cry .txFrames) d i + 1 = 2 ^ 32) ∧
    (∃ (s : State) (d : Nat) (i : Nat), s.up d = true ∧ s.encOn d i = true ∧ (s.ctnMode d i = 1 ∨ s.ctnMode d i = 2) ∧
      s.listed (.winDirty .cryCtx) d = [] ∧ (s.get (.cry .txState) d i = cryNokey ∨ s.get (.cry .txState) d i =
      cryHold)) ∧
    (∃ (s : State) (d : Nat) (i : Nat) (f : SealCopy), s.up d = true ∧ s.encOn d i = true ∧ f.protect = false ∧
      s.keyFor d i f.kid = 0) ∧
    (∃ (s : State) (d : Nat) (i : Nat) (f : SealCopy), s.up d = true ∧ s.encOn d i = true ∧ f.protect = false ∧
      s.keyFor d i f.kid ≠ 0 ∧ f.ctr ≤ s.get (.cry .highest) d i) ∧
    (∃ (s : State) (d : Nat) (i : Nat) (f : SealCopy), s.up d = true ∧ s.encOn d i = true ∧ f.protect = false ∧
      s.keyFor d i f.kid ≠ 0 ∧ s.get (.cry .highest) d i < f.ctr ∧ f.tagHere = false) ∧
    (∃ (s : State) (d : Nat) (i : Nat) (f : SealCopy), s.up d = true ∧ s.encOn d i = true ∧ f.protect = false ∧
      s.keyFor d i f.kid ≠ 0 ∧ s.get (.cry .highest) d i < f.ctr ∧ f.tagHere = true ∧ f.tagOk = true) ∧
    (∃ (s : State) (d : Nat) (i : Nat) (f : SealCopy), s.up d = true ∧ s.encOn d i = true ∧ f.protect = false ∧
      s.keyFor d i f.kid ≠ 0 ∧ s.get (.cry .highest) d i < f.ctr ∧ f.tagHere = true ∧ f.tagOk = false) ∧
    (∃ (s : State) (d : Nat) (i : Nat), s.up d = true ∧ s.encOn d i = true ∧ s.flag (.cry .rxOld) d i = true) :=
  ⟨⟨(wSt [(.cry .txState, 7, 0, 2), (.sys .dieReleased, 0, 0, 255), (.win .ctCtn, 7, 0, 2), (.win .cryCtx, 7, 0, 1)]),
      7, 0, by decide +kernel⟩,
   ⟨(wSt [(.cry .txState, 4, 1, 2), (.cry .txFrames, 4, 1, 4294967295), (.sys .dieReleased, 0, 0, 255), (.win .ctCtn,
      4, 16, 2), (.win .cryCtx, 4, 16, 1)]), 4, 1, by decide +kernel⟩,
   ⟨(wSt [(.cry .txState, 1, 0, 4), (.sys .dieReleased, 0, 0, 255), (.win .ctCtn, 1, 0, 2), (.win .cryCtx, 1, 0, 1)]),
      1, 0, by decide +kernel⟩,
   ⟨(wSt [(.sys .dieReleased, 0, 0, 255), (.win .cryCtx, 6, 32, 1)]), 6, 2, ⟨false, 4, 174, false, false, true, 3, 1⟩,
      by decide +kernel⟩,
   ⟨(wSt [(.cry .rxHas, 5, 1, 1), (.cry .rxEpoch, 5, 1, 28), (.sys .dieReleased, 0, 0, 255), (.win .cryCtx, 5, 16,
      1)]), 5, 1, ⟨false, 0, 28, true, true, false, 3, 0⟩, by decide +kernel⟩,
   ⟨(wSt [(.cry .rxHas, 4, 0, 1), (.cry .rxEpoch, 4, 0, 118), (.sys .dieReleased, 0, 0, 255), (.win .cryCtx, 4, 0,
      1)]), 4, 0, ⟨false, 1, 118, false, true, false, 3, 3⟩, by decide +kernel⟩,
   ⟨(wSt [(.cry .rxHas, 7, 0, 1), (.cry .rxEpoch, 7, 0, 54), (.sys .dieReleased, 0, 0, 255), (.win .cryCtx, 7, 0,
      1)]), 7, 0, ⟨false, 3, 54, true, true, true, 127, 1⟩, by decide +kernel⟩,
   ⟨(wSt [(.cry .rxHas, 7, 1, 1), (.cry .rxEpoch, 7, 1, 8), (.sys .dieReleased, 0, 0, 255), (.win .cryCtx, 7, 16,
      1)]), 7, 1, ⟨false, 1, 8, true, false, false, 127, 0⟩, by decide +kernel⟩,
   ⟨(wSt [(.cry .rxOld, 6, 2, 1), (.sys .dieReleased, 0, 0, 255), (.win .cryCtx, 6, 32, 1)]), 6, 2, by decide +kernel⟩⟩

theorem witness_Seals_HostFrameLeaves :
    (∃ (s : State) (d : Nat) (p : Nat) (f : EgressFrame), s.packetUp d p = true ∧ s.mayStart d p f = true ∧ f.ptp =
      none) ∧
    (∃ (s : State) (d : Nat) (p : Nat) (f : EgressFrame) (m : Ptp), s.packetUp d p = true ∧ s.mayStart d p f = true ∧
      f.headIn = true ∧ f.ptp = some m ∧ m.kind = 1 ∧ bit m.mark 31 = true ∧ s.get (.tim .tcMode) 0 0 = 1) :=
  ⟨⟨(wSt [(.hl .mode, 2, 1, 1), (.hl .pState, 2, 1, 3), (.sys .dieReleased, 0, 0, 255)]), 2, 1, ⟨1099511627776, 3, 0,
      255, false, none, false, 3⟩, by decide +kernel⟩,
   ⟨(wSt [(.sys .dieReleased, 0, 0, 255), (.hl .mode, 1, 2, 1), (.hl .pState, 1, 2, 3), (.tim .tcMode, 0, 0, 1)]), 1,
      2, ⟨1, 0, 100, 0, false, some ⟨1, 2147483648, false, false, 0⟩, true, 0⟩, ⟨1, 2147483648, false, false, 0⟩,
      by decide +kernel⟩⟩

theorem witness_Tandem_TandemSelection :
    (∃ (s : State) (d : Nat) (i : Nat), s.isTandem d i = true ∧ s.get (.tdm .holdoff) d 0 = 0 ∧ s.tdmRaw d i = 1 ∧
      s.get (.tdm .loc) d i = 0 ∧ s.tdmFar d i = 0 ∧ s.flag (.tdm .seal) d i = false) ∧
    (∃ (s : State) (d : Nat) (i : Nat), s.isTandem d i = true ∧ s.get (.tdm .loc) d i = reqLo ∧ s.tdmFar d i < reqLo) ∧
    (∃ (s : State) (d : Nat) (i : Nat), s.isTandem d i = true) ∧
    (∃ (s : State) (d : Nat) (i : Nat), s.isTandem d i = true ∧ s.flag (.tdm .wtr) d i = true ∧ s.tdmBase d i < 2 ∧
      s.get (.tdm .revertive) d 0 = 1 ∧ s.tdmBase d i = 0) ∧
    (∃ (s : State) (d : Nat) (i : Nat), s.isTandem d i = true ∧ s.flag (.tdm .seal) d i = true) ∧
    (∃ (s : State) (d : Nat) (i : Nat), s.isTandem d i = true ∧ s.flag (.tdm .bidir) d 0 = true ∧ s.get (.tdm .req) d
      i ≠ 0) :=
  ⟨⟨(wSt [(.tdm .pPresent, 0, 2, 4095), (.sys .dieReleased, 0, 0, 255), (.win .tdmCtn, 0, 32, 1)]), 0, 2,
      by decide +kernel⟩,
   ⟨(wSt [(.tdm .loc, 4, 0, 10), (.sys .dieReleased, 0, 0, 255), (.win .tdmCtn, 4, 0, 1)]), 4, 0, by decide +kernel⟩,
   ⟨(wSt [(.sys .dieReleased, 0, 0, 255), (.win .tdmCtn, 3, 0, 1)]), 3, 0, by decide +kernel⟩,
   ⟨(wSt [(.tdm .wtr, 0, 2, 1), (.sys .dieReleased, 0, 0, 255), (.win .tdmCtn, 0, 32, 1)]), 0, 2, by decide +kernel⟩,
   ⟨(wSt [(.tdm .seal, 0, 0, 1), (.sys .dieReleased, 0, 0, 255), (.win .tdmCtn, 0, 0, 1)]), 0, 0, by decide +kernel⟩,
   ⟨(wSt [(.tdm .req, 1, 1, 1), (.sys .dieReleased, 0, 0, 255), (.win .tdmCtn, 1, 16, 1)]), 1, 1, by decide +kernel⟩⟩

theorem witness_Tandem_TandemDelivery :
    (∃ (s : State) (d : Nat) (i : Nat), s.isTandem d i = true ∧ s.get (.tdm .sel) d i = 0 ∧ s.get (.tdm .early) d i =
      1) ∧
    (∃ (s : State) (d : Nat) (i : Nat), s.isTandem d i = true ∧ s.get (.tdm .sel) d i = 0 ∧ s.get (.tdm .req) d i ≠
      reqLo ∧ s.get (.tdm .req) d i ≠ reqFs ∧ s.get (.tdm .early) d i = 0) ∧
    (∃ (s : State) (d : Nat) (i : Nat), s.isTandem d i = true ∧ 16 ≤ s.get (.tdm .earlyRun) d i) ∧
    (∃ (s : State) (d : Nat) (i : Nat), s.isTandem d i = true ∧ s.pathSf d i = false) ∧
    (∃ (s : State) (d : Nat) (i : Nat), s.isTandem d i = true) :=
  ⟨⟨(wSt [(.tdm .early, 7, 0, 1), (.sys .dieReleased, 0, 0, 255), (.win .tdmCtn, 7, 0, 1)]), 7, 0, by decide +kernel⟩,
   ⟨(wSt [(.sys .dieReleased, 0, 0, 255), (.win .tdmCtn, 3, 0, 1)]), 3, 0, by decide +kernel⟩,
   ⟨(wSt [(.tdm .earlyRun, 1, 0, 256), (.sys .dieReleased, 0, 0, 255), (.win .tdmCtn, 1, 0, 1)]), 1, 0,
      by decide +kernel⟩,
   ⟨(wSt [(.sys .dieReleased, 0, 0, 255), (.win .tdmCtn, 5, 0, 1)]), 5, 0, by decide +kernel⟩,
   ⟨(wSt [(.sys .dieReleased, 0, 0, 255), (.win .tdmCtn, 4, 32, 1)]), 4, 2, by decide +kernel⟩⟩

theorem witness_TimeBasesAndTriggers_TimeBases :
    (∃ (s : State) (b : Nat), s.clkOn = true ∧ b < 4 ∧ s.get (.tim .setNs) 0 b < 1000000000) ∧
    (∃ (s : State) (b : Nat), s.clkOn = true ∧ b < 4 ∧ s.tbSt b = tbFree) ∧
    (∃ (s : State) (b : Nat) (theta : Int), s.clkOn = true ∧ b < 4 ∧ s.tbSt b = tbLocked ∧ s.tbFar b theta = true) ∧
    (∃ (s : State) (b : Nat) (theta : Int), s.clkOn = true ∧ b < 4 ∧ s.tbSt b = tbLocked ∧ s.tbFar b theta = false) ∧
    (∃ (s : State) (b : Nat) (theta : Int), s.clkOn = true ∧ b < 4 ∧ s.tbSt b = tbAcquire ∧ s.tbFar b theta = true ∧
      s.flag (.tim .stepEn) 0 b = true) ∧
    (∃ (s : State) (b : Nat) (theta : Int), s.clkOn = true ∧ b < 4 ∧ s.tbSt b = tbAcquire ∧ s.tbFar b theta = false ∧
      theta.natAbs ≤ s.get (.tim .lockNs) 0 b ∧ s.get (.tim .lockRun) 0 b = 7) ∧
    (∃ (s : State) (b : Nat), s.clkOn = true ∧ b < 4 ∧ s.tbSt b = tbLocked) ∧
    (∃ (s : State) (b : Nat) (i : Nat), s.clkOn = true ∧ b < 4 ∧ i < 2 ∧ s.flag (.clk .refLos) 0 (4 + i) = false ∧
      s.get (.tim .src) 0 b = 2 + i ∧ s.tbSt b = tbLocked ∧ s.tbFar b (ppsTheta (s.get (.tim .tbNs) 0 b) (s.getI (.tim
      .ppsDelay) 0 b)) = false) ∧
    (∃ (s : State) (b : Nat), s.clkOn = true ∧ b < 4 ∧ s.get (.tim .src) 0 b = 4 ∧ s.tbSt b = tbLocked ∧ s.tbFar b
      (s.getI (.tim .hostofs) 0 b) = false) :=
  ⟨⟨(wSt [(.sys .dieReleased, 0, 0, 255)]), 3, by decide +kernel⟩,
   ⟨(wSt [(.sys .dieReleased, 0, 0, 255)]), 0, by decide +kernel⟩,
   ⟨(wSt [(.tim .tbState, 0, 1, 2), (.sys .dieReleased, 0, 0, 255)]), 1, 65535, by decide +kernel⟩,
   ⟨(wSt [(.tim .tbState, 0, 1, 2), (.sys .dieReleased, 0, 0, 255)]), 1, 0, by decide +kernel⟩,
   ⟨(wSt [(.tim .tbState, 0, 1, 1), (.sys .dieReleased, 0, 0, 255)]), 1, 1099511627776, by decide +kernel⟩,
   ⟨(wSt [(.tim .tbState, 0, 2, 1), (.tim .lockRun, 0, 2, 7), (.sys .dieReleased, 0, 0, 255)]), 2, 15,
      by decide +kernel⟩,
   ⟨(wSt [(.tim .tbState, 0, 2, 2), (.sys .dieReleased, 0, 0, 255)]), 2, by decide +kernel⟩,
   ⟨(wSt [(.tim .src, 0, 2, 2), (.tim .tbState, 0, 2, 2), (.sys .dieReleased, 0, 0, 255)]), 2, 0, by decide +kernel⟩,
   ⟨(wSt [(.tim .src, 0, 2, 4), (.tim .tbState, 0, 2, 2), (.sys .dieReleased, 0, 0, 255)]), 2, by decide +kernel⟩⟩

theorem witness_TimeBasesAndTriggers_Triggers :
    (∃ (s : State) (u : Nat), s.clkOn = true ∧ s.trigMayArm u = true ∧ s.get (.tim .trigMode) 0 u = 1 ∧ s.trigNow u <
      s.trigTarget u) ∧
    (∃ (s : State) (u : Nat), s.clkOn = true ∧ s.trigMayArm u = true ∧ s.get (.tim .trigMode) 0 u = 1 ∧ s.trigTarget u
      ≤ s.trigNow u) ∧
    (∃ (s : State) (u : Nat), s.clkOn = true ∧ s.trigMayArm u = false) ∧
    (∃ (s : State), s.clkOn = true) ∧
    (∃ (s : State) (u : Nat), s.clkOn = true ∧ s.trigMet u = true ∧ s.get (.tim .trigMode) 0 u = 1) ∧
    (∃ (s : State) (u : Nat), s.clkOn = true ∧ s.trigMet u = true ∧ s.get (.tim .trigMode) 0 u = 2 ∧ s.trigNow u <
      s.get (.tim .trigTgt) 0 u + s.get (.tim .trigPeriod) 0 u) ∧
    (∃ (s : State) (u : Nat), s.clkOn = true ∧ s.flag (.tim .trigHeld) 0 u = true ∧ s.trigNow u < s.get (.tim
      .trigTgt) 0 u ∧ s.get (.tim .trigTgt) 0 u ≤ s.trigNow u + 500000000000) :=
  ⟨⟨(wSt [(.tim .tbValid, 0, 0, 1), (.tim .trigMode, 0, 1, 1), (.tim .trigTgtSecLo, 0, 1, 909), (.sys .dieReleased, 0,
      0, 255)]), 1, by decide +kernel⟩,
   ⟨(wSt [(.tim .tbValid, 0, 0, 1), (.tim .trigMode, 0, 1, 1), (.sys .dieReleased, 0, 0, 255)]), 1, by decide +kernel⟩,
   ⟨(wSt [(.sys .dieReleased, 0, 0, 255)]), 1, by decide +kernel⟩,
   ⟨(wSt [(.sys .dieReleased, 0, 0, 255)]), by decide +kernel⟩,
   ⟨(wSt [(.tim .trigMode, 0, 2, 1), (.tim .trigArmed, 0, 2, 1), (.sys .dieReleased, 0, 0, 255)]), 2,
      by decide +kernel⟩,
   ⟨(wSt [(.tim .trigMode, 0, 0, 2), (.tim .trigArmed, 0, 0, 1), (.sys .dieReleased, 0, 0, 255)]), 0,
      by decide +kernel⟩,
   ⟨(wSt [(.tim .trigHeld, 0, 0, 1), (.tim .trigTgt, 0, 0, 77), (.sys .dieReleased, 0, 0, 255)]), 0,
      by decide +kernel⟩⟩

theorem witness_TimeMessages :
    (∃ (s : State) (d : Nat) (b : Nat), s.clkOn = true ∧ s.osmcOn d = true ∧ b < 4 ∧ s.osmcKeyed d = true ∧ s.osmcRole
      d b = 1) ∧
    (∃ (s : State) (d : Nat) (b : Nat), s.clkOn = true ∧ s.osmcOn d = true ∧ b < 4 ∧ s.osmcKeyed d = true ∧ s.osmcRole
      d b = 2) ∧
    (∃ (s : State) (d : Nat) (b : Nat) (m : PtpMsg), s.clkOn = true ∧ s.osmcOn d = true ∧ b < 4 ∧ s.osmcFor d m.domain
      2 = some b ∧ osmcPass m (s.get (.tim .ptpSyncSeq) d b) = true) ∧
    (∃ (s : State) (d : Nat) (b : Nat) (m : PtpMsg), s.clkOn = true ∧ s.osmcOn d = true ∧ b < 4 ∧ s.osmcFor d m.domain
      2 = some b ∧ osmcPass m (s.get (.tim .ptpSyncSeq) d b) = false) ∧
    (∃ (s : State) (d : Nat) (b : Nat) (m : PtpMsg), s.clkOn = true ∧ s.osmcOn d = true ∧ b < 4 ∧ s.osmcFor d m.domain
      2 = some b ∧ m.tagOk = true ∧ m.malformed = false ∧ s.get (.tim .ptpSyncSeq) d b = m.seq + 1 ∧ s.flag (.tim
      .ptpHaveSync) d b = false) ∧
    (∃ (s : State) (d : Nat) (b : Nat) (m : PtpMsg), s.clkOn = true ∧ s.osmcOn d = true ∧ b < 4 ∧ s.osmcFor d m.domain
      2 = some b ∧ m.tagOk = true ∧ m.malformed = false ∧ s.get (.tim .ptpReqSeq) d b = m.seq + 1 ∧ s.get (.tim
      .ptpT3) d b ≠ 0) ∧
    (∃ (s : State) (d : Nat) (b : Nat) (m : PtpMsg), s.clkOn = true ∧ s.osmcOn d = true ∧ b < 4 ∧ s.osmcFor d m.domain
      1 = some b ∧ osmcPass m (s.get (.tim .ptpReqRxSeq) d b) = true) ∧
    (∃ (s : State) (d : Nat) (b : Nat) (m : PtpMsg), s.clkOn = true ∧ s.osmcOn d = true ∧ b < 4 ∧ s.osmcFor d m.domain
      1 = none ∧ s.osmcFor d m.domain 2 = none) ∧
    (∃ (s : State) (d : Nat) (b : Nat) (m : PtpMsg), s.clkOn = true ∧ s.osmcOn d = true ∧ b < 4 ∧ s.osmcFor d m.domain
      1 = none ∧ s.osmcFor d m.domain 2 = none) ∧
    (∃ (s : State) (d : Nat) (b : Nat), s.clkOn = true ∧ s.osmcOn d = true ∧ b < 4) ∧
    (∃ (s : State) (d : Nat) (b : Nat), s.clkOn = true ∧ s.osmcOn d = true ∧ b < 4) :=
  ⟨⟨(wSt [(.sbg .spHas, 0, 0, 1), (.sys .dieReleased, 0, 0, 255), (.win .sbgSpan, 0, 0, 8388608), (.win .timLink, 0,
      112, 257)]), 7, 0, by decide +kernel⟩,
   ⟨(wSt [(.sbg .spHas, 0, 0, 1), (.sys .dieReleased, 0, 0, 255), (.win .sbgSpan, 0, 0, 131072), (.win .timLink, 0,
      16, 2049)]), 1, 1, by decide +kernel⟩,
   ⟨(wSt [(.sys .dieReleased, 0, 0, 255), (.win .timLink, 0, 0, 33587201)]), 0, 3, ⟨5, 4, true, false⟩,
      by decide +kernel⟩,
   ⟨(wSt [(.sys .dieReleased, 0, 0, 255), (.win .timLink, 0, 64, 33587201)]), 4, 3, ⟨5, 1, false, false⟩,
      by decide +kernel⟩,
   ⟨(wSt [(.tim .ptpSyncSeq, 3, 3, 2), (.sys .dieReleased, 0, 0, 255), (.win .timLink, 0, 48, 32769)]), 3, 3, ⟨3, 1,
      true, false⟩, by decide +kernel⟩,
   ⟨(wSt [(.tim .ptpReqSeq, 5, 1, 2), (.tim .ptpT3, 5, 1, 1), (.sys .dieReleased, 0, 0, 255), (.win .timLink, 0, 80,
      33556481)]), 5, 1, ⟨3, 1, true, false⟩, by decide +kernel⟩,
   ⟨(wSt [(.sys .dieReleased, 0, 0, 255), (.win .timLink, 0, 0, 50332673)]), 0, 1, ⟨4, 3, true, false⟩,
      by decide +kernel⟩,
   ⟨(wSt [(.sys .dieReleased, 0, 0, 255), (.win .timLink, 0, 96, 1)]), 6, 2, ⟨1, 2, true, false⟩, by decide +kernel⟩,
   ⟨(wSt [(.sys .dieReleased, 0, 0, 255), (.win .timLink, 0, 64, 513)]), 4, 2, ⟨2, 2, true, false⟩, by decide +kernel⟩,
   ⟨(wSt [(.sys .dieReleased, 0, 0, 255), (.win .timLink, 0, 80, 513)]), 5, 0, by decide +kernel⟩,
   ⟨(wSt [(.sys .dieReleased, 0, 0, 255), (.win .timLink, 0, 64, 257)]), 4, 0, by decide +kernel⟩⟩

theorem witness_TicketSubmission :
    (∃ (s : State), s.flag (.tkt .jErasing) 0 0 = true) ∧
    (∃ (s : State), s.hostBus = true ∧ s.flag (.tkt .mboxBusy) 0 0 = false ∧ s.inRun = true) ∧
    (∃ (s : State), s.hostBus = true ∧ s.flag (.tkt .mboxBusy) 0 0 = true ∧ s.flag (.tkt .rejHeld) 0 0 = false) ∧
    (∃ (s : State), s.hostBus = true ∧ s.flag (.tkt .mboxBusy) 0 0 = false ∧ s.takesTicket = false) ∧
    (∃ (s : State) (value : Nat), s.hostBus = true ∧ s.get (.tkt .ringSize) 0 0 ≠ 0 ∧ s.inRun = true ∧ s.tailOk (value
      % 2 ^ 32) = true ∧ (value % 2 ^ 32 + 2 ^ 32 - s.get (.tkt .ringTail) 0 0) % 2 ^ 32 ≤ 65536) ∧
    (∃ (s : State) (value : Nat), s.hostBus = true ∧ (s.get (.tkt .ringSize) 0 0 = 0 ∨ s.inRun = false ∨ s.tailOk
      (value % 2 ^ 32) = false)) ∧
    (∃ (s : State) (entryLen : Nat), s.fetchTurn = true ∧ ticketLenOk entryLen = true ∧ s.flag (.crr .chEn) 0 4 = true
      ∧ s.flag (.sys .pcieUp) 0 0 = true ∧ s.flag (.sys .busMaster) 0 0 = true ∧ s.get (.tkt .fetched) 0 0 = 0) ∧
    (∃ (s : State) (entryLen : Nat), s.fetchTurn = true ∧ ticketLenOk entryLen = false) ∧
    (∃ (s : State) (entryLen : Nat), s.fetchTurn = true ∧ ticketLenOk entryLen = true) ∧
    (∃ (s : State) (n : Nat), s.run = some ⟨false, [], n, .us, 0, []⟩) ∧
    (∃ (s : State) (n : Nat) (args : List Nat), s.run = some ⟨true, [], n, .us, cmdApplyDelta, args⟩) ∧
    (∃ (s : State) (n : Nat) (x : Nat) (m : Nat) (v : Nat), s.run = some ⟨false, [], n, .poll x m v, 0, []⟩ ∧
      s.pollMatches x m v = true) ∧
    (∃ (s : State) (n : Nat) (x : Nat) (m : Nat) (v : Nat), s.run = some ⟨false, [], n, .poll x m v, 0, []⟩ ∧
      s.pollMatches x m v = false ∧ s.bootState = bootPhases) ∧
    (∃ (s : State) (n : Nat) (c : Nat) (x : Nat) (m : Nat) (v : Nat) (args : List Nat) (l : List Rec), s.run = some
      ⟨true, l, n, .poll x m v, c, args⟩ ∧ s.pollMatches x m v = false) ∧
    (∃ (s : State) (n : Nat) (c : Nat) (x : Nat) (m : Nat) (v : Nat) (b : Bool) (args : List Nat) (l : List Rec),
      s.run = some ⟨true, l, n, (if b then .us else .poll x m v), c, args⟩) :=
  ⟨⟨(wSt [(.tkt .jErasing, 0, 0, 1)]), by decide +kernel⟩,
   ⟨(wSt [(.boot .state, 0, 0, 5), (.sys .dieReleased, 0, 0, 255), (.sys .pcieUp, 0, 0, 1)]), by decide +kernel⟩,
   ⟨(wSt [(.tkt .mboxBusy, 0, 0, 1), (.sys .dieReleased, 0, 0, 255), (.sys .pcieUp, 0, 0, 1)]), by decide +kernel⟩,
   ⟨(wSt [(.sys .dieReleased, 0, 0, 255), (.sys .pcieUp, 0, 0, 1)]), by decide +kernel⟩,
   ⟨(wSt [(.boot .state, 0, 0, 5), (.tkt .ringSize, 0, 0, 1), (.sys .dieReleased, 0, 0, 255), (.sys .pcieUp, 0, 0,
      1)]), 2, by decide +kernel⟩,
   ⟨(wSt [(.sys .dieReleased, 0, 0, 255), (.sys .pcieUp, 0, 0, 1)]), 8, by decide +kernel⟩,
   ⟨{ (wSt [(.sys .dieReleased, 0, 0, 255), (.sys .pcieUp, 0, 0, 1), (.boot .state, 0, 0, 5), (.sys .busMaster, 0, 0,
      1), (.crr .chEn, 0, 4, 1)]) with
        tickets := [.ring 0] }, 4756, by decide +kernel⟩,
   ⟨{ (wSt [(.boot .state, 0, 0, 5)]) with
        tickets := [.ring 5, .ring 6] }, 3, by decide +kernel⟩,
   ⟨{ (wSt [(.sys .dieReleased, 0, 0, 255), (.sys .pcieUp, 0, 0, 1), (.boot .state, 0, 0, 5), (.sys .busMaster, 0, 0,
      1), (.crr .chEn, 0, 4, 1)]) with
        tickets := [.ring 0] }, 65536, by decide +kernel⟩,
   ⟨{ (wSt []) with
        run := some ⟨false, [], 2, .us, 0, []⟩ }, 2, by decide +kernel⟩,
   ⟨{ (wSt []) with
        run := some ⟨true, [], 1, .us, 10, [127, 64, 4095]⟩ }, 1, [127, 64, 4095], by decide +kernel⟩,
   ⟨{ (wSt []) with
        run := some ⟨false, [], 14, .poll 2 100 0, 0, []⟩ }, 14, 2, 100, 0, by decide +kernel⟩,
   ⟨{ (wSt [(.boot .state, 0, 0, 4)]) with
        run := some ⟨false, [], 2, .poll 0 1 1, 0, []⟩ }, 2, 0, 1, 1, by decide +kernel⟩,
   ⟨{ (wSt []) with
        run := some ⟨true, [.waitUs 4095, .bad, .pollUntil 0 1 100 1048576], 1048576, .poll 1 4 1000, 2, [1, 0]⟩ },
      1048576, 2, 1, 4, 1000, [1, 0], [.waitUs 4095, .bad, .pollUntil 0 1 100 1048576], by decide +kernel⟩,
   ⟨{ (wSt []) with
        run := some ⟨true, [.pollUntil 1022 4095 1 0, .waitUs 255, .bad], 4095, .us, 1, []⟩ }, 4095, 1, 1, 1, 4095,
      true, [], [.pollUntil 1022 4095 1 0, .waitUs 255, .bad], by decide +kernel⟩⟩

end Sys2Proof.Tests
end

section
/-!
The choice of the image at start-up (R42, R45): what a failed start-up and an accepted image leave in `BOOT_STATUS`, what
trying the candidates in turn comes to, and the rule of R42 on an image that was built for another part.
-/
namespace Sys2Proof.Machine

variable {s : State} {c : Cell} {d i : Nat}

-- Operations over a list and under a condition keep a cell that each single application keeps.

theorem State.get_each {α : Type} {l : List α} {f : State → α → State} (hf : ∀ x a, (f x a).get c d i = x.get c d i) :
    (s.each l f).get c d i = s.get c d i := by
  induction l generalizing s with
  | nil => rfl
  | cons a l ih => rw [State.each_cons, ih, hf]

theorem State.get_when {b : Bool} {f : State → State} (hf : ∀ x, (f x).get c d i = x.get c d i) :
    (s.when b f).get c d i = s.get c d i := by
  cases b with
  | false => rfl
  | true => exact hf s

-- A start-up that fails (R58).

/-- Going dark leaves the latched error. -/
theorem State.goDark_errCode : s.goDark.get (.boot .errCode) 0 0 = s.get (.boot .errCode) 0 0 := by
  have hr : Reach (fun k => decide (k.cell ≠ .boot .errCode)) (fun _ => true) s s.goDark := by
    apply State.goDark_reach Reach.refl <;> intros <;> rfl
  exact hr.cells ⟨.boot .errCode, 0, 0⟩ (by simp)

/-- A failing start-up leaves the slot that `BOOT_STATUS` shows. -/
theorem State.startFail_slot (code detail die addr : Nat) :
    (s.startFail code detail die addr).get (.boot .slot) 0 0 = s.get (.boot .slot) 0 0 := by
  have hr : Reach (fun k => decide (k.cell ≠ .boot .slot)) (fun _ => true) s (s.startFail code detail die addr) := by
    apply State.startFail_reach Reach.refl <;> intros <;> rfl
  exact hr.cells ⟨.boot .slot, 0, 0⟩ (by simp)

theorem State.phaseStop_errCode : s.phaseStop.get (.boot .errCode) 0 0 = s.get (.boot .errCode) 0 0 := by
  simp [State.phaseStop, State.get_set]

theorem State.latchError_errCode (code detail die addr : Nat) :
    (s.latchError code detail die addr).get (.boot .errCode) 0 0 = code := by
  simp [State.latchError, State.get_set]

/-- A start-up that fails before the phases ends in FAILED with its error latched. -/
theorem State.startFail_failed (h : s.bootState ≠ bootPhases) (code detail die addr : Nat) :
    (s.startFail code detail die addr).bootState = bootFailed ∧
      (s.startFail code detail die addr).get (.boot .errCode) 0 0 = code := by
  unfold State.startFail
  simp only [h, decide_false, Bool.false_eq_true, if_false]
  constructor
  · simp [State.bootState, State.get_set]
  · rw [State.get_set_cell _ (by decide), State.get_set_cell _ (by decide), State.goDark_errCode, State.get_lists,
      State.get_each fun x a => State.get_set_cell x (by decide) .., State.get_when fun x => x.phaseStop_errCode,
      State.latchError_errCode]

-- An image that is accepted (R44).

theorem State.imageAccept_state (j : SlotImage) (slot : Nat) : (s.imageAccept j slot).bootState = bootPhases :=
  State.get_set_self ..

theorem State.journalErase_slot : s.journalErase.get (.boot .slot) 0 0 = s.get (.boot .slot) 0 0 := by
  simp [State.journalErase, State.get_set]

theorem State.imageAccept_slot (j : SlotImage) (slot : Nat) : (s.imageAccept j slot).get (.boot .slot) 0 0 = slot := by
  unfold State.imageAccept
  simp only [State.get_set_cell, State.get_when fun x => x.journalErase_slot, State.get_cond, State.get_lists, ne_eq,
    reduceCtorEq, not_false_eq_true, Cell.boot.injEq]
  rw [State.get_each fun x k => State.get_set_cell x (by decide) ..]
  simp [State.get_set]

/-- Accepting an image leaves FALLBACK as it is. -/
theorem State.imageAccept_fallback (j : SlotImage) (slot : Nat) :
    (s.imageAccept j slot).flag (.live .bootFallback) 0 0 = s.flag (.live .bootFallback) 0 0 := by
  have hr : Reach (fun k => decide (k.cell ≠ .live .bootFallback)) (fun _ => true) s (s.imageAccept j slot) := by
    apply State.imageAccept_reach Reach.refl <;> intros <;> rfl
  exact congrArg (fun v => decide (v ≠ 0)) (hr.cells ⟨.live .bootFallback, 0, 0⟩ (by simp))

-- The verdict on one image.

/-- An image for another part is invalid with error SIGNATURE (R42). -/
theorem State.imageFault_otherPart {j : SlotImage} (hf : j.formatOk = true) (hk : j.keyIdOk = false) :
    s.imageFault j = some errSignature := by
  simp [State.imageFault, hf, hk]

/-- Of the state, the verdict reads the OWNED fuse alone. -/
theorem State.imageFault_congr {t : State} (h : t.flag (.sys .fuseOwned) 0 0 = s.flag (.sys .fuseOwned) 0 0)
    (j : SlotImage) : t.imageFault j = s.imageFault j := by
  simp only [State.imageFault, h]

theorem State.imageFault_raise (a : Alm) (j : SlotImage) : (s.raise a 0 0).imageFault j = s.imageFault j :=
  State.imageFault_congr (State.flag_raise (by simp) (by simp) ..) j

theorem State.imageFault_setState (v : Nat) (j : SlotImage) :
    (s.set (.boot .state) 0 0 v).imageFault j = s.imageFault j :=
  State.imageFault_congr (by simp [State.flag_set]) j

-- The candidates in the order tried (R45).

theorem State.imageOrder_setState (a b : SlotImage) (v : Nat) :
    (s.set (.boot .state) 0 0 v).imageOrder a b = s.imageOrder a b := by
  have hc : (s.set (.boot .state) 0 0 v).candidate = s.candidate := by
    funext j slot
    simp [State.candidate, State.get_set]
  simp only [State.imageOrder, hc]

theorem State.imageOrder_first {a b : SlotImage} (ha : s.candidate a 1 = true) (hb : s.candidate b 2 = false) :
    s.imageOrder a b = [(a, 1)] := by
  unfold State.imageOrder
  split <;> simp [ha, hb]

theorem State.imageOrder_newer {a b : SlotImage} (ha : s.candidate a 1 = true) (hb : s.candidate b 2 = true)
    (hv : a.version < b.version) : s.imageOrder a b = [(b, 2), (a, 1)] := by
  simp [State.imageOrder, ha, hb, hv]

theorem State.imageOrder_older {a b : SlotImage} (ha : s.candidate a 1 = true) (hb : s.candidate b 2 = true)
    (hv : b.version ≤ a.version) : s.imageOrder a b = [(a, 1), (b, 2)] := by
  simp [State.imageOrder, ha, hb, Nat.not_lt.mpr hv]

-- Trying them in turn.

/-- `BOOT_STATUS` of a start-up in FAILED: its error and the slot tried last. -/
def State.failedWith (s : State) (code slot : Nat) : Prop :=
  s.bootState = bootFailed ∧ s.get (.boot .errCode) 0 0 = code ∧ s.get (.boot .slot) 0 0 = slot

/-- A start-up that goes on to the phases with the second choice. -/
def State.fellBackTo (s : State) (slot : Nat) : Prop :=
  s.bootState = bootPhases ∧ s.get (.boot .slot) 0 0 = slot ∧ s.flag (.live .bootFallback) 0 0 = true

/-- An invalid image is passed over while another candidate is left. -/
theorem State.tryImages_next {j : SlotImage} {slot e : Nat} {r : List (SlotImage × Nat)} (hj : s.imageFault j = some e)
    (hr : r ≠ []) : s.tryImages true ((j, slot) :: r) = s.tryImages false r := by
  simp [State.tryImages, hj, hr]

/-- The last candidate is invalid: start-up fails with its error. -/
theorem State.tryImages_last {j : SlotImage} {e : Nat} (hs : s.bootState ≠ bootPhases) (hj : s.imageFault j = some e)
    (first : Bool) (slot : Nat) : (s.tryImages first [(j, slot)]).failedWith e slot := by
  have hfail {t : State} (ht : t.bootState = s.bootState) :
      ((t.set (.boot .slot) 0 0 slot).startFail e noDetail 0 0).failedWith e slot := by
    have hp : (t.set (.boot .slot) 0 0 slot).bootState ≠ bootPhases := by
      rwa [State.bootState, State.get_set_cell _ (by decide), ← State.bootState, ht]
    obtain ⟨hstate, hcode⟩ := State.startFail_failed hp e noDetail 0 0
    exact ⟨hstate, hcode, (State.startFail_slot ..).trans (State.get_set_self ..)⟩
  cases first with
  | true => simpa [State.tryImages, hj] using hfail rfl
  | false =>
    simpa [State.tryImages, State.imageFault_raise, hj] using
      hfail (State.get_raise (a := .bootFallback) (by simp) (by simp) 0 0 0 0)

/-- The second candidate verifies: start-up goes on with it, and FALLBACK is live. -/
theorem State.tryImages_fallback {j : SlotImage} (hj : s.imageFault j = none) (slot : Nat) :
    (s.tryImages false [(j, slot)]).fellBackTo slot := by
  have he : s.tryImages false [(j, slot)] = (s.raise .bootFallback 0 0).imageAccept j slot := by
    simp [State.tryImages, State.imageFault_raise, hj]
  rw [he]
  exact ⟨State.imageAccept_state j slot, State.imageAccept_slot j slot,
    (State.imageAccept_fallback j slot).trans (State.raise_live ..)⟩

-- IMAGE_VERIFY.

theorem exec_imageVerify (a b : SlotImage) : exec (.imageVerify a b) s = execImageVerify a b s := rfl

theorem State.bootState_verify : (s.set (.boot .state) 0 0 bootVerify).bootState ≠ bootPhases := by
  simp [State.bootState, bootVerify, bootPhases]

/-- With a candidate, IMAGE_VERIFY tries the candidates in their order, from state VERIFY. -/
theorem completes_imageVerify {a b : SlotImage} {x : SlotImage × Nat} {r : List (SlotImage × Nat)} {P : State → Prop}
    (hf : s.readsFlash = true) (hm : s.get (.boot .flashMode) 0 0 ≠ 0) (ho : s.imageOrder a b = x :: r)
    (hP : P (settle s ((s.set (.boot .state) 0 0 bootVerify).tryImages true (x :: r)))) :
    Completes (.imageVerify a b) s P := by
  refine ⟨_, ?_, hP⟩
  simp [exec_imageVerify, execImageVerify, finishIf, finish, hf, hm, State.imageOrder_setState, ho]

theorem State.failedWith_settle {t : State} {code slot : Nat} (h : t.failedWith code slot) :
    (settle s t).failedWith code slot := by
  simpa [State.failedWith, State.bootState, get_settle] using h

theorem State.fellBackTo_settle {t : State} {slot : Nat} (h : t.fellBackTo slot) : (settle s t).fellBackTo slot := by
  simpa [State.fellBackTo, State.bootState, get_settle, flag_settle] using h

/-- The candidate tried first is invalid and the other verifies: the part starts up with the other (R42, R45). -/
theorem imageVerify_fellBack {a b j k : SlotImage} {m n e : Nat} (hf : s.readsFlash = true)
    (hm : s.get (.boot .flashMode) 0 0 ≠ 0) (ho : s.imageOrder a b = [(j, m), (k, n)]) (hj : s.imageFault j = some e)
    (hk : s.imageFault k = none) : Completes (.imageVerify a b) s fun t => t.fellBackTo n := by
  rw [← State.imageFault_setState bootVerify] at hj hk
  apply completes_imageVerify hf hm ho
  rw [State.tryImages_next hj (by simp)]
  exact State.fellBackTo_settle (State.tryImages_fallback hk n)

/-- The only candidate is invalid: the part enters FAILED with its error. -/
theorem imageVerify_failedOnly {a b j : SlotImage} {m e : Nat} (hf : s.readsFlash = true)
    (hm : s.get (.boot .flashMode) 0 0 ≠ 0) (ho : s.imageOrder a b = [(j, m)]) (hj : s.imageFault j = some e) :
    Completes (.imageVerify a b) s fun t => t.failedWith e m := by
  rw [← State.imageFault_setState bootVerify] at hj
  exact completes_imageVerify hf hm ho (State.failedWith_settle (State.tryImages_last State.bootState_verify hj true m))

/-- Both candidates are invalid: the part enters FAILED with the error of the one tried last. -/
theorem imageVerify_failedBoth {a b j k : SlotImage} {m n e e' : Nat} (hf : s.readsFlash = true)
    (hm : s.get (.boot .flashMode) 0 0 ≠ 0) (ho : s.imageOrder a b = [(j, m), (k, n)]) (hj : s.imageFault j = some e)
    (hk : s.imageFault k = some e') : Completes (.imageVerify a b) s fun t => t.failedWith e' n := by
  rw [← State.imageFault_setState bootVerify] at hj hk
  apply completes_imageVerify hf hm ho
  rw [State.tryImages_next hj (by simp)]
  exact State.failedWith_settle (State.tryImages_last State.bootState_verify hk false n)

/-- Settles O8: an image for another part has the fault SIGNATURE, and each clause is one order of the candidates. -/
theorem deviceKeyIdentifier : Obligations.DeviceKeyIdentifier := by
  unfold Obligations.DeviceKeyIdentifier
  intro s a b hf hm
  refine ⟨State.imageFault_otherPart, ?_, ?_, ?_, ?_⟩
  · intro ha hb haf hak hv hbv
    exact imageVerify_fellBack hf hm (State.imageOrder_older ha hb hv) (State.imageFault_otherPart haf hak) hbv
  · intro ha hb hbf hbk hv hav
    exact imageVerify_fellBack hf hm (State.imageOrder_newer ha hb hv) (State.imageFault_otherPart hbf hbk) hav
  · intro ha hb haf hak
    exact imageVerify_failedOnly hf hm (State.imageOrder_first ha hb) (State.imageFault_otherPart haf hak)
  · intro ha hb haf hak hbf hbk
    have hfa := State.imageFault_otherPart (s := s) haf hak
    have hfb := State.imageFault_otherPart (s := s) hbf hbk
    split
    · next hv => exact imageVerify_failedBoth hf hm (State.imageOrder_newer ha hb hv) hfb hfa
    · next hv => exact imageVerify_failedBoth hf hm (State.imageOrder_older ha hb (Nat.not_lt.mp hv)) hfa hfb

end Sys2Proof.Machine
end

section
/-!
MAC control frames from the host (R235): what an event and the settling of a command leave of staging and the rings,
what the count of R235 comes to, and the ways HOST_FRAME_RX takes for a frame that has no cut-through record.
-/
namespace Sys2Proof.Machine

variable {s t : State} {d p : Nat} {f : HostFrame}

-- What an event and the settling of a command leave of the parts of the state.

/-- An event moves no part but the reports. -/
theorem State.event_part (a : Alm) (d i : Nat) {q : Part} (h : q ≠ .reports) : q.same s (s.event a d i) :=
  (State.event_reach (P := fun _ => true) (Q := fun q => decide (q = .reports)) (Reach.refl (s := s)) (fun _ => rfl)
    rfl).parts q (by simp [h])

@[simp] theorem State.event_staged (a : Alm) (d i : Nat) : (s.event a d i).staged = s.staged :=
  State.event_part a d i (q := .staged) (by decide)

@[simp] theorem State.event_rings (a : Alm) (d i : Nat) : (s.event a d i).rings = s.rings :=
  State.event_part a d i (q := .rings) (by decide)

@[simp] theorem settle_staged : (settle s t).staged = t.staged := settle_part (p := .staged) (by decide)

@[simp] theorem settle_rings : (settle s t).rings = t.rings := settle_part (p := .rings) (by decide)

-- The count of a frame by its verdict (R230, R235).

@[simp] theorem State.macCount_staged (v len : Nat) : (s.macCount d p v len).staged = s.staged := by
  unfold State.macCount
  split <;> simp

@[simp] theorem State.macCount_rings (v len : Nat) : (s.macCount d p v len).rings = s.rings := by
  unfold State.macCount
  split <;> simp

/-- Counting a frame leaves the state of every port. -/
theorem State.macCount_portState (v len e q : Nat) : (s.macCount d p v len).portState e q = s.portState e q := by
  unfold State.macCount
  split <;> simp [State.portState, State.get_add, State.get_inc, State.get_event]

/-- What R235 counts and shows for one more MAC control frame on a port. -/
def State.macctlCounted (s t : State) (d p : Nat) : Prop :=
  t.flag (.sticky .hlpHostMacctl) d p = true ∧
    t.get (.hl .nMacctlRx) d p = (s.get (.hl .nMacctlRx) d p + 1) % Counter.size

theorem State.macCount_macctlCounted (len : Nat) : s.macctlCounted (s.macCount d p 3 len) d p :=
  ⟨State.event_sticky .., by simp [State.macCount, State.get_event, State.get_inc]⟩

theorem State.macctlCounted_settle (h : s.macctlCounted t d p) : s.macctlCounted (settle s t) d p := by
  simpa [State.macctlCounted, get_settle, flag_settle] using h

-- Staging.

/-- The staged frame with a number is one of that die and number. -/
theorem State.stagedAt_key {g : Staged} {id : Nat} (h : s.stagedAt d id = some g) : g.die = d ∧ g.id = id := by
  simpa using List.find?_some h

/-- Once it has left staging, no frame with its number is staged. -/
theorem State.stagedAt_unstage {g : Staged} {id : Nat} (hd : g.die = d) (hi : g.id = id) :
    (s.unstage g).stagedAt d id = none := by
  subst hd hi
  simp only [State.stagedAt, State.unstage, List.find?_eq_none, List.mem_filter]
  rintro x ⟨-, hx⟩
  simpa [or_iff_not_imp_left] using hx

theorem State.stagedAt_settle (id : Nat) : (settle s t).stagedAt d id = t.stagedAt d id := by
  simp [State.stagedAt]

/-- A staged frame that ends with a verdict other than good is counted and leaves staging. -/
theorem State.moreStaged_refused {g : Staged} (hl : f.last = true) (hv : s.macVerdict d p f ≠ 0) :
    s.moreStaged d p f g = (s.macCount d p (s.macVerdict d p f) f.len).unstage g := by
  simp [State.moreStaged, hl, hv]

-- HOST_FRAME_RX on a packet port in UP, by what it knows of the frame.

theorem exec_hostFrameRx : exec (.hostFrameRx d p f) s = execHostFrameRx d p f s := rfl

/-- More of a staged frame arrives. -/
theorem completes_hostFrameRx_staged {g : Staged} {P : State → Prop} (hup : s.up d = true)
    (hm : s.get (.hl .mode) d p = 1) (hp : s.portState d p = prtUp) (hg : s.stagedAt d f.id = some g)
    (hP : P (settle s (s.moreStaged d p f g))) : Completes (.hostFrameRx d p f) s P :=
  ⟨_, by simp [exec_hostFrameRx, execHostFrameRx, finishIf, finish, hup, hm, hp, hg], hP⟩

/-- A frame of which nothing is kept ends with a verdict other than good: it is counted. -/
theorem completes_hostFrameRx_refused {P : State → Prop} (hup : s.up d = true) (hm : s.get (.hl .mode) d p = 1)
    (hp : s.portState d p = prtUp) (hg : s.stagedAt d f.id = none) (hr : s.ctRecord d f.id = none) (hl : f.last = true)
    (hv : s.macVerdict d p f ≠ 0) (hP : P (settle s (s.macCount d p (s.macVerdict d p f) f.len))) :
    Completes (.hostFrameRx d p f) s P :=
  ⟨_, by simp [exec_hostFrameRx, execHostFrameRx, finishIf, finish, hup, hm, hp, hg, hr, hl, hv], hP⟩

/-- The first bytes of a MAC control frame: the frame is remembered as discarded until it ends (log 22). -/
theorem completes_hostFrameRx_macctlPart {P : State → Prop} (hup : s.up d = true) (hm : s.get (.hl .mode) d p = 1)
    (hp : s.portState d p = prtUp) (hg : s.stagedAt d f.id = none) (hr : s.ctRecord d f.id = none) (hl : f.last = false)
    (hc : f.macctl = true) (hP : P (settle s (s.stageFrame d p f 0 3 none true))) :
    Completes (.hostFrameRx d p f) s P :=
  ⟨_, by simp [exec_hostFrameRx, execHostFrameRx, finishIf, finish, hup, hm, hp, hg, hr, hl, hc], hP⟩

/-- Settles O6: the end of a MAC control frame does no more than count it and take out of staging what stands there
under its number; while it still arrives, all that is staged of it is an entry marked as discarded (the model's reading,
log 22). -/
theorem macControlFrames : Obligations.MacControlFrames := by
  unfold Obligations.MacControlFrames
  intro s d p f hup hm hp hr hc
  have hcount : s.macctlCounted (s.macCount d p 3 f.len) d p := State.macCount_macctlCounted f.len
  refine ⟨?_, ?_, ?_⟩
  · intro hg hl hv
    apply completes_hostFrameRx_refused hup hm hp hg hr hl (by simp [hv])
    rw [hv]
    have hport : (settle s (s.macCount d p 3 f.len)).portState d p = prtUp := by
      rw [State.portState, get_settle (by simp), ← State.portState, State.macCount_portState, hp]
    exact ⟨by simp, by simp, hport, State.macctlCounted_settle hcount⟩
  · intro hg hl
    apply completes_hostFrameRx_macctlPart hup hm hp hg hr hl hc
    have hgone (g : Staged) (h : g ∈ (s.stageFrame d p f 0 3 none true).staged) :
        g ∈ s.staged ∨ g.gone = true := by
      rcases List.mem_append.mp h with h | h
      · exact .inl h
      · exact .inr (by simp [List.mem_singleton.mp h])
    exact ⟨settle_rings, by simpa using hgone, get_settle (by simp) d p⟩
  · intro g hg hl hv
    obtain ⟨hd, hi⟩ := State.stagedAt_key hg
    apply completes_hostFrameRx_staged hup hm hp hg
    rw [State.moreStaged_refused hl (by simp [hv]), hv]
    have hrings : ((s.macCount d p 3 f.len).unstage g).rings = s.rings := State.macCount_rings ..
    exact ⟨by rw [State.stagedAt_settle, State.stagedAt_unstage hd hi], by rw [settle_rings, hrings],
      State.macctlCounted_settle hcount⟩

end Sys2Proof.Machine
end

section
/-!
The time-base registers as a port reads them (R384): where they stand, what a read of each of them returns, and what the
latch that a read of `TIM_TB_NS` takes leaves for the reads after it.
-/
namespace Sys2Proof.Machine

variable {s : State} {port : APort} {b k : Nat}

-- Which reads reach the time bases.

/-- Words 0 to 3 of a time base are its nanoseconds, the halves of its seconds and its fraction. -/
theorem placeAt_timeBase (hb : b < 4) (hk : k < 4) : placeAt (0x8000 + 0x100 * b + 4 * k) = .timeBase b k := by
  have h : ∀ b < 4, ∀ k < 4, placeAt (0x8000 + 0x100 * b + 4 * k) = .timeBase b k := by decide
  exact h b hb k hk

/-- The time bases are on the lead die: they answer while it is released. -/
theorem State.addrAnswers_timeBase (hb : b < 4) (hk : k < 4) :
    s.addrAnswers (0x8000 + 0x100 * b + 4 * k) = s.released 0 := by
  have hdie : addrDie (0x8000 + 0x100 * b + 4 * k) = none := if_neg (by omega)
  have hslot : addrSlot (0x8000 + 0x100 * b + 4 * k) = none := by
    unfold addrSlot
    iterate 5 rw [if_neg (by omega)]
  simp [State.addrAnswers, State.addrAbsent, hdie, hslot]

/-- The ports other than the host's work while the lead die is released. -/
theorem State.portOn_of_ne_pcie (h : port ≠ .pcie) : s.portOn port = s.released 0 := by
  cases port with
  | pcie => exact absurd rfl h
  | spi | mgmt | courier | exec => rfl

/-- A port that is not a host reader reads every address. -/
theorem State.portRead_unguarded (hp : port ≠ .pcie) (hq : port ≠ .spi) (x : Nat) :
    s.portRead port x = s.read port x := by
  cases port with
  | pcie => exact absurd rfl hp
  | spi => exact absurd rfl hq
  | mgmt | courier | exec => rfl

theorem State.portRead_timeBase (hp : port ≠ .pcie) (hq : port ≠ .spi) (hr : s.released 0 = true) (hb : b < 4)
    (hk : k < 4) : s.portRead port (0x8000 + 0x100 * b + 4 * k) =
      s.readPlace port (0x8000 + 0x100 * b + 4 * k) (.timeBase b k) := by
  rw [State.portRead_unguarded hp hq, State.read, State.addrAnswers_timeBase hb hk, hr, placeAt_timeBase hb hk]
  rfl

-- What the reads return.

/-- Reads of SEC_LO, SEC_HI and FRAC of time base `b` through `port` return these seconds and this fraction and change
nothing. -/
def State.tbShows (s : State) (port : APort) (b sec frac : Nat) : Prop :=
  s.portRead port (0x8004 + 0x100 * b) = (sec % Word.size, s) ∧
    s.portRead port (0x8008 + 0x100 * b) = (sec / Word.size % 2 ^ 16, s) ∧
    s.portRead port (0x800C + 0x100 * b) = (frac, s)

/-- The port's latch of the time base, if it holds one, or the running values. -/
theorem State.tbShows_latch_or_live (hp : port ≠ .pcie) (hq : port ≠ .spi) (hr : s.released 0 = true) (hb : b < 4) :
    s.tbShows port b
      (if s.flag (.sys .tbLatchValid) 0 (8 * b + portCode port) then s.get (.sys .tbLatchSec) 0 (8 * b + portCode port)
        else s.get (.tim .tbSec) 0 b)
      (if s.flag (.sys .tbLatchValid) 0 (8 * b + portCode port) then s.get (.sys .tbLatchFrac) 0 (8 * b + portCode port)
        else s.get (.tim .tbFrac) 0 b) := by
  have hlo : 0x8004 + 0x100 * b = 0x8000 + 0x100 * b + 4 * 1 := by omega
  have hhi : 0x8008 + 0x100 * b = 0x8000 + 0x100 * b + 4 * 2 := by omega
  have hfrac : 0x800C + 0x100 * b = 0x8000 + 0x100 * b + 4 * 3 := by omega
  refine ⟨?_, ?_, ?_⟩
  · rw [hlo, State.portRead_timeBase hp hq hr hb (by decide)]
    rfl
  · rw [hhi, State.portRead_timeBase hp hq hr hb (by decide)]
    rfl
  · rw [hfrac, State.portRead_timeBase hp hq hr hb (by decide)]
    rfl

theorem State.tbShows_latch (hp : port ≠ .pcie) (hq : port ≠ .spi) (hr : s.released 0 = true) (hb : b < 4)
    (hv : s.flag (.sys .tbLatchValid) 0 (8 * b + portCode port) = true) :
    s.tbShows port b (s.get (.sys .tbLatchSec) 0 (8 * b + portCode port))
      (s.get (.sys .tbLatchFrac) 0 (8 * b + portCode port)) := by
  simpa [hv] using State.tbShows_latch_or_live hp hq hr hb

theorem State.tbShows_live (hp : port ≠ .pcie) (hq : port ≠ .spi) (hr : s.released 0 = true) (hb : b < 4)
    (hv : s.flag (.sys .tbLatchValid) 0 (8 * b + portCode port) = false) :
    s.tbShows port b (s.get (.tim .tbSec) 0 b) (s.get (.tim .tbFrac) 0 b) := by
  simpa [hv] using State.tbShows_latch_or_live hp hq hr hb

/-- The words that `tbShows` gives, without the state after each read. -/
theorem State.tbShows.words {sec frac : Nat} (h : s.tbShows port b sec frac) :
    (s.portRead port (0x8004 + 0x100 * b)).1 = sec % Word.size ∧
      (s.portRead port (0x8008 + 0x100 * b)).1 = sec / Word.size % 2 ^ 16 ∧
      (s.portRead port (0x800C + 0x100 * b)).1 = frac := by
  obtain ⟨hlo, hhi, hfrac⟩ := h
  exact ⟨congrArg Prod.fst hlo, congrArg Prod.fst hhi, congrArg Prod.fst hfrac⟩

-- The latch of a read of TIM_TB_NS.

@[simp] theorem State.tbLatch_valid : (s.tbLatch port b).flag (.sys .tbLatchValid) 0 (8 * b + portCode port) = true := by
  simp [State.tbLatch, State.flag_set]

@[simp] theorem State.tbLatch_sec :
    (s.tbLatch port b).get (.sys .tbLatchSec) 0 (8 * b + portCode port) = s.get (.tim .tbSec) 0 b := by
  simp [State.tbLatch, State.get_set]

@[simp] theorem State.tbLatch_frac :
    (s.tbLatch port b).get (.sys .tbLatchFrac) 0 (8 * b + portCode port) = s.get (.tim .tbFrac) 0 b := by
  simp [State.tbLatch]

@[simp] theorem State.tbLatch_released (d : Nat) : (s.tbLatch port b).released d = s.released d := by
  simp [State.tbLatch, State.released, State.present, State.get_set]

/-- Reading TIM_TB_NS returns the nanoseconds and takes the latch. -/
theorem State.readOne_tbNs (hp : port ≠ .pcie) (hq : port ≠ .spi) (hr : s.released 0 = true) (hb : b < 4) :
    s.readOne port (0x8000 + 0x100 * b) = { s.tbLatch port b with readData := [s.get (.tim .tbNs) 0 b] } := by
  have h := State.portRead_timeBase (k := 0) hp hq hr hb (by decide)
  rw [Nat.mul_zero, Nat.add_zero] at h
  rw [State.readOne, h]
  rfl

theorem exec_timTbNsRead : exec (.timTbNsRead port b) s = execTimTbNsRead port b s := rfl

theorem completes_timTbNsRead {P : State → Prop} (hp : port ≠ .pcie) (hq : port ≠ .spi) (hr : s.released 0 = true)
    (hb : b < 4) (hP : P (settle s { s.tbLatch port b with readData := [s.get (.tim .tbNs) 0 b] })) :
    Completes (.timTbNsRead port b) s P := by
  refine ⟨_, ?_, hP⟩
  simp [exec_timTbNsRead, execTimTbNsRead, finishIf, finish, State.portOn_of_ne_pcie hp, hr,
    State.readOne_tbNs hp hq hr hb]

@[simp] theorem settle_readData {t : State} : (settle s t).readData = t.readData :=
  settle_part (p := .readData) (by decide)

theorem released_settle {t : State} (d : Nat) : (settle s t).released d = t.released d := by
  simp [State.released, State.present, get_settle]

/-- After a read of TIM_TB_NS the port reads the seconds and the fraction of the moment of that read. -/
theorem tbShows_after_tbNs (hp : port ≠ .pcie) (hq : port ≠ .spi) (hr : s.released 0 = true) (hb : b < 4)
    (data : List Nat) : (settle s { s.tbLatch port b with readData := data }).tbShows port b (s.get (.tim .tbSec) 0 b)
      (s.get (.tim .tbFrac) 0 b) := by
  have hreleased : (settle s { s.tbLatch port b with readData := data }).released 0 = true :=
    (released_settle 0).trans ((State.tbLatch_released 0).trans hr)
  have hvalid : (settle s { s.tbLatch port b with readData := data }).flag (.sys .tbLatchValid) 0
      (8 * b + portCode port) = true := (flag_settle (by simp) ..).trans State.tbLatch_valid
  simpa [get_settle] using State.tbShows_latch hp hq hreleased hb hvalid

/-- Settles O7: the time bases answer wherever a port other than the host's is on; the port's latch decides what its reads
of the seconds and the fraction return, and a read of TIM_TB_NS fills the latch from the running values. -/
theorem timeSnapshots : Obligations.TimeSnapshots := by
  unfold Obligations.TimeSnapshots
  intro s b port hb hon hp hq _
  have hr : s.released 0 = true := State.portOn_of_ne_pcie hp ▸ hon
  refine ⟨?_, ?_, ?_⟩
  · apply completes_timTbNsRead hp hq hr hb
    exact ⟨settle_readData, (tbShows_after_tbNs hp hq hr hb _).words⟩
  · intro hv
    exact State.tbShows_latch hp hq hr hb hv
  · intro hv
    exact (State.tbShows_live hp hq hr hb hv).words

end Sys2Proof.Machine
end

section
/-!
The host's read of one word (R57, R70) and the read policy on counters (R448): when the policy grants a half of a counter,
what a denied and a granted read of any word leave, and what a low half returns.
-/
namespace Sys2Proof.Machine

variable {s : State} {x low d i : Nat} {c : Ctr} {hi : Bool}

-- What the policy grants.

/-- A half of a counter is granted by the entries that grant READ on both halves (R448; that one entry covers both is the
model's reading, log 44). -/
theorem grantsRead_half {l : List PolicyEntry} (hx : placeAt x = .half c d i hi) (hk : keyRange x = false)
    (hlow : low = if hi then x - 4 else x) :
    grantsRead l x = true ↔ ∃ e ∈ l, e.read = true ∧ e.base ≤ low ∧ low + 4 ≤ e.limit := by
  subst hlow
  simp [grantsRead, hx, hk, and_comm]

/-- In RUN, outside the fixed boot set, the host may read what the policy grants (R70). -/
theorem State.hostMayRead_inRun (hrun : s.inRun = true) (hpol : s.flag (.boot .policyIn) 0 0 = true)
    (hboot : bootSet x = false) : s.hostMayRead x = grantsRead s.policy x := by
  simp [State.hostMayRead, hrun, hpol, hboot]

-- What a read leaves of the count of denied reads, and what it returns.

/-- Only a denied read counts in `TKT_HOST_RD_DENY`. -/
theorem State.read_hostRdDeny (port : APort) :
    (s.read port x).2.get (.tkt .nHostRdDeny) 0 0 = s.get (.tkt .nHostRdDeny) 0 0 := by
  have hr : Reach (fun k => decide (k.cell ≠ .tkt .nHostRdDeny)) (fun _ => true) s (s.read port x).2 := by
    apply State.read_reach Reach.refl <;> intros <;> rfl
  exact hr.cells ⟨.tkt .nHostRdDeny, 0, 0⟩ (by simp)

/-- The low half of a counter that answers returns its low word (R446). -/
theorem State.read_lowHalf (port : APort) (ha : s.addrAnswers x = true) (hx : placeAt x = .half c d i false) :
    (s.read port x).1 = s.get c.cell d i % Counter.size % Word.size := by
  rw [State.read, if_pos ha, hx]
  rfl

-- HOST_READ of one word.

theorem exec_hostRead (words : Nat) : exec (.hostRead x words) s = execHostRead x words s := rfl

/-- A request of one word is a single read through the host's port. -/
theorem completes_hostRead_word {P : State → Prop} (hbus : s.hostBus = true) (hP : P (settle s (s.readOne .pcie x))) :
    Completes (.hostRead x 1) s P :=
  ⟨_, by simp [exec_hostRead, execHostRead, finishIf, finish, hbus, State.answer, State.readRun, State.readOne], hP⟩

/-- A word that the host may not read returns 0 and is counted (R70). -/
theorem hostRead_denied (hbus : s.hostBus = true) (hm : mboxRange x = false) (hno : s.hostMayRead x = false) :
    Completes (.hostRead x 1) s fun t => t.readData = [0] ∧
      t.get (.tkt .nHostRdDeny) 0 0 = (s.get (.tkt .nHostRdDeny) 0 0 + 1) % Counter.size := by
  apply completes_hostRead_word hbus
  have hread : s.readOne .pcie x = { s.denied with readData := [0] } := by
    simp [State.readOne, State.portRead, State.guarded, hm, hno]
  rw [hread]
  exact ⟨settle_readData, (get_settle (by simp) ..).trans (State.get_set_self ..)⟩

/-- A word that the host may read returns what stands there, and nothing is counted (R70). -/
theorem hostRead_granted (hbus : s.hostBus = true) (hm : mboxRange x = false) (hok : s.hostMayRead x = true) :
    Completes (.hostRead x 1) s fun t => t.readData = [(s.read .pcie x).1] ∧
      t.get (.tkt .nHostRdDeny) 0 0 = s.get (.tkt .nHostRdDeny) 0 0 := by
  apply completes_hostRead_word hbus
  have hread : s.readOne .pcie x = { (s.read .pcie x).2 with readData := [(s.read .pcie x).1] } := by
    simp [State.readOne, State.portRead, State.guarded, hm, hok]
  rw [hread]
  exact ⟨settle_readData, (get_settle (by simp) ..).trans (State.read_hostRdDeny .pcie)⟩

/-- Settles O9: in RUN the policy alone decides on a counter outside the fixed boot set, and it grants either half exactly
where one entry covers both (the model's reading of R448, log 44). -/
theorem counterReadPolicy : Obligations.CounterReadPolicy := by
  unfold Obligations.CounterReadPolicy
  intro s x low d i c hi hbus hrun hpol hx hlow hboot hm hk
  have hmay : s.hostMayRead x = true ↔ ∃ e ∈ s.policy, e.read = true ∧ e.base ≤ low ∧ low + 4 ≤ e.limit := by
    rw [State.hostMayRead_inRun hrun hpol hboot, grantsRead_half hx hk hlow]
  constructor
  · intro hnone
    apply hostRead_denied hbus hm
    rw [← Bool.not_eq_true, hmay]
    rintro ⟨e, he, hcovers⟩
    exact hnone e he hcovers
  · intro e he hread hbase hlimit
    obtain ⟨t, hexec, hdata, hcount⟩ := hostRead_granted hbus hm (hmay.mpr ⟨e, he, hread, hbase, hlimit⟩)
    refine ⟨t, hexec, hdata, hcount, fun ha hlo => ?_⟩
    subst hlo
    rw [hdata, State.read_lowHalf .pcie ha hx]

end Sys2Proof.Machine
end

section
/-!
What every command answers: a next state in canonical form, with the queue of commands as it was.  Each case cites what the
command may change (Laws/Moves*.lean).
-/
-- One proof after another: elaborated side by side, the proofs of this text would pass the memory the check allows.
set_option Elab.async false
namespace Sys2Proof.Machine

/-- Every command answers a next state, reached by writes that keep the canonical forms, with the queue of commands as it was. -/
theorem exec_answers (c : Instr) (s : State) :
    ∃ t, exec c s = .next t ∧ Reach (fun _ => true) (fun p => decide (p ≠ .pending)) s t := by
  cases c with
  | registerWrite => apply execRegisterWrite_reach Reach.refl <;> intros <;> rfl
  | w1cClear => apply execW1cClear_reach Reach.refl <;> intros <;> rfl
  | hostRead => apply execHostRead_reach Reach.refl <;> intros <;> rfl
  | partialWordAccess => apply execPartialWordAccess_reach Reach.refl <;> intros <;> rfl
  | spiReadCommand => apply execSpiReadCommand_reach Reach.refl <;> intros <;> rfl
  | spiOtherCommand => apply execSpiOtherCommand_reach Reach.refl <;> intros <;> rfl
  | counterLowRead => apply execCounterLowRead_reach Reach.refl <;> intros <;> rfl
  | counterHighRead => apply execCounterHighRead_reach Reach.refl <;> intros <;> rfl
  | timTbNsRead => apply execTimTbNsRead_reach Reach.refl <;> intros <;> rfl
  | monFiltStatRead => apply execMonFiltStatRead_reach Reach.refl <;> intros <;> rfl
  | windowDataAccess => apply execWindowDataAccess_reach Reach.refl <;> intros <;> rfl
  | chainFlitTx => apply execChainFlitTx_reach Reach.refl <;> intros <;> rfl
  | chainFlitRx => apply execChainFlitRx_reach Reach.refl <;> intros <;> rfl
  | chainPortEnable => apply execChainPortEnable_reach Reach.refl <;> intros <;> rfl
  | chainPortDisable => apply execChainPortDisable_reach Reach.refl <;> intros <;> rfl
  | chainTrainAttemptEnd => apply execChainTrainAttemptEnd_reach Reach.refl <;> intros <;> rfl
  | chainClkLoss => apply execChainClkLoss_reach Reach.refl <;> intros <;> rfl
  | chainReplayLimit => apply execChainReplayLimit_reach Reach.refl <;> intros <;> rfl
  | chainPeerRetrain => apply execChainPeerRetrain_reach Reach.refl <;> intros <;> rfl
  | chainHeldFlitRelease => apply execChainHeldFlitRelease_reach Reach.refl <;> intros <;> rfl
  | spokeFrameRx => apply execSpokeFrameRx_reach Reach.refl <;> intros <;> rfl
  | spokeLost => apply execSpokeLost_reach Reach.refl <;> intros <;> rfl
  | powerGood => apply execPowerGood_reach Reach.refl <;> intros <;> rfl
  | leadDieRelease => apply execLeadDieRelease_reach Reach.refl <;> intros <;> rfl
  | flashDiscovery => apply execFlashDiscovery_reach Reach.refl <;> intros <;> rfl
  | imageSegmentRead => apply execImageSegmentRead_reach Reach.refl <;> intros <;> rfl
  | imageVerify => apply execImageVerify_reach Reach.refl <;> intros <;> rfl
  | phaseStart => apply execPhaseStart_reach Reach.refl <;> intros <;> rfl
  | memberDieReady => apply execMemberDieReady_reach Reach.refl <;> intros <;> rfl
  | memberDieTimeout => apply execMemberDieTimeout_reach Reach.refl <;> intros <;> rfl
  | phaseTimeout => apply execPhaseTimeout_reach Reach.refl <;> intros <;> rfl
  | recordWrite => apply execRecordWrite_reach Reach.refl <;> intros <;> rfl
  | recordFill => apply execRecordFill_reach Reach.refl <;> intros <;> rfl
  | recordTable => apply execRecordTable_reach Reach.refl <;> intros <;> rfl
  | recordWaitUs => apply execRecordWaitUs_reach Reach.refl <;> intros <;> rfl
  | waitUsExpiry => apply execWaitUsExpiry_reach Reach.refl <;> intros <;> rfl
  | recordPollUntil => apply execRecordPollUntil_reach Reach.refl <;> intros <;> rfl
  | pollUntilMatch => apply execPollUntilMatch_reach Reach.refl <;> intros <;> rfl
  | pollUntilTimeout => apply execPollUntilTimeout_reach Reach.refl <;> intros <;> rfl
  | recordProc => apply execRecordProc_reach Reach.refl <;> intros <;> rfl
  | procReturn => apply execProcReturn_reach Reach.refl <;> intros <;> rfl
  | pannierInit => apply execPannierInit_reach Reach.refl <;> intros <;> rfl
  | eccSelftest => apply execEccSelftest_reach Reach.refl <;> intros <;> rfl
  | applyRepair => apply execApplyRepair_reach Reach.refl <;> intros <;> rfl
  | laserDiscover => apply execLaserDiscover_reach Reach.refl <;> intros <;> rfl
  | calConverters => apply execCalConverters_reach Reach.refl <;> intros <;> rfl
  | biasStart => apply execBiasStart_reach Reach.refl <;> intros <;> rfl
  | bellDiscover => apply execBellDiscover_reach Reach.refl <;> intros <;> rfl
  | keyAgree => apply execKeyAgree_reach Reach.refl <;> intros <;> rfl
  | acquireLine => apply execAcquireLine_reach Reach.refl <;> intros <;> rfl
  | hostGears => apply execHostGears_reach Reach.refl <;> intros <;> rfl
  | openTraffic => apply execOpenTraffic_reach Reach.refl <;> intros <;> rfl
  | restartWaitExpiry => apply execRestartWaitExpiry_reach Reach.refl <;> intros <;> rfl
  | ticketGoWrite => apply execTicketGoWrite_reach Reach.refl <;> intros <;> rfl
  | ticketRingTailWrite => apply execTicketRingTailWrite_reach Reach.refl <;> intros <;> rfl
  | ticketFetchDone => apply execTicketFetchDone_reach Reach.refl <;> intros <;> rfl
  | ticketExecTimeout => apply execTicketExecTimeout_reach Reach.refl <;> intros <;> rfl
  | journalEraseDone => apply execJournalEraseDone_reach Reach.refl <;> intros <;> rfl
  | applyDelta => apply execApplyDelta_reach Reach.refl <;> intros <;> rfl
  | derShiftInitiate => apply execDerShiftInitiate_reach Reach.refl <;> intros <;> rfl
  | derShiftRespond => apply execDerShiftRespond_reach Reach.refl <;> intros <;> rfl
  | protectionClear => apply execProtectionClear_reach Reach.refl <;> intros <;> rfl
  | protectionLo => apply execProtectionLo_reach Reach.refl <;> intros <;> rfl
  | protectionFs => apply execProtectionFs_reach Reach.refl <;> intros <;> rfl
  | protectionMsP => apply execProtectionMsP_reach Reach.refl <;> intros <;> rfl
  | protectionMsW => apply execProtectionMsW_reach Reach.refl <;> intros <;> rfl
  | containerAdd => apply execContainerAdd_reach Reach.refl <;> intros <;> rfl
  | containerChange => apply execContainerChange_reach Reach.refl <;> intros <;> rfl
  | containerDelete => apply execContainerDelete_reach Reach.refl <;> intros <;> rfl
  | queueAdd => apply execQueueAdd_reach Reach.refl <;> intros <;> rfl
  | queueChange => apply execQueueChange_reach Reach.refl <;> intros <;> rfl
  | queueDelete => apply execQueueDelete_reach Reach.refl <;> intros <;> rfl
  | shaperChange => apply execShaperChange_reach Reach.refl <;> intros <;> rfl
  | rekeyNow => apply execRekeyNow_reach Reach.refl <;> intros <;> rfl
  | rekeyNowSpan => apply execRekeyNowSpan_reach Reach.refl <;> intros <;> rfl
  | rekeyNowAll => apply execRekeyNowAll_reach Reach.refl <;> intros <;> rfl
  | kickstandEnterCarrier => apply execKickstandEnterCarrier_reach Reach.refl <;> intros <;> rfl
  | kickstandEnterPackage => apply execKickstandEnterPackage_reach Reach.refl <;> intros <;> rfl
  | kickstandLeave => apply execKickstandLeave_reach Reach.refl <;> intros <;> rfl
  | clearSec => apply execClearSec_reach Reach.refl <;> intros <;> rfl
  | blowRepairRow => apply execBlowRepairRow_reach Reach.refl <;> intros <;> rfl
  | blowRepairColumn => apply execBlowRepairColumn_reach Reach.refl <;> intros <;> rfl
  | restart => apply execRestart_reach Reach.refl <;> intros <;> rfl
  | restartInFailed => apply execRestartInFailed_reach Reach.refl <;> intros <;> rfl
  | flashRelease => apply execFlashRelease_reach Reach.refl <;> intros <;> rfl
  | flashReclaim => apply execFlashReclaim_reach Reach.refl <;> intros <;> rfl
  | advanceSvn => apply execAdvanceSvn_reach Reach.refl <;> intros <;> rfl
  | txEnRise => apply execTxEnRise_reach Reach.refl <;> intros <;> rfl
  | txEnFall => apply execTxEnFall_reach Reach.refl <;> intros <;> rfl
  | txWaitEnd => apply execTxWaitEnd_reach Reach.refl <;> intros <;> rfl
  | txRampComplete => apply execTxRampComplete_reach Reach.refl <;> intros <;> rfl
  | txMuteCauseSet => apply execTxMuteCauseSet_reach Reach.refl <;> intros <;> rfl
  | txMuteCauseClear => apply execTxMuteCauseClear_reach Reach.refl <;> intros <;> rfl
  | dspFrameBoundary => apply execDspFrameBoundary_reach Reach.refl <;> intros <;> rfl
  | dacClipWindow => apply execDacClipWindow_reach Reach.refl <;> intros <;> rfl
  | ltFirApply => apply execLtFirApply_reach Reach.refl <;> intros <;> rfl
  | lasTransaction => apply execLasTransaction_reach Reach.refl <;> intros <;> rfl
  | lasRetryWaitExpiry => apply execLasRetryWaitExpiry_reach Reach.refl <;> intros <;> rfl
  | lasPresenceLost => apply execLasPresenceLost_reach Reach.refl <;> intros <;> rfl
  | lasPoll => apply execLasPoll_reach Reach.refl <;> intros <;> rfl
  | lasTuneTimeout => apply execLasTuneTimeout_reach Reach.refl <;> intros <;> rfl
  | lasRecoverTimer => apply execLasRecoverTimer_reach Reach.refl <;> intros <;> rfl
  | lasGridChange => apply execLasGridChange_reach Reach.refl <;> intros <;> rfl
  | lasEnRise => apply execLasEnRise_reach Reach.refl <;> intros <;> rfl
  | lasEnFall => apply execLasEnFall_reach Reach.refl <;> intros <;> rfl
  | rxEnRise => apply execRxEnRise_reach Reach.refl <;> intros <;> rfl
  | rxEnFall => apply execRxEnFall_reach Reach.refl <;> intros <;> rfl
  | acqStepPass => apply execAcqStepPass_reach Reach.refl <;> intros <;> rfl
  | acqStepTimeout => apply execAcqStepTimeout_reach Reach.refl <;> intros <;> rfl
  | failedWaitExpiry => apply execFailedWaitExpiry_reach Reach.refl <;> intros <;> rfl
  | rxLos => apply execRxLos_reach Reach.refl <;> intros <;> rfl
  | rxPowerReturn => apply execRxPowerReturn_reach Reach.refl <;> intros <;> rfl
  | holdExpiry => apply execHoldExpiry_reach Reach.refl <;> intros <;> rfl
  | rxLoLost => apply execRxLoLost_reach Reach.refl <;> intros <;> rfl
  | eqSlip => apply execEqSlip_reach Reach.refl <;> intros <;> rfl
  | syncLoss => apply execSyncLoss_reach Reach.refl <;> intros <;> rfl
  | freqOffsetExceeded => apply execFreqOffsetExceeded_reach Reach.refl <;> intros <;> rfl
  | cycleSlip => apply execCycleSlip_reach Reach.refl <;> intros <;> rfl
  | agcFastStep => apply execAgcFastStep_reach Reach.refl <;> intros <;> rfl
  | adcClipWindow => apply execAdcClipWindow_reach Reach.refl <;> intros <;> rfl
  | adcOverload => apply execAdcOverload_reach Reach.refl <;> intros <;> rfl
  | rxPwrLow => apply execRxPwrLow_reach Reach.refl <;> intros <;> rfl
  | cdReprogram => apply execCdReprogram_reach Reach.refl <;> intros <;> rfl
  | qualityWindowEnd => apply execQualityWindowEnd_reach Reach.refl <;> intros <;> rfl
  | superframeEncodeStart => apply execSuperframeEncodeStart_reach Reach.refl <;> intros <;> rfl
  | fecLockCandidate => apply execFecLockCandidate_reach Reach.refl <;> intros <;> rfl
  | codewordDecode => apply execCodewordDecode_reach Reach.refl <;> intros <;> rfl
  | outerRowExit => apply execOuterRowExit_reach Reach.refl <;> intros <;> rfl
  | fecSfInterval => apply execFecSfInterval_reach Reach.refl <;> intros <;> rfl
  | fasPatternFound => apply execFasPatternFound_reach Reach.refl <;> intros <;> rfl
  | lineFrameRx => apply execLineFrameRx_reach Reach.refl <;> intros <;> rfl
  | lofTimer => apply execLofTimer_reach Reach.refl <;> intros <;> rfl
  | containerFrameRx => apply execContainerFrameRx_reach Reach.refl <;> intros <;> rfl
  | gapMarkerRx => apply execGapMarkerRx_reach Reach.refl <;> intros <;> rfl
  | errorMarkerRx => apply execErrorMarkerRx_reach Reach.refl <;> intros <;> rfl
  | apsFopTimer => apply execApsFopTimer_reach Reach.refl <;> intros <;> rfl
  | pmDegSecond => apply execPmDegSecond_reach Reach.refl <;> intros <;> rfl
  | bondArrivalReport => apply execBondArrivalReport_reach Reach.refl <;> intros <;> rfl
  | bondRealign => apply execBondRealign_reach Reach.refl <;> intros <;> rfl
  | gcc0FrameRx => apply execGcc0FrameRx_reach Reach.refl <;> intros <;> rfl
  | ctWindowCommit => apply execCtWindowCommit_reach Reach.refl <;> intros <;> rfl
  | ctCommitApply => apply execCtCommitApply_reach Reach.refl <;> intros <;> rfl
  | tandemFrameDeliver => apply execTandemFrameDeliver_reach Reach.refl <;> intros <;> rfl
  | tandemSelect => apply execTandemSelect_reach Reach.refl <;> intros <;> rfl
  | tandemHoldoffExpiry => apply execTandemHoldoffExpiry_reach Reach.refl <;> intros <;> rfl
  | tandemWtrExpiry => apply execTandemWtrExpiry_reach Reach.refl <;> intros <;> rfl
  | sealRequestClear => apply execSealRequestClear_reach Reach.refl <;> intros <;> rfl
  | tandemRealign => apply execTandemRealign_reach Reach.refl <;> intros <;> rfl
  | tandemPathPresence => apply execTandemPathPresence_reach Reach.refl <;> intros <;> rfl
  | pelEnvelopeRx => apply execPelEnvelopeRx_reach Reach.refl <;> intros <;> rfl
  | pelNeighbourEvent => apply execPelNeighbourEvent_reach Reach.refl <;> intros <;> rfl
  | pelSuspendExpiry => apply execPelSuspendExpiry_reach Reach.refl <;> intros <;> rfl
  | derProposeRx => apply execDerProposeRx_reach Reach.refl <;> intros <;> rfl
  | derArmedRx => apply execDerArmedRx_reach Reach.refl <;> intros <;> rfl
  | derRefuseRx => apply execDerRefuseRx_reach Reach.refl <;> intros <;> rfl
  | derCommitRx => apply execDerCommitRx_reach Reach.refl <;> intros <;> rfl
  | derCancelRx => apply execDerCancelRx_reach Reach.refl <;> intros <;> rfl
  | derDoneRx => apply execDerDoneRx_reach Reach.refl <;> intros <;> rfl
  | derResendTimer => apply execDerResendTimer_reach Reach.refl <;> intros <;> rfl
  | derUnitArmReport => apply execDerUnitArmReport_reach Reach.refl <;> intros <;> rfl
  | derArmTimeout => apply execDerArmTimeout_reach Reach.refl <;> intros <;> rfl
  | derLatchPoint => apply execDerLatchPoint_reach Reach.refl <;> intros <;> rfl
  | derTxSwitch => apply execDerTxSwitch_reach Reach.refl <;> intros <;> rfl
  | derRxSwitch => apply execDerRxSwitch_reach Reach.refl <;> intros <;> rfl
  | derSideDone => apply execDerSideDone_reach Reach.refl <;> intros <;> rfl
  | derRollbackDecision => apply execDerRollbackDecision_reach Reach.refl <;> intros <;> rfl
  | derRollbackReturn => apply execDerRollbackReturn_reach Reach.refl <;> intros <;> rfl
  | derResultSet => apply execDerResultSet_reach Reach.refl <;> intros <;> rfl
  | derRediscoverTimer => apply execDerRediscoverTimer_reach Reach.refl <;> intros <;> rfl
  | portEnable => apply execPortEnable_reach Reach.refl <;> intros <;> rfl
  | portDisable => apply execPortDisable_reach Reach.refl <;> intros <;> rfl
  | negFrameRx => apply execNegFrameRx_reach Reach.refl <;> intros <;> rfl
  | negGearSwitch => apply execNegGearSwitch_reach Reach.refl <;> intros <;> rfl
  | negLockTimeout => apply execNegLockTimeout_reach Reach.refl <;> intros <;> rfl
  | negTrainTimeout => apply execNegTrainTimeout_reach Reach.refl <;> intros <;> rfl
  | negWaitExpiry => apply execNegWaitExpiry_reach Reach.refl <;> intros <;> rfl
  | forcedCdrLock => apply execForcedCdrLock_reach Reach.refl <;> intros <;> rfl
  | hlLos => apply execHlLos_reach Reach.refl <;> intros <;> rfl
  | hlSignalReturn => apply execHlSignalReturn_reach Reach.refl <;> intros <;> rfl
  | hlLol => apply execHlLol_reach Reach.refl <;> intros <;> rfl
  | hostGearsTimeout => apply execHostGearsTimeout_reach Reach.refl <;> intros <;> rfl
  | idleEnter => apply execIdleEnter_reach Reach.refl <;> intros <;> rfl
  | idleFastExit => apply execIdleFastExit_reach Reach.refl <;> intros <;> rfl
  | hostIdleAnnounceRx => apply execHostIdleAnnounceRx_reach Reach.refl <;> intros <;> rfl
  | hostIdleExitRx => apply execHostIdleExitRx_reach Reach.refl <;> intros <;> rfl
  | escanStart => apply execEscanStart_reach Reach.refl <;> intros <;> rfl
  | escanDone => apply execEscanDone_reach Reach.refl <;> intros <;> rfl
  | eyeSweepDone => apply execEyeSweepDone_reach Reach.refl <;> intros <;> rfl
  | pcsAligned => apply execPcsAligned_reach Reach.refl <;> intros <;> rfl
  | pcsAlignLoss => apply execPcsAlignLoss_reach Reach.refl <;> intros <;> rfl
  | hostFecCodeword => apply execHostFecCodeword_reach Reach.refl <;> intros <;> rfl
  | hostFecDegradeInterval => apply execHostFecDegradeInterval_reach Reach.refl <;> intros <;> rfl
  | hostFrameRx => apply execHostFrameRx_reach Reach.refl <;> intros <;> rfl
  | frameDecisionPoint => apply execFrameDecisionPoint_reach Reach.refl <;> intros <;> rfl
  | stagedFrameRelease => apply execStagedFrameRelease_reach Reach.refl <;> intros <;> rfl
  | ctFrameFail => apply execCtFrameFail_reach Reach.refl <;> intros <;> rfl
  | schedulerSelect => apply execSchedulerSelect_reach Reach.refl <;> intros <;> rfl
  | hostFrameStart => apply execHostFrameStart_reach Reach.refl <;> intros <;> rfl
  | pfcXoffStart => apply execPfcXoffStart_reach Reach.refl <;> intros <;> rfl
  | pfcXon => apply execPfcXon_reach Reach.refl <;> intros <;> rfl
  | pfcRefreshTimer => apply execPfcRefreshTimer_reach Reach.refl <;> intros <;> rfl
  | qsClsInsert => apply execQsClsInsert_reach Reach.refl <;> intros <;> rfl
  | qsClsDelete => apply execQsClsDelete_reach Reach.refl <;> intros <;> rfl
  | qsClsLookup => apply execQsClsLookup_reach Reach.refl <;> intros <;> rfl
  | qsWindowCommit => apply execQsWindowCommit_reach Reach.refl <;> intros <;> rfl
  | qsCommitApply => apply execQsCommitApply_reach Reach.refl <;> intros <;> rfl
  | gateCommit => apply execGateCommit_reach Reach.refl <;> intros <;> rfl
  | gateListStart => apply execGateListStart_reach Reach.refl <;> intros <;> rfl
  | drainEnd => apply execDrainEnd_reach Reach.refl <;> intros <;> rfl
  | panCorrectedRead => apply execPanCorrectedRead_reach Reach.refl <;> intros <;> rfl
  | panWriteBack => apply execPanWriteBack_reach Reach.refl <;> intros <;> rfl
  | panUncorrectableRead => apply execPanUncorrectableRead_reach Reach.refl <;> intros <;> rfl
  | mergeFlush => apply execMergeFlush_reach Reach.refl <;> intros <;> rfl
  | scrubLapEnd => apply execScrubLapEnd_reach Reach.refl <;> intros <;> rfl
  | trackerClearTimer => apply execTrackerClearTimer_reach Reach.refl <;> intros <;> rfl
  | pageMigrationStart => apply execPageMigrationStart_reach Reach.refl <;> intros <;> rfl
  | pageMigrationDone => apply execPageMigrationDone_reach Reach.refl <;> intros <;> rfl
  | pteWalk => apply execPteWalk_reach Reach.refl <;> intros <;> rfl
  | pteRebuildDone => apply execPteRebuildDone_reach Reach.refl <;> intros <;> rfl
  | courierDescPost => apply execCourierDescPost_reach Reach.refl <;> intros <;> rfl
  | courierPreempt => apply execCourierPreempt_reach Reach.refl <;> intros <;> rfl
  | courierDescDone => apply execCourierDescDone_reach Reach.refl <;> intros <;> rfl
  | courierFault => apply execCourierFault_reach Reach.refl <;> intros <;> rfl
  | courierResume => apply execCourierResume_reach Reach.refl <;> intros <;> rfl
  | courierAbort => apply execCourierAbort_reach Reach.refl <;> intros <;> rfl
  | courierCipherResume => apply execCourierCipherResume_reach Reach.refl <;> intros <;> rfl
  | pcieCompletionTimeout => apply execPcieCompletionTimeout_reach Reach.refl <;> intros <;> rfl
  | pcieUnexpectedCompletion => apply execPcieUnexpectedCompletion_reach Reach.refl <;> intros <;> rfl
  | pcieLinkDown => apply execPcieLinkDown_reach Reach.refl <;> intros <;> rfl
  | perstAssert => apply execPerstAssert_reach Reach.refl <;> intros <;> rfl
  | keyFlitRx => apply execKeyFlitRx_reach Reach.refl <;> intros <;> rfl
  | wrapNonceRetry => apply execWrapNonceRetry_reach Reach.refl <;> intros <;> rfl
  | kchFragmentRx => apply execKchFragmentRx_reach Reach.refl <;> intros <;> rfl
  | kchReassemblyTimeout => apply execKchReassemblyTimeout_reach Reach.refl <;> intros <;> rfl
  | kchHelloRx => apply execKchHelloRx_reach Reach.refl <;> intros <;> rfl
  | kchReplyRx => apply execKchReplyRx_reach Reach.refl <;> intros <;> rfl
  | kchAuthRx => apply execKchAuthRx_reach Reach.refl <;> intros <;> rfl
  | kchConfirmRx => apply execKchConfirmRx_reach Reach.refl <;> intros <;> rfl
  | kchKeyNextRx => apply execKchKeyNextRx_reach Reach.refl <;> intros <;> rfl
  | kchKeyReadyRx => apply execKchKeyReadyRx_reach Reach.refl <;> intros <;> rfl
  | kchKeyRefuseRx => apply execKchKeyRefuseRx_reach Reach.refl <;> intros <;> rfl
  | kchAbortRx => apply execKchAbortRx_reach Reach.refl <;> intros <;> rfl
  | kchResendTimer => apply execKchResendTimer_reach Reach.refl <;> intros <;> rfl
  | keyNextResend => apply execKeyNextResend_reach Reach.refl <;> intros <;> rfl
  | rekeyRetryTimer => apply execRekeyRetryTimer_reach Reach.refl <;> intros <;> rfl
  | keyAgreeTimeout => apply execKeyAgreeTimeout_reach Reach.refl <;> intros <;> rfl
  | handshakeRetryTimer => apply execHandshakeRetryTimer_reach Reach.refl <;> intros <;> rfl
  | spanRekeyTimer => apply execSpanRekeyTimer_reach Reach.refl <;> intros <;> rfl
  | rekeyTimer => apply execRekeyTimer_reach Reach.refl <;> intros <;> rfl
  | containerFrameSeal => apply execContainerFrameSeal_reach Reach.refl <;> intros <;> rfl
  | sealVerdict => apply execSealVerdict_reach Reach.refl <;> intros <;> rfl
  | rxOldKeyErase => apply execRxOldKeyErase_reach Reach.refl <;> intros <;> rfl
  | svcLockRequest => apply execSvcLockRequest_reach Reach.refl <;> intros <;> rfl
  | svcLockRelease => apply execSvcLockRelease_reach Reach.refl <;> intros <;> rfl
  | svcSuspendTimeout => apply execSvcSuspendTimeout_reach Reach.refl <;> intros <;> rfl
  | entropyHealthFail => apply execEntropyHealthFail_reach Reach.refl <;> intros <;> rfl
  | entropyRetest => apply execEntropyRetest_reach Reach.refl <;> intros <;> rfl
  | tamperTrip => apply execTamperTrip_reach Reach.refl <;> intros <;> rfl
  | tamperHoldExpiry => apply execTamperHoldExpiry_reach Reach.refl <;> intros <;> rfl
  | bellTxMessageStart => apply execBellTxMessageStart_reach Reach.refl <;> intros <;> rfl
  | bellTxDone => apply execBellTxDone_reach Reach.refl <;> intros <;> rfl
  | bellPathChange => apply execBellPathChange_reach Reach.refl <;> intros <;> rfl
  | bellHelloTimer => apply execBellHelloTimer_reach Reach.refl <;> intros <;> rfl
  | bellParkedTimer => apply execBellParkedTimer_reach Reach.refl <;> intros <;> rfl
  | bellWakeTimer => apply execBellWakeTimer_reach Reach.refl <;> intros <;> rfl
  | bellDetect => apply execBellDetect_reach Reach.refl <;> intros <;> rfl
  | bellSyncFound => apply execBellSyncFound_reach Reach.refl <;> intros <;> rfl
  | bellSyncTimeout => apply execBellSyncTimeout_reach Reach.refl <;> intros <;> rfl
  | bellHeaderDone => apply execBellHeaderDone_reach Reach.refl <;> intros <;> rfl
  | bellBodyDone => apply execBellBodyDone_reach Reach.refl <;> intros <;> rfl
  | bellSignalFade => apply execBellSignalFade_reach Reach.refl <;> intros <;> rfl
  | bellCapture => apply execBellCapture_reach Reach.refl <;> intros <;> rfl
  | bellNoiseUpdate => apply execBellNoiseUpdate_reach Reach.refl <;> intros <;> rfl
  | bellHelloRx => apply execBellHelloRx_reach Reach.refl <;> intros <;> rfl
  | bellLastGaspRx => apply execBellLastGaspRx_reach Reach.refl <;> intros <;> rfl
  | bellWakeRx => apply execBellWakeRx_reach Reach.refl <;> intros <;> rfl
  | bellParkedRx => apply execBellParkedRx_reach Reach.refl <;> intros <;> rfl
  | bellCompatRx => apply execBellCompatRx_reach Reach.refl <;> intros <;> rfl
  | peerParkedTimeout => apply execPeerParkedTimeout_reach Reach.refl <;> intros <;> rfl
  | bellDiscoverTimeout => apply execBellDiscoverTimeout_reach Reach.refl <;> intros <;> rfl
  | refMonitorUpdate => apply execRefMonitorUpdate_reach Reach.refl <;> intros <;> rfl
  | refLos => apply execRefLos_reach Reach.refl <;> intros <;> rfl
  | refWtrExpiry => apply execRefWtrExpiry_reach Reach.refl <;> intros <;> rfl
  | dpllPullEnd => apply execDpllPullEnd_reach Reach.refl <;> intros <;> rfl
  | dpllLock => apply execDpllLock_reach Reach.refl <;> intros <;> rfl
  | xoLoss => apply execXoLoss_reach Reach.refl <;> intros <;> rfl
  | ppsEnable => apply execPpsEnable_reach Reach.refl <;> intros <;> rfl
  | ppsEdge => apply execPpsEdge_reach Reach.refl <;> intros <;> rfl
  | ppsinEdge => apply execPpsinEdge_reach Reach.refl <;> intros <;> rfl
  | tbSet => apply execTbSet_reach Reach.refl <;> intros <;> rfl
  | tbHostApply => apply execTbHostApply_reach Reach.refl <;> intros <;> rfl
  | tbServoSample => apply execTbServoSample_reach Reach.refl <;> intros <;> rfl
  | tbSampleTimeout => apply execTbSampleTimeout_reach Reach.refl <;> intros <;> rfl
  | ptpSyncTimer => apply execPtpSyncTimer_reach Reach.refl <;> intros <;> rfl
  | ptpSyncRx => apply execPtpSyncRx_reach Reach.refl <;> intros <;> rfl
  | ptpFollowUpRx => apply execPtpFollowUpRx_reach Reach.refl <;> intros <;> rfl
  | ptpDelayReqRx => apply execPtpDelayReqRx_reach Reach.refl <;> intros <;> rfl
  | ptpDelayRespRx => apply execPtpDelayRespRx_reach Reach.refl <;> intros <;> rfl
  | ssmTx => apply execSsmTx_reach Reach.refl <;> intros <;> rfl
  | ssmRx => apply execSsmRx_reach Reach.refl <;> intros <;> rfl
  | triggerArm => apply execTriggerArm_reach Reach.refl <;> intros <;> rfl
  | triggerDisarm => apply execTriggerDisarm_reach Reach.refl <;> intros <;> rfl
  | triggerFire => apply execTriggerFire_reach Reach.refl <;> intros <;> rfl
  | triggerHeldLoad => apply execTriggerHeldLoad_reach Reach.refl <;> intros <;> rfl
  | monConversion => apply execMonConversion_reach Reach.refl <;> intros <;> rfl
  | monLapEnd => apply execMonLapEnd_reach Reach.refl <;> intros <;> rfl
  | filterSync => apply execFilterSync_reach Reach.refl <;> intros <;> rfl
  | syscalStart => apply execSyscalStart_reach Reach.refl <;> intros <;> rfl
  | syscalDone => apply execSyscalDone_reach Reach.refl <;> intros <;> rfl
  | biasLockinOutput => apply execBiasLockinOutput_reach Reach.refl <;> intros <;> rfl
  | biasWrapDone => apply execBiasWrapDone_reach Reach.refl <;> intros <;> rfl
  | biasOutputFault => apply execBiasOutputFault_reach Reach.refl <;> intros <;> rfl
  | biasPhaseAcqTimeout => apply execBiasPhaseAcqTimeout_reach Reach.refl <;> intros <;> rfl
  | biasRestart => apply execBiasRestart_reach Reach.refl <;> intros <;> rfl
  | biasWrapNow => apply execBiasWrapNow_reach Reach.refl <;> intros <;> rfl
  | convSliceMeasure => apply execConvSliceMeasure_reach Reach.refl <;> intros <;> rfl
  | convTempUpdate => apply execConvTempUpdate_reach Reach.refl <;> intros <;> rfl
  | railFail => apply execRailFail_reach Reach.refl <;> intros <;> rfl
  | railRecovered => apply execRailRecovered_reach Reach.refl <;> intros <;> rfl
  | hvRailFail => apply execHvRailFail_reach Reach.refl <;> intros <;> rfl
  | hvRailRecovered => apply execHvRailRecovered_reach Reach.refl <;> intros <;> rfl
  | ksDrainEnd => apply execKsDrainEnd_reach Reach.refl <;> intros <;> rfl
  | ksStageComplete => apply execKsStageComplete_reach Reach.refl <;> intros <;> rfl
  | ksWakeSource => apply execKsWakeSource_reach Reach.refl <;> intros <;> rfl
  | ksWakeTimer => apply execKsWakeTimer_reach Reach.refl <;> intros <;> rfl
  | wakeNLow => apply execWakeNLow_reach Reach.refl <;> intros <;> rfl
  | ksWakeComplete => apply execKsWakeComplete_reach Reach.refl <;> intros <;> rfl
  | sysRstLow => apply execSysRstLow_reach Reach.refl <;> intros <;> rfl
  | sysRstRise => apply execSysRstRise_reach Reach.refl <;> intros <;> rfl
  | alarmStickySet => apply execAlarmStickySet_reach Reach.refl <;> intros <;> rfl
  | alarmReportRx => apply execAlarmReportRx_reach Reach.refl <;> intros <;> rfl
  | farStatusTx => apply execFarStatusTx_reach Reach.refl <;> intros <;> rfl
  | farStatusRx => apply execFarStatusRx_reach Reach.refl <;> intros <;> rfl
  | farStatusStale => apply execFarStatusStale_reach Reach.refl <;> intros <;> rfl
  | levelCounterTick => apply execLevelCounterTick_reach Reach.refl <;> intros <;> rfl
  | telDoorbellWrite => apply execTelDoorbellWrite_reach Reach.refl <;> intros <;> rfl
  | telSnapshotTimer => apply execTelSnapshotTimer_reach Reach.refl <;> intros <;> rfl
  | crcSubmit => apply execCrcSubmit_reach Reach.refl <;> intros <;> rfl
  | crcJobEnd => apply execCrcJobEnd_reach Reach.refl <;> intros <;> rfl
  | injFire => apply execInjFire_reach Reach.refl <;> intros <;> rfl
  | injStop => apply execInjStop_reach Reach.refl <;> intros <;> rfl
  | injApply => apply execInjApply_reach Reach.refl <;> intros <;> rfl
  | jtagBypass => apply execJtagBypass_reach Reach.refl <;> intros <;> rfl
  | jtagIdcode => apply execJtagIdcode_reach Reach.refl <;> intros <;> rfl
  | jtagSamplePreload => apply execJtagSamplePreload_reach Reach.refl <;> intros <;> rfl
  | jtagExtest => apply execJtagExtest_reach Reach.refl <;> intros <;> rfl
  | vddAoApplied => apply execVddAoApplied_reach Reach.refl <;> intros <;> rfl
  | vddAoLoss => apply execVddAoLoss_reach Reach.refl <;> intros <;> rfl
  | perstRelease => apply execPerstRelease_reach Reach.refl <;> intros <;> rfl
  | xoHoldRecovered => apply execXoHoldRecovered_reach Reach.refl <;> intros <;> rfl
  | holdoverHistoryValid => apply execHoldoverHistoryValid_reach Reach.refl <;> intros <;> rfl
  | bellNotAvailableTimeout => apply execBellNotAvailableTimeout_reach Reach.refl <;> intros <;> rfl
  | crcResultStatusRead => apply execCrcResultStatusRead_reach Reach.refl <;> intros <;> rfl
  | prbsCheckerSync => apply execPrbsCheckerSync_reach Reach.refl <;> intros <;> rfl
  | rxDspFrame => apply execRxDspFrame_reach Reach.refl <;> intros <;> rfl
  | lineFrameTx => apply execLineFrameTx_reach Reach.refl <;> intros <;> rfl

/-- Settles O3, command by command (that none ends in a fault or a refusal is the model's reading, log 14). -/
theorem everyCommandAnswers : Obligations.EveryCommandAnswers := by
  unfold Obligations.EveryCommandAnswers
  intro c s
  obtain ⟨t, ht, hr⟩ := exec_answers c s
  exact ⟨t, ht, hr.parts .pending (by decide)⟩

/-- Settles O4: a command and a passing nanosecond are both made of writes that keep the canonical forms. -/
theorem stepKeepsForm : Obligations.StepKeepsForm := by
  unfold Obligations.StepKeepsForm
  intro s t hs ht
  unfold step at ht
  split at ht
  case h_1 =>
    cases ht
    have hr : Reach (fun _ => true) (fun _ => true) s s.idleTick := by
      apply State.idleTick_reach Reach.refl <;> intros <;> rfl
    exact hr.wf hs
  case h_2 c rest hq =>
    obtain ⟨u, hu, hr⟩ := exec_answers c { s with pending := rest }
    cases ht.symm.trans hu
    exact hr.wf hs

end Sys2Proof.Machine
end

section
/-!
What the commands of the Chain, the line, the keys, the clocks and the analogue front end leave alone: each moves no cell and
no part outside its footprint.  Every case cites what the command may change (Laws/Moves*.lean) and finds each such cell in the
footprint.
-/
set_option Elab.async false
namespace Sys2Proof.Machine

variable {P : Key → Bool} {Q : Part → Bool} {s0 s : State}

/-- A cell that no list of a footprint names stays. -/
theorem Foot.moves_eq_false {f : Foot} {c : Cell} (hs : c.summary = false) (hk : c.kind = none)
    (hl : (f.every ++ f.own ++ f.lead).contains c = false) (die d i : Nat) : f.moves die ⟨c, d, i⟩ = false := by
  simp only [List.contains_eq_mem, List.mem_append, decide_eq_false_iff_not, not_or] at hl
  obtain ⟨⟨he, ho⟩, hl⟩ := hl
  simp [Foot.moves, hs, hk, he, ho, hl]

/-- With no RESTART pending, none begins. -/
theorem State.restartFollow_reach_idle (hs : Reach P Q s0 s) (hp : P ⟨.sys .restartPend, 0, 0⟩ = false)
    (h0 : s0.flag (.sys .restartPend) 0 0 = false) : Reach P Q s0 s.restartFollow := by
  have hr : s.flag (.sys .restartPend) 0 0 = false := by
    rw [← h0]
    exact congrArg (fun v => decide (v ≠ 0)) (hs.cells ⟨.sys .restartPend, 0, 0⟩ hp)
  simpa [State.restartFollow, hr] using hs

/-- With no RESTART pending, the transmitter follows its pending messages and nothing more. -/
theorem State.bellFollow_restartFollow_reach {d : Nat} (hs : Reach P Q s0 s) (h1 : ∀ i, P ⟨.sticky .bellTxBlocked, d, i⟩)
    (h2 : ∀ i, P ⟨.bell .pend, d, i⟩) (h3 : ∀ i, P ⟨.live .bellTxBlocked, d, i⟩) (h4 : ∀ i, P ⟨.bell .txState, d, i⟩)
    (qreports : Q .reports) (hp : P ⟨.sys .restartPend, 0, 0⟩ = false) (h0 : s0.flag (.sys .restartPend) 0 0 = false) :
    Reach P Q s0 (s.bellFollow d).restartFollow :=
  State.restartFollow_reach_idle (State.bellFollow_reach hs h1 h2 h3 h4 qreports) hp h0

/-- A command of the Chain stays within its footprint. -/
theorem exec_reach_chain (c : Instr) (s : State) (die : Nat) (f : Foot) (hf : c.foot s = some (.chain, die, f)) :
    ∃ t, exec c s = .next t ∧ Reach (f.moves die) f.touches s t := by
  cases c <;> try (exfalso; first | (cases hf; done) | (change (if _ then _ else _) = _ at hf; split_ifs at hf <;> cases hf; ))
  case' chainFlitTx => cases hf; apply execChainFlitTx_reach Reach.refl
  case' chainFlitRx => cases hf; apply execChainFlitRx_reach Reach.refl
  case' chainPortEnable => cases hf; apply execChainPortEnable_reach Reach.refl
  case' chainPortDisable => cases hf; apply execChainPortDisable_reach Reach.refl
  case' chainTrainAttemptEnd => cases hf; apply execChainTrainAttemptEnd_reach Reach.refl
  case' chainClkLoss => cases hf; apply execChainClkLoss_reach Reach.refl
  case' chainReplayLimit => cases hf; apply execChainReplayLimit_reach Reach.refl
  case' chainPeerRetrain => cases hf; apply execChainPeerRetrain_reach Reach.refl
  case' chainHeldFlitRelease => cases hf; apply execChainHeldFlitRelease_reach Reach.refl
  case' spokeFrameRx => cases hf; apply execSpokeFrameRx_reach Reach.refl
  case' spokeLost => cases hf; apply execSpokeLost_reach Reach.refl
  all_goals
    intros
    with_reducible first
    | exact Foot.moves_own (by decide +kernel)
    | exact Foot.moves_lead (by decide +kernel)
    | exact Foot.moves_every (by decide +kernel)
    | exact Foot.moves_summary ‹_›
    | exact Foot.moves_ownKind rfl (by decide +kernel)
    | decide +kernel

/-- A command of the line, the framing, Tandem, Peloton or Derailleur stays within its footprint. -/
theorem exec_reach_line (c : Instr) (s : State) (die : Nat) (f : Foot) (hf : c.foot s = some (.line, die, f)) :
    ∃ t, exec c s = .next t ∧ Reach (f.moves die) f.touches s t := by
  cases c <;> try (exfalso; first | (cases hf; done) | (change (if _ then _ else _) = _ at hf; split_ifs at hf <;> cases hf))
  case ctWindowCommit =>
    cases hf
    apply execCtWindowCommit_reach Reach.refl <;> intros <;> simp_all [Foot.moves, Foot.touches]
  case' laserDiscover => cases hf; apply execLaserDiscover_reach Reach.refl
  case' acquireLine => cases hf; apply execAcquireLine_reach Reach.refl
  case' txEnRise => cases hf; apply execTxEnRise_reach Reach.refl
  case' txEnFall => cases hf; apply execTxEnFall_reach Reach.refl
  case' txWaitEnd => cases hf; apply execTxWaitEnd_reach Reach.refl
  case' txRampComplete => cases hf; apply execTxRampComplete_reach Reach.refl
  case' txMuteCauseSet => cases hf; apply execTxMuteCauseSet_reach Reach.refl
  case' txMuteCauseClear => cases hf; apply execTxMuteCauseClear_reach Reach.refl
  case' dspFrameBoundary => cases hf; apply execDspFrameBoundary_reach Reach.refl
  case' dacClipWindow => cases hf; apply execDacClipWindow_reach Reach.refl
  case' ltFirApply => cases hf; apply execLtFirApply_reach Reach.refl
  case' lasTransaction => cases hf; apply execLasTransaction_reach Reach.refl
  case' lasRetryWaitExpiry => cases hf; apply execLasRetryWaitExpiry_reach Reach.refl
  case' lasPresenceLost => cases hf; apply execLasPresenceLost_reach Reach.refl
  case' lasPoll => cases hf; apply execLasPoll_reach Reach.refl
  case' lasTuneTimeout => cases hf; apply execLasTuneTimeout_reach Reach.refl
  case' lasRecoverTimer => cases hf; apply execLasRecoverTimer_reach Reach.refl
  case' lasGridChange => cases hf; apply execLasGridChange_reach Reach.refl
  case' lasEnRise => cases hf; apply execLasEnRise_reach Reach.refl
  case' lasEnFall => cases hf; apply execLasEnFall_reach Reach.refl
  case' rxEnRise => cases hf; apply execRxEnRise_reach Reach.refl
  case' rxEnFall => cases hf; apply execRxEnFall_reach Reach.refl
  case' acqStepPass => cases hf; apply execAcqStepPass_reach Reach.refl
  case' acqStepTimeout => cases hf; apply execAcqStepTimeout_reach Reach.refl
  case' failedWaitExpiry => cases hf; apply execFailedWaitExpiry_reach Reach.refl
  case' rxLos => cases hf; apply execRxLos_reach Reach.refl
  case' rxPowerReturn => cases hf; apply execRxPowerReturn_reach Reach.refl
  case' holdExpiry => cases hf; apply execHoldExpiry_reach Reach.refl
  case' rxLoLost => cases hf; apply execRxLoLost_reach Reach.refl
  case' eqSlip => cases hf; apply execEqSlip_reach Reach.refl
  case' syncLoss => cases hf; apply execSyncLoss_reach Reach.refl
  case' freqOffsetExceeded => cases hf; apply execFreqOffsetExceeded_reach Reach.refl
  case' cycleSlip => cases hf; apply execCycleSlip_reach Reach.refl
  case' agcFastStep => cases hf; apply execAgcFastStep_reach Reach.refl
  case' adcClipWindow => cases hf; apply execAdcClipWindow_reach Reach.refl
  case' adcOverload => cases hf; apply execAdcOverload_reach Reach.refl
  case' rxPwrLow => cases hf; apply execRxPwrLow_reach Reach.refl
  case' cdReprogram => cases hf; apply execCdReprogram_reach Reach.refl
  case' qualityWindowEnd => cases hf; apply execQualityWindowEnd_reach Reach.refl
  case' superframeEncodeStart => cases hf; apply execSuperframeEncodeStart_reach Reach.refl
  case' fecLockCandidate => cases hf; apply execFecLockCandidate_reach Reach.refl
  case' codewordDecode => cases hf; apply execCodewordDecode_reach Reach.refl
  case' outerRowExit => cases hf; apply execOuterRowExit_reach Reach.refl
  case' fecSfInterval => cases hf; apply execFecSfInterval_reach Reach.refl
  case' fasPatternFound => cases hf; apply execFasPatternFound_reach Reach.refl
  case' lineFrameRx => cases hf; apply execLineFrameRx_reach Reach.refl
  case' lofTimer => cases hf; apply execLofTimer_reach Reach.refl
  case' containerFrameRx => cases hf; apply execContainerFrameRx_reach Reach.refl
  case' gapMarkerRx => cases hf; apply execGapMarkerRx_reach Reach.refl
  case' errorMarkerRx => cases hf; apply execErrorMarkerRx_reach Reach.refl
  case' apsFopTimer => cases hf; apply execApsFopTimer_reach Reach.refl
  case' pmDegSecond => cases hf; apply execPmDegSecond_reach Reach.refl
  case' bondArrivalReport => cases hf; apply execBondArrivalReport_reach Reach.refl
  case' bondRealign => cases hf; apply execBondRealign_reach Reach.refl
  case' gcc0FrameRx => cases hf; apply execGcc0FrameRx_reach Reach.refl
  case' ctCommitApply => cases hf; apply execCtCommitApply_reach Reach.refl
  case' tandemFrameDeliver => cases hf; apply execTandemFrameDeliver_reach Reach.refl
  case' tandemSelect => cases hf; apply execTandemSelect_reach Reach.refl
  case' tandemHoldoffExpiry => cases hf; apply execTandemHoldoffExpiry_reach Reach.refl
  case' tandemWtrExpiry => cases hf; apply execTandemWtrExpiry_reach Reach.refl
  case' sealRequestClear => cases hf; apply execSealRequestClear_reach Reach.refl
  case' tandemRealign => cases hf; apply execTandemRealign_reach Reach.refl
  case' tandemPathPresence => cases hf; apply execTandemPathPresence_reach Reach.refl
  case' pelEnvelopeRx => cases hf; apply execPelEnvelopeRx_reach Reach.refl
  case' pelNeighbourEvent => cases hf; apply execPelNeighbourEvent_reach Reach.refl
  case' pelSuspendExpiry => cases hf; apply execPelSuspendExpiry_reach Reach.refl
  case' derProposeRx => cases hf; apply execDerProposeRx_reach Reach.refl
  case' derArmedRx => cases hf; apply execDerArmedRx_reach Reach.refl
  case' derRefuseRx => cases hf; apply execDerRefuseRx_reach Reach.refl
  case' derCommitRx => cases hf; apply execDerCommitRx_reach Reach.refl
  case' derCancelRx => cases hf; apply execDerCancelRx_reach Reach.refl
  case' derDoneRx => cases hf; apply execDerDoneRx_reach Reach.refl
  case' derResendTimer => cases hf; apply execDerResendTimer_reach Reach.refl
  case' derUnitArmReport => cases hf; apply execDerUnitArmReport_reach Reach.refl
  case' derArmTimeout => cases hf; apply execDerArmTimeout_reach Reach.refl
  case' derLatchPoint => cases hf; apply execDerLatchPoint_reach Reach.refl
  case' derTxSwitch => cases hf; apply execDerTxSwitch_reach Reach.refl
  case' derRxSwitch => cases hf; apply execDerRxSwitch_reach Reach.refl
  case' derSideDone => cases hf; apply execDerSideDone_reach Reach.refl
  case' derRollbackDecision => cases hf; apply execDerRollbackDecision_reach Reach.refl
  case' derRollbackReturn => cases hf; apply execDerRollbackReturn_reach Reach.refl
  case' derResultSet => cases hf; apply execDerResultSet_reach Reach.refl
  case' rxDspFrame => cases hf; apply execRxDspFrame_reach Reach.refl
  case' lineFrameTx => cases hf; apply execLineFrameTx_reach Reach.refl
  all_goals
    intros
    with_reducible first
    | exact Foot.moves_own (by decide +kernel)
    | exact Foot.moves_lead (by decide +kernel)
    | exact Foot.moves_every (by decide +kernel)
    | exact Foot.moves_summary ‹_›
    | exact Foot.moves_ownKind rfl (by decide +kernel)
    | decide +kernel

/-- A command of the Saddlebag, the seals or the Bell channel stays within its footprint. -/
theorem exec_reach_keys (c : Instr) (s : State) (die : Nat) (f : Foot) (hf : c.foot s = some (.keys, die, f)) :
    ∃ t, exec c s = .next t ∧ Reach (f.moves die) f.touches s t := by
  cases c <;> try (exfalso; first | (cases hf; done) | (change (if _ then _ else _) = _ at hf; split_ifs at hf <;> cases hf; done))
  case bellTxDone =>
    change (if _ then _ else _) = _ at hf
    split_ifs at hf with hr
    cases hf
    apply finishIf_reach Reach.refl (fun _ => Foot.moves_summary) rfl
    intro x hx
    apply State.bellFollow_restartFollow_reach (h0 := by simpa using hr)
    apply State.bellStop_reach
    apply State.inc_reach hx
    all_goals
      intros
      with_reducible first
      | exact Foot.moves_own (by decide +kernel)
      | exact Foot.moves_lead (by decide +kernel)
      | exact Foot.moves_eq_false rfl rfl (by decide +kernel) ..
      | decide +kernel
  case bellPathChange =>
    change (if _ then _ else _) = _ at hf
    split_ifs at hf with hr
    cases hf
    apply finishIf_reach Reach.refl (fun _ => Foot.moves_summary) rfl
    intro x hx
    dsimp only
    split <;> apply State.bellFollow_restartFollow_reach (h0 := by simpa using hr)
    case' isTrue.hs => apply State.bellAbandon_reach hx
    case' isFalse.hs => exact hx
    all_goals
      intros
      with_reducible first
      | exact Foot.moves_own (by decide +kernel)
      | exact Foot.moves_lead (by decide +kernel)
      | exact Foot.moves_eq_false rfl rfl (by decide +kernel) ..
      | decide +kernel
  case' bellDiscover => cases hf; apply execBellDiscover_reach Reach.refl
  case' keyAgree => cases hf; apply execKeyAgree_reach Reach.refl
  case' derRediscoverTimer => cases hf; apply execDerRediscoverTimer_reach Reach.refl
  case' hostFrameStart => cases hf; apply execHostFrameStart_reach Reach.refl
  case' keyFlitRx => cases hf; apply execKeyFlitRx_reach Reach.refl
  case' wrapNonceRetry => cases hf; apply execWrapNonceRetry_reach Reach.refl
  case' kchFragmentRx => cases hf; apply execKchFragmentRx_reach Reach.refl
  case' kchReassemblyTimeout => cases hf; apply execKchReassemblyTimeout_reach Reach.refl
  case' kchHelloRx => cases hf; apply execKchHelloRx_reach Reach.refl
  case' kchReplyRx => cases hf; apply execKchReplyRx_reach Reach.refl
  case' kchAuthRx => cases hf; apply execKchAuthRx_reach Reach.refl
  case' kchConfirmRx => cases hf; apply execKchConfirmRx_reach Reach.refl
  case' kchKeyNextRx => cases hf; apply execKchKeyNextRx_reach Reach.refl
  case' kchKeyReadyRx => cases hf; apply execKchKeyReadyRx_reach Reach.refl
  case' kchKeyRefuseRx => cases hf; apply execKchKeyRefuseRx_reach Reach.refl
  case' kchAbortRx => cases hf; apply execKchAbortRx_reach Reach.refl
  case' kchResendTimer => cases hf; apply execKchResendTimer_reach Reach.refl
  case' keyNextResend => cases hf; apply execKeyNextResend_reach Reach.refl
  case' rekeyRetryTimer => cases hf; apply execRekeyRetryTimer_reach Reach.refl
  case' keyAgreeTimeout => cases hf; apply execKeyAgreeTimeout_reach Reach.refl
  case' handshakeRetryTimer => cases hf; apply execHandshakeRetryTimer_reach Reach.refl
  case' spanRekeyTimer => cases hf; apply execSpanRekeyTimer_reach Reach.refl
  case' rekeyTimer => cases hf; apply execRekeyTimer_reach Reach.refl
  case' containerFrameSeal => cases hf; apply execContainerFrameSeal_reach Reach.refl
  case' sealVerdict => cases hf; apply execSealVerdict_reach Reach.refl
  case' rxOldKeyErase => cases hf; apply execRxOldKeyErase_reach Reach.refl
  case' entropyHealthFail => cases hf; apply execEntropyHealthFail_reach Reach.refl
  case' entropyRetest => cases hf; apply execEntropyRetest_reach Reach.refl
  case' bellTxMessageStart => cases hf; apply execBellTxMessageStart_reach Reach.refl
  case' bellHelloTimer => cases hf; apply execBellHelloTimer_reach Reach.refl
  case' bellParkedTimer => cases hf; apply execBellParkedTimer_reach Reach.refl
  case' bellWakeTimer => cases hf; apply execBellWakeTimer_reach Reach.refl
  case' bellDetect => cases hf; apply execBellDetect_reach Reach.refl
  case' bellSyncFound => cases hf; apply execBellSyncFound_reach Reach.refl
  case' bellSyncTimeout => cases hf; apply execBellSyncTimeout_reach Reach.refl
  case' bellHeaderDone => cases hf; apply execBellHeaderDone_reach Reach.refl
  case' bellBodyDone => cases hf; apply execBellBodyDone_reach Reach.refl
  case' bellSignalFade => cases hf; apply execBellSignalFade_reach Reach.refl
  case' bellCapture => cases hf; apply execBellCapture_reach Reach.refl
  case' bellNoiseUpdate => cases hf; apply execBellNoiseUpdate_reach Reach.refl
  case' bellHelloRx => cases hf; apply execBellHelloRx_reach Reach.refl
  case' bellLastGaspRx => cases hf; apply execBellLastGaspRx_reach Reach.refl
  case' bellWakeRx => cases hf; apply execBellWakeRx_reach Reach.refl
  case' bellParkedRx => cases hf; apply execBellParkedRx_reach Reach.refl
  case' bellCompatRx => cases hf; apply execBellCompatRx_reach Reach.refl
  case' peerParkedTimeout => cases hf; apply execPeerParkedTimeout_reach Reach.refl
  case' bellDiscoverTimeout => cases hf; apply execBellDiscoverTimeout_reach Reach.refl
  case' bellNotAvailableTimeout => cases hf; apply execBellNotAvailableTimeout_reach Reach.refl
  all_goals
    intros
    with_reducible first
    | exact Foot.moves_own (by decide +kernel)
    | exact Foot.moves_lead (by decide +kernel)
    | exact Foot.moves_every (by decide +kernel)
    | exact Foot.moves_summary ‹_›
    | exact Foot.moves_ownKind rfl (by decide +kernel)
    | decide +kernel

/-- A command of the clocks or the time bases stays within its footprint. -/
theorem exec_reach_clocks (c : Instr) (s : State) (die : Nat) (f : Foot) (hf : c.foot s = some (.clocks, die, f)) :
    ∃ t, exec c s = .next t ∧ Reach (f.moves die) f.touches s t := by
  cases c <;> try (exfalso; first | (cases hf; done) | (change (if _ then _ else _) = _ at hf; split_ifs at hf <;> cases hf))
  case' refMonitorUpdate => cases hf; apply execRefMonitorUpdate_reach Reach.refl
  case' refLos => cases hf; apply execRefLos_reach Reach.refl
  case' refWtrExpiry => cases hf; apply execRefWtrExpiry_reach Reach.refl
  case' dpllPullEnd => cases hf; apply execDpllPullEnd_reach Reach.refl
  case' dpllLock => cases hf; apply execDpllLock_reach Reach.refl
  case' xoLoss => cases hf; apply execXoLoss_reach Reach.refl
  case' ppsEnable => cases hf; apply execPpsEnable_reach Reach.refl
  case' ppsEdge => cases hf; apply execPpsEdge_reach Reach.refl
  case' ppsinEdge => cases hf; apply execPpsinEdge_reach Reach.refl
  case' tbSet => cases hf; apply execTbSet_reach Reach.refl
  case' tbHostApply => cases hf; apply execTbHostApply_reach Reach.refl
  case' tbServoSample => cases hf; apply execTbServoSample_reach Reach.refl
  case' tbSampleTimeout => cases hf; apply execTbSampleTimeout_reach Reach.refl
  case' ptpSyncTimer => cases hf; apply execPtpSyncTimer_reach Reach.refl
  case' ptpSyncRx => cases hf; apply execPtpSyncRx_reach Reach.refl
  case' ptpFollowUpRx => cases hf; apply execPtpFollowUpRx_reach Reach.refl
  case' ptpDelayReqRx => cases hf; apply execPtpDelayReqRx_reach Reach.refl
  case' ptpDelayRespRx => cases hf; apply execPtpDelayRespRx_reach Reach.refl
  case' ssmTx => cases hf; apply execSsmTx_reach Reach.refl
  case' ssmRx => cases hf; apply execSsmRx_reach Reach.refl
  case' triggerArm => cases hf; apply execTriggerArm_reach Reach.refl
  case' triggerDisarm => cases hf; apply execTriggerDisarm_reach Reach.refl
  case' triggerFire => cases hf; apply execTriggerFire_reach Reach.refl
  case' triggerHeldLoad => cases hf; apply execTriggerHeldLoad_reach Reach.refl
  case' xoHoldRecovered => cases hf; apply execXoHoldRecovered_reach Reach.refl
  case' holdoverHistoryValid => cases hf; apply execHoldoverHistoryValid_reach Reach.refl
  all_goals
    intros
    with_reducible first
    | exact Foot.moves_own (by decide +kernel)
    | exact Foot.moves_lead (by decide +kernel)
    | exact Foot.moves_every (by decide +kernel)
    | exact Foot.moves_summary ‹_›
    | exact Foot.moves_ownKind rfl (by decide +kernel)
    | decide +kernel

/-- A command of the monitors, the converters or the bias loops stays within its footprint. -/
theorem exec_reach_analogue (c : Instr) (s : State) (die : Nat) (f : Foot) (hf : c.foot s = some (.analogue, die, f)) :
    ∃ t, exec c s = .next t ∧ Reach (f.moves die) f.touches s t := by
  cases c <;> try (exfalso; first | (cases hf; done) | (change (if _ then _ else _) = _ at hf; split_ifs at hf <;> cases hf))
  case' calConverters => cases hf; apply execCalConverters_reach Reach.refl
  case' biasStart => cases hf; apply execBiasStart_reach Reach.refl
  case' monConversion => cases hf; apply execMonConversion_reach Reach.refl
  case' monLapEnd => cases hf; apply execMonLapEnd_reach Reach.refl
  case' filterSync => cases hf; apply execFilterSync_reach Reach.refl
  case' syscalStart => cases hf; apply execSyscalStart_reach Reach.refl
  case' syscalDone => cases hf; apply execSyscalDone_reach Reach.refl
  case' biasLockinOutput => cases hf; apply execBiasLockinOutput_reach Reach.refl
  case' biasWrapDone => cases hf; apply execBiasWrapDone_reach Reach.refl
  case' biasOutputFault => cases hf; apply execBiasOutputFault_reach Reach.refl
  case' biasPhaseAcqTimeout => cases hf; apply execBiasPhaseAcqTimeout_reach Reach.refl
  case' biasRestart => cases hf; apply execBiasRestart_reach Reach.refl
  case' biasWrapNow => cases hf; apply execBiasWrapNow_reach Reach.refl
  case' convSliceMeasure => cases hf; apply execConvSliceMeasure_reach Reach.refl
  case' convTempUpdate => cases hf; apply execConvTempUpdate_reach Reach.refl
  all_goals
    intros
    with_reducible first
    | exact Foot.moves_own (by decide +kernel)
    | exact Foot.moves_lead (by decide +kernel)
    | exact Foot.moves_every (by decide +kernel)
    | exact Foot.moves_summary ‹_›
    | exact Foot.moves_ownKind rfl (by decide +kernel)
    | decide +kernel

/-- Settles O14: a command of the Chain or the line stays within its footprint. -/
theorem chainAndLineKept : Obligations.ChainAndLineKept := by
  unfold Obligations.ChainAndLineKept
  intro c s t side die f hf hside ht
  obtain ⟨u, hu, hr⟩ : ∃ u, exec c s = .next u ∧ Reach (f.moves die) f.touches s u := by
    rcases hside with rfl | rfl
    · exact exec_reach_chain c s die f hf
    · exact exec_reach_line c s die f hf
  cases ht.symm.trans hu
  exact ⟨hr.cells, hr.parts⟩

/-- Settles O16: a command of the keys, the Bell channel, the clocks or the analogue front end stays within its footprint. -/
theorem keysClocksAnalogueKept : Obligations.KeysClocksAnalogueKept := by
  unfold Obligations.KeysClocksAnalogueKept
  constructor
  · rintro c s t _ die f hf rfl ht
    obtain ⟨u, hu, hr⟩ := exec_reach_keys c s die f hf
    cases ht.symm.trans hu
    exact ⟨hr.cells, hr.parts⟩
  · intro c s t side die f hf hside ht
    obtain ⟨u, hu, hr⟩ : ∃ u, exec c s = .next u ∧ Reach (f.moves die) f.touches s u := by
      rcases hside with rfl | rfl
      · exact exec_reach_clocks c s die f hf
      · exact exec_reach_analogue c s die f hf
    cases ht.symm.trans hu
    exact ⟨hr.cells, hr.parts⟩

end Sys2Proof.Machine
end

section
/-!
PROOF. A counter that is used twice: the statement bounds no word of a ticket, and a delta record with an empty mask cuts
TKT_CTR_LAST to 64 bits.
-/
set_option Elab.async false
namespace Sys2Proof.Machine
open Sys2Proof.Tests

/-- An APPLY_DELTA ticket with the counter 2^64 + 101 and one record: the upper half of TKT_CTR_LAST under an empty mask. -/
def wideWords : List Nat := [0x54494B33, 4772, 10 * 65536 + 0x12, 0, 101, 2 ^ 32, 1, 0, 0x01000003, 0x200C, 0, 0]

/-- The state in which that ticket stands at the front, and a FLASH_RECLAIM ticket with the counter 102 in the mailbox behind it. -/
def wideState : State :=
  { tkSt wideWords [(.tkt .ceiling, 0, 0, 2 ^ 65), (.tkt .mboxLen, 0, 0, 4756)] with
    tickets := [.ring 5, .mailbox]
    mbox := [(0, 0x33#8), (1, 0x4B#8), (2, 0x49#8), (3, 0x54#8), (4, 0x94#8), (5, 0x12#8), (8, 0x12#8), (10, 13#8), (16, 102#8)] }

/-- The state after the first ticket. -/
def wideNext : State := after (.applyDelta (tkTk wideWords)) wideState

/-- The second ticket as the part reads it from the mailbox. -/
def secondIn : TktIn := tkIn ((tkWords 13 0 [] 0 []).set 4 102)

/-- Every check passes on the first ticket. -/
theorem wideState_passes : wideState.passes (tkTk wideWords) (tkIn wideWords) [.write 0x200C 0 0] = true := by decide +kernel

/-- The first ticket leaves 101 where 2^64 + 101 was its counter. -/
theorem wideNext_ctrLast : wideNext.get (.tkt .ctrLast) 0 0 = 101 := by decide +kernel

/-- The second ticket, with the smaller counter 102, is accepted. -/
theorem second_accepted :
    answers (.flashReclaim ⟨[], true, true⟩) wideNext = true ∧
      (after (.flashReclaim ⟨[], true, true⟩) wideNext).get (.tkt .lastCode) 0 0 = stAccepted := by decide +kernel

/-- Refutes O5: the statement bounds neither the words nor the counter of a ticket.  A ticket with the counter 2^64 + 101
may carry the delta record WRITE of TKT_CTR_LAST's upper half with the mask 0, which writes no bit but stores the counter
modulo 2^64: 101.  A second ticket with the counter 102 is then accepted. -/
theorem not_replayRefused : ¬ Obligations.ReplayRefused := by
  unfold Obligations.ReplayRefused
  intro h
  have hfirst : exec (.applyDelta (tkTk wideWords)) wideState = .next wideNext := exec_after (by decide +kernel)
  have hsecond : wideNext.processes ⟨[], true, true⟩ secondIn [] = true := by decide +kernel
  have hnode : secondIn.node = wideNext.get (.tkt .nodeId) 0 0 ∧ wideNext.flag (.tkt .hashFail) 0 0 = false ∧
      secondIn.keyIndex ≤ wideNext.get (.tkt .keys) 0 0 := by decide +kernel
  obtain ⟨u, hu, hcode, -⟩ := h wideState wideNext (tkTk wideWords) ⟨[], true, true⟩ (tkIn wideWords) secondIn
    [.write 0x200C 0 0] [] (.applyDelta, fun c _ => decide (c = cmdApplyDelta))
    (.flashReclaim, fun c _ => decide (c = cmdFlashReclaim)) (by simp [ticketRows]) (by simp [ticketRows]) wideState_passes
    (by decide) (by decide) hfirst hsecond (by decide) hnode.1 hnode.2.1 (by decide) hnode.2.2 (by decide)
  obtain ⟨hanswers, haccepted⟩ := second_accepted
  rw [← Host.Outcome.next.inj ((exec_after hanswers).symm.trans hu), haccepted] at hcode
  exact absurd hcode (by decide)

end Sys2Proof.Machine
end

section
/-!
The reading rules in the form in which `simp` uses them: what a cell and a flag read after each kind of update, after an alarm
at another place, and after a command has settled.  `Reach.get_eq` reads a cell past a whole operation that never touches it.
-/
set_option Elab.async false
namespace Sys2Proof.Machine

variable {s t : State}

-- Cells and flags after an update.

@[simp] theorem State.get_set_ite (s : State) (c c' : Cell) (d d' i i' v : Nat) :
    (s.set c d i v).get c' d' i' = if c' = c ∧ d' = d ∧ i' = i then v else s.get c' d' i' := State.get_set ..

@[simp] theorem State.get_setI_ite (s : State) (c c' : Cell) (d d' i i' : Nat) (v : Int) :
    (s.setI c d i v).get c' d' i' = if c' = c ∧ d' = d ∧ i' = i then enc v else s.get c' d' i' := State.get_setI ..

@[simp] theorem State.get_setB_ite (s : State) (c c' : Cell) (d d' i i' : Nat) (b : Bool) :
    (s.setB c d i b).get c' d' i' = if c' = c ∧ d' = d ∧ i' = i then b.toNat else s.get c' d' i' := State.get_setB ..

@[simp] theorem State.get_add_ite (s : State) (c c' : Cell) (d d' i i' n : Nat) :
    (s.add c d i n).get c' d' i' = if c' = c ∧ d' = d ∧ i' = i then (s.get c d i + n) % 2 ^ 64 else s.get c' d' i' :=
  State.get_add ..

@[simp] theorem State.get_inc_ite (s : State) (c c' : Cell) (d d' i i' : Nat) :
    (s.inc c d i).get c' d' i' = if c' = c ∧ d' = d ∧ i' = i then (s.get c d i + 1) % 2 ^ 64 else s.get c' d' i' :=
  State.get_inc ..

@[simp] theorem State.get_when_ite (s : State) (b : Bool) (f : State → State) (c : Cell) (d i : Nat) :
    (s.when b f).get c d i = if b then (f s).get c d i else s.get c d i := by cases b <;> rfl

@[simp] theorem State.flag_when_ite (s : State) (b : Bool) (f : State → State) (c : Cell) (d i : Nat) :
    (s.when b f).flag c d i = if b then (f s).flag c d i else s.flag c d i := by cases b <;> rfl

@[simp] theorem State.get_ite (p : Prop) [Decidable p] (s t : State) (c : Cell) (d i : Nat) :
    (if p then s else t).get c d i = if p then s.get c d i else t.get c d i := apply_ite (fun x : State => x.get c d i) ..

@[simp] theorem State.flag_ite (p : Prop) [Decidable p] (s t : State) (c : Cell) (d i : Nat) :
    (if p then s else t).flag c d i = if p then s.flag c d i else t.flag c d i := apply_ite (fun x : State => x.flag c d i) ..

@[simp] theorem State.get_incIf_ite (s : State) (b : Bool) (c c' : Cell) (d d' i i' : Nat) :
    (s.incIf b c d i).get c' d' i' =
      if b = true ∧ c' = c ∧ d' = d ∧ i' = i then (s.get c d i + 1) % 2 ^ 64 else s.get c' d' i' := by
  cases b <;> simp [State.incIf]

@[simp] theorem State.flag_set_ite (s : State) (c c' : Cell) (d d' i i' v : Nat) :
    (s.set c d i v).flag c' d' i' = if c' = c ∧ d' = d ∧ i' = i then decide (v ≠ 0) else s.flag c' d' i' := State.flag_set ..

@[simp] theorem State.flag_setB_ite (s : State) (c c' : Cell) (d d' i i' : Nat) (b : Bool) :
    (s.setB c d i b).flag c' d' i' = if c' = c ∧ d' = d ∧ i' = i then b else s.flag c' d' i' := by
  simp only [State.setB, State.flag_set]
  cases b <;> rfl

@[simp] theorem State.flag_setI_other (s : State) {c c' : Cell} (h : c' ≠ c) (d d' i i' : Nat) (v : Int) :
    (s.setI c d i v).flag c' d' i' = s.flag c' d' i' := by
  simp [State.flag, h]

@[simp] theorem State.flag_inc_other (s : State) {c c' : Cell} (h : c' ≠ c) (d d' i i' : Nat) :
    (s.inc c d i).flag c' d' i' = s.flag c' d' i' := by
  simp [State.flag, h]

@[simp] theorem State.flag_add_other (s : State) {c c' : Cell} (h : c' ≠ c) (d d' i i' n : Nat) :
    (s.add c d i n).flag c' d' i' = s.flag c' d' i' := by
  simp [State.flag, h]

@[simp] theorem State.flag_incIf_other (s : State) {c c' : Cell} (h : c' ≠ c) (b : Bool) (d d' i i' : Nat) :
    (s.incIf b c d i).flag c' d' i' = s.flag c' d' i' := by
  simp [State.flag, h]

-- Alarms: what another cell reads, and the alarm's own bits.

@[simp] theorem State.get_raise_other {a : Alm} {c : Cell} (h : c ≠ .live a ∧ c ≠ .sticky a) (d d' i i' : Nat) :
    (s.raise a d i).get c d' i' = s.get c d' i' := State.get_raise h.1 h.2 ..

@[simp] theorem State.flag_raise_other {a : Alm} {c : Cell} (h : c ≠ .live a ∧ c ≠ .sticky a) (d d' i i' : Nat) :
    (s.raise a d i).flag c d' i' = s.flag c d' i' := State.flag_raise h.1 h.2 ..

@[simp] theorem State.get_lower_other {a : Alm} {c : Cell} (h : c ≠ .live a) (d d' i i' : Nat) :
    (s.lower a d i).get c d' i' = s.get c d' i' := State.get_lower h ..

@[simp] theorem State.flag_lower_other {a : Alm} {c : Cell} (h : c ≠ .live a) (d d' i i' : Nat) :
    (s.lower a d i).flag c d' i' = s.flag c d' i' := State.flag_lower h ..

@[simp] theorem State.get_cond_ne {a : Alm} {c : Cell} (h : c ≠ .live a ∧ c ≠ .sticky a) (d d' i i' : Nat) (b : Bool) :
    (s.cond a d i b).get c d' i' = s.get c d' i' := State.get_cond h.1 h.2 ..

@[simp] theorem State.flag_cond_ne {a : Alm} {c : Cell} (h : c ≠ .live a ∧ c ≠ .sticky a) (d d' i i' : Nat) (b : Bool) :
    (s.cond a d i b).flag c d' i' = s.flag c d' i' := State.get_cond_other h.1 h.2 ..

@[simp] theorem State.get_event_other {a : Alm} {c : Cell} (h : c ≠ .sticky a) (d d' i i' : Nat) :
    (s.event a d i).get c d' i' = s.get c d' i' := State.get_event h ..

@[simp] theorem State.flag_event_other {a : Alm} {c : Cell} (h : c ≠ .sticky a) (d d' i i' : Nat) :
    (s.event a d i).flag c d' i' = s.flag c d' i' := State.flag_event h ..

@[simp] theorem State.get_raiseAt_other {a : Alm} {c : Cell} (h : c ≠ .live a ∧ c ≠ .sticky a) (d d' i i' loc : Nat) :
    (s.raiseAt a d i loc).get c d' i' = s.get c d' i' := State.get_raiseAt h.1 h.2 ..

@[simp] theorem State.flag_raiseAt_other {a : Alm} {c : Cell} (h : c ≠ .live a ∧ c ≠ .sticky a) (d d' i i' loc : Nat) :
    (s.raiseAt a d i loc).flag c d' i' = s.flag c d' i' := State.flag_raiseAt h.1 h.2 ..

@[simp] theorem State.get_lowerAt_other {a : Alm} {c : Cell} (h : c ≠ .live a) (d d' i i' loc : Nat) :
    (s.lowerAt a d i loc).get c d' i' = s.get c d' i' := State.get_lowerAt h ..

@[simp] theorem State.flag_lowerAt_other {a : Alm} {c : Cell} (h : c ≠ .live a) (d d' i i' loc : Nat) :
    (s.lowerAt a d i loc).flag c d' i' = s.flag c d' i' := by
  simp only [State.flag, State.get_lowerAt h]

@[simp] theorem State.get_eventAt_other {a : Alm} {c : Cell} (h : c ≠ .sticky a) (d d' i i' loc : Nat) :
    (s.eventAt a d i loc).get c d' i' = s.get c d' i' := State.get_eventAt h ..

@[simp] theorem State.flag_eventAt_other {a : Alm} {c : Cell} (h : c ≠ .sticky a) (d d' i i' loc : Nat) :
    (s.eventAt a d i loc).flag c d' i' = s.flag c d' i' := by
  simp only [State.flag, State.get_eventAt h]

@[simp] theorem State.flag_raiseAt_live (a : Alm) (d i loc : Nat) : (s.raiseAt a d i loc).flag (.live a) d i = true :=
  State.raiseAt_live ..

@[simp] theorem State.flag_lowerAt_live (a : Alm) (d i loc : Nat) : (s.lowerAt a d i loc).flag (.live a) d i = false :=
  State.lowerAt_flag ..

@[simp] theorem State.flag_eventAt_sticky (a : Alm) (d i loc : Nat) : (s.eventAt a d i loc).flag (.sticky a) d i = true :=
  State.eventAt_sticky ..

@[simp] theorem State.flag_raise_live (a : Alm) (d i : Nat) : (s.raise a d i).flag (.live a) d i = true := State.raise_live ..

@[simp] theorem State.flag_lower_live (a : Alm) (d i : Nat) : (s.lower a d i).flag (.live a) d i = false := State.lower_flag ..

@[simp] theorem State.flag_cond_live (a : Alm) (d i : Nat) (b : Bool) : (s.cond a d i b).flag (.live a) d i = b :=
  State.cond_live ..

@[simp] theorem State.flag_event_sticky (a : Alm) (d i : Nat) : (s.event a d i).flag (.sticky a) d i = true :=
  State.event_sticky ..

/-- A condition that begins or ends at one place leaves the bits of every other place. -/
@[simp] theorem State.get_raise_place {a : Alm} {c : Cell} {d d' i i' : Nat} (h : d' ≠ d ∨ i' ≠ i) :
    (s.raise a d i).get c d' i' = s.get c d' i' := by
  unfold State.raise State.raiseAt State.stick
  grind [State.get_set, State.get_report]

-- A command that settles.

@[simp] theorem get_settle_of {c : Cell} (h : c.summary = false) (d i : Nat) : (settle s t).get c d i = t.get c d i :=
  get_settle (by simp [h]) d i

@[simp] theorem flag_settle_of {c : Cell} (h : c.summary = false) (d i : Nat) : (settle s t).flag c d i = t.flag c d i :=
  flag_settle (by simp [h]) d i

@[simp] theorem settle_held : (settle s t).held = t.held := settle_part (p := .held) (by decide)
@[simp] theorem settle_tickets : (settle s t).tickets = t.tickets := settle_part (p := .tickets) (by decide)
@[simp] theorem settle_run : (settle s t).run = t.run := settle_part (p := .run) (by decide)
@[simp] theorem settle_policy : (settle s t).policy = t.policy := settle_part (p := .policy) (by decide)
@[simp] theorem settle_cands : (settle s t).cands = t.cands := settle_part (p := .cands) (by decide)
@[simp] theorem settle_telOut : (settle s t).telOut = t.telOut := settle_part (p := .telOut) (by decide)
@[simp] theorem settle_clsTab : (settle s t).clsTab = t.clsTab := settle_part (p := .clsTab) (by decide)
@[simp] theorem settle_tracker : (settle s t).tracker = t.tracker := settle_part (p := .tracker) (by decide)
@[simp] theorem settle_retireQ : (settle s t).retireQ = t.retireQ := settle_part (p := .retireQ) (by decide)
@[simp] theorem settle_merge : (settle s t).merge = t.merge := settle_part (p := .merge) (by decide)
@[simp] theorem settle_descs : (settle s t).descs = t.descs := settle_part (p := .descs) (by decide)
@[simp] theorem settle_kch : (settle s t).kch = t.kch := settle_part (p := .kch) (by decide)
@[simp] theorem settle_fups : (settle s t).fups = t.fups := settle_part (p := .fups) (by decide)

/-- A command without a condition of its own completes in the settled state. -/
theorem completes_finish {c : Instr} {P : State → Prop} (h : exec c s = finish s t) (hP : P (settle s t)) : Completes c s P :=
  ⟨_, h, hP⟩

/-- A command completes with its effect where its condition holds. -/
theorem completes_of {c : Instr} {b : Bool} {f : State → State} {P : State → Prop} (h : exec c s = finishIf b s f)
    (hb : b = true) (hP : P (settle s (f s))) : Completes c s P :=
  ⟨_, by rw [h, finishIf, if_pos hb, finish], hP⟩

-- Operations that never touch a cell.

/-- Every cell but those of one name. -/
def Cell.others (c : Cell) : Key → Bool := fun k => decide (k.cell ≠ c)

variable {c : Cell} {d i : Nat}

theorem Reach.get_eq (h : Reach c.others (fun _ => true) s t) (d i : Nat) : t.get c d i = s.get c d i :=
  h.cells ⟨c, d, i⟩ (by simp [Cell.others])

theorem Reach.flag_eq (h : Reach c.others (fun _ => true) s t) (d i : Nat) : t.flag c d i = s.flag c d i := by
  simp only [State.flag, h.get_eq]

/-- Every cell outside a group of names. -/
def outside (g : Cell → Bool) : Key → Bool := fun k => !g k.cell

theorem Reach.get_in {g : Cell → Bool} (h : Reach (outside g) (fun _ => true) s t) (hc : g c = true) (d i : Nat) :
    t.get c d i = s.get c d i :=
  h.cells ⟨c, d, i⟩ (by simp [outside, hc])

theorem Reach.flag_in {g : Cell → Bool} (h : Reach (outside g) (fun _ => true) s t) (hc : g c = true) (d i : Nat) :
    t.flag c d i = s.flag c d i := by
  simp only [State.flag, h.get_in hc]

/-- Every part but one. -/
def Part.others (p : Part) : Part → Bool := fun q => decide (q ≠ p)

theorem Reach.part_eq {p : Part} (h : Reach (fun _ => true) p.others s t) : p.same s t := h.parts p (by simp [Part.others])

end Sys2Proof.Machine
end

section
/-!
A step, the state after reset, the start of a gate list, and traffic that a Tandem pair in a bond group never opens.
-/
set_option Elab.async false
namespace Sys2Proof.Machine

variable {s : State}

/-- Settles O1: a step is the match on the queue of commands. -/
theorem stepRunsFront : Obligations.StepRunsFront := by
  unfold Obligations.StepRunsFront
  intro c rest s
  constructor <;> intro h <;> simp [step, h]

/-- Right after reset a cell reads its reset value. -/
theorem State.get_reset (c : Cell) (d i : Nat) : State.reset.get c d i = (⟨c, d, i⟩ : Key).reset := rfl

/-- Settles O2: every cell named reads its reset value.  That reset is the state after VDD_AO and before power-good, with no
ticket, frame or record in progress, is the model's choice (logs 4 and 13). -/
theorem resetState : Obligations.ResetState := by
  unfold Obligations.ResetState
  refine ⟨rfl, rfl, rfl, rfl, rfl, rfl, rfl, rfl, fun d i => ⟨?_, rfl, rfl, rfl, rfl, rfl, ?_, rfl, rfl, rfl, rfl⟩⟩
  · simp [State.released, bit, State.get_reset, Key.reset, SysCell.reset]
  · simp [State.dpll, State.get_reset, Key.reset, ClkCell.reset, dpllNoRef]

-- The start of a gate list (R264).

end Sys2Proof.Machine

/-- Settles O12: past the base the start is the base plus ⌈(now + 10 µs − base) / cycle⌉ cycles, the least that suffices. -/
theorem Sys2Proof.gateStarts : Obligations.GateStarts := by
  open Sys2Proof.Machine in
  unfold Obligations.GateStarts
  intro base cycle now hc
  by_cases hb : now + 10000 ≤ base
  · simp only [gateStartAt, if_pos hb]
    exact ⟨fun _ => trivial, hb, ⟨0, by simp⟩, fun n _ => Nat.le_add_right ..⟩
  · have he : gateStartAt base cycle now = base + (now + 10000 - base + cycle - 1) / cycle * cycle := by
      simp only [gateStartAt, if_neg hb, Nat.max_eq_right hc]
    have hceil : now + 10000 - base ≤ (now + 10000 - base + cycle - 1) / cycle * cycle := by
      have hdiv := Nat.div_add_mod' (now + 10000 - base + cycle - 1) cycle
      have hmod := Nat.mod_lt (now + 10000 - base + cycle - 1) hc
      omega
    rw [he]
    refine ⟨fun h => absurd h hb, by omega, ⟨_, rfl⟩, fun n hn => ?_⟩
    have hk : (now + 10000 - base + cycle - 1) / cycle < n + 1 := by
      rw [Nat.div_lt_iff_lt_mul hc, Nat.add_mul]
      omega
    exact Nat.add_le_add_left (Nat.mul_le_mul_right _ (Nat.lt_succ_iff.mp hk)) _

namespace Sys2Proof.Machine

variable {s : State}

-- A Tandem pair in a bond group (R27, R53).

theorem State.asPlanned_flag_tdm (c : TdmCell) (d i : Nat) : s.asPlanned.flag (.tdm c) d i = s.flag (.tdm c) d i :=
  Reach.flag_eq (by apply State.asPlanned_reach Reach.refl <;> intros <;> rfl) d i

theorem State.asPlanned_flag_ct (c : CtCell) (d i : Nat) : s.asPlanned.flag (.ct c) d i = s.flag (.ct c) d i :=
  Reach.flag_eq (by apply State.asPlanned_reach Reach.refl <;> intros <;> rfl) d i

/-- A bonded die is no proper half of a Tandem pair. -/
theorem State.tandemsOk_bonded {d : Nat} (hp : s.flag (.tdm .pairEn) d 0 = true) (hb : s.flag (.ct .bondEn) d 0 = true) :
    s.tandemsOk d = false := by
  simp [State.tandemsOk, State.pairOk, hp, hb]

theorem State.mem_dies {d : Nat} : d ∈ s.dies ↔ d < 8 ∧ s.present d = true := by simp [State.dies]

theorem State.rules_bonded {d : Nat} (hd : s.present d = true) (h8 : d < 8) (hp : s.flag (.tdm .pairEn) d 0 = true)
    (hb : s.flag (.ct .bondEn) d 0 = true) : s.rules.all id = false := by
  have ht : s.asPlanned.tandemsOk d = false :=
    State.tandemsOk_bonded ((State.asPlanned_flag_tdm ..).trans hp) ((State.asPlanned_flag_ct ..).trans hb)
  have hmem : false ∈ s.rules := by
    simp only [State.rules, List.mem_append, List.mem_flatMap]
    exact Or.inr ⟨d, State.mem_dies.mpr ⟨h8, hd⟩, by simp [ht]⟩
  exact List.all_eq_false.mpr ⟨false, hmem, by simp⟩

/-- Start-up that fails is in RESTART_WAIT or in FAILED (R58). -/
theorem State.startFail_ne_run (code detail die addr : Nat) : (s.startFail code detail die addr).bootState ≠ bootRun := by
  unfold State.startFail
  simp only
  split <;> simp [State.bootState, bootRestartWait, bootFailed, bootRun]

/-- A check that a phase fails at its end is a failure of start-up. -/
theorem State.phaseChecks_ne_run {t : State} (h : s.phaseChecks = some t) : t.bootState ≠ bootRun := by
  unfold State.phaseChecks at h
  split at h
  · cases h
    exact State.startFail_ne_run _ _ _ _
  · split at h
    · cases h
    · cases h
      exact State.startFail_ne_run _ _ _ _

theorem State.openTraffic_ne_run (h : s.phaseStop.rules.all id = false) : s.openTraffic.bootState ≠ bootRun := by
  unfold State.openTraffic
  simp only
  split
  · next t ht => exact State.phaseChecks_ne_run ht
  · split
    · exact State.startFail_ne_run _ _ _ _
    · simp only [h, Bool.false_and, Bool.false_eq_true, if_false]
      exact State.startFail_ne_run _ _ _ _

theorem exec_openTraffic (s : State) : exec .openTraffic s = execOpenTraffic s := rfl

/-- Settles O10: the Tandem rule of the carrier is among those that OPEN_TRAFFIC runs. -/
theorem tandemOrBond : Obligations.TandemOrBond := by
  unfold Obligations.TandemOrBond
  intro s d hd h8 hp hb hstate hcalled
  refine ⟨State.rules_bonded hd h8 hp hb, completes_of (exec_openTraffic s) (by simp [hstate, hcalled]) ?_⟩
  rw [State.bootState, get_settle_of rfl]
  exact State.openTraffic_ne_run (State.rules_bonded (d := d) (by simpa [State.phaseStop, State.present] using hd) h8
    (by simpa [State.phaseStop] using hp) (by simpa [State.phaseStop] using hb))

end Sys2Proof.Machine
end

section
/-!
Policers (R246): what filling keeps, the verdict by algorithm, and the deficits after a charge.
-/
set_option Elab.async false
namespace Sys2Proof.Machine

variable {s : State} {d x colour n : Nat}

-- Filling leaves the configuration of a policer and never deepens a deficit.

@[simp] theorem State.polFill_polWord (k : Nat) : (s.polFill d x).polWord d x k = s.polWord d x k := by
  simp [State.polWord, State.winWordAt, State.polFill]

@[simp] theorem State.polFill_polAlg : (s.polFill d x).polAlg d x = s.polAlg d x := by simp [State.polAlg]
@[simp] theorem State.polFill_polAware : (s.polFill d x).polAware d x = s.polAware d x := by simp [State.polAware]
@[simp] theorem State.polFill_polCbs : (s.polFill d x).polCbs d x = s.polCbs d x := by simp [State.polCbs]
@[simp] theorem State.polFill_polPbs : (s.polFill d x).polPbs d x = s.polPbs d x := by simp [State.polPbs]

theorem State.polFill_polC_le : (s.polFill d x).get (.qs .polC) d x ≤ s.get (.qs .polC) d x := by
  simp [State.polFill]

theorem State.polFill_polP_le : (s.polFill d x).get (.qs .polP) d x ≤ s.get (.qs .polP) d x := by
  simp [State.polFill]

-- The verdict.

/-- With algorithm 1 a frame is red and charges nothing, yellow and charges the peak bucket, or green and charges both; each
charged bucket holds it. -/
theorem State.polVerdict_one (h : s.polAlg d x = 1) :
    let v := s.polVerdict d x colour n
    (v = (2, 0) ∨ v = (1, 2) ∨ v = (0, 3)) ∧
      (bit v.2 0 = true → bucketHas (s.polCbs d x) (s.get (.qs .polC) d x) n = true) ∧
      (bit v.2 1 = true → bucketHas (s.polPbs d x) (s.get (.qs .polP) d x) n = true) ∧
      (colour ≤ 2 → s.polAware d x = true → colour ≤ v.1) := by
  simp only [State.polVerdict, h]
  grind [bit]

/-- With algorithm 2 a frame is red and charges nothing, yellow and charges the excess bucket, or green and charges the
committed one; the charged bucket holds it. -/
theorem State.polVerdict_two (h : s.polAlg d x = 2) :
    let v := s.polVerdict d x colour n
    (v = (2, 0) ∨ v = (1, 2) ∨ v = (0, 1)) ∧
      (bit v.2 0 = true → bucketHas (s.polCbs d x) (s.get (.qs .polC) d x) n = true) ∧
      (bit v.2 1 = true → bucketHas (s.polPbs d x) (s.get (.qs .polP) d x) n = true) ∧
      (colour ≤ 2 → s.polAware d x = true → colour ≤ v.1) := by
  simp only [State.polVerdict, h]
  grind [bit]

-- The charge.

theorem State.polCharge_polC (m : Nat) : (s.polCharge d x m n).get (.qs .polC) d x =
    s.get (.qs .polC) d x + if bit m 0 then 8000 * n else 0 := by
  unfold State.polCharge
  cases bit m 0 <;> cases bit m 1 <;> simp

theorem State.polCharge_polP (m : Nat) : (s.polCharge d x m n).get (.qs .polP) d x =
    s.get (.qs .polP) d x + if bit m 1 then 8000 * n else 0 := by
  unfold State.polCharge
  cases bit m 0 <;> cases bit m 1 <;> simp

/-- A bucket that is charged only with what it holds never owes more than its size. -/
theorem deficit_charge_le {size deficit : Nat} {b : Bool} (hd : deficit ≤ 8000 * size)
    (hb : b = true → bucketHas size deficit n = true) : deficit + (if b then 8000 * n else 0) ≤ 8000 * size := by
  cases b with
  | false => simpa using hd
  | true => simpa [bucketHas] using hb rfl

/-- A policer with an algorithm fills its buckets, then charges by its verdict. -/
theorem State.polAsk_eq (h : s.polAlg d x ≠ 0) : s.polAsk d x colour n =
    ((s.polFill d x).polCharge d x ((s.polFill d x).polVerdict d x colour n).2 n, (s.polFill d x).polVerdict d x colour n) := by
  simp [State.polAsk, h]

/-- Settles O11: a policer without algorithm changes nothing; with algorithm 1 or 2 it charges a bucket only with what the
bucket holds. -/
theorem policersHold : Obligations.PolicersHold := by
  unfold Obligations.PolicersHold
  intro s d x colour n hcol halg hc hp
  have hc' := State.polFill_polC_le.trans hc
  have hp' := State.polFill_polP_le.trans hp
  obtain h0 | h1 | h2 : s.polAlg d x = 0 ∨ s.polAlg d x = 1 ∨ s.polAlg d x = 2 := by omega
  · simp [State.polAsk, h0, hcol, hc, hp]
  · obtain ⟨hv, hhasC, hhasP, haware⟩ :=
      State.polVerdict_one (s := s.polFill d x) (d := d) (x := x) (colour := colour) (n := n) (by simpa using h1)
    simp only [State.polFill_polCbs, State.polFill_polPbs, State.polFill_polAware] at hhasC hhasP haware
    rw [State.polAsk_eq (by omega), State.polCharge_polC, State.polCharge_polP]
    refine ⟨?_, ?_, ?_, ?_, ?_, deficit_charge_le hc' hhasC, deficit_charge_le hp' hhasP⟩
    · rcases hv with e | e | e <;> simp [e]
    · rintro (ha | h0)
      · exact haware hcol ha
      · omega
    · rcases hv with e | e | e <;> simp [e, bit]
    · rcases hv with e | e | e <;> simp [e]
    · omega
  · obtain ⟨hv, hhasC, hhasP, haware⟩ :=
      State.polVerdict_two (s := s.polFill d x) (d := d) (x := x) (colour := colour) (n := n) (by simpa using h2)
    simp only [State.polFill_polCbs, State.polFill_polPbs, State.polFill_polAware] at hhasC hhasP haware
    rw [State.polAsk_eq (by omega), State.polCharge_polC, State.polCharge_polP]
    refine ⟨?_, ?_, ?_, ?_, ?_, deficit_charge_le hc' hhasC, deficit_charge_le hp' hhasP⟩
    · rcases hv with e | e | e <;> simp [e]
    · rintro (ha | h0)
      · exact haware hcol ha
      · omega
    · rcases hv with e | e | e <;> simp [e, bit]
    · omega
    · rcases hv with e | e | e <;> simp [e]

end Sys2Proof.Machine
end

section
/-!
A masked write of a register by a record of the image (R4, R48, R49): the fields of one register hold different cells, so each
takes its own part of the value.
-/
set_option Elab.async false
namespace Sys2Proof.Machine

variable {s : State} {addr mask value d i : Nat} {r : Reg}

-- The register table.

/-- Where a field of a register lies relative to the register's place. -/
def Fld.spot (f : Fld) : Cell × Nat × Nat := (f.cell, f.dAdd, f.iAdd)

/-- The cell of a field of the register at place `(d, i)`. -/
def Fld.key (f : Fld) (d i : Nat) : Key := ⟨f.cell, d + f.dAdd, i + f.iAdd⟩

theorem Fld.key_inj {f g : Fld} (h : f.key d i = g.key d i) : f.spot = g.spot := by
  simpa [Fld.key, Fld.spot] using h

/-- The fields of a register lie in different cells, and a field that a write may change in none that a step moves by itself. -/
def Reg.sound (r : Reg) : Bool :=
  decide (r.flds.map Fld.spot).Nodup &&
    r.flds.all fun f => decide (f.acc = .ro) ||
      (!f.cell.summary && decide (f.cell ≠ .boot .recIndex) && decide (f.cell ≠ .boot .wrotePortCfg))

theorem allRegs_sound : allRegs.all Reg.sound = true := by decide +kernel

theorem ite_ne {α : Type} {c : Prop} [Decidable c] {a b x : α} (ha : a ≠ x) (hb : b ≠ x) : (if c then a else b) ≠ x := by
  split <;> assumption

theorem specialPlace_ne_reg (r : Reg) (d i : Nat) : specialPlace addr ≠ some (.reg r d i) := by
  unfold specialPlace
  repeat' apply ite_ne
  all_goals simp

theorem regAt_mem (h : regAt addr = some (.reg r d i)) : r ∈ allRegs := by
  obtain ⟨q, hq, hm⟩ := List.exists_of_findSome?_eq_some h
  split at hm
  · cases hm
    exact hq
  · cases hm

theorem ctrAt_ne_reg (r : Reg) (d i : Nat) : ctrAt addr ≠ some (.reg r d i) := by
  intro h
  obtain ⟨q, -, hm⟩ := List.exists_of_findSome?_eq_some h
  split at hm <;> cases hm

theorem almAt_ne_reg (r : Reg) (d i : Nat) : almAt addr ≠ some (.reg r d i) := by
  intro h
  obtain ⟨q, -, hm⟩ := List.exists_of_findSome?_eq_some h
  split at hm <;> cases hm

theorem winAt_ne_reg (r : Reg) (d i : Nat) : winAt addr ≠ some (.reg r d i) := by
  intro h
  obtain ⟨q, -, hm⟩ := List.exists_of_findSome?_eq_some h
  split at hm <;> cases hm

/-- A register that an address names is in the table. -/
theorem mem_allRegs (h : placeAt addr = .reg r d i) : r ∈ allRegs := by
  unfold placeAt at h
  split at h
  · cases h
  split at h
  · next p hp => exact absurd (h ▸ hp) (specialPlace_ne_reg r d i)
  split at h
  · next p hp => exact regAt_mem (h ▸ hp)
  split at h
  · next p hp => exact absurd (h ▸ hp) (ctrAt_ne_reg r d i)
  split at h
  · next p hp => exact absurd (h ▸ hp) (almAt_ne_reg r d i)
  · cases hw : winAt addr with
    | none => simp [hw] at h
    | some p =>
      obtain rfl : p = .reg r d i := by simpa [hw] using h
      exact absurd hw (winAt_ne_reg r d i)

theorem Reg.sound_of_placeAt (h : placeAt addr = .reg r d i) : r.sound = true :=
  List.all_eq_true.mp allRegs_sound r (mem_allRegs h)

-- One field.

/-- A field without an effect of its own only takes its value. -/
theorem State.putField_plain {c : Cell} (h : c.hooked = false) (v : Nat) : s.putField c d i v = s.set c d i v := by
  unfold State.putField
  split <;> first | rfl | simp [Cell.hooked] at h

/-- The value that a field's cell takes. -/
def State.fldValue (s : State) (f : Fld) (d i mask value : Nat) : Nat :=
  if f.sgn then enc (sext f.width (s.fldNew f d i mask value)) else s.fldNew f d i mask value

/-- A masked write of one field without an effect: its own cell takes the value if the mask has some of its bits. -/
theorem State.getK_writeFld {f : Fld} (h : f.cell.hooked = false) (k : Key) :
    (s.writeFld f d i mask value).getK k =
      if f.part mask ≠ 0 ∧ k = f.key d i then s.fldValue f d i mask value else s.getK k := by
  unfold State.writeFld
  by_cases hm : f.part mask = 0
  · simp [hm]
  · simp [hm, State.putField_plain h, State.getK_set, Fld.key, State.fldValue]

/-- The value of a field depends on its own cell alone. -/
theorem State.fldValue_congr {t : State} {f : Fld} (h : t.getK (f.key d i) = s.getK (f.key d i)) :
    t.fldValue f d i mask value = s.fldValue f d i mask value := by
  have hg : t.get f.cell (d + f.dAdd) (i + f.iAdd) = s.get f.cell (d + f.dAdd) (i + f.iAdd) := h
  simp only [State.fldValue, State.fldNew, hg]

-- All fields.

/-- Fields without effects, in different cells: each takes its own value, and every other cell keeps its contents. -/
theorem State.getK_writeFlds {l : List Fld} (hl : ∀ f ∈ l, f.cell.hooked = false) (hn : (l.map Fld.spot).Nodup) :
    (∀ f ∈ l, f.part mask ≠ 0 →
      (s.each l fun s f => s.writeFld f d i mask value).getK (f.key d i) = s.fldValue f d i mask value) ∧
    ∀ k, (∀ f ∈ l, f.part mask ≠ 0 → k ≠ f.key d i) →
      (s.each l fun s f => s.writeFld f d i mask value).getK k = s.getK k := by
  induction l generalizing s with
  | nil => simp
  | cons g l ih =>
    have hg := State.getK_writeFld (s := s) (d := d) (i := i) (mask := mask) (value := value) (hl g (by simp))
    obtain ⟨hspot, hn⟩ := List.nodup_cons.mp hn
    obtain ⟨hown, hother⟩ := ih (s := s.writeFld g d i mask value) (fun f hf => hl f (by simp [hf])) hn
    have hne : ∀ f ∈ l, f.key d i ≠ g.key d i := fun f hf he =>
      hspot (Fld.key_inj he ▸ List.mem_map_of_mem hf)
    rw [State.each_cons]
    refine ⟨fun f hf hp => ?_, fun k hk => ?_⟩
    · rcases List.mem_cons.mp hf with rfl | hf
      · rw [hother _ (fun e he _ => (hne e he).symm), hg, if_pos ⟨hp, rfl⟩]
      · rw [hown f hf hp]
        exact State.fldValue_congr (by rw [hg, if_neg (fun h => hne f hf h.2)])
    · rw [hother k fun f hf => hk f (by simp [hf]), hg, if_neg fun h => hk g (by simp) h.1 h.2]

/-- A register all of whose fields are plain. -/
def Reg.plain (r : Reg) : Prop := ∀ f ∈ r.flds, f.cell.hooked = false ∧ f.acc ≠ .cmd

/-- A masked write of such a register writes its fields one after another. -/
theorem State.writeReg_plain (h : r.plain) :
    s.writeReg r d i mask value = s.each r.flds.reverse fun s f => s.writeFld f d i mask value := by
  have hcfg : r.flds.filter (fun f => decide (f.acc ≠ .cmd)) = r.flds := by
    rw [List.filter_eq_self]
    intro f hf
    simpa using (h f hf).2
  have hcmd : r.commands mask value = [] := by
    simp only [Reg.commands, List.reverse_eq_nil_iff, List.filter_eq_nil_iff]
    intro f hf
    simp [(h f hf).2]
  have hplain : r.flds.reverse.filter (fun f => !f.cell.hooked) = r.flds.reverse := by
    rw [List.filter_eq_self]
    intro f hf
    simp [(h f (List.mem_reverse.mp hf)).1]
  have hhook : r.flds.reverse.filter (fun f => f.cell.hooked) = [] := by
    rw [List.filter_eq_nil_iff]
    intro f hf
    simp [(h f (List.mem_reverse.mp hf)).1]
  simp only [State.writeReg, State.writeFlds, hcfg, hcmd, hplain, hhook, State.each_nil]

theorem State.getK_writeReg_plain (h : r.plain) (hr : r.sound = true) :
    (∀ f ∈ r.flds, f.part mask ≠ 0 → (s.writeReg r d i mask value).getK (f.key d i) = s.fldValue f d i mask value) ∧
    ∀ k, (∀ f ∈ r.flds, f.part mask ≠ 0 → k ≠ f.key d i) → (s.writeReg r d i mask value).getK k = s.getK k := by
  simp only [Reg.sound, Bool.and_eq_true, decide_eq_true_eq] at hr
  rw [State.writeReg_plain h]
  simpa using State.getK_writeFlds (s := s) (d := d) (i := i) (mask := mask) (value := value) (l := r.flds.reverse)
    (fun f hf => (h f (List.mem_reverse.mp hf)).1) (by simpa [List.map_reverse] using hr.1)

-- The record.

/-- A write that an error stops is not in force; one without error is, and notes a write of CHN_PORT_CFG. -/
theorem State.imageWrites_reg (hb : bankAt addr = none) (hp : placeAt addr = .reg r d i)
    (h : (s.imageWrites false [(addr, mask, value)]).2 = none) :
    s.imageErr false addr mask value = none ∧ (s.imageWrites false [(addr, mask, value)]).1 =
      (s.writeReg r d i mask value).when (hitsPortCfg addr && decide (mask ≠ 0)) fun s => s.set (.boot .wrotePortCfg) 0 0 1 := by
  have happly : s.applyWrite addr mask value = s.writeReg r d i mask value := by
    simp [State.applyWrite, State.bankSave, hb, hp]
  have hcls (t u : State) : t.clsRefused u addr = false := by simp [State.clsRefused, hp]
  cases he : s.imageErr false addr mask value with
  | some e => simp [State.imageWrites, he] at h
  | none => simp [State.imageWrites, he, happly, hcls]

/-- No field under the mask of a write without error is read-only. -/
theorem State.acc_ne_ro_of_imageErr (hp : placeAt addr = .reg r d i) (h : s.imageErr false addr mask value = none) {f : Fld}
    (hf : f ∈ r.flds) (hm : f.part mask ≠ 0) : f.acc ≠ .ro := by
  intro hro
  have herr : firstErr r.flds (fun f => if f.part mask = 0 then none else f.acc.err false) ≠ none := by
    simp only [firstErr, ne_eq, List.findSome?_eq_none_iff, not_forall]
    exact ⟨f, hf, by simp [hm, hro, Acc.err]⟩
  cases hfirst : firstErr r.flds (fun f => if f.part mask = 0 then none else f.acc.err false) with
  | none => exact herr hfirst
  | some e =>
    have hacc : s.accessErr .image addr mask value = some e := by
      simp [State.accessErr, hp, hfirst]
    rw [State.imageErr, hacc] at h
    split_ifs at h

theorem exec_recordWrite : exec (.recordWrite addr mask value) s = execRecordWrite addr mask value s := rfl

/-- A record that writes a register of plain fields, without error and without breaking a relation, is done. -/
theorem State.imageRecord_reg (h4 : addr % 4 = 0) (ha : s.addrAbsent addr = false) (hbusy : s.accessBusy addr mask value = false)
    (hnone : (s.imageWrites false [(addr, mask, value)]).2 = none)
    (hrel : s.relationsOk = false ∨ (s.imageWrites false [(addr, mask, value)]).1.relationsOk = true)
    (hnode : (s.imageWrites false [(addr, mask, value)]).1.get (.tkt .nodeId) 0 0 = s.get (.tkt .nodeId) 0 0) :
    s.imageRecord (.write addr mask value) addr = (s.imageWrites false [(addr, mask, value)]).1.recordDone := by
  have hr : (s.relationsOk && !(s.imageWrites false [(addr, mask, value)]).1.relationsOk) = false := by
    rcases hrel with h | h <;> simp [h]
  simp [State.imageRecord, recFormatOk, h4, ha, tableFits, recWrites, hbusy, hnone, hr, hnode]

/-- Settles O13: the fields of a register hold different cells, so each takes its part of the value, and the record moves
nothing else but the record index and the note of CHN_PORT_CFG. -/
theorem registerFields : Obligations.RegisterFields := by
  unfold Obligations.RegisterFields
  intro s addr mask value d i r hturn h4 ha hbusy _ hnone hrel hb hp hplain
  obtain ⟨herr, hout⟩ := State.imageWrites_reg hb hp hnone
  have hsound := Reg.sound_of_placeAt hp
  obtain ⟨hown, hother⟩ := State.getK_writeReg_plain (s := s) (d := d) (i := i) (mask := mask) (value := value) hplain hsound
  have hquiet : ∀ f ∈ r.flds, f.part mask ≠ 0 →
      f.cell.summary = false ∧ f.cell ≠ .boot .recIndex ∧ f.cell ≠ .boot .wrotePortCfg := by
    intro f hf hm
    have hacc := State.acc_ne_ro_of_imageErr hp herr hf hm
    simp only [Reg.sound, Bool.and_eq_true, List.all_eq_true] at hsound
    simpa [hacc, and_assoc] using hsound.2 f hf
  have hread : ∀ k : Key, k.cell.summary = false → k.cell ≠ .boot .recIndex → k.cell ≠ .boot .wrotePortCfg →
      (settle s (s.imageWrites false [(addr, mask, value)]).1.recordDone).getK k = (s.writeReg r d i mask value).getK k := by
    intro k hs hi hc
    rw [State.getK_eq, get_settle_of hs, hout]
    simp [State.recordDone, hi, hc, State.getK_eq]
  have hnode : (s.imageWrites false [(addr, mask, value)]).1.get (.tkt .nodeId) 0 0 = s.get (.tkt .nodeId) 0 0 := by
    have hk := hother ⟨.tkt .nodeId, 0, 0⟩ fun f hf _ he => by
      have := (hplain f hf).1
      simp only [Fld.key, Key.mk.injEq] at he
      simp [← he.1, Cell.hooked] at this
    simpa [hout, State.getK_eq] using hk
  refine completes_of exec_recordWrite hturn ?_
  rw [State.imageRecord_reg h4 ha hbusy hnone hrel hnode]
  refine ⟨fun f hf hm => ?_, fun k hs hi hc hk => ?_⟩
  · obtain ⟨hfs, hfi, hfc⟩ := hquiet f hf hm
    exact (hread (f.key d i) hfs hfi hfc).trans (hown f hf hm)
  · exact (hread k hs hi hc).trans (hother k hk)

end Sys2Proof.Machine
end

section
/-!
The Chain ports and the Spoke links (R15 to R24): one lemma per command and situation.
-/
set_option Elab.async false
namespace Sys2Proof.Machine

variable {s : State} {d p q cls seq lane peer : Nat}

theorem exec_chainPortEnable : exec (.chainPortEnable d p) s = execChainPortEnable d p s := rfl
theorem exec_chainPortDisable : exec (.chainPortDisable d p) s = execChainPortDisable d p s := rfl
theorem exec_chainTrainAttemptEnd (completed : Bool) (failed : List Nat) :
    exec (.chainTrainAttemptEnd d p completed failed peer) s = execChainTrainAttemptEnd d p completed failed peer s := rfl
theorem exec_chainClkLoss : exec (.chainClkLoss d p) s = execChainClkLoss d p s := rfl
theorem exec_chainReplayLimit : exec (.chainReplayLimit d p) s = execChainReplayLimit d p s := rfl
theorem exec_chainPeerRetrain : exec (.chainPeerRetrain d p) s = execChainPeerRetrain d p s := rfl
theorem exec_chainFlitTx (offers : List ChainOffer) : exec (.chainFlitTx d p offers) s = execChainFlitTx d p offers s := rfl
theorem exec_chainFlitRx (crcOk late : Bool) :
    exec (.chainFlitRx d p seq crcOk cls late) s = execChainFlitRx d p seq crcOk cls late s := rfl
theorem exec_chainHeldFlitRelease : exec (.chainHeldFlitRelease d) s = execChainHeldFlitRelease d s := rfl
theorem exec_spokeFrameRx (ok : Bool) : exec (.spokeFrameRx d ok) s = execSpokeFrameRx d ok s := rfl
theorem exec_spokeLost : exec (.spokeLost d) s = execSpokeLost d s := rfl

-- Training (R19, R22).

theorem chainPortEnable_training (hu : s.up d = true) (he : s.flag (.chn .portEn) d p = false) :
    Completes (.chainPortEnable d p) s fun t => t.get (.chn .portEn) d p = 1 ∧ t.get (.chn .state) d p = chnTraining ∧
      t.get (.chn .nRetrain) d p = s.get (.chn .nRetrain) d p :=
  completes_of exec_chainPortEnable (by simp [hu, he]) (by simp [State.chainEnable])

theorem chainPortDisable_off (hu : s.up d = true) (he : s.flag (.chn .portEn) d p = true) :
    Completes (.chainPortDisable d p) s fun t => t.get (.chn .portEn) d p = 0 ∧ t.get (.chn .state) d p = chnOff ∧
      t.flag (.live .chnDown) d p = false :=
  completes_of exec_chainPortDisable (by simp [hu, he]) (by simp [State.chainDisable])

/-- A port that trains for the first time or again. -/
def State.trains (s : State) (d p : Nat) : Prop := s.chainState d p = chnTraining ∨ s.chainState d p = chnRetraining

/-- Two failed lanes are more than the spare can replace. -/
theorem State.lanesLost_two {failed : List Nat} (h : 2 ≤ failed.length) : s.lanesLost d p failed = true := by
  match failed, h with
  | _ :: _ :: _, _ => rfl

theorem chainTrainAttemptEnd_lanesLost {failed : List Nat} {completed : Bool} (hu : s.up d = true) (ht : s.trains d p)
    (hf : 2 ≤ failed.length) : Completes (.chainTrainAttemptEnd d p completed failed peer) s fun t =>
      t.get (.chn .state) d p = chnDownSt ∧ t.flag (.live .chnDown) d p = true ∧
        t.get (.chn .nRetrain) d p = s.get (.chn .nRetrain) d p :=
  completes_of (exec_chainTrainAttemptEnd ..) (by simpa [hu, State.trains] using ht)
    (by simp [State.lanesLost_two hf, State.chainGoDown])

theorem chainTrainAttemptEnd_spare (hu : s.up d = true) (ht : s.trains d p) (hs : s.flag (.chn .spareUsed) d p = false) :
    Completes (.chainTrainAttemptEnd d p true [lane] (s.chainPeer d p)) s fun t =>
      t.get (.chn .state) d p = chnUp ∧ t.get (.chn .spareUsed) d p = 1 ∧ t.get (.chn .failedLane) d p = lane ∧
        t.flag (.live .chnLaneSpared) d p = true ∧ t.get (.chn .peerDie) d p = s.chainPeer d p :=
  completes_of (exec_chainTrainAttemptEnd ..) (by simpa [hu, State.trains] using ht)
    (by simp [State.lanesLost, hs, State.useSpare, State.chainComeUp])

theorem chainTrainAttemptEnd_mismatch (hu : s.up d = true) (ht : s.trains d p) (hp : peer ≠ s.chainPeer d p) :
    Completes (.chainTrainAttemptEnd d p true [] peer) s fun t =>
      t.get (.chn .state) d p = chnDownSt ∧ t.flag (.live .chnPeerMismatch) d p = true ∧ t.get (.chn .peerDie) d p = peer :=
  completes_of (exec_chainTrainAttemptEnd ..) (by simpa [hu, State.trains] using ht)
    (by simp [State.lanesLost, State.useSpare, hp, State.chainGoDown])

theorem chainTrainAttemptEnd_failed (hu : s.up d = true) (ht : s.trains d p) :
    Completes (.chainTrainAttemptEnd d p false [] peer) s fun t =>
      if s.get (.chn .attempt) d p < 1 + s.get (.chn .retrainMax) d p then
        t.get (.chn .state) d p = s.get (.chn .state) d p ∧
          t.get (.chn .nRetrain) d p = (s.get (.chn .nRetrain) d p + 1) % Counter.size
      else t.get (.chn .state) d p = chnDownSt ∧ t.flag (.live .chnDown) d p = true := by
  refine completes_of (exec_chainTrainAttemptEnd ..) (by simpa [hu, State.trains] using ht) ?_
  split <;> next h => simp [State.lanesLost, State.useSpare, State.nextAttempt, h, State.chainGoDown, Counter.size]

-- Leaving UP (R20).

/-- A port that leaves UP is in RETRAINING, and the first attempt counts. -/
theorem State.chainLeaveUp_retrains : (s.chainLeaveUp d p).get (.chn .state) d p = chnRetraining ∧
    (s.chainLeaveUp d p).get (.chn .nRetrain) d p = (s.get (.chn .nRetrain) d p + 1) % Counter.size := by
  simp [State.chainLeaveUp, Counter.size]

theorem chainClkLoss_retrains (hu : s.up d = true) (hs : s.chainState d p = chnUp) :
    Completes (.chainClkLoss d p) s fun t =>
      t.get (.chn .state) d p = chnRetraining ∧ t.get (.chn .clkOk) d p = 0 ∧ t.flag (.live .chnClkLoss) d p = true ∧
        t.get (.chn .nRetrain) d p = (s.get (.chn .nRetrain) d p + 1) % Counter.size :=
  completes_of exec_chainClkLoss (by simp [hu, hs]) (by simp [State.chainLeaveUp, Counter.size])

theorem chainReplayLimit_retrains (hu : s.up d = true) (hs : s.chainState d p = chnUp) (h16 : 16 ≤ s.replaysRun d p) :
    Completes (.chainReplayLimit d p) s fun t => t.get (.chn .state) d p = chnRetraining ∧
      t.get (.chn .nRetrain) d p = (s.get (.chn .nRetrain) d p + 1) % Counter.size :=
  completes_of exec_chainReplayLimit (by simp [hu, hs, h16]) (by simpa using State.chainLeaveUp_retrains)

theorem chainPeerRetrain_retrains (hu : s.up d = true) (hs : s.chainState d p = chnUp) (hf : s.farTrains d p = true) :
    Completes (.chainPeerRetrain d p) s fun t => t.get (.chn .state) d p = chnRetraining ∧
      t.get (.chn .nRetrain) d p = (s.get (.chn .nRetrain) d p + 1) % Counter.size :=
  completes_of exec_chainPeerRetrain (by simp [hu, hs, hf]) (by simpa using State.chainLeaveUp_retrains)

-- Flits (R15 to R17, R21).

theorem chainFlitTx_picked {offers : List ChainOffer} {f : ChainOffer} (hu : s.up d = true) (hs : s.chainState d p = chnUp)
    (hr : s.get (.chn .replayLeft) d p = 0) (hf : s.pickFlit d p offers = some f) :
    Completes (.chainFlitTx d p offers) s fun t =>
      t.get (.chn .nFlitTx) d p = (s.get (.chn .nFlitTx) d p + 1) % Counter.size ∧
        t.get (.chn .credits) d (creditIdx p f.cls) = s.get (.chn .credits) d (creditIdx p f.cls) - 1 ∧
        t.get (.chn .unacked) d p = s.get (.chn .unacked) d p + 1 :=
  completes_of (exec_chainFlitTx ..) hu (by simp [hs, hr, hf, State.sendFlit, State.used, Counter.size])

theorem chainFlitRx_accepted {late : Bool} (hu : s.up d = true) (hs : s.chainState d p = chnUp) :
    Completes (.chainFlitRx d p (s.get (.chn .rxSeq) d p) true cls late) s fun t =>
      t.get (.chn .nFlitRx) d p = (s.get (.chn .nFlitRx) d p + 1) % Counter.size ∧
        t.get (.chn .rxSeq) d p = (s.get (.chn .rxSeq) d p + 1) % Counter.size ∧
        t.get (.chn .nPelLate) d p =
          (if cls = 2 ∧ late = true then (s.get (.chn .nPelLate) d p + 1) % Counter.size else s.get (.chn .nPelLate) d p) :=
  completes_of (exec_chainFlitRx ..) (by simp [hu, hs]) (by simp [State.ackFlit, Counter.size])

theorem chainFlitRx_replay {crcOk late : Bool} (hu : s.up d = true) (hs : s.chainState d p = chnUp)
    (hbad : crcOk = false ∨ seq ≠ s.get (.chn .rxSeq) d p) : Completes (.chainFlitRx d p seq crcOk cls late) s fun t =>
      t.get (.chn .nFlitRx) d p = s.get (.chn .nFlitRx) d p ∧ t.get (.chn .rxSeq) d p = s.get (.chn .rxSeq) d p ∧
        t.get (.chn .nCrcErr) d p =
          (if crcOk = false then (s.get (.chn .nCrcErr) d p + 1) % Counter.size else s.get (.chn .nCrcErr) d p) ∧
        t.get (.chn .nReplay) (s.chainPeer d p) (1 - p) =
          (s.get (.chn .nReplay) (s.chainPeer d p) (1 - p) + 1) % Counter.size := by
  have hrefused : (crcOk && decide (seq = s.get (.chn .rxSeq) d p)) = false := by
    rcases hbad with h | h <;> simp [h]
  refine completes_of (exec_chainFlitRx ..) (by simp [hu, hs]) ?_
  have hpeer (t : State) (h : t.get (.sys .diePresent) 0 0 = s.get (.sys .diePresent) 0 0) :
      t.chainPeer d p = s.chainPeer d p := by
    simp only [State.chainPeer, State.dieCount, h]
  simp [hrefused, State.askReplay, hpeer, Counter.size]

theorem chainHeldFlitRelease_sent {h : HeldFlit} {rest : List HeldFlit} (hu : s.up d = true)
    (ht : takeFirst (s.heldCanGo d) s.held = some (h, rest)) (hq : s.controlPort d h.dest = some q) :
    Completes (.chainHeldFlitRelease d) s fun t => t.held = rest ∧
      t.get (.chn .nFlitTx) d q = (s.get (.chn .nFlitTx) d q + 1) % Counter.size := by
  refine completes_of exec_chainHeldFlitRelease hu ⟨?_, by simp [ht, hq, State.sendFlit, Counter.size]⟩
  exact (settle_part (p := .held) (by decide)).trans (by simp [ht, hq, State.sendFlit])

-- The Spoke link (R24).

theorem spokeFrameRx_valid (hu : s.up d = true) : Completes (.spokeFrameRx d true) s fun t =>
    t.get (.chn .spokeLost) d 0 = 0 ∧ t.flag (.live .spokeLost) d 0 = false :=
  completes_of (exec_spokeFrameRx true) hu (by simp)

theorem spokeFrameRx_crcError (hu : s.up d = true) : Completes (.spokeFrameRx d false) s fun t =>
    t.get (.chn .nSpokeCrcErr) d 0 = (s.get (.chn .nSpokeCrcErr) d 0 + 1) % Counter.size :=
  completes_of (exec_spokeFrameRx false) hu (by simp [Counter.size])

theorem spokeLost_stale (hu : s.up d = true) : Completes (.spokeLost d) s fun t =>
    t.get (.chn .spokeLost) d 0 = 1 ∧ t.flag (.live .spokeLost) d 0 = true ∧ t.get (.cal .stale) d 0 = 1 :=
  completes_of exec_spokeLost hu (by simp)

/-- Settles O20: a lemma for each command of training, of the flits and of the Spoke link. -/
theorem chain : Obligations.Chain := by
  unfold Obligations.Chain
  refine ⟨?_, ?_⟩
  · intro s d p lane peer failed completed hu
    exact ⟨chainPortEnable_training hu, chainPortDisable_off hu, chainTrainAttemptEnd_lanesLost hu,
      chainTrainAttemptEnd_spare hu, chainTrainAttemptEnd_mismatch hu, chainTrainAttemptEnd_failed hu,
      chainClkLoss_retrains hu, chainReplayLimit_retrains hu, chainPeerRetrain_retrains hu⟩
  · intro s d p q cls seq crcOk late offers f h rest hu
    exact ⟨chainFlitTx_picked hu, chainFlitRx_accepted hu, chainFlitRx_replay hu, chainHeldFlitRelease_sent hu,
      spokeFrameRx_valid hu, spokeFrameRx_crcError hu, spokeLost_stale hu⟩

end Sys2Proof.Machine
end

section
/-!
The line transmitter (R80, R83 to R89): its start, waits, mutes and stop, its DSP frames and its clip windows.
-/
set_option Elab.async false
namespace Sys2Proof.Machine

variable {s : State} {d : Nat}

theorem exec_txEnRise (cal : OeCal) : exec (.txEnRise d cal) s = execTxEnRise d cal s := rfl
theorem exec_txEnFall : exec (.txEnFall d) s = execTxEnFall d s := rfl
theorem exec_txWaitEnd : exec (.txWaitEnd d) s = execTxWaitEnd d s := rfl
theorem exec_txRampComplete : exec (.txRampComplete d) s = execTxRampComplete d s := rfl
theorem exec_txMuteCauseSet (c : Nat) : exec (.txMuteCauseSet d c) s = execTxMuteCauseSet d c s := rfl
theorem exec_txMuteCauseClear (c : Nat) : exec (.txMuteCauseClear d c) s = execTxMuteCauseClear d c s := rfl
theorem exec_dspFrameBoundary : exec (.dspFrameBoundary d) s = execDspFrameBoundary d s := rfl
theorem exec_dacClipWindow (n : Nat) : exec (.dacClipWindow d n) s = execDacClipWindow d n s := rfl
theorem exec_ltFirApply : exec (.ltFirApply d) s = execLtFirApply d s := rfl

-- Mute causes (R88).

/-- Before step 4 a laser or a bias that is not ready is only a wait. -/
theorem State.muteRefresh_waits (h : s.flag (.lt .txEn) d 0 = true) (hm : s.get (.lt .mute) d 0 % 2 = 0)
    (hs : s.get (.lt .sysCause) d 0 = 0) (hb : s.txBegun d = false) (hn : s.txState d ≠ txMuted) :
    s.muteRefresh d = (s.set (.lt .muteCause) d 0 (s.muteCauses d)).txDownCond d := by
  have hbits : bit (s.muteCauses d) 0 = false ∧ bit (s.muteCauses d) 3 = false := by
    simp only [State.muteCauses, hm, hs, bit]
    split <;> split <;> simp
  simp [State.muteRefresh, h, hb, hn, hbits]

/-- What holds while no cause does. -/
theorem State.muteCauses_eq_zero : s.muteCauses d = 0 ↔ s.get (.lt .mute) d 0 % 2 = 0 ∧ s.get (.las .state) d 0 = 3 ∧
    s.flag (.bias .biasLock) d 0 = true ∧ s.get (.lt .sysCause) d 0 = 0 := by
  unfold State.muteCauses State.lasReady State.lasState
  grind

/-- With MUTE alone nothing else holds the transmitter back. -/
theorem State.muteCauses_eq_one : s.muteCauses d = 1 ↔ s.get (.lt .mute) d 0 % 2 = 1 ∧ s.get (.las .state) d 0 = 3 ∧
    s.flag (.bias .biasLock) d 0 = true ∧ s.get (.lt .sysCause) d 0 = 0 := by
  unfold State.muteCauses State.lasReady State.lasState
  grind

/-- MUTE = 1 shows as cause 0. -/
theorem State.bit_muteCauses_mute (h : s.get (.lt .mute) d 0 % 2 = 1) : bit (s.muteCauses d) 0 = true := by
  simp only [State.muteCauses, bit, h]
  split <;> split <;> split <;> simp

-- What the parts of a start leave.

theorem State.txReadCal_get {c : LtCell} (hc : c = .mute ∨ c = .sysCause) (cal : OeCal) :
    (s.txReadCal d cal).get (.lt c) d 0 = s.get (.lt c) d 0 := by
  rcases hc with rfl | rfl <;> exact Reach.get_eq (by apply State.txReadCal_reach Reach.refl <;> intros <;> rfl) ..

theorem State.phaseDrive_biasLock (e i : Nat) : (s.phaseDrive d).flag (.bias .biasLock) e i = s.flag (.bias .biasLock) e i :=
  Reach.flag_eq (by apply State.phaseDrive_reach Reach.refl <;> intros <;> rfl) ..

@[simp] theorem State.phaseDrive_lt (c : LtCell) (e i : Nat) : (s.phaseDrive d).get (.lt c) e i = s.get (.lt c) e i :=
  State.get_phaseDrive (by simp) ..

@[simp] theorem State.phaseDrive_las (c : LasCell) (e i : Nat) : (s.phaseDrive d).get (.las c) e i = s.get (.las c) e i :=
  State.get_phaseDrive (by simp) ..

@[simp] theorem State.phaseIdle_lt (c : LtCell) (e i : Nat) : (s.phaseIdle d).get (.lt c) e i = s.get (.lt c) e i :=
  State.get_phaseIdle (by simp) (by simp) (by simp) (by simp) ..

@[simp] theorem State.phaseIdle_flag_lt (c : LtCell) (e i : Nat) : (s.phaseIdle d).flag (.lt c) e i = s.flag (.lt c) e i := by
  simp [State.flag]

-- Start and stop (R87, R89).

theorem txEnRise_waits {cal : OeCal} (hu : s.up d = true) (he : s.flag (.lt .txEn) d 0 = false)
    (hm : s.get (.lt .mute) d 0 % 2 = 0) (hs : s.get (.lt .sysCause) d 0 = 0) : Completes (.txEnRise d cal) s fun t =>
      t.get (.lt .txEn) d 0 = 1 ∧ t.get (.lt .txState) d 0 = txWaitLaser ∧ t.flag (.live .ltTxDown) d 0 = true := by
  refine completes_of (exec_txEnRise cal) (by simp [hu, he]) ?_
  rw [State.txStart, State.muteRefresh_waits]
  · simp [State.txDownCond, State.txState, txWaitLaser, txActive]
  · simp
  · split <;> simp [State.txReadCal_get, State.txActivate, hm]
  · split <;> simp [State.txReadCal_get, State.txActivate, hs]
  · simp [State.txBegun, State.txState, txWaitLaser, txActive]
  · simp [State.txState, txWaitLaser, txMuted]

theorem txEnFall_off (hu : s.up d = true) (he : s.flag (.lt .txEn) d 0 = true) : Completes (.txEnFall d) s fun t =>
    t.get (.lt .txEn) d 0 = 0 ∧ t.get (.lt .txState) d 0 = txOff ∧ t.get (.lt .muteCause) d 0 = 0 ∧
      t.flag (.live .ltTxDown) d 0 = false := by
  refine completes_of exec_txEnFall (by simp [hu, he]) ?_
  rw [State.txStop, State.muteRefresh_off (by simp)]
  simp [State.txDownCond]

-- The waits and the ramp (R87).

/-- A wait that ends before the last one leads to the next. -/
theorem txWaitEnd_next (hu : s.up d = true) (he : s.flag (.lt .txEn) d 0 = true)
    (hc : s.muteCauses d = 0) (hw : s.txState d = txWaitLaser ∨ s.txState d = txWaitBias) :
    Completes (.txWaitEnd d) s fun t => t.get (.lt .txState) d 0 = s.txState d + 1 := by
  obtain ⟨hm, hl, hb, hs⟩ := State.muteCauses_eq_zero.mp hc
  have hne : s.txState d ≠ txWaitCal := by rcases hw with h | h <;> simp [h, txWaitLaser, txWaitBias, txWaitCal]
  have hn : s.txState d + 1 ≠ txMuted := by rcases hw with h | h <;> simp [h, txWaitLaser, txWaitBias, txMuted]
  refine completes_of exec_txWaitEnd ?_ ?_
  · rcases hw with h | h <;> simp [hu, State.txWaitMet, State.lasReady, State.lasState, h, hl, hb, txWaitLaser, txWaitBias]
  · rw [if_neg hne, State.muteRefresh_quiet]
    · simp [State.txDownCond]
    · simp [he]
    · rw [State.muteCauses_eq_zero]
      simpa using ⟨hm, hl, hb, hs⟩
    · exact Or.inl (by simpa [State.txState] using hn)

theorem txWaitEnd_ramp (hu : s.up d = true) (he : s.flag (.lt .txEn) d 0 = true) (hr : s.flag (.lt .ramp) d 0 = false)
    (hc : s.muteCauses d = 0) (hw : s.txState d = txWaitCal) (hv : s.flag (.cal .convValid) d 0 = true) :
    Completes (.txWaitEnd d) s fun t => t.get (.lt .txState) d 0 = txWaitCal ∧ t.get (.lt .ramp) d 0 = 1 := by
  refine completes_of exec_txWaitEnd ?_ ?_
  · simp [hu, State.txWaitMet, hw, hv, hr, txWaitLaser, txWaitBias, txWaitCal]
  · rw [if_pos hw, State.muteRefresh_quiet]
    · simpa [State.txDownCond, State.txState] using hw
    · simp [he]
    · simpa [State.muteCauses_eq_zero] using hc
    · exact Or.inr (by simp)

theorem txRampComplete_active (hu : s.up d = true) (he : s.flag (.lt .txEn) d 0 = true) (hr : s.flag (.lt .ramp) d 0 = true)
    (hc : s.muteCauses d = 0) : Completes (.txRampComplete d) s fun t =>
      t.get (.lt .txState) d 0 = txActive ∧ t.get (.lt .ramp) d 0 = 0 ∧ t.flag (.live .ltTxDown) d 0 = false := by
  refine completes_of exec_txRampComplete (by simp [hu, hr]) ?_
  rw [State.muteRefresh_quiet]
  · simp [State.txDownCond, State.txState]
  · simpa [State.flag] using he
  · simpa [State.muteCauses_eq_zero, State.phaseDrive_biasLock] using hc
  · exact Or.inl (by simp [State.txState, txActive, txMuted])

-- MUTE (R88).

theorem txMuteCauseSet_mute (hu : s.up d = true) (he : s.flag (.lt .txEn) d 0 = true) (hn : s.txState d ≠ txMuted) :
    Completes (.txMuteCauseSet d 0) s fun t =>
      t.get (.lt .txState) d 0 = txMuted ∧ t.get (.lt .mute) d 0 = 1 ∧ bit (t.get (.lt .muteCause) d 0) 0 = true ∧
        t.get (.lt .nMuteEnter) d 0 = (s.get (.lt .nMuteEnter) d 0 + 1) % Counter.size := by
  refine completes_of (exec_txMuteCauseSet 0) hu ?_
  have hbit := State.bit_muteCauses_mute (s := s.set (.lt .mute) d 0 1) (d := d) (by simp)
  rw [decide_eq_true rfl, State.when_true, State.muteRefresh_enter]
  · simp [State.txDownCond, State.txEnterMuted, hbit, Counter.size]
  · simp [he]
  · simp [hbit]
  · exact Or.inl (by simpa [State.txState] using hn)

theorem txMuteCauseClear_resumes (hu : s.up d = true) (he : s.flag (.lt .txEn) d 0 = true) (hn : s.txState d = txMuted)
    (hr : s.flag (.lt .ramp) d 0 = false) (hc : s.muteCauses d = 1) : Completes (.txMuteCauseClear d 0) s fun t =>
      t.get (.lt .mute) d 0 = 0 ∧ t.get (.lt .muteCause) d 0 = 0 ∧
        (if s.flag (.lt .begun4) d 0 = true ∧ s.flag (.lt .otherCause) d 0 = false then
          t.get (.lt .txState) d 0 = txMuted ∧ t.get (.lt .ramp) d 0 = 1
        else t.get (.lt .txState) d 0 = txWaitLaser) := by
  obtain ⟨-, hl, hb, hs⟩ := State.muteCauses_eq_one.mp hc
  refine completes_of (exec_txMuteCauseClear 0) hu ?_
  rw [decide_eq_true rfl, State.when_true, State.muteRefresh_resume]
  · by_cases h4 : s.flag (.lt .begun4) d 0 = true ∧ s.flag (.lt .otherCause) d 0 = false
    · simpa [State.txDownCond, State.txResume, State.txState, h4] using hn
    · have h4' : (s.flag (.lt .begun4) d 0 && !s.flag (.lt .otherCause) d 0) = false := by simpa using h4
      simp [State.txDownCond, State.txResume, h4, h4']
  · simp [he]
  · rw [State.muteCauses_eq_zero]
    simpa using ⟨hl, hb, hs⟩
  · simpa [State.txState] using hn
  · simpa using hr

-- DSP frames, clips and filters (R80, R83, R84, R86).

theorem State.txApplyPending_pilotSeed : (s.txApplyPending d).get (.lt .pilotSeed) d 0 = s.get (.lt .pilotSeed) d 0 :=
  Reach.get_eq (by apply State.txApplyPending_reach Reach.refl <;> intros <;> rfl) ..

theorem State.txApplyPending_nDspFrame : (s.txApplyPending d).get (.lt .nDspFrame) d 0 = s.get (.lt .nDspFrame) d 0 :=
  Reach.get_eq (by apply State.txApplyPending_reach Reach.refl <;> intros <;> rfl) ..

/-- The trial of per-tributary gains and skews leaves every other cell. -/
theorem State.useTrib_get {c : Cell} (hg : c ≠ .lt .useGain) (hk : c ≠ .lt .useSkew) (i : Nat) :
    (s.each (List.range 4) fun s t => (s.set (.lt .useGain) d t (s.get (.lt .tribGain) d t)).set (.lt .useSkew) d t
      (s.get (.lt .tribSkew) d t)).get c d i = s.get c d i :=
  State.get_each fun x a => by simp [hg, hk]

/-- The pending non-linear gain and filter are in use, and nothing is pending. -/
theorem State.txApplyPending_applied : (s.txApplyPending d).get (.lt .useNlpd) d 0 = s.get (.lt .nlpdGain) d 0 ∧
    (s.txApplyPending d).get (.lt .firPending) d 0 = 0 := by
  unfold State.txApplyPending
  dsimp only
  split
  · next h =>
    rw [State.get_set_cell _ (by decide), State.get_each fun x a => State.get_set_cell x (by decide) ..]
    simp
  · next h =>
    simpa [State.useTrib_get, State.flag] using h

theorem dspFrameBoundary_frame (hu : s.up d = true) (hf : s.txFrames d = true) : Completes (.dspFrameBoundary d) s fun t =>
    t.get (.lt .nDspFrame) d 0 = (s.get (.lt .nDspFrame) d 0 + 1) % Counter.size ∧
      t.get (.lt .pilotX) d 0 = s.get (.lt .pilotSeed) d 0 ∧ t.get (.lt .pilotY) d 0 = pilotYSeed (s.get (.lt .pilotSeed) d 0) ∧
      t.get (.lt .useNlpd) d 0 = s.get (.lt .nlpdGain) d 0 ∧ t.get (.lt .firPending) d 0 = 0 :=
  completes_of exec_dspFrameBoundary (by simp [hu, hf])
    (by simp [State.txReseed, State.txApplyPending_applied, State.txApplyPending_pilotSeed, State.txApplyPending_nDspFrame,
      Counter.size])

theorem dacClipWindow_counts {clipped : Nat} (hu : s.up d = true) (hb : s.txBegun d = true) :
    Completes (.dacClipWindow d clipped) s fun t =>
      t.get (.lt .nDacClip) d 0 = (s.get (.lt .nDacClip) d 0 + clipped) % Counter.size ∧
        (1600 < clipped → t.flag (.sticky .ltDacClipHi) d 0 = true) :=
  completes_of (exec_dacClipWindow clipped) (by simp [hu, hb])
    (by
      refine ⟨by simp [Counter.size], fun h => ?_⟩
      simp [h])

theorem ltFirApply_pending (hu : s.up d = true) : Completes (.ltFirApply d) s fun t => t.get (.lt .firPending) d 0 = 1 :=
  completes_of exec_ltFirApply hu (by simp)

/-- Settles O21: a lemma for each command of the transmitter. -/
theorem transmitter : Obligations.Transmitter := by
  unfold Obligations.Transmitter
  refine ⟨?_, ?_⟩
  · intro s d cal hu
    refine ⟨txEnRise_waits hu, txEnFall_off hu, fun he hr hc => ⟨fun hw => ?_, fun hw => ?_, txWaitEnd_ramp hu he hr hc⟩,
      txRampComplete_active hu, txMuteCauseSet_mute hu, txMuteCauseClear_resumes hu⟩
    · simpa [hw, txWaitLaser, txWaitBias] using txWaitEnd_next hu he hc (Or.inl hw)
    · simpa [hw, txWaitBias, txWaitCal] using txWaitEnd_next hu he hc (Or.inr hw)
  · intro s d clipped hu
    exact ⟨dspFrameBoundary_frame hu, dacClipWindow_counts hu, ltFirApply_pending hu⟩

end Sys2Proof.Machine
end

section
/-!
The laser ports (R91 to R95): what a port's failure, its way to READY and its disabling leave, then each command.
-/
set_option Elab.async false
namespace Sys2Proof.Machine

variable {s : State} {p : Nat}

theorem exec_laserDiscover (r : LasRead) : exec (.laserDiscover p r) s = execLaserDiscover p r s := rfl
theorem exec_lasRecoverTimer (r : LasRead) : exec (.lasRecoverTimer p r) s = execLasRecoverTimer p r s := rfl
theorem exec_lasTransaction (ok noAck : Bool) : exec (.lasTransaction p ok noAck) s = execLasTransaction p ok noAck s := rfl
theorem exec_lasRetryWaitExpiry : exec (.lasRetryWaitExpiry p) s = execLasRetryWaitExpiry p s := rfl
theorem exec_lasPresenceLost : exec (.lasPresenceLost p) s = execLasPresenceLost p s := rfl
theorem exec_lasPoll (r : LasRead) : exec (.lasPoll p r) s = execLasPoll p r s := rfl
theorem exec_lasTuneTimeout : exec (.lasTuneTimeout p) s = execLasTuneTimeout p s := rfl
theorem exec_lasGridChange (n : Nat) : exec (.lasGridChange p n) s = execLasGridChange p n s := rfl
theorem exec_lasEnRise : exec (.lasEnRise p) s = execLasEnRise p s := rfl
theorem exec_lasEnFall : exec (.lasEnFall p) s = execLasEnFall p s := rfl

-- The cells of a port, which the transmitter, the receiver and the bias do not touch.

/-- The registers and alarms of a LAS port. -/
abbrev lasCells : Cell → Bool
  | .las _ | .live .lasFault | .live .lasLow | .live .lasWarn => true
  | _ => false

@[simp] theorem State.opticsRefresh_get {c : Cell} (h : lasCells c = true) (e i : Nat) :
    (s.opticsRefresh p).get c e i = s.get c e i :=
  Reach.get_in (g := lasCells) (by apply State.opticsRefresh_reach Reach.refl <;> intros <;> rfl) h ..

@[simp] theorem State.opticsRefresh_flag {c : Cell} (h : lasCells c = true) (e i : Nat) :
    (s.opticsRefresh p).flag c e i = s.flag c e i := by
  simp only [State.flag, State.opticsRefresh_get h]

@[simp] theorem State.lightSet_get {c : Cell} (h : lasCells c = true) (b : Bool) (e i : Nat) :
    (s.lightSet p b).get c e i = s.get c e i :=
  Reach.get_in (g := lasCells) (by apply State.lightSet_reach Reach.refl <;> intros <;> rfl) h ..

@[simp] theorem State.lightSet_flag {c : Cell} (h : lasCells c = true) (b : Bool) (e i : Nat) :
    (s.lightSet p b).flag c e i = s.flag c e i := by
  simp only [State.flag, State.lightSet_get h]

@[simp] theorem State.discoverEnd_get {c : Cell} (h : lasCells c = true) (ok : Bool) (reason e i : Nat) :
    (s.discoverEnd p ok reason).get c e i = s.get c e i :=
  Reach.get_in (g := lasCells) (by apply State.discoverEnd_reach Reach.refl <;> intros <;> rfl) h ..

@[simp] theorem State.discoverEnd_flag {c : Cell} (h : lasCells c = true) (ok : Bool) (reason e i : Nat) :
    (s.discoverEnd p ok reason).flag c e i = s.flag c e i := by
  simp only [State.flag, State.discoverEnd_get h]

-- The ends that a port can come to.

/-- A failure leaves the port in FAULT, or in ABSENT for reason 1, with that reason. -/
theorem State.lasFail_state (reason : Nat) :
    (s.lasFail p reason).get (.las .state) p 0 = (if reason = 1 then lasAbsent else lasFaultSt) ∧
      (s.lasFail p reason).get (.las .reason) p 0 = reason := by
  unfold State.lasFail
  split <;> simp

@[simp] theorem State.lasFail_present (reason : Nat) :
    (s.lasFail p reason).get (.las .present) p 0 = s.get (.las .present) p 0 :=
  Reach.get_eq (by apply State.lasFail_reach Reach.refl <;> intros <;> rfl) ..

@[simp] theorem State.lasFail_nXactFail (reason : Nat) :
    (s.lasFail p reason).get (.las .nXactFail) p 0 = s.get (.las .nXactFail) p 0 :=
  Reach.get_eq (by apply State.lasFail_reach Reach.refl <;> intros <;> rfl) ..

@[simp] theorem State.lasFail_lasLow (reason : Nat) :
    (s.lasFail p reason).flag (.live .lasLow) p 0 = s.flag (.live .lasLow) p 0 :=
  Reach.flag_eq (by apply State.lasFail_reach Reach.refl <;> intros <;> rfl) ..

theorem State.lasEnterReady_ready (tap : Int) :
    (s.lasEnterReady p tap).get (.las .state) p 0 = lasReadySt ∧ (s.lasEnterReady p tap).get (.las .reason) p 0 = 0 ∧
      (s.lasEnterReady p tap).getI (.las .refTap) p 0 = dec (enc tap) ∧
      (s.lasEnterReady p tap).flag (.live .lasFault) p 0 = false := by
  simp [State.lasEnterReady, State.getI]

theorem State.lasDisable_disabled : (s.lasDisable p).get (.las .state) p 0 = lasDisabled ∧
    (s.lasDisable p).get (.las .lasEn) p 0 = s.get (.las .lasEn) p 0 ∧ (s.lasDisable p).flag (.live .lasFault) p 0 = false := by
  simp [State.lasDisable]

/-- Steps 1 to 6 of R92 on a unit that is present, supported, ready and tuned, with LAS_EN at 1, end in READY. -/
theorem State.lasSteps_ready {r : LasRead} (he : s.flag (.las .lasEn) p 0 = true) (hp : r.present = true)
    (hs : r.supported = true) (hr : r.ready = true) (ht : r.tuned = true) :
    ∃ t : State, s.lasSteps p r = t.lasEnterReady p r.tap := by
  simp only [State.lasSteps, hp, hs, State.lasModule, hr, State.lasTune, ht, if_true, Bool.not_true, Bool.false_eq_true, if_false]
  rw [if_pos (by simpa using he)]
  exact ⟨_, rfl⟩

-- Each command.

theorem laserDiscover_absent {r : LasRead} (hl : s.lasPort p = true) (hd : s.discovering p = true) (hp : r.present = false) :
    Completes (.laserDiscover p r) s fun t =>
      t.get (.las .state) p 0 = lasAbsent ∧ t.get (.las .reason) p 0 = 1 ∧ t.get (.las .present) p 0 = 0 :=
  completes_of (exec_laserDiscover r) (by simp [hl, hd]) (by simp [State.lasSteps, hp, State.lasFail_state])

theorem laserDiscover_ready {r : LasRead} (hl : s.lasPort p = true) (hd : s.discovering p = true)
    (he : s.flag (.las .lasEn) p 0 = true) (hp : r.present = true) (hs : r.supported = true) (hr : r.ready = true)
    (ht : r.tuned = true) : Completes (.laserDiscover p r) s fun t =>
      t.get (.las .state) p 0 = lasReadySt ∧ t.get (.las .reason) p 0 = 0 ∧ t.getI (.las .refTap) p 0 = dec (enc r.tap) ∧
        t.flag (.live .lasFault) p 0 = false := by
  refine completes_of (exec_laserDiscover r) (by simp [hl, hd]) ?_
  obtain ⟨t, h⟩ := State.lasSteps_ready he hp hs hr ht
  rw [h]
  simpa [State.getI] using State.lasEnterReady_ready (s := t) (p := p) r.tap

theorem lasRecoverTimer_ready {r : LasRead} (hl : s.lasPort p = true) (he : s.flag (.las .lasEn) p 0 = true)
    (hf : s.lasState p = lasFaultSt ∨ s.lasState p = lasAbsent) (hp : r.present = true) (hs : r.supported = true)
    (hr : r.ready = true) (ht : r.tuned = true) : Completes (.lasRecoverTimer p r) s fun t =>
      t.get (.las .state) p 0 = lasReadySt ∧ t.flag (.live .lasFault) p 0 = false := by
  refine completes_of (exec_lasRecoverTimer r) (by simpa [hl] using hf) ?_
  obtain ⟨t, h⟩ := State.lasSteps_ready (s := s.set (.las .recovering) p 0 1) (by simpa using he) hp hs hr ht
  rw [h]
  simp [State.lasEnterReady_ready]

theorem lasTransaction_ok {noAck : Bool} (hl : s.lasPort p = true) (hp : s.flag (.las .present) p 0 = true)
    (hw : s.flag (.las .retryWait) p 0 = false) : Completes (.lasTransaction p true noAck) s fun t =>
      t.get (.las .nXact) p 0 = (s.get (.las .nXact) p 0 + 1) % Counter.size ∧ t.get (.las .attempt) p 0 = 0 :=
  completes_of (exec_lasTransaction true noAck) (by simp [hl, hp, hw]) (by simp [Counter.size])

theorem lasTransaction_failed {noAck : Bool} (hl : s.lasPort p = true) (hp : s.flag (.las .present) p 0 = true)
    (hw : s.flag (.las .retryWait) p 0 = false) : Completes (.lasTransaction p false noAck) s fun t =>
      if s.get (.las .attempt) p 0 < 3 then
        t.get (.las .attempt) p 0 = s.get (.las .attempt) p 0 + 1 ∧ t.get (.las .retryWait) p 0 = 1
      else t.get (.las .nXactFail) p 0 = (s.get (.las .nXactFail) p 0 + 1) % Counter.size ∧
        t.get (.las .state) p 0 = lasFaultSt ∧ t.get (.las .reason) p 0 = if noAck then 2 else 3 := by
  refine completes_of (exec_lasTransaction false noAck) (by simp [hl, hp, hw]) ?_
  by_cases h : s.get (.las .attempt) p 0 < 3
  · simp [h]
  · cases noAck <;> simp [h, State.lasFail_state, Counter.size]

theorem lasRetryWaitExpiry_retries (hl : s.lasPort p = true) (hw : s.flag (.las .retryWait) p 0 = true) :
    Completes (.lasRetryWaitExpiry p) s fun t =>
      t.get (.las .retryWait) p 0 = 0 ∧ t.get (.las .nRetry) p 0 = (s.get (.las .nRetry) p 0 + 1) % Counter.size :=
  completes_of exec_lasRetryWaitExpiry (by simp [hl, hw]) (by simp [Counter.size])

theorem lasPresenceLost_absent (hl : s.lasPort p = true) (ha : s.lasState p ≠ lasAbsent) :
    Completes (.lasPresenceLost p) s fun t =>
      t.get (.las .state) p 0 = lasAbsent ∧ t.get (.las .reason) p 0 = 1 ∧ t.get (.las .present) p 0 = 0 :=
  completes_of exec_lasPresenceLost (by simp [hl, ha]) (by simp [State.lasFail_state])

theorem lasPoll_good {r : LasRead} (hl : s.lasPort p = true) (hs : s.lasState p = lasReadySt)
    (ht : s.tapLow p r.tap = false) (hf : r.fault = false) : Completes (.lasPoll p r) s fun t =>
      t.get (.las .state) p 0 = lasReadySt ∧ t.get (.las .lowCount) p 0 = 0 ∧
        t.get (.las .freqErr) p 0 = enc r.freqErr % 2 ^ 16 ∧ t.flag (.live .lasLow) p 0 = false ∧
        t.flag (.live .lasWarn) p 0 = r.warn := by
  have hg : s.get (.las .state) p 0 = lasReadySt := hs
  exact completes_of (exec_lasPoll r) hl (by simp [hs, State.lasMonitor, ht, hf, hg])

theorem lasPoll_low {r : LasRead} (hl : s.lasPort p = true) (hs : s.lasState p = lasReadySt) (ht : s.tapLow p r.tap = true)
    (hf : r.fault = false) (h9 : s.get (.las .lowCount) p 0 = 9) : Completes (.lasPoll p r) s fun t =>
      t.get (.las .state) p 0 = lasFaultSt ∧ t.get (.las .reason) p 0 = 7 ∧ t.flag (.live .lasLow) p 0 = true :=
  completes_of (exec_lasPoll r) hl (by simp [hs, State.lasMonitor, ht, hf, h9, State.lasFail_state])

theorem lasTuneTimeout_fault (hl : s.lasPort p = true) (hs : s.lasState p = lasDiscover ∨ s.lasState p = lasTuning) :
    Completes (.lasTuneTimeout p) s fun t => t.get (.las .state) p 0 = lasFaultSt ∧ t.get (.las .reason) p 0 = 5 :=
  completes_of exec_lasTuneTimeout (by simpa [hl] using hs) (by simp [State.lasFail_state])

theorem lasGridChange_tunes {n : Nat} (hl : s.lasPort p = true) : Completes (.lasGridChange p n) s fun t =>
    t.getI (.las .gridN) p 0 = dec (enc (sext 16 n)) ∧
      (s.flag (.las .lasEn) p 0 = true → s.lasState p = lasReadySt → t.get (.las .state) p 0 = lasTuning) := by
  refine completes_of (exec_lasGridChange n) hl ⟨?_, fun he hs => ?_⟩
  · have hkeep (t : State) : (t.lasRetune p).get (.las .gridN) p 0 = t.get (.las .gridN) p 0 :=
      Reach.get_eq (by apply State.lasRetune_reach Reach.refl <;> intros <;> rfl) ..
    simp [State.getI, hkeep]
  · have hr : (s.setI (.las .gridN) p 0 (sext 16 n)).lasReady p = true := by
      simpa [State.lasReady, State.lasState, lasReadySt] using hs
    simp [State.lasRetune, he, hr]

theorem lasEnRise_starts (hl : s.lasPort p = true) (he : s.flag (.las .lasEn) p 0 = false) :
    Completes (.lasEnRise p) s fun t => t.get (.las .lasEn) p 0 = 1 ∧
      t.get (.las .state) p 0 = if s.flag (.las .passed3) p 0 then lasTuning else lasDiscover :=
  completes_of exec_lasEnRise (by simp [hl, he]) (by simp [State.lasEnable])

theorem lasEnFall_disabled (hl : s.lasPort p = true) (he : s.flag (.las .lasEn) p 0 = true) :
    Completes (.lasEnFall p) s fun t => t.get (.las .lasEn) p 0 = 0 ∧ t.get (.las .state) p 0 = lasDisabled ∧
      t.flag (.live .lasFault) p 0 = false :=
  completes_of exec_lasEnFall (by simp [hl, he]) (by simp [State.lasEnFall, State.lasDisable_disabled])

/-- Settles O22: a lemma for each command of a laser port.  That LAS_EN = 0 lowers LASER_FAULT is the model's choice (log 18). -/
theorem laserStates : Obligations.LaserStates := by
  unfold Obligations.LaserStates
  intro s p n r noAck hl
  exact ⟨laserDiscover_absent hl, laserDiscover_ready hl, lasRecoverTimer_ready hl,
    fun hp hw => ⟨lasTransaction_ok hl hp hw, lasTransaction_failed hl hp hw⟩, lasRetryWaitExpiry_retries hl,
    lasPresenceLost_absent hl, lasPoll_good hl, lasPoll_low hl, lasTuneTimeout_fault hl, lasGridChange_tunes hl,
    lasEnRise_starts hl, lasEnFall_disabled hl⟩

end Sys2Proof.Machine
end

section
/-!
The line receiver (R97 to R122): what a change of its state leaves, then acquisition, loss of lock and tracking command by command.
-/
set_option Elab.async false
namespace Sys2Proof.Machine

variable {s : State} {d : Nat}

theorem exec_rxEnRise (cal : OeCal) (power : Int) : exec (.rxEnRise d cal power) s = execRxEnRise d cal power s := rfl
theorem exec_acquireLine (cal : OeCal) (power : Int) : exec (.acquireLine d cal power) s = execAcquireLine d cal power s := rfl
theorem exec_rxEnFall : exec (.rxEnFall d) s = execRxEnFall d s := rfl
theorem exec_acqStepPass (m : AcqMeas) : exec (.acqStepPass d m) s = execAcqStepPass d m s := rfl
theorem exec_acqStepTimeout : exec (.acqStepTimeout d) s = execAcqStepTimeout d s := rfl
theorem exec_failedWaitExpiry : exec (.failedWaitExpiry d) s = execFailedWaitExpiry d s := rfl
theorem exec_rxLos (power : Int) : exec (.rxLos d power) s = execRxLos d power s := rfl
theorem exec_rxPowerReturn (power : Int) : exec (.rxPowerReturn d power) s = execRxPowerReturn d power s := rfl
theorem exec_holdExpiry : exec (.holdExpiry d) s = execHoldExpiry d s := rfl
theorem exec_rxLoLost : exec (.rxLoLost d) s = execRxLoLost d s := rfl
theorem exec_eqSlip : exec (.eqSlip d) s = execEqSlip d s := rfl
theorem exec_syncLoss : exec (.syncLoss d) s = execSyncLoss d s := rfl
theorem exec_freqOffsetExceeded : exec (.freqOffsetExceeded d) s = execFreqOffsetExceeded d s := rfl
theorem exec_cycleSlip : exec (.cycleSlip d) s = execCycleSlip d s := rfl
theorem exec_agcFastStep : exec (.agcFastStep d) s = execAgcFastStep d s := rfl
theorem exec_adcClipWindow (tr n : Nat) : exec (.adcClipWindow d tr n) s = execAdcClipWindow d tr n s := rfl
theorem exec_adcOverload (b : Bool) : exec (.adcOverload d b) s = execAdcOverload d b s := rfl
theorem exec_rxPwrLow (b : Bool) : exec (.rxPwrLow d b) s = execRxPwrLow d b s := rfl
theorem exec_cdReprogram (cd : Int) : exec (.cdReprogram d cd) s = execCdReprogram d cd s := rfl

-- A change of the receiver's state (R121, R123, R136).

/-- What a change of the receiver's state does not touch. -/
abbrev rxKept : Cell → Bool
  | .lr .rxState | .lr .rxSf | .lr .winLocked | .lr .missed => false
  | .lr _ | .boot _ => true
  | .live .lrLos | .live .lrLoLost | .live .lrAcqFailed | .sticky .lrEqSlip | .sticky .lrSyncLoss => true
  | _ => false

@[simp] theorem State.rxGo_get {c : Cell} (h : rxKept c = true) (st e i : Nat) : (s.rxGo d st).get c e i = s.get c e i :=
  Reach.get_in (g := rxKept) (by apply State.rxGo_reach Reach.refl <;> intros <;> rfl) h ..

@[simp] theorem State.rxGo_flag {c : Cell} (h : rxKept c = true) (st e i : Nat) : (s.rxGo d st).flag c e i = s.flag c e i := by
  simp only [State.flag, State.rxGo_get h]

/-- What codeword lock and the framer behind it do not touch. -/
abbrev rxShown : Cell → Bool
  | .lr _ | .live .lrRxDown => true
  | _ => false

@[simp] theorem State.fecFollow_get {c : Cell} (h : rxShown c = true) (e i : Nat) : (s.fecFollow d).get c e i = s.get c e i :=
  Reach.get_in (g := rxShown) (by apply State.fecFollow_reach Reach.refl <;> intros <;> rfl) h ..

@[simp] theorem State.fecFollow_flag {c : Cell} (h : rxShown c = true) (e i : Nat) :
    (s.fecFollow d).flag c e i = s.flag c e i := by
  simp only [State.flag, State.fecFollow_get h]

@[simp] theorem State.rxGo_rxState (st : Nat) : (s.rxGo d st).rxState d = st := by
  unfold State.rxGo
  simp [State.rxState]

@[simp] theorem settle_rxState {t : State} : (settle s t).rxState d = t.rxState d := by simp [State.rxState]

@[simp] theorem State.set_rxState {c : Cell} (h : c ≠ .lr .rxState) (e i v : Nat) :
    (s.set c e i v).rxState d = s.rxState d := by
  simp [State.rxState, h.symm]

@[simp] theorem State.inc_rxState {c : Cell} (h : c ≠ .lr .rxState) (e i : Nat) : (s.inc c e i).rxState d = s.rxState d := by
  simp [State.rxState, h.symm]

@[simp] theorem State.ite_rxState (p : Prop) [Decidable p] (s t : State) :
    (if p then s else t).rxState d = if p then s.rxState d else t.rxState d := apply_ite (fun x : State => x.rxState d) ..

@[simp] theorem State.cond_rxState (a : Alm) (e i : Nat) (b : Bool) : (s.cond a e i b).rxState d = s.rxState d := by
  simp [State.rxState]

@[simp] theorem State.raise_rxState (a : Alm) (e i : Nat) : (s.raise a e i).rxState d = s.rxState d := by simp [State.rxState]

@[simp] theorem State.lower_rxState (a : Alm) (e i : Nat) : (s.lower a e i).rxState d = s.rxState d := by simp [State.rxState]

@[simp] theorem State.event_rxState (a : Alm) (e i : Nat) : (s.event a e i).rxState d = s.rxState d := by simp [State.rxState]

@[simp] theorem State.rxGo_rxSf (st : Nat) : (s.rxGo d st).get (.lr .rxSf) d 0 = if st = rxLocked then 0 else 1 := by
  unfold State.rxGo
  simp

/-- RX_DOWN is live exactly while RX_EN is 1 and the state is not LOCKED. -/
@[simp] theorem State.rxGo_rxDown (st : Nat) :
    (s.rxGo d st).flag (.live .lrRxDown) d 0 = (s.rxOn d && decide (st ≠ rxLocked)) := by
  unfold State.rxGo State.rxOn
  simp

-- What starts, optics and procedures leave of the receiver.

/-- What the transmitter and the bias do not touch when they follow the laser. -/
abbrev rxOptics : Cell → Bool
  | .lr _ | .boot _ | .live .lrRxDown | .live .lrLos => true
  | _ => false

@[simp] theorem State.opticsRefresh_rx {c : Cell} (h : rxOptics c = true) (e i : Nat) :
    (s.opticsRefresh d).get c e i = s.get c e i :=
  Reach.get_in (g := rxOptics) (by apply State.opticsRefresh_reach Reach.refl <;> intros <;> rfl) h ..

@[simp] theorem State.opticsRefresh_rxState : (s.opticsRefresh d).rxState d = s.rxState d := State.opticsRefresh_rx rfl ..

@[simp] theorem State.opticsRefresh_rx_flag {c : Cell} (h : rxOptics c = true) (e i : Nat) :
    (s.opticsRefresh d).flag c e i = s.flag c e i := by
  simp only [State.flag, State.opticsRefresh_rx h]

/-- What the procedure of an acquisition does not touch when it ends. -/
abbrev rxOwn : Cell → Bool
  | .lr _ | .live _ => true
  | _ => false

@[simp] theorem State.acquireEnd_get {c : Cell} (h : rxOwn c = true) (ok : Bool) (e i : Nat) :
    (s.acquireEnd d ok).get c e i = s.get c e i :=
  Reach.get_in (g := rxOwn) (by apply State.acquireEnd_reach Reach.refl <;> intros <;> rfl) h ..

@[simp] theorem State.acquireEnd_rxState (ok : Bool) : (s.acquireEnd d ok).rxState d = s.rxState d :=
  State.acquireEnd_get rfl ..

@[simp] theorem State.acquireEnd_flag {c : Cell} (h : rxOwn c = true) (ok : Bool) (e i : Nat) :
    (s.acquireEnd d ok).flag c e i = s.flag c e i := by
  simp only [State.flag, State.acquireEnd_get h]

/-- What reading the calibration memory does not touch. -/
abbrev rxAsked : Cell → Bool
  | .lr .nAcqAttempt | .lr .acqRetry | .boot _ => true
  | _ => false

@[simp] theorem State.rxReadCal_get {c : Cell} (h : rxAsked c = true) (cal : OeCal) (e i : Nat) :
    (s.rxReadCal d cal).get c e i = s.get c e i :=
  Reach.get_in (g := rxAsked) (by apply State.rxReadCal_reach Reach.refl <;> intros <;> rfl) h ..

@[simp] theorem State.latencyBank_get {c : Cell} (h : rxAsked c = true) (e i : Nat) :
    (s.latencyBank d).get c e i = s.get c e i :=
  Reach.get_in (g := rxAsked) (by apply State.latencyBank_reach Reach.refl <;> intros <;> rfl) h ..

/-- A stored dispersion estimate, the filter on it, and nothing else of the receiver. -/
theorem State.setCd_stored (cd : Int) : (s.setCd d cd).get (.lr .cdEst) d 0 = enc cd ∧
    (s.setCd d cd).get (.lr .cdEstValid) d 0 = 1 ∧ (s.setCd d cd).get (.lr .cdFilter) d 0 = enc cd := by
  simp [State.setCd, State.cdNear]

@[simp] theorem State.setCd_tiaGain (cd : Int) : (s.setCd d cd).get (.lr .tiaGain) d 0 = s.get (.lr .tiaGain) d 0 := by
  simp [State.setCd, State.cdNear]

@[simp] theorem State.setCd_rxState (cd : Int) : (s.setCd d cd).rxState d = s.rxState d := by
  simp [State.rxState, State.setCd, State.cdNear]

@[simp] theorem State.setCd_lrLos (cd : Int) : (s.setCd d cd).flag (.live .lrLos) d 0 = s.flag (.live .lrLos) d 0 := by
  simp [State.setCd, State.cdNear]

-- Acquisition (R115 to R118).

/-- A receiver that starts is in PREREQ with a new attempt. -/
theorem State.rxStart_attempt (cal : OeCal) (power : Int) : (s.rxStart d cal power).get (.lr .rxEn) d 0 = 1 ∧
    (s.rxStart d cal power).rxState d = rxPrereq ∧ (s.rxStart d cal power).get (.lr .rxSf) d 0 = 1 ∧
    (s.rxStart d cal power).get (.lr .acqRetryLeft) d 0 = s.get (.lr .acqRetry) d 0 ∧
    (s.rxStart d cal power).get (.lr .nAcqAttempt) d 0 = (s.get (.lr .nAcqAttempt) d 0 + 1) % Counter.size ∧
    (s.rxStart d cal power).flag (.live .lrRxDown) d 0 = true := by
  simp [State.rxStart, State.rxAttempt, State.rxOn, rxPrereq, rxLocked, Counter.size]

@[simp] theorem State.rxStart_boot (cal : OeCal) (power : Int) (c : BootCell) (e i : Nat) :
    (s.rxStart d cal power).get (.boot c) e i = s.get (.boot c) e i := by
  simp [State.rxStart, State.rxAttempt]

/-- A receiver that RX_EN starts shows LOS where its power is low. -/
theorem State.rxStart_los (cal : OeCal) {power : Int} (he : s.flag (.lr .rxEn) d 0 = false) (hp : s.powerLow d power = true) :
    (s.rxStart d cal power).flag (.live .lrLos) d 0 = true := by
  simp [State.rxStart, State.rxAttempt, State.rxOn, he, hp]

theorem rxEnRise_starts {cal : OeCal} {power : Int} (hu : s.up d = true) (he : s.flag (.lr .rxEn) d 0 = false) :
    Completes (.rxEnRise d cal power) s fun t =>
      t.get (.lr .rxEn) d 0 = 1 ∧ t.rxState d = rxPrereq ∧ t.get (.lr .rxSf) d 0 = 1 ∧
        t.get (.lr .acqRetryLeft) d 0 = s.get (.lr .acqRetry) d 0 ∧
        t.get (.lr .nAcqAttempt) d 0 = (s.get (.lr .nAcqAttempt) d 0 + 1) % Counter.size ∧
        t.flag (.live .lrRxDown) d 0 = true ∧ (s.powerLow d power = true → t.flag (.live .lrLos) d 0 = true) := by
  obtain ⟨hen, hst, hsf, hleft, hn, hdown⟩ := State.rxStart_attempt (s := s) (d := d) cal power
  refine completes_of (exec_rxEnRise cal power) (by simp [hu, State.rxOn, he]) ?_
  simpa [hen, hsf, hleft, hn, hdown] using ⟨hst, fun hp => State.rxStart_los cal he hp⟩

theorem acquireLine_starts {cal : OeCal} {power : Int} (hu : s.up d = true) (hc : s.called 9 = true)
    (ha : s.procArg 9 0 = d) : Completes (.acquireLine d cal power) s fun t =>
      t.get (.lr .rxEn) d 0 = 1 ∧ t.rxState d = rxPrereq ∧ t.called 9 = true ∧
        t.get (.lr .nAcqAttempt) d 0 = (s.get (.lr .nAcqAttempt) d 0 + 1) % Counter.size := by
  obtain ⟨hen, hst, -, -, hn, -⟩ := State.rxStart_attempt (s := s) (d := d) cal power
  refine completes_of (exec_acquireLine cal power) (by simp [hu, hc, ha]) ?_
  simpa [State.called, State.flag, hen, hn] using And.intro hst (by simpa [State.called, State.flag] using hc)

theorem rxEnFall_off (hu : s.up d = true) (he : s.flag (.lr .rxEn) d 0 = true) : Completes (.rxEnFall d) s fun t =>
    t.get (.lr .rxEn) d 0 = 0 ∧ t.rxState d = rxOff ∧ t.get (.lr .cdEstValid) d 0 = 0 ∧ t.get (.lr .eqValid) d 0 = 0 ∧
      t.flag (.live .lrRxDown) d 0 = false ∧ t.flag (.live .lrLos) d 0 = false ∧ t.flag (.live .lrLoLost) d 0 = false :=
  completes_of exec_rxEnFall (by simp [hu, State.rxOn, he]) (by simp [State.rxStop, State.cdNear, State.rxOn])

theorem acqStepPass_prereq {m : AcqMeas} (hu : s.up d = true) (hs : s.rxState d = rxPrereq) (hl : s.lasReady d = true)
    (hv : s.flag (.cal .convValid) d 0 = true) : Completes (.acqStepPass d m) s fun t => t.rxState d = rxSignal :=
  completes_of (exec_acqStepPass m) (by simp [hu, State.acquiring, State.acqMet, hs, rxPrereq, hl, hv])
    (by simp [State.acqPass, hs, rxPrereq])

theorem acqStepPass_signal {m : AcqMeas} (hu : s.up d = true) (hs : s.rxState d = rxSignal)
    (hp : s.getI (.lr .losThresh) d 0 + 10 < m.power) : Completes (.acqStepPass d m) s fun t =>
      t.rxState d = (if s.flag (.lr .cdMode) d 0 then rxFreq else rxCd) ∧ t.flag (.live .lrLos) d 0 = false ∧
        t.get (.lr .tiaGain) d 0 = min 120 m.gain := by
  refine completes_of (exec_acqStepPass m)
    (by simp [hu, State.acquiring, State.acqMet, hs, rxSignal, State.powerBack, hp]) ?_
  cases hm : s.flag (.lr .cdMode) d 0 <;> simp [State.acqPass, hs, rxSignal, hm]

theorem acqStepPass_cd {m : AcqMeas} (hu : s.up d = true) (hs : s.rxState d = rxCd) (h1 : (s.cdWindow d).1 ≤ m.cd)
    (h2 : m.cd ≤ (s.cdWindow d).2) : Completes (.acqStepPass d m) s fun t =>
      t.rxState d = rxFreq ∧ t.getI (.lr .cdEst) d 0 = dec (enc m.cd) ∧ t.get (.lr .cdEstValid) d 0 = 1 ∧
        t.getI (.lr .cdFilter) d 0 = dec (enc m.cd) :=
  completes_of (exec_acqStepPass m) (by simp [hu, State.acquiring, State.acqMet, hs, rxCd, h1, h2])
    (by simp [State.acqPass, hs, rxCd, State.getI, State.setCd_stored])

theorem acqStepPass_freq {m : AcqMeas} (hu : s.up d = true) (hs : s.rxState d = rxFreq) (hf : m.freq.natAbs ≤ 3500) :
    Completes (.acqStepPass d m) s fun t => t.rxState d = rxTiming :=
  completes_of (exec_acqStepPass m) (by simp [hu, State.acquiring, State.acqMet, hs, rxFreq, hf])
    (by simp [State.acqPass, hs, rxFreq, rxTiming])

theorem acqStepPass_next {m : AcqMeas} (hu : s.up d = true) (h5 : 5 ≤ s.rxState d) (h8 : s.rxState d ≤ 8) :
    Completes (.acqStepPass d m) s fun t =>
      t.rxState d = s.rxState d + 1 ∧ (s.rxState d = rxSync → t.get (.lr .xySwap) d 0 = m.swap.toNat) := by
  obtain h | h | h | h : s.rxState d = 5 ∨ s.rxState d = 6 ∨ s.rxState d = 7 ∨ s.rxState d = 8 := by omega
  all_goals
    refine completes_of (exec_acqStepPass m) (by simp [hu, State.acquiring, State.acqMet, h]) ?_
    simp [State.acqPass, h, rxSync, rxCarrier]

theorem acqStepPass_verify {m : AcqMeas} (hu : s.up d = true) (hs : s.rxState d = rxVerify)
    (hn : s.get (.lr .ngmiMin) d 0 ≤ m.ngmi) : Completes (.acqStepPass d m) s fun t =>
      t.rxState d = rxLocked ∧ t.get (.lr .rxSf) d 0 = 0 ∧ t.get (.lr .eqValid) d 0 = 1 ∧
        t.get (.lr .acqRetryLeft) d 0 = s.get (.lr .acqRetry) d 0 ∧ t.flag (.live .lrAcqFailed) d 0 = false ∧
        t.flag (.live .lrRxDown) d 0 = false :=
  completes_of (exec_acqStepPass m) (by simp [hu, State.acquiring, State.acqMet, hs, rxVerify, hn])
    (by simp [State.acqPass, hs, rxVerify, State.rxEnterLocked])

theorem acqStepTimeout_restarts (hu : s.up d = true) (ha : s.acquiring d = true)
    (hr : s.get (.lr .acqRetryLeft) d 0 ≠ 0) : Completes (.acqStepTimeout d) s fun t =>
      t.rxState d = (if s.rxState d = rxPrereq then rxPrereq else rxSignal) ∧
        t.get (.lr .acqRetryLeft) d 0 = s.get (.lr .acqRetryLeft) d 0 - 1 ∧ t.get (.lr .lastFailStep) d 0 = s.rxState d ∧
        t.get (.lr .nAcqFail) d 0 = (s.get (.lr .nAcqFail) d 0 + 1) % Counter.size :=
  completes_of exec_acqStepTimeout (by simp [hu, ha]) (by simp [hr, Counter.size])

theorem acqStepTimeout_fails (hu : s.up d = true) (ha : s.acquiring d = true) (hr : s.get (.lr .acqRetryLeft) d 0 = 0) :
    Completes (.acqStepTimeout d) s fun t =>
      t.rxState d = rxFailedWait ∧ t.flag (.live .lrAcqFailed) d 0 = true ∧ t.get (.lr .lastFailStep) d 0 = s.rxState d :=
  completes_of exec_acqStepTimeout (by simp [hu, ha]) (by simp [hr])

theorem failedWaitExpiry_restarts (hu : s.up d = true) (he : s.flag (.lr .rxEn) d 0 = true)
    (hs : s.rxState d = rxFailedWait) : Completes (.failedWaitExpiry d) s fun t =>
      t.rxState d = rxPrereq ∧ t.get (.lr .acqRetryLeft) d 0 = s.get (.lr .acqRetry) d 0 ∧
        t.get (.lr .nAcqAttempt) d 0 = (s.get (.lr .nAcqAttempt) d 0 + 1) % Counter.size :=
  completes_of exec_failedWaitExpiry (by simp [hu, State.rxOn, he, hs])
    (by simp [State.rxAttempt, Counter.size])

/-- Settles O23: a lemma for each way that acquisition starts, passes or fails a step, and ends. -/
theorem receiverAcquisition : Obligations.ReceiverAcquisition := by
  unfold Obligations.ReceiverAcquisition
  intro s d m cal power hu
  exact ⟨rxEnRise_starts hu, acquireLine_starts hu, rxEnFall_off hu, acqStepPass_prereq hu, acqStepPass_signal hu,
    acqStepPass_cd hu, acqStepPass_freq hu, acqStepPass_next hu, acqStepPass_verify hu, acqStepTimeout_restarts hu,
    acqStepTimeout_fails hu, failedWaitExpiry_restarts hu⟩

-- Loss of lock and tracking (R100 to R120).

theorem rxLos_holds {power : Int} (hu : s.up d = true) (he : s.flag (.lr .rxEn) d 0 = true)
    (hp : power < s.getI (.lr .losThresh) d 0) : Completes (.rxLos d power) s fun t =>
      t.flag (.live .lrLos) d 0 = true ∧ t.get (.lr .rxPower) d 0 = enc power % 2 ^ 16 ∧
        (if 3 ≤ s.rxState d ∧ s.rxState d ≤ 10 then
          t.rxState d = (if s.get (.lr .holdMs) d 0 = 0 then rxSignal else rxHold) ∧
            t.get (.lr .nLosEnter) d 0 = (s.get (.lr .nLosEnter) d 0 + 1) % Counter.size
        else t.rxState d = s.rxState d) := by
  refine completes_of (exec_rxLos power) (by simp [hu, State.rxOn, he, State.powerLow, hp]) ?_
  by_cases hh : 3 ≤ s.rxState d ∧ s.rxState d ≤ 10
  · have hb : (decide (3 ≤ s.rxState d) && decide (s.rxState d ≤ 10)) = true := by simpa using hh
    simp [hh, State.enterHold, State.holdToSignal, State.setRxPower, Counter.size]
  · have hb : (decide (3 ≤ s.rxState d) && decide (s.rxState d ≤ 10)) = false := by simpa using hh
    simp [hh, hb, State.setRxPower]

theorem rxPowerReturn_relocks {power : Int} (hu : s.up d = true) (he : s.flag (.lr .rxEn) d 0 = true)
    (hp : s.getI (.lr .losThresh) d 0 + 10 < power) : Completes (.rxPowerReturn d power) s fun t =>
      t.flag (.live .lrLos) d 0 = false ∧
        (s.rxState d = rxHold → t.rxState d = if s.flag (.lr .fastRelock) d 0 then rxTiming else rxSignal) ∧
        (s.rxState d ≠ rxHold → t.rxState d = s.rxState d) := by
  refine completes_of (exec_rxPowerReturn power) (by simp [hu, State.rxOn, he, State.powerBack, hp]) ?_
  by_cases hh : s.rxState d = rxHold
  · simp [hh, State.holdToSignal, State.setRxPower]
  · simp [hh, State.setRxPower]

theorem holdExpiry_signal (hu : s.up d = true) (hs : s.rxState d = rxHold) : Completes (.holdExpiry d) s fun t =>
    t.rxState d = rxSignal ∧ t.get (.lr .eqValid) d 0 = 0 ∧ t.get (.lr .cdEst) d 0 = s.get (.lr .cdEst) d 0 :=
  completes_of exec_holdExpiry (by simp [hu, hs]) (by simp [State.holdToSignal])

theorem rxLoLost_prereq (hu : s.up d = true) (he : s.flag (.lr .rxEn) d 0 = true) (hl : s.lasReady d = false) :
    Completes (.rxLoLost d) s fun t => t.flag (.live .lrLoLost) d 0 = true ∧
      t.rxState d = (if 2 ≤ s.rxState d ∧ s.rxState d ≤ 11 then rxPrereq else s.rxState d) ∧
      t.get (.lr .acqRetryLeft) d 0 = s.get (.lr .acqRetryLeft) d 0 := by
  refine completes_of exec_rxLoLost (by simp [hu, State.rxOn, he, hl]) ?_
  by_cases hh : 2 ≤ s.rxState d ∧ s.rxState d ≤ 11
  · simp [hh]
  · have hb : (decide (2 ≤ s.rxState d) && decide (s.rxState d ≤ 11)) = false := by simpa using hh
    simp [hh, hb]

theorem eqSlip_eq (hu : s.up d = true) (hs : s.rxState d = rxLocked) : Completes (.eqSlip d) s fun t =>
    t.rxState d = rxEq ∧ t.flag (.sticky .lrEqSlip) d 0 = true ∧
      t.get (.lr .nEqReinit) d 0 = (s.get (.lr .nEqReinit) d 0 + 1) % Counter.size :=
  completes_of exec_eqSlip (by simp [State.locked, hu, hs]) (by simp [Counter.size])

theorem syncLoss_sync (hu : s.up d = true) (hs : s.rxState d = rxLocked) : Completes (.syncLoss d) s fun t =>
    t.rxState d = rxSync ∧ t.flag (.sticky .lrSyncLoss) d 0 = true ∧
      t.get (.lr .nSyncLoss) d 0 = (s.get (.lr .nSyncLoss) d 0 + 1) % Counter.size :=
  completes_of exec_syncLoss (by simp [State.locked, hu, hs]) (by simp [Counter.size])

theorem freqOffsetExceeded_freq (hu : s.up d = true) (hs : s.rxState d = rxLocked) :
    Completes (.freqOffsetExceeded d) s fun t => t.rxState d = rxFreq ∧ t.get (.lr .rxSf) d 0 = 1 :=
  completes_of exec_freqOffsetExceeded (by simp [State.locked, hu, hs]) (by simp [rxFreq, rxLocked])

theorem cycleSlip_stays (hu : s.up d = true) (h8 : 8 ≤ s.rxState d) (h10 : s.rxState d ≤ 10) :
    Completes (.cycleSlip d) s fun t => t.rxState d = s.rxState d ∧ t.flag (.sticky .lrCycleSlip) d 0 = true ∧
      t.get (.lr .nCycleSlip) d 0 = (s.get (.lr .nCycleSlip) d 0 + 1) % Counter.size :=
  completes_of exec_cycleSlip (by simp [hu, h8, h10]) (by simp [Counter.size])

theorem agcFastStep_steps (hu : s.up d = true) (he : s.flag (.lr .rxEn) d 0 = true) : Completes (.agcFastStep d) s fun t =>
    t.get (.lr .tiaGain) d 0 = s.get (.lr .tiaGain) d 0 - 4 ∧
      t.get (.lr .nAgcFastStep) d 0 = (s.get (.lr .nAgcFastStep) d 0 + 1) % Counter.size :=
  completes_of exec_agcFastStep (by simp [hu, State.rxOn, he]) (by simp [Counter.size])

theorem adcClipWindow_counts {tr clipped : Nat} (hu : s.up d = true) (he : s.flag (.lr .rxEn) d 0 = true) :
    Completes (.adcClipWindow d tr clipped) s fun t =>
      t.get (.lr .nAdcClip) d tr = (s.get (.lr .nAdcClip) d tr + clipped) % Counter.size ∧
        (1600 < clipped → t.flag (.sticky .lrAdcClipHi) d 0 = true) := by
  refine completes_of (exec_adcClipWindow tr clipped) (by simp [hu, State.rxOn, he]) ⟨by simp [Counter.size], fun h => ?_⟩
  simp [h]

theorem adcOverload_shows {holds : Bool} (hu : s.up d = true) (he : s.flag (.lr .rxEn) d 0 = true) :
    Completes (.adcOverload d holds) s fun t =>
      t.flag (.live .lrAdcOverload) d 0 = (holds && decide (s.get (.lr .tiaGain) d 0 = 0)) :=
  completes_of (exec_adcOverload holds) (by simp [hu, State.rxOn, he]) (by simp)

theorem rxPwrLow_shows {holds : Bool} (hu : s.up d = true) (he : s.flag (.lr .rxEn) d 0 = true) :
    Completes (.rxPwrLow d holds) s fun t =>
      t.flag (.live .lrRxPwrLow) d 0 = (holds && decide (s.get (.lr .tiaGain) d 0 = 120)) :=
  completes_of (exec_rxPwrLow holds) (by simp [hu, State.rxOn, he]) (by simp)

theorem cdReprogram_stores {cd : Int} (hu : s.up d = true) (hs : s.rxState d = rxLocked)
    (hc : 100 < (cd - s.getI (.lr .cdFilter) d 0).natAbs) : Completes (.cdReprogram d cd) s fun t =>
      t.getI (.lr .cdEst) d 0 = dec (enc cd) ∧ t.get (.lr .cdEstValid) d 0 = 1 ∧
        t.getI (.lr .cdFilter) d 0 = dec (enc cd) ∧ t.rxState d = rxLocked := by
  exact completes_of (exec_cdReprogram cd) (by simp [State.locked, hu, hs, hc])
    (by simp [State.getI, State.setCd_stored, hs])

/-- Settles O24: a lemma for each way the receiver loses or regains lock, and for each thing it tracks.  That LR_LOS_ENTER
counts with HOLD_MS = 0 and that a fast AGC step counts at gain 0 are the model's choices (log 18). -/
theorem receiverTracking : Obligations.ReceiverTracking := by
  unfold Obligations.ReceiverTracking
  intro s d tr clipped power cd holds hu
  exact ⟨rxLos_holds hu, rxPowerReturn_relocks hu, holdExpiry_signal hu, rxLoLost_prereq hu,
    fun hs => ⟨eqSlip_eq hu hs, syncLoss_sync hu hs, freqOffsetExceeded_freq hu hs⟩, cycleSlip_stays hu,
    fun he => ⟨agcFastStep_steps hu he, adcClipWindow_counts hu he, adcOverload_shows hu he, rxPwrLow_shows hu he⟩,
    cdReprogram_stores hu⟩

end Sys2Proof.Machine
end

section
/-!
The decoder and the quality window (R123, R124, R135 to R141).
-/
set_option Elab.async false
namespace Sys2Proof.Machine

variable {s : State} {d frame iter : Nat}

theorem exec_superframeEncodeStart : exec (.superframeEncodeStart d) s = execSuperframeEncodeStart d s := rfl
theorem exec_fecLockCandidate (b : Bool) : exec (.fecLockCandidate d frame b) s = execFecLockCandidate d frame b s := rfl
theorem exec_codewordDecode (b : Bool) : exec (.codewordDecode d b iter) s = execCodewordDecode d b iter s := rfl
theorem exec_outerRowExit (a b c e : Nat) : exec (.outerRowExit d a b c e) s = execOuterRowExit d a b c e s := rfl
theorem exec_fecSfInterval : exec (.fecSfInterval d) s = execFecSfInterval d s := rfl
theorem exec_qualityWindowEnd (q : Quality) : exec (.qualityWindowEnd d q) s = execQualityWindowEnd d q s := rfl

-- Codeword lock (R136).

/-- What the framer that follows the decoder does not touch. -/
abbrev fecCells : Cell → Bool
  | .fec _ | .sticky .fecLockLoss | .live .fecSf => true
  | _ => false

@[simp] theorem State.lofFollow_fec {c : Cell} (h : fecCells c = true) (e i : Nat) : (s.lofFollow d).get c e i = s.get c e i :=
  Reach.get_in (g := fecCells) (by apply State.lofFollow_reach Reach.refl <;> intros <;> rfl) h ..

@[simp] theorem State.lofFollow_fec_flag {c : Cell} (h : fecCells c = true) (e i : Nat) :
    (s.lofFollow d).flag c e i = s.flag c e i := by
  simp only [State.flag, State.lofFollow_fec h]

/-- Lock that starts afresh: the state given, with no failed test yet. -/
theorem State.fecEnter_get (st : Nat) : (s.fecEnter d st).get (.fec .lockState) d 0 = st ∧
    (s.fecEnter d st).get (.fec .failRun) d 0 = 0 := by
  simp [State.fecEnter]

/-- What starting afresh does not touch. -/
abbrev fecCounts : Cell → Bool
  | .fec .nLockLoss | .sticky .fecLockLoss => true
  | _ => false

@[simp] theorem State.fecEnter_get_other {c : Cell} (h : fecCounts c = true) (st e i : Nat) :
    (s.fecEnter d st).get c e i = s.get c e i :=
  Reach.get_in (g := fecCounts) (by apply State.fecEnter_reach Reach.refl <;> intros <;> rfl) h ..

@[simp] theorem State.fecEnter_flag_other {c : Cell} (h : fecCounts c = true) (st e i : Nat) :
    (s.fecEnter d st).flag c e i = s.flag c e i := by
  simp only [State.flag, State.fecEnter_get_other h]

theorem superframeEncodeStart_restarts (hu : s.up d = true) (hf : s.txFrames d = true) :
    Completes (.superframeEncodeStart d) s fun t =>
      t.get (.fec .prbs31) d 0 = 0x7FFFFFFF ∧ t.get (.fec .fillAcc) d 0 = 0 ∧ t.get (.fec .stairClear) d 0 = 1 ∧
        t.get (.fec .superframes) d 0 = (s.get (.fec .superframes) d 0 + 1) % Counter.size :=
  completes_of exec_superframeEncodeStart (by simp [hu, hf]) (by simp [Counter.size])

theorem fecLockCandidate_locks (hu : s.up d = true) (hl : s.get (.fec .lockState) d 0 = 1) (hf : 75 ≤ frame)
    (hc : s.get (.fec .candAt) d (frame % 75) = frame - 75 + 1) : Completes (.fecLockCandidate d frame true) s fun t =>
      t.get (.fec .lockState) d 0 = 2 ∧ t.get (.fec .lockPhase) d 0 = frame % 75 ∧ t.get (.fec .failRun) d 0 = 0 :=
  completes_of (exec_fecLockCandidate true) hu
    (by simp [hl, State.fecSearch, hf, hc, State.fecSfRefresh, State.fecEnter_get])

theorem fecLockCandidate_candidate (hu : s.up d = true) (hl : s.get (.fec .lockState) d 0 = 1)
    (hc : s.get (.fec .candAt) d (frame % 75) ≠ frame - 75 + 1) : Completes (.fecLockCandidate d frame true) s fun t =>
      t.get (.fec .lockState) d 0 = 1 ∧ t.get (.fec .candAt) d (frame % 75) = frame + 1 :=
  completes_of (exec_fecLockCandidate true) hu (by simp [hl, State.fecSearch, hc])

theorem fecLockCandidate_loses (hu : s.up d = true) (hl : s.get (.fec .lockState) d 0 = 2)
    (hp : s.get (.fec .lockPhase) d 0 = frame % 75) (hr : 3 ≤ s.get (.fec .failRun) d 0) :
    Completes (.fecLockCandidate d frame false) s fun t =>
      t.get (.fec .lockState) d 0 = 1 ∧ t.flag (.sticky .fecLockLoss) d 0 = true ∧
        t.get (.fec .nLockLoss) d 0 = (s.get (.fec .nLockLoss) d 0 + 1) % Counter.size :=
  completes_of (exec_fecLockCandidate false) hu
    (by simp [hl, hp, State.fecHold, Nat.not_lt.mpr hr, State.fecSfRefresh, State.fecEnter_get, Counter.size])

theorem fecLockCandidate_fails (hu : s.up d = true) (hl : s.get (.fec .lockState) d 0 = 2)
    (hp : s.get (.fec .lockPhase) d 0 = frame % 75) (hr : s.get (.fec .failRun) d 0 < 3) :
    Completes (.fecLockCandidate d frame false) s fun t =>
      t.get (.fec .lockState) d 0 = 2 ∧ t.get (.fec .failRun) d 0 = s.get (.fec .failRun) d 0 + 1 :=
  completes_of (exec_fecLockCandidate false) hu (by simp [hl, hp, State.fecHold, hr])

-- The decoder's counts (R137 to R140).

theorem codewordDecode_skipped (hu : s.up d = true) (he : s.flag (.lr .rxEn) d 0 = true)
    (hs : s.flag (.lr .rxSf) d 0 = true) : Completes (.codewordDecode d true iter) s fun t =>
      t.get (.fec .nCwSkipped) d 0 = (s.get (.fec .nCwSkipped) d 0 + 1) % Counter.size ∧
        t.get (.fec .nCw) d 0 = s.get (.fec .nCw) d 0 :=
  completes_of (exec_codewordDecode true) (by simp [hu, State.rxOn, he]) (by simp [hs, Counter.size])

theorem codewordDecode_failed (hu : s.up d = true) (he : s.flag (.lr .rxEn) d 0 = true)
    (hs : s.flag (.lr .rxSf) d 0 = false) (hl : s.get (.fec .lockState) d 0 = 2) :
    Completes (.codewordDecode d false iter) s fun t =>
      t.get (.fec .nCw) d 0 = (s.get (.fec .nCw) d 0 + 1) % Counter.size ∧
        t.get (.fec .nLdpcFail) d 0 = (s.get (.fec .nLdpcFail) d 0 + 1) % Counter.size ∧
        t.flag (.sticky .fecLdpcFail) d 0 = true :=
  completes_of (exec_codewordDecode false) (by simp [hu, State.rxOn, he]) (by simp [hs, hl, Counter.size])

theorem codewordDecode_converged (hu : s.up d = true) (he : s.flag (.lr .rxEn) d 0 = true)
    (hs : s.flag (.lr .rxSf) d 0 = false) (hl : s.get (.fec .lockState) d 0 = 2) (hi : iter ≤ s.get (.fec .iterCap) d 0)
    (hm : (s.rxMode d).lineStd = 0) : Completes (.codewordDecode d true iter) s fun t =>
      t.get (.fec .nCw) d 0 = (s.get (.fec .nCw) d 0 + 1) % Counter.size ∧
        t.get (.fec .nIterHist) d (iter - 1) = (s.get (.fec .nIterHist) d (iter - 1) + 1) % Counter.size ∧
        t.get (.fec .nLdpcFail) d 0 = s.get (.fec .nLdpcFail) d 0 :=
  completes_of (exec_codewordDecode true) (by simp [hu, State.rxOn, he]) (by simp [hs, hl, hi, hm, Counter.size])

theorem outerRowExit_counts {outer ones zeros residual : Nat} (hu : s.up d = true) (he : s.flag (.lr .rxEn) d 0 = true)
    (hl : s.get (.fec .lockState) d 0 = 2) : Completes (.outerRowExit d outer ones zeros residual) s fun t =>
      t.get (.fec .nOuterCorr) d 0 = (s.get (.fec .nOuterCorr) d 0 + outer) % Counter.size ∧
        t.get (.fec .nCorrBits) d 0 = (s.get (.fec .nCorrBits) d 0 + (ones + zeros)) % Counter.size ∧
        t.get (.fec .nCorrOnes) d 0 = (s.get (.fec .nCorrOnes) d 0 + ones) % Counter.size ∧
        t.get (.fec .nCorrZeros) d 0 = (s.get (.fec .nCorrZeros) d 0 + zeros) % Counter.size ∧
        (residual ≠ 0 → t.flag (.sticky .fecUncorr) d 0 = true ∧
          t.get (.fec .nUncorr) d 0 = (s.get (.fec .nUncorr) d 0 + residual) % Counter.size) := by
  refine completes_of (exec_outerRowExit ..) (by simp [hu, State.rxOn, he, hl]) ?_
  simp +contextual [Counter.size]

theorem fecSfInterval_shows (hu : s.up d = true) (he : s.flag (.lr .rxEn) d 0 = true)
    (hl : s.get (.fec .lockState) d 0 = 2) : Completes (.fecSfInterval d) s fun t =>
      t.flag (.live .fecSf) d 0 = decide (s.get (.fec .ucwSfThresh) d 0 < s.get (.fec .ucwCount) d 0) ∧
        t.get (.fec .ucwCount) d 0 = 0 :=
  completes_of exec_fecSfInterval (by simp [hu, State.rxOn, he]) (by simp [State.fecSfRefresh, he, hl])

-- The quality window (R123, R124, R141).

/-- What Peloton and the ladder do not touch at the end of a window. -/
abbrev qualityCells : Cell → Bool
  | .lr .qSeq | .lr .qValid | .lr .qSnrEff | .lr .qGmi | .lr .qNgmi | .lr .qBits | .lr .qErrs | .lr .rxState | .fec .margin
  | .live .lrQualLow => true
  | _ => false

@[simp] theorem State.pelWindow_quality {c : Cell} (h : qualityCells c = true) (valid : Bool) (gain : Int) (e i : Nat) :
    (s.pelWindow d valid gain).get c e i = s.get c e i :=
  Reach.get_in (g := qualityCells) (by apply State.pelWindow_reach Reach.refl <;> intros <;> rfl) h ..

@[simp] theorem State.ladderWindow_quality {c : Cell} (h : qualityCells c = true) (valid : Bool) (margin : Int) (e i : Nat) :
    (s.ladderWindow d valid margin).get c e i = s.get c e i :=
  Reach.get_in (g := qualityCells) (by apply State.ladderWindow_reach Reach.refl <;> intros <;> rfl) h ..

@[simp] theorem State.pelWindow_quality_flag {c : Cell} (h : qualityCells c = true) (valid : Bool) (gain : Int) (e i : Nat) :
    (s.pelWindow d valid gain).flag c e i = s.flag c e i := by
  simp only [State.flag, State.pelWindow_quality h]

@[simp] theorem State.ladderWindow_quality_flag {c : Cell} (h : qualityCells c = true) (valid : Bool) (margin : Int)
    (e i : Nat) : (s.ladderWindow d valid margin).flag c e i = s.flag c e i := by
  simp only [State.flag, State.ladderWindow_quality h]

theorem qualityWindowEnd_registers {q : Quality} (hu : s.up d = true) (he : s.flag (.lr .rxEn) d 0 = true) :
    Completes (.qualityWindowEnd d q) s fun t =>
      t.get (.lr .qSeq) d 0 = (s.get (.lr .qSeq) d 0 + 1) % 2 ^ 31 ∧
        t.get (.lr .qValid) d 0 = (s.flag (.lr .winLocked) d 0 && decide (s.rxState d = rxLocked)).toNat ∧
        t.get (.lr .qSnrEff) d 0 = min q.snrEff 0xFFFF ∧ t.get (.lr .qGmi) d 0 = min q.gmi 0xFFFF ∧
        t.get (.lr .qNgmi) d 0 = (s.rxMode d).ngmi q.gmi ∧
        t.get (.fec .margin) d 0 = enc (((s.rxMode d).ngmi q.gmi : Nat) - ((s.rxMode d).ngmiTh : Nat) : Int) % 2 ^ 16 ∧
        t.get (.lr .qBits) d 0 = q.bits % 2 ^ 64 ∧ t.get (.lr .qErrs) d 0 = q.errs % 2 ^ 64 ∧
        t.get (.lr .winLocked) d 0 = (decide (s.rxState d = rxLocked)).toNat :=
  completes_of (exec_qualityWindowEnd q) (by simp [hu, State.rxOn, he])
    (by simp [State.writeQuality, satU, Nat.min_comm])

theorem qualityWindowEnd_low {q : Quality} (hu : s.up d = true) (he : s.flag (.lr .rxEn) d 0 = true)
    (hw : s.flag (.lr .winLocked) d 0 = true) (hs : s.rxState d = rxLocked) :
    Completes (.qualityWindowEnd d q) s fun t =>
      t.flag (.live .lrQualLow) d 0 = decide ((s.rxMode d).ngmi q.gmi < s.get (.lr .ngmiWarn) d 0) :=
  completes_of (exec_qualityWindowEnd q) (by simp [hu, State.rxOn, he])
    (by simp [State.writeQuality, hw, hs])

/-- Settles O25: a lemma for each test, codeword, row and interval of the decoder, and for the end of a quality window. -/
theorem decoder : Obligations.Decoder := by
  unfold Obligations.Decoder
  refine ⟨?_, ?_⟩
  · intro s d frame iter outer ones zeros residual hu
    exact ⟨superframeEncodeStart_restarts hu, fecLockCandidate_locks hu, fecLockCandidate_candidate hu,
      fecLockCandidate_loses hu, fecLockCandidate_fails hu, codewordDecode_skipped hu,
      fun he hs hl => ⟨codewordDecode_failed hu he hs hl, codewordDecode_converged hu he hs hl⟩, outerRowExit_counts hu,
      fecSfInterval_shows hu⟩
  · intro s d q hu he
    exact ⟨qualityWindowEnd_registers hu he, qualityWindowEnd_low hu he⟩

end Sys2Proof.Machine
end

section
/-!
Container frames (R157): CTN_LOF shows the working path of a container 0 to 511 only.
-/
set_option Elab.async false
namespace Sys2Proof.Machine
open Sys2Proof.Tests

/-- A command that completes with an effect completes in the state `after` names. -/
theorem Completes.after {c : Instr} {s : State} {P : State → Prop} (h : Completes c s P) : P (after c s) := by
  obtain ⟨t, ht, hP⟩ := h
  rw [Tests.after, ht]
  exact hP

/-- Die 0 is released, and the window word of an entry 512 gives it MODE 1; four frames have come without alignment. -/
def farCtnState : State :=
  wSt [(.sys .dieReleased, 0, 0, 255), (.win .ctCtn, 0, 16 * 512, 1), (.ct .cMisses, 0, 512, 4)]

/-- A frame of the working path without its alignment signal. -/
def missedFrame : CtnFrame :=
  ⟨false, false, 0, false, 0, 0, .nr, 0, 0, false, false, 0, 0, false, false, false, false, [], false, 0, 0, false, false,
    false⟩

/-- The fifth miss of entry 512 loses alignment without CTN_LOF. -/
theorem farCtn_lof : (after (.containerFrameRx 0 512 missedFrame) farCtnState).flag (.live .ctnLof) 0 512 = false := by
  decide +kernel

/-- Refutes O26: the statement bounds no container number.  The model keeps the protect path of container i at the index
512 + i, and raises CTN_LOF for an index below 512 only; so the fifth frame without alignment of a container 512 whose
window word gives a MODE loses alignment without CTN_LOF. -/
theorem not_framing : ¬ Obligations.Framing := by
  unfold Obligations.Framing
  rintro ⟨-, h⟩
  obtain ⟨hframes, -⟩ := h farCtnState 0 512 0 0 0 false missedFrame (by decide +kernel)
  obtain ⟨-, hlof⟩ := hframes (by decide +kernel) rfl (by decide +kernel)
  obtain ⟨-, hlive, -⟩ := (hlof rfl (by decide +kernel)).after
  exact absurd hlive (by simp [farCtn_lof])

end Sys2Proof.Machine
end

section
/-!
Tandem containers: requests and the selector (R166, R173), delivery, realignment and presence (R170, R171, R174, R175).
-/
set_option Elab.async false
namespace Sys2Proof.Machine

variable {s : State} {d i n : Nat}

theorem exec_tandemSelect : exec (.tandemSelect d i) s = execTandemSelect d i s := rfl
theorem exec_tandemHoldoffExpiry : exec (.tandemHoldoffExpiry d i) s = execTandemHoldoffExpiry d i s := rfl
theorem exec_tandemWtrExpiry : exec (.tandemWtrExpiry d i) s = execTandemWtrExpiry d i s := rfl
theorem exec_sealRequestClear : exec (.sealRequestClear d i) s = execSealRequestClear d i s := rfl
theorem exec_apsFopTimer : exec (.apsFopTimer d i) s = execApsFopTimer d i s := rfl
theorem exec_tandemFrameDeliver (w p : Bool) : exec (.tandemFrameDeliver d i n w p) s = execTandemFrameDeliver d i n w p s := rfl
theorem exec_tandemRealign (skip diff : Nat) (first : Bool) :
    exec (.tandemRealign d i skip diff first) s = execTandemRealign d i skip diff first s := rfl
theorem exec_tandemPathPresence (w p : Bool) : exec (.tandemPathPresence d i w p) s = execTandemPathPresence d i w p s := rfl

-- Requests and the selector (R166, R173).

/-- WTR runs after this follow. -/
def State.waitsToRestore (s : State) (d i : Nat) : Bool :=
  decide (s.tdmBase d i < 2) && decide (s.get (.tdm .revertive) d 0 = 1) && decide (s.get (.tdm .sel) d i = 1) &&
    (decide (4 ≤ s.get (.tdm .req) d i) || s.flag (.tdm .wtr) d i)

/-- What the follow of the highest request does not touch. -/
abbrev tdmHeld : Cell → Bool
  | .tdm .sf | .tdm .seal => true
  | _ => false

@[simp] theorem State.tdmFollow_held {c : Cell} (h : tdmHeld c = true) (e j : Nat) :
    (s.tdmFollow d i).get c e j = s.get c e j :=
  Reach.get_in (g := tdmHeld) (by apply State.tdmFollow_reach Reach.refl <;> intros <;> rfl) h ..

/-- REQ after this follow. -/
def State.topRequest (s : State) (d i : Nat) : Nat := if s.waitsToRestore d i then max (s.tdmBase d i) reqWtr else s.tdmBase d i

/-- SEL after this follow. -/
def State.nextSel (s : State) (d i : Nat) : Nat :=
  selFor (s.topRequest d i) (s.get (.tdm .revertive) d 0) (s.get (.tdm .sel) d i)

/-- The follow of the highest request: WTR and REQ, and a change of SEL with its count. -/
theorem State.tdmFollow_eq : s.tdmFollow d i =
    let s1 := (s.setB (.tdm .wtr) d i (s.waitsToRestore d i)).set (.tdm .req) d i (s.topRequest d i)
    if s.nextSel d i = s.get (.tdm .sel) d i then s1
    else ((s1.set (.tdm .sel) d i (s.nextSel d i)).inc (.tdm .nSwitch) d i).event .tdmSwitched d i := rfl

@[simp] theorem State.tdmFollow_req : (s.tdmFollow d i).get (.tdm .req) d i = s.topRequest d i := by
  simp [State.tdmFollow_eq]

@[simp] theorem State.tdmFollow_wtr : (s.tdmFollow d i).get (.tdm .wtr) d i = (s.waitsToRestore d i).toNat := by
  simp [State.tdmFollow_eq]

@[simp] theorem State.tdmFollow_sel : (s.tdmFollow d i).get (.tdm .sel) d i = s.nextSel d i := by
  by_cases h : s.nextSel d i = s.get (.tdm .sel) d i <;> simp [State.tdmFollow_eq, h]

/-- A follow that changes SEL counts the change and sets TANDEM_SWITCHED. -/
theorem State.tdmFollow_switches (h : s.nextSel d i ≠ s.get (.tdm .sel) d i) :
    (s.tdmFollow d i).flag (.sticky .tdmSwitched) d i = true ∧
      (s.tdmFollow d i).get (.tdm .nSwitch) d i = (s.get (.tdm .nSwitch) d i + 1) % 2 ^ 64 := by
  simp [State.tdmFollow_eq, h]

theorem tandemSelect_signalFails (ht : s.isTandem d i = true) (hh : s.get (.tdm .holdoff) d 0 = 0) (hr : s.tdmRaw d i = 1)
    (hl : s.get (.tdm .loc) d i = 0) (hf : s.tdmFar d i = 0) (hs : s.flag (.tdm .seal) d i = false) :
    Completes (.tandemSelect d i) s fun t =>
      t.get (.tdm .sf) d i = 1 ∧ t.get (.tdm .req) d i = reqSfW ∧ t.get (.tdm .sel) d i = 1 ∧
        (s.get (.tdm .sel) d i = 0 → t.flag (.sticky .tdmSwitched) d i = true ∧
          t.get (.tdm .nSwitch) d i = (s.get (.tdm .nSwitch) d i + 1) % Counter.size) := by
  have hsf : (s.tdmConditions d i).get (.tdm .sf) d i = 1 := by simp [State.tdmConditions, hh, hr]
  have hfar : (s.tdmConditions d i).tdmFar d i = 0 := by simpa [State.tdmConditions, State.tdmFar] using hf
  have hbase : (s.tdmConditions d i).tdmBase d i = reqSfW := by
    simp [State.tdmBase, hsf, hfar]
    simp [State.tdmConditions, hl, hs, bit, reqSfW]
  have hreq : (s.tdmConditions d i).topRequest d i = reqSfW := by
    simp [State.topRequest, State.waitsToRestore, hbase, reqSfW]
  have hsel : (s.tdmConditions d i).nextSel d i = 1 := by
    simp [State.nextSel, hreq, selFor, reqSfW, reqNr, reqLo, reqSfP, reqSdP, reqMsW]
  have hother : (s.tdmConditions d i).get (.tdm .sel) d i = s.get (.tdm .sel) d i ∧
      (s.tdmConditions d i).get (.tdm .nSwitch) d i = s.get (.tdm .nSwitch) d i := by simp [State.tdmConditions]
  refine completes_of exec_tandemSelect ht ?_
  refine ⟨by simp [hsf], by simp [hreq], by simp [hsel], fun h => ?_⟩
  have hsw := State.tdmFollow_switches (s := s.tdmConditions d i) (d := d) (i := i) (by rw [hsel, hother.1, h]; decide)
  simpa [Counter.size, hother.2] using hsw

theorem tandemSelect_lockout (ht : s.isTandem d i = true) (hl : s.get (.tdm .loc) d i = reqLo) (hf : s.tdmFar d i < reqLo) :
    Completes (.tandemSelect d i) s fun t => t.get (.tdm .req) d i = reqLo ∧ t.get (.tdm .sel) d i = 0 := by
  have hfar : (s.tdmConditions d i).tdmFar d i < reqLo := by simpa [State.tdmConditions, State.tdmFar] using hf
  have hloc : (s.tdmConditions d i).get (.tdm .loc) d i = reqLo := by simpa [State.tdmConditions] using hl
  have hbase : (s.tdmConditions d i).tdmBase d i = reqLo := by
    simp only [State.tdmBase, hloc, reqLo, reqSfP, reqSfW, reqSdP, reqSdW, reqSeal] at hfar ⊢
    split <;> split <;> split <;> split <;> split <;> omega
  have hreq : (s.tdmConditions d i).topRequest d i = reqLo := by
    simp [State.topRequest, State.waitsToRestore, hbase, reqLo]
  have hsel : (s.tdmConditions d i).nextSel d i = 0 := by simp [State.nextSel, hreq, selFor, reqLo, reqNr]
  exact completes_of exec_tandemSelect ht (by simp [hreq, hsel])

theorem tandemHoldoffExpiry_acts (ht : s.isTandem d i = true) :
    Completes (.tandemHoldoffExpiry d i) s fun t => t.get (.tdm .sf) d i = s.tdmRaw d i ∧
      t.get (.tdm .sel) d i = selFor (t.get (.tdm .req) d i) (s.get (.tdm .revertive) d 0) (s.get (.tdm .sel) d i) :=
  completes_of exec_tandemHoldoffExpiry ht (by simp [State.nextSel])

theorem tandemWtrExpiry_returns (ht : s.isTandem d i = true) (hw : s.flag (.tdm .wtr) d i = true)
    (hr : s.get (.tdm .revertive) d 0 = 1) (hb : s.tdmBase d i = 0) :
    Completes (.tandemWtrExpiry d i) s fun t =>
      t.get (.tdm .wtr) d i = 0 ∧ t.get (.tdm .req) d i = 0 ∧ t.get (.tdm .sel) d i = 0 := by
  have hbase : ((s.set (.tdm .wtr) d i 0).set (.tdm .req) d i 0).tdmBase d i = 0 := by
    simpa [State.tdmBase, State.tdmFar] using hb
  have hwait : ((s.set (.tdm .wtr) d i 0).set (.tdm .req) d i 0).waitsToRestore d i = false := by
    simp [State.waitsToRestore]
  have hreq : ((s.set (.tdm .wtr) d i 0).set (.tdm .req) d i 0).topRequest d i = 0 := by
    simp [State.topRequest, hwait, hbase]
  exact completes_of exec_tandemWtrExpiry (by simp [ht, hw]) (by simp [hwait, hreq, State.nextSel, selFor, reqNr, hr])

theorem sealRequestClear_clears (ht : s.isTandem d i = true) (hs : s.flag (.tdm .seal) d i = true) :
    Completes (.sealRequestClear d i) s fun t => t.get (.tdm .seal) d i = 0 :=
  completes_of exec_sealRequestClear (by simp [ht, hs]) (by simp)

theorem apsFopTimer_raises (ht : s.isTandem d i = true) (hb : s.flag (.tdm .bidir) d 0 = true)
    (hr : s.get (.tdm .req) d i ≠ 0) : Completes (.apsFopTimer d i) s fun t =>
      t.flag (.live .tdmApsFop) d i = true ∧ t.get (.tdm .unreflected) d i = 1 :=
  completes_of exec_apsFopTimer (by simp [ht, hb, hr]) (by simp)

-- Delivery, realignment and presence (R170, R171, R174, R175).

/-- What a path-change event does not touch. -/
abbrev tdmCells : Cell → Bool
  | .tdm _ | .live .tdmHistLost => true
  | _ => false

@[simp] theorem State.pathChange_tdm {c : Cell} (h : tdmCells c = true) (kind loc e j : Nat) :
    (s.pathChange kind loc).get c e j = s.get c e j :=
  Reach.get_in (g := tdmCells) (by apply State.pathChange_reach Reach.refl <;> intros <;> rfl) h ..

@[simp] theorem State.pathChange_tdm_flag {c : Cell} (h : tdmCells c = true) (kind loc e j : Nat) :
    (s.pathChange kind loc).flag c e j = s.flag c e j := by
  simp only [State.flag, State.pathChange_tdm h]

/-- A path change of a container counts once. -/
@[simp] theorem State.pathChange_counts (loc : Nat) :
    (s.pathChange 3 loc).get (.tim .nPce) 0 0 = (s.get (.tim .nPce) 0 0 + 1) % 2 ^ 64 := by
  simp [State.pathChange, State.setWin]

theorem State.deliverFrom_other {q : Nat} (h : q ≠ s.get (.tdm .early) d i) :
    (s.deliverFrom d i n q).get (.tdm .delivered) d i = n ∧ (s.deliverFrom d i n q).get (.tdm .lastPath) d i = 1 + q ∧
      (s.deliverFrom d i n q).get (.tdm .nSubst) d i = s.get (.tdm .nSubst) d i ∧
      (s.deliverFrom d i n q).get (.tdm .seal) d i = s.get (.tdm .seal) d i := by
  simp [State.deliverFrom, h, State.deliver]

theorem tandemFrameDeliver_selected (ht : s.isTandem d i = true) (hs : s.get (.tdm .sel) d i = 0)
    (he : s.get (.tdm .early) d i = 1) : Completes (.tandemFrameDeliver d i n true true) s fun t =>
      t.get (.tdm .delivered) d i = n ∧ t.get (.tdm .lastPath) d i = 1 ∧
        t.get (.tdm .nSubst) d i = s.get (.tdm .nSubst) d i := by
  obtain ⟨hn, hp, hsub, -⟩ := State.deliverFrom_other (s := s) (d := d) (i := i) (n := n) (q := 0) (by simp [he])
  exact completes_of (exec_tandemFrameDeliver ..) ht (by simp [hs, State.when, hn, hp, hsub])

theorem tandemFrameDeliver_substitutes (ht : s.isTandem d i = true) (hs : s.get (.tdm .sel) d i = 0)
    (hlo : s.get (.tdm .req) d i ≠ reqLo) (hfs : s.get (.tdm .req) d i ≠ reqFs) (he : s.get (.tdm .early) d i = 0) :
    Completes (.tandemFrameDeliver d i n false true) s fun t => t.get (.tdm .seal) d i = 1 ∧
      t.get (.tdm .delivered) d i = n ∧ t.get (.tdm .lastPath) d i = 2 ∧
      t.get (.tdm .nSubst) d i = (s.get (.tdm .nSubst) d i + 1) % Counter.size := by
  obtain ⟨hn, hp, hsub, hseal⟩ := State.deliverFrom_other (s := s.set (.tdm .seal) d i 1) (d := d) (i := i) (n := n) (q := 1)
    (by simp [he])
  exact completes_of (exec_tandemFrameDeliver ..) ht (by simp [hs, State.when, hlo, hfs, hn, hp, hsub, hseal, Counter.size])

theorem tandemRealign_restarts {skip diff : Nat} {first : Bool} (ht : s.isTandem d i = true)
    (he : 16 ≤ s.get (.tdm .earlyRun) d i) : Completes (.tandemRealign d i skip diff first) s fun t =>
      t.get (.tdm .nGap) d i = (s.get (.tdm .nGap) d i + skip) % Counter.size ∧ t.get (.tdm .state) d i = tdmAligning ∧
        t.get (.tdm .early) d i = first.toNat ∧ t.get (.tdm .delay) d i = diff + s.get (.tdm .guardUs) d 0 ∧
        t.get (.tdm .nRealign) d i = (s.get (.tdm .nRealign) d i + 1) % Counter.size ∧
        t.flag (.sticky .tdmRealign) d i = true ∧ t.flag (.live .tdmHistLost) d i = false ∧
        t.get (.tim .nPce) 0 0 = (s.get (.tim .nPce) 0 0 + 1) % Counter.size :=
  completes_of (exec_tandemRealign ..) (by simp [ht, he]) (by simp [Counter.size])

theorem tandemPathPresence_working (ht : s.isTandem d i = true) (hp : s.pathSf d i = false) :
    Completes (.tandemPathPresence d i true false) s fun t =>
      t.get (.tdm .wPresent) d i = 1 ∧ t.get (.tdm .pPresent) d i = 0 ∧ t.get (.tdm .state) d i = tdmSingle :=
  completes_of (exec_tandemPathPresence ..) ht
    (by simp [hp, State.ringSettle, State.ctnRefresh, tdmSingle, tdmAligning, tdmHistLostSt])

theorem tandemPathPresence_none (ht : s.isTandem d i = true) : Completes (.tandemPathPresence d i false false) s fun t =>
    t.get (.tdm .wPresent) d i = 0 ∧ t.get (.tdm .pPresent) d i = 0 ∧
      t.get (.tdm .state) d i = s.get (.tdm .state) d i ∧ t.flag (.live .ctnSf) d i = decide (s.ctnMode d i ≠ 0) := by
  have hen : bit (s.get (.win .tdmCtn) d (16 * i)) 0 = true := by
    simp only [State.isTandem, Bool.and_eq_true] at ht
    exact ht.2
  exact completes_of (exec_tandemPathPresence ..) ht
    (by simp [State.ringSettle, State.ctnRefresh, State.ctnFails, State.tandemEn, State.ctnMode, State.winWordAt, hen])

/-- Settles O27: a lemma for each command of Tandem, over what a follow of the highest request leaves.  That STATE stays as
it is while no path is present is the model's choice (log 19). -/
theorem tandem : Obligations.Tandem := by
  unfold Obligations.Tandem
  refine ⟨?_, ?_⟩
  · intro s d i ht
    exact ⟨tandemSelect_signalFails ht, tandemSelect_lockout ht, tandemHoldoffExpiry_acts ht,
      fun hw _ hr hb => tandemWtrExpiry_returns ht hw hr hb, sealRequestClear_clears ht, apsFopTimer_raises ht⟩
  · intro s d i n skip diff first ht
    exact ⟨tandemFrameDeliver_selected ht, tandemFrameDeliver_substitutes ht, tandemRealign_restarts ht,
      tandemPathPresence_working ht, tandemPathPresence_none ht⟩

end Sys2Proof.Machine
end

section
/-!
Peloton neighbours (R180 to R183) and the receiver's DSP frames (R113).
-/
set_option Elab.async false
namespace Sys2Proof.Machine

variable {s : State} {d p word lag : Nat}

theorem exec_pelEnvelopeRx (b : Bool) (w e : Nat) : exec (.pelEnvelopeRx d p b w e) s = execPelEnvelopeRx d p b w e s := rfl
theorem exec_pelNeighbourEvent (b : Bool) : exec (.pelNeighbourEvent d p b lag) s = execPelNeighbourEvent d p b lag s := rfl
theorem exec_pelSuspendExpiry : exec (.pelSuspendExpiry d) s = execPelSuspendExpiry d s := rfl
theorem exec_rxDspFrame (b : Bool) : exec (.rxDspFrame d b) s = execRxDspFrame d b s := rfl

-- Which carriers work.

/-- What decides whether a carrier works and whether its receiver is LOCKED. -/
abbrev lockCells : Cell → Bool
  | .sys .diePresent | .sys .dieReleased | .pwr .stage | .lr .rxState => true
  | _ => false

variable {t : State}

theorem Reach.up_eq (h : Reach (outside lockCells) (fun _ => true) s t) : t.up d = s.up d := by
  rw [State.up, State.released, State.present, State.stage, h.get_in rfl, h.get_in rfl, h.get_in rfl]
  rfl

theorem Reach.locked_eq (h : Reach (outside lockCells) (fun _ => true) s t) : t.locked d = s.locked d := by
  rw [State.locked, State.rxState, h.up_eq, h.get_in rfl]
  rfl

-- Alignment words (R180).

theorem pelEnvelopeRx_agrees (hu : s.up d = true) (hn : s.nbOn d p = true) (hs : s.nbSends d p = true) :
    Completes (.pelEnvelopeRx d p true (word % 65536) word) s fun t => t.get (.pel .termOff) d p = 0 :=
  completes_of (exec_pelEnvelopeRx ..) (by simp [hu, hn, hs]) (by simp)

theorem pelEnvelopeRx_suspends (hu : s.up d = true) (hn : s.nbOn d p = true) (hs : s.nbSends d p = true) :
    Completes (.pelEnvelopeRx d p true ((word + 2) % 65536) word) s fun t => t.get (.pel .termOff) d p = 1 ∧
      t.get (.pel .nAlignErr) d 0 = (s.get (.pel .nAlignErr) d 0 + 1) % Counter.size := by
  have hdiff : ((word + 2) % 65536 + 65536 - word % 65536) % 65536 = 2 := by omega
  exact completes_of (exec_pelEnvelopeRx ..) (by simp [hu, hn, hs]) (by simp [hdiff, Counter.size])

-- The neighbour's states (R182).

/-- What a change of HOLD_NS does not touch. -/
abbrev holdKept : Cell → Bool
  | .pel .holdNs => false
  | .pel _ | .lr .rxState | .lr .rxEn | .sys _ => true
  | _ => false

@[simp] theorem State.pelHold_kept {c : Cell} (h : holdKept c = true) (e i : Nat) : (s.pelHold d).get c e i = s.get c e i :=
  Reach.get_in (g := holdKept) (by apply State.pelHold_reach Reach.refl <;> intros <;> rfl) h ..

@[simp] theorem State.pelHold_kept_flag {c : Cell} (h : holdKept c = true) (e i : Nat) :
    (s.pelHold d).flag c e i = s.flag c e i := by
  simp only [State.flag, State.pelHold_kept h]

/-- What a path-change event does not touch of Peloton. -/
abbrev pelCells : Cell → Bool
  | .pel _ => true
  | _ => false

@[simp] theorem State.pathChange_pel {c : Cell} (h : pelCells c = true) (kind loc e i : Nat) :
    (s.pathChange kind loc).get c e i = s.get c e i :=
  Reach.get_in (g := pelCells) (by apply State.pathChange_reach Reach.refl <;> intros <;> rfl) h ..

/-- What a neighbour asks of HOLD_NS. -/
def State.holdNeed (s : State) (d p : Nat) : Nat := if s.get (.pel .nbState) d p = nbActive then s.get (.pel .need) d p else 0

theorem State.pelHold_holdNs : (s.pelHold d).get (.pel .holdNs) d 0 = max (s.holdNeed d 0) (s.holdNeed d 1) := by
  unfold State.pelHold
  change State.get (if max (s.holdNeed d 0) (s.holdNeed d 1) = s.get (.pel .holdNs) d 0 then s
    else ((s.set (.pel .holdNs) d 0 (max (s.holdNeed d 0) (s.holdNeed d 1))).latencyRefresh d).pathChange 2 (locCarrier d)) _ _ _ = _
  split
  · next h => exact h.symm
  · simp [State.latencyRefresh]

/-- HOLD_NS covers the need of every active neighbour. -/
theorem State.pelHold_covers (hp : p < 2) (ha : s.get (.pel .nbState) d p = nbActive) :
    s.get (.pel .need) d p ≤ (s.pelHold d).get (.pel .holdNs) d 0 := by
  obtain rfl | rfl : p = 0 ∨ p = 1 := by omega
  all_goals simp [State.pelHold_holdNs, State.holdNeed, ha]

/-- What the walk-off display does not touch. -/
abbrev showKept : Cell → Bool
  | .pel .spacing | .pel .walkoff => false
  | _ => true

@[simp] theorem State.nbShow_kept {c : Cell} (h : showKept c = true) (q e i : Nat) : (s.nbShow d q).get c e i = s.get c e i :=
  Reach.get_in (g := showKept) (by apply State.nbShow_reach Reach.refl <;> intros <;> rfl) h ..

@[simp] theorem State.nbShow_kept_flag {c : Cell} (h : showKept c = true) (q e i : Nat) :
    (s.nbShow d q).flag c e i = s.flag c e i := by
  simp only [State.flag, State.nbShow_kept h]

theorem State.pelHold_locked : (s.pelHold d).locked d = s.locked d :=
  Reach.locked_eq (by apply State.pelHold_reach Reach.refl <;> intros <;> rfl)

theorem State.nbShow_locked : (s.nbShow d p).locked d = s.locked d :=
  Reach.locked_eq (by apply State.nbShow_reach Reach.refl <;> intros <;> rfl)

theorem State.nbToWait_locked : (s.nbToWait d p true).locked d = s.locked d :=
  Reach.locked_eq (by apply State.nbToWait_reach Reach.refl <;> intros <;> rfl)

theorem pelNeighbourEvent_off {arriving : Bool} (hu : s.up d = true) (hn : s.nbOn d p = false) :
    Completes (.pelNeighbourEvent d p arriving lag) s fun t =>
      t.get (.pel .nbState) d p = nbOff ∧ t.get (.pel .taps) d p = 0 ∧ t.get (.pel .spacing) d p = 0 := by
  have hmove : s.nbMove d p arriving lag = s.nbEnter d p nbOff 0 := by simp [State.nbMove, hn]
  have hoff : (s.nbEnter d p nbOff 0).nbOn d p = false := by
    simpa [State.nbEnter, State.nbOn, State.nbBit, State.rxOn] using hn
  refine completes_of (exec_pelNeighbourEvent _) hu ⟨?_, ?_, ?_⟩
  · simp [State.pelAlarms, hmove, State.nbEnter, nbOff]
  · simp [State.pelAlarms, hmove, State.nbEnter]
  · simp [State.pelAlarms, hmove, State.nbShow, hoff]

/-- A waiting neighbour whose envelope arrives is put to use. -/
theorem State.nbMove_use (hn : s.nbOn d p = true) (hl : s.locked d = true) (hs : s.nbSends d p = true)
    (hw : s.get (.pel .nbState) d p = nbWait) : s.nbMove d p true lag = s.nbToUse d p lag := by
  simp [State.nbMove, hn, hl, hs, hw, nbWait, nbSuspended]

theorem pelNeighbourEvent_active (hu : s.up d = true) (hp : p < 2) (hn : s.nbOn d p = true) (hl : s.locked d = true)
    (hs : s.nbSends d p = true) (hw : s.get (.pel .nbState) d p = nbWait) (hb : s.nbWalkBad d p = false)
    (hk : s.nbNeed d p lag ≤ 4000) : Completes (.pelNeighbourEvent d p true lag) s fun t =>
      t.get (.pel .nbState) d p = nbActive ∧ s.nbNeed d p lag ≤ t.get (.pel .holdNs) d 0 := by
  have hmove : (s.nbMove d p true lag).get (.pel .nbState) d p = nbActive ∧
      (s.nbMove d p true lag).get (.pel .need) d p = s.nbNeed d p lag := by
    rw [State.nbMove_use hn hl hs hw]
    simp [State.nbToUse, hw, hb, Nat.not_lt.mpr hk, State.nbEnter, nbWait, nbActive, nbWalkExc, nbLate]
  obtain ⟨hstate, hneed⟩ := hmove
  have hhold := State.pelHold_covers (s := (s.nbMove d p true lag).nbShow d p) (d := d) hp (by simpa using hstate)
  exact completes_of (exec_pelNeighbourEvent _) hu (by simpa [State.pelAlarms, hstate, hneed] using hhold)

theorem pelNeighbourEvent_walkedOff (hu : s.up d = true) (hp : p < 2) (hn : s.nbOn d p = true) (hl : s.locked d = true)
    (hs : s.nbSends d p = true) (hw : s.get (.pel .nbState) d p = nbWait) (hb : s.nbWalkBad d p = true) :
    Completes (.pelNeighbourEvent d p true lag) s fun t =>
      t.get (.pel .nbState) d p = nbWalkExc ∧ t.get (.pel .taps) d p = 0 ∧ t.flag (.live .pelWalkExc) d 0 = true := by
  obtain rfl | rfl : p = 0 ∨ p = 1 := by omega
  all_goals
    refine completes_of (exec_pelNeighbourEvent _) hu ?_
    simp [State.nbMove_use hn hl hs hw, State.nbToUse, hw, hb, State.nbEnter, nbWait, nbWalkExc, nbLate, State.pelAlarms]

theorem pelNeighbourEvent_late (hu : s.up d = true) (hp : p < 2) (hn : s.nbOn d p = true) (hl : s.locked d = true)
    (hs : s.nbSends d p = true) (hw : s.get (.pel .nbState) d p = nbWait) (hb : s.nbWalkBad d p = false)
    (hk : 4000 < s.nbNeed d p lag) : Completes (.pelNeighbourEvent d p true lag) s fun t =>
      t.get (.pel .nbState) d p = nbLate ∧ t.flag (.live .pelLate) d 0 = true := by
  obtain rfl | rfl : p = 0 ∨ p = 1 := by omega
  all_goals
    refine completes_of (exec_pelNeighbourEvent _) hu ?_
    simp [State.nbMove_use hn hl hs hw, State.nbToUse, hw, hb, hk, State.nbEnter, nbWait, nbWalkExc, nbLate, State.pelAlarms]

theorem pelNeighbourEvent_lost (hu : s.up d = true) (hp : p < 2) (hn : s.nbOn d p = true) (hl : s.locked d = true)
    (ha : s.get (.pel .nbState) d p = nbActive) : Completes (.pelNeighbourEvent d p false lag) s fun t =>
      t.get (.pel .nbState) d p = nbWait ∧ t.get (.pel .taps) d p = s.get (.pel .taps) d p ∧
        t.flag (.live .pelNbLost) d 0 = true ∧
        t.get (.pel .nWaitEnter) d 0 = (s.get (.pel .nWaitEnter) d 0 + 1) % Counter.size := by
  have hmove : s.nbMove d p false lag = s.nbToWait d p true := by
    simp [State.nbMove, hn, hl, ha, nbActive, nbSuspended]
  have hlock : (((s.nbToWait d p true).nbShow d p).pelHold d).locked d = true := by
    rw [State.pelHold_locked, State.nbShow_locked, State.nbToWait_locked, hl]
  obtain rfl | rfl : p = 0 ∨ p = 1 := by omega
  all_goals
    refine completes_of (exec_pelNeighbourEvent _) hu ?_
    simp [hmove, State.pelAlarms, hlock]
    simp [State.nbToWait, ha, State.nbEnter, nbWait, nbActive, nbOff, Counter.size]

theorem pelSuspendExpiry_resumes (hu : s.up d = true) (hp : p < 2) (hs : s.get (.pel .nbState) d p = nbSuspended) :
    Completes (.pelSuspendExpiry d) s fun t => t.get (.pel .nbState) d p = nbWait ∧ t.get (.pel .taps) d p = 0 ∧
      t.flag (.live .pelSuspended) d 0 = false := by
  obtain rfl | rfl : p = 0 ∨ p = 1 := by omega
  all_goals
    refine completes_of exec_pelSuspendExpiry hu ?_
    simp [State.nbResume, hs, State.nbEnter, State.pelAlarms, nbWait, nbSuspended]
    grind

-- DSP frames (R113).

/-- What the taps' adaptation does not touch. -/
abbrev adaptKept : Cell → Bool
  | .lr _ => true
  | _ => false

@[simp] theorem State.tapsAdapt_kept {c : Cell} (h : adaptKept c = true) (q e i : Nat) :
    (s.tapsAdapt d q).get c e i = s.get c e i :=
  Reach.get_in (g := adaptKept) (by apply State.tapsAdapt_reach Reach.refl <;> intros <;> rfl) h ..

theorem rxDspFrame_synced (hl : s.locked d = true) (hr : s.rxOn d = true) : Completes (.rxDspFrame d true) s fun t =>
    t.get (.lr .missed) d 0 = 0 ∧ t.get (.lr .useXPhase) d 0 = s.get (.lr .xPhase) d 0 ∧
      t.get (.lr .modeReload) d 0 = 0 ∧
      t.get (.lr .nDspFrame) d 0 = (s.get (.lr .nDspFrame) d 0 + 1) % Counter.size := by
  obtain ⟨hu, hs⟩ : s.up d = true ∧ s.rxState d = rxLocked := by simpa [State.locked] using hl
  exact completes_of (exec_rxDspFrame _) (by simp [hu, hr, hs, rxSync, rxLocked])
    (by simp [hs, State.rxApplyPending, State.get_each, Counter.size])

theorem rxDspFrame_missed (hl : s.locked d = true) (hr : s.rxOn d = true) : Completes (.rxDspFrame d false) s fun t =>
    t.get (.lr .missed) d 0 = min 4 (s.get (.lr .missed) d 0 + 1) ∧
      t.get (.lr .nDspFrame) d 0 = s.get (.lr .nDspFrame) d 0 := by
  obtain ⟨hu, hs⟩ : s.up d = true ∧ s.rxState d = rxLocked := by simpa [State.locked] using hl
  exact completes_of (exec_rxDspFrame _) (by simp [hu, hr, hs, rxSync, rxLocked])
    (by simp [hs, State.rxApplyPending, State.get_each])

/-- Settles O28: a lemma for each way a neighbour moves, and for the two findings of a DSP frame. -/
theorem pelotonNeighbours : Obligations.PelotonNeighbours := by
  unfold Obligations.PelotonNeighbours
  intro s d p word lag arriving hu hp
  exact ⟨fun hn hs => ⟨pelEnvelopeRx_agrees hu hn hs, pelEnvelopeRx_suspends hu hn hs⟩, pelNeighbourEvent_off hu,
    fun hn hl hs hw => ⟨pelNeighbourEvent_active hu hp hn hl hs hw, pelNeighbourEvent_walkedOff hu hp hn hl hs hw,
      pelNeighbourEvent_late hu hp hn hl hs hw⟩,
    pelNeighbourEvent_lost hu hp, pelSuspendExpiry_resumes hu hp,
    fun hl hr => ⟨rxDspFrame_synced hl hr, rxDspFrame_missed hl hr⟩⟩

end Sys2Proof.Machine
end

section
/-!
The messages of a shift, their timers and the arming reports (R187 to R190, R192, R198).
-/
set_option Elab.async false
namespace Sys2Proof.Machine

variable {s t : State} {d : Nat} {m : DerMsg}

theorem exec_derProposeRx (b : Bool) (l : List DerEntry) : exec (.derProposeRx m b l) s = execDerProposeRx m b l s := rfl
theorem exec_derArmedRx : exec (.derArmedRx m) s = execDerArmedRx m s := rfl
theorem exec_derRefuseRx (r u : Nat) : exec (.derRefuseRx m r u) s = execDerRefuseRx m r u s := rfl
theorem exec_derCommitRx (e : Nat) : exec (.derCommitRx m e) s = execDerCommitRx m e s := rfl
theorem exec_derCancelRx (r : Nat) : exec (.derCancelRx m r) s = execDerCancelRx m r s := rfl
theorem exec_derDoneRx : exec (.derDoneRx m) s = execDerDoneRx m s := rfl
theorem exec_derResendTimer : exec .derResendTimer s = execDerResendTimer s := rfl
theorem exec_derUnitArmReport : exec (.derUnitArmReport d) s = execDerUnitArmReport d s := rfl
theorem exec_derArmTimeout : exec .derArmTimeout s = execDerArmTimeout s := rfl

-- The units, and what they report together.

/-- What decides which units a shift has and what they report. -/
abbrev unitCells : Cell → Bool
  | .sys .diePresent | .der .uRole | .der .txSide | .der .rxSide | .der .ready => true
  | _ => false

theorem State.mem_units : d ∈ s.units ↔ (d < 8 ∧ s.present d = true) ∧ s.unitRole d ≠ 0 := by
  simp [State.units, State.mem_dies]

section
variable (h : Reach (outside unitCells) (fun _ => true) s t)
include h

theorem Reach.side_eq : t.side = s.side := by
  funext d tx
  cases tx <;> exact h.get_in rfl ..

theorem Reach.units_eq : t.units = s.units := by
  have hp : t.present = s.present := funext fun d => by rw [State.present, h.get_in rfl]; rfl
  have hr : t.unitRole = s.unitRole := funext fun d => h.get_in rfl ..
  rw [State.units, State.dies, hp, hr]
  rfl

theorem Reach.allReady_eq : t.allReady = s.allReady := by
  have hr : (fun d => t.flag (.der .ready) d 0) = fun d => s.flag (.der .ready) d 0 := funext fun d => h.flag_in rfl ..
  rw [State.allReady, h.units_eq, hr]
  rfl

theorem Reach.allDone_eq : t.allDone = s.allDone := by
  rw [State.allDone, h.units_eq, h.side_eq]
  rfl

end

-- Taking a message (R189).

theorem State.derTake_discards {f : State → State} {ty : Nat} (h : s.derMsgOk m = false) :
    s.derTake m ty f = s.inc (.der .nMsgDisc) 0 0 := by
  simp [State.derTake, h]

theorem State.derTake_takes {f : State → State} {ty : Nat} (h : s.derMsgOk m = true) (hn : s.derSeen m ty = false) :
    s.derTake m ty f = f (s.set (.der .rxSeq) 0 m.sender m.seq) := by
  have hseen : (s.set (.der .rxSeq) 0 m.sender m.seq).derSeen m ty = false := by simpa [State.derSeen] using hn
  simp [State.derTake, h, hseen]

@[simp] theorem State.derState_of {v e i : Nat} {c : Cell} (h : c ≠ .der .state) : (s.set c e i v).derState = s.derState := by
  simp [State.derState, h.symm]

/-- The running shift's other part stays the same when SEQ is taken. -/
@[simp] theorem State.derMine_rxSeq (v : Nat) : (s.set (.der .rxSeq) 0 d v).derMine m = s.derMine m := by
  rw [State.derMine, State.derActive, State.derState_of (by decide), State.get_set_cell _ (by decide),
    State.get_set_cell _ (by decide)]
  rfl

@[simp] theorem State.derState_settle : (settle s t).derState = t.derState := get_settle_of rfl ..

-- What the operations of a shift leave alone.

/-- What the end of a shift may change. -/
abbrev endTouches : Cell → Bool
  | .der .state | .der .result | .der .ready | .der .kindEpoch | .der .kind | .der .uShiftId | .der .uRole | .der .rxSide
  | .der .txSide | .der .lastShift | .live .derAis | .live .derMissed | .winDirty _ => true
  | _ => false

@[simp] theorem State.derEnd_kept {c : Cell} (h : endTouches c = false) (r e i : Nat) :
    (s.derEnd r).get c e i = s.get c e i :=
  Reach.get_in (g := fun c => !endTouches c) (by apply State.derEnd_reach Reach.refl <;> intros <;> rfl) (by simp [h]) ..

@[simp] theorem State.derEnd_kept_flag {c : Cell} (h : endTouches c = false) (r e i : Nat) :
    (s.derEnd r).flag c e i = s.flag c e i := by
  simp only [State.flag, State.derEnd_kept h]

@[simp] theorem State.derEnd_state (r : Nat) : (s.derEnd r).get (.der .state) 0 0 = derIdle := by simp [State.derEnd]

@[simp] theorem State.derEnd_result (r : Nat) : (s.derEnd r).get (.der .result) 0 0 = r := by simp [State.derEnd]

/-- What a unit that takes the commit may change. -/
abbrev commitTouches : Cell → Bool
  | .der .txSide | .der .rxSide | .der .kind | .der .kindEpoch | .sticky .derMissed | .live .derMissed => true
  | _ => false

@[simp] theorem State.unitCommit_kept {c : Cell} (h : commitTouches c = false) (u v e i : Nat) :
    (s.unitCommit u v).get c e i = s.get c e i :=
  Reach.get_in (g := fun c => !commitTouches c) (by apply State.unitCommit_reach Reach.refl <;> intros <;> rfl) (by simp [h]) ..

/-- A side of a unit changes, and DER_MISSED with it. -/
@[simp] theorem State.setSide_kept {c : Cell} (h : commitTouches c = false) (u v : Nat) (tx : Bool) (e i : Nat) :
    (s.setSide u tx v).get c e i = s.get c e i :=
  Reach.get_in (g := fun c => !commitTouches c) (by apply State.setSide_reach Reach.refl <;> intros <;> rfl) (by simp [h]) ..

@[simp] theorem State.setSide_kept_flag {c : Cell} (h : commitTouches c = false) (u v : Nat) (tx : Bool) (e i : Nat) :
    (s.setSide u tx v).flag c e i = s.flag c e i := by
  simp only [State.flag, State.setSide_kept h]

/-- What a lead die that commits may change beside its units. -/
abbrev leadTouches : Cell → Bool
  | .der .lastOn | .der .lastReason | .der .lastMsg | .der .txSeq | .der .state | .der .epoch => true
  | c => commitTouches c

@[simp] theorem State.derCommit_kept {c : Cell} (h : leadTouches c = false) (e i : Nat) : s.derCommit.get c e i = s.get c e i :=
  Reach.get_in (g := fun c => !leadTouches c) (by apply State.derCommit_reach Reach.refl <;> intros <;> rfl) (by simp [h]) ..

@[simp] theorem State.derCommit_state : s.derCommit.get (.der .state) 0 0 = derCommitted := by
  simp [State.derCommit, State.get_each, State.derSend]

@[simp] theorem State.derCommit_lastMsg : s.derCommit.get (.der .lastMsg) 0 0 = msgCommit := by
  simp [State.derCommit, State.get_each, State.derSend]

@[simp] theorem State.derCommit_epoch :
    s.derCommit.get (.der .epoch) 0 0 = (s.txLmfn + s.get (.der .commitLead) 0 0) % 2 ^ 32 := by
  simp [State.derCommit, State.get_each, State.derSend]

theorem State.derTryCommit_commits (h : s.derState = derProposed) (ha : s.flag (.der .armedRx) 0 0 = true)
    (hr : s.allReady = true) : s.derTryCommit = s.derCommit := by
  simp [State.derTryCommit, h, ha, hr]

theorem State.derTryCommit_waits (h : s.flag (.der .armedRx) 0 0 = false ∨ s.allReady = false) : s.derTryCommit = s := by
  rcases h with h | h <;> simp [State.derTryCommit, h]

-- PROPOSE.

theorem derProposeRx_discarded {auto : Bool} {l : List DerEntry} (hu : s.up 0 = true) (h : s.derMsgOk m = false) :
    Completes (.derProposeRx m auto l) s fun t =>
      t.get (.der .nMsgDisc) 0 0 = (s.get (.der .nMsgDisc) 0 0 + 1) % Counter.size ∧ t.derState = s.derState :=
  completes_of (exec_derProposeRx ..) hu (by simp [State.derTake_discards h, State.derState, Counter.size])

theorem derProposeRx_busy {auto : Bool} {l : List DerEntry} (hu : s.up 0 = true) (h : s.derMsgOk m = true)
    (hn : s.derSeen m msgPropose = false) (hs : derArming ≤ s.derState) : Completes (.derProposeRx m auto l) s fun t =>
      t.get (.der .lastMsg) 0 0 = msgRefuse ∧ t.get (.der .lastReason) 0 0 = derBusy ∧
        t.get (.der .nRefused) 0 0 = (s.get (.der .nRefused) 0 0 + 1) % Counter.size ∧ t.derState = s.derState ∧
        t.get (.der .rxSeq) 0 m.sender = m.seq := by
  refine completes_of (exec_derProposeRx ..) hu ?_
  simp only [State.derTake_takes h hn]
  rw [if_pos (by simpa using hs)]
  simp [State.derSend, State.derState, Counter.size]

/-- What the beginning of a shift writes at each unit. -/
abbrev unitTouches : Cell → Bool
  | .der .oldMap | .live .derSplit | .der .returned | .der .onNew | .der .rxEpoch | .der .rxEpochHeld | .der .ready
  | .der .rxSide | .der .txSide | .der .uReason | .der .uShiftId | .der .uRole => true
  | _ => false

@[simp] theorem State.mapKeep_kept {c : Cell} (h : unitTouches c = false) (u e i : Nat) :
    (s.mapKeep u).get c e i = s.get c e i :=
  Reach.get_in (g := fun c => !unitTouches c) (by apply State.mapKeep_reach Reach.refl; intros; rfl) (by simp [h]) ..

/-- The coordinator's registers of a shift that begins. -/
theorem State.derBegin_get (role id mask st node : Nat) :
    (s.derBegin role id mask st node).get (.der .state) 0 0 = st ∧
      (s.derBegin role id mask st node).get (.der .shiftId) 0 0 = id ∧
      (s.derBegin role id mask st node).get (.der .role) 0 0 = role ∧
      (s.derBegin role id mask st node).get (.der .partner) 0 0 = node ∧
      (s.derBegin role id mask st node).get (.der .shiftMask) 0 0 = mask := by
  simp [State.derBegin, State.get_each, State.derReason]

/-- The proposal's conditions do not look at SEQ. -/
theorem State.entryKeeps_rxSeq (v : Nat) : (s.set (.der .rxSeq) 0 d v).entryKeeps = s.entryKeeps := by
  funext e
  simp [State.entryKeeps, State.awake, State.released, State.present, State.stage, State.txMode, State.txBank,
    State.rxMode, State.rxBank]
  rfl

/-- A manual proposal that keeps every NET_K and map is accepted while remote acceptance is on. -/
theorem State.derRespond_accepts {l : List DerEntry} (hs : s.derState = derIdle)
    (hr : s.flag (.der .remoteAccept) 0 0 = true) (hk : l.all s.entryKeeps = true) :
    s.derRespond m false l = s.derAccept m false l := by
  rw [State.derRespond, if_neg (by simp [hs, derIdle, derAwait]), if_neg (by decide), if_pos ⟨hr, hk⟩]

/-- What the responder's units write before a shift begins does not reach the coordinator. -/
theorem State.derAccept_get (l : List DerEntry) :
    (s.derAccept m false l).derState = derArming ∧ (s.derAccept m false l).get (.der .shiftId) 0 0 = m.shiftId ∧
      (s.derAccept m false l).get (.der .role) 0 0 = 1 ∧ (s.derAccept m false l).get (.der .partner) 0 0 = m.sender ∧
      (s.derAccept m false l).get (.der .shiftMask) 0 0 = entryMask l := by
  simp [State.derAccept, State.derMark, State.derState, State.derBegin_get]

theorem derProposeRx_accepted {l : List DerEntry} (hu : s.up 0 = true) (h : s.derMsgOk m = true)
    (hn : s.derSeen m msgPropose = false) (hs : s.derState = derIdle) (hr : s.flag (.der .remoteAccept) 0 0 = true)
    (hk : l.all s.entryKeeps = true) : Completes (.derProposeRx m false l) s fun t =>
      t.derState = derArming ∧ t.get (.der .shiftId) 0 0 = m.shiftId ∧ t.get (.der .role) 0 0 = 1 ∧
        t.get (.der .partner) 0 0 = m.sender ∧ t.get (.der .shiftMask) 0 0 = entryMask l := by
  refine completes_of (exec_derProposeRx ..) hu ?_
  have hst : (s.set (.der .rxSeq) 0 m.sender m.seq).derState = derIdle := by simpa using hs
  obtain ⟨h1, h2, h3, h4, h5⟩ := State.derAccept_get (s := s.set (.der .rxSeq) 0 m.sender m.seq) (m := m) l
  simp only [State.derTake_takes h hn]
  rw [if_neg (by simp [hst, derIdle, derArming]), if_neg (by simp [hst, derIdle, derProposed]),
    State.derRespond_accepts hst (by simpa using hr) (by rw [State.entryKeeps_rxSeq]; exact hk)]
  simp [h1, h2, h3, h4, h5]

-- ARMED, REFUSE, COMMIT, CANCEL and DONE.

theorem derArmedRx_taken (hu : s.up 0 = true) (h : s.derMsgOk m = true) (hn : s.derSeen m msgArmed = false)
    (hm : s.derMine m = true) (hs : s.derState = derProposed) : Completes (.derArmedRx m) s fun t =>
      t.get (.der .armedRx) 0 0 = 1 ∧
        (s.allReady = true → t.derState = derCommitted ∧
          t.get (.der .epoch) 0 0 = (s.txLmfn + s.get (.der .commitLead) 0 0) % 2 ^ 32 ∧
          t.get (.der .lastMsg) 0 0 = msgCommit) ∧
        (s.allReady = false → t.derState = derProposed) := by
  set s1 := ((s.set (.der .rxSeq) 0 m.sender m.seq).derMark msgArmed).set (.der .armedRx) 0 0 1 with h1
  have hst : s1.derState = derProposed := by simpa [h1, State.derMark] using hs
  have harm : s1.flag (.der .armedRx) 0 0 = true := by simp [h1]
  have hready : s1.allReady = s.allReady :=
    Reach.allReady_eq (State.set_reach (State.derMark_reach (State.set_reach Reach.refl rfl) fun _ => rfl) rfl)
  have hlead : s1.txLmfn = s.txLmfn ∧ s1.get (.der .commitLead) 0 0 = s.get (.der .commitLead) 0 0 := by
    simp [h1, State.txLmfn, State.derMark]
  have hrx : s1.get (.der .armedRx) 0 0 = 1 := by simp [h1]
  refine completes_of exec_derArmedRx hu ?_
  simp only [State.derTake_takes h hn]
  rw [if_pos (by simp [hm, hs])]
  rw [← h1]
  cases hr : s.allReady with
  | true =>
    rw [State.derTryCommit_commits hst harm (by rw [hready, hr])]
    simp [State.derState, hlead, hrx]
  | false =>
    rw [State.derTryCommit_waits (.inr (by rw [hready, hr]))]
    simp [hst, hrx]

theorem derRefuseRx_cancels {reason unit : Nat} (hu : s.up 0 = true) (h : s.derMsgOk m = true)
    (hn : s.derSeen m msgRefuse = false) (hm : s.derMine m = true) (hs : s.derState = derProposed) :
    Completes (.derRefuseRx m reason unit) s fun t => t.derState = derIdle ∧ t.get (.der .result) 0 0 = 2 ∧
      t.get (.der .reason) 0 0 = reason ∧ t.get (.der .lastMsg) 0 0 = msgCancel ∧
      t.get (.der .nCancel) 0 0 = (s.get (.der .nCancel) 0 0 + 1) % Counter.size := by
  refine completes_of (exec_derRefuseRx ..) hu ?_
  simp only [State.derTake_takes h hn]
  rw [if_pos (by simp [hm, hs])]
  simp [State.derState, State.derCancel, State.derReason, State.derSend, State.derMark, Counter.size]

theorem derCancelRx_cancels {reason : Nat} (hu : s.up 0 = true) (h : s.derMsgOk m = true)
    (hn : s.derSeen m msgCancel = false) (hm : s.derMine m = true) (hs : s.derState < derCommitted) :
    Completes (.derCancelRx m reason) s fun t => t.derState = derIdle ∧ t.get (.der .result) 0 0 = 2 ∧
      t.get (.der .reason) 0 0 = reason ∧ t.get (.der .far) 0 0 = 1 := by
  refine completes_of (exec_derCancelRx ..) hu ?_
  simp only [State.derTake_takes h hn]
  rw [if_pos (by simp [hm, hs])]
  simp [State.derState, State.derCancel, State.derReason, State.derMark]

/-- A receive side that learns the far epoch changes nothing else. -/
@[simp] theorem State.learnEpoch_kept {c : Cell} (h : decide (c = .der .rxEpochHeld ∨ c = .der .rxEpoch) = false)
    (u v e i : Nat) : (s.learnEpoch u v).get c e i = s.get c e i :=
  Reach.get_in (g := fun c => !decide (c = .der .rxEpochHeld ∨ c = .der .rxEpoch))
    (by apply State.learnEpoch_reach Reach.refl <;> intros <;> rfl) (by simp only [h, Bool.not_false]) ..

theorem derCommitRx_commits {epoch : Nat} (hu : s.up 0 = true) (h : s.derMsgOk m = true)
    (hn : s.derSeen m msgCommit = false) (hm : s.derMine m = true) (hs : derArmed ≤ s.derState) :
    Completes (.derCommitRx m epoch) s fun t => t.get (.der .farEpoch) 0 0 = epoch ∧ t.get (.der .farCommit) 0 0 = 1 ∧
      (s.derResponder = true → s.derState = derArmed → t.derState = derCommitted) := by
  refine completes_of (exec_derCommitRx ..) hu ?_
  simp only [State.derTake_takes h hn]
  simp only [State.derMine_rxSeq, hm, State.derState_of (s := s) (c := .der .rxSeq) (by decide), hs, decide_true,
    Bool.and_self, if_true]
  split
  · simp [State.derState, State.get_each, State.derMark]
  · next hc =>
    simp [State.derState, State.derResponder, State.get_each, State.derMark] at hc ⊢
    exact fun hr ha => absurd ha (hc hr)

/-- The state that the sides give while the shift goes on. -/
def State.followState (s : State) : Nat :=
  if s.units.any (fun d => decide (s.side d true = sideMissed) || decide (s.side d false = sideMissed)) then derCatchup
  else if s.allApplied then derApplied else s.derState

/-- The state follows the sides of a shift that has committed. -/
theorem State.derFollow_eq (hs : derCommitted ≤ s.derState) (hr : s.derState ≠ derRollbackSt) :
    s.derFollow =
      let s1 := s.set (.der .state) 0 0 s.followState
      if s.allDone then
        let s2 := if s1.flag (.der .doneSent) 0 0 then s1 else (s1.derSend msgDone 0).set (.der .doneSent) 0 0 1
        if s2.flag (.der .farDone) 0 0 then (s2.inc (.der .nShiftOk) 0 0).derEnd 1 else s2
      else s1 := by
  have hdone : (s.set (.der .state) 0 0 s.followState).allDone = s.allDone := Reach.allDone_eq (State.set_reach Reach.refl rfl)
  rw [State.derFollow, if_neg (by simp [hr]; omega)]
  rw [← hdone]
  rfl

/-- DONE on every side ends the shift once the far DONE has come. -/
theorem State.derFollow_completes (hs : derCommitted ≤ s.derState) (hr : s.derState ≠ derRollbackSt)
    (hf : s.flag (.der .farDone) 0 0 = true) (ha : s.allDone = true) :
    s.derFollow.derState = derIdle ∧ s.derFollow.get (.der .result) 0 0 = 1 ∧
      s.derFollow.get (.der .nShiftOk) 0 0 = (s.get (.der .nShiftOk) 0 0 + 1) % 2 ^ 64 := by
  simp only [State.derFollow_eq hs hr, ha, if_true]
  split <;> simp [State.derSend, hf, State.derState]

/-- While one side is not done the shift goes on. -/
theorem State.derFollow_goesOn (hs : derCommitted ≤ s.derState) (hr : s.derState ≠ derRollbackSt)
    (ha : s.allDone = false) : s.derFollow = s.set (.der .state) 0 0 s.followState := by
  simp only [State.derFollow_eq hs hr, ha, Bool.false_eq_true, if_false]

/-- DONE is taken: the far side is done, and the state follows. -/
theorem State.derDone_taken (hs : derCommitted ≤ s.derState) (hr : s.derState ≠ derRollbackSt) :
    let s1 := ((s.set (.der .rxSeq) 0 m.sender m.seq).derMark msgDone).set (.der .farDone) 0 0 1
    s1.allDone = s.allDone ∧ s1.flag (.der .farDone) 0 0 = true ∧ derCommitted ≤ s1.derState ∧ s1.derState ≠ derRollbackSt ∧
      s1.get (.der .nShiftOk) 0 0 = s.get (.der .nShiftOk) 0 0 := by
  refine ⟨Reach.allDone_eq (State.set_reach (State.derMark_reach (State.set_reach Reach.refl rfl) fun _ => rfl) rfl), ?_⟩
  simpa [State.derMark] using ⟨hs, hr⟩

theorem derDoneRx_completes (hu : s.up 0 = true) (h : s.derMsgOk m = true) (hn : s.derSeen m msgDone = false)
    (hm : s.derMine m = true) (hs : derCommitted ≤ s.derState) (hr : s.derState ≠ derRollbackSt) (ha : s.allDone = true) :
    Completes (.derDoneRx m) s fun t => t.derState = derIdle ∧ t.get (.der .result) 0 0 = 1 ∧
      t.get (.der .nShiftOk) 0 0 = (s.get (.der .nShiftOk) 0 0 + 1) % Counter.size := by
  obtain ⟨hall, hfar, hs1, hr1, hok⟩ := State.derDone_taken (m := m) hs hr
  obtain ⟨hidle, hres, hcount⟩ := State.derFollow_completes hs1 hr1 hfar (hall.trans ha)
  refine completes_of exec_derDoneRx hu ?_
  simp only [State.derTake_takes h hn]
  rw [if_pos (by simp [hm, hs])]
  simp [hidle, hres, hcount, hok, Counter.size]

theorem derDoneRx_waits (hu : s.up 0 = true) (h : s.derMsgOk m = true) (hn : s.derSeen m msgDone = false)
    (hm : s.derMine m = true) (hs : derCommitted ≤ s.derState) (hr : s.derState ≠ derRollbackSt) (ha : s.allDone = false) :
    Completes (.derDoneRx m) s fun t => t.get (.der .farDone) 0 0 = 1 ∧ derCommitted ≤ t.derState := by
  obtain ⟨hall, hfar, hs1, hr1, -⟩ := State.derDone_taken (m := m) hs hr
  refine completes_of exec_derDoneRx hu ?_
  simp only [State.derTake_takes h hn]
  rw [if_pos (by simp [hm, hs])]
  simp only [State.derFollow_goesOn hs1 hr1 (hall.trans ha)]
  refine ⟨by simp, ?_⟩
  rw [State.derState_settle, State.derState, State.get_set_self, State.followState]
  split
  · decide
  · split
    · decide
    · exact hs1

-- Timers and arming reports.

theorem derResendTimer_resends (hu : s.up 0 = true) (hw : s.derWaiting ≠ 0) : Completes .derResendTimer s fun t =>
    t.get (.der .lastMsg) 0 0 = s.derWaiting ∧
      t.get (.der .txSeq) 0 0 = (s.get (.der .txSeq) 0 0 + 1) % Counter.size :=
  completes_of exec_derResendTimer (by simp [hu, hw]) (by simp [State.derSend, Counter.size])

theorem derArmTimeout_cancels (hu : s.up 0 = true) (hs : s.derState = derProposed ∨ s.derState = derArmed) :
    Completes .derArmTimeout s fun t =>
      t.derState = derIdle ∧ t.get (.der .result) 0 0 = 2 ∧ t.get (.der .reason) 0 0 = derTimeout ∧
        (s.derResponder = false → t.get (.der .lastMsg) 0 0 = msgCancel) := by
  refine completes_of exec_derArmTimeout (by simpa [hu] using hs) ?_
  cases hr : s.derResponder <;> simp [State.derState, State.derCancel, State.derReason, State.derSend]

@[simp] theorem State.setSide_same (tx : Bool) (v : Nat) : (s.setSide d tx v).side d tx = v := by
  cases tx <;> simp [State.setSide, State.side]

@[simp] theorem State.setSide_otherSide {tx ux : Bool} (h : ux ≠ tx) (e v : Nat) : (s.setSide d tx v).side e ux = s.side e ux := by
  cases tx <;> cases ux <;> simp_all [State.setSide, State.side]

theorem derUnitArmReport_ready (hu : s.up 0 = true) (hp : s.present d = true) (hr : s.unitRole d ≠ 0)
    (hn : s.flag (.der .ready) d 0 = false) (hs : s.derState = derProposed) (hi : s.derResponder = false)
    (hf : s.armFault d = 0) (ha : s.flag (.der .armedRx) 0 0 = false) : Completes (.derUnitArmReport d) s fun t =>
      t.get (.der .ready) d 0 = 1 ∧ t.side d true = sideArmed ∧ t.side d false = sideArmed ∧
        t.derState = derProposed := by
  set s1 := ((s.setSide d true sideArmed).setSide d false sideArmed).set (.der .ready) d 0 1 with h1
  have hinit : s1.derResponder = false := by simpa [h1, State.derResponder] using hi
  have harm : s1.flag (.der .armedRx) 0 0 = false := by simpa [h1] using ha
  have hready : s.unitReady d = s1 := by
    simp [State.unitReady, ← h1, hinit, State.derTryCommit_waits (.inl harm)]
  have htx : s1.get (.der .txSide) d 0 = sideArmed := by simp [h1, State.setSide]
  have hrx : s1.get (.der .rxSide) d 0 = sideArmed := by simp [h1, State.setSide]
  have hst : s1.get (.der .state) 0 0 = derProposed := by simpa [h1, State.derState] using hs
  have hset : s1.get (.der .ready) d 0 = 1 := by simp [h1]
  refine completes_of exec_derUnitArmReport (by simp [hu, hp, hr, hn, hs]) ?_
  simp only [hf, if_true, hready]
  simp [State.side, htx, hrx, State.derState, hst, hset]

theorem derUnitArmReport_refuses (hu : s.up 0 = true) (hp : s.present d = true) (hr : s.unitRole d ≠ 0)
    (hn : s.flag (.der .ready) d 0 = false) (hs : s.derState = derProposed) (hi : s.derResponder = false)
    (hf : s.armFault d ≠ 0) : Completes (.derUnitArmReport d) s fun t => t.derState = derIdle ∧
      t.get (.der .reason) 0 0 = s.armFault d ∧ t.get (.der .failCarrier) 0 0 = d ∧
      t.get (.der .lastMsg) 0 0 = msgCancel ∧ t.flag (.sticky .derArmFail) d 0 = true := by
  have hinit : s.get (.der .role) 0 0 ≠ 1 := by simpa [State.derResponder] using hi
  refine completes_of exec_derUnitArmReport (by simp [hu, hp, hr, hn, hs]) ?_
  simp [hf, State.unitRefuse, State.derResponder, hinit, State.derState, State.derCancel, State.derReason, State.derSend]

end Sys2Proof.Machine
end

section
/-!
Latch points, the switch of the two sides, completion and rollback (R193 to R200).
-/
set_option Elab.async false
namespace Sys2Proof.Machine

variable {s t : State} {d : Nat}

theorem exec_derLatchPoint (tx : Bool) : exec (.derLatchPoint d tx) s = execDerLatchPoint d tx s := rfl
theorem exec_derTxSwitch : exec (.derTxSwitch d) s = execDerTxSwitch d s := rfl
theorem exec_derRxSwitch : exec (.derRxSwitch d) s = execDerRxSwitch d s := rfl
theorem exec_derSideDone : exec (.derSideDone d) s = execDerSideDone d s := rfl
theorem exec_derRollbackDecision : exec .derRollbackDecision s = execDerRollbackDecision s := rfl
theorem exec_derRollbackReturn (tx : Bool) : exec (.derRollbackReturn d tx) s = execDerRollbackReturn d tx s := rfl
theorem exec_derResultSet : exec .derResultSet s = execDerResultSet s := rfl

-- The state while the far part is not done (R197, R198).

/-- What the coordinator's state and messages may change while the shift goes on. -/
abbrev followTouches : Cell → Bool
  | .der .state | .der .doneSent | .der .lastOn | .der .lastReason | .der .lastMsg | .der .txSeq => true
  | _ => false

/-- Without the far DONE a shift goes on: its units keep their sides. -/
theorem State.derFollow_get {c : Cell} (hf : s.flag (.der .farDone) 0 0 = false) (h : followTouches c = false) (e i : Nat) :
    s.derFollow.get c e i = s.get c e i := by
  have hc : c ≠ .der .state ∧ c ≠ .der .doneSent ∧ c ≠ .der .lastOn ∧ c ≠ .der .lastReason ∧ c ≠ .der .lastMsg ∧
      c ≠ .der .txSeq := by
    refine ⟨?_, ?_, ?_, ?_, ?_, ?_⟩ <;> rintro rfl <;> simp at h
  obtain ⟨h1, h2, h3, h4, h5, h6⟩ := hc
  by_cases hs : s.derState < derCommitted ∨ s.derState = derRollbackSt
  · rw [State.derFollow, if_pos hs]
  · simp only [State.derFollow_eq (by omega : derCommitted ≤ s.derState) (fun h => hs (.inr h))]
    split
    · split <;> simp [State.derSend, hf, h1, h2, h3, h4, h5, h6]
    · simp [h1]

theorem State.present_of_up (hu : s.up d = true) : s.present d = true ∧ d < 8 := by
  simp only [State.up, State.released, State.present, Bool.and_eq_true, decide_eq_true_eq] at hu ⊢
  obtain ⟨⟨hp, -⟩, -⟩ := hu
  exact ⟨hp, hp.1⟩

theorem State.mem_units_of (hu : s.up d = true) (hr : s.unitRole d ≠ 0) : d ∈ s.units :=
  have ⟨hp, h8⟩ := State.present_of_up hu
  State.mem_units.mpr ⟨⟨h8, hp⟩, hr⟩

/-- A unit whose side has missed keeps the shift in CATCHUP. -/
theorem State.derFollow_missed (hu : d ∈ s.units) (hs : derCommitted ≤ s.derState) (hr : s.derState ≠ derRollbackSt)
    (hm : s.side d true = sideMissed) : s.derFollow = s.set (.der .state) 0 0 derCatchup := by
  have hall : s.allDone = false := by
    rw [State.allDone, List.all_eq_false]
    exact ⟨d, hu, by simp [hm, sideHasApplied, sideMissed, sideApplied, sideDone]⟩
  have hany : s.units.any (fun d => decide (s.side d true = sideMissed) || decide (s.side d false = sideMissed)) = true :=
    List.any_eq_true.mpr ⟨d, hu, by simp [hm]⟩
  rw [State.derFollow_goesOn hs hr hall, State.followState, if_pos hany]

-- Latch points (R194, R197).

theorem State.atLatch_tx (hu : s.up d = true) (hr : s.unitRole d ≠ 0) (hs : derCommitted ≤ s.derState)
    (hb : s.derState ≠ derRollbackSt) (hv : s.side d true = sideLatched ∨ s.side d true = sideArmed) :
    s.atLatch d true = true := by
  rcases hv with hv | hv <;> simp [State.atLatch, hu, hr, hs, hb, hv]

theorem derLatchPoint_latches (hu : s.up d = true) (hr : s.unitRole d ≠ 0) (hs : derCommitted ≤ s.derState)
    (hb : s.derState ≠ derRollbackSt) (hv : s.side d true = sideLatched ∨ s.side d true = sideArmed)
    (hf : s.latchFault d true = 0) : Completes (.derLatchPoint d true) s fun t => t.side d true = sideLatched := by
  refine completes_of (exec_derLatchPoint _) (State.atLatch_tx hu hr hs hb hv) ?_
  rw [if_pos hf]
  simp [State.side, State.setSide]

/-- What a side leaves that has missed its latch point: everything but the coordinator's state. -/
def State.sideMiss (s : State) (d : Nat) : State :=
  ((((s.setSide d true sideMissed).inc (.der .nMiss) d 0).set (.der .uReason) d 0 (s.latchFault d true)).derReason
    (s.latchFault d true) d 0).used

theorem State.sideMiss_get : (s.sideMiss d).get (.der .txSide) d 0 = sideMissed ∧
    (s.sideMiss d).flag (.live .derMissed) d 0 = true ∧
    (s.sideMiss d).get (.der .nMiss) d 0 = (s.get (.der .nMiss) d 0 + 1) % 2 ^ 64 ∧
    (s.sideMiss d).get (.der .state) 0 0 = s.get (.der .state) 0 0 := by
  simp [State.sideMiss, State.used, State.derReason, State.setSide, State.side]

/-- A miss leaves the units as they were. -/
theorem State.sideMiss_unit (hu : d ∈ s.units) : d ∈ (s.sideMiss d).units := by
  rw [State.mem_units] at hu ⊢
  simpa [State.sideMiss, State.used, State.derReason, State.present, State.unitRole] using hu

theorem derLatchPoint_misses (hu : s.up d = true) (hr : s.unitRole d ≠ 0) (hs : derCommitted ≤ s.derState)
    (hb : s.derState ≠ derRollbackSt) (hv : s.side d true = sideLatched ∨ s.side d true = sideArmed)
    (hf : s.latchFault d true ≠ 0) : Completes (.derLatchPoint d true) s fun t => t.side d true = sideMissed ∧
      t.flag (.live .derMissed) d 0 = true ∧ t.get (.der .nMiss) d 0 = (s.get (.der .nMiss) d 0 + 1) % Counter.size ∧
      t.derState = derCatchup := by
  have hne : s.side d true ≠ sideMissed := by rcases hv with hv | hv <;> rw [hv] <;> decide
  obtain ⟨hside, hlive, hmiss, hst⟩ := State.sideMiss_get (s := s) (d := d)
  have hfollow := State.derFollow_missed (State.sideMiss_unit (State.mem_units_of hu hr))
    (by rw [State.derState, hst]; exact hs) (by rw [State.derState, hst]; exact hb) hside
  refine completes_of (exec_derLatchPoint _) (State.atLatch_tx hu hr hs hb hv) ?_
  rw [if_neg hf, if_neg hne]
  change State.side (settle s (s.sideMiss d).derFollow) d true = _ ∧ _
  rw [← State.sideMiss, hfollow]
  simp [State.side, hside, hlive, hmiss, State.derState, Counter.size]

-- The switch (R193, R195).

/-- What a change of the banks does not touch. -/
abbrev bankKept : Cell → Bool
  | .der _ | .sticky .derRollback | .live .derMissed => true
  | _ => false

@[simp] theorem State.txBankSwitch_kept {c : Cell} (h : bankKept c = true) (e i : Nat) :
    (s.txBankSwitch d).get c e i = s.get c e i :=
  Reach.get_in (g := bankKept) (by apply State.txBankSwitch_reach Reach.refl <;> intros <;> rfl) h ..

@[simp] theorem State.rxBankSwitch_kept {c : Cell} (h : bankKept c = true) (e i : Nat) :
    (s.rxBankSwitch d).get c e i = s.get c e i :=
  Reach.get_in (g := bankKept) (by apply State.rxBankSwitch_reach Reach.refl <;> intros <;> rfl) h ..

@[simp] theorem State.mapTake_kept {c : Cell} (h : c ≠ .win .ctTsmap) (new : Bool) (e i : Nat) :
    (s.mapTake d new).get c e i = s.get c e i :=
  Reach.get_in (g := fun c => decide (c ≠ .win .ctTsmap)) (by apply State.mapTake_reach Reach.refl; intros; rfl)
    (by simpa using h) ..

@[simp] theorem State.kindNext_kept {c : Cell} (h : c ≠ .der .kind ∧ c ≠ .der .kindEpoch) (e i : Nat) :
    (s.kindNext d).get c e i = s.get c e i :=
  Reach.get_in (g := fun c => decide (c ≠ .der .kind ∧ c ≠ .der .kindEpoch))
    (by apply State.kindNext_reach Reach.refl <;> intros <;> rfl) (by simpa using h) ..

@[simp] theorem State.kindNext_flag {c : Cell} (h : c ≠ .der .kind ∧ c ≠ .der .kindEpoch) (e i : Nat) :
    (s.kindNext d).flag c e i = s.flag c e i := by
  simp only [State.flag, State.kindNext_kept h]

@[simp] theorem State.ctnRefreshAll_kept {c : Cell} (h : c ≠ .live .ctnSf ∧ c ≠ .sticky .ctnSf) (e i : Nat) :
    (s.ctnRefreshAll d).get c e i = s.get c e i :=
  Reach.get_in (g := fun c => decide (c ≠ .live .ctnSf ∧ c ≠ .sticky .ctnSf))
    (by apply State.ctnRefreshAll_reach Reach.refl <;> intros <;> rfl) (by simpa using h) ..

@[simp] theorem State.ctnRefreshAll_flag {c : Cell} (h : c ≠ .live .ctnSf ∧ c ≠ .sticky .ctnSf) (e i : Nat) :
    (s.ctnRefreshAll d).flag c e i = s.flag c e i := by
  simp only [State.flag, State.ctnRefreshAll_kept h]

/-- What the mutes do not touch of a bank switch. -/
abbrev muteKept : Cell → Bool
  | .lt .bank | .lt .nBankSwitch | .tim _ => true
  | _ => false

@[simp] theorem State.muteRefresh_kept {c : Cell} (h : muteKept c = true) (e i : Nat) :
    (s.muteRefresh d).get c e i = s.get c e i :=
  Reach.get_in (g := muteKept) (by apply State.muteRefresh_reach Reach.refl <;> intros <;> rfl) h ..

@[simp] theorem State.pelBankSwitch_kept {c : Cell} (h : c ≠ .pel .taps) (b : Bool) (e i : Nat) :
    (s.pelBankSwitch d b).get c e i = s.get c e i :=
  Reach.get_in (g := fun c => decide (c ≠ .pel .taps)) (by apply State.pelBankSwitch_reach Reach.refl; intros; rfl)
    (by simpa using h) ..

/-- A path change of a carrier leaves banks and their counts. -/
abbrev bankCells : Cell → Bool
  | .lt _ | .lr _ => true
  | _ => false

@[simp] theorem State.pathChange_bank {c : Cell} (h : bankCells c = true) (kind loc e i : Nat) :
    (s.pathChange kind loc).get c e i = s.get c e i :=
  Reach.get_in (g := bankCells) (by apply State.pathChange_reach Reach.refl <;> intros <;> rfl) h ..

/-- A path change of a carrier counts once. -/
theorem State.pathChange_carrier (loc : Nat) :
    (s.pathChange 1 loc).get (.tim .nPce) 0 0 = (s.get (.tim .nPce) 0 0 + 1) % 2 ^ 64 := by
  simp [State.pathChange, State.setWin, State.get_each, State.carrierEvent]

/-- A transmit side changes its bank: BANK, the counter and the path-change event. -/
theorem State.txBankSwitch_get : (s.txBankSwitch d).get (.lt .bank) d 0 = 1 - s.get (.lt .bank) d 0 ∧
    (s.txBankSwitch d).get (.lt .nBankSwitch) d 0 = (s.get (.lt .nBankSwitch) d 0 + 1) % 2 ^ 64 ∧
    (s.txBankSwitch d).get (.tim .nPce) 0 0 = (s.get (.tim .nPce) 0 0 + 1) % 2 ^ 64 := by
  simp [State.txBankSwitch, State.txActivate, State.txNew, State.pathChange_carrier]

/-- What the fixed delays of a new bank and the fall to TIMING do not touch. -/
abbrev rxBankKept : Cell → Bool
  | .lr .bank => true
  | _ => false

@[simp] theorem State.latencyBank_bank {c : Cell} (h : rxBankKept c = true) (e i : Nat) :
    (s.latencyBank d).get c e i = s.get c e i :=
  Reach.get_in (g := rxBankKept) (by apply State.latencyBank_reach Reach.refl <;> intros <;> rfl) h ..

@[simp] theorem State.cdNear_bank {c : Cell} (h : rxBankKept c = true) (e i : Nat) : (s.cdNear d).get c e i = s.get c e i :=
  Reach.get_in (g := rxBankKept) (by apply State.cdNear_reach Reach.refl <;> intros <;> rfl) h ..

@[simp] theorem State.rxGo_bank {c : Cell} (h : rxBankKept c = true) (st e i : Nat) : (s.rxGo d st).get c e i = s.get c e i :=
  Reach.get_in (g := rxBankKept) (by apply State.rxGo_reach Reach.refl <;> intros <;> rfl) h ..

theorem State.rxSwitch_bank (h : s.rxState d ≠ rxOff) (b : Nat) : (s.rxSwitch d b).get (.lr .bank) d 0 = b := by
  rw [State.rxSwitch, if_neg h]
  simp

theorem State.rxBankSwitch_bank (h : s.rxState d ≠ rxOff) :
    (s.rxBankSwitch d).get (.lr .bank) d 0 = 1 - s.get (.lr .bank) d 0 := by
  simp [State.rxBankSwitch, State.rxSwitch_bank h, State.rxNew]

theorem derTxSwitch_missed (hu : s.up d = true) (hr : s.unitRole d ≠ 0) (hs : derCommitted ≤ s.derState)
    (hv : s.side d true = sideMissed) : Completes (.derTxSwitch d) s fun t =>
      t.flag (.live .derAis) d 0 = true ∧ t.side d true = sideMissed := by
  have hside : s.get (.der .txSide) d 0 = sideMissed := by simpa [State.side] using hv
  refine completes_of exec_derTxSwitch (by simp [hu, hr, hs, hv]) ?_
  rw [if_pos hv]
  simp [State.side, hside]

theorem derTxSwitch_applies (hu : s.up d = true) (hr : s.unitRole d ≠ 0) (hs : derCommitted ≤ s.derState)
    (hf : s.flag (.der .farDone) 0 0 = false) (hv : s.side d true = sideLatched) : Completes (.derTxSwitch d) s fun t =>
      t.side d true = sideApplied ∧ t.get (.der .nApply) d 0 = (s.get (.der .nApply) d 0 + 1) % Counter.size ∧
        (s.unitRole d = 1 → t.get (.lt .bank) d 0 = 1 - s.get (.lt .bank) d 0 ∧
          t.get (.lt .nBankSwitch) d 0 = (s.get (.lt .nBankSwitch) d 0 + 1) % Counter.size ∧
          t.get (.tim .nPce) 0 0 = (s.get (.tim .nPce) 0 0 + 1) % Counter.size) := by
  refine completes_of exec_derTxSwitch (by simp [hu, hr, hs, hv]) ?_
  rw [if_neg (by simp [hv, sideLatched, sideMissed])]
  set s1 := s.when (decide (s.unitRole d = 1)) (fun s => s.txBankSwitch d) with h1
  have hfar : ((((s1.setSide d true sideApplied).inc (.der .nApply) d 0).kindNext d).derAisFollow d).flag
      (.der .farDone) 0 0 = false := by
    simpa [h1, State.derAisFollow, State.flag] using hf
  simp only [State.side, get_settle_of (c := .der .txSide) rfl, get_settle_of (c := .der .nApply) rfl,
    get_settle_of (c := .lt .bank) rfl, get_settle_of (c := .lt .nBankSwitch) rfl, get_settle_of (c := .tim .nPce) rfl,
    State.derFollow_get hfar, if_true]
  simp +contextual [State.derAisFollow, State.setSide, h1, State.txBankSwitch_get, Counter.size]

theorem derRxSwitch_applies (hu : s.up d = true) (hr : s.unitRole d ≠ 0) (hs : derCommitted ≤ s.derState)
    (hf : s.flag (.der .farDone) 0 0 = false) (hv : s.side d false = sideLatched) : Completes (.derRxSwitch d) s fun t =>
      t.side d false = sideApplied ∧ t.get (.der .nApply) d 0 = (s.get (.der .nApply) d 0 + 1) % Counter.size ∧
        (s.unitRole d = 1 → s.rxState d ≠ rxOff → t.get (.lr .bank) d 0 = 1 - s.get (.lr .bank) d 0) := by
  refine completes_of exec_derRxSwitch (by simp [hu, hr, hs, hv]) ?_
  rw [if_neg (by simp [hv, sideLatched, sideMissed])]
  set s1 := (s.when (decide (s.unitRole d = 1)) (fun s => s.rxBankSwitch d)).mapTake d true with h1
  have hfar : ((((s1.setSide d false sideApplied).inc (.der .nApply) d 0).derAisFollow d).ctnRefreshAll d).flag
      (.der .farDone) 0 0 = false := by
    simpa [h1, State.derAisFollow, State.flag] using hf
  simp only [State.side, get_settle_of (c := .der .rxSide) rfl, get_settle_of (c := .der .nApply) rfl,
    get_settle_of (c := .lr .bank) rfl, State.derFollow_get hfar, Bool.false_eq_true, if_false]
  simp +contextual [State.derAisFollow, State.setSide, h1, State.rxBankSwitch_bank, Counter.size]

-- Completion and rollback (R198 to R200).

theorem derSideDone_done (hs : derCommitted ≤ s.derState) (hf : s.flag (.der .farDone) 0 0 = false)
    (hl : s.locked d = true) (hv : s.side d false = sideApplied) (hc : s.get (.fec .lockState) d 0 = 2)
    (hi : s.flag (.ct .inFrame) d 0 = true) (hq : s.flag (.live .fecSf) d 0 = false) :
    Completes (.derSideDone d) s fun t => t.side d false = sideDone := by
  refine completes_of exec_derSideDone (by simp [hs, hl, hv, hc, hi, hq]) ?_
  have hfar : (s.setSide d false sideDone).flag (.der .farDone) 0 0 = false := by simpa using hf
  simp only [State.side, get_settle_of (c := .der .rxSide) rfl, State.derFollow_get hfar, Bool.false_eq_true, if_false]
  simp [State.setSide]

/-- An operation over a list leaves a cell that none of its members writes. -/
theorem State.get_each_absent {α : Type} {l : List α} {f : State → α → State} {c : Cell} {i : Nat}
    (ho : ∀ b ∈ l, ∀ x, (f x b).get c d i = x.get c d i) : (s.each l f).get c d i = s.get c d i := by
  induction l generalizing s with
  | nil => rfl
  | cons b l ih =>
    rw [State.each_cons, ih fun e he => ho e (by simp [he]), ho b (by simp)]

/-- An operation over a list leaves in a cell what the only member that writes it leaves there. -/
theorem State.get_each_mem {α : Type} {l : List α} {f : State → α → State} {c : Cell} {i v : Nat} {a : α} (ha : a ∈ l)
    (hf : ∀ x, (f x a).get c d i = v) (ho : ∀ b, b ≠ a → ∀ x, (f x b).get c d i = x.get c d i) :
    (s.each l f).get c d i = v := by
  induction l generalizing s with
  | nil => simp at ha
  | cons b l ih =>
    by_cases hl : a ∈ l
    · exact ih hl
    · obtain rfl : a = b := by simpa [hl] using ha
      rw [State.each_cons, State.get_each_absent fun e he x => ho e (fun h => hl (h ▸ he)) x, hf]

theorem derRollbackDecision_rolls (h0 : s.up 0 = true) (hu : s.up d = true) (hr : s.unitRole d ≠ 0)
    (hs : derCommitted ≤ s.derState) (hb : s.derState ≠ derRollbackSt) (hv : sideHasApplied (s.side d true) = true)
    (h2 : s.unitRole d ≠ 2) : Completes .derRollbackDecision s fun t => t.derState = derRollbackSt ∧
      t.get (.der .kind) d 0 = 3 ∧ t.get (.der .kindEpoch) d 0 = (s.get (.der .epoch) 0 0 + 768) % 2 ^ 32 := by
  have hmem : d ∈ s.units.filter (fun d => sideHasApplied (s.side d true) && decide (s.unitRole d ≠ 2)) :=
    List.mem_filter.mpr ⟨State.mem_units_of hu hr, by simp [hv, h2]⟩
  refine completes_of exec_derRollbackDecision (by simp [h0, hs, hb]) ⟨by simp [State.derState], ?_, ?_⟩
  all_goals
    simp only [get_settle_of (c := .der .kind) rfl, get_settle_of (c := .der .kindEpoch) rfl]
    rw [State.get_set_cell _ (by decide)]
    exact State.get_each_mem hmem (by simp) fun b hb x => by simp [Ne.symm hb]

theorem derRollbackReturn_returns (hu : s.up d = true) (hr : s.unitRole d ≠ 0) (hs : s.derState = derRollbackSt)
    (hv : sideHasApplied (s.side d true) = true) : Completes (.derRollbackReturn d true) s fun t =>
      t.side d true = sideRolled ∧ t.flag (.sticky .derRollback) d 0 = true ∧
        t.get (.der .nRollback) d 0 = (s.get (.der .nRollback) d 0 + 1) % Counter.size ∧
        (s.unitRole d = 1 → t.get (.lt .bank) d 0 = 1 - s.get (.lt .bank) d 0) := by
  refine completes_of (exec_derRollbackReturn _) (by simp [hu, hr, hs, hv]) ?_
  simp +contextual [State.sideReturned, State.side, State.setSide, State.txBankSwitch_get, Counter.size]

/-- The units that stay on the new mode, with DER_SPLIT (R200). -/
def State.splitAt (s : State) (d : Nat) : State := (s.set (.der .onNew) d 0 1).raise .derSplit d 0

/-- DER_SPLIT rises at the dies of a list. -/
theorem State.splitAll_flag {l : List Nat} :
    (s.each l State.splitAt).flag (.live .derSplit) d 0 = (s.flag (.live .derSplit) d 0 || decide (d ∈ l)) := by
  induction l generalizing s with
  | nil => simp
  | cons a l ih =>
    rw [State.each_cons, ih]
    by_cases h : d = a
    · subst h
      simp [State.splitAt]
    · have hkeep : (s.splitAt a).flag (.live .derSplit) d 0 = s.flag (.live .derSplit) d 0 := by
        simp [State.splitAt, State.flag, State.get_raise_place (.inl h)]
      simp [hkeep, h]

theorem derResultSet_ends (h0 : s.up 0 = true) (hu : s.up d = true) (hr : s.unitRole d ≠ 0)
    (hs : s.derState = derRollbackSt) : Completes .derResultSet s fun t => t.derState = derIdle ∧
      t.get (.der .result) 0 0 = (if (s.units.any fun e => sideHasApplied (s.side e false)) then 4 else 3) ∧
      t.flag (.live .derSplit) d 0 = (s.flag (.live .derSplit) d 0 || sideHasApplied (s.side d false)) := by
  have hstay : (s.units.filter (fun e => sideHasApplied (s.side e false)) = []) ↔
      (s.units.any fun e => sideHasApplied (s.side e false)) = false := by
    simp [List.filter_eq_nil_iff, List.any_eq_false]
  have hmem : decide (d ∈ s.units.filter (fun e => sideHasApplied (s.side e false))) = sideHasApplied (s.side d false) := by
    simp [State.mem_units_of hu hr]
  have hsplit : ∀ x : State, (x.each (s.units.filter (fun e => sideHasApplied (s.side e false)))
      fun s d => (s.set (.der .onNew) d 0 1).raise .derSplit d 0) =
        x.each (s.units.filter (fun e => sideHasApplied (s.side e false))) State.splitAt := fun _ => rfl
  refine completes_of exec_derResultSet (by simp [h0, hs]) ⟨?_, ?_, ?_⟩
  · simp [State.derState, State.get_each]
  · simp only [get_settle_of (c := .der .result) rfl]
    simp only [State.get_each fun x a => State.get_set_cell x (show (Cell.der .result) ≠ .der .returned by decide) .., hsplit]
    rw [State.get_each_absent fun b _ x => by simp [State.splitAt], State.derEnd_result]
    cases ha : s.units.any (fun e => sideHasApplied (s.side e false)) with
    | true => rw [if_neg (by rw [hstay, ha]; decide), if_pos rfl]
    | false => rw [if_pos (hstay.mpr ha), if_neg (by decide)]
  · simp only [flag_settle_of (c := .live .derSplit) rfl]
    rw [State.flag, State.get_each fun x a => State.get_set_cell x (by decide) .., hsplit, ← State.flag, State.splitAll_flag, hmem]
    simp

/-- Settles O29: a lemma for each message, timer and report of a shift, and for each step of the switch of its sides. -/
theorem derailleur : Obligations.Derailleur := by
  unfold Obligations.Derailleur
  refine ⟨?_, ?_⟩
  · intro s m entries auto d reason unit epoch hu
    refine ⟨derProposeRx_discarded hu, fun h => ⟨derProposeRx_busy hu h, derProposeRx_accepted hu h, derArmedRx_taken hu h,
      derRefuseRx_cancels hu h, derCommitRx_commits hu h, derCancelRx_cancels hu h, ?_⟩, derResendTimer_resends hu,
      ?_, derArmTimeout_cancels hu⟩
    · exact fun hn hm hs hr => ⟨derDoneRx_completes hu h hn hm hs hr, derDoneRx_waits hu h hn hm hs hr⟩
    · exact fun hp hr hn hs hi => ⟨derUnitArmReport_ready hu hp hr hn hs hi, derUnitArmReport_refuses hu hp hr hn hs hi⟩
  · intro s d hu hr hs hf
    exact ⟨fun hb hv => ⟨derLatchPoint_latches hu hr hs hb hv, derLatchPoint_misses hu hr hs hb hv⟩,
      derTxSwitch_missed hu hr hs, derTxSwitch_applies hu hr hs hf, derRxSwitch_applies hu hr hs hf,
      derSideDone_done hs hf, fun h0 hb hv h2 => derRollbackDecision_rolls h0 hu hr hs hb hv h2,
      derRollbackReturn_returns hu hr, fun h0 => derResultSet_ends h0 hu hr⟩

end Sys2Proof.Machine
end

section
/-!
Host lanes: gear negotiation (R211 to R217) and signal, idle, eye scan and PRBS (R218 to R224).
-/
set_option Elab.async false
namespace Sys2Proof.Machine

variable {s t : State} {d l : Nat} {f : NegFrame}

theorem exec_negFrameRx : exec (.negFrameRx d l f) s = execNegFrameRx d l f s := rfl
theorem exec_negGearSwitch : exec (.negGearSwitch d l) s = execNegGearSwitch d l s := rfl
theorem exec_negLockTimeout : exec (.negLockTimeout d l) s = execNegLockTimeout d l s := rfl
theorem exec_negTrainTimeout : exec (.negTrainTimeout d l) s = execNegTrainTimeout d l s := rfl
theorem exec_negWaitExpiry : exec (.negWaitExpiry d l) s = execNegWaitExpiry d l s := rfl
theorem exec_forcedCdrLock : exec (.forcedCdrLock d l) s = execForcedCdrLock d l s := rfl
theorem exec_hlLos : exec (.hlLos d l) s = execHlLos d l s := rfl
theorem exec_hlLol : exec (.hlLol d l) s = execHlLol d l s := rfl
theorem exec_hlSignalReturn : exec (.hlSignalReturn d l) s = execHlSignalReturn d l s := rfl
theorem exec_hostIdleAnnounceRx (b : Bool) : exec (.hostIdleAnnounceRx d l b) s = execHostIdleAnnounceRx d l b s := rfl
theorem exec_hostIdleExitRx (b : Bool) : exec (.hostIdleExitRx d l b) s = execHostIdleExitRx d l b s := rfl
theorem exec_escanStart : exec (.escanStart d l) s = execEscanStart d l s := rfl
theorem exec_escanDone (n : Nat) : exec (.escanDone d l n) s = execEscanDone d l n s := rfl
theorem exec_eyeSweepDone (e : List Eye) : exec (.eyeSweepDone d l e) s = execEyeSweepDone d l e s := rfl
theorem exec_prbsCheckerSync (n e : Nat) : exec (.prbsCheckerSync d l n e) s = execPrbsCheckerSync d l n e s := rfl

-- What follows a lane leaves the lane alone.

/-- What a port that follows its lanes may change. -/
abbrev portTouches : Cell → Bool
  | .sticky .hlpLinkDown | .live .hlpLinkDown | .hl .pGear | .hl .pState | .hl .corrTx | .hl .corrRx | .boot _ => true
  | _ => false

@[simp] theorem State.laneDone_kept {c : Cell} (h : portTouches c = false) (e i : Nat) :
    (s.laneDone d l).get c e i = s.get c e i :=
  Reach.get_in (g := fun c => !portTouches c) (by apply State.laneDone_reach Reach.refl <;> intros <;> rfl) (by simp [h]) ..

@[simp] theorem State.laneDone_flag {c : Cell} (h : portTouches c = false) (e i : Nat) :
    (s.laneDone d l).flag c e i = s.flag c e i := by
  simp only [State.flag, State.laneDone_kept h]

/-- What the equaliser's request may change. -/
abbrev eqTouches : Cell → Bool
  | .hl .reqSeq | .hl .reqResult | .hl .eqCp1 | .hl .eqCm1 | .hl .eqCm2 => true
  | _ => false

@[simp] theorem State.eqRequest_kept {c : Cell} (h : eqTouches c = false) (e i : Nat) :
    (s.eqRequest d l f).get c e i = s.get c e i :=
  Reach.get_in (g := fun c => !eqTouches c) (by apply State.eqRequest_reach Reach.refl <;> intros <;> rfl) (by simp [h]) ..

/-- A lane that fails: ABORT frames and WAIT. -/
theorem State.laneFail_get (r : Nat) : (s.laneFail d l r).get (.hl .state) d l = hlWait ∧
    (s.laneFail d l r).get (.hl .failReason) d l = r ∧ (s.laneFail d l r).flag (.sticky .hllNegFail) d l = true := by
  simp [State.laneFail]

-- Frames of a negotiation (R211 to R216).

/-- What decides whether a lane negotiates. -/
abbrev laneCells : Cell → Bool
  | .hl .state | .hl .relock | .sys .diePresent | .sys .dieReleased | .pwr .stage => true
  | _ => false

theorem Reach.negotiating_eq (h : Reach (outside laneCells) (fun _ => true) s t) : t.negotiating d l = s.negotiating d l := by
  simp only [State.negotiating, State.laneState, State.up, State.released, State.present, State.stage, h.get_in,
    h.flag_in]
  rfl

theorem State.negotiating_of (hu : s.up d = true) (hr : s.flag (.hl .relock) d l = false) (h1 : hlLock ≤ s.laneState d l)
    (h2 : s.laneState d l ≤ hlStep) : s.negotiating d l = true := by
  simp [State.negotiating, hu, hr, h1, h2]

/-- A good frame of a lane that is not in STEP or TRAIN: the run, frame lock and the control word. -/
theorem negFrameRx_good {P : State → Prop} (hn : s.negotiating d l = true) (h1 : s.laneState d l ≠ hlStep)
    (h2 : s.laneState d l ≠ hlTrain) (hm : f.marker = true) (hc : f.crcOk = true)
    (hP : let n := min 3 (s.get (.hl .goodRun) d l + 1)
      let s1 := (s.set (.hl .goodRun) d l n).set (.hl .badRun) d l 0
      let s2 := if n = 3 && !s1.flag (.hl .fLock) d l then s1.lockGained d l else s1
      P (settle s (if s2.flag (.hl .fLock) d l && s2.negotiating d l then s2.readWordHl d l f else s2))) :
    Completes (.negFrameRx d l f) s P := by
  refine completes_of exec_negFrameRx hn ?_
  have hperiod : s.framePeriod d l = s := by simp [State.framePeriod, h1, h2]
  simpa [hperiod, hn, hm, hc] using hP

theorem negFrameRx_locks (hu : s.up d = true) (hr : s.flag (.hl .relock) d l = false) (hs : s.laneState d l = hlLock)
    (hf : s.flag (.hl .fLock) d l = false) (hg : s.get (.hl .goodRun) d l = 2) (hm : f.marker = true)
    (hc : f.crcOk = true) (hmsg : f.msg = 1) : Completes (.negFrameRx d l f) s fun t =>
      t.laneState d l = hlCaps ∧ t.get (.hl .fLock) d l = 1 := by
  have hst : s.get (.hl .state) d l = hlLock := hs
  refine negFrameRx_good (State.negotiating_of hu hr (by simp [hs]) (by simp [hs, hlLock, hlStep]))
    (by simp [hs, hlLock, hlStep]) (by simp [hs, hlLock, hlTrain]) hm hc ?_
  have hgain : ∀ x : State, x.laneState d l = hlCaps → (x.readWordHl d l f).get (.hl .state) d l = x.get (.hl .state) d l ∧
      (x.readWordHl d l f).get (.hl .fLock) d l = x.get (.hl .fLock) d l := fun x hx => by
    have hx' : x.get (.hl .state) d l = hlCaps := hx
    by_cases hv : f.ver = 1 <;> simp [State.readWordHl, hv, hmsg, State.laneState, hx']
  simp [hg, hf, State.lockGained, State.laneState, hst, hgain]

/-- A lane in CAPS and frame lock reads the control word of a good frame. -/
theorem negFrameRx_reads {P : State → Prop} (hu : s.up d = true) (hr : s.flag (.hl .relock) d l = false)
    (hs : s.laneState d l = hlCaps) (hf : s.flag (.hl .fLock) d l = true) (hm : f.marker = true) (hc : f.crcOk = true)
    (hP : ∀ n, P (settle s (((s.set (.hl .goodRun) d l n).set (.hl .badRun) d l 0).readWordHl d l f))) :
    Completes (.negFrameRx d l f) s P := by
  have hn := State.negotiating_of hu hr (by simp [hs, hlLock, hlCaps]) (by simp [hs, hlCaps, hlStep])
  have hstill : ∀ n, ((s.set (.hl .goodRun) d l n).set (.hl .badRun) d l 0).negotiating d l = true := fun n =>
    (Reach.negotiating_eq (State.set_reach (State.set_reach Reach.refl rfl) rfl)).trans hn
  refine negFrameRx_good hn (by simp [hs, hlCaps, hlStep]) (by simp [hs, hlCaps, hlTrain]) hm hc ?_
  simp [hf, hstill, hP]

theorem negFrameRx_trains (hu : s.up d = true) (hr : s.flag (.hl .relock) d l = false) (hs : s.laneState d l = hlCaps)
    (hf : s.flag (.hl .fLock) d l = true) (hm : f.marker = true) (hc : f.crcOk = true) (hv : f.ver = 1) (hmsg : f.msg = 0)
    (hk : s.get (.hl .capsRun) d l ≠ 0) (h1 : 1 ≤ f.gearMax) (h4 : f.gearMax ≤ 4) (hg : f.gearNow = 1)
    (ht : s.laneTarget d l ≤ f.gearMax) (hl : f.leader ≠ s.leads d l) : Completes (.negFrameRx d l f) s fun t =>
      t.laneState d l = hlTrain ∧ t.get (.hl .farGearMax) d l = f.gearMax ∧
        t.get (.hl .farPreCap) d l = f.preCap.toNat := by
  have hst : s.get (.hl .state) d l = hlCaps := hs
  refine negFrameRx_reads hu hr hs hf hm hc fun n => ?_
  set s1 := ((s.set (.hl .goodRun) d l n).set (.hl .badRun) d l 0).eqRequest d l f with hs1
  set s2 := ((s1.set (.hl .capsRun) d l 2).set (.hl .farGearMax) d l f.gearMax).setB (.hl .farPreCap) d l f.preCap with hs2
  have hcaps : s1.laneState d l = hlCaps := by simp [hs1, State.laneState, hst]
  have hrun : s1.get (.hl .capsRun) d l ≠ 0 := by simpa [hs1] using hk
  have htarget : s1.laneTarget d l = s.laneTarget d l := by
    simp [hs1, State.laneTarget, State.lanePort, State.portLanes, State.portGear]
  have hleads : s1.leads d l = s.leads d l := by
    have hflag : s1.flag (.hl .role) d l = s.flag (.hl .role) d l := by simp [hs1, State.flag]
    simp [State.leads, hflag]
  have hread : ((s.set (.hl .goodRun) d l n).set (.hl .badRun) d l 0).readWordHl d l f = s2.laneTrain d l := by
    rw [State.readWordHl, if_neg (by simp [hv, hmsg])]
    dsimp only
    rw [← hs1, if_neg (by simp [hmsg]), if_pos hcaps, if_pos hmsg, State.readCaps, if_neg (by omega), if_neg hrun]
    simp only [← hs2, htarget, hleads, Nat.not_lt.mpr ht, hl, if_false]
  simp [hread, State.laneState, State.laneTrain, hs2]

theorem negFrameRx_aborts (hu : s.up d = true) (hr : s.flag (.hl .relock) d l = false) (hs : s.laneState d l = hlCaps)
    (hf : s.flag (.hl .fLock) d l = true) (hm : f.marker = true) (hc : f.crcOk = true) (hv : f.ver = 1) (hmsg : f.msg = 5) :
    Completes (.negFrameRx d l f) s fun t => t.laneState d l = hlWait ∧ t.get (.hl .failReason) d l = failAbort ∧
      t.flag (.sticky .hllNegFail) d l = true := by
  refine negFrameRx_reads hu hr hs hf hm hc fun n => ?_
  simp [State.readWordHl, hv, hmsg, State.laneState, State.laneFail_get]

-- Steps of the Gear, time limits and restarts (R213 to R217).

theorem negGearSwitch_switches (hu : s.up d = true) (hr : s.flag (.hl .relock) d l = false) (hs : s.laneState d l = hlStep)
    (hc : s.get (.hl .countdown) d l = 0) (hw : s.flag (.hl .switched) d l = false)
    (hb : s.flag (.hl .fellBack) d l = false) : Completes (.negGearSwitch d l) s fun t =>
      t.get (.hl .gear) d l = s.get (.hl .gear) d l + 1 ∧ t.laneTaps d l = tapPreset (s.get (.hl .gear) d l + 1) ∧
        t.get (.hl .switched) d l = 1 ∧ t.get (.hl .fLock) d l = 0 := by
  have hn := State.negotiating_of hu hr (by simp [hs, hlLock, hlStep]) (by simp [hs])
  exact completes_of exec_negGearSwitch (by simp [hn, hs, hc, hw, hb]) (by simp [State.laneTaps, State.setTaps, State.laneSearch])

theorem negLockTimeout_caps (hu : s.up d = true) (hr : s.flag (.hl .relock) d l = false) (hs : s.laneState d l = hlCaps) :
    Completes (.negLockTimeout d l) s fun t => t.laneState d l = hlWait ∧ t.get (.hl .failReason) d l = failCaps ∧
      t.flag (.sticky .hllNegFail) d l = true :=
  completes_of exec_negLockTimeout (by simp [hu, hs, hlLock, hlCaps, hlStep])
    (by simp [hr, hs, State.laneFail_get, State.laneState.eq_1 (settle _ _)])

theorem negLockTimeout_returns (hu : s.up d = true) (hr : s.flag (.hl .relock) d l = false) (hs : s.laneState d l = hlStep)
    (hf : s.flag (.hl .fLock) d l = false) (hb : s.flag (.hl .fellBack) d l = false)
    (hw : s.flag (.hl .switched) d l = true) : Completes (.negLockTimeout d l) s fun t =>
      t.get (.hl .gear) d l = s.get (.hl .gear) d l - 1 ∧ t.get (.hl .fellBack) d l = 1 :=
  completes_of exec_negLockTimeout (by simp [hu, hs, hlLock, hlStep])
    (by simp [hr, hs, hf, hb, hw, hlStep, hlCaps, State.stepReturn, State.setTaps, State.laneSearch])

theorem negTrainTimeout_fails (hu : s.up d = true) (hr : s.flag (.hl .relock) d l = false) (hs : s.laneState d l = hlTrain)
    (hk : s.get (.hl .readyRun) d l < 8) : Completes (.negTrainTimeout d l) s fun t =>
      t.laneState d l = hlWait ∧ t.get (.hl .failReason) d l = failTrain := by
  have hn := State.negotiating_of hu hr (by simp [hs, hlLock, hlTrain]) (by simp [hs, hlTrain, hlStep])
  exact completes_of exec_negTrainTimeout (by simp [hn, hs, hk]) (by simp [State.laneFail_get, State.laneState])

/-- A lane that starts outside a test: forced to its Gear, or negotiating from Gear 1. -/
theorem State.laneStart_get (ht : s.laneTest d l = false) :
    (s.laneStart d l).get (.hl .state) d l = (if s.get (.hl .forceGear) d l ≠ 0 then hlForced else hlLock) ∧
      (s.laneStart d l).get (.hl .gear) d l =
        (if s.get (.hl .forceGear) d l ≠ 0 then s.get (.hl .forceGear) d l else 1) ∧
      (s.laneStart d l).get (.hl .waitSig) d l = 0 ∧
      (s.laneStart d l).get (.hl .nNegAttempt) d l =
        (if s.get (.hl .forceGear) d l ≠ 0 then s.get (.hl .nNegAttempt) d l
          else (s.get (.hl .nNegAttempt) d l + 1) % 2 ^ 64) := by
  by_cases hg : s.get (.hl .forceGear) d l = 0 <;>
    simp [State.laneStart, ht, hg, State.laneForced, State.laneNegotiate, State.laneForget, State.laneSearch, State.setTaps]

theorem negWaitExpiry_negotiates (hu : s.up d = true) (hs : s.laneState d l = hlWait) (ht : s.laneTest d l = false)
    (hg : s.get (.hl .forceGear) d l = 0) : Completes (.negWaitExpiry d l) s fun t => t.laneState d l = hlLock ∧
      t.get (.hl .gear) d l = 1 ∧ t.get (.hl .nNegAttempt) d l = (s.get (.hl .nNegAttempt) d l + 1) % Counter.size :=
  completes_of exec_negWaitExpiry (by simp [hu, hs])
    (by simp [State.laneState, State.laneStart_get ht, hg, Counter.size])

theorem negWaitExpiry_forces (hu : s.up d = true) (hs : s.laneState d l = hlWait) (ht : s.laneTest d l = false)
    (hg : s.get (.hl .forceGear) d l ≠ 0) : Completes (.negWaitExpiry d l) s fun t => t.laneState d l = hlForced ∧
      t.get (.hl .gear) d l = s.get (.hl .forceGear) d l :=
  completes_of exec_negWaitExpiry (by simp [hu, hs]) (by simp [State.laneState, State.laneStart_get ht, hg])

/-- A lane that enters UP. -/
theorem State.laneUp_get : (s.laneUp d l).get (.hl .state) d l = hlUp ∧ (s.laneUp d l).get (.hl .cdrLock) d l = 1 ∧
    (s.laneUp d l).flag (.live .hllLol) d l = false := by
  simp [State.laneUp]

theorem forcedCdrLock_locks (hu : s.up d = true) (hs : s.laneState d l = hlForced) : Completes (.forcedCdrLock d l) s fun t =>
    t.laneState d l = hlUp ∧ t.get (.hl .cdrLock) d l = 1 ∧ t.flag (.live .hllLol) d l = false :=
  completes_of exec_forcedCdrLock (by simp [hu, hs]) (by simp [State.laneState, State.laneUp_get])

/-- Settles O30: a lemma for each frame, time limit and restart of a negotiation. -/
theorem hostLaneNegotiation : Obligations.HostLaneNegotiation := by
  unfold Obligations.HostLaneNegotiation
  intro s d l f hu hr
  exact ⟨negFrameRx_locks hu hr, fun hs hf hm hc hv => ⟨negFrameRx_trains hu hr hs hf hm hc hv,
      negFrameRx_aborts hu hr hs hf hm hc hv⟩, negGearSwitch_switches hu hr, negLockTimeout_caps hu hr,
    negLockTimeout_returns hu hr, negTrainTimeout_fails hu hr,
    fun hs ht => ⟨negWaitExpiry_negotiates hu hs ht, negWaitExpiry_forces hu hs ht⟩, forcedCdrLock_locks hu⟩

-- Signal and idle (R218 to R221).

theorem hlLos_falls (hu : s.up d = true) (hs : s.laneState d l = hlUp) : Completes (.hlLos d l) s fun t =>
    t.laneState d l = hlOff ∧ t.flag (.live .hllLos) d l = true ∧
      t.get (.hl .nLosEnter) d l = (s.get (.hl .nLosEnter) d l + 1) % Counter.size ∧ t.get (.hl .waitSig) d l = 1 :=
  completes_of exec_hlLos (by simp [hu, hs]) (by simp [State.laneState, Counter.size])

theorem hlLol_relocks (hu : s.up d = true) (hs : s.laneState d l = hlUp) : Completes (.hlLol d l) s fun t =>
    t.flag (.live .hllLol) d l = true ∧ t.get (.hl .nLolEnter) d l = (s.get (.hl .nLolEnter) d l + 1) % Counter.size ∧
      t.laneState d l = if s.get (.hl .forceGear) d l ≠ 0 then hlForced else hlLock :=
  completes_of exec_hlLol (by simp [hu, hs]) (by simp [State.laneState, Counter.size])

theorem hostIdleAnnounceRx_first (hu : s.up d = true) (hs : s.laneState d l = hlUp)
    (hi : s.get (.hl .idleRun) d l = 0) : Completes (.hostIdleAnnounceRx d l true) s fun t =>
      t.laneState d l = hlUp ∧ t.get (.hl .idleRun) d l = 1 := by
  have hst : s.get (.hl .state) d l = hlUp := hs
  exact completes_of (exec_hostIdleAnnounceRx _) (by simp [hu, hs]) (by simp [hi, State.laneState, hst])

theorem hostIdleAnnounceRx_second (hu : s.up d = true) (hs : s.laneState d l = hlUp)
    (hi : s.get (.hl .idleRun) d l ≠ 0) : Completes (.hostIdleAnnounceRx d l true) s fun t =>
      t.laneState d l = hlIdle ∧ t.get (.hl .keep) d l = 1 :=
  completes_of (exec_hostIdleAnnounceRx _) (by simp [hu, hs]) (by simp [hi, State.laneState, State.laneIdle])

/-- What a lane that starts does not touch. -/
abbrev startKept : Cell → Bool
  | .hl .failReason | .hl .nIdleExitFail | .hl .portEn | .hl .idleReq
  | .sticky .hllIdleExitFail | .sticky .hllNegFail | .live .hllLos => true
  | _ => false

@[simp] theorem State.laneStart_kept {c : Cell} (h : startKept c = true) (e i : Nat) :
    (s.laneStart d l).get c e i = s.get c e i :=
  Reach.get_in (g := startKept) (by apply State.laneStart_reach Reach.refl <;> intros <;> rfl) h ..

@[simp] theorem State.laneStart_flag {c : Cell} (h : startKept c = true) (e i : Nat) :
    (s.laneStart d l).flag c e i = s.flag c e i := by
  simp only [State.flag, State.laneStart_kept h]

theorem hlSignalReturn_starts (hu : s.up d = true) (hw : s.flag (.hl .waitSig) d l = true) (ht : s.laneTest d l = false) :
    Completes (.hlSignalReturn d l) s fun t => t.flag (.live .hllLos) d l = false ∧ t.get (.hl .waitSig) d l = 0 ∧
      t.laneState d l = if s.get (.hl .forceGear) d l ≠ 0 then hlForced else hlLock := by
  set s1 := (s.set (.hl .sig) d l 1).lower .hllLos d l with h1
  have htest : s1.laneTest d l = false := by simpa [h1, State.laneTest] using ht
  refine completes_of exec_hlSignalReturn (by simp [hu, hw]) ?_
  simp only [State.laneState, get_settle_of (c := .hl .state) rfl, get_settle_of (c := .hl .waitSig) rfl,
    flag_settle_of (c := .live .hllLos) rfl, State.laneDone_kept (c := .hl .state) rfl,
    State.laneDone_kept (c := .hl .waitSig) rfl, State.laneDone_flag (c := .live .hllLos) rfl, ← h1,
    State.laneStart_get htest, State.laneStart_flag (c := .live .hllLos) rfl]
  simp [h1]

theorem hostIdleExitRx_locked (hu : s.up d = true) (hs : s.laneState d l = hlIdle) (hk : s.flag (.hl .keep) d l = true) :
    Completes (.hostIdleExitRx d l true) s fun t => t.laneState d l = hlUp :=
  completes_of (exec_hostIdleExitRx _) (by simp [hu, hs, hk]) (by simp [State.laneState, State.laneUp_get])

theorem hostIdleExitRx_fails (hu : s.up d = true) (hs : s.laneState d l = hlIdle) (hk : s.flag (.hl .keep) d l = true) :
    Completes (.hostIdleExitRx d l false) s fun t => t.get (.hl .failReason) d l = failIdleExit ∧
      t.flag (.sticky .hllIdleExitFail) d l = true ∧ t.flag (.sticky .hllNegFail) d l = true ∧
      t.get (.hl .nIdleExitFail) d l = (s.get (.hl .nIdleExitFail) d l + 1) % Counter.size :=
  completes_of (exec_hostIdleExitRx _) (by simp [hu, hs, hk]) (by simp [Counter.size])

-- Eye scan and PRBS (R222 to R224).

theorem escanStart_begins (hu : s.up d = true) (ho : s.escanOk d l = true) : Completes (.escanStart d l) s fun t =>
    t.get (.hl .escanBusy) d l = 1 ∧ t.get (.hl .escanErr) d l = 0 ∧ t.get (.hl .mutValid) d l = 0 :=
  completes_of exec_escanStart (by simp [hu, ho]) (by simp [State.escanBegin])

theorem escanDone_shows (n : Nat) (hu : s.up d = true) (hb : s.flag (.hl .escanBusy) d l = true) :
    Completes (.escanDone d l n) s fun t => t.get (.hl .escanBusy) d l = 0 ∧
      t.get (.hl .escanErr) d l = min (2 ^ s.get (.hl .escanDwell) d l) n :=
  completes_of (exec_escanDone n) (by simp [hu, hb]) (by simp)

theorem eyeSweepDone_shows (e : Eye) (hu : s.up d = true) (hs : s.laneState d l = hlUp)
    (hb : s.flag (.hl .escanBusy) d l = false) : Completes (.eyeSweepDone d l [e]) s fun t =>
      t.get (.hl .eyeV) d l = min 127 e.v ∧ t.get (.hl .eyeH) d l = min 63 e.h ∧ t.get (.hl .mutValid) d l = 1 ∧
        t.get (.hl .mut) d l = min (256 * min 127 e.v / 12) (256 * min 63 e.h / 8) ∧
        t.flag (.live .hllMarginLow) d l = decide (t.get (.hl .mut) d l < s.get (.hl .mutWarn) d 0) := by
  have hmax : min 65535 (min (256 * min 127 e.v / 12) (256 * min 63 e.h / 8)) =
      min (256 * min 127 e.v / 12) (256 * min 63 e.h / 8) := by omega
  exact completes_of (exec_eyeSweepDone _) (by simp [hu, hs, hb]) (by simp [worstEye, hmax, hs, hlUp, hlTrain])

theorem prbsCheckerSync_counts (n errs : Nat) (hu : s.up d = true) (hc : s.flag (.hl .prbsChk) d l = true)
    (hk : s.flag (.hl .prbsLock) d l = true) : Completes (.prbsCheckerSync d l n errs) s fun t =>
      t.get (.hl .nPrbsBits) d l = (s.get (.hl .nPrbsBits) d l + n) % Counter.size ∧
        t.get (.hl .nPrbsErr) d l = (s.get (.hl .nPrbsErr) d l + errs) % Counter.size ∧
        (errs ≠ 0 → t.flag (.sticky .hllPrbsErr) d l = true) ∧
        t.flag (.hl .prbsLock) d l = decide (errs ≤ 1024) := by
  refine completes_of (exec_prbsCheckerSync ..) (by simp [hu, hc]) ?_
  by_cases he : 1024 < errs
  · simp [hk, he, Counter.size, show errs ≠ 0 by omega]
  · simp +contextual [hk, he, Counter.size, Nat.not_lt.mp he]

theorem prbsCheckerSync_locks (n : Nat) (hu : s.up d = true) (hc : s.flag (.hl .prbsChk) d l = true)
    (hk : s.flag (.hl .prbsLock) d l = false) (hn : 64 ≤ n) : Completes (.prbsCheckerSync d l n 0) s fun t =>
      t.get (.hl .prbsLock) d l = 1 ∧ t.get (.hl .nPrbsBits) d l = s.get (.hl .nPrbsBits) d l :=
  completes_of (exec_prbsCheckerSync ..) (by simp [hu, hc]) (by simp [hk, hn])

/-- Settles O31: a lemma for each change of a lane's signal, for idle, the eye and PRBS.  That a lane without clock
recovery shows LOCK, and that MUT is rounded down, is the model's choice (log 21). -/
theorem hostLaneSignal : Obligations.HostLaneSignal := by
  unfold Obligations.HostLaneSignal
  intro s d l errs nb e hu
  exact ⟨fun hs => ⟨hlLos_falls hu hs, hlLol_relocks hu hs, hostIdleAnnounceRx_first hu hs, hostIdleAnnounceRx_second hu hs⟩,
    hlSignalReturn_starts hu, fun hs hk => ⟨hostIdleExitRx_locked hu hs hk, hostIdleExitRx_fails hu hs hk⟩,
    escanStart_begins hu, escanDone_shows errs hu, eyeSweepDone_shows e hu,
    fun hc => ⟨prbsCheckerSync_counts nb errs hu hc, prbsCheckerSync_locks nb hu hc⟩⟩

end Sys2Proof.Machine
end

section
/-!
Host ports: enabling, HOST_GEARS, idle, alignment, host FEC and priority flow control (R219 to R221, R226 to R234).
-/
set_option Elab.async false
namespace Sys2Proof.Machine

variable {s t : State} {d p l : Nat}

theorem exec_portEnable : exec (.portEnable d p) s = execPortEnable d p s := rfl
theorem exec_portDisable : exec (.portDisable d p) s = execPortDisable d p s := rfl
theorem exec_hostGearsTimeout : exec .hostGearsTimeout s = execHostGearsTimeout s := rfl
theorem exec_idleEnter : exec (.idleEnter d p) s = execIdleEnter d p s := rfl
theorem exec_idleFastExit : exec (.idleFastExit d p) s = execIdleFastExit d p s := rfl
theorem exec_pcsAligned : exec (.pcsAligned d p) s = execPcsAligned d p s := rfl
theorem exec_pcsAlignLoss : exec (.pcsAlignLoss d p) s = execPcsAlignLoss d p s := rfl
theorem exec_hostFecCodeword (n : Nat) (a b c : Bool) :
    exec (.hostFecCodeword d p n a b c) s = execHostFecCodeword d p n a b c s := rfl
theorem exec_hostFecDegradeInterval : exec (.hostFecDegradeInterval d p) s = execHostFecDegradeInterval d p s := rfl
theorem exec_pfcXoffStart : exec (.pfcXoffStart d p) s = execPfcXoffStart d p s := rfl
theorem exec_pfcXon : exec (.pfcXon d p) s = execPfcXon d p s := rfl
theorem exec_pfcRefreshTimer : exec (.pfcRefreshTimer d p) s = execPfcRefreshTimer d p s := rfl

-- An operation over the lanes of a port reaches each lane once.

/-- An operation over a list in which one member stands once: `P` holds until that member's turn, `Q` after it. -/
theorem State.each_once {α : Type} {f : State → α → State} {P Q : State → Prop} {a : α} {m : List α} (hn : m.Nodup)
    (ha : a ∈ m) (h0 : P s) (hP : ∀ x b, b ≠ a → P x → P (f x b)) (hf : ∀ x, P x → Q (f x a))
    (hQ : ∀ x b, b ≠ a → Q x → Q (f x b)) : Q (s.each m f) := by
  have hrest : ∀ {n : List α} {x : State}, a ∉ n → Q x → Q (x.each n f) := fun {n} => by
    induction n with
    | nil => exact fun _ h => h
    | cons b n ih =>
      intro x hb h
      simp only [List.mem_cons, not_or] at hb
      exact ih hb.2 (hQ x b (Ne.symm hb.1) h)
  induction m generalizing s with
  | nil => simp at ha
  | cons b m ih =>
    obtain ⟨hb, hm⟩ := List.nodup_cons.mp hn
    by_cases he : b = a
    · subst he
      rw [State.each_cons]
      exact hrest hb (hf s h0)
    · exact ih hm (by simpa [Ne.symm he] using ha) (hP s b he h0)

theorem State.portLanes_nodup : (s.portLanes d p).Nodup :=
  (List.nodup_range.map fun _ _ => Nat.add_left_cancel).filter _

theorem State.gearsLanes_nodup : (s.gearsLanes d).Nodup := by
  unfold State.gearsLanes
  split
  · exact List.nodup_range.filter _
  · exact List.nodup_nil

@[simp] theorem State.portRefresh_kept {c : Cell} (h : portTouches c = false) (e i : Nat) :
    (s.portRefresh d p).get c e i = s.get c e i :=
  Reach.get_in (g := fun c => !portTouches c) (by apply State.portRefresh_reach Reach.refl <;> intros <;> rfl) (by simp [h]) ..

@[simp] theorem State.portRefresh_flag {c : Cell} (h : portTouches c = false) (e i : Nat) :
    (s.portRefresh d p).flag c e i = s.flag c e i := by
  simp only [State.flag, State.portRefresh_kept h]

-- What the lanes of a port do when it starts and stops (R213, R228).

/-- A lane that starts, stops, falls silent or comes up leaves every other lane as it is. -/
abbrev laneOwn : Cell → Bool
  | .hl .state | .hl .waitSig | .hl .keep | .hl .nIdleExit | .hl .portEn | .hl .width | .hl .prbsGen | .hl .prbsChk
  | .hl .forceGear | .hl .idleReq => true
  | _ => false

theorem State.laneStart_other {b : Nat} {c : Cell} (_ : laneOwn c = true) (hb : b ≠ l) :
    (s.laneStart d b).get c d l = s.get c d l := by
  have hl : l ≠ b := Ne.symm hb
  by_cases ht : s.laneTest d b = true
  · simp [State.laneStart, ht, hl]
  · by_cases hg : s.get (.hl .forceGear) d b = 0 <;>
      simp [State.laneStart, ht, hg, hl, State.laneForced, State.laneNegotiate, State.laneForget, State.laneSearch,
        State.setTaps]

/-- A lane stands ready to negotiate when its port starts. -/
def State.laneReady (s : State) (d l : Nat) : Prop := s.laneTest d l = false ∧ s.get (.hl .forceGear) d l = 0

theorem State.laneReady_congr (h : ∀ {c : Cell}, laneOwn c = true → t.get c d l = s.get c d l) (hr : s.laneReady d l) :
    t.laneReady d l := by
  obtain ⟨ht, hg⟩ := hr
  simp only [State.laneTest, State.flag, State.laneReady] at ht ⊢
  rw [h (c := .hl .prbsGen) rfl, h (c := .hl .prbsChk) rfl, h (c := .hl .forceGear) rfl]
  exact ⟨ht, hg⟩

theorem portEnable_starts (hu : s.up d = true) (he : s.flag (.hl .portEn) d p = false) (hm : s.get (.hl .mode) d p ≠ 0)
    (hl : l ∈ s.portLanes d p) (ht : s.laneTest d l = false) (hg : s.get (.hl .forceGear) d l = 0) :
    Completes (.portEnable d p) s fun t => t.get (.hl .portEn) d p = 1 ∧ t.laneState d l = hlLock := by
  have hlock : ((s.set (.hl .portEn) d p 1).each (s.portLanes d p) fun s l => s.laneStart d l).get (.hl .state) d l = hlLock :=
    State.each_once (P := fun x => x.laneReady d l) (Q := fun x => x.get (.hl .state) d l = hlLock)
      State.portLanes_nodup hl (by simpa [State.laneReady, State.laneTest] using ⟨by simpa [State.laneTest] using ht, hg⟩)
      (fun x b hb hx => State.laneReady_congr (fun h => State.laneStart_other h hb) hx)
      (fun x hx => by simp [State.laneStart_get hx.1, hx.2])
      (fun x b hb hx => (State.laneStart_other rfl hb).trans hx)
  have hen : ((s.set (.hl .portEn) d p 1).each (s.portLanes d p) fun s l => s.laneStart d l).get (.hl .portEn) d p = 1 := by
    rw [State.get_each fun x b => State.laneStart_kept rfl .., State.get_set_self]
  exact completes_of exec_portEnable (by simp [hu, he]) (by simp [State.portStart, hm, State.laneState, hlock, hen])

/-- What a lane that is switched off may change. -/
abbrev offKept : Cell → Bool
  | .hl .portEn | .hl .mode | .live .hlpLinkDown => true
  | _ => false

@[simp] theorem State.laneOff_kept {c : Cell} (h : offKept c = true) (b e i : Nat) : (s.laneOff d b).get c e i = s.get c e i :=
  Reach.get_in (g := offKept) (by apply State.laneOff_reach Reach.refl <;> intros <;> rfl) h ..

theorem State.laneOff_state : (s.laneOff d l).get (.hl .state) d l = hlOff := by
  simp [State.laneOff, State.setTaps]

theorem State.laneOff_other {b : Nat} (hb : b ≠ l) : (s.laneOff d b).get (.hl .state) d l = s.get (.hl .state) d l := by
  simp [State.laneOff, State.setTaps, State.laneForget, State.laneSearch, Ne.symm hb]

@[simp] theorem State.gearsCheck_kept {c : Cell} (h : portTouches c = false) (e i : Nat) :
    (s.gearsCheck d).get c e i = s.get c e i :=
  Reach.get_in (g := fun c => !portTouches c) (by apply State.gearsCheck_reach Reach.refl <;> intros <;> rfl) (by simp [h]) ..

/-- What HOST_GEARS may change of a port that follows its lanes. -/
abbrev notBoot : Cell → Bool
  | .boot _ => false
  | _ => true

@[simp] theorem State.gearsCheck_port {c : Cell} (h : notBoot c = true) (e i : Nat) :
    (s.gearsCheck d).get c e i = s.get c e i :=
  Reach.get_in (g := notBoot) (by apply State.gearsCheck_reach Reach.refl <;> intros <;> rfl) h ..

@[simp] theorem State.gearsCheck_flag {c : Cell} (h : notBoot c = true) (e i : Nat) :
    (s.gearsCheck d).flag c e i = s.flag c e i := by
  simp only [State.flag, State.gearsCheck_port h]

/-- A port that follows its lanes: STATE, LINK_DOWN and the correction of the transmit side. -/
theorem State.portRefresh_get : (s.portRefresh d p).get (.hl .pState) d p = s.portNext d p ∧
    (s.portRefresh d p).flag (.live .hlpLinkDown) d p =
      (decide (s.portNext d p = prtNeg) || decide (s.portNext d p = prtAlign)) ∧
    (s.portRefresh d p).get (.hl .corrTx) d p = (if s.portNext d p = prtUp then corrTx (s.portGear d p) else 0) := by
  by_cases hn : s.portNext d p = prtUp <;>
    simp [State.portRefresh, State.portCorr, State.portState, State.portGear, hn]

/-- A port without PORT_EN is OFF. -/
theorem State.portNext_off (h : s.get (.hl .portEn) d p = 0) : s.portNext d p = prtOff := by
  simp [State.portNext, State.flag, h]

theorem portDisable_stops (hu : s.up d = true) (he : s.flag (.hl .portEn) d p = true) : Completes (.portDisable d p) s fun t =>
    t.get (.hl .portEn) d p = 0 ∧ t.portState d p = prtOff ∧ t.get (.hl .pfcTold) d p = 0 ∧
      t.flag (.live .hlpLinkDown) d p = false ∧ (l ∈ s.portLanes d p → t.laneState d l = hlOff) := by
  set s1 := (s.set (.hl .portEn) d p 0).each (s.portLanes d p) fun s l => s.laneOff d l with h1
  have hen : s1.get (.hl .portEn) d p = 0 := by
    rw [h1, State.get_each fun x b => State.laneOff_kept rfl .., State.get_set_self]
  have hlane : l ∈ s.portLanes d p → s1.get (.hl .state) d l = hlOff := fun hl =>
    State.get_each_mem hl (fun x => State.laneOff_state) fun b hb x => State.laneOff_other hb
  obtain ⟨hst, hdown, -⟩ := State.portRefresh_get (s := s1) (d := d) (p := p)
  rw [State.portNext_off hen] at hst hdown
  refine completes_of exec_portDisable (by simp [hu, he]) ?_
  simp only [State.portStop, ← h1]
  simpa [hen, State.portState, hst, hdown, prtOff, prtNeg, prtAlign, State.laneState] using hlane

-- HOST_GEARS (R219).

/-- While a lane of its mask is not UP, HOST_GEARS waits. -/
theorem State.gearsCheck_waits (hl : l ∈ s.gearsLanes d) (hs : s.laneState d l ≠ hlUp) : s.gearsCheck d = s := by
  unfold State.gearsCheck State.when
  dsimp only
  rw [if_neg]
  simp only [Bool.and_eq_true, List.all_eq_true]
  exact fun ⟨_, h⟩ => by simpa [hs] using h l hl

/-- What HOST_GEARS reads of a call and of the ports. -/
abbrev gearsCells : Cell → Bool
  | .hl .width | .hl .portEn | .hl .speed | .boot _ => true
  | _ => false

theorem Reach.gears_eq (h : Reach (outside gearsCells) (fun _ => true) s t) : t.gearsLanes d = s.gearsLanes d ∧
    t.lanePort d l = s.lanePort d l ∧ t.called 10 = s.called 10 := by
  have hlanes : t.portLanes = s.portLanes := by
    funext e q
    simp only [State.portLanes, h.get_in]
  refine ⟨?_, ?_, by simp only [State.called, h.flag_in]⟩
  · rw [State.gearsLanes, State.procArg, State.procArg, h.get_in rfl, h.get_in rfl]
    rfl
  · rw [State.lanePort, hlanes]
    rfl

/-- A lane start leaves the call of HOST_GEARS and the ports. -/
theorem State.laneStart_gears (b : Nat) : (s.laneStart d b).gearsLanes d = s.gearsLanes d ∧
    (s.laneStart d b).lanePort d l = s.lanePort d l ∧ (s.laneStart d b).called 10 = s.called 10 :=
  Reach.gears_eq (by apply State.laneStart_reach Reach.refl <;> intros <;> rfl)

/-- A port that follows its lanes ends no HOST_GEARS while a lane of the mask is not UP. -/
theorem State.portRefresh_gears (q : Nat) (hl : l ∈ s.gearsLanes d) (hs : s.laneState d l ≠ hlUp) :
    (s.portRefresh d q).gearsLanes d = s.gearsLanes d ∧ (s.portRefresh d q).lanePort d l = s.lanePort d l ∧
      (s.portRefresh d q).called 10 = s.called 10 := by
  set s1 := (((s.set (.hl .pState) d q (s.portNext d q)).set (.hl .pGear) d q
    (if s.portNext d q = prtOff then 0 else s.portGear d q)).cond .hlpLinkDown d q
      (decide (s.portNext d q = prtNeg) || decide (s.portNext d q = prtAlign))).portCorr d q with h1
  have hsame : s1.gearsLanes d = s.gearsLanes d ∧ s1.lanePort d l = s.lanePort d l ∧ s1.called 10 = s.called 10 :=
    Reach.gears_eq (by
      refine State.portCorr_reach (State.cond_reach (State.set_reach (State.set_reach Reach.refl rfl) rfl) ?_ ?_ rfl) ?_ ?_ <;>
        intros <;> rfl)
  have hlane : s1.laneState d l = s.laneState d l := by
    have := State.portRefresh_kept (s := s) (c := .hl .state) (d := d) (p := q) rfl d l
    rw [State.portRefresh] at this
    simpa [State.laneState, h1] using this
  have hcheck : s.portRefresh d q = s1 := State.gearsCheck_waits (hsame.1 ▸ hl) (by rw [hlane]; exact hs)
  rw [hcheck]
  exact hsame

/-- A lane of HOST_GEARS that waits for its turn. -/
structure State.gearsWaits (s : State) (d p l : Nat) : Prop where
  ready : s.laneReady d l
  off : s.laneState d l = hlOff
  wait : s.flag (.hl .waitSig) d l = false
  port : s.lanePort d l = some p
  enabled : s.flag (.hl .portEn) d p = true
  mem : l ∈ s.gearsLanes d
  called : s.called 10 = true

/-- A lane of HOST_GEARS that has started. -/
structure State.gearsRuns (s : State) (d l : Nat) : Prop where
  lock : s.laneState d l = hlLock
  mem : l ∈ s.gearsLanes d
  called : s.called 10 = true

/-- One lane of HOST_GEARS. -/
def State.gearsLane (d : Nat) (s : State) (l : Nat) : State :=
  match s.lanePort d l with
  | some p =>
    if s.flag (.hl .portEn) d p ∧ s.laneState d l = hlOff ∧ ¬ s.flag (.hl .waitSig) d l then
      (s.laneStart d l).portRefresh d p
    else s
  | none => s

theorem State.laneStart_waits {b : Nat} (hb : b ≠ l) (h : s.gearsWaits d p l) : (s.laneStart d b).gearsWaits d p l := by
  obtain ⟨hmem, hport, hcalled⟩ := State.laneStart_gears (s := s) (d := d) (l := l) b
  exact {
    ready := State.laneReady_congr (fun hc => State.laneStart_other hc hb) h.ready
    off := (State.laneStart_other rfl hb).trans h.off
    wait := by simpa [State.flag, State.laneStart_other (c := .hl .waitSig) rfl hb] using h.wait
    port := hport.trans h.port
    enabled := by simpa using h.enabled
    mem := hmem ▸ h.mem
    called := hcalled.trans h.called }

theorem State.portRefresh_waits (q : Nat) (h : s.gearsWaits d p l) : (s.portRefresh d q).gearsWaits d p l := by
  obtain ⟨hmem, hport, hcalled⟩ := State.portRefresh_gears q h.mem (by rw [h.off]; decide)
  exact {
    ready := by simpa [State.laneReady, State.laneTest] using h.ready
    off := (State.portRefresh_kept rfl ..).trans h.off
    wait := by simpa using h.wait
    port := hport.trans h.port
    enabled := by simpa using h.enabled
    mem := hmem ▸ h.mem
    called := hcalled.trans h.called }

theorem State.portRefresh_runs (q : Nat) (h : s.gearsRuns d l) : (s.portRefresh d q).gearsRuns d l := by
  obtain ⟨hmem, -, hcalled⟩ := State.portRefresh_gears q h.mem (by rw [h.lock]; decide)
  exact ⟨(State.portRefresh_kept rfl ..).trans h.lock, hmem ▸ h.mem, hcalled.trans h.called⟩

theorem State.laneStart_runs {b : Nat} (hb : b ≠ l) (h : s.gearsRuns d l) : (s.laneStart d b).gearsRuns d l := by
  obtain ⟨hmem, -, hcalled⟩ := State.laneStart_gears (s := s) (d := d) (l := l) b
  exact ⟨(State.laneStart_other rfl hb).trans h.lock, hmem ▸ h.mem, hcalled.trans h.called⟩

/-- What a lane start and the port that follows it keep, a lane's turn of HOST_GEARS keeps. -/
theorem State.gearsLane_keeps {R : State → Prop} {b : Nat} (h : R s) (hstart : R s → R (s.laneStart d b))
    (hport : ∀ x q, R x → R (x.portRefresh d q)) : R (s.gearsLane d b) := by
  unfold State.gearsLane
  split
  · split
    · exact hport _ _ (hstart h)
    · exact h
  · exact h

theorem State.gearsLane_starts (h : s.gearsWaits d p l) : (s.gearsLane d l).gearsRuns d l := by
  obtain ⟨hmem, -, hcalled⟩ := State.laneStart_gears (s := s) (d := d) (l := l) l
  have hlock : (s.laneStart d l).laneState d l = hlLock := by
    simp [State.laneState, State.laneStart_get h.ready.1, h.ready.2]
  rw [State.gearsLane, h.port]
  dsimp only
  rw [if_pos ⟨h.enabled, h.off, by simp [h.wait]⟩]
  exact State.portRefresh_runs p ⟨hlock, hmem ▸ h.mem, hcalled.trans h.called⟩

/-- HOST_GEARS takes the lanes of its mask in turn. -/
theorem exec_hostGears_eq : exec (.hostGears d) s = finishIf (s.up d && s.called 10 && decide (s.procArg 10 0 % 8 = d)) s
    fun s => (s.each (s.gearsLanes d) (State.gearsLane d)).gearsCheck d := rfl

theorem hostGears_starts (hu : s.up d = true) (hd : s.procArg 10 0 % 8 = d) (h : s.gearsWaits d p l) :
    Completes (.hostGears d) s fun t => t.laneState d l = hlLock ∧ t.called 10 = true := by
  have hruns : (s.each (s.gearsLanes d) (State.gearsLane d)).gearsRuns d l :=
    State.each_once (P := fun x => x.gearsWaits d p l) (Q := fun x => x.gearsRuns d l) State.gearsLanes_nodup h.mem h
      (fun x b hb hx => State.gearsLane_keeps (R := fun x => x.gearsWaits d p l) hx (State.laneStart_waits hb)
        fun _ => State.portRefresh_waits)
      (fun x => State.gearsLane_starts)
      (fun x b hb hx => State.gearsLane_keeps (R := fun x => x.gearsRuns d l) hx (State.laneStart_runs hb)
        fun _ => State.portRefresh_runs)
  have hcheck := State.gearsCheck_waits hruns.mem (by rw [hruns.lock]; decide)
  refine completes_of exec_hostGears_eq (by simp [hu, h.called, hd]) ?_
  rw [hcheck]
  exact ⟨(get_settle_of rfl ..).trans hruns.lock, (flag_settle_of rfl ..).trans hruns.called⟩

/-- What HOST_GEARS returns at its time limit. -/
def State.gearsExpire (s : State) : State :=
  if bit (s.procArg 10 2) 0 then s.procEnd 10 true 0
  else
    match (s.gearsLanes (s.procArg 10 0 % 8)).find? (fun l => decide (s.laneState (s.procArg 10 0 % 8) l ≠ hlUp)) with
    | some l => s.procEnd 10 false (16 * l + s.get (.hl .failReason) (s.procArg 10 0 % 8) l)
    | none => s

theorem hostGearsTimeout_eq (hc : s.called 10 = true) : exec .hostGearsTimeout s = .next (settle s s.gearsExpire) := by
  rw [exec_hostGearsTimeout, execHostGearsTimeout, finishIf, if_pos hc]
  rfl

theorem hostGearsTimeout_done (hc : s.called 10 = true) (hi : s.get (.boot .procId) 0 0 = 10)
    (hb : bit (s.procArg 10 2) 0 = true) : Completes .hostGearsTimeout s fun t => t.called 10 = false ∧
      t.get (.boot .procDone) 0 0 = 1 ∧ t.get (.boot .procCode) 0 0 = 0 :=
  ⟨_, hostGearsTimeout_eq hc, by simp [State.gearsExpire, hb, State.procEnd, hi, State.called]⟩

theorem hostGearsTimeout_fails (hc : s.called 10 = true) (hi : s.get (.boot .procId) 0 0 = 10)
    (hb : bit (s.procArg 10 2) 0 = false) (hd : s.procArg 10 0 % 8 = d) (hl : (s.gearsLanes d).head? = some l)
    (hs : s.laneState d l ≠ hlUp) : Completes .hostGearsTimeout s fun t => t.called 10 = false ∧
      t.get (.boot .procDone) 0 0 = 2 ∧ t.get (.boot .procCode) 0 0 = 16 * l + s.get (.hl .failReason) d l := by
  have hfind : (s.gearsLanes d).find? (fun l => decide (s.laneState d l ≠ hlUp)) = some l := by
    obtain ⟨r, hr⟩ : ∃ r, s.gearsLanes d = l :: r := by
      cases h : s.gearsLanes d with
      | nil => simp [h] at hl
      | cons a r => exact ⟨r, by simpa [h] using hl⟩
    simp [hr, hs]
  refine ⟨_, hostGearsTimeout_eq hc, ?_⟩
  simp only [State.gearsExpire, hb, Bool.false_eq_true, if_false, hd, hfind]
  simp [State.procEnd, hi, State.called]

-- Idle (R220, R221).

theorem idleEnter_idles (hu : s.up d = true) (he : s.flag (.hl .portEn) d p = true) (hi : s.flag (.hl .idleReq) d p = false)
    (hl : l ∈ s.portLanes d p) : Completes (.idleEnter d p) s fun t => t.get (.hl .idleReq) d p = 1 ∧
      t.laneState d l = hlIdle ∧ t.flag (.hl .keep) d l = decide (s.portState d p = prtUp) := by
  set k := decide (s.portState d p = prtUp) with hk
  have hother : ∀ b, b ≠ l → ∀ {c : Cell} (x : State), c = .hl .state ∨ c = .hl .keep →
      (x.laneIdle d b k).get c d l = x.get c d l := by
    rintro b hb c x (rfl | rfl) <;> cases k <;>
      simp [State.laneIdle, State.laneForget, State.laneSearch, Ne.symm hb]
  have hst : ((s.set (.hl .idleReq) d p 1).each (s.portLanes d p) fun s l => s.laneIdle d l k).get (.hl .state) d l = hlIdle :=
    State.get_each_mem hl (fun x => by simp [State.laneIdle]) fun b hb x => hother b hb x (.inl rfl)
  have hkeep : ((s.set (.hl .idleReq) d p 1).each (s.portLanes d p) fun s l => s.laneIdle d l k).get (.hl .keep) d l =
      k.toNat :=
    State.get_each_mem hl (fun x => by simp [State.laneIdle]) fun b hb x => hother b hb x (.inr rfl)
  have hreq : ((s.set (.hl .idleReq) d p 1).each (s.portLanes d p) fun s l => s.laneIdle d l k).get (.hl .idleReq) d p = 1 := by
    rw [State.get_each fun x b => by cases k <;> simp [State.laneIdle, State.laneForget, State.laneSearch], State.get_set_self]
  refine completes_of exec_idleEnter (by simp [hu, he, hi]) ?_
  simp only [State.portIdle, ← hk, State.flag]
  cases hb : k <;> simp_all [State.laneState]

/-- A lane that comes up leaves every other lane as it is. -/
theorem State.laneUp_other {b : Nat} {c : Cell} (h : c = .hl .state ∨ c = .hl .keep ∨ c = .hl .nIdleExit) (hb : b ≠ l) :
    (s.laneUp d b).get c d l = s.get c d l := by
  rcases h with rfl | rfl | rfl <;> simp [State.laneUp, Ne.symm hb]

/-- A lane of a port that leaves idle. -/
def State.wakeLane (d : Nat) (s : State) (l : Nat) : State :=
  if s.laneState d l = hlIdle then
    if s.flag (.hl .keep) d l then (s.inc (.hl .nIdleExit) d l).laneUp d l else s.laneStart d l
  else s

/-- A lane of a port that waits in idle with its state kept. -/
structure State.idleKept (s : State) (d l n : Nat) : Prop where
  idle : s.laneState d l = hlIdle
  keep : s.flag (.hl .keep) d l = true
  exits : s.get (.hl .nIdleExit) d l = n

/-- A lane of a port that has left idle. -/
structure State.idleLeft (s : State) (d l n : Nat) : Prop where
  up : s.laneState d l = hlUp
  exits : s.get (.hl .nIdleExit) d l = n

theorem State.wakeLane_other {b : Nat} {c : Cell} (h : c = .hl .state ∨ c = .hl .keep ∨ c = .hl .nIdleExit) (hb : b ≠ l) :
    (s.wakeLane d b).get c d l = s.get c d l := by
  have hown : laneOwn c = true := by rcases h with rfl | rfl | rfl <;> rfl
  have hinc : (s.inc (.hl .nIdleExit) d b).get c d l = s.get c d l := by simp [Ne.symm hb]
  unfold State.wakeLane
  split
  · split
    · exact (State.laneUp_other h hb).trans hinc
    · exact State.laneStart_other hown hb
  · rfl

theorem State.wakeLane_leaves {n : Nat} (h : s.idleKept d l n) : (s.wakeLane d l).idleLeft d l ((n + 1) % 2 ^ 64) := by
  rw [State.wakeLane, if_pos h.idle, if_pos h.keep]
  exact ⟨by simp [State.laneState, State.laneUp], by simp [State.laneUp, h.exits]⟩

theorem idleFastExit_wakes (hu : s.up d = true) (he : s.flag (.hl .portEn) d p = true)
    (hi : s.flag (.hl .idleReq) d p = true) (hl : l ∈ s.portLanes d p) (hs : s.laneState d l = hlIdle)
    (hk : s.flag (.hl .keep) d l = true) : Completes (.idleFastExit d p) s fun t => t.get (.hl .idleReq) d p = 0 ∧
      t.laneState d l = hlUp ∧ t.get (.hl .nIdleExit) d l = (s.get (.hl .nIdleExit) d l + 1) % Counter.size := by
  set s1 := (s.set (.hl .idleReq) d p 0).each (s.portLanes d p) (State.wakeLane d) with h1
  have hleft : s1.idleLeft d l ((s.get (.hl .nIdleExit) d l + 1) % 2 ^ 64) :=
    State.each_once (P := fun x => x.idleKept d l (s.get (.hl .nIdleExit) d l))
      (Q := fun x => x.idleLeft d l ((s.get (.hl .nIdleExit) d l + 1) % 2 ^ 64)) State.portLanes_nodup hl
      ⟨by simpa [State.laneState] using hs, by simpa using hk, by simp⟩
      (fun x b hb hx => ⟨(State.wakeLane_other (.inl rfl) hb).trans hx.idle,
        by simpa only [State.flag, State.wakeLane_other (.inr (.inl rfl)) hb] using hx.keep,
        (State.wakeLane_other (.inr (.inr rfl)) hb).trans hx.exits⟩)
      (fun x => State.wakeLane_leaves)
      (fun x b hb hx => ⟨(State.wakeLane_other (.inl rfl) hb).trans hx.up,
        (State.wakeLane_other (.inr (.inr rfl)) hb).trans hx.exits⟩)
  have hreq : s1.get (.hl .idleReq) d p = 0 := by
    rw [h1, State.get_each fun x b => ?_, State.get_set_self]
    unfold State.wakeLane
    split
    · split
      · simp [State.laneUp]
      · exact State.laneStart_kept rfl ..
    · rfl
  have hwake : s.portWake d p = s1.portRefresh d p := rfl
  refine completes_of exec_idleFastExit (by simp [hu, he, hi]) ?_
  rw [hwake]
  exact ⟨by simp [hreq], (by simp [State.laneState] : _ = s1.laneState d l).trans hleft.up,
    (by simp : _ = s1.get (.hl .nIdleExit) d l).trans hleft.exits⟩

-- Alignment (R228).

/-- The port's PCS: what its lanes and its configuration leave to alignment. -/
def State.portPcs (s : State) (d p : Nat) : Bool :=
  s.flag (.hl .portEn) d p && decide (s.get (.hl .mode) d p ≠ 0) && decide (s.portLanes d p ≠ []) &&
    (s.portLanes d p).all (fun l => !s.laneTest d l) && decide (s.get (.hl .loop) d p = 0) &&
    !(s.portLanes d p).all (fun l => decide (s.laneState d l = hlIdle)) &&
    (s.portLanes d p).all (fun l => decide (s.laneState d l = hlUp))

/-- With its lanes UP a port moves between ALIGN and UP with its PCS alone. -/
theorem State.portNext_pcs (h : s.portPcs d p = true) :
    s.portNext d p = if s.portState d p = prtUp ∨ s.portState d p = prtIdle then prtUp else prtAlign := by
  simp only [State.portPcs, Bool.and_eq_true, decide_eq_true_eq, Bool.not_eq_true'] at h
  obtain ⟨⟨⟨⟨⟨⟨hen, hmode⟩, hlanes⟩, htest⟩, hloop⟩, hidle⟩, hup⟩ := h
  have hany : (s.portLanes d p).any (fun l => s.laneTest d l) = false := by
    simpa [List.any_eq_false, List.all_eq_true] using htest
  simp [State.portNext, hen, hmode, hlanes, hany, hloop, hidle, hup]

theorem State.portPcs_of (h : s.portNext d p = prtAlign ∨ s.portNext d p = prtUp) : s.portPcs d p = true := by
  simp only [State.portNext, prtOff, prtNeg, prtAlign, prtUp, prtIdle, prtLoop, prtTest] at h
  split at h
  · simp at h
  next hcfg =>
  split at h
  · simp at h
  next htest =>
  split at h
  · simp at h
  next hloop =>
  split at h
  · simp at h
  next hidle =>
  split at h
  next hup =>
    simp only [Bool.or_eq_true, not_or, Bool.not_eq_true', Bool.not_eq_false, decide_eq_true_eq] at hcfg
    simp only [State.portPcs, Bool.and_eq_true, decide_eq_true_eq, Bool.not_eq_true', hcfg, true_and, ne_eq,
      not_false_eq_true]
    refine ⟨⟨⟨?_, by simpa using hloop⟩, by simpa using hidle⟩, hup⟩
    simpa [List.any_eq_true, List.all_eq_true] using htest
  · simp at h

/-- Alignment does not reach the lanes of a port. -/
theorem State.portPcs_pState (v : Nat) : (s.set (.hl .pState) d p v).portPcs d p = s.portPcs d p := by
  have hl : (s.set (.hl .pState) d p v).portLanes d p = s.portLanes d p := by simp [State.portLanes]
  have ht : (s.set (.hl .pState) d p v).laneTest d = s.laneTest d := funext fun l => by simp [State.laneTest]
  have hs : (s.set (.hl .pState) d p v).laneState d = s.laneState d := funext fun l => by simp [State.laneState]
  rw [State.portPcs, hl, ht, hs]
  simp [State.portPcs]

theorem pcsAligned_up (hu : s.up d = true) (hs : s.portState d p = prtAlign) (hn : s.portNext d p = prtAlign) :
    Completes (.pcsAligned d p) s fun t => t.portState d p = prtUp ∧ t.flag (.live .hlpLinkDown) d p = false ∧
      t.get (.hl .corrTx) d p = corrTx (s.portGear d p) := by
  have hpcs : (s.set (.hl .pState) d p prtUp).portPcs d p = true := by
    rw [State.portPcs_pState, State.portPcs_of (.inl hn)]
  have hup : (s.set (.hl .pState) d p prtUp).portNext d p = prtUp := by
    rw [State.portNext_pcs hpcs, if_pos (.inl (by simp [State.portState]))]
  obtain ⟨hst, hdown, hcorr⟩ := State.portRefresh_get (s := s.set (.hl .pState) d p prtUp) (d := d) (p := p)
  rw [hup] at hst hdown hcorr
  exact completes_of exec_pcsAligned (by simp [hu, hs])
    ⟨(get_settle_of rfl ..).trans hst, (flag_settle_of rfl ..).trans hdown,
      (get_settle_of rfl ..).trans (hcorr.trans (by simp [State.portGear]))⟩

theorem pcsAlignLoss_falls (hu : s.up d = true) (hs : s.portState d p = prtUp) (hn : s.portNext d p = prtUp) :
    Completes (.pcsAlignLoss d p) s fun t => t.portState d p = prtAlign ∧ t.flag (.live .hlpLinkDown) d p = true ∧
      t.flag (.sticky .hlpAlignLoss) d p = true ∧ t.get (.hl .corrTx) d p = 0 := by
  set s1 := (s.event .hlpAlignLoss d p).set (.hl .pState) d p prtAlign with h1
  have hsame : (s.event .hlpAlignLoss d p).portPcs d p = s.portPcs d p := by
    have hl : (s.event .hlpAlignLoss d p).portLanes d p = s.portLanes d p := by simp [State.portLanes]
    have ht : (s.event .hlpAlignLoss d p).laneTest d = s.laneTest d := funext fun l => by simp [State.laneTest]
    have hq : (s.event .hlpAlignLoss d p).laneState d = s.laneState d := funext fun l => by simp [State.laneState]
    rw [State.portPcs, hl, ht, hq]
    simp [State.portPcs]
  have hpcs : s1.portPcs d p = true := by rw [h1, State.portPcs_pState, hsame, State.portPcs_of (.inr hn)]
  have halign : s1.portNext d p = prtAlign := by
    rw [State.portNext_pcs hpcs, if_neg (by simp [h1, State.portState, prtAlign, prtUp, prtIdle])]
  obtain ⟨hst, hdown, hcorr⟩ := State.portRefresh_get (s := s1) (d := d) (p := p)
  have hsticky : s1.flag (.sticky .hlpAlignLoss) d p = true := by simp [h1]
  refine completes_of exec_pcsAlignLoss (by simp [hu, hs]) ?_
  rw [← h1]
  simp [State.portState, hst, hdown, hcorr, halign, hsticky, prtUp, prtAlign]

-- Host FEC and priority flow control (R229, R232, R234).

theorem hostFecCodeword_counts (n : Nat) (unc lf rf : Bool) (hr : s.pcsRuns d p = true) :
    Completes (.hostFecCodeword d p n unc lf rf) s fun t =>
      t.get (.hl .nFecCw) d p = (s.get (.hl .nFecCw) d p + 1) % Counter.size ∧
        t.get (.hl .nFecSymErr) d p = (s.get (.hl .nFecSymErr) d p + n) % Counter.size ∧
        t.flag (.live .hlpLfRx) d p = lf ∧ t.flag (.live .hlpRfRx) d p = rf ∧
        (unc = true → t.flag (.sticky .hlpFecUncorr) d p = true ∧
          t.get (.hl .nFecUncorrCw) d p = (s.get (.hl .nFecUncorrCw) d p + 1) % Counter.size) :=
  completes_of (exec_hostFecCodeword ..) hr (by simp +contextual [Counter.size])

theorem hostFecDegradeInterval_shows (hr : s.pcsRuns d p = true) : Completes (.hostFecDegradeInterval d p) s fun t =>
    t.get (.hl .symMs) d p = 0 ∧ t.flag (.live .hlpFecDegrade) d p =
      decide (s.get (.hl .degSym) d p ≠ 0 ∧ s.get (.hl .degSym) d p < s.get (.hl .symMs) d p) :=
  completes_of exec_hostFecDegradeInterval hr (by simp)

/-- A PFC frame tells the conditions in force. -/
theorem State.pfcSend_get : (s.pfcSend d p).get (.hl .pfcTold) d p = s.pfcWant d p ∧
    (s.pfcSend d p).get (.hl .nPfcTx) d p = (s.get (.hl .nPfcTx) d p + 1) % 2 ^ 64 := by
  simp [State.pfcSend]

theorem pfcXoffStart_sends (hp : s.packetUp d p = true) (hw : s.pfcWant d p = 1) (ht : s.get (.hl .pfcTold) d p = 0) :
    Completes (.pfcXoffStart d p) s fun t => t.get (.hl .pfcTold) d p = 1 ∧
      t.get (.hl .nPfcTx) d p = (s.get (.hl .nPfcTx) d p + 1) % Counter.size :=
  completes_of exec_pfcXoffStart (by rw [hp, hw, ht]; decide) (by simp [State.pfcSend_get, hw, Counter.size])

theorem pfcXon_sends (hp : s.packetUp d p = true) (hw : s.pfcWant d p = 0) (ht : s.get (.hl .pfcTold) d p = 1) :
    Completes (.pfcXon d p) s fun t => t.get (.hl .pfcTold) d p = 0 ∧
      t.get (.hl .nPfcTx) d p = (s.get (.hl .nPfcTx) d p + 1) % Counter.size :=
  completes_of exec_pfcXon (by rw [hp, hw, ht]; decide) (by simp [State.pfcSend_get, hw, Counter.size])

theorem pfcRefreshTimer_sends (hp : s.packetUp d p = true) (hw : s.pfcWant d p ≠ 0) (ht : s.get (.hl .pfcTold) d p ≠ 0) :
    Completes (.pfcRefreshTimer d p) s fun t => t.get (.hl .pfcTold) d p = s.pfcWant d p ∧
      t.get (.hl .nPfcTx) d p = (s.get (.hl .nPfcTx) d p + 1) % Counter.size :=
  completes_of exec_pfcRefreshTimer (by simp [hp, hw, ht]) (by simp [State.pfcSend_get, Counter.size])

/-- Settles O32: a lemma for each command of the port layer, over what one lane's turn leaves.  That LF and RF come with
HOST_FEC_CODEWORD, and that the result code of HOST_GEARS takes FAIL_REASON as it stands, is the model's choice (log 21). -/
theorem hostPorts : Obligations.HostPorts := by
  unfold Obligations.HostPorts
  intro s d p l sym unc lf rf hu
  exact ⟨portEnable_starts hu, portDisable_stops hu,
    fun hc hd hl hp he hs hw ht hg => hostGears_starts hu hd ⟨⟨ht, hg⟩, hs, hw, hp, he, hl, hc⟩,
    fun hc hi => ⟨hostGearsTimeout_done hc hi, hostGearsTimeout_fails hc hi⟩,
    fun he => ⟨idleEnter_idles hu he, idleFastExit_wakes hu he⟩, pcsAligned_up hu, pcsAlignLoss_falls hu,
    fun hr => ⟨hostFecCodeword_counts sym unc lf rf hr, hostFecDegradeInterval_shows hr⟩,
    fun hp => ⟨pfcXoffStart_sends hp, pfcXon_sends hp, pfcRefreshTimer_sends hp⟩⟩

end Sys2Proof.Machine
end

section
/-!
Frames from the host: arrival, classification and the decision at the queue (R230, R235, R243 to R247, R249, R252, R255).
-/
set_option Elab.async false
namespace Sys2Proof.Machine

variable {s t : State} {d p : Nat} {f : HostFrame} {g : Staged} {r : RingRec}

theorem exec_frameDecisionPoint (id : Nat) : exec (.frameDecisionPoint d id) s = execFrameDecisionPoint d id s := rfl
theorem exec_stagedFrameRelease (id : Nat) : exec (.stagedFrameRelease d id) s = execStagedFrameRelease d id s := rfl
theorem exec_ctFrameFail (id : Nat) (b : Bool) : exec (.ctFrameFail d id b) s = execCtFrameFail d id b s := rfl

-- Frames that arrive (R230, R235, R249).

/-- Counting a frame leaves what is staged, and all of the queues and the trace. -/
abbrev macKept : Cell → Bool
  | .hl .nRxBytes | .hl .nRxFrames | .hl .nRxSizeErr | .hl .nRxFcsErr | .hl .nMacctlRx | .sticky .hlpHostMacctl => false
  | _ => true

@[simp] theorem State.macCount_kept {c : Cell} (h : macKept c = true) (v len e i : Nat) :
    (s.macCount d p v len).get c e i = s.get c e i :=
  Reach.get_in (g := macKept) (by apply State.macCount_reach Reach.refl <;> intros <;> rfl) h ..

/-- A whole new frame is counted by its verdict, and a good one goes on. -/
theorem hostFrameRx_new {P : State → Prop} (hp : s.packetUp d p = true) (hs : s.stagedAt d f.id = none)
    (hr : s.ctRecord d f.id = none) (hl : f.last = true)
    (hP : P (settle s (if s.macVerdict d p f = 0 then (s.macCount d p 0 f.len).newFrame d p f
      else s.macCount d p (s.macVerdict d p f) f.len))) : Completes (.hostFrameRx d p f) s P := by
  obtain ⟨⟨hu, hm⟩, hup⟩ : (s.up d = true ∧ s.get (.hl .mode) d p = 1) ∧ s.portState d p = prtUp := by
    simpa [State.packetUp] using hp
  refine completes_of exec_hostFrameRx (by simp [hu, hm, hup]) ?_
  simp only [hs, hr, hl, if_true]
  by_cases hv : s.macVerdict d p f = 0
  · rw [if_pos hv] at hP ⊢
    simpa only [hv] using hP
  · rw [if_neg hv] at hP ⊢
    exact hP

theorem hostFrameRx_size (hp : s.packetUp d p = true) (hs : s.stagedAt d f.id = none) (hr : s.ctRecord d f.id = none)
    (hl : f.last = true) (hv : s.macVerdict d p f = 1) : Completes (.hostFrameRx d p f) s fun t => t.staged = s.staged ∧
      t.get (.hl .nRxSizeErr) d p = (s.get (.hl .nRxSizeErr) d p + 1) % Counter.size := by
  refine hostFrameRx_new hp hs hr hl ?_
  rw [if_neg (by simp [hv]), hv]
  exact ⟨by simp, by simp [State.macCount, Counter.size]⟩

theorem hostFrameRx_fcs (hp : s.packetUp d p = true) (hs : s.stagedAt d f.id = none) (hr : s.ctRecord d f.id = none)
    (hl : f.last = true) (hv : s.macVerdict d p f = 2) : Completes (.hostFrameRx d p f) s fun t => t.staged = s.staged ∧
      t.get (.hl .nRxFcsErr) d p = (s.get (.hl .nRxFcsErr) d p + 1) % Counter.size := by
  refine hostFrameRx_new hp hs hr hl ?_
  rw [if_neg (by simp [hv]), hv]
  exact ⟨by simp, by simp [State.macCount, Counter.size]⟩

theorem hostFrameRx_control (hp : s.packetUp d p = true) (hs : s.stagedAt d f.id = none) (hr : s.ctRecord d f.id = none)
    (hl : f.last = true) (hv : s.macVerdict d p f = 3) : Completes (.hostFrameRx d p f) s fun t => t.staged = s.staged ∧
      t.flag (.sticky .hlpHostMacctl) d p = true ∧
      t.get (.hl .nMacctlRx) d p = (s.get (.hl .nMacctlRx) d p + 1) % Counter.size := by
  refine hostFrameRx_new hp hs hr hl ?_
  rw [if_neg (by simp [hv]), hv]
  exact ⟨by simp, by simp [State.macCount], by simp [State.macCount, Counter.size]⟩

/-- The entries of a cell that another cell's write leaves. -/
theorem State.listed_set {c c' : Cell} (h : c' ≠ c) (e i v u : Nat) : (s.set c' e i v).listed c u = s.listed c u := by
  have hf : ∀ st : Store, (st.erase ⟨c', e, i⟩).filterMap (fun x => if x.1.cell = c ∧ x.1.die = u then some (x.1.idx, x.2) else none) =
      st.filterMap (fun x => if x.1.cell = c ∧ x.1.die = u then some (x.1.idx, x.2) else none) := fun st => by
    rw [Store.erase, List.filterMap_filter]
    refine List.filterMap_congr fun x _ => ?_
    by_cases hx : x.1 = ⟨c', e, i⟩ <;> simp [hx, h]
  have hi : ∀ st : Store, (Store.insert (⟨c', e, i⟩, v) st).filterMap
      (fun x => if x.1.cell = c ∧ x.1.die = u then some (x.1.idx, x.2) else none) =
      st.filterMap (fun x => if x.1.cell = c ∧ x.1.die = u then some (x.1.idx, x.2) else none) := fun st => by
    induction st with
    | nil => simp [Store.insert, h]
    | cons x r ih =>
      unfold Store.insert
      split
      · simp [h]
      · simp only [List.filterMap_cons, ih]
  unfold State.listed State.set Store.put
  split
  · exact hf _
  · exact (hi _).trans (hf _)

/-- What classification reads. -/
abbrev clsCells : Cell → Bool
  | .win _ | .qs .clsMode | .qs .cDrain | .qs .qDrain | .sys .diePresent => true
  | _ => false

/-- Classification of a frame does not see what other cells hold. -/
theorem State.clsMatch_congr (hg : ∀ {c : Cell}, clsCells c = true → ∀ e i, t.get c e i = s.get c e i)
    (hl : ∀ e, t.listed (.win .ctTsmap) e = s.listed (.win .ctTsmap) e) (htab : t.clsTab = s.clsTab) :
    t.clsMatch d p f = s.clsMatch d p f := by
  have hdies : t.dies = s.dies := by
    have hp : t.present = s.present := funext fun e => by rw [State.present, hg rfl]; rfl
    rw [State.dies, hp]
    rfl
  have hslots : t.slots = s.slots := funext fun e => by rw [State.slots, hl]; rfl
  have hk : t.ctnK = s.ctnK := funext fun c => by
    unfold State.ctnK State.slotsOf
    rw [hdies, hslots]
  have hword : t.winWordAt = s.winWordAt := funext fun w => funext fun e => funext fun n => funext fun k => hg rfl ..
  have huse : t.queueUsable = s.queueUsable := funext fun e => funext fun q => by
    rw [State.queueUsable, State.qEn, State.ctnActive, State.ctnMode, State.qCtn, hword, hk, State.flag, State.flag, hg rfl, hg rfl]
    rfl
  have hlook : t.clsLookup = s.clsLookup := by
    unfold State.clsLookup
    rw [htab]
  unfold State.clsMatch
  rw [hg rfl, huse, hlook]

/-- An item without a tag leaves no trace record. -/
@[simp] theorem State.traceItem_none (stage loc data : Nat) : s.traceItem d none stage loc data = s := rfl

theorem State.traceTag_off (h : s.flag (.trc .trcEn) d 0 = false) (b : Bool) : s.traceTag d b = (s, none) := by
  simp [State.traceTag, h]

/-- A good frame of a port without tracing: counted, and put before the classifier while it fits the staging buffer. -/
def State.goodFrame (s : State) (d p : Nat) (f : HostFrame) : State := (s.macCount d p 0 f.len).lower .qsStageOvf d 0

theorem State.goodFrame_kept {c : Cell} (h : macKept c = true) (h' : c ≠ .live .qsStageOvf) (e i : Nat) :
    (s.goodFrame d p f).get c e i = s.get c e i := by
  rw [State.goodFrame, State.get_lower h', State.macCount_kept h]

/-- A report leaves the store. -/
theorem State.listed_report {c : Cell} {a : Alm} (e i loc kind u : Nat) : (s.report a e i loc kind).listed c u = s.listed c u := rfl

theorem State.listed_lower {c : Cell} {a : Alm} (h : Cell.live a ≠ c) (e i u : Nat) :
    (s.lower a e i).listed c u = s.listed c u := by
  unfold State.lower State.lowerAt
  split
  · dsimp only
    split
    · rw [State.listed_report, State.listed_set h]
    · exact State.listed_set h ..
  · rfl

theorem State.goodFrame_match : (s.goodFrame d p f).clsMatch d p f = s.clsMatch d p f := by
  refine State.clsMatch_congr (fun {c} h e i => ?_) (fun e => ?_) ?_
  · exact State.goodFrame_kept (by cases c <;> simp_all) (by rintro rfl; simp at h) e i
  · rw [State.goodFrame, State.listed_lower (by decide)]
    exact (State.listed_set (by decide) ..).trans (State.listed_set (by decide) ..)
  · exact Reach.part_eq (p := .clsTab) (by
      apply State.lower_reach (State.macCount_reach Reach.refl _ _ _ _ _ _ _) <;> intros <;> rfl)

/-- A good frame that fits the staging buffer goes to the classifier. -/
theorem State.newFrame_good (ht : s.flag (.trc .trcEn) d 0 = false) (hf : s.stagingUsed d + s.get (.hl .mtu) d p ≤ 524288) :
    (s.macCount d p 0 f.len).newFrame d p f =
      match ((s.goodFrame d p f).classify d p f).2 with
      | none => ((s.goodFrame d p f).classify d p f).1.newGone d p f none 5
      | some (q, fm) => ((s.goodFrame d p f).classify d p f).1.stageFrame d p f q fm none false := by
  have hused : (s.macCount d p 0 f.len).stagingUsed d = s.stagingUsed d := by simp [State.stagingUsed]
  unfold State.newFrame
  rw [State.traceTag_off (by simpa [State.flag] using ht)]
  dsimp only
  rw [State.traceItem_none, if_neg (by simp [hused]; omega)]
  rfl

@[simp] theorem State.goodFrame_staged : (s.goodFrame d p f).staged = s.staged :=
  Reach.part_eq (p := .staged) (by
    apply State.lower_reach (State.macCount_reach Reach.refl _ _ _ _ _ _ _) <;> intros <;> rfl)

/-- A good frame counts. -/
theorem State.goodFrame_counts : (s.goodFrame d p f).get (.hl .nRxFrames) d p = (s.get (.hl .nRxFrames) d p + 1) % 2 ^ 64 ∧
    (s.goodFrame d p f).get (.hl .nRxBytes) d p = (s.get (.hl .nRxBytes) d p + f.len) % 2 ^ 64 := by
  simp [State.goodFrame, State.macCount]

/-- The entry of a staged frame does not see what counting writes. -/
theorem State.goodFrame_entry : (s.goodFrame d p f).frameLen d p f = s.frameLen d p f ∧
    (s.goodFrame d p f).inputColour d p f = s.inputColour d p f ∧
    (s.goodFrame d p f).get (.hl .corrRx) d p = s.get (.hl .corrRx) d p := by
  have hmode : (s.goodFrame d p f).flag (.qs .clsMode) d p = s.flag (.qs .clsMode) d p := by
    simp only [State.flag, State.goodFrame_kept (c := .qs .clsMode) rfl (by decide)]
  refine ⟨by rw [State.frameLen, hmode]; rfl, ?_, State.goodFrame_kept rfl (by decide) ..⟩
  unfold State.inputColour
  rw [hmode, State.goodFrame_kept rfl (by decide), State.goodFrame_kept rfl (by decide)]

theorem hostFrameRx_staged {q fm : Nat} (hp : s.packetUp d p = true) (hs : s.stagedAt d f.id = none)
    (hr : s.ctRecord d f.id = none) (hl : f.last = true) (hv : s.macVerdict d p f = 0)
    (ht : s.flag (.trc .trcEn) d 0 = false) (hf : s.stagingUsed d + s.get (.hl .mtu) d p ≤ 524288)
    (hm : s.clsMatch d p f = some (q, fm)) : Completes (.hostFrameRx d p f) s fun t =>
      t.staged = s.staged ++ [⟨d, f.id, p, q, s.frameLen d p f, true, false, s.inputColour d p f, fm, none,
        f.rawTime - s.get (.hl .corrRx) d p, f.ptp⟩] ∧
      t.get (.hl .nRxFrames) d p = (s.get (.hl .nRxFrames) d p + 1) % Counter.size ∧
      t.get (.hl .nRxBytes) d p = (s.get (.hl .nRxBytes) d p + f.len) % Counter.size ∧
      t.get (.qs .nClsHit) d fm = (s.get (.qs .nClsHit) d fm + 1) % Counter.size := by
  refine hostFrameRx_new hp hs hr hl ?_
  obtain ⟨hframes, hbytes⟩ := State.goodFrame_counts (s := s) (d := d) (p := p) (f := f)
  obtain ⟨hlen, hcol, hcorr⟩ := State.goodFrame_entry (s := s) (d := d) (p := p) (f := f)
  have hcls : (s.goodFrame d p f).classify d p f = ((s.goodFrame d p f).inc (.qs .nClsHit) d fm, some (q, fm)) := by
    rw [State.classify, State.goodFrame_match, hm]
  have hhit : (s.goodFrame d p f).get (.qs .nClsHit) d fm = s.get (.qs .nClsHit) d fm :=
    State.goodFrame_kept rfl (by decide) ..
  have hlen' : ((s.goodFrame d p f).inc (.qs .nClsHit) d fm).frameLen d p f = s.frameLen d p f := by
    rw [← hlen]; simp [State.frameLen]
  have hcol' : ((s.goodFrame d p f).inc (.qs .nClsHit) d fm).inputColour d p f = s.inputColour d p f := by
    rw [← hcol]; simp [State.inputColour]
  rw [if_pos hv, State.newFrame_good ht hf, hcls]
  dsimp only
  refine ⟨?_, ?_, ?_, ?_⟩
  · rw [settle_staged]
    simp [State.stageFrame, hlen', hcol', hcorr, hl]
  all_goals
    rw [get_settle_of rfl, State.stageFrame, State.get_lists]
    simp [hframes, hbytes, hhit, Counter.size]

theorem hostFrameRx_missed (hp : s.packetUp d p = true) (hs : s.stagedAt d f.id = none)
    (hr : s.ctRecord d f.id = none) (hl : f.last = true) (hv : s.macVerdict d p f = 0)
    (ht : s.flag (.trc .trcEn) d 0 = false) (hf : s.stagingUsed d + s.get (.hl .mtu) d p ≤ 524288)
    (hm : s.clsMatch d p f = none) (hmd : s.flag (.qs .missDrop) d p = true) : Completes (.hostFrameRx d p f) s fun t =>
      t.staged = s.staged ∧ t.get (.qs .nClsMiss) d 0 = (s.get (.qs .nClsMiss) d 0 + 1) % Counter.size := by
  refine hostFrameRx_new hp hs hr hl ?_
  have hdrop : (s.goodFrame d p f).flag (.qs .missDrop) d p = true := by
    rw [State.flag, State.goodFrame_kept rfl (by decide)]; exact hmd
  have hcls : (s.goodFrame d p f).classify d p f = (((s.goodFrame d p f).incIf ((s.goodFrame d p f).tagBad d p f)
      (.qs .nClsTagBad) d 0).inc (.qs .nClsMiss) d 0, none) := by
    simp [State.classify, State.goodFrame_match, hm, hdrop]
  have hmiss : (s.goodFrame d p f).get (.qs .nClsMiss) d 0 = s.get (.qs .nClsMiss) d 0 :=
    State.goodFrame_kept rfl (by decide) ..
  rw [if_pos hv, State.newFrame_good ht hf, hcls]
  simp only [State.newGone, hl, if_true, State.traceItem_none]
  refine ⟨?_, ?_⟩
  · rw [settle_staged]
    exact (Reach.part_eq (p := .staged) (State.inc_reach (State.incIf_reach Reach.refl (by intros; rfl)) (by intros; rfl))).trans State.goodFrame_staged
  · simp [hmiss, Counter.size]

-- The decision on a staged frame (R247, R252, R253).

/-- The queue counters, the pointers, the counters of the ports and all windows: what a write to a ring's words leaves. -/
abbrev storeKept : Cell → Bool
  | .qs _ | .hl _ | .win _ => true
  | _ => false

@[simp] theorem State.ringStore_kept {c : Cell} (h : storeKept c = true) (q w n e i : Nat) :
    (s.ringStore d q w n).get c e i = s.get c e i :=
  Reach.get_in (g := storeKept) (by apply State.ringStore_reach Reach.refl <;> intros <;> rfl) h ..

/-- What the followers of a ring's occupancy write. -/
abbrev followCells : Cell → Bool
  | .qs .brake | .qs .qXoff | .hl .pXoff | .sticky .qsBrakeOn | .live .qsBrakeOn => true
  | _ => false

theorem State.follow_kept {c : Cell} (h : followCells c = false) (q e i : Nat) :
    ((s.xoffFollow d q).brakeFollow d).get c e i = s.get c e i :=
  Reach.get_in (g := fun c => !followCells c)
    (by apply State.brakeFollow_reach (State.xoffFollow_reach Reach.refl _ _) <;> intros <;> rfl) (by simp [h]) ..

theorem State.occAdd_wr (q w : Nat) :
    (s.occAdd d q w).get (.qs .wr) d q = (s.get (.qs .wr) d q + w) % s.ringMod d q := by
  rw [State.occAdd, State.follow_kept rfl]
  simp

theorem State.occAdd_kept {c : Cell} (h : followCells c = false) (hw : c ≠ .qs .wr) (ho : c ≠ .qs .occWords)
    (hd : c ≠ .qs .dieOcc) (q w e i : Nat) : (s.occAdd d q w).get c e i = s.get c e i := by
  rw [State.occAdd, State.follow_kept h]
  simp [hw, ho, hd]

theorem State.ringMod_congr {q : Nat} (h : t.winWordAt .qsQ d q 0 = s.winWordAt .qsQ d q 0) : t.ringMod d q = s.ringMod d q := by
  simp [State.ringMod, State.ringLog2, h]

/-- Without policers a frame keeps its colour, and nothing is charged. -/
theorem State.police_off {q : Nat} (hq : s.polAlg d q = 0) (hc : s.polAlg d (4096 + s.qCtn d q) = 0) (colour n : Nat) :
    s.police d q colour n = (s, colour, 0, 0) := by
  simp [State.police, State.polAsk, hq, hc, State.incIf]

/-- The decision on a whole frame without a tag, that no policer colours. -/
theorem State.takeIn_plain (htag : g.tag = none) (hq : s.polAlg g.die g.queue = 0)
    (hc : s.polAlg g.die (4096 + s.qCtn g.die g.queue) = 0) (hgap : s.get (.qs .gapPend) g.die g.queue = 0) :
    s.takeIn g false =
      if g.colour = 2 then (s.unstage g).inc (.qs .nQDropRed) g.die g.queue
      else if g.colour = 1 ∧ s.yelLimit g.die g.queue ≠ 0 ∧ s.yelLimit g.die g.queue * 1024 ≤ s.occ g.die g.queue then
        (s.unstage g).inc (.qs .nQDropYel) g.die g.queue
      else if s.ringWords g.die g.queue < s.occ g.die g.queue + recWords g.len then
        (s.unstage g).dropFull g.die g.queue
      else (s.unstage g).enqueue g g.colour g.len false 0 0 := by
  have hp : (s.unstage g).police g.die g.queue g.colour g.len = (s.unstage g, g.colour, 0, 0) := by
    have halg : (s.unstage g).polAlg = s.polAlg := rfl
    have hctn : (s.unstage g).qCtn = s.qCtn := rfl
    exact State.police_off (by rw [halg]; exact hq) (by rw [halg, hctn]; exact hc) ..
  simp only [State.takeIn, Bool.false_eq_true, if_false, hp, htag, State.traceItem_none, State.lostFrame, hgap, if_true,
    Nat.add_zero]

/-- A frame that enters its ring moves the write pointer and counts. -/
theorem State.enqueue_counts (htag : g.tag = none) (hgap : s.get (.qs .gapPend) g.die g.queue = 0) (colour n cq cc : Nat) :
    (s.enqueue g colour n false cq cc).get (.qs .wr) g.die g.queue =
        (s.get (.qs .wr) g.die g.queue + recWords n) % s.ringMod g.die g.queue ∧
      (s.enqueue g colour n false cq cc).get (.qs .nQEnqPkts) g.die g.queue =
        (s.get (.qs .nQEnqPkts) g.die g.queue + 1) % 2 ^ 64 ∧
      (s.enqueue g colour n false cq cc).get (.qs .nQEnqBytes) g.die g.queue =
        (s.get (.qs .nQEnqBytes) g.die g.queue + n) % 2 ^ 64 := by
  have hwake : ∀ {c : Cell}, c ≠ .qs .tagS → c ≠ .qs .passed → ∀ e i,
      (s.wakeQueue g.die g.queue).get c e i = s.get c e i := fun {c} hs hp e i => by
    unfold State.wakeQueue
    split
    · simp [hs, hp]
    · rfl
  have hrec : (s.wakeQueue g.die g.queue).gapRecord g.die g.queue = s.wakeQueue g.die g.queue := by
    simp [State.gapRecord, hwake, hgap]
  have hput : ∀ {c : Cell}, storeKept c = true → followCells c = false → c ≠ .qs .wr → c ≠ .qs .occWords → c ≠ .qs .dieOcc →
      ∀ (u : State) (x : RingRec) e i, (u.ringPut x).get c e i = u.get c e i := fun {c} h1 h2 h3 h4 h5 u x e i => by
    rw [State.ringPut, State.occAdd_kept h2 h3 h4 h5, State.ringStore_kept h1]
    rfl
  have hwr : ∀ (u : State) (x : RingRec), (u.ringPut x).get (.qs .wr) x.die x.queue =
      (u.get (.qs .wr) x.die x.queue + x.words) % u.ringMod x.die x.queue := fun u x => by
    rw [State.ringPut, State.occAdd_wr, State.ringStore_kept rfl, State.ringMod_congr (State.ringStore_kept rfl ..)]
    rfl
  have hmod : (s.wakeQueue g.die g.queue).ringMod g.die g.queue = s.ringMod g.die g.queue :=
    State.ringMod_congr (hwake (by decide) (by decide) ..)
  unfold State.enqueue
  dsimp only
  rw [hrec, htag]
  refine ⟨?_, ?_, ?_⟩
  · simp [State.incIf, hwr, hwake, hmod]
  · simp [State.incIf, hput, hwake]
  · simp [State.incIf, hput, hwake]

/-- What a decided frame leaves of staging. -/
theorem State.unstage_stagedAt : (s.unstage g).stagedAt g.die g.id = none := by
  simp only [State.unstage, State.stagedAt, List.find?_eq_none, List.mem_filter]
  rintro x ⟨-, hx⟩ hy
  simp_all

theorem State.stagedAt_congr (h : t.staged = s.staged) (id : Nat) : t.stagedAt d id = s.stagedAt d id := by
  rw [State.stagedAt, h]; rfl

/-- The decision point and the release of a whole frame decide on it. -/
theorem frameDecisionPoint_takes {P : State → Prop} (hu : s.up g.die = true) (hs : s.stagedAt g.die g.id = some g)
    (hw : g.whole = true) (hg : g.gone = false) (hb : s.ctBusy g.die g.queue = false) (hP : P (settle s (s.takeIn g false))) :
    Completes (.frameDecisionPoint g.die g.id) s P :=
  completes_of (exec_frameDecisionPoint _) hu (by simpa [hs, State.atDecision, hb, hw, hg] using hP)

theorem stagedFrameRelease_takes {P : State → Prop} (hu : s.up g.die = true) (hs : s.stagedAt g.die g.id = some g)
    (hw : g.whole = true) (hg : g.gone = false) (hb : s.ctBusy g.die g.queue = false) (hP : P (settle s (s.takeIn g false))) :
    Completes (.stagedFrameRelease g.die g.id) s P :=
  completes_of (exec_stagedFrameRelease _) hu (by simpa [hs, hb, hw, hg] using hP)

section
variable (htag : g.tag = none) (hq : s.polAlg g.die g.queue = 0) (hc : s.polAlg g.die (4096 + s.qCtn g.die g.queue) = 0)
  (hgap : s.get (.qs .gapPend) g.die g.queue = 0)
include htag hq hc hgap

theorem takeIn_fits (hcol : g.colour = 0) (hfit : s.occ g.die g.queue + recWords g.len ≤ s.ringWords g.die g.queue) :
    (settle s (s.takeIn g false)).stagedAt g.die g.id = none ∧
      (settle s (s.takeIn g false)).get (.qs .wr) g.die g.queue =
        (s.get (.qs .wr) g.die g.queue + recWords g.len) % s.ringMod g.die g.queue ∧
      (settle s (s.takeIn g false)).get (.qs .nQEnqPkts) g.die g.queue =
        (s.get (.qs .nQEnqPkts) g.die g.queue + 1) % Counter.size ∧
      (settle s (s.takeIn g false)).get (.qs .nQEnqBytes) g.die g.queue =
        (s.get (.qs .nQEnqBytes) g.die g.queue + g.len) % Counter.size := by
  rw [State.takeIn_plain htag hq hc hgap, if_neg (by simp [hcol]), if_neg (by simp [hcol]), if_neg (by omega)]
  have hst : ((s.unstage g).enqueue g g.colour g.len false 0 0).staged = (s.unstage g).staged :=
    Reach.part_eq (p := .staged) (by apply State.enqueue_reach Reach.refl <;> intros <;> rfl)
  obtain ⟨hwr, hpk, hby⟩ := State.enqueue_counts (s := s.unstage g) htag hgap g.colour g.len 0 0
  refine ⟨?_, ?_, ?_, ?_⟩
  · rw [State.stagedAt_congr (settle_staged ..), State.stagedAt_congr hst, State.unstage_stagedAt]
  · exact (get_settle_of rfl ..).trans hwr
  · exact (get_settle_of rfl ..).trans hpk
  · exact (get_settle_of rfl ..).trans hby

theorem takeIn_full (hcol : g.colour = 0) (hfull : s.ringWords g.die g.queue < s.occ g.die g.queue + recWords g.len) :
    (settle s (s.takeIn g false)).stagedAt g.die g.id = none ∧ (settle s (s.takeIn g false)).rings = s.rings ∧
      (settle s (s.takeIn g false)).flag (.sticky .qsQFullDrop) g.die 0 = true ∧
      (settle s (s.takeIn g false)).get (.qs .gapPend) g.die g.queue = 1 ∧
      (settle s (s.takeIn g false)).get (.qs .nQDropFull) g.die g.queue =
        (s.get (.qs .nQDropFull) g.die g.queue + 1) % Counter.size := by
  rw [State.takeIn_plain htag hq hc hgap, if_neg (by simp [hcol]), if_neg (by simp [hcol]), if_pos hfull]
  have hst : ((s.unstage g).dropFull g.die g.queue).staged = (s.unstage g).staged :=
    Reach.part_eq (p := .staged) (by apply State.dropFull_reach Reach.refl <;> intros <;> rfl)
  have hri : ((s.unstage g).dropFull g.die g.queue).rings = s.rings :=
    (Reach.part_eq (p := .rings) (by apply State.dropFull_reach Reach.refl <;> intros <;> rfl)).trans
      (rfl : (s.unstage g).rings = s.rings)
  have hkept : ∀ c e i, (s.unstage g).get c e i = s.get c e i := fun _ _ _ => rfl
  refine ⟨?_, by rw [settle_rings, hri], ?_, ?_, ?_⟩
  · rw [State.stagedAt_congr (settle_staged ..), State.stagedAt_congr hst, State.unstage_stagedAt]
  all_goals simp [State.dropFull, hkept, hgap, Counter.size]

theorem takeIn_red (hcol : g.colour = 2) :
    (settle s (s.takeIn g false)).stagedAt g.die g.id = none ∧ (settle s (s.takeIn g false)).rings = s.rings ∧
      (settle s (s.takeIn g false)).get (.qs .nQDropRed) g.die g.queue =
        (s.get (.qs .nQDropRed) g.die g.queue + 1) % Counter.size := by
  rw [State.takeIn_plain htag hq hc hgap, if_pos hcol]
  have hkept : ∀ c e i, (s.unstage g).get c e i = s.get c e i := fun _ _ _ => rfl
  refine ⟨?_, by rw [settle_rings]; rfl, ?_⟩
  · rw [State.stagedAt_congr (settle_staged ..)]
    exact (State.stagedAt_congr (s := s.unstage g) rfl g.id).trans State.unstage_stagedAt
  · simp [hkept, Counter.size]

end

-- Cut-through frames that fail (R255).

theorem ctFrameFail_takes {P : State → Prop} {long : Bool} (hu : s.up r.die = true) (hr : s.ctRecord r.die r.id = some r)
    (hP : P (settle s (s.ctFail r.die r.port r long))) : Completes (.ctFrameFail r.die r.id long) s P :=
  completes_of (exec_ctFrameFail _ _) hu (by simpa [hr] using hP)

/-- What dropping a record leaves. -/
abbrev dropKept : Cell → Bool
  | .qs .nQVoid | .qs .nQDeqPkts | .qs .nQDeqBytes | .hl .nCtAbort | .hl .nRxFcsErr | .hl .nRxSizeErr | .sticky .hlpCtAbort => true
  | _ => false

@[simp] theorem State.ringDrop_kept {c : Cell} (h : dropKept c = true) (q id e i : Nat) (gap : Bool) :
    (s.ringDrop d q id gap).get c e i = s.get c e i :=
  Reach.get_in (g := dropKept) (by apply State.ringDrop_reach Reach.refl <;> intros <;> rfl) h ..

theorem ctFrameFail_sent {long : Bool} (hu : s.up r.die = true) (hr : s.ctRecord r.die r.id = some r) (hs : r.sent = true) :
    Completes (.ctFrameFail r.die r.id long) s fun t => t.flag (.sticky .hlpCtAbort) r.die r.port = true ∧
      t.get (.hl .nCtAbort) r.die r.port = (s.get (.hl .nCtAbort) r.die r.port + 1) % Counter.size ∧
      t.get (.hl .nRxFcsErr) r.die r.port = (s.get (.hl .nRxFcsErr) r.die r.port + 1) % Counter.size := by
  have hflag : ∀ u : State, (u.ringDrop r.die r.queue r.id false).flag (.sticky .hlpCtAbort) r.die r.port =
      u.flag (.sticky .hlpCtAbort) r.die r.port := fun u => by rw [State.flag, State.ringDrop_kept rfl]; rfl
  refine ctFrameFail_takes hu hr ?_
  rw [State.ctFail, if_pos hs]
  exact ⟨by simp [hflag], by simp [Counter.size], by simp [Counter.size]⟩

theorem ctFrameFail_unsent {long : Bool} (hu : s.up r.die = true) (hr : s.ctRecord r.die r.id = some r)
    (hs : r.sent = false) : Completes (.ctFrameFail r.die r.id long) s fun t =>
      t.get (.qs .nQVoid) r.die r.queue = (s.get (.qs .nQVoid) r.die r.queue + 1) % Counter.size ∧
      (if long then t.get (.hl .nRxSizeErr) r.die r.port = (s.get (.hl .nRxSizeErr) r.die r.port + 1) % Counter.size
        else t.get (.hl .nRxFcsErr) r.die r.port = (s.get (.hl .nRxFcsErr) r.die r.port + 1) % Counter.size) := by
  have hedit : ∀ (u : State) (f : RingRec → RingRec) c e i, (u.ringEdit r.die r.id f).get c e i = u.get c e i :=
    fun _ _ _ _ _ => rfl
  refine ctFrameFail_takes hu hr ?_
  rw [State.ctFail, if_neg (by simp [hs])]
  cases long
  · simp [hedit, Counter.size]
  · simp [hedit, Counter.size]

/-- Settles O33: a new frame is counted by its verdict and staged by its classification; a staged frame that no policer
touches is taken in, or dropped for lack of space or for its colour; a failing cut-through frame is ended or made void. -/
theorem hostFrames : Obligations.HostFrames := by
  unfold Obligations.HostFrames
  intro s d p q fm f g r long
  refine ⟨fun hp hs hr hl => ⟨hostFrameRx_size hp hs hr hl, hostFrameRx_fcs hp hs hr hl, hostFrameRx_control hp hs hr hl,
      fun hv ht hf => ⟨hostFrameRx_staged hp hs hr hl hv ht hf, hostFrameRx_missed hp hs hr hl hv ht hf⟩⟩,
    fun hu hs hw hg htag hb hq hc hgap => ⟨fun hcol hfit => ?_, fun hcol hfull => ?_, fun hcol => ?_⟩,
    fun hu hr => ⟨ctFrameFail_sent hu hr, ctFrameFail_unsent hu hr⟩⟩
  · have h := takeIn_fits htag hq hc hgap hcol hfit
    exact ⟨frameDecisionPoint_takes hu hs hw hg hb h, stagedFrameRelease_takes hu hs hw hg hb ⟨h.1, h.2.2.1⟩⟩
  · exact frameDecisionPoint_takes hu hs hw hg hb (takeIn_full htag hq hc hgap hcol hfull)
  · exact frameDecisionPoint_takes hu hs hw hg hb (takeIn_red htag hq hc hgap hcol)

end Sys2Proof.Machine
end

section
/-!
The classification table, the ends of drains, the scheduler's choice, the commits of the QS_ windows and the gate list
(R242, R253, R259 to R266, R268).
-/
set_option Elab.async false
namespace Sys2Proof.Machine

variable {s t : State} {d i q w w0 w1 x : Nat} {r : RingRec} {rest : List RingRec}

theorem exec_qsClsInsert : exec (.qsClsInsert d w0 w1) s = execQsClsInsert d w0 w1 s := rfl
theorem exec_qsClsDelete : exec (.qsClsDelete d w0 w1) s = execQsClsDelete d w0 w1 s := rfl
theorem exec_qsClsLookup : exec (.qsClsLookup d w0 w1) s = execQsClsLookup d w0 w1 s := rfl
theorem exec_drainEnd {b : Bool} : exec (.drainEnd d b q) s = execDrainEnd d b q s := rfl
theorem exec_schedulerSelect : exec (.schedulerSelect d i) s = execSchedulerSelect d i s := rfl
theorem exec_qsWindowCommit : exec (.qsWindowCommit d w) s = execQsWindowCommit d w s := rfl
theorem exec_qsCommitApply : exec (.qsCommitApply d w) s = execQsCommitApply d w s := rfl
theorem exec_gateCommit : exec (.gateCommit d) s = execGateCommit d s := rfl
theorem exec_gateListStart : exec (.gateListStart d) s = execGateListStart d s := rfl

/-- A field of a word reads what was put there. -/
theorem bits_putBits (a lo n v : Nat) : bits (putBits a lo n v) lo n = v % 2 ^ n := by
  have hlow : v % 2 ^ n * 2 ^ lo + a % 2 ^ lo = 2 ^ lo * (v % 2 ^ n) + a % 2 ^ lo := by rw [Nat.mul_comm]
  have hval : putBits a lo n v = 2 ^ lo * (2 ^ n * (a / 2 ^ (lo + n)) + v % 2 ^ n) + a % 2 ^ lo := by
    rw [putBits, Nat.add_assoc, hlow, Nat.mul_add, ← Nat.mul_assoc, ← Nat.pow_add, Nat.mul_comm (2 ^ (lo + n)), Nat.add_assoc]
  rw [bits, hval, Nat.mul_add_div (Nat.two_pow_pos lo), Nat.div_eq_of_lt (Nat.mod_lt _ (Nat.two_pow_pos lo)), Nat.add_zero,
    Nat.mul_add_mod, Nat.mod_mod]

/-- A bit of a word reads what was put there. -/
theorem bit_putBit (a k : Nat) (b : Bool) : bit (putBit a k b) k = b := by
  have h := bits_putBits a k 1 b.toNat
  rw [bits, Nat.pow_one] at h
  rw [bit, putBit, h]
  cases b <;> rfl

-- The classification table (R242).

@[simp] theorem State.clsWords_clsTab (op : Nat) : (s.clsWords d op w0 w1).clsTab = s.clsTab := rfl

theorem State.clsDone_result (n : Nat) : (s.clsDone d n).get (.qs .clsResult) d 0 = n ∧
    (s.clsDone d n).get (.qs .clsUsed) d 0 = s.clsUsed d ∧ (s.clsDone d n).clsTab = s.clsTab := by
  refine ⟨by simp [State.clsDone], by simp [State.clsDone, State.clsUsed], rfl⟩

theorem State.clsInsertResult_congr (e : ClsEntry) (h : t.clsTab = s.clsTab)
    (hf : t.get (.sys .freeCount) 0 0 = s.get (.sys .freeCount) 0 0) : t.clsInsertResult e = s.clsInsertResult e := by
  have hr : t.clsRoom e.die = s.clsRoom e.die := by rw [State.clsRoom, State.clsUsed, State.free, h, hf]; rfl
  rw [State.clsInsertResult, h, hr]
  rfl

theorem qsClsInsert_outcome (hu : s.up d = true) : Completes (.qsClsInsert d w0 w1) s fun t =>
    t.get (.qs .clsResult) d 0 = s.clsInsertResult (clsEntry d w0 w1) ∧
      t.clsTab = (if s.clsInsertResult (clsEntry d w0 w1) = 0 then s.clsTab ++ [clsEntry d w0 w1] else s.clsTab) ∧
      t.get (.qs .clsUsed) d 0 = t.clsUsed d := by
  refine completes_of exec_qsClsInsert hu ?_
  have hres : (s.clsWords d 0 w0 w1).clsInsertResult (clsEntry d w0 w1) = s.clsInsertResult (clsEntry d w0 w1) :=
    State.clsInsertResult_congr _ rfl (by simp [State.clsWords, State.setWin])
  simp only [State.clsInsert, hres, State.clsWords_clsTab]
  generalize s.clsInsertResult (clsEntry d w0 w1) = n
  set u := State.when _ _ _ with hu'
  have htab : u.clsTab = if n = 0 then s.clsTab ++ [clsEntry d w0 w1] else s.clsTab := by
    have hw : u.clsTab = (if n = 0 then { s.clsWords d 0 w0 w1 with clsTab := s.clsTab ++ [clsEntry d w0 w1] }
        else s.clsWords d 0 w0 w1).clsTab := by
      rw [hu']
      exact Reach.part_eq (p := .clsTab) (by
        apply State.when_reach (State.used_reach Reach.refl fun _ => rfl)
        intro x hx
        exact State.event_reach (State.inc_reach hx fun _ => rfl) (fun _ => rfl) rfl)
    rw [hw]
    split <;> rfl
  obtain ⟨hr, hused, ht⟩ := State.clsDone_result (s := u) (d := d) n
  refine ⟨(get_settle_of rfl ..).trans hr, by rw [settle_clsTab, ht, htab], ?_⟩
  rw [State.clsUsed, settle_clsTab, ht]
  exact (get_settle_of rfl ..).trans hused

theorem qsClsDelete_result (hu : s.up d = true) {n : Nat} {tab : List ClsEntry}
    (h : (s.clsWords d 1 w0 w1).clsDelete d w0 w1 = State.clsDone { s.clsWords d 1 w0 w1 with clsTab := tab } d n) :
    Completes (.qsClsDelete d w0 w1) s fun t => t.get (.qs .clsResult) d 0 = n ∧ t.clsTab = tab := by
  refine completes_of exec_qsClsDelete hu ?_
  obtain ⟨hr, -, ht⟩ := State.clsDone_result (s := { s.clsWords d 1 w0 w1 with clsTab := tab }) (d := d) n
  rw [h]
  exact ⟨(get_settle_of rfl ..).trans hr, by rw [settle_clsTab, ht]⟩

theorem qsClsLookup_fails (hu : s.up d = true) {n : Nat}
    (h : (s.clsWords d 2 w0 w1).clsFind d w0 w1 = (s.clsWords d 2 w0 w1).clsDone d n) :
    Completes (.qsClsLookup d w0 w1) s fun t => t.get (.qs .clsResult) d 0 = n ∧ t.clsTab = s.clsTab := by
  refine completes_of exec_qsClsLookup hu ?_
  obtain ⟨hr, -, ht⟩ := State.clsDone_result (s := s.clsWords d 2 w0 w1) (d := d) n
  rw [h]
  exact ⟨(get_settle_of rfl ..).trans hr, by rw [settle_clsTab, ht]; rfl⟩

theorem cls_malformed (hu : s.up d = true) (hm : (clsEntry d w0 w1).malformed = true) :
    (Completes (.qsClsDelete d w0 w1) s fun t => t.get (.qs .clsResult) d 0 = 4 ∧ t.clsTab = s.clsTab) ∧
      (Completes (.qsClsLookup d w0 w1) s fun t => t.get (.qs .clsResult) d 0 = 4 ∧ t.clsTab = s.clsTab) :=
  ⟨qsClsDelete_result hu (by rw [State.clsDelete]; rw [if_pos hm]; rfl),
    qsClsLookup_fails hu (by rw [State.clsFind]; rw [if_pos hm])⟩

theorem cls_missing (hu : s.up d = true) (hm : (clsEntry d w0 w1).malformed = false)
    (hn : (s.clsTab.any fun e => e.sameKey (clsEntry d w0 w1)) = false) :
    (Completes (.qsClsDelete d w0 w1) s fun t => t.get (.qs .clsResult) d 0 = 2 ∧ t.clsTab = s.clsTab) ∧
      (Completes (.qsClsLookup d w0 w1) s fun t => t.get (.qs .clsResult) d 0 = 2 ∧ t.clsTab = s.clsTab) := by
  have hf : s.clsTab.find? (fun e => e.sameKey (clsEntry d w0 w1)) = none := by
    rw [List.find?_eq_none]
    simpa using hn
  refine ⟨qsClsDelete_result hu ?_, qsClsLookup_fails hu ?_⟩
  · rw [State.clsDelete, if_neg (by simp [hm]), if_neg (by rw [State.clsWords_clsTab, hn]; decide)]
    rfl
  · rw [State.clsFind, if_neg (by simp [hm]), State.clsWords_clsTab, hf]

theorem qsClsDelete_found (hu : s.up d = true) (hm : (clsEntry d w0 w1).malformed = false)
    (hn : (s.clsTab.any fun e => e.sameKey (clsEntry d w0 w1)) = true) :
    Completes (.qsClsDelete d w0 w1) s fun t => t.get (.qs .clsResult) d 0 = 0 ∧
      t.clsTab = s.clsTab.filter fun e => !e.sameKey (clsEntry d w0 w1) := by
  refine qsClsDelete_result hu ?_
  rw [State.clsDelete, if_neg (by simp [hm]), if_pos (by rw [State.clsWords_clsTab]; exact hn)]
  rfl

theorem qsClsLookup_found (hu : s.up d = true) (hm : (clsEntry d w0 w1).malformed = false)
    (hn : (s.clsTab.any fun e => e.sameKey (clsEntry d w0 w1)) = true) :
    Completes (.qsClsLookup d w0 w1) s fun t => t.get (.qs .clsResult) d 0 = 0 ∧ t.clsTab = s.clsTab ∧
      bits (t.winWordAt .qsCls d 0 1) 0 11 =
        ((s.clsTab.find? fun e => e.sameKey (clsEntry d w0 w1)).map fun e => e.queue % 2048).getD 0 := by
  obtain ⟨e, he⟩ : ∃ e, s.clsTab.find? (fun e => e.sameKey (clsEntry d w0 w1)) = some e :=
    Option.isSome_iff_exists.mp (by rw [List.find?_isSome]; simpa using hn)
  refine completes_of exec_qsClsLookup hu ?_
  rw [State.clsFind, if_neg (by simp [hm]), State.clsWords_clsTab, he]
  set u := (s.clsWords d 2 w0 w1).setWin .qsCls d 0 1 (putBits w1 0 11 e.queue) with hu'
  have hw : (settle s (u.clsDone d 0)).winWordAt .qsCls d 0 1 = putBits w1 0 11 e.queue := by
    rw [State.winWordAt, get_settle_of rfl]
    simp [hu', State.clsDone, State.setWin]
  obtain ⟨hr, -, ht⟩ := State.clsDone_result (s := u) (d := d) 0
  refine ⟨(get_settle_of rfl ..).trans hr, by rw [settle_clsTab, ht]; rfl, ?_⟩
  rw [hw, bits_putBits]
  rfl

-- Drains (R268).

@[simp] theorem State.occSub_rings (n : Nat) : (s.occSub d q n).rings = s.rings :=
  Reach.part_eq (p := .rings) (by apply State.occSub_reach Reach.refl <;> intros <;> rfl)

/-- A flushed queue holds no record, and the other queues keep theirs. -/
theorem State.queueFlush_rings :
    (s.queueFlush d q).rings = s.rings.filter (fun r => decide (r.die ≠ d) || decide (r.queue ≠ q)) := by
  have hlost : ∀ (u : State) (l : List RingRec),
      (u.each l fun s r => s.traceItem d r.tag trcDropped (locContainer d (s.qCtn d q)) 9).rings = u.rings := fun u l =>
    Reach.part_eq (p := .rings) (by
      apply State.each_reach Reach.refl
      intro x r hx
      apply State.traceItem_reach hx <;> intros <;> rfl)
  have hsay : ∀ (u : State) (i n : Nat), ((u.add (.qs .nCDrainDisc) d i n).event .qsDrainDisc d 0).rings = u.rings :=
    fun u i n => Reach.part_eq (p := .rings) (State.event_reach (State.add_reach Reach.refl fun _ => rfl) (fun _ => rfl) rfl)
  unfold State.queueFlush
  dsimp only
  split
  · rw [hlost, State.set_rings, State.occSub_rings]
  · rw [hsay, hlost, State.set_rings, State.occSub_rings]

theorem State.queueFlush_says (hr : s.ring d q ≠ []) : (s.queueFlush d q).flag (.sticky .qsDrainDisc) d 0 = true := by
  unfold State.queueFlush
  dsimp only
  rw [if_neg hr]
  exact State.flag_event_sticky ..

theorem drainEnd_queue (hu : s.up d = true) (hd : s.flag (.qs .qDrain) d q = true) :
    Completes (.drainEnd d false q) s fun t => t.get (.qs .qDrain) d q = 0 ∧ t.qEn d q = false ∧ t.ring d q = [] ∧
      (s.ring d q ≠ [] → t.flag (.sticky .qsDrainDisc) d 0 = true) := by
  refine completes_of exec_drainEnd (by simp [hu, hd]) ?_
  rw [if_neg (by decide), State.queueEnd, State.setWin]
  refine ⟨by simp, ?_, ?_, fun hr => ?_⟩
  · rw [State.qEn, State.winWordAt, get_settle_of rfl]
    simp [bit_putBit]
  · rw [State.ring, settle_rings, State.set_rings, State.set_rings, State.queueFlush_rings, List.filter_filter,
      List.filter_eq_nil_iff]
    intro r _
    simp only [Bool.and_eq_true, Bool.or_eq_true, decide_eq_true_eq]
    tauto
  · rw [flag_settle_of rfl]
    simpa using State.queueFlush_says hr

theorem drainEnd_container (hu : s.up d = true) (hd : s.flag (.qs .cDrain) d q = true) :
    Completes (.drainEnd d true q) s fun t => t.get (.qs .cDrain) d q = 0 := by
  refine completes_of exec_drainEnd (by simp [hu, hd]) ?_
  have hslots : ∀ u : State, (u.freeSlots (512 * d + q)).get (.qs .cDrain) d q = u.get (.qs .cDrain) d q := fun u =>
    Reach.get_eq (State.freeSlots_reach Reach.refl (fun _ _ => rfl) (fun _ _ => rfl) fun _ _ => rfl) _ _
  rw [if_pos rfl, State.ctnDrainEnd, get_settle_of rfl, hslots]
  simp

-- The scheduler (R253, R259 to R262, R265).

@[simp] theorem State.shpFill_rings : (s.shpFill d i).rings = s.rings := rfl
@[simp] theorem State.shpFill_ring : (s.shpFill d i).ring d q = s.ring d q := rfl

/-- Filling the shaper's buckets writes only their own cells. -/
abbrev shpCells : Cell → Bool
  | .qs .shpAt | .qs .shpE | .qs .shpC => true
  | _ => false

@[simp] theorem State.shpFill_kept {c : Cell} (h : shpCells c = false) (e k : Nat) : (s.shpFill d i).get c e k = s.get c e k :=
  Reach.get_in (g := fun c => !shpCells c)
    (by apply State.shpFill_reach Reach.refl <;> intros <;> rfl) (by simp [h]) ..

theorem State.shpFill_ctnQueues : (s.shpFill d i).ctnQueues d i = s.ctnQueues d i := by
  have hq : (s.shpFill d i).queuesOf d = s.queuesOf d := by
    unfold State.queuesOf State.shpFill
    dsimp only
    rw [State.listed_set (by decide), State.listed_set (by decide), State.listed_set (by decide)]
  have hw : ∀ q k, (s.shpFill d i).winWordAt .qsQ d q k = s.winWordAt .qsQ d q k := fun q k => State.shpFill_kept rfl ..
  unfold State.ctnQueues State.qEn State.qCtn State.qPos
  simp only [hq, hw]

/-- Nothing is discarded at the head of an empty queue. -/
theorem State.gatePurge_empty (h : s.ring d q = []) (n : Nat) : s.gatePurge d i q n = s := by
  cases n with
  | zero => rfl
  | succ n => simp [State.gatePurge, State.skipVoid, State.headOf, State.each, h]

/-- Without gates nothing is discarded at a head that is not void. -/
theorem State.gatePurge_open (h : s.ring d q = r :: rest) (hv : r.void = false) (hg : s.gatesOn d = false) (n : Nat) :
    s.gatePurge d i q n = s := by
  cases n with
  | zero => rfl
  | succ n => simp [State.gatePurge, State.skipVoid, State.headOf, State.each, h, hv, State.gateNever, hg]

theorem State.noteHold_empty (h : s.ring d q = []) : s.noteHold d i q = s := by
  simp [State.noteHold, State.headOf, h]

theorem State.noteHold_open (h : s.ring d q = r :: rest) (hg : s.gatesOn d = false) : s.noteHold d i q = s := by
  simp [State.noteHold, State.headOf, h, State.gateFits, hg]

theorem State.each_one {α : Type} (f : State → α → State) (a : α) : s.each [a] f = f s a := rfl

theorem schedulerSelect_gap (hu : s.up d = true) (hc : s.canSchedule d i = true) (hl : s.ctnQueues d i = [q])
    (hr : s.ring d q = []) (hp : s.get (.qs .gapPend) d q ≠ 0) : Completes (.schedulerSelect d i) s fun t =>
      t.get (.qs .gapPend) d q = 0 ∧ t.get (.ct .gapTx) d i = (s.get (.ct .gapTx) d i + 1) % 65536 ∧
        t.get (.qs .nCGapTx) d i = (s.get (.qs .nCGapTx) d i + 1) % Counter.size := by
  refine completes_of exec_schedulerSelect (by simp [hu, hc]) ?_
  have hr' : (s.shpFill d i).ring d q = [] := hr
  have hgap : (s.shpFill d i).pendingGap d i = some q := by
    simp [State.pendingGap, State.shpFill_ctnQueues, hl, hr, hp]
  simp only [hl, State.each_one, State.gatePurge_empty hr', State.noteHold_empty hr', hgap]
  simp [State.sendGap, Counter.size]

/-- The first element of a list that answers a test: the first of the part of the list that contains all that do. -/
theorem takeFirst_filter {α : Type} {p f : α → Bool} (hpf : ∀ x, p x = true → f x = true) :
    ∀ {l : List α} {a : α} {m : List α}, l.filter f = a :: m → p a = true →
      ∃ l', takeFirst p l = some (a, l') ∧ l'.filter f = m := by
  intro l
  induction l with
  | nil => intro a m h; simp at h
  | cons x l ih =>
    intro a m h ha
    by_cases hf : f x = true
    · obtain ⟨rfl, rfl⟩ : x = a ∧ l.filter f = m := by simpa [List.filter_cons, hf] using h
      exact ⟨l, by simp [takeFirst, ha], rfl⟩
    · have hx : p x = false := by simpa using mt (hpf x) hf
      obtain ⟨l', hl, hm⟩ := ih (by simpa [List.filter_cons, hf] using h) ha
      exact ⟨x :: l', by simp [takeFirst, hx, hl], by simpa [List.filter_cons, hf] using hm⟩

/-- The head of a queue is dropped: the rest remains. -/
theorem State.ringDrop_head (h : s.ring d q = r :: rest) : (s.ringDrop d q r.id r.gap).ring d q = rest := by
  have hr : r.die = d ∧ r.queue = q := by
    have : r ∈ s.ring d q := by simp [h]
    simpa [State.ring] using (List.mem_filter.mp this).2
  obtain ⟨l, hl, hm⟩ := takeFirst_filter (p := fun x : RingRec => decide (x.die = d) && decide (x.queue = q) &&
    decide (x.id = r.id) && decide (x.gap = r.gap)) (by simp +contextual) h (by simp [hr])
  rw [State.ringDrop, hl]
  dsimp only
  rw [State.ring, State.occSub_rings, hm]

/-- A frame is sent whole from the head of its queue, without a shaper. -/
theorem State.sendFrame_whole (h : s.ring d q = r :: rest) (hg : r.gap = false) (hf : r.fin = true) (ht : r.tag = none)
    (hm : r.ptp = none) (hs : s.shpEn d i = false) : (s.sendFrame d i q r).ring d q = rest ∧
      (s.sendFrame d i q r).get (.qs .nQDeqPkts) d q = (s.get (.qs .nQDeqPkts) d q + 1) % 2 ^ 64 ∧
      (s.sendFrame d i q r).get (.qs .nQDeqBytes) d q = (s.get (.qs .nQDeqBytes) d q + r.len) % 2 ^ 64 := by
  have hask : s.shpAsk d i q = 0 := by simp [State.shpAsk, hs]
  simp only [State.sendFrame, hask, State.shpCharge, ht, State.traceItem_none, State.ptpNear, hm, hf, Bool.not_true,
    Bool.and_false, Bool.false_eq_true, if_false]
  refine ⟨?_, by simp, by simp⟩
  rw [← hg]
  refine State.ringDrop_head (r := r) ?_
  have hrings : ∀ (b : Bool) (f : State → State), (f s).rings = s.rings →
      (((s.when b f).inc (.qs .nQDeqPkts) d q).add (.qs .nQDeqBytes) d q r.len).rings = s.rings := fun b f hk => by
    cases b
    · rfl
    · exact hk
  rw [State.ring, hrings _ _ rfl]
  exact h

theorem schedulerSelect_frame (hu : s.up d = true) (hc : s.canSchedule d i = true) (hl : s.ctnQueues d i = [q])
    (hr : s.ring d q = r :: rest) (hv : r.void = false) (hg : r.gap = false) (hf : r.fin = true) (ht : r.tag = none)
    (hm : r.ptp = none) (hgates : s.gatesOn d = false) (hs : s.shpEn d i = false) :
    Completes (.schedulerSelect d i) s fun t => t.ring d q = rest ∧
      t.get (.qs .nQDeqPkts) d q = (s.get (.qs .nQDeqPkts) d q + 1) % Counter.size ∧
      t.get (.qs .nQDeqBytes) d q = (s.get (.qs .nQDeqBytes) d q + r.len) % Counter.size := by
  refine completes_of exec_schedulerSelect (by simp [hu, hc]) ?_
  have hr' : (s.shpFill d i).ring d q = r :: rest := hr
  have hgates' : (s.shpFill d i).gatesOn d = false := by
    simpa [State.gatesOn, State.flag] using hgates
  have hs' : (s.shpFill d i).shpEn d i = false := by
    rw [State.shpEn, State.winWordAt, State.shpFill_kept rfl]
    exact hs
  have hgap : (s.shpFill d i).pendingGap d i = none := by
    simp [State.pendingGap, State.shpFill_ctnQueues, hl, hr]
  have hel : (s.shpFill d i).eligible d i q = true := by
    simp [State.eligible, State.headOf, hr, State.gateFits, hgates', State.shpAsk, hs']
  have hpick : (s.shpFill d i).pick d i [q] = some q := by
    by_cases hsp : (s.shpFill d i).qSp d q = true <;> simp [State.pick, hsp]
  have hserve : (s.shpFill d i).serve d i q = (s.shpFill d i).sendFrame d i q r := by
    simp [State.serve, State.headOf, hr, hg]
  simp only [hl, State.each_one, State.gatePurge_open hr' hv hgates', State.noteHold_open hr' hgates', hgap, hel,
    Bool.true_or, if_true, List.filter_cons, List.filter_nil, hpick, hserve]
  obtain ⟨hring, hpk, hby⟩ := State.sendFrame_whole (i := i) hr' hg hf ht hm hs'
  refine ⟨?_, ?_, ?_⟩
  · rw [State.ring, settle_rings]
    exact hring
  · exact (get_settle_of rfl ..).trans (by simpa [Counter.size] using hpk)
  · exact (get_settle_of rfl ..).trans (by simpa [Counter.size] using hby)

-- The commits of the QS_ windows (R246, R248, R266).

theorem qsWindowCommit_passes (hu : s.up d = true) (hw : w < 6) (hc : s.qsCheck w d = true) :
    Completes (.qsWindowCommit d w) s fun t => t.winBusy (qsWin w) d = true :=
  completes_of exec_qsWindowCommit (by simp [hu, hw]) (by simp [State.qsCommit, hc, State.commitWin, State.winBusy])

theorem qsWindowCommit_fails (hu : s.up d = true) (hw : w < 6) (hc : s.qsCheck w d = false) :
    Completes (.qsWindowCommit d w) s fun t =>
      t = settle s (s.dropStaged (qsWin w) d) ∧ t.winBusy (qsWin w) d = s.winBusy (qsWin w) d := by
  refine completes_of exec_qsWindowCommit (by simp [hu, hw]) ?_
  rw [State.qsCommit, if_neg (by simp [hc])]
  refine ⟨rfl, ?_⟩
  rw [State.winBusy, flag_settle_of rfl]
  simp [State.dropStaged, State.flag, State.get_clear, State.winBusy]

/-- An applied window is not busy, whatever follows its change. -/
theorem State.qsApply_idle (w : Nat) : (s.qsApply d w).get (.sys .winBusy) d (qsWin w).ctorIdx = 0 := by
  have hset : (s.applyWin (qsWin w) d).get (.sys .winBusy) d (qsWin w).ctorIdx = 0 := by simp [State.applyWin]
  have hfollow : ∀ (u : State) (l : List Nat), (((u.each l fun s q => s.xoffFollow d q).brakeFollow d).get (.sys .winBusy) d
      (qsWin w).ctorIdx) = u.get (.sys .winBusy) d (qsWin w).ctorIdx := fun u l => Reach.get_eq (c := .sys .winBusy) (by
    apply State.brakeFollow_reach (State.each_reach Reach.refl fun x a hx => State.xoffFollow_reach hx _ _) <;> intros <;> rfl) _ _
  unfold State.qsApply
  dsimp only
  split
  · rw [hfollow, hset]
  · rw [State.get_each (by simp [State.polRefill]), hset]
  · rw [State.get_each (by simp [State.polRefill]), hset]
  · rw [State.get_each (by simp [State.shpRefill]), hset]
  · exact hset

theorem qsCommitApply_outcome (hu : s.up d = true) (hw : w < 6) (hb : s.winBusy (qsWin w) d = true) :
    Completes (.qsCommitApply d w) s fun t => t.winBusy (qsWin w) d = false ∧
      (w = 1 → x ∈ s.changing .qsQpol d → t.get (.qs .polC) d x = 0 ∧ t.get (.qs .polP) d x = 0) := by
  refine completes_of exec_qsCommitApply (by simp [hu, hw, hb]) ⟨?_, ?_⟩
  · rw [State.winBusy, flag_settle_of rfl, State.flag, State.qsApply_idle]
    rfl
  · rintro rfl hx
    have hc : ∀ v : QsCell, v = .polC ∨ v = .polP → (s.qsApply d 1).get (.qs v) d x = 0 := fun v hv =>
      State.get_each_mem hx (by rcases hv with rfl | rfl <;> simp [State.polRefill])
        (by rcases hv with rfl | rfl <;> simp +contextual [State.polRefill, eq_comm])
    exact ⟨(get_settle_of rfl ..).trans (hc _ (.inl rfl)), (get_settle_of rfl ..).trans (hc _ (.inr rfl))⟩

-- The gate list (R263, R264).

theorem gateCommit_takes (hu : s.up d = true) (hl : s.gateListOk d = true) : Completes (.gateCommit d) s fun t =>
    t.get (.qs .gatePending) d 0 = 1 ∧ t.get (.qs .gatePendLen) d 0 = s.get (.qs .adminLen) d 0 ∧
      t.get (.qs .gatePendAt) d 0 =
        gateStartAt (s.gateBase d) (s.get (.qs .gateCycle) d 0) (s.tbNow (s.get (.qs .gateTb) d 0)) ∧
      t.get (.qs .nGateCommit) d 0 = (s.get (.qs .nGateCommit) d 0 + 1) % Counter.size := by
  refine completes_of exec_gateCommit hu ?_
  rw [State.gateCommit, if_pos hl]
  have hcount : ∀ l : List Nat, (s.each l fun s e => (s.set (.qs .gatePend) d (2 * e) (s.winPlan .qsGate d e 0)).set
      (.qs .gatePend) d (2 * e + 1) (s.winPlan .qsGate d e 1)).get (.qs .nGateCommit) d 0 = s.get (.qs .nGateCommit) d 0 :=
    fun l => State.get_each (by simp)
  simp [hcount, Counter.size]

theorem gateCommit_refuses (hu : s.up d = true) (hl : s.gateListOk d = false) : Completes (.gateCommit d) s fun t =>
    t.get (.qs .gatePending) d 0 = s.get (.qs .gatePending) d 0 ∧
      t.get (.qs .nGateCommit) d 0 = s.get (.qs .nGateCommit) d 0 :=
  completes_of exec_gateCommit hu (by simp [State.gateCommit, hl])

theorem gateListStart_outcome (hu : s.up d = true) (hp : s.flag (.qs .gatePending) d 0 = true) :
    Completes (.gateListStart d) s fun t => t.get (.qs .gatePending) d 0 = 0 ∧ t.get (.qs .operValid) d 0 = 1 ∧
      t.get (.qs .operLen) d 0 = s.get (.qs .gatePendLen) d 0 ∧
      t.get (.qs .operCycle) d 0 = s.get (.qs .gatePendCycle) d 0 ∧
      t.get (.qs .gateStart) d 0 = s.get (.qs .gatePendAt) d 0 :=
  completes_of exec_gateListStart (by simp [hu, hp]) (by simp [State.gateStartNow])

/-- Settles O34: the operations of the classification table by the form of the entry and its key, the ends of drains, the
scheduler with one queue, and the commits.  That DRAIN_END clears Q_EN is the model's choice (log 22), and so is what a failing
commit leaves staged (log 30). -/
theorem classificationAndScheduling : Obligations.ClassificationAndScheduling := by
  unfold Obligations.ClassificationAndScheduling
  refine ⟨fun s d q w0 w1 hu => ⟨qsClsInsert_outcome hu, cls_malformed hu, cls_missing hu,
      fun hm hn => ⟨qsClsDelete_found hu hm hn, qsClsLookup_found hu hm hn⟩, drainEnd_queue hu, drainEnd_container hu⟩,
    fun s d i q w x r rest hu => ⟨schedulerSelect_gap hu, schedulerSelect_frame hu, qsWindowCommit_passes hu,
      qsWindowCommit_fails hu, qsCommitApply_outcome hu, gateCommit_takes hu, gateCommit_refuses hu,
      gateListStart_outcome hu⟩⟩

end Sys2Proof.Machine
end

section
/-!
Corrected and uncorrectable reads of a Pannier stack, write-backs, merge flushes and the scrub lap (R285 to R294).
-/
set_option Elab.async false
namespace Sys2Proof.Machine

variable {s t : State} {d g m ms : Nat}

theorem exec_panCorrectedRead {a b : Bool} : exec (.panCorrectedRead d g a b) s = execPanCorrectedRead d g a b s := rfl
theorem exec_panWriteBack {b : Bool} : exec (.panWriteBack d g b) s = execPanWriteBack d g b s := rfl
theorem exec_panUncorrectableRead {u : PanUse} :
    exec (.panUncorrectableRead d g u) s = execPanUncorrectableRead d g u s := rfl
theorem exec_mergeFlush {a b : Bool} : exec (.mergeFlush d g a b) s = execMergeFlush d g a b s := rfl
theorem exec_scrubLapEnd : exec (.scrubLapEnd d ms) s = execScrubLapEnd d ms s := rfl
theorem exec_trackerClearTimer : exec (.trackerClearTimer d) s = execTrackerClearTimer d s := rfl

/-- What a hard fault of a page writes beside its counter and its alarm. -/
abbrev faultCells : Cell → Bool
  | .pan .taken | .pan .given | .pan .sparesLeft | .pan .nRetireDrop | .pan .retirePend | .sticky .panSpareEmpty
  | .live .panSpareEmpty | .sticky .panSpareLow | .live .panSpareLow | .sticky .panRetireDrop | .sticky .panMigUrgent
  | .live .panMigUrgent => true
  | _ => false

@[simp] theorem State.faultPage_kept {c : Cell} (h : faultCells c = false) (cause e i : Nat) :
    (s.faultPage d g cause).get c e i = s.get c e i :=
  Reach.get_in (g := fun c => !faultCells c)
    (by apply State.faultPage_reach Reach.refl <;> intros <;> rfl) (by simp [h]) ..

/-- A hard fault counts and sets its alarm. -/
theorem State.hardFault_says (cause : Nat) :
    (s.hardFault d g cause).get (.pan .nHard) d 0 = (s.get (.pan .nHard) d 0 + 1) % 2 ^ 64 ∧
      (s.hardFault d g cause).flag (.sticky .panHardFault) d 0 = true := by
  rw [State.hardFault, State.flag]
  simp only [State.faultPage_kept (c := .sticky .panHardFault) rfl]
  exact ⟨by simp, State.flag_event_sticky ..⟩

theorem State.hardFault_kept {c : Cell} (h : faultCells c = false) (hn : c ≠ .pan .nHard) (ha : c ≠ .sticky .panHardFault)
    (cause e i : Nat) : (s.hardFault d g cause).get c e i = s.get c e i := by
  rw [State.hardFault, State.faultPage_kept h, State.get_event ha]
  simp [hn]

/-- Counting a correction leaves the counters of corrections. -/
theorem State.track_kept {c : Cell} (h : faultCells c = false) (hn : c ≠ .pan .nHard) (ha : c ≠ .sticky .panHardFault)
    (hv : c ≠ .pan .nTrackOvf) (ho : c ≠ .sticky .panTrackOvf) (e i : Nat) : (s.track d g).get c e i = s.get c e i :=
  Reach.get_in (g := fun c => !(faultCells c || decide (c = .pan .nHard) || decide (c = .sticky .panHardFault) ||
      decide (c = .pan .nTrackOvf) || decide (c = .sticky .panTrackOvf)))
    (by apply State.track_reach Reach.refl <;> intros <;> rfl) (by simp [h, hn, ha, hv, ho]) ..

-- Corrected reads and write-backs (R285).

/-- A corrected read counts and is tracked; with no merge entry and no migration the granule waits for its write-back. -/
theorem panCorrectedRead_effect {P : State → Prop} {check : Bool} (hu : s.up d = true) (hp : s.panOk d = true)
    (hm : s.merge = []) (hmig : s.get (.pan .migHome) d 0 = 0)
    (hP : P (settle s (((s.inc (if check then .pan .nCeCheck else .pan .nCeData) d 0).track d g).set (.pan .wbPend) d g 1))) :
    Completes (.panCorrectedRead d g check true) s P :=
  completes_of exec_panCorrectedRead (by simp [hu, hp]) (by simpa [hm, State.migrating, hmig] using hP)

theorem panCorrectedRead_data (hu : s.up d = true) (hp : s.panOk d = true) (hm : s.merge = [])
    (hmig : s.get (.pan .migHome) d 0 = 0) : Completes (.panCorrectedRead d g false true) s fun t =>
      t.get (.pan .wbPend) d g = 1 ∧ t.get (.pan .nCeData) d 0 = (s.get (.pan .nCeData) d 0 + 1) % Counter.size :=
  panCorrectedRead_effect hu hp hm hmig (by simp [State.track_kept, Counter.size])

theorem panCorrectedRead_third (hu : s.up d = true) (hp : s.panOk d = true) (hm : s.merge = [])
    (hmig : s.get (.pan .migHome) d 0 = 0) (ht : s.tracker = [⟨d, g, 2⟩]) :
    Completes (.panCorrectedRead d g true true) s fun t => t.flag (.sticky .panHardFault) d 0 = true ∧
      t.tracker = [⟨d, g, 3⟩] ∧ t.get (.pan .nHard) d 0 = (s.get (.pan .nHard) d 0 + 1) % Counter.size ∧
      t.get (.pan .nCeCheck) d 0 = (s.get (.pan .nCeCheck) d 0 + 1) % Counter.size := by
  refine panCorrectedRead_effect hu hp hm hmig ?_
  have htrack : ∀ u : State, u.tracker = [⟨d, g, 2⟩] →
      u.track d g = State.hardFault { u with tracker := [⟨d, g, 3⟩] } d g 0 := fun u hu => by
    simp [State.track, hu]
  have hkeep : ∀ u : State, (u.hardFault d g 0).tracker = u.tracker := fun u =>
    Reach.part_eq (p := .tracker) (by apply State.hardFault_reach Reach.refl <;> intros <;> rfl)
  rw [if_pos rfl, htrack (s.inc (.pan .nCeCheck) d 0) ht]
  obtain ⟨hn, ha⟩ := State.hardFault_says (s := { s.inc (.pan .nCeCheck) d 0 with tracker := [⟨d, g, 3⟩] }) (d := d) (g := g) 0
  refine ⟨?_, ?_, ?_, ?_⟩
  · rw [flag_settle_of rfl]
    simpa using ha
  · rw [settle_tracker, State.set_tracker, hkeep]
  · rw [get_settle_of rfl]
    simpa [Counter.size] using hn
  · simp [State.hardFault_kept, Counter.size]

theorem panWriteBack_good (hu : s.up d = true) (hp : s.panOk d = true) (hw : s.flag (.pan .wbPend) d g = true) :
    Completes (.panWriteBack d g true) s fun t => t.get (.pan .wbPend) d g = 0 ∧
      t.get (.pan .nHard) d 0 = s.get (.pan .nHard) d 0 :=
  completes_of exec_panWriteBack (by simp [hu, hp, hw]) (by simp)

theorem panWriteBack_bad (hu : s.up d = true) (hp : s.panOk d = true) (hw : s.flag (.pan .wbPend) d g = true) :
    Completes (.panWriteBack d g false) s fun t => t.get (.pan .wbPend) d g = 0 ∧
      t.get (.pan .nWbFail) d 0 = (s.get (.pan .nWbFail) d 0 + 1) % Counter.size ∧
      t.get (.pan .nHard) d 0 = (s.get (.pan .nHard) d 0 + 1) % Counter.size ∧
      t.flag (.sticky .panHardFault) d 0 = true := by
  refine completes_of exec_panWriteBack (by simp [hu, hp, hw]) ?_
  rw [if_neg (by decide)]
  obtain ⟨hn, ha⟩ := State.hardFault_says (s := (s.set (.pan .wbPend) d g 0).inc (.pan .nWbFail) d 0) (d := d) (g := g) 1
  refine ⟨by simp [State.hardFault_kept], by simp [State.hardFault_kept, Counter.size], ?_, ?_⟩
  · rw [get_settle_of rfl]
    simpa [Counter.size] using hn
  · rw [flag_settle_of rfl]
    exact ha

-- Uncorrectable reads (R286, R293).

theorem panUncorrectableRead_poisoned (hu : s.up d = true) (hp : s.panOk d = true) (hg : s.flag (.pan .poison) d g = true) :
    Completes (.panUncorrectableRead d g .scrub) s fun t =>
      t.get (.pan .nPoisonRd) d 0 = (s.get (.pan .nPoisonRd) d 0 + 1) % Counter.size ∧
        t.get (.pan .nUe) d 0 = s.get (.pan .nUe) d 0 :=
  completes_of exec_panUncorrectableRead (by simp [hu, hp]) (by simp [hg, State.usageLost, Counter.size])

theorem panUncorrectableRead_fresh (hu : s.up d = true) (hp : s.panOk d = true) (hg : s.flag (.pan .poison) d g = false) :
    Completes (.panUncorrectableRead d g .scrub) s fun t => t.get (.pan .poison) d g = 1 ∧
      t.get (.pan .nUe) d 0 = (s.get (.pan .nUe) d 0 + 1) % Counter.size ∧ t.flag (.sticky .panUe) d 0 = true ∧
      t.flag (.sticky .panHardFault) d 0 = true := by
  refine completes_of exec_panUncorrectableRead (by simp [hu, hp]) ?_
  rw [if_neg (by simp [hg])]
  refine ⟨?_, ?_, ?_, ?_⟩
  · simp [State.usageLost, State.freshUe, State.hardFault_kept, State.poisonWrite]
  · simp [State.usageLost, State.freshUe, State.hardFault_kept, State.poisonWrite, Counter.size]
  · rw [flag_settle_of rfl, State.flag]
    simp only [State.usageLost, State.freshUe, State.hardFault_kept (c := .sticky .panUe) rfl (by decide) (by decide),
      State.poisonWrite, State.get_inc_ite, State.get_set_ite]
    exact State.flag_event_sticky ..
  · rw [flag_settle_of rfl]
    exact (State.hardFault_says _).2

-- The merge buffer (R286, R287).

/-- The only entry is flushed. -/
theorem mergeFlush_only {P : State → Prop} {ue bad : Bool} (hu : s.up d = true) (hp : s.panOk d = true)
    (hm : s.merge = [⟨d, g, m⟩]) (hP : P (settle s (s.mergeFlush ⟨d, g, m⟩ ue bad))) :
    Completes (.mergeFlush d g ue bad) s P :=
  completes_of exec_mergeFlush (by simp [hu, hp]) (by simpa [hm] using hP)

/-- Without a migration a granule is read from the page that serves it, and written there. -/
theorem State.readGran_still (h : s.get (.pan .migHome) d 0 = 0) :
    s.readGran d g = s.pageAt d (g / 128) * 128 + g % 128 := by
  simp [State.readGran, State.migrating, h]

theorem State.granWrite_still (h : s.get (.pan .migHome) d 0 = 0) :
    s.granWrite d g = (s.set (.pan .poison) d (s.readGran d g) 0).set (.pan .wbPend) d (s.readGran d g) 0 := by
  rw [State.readGran_still h]
  simp [State.granWrite, State.migrating, h]

/-- The place of a granule follows the cells of the page map only. -/
theorem State.readGran_congr (hm : ∀ i, t.get (.pan .migHome) d i = s.get (.pan .migHome) d i)
    (hmap : ∀ i, t.get (.pan .mapTo) d i = s.get (.pan .mapTo) d i) (h : s.get (.pan .migHome) d 0 = 0) :
    t.readGran d g = s.readGran d g := by
  rw [State.readGran_still h, State.readGran_still ((hm 0).trans h), State.pageAt, State.pageAt, hmap]

theorem mergeFlush_whole (hu : s.up d = true) (hp : s.panOk d = true) (hm : s.merge = [⟨d, g, m⟩])
    (hmig : s.get (.pan .migHome) d 0 = 0) (h : m = 255) : Completes (.mergeFlush d g false false) s fun t =>
      t.merge = [] ∧ t.get (.pan .poison) d (s.readGran d g) = 0 ∧
        t.get (.pan .nMergeRmw) d 0 = s.get (.pan .nMergeRmw) d 0 := by
  refine mergeFlush_only hu hp hm ?_
  have hr : State.readGran { s with merge := [] } d g = s.readGran d g := rfl
  have hw := State.granWrite_still (s := { s with merge := [] }) (g := g) hmig
  simp only [State.mergeFlush, hm, h, hr] at hw ⊢
  simp [hw]

theorem mergeFlush_part (hu : s.up d = true) (hp : s.panOk d = true) (hm : s.merge = [⟨d, g, m⟩])
    (hmig : s.get (.pan .migHome) d 0 = 0) (h : m ≠ 255) (hpo : s.flag (.pan .poison) d (s.readGran d g) = false) :
    Completes (.mergeFlush d g false false) s fun t => t.merge = [] ∧ t.get (.pan .poison) d (s.readGran d g) = 0 ∧
      t.get (.pan .nMergeRmw) d 0 = (s.get (.pan .nMergeRmw) d 0 + 1) % Counter.size := by
  refine mergeFlush_only hu hp hm ?_
  set u : State := ({ s with merge := [] } : State).inc (.pan .nMergeRmw) d 0 with hu'
  have hmig' : u.get (.pan .migHome) d 0 = 0 := by simpa [hu'] using hmig
  have hr : u.readGran d g = s.readGran d g :=
    State.readGran_congr (fun i => by simp [hu']) (fun i => by simp [hu']) hmig
  have hfl : s.mergeFlush ⟨d, g, m⟩ false false = u.granWrite d g := by
    have hpo' : State.flag { s with merge := [] } (.pan .poison) d (State.readGran { s with merge := [] } d g) = false := hpo
    simp [State.mergeFlush, hm, h, hpo', State.incIf, State.when, hu']
  rw [hfl, State.granWrite_still hmig', hr]
  refine ⟨by rw [settle_merge]; rfl, by simp, ?_⟩
  simp [hu', Counter.size]

theorem mergeFlush_cipher (hu : s.up d = true) (hp : s.panOk d = true) (hm : s.merge = [⟨d, g, m⟩])
    (hmig : s.get (.pan .migHome) d 0 = 0) : Completes (.mergeFlush d g false true) s fun t =>
      t.merge = [] ∧ t.get (.pan .poison) d (s.readGran d g) = 1 ∧
        t.get (.pan .nXtsFault) d 0 = (s.get (.pan .nXtsFault) d 0 + 1) % Counter.size := by
  refine mergeFlush_only hu hp hm ?_
  set u : State := ({ s with merge := [] } : State).incIf (decide (m ≠ 255)) (.pan .nMergeRmw) d 0 with hu'
  have hk : ∀ c i, c ≠ .pan .nMergeRmw → u.get c d i = s.get c d i := fun c i hc => by simp [hu', hc]
  have hmig' : u.get (.pan .migHome) d 0 = 0 := (hk _ _ (by decide)).trans hmig
  have hr : u.readGran d g = s.readGran d g :=
    State.readGran_congr (fun i => hk _ _ (by decide)) (fun i => hk _ _ (by decide)) hmig
  set v := (u.granWrite d g).inc (.pan .nXtsFault) d 0 with hv'
  have hv : v = (((u.set (.pan .poison) d (s.readGran d g) 0).set (.pan .wbPend) d (s.readGran d g) 0).inc (.pan .nXtsFault) d 0) := by
    rw [hv', State.granWrite_still hmig', hr]
  have hrv : v.readGran d g = s.readGran d g := by
    rw [← hr]
    exact State.readGran_congr (fun i => by simp [hv]) (fun i => by simp [hv]) hmig'
  have hfl : s.mergeFlush ⟨d, g, m⟩ false true = v.poisonWrite d (s.readGran d g) := by
    rw [← hrv]
    simp [State.mergeFlush, hm, State.incIf, State.when, hu', hv']
  rw [hfl]
  refine ⟨?_, by simp [State.poisonWrite], ?_⟩
  · have hmerge : u.merge = [] := Reach.part_eq (p := .merge) (State.incIf_reach Reach.refl fun _ => rfl)
    rw [settle_merge, hv]
    exact hmerge
  · have hx := hk (.pan .nXtsFault) 0 (by decide)
    simp [State.poisonWrite, hv, hx, Counter.size]

-- Scrubbing (R292).

theorem State.trackClear_none : ((s.trackClear d).tracker.any fun x => decide (x.die = d)) = false := by
  simp [State.trackClear]

theorem scrubLapEnd_outcome (hu : s.up d = true) (hp : s.panOk d = true) (he : s.flag (.pan .scrubEn) d 0 = true) :
    Completes (.scrubLapEnd d ms) s fun t =>
      t.get (.pan .lastLapMs) d 0 = min ms 0xFFFFFF ∧ (t.tracker.any fun x => decide (x.die = d)) = false ∧
        t.get (.pan .nScrubLaps) d 0 = (s.get (.pan .nScrubLaps) d 0 + 1) % Counter.size ∧
        (s.get (.pan .lapMax) d 0 * 1000 < ms → t.flag (.sticky .panScrubSlow) d 0 = true) := by
  refine completes_of exec_scrubLapEnd (by simp [hu, hp, he]) ?_
  have hkept : ∀ (u : State) c e i, (u.trackClear d).get c e i = u.get c e i := fun _ _ _ _ => rfl
  refine ⟨by simp [hkept, satU, Nat.min_comm], ?_, by simp [hkept, Counter.size], fun hlap => by simp [hlap]⟩
  have hw : ∀ (u : State) b, (u.when b fun s => s.event .panScrubSlow d 0).tracker = u.tracker := fun u b =>
    Reach.part_eq (p := .tracker) (State.when_reach Reach.refl fun _ hx => State.event_reach hx (fun _ => rfl) rfl)
  rw [settle_tracker, hw, State.trackClear_none]

theorem trackerClearTimer_outcome (hu : s.up d = true) (hp : s.panOk d = true) (he : s.flag (.pan .scrubEn) d 0 = false) :
    Completes (.trackerClearTimer d) s fun t =>
      t.get (.pan .lastLapMs) d 0 = 0 ∧ (t.tracker.any fun x => decide (x.die = d)) = false :=
  completes_of exec_trackerClearTimer (by simp [hu, hp, he])
    ⟨by simp, by rw [settle_tracker, State.set_tracker, State.trackClear_none]⟩

/-- Settles O36: one lemma for each read, write-back and flush. -/
theorem stackReads : Obligations.StackReads := by
  unfold Obligations.StackReads
  exact fun s d g ms m hu hp => ⟨fun hm hmig => ⟨panCorrectedRead_data hu hp hm hmig, panCorrectedRead_third hu hp hm hmig⟩,
    fun hw => ⟨panWriteBack_good hu hp hw, panWriteBack_bad hu hp hw⟩, panUncorrectableRead_poisoned hu hp,
    panUncorrectableRead_fresh hu hp, fun hm hmig => ⟨mergeFlush_whole hu hp hm hmig, mergeFlush_part hu hp hm hmig,
      mergeFlush_cipher hu hp hm hmig⟩, scrubLapEnd_outcome hu hp, trackerClearTimer_outcome hu hp⟩

end Sys2Proof.Machine
end

section
/-!
Page migration (R296): a state in which the pool holds a spare page twice, as one never taken and as one given to it.
-/
set_option Elab.async false
namespace Sys2Proof.Machine
open Sys2Proof.Tests

/-- The stack of die 0 is ready, its first spare page also bears the mark of a repaired page, and page 5 waits for retirement. -/
def doubleSpare : State :=
  { wSt [(.sys .dieReleased, 0, 0, 255), (.pan .state, 0, 0, 2), (.pan .given, 0, 3133440, 1)] with retireQ := [⟨0, 5, 640, 0⟩] }

/-- That page is the lowest spare. -/
theorem doubleSpare_lowest : doubleSpare.lowestSpare 0 = some 3133440 := by decide +kernel

/-- Taken by a migration, it is in the pool still. -/
theorem doubleSpare_free : (after (.pageMigrationStart 0) doubleSpare).isFree 0 3133440 = true := by decide +kernel

/-- Refutes O35: the statement asks no form of the page pool.  A page above the spare base that also bears the mark of a
page given to the pool is the lowest spare; the start of a migration marks it taken and leaves the other mark, by which it is
still free. -/
theorem not_pannierStack : ¬ Obligations.PannierStack := by
  unfold Obligations.PannierStack
  rintro ⟨-, h⟩
  obtain ⟨hstart, -⟩ := h doubleSpare 0 3133440 0 0 0 ⟨0, 5, 640, 0⟩ [] (by decide +kernel) (by decide +kernel)
  obtain ⟨htaken, -⟩ := hstart (by decide +kernel) (by decide +kernel) (by decide +kernel)
  obtain ⟨-, -, -, -, hfree, -⟩ := (htaken doubleSpare_lowest).after
  exact absurd hfree (by simp [doubleSpare_free])

end Sys2Proof.Machine
end

section
/-!
Spans: the key channel, its messages and the handshake (R321 to R326), KEY_AGREE and the entropy source (R341).
-/
set_option Elab.async false
namespace Sys2Proof.Machine

variable {s t : State} {h : KchHead} {k type idx count : Nat} {p : KchPeer}

theorem exec_kchFragmentRx : exec (.kchFragmentRx h type idx count) s = execKchFragmentRx h type idx count s := rfl
theorem exec_kchReassemblyTimeout (on sender seq : Nat) :
    exec (.kchReassemblyTimeout on type sender seq) s = execKchReassemblyTimeout on type sender seq s := rfl
theorem exec_kchHelloRx {a b : Bool} : exec (.kchHelloRx h a b) s = execKchHelloRx h a b s := rfl
theorem exec_kchReplyRx : exec (.kchReplyRx h p) s = execKchReplyRx h p s := rfl
theorem exec_kchAuthRx : exec (.kchAuthRx h p) s = execKchAuthRx h p s := rfl
theorem exec_kchConfirmRx {b : Bool} : exec (.kchConfirmRx h b) s = execKchConfirmRx h b s := rfl
theorem exec_kchAbortRx : exec (.kchAbortRx h) s = execKchAbortRx h s := rfl
theorem exec_keyAgree : exec .keyAgree s = execKeyAgree s := rfl
theorem exec_keyAgreeTimeout : exec .keyAgreeTimeout s = execKeyAgreeTimeout s := rfl
theorem exec_kchResendTimer : exec (.kchResendTimer k) s = execKchResendTimer k s := rfl
theorem exec_handshakeRetryTimer : exec (.handshakeRetryTimer k) s = execHandshakeRetryTimer k s := rfl
theorem exec_spanRekeyTimer : exec (.spanRekeyTimer k) s = execSpanRekeyTimer k s := rfl
theorem exec_entropyHealthFail : exec .entropyHealthFail s = execEntropyHealthFail s := rfl
theorem exec_entropyRetest {b : Bool} : exec (.entropyRetest b) s = execEntropyRetest b s := rfl

-- Fields of a word.

/-- A field above the one that is replaced keeps its bits. -/
theorem bits_putBits_above {lo w lo' : Nat} (hle : lo + w ≤ lo') (x w' v : Nat) : bits (putBits x lo w v) lo' w' = bits x lo' w' := by
  obtain ⟨n, rfl⟩ := Nat.exists_eq_add_of_le hle
  have hlow : v % 2 ^ w * 2 ^ lo + x % 2 ^ lo < 2 ^ (lo + w) := by
    have hv : v % 2 ^ w + 1 ≤ 2 ^ w := Nat.mod_lt _ (Nat.two_pow_pos w)
    calc v % 2 ^ w * 2 ^ lo + x % 2 ^ lo < v % 2 ^ w * 2 ^ lo + 2 ^ lo := by
          have := Nat.mod_lt x (Nat.two_pow_pos lo); omega
      _ = (v % 2 ^ w + 1) * 2 ^ lo := by rw [Nat.add_mul, Nat.one_mul]
      _ ≤ 2 ^ w * 2 ^ lo := Nat.mul_le_mul_right _ hv
      _ = 2 ^ (lo + w) := by rw [Nat.pow_add, Nat.mul_comm]
  have hdiv : putBits x lo w v / 2 ^ (lo + w) = x / 2 ^ (lo + w) := by
    rw [putBits, Nat.add_assoc, Nat.mul_comm (x / 2 ^ (lo + w)), Nat.mul_add_div (Nat.two_pow_pos _), Nat.div_eq_of_lt hlow,
      Nat.add_zero]
  rw [bits, bits, Nat.pow_add 2 (lo + w) n, ← Nat.div_div_eq_div_mul, hdiv, Nat.div_div_eq_div_mul]

/-- A field below the one that is replaced keeps its bits. -/
theorem bits_putBits_below {lo lo' w' : Nat} (hle : lo' + w' ≤ lo) (x w v : Nat) :
    bits (putBits x lo w v) lo' w' = bits x lo' w' := by
  have hfield : ∀ y, bits y lo' w' = y % 2 ^ lo % 2 ^ (lo' + w') / 2 ^ lo' := fun y => by
    rw [bits, Nat.mod_mod_of_dvd _ (Nat.pow_dvd_pow 2 hle), Nat.pow_add, Nat.mod_mul_right_div_self]
  have hmod : putBits x lo w v % 2 ^ lo = x % 2 ^ lo := by
    rw [putBits, Nat.pow_add, Nat.mul_comm (2 ^ lo), ← Nat.mul_assoc, ← Nat.add_mul, Nat.mul_comm _ (2 ^ lo),
      Nat.mul_add_mod, Nat.mod_mod]
  rw [hfield, hfield, hmod]

-- Fields of a span.

/-- The state of a span that is shown. -/
theorem State.spanState_show (v : Nat) : (s.spanShow k v).spanState k = v % 8 := by
  rw [State.spanState, State.winWordAt, State.spanShow, State.spansFollow, State.get_set_ite, if_neg (by simp),
    State.spanPut, State.setWin, State.get_set_ite, if_pos ⟨rfl, rfl, rfl⟩, bits_putBits]
  rfl

@[simp] theorem settle_spanState : (settle s t).spanState k = t.spanState k := by
  rw [State.spanState, State.winWordAt, get_settle_of rfl]; rfl
@[simp] theorem settle_spanSms : (settle s t).spanSms k = t.spanSms k := by
  rw [State.spanSms, State.winWordAt, get_settle_of rfl]; rfl
@[simp] theorem settle_spanCarriers : (settle s t).spanCarriers k = t.spanCarriers k := by
  rw [State.spanCarriers, State.winWordAt, get_settle_of rfl]; rfl
@[simp] theorem settle_spanPartner : (settle s t).spanPartner k = t.spanPartner k := by
  rw [State.spanPartner, State.winWordAt, get_settle_of rfl]; rfl

/-- What follows a handshake: the words of the spans stay. -/
abbrev rekeyKept : Cell → Bool
  | .win .sbgSpan | .sbg .spHas | .sbg .spStep | .sbg .nHsOk | .sbg .nHsFail => true
  | _ => false

theorem State.rekeyStart_kept {c : Cell} (hc : rekeyKept c = true) (d j e i : Nat) :
    (s.rekeyStart d j).get c e i = s.get c e i :=
  Reach.get_in (g := rekeyKept) (by apply State.rekeyStart_reach Reach.refl <;> intros <;> rfl) hc ..

theorem State.kaCheck_kept {c : Cell} (hc : rekeyKept c = true) (e i : Nat) : (s.kaCheck k).get c e i = s.get c e i :=
  Reach.get_in (g := rekeyKept) (by apply State.kaCheck_reach Reach.refl <;> intros <;> rfl) hc ..

theorem State.kaFail_kept {c : Cell} (hc : rekeyKept c = true) (code e i : Nat) :
    (s.kaFail k code).get c e i = s.get c e i :=
  Reach.get_in (g := rekeyKept) (by apply State.kaFail_reach Reach.refl <;> intros <;> rfl) hc ..

@[simp] theorem State.drbg_kept {c : Cell} (hc : c ≠ .sbg .nDrbgReseed) (hn : c ≠ .sbg .drbgCount) (b : Bool) (e i : Nat) :
    (s.drbg b).get c e i = s.get c e i :=
  Reach.get_in (g := fun c => !(decide (c = .sbg .nDrbgReseed) || decide (c = .sbg .drbgCount)))
    (by apply State.drbg_reach Reach.refl <;> intros <;> rfl) (by simp [hc, hn]) ..

/-- A handshake that succeeds: a secret in force, and the next secret's number. -/
theorem State.hsDone_facts : (s.hsDone k).get (.sbg .spHas) 0 k = 1 ∧ (s.hsDone k).get (.sbg .spStep) 0 k = 0 ∧
    (s.hsDone k).spanState k = spanEstablished ∧ (s.hsDone k).spanSms k = (s.spanSms k + 1) % 256 ∧
    (s.hsDone k).get (.sbg .nHsOk) 0 0 = (s.get (.sbg .nHsOk) 0 0 + 1) % 2 ^ 64 := by
  have htail : ∀ {c : Cell}, rekeyKept c = true → ∀ (u : State) (l : List (Nat × Nat)) e i,
      ((u.each l fun s x => s.rekeyStart x.1 x.2).kaCheck k).get c e i = u.get c e i := fun {c} hc u l e i => by
    rw [State.kaCheck_kept hc, State.get_each fun x a => State.rekeyStart_kept hc ..]
  have hstate : ∀ (u : State) (l : List (Nat × Nat)),
      ((u.each l fun s x => s.rekeyStart x.1 x.2).kaCheck k).spanState k = u.spanState k := fun u l => by
    rw [State.spanState, State.winWordAt, htail rfl]; rfl
  unfold State.hsDone
  dsimp only
  refine ⟨?_, ?_, ?_, ?_, ?_⟩
  · rw [htail rfl]
    simp [State.spanShow, State.spanPut, State.setWin, State.spansFollow]
  · rw [htail rfl]
    simp [State.spanShow, State.spanPut, State.setWin, State.spansFollow]
  · rw [hstate, State.spanState_show]
    rfl
  · rw [State.spanSms, State.winWordAt, htail rfl]
    simp [State.spanShow, State.spanPut, State.setWin, State.spansFollow, bits]
  · rw [htail rfl]
    simp [State.spanShow, State.spanPut, State.setWin, State.spansFollow]

/-- A handshake that fails ends and counts. -/
theorem State.hsFail_facts (code : Nat) : (s.hsFail k code).get (.sbg .spStep) 0 k = 0 ∧
    (s.hsFail k code).get (.sbg .nHsFail) 0 0 = (s.get (.sbg .nHsFail) 0 0 + 1) % 2 ^ 64 := by
  unfold State.hsFail
  dsimp only
  rw [State.kaFail_kept rfl, State.kaFail_kept rfl]
  exact ⟨by simp [State.spanShow, State.spanPut, State.setWin, State.spansFollow],
    by simp [State.spanShow, State.spanPut, State.setWin, State.spansFollow]⟩

/-- What a failed handshake writes before KEY_AGREE hears of it. -/
abbrev failCells : Cell → Bool
  | .win .sbgSpan | .sbg .spansUp | .sbg .spStep | .sbg .nHsFail | .sbg .spRetry => true
  | _ => false

theorem State.hsFail_ends (code : Nat) : ∃ u : State, s.hsFail k code = u.kaFail k code ∧
    ∀ {c : Cell}, failCells c = false → ∀ e i, u.get c e i = s.get c e i := by
  refine ⟨_, rfl, fun {c} hc e i => ?_⟩
  refine Reach.get_in (g := fun c => !failCells c) ?_ (by simp [hc]) e i
  exact State.when_reach (State.spanShow_reach (State.inc_reach (State.set_reach (State.spanPut_reach Reach.refl
    fun _ => rfl) rfl) fun _ => rfl) (fun _ => rfl) fun _ => rfl) fun _ hx => State.set_reach hx rfl

/-- A handshake that fails leaves the messages sent. -/
theorem State.hsFail_kept {c : Cell} (hc : c = .sbg .spTxType ∨ c = .sticky .sbgPeerAuthFail ∨ c = .sbg .spHas)
    (code e i : Nat) : (s.hsFail k code).get c e i = s.get c e i :=
  Reach.get_in (g := fun c => decide (c = .sbg .spTxType) || decide (c = .sticky .sbgPeerAuthFail) || decide (c = .sbg .spHas))
    (by apply State.hsFail_reach Reach.refl <;> intros <;> rfl) (by rcases hc with rfl | rfl | rfl <;> rfl) ..

/-- A peer that is refused: the handshake fails, and ABORT goes out. -/
theorem State.peerFail_facts (code node : Nat) : (s.peerFail k code node).get (.sbg .spStep) 0 k = 0 ∧
    (s.peerFail k code node).get (.sbg .spTxType) 0 k = 0x20 ∧
    (s.peerFail k code node).get (.sbg .nHsFail) 0 0 = (s.get (.sbg .nHsFail) 0 0 + 1) % 2 ^ 64 ∧
    (code ≠ kaProtocol → (s.peerFail k code node).flag (.sticky .sbgPeerAuthFail) 0 0 = true) := by
  unfold State.peerFail
  refine ⟨(State.hsFail_facts _).1, ?_, ?_, fun hc => ?_⟩
  · rw [State.hsFail_kept (.inl rfl)]
    simp [State.kchSend]
  · rw [(State.hsFail_facts _).2]
    simp [State.kchSend]
  · rw [State.flag, State.hsFail_kept (.inr (.inl rfl))]
    have he := State.flag_event_sticky (s := s) .sbgPeerAuthFail 0 0
    rw [State.flag] at he
    simpa [State.kchSend, hc] using he

-- Fragments (R321).

theorem kchFragmentRx_first (hu : s.kchUp h.on = true) (hi : idx < count) (hk : s.kch = []) :
    Completes (.kchFragmentRx h type idx count) s fun t => t.kch = [⟨h.on, type, h.sender, h.seq, count, 2 ^ idx⟩] :=
  completes_of exec_kchFragmentRx (by simp [hu, hi]) (by simp [hk])

theorem kchFragmentRx_second (hu : s.kchUp h.on = true) (hk : s.kch = [⟨h.on, type, h.sender, h.seq, 2, 1⟩]) :
    Completes (.kchFragmentRx h type 1 2) s fun t => t.kch = [⟨h.on, type, h.sender, h.seq, 2, 3⟩] :=
  completes_of exec_kchFragmentRx (by simp [hu]) (by simp [hk, putBit, putBits])

theorem kchReassemblyTimeout_outcome (hu : s.kchUp h.on = true) (hk : s.kch = [⟨h.on, type, h.sender, h.seq, 2, 1⟩]) :
    Completes (.kchReassemblyTimeout h.on type h.sender h.seq) s fun t => t.kch = [] ∧
      t.get (.sbg .nKchDisc) 0 0 = (s.get (.sbg .nKchDisc) 0 0 + 1) % Counter.size := by
  have hup : s.up h.on = true := by
    simp only [State.kchUp, Bool.and_eq_true] at hu
    exact hu.1.1
  have htake : takeFirst (fun m : KchMsg => decide (m.on = h.on) && decide (m.type = type) && decide (m.sender = h.sender) &&
      decide (m.seq = h.seq) && decide (m.got + 1 ≠ 2 ^ m.count)) s.kch = some (⟨h.on, type, h.sender, h.seq, 2, 1⟩, []) := by
    simp [hk, takeFirst]
  refine completes_of (exec_kchReassemblyTimeout _ _ _) hup ?_
  rw [htake]
  refine ⟨by rw [settle_kch]; rfl, ?_⟩
  simp [State.kchDisc, Counter.size]

-- Messages (R321, R322).

/-- A rebuilt message that stands is taken, and nothing else changes. -/
theorem State.kchTake_some {n : Nat} (ht : (s.kchTake h n).isSome = true) :
    ∃ l, s.kchTake h n = some { s with kch := l } := by
  unfold State.kchTake at ht ⊢
  obtain ⟨x, hx⟩ := Option.isSome_iff_exists.mp (by simpa using ht)
  exact ⟨x.2, by rw [hx]; rfl⟩

/-- A message of the span's partner that needs no tag has its meaning. -/
theorem State.kchRecv_plain {n : Nat} (ht : (s.kchTake h n).isSome = true)
    (hk : s.spanOn h.on = some k) (hp : h.sender = s.spanPartner k) (hn : n < 0x10) :
    ∃ l, ∀ f, s.kchRecv h n f = f k { s with kch := l } := by
  obtain ⟨l, hl⟩ := State.kchTake_some ht
  refine ⟨l, fun f => ?_⟩
  have hk' : State.spanOn { s with kch := l } h.on = some k := hk
  have hp' : h.sender = State.spanPartner { s with kch := l } k := hp
  simp only [State.kchRecv, hl, hk']
  rw [if_neg (by simpa using hp'), if_neg (by omega), if_neg (by omega), if_neg (by omega), decide_eq_false (by omega)]
  rfl

/-- So has one with a tag that passes and a new SEQ. -/
theorem State.kchRecv_tagged {n : Nat} (ht : (s.kchTake h n).isSome = true)
    (hk : s.spanOn h.on = some k) (hp : h.sender = s.spanPartner k) (hn : 0x10 ≤ n) (htag : h.tagOk = true)
    (hseq : s.get (.sbg .spSeqRx) 0 k < h.seq) :
    ∃ l, ∀ f, s.kchRecv h n f = f k (State.set { s with kch := l } (.sbg .spSeqRx) 0 k h.seq) := by
  obtain ⟨l, hl⟩ := State.kchTake_some ht
  refine ⟨l, fun f => ?_⟩
  have hk' : State.spanOn { s with kch := l } h.on = some k := hk
  have hp' : h.sender = State.spanPartner { s with kch := l } k := hp
  have hs' : State.get { s with kch := l } (.sbg .spSeqRx) 0 k < h.seq := hseq
  simp only [State.kchRecv, hl, hk']
  rw [if_neg (by simpa using hp'), if_neg (by simp [htag]), if_neg (by omega), if_neg (by omega), decide_eq_true hn]
  rfl

theorem kchHelloRx_stranger (hu : s.kchUp h.on = true) (hk : s.spanOn h.on = some k) (hp : h.sender ≠ s.spanPartner k)
    (ht : (s.kchTake h 0x01).isSome = true) : Completes (.kchHelloRx h true true) s fun t =>
      t.get (.sbg .nKchDisc) 0 0 = (s.get (.sbg .nKchDisc) 0 0 + 1) % Counter.size ∧
        t.get (.sbg .spStep) 0 k = s.get (.sbg .spStep) 0 k := by
  obtain ⟨l, hl⟩ := State.kchTake_some ht
  have hk' : State.spanOn { s with kch := l } h.on = some k := hk
  have hp' : h.sender ≠ State.spanPartner { s with kch := l } k := hp
  refine completes_of exec_kchHelloRx hu ?_
  simp only [State.kchRecv, hl, hk']
  rw [if_pos hp']
  simp [State.kchDisc, Counter.size]

theorem kchHelloRx_answers (hu : s.kchUp h.on = true) (hk : s.spanOn h.on = some k) (hp : h.sender = s.spanPartner k)
    (ht : (s.kchTake h 0x01).isSome = true) (hi : s.initiates k = false) (hr : s.flag (.sbg .rngOk) 0 0 = true) :
    Completes (.kchHelloRx h true true) s fun t => t.get (.sbg .spStep) 0 k = 2 ∧ t.spanState k = spanHandshake ∧
      t.get (.sbg .spTxType) 0 k = 2 := by
  refine completes_of exec_kchHelloRx hu ?_
  obtain ⟨l, hl⟩ := State.kchRecv_plain ht hk hp (by decide)
  have hi' : State.initiates { s with kch := l } k = false := hi
  have hr' : State.flag { s with kch := l } (.sbg .rngOk) 0 0 = true := hr
  rw [hl, if_neg (by simp [hi']), if_neg (by simp), if_neg (by simp), if_neg (by simp [hr'])]
  refine ⟨?_, ?_, ?_⟩
  · simp [State.kchSend, State.spanShow, State.spanPut, State.setWin, State.spansFollow]
  · have hsend : ∀ u : State, (u.kchSend k 2).spanState k = u.spanState k := fun u => by
      simp [State.kchSend, State.spanState, State.winWordAt]
    rw [settle_spanState, hsend, State.spanState_show]
    rfl
  · simp [State.kchSend]

theorem kchHelloRx_repeated (hu : s.kchUp h.on = true) (hk : s.spanOn h.on = some k) (hp : h.sender = s.spanPartner k)
    (ht : (s.kchTake h 0x01).isSome = true) (hi : s.initiates k = false) (h2 : s.get (.sbg .spStep) 0 k = 2) :
    Completes (.kchHelloRx h false true) s fun t => t.get (.sbg .spStep) 0 k = 2 ∧
      t.get (.sbg .spSent) 0 k = (s.get (.sbg .spSent) 0 k + 1) % Counter.size := by
  refine completes_of exec_kchHelloRx hu ?_
  obtain ⟨l, hl⟩ := State.kchRecv_plain ht hk hp (by decide)
  have hi' : State.initiates { s with kch := l } k = false := hi
  rw [hl, if_neg (by simp [hi']), if_pos (by simp [h2])]
  simp [State.kchAgain, h2, Counter.size]

-- The handshake (R323).

/-- What a peer must show does not follow the messages that stand. -/
theorem State.peerCode_kch (l : List KchMsg) : State.peerCode { s with kch := l } k p = s.peerCode k p := rfl

section
variable (hu : s.kchUp h.on = true) (hk : s.spanOn h.on = some k) (hp : h.sender = s.spanPartner k)
include hu hk hp

theorem kchReplyRx_good (ht : (s.kchTake h 0x02).isSome = true) (h1 : s.get (.sbg .spStep) 0 k = 1)
    (hc : s.peerCode k { p with macOk := true } = 0) : Completes (.kchReplyRx h p) s fun t =>
      t.get (.sbg .spStep) 0 k = 3 ∧ t.get (.sbg .spTxType) 0 k = 3 := by
  refine completes_of exec_kchReplyRx hu ?_
  obtain ⟨l, hl⟩ := State.kchRecv_plain ht hk hp (by decide)
  rw [hl, if_pos (by simp [h1])]
  dsimp only
  rw [State.peerCode_kch, if_pos hc]
  simp [State.kchSend]

theorem kchReplyRx_bad (ht : (s.kchTake h 0x02).isSome = true) (h1 : s.get (.sbg .spStep) 0 k = 1)
    (hc : s.peerCode k { p with macOk := true } ≠ 0) : Completes (.kchReplyRx h p) s fun t =>
      t.get (.sbg .spStep) 0 k = 0 ∧ t.get (.sbg .spTxType) 0 k = 0x20 ∧
        t.get (.sbg .nHsFail) 0 0 = (s.get (.sbg .nHsFail) 0 0 + 1) % Counter.size := by
  refine completes_of exec_kchReplyRx hu ?_
  obtain ⟨l, hl⟩ := State.kchRecv_plain ht hk hp (by decide)
  rw [hl, if_pos (by simp [h1])]
  dsimp only
  rw [State.peerCode_kch, if_neg hc]
  obtain ⟨hstep, htype, hfail, -⟩ := State.peerFail_facts (s := { s with kch := l }) (k := k)
    (s.peerCode k { p with macOk := true }) p.node
  exact ⟨by simpa using hstep, by simpa using htype, by simpa [Counter.size] using hfail⟩

theorem kchAuthRx_good (ht : (s.kchTake h 0x03).isSome = true) (h2 : s.get (.sbg .spStep) 0 k = 2)
    (hc : s.peerCode k p = 0) : Completes (.kchAuthRx h p) s fun t => t.get (.sbg .spHas) 0 k = 1 ∧
      t.get (.sbg .spStep) 0 k = 0 ∧ t.spanState k = spanEstablished ∧ t.spanSms k = (s.spanSms k + 1) % 256 ∧
      t.get (.sbg .nHsOk) 0 0 = (s.get (.sbg .nHsOk) 0 0 + 1) % Counter.size := by
  refine completes_of exec_kchAuthRx hu ?_
  obtain ⟨l, hl⟩ := State.kchRecv_plain ht hk hp (by decide)
  rw [hl, if_pos (by simp [h2])]
  dsimp only
  rw [State.peerCode_kch, if_pos hc]
  set u := State.kchSend { s with kch := l } k 0x04 with hu'
  obtain ⟨hhas, hstep, hstate, hsms, hok⟩ := State.hsDone_facts (s := u) (k := k)
  have hold : u.spanSms k = s.spanSms k := by simp [hu', State.kchSend, State.spanSms, State.winWordAt]
  have hcnt : u.get (.sbg .nHsOk) 0 0 = s.get (.sbg .nHsOk) 0 0 := by simp [hu', State.kchSend]
  refine ⟨by simpa using hhas, by simpa using hstep, ?_, ?_, by simpa [Counter.size, hcnt] using hok⟩
  · rw [settle_spanState, hstate]
  · rw [settle_spanSms, hsms, hold]

theorem kchConfirmRx_good (ht : (s.kchTake h 0x04).isSome = true) (h3 : s.get (.sbg .spStep) 0 k = 3) :
    Completes (.kchConfirmRx h true) s fun t => t.get (.sbg .spHas) 0 k = 1 ∧ t.spanState k = spanEstablished ∧
      t.spanSms k = (s.spanSms k + 1) % 256 := by
  refine completes_of exec_kchConfirmRx hu ?_
  obtain ⟨l, hl⟩ := State.kchRecv_plain ht hk hp (by decide)
  rw [hl, if_pos (by simp [h3]), if_pos rfl]
  obtain ⟨hhas, -, hstate, hsms, -⟩ := State.hsDone_facts (s := { s with kch := l }) (k := k)
  exact ⟨by simpa using hhas, by rw [settle_spanState, hstate], by rw [settle_spanSms, hsms]; rfl⟩

theorem kchConfirmRx_bad (ht : (s.kchTake h 0x04).isSome = true) (h3 : s.get (.sbg .spStep) 0 k = 3) :
    Completes (.kchConfirmRx h false) s fun t => t.flag (.sticky .sbgPeerAuthFail) 0 0 = true ∧
      t.get (.sbg .nHsFail) 0 0 = (s.get (.sbg .nHsFail) 0 0 + 1) % Counter.size := by
  refine completes_of exec_kchConfirmRx hu ?_
  obtain ⟨l, hl⟩ := State.kchRecv_plain ht hk hp (by decide)
  rw [hl, if_pos (by simp [h3]), if_neg (by decide)]
  obtain ⟨-, -, hfail, hsticky⟩ := State.peerFail_facts (s := { s with kch := l }) (k := k) kaMac
    (State.spanPartner { s with kch := l } k)
  exact ⟨(flag_settle_of rfl ..).trans (hsticky (by decide)), by simpa [Counter.size] using hfail⟩

theorem kchAbortRx_ends (ht : (s.kchTake h 0x20).isSome = true) (htag : h.tagOk = true)
    (hseq : s.get (.sbg .spSeqRx) 0 k < h.seq) (h0 : s.get (.sbg .spStep) 0 k ≠ 0) : Completes (.kchAbortRx h) s fun t =>
      t.get (.sbg .spStep) 0 k = 0 ∧ t.get (.sbg .nHsFail) 0 0 = (s.get (.sbg .nHsFail) 0 0 + 1) % Counter.size := by
  refine completes_of exec_kchAbortRx hu ?_
  obtain ⟨l, hl⟩ := State.kchRecv_tagged ht hk hp (by decide) htag hseq
  rw [hl, if_neg (by simpa using h0)]
  obtain ⟨hstep, hfail⟩ := State.hsFail_facts (s := State.set { s with kch := l } (.sbg .spSeqRx) 0 k h.seq) (k := k) kaProtocol
  exact ⟨by simpa using hstep, by simpa [Counter.size] using hfail⟩

theorem kchAbortRx_forged (ht : (s.kchTake h 0x20).isSome = true) (htag : h.tagOk = false) :
    Completes (.kchAbortRx h) s fun t => t.flag (.sticky .sbgKchTagFail) 0 0 = true ∧
      t.get (.sbg .spStep) 0 k = s.get (.sbg .spStep) 0 k ∧
      t.get (.sbg .nKchDisc) 0 0 = (s.get (.sbg .nKchDisc) 0 0 + 1) % Counter.size := by
  obtain ⟨l, hl⟩ := State.kchTake_some ht
  have hk' : State.spanOn { s with kch := l } h.on = some k := hk
  have hp' : h.sender = State.spanPartner { s with kch := l } k := hp
  refine completes_of exec_kchAbortRx hu ?_
  simp only [State.kchRecv, hl, hk']
  rw [if_neg (by simpa using hp'), if_pos (by simp [htag])]
  exact ⟨by simp, by simp [State.kchDisc], by simp [State.kchDisc, Counter.size]⟩

end

/-- Settles O38: one lemma for each message and its checks.  That SEQ is held against the last one accepted for the types
that carry a TAG only is the model's choice (log 24). -/
theorem keyChannel : Obligations.KeyChannel := by
  unfold Obligations.KeyChannel
  exact fun s h k type idx count p hu => ⟨kchFragmentRx_first hu,
    fun hk => ⟨kchFragmentRx_second hu hk, kchReassemblyTimeout_outcome hu hk⟩, kchHelloRx_stranger hu,
    fun hk hp => ⟨kchHelloRx_answers hu hk hp, kchHelloRx_repeated hu hk hp,
      fun ht h1 => ⟨kchReplyRx_good hu hk hp ht h1, kchReplyRx_bad hu hk hp ht h1⟩, kchAuthRx_good hu hk hp,
      fun ht h3 => ⟨kchConfirmRx_good hu hk hp ht h3, kchConfirmRx_bad hu hk hp ht h3⟩, kchAbortRx_ends hu hk hp,
      kchAbortRx_forged hu hk hp⟩⟩

-- KEY_AGREE (R325).

/-- What an agreement that fails leaves of a word of a span. -/
theorem State.hsFail_span (code : Nat) : ∃ v, v ≠ spanNone ∧ v < 8 ∧
    (s.hsFail k code).winWordAt .sbgSpan 0 k 0 = putBits (putBits (s.winWordAt .sbgSpan 0 k 0) 24 4 code) 29 3 v := by
  refine ⟨if s.flag (.sbg .spHas) 0 k then spanEstablished else spanFailed, by split <;> decide, by split <;> decide, ?_⟩
  unfold State.hsFail State.winWordAt
  dsimp only
  rw [State.kaFail_kept rfl]
  simp [State.spanShow, State.spanPut, State.setWin, State.spansFollow, State.winWordAt, State.flag]

/-- The start of a handshake shows a state that is not NONE and leaves the carriers and the partner of its span. -/
theorem State.hsStart_span : (s.hsStart k).spanState k ≠ spanNone ∧ (s.hsStart k).spanCarriers k = s.spanCarriers k ∧
    (s.hsStart k).spanPartner k = s.spanPartner k := by
  have hshow : ∀ (u : State) (v : Nat), (u.spanShow k v).winWordAt .sbgSpan 0 k 0 =
      putBits (u.winWordAt .sbgSpan 0 k 0) 29 3 v := fun u v => by
    simp [State.spanShow, State.spanPut, State.setWin, State.spansFollow, State.winWordAt]
  have hfields : ∀ {u : State}, u.winWordAt .sbgSpan 0 k 0 = putBits (s.winWordAt .sbgSpan 0 k 0) 29 3 spanHandshake →
      u.spanState k ≠ spanNone ∧ u.spanCarriers k = s.spanCarriers k ∧ u.spanPartner k = s.spanPartner k := fun {u} h => by
    rw [State.spanState, State.spanCarriers, State.spanPartner, h, bits_putBits, bits_putBits_below (by decide),
      bits_putBits_below (by decide)]
    exact ⟨by decide, rfl, rfl⟩
  unfold State.hsStart
  split
  · split
    · refine hfields ?_
      have hsend : ∀ (u : State) n, (u.kchSend k n).winWordAt .sbgSpan 0 k 0 = u.winWordAt .sbgSpan 0 k 0 := fun u n => by
        simp [State.kchSend, State.winWordAt]
      rw [hsend, hshow]
      simp [State.winWordAt]
    · obtain ⟨v, hv, hlt, hword⟩ := State.hsFail_span (s := s) (k := k) kaEntropy
      rw [State.spanState, State.spanCarriers, State.spanPartner, hword, bits_putBits, bits_putBits_below (by decide),
        bits_putBits_below (by decide), bits_putBits_below (by decide), bits_putBits_below (by decide)]
      exact ⟨by rw [Nat.mod_eq_of_lt (by omega)]; exact hv, rfl, rfl⟩
  · refine hfields ?_
    rw [hshow]
    simp [State.winWordAt]

theorem keyAgree_outcome (hc : s.called 8 = true) (hk : s.spanEntry s.kaPartner = some k) : Completes .keyAgree s fun t =>
    t.spanCarriers k = s.procArg 8 0 % 256 ∧ t.spanPartner k = s.kaPartner % 4096 ∧ t.spanState k ≠ spanNone := by
  refine completes_of exec_keyAgree hc ?_
  simp only [State.keyAgree, hk]
  set u := ((s.spanPut k 16 8 (s.procArg 8 0)).spanPut k 0 12 s.kaPartner).set (.sbg .kaSpan) 0 0 (k + 1) with hu
  have hword : u.winWordAt .sbgSpan 0 k 0 =
      putBits (putBits (s.winWordAt .sbgSpan 0 k 0) 16 8 (s.procArg 8 0)) 0 12 s.kaPartner := by
    simp [hu, State.spanPut, State.setWin, State.winWordAt]
  have hcar : u.spanCarriers k = s.procArg 8 0 % 256 := by
    rw [State.spanCarriers, hword, bits_putBits_above (by decide), bits_putBits]
    rfl
  have hpar : u.spanPartner k = s.kaPartner % 4096 := by
    rw [State.spanPartner, hword, bits_putBits]
    rfl
  rw [settle_spanCarriers, settle_spanPartner, settle_spanState]
  split
  · obtain ⟨hst, hc', hp'⟩ := State.hsStart_span (s := u) (k := k)
    exact ⟨hc'.trans hcar, hp'.trans hpar, hst⟩
  · have hshow : ∀ v, (u.spanShow k v).winWordAt .sbgSpan 0 k 0 = putBits (u.winWordAt .sbgSpan 0 k 0) 29 3 v := fun v => by
      simp [State.spanShow, State.spanPut, State.setWin, State.spansFollow, State.winWordAt]
    refine ⟨?_, ?_, ?_⟩
    · rw [State.spanCarriers, hshow, bits_putBits_below (by decide)]
      exact hcar
    · rw [State.spanPartner, hshow, bits_putBits_below (by decide)]
      exact hpar
    · rw [State.spanState_show]
      have hlt : u.spanState k < 8 := Nat.mod_lt _ (by decide)
      split
      · decide
      · next hne => rwa [Nat.mod_eq_of_lt hlt]

/-- A failing agreement returns its code. -/
theorem State.kaFail_code (hr : s.kaRuns k = true) (htol : s.kaTolerate = false) (hp : s.get (.boot .procId) 0 0 = 8)
    (code : Nat) : (s.kaFail k code).called 8 = false ∧ (s.kaFail k code).get (.boot .procDone) 0 0 = 2 ∧
      (s.kaFail k code).get (.boot .procCode) 0 0 = code := by
  rw [State.kaFail, if_pos hr]
  simp [htol, State.procEnd, hp, State.called]

/-- What runs of KEY_AGREE follows the cells of its procedure. -/
theorem State.kaRuns_of {u : State} (hc : u.get (.boot .procCalled) 0 8 = s.get (.boot .procCalled) 0 8)
    (hs : u.get (.sbg .kaSpan) 0 0 = s.get (.sbg .kaSpan) 0 0) : u.kaRuns k = s.kaRuns k := by
  simp [State.kaRuns, State.called, State.flag, hc, hs]

section
variable (hc : s.called 8 = true) (hid : s.get (.boot .procId) 0 0 = 8) (hs : s.get (.sbg .kaSpan) 0 0 = k + 1)
  (htol : s.kaTolerate = false)
include hc hid hs htol

theorem keyAgreeTimeout_noChannel (h0 : s.get (.sbg .spStep) 0 k = 0) (hh : s.flag (.sbg .spHas) 0 k = false) :
    Completes .keyAgreeTimeout s fun t => t.called 8 = false ∧ t.get (.boot .procDone) 0 0 = 2 ∧
      t.get (.boot .procCode) 0 0 = kaNoChannel ∧ t.spanState k = spanFailed := by
  refine completes_of exec_keyAgreeTimeout (by simp [hc, hs]) ?_
  simp only [hs, Nat.add_sub_cancel]
  rw [if_pos (by simp [h0, hh])]
  set u := (s.spanPut k 24 4 kaNoChannel).spanShow k spanFailed with hu
  have hkept : ∀ {c : Cell}, c ≠ .win .sbgSpan → c ≠ .sbg .spansUp → ∀ e i, u.get c e i = s.get c e i :=
    fun {c} hw hup e i => by simp [hu, State.spanShow, State.spanPut, State.setWin, State.spansFollow, hw, hup]
  have hruns : u.kaRuns k = true := by
    rw [State.kaRuns_of (hkept (by decide) (by decide) ..) (hkept (by decide) (by decide) ..)]
    simp [State.kaRuns, hc, hs]
  have htol' : u.kaTolerate = false := by
    rw [State.kaTolerate, State.procArg, hkept (by decide) (by decide)]
    exact htol
  obtain ⟨hcalled, hdone, hcode⟩ := State.kaFail_code hruns htol' ((hkept (by decide) (by decide) ..).trans hid) kaNoChannel
  refine ⟨(flag_settle_of rfl ..).trans hcalled, (get_settle_of rfl ..).trans hdone, (get_settle_of rfl ..).trans hcode, ?_⟩
  rw [settle_spanState, State.spanState, State.winWordAt, State.kaFail_kept rfl]
  exact State.spanState_show _

theorem keyAgreeTimeout_running (h0 : s.get (.sbg .spStep) 0 k ≠ 0) : Completes .keyAgreeTimeout s fun t =>
    t.called 8 = false ∧ t.get (.boot .procCode) 0 0 = kaTimeout ∧ t.get (.sbg .spStep) 0 k = 0 ∧
      t.get (.sbg .nHsFail) 0 0 = (s.get (.sbg .nHsFail) 0 0 + 1) % Counter.size := by
  refine completes_of exec_keyAgreeTimeout (by simp [hc, hs]) ?_
  simp only [hs, Nat.add_sub_cancel]
  rw [if_neg (by simp [h0]), if_neg h0]
  obtain ⟨hstep, hfail⟩ := State.hsFail_facts (s := s) (k := k) kaTimeout
  obtain ⟨u, hfu, hkept⟩ := State.hsFail_ends (s := s) (k := k) kaTimeout
  have hruns : u.kaRuns k = true := by
    rw [State.kaRuns_of (hkept rfl ..) (hkept rfl ..)]
    simp [State.kaRuns, hc, hs]
  have htol' : u.kaTolerate = false := by
    rw [State.kaTolerate, State.procArg, hkept rfl]
    exact htol
  obtain ⟨hcalled, -, hcode⟩ := State.kaFail_code hruns htol' ((hkept rfl ..).trans hid) kaTimeout
  rw [← hfu] at hcalled hcode
  exact ⟨(flag_settle_of rfl ..).trans hcalled, (get_settle_of rfl ..).trans hcode, (get_settle_of rfl ..).trans hstep,
    (get_settle_of rfl ..).trans hfail⟩

end

-- Timers and the entropy source (R323, R325, R326, R341).

theorem kchResendTimer_outcome (h1 : 1 ≤ s.get (.sbg .spStep) 0 k) (h3 : s.get (.sbg .spStep) 0 k ≤ 3) :
    Completes (.kchResendTimer k) s fun t => t.get (.sbg .spSent) 0 k = (s.get (.sbg .spSent) 0 k + 1) % Counter.size :=
  completes_of exec_kchResendTimer (by simp [h1, h3]) (by simp [State.kchAgain, Counter.size])

/-- The initiator begins a handshake. -/
theorem State.hsStart_initiates (hi : s.initiates k = true) (hr : s.flag (.sbg .rngOk) 0 0 = true) :
    (s.hsStart k).get (.sbg .spStep) 0 k = 1 ∧ (s.hsStart k).get (.sbg .spTxType) 0 k = 1 ∧
      (s.hsStart k).spanState k = spanHandshake ∧ (s.hsStart k).get (.sbg .spHas) 0 k = s.get (.sbg .spHas) 0 k := by
  have hsend : ∀ (u : State) n, (u.kchSend k n).spanState k = u.spanState k := fun u n => by
    simp [State.kchSend, State.spanState, State.winWordAt]
  rw [State.hsStart, if_pos hi, if_pos hr, hsend, State.spanState_show]
  exact ⟨by simp [State.kchSend, State.spanShow, State.spanPut, State.setWin, State.spansFollow],
    by simp [State.kchSend, State.spanShow, State.spanPut, State.setWin, State.spansFollow], rfl,
    by simp [State.kchSend, State.spanShow, State.spanPut, State.setWin, State.spansFollow]⟩

theorem handshakeRetryTimer_outcome (h0 : s.get (.sbg .spStep) 0 k = 0) (hi : s.initiates k = true)
    (hr : s.flag (.sbg .rngOk) 0 0 = true) (hretry : s.flag (.sbg .spRetry) 0 k = true) :
    Completes (.handshakeRetryTimer k) s fun t => t.get (.sbg .spStep) 0 k = 1 ∧ t.get (.sbg .spTxType) 0 k = 1 ∧
      t.spanState k = spanHandshake := by
  obtain ⟨hstep, htype, hstate, -⟩ := State.hsStart_initiates hi hr
  exact completes_of exec_handshakeRetryTimer (by simp [hretry, h0]) ⟨(get_settle_of rfl ..).trans hstep,
    (get_settle_of rfl ..).trans htype, by rw [settle_spanState, hstate]⟩

theorem spanRekeyTimer_outcome (h0 : s.get (.sbg .spStep) 0 k = 0) (hi : s.initiates k = true)
    (hr : s.flag (.sbg .rngOk) 0 0 = true) (hh : s.flag (.sbg .spHas) 0 k = true) :
    Completes (.spanRekeyTimer k) s fun t => t.get (.sbg .spStep) 0 k = 1 ∧ t.get (.sbg .spTxType) 0 k = 1 ∧
      t.flag (.sbg .spHas) 0 k = true := by
  obtain ⟨hstep, htype, -, hhas⟩ := State.hsStart_initiates hi hr
  refine completes_of exec_spanRekeyTimer (by simp [hh, h0]) ⟨(get_settle_of rfl ..).trans hstep,
    (get_settle_of rfl ..).trans htype, ?_⟩
  rw [flag_settle_of rfl, State.flag, hhas]
  exact hh

theorem entropyHealthFail_outcome (hr : s.released 0 = true) : Completes .entropyHealthFail s fun t =>
    t.get (.sbg .rngOk) 0 0 = 0 ∧ t.flag (.live .sbgEntropyFail) 0 0 = true ∧
      t.get (.sbg .nHealthFail) 0 0 = (s.get (.sbg .nHealthFail) 0 0 + 1) % Counter.size :=
  completes_of exec_entropyHealthFail hr (by simp [Counter.size])

theorem entropyRetest_passes (hr : s.released 0 = true) (h0 : s.flag (.sbg .rngOk) 0 0 = false) :
    Completes (.entropyRetest true) s fun t => t.get (.sbg .rngOk) 0 0 = 1 ∧ t.flag (.live .sbgEntropyFail) 0 0 = false :=
  completes_of exec_entropyRetest (by simp [hr, h0]) (by simp)

theorem entropyRetest_fails (hr : s.released 0 = true) (h0 : s.flag (.sbg .rngOk) 0 0 = false) :
    Completes (.entropyRetest false) s fun t => t.flag (.sbg .rngOk) 0 0 = false :=
  completes_of exec_entropyRetest (by simp [hr, h0]) (by simp [h0])

/-- Settles O40: KEY_AGREE and its ends, the timers of a handshake and the tests of the entropy source. -/
theorem keyAgreement : Obligations.KeyAgreement := by
  unfold Obligations.KeyAgreement
  exact fun s k => ⟨keyAgree_outcome, fun hc hid hs htol => ⟨keyAgreeTimeout_noChannel hc hid hs htol,
      keyAgreeTimeout_running hc hid hs htol⟩, kchResendTimer_outcome,
    fun h0 hi hr => ⟨handshakeRetryTimer_outcome h0 hi hr, spanRekeyTimer_outcome h0 hi hr⟩,
    fun hr => ⟨entropyHealthFail_outcome hr, entropyRetest_passes hr, entropyRetest_fails hr⟩⟩

end Sys2Proof.Machine
end

section
/-!
The keys of a container: derivation, delivery, answer and use (R319, R322, R329).
-/
set_option Elab.async false
namespace Sys2Proof.Machine

variable {s t : State} {h : KchHead} {d i k sms ep ctr : Nat}

theorem exec_kchKeyNextRx (l : List KeyEntry) : exec (.kchKeyNextRx h sms l) s = execKchKeyNextRx h sms l s := rfl
theorem exec_kchKeyReadyRx (l : List KeyEntry) : exec (.kchKeyReadyRx h l) s = execKchKeyReadyRx h l s := rfl
theorem exec_kchKeyRefuseRx (l : List KeyEntry) : exec (.kchKeyRefuseRx h l) s = execKchKeyRefuseRx h l s := rfl
theorem exec_rekeyTimer : exec (.rekeyTimer d i) s = execRekeyTimer d i s := rfl
theorem exec_rekeyRetryTimer : exec (.rekeyRetryTimer d i) s = execRekeyRetryTimer d i s := rfl
theorem exec_keyNextResend : exec (.keyNextResend d i) s = execKeyNextResend d i s := rfl
theorem exec_keyFlitRx {slot : KeySlot} {b : Bool} : exec (.keyFlitRx d slot ctr b) s = execKeyFlitRx d slot ctr b s := rfl
theorem exec_wrapNonceRetry : exec (.wrapNonceRetry d) s = execWrapNonceRetry d s := rfl

/-- The state of a transmit key is set; what follows it are alarms. -/
theorem State.txSet_txState (v : Nat) : (s.txSet d i v).get (.cry .txState) d i = v := by
  simp [State.txSet, State.holdFollow]

@[simp] theorem State.txSet_kept {c : Cell} (hc : c ≠ .cry .txState) (hl : c ≠ .live .cryCryptoHold ∧ c ≠ .sticky .cryCryptoHold)
    (ha : c ≠ .live .sbgCryptoHoldAny ∧ c ≠ .sticky .sbgCryptoHoldAny) (v e j : Nat) :
    (s.txSet d i v).get c e j = s.get c e j := by
  rw [State.txSet, State.holdFollow, State.get_cond ha.1 ha.2, State.get_cond hl.1 hl.2, State.get_set_ite,
    if_neg (by simp [hc])]

-- The messages of a rekey (R322, R329).

/-- An entry is judged alike whatever message stands and whatever SEQ was last. -/
theorem State.nextReason_taken (l : List KchMsg) (v : Nat) (e : KeyEntry) :
    (State.set { s with kch := l } (.sbg .spSeqRx) 0 k v).nextReason k sms e = s.nextReason k sms e := by
  have hg : ∀ {c : Cell}, c ≠ .sbg .spSeqRx → ∀ e i,
      (State.set { s with kch := l } (.sbg .spSeqRx) 0 k v).get c e i = s.get c e i := fun {c} hc e i => by
    rw [State.get_set_ite, if_neg (by simp [hc])]
    rfl
  simp only [State.nextReason, State.present, State.ctnMode, State.encOn, State.spanSms, State.winWordAt, State.flag,
    hg (c := .sys .diePresent) (by decide), hg (c := .win .ctCtn) (by decide), hg (c := .win .cryCtx) (by decide),
    hg (c := .win .sbgSpan) (by decide), hg (c := .sbg .spHas) (by decide), hg (c := .cry .rxSms) (by decide),
    hg (c := .cry .rxLast) (by decide)]
  rfl

/-- An entry names its container by home die and local index. -/
theorem ctn_div_mod (hi : i < 512) : (512 * d + i) / 512 = d ∧ (512 * d + i) % 512 = i := by omega

/-- The partner's next key waits in its slot; on the lead die it is there at once. -/
theorem State.rxNextKey_slot (hi : i < 512) : (s.rxNextKey sms ⟨512 * d + i, ep⟩).get (.cry .rxNextEpoch) d i = ep ∧
    (s.rxNextKey sms ⟨512 * d + i, ep⟩).get (.cry .rxNext) d i = if d = 0 then 2 else 1 := by
  obtain ⟨hd, hm⟩ := ctn_div_mod (d := d) hi
  simp only [State.rxNextKey, hd, hm]
  split <;> simp [State.rxInstall]

section
variable (hu : s.kchUp h.on = true) (hk : s.spanOn h.on = some k) (hp : h.sender = s.spanPartner k) (htag : h.tagOk = true)
  (hseq : s.get (.sbg .spSeqRx) 0 k < h.seq)
include hu hk hp htag hseq

theorem kchKeyNextRx_installs (hi : i < 512) (ht : (s.kchTake h 0x10).isSome = true)
    (hr : s.nextReason k sms ⟨512 * d + i, ep⟩ = 0) :
    Completes (.kchKeyNextRx h sms [⟨512 * d + i, ep⟩]) s fun t => t.get (.cry .rxNextEpoch) d i = ep ∧
      t.get (.cry .rxNext) d i = (if d = 0 then 2 else 1) ∧ t.get (.sbg .spTxType) 0 k = 0x11 := by
  refine completes_of (exec_kchKeyNextRx _) hu ?_
  obtain ⟨l, hl⟩ := State.kchRecv_tagged ht hk hp (by decide) htag hseq
  rw [hl]
  simp only [List.filter_cons, State.nextReason_taken, hr, List.filter_nil, decide_true, if_true, State.each_one]
  rw [if_neg (by simp)]
  obtain ⟨hep, hslot⟩ := State.rxNextKey_slot (s := State.set { s with kch := l } (.sbg .spSeqRx) 0 k h.seq) (d := d)
    (sms := sms) (ep := ep) hi
  exact ⟨by simpa [State.kchSend] using hep, by simpa [State.kchSend] using hslot, by simp [State.kchSend]⟩

theorem kchKeyNextRx_refuses (ht : (s.kchTake h 0x10).isSome = true) (hr : s.nextReason k sms ⟨512 * d + i, ep⟩ ≠ 0) :
    Completes (.kchKeyNextRx h sms [⟨512 * d + i, ep⟩]) s fun t => t.get (.sbg .spTxType) 0 k = 0x12 ∧
      t.get (.cry .rxNext) d i = s.get (.cry .rxNext) d i := by
  refine completes_of (exec_kchKeyNextRx _) hu ?_
  obtain ⟨l, hl⟩ := State.kchRecv_tagged ht hk hp (by decide) htag hseq
  rw [hl]
  simp [State.nextReason_taken, hr, State.each, State.kchSend]

theorem kchKeyReadyRx_outcome (hd : d < 8) (hi : i < 512) (ht : (s.kchTake h 0x11).isSome = true)
    (hn : s.get (.cry .txNext) d i = 2) (he : s.get (.cry .txNextEpoch) d i = ep)
    (hc : s.get (.cry .frameCtr) d i < 2 ^ 64 - 1) : Completes (.kchKeyReadyRx h [⟨512 * d + i, ep⟩]) s fun t =>
      t.get (.cry .txEpoch) d i = ep ∧ t.get (.cry .txNext) d i = 0 ∧ t.get (.cry .txFrames) d i = 0 ∧
        t.get (.cry .txState) d i = cryActive ∧ t.flag (.live .cryRekeyLate) d i = false ∧
        t.get (.cry .nRekey) d i = (s.get (.cry .nRekey) d i + 1) % Counter.size := by
  refine completes_of (exec_kchKeyReadyRx _) hu ?_
  obtain ⟨l, hl⟩ := State.kchRecv_tagged ht hk hp (by decide) htag hseq
  obtain ⟨hdiv, hmod⟩ := ctn_div_mod (d := d) hi
  have hnext : (State.set { s with kch := l } (.sbg .spSeqRx) 0 k h.seq).get (.cry .txNext) d i = 2 := by simpa using hn
  have hep : (State.set { s with kch := l } (.sbg .spSeqRx) 0 k h.seq).get (.cry .txNextEpoch) d i = ep := by simpa using he
  rw [hl]
  simp only [State.each_one, hdiv, hmod]
  rw [if_pos ⟨hnext, hep, hd⟩]
  have hkept : ∀ {c : Cell} (u : State), c ≠ .boot .procCalled → c ≠ .boot .procDone → c ≠ .boot .procCode →
      c ≠ .sbg .kaSpan → c ≠ .sbg .spOld → ∀ e j, ((u.oldSms k).kaCheck k).get c e j = u.get c e j :=
    fun {c} u h1 h2 h3 h4 h5 e j =>
      Reach.get_in (g := fun c => !(decide (c = .boot .procCalled) || decide (c = .boot .procDone) ||
          decide (c = .boot .procCode) || decide (c = .sbg .kaSpan) || decide (c = .sbg .spOld)))
        (by apply State.kaCheck_reach (State.oldSms_reach Reach.refl fun _ => rfl) <;> intros <;> rfl)
        (by simp [h1, h2, h3, h4, h5]) e j
  rw [State.txSwitch, if_neg (by simp; omega)]
  refine ⟨?_, ?_, ?_, ?_, ?_, ?_⟩
  · simp [hkept, State.lateFollow, hep]
  · simp [hkept, State.lateFollow]
  · simp [hkept, State.lateFollow]
  · simp [hkept, State.lateFollow, State.txSet_txState]
  · rw [flag_settle_of rfl, State.flag, hkept _ (by decide) (by decide) (by decide) (by decide) (by decide)]
    have hlate : ∀ u : State, u.get (.cry .txFrames) d i = 0 → (u.lateFollow d i).flag (.live .cryRekeyLate) d i = false :=
      fun u h0 => by simp [State.lateFollow, h0]
    exact hlate _ (by simp)
  · simp [hkept, State.lateFollow, Counter.size]

theorem kchKeyRefuseRx_outcome (hd : d < 8) (hi : i < 512) (ht : (s.kchTake h 0x12).isSome = true)
    (hn : s.get (.cry .txNext) d i ≠ 0) (he : s.get (.cry .txNextEpoch) d i = ep) :
    Completes (.kchKeyRefuseRx h [⟨512 * d + i, ep⟩]) s fun t => t.get (.cry .txNext) d i = 0 ∧
      t.get (.cry .txRetry) d i = 1 ∧ t.flag (.sticky .cryRekeyLate) d i = true := by
  refine completes_of (exec_kchKeyRefuseRx _) hu ?_
  obtain ⟨l, hl⟩ := State.kchRecv_tagged ht hk hp (by decide) htag hseq
  obtain ⟨hdiv, hmod⟩ := ctn_div_mod (d := d) hi
  rw [hl]
  simp only [State.each_one, hdiv, hmod]
  rw [if_pos ⟨by simpa using hn, by simpa using he, hd⟩]
  simp

end

-- Rekeying (R329).

section
variable (henc : s.encOn d i = true) (hk : s.spanOf (512 * d + i) = some k) (hh : s.flag (.sbg .spHas) 0 k = true)
include hk hh

/-- A rekey that starts: the next key is on its way, and KEY_NEXT goes out. -/
theorem State.rekeyStart_starts (hn : s.get (.cry .txNext) d i = 0) :
    (s.rekeyStart d i).get (.cry .txNext) d i = (if d = 0 then 2 else 1) ∧ (s.rekeyStart d i).get (.cry .txRetry) d i = 0 ∧
      (s.rekeyStart d i).get (.sbg .spTxType) 0 k = 0x10 ∧
      (s.get (.cry .txState) d i = cryActive → (s.rekeyStart d i).get (.cry .txState) d i = cryRekeying) := by
  have hno : s.flag (.cry .txNext) d i = false := by simp [State.flag, hn]
  simp only [State.rekeyStart, hk]
  rw [if_neg (by simp [hh, hno])]
  refine ⟨by simp [State.kchSend], by simp [State.kchSend], by simp [State.kchSend], fun ha => ?_⟩
  simp [State.kchSend, ha, State.txSet_txState]

include henc

theorem rekeyTimer_outcome (hn : s.get (.cry .txNext) d i = 0) (ha : s.get (.cry .txState) d i = cryActive) :
    Completes (.rekeyTimer d i) s fun t => t.get (.cry .txNext) d i = (if d = 0 then 2 else 1) ∧
      t.get (.cry .txState) d i = cryRekeying ∧ t.get (.sbg .spTxType) 0 k = 0x10 := by
  obtain ⟨hnext, -, htype, hstate⟩ := State.rekeyStart_starts hk hh hn
  exact completes_of exec_rekeyTimer (by simp [henc, ha]) ⟨(get_settle_of rfl ..).trans hnext,
    (get_settle_of rfl ..).trans (hstate ha), (get_settle_of rfl ..).trans htype⟩

theorem rekeyRetryTimer_outcome (hn : s.get (.cry .txNext) d i = 0) (hr : s.flag (.cry .txRetry) d i = true) :
    Completes (.rekeyRetryTimer d i) s fun t => t.get (.cry .txNext) d i = (if d = 0 then 2 else 1) ∧
      t.get (.cry .txRetry) d i = 0 ∧ t.get (.sbg .spTxType) 0 k = 0x10 := by
  obtain ⟨hnext, hretry, htype, -⟩ := State.rekeyStart_starts hk hh hn
  exact completes_of exec_rekeyRetryTimer (by simp [henc, hr]) ⟨(get_settle_of rfl ..).trans hnext,
    (get_settle_of rfl ..).trans hretry, (get_settle_of rfl ..).trans htype⟩

end

theorem keyNextResend_outcome (hk : s.spanOf (512 * d + i) = some k) (hn : s.get (.cry .txNext) d i ≠ 0) :
    Completes (.keyNextResend d i) s fun t => t.get (.sbg .spSent) 0 k = (s.get (.sbg .spSent) 0 k + 1) % Counter.size :=
  completes_of exec_keyNextResend (by simpa [State.flag] using hn) (by simp [hk, State.kchAgain, Counter.size])

-- Key flits (R319).

section
variable (hu : s.up d = true) (hd : d ≠ 0)
include hu hd

theorem keyFlitRx_tx (hw : s.flag (.sbg .kwOk) 0 d = true) (hf : s.flitWaits d (.tx i) = true)
    (hr : s.flag (.cry .restore) d (2 * i) = false) (hc : s.get (.sbg .wrapCtr) 0 d < ctr) :
    Completes (.keyFlitRx d (.tx i) ctr true) s fun t =>
      t.get (.sbg .wrapCtr) 0 d = ctr ∧ t.get (.cry .txNext) d i = 2 :=
  completes_of exec_keyFlitRx (by simp [hu, hd, hw, hf]) (by simp [hc, State.flitIn, hr])

theorem keyFlitRx_xts (hw : s.flag (.sbg .kwOk) 0 d = true) (hf : s.flitWaits d .xts = true)
    (hc : s.get (.sbg .wrapCtr) 0 d < ctr) : Completes (.keyFlitRx d .xts ctr true) s fun t =>
      t.get (.pan .xtsReady) d 0 = 1 ∧ t.get (.sbg .xtsPend) 0 d = 0 :=
  completes_of exec_keyFlitRx (by simp [hu, hd, hw, hf]) (by simp [hc, State.flitIn])

theorem keyFlitRx_stale (hw : s.flag (.sbg .kwOk) 0 d = true) (hf : s.flitWaits d (.rx i) = true)
    (hc : ctr ≤ s.get (.sbg .wrapCtr) 0 d) : Completes (.keyFlitRx d (.rx i) ctr true) s fun t =>
      t.flag (.sticky .sbgWrapFail) 0 0 = true ∧ t.get (.sbg .wrapCtr) 0 d = s.get (.sbg .wrapCtr) 0 d ∧
        t.get (.sbg .nWrapFail) 0 0 = (s.get (.sbg .nWrapFail) 0 0 + 1) % Counter.size := by
  refine completes_of exec_keyFlitRx (by simp [hu, hd, hw, hf]) ?_
  rw [if_neg (by simp; omega)]
  dsimp only
  split <;> simp [State.flitLost, State.flitFailSet, Counter.size]

theorem wrapNonceRetry_outcome (hw : s.flag (.sbg .kwOk) 0 d = false) (hr : s.flag (.sbg .rngOk) 0 0 = true) :
    Completes (.wrapNonceRetry d) s fun t => t.get (.sbg .kwOk) 0 d = 1 ∧ t.get (.sbg .wrapCtr) 0 d = 0 :=
  completes_of exec_wrapNonceRetry (by simp [hu, hd, hw]) (by simp [State.wrapNonce, hr])

end

/-- Settles O39: the messages of a rekey, its timers and the key flits, one lemma each.  That the sealer moves to the new key
at KEY_READY is the model's choice (log 24). -/
theorem containerKeys : Obligations.ContainerKeys := by
  unfold Obligations.ContainerKeys
  exact fun s h d i k sms ep ctr => ⟨fun hu hk hp htag hseq hd hi => ⟨kchKeyNextRx_installs hu hk hp htag hseq hi,
      kchKeyNextRx_refuses hu hk hp htag hseq, kchKeyReadyRx_outcome hu hk hp htag hseq hd hi,
      kchKeyRefuseRx_outcome hu hk hp htag hseq hd hi⟩,
    fun henc hk hh => ⟨rekeyTimer_outcome henc hk hh, rekeyRetryTimer_outcome henc hk hh, keyNextResend_outcome hk⟩,
    fun hu hd => ⟨keyFlitRx_tx hu hd, keyFlitRx_xts hu hd, keyFlitRx_stale hu hd, wrapNonceRetry_outcome hu hd⟩⟩

end Sys2Proof.Machine
end

section
/-!
Seals, verdicts and frames that leave toward the host (R235, R327 to R336, R395).
-/
set_option Elab.async false
namespace Sys2Proof.Machine

variable {s t : State} {d i p : Nat} {f : SealCopy} {g : EgressFrame} {m : Ptp}

theorem exec_containerFrameSeal : exec (.containerFrameSeal d i) s = execContainerFrameSeal d i s := rfl
theorem exec_sealVerdict : exec (.sealVerdict d i f) s = execSealVerdict d i f s := rfl
theorem exec_rxOldKeyErase : exec (.rxOldKeyErase d i) s = execRxOldKeyErase d i s := rfl
theorem exec_hostFrameStart : exec (.hostFrameStart d p g) s = execHostFrameStart d p g s := rfl

-- Sealing (R327, R328).

/-- With no word of the CRY_CTX window scheduled nothing takes effect. -/
theorem State.cryApply_none (h : s.listed (.winDirty .cryCtx) d = []) : s.cryApply d i = s := by
  simp [State.cryApply, h]

/-- A frame of an encrypted container, with no scheduled words. -/
theorem containerFrameSeal_effect {P : State → Prop} (hu : s.up d = true) (hm : s.ctnMode d i = 1 ∨ s.ctnMode d i = 2)
    (he : s.encOn d i = true) (hl : s.listed (.winDirty .cryCtx) d = [])
    (hP : P (settle s (if s.get (.cry .txState) d i = cryNokey ∨ s.get (.cry .txState) d i = cryHold then
        s.inc (.cry .nHoldFrames) d i
      else if s.get (.cry .frameCtr) d i = 2 ^ 64 - 1 then (s.cryEnterHold d i).inc (.cry .nHoldFrames) d i
      else s.sealFrame d i))) : Completes (.containerFrameSeal d i) s P := by
  refine completes_of exec_containerFrameSeal (by simpa [hu] using hm) ?_
  rw [State.cryApply_none hl, if_neg (by simp [he])]
  exact hP

/-- The alarm of a late rekey leaves every other cell. -/
@[simp] theorem State.lateFollow_kept {c : Cell} (hc : c ≠ .live .cryRekeyLate ∧ c ≠ .sticky .cryRekeyLate) (e j : Nat) :
    (s.lateFollow d i).get c e j = s.get c e j := State.get_cond hc.1 hc.2 ..

section
variable (hu : s.up d = true) (he : s.encOn d i = true) (hm : s.ctnMode d i = 1 ∨ s.ctnMode d i = 2)
  (hl : s.listed (.winDirty .cryCtx) d = [])
include hu he hm hl

theorem containerFrameSeal_seals (ha : s.get (.cry .txState) d i = cryActive) (hc : s.get (.cry .frameCtr) d i < 2 ^ 64 - 1)
    (hr : s.get (.cry .txFrames) d i + 1 < 2 ^ s.get (.cry .rekeyLog2) d 0) (hn : s.get (.cry .txFrames) d i + 1 < 2 ^ 32) :
    Completes (.containerFrameSeal d i) s fun t => t.get (.cry .frameCtr) d i = s.get (.cry .frameCtr) d i + 1 ∧
      t.get (.cry .txFrames) d i = s.get (.cry .txFrames) d i + 1 ∧ t.get (.cry .txState) d i = cryActive ∧
      t.get (.cry .nSealed) d i = (s.get (.cry .nSealed) d i + 1) % Counter.size := by
  refine containerFrameSeal_effect hu hm he hl ?_
  have hlog : ¬ 2 ^ s.get (.cry .rekeyLog2) d 0 ≤ s.get (.cry .txFrames) d i + 1 := by omega
  rw [if_neg (by simp [ha, cryActive, cryNokey, cryHold]), if_neg (by omega)]
  simp only [State.sealFrame]
  rw [if_neg (by omega), decide_eq_false hlog, Bool.false_and]
  simp [State.when, ha, Counter.size]

theorem containerFrameSeal_holds (ha : s.get (.cry .txState) d i = cryActive) (hc : s.get (.cry .frameCtr) d i < 2 ^ 64 - 1)
    (hn : s.get (.cry .txFrames) d i + 1 = 2 ^ 32) : Completes (.containerFrameSeal d i) s fun t =>
      t.get (.cry .txState) d i = cryHold ∧ t.flag (.live .cryCryptoHold) d i = true := by
  refine containerFrameSeal_effect hu hm he hl ?_
  rw [if_neg (by simp [ha, cryActive, cryNokey, cryHold]), if_neg (by omega)]
  simp only [State.sealFrame]
  rw [if_pos hn, State.cryEnterHold]
  refine ⟨by rw [get_settle_of rfl, State.txSet_txState], ?_⟩
  rw [flag_settle_of rfl, State.txSet, State.holdFollow, State.flag_cond_ne (by decide), State.flag_cond_live]
  rfl

theorem containerFrameSeal_held (ha : s.get (.cry .txState) d i = cryNokey ∨ s.get (.cry .txState) d i = cryHold) :
    Completes (.containerFrameSeal d i) s fun t => t.get (.cry .frameCtr) d i = s.get (.cry .frameCtr) d i ∧
      t.get (.cry .nHoldFrames) d i = (s.get (.cry .nHoldFrames) d i + 1) % Counter.size := by
  refine containerFrameSeal_effect hu hm he hl ?_
  rw [if_pos ha]
  simp [Counter.size]

end

-- Verdicts (R331).

/-- What follows a failed verdict: the run, the substitution and Drafting release. -/
abbrev verdictKept : Cell → Bool
  | .cry .highest | .cry .nReplay | .cry .nTagMissing | .cry .failRun | .cry .nSealFail | .sticky .cryKeyUnknown
  | .sticky .cryReplay => true
  | _ => false

theorem State.failEnd_kept {c : Cell} (hc : verdictKept c = true) (b : Bool) (e j : Nat) :
    (((s.runFollow d i).when b fun s => s.set (.tdm .seal) d i 1).draftFail d i f).get c e j = s.get c e j :=
  Reach.get_in (g := verdictKept) (by
    apply State.draftFail_reach (State.when_reach
      (State.runFollow_reach Reach.refl (fun _ => rfl) (fun _ => rfl) rfl) fun _ hx => State.set_reach hx rfl) <;>
    intros <;> rfl) hc ..

/-- A condition that begins or ends clears no sticky bit. -/
theorem State.cond_sticky {a : Alm} {e j : Nat} (h : s.flag (.sticky a) e j = true) (b : Bool) :
    (s.cond a d i b).flag (.sticky a) e j = true := by
  cases b
  · simpa [State.cond] using h
  · simp only [State.cond, if_true, State.raise, State.raiseAt, State.stick]
    grind [State.flag, State.get_set, State.get_report]

/-- A failed verdict stays shown through what follows it. -/
theorem State.failEnd_sticky (b : Bool) (h : s.flag (.sticky .crySealFail) d i = true) :
    (((s.runFollow d i).when b fun s => s.set (.tdm .seal) d i 1).draftFail d i f).flag (.sticky .crySealFail) d i = true := by
  have hdraft : ∀ u : State, (u.draftFail d i f).flag (.sticky .crySealFail) d i = u.flag (.sticky .crySealFail) d i :=
    fun u => Reach.flag_eq (by apply State.draftFail_reach Reach.refl <;> intros <;> rfl) ..
  rw [hdraft, State.flag_when_ite]
  have hrun : (s.runFollow d i).flag (.sticky .crySealFail) d i = true := State.cond_sticky h _
  split
  · simpa using hrun
  · exact hrun

/-- What a verdict that passes writes of the container: its counters, and the key that it verifies. -/
def State.passMarks (s : State) (d i : Nat) (f : SealCopy) : State :=
  let path := f.protect.toNat
  let s1 := (((s.incIf (!f.protect) (.cry .nVerified) d i).set (.cry .highest) d (512 * path + i) f.ctr).set (.cry .failRun) d
    (512 * path + i) 0)
  if s1.keyFor d i f.kid = 2 then s1.promote d i path else s1.seenOn d i path f.kid

/-- The run of failures and KEY_AGREE follow and leave those cells. -/
theorem State.sealPass_marks (j : CryCell) (e n : Nat) :
    (s.sealPass d i f).get (.cry j) e n = (s.passMarks d i f).get (.cry j) e n := by
  have hcheck : ∀ (u : State) k, (u.kaCheck k).get (.cry j) e n = u.get (.cry j) e n := fun u k =>
    Reach.get_in (g := fun c => c matches .cry _) (by apply State.kaCheck_reach Reach.refl <;> intros <;> rfl) rfl ..
  have hrun : ∀ u : State, (u.runFollow d i).get (.cry j) e n = u.get (.cry j) e n := fun u =>
    State.get_cond (by simp) (by simp) ..
  unfold State.sealPass
  dsimp only
  split
  · rw [hcheck, hrun]
    rfl
  · rw [hrun]
    rfl

section
variable (hu : s.up d = true) (he : s.encOn d i = true) (hf : f.protect = false)
include hu he hf

/-- The verdict on a frame of the working path: the key, the counter, the tag. -/
theorem sealVerdict_effect {P : State → Prop} (hP : P (settle s (
      if s.keyFor d i f.kid = 0 then s.sealFail d i f 1
      else if f.ctr ≤ s.get (.cry .highest) d i then s.sealFail d i f 2
      else if !f.tagHere then s.sealFail d i f 3
      else if f.tagOk then s.sealPass d i f else s.sealFail d i f 4))) : Completes (.sealVerdict d i f) s P :=
  completes_of exec_sealVerdict (by simp [hu, he, hf]) (by simpa [hf] using hP)

theorem sealVerdict_noKey (hk : s.keyFor d i f.kid = 0) : Completes (.sealVerdict d i f) s fun t =>
    t.flag (.sticky .cryKeyUnknown) d i = true ∧ t.flag (.sticky .crySealFail) d i = true ∧
      t.get (.cry .highest) d i = s.get (.cry .highest) d i ∧
      t.get (.cry .nSealFail) d i = (s.get (.cry .nSealFail) d i + 1) % Counter.size := by
  refine sealVerdict_effect hu he hf ?_
  rw [if_pos hk]
  simp only [State.sealFail, hf, Bool.false_eq_true, if_false]
  refine ⟨?_, ?_, ?_, ?_⟩
  · rw [flag_settle_of rfl, State.flag, State.failEnd_kept rfl, ← State.flag]
    simp
  · rw [flag_settle_of rfl]
    exact State.failEnd_sticky _ (by simp)
  · rw [get_settle_of rfl, State.failEnd_kept rfl]
    simp
  · rw [get_settle_of rfl, State.failEnd_kept rfl]
    simp [Counter.size]

theorem sealVerdict_replay (hk : s.keyFor d i f.kid ≠ 0) (hc : f.ctr ≤ s.get (.cry .highest) d i) :
    Completes (.sealVerdict d i f) s fun t => t.flag (.sticky .cryReplay) d i = true ∧
      t.get (.cry .nReplay) d i = (s.get (.cry .nReplay) d i + 1) % Counter.size ∧
      t.get (.cry .highest) d i = s.get (.cry .highest) d i := by
  refine sealVerdict_effect hu he hf ?_
  rw [if_neg hk, if_pos hc]
  simp only [State.sealFail, hf, Bool.false_eq_true, if_false]
  refine ⟨?_, ?_, ?_⟩
  · rw [flag_settle_of rfl, State.flag, State.failEnd_kept rfl, ← State.flag]
    simp
  · rw [get_settle_of rfl, State.failEnd_kept rfl]
    simp [Counter.size]
  · rw [get_settle_of rfl, State.failEnd_kept rfl]
    simp

theorem sealVerdict_noTag (hk : s.keyFor d i f.kid ≠ 0) (hc : s.get (.cry .highest) d i < f.ctr) (ht : f.tagHere = false) :
    Completes (.sealVerdict d i f) s fun t =>
      t.get (.cry .nTagMissing) d i = (s.get (.cry .nTagMissing) d i + 1) % Counter.size ∧
        t.get (.cry .failRun) d i = min 8 (s.get (.cry .failRun) d i + 1) := by
  refine sealVerdict_effect hu he hf ?_
  rw [if_neg hk, if_neg (by omega), if_pos (by simp [ht])]
  simp only [State.sealFail, hf, Bool.false_eq_true, if_false]
  refine ⟨?_, ?_⟩
  · rw [get_settle_of rfl, State.failEnd_kept rfl]
    simp [Counter.size]
  · rw [get_settle_of rfl, State.failEnd_kept rfl]
    simp

theorem sealVerdict_badTag (hk : s.keyFor d i f.kid ≠ 0) (hc : s.get (.cry .highest) d i < f.ctr) (ht : f.tagHere = true)
    (hok : f.tagOk = false) : Completes (.sealVerdict d i f) s fun t =>
      t.get (.cry .highest) d i = s.get (.cry .highest) d i ∧
        t.get (.cry .nSealFail) d i = (s.get (.cry .nSealFail) d i + 1) % Counter.size := by
  refine sealVerdict_effect hu he hf ?_
  rw [if_neg hk, if_neg (by omega), if_neg (by simp [ht]), if_neg (by simp [hok])]
  simp only [State.sealFail, hf, Bool.false_eq_true, if_false]
  refine ⟨?_, ?_⟩
  · rw [get_settle_of rfl, State.failEnd_kept rfl]
    simp
  · rw [get_settle_of rfl, State.failEnd_kept rfl]
    simp [Counter.size]

theorem sealVerdict_passes (hk : s.keyFor d i f.kid ≠ 0) (hc : s.get (.cry .highest) d i < f.ctr) (ht : f.tagHere = true)
    (hok : f.tagOk = true) : Completes (.sealVerdict d i f) s fun t =>
      t.get (.cry .highest) d i = f.ctr ∧ t.get (.cry .failRun) d i = 0 ∧
        t.get (.cry .nVerified) d i = (s.get (.cry .nVerified) d i + 1) % Counter.size ∧
        (s.keyFor d i f.kid = 2 → t.get (.cry .rxEpoch) d i = s.get (.cry .rxNextEpoch) d i ∧
          t.get (.cry .rxNext) d i = 0) := by
  refine sealVerdict_effect hu he hf ?_
  rw [if_neg hk, if_neg (by omega), if_neg (by simp [ht]), if_pos hok]
  set u := ((s.inc (.cry .nVerified) d i).set (.cry .highest) d i f.ctr).set (.cry .failRun) d i 0 with hu'
  have hmarks : s.passMarks d i f = if u.keyFor d i f.kid = 2 then u.promote d i 0 else u.seenOn d i 0 f.kid := by
    simp [State.passMarks, hf, hu', State.incIf]
  have hkey : u.keyFor d i f.kid = s.keyFor d i f.kid := by simp [hu', State.keyFor]
  have hseen : ∀ {c : Cell}, c ≠ .cry .rxSeen → c ≠ .cry .rxOld → ∀ e n, (u.seenOn d i 0 f.kid).get c e n = u.get c e n :=
    fun {c} h1 h2 e n => Reach.get_in (g := fun c => !(decide (c = .cry .rxSeen) || decide (c = .cry .rxOld)))
      (by apply State.seenOn_reach Reach.refl <;> intros <;> rfl) (by simp [h1, h2]) e n
  simp only [get_settle_of (c := .cry _) rfl, State.sealPass_marks, hmarks, hkey]
  by_cases h2 : s.keyFor d i f.kid = 2
  · simp [h2, State.promote, hu', Counter.size]
  · simp only [h2, if_false, hseen (c := .cry .highest) (by decide) (by decide),
      hseen (c := .cry .failRun) (by decide) (by decide), hseen (c := .cry .nVerified) (by decide) (by decide)]
    simp [hu', Counter.size]

end

theorem rxOldKeyErase_outcome (h : s.flag (.cry .rxOld) d i = true) :
    Completes (.rxOldKeyErase d i) s fun t => t.get (.cry .rxOld) d i = 0 :=
  completes_of exec_rxOldKeyErase h (by simp)

-- Frames toward the host (R333, R336, R395).

section
variable (hp : s.packetUp d p = true) (hm : s.mayStart d p g = true)
include hp hm

/-- A frame that may start is counted, and the transparent clock works on it. -/
theorem hostFrameStart_effect {P : State → Prop} (hh : g.headIn = true ∨ g.ptp = none)
    (hP : P (settle s (((s.inc (.hl .nTxFrames) d p).add (.hl .nTxBytes) d p g.len).ptpFar d p g))) :
    Completes (.hostFrameStart d p g) s P := by
  obtain ⟨⟨hu, hmode⟩, hup⟩ : (s.up d = true ∧ s.get (.hl .mode) d p = 1) ∧ s.get (.hl .pState) d p = prtUp := by
    simp only [State.packetUp, Bool.and_eq_true, decide_eq_true_eq] at hp
    exact hp
  exact completes_of exec_hostFrameStart (by simpa [hu, hmode, hup, hm] using hh) hP

theorem hostFrameStart_plain (hptp : g.ptp = none) : Completes (.hostFrameStart d p g) s fun t =>
    t.get (.hl .nTxFrames) d p = (s.get (.hl .nTxFrames) d p + 1) % Counter.size ∧
      t.get (.hl .nTxBytes) d p = (s.get (.hl .nTxBytes) d p + g.len) % Counter.size :=
  hostFrameStart_effect hp hm (.inr hptp) (by simp [State.ptpFar, hptp, Counter.size])

theorem hostFrameStart_sync (hh : g.headIn = true) (hptp : g.ptp = some m) (hk : m.kind = 1) (hb : bit m.mark 31 = true)
    (hmode : s.get (.tim .tcMode) 0 0 = 1) : Completes (.hostFrameStart d p g) s fun t =>
      t.get (.hl .nTxFrames) d p = (s.get (.hl .nTxFrames) d p + 1) % Counter.size ∧
        t.get (.tim .nTcCorr) 0 0 = (s.get (.tim .nTcCorr) 0 0 + 1) % Counter.size ∧
        t.get (.tim .ptpCorr) d p = residence (g.rawTime + s.get (.hl .corrTx) d p) m.mark * 256 ∧
        (s.tsLocked = false → t.flag (.sticky .timTcUnsync) 0 0 = true) := by
  refine hostFrameStart_effect hp hm (.inl hh) ?_
  set u := (s.inc (.hl .nTxFrames) d p).add (.hl .nTxBytes) d p g.len with hu
  have hlock : u.tsLocked = s.tsLocked := by simp [hu, State.tsLocked]
  have hfar : u.ptpFar d p g = ((u.when (!s.tsLocked) fun s => (s.inc (.tim .nTcUnsync) 0 0).event .timTcUnsync 0 0).inc
      (.tim .nTcCorr) 0 0).set (.tim .ptpCorr) d p (residence (g.rawTime + s.get (.hl .corrTx) d p) m.mark * 256) := by
    have hmode' : u.get (.tim .tcMode) 0 0 = 1 := by simpa [hu] using hmode
    have hcorr : u.get (.hl .corrTx) d p = s.get (.hl .corrTx) d p := by simp [hu]
    simp only [State.ptpFar, hptp, hmode', hlock, hcorr]
    rw [if_neg (by decide), if_pos ⟨.inl hk, hb⟩, if_neg (by simp)]
  rw [hfar]
  refine ⟨by simp [hu, Counter.size], by simp [hu, Counter.size], by simp, fun hno => by simp [hno]⟩

end

/-- Settles O41: sealing by the state of the key, the verdicts in the order of their checks, and the frames that start. -/
theorem seals : Obligations.Seals := by
  unfold Obligations.Seals
  exact ⟨fun s d i f hu he => ⟨fun hm hl => ⟨containerFrameSeal_seals hu he hm hl, containerFrameSeal_holds hu he hm hl,
      containerFrameSeal_held hu he hm hl⟩,
    fun hf => ⟨sealVerdict_noKey hu he hf, sealVerdict_replay hu he hf, sealVerdict_noTag hu he hf,
      sealVerdict_passes hu he hf, sealVerdict_badTag hu he hf⟩, rxOldKeyErase_outcome⟩,
    fun s d p f m hp hm => ⟨hostFrameStart_plain hp hm, hostFrameStart_sync hp hm⟩⟩

end Sys2Proof.Machine
end

section
/-!
The Bell channel: what a carrier sends, reception, the messages and discovery (R350 to R364).
-/
set_option Elab.async false
namespace Sys2Proof.Machine

variable {s t : State} {d ty reason loc : Nat} {m : BellMsg} {desc : List Nat}

theorem exec_bellTxMessageStart : exec (.bellTxMessageStart d) s = execBellTxMessageStart d s := rfl
theorem exec_bellTxDone : exec (.bellTxDone d) s = execBellTxDone d s := rfl
theorem exec_bellPathChange : exec (.bellPathChange d) s = execBellPathChange d s := rfl
theorem exec_bellHelloTimer : exec (.bellHelloTimer d) s = execBellHelloTimer d s := rfl
theorem exec_bellParkedTimer : exec (.bellParkedTimer d) s = execBellParkedTimer d s := rfl
theorem exec_bellWakeTimer : exec (.bellWakeTimer d) s = execBellWakeTimer d s := rfl
theorem exec_bellLastGaspRx : exec (.bellLastGaspRx d m reason loc) s = execBellLastGaspRx d m reason loc s := rfl
theorem exec_bellParkedRx : exec (.bellParkedRx d m) s = execBellParkedRx d m s := rfl
theorem exec_bellWakeRx : exec (.bellWakeRx d m) s = execBellWakeRx d m s := rfl
theorem exec_peerParkedTimeout : exec (.peerParkedTimeout d) s = execPeerParkedTimeout d s := rfl
theorem exec_bellCompatRx {b : Bool} : exec (.bellCompatRx d b ty m reason) s = execBellCompatRx d b ty m reason s := rfl
theorem exec_bellDetect {b : Bool} : exec (.bellDetect d b) s = execBellDetect d b s := rfl
theorem exec_bellNoiseUpdate {n : Int} : exec (.bellNoiseUpdate d n) s = execBellNoiseUpdate d n s := rfl
theorem exec_bellSyncFound {r : Int} {b : Bool} : exec (.bellSyncFound d r b) s = execBellSyncFound d r b s := rfl
theorem exec_bellSyncTimeout : exec (.bellSyncTimeout d) s = execBellSyncTimeout d s := rfl
theorem exec_bellHeaderDone {b : Bool} : exec (.bellHeaderDone d b) s = execBellHeaderDone d b s := rfl
theorem exec_bellSignalFade : exec (.bellSignalFade d) s = execBellSignalFade d s := rfl
theorem exec_bellBodyDone {b : Bool} : exec (.bellBodyDone d b) s = execBellBodyDone d b s := rfl
theorem exec_bellCapture {r : Int} {b : Bool} : exec (.bellCapture d r b) s = execBellCapture d r b s := rfl
theorem exec_bellDiscover : exec (.bellDiscover d) s = execBellDiscover d s := rfl
theorem exec_bellDiscoverTimeout : exec (.bellDiscoverTimeout d) s = execBellDiscoverTimeout d s := rfl
theorem exec_bellNotAvailableTimeout : exec (.bellNotAvailableTimeout d) s = execBellNotAvailableTimeout d s := rfl
theorem exec_derRediscoverTimer : exec (.derRediscoverTimer d) s = execDerRediscoverTimer d s := rfl
theorem exec_bellHelloRx : exec (.bellHelloRx d m desc) s = execBellHelloRx d m desc s := rfl

/-- Another bit of a word keeps its value. -/
theorem bit_putBit_ne {i j : Nat} (h : i ≠ j) (x : Nat) (b : Bool) : bit (putBit x i b) j = bit x j := by
  have hbits : bits (putBits x i 1 b.toNat) j 1 = bits x j 1 := by
    rcases Nat.lt_or_gt_of_ne h with hlt | hgt
    · exact bits_putBits_above (by omega) ..
    · exact bits_putBits_below (by omega) ..
  rw [bits, bits, Nat.pow_one] at hbits
  rw [bit, bit, putBit, hbits]

-- What follows the messages of a carrier (R353).

/-- The cells of the keying bias points and the sender's state: what the followers of a message write. -/
abbrev bellKept : Cell → Bool
  | .bell .pend | .bell .txState => false
  | .bell _ | .sys _ | .boot _ | .ao _ => true
  | _ => false

@[simp] theorem State.bellFollow_kept {c : Cell} (h : bellKept c = true) (e i : Nat) :
    (s.bellFollow d).get c e i = s.get c e i :=
  Reach.get_in (g := bellKept) (by apply State.bellFollow_reach Reach.refl <;> intros <;> rfl) h ..

/-- A message other than LAST_GASP stays pending. -/
theorem State.bellFollow_pending (h : ty ≠ bellGasp) : (s.bellFollow d).bellPending d ty = s.bellPending d ty := by
  have hne : 1 ≠ ty - 1 := by
    rw [bellGasp] at h
    omega
  have hpend : ∀ u : State, (u.bellPend d bellGasp false).bellPending d ty = u.bellPending d ty := fun u => by
    simp [State.bellPend, State.bellPending, bellGasp, bit_putBit_ne hne]
  have hend : ∀ (u : State) v b, ((u.set (.bell .txState) d 0 v).cond .bellTxBlocked d 0 b).bellPending d ty =
      u.bellPending d ty := fun u v b => by simp [State.bellPending]
  unfold State.bellFollow
  dsimp only
  rw [hend]
  split
  · rw [← hpend s, State.bellPending, State.get_event (by simp)]
    rfl
  · rfl

/-- A queued message is pending. -/
theorem State.bellQueue_pending (h : ty ≠ bellGasp) : (s.bellQueue d ty).bellPending d ty = true := by
  rw [State.bellQueue, State.bellFollow_pending h]
  simp [State.bellPend, State.bellPending, bit_putBit]

@[simp] theorem State.bellQueue_kept {c : Cell} (h : bellKept c = true) (n e i : Nat) :
    (s.bellQueue d n).get c e i = s.get c e i :=
  Reach.get_in (g := bellKept) (by apply State.bellQueue_reach Reach.refl <;> intros <;> rfl) h ..

@[simp] theorem settle_bellPending : (settle s t).bellPending d ty = t.bellPending d ty := by
  rw [State.bellPending, get_settle_of rfl]; rfl

@[simp] theorem settle_bellRx : (settle s t).bellRx d = t.bellRx d := get_settle_of rfl ..

/-- The bias points that return from keying leave the Bell channel. -/
abbrev bellCells : Cell → Bool
  | .bell _ | .sys .restartPend => true
  | _ => false

@[simp] theorem State.biasShow_bell {c : Cell} (h : bellCells c = true) (e i : Nat) :
    (s.biasShow d).get c e i = s.get c e i :=
  Reach.get_in (g := bellCells) (by apply State.biasShow_reach Reach.refl <;> intros <;> rfl) h ..

/-- A message that stops: nothing is sent. -/
theorem State.bellStop_get : (s.bellStop d).get (.bell .cur) d 0 = 0 ∧ (s.bellStop d).get (.bell .txSrc) d 0 = 0 ∧
    ∀ {c : Cell}, bellCells c = true → c ≠ .bell .cur → c ≠ .bell .txSrc → c ≠ .bell .txCompat → ∀ e i,
      (s.bellStop d).get c e i = s.get c e i := by
  unfold State.bellStop
  dsimp only
  split
  · exact ⟨by simp, by simp, fun hb h1 h2 h3 e i => by rw [State.biasShow_bell hb]; simp [h1, h2, h3]⟩
  · exact ⟨by simp, by simp, fun hb h1 h2 h3 e i => by simp [h1, h2, h3]⟩

/-- Without an accepted RESTART nothing begins. -/
theorem State.restartFollow_none (h : s.flag (.sys .restartPend) 0 0 = false) : s.restartFollow = s := by
  simp [State.restartFollow, h]

-- Sending (R350, R353, R354).

/-- A Bell receiver that runs has its island and its enable. -/
theorem State.bellOn_iff : s.bellOn d = true ↔ s.lantern d = true ∧ s.flag (.bell .bellEn) d 0 = true := by
  simp [State.bellOn]

section
variable (hb : s.bellOn d = true)
include hb

theorem bellTxMessageStart_outcome (h0 : s.get (.bell .cur) d 0 = 0) (htop : s.bellTop d = ty) (hty : ty ≠ 0)
    (hpath : s.bellPath d ty ≠ 0) : Completes (.bellTxMessageStart d) s fun t => t.get (.bell .cur) d 0 = ty ∧
      t.get (.bell .txSrc) d 0 = s.bellPath d ty ∧ t.bellPending d ty = false ∧
      t.get (.bell .seqTx) d 0 = (s.get (.bell .seqTx) d 0 + 1) % 256 ∧
      (s.get (.bell .code) d 0 ≤ 32 → t.get (.bell .codeUsed) d 0 = s.get (.bell .code) d 0) := by
  obtain ⟨hl, hen⟩ := State.bellOn_iff.mp hb
  refine completes_of exec_bellTxMessageStart (by simp [hl, hen, h0, htop, hty, hpath]) ?_
  simp only [htop]
  set v := State.setB _ (.bell .txCompat) d 0 _ with hv
  have hcur : v.get (.bell .cur) d 0 = ty := by simp [hv, State.bellPend]
  have hpend : (v.bellFollow d).bellPending d ty = false := by
    have hno : v.bellPending d ty = false := by simp [hv, State.bellPend, State.bellPending, bit_putBit]
    have hf : v.bellFollow d = (v.set (.bell .txState) d 0 1).cond .bellTxBlocked d 0 false := by
      simp [State.bellFollow, hcur, hty]
    rw [hf]
    simpa [State.bellPending] using hno
  have hshow : ∀ c : BellCell, ∀ b : Bool, ((if b then (v.bellFollow d).biasShow d else v.bellFollow d)).get (.bell c) d 0 =
      (v.bellFollow d).get (.bell c) d 0 := fun c b => by cases b <;> simp
  refine ⟨?_, ?_, ?_, ?_, fun hc => ?_⟩
  · rw [get_settle_of rfl, hshow, State.bellFollow_kept rfl, hcur]
  · rw [get_settle_of rfl, hshow, State.bellFollow_kept rfl]
    simp [hv, State.bellPend]
  · rw [settle_bellPending, State.bellPending, hshow]
    exact hpend
  · rw [get_settle_of rfl, hshow, State.bellFollow_kept rfl]
    simp [hv, State.bellPend]
  · rw [get_settle_of rfl, hshow, State.bellFollow_kept rfl]
    simp [hv, hc]

theorem bellTxDone_outcome (hr : s.flag (.sys .restartPend) 0 0 = false) (hc : s.get (.bell .cur) d 0 ≠ 0) :
    Completes (.bellTxDone d) s fun t => t.get (.bell .cur) d 0 = 0 ∧ t.get (.bell .txSrc) d 0 = 0 ∧
      t.get (.bell .nTxMsg) d 0 = (s.get (.bell .nTxMsg) d 0 + 1) % Counter.size := by
  obtain ⟨hl, -⟩ := State.bellOn_iff.mp hb
  refine completes_of exec_bellTxDone (by simp [hl, hc]) ?_
  obtain ⟨hcur, hsrc, hkept⟩ := State.bellStop_get (s := s.inc (.bell .nTxMsg) d 0) (d := d)
  rw [State.restartFollow_none (by
    rw [State.flag, State.bellFollow_kept rfl, hkept rfl (by decide) (by decide) (by decide)]
    simpa [State.flag] using hr)]
  refine ⟨?_, ?_, ?_⟩
  · rw [get_settle_of rfl, State.bellFollow_kept rfl, hcur]
  · rw [get_settle_of rfl, State.bellFollow_kept rfl, hsrc]
  · rw [get_settle_of rfl, State.bellFollow_kept rfl, hkept rfl (by decide) (by decide) (by decide)]
    simp [Counter.size]

theorem bellPathChange_abandons (hr : s.flag (.sys .restartPend) 0 0 = false) (hc : s.get (.bell .cur) d 0 = ty) (hty : ty ≠ 0)
    (hg : ty ≠ bellGasp) (hp : s.bellPath d ty ≠ s.get (.bell .txSrc) d 0) : Completes (.bellPathChange d) s fun t =>
      t.get (.bell .cur) d 0 = 0 ∧ t.get (.bell .txSrc) d 0 = 0 ∧ t.bellPending d ty = true := by
  obtain ⟨hl, -⟩ := State.bellOn_iff.mp hb
  refine completes_of exec_bellPathChange hl ?_
  obtain ⟨hcur, hsrc, hkept⟩ := State.bellStop_get (s := s) (d := d)
  simp only [hc]
  rw [if_pos ⟨hty, hp, by simp [hg]⟩, State.bellAbandon]
  simp only [hc]
  rw [if_neg hty, State.restartFollow_none (by
    rw [State.flag, State.bellFollow_kept rfl, State.bellPend, State.get_set_ite, if_neg (by simp),
      hkept rfl (by decide) (by decide) (by decide)]
    exact hr)]
  refine ⟨?_, ?_, ?_⟩
  · rw [get_settle_of rfl, State.bellFollow_kept rfl]
    simpa [State.bellPend] using hcur
  · rw [get_settle_of rfl, State.bellFollow_kept rfl]
    simpa [State.bellPend] using hsrc
  · rw [settle_bellPending, State.bellFollow_pending hg]
    simp [State.bellPend, State.bellPending, bit_putBit]

theorem bellHelloTimer_outcome (hr : s.flag (.bell .discRun) d 0 = true) (hn : s.get (.bell .discState) d 0 ≠ 3) :
    Completes (.bellHelloTimer d) s fun t => t.bellPending d bellHello = true := by
  obtain ⟨hl, hen⟩ := State.bellOn_iff.mp hb
  exact completes_of exec_bellHelloTimer (by simp [hl, hen, hr, hn])
    (by rw [settle_bellPending, State.bellQueue_pending (by decide)])

theorem bellParkedTimer_outcome (hk : s.flag (.bell .ksKey) d 0 = true) (h1 : ksClocksOff ≤ s.stage d)
    (h2 : s.stage d ≤ ksGated) : Completes (.bellParkedTimer d) s fun t => t.bellPending d bellParked = true := by
  obtain ⟨hl, hen⟩ := State.bellOn_iff.mp hb
  exact completes_of exec_bellParkedTimer (by simp [hl, hen, hk, h1, h2])
    (by rw [settle_bellPending, State.bellQueue_pending (by decide)])

theorem bellWakeTimer_outcome (hp : s.flag (.bell .peerParked) d 0 = true) (hr : s.rxOn d = true) (ha : s.awake d = true) :
    Completes (.bellWakeTimer d) s fun t => t.bellPending d bellWake = true := by
  obtain ⟨hl, hen⟩ := State.bellOn_iff.mp hb
  exact completes_of exec_bellWakeTimer (by simp [hl, hen, hp, hr, ha])
    (by rw [settle_bellPending, State.bellQueue_pending (by decide)])

end

-- Messages (R359, R363, R364).

/-- Whether a message is for this carrier does not follow the offer, nor whether it comes from the partner. -/
theorem State.bellAccepts_offer (b : Bool) : (s.set (.bell .offered) d 0 0).bellAccepts d m b = s.bellAccepts d m b := by
  simp [State.bellAccepts]

theorem State.fromPartner_offer : (s.set (.bell .offered) d 0 0).fromPartner d m = s.fromPartner d m := by
  simp [State.fromPartner]

section
variable (hb : s.bellOn d = true)
include hb

/-- An offer that is not for this carrier is discarded. -/
theorem bellLastGaspRx_refused (ho : s.flag (.bell .offered) d 0 = true) (ha : s.bellAccepts d m false = false) :
    Completes (.bellLastGaspRx d m reason loc) s fun t => t.get (.bell .offered) d 0 = 0 ∧
      t.get (.bell .gaspValid) d 0 = s.get (.bell .gaspValid) d 0 ∧
      t.get (.bell .nRxDisc) d 0 = (s.get (.bell .nRxDisc) d 0 + 1) % Counter.size := by
  refine completes_of exec_bellLastGaspRx (by simp [State.bellOffered, hb, ho]) ?_
  simp [State.bellOffer, State.bellAccepts_offer, ha, State.bellDisc, Counter.size]

theorem bellLastGaspRx_taken (ho : s.flag (.bell .offered) d 0 = true) (ha : s.bellAccepts d m false = true) :
    Completes (.bellLastGaspRx d m reason loc) s fun t => t.get (.bell .gaspValid) d 0 = 1 ∧
      t.get (.bell .gaspSender) d 0 = m.sender ∧ t.get (.bell .gaspCarrier) d 0 = m.carrier ∧
      t.get (.bell .gaspReason) d 0 = reason % 16 ∧ t.get (.bell .gaspLoc) d 0 = loc ∧
      t.flag (.sticky .bellGaspRx) d 0 = true ∧
      t.get (.bell .nRxMsg) d 0 = (s.get (.bell .nRxMsg) d 0 + 1) % Counter.size := by
  refine completes_of exec_bellLastGaspRx (by simp [State.bellOffered, hb, ho]) ?_
  simp [State.bellOffer, State.bellAccepts_offer, ha, State.gaspTake, State.bellTake, Counter.size]

theorem bellParkedRx_outcome (ho : s.flag (.bell .offered) d 0 = true) (ha : s.bellAccepts d m false = true)
    (hp : s.fromPartner d m = true) : Completes (.bellParkedRx d m) s fun t => t.get (.bell .peerParked) d 0 = 1 ∧
      t.get (.bell .nRxMsg) d 0 = (s.get (.bell .nRxMsg) d 0 + 1) % Counter.size := by
  refine completes_of exec_bellParkedRx (by simp [State.bellOffered, hb, ho]) ?_
  simp [State.bellOffer, State.bellAccepts_offer, ha, State.fromPartner_offer, hp, Counter.size]

theorem bellWakeRx_accepted (ho : s.flag (.bell .offered) d 0 = true) (ha : s.bellAccepts d m false = true)
    (hp : s.fromPartner d m = true) (he : s.flag (.bell .wakeEn) d 0 = true) (hw : s.get (.bell .lastWake) d 0 = 0) :
    Completes (.bellWakeRx d m) s fun t => t.get (.bell .wakeReq) d 0 = 1 ∧ t.get (.bell .peerParked) d 0 = 0 ∧
      t.get (.bell .nWakeRx) d 0 = (s.get (.bell .nWakeRx) d 0 + 1) % Counter.size := by
  refine completes_of exec_bellWakeRx (by simp [State.bellOffered, hb, ho]) ?_
  simp [State.bellOffer, State.bellAccepts_offer, ha, State.wakeTake, State.bellTake, State.fromPartner_offer, hp, he, hw,
    Counter.size]

theorem bellWakeRx_refused (ho : s.flag (.bell .offered) d 0 = true) (ha : s.bellAccepts d m false = true)
    (he : s.flag (.bell .wakeEn) d 0 = false) : Completes (.bellWakeRx d m) s fun t =>
      t.get (.bell .wakeReq) d 0 = s.get (.bell .wakeReq) d 0 ∧
        t.get (.bell .nRxDisc) d 0 = (s.get (.bell .nRxDisc) d 0 + 1) % Counter.size := by
  refine completes_of exec_bellWakeRx (by simp [State.bellOffered, hb, ho]) ?_
  simp [State.bellOffer, State.bellAccepts_offer, ha, State.wakeTake, State.bellDisc, he, Counter.size]

theorem peerParkedTimeout_outcome (hp : s.flag (.bell .peerParked) d 0 = true) :
    Completes (.peerParkedTimeout d) s fun t => t.get (.bell .peerParked) d 0 = 0 :=
  completes_of exec_peerParkedTimeout (by simp [(State.bellOn_iff.mp hb).1, hp]) (by simp)

theorem bellCompatRx_bad (hr : s.bellRx d = bellHdr) (hc : s.flag (.bell .rxCompat) d 0 = true) :
    Completes (.bellCompatRx d false 2 m reason) s fun t => t.bellRx d = bellSearch ∧
      t.get (.bell .nCrcFail) d 0 = (s.get (.bell .nCrcFail) d 0 + 1) % Counter.size :=
  completes_of exec_bellCompatRx (by simp [hb, hr, hc]) (by simp [State.bellRx, State.bellIdle, Counter.size])

theorem bellCompatRx_gasp (hr : s.bellRx d = bellHdr) (hc : s.flag (.bell .rxCompat) d 0 = true)
    (ha : s.bellAccepts d m false = true) : Completes (.bellCompatRx d true 2 m reason) s fun t =>
      t.bellRx d = bellSearch ∧ t.get (.bell .gaspReason) d 0 = reason % 16 ∧ t.get (.bell .gaspValid) d 0 = 1 ∧
        t.get (.bell .nCompatRx) d 0 = (s.get (.bell .nCompatRx) d 0 + 1) % Counter.size := by
  refine completes_of exec_bellCompatRx (by simp [hb, hr, hc]) ?_
  have ha' : (s.bellIdle d).bellAccepts d m false = true := by simpa [State.bellAccepts, State.bellIdle] using ha
  dsimp only
  rw [if_neg (by decide), if_pos (by simp [ha'])]
  simp [State.gaspTake, State.bellTake, State.used, State.bellRx, State.bellIdle, Counter.size]

end

/-- Settles O42: the sender by what it finds pending, and each message by whether it is accepted. -/
theorem bellSendingAndMessages : Obligations.BellSendingAndMessages := by
  unfold Obligations.BellSendingAndMessages
  exact ⟨fun s d ty hb hr => ⟨bellTxMessageStart_outcome hb, bellTxDone_outcome hb hr, bellPathChange_abandons hb hr,
      bellHelloTimer_outcome hb, bellParkedTimer_outcome hb, bellWakeTimer_outcome hb⟩,
    fun s d reason loc m hb => ⟨fun ho => ⟨bellLastGaspRx_refused hb ho, fun ha => ⟨bellLastGaspRx_taken hb ho ha,
        bellParkedRx_outcome hb ho ha, bellWakeRx_accepted hb ho ha, bellWakeRx_refused hb ho ha⟩⟩,
      peerParkedTimeout_outcome hb, fun hr hc => ⟨bellCompatRx_bad hb hr hc, bellCompatRx_gasp hb hr hc⟩⟩⟩

-- Reception (R355 to R358).

section
variable (hb : s.bellOn d = true)
include hb

theorem bellDetect_outcome (slow : Bool) (hr : s.bellRx d = bellSearch) : Completes (.bellDetect d slow) s fun t =>
    t.bellRx d = bellDetected ∧ t.get (.bell .agcFrozen) d 0 = 1 ∧ t.get (.bell .rxSlow) d 0 = slow.toNat ∧
      t.get (.bell .nDetect) d 0 = (s.get (.bell .nDetect) d 0 + 1) % Counter.size :=
  completes_of exec_bellDetect (by simp [hb, hr]) (by simp [State.bellRx, Counter.size])

theorem bellNoiseUpdate_outcome (noise : Int) (hr : s.bellRx d = bellSearch) : Completes (.bellNoiseUpdate d noise) s fun t =>
    t.get (.bell .noise) d 0 = enc noise % 2 ^ 16 :=
  completes_of exec_bellNoiseUpdate (by simp [hb, hr]) (by simp)

theorem bellSyncFound_outcome {rssi : Int} {compat : Bool} (hr : s.bellRx d = bellDetected) (hf : s.bellFormat d compat = true) :
    Completes (.bellSyncFound d rssi compat) s fun t => t.bellRx d = bellHdr ∧
      t.get (.bell .rssi) d 0 = enc rssi % 2 ^ 16 ∧ t.get (.bell .rxCompat) d 0 = compat.toNat :=
  completes_of exec_bellSyncFound (by simp [hb, hr, hf]) (by simp [State.bellRx, State.bellHeaderIn])

theorem bellSyncTimeout_outcome (hr : s.bellRx d = bellDetected) : Completes (.bellSyncTimeout d) s fun t =>
    t.bellRx d = bellSearch ∧ t.get (.bell .agcFrozen) d 0 = 0 ∧
      t.get (.bell .nFalseDet) d 0 = (s.get (.bell .nFalseDet) d 0 + 1) % Counter.size :=
  completes_of exec_bellSyncTimeout (by simp [hb, hr]) (by simp [State.bellRx, State.bellIdle, Counter.size])

theorem bellHeaderDone_good (hr : s.bellRx d = bellHdr) (hc : s.flag (.bell .rxCompat) d 0 = false) :
    Completes (.bellHeaderDone d true) s fun t => t.bellRx d = bellBody :=
  completes_of exec_bellHeaderDone (by simp [hb, hr, hc]) (by simp [State.bellRx])

theorem bellHeaderDone_bad (hr : s.bellRx d = bellHdr) (hc : s.flag (.bell .rxCompat) d 0 = false) :
    Completes (.bellHeaderDone d false) s fun t => t.bellRx d = bellSearch ∧
      t.get (.bell .nFalseDet) d 0 = (s.get (.bell .nFalseDet) d 0 + 1) % Counter.size :=
  completes_of exec_bellHeaderDone (by simp [hb, hr, hc]) (by simp [State.bellRx, State.bellIdle, Counter.size])

theorem bellSignalFade_header (hr : s.bellRx d = bellHdr) : Completes (.bellSignalFade d) s fun t =>
    t.bellRx d = bellSearch ∧ t.get (.bell .nFalseDet) d 0 = (s.get (.bell .nFalseDet) d 0 + 1) % Counter.size := by
  refine completes_of exec_bellSignalFade (by simp [hb, hr]) ?_
  rw [if_pos hr]
  simp [State.bellRx, State.bellIdle, Counter.size]

theorem bellSignalFade_body (hr : s.bellRx d = bellBody) : Completes (.bellSignalFade d) s fun t =>
    t.bellRx d = bellSearch ∧ t.get (.bell .nCrcFail) d 0 = (s.get (.bell .nCrcFail) d 0 + 1) % Counter.size := by
  refine completes_of exec_bellSignalFade (by simp [hb, hr]) ?_
  rw [if_neg (by simp [hr, bellBody, bellHdr])]
  simp [State.bellRx, State.bellIdle, Counter.size]

theorem bellBodyDone_good (hr : s.bellRx d = bellBody) : Completes (.bellBodyDone d true) s fun t =>
    t.bellRx d = bellSearch ∧ t.get (.bell .offered) d 0 = 1 :=
  completes_of exec_bellBodyDone (by simp [hb, hr]) (by simp [State.bellRx, State.bellIdle])

theorem bellBodyDone_bad (hr : s.bellRx d = bellBody) : Completes (.bellBodyDone d false) s fun t =>
    t.bellRx d = bellSearch ∧ t.get (.bell .nCrcFail) d 0 = (s.get (.bell .nCrcFail) d 0 + 1) % Counter.size :=
  completes_of exec_bellBodyDone (by simp [hb, hr]) (by simp [State.bellRx, State.bellIdle, Counter.size])

theorem bellCapture_body {rssi : Int} {compat : Bool} (hr : s.bellRx d = bellBody) (hf : s.bellFormat d compat = true)
    (hs : sext 16 (s.get (.bell .rssi) d 0) + 4 * s.get (.bell .captureDb) d 0 ≤ rssi) :
    Completes (.bellCapture d rssi compat) s fun t => t.bellRx d = bellHdr ∧
      t.get (.bell .rssi) d 0 = enc rssi % 2 ^ 16 ∧
      t.get (.bell .nCapture) d 0 = (s.get (.bell .nCapture) d 0 + 1) % Counter.size :=
  completes_of exec_bellCapture (by simp [hb, hr, hf, hs, bellDetected, bellBody])
    (by simp [State.bellRx, State.bellHeaderIn, Counter.size])

end

-- Discovery (R360 to R362, R200).

/-- Whether BELL_DISCOVER runs for a carrier follows the cells of its procedure. -/
theorem State.discCalled_of (hg : ∀ c : BootCell, ∀ e i, t.get (.boot c) e i = s.get (.boot c) e i) :
    t.discCalled d = s.discCalled d := by
  simp [State.discCalled, State.called, State.procArg, State.flag, hg]

/-- A discovery that fails. -/
theorem State.discFail_facts (code : Nat) : (s.discFail d code).get (.bell .discState) d 0 = discFailed ∧
    (s.discFail d code).get (.bell .discFailReason) d 0 = code ∧ (s.discFail d code).flag (.live .bellDiscFail) d 0 = true ∧
    (s.discFail d code).flag (.bell .discRun) d 0 = s.flag (.bell .tolerate) d 0 := by
  have hend : ∀ {c : Cell} (u : State) (b tol : Bool), c ≠ .boot .procCalled → c ≠ .boot .procDone → c ≠ .boot .procCode → ∀ e i,
      (u.when b fun s => s.procEnd 7 tol code).get c e i = u.get c e i := fun {c} u b tol h1 h2 h3 e i =>
    Reach.get_in (g := fun c => !(decide (c = .boot .procCalled) || decide (c = .boot .procDone) || decide (c = .boot .procCode)))
      (by
        apply State.when_reach Reach.refl
        intro x hx
        apply State.procEnd_reach hx <;> intros <;> rfl) (by simp [h1, h2, h3]) e i
  unfold State.discFail
  dsimp only
  refine ⟨?_, ?_, ?_, ?_⟩
  · rw [hend _ _ _ (by decide) (by decide) (by decide)]
    simp [State.discSet]
  · rw [hend _ _ _ (by decide) (by decide) (by decide)]
    simp
  · rw [State.flag, hend _ _ _ (by decide) (by decide) (by decide), ← State.flag]
    simp [State.discSet]
  · rw [State.flag, hend _ _ _ (by decide) (by decide) (by decide), ← State.flag]
    simp

/-- The states and their alarm. -/
@[simp] theorem State.discSet_kept {c : Cell} (hc : c ≠ .bell .discState)
    (ha : c ≠ .live .bellDiscFail ∧ c ≠ .sticky .bellDiscFail) (v e i : Nat) : (s.discSet d v).get c e i = s.get c e i := by
  rw [State.discSet, State.get_cond ha.1 ha.2, State.get_set_ite, if_neg (by simp [hc])]

/-- What a start of discovery sets up. -/
def State.discBegin (s : State) (d node : Nat) (tolerate : Bool) : State :=
  let s1 := ((((((s.set (.bell .peerValid) d 0 0).set (.bell .peerCompat) d 0 0).set (.bell .peerParked) d 0 0).set
    (.bell .farCarrier) d 0 0).set (.bell .partner) d 0 0).set (.bell .descOk) d 0 0).set (.bell .discFailReason) d 0 0
  (((s1.discSet d discSearch).set (.bell .expNode) d 0 (node % 4096)).setB (.bell .tolerate) d 0 tolerate).set
    (.bell .discRun) d 0 1

theorem State.discStart_eq (node : Nat) (b : Bool) : s.discStart d node b =
    if (s.discBegin d node b).flag (.bell .bellEn) d 0 then (s.discBegin d node b).bellQueue d bellHello
    else (s.discBegin d node b).discFail d discNotAvail := rfl

theorem State.discBegin_facts (node : Nat) (b : Bool) : (s.discBegin d node b).get (.bell .discState) d 0 = discSearch ∧
    (s.discBegin d node b).get (.bell .discRun) d 0 = 1 ∧ (s.discBegin d node b).get (.bell .peerValid) d 0 = 0 ∧
    (s.discBegin d node b).get (.bell .expNode) d 0 = node % 4096 ∧
    (s.discBegin d node b).get (.bell .tolerate) d 0 = b.toNat ∧
    (s.discBegin d node b).flag (.bell .bellEn) d 0 = s.flag (.bell .bellEn) d 0 := by
  have hen : (s.discBegin d node b).get (.bell .bellEn) d 0 = s.get (.bell .bellEn) d 0 := by simp [State.discBegin]
  exact ⟨by simp [State.discBegin, State.discSet], by simp [State.discBegin], by simp [State.discBegin],
    by simp [State.discBegin], by simp [State.discBegin], by simp [State.flag, hen]⟩

section
variable (hl : s.lantern d = true)
include hl

theorem bellDiscover_starts (hc : s.discCalled d = true) (he : s.flag (.bell .bellEn) d 0 = true) :
    Completes (.bellDiscover d) s fun t => t.get (.bell .discState) d 0 = discSearch ∧ t.get (.bell .discRun) d 0 = 1 ∧
      t.get (.bell .peerValid) d 0 = 0 ∧ t.get (.bell .expNode) d 0 = s.procArg 7 1 % 4096 ∧
      t.bellPending d bellHello = true := by
  refine completes_of exec_bellDiscover (by simp [hl, hc]) ?_
  obtain ⟨hst, hrun, hval, hnode, -, hen⟩ := State.discBegin_facts (s := s) (d := d) (s.procArg 7 1) (bit (s.procArg 7 2) 0)
  rw [State.discStart_eq, if_pos (hen.trans he)]
  exact ⟨by simp [hst], by simp [hrun], by simp [hval], by simp [hnode],
    by rw [settle_bellPending, State.bellQueue_pending (by decide)]⟩

theorem bellDiscover_disabled (hc : s.discCalled d = true) (he : s.flag (.bell .bellEn) d 0 = false)
    (hid : s.get (.boot .procId) 0 0 = 7) (htol : bit (s.procArg 7 2) 0 = false) : Completes (.bellDiscover d) s fun t =>
      t.get (.bell .discState) d 0 = discFailed ∧ t.get (.boot .procDone) 0 0 = 2 ∧
        t.get (.boot .procCode) 0 0 = discNotAvail ∧ t.flag (.live .bellDiscFail) d 0 = true := by
  refine completes_of exec_bellDiscover (by simp [hl, hc]) ?_
  rw [htol]
  obtain ⟨-, -, -, -, ht, hen⟩ := State.discBegin_facts (s := s) (d := d) (s.procArg 7 1) false
  rw [State.discStart_eq, if_neg (by simp [hen, he])]
  set u := s.discBegin d (s.procArg 7 1) false with hu
  obtain ⟨hst, -, hlive, -⟩ := State.discFail_facts (s := u) (d := d) discNotAvail
  have hboot : ∀ c : BootCell, ∀ e i, u.get (.boot c) e i = s.get (.boot c) e i := fun c e i => by
    simp [hu, State.discBegin]
  have htolf : u.flag (.bell .tolerate) d 0 = false := by simp [State.flag, ht]
  have hfail : u.discFail d discNotAvail = (((u.discSet d discFailed).set (.bell .discFailReason) d 0 discNotAvail).setB
      (.bell .discRun) d 0 false).procEnd 7 false discNotAvail := by
    have hcalled : State.discCalled (((u.discSet d discFailed).set (.bell .discFailReason) d 0 discNotAvail).setB
        (.bell .discRun) d 0 false) d = true := by
      rw [State.discCalled_of (s := s) fun c e i => by simp [hboot]]
      exact hc
    simp only [State.discFail, htolf, hcalled, State.when, if_true]
  refine ⟨(get_settle_of rfl ..).trans hst, ?_, ?_, (flag_settle_of rfl ..).trans hlive⟩
  · rw [hfail, State.procEnd]
    simp [hboot, hid]
  · rw [hfail, State.procEnd]
    simp [hboot, hid]

theorem bellDiscoverTimeout_outcome (hr : s.flag (.bell .discRun) d 0 = true) (hd : s.get (.bell .discState) d 0 ≠ discDone) :
    Completes (.bellDiscoverTimeout d) s fun t => t.get (.bell .discState) d 0 = discFailed ∧
      t.get (.bell .discFailReason) d 0 = discTimeout ∧ t.flag (.live .bellDiscFail) d 0 = true ∧
      t.flag (.bell .discRun) d 0 = s.flag (.bell .tolerate) d 0 := by
  obtain ⟨hst, hre, hlive, hrun⟩ := State.discFail_facts (s := s) (d := d) discTimeout
  exact completes_of exec_bellDiscoverTimeout (by simp [hl, hr, hd]) ⟨(get_settle_of rfl ..).trans hst,
    (get_settle_of rfl ..).trans hre, (flag_settle_of rfl ..).trans hlive, (flag_settle_of rfl ..).trans hrun⟩

theorem bellNotAvailableTimeout_outcome (hr : s.flag (.bell .discRun) d 0 = true)
    (hd : s.get (.bell .discState) d 0 ≠ discDone) (hp : s.dspPath d = false) :
    Completes (.bellNotAvailableTimeout d) s fun t => t.get (.bell .discState) d 0 = discFailed ∧
      t.get (.bell .discFailReason) d 0 = discNotAvail := by
  obtain ⟨hst, hre, -, -⟩ := State.discFail_facts (s := s) (d := d) discNotAvail
  exact completes_of exec_bellNotAvailableTimeout (by simp [hl, hr, hd, hp]) ⟨(get_settle_of rfl ..).trans hst,
    (get_settle_of rfl ..).trans hre⟩

theorem derRediscoverTimer_outcome (hu : s.up d = true) (hx : s.rxState d ≠ rxLocked) (hr : s.flag (.der .returned) d 0 = true)
    (he : s.flag (.bell .bellEn) d 0 = true) : Completes (.derRediscoverTimer d) s fun t =>
      t.get (.der .returned) d 0 = 0 ∧ t.get (.bell .discState) d 0 = discSearch ∧
        t.flag (.bell .tolerate) d 0 = true := by
  refine completes_of exec_derRediscoverTimer (by simp [hl, hu, hx, hr]) ?_
  obtain ⟨hst, -, -, -, ht, hen⟩ := State.discBegin_facts (s := s.set (.der .returned) d 0 0) (d := d)
    (s.get (.bell .expNode) d 0) true
  rw [State.discStart_eq, if_pos (by simpa [hen] using he)]
  have hret : ∀ u : State, (u.bellQueue d bellHello).get (.der .returned) d 0 = u.get (.der .returned) d 0 := fun u =>
    Reach.get_eq (by apply State.bellQueue_reach Reach.refl <;> intros <;> rfl) ..
  refine ⟨by rw [get_settle_of rfl, hret]; simp [State.discBegin], by simp [hst], ?_⟩
  rw [flag_settle_of rfl, State.flag, State.bellQueue_kept rfl, ht]
  rfl

end

-- HELLO (R359 to R362).

section
variable (ho : s.bellOffered d = true) (ha : s.bellAccepts d m true = true)
include ho ha

/-- An accepted HELLO is handled. -/
theorem bellHelloRx_effect {P : State → Prop} (hP : P (settle s ((s.set (.bell .offered) d 0 0).helloTake d m desc false))) :
    Completes (.bellHelloRx d m desc) s P :=
  completes_of exec_bellHelloRx ho (by
    dsimp only [State.bellOffer]
    rw [if_pos ((State.bellAccepts_offer true).trans ha)]
    exact hP)

theorem bellHelloRx_again (hr : s.flag (.bell .discRun) d 0 = false) (hd : s.get (.bell .discState) d 0 = discDone)
    (hp : s.get (.bell .partner) d 0 = m.sender) : Completes (.bellHelloRx d m desc) s fun t =>
      t.bellPending d bellHello = true ∧ t.get (.bell .offered) d 0 = 0 := by
  refine bellHelloRx_effect ho ha ?_
  simp only [State.helloTake]
  rw [if_neg (by simp [hr]), if_pos (by simp [hd]), if_pos (by simp [hp])]
  exact ⟨by rw [settle_bellPending, State.bellQueue_pending (by decide)], by simp [State.bellTake]⟩

theorem bellHelloRx_stranger (hr : s.flag (.bell .discRun) d 0 = false) (hd : s.get (.bell .discState) d 0 = discDone)
    (hp : s.get (.bell .partner) d 0 ≠ m.sender) : Completes (.bellHelloRx d m desc) s fun t =>
      t.flag (.sticky .bellPeerChange) d 0 = true := by
  refine bellHelloRx_effect ho ha ?_
  simp only [State.helloTake]
  rw [if_neg (by simp [hr]), if_pos (by simp [hd]), if_neg (by simpa using Ne.symm hp)]
  simp

/-- The state in which the descriptor of a HELLO is checked. -/
def State.helloHeard (s : State) (d : Nat) (m : BellMsg) (desc : List Nat) : State :=
  State.descStore (((((s.set (.bell .offered) d 0 0).inc (.bell .nRxMsg) d 0).set (.bell .partner) d 0 m.sender).set
    (.bell .farCarrier) d 0 m.carrier).setB (.bell .peerCompat) d 0 false |>.set (.bell .peerParked) d 0 0) d desc

/-- With no expected node the descriptor of a HELLO is stored and checked. -/
theorem bellHelloRx_checks {P : State → Prop} (hr : s.flag (.bell .discRun) d 0 = true)
    (hx : s.get (.bell .expNode) d 0 = 0xFFF)
    (hP : P (settle s ((s.helloHeard d m desc).descCheck d m.sender desc
      (m.heard && decide (m.dest = s.get (.ao .nodeId) 0 0) && decide (m.destCarrier = d))))) :
    Completes (.bellHelloRx d m desc) s P := by
  refine bellHelloRx_effect ho ha ?_
  simp only [State.helloTake]
  rw [if_pos (by simpa using hr), if_neg (by simp [hx]), if_neg (by decide)]
  have hid : (s.set (.bell .offered) d 0 0).get (.ao .nodeId) 0 0 = s.get (.ao .nodeId) 0 0 := by simp
  rw [hid]
  exact hP

end

/-- What the check of a descriptor reads of the receiver. -/
abbrev descCells : Cell → Bool
  | .lr _ | .las _ => true
  | _ => false

theorem State.helloHeard_kept {c : Cell} (h : descCells c = true) (e i : Nat) :
    (s.helloHeard d m desc).get c e i = s.get c e i := by
  have hstore : ∀ u : State, (u.descStore d desc).get c e i = u.get c e i := fun u =>
    Reach.get_in (g := descCells) (by apply State.descStore_reach Reach.refl <;> intros <;> rfl) h ..
  rw [State.helloHeard, hstore]
  cases c <;> simp_all

theorem State.helloHeard_desc : (s.helloHeard d m desc).rxDesc d 0 = s.rxDesc d 0 ∧
    (s.helloHeard d m desc).descMatches d desc = s.descMatches d desc := by
  have hd : (s.helloHeard d m desc).rxDesc d 0 = s.rxDesc d 0 := by
    simp only [State.rxDesc, State.rxBank, State.helloHeard_kept (c := .lr _) rfl, State.helloHeard_kept (c := .las _) rfl]
  refine ⟨hd, ?_⟩
  rw [State.descMatches, hd, State.flag, State.helloHeard_kept rfl]
  rfl

theorem State.helloHeard_facts : (s.helloHeard d m desc).get (.bell .partner) d 0 = m.sender ∧
    (s.helloHeard d m desc).get (.bell .descOk) d 0 = 1 := by
  refine ⟨?_, by simp [State.helloHeard, State.descStore]⟩
  rw [State.helloHeard, State.descStore, State.get_set_ite, if_neg (by simp), State.get_each (by simp [State.setWin])]
  simp

section
variable (ho : s.bellOffered d = true) (ha : s.bellAccepts d m true = true) (hr : s.flag (.bell .discRun) d 0 = true)
  (hx : s.get (.bell .expNode) d 0 = 0xFFF)
include ho ha hr hx

theorem bellHelloRx_grid (hg : descGrid desc ≠ descGrid (s.rxDesc d 0)) : Completes (.bellHelloRx d m desc) s fun t =>
    t.get (.bell .discState) d 0 = discFailed ∧ t.get (.bell .discFailReason) d 0 = discGrid := by
  refine bellHelloRx_checks ho ha hr hx ?_
  obtain ⟨hdesc, -⟩ := State.helloHeard_desc (s := s) (d := d) (m := m) (desc := desc)
  rw [State.descCheck, if_pos (by rw [hdesc]; exact hg)]
  obtain ⟨hst, hre, -, -⟩ := State.discFail_facts (s := s.helloHeard d m desc) (d := d) discGrid
  exact ⟨(get_settle_of rfl ..).trans hst, (get_settle_of rfl ..).trans hre⟩

variable (hg : descGrid desc = descGrid (s.rxDesc d 0)) (hm : s.descMatches d desc = true)
include hg hm

/-- A descriptor that fits passes. -/
theorem bellHelloRx_passes {P : State → Prop} (hP : P (settle s ((s.helloHeard d m desc).descPass d desc
      (m.heard && decide (m.dest = s.get (.ao .nodeId) 0 0) && decide (m.destCarrier = d))))) :
    Completes (.bellHelloRx d m desc) s P := by
  refine bellHelloRx_checks ho ha hr hx ?_
  obtain ⟨hdesc, hmatch⟩ := State.helloHeard_desc (s := s) (d := d) (m := m) (desc := desc)
  rw [State.descCheck, if_neg (by rw [hdesc]; exact fun h => h hg), if_pos (by rw [hmatch]; exact hm)]
  exact hP

theorem bellHelloRx_heard (hh : m.heard = false) : Completes (.bellHelloRx d m desc) s fun t =>
    t.get (.bell .discState) d 0 = discHeard ∧ t.get (.bell .partner) d 0 = m.sender ∧
      t.get (.bell .descOk) d 0 = 1 := by
  refine bellHelloRx_passes ho ha hr hx hg hm ?_
  obtain ⟨hpart, hok⟩ := State.helloHeard_facts (s := s) (d := d) (m := m) (desc := desc)
  simp only [State.descPass, hh, Bool.false_and, Bool.false_eq_true, if_false]
  exact ⟨by simp [State.discSet], by simp [hpart], by simp [hok]⟩

theorem bellHelloRx_done (hh : m.heard = true) (hd : m.dest = s.get (.ao .nodeId) 0 0) (hc : m.destCarrier = d) :
    Completes (.bellHelloRx d m desc) s fun t => t.get (.bell .discState) d 0 = discDone ∧
      t.get (.bell .peerValid) d 0 = 1 ∧ t.get (.bell .discRun) d 0 = 0 := by
  refine bellHelloRx_passes ho ha hr hx hg hm ?_
  have hend : ∀ (u : State) (b : Bool) (c : BellCell),
      (u.when b fun s => s.procEnd 7 true 0).get (.bell c) d 0 = u.get (.bell c) d 0 := fun u b c => by
    cases b
    · rfl
    · simp only [State.when, State.procEnd, if_true]
      split <;> simp
  simp only [State.descPass, hh, hd, hc, decide_true, Bool.and_self, if_true, State.discEnd]
  exact ⟨by rw [get_settle_of rfl, hend]; simp [State.discSet], by rw [get_settle_of rfl, hend]; simp,
    by rw [get_settle_of rfl, hend]; simp⟩

end

/-- Settles O43: the receiver's states, one lemma for each way through them, and discovery by what starts and what ends it. -/
theorem bellReception : Obligations.BellReception := by
  unfold Obligations.BellReception
  refine ⟨fun s d rssi noise slow compat hb => ⟨fun hr => ⟨bellDetect_outcome hb slow hr, bellNoiseUpdate_outcome hb noise hr⟩,
      fun hr => ⟨bellSyncFound_outcome hb hr, bellSyncTimeout_outcome hb hr⟩,
      fun hr hc => ⟨bellHeaderDone_good hb hr hc, bellHeaderDone_bad hb hr hc⟩, bellSignalFade_header hb,
      fun hr => ⟨bellBodyDone_good hb hr, bellBodyDone_bad hb hr, bellSignalFade_body hb hr, bellCapture_body hb hr⟩⟩,
    fun s d m desc hl => ⟨bellDiscover_starts hl, bellDiscover_disabled hl,
      fun hr hd => ⟨bellDiscoverTimeout_outcome hl hr hd, bellNotAvailableTimeout_outcome hl hr hd⟩,
      derRediscoverTimer_outcome hl,
      fun ho ha => ⟨bellHelloRx_again ho ha, bellHelloRx_stranger ho ha, bellHelloRx_grid ho ha, bellHelloRx_heard ho ha,
        bellHelloRx_done ho ha⟩⟩⟩

end Sys2Proof.Machine
end

section
/-!
The DPLLs (R370, R377, R378): a pull of DPLL B that ends while DPLL A has a reference to take.
-/
set_option Elab.async false
namespace Sys2Proof.Machine
open Sys2Proof.Tests

variable {s : State} {x r : Nat}

/-- The cells of the clock block that a DPLL keeps for itself. -/
abbrev ownDpll : ClkCell → Bool
  | .dpllState | .selected | .phase | .driftRun | .nSwitch => true
  | _ => false

/-- A reference that a DPLL takes leaves the other DPLL and all that is set up. -/
theorem State.dpllTake_kept {c : ClkCell} {i : Nat} (h : i ≠ x ∨ ownDpll c = false) :
    (s.dpllTake x r).get (.clk c) 0 i = s.get (.clk c) 0 i := by
  simp only [State.dpllTake]
  split
  · rcases h with h | h <;> cases c <;> simp_all [State.dpllEnter, State.used]
  · rcases h with h | h <;> cases c <;> simp_all [State.dpllEnter, State.used]

/-- From NO_REF a DPLL acquires; from ACQUIRING it pulls. -/
theorem State.dpllTake_state (n : Nat) (hn : s.dpll x = n) :
    (s.dpllTake x r).dpll x = if n = dpllNoRef ∨ n = dpllFreeRun then dpllAcquiring else dpllSwitching := by
  simp only [State.dpllTake, hn]
  split <;> simp [State.dpllEnter, State.dpll]

/-- DPLL A is in NO_REF though its home reference 0 is QUALIFIED; DPLL B pulls toward its reference 5, with DPLL A as home. -/
def dpllPulls : State :=
  wSt [(.sys .dieReleased, 0, 0, 255), (.clk .dpllState, 0, 0, 5), (.clk .dpllMode, 0, 0, 1), (.clk .selected, 0, 0, 15),
    (.clk .home, 0, 0, 0), (.clk .qstate, 0, 0, 3), (.clk .qstate, 0, 5, 3), (.clk .dpllState, 0, 1, 4),
    (.clk .dpllMode, 0, 1, 1), (.clk .home, 0, 1, 14), (.clk .selected, 0, 1, 5)]

/-- That state when the pull has ended and no selection has been evaluated. -/
def dpllPulled : State := (dpllPulls.set (.clk .phase) 0 1 0).dpllEnter 1 dpllAcquiring

/-- DPLL A takes its home reference. -/
theorem dpllPulled_takes : dpllPulled.dpllSelect1 0 = dpllPulled.dpllTake 0 0 := by
  have hmode : dpllPulled.get (.clk .dpllMode) 0 0 = 1 := by decide +kernel
  have hchoice : dpllPulled.dpllChoice 0 = 0 := by decide +kernel
  have hcur : dpllPulled.get (.clk .selected) 0 0 = 15 := by decide +kernel
  simp [State.dpllSelect1, hmode, hchoice, hcur]

/-- DPLL B switches to its home as soon as DPLL A acquires. -/
theorem dpllPulls_switches : (settle dpllPulls dpllPulled.dpllSelect).dpll 1 = dpllSwitching := by
  set u := dpllPulled.dpllTake 0 0 with hu
  have hA : u.dpll 0 = dpllAcquiring := State.dpllTake_state dpllNoRef (by decide +kernel)
  have hB : u.dpll 1 = dpllAcquiring := (State.dpllTake_kept (.inl (by decide))).trans (by decide +kernel)
  have hmode : u.get (.clk .dpllMode) 0 1 = 1 := (State.dpllTake_kept (.inl (by decide))).trans (by decide +kernel)
  have hhome : u.get (.clk .home) 0 1 = 14 := (State.dpllTake_kept (.inl (by decide))).trans (by decide +kernel)
  have hcur : u.get (.clk .selected) 0 1 = 5 := (State.dpllTake_kept (.inl (by decide))).trans (by decide +kernel)
  have hchoice : u.dpllChoice 1 = 14 := by simp [State.dpllChoice, hhome, State.refOk, hA]
  have hsel : dpllPulled.dpllSelect = u.dpllTake 1 14 := by
    rw [State.dpllSelect, dpllPulled_takes, ← hu]
    simp [State.dpllSelect1, hmode, hchoice, hcur]
  rw [State.dpll, get_settle_of rfl, hsel]
  exact State.dpllTake_state dpllAcquiring hB

/-- Refutes O44: the end of a pull evaluates the selections of both DPLLs, DPLL A first.  Where DPLL A leaves NO_REF at that
moment, reference 14, which is DPLL A, becomes good; a DPLL B whose home it is then switches to it and does not stay in
ACQUIRING, though its own selection before the end of the pull was the reference that it pulled toward. -/
theorem not_references : ¬ Obligations.References := by
  unfold Obligations.References
  rintro ⟨h, -⟩
  obtain ⟨-, -, -, -, -, -, -, -, -, hpull⟩ := h dpllPulls 0 1 0 (by decide +kernel)
  obtain ⟨t, ht, hacq, -⟩ := hpull (by decide +kernel) (by decide) (by decide +kernel) (by decide +kernel)
    (by decide +kernel) (by decide +kernel)
  have hend : exec (.dpllPullEnd 1) dpllPulls = .next (settle dpllPulls dpllPulled.dpllSelect) := by
    change execDpllPullEnd 1 dpllPulls = _
    rw [execDpllPullEnd, finishIf, if_pos (by decide +kernel)]
    rfl
  obtain rfl : settle dpllPulls dpllPulled.dpllSelect = t := by
    rw [hend] at ht
    simpa using ht
  exact absurd (hacq.symm.trans dpllPulls_switches) (by decide)

end Sys2Proof.Machine
end

section
/-!
Time bases and their servos, trigger units, and time transfer (R385 to R391, R397, R398).
-/
set_option Elab.async false
namespace Sys2Proof.Machine

variable {s t : State} {b d i u t1 ql : Nat} {theta : Int} {m : PtpMsg}

theorem exec_tbSet : exec (.tbSet b) s = execTbSet b s := rfl
theorem exec_tbServoSample : exec (.tbServoSample b theta) s = execTbServoSample b theta s := rfl
theorem exec_tbSampleTimeout : exec (.tbSampleTimeout b) s = execTbSampleTimeout b s := rfl
theorem exec_ppsinEdge : exec (.ppsinEdge i) s = execPpsinEdge i s := rfl
theorem exec_tbHostApply : exec (.tbHostApply b) s = execTbHostApply b s := rfl
theorem exec_triggerArm : exec (.triggerArm u) s = execTriggerArm u s := rfl
theorem exec_triggerDisarm : exec (.triggerDisarm u) s = execTriggerDisarm u s := rfl
theorem exec_triggerFire : exec (.triggerFire u) s = execTriggerFire u s := rfl
theorem exec_triggerHeldLoad : exec (.triggerHeldLoad u) s = execTriggerHeldLoad u s := rfl

/-- A command whose condition does not hold leaves all but what settles. -/
theorem completes_not {c : Instr} {b : Bool} {f : State → State} {P : State → Prop} (h : exec c s = finishIf b s f)
    (hb : b = false) (hP : P s) : Completes c s P :=
  ⟨_, by rw [h, finishIf, if_neg (by simp [hb]), idle], hP⟩

-- Time bases (R385, R386).

/-- What the pulse outputs and triggers of a time base that steps write. -/
abbrev stepKept : Cell → Bool
  | .tim c => match c with
    | .trigHeld | .trigArmed | .trigTgt | .nTrigFired | .nTrigLate => false
    | _ => true
  | .sticky .timTbStep => true
  | _ => false

theorem State.stepEnd_kept {c : Cell} (h : stepKept c = true) (b : Nat) (e : Int) (k j : Nat) :
    ((s.ppsTbStep b e).trigTbStep b).get c k j = s.get c k j :=
  Reach.get_in (g := stepKept) (by
    apply State.trigTbStep_reach (State.ppsTbStep_reach Reach.refl _ _ _ _ _) <;> intros <;> rfl) h ..

/-- A step sets the time base, and the bases beside it keep theirs. -/
theorem State.tbStepTo_facts (n : Nat) : (s.tbStepTo b n).get (.tim .tbSec) 0 b = n / 1000000000 % 2 ^ 48 ∧
    (s.tbStepTo b n).get (.tim .tbNs) 0 b = n % 1000000000 ∧ (s.tbStepTo b n).get (.tim .tbValid) 0 b = 1 ∧
    (s.tbStepTo b n).flag (.sticky .timTbStep) 0 0 = true ∧
    (s.tbStepTo b n).get (.tim .nStep) 0 b = (s.get (.tim .nStep) 0 b + 1) % 2 ^ 64 := by
  unfold State.tbStepTo
  dsimp only
  refine ⟨?_, ?_, ?_, ?_, ?_⟩
  · rw [State.stepEnd_kept rfl]
    simp [State.tbLoad]
  · rw [State.stepEnd_kept rfl]
    simp [State.tbLoad]
  · rw [State.stepEnd_kept rfl]
    simp
  · rw [State.flag, State.stepEnd_kept rfl, ← State.flag]
    simp
  · rw [State.stepEnd_kept rfl]
    simp [State.tbLoad]

/-- A step of one time base leaves the cells of the others, and the cells that no step writes. -/
theorem State.tbStepTo_kept {c : TimCell} {j : Nat} (hc : stepKept (.tim c) = true)
    (hj : j ≠ b ∨ (c ≠ .tbSec ∧ c ≠ .tbNs ∧ c ≠ .tbValid ∧ c ≠ .nStep)) (n : Nat) :
    (s.tbStepTo b n).get (.tim c) 0 j = s.get (.tim c) 0 j := by
  unfold State.tbStepTo
  dsimp only
  rw [State.stepEnd_kept hc]
  rcases hj with hj | ⟨h1, h2, h3, h4⟩ <;> simp_all [State.tbLoad]

section
variable (hon : s.clkOn = true)
include hon

omit hon in
/-- Seconds and nanoseconds of a time in nanoseconds. -/
theorem nanoseconds_split (a : Nat) {n : Nat} (h : n < 1000000000) :
    (a * 1000000000 + n) / 1000000000 = a ∧ (a * 1000000000 + n) % 1000000000 = n := by omega

theorem tbSet_outcome (hn : s.get (.tim .setNs) 0 b < 1000000000) : Completes (.tbSet b) s fun t =>
    t.get (.tim .tbSec) 0 b = (s.get (.tim .setSecHi) 0 b * 2 ^ 32 + s.get (.tim .setSecLo) 0 b) % 2 ^ 48 ∧
      t.get (.tim .tbNs) 0 b = s.get (.tim .setNs) 0 b ∧ t.get (.tim .tbFrac) 0 b = 0 ∧
      t.get (.tim .tbValid) 0 b = 1 ∧ t.flag (.sticky .timTbStep) 0 0 = true ∧
      t.get (.tim .nStep) 0 b = (s.get (.tim .nStep) 0 b + 1) % Counter.size := by
  refine completes_of exec_tbSet hon ?_
  simp only [State.tbSetNow]
  obtain ⟨hsec, hns, hval, hst, hcnt⟩ := State.tbStepTo_facts (s := (s.set (.tim .tbFrac) 0 b 0).set (.tim .tbSub) 0 b 0)
    (b := b) ((s.get (.tim .setSecHi) 0 b * 2 ^ 32 + s.get (.tim .setSecLo) 0 b) * 1000000000 + s.get (.tim .setNs) 0 b)
  refine ⟨?_, ?_, ?_, (get_settle_of rfl ..).trans hval, (flag_settle_of rfl ..).trans hst, ?_⟩
  · rw [get_settle_of rfl, hsec, (nanoseconds_split _ hn).1]
  · rw [get_settle_of rfl, hns, (nanoseconds_split _ hn).2]
  · rw [get_settle_of rfl, State.tbStepTo_kept rfl (by simp)]
    simp
  · rw [get_settle_of rfl, hcnt]
    simp [Counter.size]

end

-- The servo (R386).

/-- A sample that the servo takes moves its integral and the trim only. -/
@[simp] theorem State.servoTake_kept {c : Cell} (h1 : c ≠ .tim .integ) (h2 : c ≠ .tim .trim) (h3 : c ≠ .tim .tbFreq) (k j : Nat) :
    (s.servoTake b theta).get c k j = s.get c k j :=
  Reach.get_in (g := fun c => !(decide (c = .tim .integ) || decide (c = .tim .trim) || decide (c = .tim .tbFreq)))
    (by apply State.servoTake_reach Reach.refl <;> intros <;> rfl) (by simp [h1, h2, h3]) ..

/-- The state of a servo is entered. -/
theorem State.tbEnter_tbSt (v : Nat) : (s.tbEnter b v).tbSt b = v := by simp [State.tbEnter, State.tbSt]

@[simp] theorem State.tbEnter_kept {c : Cell} (h1 : c ≠ .tim .tbState) (h2 : c ≠ .live .timTbHold ∧ c ≠ .sticky .timTbHold)
    (v k j : Nat) : (s.tbEnter b v).get c k j = s.get c k j := by
  rw [State.tbEnter, State.get_cond h2.1 h2.2, State.get_set_ite, if_neg (by simp [h1])]

@[simp] theorem settle_tbSt : (settle s t).tbSt b = t.tbSt b := get_settle_of rfl ..

@[simp] theorem settle_tbNow : (settle s t).tbNow b = t.tbNow b := by
  rw [State.tbNow, get_settle_of rfl, get_settle_of rfl]; rfl

/-- FREE takes no sample. -/
theorem State.servoSample_free (h : s.tbSt b = tbFree) : s.servoSample b theta = s := by
  simp [State.servoSample, h]

/-- LOCKED counts an outlier, and leaves at the eighth in a row. -/
theorem State.servoSample_outlier (h : s.tbSt b = tbLocked) (hf : s.tbFar b theta = true) : s.servoSample b theta =
    if s.get (.tim .outRun) 0 b + 1 = 8 then
      (((s.inc (.tim .nOutlier) 0 b).set (.tim .outRun) 0 b 0).set (.tim .lockRun) 0 b 0).tbEnter b tbAcquire
    else (s.inc (.tim .nOutlier) 0 b).set (.tim .outRun) 0 b (s.get (.tim .outRun) 0 b + 1) := by
  simp only [State.servoSample, h]
  rw [if_neg (by decide), if_pos trivial, if_pos hf]

/-- LOCKED takes a sample within its reach. -/
theorem State.servoSample_locked (h : s.tbSt b = tbLocked) (hf : s.tbFar b theta = false) : s.servoSample b theta =
    ((s.servoTake b theta).sampleAccept b theta).set (.tim .outRun) 0 b 0 := by
  simp only [State.servoSample, h]
  rw [if_neg (by decide), if_pos trivial, if_neg (by simp [hf])]

/-- ACQUIRE steps over a distance beyond its reach, where it may. -/
theorem State.servoSample_steps (h : s.tbSt b = tbAcquire) (hf : s.tbFar b theta = true) (he : s.flag (.tim .stepEn) 0 b = true) :
    s.servoSample b theta =
      ((s.sampleAccept b theta).set (.tim .lockRun) 0 b 0).tbStepTo b ((s.tbNow b : Int) - theta).toNat := by
  simp [State.servoSample, h, hf, he, tbFree, tbLocked, tbAcquire, tbHold]

/-- ACQUIRE counts its good samples and locks at the eighth. -/
theorem State.servoSample_locks (h : s.tbSt b = tbAcquire) (hf : s.tbFar b theta = false)
    (hn : theta.natAbs ≤ s.get (.tim .lockNs) 0 b) (h7 : s.get (.tim .lockRun) 0 b = 7) : s.servoSample b theta =
      ((((s.servoTake b theta).sampleAccept b theta).set (.tim .lockRun) 0 b 0).set (.tim .outRun) 0 b 0).tbEnter b tbLocked := by
  simp [State.servoSample, h, hf, hn, h7, tbFree, tbLocked, tbAcquire, tbHold]

section
variable (hon : s.clkOn = true)
include hon

theorem tbServoSample_free (h : s.tbSt b = tbFree) : Completes (.tbServoSample b theta) s fun t =>
    t.get (.tim .nSamples) 0 b = s.get (.tim .nSamples) 0 b ∧ t.tbNow b = s.tbNow b := by
  refine completes_of exec_tbServoSample hon ?_
  rw [State.servoSample_free h]
  exact ⟨get_settle_of rfl .., settle_tbNow⟩

theorem tbServoSample_outlier (h : s.tbSt b = tbLocked) (hf : s.tbFar b theta = true) :
    Completes (.tbServoSample b theta) s fun t =>
      t.get (.tim .nOutlier) 0 b = (s.get (.tim .nOutlier) 0 b + 1) % Counter.size ∧
        t.get (.tim .nSamples) 0 b = s.get (.tim .nSamples) 0 b ∧
        t.tbSt b = if s.get (.tim .outRun) 0 b = 7 then tbAcquire else tbLocked := by
  refine completes_of exec_tbServoSample hon ?_
  rw [State.servoSample_outlier h hf]
  by_cases h7 : s.get (.tim .outRun) 0 b = 7
  · rw [if_pos (by omega), if_pos h7]
    exact ⟨by simp [Counter.size], by simp, by rw [settle_tbSt, State.tbEnter_tbSt]⟩
  · rw [if_neg (by omega), if_neg h7]
    refine ⟨by simp [Counter.size], by simp, ?_⟩
    rw [settle_tbSt, ← h]
    simp [State.tbSt]

theorem tbServoSample_locked (h : s.tbSt b = tbLocked) (hf : s.tbFar b theta = false) :
    Completes (.tbServoSample b theta) s fun t =>
      t.get (.tim .nSamples) 0 b = (s.get (.tim .nSamples) 0 b + 1) % Counter.size ∧ t.get (.tim .outRun) 0 b = 0 ∧
        t.get (.tim .tbOffset) 0 b = enc (satS 32 theta) % 2 ^ 32 ∧ t.tbSt b = tbLocked := by
  refine completes_of exec_tbServoSample hon ?_
  rw [State.servoSample_locked h hf]
  refine ⟨by simp [State.sampleAccept, Counter.size], by simp, by simp [State.sampleAccept], ?_⟩
  rw [settle_tbSt, ← h]
  simp [State.tbSt, State.sampleAccept]

theorem tbServoSample_steps (h : s.tbSt b = tbAcquire) (hf : s.tbFar b theta = true) (he : s.flag (.tim .stepEn) 0 b = true) :
    Completes (.tbServoSample b theta) s fun t => t.get (.tim .tbValid) 0 b = 1 ∧
      t.flag (.sticky .timTbStep) 0 0 = true ∧ t.tbSt b = tbAcquire ∧ t.get (.tim .lockRun) 0 b = 0 ∧
      t.tbNow b = ((s.tbNow b : Int) - theta).toNat / 1000000000 % 2 ^ 48 * 1000000000 +
        ((s.tbNow b : Int) - theta).toNat % 1000000000 := by
  refine completes_of exec_tbServoSample hon ?_
  rw [State.servoSample_steps h hf he]
  obtain ⟨hsec, hns, hval, hst, -⟩ := State.tbStepTo_facts (s := (s.sampleAccept b theta).set (.tim .lockRun) 0 b 0) (b := b)
    ((s.tbNow b : Int) - theta).toNat
  refine ⟨(get_settle_of rfl ..).trans hval, (flag_settle_of rfl ..).trans hst, ?_, ?_, ?_⟩
  · rw [settle_tbSt, State.tbSt, State.tbStepTo_kept rfl (by simp), ← h]
    simp [State.tbSt, State.sampleAccept]
  · rw [get_settle_of rfl, State.tbStepTo_kept rfl (by simp)]
    simp
  · rw [settle_tbNow, State.tbNow, hsec, hns]

theorem tbServoSample_locks (h : s.tbSt b = tbAcquire) (hf : s.tbFar b theta = false)
    (hn : theta.natAbs ≤ s.get (.tim .lockNs) 0 b) (h7 : s.get (.tim .lockRun) 0 b = 7) :
    Completes (.tbServoSample b theta) s fun t => t.tbSt b = tbLocked :=
  completes_of exec_tbServoSample hon (by rw [State.servoSample_locks h hf hn h7, settle_tbSt, State.tbEnter_tbSt])

theorem tbSampleTimeout_outcome (hb : b < 4) (h : s.tbSt b = tbLocked) : Completes (.tbSampleTimeout b) s fun t =>
    t.tbSt b = tbHold ∧ t.flag (.live .timTbHold) 0 0 = true := by
  refine completes_of exec_tbSampleTimeout (by simp [hon, h]) ⟨by rw [settle_tbSt, State.tbEnter_tbSt], ?_⟩
  rw [flag_settle_of rfl, State.tbEnter, State.flag_cond_live, List.any_eq_true]
  exact ⟨b, by simp [hb], by simp [State.tbSt]⟩

/-- The cells of a servo and its time base that another base's sample leaves. -/
abbrev servoReads : TimCell → Bool
  | .src | .tbState | .tbNs | .ppsDelay | .stepUs | .nSamples => true
  | _ => false

omit hon in
/-- A sample of one time base leaves what the servo of another reads. -/
theorem State.servoSample_other {c : TimCell} {j : Nat} (hc : servoReads c = true) (hj : j ≠ b) :
    (s.servoSample b theta).get (.tim c) 0 j = s.get (.tim c) 0 j := by
  have htake : ∀ v : State, (v.servoTake b theta).get (.tim c) 0 j = v.get (.tim c) 0 j := fun v =>
    State.servoTake_kept (by rintro ⟨⟩; simp at hc) (by rintro ⟨⟩; simp at hc) (by rintro ⟨⟩; simp at hc) ..
  have henter : ∀ (v : State) n, (v.tbEnter b n).get (.tim c) 0 j = v.get (.tim c) 0 j := fun v n => by
    rw [State.tbEnter, State.get_cond (by simp) (by simp), State.get_set_ite, if_neg (by simp [hj])]
  have hstep : ∀ (v : State) n, (v.tbStepTo b n).get (.tim c) 0 j = v.get (.tim c) 0 j := fun v n =>
    State.tbStepTo_kept (by cases c <;> simp_all) (.inl hj) n
  have haccept : ∀ v : State, (v.sampleAccept b theta).get (.tim c) 0 j = v.get (.tim c) 0 j := fun v => by
    simp [State.sampleAccept, hj]
  simp only [State.servoSample]
  split_ifs <;> simp [htake, henter, hstep, haccept, hj]

theorem ppsinEdge_sample (hb : b < 4) (hl : s.flag (.clk .refLos) 0 (4 + i) = false) (hsrc : s.get (.tim .src) 0 b = 2 + i)
    (hst : s.tbSt b = tbLocked)
    (hf : s.tbFar b (ppsTheta (s.get (.tim .tbNs) 0 b) (s.getI (.tim .ppsDelay) 0 b)) = false) :
    Completes (.ppsinEdge i) s fun t =>
      t.get (.tim .nSamples) 0 b = (s.get (.tim .nSamples) 0 b + 1) % Counter.size := by
  refine completes_of exec_ppsinEdge (by simp [hon, hl]) ?_
  rw [get_settle_of rfl]
  refine State.each_once (P := fun x => ∀ c, servoReads c = true → x.get (.tim c) 0 b = s.get (.tim c) 0 b)
    (Q := fun x => x.get (.tim .nSamples) 0 b = (s.get (.tim .nSamples) 0 b + 1) % Counter.size)
    (List.nodup_range) (List.mem_range.mpr hb) (fun c _ => rfl) (fun x e he hx c hc => ?_) (fun x hx => ?_)
    (fun x e he hx => ?_)
  · split
    · rw [State.servoSample_other hc he.symm, hx c hc]
    · exact hx c hc
  · rw [if_pos ((hx _ rfl).trans hsrc)]
    have hst' : x.tbSt b = tbLocked := (hx .tbState rfl).trans hst
    have hf' : x.tbFar b (ppsTheta (x.get (.tim .tbNs) 0 b) (x.getI (.tim .ppsDelay) 0 b)) = false := by
      rw [State.tbFar, State.getI, hx .tbNs rfl, hx .ppsDelay rfl, hx .stepUs rfl]
      exact hf
    rw [State.servoSample_locked hst' hf']
    simp [State.sampleAccept, hx .nSamples rfl, Counter.size]
  · split
    · rw [State.servoSample_other rfl he.symm, hx]
    · exact hx

theorem tbHostApply_sample (hsrc : s.get (.tim .src) 0 b = 4) (hst : s.tbSt b = tbLocked)
    (hf : s.tbFar b (s.getI (.tim .hostofs) 0 b) = false) : Completes (.tbHostApply b) s fun t =>
      t.get (.tim .nSamples) 0 b = (s.get (.tim .nSamples) 0 b + 1) % Counter.size := by
  refine completes_of exec_tbHostApply (by simp [hon, hsrc]) ?_
  rw [State.hostApply, State.servoSample_locked hst hf]
  simp [State.sampleAccept, Counter.size]

-- Triggers (R397, R398).

theorem triggerArm_arms (hm : s.trigMayArm u = true) (h1 : s.get (.tim .trigMode) 0 u = 1) (hlt : s.trigNow u < s.trigTarget u) :
    Completes (.triggerArm u) s fun t => t.get (.tim .trigArmed) 0 u = 1 ∧ t.get (.tim .trigTgt) 0 u = s.trigTarget u ∧
      t.get (.tim .trigHeld) 0 u = (decide (s.trigNow u + 549000000000 < s.trigTarget u)).toNat := by
  refine completes_of exec_triggerArm (by simp [hon, hm]) ?_
  have hnow : (s.set (.tim .trigTgt) 0 u (s.trigTarget u)).trigNow u = s.trigNow u := by
    simp [State.trigNow, State.tbNow]
  rw [State.trigArm, if_neg (by simp [h1])]
  simp only [State.trigLoad, hnow, State.get_set_ite, and_self, if_true]
  rw [if_neg (by omega)]
  by_cases hfar : s.trigNow u + 549000000000 < s.trigTarget u
  · simp [hfar]
  · simp [hfar]

theorem triggerArm_late (hm : s.trigMayArm u = true) (h1 : s.get (.tim .trigMode) 0 u = 1) (hle : s.trigTarget u ≤ s.trigNow u) :
    Completes (.triggerArm u) s fun t => t.get (.tim .trigArmed) 0 u = 0 ∧ t.flag (.sticky .timTrigLate) 0 0 = true ∧
      t.get (.tim .nTrigLate) 0 0 = (s.get (.tim .nTrigLate) 0 0 + 1) % Counter.size := by
  refine completes_of exec_triggerArm (by simp [hon, hm]) ?_
  have hnow : (s.set (.tim .trigTgt) 0 u (s.trigTarget u)).trigNow u = s.trigNow u := by
    simp [State.trigNow, State.tbNow]
  rw [State.trigArm, if_neg (by simp [h1])]
  simp only [State.trigLoad, hnow, State.get_set_ite, and_self, if_true]
  rw [if_pos hle]
  simp [State.trigLateFire, State.trigLate, h1, Counter.size]

omit hon in
theorem triggerArm_refused (hm : s.trigMayArm u = false) : Completes (.triggerArm u) s fun t =>
    t.get (.tim .trigArmed) 0 u = s.get (.tim .trigArmed) 0 u :=
  completes_not exec_triggerArm (by simp [hm]) rfl

theorem triggerDisarm_outcome : Completes (.triggerDisarm u) s fun t =>
    t.get (.tim .trigArmed) 0 u = 0 ∧ t.get (.tim .trigHeld) 0 u = 0 :=
  completes_of exec_triggerDisarm hon (by simp [State.trigDisarm])

theorem triggerFire_once (hm : s.trigMet u = true) (h1 : s.get (.tim .trigMode) 0 u = 1) :
    Completes (.triggerFire u) s fun t => t.get (.tim .trigArmed) 0 u = 0 ∧
      t.get (.tim .nTrigFired) 0 u = (s.get (.tim .nTrigFired) 0 u + 1) % Counter.size :=
  completes_of exec_triggerFire (by simp [hon, hm]) (by simp [State.trigFire, h1, Counter.size])

theorem triggerFire_periodic (hm : s.trigMet u = true) (h2 : s.get (.tim .trigMode) 0 u = 2)
    (hlt : s.trigNow u < s.get (.tim .trigTgt) 0 u + s.get (.tim .trigPeriod) 0 u) :
    Completes (.triggerFire u) s fun t => t.flag (.tim .trigArmed) 0 u = true ∧
      t.get (.tim .trigTgt) 0 u = s.get (.tim .trigTgt) 0 u + s.get (.tim .trigPeriod) 0 u := by
  have harmed : s.flag (.tim .trigArmed) 0 u = true := by
    simp only [State.trigMet, Bool.and_eq_true] at hm
    exact hm.1.1
  refine completes_of exec_triggerFire (by simp [hon, hm]) ?_
  have hnow : ∀ v : Nat, ((s.inc (.tim .nTrigFired) 0 u).set (.tim .trigTgt) 0 u v).trigNow u = s.trigNow u := fun v => by
    simp [State.trigNow, State.tbNow]
  simp only [State.trigFire]
  rw [if_pos (by simp [h2]), if_neg (by rw [hnow]; simpa using hlt)]
  simp [harmed]

theorem triggerHeldLoad_outcome (hh : s.flag (.tim .trigHeld) 0 u = true) (hlt : s.trigNow u < s.get (.tim .trigTgt) 0 u)
    (hle : s.get (.tim .trigTgt) 0 u ≤ s.trigNow u + 500000000000) : Completes (.triggerHeldLoad u) s fun t =>
      t.get (.tim .trigHeld) 0 u = 0 ∧ t.get (.tim .trigArmed) 0 u = 1 := by
  refine completes_of exec_triggerHeldLoad (by simp [hon, hh, hle]) ?_
  simp only [State.trigLoad]
  rw [if_neg (by omega), if_neg (by omega)]
  simp

end

/-- Settles O45: sets, the servo by its state and the distance of a sample, and the triggers.  That a unit stays ARMED while it is
HELD is the model's choice (log 26). -/
theorem timeBasesAndTriggers : Obligations.TimeBasesAndTriggers := by
  unfold Obligations.TimeBasesAndTriggers
  exact ⟨fun s b i theta hon hb => ⟨tbSet_outcome hon, tbServoSample_free hon, tbServoSample_outlier hon,
      tbServoSample_locked hon, tbServoSample_steps hon, tbServoSample_locks hon, tbSampleTimeout_outcome hon hb,
      fun _ => ppsinEdge_sample hon hb, tbHostApply_sample hon⟩,
    fun s u hon => ⟨triggerArm_arms hon, triggerArm_late hon, triggerArm_refused, triggerDisarm_outcome hon,
      triggerFire_once hon, triggerFire_periodic hon, triggerHeldLoad_outcome hon⟩⟩

-- Time messages (R388 to R391).

theorem exec_ptpSyncTimer : exec (.ptpSyncTimer d b) s = execPtpSyncTimer d b s := rfl
theorem exec_ptpSyncRx : exec (.ptpSyncRx d m) s = execPtpSyncRx d m s := rfl
theorem exec_ptpFollowUpRx : exec (.ptpFollowUpRx d m t1) s = execPtpFollowUpRx d m t1 s := rfl
theorem exec_ptpDelayReqRx : exec (.ptpDelayReqRx d m) s = execPtpDelayReqRx d m s := rfl
theorem exec_ptpDelayRespRx : exec (.ptpDelayRespRx d m t1) s = execPtpDelayRespRx d m t1 s := rfl
theorem exec_ssmTx : exec (.ssmTx d) s = execSsmTx d s := rfl
theorem exec_ssmRx : exec (.ssmRx d ql) s = execSsmRx d ql s := rfl

/-- What a pair of time messages shows to its reader. -/
abbrev pairReads : Cell → Bool
  | .tim c => match c with
    | .ptpT1 | .ptpPairT3 | .ptpT4 | .ptpHaveSync | .ptpHaveReq => true
    | _ => false
  | _ => false

/-- Pairing a Sync with a Delay_Req leaves the pair as it is. -/
theorem State.ptpPair_kept {c : Cell} (h : pairReads c = true) (k j : Nat) : (s.ptpPair d b).get c k j = s.get c k j :=
  Reach.get_in (g := pairReads) (by apply State.ptpPair_reach Reach.refl <;> intros <;> rfl) h ..

section
variable (hon : s.clkOn = true) (ho : s.osmcOn d = true)
include hon ho

theorem ptpSyncTimer_master (hk : s.osmcKeyed d = true) (hr : s.osmcRole d b = 1) : Completes (.ptpSyncTimer d b) s fun t =>
    t.get (.tim .ptpTxT1) d b = 10 * s.tbNow b + s.txLat d ∧
      t.get (.tim .ptpTxSeq) d b = if s.get (.tim .ptpTxSeq) d b = 0 then 1 else s.get (.tim .ptpTxSeq) d b % 65536 + 1 :=
  completes_of exec_ptpSyncTimer (by simp [hon, ho, hk]) (by simp [hr, State.stamp])

theorem ptpSyncTimer_slave (hk : s.osmcKeyed d = true) (hr : s.osmcRole d b = 2) : Completes (.ptpSyncTimer d b) s fun t =>
    t.get (.tim .ptpT3) d b = 10 * s.tbNow b + s.txLat d :=
  completes_of exec_ptpSyncTimer (by simp [hon, ho, hk]) (by simp [hr, State.stamp])

section
variable (hs : s.osmcFor d m.domain 2 = some b)
include hs

theorem ptpSyncRx_passes (hp : osmcPass m (s.get (.tim .ptpSyncSeq) d b) = true) : Completes (.ptpSyncRx d m) s fun t =>
    t.get (.tim .ptpT2) d b = 10 * s.tbNow b - s.rxLat d ∧ t.get (.tim .ptpSyncSeq) d b = m.seq + 1 ∧
      t.get (.tim .ptpHaveSync) d b = 0 :=
  completes_of exec_ptpSyncRx (by simp [hon, ho]) (by simp [hs, hp, State.stamp])

theorem ptpSyncRx_discards (hp : osmcPass m (s.get (.tim .ptpSyncSeq) d b) = false) :
    Completes (.ptpSyncRx d m) s fun t =>
      t.get (.tim .nOsmcDisc) 0 0 = (s.get (.tim .nOsmcDisc) 0 0 + 1) % Counter.size :=
  completes_of exec_ptpSyncRx (by simp [hon, ho]) (by simp [hs, hp, State.osmcDisc, Counter.size])

theorem ptpFollowUpRx_outcome (ht : m.tagOk = true) (hm : m.malformed = false)
    (hq : s.get (.tim .ptpSyncSeq) d b = m.seq + 1) (hf : s.flag (.tim .ptpHaveSync) d b = false) :
    Completes (.ptpFollowUpRx d m t1) s fun t =>
      t.get (.tim .ptpT1) d b = t1 ∧ t.get (.tim .ptpHaveSync) d b = 1 := by
  refine completes_of exec_ptpFollowUpRx (by simp [hon, ho]) ?_
  simp only [hs]
  rw [if_pos (by simp [ht, hm, hq, hf]), get_settle_of rfl, get_settle_of rfl, State.ptpPair_kept rfl, State.ptpPair_kept rfl]
  simp

theorem ptpDelayRespRx_outcome (ht : m.tagOk = true) (hm : m.malformed = false)
    (hq : s.get (.tim .ptpReqSeq) d b = m.seq + 1) (h3 : s.get (.tim .ptpT3) d b ≠ 0) :
    Completes (.ptpDelayRespRx d m t1) s fun t => t.get (.tim .ptpT4) d b = t1 ∧
      t.get (.tim .ptpPairT3) d b = s.get (.tim .ptpT3) d b ∧ t.get (.tim .ptpHaveReq) d b = 1 := by
  refine completes_of exec_ptpDelayRespRx (by simp [hon, ho]) ?_
  simp only [hs]
  rw [if_pos (by simp [ht, hm, hq, h3]), get_settle_of rfl, get_settle_of rfl, get_settle_of rfl, State.ptpPair_kept rfl,
    State.ptpPair_kept rfl, State.ptpPair_kept rfl]
  simp

end

theorem ptpDelayReqRx_passes (hs : s.osmcFor d m.domain 1 = some b)
    (hp : osmcPass m (s.get (.tim .ptpReqRxSeq) d b) = true) : Completes (.ptpDelayReqRx d m) s fun t =>
      t.get (.tim .ptpReqRxSeq) d b = m.seq + 1 ∧
        (s.osmcKeyed d = true → t.get (.tim .ptpTxT4) d b = 10 * s.tbNow b - s.rxLat d) := by
  refine completes_of exec_ptpDelayReqRx (by simp [hon, ho]) ?_
  have hkeyed : (s.set (.tim .ptpReqRxSeq) d b (m.seq + 1)).osmcKeyed d = s.osmcKeyed d := by
    simp [State.osmcKeyed, State.spanOn, State.spanCarriers, State.winWordAt]
  simp only [hs, hp, hkeyed, if_true]
  split
  case isTrue => simp [State.stamp]
  case isFalse hk => simp [hk]

theorem ptpDelayReqRx_unknown (hs : s.osmcFor d m.domain 1 = none) : Completes (.ptpDelayReqRx d m) s fun t =>
    t.get (.tim .nOsmcDisc) 0 0 = (s.get (.tim .nOsmcDisc) 0 0 + 1) % Counter.size :=
  completes_of exec_ptpDelayReqRx (by simp [hon, ho]) (by simp [hs, State.osmcDisc, Counter.size])

theorem ptpFollowUpRx_unknown (hs : s.osmcFor d m.domain 2 = none) : Completes (.ptpFollowUpRx d m t1) s fun t =>
    t.get (.tim .nOsmcDisc) 0 0 = (s.get (.tim .nOsmcDisc) 0 0 + 1) % Counter.size :=
  completes_of exec_ptpFollowUpRx (by simp [hon, ho]) (by simp [hs, State.osmcDisc, Counter.size])

theorem ssmTx_outcome : Completes (.ssmTx d) s fun t => t.get (.tim .ssmTx) d 0 = s.ssmQl d + 1 :=
  completes_of exec_ssmTx (by simp [hon, ho]) (by simp)

theorem ssmRx_outcome : Completes (.ssmRx d ql) s fun t => t.get (.tim .rxQl) d 0 = 16 + ql :=
  completes_of exec_ssmRx (by simp [hon, ho]) (by simp)

end

/-- Settles O46: the stamps, the checks of a time message and the synchronisation status.  Stamps in units of 0.1 ns and the
comparison of SEQ over half its range are the model's choice (log 26). -/
theorem timeMessages : Obligations.TimeMessages := by
  unfold Obligations.TimeMessages
  exact fun s d b t1 ql m hon ho _ => ⟨ptpSyncTimer_master hon ho, ptpSyncTimer_slave hon ho,
    fun hs => ⟨ptpSyncRx_passes hon ho hs, ptpSyncRx_discards hon ho hs, ptpFollowUpRx_outcome hon ho hs,
      ptpDelayRespRx_outcome hon ho hs⟩,
    ptpDelayReqRx_passes hon ho, fun h1 h2 => ⟨ptpDelayReqRx_unknown hon ho h1, ptpFollowUpRx_unknown hon ho h2⟩,
    ssmTx_outcome hon ho, ssmRx_outcome hon ho⟩

end Sys2Proof.Machine
end

section
/-!
The temperature of the converters (R420): a reading beyond what its cell holds.
-/
set_option Elab.async false
namespace Sys2Proof.Machine
open Sys2Proof.Tests

/-- Carrier 0 is up, and its converters are at 0 °C. -/
def coldConverters : State :=
  wSt [(.sys .aoOn, 0, 0, 1), (.sys .railsGood, 0, 0, 1), (.sys .diePresent, 0, 0, 255), (.sys .dieReleased, 0, 0, 255)]

/-- A temperature of 2^64 half degrees leaves 0 °C: the cell keeps 64 bits. -/
theorem coldConverters_keeps :
    (after (.convTempUpdate 0 (2 ^ 64)) coldConverters).getI (.cal .temp) 0 0 = 0 := by decide +kernel

/-- Refutes O47: the clause of CONV_TEMP_UPDATE bounds its temperature nowhere.  The cell holds a signed 64-bit quantity, so
a temperature of 2^64 reads 0 afterwards. -/
theorem not_monitorsAndCalibration : ¬ Obligations.MonitorsAndCalibration := by
  unfold Obligations.MonitorsAndCalibration
  rintro ⟨-, -, h⟩
  obtain ⟨-, -, -, htemp, -⟩ := h coldConverters 0 0 ⟨0, 0, 0⟩ ⟨0, 0, 0⟩ ⟨0, 0, 0⟩ (2 ^ 64) false [] (by decide +kernel)
    (by decide) (by decide)
  have h := (htemp (by decide +kernel) (by decide +kernel)).after
  rw [coldConverters_keeps] at h
  exact absurd h (by decide)

end Sys2Proof.Machine
end

section
/-!
Lock-in outputs of a bias loop (R414, R418): a phase point that leaves LOCKED while its transmitter is ACTIVE.
-/
set_option Elab.async false
namespace Sys2Proof.Machine
open Sys2Proof.Tests

/-- Carrier 0 is ACTIVE with every bias point LOCKED; point XP has had 15 outputs beyond its threshold. -/
def phaseLeaves : State :=
  wSt ([(.sys .aoOn, 0, 0, 1), (.sys .railsGood, 0, 0, 1), (.sys .dieReleased, 0, 0, 255), (.lt .txEn, 0, 0, 1), (.lt .txState, 0, 0, txActive), (.las .state, 0, 0, 3),
    (.bias .started, 0, 0, 1), (.bias .biasEn, 0, 0, 1), (.bias .biasLock, 0, 0, 1), (.bias .light, 0, 0, 1),
    (.bias .ptUnlRun, 0, 2, 15)] ++ (List.range 6).flatMap fun k => [(.bias .ptState, 0, k, ptLocked), (.bias .ptBase, 0, k, ptLocked)])

/-- The next such output ends the carrier's bias lock, which mutes the transmitter; muted, the point is in PRESET. -/
theorem phaseLeaves_shows :
    (after (.biasLockinOutput 0 2 1000 false none) phaseLeaves).get (.bias .ptState) 0 2 = ptPreset := by decide +kernel

/-- Refutes O48: the sixteenth output beyond the threshold does not leave a phase point UNLOCKED where the transmitter is
ACTIVE: the carrier loses its bias lock, is muted, and the point goes to PRESET in the same command. -/
theorem not_biasLoops : ¬ Obligations.BiasLoops := by
  unfold Obligations.BiasLoops
  intro h
  obtain ⟨-, -, -, -, -, hleaves, -⟩ := h phaseLeaves 0 2 1000 ⟨true, [], [], true, none, [], true⟩ none (by decide +kernel)
    (by decide) (by decide)
  obtain ⟨hst, -⟩ := (hleaves (by decide +kernel) (by decide +kernel) (by decide +kernel) (by decide +kernel)
    (by decide +kernel) (by decide +kernel) (by decide +kernel) (by decide +kernel) (by decide +kernel) (by decide +kernel)
    (by decide +kernel)).after
  rw [phaseLeaves_shows] at hst
  exact absurd hst (by decide)

end Sys2Proof.Machine
end

section
/-!
The supplies, tamper trips, the reset pins and the JTAG port (R46, R56, R343, R412, R425, R427, R482, R483).
-/
set_option Elab.async false
namespace Sys2Proof.Machine

variable {s : State} {b m : Bool} {c : Cell} {d i k j rail sensor still : Nat} {neg : Bool} {done : List Nat}
  {captured loaded : List Bool}

theorem exec_powerGood : exec .powerGood s = execPowerGood s := rfl
theorem exec_railFail (b : Bool) : exec (.railFail rail b) s = execRailFail rail b s := rfl
theorem exec_railRecovered : exec .railRecovered s = execRailRecovered s := rfl
theorem exec_hvRailFail : exec (.hvRailFail neg) s = execHvRailFail neg s := rfl
theorem exec_hvRailRecovered : exec .hvRailRecovered s = execHvRailRecovered s := rfl
theorem exec_tamperTrip : exec (.tamperTrip sensor) s = execTamperTrip sensor s := rfl
theorem exec_tamperHoldExpiry : exec (.tamperHoldExpiry still) s = execTamperHoldExpiry still s := rfl
theorem exec_vddAoApplied : exec .vddAoApplied s = execVddAoApplied s := rfl
theorem exec_vddAoLoss : exec .vddAoLoss s = execVddAoLoss s := rfl
theorem exec_sysRstLow : exec .sysRstLow s = execSysRstLow s := rfl
theorem exec_sysRstRise : exec .sysRstRise s = execSysRstRise s := rfl
theorem exec_perstAssert : exec (.perstAssert done) s = execPerstAssert done s := rfl
theorem exec_perstRelease : exec (.perstRelease b m) s = execPerstRelease b m s := rfl
theorem exec_jtagBypass : exec .jtagBypass s = execJtagBypass s := rfl
theorem exec_jtagIdcode : exec .jtagIdcode s = execJtagIdcode s := rfl
theorem exec_jtagSamplePreload : exec (.jtagSamplePreload captured loaded) s = execJtagSamplePreload captured loaded s := rfl
theorem exec_jtagExtest : exec .jtagExtest s = execJtagExtest s := rfl

-- The dies in reset (R56).

/-- The cells that a bias point going idle leaves. -/
abbrev idleKeeps : Cell → Bool
  | .bias c => match c with
    | .ptState | .ptAcq | .ptV | .ptBase => false
    | _ => true
  | _ => true

/-- With the dies in reset, what survives a restart reads as before and the rest as after reset. -/
theorem State.get_diesReset (h : idleKeeps c = true) (k j : Nat) :
    s.diesReset.get c k j = if c.survives then s.get c k j else (⟨c, k, j⟩ : Key).reset := by
  have hcells : s.diesReset.cells =
      ((s.clear fun k => !k.cell.survives).each (List.range 8) fun s d => s.phaseIdle d).cells := by
    simp only [State.diesReset]
  have hidle : ((s.clear fun k => !k.cell.survives).each (List.range 8) fun s d => s.phaseIdle d).get c k j =
      (s.clear fun k => !k.cell.survives).get c k j := State.get_each_absent fun d _ x =>
    Reach.get_in (g := idleKeeps) (by apply State.phaseIdle_reach Reach.refl <;> intros <;> rfl) h ..
  rw [State.get, hcells, ← State.get, hidle, State.get_clear]
  cases c.survives <;> rfl

/-- A cell that a restart leaves keeps its contents with the dies in reset. -/
theorem State.diesReset_survives (h : idleKeeps c = true) (hc : c.survives = true) (k j : Nat) :
    s.diesReset.get c k j = s.get c k j := by rw [State.get_diesReset h, if_pos hc]

/-- A cell that no restart leaves reads 0 with the dies in reset, where that is its reset value. -/
theorem State.diesReset_clears (h : idleKeeps c = true) (hc : c.survives = false) (h0 : (⟨c, k, j⟩ : Key).reset = 0) :
    s.diesReset.get c k j = 0 := by rw [State.get_diesReset h, if_neg (by simp [hc]), h0]

/-- A restart begins at step 2 of R56 with the power on. -/
theorem State.restart_facts : s.restart.bootState = bootPor ∧ s.restart.get (.boot .step) 0 0 = 2 ∧
    s.restart.poweredOff = false := by
  simp [State.restart, State.bootState, State.poweredOff]

/-- What a restart leaves of the cells it does not set itself. -/
theorem State.get_restart (h : c ≠ .boot .step ∧ c ≠ .boot .state ∧ c ≠ .ao .powerOff) (k j : Nat) :
    s.restart.get c k j = s.diesReset.get c k j := by
  obtain ⟨h1, h2, h3⟩ := h
  simp [State.restart, h1, h2, h3]

-- Rails (R425, R427).

/-- The cells of the supplies and of start-up that no bias loop and no Bell message writes. -/
abbrev powerKeeps : Cell → Bool
  | .boot _ | .ao _ | .sbg _ | .cry _ | .pwr _ | .bias .hvClamp => true
  | .sys c => decide (c ≠ .freeCount)
  | .live a => (railAlm ++ hvAlm ++ tamperAlm).contains a
  | _ => false

theorem State.gaspQueue_kept (h : powerKeeps c = true) (d reason k j : Nat) :
    (s.gaspQueue d reason).get c k j = s.get c k j :=
  Reach.get_in (g := powerKeeps) (by apply State.gaspQueue_reach Reach.refl <;> intros <;> rfl) h ..

theorem State.biasShow_kept (h : powerKeeps c = true) (d k j : Nat) : (s.biasShow d).get c k j = s.get c k j :=
  Reach.get_in (g := powerKeeps) (by apply State.biasShow_reach Reach.refl <;> intros <;> rfl) h ..

/-- The clamp of the bias outputs leaves what the supplies and start-up hold. -/
theorem State.clampSet_kept (h : powerKeeps c = true) (hc : c ≠ .bias .hvClamp) (k j : Nat) :
    (s.clampSet b).get c k j = s.get c k j :=
  State.get_each_absent fun d _ x => by rw [State.biasShow_kept h]; simp [State.setB, hc]

/-- The clamp acts on every carrier that is present. -/
theorem State.clampSet_hvClamp (hd : s.present d = true) : (s.clampSet b).flag (.bias .hvClamp) d 0 = b := by
  have hmem : d ∈ s.dies := by
    have hlt : d < 8 := by
      rw [State.present, Bool.and_eq_true] at hd
      exact of_decide_eq_true hd.1
    simp [State.dies, hlt, hd]
  have hget : (s.clampSet b).get (.bias .hvClamp) d 0 = b.toNat :=
    State.get_each_mem hmem (fun x => by rw [State.biasShow_kept rfl]; simp [State.setB])
      fun e he x => by rw [State.biasShow_kept rfl]; simp [State.setB, he.symm]
  rw [State.flag, hget]
  cases b <;> rfl

/-- Alarms that end one after another. -/
theorem State.each_lower_live {a : Alm} {l : List Alm} (h : a ∈ l) :
    (s.each l fun s a => s.lower a 0 0).flag (.live a) 0 0 = false := by
  have hget : (s.each l fun s a => s.lower a 0 0).get (.live a) 0 0 = 0 :=
    State.get_each_mem h (fun x => x.lower_live a 0 0) fun e he _ => State.get_lower_other (by simpa using he.symm) ..
  rw [State.flag, hget]
  rfl

theorem State.each_lower_kept {l : List Alm} (h : ∀ a ∈ l, c ≠ .live a) (k j : Nat) :
    (s.each l fun s a => s.lower a 0 0).get c k j = s.get c k j :=
  State.get_each_absent fun a ha _ => State.get_lower_other (h a ha) ..

/-- The alarm of a logic rail is one of theirs. -/
theorem railAlm_mem (h : rail < 9) : railAlm.getD rail .pgVio ∈ railAlm := by
  rw [List.getD_eq_getElem (hn := (h : rail < railAlm.length))]
  exact List.getElem_mem _

theorem tamperAlm_mem (h : sensor < 4) : tamperAlm.getD sensor .aoTamperMesh ∈ tamperAlm := by
  rw [List.getD_eq_getElem (hn := (h : sensor < tamperAlm.length))]
  exact List.getElem_mem _

/-- Alarms of the supplies and the tamper sensors lie in the Lantern's area. -/
theorem railAlm_survives {a : Alm} (h : a ∈ railAlm ++ hvAlm ++ tamperAlm) :
    (Cell.live a).survives = true ∧ powerKeeps (.live a) = true ∧ (Cell.live a).summary = false := by
  revert a
  decide

/-- Power off: start-up is back at step 1, and the keys have gone. -/
theorem State.powerCut_facts (reason : Nat) : (s.powerCut reason).poweredOff = true ∧
    (s.powerCut reason).bootState = bootPor ∧ (s.powerCut reason).get (.boot .step) 0 0 = 1 ∧
    (s.powerCut reason).get (.sys .dieReleased) 0 0 = 0 ∧ (∀ d, (s.powerCut reason).get (.sbg .spHas) 0 d = 0) ∧
    ∀ d i, (s.powerCut reason).get (.cry .txKeySms) d i = 0 := by
  have hgasp : ∀ {c : Cell} (k j : Nat), powerKeeps c = true → (s.powerCut reason).get c k j = s.diesOff.get c k j :=
    fun k j h => State.get_each_absent fun d _ x => State.gaspQueue_kept h ..
  refine ⟨?_, ?_, ?_, ?_, fun d => ?_, fun d i => ?_⟩
  · rw [State.poweredOff, State.flag, hgasp _ _ rfl]
    simp [State.diesOff]
  · rw [State.bootState, hgasp _ _ rfl]
    simp [State.diesOff, State.toStep1]
  · rw [hgasp _ _ rfl]
    simp [State.diesOff, State.toStep1]
  · rw [hgasp _ _ rfl]
    simpa [State.diesOff, State.toStep1] using State.diesReset_clears rfl rfl rfl
  · rw [hgasp _ _ rfl]
    simpa [State.diesOff, State.toStep1] using State.diesReset_clears rfl rfl rfl
  · rw [hgasp _ _ rfl]
    simpa [State.diesOff, State.toStep1] using State.diesReset_clears rfl rfl rfl

/-- What outlasts the loss of power. -/
theorem State.powerCut_kept (h : powerKeeps c = true) (hc : c.survives = true) (hi : idleKeeps c = true)
    (hoff : c ≠ .ao .powerOff) (hboot : c ≠ .boot .step ∧ c ≠ .boot .state) (reason k j : Nat) :
    (s.powerCut reason).get c k j = s.get c k j := by
  obtain ⟨h1, h2⟩ := hboot
  have hgasp : (s.powerCut reason).get c k j = s.diesOff.get c k j :=
    State.get_each_absent fun d _ x => State.gaspQueue_kept h ..
  rw [hgasp]
  simpa [State.diesOff, State.toStep1, hoff, h1, h2] using State.diesReset_survives hi hc k j

section
variable (hon : s.flag (.sys .aoOn) 0 0 = true)
include hon

theorem powerGood_outcome (hg : s.flag (.sys .railsGood) 0 0 = false) (hd : s.present d = true) (hr : rail < 9) :
    Completes .powerGood s fun t => t.flag (.sys .railsGood) 0 0 = true ∧
      t.flag (.live (railAlm.getD rail .pgVio)) 0 0 = false ∧ t.flag (.live .biasUnlock) d 0 = true ∧
      t.get (.boot .step) 0 0 = (if s.flag (.sys .sysRstN) 0 0 then 2 else s.get (.boot .step) 0 0) := by
  refine completes_of exec_powerGood (by simp [hon, hg]) ?_
  dsimp only
  set u := (s.each railAlm fun s a => s.lower a 0 0).set (.sys .railsGood) 0 0 1 with hu
  set v := u.each u.dies fun s d => s.set (.live .biasUnlock) d 0 1 with hv
  have hkept : ∀ {c : Cell} (k j : Nat), c ≠ .live .biasUnlock → v.get c k j = u.get c k j := fun k j h =>
    State.get_each_absent fun d _ x => by simp [h]
  have hlow : ∀ {c : Cell} (k j : Nat), (∀ a ∈ railAlm, c ≠ .live a) → c ≠ .sys .railsGood → u.get c k j = s.get c k j :=
    fun k j h h' => by rw [hu, State.get_set_ite, if_neg (by simp [h']), State.each_lower_kept h]
  have hrst : v.flag (.sys .sysRstN) 0 0 = s.flag (.sys .sysRstN) 0 0 := by
    rw [State.flag, hkept _ _ (by simp), hlow _ _ (by simp) (by simp), ← State.flag]
  have hwhen : ∀ {c : Cell} (k j : Nat), c ≠ .boot .step →
      (v.when (v.flag (.sys .sysRstN) 0 0) fun s => s.set (.boot .step) 0 0 2).get c k j = v.get c k j := fun k j h => by
    cases v.flag (.sys .sysRstN) 0 0 <;> simp [h]
  have hne : ∀ a ∈ railAlm, a ≠ .biasUnlock := by decide
  have hmem := railAlm_mem hr
  refine ⟨?_, ?_, ?_, ?_⟩
  · rw [flag_settle_of rfl, State.flag, hwhen _ _ (by simp), hkept _ _ (by simp), hu]
    simp
  · rw [flag_settle_of (railAlm_survives (List.mem_append_left _ (List.mem_append_left _ hmem))).2.2, State.flag,
      hwhen _ _ (by simp), hkept _ _ (by simpa using hne _ hmem), hu,
      State.get_set_ite, if_neg (by simp), ← State.flag]
    exact State.each_lower_live hmem
  · have hdies : d ∈ u.dies := by
      have hp : u.present d = true := by rw [State.present, hlow _ _ (by simp) (by simp)]; exact hd
      simp only [State.dies, List.mem_filter, List.mem_range]
      rw [State.present, Bool.and_eq_true] at hd
      exact ⟨of_decide_eq_true hd.1, hp⟩
    have hset : v.get (.live .biasUnlock) d 0 = 1 :=
      State.get_each_mem hdies (fun x => by simp) fun e he x => by simp [he.symm]
    rw [flag_settle_of rfl, State.flag, hwhen _ _ (by simp), hset]
    rfl
  · rw [get_settle_of rfl]
    cases hb : s.flag (.sys .sysRstN) 0 0
    · rw [hrst.trans hb, State.when_false, hkept _ _ (by simp), hlow _ _ (by simp) (by simp)]
      simp
    · rw [hrst.trans hb]
      simp

theorem railFail_outcome (hr : rail < 9) (hg : s.flag (.sys .railsGood) 0 0 = true) (hp : s.pkgAsleep = false)
    (ho : s.poweredOff = false) : Completes (.railFail rail false) s fun t => t.poweredOff = true ∧ t.bootState = bootPor ∧
      t.get (.boot .step) 0 0 = 1 ∧ t.get (.sys .dieReleased) 0 0 = 0 ∧
      t.flag (.live (railAlm.getD rail .pgVio)) 0 0 = true ∧
      t.get (.ao .nPgFail) 0 0 = (s.get (.ao .nPgFail) 0 0 + 1) % Counter.size := by
  refine completes_of (exec_railFail _) hon ?_
  set a := railAlm.getD rail .pgVio with ha
  have hmem : a ∈ railAlm ++ hvAlm ++ tamperAlm := by simp [ha, -List.getD_eq_getElem?_getD, railAlm_mem hr]
  obtain ⟨hsurv, hpow, hsum⟩ := railAlm_survives hmem
  set u := s.railBad a with hu
  have hsleep : u.pkgAsleep = false := by rw [← hp]; simp [hu, State.pkgAsleep, State.railBad]
  have hoff : u.poweredOff = false := by rw [← ho]; simp [hu, State.poweredOff, State.railBad]
  have hgood : u.flag (.sys .railsGood) 0 0 = true := by rw [← hg]; simp [hu, State.railBad]
  simp only [hsleep, hoff, hgood]
  obtain ⟨hpo, hst, hstep, hrel, -⟩ := u.powerCut_facts gaspRail
  refine ⟨(flag_settle_of rfl ..).trans hpo, (get_settle_of rfl ..).trans hst, (get_settle_of rfl ..).trans hstep,
    (get_settle_of rfl ..).trans hrel, ?_, ?_⟩
  · rw [flag_settle_of hsum]
    have hlive : u.flag (.live a) 0 0 = true := by simp [hu, State.railBad]
    have := u.powerCut_kept hpow hsurv rfl (by simp) (by simp) gaspRail 0 0
    simpa [State.flag, this] using hlive
  · have := u.powerCut_kept (c := .ao .nPgFail) rfl rfl rfl (by simp) (by simp) gaspRail 0 0
    rw [get_settle_of rfl]
    simpa [this, hu, State.railBad, Counter.size] using this

theorem railRecovered_outcome (hr : rail < 9) (ho : s.poweredOff = true) (ht : s.flag (.ao .tamperDown) 0 0 = false)
    (hrst : s.flag (.sys .sysRstN) 0 0 = true) : Completes .railRecovered s fun t => t.poweredOff = false ∧
      t.bootState = bootPor ∧ t.get (.boot .step) 0 0 = 2 ∧ t.flag (.live (railAlm.getD rail .pgVio)) 0 0 = false ∧
      (s.present d = true → t.flag (.bias .hvClamp) d 0 = false) := by
  refine completes_of exec_railRecovered hon ?_
  dsimp only
  set v := s.each (railAlm ++ hvAlm) fun s a => s.lower a 0 0 with hv
  have hlow : ∀ {c : Cell} (k j : Nat), (∀ a ∈ railAlm ++ hvAlm, c ≠ .live a) → v.get c k j = s.get c k j :=
    fun k j h => State.each_lower_kept h ..
  have hkept : ∀ {c : Cell} (k j : Nat), powerKeeps c = true → c ≠ .bias .hvClamp →
      (∀ a ∈ railAlm ++ hvAlm, c ≠ .live a) → (v.clampSet false).get c k j = s.get c k j :=
    fun k j h h' ha => by rw [State.clampSet_kept h h', hlow _ _ ha]
  have hoff : (v.clampSet false).poweredOff = true := by
    rw [State.poweredOff, State.flag, hkept _ _ rfl (by simp) (by simp)]; exact ho
  have htam : (v.clampSet false).flag (.ao .tamperDown) 0 0 = false := by
    rw [State.flag, hkept _ _ rfl (by simp) (by simp)]; exact ht
  have hpin : (v.clampSet false).flag (.sys .sysRstN) 0 0 = true := by
    rw [State.flag, hkept _ _ rfl (by simp) (by simp)]; exact hrst
  rw [if_pos (by simp [hoff, htam]), State.restartOrHold, if_pos hpin]
  obtain ⟨hst, hstep, hpow⟩ := (v.clampSet false).restart_facts
  have hmem : railAlm.getD rail .pgVio ∈ railAlm ++ hvAlm := List.mem_append_left _ (railAlm_mem hr)
  obtain ⟨hsurv, hpk, hsum⟩ := railAlm_survives (List.mem_append_left _ hmem)
  refine ⟨(flag_settle_of rfl ..).trans hpow, (get_settle_of rfl ..).trans hst, (get_settle_of rfl ..).trans hstep, ?_, ?_⟩
  · rw [flag_settle_of hsum, State.flag, State.get_restart (by simp), State.diesReset_survives rfl hsurv,
      State.clampSet_kept hpk (by simp), ← State.flag]
    exact State.each_lower_live hmem
  · intro hd
    have hp : v.present d = true := by rw [State.present, hlow _ _ (by simp)]; exact hd
    rw [flag_settle_of rfl, State.flag, State.get_restart (by simp), State.diesReset_survives rfl rfl, ← State.flag]
    exact State.clampSet_hvClamp hp

theorem hvRailFail_outcome : Completes (.hvRailFail neg) s fun t =>
    t.flag (.live (if neg then .pgVhvn else .pgVhvp)) 0 0 = true ∧
      (s.present d = true → t.flag (.bias .hvClamp) d 0 = true) := by
  refine completes_of exec_hvRailFail hon ⟨?_, fun hd => ?_⟩
  · cases neg <;>
      rw [flag_settle_of rfl, State.flag, State.clampSet_kept rfl (by simp), ← State.flag] <;> simp [State.railBad]
  · rw [flag_settle_of rfl]
    exact State.clampSet_hvClamp (by rw [← hd]; simp [State.present, State.railBad])

theorem hvRailRecovered_outcome (hw : s.flag (.pwr .waitWake) 0 0 = false) : Completes .hvRailRecovered s fun t =>
    t.flag (.live .pgVhvp) 0 0 = false ∧ t.flag (.live .pgVhvn) 0 0 = false ∧
      (s.present d = true → t.flag (.bias .hvClamp) d 0 = false) := by
  refine completes_of exec_hvRailRecovered hon ?_
  set v := s.each hvAlm fun s a => s.lower a 0 0 with hv
  have hwait : (v.clampSet false).get (.pwr .waitWake) 0 0 = 0 := by
    rw [State.clampSet_kept rfl (by simp), hv, State.each_lower_kept (by simp)]
    simpa [State.flag] using hw
  rw [State.railWake, if_neg (by simp [hwait])]
  refine ⟨?_, ?_, fun hd => ?_⟩
  · rw [flag_settle_of rfl, State.flag, State.clampSet_kept rfl (by simp), ← State.flag]
    exact State.each_lower_live (by decide)
  · rw [flag_settle_of rfl, State.flag, State.clampSet_kept rfl (by simp), ← State.flag]
    exact State.each_lower_live (by decide)
  · rw [flag_settle_of rfl]
    exact State.clampSet_hvClamp (by rw [State.present, hv, State.each_lower_kept (by simp)]; exact hd)

end

-- Tamper (R343).

theorem tamperTrip_outcome (hon : s.flag (.sys .aoOn) 0 0 = true) (hs : sensor < 4)
    (hg : s.flag (.sys .railsGood) 0 0 = true) (ht : s.flag (.ao .tamperDown) 0 0 = false) :
    Completes (.tamperTrip sensor) s fun t => t.flag (.live (tamperAlm.getD sensor .aoTamperMesh)) 0 0 = true ∧
      t.flag (.ao .tamperDown) 0 0 = true ∧ t.poweredOff = true ∧ t.bootState = bootPor ∧
      t.flag (.sbg .spHas) 0 d = false ∧ t.get (.cry .txKeySms) d sensor = 0 ∧
      t.flag (.ao .stuck) 0 0 = decide (s.get (.ao .tamperHoldS) 0 0 = 0) := by
  refine completes_of exec_tamperTrip (by simp [hon, hg]) ?_
  set a := tamperAlm.getD sensor .aoTamperMesh with ha
  have hmem : a ∈ railAlm ++ hvAlm ++ tamperAlm := List.mem_append_right _ (tamperAlm_mem hs)
  obtain ⟨hsurv, hpow, hsum⟩ := railAlm_survives hmem
  rw [if_neg (by simp [ht])]
  set u := ((s.raise a 0 0).set (.ao .tamperDown) 0 0 1).setB (.ao .stuck) 0 0
    (decide ((s.raise a 0 0).get (.ao .tamperHoldS) 0 0 = 0)) with hu
  obtain ⟨hpo, hst, -, -, hsp, hkey⟩ := u.powerCut_facts gaspTamper
  refine ⟨?_, ?_, (flag_settle_of rfl ..).trans hpo, (get_settle_of rfl ..).trans hst, ?_,
    (get_settle_of rfl ..).trans (hkey _ _), ?_⟩
  · rw [flag_settle_of hsum, State.flag, State.powerCut_kept hpow hsurv rfl (by simp) (by simp), ← State.flag]
    simp [hu, State.setB]
  · rw [flag_settle_of rfl, State.flag, State.powerCut_kept rfl rfl rfl (by simp) (by simp), ← State.flag]
    simp [hu, State.setB]
  · rw [flag_settle_of rfl, State.flag, hsp]
    rfl
  · rw [flag_settle_of rfl, State.flag, State.powerCut_kept rfl rfl rfl (by simp) (by simp), ← State.flag]
    simp [hu, State.setB]

/-- The sensors as they read when TAMPER_HOLD ends. -/
def State.tamperRead (s : State) (still : Nat) : State :=
  s.each (List.range 4) fun s k => s.cond (tamperAlm.getD k .aoTamperMesh) 0 0 (bit still k)

/-- They write no cell but their own alarms. -/
theorem State.tamperRead_kept (h : ∀ a ∈ tamperAlm, c ≠ .live a ∧ c ≠ .sticky a) (k j : Nat) :
    (s.tamperRead still).get c k j = s.get c k j :=
  State.get_each_absent fun n hn _ => by
    obtain ⟨h1, h2⟩ := h _ (tamperAlm_mem (List.mem_range.mp hn))
    exact State.get_cond h1 h2 ..

section
variable (ht : s.flag (.ao .tamperDown) 0 0 = true) (ho : s.poweredOff = true) (hk : s.flag (.ao .stuck) 0 0 = false)
include ht ho hk

theorem tamperHoldExpiry_sticks (hn : still % 16 ≠ 0) : Completes (.tamperHoldExpiry still) s fun t =>
    t.flag (.ao .stuck) 0 0 = true ∧ t.poweredOff = true := by
  refine completes_of exec_tamperHoldExpiry (by simp [ht, ho, hk]) ?_
  dsimp only
  rw [if_neg hn, ← State.tamperRead]
  refine ⟨by rw [flag_settle_of rfl]; simp, ?_⟩
  rw [State.poweredOff, flag_settle_of rfl, State.flag, State.get_set_ite, if_neg (by simp), State.tamperRead_kept (by simp)]
  exact ho

theorem tamperHoldExpiry_restarts (hn : still % 16 = 0) (hrst : s.flag (.sys .sysRstN) 0 0 = true) :
    Completes (.tamperHoldExpiry still) s fun t => t.poweredOff = false ∧ t.get (.boot .step) 0 0 = 2 ∧
      t.flag (.live .aoTamperMesh) 0 0 = false ∧
      t.get (.ao .nTamper) 0 0 = (s.get (.ao .nTamper) 0 0 + 1) % Counter.size := by
  refine completes_of exec_tamperHoldExpiry (by simp [ht, ho, hk]) ?_
  dsimp only
  rw [if_pos hn, ← State.tamperRead, State.restartOrHold]
  set u := (s.tamperRead still).inc (.ao .nTamper) 0 0 with hu
  have hpin : u.flag (.sys .sysRstN) 0 0 = true := by
    rw [hu, State.flag, State.get_inc, if_neg (by simp), State.tamperRead_kept (by simp)]
    exact hrst
  rw [if_pos hpin]
  obtain ⟨-, hstep, hpow⟩ := u.restart_facts
  refine ⟨(flag_settle_of rfl ..).trans hpow, (get_settle_of rfl ..).trans hstep, ?_, ?_⟩
  · have hmesh : (s.tamperRead still).flag (.live .aoTamperMesh) 0 0 = bit still 3 := by
      simp [State.tamperRead, State.each, List.range_succ, tamperAlm, State.flag_cond_live]
    rw [flag_settle_of rfl, State.flag, State.get_restart (by simp), State.diesReset_survives rfl rfl, ← State.flag]
    have hbit : bit still 3 = false := by
      simp only [bit, decide_eq_false_iff_not]
      omega
    simpa [hu, hbit] using hmesh
  · rw [get_settle_of rfl, State.get_restart (by simp), State.diesReset_survives rfl rfl, hu, State.get_inc,
      if_pos (by simp), State.tamperRead_kept (by simp)]
    rfl

end

-- The always-on supply and the reset pins.

theorem vddAoApplied_outcome (h : s.flag (.sys .aoOn) 0 0 = false) : Completes .vddAoApplied s fun t =>
    t.flag (.sys .aoOn) 0 0 = true :=
  completes_of exec_vddAoApplied (by simp [h]) (by simp)

theorem vddAoLoss_outcome (h : s.flag (.sys .aoOn) 0 0 = true) : Completes .vddAoLoss s fun t =>
    t.flag (.sys .aoOn) 0 0 = false ∧ t.flag (.sys .railsGood) 0 0 = false ∧ t.poweredOff = false ∧
      t.flag (.ao .tamperDown) 0 0 = false ∧ t.get (.sys .dieReleased) 0 0 = 0 := by
  have hlost : ∀ {c : Cell} (k j : Nat), c ≠ .sys .aoOn → c.outlastsAo = false → (⟨c, k, j⟩ : Key).reset = 0 →
      s.aoLost.get c k j = 0 := fun k j hc ho h0 => by
    simp [State.aoLost, hc, State.get_clear, ho, h0]
  have hflag : ∀ {c : Cell}, c ≠ .sys .aoOn → c.outlastsAo = false → (⟨c, 0, 0⟩ : Key).reset = 0 →
      s.aoLost.flag c 0 0 = false := fun hc ho h0 => by simp [State.flag, hlost _ _ hc ho h0]
  exact completes_of exec_vddAoLoss h ⟨(flag_settle_of rfl ..).trans (by simp [State.aoLost]),
    (flag_settle_of rfl ..).trans (hflag (by simp) rfl rfl), (flag_settle_of rfl ..).trans (hflag (by simp) rfl rfl),
    (flag_settle_of rfl ..).trans (hflag (by simp) rfl rfl), (get_settle_of rfl ..).trans (hlost _ _ (by simp) rfl rfl)⟩

theorem sysRstLow_outcome : Completes .sysRstLow s fun t => t.flag (.sys .sysRstN) 0 0 = false ∧ t.bootState = bootPor ∧
    t.get (.boot .step) 0 0 = 1 ∧ t.get (.sys .dieReleased) 0 0 = 0 := by
  have hrel : s.diesReset.get (.sys .dieReleased) 0 0 = 0 := State.diesReset_clears rfl rfl rfl
  refine completes_finish exec_sysRstLow ⟨(flag_settle_of rfl ..).trans (by simp), (get_settle_of rfl ..).trans ?_,
    (get_settle_of rfl ..).trans ?_, (get_settle_of rfl ..).trans ?_⟩ <;> simp [State.toStep1, hrel]

theorem sysRstRise_outcome (hr : s.flag (.sys .sysRstN) 0 0 = false) (hg : s.flag (.sys .railsGood) 0 0 = true)
    (ho : s.poweredOff = false) : Completes .sysRstRise s fun t => t.flag (.sys .sysRstN) 0 0 = true ∧
      t.bootState = bootPor ∧ t.get (.boot .step) 0 0 = 2 ∧
      t.get (.sys .jtagIr) 0 0 = (if s.get (.sys .jtagIr) 0 0 = 3 then 0 else s.get (.sys .jtagIr) 0 0) := by
  refine completes_of exec_sysRstRise (by simp [hr]) ?_
  dsimp only
  set u := (s.set (.sys .sysRstN) 0 0 1).when (decide ((s.set (.sys .sysRstN) 0 0 1).get (.sys .jtagIr) 0 0 = 3))
    fun s => s.set (.sys .jtagIr) 0 0 0 with hu
  have hir : u.get (.sys .jtagIr) 0 0 = if s.get (.sys .jtagIr) 0 0 = 3 then 0 else s.get (.sys .jtagIr) 0 0 := by
    by_cases h : s.get (.sys .jtagIr) 0 0 = 3 <;> simp [hu, State.when, h]
  have hkept : ∀ {c : Cell} (k j : Nat), c ≠ .sys .jtagIr → u.get c k j = (s.set (.sys .sysRstN) 0 0 1).get c k j :=
    fun k j h => by
      rw [hu, State.when]
      split
      · simp [h]
      · rfl
  have hgood : u.flag (.sys .railsGood) 0 0 = true := by
    rw [State.flag, hkept _ _ (by simp)]
    simpa [State.flag] using hg
  have hoff : u.poweredOff = false := by
    rw [State.poweredOff, State.flag, hkept _ _ (by simp)]
    simpa [State.poweredOff, State.flag] using ho
  rw [if_pos (by simp [hgood, hoff])]
  obtain ⟨hst, hstep, -⟩ := u.restart_facts
  refine ⟨?_, (get_settle_of rfl ..).trans hst, (get_settle_of rfl ..).trans hstep, ?_⟩
  · rw [flag_settle_of rfl, State.flag, State.get_restart (by simp), State.diesReset_survives rfl rfl, hkept _ _ (by simp)]
    simp
  · rw [get_settle_of rfl, State.get_restart (by simp), State.diesReset_survives rfl rfl, hir]

theorem perstAssert_outcome : Completes (.perstAssert done) s fun t => t.flag (.sys .perstN) 0 0 = false ∧
    t.flag (.sys .pcieUp) 0 0 = false ∧ t.flag (.sys .busMaster) 0 0 = false ∧ t.flag (.sys .msiEn) 0 0 = false := by
  refine completes_finish exec_perstAssert ?_
  dsimp only
  set u := s.set (.sys .perstN) 0 0 0 with hu
  have hperst : (if u.flag (.sys .pcieUp) 0 0 then u.linkDown done else u).get (.sys .perstN) 0 0 = 0 := by
    have hlink : (u.linkDown done).get (.sys .perstN) 0 0 = u.get (.sys .perstN) 0 0 :=
      Reach.get_eq (by apply State.linkDown_reach Reach.refl <;> intros <;> rfl) ..
    split
    · rw [hlink]; simp [hu]
    · simp [hu]
  have hup : (if u.flag (.sys .pcieUp) 0 0 then u.linkDown done else u).flag (.sys .pcieUp) 0 0 = false := by
    split
    case isFalse h => simpa using h
    case isTrue =>
      have hget : (u.linkDown done).get (.sys .pcieUp) 0 0 = (u.set (.sys .pcieUp) 0 0 0).get (.sys .pcieUp) 0 0 :=
        State.get_each_absent fun ch _ x => by
          split
          · split
            · exact Reach.get_eq (by apply State.chanHalt_reach Reach.refl <;> intros <;> rfl) ..
            · rfl
          · rfl
      rw [State.flag, hget]
      simp
  refine ⟨(flag_settle_of rfl ..).trans ?_, (flag_settle_of rfl ..).trans ?_, (flag_settle_of rfl ..).trans (by simp),
    (flag_settle_of rfl ..).trans (by simp)⟩
  · rw [State.flag_set, if_neg (by simp), State.flag_set, if_neg (by simp), State.flag, hperst]
    rfl
  · rw [State.flag_set, if_neg (by simp), State.flag_set, if_neg (by simp), hup]

theorem perstRelease_trains (hr : s.flag (.sys .sysRstN) 0 0 = true) (h0 : s.released 0 = true) :
    Completes (.perstRelease b m) s fun t => t.flag (.sys .perstN) 0 0 = true ∧ t.flag (.sys .pcieUp) 0 0 = true ∧
      t.flag (.sys .busMaster) 0 0 = b ∧ t.flag (.sys .msiEn) 0 0 = m := by
  refine completes_finish exec_perstRelease ?_
  rw [State.linkTrain, if_pos (by simpa [hr, State.released, State.present] using h0)]
  simp [State.setB]

theorem perstRelease_held (hr : s.flag (.sys .sysRstN) 0 0 = false) : Completes (.perstRelease b m) s fun t =>
    t.flag (.sys .perstN) 0 0 = true ∧ t.flag (.sys .pcieUp) 0 0 = s.flag (.sys .pcieUp) 0 0 := by
  refine completes_finish exec_perstRelease ?_
  rw [State.linkTrain, if_neg (by simp [hr])]
  simp

-- The JTAG port (R483).

/-- A cell of the boundary register takes the level shifted in for it. -/
theorem State.boundaryLoad_get (l : List Bool) (n : Nat) :
    (s.each (l.zipIdx n) fun s x => s.setB (.sys .jtagBr) 0 x.2 x.1).get (.sys .jtagBr) 0 i =
      if n ≤ i then (l[i - n]?).elim (s.get (.sys .jtagBr) 0 i) Bool.toNat else s.get (.sys .jtagBr) 0 i := by
  induction l generalizing s n with
  | nil => simp [State.each]
  | cons x l ih =>
    rw [List.zipIdx_cons, State.each_cons, ih]
    rcases Nat.lt_trichotomy i n with h | rfl | h
    · simp [State.setB, show ¬ n + 1 ≤ i by omega, show ¬ n ≤ i by omega, h.ne]
    · simp [State.setB]
    · obtain ⟨k, rfl⟩ : ∃ k, i = n + 1 + k := ⟨i - (n + 1), by omega⟩
      simp [State.setB, show n ≤ n + 1 + k by omega, show n + 1 + k ≠ n by omega, show n + 1 + k - n = k + 1 by omega]

section
variable (hon : s.flag (.sys .aoOn) 0 0 = true)
include hon

theorem jtagBypass_outcome : Completes .jtagBypass s fun t => t.get (.sys .jtagIr) 0 0 = 0 :=
  completes_of exec_jtagBypass hon (by simp)

theorem jtagIdcode_outcome : Completes .jtagIdcode s fun t => t.get (.sys .jtagIr) 0 0 = 1 ∧
    t.readData = [s.get (.id .stepMajor) 0 0 * 2 ^ 28 + s.get (.id .deviceId) 0 0 * 2 ^ 12 + 0x74B] :=
  completes_of exec_jtagIdcode hon ⟨by simp, by simp [State.idcode]⟩

theorem jtagSamplePreload_outcome : Completes (.jtagSamplePreload captured loaded) s fun t =>
    t.readData = captured.map Bool.toNat ∧ t.get (.sys .jtagIr) 0 0 = 2 ∧
      (i < loaded.length → t.flag (.sys .jtagBr) 0 i = loaded.getD i false) := by
  refine completes_of exec_jtagSamplePreload hon ?_
  set u := State.set { s with readData := captured.map Bool.toNat } (.sys .jtagIr) 0 0 2 with hu
  refine ⟨?_, ?_, fun hi => ?_⟩
  · have hdata : (u.boundaryLoad loaded).readData = u.readData :=
      Reach.part_eq (p := .readData) (State.boundaryLoad_reach Reach.refl fun _ => rfl)
    rw [settle_readData, hdata, hu]
    rfl
  · rw [get_settle_of rfl, State.boundaryLoad, State.get_each_absent fun x _ y => by simp [State.setB]]
    simp [hu]
  · have hload : (u.boundaryLoad loaded).get (.sys .jtagBr) 0 i = loaded[i].toNat := by
      rw [State.boundaryLoad, State.boundaryLoad_get]
      simp [hi]
    rw [flag_settle_of rfl, State.flag, hload]
    cases h : loaded[i] <;> simp [hi, h]

theorem jtagExtest_outcome : Completes .jtagExtest s fun t =>
    t.get (.sys .jtagIr) 0 0 = (if s.flag (.sys .sysRstN) 0 0 then 0 else 3) :=
  completes_of exec_jtagExtest hon (by simp)

end

/-- Settles O49: the supplies, the tamper trip, the reset pins and the JTAG port.  That RAIL_RECOVERED lowers every
power-good bit, that EXTEST ends when SYS_RST_N rises, and what TAMPER_HOLD_S = 0 does are the model's choice (log 17). -/
theorem railsPinsAndTamper : Obligations.RailsPinsAndTamper := by
  unfold Obligations.RailsPinsAndTamper
  exact ⟨fun s d rail sensor still neg hon => ⟨powerGood_outcome hon, railFail_outcome hon, railRecovered_outcome hon,
      hvRailFail_outcome hon, hvRailRecovered_outcome hon, tamperTrip_outcome hon, tamperHoldExpiry_sticks,
      tamperHoldExpiry_restarts⟩,
    fun s b c done captured loaded i => ⟨vddAoApplied_outcome, vddAoLoss_outcome, sysRstLow_outcome, sysRstRise_outcome,
      perstAssert_outcome, perstRelease_trains, perstRelease_held, jtagBypass_outcome, jtagIdcode_outcome,
      jtagSamplePreload_outcome, jtagExtest_outcome⟩⟩

end Sys2Proof.Machine
end

section
/-!
Kickstand: the stages of a shutdown, the wake sources and what a gated carrier loses (R400, R429 to R434).
-/
set_option Elab.async false
namespace Sys2Proof.Machine

variable {s u : State} {c : Cell} {d e q src bell k j : Nat}

theorem exec_ksDrainEnd : exec (.ksDrainEnd d) s = execKsDrainEnd d s := rfl
theorem exec_ksStageComplete : exec (.ksStageComplete d) s = execKsStageComplete d s := rfl
theorem exec_ksWakeComplete : exec (.ksWakeComplete d) s = execKsWakeComplete d s := rfl
theorem exec_ksWakeSource : exec (.ksWakeSource d src) s = execKsWakeSource d src s := rfl
theorem exec_ksWakeTimer : exec (.ksWakeTimer d) s = execKsWakeTimer d s := rfl
theorem exec_wakeNLow : exec .wakeNLow s = execWakeNLow s := rfl

@[simp] theorem settle_stage {t : State} : (settle s t).stage d = t.stage d := get_settle_of rfl ..
@[simp] theorem settle_released {t : State} : (settle s t).released d = t.released d := by
  simp [State.released, State.present]

@[simp] theorem State.setStage_stage (v : Nat) : (s.setStage d v).stage d = v := by simp [State.setStage, State.stage]

-- Shutdown (R432).

/-- The cells of the stages and of a wake that no other block writes. -/
abbrev wakeKeeps : Cell → Bool
  | .pwr c => match c with
    | .savedCd | .savedCdValid | .nKsDrainDisc => false
    | _ => true
  | .ao .wakeSource | .ao .wakeCarrier | .lt .sysCause => true
  | .sys c => match c with
    | .dieReleased | .diePresent => true
    | _ => false
  | _ => false

/-- The rings of a queue are discarded. -/
theorem State.ksDiscard_ring (q' : Nat) : (s.ksDiscard d q).ring d q' = if q' = q then [] else s.ring d q' := by
  have hrings : (s.ksDiscard d q).rings = s.rings.filter (fun r => decide (r.die ≠ d) || decide (r.queue ≠ q)) := by
    unfold State.ksDiscard
    have htrace : ∀ (l : List RingRec) (x : State),
        (x.each l fun s r => s.traceItem d r.tag trcDropped (locContainer d (s.qCtn d q)) 9).rings = x.rings := fun l x =>
      Reach.part_eq (p := .rings) (State.each_reach Reach.refl fun y r hy => by
        apply State.traceItem_reach hy <;> intros <;> rfl)
    dsimp only
    rw [State.add_rings, htrace, State.set_rings, State.occSub_rings]
  rw [State.ring, hrings, State.ring, List.filter_filter]
  split
  case isTrue h =>
    subst h
    simp
  case isFalse h =>
    refine List.filter_congr fun r _ => ?_
    by_cases hr : r.queue = q'
    · simp [hr, h]
    · simp [hr]

/-- Discarding every queue of a carrier leaves none of their records. -/
theorem State.ksDiscard_each {l : List Nat} (h : q ∈ l) : (s.each l fun s q => s.ksDiscard d q).ring d q = [] := by
  have hkept : ∀ {l : List Nat} {x : State}, x.ring d q = [] → (x.each l fun s q => s.ksDiscard d q).ring d q = [] := by
    intro l
    induction l with
    | nil => exact fun h => h
    | cons a l ih => exact fun hx => ih (by rw [State.ksDiscard_ring]; split <;> [rfl; exact hx])
  induction l generalizing s with
  | nil => simp at h
  | cons a l ih =>
    rcases List.mem_cons.mp h with rfl | h
    · exact hkept (x := s.ksDiscard d q) (by rw [State.ksDiscard_ring, if_pos rfl])
    · exact ih h

theorem State.ksEnds_ring (h : q ∈ s.queuesOf d) :
    (((s.each (s.queuesOf d) fun s q => s.ksDiscard d q).abortAll d s.descs.length).migrateFinish d).ring d q = [] := by
  set x := s.each (s.queuesOf d) fun s q => s.ksDiscard d q with hx
  have h1 : Reach (fun _ => true) Part.rings.others x (x.abortAll d s.descs.length) := by
    apply State.abortAll_reach Reach.refl <;> intros <;> rfl
  have h2 : Reach (fun _ => true) Part.rings.others x ((x.abortAll d s.descs.length).migrateFinish d) := by
    apply State.migrateFinish_reach h1 <;> intros <;> rfl
  have hr : ((x.abortAll d s.descs.length).migrateFinish d).rings = x.rings := Reach.part_eq (p := .rings) h2
  rw [State.ring, hr, ← State.ring, hx]
  exact State.ksDiscard_each h

/-- The end of DRAIN: CLOCKS_OFF, with the system cause of the mute, and empty queues. -/
theorem State.ksClocks_facts : (s.ksClocks d).stage d = ksClocksOff ∧
    bit ((s.ksClocks d).get (.lt .sysCause) d 0) 1 = true ∧ (q ∈ s.queuesOf d → (s.ksClocks d).ring d q = []) := by
  unfold State.ksClocks
  dsimp only
  set x := ((s.each (s.queuesOf d) fun s q => s.ksDiscard d q).abortAll d s.descs.length).migrateFinish d with hx
  set y := (x.setStage d ksClocksOff).set (.lt .sysCause) d 0 (putBit (x.get (.lt .sysCause) d 0) 1 true) with hy
  set z := (y.muteRefresh d).when (y.flag (.lr .cdEstValid) d 0) fun s =>
    (s.set (.pwr .savedCd) d 0 (s.get (.lr .cdEst) d 0)).set (.pwr .savedCdValid) d 0 1 with hz
  have hzr : ∀ {P : Key → Bool} {Q : Part → Bool}, Reach P Q y (y.muteRefresh d) →
      P ⟨.pwr .savedCd, d, 0⟩ = true → P ⟨.pwr .savedCdValid, d, 0⟩ = true → Reach P Q y z := fun h h1 h2 =>
    State.when_reach h fun w hw => State.set_reach (State.set_reach hw h1) h2
  have hlast : ∀ {P : Key → Bool} {Q : Part → Bool}, Reach P Q y z → (∀ v, Reach P Q y (z.panState d v)) →
      Reach P Q y (if z.panOk d then z.panState d (if z.pkgEntry then panReset else panSelfRefresh) else z) := fun h h' => by
    split
    · exact h' _
    · exact h
  have hkept : ∀ {c : Cell} (k j : Nat), wakeKeeps c = true →
      (if z.panOk d then z.panState d (if z.pkgEntry then panReset else panSelfRefresh) else z).get c k j = y.get c k j :=
    fun k j h => by
      have h1 : Reach (outside wakeKeeps) (fun _ => true) y z :=
        hzr (by apply State.muteRefresh_reach Reach.refl <;> intros <;> rfl) rfl rfl
      exact Reach.get_in (hlast h1 fun v => by apply State.panState_reach h1 <;> intros <;> rfl) h ..
  have hrings : (if z.panOk d then z.panState d (if z.pkgEntry then panReset else panSelfRefresh) else z).rings = y.rings := by
    have h1 : Reach (fun _ => true) Part.rings.others y z :=
      hzr (by apply State.muteRefresh_reach Reach.refl <;> intros <;> rfl) rfl rfl
    exact Reach.part_eq (p := .rings) (hlast h1 fun v => by apply State.panState_reach h1 <;> intros <;> rfl)
  refine ⟨?_, ?_, fun h => ?_⟩
  · rw [State.stage, hkept _ _ rfl]
    simp [hy, State.setStage]
  · rw [hkept _ _ rfl, hy, State.get_set_self, bit_putBit]
  · rw [State.ring, hrings]
    exact State.ksEnds_ring h

theorem ksDrainEnd_outcome (hu : s.up d = true) (hs : s.stage d = ksDrain) (hp : s.pkgEntry = false) :
    Completes (.ksDrainEnd d) s fun t => t.stage d = ksClocksOff ∧ bit (t.get (.lt .sysCause) d 0) 1 = true ∧
      (q ∈ s.queuesOf d → t.ring d q = []) := by
  refine completes_of exec_ksDrainEnd (by simp [hu, hs]) ?_
  simp only [State.ksWith, hp, Bool.false_eq_true, if_false, State.each_one]
  obtain ⟨hst, hsys, hring⟩ := s.ksClocks_facts (d := d) (q := q)
  exact ⟨settle_stage.trans hst, by rw [get_settle_of rfl]; exact hsys, fun h => by
    rw [State.ring, settle_rings, ← State.ring]; exact hring h⟩

theorem ksStageComplete_isolates (hd : s.present d = true) (hs : s.stage d = ksClocksOff) (hp : s.pkgEntry = false) :
    Completes (.ksStageComplete d) s fun t => t.stage d = ksIsolate ∧ t.chainState d 0 = 0 ∧ t.chainState d 1 = 0 := by
  refine completes_of exec_ksStageComplete (by simp [hd, hs]) ?_
  rw [if_pos hs]
  simp [State.ksWith, hp, State.ksIsolateIn, State.chainState, State.stage, State.setStage]

theorem ksWakeComplete_outcome (hu : s.up d = true) (hs : s.stage d = ksWaking) :
    Completes (.ksWakeComplete d) s fun t => t.stage d = ksAwake :=
  completes_of exec_ksWakeComplete (by simp [hu, hs]) (by simp)

-- GATED (R429, R432).

/-- A gated die loses what its blocks hold but for what they keep asleep; nothing else moves but the bias points. -/
theorem State.getK_dieGone (x : Key) (hb : idleKeeps x.cell = true ∨ x.die ≠ d) : (s.dieGone d).getK x =
    if x.die = d ∧ x.cell.onDie = true ∧ x.cell.keptAsleep = false then x.reset else s.getK x := by
  have hcells : (s.dieGone d).cells =
      ((s.clear fun k => decide (k.die = d) && k.cell.onDie && !k.cell.keptAsleep).phaseIdle d).cells := by
    simp only [State.dieGone]
  have hidle : ((s.clear fun k => decide (k.die = d) && k.cell.onDie && !k.cell.keptAsleep).phaseIdle d).getK x =
      (s.clear fun k => decide (k.die = d) && k.cell.onDie && !k.cell.keptAsleep).getK x := by
    refine Reach.cells (P := fun k => !(idleKeeps k.cell || decide (k.die ≠ d))) (Q := fun _ => true)
      (by apply State.phaseIdle_reach Reach.refl <;> intros <;> simp) x ?_
    rcases hb with hb | hb <;> simp [hb]
  rw [State.getK, hcells, ← State.getK, hidle, State.getK_eq, State.get_clear]
  simp only [Bool.and_eq_true, decide_eq_true_eq, Bool.not_eq_true', and_assoc]
  rfl

/-- The stage, the release and the count of a gated die. -/
theorem State.ksGate_facts : (s.ksGate d).stage d = ksGated ∧ (s.ksGate d).released d = false ∧
    (s.ksGate d).get (.pwr .nKsEnter) 0 0 = (s.get (.pwr .nKsEnter) 0 0 + 1) % 2 ^ 64 := by
  have hcount : (s.dieGone d).get (.pwr .nKsEnter) 0 0 = s.get (.pwr .nKsEnter) 0 0 := by
    have := s.getK_dieGone (d := d) ⟨.pwr .nKsEnter, 0, 0⟩ (.inl rfl)
    rwa [if_neg (by simp [Cell.onDie])] at this
  refine ⟨by simp [State.ksGate, State.stage, State.setStage], ?_, ?_⟩
  · simp [State.ksGate, State.released, bit_putBit]
  · simp [State.ksGate, State.setStage, hcount]

section
variable (hd : s.present d = true) (hs : s.stage d = ksIsolate) (hp : s.pkgEntry = false)
  (hl : s.flag (.pwr .lateWake) d 0 = false)
include hd hs hp hl

/-- With no late wake the end of ISOLATE gates the carrier. -/
theorem ksStageComplete_gate {P : State → Prop} (hP : P (settle s ((s.ksGate d).set (.pwr .lateWake) d 0 0))) :
    Completes (.ksStageComplete d) s P := by
  refine completes_of exec_ksStageComplete (by simp [hd, hs]) ?_
  have hlate : s.get (.pwr .lateWake) d 0 = 0 := by simpa [State.flag] using hl
  rw [if_neg (by rw [hs]; decide), if_neg (by simp [hp])]
  dsimp only
  rwa [if_pos hlate]

theorem ksStageComplete_gates : Completes (.ksStageComplete d) s fun t => t.stage d = ksGated ∧ t.released d = false ∧
    t.get (.pwr .nKsEnter) 0 0 = (s.get (.pwr .nKsEnter) 0 0 + 1) % Counter.size := by
  refine ksStageComplete_gate hd hs hp hl ?_
  obtain ⟨hst, hrel, hcnt⟩ := s.ksGate_facts (d := d)
  exact ⟨by simpa [State.stage] using hst, by simpa [State.released, State.present] using hrel,
    by simpa [Counter.size] using hcnt⟩

theorem ksStageComplete_loses : Completes (.ksStageComplete d) s fun t => t.stage d = ksGated ∧
    t.get (.pwr .nKsEnter) 0 0 = (s.get (.pwr .nKsEnter) 0 0 + 1) % Counter.size ∧
    ∀ k : Key, k.cell.summary = false → k.cell ≠ .pwr .stage → k.cell ≠ .pwr .nKsEnter → k.cell ≠ .sys .dieReleased →
      (k.die ≠ d ∨ k.cell.onDie = false ∧ (∀ b, k.cell ≠ .bias b) → t.getK k = s.getK k) ∧
      (k.die = d → k.cell.onDie = true → k.cell.keptAsleep = false → t.getK k = k.reset) ∧
      (k.die = d → k.cell.onDie = true → k.cell.keptAsleep = true → t.getK k = s.getK k) := by
  refine ksStageComplete_gate hd hs hp hl ?_
  obtain ⟨hst, -, hcnt⟩ := s.ksGate_facts (d := d)
  refine ⟨by simpa [State.stage] using hst, by simpa [Counter.size] using hcnt, fun k hsum h1 h2 h3 => ?_⟩
  have hgone : (settle s ((s.ksGate d).set (.pwr .lateWake) d 0 0)).getK k =
      if k = ⟨.pwr .lateWake, d, 0⟩ then 0 else (s.dieGone d).getK k := by
    rw [State.getK_eq, get_settle_of hsum, State.get_set_ite]
    obtain ⟨c, e, i⟩ := k
    simp [State.ksGate, State.setStage, State.getK_eq, show c ≠ _ from h1, show c ≠ _ from h2, show c ≠ _ from h3]
  have hdie : ∀ {c : Cell}, c.onDie = true → idleKeeps c = true := fun {c} h => by cases c <;> first | rfl | simp [Cell.onDie] at h
  rw [hgone]
  refine ⟨fun h => ?_, fun he ho hk => ?_, fun he ho hk => ?_⟩
  · split
    case isTrue hkey =>
      subst hkey
      have hlate : s.get (.pwr .lateWake) d 0 = 0 := by simpa [State.flag] using hl
      exact hlate.symm
    case isFalse =>
      rcases h with h | ⟨h, hb⟩
      · rw [State.getK_dieGone _ (.inr h), if_neg (by simp [h])]
      · rw [State.getK_dieGone _ (.inl ?_), if_neg (by simp [h])]
        obtain ⟨c, e, i⟩ := k
        cases c <;> simp_all [idleKeeps]
  · rw [if_neg (by rintro rfl; simp [Cell.onDie] at ho), State.getK_dieGone _ (.inl (hdie ho)), if_pos ⟨he, ho, hk⟩]
  · rw [if_neg (by rintro rfl; simp [Cell.onDie] at ho), State.getK_dieGone _ (.inl (hdie ho)), if_neg (by simp [hk])]

end

theorem ksStageComplete_package (h0 : s.present 0 = true) (hs : s.stage 0 = ksIsolate) (hp : s.pkgEntry = true)
    (hl : s.flag (.pwr .lateWake) 0 0 = false) (hd : s.present d = true) : Completes (.ksStageComplete 0) s fun t =>
      t.pkgAsleep = true ∧ t.bootState = bootKickstand ∧ t.stage d = ksGated ∧ t.released d = false ∧
        t.get (.tim .aoSec) 0 0 = s.get (.tim .tbSec) 0 0 ∧ t.get (.tim .aoNs) 0 0 = s.get (.tim .tbNs) 0 0 := by
  refine completes_of exec_ksStageComplete (by simp [h0, hs]) ?_
  have hlate : s.get (.pwr .lateWake) 0 0 = 0 := by simpa [State.flag] using hl
  rw [if_neg (by rw [hs]; decide), if_pos hp]
  unfold State.pkgGate
  dsimp only
  rw [if_pos hlate]
  set v := s.tbToAo with hv
  set w := v.diesReset.each v.diesReset.dies fun s d => s.setStage d ksGated with hw
  have hother : ∀ {c : Cell} (k j : Nat), c ≠ .pwr .stage → w.get c k j = v.diesReset.get c k j := fun k j h =>
    State.get_each_absent fun e _ x => by simp [State.setStage, h]
  have hdies : d ∈ v.diesReset.dies := by
    have hpres : v.diesReset.present d = true := by
      rw [State.present, State.diesReset_survives rfl rfl, hv,
        Reach.get_eq (by apply State.tbToAo_reach Reach.refl <;> intros <;> rfl)]
      exact hd
    simp only [State.dies, List.mem_filter, List.mem_range]
    rw [State.present, Bool.and_eq_true] at hd
    exact ⟨of_decide_eq_true hd.1, hpres⟩
  have hstage : w.get (.pwr .stage) d 0 = ksGated :=
    State.get_each_mem hdies (fun x => by simp [State.setStage]) fun e he x => by simp [State.setStage, he.symm]
  have hrel : w.get (.sys .dieReleased) 0 0 = 0 := by rw [hother _ _ (by simp), State.diesReset_clears rfl rfl rfl]
  have hsaved : ∀ {c : TimCell}, (Cell.tim c).survives = true → w.get (.tim c) 0 0 = v.get (.tim c) 0 0 := fun h => by
    rw [hother _ _ (by simp), State.diesReset_survives rfl h]
  refine ⟨?_, ?_, ?_, ?_, ?_, ?_⟩
  · simp [State.pkgAsleep]
  · simp [State.bootState]
  · simpa [State.stage] using hstage
  · simp [State.released, hrel, bit]
  · rw [get_settle_of rfl]
    simp only [State.get_set_ite, reduceCtorEq, false_and, if_false, hsaved (c := .aoSec) rfl, hv, State.tbToAo]
    rw [State.get_each_absent fun e _ x => by simp [State.setI]]
    simp
  · rw [get_settle_of rfl]
    simp only [State.get_set_ite, reduceCtorEq, false_and, if_false, hsaved (c := .aoNs) rfl, hv, State.tbToAo]
    rw [State.get_each_absent fun e _ x => by simp [State.setI]]
    simp

-- Waking (R433, R434).

/-- What the wake of a carrier starts once its stage, its release and the wake's record are set. -/
def State.wakeStarts (s : State) (d : Nat) : State :=
  let s2 := s.each (List.range 2) fun s p => if s.flag (.chn .portEn) d p then s.chainEnable d p else s
  let s3 := ((s2.wrapNonce d).keysAgain d).when (decide (s2.get (.pan .state) d 0 = panSelfRefresh)) fun s =>
    (s.panState d panReady).set (.sbg .xtsPend) 0 d 1
  let s4 := s3.when (s3.flag (.pwr .savedCdValid) d 0) fun s =>
    ((s.set (.lr .cdEst) d 0 (s.get (.pwr .savedCd) d 0)).set (.lr .cdEstValid) d 0 1).cdNear d
  let s5 := s4.when (s4.flag (.lt .txEn) d 0) fun s => (s.set (.lt .txState) d 0 txWaitLaser).muteRefresh d
  let s6 := s5.when (s5.rxOn d) fun s => (s.rxAttempt d).opticsRefresh d
  (s6.each (s6.portsOf d) fun s p => s.portStart d p).lofFollow d

theorem State.startWake_eq : s.startWake d src bell = ((((s.setStage d ksWaking).set (.sys .dieReleased) 0 0
    (putBit (s.get (.sys .dieReleased) 0 0) d true)).set (.pwr .wakeEn) d 0 0).wakeInfo src bell).wakeStarts d := rfl

/-- It starts the line, the ports and the stack, and leaves every stage and every wake as it is. -/
theorem State.wakeStarts_kept (h : wakeKeeps c = true) (k j : Nat) : (s.wakeStarts d).get c k j = s.get c k j := by
  refine Reach.get_in (g := wakeKeeps) ?_ h ..
  unfold State.wakeStarts
  dsimp only
  have h2 : Reach (outside wakeKeeps) (fun _ => true) s
      (s.each (List.range 2) fun s p => if s.flag (.chn .portEn) d p then s.chainEnable d p else s) :=
    State.each_reach Reach.refl fun x p hx => by
      split
      · apply State.chainEnable_reach hx <;> intros <;> rfl
      · exact hx
  set s2 := s.each (List.range 2) fun s p => if s.flag (.chn .portEn) d p then s.chainEnable d p else s
  have hn : Reach (outside wakeKeeps) (fun _ => true) s (s2.wrapNonce d) := by
    apply State.wrapNonce_reach h2 <;> intros <;> rfl
  have hk : Reach (outside wakeKeeps) (fun _ => true) s ((s2.wrapNonce d).keysAgain d) := by
    apply State.keysAgain_reach hn <;> intros <;> rfl
  have h3 : Reach (outside wakeKeeps) (fun _ => true) s (((s2.wrapNonce d).keysAgain d).when
      (decide (s2.get (.pan .state) d 0 = panSelfRefresh)) fun s => (s.panState d panReady).set (.sbg .xtsPend) 0 d 1) :=
    State.when_reach hk fun x hx => State.set_reach (by apply State.panState_reach hx <;> intros <;> rfl) rfl
  set s3 := ((s2.wrapNonce d).keysAgain d).when (decide (s2.get (.pan .state) d 0 = panSelfRefresh)) fun s =>
    (s.panState d panReady).set (.sbg .xtsPend) 0 d 1
  have h4 : Reach (outside wakeKeeps) (fun _ => true) s (s3.when (s3.flag (.pwr .savedCdValid) d 0) fun s =>
      ((s.set (.lr .cdEst) d 0 (s.get (.pwr .savedCd) d 0)).set (.lr .cdEstValid) d 0 1).cdNear d) :=
    State.when_reach h3 fun x hx => by
      apply State.cdNear_reach (State.set_reach (State.set_reach hx rfl) rfl) <;> intros <;> rfl
  set s4 := s3.when (s3.flag (.pwr .savedCdValid) d 0) fun s =>
    ((s.set (.lr .cdEst) d 0 (s.get (.pwr .savedCd) d 0)).set (.lr .cdEstValid) d 0 1).cdNear d
  have h5 : Reach (outside wakeKeeps) (fun _ => true) s (s4.when (s4.flag (.lt .txEn) d 0) fun s =>
      (s.set (.lt .txState) d 0 txWaitLaser).muteRefresh d) :=
    State.when_reach h4 fun x hx => by apply State.muteRefresh_reach (State.set_reach hx rfl) <;> intros <;> rfl
  set s5 := s4.when (s4.flag (.lt .txEn) d 0) fun s => (s.set (.lt .txState) d 0 txWaitLaser).muteRefresh d
  have h6 : Reach (outside wakeKeeps) (fun _ => true) s (s5.when (s5.rxOn d) fun s => (s.rxAttempt d).opticsRefresh d) :=
    State.when_reach h5 fun x hx => by
      have hx' : Reach (outside wakeKeeps) (fun _ => true) s (x.rxAttempt d) := by
        apply State.rxAttempt_reach hx <;> intros <;> rfl
      apply State.opticsRefresh_reach hx' <;> intros <;> rfl
  set s6 := s5.when (s5.rxOn d) fun s => (s.rxAttempt d).opticsRefresh d
  have h7 : Reach (outside wakeKeeps) (fun _ => true) s (s6.each (s6.portsOf d) fun s p => s.portStart d p) :=
    State.each_reach h6 fun x p hx => by apply State.portStart_reach hx <;> intros <;> rfl
  apply State.lofFollow_reach h7 <;> intros <;> rfl

/-- A wake that begins. -/
theorem State.startWake_facts (hd : s.present d = true) : (s.startWake d src bell).stage d = ksWaking ∧
    (s.startWake d src bell).released d = true ∧ (s.startWake d src bell).get (.pwr .wakeEn) d 0 = 0 ∧
    (s.startWake d src bell).get (.ao .wakeSource) 0 0 = src ∧
    (s.startWake d src bell).get (.pwr .nWake) 0 (src - 1) = (s.get (.pwr .nWake) 0 (src - 1) + 1) % 2 ^ 64 := by
  rw [State.startWake_eq]
  refine ⟨?_, ?_, ?_, ?_, ?_⟩
  · rw [State.stage, State.wakeStarts_kept rfl]
    simp [State.wakeInfo, State.setStage]
  · rw [State.released, State.present, State.wakeStarts_kept rfl, State.wakeStarts_kept rfl]
    simpa [State.wakeInfo, State.setStage, bit_putBit, State.present] using hd
  · rw [State.wakeStarts_kept rfl]
    simp [State.wakeInfo]
  · rw [State.wakeStarts_kept rfl]
    simp [State.wakeInfo]
  · rw [State.wakeStarts_kept rfl]
    simp [State.wakeInfo, State.setStage]

/-- A shutdown that reverses touches the stage and the wake mask of its own carrier. -/
theorem State.ksReverse_kept (h : wakeKeeps c = true) (h1 : c ≠ .pwr .stage) (h2 : c ≠ .pwr .wakeEn) (h3 : c ≠ .lt .sysCause)
    (k j : Nat) : (s.ksReverse d).get c k j = s.get c k j :=
  Reach.get_in (g := fun c => wakeKeeps c && decide (c ≠ .pwr .stage) && decide (c ≠ .pwr .wakeEn) && decide (c ≠ .lt .sysCause))
    (by apply State.ksReverse_reach Reach.refl <;> intros <;> rfl) (by simp [h, h1, h2, h3]) ..

/-- It ends AWAKE. -/
theorem State.ksReverse_stage : (s.ksReverse d).stage d = ksAwake := by
  unfold State.ksReverse
  dsimp only
  set x := (s.setStage d ksAwake).set (.pwr .wakeEn) d 0 0 with hx
  have h1 : Reach (outside fun c => decide (c = .pwr .stage)) (fun _ => true) x
      (x.when (decide (s.stage d = ksClocksOff)) fun s =>
        (((s.set (.lt .sysCause) d 0 (putBit (s.get (.lt .sysCause) d 0) 1 false)).set (.lt .otherCause) d 0 0).when
          (decide (((s.set (.lt .sysCause) d 0 (putBit (s.get (.lt .sysCause) d 0) 1 false)).set (.lt .otherCause) d 0 0).get
            (.pan .state) d 0 = panSelfRefresh)) (fun s => s.panState d panReady)).muteRefresh d) :=
    State.when_reach Reach.refl fun y hy => by
      have hpan := State.when_reach (State.set_reach (c := .lt .otherCause) (d := d) (i := 0) (v := 0)
        (State.set_reach (c := .lt .sysCause) (d := d) (i := 0) (v := putBit (y.get (.lt .sysCause) d 0) 1 false) hy rfl) rfl)
        (b := decide (((y.set (.lt .sysCause) d 0 (putBit (y.get (.lt .sysCause) d 0) 1 false)).set (.lt .otherCause) d 0 0).get
          (.pan .state) d 0 = panSelfRefresh)) (f := fun s => s.panState d panReady)
        fun z hz => by apply State.panState_reach hz <;> intros <;> rfl
      apply State.muteRefresh_reach hpan <;> intros <;> rfl
  rw [State.stage, Reach.get_in (State.each_reach h1 fun y p hy => by
    apply State.portWake_reach hy <;> intros <;> rfl) (by simp)]
  simp [hx, State.setStage]

/-- A gated carrier wakes from a source that it allows. -/
theorem State.wakeDie_gated (hs : s.stage d = ksGated) (hb : bit (s.get (.pwr .wakeEn) d 0) (src - 1) = true)
    (hl : s.flag (.pwr .lateWake) d 0 = false) : s.wakeDie d src bell = s.startWake d src bell := by
  simp [State.wakeDie, hs, hb, hl, ksGated, ksAwake, ksWaking]

/-- A carrier in ISOLATE keeps the wake for its end. -/
theorem State.wakeDie_isolate (hs : s.stage d = ksIsolate) (hb : bit (s.get (.pwr .wakeEn) d 0) (src - 1) = true)
    (hl : s.flag (.pwr .lateWake) d 0 = false) : s.wakeDie d src bell =
      ((s.set (.pwr .lateWake) d 0 src).set (.pwr .lateBell) d 0 bell).inc (.pwr .nKsLateWake) 0 0 := by
  simp [State.wakeDie, hs, hb, hl, ksGated, ksAwake, ksWaking, ksIsolate]

/-- A shutdown in its first two stages reverses. -/
theorem State.wakeDie_reverses (hs : s.stage d = ksDrain ∨ s.stage d = ksClocksOff)
    (hb : bit (s.get (.pwr .wakeEn) d 0) (src - 1) = true) (hl : s.flag (.pwr .lateWake) d 0 = false) :
    s.wakeDie d src bell = ((s.ksReverse d).wakeInfo src bell).inc (.pwr .nKsReverse) 0 0 := by
  rcases hs with hs | hs <;> simp [State.wakeDie, hs, hb, hl, ksGated, ksAwake, ksWaking, ksIsolate, ksDrain, ksClocksOff]

/-- A carrier that is waking, or does not allow the source, ignores it. -/
theorem State.wakeDie_ignores (hs : s.stage d = ksWaking ∨ (s.stage d ≠ ksAwake ∧ bit (s.get (.pwr .wakeEn) d 0) (src - 1) = false)) :
    s.wakeDie d src bell = s.wakeIgnored := by
  rcases hs with hs | ⟨hs, hb⟩
  · simp [State.wakeDie, hs, ksAwake, ksWaking]
  · simp [State.wakeDie, hs, hb]

section
variable (hlan : s.lantern d = true) (hp : s.pkgEntry = false)
include hlan hp

/-- A wake source above 1 acts on the carrier where the package does not sleep. -/
theorem ksWakeSource_die (h2 : 2 ≤ src) {P : State → Prop} (hP : P (settle s (s.wakeDie d src d))) :
    Completes (.ksWakeSource d src) s P := by
  have hsrc : src ≠ 1 := by omega
  refine completes_of exec_ksWakeSource (by simp [hlan, hsrc]) ?_
  simpa [hsrc, State.wakeSource, hp] using hP

theorem ksWakeSource_wakes (h2 : 2 ≤ src) (hs : s.stage d = ksGated) (hb : bit (s.get (.pwr .wakeEn) d 0) (src - 1) = true)
    (hl : s.flag (.pwr .lateWake) d 0 = false) : Completes (.ksWakeSource d src) s fun t => t.stage d = ksWaking ∧
      t.released d = true ∧ t.get (.pwr .wakeEn) d 0 = 0 ∧ t.get (.ao .wakeSource) 0 0 = src ∧
      t.get (.pwr .nWake) 0 (src - 1) = (s.get (.pwr .nWake) 0 (src - 1) + 1) % Counter.size := by
  refine ksWakeSource_die hlan hp h2 ?_
  rw [State.wakeDie_gated hs hb hl]
  have hd : s.present d = true := by
    rw [State.lantern, Bool.and_eq_true] at hlan
    exact hlan.2
  obtain ⟨hst, hrel, hen, hsrc, hn⟩ := s.startWake_facts (src := src) (bell := d) hd
  exact ⟨settle_stage.trans hst, settle_released.trans hrel, (get_settle_of rfl ..).trans hen,
    (get_settle_of rfl ..).trans hsrc, (get_settle_of rfl ..).trans hn⟩

theorem ksWakeSource_late (h2 : 2 ≤ src) (hs : s.stage d = ksIsolate) (hb : bit (s.get (.pwr .wakeEn) d 0) (src - 1) = true)
    (hl : s.flag (.pwr .lateWake) d 0 = false) : Completes (.ksWakeSource d src) s fun t => t.stage d = ksIsolate ∧
      t.get (.pwr .lateWake) d 0 = src ∧
      t.get (.pwr .nKsLateWake) 0 0 = (s.get (.pwr .nKsLateWake) 0 0 + 1) % Counter.size := by
  refine ksWakeSource_die hlan hp h2 ?_
  rw [State.wakeDie_isolate hs hb hl]
  exact ⟨by rw [settle_stage, ← hs]; simp [State.stage], by simp, by simp [Counter.size]⟩

theorem ksWakeSource_reverses (h2 : 2 ≤ src) (hs : s.stage d = ksDrain ∨ s.stage d = ksClocksOff)
    (hb : bit (s.get (.pwr .wakeEn) d 0) (src - 1) = true) (hl : s.flag (.pwr .lateWake) d 0 = false) :
    Completes (.ksWakeSource d src) s fun t => t.stage d = ksAwake ∧ t.get (.ao .wakeSource) 0 0 = src ∧
      t.get (.pwr .nKsReverse) 0 0 = (s.get (.pwr .nKsReverse) 0 0 + 1) % Counter.size := by
  refine ksWakeSource_die hlan hp h2 ?_
  rw [State.wakeDie_reverses hs hb hl]
  have hst : (s.ksReverse d).get (.pwr .stage) d 0 = ksAwake := State.ksReverse_stage
  refine ⟨by simp [State.stage, State.wakeInfo, hst], by simp [State.wakeInfo], ?_⟩
  rw [get_settle_of rfl, State.get_inc, if_pos (by simp), State.wakeInfo]
  simp [State.ksReverse_kept, Counter.size]

theorem ksWakeSource_ignored (h2 : 2 ≤ src)
    (hs : s.stage d = ksWaking ∨ (s.stage d ≠ ksAwake ∧ bit (s.get (.pwr .wakeEn) d 0) (src - 1) = false)) :
    Completes (.ksWakeSource d src) s fun t => t.stage d = s.stage d ∧
      t.get (.pwr .nWakeIgnored) 0 0 = (s.get (.pwr .nWakeIgnored) 0 0 + 1) % Counter.size := by
  refine ksWakeSource_die hlan hp h2 ?_
  rw [State.wakeDie_ignores hs]
  simp [State.wakeIgnored, State.stage, Counter.size]

theorem ksWakeTimer_outcome (hd : d < 8) (hs : s.stage d = ksGated) (hb : bit (s.get (.pwr .wakeEn) d 0) 1 = true)
    (hl : s.flag (.pwr .lateWake) d 0 = false) (hg : s.get (.pwr .wakeGroup) d 0 = 2 ^ d) :
    Completes (.ksWakeTimer d) s fun t => t.stage d = ksWaking ∧ t.get (.ao .wakeSource) 0 0 = 2 := by
  refine completes_of exec_ksWakeTimer (by simp [hlan, hs, ksGated, ksAwake]) ?_
  have hmask : ∀ e < 8, maskBits 8 (2 ^ e) = [e] := by decide
  rw [if_neg (by simp [hp]), hg, hmask d hd, State.each_one, State.wakeDie_gated hs hb hl]
  have hpres : s.present d = true := by
    rw [State.lantern, Bool.and_eq_true] at hlan
    exact hlan.2
  obtain ⟨hst, -, -, hsrc, -⟩ := s.startWake_facts (src := 2) (bell := d) hpres
  exact ⟨settle_stage.trans hst, (get_settle_of rfl ..).trans hsrc⟩

omit hlan hp in
/-- A wake source records itself, or leaves the record as it was. -/
theorem State.wakeDie_source (e : Nat) : (s.wakeDie e src bell).get (.ao .wakeSource) 0 0 = src ∨
    (s.wakeDie e src bell).get (.ao .wakeSource) 0 0 = s.get (.ao .wakeSource) 0 0 := by
  unfold State.wakeDie
  split_ifs
  · exact .inr rfl
  · exact .inr (by simp [State.wakeIgnored])
  · left
    rw [State.startWake_eq, State.wakeStarts_kept rfl]
    simp [State.wakeInfo]
  · exact .inr (by simp)
  · exact .inl (by simp [State.wakeInfo])

/-- The cells by which a wake source decides on a carrier. -/
abbrev wakeReads : PwrCell → Bool
  | .stage | .wakeEn | .lateWake => true
  | _ => false

/-- Every key but those by which a wake source decides on carrier `d`. -/
abbrev outsideWake (d : Nat) (x : Key) : Bool :=
  match x.cell with
  | .pwr q => !wakeReads q || decide (x.die ≠ d)
  | _ => true

omit hlan hp in
/-- A wake source at one carrier leaves those of another. -/
theorem State.wakeDie_other {p : PwrCell} (h : wakeReads p = true) (he : d ≠ e) :
    (s.wakeDie e src bell).get (.pwr p) d 0 = s.get (.pwr p) d 0 := by
  refine Reach.cells (P := outsideWake d) (Q := fun _ => true) ?_ ⟨.pwr p, d, 0⟩ (by simp [outsideWake, h])
  apply State.wakeDie_reach Reach.refl <;> intros <;> simp [outsideWake, he.symm]

theorem wakeNLow_outcome (hd : d < 8) (hs : s.stage d = ksGated) (hb : bit (s.get (.pwr .wakeEn) d 0) 2 = true)
    (hl : s.flag (.pwr .lateWake) d 0 = false) (hr : s.flag (.sys .sysRstN) 0 0 = true) (h0 : s.present 0 = true) :
    Completes .wakeNLow s fun t => t.stage d = ksWaking ∧ t.get (.ao .wakeSource) 0 0 = 3 := by
  have hlan' := hlan
  simp only [State.lantern, Bool.and_eq_true] at hlan'
  obtain ⟨⟨hao, hgood⟩, hpres⟩ := hlan'
  refine completes_of exec_wakeNLow (by simp [State.lantern, hao, hgood, h0, hr]) ?_
  rw [if_neg (by simp [hp]), settle_stage, get_settle_of rfl]
  refine State.each_once (P := fun x => (∀ p, wakeReads p = true → x.get (.pwr p) d 0 = s.get (.pwr p) d 0) ∧
      x.present d = true)
    (Q := fun x => x.stage d = ksWaking ∧ x.get (.ao .wakeSource) 0 0 = 3)
    (List.nodup_range.filter _) (a := d) (by simp [State.dies, hd, hpres]) ⟨fun _ _ => rfl, hpres⟩
    (fun x e he ⟨hx, hxp⟩ => ⟨fun p hw => ?_, ?_⟩) (fun x ⟨hx, hxp⟩ => ?_) (fun x e he ⟨hx, hsrc⟩ => ⟨?_, ?_⟩)
  · rw [State.wakeDie_other hw he.symm, hx p hw]
  · rw [State.present, Reach.get_eq (by apply State.wakeDie_reach Reach.refl <;> intros <;> rfl)]
    exact hxp
  · rw [State.wakeDie_gated ((hx .stage rfl).trans hs) (by rw [hx .wakeEn rfl]; exact hb)
      (by rw [State.flag, hx .lateWake rfl]; exact hl)]
    obtain ⟨hst, -, -, hsrc, -⟩ := x.startWake_facts (src := 3) (bell := d) hxp
    exact ⟨hst, hsrc⟩
  · rw [State.stage, State.wakeDie_other rfl he.symm]
    exact hx
  · rcases x.wakeDie_source (src := 3) (bell := e) e with h | h
    · exact h
    · rw [h, hsrc]

end

/-- Settles O50: the stages of a shutdown, the wake by the stage that it finds, and what a gated carrier loses.  What a die
keeps asleep, its frame counters with what the Saddlebag knows among it, is the model's choice (log 33, 34). -/
theorem kickstand : Obligations.Kickstand := by
  unfold Obligations.Kickstand
  exact ⟨fun s d q _ => ⟨ksDrainEnd_outcome, ksStageComplete_isolates, ksStageComplete_gates, ksStageComplete_package,
      ksWakeComplete_outcome⟩,
    fun s d src hd hlan hp h2 _ => ⟨ksWakeSource_wakes hlan hp h2, ksWakeSource_late hlan hp h2,
      ksWakeSource_reverses hlan hp h2, ksWakeSource_ignored hlan hp h2, ksWakeTimer_outcome hlan hp hd,
      wakeNLow_outcome hlan hp hd⟩,
    fun s d => ksStageComplete_loses⟩

end Sys2Proof.Machine
end

section
/-!
The alarm log (R442, R443): a report taken while a summary condition of the same die is about to change.
-/
set_option Elab.async false
namespace Sys2Proof.Machine
open Sys2Proof.Tests

/-- One report of die 0 waits for the lead die; a receive path of its container 0 holds traffic, which HOLD_ANY does not show yet. -/
def holdUnshown : State :=
  { wSt [(.sys .dieReleased, 0, 0, 255), (.cry .rxState, 0, 0, 1)] with reports := [⟨0, 0, 0, 0, 0, 0, 0, 0⟩] }

/-- The command brings HOLD_ANY up to date, and its reports follow the one taken. -/
theorem holdUnshown_reports : (after (.alarmReportRx 0) holdUnshown).reports.length = 2 := by decide +kernel

/-- Refutes O51: the reports that wait after ALARM_REPORT_RX are not always the rest of those before.  Every command settles
the summary conditions, and where HOLD_ANY comes to hold its reports join the queue. -/
theorem not_alarmsAndTelemetry : ¬ Obligations.AlarmsAndTelemetry := by
  unfold Obligations.AlarmsAndTelemetry
  intro h
  obtain ⟨-, hrx, -⟩ := h holdUnshown 0 0 0 0 0 0 0 0 .bootFallback ⟨0, 0, 0, 0, 0, 0, 0, 0⟩ [] ⟨true, 0, 0, 0, 0, 0⟩
  obtain ⟨-, -, hrest, -⟩ := (hrx rfl (by decide +kernel) rfl (by decide +kernel)).after
  exact absurd (congrArg List.length hrest) (by rw [holdUnshown_reports]; decide)

end Sys2Proof.Machine
end

section
/-!
The CRC scan engine (R457 to R459) and error injection (R460 to R463).
-/
set_option Elab.async false
namespace Sys2Proof.Machine

variable {s t : State} {d u k how bytes g : Nat}

theorem exec_crcSubmit : exec .crcSubmit s = execCrcSubmit s := rfl
theorem exec_crcJobEnd : exec (.crcJobEnd how bytes g) s = execCrcJobEnd how bytes g s := rfl
theorem exec_injFire : exec (.injFire d u) s = execInjFire d u s := rfl
theorem exec_injStop : exec (.injStop d u) s = execInjStop d u s := rfl
theorem exec_injApply : exec (.injApply d u) s = execInjApply d u s := rfl

-- The scan engine.

@[simp] theorem settle_crcStatus : (settle s t).crcStatus k = t.crcStatus k := get_settle_of rfl ..

@[simp] theorem settle_crcJobs : (settle s t).crcJobs = t.crcJobs := by simp [State.crcJobs]

/-- Jobs are the slots whose status says so. -/
theorem State.mem_crcJobs : k ∈ s.crcJobs ↔ k < 8 ∧ 6 ≤ s.crcStatus k := by simp [State.crcJobs]

theorem State.crcStatus_free (h : k ∉ s.crcJobs) (hk : k < 8) : s.crcStatus k < 6 := by
  rw [State.mem_crcJobs] at h
  omega

/-- With one job left, it is the one that runs. -/
theorem State.crcJobs_only (h : ∀ j < 8, 6 ≤ s.crcStatus j ↔ j = k) (hk : k < 8) : s.crcJobs = [k] := by
  have hfilter : s.crcJobs = (List.range 8).filter (fun j => decide (j = k)) :=
    List.filter_congr fun j hj => by simp [h j (List.mem_range.mp hj)]
  have hone : ∀ e < 8, (List.range 8).filter (fun j => decide (j = e)) = [e] := by decide
  rw [hfilter, hone k hk]

/-- A job that waits alone starts. -/
theorem State.crcNext_starts (hk : k < 8) (hq : s.crcStatus k = crcQueued) (ho : ∀ j < 8, j ≠ k → s.crcStatus j < 6) :
    s.crcNext = s.set (.crc .resStatus) 0 k crcRunning := by
  have hlist : (List.range 8).filter (fun j => decide (s.crcStatus j = crcQueued)) = [k] := by
    have hfilter : (List.range 8).filter (fun j => decide (s.crcStatus j = crcQueued)) =
        (List.range 8).filter (fun j => decide (j = k)) := List.filter_congr fun j hj => by
      by_cases h : j = k
      · simp [h, hq]
      · have := ho j (List.mem_range.mp hj) h
        simp [h, show s.crcStatus j ≠ crcQueued from fun he => by rw [he] at this; exact absurd this (by decide)]
    have hone : ∀ e < 8, (List.range 8).filter (fun j => decide (j = e)) = [e] := by decide
    rw [hfilter, hone k hk]
  have hnone : (List.range 8).any (fun j => decide (s.crcStatus j = crcRunning)) = false := by
    rw [List.any_eq_false]
    intro j hj
    rw [decide_eq_true_eq]
    by_cases h : j = k
    · rw [h, hq]; decide
    · intro he
      have := ho j (List.mem_range.mp hj) h
      rw [he] at this
      exact absurd this (by decide)
  unfold State.crcNext
  dsimp only
  rw [hlist, hnone]
  simp

/-- With no job left, none starts. -/
theorem State.crcNext_none (h : ∀ j < 8, s.crcStatus j < 6) : s.crcNext = s := by
  have hnot : ∀ v, 6 ≤ v → ∀ j ∈ List.range 8, s.crcStatus j ≠ v := fun v hv j hj he => by
    have := h j (List.mem_range.mp hj)
    omega
  have hany : (List.range 8).any (fun j => decide (s.crcStatus j = crcRunning)) = false := by
    rw [List.any_eq_false]
    exact fun j hj => by simpa using hnot _ (by decide) j hj
  have hlist : (List.range 8).filter (fun j => decide (s.crcStatus j = crcQueued)) = [] := by
    rw [List.filter_eq_nil_iff]
    exact fun j hj => by simpa using hnot _ (by decide) j hj
  unfold State.crcNext
  dsimp only
  rw [hlist, hany]
  rfl

section
variable (hu : s.up 0 = true)
include hu

theorem crcSubmit_refused (h : s.crcSlot = none) : Completes .crcSubmit s fun t =>
    t.get (.crc .nReject) 0 0 = (s.get (.crc .nReject) 0 0 + 1) % Counter.size ∧ t.crcJobs = s.crcJobs :=
  completes_of exec_crcSubmit hu (by
    simp only [State.crcSubmit, h]
    exact ⟨by simp [Counter.size], settle_crcJobs.trans (List.filter_congr fun j _ => by rw [State.crcStatus, State.get_inc_ite, if_neg (by simp), ← State.crcStatus])⟩)

theorem crcSubmit_starts (h : s.crcSlot = some k) (hj : s.crcJobs = []) : Completes .crcSubmit s fun t =>
    t.crcStatus k = crcRunning ∧ t.get (.crc .resSlot) 0 0 = k ∧ t.get (.crc .jobsQueued) 0 0 = 1 ∧
      t.get (.crc .jobAddr) 0 k = s.get (.crc .addr) 0 0 ∧ t.get (.crc .jobLen) 0 k = s.get (.crc .len) 0 0 := by
  refine completes_of exec_crcSubmit hu ?_
  have hk : k < 8 := List.mem_range.mp (List.mem_of_find?_eq_some h)
  have hfree : ∀ j < 8, s.crcStatus j < 6 := fun j => State.crcStatus_free (by simp [hj])
  simp only [State.crcSubmit, h]
  rw [State.crcNext_starts hk (by simp [State.crcStatus]) fun j hj' hne => by simpa [State.crcStatus, hne] using hfree j hj',
    State.crcShow, State.crcJobs_only (k := k) (fun j hj' => by
      by_cases hne : j = k
      · simp [hne, State.crcStatus, crcRunning]
      · have := hfree j hj'
        simpa [hne, State.crcStatus] using this) hk]
  simp [State.crcStatus]

section
variable (hj : s.crcJobs = [k]) (hr : s.crcStatus k = crcRunning)
include hj hr

omit hu hr in
/-- The end of the only job. -/
theorem State.jobEnd_facts (status result bytes : Nat) (hs : status < 6) :
    (s.jobEnd k status result bytes 0).crcStatus k = status ∧ (s.jobEnd k status result bytes 0).get (.crc .resResult) 0 k = result ∧
      (s.jobEnd k status result bytes 0).get (.crc .resBytes) 0 k = bytes ∧
      (s.jobEnd k status result bytes 0).get (.crc .jobsQueued) 0 0 = 0 ∧
      (s.jobEnd k status result bytes 0).get (.crc .nJobs) 0 0 = (s.get (.crc .nJobs) 0 0 + 1) % 2 ^ 64 := by
  have hfree : ∀ j < 8, j ≠ k → s.crcStatus j < 6 := fun j hj' hne => State.crcStatus_free (by simp [hj, hne]) hj'
  set x := ((((s.set (.crc .resStatus) 0 k status).set (.crc .resResult) 0 k result).set (.crc .resBytes) 0 k bytes).set
    (.crc .resFaultAddr) 0 k 0).inc (.crc .nJobs) 0 0 with hx
  have hall : ∀ j < 8, x.crcStatus j < 6 := fun j hj' => by
    by_cases hne : j = k
    · simpa [hx, State.crcStatus, hne] using hs
    · simpa [hx, State.crcStatus, hne] using hfree j hj' hne
  have hnone : x.crcJobs = [] := by
    rw [State.crcJobs, List.filter_eq_nil_iff]
    intro j hj'
    simpa using hall j (List.mem_range.mp hj')
  have hend : s.jobEnd k status result bytes 0 = x.crcShow := by rw [State.jobEnd, ← hx, State.crcNext_none hall]
  rw [hend, State.crcShow, hnone]
  simp [hx, State.crcStatus]

omit hu in
/-- The job that runs is the one that ends. -/
theorem State.crcJobs_find : s.crcJobs.find? (fun k => decide (s.crcStatus k = crcRunning)) = some k := by
  rw [hj]
  simp [hr]

theorem crcJobEnd_range (hrange : s.jobRange k = true) : Completes (.crcJobEnd how bytes g) s fun t => t.crcStatus k = 2 ∧
    t.get (.crc .resBytes) 0 k = 0 ∧ t.get (.crc .jobsQueued) 0 0 = 0 ∧
    t.get (.crc .nJobs) 0 0 = (s.get (.crc .nJobs) 0 0 + 1) % Counter.size := by
  have hexec : exec (.crcJobEnd how bytes g) s = finishIf (s.up 0) s fun s => s.jobEnd k 2 0 0 0 := by
    simp only [exec_crcJobEnd, execCrcJobEnd, State.crcJobs_find hj hr, hrange, if_true]
  obtain ⟨hst, -, hb, hq, hn⟩ := State.jobEnd_facts hj 2 0 0 (by decide)
  exact completes_of hexec hu ⟨settle_crcStatus.trans hst, (get_settle_of rfl ..).trans hb, (get_settle_of rfl ..).trans hq,
    (get_settle_of rfl ..).trans hn⟩

theorem crcJobEnd_passes (hrange : s.jobRange k = false) (ha : s.awake (s.jobDie k) = true) :
    Completes (.crcJobEnd 0 bytes g) s fun t => t.crcStatus k = 1 ∧
      t.get (.crc .resBytes) 0 k = s.get (.crc .jobLen) 0 k ∧
      t.get (.crc .resResult) 0 k = crcOut (s.jobPoly k) (s.jobCrc k (s.get (.crc .jobLen) 0 k)) := by
  have hexec : exec (.crcJobEnd 0 bytes g) s = finishIf (s.up 0 && s.awake (s.jobDie k)) s fun t =>
      t.jobEnd k 1 (crcOut (s.jobPoly k) (s.jobCrc k (s.get (.crc .jobLen) 0 k))) (s.get (.crc .jobLen) 0 k) 0 := by
    simp only [exec_crcJobEnd, execCrcJobEnd, State.crcJobs_find hj hr, hrange]
    rfl
  obtain ⟨hst, hres, hb, -, -⟩ := State.jobEnd_facts hj 1
    (crcOut (s.jobPoly k) (s.jobCrc k (s.get (.crc .jobLen) 0 k))) (s.get (.crc .jobLen) 0 k) (by decide)
  exact completes_of hexec (by simp [hu, ha]) ⟨settle_crcStatus.trans hst, (get_settle_of rfl ..).trans hb,
    (get_settle_of rfl ..).trans hres⟩

end
end

-- Injection units.

section
variable (ha : s.awake d = true)
include ha

theorem injFire_fires (hm : s.injMayFire d u = true) (hr : s.injReady d u = true) : Completes (.injFire d u) s fun t =>
    t.flag (.inj .uActive) d u = true ∧ t.get (.inj .uResult) d u = 0 ∧
      t.get (.inj .left) d u = (if s.injCont d u then 0 else bits (s.injParam d u) 0 16) :=
  completes_of exec_injFire (by simp [ha, hm]) (by simp [State.injFire, hr])

theorem injFire_refused (hm : s.injMayFire d u = true) (hr : s.injReady d u = false) : Completes (.injFire d u) s fun t =>
    t.flag (.inj .uActive) d u = false ∧ t.get (.inj .uResult) d u = 2 :=
  completes_of exec_injFire (by simp [ha, hm]) (by simp [State.injFire, hr])

theorem injStop_outcome (he : s.flag (.inj .testEnable) 0 0 = true) (hx : s.flag (.inj .uActive) d u = true)
    (hc : s.injCont d u = true) : Completes (.injStop d u) s fun t => t.flag (.inj .uActive) d u = false ∧
      t.get (.inj .uResult) d u = 3 :=
  completes_of exec_injStop (by simp [ha, he]) (by simp [State.injStop, hx, hc])

section
variable (hx : s.flag (.inj .uActive) d u = true)
include hx

theorem injApply_last (hc : s.injCont d u = false) (hl : s.get (.inj .left) d u = 1) : Completes (.injApply d u) s fun t =>
    t.flag (.inj .uActive) d u = false ∧ t.get (.inj .uResult) d u = 1 ∧
      t.get (.inj .nInj) d u = (s.get (.inj .nInj) d u + 1) % Counter.size ∧ t.flag (.sticky .injInjected) d 0 = true :=
  completes_of exec_injApply (by simp [ha, hx]) (by simp [hc, hl, Counter.size])

theorem injApply_goesOn (hc : s.injCont d u = true) : Completes (.injApply d u) s fun t =>
    t.flag (.inj .uActive) d u = true ∧ t.flag (.sticky .injInjected) d 0 = true :=
  completes_of exec_injApply (by simp [ha, hx]) (by simp [hc, hx])

end
end

/-- Settles O52: submission and end of a CRC job, and the injection units.  That a lack of a slot counts as a full queue, that
the job count includes the one that runs, and that a job on an empty queue is RUNNING at once are the model's choice (log 29). -/
theorem scansAndInjection : Obligations.ScansAndInjection := by
  unfold Obligations.ScansAndInjection
  exact fun s d u k how bytes g => ⟨crcSubmit_refused, crcSubmit_starts, crcJobEnd_range,
    fun hu hj hr hrange ha _ => crcJobEnd_passes hu hj hr hrange ha, injFire_fires, injFire_refused, injStop_outcome,
    injApply_last, injApply_goesOn⟩

end Sys2Proof.Machine
end

section
/-!
Reads of the host, of the SPI target and of the other ports (R57, R70, R71, R384, R409, R446, R458, R467 to R469).
-/
set_option Elab.async false
namespace Sys2Proof.Machine

variable {s : State} {addr words count code d i f b k x : Nat} {r : Reg} {c : Ctr} {port : APort}

theorem exec_spiReadCommand (n : Nat) : exec (.spiReadCommand addr n) s = execSpiReadCommand addr n s := rfl
theorem exec_spiOtherCommand : exec (.spiOtherCommand code count) s = execSpiOtherCommand code count s := rfl
theorem exec_partialWordAccess (b : Bool) : exec (.partialWordAccess port addr b) s = execPartialWordAccess port addr b s := rfl
theorem exec_counterLowRead : exec (.counterLowRead port addr) s = execCounterLowRead port addr s := rfl
theorem exec_counterHighRead : exec (.counterHighRead port addr) s = execCounterHighRead port addr s := rfl
theorem exec_monFiltStatRead : exec (.monFiltStatRead port d f) s = execMonFiltStatRead port d f s := rfl
theorem exec_crcResultStatusRead : exec (.crcResultStatusRead port k) s = execCrcResultStatusRead port k s := rfl

-- The host (R57, R70, R468).

/-- A request beyond 32 words returns nothing and is counted (R468). -/
theorem hostRead_unsupported (hb : s.hostBus = true) (hw : 32 < words) : Completes (.hostRead addr words) s fun t =>
    t.readData = [] ∧ t.get (.tkt .nHostRdDeny) 0 0 = (s.get (.tkt .nHostRdDeny) 0 0 + 1) % Counter.size := by
  refine completes_of (exec_hostRead _) hb ?_
  rw [if_pos hw]
  exact ⟨settle_readData, (get_settle_of rfl ..).trans (State.get_set_self ..)⟩

/-- The mailbox reads 0 and is not counted (R469). -/
theorem hostRead_mailbox (hb : s.hostBus = true) (hm : mboxRange addr = true) : Completes (.hostRead addr 1) s fun t =>
    t.readData = [0] ∧ t.get (.tkt .nHostRdDeny) 0 0 = s.get (.tkt .nHostRdDeny) 0 0 := by
  apply completes_hostRead_word hb
  have hread : s.readOne .pcie addr = { s with readData := [0] } := by
    simp [State.readOne, State.portRead, State.guarded, hm]
  rw [hread]
  exact ⟨settle_readData, get_settle_of rfl ..⟩

/-- A register that answers returns its word. -/
theorem State.read_reg (port : APort) (ha : s.addrAnswers x = true) (hx : placeAt x = .reg r d i) :
    (s.read port x).1 = s.regWord r d i := by
  rw [State.read, if_pos ha, hx]
  rfl

theorem hostRead_reg (hb : s.hostBus = true) (hm : mboxRange addr = false) (hok : s.hostMayRead addr = true)
    (ha : s.addrAnswers addr = true) (hx : placeAt addr = .reg r d i) : Completes (.hostRead addr 1) s fun t =>
      t.readData = [s.regWord r d i] := by
  obtain ⟨t, ht, hdata, -⟩ := hostRead_granted hb hm hok
  exact ⟨t, ht, hdata.trans (by rw [State.read_reg .pcie ha hx])⟩

/-- Before RUN the host reads the fixed boot set only (R57). -/
theorem hostRead_beforeRun (hb : s.hostBus = true) (hst : s.bootState ≠ bootRun) (hs : bootSet addr = false)
    (hm : mboxRange addr = false) : Completes (.hostRead addr 1) s fun t => t.readData = [0] := by
  obtain ⟨t, ht, hdata, -⟩ := hostRead_denied hb hm (by simp [State.hostMayRead, hs, State.inRun, hst])
  exact ⟨t, ht, hdata⟩

-- The SPI target (R71).

/-- A command for one word is a single read through the SPI target. -/
theorem completes_spiRead_word {P : State → Prop} (hr : s.released 0 = true) (hP : P (settle s (s.readOne .spi (4 * addr)))) :
    Completes (.spiReadCommand addr 1) s P :=
  ⟨_, by simp [exec_spiReadCommand, execSpiReadCommand, finishIf, finish, hr, State.answer, State.readRun, State.readOne], hP⟩

theorem spiReadCommand_denied (hr : s.released 0 = true) (hm : mboxRange (4 * addr) = false) (hs : bootSet (4 * addr) = false) :
    Completes (.spiReadCommand addr 1) s fun t => t.readData = [0] ∧
      t.get (.tkt .nHostRdDeny) 0 0 = (s.get (.tkt .nHostRdDeny) 0 0 + 1) % Counter.size := by
  apply completes_spiRead_word hr
  have hread : s.readOne .spi (4 * addr) = { s.denied with readData := [0] } := by
    simp [State.readOne, State.portRead, State.guarded, hm, hs]
  rw [hread]
  exact ⟨settle_readData, (get_settle_of rfl ..).trans (State.get_set_self ..)⟩

/-- The fixed boot set lies below the mailbox. -/
theorem mboxRange_of_bootSet (h : bootSet x = true) : mboxRange x = false := by
  simp only [bootSet, Bool.or_eq_true, Bool.and_eq_true, decide_eq_true_eq] at h
  simp only [mboxRange, Bool.and_eq_false_iff, decide_eq_false_iff_not]
  omega

theorem spiReadCommand_reg (hr : s.released 0 = true) (hs : bootSet (4 * addr) = true) (ha : s.addrAnswers (4 * addr) = true)
    (hx : placeAt (4 * addr) = .reg r d i) : Completes (.spiReadCommand addr 1) s fun t =>
      t.readData = [s.regWord r d i] := by
  apply completes_spiRead_word hr
  have hread : s.readOne .spi (4 * addr) =
      { (s.read .spi (4 * addr)).2 with readData := [(s.read .spi (4 * addr)).1] } := by
    simp [State.readOne, State.portRead, State.guarded, mboxRange_of_bootSet hs, hs]
  rw [hread, settle_readData, State.read_reg .spi ha hx]

theorem spiOtherCommand_outcome (hr : s.released 0 = true) (hc : code ≠ 3) : Completes (.spiOtherCommand code count) s fun t =>
    t.readData.length = count ∧ ∀ b ∈ t.readData, b = 255 := by
  refine completes_of exec_spiOtherCommand (by simp [hr, hc]) ?_
  rw [settle_readData]
  exact ⟨List.length_replicate, fun b hb => List.eq_of_mem_replicate hb⟩

-- Partial words (R467).

theorem partialWordAccess_read (hp : s.portOn port = true) : Completes (.partialWordAccess port addr false) s fun t =>
    t.readData = [0] ∧ t.get (.sys .snapValid) 0 (portCode port) = s.get (.sys .snapValid) 0 (portCode port) :=
  completes_of (exec_partialWordAccess _) hp ⟨settle_readData, get_settle_of rfl ..⟩

theorem partialWordAccess_write (hb : s.hostBus = true) (hr : s.flag (.tkt .rejHeld) 0 0 = false) :
    Completes (.partialWordAccess .pcie addr true) s fun t =>
      t.get (.tkt .nHostWrRej) 0 0 = (s.get (.tkt .nHostWrRej) 0 0 + 1) % Counter.size ∧
        t.get (.tkt .hostWrRejAddr) 0 0 = addr ∧ t.flag (.tkt .rejHeld) 0 0 = true :=
  completes_of (exec_partialWordAccess _) hb (by simp [State.when, State.rejectWrite, hr, Counter.size])

-- The other ports.

section
variable (hon : s.portOn port = true) (hp : port ≠ .pcie) (hq : port ≠ .spi)
include hon hp hq

omit hon in
/-- A single read by a port that reads every address. -/
theorem State.readOne_place {p : Place} (ha : s.addrAnswers x = true) (hx : placeAt x = p) : s.readOne port x =
    { (s.readPlace port x p).2 with readData := [(s.readPlace port x p).1] } := by
  rw [State.readOne, State.portRead_unguarded hp hq, State.read, if_pos ha, hx]

omit hon hp hq in
/-- The release of the address of a rejected write touches nothing else. -/
theorem State.ctrSeen_snap {e : SysCell} (u : State) (c : Cell) (j : Nat) : (u.ctrSeen c).get (.sys e) 0 j = u.get (.sys e) 0 j := by
  unfold State.ctrSeen
  split <;> simp

theorem counterLowRead_outcome (ha : s.addrAnswers addr = true) (hx : placeAt addr = .half c d i false) :
    Completes (.counterLowRead port addr) s fun t =>
      t.readData = [s.get c.cell d i % 2 ^ 64 % 2 ^ 32] ∧ t.flag (.sys .snapValid) 0 (portCode port) = true ∧
        t.get (.sys .snapAddr) 0 (portCode port) = addr ∧
        t.get (.sys .snapHi) 0 (portCode port) = s.get c.cell d i % 2 ^ 64 / 2 ^ 32 := by
  refine completes_of exec_counterLowRead (by simp [hon, isHalf, hx]) ?_
  rw [State.readOne_place hp hq ha hx]
  set u := (s.lowRead port addr (s.get c.cell d i % 2 ^ 64)).2 with hu
  refine ⟨settle_readData, ?_, ?_, ?_⟩
  · rw [flag_settle_of rfl, State.flag]
    refine (congrArg (fun v => decide (v ≠ 0)) (u.ctrSeen_snap c.cell _)).trans ?_
    simp [hu, State.lowRead]
  · refine (get_settle_of rfl ..).trans ((u.ctrSeen_snap c.cell _).trans ?_)
    simp [hu, State.lowRead]
  · refine (get_settle_of rfl ..).trans ((u.ctrSeen_snap c.cell _).trans ?_)
    simp [hu, State.lowRead]

omit hon hp hq in
/-- A high half is read at the address of its low half plus 4. -/
theorem lowAddr_half (hx : placeAt addr = .half c d i true) : lowAddr addr = addr - 4 := by simp [lowAddr, hx]

theorem counterHighRead_snapshot (ha : s.addrAnswers addr = true) (hx : placeAt addr = .half c d i true)
    (hv : s.flag (.sys .snapValid) 0 (portCode port) = true) (hs : s.get (.sys .snapAddr) 0 (portCode port) = addr - 4) :
    Completes (.counterHighRead port addr) s fun t => t.readData = [s.get (.sys .snapHi) 0 (portCode port)] ∧
      t.flag (.sys .snapValid) 0 (portCode port) = false := by
  refine completes_of exec_counterHighRead (by simp [hon, isHalf, hx]) ?_
  rw [State.readOne_place hp hq ha hx]
  have hread : ∀ v, s.highRead port addr v =
      (s.get (.sys .snapHi) 0 (portCode port), s.set (.sys .snapValid) 0 (portCode port) 0) := fun v => by
    rw [State.highRead, if_pos (by simp [hv, hs, lowAddr_half hx])]
  simp only [State.readPlace, if_true, hread]
  refine ⟨settle_readData, ?_⟩
  rw [flag_settle_of rfl, State.flag]
  refine (congrArg (fun v => decide (v ≠ 0)) ((s.set (.sys .snapValid) 0 (portCode port) 0).ctrSeen_snap c.cell _)).trans ?_
  simp

theorem counterHighRead_live (ha : s.addrAnswers addr = true) (hx : placeAt addr = .half c d i true)
    (hv : s.flag (.sys .snapValid) 0 (portCode port) = false ∨ s.get (.sys .snapAddr) 0 (portCode port) ≠ addr - 4) :
    Completes (.counterHighRead port addr) s fun t => t.readData = [s.get c.cell d i % 2 ^ 64 / 2 ^ 32] ∧
      t.flag (.sys .snapValid) 0 (portCode port) = s.flag (.sys .snapValid) 0 (portCode port) := by
  refine completes_of exec_counterHighRead (by simp [hon, isHalf, hx]) ?_
  rw [State.readOne_place hp hq ha hx]
  have hread : ∀ v, s.highRead port addr v = (v / 2 ^ 32, s) := fun v => by
    rw [State.highRead, if_neg (by rcases hv with hv | hv <;> simp [hv, lowAddr_half hx])]
  simp only [State.readPlace, if_true, hread]
  refine ⟨settle_readData, ?_⟩
  rw [flag_settle_of rfl, State.flag]
  exact congrArg (fun v => decide (v ≠ 0)) (s.ctrSeen_snap c.cell _)

theorem timTbNsRead_outcome (hb : b < 4) : Completes (.timTbNsRead port b) s fun t => t.readData = [s.get (.tim .tbNs) 0 b] ∧
    t.flag (.sys .tbLatchValid) 0 (8 * b + portCode port) = true ∧
    t.get (.sys .tbLatchSec) 0 (8 * b + portCode port) = s.get (.tim .tbSec) 0 b ∧
    t.get (.sys .tbLatchFrac) 0 (8 * b + portCode port) = s.get (.tim .tbFrac) 0 b := by
  have hr : s.released 0 = true := by rw [← State.portOn_of_ne_pcie hp]; exact hon
  exact completes_timTbNsRead hp hq hr hb ⟨settle_readData, (flag_settle_of rfl ..).trans State.tbLatch_valid,
    (get_settle_of rfl ..).trans State.tbLatch_sec, (get_settle_of rfl ..).trans State.tbLatch_frac⟩

omit hon hp hq in
/-- MON_FILT_STAT of a filter unit. -/
theorem placeAt_filtStat (hd : d < 8) (hf : f < 4) : placeAt (0x8200410 + 0x1000 * d + 0x40 * f) =
    .reg ⟨.slot 0x200000, 0x410, [(4, 0x40)], [fR 31 31 (.mon .fValid), fR 30 30 (.mon .fTaint), fR 15 0 (.mon .fCount)]⟩ d f := by
  have h : ∀ d < 8, ∀ f < 4, placeAt (0x8200410 + 0x1000 * d + 0x40 * f) = .reg ⟨.slot 0x200000, 0x410, [(4, 0x40)],
      [fR 31 31 (.mon .fValid), fR 30 30 (.mon .fTaint), fR 15 0 (.mon .fCount)]⟩ d f := by decide +kernel
  exact h d hd f hf

theorem monFiltStatRead_outcome (hd : d < 8) (hf : f < 4) (ha : s.addrAnswers (0x8200410 + 0x1000 * d + 0x40 * f) = true) :
    Completes (.monFiltStatRead port d f) s fun t => t.get (.mon .fOutLatched) d f = s.get (.mon .fOut) d f := by
  refine completes_of exec_monFiltStatRead hon ?_
  rw [State.readOne_place hp hq ha (placeAt_filtStat hd hf)]
  exact (get_settle_of rfl ..).trans (State.get_set_self ..)

omit hon hp hq in
/-- The status of a result slot is a register of that slot. -/
theorem placeAt_crcStatus (hk : k < 8) : placeAt (0xB100 + 0x20 * k) =
    .reg ⟨.lead, 0xB100, [(8, 0x20)], [fR 31 29 (.crc .resStatus)]⟩ 0 k := by
  have h : ∀ k < 8, placeAt (0xB100 + 0x20 * k) = .reg ⟨.lead, 0xB100, [(8, 0x20)], [fR 31 29 (.crc .resStatus)]⟩ 0 k := by decide
  exact h k hk

/-- A read of the status of a result slot frees the slot of a job that has ended. -/
theorem crcResultStatusRead_seen (hk : k < 8) (ha : s.addrAnswers (0xB100 + 0x20 * k) = true) {P : State → Prop}
    (hP : ∀ w, P (settle s { s.fldSeen (.crc .resStatus) 0 k with readData := w })) :
    Completes (.crcResultStatusRead port k) s P := by
  refine completes_of exec_crcResultStatusRead hon ?_
  rw [State.readOne_place hp hq ha (placeAt_crcStatus hk)]
  exact hP _

theorem crcResultStatusRead_ended (hk : k < 8) (ha : s.addrAnswers (0xB100 + 0x20 * k) = true) (h1 : 1 ≤ s.crcStatus k)
    (h6 : s.crcStatus k < 6) : Completes (.crcResultStatusRead port k) s fun t =>
      s.crcReusable k = s.flag (.crc .slotRead) 0 k ∧ t.crcReusable k = true := by
  refine crcResultStatusRead_seen hon hp hq hk ha fun w => ⟨by simp [State.crcReusable, h6, show s.crcStatus k ≠ 0 by omega], ?_⟩
  have hseen : s.fldSeen (.crc .resStatus) 0 k = s.set (.crc .slotRead) 0 k 1 := if_pos ⟨h1, h6⟩
  have hread : (settle s { s.set (.crc .slotRead) 0 k 1 with readData := w }).flag (.crc .slotRead) 0 k = true :=
    (flag_settle_of rfl ..).trans (show (s.set (.crc .slotRead) 0 k 1).flag (.crc .slotRead) 0 k = true by simp)
  have hst : (settle s { s.set (.crc .slotRead) 0 k 1 with readData := w }).crcStatus k = s.crcStatus k :=
    settle_crcStatus.trans (show (s.set (.crc .slotRead) 0 k 1).crcStatus k = s.crcStatus k by simp [State.crcStatus])
  rw [hseen, State.crcReusable, hread, hst]
  simp [h6]

theorem crcResultStatusRead_running (hk : k < 8) (ha : s.addrAnswers (0xB100 + 0x20 * k) = true) (h6 : 6 ≤ s.crcStatus k) :
    Completes (.crcResultStatusRead port k) s fun t => t.crcReusable k = false := by
  refine crcResultStatusRead_seen hon hp hq hk ha fun w => ?_
  have hseen : s.fldSeen (.crc .resStatus) 0 k = s := if_neg (by omega)
  have hst : (settle s { s with readData := w }).crcStatus k = s.crcStatus k := settle_crcStatus
  rw [hseen, State.crcReusable, hst]
  simp [show s.crcStatus k ≠ 0 by omega, show ¬ s.crcStatus k < 6 by omega]

end

/-- Settles O53: reads of the host and the SPI target, and what a read by another port latches or frees.  That both halves of
a counter must lie in one entry of the policy is the model's reading (log 44). -/
theorem portReads : Obligations.PortReads := by
  unfold Obligations.PortReads
  exact ⟨fun s addr words count code r d i port => ⟨hostRead_unsupported, hostRead_mailbox, hostRead_denied, hostRead_reg,
      hostRead_beforeRun, spiReadCommand_denied, spiReadCommand_reg, spiOtherCommand_outcome, partialWordAccess_read,
      partialWordAccess_write⟩,
    fun s addr d i f b k c port hon hp hq => ⟨counterLowRead_outcome hon hp hq, counterHighRead_snapshot hon hp hq,
      counterHighRead_live hon hp hq, fun hb _ => timTbNsRead_outcome hon hp hq hb, monFiltStatRead_outcome hon hp hq,
      crcResultStatusRead_ended hon hp hq, crcResultStatusRead_running hon hp hq⟩⟩

end Sys2Proof.Machine
end

section
/-!
A register write of a ticket (R49, R63): refused while a summary condition is about to change.
-/
set_option Elab.async false
namespace Sys2Proof.Machine
open Sys2Proof.Tests

/-- The part runs; a receive path of container 0 of die 0 holds traffic, which HOLD_ANY does not show yet. -/
def runHoldUnshown : State :=
  wSt [(.sys .dieReleased, 0, 0, 255), (.boot .state, 0, 0, bootRun), (.cry .rxState, 0, 0, 1)]

/-- No register stands at address 0xFFFFFFFC, so a delta record that writes there is refused. -/
theorem runHoldUnshown_refuses :
    (runHoldUnshown.ticketFault cmdApplyDelta [] [.write 0xFFFFFFFC 1 1]).isSome = true := by decide +kernel

/-- The refused write still brings HOLD_ANY up to date, which is reported. -/
theorem runHoldUnshown_reports :
    (after (.registerWrite .ticket 0xFFFFFFFC 1 1) runHoldUnshown).reports.length = 2 := by decide +kernel

/-- Refutes O54: a refused ticket write does not leave the reports as they were.  Every command settles the summary
conditions, and where HOLD_ANY comes to hold it is reported. -/
theorem not_registerAccess : ¬ Obligations.RegisterAccess := by
  unfold Obligations.RegisterAccess
  intro h
  obtain ⟨-, -, hticket, -⟩ := h runHoldUnshown 0xFFFFFFFC 1 1 0 0 0 .bootFallback .ticket .almLog
    ⟨.lead, 0, [], .sys .time, .ro, .any⟩ .mgmt
  obtain ⟨-, hreports⟩ := (hticket (by decide +kernel) fun hnone => by
    have := runHoldUnshown_refuses
    rw [hnone] at this
    exact absurd this (by decide)).after
  exact absurd (congrArg List.length hreports) (by rw [runHoldUnshown_reports]; decide)

end Sys2Proof.Machine
end

section
/-!
From the release of the lead die to an accepted image (R38, R41 to R46, R54 to R58, R68).
-/
set_option Elab.async false
namespace Sys2Proof.Machine

variable {s : State} {ok1 ok2 kat ent master msi : Bool} {info : FlashInfo} {slot seg : Nat} {a b : SlotImage} {c : Cell}

theorem exec_leadDieRelease : exec (.leadDieRelease kat ent master msi) s = execLeadDieRelease kat ent master msi s := rfl
theorem exec_flashDiscovery : exec (.flashDiscovery info) s = execFlashDiscovery info s := rfl
theorem exec_imageSegmentRead : exec (.imageSegmentRead slot seg ok1 ok2) s = execImageSegmentRead slot seg ok1 ok2 s := rfl
theorem exec_restartWaitExpiry : exec .restartWaitExpiry s = execRestartWaitExpiry s := rfl

-- A start-up that fails (R58).

/-- The cells of the latched error. -/
abbrev errorCell : Cell → Bool
  | .boot c => match c with
    | .errCode | .detail | .errDie | .errAddr => true
    | _ => false
  | _ => false

/-- What follows the latch of an error leaves it. -/
theorem State.startFail_error (h : errorCell c = true) (code detail die addr k j : Nat) :
    (s.startFail code detail die addr).get c k j = (s.latchError code detail die addr).get c k j := by
  unfold State.startFail
  dsimp only
  set u := s.latchError code detail die addr with hu
  have h1 : Reach (outside errorCell) (fun _ => true) u (u.when (s.flag (.boot .phaseRun) 0 0) State.phaseStop) :=
    State.when_reach Reach.refl fun x hx => by apply State.phaseStop_reach hx <;> intros <;> rfl
  have h2 : Reach (outside errorCell) (fun _ => true) u
      ((u.when (s.flag (.boot .phaseRun) 0 0) State.phaseStop).each (List.range 12) fun s k =>
        s.set (.boot .procCalled) 0 k 0) := State.each_reach h1 fun x k hx => State.set_reach hx rfl
  set v := (u.when (s.flag (.boot .phaseRun) 0 0) State.phaseStop).each (List.range 12) fun s k => s.set (.boot .procCalled) 0 k 0
  have hdark : ∀ w : State, w.goDark.get c k j = w.get c k j := fun w =>
    Reach.get_in (by apply State.goDark_reach Reach.refl <;> intros <;> rfl) h ..
  have hv : ({ v with run := none } : State).goDark.get c k j = u.get c k j := (hdark _).trans (Reach.get_in h2 h ..)
  set x := ({ v with run := none } : State).goDark with hx
  rw [← hv]
  split
  · exact Reach.get_in (g := errorCell) (State.set_reach (by
      apply State.raise_reach (by apply State.triesUp_reach Reach.refl <;> intros <;> rfl) <;> intros <;> rfl) rfl) h ..
  · exact Reach.get_in (g := errorCell) (State.set_reach (State.set_reach Reach.refl rfl) rfl) h ..

/-- The detail of the latched error. -/
theorem State.startFail_detail (code detail die addr : Nat) :
    (s.startFail code detail die addr).get (.boot .detail) 0 0 = detail := by
  rw [State.startFail_error rfl]
  simp [State.latchError]

-- The lead die (R54, R56).

/-- The cells of start-up that the training of the PCIe link leaves. -/
theorem State.linkTrain_kept (h : c ≠ .sys .pcieUp ∧ c ≠ .sys .busMaster ∧ c ≠ .sys .msiEn) (k j : Nat) :
    (s.linkTrain master msi).get c k j = s.get c k j := by
  obtain ⟨ha, hb, hc⟩ := h
  unfold State.linkTrain
  split
  · simp [State.setB, ha, hb, hc]
  · rfl

/-- The lead die runs its boot loader, with its fuses and self-tests read. -/
def State.leadRuns (s : State) (kat ent master msi : Bool) : State :=
  (((((((((((s.set (.sys .dieReleased) 0 0 1).set (.boot .state) 0 0 bootRom).setB (.boot .katPass) 0 0 kat).setB
    (.boot .entropyPass) 0 0 ent).set (.boot .fuseSvn) 0 0 (s.get (.sys .fuseSvn) 0 0)).setB (.sbg .lifecycle) 0 0
    (s.flag (.sys .fuseOwned) 0 0)).setB (.sbg .rngOk) 0 0 ent).set (.sbg .keysReady) 0 0 1).linkTrain master msi).set
    (.live .clkAFreewheel) 0 0 1).set (.live .clkBFreewheel) 0 0 1)

theorem State.leadRuns_facts : (s.leadRuns kat ent master msi).get (.sys .dieReleased) 0 0 = 1 ∧
    (s.leadRuns kat ent master msi).bootState = bootRom ∧
    (s.leadRuns kat ent master msi).flag (.ao .flashReleased) 0 0 = s.flag (.ao .flashReleased) 0 0 ∧
    (s.leadRuns kat ent master msi).flag (.live .bootFlashHeld) 0 0 = s.flag (.live .bootFlashHeld) 0 0 := by
  simp [State.leadRuns, State.bootState, State.flag, State.setB, State.linkTrain_kept]

/-- LEAD_DIE_RELEASE at its place in start-up. -/
theorem completes_leadDieRelease {P : State → Prop} (h2 : s.get (.boot .step) 0 0 = 2) (h0 : s.released 0 = false)
    (hr : s.flag (.sys .sysRstN) 0 0 = true) (hg : s.flag (.sys .railsGood) 0 0 = true) (hp : s.poweredOff = false)
    (hP : P (settle s (if kat && ent then
      if ((s.leadRuns kat ent master msi).set (.boot .step) 0 0 3).flag (.ao .flashReleased) 0 0 then
        (((s.leadRuns kat ent master msi).set (.boot .step) 0 0 3).set (.boot .state) 0 0 bootFlash).raise .bootFlashHeld 0 0
      else (s.leadRuns kat ent master msi).set (.boot .step) 0 0 3
    else (s.leadRuns kat ent master msi).startFail errSelftest noDetail 0 0))) :
    Completes (.leadDieRelease kat ent master msi) s P :=
  completes_of exec_leadDieRelease (by simp [h2, h0, hr, hg, hp]) hP

section
variable (h2 : s.get (.boot .step) 0 0 = 2) (h0 : s.released 0 = false) (hr : s.flag (.sys .sysRstN) 0 0 = true)
  (hg : s.flag (.sys .railsGood) 0 0 = true) (hp : s.poweredOff = false)
include h2 h0 hr hg hp

theorem leadDieRelease_starts (hk : kat = true) (he : ent = true) : Completes (.leadDieRelease kat ent master msi) s fun t =>
    t.get (.sys .dieReleased) 0 0 = 1 ∧ t.get (.boot .step) 0 0 = 3 ∧
      t.bootState = (if s.flag (.ao .flashReleased) 0 0 then bootFlash else bootRom) ∧
      t.flag (.live .bootFlashHeld) 0 0 = (s.flag (.ao .flashReleased) 0 0 || s.flag (.live .bootFlashHeld) 0 0) := by
  subst hk he
  apply completes_leadDieRelease h2 h0 hr hg hp
  obtain ⟨hrel, hst, hflash, hheld⟩ := s.leadRuns_facts (kat := true) (ent := true) (master := master) (msi := msi)
  set u := s.leadRuns true true master msi with hu
  have hpin : (u.set (.boot .step) 0 0 3).flag (.ao .flashReleased) 0 0 = s.flag (.ao .flashReleased) 0 0 := by
    simpa using hflash
  rw [Bool.true_and, if_pos rfl]
  cases hb : s.flag (.ao .flashReleased) 0 0
  · rw [if_neg (by simp [hpin, hb])]
    refine ⟨by simpa using hrel, by simp, (get_settle_of rfl ..).trans ?_, (flag_settle_of rfl ..).trans ?_⟩
    · simpa [State.bootState] using hst
    · simpa using hheld
  · rw [if_pos (by simp [hpin, hb])]
    refine ⟨by simpa using hrel, by simp, (get_settle_of rfl ..).trans (by simp), (flag_settle_of rfl ..).trans (by simp)⟩

theorem leadDieRelease_fails (hk : (kat && ent) = false) : Completes (.leadDieRelease kat ent master msi) s fun t =>
    t.bootState = bootFailed ∧ t.get (.boot .errCode) 0 0 = errSelftest ∧ t.get (.boot .detail) 0 0 = noDetail := by
  apply completes_leadDieRelease h2 h0 hr hg hp
  obtain ⟨-, hst, -⟩ := s.leadRuns_facts (kat := kat) (ent := ent) (master := master) (msi := msi)
  rw [if_neg (by simp [hk])]
  obtain ⟨hfailed, hcode⟩ := State.startFail_failed (by rw [hst]; decide) errSelftest noDetail 0 0
  exact ⟨(get_settle_of rfl ..).trans hfailed, (get_settle_of rfl ..).trans hcode,
    (get_settle_of rfl ..).trans (State.startFail_detail ..)⟩

end

-- Flash (R38, R43).

section
variable (hf : s.readsFlash = true)
include hf

section
variable (hm : s.get (.boot .flashMode) 0 0 = 0)
include hm

theorem flashDiscovery_finds (he : info.erase4k = true) : Completes (.flashDiscovery info) s fun t =>
    t.bootState = bootFlash ∧ t.get (.boot .flashMode) 0 0 = (if info.octal then 1 else 2) ∧
      t.flag (.live .bootSlowFlash) 0 0 = !info.octal := by
  refine completes_of exec_flashDiscovery (by simp [hf, hm]) ?_
  dsimp only
  rw [if_pos he]
  exact ⟨by simp [State.bootState], by simp, by rw [flag_settle_of rfl, State.flag_cond_live]⟩

theorem flashDiscovery_fails (he : info.erase4k = false) : Completes (.flashDiscovery info) s fun t =>
    t.bootState = bootFailed ∧ t.get (.boot .errCode) 0 0 = errFlash := by
  refine completes_of exec_flashDiscovery (by simp [hf, hm]) ?_
  dsimp only
  rw [if_neg (by simp [he])]
  have hst : (((s.set (.boot .state) 0 0 bootFlash).set (.boot .flashMode) 0 0 (if info.octal then 1 else 2)).cond
      .bootSlowFlash 0 0 (!info.octal)).bootState = bootFlash := by simp [State.bootState]
  obtain ⟨hfailed, hcode⟩ := State.startFail_failed (by rw [hst]; decide) errFlash noDetail 0 0
  exact ⟨(get_settle_of rfl ..).trans hfailed, (get_settle_of rfl ..).trans hcode⟩

end

section
variable (hm : s.get (.boot .flashMode) 0 0 ≠ 0)
include hm

theorem imageSegmentRead_outcome : Completes (.imageSegmentRead slot seg ok1 ok2) s fun t =>
    bit (t.get (.boot .segRead) 0 0) (4 * (slot - 1) + (seg - 1)) = true ∧
      bit (t.get (.boot .segCrcBad) 0 0) (4 * (slot - 1) + (seg - 1)) = (!ok1 && !ok2) ∧
      t.get (.boot .nFlashReread) 0 0 =
        (if ok1 then s.get (.boot .nFlashReread) 0 0 else (s.get (.boot .nFlashReread) 0 0 + 1) % Counter.size) := by
  refine completes_of exec_imageSegmentRead (by simp [hf, hm]) ?_
  have hwhen : ∀ (u : State) (x : Bool) {c : Cell}, c ≠ .boot .state →
      (u.when x fun s => s.set (.boot .state) 0 0 bootVerify).get c 0 0 = u.get c 0 0 := fun u x c h => by
    cases x <;> simp [h]
  refine ⟨?_, ?_, ?_⟩
  · rw [get_settle_of rfl, hwhen _ _ (by simp)]
    simp [bit_putBit]
  · rw [get_settle_of rfl, hwhen _ _ (by simp)]
    simp [bit_putBit]
  · rw [get_settle_of rfl, hwhen _ _ (by simp)]
    cases ok1 <;> simp [State.incIf, Counter.size]

-- Images (R40 to R45, R65).

omit hf hm in
/-- The ticket counter of an accepted image starts at its floor, or at the journal's last entry. -/
theorem State.imageAccept_header (j : SlotImage) (slot : Nat) : (s.imageAccept j slot).get (.boot .imageVersion) 0 0 = j.version ∧
    (s.imageAccept j slot).get (.boot .nodeHdr) 0 0 = j.node ∧ (s.imageAccept j slot).flag (.sys .fuseOwned) 0 0 = true ∧
    (s.imageAccept j slot).get (.tkt .ctrLast) 0 0 = max j.ticketFloor (s.get (.tkt .ceiling) 0 0) := by
  have herase : ∀ (u : State) (x : Bool) {c : Cell}, c ≠ .tkt .jBlank → c ≠ .tkt .jErasing → c ≠ .tkt .jEraseWait →
      (u.when x State.journalErase).get c 0 0 = u.get c 0 0 := fun u x c h1 h2 h3 => by
    cases x
    · rfl
    · simp only [State.when_true, State.journalErase]
      split <;> simp [h1, h2, h3]
  have hkeys : ∀ (u : State) (m : Nat → Nat) {c : Cell}, c ≠ .tkt .keyMask →
      (u.each (List.range 8) fun s k => s.set (.tkt .keyMask) 0 (k + 1) (m k)).get c 0 0 = u.get c 0 0 :=
    fun u m c h => State.get_each_absent fun k _ x => by simp [h]
  simp [State.imageAccept, State.flag, herase, hkeys]

theorem imageVerify_accepts (ha : s.candidate a 1 = true) (hb : s.candidate b 2 = false) (hn : s.imageFault a = none) :
    Completes (.imageVerify a b) s fun t => t.bootState = bootPhases ∧ t.get (.boot .slot) 0 0 = 1 ∧
      t.get (.boot .imageVersion) 0 0 = a.version ∧ t.get (.boot .nodeHdr) 0 0 = a.node ∧
      t.flag (.sys .fuseOwned) 0 0 = true ∧ t.get (.tkt .ctrLast) 0 0 = max a.ticketFloor (s.get (.tkt .ceiling) 0 0) := by
  rw [← State.imageFault_setState bootVerify] at hn
  apply completes_imageVerify hf hm (State.imageOrder_first ha hb)
  have htry : (s.set (.boot .state) 0 0 bootVerify).tryImages true [(a, 1)] =
      (s.set (.boot .state) 0 0 bootVerify).imageAccept a 1 := by simp [State.tryImages, hn]
  rw [htry]
  obtain ⟨hv, hnode, hown, hctr⟩ := (s.set (.boot .state) 0 0 bootVerify).imageAccept_header a 1
  exact ⟨(get_settle_of rfl ..).trans (State.imageAccept_state ..), (get_settle_of rfl ..).trans (State.imageAccept_slot ..),
    (get_settle_of rfl ..).trans hv, (get_settle_of rfl ..).trans hnode, (flag_settle_of rfl ..).trans hown,
    (get_settle_of rfl ..).trans (hctr.trans (by simp))⟩

theorem imageVerify_newer (ha : s.candidate a 1 = true) (hb : s.candidate b 2 = true) (hv : a.version < b.version)
    (hn : s.imageFault b = none) : Completes (.imageVerify a b) s fun t => t.bootState = bootPhases ∧
      t.get (.boot .slot) 0 0 = 2 ∧ t.flag (.live .bootFallback) 0 0 = s.flag (.live .bootFallback) 0 0 := by
  rw [← State.imageFault_setState bootVerify] at hn
  apply completes_imageVerify hf hm (State.imageOrder_newer ha hb hv)
  have htry : (s.set (.boot .state) 0 0 bootVerify).tryImages true [(b, 2), (a, 1)] =
      (s.set (.boot .state) 0 0 bootVerify).imageAccept b 2 := by simp [State.tryImages, hn]
  rw [htry]
  exact ⟨(get_settle_of rfl ..).trans (State.imageAccept_state ..), (get_settle_of rfl ..).trans (State.imageAccept_slot ..),
    (flag_settle_of rfl ..).trans ((State.imageAccept_fallback ..).trans (by simp))⟩

theorem imageVerify_falls (ha : s.candidate a 1 = true) (hb : s.candidate b 2 = true) (hv : a.version < b.version)
    (hb' : s.imageFault b ≠ none) (ha' : s.imageFault a = none) : Completes (.imageVerify a b) s fun t =>
      t.bootState = bootPhases ∧ t.get (.boot .slot) 0 0 = 1 ∧ t.flag (.live .bootFallback) 0 0 = true := by
  obtain ⟨e, he⟩ := Option.ne_none_iff_exists'.mp hb'
  exact imageVerify_fellBack hf hm (State.imageOrder_newer ha hb hv) he ha'

theorem imageVerify_none (ha : s.candidate a 1 = false) (hb : s.candidate b 2 = false) : Completes (.imageVerify a b) s fun t =>
    t.bootState = bootFailed ∧ t.get (.boot .errCode) 0 0 = s.noCandidate a b := by
  have horder : s.imageOrder a b = [] := by
    unfold State.imageOrder
    split <;> simp [ha, hb]
  refine completes_of (exec_imageVerify a b) (by simp [hf, hm]) ?_
  simp only [State.imageOrder_setState, horder]
  have hst : ((s.set (.boot .state) 0 0 bootVerify).set (.boot .slot) 0 0 0).bootState ≠ bootPhases := by
    simp [State.bootState, bootVerify, bootPhases]
  have hno : (s.set (.boot .state) 0 0 bootVerify).noCandidate a b = s.noCandidate a b := by
    simp [State.noCandidate]
  obtain ⟨hfailed, hcode⟩ := State.startFail_failed hst ((s.set (.boot .state) 0 0 bootVerify).noCandidate a b) noDetail 0 0
  exact ⟨(get_settle_of rfl ..).trans hfailed, (get_settle_of rfl ..).trans (hcode.trans hno)⟩

end
end

theorem restartWaitExpiry_outcome (h : s.bootState = bootRestartWait) : Completes .restartWaitExpiry s fun t =>
    t.bootState = bootPor ∧ t.get (.boot .step) 0 0 = 2 ∧ t.get (.sys .dieReleased) 0 0 = 0 ∧
      t.flag (.live .bootRestarted) 0 0 = true := by
  refine completes_of exec_restartWaitExpiry (by simp [h]) ?_
  obtain ⟨hst, hstep, -⟩ := s.restart_facts
  have hrel : s.restart.get (.sys .dieReleased) 0 0 = 0 := by
    rw [State.get_restart (by simp)]
    exact State.diesReset_clears rfl rfl rfl
  exact ⟨(get_settle_of rfl ..).trans (by simpa [State.bootState] using hst), by simpa using hstep, by simpa using hrel,
    by simp⟩

/-- Settles O55: the lead die, flash, the choice of the image and the end of RESTART_WAIT.  That BOOT_RESTARTED is live after
RESTART_WAIT_EXPIRY is the model's choice (log 17). -/
theorem startupAndImages : Obligations.StartupAndImages := by
  unfold Obligations.StartupAndImages
  exact fun s kat ent master msi info slot seg ok1 ok2 a b => ⟨leadDieRelease_starts, leadDieRelease_fails,
    flashDiscovery_finds, flashDiscovery_fails, fun hf hm _ _ _ _ => imageSegmentRead_outcome hf hm,
    imageVerify_accepts, imageVerify_newer, imageVerify_falls, imageVerify_none, restartWaitExpiry_outcome⟩

end Sys2Proof.Machine
end

section

/-! ### Records of the image

A write that clears BELL_EN lets a waiting restart follow, and a restart leaves the phases.
-/

set_option Elab.async false
namespace Sys2Proof.Machine
open Sys2Proof.Tests

/-- A die in the image's phases, with a record's turn, whose Bell channel is on and for which a restart waits. -/
def restartWaitsInPhases : State :=
  wSt [(.sys .aoOn, 0, 0, 1), (.sys .railsGood, 0, 0, 1), (.sys .dieReleased, 0, 0, 255),
    (.boot .state, 0, 0, bootPhases), (.boot .phaseRun, 0, 0, 1), (.boot .phaseBudget, 0, 0, 1),
    (.boot .phase, 0, 0, 3), (.sys .restartPend, 0, 0, 1)]

/-- BELL_EN of carrier 0 lies in bit 0 of the word at 0x8100000: clearing it runs the restart. -/
theorem restartWaitsInPhases_leaves :
    (after (.recordWrite 0x8100000 1 0) restartWaitsInPhases).bootState ≠ bootPhases := by decide +kernel

/-- Refutes O56: a record that the part executes does not always leave it in the phases.  Where a restart waits for
the Bell channel, a record that clears BELL_EN starts it. -/
theorem not_phasesAndRecords : ¬ Obligations.PhasesAndRecords := by
  unfold Obligations.PhasesAndRecords
  intro h
  obtain ⟨-, -, -, -, -, hwrite, -⟩ := h restartWaitsInPhases 0 0 0 0 0x8100000 1 0 0 0 0 0 0 0 0 0 [] [] true
  obtain ⟨hphases, -⟩ := (hwrite (by decide +kernel) (by decide) (by decide +kernel) (by decide +kernel)
    (by decide +kernel) (.inr (by decide +kernel)) (by decide +kernel) (by decide +kernel)).after
  exact restartWaitsInPhases_leaves hphases

end Sys2Proof.Machine
end

section

/-! ### Checks and effects of tickets

No word of a ticket is bounded, and KICKSTAND_LEAVE does not ask that the carriers it names are present.
-/

set_option Elab.async false
namespace Sys2Proof.Machine
open Sys2Proof.Tests

/-- Refutes O58: an accepted ticket does not always leave its own counter in TKT_CTR_LAST.  The counter 2^64 + 101 is
not bounded by 64 bits, and the delta record that writes TKT_CTR_LAST's upper half under an empty mask leaves 101. -/
theorem not_ticketChecks : ¬ Obligations.TicketChecks := by
  unfold Obligations.TicketChecks
  rintro ⟨hrun, -⟩
  obtain ⟨-, -, -, -, -, -, -, haccept⟩ := hrun wideState (tkTk wideWords) (tkIn wideWords) [.write 0x200C 0 0] ⟨0, 0, 0⟩
    (.applyDelta, fun c _ => decide (c = cmdApplyDelta)) (by simp [ticketRows]) (by decide +kernel) (by decide +kernel)
    (by decide +kernel)
  obtain ⟨-, -, -, hcounter, -⟩ := (haccept wideState_passes (by decide) (by decide) (by decide)).after
  have hctr : (101 : Nat) = (tkIn wideWords).counter := wideNext_ctrLast.symm.trans hcounter
  exact absurd hctr (by decide)

/-- The words of a KICKSTAND_LEAVE ticket that names carrier 1. -/
def leaveWords : List Nat := tkWords 7 0 [2] 0 []

/-- That ticket at the front where die 1 is absent, yet its stage reads GATED with the ticket as a wake source. -/
def absentGated : State :=
  tkSt leaveWords [(.sys .diePresent, 0, 0, 1), (.pwr .stage, 1, 0, ksGated), (.pwr .wakeEn, 1, 0, 8)]

/-- Refutes O59: KICKSTAND_LEAVE checks no presence, and a carrier that is absent does not count as released. -/
theorem not_ticketEffects : ¬ Obligations.TicketEffects := by
  unfold Obligations.TicketEffects
  intro h
  obtain ⟨-, -, -, -, -, -, -, -, -, -, -, -, -, -, -, -, -, -, -, -, hleave, -⟩ :=
    h absentGated (tkTk leaveWords) (tkIn leaveWords) [] (.sys .time) 1 0 0 0 0 0 0 0 .qsDrainDisc ⟨.lead, 0, 0, 0, .cfgT, [], []⟩
      (passes_none (by decide +kernel))
  obtain ⟨-, hreleased, -⟩ := (hleave (by decide) (by decide) (by decide) (by decide +kernel) (by decide +kernel)
    (by decide +kernel)).after
  exact absurd hreleased (by decide +kernel)

end Sys2Proof.Machine
end

section
/-!
Submission and fetch of tickets, the journal's erase, and the waits of records (R48, R60, R61, R63, R66).
-/
set_option Elab.async false
namespace Sys2Proof.Machine

variable {s : State} {value entryLen n c x m v code record counter : Nat} {ok b : Bool} {args : List Nat} {l : List Rec}

theorem exec_journalEraseDone : exec .journalEraseDone s = execJournalEraseDone s := rfl
theorem exec_ticketGoWrite : exec (.ticketGoWrite value) s = execTicketGoWrite value s := rfl
theorem exec_ticketRingTailWrite : exec (.ticketRingTailWrite value) s = execTicketRingTailWrite value s := rfl
theorem exec_ticketFetchDone : exec (.ticketFetchDone entryLen ok) s = execTicketFetchDone entryLen ok s := rfl
theorem exec_waitUsExpiry : exec .waitUsExpiry s = execWaitUsExpiry s := rfl
theorem exec_pollUntilMatch : exec .pollUntilMatch s = execPollUntilMatch s := rfl
theorem exec_pollUntilTimeout : exec .pollUntilTimeout s = execPollUntilTimeout s := rfl
theorem exec_ticketExecTimeout : exec .ticketExecTimeout s = execTicketExecTimeout s := rfl

-- A ticket that completes.

/-- Its status, its record and the queue without it; nothing runs any more. -/
theorem State.ticketDone_facts : (s.ticketDone code record counter).get (.tkt .lastCode) 0 0 = code ∧
    (s.ticketDone code record counter).get (.tkt .lastRecord) 0 0 = record ∧
    (s.ticketDone code record counter).tickets = s.tickets.tail ∧ (s.ticketDone code record counter).run = none := by
  unfold State.ticketDone
  dsimp only
  split <;> split <;> refine ⟨?_, ?_, ?_, ?_⟩ <;> simp

/-- A ring ticket moves the ring's head. -/
theorem State.ticketDone_ringHead {k : Nat} {r : List TktSrc} (h : s.tickets = .ring k :: r) :
    (s.ticketDone code record counter).get (.tkt .ringHead) 0 0 = (s.get (.tkt .ringHead) 0 0 + 1) % 2 ^ 32 := by
  unfold State.ticketDone
  simp [h]

-- The journal (R66).

theorem journalEraseDone_outcome (h : s.flag (.tkt .jErasing) 0 0 = true) : Completes .journalEraseDone s fun t =>
    t.flag (.tkt .jErasing) 0 0 = false ∧ t.flag (.tkt .jBlank) 0 0 = true ∧
      t.get (.tkt .nJournalErase) 0 0 = (s.get (.tkt .nJournalErase) 0 0 + 1) % Counter.size :=
  completes_of exec_journalEraseDone h (by simp [State.eraseEnd, Counter.size])

-- The mailbox and the ring (R60, R61).

section
variable (hbus : s.hostBus = true)
include hbus

theorem ticketGoWrite_takes (hb : s.flag (.tkt .mboxBusy) 0 0 = false) (hr : s.inRun = true) :
    Completes (.ticketGoWrite value) s fun t => t.flag (.tkt .mboxBusy) 0 0 = true ∧ t.get (.tkt .mboxLen) 0 0 = value ∧
      t.tickets = s.tickets ++ [.mailbox] := by
  refine completes_of exec_ticketGoWrite hbus ?_
  simp [State.goWrite, State.takesTicket, hb, hr]

theorem ticketGoWrite_rejects (hb : s.flag (.tkt .mboxBusy) 0 0 = true) (hr : s.flag (.tkt .rejHeld) 0 0 = false) :
    Completes (.ticketGoWrite value) s fun t => t.get (.tkt .hostWrRejAddr) 0 0 = 0x20000 ∧ t.tickets = s.tickets ∧
      t.get (.tkt .nHostWrRej) 0 0 = (s.get (.tkt .nHostWrRej) 0 0 + 1) % Counter.size := by
  refine completes_of exec_ticketGoWrite hbus ?_
  simp [State.goWrite, State.rejectWrite, hb, hr, Counter.size]

theorem ticketGoWrite_notReady (hb : s.flag (.tkt .mboxBusy) 0 0 = false) (hr : s.takesTicket = false) :
    Completes (.ticketGoWrite value) s fun t => t.get (.tkt .lastCode) 0 0 = stNotReady ∧ t.tickets = s.tickets ∧
      t.get (.tkt .nRejected) 0 0 = (s.get (.tkt .nRejected) 0 0 + 1) % Counter.size := by
  refine completes_of exec_ticketGoWrite hbus ?_
  simp [State.goWrite, hb, hr, Counter.size]

theorem ticketRingTailWrite_takes (hs : s.get (.tkt .ringSize) 0 0 ≠ 0) (hr : s.inRun = true)
    (ht : s.tailOk (value % 2 ^ 32) = true) : Completes (.ticketRingTailWrite value) s fun t =>
      t.get (.tkt .ringTail) 0 0 = value % 2 ^ 32 ∧
        t.tickets.length = s.tickets.length + (value % 2 ^ 32 + 2 ^ 32 - s.get (.tkt .ringTail) 0 0) % 2 ^ 32 := by
  refine completes_of exec_ticketRingTailWrite hbus ?_
  unfold State.tailWrite
  dsimp only
  rw [if_neg (by simp only [hs, hr, ht]; decide)]
  simp

theorem ticketRingTailWrite_refuses
    (h : s.get (.tkt .ringSize) 0 0 = 0 ∨ s.inRun = false ∨ s.tailOk (value % 2 ^ 32) = false) :
    Completes (.ticketRingTailWrite value) s fun t => t.get (.tkt .ringTail) 0 0 = s.get (.tkt .ringTail) 0 0 ∧
      t.tickets = s.tickets ∧ t.get (.tkt .nRingBad) 0 0 = (s.get (.tkt .nRingBad) 0 0 + 1) % Counter.size := by
  refine completes_of exec_ticketRingTailWrite hbus ?_
  unfold State.tailWrite
  dsimp only
  rw [if_pos (by simpa using h)]
  simp [Counter.size]

end

-- The fetch (R61, R63 check 2).

section
variable (hturn : s.fetchTurn = true)
include hturn

theorem State.fetchTurn_ring : ∃ k r, s.tickets = .ring k :: r := by
  unfold State.fetchTurn at hturn
  split at hturn
  · exact ⟨_, _, ‹_›⟩
  · simp at hturn

theorem ticketFetchDone_fetches (hl : ticketLenOk entryLen = true) (hch : s.flag (.crr .chEn) 0 4 = true)
    (hup : s.flag (.sys .pcieUp) 0 0 = true) (hm : s.flag (.sys .busMaster) 0 0 = true) (hf : s.get (.tkt .fetched) 0 0 = 0) :
    Completes (.ticketFetchDone entryLen true) s fun t =>
      t.get (.tkt .fetched) 0 0 = 1 ∧ t.get (.tkt .fetchLen) 0 0 = entryLen ∧ t.tickets = s.tickets := by
  refine completes_of exec_ticketFetchDone hturn ?_
  simp [hl, hch, hup, hm, hf]

theorem ticketFetchDone_badLength (hl : ticketLenOk entryLen = false) :
    Completes (.ticketFetchDone entryLen ok) s fun t => t.get (.tkt .lastCode) 0 0 = stFormat ∧ t.tickets = s.tickets.tail ∧
      t.get (.tkt .ringHead) 0 0 = (s.get (.tkt .ringHead) 0 0 + 1) % 2 ^ 32 := by
  refine completes_of exec_ticketFetchDone hturn ?_
  rw [if_pos (by simp [hl])]
  obtain ⟨hcode, -, htickets, -⟩ := s.ticketDone_facts (code := stFormat) (record := noRecord) (counter := 0)
  obtain ⟨k, r, hring⟩ := State.fetchTurn_ring hturn
  exact ⟨(get_settle_of rfl ..).trans hcode, settle_tickets.trans htickets,
    (get_settle_of rfl ..).trans (State.ticketDone_ringHead hring)⟩

theorem ticketFetchDone_fails (hl : ticketLenOk entryLen = true) :
    Completes (.ticketFetchDone entryLen false) s fun t => t.get (.tkt .lastCode) 0 0 = stFetch ∧
      t.tickets = s.tickets.tail := by
  refine completes_of exec_ticketFetchDone hturn ?_
  rw [if_neg (by simp [hl]), if_neg (by simp)]
  obtain ⟨hcode, -, htickets, -⟩ := s.ticketDone_facts (code := stFetch) (record := noRecord) (counter := 0)
  exact ⟨(get_settle_of rfl ..).trans hcode, settle_tickets.trans htickets⟩

end

-- The waits of records (R48, R63).

theorem waitUsExpiry_image (h : s.run = some ⟨false, [], n, .us, 0, []⟩) : Completes .waitUsExpiry s fun t =>
    t.run = none ∧ t.get (.boot .recIndex) 0 0 = s.get (.boot .recIndex) 0 0 + 1 := by
  refine completes_finish (by rw [exec_waitUsExpiry, execWaitUsExpiry, h]) ?_
  simp [State.runOn, State.recordDone]

theorem waitUsExpiry_ticket (h : s.run = some ⟨true, [], n, .us, cmdApplyDelta, args⟩) : Completes .waitUsExpiry s fun t =>
    t.run = none ∧ t.get (.tkt .lastCode) 0 0 = stAccepted ∧ t.get (.tkt .lastRecord) 0 0 = noRecord ∧
      t.tickets = s.tickets.tail := by
  refine completes_finish (by rw [exec_waitUsExpiry, execWaitUsExpiry, h]) ?_
  have hend : s.runOn ⟨true, [], n, .us, cmdApplyDelta, args⟩ = State.ticketDone { s with run := none } stAccepted noRecord
      (State.get { s with run := none } (.tkt .ctrLast) 0 0) := rfl
  rw [hend]
  obtain ⟨hcode, hrecord, htickets, hrun⟩ := State.ticketDone_facts (s := { s with run := none }) (code := stAccepted)
    (record := noRecord) (counter := State.get { s with run := none } (.tkt .ctrLast) 0 0)
  exact ⟨settle_run.trans hrun, (get_settle_of rfl ..).trans hcode, (get_settle_of rfl ..).trans hrecord,
    settle_tickets.trans htickets⟩

theorem State.recRead_recIndex : (s.recRead x).2.get (.boot .recIndex) 0 0 = s.get (.boot .recIndex) 0 0 :=
  Reach.get_eq (by apply State.recRead_reach Reach.refl <;> intros <;> rfl) ..

theorem pollUntilMatch_image (h : s.run = some ⟨false, [], n, .poll x m v, 0, []⟩) (hm : s.pollMatches x m v = true) :
    Completes .pollUntilMatch s fun t => t.run = none ∧
      t.get (.boot .recIndex) 0 0 = s.get (.boot .recIndex) 0 0 + 1 := by
  refine completes_of (b := s.pollMatches x m v)
    (f := fun s => (s.recRead x).2.runOn ⟨false, [], n, .poll x m v, 0, []⟩)
    (by rw [exec_pollUntilMatch, execPollUntilMatch, h]) hm ?_
  simp [State.runOn, State.recordDone, State.recRead_recIndex]

theorem State.goDark_run : s.goDark.run = s.run :=
  Reach.part_eq (p := .run) (by apply State.goDark_reach Reach.refl <;> intros <;> rfl)

/-- A start-up that fails in the phases waits for its restart; no record runs any more. -/
theorem State.startFail_waits (h : s.bootState = bootPhases) (code detail die addr : Nat) :
    (s.startFail code detail die addr).bootState = bootRestartWait ∧ (s.startFail code detail die addr).run = none := by
  unfold State.startFail
  simp only [h, decide_true, if_true]
  constructor
  · simp [State.bootState]
  · have hlast : ∀ u : State, ((u.triesUp.raise .bootRestarted 0 0).set (.boot .state) 0 0 bootRestartWait).run = u.run :=
      fun u => Reach.part_eq (p := .run) (State.set_reach (State.raise_reach (by
        apply State.triesUp_reach Reach.refl <;> intros <;> rfl) (fun _ => rfl) (fun _ => rfl) rfl) rfl)
    exact (hlast _).trans State.goDark_run

theorem pollUntilTimeout_image (h : s.run = some ⟨false, [], n, .poll x m v, 0, []⟩) (hm : s.pollMatches x m v = false)
    (hp : s.bootState = bootPhases) : Completes .pollUntilTimeout s fun t => t.bootState = bootRestartWait ∧
      t.get (.boot .errCode) 0 0 = errPollTimeout ∧ t.get (.boot .errAddr) 0 0 = x ∧ t.run = none := by
  refine completes_of (b := !s.pollMatches x m v) (f := fun s => s.runLate ⟨false, [], n, .poll x m v, 0, []⟩ x)
    (by rw [exec_pollUntilTimeout, execPollUntilTimeout, h]) (by simp [hm]) ?_
  have hfail : s.runLate ⟨false, [], n, .poll x m v, 0, []⟩ x =
      s.startFail errPollTimeout (s.get (.boot .recIndex) 0 0) (accessDie x) x := rfl
  rw [hfail]
  obtain ⟨hstate, hrun⟩ := State.startFail_waits hp errPollTimeout (s.get (.boot .recIndex) 0 0) (accessDie x) x
  refine ⟨(get_settle_of rfl ..).trans hstate, (get_settle_of rfl ..).trans ((State.startFail_error rfl ..).trans ?_),
    (get_settle_of rfl ..).trans ((State.startFail_error rfl ..).trans ?_), settle_run.trans hrun⟩ <;> simp [State.latchError]

theorem State.runLate_ticket (w : Wait) (addr : Nat) :
    s.runLate ⟨true, l, n, w, c, args⟩ addr = s.ticketDone stTimeout n (s.get (.tkt .ctrLast) 0 0) := rfl

theorem settle_timeout : (settle s (s.ticketDone stTimeout n counter)).get (.tkt .lastCode) 0 0 = stTimeout ∧
    (settle s (s.ticketDone stTimeout n counter)).get (.tkt .lastRecord) 0 0 = n ∧
    (settle s (s.ticketDone stTimeout n counter)).tickets = s.tickets.tail ∧
    (settle s (s.ticketDone stTimeout n counter)).run = none := by
  obtain ⟨hcode, hrecord, htickets, hrun⟩ := s.ticketDone_facts (code := stTimeout) (record := n) (counter := counter)
  exact ⟨(get_settle_of rfl ..).trans hcode, (get_settle_of rfl ..).trans hrecord, settle_tickets.trans htickets,
    settle_run.trans hrun⟩

theorem pollUntilTimeout_ticket (h : s.run = some ⟨true, l, n, .poll x m v, c, args⟩) (hm : s.pollMatches x m v = false) :
    Completes .pollUntilTimeout s fun t => t.get (.tkt .lastCode) 0 0 = stTimeout ∧ t.get (.tkt .lastRecord) 0 0 = n ∧
      t.tickets = s.tickets.tail ∧ t.run = none := by
  refine completes_of (b := !s.pollMatches x m v) (f := fun s => s.runLate ⟨true, l, n, .poll x m v, c, args⟩ x)
    (by rw [exec_pollUntilTimeout, execPollUntilTimeout, h]) (by simp [hm]) ?_
  rw [State.runLate_ticket]
  exact settle_timeout

theorem ticketExecTimeout_outcome (h : s.run = some ⟨true, l, n, (if b then .us else .poll x m v), c, args⟩) :
    Completes .ticketExecTimeout s fun t => t.get (.tkt .lastCode) 0 0 = stTimeout ∧ t.get (.tkt .lastRecord) 0 0 = n ∧
      t.tickets = s.tickets.tail ∧ t.run = none := by
  refine completes_finish (by rw [exec_ticketExecTimeout, execTicketExecTimeout, h]) ?_
  rw [State.runLate_ticket]
  exact settle_timeout

/-- Settles O57: the submission of tickets, the fetch, the journal's erase and the waits of records.  That an erase counts at its
completion, and that a mailbox ticket outside RUN completes NOT_READY at the write of GO, is the model's choice (log 16). -/
theorem ticketSubmission : Obligations.TicketSubmission := by
  unfold Obligations.TicketSubmission
  exact fun s value entryLen n c x m v ok b args l => ⟨journalEraseDone_outcome, ticketGoWrite_takes, ticketGoWrite_rejects,
    ticketGoWrite_notReady, fun hbus hs hr ht _ => ticketRingTailWrite_takes hbus hs hr ht, ticketRingTailWrite_refuses,
    ticketFetchDone_fetches, ticketFetchDone_badLength, ticketFetchDone_fails, waitUsExpiry_image, waitUsExpiry_ticket,
    pollUntilMatch_image, pollUntilTimeout_image, pollUntilTimeout_ticket, ticketExecTimeout_outcome⟩

end Sys2Proof.Machine
end

section
/-!
What tickets leave alone (R63, R65, R66): a refused ticket moves only what its completion and the journal show, an accepted one
without records also what its command does.
-/
set_option Elab.async false
namespace Sys2Proof.Machine

variable {P : Key → Bool} {Q : Part → Bool} {s0 s : State} {k : Tkt} {i : TktIn} {l : List Rec}
  {mine : Nat → List Nat → Bool} {code record counter : Nat}

/-- Every row that submits a ticket waits for the ticket's turn and processes the ticket at the front. -/
theorem exec_ticketRow {x : (Tkt → Instr) × (Nat → List Nat → Bool)} (hx : x ∈ ticketRows) :
    exec (x.1 k) s = finishIf s.ticketTurn s fun s => s.ticket k x.2 := by
  simp only [ticketRows, List.mem_cons, List.not_mem_nil, or_false] at hx
  rcases hx with rfl | rfl | rfl | rfl | rfl | rfl | rfl | rfl | rfl | rfl | rfl | rfl | rfl | rfl | rfl | rfl | rfl | rfl |
    rfl | rfl | rfl | rfl | rfl | rfl | rfl | rfl | rfl | rfl <;> rfl

-- The checks in order (R63).

/-- What every check passed means. -/
theorem State.passes_iff : s.passes k i l = true ↔ s.processes k i l = true ∧ s.admits i = true ∧
    (s.ctrTaken i.counter).keyPermits i.keyIndex i.command = true ∧
    (s.ctrTaken i.counter).ticketFault i.command i.args l = none := by
  simp [State.passes, and_assoc]

theorem State.processes_iff : s.processes k i l = true ↔
    s.inRun = true ∧ s.ticketTurn = true ∧ s.front k = some i ∧ i.form = some l := by
  simp [State.processes, and_assoc]

theorem State.admits_iff : s.admits i = true ↔ i.node = s.get (.tkt .nodeId) 0 0 ∧ s.flag (.tkt .hashFail) 0 0 = false ∧
    i.sigOk = true ∧ i.keyIndex ≤ s.get (.tkt .keys) 0 0 ∧ s.get (.tkt .ctrLast) 0 0 < i.counter ∧
    s.journalBlocked i.counter = false := by
  simp [State.admits, and_assoc]

/-- A ticket whose form is right and that fails a later check completes, with or without having taken its COUNTER. -/
theorem State.checkTicket_refused (hp : s.processes k i l = true) (h : s.passes k i l = false) :
    ∃ u code record, (u = s ∨ u = s.ctrTaken i.counter) ∧ s.checkTicket i l = u.ticketDone code record i.counter := by
  unfold State.checkTicket
  dsimp only
  split
  next => exact ⟨s, _, _, .inl rfl, rfl⟩
  next hnode =>
  split
  next => exact ⟨s, _, _, .inl rfl, rfl⟩
  next hhash =>
  split
  next => exact ⟨s, _, _, .inl rfl, rfl⟩
  next hsig =>
  split
  next => exact ⟨s, _, _, .inl rfl, rfl⟩
  next hstale =>
  split
  next => exact ⟨s, _, _, .inl rfl, rfl⟩
  next hjournal =>
  split
  next => exact ⟨s.ctrTaken i.counter, _, _, .inr rfl, rfl⟩
  next hkey =>
  split
  next => exact ⟨s.ctrTaken i.counter, _, _, .inr rfl, rfl⟩
  next hfault =>
  exfalso
  simp only [Bool.or_eq_true, Bool.not_eq_true', decide_eq_true_eq, not_or, not_lt, not_le, ne_eq, not_not,
    Bool.not_eq_false, Bool.not_eq_true] at hnode hhash hsig hstale hjournal hkey
  have hpasses : s.passes k i l = true :=
    State.passes_iff.mpr ⟨hp, State.admits_iff.mpr ⟨hnode, hhash, hsig.1, hsig.2, hstale, hjournal⟩, hkey, hfault⟩
  rw [hpasses] at h
  exact absurd h (by decide)

/-- A ticket that passes every check runs its records with its COUNTER taken. -/
theorem State.checkTicket_accepted (h : s.passes k i l = true) :
    s.checkTicket i l = (s.ctrTaken i.counter).runRecords i.command i.args 0 l := by
  obtain ⟨-, hadmits, hkey, hfault⟩ := State.passes_iff.mp h
  obtain ⟨hnode, hhash, hsig, hkeys, hctr, hjournal⟩ := State.admits_iff.mp hadmits
  unfold State.ctrTaken at hkey hfault ⊢
  simp [State.checkTicket, hnode, hhash, hsig, hkeys.not_gt, hctr.not_ge, hjournal, hkey, hfault]

-- What a ticket may change before its command acts.

section
variable (hP : ∀ k, footTicket.moves 0 k = true → P k = true) (hQ : ∀ p, footTicket.touches p = true → Q p = true)
include hP

theorem State.ctrTaken_within (hs : Reach P Q s0 s) : Reach P Q s0 (s.ctrTaken counter) := by
  refine State.set_reach ?_ (hP _ (Foot.moves_lead (by decide +kernel)))
  apply State.journalWrite_reach hs <;> intros <;> exact hP _ (Foot.moves_lead (by decide +kernel))

include hQ

theorem State.ticketDone_within (hs : Reach P Q s0 s) : Reach P Q s0 (s.ticketDone code record counter) := by
  apply State.ticketDone_reach hs
  case qtickets => exact hQ _ (by decide +kernel)
  case qrun => exact hQ _ (by decide +kernel)
  all_goals exact fun j => hP _ (Foot.moves_lead (by decide +kernel))

/-- In FAILED no row but the last of the table brings a restart. -/
theorem State.failedTicket_within (hs : Reach P Q s0 s) : Reach P Q s0 (s.failedTicket i false) := by
  have hd : ∀ code record counter, Reach P Q s0 (s.ticketDone code record counter) := fun _ _ _ =>
    State.ticketDone_within hP hQ hs
  unfold State.failedTicket
  simp only [Bool.and_false, Bool.false_and, Bool.not_false, if_true]
  split_ifs <;> exact hd ..

/-- A ticket that is refused moves only what its completion and the journal show. -/
theorem State.ticket_refused_within (hturn : s.ticketTurn = true) (hf : s.front k = some i)
    (h : i.form = none ∨ i.form = some l ∧ s.passes k i l = false) : Reach P Q s (s.ticket k mine) := by
  unfold State.ticket
  rw [hf]
  dsimp only
  split
  next =>
    split
    next => exact Reach.refl
    next => exact State.failedTicket_within hP hQ Reach.refl
  next hrun =>
    obtain hnone | ⟨hform, hpass⟩ := h
    · rw [hnone]
      exact State.ticketDone_within hP hQ Reach.refl
    · rw [hform]
      dsimp only
      split
      next =>
        have hproc : s.processes k i l = true := by
          have hin : s.inRun = true := by
            unfold State.ticketTurn at hturn
            simp only [Bool.and_eq_true, Bool.or_eq_true, decide_eq_true_eq] at hturn
            exact hturn.1.1.resolve_right hrun
          exact State.processes_iff.mpr ⟨hin, hturn, hf, hform⟩
        obtain ⟨u, code, record, hu, he⟩ := State.checkTicket_refused hproc hpass
        rw [he]
        obtain rfl | rfl := hu
        · exact State.ticketDone_within hP hQ Reach.refl
        · exact State.ticketDone_within hP hQ (State.ctrTaken_within hP Reach.refl)
      next => exact Reach.refl

end

-- What the command of an accepted ticket may change.

/-- A footprint in a list lies in their union. -/
theorem Foot.moves_join {f : Foot} {fs : List Foot} {die : Nat} {k : Key} (hf : f ∈ fs) (h : f.moves die k = true) :
    (Foot.join fs).moves die k = true := by
  unfold Foot.moves Foot.join at *
  cases hk : k.cell.kind
  all_goals
    simp only [hk, Bool.or_eq_true, Bool.and_eq_true, List.contains_eq_mem, List.mem_flatMap, decide_eq_true_eq] at h ⊢
    grind

theorem Foot.touches_join {f : Foot} {fs : List Foot} {p : Part} (hf : f ∈ fs) (h : f.touches p = true) :
    (Foot.join fs).touches p = true := by
  simp only [Foot.touches, Foot.join, Bool.or_eq_true, List.contains_eq_mem, List.mem_flatMap, decide_eq_true_eq] at h ⊢
  exact h.imp_right fun h => ⟨f, hf, h⟩

/-- A command without records moves what its footprint names. -/
theorem State.act_within {cmd : Nat} {args : List Nat} {f : Foot} (hf : footAct cmd = some f) :
    Reach (f.moves 0) f.touches s (s.act cmd args) := by
  unfold footAct at hf
  split at hf
  case h_12 => cases hf
  case h_13 =>
    cases hf
    have he : s.act cmd args = s := by
      unfold State.act
      split <;> simp_all
    rw [he]
    exact Reach.refl
  case' h_1 => cases hf; apply State.actShift_reach Reach.refl
  case' h_2 => cases hf; apply State.actProtection_reach Reach.refl
  case' h_3 => cases hf; apply State.actEdit_reach Reach.refl
  case' h_4 => cases hf; apply State.actRekey_reach Reach.refl
  case' h_5 => cases hf; apply State.actKickstand_reach Reach.refl
  case' h_6 => cases hf; apply State.ksLeave_reach Reach.refl
  case' h_7 => cases hf; apply State.actClearSec_reach Reach.refl
  case' h_8 => cases hf; apply State.actBlow_reach Reach.refl
  case' h_9 => cases hf; apply State.actRelease_reach Reach.refl
  case' h_10 => cases hf; apply State.actReclaim_reach Reach.refl
  case' h_11 => cases hf; apply State.actSvn_reach Reach.refl
  all_goals
    intros
    with_reducible first
    | exact Foot.moves_lead (by decide +kernel)
    | exact Foot.moves_every (by decide +kernel)
    | exact Foot.moves_anyKind rfl (by decide +kernel)
    | decide +kernel

/-- An accepted ticket without records moves what its completion, the journal and its command name. -/
theorem State.ticket_accepted_within {f : Foot} (h : s.passes k i [] = true) (hf : footAct i.command = some f) :
    Reach ((Foot.join [footTicket, f]).moves 0) (Foot.join [footTicket, f]).touches s (s.ticket k mine) := by
  obtain ⟨hproc, -⟩ := State.passes_iff.mp h
  obtain ⟨hrun, -, hfront, hform⟩ := State.processes_iff.mp hproc
  have hticket : ∀ k, footTicket.moves 0 k = true → (Foot.join [footTicket, f]).moves 0 k = true := fun k =>
    Foot.moves_join (by simp)
  have hparts : ∀ p, footTicket.touches p = true → (Foot.join [footTicket, f]).touches p = true := fun p =>
    Foot.touches_join (by simp)
  unfold State.ticket
  rw [hfront]
  dsimp only
  have hst : s.bootState ≠ bootFailed := by
    intro hb
    simp [State.inRun, hb, bootFailed, bootRun] at hrun
  rw [if_neg hst, hform]
  dsimp only
  split
  next =>
    rw [State.checkTicket_accepted h]
    have hdone := State.ticketDone_within hticket hparts (code := stAccepted) (record := noRecord)
      (counter := (s.ctrTaken i.counter).get (.tkt .ctrLast) 0 0) (State.ctrTaken_within (s := s) (counter := i.counter) hticket Reach.refl)
    exact hdone.trans ((State.act_within hf).mono (fun k => Foot.moves_join (by simp)) fun p => Foot.touches_join (by simp))
  next => exact Reach.refl

/-- Settles O18: refused tickets, and accepted tickets without records, stay within their footprints. -/
theorem ticketsKept : Obligations.TicketsKept := by
  unfold Obligations.TicketsKept
  intro s t m i l f x hx hfront ht
  have hsum : ∀ (g : Foot) (k : Key), k.cell.summary = true → g.moves 0 k = true := fun g k => Foot.moves_summary
  have hreports : ∀ g : Foot, g.touches .reports = true := fun g => by simp [Foot.touches]
  rw [exec_ticketRow hx] at ht
  constructor
  · intro h
    have hr : Reach (footTicket.moves 0) footTicket.touches s t := by
      unfold finishIf at ht
      split at ht
      next hturn =>
        cases ht
        exact settle_reach (State.ticket_refused_within (fun _ h => h) (fun _ h => h) hturn hfront h) (hsum _) (hreports _)
      next =>
        cases ht
        exact Reach.refl
    exact ⟨hr.cells, hr.parts⟩
  · intro h hf
    have hr : Reach ((Foot.join [footTicket, f]).moves 0) (Foot.join [footTicket, f]).touches s t := by
      unfold finishIf at ht
      split at ht
      next =>
        cases ht
        exact settle_reach (State.ticket_accepted_within h hf) (hsum _) (hreports _)
      next =>
        cases ht
        exact Reach.refl
    exact ⟨hr.cells, hr.parts⟩

end Sys2Proof.Machine
end

section
/-!
What restarts, reset pins, rail failures and tamper trips leave (R12, R46, R56, R58, R343, R427, R445, R482): outside a small
footprint a cell stays or is as after reset, and what survives a restart stays.
-/
set_option Elab.async false
namespace Sys2Proof.Machine

variable {s t u : State} {Q : Part → Bool} {k : Key}

/-- Every cell outside the restarts' footprint keeps its contents or reads as after reset; what survives a restart is kept. -/
structure State.RestartsTo (s t : State) : Prop where
  survives : ∀ k : Key, footRestart.moves 0 k = false → k.cell.survives = true → t.getK k = s.getK k
  keptOrReset : ∀ k : Key, footRestart.moves 0 k = false → t.getK k = s.getK k ∨ t.getK k = k.reset

theorem State.RestartsTo.refl : s.RestartsTo s := ⟨fun _ _ _ => rfl, fun _ _ => .inl rfl⟩

/-- What is done before or after within the footprint changes nothing of this. -/
theorem State.RestartsTo.after_reach (h : s.RestartsTo t) (hr : Reach (footRestart.moves 0) Q t u) : s.RestartsTo u :=
  ⟨fun k hk hs => (hr.cells k hk).trans (h.survives k hk hs), fun k hk => by rw [hr.cells k hk]; exact h.keptOrReset k hk⟩

theorem State.RestartsTo.of_reach (hr : Reach (footRestart.moves 0) Q s t) : s.RestartsTo t := RestartsTo.refl.after_reach hr

theorem State.RestartsTo.before_reach (hr : Reach (footRestart.moves 0) Q s t) (h : t.RestartsTo u) : s.RestartsTo u :=
  ⟨fun k hk hs => (h.survives k hk hs).trans (hr.cells k hk), fun k hk => by rw [← hr.cells k hk]; exact h.keptOrReset k hk⟩

/-- What a selection of cells clears reads as after reset, and the rest as before. -/
theorem State.getK_clear (p : Key → Bool) : (s.clear p).getK k = if p k then k.reset else s.getK k :=
  State.get_clear s p k.cell k.die k.idx

theorem State.restartsTo_clear : s.RestartsTo (s.clear fun k => !k.cell.survives) := by
  constructor <;> intro k _
  · intro hs
    rw [State.getK_clear, if_neg (by simp [hs])]
  · rw [State.getK_clear]
    split
    · exact .inr rfl
    · exact .inl rfl

/-- Only the cells matter. -/
theorem State.RestartsTo.of_cells (h : s.RestartsTo t) (he : u.cells = t.cells) : s.RestartsTo u := by
  have hk : ∀ k, u.getK k = t.getK k := fun k => by rw [State.getK, he, ← State.getK]
  exact ⟨fun k hm hs => (hk k).trans (h.survives k hm hs), fun k hm => by rw [hk]; exact h.keptOrReset k hm⟩

theorem State.restartsTo_diesReset : s.RestartsTo s.diesReset := by
  have hcells : s.diesReset.cells =
      ((s.clear fun k => !k.cell.survives).each (List.range 8) fun s d => s.phaseIdle d).cells := by
    simp only [State.diesReset]
  refine .of_cells (State.restartsTo_clear.after_reach (Q := fun _ => true) (State.each_reach Reach.refl fun x d hx => ?_)) hcells
  apply State.phaseIdle_reach hx <;> intros <;> exact Foot.moves_every (by decide +kernel)

/-- A cell of die 0 that the footprint names may be set. -/
theorem State.RestartsTo.set_lead (h : s.RestartsTo t) {c : Cell} (hc : footRestart.lead.contains c = true) (i v : Nat) :
    s.RestartsTo (t.set c 0 i v) :=
  h.after_reach (Q := fun _ => true) (State.set_reach Reach.refl (Foot.moves_lead hc))

theorem State.restartsTo_toStep1 : s.RestartsTo s.toStep1 := by
  unfold State.toStep1
  exact .set_lead (.set_lead State.restartsTo_diesReset (by decide +kernel) ..) (by decide +kernel) ..

theorem State.restartsTo_restart : s.RestartsTo s.restart := by
  unfold State.restart
  exact .set_lead (.set_lead (.set_lead State.restartsTo_diesReset (by decide +kernel) ..) (by decide +kernel) ..)
    (by decide +kernel) ..

theorem State.restartsTo_restartOrHold : s.RestartsTo s.restartOrHold := by
  unfold State.restartOrHold
  split
  · exact State.restartsTo_restart
  · exact .set_lead State.restartsTo_toStep1 (by decide +kernel) ..

theorem State.restartsTo_powerCut (reason : Nat) : s.RestartsTo (s.powerCut reason) := by
  unfold State.powerCut State.diesOff
  have hoff : s.RestartsTo (s.toStep1.set (.ao .powerOff) 0 0 1) := .set_lead State.restartsTo_toStep1 (by decide +kernel) ..
  exact hoff.after_reach (Q := fun _ => true) (State.each_reach Reach.refl fun x d hx => by
    apply State.gaspQueue_reach hx <;> intros <;>
      with_reducible first
      | exact Foot.moves_every (by decide +kernel)
      | exact Foot.moves_lead (by decide +kernel)
      | rfl)

theorem State.restartsTo_pkgWake (src bell : Nat) : s.RestartsTo (s.pkgWake src bell) := by
  unfold State.pkgWake
  exact State.restartsTo_restart.after_reach (Q := fun _ => true) (by
    apply State.wakeInfo_reach
    · apply State.tbFromAo_reach Reach.refl <;> intros <;> exact Foot.moves_lead (by decide +kernel)
    all_goals exact fun i => Foot.moves_lead (by decide +kernel))

/-- A rail or sensor of the Lantern: its condition lies in the footprint. -/
theorem footRestart_alarm {a : Alm} (h : a ∈ railAlm ++ hvAlm ++ tamperAlm) (i : Nat) :
    footRestart.moves 0 ⟨.sticky a, 0, i⟩ = true ∧ footRestart.moves 0 ⟨.live a, 0, i⟩ = true := by
  have hall : ∀ a ∈ railAlm ++ hvAlm ++ tamperAlm,
      footRestart.lead.contains (.sticky a) = true ∧ footRestart.lead.contains (.live a) = true := by decide +kernel
  exact ⟨Foot.moves_lead (hall a h).1, Foot.moves_lead (hall a h).2⟩

theorem tamperAlm_alarm (n : Nat) : tamperAlm.getD n .aoTamperMesh ∈ railAlm ++ hvAlm ++ tamperAlm := by
  by_cases hr : n < 4
  · exact List.mem_append_right _ (tamperAlm_mem hr)
  · rw [List.getD_eq_default _ _ (by simpa [tamperAlm] using hr)]
    decide

/-- A step for each element of a list stays where each element's does. -/
theorem State.each_reach_mem {α : Type} {P : Key → Bool} {l : List α} {f : State → α → State} {s0 s : State} (h : Reach P Q s0 s)
    (hf : ∀ x, ∀ a ∈ l, Reach P Q s0 x → Reach P Q s0 (f x a)) : Reach P Q s0 (s.each l f) := by
  unfold State.each
  induction l generalizing s with
  | nil => exact h
  | cons a l ih => exact ih (hf s a (by simp) h) fun x b hb => hf x b (by simp [hb])

-- The commands.

theorem State.RestartsTo.settle (h : s.RestartsTo t) : s.RestartsTo (settle u t) :=
  h.after_reach (Q := fun _ => true) (settle_reach Reach.refl (fun _ => Foot.moves_summary) rfl)

theorem restartsTo_finish (hu : s.RestartsTo u) (h : finish s u = .next t) : s.RestartsTo t := by
  unfold finish at h
  rw [← Host.Outcome.next.inj h]
  exact hu.settle

/-- A conditional command keeps to it when its effect does. -/
theorem restartsTo_finishIf {b : Bool} {f : State → State} (hf : s.RestartsTo (f s)) (h : finishIf b s f = .next t) :
    s.RestartsTo t := by
  unfold finishIf at h
  split at h
  · exact restartsTo_finish hf h
  · rw [← Host.Outcome.next.inj h]
    exact State.RestartsTo.refl

theorem sysRstLow_restartsTo (h : exec .sysRstLow s = .next t) : s.RestartsTo t := by
  rw [exec_sysRstLow, execSysRstLow] at h
  exact restartsTo_finish (.set_lead (.set_lead State.restartsTo_toStep1 (by decide +kernel) ..) (by decide +kernel) ..) h

theorem sysRstRise_restartsTo (h : exec .sysRstRise s = .next t) : s.RestartsTo t := by
  refine restartsTo_finishIf ?_ (exec_sysRstRise.symm.trans h)
  dsimp only
  set v := (s.set (.sys .sysRstN) 0 0 1).when (decide ((s.set (.sys .sysRstN) 0 0 1).get (.sys .jtagIr) 0 0 = 3))
    fun s => s.set (.sys .jtagIr) 0 0 0 with hv
  have hpins : Reach (footRestart.moves 0) (fun _ => true) s v :=
    State.when_reach (State.set_reach Reach.refl (Foot.moves_lead (by decide +kernel))) fun x hx =>
      State.set_reach hx (Foot.moves_lead (by decide +kernel))
  split
  · exact State.RestartsTo.before_reach hpins State.restartsTo_restart
  · exact State.RestartsTo.of_reach hpins

theorem restartWaitExpiry_restartsTo (h : exec .restartWaitExpiry s = .next t) : s.RestartsTo t := by
  refine restartsTo_finishIf ?_ (exec_restartWaitExpiry.symm.trans h)
  exact State.restartsTo_restart.after_reach (Q := fun _ => true) (State.raise_reach Reach.refl
    (fun _ => Foot.moves_lead (by decide +kernel)) (fun _ => Foot.moves_lead (by decide +kernel)) rfl)

theorem railFail_restartsTo {rail : Nat} {b : Bool} (h : exec (.railFail rail b) s = .next t) : s.RestartsTo t := by
  refine restartsTo_finishIf ?_ ((exec_railFail b).symm.trans h)
  dsimp only
  have hmem : railAlm.getD rail .pgVio ∈ railAlm ++ hvAlm ++ tamperAlm := by
    by_cases hr : rail < 9
    · exact List.mem_append_left _ (List.mem_append_left _ (railAlm_mem hr))
    · rw [List.getD_eq_default _ _ (by simpa [railAlm] using hr)]
      decide
  have hbad : Reach (footRestart.moves 0) (fun _ => true) s (s.railBad (railAlm.getD rail .pgVio)) :=
    State.railBad_reach Reach.refl (fun _ => Foot.moves_lead (by decide +kernel)) (fun i => (footRestart_alarm hmem i).1)
      (fun i => (footRestart_alarm hmem i).2) rfl
  split
  · exact State.RestartsTo.of_reach hbad
  · exact State.RestartsTo.before_reach hbad (State.restartsTo_powerCut _)

theorem railRecovered_restartsTo (h : exec .railRecovered s = .next t) : s.RestartsTo t := by
  refine restartsTo_finishIf ?_ (exec_railRecovered.symm.trans h)
  dsimp only
  set v := (s.each (railAlm ++ hvAlm) fun s a => s.lower a 0 0).clampSet false with hv
  have hgood : Reach (footRestart.moves 0) (fun _ => true) s v := by
    apply State.clampSet_reach
    · exact State.each_reach_mem Reach.refl fun x a ha hx => State.lower_reach hx
        (fun i => (footRestart_alarm (List.mem_append_left _ ha) i).2) rfl
    all_goals
      intros
      with_reducible first
      | exact Foot.moves_every (by decide +kernel)
      | exact Foot.moves_lead (by decide +kernel)
      | rfl
  split
  · exact State.RestartsTo.before_reach hgood State.restartsTo_restartOrHold
  · unfold State.railWake
    dsimp only
    split
    · exact State.RestartsTo.before_reach hgood (State.restartsTo_pkgWake ..)
    · exact State.RestartsTo.of_reach hgood

theorem tamperTrip_restartsTo {sensor : Nat} (h : exec (.tamperTrip sensor) s = .next t) : s.RestartsTo t := by
  refine restartsTo_finishIf ?_ (exec_tamperTrip.symm.trans h)
  dsimp only
  have hmem := tamperAlm_alarm sensor
  have htrip : Reach (footRestart.moves 0) (fun _ => true) s (s.raise (tamperAlm.getD sensor .aoTamperMesh) 0 0) :=
    State.raise_reach Reach.refl (fun i => (footRestart_alarm hmem i).1) (fun i => (footRestart_alarm hmem i).2) rfl
  split
  · exact State.RestartsTo.of_reach htrip
  · refine State.RestartsTo.before_reach (Q := fun _ => true) ?_ (State.restartsTo_powerCut _)
    exact State.set_reach (State.set_reach htrip (Foot.moves_lead (by decide +kernel))) (Foot.moves_lead (by decide +kernel))

theorem tamperHoldExpiry_restartsTo {still : Nat} (h : exec (.tamperHoldExpiry still) s = .next t) : s.RestartsTo t := by
  refine restartsTo_finishIf ?_ (exec_tamperHoldExpiry.symm.trans h)
  dsimp only
  set v := s.each (List.range 4) _ with hv
  have hread : Reach (footRestart.moves 0) (fun _ => true) s v := State.each_reach Reach.refl fun x k hx => by
    have hmem : tamperAlm.getD k .aoTamperMesh ∈ railAlm ++ hvAlm ++ tamperAlm := tamperAlm_alarm k
    exact State.cond_reach hx (fun i => (footRestart_alarm hmem i).1) (fun i => (footRestart_alarm hmem i).2) rfl
  split
  · exact State.RestartsTo.before_reach (State.inc_reach hread fun _ => Foot.moves_lead (by decide +kernel))
      State.restartsTo_restartOrHold
  · exact State.RestartsTo.of_reach (State.set_reach hread (Foot.moves_lead (by decide +kernel)))

/-- Each of the commands that reset, in its turn. -/
theorem resetCmd_restartsTo {c : Instr} (hc : resetCmd c = true) (h : exec c s = .next t) : s.RestartsTo t := by
  unfold resetCmd at hc
  split at hc
  · exact sysRstLow_restartsTo h
  · exact sysRstRise_restartsTo h
  · exact restartWaitExpiry_restartsTo h
  · exact railRecovered_restartsTo h
  · exact railFail_restartsTo h
  · exact tamperTrip_restartsTo h
  · exact tamperHoldExpiry_restartsTo h
  · exact absurd hc (by decide)

-- The loss of VDD_AO (R46, R427, R445).

theorem Cell.survives_of_outlastsAo {c : Cell} (h : c.outlastsAo = true) : c.survives = true ∧ idleKeeps c = true := by
  unfold Cell.outlastsAo at h
  split at h
  · exact ⟨rfl, rfl⟩
  · simp only [Bool.and_eq_true] at h
    exact ⟨h.2, rfl⟩
  · exact ⟨h, rfl⟩
  · exact ⟨h, rfl⟩
  · exact absurd h (by decide)

theorem State.getK_aoLost (hk : k.cell ≠ .sys .aoOn) : s.aoLost.getK k = if k.cell.outlastsAo then s.getK k else k.reset := by
  obtain ⟨c, d, i⟩ := k
  have hset : s.aoLost.get c d i = (s.diesReset.clear fun k => !k.cell.outlastsAo).get c d i := State.get_set_cell _ hk ..
  rw [State.getK, ← State.get, hset, State.get_clear]
  cases ho : c.outlastsAo
  · simp
  · obtain ⟨hs, hi⟩ := Cell.survives_of_outlastsAo ho
    simp only [Bool.not_true, Bool.false_eq_true, if_false, if_true]
    exact State.diesReset_survives hi hs ..

theorem vddAoLoss_cells (h : exec .vddAoLoss s = .next t) (hsum : k.cell.summary = false) (hk : k.cell ≠ .sys .aoOn) :
    t.getK k = if s.flag (.sys .aoOn) 0 0 ∧ k.cell.outlastsAo = false then k.reset else s.getK k := by
  rw [exec_vddAoLoss, execVddAoLoss, finishIf] at h
  split at h
  next hon =>
    rw [finish] at h
    rw [← Host.Outcome.next.inj h]
    have hsettle : (settle s s.aoLost).getK k = s.aoLost.getK k := get_settle_of hsum k.die k.idx
    rw [hsettle, State.getK_aoLost hk]
    cases k.cell.outlastsAo <;> simp [hon]
  next hoff =>
    rw [← Host.Outcome.next.inj h]
    simp [hoff]

/-- Settles O19: what a restart, a reset pin, a failed rail, a tamper trip or the loss of VDD_AO leaves.  What survives a restart
(`Cell.survives`) is the model's choice (log 17). -/
theorem restartsKept : Obligations.RestartsKept := by
  unfold Obligations.RestartsKept
  refine fun c s t k => ⟨fun hc h hk =>
    ⟨(resetCmd_restartsTo hc h).survives k hk, (resetCmd_restartsTo hc h).keptOrReset k hk⟩, fun h hsum ho => ?_, fun h hsum hon ho hk => ?_⟩
  · rw [vddAoLoss_cells h hsum (by rintro e; simp [e, Cell.outlastsAo] at ho)]
    simp [ho]
  · rw [vddAoLoss_cells h hsum hk]
    simp [hon, ho]

end Sys2Proof.Machine
end
